-- ==== Sys2Proof/Word.lean ====
section
/-! DEFINITION. The widths the spec names and the plainest arithmetic over them. -/
namespace Sys2Proof

/-- One byte. -/
abbrev Byte := BitVec 8

/-- The 4,096 data bytes of one LBA (R151, R239), byte 0 in the low bits. -/
abbrev LbaData := BitVec 32768

/-- Host metadata and protection information of one LBA, zero-filled to 16 bytes (R244). -/
abbrev HostMeta := BitVec 128

/-- The payload of one flash codeword: 4,096 stored bytes, then the 64-byte metadata area (R239). -/
abbrev Payload := BitVec 33280

/-- ceil (a / b) on naturals; 0 when b is 0. -/
def ceilDiv (a b : Nat) : Nat := (a + b - 1) / b

/-- 2 to the power n. -/
def pow2 (n : Nat) : Nat := 2 ^ n

end Sys2Proof
end

