-- ==== Sys2Proof/Syntax.lean ====
section
/-! DEFINITION. The commands of the block: one constructor of `Instr` for each row of spec/opcode_table.json, with the
row's operands. What the hardware observes while a row happens (whether a codeword decodes, what a sensor reads,
whether a signature verifies) is an operand; rows that happen at a moment carry it as `t`, in nanoseconds since
PORST_N was released. -/
namespace Sys2Proof

/-! ### Names -/

/-- A PCIe port (R54). -/
inductive Port where | a | b
  deriving DecidableEq, Repr

/-- A function: a manager or an instance (R60, R61). -/
inductive Func where
  | pf0 | pf1
  | inst (n : Fin 1024)
  deriving DecidableEq, Repr

/-- The accessors of the dictionary (R432). -/
inductive Accessor where
  | pf0 | pf1 | port
  | inst (n : Fin 1024)
  deriving DecidableEq, Repr

/-- Roles of a media cell, codes 0 to 4 and 7 of R35. -/
inductive Role where | spare | host | reclaim | rebuild | scrub | fenced
  deriving DecidableEq, Repr

/-- Producers of work items, with the node that fixes their quadrant (R14, R21). -/
inductive Producer where
  | hostFrontA | hostFrontB | mgmt
  | channelGroup (g : Fin 16)
  deriving DecidableEq, Repr

/-- The command a host queue entry belongs to: function, submission queue (0 is admin) and command identifier. -/
structure Hdr where
  fn : Func
  sqid : Nat
  cid : Nat
  deriving DecidableEq, Repr

/-- A lock register identity (R269); it names an agent too (R49). -/
structure LockId where
  gen : Nat
  fnCode : Nat
  op : Nat
  cls : Nat
  index : Nat
  deriving DecidableEq, Repr

/-- A visible Shuttle channel (R306). -/
structure ShuttleId where
  port : Port
  ch : Fin 16
  deriving DecidableEq, Repr

/-- Operations of the LDPC lane of a cell (R12). -/
inductive LdpcOp where | hardDecode | softDecode | encode
  deriving DecidableEq, Repr

/-- A work item (R14, R16): its role queue, its producer's tag, the operation of the LDPC lane it names if any (R12), the
function and fence generation it was made for (R76), the host command it serves, and the cell faults it has met (R42). -/
structure WorkItem where
  role : Role
  prod : Producer
  tag : Nat
  ldpc : Option LdpcOp
  fn : Option Func
  gen : Nat
  cmd : Option Hdr
  faults : Nat
  deriving DecidableEq, Repr

/-- What the decoder of one beat finds (R30). -/
inductive BeatErr where | clean | corrected (lane : Fin 4) | uncorrectable (lane : Fin 4)
  deriving DecidableEq, Repr

/-- Message classes of the fabric, one virtual channel each (R25). -/
inductive VClass where | request | response | data | control
  deriving DecidableEq, Repr

/-- Who hears how a fabric request ends (R32). -/
inductive Consumer where
  | cell (c : Fin 96)
  | shuttle (id : ShuttleId)
  | hostFront (h : Hdr)
  | other
  deriving DecidableEq, Repr

/-- A fabric packet (R24, R27): source and destination node, class, tag of the request it belongs to, data beats,
age, whether its payload is poisoned (R30), who asked, and the agent it is sent for, where it holds other resources
(R49). -/
structure Packet where
  srcX : Fin 12
  srcY : Fin 10
  dstX : Fin 12
  dstY : Fin 10
  vc : VClass
  tag : Nat
  beats : Fin 9
  age : Fin 256
  poisoned : Bool
  origin : Consumer
  agent : Option LockId
  deriving DecidableEq, Repr

/-- Messages of the configuration plane (R34). -/
inductive CfgMsg where
  | clock (mhz : Nat)
  | power (on : Bool)
  | role (c : Fin 96) (r : Role)
  | drain (c : Fin 96)
  | fence (c : Fin 96)
  | ready
  | temps (c : Int)
  deriving DecidableEq, Repr

/-- Where an uncorrectable word was found: the rows of R260. -/
inductive BadWord where
  | cellSram (c : Fin 96) (address : Nat)
  | mgmtSram (address : Nat)
  | keyRam (slot : Fin 4096) (address : Nat)
  | aonSram (address : Nat)
  | dramMap (channel : Fin 4) (address nsid segment : Nat)
  | dramSlot (channel : Fin 4) (address slot : Nat) (lbas : List (Fin 4))
  | dramReadBuffer (channel : Fin 4) (address read : Nat)
  | dramDigest (channel : Fin 4) (address nsid zone : Nat)
  | dramJournal (channel : Fin 4) (address : Nat)
  | dramDirty (channel : Fin 4) (address : Nat) (n : Fin 1024) (nsid word : Nat)
  deriving DecidableEq, Repr

/-- Loop states of R461, coded as 0x2720.01 codes them. -/
inductive LoopState where | normal | openLoop | short | reversed
  deriving DecidableEq, Repr

/-- How a device read of host memory ends (R115). -/
inductive ReadEnd where | ok | unsupportedRequest | completerAbort | poisoned
  deriving DecidableEq, Repr

/-! ### Boot operands -/

/-- A die profile as discovery finds it (R212, R216); times in ns, powers in mW. -/
structure DieProfile where
  classId : Fin 4
  planes : Nat
  blocks : Nat
  pages : Nat
  slcPages : Nat
  dataBytes : Nat
  spareBytes : Nat
  tR : Nat
  tProg : Nat
  tSlc : Nat
  tErase : Nat
  tSusp : Nat
  suspend : Bool
  readSuspendedBlock : Bool
  maxRate : Fin 6
  pRead : Nat
  pProg : Nat
  pErase : Nat
  pIdle : Nat
  deriving DecidableEq, Repr

/-- What discovery finds at one LUN position (R216). -/
inductive LunFound where
  | present (p : DieProfile) (factoryBad : List Nat)
  | unsupported
  | noProfile
  deriving DecidableEq, Repr

/-- How a channel trains (R213): step 2 passes, and the narrowest common window of each extended attempt, in steps. -/
structure ChannelTraining where
  basic : Bool
  eyes : List Nat
  targets : Nat
  deriving DecidableEq, Repr

/-- How a DRAM channel trains (R332): ranks that answer, and for each byte lane, ten a rank, the narrower of its windows in each
attempt. -/
structure DramTraining where
  ranks : Nat
  lanes : List (List Nat)
  deriving DecidableEq, Repr

/-- One candidate copy that the ROM tries (R458): slot, copy, and whether checks 1 to 5 of R360 pass on it. -/
structure Candidate where
  slot : Nat
  copy : Nat
  pass : Bool
  deriving DecidableEq, Repr

/-- Causes of CRYPTO_HALT (R474), with the algorithm row for cause 1. -/
inductive HaltCause where
  | islandTest (row : Nat)
  | entropyStartup
  | repetition
  | proportion
  | drbg
  deriving DecidableEq, Repr

/-- What the boot chain of R457 and the start-up of R45 observe. -/
structure BootEnv where
  islandFail : Option HaltCause
  presLoop : LoopState
  sealLoop : LoopState
  candidates : List Candidate
  cellFails : List (Fin 96)
  sramFails : List (Fin 96)
  domainFails : List (Fin 56)
  luns : List (Fin 4096 × LunFound)
  channels : List (Fin 64 × ChannelTraining)
  dram : List (Fin 4 × DramTraining)
  badPages : List Nat
  badReservations : List Nat
  systemBlocksOk : Bool
  testImage : Bool
  deriving DecidableEq, Repr

/-! ### Data pointers of I/O commands (R112 to R114) -/

/-- An SGL descriptor as read from host memory, with how its read ended. -/
inductive SglDesc where
  | dataBlock (address len : Nat)
  | bitBucket (len : Nat)
  | segment (len : Nat)
  | lastSegment (len : Nat)
  | other (type : Nat)
  | unread (e : ReadEnd)
  deriving DecidableEq, Repr

/-- The data pointer of a command. -/
inductive DataPtr where
  | prp (prp1 prp2 : Nat) (list : List Nat)
  | sgl (data metadata : List SglDesc)
  deriving DecidableEq, Repr

/-- A submission queue entry as fetched: its command identifier, whether it is one of a fused pair (R104), and its data
pointer; a pointer with PSDT other than 0 is an SGL (R112). -/
structure Sqe where
  cid : Nat
  fused : Bool
  dptr : DataPtr
  deriving DecidableEq, Repr

/-! ### I/O operands -/

/-- Operands common to commands over an LBA range: NSID, SLBA and NLB (0-based). -/
structure Range where
  nsid : Nat
  slba : Nat
  nlb : Nat
  deriving DecidableEq, Repr

/-- The protection information field of a command, as NVM Express defines it (R151): PRACT, the three checks, and the
command's tags as one number. -/
structure PrInfo where
  pract : Bool
  guard : Bool
  app : Bool
  ref : Bool
  tags : Nat
  deriving DecidableEq, Repr

/-- Operands of Write and Zone Append: data and host metadata of each LBA, in LBA order. -/
structure WriteArgs where
  range : Range
  fua : Bool
  dtype : Nat
  dspec : Nat
  keyTag : Option Nat
  data : List LbaData
  metas : List HostMeta
  prinfo : PrInfo
  deriving DecidableEq, Repr

/-- Operands of Read, Compare and Verify; `expect` and `expectMetas` are the host data and metadata of a Compare. -/
structure ReadArgs where
  range : Range
  fua : Bool
  keyTag : Option Nat
  expect : List LbaData
  expectMetas : List HostMeta
  prinfo : PrInfo
  deriving DecidableEq, Repr

/-- One source range of a Copy: namespace, SLBA and NLB (0-based). -/
structure CopyRange where
  slba : Nat
  nlb : Nat
  deriving DecidableEq, Repr

/-- Operands of Copy (R101). -/
structure CopyArgs where
  nsid : Nat
  sdlba : Nat
  format : Nat
  ranges : List CopyRange
  deriving DecidableEq, Repr

/-! ### Admin operands -/

/-- Operands of Create I/O Completion Queue and Create I/O Submission Queue (R84, R85). -/
structure QueueArgs where
  qid : Nat
  qsize : Nat
  pc : Bool
  ien : Bool
  prp1 : Nat
  cqid : Nat
  qprio : Nat
  deriving DecidableEq, Repr

/-- The vendor creation word of R153, field by field. -/
structure CreationWord where
  maxOpen : Nat
  maxActive : Nat
  stripeData : Nat
  qParity : Bool
  contract : Bool
  cipherMode : Nat
  keyMode : Bool
  digest : Bool
  noCoalesce : Bool
  blockVer : Nat
  deriving DecidableEq, Repr

/-- Operands of Namespace Management create (R154). -/
structure NsArgs where
  csi : Nat
  nsze : Nat
  ncap : Nat
  flbas : Nat
  dps : Nat
  handles : List Nat
  word : CreationWord
  deriving DecidableEq, Repr

/-- A key blob as received: header fields of R286, and what unwrap finds. `keyId` names the key material
symbolically; `halvesEqual` is the check of R470. -/
structure KeyBlob where
  format : Nat
  kind : Nat
  wrap : Nat
  target : Nat
  keyTag : Nat
  length : Nat
  icvOk : Bool
  headerMatch : Bool
  halvesEqual : Bool
  keyId : Nat
  deriving DecidableEq, Repr

/-- A firmware image header (R357). -/
structure ImageHeader where
  magic : Nat
  format : Nat
  part : Nat
  svn : Nat
  major : Nat
  minor : Nat
  build : Nat
  version : Nat
  bodyLen : Nat
  imageLen : Nat
  flags : Nat
  deriving DecidableEq, Repr

/-- What checks 3, 4 and 5 of R360 find on an image. -/
structure ImageChecks where
  digests : Bool
  ecdsa : Bool
  mlDsa : Bool
  deriving DecidableEq, Repr

/-- A dictionary record (R441). -/
structure DictRec where
  index : Nat
  sub : Nat
  type : Nat
  length : Nat
  value : Nat
  deriving DecidableEq, Repr

/-- A Staing read request header (R441): address and IN_FORCE. -/
structure ReadReq where
  index : Nat
  sub : Nat
  inForce : Bool
  deriving DecidableEq, Repr

/-- A block that a self-test samples (R352): its place, the fail bits of its codewords, and whether one left step 1 of
R246. -/
structure SampleEnd where
  lun : Fin 4096
  block : Nat
  failBits : List Nat
  left : Bool
  deriving DecidableEq, Repr

/-- Who asks for a commit or a discard (R437). -/
inductive CommitBy where
  | admin (h : Hdr)
  | object (acc : Accessor)
  | staing
  deriving DecidableEq, Repr

/-- The state image of R482, field by field. -/
structure ImageHead where
  magic : Nat
  part : Nat
  format : Nat
  flags : Nat
  fwMinor : Nat
  fwMajor : Nat
  length : Nat
  queues : Nat
  fenceGen : Nat
  srcInstance : Nat
  saveSeq : Nat
  srcTag : Nat
  digestOk : Bool
  deriving DecidableEq, Repr

/-- A queue record of R482. -/
structure QueueRec where
  qid : Nat
  sqValid : Bool
  cqValid : Bool
  sqBase : Nat
  cqBase : Nat
  sqSize : Nat
  cqSize : Nat
  sqTail : Nat
  sqHead : Nat
  cqTail : Nat
  cqHead : Nat
  cqid : Nat
  qprio : Nat
  cqPhase : Bool
  deriving DecidableEq, Repr

/-- An asynchronous event (R87 and the notices the spec names). -/
inductive AsyncEvent where
  | invalidDoorbellRegister
  | invalidDoorbellValue
  | spareBelowThreshold
  | firmwareActivationStarting
  | zoneDescriptorChanged
  | namespaceAttributeChanged
  | fdpEvent
  deriving DecidableEq, Repr

/-! ### Die, code and cipher operands -/

/-- How one codeword read ends at the step it is at (R246): `fails` marks a decode that failed, with the unsatisfied
checks left; a decode that succeeds gives its fail bits and whether MCRC matched (R245). -/
inductive DecodeEnd where
  | decoded (failBits : Nat) (mcrcOk : Bool)
  | failed (unsatisfied : Nat)
  deriving DecidableEq, Repr

/-- A cipher core: a cell core, or island core 0 or 1 (R267). -/
inductive Core where
  | cell (c : Fin 96)
  | island (i : Fin 2)
  deriving DecidableEq, Repr

/-- A digest core: a cell's, or a bank of the island core (R290, R301). -/
inductive DigestCore where
  | cell (c : Fin 96)
  | islandK
  | islandM
  deriving DecidableEq, Repr

/-- The 16-bit result of the comparator (R299), as its two bytes. -/
structure ComparePair where
  hit : Byte
  missN : Byte
  deriving DecidableEq, Repr

/-- A saved digest context (R296). -/
structure SavedDigest where
  crcOk : Bool
  zgen : Nat
  format : Nat
  alg : Nat
  block : List Byte
  count : Nat
  h : List (BitVec 32)
  deriving DecidableEq, Repr

/-- A key cache tag (R285). -/
inductive KeyRef where
  | nsKey (slot kid : Nat)
  | zoneKey (slot kid zslba epoch : Nat)
  | kpio (nsidx tag : Nat)
  deriving DecidableEq, Repr

/-! ### Shuttle operands -/

/-- A descriptor as the engine read it (R309). -/
structure ShuttleDesc where
  own : Bool
  wantRec : Bool
  srcSpace : Nat
  dstSpace : Nat
  count : Nat
  tag : Nat
  src : Nat
  dst : Nat
  deriving DecidableEq, Repr

/-- Who takes buffers of a pool (R323). -/
inductive Holder where
  | fn (f : Func)
  | reclaim
  | rebuild
  | scrub
  | journal
  deriving DecidableEq, Repr

/-! ### Staing operands -/

/-- A UDP datagram that reached the device (R451, R453). -/
structure Datagram where
  srcLinkLocal : Bool
  dstDevice : Bool
  udpPort : Nat
  payloadLen : Nat
  magic : Nat
  version : Nat
  kind : Nat
  op : Nat
  length : Nat
  seq : Nat
  arg : Nat
  tagPair : ComparePair
  bodyWhole : Bool
  bodyId : Nat
  deriving DecidableEq, Repr

/-- An IPv6 frame that asks for an answer (R449). -/
structure IpFrame where
  toDevice : Bool
  fragment : Bool
  extension : Bool
  checksumOk : Bool
  deriving DecidableEq, Repr

/-- States of the management pair (R450). -/
inductive PairState where | normal | openWire | shortPair | shortGnd | shortVolt
  deriving DecidableEq, Repr

/-- Classes of PWRFAIL_N (R505). -/
inductive PwrfailClass where | high | low | openPin | shortHigh
  deriving DecidableEq, Repr

/-- States of the remote diode (R507). -/
inductive DiodeState where | normal | openPins | short
  deriving DecidableEq, Repr

/-- Debug token as received (R468): scope, and whether its signature verifies over the outstanding challenge. -/
structure DebugToken where
  scope : Nat
  challenge : Nat
  signatureOk : Bool
  deriving DecidableEq, Repr

/-! ### Which chunk reaches the scheduler (R131) -/

inductive ChunkOf where
  | host (h : Hdr)
  | background (id : Nat)
  deriving DecidableEq, Repr

/-- A DRAM request (R336, R338): read, or write of bytes from the low byte up. -/
inductive DramOp where
  | read (address len : Nat)
  | write (address : Nat) (bytes : List Byte)
  deriving DecidableEq, Repr

/-- What the byte-symbol decoder found in the words of a DRAM burst (R258, R259): for each word with nonzero
syndrome, the device positions it names, and whether it is beyond correction. -/
structure DramErrors where
  words : List (Fin 16 × Fin 10)
  uncorrectable : List (Fin 16)
  again : List (Fin 16)
  deriving DecidableEq, Repr

/-! ### The commands -/

/-- One constructor per row of spec/opcode_table.json, in the table's order. -/
inductive Instr where
  | porstRelease (e : BootEnv)
  | porstAssert (lowNs : Nat)
  | brownOut
  | validBitGranuleFill
  | workItemPost (w : WorkItem)
  | workItemRepost (p : Producer) (tag : Nat)
  | cellWorkTake (c : Fin 96)
  | workItemResult (c : Fin 96) (p : Producer) (tag : Nat) (ok : Bool)
  | sequencerWatchdogExpiry (c : Fin 96)
  | cellSramUncorrectable (w : BadWord)
  | linkUnpark (d : Fin 56)
  | fabricPacket (x : Fin 12) (y : Fin 10) (inPort : Fin 6) (p : Packet) (errs : List BeatErr)
  | laneSpare (x : Fin 12) (y : Fin 10) (port : Fin 4) (lane : Fin 4)
  | fabricAccept (tag : Nat)
  | fabricTimeout (tag t : Nat)
  | configPlaneMessage (d : Fin 56) (m : CfgMsg) (airing : Bool) (failedAcks : Nat)
  | cellDrained (c : Fin 96)
  | perstAssert (p : Port)
  | hotReset (p : Port)
  | linkDown (p : Port) (t : Nat)
  | linkTrained (p : Port) (rate width : Nat) (flit laneRev polInv : Bool)
  | functionLevelResetVf (n : Fin 1024)
  | functionLevelResetPf (p : Port)
  | nvmSubsystemReset
  | fenceComplete (f : Func)
  | vfEnableSet (p : Port)
  | vfEnableClear (p : Port)
  | numVfsWrite (p : Port) (n : Nat)
  | ccEnSet (f : Func) (wrr : Bool) (mps asqs acqs asq acq : Nat)
  | ccEnClearInstance (n : Fin 1024)
  | ccEnClearManager (p : Port)
  | secondaryOnline (h : Hdr) (cntlid rt nr : Nat)
  | secondaryOffline (h : Hdr) (cntlid rt nr : Nat)
  | secondaryAssign (h : Hdr) (cntlid rt nr : Nat)
  | primaryFlexibleAllocation (h : Hdr) (rt nr : Nat)
  | ownerTakeover (acc : Accessor) (nsid t : Nat)
  | maxRateWrite (acc : Accessor) (rate : Nat)
  | createIoCompletionQueue (h : Hdr) (a : QueueArgs)
  | createIoSubmissionQueue (h : Hdr) (a : QueueArgs)
  | deleteIoCompletionQueue (h : Hdr) (qid : Nat)
  | deleteIoSubmissionQueue (h : Hdr) (qid : Nat)
  | sqTailDoorbell (f : Func) (qid value : Nat)
  | cqHeadDoorbell (f : Func) (qid value : Nat)
  | commandFetch (entries : List Sqe)
  | overlapEntryGrant
  | completionPost (h : Hdr)
  | waitingEntryPost (f : Func) (cqid : Nat)
  | summaryLineWrite (f : Func)
  | instanceSummaryWrite (p : Port) (upper : Bool)
  | flush (h : Hdr) (nsid : Nat)
  | write (h : Hdr) (a : WriteArgs)
  | read (h : Hdr) (a : ReadArgs)
  | writeUncorrectable (h : Hdr) (r : Range)
  | compare (h : Hdr) (a : ReadArgs)
  | writeZeroes (h : Hdr) (r : Range) (deac : Bool)
  | datasetManagement (h : Hdr) (nsid : Nat) (deallocate : Bool) (ranges : List Range)
  | verify (h : Hdr) (r : Range) (p : PrInfo)
  | copy (h : Hdr) (a : CopyArgs)
  | zoneAppend (h : Hdr) (a : WriteArgs)
  | reclaimUnitHandleUpdate (h : Hdr) (nsid : Nat) (pids : List Nat)
  | reclaimUnitHandleStatus (h : Hdr) (nsid numd : Nat)
  | zoneClose (h : Hdr) (nsid slba : Nat) (all : Bool)
  | zoneFinish (h : Hdr) (nsid slba : Nat) (all : Bool)
  | zoneOpen (h : Hdr) (nsid slba : Nat) (all : Bool)
  | zoneReset (h : Hdr) (nsid slba : Nat) (all : Bool)
  | zoneOffline (h : Hdr) (nsid slba : Nat) (all : Bool)
  | secureReset (h : Hdr) (nsid slba : Nat) (all : Bool)
  | reportZones (h : Hdr) (nsid slba filter : Nat) (part : Bool) (numd : Nat)
  | zoneDigestReport (h : Hdr) (nsid slba filter : Nat) (part : Bool) (numd : Nat)
  | abort (h : Hdr) (sqid cid : Nat)
  | asynchronousEventRequest (h : Hdr)
  | getLogPage (h : Hdr) (lid offset nsid numd : Nat) (rae : Bool)
  | samplerWindowLog (h : Hdr) (advance : Bool) (offset numd : Nat)
  | identify (h : Hdr) (cns nsid cntid csi : Nat)
  | getFeatures (h : Hdr) (fid sel nsid dw11 : Nat)
  | setArbitration (h : Hdr) (sv : Bool) (burst lpw mpw hpw : Nat)
  | setPowerManagement (h : Hdr) (sv : Bool) (ps wh : Nat)
  | setTemperatureThreshold (h : Hdr) (sv : Bool) (under : Bool) (kelvin : Nat)
  | setErrorRecovery (h : Hdr) (sv : Bool) (tler : Nat) (dulbe : Bool)
  | setVolatileWriteCache (h : Hdr) (sv : Bool) (wce : Bool)
  | setNumberOfQueues (h : Hdr) (sv : Bool) (nsqr ncqr : Nat)
  | setInterruptCoalescing (h : Hdr) (sv : Bool) (dw11 : Nat)
  | setInterruptVectorConfiguration (h : Hdr) (sv : Bool) (iv : Nat) (cd : Bool)
  | setWriteAtomicityNormal (h : Hdr) (sv : Bool) (dn : Bool)
  | setAsyncEventConfiguration (h : Hdr) (sv : Bool) (dw11 : Nat)
  | setAutonomousPowerStateTransition (h : Hdr) (sv : Bool) (enable : Bool) (table : List (Nat × Nat))
  | setTimestamp (h : Hdr) (sv : Bool) (ms : Nat)
  | setFdp (h : Hdr) (sv : Bool) (enable : Bool) (config : Nat)
  | setFdpEvents (h : Hdr) (sv : Bool) (enable : Bool) (types : List Nat)
  | setCompletionSummaryLine (h : Hdr) (sv : Bool) (en : Bool) (address delay : Nat)
  | setInstanceSummary (h : Hdr) (sv : Bool) (en : Bool) (address delay : Nat)
  | setSecureDiscard (h : Hdr) (sv : Bool) (nsid : Nat) (en : Bool)
  | namespaceCreate (h : Hdr) (a : NsArgs)
  | namespaceDelete (h : Hdr) (nsid : Nat)
  | namespaceAttach (h : Hdr) (nsid : Nat) (ctrls : List Nat)
  | namespaceDetach (h : Hdr) (nsid : Nat) (ctrls : List Nat)
  | formatNvm (h : Hdr) (nsid flbas dps : Nat)
  | firmwareImageDownload (h : Hdr) (offset bytes : Nat) (header : Option ImageHeader)
  | firmwareCommitReplace (h : Hdr) (slot : Nat) (c : ImageChecks)
  | firmwareCommitReplaceActivateReset (h : Hdr) (slot : Nat) (c : ImageChecks)
  | firmwareCommitActivateReset (h : Hdr) (slot : Nat) (c : ImageChecks)
  | firmwareCommitActivateNow (h : Hdr) (slot : Nat) (c : ImageChecks)
  | imageSwitch
  | deviceSelfTestShort (h : Hdr) (nsid : Nat)
  | deviceSelfTestExtended (h : Hdr) (nsid : Nat)
  | deviceSelfTestAbort (h : Hdr)
  | selfTestStep (segmentDone failed : Bool) (samples : List SampleEnd) (cellFail : Option (Fin 96)) (halt : Option HaltCause)
  | sanitizeExitFailureMode (h : Hdr)
  | sanitizeBlockErase (h : Hdr) (freezeAbort ndas emvs ause : Bool)
  | sanitizeCryptoErase (h : Hdr) (freezeAbort ndas emvs ause : Bool)
  | sanitizeEnd (failed : Bool)
  | dictionaryRead (h : Hdr) (index sub : Nat) (inForce : Bool) (count buflen : Nat)
  | dictionaryWrite (h : Hdr) (len : Nat) (recs : List DictRec) (cellFails : List (Fin 96))
  | commit (by' : CommitBy) (cellFails : List (Fin 96))
  | discard (by' : CommitBy)
  | objectWrite (acc : Accessor) (r : DictRec) (cellFails : List (Fin 96))
  | restoreDefaults (acc : Accessor) (on : Bool)
  | freezeInstance (h : Hdr) (n : Nat)
  | freezeDrainTimeout (n : Fin 1024)
  | freezeComplete (n : Fin 1024)
  | saveInstanceState (h : Hdr) (n : Nat)
  | restoreInstanceState (h : Hdr) (n : Nat)
  | resumeInstance (h : Hdr) (n : Nat)
  | dirtyEnWrite (acc : Accessor) (n : Fin 1024) (on : Bool)
  | dirtyBitsRead (acc : Accessor) (n : Fin 1024)
  | framePlannedEnd (t late : Nat)
  | lateWorkHandover (t : Nat)
  | frameBoundary (t : Nat)
  | chunkAdmit (c : ChunkOf)
  | progAgePromote (lun : Fin 4096) (op : Nat)
  | operationIssue (t : Nat)
  | operationReady (lun : Fin 4096) (ok : Bool) (t : Nat)
  | readyTimeout (lun : Fin 4096) (resetReady : Bool) (t : Nat)
  | channelPhyFault (ch : Fin 64)
  | suspendReported (lun : Fin 4096) (suspended : Bool) (t : Nat)
  | suspendTimeout (lun : Fin 4096) (resetReady : Bool) (t : Nat)
  | readAroundReconstruct (rd : Nat) (ok : Bool) (payloads : List Payload)
  | contractWindowEnd (n : Fin 1024) (measured : Nat)
  | channelRecentre (ch : Fin 64) (celsius : Int) (window : Nat)
  | zoneAgeExpiry (nsid zone t : Nat)
  | reclaimUnitTimeLimit (ruh group t : Nat)
  | secureEraseDue (lun : Fin 4096) (block : Nat) (ok : Bool) (t : Nat)
  | mergeWaitExpiry (slot t : Nat)
  | unitProgramDone (slot : Nat)
  | programFailure (slot : Nat)
  | journalTimerExpiry (t : Nat)
  | journalPageDurable (seq : Nat)
  | journalCopyFailure (seq : Nat) (copy : Fin 2) (blockLeft : Bool)
  | checkpointPass (nsid segment t : Nat)
  | segmentCopyDurable (nsid segment : Nat)
  | foldStart
  | mangleStart (group : Nat)
  | targetStripeComplete (stripe : Nat)
  | targetProgramFailure (stripe : Nat) (member : Nat)
  | sourceStripeErase (stripe : Nat)
  | eraseFailure (lun : Fin 4096) (block : Nat)
  | spareAdd (acc : Accessor) (count : Nat)
  | secureDiscardDue (stripe t : Nat)
  | stripeClose (stripe : Nat)
  | memberReplaced (stripe : Nat) (member : Nat)
  | codewordDecode (rd : Nat) (cw : Fin 4) (e : DecodeEnd)
  | rinseStep (lun : Fin 4096) (block : Nat) (failBits : List Nat) (leftStep1 : Bool) (t : Nat)
  | disturbCountReached (lun : Fin 4096) (block : Nat)
  | fullPassWrite (acc : Accessor) (on : Bool)
  | sramScrub (mem : Fin 4) (address : Nat) (bad : List (Fin 80))
  | logClear (acc : Accessor)
  | dramRequest (op : DramOp) (errs : DramErrors)
  | dramTimeout (ch : Fin 4)
  | dramRecentre (ch : Fin 4) (rank : Fin 4) (celsius : Int) (window : Nat) (retrainOk : Bool) (t : Nat)
  | refreshDue (ch : Fin 4) (rank : Fin 4) (t : Nat)
  | refreshPostponeLimit (ch : Fin 4) (rank : Fin 4) (t : Nat)
  | mr4Poll (ch : Fin 4) (hot : Bool)
  | dramPatrol (ch : Fin 4) (address : Nat) (errs : DramErrors)
  | cipherLockClaim (k : Core) (id : LockId)
  | cipherRequestSteer (c : Fin 96) (id : LockId)
  | cipherMessageDone (k : Core) (rd : Option Nat) (tag : ComparePair)
  | maskReseed (k : Core) (blocks : Nat) (reseeded : Bool)
  | counterReservationDurable (slot : Fin 4096)
  | keyCacheFill (c : Fin 96) (k : KeyRef) (firstOk secondOk : Bool)
  | keySlotReload (slot : Fin 4096) (copyReadable : Bool)
  | importTransportKek (h : Hdr) (b : KeyBlob)
  | setNamespaceKey (h : Hdr) (b : KeyBlob)
  | generateNamespaceKey (h : Hdr) (nsid : Nat)
  | destroyTransportKek (h : Hdr) (index : Nat)
  | keyStatusReceive (h : Hdr) (nsid : Nat)
  | keyPerIoInject (h : Hdr) (b : KeyBlob)
  | keyPerIoClear (h : Hdr) (nsid tag : Nat)
  | keyEraseDue (slot : Fin 4096) (t : Nat)
  | digestStart (k : DigestCore) (alg : Nat) (hmac : Bool) (key : Option (List Byte))
  | digestFeed (k : DigestCore) (bytes : List Byte)
  | digestFinish (k : DigestCore)
  | digestRead (k : DigestCore)
  | digestCompare (k : DigestCore) (expected : List Byte) (len : Nat)
  | digestSave (k : DigestCore) (nsid zone : Nat)
  | digestRestore (k : DigestCore) (nsid zone : Nat) (saved : SavedDigest)
  | shuttleTailWrite (c : ShuttleId) (v : Nat)
  | shuttleEnable (c : ShuttleId) (ringBase recordAddr ringLog2 : Nat)
  | shuttleDisable (c : ShuttleId)
  | shuttlePauseWrite (c : ShuttleId) (on : Bool)
  | shuttleClear (c : ShuttleId)
  | descriptorRead (c : ShuttleId) (d : ShuttleDesc) (e : ReadEnd)
  | descriptorDone (c : ShuttleId) (bytes : List Byte)
  | shuttlePaused (c : ShuttleId) (bytes : List Byte)
  | shuttleHalt (c : ShuttleId) (code : Nat) (bytes : List Byte)
  | bufferAllocate (pool : Fin 16) (h : Holder) (agent : Option LockId) (linkOk : Bool)
  | referenceIncrement (pool : Fin 16) (buf : Nat) (f : Func)
  | referenceDecrement (pool : Fin 16) (buf : Nat) (f : Option Func) (fence : Bool)
  | bufferWaitServed (pool : Fin 16)
  | domainStopRequest (d : Fin 56)
  | domainStopped (d : Fin 56)
  | domainRefusal (d : Fin 56)
  | sleepEntryStart (t : Nat)
  | refusalHoldExpiry (t : Nat)
  | apstIdleExpiry (p : Port) (t : Nat)
  | pcieActivityWake (p : Port) (ranks : List (Fin 4 × DramTraining))
  | wakeFrame (magicOk : Bool) (serial : Nat) (ranks : List (Fin 4 × DramTraining))
  | managementFrameWake (d : Option Datagram)
  | airingStep (t : Nat) (skipped : List (Fin 4)) (failBits : List (Nat × Nat × Bool)) (readable : Bool)
  | samplerBufferWake (ranks : List (Fin 4 × DramTraining))
  | pwrfailAssert (lowUs : Nat) (t : Nat)
  | dumpComplete (us : Nat)
  | pwrfailReturn
  | sensorReading (t : Nat) (temps : List Int) (diode : DiodeState) (tenths : Int)
  | holdupSenseSample (mv : Nat)
  | pwrfailClassify (c : PwrfailClass) (t : Nat)
  | recordEnter (code subject domain : Nat) (params : List Nat)
  | rateBucketRefill (code t : Nat)
  | samplerFlush
  | samplerFlushTimer (t : Nat)
  | samplerFlushDone (fails : List Nat)
  | windowSlotRead (acc : Accessor) (slot : Fin 16)
  | cursorAdvance (acc : Accessor)
  | samplerClear (acc : Accessor)
  | staingDatagram (d : Datagram)
  | staingRead (seq : Nat) (reqs : List ReadReq)
  | staingWrite (seq : Nat) (recs : List DictRec) (cellFails : List (Fin 96))
  | staingEcho (seq : Nat)
  | neighborSolicitation (f : IpFrame)
  | echoRequest (f : IpFrame)
  | pairDiagnosis (st : PairState) (wire vFault : Nat) (reversed : Bool) (t : Nat)
  | loopMeasurement (t presFwd presRev sealFwd sealRev : Nat)
  | presenceWindowExpiry (t : Nat)
  | factoryEntry (h : Hdr)
  | rootKeyReset (h : Hdr)
  | debugChallenge (h : Hdr)
  | debugUnlock (h : Hdr) (k : DebugToken)
  | managementKeyProvisioning (h : Hdr) (b : KeyBlob)
  | entropySample (bit : Bool)
  | drbgReseed (ok : Bool)
  | hostMemoryReadCompletion (h : Hdr) (e : ReadEnd)
  | completionTimeout (h : Hdr)
  | shutdownNotification (f : Func)
  | invalidCommandOpcode (h : Hdr) (opcode action : Nat)
  deriving DecidableEq, Repr

end Sys2Proof
end

