-- ==== Sys2Proof/Config.lean ====
section
/-! DEFINITION. What an implementation fixes and the spec leaves open. Each constant has no body: nothing in Lean
can evaluate it or prove a value of it, so a statement about the model holds for every value. -/
namespace Sys2Proof.Config

/-- The n-th value that the hardware draws and the spec does not state (log entry 1). -/
opaque freeNat : Nat → Nat

/-- The n-th LBA of data that the spec calls unpredictable (R273, R287; log entry 1). -/
opaque freeData : Nat → LbaData

/-- What a counter object holds after an increment past its width: object key, then count so far (log entry 3). -/
opaque counterWrap : Nat → Nat → Nat

/-- Objects 0x7000 to 0x7FFF, described only in the Epmin file (R446): key to value, absent where it names none. -/
opaque diagObject : Nat → Option Nat

/-- SHA-256 of the Epmin file built with the running image (R447), as a number. -/
opaque epminDigest : Nat

/-- SERIAL, 20 characters, and MODEL, 40 characters, as factory-written (0x1000.01, 0x1000.02), little-endian. -/
opaque serial : Nat
opaque model : Nat

/-- PCI_IDS (0x1000.04) and MAC_ADDR (0x1100.01) as factory-written. -/
opaque pciIds : Nat
opaque macAddr : Nat

/-- VERSION, MAJOR.MINOR.BUILD text of the factory image of slot 1, little-endian ASCII. -/
opaque factoryVersion : Nat

/-- MINOR and BUILD of the factory image of slot 1 (R511 states only MAJOR 1). -/
opaque factoryMinor : Nat
opaque factoryBuild : Nat

/-- Body of the factory image of slot 1, in 4 KiB. -/
opaque factoryBody : Nat

/-- Security version of the factory image of slot 1; the spec gives none. -/
opaque factorySvn : Nat

/-- Protection information that a write with PRACT stores for an LBA: type plus 8 times the LBA format, data, LBA, the
command's tags; NVM Express defines it and the spec does not restate it (R151). -/
opaque piMake : Nat → LbaData → Nat → Nat → HostMeta

/-- What the checks of NVM Express find in an LBA's protection information: type plus 8 times the LBA format, which checks,
data, LBA, what is stored; 0 nothing, 1 the guard, 2 the application tag, another number the reference tag (R151). -/
opaque piCheck : Nat → PrInfo → LbaData → Nat → HostMeta → Nat

/-- The rated program-erase cycles of a die profile, by class (R350); the spec gives no figure. -/
opaque ratedCycles : Nat → Nat

/-- DRAM channel that holds a write-buffer slot, of so many active channels (R331); the spec places no pool in DRAM. -/
opaque slotChannel : Nat → Nat → Nat

/-- Address of a buffer of a pool (R322); the spec places no pool. -/
opaque bufferAddr : Nat → Nat → Nat

/-- CAP.TO of NVM Express, 8 bits; the spec gives no figure (log entry 137). -/
opaque capTimeout : Fin 256

/-- Whether a refresh that may be postponed while reads wait is postponed (R340), by draw. -/
opaque postpones : Nat → Bool

/-- Key slot that a word of key RAM belongs to, by its address (R257); the spec lays no key RAM out (log entry 14). -/
opaque keyRamSlot : Nat → Fin 4096

end Sys2Proof.Config
end

