-- ==== Sys2Proof/Machine/Obj.lean ====
section
/-! DEFINITION. The object dictionary as a table: one row for each object row of the spec's object lists, with its
address range, type, rights, default, apply class, persistence and plain range (R430 to R435). -/
namespace Sys2Proof.Machine

/-- Types of R431. -/
inductive ObjTy where | u8 | u16 | u32 | u64 | i32 | bool | enum | octets | string | time64
  deriving DecidableEq, Repr

/-- Rights a role holds on an object (R433). -/
inductive Right where | none | r | w | rw
  deriving DecidableEq, Repr

def Right.canRead : Right → Bool
  | .r => true
  | .rw => true
  | .w => false
  | .none => false

def Right.canWrite : Right → Bool
  | .w => true
  | .rw => true
  | .r => false
  | .none => false

/-- Rights by role (R432). -/
structure Rights where
  manager : Right
  inst : Right
  port : Right
  presence : Right
  factory : Right
  deriving DecidableEq, Repr

/-- Apply classes of R434; `fixed` is an Apply column of "—". -/
inductive Apply where | fixed | immediate | frame | commit | quiesce | reboot
  deriving DecidableEq, Repr

/-- Persistence classes of R435. -/
inductive Persist where | volatile | saved | factory
  deriving DecidableEq, Repr

/-- Where a default comes from: a number, or a table of the spec by position (R36, R129, R320). -/
inductive Dflt where
  | val (n : Nat)
  | cellRole
  | bgShare
  | poolBuf
  | poolPlace
  | poolCount
  deriving DecidableEq, Repr

/-- One row of an object list: first index, indices, first subindex, subindices, and the columns. -/
structure ObjRow where
  base : Nat
  cnt : Nat
  sub : Nat
  subs : Nat
  ty : ObjTy
  len : Nat
  acc : Rights
  dflt : Dflt
  app : Apply
  per : Persist
  lo : Nat
  hi : Nat
  deriving DecidableEq, Repr

/-- 0x2800.01 LAYOUT_ID. -/
def Obj.layoutId : ObjRow :=
  ⟨0x2800, 1, 1, 1, .u32, 4, ⟨.r, .none, .r, .none, .none⟩, .val 1, .fixed, .saved, 0, 4294967295⟩

/-- 0x2800.02 CELLS_ACTIVE. -/
def Obj.cellsActive : ObjRow :=
  ⟨0x2800, 1, 2, 1, .u8, 1, ⟨.r, .none, .r, .none, .none⟩, .val 0, .fixed, .volatile, 0, 255⟩

/-- 0x2800.03 CELLS_FENCED. -/
def Obj.cellsFenced : ObjRow :=
  ⟨0x2800, 1, 3, 1, .u8, 1, ⟨.r, .none, .r, .none, .none⟩, .val 0, .fixed, .volatile, 0, 255⟩

/-- 0x2800.04 AUTO_PROMOTE. -/
def Obj.autoPromote : ObjRow :=
  ⟨0x2800, 1, 4, 1, .bool, 1, ⟨.rw, .none, .rw, .none, .none⟩, .val 1, .immediate, .saved, 0, 1⟩

/-- 0x2800.05 FABRIC_TIMEOUT. -/
def Obj.fabricTimeout : ObjRow :=
  ⟨0x2800, 1, 5, 1, .u32, 4, ⟨.rw, .none, .rw, .none, .none⟩, .val 20, .reboot, .saved, 5, 200⟩

/-- 0x2800.07 LANES_SPARED. -/
def Obj.lanesSpared : ObjRow :=
  ⟨0x2800, 1, 7, 1, .u16, 2, ⟨.r, .none, .r, .none, .none⟩, .val 0, .fixed, .saved, 0, 65535⟩

/-- 0x2800.08 DERATE_PCT. -/
def Obj.deratePct : ObjRow :=
  ⟨0x2800, 1, 8, 1, .u8, 1, ⟨.r, .r, .r, .none, .none⟩, .val 100, .fixed, .volatile, 0, 255⟩

/-- 0x28nn.01 CELL_ROLE. -/
def Obj.cellRole : ObjRow :=
  ⟨0x2810, 96, 1, 1, .enum, 1, ⟨.rw, .none, .rw, .none, .none⟩, .cellRole, .commit, .saved, 0, 7⟩

/-- 0x28nn.02 CELL_STATE. -/
def Obj.cellState : ObjRow :=
  ⟨0x2810, 96, 2, 1, .enum, 1, ⟨.r, .none, .r, .none, .none⟩, .val 0, .fixed, .volatile, 0, 255⟩

/-- 0x28nn.03 FENCE_COUNT. -/
def Obj.fenceCount : ObjRow :=
  ⟨0x2810, 96, 3, 1, .u8, 1, ⟨.r, .none, .r, .none, .rw⟩, .val 0, .immediate, .saved, 0, 255⟩

/-- 0x28nn.04 FENCE_REASON. -/
def Obj.fenceReason : ObjRow :=
  ⟨0x2810, 96, 4, 1, .enum, 1, ⟨.r, .none, .r, .none, .none⟩, .val 0, .fixed, .saved, 0, 255⟩

/-- 0x28nn.05 SRAM_CE. -/
def Obj.sramCe : ObjRow :=
  ⟨0x2810, 96, 5, 1, .u32, 4, ⟨.r, .none, .r, .none, .none⟩, .val 0, .fixed, .volatile, 0, 4294967295⟩

/-- 0x2100.01 PORT_MODE. -/
def Obj.portMode : ObjRow :=
  ⟨0x2100, 1, 1, 1, .enum, 1, ⟨.rw, .none, .rw, .none, .none⟩, .val 0, .reboot, .saved, 0, 1⟩

/-- 0x2100.02 VF_SPLIT_A. -/
def Obj.vfSplitA : ObjRow :=
  ⟨0x2100, 1, 2, 1, .u16, 2, ⟨.rw, .none, .rw, .none, .none⟩, .val 512, .reboot, .saved, 0, 1024⟩

/-- 0x2100.03 VQ_SPLIT_A. -/
def Obj.vqSplitA : ObjRow :=
  ⟨0x2100, 1, 3, 1, .u16, 2, ⟨.rw, .none, .rw, .none, .none⟩, .val 4064, .reboot, .saved, 0, 8128⟩

/-- 0x2100.04 MAX_RATE. -/
def Obj.maxRate : ObjRow :=
  ⟨0x2100, 1, 4, 1, .enum, 1, ⟨.rw, .none, .rw, .none, .none⟩, .val 6, .immediate, .saved, 3, 6⟩

/-- 0x2100.05 REFCLK_MODE. -/
def Obj.refclkMode : ObjRow :=
  ⟨0x2100, 1, 5, 1, .enum, 1, ⟨.rw, .none, .rw, .none, .none⟩, .val 0, .reboot, .saved, 0, 1⟩

/-- 0x2100.06 LINK_A_STATUS. -/
def Obj.linkAStatus : ObjRow :=
  ⟨0x2100, 1, 6, 1, .u32, 4, ⟨.r, .none, .r, .none, .none⟩, .val 0, .fixed, .volatile, 0, 4294967295⟩

/-- 0x2100.07 LINK_B_STATUS. -/
def Obj.linkBStatus : ObjRow :=
  ⟨0x2100, 1, 7, 1, .u32, 4, ⟨.r, .none, .r, .none, .none⟩, .val 0, .fixed, .volatile, 0, 4294967295⟩

/-- 0x2100.08 OWNER_TAKEOVER. -/
def Obj.ownerTakeover : ObjRow :=
  ⟨0x2100, 1, 8, 1, .u32, 4, ⟨.w, .none, .none, .none, .none⟩, .val 0, .immediate, .volatile, 0, 4294967295⟩

/-- 0x2100.09 TAKEOVER_DELAY. -/
def Obj.takeoverDelay : ObjRow :=
  ⟨0x2100, 1, 9, 1, .u32, 4, ⟨.rw, .none, .rw, .none, .none⟩, .val 10000, .immediate, .saved, 1000, 600000⟩

/-- 0x2100.0A INSTANCES_ONLINE. -/
def Obj.instancesOnline : ObjRow :=
  ⟨0x2100, 1, 10, 1, .u16, 2, ⟨.r, .none, .r, .none, .none⟩, .val 0, .fixed, .volatile, 0, 65535⟩

/-- 0x2100.0B FLEX_FREE_A. -/
def Obj.flexFreeA : ObjRow :=
  ⟨0x2100, 1, 11, 1, .u16, 2, ⟨.r, .none, .r, .none, .none⟩, .val 0, .fixed, .volatile, 0, 65535⟩

/-- 0x2100.0C FLEX_FREE_B. -/
def Obj.flexFreeB : ObjRow :=
  ⟨0x2100, 1, 12, 1, .u16, 2, ⟨.r, .none, .r, .none, .none⟩, .val 0, .fixed, .volatile, 0, 65535⟩

/-- 0x2100.0D CTX_SHARED_FREE. -/
def Obj.ctxSharedFree : ObjRow :=
  ⟨0x2100, 1, 13, 1, .u32, 4, ⟨.r, .none, .r, .none, .none⟩, .val 0, .fixed, .volatile, 0, 4294967295⟩

/-- 0x4nnn.01 INST_STATE. -/
def Obj.instState : ObjRow :=
  ⟨0x4000, 1024, 1, 1, .enum, 1, ⟨.r, .r, .r, .none, .none⟩, .val 0, .fixed, .volatile, 0, 255⟩

/-- 0x4nnn.02 INST_PORT. -/
def Obj.instPort : ObjRow :=
  ⟨0x4000, 1024, 2, 1, .enum, 1, ⟨.r, .r, .r, .none, .none⟩, .val 0, .fixed, .volatile, 0, 255⟩

/-- 0x4nnn.03 FENCE_GEN. -/
def Obj.fenceGen : ObjRow :=
  ⟨0x4000, 1024, 3, 1, .u16, 2, ⟨.r, .none, .r, .none, .none⟩, .val 0, .fixed, .volatile, 0, 65535⟩

/-- 0x4nnn.04 QP_ALLOW. -/
def Obj.qpAllow : ObjRow :=
  ⟨0x4000, 1024, 4, 1, .u8, 1, ⟨.rw, .r, .rw, .none, .none⟩, .val 1, .commit, .saved, 1, 64⟩

/-- 0x4nnn.05 CTX_RESERVED. -/
def Obj.ctxReserved : ObjRow :=
  ⟨0x4000, 1024, 5, 1, .u16, 2, ⟨.rw, .r, .rw, .none, .none⟩, .val 32, .commit, .saved, 32, 4096⟩

/-- 0x4nnn.06 CTX_MAX. -/
def Obj.ctxMax : ObjRow :=
  ⟨0x4000, 1024, 6, 1, .u16, 2, ⟨.rw, .r, .rw, .none, .none⟩, .val 4096, .commit, .saved, 32, 16384⟩

/-- 0x4nnn.07 BASKET_MIN. -/
def Obj.basketMin : ObjRow :=
  ⟨0x4000, 1024, 7, 1, .u16, 2, ⟨.rw, .r, .rw, .none, .none⟩, .val 8, .commit, .saved, 2, 1024⟩

/-- 0x4nnn.08 RESET_COUNT. -/
def Obj.resetCount : ObjRow :=
  ⟨0x4000, 1024, 8, 1, .u32, 4, ⟨.r, .none, .r, .none, .none⟩, .val 0, .fixed, .volatile, 0, 4294967295⟩

/-- 0x4nnn.09 LAST_RESET. -/
def Obj.lastReset : ObjRow :=
  ⟨0x4000, 1024, 9, 1, .enum, 1, ⟨.r, .r, .r, .none, .none⟩, .val 0, .fixed, .volatile, 0, 255⟩

/-- 0x2100.10 OVERLAP_FREE. -/
def Obj.overlapFree : ObjRow :=
  ⟨0x2100, 1, 16, 1, .u32, 4, ⟨.r, .none, .r, .none, .none⟩, .val 0, .fixed, .volatile, 0, 4294967295⟩

/-- 0x2100.11 ISUM_ADDR_A. -/
def Obj.isumAddrA : ObjRow :=
  ⟨0x2100, 1, 17, 1, .u64, 8, ⟨.r, .none, .r, .none, .none⟩, .val 0, .fixed, .volatile, 0, 18446744073709551615⟩

/-- 0x2100.12 ISUM_ADDR_B. -/
def Obj.isumAddrB : ObjRow :=
  ⟨0x2100, 1, 18, 1, .u64, 8, ⟨.r, .none, .r, .none, .none⟩, .val 0, .fixed, .volatile, 0, 18446744073709551615⟩

/-- 0x4nnn.10 SUMLINE_ADDR. -/
def Obj.sumlineAddr : ObjRow :=
  ⟨0x4000, 1024, 16, 1, .u64, 8, ⟨.r, .r, .r, .none, .none⟩, .val 0, .fixed, .volatile, 0, 18446744073709551615⟩

/-- 0x4nnn.11 SUMLINE_SEQ. -/
def Obj.sumlineSeq : ObjRow :=
  ⟨0x4000, 1024, 17, 1, .u64, 8, ⟨.r, .r, .r, .none, .none⟩, .val 0, .fixed, .volatile, 0, 18446744073709551615⟩

/-- 0x4nnn.12 CQ_FULL_WAITS. -/
def Obj.cqFullWaits : ObjRow :=
  ⟨0x4000, 1024, 18, 1, .u32, 4, ⟨.r, .r, .r, .none, .none⟩, .val 0, .fixed, .volatile, 0, 4294967295⟩

/-- 0x4nnn.13 OVERLAP_WAITS. -/
def Obj.overlapWaits : ObjRow :=
  ⟨0x4000, 1024, 19, 1, .u32, 4, ⟨.r, .r, .r, .none, .none⟩, .val 0, .fixed, .volatile, 0, 4294967295⟩

/-- 0x4nnn.14 DTE_COUNT. -/
def Obj.dteCount : ObjRow :=
  ⟨0x4000, 1024, 20, 1, .u32, 4, ⟨.r, .r, .r, .none, .none⟩, .val 0, .fixed, .volatile, 0, 4294967295⟩

/-- 0x4nnn.15 SGL_REFUSED. -/
def Obj.sglRefused : ObjRow :=
  ⟨0x4000, 1024, 21, 1, .u32, 4, ⟨.r, .r, .r, .none, .none⟩, .val 0, .fixed, .volatile, 0, 4294967295⟩

/-- 0x2200.01 FRAME_US. -/
def Obj.frameUs : ObjRow :=
  ⟨0x2200, 1, 1, 1, .u16, 2, ⟨.rw, .none, .rw, .none, .none⟩, .val 50, .frame, .saved, 20, 500⟩

/-- 0x2200.02 FRAME_COUNT. -/
def Obj.frameCount : ObjRow :=
  ⟨0x2200, 1, 2, 1, .u64, 8, ⟨.r, .none, .r, .none, .none⟩, .val 0, .fixed, .volatile, 0, 18446744073709551615⟩

/-- 0x2200.03 GRID_LAG. -/
def Obj.gridLag : ObjRow :=
  ⟨0x2200, 1, 3, 1, .u32, 4, ⟨.r, .none, .r, .none, .none⟩, .val 0, .fixed, .volatile, 0, 4294967295⟩

/-- 0x2200.04 OVERRUNS. -/
def Obj.overruns : ObjRow :=
  ⟨0x2200, 1, 4, 1, .u32, 4, ⟨.r, .none, .r, .none, .none⟩, .val 0, .fixed, .volatile, 0, 4294967295⟩

/-- 0x2200.05 SLOTS_SKIPPED. -/
def Obj.slotsSkipped : ObjRow :=
  ⟨0x2200, 1, 5, 1, .u32, 4, ⟨.r, .none, .r, .none, .none⟩, .val 0, .fixed, .volatile, 0, 4294967295⟩

/-- 0x2200.06 READ_CAP. -/
def Obj.readCap : ObjRow :=
  ⟨0x2200, 1, 6, 1, .u32, 4, ⟨.r, .none, .r, .none, .none⟩, .val 1280000, .fixed, .volatile, 0, 4294967295⟩

/-- 0x2200.07 WRITE_CAP. -/
def Obj.writeCap : ObjRow :=
  ⟨0x2200, 1, 7, 1, .u32, 4, ⟨.r, .none, .r, .none, .none⟩, .val 200000, .fixed, .volatile, 0, 4294967295⟩

/-- 0x2200.08 CARRY_FRAMES. -/
def Obj.carryFrames : ObjRow :=
  ⟨0x2200, 1, 8, 1, .u8, 1, ⟨.rw, .none, .rw, .none, .none⟩, .val 2, .frame, .saved, 1, 8⟩

/-- 0x2200.09 PROG_AGE. -/
def Obj.progAge : ObjRow :=
  ⟨0x2200, 1, 9, 1, .u8, 1, ⟨.rw, .none, .rw, .none, .none⟩, .val 40, .frame, .saved, 4, 200⟩

/-- 0x2200.10 TOKEN_POOL. -/
def Obj.tokenPool : ObjRow :=
  ⟨0x2200, 1, 16, 1, .u32, 4, ⟨.r, .none, .r, .none, .none⟩, .val 0, .fixed, .volatile, 0, 4294967295⟩

/-- 0x2200.11 DRAM_RESERVE. -/
def Obj.dramReserve : ObjRow :=
  ⟨0x2200, 1, 17, 1, .u32, 4, ⟨.rw, .none, .rw, .none, .none⟩, .val 8000, .frame, .saved, 1000, 30000⟩

/-- 0x2200.12 TOKENS_HELD. -/
def Obj.tokensHeld : ObjRow :=
  ⟨0x2200, 1, 18, 1, .u32, 4, ⟨.r, .none, .r, .none, .none⟩, .val 0, .fixed, .volatile, 0, 4294967295⟩

/-- 0x2200.13 TOKEN_WAITS. -/
def Obj.tokenWaits : ObjRow :=
  ⟨0x2200, 1, 19, 1, .u64, 8, ⟨.r, .none, .r, .none, .none⟩, .val 0, .fixed, .volatile, 0, 18446744073709551615⟩

/-- 0x2200.20 SUSPEND_MAX. -/
def Obj.suspendMax : ObjRow :=
  ⟨0x2200, 1, 32, 1, .u8, 1, ⟨.rw, .none, .rw, .none, .none⟩, .val 4, .frame, .saved, 0, 16⟩

/-- 0x2200.21 SUSPEND_RESERVE. -/
def Obj.suspendReserve : ObjRow :=
  ⟨0x2200, 1, 33, 1, .u8, 1, ⟨.rw, .none, .rw, .none, .none⟩, .val 1, .frame, .saved, 0, 16⟩

/-- 0x2200.22 RESUME_MIN. -/
def Obj.resumeMin : ObjRow :=
  ⟨0x2200, 1, 34, 1, .u16, 2, ⟨.rw, .none, .rw, .none, .none⟩, .val 100, .frame, .saved, 20, 1000⟩

/-- 0x2200.23 SUSPEND_READS. -/
def Obj.suspendReads : ObjRow :=
  ⟨0x2200, 1, 35, 1, .u8, 1, ⟨.rw, .none, .rw, .none, .none⟩, .val 4, .frame, .saved, 1, 16⟩

/-- 0x2200.24 RA_BUDGET. -/
def Obj.raBudget : ObjRow :=
  ⟨0x2200, 1, 36, 1, .u16, 2, ⟨.rw, .none, .rw, .none, .none⟩, .val 800, .frame, .saved, 0, 2000⟩

/-- 0x2200.25 RA_MAX_WIDTH. -/
def Obj.raMaxWidth : ObjRow :=
  ⟨0x2200, 1, 37, 1, .u8, 1, ⟨.rw, .none, .rw, .none, .none⟩, .val 15, .frame, .saved, 7, 63⟩

/-- 0x2200.26 RA_COUNT. -/
def Obj.raCount : ObjRow :=
  ⟨0x2200, 1, 38, 1, .u64, 8, ⟨.r, .none, .r, .none, .none⟩, .val 0, .fixed, .volatile, 0, 18446744073709551615⟩

/-- 0x2210.01 to .08 BG_SHARES. -/
def Obj.bgShares : ObjRow :=
  ⟨0x2210, 1, 1, 8, .u16, 2, ⟨.rw, .none, .rw, .none, .none⟩, .bgShare, .commit, .saved, 0, 65535⟩

/-- 0x2600.01 MODULE_BUDGET. -/
def Obj.moduleBudget : ObjRow :=
  ⟨0x2600, 1, 1, 1, .u32, 4, ⟨.r, .none, .rw, .none, .none⟩, .val 75000, .frame, .saved, 20000, 300000⟩

/-- 0x4nnn.20 READ_SHARE. -/
def Obj.readShare : ObjRow :=
  ⟨0x4000, 1024, 32, 1, .u16, 2, ⟨.rw, .r, .rw, .none, .none⟩, .val 8, .commit, .saved, 1, 10000⟩

/-- 0x4nnn.21 WRITE_SHARE. -/
def Obj.writeShare : ObjRow :=
  ⟨0x4000, 1024, 33, 1, .u16, 2, ⟨.rw, .r, .rw, .none, .none⟩, .val 6, .commit, .saved, 1, 10000⟩

/-- 0x4nnn.22 COPY_SHARE. -/
def Obj.copyShare : ObjRow :=
  ⟨0x4000, 1024, 34, 1, .u16, 2, ⟨.rw, .r, .rw, .none, .none⟩, .val 1, .commit, .saved, 1, 10000⟩

/-- 0x4nnn.23 WITHIN_SHARE. -/
def Obj.withinShare : ObjRow :=
  ⟨0x4000, 1024, 35, 1, .bool, 1, ⟨.r, .r, .r, .none, .none⟩, .val 1, .fixed, .volatile, 0, 1⟩

/-- 0x4nnn.24 CONTRACT_BOUND. -/
def Obj.contractBound : ObjRow :=
  ⟨0x4000, 1024, 36, 1, .u16, 2, ⟨.rw, .r, .rw, .none, .none⟩, .val 0, .commit, .saved, 0, 65535⟩

/-- 0x4nnn.25 CONTRACT_PCTL. -/
def Obj.contractPctl : ObjRow :=
  ⟨0x4000, 1024, 37, 1, .enum, 1, ⟨.rw, .r, .rw, .none, .none⟩, .val 2, .commit, .saved, 0, 3⟩

/-- 0x4nnn.26 CONTRACT_Q. -/
def Obj.contractQ : ObjRow :=
  ⟨0x4000, 1024, 38, 1, .u16, 2, ⟨.r, .r, .r, .none, .none⟩, .val 0, .fixed, .volatile, 0, 65535⟩

/-- 0x4nnn.27 RA_THRESHOLD. -/
def Obj.raThreshold : ObjRow :=
  ⟨0x4000, 1024, 39, 1, .u16, 2, ⟨.rw, .r, .rw, .none, .none⟩, .val 200, .frame, .saved, 0, 10000⟩

/-- 0x4nnn.28 CONTRACT_MISS. -/
def Obj.contractMiss : ObjRow :=
  ⟨0x4000, 1024, 40, 1, .u32, 4, ⟨.r, .r, .r, .none, .none⟩, .val 0, .fixed, .volatile, 0, 4294967295⟩

/-- 0x4nnn.29 CONTRACT_MEASURED. -/
def Obj.contractMeasured : ObjRow :=
  ⟨0x4000, 1024, 41, 1, .u32, 4, ⟨.r, .r, .r, .none, .none⟩, .val 0, .fixed, .volatile, 0, 4294967295⟩

/-- 0x4nnn.2A CONTRACT_EXEMPT. -/
def Obj.contractExempt : ObjRow :=
  ⟨0x4000, 1024, 42, 1, .u32, 4, ⟨.r, .r, .r, .none, .none⟩, .val 0, .fixed, .volatile, 0, 4294967295⟩

/-- 0x2480.01 NS_COUNT. -/
def Obj.nsCount : ObjRow :=
  ⟨0x2480, 1, 1, 1, .u16, 2, ⟨.r, .none, .r, .none, .none⟩, .val 0, .fixed, .volatile, 0, 65535⟩

/-- 0x2480.02 ZONE_ACTIVE_FREE. -/
def Obj.zoneActiveFree : ObjRow :=
  ⟨0x2480, 1, 2, 1, .u16, 2, ⟨.r, .none, .r, .none, .none⟩, .val 16384, .fixed, .volatile, 0, 65535⟩

/-- 0x2480.03 COALESCE_EN. -/
def Obj.coalesceEn : ObjRow :=
  ⟨0x2480, 1, 3, 1, .bool, 1, ⟨.rw, .none, .rw, .none, .none⟩, .val 1, .immediate, .saved, 0, 1⟩

/-- 0x2480.04 COALESCE_MAX_REF. -/
def Obj.coalesceMaxRef : ObjRow :=
  ⟨0x2480, 1, 4, 1, .u16, 2, ⟨.rw, .none, .rw, .none, .none⟩, .val 1024, .frame, .saved, 2, 1024⟩

/-- 0x2480.05 COALESCED_READS. -/
def Obj.coalescedReads : ObjRow :=
  ⟨0x2480, 1, 5, 1, .u64, 8, ⟨.r, .none, .r, .none, .none⟩, .val 0, .fixed, .volatile, 0, 18446744073709551615⟩

/-- 0x2480.06 ZONE_AGE_H. -/
def Obj.zoneAgeH : ObjRow :=
  ⟨0x2480, 1, 6, 1, .u16, 2, ⟨.rw, .none, .rw, .none, .none⟩, .val 72, .frame, .saved, 1, 720⟩

/-- 0x2480.07 RU_TIME_LIMIT_H. -/
def Obj.ruTimeLimitH : ObjRow :=
  ⟨0x2480, 1, 7, 1, .u16, 2, ⟨.rw, .none, .rw, .none, .none⟩, .val 72, .frame, .saved, 1, 720⟩

/-- 0x2480.08 DIGEST_CTX. -/
def Obj.digestCtx : ObjRow :=
  ⟨0x2480, 1, 8, 1, .u32, 4, ⟨.r, .none, .r, .none, .none⟩, .val 0, .fixed, .volatile, 0, 4294967295⟩

/-- 0x2480.09 SECURE_ERASE_S. -/
def Obj.secureEraseS : ObjRow :=
  ⟨0x2480, 1, 9, 1, .u16, 2, ⟨.rw, .none, .rw, .none, .none⟩, .val 60, .frame, .saved, 10, 3600⟩

/-- 0x2480.0A SECURE_ERASE_PENDING. -/
def Obj.secureErasePending : ObjRow :=
  ⟨0x2480, 1, 10, 1, .u32, 4, ⟨.r, .none, .r, .none, .none⟩, .val 0, .fixed, .saved, 0, 4294967295⟩

/-- 0x2480.0B DIGEST_INVALID. -/
def Obj.digestInvalid : ObjRow :=
  ⟨0x2480, 1, 11, 1, .u32, 4, ⟨.r, .none, .r, .none, .none⟩, .val 0, .fixed, .saved, 0, 4294967295⟩

/-- 0x2480.0C EPOCH_EXHAUSTED. -/
def Obj.epochExhausted : ObjRow :=
  ⟨0x2480, 1, 12, 1, .u32, 4, ⟨.r, .none, .r, .none, .none⟩, .val 0, .fixed, .saved, 0, 4294967295⟩

/-- 0x2400.01 MAP_BYTES. -/
def Obj.mapBytes : ObjRow :=
  ⟨0x2400, 1, 1, 1, .u64, 8, ⟨.r, .none, .r, .none, .none⟩, .val 0, .fixed, .volatile, 0, 18446744073709551615⟩

/-- 0x2400.02 DRAM_FREE. -/
def Obj.dramFree : ObjRow :=
  ⟨0x2400, 1, 2, 1, .u64, 8, ⟨.r, .none, .r, .none, .none⟩, .val 0, .fixed, .volatile, 0, 18446744073709551615⟩

/-- 0x2400.03 DIRTY_LIMIT. -/
def Obj.dirtyLimit : ObjRow :=
  ⟨0x2400, 1, 3, 1, .u64, 8, ⟨.r, .none, .r, .none, .none⟩, .val 4294967296, .fixed, .volatile, 0, 18446744073709551615⟩

/-- 0x2400.04 WRITE_WAITS. -/
def Obj.writeWaits : ObjRow :=
  ⟨0x2400, 1, 4, 1, .u64, 8, ⟨.r, .none, .r, .none, .none⟩, .val 0, .fixed, .volatile, 0, 18446744073709551615⟩

/-- 0x2400.05 MERGE_WAIT_US. -/
def Obj.mergeWaitUs : ObjRow :=
  ⟨0x2400, 1, 5, 1, .u16, 2, ⟨.rw, .none, .rw, .none, .none⟩, .val 500, .frame, .saved, 0, 10000⟩

/-- 0x2400.06 FILL_READS. -/
def Obj.fillReads : ObjRow :=
  ⟨0x2400, 1, 6, 1, .u64, 8, ⟨.r, .none, .r, .none, .none⟩, .val 0, .fixed, .volatile, 0, 18446744073709551615⟩

/-- 0x2400.07 WRITES_LOST. -/
def Obj.writesLost : ObjRow :=
  ⟨0x2400, 1, 7, 1, .u32, 4, ⟨.r, .none, .r, .none, .none⟩, .val 0, .fixed, .saved, 0, 4294967295⟩

/-- 0x2410.01 JOURNAL_BYTES. -/
def Obj.journalBytes : ObjRow :=
  ⟨0x2410, 1, 1, 1, .u32, 4, ⟨.rw, .none, .rw, .none, .none⟩, .val 1073741824, .reboot, .saved, 268435456, 4294967295⟩

/-- 0x2410.02 JOURNAL_TIMER_US. -/
def Obj.journalTimerUs : ObjRow :=
  ⟨0x2410, 1, 2, 1, .u16, 2, ⟨.rw, .none, .rw, .none, .none⟩, .val 1000, .frame, .saved, 100, 10000⟩

/-- 0x2410.03 CKPT_PASS_S. -/
def Obj.ckptPassS : ObjRow :=
  ⟨0x2410, 1, 3, 1, .u16, 2, ⟨.rw, .none, .rw, .none, .none⟩, .val 600, .frame, .saved, 60, 3600⟩

/-- 0x2410.04 PAGE_SEQ. -/
def Obj.pageSeq : ObjRow :=
  ⟨0x2410, 1, 4, 1, .u64, 8, ⟨.r, .none, .r, .none, .none⟩, .val 0, .fixed, .volatile, 0, 18446744073709551615⟩

/-- 0x2410.05 REPLAY_RECORDS. -/
def Obj.replayRecords : ObjRow :=
  ⟨0x2410, 1, 5, 1, .u64, 8, ⟨.r, .none, .r, .none, .none⟩, .val 0, .fixed, .volatile, 0, 18446744073709551615⟩

/-- 0x2410.06 REPLAY_DROPPED. -/
def Obj.replayDropped : ObjRow :=
  ⟨0x2410, 1, 6, 1, .u32, 4, ⟨.r, .none, .r, .none, .none⟩, .val 0, .fixed, .volatile, 0, 4294967295⟩

/-- 0x2420.01 STAGING_EN. -/
def Obj.stagingEn : ObjRow :=
  ⟨0x2420, 1, 1, 1, .bool, 1, ⟨.rw, .none, .rw, .none, .none⟩, .val 1, .frame, .saved, 0, 1⟩

/-- 0x2420.02 STAGING_PER_LUN. -/
def Obj.stagingPerLun : ObjRow :=
  ⟨0x2420, 1, 2, 1, .u8, 1, ⟨.rw, .none, .rw, .none, .none⟩, .val 28, .quiesce, .saved, 4, 64⟩

/-- 0x2420.03 FOLD_START_PCT. -/
def Obj.foldStartPct : ObjRow :=
  ⟨0x2420, 1, 3, 1, .u8, 1, ⟨.rw, .none, .rw, .none, .none⟩, .val 50, .frame, .saved, 10, 90⟩

/-- 0x2420.04 STAGING_USED_PCT. -/
def Obj.stagingUsedPct : ObjRow :=
  ⟨0x2420, 1, 4, 1, .u8, 1, ⟨.r, .none, .r, .none, .none⟩, .val 0, .fixed, .volatile, 0, 255⟩

/-- 0x2420.05 STAGING_BYPASS. -/
def Obj.stagingBypass : ObjRow :=
  ⟨0x2420, 1, 5, 1, .u64, 8, ⟨.r, .none, .r, .none, .none⟩, .val 0, .fixed, .volatile, 0, 18446744073709551615⟩

/-- 0x2430.01 MANGLE_RESERVE_BP. -/
def Obj.mangleReserveBp : ObjRow :=
  ⟨0x2430, 1, 1, 1, .u16, 2, ⟨.rw, .none, .rw, .none, .none⟩, .val 500, .immediate, .saved, 300, 5000⟩

/-- 0x2430.02 GC_LOW_BP. -/
def Obj.gcLowBp : ObjRow :=
  ⟨0x2430, 1, 2, 1, .u16, 2, ⟨.rw, .none, .rw, .none, .none⟩, .val 200, .frame, .saved, 10, 2000⟩

/-- 0x2430.03 GC_HIGH_BP. -/
def Obj.gcHighBp : ObjRow :=
  ⟨0x2430, 1, 3, 1, .u16, 2, ⟨.rw, .none, .rw, .none, .none⟩, .val 400, .frame, .saved, 10, 2000⟩

/-- 0x2430.04 GC_URGENT_BP. -/
def Obj.gcUrgentBp : ObjRow :=
  ⟨0x2430, 1, 4, 1, .u16, 2, ⟨.rw, .none, .rw, .none, .none⟩, .val 50, .frame, .saved, 10, 2000⟩

/-- 0x2430.05 GC_MIN_AGE_S. -/
def Obj.gcMinAgeS : ObjRow :=
  ⟨0x2430, 1, 5, 1, .u32, 4, ⟨.rw, .none, .rw, .none, .none⟩, .val 300, .frame, .saved, 0, 86400⟩

/-- 0x2430.06 MANGLE_UNITS. -/
def Obj.mangleUnits : ObjRow :=
  ⟨0x2430, 1, 6, 1, .u64, 8, ⟨.r, .none, .r, .none, .none⟩, .val 0, .fixed, .saved, 0, 18446744073709551615⟩

/-- 0x2430.07 WRITE_AMP. -/
def Obj.writeAmp : ObjRow :=
  ⟨0x2430, 1, 7, 1, .u32, 4, ⟨.r, .none, .r, .none, .none⟩, .val 1000, .fixed, .saved, 0, 4294967295⟩

/-- 0x2430.08 TARGET_RESTARTS. -/
def Obj.targetRestarts : ObjRow :=
  ⟨0x2430, 1, 8, 1, .u32, 4, ⟨.r, .none, .r, .none, .none⟩, .val 0, .fixed, .saved, 0, 4294967295⟩

/-- 0x2430.09 URGENT_WAITS. -/
def Obj.urgentWaits : ObjRow :=
  ⟨0x2430, 1, 9, 1, .u64, 8, ⟨.r, .none, .r, .none, .none⟩, .val 0, .fixed, .volatile, 0, 18446744073709551615⟩

/-- 0x2440.01 SPARE_INITIAL. -/
def Obj.spareInitial : ObjRow :=
  ⟨0x2440, 1, 1, 1, .u32, 4, ⟨.r, .none, .r, .none, .rw⟩, .val 229376, .reboot, .factory, 0, 4294967295⟩

/-- 0x2440.02 SPARE_REMAINING. -/
def Obj.spareRemaining : ObjRow :=
  ⟨0x2440, 1, 2, 1, .u32, 4, ⟨.r, .none, .r, .none, .none⟩, .val 0, .fixed, .saved, 0, 4294967295⟩

/-- 0x2440.03 SPARE_PCT. -/
def Obj.sparePct : ObjRow :=
  ⟨0x2440, 1, 3, 1, .u8, 1, ⟨.r, .r, .r, .none, .none⟩, .val 100, .fixed, .volatile, 0, 255⟩

/-- 0x2440.04 BLOCKS_RETIRED. -/
def Obj.blocksRetired : ObjRow :=
  ⟨0x2440, 1, 4, 1, .u32, 4, ⟨.r, .none, .r, .none, .none⟩, .val 0, .fixed, .saved, 0, 4294967295⟩

/-- 0x2440.05 WEAR_SPREAD. -/
def Obj.wearSpread : ObjRow :=
  ⟨0x2440, 1, 5, 1, .u16, 2, ⟨.rw, .none, .rw, .none, .none⟩, .val 200, .frame, .saved, 50, 2000⟩

/-- 0x2440.06 ERASE_MAX. -/
def Obj.eraseMax : ObjRow :=
  ⟨0x2440, 1, 6, 1, .u32, 4, ⟨.r, .none, .r, .none, .none⟩, .val 0, .fixed, .saved, 0, 4294967295⟩

/-- 0x2440.07 RO_CAUSE. -/
def Obj.roCause : ObjRow :=
  ⟨0x2440, 1, 7, 1, .enum, 1, ⟨.r, .r, .r, .none, .none⟩, .val 0, .fixed, .saved, 0, 255⟩

/-- 0x2440.08 SPARE_ADD. -/
def Obj.spareAdd : ObjRow :=
  ⟨0x2440, 1, 8, 1, .u32, 4, ⟨.w, .none, .w, .none, .none⟩, .val 0, .immediate, .saved, 0, 4294967295⟩

/-- 0x2440.09 GEOMETRY_UNUSED. -/
def Obj.geometryUnused : ObjRow :=
  ⟨0x2440, 1, 9, 1, .u32, 4, ⟨.r, .none, .r, .none, .none⟩, .val 0, .fixed, .volatile, 0, 4294967295⟩

/-- 0x2450.01 SD_BOUND_S. -/
def Obj.sdBoundS : ObjRow :=
  ⟨0x2450, 1, 1, 1, .u16, 2, ⟨.rw, .none, .rw, .none, .none⟩, .val 300, .frame, .saved, 30, 3600⟩

/-- 0x2450.02 SD_PENDING. -/
def Obj.sdPending : ObjRow :=
  ⟨0x2450, 1, 2, 1, .u32, 4, ⟨.r, .none, .r, .none, .none⟩, .val 0, .fixed, .saved, 0, 4294967295⟩

/-- 0x2450.03 SD_PENDING_MAX. -/
def Obj.sdPendingMax : ObjRow :=
  ⟨0x2450, 1, 3, 1, .u16, 2, ⟨.rw, .none, .rw, .none, .none⟩, .val 256, .frame, .saved, 16, 4096⟩

/-- 0x2300.01 CH_RATE_MAX. -/
def Obj.chRateMax : ObjRow :=
  ⟨0x2300, 1, 1, 1, .enum, 1, ⟨.rw, .none, .rw, .none, .none⟩, .val 5, .reboot, .saved, 1, 5⟩

/-- 0x2300.02 EXT_MIN_EYE. -/
def Obj.extMinEye : ObjRow :=
  ⟨0x2300, 1, 2, 1, .u8, 1, ⟨.rw, .none, .rw, .none, .none⟩, .val 35, .reboot, .saved, 25, 60⟩

/-- 0x2300.03 RECENTRE_DEG. -/
def Obj.chRecentreDeg : ObjRow :=
  ⟨0x2300, 1, 3, 1, .u8, 1, ⟨.rw, .none, .rw, .none, .none⟩, .val 10, .immediate, .saved, 5, 30⟩

/-- 0x2300.04 READY_MULT. -/
def Obj.readyMult : ObjRow :=
  ⟨0x2300, 1, 4, 1, .u8, 1, ⟨.rw, .none, .rw, .none, .none⟩, .val 4, .reboot, .saved, 2, 16⟩

/-- 0x2300.05 DIE_CLASSES. -/
def Obj.dieClasses : ObjRow :=
  ⟨0x2300, 1, 5, 1, .u8, 1, ⟨.r, .none, .r, .none, .none⟩, .val 0, .fixed, .volatile, 0, 255⟩

/-- 0x2300.06 LUNS_ACTIVE. -/
def Obj.lunsActive : ObjRow :=
  ⟨0x2300, 1, 6, 1, .u16, 2, ⟨.r, .none, .r, .none, .none⟩, .val 0, .fixed, .volatile, 0, 65535⟩

/-- 0x2300.07 LUNS_LOST. -/
def Obj.lunsLost : ObjRow :=
  ⟨0x2300, 1, 7, 1, .u16, 2, ⟨.r, .none, .r, .none, .none⟩, .val 0, .fixed, .saved, 0, 65535⟩

/-- 0x2300.08 LUN_SELECT. -/
def Obj.lunSelect : ObjRow :=
  ⟨0x2300, 1, 8, 1, .u16, 2, ⟨.rw, .none, .rw, .none, .none⟩, .val 0, .immediate, .volatile, 0, 65535⟩

/-- 0x2300.09 LUN_STATUS. -/
def Obj.lunStatus : ObjRow :=
  ⟨0x2300, 1, 9, 1, .u32, 4, ⟨.r, .none, .r, .none, .none⟩, .val 0, .fixed, .volatile, 0, 4294967295⟩

/-- 0x2300.0A LUN_WEAROUT_PCT. -/
def Obj.lunWearoutPct : ObjRow :=
  ⟨0x2300, 1, 10, 1, .u8, 1, ⟨.rw, .none, .rw, .none, .none⟩, .val 10, .frame, .saved, 2, 50⟩

/-- 0x2301.01 to .40 CH_STATUS. -/
def Obj.chStatus : ObjRow :=
  ⟨0x2301, 1, 1, 64, .u32, 4, ⟨.r, .none, .r, .none, .none⟩, .val 0, .fixed, .volatile, 0, 4294967295⟩

/-- 0x2310.01 DARN_PENDING. -/
def Obj.darnPending : ObjRow :=
  ⟨0x2310, 1, 1, 1, .u32, 4, ⟨.r, .none, .r, .none, .none⟩, .val 0, .fixed, .saved, 0, 4294967295⟩

/-- 0x2310.02 DARN_REPLACED. -/
def Obj.darnReplaced : ObjRow :=
  ⟨0x2310, 1, 2, 1, .u64, 8, ⟨.r, .none, .r, .none, .none⟩, .val 0, .fixed, .saved, 0, 18446744073709551615⟩

/-- 0x2310.03 DARN_UNITS. -/
def Obj.darnUnits : ObjRow :=
  ⟨0x2310, 1, 3, 1, .u64, 8, ⟨.r, .none, .r, .none, .none⟩, .val 0, .fixed, .saved, 0, 18446744073709551615⟩

/-- 0x2310.04 STRIPES_UNREPLACEABLE. -/
def Obj.stripesUnreplaceable : ObjRow :=
  ⟨0x2310, 1, 4, 1, .u32, 4, ⟨.r, .none, .r, .none, .none⟩, .val 0, .fixed, .saved, 0, 4294967295⟩

/-- 0x2310.05 UNITS_LOST. -/
def Obj.unitsLost : ObjRow :=
  ⟨0x2310, 1, 5, 1, .u64, 8, ⟨.r, .none, .r, .none, .none⟩, .val 0, .fixed, .saved, 0, 18446744073709551615⟩

/-- 0x2318.01 CLAIM_CONFLICTS. -/
def Obj.claimConflicts : ObjRow :=
  ⟨0x2318, 1, 1, 1, .u64, 8, ⟨.r, .none, .r, .none, .none⟩, .val 0, .fixed, .volatile, 0, 18446744073709551615⟩

/-- 0x2318.02 CLAIM_PREEMPTS. -/
def Obj.claimPreempts : ObjRow :=
  ⟨0x2318, 1, 2, 1, .u32, 4, ⟨.r, .none, .r, .none, .none⟩, .val 0, .fixed, .volatile, 0, 4294967295⟩

/-- 0x2318.03 CLAIM_STARVED. -/
def Obj.claimStarved : ObjRow :=
  ⟨0x2318, 1, 3, 1, .u32, 4, ⟨.r, .none, .r, .none, .none⟩, .val 0, .fixed, .volatile, 0, 4294967295⟩

/-- 0x2320.01 AUTO_RAISE. -/
def Obj.autoRaise : ObjRow :=
  ⟨0x2320, 1, 1, 1, .bool, 1, ⟨.rw, .none, .rw, .none, .none⟩, .val 1, .immediate, .saved, 0, 1⟩

/-- 0x2320.02 RAISE_PCT. -/
def Obj.raisePct : ObjRow :=
  ⟨0x2320, 1, 2, 1, .u8, 1, ⟨.rw, .none, .rw, .none, .none⟩, .val 60, .frame, .saved, 30, 90⟩

/-- 0x2320.03 SOFT_EN. -/
def Obj.softEn : ObjRow :=
  ⟨0x2320, 1, 3, 1, .bool, 1, ⟨.rw, .none, .rw, .none, .none⟩, .val 1, .frame, .saved, 0, 1⟩

/-- 0x2321.01 to .40 GROUP_STRENGTH. -/
def Obj.groupStrength : ObjRow :=
  ⟨0x2321, 1, 1, 64, .u8, 1, ⟨.rw, .none, .rw, .none, .none⟩, .val 3, .frame, .saved, 0, 7⟩

/-- 0x2322.01 RETRY_ENTERED. -/
def Obj.retryEntered : ObjRow :=
  ⟨0x2322, 1, 1, 1, .u64, 8, ⟨.r, .none, .r, .none, .none⟩, .val 0, .fixed, .volatile, 0, 18446744073709551615⟩

/-- 0x2322.02 RETRY_DECODED. -/
def Obj.retryDecoded : ObjRow :=
  ⟨0x2322, 1, 2, 1, .u64, 8, ⟨.r, .none, .r, .none, .none⟩, .val 0, .fixed, .volatile, 0, 18446744073709551615⟩

/-- 0x2322.03 SOFT_DECODES. -/
def Obj.softDecodes : ObjRow :=
  ⟨0x2322, 1, 3, 1, .u64, 8, ⟨.r, .none, .r, .none, .none⟩, .val 0, .fixed, .volatile, 0, 18446744073709551615⟩

/-- 0x2322.04 SOFT_FAILS. -/
def Obj.softFails : ObjRow :=
  ⟨0x2322, 1, 4, 1, .u64, 8, ⟨.r, .none, .r, .none, .none⟩, .val 0, .fixed, .volatile, 0, 18446744073709551615⟩

/-- 0x2322.05 MCRC_FAILS. -/
def Obj.mcrcFails : ObjRow :=
  ⟨0x2322, 1, 5, 1, .u64, 8, ⟨.r, .none, .r, .none, .none⟩, .val 0, .fixed, .volatile, 0, 18446744073709551615⟩

/-- 0x2322.06 UNRECOVERED. -/
def Obj.unrecovered : ObjRow :=
  ⟨0x2322, 1, 6, 1, .u64, 8, ⟨.r, .none, .r, .none, .none⟩, .val 0, .fixed, .saved, 0, 18446744073709551615⟩

/-- 0x2330.01 PASS_H. -/
def Obj.passH : ObjRow :=
  ⟨0x2330, 1, 1, 1, .u16, 2, ⟨.rw, .none, .rw, .none, .none⟩, .val 168, .frame, .saved, 24, 2160⟩

/-- 0x2330.02 WATCH_PCT. -/
def Obj.watchPct : ObjRow :=
  ⟨0x2330, 1, 2, 1, .u8, 1, ⟨.rw, .none, .rw, .none, .none⟩, .val 50, .frame, .saved, 20, 95⟩

/-- 0x2330.03 RELOCATE_PCT. -/
def Obj.relocatePct : ObjRow :=
  ⟨0x2330, 1, 3, 1, .u8, 1, ⟨.rw, .none, .rw, .none, .none⟩, .val 70, .frame, .saved, 20, 95⟩

/-- 0x2330.04 DISTURB_READS. -/
def Obj.disturbReads : ObjRow :=
  ⟨0x2330, 1, 4, 1, .u32, 4, ⟨.rw, .none, .rw, .none, .none⟩, .val 50000, .frame, .saved, 1000, 10000000⟩

/-- 0x2330.05 EARLY_FAIL_DAYS. -/
def Obj.earlyFailDays : ObjRow :=
  ⟨0x2330, 1, 5, 1, .u16, 2, ⟨.rw, .none, .rw, .none, .none⟩, .val 30, .frame, .saved, 1, 365⟩

/-- 0x2330.06 FULL_PASS. -/
def Obj.fullPass : ObjRow :=
  ⟨0x2330, 1, 6, 1, .bool, 1, ⟨.rw, .none, .rw, .none, .none⟩, .val 0, .immediate, .volatile, 0, 1⟩

/-- 0x2330.07 REFRESHED. -/
def Obj.refreshed : ObjRow :=
  ⟨0x2330, 1, 7, 1, .u64, 8, ⟨.r, .none, .r, .none, .none⟩, .val 0, .fixed, .saved, 0, 18446744073709551615⟩

/-- 0x2330.08 RINSE_RETIRED. -/
def Obj.rinseRetired : ObjRow :=
  ⟨0x2330, 1, 8, 1, .u32, 4, ⟨.r, .none, .r, .none, .none⟩, .val 0, .fixed, .saved, 0, 4294967295⟩

/-- 0x2330.09 PASS_DONE_PCT. -/
def Obj.passDonePct : ObjRow :=
  ⟨0x2330, 1, 9, 1, .u8, 1, ⟨.r, .none, .r, .none, .none⟩, .val 0, .fixed, .volatile, 0, 255⟩

/-- 0x2340.01 LOG_SELECT. -/
def Obj.logSelect : ObjRow :=
  ⟨0x2340, 1, 1, 1, .u8, 1, ⟨.rw, .none, .rw, .none, .none⟩, .val 0, .immediate, .volatile, 0, 8⟩

/-- 0x2340.02 LOG_ENTRY. -/
def Obj.logEntry : ObjRow :=
  ⟨0x2340, 1, 2, 1, .u8, 1, ⟨.rw, .none, .rw, .none, .none⟩, .val 0, .immediate, .volatile, 0, 31⟩

/-- 0x2340.03 LOG_DATA. -/
def Obj.logData : ObjRow :=
  ⟨0x2340, 1, 3, 1, .octets, 16, ⟨.r, .none, .r, .none, .none⟩, .val 0, .fixed, .volatile, 0, 0⟩

/-- 0x2340.04 LOG_CLEAR. -/
def Obj.logClear : ObjRow :=
  ⟨0x2340, 1, 4, 1, .bool, 1, ⟨.w, .none, .w, .none, .none⟩, .val 0, .immediate, .volatile, 0, 1⟩

/-- 0x2340.05 SCRUB_S. -/
def Obj.scrubS : ObjRow :=
  ⟨0x2340, 1, 5, 1, .u16, 2, ⟨.rw, .none, .rw, .none, .none⟩, .val 60, .frame, .saved, 10, 3600⟩

/-- 0x2341.01 to .09 CE_MODE. -/
def Obj.ceMode : ObjRow :=
  ⟨0x2341, 1, 1, 9, .enum, 1, ⟨.rw, .none, .rw, .none, .none⟩, .val 3, .immediate, .saved, 1, 3⟩

/-- 0x2342.01 to .09 CE_COUNT. -/
def Obj.ceCount : ObjRow :=
  ⟨0x2342, 1, 1, 9, .u64, 8, ⟨.r, .none, .r, .none, .none⟩, .val 0, .fixed, .volatile, 0, 18446744073709551615⟩

/-- 0x2343.01 to .09 UE_COUNT. -/
def Obj.ueCount : ObjRow :=
  ⟨0x2343, 1, 1, 9, .u32, 4, ⟨.r, .none, .r, .none, .none⟩, .val 0, .fixed, .saved, 0, 4294967295⟩

/-- 0x2344.01 to .09 LOG_OVERFLOW. -/
def Obj.logOverflow : ObjRow :=
  ⟨0x2344, 1, 1, 9, .u32, 4, ⟨.r, .none, .r, .none, .none⟩, .val 0, .fixed, .volatile, 0, 4294967295⟩

/-- 0x2346.01 to .04 DRAM_MARKS. -/
def Obj.dramMarks : ObjRow :=
  ⟨0x2346, 1, 1, 4, .u64, 8, ⟨.r, .none, .r, .none, .rw⟩, .val 0, .immediate, .saved, 0, 18446744073709551615⟩

/-- 0x2347.01 FILL_BW_PCT. -/
def Obj.fillBwPct : ObjRow :=
  ⟨0x2347, 1, 1, 1, .u8, 1, ⟨.rw, .none, .rw, .none, .none⟩, .val 50, .reboot, .saved, 10, 100⟩

/-- 0x2347.02 FILL_DONE_PCT. -/
def Obj.fillDonePct : ObjRow :=
  ⟨0x2347, 1, 2, 1, .u8, 1, ⟨.r, .none, .r, .none, .none⟩, .val 100, .fixed, .volatile, 0, 255⟩

/-- 0x2700.01 CTR_WINDOW. -/
def Obj.ctrWindow : ObjRow :=
  ⟨0x2700, 1, 1, 1, .u32, 4, ⟨.rw, .none, .rw, .none, .none⟩, .val 1048576, .reboot, .saved, 65536, 16777216⟩

/-- 0x2700.02 CTR_BOOT_MARGIN. -/
def Obj.ctrBootMargin : ObjRow :=
  ⟨0x2700, 1, 2, 1, .u8, 1, ⟨.rw, .none, .rw, .none, .none⟩, .val 2, .reboot, .saved, 2, 16⟩

/-- 0x2700.03 CTR_WAITS. -/
def Obj.ctrWaits : ObjRow :=
  ⟨0x2700, 1, 3, 1, .u64, 8, ⟨.r, .none, .r, .none, .none⟩, .val 0, .fixed, .volatile, 0, 18446744073709551615⟩

/-- 0x2700.04 KEY_SLOTS_USED. -/
def Obj.keySlotsUsed : ObjRow :=
  ⟨0x2700, 1, 4, 1, .u16, 2, ⟨.r, .none, .r, .none, .none⟩, .val 0, .fixed, .volatile, 0, 65535⟩

/-- 0x2700.05 KPIO_KEYS. -/
def Obj.kpioKeys : ObjRow :=
  ⟨0x2700, 1, 5, 1, .u32, 4, ⟨.r, .none, .r, .none, .none⟩, .val 0, .fixed, .volatile, 0, 4294967295⟩

/-- 0x2700.06 UNWRAP_FAILS. -/
def Obj.unwrapFails : ObjRow :=
  ⟨0x2700, 1, 6, 1, .u32, 4, ⟨.r, .none, .r, .none, .none⟩, .val 0, .fixed, .saved, 0, 4294967295⟩

/-- 0x2700.07 TAG_FAILS. -/
def Obj.tagFails : ObjRow :=
  ⟨0x2700, 1, 7, 1, .u64, 8, ⟨.r, .none, .r, .none, .none⟩, .val 0, .fixed, .saved, 0, 18446744073709551615⟩

/-- 0x2700.08 TAG_REPAIRED. -/
def Obj.tagRepaired : ObjRow :=
  ⟨0x2700, 1, 8, 1, .u64, 8, ⟨.r, .none, .r, .none, .none⟩, .val 0, .fixed, .saved, 0, 18446744073709551615⟩

/-- 0x2700.09 TAG_LOST. -/
def Obj.tagLost : ObjRow :=
  ⟨0x2700, 1, 9, 1, .u32, 4, ⟨.r, .none, .r, .none, .none⟩, .val 0, .fixed, .saved, 0, 4294967295⟩

/-- 0x2700.0A KEY_MISSES. -/
def Obj.keyMisses : ObjRow :=
  ⟨0x2700, 1, 10, 1, .u64, 8, ⟨.r, .none, .r, .none, .none⟩, .val 0, .fixed, .volatile, 0, 18446744073709551615⟩

/-- 0x2700.0B KEY_ERASE_S. -/
def Obj.keyEraseS : ObjRow :=
  ⟨0x2700, 1, 11, 1, .u16, 2, ⟨.rw, .none, .rw, .none, .none⟩, .val 60, .frame, .saved, 10, 3600⟩

/-- 0x2700.0C CIPHER_WAITS. -/
def Obj.cipherWaits : ObjRow :=
  ⟨0x2700, 1, 12, 1, .u64, 8, ⟨.r, .none, .r, .none, .none⟩, .val 0, .fixed, .volatile, 0, 18446744073709551615⟩

/-- 0x2700.0D SLOT_SELECT. -/
def Obj.slotSelect : ObjRow :=
  ⟨0x2700, 1, 13, 1, .u16, 2, ⟨.rw, .none, .rw, .none, .none⟩, .val 0, .immediate, .volatile, 0, 65535⟩

/-- 0x2700.0E SLOT_STATUS. -/
def Obj.slotStatus : ObjRow :=
  ⟨0x2700, 1, 14, 1, .u64, 8, ⟨.r, .none, .r, .none, .none⟩, .val 0, .fixed, .volatile, 0, 18446744073709551615⟩

/-- 0x2700.0F SLOT_WCTR. -/
def Obj.slotWctr : ObjRow :=
  ⟨0x2700, 1, 15, 1, .u64, 8, ⟨.r, .none, .r, .none, .none⟩, .val 0, .fixed, .volatile, 0, 18446744073709551615⟩

/-- 0x2700.10 TKEK_MAP. -/
def Obj.tkekMap : ObjRow :=
  ⟨0x2700, 1, 16, 1, .u16, 2, ⟨.r, .none, .r, .none, .none⟩, .val 0, .fixed, .saved, 0, 65535⟩

/-- 0x4nnn.30 AUTH_DELIVERY. -/
def Obj.authDelivery : ObjRow :=
  ⟨0x4000, 1024, 48, 1, .enum, 1, ⟨.rw, .rw, .rw, .none, .none⟩, .val 0, .frame, .saved, 0, 1⟩

/-- 0x2710.01 DIGEST_ERRORS. -/
def Obj.digestErrors : ObjRow :=
  ⟨0x2710, 1, 1, 1, .octets, 28, ⟨.r, .none, .r, .none, .none⟩, .val 0, .fixed, .volatile, 0, 0⟩

/-- 0x2710.02 ZONE_DIGEST_BYTES. -/
def Obj.zoneDigestBytes : ObjRow :=
  ⟨0x2710, 1, 2, 1, .u64, 8, ⟨.r, .none, .r, .none, .none⟩, .val 0, .fixed, .volatile, 0, 18446744073709551615⟩

/-- 0x2710.03 STALE_SAVES. -/
def Obj.staleSaves : ObjRow :=
  ⟨0x2710, 1, 3, 1, .u32, 4, ⟨.r, .none, .r, .none, .none⟩, .val 0, .fixed, .volatile, 0, 4294967295⟩

/-- 0x2710.04 COMPARE_FAULTS. -/
def Obj.compareFaults : ObjRow :=
  ⟨0x2710, 1, 4, 1, .u32, 4, ⟨.r, .none, .r, .none, .none⟩, .val 0, .fixed, .saved, 0, 4294967295⟩

/-- 0x2710.05 ISLAND_M_WAIT_US. -/
def Obj.islandMWaitUs : ObjRow :=
  ⟨0x2710, 1, 5, 1, .u32, 4, ⟨.r, .none, .r, .none, .none⟩, .val 0, .fixed, .volatile, 0, 4294967295⟩

/-- 0x2710.06 CHAIN_BREAKS. -/
def Obj.chainBreaks : ObjRow :=
  ⟨0x2710, 1, 6, 1, .u32, 4, ⟨.r, .none, .r, .none, .none⟩, .val 0, .fixed, .saved, 0, 4294967295⟩

/-- 0x2080.01 SHUTTLE_HALTS. -/
def Obj.shuttleHalts : ObjRow :=
  ⟨0x2080, 1, 1, 1, .u32, 4, ⟨.r, .none, .r, .none, .none⟩, .val 0, .fixed, .volatile, 0, 4294967295⟩

/-- 0x2080.02 OWN_STALLS. -/
def Obj.ownStalls : ObjRow :=
  ⟨0x2080, 1, 2, 1, .u32, 4, ⟨.r, .none, .r, .none, .none⟩, .val 0, .fixed, .volatile, 0, 4294967295⟩

/-- 0x2080.03 SHUTTLE_BYTES. -/
def Obj.shuttleBytes : ObjRow :=
  ⟨0x2080, 1, 3, 1, .u64, 8, ⟨.r, .none, .r, .none, .none⟩, .val 0, .fixed, .volatile, 0, 18446744073709551615⟩

/-- 0x2090.02 RESERVE_PCT. -/
def Obj.reservePct : ObjRow :=
  ⟨0x2090, 1, 2, 1, .u8, 1, ⟨.rw, .none, .rw, .none, .none⟩, .val 50, .commit, .saved, 10, 90⟩

/-- 0x2090.03 MIN_RECLAIM. -/
def Obj.minReclaim : ObjRow :=
  ⟨0x2090, 1, 3, 1, .u16, 2, ⟨.rw, .none, .rw, .none, .none⟩, .val 512, .commit, .saved, 64, 65535⟩

/-- 0x2090.04 MIN_REBUILD. -/
def Obj.minRebuild : ObjRow :=
  ⟨0x2090, 1, 4, 1, .u16, 2, ⟨.rw, .none, .rw, .none, .none⟩, .val 2048, .commit, .saved, 256, 65535⟩

/-- 0x2090.05 MIN_SCRUB. -/
def Obj.minScrub : ObjRow :=
  ⟨0x2090, 1, 5, 1, .u16, 2, ⟨.rw, .none, .rw, .none, .none⟩, .val 512, .commit, .saved, 64, 65535⟩

/-- 0x20Ap.01 POOL_BUF. -/
def Obj.poolBuf : ObjRow :=
  ⟨0x20A0, 16, 1, 1, .enum, 1, ⟨.rw, .none, .rw, .none, .none⟩, .poolBuf, .reboot, .saved, 0, 2⟩

/-- 0x20Ap.02 POOL_PLACE. -/
def Obj.poolPlace : ObjRow :=
  ⟨0x20A0, 16, 2, 1, .enum, 1, ⟨.rw, .none, .rw, .none, .none⟩, .poolPlace, .reboot, .saved, 0, 1⟩

/-- 0x20Ap.03 POOL_COUNT. -/
def Obj.poolCount : ObjRow :=
  ⟨0x20A0, 16, 3, 1, .u32, 4, ⟨.rw, .none, .rw, .none, .none⟩, .poolCount, .reboot, .saved, 0, 4294967295⟩

/-- 0x20Ap.04 POOL_FREE. -/
def Obj.poolFree : ObjRow :=
  ⟨0x20A0, 16, 4, 1, .u32, 4, ⟨.r, .none, .r, .none, .none⟩, .val 0, .fixed, .volatile, 0, 4294967295⟩

/-- 0x20Ap.05 NOTICE_PCT. -/
def Obj.noticePct : ObjRow :=
  ⟨0x20A0, 16, 5, 1, .u8, 1, ⟨.rw, .none, .rw, .none, .none⟩, .val 25, .frame, .saved, 1, 50⟩

/-- 0x20Ap.06 THROTTLE_PCT. -/
def Obj.throttlePct : ObjRow :=
  ⟨0x20A0, 16, 6, 1, .u8, 1, ⟨.rw, .none, .rw, .none, .none⟩, .val 10, .frame, .saved, 1, 50⟩

/-- 0x20Ap.07 STOP_PCT. -/
def Obj.stopPct : ObjRow :=
  ⟨0x20A0, 16, 7, 1, .u8, 1, ⟨.rw, .none, .rw, .none, .none⟩, .val 3, .frame, .saved, 1, 50⟩

/-- 0x20Ap.08 POOL_LEVEL. -/
def Obj.poolLevel : ObjRow :=
  ⟨0x20A0, 16, 8, 1, .enum, 1, ⟨.r, .none, .r, .none, .none⟩, .val 0, .fixed, .volatile, 0, 255⟩

/-- 0x20Ap.09 POOL_FAULTS. -/
def Obj.poolFaults : ObjRow :=
  ⟨0x20A0, 16, 9, 1, .u32, 4, ⟨.r, .none, .r, .none, .none⟩, .val 0, .fixed, .saved, 0, 4294967295⟩

/-- 0x20Ap.0A STOP_ENTRIES. -/
def Obj.stopEntries : ObjRow :=
  ⟨0x20A0, 16, 10, 1, .u32, 4, ⟨.r, .none, .r, .none, .none⟩, .val 0, .fixed, .volatile, 0, 4294967295⟩

/-- 0x4nnn.31 BASKET_IN_USE. -/
def Obj.basketInUse : ObjRow :=
  ⟨0x4000, 1024, 49, 1, .u32, 4, ⟨.r, .r, .r, .none, .none⟩, .val 0, .fixed, .volatile, 0, 4294967295⟩

/-- 0x4nnn.32 BASKET_HELD. -/
def Obj.basketHeld : ObjRow :=
  ⟨0x4000, 1024, 50, 1, .u32, 4, ⟨.r, .r, .r, .none, .none⟩, .val 0, .fixed, .volatile, 0, 4294967295⟩

/-- 0x2500.01 DRAM_RATE. -/
def Obj.dramRate : ObjRow :=
  ⟨0x2500, 1, 1, 1, .enum, 1, ⟨.rw, .none, .rw, .none, .none⟩, .val 2, .reboot, .saved, 0, 2⟩

/-- 0x2500.02 DCH_ACTIVE. -/
def Obj.dchActive : ObjRow :=
  ⟨0x2500, 1, 2, 1, .u8, 1, ⟨.r, .none, .r, .none, .none⟩, .val 0, .fixed, .volatile, 0, 255⟩

/-- 0x2500.03 DRAM_BYTES. -/
def Obj.dramBytes : ObjRow :=
  ⟨0x2500, 1, 3, 1, .u64, 8, ⟨.r, .none, .r, .none, .none⟩, .val 0, .fixed, .volatile, 0, 18446744073709551615⟩

/-- 0x2500.04 DRAM_DENSITY. -/
def Obj.dramDensity : ObjRow :=
  ⟨0x2500, 1, 4, 1, .enum, 1, ⟨.r, .none, .rw, .none, .none⟩, .val 2, .reboot, .saved, 0, 2⟩

/-- 0x2500.06 MIN_EYE_PCT. -/
def Obj.minEyePct : ObjRow :=
  ⟨0x2500, 1, 6, 1, .u8, 1, ⟨.rw, .none, .rw, .none, .none⟩, .val 30, .reboot, .saved, 20, 50⟩

/-- 0x2500.07 RECENTRE_DEG. -/
def Obj.dramRecentreDeg : ObjRow :=
  ⟨0x2500, 1, 7, 1, .u8, 1, ⟨.rw, .none, .rw, .none, .none⟩, .val 10, .immediate, .saved, 5, 30⟩

/-- 0x2500.08 RECENTRE_S. -/
def Obj.recentreS : ObjRow :=
  ⟨0x2500, 1, 8, 1, .u16, 2, ⟨.rw, .none, .rw, .none, .none⟩, .val 1, .frame, .saved, 1, 60⟩

/-- 0x2500.09 REF_POSTPONE. -/
def Obj.refPostpone : ObjRow :=
  ⟨0x2500, 1, 9, 1, .u8, 1, ⟨.rw, .none, .rw, .none, .none⟩, .val 2, .frame, .saved, 0, 3⟩

/-- 0x2500.0A DRAM_TIMEOUT_US. -/
def Obj.dramTimeoutUs : ObjRow :=
  ⟨0x2500, 1, 10, 1, .u16, 2, ⟨.rw, .none, .rw, .none, .none⟩, .val 1000, .reboot, .saved, 600, 10000⟩

/-- 0x2500.0B AGE_CAP_NS. -/
def Obj.ageCapNs : ObjRow :=
  ⟨0x2500, 1, 11, 1, .u16, 2, ⟨.rw, .none, .rw, .none, .none⟩, .val 2000, .frame, .saved, 500, 10000⟩

/-- 0x2500.0C PWR_RAMP_MS. -/
def Obj.pwrRampMs : ObjRow :=
  ⟨0x2500, 1, 12, 1, .u16, 2, ⟨.r, .none, .rw, .none, .none⟩, .val 10, .reboot, .saved, 1, 100⟩

/-- 0x2500.0D HAZARD_WAITS. -/
def Obj.hazardWaits : ObjRow :=
  ⟨0x2500, 1, 13, 1, .u64, 8, ⟨.r, .none, .r, .none, .none⟩, .val 0, .fixed, .volatile, 0, 18446744073709551615⟩

/-- 0x2500.0E REF_LATE. -/
def Obj.refLate : ObjRow :=
  ⟨0x2500, 1, 14, 1, .u64, 8, ⟨.r, .none, .r, .none, .none⟩, .val 0, .fixed, .volatile, 0, 18446744073709551615⟩

/-- 0x2500.0F RECENTRES. -/
def Obj.recentres : ObjRow :=
  ⟨0x2500, 1, 15, 1, .u32, 4, ⟨.r, .none, .r, .none, .none⟩, .val 0, .fixed, .volatile, 0, 4294967295⟩

/-- 0x2500.10 PATROL_H. -/
def Obj.patrolH : ObjRow :=
  ⟨0x2500, 1, 16, 1, .u16, 2, ⟨.rw, .none, .rw, .none, .none⟩, .val 24, .frame, .saved, 1, 720⟩

/-- 0x2501.01 to .04 DCH_STATUS. -/
def Obj.dchStatus : ObjRow :=
  ⟨0x2501, 1, 1, 4, .u32, 4, ⟨.r, .none, .r, .none, .none⟩, .val 0, .fixed, .volatile, 0, 4294967295⟩

/-- 0x2020.01 FW_ACTIVE_SLOT. -/
def Obj.fwActiveSlot : ObjRow :=
  ⟨0x2020, 1, 1, 1, .u8, 1, ⟨.r, .none, .r, .none, .none⟩, .val 1, .fixed, .volatile, 0, 255⟩

/-- 0x2020.02 ARB_COUNTER. -/
def Obj.arbCounter : ObjRow :=
  ⟨0x2020, 1, 2, 1, .u8, 1, ⟨.r, .none, .r, .none, .none⟩, .val 0, .fixed, .factory, 0, 255⟩

/-- 0x2020.03 ARB_AUTO. -/
def Obj.arbAuto : ObjRow :=
  ⟨0x2020, 1, 3, 1, .bool, 1, ⟨.r, .none, .r, .rw, .none⟩, .val 1, .immediate, .saved, 0, 1⟩

/-- 0x2020.04 FW_REFUSED. -/
def Obj.fwRefused : ObjRow :=
  ⟨0x2020, 1, 4, 1, .u32, 4, ⟨.r, .none, .r, .none, .none⟩, .val 0, .fixed, .saved, 0, 4294967295⟩

/-- 0x2020.05 ACT_LATE. -/
def Obj.actLate : ObjRow :=
  ⟨0x2020, 1, 5, 1, .u32, 4, ⟨.r, .none, .r, .none, .none⟩, .val 0, .fixed, .volatile, 0, 4294967295⟩

/-- 0x2030.01 SELFTEST_EDSTT. -/
def Obj.selftestEdstt : ObjRow :=
  ⟨0x2030, 1, 1, 1, .u16, 2, ⟨.r, .none, .r, .none, .none⟩, .val 0, .fixed, .volatile, 0, 65535⟩

/-- 0x2030.02 SELFTEST_DRAM_POS. -/
def Obj.selftestDramPos : ObjRow :=
  ⟨0x2030, 1, 2, 1, .u64, 8, ⟨.r, .none, .r, .none, .none⟩, .val 0, .fixed, .saved, 0, 18446744073709551615⟩

/-- 0x2040.01 SANITIZE_ETBE. -/
def Obj.sanitizeEtbe : ObjRow :=
  ⟨0x2040, 1, 1, 1, .u32, 4, ⟨.r, .none, .r, .none, .none⟩, .val 0, .fixed, .volatile, 0, 4294967295⟩

/-- 0x2000.01 MODES. -/
def Obj.modes : ObjRow :=
  ⟨0x2000, 1, 1, 1, .u16, 2, ⟨.r, .r, .r, .none, .none⟩, .val 1, .fixed, .volatile, 0, 65535⟩

/-- 0x2000.02 MODE_SEQ. -/
def Obj.modeSeq : ObjRow :=
  ⟨0x2000, 1, 2, 1, .u64, 8, ⟨.r, .r, .r, .none, .none⟩, .val 0, .fixed, .volatile, 0, 18446744073709551615⟩

/-- 0x2000.03 POWER_DEFER. -/
def Obj.powerDefer : ObjRow :=
  ⟨0x2000, 1, 3, 1, .u16, 2, ⟨.r, .none, .r, .none, .none⟩, .val 0, .fixed, .volatile, 0, 65535⟩

/-- 0x2000.04 WRITE_PROTECT. -/
def Obj.writeProtect : ObjRow :=
  ⟨0x2000, 1, 4, 1, .bool, 1, ⟨.rw, .none, .rw, .none, .none⟩, .val 0, .immediate, .saved, 0, 1⟩

/-- 0x2000.05 MAINT_BP. -/
def Obj.maintBp : ObjRow :=
  ⟨0x2000, 1, 5, 1, .u16, 2, ⟨.rw, .none, .rw, .none, .none⟩, .val 2000, .frame, .saved, 0, 5000⟩

/-- 0x2000.06 RECOVERY_CAUSE. -/
def Obj.recoveryCause : ObjRow :=
  ⟨0x2000, 1, 6, 1, .enum, 1, ⟨.r, .none, .r, .none, .none⟩, .val 0, .fixed, .volatile, 0, 255⟩

/-- 0x2000.07 MODE_CHANGES. -/
def Obj.modeChanges : ObjRow :=
  ⟨0x2000, 1, 7, 1, .u32, 4, ⟨.r, .none, .r, .none, .none⟩, .val 0, .fixed, .volatile, 0, 4294967295⟩

/-- 0x2600.11 PS1_MODULE_MW. -/
def Obj.ps1ModuleMw : ObjRow :=
  ⟨0x2600, 1, 17, 1, .u32, 4, ⟨.r, .none, .rw, .none, .none⟩, .val 60000, .frame, .saved, 0, 4294967295⟩

/-- 0x2600.12 PS2_MODULE_MW. -/
def Obj.ps2ModuleMw : ObjRow :=
  ⟨0x2600, 1, 18, 1, .u32, 4, ⟨.r, .none, .rw, .none, .none⟩, .val 45000, .frame, .saved, 0, 4294967295⟩

/-- 0x2600.13 PS3_MODULE_MW. -/
def Obj.ps3ModuleMw : ObjRow :=
  ⟨0x2600, 1, 19, 1, .u32, 4, ⟨.r, .none, .rw, .none, .none⟩, .val 10000, .reboot, .saved, 1000, 50000⟩

/-- 0x2600.14 PS4_MODULE_MW. -/
def Obj.ps4ModuleMw : ObjRow :=
  ⟨0x2600, 1, 20, 1, .u32, 4, ⟨.r, .none, .rw, .none, .none⟩, .val 500, .reboot, .saved, 100, 10000⟩

/-- 0x2600.20 REFUSE_HOLD_MS. -/
def Obj.refuseHoldMs : ObjRow :=
  ⟨0x2600, 1, 32, 1, .u16, 2, ⟨.rw, .none, .rw, .none, .none⟩, .val 50, .immediate, .saved, 10, 10000⟩

/-- 0x2600.21 SLEEP_REFUSALS. -/
def Obj.sleepRefusals : ObjRow :=
  ⟨0x2600, 1, 33, 1, .u32, 4, ⟨.r, .none, .r, .none, .none⟩, .val 0, .fixed, .volatile, 0, 4294967295⟩

/-- 0x2600.22 LAST_WAKE. -/
def Obj.lastWake : ObjRow :=
  ⟨0x2600, 1, 34, 1, .enum, 1, ⟨.r, .none, .r, .none, .none⟩, .val 0, .fixed, .volatile, 0, 255⟩

/-- 0x2600.23 WAKE_COUNT. -/
def Obj.wakeCount : ObjRow :=
  ⟨0x2600, 1, 35, 1, .u32, 4, ⟨.r, .none, .r, .none, .none⟩, .val 0, .fixed, .volatile, 0, 4294967295⟩

/-- 0x2600.30 AIRING_INTERVAL_S. -/
def Obj.airingIntervalS : ObjRow :=
  ⟨0x2600, 1, 48, 1, .u32, 4, ⟨.rw, .none, .rw, .none, .none⟩, .val 1800, .immediate, .saved, 60, 86400⟩

/-- 0x2600.32 CANARY_PCT. -/
def Obj.canaryPct : ObjRow :=
  ⟨0x2600, 1, 50, 1, .u8, 1, ⟨.rw, .none, .rw, .none, .none⟩, .val 70, .immediate, .saved, 30, 95⟩

/-- 0x2600.33 AIRING_STEPS. -/
def Obj.airingSteps : ObjRow :=
  ⟨0x2600, 1, 51, 1, .u32, 4, ⟨.r, .none, .r, .none, .none⟩, .val 0, .fixed, .saved, 0, 4294967295⟩

/-- 0x2600.34 AIRING_NEXT. -/
def Obj.airingNext : ObjRow :=
  ⟨0x2600, 1, 52, 1, .u8, 1, ⟨.r, .none, .r, .none, .none⟩, .val 0, .fixed, .volatile, 0, 255⟩

/-- 0x2600.37 FLASH_RAMP_MS. -/
def Obj.flashRampMs : ObjRow :=
  ⟨0x2600, 1, 55, 1, .u8, 1, ⟨.r, .none, .rw, .none, .none⟩, .val 5, .reboot, .saved, 1, 50⟩

/-- 0x2600.40 PWRFAIL_FILTER_US. -/
def Obj.pwrfailFilterUs : ObjRow :=
  ⟨0x2600, 1, 64, 1, .u8, 1, ⟨.r, .none, .rw, .none, .none⟩, .val 2, .reboot, .saved, 1, 50⟩

/-- 0x2600.41 HOLDUP_ENERGY_MJ. -/
def Obj.holdupEnergyMj : ObjRow :=
  ⟨0x2600, 1, 65, 1, .u32, 4, ⟨.r, .none, .rw, .none, .none⟩, .val 4500, .frame, .saved, 0, 100000⟩

/-- 0x2600.42 HOLDUP_MARGIN_PCT. -/
def Obj.holdupMarginPct : ObjRow :=
  ⟨0x2600, 1, 66, 1, .u8, 1, ⟨.r, .none, .rw, .none, .none⟩, .val 80, .frame, .saved, 50, 100⟩

/-- 0x2600.43 DUMP_LUNS. -/
def Obj.dumpLuns : ObjRow :=
  ⟨0x2600, 1, 67, 1, .u16, 2, ⟨.r, .none, .rw, .none, .none⟩, .val 600, .frame, .saved, 64, 4096⟩

/-- 0x2600.44 DIRTY_CAP. -/
def Obj.dirtyCap : ObjRow :=
  ⟨0x2600, 1, 68, 1, .u64, 8, ⟨.rw, .none, .rw, .none, .none⟩, .val 4294967296, .frame, .saved, 0, 8589934592⟩

/-- 0x2600.45 HOLDUP_SENSE_MV. -/
def Obj.holdupSenseMv : ObjRow :=
  ⟨0x2600, 1, 69, 1, .u16, 2, ⟨.r, .none, .rw, .none, .none⟩, .val 600, .frame, .saved, 100, 1000⟩

/-- 0x2600.46 DUMP_COMPLETE. -/
def Obj.dumpComplete : ObjRow :=
  ⟨0x2600, 1, 70, 1, .bool, 1, ⟨.r, .none, .r, .none, .none⟩, .val 0, .fixed, .saved, 0, 1⟩

/-- 0x2600.47 DUMP_LAST_US. -/
def Obj.dumpLastUs : ObjRow :=
  ⟨0x2600, 1, 71, 1, .u32, 4, ⟨.r, .none, .r, .none, .none⟩, .val 0, .fixed, .saved, 0, 4294967295⟩

/-- 0x2600.48 DUMP_LAST_MJ. -/
def Obj.dumpLastMj : ObjRow :=
  ⟨0x2600, 1, 72, 1, .u32, 4, ⟨.r, .none, .r, .none, .none⟩, .val 0, .fixed, .saved, 0, 4294967295⟩

/-- 0x2600.50 THERM_START_C. -/
def Obj.thermStartC : ObjRow :=
  ⟨0x2600, 1, 80, 1, .i32, 4, ⟨.rw, .none, .rw, .none, .none⟩, .val 100, .frame, .saved, 60, 109⟩

/-- 0x2600.51 THERM_FULL_C. -/
def Obj.thermFullC : ObjRow :=
  ⟨0x2600, 1, 81, 1, .i32, 4, ⟨.rw, .none, .rw, .none, .none⟩, .val 108, .frame, .saved, 0, 110⟩

/-- 0x2600.52 THERM_MIN_PCT. -/
def Obj.thermMinPct : ObjRow :=
  ⟨0x2600, 1, 82, 1, .u8, 1, ⟨.rw, .none, .rw, .none, .none⟩, .val 25, .frame, .saved, 10, 100⟩

/-- 0x2600.53 THERM_CRIT_C. -/
def Obj.thermCritC : ObjRow :=
  ⟨0x2600, 1, 83, 1, .i32, 4, ⟨.r, .none, .rw, .none, .none⟩, .val 110, .frame, .saved, 100, 110⟩

/-- 0x2600.54 TD_START_C. -/
def Obj.tdStartC : ObjRow :=
  ⟨0x2600, 1, 84, 1, .i32, 4, ⟨.r, .none, .rw, .none, .none⟩, .val 75, .frame, .saved, 40, 100⟩

/-- 0x2600.55 TD_FULL_C. -/
def Obj.tdFullC : ObjRow :=
  ⟨0x2600, 1, 85, 1, .i32, 4, ⟨.r, .none, .rw, .none, .none⟩, .val 85, .frame, .saved, 0, 110⟩

/-- 0x2600.56 POOL_SCALE_PCT. -/
def Obj.poolScalePct : ObjRow :=
  ⟨0x2600, 1, 86, 1, .u8, 1, ⟨.r, .none, .r, .none, .none⟩, .val 100, .fixed, .volatile, 0, 255⟩

/-- 0x2600.60 DOMAIN_SELECT. -/
def Obj.domainSelect : ObjRow :=
  ⟨0x2600, 1, 96, 1, .u8, 1, ⟨.rw, .none, .rw, .none, .none⟩, .val 0, .immediate, .volatile, 0, 55⟩

/-- 0x2600.61 DOMAIN_STATUS. -/
def Obj.domainStatus : ObjRow :=
  ⟨0x2600, 1, 97, 1, .u32, 4, ⟨.r, .none, .r, .none, .none⟩, .val 0, .fixed, .volatile, 0, 4294967295⟩

/-- 0x2060.01 FLUSH_S. -/
def Obj.flushS : ObjRow :=
  ⟨0x2060, 1, 1, 1, .u16, 2, ⟨.rw, .none, .rw, .none, .none⟩, .val 10, .frame, .saved, 1, 600⟩

/-- 0x2060.02 FLUSH_PENDING. -/
def Obj.flushPending : ObjRow :=
  ⟨0x2060, 1, 2, 1, .u16, 2, ⟨.rw, .none, .rw, .none, .none⟩, .val 256, .frame, .saved, 16, 768⟩

/-- 0x2060.03 RATE_SELECT. -/
def Obj.rateSelect : ObjRow :=
  ⟨0x2060, 1, 3, 1, .u16, 2, ⟨.rw, .none, .rw, .none, .none⟩, .val 257, .immediate, .volatile, 0, 65535⟩

/-- 0x2060.04 RATE_PER_S. -/
def Obj.ratePerS : ObjRow :=
  ⟨0x2060, 1, 4, 1, .u16, 2, ⟨.rw, .none, .rw, .none, .none⟩, .val 8, .immediate, .saved, 1, 1000⟩

/-- 0x2060.05 RATE_BURST. -/
def Obj.rateBurst : ObjRow :=
  ⟨0x2060, 1, 5, 1, .u16, 2, ⟨.rw, .none, .rw, .none, .none⟩, .val 32, .immediate, .saved, 1, 1024⟩

/-- 0x2060.06 SAMPLER_CLEAR. -/
def Obj.samplerClear : ObjRow :=
  ⟨0x2060, 1, 6, 1, .bool, 1, ⟨.none, .none, .none, .none, .w⟩, .val 0, .immediate, .volatile, 0, 1⟩

/-- 0x6100.01 CURSOR. -/
def Obj.cursor : ObjRow :=
  ⟨0x6100, 1, 1, 1, .u64, 8, ⟨.rw, .none, .rw, .none, .none⟩, .val 0, .immediate, .volatile, 0, 18446744073709551615⟩

/-- 0x6100.02 OLDEST. -/
def Obj.oldest : ObjRow :=
  ⟨0x6100, 1, 2, 1, .u64, 8, ⟨.r, .none, .r, .none, .none⟩, .val 0, .fixed, .volatile, 0, 18446744073709551615⟩

/-- 0x6100.03 NEWEST. -/
def Obj.newest : ObjRow :=
  ⟨0x6100, 1, 3, 1, .u64, 8, ⟨.r, .none, .r, .none, .none⟩, .val 0, .fixed, .volatile, 0, 18446744073709551615⟩

/-- 0x6100.04 FIRST_LAST. -/
def Obj.firstLast : ObjRow :=
  ⟨0x6100, 1, 4, 1, .u64, 8, ⟨.r, .none, .r, .none, .none⟩, .val 0, .fixed, .volatile, 0, 18446744073709551615⟩

/-- 0x6100.05 PENDING. -/
def Obj.pending : ObjRow :=
  ⟨0x6100, 1, 5, 1, .u16, 2, ⟨.r, .none, .r, .none, .none⟩, .val 0, .fixed, .volatile, 0, 65535⟩

/-- 0x6100.06 DROPPED. -/
def Obj.dropped : ObjRow :=
  ⟨0x6100, 1, 6, 1, .u32, 4, ⟨.r, .none, .r, .none, .none⟩, .val 0, .fixed, .saved, 0, 4294967295⟩

/-- 0x6100.07 SUPPRESSED_TOTAL. -/
def Obj.suppressedTotal : ObjRow :=
  ⟨0x6100, 1, 7, 1, .u64, 8, ⟨.r, .none, .r, .none, .none⟩, .val 0, .fixed, .saved, 0, 18446744073709551615⟩

/-- 0x6100.08 COPIES_BAD. -/
def Obj.copiesBad : ObjRow :=
  ⟨0x6100, 1, 8, 1, .u32, 4, ⟨.r, .none, .r, .none, .none⟩, .val 0, .fixed, .saved, 0, 4294967295⟩

/-- 0x6100.09 ADVANCE. -/
def Obj.advance : ObjRow :=
  ⟨0x6100, 1, 9, 1, .bool, 1, ⟨.w, .none, .w, .none, .none⟩, .val 0, .immediate, .volatile, 0, 1⟩

/-- 0x6100.0A BOOTS. -/
def Obj.boots : ObjRow :=
  ⟨0x6100, 1, 10, 1, .u32, 4, ⟨.r, .none, .r, .none, .none⟩, .val 0, .fixed, .saved, 0, 4294967295⟩

/-- 0x6110.01 to .10 WINDOW. -/
def Obj.window : ObjRow :=
  ⟨0x6110, 1, 1, 16, .octets, 64, ⟨.r, .none, .r, .none, .none⟩, .val 0, .fixed, .volatile, 0, 0⟩

/-- 0x1000.01 SERIAL. -/
def Obj.serial : ObjRow :=
  ⟨0x1000, 1, 1, 1, .string, 20, ⟨.r, .r, .r, .none, .rw⟩, .val Config.serial, .immediate, .factory, 0, 0⟩

/-- 0x1000.02 MODEL. -/
def Obj.model : ObjRow :=
  ⟨0x1000, 1, 2, 1, .string, 40, ⟨.r, .r, .r, .none, .rw⟩, .val Config.model, .immediate, .factory, 0, 0⟩

/-- 0x1000.03 PART. -/
def Obj.part : ObjRow :=
  ⟨0x1000, 1, 3, 1, .u16, 2, ⟨.r, .r, .r, .none, .none⟩, .val 38500, .fixed, .factory, 0, 65535⟩

/-- 0x1000.04 PCI_IDS. -/
def Obj.pciIds : ObjRow :=
  ⟨0x1000, 1, 4, 1, .u32, 4, ⟨.r, .none, .r, .none, .rw⟩, .val Config.pciIds, .reboot, .factory, 0, 4294967295⟩

/-- 0x1000.05 FW_VERSION. -/
def Obj.fwVersion : ObjRow :=
  ⟨0x1000, 1, 5, 1, .string, 8, ⟨.r, .r, .r, .none, .none⟩, .val 0, .fixed, .volatile, 0, 0⟩

/-- 0x1000.06 FW_MAJOR. -/
def Obj.fwMajor : ObjRow :=
  ⟨0x1000, 1, 6, 1, .u8, 1, ⟨.r, .none, .r, .none, .none⟩, .val 0, .fixed, .volatile, 0, 255⟩

/-- 0x1000.07 EPMIN_DIGEST. -/
def Obj.epminDigest : ObjRow :=
  ⟨0x1000, 1, 7, 1, .octets, 32, ⟨.r, .none, .r, .none, .none⟩, .val Config.epminDigest, .fixed, .volatile, 0, 0⟩

/-- 0x1100.01 MAC_ADDR. -/
def Obj.macAddr : ObjRow :=
  ⟨0x1100, 1, 1, 1, .octets, 6, ⟨.r, .none, .r, .none, .rw⟩, .val Config.macAddr, .reboot, .factory, 0, 0⟩

/-- 0x1100.02 PLCA_EN. -/
def Obj.plcaEn : ObjRow :=
  ⟨0x1100, 1, 2, 1, .bool, 1, ⟨.rw, .none, .rw, .none, .none⟩, .val 0, .reboot, .saved, 0, 1⟩

/-- 0x1100.03 PLCA_NODE_ID. -/
def Obj.plcaNodeId : ObjRow :=
  ⟨0x1100, 1, 3, 1, .u8, 1, ⟨.rw, .none, .rw, .none, .none⟩, .val 1, .reboot, .saved, 0, 254⟩

/-- 0x1100.04 PLCA_NODE_COUNT. -/
def Obj.plcaNodeCount : ObjRow :=
  ⟨0x1100, 1, 4, 1, .u8, 1, ⟨.rw, .none, .rw, .none, .none⟩, .val 8, .reboot, .saved, 1, 255⟩

/-- 0x1100.05 PLCA_TO_TIMER. -/
def Obj.plcaToTimer : ObjRow :=
  ⟨0x1100, 1, 5, 1, .u8, 1, ⟨.rw, .none, .rw, .none, .none⟩, .val 32, .reboot, .saved, 1, 255⟩

/-- 0x1100.06 PLCA_BURST. -/
def Obj.plcaBurst : ObjRow :=
  ⟨0x1100, 1, 6, 1, .u8, 1, ⟨.rw, .none, .rw, .none, .none⟩, .val 0, .reboot, .saved, 0, 255⟩

/-- 0x1100.07 UDP_PORT. -/
def Obj.udpPort : ObjRow :=
  ⟨0x1100, 1, 7, 1, .u16, 2, ⟨.rw, .none, .rw, .none, .none⟩, .val 28613, .reboot, .saved, 1024, 65535⟩

/-- 0x1100.08 KEY_PRESENT. -/
def Obj.keyPresent : ObjRow :=
  ⟨0x1100, 1, 8, 1, .bool, 1, ⟨.r, .none, .r, .none, .none⟩, .val 0, .fixed, .saved, 0, 1⟩

/-- 0x1100.09 PAIR_STATUS. -/
def Obj.pairStatus : ObjRow :=
  ⟨0x1100, 1, 9, 1, .u32, 4, ⟨.r, .none, .r, .none, .none⟩, .val 16777216, .fixed, .volatile, 0, 4294967295⟩

/-- 0x1100.0A SEQ_LAST. -/
def Obj.seqLast : ObjRow :=
  ⟨0x1100, 1, 10, 1, .u64, 8, ⟨.r, .none, .r, .none, .none⟩, .val 0, .fixed, .volatile, 0, 18446744073709551615⟩

/-- 0x1100.0B LEN_DROPS. -/
def Obj.lenDrops : ObjRow :=
  ⟨0x1100, 1, 11, 1, .u32, 4, ⟨.r, .none, .r, .none, .none⟩, .val 0, .fixed, .volatile, 0, 4294967295⟩

/-- 0x1100.0C FORMAT_DROPS. -/
def Obj.formatDrops : ObjRow :=
  ⟨0x1100, 1, 12, 1, .u32, 4, ⟨.r, .none, .r, .none, .none⟩, .val 0, .fixed, .volatile, 0, 4294967295⟩

/-- 0x1100.0D AUTH_DROPS. -/
def Obj.authDrops : ObjRow :=
  ⟨0x1100, 1, 13, 1, .u32, 4, ⟨.r, .none, .r, .none, .none⟩, .val 0, .fixed, .saved, 0, 4294967295⟩

/-- 0x1100.0E SEQ_REJECTS. -/
def Obj.seqRejects : ObjRow :=
  ⟨0x1100, 1, 14, 1, .u32, 4, ⟨.r, .none, .r, .none, .none⟩, .val 0, .fixed, .volatile, 0, 4294967295⟩

/-- 0x1100.0F BUSY_DROPS. -/
def Obj.busyDrops : ObjRow :=
  ⟨0x1100, 1, 15, 1, .u32, 4, ⟨.r, .none, .r, .none, .none⟩, .val 0, .fixed, .volatile, 0, 4294967295⟩

/-- 0x1100.10 REQUESTS_OK. -/
def Obj.requestsOk : ObjRow :=
  ⟨0x1100, 1, 16, 1, .u64, 8, ⟨.r, .none, .r, .none, .none⟩, .val 0, .fixed, .volatile, 0, 18446744073709551615⟩

/-- 0x1F00.01 COMMIT. -/
def Obj.commit : ObjRow :=
  ⟨0x1F00, 1, 1, 1, .u8, 1, ⟨.w, .none, .w, .none, .none⟩, .val 0, .immediate, .volatile, 1, 2⟩

/-- 0x1F00.02 COMMIT_REASON. -/
def Obj.commitReason : ObjRow :=
  ⟨0x1F00, 1, 2, 1, .u16, 2, ⟨.r, .none, .r, .none, .none⟩, .val 0, .fixed, .volatile, 0, 65535⟩

/-- 0x1F00.03 STAGED_ENTRIES. -/
def Obj.stagedEntries : ObjRow :=
  ⟨0x1F00, 1, 3, 1, .u16, 2, ⟨.r, .none, .r, .none, .none⟩, .val 0, .fixed, .volatile, 0, 65535⟩

/-- 0x1F00.04 COMMIT_SEQ. -/
def Obj.commitSeq : ObjRow :=
  ⟨0x1F00, 1, 4, 1, .u32, 4, ⟨.r, .none, .r, .none, .none⟩, .val 0, .fixed, .saved, 0, 4294967295⟩

/-- 0x1F00.05 APPLIED_SEQ. -/
def Obj.appliedSeq : ObjRow :=
  ⟨0x1F00, 1, 5, 1, .u32, 4, ⟨.r, .none, .r, .none, .none⟩, .val 0, .fixed, .saved, 0, 4294967295⟩

/-- 0x1F00.10 RESTORE_DEFAULTS. -/
def Obj.restoreDefaults : ObjRow :=
  ⟨0x1F00, 1, 16, 1, .bool, 1, ⟨.rw, .none, .rw, .none, .none⟩, .val 0, .reboot, .saved, 0, 1⟩

/-- 0x1F00.11 SETTINGS_DIGEST. -/
def Obj.settingsDigest : ObjRow :=
  ⟨0x1F00, 1, 17, 1, .octets, 32, ⟨.r, .none, .r, .none, .none⟩, .val 0, .fixed, .volatile, 0, 0⟩

/-- 0x6000.10 FABRIC_FAULT. -/
def Obj.fabricFault : ObjRow :=
  ⟨0x6000, 1, 16, 1, .u32, 4, ⟨.r, .none, .r, .none, .none⟩, .val 0, .fixed, .volatile, 0, 4294967295⟩

/-- 0x6000.11 DOMAINS_FAILED. -/
def Obj.domainsFailed : ObjRow :=
  ⟨0x6000, 1, 17, 1, .u64, 8, ⟨.r, .none, .r, .none, .none⟩, .val 0, .fixed, .volatile, 0, 18446744073709551615⟩

/-- 0x2720.01 PRESENCE_LOOP. -/
def Obj.presenceLoop : ObjRow :=
  ⟨0x2720, 1, 1, 1, .enum, 1, ⟨.r, .none, .r, .none, .none⟩, .val 0, .fixed, .volatile, 0, 255⟩

/-- 0x2720.02 SEAL_LOOP. -/
def Obj.sealLoop : ObjRow :=
  ⟨0x2720, 1, 2, 1, .enum, 1, ⟨.r, .none, .r, .none, .none⟩, .val 0, .fixed, .volatile, 0, 255⟩

/-- 0x2720.03 WINDOW_S. -/
def Obj.windowS : ObjRow :=
  ⟨0x2720, 1, 3, 1, .u8, 1, ⟨.r, .none, .r, .none, .none⟩, .val 0, .fixed, .volatile, 0, 255⟩

/-- 0x2720.04 SEAL_BROKEN. -/
def Obj.sealBroken : ObjRow :=
  ⟨0x2720, 1, 4, 1, .bool, 1, ⟨.r, .none, .r, .none, .rw⟩, .val 0, .immediate, .saved, 0, 1⟩

/-- 0x2720.05 SEAL_POLICY. -/
def Obj.sealPolicy : ObjRow :=
  ⟨0x2720, 1, 5, 1, .enum, 1, ⟨.r, .none, .r, .rw, .none⟩, .val 0, .immediate, .saved, 0, 1⟩

/-- 0x2720.06 ROOT_GEN. -/
def Obj.rootGen : ObjRow :=
  ⟨0x2720, 1, 6, 1, .u8, 1, ⟨.r, .none, .r, .none, .none⟩, .val 0, .fixed, .factory, 0, 255⟩

/-- 0x2720.07 BOOT_SLOT. -/
def Obj.bootSlot : ObjRow :=
  ⟨0x2720, 1, 7, 1, .u8, 1, ⟨.r, .none, .r, .none, .none⟩, .val 0, .fixed, .volatile, 0, 255⟩

/-- 0x2720.08 BOOT_FALLBACKS. -/
def Obj.bootFallbacks : ObjRow :=
  ⟨0x2720, 1, 8, 1, .u32, 4, ⟨.r, .none, .r, .none, .none⟩, .val 0, .fixed, .saved, 0, 4294967295⟩

/-- 0x2720.09 DEBUG_STATE. -/
def Obj.debugState : ObjRow :=
  ⟨0x2720, 1, 9, 1, .enum, 1, ⟨.r, .none, .r, .none, .none⟩, .val 0, .fixed, .volatile, 0, 255⟩

/-- 0x2720.0A CRYPTO_STATE. -/
def Obj.cryptoState : ObjRow :=
  ⟨0x2720, 1, 10, 1, .enum, 1, ⟨.r, .none, .r, .none, .none⟩, .val 0, .fixed, .volatile, 0, 255⟩

/-- 0x2720.0B HALT_CAUSE. -/
def Obj.haltCause : ObjRow :=
  ⟨0x2720, 1, 11, 1, .u16, 2, ⟨.r, .none, .none, .none, .none⟩, .val 0, .fixed, .volatile, 0, 65535⟩

/-- 0x2720.0D PRESENCE_OPS. -/
def Obj.presenceOps : ObjRow :=
  ⟨0x2720, 1, 13, 1, .u32, 4, ⟨.r, .none, .r, .none, .none⟩, .val 0, .fixed, .saved, 0, 4294967295⟩

/-- 0x2720.0E SIGN_REVOKED. -/
def Obj.signRevoked : ObjRow :=
  ⟨0x2720, 1, 14, 1, .u8, 1, ⟨.r, .none, .r, .none, .rw⟩, .val 0, .reboot, .factory, 0, 15⟩

/-- 0x4nnn.40 FREEZE_PHASE. -/
def Obj.freezePhase : ObjRow :=
  ⟨0x4000, 1024, 64, 1, .enum, 1, ⟨.r, .r, .r, .none, .none⟩, .val 0, .fixed, .volatile, 0, 255⟩

/-- 0x4nnn.41 SAVE_COUNT. -/
def Obj.saveCount : ObjRow :=
  ⟨0x4000, 1024, 65, 1, .u32, 4, ⟨.r, .none, .r, .none, .none⟩, .val 0, .fixed, .volatile, 0, 4294967295⟩

/-- 0x4nnn.42 DIRTY_NSID. -/
def Obj.dirtyNsid : ObjRow :=
  ⟨0x4000, 1024, 66, 1, .u32, 4, ⟨.rw, .none, .rw, .none, .none⟩, .val 0, .immediate, .volatile, 0, 4294967295⟩

/-- 0x4nnn.43 DIRTY_EN. -/
def Obj.dirtyEn : ObjRow :=
  ⟨0x4000, 1024, 67, 1, .bool, 1, ⟨.rw, .none, .rw, .none, .none⟩, .val 0, .immediate, .volatile, 0, 1⟩

/-- 0x4nnn.44 DIRTY_CHUNK. -/
def Obj.dirtyChunk : ObjRow :=
  ⟨0x4000, 1024, 68, 1, .u64, 8, ⟨.rw, .none, .rw, .none, .none⟩, .val 0, .immediate, .volatile, 0, 18446744073709551615⟩

/-- 0x4nnn.45 DIRTY_BITS. -/
def Obj.dirtyBits : ObjRow :=
  ⟨0x4000, 1024, 69, 1, .octets, 256, ⟨.r, .none, .r, .none, .none⟩, .val 0, .fixed, .volatile, 0, 0⟩

/-- 0x4nnn.46 DIRTY_COUNT. -/
def Obj.dirtyCount : ObjRow :=
  ⟨0x4000, 1024, 70, 1, .u64, 8, ⟨.r, .none, .r, .none, .none⟩, .val 0, .fixed, .volatile, 0, 18446744073709551615⟩

/-- 0x4nnn.47 FREEZE_INTERRUPTED. -/
def Obj.freezeInterrupted : ObjRow :=
  ⟨0x4000, 1024, 71, 1, .u32, 4, ⟨.r, .r, .r, .none, .none⟩, .val 0, .fixed, .volatile, 0, 4294967295⟩

/-- 0x2610.01 PWRFAIL_STATE. -/
def Obj.pwrfailState : ObjRow :=
  ⟨0x2610, 1, 1, 1, .enum, 1, ⟨.r, .none, .r, .none, .none⟩, .val 0, .fixed, .volatile, 0, 255⟩

/-- 0x2610.02 HOLDUP_MV. -/
def Obj.holdupMv : ObjRow :=
  ⟨0x2610, 1, 2, 1, .u16, 2, ⟨.r, .none, .r, .none, .none⟩, .val 0, .fixed, .volatile, 0, 65535⟩

/-- 0x2610.03 HOLDUP_STATE. -/
def Obj.holdupState : ObjRow :=
  ⟨0x2610, 1, 3, 1, .enum, 1, ⟨.r, .none, .r, .none, .none⟩, .val 0, .fixed, .volatile, 0, 255⟩

/-- 0x2610.04 TD_FITTED. -/
def Obj.tdFitted : ObjRow :=
  ⟨0x2610, 1, 4, 1, .bool, 1, ⟨.r, .none, .rw, .none, .none⟩, .val 0, .frame, .saved, 0, 1⟩

/-- 0x2610.05 TD_STATE. -/
def Obj.tdState : ObjRow :=
  ⟨0x2610, 1, 5, 1, .enum, 1, ⟨.r, .none, .r, .none, .none⟩, .val 0, .fixed, .volatile, 0, 255⟩

/-- 0x2610.06 TD_TEMP. -/
def Obj.tdTemp : ObjRow :=
  ⟨0x2610, 1, 6, 1, .i32, 4, ⟨.r, .none, .r, .none, .none⟩, .val 0, .fixed, .volatile, 0, 4294967295⟩

/-- 0x2610.07 DIE_TEMPS. -/
def Obj.dieTemps : ObjRow :=
  ⟨0x2610, 1, 7, 1, .octets, 40, ⟨.r, .none, .r, .none, .none⟩, .val 0, .fixed, .volatile, 0, 0⟩

/-- 0x2610.08 DIE_TEMP_MAX. -/
def Obj.dieTempMax : ObjRow :=
  ⟨0x2610, 1, 8, 1, .i32, 4, ⟨.r, .r, .r, .none, .none⟩, .val 0, .fixed, .volatile, 0, 4294967295⟩

/-- 0x2610.09 BROWNOUTS. -/
def Obj.brownouts : ObjRow :=
  ⟨0x2610, 1, 9, 1, .u32, 4, ⟨.r, .none, .r, .none, .none⟩, .val 0, .fixed, .saved, 0, 4294967295⟩

/-- Rows 1 to 30 of the dictionary. -/
def Obj.table1 : List ObjRow :=
  [Obj.layoutId, Obj.cellsActive, Obj.cellsFenced, Obj.autoPromote, Obj.fabricTimeout, Obj.lanesSpared, Obj.deratePct,
   Obj.cellRole, Obj.cellState, Obj.fenceCount, Obj.fenceReason, Obj.sramCe, Obj.portMode, Obj.vfSplitA, Obj.vqSplitA,
   Obj.maxRate, Obj.refclkMode, Obj.linkAStatus, Obj.linkBStatus, Obj.ownerTakeover, Obj.takeoverDelay,
   Obj.instancesOnline, Obj.flexFreeA, Obj.flexFreeB, Obj.ctxSharedFree, Obj.instState, Obj.instPort, Obj.fenceGen,
   Obj.qpAllow, Obj.ctxReserved]

/-- Rows 31 to 60 of the dictionary. -/
def Obj.table2 : List ObjRow :=
  [Obj.ctxMax, Obj.basketMin, Obj.resetCount, Obj.lastReset, Obj.overlapFree, Obj.isumAddrA, Obj.isumAddrB,
   Obj.sumlineAddr, Obj.sumlineSeq, Obj.cqFullWaits, Obj.overlapWaits, Obj.dteCount, Obj.sglRefused, Obj.frameUs,
   Obj.frameCount, Obj.gridLag, Obj.overruns, Obj.slotsSkipped, Obj.readCap, Obj.writeCap, Obj.carryFrames,
   Obj.progAge, Obj.tokenPool, Obj.dramReserve, Obj.tokensHeld, Obj.tokenWaits, Obj.suspendMax, Obj.suspendReserve,
   Obj.resumeMin, Obj.suspendReads]

/-- Rows 61 to 90 of the dictionary. -/
def Obj.table3 : List ObjRow :=
  [Obj.raBudget, Obj.raMaxWidth, Obj.raCount, Obj.bgShares, Obj.moduleBudget, Obj.readShare, Obj.writeShare,
   Obj.copyShare, Obj.withinShare, Obj.contractBound, Obj.contractPctl, Obj.contractQ, Obj.raThreshold,
   Obj.contractMiss, Obj.contractMeasured, Obj.contractExempt, Obj.nsCount, Obj.zoneActiveFree, Obj.coalesceEn,
   Obj.coalesceMaxRef, Obj.coalescedReads, Obj.zoneAgeH, Obj.ruTimeLimitH, Obj.digestCtx, Obj.secureEraseS,
   Obj.secureErasePending, Obj.digestInvalid, Obj.epochExhausted, Obj.mapBytes, Obj.dramFree]

/-- Rows 91 to 120 of the dictionary. -/
def Obj.table4 : List ObjRow :=
  [Obj.dirtyLimit, Obj.writeWaits, Obj.mergeWaitUs, Obj.fillReads, Obj.writesLost, Obj.journalBytes,
   Obj.journalTimerUs, Obj.ckptPassS, Obj.pageSeq, Obj.replayRecords, Obj.replayDropped, Obj.stagingEn,
   Obj.stagingPerLun, Obj.foldStartPct, Obj.stagingUsedPct, Obj.stagingBypass, Obj.mangleReserveBp, Obj.gcLowBp,
   Obj.gcHighBp, Obj.gcUrgentBp, Obj.gcMinAgeS, Obj.mangleUnits, Obj.writeAmp, Obj.targetRestarts, Obj.urgentWaits,
   Obj.spareInitial, Obj.spareRemaining, Obj.sparePct, Obj.blocksRetired, Obj.wearSpread]

/-- Rows 121 to 150 of the dictionary. -/
def Obj.table5 : List ObjRow :=
  [Obj.eraseMax, Obj.roCause, Obj.spareAdd, Obj.geometryUnused, Obj.sdBoundS, Obj.sdPending, Obj.sdPendingMax,
   Obj.chRateMax, Obj.extMinEye, Obj.chRecentreDeg, Obj.readyMult, Obj.dieClasses, Obj.lunsActive, Obj.lunsLost,
   Obj.lunSelect, Obj.lunStatus, Obj.lunWearoutPct, Obj.chStatus, Obj.darnPending, Obj.darnReplaced, Obj.darnUnits,
   Obj.stripesUnreplaceable, Obj.unitsLost, Obj.claimConflicts, Obj.claimPreempts, Obj.claimStarved, Obj.autoRaise,
   Obj.raisePct, Obj.softEn, Obj.groupStrength]

/-- Rows 151 to 180 of the dictionary. -/
def Obj.table6 : List ObjRow :=
  [Obj.retryEntered, Obj.retryDecoded, Obj.softDecodes, Obj.softFails, Obj.mcrcFails, Obj.unrecovered, Obj.passH,
   Obj.watchPct, Obj.relocatePct, Obj.disturbReads, Obj.earlyFailDays, Obj.fullPass, Obj.refreshed, Obj.rinseRetired,
   Obj.passDonePct, Obj.logSelect, Obj.logEntry, Obj.logData, Obj.logClear, Obj.scrubS, Obj.ceMode, Obj.ceCount,
   Obj.ueCount, Obj.logOverflow, Obj.dramMarks, Obj.fillBwPct, Obj.fillDonePct, Obj.ctrWindow, Obj.ctrBootMargin,
   Obj.ctrWaits]

/-- Rows 181 to 210 of the dictionary. -/
def Obj.table7 : List ObjRow :=
  [Obj.keySlotsUsed, Obj.kpioKeys, Obj.unwrapFails, Obj.tagFails, Obj.tagRepaired, Obj.tagLost, Obj.keyMisses,
   Obj.keyEraseS, Obj.cipherWaits, Obj.slotSelect, Obj.slotStatus, Obj.slotWctr, Obj.tkekMap, Obj.authDelivery,
   Obj.digestErrors, Obj.zoneDigestBytes, Obj.staleSaves, Obj.compareFaults, Obj.islandMWaitUs, Obj.chainBreaks,
   Obj.shuttleHalts, Obj.ownStalls, Obj.shuttleBytes, Obj.reservePct, Obj.minReclaim, Obj.minRebuild, Obj.minScrub,
   Obj.poolBuf, Obj.poolPlace, Obj.poolCount]

/-- Rows 211 to 240 of the dictionary. -/
def Obj.table8 : List ObjRow :=
  [Obj.poolFree, Obj.noticePct, Obj.throttlePct, Obj.stopPct, Obj.poolLevel, Obj.poolFaults, Obj.stopEntries,
   Obj.basketInUse, Obj.basketHeld, Obj.dramRate, Obj.dchActive, Obj.dramBytes, Obj.dramDensity, Obj.minEyePct,
   Obj.dramRecentreDeg, Obj.recentreS, Obj.refPostpone, Obj.dramTimeoutUs, Obj.ageCapNs, Obj.pwrRampMs,
   Obj.hazardWaits, Obj.refLate, Obj.recentres, Obj.patrolH, Obj.dchStatus, Obj.fwActiveSlot, Obj.arbCounter,
   Obj.arbAuto, Obj.fwRefused, Obj.actLate]

/-- Rows 241 to 270 of the dictionary. -/
def Obj.table9 : List ObjRow :=
  [Obj.selftestEdstt, Obj.selftestDramPos, Obj.sanitizeEtbe, Obj.modes, Obj.modeSeq, Obj.powerDefer, Obj.writeProtect,
   Obj.maintBp, Obj.recoveryCause, Obj.modeChanges, Obj.ps1ModuleMw, Obj.ps2ModuleMw, Obj.ps3ModuleMw,
   Obj.ps4ModuleMw, Obj.refuseHoldMs, Obj.sleepRefusals, Obj.lastWake, Obj.wakeCount, Obj.airingIntervalS,
   Obj.canaryPct, Obj.airingSteps, Obj.airingNext, Obj.flashRampMs, Obj.pwrfailFilterUs, Obj.holdupEnergyMj,
   Obj.holdupMarginPct, Obj.dumpLuns, Obj.dirtyCap, Obj.holdupSenseMv, Obj.dumpComplete]

/-- Rows 271 to 300 of the dictionary. -/
def Obj.table10 : List ObjRow :=
  [Obj.dumpLastUs, Obj.dumpLastMj, Obj.thermStartC, Obj.thermFullC, Obj.thermMinPct, Obj.thermCritC, Obj.tdStartC,
   Obj.tdFullC, Obj.poolScalePct, Obj.domainSelect, Obj.domainStatus, Obj.flushS, Obj.flushPending, Obj.rateSelect,
   Obj.ratePerS, Obj.rateBurst, Obj.samplerClear, Obj.cursor, Obj.oldest, Obj.newest, Obj.firstLast, Obj.pending,
   Obj.dropped, Obj.suppressedTotal, Obj.copiesBad, Obj.advance, Obj.boots, Obj.window, Obj.serial, Obj.model]

/-- Rows 301 to 330 of the dictionary. -/
def Obj.table11 : List ObjRow :=
  [Obj.part, Obj.pciIds, Obj.fwVersion, Obj.fwMajor, Obj.epminDigest, Obj.macAddr, Obj.plcaEn, Obj.plcaNodeId,
   Obj.plcaNodeCount, Obj.plcaToTimer, Obj.plcaBurst, Obj.udpPort, Obj.keyPresent, Obj.pairStatus, Obj.seqLast,
   Obj.lenDrops, Obj.formatDrops, Obj.authDrops, Obj.seqRejects, Obj.busyDrops, Obj.requestsOk, Obj.commit,
   Obj.commitReason, Obj.stagedEntries, Obj.commitSeq, Obj.appliedSeq, Obj.restoreDefaults, Obj.settingsDigest,
   Obj.fabricFault, Obj.domainsFailed]

/-- Rows 331 to 360 of the dictionary. -/
def Obj.table12 : List ObjRow :=
  [Obj.presenceLoop, Obj.sealLoop, Obj.windowS, Obj.sealBroken, Obj.sealPolicy, Obj.rootGen, Obj.bootSlot,
   Obj.bootFallbacks, Obj.debugState, Obj.cryptoState, Obj.haltCause, Obj.presenceOps, Obj.signRevoked,
   Obj.freezePhase, Obj.saveCount, Obj.dirtyNsid, Obj.dirtyEn, Obj.dirtyChunk, Obj.dirtyBits, Obj.dirtyCount,
   Obj.freezeInterrupted, Obj.pwrfailState, Obj.holdupMv, Obj.holdupState, Obj.tdFitted, Obj.tdState, Obj.tdTemp,
   Obj.dieTemps, Obj.dieTempMax, Obj.brownouts]

/-- The whole dictionary, in the order of the spec's chapters. -/
def Obj.table : List ObjRow :=
  Obj.table1 ++ Obj.table2 ++ Obj.table3 ++ Obj.table4 ++ Obj.table5 ++ Obj.table6 ++ Obj.table7 ++ Obj.table8 ++ Obj.table9 ++
    Obj.table10 ++ Obj.table11 ++ Obj.table12

end Sys2Proof.Machine
end

