-- ==== Sys2Proof/Machine/State.lean ====
section
/-! DEFINITION. The state of the block as plain data: every register, queue, table and mode the spec gives the PL9664,
and the queue of commands that wait. A sparse table lists only the entries that differ from their default. -/
namespace Sys2Proof.Machine

/-- A sparse table by number: keys rise strictly, and no entry equals the table's default where it has one. -/
abbrev Tbl (α : Type) := List (Nat × α)

/-! ### Statuses and what leaves the device -/

/-- An NVMe status: status code type and status code. -/
structure Status where
  sct : Nat
  sc : Nat
  deriving DecidableEq, Repr

/-- What a finished command reports: its status, and dwords 0 and 1 of its completion entry. -/
structure Cpl where
  status : Status
  dw0 : Nat
  dw1 : Nat
  deriving DecidableEq, Repr

/-- A Sampler record (R416), its PARAM words listed from P0. -/
structure Rec where
  seq : Nat
  hostMs : Nat
  tsOrigin : Nat
  severity : Nat
  domain : Nat
  powerOnUs : Nat
  boot : Nat
  code : Nat
  suppressed : Nat
  subject : Nat
  params : List Nat
  link : Nat
  deriving DecidableEq, Repr

/-- A dictionary record in a reply (R441, R442). -/
structure DictReply where
  index : Nat
  sub : Nat
  type : Nat
  length : Nat
  status : Nat
  staged : Bool
  value : Nat
  deriving DecidableEq, Repr

/-- A zone descriptor of Report Zones. -/
structure ZoneDesc where
  state : Nat
  attrs : Nat
  zcap : Nat
  zslba : Nat
  wp : Nat
  deriving DecidableEq, Repr

/-- A zone digest descriptor (R167). -/
structure DigestDesc where
  digest : Nat
  bytes : Nat
  zslba : Nat
  epoch : Nat
  zs : Nat
  dstate : Nat
  deriving DecidableEq, Repr

/-- Data the device returns for an admin or management command. A Zone Digest Report is a header whose first 8 bytes are the
count and the rest zero, and 512-bit descriptors (R167). -/
inductive Reply where
  | words (w : List (Nat × Nat))
  | records (r : List DictReply)
  | zones (count : Nat) (d : List ZoneDesc)
  | digests (count : Nat) (d : List (BitVec 512))
  | sampler (header : List (Nat × Nat)) (slots : List (Option Rec))
  | list (n : List Nat)
  deriving DecidableEq, Repr

/-- Image of a completion summary line (R94). -/
structure LineImage where
  seqEcho : BitVec 64
  posted : BitVec 32
  paused : Bool
  admin : Bool
  cqMap : BitVec 64
  seq : BitVec 64
  deriving DecidableEq, Repr

/-- What the device sends, in the order it issues it (R96): writes to host memory, and frames on the pair. -/
inductive Out where
  | entry (fn cqid slot : Nat) (phase : Bool) (sqid sqHead cid : Nat) (c : Cpl)
  | data (fn : Nat) (h : Hdr) (lba : Nat) (lbas : List LbaData) (metas : List HostMeta)
  | reply (h : Hdr) (r : Reply)
  | line (fn address : Nat) (i : LineImage)
  | summary (port : Port) (address : Nat) (upper : Bool) (bits : Nat)
  | staing (op status seq arg : Nat) (recs : List DictReply) (bodyId : Nat)
  | advert
  | echoReply
  | shuttleWrite (port : Port) (ch address : Nat) (bytes : List Byte)
  | shuttleRecord (port : Port) (ch address : Nat) (words : List (Nat × Nat))
  | descriptorOwn (port : Port) (ch index : Nat)
  | object (acc key value : Nat)
  deriving DecidableEq, Repr

/-! ### Dictionary -/

/-- What each accessor has of its own: staging set, last commit reason (R436 to R438), Sampler cursor (R425). -/
structure AccSt where
  staged : Tbl Nat
  reason : Nat
  cursor : Nat
  deriving DecidableEq, Repr

/-- The object dictionary (R430 to R440), by key 256 × index + subindex: values in force, the copy on media of SAVED
and FACTORY objects, FRAME values that wait for a boundary, REBOOT values that wait for a boot, commits that wait for
a boundary with their 0x1F00.04 numbers, and the accessors' own parts. -/
structure Dict where
  force : Tbl Nat
  durable : Tbl Nat
  frame : Tbl Nat
  reboot : Tbl Nat
  commits : List (Nat × Tbl Nat)
  accs : Tbl AccSt
  deriving DecidableEq, Repr

/-! ### Modes and the Sampler -/

/-- A mode change that waits for its record to enter the AON buffer (R369). -/
structure ModeChange where
  set : BitVec 12
  clear : BitVec 12
  cause : Nat
  deriving DecidableEq, Repr

/-- The token bucket of a limited record code (R420): level in 10⁻⁹ tokens at a moment in ns, events suppressed since
the code's last record, and the last of them. -/
structure Bucket where
  level : Nat
  time : Nat
  suppressed : Nat
  last : Option Rec
  deriving DecidableEq, Repr

/-- The Sampler (R416 to R429). -/
structure Sampler where
  buf : List Rec
  holdSlot : Option Rec
  next : Nat
  circ : List Rec
  first : List Rec
  buckets : Tbl Bucket
  flushing : Option (List Rec)
  due : Bool
  dropped : Nat
  dropAfter : Nat
  clockBase : Nat
  tsOrigin : Nat
  firstBase : Nat
  clearDue : Bool
  link : Nat
  waiting : List ModeChange
  deriving DecidableEq, Repr

/-! ### Cells, fabric and configuration plane -/

/-- What a media cell holds besides its role and fence, which are objects: the role it drains to (R39), the items it
works on (R14), the operations of those items that its LDPC lane has not ended, in order, of which the lane does the first
(R12), and its key cache (R13, R285). -/
structure CellSt where
  drainTo : Option Nat
  drained : Bool
  items : List WorkItem
  lane : List (Producer × Nat × LdpcOp)
  keys : List KeyRef
  deriving DecidableEq, Repr

/-- An outstanding fabric request (R32): its tag, reissues so far, whether ACCEPT arrived, its consumer, the agent it
serves (R49), the packet as injected with its input buffer, and when it was last issued. The entry is the buffer its
requester reserves for the answer (R48). -/
structure FabricReq where
  tag : Nat
  reissues : Nat
  accepted : Bool
  consumer : Consumer
  agent : Option LockId
  packet : Packet
  port : Nat
  since : Nat
  deriving DecidableEq, Repr

/-- The errors of a lane (R30, R31): corrected ones in the second that began at `since`, and whether one was uncorrectable. -/
structure LaneErr where
  count : Nat
  since : Nat
  hard : Bool
  deriving DecidableEq, Repr

/-- Cells, dispatch units, routers, links and the ring. `released` says the dispatch units hand out work (R45); `queues` is
keyed 8 × quadrant + role code, `inputs` by router, input port and virtual channel, `laneErrs` and `lanesOut` by link (and
lane); `inHand` lists the requests that endpoints hold unanswered (R32), `failed` the poisoned transfers (R30); `parked`
names the domains whose links are parked until they signal ready (R19); `ring` is the log of messages in force, in the order
sent (R34). -/
structure Cells where
  released : Bool
  queues : Tbl (List WorkItem)
  held : List WorkItem
  results : List (Producer × Nat × Bool)
  cells : Tbl CellSt
  fenced : List (Nat × Nat)
  inputs : Tbl (List Packet)
  grants : Tbl Nat
  inHand : List Packet
  failed : List Packet
  laneErrs : Tbl LaneErr
  lanesOut : Tbl Nat
  linkDead : Bool
  reqs : List FabricReq
  parked : List Nat
  ring : List (Nat × CfgMsg)
  clocks : Tbl Nat
  deriving DecidableEq, Repr

/-! ### Host link, functions, queues and contexts -/

/-- A port: its link (R54 to R59), when the link was lost, its reset pin, and its SR-IOV control (R60). -/
structure PortSt where
  up : Bool
  rate : Nat
  width : Nat
  flit : Bool
  laneRev : Bool
  polInv : Bool
  below : Bool
  downSince : Nat
  perst : Bool
  numVfs : Nat
  vfEnable : Bool
  retrain : Bool
  deriving DecidableEq, Repr

/-- States of an instance, codes 0 to 4 of 0x4nnn.01 (R75). A manager function is online or fencing. -/
inductive InstState where | absent | offline | online | frozen | fencing
  deriving DecidableEq, Repr

/-- A submission queue: entries, base, completion queue, priority, head and tail as the device knows them, the order
stamp of its oldest unfetched doorbell write (R89), a tail recorded while fetch is held (R87), and the Delete commands
that wait for it (R118). -/
structure Sq where
  size : Nat
  base : Nat
  cqid : Nat
  prio : Nat
  head : Nat
  tail : Nat
  bell : Option Nat
  recorded : Option Nat
  deleting : List Hdr
  deriving DecidableEq, Repr

/-- A completion queue: entries, base, head as the host wrote it, tail, and phase of the next entry. -/
structure Cq where
  size : Nat
  base : Nat
  head : Nat
  tail : Nat
  phase : Bool
  deriving DecidableEq, Repr

/-- The completion summary line of a function (R93 to R95). `cqMap` and `admin` are those of the last image;
`due` says that a posting has taken one of its bits from 0 to 1 since. -/
structure Line where
  address : Nat
  delay : Nat
  seq : BitVec 64
  posted : BitVec 32
  cqMap : BitVec 64
  admin : Bool
  paused : Bool
  due : Bool
  deriving DecidableEq, Repr

/-- The instance summary of a manager (R98, R99), with the bits last written, lower and upper half, and the instances whose
bit has risen since. -/
structure ISum where
  address : Nat
  delay : Nat
  lower : Nat
  upper : Nat
  rose : List Nat
  deriving DecidableEq, Repr

/-- A fence in progress (R75 to R79): the row of R77, the state it ends in, and the Secondary Offlines that wait. -/
structure Fence where
  row : Nat
  after : InstState
  waiters : List Hdr
  deriving DecidableEq, Repr

/-- A function: an instance, or a manager. `passed` says its last turn was passed over (R325), `ioMade` that it has created an
I/O queue since its controller started (R74), `lineDelay` is the DELAY of feature C0h (R93). -/
structure Fn where
  state : InstState
  gen : BitVec 16
  en : Bool
  rdy : Bool
  cfs : Bool
  shst : Nat
  wrr : Bool
  mps : Nat
  sqs : Tbl Sq
  cqs : Tbl Cq
  stamp : Nat
  rr : Nat
  credits : List Nat
  line : Option Line
  lineDelay : Nat
  aers : List Hdr
  events : List AsyncEvent
  feats : Tbl Nat
  savedFeats : Tbl Nat
  fence : Option Fence
  passed : Bool
  ioMade : Bool
  deriving DecidableEq, Repr

/-- Kinds of chunk, by the credit they take (R131). -/
inductive CreditKind where | read | write | copy
  deriving DecidableEq, Repr

/-- A chunk of a host command: one map unit (R131). `mask` marks its LBAs in the unit, `first` is the command's index
of the lowest of them, `charge` is in 1/1,024 credit. A Copy's chunk is a unit of the destination, and `pieces` are the source
reads it covers: source unit, mask in it, and the index of the lowest LBA. -/
structure Chunk where
  kind : CreditKind
  nsid : Nat
  unit : Nat
  mask : BitVec 4
  first : Nat
  charge : Nat
  pieces : List (Nat × BitVec 4 × Nat)
  deriving DecidableEq, Repr

/-- What a fetched command that is not finished waits for, beside its chunks. -/
inductive Await where
  | none
  | order
  | entries (no : Nat)
  | epoch
  | durable
  | deleteSq (qid : Nat)
  | offline (n : Nat)
  | freeze (n : Nat)
  | event
  | space
  | buffer (no : Nat)
  | erase
  | activation
  deriving DecidableEq, Repr

/-- What becomes of the data a command reads: sent to the host, compared, only checked, written elsewhere, or nothing. -/
inductive Purpose where | none | toHost | compare | verify | copy
  deriving DecidableEq, Repr

/-- A command context (R90): the command, its fetch stamp (R106), the generation it was fetched under (R76), whether it is
one of a fused pair and its data pointer, whether it has been taken up, what it modifies and reads as runs (NSID, first unit,
last unit), whether it is a read of one to four LBAs (R143), the chunks not admitted, the admitted ones not finished, the
units whose durability it awaits, the journal page it awaits (0: none, else PAGE_SEQ + 1), the scope of a Flush, the
protection information type and checks of a read, whether its metadata is transferred (R151), the first failure met, and the
completion once it is finished. -/
structure Ctx where
  hdr : Hdr
  stamp : Nat
  gen : BitVec 16
  cqid : Nat
  fused : Bool
  dptr : DataPtr
  begun : Bool
  cmd : Option Instr
  wait : Await
  mods : List (Nat × Nat × Nat)
  looks : List (Nat × Nat × Nat)
  holds : Bool
  chunks : List Chunk
  open_ : Nat
  data : List LbaData
  metas : List HostMeta
  lba : Nat
  fua : Bool
  keyTag : Option Nat
  handle : Nat
  short : Bool
  admitted : Bool
  held : Bool
  moved : Bool
  need : List (Nat × Nat)
  page : Nat
  flushOf : Option Nat
  dst : Option (Nat × Nat)
  expect : List LbaData
  expectMetas : List HostMeta
  pi : Option (Nat × PrInfo)
  withMeta : Bool
  purpose : Purpose
  err : Option Status
  dw0 : Nat
  dw1 : Nat
  got : List (Nat × LbaData × HostMeta)
  done : Option Cpl
  doneNo : Nat
  deriving DecidableEq, Repr

/-- The host side: ports, functions by code (0 to 1,023 instances, 1,024 PF0, 1,025 PF1), contexts in fetch order, the
clocks that order doorbells, waiters and finished commands, the instance summaries and the DELAY of feature C1h of each
manager (R98), and whether fetch is paused for activation (R121). -/
structure HostSt where
  portA : PortSt
  portB : PortSt
  fns : Tbl Fn
  ctxs : List Ctx
  bells : Nat
  waits : Nat
  dones : Nat
  isumA : Option ISum
  isumB : Option ISum
  isumDelays : Nat × Nat
  paused : Bool
  deriving DecidableEq, Repr

/-! ### Scheduler (R122 to R148) -/

/-- Banks of a holder in 1/1,024 credit (R128 to R130). -/
structure Bank where
  read : Int
  write : Int
  copy : Int
  deriving DecidableEq, Repr

/-- Background holders (R129), in the order of 0x2210. -/
inductive Task where | reclaim | rebuild | scrub | selftest
  deriving DecidableEq, Repr

/-- What a background chunk does when it is admitted: a copy of a unit out of a source stripe into a target of some use
(R193, R197), the rebuild of one unit of a lost member (R234), that of one unit for a read (R233), or the read of one unit of a
sampled block (R251, R352). -/
inductive BgWork where
  | copy (source nsid unit : Nat)
  | rebuild (stripe member unit : Nat)
  | darn (read : Nat)
  | sample (lun block : Nat)
  deriving DecidableEq, Repr

/-- A background chunk that waits for admission (R131): its holder and charges. -/
structure BgChunk where
  id : Nat
  task : Task
  work : BgWork
  readCost : Nat
  writeCost : Nat
  deriving DecidableEq, Repr

/-- The grid of a periodic task (R127), a rank's refresh among them (R340), in ns: number j of the next interval's work, G(0), T,
D(j), and whether it is postponed. -/
structure Refresh where
  slot : Nat
  base : Nat
  period : Nat
  due : Nat
  postponed : Bool
  deriving DecidableEq, Repr

/-- The frame scheduler: whether the grid runs, T0, number of the open frame, its opening and planned end, whether it
is open, banks by holder (0 to 1,023 instances, 1,100 to 1,103 tasks), unspent capacity of the frame, read-around
budget left, waiting background chunks, instances outside their share in the frame, the grids of the other periodic
tasks (R127), the capacities of a nominal frame as the last boundary computed them (R128), the covered reads of each
instance's present window (R145), whether the overrun of the frame has been counted (R124), and whether no host write chunk has
waited in the last closed frame and in this one (R193). -/
structure Sched where
  running : Bool
  t0 : Nat
  k : Nat
  openAt : Nat
  planned : Nat
  isOpen : Bool
  late : Nat
  banks : Tbl Bank
  leftRead : Nat
  leftWrite : Nat
  raLeft : Nat
  spentRead : Nat
  spentWrite : Nat
  bg : List BgChunk
  nextBg : Nat
  outside : List Nat
  periodic : Tbl Refresh
  readCap : Nat
  writeCap : Nat
  windows : Tbl Nat
  overran : Bool
  writeIdle : Bool
  writeQuiet : Bool
  deriving DecidableEq, Repr

/-! ### Die queues (R134 to R140, R218 to R222) -/

/-- Kinds of die operation and the object they serve. -/
inductive OpKind where
  | read (rd : Nat)
  | program (slot : Nat)
  | progSys (seq copy : Nat)
  | progSeg (nsid segment : Nat)
  | parity (stripe row : Nat)
  | sample (block : Nat)
  | progMember (stripe member : Nat)
  | erase (block : Nat)
  | refill (slot : Nat)
  deriving DecidableEq, Repr

/-- Classes of R134; `sys`, of journal and checkpoint programs, goes ahead of every class (R188), `aged` is a program or
erase that passes other reads. -/
inductive OpClass where | sys | contract | aged | other | program | erase
  deriving DecidableEq, Repr

/-- An admitted operation at a LUN queue: its class, admission age, frame of admission, block, tokens, and whether it
has waited for tokens. -/
structure LunOp where
  id : Nat
  kind : OpKind
  cls : OpClass
  age : Nat
  frame : Nat
  block : Nat
  tokens : Nat
  waited : Bool
  slc : Bool
  deriving DecidableEq, Repr

/-- The operation a LUN runs: when it started or last resumed, its end, suspensions so far, whether it is suspended
and the reads still to serve, resets of it so far, and the read served during the suspension. -/
structure Busy where
  op : LunOp
  since : Nat
  ends : Nat
  suspends : Nat
  asking : Bool
  suspended : Bool
  toServe : List LunOp
  serving : Option LunOp
  retried : Bool
  deriving DecidableEq, Repr

/-- States of a LUN, codes 0 to 4 of R217. -/
inductive LunState where | absent | active | lost | unsupported | noProfile
  deriving DecidableEq, Repr

/-- A LUN (R216, R217): state, class, the blocks its parameter page excludes, its queue, what it runs, and when it was last
reset (R219). -/
structure Lun where
  state : LunState
  cls : Fin 4
  factoryBad : List Nat
  queue : List LunOp
  busy : Option Busy
  resetAt : Option Nat
  deriving DecidableEq, Repr

/-- A flash channel (R211 to R214, 0x2301), and the reads whose data its dies hold ready, with their LUNs, in the order of their
transfers: the first is in progress (R134). -/
structure Channel where
  rate : Nat
  state : Nat
  eyeMin : Nat
  fails : Nat
  targets : Nat
  faults : Nat
  trainedAt : Int
  transfers : List (Nat × LunOp)
  deriving DecidableEq, Repr

/-- The engines' side: die classes found, LUNs, channels, ages, tokens. -/
structure Flash where
  classes : List DieProfile
  luns : Tbl Lun
  channels : Tbl Channel
  nextOp : Nat
  deriving DecidableEq, Repr

/-! ### Map, slots, journal, stripes -/

/-- A map entry (R172). -/
inductive MapEntry where
  | unmapped
  | flash (slc : Bool) (ch : Fin 64) (ce : Fin 8) (lun : Fin 8) (plane : Fin 4) (block : Fin 4096) (page : Fin 2048)
  | buffer (slot : Nat)
  | uncorrectable
  deriving DecidableEq, Repr

/-- One unit as stored: LBA data and host metadata, uncorrectable marks, and the header of R244 to R249: namespace
slot, unit, WSEQ, placement handle, the name of the key it is enciphered under, and its cipher counter. -/
structure Stored where
  nsid : Nat
  unit : Nat
  wseq : Nat
  handle : Nat
  lbas : List LbaData
  metas : List HostMeta
  bad : BitVec 4
  key : Nat
  epoch : Nat
  counter : Nat
  gcm : Bool
  keyTags : List (Option Nat)
  deriving DecidableEq, Repr

/-- Where a write-buffer slot is on its way to flash. -/
inductive SlotState where
  | filling
  | fillRead
  | programming (loc : MapEntry)
  | programmed (loc : MapEntry)
  deriving DecidableEq, Repr

/-- A write-buffer slot (R180 to R185): unit, mask of LBAs written, their data, marks, the unit's previous entry, when
its first write came, its program, placements so far, the journal page its WRITE record lies in, the commands that
wait on it, whether it has been digested (R166), the write counter of its ciphertext plus 1 (R277), whether its
unit was reset or replaced meanwhile, what the program in flight writes, and whether the slot has been written since that
program was issued (R181, R183). -/
structure Slot where
  nsid : Nat
  unit : Nat
  mask : BitVec 4
  lbas : List LbaData
  metas : List HostMeta
  bad : BitVec 4
  keyTags : List (Option Nat)
  prev : MapEntry
  since : Nat
  state : SlotState
  tries : Nat
  wseq : Nat
  page : Nat
  handle : Nat
  writers : List (Nat × Nat)
  wanted : Bool
  staged : Option MapEntry
  digested : Bool
  counter : Nat
  dead : Bool
  flight : Option Stored
  again : Bool
  deriving DecidableEq, Repr

/-- States of a zone, with the codes of Report Zones. -/
inductive ZState where | empty | implicitOpen | explicitOpen | closed | readOnly | full | offline
  deriving DecidableEq, Repr

/-- Digest states of R165. -/
inductive DState where | none | running | final | invalid
  deriving DecidableEq, Repr

/-- A digest context as held in DRAM (R166, R296): chaining words, bytes absorbed, and the partial block. -/
structure DigestCtx where
  h : List (BitVec 32)
  count : Nat
  tail : List Byte
  deriving DecidableEq, Repr

/-- A zone (R149, R155 to R158, R165 to R171). `wp` counts LBAs from the zone's start. `resetting` and `resetPage` hold
a Secure Reset in progress: its command, and the journal page of its record plus 1, 0 before step 3 of R169. `gone` lists units
whose fourth placement failed (R185). -/
structure Zone where
  state : ZState
  wp : Nat
  finishRec : Bool
  opened : Nat
  stripe : Option Nat
  rows : Nat
  slots : Tbl Nat
  staged : Tbl MapEntry
  lostRows : List Nat
  epoch : Nat
  zgen : Nat
  dstate : DState
  dctx : Option DigestCtx
  digest : Nat
  resetting : Option Hdr
  resetPage : Nat
  gone : List Nat
  deriving DecidableEq, Repr

/-- Kinds of namespace (R149). -/
inductive NsKind where | conventional | zoned | flexible
  deriving DecidableEq, Repr

/-- A namespace: kind, size, format, creation word in force, data width of its stripes (R153, R159), owner port (R80),
attachments, placement handles, Mangle reserve for life (R177), blocks and map bytes reserved, key slot, whether its map is
loaded, map or zones, secure discard (R205), and the first journal page whose records replay applies to it (R289). -/
structure Ns where
  kind : NsKind
  nsze : Nat
  flbas : Nat
  dps : Nat
  word : CreationWord
  width : Nat
  owner : Port
  attached : List Nat
  handles : List Nat
  reserve : Nat
  blocks : Nat
  mapBytes : Nat
  keySlot : Nat
  loaded : Bool
  map : Tbl MapEntry
  zones : Tbl Zone
  secureDiscard : Bool
  writeBlocked : Bool
  born : Nat
  deriving DecidableEq, Repr

/-- A journal record (R186). -/
inductive JRec where
  | write (nsidx unit : Nat) (e : MapEntry) (wseq : Nat)
  | reloc (nsidx unit : Nat) (e : MapEntry)
  | unmap (nsidx unit count : Nat)
  | uncorr (nsidx unit count : Nat)
  | block (event : Nat) (lun block erases : Nat)
  | ckpt (segment : Nat) (first : MapEntry) (snapshot : Nat)
  | zone (nsidx zone : Nat) (state : ZState) (rows epoch : Nat)
  | nscfg (nsidx event : Nat)
  deriving DecidableEq, Repr

/-- A journal page (R187, R188): sequence, records in order, CONF_SEQ and CKPT_BASE of its header, copies programmed,
failures of either copy, whether a copy can no longer be written, PREV_DIGEST, the system blocks of its copies, the SAVED
values that the device keeps itself as they stood when it closed (R435), and the namespace table that its records lead to. -/
structure JPage where
  seq : Nat
  recs : List JRec
  conf : Nat
  base : Nat
  copies : Nat
  fails : Nat × Nat
  stuck : Bool
  prev : BitVec 256
  places : List (Nat × Nat)
  kept : Tbl Nat
  nss : Tbl Ns
  deriving DecidableEq, Repr

/-- A segment copy (R190): namespace, segment, snapshot PAGE_SEQ, the entries copied or a zone table, the former entries of
units whose program was not done, its first page in entry format, the system blocks that failed it (R52), and the page of its
CKPT record plus 1, 0 until the copy is written. NSID 0 is the namespace table. -/
structure SegCopy where
  nsid : Nat
  segment : Nat
  snapshot : Nat
  entries : Tbl MapEntry
  zones : Tbl Zone
  former : Tbl MapEntry
  nss : Tbl Ns
  place : MapEntry
  fails : Nat
  page : Nat
  inEffect : Bool
  deriving DecidableEq, Repr

/-- The journal (R186 to R191): the open page and the moment of its first record, closed pages not freed, PAGE_SEQ of
the next page and of the last durable one, the WSEQ last assigned, the WSEQ of units not yet programmed, segment copies,
segments changed since their copy, those that the present checkpoint pass has still to copy, and the digest of the last page
closed. -/
structure Journal where
  recs : List JRec
  since : Nat
  pages : List JPage
  next : Nat
  durable : Nat
  wseq : Nat
  pendingSeqs : List Nat
  copies : List SegCopy
  changed : List (Nat × Nat)
  pass : List (Nat × Nat)
  digest : BitVec 256
  deriving DecidableEq, Repr

/-- What a stripe serves (R224): `dump` is one of system blocks that holds the units of a dump (R191), `worn` a target of wear
levelling (R199). -/
inductive StripeUse where
  | ns (nsid handle : Nat)
  | zone (nsid zone : Nat)
  | mangle
  | fold (nsid : Nat)
  | staging
  | dump
  | worn
  deriving DecidableEq, Repr

/-- A stripe (R223 to R228): its use, width, Q page, group, members as (LUN, four-plane block), next unit position,
rows whose parity has programmed, whether it is full, closed and when, restarts, lost members, whether it is
secure-pending (R206) and the erase clock then, queued for erase, whether wear levelling chose it (R199), and the sources copied
into it (R198). -/
structure Stripe where
  use : StripeUse
  w : Nat
  q : Bool
  group : Nat
  members : List (Nat × Nat)
  next : Nat
  parityRows : Nat
  ended : Bool
  openedAt : Nat
  closedAt : Option Nat
  restarts : Nat
  lost : List Nat
  secure : Bool
  secureAt : Nat
  copying : Bool
  wear : Bool
  relocPage : Nat
  sources : List Nat
  moved : List (Nat × Nat × MapEntry × MapEntry)
  deriving DecidableEq, Repr

/-- A four-plane block that differs from a free, never erased one: erase count, stripe and member it belongs to, reads
since its last program (R253), retirement, queue for erase, deadline class of that erase, Rinse state, claim holder
(R237), the frames its losers have lost (R238), retry hint (R247), strength (R241), and whether Rinse has refreshed it in
this program cycle and in the one before (R255), and when it was last sampled (R252). -/
structure Block where
  erases : Nat
  stripe : Option (Nat × Nat)
  system : Bool
  reads : Nat
  retired : Bool
  eraseDue : Bool
  secure : Bool
  programmedAt : Nat
  watch : Nat
  claim : Option Nat
  wants : List (Nat × Nat)
  hint : Nat
  strength : Nat
  refreshed : Bool
  before : Bool
  sampledAt : Nat
  deriving DecidableEq, Repr

/-- Steps of the ladder of R246 for one codeword. -/
inductive LadderStep where
  | hard
  | retry (n : Nat)
  | soft
  | darning
  | decoded
  | lost
  deriving DecidableEq, Repr

/-- One attachment of a command to a media read (R163): the command, the LBAs of the unit it takes and the command's
index of the lowest, whether it is a covered read of a contract, and whether it is left out of the contract's window (R145). -/
structure Attach where
  hdr : Hdr
  mask : BitVec 4
  first : Nat
  covered : Bool
  exempt : Bool
  deriving DecidableEq, Repr

/-- What a media read serves besides commands. -/
inductive ReadFor where
  | host
  | slotFill (slot : Nat)
  | member (rd : Nat)
  | copyUnit (source : Nat)
  | background
  deriving DecidableEq, Repr

/-- A media read of one unit: its entry, the LBAs it fetches, class, attachments, reference count of its buffer,
ladder by codeword, whether the die has delivered, the read-around (R141, R230), tag failures (R281) and the source
of its data: 1 direct, 2 read-around, 3 Darning. `data` and `metas` are what a read-around reconstructed. -/
structure MediaRead where
  nsid : Nat
  unit : Nat
  entry : MapEntry
  mask : BitVec 4
  cls : OpClass
  attached : List Attach
  refs : Nat
  steps : List LadderStep
  arrived : Bool
  issued : Bool
  epoch : Nat
  around : Option Nat
  aroundTried : Bool
  tagFails : Nat
  source : Nat
  serves : ReadFor
  data : List LbaData
  metas : List HostMeta
  sending : Bool
  reread : Bool
  deriving DecidableEq, Repr

/-- Namespaces, write buffer, stored units, journal, stripes, blocks, reads and reclaim. Stored units are keyed by its
entry's word, parity payloads by stripe and row. `eraseClock` counts the time in which the modes permit erase, and
`secureDue` its reading when each block of a Secure Reset was queued (R170). `urgent` lists stripes to relocate ahead of
other victims (R201). -/
structure Store where
  ns : Tbl Ns
  durableNs : Tbl Ns
  fdp : Option Nat
  slots : Tbl Slot
  nextSlot : Nat
  media : Tbl Stored
  parity : Tbl (List Payload)
  journal : Journal
  stripes : Tbl Stripe
  nextStripe : Nat
  cursors : Tbl Nat
  blocks : Tbl Block
  reads : Tbl MediaRead
  nextRead : Nat
  fdpEvents : List (Nat × Nat)
  fdpTypes : List Nat
  folding : Bool
  mangling : List Nat
  replacing : List (Nat × Nat × Nat × Nat)
  erases : List (Nat × Nat)
  secureQueue : List (Nat × Nat)
  secureDue : List (Nat × Nat × Nat)
  eraseClock : Nat
  sdQueue : List (Nat × Nat)
  darning : List (Nat × Nat)
  noReplace : List Nat
  urgent : List Nat
  movedToSpares : Nat
  dump : Option (List Slot)
  unitsHost : Nat
  unitsFlash : Nat
  formatted : Bool
  deriving DecidableEq, Repr

/-! ### Power (R387 to R415) -/

/-- States of a domain, with the codes of 0x2600.61. -/
inductive DomState where | off | on | clockStopped | retain | linkLp | listen | stopping | starting
  deriving DecidableEq, Repr

/-- A domain that has refused or is not in its PS0 to PS2 state: its state, its refusals, and the state it stops to. -/
structure DomainSt where
  state : DomState
  refusals : Nat
  goal : DomState
  deriving DecidableEq, Repr

/-- Power states, domains, sensors and HOLD-UP. `requests` is what each manager asks for, `operational` the last of
PS0 to PS2 in force; `entry` is the step of R398 a
sleep entry is at, `retryAt` the end of its hold time; `scaleNum` over `scaleDen` is the thermal factor in force;
`canaries` names a LUN and a block; `unreadable` lists Airing groups whose last visit could not read.
`held` says PORST_N or a brown-out holds the device in reset, `latched` that PORST_N fell during HOLD-UP (R500), `clean`
that the run in progress has shut down cleanly (R373). -/
structure PowerSt where
  current : Nat
  target : Nat
  requests : Tbl Nat
  entry : Option Nat
  refusals : Nat
  refuseDomain : Nat
  refuseHold : Nat
  retryAt : Option Nat
  operational : Nat
  domains : Tbl DomainSt
  temps : List Int
  diode : DiodeState
  diodeTenths : Int
  scaleNum : Nat
  scaleDen : Nat
  canaries : List (Nat × Nat)
  unreadable : List Nat
  senseMv : Nat
  senseFaulty : Bool
  pinClass : PwrfailClass
  dumping : Bool
  restart : Bool
  held : Bool
  latched : Bool
  clean : Bool
  deriving DecidableEq, Repr

/-! ### Memories (R257 to R266, R328 to R344) and Rinse (R251 to R256) -/

/-- An entry of a correction log (R266). -/
structure LogEntry where
  count : Nat
  position : Nat
  kind : Nat
  rank : Nat
  firstS : Nat
  address : Nat
  deriving DecidableEq, Repr

/-- A DRAM channel: the fields of 0x2501, the reading at its last centring, burst addresses of writes that wait in its
write queue, oldest first, and its ranks' refreshes. -/
structure DramChan where
  state : Nat
  ranks : Nat
  hot : Bool
  eyeMin : Nat
  trainFails : Nat
  centred : Int
  writes : List Nat
  refresh : Tbl Refresh
  deriving DecidableEq, Repr

/-- Memories. `dram` lists the bytes of DRAM that are not zero, by rising address; `poison` the poisoned words; `requests`
are those held in the parked links of DRAM channels, in order, with what their reads will find (R19); `answer` is what the
last read request gave, `none` for a poisoned byte; `hits` the moments of corrections by channel, rank and device; `logs` the
correction logs by memory code. The valid-bit scheme runs while `filling`, with every granule below `fillAt` and those in
`valid` set. `fails` holds the last 4,096 sample fail-bit counts by reclaim group, `sampled` the blocks of the present pass,
`sampling` those being sampled with the unit reads still to come (R251), `forced` whether a forced pass runs, `passDue`
whether one waits. `aonLost` says the next wake is a full boot (R260), `restartCause` the cause of R373 that AON memory
keeps, and `replayed` the segments that replay changed and no copy holds yet, `lostUnits` the units whose only copy the last
power loss took. -/
structure Mem where
  dram : List Host.Cell
  poison : List Nat
  requests : List (DramOp × DramErrors)
  answer : List (Option Byte)
  chans : Tbl DramChan
  hits : Tbl (List Nat)
  logs : Tbl (List LogEntry)
  filling : Bool
  granules : Nat
  fillAt : Nat
  valid : List Nat
  fails : Tbl (List Nat)
  sampled : List Nat
  sampling : Tbl Nat
  forced : Bool
  passDue : Bool
  aonLost : Bool
  restartCause : Nat
  replayed : List (Nat × Nat)
  lostUnits : Nat
  deriving DecidableEq, Repr

/-! ### Cipher and keys (R267 to R289) -/

/-- A key slot (R283, R277 to R279): kind 0 empty, 1 XTS, 2 GCM; origin 1 generated, 2 imported; KID; which key it
holds, by name; the next write counter; the durable high-water mark; and whether a further reservation is written. -/
structure KeySlot where
  kind : Nat
  origin : Nat
  kid : Nat
  keyId : Nat
  wctr : Nat
  high : Nat
  reserving : Bool
  deriving DecidableEq, Repr

/-- What happens to a namespace once its key is destroyed: it takes a new one, it is deleted, or it takes a new one and
a format. A key replacement that waits for admitted commands (R288): its slot, command, and new key. -/
inductive KeyAct where
  | replace
  | delete
  | format (flbas dps : Nat)
  deriving DecidableEq, Repr

structure KeyWork where
  slot : Nat
  cmd : Option Hdr
  origin : Nat
  keyId : Nat
  act : KeyAct
  deriving DecidableEq, Repr

/-- Cipher cores and keys. `cores` holds the lock registers that are not zero (96 and 97 are the island cores), `waits` the
waiting lists by quadrant, `asks` the request outstanding of each cell's sequencer (R270), `slots` the key RAM, `blobs` the
stored copies, `lost` the slots whose key is lost, `masks` the blocks since the last reseed by core, `erasing` the slots with
old blob pages, with the erase clock when they became so, `works` the replacements that wait for admitted commands, `nextKey`
the next name for a generated key, `tkekBlobs` the stored copies of the transport KEKs, and `requests` the DRBG's generate
requests since its last reseed. -/
structure Cipher where
  cores : Tbl LockId
  waits : Tbl (List LockId)
  asks : Tbl LockId
  slots : Tbl KeySlot
  blobs : Tbl KeySlot
  lost : List Nat
  tkeks : Tbl Nat
  kpio : List (Nat × Nat × Nat)
  masks : Tbl Nat
  erasing : Tbl Nat
  works : List KeyWork
  nextKey : Nat
  tkekBlobs : Tbl Nat
  requests : Nat
  deriving DecidableEq, Repr

/-! ### Digest cores (R290 to R305) -/

/-- A SHA-384 or SHA-512 context: chaining words, bytes absorbed, partial block. -/
structure Digest512 where
  h : List (BitVec 64)
  count : Nat
  tail : List Byte
  deriving DecidableEq, Repr

/-- Chaining state of a core's context. -/
inductive DigestRun where
  | short (c : DigestCtx)
  | long (c : Digest512)
  deriving DecidableEq, Repr

/-- A digest core: algorithm (1 SHA-256, 2 SHA-384, 3 SHA-512), HMAC key, context, result once finished, zone
generation of a restored context, comparator pair, status, result last read, and misuses met (R305). -/
structure DigestSt where
  alg : Nat
  key : Option (List Byte)
  run : DigestRun
  result : Option (List Byte)
  zgen : Nat
  pair : ComparePair
  error : Nat
  lastRead : List Byte
  misuse : Nat
  deriving DecidableEq, Repr

/-! ### Shuttle (R306 to R319) and Basket (R320 to R327) -/

/-- A visible Shuttle channel: its registers, pause sources, the descriptor it moves, whether a descriptor read is out,
and whether it goes OFF once paused. STATE: 0 OFF, 1 IDLE, 2 RUN, 3 PAUSING, 4 PAUSED, 5 HALTED. -/
structure ShuttleSt where
  state : Nat
  ringBase : Nat
  recordAddr : Nat
  ringLog2 : Nat
  tail : Nat
  head : Nat
  pauseSw : Bool
  pauseDom : Bool
  pauseDev : Bool
  errCode : Nat
  errIndex : Nat
  ownStall : Bool
  bytes : Nat
  seq : Nat
  desc : Option ShuttleDesc
  curSrc : Nat
  curDst : Nat
  remain : Nat
  toOff : Bool
  deriving DecidableEq, Repr

/-- An allocated buffer (R326, R327): its reference count, the holder it is charged to, whether the media read's own
reference is out, the functions with command references, each with the fence generation it was made under (R76), oldest
first, the agent it was allocated for where one is named, and whether it came from the general free buffers (R323, R325). -/
structure BufSt where
  refs : Nat
  charge : Option Nat
  own : Bool
  users : List (Nat × Nat)
  agent : Option LockId
  general : Bool
  deriving DecidableEq, Repr

/-- A Basket pool: freed buffers, last freed first; the lowest number never allocated since the list was built; buffers
out of service; allocated buffers; level; holders that wait, in arrival order. The free list is the freed buffers and
then the numbers from `fresh` up. -/
structure PoolSt where
  freed : List Nat
  fresh : Nat
  bad : List Nat
  bufs : Tbl BufSt
  level : Nat
  waiters : List Nat
  deriving DecidableEq, Repr

/-- Engines of the management cluster and cores: digest cores (96 bank K, 97 bank M), Shuttle channels (16 × port +
channel), device windows by number, pools. -/
structure Engines where
  digests : Tbl DigestSt
  shuttles : Tbl ShuttleSt
  windows : Tbl (List Host.Cell)
  pools : Tbl PoolSt
  deriving DecidableEq, Repr

/-! ### Administration (R345 to R367) -/

/-- A running self-test (R352, R355): extended, NSID under test, segment, the manager that started it, and the first
segment that failed, 0 none, and whether it ends at its next step. -/
structure SelfTest where
  extended : Bool
  nsid : Nat
  segment : Nat
  starter : Nat
  failed : Nat
  stopping : Bool
  deriving DecidableEq, Repr

/-- A manager's staging area (R358): the 4 KiB granules written, rising. Its bytes are window 0x0001's. -/
structure Staging where
  granules : List Nat
  deriving DecidableEq, Repr

/-- A sanitize in progress (R365, R366): its action 2 block erase or 4 crypto erase, FREEZE_ABORT, whether the destruction
of its keys has begun, whether the device started it itself, and whether the stripes have been given up. -/
structure Sanitize where
  action : Nat
  abort : Bool
  keysGone : Bool
  own : Bool
  swept : Bool
  deriving DecidableEq, Repr

/-- Administration: self-test and its log, newest first (result plus 16 × its kind, 1 short or 2 extended; segment); firmware
slots 1 to 4 by header, staging areas, the slot to run after the next reset, the slot a switch goes to and its command;
sanitize, its status (0 never, 1 completed, 2 in progress, 3 failed) and the AUSE bit of the last one; per function the
changed namespaces and zones; its error count and the entries of its error log, newest first (count, queue, command, status);
`running` is the header of the running image, none for the factory image; and how many commands and data units each function
has completed (reads, writes, blocks read, written). -/
structure Admin where
  selftest : Option SelfTest
  testLog : List (Nat × Nat)
  slots : Tbl ImageHeader
  running : Option ImageHeader
  stageA : Staging
  stageB : Staging
  onReset : Option Nat
  switchTo : Option Nat
  switchCmd : Option Hdr
  sanitize : Option Sanitize
  sanStatus : Nat
  sanAuse : Bool
  changedNs : Tbl (List Nat)
  changedZones : Tbl (List (Nat × Nat))
  errors : Tbl (Nat × List (List Nat))
  counts : Tbl (Nat × Nat × Nat × Nat)
  deriving DecidableEq, Repr

/-! ### Staing (R448 to R456), security (R457 to R475), migration (R476 to R488) -/

/-- The Staing port: reservation RES, the request last accepted, the response cached for it, the requests that wait, and
since when a pair fault has been absent while the transmitter is off. LAST is 0x1100.0A. -/
structure Staing where
  res : Nat
  lastReq : Option Datagram
  cached : Option Out
  waiting : List Datagram
  pairClear : Option Nat
  deriving DecidableEq, Repr

/-- A loop of R461: the state measured last and since when, the state reported, and since when it has been NORMAL. -/
structure LoopSt where
  seen : LoopState
  since : Nat
  shown : LoopState
  normalSince : Option Nat
  deriving DecidableEq, Repr

/-- The security boundary: ROM recovery; the active marker and the slots with a downgrade mark; the two loops; when the
presence window opened; the jumper condition of R463; the outstanding challenge; the management key by name and its stored
copy; whether the device KEK is derived; the ROOT_GEN recorded with the stores of blobs; whether a crypto erase waits for
service; what clears the keys once nothing is dirty (1 CRYPTO_HALT, 2 a debug unlock); namespaces that R467 bars; and the
health tests' counts: last sample and its run, and the window's first sample, length and matches. -/
structure Security where
  rom : Bool
  marker : Nat
  downgrade : List Nat
  presence : LoopSt
  sealing : LoopSt
  opened : Option Nat
  jumper : Bool
  challenge : Option Nat
  mgmtKey : Option Nat
  mgmtBlob : Option Nat
  kek : Bool
  storeGen : Nat
  eraseDue : Bool
  clearing : Nat
  barred : List Nat
  lastBit : Bool
  run : Nat
  aptBit : Bool
  aptSeen : Nat
  aptCount : Nat
  deriving DecidableEq, Repr

/-- Freezes in progress by instance: the command, and how many commands it has ended under step 2 and step 4 of R477; and the
dirty bitmaps, by 4,096 × instance + NSID − 1, bit u for unit u. -/
structure Migration where
  freezing : Tbl (Hdr × Nat × Nat)
  dirty : Tbl Nat
  deriving DecidableEq, Repr

/-! ### The whole -/

/-- The block. `pending` is the queue of commands, first in, first out; `now` is a clock in ns that never stops, `bootAt` its
reading when PORST_N was last released; `free` counts the free values drawn (log entry 1); `out` is what the device has sent,
oldest first. -/
structure State where
  dict : Dict
  modes : BitVec 12
  sampler : Sampler
  cells : Cells
  host : HostSt
  sched : Sched
  flash : Flash
  store : Store
  power : PowerSt
  mem : Mem
  cipher : Cipher
  engines : Engines
  admin : Admin
  staing : Staing
  security : Security
  migration : Migration
  pending : List Instr
  now : Nat
  bootAt : Nat
  free : Nat
  out : List Out
  deriving DecidableEq, Repr

/-- Reasons for a step to stop with a fault: there is none, the spec gives every command an effect. -/
inductive Fault where
  deriving DecidableEq, Repr

/-- Reasons to refuse a command. -/
inductive Refusal where
  /-- Raised by the dispatch arm of a row that has no meaning yet; safe, since nothing can be proved of a run past it. -/
  | notModelled (mnemonic : String)
  deriving DecidableEq, Repr

/-! ### Reset -/

def Dict.reset : Dict := { force := [], durable := [], frame := [], reboot := [], commits := [], accs := [] }

def Sampler.reset : Sampler :=
  { buf := [], holdSlot := none, next := 0, circ := [], first := [], buckets := [], flushing := none
    due := false, dropped := 0, dropAfter := 0, clockBase := 0, tsOrigin := 0, firstBase := 0
    clearDue := false, link := 0, waiting := [] }

def Cells.reset : Cells :=
  { released := false, queues := [], held := [], results := [], cells := [], fenced := [], inputs := []
    grants := [], inHand := [], failed := [], laneErrs := [], lanesOut := [], linkDead := false, reqs := [], parked := [],
    ring := [], clocks := [] }

def PortSt.reset : PortSt :=
  { up := false, rate := 0, width := 0, flit := false, laneRev := false, polInv := false, below := false, downSince := 0
    perst := false, numVfs := 0, vfEnable := false, retrain := false }

def HostSt.reset : HostSt :=
  { portA := PortSt.reset, portB := PortSt.reset, fns := [], ctxs := [], bells := 0, waits := 0, dones := 0, isumA := none
    isumB := none, isumDelays := (0, 0), paused := false }

def Sched.reset : Sched :=
  { running := false, t0 := 0, k := 0, openAt := 0, planned := 0, isOpen := false, late := 0, banks := [], leftRead := 0
    leftWrite := 0, raLeft := 0, spentRead := 0, spentWrite := 0, bg := [], nextBg := 0, outside := [], periodic := [],
    readCap := 1280000
    writeCap := 200000, windows := [], overran := false, writeIdle := false, writeQuiet := true }

def Flash.reset : Flash := { classes := [], luns := [], channels := [], nextOp := 0 }

def Journal.reset : Journal :=
  { recs := [], since := 0, pages := [], next := 0, durable := 0, wseq := 0, pendingSeqs := [], copies := [], changed := []
    pass := [], digest := 0 }

def Store.reset : Store :=
  { ns := [], durableNs := [], fdp := none, slots := [], nextSlot := 0, media := [], parity := [], journal := Journal.reset
    stripes := [], nextStripe := 0, cursors := [], blocks := [], reads := [], nextRead := 0, fdpEvents := [], fdpTypes := []
    folding := false, mangling := [], replacing := [], erases := [], secureQueue := [], secureDue := [], eraseClock := 0,
    sdQueue := [], darning := [], noReplace := []
    urgent := [], movedToSpares := 0, dump := none, unitsHost := 0, unitsFlash := 0, formatted := false }

def PowerSt.reset : PowerSt :=
  { current := 0, target := 0, requests := [], entry := none, refusals := 0, refuseDomain := 255, refuseHold := 0
    retryAt := none, operational := 0, domains := [], temps := [], diode := .normal, diodeTenths := 0
    scaleNum := 1, scaleDen := 1, canaries := [], unreadable := [], senseMv := 0
    senseFaulty := false, pinClass := .high, dumping := false, restart := false, held := true, latched := false, clean := false }

def DramChan.reset : DramChan :=
  { state := 0, ranks := 0, hot := false, eyeMin := 0, trainFails := 0, centred := 0, writes := [], refresh := [] }

def Mem.reset : Mem :=
  { dram := [], poison := [], requests := [], answer := [], chans := [], hits := [], logs := [], filling := false, granules := 0
    fillAt := 0, valid := [], fails := [], sampled := [], sampling := [], forced := false, passDue := false, aonLost := false
    restartCause := 0, replayed := [], lostUnits := 0 }

def Cipher.reset : Cipher :=
  { cores := [], waits := [], asks := [], slots := [], blobs := [], lost := [], tkeks := [], kpio := [], masks := [], erasing := []
    works := [], nextKey := 0, tkekBlobs := [], requests := 0 }

def Engines.reset : Engines := { digests := [], shuttles := [], windows := [], pools := [] }

def Admin.reset : Admin :=
  { selftest := none, testLog := [], slots := [], running := none, stageA := ⟨[]⟩, stageB := ⟨[]⟩, onReset := none
    switchTo := none, switchCmd := none, sanitize := none, sanStatus := 0, sanAuse := false, changedNs := [], changedZones := []
    errors := [], counts := [] }

def Staing.reset : Staing := { res := 0, lastReq := none, cached := none, waiting := [], pairClear := none }

def LoopSt.reset : LoopSt := { seen := .normal, since := 0, shown := .normal, normalSince := none }

def Security.reset : Security :=
  { rom := false, marker := 1, downgrade := [], presence := LoopSt.reset, sealing := LoopSt.reset, opened := none
    jumper := false, challenge := none, mgmtKey := none, mgmtBlob := none, kek := false, storeGen := 0
    eraseDue := false, clearing := 0, barred := []
    lastBit := false, run := 0, aptBit := false, aptSeen := 0, aptCount := 0 }

def Migration.reset : Migration := { freezing := [], dirty := [] }

/-- The block while PORST_N holds it in reset, before anything has been written: nothing listed anywhere, every object
at its default (R431, R438), MODES at the 0x0001 of 0x2000.01 among them. Boot is what PORST_N_RELEASE does. -/
def State.reset : State :=
  { dict := Dict.reset, modes := 1, sampler := Sampler.reset, cells := Cells.reset, host := HostSt.reset
    sched := Sched.reset, flash := Flash.reset, store := Store.reset, power := PowerSt.reset
    mem := Mem.reset, cipher := Cipher.reset, engines := Engines.reset, admin := Admin.reset
    staing := Staing.reset, security := Security.reset, migration := Migration.reset, pending := [], now := 0, bootAt := 0,
      free := 0, out := [] }

end Sys2Proof.Machine
end

