-- ==== Sys2Proof/Machine/Ops.lean ====
section
/-! DEFINITION. The named operations over the state that every family uses: sparse tables, objects of the dictionary,
Sampler records, mode changes, functions, command contexts and their completion, asynchronous events. -/
namespace Sys2Proof.Machine

/-! ### Sparse tables -/

/-- The entry listed under k. -/
def Tbl.find {α : Type} : Tbl α → Nat → Option α
  | [], _ => none
  | (j, v) :: t, k => if j = k then some v else Tbl.find t k

/-- The table without k. -/
def Tbl.del {α : Type} : Tbl α → Nat → Tbl α
  | [], _ => []
  | (j, v) :: t, k => if j = k then Tbl.del t k else (j, v) :: Tbl.del t k

/-- The table with v under k, in rising order of keys. -/
def Tbl.put {α : Type} : Tbl α → Nat → α → Tbl α
  | [], k, v => [(k, v)]
  | (j, w) :: t, k, v =>
    if k < j then (k, v) :: (j, w) :: t
    else if k = j then (k, v) :: t
    else (j, w) :: Tbl.put t k v

/-- The entry under k, or the default d. -/
def Tbl.get {α : Type} (d : α) (t : Tbl α) (k : Nat) : α := (Tbl.find t k).getD d

/-- The table with v under k, where entries equal to the default d are not listed. -/
def Tbl.set {α : Type} [DecidableEq α] (d : α) (t : Tbl α) (k : Nat) (v : α) : Tbl α :=
  if v = d then Tbl.del t k else Tbl.put t k v

/-- The table with f applied to the entry listed under k, if any. -/
def Tbl.upd {α : Type} (t : Tbl α) (k : Nat) (f : α → α) : Tbl α :=
  match Tbl.find t k with
  | some v => Tbl.put t k (f v)
  | none => t

/-- The table with every entry of u put over it. -/
def Tbl.over {α : Type} (t u : Tbl α) : Tbl α := u.foldl (fun a e => Tbl.put a e.1 e.2) t

/-- The lowest number at or above n that the table does not list, among the next `fuel` numbers. -/
def Tbl.fresh {α : Type} (t : Tbl α) (n : Nat) : Nat → Nat
  | 0 => n
  | fuel + 1 => if (Tbl.find t n).isSome then Tbl.fresh t (n + 1) fuel else n

/-! ### Objects -/

/-- Key of an object: 256 × index + subindex. -/
def ObjRow.key (r : ObjRow) (i j : Nat) : Nat := (r.base + i) * 256 + r.sub + j

/-- The default layout of R36: role code of cell c. -/
def defaultRole (c : Nat) : Nat :=
  if c ∈ [4, 11, 16, 27, 36, 43, 52, 59, 64, 75, 84, 91] then 2
  else if c ∈ [20, 39, 56, 87] then 3
  else if c ∈ [8, 31, 68, 79] then 4
  else if c ∈ [0, 47, 60, 95] then 0
  else 1

/-- The default background shares of R129, in the order of 0x2210.01 to .08. -/
def defaultBgShare (j : Nat) : Nat := [1000, 2500, 500, 300, 200, 32, 100, 0].getD j 0

/-- The default pools of R320: buffer size code, placement code and count of pool p. -/
def defaultPool (p : Nat) : Nat × Nat × Nat :=
  match p with
  | 0 => (1, 1, 262144)
  | 1 => (1, 1, 40960)
  | 2 => (1, 1, 8192)
  | 3 => (2, 1, 2048)
  | 4 => (2, 1, 2048)
  | 5 => (0, 0, 256)
  | 6 => (1, 0, 64)
  | _ => (0, 0, 0)

/-- Default of a row at offset (i, j). -/
def ObjRow.default (r : ObjRow) (i j : Nat) : Nat :=
  match r.dflt with
  | .val n => n
  | .cellRole => defaultRole i
  | .bgShare => defaultBgShare j
  | .poolBuf => (defaultPool i).1
  | .poolPlace => (defaultPool i).2.1
  | .poolCount => (defaultPool i).2.2

/-- A row names the object of a key. -/
def ObjRow.covers (r : ObjRow) (k : Nat) : Bool :=
  r.base ≤ k / 256 && k / 256 < r.base + r.cnt && r.sub ≤ k % 256 && k % 256 < r.sub + r.subs

/-- The row of an object by its key. -/
def Obj.rowOf (k : Nat) : Option ObjRow := Obj.table.find? (·.covers k)

/-- A role may write the object. -/
def ObjRow.writable (r : ObjRow) : Bool :=
  r.acc.manager.canWrite || r.acc.inst.canWrite || r.acc.port.canWrite || r.acc.presence.canWrite
    || r.acc.factory.canWrite

/-- A SAVED value that the device keeps itself (R435). -/
def ObjRow.kept (r : ObjRow) : Bool := r.per = .saved && !r.writable

/-- The value in force of an object (R434). -/
def State.cfg (s : State) (r : ObjRow) (i : Nat := 0) (j : Nat := 0) : Nat :=
  (Tbl.find s.dict.force (r.key i j)).getD (r.default i j)

/-- The state with v in force for an object that the device keeps itself. -/
def State.keep (s : State) (r : ObjRow) (v : Nat) (i : Nat := 0) (j : Nat := 0) : State :=
  let force := if v = (r.default i j) then Tbl.del s.dict.force (r.key i j) else Tbl.put s.dict.force (r.key i j) v
  { s with dict := { s.dict with force := force } }

/-- The state with v in force for an object and, where it is kept over a boot, on media too (R435). -/
def State.save (s : State) (r : ObjRow) (v : Nat) (i : Nat := 0) (j : Nat := 0) : State :=
  let s1 := s.keep r v i j
  if r.per = .volatile then s1
  else { s1 with dict := { s1.dict with durable := Tbl.put s1.dict.durable (r.key i j) v } }

/-- Largest value of a type of so many bytes. -/
def ObjRow.top (r : ObjRow) : Nat := 2 ^ (8 * r.len) - 1

/-- A counter object counts n more; past its width its value is open (log entry 3). -/
def State.bump (s : State) (r : ObjRow) (n : Nat := 1) (i : Nat := 0) (j : Nat := 0) : State :=
  let v := s.cfg r i j + n
  s.keep r (if v ≤ r.top then v else Config.counterWrap (r.key i j) v % (r.top + 1)) i j

/-- A counter object counts one down, and stays at zero. -/
def State.drop1 (s : State) (r : ObjRow) (i : Nat := 0) (j : Nat := 0) : State :=
  s.keep r (s.cfg r i j - 1) i j

/-- TRUE is 1. -/
def State.flag (s : State) (r : ObjRow) (i : Nat := 0) (j : Nat := 0) : Bool := s.cfg r i j = 1

/-! ### Time, free values, output -/

/-- The time since PORST_N was released, in ns (R416). -/
def State.upNs (s : State) : Nat := s.now - s.bootAt

/-- The next free value (log entry 1). -/
def State.draw (s : State) : Nat × State := (Config.freeNat s.free, { s with free := s.free + 1 })

/-- The next free LBA of data (log entry 1). -/
def State.drawData (s : State) : LbaData × State := (Config.freeData s.free, { s with free := s.free + 1 })

/-- The device sends o after everything it has sent. -/
def State.emit (s : State) (o : Out) : State := { s with out := s.out ++ [o] }

/-! ### Modes (R368 to R370) -/

def Mode.service : Nat := 0
def Mode.degraded : Nat := 1
def Mode.readOnly : Nat := 2
def Mode.maintenance : Nat := 3
def Mode.sanitize : Nat := 4
def Mode.activation : Nat := 5
def Mode.freeze : Nat := 6
def Mode.idle : Nat := 7
def Mode.airing : Nat := 8
def Mode.holdUp : Nat := 9
def Mode.recovery : Nat := 10
def Mode.factory : Nat := 11

/-- A mode is set. -/
def State.has (s : State) (m : Nat) : Bool := s.modes.getLsbD m

/-- Erases of Secure Reset are permitted while SERVICE is set, so not in IDLE, AIRING or HOLD-UP (R170). -/
def State.erasePermitted (s : State) : Bool := s.modes.getLsbD Mode.service

/-- The moment of an event, in ns on the clock `now`; time does not run back. -/
def State.tick (s : State) (t : Nat) : State :=
  { s with
    now := max s.now t
    store := { s.store with eraseClock := s.store.eraseClock + if s.erasePermitted then max s.now t - s.now else 0 } }

/-- The word with one bit set. -/
def modeBit (m : Nat) : BitVec 12 := 1#12 <<< m

/-! ### Sampler records (R416 to R421) -/

/-- Severity of a code, and whether it is rate limited (R417). -/
def recordClass (code : Nat) : Nat × Bool :=
  if code = 0x0001 ∨ code = 0x0002 then (0, false)
  else if code = 0x0003 ∨ code = 0x0005 then (1, false)
  else if code = 0x0004 then (2, false)
  else if code = 0x0006 then (3, false)
  else if code ∈ [0x0F01, 0x0F03] then (0, true)
  else if code ∈ [0x0102, 0x0202, 0x0501, 0x0503, 0x0706, 0x0801, 0x0B02, 0x0D01, 0x0F02] then (1, true)
  else if code ∈ [0x0103, 0x0201, 0x0401, 0x0402, 0x0502, 0x0602, 0x0701, 0x0803, 0x0903, 0x0D02, 0x0F04] then (2, true)
  else if code ∈ [0x0804, 0x0902, 0x0A01, 0x0C02] then (4, true)
  else (3, true)

/-- The host clock in ms (R419). -/
def State.hostMs (s : State) : Nat := (s.sampler.clockBase + s.upNs / 1000000) % 2 ^ 48

/-- A record of an event at this moment, without its SEQ. -/
def State.makeRec (s : State) (code subject domain : Nat) (params : List Nat) : Rec :=
  { seq := 0, hostMs := s.hostMs, tsOrigin := s.sampler.tsOrigin, severity := (recordClass code).1, domain := domain,
    powerOnUs := s.upNs / 1000 % 2 ^ 56, boot := s.cfg Obj.boots % 256, code := code, suppressed := 0,
    subject := subject, params := params, link := 0 }

/-- The further slot is kept for the mode change of HOLD-UP, the last 64 of 1,024 for mode change and records dropped
records (R421). -/
def bufferRoom (code : Nat) : Nat := if code = 0x0002 ∨ code = 0x0004 then 1024 else 960

/-- Records that are not stored yet: those in the AON buffer, and those that a flush is programming. -/
def State.pendingRecs (s : State) : Nat := s.sampler.buf.length + (s.sampler.flushing.getD []).length

/-- A flush is due after a record when it is a FAULT or enough records are pending, in PS0 to PS2 (R422). -/
def State.flushWanted (s : State) (severity : Nat) : Bool :=
  (severity = 4 ∨ s.cfg Obj.flushPending ≤ s.pendingRecs)
    && !(s.has Mode.idle) && !(s.has Mode.airing) && !(s.has Mode.holdUp)

/-- A record enters the AON buffer and takes the next SEQ, or is lost and counted (R418, R421). -/
def State.enter (s : State) (r : Rec) : State :=
  if s.pendingRecs < bufferRoom r.code then
    let s1 := { s with sampler := { s.sampler with
      buf := s.sampler.buf ++ [{ r with seq := s.sampler.next }], next := s.sampler.next + 1 } }
    if s1.flushWanted r.severity then { s1 with sampler := { s1.sampler with due := true } } else s1
  else
    let s1 := s.bump Obj.dropped
    { s1 with sampler := { s1.sampler with
        dropAfter := if s.sampler.dropped = 0 then s.sampler.next - 1 else s.sampler.dropAfter,
        dropped := s.sampler.dropped + 1 } }

/-- RATE and BURST of a code are kept per code (R420): key of each in the dictionary's table. -/
def rateKey (code : Nat) : Nat := 0x1000000 + 2 * code

def State.rateOf (s : State) (code : Nat) : Nat := (Tbl.find s.dict.force (rateKey code)).getD 8
def State.burstOf (s : State) (code : Nat) : Nat := (Tbl.find s.dict.force (rateKey code + 1)).getD 32

/-- One token in the units of a bucket's level. -/
def oneToken : Nat := 1000000000

/-- A code's bucket at this moment: it gains RATE tokens a second, up to BURST (R420). Buckets start full. -/
def State.bucket (s : State) (code : Nat) : Bucket :=
  match Tbl.find s.sampler.buckets code with
  | some b => { b with level := min (s.burstOf code * oneToken) (b.level + s.rateOf code * (s.now - b.time)), time := s.now }
  | none => { level := s.burstOf code * oneToken, time := s.now, suppressed := 0, last := none }

def State.setBucket (s : State) (code : Nat) (b : Bucket) : State :=
  { s with sampler := { s.sampler with buckets := Tbl.put s.sampler.buckets code b } }

/-- An event of a code is recorded when it is exempt or its bucket holds a token, and suppressed otherwise (R420). -/
def State.record (s : State) (code : Nat) (params : List Nat) (subject : Nat := 0xFFFF) (domain : Nat := 0xFF) : State :=
  let r := s.makeRec code subject domain params
  if (recordClass code).2 then
    let b := s.bucket code
    if oneToken ≤ b.level then
      (s.setBucket code { b with level := b.level - oneToken, suppressed := 0, last := none }).enter
        { r with suppressed := min 65535 b.suppressed }
    else
      (s.setBucket code { b with suppressed := b.suppressed + 1, last := some r }).bump Obj.suppressedTotal
  else s.enter r

/-- Low and high word of a parameter wider than 32 bits. -/
def lowWord (n : Nat) : Nat := n % 2 ^ 32
def highWord (n : Nat) : Nat := n / 2 ^ 32 % 2 ^ 32

/-! ### Mode changes (R369) -/

/-- The mode word after a change. -/
def newModes (old set clear : BitVec 12) : BitVec 12 := (old &&& ~~~clear) ||| set

/-- Modes whose sleep-entry code is D (R376). -/
def sleepDefer : BitVec 12 := 0xC38#12

/-- A request for PS3 or PS4 waits while a mode defers it: 0x2000.03, and a record when it begins to wait (R381). -/
def State.noteDefer (s : State) : State :=
  let d := if 3 ≤ s.power.target then (s.modes &&& sleepDefer).toNat else 0
  let s1 := s.keep Obj.powerDefer d
  if d ≠ 0 ∧ s.cfg Obj.powerDefer = 0 then s1.record 0x0F01 [d] else s1

/-- A mode change enters its record and then applies; one that changes nothing does nothing; one whose record finds
all 1,024 slots full waits for the flush (R369, R421). HOLD-UP has a slot of its own. -/
def State.changeModes (s : State) (set clear : BitVec 12) (cause : Nat) : State :=
  let new := newModes s.modes set clear
  if new = s.modes then s
  else
    let r := s.makeRec 0x0002 0xFFFF 0xFF [s.modes.toNat, new.toNat, cause]
    if cause = 13 then
      let s1 := (s.keep Obj.modeSeq s.sampler.next).bump Obj.modeChanges
      { s1 with modes := new, sampler := { s1.sampler with
          holdSlot := some { r with seq := s.sampler.next }, next := s.sampler.next + 1 } }.noteDefer
    else if s.pendingRecs < 1024 ∧ s.sampler.waiting = [] then
      let s1 := ((s.keep Obj.modeSeq s.sampler.next).bump Obj.modeChanges).enter r
      { s1 with modes := new }.noteDefer
    else { s with sampler := { s.sampler with waiting := s.sampler.waiting ++ [⟨set, clear, cause⟩], due := true } }

/-- One mode becomes set. -/
def State.setMode (s : State) (m cause : Nat) : State := s.changeModes (modeBit m) 0 cause

/-- One mode ends. -/
def State.clearMode (s : State) (m cause : Nat) : State := s.changeModes 0 (modeBit m) cause

/-! ### Functions -/

end Sys2Proof.Machine

namespace Sys2Proof

/-- Code of a function as records and lock registers write it (R269, R416). -/
def Func.code : Func → Nat
  | .pf0 => 1024
  | .pf1 => 1025
  | .inst n => n.val

def Func.isManager : Func → Bool
  | .pf0 => true
  | .pf1 => true
  | .inst _ => false

/-- The function of a code. -/
def Func.ofCode (n : Nat) : Option Func :=
  if h : n < 1024 then some (.inst ⟨n, h⟩) else if n = 1024 then some .pf0 else if n = 1025 then some .pf1 else none

/-- An accessor's number in the dictionary's own table: PF0 0, PF1 1, the port 2, instance n at 3 + n. -/
def Accessor.code : Accessor → Nat
  | .pf0 => 0
  | .pf1 => 1
  | .port => 2
  | .inst n => 3 + n.val

def Func.accessor : Func → Accessor
  | .pf0 => .pf0
  | .pf1 => .pf1
  | .inst n => .inst n

/-- Dword 0 of an event's completion: type, information and log page (NVM Express; PRESUMED, log entry 6). -/
def AsyncEvent.dw0 : AsyncEvent → Nat
  | .invalidDoorbellRegister => 0x010000
  | .invalidDoorbellValue => 0x010100
  | .spareBelowThreshold => 0x020201
  | .namespaceAttributeChanged => 0x040002
  | .firmwareActivationStarting => 0x030102
  | .zoneDescriptorChanged => 0xBFEF02
  | .fdpEvent => 0x230006

/-- A data pointer is an SGL (R112). -/
def DataPtr.isSgl : DataPtr → Bool
  | .sgl _ _ => true
  | .prp _ _ _ => false

/-- Code of the function of a command. -/
def Hdr.code (h : Hdr) : Nat := h.fn.code

end Sys2Proof

namespace Sys2Proof.Machine

/-- A function before it is enabled: an instance is ABSENT (R75), a manager serves. -/
def Fn.init (state : InstState) : Fn :=
  { state := state, gen := 0, en := false, rdy := false, cfs := false, shst := 0, wrr := false, mps := 0, sqs := [],
    cqs := [], stamp := 0, rr := 0, credits := [], line := none, lineDelay := 0, aers := [], events := [], feats := [],
    savedFeats := [],
    fence := none, passed := false, ioMade := false }

def Fn.default (code : Nat) : Fn := Fn.init (if code < 1024 then .absent else .online)

def State.fnAt (s : State) (code : Nat) : Fn := Tbl.get (Fn.default code) s.host.fns code
def State.fn (s : State) (f : Func) : Fn := s.fnAt f.code

def State.setFnAt (s : State) (code : Nat) (x : Fn) : State :=
  { s with host := { s.host with fns := Tbl.set (Fn.default code) s.host.fns code x } }

def State.setFn (s : State) (f : Func) (x : Fn) : State := s.setFnAt f.code x

/-- The function with f applied to it. -/
def State.modFn (s : State) (f : Func) (g : Fn → Fn) : State := s.setFn f (g (s.fn f))

/-- A freeze of the instance is in progress: FREEZE_PHASE reads DRAINING (R477). -/
def State.draining (s : State) : Func → Bool
  | .inst n => s.cfg Obj.freezePhase n.val = 1
  | .pf0 => false
  | .pf1 => false

/-- DUAL_X8 is in force (R54). -/
def State.dual (s : State) : Bool := s.cfg Obj.portMode = 1

/-- S of R60: virtual functions of port A. -/
def State.split (s : State) : Nat := if s.dual then s.cfg Obj.vfSplitA else 1024

/-- Port of an instance (R61). -/
def State.portOf (s : State) (n : Nat) : Port := if n < s.split then .a else .b

/-- Port of a function. -/
def State.portOfFn (s : State) : Func → Port
  | .pf0 => .a
  | .pf1 => .b
  | .inst n => s.portOf n.val

def portNum : Port → Nat
  | .a => 0
  | .b => 1

def State.port (s : State) : Port → PortSt
  | .a => s.host.portA
  | .b => s.host.portB

def State.setPort (s : State) (p : Port) (x : PortSt) : State :=
  match p with
  | .a => { s with host := { s.host with portA := x } }
  | .b => { s with host := { s.host with portB := x } }

/-- The manager function of a port. -/
def managerOf : Port → Func
  | .a => .pf0
  | .b => .pf1

/-- Instances of a port (R61). -/
def State.instancesOf (s : State) : Port → List Nat
  | .a => List.range s.split
  | .b => (List.range (1024 - s.split)).map (· + s.split)

/-! ### Statuses -/

def Status.success : Status := ⟨0, 0x00⟩
def Status.invalidOpcode : Status := ⟨0, 0x01⟩
def Status.invalidField : Status := ⟨0, 0x02⟩
def Status.dataTransferError : Status := ⟨0, 0x04⟩
def Status.internalError : Status := ⟨0, 0x06⟩
def Status.abortRequested : Status := ⟨0, 0x07⟩
def Status.abortedSqDeletion : Status := ⟨0, 0x08⟩
def Status.invalidNamespace : Status := ⟨0, 0x0B⟩
def Status.sequenceError : Status := ⟨0, 0x0C⟩
def Status.invalidSglSegment : Status := ⟨0, 0x0D⟩
def Status.invalidSglCount : Status := ⟨0, 0x0E⟩
def Status.dataSglLength : Status := ⟨0, 0x0F⟩
def Status.metaSglLength : Status := ⟨0, 0x10⟩
def Status.sglType : Status := ⟨0, 0x11⟩
def Status.prpOffset : Status := ⟨0, 0x13⟩
def Status.operationDenied : Status := ⟨0, 0x15⟩
def Status.sanitizeFailed : Status := ⟨0, 0x1C⟩
def Status.sanitizeInProgress : Status := ⟨0, 0x1D⟩
def Status.writeProtected : Status := ⟨0, 0x20⟩
def Status.interrupted : Status := ⟨0, 0x21⟩
def Status.lbaRange : Status := ⟨0, 0x80⟩
def Status.capacityExceeded : Status := ⟨0, 0x81⟩
def Status.nsNotReady : Status := ⟨0, 0x82⟩
def Status.cqInvalid : Status := ⟨1, 0x00⟩
def Status.invalidQid : Status := ⟨1, 0x01⟩
def Status.invalidQsize : Status := ⟨1, 0x02⟩
def Status.abortLimit : Status := ⟨1, 0x03⟩
def Status.aerLimit : Status := ⟨1, 0x05⟩
def Status.invalidSlot : Status := ⟨1, 0x06⟩
def Status.invalidImage : Status := ⟨1, 0x07⟩
def Status.invalidVector : Status := ⟨1, 0x08⟩
def Status.invalidLogPage : Status := ⟨1, 0x09⟩
def Status.invalidFormat : Status := ⟨1, 0x0A⟩
def Status.needsConventional : Status := ⟨1, 0x0B⟩
def Status.invalidQDeletion : Status := ⟨1, 0x0C⟩
def Status.notSaveable : Status := ⟨1, 0x0D⟩
def Status.notChangeable : Status := ⟨1, 0x0E⟩
def Status.notNsSpecific : Status := ⟨1, 0x0F⟩
def Status.needsSubsystem : Status := ⟨1, 0x10⟩
def Status.activationProhibited : Status := ⟨1, 0x13⟩
def Status.overlappingRange : Status := ⟨1, 0x14⟩
def Status.nsCapacity : Status := ⟨1, 0x15⟩
def Status.nsidUnavailable : Status := ⟨1, 0x16⟩
def Status.nsAttached : Status := ⟨1, 0x18⟩
def Status.nsPrivate : Status := ⟨1, 0x19⟩
def Status.nsNotAttached : Status := ⟨1, 0x1A⟩
def Status.ctrlListInvalid : Status := ⟨1, 0x1C⟩
def Status.selfTestInProgress : Status := ⟨1, 0x1D⟩
def Status.invalidCtrlId : Status := ⟨1, 0x1F⟩
def Status.invalidSecState : Status := ⟨1, 0x20⟩
def Status.invalidResCount : Status := ⟨1, 0x21⟩
def Status.invalidResId : Status := ⟨1, 0x22⟩
def Status.zoneBoundary : Status := ⟨1, 0xB8⟩
def Status.zoneFull : Status := ⟨1, 0xB9⟩
def Status.zoneReadOnly : Status := ⟨1, 0xBA⟩
def Status.zoneOffline : Status := ⟨1, 0xBB⟩
def Status.zoneInvalidWrite : Status := ⟨1, 0xBC⟩
def Status.tooManyActive : Status := ⟨1, 0xBD⟩
def Status.tooManyOpen : Status := ⟨1, 0xBE⟩
def Status.zoneTransition : Status := ⟨1, 0xBF⟩
def Status.commitFailed : Status := ⟨1, 0xC0⟩
def Status.writeRefused : Status := ⟨1, 0xC1⟩
def Status.invalidInstState : Status := ⟨1, 0xC2⟩
def Status.imageInvalid : Status := ⟨1, 0xC3⟩
def Status.imageIncompatible : Status := ⟨1, 0xC4⟩
def Status.writeFault : Status := ⟨2, 0x80⟩
def Status.unrecovered : Status := ⟨2, 0x81⟩
def Status.compareFailure : Status := ⟨2, 0x85⟩
def Status.guardCheck : Status := ⟨2, 0x82⟩
def Status.appTagCheck : Status := ⟨2, 0x83⟩
def Status.refTagCheck : Status := ⟨2, 0x84⟩
def Status.accessDenied : Status := ⟨2, 0x86⟩

/-- A completion with a status and zero dwords. -/
def Cpl.of (st : Status) : Cpl := ⟨st, 0, 0⟩
def Cpl.ok : Cpl := Cpl.of .success
def Cpl.ok0 (dw0 : Nat) : Cpl := ⟨.success, dw0, 0⟩

/-! ### Command contexts (R90, R106) -/

def Ctx.is (c : Ctx) (h : Hdr) : Bool := c.hdr = h

/-- The context of a command that has not been posted. -/
def State.ctx? (s : State) (h : Hdr) : Option Ctx := s.host.ctxs.find? (·.is h)

/-- The state with g applied to a command's context. -/
def State.modCtx (s : State) (h : Hdr) (g : Ctx → Ctx) : State :=
  { s with host := { s.host with ctxs := s.host.ctxs.map fun c => if c.is h then g c else c } }

/-- An entry with a data pointer of zeros, not fused. -/
def plainSqe (cid : Nat) : Sqe := { cid := cid, fused := false, dptr := .prp 0 0 [] }

/-- A fresh context for a fetched entry. -/
def Ctx.new (h : Hdr) (e : Sqe) (stamp : Nat) (gen : BitVec 16) (cqid : Nat) : Ctx :=
  { hdr := h, stamp := stamp, gen := gen, cqid := cqid, fused := e.fused, dptr := e.dptr, begun := false, cmd := none
    wait := .none, mods := [], looks := [], holds := false, chunks := [], open_ := 0, data := [], metas := [], lba := 0
    fua := false, keyTag := none, handle := 0, short := false, admitted := false, held := false, moved := false
    need := [], page := 0, flushOf := none, dst := none, expect := [], expectMetas := [], pi := none, withMeta := false
    purpose := .none, err := none, dw0 := 0, dw1 := 0, got := [], done := none, doneNo := 0 }

/-- Completion queue of a submission queue; the admin queue's is 0. -/
def Fn.cqOf (x : Fn) (sqid : Nat) : Nat :=
  match Tbl.find x.sqs sqid with
  | some q => q.cqid
  | none => 0

/-- A fetched entry takes a context and the function's next fetch stamp (R90, R106). -/
def State.addCtx (s : State) (h : Hdr) (e : Sqe := plainSqe h.cid) : State :=
  let x := s.fn h.fn
  let s1 := s.setFn h.fn { x with stamp := (x.stamp + 1) % 2 ^ 64 }
  { s1 with host := { s1.host with ctxs := s1.host.ctxs ++ [Ctx.new h e x.stamp x.gen (x.cqOf h.sqid)] } }

/-- Commands of a function are fetched only while it is ONLINE or a manager function not in FENCING (R89). -/
def Fn.serves (x : Fn) : Bool := x.state = .online

/-- A block whose domain is reported failed is lost (R33). A lost quadrant takes with it what its routers attach: D05 stands
at the nodes of Q0 and Q1, D02 at one of Q2 (DEDUCED, log entry 136). -/
def State.blockLost (s : State) (d : Nat) : Bool :=
  let failed := fun (e : Nat) => (s.cfg Obj.domainsFailed).testBit e
  failed d || (d = 5 && (failed 50 || failed 51)) || (d = 2 && failed 52)

/-- An earlier command of the same function has not been taken up yet (log entry 5). -/
def State.behind (s : State) (c : Ctx) : Bool :=
  s.host.ctxs.any fun e => e.hdr.fn = c.hdr.fn && e.gen = c.gen && e.stamp < c.stamp && !e.begun && e.done = none

/-- A fetched command is taken up, once, under the generation it was fetched under, in the order of its function's fetch
stamps (R76, R106; log entry 5); not in reset, nor while the host front end, or for an admin command the management cluster,
is lost (R33). -/
def State.begin (s : State) (h : Hdr) : Option State :=
  if s.power.held ∨ s.power.restart ∨ s.blockLost 5 ∨ (h.sqid = 0 ∧ s.blockLost 2) then none
  else match s.ctx? h with
  | some c =>
    if c.gen = (s.fn h.fn).gen ∧ c.done = none ∧ c.begun = false ∧ s.behind c = false then
      some (s.modCtx h fun x => { x with begun := true })
    else none
  | none => none

/-- A command finishes: its completion waits in its context until it is posted (R90). -/
def State.finish (s : State) (h : Hdr) (c : Cpl) : State :=
  let s1 := s.modCtx h fun x =>
    if x.done = none then { x with done := some c, doneNo := s.host.dones, wait := .none, cmd := none, chunks := [] } else x
  { s1 with host := { s1.host with dones := s1.host.dones + 1 } }

/-- The status with which an admin command ends whatever it is: ROM recovery takes only firmware commands (R459), and
CRYPTO_HALT only four commands that read (R474). -/
def State.adminGate (s : State) : Option Status :=
  if s.security.rom then some .invalidOpcode else if s.cfg Obj.cryptoState = 2 then some .operationDenied else none

/-- The status with which every I/O command ends: ROM recovery, CRYPTO_HALT, a debug unlock (R459, R468, R474). -/
def State.ioGate (s : State) : Option Status :=
  if s.security.rom then some .invalidOpcode
  else if s.cfg Obj.cryptoState = 2 ∨ s.cfg Obj.debugState = 1 ∨ s.security.clearing ≠ 0 then some .nsNotReady else none

/-- First failure of two checks. -/
def orElse (a b : Option Status) : Option Status := match a with
  | some st => some st
  | none => b

/-- Fused operations are not implemented (R104). -/
def State.fusedGate (s : State) (h : Hdr) : Option Status :=
  if (s.ctx? h).any (·.fused) then some .invalidOpcode else none

/-- A command begins, and ends at once where a gate closes it. -/
def State.startWith (s : State) (h : Hdr) (gate : State → Option Status) (go : State → State) : State :=
  match s.begin h with
  | none => s
  | some a => match orElse (a.fusedGate h) (gate a) with
    | some st => a.finish h (Cpl.of st)
    | none => go a

/-- PRPs of a transfer of len bytes (R114). -/
def prpCheck (page len prp1 prp2 : Nat) (list : List Nat) : Option Status :=
  let pages := ceilDiv (prp1 % page + len) page
  if prp1 % 4 ≠ 0 then some .prpOffset
  else if pages = 2 ∧ prp2 % page ≠ 0 then some .prpOffset
  else if 2 < pages ∧ (list.take (pages - 1)).any (fun e => e % page ≠ 0) then some .prpOffset
  else none

/-- Bytes of a function's memory page. -/
def Fn.pageBytes (x : Fn) : Nat := 4096 * 2 ^ x.mps

/-- Admin commands come in the admin queue (R101) and use PRPs only (R112). -/
def State.adminEntry (s : State) (h : Hdr) : Option Status :=
  if h.sqid ≠ 0 then some .invalidOpcode
  else if (s.ctx? h).any (fun c => c.dptr.isSgl) then some .invalidField else none

/-- The PRPs of an admin command with a data buffer of so many bytes (R114). -/
def State.adminBuffer (s : State) (h : Hdr) (len : Nat) : Option Status :=
  if len = 0 then none else match s.ctx? h with
  | some c => match c.dptr with
    | .prp p1 p2 l => prpCheck (s.fn h.fn).pageBytes len p1 p2 l
    | .sgl _ _ => none
  | none => none

/-- A refusal of R113, R114 or R115 is counted for an instance. -/
def State.countPointer (s : State) (f : Func) (st : Status) : State :=
  match f with
  | .inst n => if st = .dataTransferError then s.bump Obj.dteCount 1 n.val else s.bump Obj.sglRefused 1 n.val
  | .pf0 => s
  | .pf1 => s

/-- An admin command begins, behind a gate of its own. -/
def State.startAdmin (s : State) (h : Hdr) (gate : State → Option Status) (go : State → State) : State :=
  s.startWith h (fun a => orElse (gate a) (a.adminEntry h)) go

/-- A command that runs to its end in its own step: the body gives the state and its completion. -/
def State.run (s : State) (h : Hdr) (body : State → State × Cpl) : State :=
  s.startAdmin h State.adminGate fun a => ((body a).1).finish h (body a).2

/-- The same for the commands that CRYPTO_HALT serves. -/
def State.runRead (s : State) (h : Hdr) (body : State → State × Cpl) : State :=
  s.startAdmin h (fun a => if a.security.rom then some .invalidOpcode else none) fun a => ((body a).1).finish h (body a).2

/-- A body whose command has a data buffer of so many bytes: its PRPs are checked before (R114). -/
def State.buffered (s : State) (h : Hdr) (len : Nat) (body : State → State × Cpl) : State × Cpl :=
  match s.adminBuffer h len with
  | some st => (s.countPointer h.fn st, Cpl.of st)
  | none => body s

/-- `run` for a command with a data buffer of so many bytes. -/
def State.runData (s : State) (h : Hdr) (len : Nat) (body : State → State × Cpl) : State :=
  s.run h fun a => a.buffered h len body

/-- The command ends with a status and nothing else happens. -/
def refuse (st : Status) (s : State) : State × Cpl := (s, Cpl.of st)

/-- The end of a command of an enabled function and of a fenced one alike is `next`: nothing here stops. -/
abbrev Answer := Host.Outcome State Fault Refusal

/-! ### Dirty tracking (R486) -/

/-- Units first to last of a namespace become dirty in every bitmap that tracks it. -/
def State.markDirty (s : State) (nsid first last : Nat) : State :=
  if last < first then s
  else { s with migration := { s.migration with
    dirty := s.migration.dirty.map fun (e : Nat × Nat) =>
      if e.1 % 4096 = nsid - 1 then (e.1, e.2 ||| ((2 ^ (last + 1 - first) - 1) <<< first)) else e } }

/-- Every unit that some runs name becomes dirty. -/
def State.markRuns (s : State) (runs : List (Nat × Nat × Nat)) : State :=
  runs.foldl (fun a r => a.markDirty r.1 r.2.1 r.2.2) s

/-! ### Asynchronous events (R87, R348) -/

end Sys2Proof.Machine

namespace Sys2Proof

/-- Bit of feature 0Bh that enables an event; error events are always enabled (NVM Express; log entry 6). -/
def AsyncEvent.enable : AsyncEvent → Option Nat
  | .invalidDoorbellRegister => none
  | .invalidDoorbellValue => none
  | .spareBelowThreshold => some 0
  | .namespaceAttributeChanged => some 8
  | .firmwareActivationStarting => some 9
  | .zoneDescriptorChanged => some 27
  | .fdpEvent => some 28

end Sys2Proof

namespace Sys2Proof.Machine

/-- A function has an event enabled: every bit of feature 0Bh is 1 by default (R348). -/
def Fn.wants (x : Fn) (e : AsyncEvent) : Bool :=
  match e.enable with
  | none => true
  | some b => (Tbl.get 0x180003FF x.feats 0x0B).testBit b

/-- An event completes the oldest outstanding Asynchronous Event Request of a function, or is held until one comes; a
FROZEN instance posts nothing, and holds it (R479). -/
def State.raise (s : State) (f : Func) (e : AsyncEvent) : State :=
  let x := s.fn f
  if !(x.wants e) then s
  else if x.state = .frozen then s.setFn f { x with events := x.events ++ [e] }
  else
    match x.aers with
    | h :: t => (s.setFn f { x with aers := t }).finish h (Cpl.ok0 e.dw0)
    | [] => s.setFn f { x with events := x.events ++ [e] }

/-- An event reaches every function of a list of codes. -/
def State.raiseAll (s : State) (codes : List Nat) (e : AsyncEvent) : State :=
  codes.foldl (fun a n => match Func.ofCode n with
    | some f => a.raise f e
    | none => a) s

end Sys2Proof.Machine
end

