-- ==== Sys2Proof/Machine/Cells.lean ====
section
/-! DEFINITION. Cells, dispatch units, and the domains of cells (R10 to R17, R33 to R45). -/
namespace Sys2Proof

/-- Role codes of R35. -/
def Role.code : Role → Nat
  | .spare => 0
  | .host => 1
  | .reclaim => 2
  | .rebuild => 3
  | .scrub => 4
  | .fenced => 7

/-- The operation an item names for the LDPC lane (R12). -/
def WorkItem.laneOp (w : WorkItem) : List (Producer × Nat × LdpcOp) :=
  match w.ldpc with
  | some o => [(w.prod, w.tag, o)]
  | none => []

/-- Number of a virtual channel (R25). -/
def VClass.code : VClass → Nat
  | .request => 0
  | .response => 1
  | .data => 2
  | .control => 3

end Sys2Proof

namespace Sys2Proof.Machine

/-! ### Placement (R21, R22) -/

/-- Quadrant of a node (R22). -/
def quadrantOf (x y : Nat) : Nat := (if 6 ≤ x then 1 else 0) + (if 5 ≤ y then 2 else 0)

/-- Node of cell c (R21). -/
def cellNode (c : Nat) : Nat × Nat := (c % 12, c / 12 + 1)

/-- Node of channel-engine group g (R21). -/
def groupNode (g : Nat) : Nat × Nat :=
  if g < 4 then (g + 1, 0) else if g < 8 then (g + 3, 0) else if g < 12 then (g - 7, 9) else (g - 5, 9)

/-- Node of a producer of work items (R14, R21). -/
def producerNode : Producer → Nat × Nat
  | .hostFrontA => (5, 0)
  | .hostFrontB => (6, 0)
  | .mgmt => (5, 9)
  | .channelGroup g => groupNode g.val

/-- Node of a DRAM channel (R21). -/
def dramNode (c : Nat) : Nat × Nat := (if c % 2 = 0 then 0 else 11, if c < 2 then 0 else 9)

/-- Every endpoint of the fabric: its node and its power domain (R20, R21). -/
def endpoints : List ((Nat × Nat) × Nat) :=
  (List.range 96).map (fun c => (cellNode c, 10 + c / 4)) ++ (List.range 16).map (fun g => (groupNode g, 34 + g))
    ++ [((5, 0), 5), ((6, 0), 5)] ++ (List.range 4).map (fun c => (dramNode c, 6 + c)) ++ [((5, 9), 2), ((6, 9), 1)]

/-- The cell at a node, if one is. -/
def cellAt (x y : Nat) : Option (Fin 96) :=
  if h : 1 ≤ y ∧ 12 * (y - 1) + x < 96 ∧ x < 12 then some ⟨12 * (y - 1) + x, h.2.1⟩ else none

def producerQuadrant (p : Producer) : Nat := quadrantOf (producerNode p).1 (producerNode p).2
def cellQuadrant (c : Nat) : Nat := quadrantOf (cellNode c).1 (cellNode c).2

/-- Power domain of a cell (R20). -/
def cellDomain (c : Nat) : Nat := 10 + c / 4

/-! ### Cells -/

def CellSt.idle : CellSt := { drainTo := none, drained := false, items := [], lane := [], keys := [] }

def State.cell (s : State) (c : Nat) : CellSt := Tbl.get CellSt.idle s.cells.cells c

def State.setCell (s : State) (c : Nat) (x : CellSt) : State :=
  { s with cells := { s.cells with cells := Tbl.set CellSt.idle s.cells.cells c x } }

/-- Role code in force of a cell: the live role table is 0x28nn.01 (R43). -/
def State.cellRole (s : State) (c : Nat) : Nat := s.cfg Obj.cellRole c

/-- Cells that hold a role. -/
def State.roleCount (s : State) (r : Nat) : Nat := (List.range 96).countP (fun c => s.cellRole c = r)

/-- Some on-die sensor is at or above 0x2600.53 (R415). -/
def State.overheated (s : State) : Bool := s.power.temps.any fun t => decide ((s.cfg Obj.thermCritC : Int) ≤ t)

/-- Clock percentage of the power state in force, PS2's while overheated (R393, R415). -/
def State.clockPct (s : State) : Nat :=
  if s.overheated ∨ s.power.current = 2 then 45 else if s.power.current = 1 then 70 else 100

/-- 0x2800.08: the derating percentage of R37 and R393. -/
def State.derate (s : State) : Nat := min 100 (100 * s.roleCount 1 / 72) * s.clockPct / 100

/-- Some cell of the group of c holds a role, so the group is powered (R35). -/
def State.groupActive (s : State) (c : Nat) : Bool :=
  (List.range 4).any fun i => let r := s.cellRole (c / 4 * 4 + i); 1 ≤ r && r ≤ 4

/-- CELL_STATE, 0x28nn.02. -/
def State.cellState (s : State) (c : Nat) : Nat :=
  if s.cellRole c = 7 then 4
  else if s.cellRole c = 0 then (if s.groupActive c then 3 else 0)
  else if (s.cell c).drainTo.isSome then 2 else 1

/-! ### Dispatch (R14 to R16) -/

def queueKey (quadrant role : Nat) : Nat := 8 * quadrant + role

def State.workQueue (s : State) (k : Nat) : List WorkItem := Tbl.get [] s.cells.queues k

def State.setQueue (s : State) (k : Nat) (q : List WorkItem) : State :=
  { s with cells := { s.cells with queues := Tbl.set [] s.cells.queues k q } }

/-- A dispatch queue holds up to 1,024 items (R14). -/
def dispatchDepth : Nat := 1024

/-- A work item goes to its role's queue in the quadrant of its producer, or stays with the producer (R14, R15). -/
def State.post (s : State) (w : WorkItem) : State :=
  let k := queueKey (producerQuadrant w.prod) w.role.code
  if (s.workQueue k).length < dispatchDepth then s.setQueue k (s.workQueue k ++ [w])
  else { s with cells := { s.cells with held := s.cells.held ++ [w] } }

/-- The work of an older fence generation (R76). -/
def State.staleWork (s : State) (w : WorkItem) : Bool :=
  match w.fn with
  | some f => (s.fn f).gen.toNat ≠ w.gen
  | none => false

/-- A producer sees that its item failed; a host command ends with Internal Error (R42). -/
def State.failWork (s : State) (w : WorkItem) : State :=
  let s1 := { s with cells := { s.cells with results := s.cells.results ++ [(w.prod, w.tag, false)] } }
  match w.cmd with
  | some h => s1.finish h (Cpl.of .internalError)
  | none => s1

/-- An item of a fenced cell is posted again, at most 2 times (R42); a full queue refuses it, as any posting (R15). -/
def State.repostAfterFault (s : State) (w : WorkItem) : State :=
  if w.faults + 1 < 3 then s.post { w with faults := w.faults + 1 } else s.failWork w

/-- Fencing of a cell (R41, R42): FENCED at once, reason and count, record, its items posted again, and what its cipher and
digest cores hold is gone, never used; a fault leaves a place for promotion (R43). A cell already FENCED is not fenced
again. -/
def State.fenceCell (s : State) (c reason : Nat) : State :=
  if s.cellRole c = 7 then s
  else
    let items := (s.cell c).items
    let role := s.cellRole c
    let s0 := ((s.save Obj.cellRole 7 c).save Obj.fenceReason reason c).bump Obj.fenceCount 1 c
    let s1 := s0.save Obj.fenceCount (s0.cfg Obj.fenceCount c) c
    let s2 := ({ s1 with
      cipher := { s1.cipher with
        cores := Tbl.del s1.cipher.cores c
        waits := match Tbl.find s1.cipher.asks c with
          | some id => s1.cipher.waits.map fun (e : Nat × List LockId) => (e.1, e.2.filter (· ≠ id))
          | none => s1.cipher.waits
        asks := s1.cipher.asks.filter fun (e : Nat × LockId) => e.1 ≠ c && Tbl.find s1.cipher.cores c ≠ some e.2 }
      engines := { s1.engines with digests := Tbl.del s1.engines.digests c } }.setCell c CellSt.idle).record 0x0101
      [c, reason] 0xFFFF (cellDomain c)
    let s3 := if reason ≤ 5 then
        { s2 with cells := { s2.cells with fenced := s2.cells.fenced ++ [(c, role)] } } else s2
    items.foldl State.repostAfterFault s3

/-- WORK_ITEM_POST (R14, R15). -/
def execWorkItemPost (w : WorkItem) (s : State) : Answer := .next (s.post w)

/-- WORK_ITEM_REPOST (R15): the producer's held item of that tag is posted when the queue accepts it. -/
def execWorkItemRepost (p : Producer) (tag : Nat) (s : State) : Answer :=
  match s.cells.held.find? (fun w => w.prod = p ∧ w.tag = tag) with
  | none => .next s
  | some w =>
    let k := queueKey (producerQuadrant w.prod) w.role.code
    if (s.workQueue k).length < dispatchDepth then
      .next ({ s with cells := { s.cells with held := s.cells.held.erase w } }.setQueue k (s.workQueue k ++ [w]))
    else .next s

/-- The order in which a cell looks at the dispatch units (R14). -/
def takeOrder (q : Nat) : List Nat := [q, (q + 1) % 4, (q + 2) % 4, (q + 3) % 4]

/-- The first item a cell finds, with the queue it lies in and the rest of that queue. -/
def State.nextItem (s : State) (role : Nat) : List Nat → Option (Nat × WorkItem × List WorkItem)
  | [] => none
  | q :: qs =>
    match s.workQueue (queueKey q role) with
    | w :: rest => some (queueKey q role, w, rest)
    | [] => s.nextItem role qs

/-- A cell holds 40 work buffers (R13). -/
def cellBuffers : Nat := 40

/-- CELL_WORK_TAKE (R14): an ACTIVE cell with a free buffer takes the next item of its role, once the dispatch units are
released (R45), and its LDPC operation takes its turn at the lane (R12); an item of an older generation is discarded (R76). -/
def execCellWorkTake (c : Fin 96) (s : State) : Answer :=
  let x := s.cell c.val
  if s.cells.released ∧ s.cellState c.val = 1 ∧ x.items.length < cellBuffers then
    match s.nextItem (s.cellRole c.val) (takeOrder (cellQuadrant c.val)) with
    | none => .next s
    | some (k, w, rest) =>
      let s1 := s.setQueue k rest
      if s.staleWork w then .next s1
      else .next (s1.setCell c.val { x with items := x.items ++ [w], lane := x.lane ++ w.laneOp })
  else .next s

/-- A cell returns an item: its result goes to the producer, tagged, unless its generation is old (R16, R76). -/
def State.returnItem (s : State) (w : WorkItem) (ok : Bool) : State :=
  if s.staleWork w then s
  else if ok then { s with cells := { s.cells with results := s.cells.results ++ [(w.prod, w.tag, true)] } }
  else s.failWork w

/-- The lane after the operation of an item: those before it have ended, as it does one at a time (R12). -/
def laneAfter (p : Producer) (tag : Nat) (l : List (Producer × Nat × LdpcOp)) : List (Producer × Nat × LdpcOp) :=
  if l.any (fun e => e.1 = p && e.2.1 = tag) then (l.dropWhile fun e => !(e.1 = p && e.2.1 = tag)).tail else l

/-- WORK_ITEM_RESULT (R16). A fenced cell holds no item, so no result of its reaches a producer (R42). -/
def execWorkItemResult (c : Fin 96) (p : Producer) (tag : Nat) (ok : Bool) (s : State) : Answer :=
  let x := s.cell c.val
  match x.items.find? (fun w => w.prod = p ∧ w.tag = tag) with
  | none => .next s
  | some w => .next ((s.setCell c.val { x with items := x.items.erase w, lane := laneAfter p tag x.lane }).returnItem w ok)

/-- SEQUENCER_WATCHDOG_EXPIRY (R17). -/
def execSequencerWatchdogExpiry (c : Fin 96) (s : State) : Answer := .next (s.fenceCell c.val 3)

/-- CELL_DRAINED (R39): the draining cell returns what it holds, reports DRAINED, and its key cache is cleared. -/
def execCellDrained (c : Fin 96) (s : State) : Answer :=
  let x := s.cell c.val
  if x.drainTo.isSome then
    .next (x.items.foldl (fun a w => a.returnItem w true)
      (s.setCell c.val { x with drained := true, items := [], lane := [], keys := [] }))
  else .next s

/-! ### Role changes and promotion (R39, R43) -/

/-- A committed role starts to act on a cell (R39): its own role cancels what it awaits, FENCED at once, a drain for a cell
at work, and for a SPARE or a returning cell the new role at the next boundary. A returning cell no longer awaits a promotion
(R43). -/
def State.commitRole (s : State) (c role : Nat) : State :=
  let old := s.cellRole c
  if old = role then s.setCell c { s.cell c with drainTo := none, drained := false }
  else if role = 7 then s.fenceCell c 6
  else
    let s1 := { s with cells := { s.cells with fenced := s.cells.fenced.filter (fun e => e.1 ≠ c) } }
    s1.setCell c { s.cell c with drainTo := some role, drained := old = 0 || old = 7 }

/-- The lowest-numbered SPARE cell not yet taken. -/
def State.spareCell (s : State) : Option Nat :=
  (List.range 96).find? fun c => s.cellRole c = 0 && (s.cell c).drainTo.isNone

/-- Cells of a role that do not leave it. -/
def State.staying (s : State) (r : Nat) : Nat :=
  (List.range 96).countP fun c => s.cellRole c = r && (s.cell c).drainTo.isNone

/-- The highest-numbered REBUILD or SCRUB cell whose role would still hold 2 cells after the take (R43). -/
def State.sparedWorker (s : State) : Option Nat :=
  (List.range 96).reverse.find? fun c =>
    (s.cell c).drainTo.isNone && ((s.cellRole c = 3 && 3 ≤ s.staying 3) || (s.cellRole c = 4 && 3 ≤ s.staying 4))

/-- The saved layout takes a role whose drain has not ended (R45). -/
def State.saveRole (s : State) (c role : Nat) : State :=
  { s with dict := { s.dict with durable := Tbl.put s.dict.durable (Obj.cellRole.key c 0) role } }

/-- One promotion for a fenced cell (R43): a SPARE at once, else a worker that drains first, else nothing. -/
def State.promoteFor (s : State) (cell role : Nat) : State :=
  match s.spareCell with
  | some c =>
    ((s.save Obj.cellRole role c).bump Obj.layoutId).record 0x0102 [c, role, cell] 0xFFFF (cellDomain c)
  | none =>
    if role = 1 ∨ role = 2 then
      match s.sparedWorker with
      | some c =>
        (((s.setCell c { s.cell c with drainTo := some role, drained := false }).saveRole c role).bump Obj.layoutId).record
          0x0102 [c, role, cell] 0xFFFF (cellDomain c)
      | none => s
    else s

/-- Insertion by cell number. -/
def insertCell (e : Nat × Nat) : List (Nat × Nat) → List (Nat × Nat)
  | [] => [e]
  | d :: t => if e.1 ≤ d.1 then e :: d :: t else d :: insertCell e t

/-- Promotion at a boundary for every pending cell, in ascending cell number, while AUTO_PROMOTE is TRUE (R43). -/
def State.promoteAll (s : State) : State :=
  if s.flag Obj.autoPromote then
    let due := s.cells.fenced.foldr insertCell []
    due.foldl (fun a e => a.promoteFor e.1 e.2) { s with cells := { s.cells with fenced := [] } }
  else s

/-- A cell that has drained takes its new role at the boundary (step 4 of R39). -/
def State.takeRole (s : State) (c : Nat) : State :=
  let x := s.cell c
  match x.drainTo with
  | some r => if x.drained then (s.save Obj.cellRole r c).setCell c { x with drainTo := none, drained := false } else s
  | none => s

/-- What a frame boundary does to the cells. -/
def State.cellsBoundary (s : State) : State := ((List.range 96).foldl State.takeRole s).promoteAll

/-! ### Domains of the configuration plane (R19, R33) -/

/-- Cells of a domain: those of group d − 10 for D10 to D33 (R20). -/
def domainCells (d : Nat) : List Nat := if 10 ≤ d ∧ d ≤ 33 then (List.range 4).map (· + 4 * (d - 10)) else []

/-- Cells that a failed domain takes: those of its group, or those at the routers of its quadrant (R33). -/
def lostCells (d : Nat) : List Nat :=
  if 50 ≤ d ∧ d ≤ 53 then (List.range 96).filter fun c => cellQuadrant c = d - 50 else domainCells d

/-- A domain is reported failed in 0x6000.11; the cells of a group are fenced with reason 4 (R33). -/
def State.failDomain (s : State) (d : Nat) : State :=
  (lostCells d).foldl (fun a c => a.fenceCell c 4) (s.keep Obj.domainsFailed (s.cfg Obj.domainsFailed ||| 2 ^ d))

end Sys2Proof.Machine
end

