-- ==== Sys2Proof/Machine/Fabric.lean ====
section
/-! DEFINITION. The fabric: power of its endpoints and quadrants, packets, arbitration and requests (R19, R21 to R32, R48). -/
namespace Sys2Proof.Machine

/-! ### Power of domains, endpoints and quadrants (R20 to R22) -/

/-- A domain in its PS0 to PS2 state that has never refused. -/
def DomainSt.awake : DomainSt := { state := .on, refusals := 0, goal := .on }

def State.domain (s : State) (d : Nat) : DomainSt := Tbl.get DomainSt.awake s.power.domains d

def State.setDomain (s : State) (d : Nat) (x : DomainSt) : State :=
  { s with power := { s.power with domains := Tbl.set DomainSt.awake s.power.domains d x } }

/-- The block of a domain that holds endpoints, or of D54, works outside the sleep states: a cell group while it holds an
active cell, any other always (R20, R390). -/
def State.endpointOn (s : State) (d : Nat) : Bool := if 10 ≤ d ∧ d ≤ 33 then s.groupActive (4 * (d - 10)) else true

/-- Quadrant q is powered outside the sleep states: a powered endpoint is attached to it, or an X-first route crosses it, and
one does just where a powered endpoint stands in its rows and one in its columns (R22, R26). -/
def State.quadrantOn (s : State) (q : Nat) : Bool :=
  let up := endpoints.filter fun e => s.endpointOn e.2
  (up.any fun e => quadrantOf e.1.1 e.1.2 / 2 = q / 2) && (up.any fun e => quadrantOf e.1.1 e.1.2 % 2 = q % 2)

/-- Whether a domain's block works outside the sleep states: D55 while debug is unlocked, a fabric quadrant as R22 asks. -/
def State.domainOn (s : State) (d : Nat) : Bool :=
  if d = 55 then s.cfg Obj.debugState = 1 else if 50 ≤ d ∧ d ≤ 53 then s.quadrantOn (d - 50) else s.endpointOn d

/-- The links into a domain take a packet: it is ON and they are not parked, or it is STOPPING and the packet is no new request
(R19, R387, R390). -/
def State.linked (s : State) (d : Nat) (vc : VClass) : Bool :=
  ((s.domain d).state = .on && !(s.cells.parked.contains d)) || ((s.domain d).state = .stopping && vc ≠ .request)

/-- Domain of the endpoint at a node; every node of the mesh has one (R21). -/
def nodeDomain (x y : Nat) : Nat := ((endpoints.find? fun e => e.1 = (x, y)).map (·.2)).getD 0

/-- The endpoint at a node is cut off from the fabric: a FENCED cell, or a block that is lost (R33, R35). -/
def State.isolated (s : State) (x y : Nat) : Bool :=
  s.blockLost (nodeDomain x y) || (cellAt x y).any fun c => s.cellRole c.val = 7

/-! ### Buffers and routes (R23 to R26) -/

/-- A router's number. -/
def routerKey (x y : Nat) : Nat := 12 * y + x

/-- An input buffer: router, input port (0 east, 1 west, 2 south, 3 north, 4 and 5 local), virtual channel. -/
def inputKey (x y port vc : Nat) : Nat := (routerKey x y * 6 + port) * 4 + vc

def State.input (s : State) (k : Nat) : List Packet := Tbl.get [] s.cells.inputs k

def State.setInput (s : State) (k : Nat) (q : List Packet) : State :=
  { s with cells := { s.cells with inputs := Tbl.set [] s.cells.inputs k q } }

/-- Beats a packet takes: one header, and its data (R24). -/
def Packet_beats (p : Packet) : Nat := 1 + p.beats.val

/-- An input buffer takes 18 beats per virtual channel (R25). -/
def State.hasCredit (s : State) (k : Nat) (p : Packet) : Bool :=
  ((s.input k).map Packet_beats).sum + Packet_beats p ≤ 18

/-- Output port of a packet at node (x, y): along its row first, then along its column, then the local port (R26). -/
def outPort (x y : Nat) (p : Packet) : Nat :=
  if x < p.dstX.val then 0 else if p.dstX.val < x then 1 else if y < p.dstY.val then 2 else if p.dstY.val < y then 3
  else 4

/-- Node behind an output port. -/
def nextNode (x y port : Nat) : Nat × Nat :=
  match port with
  | 0 => (x + 1, y)
  | 1 => (x - 1, y)
  | 2 => (x, y + 1)
  | 3 => (x, y - 1)
  | _ => (x, y)

/-- The input port a packet arrives at after leaving through an output port. -/
def arrivalPort (port : Nat) : Nat :=
  match port with
  | 0 => 1
  | 1 => 0
  | 2 => 3
  | 3 => 2
  | _ => 4

/-- Buffer a packet goes to from output port o of (x, y). -/
def hopKey (x y o : Nat) (p : Packet) : Nat :=
  inputKey (nextNode x y o).1 (nextNode x y o).2 (arrivalPort o) p.vc.code

/-- Lanes of a link that are out, as a mask, by the router and port it enters. -/
def State.lanesOut (s : State) (x y port : Nat) : Nat := Tbl.get 0 s.cells.lanesOut (routerKey x y * 6 + port)

/-! ### Arbitration (R27, R28) -/

/-- A packet at (x, y) may leave through output o: its next buffer has credit and the link a lane, or its endpoint takes it:
a block that is cut off discards what reaches it (R19, R31, R35, R48). -/
def State.mayLeave (s : State) (x y o : Nat) (p : Packet) : Bool :=
  if o = 4 then s.isolated x y || s.linked (nodeDomain x y) p.vc
  else s.hasCredit (hopKey x y o p) p && s.lanesOut (nextNode x y o).1 (nextNode x y o).2 (arrivalPort o) ≠ 15

/-- The 24 (input, virtual channel) pairs of a router, counted from one pair on. -/
def pairsFrom (start : Nat) : List Nat := (List.range 24).map fun i => (start + i) % 24

/-- Pairs of a router whose head packet is ready for output o (R27). -/
def State.ready (s : State) (x y o start : Nat) : List (Nat × Packet) :=
  (pairsFrom start).filterMap fun i =>
    match s.input (routerKey x y * 24 + i) with
    | p :: _ => if outPort x y p = o ∧ s.mayLeave x y o p then some (i, p) else none
    | [] => none

/-- The pair of greatest age; the first of equals in round-robin order (R27). -/
def oldest : List (Nat × Packet) → Option (Nat × Packet)
  | [] => none
  | e :: t =>
    match oldest t with
    | none => some e
    | some f => if f.2.age.val ≤ e.2.age.val then some e else some f

/-- A lost arbitration raises an age by one, up to 255 (R27). -/
def older (a : Fin 256) : Fin 256 := if h : a.val + 1 < 256 then ⟨a.val + 1, h⟩ else a

/-- The head packet of pair i grows older. -/
def State.ageHead (s : State) (x y i : Nat) : State :=
  let k := routerKey x y * 24 + i
  match s.input k with
  | p :: rest => s.setInput k ({ p with age := older p.age } :: rest)
  | [] => s

/-! ### Endpoints (R30, R32, R48) -/

/-- A packet reaches its endpoint, which sinks it (R48). Poisoned payload is not used: the transfer has failed (R30). A
response ends its request, ACCEPT marks it, and a request whose tag the endpoint has in hand is not taken twice (R32). -/
def State.deliver (s : State) (p : Packet) : State :=
  if s.isolated p.dstX.val p.dstY.val then s
  else if p.poisoned then { s with cells := { s.cells with failed := s.cells.failed ++ [p] } }
  else match p.vc with
  | .response => { s with cells := { s.cells with reqs := s.cells.reqs.filter (·.tag ≠ p.tag) } }
  | .control =>
    { s with cells := { s.cells with
        reqs := s.cells.reqs.map fun r => if r.tag = p.tag then { r with accepted := true } else r } }
  | .request =>
    if s.cells.inHand.any (fun q => q.tag = p.tag) then s
    else { s with cells := { s.cells with inHand := s.cells.inHand ++ [p] } }
  | .data => s

/-- One grant of output o of router (x, y) (R27). -/
def State.grant (s : State) (x y o : Nat) : State :=
  let g := routerKey x y * 6 + o
  let cands := s.ready x y o (Tbl.get 0 s.cells.grants g)
  match oldest cands with
  | none => s
  | some (i, p) =>
    let s1 := (cands.filter (fun e => e.1 ≠ i)).foldl (fun a e => a.ageHead x y e.1) s
    let k := routerKey x y * 24 + i
    let s2 := s1.setInput k (s1.input k).tail
    let s3 := { s2 with cells := { s2.cells with grants := Tbl.set 0 s2.cells.grants g ((i + 1) % 24) } }
    if o = 4 then s3.deliver p else s3.setInput (hopKey x y o p) (s3.input (hopKey x y o p) ++ [p])

/-- An output for which some packet is ready. -/
def State.nextGrant (s : State) : Option (Nat × Nat × Nat) :=
  s.cells.inputs.findSome? fun (e : Nat × List Packet) =>
    let x := e.1 / 24 % 12
    let y := e.1 / 288
    match e.2 with
    | p :: _ => if s.mayLeave x y (outPort x y p) p then some (x, y, outPort x y p) else none
    | [] => none

/-- Outputs grant, one packet at a time, as long as one is ready. -/
def State.grants (s : State) : Nat → State
  | 0 => s
  | fuel + 1 => match s.nextGrant with
    | some (x, y, o) => (s.grant x y o).grants fuel
    | none => s

/-- Every packet that may move has moved: a route is at most 20 hops and a delivery (R26, R29). In which order the outputs of
different routers grant is the model's choice (log entry 138). -/
def State.settleFabric (s : State) : State := s.grants (21 * (s.cells.inputs.map fun (e : Nat × List Packet) => e.2.length).sum)

/-! ### Injection, errors and requests (R30 to R32) -/

/-- Key of a lane of an input link. -/
def laneKey (x y port lane : Nat) : Nat := (routerKey x y * 6 + port) * 4 + lane

def State.laneErr (s : State) (k : Nat) : LaneErr :=
  Tbl.get { count := 0, since := s.now, hard := false } s.cells.laneErrs k

/-- An error counts against its lane: a corrected one in the second that the first of its kind began, an uncorrectable one
for good (R30, R31). -/
def State.countLane (s : State) (x y port lane : Nat) (hard : Bool) : State :=
  let k := laneKey x y port lane
  let e := s.laneErr k
  let e1 : LaneErr := if hard then { e with hard := true }
    else if s.now - e.since < 1000000000 then { e with count := e.count + 1 } else { e with count := 1, since := s.now }
  { s with cells := { s.cells with laneErrs := Tbl.put s.cells.laneErrs k e1 } }

def State.countBeat (s : State) (x y port : Nat) : BeatErr → State
  | .clean => s
  | .corrected lane => s.countLane x y port lane.val false
  | .uncorrectable lane => s.countLane x y port lane.val true

def BeatErr_bad : BeatErr → Bool
  | .uncorrectable _ => true
  | .corrected _ => false
  | .clean => false

/-- The request that a local injection opens: its entry is the buffer reserved for the answer (R32, R48). -/
def State.requestOf (s : State) (port : Nat) (p : Packet) : FabricReq :=
  { tag := p.tag, reissues := 0, accepted := false, consumer := p.origin, agent := p.agent, packet := p, port := port, since := s.now }

/-- What an injection at a local port does besides: a request is opened once; a response is the answer to a request in hand. -/
def State.inject (s : State) (port : Nat) (p : Packet) : State :=
  match p.vc with
  | .request =>
    if s.cells.reqs.any (·.tag = p.tag) then s
    else { s with cells := { s.cells with reqs := s.cells.reqs ++ [s.requestOf port p] } }
  | .response => { s with cells := { s.cells with inHand := s.cells.inHand.filter (·.tag ≠ p.tag) } }
  | .data => s
  | .control => s

/-- FABRIC_PACKET (R24 to R30): the beats are checked; a bad header beat discards the packet, a bad data beat poisons
it; it enters its buffer where it has credit, and the routers grant. A block that is cut off injects nothing (R33, R35). -/
def execFabricPacket (x : Fin 12) (y : Fin 10) (inPort : Fin 6) (p : Packet) (errs : List BeatErr) (s : State) : Answer :=
  let local_ := decide (4 ≤ inPort.val)
  if local_ && s.isolated x.val y.val then .next s
  else
    let s1 := errs.foldl (fun a e => a.countBeat x.val y.val inPort.val e) s
    if BeatErr_bad (errs.headD .clean) then .next s1
    else
      let p1 := { p with poisoned := p.poisoned || errs.tail.any BeatErr_bad, age := if local_ then 0 else p.age }
      let k := inputKey x.val y.val inPort.val p.vc.code
      if s1.hasCredit k p1 then
        let s2 := s1.setInput k (s1.input k ++ [p1])
        .next (if local_ then s2.inject inPort.val p1 else s2).settleFabric
      else .next s1

/-- FABRIC_ACCEPT (R32). -/
def execFabricAccept (tag : Nat) (s : State) : Answer :=
  .next { s with cells := { s.cells with
    reqs := s.cells.reqs.map fun r => if r.tag = tag then { r with accepted := true } else r } }

/-- The links into some domains are parked (R19). -/
def State.park (s : State) (ds : List Nat) : State :=
  { s with cells := { s.cells with parked := s.cells.parked.filter (fun d => !(ds.contains d)) ++ ds } }

end Sys2Proof.Machine
end

