-- ==== Sys2Proof/Machine/Pools.lean ====
section
/-! DEFINITION. Basket buffer pools: free lists, reserved minima, thresholds, reference counts and fetch back-pressure
(R320 to R327). -/
namespace Sys2Proof.Machine

def PoolSt.reset : PoolSt := { freed := [], fresh := 0, bad := [], bufs := [], level := 0, waiters := [] }

def State.pool (s : State) (p : Nat) : PoolSt := Tbl.get PoolSt.reset s.engines.pools p

def State.setPool (s : State) (p : Nat) (x : PoolSt) : State :=
  { s with engines := { s.engines with pools := Tbl.set PoolSt.reset s.engines.pools p x } }

/-- Buffers of a pool. Pool 0 is the write buffer, sized at boot from the dirty limit (R320, R413). -/
def State.poolSize (s : State) (p : Nat) : Nat := s.cfg Obj.poolCount p

/-- Holder numbers: functions by code, tasks as their banks, the journal. -/
def Holder_num : Holder → Nat
  | .fn f => f.code
  | .reclaim => 1100
  | .rebuild => 1101
  | .scrub => 1102
  | .journal => 1110

/-- Reserved minimum of a holder in a pool (R323). -/
def State.minimum (s : State) (p h : Nat) : Nat :=
  if p = 1 then
    (if h < 1024 then (if (s.fnAt h).state = .absent then 0 else s.cfg Obj.basketMin h) else if h < 1026 then 64 else 0)
  else if p = 5 then (if h = 1024 ∨ h = 1025 then 64 else 0)
  else if p = 3 then (if h = 1100 then s.cfg Obj.minReclaim else 0)
  else if p = 2 then (if h = 1101 then s.cfg Obj.minRebuild else if h = 1102 then s.cfg Obj.minScrub else 0)
  else if p = 6 then (if h = 1110 then s.poolSize 6 else 0)
  else 0

/-- Every holder number. -/
def holders : List Nat := List.range 1024 ++ [1024, 1025, 1100, 1101, 1102, 1110]

/-- Buffers of a pool that are charged to a holder. -/
def PoolSt.inUse (x : PoolSt) (h : Nat) : Nat := x.bufs.countP fun e => e.2.charge = some h

/-- Free buffers: those freed, and those never taken since the list was built. -/
def State.poolFree (s : State) (p : Nat) : Nat :=
  if p = 0 then s.poolSize 0 - s.store.slots.length else (s.pool p).freed.length + (s.poolSize p - (s.pool p).fresh)

/-- Total reserve of a pool, and the part of it that is not in use. Where PF1 does not exist it has none. -/
def State.poolReserve (s : State) (p : Nat) : Nat :=
  ((holders.filter fun h => h ≠ 1025 || s.dual).map (s.minimum p)).sum

def State.poolKept (s : State) (p : Nat) : Nat :=
  ((holders.filter fun h => h ≠ 1025 || s.dual).map fun h => s.minimum p h - (s.pool p).inUse h).sum

/-- General free buffers (R323). -/
def State.generalFree (s : State) (p : Nat) : Nat := s.poolFree p - s.poolKept p

/-- Level of a pool at so many general free buffers (R325): a threshold is left again 2 points above it. -/
def levelOf (old gf cap notice throttle stop : Nat) : Nat :=
  let low := fun (k pct : Nat) => decide (gf * 100 ≤ pct * cap) || (decide (k ≤ old) && decide (gf * 100 < (pct + 2) * cap))
  if cap = 0 then 0
  else if low 3 stop then 3
  else if low 2 throttle then 2
  else if low 1 notice then 1
  else 0

def State.levelNow (s : State) (p : Nat) : Nat :=
  levelOf (s.pool p).level (s.generalFree p) (s.poolSize p - s.poolReserve p) (s.cfg Obj.noticePct p) (s.cfg Obj.throttlePct p)
    (s.cfg Obj.stopPct p)

/-- The level after an operation: entering notice takes a record, entering stop is counted (R325). -/
def State.settlePool (s : State) (p : Nat) : State :=
  let x := s.pool p
  let l := s.levelNow p
  let s1 := (s.setPool p { x with level := l }).keep Obj.poolLevel l p
  let s2 := if x.level = 0 ∧ l ≠ 0 then s1.record 0x0B02 [p] else s1
  if l = 3 ∧ x.level ≠ 3 then s2.bump Obj.stopEntries 1 p else s2

/-! ### Back-pressure at fetch (R325) -/

/-- Buffers an instance uses of the two pools that its commands fill. -/
def State.poolUse (s : State) (p n : Nat) : Nat :=
  if p = 0 then s.store.slots.countP fun e => (e.2.writers.head?).any (·.1 = n) else (s.pool p).inUse n

/-- An instance is above its minimum in a pool at a level or above; for pool 0 its minimum is BASKET_MIN. -/
def State.poolPresses (s : State) (level : Nat) : Func → Bool
  | .pf0 => false
  | .pf1 => false
  | .inst n => [0, 1].any fun p => level ≤ s.levelNow p && s.cfg Obj.basketMin n.val < s.poolUse p n.val

/-- Not eligible for fetch at the stop level. -/
def State.basketHolds (s : State) (f : Func) : Bool := s.poolPresses 3 f

/-- Fetch is limited at the throttle level. -/
def State.basketThrottles (s : State) (f : Func) : Bool := s.poolPresses 2 f

/-- Pool and holder number of a background task's buffers (R323). -/
def Task.bufHolder : Task → Nat × Nat
  | .reclaim => (3, 1100)
  | .rebuild => (2, 1101)
  | .scrub => (2, 1102)
  | .selftest => (2, 1102)

/-- A background task is above its minimum in its pool at a level or above (R325). -/
def State.taskPresses (s : State) (level : Nat) (t : Task) : Bool :=
  level ≤ s.levelNow t.bufHolder.1 && s.minimum t.bufHolder.1 t.bufHolder.2 < (s.pool t.bufHolder.1).inUse t.bufHolder.2

/-- A turn is withheld and counted. -/
def State.passOver (s : State) (f : Func) : State :=
  let s1 := s.modFn f fun x => { x with passed := true }
  match f with
  | .inst n => s1.bump Obj.basketHeld 1 n.val
  | .pf0 => s1
  | .pf1 => s1

/-! ### Allocator (R321, R322) -/

/-- A fault of the allocator: its record and count, with the buffer's address. -/
def State.basketFault (s : State) (p b : Nat) : State :=
  (s.bump Obj.poolFaults 1 p).record 0x0B01 [p, lowWord (Config.bufferAddr p b), highWord (Config.bufferAddr p b)]

/-- Head of a pool's free list, and the list without it. -/
def State.popBuf (s : State) (p : Nat) : Option (Nat × PoolSt) :=
  let x := s.pool p
  match x.freed with
  | b :: t => some (b, { x with freed := t })
  | [] => if x.fresh < s.poolSize p then some (x.fresh, { x with fresh := x.fresh + 1 }) else none

def insertBuf (b : Nat) : List Nat → List Nat
  | [] => [b]
  | c :: t => if b ≤ c then b :: c :: t else c :: insertBuf b t

/-- The list rebuilt from the bitmap, in rising order. -/
def PoolSt.rebuilt (x : PoolSt) : PoolSt := { x with freed := x.freed.foldr insertBuf [] }

/-- 0x4nnn.31 of an instance after its pool 1 buffers changed. -/
def State.countUse (s : State) (p : Nat) (h : Option Nat) : State :=
  match h with
  | some n => if p = 1 ∧ n < 1024 then s.keep Obj.basketInUse ((s.pool 1).inUse n) n else s
  | none => s

/-- A buffer leaves the list for a holder, with one reference (R326). A pool 1 buffer serves a media read, which holds a
reference of its own. -/
def State.giveBuf (s : State) (p b h : Nat) (agent : Option LockId) (x : PoolSt) : State :=
  let fn := h < 1026
  let own := p = 1 || !fn
  let y : BufSt :=
    { refs := if p = 1 ∧ fn then 2 else 1, charge := some h, own := own, users := if fn then [(h, (s.fnAt h).gen.toNat)] else []
      agent := agent, general := s.minimum p h ≤ (s.pool p).inUse h }
  let s1 := s.setPool p { x with bufs := Tbl.put x.bufs b y }
  (s1.countUse p (some h)).settlePool p

/-- A holder is served from its reserve below its minimum, else from the general free buffers (R323). -/
def State.maySupply (s : State) (p h : Nat) : Bool :=
  if (s.pool p).inUse h < s.minimum p h then 0 < s.poolFree p else 0 < s.generalFree p

/-- A bad link keeps its buffer out of service until the next boot, and the list is rebuilt (R322). -/
def State.badLink (s : State) (p : Nat) : State :=
  match s.popBuf p with
  | some (b, x) => (s.setPool p { x.rebuilt with bad := x.bad ++ [b] }).basketFault p b
  | none => s

/-- An agent holds a general buffer of the pool, so that it does not wait for another (R325). -/
def PoolSt.holdsGeneral (x : PoolSt) (agent : Option LockId) : Bool :=
  agent.isSome && x.bufs.any fun e => e.2.general && e.2.agent = agent

/-- A holder waits in the pool's line (R325). -/
def State.waitBuf (s : State) (p h : Nat) : State := s.setPool p { s.pool p with waiters := (s.pool p).waiters ++ [h] }

/-- An allocation: the head of the list, or a place in the pool's waiting line (R325). -/
def State.allocate (s : State) (p h : Nat) (agent : Option LockId) : State :=
  match (if s.maySupply p h then s.popBuf p else none) with
  | some (b, x) => s.giveBuf p b h agent x
  | none => if (s.pool p).holdsGeneral agent then s else s.waitBuf p h

/-- An agent holds or awaits a cipher-core lock, or has a fabric request open: both come after Basket in R49. -/
def State.pastBasket (s : State) (a : LockId) : Bool :=
  s.cipher.cores.any (·.2 = a) || s.cipher.waits.any (·.2.contains a) || s.cells.reqs.any (·.agent = some a)

/-- BUFFER_ALLOCATE (R321 to R323), for an agent that holds nothing later in the order of R49. Pool 0 is allocated as slots of
the write buffer. -/
def execBufferAllocate (pool : Fin 16) (h : Holder) (agent : Option LockId) (linkOk : Bool) (s : State) : Answer :=
  if agent.any s.pastBasket then .next s
  else .next ((if linkOk then s else s.badLink pool.val).allocate pool.val (Holder_num h) agent)

/-! ### Reference counts (R326, R327) -/

/-- REFERENCE_INCREMENT (R326): succeeds while the count is at least 1 and below 0x2480.04. A buffer charged to no holder
is charged to the new user (R327). -/
def execReferenceIncrement (pool : Fin 16) (buf : Nat) (f : Func) (s : State) : Answer :=
  let x := s.pool pool.val
  match Tbl.find x.bufs buf with
  | some y =>
    if 0 < y.refs ∧ y.refs < s.cfg Obj.coalesceMaxRef then
      .next (((s.setPool pool.val { x with bufs := Tbl.put x.bufs buf { y with
        refs := y.refs + 1
        users := y.users ++ [(f.code, (s.fn f).gen.toNat)]
        charge := some (y.charge.getD f.code) } }).countUse pool.val (some (y.charge.getD f.code))).settlePool pool.val)
    else .next s
  | none => .next s

/-- The users without the oldest reference of a function. -/
def dropUser (n : Nat) : List (Nat × Nat) → List (Nat × Nat)
  | [] => []
  | u :: t => if u.1 = n then t else u :: dropUser n t

/-- A buffer without its released reference: a fence moves the charge to the oldest remaining user (R327). -/
def BufSt.release (y : BufSt) (f : Option Nat) (fence : Bool) : BufSt :=
  match f with
  | none => { y with refs := y.refs - 1, own := false }
  | some n =>
    let users := dropUser n y.users
    { y with
      refs := y.refs - 1
      users := users
      charge := if fence && y.charge = some n then users.head?.map (·.1) else y.charge }

/-- One reference to an allocated buffer is released: at 0 the buffer becomes the head of its free list (R326, R327). -/
def State.releaseRef (s : State) (pool buf : Nat) (y : BufSt) (f : Option Nat) (fence : Bool) : State :=
  let x := s.pool pool
  let z := y.release f fence
  if z.refs = 0 then
    ((s.setPool pool { x with bufs := Tbl.del x.bufs buf, freed := buf :: x.freed }).countUse pool y.charge).settlePool pool
  else
    (((s.setPool pool { x with bufs := Tbl.put x.bufs buf z }).countUse pool y.charge).countUse pool z.charge).settlePool pool

/-- REFERENCE_DECREMENT (R326, R327): a decrement at 0 is a double free; a function that has no reference left releases
none. -/
def execReferenceDecrement (pool : Fin 16) (buf : Nat) (f : Option Func) (fence : Bool) (s : State) : Answer :=
  match Tbl.find (s.pool pool.val).bufs buf with
  | none => .next (s.basketFault pool.val buf)
  | some y =>
    if f.all fun g => y.users.any (·.1 = g.code) then .next (s.releaseRef pool.val buf y (f.map Func.code) fence) else .next s

/-- References that a function holds under generations before its present one are released (R76). -/
def State.releaseStale (s : State) (n gen : Nat) : State :=
  let stale := s.engines.pools.flatMap fun (e : Nat × PoolSt) => e.2.bufs.flatMap fun (b : Nat × BufSt) =>
    (b.2.users.filter fun u => u.1 = n && u.2 ≠ gen).map fun _ => (e.1, b.1)
  stale.foldl (fun a k => match Tbl.find (a.pool k.1).bufs k.2 with
    | some y => a.releaseRef k.1 k.2 y (some n) true
    | none => a) s

/-- BUFFER_WAIT_SERVED (R325, R74): the oldest waiter below its minimum that can be supplied goes first, else the oldest
waiter once a buffer is free for it. -/
def execBufferWaitServed (pool : Fin 16) (s : State) : Answer :=
  let x := s.pool pool.val
  let short := x.waiters.find? fun h => x.inUse h < s.minimum pool.val h && s.maySupply pool.val h
  match (match short with
    | some h => some h
    | none => x.waiters.head?) with
  | some h =>
    if s.maySupply pool.val h then
      .next ((s.setPool pool.val { x with waiters := x.waiters.erase h }).allocate pool.val h none)
    else .next s
  | none => .next s

/-- DRAM pools' lists are built afresh, bitmaps all free (R322). -/
def State.freshPools (s : State) (all : Bool) : State :=
  { s with engines := { s.engines with
    pools := if all then [] else s.engines.pools.filter fun e => s.cfg Obj.poolPlace e.1 ≠ 1 } }

end Sys2Proof.Machine
end

