-- ==== Sys2Proof/Machine/Link.lean ====
section
/-! DEFINITION. Host link, functions, resets and fences, virtualization (R54 to R82). -/
namespace Sys2Proof.Machine

/-! ### Fences (R76 to R79) -/

/-- A function exists: PF1 in DUAL_X8 only (R60), an instance unless it is ABSENT (R61). -/
def State.present (s : State) : Func → Bool
  | .pf0 => true
  | .pf1 => s.dual
  | .inst n => (s.fn (.inst n)).state ≠ .absent

/-- Media reads lose the attachments of a fenced function; the read goes on for the others (R76, R164). -/
def MediaRead.drop (f : Func) (r : MediaRead) : MediaRead :=
  let keep := r.attached.filter (fun a => a.hdr.fn ≠ f)
  { r with attached := keep, refs := r.refs - (r.attached.length - keep.length) }

/-- State that a fence leaves a function in: OFFLINE after Secondary Offline or when it was OFFLINE, ABSENT after VF
Enable clear, ONLINE otherwise (R75). -/
def fenceEnd (old : InstState) (row : Nat) (vfClear : Bool) : InstState :=
  if vfClear then .absent else if row = 3 ∨ old = .offline then .offline else .online

/-- The instance summary of a manager stops being written (R100). -/
def State.stopSummary (s : State) : Func → State
  | .pf0 => { s with host := { s.host with isumA := none, isumDelays := (0, s.host.isumDelays.2) } }
  | .pf1 => { s with host := { s.host with isumB := none, isumDelays := (s.host.isumDelays.1, 0) } }
  | .inst _ => s

/-- The staging set of a fenced manager is emptied (R436). -/
def State.dropStaging (s : State) (f : Func) : State :=
  if f.isManager then
    { s with dict := { s.dict with accs := Tbl.upd s.dict.accs f.accessor.code fun a => { a with staged := [] } } }
  else s

/-- A self-test ends: its result and segment are logged and recorded; MAINTENANCE ends with an extended one unless a
forced full pass keeps it (R355, R370). -/
def State.endTest (s : State) (result : Nat) : State :=
  match s.admin.selftest with
  | none => s
  | some t =>
    let s1 := { s with admin := { s.admin with
      selftest := none
      testLog := ((result + 16 * (if t.extended then 2 else 1), t.segment) :: s.admin.testLog).take 20 } }.record
        0x0D01 [result, t.segment]
    if t.extended ∧ !s.mem.forced then s1.clearMode Mode.maintenance 8 else s1

/-- A manager's firmware staging area is emptied, the bytes of its window with it (R358). -/
def State.emptyStaging (s : State) (p : Nat) : State :=
  let s1 := { s with engines := { s.engines with windows := Tbl.del s.engines.windows (1 + 65536 * p) } }
  if p = 0 then { s1 with admin := { s1.admin with stageA := ⟨[]⟩ } } else { s1 with admin := { s1.admin with stageB := ⟨[]⟩ } }

/-- A reset event that covers a manager clears EN of its Shuttle channels; CC.EN cleared, row 6 of R77, does not touch them
(R317). -/
def State.stopChannels (s : State) (f : Func) (row : Nat) : State :=
  if !f.isManager ∨ row = 6 then s
  else { s with engines := { s.engines with
    shuttles := s.engines.shuttles.map fun (e : Nat × ShuttleSt) =>
      if e.1 / 16 = f.code - 1024 then (e.1, { e.2 with state := 0 }) else e } }

/-- A fence of a manager ends the self-test it started, empties its firmware staging area, and stops its Shuttle channels
(R355, R358, R317). -/
def State.fenceManager (s : State) (f : Func) (row : Nat) : State :=
  let s1 := if s.admin.selftest.any (·.starter = f.code) then s.endTest 2 else s
  (s1.stopChannels f row).emptyStaging (f.code - 1024)

/-- FREEZE ends when no instance is FROZEN (R370, cause 12). -/
def State.settleFreeze (s : State) : State :=
  if s.host.fns.any (fun e => e.2.state = .frozen) then s else s.clearMode Mode.freeze 12

/-- A freeze in progress ends: its command completes with this status and its count of step 2 (R477, R480). -/
def State.endFreeze (s : State) (n : Nat) (st : Status) : State :=
  match Tbl.find s.migration.freezing n with
  | none => s
  | some e =>
    let s1 := (s.keep Obj.freezePhase 0 n).finish e.1 ⟨st, e.2.1, 0⟩
    { s1 with migration := { s1.migration with freezing := Tbl.del s1.migration.freezing n } }

/-- What a freeze kept of an instance is gone: its command, and the image in its window (R481, R488). -/
def State.dropFreeze (s : State) (n : Nat) : State :=
  let s1 := s.endFreeze n .abortRequested
  { s1 with engines := { s1.engines with windows := Tbl.del s1.engines.windows (0x1000 + n) } }

/-- One reset event on one function (R76, R77, R79): the generation rises once, the summary line stops, outstanding event
requests are gone, work of the old generation is stale, and its Basket references are released. An event in FENCING joins the
fence in progress: LAST_RESET keeps the row that caused it, and RESET_COUNT does not count the event that joins (DESIGN
CHOICE, log entry 117). An ABSENT function is not reached. -/
def State.fence (s : State) (f : Func) (row : Nat) (vfClear : Bool := false) : State :=
  let x := s.fn f
  if !(s.present f) then s
  else
    match x.fence with
    | some p =>
      (if vfClear then s.setFn f { x with fence := some { p with after := .absent } } else s).stopChannels f row
    | none =>
      let s1 := s.setFn f { x with
        state := .fencing
        gen := x.gen + 1
        line := none
        lineDelay := 0
        aers := []
        events := []
        fence := some { row := row, after := fenceEnd x.state row vfClear, waiters := [] } }
      let s2 := ((s1.stopSummary f).dropStaging f).releaseStale f.code (x.gen + 1).toNat
      let s3 := { s2 with store := { s2.store with reads := s2.store.reads.map fun (e : Nat × MediaRead) => (e.1, e.2.drop f) } }
      match f with
      | .inst n =>
        (((s3.dropFreeze n.val).bump Obj.resetCount 1 n.val).keep Obj.lastReset row n.val).settleFreeze
      | .pf0 => s3.fenceManager .pf0 row
      | .pf1 => s3.fenceManager .pf1 row

/-- Every instance of a port. -/
def State.fenceInstances (s : State) (p : Port) (row : Nat) (vfClear : Bool := false) : State :=
  (s.instancesOf p).foldl (fun a n => if h : n < 1024 then a.fence (.inst ⟨n, h⟩) row vfClear else a) s

/-- Every function of a port. -/
def State.fencePort (s : State) (p : Port) (row : Nat) (vfClear : Bool := false) : State :=
  (s.fence (managerOf p) row).fenceInstances p row vfClear

/-- A port exists: port B in DUAL_X8 only (R54). -/
def State.portExists (s : State) : Port → Bool
  | .a => true
  | .b => s.dual

/-- FACTORY ends at a Conventional Reset and at an NVM Subsystem Reset (R370). -/
def State.endFactory (s : State) : State := s.clearMode Mode.factory 15

/-- FLR of a virtual function: row 1 of R77. -/
def execFunctionLevelResetVf (n : Fin 1024) (s : State) : Answer := .next (s.fence (.inst n) 1)

/-- FLR of a physical function: row 5 of R77; VF Enable clears. -/
def execFunctionLevelResetPf (p : Port) (s : State) : Answer :=
  if s.portExists p then
    let s1 := s.fencePort p 5 true
    .next (s1.setPort p { s1.port p with vfEnable := false })
  else .next s

/-- A port's link goes down at this moment (R82). -/
def State.dropLink (s : State) (p : Port) : State :=
  let x := s.port p
  s.setPort p { x with up := false, rate := 0, width := 0, flit := false, laneRev := false, polInv := false
                       below := false, downSince := if x.up then s.now else x.downSince }

/-! ### Images at a reset (R356, R361, R362) -/

/-- The factory image of slot 1 (R356, R357). -/
def factoryImage : ImageHeader :=
  { magic := 0x36394C50, format := 1, part := 0x9664, svn := Config.factorySvn % 128, major := 1
    minor := Config.factoryMinor % 256, build := Config.factoryBuild % 65536, version := Config.factoryVersion % 2 ^ 64
    bodyLen := 4096 * (Config.factoryBody % 8189), imageLen := 4096 * (Config.factoryBody % 8189) + 12288, flags := 0 }

/-- The image of a slot, none where it is empty. -/
def State.image (s : State) (slot : Nat) : Option ImageHeader :=
  if slot = 1 then some factoryImage else Tbl.find s.admin.slots slot

/-- The running image. -/
def State.runningImage (s : State) : ImageHeader := s.admin.running.getD factoryImage

/-- The objects that show the running image, and its header. -/
def State.setRunning (s : State) (slot : Nat) (i : ImageHeader) : State :=
  let s1 := ((s.keep Obj.fwActiveSlot slot).keep Obj.fwVersion i.version).keep Obj.fwMajor i.major
  { s1 with admin := { s1.admin with running := if slot = 1 then none else some i } }

/-- The anti-rollback counter rises to the SVN of an image that has booted, while 0x2020.03 is TRUE (R361). -/
def State.raiseArb (s : State) : State :=
  let v := s.runningImage.svn
  if s.flag Obj.arbAuto ∧ s.cfg Obj.arbCounter < v ∧ v ≤ 127 then s.save Obj.arbCounter v else s

/-- A slot's active marker is written, and its image runs (R364). -/
def State.activate (s : State) (slot : Nat) : State :=
  match s.image slot with
  | some i => ({ s with security := { s.security with marker := slot } }).setRunning slot i
  | none => s

/-- A slot that was set to activate at the next reset runs (R362). -/
def State.activateAtReset (s : State) : State :=
  match s.admin.onReset with
  | some k => ({ s with admin := { s.admin with onReset := none } }).activate k
  | none => s

/-- PERST_ASSERT: row 7 of R77. PERST1_N is ignored in X16 (R54); during HOLD-UP neither pin acts (R500). -/
def execPerstAssert (p : Port) (s : State) : Answer :=
  if s.has Mode.holdUp ∨ !(s.portExists p) then .next s
  else
    let s1 := ((s.fencePort p 7).dropLink p).endFactory.activateAtReset
    .next (s1.setPort p { s1.port p with perst := true })

/-- HOT_RESET: row 7 of R77, a Conventional Reset (R370). The link itself is left as it is: LINK_DOWN and LINK_TRAINED are rows
of their own (DESIGN CHOICE, log entry 118). -/
def execHotReset (p : Port) (s : State) : Answer :=
  if s.portExists p then .next ((s.fencePort p 7).endFactory).activateAtReset else .next s

/-- LINK_DOWN (R77 row 7, R82): that port's functions and nothing else. -/
def execLinkDown (p : Port) (t : Nat) (s : State) : Answer :=
  if s.portExists p then .next (((s.tick t).fencePort p 7).dropLink p) else .next (s.tick t)

/-- Widest link of the port mode in force (R57). -/
def State.fullWidth (s : State) : Nat := if s.dual then 8 else 16

/-- A port half that works: D03 runs port A, D04 port B; in X16 mode D04 supplies lanes 8 to 15 of port A (R33, R59). -/
def State.halfWorks (s : State) : Port → Bool
  | .a => !(s.blockLost 3)
  | .b => !(s.blockLost 4)

/-- What a port can train to: a rate within the cap, a width of R57 on the lanes that work, and 64 GT/s in Flit mode only
(R55 to R57). -/
def State.trainable (s : State) (p : Port) (rate width : Nat) (flit : Bool) : Bool :=
  1 ≤ rate && rate ≤ min 6 (s.cfg Obj.maxRate) && (rate < 6 || flit) && [1, 2, 4, 8, 16].contains width
    && width ≤ (if s.blockLost 4 then min 8 s.fullWidth else s.fullWidth) && s.halfWorks p

/-- LINK_TRAINED (R55 to R58): the link comes up at what it trained to; below rated it is recorded. A device with a
dead fabric link, and a port whose half is lost, trains no host link (R31, R33), and a port trains to nothing else than
R55 to R57 let it. -/
def execLinkTrained (p : Port) (rate width : Nat) (flit laneRev polInv : Bool) (s : State) : Answer :=
  if s.cells.linkDead ∨ !(s.portExists p) ∨ !(s.trainable p rate width flit) then .next s
  else
    let below := rate < 6 || width < s.fullWidth
    let s1 := s.setPort p { s.port p with
      up := true
      rate := rate
      width := width
      flit := flit
      laneRev := laneRev
      polInv := polInv
      below := below
      perst := false
      retrain := false }
    if below then .next (s1.record 0x0201 [portNum p, rate, width] 0xFFFF (3 + portNum p)) else .next s1

/-- Field map of 0x2100.06 and .07. -/
def State.linkStatus (s : State) (p : Port) : Nat :=
  if !(s.portExists p) then 0
  else
    let x := s.port p
    x.rate * 2 ^ 12 + x.width * 2 ^ 7 + x.flit.toNat * 64 + x.laneRev.toNat * 32 + x.polInv.toNat * 16 + x.below.toNat * 8

/-- Row 8 of R77: every function of both ports. -/
def State.subsystemReset (s : State) : State :=
  ((s.fencePort .a 8).fencePort .b 8).endFactory

/-- NVM_SUBSYSTEM_RESET (R77 row 8, R362, R370). -/
def execNvmSubsystemReset (s : State) : Answer := .next s.subsystemReset.activateAtReset

/-! ### End of a fence (R75, R79, R120) -/

/-- Contexts of a function's old generation are returned (R76, R90); what they modify becomes dirty (R486). -/
def State.returnContexts (s : State) (f : Func) : State :=
  let old := s.host.ctxs.filter fun c => c.hdr.fn = f && c.gen ≠ (s.fn f).gen
  let s1 := old.foldl (fun a c => a.markRuns c.mods) s
  { s1 with host := { s1.host with ctxs := s.host.ctxs.filter fun c => c.hdr.fn ≠ f ∨ c.gen = (s.fn f).gen } }

/-- FENCE_COMPLETE (R75): queues deleted, registers reset, contexts back, CC.EN and CSTS.RDY 0, CFS clear; the Secondary
Offlines that waited complete. -/
def execFenceComplete (f : Func) (s : State) : Answer :=
  let x := s.fn f
  match x.fence with
  | none => .next s
  | some p =>
    let y := { Fn.init p.after with gen := x.gen, stamp := x.stamp, feats := x.savedFeats, savedFeats := x.savedFeats }
    let s1 := (s.returnContexts f).setFn f y
    let s2 := match f with
      | .inst n => s1.keep Obj.freezePhase 0 n.val
      | .pf0 => s1
      | .pf1 => s1
    .next (p.waiters.foldl (fun a h => a.finish h Cpl.ok) s2)

/-! ### SR-IOV (R60, R70, R75) -/

/-- Instance n enters OFFLINE with 1 VQ resource, default sizes and fence generation 0 (R70). One that is still FENCING from
VF Enable clear is passed over and ends ABSENT, although VF Enable is set again (DESIGN CHOICE, log entry 119). -/
def State.bringUp (s : State) (n : Nat) : State :=
  let x := s.fnAt n
  if x.state = .absent then
    let s1 := s.setFnAt n { Fn.init .offline with feats := x.savedFeats, savedFeats := x.savedFeats }
    ((((s1.save Obj.qpAllow 1 n).save Obj.ctxReserved 32 n).save Obj.ctxMax 4096 n).save Obj.basketMin 8 n)
  else s

/-- VF_ENABLE_SET (R70): every instance whose virtual function lies within NumVFs. -/
def execVfEnableSet (p : Port) (s : State) : Answer :=
  if s.portExists p ∧ !(s.port p).vfEnable then
    let s1 := s.setPort p { s.port p with vfEnable := true }
    .next (((s1.instancesOf p).take (s1.port p).numVfs).foldl State.bringUp s1)
  else .next s

/-- VF_ENABLE_CLEAR: row 4 of R77; the instances end ABSENT. -/
def execVfEnableClear (p : Port) (s : State) : Answer :=
  if s.portExists p ∧ (s.port p).vfEnable then
    let s1 := s.setPort p { s.port p with vfEnable := false }
    .next (s1.fenceInstances p 4 true)
  else .next s

/-- TotalVFs of a port (R60). -/
def State.totalVfs (s : State) : Port → Nat
  | .a => s.split
  | .b => 1024 - s.split

/-- NUMVFS_WRITE (R75): only while VF Enable is clear; a number above TotalVFs is no valid value of the capability and
is ignored. ROM recovery offers no virtual function (R459). -/
def execNumVfsWrite (p : Port) (n : Nat) (s : State) : Answer :=
  if s.portExists p ∧ !(s.port p).vfEnable ∧ n ≤ s.totalVfs p ∧ !s.security.rom then .next (s.setPort p { s.port p with numVfs := n })
  else .next s

/-! ### CC.EN (R70, R77, R79) -/

/-- The admin queues of an enabled controller. -/
def adminSq (asqs asq : Nat) : Sq :=
  { size := asqs + 1, base := asq, cqid := 0, prio := 0, head := 0, tail := 0, bell := none, recorded := none, deleting := [] }

def adminCq (acqs acq : Nat) : Cq := { size := acqs + 1, base := acq, head := 0, tail := 0, phase := true }

/-- No DRAM channel has trained (R329). -/
def State.noMemory (s : State) : Bool :=
  s.mem.chans ≠ [] && s.mem.chans.all fun e => e.2.state = 0 || e.2.state = 5

/-- An enabled controller is ready: while SERVICE is set, but for an instance in CRYPTO_HALT, and with DRAM (R371, R474,
R329), and PF0 in ROM recovery, whose CFS is set (R459). -/
def State.readyWhen (s : State) (f : Func) : Bool :=
  (s.has Mode.service && !s.noMemory && (f.isManager || s.cfg Obj.cryptoState ≠ 2)) || (s.security.rom && f = .pf0)

/-- CC_EN_SET (R70, R79, R371): an ONLINE instance or a manager is enabled, and is ready while SERVICE is set; on an
OFFLINE instance RDY stays 0 and CFS becomes 1; in FENCING the write is ignored. A memory page above CAP.MPSMAX, 4, is no
valid value: RDY stays 0 and CFS becomes 1 (R83; PRESUMED, log entry 120). -/
def execCcEnSet (f : Func) (wrr : Bool) (mps asqs acqs asq acq : Nat) (s : State) : Answer :=
  let x := s.fn f
  if x.en ∨ !(s.present f) then .next s
  else
    match x.state with
    | .online =>
      .next ({ s with power := { s.power with clean := false } }.setFn f { x with
        en := true
        rdy := s.readyWhen f && mps ≤ 4
        cfs := x.cfs || s.security.rom || s.noMemory || 4 < mps
        wrr := wrr
        mps := mps
        sqs := Tbl.put x.sqs 0 (adminSq asqs asq)
        cqs := Tbl.put x.cqs 0 (adminCq acqs acq)
        shst := 0 })
    | .offline => .next (s.setFn f { x with en := true, cfs := true })
    | .absent => .next s
    | .frozen => .next s
    | .fencing => .next s

/-- CC_EN_CLEAR_INSTANCE: row 2 of R77, while CC.EN is 1. -/
def execCcEnClearInstance (n : Fin 1024) (s : State) : Answer :=
  if (s.fn (.inst n)).en then .next (s.fence (.inst n) 2) else .next s

/-- CC_EN_CLEAR_MANAGER: row 6 of R77, the manager's own queues only. -/
def execCcEnClearManager (p : Port) (s : State) : Answer :=
  if s.portExists p ∧ (s.fn (managerOf p)).en then .next (s.fence (managerOf p) 6) else .next s

/-! ### Virtualization Management (R67 to R70) -/

/-- The instance of a Controller ID (R63). -/
def instanceOfCntlid (c : Nat) : Option (Fin 1024) :=
  if h : 0x100 ≤ c ∧ c - 0x100 < 1024 then some ⟨c - 0x100, h.2⟩ else none

/-- Controller ID of a function (R63). -/
def cntlidOf : Func → Nat
  | .pf0 => 1
  | .pf1 => 2
  | .inst n => 0x100 + n.val

/-- The instance a manager names, when it is one of its own port (R67). -/
def State.ownInstance (s : State) (f : Func) (c : Nat) : Option (Fin 1024) :=
  match instanceOfCntlid c with
  | some n => if f.isManager ∧ s.portOf n.val = s.portOfFn f then some n else none
  | none => none

/-- A command of the manager functions alone: from an instance it ends with Invalid Command Opcode (R104). -/
def State.managerRun (s : State) (h : Hdr) (body : State → State × Cpl) : State :=
  s.run h fun a => if h.fn.isManager then body a else refuse .invalidOpcode a

/-- An action on the VI resource type with a nonzero count is refused (R69). -/
def viCount (rt nr : Nat) : Bool := rt = 1 && nr ≠ 0

/-- SECONDARY_ONLINE (R69, R70): OFFLINE to ONLINE; CFS stays. -/
def execSecondaryOnline (h : Hdr) (cntlid rt nr : Nat) (s : State) : Answer :=
  .next (s.managerRun h fun a =>
    match a.ownInstance h.fn cntlid with
    | none => refuse .invalidCtrlId a
    | some n =>
      let x := a.fn (.inst n)
      if viCount rt nr then refuse .invalidResCount a
      else if x.state = .offline then (a.setFn (.inst n) { x with state := .online }, Cpl.ok)
      else refuse .invalidSecState a)

/-- SECONDARY_OFFLINE (R69): row 3 of R77; the command completes after the fence. -/
def execSecondaryOffline (h : Hdr) (cntlid rt nr : Nat) (s : State) : Answer :=
  .next (s.startAdmin h State.adminGate fun a =>
    if !h.fn.isManager then a.finish h (Cpl.of .invalidOpcode)
    else
      match a.ownInstance h.fn cntlid with
      | none => a.finish h (Cpl.of .invalidCtrlId)
      | some n =>
        let x := a.fn (.inst n)
        if viCount rt nr then a.finish h (Cpl.of .invalidResCount)
        else if x.state = .absent then a.finish h (Cpl.of .invalidSecState)
        else
          let b := a.fence (.inst n) 3
          let y := b.fn (.inst n)
          let c := b.setFn (.inst n) { y with fence := y.fence.map fun p =>
            { p with waiters := p.waiters ++ [h], after := if p.after = .absent then .absent else .offline } }
          c.modCtx h fun k => { k with wait := .offline n.val })

/-- VQ resources of the instances of a port that are not ABSENT (R68). -/
def State.vqAssigned (s : State) (p : Port) : Nat :=
  (((s.instancesOf p).filter fun n => (s.fnAt n).state ≠ .absent).map fun n => s.cfg Obj.qpAllow n).sum

/-- A port's flexible pool (R68). -/
def State.flexPool (s : State) : Port → Nat
  | .a => if s.dual then s.cfg Obj.vqSplitA else 8160
  | .b => if s.dual then 8128 - s.cfg Obj.vqSplitA else 0

/-- SECONDARY_ASSIGN (R69): 1 to 64 VQ resources to an OFFLINE instance, within the pool. -/
def execSecondaryAssign (h : Hdr) (cntlid rt nr : Nat) (s : State) : Answer :=
  .next (s.managerRun h fun a =>
    match a.ownInstance h.fn cntlid with
    | none => refuse .invalidCtrlId a
    | some n =>
      if rt = 1 then (if nr = 0 then (a, Cpl.ok) else refuse .invalidResCount a)
      else if rt ≠ 0 then refuse .invalidField a
      else if (a.fn (.inst n)).state ≠ .offline then refuse .invalidSecState a
      else if nr = 0 ∨ 64 < nr then refuse .invalidResCount a
      else
        let p := a.portOf n.val
        if a.vqAssigned p - a.cfg Obj.qpAllow n.val + nr ≤ a.flexPool p then (a.save Obj.qpAllow nr n.val, Cpl.ok0 nr)
        else refuse .invalidResCount a)

/-- PRIMARY_FLEXIBLE_ALLOCATION (R69): refused with a nonzero count. -/
def execPrimaryFlexibleAllocation (h : Hdr) (_rt nr : Nat) (s : State) : Answer :=
  .next (s.managerRun h fun a => if nr = 0 then (a, Cpl.ok) else refuse .invalidResCount a)

/-! ### Ownership (R80, R81) -/

/-- The port an accessor's function belongs to. -/
def State.portOfAcc (s : State) : Accessor → Option Port
  | .pf0 => some .a
  | .pf1 => some .b
  | .inst n => some (s.portOf n.val)
  | .port => none

/-- A takeover of R81 when it is accepted: the other port's manager writes, and the owner port has had no link for at
least TAKEOVER_DELAY. -/
def State.takeOver (s : State) (acc : Accessor) (nsid : Nat) : Option State :=
  match Tbl.find s.store.ns nsid, s.portOfAcc acc with
  | some x, some p =>
    let o := s.port x.owner
    if s.dual ∧ x.owner ≠ p ∧ !o.up ∧ s.cfg Obj.takeoverDelay * 1000000 ≤ s.now - o.downSince then
      let s1 := { s with store := { s.store with
        ns := Tbl.put s.store.ns nsid { x with owner := p } } }
      some (s1.record 0x0202 [nsid, portNum p])
    else none
  | _, _ => none

/-- OWNER_TAKEOVER (R81): a write of 0x2100.08 by a manager; refused, it changes nothing. -/
def execOwnerTakeover (acc : Accessor) (nsid t : Nat) (s : State) : Answer :=
  let s1 := s.tick t
  match acc with
  | .pf0 => .next ((s1.takeOver acc nsid).getD s1)
  | .pf1 => .next ((s1.takeOver acc nsid).getD s1)
  | .port => .next s1
  | .inst _ => .next s1

/-- A link whose rate lies above the cap goes through Recovery to the cap, below rated from then on (R58); one below it
retrains upward (R56). -/
def State.recap (s : State) (p : Port) (cap : Nat) : State :=
  let x := s.port p
  if !x.up then s
  else if cap < x.rate then
    (s.setPort p { x with rate := cap, below := true }).record 0x0201 [portNum p, cap, x.width] 0xFFFF (3 + portNum p)
  else if x.rate < cap then s.setPort p { x with retrain := true }
  else s

/-- The cap of R56 is written: no link goes down. -/
def State.writeMaxRate (s : State) (rate : Nat) : State :=
  ((s.save Obj.maxRate rate).recap .a rate).recap .b rate

/-- MAX_RATE_WRITE (R56): an IMMEDIATE write by a manager or the port, codes 3 to 6. -/
def execMaxRateWrite (acc : Accessor) (rate : Nat) (s : State) : Answer :=
  match acc with
  | .inst _ => .next s
  | .pf0 => if 3 ≤ rate ∧ rate ≤ 6 then .next (s.writeMaxRate rate) else .next s
  | .pf1 => if 3 ≤ rate ∧ rate ≤ 6 then .next (s.writeMaxRate rate) else .next s
  | .port => if 3 ≤ rate ∧ rate ≤ 6 then .next (s.writeMaxRate rate) else .next s

end Sys2Proof.Machine
end

