-- ==== Sys2Proof/Machine/Queues.lean ====
section
/-! DEFINITION. Queues, doorbells, fetch, the address comparison table, completion posting and summary lines (R83 to
R100, R106 to R108, R118). -/
namespace Sys2Proof.Machine

/-! ### Creation and deletion (R84 to R86, R118) -/

/-- Highest I/O queue identifier of a function (R83). -/
def State.qidLimit (s : State) : Func → Nat
  | .inst n => s.cfg Obj.qpAllow n.val
  | .pf0 => 32
  | .pf1 => 32

/-- CREATE_IO_COMPLETION_QUEUE: the checks of R84 in order. -/
def execCreateIoCompletionQueue (h : Hdr) (q : QueueArgs) (s : State) : Answer :=
  .next (s.run h fun a =>
    let x := a.fn h.fn
    if !q.pc then refuse .invalidField a
    else if q.ien then refuse .invalidVector a
    else if q.qid = 0 ∨ a.qidLimit h.fn < q.qid ∨ (Tbl.find x.cqs q.qid).isSome then refuse .invalidQid a
    else if q.qsize = 0 ∨ 4095 < q.qsize then refuse .invalidQsize a
    else if q.prp1 % x.pageBytes ≠ 0 then refuse .prpOffset a
    else
      (a.setFn h.fn { x with
        cqs := Tbl.put x.cqs q.qid { size := q.qsize + 1, base := q.prp1, head := 0, tail := 0, phase := true }
        ioMade := true }, Cpl.ok))

/-- CREATE_IO_SUBMISSION_QUEUE: the checks of R84 but for IEN, then the completion queue (R85). -/
def execCreateIoSubmissionQueue (h : Hdr) (q : QueueArgs) (s : State) : Answer :=
  .next (s.run h fun a =>
    let x := a.fn h.fn
    if !q.pc then refuse .invalidField a
    else if q.qid = 0 ∨ a.qidLimit h.fn < q.qid ∨ (Tbl.find x.sqs q.qid).isSome then refuse .invalidQid a
    else if q.qsize = 0 ∨ 4095 < q.qsize then refuse .invalidQsize a
    else if q.prp1 % x.pageBytes ≠ 0 then refuse .prpOffset a
    else if q.cqid = 0 ∨ (Tbl.find x.cqs q.cqid).isNone then refuse .cqInvalid a
    else
      (a.setFn h.fn { x with
        sqs := Tbl.put x.sqs q.qid
          { size := q.qsize + 1, base := q.prp1, cqid := q.cqid, prio := q.qprio, head := 0, tail := 0, bell := none
            recorded := none, deleting := [] }
        ioMade := true }, Cpl.ok))

/-- DELETE_IO_COMPLETION_QUEUE (R86). -/
def execDeleteIoCompletionQueue (h : Hdr) (qid : Nat) (s : State) : Answer :=
  .next (s.run h fun a =>
    let x := a.fn h.fn
    if qid = 0 ∨ (Tbl.find x.cqs qid).isNone then refuse .invalidQid a
    else if x.sqs.any (fun e => e.1 ≠ 0 && e.2.cqid = qid) then refuse .invalidQDeletion a
    else (a.setFn h.fn { x with cqs := Tbl.del x.cqs qid }, Cpl.ok))

/-- A command belongs to a submission queue. -/
def Ctx.inQueue (f : Func) (qid : Nat) (c : Ctx) : Bool := c.hdr.fn = f && c.hdr.sqid = qid

/-- Delete commands whose queue has no context left: it is removed and they finish (R118). -/
def State.endDeletion (s : State) (f : Func) (qid : Nat) : State :=
  let x := s.fn f
  match Tbl.find x.sqs qid with
  | some q =>
    if q.deleting = [] ∨ s.host.ctxs.any (Ctx.inQueue f qid) then s
    else q.deleting.foldl (fun a h => a.finish h Cpl.ok) (s.setFn f { x with sqs := Tbl.del x.sqs qid })
  | none => s

/-- A fetched command that is not admitted and has moved no data is aborted with a status (R118). -/
def State.abortIdle (s : State) (st : Status) (c : Ctx) : State :=
  if c.done = none ∧ !c.admitted ∧ !c.moved then s.finish c.hdr (Cpl.of st) else s

/-- DELETE_IO_SUBMISSION_QUEUE (R118): fetch stops, idle commands abort, the rest run to their end. -/
def execDeleteIoSubmissionQueue (h : Hdr) (qid : Nat) (s : State) : Answer :=
  .next (s.startAdmin h State.adminGate fun a =>
    let x := a.fn h.fn
    match (if qid = 0 then none else Tbl.find x.sqs qid) with
    | none => a.finish h (Cpl.of .invalidQid)
    | some q =>
      let a1 := a.setFn h.fn { x with sqs := Tbl.put x.sqs qid { q with deleting := q.deleting ++ [h], bell := none } }
      let a2 := (a1.host.ctxs.filter (Ctx.inQueue h.fn qid)).foldl (fun b c => b.abortIdle .abortedSqDeletion c) a1
      (a2.modCtx h fun k => { k with wait := .deleteSq qid }).endDeletion h.fn qid)

/-! ### Doorbells (R87) -/

/-- Slots from one index up to another in a ring. -/
def ringDist (size a b : Nat) : Nat := if a ≤ b then b - a else size - a + b

/-- SQ_TAIL_DOORBELL (R87). -/
def execSqTailDoorbell (f : Func) (qid value : Nat) (s : State) : Answer :=
  let x := s.fn f
  if x.state = .fencing ∨ !(s.present f) then .next s
  else
    match Tbl.find x.sqs qid with
    | none => .next (s.raise f .invalidDoorbellRegister)
    | some q =>
      if q.size ≤ value then .next (s.raise f .invalidDoorbellValue)
      else if x.state = .frozen ∨ s.draining f then
        let bell := if q.bell.isSome then q.bell else some s.host.bells
        let s1 := s.setFn f { x with sqs := Tbl.put x.sqs qid { q with recorded := some value, bell := bell } }
        .next { s1 with host := { s1.host with bells := s1.host.bells + 1 } }
      else
        let bell := if value = q.head then none else if q.bell.isSome then q.bell else some s.host.bells
        let s1 := s.setFn f { x with sqs := Tbl.put x.sqs qid { q with tail := value, bell := bell } }
        .next { s1 with host := { s1.host with bells := s1.host.bells + 1 } }

/-- Doorbell writes recorded while fetch was held take effect, in the order they came (R87, R480). -/
def State.releaseBells (s : State) (f : Func) : State :=
  s.modFn f fun x => { x with sqs := x.sqs.map fun (e : Nat × Sq) =>
    (e.1, match e.2.recorded with
      | some v => { e.2 with tail := v, recorded := none, bell := if v = e.2.head then none else e.2.bell }
      | none => e.2) }

/-- CQ_HEAD_DOORBELL (R87): a value at or behind the device's tail frees the slots up to it. -/
def execCqHeadDoorbell (f : Func) (qid value : Nat) (s : State) : Answer :=
  let x := s.fn f
  if x.state = .fencing ∨ !(s.present f) then .next s
  else
    match Tbl.find x.cqs qid with
    | none => .next (s.raise f .invalidDoorbellRegister)
    | some q =>
      if q.size ≤ value ∨ ringDist q.size q.head q.tail < ringDist q.size q.head value then
        .next (s.raise f .invalidDoorbellValue)
      else .next (s.setFn f { x with cqs := Tbl.put x.cqs qid { q with head := value } })

/-! ### Contexts (R71, R90) -/

/-- Sum of an object over its indices: the default everywhere, corrected where a value is listed. -/
def State.sumObj (s : State) (r : ObjRow) : Nat :=
  let listed := s.dict.force.filter fun e =>
    e.1 % 256 = r.sub && r.base ≤ e.1 / 256 && e.1 / 256 < r.base + r.cnt
  r.default 0 0 * (r.cnt - listed.length) + (listed.map (·.2)).sum

/-- Manager functions present, 512 contexts each (R71). -/
def State.managers (s : State) : Nat := if s.dual then 2 else 1

/-- Contexts a function uses. -/
def State.ctxUsed (s : State) (f : Func) : Nat := s.host.ctxs.countP (fun c => c.hdr.fn = f)

/-- Contexts of a function whose entries wait for space: they count against the shared remainder, so that the reservation
serves its other queues (R51; log entry 121). -/
def State.ctxWaiting (s : State) (f : Func) : Nat := s.host.ctxs.countP (fun c => c.hdr.fn = f && c.wait = .space)

/-- Contexts of a function that count against its reservation. -/
def State.ctxWorking (s : State) (f : Func) : Nat := s.ctxUsed f - s.ctxWaiting f

/-- Contexts drawn from the shared remainder. -/
def State.sharedUsed (s : State) : Nat :=
  let fns := (s.host.ctxs.map (fun c => c.hdr.fn)).eraseDups
  (fns.map fun f => match f with
    | .inst n => (s.ctxWorking f - s.cfg Obj.ctxReserved n.val) + s.ctxWaiting f
    | .pf0 => 0
    | .pf1 => 0).sum

/-- Free contexts of the shared remainder: 0x2100.0D. -/
def State.sharedFree (s : State) : Nat :=
  65536 - 512 * s.managers - s.sumObj Obj.ctxReserved - s.sharedUsed

/-- Contexts of instances that nobody uses: a reservation raised beyond them is served as contexts are freed, ahead of the
shared remainder, which has none (R74). -/
def State.ctxFree (s : State) : Nat :=
  65536 - 512 * s.managers - s.host.ctxs.countP (fun c => !c.hdr.fn.isManager)

/-- Contexts a function may still take: its reservation first, then the shared remainder up to its cap (R71, R90). -/
def State.ctxAvail (s : State) : Func → Nat
  | .inst n =>
    let own := s.cfg Obj.ctxReserved n.val - s.ctxWorking (.inst n)
    min (min (max (s.cfg Obj.ctxMax n.val - s.ctxUsed (.inst n)) own) (own + s.sharedFree)) s.ctxFree
  | .pf0 => 512 - s.ctxUsed .pf0
  | .pf1 => 512 - s.ctxUsed .pf1

/-! ### Fetch (R88, R89, R91) -/

/-- Commands fetched for a completion queue and not posted (R91). -/
def State.outstanding (s : State) (f : Func) (cqid : Nat) : Nat :=
  s.host.ctxs.countP fun c => c.hdr.fn = f && c.cqid = cqid

/-- Commands that may still be fetched for a queue before its completion queue's N − 1 are outstanding (R91). -/
def State.cqRoom (s : State) (f : Func) (q : Sq) : Nat :=
  match Tbl.find (s.fn f).cqs q.cqid with
  | some c => c.size - 1 - s.outstanding f q.cqid
  | none => 0

/-- Entries rung and not fetched. -/
def Sq.unfetched (q : Sq) : Nat := if q.deleting ≠ [] then 0 else ringDist q.size q.head q.tail

/-- A queue may be fetched from. -/
def State.fetchable (s : State) (f : Func) (q : Sq) : Bool := 0 < q.unfetched && 0 < s.cqRoom f q

/-- A function is eligible for fetch (R89), apart from its queues. -/
def State.fnEligible (s : State) (f : Func) : Bool :=
  (s.fn f).serves && (s.fn f).en && !(s.draining f) && 0 < s.ctxAvail f && !(s.basketHolds f)

/-- A function's oldest unfetched doorbell write. -/
def Fn.oldestBell (x : Fn) : Option Nat :=
  x.sqs.foldl (fun m e =>
    match m, (if e.2.unfetched = 0 then none else e.2.bell) with
    | none, b => b
    | some a, none => some a
    | some a, some b => some (min a b)) none

/-- The function whose oldest unfetched doorbell write is oldest, among the eligible ones (R89). -/
def State.nextFn (s : State) : Option Func :=
  (s.host.fns.foldl (fun (m : Option (Nat × Func)) e =>
    match Func.ofCode e.1 with
    | none => m
    | some f =>
      if s.fnEligible f && e.2.sqs.any (fun q => s.fetchable f q.2) then
        match m, e.2.oldestBell with
        | none, some b => some (b, f)
        | some (a, g), some b => if b < a then some (b, f) else some (a, g)
        | m, none => m
      else m) none).map (·.2)

/-- Commands of one burst: 2 to the power of Arbitration Burst, 64 for no limit (R88). The default is 3. -/
def Fn.burst (x : Fn) : Nat :=
  let ab := Tbl.get 3 x.feats 1 % 8
  if ab = 7 then 64 else 2 ^ ab

/-- The queue after `rr` in round-robin order among the fetchable ones of some priority classes. -/
def pickAfter (rr : Nat) (qs : List Nat) : Option Nat :=
  match qs.find? (rr < ·) with
  | some q => some q
  | none => qs.head?

/-- Weights of the classes high, medium and low (R88). -/
def Fn.weights (x : Fn) : List Nat :=
  let w := Tbl.get 3 x.feats 1
  [w / 2 ^ 24 % 256 + 1, w / 2 ^ 16 % 256 + 1, w / 2 ^ 8 % 256 + 1]

/-- Queues of a class that may be fetched from: the admin queue with the urgent class. -/
def State.classQueues (s : State) (f : Func) (cls : Nat) : List Nat :=
  ((s.fn f).sqs.filter fun e => s.fetchable f e.2 && (if e.1 = 0 then cls = 0 else e.2.prio = cls)).map (·.1)

/-- The class WRR serves: urgent first, else the first class with credit, else the first that has a queue (R88). -/
def State.wrrPick (s : State) (f : Func) : Option (Nat × Nat) :=
  let x := s.fn f
  match pickAfter x.rr (s.classQueues f 0) with
  | some q => some (0, q)
  | none =>
    let withCredit := [1, 2, 3].filter fun c => 0 < x.credits.getD (c - 1) 0 && s.classQueues f c ≠ []
    let any := [1, 2, 3].filter fun c => s.classQueues f c ≠ []
    match withCredit.head?.or any.head? with
    | some c => (pickAfter x.rr (s.classQueues f c)).map fun q => (c, q)
    | none => none

/-- The queue CC.AMS selects, with its class (R88). -/
def State.pickQueue (s : State) (f : Func) : Option (Nat × Nat) :=
  if (s.fn f).wrr then s.wrrPick f
  else (pickAfter (s.fn f).rr (((s.fn f).sqs.filter fun e => s.fetchable f e.2).map (·.1))).map fun q => (0, q)

/-- WRR credit after a burst of n from a class; spent credit of every class is given anew. -/
def Fn.charge (x : Fn) (cls n : Nat) : List Nat :=
  if cls = 0 then x.credits
  else
    let c := if x.credits.getD (cls - 1) 0 = 0 then x.weights else x.credits
    c.set (cls - 1) (c.getD (cls - 1) 0 - n)

/-- One burst is fetched from the chosen queue of the chosen function, its entries given; each takes a context and a fetch
stamp (R88 to R91, R106). A lost host front end fetches nothing (R33). Nothing is fetched unless SERVICE is set (R371) or the
ROM serves PF0 (R459), nor while fetch is paused (R121). -/
def State.fetchBurst (s : State) (entries : List Sqe) : State :=
  if s.host.paused ∨ s.blockLost 5 ∨ !(s.has Mode.service || s.security.rom) then s
  else
    match s.nextFn with
    | none => s
    | some f =>
      if s.basketThrottles f ∧ !(s.fn f).passed then s.passOver f
      else match s.pickQueue f with
      | none => s
      | some (cls, qid) =>
        match Tbl.find (s.fn f).sqs qid with
        | none => s
        | some q =>
          let burst := if s.basketThrottles f then 1 else (s.fn f).burst
          let n := min (min burst q.unfetched) (min (s.ctxAvail f) (s.cqRoom f q))
          let taken := entries.take n
          let s1 := taken.foldl (fun a e => a.addCtx ⟨f, qid, e.cid⟩ e) s
          let x := s1.fn f
          let head := (q.head + taken.length) % q.size
          let q1 := { q with head := head, bell := if head = q.tail then none else some s.host.bells }
          let s2 := s1.setFn f { x with
            sqs := Tbl.put x.sqs qid q1
            rr := qid
            passed := false
            credits := x.charge cls taken.length }
          { s2 with host := { s2.host with bells := s2.host.bells + 1 } }

/-! ### Address comparison table (R107, R108) -/

/-- Map units of a run (NSID, first, last). -/
def runUnits (r : Nat × Nat × Nat) : Nat := r.2.2 + 1 - r.2.1

/-- Insertion by namespace and first unit. -/
def insertRun (r : Nat × Nat × Nat) : List (Nat × Nat × Nat) → List (Nat × Nat × Nat)
  | [] => [r]
  | e :: t => if r.1 < e.1 ∨ (r.1 = e.1 ∧ r.2.1 ≤ e.2.1) then r :: e :: t else e :: insertRun r t

/-- Runs in rising order with those that meet or touch made one. -/
def joinRuns : List (Nat × Nat × Nat) → List (Nat × Nat × Nat)
  | [] => []
  | r :: t => match joinRuns t with
    | e :: u => if r.1 = e.1 ∧ e.2.1 ≤ r.2.2 + 1 then (r.1, r.2.1, max r.2.2 e.2.2) :: u else r :: e :: u
    | [] => [r]

/-- The contiguous runs of units that some runs touch. -/
def contiguous (runs : List (Nat × Nat × Nat)) : List (Nat × Nat × Nat) := joinRuns (runs.foldr insertRun [])

/-- Entries a set of runs needs: one per unit up to 128 units, else one range entry per contiguous run (R108). -/
def entriesOf (runs : List (Nat × Nat × Nat)) : Nat × Nat :=
  let c := contiguous runs
  let u := (c.map runUnits).sum
  if u ≤ 128 then (u, 0) else (0, c.length)

/-- Entries held by a function. -/
def State.entriesHeld (s : State) (f : Func) : Nat × Nat :=
  (s.host.ctxs.filter fun c => c.hdr.fn = f && c.holds).foldl
    (fun a c => (a.1 + (entriesOf c.mods).1, a.2 + (entriesOf c.mods).2)) (0, 0)

/-- Functions with entries of their own: every instance and each manager (R108). -/
def State.entryFns (s : State) : Nat := 1024 + s.managers

/-- Shared entries taken: those past 128 and 1 of each function. -/
def State.sharedEntries (s : State) : Nat × Nat :=
  (((s.host.ctxs.map fun c => c.hdr.fn).eraseDups).map fun f =>
    ((s.entriesHeld f).1 - 128, (s.entriesHeld f).2 - 1)).foldl (fun a b => (a.1 + b.1, a.2 + b.2)) (0, 0)

/-- 0x2100.10: free shared entries, of both kinds (log entry 7). -/
def State.overlapFree (s : State) : Nat :=
  (524288 - 128 * s.entryFns - s.sharedEntries.1) + (4096 - s.entryFns - s.sharedEntries.2)

/-- A command's entries are to be had now, all in one step (R108). -/
def State.entriesFit (s : State) (f : Func) (need : Nat × Nat) : Bool :=
  let held := s.entriesHeld f
  let more := (held.1 + need.1 - max 128 held.1, held.2 + need.2 - max 1 held.2)
  s.sharedEntries.1 + more.1 ≤ 524288 - 128 * s.entryFns && s.sharedEntries.2 + more.2 ≤ 4096 - s.entryFns

/-- Two runs share a map unit. -/
def runsMeet (a b : Nat × Nat × Nat) : Bool := a.1 = b.1 && a.2.1 ≤ b.2.2 && b.2.1 ≤ a.2.2

def anyMeet (xs ys : List (Nat × Nat × Nat)) : Bool := xs.any fun a => ys.any fun b => runsMeet a b

/-- An earlier command of the same submission queue that a command follows in order (R107). -/
def State.ordered (s : State) (c : Ctx) : Bool :=
  s.host.ctxs.any fun e =>
    e.hdr.fn = c.hdr.fn && e.hdr.sqid = c.hdr.sqid && e.hdr.cid ≠ c.hdr.cid && e.stamp < c.stamp && e.gen = c.gen
      && (anyMeet c.mods e.mods || anyMeet c.mods e.looks || anyMeet c.looks e.mods)

/-- A command waits for entries before this one, so it takes none ahead of it (R108). -/
def State.entryWaiter (s : State) : Bool :=
  s.host.ctxs.any fun c => match c.wait with
    | .entries _ => true
    | _ => false

/-- OVERLAP_WAITS of an instance counts a command that waits. -/
def State.countOverlapWait (s : State) : Func → State
  | .inst n => s.bump Obj.overlapWaits 1 n.val
  | .pf0 => s
  | .pf1 => s

/-! ### Posting (R51, R91, R96) -/

/-- Entries posted and not released. -/
def Cq.used (q : Cq) : Nat := ringDist q.size q.head q.tail

/-- The queue is full: N − 1 entries (R91). -/
def Cq.full (q : Cq) : Bool := q.size ≤ q.used + 1

/-- A context leaves: its command has been posted. -/
def State.dropCtx (s : State) (h : Hdr) : State :=
  { s with host := { s.host with ctxs := s.host.ctxs.filter fun c => !(c.is h) } }

/-- Reads, writes and blocks of each that a function has completed (R350). -/
def countOf (e : Nat × Nat × Nat × Nat) (c : Ctx) : Nat × Nat × Nat × Nat :=
  if c.purpose = .toHost ∨ c.purpose = .compare ∨ c.purpose = .verify then (e.1 + 1, e.2.1, e.2.2.1 + c.got.length, e.2.2.2)
  else if c.data ≠ [] then (e.1, e.2.1 + 1, e.2.2.1, e.2.2.2 + c.data.length)
  else e

/-- What the logs of a function keep of a command that is posted: its data units, or an error entry, at most 256
(R349, R350). -/
def State.noteEnd (s : State) (c : Ctx) (k : Cpl) : State :=
  let n := c.hdr.code
  if k.status = .success then
    let e := Tbl.get (0, 0, 0, 0) s.admin.counts n
    { s with admin := { s.admin with counts := Tbl.set (0, 0, 0, 0) s.admin.counts n (countOf e c) } }
  else
    let e := Tbl.get (0, []) s.admin.errors n
    { s with admin := { s.admin with
      errors := Tbl.put s.admin.errors n
        (e.1 + 1, ([e.1 + 1, c.hdr.sqid, c.hdr.cid, 256 * k.status.sct + k.status.sc] :: e.2).take 256) } }

/-- Some completion queue of a function holds an unreleased entry (R99). -/
def Fn.unreleased (x : Fn) : Bool := x.cqs.any fun e => e.2.used ≠ 0

/-- An instance's bit of the instance summary has risen: the half that holds it is due (R95, R99). -/
def State.riseSummary (s : State) : Func → State
  | .inst n =>
    let rise := fun (m : ISum) => { m with rose := m.rose.filter (· ≠ n.val) ++ [n.val] }
    match s.portOf n.val with
    | .a => { s with host := { s.host with isumA := s.host.isumA.map rise } }
    | .b => { s with host := { s.host with isumB := s.host.isumB.map rise } }
  | .pf0 => s
  | .pf1 => s

/-- The entry of a finished command is written to the next slot of its completion queue; the units that it modified
become dirty (R486). -/
def State.postEntry (s : State) (c : Ctx) (q : Cq) (k : Cpl) : State :=
  let f := c.hdr.fn
  let x := s.fn f
  let sqHead := (Tbl.find x.sqs c.hdr.sqid).elim 0 (·.head)
  let tail := (q.tail + 1) % q.size
  let q1 := { q with tail := tail, phase := if tail = 0 then !q.phase else q.phase }
  let s1 := s.setFn f { x with
    cqs := Tbl.put x.cqs c.cqid q1
    line := x.line.map fun l => { l with posted := l.posted + 1, due := l.due || q.used = 0 } }
  let s2 := (if x.unreleased then s1 else s1.riseSummary f).emit (.entry f.code c.cqid q.tail q.phase c.hdr.sqid sqHead c.hdr.cid k)
  (((s2.noteEnd c k).markRuns c.mods).dropCtx c.hdr).endDeletion f c.hdr.sqid

/-- An entry that waits for space counts in CQ_FULL_WAITS (R91). -/
def State.waitSpace (s : State) (c : Ctx) : State :=
  let s1 := s.modCtx c.hdr fun k => { k with wait := .space }
  match c.hdr.fn with
  | .inst n => if c.wait = .space then s1 else s1.bump Obj.cqFullWaits 1 n.val
  | .pf0 => s1
  | .pf1 => s1

/-- Another entry of the same completion queue waits for space. -/
def State.spaceWaiter (s : State) (c : Ctx) : Bool :=
  s.host.ctxs.any fun e => e.hdr.fn = c.hdr.fn && e.cqid = c.cqid && !(e.is c.hdr) && e.wait = .space

/-- Posting of a command: done, of the present generation, in order behind the entries that wait (R51, R76, R91). A
command of a function that has no such queue any more goes unposted. -/
def State.postCmd (s : State) (h : Hdr) : State :=
  match s.ctx? h with
  | none => s
  | some c =>
    match c.done with
    | none => s
    | some k =>
      if c.gen ≠ (s.fn h.fn).gen then s
      else
        match Tbl.find (s.fn h.fn).cqs c.cqid with
        | none => s.dropCtx h
        | some q => if q.full || s.spaceWaiter c then s.waitSpace c else s.postEntry c q k

/-- The oldest entry that waits for space on a queue, in the order in which the commands completed (R91). -/
def State.oldestWaiting (s : State) (f : Func) (cqid : Nat) : Option Ctx :=
  (s.host.ctxs.filter fun c => c.hdr.fn = f && c.cqid = cqid && c.wait = .space && c.gen = (s.fn f).gen).foldl
    (fun m c => match m with
      | none => some c
      | some d => if c.doneNo < d.doneNo then some c else some d) none

/-- WAITING_ENTRY_POST (R91). -/
def State.postWaiting (s : State) (f : Func) (cqid : Nat) : State :=
  match s.oldestWaiting f cqid, Tbl.find (s.fn f).cqs cqid with
  | some c, some q =>
    match c.done with
    | some k => if q.full then s else s.postEntry c q k
    | none => s
  | _, _ => s

/-! ### Summary lines (R93 to R100) -/

/-- CQ_MAP now: bit q − 1 is 1 when I/O completion queue q holds an unreleased entry (R94). -/
def Fn.cqMap (x : Fn) : BitVec 64 :=
  x.cqs.foldl (fun m e => if e.1 = 0 ∨ e.2.used = 0 then m else m ||| (1#64 <<< (e.1 - 1))) 0

/-- ADMIN now (R94). -/
def Fn.adminBit (x : Fn) : Bool := (Tbl.find x.cqs 0).elim false (fun q => q.used ≠ 0)

/-- The 512 bits of a line, bit 0 first in its first byte (R94). -/
def LineImage.bits (i : LineImage) : Nat :=
  i.seq.toNat + i.cqMap.toNat * 2 ^ 64 + i.admin.toNat * 2 ^ 128 + i.paused.toNat * 2 ^ 129 + i.posted.toNat * 2 ^ 160
    + i.seqEcho.toNat * 2 ^ 448

/-- The device writes the line of a function (R94, R95): its state at this moment, SEQ one higher. -/
def State.writeLine (s : State) (f : Func) : State :=
  let x := s.fn f
  match x.line with
  | none => s
  | some l =>
    let l1 := { l with seq := l.seq + 1, cqMap := x.cqMap, admin := x.adminBit, paused := s.host.paused, due := false }
    let s1 := s.setFn f { x with line := some l1 }
    s1.emit (.line f.code l.address
      { seqEcho := l1.seq, posted := l1.posted, paused := l1.paused, admin := l1.admin, cqMap := l1.cqMap, seq := l1.seq })

/-- A line is due when its last image no longer holds, or a bit has risen since (R95); a FROZEN instance writes none (R479). -/
def State.lineDue (s : State) (f : Func) : Bool :=
  let x := s.fn f
  match x.line with
  | none => false
  | some l => x.state ≠ .frozen && (l.due || l.cqMap ≠ x.cqMap || l.admin ≠ x.adminBit || l.paused ≠ s.host.paused)

/-- SUMMARY_LINE_WRITE (R95). -/
def execSummaryLineWrite (f : Func) (s : State) : Answer := if s.lineDue f then .next (s.writeLine f) else .next s

/-- Every enabled line is written (R121). -/
def State.writeAllLines (s : State) : State :=
  s.host.fns.foldl (fun a e => match Func.ofCode e.1 with
    | some f => if e.2.state = .frozen then a else a.writeLine f
    | none => a) s

/-- Bit of an instance in the summary of its port (R99). -/
def State.summaryBit (s : State) (p : Port) (n : Nat) : Bool :=
  let x := s.fnAt n
  s.portOf n = p && x.state ≠ .absent && x.state ≠ .fencing && (x.cqMap ≠ 0 || x.adminBit)

/-- A half of the summary, 512 bits: bit n of the area is instance n (R99). -/
def State.summaryHalf (s : State) (p : Port) (upper : Bool) : Nat :=
  (s.host.fns.filter fun e => e.1 < 1024 && (decide (512 ≤ e.1) = upper)).foldl
    (fun m e => if s.summaryBit p e.1 then m + 2 ^ (e.1 % 512) else m) 0

/-- A half of the summary: instances below 512, or the others. -/
def inHalf (upper : Bool) (n : Nat) : Bool := n < 1024 && (decide (512 ≤ n) = upper)

/-- A rise that an instance's own line has not reported yet comes before the half that reports it (R99). -/
def State.lineFirst (s : State) (p : Port) (upper : Bool) (m : ISum) : Bool :=
  let last := if upper then m.upper else m.lower
  s.host.fns.any fun e =>
    inHalf upper e.1 && s.summaryBit p e.1 && (m.rose.contains e.1 || !(last.testBit (e.1 % 512)))
      && (match e.2.line with
        | some l => l.due || (e.2.cqMap &&& ~~~l.cqMap) ≠ 0 || (e.2.adminBit && !l.admin)
        | none => false)

/-- INSTANCE_SUMMARY_WRITE (R99): one half, when it differs from the last image or a bit has risen since, and its order
allows. -/
def execInstanceSummaryWrite (p : Port) (upper : Bool) (s : State) : Answer :=
  let cur := match p with
    | .a => s.host.isumA
    | .b => s.host.isumB
  match cur with
  | none => .next s
  | some m =>
    let last := if upper then m.upper else m.lower
    let bits := s.summaryHalf p upper
    if (bits = last ∧ !(m.rose.any (inHalf upper))) ∨ s.lineFirst p upper m then .next s
    else
      let rest := m.rose.filter fun n => !(inHalf upper n)
      let m1 := if upper then { m with upper := bits, rose := rest } else { m with lower := bits, rose := rest }
      let s1 := match p with
        | .a => { s with host := { s.host with isumA := some m1 } }
        | .b => { s with host := { s.host with isumB := some m1 } }
      .next (s1.emit (.summary p m.address upper bits))

end Sys2Proof.Machine
end

