-- ==== Sys2Proof/Machine/Sha.lean ====
section
/-! DEFINITION. SHA-256 as FIPS 180-4 defines it, which the spec names and does not restate (PRESUMED, log entry 8). -/
namespace Sys2Proof.Machine

/-- Round constants of SHA-256. -/
def sha256K : List (BitVec 32) :=
  [0x428a2f98#32, 0x71374491#32, 0xb5c0fbcf#32, 0xe9b5dba5#32, 0x3956c25b#32, 0x59f111f1#32, 0x923f82a4#32, 0xab1c5ed5#32,
   0xd807aa98#32, 0x12835b01#32, 0x243185be#32, 0x550c7dc3#32, 0x72be5d74#32, 0x80deb1fe#32, 0x9bdc06a7#32, 0xc19bf174#32,
   0xe49b69c1#32, 0xefbe4786#32, 0x0fc19dc6#32, 0x240ca1cc#32, 0x2de92c6f#32, 0x4a7484aa#32, 0x5cb0a9dc#32, 0x76f988da#32,
   0x983e5152#32, 0xa831c66d#32, 0xb00327c8#32, 0xbf597fc7#32, 0xc6e00bf3#32, 0xd5a79147#32, 0x06ca6351#32, 0x14292967#32,
   0x27b70a85#32, 0x2e1b2138#32, 0x4d2c6dfc#32, 0x53380d13#32, 0x650a7354#32, 0x766a0abb#32, 0x81c2c92e#32, 0x92722c85#32,
   0xa2bfe8a1#32, 0xa81a664b#32, 0xc24b8b70#32, 0xc76c51a3#32, 0xd192e819#32, 0xd6990624#32, 0xf40e3585#32, 0x106aa070#32,
   0x19a4c116#32, 0x1e376c08#32, 0x2748774c#32, 0x34b0bcb5#32, 0x391c0cb3#32, 0x4ed8aa4a#32, 0x5b9cca4f#32, 0x682e6ff3#32,
   0x748f82ee#32, 0x78a5636f#32, 0x84c87814#32, 0x8cc70208#32, 0x90befffa#32, 0xa4506ceb#32, 0xbef9a3f7#32, 0xc67178f2#32]

/-- Initial hash value of SHA-256. -/
def sha256H : List (BitVec 32) :=
  [0x6a09e667#32, 0xbb67ae85#32, 0x3c6ef372#32, 0xa54ff53a#32, 0x510e527f#32, 0x9b05688c#32, 0x1f83d9ab#32, 0x5be0cd19#32]

/-- The next word of the schedule, from the 16 words before it (w = last 16, oldest first). -/
def sha256Next (w : List (BitVec 32)) : BitVec 32 :=
  let a := w.getD 14 0
  let b := w.getD 1 0
  ((a.rotateRight 17) ^^^ (a.rotateRight 19) ^^^ (a >>> 10)) + w.getD 9 0
    + ((b.rotateRight 7) ^^^ (b.rotateRight 18) ^^^ (b >>> 3)) + w.getD 0 0

/-- One round on the eight working variables. -/
def sha256Round (v : List (BitVec 32)) (k w : BitVec 32) : List (BitVec 32) :=
  match v with
  | [a, b, c, d, e, f, g, h] =>
    let t1 := h + ((e.rotateRight 6) ^^^ (e.rotateRight 11) ^^^ (e.rotateRight 25)) + ((e &&& f) ^^^ (~~~e &&& g)) + k + w
    let t2 := ((a.rotateRight 2) ^^^ (a.rotateRight 13) ^^^ (a.rotateRight 22)) + ((a &&& b) ^^^ (a &&& c) ^^^ (b &&& c))
    [t1 + t2, a, b, c, d + t1, e, f, g]
  | other => other

/-- The 64 rounds over a sliding schedule. -/
def sha256Rounds : List (BitVec 32) → List (BitVec 32) → List (BitVec 32) → List (BitVec 32)
  | [], _, v => v
  | k :: ks, w, v => sha256Rounds ks (w.drop 1 ++ [sha256Next w]) (sha256Round v k (w.getD 0 0))

/-- Compression of one block of 16 words. -/
def sha256Block (h w : List (BitVec 32)) : List (BitVec 32) :=
  List.zipWith (· + ·) h (sha256Rounds sha256K w h)

/-- Four bytes as a big-endian word. -/
def beWord (a b c d : Byte) : BitVec 32 := (a ++ b ++ c ++ d : BitVec (8 + 8 + 8 + 8))

/-- Bytes in fours. -/
def beWords : List Byte → List (BitVec 32)
  | a :: b :: c :: d :: t => beWord a b c d :: beWords t
  | _ => []

/-- A fresh context (R292). -/
def DigestCtx.fresh : DigestCtx := { h := sha256H, count := 0, tail := [] }

/-- A context takes in whole blocks of its tail, at most `fuel` of them. -/
def DigestCtx.drain (d : DigestCtx) : Nat → DigestCtx
  | 0 => d
  | fuel + 1 =>
    if 64 ≤ d.tail.length then
      DigestCtx.drain { d with h := sha256Block d.h (beWords (d.tail.take 64)), tail := d.tail.drop 64 } fuel
    else d

/-- FEED: bytes join the tail, whole blocks are compressed (R292). -/
def DigestCtx.feed (d : DigestCtx) (bs : List Byte) : DigestCtx :=
  DigestCtx.drain { d with tail := d.tail ++ bs, count := d.count + bs.length } ((d.tail.length + bs.length) / 64)

/-- The low n bytes of a number, lowest first. -/
def bytesLE (n v : Nat) : List Byte := (List.range n).map fun i => BitVec.ofNat 8 (v / 256 ^ i)

/-- The low n bytes of a number, highest first. -/
def bytesBE (n v : Nat) : List Byte := (bytesLE n v).reverse

/-- Bytes as a number, first byte lowest. -/
def natLE : List Byte → Nat
  | [] => 0
  | b :: t => b.toNat + 256 * natLE t

/-- FINISH: padding from the byte count alone (R293), giving the digest's 32 bytes. -/
def DigestCtx.finish (d : DigestCtx) : List Byte :=
  let pad := (55 + 64 - d.count % 64) % 64
  let e := d.feed ([0x80#8] ++ List.replicate pad 0#8 ++ bytesBE 8 (8 * d.count))
  e.h.flatMap fun w => bytesBE 4 w.toNat

/-- SHA-256 of a message. -/
def sha256 (m : List Byte) : List Byte := (DigestCtx.fresh.feed m).finish

/-- The data of one LBA as bytes. -/
def lbaBytes (d : LbaData) : List Byte := bytesLE 4096 d.toNat

def DigestCtx.absorbLba (d : DigestCtx) (x : LbaData) : DigestCtx := d.feed (lbaBytes x)

/-- HMAC-SHA-256 (FIPS 198-1). -/
def hmac256 (key m : List Byte) : List Byte :=
  let k0 := if 64 < key.length then sha256 key else key
  let k := k0 ++ List.replicate (64 - k0.length) 0#8
  sha256 (k.map (· ^^^ 0x5C#8) ++ sha256 (k.map (· ^^^ 0x36#8) ++ m))

end Sys2Proof.Machine
end

