-- ==== Sys2Proof/Machine/Media.lean ====
section
/-! DEFINITION. Shared operations of translation: geometry, map entries, journal records, slots, stripes and parity
(R152, R155, R172 to R192, R223 to R228). -/
namespace Sys2Proof.Machine

/-! ### Store updates -/

def State.setStore (s : State) (x : Store) : State := { s with store := x }

def State.setNs (s : State) (nsid : Nat) (x : Ns) : State :=
  { s with store := { s.store with ns := Tbl.put s.store.ns nsid x } }

def State.ns? (s : State) (nsid : Nat) : Option Ns := Tbl.find s.store.ns nsid

def State.setSlot (s : State) (k : Nat) (x : Slot) : State :=
  { s with store := { s.store with slots := Tbl.put s.store.slots k x } }

def State.slot? (s : State) (k : Nat) : Option Slot := Tbl.find s.store.slots k

def State.setStripe (s : State) (k : Nat) (x : Stripe) : State :=
  { s with store := { s.store with stripes := Tbl.put s.store.stripes k x } }

def State.stripe? (s : State) (k : Nat) : Option Stripe := Tbl.find s.store.stripes k

def State.setRead (s : State) (k : Nat) (x : MediaRead) : State :=
  { s with store := { s.store with reads := Tbl.put s.store.reads k x } }

def State.setJournal (s : State) (j : Journal) : State := { s with store := { s.store with journal := j } }

/-! ### Geometry (R152, R174, R176, R215) -/

def Lun.none : Lun :=
  { state := .absent, cls := 0, factoryBad := [], queue := [], busy := Option.none, resetAt := Option.none }

def State.lun (s : State) (k : Nat) : Lun := Tbl.get Lun.none s.flash.luns k

def State.setLun (s : State) (k : Nat) (x : Lun) : State :=
  { s with flash := { s.flash with luns := Tbl.set Lun.none s.flash.luns k x } }

/-- Classes of the dies that are attached (R135, R144): a class of which no LUN serves any more counts in nothing. -/
def State.attached (s : State) : List DieProfile :=
  s.flash.classes.filter fun p => s.flash.luns.any fun e => e.2.state = .active && e.2.cls = p.classId

/-- Die profile of a LUN. -/
def State.profile (s : State) (k : Nat) : Option DieProfile := s.flash.classes.find? (fun p => p.classId = (s.lun k).cls)

/-- Blocks per plane that are used: at most 4,096 (R174). -/
def State.lunBlocks (s : State) (k : Nat) : Nat := (s.profile k).elim 0 fun p => min 4096 p.blocks

/-- Pages per block used: at most 2,048 (R174); where classes differ, the smallest (R155). -/
def State.blockPages (s : State) : Nat :=
  match s.flash.classes with
  | [] => 0
  | p :: ps => ps.foldl (fun m q => min m (min 2048 q.pages)) (min 2048 p.pages)

/-- SLC-mode pages per block. -/
def State.slcPages (s : State) : Nat :=
  match s.flash.classes with
  | [] => 0
  | p :: ps => ps.foldl (fun m q => min m q.slcPages) p.slcPages

/-- Every die has 4 planes (R210). -/
def planes : Nat := 4

def Block.fresh : Block :=
  { erases := 0, stripe := none, system := false, reads := 0, retired := false, eraseDue := false, secure := false,
    programmedAt := 0, watch := 0, claim := none, wants := [], hint := 0, strength := 0, refreshed := false, before := false,
    sampledAt := 0 }

/-- Key of a four-plane block. -/
def blockKey (lun block : Nat) : Nat := lun * 4096 + block

def State.block (s : State) (lun block : Nat) : Block := Tbl.get Block.fresh s.store.blocks (blockKey lun block)

def State.setBlock (s : State) (lun block : Nat) (x : Block) : State :=
  { s with store := { s.store with blocks := Tbl.set Block.fresh s.store.blocks (blockKey lun block) x } }

/-- Rank of a block among the good blocks of its LUN (R217). -/
def State.goodRank (s : State) (lun block : Nat) : Nat := block - (s.lun lun).factoryBad.countP (· < block)

/-- System blocks per LUN (R176). -/
def systemBlocks : Nat := 8

/-- Staging blocks per LUN (R176). -/
def State.stagingBlocks (s : State) : Nat := s.cfg Obj.stagingPerLun

/-- Good blocks of a LUN in a range of ranks. -/
def State.goodBlocks (s : State) (lun lo hi : Nat) : List Nat :=
  (List.range (s.lunBlocks lun)).filter fun b =>
    !((s.lun lun).factoryBad.contains b) && lo ≤ s.goodRank lun b && s.goodRank lun b < hi

/-- A block is free: in no stripe, not retired, not waiting for an erase. -/
def Block.free (b : Block) : Bool := b.stripe.isNone && !b.retired && !b.eraseDue && !b.system

/-- System blocks of a LUN, first in rank, that hold the journal and the segment copies; the rest hold dumps (DESIGN CHOICE, log
entry 125). -/
def journalBlocks : Nat := 4

/-- Ranks of the blocks that a use draws on: system blocks for a dump, staging blocks, or stripe-available ones (R176). -/
def State.ranksOf (s : State) : StripeUse → Nat × Nat
  | .dump => (journalBlocks, systemBlocks)
  | .staging => (systemBlocks, systemBlocks + s.stagingBlocks)
  | .ns _ _ => (systemBlocks + s.stagingBlocks, 4096)
  | .zone _ _ => (systemBlocks + s.stagingBlocks, 4096)
  | .mangle => (systemBlocks + s.stagingBlocks, 4096)
  | .fold _ => (systemBlocks + s.stagingBlocks, 4096)
  | .worn => (systemBlocks + s.stagingBlocks, 4096)

/-- A use whose stripes are of SLC-mode blocks. -/
def StripeUse.slc : StripeUse → Bool
  | .dump => true
  | .staging => true
  | .ns _ _ => false
  | .zone _ _ => false
  | .mangle => false
  | .fold _ => false
  | .worn => false

/-- Free blocks of a LUN for a use. -/
def State.freeFor (s : State) (lun : Nat) (use : StripeUse) : List Nat :=
  (s.goodBlocks lun (s.ranksOf use).1 (s.ranksOf use).2).filter fun b => (s.block lun b).free

/-- Free stripe-available blocks of a LUN. -/
def State.freeBlocks (s : State) (lun : Nat) : List Nat := s.freeFor lun .mangle

/-- Positions that are populated on some channel, ascending: the reclaim groups (R152). -/
def State.groups (s : State) : List Nat :=
  (List.range 64).filter fun p => s.flash.luns.any fun e => e.1 % 64 = p && e.2.state ≠ .absent

/-- Position of group g. -/
def State.position (s : State) (g : Nat) : Option Nat := s.groups[g]?

/-- LUNs at the position of a group that serve. -/
def State.groupLuns (s : State) (g : Nat) : List Nat :=
  match s.position g with
  | some p => (s.flash.luns.filter fun e => e.1 % 64 = p && e.2.state = .active).map (·.1)
  | none => []

/-- LUNs attached. -/
def State.attachedLuns (s : State) : List Nat := (s.flash.luns.filter fun e => e.2.state = .active || e.2.state = .lost).map (·.1)

/-- Stripe-available blocks as R176 divides them, less those moved under R204 (R178). -/
def State.stripeAvailable (s : State) : Nat :=
  let luns := s.attachedLuns
  let spare := if luns.length = 0 then 0 else s.cfg Obj.spareInitial / luns.length
  ((luns.map fun l => s.lunBlocks l - (s.lun l).factoryBad.length - systemBlocks - s.stagingBlocks - spare).sum)
    - s.store.movedToSpares

/-- Blocks that no namespace has reserved. -/
def State.unreservedBlocks (s : State) : Nat := s.stripeAvailable - (s.store.ns.map fun e => e.2.blocks).sum

/-! ### Die queues (R134, R135) -/

/-- Operation power less idle power, in tokens of 1 mW (R135). -/
def State.opTokens (s : State) (lun : Nat) : OpKind → Nat
  | .read _ => (s.profile lun).elim 0 fun p => p.pRead - p.pIdle
  | .program _ => (s.profile lun).elim 0 fun p => p.pProg - p.pIdle
  | .progSys _ _ => (s.profile lun).elim 0 fun p => p.pProg - p.pIdle
  | .progSeg _ _ => (s.profile lun).elim 0 fun p => p.pProg - p.pIdle
  | .parity _ _ => (s.profile lun).elim 0 fun p => p.pProg - p.pIdle
  | .sample _ => (s.profile lun).elim 0 fun p => p.pRead - p.pIdle
  | .progMember _ _ => (s.profile lun).elim 0 fun p => p.pProg - p.pIdle
  | .refill _ => (s.profile lun).elim 0 fun p => p.pRead - p.pIdle
  | .erase _ => (s.profile lun).elim 0 fun p => p.pErase - p.pIdle

/-- An admitted operation joins its LUN's queue (R134). -/
def State.enqueue (s : State) (lun : Nat) (kind : OpKind) (cls : OpClass) (block : Nat) (slc : Bool) : State :=
  let id := s.flash.nextOp
  let op : LunOp :=
    { id := id, kind := kind, cls := cls, age := id, frame := s.cfg Obj.frameCount, block := block
      tokens := s.opTokens lun kind, waited := false, slc := slc }
  let s1 := { s with flash := { s.flash with nextOp := id + 1 } }
  let x := s1.lun lun
  s1.setLun lun { x with queue := x.queue ++ [op] }

/-! ### Map entries (R172, R175) -/

/-- Entry of a unit at a plane and page of a member (LUN, block). -/
def entryAt (slc : Bool) (m : Nat × Nat) (plane page : Nat) : MapEntry :=
  .flash slc (Fin.ofNat 64 (m.1 / 64)) (Fin.ofNat 8 (m.1 / 8)) (Fin.ofNat 8 m.1) (Fin.ofNat 4 plane) (Fin.ofNat 4096 m.2)
    (Fin.ofNat 2048 page)

/-- The 40-bit word of an entry (R172). -/
def MapEntry.word : MapEntry → BitVec 40
  | .unmapped => 0
  | .flash slc ch ce lun plane block page =>
    BitVec.ofNat 40 ((if slc then 2 else 1) * 2 ^ 37 + ch.val * 2 ^ 31 + ce.val * 2 ^ 28 + lun.val * 2 ^ 25
      + plane.val * 2 ^ 23 + block.val * 2 ^ 11 + page.val)
  | .buffer slot => BitVec.ofNat 40 (3 * 2 ^ 37 + slot % 2 ^ 32)
  | .uncorrectable => BitVec.ofNat 40 (4 * 2 ^ 37)

/-- LUN of a flash entry. -/
def MapEntry.lun? : MapEntry → Option Nat
  | .flash _ ch ce lun _ _ _ => some (64 * ch.val + 8 * ce.val + lun.val)
  | .unmapped => none
  | .buffer _ => none
  | .uncorrectable => none

def MapEntry.block? : MapEntry → Option Nat
  | .flash _ _ _ _ _ block _ => some block.val
  | .unmapped => none
  | .buffer _ => none
  | .uncorrectable => none

/-- An entry names flash. -/
def MapEntry.onFlash (e : MapEntry) : Bool := e.lun?.isSome

/-- Key of the unit stored at an entry. -/
def MapEntry.key (e : MapEntry) : Nat := e.word.toNat

/-- Entry of unit u of a page-mapped namespace. -/
def Ns.entry (x : Ns) (u : Nat) : MapEntry := Tbl.get .unmapped x.map u

def Ns.setEntry (x : Ns) (u : Nat) (e : MapEntry) : Ns := { x with map := Tbl.set .unmapped x.map u e }

/-- Byte k of a namespace's map: entries at 5-byte intervals, little-endian (R172). -/
def Ns.mapByte (x : Ns) (k : Nat) : Byte := BitVec.ofNat 8 ((x.entry (k / 5)).key / 256 ^ (k % 5))

/-! ### Zones (R155, R175) -/

/-- Data width that a creation word selects (R153). -/
def widthOf (w : CreationWord) : Nat :=
  if w.stripeData = 0 then (if w.contract then 7 else 31) else w.stripeData

/-- ZCAP in LBAs (R155). -/
def State.zcap (s : State) (w : Nat) : Nat := w * planes * s.blockPages * 4

/-- The smallest power of two at or above n, found in 64 doublings. -/
def powerAbove (n p : Nat) : Nat → Nat
  | 0 => p
  | fuel + 1 => if n ≤ p then p else powerAbove n (2 * p) fuel

/-- ZSZE in LBAs (R155). -/
def State.zsze (s : State) (w : Nat) : Nat := powerAbove (s.zcap w) 1 64

def Zone.initial : Zone :=
  { state := .empty, wp := 0, finishRec := false, opened := 0, stripe := none, rows := 0, slots := [], staged := [],
    lostRows := [], epoch := 0, zgen := 0, dstate := .none, dctx := none, digest := 0, resetting := none, resetPage := 0,
    gone := [] }

def Ns.zone (x : Ns) (z : Nat) : Zone := Tbl.get Zone.initial x.zones z
def Ns.setZone (x : Ns) (z : Nat) (y : Zone) : Ns := { x with zones := Tbl.set Zone.initial x.zones z y }

/-- Data member and position of unit u of a stripe of width w (R175). -/
def unitMember (w u : Nat) : Nat := u % w
def unitPos (w u : Nat) : Nat := u / w

/-- Entry of unit u of a stripe. -/
def Stripe.entryOf (t : Stripe) (slc : Bool) (u : Nat) : MapEntry :=
  entryAt slc (t.members.getD (unitMember t.w u) (0, 0)) (unitPos t.w u % planes) (unitPos t.w u / planes)

/-- Units of one stripe row: P units on each of W members. -/
def Stripe.rowUnits (t : Stripe) : Nat := t.w * planes

def Stripe.slc (t : Stripe) : Bool := t.use.slc

/-- Units a stripe holds. -/
def State.stripeUnits (s : State) (t : Stripe) : Nat := t.rowUnits * (if t.slc then s.slcPages else s.blockPages)

/-- Where a unit is to be read from: the slot if it holds one, else flash (R173, R175). -/
def State.locate (s : State) (nsid u : Nat) : MapEntry :=
  match s.ns? nsid with
  | none => .unmapped
  | some x =>
    if x.kind ≠ .zoned then x.entry u
    else
      let zu := s.zsze x.width / 4
      let z := u / zu
      let v := u % zu
      let y := x.zone z
      match Tbl.find y.slots v with
      | some k => .buffer k
      | none =>
        match Tbl.find y.staged v, y.stripe.bind s.stripe? with
        | some e, _ => e
        | none, some t =>
          if y.wp ≤ 4 * v then .unmapped
          else if y.gone.contains v then .uncorrectable
          else if y.lostRows.contains (v / t.rowUnits) && t.lost.contains (unitMember t.w v) then .uncorrectable
          else t.entryOf false v
        | none, none => .unmapped

/-! ### Journal records (R186 to R189) -/

/-- Records a page holds (R186). -/
def pageRecords : Nat := 1020

/-- CKPT_BASE: the lowest snapshot among the copies in effect (R190). -/
def Journal.base (j : Journal) : Nat :=
  match (j.copies.filter (·.inEffect)).map (·.snapshot) with
  | [] => 0
  | a :: t => t.foldl min a

/-- CONF_SEQ: highest WSEQ for which every unit at or below it is programmed (R189); `wseq` is the last one assigned. -/
def Journal.conf (j : Journal) : Nat :=
  match j.pendingSeqs with
  | [] => j.wseq
  | a :: t => t.foldl min a - 1

/-- SAVED values that the device keeps itself, as they stand (R435). -/
def State.keptNow (s : State) : Tbl Nat := s.dict.force.filter fun e => (Obj.rowOf e.1).elim false ObjRow.kept

/-- The namespace table as the journal carries it. -/
def State.nsTable (s : State) : Tbl Ns := s.store.ns.map fun e => (e.1, { e.2 with map := [] })

/-- Codes of Report Zones. -/
def ZState.code : ZState → Nat
  | .empty => 1
  | .implicitOpen => 2
  | .explicitOpen => 3
  | .closed => 4
  | .readOnly => 13
  | .full => 14
  | .offline => 15

/-- The 16 bytes of a record as one number (R186): TYPE, [123:112], [111:76], [75:36] and [35:0]. -/
def recWord (type a b c d : Nat) : BitVec 128 :=
  BitVec.ofNat 4 type ++ BitVec.ofNat 12 a ++ BitVec.ofNat 36 b ++ BitVec.ofNat 40 c ++ BitVec.ofNat 36 d

def JRec.word : JRec → BitVec 128
  | .write nsidx unit e wseq => recWord 1 nsidx unit e.key wseq
  | .reloc nsidx unit e => recWord 2 nsidx unit e.key 0
  | .unmap nsidx unit count => recWord 3 nsidx unit count 0
  | .uncorr nsidx unit count => recWord 4 nsidx unit count 0
  | .block event lun b erases => recWord 5 event (blockKey lun b) erases 0
  | .ckpt segment first snapshot => recWord 6 0 segment first.key snapshot
  | .zone nsidx z st rows epoch => recWord 7 nsidx z (st.code * 2 ^ 36 + rows % 2 ^ 20 * 2 ^ 16) epoch
  | .nscfg nsidx event => recWord 8 nsidx event 0 0

/-- PAD. -/
def padRec : BitVec 128 := recWord 0xF 0 0 0 0

/-- The 64-byte header of a copy of a page (R187). -/
def JPage.header (p : JPage) (copy : Nat) : BitVec 512 :=
  p.prev ++ BitVec.ofNat 56 0 ++ BitVec.ofNat 8 copy ++ BitVec.ofNat 16 p.recs.length ++ BitVec.ofNat 64 p.conf
    ++ BitVec.ofNat 48 p.base ++ BitVec.ofNat 64 p.seq

/-- The 16 KiB of a copy of a page: its header, its records, and PAD records (R186, R187). -/
def JPage.bytes (p : JPage) (copy : Nat) : List Byte :=
  bytesLE 64 (p.header copy).toNat
    ++ ((p.recs.map JRec.word) ++ List.replicate (pageRecords - p.recs.length) padRec).flatMap fun r => bytesLE 16 r.toNat

/-- System blocks of a LUN that the journal and the copies may be written to. -/
def State.journalRoom (s : State) (lun : Nat) : List Nat :=
  (s.goodBlocks lun 0 journalBlocks).filter fun b => !(s.block lun b).retired && !(s.block lun b).eraseDue

/-- LUNs with a system block to program. -/
def State.sysLuns (s : State) : List Nat :=
  (s.flash.luns.filter fun e => e.2.state = .active && s.journalRoom e.1 ≠ []).map (·.1)

/-- A system block of a LUN: the device goes round them (log entry 125). -/
def State.sysBlock (s : State) (lun n : Nat) : Nat :=
  let bs := s.journalRoom lun
  bs.getD (n / max 1 s.slcPages % max 1 bs.length) 0

/-- Where the two copies of the n-th page go: to system blocks on channels of different channel-engine groups (R188); which of
them is the model's choice (log entry 125). -/
def State.sysPlaces (s : State) (n : Nat) : List (Nat × Nat) :=
  let luns := s.sysLuns
  match luns[n % max 1 luns.length]? with
  | none => []
  | some a =>
    let others := luns.filter fun l => l / 256 ≠ a / 256
    (a :: (others[n % max 1 others.length]?).toList).map fun l => (l, s.sysBlock l n)

/-- A block of a LUN holds system data. -/
def State.useSystem (s : State) (m : Nat × Nat) : State := s.setBlock m.1 m.2 { s.block m.1 m.2 with system := true }

/-- The open page closes and both its copies join their LUNs ahead of every class, for no credit (R188). -/
def State.closePage (s : State) : State :=
  let j := s.store.journal
  if j.recs = [] then s
  else
    let places := s.sysPlaces j.next
    let p : JPage :=
      { seq := j.next, recs := j.recs, conf := j.conf, base := j.base, copies := 0, fails := (0, 0), stuck := false, prev := j.digest
        places := places, kept := s.keptNow, nss := s.nsTable }
    let s1 := s.setJournal { j with
      pages := j.pages ++ [p]
      next := j.next + 1
      recs := []
      digest := BitVec.ofNat 256 (natLE (sha256 (p.bytes 0))) }
    places.zipIdx.foldl (fun a e => (a.useSystem e.1).enqueue e.1.1 (.progSys j.next e.2) .sys e.1.2 true) s1

/-- Replay applies to a namespace no record before this point (R289): the open page closes ahead of its NSCFG record. -/
def State.forgetOld (s : State) (nsid : Nat) : State :=
  let s1 := s.closePage
  { s1 with store := { s1.store with
    ns := Tbl.upd s1.store.ns nsid fun (n : Ns) => { n with born := s1.store.journal.next } } }

/-- A record enters the open page, in the order of the map changes (R186); a full page closes (R188). -/
def State.journal (s : State) (r : JRec) : State :=
  let j := s.store.journal
  let s1 := s.setJournal { j with recs := j.recs ++ [r], since := if j.recs = [] then s.now else j.since }
  if pageRecords ≤ j.recs.length + 1 then s1.closePage else s1

/-- PAGE_SEQ of the page the last record entered, plus 1. -/
def State.lastPage (s : State) : Nat :=
  let j := s.store.journal
  if j.recs = [] then j.next else j.next + 1

/-- Every page up to that one is durable. -/
def State.pageDurable (s : State) (p : Nat) : Bool := p ≤ s.store.journal.durable

/-- Segment of a unit: 1,048,576 entries (R190). -/
def segmentOf (u : Nat) : Nat := u / 1048576

/-- A segment has changed since its copy. -/
def State.touchSegment (s : State) (nsid seg : Nat) : State :=
  let j := s.store.journal
  if j.changed.contains (nsid, seg) then s else s.setJournal { j with changed := j.changed ++ [(nsid, seg)] }

/-- A location of a secure-discard namespace is superseded: its stripe becomes secure-pending (R206). -/
def State.superseded (s : State) (x : Ns) (old : MapEntry) : State :=
  if x.secureDiscard then
    match (s.block (old.lun?.getD 0) (old.block?.getD 0)).stripe, old.onFlash with
    | some (id, _), true =>
      match s.stripe? id with
      | some t =>
        if t.secure then s
        else
          let s1 := (s.setStripe id { t with secure := true, secureAt := s.store.eraseClock }).bump Obj.sdPending
          t.members.foldl (fun a m => a.journal (.block 5 m.1 m.2 (a.block m.1 m.2).erases)) s1
      | none => s
    | _, _ => s
  else s

/-- A unit's entry changes; the location it named before is superseded. -/
def State.setUnit (s : State) (nsid u : Nat) (e : MapEntry) : State :=
  match s.ns? nsid with
  | some x =>
    ((s.setNs nsid (x.setEntry u e)).touchSegment nsid (segmentOf u)).superseded x (if x.entry u = e then .unmapped else x.entry u)
  | none => s

/-! ### Blocks and stripes -/

/-- An erase is queued for a block (R198, R170, R206). -/
def State.queueErase (s : State) (lun block : Nat) : State :=
  let b := s.block lun block
  if b.eraseDue then s
  else if b.retired ∨ (s.lun lun).state ≠ .active then s.setBlock lun block { b with stripe := none, claim := none, wants := [] }
  else
    let s1 := s.setBlock lun block { b with eraseDue := true, stripe := none, claim := none, wants := [] }
    { s1 with store := { s1.store with erases := s1.store.erases ++ [(lun, block)] } }

/-- Channels of a group by free blocks, most first, ties by distance from the cursor (R225). -/
def better (cursor : Nat) (a b : Nat × Nat) : Bool :=
  b.2 < a.2 || (a.2 = b.2 && (a.1 / 64 + 64 - cursor % 64) % 64 ≤ (b.1 / 64 + 64 - cursor % 64) % 64)

def insertLun (cursor : Nat) (e : Nat × Nat) : List (Nat × Nat) → List (Nat × Nat)
  | [] => [e]
  | d :: t => if better cursor e d then e :: d :: t else d :: insertLun cursor e t

/-- The free block of lowest, or for a target of wear levelling of highest, erase count (R199). -/
def State.chooseBlock (s : State) (lun : Nat) (use : StripeUse) : Option Nat :=
  (s.freeFor lun use).foldl (fun m b => match m with
    | none => some b
    | some a =>
      let ea := (s.block lun a).erases
      let eb := (s.block lun b).erases
      if (if use = .worn then ea < eb else eb < ea) then some b else some a) none

/-- Members of a new stripe in group g, one a channel (R225). -/
def State.chooseMembers (s : State) (g n : Nat) (use : StripeUse) : Option (List (Nat × Nat)) :=
  let cursor := Tbl.get 0 s.store.cursors g
  let cand := ((s.groupLuns g).map fun l => (l, (s.freeFor l use).length)).filter fun e => 0 < e.2
  let order := cand.foldr (insertLun cursor) []
  if order.length < n then none
  else some ((order.take n).map fun e => (e.1, (s.chooseBlock e.1 use).getD 0))

/-- LDPC strength of a group (R241). -/
def State.strengthOf (s : State) (g : Nat) : Nat := s.cfg Obj.groupStrength 0 g

/-- A stripe opens: its members leave the free blocks, BLOCK records say so, the cursor moves on (R225, R186). -/
def State.openStripe (s : State) (use : StripeUse) (g w : Nat) (q : Bool) : Option (Nat × State) :=
  let n := w + 1 + q.toNat
  match s.chooseMembers g n use with
  | none => none
  | some ms =>
    let id := s.store.nextStripe
    let t : Stripe :=
      { use := use, w := w, q := q, group := g, members := ms, next := 0, parityRows := 0, ended := false, openedAt := s.now,
        closedAt := none
        restarts := 0, lost := [], secure := false, secureAt := 0, copying := false, wear := false, relocPage := 0,
        sources := [], moved := [] }
    let s1 := (ms.zipIdx).foldl (fun a e =>
      (a.setBlock e.1.1 e.1.2 { a.block e.1.1 e.1.2 with
        stripe := some (id, e.2)
        reads := 0
        programmedAt := a.now
        strength := if use.slc then 7 else a.strengthOf g }).journal
        (.block 1 e.1.1 e.1.2 (a.block e.1.1 e.1.2).erases)) s
    some (id, { (s1.setStripe id t) with store := { (s1.setStripe id t).store with
      nextStripe := id + 1, cursors := Tbl.set 0 s1.store.cursors g ((Tbl.get 0 s1.store.cursors g + n) % 64) } })

/-- The open stripe of a use in a group, if any. -/
def State.openOf (s : State) (use : StripeUse) (g : Nat) : Option Nat :=
  (s.store.stripes.find? fun e => e.2.use = use && e.2.group = g && !e.2.ended).map (·.1)

/-- The open stripe of a use, a width and a Q page in a group, if any (R224). -/
def State.openWidth (s : State) (use : StripeUse) (g w : Nat) (q : Bool) : Option Nat :=
  (s.store.stripes.find? fun e => e.2.use = use && e.2.group = g && !e.2.ended && e.2.w = w && e.2.q = q).map (·.1)

/-- Next place in the open stripe of a use, opening one where there is none: stripe, unit position, state. -/
def State.placeIn (s : State) (use : StripeUse) (g w : Nat) (q : Bool) : Option (Nat × Nat × State) :=
  let got := match s.openWidth use g w q with
    | some id => some (id, s)
    | none => s.openStripe use g w q
  match got with
  | none => none
  | some (id, s1) =>
    match s1.stripe? id with
    | none => none
    | some t =>
      let last := s1.stripeUnits t ≤ t.next + 1
      some (id, t.next, s1.setStripe id { t with next := t.next + 1, ended := last })

/-- The first group of a list that gives a place. -/
def State.placeFirst (s : State) (use : StripeUse) (w : Nat) (q : Bool) : List Nat → Option (Nat × Nat × State)
  | [] => none
  | g :: gs => (s.placeIn use g w q).or (s.placeFirst use w q gs)

/-! ### Parity (R226) -/

/-- Multiplication by 2 in GF(2⁸), polynomial 0x11D. -/
def gfDouble (b : Byte) : Byte := if b.msb then (b <<< 1) ^^^ 0x1D#8 else b <<< 1

/-- Multiplication by 2^k. -/
def gfScale : Nat → Byte → Byte
  | 0, b => b
  | k + 1, b => gfScale k (gfDouble b)

/-- Multiplication of every byte of a payload by 2 in GF(2⁸): shift within bytes, then reduce the bytes that lost a
high bit. -/
def payloadDouble (p : Payload) : Payload :=
  let ones : Payload := BitVec.ofNat 33280 ((2 ^ 33280 - 1) / 255)
  let high := (p >>> 7) &&& ones
  ((p <<< 1) &&& ~~~ones) ^^^ (BitVec.ofNat 33280 (high.toNat * 0x1D))

def payloadScale : Nat → Payload → Payload
  | 0, p => p
  | k + 1, p => payloadScale k (payloadDouble p)

/-- P: XOR of the data members (R226). -/
def parityP (ds : List Payload) : Payload := ds.foldl (· ^^^ ·) 0

/-- Q: sum of 2^m times member m (R226). -/
def parityQ (ds : List Payload) : Payload :=
  (ds.zipIdx.map fun e => payloadScale e.2 e.1).foldl (· ^^^ ·) 0

/-- Payload of codeword c of a stored unit: the LBA data and the metadata area's host metadata and header (R239,
R244). A position that holds no unit counts as zero. -/
def Stored.payload (u : Stored) (c : Nat) : Payload :=
  let area : BitVec 512 := BitVec.ofNat 512 (((u.metas.getD c 0).toNat) + u.wseq % 2 ^ 64 * 2 ^ 128
    + (u.nsid - 1) % 4096 * 2 ^ 192 + u.unit % 2 ^ 48 * 2 ^ 204 + (u.bad.getLsbD c).toNat * 2 ^ 252)
  (area ++ u.lbas.getD c 0 : BitVec (512 + 32768))

/-- Payload at a place of a stripe. -/
def State.payloadAt (s : State) (t : Stripe) (member plane page c : Nat) : Payload :=
  let e := entryAt t.slc (t.members.getD member (0, 0)) plane page
  match Tbl.find s.store.media e.key with
  | some u => u.payload c
  | none => 0

/-- Parity payloads of a row, P then Q, plane by plane and codeword by codeword (R226). -/
def State.rowParity (s : State) (t : Stripe) (row : Nat) : List Payload :=
  let cells := (List.range planes).flatMap fun pl => (List.range 4).map fun c => (pl, c)
  let ds := fun (e : Nat × Nat) => (List.range t.w).map fun m => s.payloadAt t m e.1 row e.2
  cells.map (fun e => parityP (ds e)) ++ (if t.q then cells.map (fun e => parityQ (ds e)) else [])

/-- Key of a row's parity. -/
def parityKey (stripe row : Nat) : Nat := stripe * 4096 + row

/-! ### Slots (R180 to R185) -/

/-- A unit of a slot is durable: programmed, to its place or to staging, and the page of the record that maps it there
and every earlier page durable (R183). -/
def State.slotDurable (s : State) (x : Slot) : Bool :=
  match x.state with
  | .programmed _ => 0 < x.page && s.pageDurable x.page
  | .filling => x.staged.isSome && s.pageDurable x.page
  | .fillRead => false
  | .programming _ => x.staged.isSome && s.pageDurable x.page

/-- Dirty bytes: 16 KiB a slot whose data is not durable (R184). -/
def State.dirtyBytes (s : State) : Nat := 16384 * s.store.slots.countP fun e => !e.2.dead && !(s.slotDurable e.2)

/-- The dirty limit in force, in bytes (R413). -/
def State.dirtyLimit (s : State) : Nat := s.cfg Obj.dirtyLimit

/-- The slot that holds a unit. -/
def State.slotOf (s : State) (nsid u : Nat) : Option Nat :=
  (s.store.slots.find? fun e => e.2.nsid = nsid && e.2.unit = u && !e.2.dead).map (·.1)

/-- Zone and unit in it of a unit of a zoned namespace. -/
def State.zoneUnits (s : State) (x : Ns) : Nat := s.zsze x.width / 4

/-- A slot is taken for a unit: the entry becomes BUFFER, the previous entry is kept (R180). -/
def State.takeSlot (s : State) (nsid u handle : Nat) : Nat × State :=
  match s.slotOf nsid u with
  | some k => (k, s)
  | none =>
    let k := s.store.nextSlot
    let x : Slot :=
      { nsid := nsid, unit := u, mask := 0, lbas := List.replicate 4 0, metas := List.replicate 4 0, bad := 0
        keyTags := List.replicate 4 none, prev := s.locate nsid u, since := s.now, state := .filling, tries := 0, wseq := 0
        page := 0, handle := handle, writers := [], wanted := false, staged := none, digested := false, counter := 0
        dead := false, flight := none, again := false }
    let s1 := s.setSlot k x
    let s2 := { s1 with store := { s1.store with nextSlot := k + 1 } }
    match s.ns? nsid with
    | some n =>
      if n.kind = .zoned then
        let z := u / s.zoneUnits n
        let y := n.zone z
        (k, s2.setNs nsid (n.setZone z { y with slots := Tbl.put y.slots (u % s.zoneUnits n) k }))
      else (k, s2.setUnit nsid u (.buffer k))
    | none => (k, s2)

/-- One LBA enters a slot. A slot whose program has been issued takes the LBA as a new write of the unit: it fills
again, over what it holds (R181). -/
def Slot.put (x : Slot) (i : Nat) (d : LbaData) (m : HostMeta) (tag : Option Nat) (bad : Bool) : Slot :=
  { x with
    mask := x.mask ||| (1#4 <<< i)
    lbas := x.lbas.set i d
    metas := x.metas.set i m
    keyTags := x.keyTags.set i tag
    bad := if bad then x.bad ||| (1#4 <<< i) else x.bad &&& ~~~(1#4 <<< i) }

/-- A slot opens for a later write of its unit (R181). One whose program is in flight is programmed anew after it (R183); one that
was programmed keeps that place as the unit's previous entry; a staged copy no longer holds all of the unit (R184). -/
def Slot.reopen (x : Slot) : Slot :=
  match x.state with
  | .filling => { x with staged := none }
  | .fillRead => x
  | .programming _ => { x with again := true, staged := none }
  | .programmed loc => { x with state := .filling, prev := loc, tries := 0, wanted := false, counter := 0, staged := none }

/-- The program of a slot that was written meanwhile has ended at a place: the slot fills over it. -/
def Slot.refill (x : Slot) (loc : MapEntry) : Slot :=
  { x with state := .filling, prev := loc, tries := 0, wanted := false, counter := 0, flight := none, again := false }

/-- A slot is gone, and the unit's entry is e; a zone's unit is no longer in staging (R175). -/
def State.dropSlot (s : State) (k : Nat) (e : MapEntry) : State :=
  match s.slot? k with
  | none => s
  | some x =>
    let s1 := { s with store := { s.store with slots := Tbl.del s.store.slots k } }
    match s.ns? x.nsid with
    | none => s1
    | some n =>
      if n.kind = .zoned then
        let z := x.unit / s.zoneUnits n
        let y := n.zone z
        let v := x.unit % s.zoneUnits n
        s1.setNs x.nsid (n.setZone z { y with slots := Tbl.del y.slots v, staged := Tbl.del y.staged v })
      else s1.setUnit x.nsid x.unit e

/-- A slot is given back; one whose program is in flight goes once that has ended, so that its WSEQ is settled (R189). -/
def State.freeSlot (s : State) (k : Nat) (e : MapEntry) : State :=
  match s.slot? k with
  | none => s
  | some x =>
    match x.state with
    | .programming _ =>
      let s1 := s.dropSlot k e
      s1.setSlot k { x with dead := true }
    | .filling => s.dropSlot k e
    | .fillRead => s.dropSlot k e
    | .programmed _ => s.dropSlot k e

/-- A slot is given back, and no entry changes: that of a zone that loses all its data. One whose program is in flight goes once
that has ended. -/
def State.looseSlot (s : State) (k : Nat) : State :=
  match s.slot? k with
  | none => s
  | some x =>
    let gone := { s with store := { s.store with slots := Tbl.del s.store.slots k } }
    match x.state with
    | .programming _ => s.setSlot k { x with dead := true }
    | .filling => gone
    | .fillRead => gone
    | .programmed _ => gone

/-! ### Key slots (R277, R283) -/

def KeySlot.empty : KeySlot :=
  { kind := 0, origin := 0, kid := 0, keyId := 0, wctr := 0, high := 0, reserving := false }

/-- Key RAM slot k, of the namespace with NSIDX k (R283). -/
def State.keySlot (s : State) (k : Nat) : KeySlot := Tbl.get KeySlot.empty s.cipher.slots k

def State.setKeySlot (s : State) (k : Nat) (x : KeySlot) : State :=
  { s with cipher := { s.cipher with slots := Tbl.set KeySlot.empty s.cipher.slots k x } }

/-- The name of the key a Key Per I/O tag of a namespace selects (R287). -/
def State.kpioKey (s : State) (nsid tag : Nat) : Option Nat :=
  (s.cipher.kpio.find? fun e => e.1 = nsid && e.2.1 = tag).map (·.2.2)

/-- The content a slot programs. -/
def State.slotStored (s : State) (x : Slot) : Stored :=
  let n := s.ns? x.nsid
  let epoch := match n with
    | some y => if y.kind = .zoned then (y.zone (x.unit / s.zoneUnits y)).epoch else 0
    | none => 0
  { nsid := x.nsid, unit := x.unit, wseq := x.wseq, handle := x.handle, lbas := x.lbas, metas := x.metas, bad := x.bad
    key := (s.keySlot (x.nsid - 1)).keyId, epoch := epoch, counter := x.counter - 1
    gcm := n.elim false (fun y => y.word.cipherMode = 1)
    keyTags := x.keyTags }

end Sys2Proof.Machine
end

