-- ==== Sys2Proof/Machine/Flow.lean ====
section
/-! DEFINITION. How work moves: banks and admission (R128 to R133), die queues, slots to flash, media reads and their
attachments, and the settling of commands that wait (R131, R138, R163, R180 to R185, R192). -/
namespace Sys2Proof.Machine

/-! ### Banks (R128 to R130) -/

def Bank.zero : Bank := { read := 0, write := 0, copy := 0 }

def State.bank (s : State) (k : Nat) : Bank := Tbl.get Bank.zero s.sched.banks k
def State.setBank (s : State) (k : Nat) (b : Bank) : State :=
  { s with sched := { s.sched with banks := Tbl.set Bank.zero s.sched.banks k b } }

/-- Read and write capacity of a nominal frame in 1/1,024 credit, as the last boundary computed them (R128). -/
def State.readCap (s : State) : Nat := s.sched.readCap
def State.writeCap (s : State) : Nat := s.sched.writeCap

/-- The capacities are computed anew (R128). -/
def State.computeCaps (s : State) : State :=
  { s with sched := { s.sched with
    readCap := 25 * 1024 * s.cfg Obj.frameUs * s.derate / 100
    writeCap := 4000 * s.cfg Obj.frameUs * s.derate / 100 } }

/-- Bank of a task: 1,100 to 1,103. -/
def Task.holder : Task → Nat
  | .reclaim => 1100
  | .rebuild => 1101
  | .scrub => 1102
  | .selftest => 1103

/-- Bank of a function; a manager function holds no share (R129). -/
def holderOf : Func → Option Nat
  | .inst n => some n.val
  | .pf0 => none
  | .pf1 => none

def Bank.has (b : Bank) (k : CreditKind) (n : Nat) : Bool :=
  match k with
  | .read => (n : Int) ≤ b.read
  | .write => (n : Int) ≤ b.write
  | .copy => (n : Int) ≤ b.copy

def Bank.take (b : Bank) (k : CreditKind) (n : Nat) : Bank :=
  match k with
  | .read => { b with read := b.read - n }
  | .write => { b with write := b.write - n }
  | .copy => { b with copy := b.copy - n }

/-- Capacity that holders have spent in the frame. -/
def State.spend (s : State) (k : CreditKind) (n : Nat) : State :=
  match k with
  | .read => { s with sched := { s.sched with spentRead := s.sched.spentRead + n } }
  | .write => { s with sched := { s.sched with spentWrite := s.sched.spentWrite + n } }
  | .copy => { s with sched := { s.sched with spentWrite := s.sched.spentWrite + n } }

/-- A charge is met from the holder's bank, or in step 3 of R132 from unspent capacity; none where it is not met. An
instance that is being frozen is not charged (R477). -/
def State.pay (s : State) (f : Func) (k : CreditKind) (n : Nat) (step3 : Bool) : Option State :=
  if s.draining f then some s
  else if step3 then
    match k with
    | .read =>
      if n ≤ s.sched.leftRead then some { s with sched := { s.sched with leftRead := s.sched.leftRead - n } } else none
    | .write =>
      if n ≤ s.sched.leftWrite then some { s with sched := { s.sched with leftWrite := s.sched.leftWrite - n } } else none
    | .copy =>
      if n ≤ s.sched.leftWrite then some { s with sched := { s.sched with leftWrite := s.sched.leftWrite - n } } else none
  else
    match holderOf f with
    | some i => if (s.bank i).has k n then some ((s.setBank i ((s.bank i).take k n)).spend k n) else none
    | none => none

/-! ### Media reads (R163, R164, R173) -/

/-- A covered read of a contract: 4 KiB-aligned reads of one to four LBAs of a contract namespace by an instance with a
bound (R143), honoured while no mode but SERVICE, READ-ONLY and FREEZE is set (R145). Which reads are of one to four LBAs their
contexts say. -/
def State.covered (s : State) (f : Func) (nsid : Nat) : Bool :=
  match f with
  | .inst n =>
    s.cfg Obj.contractBound n.val ≠ 0 && (s.ns? nsid).elim false (·.word.contract)
      && s.has Mode.service && s.modes &&& 0xFBA#12 = 0
  | .pf0 => false
  | .pf1 => false

/-- Codewords a mask needs start at the first step of the ladder, the others need none (R246). -/
def ladderStart (mask : BitVec 4) (first : LadderStep) : List LadderStep :=
  (List.range 4).map fun i => if mask.getLsbD i then first else .decoded

/-- LBAs of a unit that a mask names, in order. -/
def maskLbas (mask : BitVec 4) : List Nat := (List.range 4).filter fun i => mask.getLsbD i

/-- A media read enters the table and joins its LUN's queue; where that LUN is lost its codewords stand at a step of
their own. -/
def State.enterRead (s : State) (nsid u : Nat) (e : MapEntry) (mask : BitVec 4) (cls : OpClass) (serves : ReadFor)
    (att : List Attach) (dead : LadderStep) : Nat × State :=
  let id := s.store.nextRead
  let lun := e.lun?.getD 0
  let alive := (s.lun lun).state = .active
  let whole : BitVec 4 := if (s.ns? nsid).elim false (·.word.cipherMode = 1) then 15#4 else mask
  let epoch := match s.ns? nsid with
    | some y => if y.kind = .zoned then (y.zone (u / s.zoneUnits y)).epoch else 0
    | none => 0
  let r : MediaRead :=
    { nsid := nsid, unit := u, entry := e, mask := whole, cls := cls, attached := att, refs := 1 + att.length
      steps := ladderStart whole (if alive then .hard else dead), arrived := false, issued := false, epoch := epoch
      around := none, aroundTried := false, tagFails := 0, source := if alive then 1 else 3, serves := serves, data := [], metas := []
      sending := false, reread := false }
  let s1 := s.setRead id r
  let s2 := { s1 with store := { s1.store with nextRead := id + 1 } }
  (id, if alive then s2.enqueue lun (.read id) cls (e.block?.getD 0) false else s2)

/-- Member reads of a read-around or a rebuild: LUN and entry of every other data member and of P (R141, R233). -/
def Stripe.others (t : Stripe) (m plane page : Nat) : List (Nat × MapEntry) :=
  ((List.range (t.w + 1)).filter (· ≠ m)).map fun i =>
    ((t.members.getD i (0, 0)).1, entryAt t.slc (t.members.getD i (0, 0)) plane page)

/-- Plane of a flash entry. -/
def MapEntry.plane? : MapEntry → Nat
  | .flash _ _ _ _ plane _ _ => plane.val
  | .unmapped => 0
  | .buffer _ => 0
  | .uncorrectable => 0

/-- Nominal grant of a share of a capacity, in 1/1,024 credit. -/
def grantOf (cap share : Nat) : Nat := cap * share / 10000

/-- A chunk of a background task waits for admission. -/
def State.queueBg (s : State) (task : Task) (work : BgWork) (readCost writeCost : Nat) : State :=
  { s with sched := { s.sched with
      bg := s.sched.bg ++ [{ id := s.sched.nextBg, task := task, work := work, readCost := readCost, writeCost := writeCost }]
      nextBg := s.sched.nextBg + 1 } }

/-- Stripe, member and row of a flash entry. -/
def State.placeOf (s : State) (e : MapEntry) : Option (Nat × Nat × Nat) :=
  match e with
  | .flash _ ch ce lun _ block page =>
    ((s.block (64 * ch.val + 8 * ce.val + lun.val) block.val).stripe).map fun m => (m.1, m.2, page.val)
  | .unmapped => none
  | .buffer _ => none
  | .uncorrectable => none

/-- Where the other members of a read's row are read (R233). -/
def State.darnOthers (s : State) (r : MediaRead) : List (Nat × MapEntry) :=
  match s.placeOf r.entry with
  | none => []
  | some (id, m, row) => (s.stripe? id).elim [] fun t => t.others m r.entry.plane? row

/-- Reads of every other member start for a rebuild of a read's unit (R233); a member that is itself lost gives none. -/
def State.startDarning (s : State) (rd : Nat) (r : MediaRead) : State :=
  (s.darnOthers r).foldl (fun a e => (a.enterRead r.nsid r.unit e.2 r.mask r.cls (.member rd) [] .lost).2) s

/-- Darning of one unit for a read (R233): its member reads are charged to REBUILD. That of a unit on a lost member is
admitted even below zero, down to minus one frame's grant; what the bank does not cover waits ahead of member rebuilds. -/
def State.darnUnit (s : State) (rd : Nat) (owed : Bool) : State :=
  match Tbl.find s.store.reads rd with
  | none => s
  | some r =>
    let n := (s.darnOthers r).length * (maskLbas r.mask).length * 1024
    let b := s.bank Task.rebuild.holder
    let least : Int := if owed then -(grantOf s.readCap (s.cfg Obj.bgShares 0 2) : Int) else 0
    if s.store.reads.any (fun e => e.2.serves = .member rd) ∨ s.sched.bg.any (fun c => c.work = .darn rd) then s
    else if least ≤ b.read - n then ((s.setBank Task.rebuild.holder (b.take .read n)).spend .read n).startDarning rd r
    else
      { s with sched := { s.sched with
          bg := BgChunk.mk s.sched.nextBg .rebuild (.darn rd) n 0 :: s.sched.bg
          nextBg := s.sched.nextBg + 1 } }

/-- A media read starts: it joins its LUN's queue, or goes to Darning when its LUN is lost (R233). -/
def State.startRead (s : State) (nsid u : Nat) (e : MapEntry) (mask : BitVec 4) (cls : OpClass) (serves : ReadFor)
    (att : List Attach) : Nat × State :=
  let got := s.enterRead nsid u e mask cls serves att .darning
  (got.1, if (s.lun (e.lun?.getD 0)).state = .active then got.2 else got.2.darnUnit got.1 true)

/-- The unit's LBAs an in-flight read covers. -/
def maskWithin (a b : BitVec 4) : Bool := a &&& ~~~b = 0

/-- A zone of a unit is under Secure Reset (R163, R169). -/
def State.zoneBusy (s : State) (nsid u : Nat) : Bool :=
  match s.ns? nsid with
  | some y => y.kind = .zoned && (y.zone (u / s.zoneUnits y)).resetting.isSome
  | none => false

/-- The in-flight read a chunk may attach to (R163). -/
def State.attachable (s : State) (nsid u : Nat) (mask : BitVec 4) : Option (Nat × MediaRead) :=
  if s.flag Obj.coalesceEn && !((s.ns? nsid).elim true (·.word.noCoalesce)) && !(s.zoneBusy nsid u) then
    s.store.reads.find? fun e =>
      e.2.nsid = nsid && e.2.unit = u && e.2.serves = .host && e.2.entry = s.locate nsid u && maskWithin mask e.2.mask
        && !e.2.sending && e.2.refs < s.cfg Obj.coalesceMaxRef
        && (match s.ns? nsid with
          | some y => y.kind ≠ .zoned || (y.zone (u / s.zoneUnits y)).epoch = e.2.epoch
          | none => false)
  else none

/-- A queued read moves to the contract class when a covered read attaches to it (R164). -/
def State.promoteRead (s : State) (rd : Nat) (r : MediaRead) : State :=
  let lun := r.entry.lun?.getD 0
  let x := s.lun lun
  (s.setRead rd { r with cls := .contract }).setLun lun { x with
    queue := x.queue.map fun o => if o.kind = .read rd then { o with cls := .contract } else o }

/-- READ_COALESCE_ATTACH (R163): a reference, no credit, no media operation; counted in 0x2480.05. -/
def State.attach (s : State) (rd : Nat) (r : MediaRead) (a : Attach) : State :=
  let r1 := { r with attached := r.attached ++ [a], refs := r.refs + 1 }
  let s1 := (s.setRead rd r1).bump Obj.coalescedReads
  if a.covered && !r.issued && r.cls = .other then s1.promoteRead rd r1 else s1

/-! ### Delivery to a command -/

/-- Data of some LBAs of a chunk reaches a command; a marked LBA ends it Unrecovered Read Error (R173). -/
def Ctx.receive (c : Ctx) (mask : BitVec 4) (first : Nat) (lbas : List LbaData) (metas : List HostMeta) (bad : BitVec 4) : Ctx :=
  let low := (maskLbas mask).headD 0
  { c with
    got := c.got ++ (maskLbas mask).map fun i => (first + i - low, lbas.getD i 0, metas.getD i 0)
    moved := true
    err := if bad &&& mask = 0 then c.err else c.err.or (some .unrecovered) }

/-- One open part of a command ends. -/
def Ctx.close1 (c : Ctx) : Ctx := { c with open_ := c.open_ - 1 }

/-! ### Slots to flash (R182, R192) -/

/-- Groups a page-mapped unit may go to: the group of its handle, or every group (R192, R193). -/
def State.groupsFor (s : State) (x : Ns) (handle : Nat) : List Nat :=
  if x.kind = .flexible then [handle / 1024] else List.range s.groups.length

/-- Free blocks of a group in basis points of its stripe-available blocks (R195). -/
def State.freeBp (s : State) (g : Nat) : Nat :=
  let luns := s.groupLuns g
  let all := (luns.map fun l => s.lunBlocks l - (s.lun l).factoryBad.length - systemBlocks - s.stagingBlocks).sum
  let free := (luns.map fun l => (s.freeBlocks l).length).sum
  if all = 0 then 0 else 10000 * free / all

/-- A page-mapped unit's place: SLC staging while STAGING_EN is on and a block is free, else a QLC stripe of its group
that is not below GC_URGENT_BP, counted in 0x2420.05 (R192, R195). -/
def State.placeUnit (s : State) (x : Slot) (n : Ns) : Option (Bool × Nat × Nat × State) :=
  let staged := if s.flag Obj.stagingEn then s.placeFirst .staging 7 false (List.range s.groups.length) else none
  match staged with
  | some (id, u, s1) => some (true, id, u, s1)
  | none =>
    let use := StripeUse.ns (if n.kind = .flexible then 0 else x.nsid) x.handle
    let gs := (s.groupsFor n x.handle).filter fun g => (s.openOf use g).isSome || s.cfg Obj.gcUrgentBp ≤ s.freeBp g
    match s.placeFirst use n.width n.word.qParity gs with
    | some (id, u, s1) => some (false, id, u, if s.flag Obj.stagingEn then s1.bump Obj.stagingBypass else s1)
    | none => none

/-- Units of a namespace are enciphered in authenticated mode (R274). -/
def State.isGcm (s : State) (nsid : Nat) : Bool := (s.ns? nsid).elim false (·.word.cipherMode = 1)

/-- A slot of an authenticated namespace without a write counter, where fewer than n reserved values are left (R278). -/
def State.counterShort (s : State) (x : Slot) (n : Nat) : Bool :=
  x.counter = 0 && s.isGcm x.nsid && (s.keySlot (x.nsid - 1)).high < (s.keySlot (x.nsid - 1)).wctr + n

/-- A program finds its window spent: it waits for the next reservation (R278). -/
def State.counterWait (s : State) (k : Nat) (x : Slot) : State :=
  let q := s.keySlot (x.nsid - 1)
  let s1 := if x.wanted then s else (s.setSlot k { x with wanted := true }).bump Obj.ctrWaits
  s1.setKeySlot (x.nsid - 1) { q with reserving := true }

/-- A key whose write counter is here takes no further GCM write (R279). -/
def counterEnd : Nat := 2 ^ 64 - 2 ^ 32

/-- A unit takes the next write counter of its key slot unless it is placed again with its ciphertext (R277); past the
middle of the window a further reservation is written (R278). -/
def State.takeCounter (s : State) (x : Slot) : Slot × State :=
  if x.counter = 0 ∧ s.isGcm x.nsid then
    let q := s.keySlot (x.nsid - 1)
    let q1 := { q with
      wctr := q.wctr + 1
      reserving := q.reserving || q.high < q.wctr + 1 + s.cfg Obj.ctrWindow / 2 }
    let s1 := s.setKeySlot (x.nsid - 1) q1
    ({ x with counter := q.wctr + 1 }, if q1.wctr = counterEnd then s1.record 0x0904 [x.nsid - 1] else s1)
  else (x, s)

/-- A unit's program is issued: it takes the next WSEQ, the first of which is 1 (DESIGN CHOICE, log entry 135), its WRITE
record enters the journal where one is due, and the operation joins the LUN's queue (R189, R134). -/
def State.issueProgram (s : State) (k : Nat) (x : Slot) (loc : MapEntry) (record : Bool) : State :=
  let (x, s) := s.takeCounter x
  let j := s.store.journal
  let w := j.wseq + 1
  let s1 := s.setJournal { j with wseq := w, pendingSeqs := j.pendingSeqs ++ [w] }
  let s2 := if record then s1.journal (.write (x.nsid - 1) x.unit loc w) else s1
  let x1 := { x with state := .programming loc, wseq := w, tries := x.tries + 1, again := false }
  let s3 := s2.setSlot k { x1 with
    page := if record then s2.lastPage else x.page
    flight := some (s.slotStored x1) }
  s3.enqueue (loc.lun?.getD 0) (.program k) .program (loc.block?.getD 0)
    (match loc with
      | .flash slc _ _ _ _ _ _ => slc
      | .unmapped => false
      | .buffer _ => false
      | .uncorrectable => false)

/-- Programs a page-mapped slot (R182): LBAs missing from its mask come by a fill read through the previous entry
first; a previous entry without data gives zeros, or marks. A slot that finds no place stays wanted. -/
def State.programSlot (s : State) (k : Nat) : State :=
  match s.slot? k with
  | none => s
  | some x =>
    match s.ns? x.nsid, x.state with
    | some n, .filling =>
      if n.kind = .zoned then s
      else if s.counterShort x 1 then s.counterWait k x
      else if x.mask ≠ 15#4 ∧ x.prev.onFlash then
        let s1 := (s.setSlot k { x with state := .fillRead, wanted := true }).bump Obj.fillReads
        (s1.startRead x.nsid x.unit x.prev (~~~x.mask) .other (.slotFill k) []).2
      else
        let x1 := if x.prev = .uncorrectable then { x with bad := x.bad ||| ~~~x.mask, mask := 15#4 } else { x with mask := 15#4 }
        match s.placeUnit x1 n with
        | some (slc, id, u, s1) =>
          match s1.stripe? id with
          | some t => s1.issueProgram k x1 (t.entryOf slc u) true
          | none => s
        | none => (s.setSlot k { x with wanted := true }).bump Obj.urgentWaits
    | _, _ => s

/-- Units of the member row that a unit of a zone belongs to (R175). -/
def memberRow (w v : Nat) : List Nat :=
  let m := v % w
  let p := v / w
  (List.range planes).map fun i => m + w * (planes * (p / planes) + i)

/-- Slot of a unit of a zone. -/
def Zone.slot (y : Zone) (v : Nat) : Option Nat := Tbl.find y.slots v

/-- A member row is complete: a slot with every LBA for each of its units. -/
def State.rowReady (s : State) (y : Zone) (w v : Nat) : Bool :=
  (memberRow w v).all fun u => match (y.slot u).bind s.slot? with
    | some x => x.mask = 15#4 && (x.state = .filling || x.staged.isSome) && !(s.counterShort x planes)
    | none => false

/-- A member row of a zone is programmed to QLC (R182). -/
def State.programRow (s : State) (nsid z v : Nat) : State :=
  match s.ns? nsid with
  | none => s
  | some n =>
    let y := n.zone z
    match y.stripe.bind s.stripe? with
    | none => s
    | some t =>
      (memberRow t.w v).foldl (fun a u =>
        match (y.slot u).bind (fun k => (a.slot? k).map fun x => (k, x)) with
        | some (k, x) => a.issueProgram k { x with state := .filling } (t.entryOf false u) false
        | none => a) s

/-- A complete member row is programmed; one whose units lack write counters waits for the next reservation (R278). -/
def State.tryRow (s : State) (nsid z v : Nat) : State :=
  match s.ns? nsid with
  | none => s
  | some n =>
    let y := n.zone z
    if s.rowReady y n.width v then s.programRow nsid z v
    else
      let row := (memberRow n.width v).filterMap fun u => (y.slot u).bind fun k => (s.slot? k).map fun x => (k, x)
      if row.length = planes ∧ row.all (fun e => e.2.mask = 15#4) then
        row.foldl (fun a e => if a.counterShort e.2 planes then a.counterWait e.1 e.2 else a) s
      else s

/-- A zoned slot goes to SLC staging ahead of its row (R184). -/
def State.stageSlot (s : State) (k : Nat) : State :=
  match s.slot? k with
  | none => s
  | some x =>
    if x.state = .filling ∧ x.staged = none ∧ s.counterShort x 1 then s.counterWait k x
    else if x.state = .filling ∧ x.staged = none then
      match s.placeFirst .staging 7 false (List.range s.groups.length) with
      | some (id, u, s1) =>
        match s1.stripe? id with
        | some t => s1.issueProgram k x (t.entryOf true u) true
        | none => s
      | none => s.setSlot k { x with wanted := true }
    else s

/-- A slot that a Flush, a FUA write or the dirty mark needs is programmed: zoned to staging, page-mapped as R182 (R184). -/
def State.pushSlot (s : State) (k : Nat) : State :=
  match (s.slot? k).bind fun x => s.ns? x.nsid with
  | some n => if n.kind = .zoned then s.stageSlot k else s.programSlot k
  | none => s

/-- Dirty bytes at 90 % of the limit program the oldest slots first (R182). -/
def State.dirtyMark (s : State) : State :=
  if 9 * s.dirtyLimit ≤ 10 * s.dirtyBytes then
    match s.store.slots.find? (fun e => e.2.state = .filling && e.2.staged.isNone) with
    | some e => s.pushSlot e.1
    | none => s
  else s

/-! ### Zone digests (R165, R166) -/

/-- The running digest of a zone takes in, in LBA order, what its slots hold (at most `fuel` LBAs). -/
def State.digestZone (s : State) (nsid z : Nat) : Nat → State
  | 0 => s
  | fuel + 1 =>
    match s.ns? nsid with
    | none => s
    | some n =>
      let y := n.zone z
      match y.dctx with
      | none => s
      | some d =>
        let lba := d.count / 4096
        match (y.slot (lba / 4)).bind (fun k => (s.slot? k).map fun x => (k, x)) with
        | some (k, x) =>
          if x.mask.getLsbD (lba % 4) ∧ lba < y.wp then
            let d1 := d.absorbLba (x.lbas.getD (lba % 4) 0)
            let s1 := (s.setNs nsid (n.setZone z { y with dctx := some d1 })).bump Obj.zoneDigestBytes 4096
            (s1.setSlot k { x with digested := lba % 4 = 3 }).digestZone nsid z fuel
          else s
        | none => s

/-- A Full zone whose digest has taken in every LBA has its digest padded and FINAL (R165). -/
def State.digestDone (s : State) (nsid z : Nat) : State :=
  match s.ns? nsid with
  | none => s
  | some n =>
    let y := n.zone z
    match y.dctx with
    | none => s
    | some d =>
      if y.state = .full ∧ y.dstate = .running ∧ d.count = 4096 * y.wp then
        s.setNs nsid (n.setZone z { y with dstate := .final, digest := natLE d.finish, dctx := none })
      else s

/-! ### Write chunks (R180, R184) -/

/-- The slot of a unit counts as dirty already. -/
def State.dirtyUnit (s : State) (nsid u : Nat) : Bool :=
  ((s.slotOf nsid u).bind s.slot?).elim false fun x => !(s.slotDurable x)

/-- The dirty limit, or the size of the journal, holds a chunk that writes a unit (R184, R190). A dirty limit of 0 holds no write:
it completes when it is durable (R413). -/
def State.limitHolds (s : State) (nsid u : Nat) : Bool :=
  (!(s.dirtyUnit nsid u) && s.dirtyLimit ≠ 0 && decide (s.dirtyLimit < s.dirtyBytes + 16384))
    || decide (s.cfg Obj.journalBytes ≤ 16384 * s.store.journal.pages.length)

/-- A write chunk may be admitted: no mode forbids it, and neither the limits nor secure discard hold it (R184, R203, R207). -/
def State.writeOpen (s : State) (nsid u : Nat) : Bool :=
  !(s.has Mode.readOnly) && !(s.has Mode.holdUp) && !(s.limitHolds nsid u)
    && !((s.ns? nsid).elim false (·.secureDiscard) && s.cfg Obj.sdPendingMax < s.cfg Obj.sdPending)

/-- Data of a chunk moves into its slot; a full page-mapped slot and a complete member row are programmed (R180, R182). -/
def State.writeUnit (s : State) (f : Func) (stamp nsid u : Nat) (mask : BitVec 4) (handle : Nat) (lbas : List LbaData)
    (metas : List HostMeta) (tag : Option Nat) (bad : Bool) : State :=
  let got := s.takeSlot nsid u handle
  let k := got.1
  match got.2.slot? k with
  | none => s
  | some x0 =>
    let x := x0.reopen
    let low := (maskLbas mask).headD 0
    let x1 := (maskLbas mask).foldl (fun a i => a.put i (lbas.getD (i - low) 0) (metas.getD (i - low) 0) tag bad) x
    let s1 := got.2.setSlot k { x1 with writers := x1.writers ++ [(f.code, stamp)], handle := handle }
    let s2 := { s1 with store := { s1.store with unitsHost := s1.store.unitsHost + 1 } }
    match s2.ns? nsid with
    | none => s2
    | some n =>
      if n.kind = .zoned then
        let zu := s2.zoneUnits n
        let s3 := (s2.digestZone nsid (u / zu) (4 * (n.zone (u / zu)).slots.length)).digestDone nsid (u / zu)
        (s3.tryRow nsid (u / zu) (u % zu)).dirtyMark
      else if x1.mask = 15#4 then (s2.programSlot k).dirtyMark
      else s2.dirtyMark

/-! ### Commands that wait for durability (R116, R117, R183) -/

/-- A unit holds no data that is not durable. -/
def State.unitDurable (s : State) (e : Nat × Nat) : Bool :=
  match (s.slotOf e.1 e.2).bind s.slot? with
  | some x => s.slotDurable x
  | none => true

/-- A slot a Flush covers: written by an earlier command of the same function in its namespaces (R116). -/
def Ctx.coversSlot (c : Ctx) (x : Slot) : Bool :=
  match c.flushOf with
  | some nsid => (nsid = 0xFFFFFFFF || nsid = x.nsid) && x.writers.any fun w => w.1 = c.hdr.fn.code && w.2 < c.stamp
  | none => false

/-- A modifying command a Flush covers is not finished (R117). -/
def State.coveredOpen (s : State) (c : Ctx) : Bool :=
  match c.flushOf with
  | some nsid => s.host.ctxs.any fun e =>
      e.hdr.fn = c.hdr.fn && e.stamp < c.stamp && e.done.isNone && e.gen = c.gen
        && e.mods.any fun r => nsid = 0xFFFFFFFF || r.1 = nsid
  | none => false

/-- What a command waits to be durable is durable. -/
def State.durableNow (s : State) (c : Ctx) : Bool :=
  (c.page = 0 || s.pageDurable c.page) && c.need.all s.unitDurable && !(s.coveredOpen c)
    && !(s.store.slots.any fun e => c.coversSlot e.2 && !(s.slotDurable e.2))

/-- Slots a waiting command needs start to program, and its journal page closes (R182, R188). -/
def State.pushFor (s : State) (c : Ctx) : State :=
  let ks := (s.store.slots.filter fun e =>
    (c.coversSlot e.2 || c.need.contains (e.2.nsid, e.2.unit)) && e.2.state = .filling).map (·.1)
  let s1 := ks.foldl State.pushSlot s
  if s1.durableNow c then s1 else s1.closePage

/-- The page that a Flush awaits is that of the last record, once nothing that it covers is open (R117). -/
def State.flushPage (s : State) (c : Ctx) : Ctx :=
  if c.flushOf.isSome ∧ c.page = 0 ∧ !(s.coveredOpen c) then { c with page := s.lastPage } else c

/-! ### End of a command -/

/-- Insertion by index. -/
def insertGot (e : Nat × LbaData × HostMeta) : List (Nat × LbaData × HostMeta) → List (Nat × LbaData × HostMeta)
  | [] => [e]
  | d :: t => if e.1 ≤ d.1 then e :: d :: t else d :: insertGot e t

/-- Data and metadata a command has read, in LBA order. -/
def Ctx.readData (c : Ctx) : List LbaData := (c.got.foldr insertGot []).map (·.2.1)
def Ctx.readMetas (c : Ctx) : List HostMeta := (c.got.foldr insertGot []).map (·.2.2)

/-- What the checks of an LBA's protection information answer (R151; NVM Express; log entry 6). -/
def piStatus (type : Nat) (p : PrInfo) (lba : Nat) (d : LbaData) (m : HostMeta) : Option Status :=
  match Config.piCheck type p d lba m with
  | 0 => none
  | 1 => some .guardCheck
  | 2 => some .appTagCheck
  | _ => some .refTagCheck

/-- First LBA of some from an LBA on whose protection information fails. -/
def piFails (type : Nat) (p : PrInfo) (lba : Nat) : List LbaData → List HostMeta → Option Status
  | d :: ds, m :: ms => (piStatus type p lba d m).or (piFails type p (lba + 1) ds ms)
  | [], _ => none
  | _ :: _, [] => none

/-- What a read finds in the protection information of its LBAs. -/
def Ctx.piError (c : Ctx) : Option Status := c.pi.bind fun e => piFails e.1 e.2 c.lba c.readData c.readMetas

/-- A read that succeeds ends, its data and metadata with it. -/
def State.concludeOk (s : State) (c : Ctx) : State :=
  match c.purpose with
  | .toHost =>
    (s.emit (.data c.hdr.fn.code c.hdr c.lba c.readData (if c.withMeta then c.readMetas else []))).finish c.hdr
      { status := .success, dw0 := c.dw0, dw1 := c.dw1 }
  | .compare =>
    s.finish c.hdr (if c.readData = c.expect ∧ (c.withMeta = false ∨ c.readMetas = c.expectMetas) then Cpl.ok
      else Cpl.of .compareFailure)
  | .none => s.finish c.hdr { status := .success, dw0 := c.dw0, dw1 := c.dw1 }
  | .verify => s.finish c.hdr Cpl.ok
  | .copy => s.finish c.hdr { status := .success, dw0 := c.dw0, dw1 := c.dw1 }

/-- A command whose chunks have all been done ends: with its first failure, or by its purpose. -/
def State.conclude (s : State) (c : Ctx) : State :=
  match c.err.or c.piError with
  | some st => s.finish c.hdr { status := st, dw0 := c.dw0, dw1 := c.dw1 }
  | none => s.concludeOk c

/-- The destination units of a Copy are written once its sources are read (R101). -/
def State.copyOut (s : State) (c : Ctx) : State :=
  match c.dst with
  | some (nsid, lba) =>
    let ds := c.readData
    let ms := c.readMetas
    let us := (List.range (if ds = [] then 0 else (lba + ds.length - 1) / 4 + 1 - lba / 4)).map (· + lba / 4)
    us.foldl (fun a u =>
      let idx := (List.range 4).filter fun i => lba ≤ 4 * u + i && 4 * u + i < lba + ds.length
      let mask := idx.foldl (fun (m : BitVec 4) i => m ||| (1#4 <<< i)) 0
      let handle := (a.ns? nsid).elim 0 fun n => n.handles.headD 0
      a.writeUnit c.hdr.fn c.stamp nsid u mask handle (idx.map fun i => ds.getD (4 * u + i - lba) 0)
        (idx.map fun i => ms.getD (4 * u + i - lba) 0) none false) s
  | none => s

/-- While the dirty limit is 0 a write that has not finished needs its units durable (R413). -/
def State.withNeed (s : State) (c : Ctx) : Ctx :=
  if s.dirtyLimit = 0 ∧ c.data ≠ [] ∧ c.need = [] then
    { c with need := c.mods.flatMap fun r => (List.range (r.2.2 + 1 - r.2.1)).map fun i => (r.1, r.2.1 + i) }
  else c

/-- A command with nothing left to admit or to wait for concludes. -/
def State.settleCtx (s : State) (h : Hdr) : State :=
  match (s.ctx? h).map s.withNeed with
  | none => s
  | some c =>
    if c.done.isNone ∧ c.chunks = [] ∧ c.open_ = 0 then
      match c.wait with
      | .none =>
        if c.purpose = .copy ∧ c.err = none then ((s.copyOut c).conclude { c with got := [] })
        else if c.err = none ∧ !(s.durableNow c) then
          (s.modCtx h fun k => { k with wait := .durable, need := c.need }).pushFor { c with wait := .durable }
        else s.conclude c
      | .durable => if s.durableNow c then s.conclude c else s
      | .order => s
      | .entries _ => s
      | .epoch => s
      | .deleteSq _ => s
      | .offline _ => s
      | .freeze _ => s
      | .event => s
      | .space => s
      | .buffer _ => s
      | .erase => s
      | .activation => s
    else s

/-- A command that waits for durability: what it needs is set going, and it concludes once all of that is durable. -/
def State.settleWait (s : State) (h : Hdr) : State :=
  match s.ctx? h with
  | some c =>
    let d := s.flushPage c
    ((s.modCtx h fun k => { k with page := d.page }).pushFor d).settleCtx h
  | none => s

/-- Every command that waits for durability goes on as far as it can. -/
def State.settleDurable (s : State) : State :=
  (s.host.ctxs.filter fun c => c.wait = .durable && c.done.isNone).foldl (fun a c =>
    if c.chunks ≠ [] then
      (if a.durableNow c then a.modCtx c.hdr fun k => { k with wait := .none, need := [], page := 0 } else a)
    else a.settleWait c.hdr) s

/-! ### Power tokens (R135, R136, R394, R414) -/

/-- Controller power of the power state in force, in mW. -/
def State.controllerPower (s : State) : Nat :=
  if s.power.current = 0 then 45000 else if s.power.current = 1 then 30000 else 20000

/-- Standing charge: idle power of each attached LUN that is not lost. -/
def State.standing (s : State) : Nat :=
  ((s.flash.luns.filter fun e => e.2.state = .active).map fun e => (s.profile e.1).elim 0 (·.pIdle)).sum

/-- Largest operation power less idle power of a die class. -/
def profilePeak (p : DieProfile) : Nat := max p.pRead (max p.pProg p.pErase) - p.pIdle

/-- The floor of R135, over the classes of the dies present. -/
def State.poolFloor (s : State) : Nat := s.standing + (s.attached.map profilePeak).foldl max 0

/-- Module budget of the pool: 0x2600.01, capped in PS1 and PS2 (R394). -/
def State.poolBudget (s : State) : Nat :=
  let b := s.cfg Obj.moduleBudget
  if s.power.current = 1 then min b (s.cfg Obj.ps1ModuleMw) else if s.power.current = 2 then min b (s.cfg Obj.ps2ModuleMw) else b

/-- 0x2200.10, the token pool: budget less the two reserves, scaled by the thermal factor, at its floor while a sensor is
critical (R135, R414, R415). -/
def State.tokenPool (s : State) : Nat :=
  let raw := s.poolBudget - s.controllerPower - s.cfg Obj.dramReserve
  if s.overheated then s.poolFloor else max s.poolFloor (raw * s.power.scaleNum / s.power.scaleDen)

/-- 0x2200.12: tokens held by operations; a read served in a suspension holds none. -/
def State.tokensHeld (s : State) : Nat :=
  (s.flash.luns.map fun e => match e.2.busy with
    | some b => b.op.tokens
    | none => 0).sum

/-- Tokens free for operations. -/
def State.tokensFree (s : State) : Nat := s.tokenPool - s.standing - s.tokensHeld

/-! ### Reads that find their die busy (R138 to R142, R230, R231) -/

def OpKind.isRead : OpKind → Bool
  | .read _ => true
  | .refill _ => true
  | .sample _ => true
  | .program _ => false
  | .progSys _ _ => false
  | .progSeg _ _ => false
  | .parity _ _ => false
  | .progMember _ _ => false
  | .erase _ => false

/-- Nominal time of an operation in ns. -/
def State.opTime (s : State) (lun : Nat) (o : LunOp) : Nat :=
  match s.profile lun with
  | none => 0
  | some p => match o.kind with
    | .read _ => p.tR
    | .refill _ => p.tR
    | .program _ => if o.slc then p.tSlc else p.tProg
    | .sample _ => p.tR
    | .progSys _ _ => p.tSlc
    | .progSeg _ _ => p.tSlc
    | .parity _ _ => if o.slc then p.tSlc else p.tProg
    | .progMember _ _ => p.tProg
    | .erase _ => p.tErase

/-- Order of the classes at a LUN (R134); journal and checkpoint programs go ahead of them all (R188). -/
def OpClass.rank : OpClass → Nat
  | .sys => 0
  | .contract => 1
  | .aged => 2
  | .other => 3
  | .program => 4
  | .erase => 5

/-- An operation goes before another at a LUN. -/
def LunOp.before (a b : LunOp) : Bool := a.cls.rank < b.cls.rank || (a.cls.rank = b.cls.rank && a.age < b.age)

/-- A read of a LUN may suspend the operation that runs there (R139, R221); one that has been asked for serves it too (R140). -/
def State.maySuspend (s : State) (lun : Nat) (contract : Bool) : Bool :=
  match (s.lun lun).busy, s.profile lun with
  | some b, some p =>
    p.suspend && !b.op.kind.isRead && !b.op.slc && b.op.cls ≠ .sys && !b.suspended
      && b.suspends < s.cfg Obj.suspendMax
      && (contract || b.suspends + s.cfg Obj.suspendReserve < s.cfg Obj.suspendMax)
      && s.cfg Obj.resumeMin * 1000 ≤ s.now - b.since
  | _, _ => false

/-- Nominal time left of what a LUN runs; during a suspension the reads that it serves come first. -/
def State.busyLeft (s : State) (lun : Nat) : Nat :=
  match (s.lun lun).busy with
  | none => 0
  | some b => if b.suspended then b.ends + ((b.serving.toList ++ b.toServe).map (s.opTime lun)).sum else b.ends - s.now

/-- Expected wait at a LUN of an operation of a class and age: what runs, and what is ahead in the queue (R141). -/
def State.expectedWait (s : State) (lun : Nat) (o : LunOp) : Nat :=
  s.busyLeft lun + (((s.lun lun).queue.filter fun q => q.before o).map (s.opTime lun)).sum

/-- MT/s of a rate code (R211). -/
def rateMts (code : Nat) : Nat := [0, 1600, 2400, 3200, 3600, 4800].getD code 0

/-- Transfer time of some bytes on a channel, in ns, rounded up. -/
def State.transferNs (s : State) (ch bytes : Nat) : Nat :=
  ceilDiv (bytes * 1000) (rateMts ((Tbl.find s.flash.channels ch).elim 0 (·.rate)))

/-- Bytes of one stored codeword (R239). -/
def codewordBytes : Nat := 4608

/-- Path of one member read (R230): its wait, or tSUSP where its LUN may suspend, then tR and the transfer. -/
def State.memberPath (s : State) (o : LunOp) (lun : Nat) : Nat :=
  match s.profile lun with
  | none => 0
  | some p =>
    (if s.maySuspend lun (o.cls = .contract) then p.tSusp else s.expectedWait lun o) + p.tR
      + s.transferNs (lun / 64) codewordBytes

/-- XOR and decode of a read-around, 2 µs (R230). -/
def aroundNs : Nat := 2000

/-- θ of the function that issued a read, in µs (R141). -/
def State.aroundThreshold (s : State) (r : MediaRead) : Nat :=
  match r.attached.head? with
  | some a => match a.hdr.fn with
    | .inst n => s.cfg Obj.raThreshold n.val
    | .pf0 => 200
    | .pf1 => 200
  | none => 200

/-- A read-around of a queued read is allowed and worth its cost (R141, R230). -/
def State.mayReadAround (s : State) (lun : Nat) (o : LunOp) (r : MediaRead) (t : Stripe) (m plane page : Nat) : Bool :=
  let wait := s.expectedWait lun o
  let others := t.others m plane page
  let codewords := (maskLbas r.mask).length
  t.closedAt.isSome && t.w ≤ s.cfg Obj.raMaxWidth && t.lost = [] && !r.aroundTried
    && 1000 * s.aroundThreshold r < wait
    && ((others.map fun e => s.opTokens e.1 (.read 0)).sum) ≤ s.tokensFree
    && others.length * codewords * 1024 ≤ s.sched.raLeft
    && ((others.map fun e => s.memberPath o e.1).foldl max 0) + aroundNs < wait

/-- A queued read asks its LUN to suspend what it runs, where it may (R138, R139); SUSPEND_REPORTED answers. -/
def State.askSuspend (s : State) (lun : Nat) (contract : Bool) : State :=
  if s.maySuspend lun contract then
    s.setLun lun { s.lun lun with busy := (s.lun lun).busy.map fun b => { b with asking := true } }
  else s

/-- READ_AROUND_START (R141, R142, R230): the member reads join their LUNs in the class of the original read, which stays
queued, and suspend or wait as R138 says; the budget of the frame pays, and 0x2200.26 counts. -/
def State.startAround (s : State) (rd : Nat) (r : MediaRead) (t : Stripe) (m plane page : Nat) : State :=
  let others := t.others m plane page
  let s1 := (s.setRead rd { r with around := some others.length, aroundTried := true })
  let s2 := { s1 with sched := { s1.sched with
    raLeft := s1.sched.raLeft - others.length * (maskLbas r.mask).length * 1024 } }
  others.foldl (fun a e =>
    (a.enterRead r.nsid r.unit e.2 r.mask r.cls (.member rd) [] .lost).2.askSuspend e.1 (r.cls = .contract)) (s2.bump Obj.raCount)

/-- What a host read does at a busy LUN (R138): suspend, else read around, else wait. The engine asks the die to
suspend; SUSPEND_REPORTED answers. -/
def State.busyPath (s : State) (rd : Nat) : State :=
  match Tbl.find s.store.reads rd with
  | none => s
  | some r =>
    let lun := r.entry.lun?.getD 0
    let x := s.lun lun
    match x.busy, x.queue.find? (fun o => o.kind = .read rd) with
    | some b, some o =>
      if b.op.kind.isRead then s
      else if s.maySuspend lun (r.cls = .contract) then s.askSuspend lun (r.cls = .contract)
      else
        match s.placeOf r.entry with
        | none => s
        | some (id, m, page) =>
          match s.stripe? id with
          | none => s
          | some t =>
            if s.mayReadAround lun o r t m r.entry.plane? page then s.startAround rd r t m r.entry.plane? page else s
    | _, _ => s

/-! ### Admission of a chunk (R131, R132) -/

/-- One LBA's worth of read credit (R131). -/
def oneCredit : Nat := 1024

/-- What a read chunk finds, apart from media: LBAs from a slot, zeros, or an error; the rest goes to media. -/
def State.readParts (s : State) (nsid u : Nat) (mask : BitVec 4) (fua : Bool) :
    BitVec 4 × (List LbaData × List HostMeta) × BitVec 4 × MapEntry :=
  match s.locate nsid u with
  | .unmapped => (mask, (List.replicate 4 0, []), 0, .unmapped)
  | .uncorrectable => (mask, (List.replicate 4 0, []), mask, .unmapped)
  | .buffer k =>
    match s.slot? k with
    | none => (mask, (List.replicate 4 0, []), 0, .unmapped)
    | some x =>
      let loc := match x.state with
        | .programmed l => some l
        | .filling => none
        | .fillRead => none
        | .programming _ => none
      match fua, loc with
      | true, some l => (0, ([], []), 0, l)
      | _, _ =>
        let zero := if x.prev.onFlash then 0 else mask &&& ~~~x.mask
        let marked := if x.prev = .uncorrectable then zero else 0
        ((mask &&& x.mask) ||| zero, (x.lbas, x.metas), (x.bad &&& x.mask) ||| marked, x.prev)
  | .flash slc ch ce lun plane block page => (0, ([], []), 0, .flash slc ch ce lun plane block page)

/-- Covered reads of an instance in a LUN's queue. -/
def State.coveredQueue (s : State) (lun : Nat) (f : Func) : Nat :=
  (s.lun lun).queue.countP fun o => match o.kind with
    | .read rd => (Tbl.find s.store.reads rd).elim false fun r => r.attached.any fun a => a.covered && a.hdr.fn = f
    | .program _ => false
    | .progSys _ _ => false
    | .progSeg _ _ => false
    | .parity _ _ => false
    | .progMember _ _ => false
    | .erase _ => false
    | .refill _ => false
    | .sample _ => false

/-- A covered read lies outside the conditions of R144 as it is admitted: beyond its bank, or behind more than Q covered reads of
its instance in its LUN's queue. -/
def State.startsExempt (s : State) (f : Func) (lun : Nat) (step3 : Bool) : Bool :=
  match f with
  | .inst n => step3 || decide (s.cfg Obj.contractQ n.val < s.coveredQueue lun f)
  | .pf0 => false
  | .pf1 => false

/-- A covered read is left out of its instance's window, and counted (R145). -/
def State.countExempt (s : State) (a : Attach) : State :=
  match a.hdr.fn with
  | .inst n => if a.covered then s.bump Obj.contractExempt 1 n.val else s
  | .pf0 => s
  | .pf1 => s

/-- A read chunk is admitted: from the write buffer or by attachment without credit, else against the charge (R131,
R163). None: it waits. -/
def State.admitRead (s : State) (c : Ctx) (k : Chunk) (step3 : Bool) : Option State :=
  let parts := s.readParts k.nsid k.unit k.mask c.fua
  let rest := k.mask &&& ~~~parts.1
  let low := (maskLbas k.mask).headD 0
  let firstOf := fun (m : BitVec 4) => k.first + ((maskLbas m).headD 0 - low)
  let near := fun (a : State) => if parts.1 = 0 then a else
    a.modCtx c.hdr fun x => x.receive parts.1 (firstOf parts.1) parts.2.1.1 parts.2.1.2 parts.2.2.1
  let inBuffer := match s.locate k.nsid k.unit with
    | .buffer _ => true
    | .unmapped => false
    | .uncorrectable => false
    | .flash _ _ _ _ _ _ _ => false
  if rest = 0 then
    if inBuffer then some (near s) else (s.pay c.hdr.fn .read k.charge step3).map near
  else
    let covered := c.short && s.covered c.hdr.fn k.nsid
    let out := covered && s.startsExempt c.hdr.fn (parts.2.2.2.lun?.getD 0) step3
    let a : Attach := { hdr := c.hdr, mask := rest, first := firstOf rest, covered := covered, exempt := out }
    match s.attachable k.nsid k.unit rest with
    | some (rd, r) => some (near (((if out then s.countExempt a else s).attach rd r a).modCtx c.hdr fun x => { x with open_ :=
      x.open_ + 1 }))
    | none =>
      (s.pay c.hdr.fn .read ((maskLbas rest).length * oneCredit) step3).map fun s1 =>
        let s2 := if out then s1.countExempt a else s1
        let got := s2.startRead k.nsid k.unit parts.2.2.2 rest (if covered then .contract else .other) .host [a]
        near ((got.2.busyPath got.1).modCtx c.hdr fun x => { x with open_ := x.open_ + 1 })

/-- A write chunk is admitted into its slot (R180, R184). A chunk held back by the dirty limit counts in 0x2400.04. -/
def State.admitWrite (s : State) (c : Ctx) (k : Chunk) (step3 : Bool) : Option State :=
  if s.writeOpen k.nsid k.unit then
    (s.pay c.hdr.fn .write k.charge step3).map fun s1 =>
      let n := (maskLbas k.mask).length
      (s1.writeUnit c.hdr.fn c.stamp k.nsid k.unit k.mask c.handle ((c.data.drop k.first).take n)
        ((c.metas.drop k.first).take n) (c.keyTag.bind (s.kpioKey k.nsid)) false).modCtx c.hdr fun x => { x with moved := true }
  else none

/-- One source piece of a Copy chunk starts: LBAs from the write buffer at once, the rest by a media read. -/
def State.startPiece (s : State) (c : Ctx) (nsid : Nat) (p : Nat × BitVec 4 × Nat) : State :=
  let parts := s.readParts nsid p.1 p.2.1 false
  let rest := p.2.1 &&& ~~~parts.1
  let low := (maskLbas p.2.1).headD 0
  let s1 := if parts.1 = 0 then s else
    s.modCtx c.hdr fun x => x.receive parts.1 (p.2.2 + ((maskLbas parts.1).headD 0 - low)) parts.2.1.1 parts.2.1.2 parts.2.2.1
  if rest = 0 then s1
  else
    let a : Attach :=
      { hdr := c.hdr, mask := rest, first := p.2.2 + ((maskLbas rest).headD 0 - low), covered := false, exempt := false }
    let got := s1.startRead nsid p.1 parts.2.2.2 rest .other .host [a]
    (got.2.busyPath got.1).modCtx c.hdr fun x => { x with open_ := x.open_ + 1 }

/-- A Copy chunk, one unit of the destination, is admitted for one copy credit, which covers its source reads (R131); it writes,
and waits as a write chunk does (R184). -/
def State.admitCopy (s : State) (c : Ctx) (k : Chunk) (step3 : Bool) : Option State :=
  if s.writeOpen k.nsid k.unit then
    (s.pay c.hdr.fn .copy k.charge step3).map fun s1 => k.pieces.foldl (fun a p => a.startPiece c k.nsid p) s1
  else none

/-- An instance leaves its share in this frame (R133). -/
def State.noteOutside (s : State) : Func → State
  | .inst n =>
    if s.sched.outside.contains n.val then s
    else { s with sched := { s.sched with outside := s.sched.outside ++ [n.val] } }
  | .pf0 => s
  | .pf1 => s

/-- A chunk that begins to wait for the dirty limit or the journal counts in 0x2400.04, once (R184, R190). -/
def State.noteHeld (s : State) (h : Hdr) : State :=
  match s.ctx? h with
  | none => s
  | some c =>
    match c.chunks, c.wait with
    | k :: _, .none =>
      if k.kind ≠ .read ∧ !c.held ∧ s.limitHolds k.nsid k.unit then
        (s.modCtx h fun x => { x with held := true }).bump Obj.writeWaits
      else s
    | _, _ => s

/-- Chunks of a namespace wait while its key slot is empty and will be reloaded, or while its key is replaced (R283,
R288). -/
def State.keyHeld (s : State) (nsid : Nat) : Bool :=
  s.cipher.works.any (fun w => w.slot = nsid - 1)
    || ((s.keySlot (nsid - 1)).kind = 0 && (Tbl.find s.cipher.blobs (nsid - 1)).isSome && !(s.cipher.lost.contains (nsid - 1)))

/-- The first waiting chunk of a command is admitted, if it can be. -/
def State.admitNext (s : State) (h : Hdr) (step3 : Bool) : Option State :=
  match s.ctx? h with
  | none => none
  | some c =>
    match c.chunks, c.wait with
    | k :: ks, .none =>
      let got := if s.keyHeld k.nsid then none else match k.kind with
        | .read => if s.zoneBusy k.nsid k.unit then none else s.admitRead c k step3
        | .write => s.admitWrite c k step3
        | .copy => s.admitCopy c k step3
      got.map fun s1 =>
        (if step3 ∧ k.kind = .read then s1.noteOutside h.fn else s1).modCtx h fun x =>
          { x with chunks := ks, admitted := true, held := false }
    | _, _ => none

/-- Chunks of a command are admitted in order until one waits (R132). -/
def State.admitMany (s : State) (h : Hdr) (step3 : Bool) : Nat → State
  | 0 => s
  | fuel + 1 =>
    match s.admitNext h step3 with
    | some s1 => s1.admitMany h step3 fuel
    | none => s

/-- Chunks that still wait of a command. -/
def State.waitingChunks (s : State) (h : Hdr) : Nat := (s.ctx? h).elim 0 (·.chunks.length)

/-- Some host write chunk waits. -/
def State.writeWaiting (s : State) : Bool :=
  s.host.ctxs.any fun c => c.done.isNone && c.chunks.any fun k => k.kind = .write

/-- A host write chunk that waits now has waited in the open frame (R193). -/
def State.noteWrites (s : State) : State :=
  if s.writeWaiting then { s with sched := { s.sched with writeQuiet := false } } else s

/-- A command's chunks reach the scheduler: those its bank covers are admitted now; a read that waits leaves the share
(R133); the command concludes if nothing is left. While HOLD-UP is set nothing is admitted (R122). -/
def State.admitFor (s : State) (h : Hdr) (step3 : Bool) : State :=
  if s.has Mode.holdUp then s
  else (((s.admitMany h step3 (s.waitingChunks h)).noteHeld h).noteWrites).settleCtx h

end Sys2Proof.Machine
end

