-- ==== Sys2Proof/Machine/ZoneOps.lean ====
section
/-! DEFINITION. Operations on zones that commands share: state changes, limits, positions of writes (R155 to R158). -/
namespace Sys2Proof.Machine

def ZState.isOpen (z : ZState) : Bool := z = .implicitOpen || z = .explicitOpen
def ZState.isActive (z : ZState) : Bool := z.isOpen || z = .closed

/-- Zones of a namespace. -/
def State.zoneCount (s : State) (x : Ns) : Nat := if s.zsze x.width = 0 then 0 else x.nsze / s.zsze x.width

/-- Open and active zones of a namespace (R158). -/
def Ns.openZones (x : Ns) : Nat := x.zones.countP fun e => e.2.state.isOpen
def Ns.activeZones (x : Ns) : Nat := x.zones.countP fun e => e.2.state.isActive

/-- MOR and MAR limits: the creation word's values, 1,024 where it gives none (R153). -/
def Ns.maxOpen (x : Ns) : Nat := if x.word.blockVer = 0 ∨ x.word.maxOpen = 0 then 1024 else x.word.maxOpen
def Ns.maxActive (x : Ns) : Nat := if x.word.blockVer = 0 ∨ x.word.maxActive = 0 then 1024 else x.word.maxActive

/-- A zone takes a state, which the journal records (R186). -/
def State.zoneTo (s : State) (nsid z : Nat) (g : Zone → Zone) : State :=
  match s.ns? nsid with
  | none => s
  | some n =>
    let y := g (n.zone z)
    (s.setNs nsid (n.setZone z y)).journal (.zone (nsid - 1) z y.state y.rows y.epoch)

/-- The digest of a zone becomes INVALID: record and count, once (R165); its generation rises (R296). -/
def State.spoilDigest (s : State) (nsid z cause : Nat) : State :=
  match s.ns? nsid with
  | none => s
  | some n =>
    let y := n.zone z
    if n.word.digest ∧ y.dstate ≠ .invalid then
      let zslba := z * s.zsze n.width
      let w := { y with dstate := .invalid, dctx := none, digest := 0, zgen := (y.zgen + 1) % 2 ^ 16 }
      ((s.setNs nsid (n.setZone z w)).bump Obj.digestInvalid).record 0x0502 [nsid, lowWord zslba, highWord zslba, cause]
    else s

/-- An implicitly opened zone is closed to make room for another open one; the lowest (log entry 9). -/
def State.makeRoom (s : State) (nsid : Nat) (n : Ns) : State :=
  match n.zones.find? (fun e => e.2.state = .implicitOpen) with
  | some e => s.zoneTo nsid e.1 fun y => { y with state := .closed }
  | none => s

/-- A zone may become open: the limits of R158, after room is made. -/
def State.openable (s : State) (nsid : Nat) (y : Zone) : Except Status State :=
  match s.ns? nsid with
  | none => .error .invalidNamespace
  | some n =>
    if !y.state.isActive && n.maxActive ≤ n.activeZones then .error .tooManyActive
    else if !y.state.isOpen && n.maxOpen ≤ n.openZones then
      if n.zones.any (fun e => e.2.state = .implicitOpen) then .ok (s.makeRoom nsid n) else .error .tooManyOpen
    else .ok s

/-- A zone without a stripe opens one at its first write, in the first group that can (R149, R229). -/
def State.zoneStripe (s : State) (nsid z : Nat) (n : Ns) : Except Status State :=
  match (n.zone z).stripe with
  | some _ => .ok s
  | none =>
    let got := (List.range s.groups.length).foldl (fun (m : Option (Nat × State)) g =>
      m.or (s.openStripe (.zone nsid z) g n.width n.word.qParity)) none
    match got with
    | none => .error .capacityExceeded
    | some (id, s1) =>
      .ok (s1.zoneTo nsid z fun y => { y with stripe := some id, opened := s1.now })

/-- A zone opens, implicitly or explicitly (R156, R158). -/
def State.openZone (s : State) (nsid z : Nat) (st : ZState) : Except Status State :=
  match s.ns? nsid with
  | none => .error .invalidNamespace
  | some n =>
    match s.openable nsid (n.zone z) with
    | .error e => .error e
    | .ok s1 => .ok (s1.zoneTo nsid z fun y => { y with state := if y.state = .explicitOpen then .explicitOpen else st })

/-- A zone refuses writes in some states (Zoned Namespace Command Set). -/
def Zone.writeRefusal (y : Zone) : Option Status :=
  match y.state with
  | .full => some .zoneFull
  | .readOnly => some .zoneReadOnly
  | .offline => some .zoneOffline
  | .empty => none
  | .implicitOpen => none
  | .explicitOpen => none
  | .closed => none

/-- A write of n LBAs is assigned its position in zone z: at the write pointer, within ZCAP; the pointer moves, the
zone opens or becomes Full, its digest runs (R111, R155, R158, R165). `at_` is the LBA in the zone a Write names. -/
def State.assignWrite (s : State) (nsid z n : Nat) (at_ : Option Nat) : Except Status (Nat × State) :=
  match s.ns? nsid with
  | none => .error .invalidNamespace
  | some x =>
    let y := x.zone z
    let cap := s.zcap x.width
    match y.writeRefusal with
    | some st => .error st
    | none =>
      if at_.elim false (· ≠ y.wp) then .error .zoneInvalidWrite
      else if cap < y.wp + n then .error .zoneBoundary
      else
        match (if y.state.isOpen then .ok s else s.openZone nsid z .implicitOpen) with
        | .error e => .error e
        | .ok s1 =>
          match s1.zoneStripe nsid z x with
          | .error e => .error e
          | .ok s2 =>
            let s3 := s2.zoneTo nsid z fun a =>
              { a with
                wp := a.wp + n
                state := if a.wp + n = cap then .full else a.state
                dstate := if x.word.digest ∧ a.dstate = .none then .running else a.dstate
                dctx := if x.word.digest ∧ a.dstate = .none then some DigestCtx.fresh else a.dctx }
            .ok (y.wp, s3)

end Sys2Proof.Machine
end

