-- ==== Sys2Proof/Machine/Io.lean ====
section
/-! DEFINITION. I/O commands: checks, order and entries, and what each command does (R101 to R117, R160, R163, R173,
R180, R181, R203). -/
namespace Sys2Proof.Machine

/-! ### Checks -/

/-- Status of the mode that forbids reads, highest bit first (R376, R377). -/
def State.readGate (s : State) : Option Status :=
  if s.has Mode.factory then some .nsNotReady
  else if s.has Mode.sanitize then some .sanitizeInProgress
  else none

/-- Status of the mode that forbids modifying commands (R376, R377). -/
def State.writeGate (s : State) : Option Status :=
  if s.has Mode.factory then some .nsNotReady
  else if s.has Mode.sanitize then some .sanitizeInProgress
  else if s.has Mode.readOnly then some .writeProtected
  else none

/-- A key's write counter is used up: it takes no further GCM write (R279). -/
def KeySlot.exhausted (q : KeySlot) : Bool := q.kind = 2 && counterEnd ≤ q.wctr

/-- Modifying commands of a namespace are barred: no group can open a stripe of its width (R229), its key is lost
(R283), or its write counter is used up (R279). -/
def State.widthLost (s : State) (x : Ns) : Bool :=
  (x.writeBlocked && x.kind ≠ .zoned) || s.cipher.lost.contains x.keySlot || (s.keySlot x.keySlot).exhausted

/-- A read of a namespace whose key is lost ends Unrecovered Read Error (R283); one that names an empty key tag ends
Invalid Field (R287). -/
def State.keyCheck (s : State) (x : Ns) (nsid : Nat) (tag : Option Nat) : Option Status :=
  if s.cipher.lost.contains x.keySlot then some .unrecovered
  else if tag.any (fun t => (s.kpioKey nsid t).isNone) then some .invalidField
  else none

/-- The namespace exists, is attached to the function, its map is loaded (R335, R376 L9), and no seal break bars it
(R467). -/
def State.nsCheck (s : State) (f : Func) (nsid : Nat) : Except Status Ns :=
  match s.ns? nsid with
  | none => .error .invalidNamespace
  | some x =>
    if !(x.attached.contains f.code) then .error .invalidNamespace
    else if !x.loaded ∨ s.security.barred.contains nsid then .error .nsNotReady
    else .ok x

/-- LBAs of a range and the LBA after it. -/
def Range_len (r : Range) : Nat := r.nlb + 1

/-- The range lies in the namespace (R101). -/
def rangeCheck (x : Ns) (r : Range) : Option Status := if x.nsze < r.slba + Range_len r then some .lbaRange else none

/-- Bytes of a transfer at MDTS 9 (R83, R101). -/
def mdtsBytes : Nat := 2 * 1048576

/-- Run of map units of LBAs. -/
def unitRun (nsid slba n : Nat) : Nat × Nat × Nat := (nsid, slba / 4, (slba + n - 1) / 4)

/-- A segment descriptor is well formed: nonzero, a multiple of 16; none follows a Last Segment (R113). -/
def segmentsOk : Bool → List SglDesc → Bool
  | _, [] => true
  | last, .segment n :: t => !last && n ≠ 0 && n % 16 = 0 && segmentsOk last t
  | last, .lastSegment n :: t => !last && n ≠ 0 && n % 16 = 0 && segmentsOk true t
  | last, .dataBlock _ _ :: t => segmentsOk last t
  | last, .bitBucket _ :: t => segmentsOk last t
  | last, .other _ :: t => segmentsOk last t
  | last, .unread _ :: t => segmentsOk last t

/-- A descriptor type a command may carry (R112, R113). -/
def sglTypeOk (isRead : Bool) : SglDesc → Bool
  | .other _ => false
  | .bitBucket _ => isRead
  | .dataBlock _ _ => true
  | .segment _ => true
  | .lastSegment _ => true
  | .unread _ => true

def sglBytes : SglDesc → Nat
  | .dataBlock _ n => n
  | .bitBucket n => n
  | .segment _ => 0
  | .lastSegment _ => 0
  | .other _ => 0
  | .unread _ => 0

def sglUnread : SglDesc → Bool
  | .unread _ => true
  | .dataBlock _ _ => false
  | .bitBucket _ => false
  | .segment _ => false
  | .lastSegment _ => false
  | .other _ => false

/-- The checks of R113 in order. -/
def sglCheck (isRead : Bool) (len metaLen : Nat) (data metas : List SglDesc) : Option Status :=
  if 1024 < data.length ∨ 1024 < metas.length then some .invalidSglCount
  else if !(segmentsOk false data) ∨ !(segmentsOk false metas) then some .invalidSglSegment
  else if (data ++ metas).any (fun d => !(sglTypeOk isRead d)) then some .sglType
  else if (data.map sglBytes).sum < len then some .dataSglLength
  else if (metas.map sglBytes).sum < metaLen then some .metaSglLength
  else if (data ++ metas).any sglUnread then some .dataTransferError
  else none

/-- The data pointer of a command that moves so many bytes of data, and of metadata apart from it (R112 to R114). -/
def dptrCheck (page : Nat) (isRead : Bool) (len metaLen : Nat) : DataPtr → Option Status
  | .prp p1 p2 l => prpCheck page len p1 p2 l
  | .sgl d m => sglCheck isRead len metaLen d m

/-- Metadata bytes of an LBA by format (R151). -/
def metaBytes (flbas : Nat) : Nat := match flbas % 16 with
  | 1 => 8
  | 2 => 16
  | _ => 0

/-- Type of a namespace's protection information, 0 none (R151). -/
def Ns.piType (x : Ns) : Nat := x.dps % 8

/-- Type of a namespace's protection information and the format that fixes its guard: 16b in format 1, 64b in format 2 (R151). -/
def Ns.piKind (x : Ns) : Nat := x.piType + 8 * (x.flbas % 16)

/-- The metadata of an LBA is transferred: there is some, and PRACT does not make or strip it, as it is all protection
information (R151). -/
def Ns.metaMoves (x : Ns) (p : PrInfo) : Bool := metaBytes x.flbas ≠ 0 && !(p.pract && x.piType ≠ 0)

/-- Bytes that n LBAs move: data, and metadata apart from it. FLBAS bit 4 joins the two into an extended LBA (R151). -/
def Ns.moved (x : Ns) (p : PrInfo) (n : Nat) : Nat × Nat :=
  let m := if x.metaMoves p then metaBytes x.flbas else 0
  if x.flbas / 16 % 2 = 1 then (n * (4096 + m), 0) else (n * 4096, n * m)

/-- The data pointer of a fetched command, for so many bytes of data, and of metadata apart from it (R112 to R114). -/
def State.pointerCheck (s : State) (h : Hdr) (isRead : Bool) (len metaLen : Nat) : Option Status :=
  (s.ctx? h).bind fun c => dptrCheck (s.fn h.fn).pageBytes isRead len metaLen c.dptr

/-- A transfer of LBAs: at most MDTS, data and what an extended LBA joins to it (R101, R151), and its data pointer. -/
def State.transferCheck (s : State) (h : Hdr) (isRead : Bool) (b : Nat × Nat) : Option Status :=
  if mdtsBytes < b.1 then some .invalidField else s.pointerCheck h isRead b.1 b.2

/-! ### Chunks (R131) -/

/-- Mask of the LBAs of unit u in slba .. slba + n − 1. -/
def unitMask (slba n u : Nat) : BitVec 4 :=
  (List.range 4).foldl (fun (m : BitVec 4) i => if slba ≤ 4 * u + i ∧ 4 * u + i < slba + n then m ||| (1#4 <<< i) else m) 0

/-- Units of a range. -/
def unitsOf (slba n : Nat) : List Nat := if n = 0 then [] else (List.range ((slba + n - 1) / 4 + 1 - slba / 4)).map (· + slba / 4)

/-- Chunks of a range, one a map unit, with the charge of each kind (R131). -/
def chunksOf (kind : CreditKind) (nsid slba n base : Nat) : List Chunk :=
  (unitsOf slba n).map fun u =>
    { kind := kind, nsid := nsid, unit := u, mask := unitMask slba n u, first := base + (4 * u - slba)
      charge := match kind with
        | .read => (maskLbas (unitMask slba n u)).length * oneCredit
        | .write => oneCredit
        | .copy => oneCredit
      pieces := [] }

/-! ### Order and entries (R107, R108) -/

/-- A command starts: it takes its entries in one step and follows earlier commands of its queue, or waits (R107,
R108). `go` is its effect. -/
def State.launch (s : State) (h : Hdr) (cmd : Instr) (mods looks : List (Nat × Nat × Nat)) (go : State → State) : State :=
  let s1 := s.modCtx h fun c => { c with mods := mods, looks := looks }
  if mods ≠ [] ∧ (s1.entryWaiter ∨ !(s1.entriesFit h.fn (entriesOf mods))) then
    let s2 := (s1.modCtx h fun c => { c with wait := .entries s.host.waits, cmd := some cmd }).countOverlapWait h.fn
    { s2 with host := { s2.host with waits := s2.host.waits + 1 } }
  else
    let s2 := s1.modCtx h fun c => { c with holds := mods ≠ [], cmd := none, wait := .none }
    if (s2.ctx? h).elim false s2.ordered then
      (s2.modCtx h fun c => { c with wait := .order, cmd := some cmd }).countOverlapWait h.fn
    else go s2

/-- A refusal under R113 to R115 is counted; other refusals are not. -/
def pointerStatus (st : Status) : Bool :=
  st ∈ [Status.invalidSglCount, .invalidSglSegment, .sglType, .dataSglLength, .metaSglLength, .prpOffset, .dataTransferError]

/-- An I/O command comes in an I/O queue (R101), and no gate closes it. -/
def State.ioEntry (s : State) (h : Hdr) : Option Status := if h.sqid = 0 then some .invalidOpcode else s.ioGate

/-- A command of an I/O queue begins and passes a check, or ends with the check's status; refusals of the data pointer are
counted (R113 to R115). -/
def State.ioRun (s : State) (h : Hdr) (check : State → Option Status) (go : State → State) : Answer :=
  match s.begin h with
  | none => .next s
  | some a =>
    match orElse (a.fusedGate h) (orElse (a.ioEntry h) (check a)) with
    | some st => .next ((if pointerStatus st then a.countPointer h.fn st else a).finish h (Cpl.of st))
    | none => .next (go a)

/-! ### Reads -/

/-- The chunks of a reading command reach the scheduler (R173). A FUA read first makes durable what the write buffer
holds of its range (R101). -/
def State.goRead (s : State) (h : Hdr) (a : ReadArgs) (purpose : Purpose) : State :=
  let r := a.range
  let n := Range_len r
  if (unitsOf r.slba n).any (s.zoneBusy r.nsid) then
    s.modCtx h fun c => { c with wait := .epoch }
  else
    let held := (unitsOf r.slba n).filter fun u => a.fua && !(s.unitDurable (r.nsid, u))
    let s1 := s.modCtx h fun c => { c with
      chunks := chunksOf .read r.nsid r.slba n 0
      lba := r.slba
      fua := a.fua
      keyTag := a.keyTag
      expect := a.expect
      expectMetas := a.expectMetas
      pi := (s.ns? r.nsid).bind fun x => if x.piType = 0 then Option.none else some (x.piKind, a.prinfo)
      withMeta := (s.ns? r.nsid).any fun x => x.metaMoves a.prinfo
      purpose := purpose
      short := decide (n ≤ 4)
      need := held.map fun u => (r.nsid, u)
      wait := if held = [] then .none else .durable }
    if held = [] then s1.admitFor h false
    else (s1.ctx? h).elim s1 fun c => s1.pushFor c

/-- Checks of Read and Compare: mode, namespace, key, range, MDTS, data pointer. A command that both runs past the namespace
and exceeds MDTS ends with LBA Out of Range; R101 gives the two no order (DESIGN CHOICE, log entry 122). -/
def State.readCheck (s : State) (h : Hdr) (isRead : Bool) (a : ReadArgs) : Option Status :=
  orElse s.readGate (match s.nsCheck h.fn a.range.nsid with
    | .error st => some st
    | .ok x =>
      orElse (orElse (s.keyCheck x a.range.nsid a.keyTag) (rangeCheck x a.range))
        (s.transferCheck h isRead (x.moved a.prinfo (Range_len a.range))))

/-- READ (R101, R173). -/
def execRead (h : Hdr) (a : ReadArgs) (s : State) : Answer :=
  s.ioRun h (fun x => x.readCheck h true a) fun x =>
    x.launch h (.read h a) [] [unitRun a.range.nsid a.range.slba (Range_len a.range)]
      fun y => (y.modCtx h fun c => { c with cmd := some (.read h a) }).goRead h a .toHost

/-- COMPARE (R101): the range is read and compared with the host's data. -/
def execCompare (h : Hdr) (a : ReadArgs) (s : State) : Answer :=
  s.ioRun h (fun x => x.readCheck h false a) fun x =>
    x.launch h (.compare h a) [] [unitRun a.range.nsid a.range.slba (Range_len a.range)]
      fun y => (y.modCtx h fun c => { c with cmd := some (.compare h a) }).goRead h a .compare

/-- What a Verify reads: no data moves. -/
def Range_verify (r : Range) (p : PrInfo) : ReadArgs :=
  { range := r, fua := false, keyTag := none, expect := [], expectMetas := [], prinfo := p }

/-- VERIFY (R101): up to 65,536 LBAs, no data moves. -/
def execVerify (h : Hdr) (r : Range) (p : PrInfo) (s : State) : Answer :=
  s.ioRun h (fun x => orElse x.readGate (match x.nsCheck h.fn r.nsid with
      | .error st => some st
      | .ok n => orElse (x.keyCheck n r.nsid none) (rangeCheck n r))) fun x =>
    x.launch h (.verify h r p) [] [unitRun r.nsid r.slba (Range_len r)]
      fun y => (y.modCtx h fun c => { c with cmd := some (.verify h r p) }).goRead h (Range_verify r p) .verify

/-! ### Writes -/

/-- Placement handle of a write: of DTYPE 2, else handle 0 in group 0; group × 1,024 + handle (R160). None where the
identifier is refused. -/
def State.placement (s : State) (x : Ns) (dtype dspec : Nat) : Option Nat :=
  if dtype = 2 then
    if x.kind = .flexible ∧ dspec / 1024 % 64 < s.groups.length ∧ dspec % 1024 < x.handles.length then
      some (dspec / 1024 % 64 * 1024 + x.handles.getD (dspec % 1024) 0)
    else none
  else some (x.handles.headD 0)

/-- What a write's protection information fails, from an LBA on; PRACT makes it instead (R151). -/
def Ns.piRefuses (x : Ns) (a : WriteArgs) : Option Status :=
  if x.piType = 0 ∨ a.prinfo.pract then none else piFails x.piKind a.prinfo a.range.slba a.data a.metas

/-- Metadata that a write stores: the host's, or what PRACT makes (R151). -/
def Ns.metasFor (x : Ns) (a : WriteArgs) (slba : Nat) : List HostMeta :=
  if x.piType ≠ 0 ∧ a.prinfo.pract then a.data.zipIdx.map fun e => Config.piMake x.piKind e.1 (slba + e.2) a.prinfo.tags
  else a.metas

/-- Checks of Write and Zone Append; the range goes before MDTS as in `readCheck` (log entry 122). -/
def State.writeCheck (s : State) (h : Hdr) (a : WriteArgs) (append : Bool) : Option Status :=
  orElse s.writeGate (match s.nsCheck h.fn a.range.nsid with
    | .error st => some st
    | .ok x =>
      if s.widthLost x then some .writeProtected
      else if append ∧ (x.kind ≠ .zoned ∨ a.range.slba % s.zsze x.width ≠ 0) then some .invalidField
      else if (s.placement x a.dtype a.dspec).isNone then some .invalidField
      else if a.keyTag.any (fun t => (s.kpioKey a.range.nsid t).isNone) then some .invalidField
      else orElse (rangeCheck x { a.range with nlb := if append then 0 else a.range.nlb })
        (orElse (s.transferCheck h false (x.moved a.prinfo (Range_len a.range))) (x.piRefuses a)))

/-- WCE of a function: 1 unless Set Features cleared it (R348). -/
def Fn.wce (x : Fn) : Bool := Tbl.get 1 x.feats 6 % 2 = 1

/-- The chunks of a write at an LBA reach the scheduler. -/
def State.goChunks (s : State) (h : Hdr) (a : WriteArgs) (slba dw0 dw1 : Nat) : State :=
  let n := Range_len a.range
  let fua := a.fua || !(s.fn h.fn).wce || s.dirtyLimit = 0
  let s1 := s.modCtx h fun c => { c with
    cmd := none
    chunks := chunksOf .write a.range.nsid slba n 0
    data := a.data
    metas := (s.ns? a.range.nsid).elim a.metas fun x => x.metasFor a slba
    lba := slba
    fua := fua
    keyTag := a.keyTag
    handle := ((s.ns? a.range.nsid).bind fun x => s.placement x a.dtype a.dspec).getD 0
    need := if fua then (unitsOf slba n).map fun u => (a.range.nsid, u) else []
    dw0 := dw0
    dw1 := dw1 }
  s1.admitFor h false

/-- A Write's effect: on a zoned namespace its position is assigned first (R158). -/
def State.goWrite (s : State) (h : Hdr) (a : WriteArgs) : State :=
  match s.ns? a.range.nsid with
  | none => s.finish h (Cpl.of .invalidNamespace)
  | some x =>
    if x.kind = .zoned then
      let z := a.range.slba / s.zsze x.width
      match s.assignWrite a.range.nsid z (Range_len a.range) (some (a.range.slba % s.zsze x.width)) with
      | .error st => s.finish h (Cpl.of st)
      | .ok (_, s1) => s1.goChunks h a a.range.slba 0 0
    else s.goChunks h a a.range.slba 0 0

/-- WRITE (R180). -/
def execWrite (h : Hdr) (a : WriteArgs) (s : State) : Answer :=
  s.ioRun h (fun x => x.writeCheck h a false) fun x =>
    x.launch h (.write h a) [unitRun a.range.nsid a.range.slba (Range_len a.range)] [] fun y => y.goWrite h a

/-- The LBA at which a zone's next append begins, from its write pointer. -/
def State.appendLba (s : State) (a : WriteArgs) : Nat :=
  a.range.slba + (s.ns? a.range.nsid).elim 0 fun x => (x.zone (a.range.slba / s.zsze x.width)).wp

/-- The units that an append touches as the zone stands. -/
def State.appendRun (s : State) (a : WriteArgs) : Nat × Nat × Nat := unitRun a.range.nsid (s.appendLba a) (Range_len a.range)

/-- A Zone Append's position is assigned, and its LBA is returned (R111). -/
def State.assignAppend (s : State) (h : Hdr) (a : WriteArgs) : State :=
  match s.ns? a.range.nsid with
  | none => s.finish h (Cpl.of .invalidNamespace)
  | some x =>
    match s.assignWrite a.range.nsid (a.range.slba / s.zsze x.width) (Range_len a.range) none with
    | .error st => s.finish h (Cpl.of st)
    | .ok (wp, s1) => s1.goChunks h a (a.range.slba + wp) (lowWord (a.range.slba + wp)) (highWord (a.range.slba + wp))

/-- A Zone Append's effect. Where the write pointer has moved on while it waited, it gives its entries back and takes those of
the units that it touches now, in one step, or waits (R108). -/
def State.goAppend (s : State) (h : Hdr) (a : WriteArgs) : State :=
  let run := s.appendRun a
  if (s.ctx? h).any fun c => c.mods = [run] && c.holds then s.assignAppend h a
  else
    let s1 := s.modCtx h fun c => { c with mods := [run], holds := false }
    if s1.entriesFit h.fn (entriesOf [run]) then (s1.modCtx h fun c => { c with holds := true }).assignAppend h a
    else
      let s2 := (s1.modCtx h fun c => { c with wait := .entries s.host.waits, cmd := some (.zoneAppend h a) }).countOverlapWait h.fn
      { s2 with host := { s2.host with waits := s2.host.waits + 1 } }

/-- ZONE_APPEND (R111, R156). -/
def execZoneAppend (h : Hdr) (a : WriteArgs) (s : State) : Answer :=
  s.ioRun h (fun x => x.writeCheck h a true) fun x =>
    x.launch h (.zoneAppend h a) [x.appendRun a] [] fun y => y.goAppend h a

/-! ### Commands that change units without data (R181) -/

/-- Checks of a modifying command without a data pointer. -/
def State.mapCheck (s : State) (h : Hdr) (r : Range) (most : Nat) : Option Status :=
  orElse s.writeGate (match s.nsCheck h.fn r.nsid with
    | .error st => some st
    | .ok x =>
      if s.widthLost x then some .writeProtected
      else orElse (rangeCheck x r) (if most < Range_len r then some .invalidField else none))

/-- A whole unit takes an entry without data, and its slot is released (R181). -/
def State.clearUnit (s : State) (nsid u : Nat) (e : MapEntry) : State :=
  match s.slotOf nsid u with
  | some k => s.freeSlot k e
  | none => s.setUnit nsid u e

/-- Write Zeroes, or Write Uncorrectable, over LBAs of a page-mapped namespace: whole units through the map, the rest
merged into slots (R181). -/
def State.blankUnits (s : State) (f : Func) (stamp nsid slba n : Nat) (uncorr : Bool) : State :=
  let whole := (unitsOf slba n).filter fun u => unitMask slba n u = 15#4
  let part := (unitsOf slba n).filter fun u => unitMask slba n u ≠ 15#4
  let s1 := whole.foldl (fun a u => a.clearUnit nsid u (if uncorr then .uncorrectable else .unmapped)) s
  let s2 := match whole with
    | [] => s1
    | u :: _ => s1.journal (if uncorr then .uncorr (nsid - 1) u whole.length else .unmap (nsid - 1) u whole.length)
  part.foldl (fun a u => a.writeUnit f stamp nsid u (unitMask slba n u) ((a.ns? nsid).elim 0 (·.handles.headD 0))
    (List.replicate 4 0) [] none uncorr) s2

/-- The same over a zone: the LBAs are assigned as a write's, and slots take zeros or marks (R165, R181). -/
def State.blankZone (s : State) (h : Hdr) (nsid slba n : Nat) (uncorr : Bool) (x : Ns) : State :=
  let z := slba / s.zsze x.width
  match s.assignWrite nsid z n (some (slba % s.zsze x.width)) with
  | .error st => s.finish h (Cpl.of st)
  | .ok (_, s1) =>
    let s2 := if uncorr then s1.spoilDigest nsid z 1 else s1
    let stamp := (s2.ctx? h).elim 0 (·.stamp)
    ((unitsOf slba n).foldl (fun a u =>
      a.writeUnit h.fn stamp nsid u (unitMask slba n u) 0 (List.replicate 4 0) [] none uncorr) s2).finish h Cpl.ok

/-- Effect of Write Zeroes and Write Uncorrectable. -/
def State.goBlank (s : State) (h : Hdr) (r : Range) (uncorr : Bool) : State :=
  match s.ns? r.nsid with
  | none => s.finish h (Cpl.of .invalidNamespace)
  | some x =>
    let stamp := (s.ctx? h).elim 0 (·.stamp)
    if x.kind = .zoned then s.blankZone h r.nsid r.slba (Range_len r) uncorr x
    else (s.blankUnits h.fn stamp r.nsid r.slba (Range_len r) uncorr).finish h Cpl.ok

/-- LBAs of a Write Zeroes, Write Uncorrectable or Verify (R101). -/
def longLbas : Nat := 65536

/-- WRITE_ZEROES (R181): DEAC does not change the effect. -/
def execWriteZeroes (h : Hdr) (r : Range) (deac : Bool) (s : State) : Answer :=
  s.ioRun h (fun x => x.mapCheck h r longLbas) fun x =>
    x.launch h (.writeZeroes h r deac) [unitRun r.nsid r.slba (Range_len r)] [] fun y => y.goBlank h r false

/-- WRITE_UNCORRECTABLE (R181). -/
def execWriteUncorrectable (h : Hdr) (r : Range) (s : State) : Answer :=
  s.ioRun h (fun x => x.mapCheck h r longLbas) fun x =>
    x.launch h (.writeUncorrectable h r) [unitRun r.nsid r.slba (Range_len r)] [] fun y => y.goBlank h r true

/-- Whole units of a range are unmapped, the rest keep their data (R181). A zoned namespace has no map to change. -/
def State.deallocate (s : State) (nsid slba n : Nat) : State :=
  match s.ns? nsid with
  | none => s
  | some x =>
    if x.kind = .zoned then s
    else
      let whole := (unitsOf slba n).filter fun u => unitMask slba n u = 15#4
      let s1 := whole.foldl (fun a u => a.clearUnit nsid u .unmapped) s
      match whole with
      | [] => s1
      | u :: _ => s1.journal (.unmap (nsid - 1) u whole.length)

def State.goDsm (s : State) (h : Hdr) (nsid : Nat) (dealloc : Bool) (ranges : List Range) : State :=
  (if dealloc then ranges.foldl (fun a r => a.deallocate nsid r.slba (Range_len r)) s else s).finish h Cpl.ok

/-- Checks of Dataset Management: up to 256 ranges, each in the namespace (R101), and the data pointer of its range list, 16
bytes a range (NVM Express; log entry 6). Without Deallocate it modifies nothing. -/
def State.dsmCheck (s : State) (h : Hdr) (nsid : Nat) (dealloc : Bool) (ranges : List Range) : Option Status :=
  orElse (if dealloc then s.writeGate else s.readGate) (match s.nsCheck h.fn nsid with
    | .error st => some st
    | .ok x =>
      if dealloc ∧ s.widthLost x then some .writeProtected
      else if 256 < ranges.length then some .invalidField
      else orElse (ranges.findSome? (rangeCheck x)) (s.pointerCheck h false (16 * ranges.length) 0))

/-- DATASET_MANAGEMENT (R101, R181): integral attributes are hints only. -/
def execDatasetManagement (h : Hdr) (nsid : Nat) (dealloc : Bool) (ranges : List Range) (s : State) : Answer :=
  s.ioRun h (fun x => x.dsmCheck h nsid dealloc ranges) fun x =>
    x.launch h (.datasetManagement h nsid dealloc ranges)
      (if dealloc then ranges.map fun r => unitRun nsid r.slba (Range_len r) else []) []
      fun y => y.goDsm h nsid dealloc ranges

/-! ### Copy (R101) -/

/-- LBAs of the source ranges. -/
def copyLen (rs : List CopyRange) : Nat := (rs.map fun r => r.nlb + 1).sum

/-- LBAs of the source ranges, in command order. -/
def copySources (rs : List CopyRange) : List Nat := rs.flatMap fun r => (List.range (r.nlb + 1)).map (· + r.slba)

/-- Source reads of some command indices, each with its LBA: runs of LBAs within one unit. -/
def piecesOf : List (Nat × Nat) → List (Nat × BitVec 4 × Nat)
  | [] => []
  | (i, a) :: t =>
    match piecesOf t with
    | (u, m, f) :: ps =>
      if u = a / 4 ∧ f = i + 1 ∧ (maskLbas m).headD 0 = a % 4 + 1 then (u, m ||| (1#4 <<< (a % 4)), i) :: ps
      else (a / 4, 1#4 <<< (a % 4), i) :: (u, m, f) :: ps
    | [] => [(a / 4, 1#4 <<< (a % 4), i)]

/-- Chunks of a Copy: a unit of the destination each, for one copy credit (R131). -/
def copyChunks (nsid sdlba : Nat) (rs : List CopyRange) : List Chunk :=
  let src := copySources rs
  (unitsOf sdlba src.length).map fun u =>
    let first := 4 * u - sdlba
    { kind := .copy, nsid := nsid, unit := u, mask := unitMask sdlba src.length u, first := first, charge := oneCredit
      pieces := piecesOf ((List.range (maskLbas (unitMask sdlba src.length u)).length).map fun i =>
        (first + i, src.getD (first + i) 0)) }

def State.goCopy (s : State) (h : Hdr) (a : CopyArgs) : State :=
  match s.ns? a.nsid with
  | none => s.finish h (Cpl.of .invalidNamespace)
  | some x =>
    let start : Except Status State :=
      if x.kind = .zoned then
        (s.assignWrite a.nsid (a.sdlba / s.zsze x.width) (copyLen a.ranges) (some (a.sdlba % s.zsze x.width))).map (·.2)
      else .ok s
    match start with
    | .error st => s.finish h (Cpl.of st)
    | .ok s1 =>
      (s1.modCtx h fun c => { c with
        cmd := none
        chunks := copyChunks a.nsid a.sdlba a.ranges
        dst := some (a.nsid, a.sdlba)
        purpose := .copy }).admitFor h false

/-- Checks of Copy: format 0, at most 128 ranges of 65,536 LBAs, 262,144 in all, in one namespace (R101, R104), and the data
pointer of its range list, 32 bytes a range (NVM Express; log entry 6). -/
def State.copyCheck (s : State) (h : Hdr) (a : CopyArgs) : Option Status :=
  if a.format ≠ 0 then some .invalidOpcode
  else orElse s.writeGate (match s.nsCheck h.fn a.nsid with
    | .error st => some st
    | .ok x =>
      if s.widthLost x then some .writeProtected
      else if 128 < a.ranges.length ∨ a.ranges.any (fun r => 65536 < r.nlb + 1) ∨ 262144 < copyLen a.ranges then
        some .invalidField
      else orElse (a.ranges.findSome? fun r => rangeCheck x ⟨a.nsid, r.slba, r.nlb⟩)
        (if x.nsze < a.sdlba + copyLen a.ranges then some .lbaRange else s.pointerCheck h false (32 * a.ranges.length) 0))

/-- COPY (R101). -/
def execCopy (h : Hdr) (a : CopyArgs) (s : State) : Answer :=
  s.ioRun h (fun x => x.copyCheck h a) fun x =>
    x.launch h (.copy h a) [unitRun a.nsid a.sdlba (copyLen a.ranges)]
      (a.ranges.map fun r => unitRun a.nsid r.slba (r.nlb + 1)) fun y => y.goCopy h a

/-! ### Flush (R116, R117) -/

/-- FLUSH: its scope is its namespace, or every attached one; it completes when what it covers is durable. -/
def execFlush (h : Hdr) (nsid : Nat) (s : State) : Answer :=
  s.ioRun h (fun x => orElse x.readGate (if nsid = 0xFFFFFFFF then none else match x.nsCheck h.fn nsid with
      | .error st => some st
      | .ok _ => none)) fun x =>
    (x.modCtx h fun c => { c with flushOf := some nsid, wait := .durable }).settleWait h

/-! ### Commands that waited (R107, R108) -/

/-- The effect of a command that waited in its context. -/
def State.resume (s : State) (h : Hdr) : Instr → State
  | .read _ a => s.goRead h a .toHost
  | .compare _ a => s.goRead h a .compare
  | .verify _ r p => s.goRead h (Range_verify r p) .verify
  | .write _ a => s.goWrite h a
  | .zoneAppend _ a => s.goAppend h a
  | .writeZeroes _ r _ => s.goBlank h r false
  | .writeUncorrectable _ r => s.goBlank h r true
  | .datasetManagement _ n d rs => s.goDsm h n d rs
  | .copy _ a => s.goCopy h a
  | _ => s

/-- A command that waited in order goes on once nothing earlier meets it. -/
def State.wakeOrdered (s : State) (c : Ctx) : State :=
  match s.ctx? c.hdr with
  | some k =>
    if k.wait = .order ∧ !(s.ordered k) then
      match k.cmd with
      | some i => (s.modCtx c.hdr fun x => { x with wait := .none }).resume c.hdr i
      | none => s
    else s
  | none => s

/-- Every command that waits in order, in fetch order. -/
def State.wakeAll (s : State) : State := (s.host.ctxs.filter fun c => c.wait = .order).foldl State.wakeOrdered s

/-- The command that has waited longest for entries (R108). -/
def State.firstWaiter (s : State) : Option Ctx :=
  (s.host.ctxs.filterMap fun c => match c.wait with
    | .entries n => some (n, c)
    | _ => none).foldl (fun (m : Option (Nat × Ctx)) e => match m with
      | none => some e
      | some f => if e.1 < f.1 then some e else some f) none |>.map (·.2)

/-- OVERLAP_ENTRY_GRANT (R108): the longest waiter takes all it needs if it can. -/
def execOverlapEntryGrant (s : State) : Answer :=
  match s.firstWaiter with
  | none => .next s
  | some c =>
    if s.entriesFit c.hdr.fn (entriesOf c.mods) then
      let s1 := s.modCtx c.hdr fun x => { x with holds := true, wait := .order }
      .next (s1.wakeOrdered c)
    else .next s

/-- COMPLETION_POST (R51, R90, R96): the entry is posted or waits; its posting lets ordered commands go on. -/
def execCompletionPost (h : Hdr) (s : State) : Answer := .next ((s.postCmd h).wakeAll.settleDurable)

/-- WAITING_ENTRY_POST (R91). -/
def execWaitingEntryPost (f : Func) (cqid : Nat) (s : State) : Answer :=
  .next ((s.postWaiting f cqid).wakeAll.settleDurable)

/-! ### Host memory reads (R115) -/

/-- A command whose host memory read fails ends with Data Transfer Error; what it has admitted stays (R115). -/
def State.hostReadFails (s : State) (h : Hdr) : State :=
  match s.ctx? h with
  | some c => if c.done.isNone then (s.countPointer h.fn .dataTransferError).finish h (Cpl.of .dataTransferError) else s
  | none => s

/-- HOST_MEMORY_READ_COMPLETION (R115). -/
def execHostMemoryReadCompletion (h : Hdr) (e : ReadEnd) (s : State) : Answer :=
  match e with
  | .ok => .next s
  | .unsupportedRequest => .next (s.hostReadFails h)
  | .completerAbort => .next (s.hostReadFails h)
  | .poisoned => .next (s.hostReadFails h)

/-- COMPLETION_TIMEOUT (R115): not repeated (R52). -/
def execCompletionTimeout (h : Hdr) (s : State) : Answer := .next (s.hostReadFails h)

/-- Actions that R156 does not support: Set Zone Descriptor Extension, and Extended Report Zones. -/
def unsupportedAction (sqid opcode action : Nat) : Bool :=
  sqid ≠ 0 && ((opcode = 0x79 && action = 0x10) || (opcode = 0x7A && action = 0x01))

/-- INVALID_COMMAND_OPCODE (R101, R104), on either kind of queue; an action of zone management that is not supported ends with
Invalid Field (R156). -/
def execInvalidCommandOpcode (h : Hdr) (opcode action : Nat) (s : State) : Answer :=
  .next (s.startWith h (fun a => if h.sqid = 0 then a.adminGate else a.ioGate) fun a =>
    a.finish h (Cpl.of (if unsupportedAction h.sqid opcode action then .invalidField else .invalidOpcode)))

end Sys2Proof.Machine
end

