-- ==== Sys2Proof/Machine/Zones.lean ====
section
/-! DEFINITION. Zone management, Secure Reset, reclaim unit handles (R156 to R161, R165 to R171). -/
namespace Sys2Proof.Machine

/-! ### Zones leave their stripes (R170) -/

/-- A stripe is given up: its blocks are queued for erase, and a Secure Reset's are counted (R170). -/
def State.giveUpStripe (s : State) (id : Nat) (secure : Bool) : State :=
  match s.stripe? id with
  | none => s
  | some t =>
    let s1 := { s with store := { s.store with stripes := Tbl.del s.store.stripes id } }
    t.members.foldl (fun a m =>
      let b := a.queueErase m.1 m.2
      if secure then
        ({ b with store := { b.store with
          secureQueue := b.store.secureQueue ++ [m]
          secureDue := b.store.secureDue ++ [(m.1, m.2, b.store.eraseClock)] } }).bump Obj.secureErasePending
      else b) s1

/-- A zone loses its data: slots and stripe go, and the zone takes a state with write pointer 0; `y` says what it keeps of its
digest (R165, R170). -/
def State.clearZone (s : State) (nsid z : Nat) (secure : Bool) (y : Zone → Zone) : State :=
  match s.ns? nsid with
  | none => s
  | some n =>
    let x := n.zone z
    let s1 := x.slots.foldl (fun a e => a.looseSlot e.2) s
    let s2 := match x.stripe with
      | some id => s1.giveUpStripe id secure
      | none => s1
    let s3 := s2.zoneTo nsid z y
    let u := s.zoneUnits n
    s3.markDirty nsid (z * u) (z * u + u - 1)

/-- A zone is emptied, its digest NONE (R165, R169 to R171). -/
def State.emptyZone (s : State) (nsid z : Nat) (st : ZState) (epoch : Nat) (secure : Bool) : State :=
  s.clearZone nsid z secure fun a => { Zone.initial with state := st, epoch := epoch, zgen := (a.zgen + 1) % 2 ^ 16 }

/-! ### Zone Management Send (R156) -/

/-- Close (Zoned Namespace Command Set). -/
def State.closeZone (s : State) (nsid z : Nat) (y : Zone) : Except Status State :=
  match y.state with
  | .implicitOpen => .ok (s.zoneTo nsid z fun a => { a with state := .closed })
  | .explicitOpen => .ok (s.zoneTo nsid z fun a => { a with state := .closed })
  | .closed => .ok s
  | .empty => .error .zoneTransition
  | .full => .error .zoneTransition
  | .readOnly => .error .zoneTransition
  | .offline => .error .zoneTransition

/-- Slots of a finished zone are padded with zeros and programmed to their places (R298). -/
def State.padSlots (s : State) (nsid z : Nat) : State :=
  match s.ns? nsid with
  | none => s
  | some n =>
    let y := n.zone z
    match y.stripe.bind fun id => (s.stripe? id).map fun t => (id, t) with
    | none => s
    | some (id, t) =>
      let s1 := y.slots.foldl (fun a e => match a.slot? e.2 with
        | some x =>
          if x.state = .filling then
            a.issueProgram e.2 { x with mask := 15#4 } (t.entryOf false e.1) false
          else a
        | none => a) s
      s1.setStripe id { t with ended := true }

/-- Finish (R165, R298): the zone is Full, its digest takes in the rest and is finished, its stripe is padded. -/
def State.finishZone (s : State) (nsid z : Nat) (y : Zone) : Except Status State :=
  let go : State :=
    let s1 := s.zoneTo nsid z fun a =>
      { a with
        state := .full
        finishRec := false
        dstate := if a.dstate = .none ∧ ((s.ns? nsid).elim false (·.word.digest)) then .running else a.dstate
        dctx := if a.dstate = .none ∧ ((s.ns? nsid).elim false (·.word.digest)) then some DigestCtx.fresh else a.dctx }
    ((s1.digestZone nsid z (4 * y.slots.length)).digestDone nsid z).padSlots nsid z
  match y.state with
  | .empty => .ok go
  | .implicitOpen => .ok go
  | .explicitOpen => .ok go
  | .closed => .ok go
  | .full => .ok s
  | .readOnly => .error .zoneTransition
  | .offline => .error .zoneTransition

/-- Open (R158). -/
def State.explicitOpen (s : State) (nsid z : Nat) (y : Zone) : Except Status State :=
  match y.state with
  | .empty => s.openZone nsid z .explicitOpen
  | .implicitOpen => .ok (s.zoneTo nsid z fun a => { a with state := .explicitOpen })
  | .closed => s.openZone nsid z .explicitOpen
  | .explicitOpen => .ok s
  | .full => .error .zoneTransition
  | .readOnly => .error .zoneTransition
  | .offline => .error .zoneTransition

/-- Reset (R170). -/
def State.resetZone (s : State) (nsid z : Nat) (y : Zone) : Except Status State :=
  match y.state with
  | .empty => .ok s
  | .implicitOpen => .ok (s.emptyZone nsid z .empty y.epoch false)
  | .explicitOpen => .ok (s.emptyZone nsid z .empty y.epoch false)
  | .closed => .ok (s.emptyZone nsid z .empty y.epoch false)
  | .full => .ok (s.emptyZone nsid z .empty y.epoch false)
  | .readOnly => .error .zoneTransition
  | .offline => .error .zoneTransition

/-- Offline, from Read Only: the digest of a zone that was never Full is INVALID since it left its open state, and a FINAL one
stays (R165). -/
def State.offlineZone (s : State) (nsid z : Nat) (y : Zone) : Except Status State :=
  match y.state with
  | .readOnly =>
    .ok (s.clearZone nsid z false fun a =>
      { Zone.initial with state := .offline, epoch := a.epoch, zgen := a.zgen, dstate := a.dstate, digest := a.digest })
  | .offline => .ok s
  | .empty => .error .zoneTransition
  | .implicitOpen => .error .zoneTransition
  | .explicitOpen => .error .zoneTransition
  | .closed => .error .zoneTransition
  | .full => .error .zoneTransition

/-- Zones a Select All acts on, by action: those in the states the command set names (R156, R169). -/
def selected (states : List ZState) (x : Ns) : List Nat := (x.zones.filter fun e => states.contains e.2.state).map (·.1)

/-- Checks of Zone Management Send: mode, a zoned namespace, and the start of a zone in it (R156, R203). -/
def State.sendCheck (s : State) (h : Hdr) (nsid slba : Nat) (all : Bool) : Option Status :=
  orElse s.writeGate (match s.nsCheck h.fn nsid with
    | .error st => some st
    | .ok x =>
      if x.kind ≠ .zoned then some .invalidField
      else if all then none
      else if x.nsze ≤ slba then some .lbaRange
      else if slba % s.zsze x.width ≠ 0 then some .invalidField
      else none)

/-- An action on zones one after the other; the first that fails ends it (Zoned Namespace Command Set). -/
def State.actOn (nsid : Nat) (act : State → Nat → Nat → Zone → Except Status State) : List Nat → State → Except Status State
  | [], s => .ok s
  | z :: zs, s => match s.ns? nsid with
    | none => .error .invalidNamespace
    | some m => match act s nsid z (m.zone z) with
      | .ok b => State.actOn nsid act zs b
      | .error st => .error st

/-- A zone action acts on one zone, or on all it selects; a zone that it may not act on ends it, and nothing has changed. -/
def State.zoneAction (s : State) (h : Hdr) (nsid slba : Nat) (all : Bool) (states : List ZState)
    (act : State → Nat → Nat → Zone → Except Status State) : Answer :=
  s.ioRun h (fun x => x.sendCheck h nsid slba all) fun a =>
    match a.ns? nsid with
    | none => a.finish h (Cpl.of .invalidNamespace)
    | some n =>
      match State.actOn nsid act (if all then selected states n else [slba / a.zsze n.width]) a with
      | .error st => a.finish h (Cpl.of st)
      | .ok b => b.finish h Cpl.ok

/-- ZONE_CLOSE (R156). -/
def execZoneClose (h : Hdr) (nsid slba : Nat) (all : Bool) (s : State) : Answer :=
  s.zoneAction h nsid slba all [.implicitOpen, .explicitOpen] State.closeZone

/-- ZONE_FINISH (R165, R298). -/
def execZoneFinish (h : Hdr) (nsid slba : Nat) (all : Bool) (s : State) : Answer :=
  s.zoneAction h nsid slba all [.implicitOpen, .explicitOpen, .closed] State.finishZone

/-- ZONE_OPEN (R156, R158). -/
def execZoneOpen (h : Hdr) (nsid slba : Nat) (all : Bool) (s : State) : Answer :=
  s.zoneAction h nsid slba all [.closed] State.explicitOpen

/-- ZONE_RESET (R170). -/
def execZoneReset (h : Hdr) (nsid slba : Nat) (all : Bool) (s : State) : Answer :=
  s.zoneAction h nsid slba all [.implicitOpen, .explicitOpen, .closed, .full] State.resetZone

/-- ZONE_OFFLINE (R156). -/
def execZoneOffline (h : Hdr) (nsid slba : Nat) (all : Bool) (s : State) : Answer :=
  s.zoneAction h nsid slba all [.readOnly] State.offlineZone

/-! ### Secure Reset (R169 to R171) -/

/-- Zones of a namespace under Secure Reset by a command. -/
def Ns.resettingBy (x : Ns) (h : Hdr) : List (Nat × Zone) := x.zones.filter fun e => e.2.resetting = some h

/-- A read of a zone under its old epoch is in flight (step 2 of R169). -/
def State.zoneReading (s : State) (nsid z : Nat) (n : Ns) : Bool :=
  s.store.reads.any fun e => e.2.nsid = nsid && e.2.unit / s.zoneUnits n = z

/-- A purged zone key leaves the key cache of every cell (step 4 of R169). -/
def purgeZoneKey (slot zslba epoch : Nat) (k : KeyRef) : Bool :=
  match k with
  | .zoneKey sl _ zs e => !(sl = slot && zs = zslba && e = epoch)
  | .nsKey _ _ => true
  | .kpio _ _ => true

/-- Cells whose key caches hold keys keep those that a test keeps. -/
def State.purgeKeys (s : State) (keep : KeyRef → Bool) : State :=
  { s with cells := { s.cells with cells := s.cells.cells.map fun e => (e.1, { e.2 with keys := e.2.keys.filter keep }) } }

/-- Steps 4 and 5 of R169 on one zone; at the last epoch the zone goes Offline (R171). -/
def State.secureZone (s : State) (nsid z : Nat) (n : Ns) (y : Zone) : State :=
  let zslba := z * s.zsze n.width
  let s1 := s.purgeKeys (purgeZoneKey n.keySlot zslba y.epoch)
  if y.epoch = 0xFFFFFFFF then
    ((s1.emptyZone nsid z .offline y.epoch true).bump Obj.epochExhausted).record 0x0503 [nsid, lowWord zslba, highWord zslba]
  else s1.emptyZone nsid z .empty (y.epoch + 1) true

/-- Chunks of every command that still wait are tried again. -/
def State.readmit (s : State) : State :=
  (s.host.ctxs.filter fun c => c.chunks ≠ [] && c.wait = .none && c.done.isNone).foldl (fun a c => a.admitFor c.hdr false) s

/-- Steps 2 and 3 of R169: once no old read of its zones is in flight, a Secure Reset's journal records are written. -/
def State.writeEpochs (s : State) (h : Hdr) (nsid : Nat) : State :=
  match s.ns? nsid with
  | none => s
  | some n =>
    let zs := n.resettingBy h
    if zs = [] ∨ zs.any (fun e => e.2.resetPage ≠ 0 || s.zoneReading nsid e.1 n) then s
    else
      let s1 := zs.foldl (fun a e =>
        a.journal (.zone (nsid - 1) e.1 .empty 0 (min 0xFFFFFFFF (e.2.epoch + 1)))) s
      let s2 := zs.foldl (fun a e => match a.ns? nsid with
        | some m => a.setNs nsid (m.setZone e.1 { m.zone e.1 with resetPage := s1.lastPage })
        | none => a) s1
      s2.closePage

/-- The five states in which a Secure Reset takes a zone (R169). -/
def resettable (y : Zone) : Bool := [ZState.empty, .implicitOpen, .explicitOpen, .closed, .full].contains y.state

/-- Zones that a Secure Reset names: one, or with Select All every one in the five states. -/
def State.resetTargets (s : State) (n : Ns) (slba : Nat) (all : Bool) : List Nat :=
  if all then (List.range (s.zoneCount n)).filter fun z => resettable (n.zone z) else [slba / s.zsze n.width]

/-- A Secure Reset starts (step 1 of R169); one that names a zone whose Secure Reset is in progress waits for its end. -/
def State.goReset (s : State) (h : Hdr) (nsid slba : Nat) (all : Bool) : State :=
  match s.ns? nsid with
  | none => s.finish h (Cpl.of .invalidNamespace)
  | some n =>
    let zs := s.resetTargets n slba all
    if zs.any (fun z => (n.zone z).resetting.isSome) then
      s.modCtx h fun c => { c with wait := .epoch, cmd := some (.secureReset h nsid slba all) }
    else if zs.any (fun z => !(resettable (n.zone z))) then s.finish h (Cpl.of .zoneTransition)
    else if zs = [] then s.finish h Cpl.ok
    else
      let m := zs.foldl (fun x z => x.setZone z { x.zone z with resetting := some h, resetPage := 0 }) n
      ((s.setNs nsid m).modCtx h fun c => { c with wait := .epoch, cmd := none }).writeEpochs h nsid

/-- Reads that a Secure Reset held, and Secure Resets that waited for it, go on (step 6 of R169). -/
def State.releaseHeld (s : State) : State :=
  (s.host.ctxs.filter fun c => c.wait = .epoch && c.cmd.isSome && c.done.isNone).foldl (fun a c => match c.cmd with
    | some (.secureReset _ nsid slba all) => a.goReset c.hdr nsid slba all
    | some i => (a.modCtx c.hdr fun k => { k with wait := .none }).resume c.hdr i
    | none => a) s

/-- A Secure Reset goes on as far as it can (R169): once no old read is in flight its journal records are written; once
they are durable its zones are emptied, held reads are released and it completes. -/
def State.settleReset (s : State) (h : Hdr) (nsid : Nat) : State :=
  match s.ns? nsid with
  | none => s
  | some n =>
    let zs := n.resettingBy h
    if zs = [] then s
    else if zs.any (fun e => e.2.resetPage = 0) then s.writeEpochs h nsid
    else if zs.all (fun e => s.pageDurable e.2.resetPage) then
      let s1 := zs.foldl (fun a e => match a.ns? nsid with
        | some m => a.secureZone nsid e.1 m e.2
        | none => a) s
      s1.releaseHeld.readmit.finish h Cpl.ok
    else s

/-- Every Secure Reset in progress goes on as far as it can. -/
def State.settleResets (s : State) : State :=
  s.store.ns.foldl (fun a e => ((e.2.zones.filterMap (·.2.resetting)).eraseDups).foldl (fun b h => b.settleReset h e.1) a) s

/-- SECURE_RESET (R169): 84h of Zone Management Send. -/
def execSecureReset (h : Hdr) (nsid slba : Nat) (all : Bool) (s : State) : Answer :=
  s.ioRun h (fun x => orElse (x.sendCheck h nsid slba all) (match x.ns? nsid with
      | some n => if n.word.keyMode then none else some .invalidField
      | none => none)) fun a => a.goReset h nsid slba all

/-! ### Zone Management Receive (R156, R167) -/

/-- A zone state that a Report Zones filter lists. -/
def reportFilter (f : Nat) (z : ZState) : Bool :=
  match f with
  | 0 => true
  | 1 => z = .empty
  | 2 => z = .implicitOpen
  | 3 => z = .explicitOpen
  | 4 => z = .closed
  | 5 => z = .full
  | 6 => z = .readOnly
  | 7 => z = .offline
  | _ => false

/-- Bytes of a transfer of NUMD, 0-based, in dwords. -/
def numdBytes (numd : Nat) : Nat := 4 * (numd + 1)

/-- 64-byte descriptors that fit behind the 64-byte header of a report (R167). -/
def reportRoom (numd : Nat) : Nat := (numdBytes numd - 64) / 64

/-- Checks of Zone Management Receive: mode, namespace, range, MDTS and the data pointer (R101, R112 to R114). -/
def State.receiveCheck (s : State) (h : Hdr) (nsid slba numd : Nat) : Option Status :=
  orElse s.readGate (match s.nsCheck h.fn nsid with
    | .error st => some st
    | .ok x =>
      if x.kind ≠ .zoned then some .invalidField
      else if x.nsze ≤ slba then some .lbaRange
      else s.transferCheck h true (numdBytes numd, 0))

/-- Zones from the one that holds slba on. -/
def State.zonesFrom (s : State) (x : Ns) (slba : Nat) : List Nat :=
  (List.range (s.zoneCount x)).drop (slba / s.zsze x.width)

/-- REPORT_ZONES (R156): ZRA 00h. -/
def execReportZones (h : Hdr) (nsid slba filter : Nat) (part : Bool) (numd : Nat) (s : State) : Answer :=
  s.ioRun h (fun x => orElse (x.receiveCheck h nsid slba numd) (if 7 < filter then some .invalidField else none)) fun a =>
    match a.ns? nsid with
    | none => a.finish h (Cpl.of .invalidNamespace)
    | some n =>
      let zs := (a.zonesFrom n slba).filter fun z => reportFilter filter (n.zone z).state
      let ds := (zs.take (reportRoom numd)).map fun z =>
        let y := n.zone z
        ({ state := y.state.code, attrs := if y.finishRec then 2 else 0, zcap := a.zcap n.width, zslba := z * a.zsze n.width
           wp := z * a.zsze n.width + y.wp } : ZoneDesc)
      (a.emit (.reply h (.zones (if part then ds.length else zs.length) ds))).finish h Cpl.ok

/-- DSTATE codes of R165. -/
def DState.code : DState → Nat
  | .none => 0
  | .running => 1
  | .final => 2
  | .invalid => 3

/-- Plaintext bytes digested of a zone (R167); 0 where the digest is INVALID, of which R167 says nothing more (DESIGN CHOICE, log
entry 123). -/
def Zone.digestBytes (y : Zone) : Nat :=
  match y.dstate with
  | .none => 0
  | .running => y.dctx.elim 0 (·.count)
  | .final => 4096 * y.wp
  | .invalid => 0

/-- The 512 bits of a descriptor of R167; `digest` has the first byte of the SHA-256 output lowest. -/
def DigestDesc.bits (d : DigestDesc) : BitVec 512 :=
  BitVec.ofNat 512 (d.dstate % 16 + d.zs % 16 * 2 ^ 4 + d.epoch % 2 ^ 32 * 2 ^ 32 + d.zslba % 2 ^ 64 * 2 ^ 64
    + d.bytes % 2 ^ 64 * 2 ^ 128 + d.digest % 2 ^ 256 * 2 ^ 256)

/-- The descriptor of a zone (R167). -/
def State.digestDesc (s : State) (n : Ns) (z : Nat) : DigestDesc :=
  let y := n.zone z
  { digest := if y.dstate = .final then y.digest else 0, bytes := y.digestBytes, zslba := z * s.zsze n.width
    epoch := if n.word.keyMode then y.epoch else 0, zs := y.state.code, dstate := y.dstate.code }

/-- ZONE_DIGEST_REPORT (R167): ZRA 80h. Filters 02h to FFh name nothing and end with Invalid Field (DESIGN CHOICE, log
entry 123). -/
def execZoneDigestReport (h : Hdr) (nsid slba filter : Nat) (part : Bool) (numd : Nat) (s : State) : Answer :=
  s.ioRun h (fun x => orElse (x.receiveCheck h nsid slba numd) (match x.ns? nsid with
      | some n => if n.word.digest ∧ filter ≤ 1 then none else some .invalidField
      | none => none)) fun a =>
    match a.ns? nsid with
    | none => a.finish h (Cpl.of .invalidNamespace)
    | some n =>
      let zs := (a.zonesFrom n slba).filter fun z => filter = 0 || (n.zone z).dstate = .final
      let ds := (zs.take (reportRoom numd)).map fun z => (a.digestDesc n z).bits
      (a.emit (.reply h (.digests (if part then ds.length else zs.length) ds))).finish h Cpl.ok

/-- So many hours have passed since a moment in ns. -/
def State.hoursSince (s : State) (since hours : Nat) : Bool := since + 3600000000000 * hours ≤ s.now

/-- ZONE_AGE_EXPIRY (R157): an active zone gains Finish Zone Recommended, once, 0x2480.06 hours after its first write. -/
def execZoneAgeExpiry (nsid zone t : Nat) (s0 : State) : Answer :=
  let s := s0.tick t
  match s.ns? nsid with
  | none => .next s
  | some n =>
    let y := n.zone zone
    if n.kind = .zoned ∧ y.state.isActive ∧ y.stripe.isSome ∧ !y.finishRec ∧ s.hoursSince y.opened (s.cfg Obj.zoneAgeH) then
      let s1 := s.setNs nsid (n.setZone zone { y with finishRec := true })
      .next ((n.attached.foldl (fun (a : State) f =>
        { a with admin := { a.admin with
          changedZones := Tbl.put a.admin.changedZones f (Tbl.get [] a.admin.changedZones f ++ [(nsid, zone * s.zsze n.width)]) } })
        s1).raiseAll n.attached .zoneDescriptorChanged)
    else .next s

/-! ### Reclaim unit handles (R159 to R161) -/

/-- An FDP event of an enabled type enters its log, and the managers hear of it (R161, R348). -/
def State.fdpEvent (s : State) (type ru : Nat) : State :=
  if s.store.fdpTypes.contains type then
    ({ s with store := { s.store with fdpEvents := s.store.fdpEvents ++ [(type, ru)] } }).raise .pf0 .fdpEvent
  else s

/-- The open reclaim unit of a handle in a group is closed: STRIPE_CLOSE pads it and programs its parity. -/
def State.closeUnit (s : State) (ruh group : Nat) : State :=
  match s.openOf (.ns 0 (group * 1024 + ruh)) group with
  | some id => (s.stripe? id).elim s fun t => s.setStripe id { t with ended := true }
  | none => s

/-- Handle and group that a placement identifier of a namespace names (R160). -/
def State.handleOf (s : State) (x : Ns) (pid : Nat) : Option (Nat × Nat) :=
  if pid / 1024 % 64 < s.groups.length ∧ pid % 1024 < x.handles.length then
    some (x.handles.getD (pid % 1024) 0, pid / 1024 % 64)
  else none

/-- FDP Disabled of NVM Express Base 2.1. -/
def Status.fdpDisabled : Status := ⟨0, 0x29⟩

/-- A flexible-placement namespace: FDP is enabled, and the namespace is of that kind (R101, R160). -/
def State.fdpCheck (s : State) (h : Hdr) (nsid : Nat) : Option Status :=
  match s.nsCheck h.fn nsid with
  | .error st => some st
  | .ok x =>
    if s.store.fdp.isNone then some Status.fdpDisabled else if x.kind ≠ .flexible then some .invalidField else none

/-- A handle moves to a new unit at once, where the group has the blocks for one (R161). -/
def State.nextUnit (s : State) (x : Ns) (ruh group : Nat) : State :=
  let s1 := s.closeUnit ruh group
  ((s1.openStripe (.ns 0 (group * 1024 + ruh)) group x.width x.word.qParity).map (·.2)).getD s1

/-- RECLAIM_UNIT_HANDLE_UPDATE (R161): the named handles leave their units, which close, for new ones. -/
def execReclaimUnitHandleUpdate (h : Hdr) (nsid : Nat) (pids : List Nat) (s : State) : Answer :=
  s.ioRun h (fun x => orElse x.writeGate (orElse (x.fdpCheck h nsid) (match x.ns? nsid with
      | some n =>
        if pids.all (fun p => (x.handleOf n p).isSome) then x.pointerCheck h false (2 * pids.length) 0
        else some .invalidField
      | none => none))) fun a =>
    match a.ns? nsid with
    | none => a.finish h (Cpl.of .invalidNamespace)
    | some n => (pids.foldl (fun b p => match b.handleOf n p with
        | some (r, g) => b.nextUnit n r g
        | none => b) a).finish h Cpl.ok

/-- Writes left in the unit of a handle, in LBAs, and the seconds left of its time limit; a unit without a write yet is whole
(R161). -/
def State.unitLeft (s : State) (x : Ns) (ruh group : Nat) : Nat × Nat :=
  let limit := 3600 * s.cfg Obj.ruTimeLimitH
  match (s.openOf (.ns 0 (group * 1024 + ruh)) group).bind s.stripe? with
  | some t => (4 * (s.stripeUnits t - t.next), limit - (s.now - t.openedAt) / 1000000000)
  | none => (s.zcap x.width, limit)

/-- RECLAIM_UNIT_HANDLE_STATUS (R161): for each placement identifier, handle, seconds and writes left; 32 bytes each behind a
header of 16 (NVM Express; log entry 6), as far as NUMD reaches. -/
def execReclaimUnitHandleStatus (h : Hdr) (nsid numd : Nat) (s : State) : Answer :=
  s.ioRun h (fun x => orElse x.readGate (orElse (x.fdpCheck h nsid) (x.transferCheck h true (numdBytes numd, 0)))) fun a =>
    match a.ns? nsid with
    | none => a.finish h (Cpl.of .invalidNamespace)
    | some n =>
      let ids := (List.range a.groups.length).flatMap fun g => (n.handles.zipIdx).map fun e => (g, e.2, e.1)
      let ds := (ids.take ((numdBytes numd - 16) / 32)).flatMap fun e =>
        [e.1 * 1024 + e.2.1, e.2.2, (a.unitLeft n e.2.2 e.1).2, (a.unitLeft n e.2.2 e.1).1]
      (a.emit (.reply h (.list (ids.length :: ds)))).finish h Cpl.ok

/-- RECLAIM_UNIT_TIME_LIMIT (R161): a unit held for 0x2480.07 hours is closed, and FDP event 01h is logged. -/
def execReclaimUnitTimeLimit (ruh group t : Nat) (s0 : State) : Answer :=
  let s := s0.tick t
  match (s.openOf (.ns 0 (group * 1024 + ruh)) group).bind s.stripe? with
  | some t =>
    if s.hoursSince t.openedAt (s.cfg Obj.ruTimeLimitH) then
      .next ((s.closeUnit ruh group).fdpEvent 1 (group * 1024 + ruh))
    else .next s
  | none => .next s

end Sys2Proof.Machine
end

