-- ==== Sys2Proof/Machine/Losses.lean ====
section
/-! DEFINITION. Retirement, spares, READ-ONLY, losses of dies, failed programs and erases, parity of rows and release of
slots (R185, R198 to R204, R227, R228, R232 to R236, R385). -/
namespace Sys2Proof.Machine

/-! ### Commands at a mode change (R385) -/

/-- READ-ONLY: a modifying command with nothing admitted ends at once; one with admitted chunks drops the rest and ends
as soon as they have finished. -/
def State.sweepReadOnly (s : State) : State :=
  (s.host.ctxs.filter fun c => c.mods ≠ [] && c.done.isNone && (c.chunks ≠ [] || !c.admitted)).foldl (fun a c =>
    if c.admitted then
      (a.modCtx c.hdr fun k => { k with chunks := [], err := k.err.or (some .writeProtected) }).settleCtx c.hdr
    else a.finish c.hdr (Cpl.of .writeProtected)) s

/-- READ-ONLY becomes set. -/
def State.enterReadOnly (s : State) (cause : Nat) : State := (s.setMode Mode.readOnly cause).sweepReadOnly

/-- READ-ONLY ends when RO_CAUSE is 0 and WRITE_PROTECT is FALSE (R370, R372). -/
def State.leaveReadOnly (s : State) (cause : Nat) : State :=
  if s.cfg Obj.roCause = 0 ∧ !(s.flag Obj.writeProtect) then s.clearMode Mode.readOnly cause else s

/-- SANITIZE or FACTORY: fetched I/O commands with nothing admitted end with the mode's status. -/
def State.sweepIo (s : State) (st : Status) : State :=
  (s.host.ctxs.filter fun c => c.hdr.sqid ≠ 0 && c.done.isNone && !c.admitted).foldl (fun a c => a.finish c.hdr (Cpl.of st)) s

/-! ### Spares and retirement (R201, R202) -/

/-- RO_CAUSE takes a cause and READ-ONLY follows (R202). A cause that comes while another is in force leaves 0x2440.07 as it is
(DESIGN CHOICE, log entry 124). -/
def State.setRoCause (s : State) (c : Nat) : State :=
  if s.cfg Obj.roCause = 0 then (s.save Obj.roCause c).enterReadOnly 6 else s

/-- A mark of R202 is passed on the way from a to b spares of n. -/
def passes (n pct a b : Nat) : Bool := n * pct < 100 * a && 100 * b ≤ n * pct

/-- n blocks leave the spare pool, with the signs of R202. -/
def State.takeSpares (s : State) (n : Nat) : State :=
  let a := s.cfg Obj.spareRemaining
  let b := a - n
  let all := s.cfg Obj.spareInitial
  let s1 := s.keep Obj.spareRemaining b
  let s2 := if passes all 10 a b then (s1.record 0x0602 [b]).raiseAll (s1.host.fns.map (·.1)) .spareBelowThreshold else s1
  let s3 := if passes all 5 a b then s2.record 0x0603 [b] else s2
  if b = 0 then s3.setRoCause 1 else s3

/-- Blocks retired of a LUN; all of a lost one (R232). -/
def State.retiredOf (s : State) (lun : Nat) : Nat :=
  if (s.lun lun).state = .lost then s.lunBlocks lun - (s.lun lun).factoryBad.length
  else s.store.blocks.countP fun e => e.1 / 4096 = lun && e.2.retired

/-! ### Stripes that lose a member (R232 to R236) -/

/-- Units whose entries name places in a stripe: NSID, unit, entry. -/
def State.unitsIn (s : State) (id : Nat) : List (Nat × Nat × MapEntry) :=
  s.store.ns.flatMap fun e => (e.2.map.filter fun m => (s.placeOf m.2).elim false (·.1 = id)).map fun m => (e.1, m.1, m.2)

/-- A stripe holds data: it serves a zone, or some entry names it. -/
def State.stripeUsed (s : State) (id : Nat) (t : Stripe) : Bool :=
  match t.use with
  | .zone _ _ => true
  | .ns _ _ => s.unitsIn id ≠ []
  | .mangle => s.unitsIn id ≠ []
  | .fold _ => s.unitsIn id ≠ []
  | .staging => s.unitsIn id ≠ []
  | .dump => s.unitsIn id ≠ []
  | .worn => s.unitsIn id ≠ []

/-- Losses a row survives. -/
def Stripe.redundancy (t : Stripe) : Nat := 1 + t.q.toNat

/-- Units of some namespaces lost, one record each (R235). -/
def State.recordLost (s : State) (nsid n : Nat) : State :=
  if n = 0 then s
  else (s.bump Obj.unitsLost n).record 0x0802 [nsid, 0xFFFFFFFF, 0xFFFFFFFF, 0xFFFFFFFF, n]

/-- Lost units of a page-mapped stripe: their entries, UNCORR records, one Sampler record a namespace. -/
def State.loseMapped (s : State) (id : Nat) (t : Stripe) : State :=
  let gone := (s.unitsIn id).filter fun e => (s.placeOf e.2.2).elim false fun p => t.lost.contains p.2.1
  let s1 := gone.foldl (fun a e => (a.setUnit e.1 e.2.1 .uncorrectable).journal (.uncorr (e.1 - 1) e.2.1 1)) s
  ((gone.map (·.1)).eraseDups).foldl (fun a n => a.recordLost n (gone.countP (·.1 = n))) s1

/-- DATA_LOST (R235): the units of a page-mapped stripe on its lost members become UNCORRECTABLE; of a zoned stripe the
written rows are marked lost. -/
def State.loseData (s : State) (id : Nat) (t : Stripe) : State :=
  match t.use with
  | .zone nsid z =>
    match s.ns? nsid with
    | none => s
    | some n =>
      let y := n.zone z
      let rows := ceilDiv (ceilDiv y.wp 4) t.rowUnits
      let lostUnits := (List.range (ceilDiv y.wp 4)).countP fun v => t.lost.contains (unitMember t.w v) && (y.slot v).isNone
      (s.setNs nsid (n.setZone z { y with lostRows := List.range rows })).recordLost nsid lostUnits
  | .ns _ _ => s.loseMapped id t
  | .mangle => s.loseMapped id t
  | .fold _ => s.loseMapped id t
  | .staging => s.loseMapped id t
  | .dump => s.loseMapped id t
  | .worn => s.loseMapped id t

/-- Channels of a group that hold no member of a stripe have a block for a replacement (R234). -/
def State.replaceable (s : State) (t : Stripe) : Bool :=
  (s.groupLuns t.group).any fun l => !(t.members.any fun m => m.1 / 64 = l / 64) && s.freeBlocks l ≠ []

/-- A stripe whose member failed takes no more units; a zone keeps its stripe. -/
def Stripe.stopped (t : Stripe) : Stripe :=
  match t.use with
  | .zone _ _ => t
  | .ns _ _ => { t with ended := true }
  | .mangle => { t with ended := true }
  | .fold _ => { t with ended := true }
  | .staging => { t with ended := true }
  | .dump => { t with ended := true }
  | .worn => { t with ended := true }

/-- A replacement of member m of a stripe is pending, or there is none to be had (R234, R235). -/
def State.planReplacement (s : State) (id m : Nat) (t : Stripe) : State :=
  if s.replaceable t then
    let s1 := s.bump Obj.darnPending
    { s1 with store := { s1.store with darning := s1.store.darning ++ [(id, m)] } }
  else
    let s1 := s.bump Obj.stripesUnreplaceable
    { s1 with store := { s1.store with noReplace := s1.store.noReplace ++ [id] } }

/-- A stripe loses member m: one replacement is pending, or the stripe stays degraded; a loss past what its rows
survive loses data (R234 to R236). -/
def State.loseMember (s : State) (id m : Nat) : State :=
  match s.stripe? id with
  | none => s
  | some t =>
    if t.lost.contains m then s
    else
      let t1 := { t.stopped with lost := t.lost ++ [m] }
      let s1 := s.setStripe id t1
      if !(s1.stripeUsed id t1) then s1
      else if t.redundancy < t1.lost.length then s1.loseData id t1
      else s1.planReplacement id m t1

/-- DEGRADED ends when no replacement is pending, with its record (R236). -/
def State.settleDegraded (s : State) : State :=
  if s.has Mode.degraded ∧ s.cfg Obj.darnPending = 0 then
    (s.record 0x0706 [lowWord (s.cfg Obj.darnReplaced), highWord (s.cfg Obj.darnReplaced)]).clearMode Mode.degraded 5
  else s

/-- A member read of a rebuild or read-around. -/
def ReadFor.isMember : ReadFor → Bool
  | .member _ => true
  | .host => false
  | .slotFill _ => false
  | .copyUnit _ => false
  | .background => false

/-- A media read of a lost LUN goes to Darning; a member read ends with nothing (R233). -/
def MediaRead.toDarning (r : MediaRead) : MediaRead :=
  { r with
    source := 3
    steps := r.steps.map fun e => if e = .decoded then .decoded else if r.serves.isMember then .lost else .darning }

/-- A unit of a zone is lost for good: it reads as UNCORRECTABLE (R185). -/
def State.loseUnit (s : State) (nsid u : Nat) : State :=
  match s.ns? nsid with
  | some n =>
    if n.kind = .zoned then s.zoneTo nsid (u / s.zoneUnits n) fun y => { y with gone := y.gone ++ [u % s.zoneUnits n] } else s
  | none => s

/-- A slot whose program fails or whose LUN is lost is to be placed again; one that has had four placements is given up
(R185): the entry, or the unit of its zone, becomes UNCORRECTABLE, open Writes and covering Flushes end with Write Fault. -/
def State.giveUpSlot (s : State) (k : Nat) (x : Slot) : State :=
  let touches := fun (c : Ctx) => c.done.isNone && c.mods.any fun r => runsMeet r (x.nsid, x.unit, x.unit)
  let writes := (s.host.ctxs.filter touches).map (·.hdr)
  let flushes := (s.host.ctxs.filter fun c => c.done.isNone && c.coversSlot x).map (·.hdr)
  let s0 := s.dropSlot k .uncorrectable
  let s1 := (s0.loseUnit x.nsid x.unit).journal (.uncorr (x.nsid - 1) x.unit 1)
  let s2 := (s1.bump Obj.writesLost).record 0x0601 [x.nsid, lowWord x.unit, highWord x.unit]
  let s3 := writes.foldl (fun a h => a.finish h (Cpl.of .writeFault)) s2
  flushes.foldl (fun a h =>
    (a.record 0x0301 [x.nsid, lowWord x.unit, highWord x.unit]).finish h (Cpl.of .writeFault)) s3

/-- A WSEQ no longer waits for its program. -/
def State.doneSeq (s : State) (w : Nat) : State :=
  let j := s.store.journal
  s.setJournal { j with pendingSeqs := j.pendingSeqs.filter (· ≠ w) }

/-- A slot whose program has failed is placed again, up to four placements (R185). A zoned slot whose place lies on a
lost member waits for the replacement. -/
def State.placeAgain (s : State) (k : Nat) : State :=
  match s.slot? k with
  | none => s
  | some x =>
    match x.state with
    | .programming _ =>
      let s1 := s.doneSeq x.wseq
      if x.dead then { s1 with store := { s1.store with slots := Tbl.del s1.store.slots k } }
      else if 4 ≤ x.tries then s1.giveUpSlot k x
      else (s1.setSlot k { x with state := .filling, flight := none, again := false }).programSlot k
    | .filling => s
    | .fillRead => s
    | .programmed _ => s

/-- A read's data waits in its die for the channel. -/
def State.waitsTransfer (s : State) (lun rd : Nat) : Bool :=
  (Tbl.find s.flash.channels (lun / 64)).elim false fun c => c.transfers.any fun e => e.2.kind = .read rd

/-- Transfers of a LUN's reads are gone. -/
def State.dropTransfers (s : State) (lun : Nat) : State :=
  match Tbl.find s.flash.channels (lun / 64) with
  | some c => { s with flash := { s.flash with
      channels := Tbl.put s.flash.channels (lun / 64) { c with transfers := c.transfers.filter (·.1 ≠ lun) } } }
  | none => s

/-- Reads of a LUN whose data has not come over the channel go to Darning (R233). -/
def State.readsToDarning (s0 : State) (lun : Nat) : State :=
  let missing := fun (e : Nat × MediaRead) => e.2.entry.lun? = some lun && (!e.2.arrived || s0.waitsTransfer lun e.1)
  let s := s0.dropTransfers lun
  let hit := s.store.reads.filter missing
  let s1 := { s with store := { s.store with
      reads := s.store.reads.map fun e => if missing e then (e.1, { e.2.toDarning with arrived := false }) else e } }
  (hit.filter fun e => !e.2.serves.isMember).foldl (fun a e => a.darnUnit e.1 true) s1

/-- Blocks for which a test holds wait for no erase any more; those of a Secure Reset leave the count of R170. -/
def State.dropErases (s : State) (gone : Nat × Nat → Bool) : State :=
  { s with store := { s.store with
      erases := s.store.erases.filter fun e => !(gone e)
      secureQueue := s.store.secureQueue.filter fun e => !(gone e)
      secureDue := s.store.secureDue.filter fun e => !(gone (e.1, e.2.1)) } }.keep Obj.secureErasePending
    (s.cfg Obj.secureErasePending - s.store.secureQueue.countP gone)

/-- Every stripe loses its members on a LUN. -/
def State.loseMembers (s : State) (lun : Nat) : State :=
  s.store.stripes.foldl (fun a e =>
    (e.2.members.zipIdx.filter fun m => m.1.1 = lun).foldl (fun b m => b.loseMember e.1 m.2) a) s

/-- Operations queued at a LUN, running on it, or to be served in a suspension. -/
def Lun.ops (x : Lun) : List LunOp :=
  x.queue ++ (match x.busy with
    | some b => b.op :: (b.toServe ++ b.serving.toList)
    | .none => [])

/-! ### Parity of rows (R226, R227) -/

/-- Every place of a stripe's row on a member that is not lost holds a unit of this stripe. -/
def State.rowFull (s : State) (t : Stripe) (row : Nat) : Bool :=
  (List.range t.rowUnits).all fun i =>
    let u := row * t.rowUnits + i
    (Tbl.find s.store.media (t.entryOf t.slc u).key).isSome || t.lost.contains (unitMember t.w u)

/-- Slots of the units of a zone's row take the page that their ZONE record entered. -/
def State.stampRow (s : State) (nsid z row : Nat) (t : Stripe) : State :=
  match s.ns? nsid with
  | none => s
  | some n =>
    (List.range t.rowUnits).foldl (fun a i =>
      match ((n.zone z).slot (row * t.rowUnits + i)).bind fun k => (a.slot? k).map fun x => (k, x) with
      | some (k, x) => a.setSlot k { x with page := a.lastPage }
      | none => a) s

/-- The parity of a row has programmed (R226, R227): a zone's rows rise and are journaled (R208). -/
def State.parityRow (s : State) (id : Nat) (t : Stripe) (row : Nat) : State :=
  let s1 := { s with store := { s.store with
    parity := Tbl.put s.store.parity (parityKey id row) (s.rowParity t row) } }
  let s2 := s1.setStripe id { t with parityRows := max t.parityRows (row + 1) }
  match t.use with
  | .zone nsid z => (s2.zoneTo nsid z fun y => { y with rows := max y.rows (row + 1) }).stampRow nsid z row t
  | _ => s2

/-- Parity members of a stripe: P, and Q where it has one. -/
def Stripe.parityMembers (t : Stripe) : List Nat := [t.w] ++ (if t.q then [t.w + 1] else [])

/-- Some LUN has a parity program of a row still to do. -/
def State.parityQueued (s : State) (id row : Nat) : Bool :=
  s.flash.luns.any fun e => e.2.queue.any (fun o => o.kind = .parity id row) || e.2.busy.any fun b => b.op.kind = .parity id row

/-- The programs of a row's parity join the LUNs of its parity members that serve (R122, R227). -/
def State.startParity (s : State) (id row : Nat) (t : Stripe) : State :=
  t.parityMembers.foldl (fun a m =>
    let p := t.members.getD m (0, 0)
    if (a.lun p.1).state = .active then a.enqueue p.1 (.parity id row) .program p.2 t.slc else a) s

/-- Rows of a stripe whose units have all programmed have their parity programmed, in order; a row whose parity no LUN can take
is done without. -/
def State.advanceParity (s : State) (id : Nat) : Nat → State
  | 0 => s
  | fuel + 1 =>
    match s.stripe? id with
    | none => s
    | some t =>
      if t.parityRows < (if t.slc then s.slcPages else s.blockPages) ∧ s.rowFull t t.parityRows
          ∧ !(s.parityQueued id t.parityRows) then
        let s1 := s.startParity id t.parityRows t
        if s1.parityQueued id t.parityRows then s1 else (s1.parityRow id t t.parityRows).advanceParity id fuel
      else s

/-- A parity program of a row has ended: once none is left, the row's parity has programmed, and the next row's follows. -/
def State.parityEnds (s : State) (id row : Nat) : State :=
  match s.stripe? id with
  | none => s
  | some t =>
    if s.parityQueued id row ∨ row < t.parityRows then s
    else (s.parityRow id t row).advanceParity id (s.blockPages + s.slcPages)

/-- The read of one unit of a sampled block has ended (R251). -/
def State.sampleRead (s : State) (lun block : Nat) : State :=
  match Tbl.find s.mem.sampling (blockKey lun block) with
  | some n => { s with mem := { s.mem with sampling := Tbl.put s.mem.sampling (blockKey lun block) (n - 1) } }
  | none => s

/-- The operations of a lost LUN: programs of units are placed again (R185), what else waited for them goes on without. -/
def State.placeOpsAgain (s : State) (lun : Nat) (ops : List LunOp) : State :=
  ops.foldl (fun a o => match o.kind with
    | .program k => a.placeAgain k
    | .parity id row => a.parityEnds id row
    | .read _ => a
    | .refill _ => a
    | .sample block => a.sampleRead lun block
    | .progSys _ _ => a
    | .progSeg _ _ => a
    | .progMember _ _ => a
    | .erase _ => a) s

/-- A page-mapped namespace whose width no group can open any more takes no modifying command, with its record
(R229). -/
def State.settleWidth (s : State) (e : Nat × Ns) : State :=
  let need := e.2.width + 1 + e.2.word.qParity.toNat
  let open_ := (List.range s.groups.length).any fun g => decide (need ≤ (s.groupLuns g).length)
  if e.2.kind = .zoned ∨ open_ ∨ e.2.writeBlocked then s
  else (s.setNs e.1 { e.2 with writeBlocked := true }).record 0x0705 [e.1, e.2.width]

def State.settleWidths (s : State) : State := s.store.ns.foldl State.settleWidth s

/-- DIE_LOST (R232): a LUN is LOST; its queue goes, its blocks leave the spare pool, stripes lose their members, programs
in flight are placed again, reads go to Darning. -/
def State.loseLun (s : State) (lun : Nat) : State :=
  let x := s.lun lun
  if x.state ≠ .active then s
  else
    let live := s.lunBlocks lun - x.factoryBad.length - s.retiredOf lun
    let s1 := ((s.setLun lun { x with state := .lost, queue := [], busy := none }).bump Obj.lunsLost).record 0x0702 [lun]
    let s2 := ((s1.setMode Mode.degraded 4).bump Obj.blocksRetired live).takeSpares live
    let s3 := ((s2.readsToDarning lun).dropErases fun e => e.1 = lun).loseMembers lun
    (s3.placeOpsAgain lun x.ops).settleDegraded.settleWidths

/-- A target is lost when every LUN of it is (R232); its LUNs follow. -/
def State.loseTarget (s : State) (ch ce : Nat) : State :=
  let luns := ((s.flash.luns.filter fun e => e.1 / 8 = 8 * ch + ce && e.2.state = .active).map (·.1))
  if luns = [] then s else luns.foldl State.loseLun (s.record 0x0703 [ch, ce])

/-- A channel is lost (R232): its record, then its targets and their LUNs. -/
def State.loseChannel (s : State) (ch : Nat) : State :=
  match Tbl.find s.flash.channels ch with
  | none => s
  | some c =>
    if c.state = 3 then s
    else
      let s1 := { s with flash := { s.flash with channels := Tbl.put s.flash.channels ch { c with state := 3, rate := 0 } } }
      (List.range 8).foldl (fun a ce => a.loseTarget ch ce) (s1.record 0x0704 [ch])

/-! ### Blocks -/

/-- The stripe of a retired block takes no more units and is relocated ahead of other victims (R201). -/
def State.relocateFirst (s : State) (b : Block) : State :=
  match b.stripe with
  | some (id, _) =>
    match s.stripe? id with
    | some t =>
      let s1 := s.setStripe id t.stopped
      { s1 with store := { s1.store with urgent := s1.store.urgent ++ [id] } }
    | none => s
  | none => s

/-- BLOCK_RETIRE (R201): the block is never erased or programmed again, its stripe is relocated ahead of other victims,
and a LUN with too many retired blocks is lost (R232). -/
def State.retireBlock (s : State) (lun block : Nat) : State :=
  let b := s.block lun block
  if b.retired ∨ (s.lun lun).state = .lost then s
  else
    let s1 := (s.setBlock lun block { b with retired := true, eraseDue := false }).journal (.block 3 lun block b.erases)
    let s2 := (s1.bump Obj.blocksRetired).takeSpares 1
    let s3 := (s2.relocateFirst b).dropErases fun e => e = (lun, block)
    if s3.lunBlocks lun * s3.cfg Obj.lunWearoutPct < 100 * s3.retiredOf lun then s3.loseLun lun else s3

/-- A system block fails: it is retired, and one from the spare pool takes its place (R201). -/
def State.retireSystem (s : State) (lun block : Nat) : State :=
  let b := s.block lun block
  if b.retired then s
  else (((s.setBlock lun block { b with retired := true }).journal (.block 3 lun block b.erases)).bump Obj.blocksRetired).takeSpares 1

/-- A program of a slot fails (R185): BLOCK record, the block is retired, a zoned stripe loses the member, and the unit
is placed again. -/
def State.programFails (s : State) (k : Nat) : State :=
  match s.slot? k with
  | none => s
  | some x =>
    match x.state with
    | .programming loc =>
      let lun := loc.lun?.getD 0
      let block := loc.block?.getD 0
      let s1 := s.journal (.block 4 lun block (s.block lun block).erases)
      let s2 := match (s.block lun block).stripe with
        | some (id, m) =>
          match s1.stripe? id with
          | some t => match t.use with
            | .zone _ _ => (s1.loseMember id m)
            | _ => s1
          | none => s1
        | none => s1
      (s2.retireBlock lun block).placeAgain k
    | .filling => s
    | .fillRead => s
    | .programmed _ => s

/-- Chunks of a copy or rebuild that is abandoned are dropped, and its reads serve nothing any more. -/
def State.dropCopies (s : State) (gone : BgWork → Bool) (sources : List Nat) : State :=
  { s with
    sched := { s.sched with bg := s.sched.bg.filter fun c => !(gone c.work) }
    store := { s.store with
      reads := s.store.reads.filter fun e => match e.2.serves with
        | .copyUnit i => !(sources.contains i)
        | .host => true
        | .slotFill _ => true
        | .member _ => true
        | .background => true } }

/-- A source of an abandoned copy starts again at the next boundary. -/
def State.restartSource (s : State) (i : Nat) : State :=
  match s.stripe? i with
  | some q => (s.setStripe i { q with restarts := q.restarts + 1, copying := false }).bump Obj.targetRestarts
  | none => s

/-- The replacement block of a lost member fails a program: it is retired, and the rebuild restarts (R200). -/
def State.replacementFails (s : State) (id member lun block : Nat) : State :=
  let s1 := s.journal (.block 4 lun block (s.block lun block).erases)
  let s2 := (s1.setBlock lun block { s1.block lun block with stripe := none }).retireBlock lun block
  let s3 := { s2 with store := { s2.store with
    replacing := s2.store.replacing.filter fun r => !(r.1 = id && r.2.1 = member) } }
  (s3.dropCopies (fun w => match w with
    | .rebuild i m _ => i = id && m = member
    | .copy _ _ _ => false
    | .sample _ _ => false
    | .darn _ => false) []).restartSource id

/-- A target stripe is abandoned because a program on it failed (R200): its other blocks are queued for erase and its
sources restart. -/
def State.abandonTarget (s : State) (id member : Nat) : State :=
  match s.stripe? id with
  | none => s
  | some t =>
    let m := t.members.getD member (0, 0)
    let s1 := s.journal (.block 4 m.1 m.2 (s.block m.1 m.2).erases)
    let s2 := { s1 with store := { s1.store with stripes := Tbl.del s1.store.stripes id } }
    let s3 := (s2.setBlock m.1 m.2 { s2.block m.1 m.2 with stripe := none }).retireBlock m.1 m.2
    let s4 := (t.members.filter (· ≠ m)).foldl (fun a e => a.queueErase e.1 e.2) s3
    let s5 := s4.dropCopies (fun w => match w with
      | .copy i _ _ => t.sources.contains i
      | .rebuild _ _ _ => false
      | .sample _ _ => false
      | .darn _ => false) t.sources
    t.sources.foldl State.restartSource s5

/-- A program of a Mangle, fold or rebuild target fails (R200). -/
def State.targetFails (s : State) (id member : Nat) : State :=
  match s.store.replacing.find? (fun r => r.1 = id && r.2.1 = member) with
  | some (_, _, lun, block) => s.replacementFails id member lun block
  | none => s.abandonTarget id member

/-- A block has been erased: it is free again, its content is gone, BLOCK record (R198, R170). -/
def State.blockErased (s : State) (lun block : Nat) : State :=
  let b := s.block lun block
  let n := b.erases + 1
  let secure := s.store.secureQueue.contains (lun, block)
  let s1 := (s.setBlock lun block { Block.fresh with
    erases := n, system := b.system, before := b.refreshed }).journal (.block 0 lun block n)
  let s2 := { s1 with store := { s1.store with
    erases := s1.store.erases.filter (· ≠ (lun, block))
    secureQueue := s1.store.secureQueue.filter (· ≠ (lun, block))
    secureDue := s1.store.secureDue.filter fun e => (e.1, e.2.1) ≠ (lun, block)
    media := s1.store.media.filter fun e => e.1 / 2 ^ 25 % 2 ^ 12 ≠ lun || e.1 / 2 ^ 11 % 2 ^ 12 ≠ block } }
  let s3 := if secure then s2.drop1 Obj.secureErasePending else s2
  if s3.cfg Obj.eraseMax < n then s3.keep Obj.eraseMax n else s3

/-- An erase fails: the block is retired, and awaits no erase any more (R201, R170). -/
def State.eraseFails (s : State) (lun block : Nat) : State := s.retireBlock lun block

/-! ### Release of slots (R227, R228) -/

/-- A slot may be given back: programmed and durable, the parity of its row programmed, digested where its zone carries
a digest, and filled by nothing newer (R166, R183, R227). -/
def State.slotDone (s : State) (x : Slot) : Bool :=
  match x.state with
  | .programmed loc =>
    s.slotDurable x
      && (match s.placeOf loc with
        | some (id, _, row) => match s.stripe? id with
          | some t => row < t.parityRows
          | none => true
        | none => true)
      && (match s.ns? x.nsid with
        | some n => !(n.kind = .zoned && n.word.digest && ((n.zone (x.unit / s.zoneUnits n)).dstate = .running)) || x.digested
        | none => true)
  | .filling => false
  | .fillRead => false
  | .programming _ => false

/-- Where a programmed slot's unit lies. -/
def Slot.loc (x : Slot) : MapEntry :=
  match x.state with
  | .programmed loc => loc
  | .programming loc => loc
  | .filling => x.prev
  | .fillRead => x.prev

/-- Every slot that may go is given back, and what waits for durability goes on. -/
def State.releaseSlots (s : State) : State :=
  (s.store.slots.filter fun e => !e.2.dead && s.slotDone e.2).foldl (fun a e => a.dropSlot e.1 e.2.loc) s

/-- Nothing is dirty, and every journal record is durable. -/
def State.allDurable (s : State) : Bool :=
  let j := s.store.journal
  s.dirtyBytes = 0 && j.recs = [] && j.durable = j.next

/-- A function whose shutdown is in progress has shut down. -/
def Fn.shutDown (x : Fn) : Fn := if x.shst = 1 then { x with shst := 2 } else x

/-- Shutdowns in progress are complete once everything is durable; the run has shut down cleanly when every enabled
function has (R373). -/
def State.settleShutdown (s : State) : State :=
  if (s.host.fns.any fun e => e.2.shst = 1) ∧ s.allDurable then
    let fns := s.host.fns.map fun (e : Nat × Fn) => (e.1, e.2.shutDown)
    let all := fns.all fun (e : Nat × Fn) => !e.2.en || e.2.shst = 2
    { s with
      host := { s.host with fns := fns }
      power := { s.power with clean := s.power.clean || all } }
  else s

/-- Everything that waits for a program, a page or a read goes on as far as it can. -/
def State.settleAll (s : State) : State := s.releaseSlots.settleDurable.settleResets.readmit.wakeAll.settleShutdown

end Sys2Proof.Machine
end

