-- ==== Sys2Proof/Machine/Memory.lean ====
section
/-! DEFINITION. DRAM as bytes in canonical form, correction logs and device marks, and a restart as at power-on
(R257 to R266). -/
namespace Sys2Proof.Machine

/-! ### Bytes (R261) -/

/-- What a byte of DRAM that is not listed reads as: the fill of R261. -/
def unlisted : Byte := 0

/-- The byte at an address. -/
def cellsRead : List Host.Cell → Nat → Byte
  | [], _ => unlisted
  | (b, v) :: t, a => if b = a then v else cellsRead t a

/-- The memory with a byte written: addresses rise strictly, and no entry is what an unlisted address reads as. -/
def cellsWrite : List Host.Cell → Nat → Byte → List Host.Cell
  | [], a, v => if v = unlisted then [] else [(a, v)]
  | (b, w) :: t, a, v =>
    if a < b then (if v = unlisted then (b, w) :: t else (a, v) :: (b, w) :: t)
    else if a = b then (if v = unlisted then t else (a, v) :: t)
    else (b, w) :: cellsWrite t a v

/-- Canonical form. -/
def Memory.wf : List Host.Cell → Bool
  | [] => true
  | (a, v) :: t => v ≠ unlisted && t.all (fun e => decide (a < e.1)) && Memory.wf t

/-- Bytes written from an address up. -/
def cellsStore (m : List Host.Cell) (a : Nat) : List Byte → List Host.Cell
  | [] => m
  | b :: t => cellsStore (cellsWrite m a b) (a + 1) t

/-- n bytes from an address up. -/
def cellsLoad (m : List Host.Cell) (a n : Nat) : List Byte := (List.range n).map fun i => cellsRead m (a + i)

/-! ### Correction logs (R264, R266) -/

/-- Seconds since PORST_N was released. -/
def State.seconds (s : State) : Nat := s.upNs / 1000000000

/-- Entries of a log with a correction at an address: COUNT rises, or a free entry is taken, or the oldest of COUNT 1 is
replaced; none where every COUNT is above 1. Entries stand in the order of their first correction. -/
def logWith (l : List LogEntry) (e : LogEntry) : Option (List LogEntry) :=
  if l.any (·.address = e.address) then
    some (l.map fun x => if x.address = e.address then { x with count := min 65535 (x.count + 1) } else x)
  else if l.length < 32 then some (l ++ [e])
  else match l.find? (·.count = 1) with
    | some old => some ((l.erase old) ++ [e])
    | none => none

/-- A correction in a memory is counted, and logged where its mode says so (R264, R266). -/
def State.corrected (s : State) (code : Nat) (e : LogEntry) : State :=
  let s1 := s.bump Obj.ceCount 1 0 code
  if s.cfg Obj.ceMode 0 code = 1 then s1
  else match logWith (Tbl.get [] s.mem.logs code) { e with count := 1, firstS := s.seconds } with
    | some l => { s1 with mem := { s1.mem with logs := Tbl.set [] s1.mem.logs code l } }
    | none => s1.bump Obj.logOverflow 1 0 code

/-- An uncorrectable word is counted and recorded (R260). -/
def State.uncorrectable (s : State) (code address : Nat) : State :=
  (s.bump Obj.ueCount 1 0 code).record 0x0804 [code, lowWord address, highWord address]

/-! ### Restart (R260, R335) -/

/-- A restart as at power-on: every function is fenced as by NVM Subsystem Reset, AON memory keeps the cause, and the
device waits for its boot chain to run. -/
def State.restart (s : State) (cause : Nat) : State :=
  let s1 := s.subsystemReset
  { s1 with power := { s1.power with restart := true }, mem := { s1.mem with restartCause := cause } }

/-- RECOVERY ends once every map that fits is loaded, the memory fill is done, and every segment that replay changed has
a durable copy (R373). -/
def State.settleRecovery (s : State) : State :=
  if s.has Mode.recovery ∧ !s.mem.filling ∧ s.mem.replayed = [] then s.clearMode Mode.recovery 14 else s

/-- The write-buffer rows of R260 for some LBAs of a slot: a completed write marks its codewords and takes a record; a
write not completed keeps the unit's old value, and its command ends Internal Error. -/
def State.slotWordLost (s : State) (k : Nat) (lbas : List Nat) : State :=
  match s.slot? k with
  | none => s
  | some x =>
    let open_ := (s.host.ctxs.filter fun c => c.done.isNone && x.writers.contains (c.hdr.code, c.stamp)).map (·.hdr)
    if open_ = [] then
      let bad := lbas.foldl (fun (m : BitVec 4) i => m ||| (1#4 <<< i)) x.bad
      let flushes := (s.host.ctxs.filter fun c => c.done.isNone && c.coversSlot x).map (·.hdr)
      let s1 := (s.setSlot k { x with bad := bad }).record 0x0601 [x.nsid, lowWord x.unit, highWord x.unit]
      flushes.foldl (fun a h =>
        (a.record 0x0301 [x.nsid, lowWord x.unit, highWord x.unit]).finish h (Cpl.of .writeFault)) s1
    else
      open_.foldl (fun a h => a.finish h (Cpl.of .internalError)) (s.freeSlot k x.prev)

end Sys2Proof.Machine
end

