-- ==== Sys2Proof/Machine/Scheduler.lean ====
section
/-! DEFINITION. Frames, banks, background chunks, claims, die operations, suspension and read-around (R122 to R148, R218
to R222, R230, R231, R237, R238, R512). What a frame boundary does as a whole stands in Boundary.lean. -/
namespace Sys2Proof.Machine

/-! ### The frame grid (R123 to R126) -/

/-- F in ns. -/
def State.frameNs (s : State) : Nat := s.cfg Obj.frameUs * 1000

/-- G(k) = T0 + k × F. -/
def State.grid (s : State) (k : Nat) : Nat := s.sched.t0 + k * s.frameNs

/-- No frame runs (R148). -/
def State.stopFrames (s : State) : State := { s with sched := { s.sched with running := false, isOpen := false } }

/-- Number and planned end of the frame that opens at this moment, and slots skipped (R125, R126). -/
def State.nextFrame (s : State) : Nat × Nat × Nat :=
  let f := s.frameNs
  let k := s.sched.k + 1
  let o := s.now
  if f = 0 then (k, o, 0)
  else if s.grid (k + 1) ≤ o then
    let j := (o - s.sched.t0) / f
    (j, max (s.grid (j + 1)) (max o (o + 6 * f / 10)), j - k)
  else (k, max (s.grid (k + 1)) (max (s.sched.planned + 8 * f / 10) (o + 6 * f / 10)), 0)

/-- Instances outside their share when the frame closes: those noted, and those with a read that waits (R133). -/
def State.outsideNow (s : State) : List Nat :=
  (s.sched.outside ++ s.host.ctxs.filterMap fun c => match c.hdr.fn with
    | .inst n =>
      if c.done.isNone && c.wait = .none && c.chunks.any (fun k => k.kind = .read) then some n.val else none
    | .pf0 => none
    | .pf1 => none).eraseDups

/-- 0x4nnn.23 of every instance: FALSE for those outside, TRUE for the rest. -/
def State.writeShares (s : State) (outside : List Nat) : State :=
  let r := Obj.withinShare
  let force := s.dict.force.filter fun e => !(e.1 % 256 = r.sub && r.base ≤ e.1 / 256 && e.1 / 256 < r.base + r.cnt)
  outside.foldl (fun a n => a.keep Obj.withinShare 0 n) { s with dict := { s.dict with force := force } }

/-- The frame closes (R124, R132): unspent capacity is what its length gave less what holders spent. -/
def State.closeFrame (s : State) (late : Nat) : State :=
  let len := s.sched.planned - s.sched.openAt
  let f := max 1 s.frameNs
  let s1 := s.writeShares s.outsideNow
  let s2 := { s1 with sched := { s1.sched with
    isOpen := false
    late := late
    overran := late ≠ 0
    writeIdle := s1.sched.writeQuiet && !(s1.writeWaiting)
    writeQuiet := true
    outside := []
    leftRead := s.readCap * len / f - s.sched.spentRead
    leftWrite := s.writeCap * len / f - s.sched.spentWrite } }
  if late = 0 then s2 else s2.bump Obj.overruns

/-- FRAME_PLANNED_END (R124): from E(k) on the frame closes, once its late items have been handed over. -/
def execFramePlannedEnd (t late : Nat) (s : State) : Answer :=
  let s1 := s.tick t
  if s1.sched.running ∧ s1.sched.isOpen ∧ s1.sched.planned ≤ s1.now ∧
    !(s1.has Mode.holdUp) then .next (s1.closeFrame late) else .next s1

/-- LATE_WORK_HANDOVER (R124). -/
def execLateWorkHandover (t : Nat) (s : State) : Answer :=
  let s1 := s.tick t
  .next { s1 with sched := { s1.sched with late := s1.sched.late - 1 } }

/-! ### Periodic tasks (R127, R340) -/

/-- Grid time of interval j. -/
def Refresh.at_ (r : Refresh) (j : Nat) : Nat := r.base + j * r.period

/-- The interval after one whose work was done at i: never ahead of the grid, at least 0.8 T after the last due time and 0.6 T
after the last work (R125, R340). A change of T starts a new grid at this moment. -/
def Refresh.after (r : Refresh) (i period : Nat) : Refresh :=
  if period = r.period then
    { r with
      slot := r.slot + 1
      due := max (r.at_ (r.slot + 1)) (max (r.due + r.period * 8 / 10) (i + r.period * 6 / 10))
      postponed := false }
  else { slot := 1, base := i, period := period, due := i + period, postponed := false }

/-- Numbers of the periodic tasks beside refresh (R127). -/
def Periodic.recentre (c : Nat) : Nat := c
def Periodic.rinse : Nat := 4
def Periodic.checkpoint : Nat := 5
def Periodic.flush : Nat := 6
def Periodic.airing : Nat := 7

/-- A task's interval has ended; one that has never run is due. -/
def State.isDue (s : State) (task : Nat) : Bool := (Tbl.find s.sched.periodic task).elim true fun r => decide (r.due ≤ s.now)

/-- The next interval of a task whose work was done at i: slots that have passed wholly are skipped (R126). -/
def Refresh.next (r : Refresh) (i period : Nat) : Refresh :=
  if period = r.period ∧ 0 < period ∧ r.at_ (r.slot + 1) ≤ i then
    let j := (i - r.base) / period
    { r with slot := j + 1, due := max (r.at_ (j + 1)) (i + period * 6 / 10) }
  else r.after i period

/-- The work of a task's interval is done. One without a t happens at its due time or later. -/
def State.taskDone (s : State) (task period : Nat) : State :=
  let r := match Tbl.find s.sched.periodic task with
    | some r => r.next (max s.now r.due) period
    | none => { slot := 1, base := s.now, period := period, due := s.now + period, postponed := false }
  { s with sched := { s.sched with periodic := Tbl.put s.sched.periodic task r } }

/-- A task's grid starts now (boot, or the exit of a sleep state). -/
def State.startTask (s : State) (task period : Nat) : State :=
  { s with sched := { s.sched with
    periodic := Tbl.put s.sched.periodic task
      { slot := 1, base := s.now, period := period, due := s.now + period, postponed := false } } }

/-! ### Banks at a boundary (R129, R130) -/

/-- A bank after growth by a grant of a frame of len in f, capped. -/
def growTo (carry cap share len f floor_ : Nat) (old : Int) : Int :=
  min (old + (cap * share * len / (10000 * f) : Nat)) ((max (carry * grantOf cap share) floor_ : Nat) : Int)

/-- An instance's bank grows; that of an ABSENT, OFFLINE or frozen one is zero (R130, R148). -/
def State.growInstance (s : State) (len f n : Nat) : State :=
  let live := match (s.fnAt n).state with
    | .online => true
    | .fencing => true
    | .absent => false
    | .offline => false
    | .frozen => false
  if live && s.cfg Obj.freezePhase n = 0 then
    let b := s.bank n
    let carry := s.cfg Obj.carryFrames
    s.setBank n
      { read := growTo carry s.readCap (s.cfg Obj.readShare n) len f 4096 b.read
        write := growTo carry s.writeCap (s.cfg Obj.writeShare n) len f 1024 b.write
        copy := growTo carry s.writeCap (s.cfg Obj.copyShare n) len f 1024 b.copy }
  else s.setBank n Bank.zero

/-- Position of a task in 0x2210: its read share, then its write share. -/
def Task.index : Task → Nat
  | .reclaim => 0
  | .rebuild => 2
  | .scrub => 4
  | .selftest => 6

/-- Cells that hold the role of a task, and the minimum of R37; self-test runs on SCRUB cells. -/
def State.taskCells (s : State) : Task → Nat × Nat
  | .reclaim => (s.roleCount 2, 12)
  | .rebuild => (s.roleCount 3, 2)
  | .scrub => (s.roleCount 4, 2)
  | .selftest => (s.roleCount 4, 2)

/-- A task's work runs in proportion to its cells where they are fewer than the minimum, within its share (R37). -/
def State.taskRate (s : State) (k : Task) (n : Nat) : Nat :=
  let c := s.taskCells k
  n * min c.1 c.2 / c.2

def State.growTask (s : State) (len f : Nat) (k : Task) : State :=
  let b := s.bank k.holder
  let carry := s.cfg Obj.carryFrames
  s.setBank k.holder { b with
    read := growTo carry (s.taskRate k s.readCap) (s.cfg Obj.bgShares 0 k.index) len f 4096 b.read
    write := growTo carry (s.taskRate k s.writeCap) (s.cfg Obj.bgShares 0 (k.index + 1)) len f 1024 b.write }

/-- Every holder's bank grows for a frame of a length. -/
def State.growBanks (s : State) (len : Nat) : State :=
  let f := max 1 s.frameNs
  let s1 := ((s.host.fns.map (·.1)).filter (· < 1024)).foldl (fun a n => a.growInstance len f n) s
  [Task.reclaim, .rebuild, .scrub, .selftest].foldl (fun a k => a.growTask len f k) s1

/-! ### Background chunks (R131, R132, R512) -/

/-- Background work is permitted by the modes for a task (R376): none during SANITIZE, sleep, HOLD-UP or the image
switch. -/
def State.bgOpen (s : State) : Bool :=
  !(s.has Mode.sanitize) && !(s.has Mode.idle) && !(s.has Mode.airing) && !(s.has Mode.holdUp) && !s.host.paused

/-- The copy of a unit begins while its entry still names the source (R193, R197). -/
def State.beginCopy (s : State) (source nsid unit : Nat) : State :=
  let e := s.locate nsid unit
  if (s.placeOf e).elim false (·.1 = source) then (s.startRead nsid unit e 15#4 .other (.copyUnit source) []).2 else s

/-- The rebuild of a unit of a lost member is programmed into the replacement block (R234). -/
def State.beginRebuild (s : State) (stripe member : Nat) : State :=
  match s.store.replacing.find? (fun e => e.1 = stripe && e.2.1 = member) with
  | some (_, _, lun, block) => s.enqueue lun (.progMember stripe member) .program block false
  | none => s

def State.doBg (s : State) : BgWork → State
  | .copy source nsid unit => s.beginCopy source nsid unit
  | .rebuild stripe member _ => s.beginRebuild stripe member
  | .darn rd => (Tbl.find s.store.reads rd).elim s fun r => s.startDarning rd r
  | .sample lun block => s.enqueue lun (.sample block) .other block false

/-- A background chunk's charges are met from its task's bank, or in step 3 from unspent capacity; a task short of cells stays
within its share (R37). -/
def State.payBg (s : State) (c : BgChunk) (step3 : Bool) : Option State :=
  if step3 then
    if (s.taskCells c.task).2 ≤ (s.taskCells c.task).1 ∧ c.readCost ≤ s.sched.leftRead ∧ c.writeCost ≤ s.sched.leftWrite then
      some { s with sched := { s.sched with
        leftRead := s.sched.leftRead - c.readCost
        leftWrite := s.sched.leftWrite - c.writeCost } }
    else none
  else
    let b := s.bank c.task.holder
    if b.has .read c.readCost && b.has .write c.writeCost then
      some (((s.setBank c.task.holder ((b.take .read c.readCost).take .write c.writeCost)).spend .read c.readCost).spend
        .write c.writeCost)
    else none

/-- A background chunk is admitted if its charges are met, and its task does not press on Basket at the stop level (R50, R325). -/
def State.admitBg (s : State) (step3 : Bool) (c : BgChunk) : State :=
  if s.bgOpen && !(s.taskPresses 3 c.task) then
    match s.payBg c step3 with
    | some s1 => { s1 with sched := { s1.sched with bg := s1.sched.bg.filter (·.id ≠ c.id) } }.doBg c.work
    | none => s
  else s

/-- 0x2420.04: staging blocks in use, in percent. -/
def State.stagingUsed (s : State) : Nat :=
  let all := s.attachedLuns.length * s.stagingBlocks
  let used := (s.attachedLuns.map fun l =>
    (s.goodBlocks l systemBlocks (systemBlocks + s.stagingBlocks)).countP fun b => !(s.block l b).free).sum
  if all = 0 then 0 else 100 * used / all

/-- A chunk of folding: it copies a unit out of a stripe of SLC blocks (R193). -/
def State.isFold (s : State) (c : BgChunk) : Bool :=
  match c.work with
  | .copy source _ _ => (s.stripe? source).elim false Stripe.slc
  | .rebuild _ _ _ => false
  | .darn _ => false
  | .sample _ _ => false

/-- The order in which background chunks are tried: as they came, but above 90 % staging use folds ahead of Mangle (R194). -/
def State.bgOrder (s : State) : List BgChunk :=
  if 90 < s.stagingUsed then s.sched.bg.filter s.isFold ++ s.sched.bg.filter fun c => !(s.isFold c) else s.sched.bg

/-- Every waiting background chunk that a test selects is tried, in order. -/
def State.admitBgAll (s : State) (step3 : Bool) (sel : BgChunk → Bool) : State :=
  (s.bgOrder.filter sel).foldl (fun a c => a.admitBg step3 c) s

/-- CHUNK_ADMIT (R132, R138): a chunk that has reached the scheduler is admitted from its holder's bank; one of a task that
presses on Basket at the throttle level only at a frame boundary (R325). -/
def execChunkAdmit (c : ChunkOf) (s : State) : Answer :=
  match c with
  | .host h => .next (s.admitFor h false)
  | .background id =>
    if s.has Mode.holdUp then .next s
    else match s.sched.bg.find? (·.id = id) with
      | some k => .next (if s.taskPresses 2 k.task then s else s.admitBg false k)
      | none => .next s

/-- Host chunks are admitted instance by instance, in the age of each instance's oldest waiting command (R132). -/
def State.admitHosts (s : State) (step3 : Bool) : State :=
  let waiting := s.host.ctxs.filter fun c => c.chunks ≠ [] && c.wait = .none && c.done.isNone
  if step3 then waiting.foldl (fun a c => a.admitFor c.hdr true) s
  else ((waiting.map fun c => c.hdr.fn).eraseDups).foldl (fun a f =>
    (waiting.filter fun c => c.hdr.fn = f).foldl (fun b c => b.admitFor c.hdr false) a) s

/-! ### Claims (R237, R238) -/

/-- Codes of the tasks, in the order of R238. -/
def claimDarning : Nat := 0
def claimMangle : Nat := 1
def claimRinse : Nat := 2
def claimSelftest : Nat := 3

/-- A task asks for a block's claim. -/
def State.requestClaim (s : State) (task lun block : Nat) : State :=
  let b := s.block lun block
  if b.claim = some task ∨ b.wants.any (·.1 = task) then s
  else s.setBlock lun block { b with wants := b.wants ++ [(task, 0)] }

/-- The request that takes a free claim: one that has lost 16 frames, else the first task in order. -/
def claimWinner (wants : List (Nat × Nat)) : Option Nat :=
  match wants.find? (fun w => 16 ≤ w.2) with
  | some w => some w.1
  | none => ([claimDarning, claimMangle, claimRinse, claimSelftest].find? fun t => wants.any (·.1 = t))

/-- Requests that lose this boundary. -/
def loseFrame (wants : List (Nat × Nat)) : List (Nat × Nat) := wants.map fun w => (w.1, w.2 + 1)

/-- A block's claim at a boundary. Darning takes one from Rinse or self-test. -/
def State.grantClaim (s : State) (lun block : Nat) (b : Block) : State :=
  if b.wants = [] then s
  else
    let take := fun (t : Nat) (a : State) =>
      let rest := loseFrame (b.wants.filter (·.1 ≠ t))
      let starved := rest.countP (·.2 = 16)
      ((a.setBlock lun block { b with claim := some t, wants := rest }).bump Obj.claimConflicts rest.length).bump
        Obj.claimStarved starved
    match b.claim with
    | none => match claimWinner b.wants with
      | some t => take t s
      | none => s
    | some h =>
      if (h = claimRinse ∨ h = claimSelftest) ∧ b.wants.any (·.1 = claimDarning) then
        take claimDarning (s.bump Obj.claimPreempts)
      else
        let rest := loseFrame b.wants
        ((s.setBlock lun block { b with wants := rest }).bump Obj.claimConflicts rest.length).bump Obj.claimStarved
          (rest.countP (·.2 = 16))

/-- CLAIM_GRANT (R238). -/
def State.grantClaims (s : State) : State :=
  s.store.blocks.foldl (fun a e => a.grantClaim (e.1 / 4096) (e.1 % 4096) (a.block (e.1 / 4096) (e.1 % 4096))) s

/-- Every claim ends (R238): a sanitize or HOLD-UP. -/
def State.dropClaims (s : State) : State :=
  s.store.blocks.foldl (fun a e =>
    a.setBlock (e.1 / 4096) (e.1 % 4096) { a.block (e.1 / 4096) (e.1 % 4096) with claim := none, wants := [] }) s

/-- Every member's claim of a stripe is held by a task. -/
def State.claimed (s : State) (t : Stripe) (task : Nat) : Bool :=
  t.members.all fun m => (s.block m.1 m.2).claim = some task || (s.lun m.1).state ≠ .active

/-! ### Darning at a boundary (R233 to R235) -/

/-- Order of replacement (R235): stripes with two lost members, then those of contract namespaces, then the rest. -/
def State.darnRank (s : State) (e : Nat × Nat) : Nat :=
  match s.stripe? e.1 with
  | none => 3
  | some t =>
    if 2 ≤ t.lost.length then 0
    else
      let nsid := match t.use with
        | .ns n _ => n
        | .zone n _ => n
        | .fold n => n
        | .mangle => 0
        | .staging => 0
        | .dump => 0
        | .worn => 0
      if (s.ns? nsid).elim false (·.word.contract) then 1 else 2

/-- Units written on a member of a stripe, by position: each is one rebuild chunk. -/
def State.memberUnits (_s : State) (t : Stripe) (m : Nat) : List Nat :=
  (List.range (ceilDiv t.next t.rowUnits * planes)).map fun p => m + t.w * p

/-- A replacement takes a block of a LUN on no channel of the stripe, and queues a chunk for each unit (R234, R254). -/
def State.startMember (s : State) (e : Nat × Nat) (task : Task) (reads : Nat) : State :=
  match s.stripe? e.1 with
  | none => s
  | some t =>
    let luns := (s.groupLuns t.group).filter fun l => !(t.members.any fun m => m.1 / 64 = l / 64) && s.freeBlocks l ≠ []
    match luns.head? with
    | none => s
    | some l =>
      let b := (s.chooseBlock l .mangle).getD 0
      let s1 := s.setBlock l b { s.block l b with
        stripe := some e
        programmedAt := s.now
        strength := s.strengthOf t.group }
      let s2 := { s1 with store := { s1.store with replacing := s1.store.replacing ++ [(e.1, e.2, l, b)] } }
      (s.memberUnits t e.2).foldl (fun a u => a.queueBg task (.rebuild e.1 e.2 u) (reads * 4 * 1024) 1024) s2

/-- A replacement of a lost member starts: each unit reads every data member of its row (R233, R234). -/
def State.startReplacement (s : State) (e : Nat × Nat) : State :=
  s.startMember e .rebuild ((s.stripe? e.1).elim 0 (·.w))

/-- A replacement is no longer pending. -/
def State.dropReplacement (s : State) (e : Nat × Nat) : State :=
  let s1 := s.drop1 Obj.darnPending
  { s1 with store := { s1.store with
      darning := s1.store.darning.filter (· ≠ e)
      replacing := s1.store.replacing.filter fun r => !(r.1 = e.1 && r.2.1 = e.2) } }

/-- Darning at a boundary: a stripe without data is dropped, one with 8 restarts is set aside for this boundary (R200); the
rest ask for their claims and start when they hold them. -/
def State.darnOne (s : State) (e : Nat × Nat) : State :=
  match s.stripe? e.1 with
  | none => s.dropReplacement e
  | some t =>
    if !(s.stripeUsed e.1 t) then s.dropReplacement e
    else if s.store.replacing.any (fun r => r.1 = e.1 && r.2.1 = e.2) then s
    else if 8 ≤ t.restarts then s.setStripe e.1 { t with restarts := 0 }
    else if s.claimed t claimDarning then s.startReplacement e
    else t.members.foldl (fun a m => if (a.lun m.1).state = .active then a.requestClaim claimDarning m.1 m.2 else a) s

/-- A replacement in its place among those of its rank, most valid units first (R235). -/
def State.insertDarn (s : State) (e : Nat × Nat) : List (Nat × Nat) → List (Nat × Nat)
  | [] => [e]
  | h :: t => if (s.unitsIn h.1).length ≤ (s.unitsIn e.1).length then e :: h :: t else h :: s.insertDarn e t

/-- The replacements of a rank, in the order they are tried: only the last rank goes by valid units. -/
def State.darnsOf (s : State) (r : Nat) : List (Nat × Nat) :=
  let l := s.store.darning.filter fun e => s.darnRank e = r
  if r = 2 then l.foldr s.insertDarn [] else l

def State.darnAll (s : State) : State := (([0, 1, 2, 3].flatMap s.darnsOf).foldl State.darnOne s).settleDegraded

/-! ### Operations at the die (R134 to R137, R218 to R222) -/

/-- The operation a LUN's queue serves next (R134). -/
def Lun.head (x : Lun) : Option LunOp :=
  x.queue.foldl (fun (m : Option LunOp) o => match m with
    | .none => some o
    | some a => if o.before a then some o else some a) .none

/-- Heads of the LUNs that are free, with their LUNs. -/
def State.heads (s : State) : List (Nat × LunOp) :=
  s.flash.luns.filterMap fun e =>
    if e.2.state = .active ∧ e.2.busy.isNone then e.2.head.map fun o => (e.1, o) else none

/-- The head of the device-wide order of R136. -/
def State.firstHead (s : State) : Option (Nat × LunOp) :=
  s.heads.foldl (fun (m : Option (Nat × LunOp)) e => match m with
    | none => some e
    | some a => if e.2.before a.2 then some e else some a) none

/-- A read has been issued to its die: it counts against its block (R253). -/
def State.markIssued (s : State) (lun : Nat) (o : LunOp) : State :=
  match o.kind with
  | .read rd =>
    let s1 := s.setBlock lun o.block { s.block lun o.block with reads := (s.block lun o.block).reads + 1 }
    match Tbl.find s1.store.reads rd with
    | some r => s1.setRead rd { r with issued := true }
    | none => s1
  | .sample _ => s.setBlock lun o.block { s.block lun o.block with reads := (s.block lun o.block).reads + 1 }
  | .program _ => s
  | .progSys _ _ => s
  | .progSeg _ _ => s
  | .parity _ _ => s
  | .progMember _ _ => s
  | .erase _ => s
  | .refill _ => s

/-- An operation is issued to its die and holds its tokens (R135). -/
def State.issueOp (s : State) (lun : Nat) (o : LunOp) : State :=
  let x := s.lun lun
  let b : Busy :=
    { op := o, since := s.now, ends := s.now + s.opTime lun o, suspends := 0, asking := false, suspended := false, toServe := []
      serving := none, retried := false }
  (s.setLun lun { x with queue := x.queue.filter (·.id ≠ o.id), busy := some b }).markIssued lun o

/-- OPERATION_ISSUE (R134 to R137): the head of the device-wide order is issued, or waits for tokens and nothing else
issues. HOLD-UP issues nothing (R122). -/
def execOperationIssue (t : Nat) (s : State) : Answer :=
  let s1 := s.tick t
  if s1.has Mode.holdUp then .next s1
  else match s1.firstHead with
    | none => .next s1
    | some (lun, o) =>
      if o.tokens ≤ s1.tokensFree then .next (s1.issueOp lun o)
      else if o.waited then .next s1
      else
        let x := s1.lun lun
        .next ((s1.setLun lun { x with queue := x.queue.map fun q => if q.id = o.id then { q with waited := true } else q }).bump
          Obj.tokenWaits)

/-- PROG_AGE_PROMOTE (R134): a program or erase that has waited 0x2200.09 frames passes other reads. -/
def execProgAgePromote (lun : Fin 4096) (op : Nat) (s : State) : Answer :=
  let x := s.lun lun.val
  .next (s.setLun lun.val { x with queue := x.queue.map fun o =>
    if o.id = op && (o.cls = .program || o.cls = .erase) && o.frame + s.cfg Obj.progAge ≤ s.cfg Obj.frameCount then
      { o with cls := .aged }
    else o })

/-- Insertion of a ready read among the transfers of its channel: in the order of R134, behind the one in progress. -/
def insertTransfer (e : Nat × LunOp) : List (Nat × LunOp) → List (Nat × LunOp)
  | [] => [e]
  | d :: t => if e.2.before d.2 then e :: d :: t else d :: insertTransfer e t

def joinTransfers (e : Nat × LunOp) : List (Nat × LunOp) → List (Nat × LunOp)
  | [] => [e]
  | d :: t => d :: insertTransfer e t

/-- A die holds the data of a read ready: it waits for its channel, where the class order of R134 holds at each transfer boundary
and no transfer is cut. -/
def State.readReady (s : State) (lun : Nat) (o : LunOp) : State :=
  match Tbl.find s.flash.channels (lun / 64) with
  | some c => { s with flash := { s.flash with
      channels := Tbl.put s.flash.channels (lun / 64) { c with transfers := joinTransfers (lun, o) c.transfers } } }
  | none => s

/-- A die has delivered a read. -/
def State.readArrived (s : State) (rd : Nat) : State :=
  match Tbl.find s.store.reads rd with
  | some r => s.setRead rd { r with arrived := true }
  | none => s

/-- A program of a row's parity has ended; one that failed retires its block (R201), and the row is done without it. -/
def State.parityDone (s : State) (lun : Nat) (o : LunOp) (id row : Nat) (ok : Bool) : State :=
  let s1 := if ok then s else (s.journal (.block 4 lun o.block (s.block lun o.block).erases)).retireBlock lun o.block
  (s1.parityEnds id row).settleAll

/-- A checkpoint copy has been written: its CKPT record enters the journal (R190). One that failed is written again to another
system block; at the fourth that fails it, READ-ONLY with cause 2 (R52). -/
def State.segmentWritten (s : State) (nsid segment lun : Nat) (o : LunOp) (ok : Bool) : State :=
  let mine := fun (c : SegCopy) => c.nsid = nsid && c.segment = segment && c.page = 0
  let put := fun (a : State) (c : SegCopy) => a.setJournal { a.store.journal with
    copies := a.store.journal.copies.map fun d => if mine d then c else d }
  match s.store.journal.copies.find? mine with
  | none => s
  | some c =>
    if ok then
      let s1 := s.journal (.ckpt segment c.place c.snapshot)
      put s1 { c with page := s1.lastPage }
    else
      let s1 := s.retireSystem lun o.block
      let block := s1.sysBlock lun 0
      let s2 := put s1 { c with fails := c.fails + 1, place := entryAt true (lun, block) 0 0 }
      (if c.fails + 1 = 4 then s2.setRoCause 2 else s2).enqueue lun (.progSeg nsid segment) .sys block true

/-- What the end of an operation brings: data of a read, the erase of a block, a row's parity, a checkpoint copy. The outcome of
other programs comes by UNIT_PROGRAM_DONE, PROGRAM_FAILURE and the rows of their stripe or page. -/
def State.opDone (s : State) (lun : Nat) (o : LunOp) (ok : Bool) : State :=
  match o.kind with
  | .read rd => (s.readReady lun o).readArrived rd
  | .refill _ => s
  | .sample block => s.sampleRead lun block
  | .program _ => s
  | .progSys _ _ => s
  | .progSeg nsid segment => s.segmentWritten nsid segment lun o ok
  | .parity id row => s.parityDone lun o id row ok
  | .progMember _ _ => s
  | .erase block => if ok ∧ s.store.erases.contains (lun, block) then s.blockErased lun block else s

/-- The next read of a suspension is served, or the operation resumes (R140, R220). -/
def State.serveNext (s : State) (lun : Nat) (b : Busy) : State :=
  let x := s.lun lun
  match b.toServe with
  | o :: rest => (s.setLun lun { x with busy := some { b with toServe := rest, serving := some o } }).markIssued lun o
  | [] =>
    s.setLun lun { x with busy := some { b with
      suspended := false
      asking := false
      serving := none
      since := s.now
      ends := s.now + b.ends } }

/-- OPERATION_READY (R135, R140): the die reports ready; the operation's tokens are free, or the next read of the
suspension is served. -/
def execOperationReady (lun : Fin 4096) (ok : Bool) (t : Nat) (s : State) : Answer :=
  let s1 := s.tick t
  let x := s1.lun lun.val
  match x.busy with
  | none => .next s1
  | some b =>
    match b.suspended, b.serving with
    | true, some o => .next ((s1.opDone lun.val o ok).serveNext lun.val b)
    | true, none => .next (s1.serveNext lun.val b)
    | false, _ => .next ((s1.setLun lun.val { x with busy := none }).opDone lun.val b.op ok)

/-- A read to be served during a suspension: not of the suspended block where the profile forbids it (R220). -/
def State.servable (s : State) (lun : Nat) (b : Busy) (o : LunOp) : Bool :=
  o.kind.isRead && (o.block ≠ b.op.block || (s.profile lun).elim false (·.readSuspendedBlock))

/-- Insertion in the order of R134. -/
def insertOp (o : LunOp) : List LunOp → List LunOp
  | [] => [o]
  | q :: t => if o.before q then o :: q :: t else q :: insertOp o t

/-- SUSPEND_REPORTED (R139, R140, R220): suspended, the LUN serves up to 0x2200.23 queued reads and then resumes;
complete, its operation has ended and no suspension counts. -/
def execSuspendReported (lun : Fin 4096) (suspended : Bool) (t : Nat) (s : State) : Answer :=
  let s1 := s.tick t
  let x := s1.lun lun.val
  match x.busy with
  | none => .next s1
  | some b =>
    if !b.asking ∨ b.suspended then .next s1
    else if suspended then
      let order := (x.queue.filter (s1.servable lun.val b)).foldr insertOp []
      let serve := order.take (s1.cfg Obj.suspendReads)
      let b1 := { b with asking := false, suspended := true, suspends := b.suspends + 1, ends := b.ends - s1.now, toServe := serve }
      let s2 := s1.setLun lun.val { x with queue := x.queue.filter (fun o => !(serve.any (·.id = o.id))), busy := some b1 }
      .next (s2.serveNext lun.val b1)
    else .next ((s1.setLun lun.val { x with busy := none }).opDone lun.val b.op true)

/-- A read whose die timed out twice is a read that fails (R219): its codewords go to Darning. -/
def State.readFails (s : State) (rd : Nat) : State :=
  match Tbl.find s.store.reads rd with
  | some r => (s.setRead rd { r.toDarning with arrived := true }).darnUnit rd false
  | none => s

/-- The operation that met a ready timeout (R219): a read or erase is issued once more, a program has failed. -/
def State.afterReset (s : State) (lun : Nat) (b : Busy) : State :=
  let x := s.lun lun
  match b.op.kind with
  | .read rd =>
    if b.retried then (s.setLun lun { x with busy := none }).readFails rd
    else s.setLun lun { x with busy := some { b with since := s.now, ends := s.now + s.opTime lun b.op, retried := true } }
  | .refill _ => s.setLun lun { x with busy := none }
  | .program k => (s.setLun lun { x with busy := none }).programFails k
  | .sample block =>
    if b.retried then (s.setLun lun { x with busy := none }).sampleRead lun block
    else s.setLun lun { x with busy := some { b with since := s.now, ends := s.now + s.opTime lun b.op, retried := true } }
  | .progSys _ _ => s.setLun lun { x with busy := none }
  | .progSeg nsid segment => (s.setLun lun { x with busy := none }).segmentWritten nsid segment lun b.op false
  | .parity id row => (s.setLun lun { x with busy := none }).parityDone lun b.op id row false
  | .progMember stripe member => (s.setLun lun { x with busy := none }).targetFails stripe member
  | .erase block =>
    if b.retried then (s.setLun lun { x with busy := none }).eraseFails lun block
    else s.setLun lun { x with busy := some { b with since := s.now, ends := s.now + s.opTime lun b.op, retried := true } }

/-- Reads that were to be served during a suspension go back to the queue. -/
def Busy.unserved (b : Busy) : List LunOp := b.serving.toList ++ b.toServe

/-- 10 s in ns: a LUN that times out again within this of its reset is lost (R219). -/
def resetAgain : Nat := 10000000000

/-- A ready timeout at a LUN (R219): Reset LUN; one that does not become ready, or times out again within 10 s of its
reset, is lost. -/
def State.lunTimeout (s : State) (lun : Nat) (resetReady : Bool) : State :=
  let x := s.lun lun
  match x.busy with
  | none => s
  | some b =>
    if !resetReady ∨ x.resetAt.elim false (fun r => s.now - r < resetAgain) then s.loseLun lun
    else
      let b1 := { b with asking := false, suspended := false, serving := none, toServe := [] }
      (s.setLun lun { x with queue := b.unserved ++ x.queue, resetAt := some s.now, busy := some b1 }).afterReset lun b1

/-- READY_TIMEOUT (R219). -/
def execReadyTimeout (lun : Fin 4096) (resetReady : Bool) (t : Nat) (s : State) : Answer :=
  .next ((s.tick t).lunTimeout lun.val resetReady).settleAll

/-- SUSPEND_TIMEOUT (R220): a LUN that reports neither state takes the ready timeout. -/
def execSuspendTimeout (lun : Fin 4096) (resetReady : Bool) (t : Nat) (s : State) : Answer :=
  let s1 := s.tick t
  if (s1.lun lun.val).busy.elim false (·.asking) then .next ((s1.lunTimeout lun.val resetReady).settleAll) else .next s1

/-- CHANNEL_PHY_FAULT (R213, R232): a fault of the PHY loses the channel. -/
def execChannelPhyFault (ch : Fin 64) (s : State) : Answer := .next ((s.loseChannel ch.val).settleAll)

/-! ### Latency contracts (R144, R145) -/

/-- Lowest rate of a channel in service. -/
def State.slowestRate (s : State) : Nat :=
  match (s.flash.channels.filter fun e => e.2.state = 1).map fun e => rateMts e.2.rate with
  | [] => 0
  | a :: t => t.foldl min a

/-- Bytes of a 4-plane read with spare (R134). -/
def fourPlaneBytes : Nat := 73728

/-- Controller share of R2 in ns: 12 µs, 17.2 µs in PS1, 26.7 µs in PS2 (R393). -/
def State.controllerNs (s : State) : Nat := if s.clockPct = 45 then 26700 else if s.clockPct = 70 then 17200 else 12000

/-- The slowest attached die class: that of the longest tR, and of equals the one of the longest tSUSP (log entry 126). -/
def State.slowest (s : State) : Option DieProfile :=
  s.attached.foldl (fun m p => match m with
    | none => some p
    | some q => if q.tR < p.tR ∨ (q.tR = p.tR ∧ q.tSusp < p.tSusp) then some p else some q) none

/-- Tfix in ns, of the slowest attached die class (R144). -/
def State.tFix (s : State) : Nat :=
  s.controllerNs + s.slowest.elim 0 (fun p => p.tSusp + p.tR) + ceilDiv (fourPlaneBytes * 1000) s.slowestRate
    + ceilDiv (codewordBytes * 1000) s.slowestRate

/-- Q of a bound in µs (R144). -/
def State.contractQ (s : State) (bound : Nat) : Int :=
  Int.fdiv ((1000 * bound : Nat) - (s.tFix : Int)) (max 1 (s.slowest.elim 0 (·.tR)) : Nat)

/-- 0x4nnn.26 of an instance. -/
def State.qValue (s : State) (n : Nat) : Nat :=
  let b := s.cfg Obj.contractBound n
  if b = 0 then 0 else let q := s.contractQ b; if q < 0 then 0xFFFF else min 0xFFFE q.toNat

/-- Every Q is computed anew (R147, R214, R393). -/
def State.recomputeQ (s : State) : State :=
  (s.dict.force.filter fun e => Obj.contractBound.covers e.1 || Obj.contractQ.covers e.1).foldl (fun a e =>
    let n := e.1 / 256 - 0x4000
    a.keep Obj.contractQ (a.qValue n) n) s

/-- Covered reads of a window (R145). -/
def windowReads : Nat := 1000000

/-- CONTRACT_WINDOW_END (R145): the percentile of 1,000,000 covered reads is shown, and the next window begins; above the bound
it is a miss. -/
def execContractWindowEnd (n : Fin 1024) (measured : Nat) (s : State) : Answer :=
  let bound := s.cfg Obj.contractBound n.val
  if bound = 0 ∨ Tbl.get 0 s.sched.windows n.val < windowReads then .next s
  else
    let s0 := { s with sched := { s.sched with
      windows := Tbl.set 0 s.sched.windows n.val (Tbl.get 0 s.sched.windows n.val - windowReads) } }
    let s1 := s0.keep Obj.contractMeasured measured n.val
    if bound < measured then .next ((s1.bump Obj.contractMiss 1 n.val).record 0x0402 [bound, measured] n.val)
    else .next s1

end Sys2Proof.Machine
end

