-- ==== Sys2Proof/Machine/Translation.lean ====
section
/-! DEFINITION. Slots to flash, journal, checkpoints, folding, Mangle, retirement, spares, secure discard, stripes and
replaced members (R170, R180 to R208, R214, R228, R231, R234). -/
namespace Sys2Proof.Machine

/-! ### Programs of slots (R182, R183, R185) -/

/-- MERGE_WAIT_EXPIRY (R182): a page-mapped slot that has waited 0x2400.05 since its first write is filled and programmed; zoned
slots do not wait so. -/
def execMergeWaitExpiry (slot t : Nat) (s0 : State) : Answer :=
  let s := s0.tick t
  match s.slot? slot with
  | none => .next s
  | some x =>
    if (s.ns? x.nsid).elim true (·.kind = .zoned) ∨ s.now < x.since + 1000 * s.cfg Obj.mergeWaitUs then .next s
    else .next (s.programSlot slot).settleAll

/-- 0x2430.07: flash units programmed per host unit, × 1,000. -/
def State.writeAmp (s : State) : State :=
  if s.store.unitsHost = 0 then s else s.keep Obj.writeAmp (1000 * s.store.unitsFlash / s.store.unitsHost)

/-- Content at a location. -/
def State.putStored (s : State) (loc : MapEntry) (u : Stored) : State :=
  { s with store := { s.store with media := Tbl.put s.store.media loc.key u, unitsFlash := s.store.unitsFlash + 1 } }.writeAmp

/-- Entry of SLC staging. -/
def MapEntry.isSlc : MapEntry → Bool
  | .flash slc _ _ _ _ _ _ => slc
  | .unmapped => false
  | .buffer _ => false
  | .uncorrectable => false

/-- A unit of a zone that Zone Finish has closed goes to its place at once, padded (R182). -/
def State.finishUnit (s : State) (k : Nat) (n : Ns) (z v : Nat) : State :=
  let y := n.zone z
  match y.stripe.bind s.stripe?, s.slot? k with
  | some t, some x =>
    if y.state = .full ∧ t.ended ∧ x.state = .filling then s.issueProgram k { x with mask := 15#4 } (t.entryOf false v) false else s
  | _, _ => s

/-- A zoned unit has been staged: it stays in its slot for its member row (R184). A copy that was written over meanwhile does not
hold all of the unit. -/
def State.stagedUnit (s : State) (k : Nat) (x : Slot) (n : Ns) (loc : MapEntry) : State :=
  let z := x.unit / s.zoneUnits n
  let v := x.unit % s.zoneUnits n
  let y := n.zone z
  let s1 := s.setSlot k { x with state := .filling, staged := if x.again then none else some loc, flight := none, again := false }
  let n1 := n.setZone z { y with staged := Tbl.put y.staged v loc }
  ((s1.setNs x.nsid n1).finishUnit k n1 z v).tryRow x.nsid z v

/-- The unit of a slot has programmed; one that was written meanwhile is programmed anew (R181, R183). -/
def State.unitDone (s : State) (k : Nat) (x : Slot) (loc : MapEntry) : State :=
  let s1 := (s.putStored loc (x.flight.getD (s.slotStored x))).doneSeq x.wseq
  match s1.ns? x.nsid with
  | none => s1
  | some n =>
    let s2 := if n.kind = .zoned ∧ loc.isSlc then s1.stagedUnit k x n loc
      else if x.again then (s1.setSlot k (x.refill loc)).programSlot k
      else s1.setSlot k { x with state := .programmed loc, flight := none }
    match s2.placeOf loc with
    | some (id, _, _) => s2.advanceParity id (s2.blockPages + s2.slcPages)
    | none => s2

/-- UNIT_PROGRAM_DONE (R183). A slot whose unit was reset meanwhile is given back. -/
def execUnitProgramDone (slot : Nat) (s : State) : Answer :=
  match s.slot? slot with
  | none => .next s
  | some x =>
    match x.state with
    | .programming loc =>
      if x.dead then
        .next (({ s with store := { s.store with slots := Tbl.del s.store.slots slot } }).doneSeq x.wseq).settleAll
      else .next (s.unitDone slot x loc).settleAll
    | .filling => .next s
    | .fillRead => .next s
    | .programmed _ => .next s

/-- PROGRAM_FAILURE (R185, R201). -/
def execProgramFailure (slot : Nat) (s : State) : Answer := .next (s.programFails slot).settleAll

/-! ### Journal (R186 to R190) -/

/-- JOURNAL_TIMER_EXPIRY (R188): the open page closes 0x2410.02 after its first record. -/
def execJournalTimerExpiry (t : Nat) (s : State) : Answer :=
  let s1 := s.tick t
  if s1.cfg Obj.journalTimerUs * 1000 ≤ s1.now - s1.store.journal.since then .next s1.closePage else .next s1

/-- Pages become durable in PAGE_SEQ order, each once both its copies have programmed. -/
def Journal.advance (j : Journal) : Nat → Journal
  | 0 => j
  | fuel + 1 =>
    if j.pages.any (fun p => p.seq = j.durable && 2 ≤ p.copies) then { j with durable := j.durable + 1 }.advance fuel else j

/-- The durable copy of the SAVED values that the device keeps itself becomes some values (R435). -/
def State.keepDurable (s : State) (kept : Tbl Nat) : State :=
  { s with dict := { s.dict with
    durable := Tbl.over (s.dict.durable.filter fun e => !((Obj.rowOf e.1).elim false ObjRow.kept)) kept } }

/-- What the last durable page carries: the namespace table (R190), and SAVED values (R435). -/
def State.journalEffects (s : State) (p : JPage) : State :=
  { s with store := { s.store with durableNs := p.nss } }.keepDurable p.kept

/-- JOURNAL_PAGE_DURABLE (R188): both copies of a page have programmed; Flush and FUA writes that waited go on. -/
def execJournalPageDurable (seq : Nat) (s : State) : Answer :=
  let j := s.store.journal
  let pages := j.pages.map fun p => if p.seq = seq && !p.stuck then { p with copies := 2 } else p
  let j1 := { j with pages := pages }.advance pages.length
  if j1.durable = j.durable then .next (s.setJournal j1)
  else
    let s1 := (s.setJournal j1).keep Obj.pageSeq (j1.durable - 1)
    match pages.find? fun p => p.seq + 1 = j1.durable with
    | some p => .next (s1.journalEffects p).settleAll
    | none => .next s1.settleAll

/-- A Flush or FUA write that needs a page that will never be durable ends with Write Fault (R117, R188). -/
def State.failWaiters (s : State) (seq : Nat) : State :=
  let needs := fun (c : Ctx) =>
    c.wait = .durable && c.done.isNone && (seq < c.page
      || s.store.slots.any fun e => (c.coversSlot e.2 || c.need.contains (e.2.nsid, e.2.unit)) && seq < e.2.page)
  (s.host.ctxs.filter needs).foldl (fun a c => a.finish c.hdr (Cpl.of .writeFault)) s

/-- JOURNAL_COPY_FAILURE (R188): the copy goes to another system block; at its fourth failure READ-ONLY, cause 2; with no block
left the page stays unwritten. Each block that fails is replaced from the spare pool (R201). -/
def execJournalCopyFailure (seq : Nat) (copy : Fin 2) (blockLeft : Bool) (s : State) : Answer :=
  let j := s.store.journal
  match j.pages.find? (·.seq = seq) with
  | none => .next s
  | some p =>
    let n := (if copy.val = 0 then p.fails.1 else p.fails.2) + 1
    let fails := if copy.val = 0 then (n, p.fails.2) else (p.fails.1, n)
    let bad := p.places[copy.val]?
    let s0 := bad.elim ((s.bump Obj.blocksRetired).takeSpares 1) fun m => s.retireSystem m.1 m.2
    let again := bad.map fun m => (m.1, s0.sysBlock m.1 (seq + n))
    let s1 := s0.setJournal { s0.store.journal with
      pages := s0.store.journal.pages.map fun q =>
        if q.seq = seq then
          { q with
            fails := fails
            stuck := q.stuck || !blockLeft
            places := again.elim q.places fun m => q.places.set copy.val m }
        else q }
    let s2 := if n = 4 then s1.setRoCause 2 else s1
    if !blockLeft then .next (s2.failWaiters seq)
    else match again with
      | some m => .next ((s2.useSystem m).enqueue m.1 (.progSys seq copy.val) .sys m.2 true)
      | none => .next s2

/-- Entries of a segment of a namespace. -/
def Ns.segment (x : Ns) (seg : Nat) : Tbl MapEntry := x.map.filter fun e => segmentOf e.1 = seg

/-- An entry as a segment copy holds it: that of a unit in a slot is where its last program put it or puts it, else its former
place; with it the former place, should that program not have been done (R209; DEDUCED, log entry 127). -/
def State.copyEntry (s : State) : MapEntry → MapEntry × Option MapEntry
  | .buffer k =>
    match s.slot? k with
    | some x => match x.state with
      | .programmed loc => (loc, none)
      | .programming loc => (loc, some x.prev)
      | .filling => (x.prev, none)
      | .fillRead => (x.prev, none)
    | none => (.unmapped, none)
  | .unmapped => (.unmapped, none)
  | .uncorrectable => (.uncorrectable, none)
  | .flash slc ch ce lun plane block page => (.flash slc ch ce lun plane block page, none)

/-- The journal would exceed 0x2410.01 (R190). -/
def State.journalFull (s : State) : Bool := s.cfg Obj.journalBytes ≤ 16384 * s.store.journal.pages.length

/-- No other segment in effect has an older snapshot (R190). -/
def Journal.oldest (j : Journal) (nsid segment : Nat) : Bool :=
  let mine := fun (c : SegCopy) => c.nsid = nsid && c.segment = segment
  let at_ := fun (c : SegCopy) => ((j.copies.filter mine).map (·.snapshot)).foldl max 0 ≤ c.snapshot
  (j.copies.filter (·.inEffect)).all at_

/-- A pass over the changed segments begins when its interval has ended (R127, R190). Zone tables and the namespace table, NSID 0,
are in every pass. -/
def State.beginPass (s : State) : State :=
  if s.isDue Periodic.checkpoint ∧ s.store.journal.pass = [] then
    let zoned := (s.store.ns.filter fun (e : Nat × Ns) => e.2.kind = .zoned).map fun e => (e.1, 0)
    (s.setJournal { s.store.journal with pass := s.store.journal.changed ++ zoned ++ [(0, 0)] }).taskDone Periodic.checkpoint
      (1000000000 * s.cfg Obj.ckptPassS)
  else s

/-- A copy of a segment, of a zone table or of the namespace table is taken with the PAGE_SEQ of the open page, and its program
joins a LUN ahead of every class (R188, R190). -/
def State.copySegment (s : State) (nsid segment : Nat) : State :=
  let j := s.store.journal
  let x := s.ns? nsid
  let entries := x.elim [] fun n => (n.segment segment).map fun e => (e.1, s.copyEntry e.2)
  let place := (s.sysPlaces (j.next + j.copies.length)).head?
  let c : SegCopy :=
    { nsid := nsid, segment := segment, snapshot := j.next, entries := entries.map fun e => (e.1, e.2.1)
      zones := x.elim [] fun n => if n.kind = .zoned then n.zones else []
      former := entries.filterMap fun e => e.2.2.map fun o => (e.1, o)
      nss := if nsid = 0 then s.nsTable else []
      place := place.elim .unmapped fun m => entryAt true m 0 0, fails := 0, page := 0, inEffect := false }
  let s1 := s.setJournal { j with
    changed := j.changed.filter (· ≠ (nsid, segment))
    pass := j.pass.filter (· ≠ (nsid, segment))
    copies := j.copies ++ [c] }
  match place with
  | some m => (s1.useSystem m).enqueue m.1 (.progSeg nsid segment) .sys m.2 true
  | none =>
    s1.segmentWritten nsid segment 0
      { id := 0, kind := .progSeg nsid segment, cls := .sys, age := 0, frame := 0, block := 0, tokens := 0, waited := false
        slc := true } true

/-- CHECKPOINT_PASS (R127, R190): a segment of the present pass, or while the journal would exceed its size the changed one with
the oldest snapshot, or in an entry to PS4 any changed one (R343), is copied, unless a copy of it is being written. -/
def execCheckpointPass (nsid segment t : Nat) (s : State) : Answer :=
  let s1 := (s.tick t).beginPass
  let j := s1.store.journal
  let chosen := j.pass.contains (nsid, segment) || (s1.journalFull && j.changed.contains (nsid, segment) && j.oldest nsid segment)
    || (s1.power.entry.isSome && s1.power.target = 4 && j.changed.contains (nsid, segment))
  let busy := j.copies.any fun c => c.nsid = nsid && c.segment = segment && c.page = 0
  if chosen ∧ !busy then .next (s1.copySegment nsid segment) else .next s1

/-- System blocks that no page and no copy lies in any more are freed, and erased (R190). -/
def State.releaseSystem (s : State) (ms : List (Nat × Nat)) : State :=
  let j := s.store.journal
  let used := fun (m : Nat × Nat) => j.pages.any (fun p => p.places.contains m)
    || j.copies.any fun c => c.place.lun? = some m.1 && c.place.block? = some m.2
  ((ms.eraseDups).filter fun m => !(used m)).foldl (fun a m =>
    (a.setBlock m.1 m.2 { a.block m.1 m.2 with system := false }).queueErase m.1 m.2) s

/-- The system block of a copy. -/
def SegCopy.block (c : SegCopy) : List (Nat × Nat) :=
  match c.place.lun?, c.place.block? with
  | some l, some b => [(l, b)]
  | some _, none => []
  | none, _ => []

/-- SEGMENT_COPY_DURABLE (R190): a copy whose CKPT record is durable takes effect, the system blocks of its previous copy are
freed, and so are those of pages older than CKPT_BASE. -/
def execSegmentCopyDurable (nsid segment : Nat) (s : State) : Answer :=
  let j := s.store.journal
  let mine := fun (c : SegCopy) => c.nsid = nsid && c.segment = segment
  match j.copies.find? (fun c => mine c && !c.inEffect && 0 < c.page && s.pageDurable c.page) with
  | none => .next s
  | some c =>
    let copies := (j.copies.filter fun d => !(mine d && d.snapshot ≤ c.snapshot)) ++ [{ c with inEffect := true }]
    let j1 := { j with copies := copies }
    let base := j1.base
    let stays := fun (p : JPage) => base ≤ p.seq || j1.durable ≤ p.seq
    let gone := (j.copies.filter fun d => mine d && d.snapshot < c.snapshot).flatMap SegCopy.block
      ++ (j1.pages.filter fun p => !(stays p)).flatMap (·.places)
    let s1 := (s.setJournal { j1 with pages := j1.pages.filter stays }).releaseSystem gone
    .next { s1 with mem := { s1.mem with replayed := s1.mem.replayed.filter (· ≠ (nsid, segment)) } }.settleRecovery

/-! ### Folding and Mangle (R192 to R200) -/

/-- A source stripe is to be copied: Mangle asks for its claims (R237). -/
def State.addSource (s : State) (id : Nat) : State :=
  match s.stripe? id with
  | none => s
  | some t =>
    if s.store.mangling.contains id then s
    else
      let s1 := { s with store := { s.store with mangling := s.store.mangling ++ [id] } }
      t.members.foldl (fun a m => if (a.lun m.1).state = .active then a.requestClaim claimMangle m.1 m.2 else a) s1

/-- FOLD_START (R193): folding starts at 0x2420.03, or once no host write chunk has waited for one frame, and stops below half of
it; the oldest staging stripe is taken, one of a dump's units among them (R191). -/
def execFoldStart (s : State) : Answer :=
  let used := s.stagingUsed
  let mark := s.cfg Obj.foldStartPct
  if s.store.folding ∧ 2 * used < mark then .next { s with store := { s.store with folding := false } }
  else if mark ≤ used ∨ (s.sched.writeIdle ∧ !(s.writeWaiting)) ∨ s.store.folding then
    let s1 := { s with store := { s.store with folding := true } }
    match s.store.stripes.find? (fun e => e.2.slc && e.2.ended && !(s.store.mangling.contains e.1)) with
    | some e => .next (s1.addSource e.1)
    | none => .next s1
  else .next s

/-- A stripe Mangle may take in a group: closed, QLC, page-mapped (R196). -/
def Stripe.victimUse (t : Stripe) : Bool :=
  match t.use with
  | .ns _ _ => true
  | .mangle => true
  | .fold _ => true
  | .worn => true
  | .zone _ _ => false
  | .staging => false
  | .dump => false

/-- Mean erase count of a stripe's blocks, as a sum. -/
def State.wearOf (s : State) (t : Stripe) : Nat := (t.members.map fun m => (s.block m.1 m.2).erases).sum

/-- Spread of erase counts over a group's stripe-available blocks (R199). -/
def State.wearSpread (s : State) (g : Nat) : Nat :=
  let es := (s.groupLuns g).flatMap fun l =>
    (s.goodBlocks l (systemBlocks + s.stagingBlocks) 4096).map fun b => (s.block l b).erases
  match es with
  | [] => 0
  | a :: t => t.foldl max a - t.foldl min a

/-- The first of a list with the least measure. -/
def leastBy (f : Nat × Stripe → Nat) : List (Nat × Stripe) → Option (Nat × Stripe)
  | [] => none
  | e :: t => match leastBy f t with
    | none => some e
    | some d => if f e ≤ f d then some e else some d

/-- The victim of a group (R196, R199, R201): a retired block's stripe, a secure-pending one, the least worn when wear
spreads, else the one with fewest valid units, the oldest of equals. -/
def State.victim (s : State) (g : Nat) : Option Nat :=
  let urgentGroup := s.freeBp g < s.cfg Obj.gcUrgentBp
  let all := s.store.stripes.filter fun e => e.2.group = g && !(s.store.mangling.contains e.1)
  let closed := all.filter fun e => e.2.victimUse && e.2.closedAt.isSome
  let first := all.find? fun e => s.store.urgent.contains e.1 && e.2.victimUse
  let secure := closed.find? fun e => e.2.secure
  let worn := if s.cfg Obj.wearSpread < s.wearSpread g then leastBy (fun e => s.wearOf e.2) closed else none
  let old := closed.filter fun e =>
    urgentGroup || s.cfg Obj.gcMinAgeS * 1000000000 ≤ s.now - e.2.closedAt.getD 0
  let fewest := match leastBy (fun e => (s.unitsIn e.1).length) old with
    | some e => leastBy (fun d => d.2.closedAt.getD 0) (old.filter fun d => (s.unitsIn d.1).length = (s.unitsIn e.1).length)
    | none => none
  ((((first.or secure).or worn).or (if s.freeBp g < s.cfg Obj.gcHighBp then fewest else none))).map (·.1)

/-- Mangle is at work in a group. -/
def State.mangleBusy (s : State) (g : Nat) : Bool :=
  s.store.mangling.any fun i => (s.stripe? i).elim false fun t => t.group = g && !t.slc

/-- A victim of wear levelling is copied into a target of its own (R199). -/
def State.noteWear (s : State) (id : Nat) (wear : Bool) : State :=
  (s.stripe? id).elim s fun t => s.setStripe id { t with wear := wear }

/-- MANGLE_START (R195, R196): Mangle runs in a group below 0x2430.02 and goes on up to 0x2430.03; retired,
secure-pending and wear victims are taken at any level. In RECOVERY it runs only below 0x2430.04 (L10 of R376). -/
def execMangleStart (group : Nat) (s : State) : Answer :=
  let bp := s.freeBp group
  if !s.bgOpen ∨ (s.has Mode.recovery ∧ s.cfg Obj.gcUrgentBp ≤ bp) then .next s
  else
    match s.victim group with
    | none => .next s
    | some id =>
      let due := bp < s.cfg Obj.gcLowBp || (s.mangleBusy group && bp ≤ s.cfg Obj.gcHighBp)
      let ahead := s.store.urgent.contains id || (s.stripe? id).elim false (·.secure)
      let wear := !ahead && s.cfg Obj.wearSpread < s.wearSpread group
      if due ∨ ahead ∨ wear then .next ((s.noteWear id wear).addSource id) else .next s

/-- A source whose claims Mangle holds is copied: one chunk for each valid unit (R193, R197). One with 8 restarts is set
aside for this boundary (R200). -/
def State.startSource (s : State) (id : Nat) : State :=
  match s.stripe? id with
  | none => { s with store := { s.store with mangling := s.store.mangling.filter (· ≠ id) } }
  | some t =>
    if t.copying then s
    else if 8 ≤ t.restarts then s.setStripe id { t with restarts := 0 }
    else if s.claimed t claimMangle then
      let s1 := s.setStripe id { t with copying := true, relocPage := s.lastPage }
      (s.unitsIn id).foldl (fun a u => a.queueBg .reclaim (.copy id u.1 u.2.1) (4 * 1024) 1024) s1
    else t.members.foldl (fun a m => if (a.lun m.1).state = .active then a.requestClaim claimMangle m.1 m.2 else a) s

def State.startSources (s : State) : State := s.store.mangling.foldl State.startSource s

/-- Operations queued at the LUNs of a group, the fewest at one of them: the measure of its earliest free program slot (R193; log
entry 128). -/
def State.groupLoad (s : State) (g : Nat) : Nat :=
  match (s.groupLuns g).map fun l => (s.lun l).queue.length + (s.lun l).busy.toList.length with
  | [] => 0
  | a :: t => t.foldl min a

def insertGroup (s : State) (g : Nat) : List Nat → List Nat
  | [] => [g]
  | h :: t => if s.groupLoad g ≤ s.groupLoad h then g :: h :: t else h :: insertGroup s g t

/-- Target of a copied unit: use, width, Q page and groups (R193, R197, R199, R224). -/
def State.copyTarget (s : State) (t : Stripe) (u : Stored) (n : Ns) : StripeUse × Nat × Bool × List Nat :=
  if t.slc then
    if n.kind = .flexible then (.ns 0 u.handle, n.width, n.word.qParity, [u.handle / 1024])
    else (.fold u.nsid, n.width, n.word.qParity, (List.range s.groups.length).foldr (insertGroup s) [])
  else (if t.wear then .worn else .mangle, n.width, n.word.qParity, [t.group])

/-- A decoded unit of a source is programmed into its target stripe, unchanged but for its strength (R193, R197). With
no place to be had it is read again later. -/
def State.placeCopy (s : State) (source nsid unit : Nat) (src : MapEntry) : State :=
  match s.stripe? source, Tbl.find s.store.media src.key, s.ns? nsid with
  | some t, some u, some n =>
    let (use, w, q, gs) := s.copyTarget t u n
    match s.placeFirst use w q gs with
    | none => s.queueBg .reclaim (.copy source nsid unit) 0 0
    | some (id, pos, s1) =>
      match s1.stripe? id with
      | none => s
      | some d =>
        let dst := d.entryOf false pos
        let s2 := s1.setStripe id { d with
          sources := if d.sources.contains source then d.sources else d.sources ++ [source]
          moved := d.moved ++ [(nsid, unit, src, dst)] }
        (s2.putStored dst u).enqueue (dst.lun?.getD 0)
          (.progMember id (unitMember d.w pos)) .program (dst.block?.getD 0) false
  | _, _, _ => s

/-- One moved unit: the entry is replaced only if it still names the source, with a RELOC record (R198, R208). -/
def State.relocate (s : State) (m : Nat × Nat × MapEntry × MapEntry) : State :=
  match s.ns? m.1 with
  | none => s
  | some x =>
    if x.entry m.2.1 = m.2.2.1 then
      ((s.setUnit m.1 m.2.1 m.2.2.2).journal (.reloc (m.1 - 1) m.2.1 m.2.2.2)).bump Obj.mangleUnits
    else s

/-- Units placed in a stripe; in a zone's, those below its write pointer (R175). -/
def State.unitsPlaced (s : State) (t : Stripe) : Nat :=
  match t.use with
  | .zone nsid z => (s.ns? nsid).elim 0 fun n => ceilDiv (n.zone z).wp 4
  | .ns _ _ => t.next
  | .mangle => t.next
  | .fold _ => t.next
  | .staging => t.next
  | .dump => t.next
  | .worn => t.next

/-- The parity of every row of a stripe that holds a unit has programmed. -/
def State.parityAll (s : State) (id : Nat) : State :=
  match s.stripe? id with
  | none => s
  | some t =>
    (List.range (ceilDiv (s.unitsPlaced t) t.rowUnits)).foldl (fun a r => match a.stripe? id with
      | some u => if r < u.parityRows then a else a.parityRow id u r
      | none => a) s

/-- A stripe closes: BLOCK records, the moment (R228). -/
def State.closeStripe (s : State) (id : Nat) : State :=
  match (s.parityAll id).stripe? id with
  | none => s
  | some t =>
    let s1 := (s.parityAll id).setStripe id { t with ended := true, closedAt := some s.now }
    t.members.foldl (fun a m => a.journal (.block 2 m.1 m.2 (a.block m.1 m.2).erases)) s1

/-- TARGET_STRIPE_COMPLETE (R198): the target's last page has programmed; the map is updated. -/
def execTargetStripeComplete (stripe : Nat) (s : State) : Answer :=
  match s.stripe? stripe with
  | none => .next s
  | some t =>
    if t.moved = [] ∨ t.closedAt.isSome then .next s
    else
      let s1 := t.moved.foldl State.relocate (s.closeStripe stripe)
      let s2 := t.sources.foldl (fun a i => match a.stripe? i with
        | some q => a.setStripe i { q with relocPage := a.lastPage }
        | none => a) s1
      let s3 := match s2.stripe? stripe with
        | some u => s2.setStripe stripe { u with moved := [], sources := [] }
        | none => s2
      .next s3.settleAll

/-- TARGET_PROGRAM_FAILURE (R200). -/
def execTargetProgramFailure (stripe : Nat) (member : Nat) (s : State) : Answer := .next (s.targetFails stripe member)

/-- A read, a slot's previous entry or a zoned unit's staged copy still names a block of a stripe (R184, R198). -/
def State.stripeRead (s : State) (id : Nat) : Bool :=
  let names := fun (e : MapEntry) => (s.placeOf e).elim false (·.1 = id)
  s.store.reads.any (fun e => names e.2.entry) || s.store.slots.any fun e => names e.2.prev || names (e.2.staged.getD .unmapped)

/-- A source may be erased (R198): no valid unit, its last RELOC durable, no read through an old entry, no claim but
Mangle's own. -/
def State.eraseReady (s : State) (id : Nat) (t : Stripe) : Bool :=
  (t.victimUse || t.slc)
    && s.unitsIn id = [] && s.pageDurable t.relocPage && !(s.stripeRead id)
    && t.members.all fun m => (s.block m.1 m.2).claim.elim true (· = claimMangle)

/-- SOURCE_STRIPE_ERASE (R198): Mangle releases its claims and the blocks are queued for erase. -/
def execSourceStripeErase (stripe : Nat) (s : State) : Answer :=
  match s.stripe? stripe with
  | none => .next s
  | some t =>
    if t.ended ∧ s.eraseReady stripe t then
      let s1 := s.giveUpStripe stripe false
      let s2 := { s1 with store := { s1.store with
        mangling := s1.store.mangling.filter (· ≠ stripe)
        urgent := s1.store.urgent.filter (· ≠ stripe) } }
      .next (if t.secure then s2.drop1 Obj.sdPending else s2)
    else .next s

/-- Blocks that wait for an erase join their LUN's queue once, while the modes permit it (R122, R134), or a block erase
sanitize has destroyed its keys (R365). -/
def State.queueErases (s : State) : State :=
  if s.bgOpen ∨ s.admin.sanitize.any (fun z => z.action = 2 && z.keysGone) then
    s.store.erases.foldl (fun a e =>
      let x := a.lun e.1
      let queued := x.queue.any (fun o => o.kind = .erase e.2) || x.busy.elim false (fun b => b.op.kind = .erase e.2)
      if queued ∨ x.state ≠ .active then a else a.enqueue e.1 (.erase e.2) .erase e.2 false) s
  else s

/-- ERASE_FAILURE (R201). -/
def execEraseFailure (lun : Fin 4096) (block : Nat) (s : State) : Answer := .next (s.eraseFails lun.val block).settleAll

/-- The erase of a block is no longer queued at its LUN, nor runs there. -/
def State.unqueueErase (s : State) (lun block : Nat) : State :=
  let x := s.lun lun
  s.setLun lun { x with
    queue := x.queue.filter fun o => o.kind ≠ .erase block
    busy := if x.busy.any (fun b => b.op.kind = .erase block) then none else x.busy }

/-- SECURE_ERASE_DUE (R170): a block that a Secure Reset queued, and that no erase has reached when 0x2480.09 seconds in which the
modes permit erase have passed, is erased, or retired. -/
def execSecureEraseDue (lun : Fin 4096) (block : Nat) (ok : Bool) (t : Nat) (s0 : State) : Answer :=
  let s := s0.tick t
  match s.store.secureDue.find? fun e => (e.1, e.2.1) = (lun.val, block) with
  | none => .next s
  | some e =>
    if s.erasePermitted ∧ e.2.2 + 1000000000 * s.cfg Obj.secureEraseS ≤ s.store.eraseClock then
      let s1 := s.unqueueErase lun.val block
      .next (if ok then s1.blockErased lun.val block else s1.eraseFails lun.val block)
    else .next s

/-- A write of blocks to the spare pool (R204): within the stripe-available blocks that no namespace has reserved.
READ-ONLY with cause 1 ends when the pool holds 1 % of its initial count. -/
def State.addSpares (s : State) (count : Nat) : Option State :=
  if count ≤ s.unreservedBlocks then
    let s1 := { s with store := { s.store with movedToSpares := s.store.movedToSpares + count } }
    let n := s1.cfg Obj.spareRemaining + count
    let s2 := s1.save Obj.spareRemaining n
    some (if s2.cfg Obj.roCause = 1 ∧ s2.cfg Obj.spareInitial ≤ 100 * n then (s2.save Obj.roCause 0).leaveReadOnly 6 else s2)
  else none

/-- SPARE_ADD (R204): a manager or the port writes 0x2440.08; a count too high is refused. -/
def execSpareAdd (acc : Accessor) (count : Nat) (s : State) : Answer :=
  match acc with
  | .inst _ => .next s
  | .pf0 => .next ((s.addSpares count).getD s)
  | .pf1 => .next ((s.addSpares count).getD s)
  | .port => .next ((s.addSpares count).getD s)

/-- SECURE_DISCARD_DUE (R206): a stripe that has been secure-pending for 0x2450.01 seconds, counted as R170 counts, is taken by
Mangle now; one without a valid unit is erased. -/
def execSecureDiscardDue (stripe t : Nat) (s0 : State) : Answer :=
  let s := s0.tick t
  match s.stripe? stripe with
  | none => .next s
  | some q =>
    if !q.secure ∨ s.store.eraseClock < q.secureAt + 1000000000 * s.cfg Obj.sdBoundS then .next s
    else if s.unitsIn stripe = [] then execSourceStripeErase stripe (s.setStripe stripe { q with ended := true })
    else .next ((s.setStripe stripe q.stopped).addSource stripe)

/-! ### Stripes and members (R228, R234) -/

/-- A slot's program into a stripe is not done. -/
def State.stripeBusy (s : State) (id : Nat) : Bool :=
  s.store.slots.any fun e => match e.2.state with
    | .programming loc => (s.placeOf loc).elim false (·.1 = id)
    | .filling => false
    | .fillRead => false
    | .programmed _ => false

/-- STRIPE_CLOSE (R228): the parity program of the last written row has completed; a partial row is padded. -/
def execStripeClose (stripe : Nat) (s : State) : Answer :=
  match s.stripe? stripe with
  | none => .next s
  | some t =>
    if !t.ended ∨ t.closedAt.isSome ∨ s.stripeBusy stripe then .next s else .next (s.closeStripe stripe).settleAll

/-- Units placed in a stripe lie on a member: (location there, location on the replacement block). -/
def State.memberMoves (s : State) (t : Stripe) (m lun block : Nat) : List (MapEntry × MapEntry) :=
  (s.memberUnits t m).map fun u =>
    (t.entryOf t.slc u, entryAt t.slc (lun, block) (unitPos t.w u % planes) (unitPos t.w u / planes))

/-- Content of a lost member, rebuilt at the replacement block. -/
def State.rebuildMedia (s : State) (moves : List (MapEntry × MapEntry)) : State :=
  moves.foldl (fun a m => match Tbl.find a.store.media m.1.key with
    | some u => a.putStored m.2 u
    | none => a) s

/-- Zoned units that waited for the member are programmed (R175). -/
def State.resumeZone (s : State) (nsid z m : Nat) : State :=
  match s.ns? nsid with
  | none => s
  | some n =>
    (n.zone z).slots.foldl (fun a e =>
      if unitMember n.width e.1 = m then a.tryRow nsid z e.1 else a) s

/-- The map names the replacement block (R234): a RELOC for each valid unit of a page-mapped stripe, one for a zoned. -/
def State.renameMember (s : State) (id m lun block : Nat) (t : Stripe) (moves : List (MapEntry × MapEntry)) : State :=
  match t.use with
  | .zone nsid z => (s.journal (.reloc (nsid - 1) (z * 64 + m) (entryAt false (lun, block) 0 0))).resumeZone nsid z m
  | _ =>
    (s.unitsIn id).foldl (fun a u => match moves.find? (fun v => v.1 = u.2.2) with
      | some v => (a.setUnit u.1 u.2.1 v.2).journal (.reloc (u.1 - 1) u.2.1 v.2)
      | none => a) s

/-- A task gives up its claims on the members of a stripe. -/
def State.dropStripeClaims (s : State) (t : Stripe) (task : Nat) : State :=
  t.members.foldl (fun a m => if (a.block m.1 m.2).claim = some task then
    a.setBlock m.1 m.2 { a.block m.1 m.2 with claim := none } else a) s

/-- The old block of a replaced member: a lost one is left as it is, a refreshed one is erased (R234, R254). -/
def State.retireMember (s : State) (stripe member : Nat) (t : Stripe) : State :=
  let old := t.members.getD member (0, 0)
  if t.lost.contains member then
    let s1 := s.setBlock old.1 old.2 { s.block old.1 old.2 with stripe := none }
    (((s1.dropStripeClaims t claimDarning).dropReplacement (stripe, member)).bump Obj.darnReplaced).settleDegraded
  else
    let s1 := (s.queueErase old.1 old.2).dropStripeClaims t claimRinse
    { s1 with store := { s1.store with
        replacing := s1.store.replacing.filter fun r => !(r.1 = stripe && r.2.1 = member) } }.bump Obj.refreshed

/-- MEMBER_REPLACED (R234, R236, R254): the replacement block has fully programmed. -/
def execMemberReplaced (stripe : Nat) (member : Nat) (s : State) : Answer :=
  match s.stripe? stripe, s.store.replacing.find? (fun r => r.1 = stripe && r.2.1 = member) with
  | some t, some (_, _, lun, block) =>
    let moves := s.memberMoves t member lun block
    let s1 := (s.rebuildMedia moves).setStripe stripe { t with
      members := t.members.set member (lun, block)
      lost := t.lost.filter (· ≠ member) }
    .next ((s1.renameMember stripe member lun block t moves).retireMember stripe member t).settleAll
  | _, _ => .next s

/-! ### Channels and read-around (R214, R231) -/

/-- Window in 1/64 UI steps that a percentage of UI asks for (R213). -/
def windowSteps (pct : Nat) : Nat := ceilDiv (pct * 64) 100

/-- CHANNEL_RECENTRE (R214): after 0x2300.03 °C of movement; a window below the threshold drops an extended channel to
rate 4, with a record. -/
def execChannelRecentre (ch : Fin 64) (celsius : Int) (window : Nat) (s : State) : Answer :=
  match Tbl.find s.flash.channels ch.val with
  | none => .next s
  | some c =>
    if c.state ≠ 1 ∨ (celsius - c.trainedAt).natAbs < s.cfg Obj.chRecentreDeg then .next s
    else
      let low := c.rate = 5 && window < windowSteps (s.cfg Obj.extMinEye)
      let c1 := { c with trainedAt := celsius, rate := if low then 4 else c.rate }
      let s1 := { s with flash := { s.flash with channels := Tbl.put s.flash.channels ch.val c1 } }
      .next (if low then s1.record 0x0701 [ch.val, 4] else s1)

/-- Payloads of the other members, codeword by codeword: their XOR is the codeword (R141, R226). -/
def aroundData (w : Nat) (payloads : List Payload) (cw : Nat) : LbaData :=
  (parityP ((payloads.drop (cw * w)).take w)).setWidth 32768

/-- The host metadata of the codeword, the low bits of its metadata area (R244). -/
def aroundMeta (w : Nat) (payloads : List Payload) (cw : Nat) : HostMeta :=
  (parityP ((payloads.drop (cw * w)).take w)).extractLsb' 32768 128

/-- The original read is removed from its LUN's queue. -/
def State.unqueueRead (s : State) (lun rd : Nat) : State :=
  let x := s.lun lun
  s.setLun lun { x with queue := x.queue.filter fun o => o.kind ≠ .read rd }

/-- READ_AROUND_RECONSTRUCT (R142, R231): with every member decoded, the XOR is the unit's data and the original read is
dropped, unless that read has decoded first; a member that failed abandons the read-around. -/
def execReadAroundReconstruct (rd : Nat) (ok : Bool) (payloads : List Payload) (s : State) : Answer :=
  match Tbl.find s.store.reads rd with
  | none => .next s
  | some r =>
    let members := s.store.reads.filter fun e => e.2.serves = .member rd
    let s1 := { s with store := { s.store with reads := s.store.reads.filter fun e => e.2.serves ≠ .member rd } }
    if r.around.isNone then .next s1
    else if !ok ∨ r.steps.all (· = .decoded) then .next (s1.setRead rd { r with around := none })
    else
      let w := members.length
      let need := maskLbas r.mask
      let data := (List.range 4).map fun i => if r.mask.getLsbD i then aroundData w payloads (need.idxOf i) else 0
      .next ((s1.setRead rd { r with
        around := none
        arrived := true
        steps := r.steps.map fun _ => .decoded
        source := 2
        data := data
        metas := (List.range 4).map fun i =>
          if r.mask.getLsbD i then aroundMeta w payloads (need.idxOf i) else 0 }).unqueueRead (r.entry.lun?.getD 0) rd)

end Sys2Proof.Machine
end

