-- ==== Sys2Proof/Machine/Reads.lean ====
section
/-! DEFINITION. Media reads after the die has delivered: the decode ladder of each codeword, and the end of a read
towards commands, fills and copies (R246 to R250). -/
namespace Sys2Proof.Machine

/-- The mask of the codewords of a read at a step that a test selects. -/
def MediaRead.maskOf (r : MediaRead) (p : LadderStep → Bool) : BitVec 4 :=
  (List.range 4).foldl (fun (m : BitVec 4) i => if p (r.steps.getD i .decoded) then m ||| (1#4 <<< i) else m) 0

/-- Codewords that no step decoded. -/
def MediaRead.lostMask (r : MediaRead) : BitVec 4 := r.maskOf (· = .lost)

/-- Every codeword has decoded or is lost. -/
def MediaRead.climbed (r : MediaRead) : Bool := r.steps.all fun e => e = .decoded || e = .lost

/-- The stored unit a read reads, if flash still holds it. -/
def State.readUnit (s : State) (r : MediaRead) : Option Stored := Tbl.find s.store.media r.entry.key

/-- Marks of a read's LBAs: marked in store, lost, or in an authenticated unit of which a codeword is lost (R250). -/
def State.readBad (s : State) (r : MediaRead) : BitVec 4 :=
  match s.readUnit r with
  | none => 15#4
  | some u => u.bad ||| (if u.gcm ∧ r.lostMask ≠ 0 then 15#4 else r.lostMask)

/-- LBAs of a read as stored, or as reconstructed by read-around (R231). -/
def State.readLbas (s : State) (r : MediaRead) : List LbaData :=
  if r.data = [] then (s.readUnit r).elim [] (·.lbas) else r.data

/-- Metadata of a read's LBAs, as stored or as reconstructed. -/
def State.readMetas (s : State) (r : MediaRead) : List HostMeta :=
  if r.data = [] then (s.readUnit r).elim [] (·.metas) else r.metas

/-- One LBA as a command's key tag decrypts it: its data under the key it was written with, unpredictable data under
another (R273, R287). -/
def State.plainLba (s : State) (nsid : Nat) (tag : Option Nat) (stored : Option Nat) (d : LbaData) : LbaData × State :=
  if tag.bind (s.kpioKey nsid) = stored then (d, s) else s.drawData

/-- LBAs of a unit as a command's key tag decrypts them. -/
def State.plainLbas (s : State) (nsid : Nat) (tag : Option Nat) : List (Option Nat × LbaData) → List LbaData × State
  | [] => ([], s)
  | e :: t =>
    let (d, s1) := s.plainLba nsid tag e.1 e.2
    let (ds, s2) := s1.plainLbas nsid tag t
    (d :: ds, s2)

/-- A covered read enters its instance's window, or is left out of it where the instance is outside its share (R145). -/
def State.countWindow (s : State) (a : Attach) : State :=
  match a.hdr.fn with
  | .inst n =>
    if !a.covered ∨ a.exempt then s
    else if s.sched.outside.contains n.val then s.countExempt a
    else { s with sched := { s.sched with windows := Tbl.set 0 s.sched.windows n.val (Tbl.get 0 s.sched.windows n.val + 1) } }
  | .pf0 => s
  | .pf1 => s

/-- One attached command takes its LBAs of a read. -/
def State.deliverTo (s : State) (r : MediaRead) (bad : BitVec 4) (a : Attach) : State :=
  match s.ctx? a.hdr with
  | none => s
  | some c =>
    let lbas := s.readLbas r
    let tags := (s.readUnit r).elim [] (·.keyTags)
    let (ds, s1) := s.plainLbas r.nsid c.keyTag ((List.range 4).map fun i => (tags.getD i none, lbas.getD i 0))
    (((s1.countWindow a).modCtx a.hdr fun x => (x.receive a.mask a.first ds (s.readMetas r) bad).close1)).settleCtx a.hdr

/-- A read leaves the table, and the member reads made for it (R230, R233). -/
def State.dropRead (s : State) (rd : Nat) : State :=
  { s with
    store := { s.store with reads := (Tbl.del s.store.reads rd).filter fun e => e.2.serves ≠ .member rd }
    sched := { s.sched with bg := s.sched.bg.filter fun c => c.work ≠ .darn rd } }

/-- A fill read completes its slot: LBAs missing there come from the unit's former place, marked ones marked (R182,
R250). -/
def State.fillFrom (s : State) (k : Nat) (r : MediaRead) (bad : BitVec 4) : State :=
  match s.slot? k with
  | none => s
  | some x =>
    if x.state = .fillRead then
      let lbas := s.readLbas r
      let metas := s.readMetas r
      let tags := (s.readUnit r).elim [] (·.keyTags)
      let x1 := (List.range 4).foldl (fun (y : Slot) i =>
        if x.mask.getLsbD i then y else y.put i (lbas.getD i 0) (metas.getD i 0) (tags.getD i none) (bad.getLsbD i)) x
      (s.setSlot k { x1 with state := .filling }).programSlot k
    else s

/-- A copy's source with its lost codewords as zeros and marked (R250). -/
def Stored.withLost (u : Stored) (lost : BitVec 4) : Stored :=
  { u with
    bad := u.bad ||| lost
    lbas := u.lbas.zipIdx.map fun e => if lost.getLsbD e.2 then 0 else e.1 }

/-- A copied unit goes to its target; an authenticated one with a lost codeword becomes UNCORRECTABLE (R250). -/
def State.copyFrom (s : State) (source : Nat) (r : MediaRead) : State :=
  match s.readUnit r with
  | none => s
  | some u =>
    if u.gcm ∧ r.lostMask ≠ 0 then (s.setUnit r.nsid r.unit .uncorrectable).journal (.uncorr (r.nsid - 1) r.unit 1)
    else (s.putStored r.entry (u.withLost r.lostMask)).placeCopy source r.nsid r.unit r.entry

/-- Codewords lost by a reader count, and its unit takes one record (R250); a Darning member read takes the record of
R235 instead. -/
def State.countLost (s : State) (r : MediaRead) : State :=
  let n := (maskLbas r.lostMask).length
  if n = 0 then s
  else
    let s1 := s.bump Obj.unrecovered n
    match r.serves with
    | .member _ => s1
    | .host => s1.record 0x0802 [r.nsid, lowWord r.unit, highWord r.unit, r.lostMask.toNat, 1]
    | .slotFill _ => s1.record 0x0802 [r.nsid, lowWord r.unit, highWord r.unit, r.lostMask.toNat, 1]
    | .copyUnit _ => s1.record 0x0802 [r.nsid, lowWord r.unit, highWord r.unit, r.lostMask.toNat, 1]
    | .background => s1.record 0x0802 [r.nsid, lowWord r.unit, highWord r.unit, r.lostMask.toNat, 1]

/-- A unit that Darning rebuilt counts in 0x2310.03 (R233). -/
def State.countRebuild (s : State) (r : MediaRead) : State :=
  match r.serves with
  | .member _ => s
  | .host => if r.source = 3 ∧ r.lostMask = 0 then s.bump Obj.darnUnits else s
  | .slotFill _ => if r.source = 3 ∧ r.lostMask = 0 then s.bump Obj.darnUnits else s
  | .copyUnit _ => if r.source = 3 ∧ r.lostMask = 0 then s.bump Obj.darnUnits else s
  | .background => if r.source = 3 ∧ r.lostMask = 0 then s.bump Obj.darnUnits else s

/-- A unit whose tag failed and that the second attempt did not give counts, with its record (R281). -/
def State.countTag (s : State) (r : MediaRead) : State :=
  if r.tagFails = 0 ∨ r.lostMask = 0 then s
  else (s.bump Obj.tagLost r.attached.length).record 0x0901 [r.nsid, lowWord r.unit, highWord r.unit, r.tagFails, r.source]

/-- The end of a read: every attached command, and whoever else it serves, takes its outcome. A member read stays for
the reconstruction it belongs to. -/
def State.concludeRead (s : State) (rd : Nat) (r : MediaRead) : State :=
  match r.serves with
  | .member _ => s
  | .host => ((r.attached.foldl (fun a e => a.deliverTo r (s.readBad r) e) (s.countTag r)).dropRead rd).settleAll
  | .slotFill k => ((s.fillFrom k r (s.readBad r)).dropRead rd).settleAll
  | .copyUnit source => ((s.copyFrom source r).dropRead rd).settleAll
  | .background => s.dropRead rd

/-- A read that has nothing for a cipher core to do ends once every codeword has finished: a copy or background read, or
one of which nothing can be used. -/
def State.afterLadder (s : State) (rd : Nat) (r : MediaRead) : State :=
  if r.climbed then
    let s1 := (s.countLost r).countRebuild r
    match r.serves with
    | .member _ => s1
    | .copyUnit _ => s1.concludeRead rd r
    | .background => s1.concludeRead rd r
    | .host => if s.readBad r = 15#4 ∨ r.mask &&& ~~~r.lostMask = 0 then s1.concludeRead rd r else s1
    | .slotFill _ => if s.readBad r = 15#4 ∨ r.mask &&& ~~~r.lostMask = 0 then s1.concludeRead rd r else s1
  else s

/-! ### The ladder (R246 to R249) -/

/-- Entry of the retry table that attempt n uses: the block's hint first, then the others in order (R247). -/
def retryEntry (hint n : Nat) : Nat :=
  if hint = 0 then n + 1
  else if n = 0 then hint
  else if n < hint then n else n + 1

/-- A further read of the page joins the head of its class (R247); a read of a LUN that is not there goes to Darning. -/
def State.readAgain (s : State) (rd : Nat) (r : MediaRead) : State :=
  let lun := r.entry.lun?.getD 0
  if (s.lun lun).state = .active then
    let s1 := (s.setRead rd { r with arrived := false }).enqueue lun (.read rd) r.cls (r.entry.block?.getD 0) false
    let x := s1.lun lun
    let last := x.queue.foldl (fun m o => max m o.id) 0
    s1.setLun lun { x with queue := x.queue.map fun o => if o.id = last then { o with age := 0 } else o }
  else (s.setRead rd { r with arrived := true }.toDarning).darnUnit rd true

/-- Whether an operation of a read is still queued at its LUN or runs there. -/
def State.readQueued (s : State) (rd : Nat) (r : MediaRead) : Bool :=
  (s.lun (r.entry.lun?.getD 0)).ops.any fun o => o.kind = .read rd

/-- Each covered command of a read that leaves step 1 is left out of its contract window (R249, R145). -/
def State.exempt (s : State) (rd : Nat) (r : MediaRead) : State :=
  let s1 := r.attached.foldl (fun a e => if e.exempt then a else a.countExempt e) s
  s1.setRead rd { r with attached := r.attached.map fun e => { e with exempt := true } }

/-- A block goes to Rinse for an immediate sample (R248). -/
def State.sampleSoon (s : State) (r : MediaRead) : State :=
  let l := r.entry.lun?.getD 0
  let b := r.entry.block?.getD 0
  s.setBlock l b { s.block l b with watch := 3 }

/-- A day in ns. -/
def dayNs : Nat := 86400000000000

/-- A codeword that needs Darning while its data is young retires its block (R255). -/
def State.earlyFail (s : State) (r : MediaRead) : State :=
  let l := r.entry.lun?.getD 0
  let b := r.entry.block?.getD 0
  if s.now < (s.block l b).programmedAt + s.cfg Obj.earlyFailDays * dayNs ∧ !(s.block l b).retired then
    (s.retireBlock l b).bump Obj.rinseRetired
  else s

/-- A codeword goes to Darning (step 4 of the ladder, R246). -/
def State.toDarning (s : State) (rd : Nat) (r : MediaRead) (cw : Nat) : State :=
  ((s.setRead rd { r with steps := r.steps.set cw .darning, source := 3 }).darnUnit rd false).earlyFail r

/-- A codeword passes to Darning, or is lost where its reader is itself a member read (R246). -/
def State.toStep4 (s : State) (rd : Nat) (r : MediaRead) (cw : Nat) : State :=
  match r.serves with
  | .member _ => (s.bump Obj.softFails).setRead rd { r with steps := r.steps.set cw .lost }
  | .host => (s.bump Obj.softFails).toDarning rd r cw
  | .slotFill _ => (s.bump Obj.softFails).toDarning rd r cw
  | .copyUnit _ => (s.bump Obj.softFails).toDarning rd r cw
  | .background => (s.bump Obj.softFails).toDarning rd r cw

/-- A codeword climbs to a step that reads the page again. -/
def State.climb (s : State) (rd : Nat) (r : MediaRead) (cw : Nat) (step : LadderStep) : State :=
  let r1 := { r with steps := r.steps.set cw step }
  if s.readQueued rd r then s.setRead rd r1 else s.readAgain rd r1

/-- A read is a member read of a read-around in progress. -/
def State.aroundOwner (s : State) (r : MediaRead) : Bool :=
  match r.serves with
  | .member rd => (Tbl.find s.store.reads rd).elim false (·.around.isSome)
  | .host => false
  | .slotFill _ => false
  | .copyUnit _ => false
  | .background => false

/-- A member read that does not decode on its first hard decode abandons the read-around; the original read goes on (R142). -/
def State.abandonAround (s : State) (r : MediaRead) : State :=
  match r.serves with
  | .member rd =>
    let s1 := { s with store := { s.store with reads := s.store.reads.filter fun e => e.2.serves ≠ .member rd } }
    (Tbl.find s1.store.reads rd).elim s1 fun q => s1.setRead rd { q with around := none }
  | .host => s
  | .slotFill _ => s
  | .copyUnit _ => s
  | .background => s

/-- A codeword fails at its step and climbs (R246). -/
def State.codewordFails (s : State) (rd : Nat) (r : MediaRead) (cw : Nat) : State :=
  match r.steps.getD cw .decoded with
  | .hard =>
    let first := r.steps.all fun e => e = .hard || e = .decoded
    if s.aroundOwner r then s.abandonAround r
    else
      let s1 := if first then s.exempt rd r else s
      (s1.bump Obj.retryEntered).climb rd ((Tbl.find s1.store.reads rd).getD r) cw (.retry 0)
  | .retry n =>
    if n < 14 then s.climb rd r cw (.retry (n + 1))
    else if s.flag Obj.softEn then (((s.bump Obj.softDecodes).sampleSoon r).climb rd r cw .soft)
    else (s.sampleSoon r).toStep4 rd r cw
  | .soft => s.toStep4 rd r cw
  | .darning => s.setRead rd { r with steps := r.steps.set cw .lost }
  | .decoded => s
  | .lost => s

/-- A codeword decodes at its step (R246, R247). -/
def State.codewordDecodes (s : State) (rd : Nat) (r : MediaRead) (cw : Nat) : State :=
  let s1 := s.setRead rd { r with steps := r.steps.set cw .decoded }
  match r.steps.getD cw .decoded with
  | .retry n =>
    let l := r.entry.lun?.getD 0
    let b := r.entry.block?.getD 0
    (s1.setBlock l b { s1.block l b with hint := retryEntry (s1.block l b).hint n }).bump Obj.retryDecoded
  | .hard => s1
  | .soft => s1
  | .darning => s1
  | .decoded => s1
  | .lost => s1

/-- A read's data has come over its channel: so has what its channel was to transfer before it (R134). -/
def State.transferred (s : State) (rd : Nat) (r : MediaRead) : State :=
  let ch := r.entry.lun?.getD 0 / 64
  match Tbl.find s.flash.channels ch with
  | some c =>
    if c.transfers.any fun e => e.2.kind = .read rd then
      { s with flash := { s.flash with
        channels := Tbl.put s.flash.channels ch { c with transfers := (c.transfers.dropWhile fun e => e.2.kind ≠ .read rd).tail } } }
    else s
  | none => s

/-- CODEWORD_DECODE (R245, R246): a decode ends; one whose MCRC does not match has failed. -/
def execCodewordDecode (rd : Nat) (cw : Fin 4) (e : DecodeEnd) (s0 : State) : Answer :=
  match Tbl.find s0.store.reads rd with
  | none => .next s0
  | some r =>
    let step := r.steps.getD cw.val .decoded
    if step = .decoded ∨ step = .lost ∨ (!r.arrived ∧ step ≠ .darning) then .next s0
    else
      let s := s0.transferred rd r
      let s1 := match e with
        | .decoded _ true => s.codewordDecodes rd r cw.val
        | .decoded _ false => (s.bump Obj.mcrcFails).codewordFails rd r cw.val
        | .failed _ => s.codewordFails rd r cw.val
      match Tbl.find s1.store.reads rd with
      | none => .next s1
      | some r1 => .next (s1.afterLadder rd r1)

end Sys2Proof.Machine
end

