-- ==== Sys2Proof/Machine/Codes.lean ====
section
/-! DEFINITION. Rinse, forced full passes, strengths and correction logs (R241, R242, R251 to R256, R266). -/
namespace Sys2Proof.Machine

/-- An accessor with the MANAGER or PORT role (R432). -/
def Accessor_manages : Accessor → Bool
  | .pf0 => true
  | .pf1 => true
  | .port => true
  | .inst _ => false

/-! ### Strength (R240 to R242) -/

/-- Hard limit of a strength (R240). -/
def hardLimit (s : Nat) : Nat := 180 + 25 * s

def insertCount (n : Nat) : List Nat → List Nat
  | [] => [n]
  | m :: t => if n ≤ m then n :: m :: t else m :: insertCount n t

/-- The 99th percentile of some counts. -/
def percentile99 (l : List Nat) : Nat := (l.foldr insertCount []).getD (ceilDiv (99 * l.length) 100 - 1) 0

/-- The group's fail-bit index passes 0x2320.02 of its hard limit: its strength rises by one (R242). The index is that of the
samples there are while they are fewer than 4,096 (DESIGN CHOICE, log entry 129). -/
def State.raiseGroup (s : State) (g : Nat) : State :=
  let st := s.cfg Obj.groupStrength 0 g
  let l := Tbl.get [] s.mem.fails g
  if l ≠ [] ∧ st < 7 ∧ hardLimit st * s.cfg Obj.raisePct < 100 * percentile99 l then
    (s.save Obj.groupStrength (st + 1) 0 g).record 0x0801 [g, st + 1]
  else s

/-- Strengths at a frame boundary, while 0x2320.01 is TRUE (R242). -/
def State.raiseStrengths (s : State) : State :=
  if s.flag Obj.autoRaise then (List.range s.groups.length).foldl State.raiseGroup s else s

/-! ### A pass (R251, R256) -/

/-- Programmed blocks, which a pass samples once each. -/
def State.programmedBlocks (s : State) : List Nat :=
  (s.store.blocks.filter fun e => (e.2.stripe.isSome || e.2.system) && !e.2.eraseDue).map (·.1)

/-- A self-test that sets MAINTENANCE runs. -/
def State.extendedTest (s : State) : Bool := s.admin.selftest.any (·.extended)

/-- A forced full pass ends: 0x2330.06 returns to 0, and MAINTENANCE ends unless a self-test keeps it (R256). -/
def State.endForced (s : State) : State :=
  let s1 := { s with mem := { s.mem with forced := false, passDue := false, sampled := [] } }.keep Obj.fullPass 0
  if s.extendedTest then s1 else s1.clearMode Mode.maintenance 9

/-- A forced full pass starts, or waits for SANITIZE or RECOVERY to end (R256, R380, R376). -/
def State.startForced (s : State) : State :=
  let s1 := s.keep Obj.fullPass 1
  if s.has Mode.sanitize ∨ s.has Mode.recovery then { s1 with mem := { s1.mem with passDue := true } }
  else
    { s1 with mem := { s1.mem with forced := true, passDue := false, sampled := [] } }.setMode Mode.maintenance 9

/-- 0x2330.06 is written: 1 starts a forced pass, 0 ends the one that runs, once the block being read is done, or the one that
waits (R256). -/
def State.writeFullPass (s : State) (on : Bool) : State :=
  if on then (if s.mem.forced then s else s.startForced)
  else if s.mem.forced ∧ s.mem.sampling ≠ [] then s.keep Obj.fullPass 0
  else if s.mem.forced ∨ s.mem.passDue then s.endForced
  else s

/-- FULL_PASS_WRITE (R256). -/
def execFullPassWrite (acc : Accessor) (on : Bool) (s : State) : Answer :=
  .next (if Accessor_manages acc then s.writeFullPass on else s)

/-- A block has been sampled: 0x2330.09 advances, and a forced pass that has read every block, or is to end, ends. -/
def State.passStep (s : State) (key : Nat) : State :=
  let all := s.programmedBlocks
  let done := if s.mem.sampled.contains key then s.mem.sampled else s.mem.sampled ++ [key]
  let left := all.filter fun k => !(done.contains k)
  let s1 := { s with mem := { s.mem with sampled := done } }.keep Obj.passDonePct
    (if left = [] then 100 else 100 * (all.length - left.length) / all.length)
  if s.mem.forced ∧ (left = [] ∨ s.cfg Obj.fullPass = 0) then s1.endForced else s1

/-- Length of a pass in ns (R251). -/
def State.passNs (s : State) : Nat := 3600000000000 * s.cfg Obj.passH

/-- The next pass begins when the interval of the last has ended (R127, R251). -/
def State.beginRinse (s : State) : State :=
  if s.isDue Periodic.rinse ∧ !s.mem.forced then
    ({ s with mem := { s.mem with sampled := [] } }.keep Obj.passDonePct 0).taskDone Periodic.rinse s.passNs
  else s

/-- A block is to be sampled: not yet in this pass, at once, or again after one eighth of the pass length (R251 to R253). -/
def State.sampleDue (s : State) (lun block : Nat) : Bool :=
  let b := s.block lun block
  !(s.mem.sampled.contains (blockKey lun block)) || b.watch = 3
    || (b.watch = 1 && decide (b.sampledAt + s.passNs / 8 ≤ s.now))

/-! ### A sample (R252 to R255) -/

/-- Programmed pages of a block; a system block counts as fully programmed. -/
def State.programmedPages (s : State) (lun block : Nat) : Nat :=
  match (s.block lun block).stripe with
  | some (id, _) => (s.stripe? id).elim 0 fun t => ceilDiv (s.unitsPlaced t) t.rowUnits
  | none => s.slcPages

/-- A sample's reads are queued, one chunk a unit: all four planes of page 0, the last programmed page and six between, or in a
forced pass every programmed page (R251, R256, R131). -/
def State.startSample (s : State) (task : Task) (lun block : Nat) : State :=
  let pages := s.programmedPages lun block
  let n := planes * (if s.mem.forced ∧ task = .scrub then pages else min 8 pages)
  let s1 := { s with mem := { s.mem with sampling := Tbl.put s.mem.sampling (blockKey lun block) n } }
  (List.range n).foldl (fun a _ => a.queueBg task (.sample lun block) (4 * oneCredit) 0) s1

/-- Blocks whose claim Rinse or self-test has been granted are sampled (R237, R251, R352). -/
def State.startSamples (s : State) : State :=
  (s.store.blocks.filter fun e => (e.2.claim = some claimRinse || e.2.claim = some claimSelftest)
      && (Tbl.find s.mem.sampling e.1).isNone).foldl
    (fun a e => a.startSample (if e.2.claim = some claimRinse then .scrub else .selftest) (e.1 / 4096) (e.1 % 4096)) s

/-- The live contents of a system block are written afresh: its segment copies are taken anew (R254). -/
def State.rewriteSystem (s : State) (lun block : Nat) : State :=
  let hit := s.store.journal.copies.filter fun c => c.place.lun? = some lun && c.place.block? = some block
  s.setJournal { s.store.journal with pass := (s.store.journal.pass ++ hit.map fun c => (c.nsid, c.segment)).eraseDups }

/-- Reclaim group of a LUN. -/
def State.groupOf (s : State) (lun : Nat) : Nat :=
  ((List.range s.groups.length).find? fun g => (s.groupLuns g).contains lun).getD 0

/-- A sample's codewords enter the group's last 4,096 (R242). -/
def State.noteFails (s : State) (lun : Nat) (l : List Nat) : State :=
  let g := s.groupOf lun
  let all := Tbl.get [] s.mem.fails g ++ l
  { s with mem := { s.mem with fails := Tbl.set [] s.mem.fails g (all.drop (all.length - 4096)) } }

/-- Rinse refreshes a block's data: a stripe member is replaced from its own rows, a staging stripe is folded next, the
contents of a system block are written afresh (R254). A second program cycle in a row retires the block (R255). -/
def State.refreshBlock (s : State) (lun block : Nat) : State :=
  let b := s.block lun block
  let s1 := s.setBlock lun block { b with refreshed := true, watch := 2 }
  let s2 := match b.stripe with
    | some (id, m) => match s1.stripe? id with
      | some t => if t.slc then (s1.addSource id).bump Obj.refreshed else s1.startMember (id, m) .scrub 1
      | none => s1
    | none => (s1.rewriteSystem lun block).bump Obj.refreshed
  if b.before ∧ !b.refreshed then (s2.retireBlock lun block).bump Obj.rinseRetired else s2

/-- What the highest fail-bit count of a sample asks of its block (R252). -/
def State.judge (s : State) (lun block high : Nat) (left : Bool) : State :=
  let b := s.block lun block
  let lim := hardLimit (if b.system then 7 else b.strength)
  if left ∨ lim * s.cfg Obj.relocatePct < 100 * high then s.refreshBlock lun block
  else if lim * s.cfg Obj.watchPct < 100 * high then s.setBlock lun block { b with watch := 1 }
  else s.setBlock lun block { b with watch := 0 }

/-- Rinse may work (R376): not under SANITIZE, IDLE, AIRING, HOLD-UP, during an image switch or in RECOVERY. -/
def State.rinseOpen (s : State) : Bool := s.bgOpen && !(s.has Mode.recovery) && s.has Mode.service

/-- A block's sample has been read: it is judged, and its claim ends. -/
def State.endSample (s : State) (lun block : Nat) (failBits : List Nat) (leftStep1 : Bool) : State :=
  let s1 := { s with mem := { s.mem with sampling := Tbl.del s.mem.sampling (blockKey lun block) } }
  let s2 := (s1.noteFails lun failBits).judge lun block (failBits.foldl max 0) leftStep1
  s2.setBlock lun block { s2.block lun block with claim := none, sampledAt := s.now }

/-- RINSE_STEP (R251, R252): a block that is to be sampled is asked for (R237, R238); once its claim is held its reads are
admitted for SCRUB credits, and when they are done the sample is judged. -/
def execRinseStep (lun : Fin 4096) (block : Nat) (failBits : List Nat) (leftStep1 : Bool) (t : Nat) (s0 : State) : Answer :=
  let s := (s0.tick t).beginRinse
  if !s.rinseOpen ∨ !(s.programmedBlocks.contains (blockKey lun.val block)) then .next s
  else if (s.block lun.val block).claim ≠ some claimRinse then
    .next (if s.sampleDue lun.val block then s.requestClaim claimRinse lun.val block else s)
  else match Tbl.find s.mem.sampling (blockKey lun.val block) with
    | none => .next (s.startSample .scrub lun.val block)
    | some 0 => .next ((s.endSample lun.val block failBits leftStep1).passStep (blockKey lun.val block))
    | some (_ + 1) => .next s

/-- DISTURB_COUNT_REACHED (R253): past 0x2330.04 reads the count returns to zero and the block is to be sampled at the
next boundary. -/
def execDisturbCountReached (lun : Fin 4096) (block : Nat) (s : State) : Answer :=
  let b := s.block lun.val block
  if s.cfg Obj.disturbReads < b.reads then
    .next ((s.setBlock lun.val block { b with reads := 0, watch := 3 }).requestClaim claimRinse lun.val block)
  else .next s

/-! ### Logs (R266) -/

/-- LOG_CLEAR (R266): the log that 0x2340.01 selects is emptied. -/
def execLogClear (acc : Accessor) (s : State) : Answer :=
  if Accessor_manages acc then
    .next { s with mem := { s.mem with logs := Tbl.del s.mem.logs (s.cfg Obj.logSelect) } }
  else .next s

/-- 0x2340.03: the selected entry of the selected log, as R266 lays it out. -/
def State.logWord (s : State) : Nat :=
  match (Tbl.get [] s.mem.logs (s.cfg Obj.logSelect))[s.cfg Obj.logEntry]? with
  | some e => e.count * 2 ^ 112 + e.position * 2 ^ 104 + e.kind * 2 ^ 100 + e.rank * 2 ^ 96 + e.firstS % 2 ^ 32 * 2 ^ 64
      + e.address % 2 ^ 64
  | none => 0

end Sys2Proof.Machine
end

