-- ==== Sys2Proof/Machine/Cipher.lean ====
section
/-! DEFINITION. Cipher cores, write counters, tag failures, key caches, key slots and key replacement (R267 to R289). -/
namespace Sys2Proof.Machine

/-! ### Lock registers (R269, R270) -/

/-- Number of a core: cells 0 to 95, island cores 96 and 97. -/
def Core_num : Core → Nat
  | .cell c => c.val
  | .island i => 96 + i.val

/-- The holder of a core, none where its register reads zero. -/
def State.lockOf (s : State) (k : Nat) : Option LockId := Tbl.find s.cipher.cores k

def State.setLock (s : State) (k : Nat) (l : Option LockId) : State :=
  match l with
  | some id => { s with cipher := { s.cipher with cores := Tbl.put s.cipher.cores k id } }
  | none => { s with cipher := { s.cipher with cores := Tbl.del s.cipher.cores k } }

/-- A core that takes messages: an island core of an island that is not lost, or the core of a cell that is not fenced (R33, R41);
and its mask generator has not gone 1,048,576 blocks without a reseed (R272). -/
def State.coreUp (s : State) (k : Nat) : Bool :=
  (if 96 ≤ k then !s.blockLost 1 else s.cellRole k ≠ 7) && Tbl.get 0 s.cipher.masks k < 1048576

/-- Messages a core takes: known-answer tests on any; key service on the island's cores and management messages on its core 1;
data-path messages on the cores of HOST cells (R267, R271). -/
def State.coreTakes (s : State) (k : Nat) (id : LockId) : Bool :=
  s.coreUp k && (id.op = 6 || (if k = 96 then id.cls = 5 else if k = 97 then id.cls = 4 || id.cls = 5
    else id.op ≤ 3 && s.cellRole k = 1))

/-- An agent has a fabric request open, which comes after a cipher-core lock in the order of R49. -/
def State.pastLock (s : State) (id : LockId) : Bool := s.cells.reqs.any (·.agent = some id)

/-- CIPHER_LOCK_CLAIM (R49, R267, R269): the write takes effect only if BUSY was 0. -/
def execCipherLockClaim (k : Core) (id : LockId) (s : State) : Answer :=
  if (s.lockOf (Core_num k)).isNone ∧ s.coreTakes (Core_num k) id ∧ s.pastLock id = false then
    .next (s.setLock (Core_num k) (some id))
  else .next s

/-- Hops between two cells on the fabric. -/
def hops (a b : Nat) : Nat :=
  let p := cellNode a
  let q := cellNode b
  (max p.1 q.1 - min p.1 q.1) + (max p.2 q.2 - min p.2 q.2)

/-- The idle HOST cell core of a quadrant nearest to a cell, ties to the lowest number (R270). -/
def State.nearestIdle (s : State) (c : Nat) (id : LockId) : Option Nat :=
  ((List.range 96).filter fun d => cellQuadrant d = cellQuadrant c && s.coreTakes d id && (s.lockOf d).isNone).foldl
    (fun m d => match m with
      | none => some d
      | some a => if hops c d < hops c a then some d else some a) none

/-- HOST cells of a quadrant, the most its waiting list holds (R270). -/
def State.hostCells (s : State) (q : Nat) : Nat := (List.range 96).countP fun d => cellQuadrant d = q && s.cellRole d = 1

/-- A request joins its quadrant's waiting list (R270). -/
def State.waitCore (s : State) (q : Nat) (id : LockId) : State :=
  { s with cipher := { s.cipher with waits := Tbl.put s.cipher.waits q ((Tbl.get [] s.cipher.waits q) ++ [id]) } }.bump
    Obj.cipherWaits

/-- CIPHER_REQUEST_STEER (R49, R270): a HOST cell's sequencer, with no request outstanding, takes the cell's own core, else the
nearest idle HOST core of its quadrant, else a place in the quadrant's waiting list. -/
def execCipherRequestSteer (c : Fin 96) (id : LockId) (s : State) : Answer :=
  let q := cellQuadrant c.val
  if s.cellRole c.val ≠ 1 ∨ 3 < id.op ∨ s.pastLock id ∨ (Tbl.find s.cipher.asks c.val).isSome then .next s
  else
    let s1 := { s with cipher := { s.cipher with asks := Tbl.put s.cipher.asks c.val id } }
    if (s.lockOf c.val).isNone ∧ s.coreTakes c.val id then .next (s1.setLock c.val (some id))
    else match s.nearestIdle c.val id with
      | some d => .next (s1.setLock d (some id))
      | none => .next (if (Tbl.get [] s.cipher.waits q).length < s.hostCells q then s1.waitCore q id else s)

/-- A core's register clears, and the head of its quadrant's waiting list takes a HOST cell's core (R269, R270). -/
def State.freeCore (s : State) (k : Nat) : State :=
  let a := s.setLock k none
  let s1 := { a with cipher := { a.cipher with asks := a.cipher.asks.filter fun (e : Nat × LockId) => some e.2 ≠ s.lockOf k } }
  if k < 96 ∧ s.cellRole k = 1 then
    match Tbl.get [] s1.cipher.waits (cellQuadrant k) with
    | id :: t => ({ s1 with cipher := { s1.cipher with waits := Tbl.set [] s1.cipher.waits (cellQuadrant k) t } }).setLock k (some id)
    | [] => s1
  else s1

/-! ### The comparator's answer (R299, R300) -/

/-- MATCH, tested as two conditions. -/
def ComparePair_match (p : ComparePair) : Bool := p.hit = 0x5A#8 && p.missN = 0xA5#8

/-- A pair that is neither MATCH nor NOMATCH is a fault, counted and recorded with the cell or the island, and handled
as NOMATCH. -/
def State.judgePair (s : State) (core : Nat) (p : ComparePair) : State :=
  if ComparePair_match p ∨ (p.hit = 0xA5#8 ∧ p.missN = 0x5A#8) then s
  else (s.bump Obj.compareFaults).record 0x0A01 [min core 96]

/-! ### Tag failure (R280, R281) -/

/-- Under CUT_THROUGH a command's data has reached its host buffer before the tag is checked (R280). -/
def State.cutThrough (s : State) (r : MediaRead) : State :=
  r.attached.foldl (fun a e => match holderOf e.hdr.fn with
    | some n =>
      if n < 1024 ∧ a.cfg Obj.authDelivery n = 1 then
        a.emit (.data e.hdr.fn.code e.hdr (4 * r.unit) ((maskLbas e.mask).map fun i => (a.readLbas r).getD i 0)
          (if (a.ctx? e.hdr).any (·.withMeta) then (maskLbas e.mask).map fun i => (a.readMetas r).getD i 0 else []))
      else a
    | none => a) s

/-- The unit is obtained once more from its other source: a reconstruction after a direct read, a direct read after a
reconstruction. `tagFails` keeps the first source. -/
def State.secondSource (s : State) (rd : Nat) (r : MediaRead) : State :=
  let r1 := { r with tagFails := r.source, data := [], metas := [] }
  if r.source = 1 then
    let r2 := { r1 with source := 3, arrived := true, steps := r.steps.map fun _ => .darning }
    (s.setRead rd r2).darnUnit rd false
  else s.readAgain rd { r1 with source := 1, steps := ladderStart r.mask .hard }

/-- A unit whose second attempt has failed too: no data of it moves, its commands end Unrecovered Read Error. -/
def State.tagLost (s : State) (rd : Nat) (r : MediaRead) : State :=
  s.concludeRead rd { r with steps := r.steps.map fun _ => .lost, data := List.replicate 4 0 }

/-- The end of a unit's decryption: an authenticated unit needs its tag (R275). -/
def State.unitDeciphered (s : State) (rd : Nat) (r : MediaRead) (core : Nat) (tag : ComparePair) : State :=
  if (s.readUnit r).elim false (·.gcm) then
    let s1 := (s.judgePair core tag).cutThrough r
    if ComparePair_match tag then
      (if r.tagFails = 0 then s1 else s1.bump Obj.tagRepaired).concludeRead rd r
    else if r.tagFails = 0 then (s1.bump Obj.tagFails).secondSource rd r
    else s1.tagLost rd r
  else s.concludeRead rd r

/-! ### Namespace format and key destruction (R288) -/

/-- Reads that commands still take of a namespace. -/
def State.nsReading (s : State) (nsid : Nat) : Bool :=
  s.store.reads.any fun e => e.2.nsid = nsid && (e.2.serves = .host || (match e.2.serves with
    | .slotFill _ => true
    | .host => false
    | .member _ => false
    | .copyUnit _ => false
    | .background => false))

/-- Every unit UNMAPPED and every zone Empty with epoch 0; write-buffer slots are released unprogrammed (R288). -/
def State.blankNs (s : State) (nsid : Nat) : State :=
  match s.ns? nsid with
  | none => s
  | some n =>
    let ks := (s.store.slots.filter fun e => e.2.nsid = nsid).map (·.1)
    let s1 := ks.foldl (fun a k => a.freeSlot k .unmapped) s
    let s2 := n.zones.foldl (fun a e => a.emptyZone nsid e.1 .empty 0 false) s1
    match s2.ns? nsid with
    | none => s2
    | some m =>
      let segs := (n.map.map fun e => segmentOf e.1).eraseDups
      (segs.foldl (fun a g => a.touchSegment nsid g) (s2.setNs nsid { m with map := [] })).markDirty nsid 0 (m.nsze / 4 - 1)

/-- Insertion by number. -/
def insertNsid (n : Nat) : List Nat → List Nat
  | [] => [n]
  | m :: t => if n ≤ m then n :: m :: t else m :: insertNsid n t

/-- Functions learn that a namespace changed: their list of log page 04h, and its event (R348, R349). -/
def State.nsChanged (s : State) (nsid : Nat) (fns : List Nat) : State :=
  let s1 := fns.foldl (fun a f =>
    let l := Tbl.get [] a.admin.changedNs f
    if l.contains nsid then a
    else { a with admin := { a.admin with changedNs := Tbl.put a.admin.changedNs f (insertNsid nsid l) } }) s
  s1.raiseAll fns .namespaceAttributeChanged

/-- Cache entries of a slot and its KID are purged from every cell (R288 step 3). -/
def purgeSlot (slot kid : Nat) : KeyRef → Bool
  | .nsKey sl k => !(sl = slot && k = kid)
  | .zoneKey sl k _ _ => !(sl = slot && k = kid)
  | .kpio _ _ => true

/-- Steps 3 and 4 of R288: caches are purged and the slot is zeroed; its KID stays. -/
def State.destroyKey (s : State) (slot : Nat) : State :=
  let q := s.keySlot slot
  let s1 := (s.purgeKeys (purgeSlot slot q.kid)).setKeySlot slot { KeySlot.empty with kid := q.kid }
  { s1 with cipher := { s1.cipher with
    blobs := Tbl.del s1.cipher.blobs slot
    erasing := if q.kind = 0 then s1.cipher.erasing else Tbl.put s1.cipher.erasing slot s1.store.eraseClock } }

/-- A key enters a slot: the KID rises, the counter starts at 0 with a reservation from 0, and its blob is written
(R277, R283). -/
def State.putKey (s : State) (slot kind origin keyId : Nat) : State :=
  let q : KeySlot :=
    { kind := kind, origin := origin, kid := ((s.keySlot slot).kid + 1) % 2 ^ 32, keyId := keyId, wctr := 0
      high := s.cfg Obj.ctrWindow, reserving := false }
  let s1 := s.setKeySlot slot q
  { s1 with cipher := { s1.cipher with
    blobs := Tbl.put s1.cipher.blobs slot q
    lost := s1.cipher.lost.filter (· ≠ slot) } }

/-- A key that the DRBG generates, by the next name. -/
def State.newKey (s : State) : Nat × State :=
  (s.cipher.nextKey, { s with cipher := { s.cipher with nextKey := s.cipher.nextKey + 1, requests := s.cipher.requests + 1 } })

/-- Kind of a namespace's key: 1 XTS, 2 GCM. -/
def Ns.keyKind (n : Ns) : Nat := n.word.cipherMode + 1

/-- A namespace is gone: its entry, and what was reserved for it (R177); its functions are told (R349). -/
def State.removeNs (s : State) (nsid : Nat) : State :=
  match s.ns? nsid with
  | none => s
  | some n =>
    let s1 := { s with
      store := { s.store with ns := Tbl.del s.store.ns nsid }
      cipher := { s.cipher with
        lost := s.cipher.lost.filter (· ≠ nsid - 1)
        kpio := s.cipher.kpio.filter fun e => e.1 ≠ nsid }
      migration := { s.migration with dirty := s.migration.dirty.filter fun e => e.1 % 4096 ≠ nsid - 1 } }
    (s1.keep Obj.kpioKeys s1.cipher.kpio.length).nsChanged nsid n.attached

/-- Steps 2 to 6 of a key replacement, once no admitted command reads under the old key (R288); a deletion takes no new
key. -/
def State.replaceKey (s : State) (w : KeyWork) : State :=
  match s.ns? (w.slot + 1) with
  | none => s
  | some n =>
    let s1 := (s.destroyKey w.slot).blankNs (w.slot + 1)
    let s2 := match w.act with
      | .replace => s1.putKey w.slot n.keyKind w.origin w.keyId
      | .format flbas dps =>
        let a := s1.putKey w.slot n.keyKind w.origin w.keyId
        match a.ns? (w.slot + 1) with
        | some m => (a.setNs (w.slot + 1) { m with flbas := flbas, dps := dps }).nsChanged (w.slot + 1) m.attached
        | none => a
      | .delete => s1.removeNs (w.slot + 1)
    let s3 := (s2.forgetOld (w.slot + 1)).journal (.nscfg w.slot (match w.act with
      | .replace => 2
      | .format _ _ => 2
      | .delete => 3))
    match w.cmd with
    | some h => if s3.cipher.works.any (·.cmd = some h) then s3 else s3.finish h Cpl.ok
    | none => s3

/-- Key replacements whose admitted commands have finished go on. -/
def State.settleKeys (s : State) : State :=
  let (ready, wait) := s.cipher.works.partition fun w => !(s.nsReading (w.slot + 1))
  if ready = [] then s
  else
    ready.foldl State.replaceKey { s with cipher := { s.cipher with works := wait } }

/-- The holder of a message was fenced since, so its result is discarded (R76, R271). -/
def State.staleLock (s : State) (id : LockId) : Bool := id.fnCode ≤ 1025 && (s.fnAt id.fnCode).gen.toNat ≠ id.gen

/-- CIPHER_MESSAGE_DONE (R268 to R271, R275, R281): the core's last block has left; a unit that it deciphered goes on. A core
whose register is clear has no message: one in a cell fenced mid-message is lost with the cell (R42). -/
def execCipherMessageDone (k : Core) (rd : Option Nat) (tag : ComparePair) (s : State) : Answer :=
  match s.lockOf (Core_num k) with
  | none => .next s
  | some id =>
    let s1 := s.freeCore (Core_num k)
    if s.staleLock id then .next s1
    else match rd.bind fun i => (Tbl.find s1.store.reads i).map fun r => (i, r) with
      | some (i, r) =>
        if r.climbed ∧ r.arrived then .next (s1.unitDeciphered i r (Core_num k) tag).settleKeys else .next s1
      | none => .next s1

/-! ### Masking and counters (R272, R277 to R279) -/

/-- MASK_RESEED (R272): so many blocks since the last call; a generator without a reseed for 1,048,576 stops its core, and
fences its cell. -/
def execMaskReseed (k : Core) (blocks : Nat) (reseeded : Bool) (s : State) : Answer :=
  let n := Core_num k
  let total := Tbl.get 0 s.cipher.masks n + blocks
  let put := fun (v : Nat) => { s with cipher := { s.cipher with masks := Tbl.set 0 s.cipher.masks n v } }
  if reseeded then
    let a := put 0
    .next { a with cipher := { a.cipher with requests := a.cipher.requests + 1 } }
  else if 1048576 ≤ total ∧ n < 96 then .next (((put 0).fenceCell n 5).setLock n none)
  else .next (put total)

/-- Waiting programs of a namespace try again. -/
def State.pushNs (s : State) (nsid : Nat) : State :=
  (s.store.slots.filter fun e => e.2.nsid = nsid && e.2.wanted).foldl (fun a e => match a.slot? e.1, a.ns? nsid with
    | some x, some n =>
      let b := a.setSlot e.1 { x with wanted := false }
      if n.kind = .zoned then b.tryRow nsid (x.unit / b.zoneUnits n) (x.unit % b.zoneUnits n) else b.programSlot e.1
    | _, _ => a) s

/-- COUNTER_RESERVATION_DURABLE (R278): the slot's mark rises by W, and its waiting writes proceed. -/
def execCounterReservationDurable (slot : Fin 4096) (s : State) : Answer :=
  let q := s.keySlot slot.val
  if q.reserving then
    let high := q.high + s.cfg Obj.ctrWindow
    let s1 := s.setKeySlot slot.val { q with
      high := high
      reserving := high < q.wctr + s.cfg Obj.ctrWindow / 2 }
    .next ((s1.pushNs (slot.val + 1)).settleAll)
  else .next s

/-! ### Key caches and slots (R283 to R285) -/

/-- Whether the key service has a key for a cache tag: the slot's present KID, the zone's present epoch, an injected
key. -/
def State.keyKnown (s : State) : KeyRef → Bool
  | .nsKey slot kid => (s.keySlot slot).kind ≠ 0 && (s.keySlot slot).kid = kid
  | .zoneKey slot kid zslba epoch =>
    (s.keySlot slot).kind ≠ 0 && (s.keySlot slot).kid = kid && (match s.ns? (slot + 1) with
      | some n => (n.zone (zslba / s.zsze n.width)).epoch = epoch
      | none => false)
  | .kpio nsidx tag => (s.kpioKey (nsidx + 1) tag).isSome

/-- KEY_CACHE_FILL (R285): a miss is filled over the key link, sent once more where its check fails; a second failure
fences the cell. The least recently used of 64 entries is replaced; a key the cache holds becomes the latest used. -/
def execKeyCacheFill (c : Fin 96) (k : KeyRef) (firstOk secondOk : Bool) (s : State) : Answer :=
  let x := s.cell c.val
  if x.keys.contains k then .next (s.setCell c.val { x with keys := x.keys.filter (· ≠ k) ++ [k] })
  else if !(s.keyKnown k) ∨ s.cellRole c.val = 7 ∨ s.blockLost 1 then .next s
  else if firstOk ∨ secondOk then
    let l := x.keys ++ [k]
    .next ((s.setCell c.val { x with keys := l.drop (l.length - 64) }).bump Obj.keyMisses)
  else .next (s.fenceCell c.val 5)

/-- An uncorrectable word empties a slot; its KID and counter stay with the management cores (R260, R283). -/
def State.emptySlot (s : State) (slot : Nat) : State :=
  let q := s.keySlot slot
  s.setKeySlot slot { q with kind := 0, origin := 0, keyId := 0 }

/-- KEY_SLOT_RELOAD (R283): an emptied slot is reloaded from a readable blob, wrapped under the present device KEK; with no
copy readable the key is lost. -/
def execKeySlotReload (slot : Fin 4096) (copyReadable : Bool) (s : State) : Answer :=
  let q := s.keySlot slot.val
  match Tbl.find s.cipher.blobs slot.val with
  | none => .next s
  | some b =>
    if q.kind ≠ 0 ∨ s.cipher.lost.contains slot.val ∨ !s.security.kek ∨ s.blockLost 1 ∨
        s.security.storeGen < s.cfg Obj.rootGen then .next s
    else if copyReadable then .next (s.setKeySlot slot.val { q with kind := b.kind, origin := b.origin, keyId := b.keyId })
    else .next ({ s with cipher := { s.cipher with lost := s.cipher.lost ++ [slot.val] } }.record 0x0902 [slot.val + 1])

/-- KEY_ERASE_DUE (R288 step 7): the pages of old blob copies are erased by the time that 0x2700.0B seconds in which the modes
permit erase have passed. -/
def execKeyEraseDue (slot : Fin 4096) (t : Nat) (s0 : State) : Answer :=
  let s := s0.tick t
  match Tbl.find s.cipher.erasing slot.val with
  | none => .next s
  | some since =>
    if s.erasePermitted ∧ since + 1000000000 * s.cfg Obj.keyEraseS ≤ s.store.eraseClock then
      .next { s with cipher := { s.cipher with erasing := Tbl.del s.cipher.erasing slot.val } }
    else .next s

/-! ### Key commands (R286, R287) -/

/-- Bytes of a blob by kind (R286). -/
def blobBytes (kind : Nat) : Nat := if kind = 1 ∨ kind = 4 then 104 else 72

/-- Why a blob is refused, if it is (R286, R470). DESIGN CHOICE (log entry 130): so are a FORMAT other than 1, a reserved WRAP and
a reserved KIND, which the list of R286 does not name. -/
def State.blobRefused (s : State) (b : KeyBlob) : Bool :=
  !b.icvOk || !b.headerMatch || b.format ≠ 1 || b.length ≠ blobBytes b.kind || b.kind = 0 || 4 < b.kind
    || !(b.wrap = 0 || (0x10 ≤ b.wrap && b.wrap ≤ 0x1F && (Tbl.find s.cipher.tkeks (b.wrap - 0x10)).isSome))
    || ((b.kind = 1 || b.kind = 4) && b.halvesEqual)

/-- A refused blob changes nothing but its count and record. -/
def State.refuseBlob (s : State) (b : KeyBlob) : State × Cpl :=
  ((s.bump Obj.unwrapFails).record 0x0903 [b.wrap, b.kind], Cpl.of .invalidField)

/-- A key command of a manager function; from an instance it ends Invalid Field (R287). -/
def State.keyRun (s : State) (h : Hdr) (len : Nat) (body : State → State × Cpl) : State :=
  s.runData h len fun a => if h.fn.isManager then body a else refuse .invalidField a

/-- TKEK_MAP shows the installed transport KEKs. -/
def State.tkekMap (s : State) : State :=
  s.save Obj.tkekMap ((s.cipher.tkeks.map fun e => 2 ^ e.1).sum)

/-- IMPORT_TRANSPORT_KEK: Security Send F0h 0001h. -/
def execImportTransportKek (h : Hdr) (b : KeyBlob) (s : State) : Answer :=
  .next (s.keyRun h b.length fun a =>
    if a.blobRefused b then a.refuseBlob b
    else if b.kind ≠ 3 ∨ 15 < b.target then refuse .invalidField a
    else (({ a with cipher := { a.cipher with
      tkeks := Tbl.put a.cipher.tkeks b.target b.keyId
      tkekBlobs := Tbl.put a.cipher.tkekBlobs b.target b.keyId } }).tkekMap, Cpl.ok))

/-- DESTROY_TRANSPORT_KEK: Security Send F0h 0004h. -/
def execDestroyTransportKek (h : Hdr) (index : Nat) (s : State) : Answer :=
  .next (s.keyRun h 0 fun a =>
    if 15 < index then refuse .invalidField a
    else (({ a with cipher := { a.cipher with
      tkeks := Tbl.del a.cipher.tkeks index
      tkekBlobs := Tbl.del a.cipher.tkekBlobs index } }).tkekMap, Cpl.ok))

/-- A namespace that a function's port owns (R80). -/
def State.ownNs (s : State) (f : Func) (nsid : Nat) : Option Ns :=
  match s.ns? nsid with
  | some n => if n.owner = s.portOfFn f then some n else none
  | none => none

/-- A key replacement begins: commands of the namespace that are fetched from now on wait, and it goes on once the
admitted ones have finished (R288). -/
def State.beginKey (s : State) (h : Hdr) (nsid origin keyId : Nat) (act : KeyAct) : State :=
  let s1 := s.modCtx h fun c => { c with wait := .erase }
  { s1 with cipher := { s1.cipher with
    works := s1.cipher.works ++ [KeyWork.mk (nsid - 1) (some h) origin keyId act] } }.settleKeys

/-- A key command that may wait: refused at once, or begun. -/
def State.keyStart (s : State) (h : Hdr) (len : Nat) (check : State → Option (State × Cpl)) (go : State → State) : Answer :=
  .next (s.startAdmin h State.adminGate fun a =>
    if !h.fn.isManager then a.finish h (Cpl.of .invalidField)
    else match a.adminBuffer h len with
      | some st => a.finish h (Cpl.of st)
      | none => match check a with
        | some (b, c) => b.finish h c
        | none => go a)

/-- SET_NAMESPACE_KEY: Security Send F0h 0002h. -/
def execSetNamespaceKey (h : Hdr) (b : KeyBlob) (s : State) : Answer :=
  s.keyStart h b.length (fun a =>
    if a.blobRefused b then some (a.refuseBlob b)
    else match a.ownNs h.fn b.target with
      | some n => if b.kind = n.keyKind then none else some (refuse .invalidField a)
      | none => some (refuse .invalidField a)) fun a => a.beginKey h b.target 2 b.keyId .replace

/-- GENERATE_NAMESPACE_KEY: Security Send F0h 0003h. -/
def execGenerateNamespaceKey (h : Hdr) (nsid : Nat) (s : State) : Answer :=
  s.keyStart h 0 (fun a => if (a.ownNs h.fn nsid).isSome then none else some (refuse .invalidField a)) fun a =>
    (a.newKey.2).beginKey h nsid 1 a.newKey.1 .replace

/-- KEY_STATUS_RECEIVE: Security Receive F0h 0001h, 16 bytes a namespace. -/
def execKeyStatusReceive (h : Hdr) (nsid : Nat) (s : State) : Answer :=
  let l := s.store.ns.filter fun e => nsid ≤ e.1 && e.2.owner = s.portOfFn h.fn
  .next (s.keyRun h (16 * l.length) fun a =>
    if (a.ns? nsid).isSome ∧ (a.ownNs h.fn nsid).isNone then refuse .invalidField a
    else
      (a.emit (.reply h (.list (l.flatMap fun e =>
        let q := a.keySlot (e.1 - 1)
        [e.1, q.kid, q.kind, q.origin]))), Cpl.ok))

/-- Whether a function may inject or clear Key Per I/O keys of a namespace (R287). -/
def State.kpioMay (s : State) (f : Func) (nsid : Nat) : Bool :=
  match s.ns? nsid with
  | none => false
  | some n => n.word.cipherMode = 0 && !n.word.keyMode
      && (if f.isManager then n.owner = s.portOfFn f else n.attached = [f.code])

/-- A Key Per I/O key is destroyed: its table entry, and its entry in every cell (R288). -/
def State.dropKpio (s : State) (nsid tag : Nat) : State :=
  let s1 := s.purgeKeys fun k => k ≠ .kpio (nsid - 1) tag
  { s1 with cipher := { s1.cipher with kpio := s1.cipher.kpio.filter fun e => !(e.1 = nsid && e.2.1 = tag) } }

/-- KPIO_KEYS counts them. -/
def State.countKpio (s : State) : State := s.keep Obj.kpioKeys s.cipher.kpio.length

/-- KEY_PER_IO_INJECT: a kind-4 blob under a transport KEK. -/
def execKeyPerIoInject (h : Hdr) (b : KeyBlob) (s : State) : Answer :=
  .next (s.runData h b.length fun a =>
    if !(a.kpioMay h.fn b.target) then refuse .invalidField a
    else if a.blobRefused b then a.refuseBlob b
    else if b.kind ≠ 4 ∨ b.wrap = 0 ∨ 1023 < b.keyTag then refuse .invalidField a
    else if (a.kpioKey b.target b.keyTag).isNone ∧ 65536 ≤ a.cipher.kpio.length then refuse .invalidField a
    else
      let a1 := a.dropKpio b.target b.keyTag
      ({ a1 with cipher := { a1.cipher with kpio := a1.cipher.kpio ++ [(b.target, b.keyTag, b.keyId)] } }.countKpio, Cpl.ok))

/-- KEY_PER_IO_CLEAR (R288). -/
def execKeyPerIoClear (h : Hdr) (nsid tag : Nat) (s : State) : Answer :=
  .next (s.run h fun a =>
    if !(a.kpioMay h.fn nsid) ∨ 1023 < tag then refuse .invalidField a
    else ((a.dropKpio nsid tag).countKpio, Cpl.ok))

end Sys2Proof.Machine
end

