-- ==== Sys2Proof/Machine/Dram.lean ====
section
/-! DEFINITION. The DRAM controller (R328 to R344): requests, correction by the byte-symbol code, the valid-bit scheme,
refresh, re-centring and the loss of a channel. -/
namespace Sys2Proof.Machine

/-! ### Channels and addresses (R329, R331) -/

def State.chan (s : State) (c : Nat) : DramChan := Tbl.get DramChan.reset s.mem.chans c

def State.setChan (s : State) (c : Nat) (x : DramChan) : State :=
  { s with mem := { s.mem with chans := Tbl.set DramChan.reset s.mem.chans c x } }

/-- Channels in the interleave: ACTIVE or in self-refresh. -/
def State.dramActive (s : State) : List Nat := (List.range 4).filter fun c => (s.chan c).state = 2 || (s.chan c).state = 3

/-- Data bytes of a rank by density code (R329). -/
def rankBytes (density : Nat) : Nat := (16 + 8 * density) * 2 ^ 30

/-- Data capacity of the active channels (0x2500.03). -/
def State.dramBytes (s : State) : Nat :=
  (s.dramActive.map fun c => (s.chan c).ranks * rankBytes (s.cfg Obj.dramDensity)).sum

/-- Channel of an address, and the address on it: 64 KiB granules over the active channels (R331). -/
def State.dramPlace (s : State) (a : Nat) : Nat × Nat :=
  let n := s.dramActive.length
  let g := a / 65536
  (s.dramActive.getD (g % n) 0, g / n * 65536 + a % 65536)

/-- Rank of an address on its channel: ranks follow one another (log entry 11). -/
def State.dramRank (s : State) (loc : Nat) : Nat := loc / rankBytes (s.cfg Obj.dramDensity)

/-! ### Errors in a burst (R258, R259) -/

/-- The device of a rank of a channel is marked. -/
def State.marked (s : State) (c rank dev : Nat) : Bool := (s.cfg Obj.dramMarks 0 c).testBit (10 * rank + dev)

/-- The rank has a mark. -/
def State.anyMark (s : State) (c rank : Nat) : Bool := (List.range 10).any (s.marked c rank)

/-- Words of a burst beyond correction: those the decoder calls so; those of a burst that names two positions; and with
a mark those that name any other device. -/
def State.badWords (s : State) (c rank : Nat) (e : DramErrors) : List Nat :=
  let named := (e.words.map fun w => w.2.val).eraseDups
  let more := if s.anyMark c rank then (e.words.filter fun w => !(s.marked c rank w.2.val)).map (·.1.val)
    else if 1 < named.length then e.words.map (·.1.val) else []
  ((e.uncorrectable.map (·.val)) ++ more).eraseDups

/-- A device is marked once 16 words have been corrected in its position within one second (R258). -/
def State.hitDevice (s : State) (c rank dev : Nat) : State :=
  if s.marked c rank dev then s
  else
    let k := (c * 4 + rank) * 10 + dev
    let l := ((Tbl.get [] s.mem.hits k) ++ [s.now]).filter fun t => s.now < t + 1000000000
    if 16 ≤ l.length then
      let s1 := { s with mem := { s.mem with hits := Tbl.set [] s.mem.hits k [] } }
      (s1.save Obj.dramMarks (s1.cfg Obj.dramMarks 0 c + 2 ^ (10 * rank + dev)) 0 c).record 0x0803 [c, rank, dev]
    else { s with mem := { s.mem with hits := Tbl.set [] s.mem.hits k l } }

/-- One corrected word: counted, logged, and towards a mark; kind 3 is a device symbol, 4 a marked-device erasure. -/
def State.wordCorrected (s : State) (c rank burst : Nat) (w : Nat × Nat) : State :=
  (s.corrected (5 + c)
    { count := 1, position := w.2, kind := if s.marked c rank w.2 then 4 else 3, rank := rank, firstS := 0,
      address := burst * 128 + 8 * w.1 }).hitDevice c rank w.2

/-- A write enters the channel's write queue; at 48 bursts the oldest drain until 16 are left (R336). -/
def State.queueWrite (s : State) (c burst : Nat) : State :=
  let x := s.chan c
  let w := x.writes ++ [burst]
  s.setChan c { x with writes := if 48 ≤ w.length then w.drop (w.length - 16) else w }

/-- What a read of a burst finds: corrections, each written back unless the mode only logs (R264, R265), and words that
fail again on the second read, which are poisoned (R259). -/
def State.readBurst (s : State) (c rank burst : Nat) (e : DramErrors) : State :=
  let bad := s.badWords c rank e
  let fixed := (e.words.map fun w => (w.1.val, w.2.val)).filter fun w => !(bad.contains w.1)
  let s1 := fixed.foldl (fun a w => a.wordCorrected c rank burst w) s
  let s2 := if fixed ≠ [] ∧ s.cfg Obj.ceMode 0 (5 + c) ≠ 2 then s1.queueWrite c burst else s1
  let lost := (bad.filter fun w => e.again.any (·.val = w)).map fun w => burst * 16 + w
  { s2 with mem := { s2.mem with poison := (s2.mem.poison ++ lost).eraseDups } }

/-- A read that meets pending writes of its burst waits until they have drained (R337). -/
def State.hazard (s : State) (c burst : Nat) : State :=
  let x := s.chan c
  if x.writes.contains burst then (s.setChan c { x with writes := x.writes.filter (· ≠ burst) }).bump Obj.hazardWaits else s

/-! ### Valid bits (R262, R263) -/

/-- A granule's valid bit. -/
def State.granuleValid (s : State) (g : Nat) : Bool :=
  !s.mem.filling || g < s.mem.fillAt || s.mem.valid.contains g

/-- Valid granules right above the fill join what lies below it. -/
def absorb (at_ : Nat) : List Nat → Nat × List Nat
  | [] => (at_, [])
  | g :: t => if g = at_ then absorb (at_ + 1) t else (at_, g :: t)

def insertNat (g : Nat) : List Nat → List Nat
  | [] => [g]
  | h :: t => if g < h then g :: h :: t else if g = h then h :: t else h :: insertNat g t

/-- The scheme ends when every bit is 1; 0x2347.02 shows how far it is. -/
def State.settleFill (s : State) : State :=
  let (f, v) := absorb s.mem.fillAt s.mem.valid
  if s.mem.granules ≤ f then
    ({ s with mem := { s.mem with filling := false, fillAt := f, valid := v } }.keep Obj.fillDonePct 100).settleRecovery
  else
    { s with mem := { s.mem with fillAt := f, valid := v } }.keep Obj.fillDonePct (100 * (f + v.length) / s.mem.granules)

/-- A write sets its granule's bit, filling the granule first where it covers only a part. -/
def State.validate (s : State) (g : Nat) : State :=
  if s.granuleValid g then s else { s with mem := { s.mem with valid := insertNat g s.mem.valid } }.settleFill

/-- VALID_BIT_GRANULE_FILL (R262): the background fill takes the lowest granule without its bit. -/
def execValidBitGranuleFill (s : State) : Answer :=
  if s.mem.filling then .next { s with mem := { s.mem with fillAt := s.mem.fillAt + 1 } }.settleFill else .next s

/-! ### Requests (R336 to R338) -/

/-- Bytes of a request within the burst of its address. -/
def burstPart (a n : Nat) : Nat := min n (128 - a % 128)

/-- A byte as the requester gets it: none where its word is poisoned. -/
def State.dramByte (s : State) (a : Nat) : Option Byte :=
  if s.mem.poison.contains (a / 8) then none else some (cellsRead s.mem.dram a)

/-- A read: zeros from a granule whose bit is 0, else the burst after any write pending to it. -/
def State.dramRead (s : State) (a n : Nat) (e : DramErrors) : State :=
  let (c, loc) := s.dramPlace a
  let m := burstPart a n
  if s.granuleValid (a / 65536) then
    let s1 := (s.hazard c (a / 128)).readBurst c (s.dramRank loc) (a / 128) e
    { s1 with mem := { s1.mem with answer := (List.range m).map fun i => s1.dramByte (a + i) } }
  else { s with mem := { s.mem with answer := List.replicate m (some 0) } }

/-- A write of a whole burst is queued; a part of one reads, merges and queues the burst, and leaves a word poisoned of
which it writes a part only (R338, R259). -/
def State.dramWrite (s : State) (a : Nat) (bs : List Byte) (e : DramErrors) : State :=
  let (c, loc) := s.dramPlace a
  let bytes := bs.take (burstPart a bs.length)
  let known := s.granuleValid (a / 65536)
  let s1 := if bytes.length = 128 ∨ !known then s else (s.hazard c (a / 128)).readBurst c (s.dramRank loc) (a / 128) e
  let whole := fun (w : Nat) => decide (a ≤ 8 * w ∧ 8 * w + 8 ≤ a + bytes.length)
  let s2 := { s1 with mem := { s1.mem with
    dram := cellsStore s1.mem.dram a bytes
    poison := s1.mem.poison.filter fun w => !(whole w) } }
  (s2.validate (a / 65536)).queueWrite c (a / 128)

/-- A channel takes requests: it is ACTIVE and its links are not parked (R19, R341). -/
def State.dramTakes (s : State) (c : Nat) : Bool := (s.chan c).state = 2 && !(s.cells.parked.contains (6 + c))

/-- Address of a request, and the address behind its last byte. -/
def dramFirst : DramOp → Nat
  | .read a _ => a
  | .write a _ => a

def dramEnd : DramOp → Nat
  | .read a n => a + n
  | .write a bs => a + bs.length

/-- A request that its channel takes is served. -/
def State.serveDram (s : State) (op : DramOp) (errs : DramErrors) : State :=
  match op with
  | .read a n => s.dramRead a n errs
  | .write a bs => s.dramWrite a bs errs

/-- A request reaches its channel's link: it is served, or waits in the parked link with its data (R19, R341). One that lies
beyond the data capacity reaches no rank and changes nothing (log entry 72). -/
def State.requestDram (s : State) (op : DramOp) (errs : DramErrors) : State :=
  if s.dramBytes < dramEnd op then s
  else if s.dramTakes (s.dramPlace (dramFirst op)).1 then s.serveDram op errs
  else { s with mem := { s.mem with requests := s.mem.requests ++ [(op, errs)] } }

/-- Requests held in parked links are sent on in the order they came; those of a channel still parked stay (R19, R342). -/
def State.settleDram (s : State) : State :=
  s.mem.requests.foldl (fun a r => a.requestDram r.1 r.2) { s with mem := { s.mem with requests := [] } }

/-- The links into the domains that `ready` names leave the parked state, and what they held goes on (R19). -/
def State.unpark (s : State) (ready : Nat → Bool) : State :=
  { s with cells := { s.cells with parked := s.cells.parked.filter fun d => !(ready d) } }.settleFabric.settleDram

/-- DRAM_REQUEST (R336 to R338). -/
def execDramRequest (op : DramOp) (errs : DramErrors) (s : State) : Answer := .next (s.requestDram op errs)

/-- DRAM_PATROL (R339): a read of a burst of a channel, whose finds are handled as any read's; the words of unfilled
granules are not read. -/
def execDramPatrol (ch : Fin 4) (address : Nat) (errs : DramErrors) (s : State) : Answer :=
  let (c, loc) := s.dramPlace address
  if address < s.dramBytes ∧ c = ch.val ∧ s.dramTakes c ∧ s.granuleValid (address / 65536) then
    .next ((s.hazard c (address / 128)).readBurst c (s.dramRank loc) (address / 128) errs)
  else .next s

/-! ### Loss of a channel (R335) -/

/-- A channel is lost: its record, the write-buffer rows of R260 for the slots it holds, and a restart into RECOVERY. -/
def State.loseDram (s : State) (c : Nat) : State :=
  let n := s.dramActive.length
  let i := s.dramActive.idxOf c
  let here := (s.store.slots.map (·.1)).filter fun k => Config.slotChannel k n % n = i
  let s1 := here.foldl (fun a k => a.slotWordLost k [0, 1, 2, 3]) (s.record 0x0C02 [c] 0xFFFF (6 + c))
  s1.restart 2

/-- DRAM_TIMEOUT (R335): of a channel that takes part. -/
def execDramTimeout (ch : Fin 4) (s : State) : Answer :=
  if (s.chan ch.val).state = 2 then .next (s.loseDram ch.val) else .next s

/-! ### Re-centring (R334) -/

/-- Narrowest window in steps that a lane needs (R332). -/
def State.minEye (s : State) : Nat := windowSteps (s.cfg Obj.minEyePct)

/-- DRAM_RECENTRE (R334): at the end of an interval the reading is compared with that of the last centring; moved by
0x2500.07, each rank takes a step, and the interval's work ends with the last. A window below the threshold retrains the rank,
and three failures lose the channel. -/
def execDramRecentre (ch : Fin 4) (rank : Fin 4) (celsius : Int) (window : Nat) (retrainOk : Bool) (t : Nat) (s : State) : Answer :=
  let s1 := s.tick t
  let x := s1.chan ch.val
  let task := Periodic.recentre ch.val
  let period := 1000000000 * s1.cfg Obj.recentreS
  if x.state ≠ 2 ∨ x.ranks ≤ rank.val ∨ !(s1.isDue task) then .next s1
  else if (celsius - x.centred).natAbs < s1.cfg Obj.dramRecentreDeg then .next (s1.taskDone task period)
  else
    let last := rank.val + 1 = x.ranks
    let s2 := (if last then s1.taskDone task period else s1).bump Obj.recentres
    let x1 := { x with centred := if last then celsius else x.centred, eyeMin := window }
    if s1.minEye ≤ window ∨ retrainOk then .next (s2.setChan ch.val x1)
    else .next ((s2.setChan ch.val { x1 with trainFails := x.trainFails + 3 }).loseDram ch.val)

/-! ### Refresh (R340) -/

/-- T in ns: 3.9 µs, or 1.95 µs at the doubled rate. -/
def DramChan.period (x : DramChan) : Nat := if x.hot then 1950 else 3900

/-- The grid of a rank from a moment on: ranks are staggered by T over their number. -/
def DramChan.grid (x : DramChan) (rank now : Nat) : Refresh :=
  let t := x.period
  let g := now + rank * t / x.ranks
  { slot := 0, base := g, period := t, due := g, postponed := false }

/-- A refresh is issued; one issued after its due time is late. -/
def State.issueRefresh (s : State) (c rank : Nat) (r : Refresh) : State :=
  let x := s.chan c
  let s1 := s.setChan c { x with refresh := Tbl.put x.refresh rank (r.after s.now x.period) }
  if r.due < s.now then s1.bump Obj.refLate else s1

/-- Last moment at which a postponed refresh is issued. -/
def State.refreshLimit (s : State) (r : Refresh) : Nat := r.at_ r.slot + s.cfg Obj.refPostpone * r.period

/-- REFRESH_DUE (R340): from its due time a refresh is issued, or, within the allowance and while reads wait,
postponed; a postponed one is issued when no read waits. -/
def execRefreshDue (ch : Fin 4) (rank : Fin 4) (t : Nat) (s : State) : Answer :=
  let s1 := s.tick t
  match (s1.chan ch.val).state, Tbl.find (s1.chan ch.val).refresh rank.val with
  | 2, some r =>
    if s1.now < r.due then .next s1
    else if r.postponed ∨ s1.refreshLimit r ≤ s1.now then .next (s1.issueRefresh ch.val rank.val r)
    else
      let s2 := { s1 with free := s1.free + 1 }
      if Config.postpones s1.free then
        let x := s2.chan ch.val
        .next (s2.setChan ch.val { x with refresh := Tbl.put x.refresh rank.val { r with postponed := true } })
      else .next (s2.issueRefresh ch.val rank.val r)
  | _, _ => .next s1

/-- REFRESH_POSTPONE_LIMIT (R340): a postponed refresh at its limit goes ahead of every request. -/
def execRefreshPostponeLimit (ch : Fin 4) (rank : Fin 4) (t : Nat) (s : State) : Answer :=
  let s1 := s.tick t
  match (s1.chan ch.val).state, Tbl.find (s1.chan ch.val).refresh rank.val with
  | 2, some r => if r.postponed ∧ s1.refreshLimit r ≤ s1.now then .next (s1.issueRefresh ch.val rank.val r) else .next s1
  | _, _ => .next s1

/-- MR4_POLL (R340): the rate the devices report; T changes with the next refresh. -/
def execMr4Poll (ch : Fin 4) (hot : Bool) (s : State) : Answer :=
  .next (s.setChan ch.val { s.chan ch.val with hot := hot })

/-- DCH_STATUS of a channel (0x2501). -/
def State.dchWord (s : State) (c : Nat) : Nat :=
  let x := s.chan c
  x.state * 2 ^ 28 + s.cfg Obj.dramRate % 4 * 2 ^ 26 + (x.ranks - 1) % 4 * 2 ^ 24 + s.cfg Obj.dramDensity % 4 * 2 ^ 22
    + x.hot.toNat * 2 ^ 21 + min 255 x.eyeMin * 256 + min 255 x.trainFails

end Sys2Proof.Machine
end

