-- ==== Sys2Proof/Machine/Admin.lean ====
section
/-! DEFINITION. Abort, asynchronous event requests, and the features of R348 (R87, R88, R93, R98, R105, R119, R205). -/
namespace Sys2Proof.Machine

/-! ### Modes that close a command -/

/-- A command that NVM Express does not serve during a sanitize ends Sanitize In Progress (R366). -/
def State.sanGate (s : State) : Option Status := if s.has Mode.sanitize then some .sanitizeInProgress else none

/-- A command of the manager functions that a sanitize closes. -/
def State.sanRun (s : State) (h : Hdr) (body : State → State × Cpl) : State :=
  s.managerRun h fun a => match a.sanGate with
    | some st => refuse st a
    | none => body a

/-! ### Abort (R119) -/

/-- A command leaves what it waits in: the outstanding event requests, the key replacements that have not begun. -/
def State.withdraw (s : State) (h : Hdr) : State :=
  let s1 := s.modFn h.fn fun x => { x with aers := x.aers.filter (· ≠ h) }
  { s1 with cipher := { s1.cipher with works := s1.cipher.works.filter fun w => w.cmd ≠ some h } }

/-- ABORT (R119): a target that is fetched, not admitted and has moved no data ends Command Abort Requested. -/
def execAbort (h : Hdr) (sqid cid : Nat) (s : State) : Answer :=
  .next (s.run h fun a =>
    let t : Hdr := ⟨h.fn, sqid, cid⟩
    match a.ctx? t with
    | some c =>
      if t ≠ h ∧ c.done = none ∧ !c.admitted ∧ !c.moved then
        ((a.withdraw t).finish t (Cpl.of .abortRequested), Cpl.ok0 0)
      else (a, Cpl.ok0 1)
    | none => (a, Cpl.ok0 1))

/-! ### Asynchronous Event Request (R83, R87) -/

/-- AERL of R83: 8 outstanding. -/
def aerLimit : Nat := 8

/-- ASYNCHRONOUS_EVENT_REQUEST: an event that is held completes it at once; else it stays outstanding. -/
def execAsynchronousEventRequest (h : Hdr) (s : State) : Answer :=
  .next (s.startAdmin h State.adminGate fun a =>
    let x := a.fn h.fn
    match x.events with
    | e :: t => (a.setFn h.fn { x with events := t }).finish h (Cpl.ok0 e.dw0)
    | [] =>
      if x.aers.contains h then a
      else if aerLimit ≤ x.aers.length then a.finish h (Cpl.of .aerLimit)
      else (a.setFn h.fn { x with aers := x.aers ++ [h] }).modCtx h fun c => { c with wait := .event })

/-! ### Features (R348) -/

/-- Whether a feature may be saved (R348). -/
def saveable (fid : Nat) : Bool := fid ∈ [0x01, 0x02, 0x04, 0x0B, 0x0C, 0xC2]

/-- Key of a feature value that has more than one part. -/
def featKey (fid part : Nat) : Nat := if part = 0 then fid else fid * 256 + part

/-- Values of a feature are stored, and saved with SV. -/
def State.storeFeat (s : State) (f : Func) (sv : Bool) (vals : List (Nat × Nat)) : State :=
  s.modFn f fun x => { x with
    feats := vals.foldl (fun t v => Tbl.put t v.1 v.2) x.feats
    savedFeats := if sv then vals.foldl (fun t v => Tbl.put t v.1 v.2) x.savedFeats else x.savedFeats }

/-- Set Features of a function: SV on a feature that is not saveable ends Feature Identifier Not Saveable (R348). -/
def State.setFeature (s : State) (h : Hdr) (fid : Nat) (sv : Bool) (body : State → State × Cpl) (len : Nat := 0) : Answer :=
  .next (s.runData h len fun a => if sv && !(saveable fid) then refuse .notSaveable a else body a)

/-- SET_ARBITRATION (R88). -/
def execSetArbitration (h : Hdr) (sv : Bool) (burst lpw mpw hpw : Nat) (s : State) : Answer :=
  s.setFeature h 0x01 sv fun a =>
    (a.storeFeat h.fn sv [(0x01, burst % 8 + 2 ^ 8 * (lpw % 256) + 2 ^ 16 * (mpw % 256) + 2 ^ 24 * (hpw % 256))], Cpl.ok)

/-- The state that the device follows: the lower-numbered of the managers' requests (R348, R395). -/
def State.askedState (s : State) : Nat :=
  let a := Tbl.get 0 s.power.requests 0
  if s.dual then min a (Tbl.get 0 s.power.requests 1) else a

/-- A power request of a port is taken: PS_TARGET shows it, and refusals of an earlier entry are forgotten (R395,
R399). -/
def State.requestPower (s : State) (p : Port) (ps : Nat) : State :=
  let s1 := { s with power := { s.power with requests := Tbl.set 0 s.power.requests (portNum p) ps } }
  let s2 := { s1 with power := { s1.power with target := s1.askedState, refusals := 0, retryAt := none } }
  s2.noteDefer

/-- SET_POWER_MANAGEMENT (R348, R395): PS 0 to 4 and WH 0, from a manager. -/
def execSetPowerManagement (h : Hdr) (sv : Bool) (ps wh : Nat) (s : State) : Answer :=
  s.setFeature h 0x02 sv fun a =>
    if !h.fn.isManager then refuse .notChangeable a
    else if 4 < ps ∨ wh ≠ 0 then refuse .invalidField a
    else ((a.storeFeat h.fn sv [(0x02, ps)]).requestPower (a.portOfFn h.fn) ps, Cpl.ok)

/-- SET_TEMPERATURE_THRESHOLD: composite, over and under, in K. -/
def execSetTemperatureThreshold (h : Hdr) (sv under : Bool) (kelvin : Nat) (s : State) : Answer :=
  s.setFeature h 0x04 sv fun a => (a.storeFeat h.fn sv [(featKey 0x04 under.toNat, kelvin % 65536)], Cpl.ok)

/-- SET_ERROR_RECOVERY: TLER has no effect; DULBE is 0 only. -/
def execSetErrorRecovery (h : Hdr) (sv : Bool) (tler : Nat) (dulbe : Bool) (s : State) : Answer :=
  s.setFeature h 0x05 sv fun a =>
    if dulbe then refuse .invalidField a else (a.storeFeat h.fn false [(0x05, tler % 65536)], Cpl.ok)

/-- SET_VOLATILE_WRITE_CACHE. -/
def execSetVolatileWriteCache (h : Hdr) (sv wce : Bool) (s : State) : Answer :=
  s.setFeature h 0x06 sv fun a => (a.storeFeat h.fn false [(0x06, wce.toNat)], Cpl.ok)

/-- Dword 0 of Number of Queues: the function's queue limit, 0-based, twice (R74, R83). -/
def State.queueCount (s : State) (f : Func) : Nat :=
  let n := s.qidLimit f - 1
  n + 2 ^ 16 * n

/-- SET_NUMBER_OF_QUEUES (R74): Command Sequence Error once an I/O queue has been created. -/
def execSetNumberOfQueues (h : Hdr) (sv : Bool) (nsqr ncqr : Nat) (s : State) : Answer :=
  s.setFeature h 0x07 sv fun a =>
    let x := a.fn h.fn
    if x.ioMade then refuse .sequenceError a
    else if nsqr = 65535 ∨ ncqr = 65535 then refuse .invalidField a
    else (a, Cpl.ok0 (a.queueCount h.fn))

/-- SET_INTERRUPT_COALESCING (R105): stored; no effect. -/
def execSetInterruptCoalescing (h : Hdr) (sv : Bool) (dw11 : Nat) (s : State) : Answer :=
  s.setFeature h 0x08 sv fun a => (a.storeFeat h.fn false [(0x08, dw11 % 65536)], Cpl.ok)

/-- SET_INTERRUPT_VECTOR_CONFIGURATION (R105): vector 0 only; no effect. -/
def execSetInterruptVectorConfiguration (h : Hdr) (sv : Bool) (iv : Nat) (cd : Bool) (s : State) : Answer :=
  s.setFeature h 0x09 sv fun a =>
    if iv ≠ 0 then refuse .invalidField a else (a.storeFeat h.fn false [(0x09, 2 ^ 16 * cd.toNat)], Cpl.ok)

/-- SET_WRITE_ATOMICITY_NORMAL: no effect. -/
def execSetWriteAtomicityNormal (h : Hdr) (sv dn : Bool) (s : State) : Answer :=
  s.setFeature h 0x0A sv fun a => (a.storeFeat h.fn false [(0x0A, dn.toNat)], Cpl.ok)

/-- Event classes that feature 0Bh enables; Telemetry (bit 10) is 0 only (R348). -/
def eventMask : Nat := 0x180003FF

/-- SET_ASYNC_EVENT_CONFIGURATION. -/
def execSetAsyncEventConfiguration (h : Hdr) (sv : Bool) (dw11 : Nat) (s : State) : Answer :=
  s.setFeature h 0x0B sv fun a =>
    if dw11.testBit 10 then refuse .invalidField a else (a.storeFeat h.fn sv [(0x0B, dw11 &&& eventMask)], Cpl.ok)

/-- SET_AUTONOMOUS_POWER_STATE_TRANSITION (R348, R396): managers only; an entry names no state, or PS3 or PS4 after at
least 100 ms. -/
def execSetAutonomousPowerStateTransition (h : Hdr) (sv enable : Bool) (table : List (Nat × Nat)) (s : State) : Answer :=
  s.setFeature h 0x0C sv (fun a =>
    if !h.fn.isManager then refuse .invalidField a
    else if (table.take 32).any (fun e => !((e.1 = 0 && e.2 = 0) || ((e.1 = 3 || e.1 = 4) && 100 ≤ e.2))) then
      refuse .invalidField a
    else
      (a.storeFeat h.fn sv ((0x0C, enable.toNat) :: ((table.take 32).zipIdx.flatMap fun e =>
        [(featKey 0x0C (2 * e.2 + 1), e.1.1), (featKey 0x0C (2 * e.2 + 2), e.1.2)])), Cpl.ok)) 256

/-- SET_TIMESTAMP (R348, R419): a manager sets the host clock and leaves a time step record; an instance sets only what
its own Get Features returns. -/
def execSetTimestamp (h : Hdr) (sv : Bool) (ms : Nat) (s : State) : Answer :=
  s.setFeature h 0x0E sv (fun a =>
    let v := ms % 2 ^ 48
    if h.fn.isManager then
      let old := a.hostMs
      let a1 := { a with sampler := { a.sampler with
        clockBase := (v + 2 ^ 48 - a.upNs / 1000000 % 2 ^ 48) % 2 ^ 48
        tsOrigin := 1 } }
      (a1.record 0x0003 [lowWord old, highWord old, lowWord v, highWord v], Cpl.ok)
    else (a.storeFeat h.fn false [(0x0E, (v + 2 ^ 48 - a.upNs / 1000000 % 2 ^ 48) % 2 ^ 48)], Cpl.ok)) 8

/-- SET_FDP (R149, R159): only while no namespace exists. -/
def execSetFdp (h : Hdr) (sv enable : Bool) (config : Nat) (s : State) : Answer :=
  s.setFeature h 0x1D sv fun a =>
    if a.store.ns ≠ [] then refuse .sequenceError a
    else if 1 < config then refuse .invalidField a
    else ({ a with store := { a.store with fdp := if enable then some config else none } }, Cpl.ok)

/-- SET_FDP_EVENTS (R161, R348). -/
def execSetFdpEvents (h : Hdr) (sv enable : Bool) (types : List Nat) (s : State) : Answer :=
  s.setFeature h 0x1E sv (fun a =>
    if a.store.fdp.isNone then refuse Status.fdpDisabled a
    else
      let rest := a.store.fdpTypes.filter fun t => !(types.contains t)
      ({ a with store := { a.store with fdpTypes := if enable then rest ++ types.eraseDups else rest } }, Cpl.ok)) types.length

/-- SET_COMPLETION_SUMMARY_LINE (R93): refused values leave the line alone; EN 1 is a fresh enable, whose first image is
written at once with SEQ 1 (R95); EN 0 stops it (R100). Bits [31:8] of CDW13 are reserved (R8). -/
def execSetCompletionSummaryLine (h : Hdr) (sv en : Bool) (address cdw13 : Nat) (s : State) : Answer :=
  s.setFeature h 0xC0 sv fun a =>
    let delay := cdw13 % 256
    if 80 < delay ∨ (en ∧ address / 64 = 0) then refuse .invalidField a
    else if en then
      let b := a.modFn h.fn fun x => { x with
        lineDelay := delay
        line := some {
          address := address / 64 * 64, delay := delay, seq := 0, posted := 0, cqMap := 0, admin := false
          paused := false, due := false } }
      (b.writeLine h.fn, Cpl.ok)
    else (a.modFn h.fn fun x => { x with line := none, lineDelay := delay }, Cpl.ok)

/-- A manager's instance summary and its DELAY (R98). -/
def State.setSummary (s : State) (p : Port) (m : Option ISum) (delay : Nat) : State :=
  match p with
  | .a => { s with host := { s.host with isumA := m, isumDelays := (delay, s.host.isumDelays.2) } }
  | .b => { s with host := { s.host with isumB := m, isumDelays := (s.host.isumDelays.1, delay) } }

/-- SET_INSTANCE_SUMMARY (R98): managers only; both halves are written when it is enabled. Bits [31:8] of CDW13 are reserved
(R8). -/
def execSetInstanceSummary (h : Hdr) (sv en : Bool) (address cdw13 : Nat) (s : State) : Answer :=
  s.setFeature h 0xC1 sv fun a =>
    let delay := cdw13 % 256
    if !h.fn.isManager ∨ 80 < delay ∨ (en ∧ address / 128 = 0) then refuse .invalidField a
    else
      let p := a.portOfFn h.fn
      let base := address / 128 * 128
      let lo := a.summaryHalf p false
      let hi := a.summaryHalf p true
      if en then
        let b := a.setSummary p (some { address := base, delay := delay, lower := lo, upper := hi, rose := [] }) delay
        ((b.emit (.summary p base false lo)).emit (.summary p base true hi), Cpl.ok)
      else (a.setSummary p none delay, Cpl.ok)

/-- Blocks that hold a copy of a unit of a namespace, and the entries that name them (R206). -/
def State.stalePlaces (s : State) (nsid : Nat) : List MapEntry :=
  (s.store.media.filter fun e => e.2.nsid = nsid && (e.2.unit, e.1) ∉ (s.store.ns.flatMap fun n =>
    if n.1 = nsid then n.2.map.map fun m => (m.1, m.2.key) else [])).filterMap fun e =>
      let key := e.1
      (s.store.stripes.flatMap fun t => (List.range t.2.next).map (t.2.entryOf t.2.slc)).find? fun p => p.key = key

/-- SET_SECURE_DISCARD (R205): a manager, a page-mapped namespace of its port; EN 1 marks the superseded copies that exist
(R206); each change appends an NSCFG record. SV changes nothing: every setting is journaled, so that it is kept over a boot,
and the saved value is the current one (DESIGN CHOICE, log entry 131). -/
def execSetSecureDiscard (h : Hdr) (sv : Bool) (nsid : Nat) (en : Bool) (s : State) : Answer :=
  s.setFeature h 0xC2 sv fun a =>
    match a.ownNs h.fn nsid with
    | none => refuse .invalidField a
    | some n =>
      if !h.fn.isManager ∨ n.kind = .zoned then refuse .invalidField a
      else
        let a1 := a.setNs nsid { n with secureDiscard := en }
        let a2 := if en then (a.stalePlaces nsid).foldl (fun b e => b.superseded { n with secureDiscard := true } e) a1 else a1
        ((if n.secureDiscard = en then a2 else a2.journal (.nscfg (nsid - 1) (if en then 4 else 5))), Cpl.ok)

/-! ### Get Features (R348) -/

/-- Features that a function has: 0Ch and C1h are the managers' (R348, R98). -/
def hasFeature (f : Func) (fid : Nat) : Bool :=
  fid ∈ [0x01, 0x02, 0x04, 0x05, 0x06, 0x07, 0x08, 0x09, 0x0A, 0x0B, 0x0E, 0x1D, 0x1E, 0xC0, 0xC2]
    || (f.isManager && fid ∈ [0x0C, 0xC1])

/-- Default of a feature's Dword 0 (R348). -/
def State.featDefault (s : State) (f : Func) (fid part : Nat) : Nat :=
  if fid = 0x01 then 3
  else if fid = 0x04 then (if part = 0 then 378 else 253)
  else if fid = 0x06 then 1
  else if fid = 0x07 then s.queueCount f
  else if fid = 0x0B then eventMask
  else 0

/-- Part of a feature that CDW11 selects: the under threshold of 04h. -/
def featPart (fid dw11 : Nat) : Nat := if fid = 0x04 ∧ dw11 / 2 ^ 20 % 4 = 1 then 1 else 0

/-- Dword 0 of a feature's current value. -/
def State.featNow (s : State) (f : Func) (fid nsid dw11 : Nat) : Nat :=
  let x := s.fn f
  if fid = 0x02 then s.power.current
  else if fid = 0x07 then s.queueCount f
  else if fid = 0x1D then (match s.store.fdp with
    | some c => 1 + 2 ^ 8 * c
    | none => 0)
  else if fid = 0xC0 then x.line.isSome.toNat + 2 ^ 8 * x.lineDelay
  else if fid = 0xC1 then
    (if f = .pf0 then s.host.isumA.isSome.toNat + 2 ^ 8 * s.host.isumDelays.1
      else s.host.isumB.isSome.toNat + 2 ^ 8 * s.host.isumDelays.2)
  else if fid = 0xC2 then ((s.ns? nsid).elim false (·.secureDiscard)).toNat
  else Tbl.get (s.featDefault f fid (featPart fid dw11)) x.feats (featKey fid (featPart fid dw11))

/-- The timestamp that a function reads: the host clock, or its own (R419). -/
def State.timestampOf (s : State) (f : Func) : Nat :=
  match Tbl.find (s.fn f).feats 0x0E with
  | some b => (b + s.upNs / 1000000) % 2 ^ 48
  | none => s.hostMs

/-- Data that Get Features returns beside Dword 0. -/
def State.featData (s : State) (f : Func) (fid : Nat) : Option (List (Nat × Nat)) :=
  let x := s.fn f
  if fid = 0x0C then some ((List.range 32).map fun i => (8 * i,
    2 ^ 3 * Tbl.get 0 x.feats (featKey 0x0C (2 * i + 1)) + 2 ^ 8 * Tbl.get 0 x.feats (featKey 0x0C (2 * i + 2))))
  else if fid = 0x0E then some [(0, s.timestampOf f),
    (6, 2 * (if (Tbl.find x.feats 0x0E).isSome then 1 else s.sampler.tsOrigin))]
  else if fid = 0x1E then some (s.store.fdpTypes.zipIdx.map fun e => (e.2, e.1))
  else none

/-- Bytes of the data that Get Features returns: the table of feature 0Ch, the timestamp, a byte for each FDP event type. -/
def featBytes (fid types : Nat) : Nat := if fid = 0x0C then 256 else if fid = 0x0E then 8 else types

/-- Capabilities that SEL 3 returns: saveable, namespace-specific, changeable. -/
def featCaps (f : Func) (fid : Nat) : Nat :=
  (saveable fid).toNat + 2 * (decide (fid = 0xC2)).toNat + 4 * (f.isManager || fid ≠ 0x02).toNat

/-- GET_FEATURES (R348): SEL 0 current, 1 default, 2 saved, 3 capabilities. -/
def execGetFeatures (h : Hdr) (fid sel nsid dw11 : Nat) (s : State) : Answer :=
  .next (s.runRead h fun a =>
    if !(hasFeature h.fn fid) ∨ 3 < sel then refuse .invalidField a
    else if fid = 0xC2 ∧ (a.ns? nsid).isNone then refuse .invalidNamespace a
    else if sel = 3 then (a, Cpl.ok0 (featCaps h.fn fid))
    else
      let d := a.featDefault h.fn fid (featPart fid dw11)
      let key := featKey fid (featPart fid dw11)
      let v := if sel = 1 then d
        else if sel = 2 then (if saveable fid ∧ fid ≠ 0xC2 then Tbl.get d (a.fn h.fn).savedFeats key else a.featNow h.fn fid nsid dw11)
        else a.featNow h.fn fid nsid dw11
      match a.featData h.fn fid with
      | some w => a.buffered h (featBytes fid w.length) fun b => (b.emit (.reply h (.words w)), Cpl.ok0 v)
      | none => (a, Cpl.ok0 v))

end Sys2Proof.Machine
end

