-- ==== Sys2Proof/Machine/Sampler.lean ====
section
/-! DEFINITION. The Sampler: records, flushes, the two areas, cursors, the window and log page D0h (R303, R304,
R416 to R429). -/
namespace Sys2Proof.Machine

/-! ### The chain (R303, R304) -/

/-- The first 56 bytes of a record (R416). -/
def Rec.bytes (r : Rec) : List Byte :=
  bytesLE 8 r.seq ++ bytesLE 6 r.hostMs ++ bytesLE 1 (r.tsOrigin % 8 + 16 * (r.severity % 8)) ++ bytesLE 1 r.domain
    ++ bytesLE 7 r.powerOnUs ++ bytesLE 1 r.boot ++ bytesLE 2 r.code ++ bytesLE 2 r.suppressed ++ bytesLE 2 r.subject
    ++ bytesLE 2 0 ++ ((List.range 6).flatMap fun i => bytesLE 4 (r.params.getD i 0))

/-- The link of a record after a link. -/
def linkOf (prev : Nat) (r : Rec) : Nat := natLE ((sha256 (bytesLE 8 prev ++ r.bytes)).take 8)

/-- Records in order take their links; the last link goes on. -/
def chain (prev : Nat) : List Rec → List Rec × Nat
  | [] => ([], prev)
  | r :: t =>
    let l := linkOf prev r
    let rest := chain l t
    ({ r with link := l } :: rest.1, rest.2)

/-- SEQs at which a run of records breaks the chain (R304). -/
def breaks (prev : Nat) : List Rec → List Nat
  | [] => []
  | r :: t => if linkOf prev r = r.link then breaks r.link t else r.seq :: breaks r.link t

/-- The same from the first record there is: the link before it is 0 for SEQ 0, and not known otherwise. -/
def breaksOf : List Rec → List Nat
  | [] => []
  | r :: t => if r.seq = 0 then breaks 0 (r :: t) else breaks r.link t

/-! ### The areas (R423, R425) -/

/-- Records that the circulating area keeps. -/
def circSize : Nat := 262144

/-- NEWEST, OLDEST and FIRST_LAST of R426; 0 while nothing is stored. -/
def Sampler.newest (x : Sampler) : Nat := (x.circ.getLast?).elim 0 (·.seq)
def Sampler.oldest (x : Sampler) : Nat := (x.circ.head?).elim 0 (·.seq)
def Sampler.firstLast (x : Sampler) : Nat := (x.first.getLast?).elim 0 (·.seq)

/-- The stored record of a SEQ. -/
def Sampler.stored (x : Sampler) (seq : Nat) : Option Rec :=
  (x.circ.find? (·.seq = seq)).or (x.first.find? (·.seq = seq))

/-! ### Flushes (R421 to R423, R429) -/

/-- A flush may run: not in IDLE, AIRING, HOLD-UP or CRYPTO_HALT (R422, R474). -/
def State.flushOpen (s : State) : Bool :=
  !(s.has Mode.idle) && !(s.has Mode.airing) && !(s.has Mode.holdUp) && s.cfg Obj.cryptoState ≠ 2

/-- The records dropped record behind the pending ones (R421), and after them the log cleared record of a clear (R429);
each takes the next SEQ. -/
def State.closing (s : State) : List Rec × Nat :=
  let n := s.sampler.next
  let drop : List Rec := if s.sampler.dropped = 0 then []
    else [{ s.makeRec 0x0004 0xFFFF 0xFF [s.sampler.dropped, lowWord s.sampler.dropAfter,
      highWord s.sampler.dropAfter] with seq := n }]
  let m := n + drop.length
  let last := m - 1
  let clear : List Rec := if s.sampler.clearDue then
      [{ s.makeRec 0x0005 0xFFFF 0xFF [lowWord last, highWord last] with seq := m }] else []
  (drop ++ clear, m + clear.length)

/-- A flush takes every pending record, in SEQ order, the record of HOLD-UP's slot among them, with their links. -/
def State.startFlush (s : State) : State :=
  let add := s.closing
  let held := s.sampler.holdSlot.toList
  let pend := s.sampler.buf.filter (fun r => held.all fun q => r.seq < q.seq) ++ held
    ++ s.sampler.buf.filter (fun r => held.any fun q => q.seq < r.seq)
  let got := chain s.sampler.link (pend ++ add.1)
  { s with sampler := { s.sampler with
    buf := []
    holdSlot := none
    next := add.2
    flushing := some got.1
    link := got.2
    due := false
    clearDue := false
    dropped := 0 } }

/-- There is something to flush. -/
def State.toFlush (s : State) : Bool :=
  s.sampler.buf ≠ [] || s.sampler.holdSlot.isSome || s.sampler.dropped ≠ 0 || s.sampler.clearDue

/-- Interval of the timed flush, in ns (R422). -/
def State.flushNs (s : State) : Nat := s.cfg Obj.flushS * 1000000000

/-- A flush starts if one is due and none runs; the interval of the timed flush runs from it. -/
def State.beginFlush (s : State) : State :=
  if s.sampler.flushing.isNone ∧ s.toFlush then s.startFlush.startTask Periodic.flush s.flushNs
  else { s with sampler := { s.sampler with due := s.sampler.due && s.toFlush } }

/-- The records of a flush are stored: the circulating area keeps the newest 262,144, the first area those below
FIRST_BASE + 4,096; a log cleared record starts both areas anew. -/
def Sampler.keepRecs (x : Sampler) (recs : List Rec) : Sampler :=
  match recs.find? (·.code = 0x0005) with
  | some c =>
    let l := recs.filter fun r => c.seq ≤ r.seq
    { x with circ := l, first := l.filter (fun r => r.seq < c.seq + 4096), firstBase := c.seq }
  | none =>
    let all := x.circ ++ recs
    { x with
      circ := all.drop (all.length - circSize)
      first := x.first ++ recs.filter fun r => r.seq < x.firstBase + 4096 }

/-- Mode changes that waited for room apply in order (R369, R421). -/
def State.applyWaiting (s : State) : State :=
  let l := s.sampler.waiting
  l.foldl (fun a c => a.changeModes c.set c.clear c.cause) { s with sampler := { s.sampler with waiting := [] } }

/-- Pages of a flush: 256 records each, those of number i from n on (R423). -/
def pagesOf (recs : List Rec) : List (List Rec) := (List.range (ceilDiv recs.length 256)).map fun i => (recs.drop (256 * i)).take 256

/-- A copy of a page is marked bad after its third failed program; copies are numbered two to a page (R52, R423). -/
def copyBad (fails : List Nat) (i : Nat) : Bool := 3 ≤ fails.getD i 0

/-- The records of a flush whose pages have programmed in one copy at least (R418). -/
def programmedRecs (recs : List Rec) (fails : List Nat) : List Rec :=
  (pagesOf recs).zipIdx.flatMap fun e => if copyBad fails (2 * e.2) && copyBad fails (2 * e.2 + 1) then [] else e.1

/-- A flush ends; `fails` counts the failed programs of each copy of its pages, in order. -/
def State.endFlush (s : State) (fails : List Nat) : State :=
  match s.sampler.flushing with
  | none => s
  | some recs =>
    let s1 := { s with sampler := { s.sampler.keepRecs (programmedRecs recs fails) with flushing := none } }
    let bad := (List.range (2 * (pagesOf recs).length)).countP (copyBad fails)
    ((if bad = 0 then s1 else s1.bump Obj.copiesBad bad)).applyWaiting

/-- SAMPLER_FLUSH (R422): one flush at a time; a trigger that has come meanwhile stays due. -/
def execSamplerFlush (s : State) : Answer :=
  if s.sampler.due ∧ s.flushOpen then .next s.beginFlush else .next s

/-- SAMPLER_FLUSH_TIMER (R127, R422): a periodic task of 0x2060.01 seconds. -/
def execSamplerFlushTimer (t : Nat) (s : State) : Answer :=
  let s1 := s.tick t
  if s1.flushOpen ∧ s1.isDue Periodic.flush then
    .next ({ s1.beginFlush with sched := s1.sched }.taskDone Periodic.flush s1.flushNs)
  else .next s1

/-- SAMPLER_FLUSH_DONE (R423): the pages have programmed, or not, after so many failures of each copy. A trigger that came
during the flush starts another. -/
def execSamplerFlushDone (fails : List Nat) (s : State) : Answer :=
  if s.sampler.flushing.isNone then .next s
  else
    let s1 := s.endFlush fails
    .next (if s1.sampler.due ∧ s1.flushOpen then s1.beginFlush else s1)

/-- A flush runs to its end, after one that is in progress. -/
def State.flushNow (s : State) : State :=
  let s1 := s.endFlush []
  if s1.toFlush then (s1.startFlush.endFlush []).startTask Periodic.flush s.flushNs else s1

/-! ### Events (R417, R420) -/

/-- Codes of R417 that an event of the hardware may enter by itself: the limited codes, and chain breaks. -/
def eventCodes : List Nat :=
  [0x0006, 0x0101, 0x0102, 0x0103, 0x0201, 0x0202, 0x0301, 0x0401, 0x0402, 0x0501, 0x0502, 0x0503, 0x0601, 0x0602, 0x0603,
   0x0701, 0x0702, 0x0703, 0x0704, 0x0705, 0x0706, 0x0801, 0x0802, 0x0803, 0x0804, 0x0901, 0x0902, 0x0903, 0x0904, 0x0A01,
   0x0B01, 0x0B02, 0x0C01, 0x0C02, 0x0C03, 0x0D01, 0x0D02, 0x0F01, 0x0F02, 0x0F03, 0x0F04]

/-- RECORD_ENTER (R418, R420, R421). -/
def execRecordEnter (code subject domain : Nat) (params : List Nat) (s : State) : Answer :=
  if eventCodes.contains code then
    .next (s.record code ((params.take 6).map (· % 2 ^ 32)) (subject % 65536) (domain % 256))
  else .next s

/-- RATE_BUCKET_REFILL (R420): a bucket that reaches one token records the code's last suppressed event. -/
def execRateBucketRefill (code t : Nat) (s : State) : Answer :=
  let s1 := s.tick t
  let b := s1.bucket code
  match b.last with
  | some r =>
    if oneToken ≤ b.level then
      .next ((s1.setBucket code { b with level := b.level - oneToken, suppressed := 0, last := none }).enter
        { r with suppressed := min 65535 (b.suppressed - 1) })
    else .next s1
  | none => .next s1

/-! ### Reading (R425 to R427, R429) -/

/-- An accessor's own part of the dictionary. -/
def AccSt.init : AccSt := { staged := [], reason := 0, cursor := 0 }

def State.acc (s : State) (c : Nat) : AccSt := Tbl.get AccSt.init s.dict.accs c

def State.setAcc (s : State) (c : Nat) (x : AccSt) : State :=
  { s with dict := { s.dict with accs := Tbl.set AccSt.init s.dict.accs c x } }

/-- A read up to a SEQ above NEWEST first runs a flush while records are pending. -/
def State.reach (s : State) (seq : Nat) : State :=
  if (s.sampler.circ = [] ∨ s.sampler.newest < seq) ∧ 0 < s.pendingRecs ∧ s.flushOpen then s.flushNow else s

/-- A record as the 64 bytes of a slot, little-endian; an empty slot is all ones. -/
def slotWord : Option Rec → Nat
  | some r => natLE (r.bytes ++ bytesLE 8 r.link)
  | none => 2 ^ 512 - 1

/-- WINDOW_SLOT_READ (R425): a manager or the port reads slot k of its window. -/
def execWindowSlotRead (acc : Accessor) (slot : Fin 16) (s : State) : Answer :=
  if Accessor_manages acc then
    let seq := (s.acc acc.code).cursor + slot.val
    let s1 := s.reach seq
    .next (s1.emit (.object acc.code (Obj.window.key 0 slot.val) (slotWord (s1.sampler.stored seq))))
  else .next s

/-- CURSOR_ADVANCE (R425): a write of TRUE to 0x6100.09. -/
def execCursorAdvance (acc : Accessor) (s : State) : Answer :=
  if Accessor_manages acc then
    let x := s.acc acc.code
    .next (s.setAcc acc.code { x with cursor := (x.cursor + 16) % 2 ^ 64 })
  else .next s

/-- SAMPLER_CLEAR (R429): FACTORY only; both areas are erased at the next flush. -/
def execSamplerClear (acc : Accessor) (s : State) : Answer :=
  if Accessor_manages acc ∧ s.has Mode.factory then .next { s with sampler := { s.sampler with clearDue := true } } else .next s

/-- Stored records from a SEQ up, in order. -/
def Sampler.from_ (x : Sampler) (seq : Nat) : List Rec :=
  let low := (x.circ.head?).elim 0 (·.seq)
  (x.first.filter fun r => seq ≤ r.seq && r.seq < low) ++ x.circ.filter fun r => seq ≤ r.seq

/-- What a D0h read returns from a cursor: the records, and the cursor that follows the last one scanned. -/
def Sampler.scan (x : Sampler) (cursor : Nat) (subject : Option Nat) : List Rec × Nat :=
  match subject with
  | none =>
    let l := (x.from_ cursor).take 16
    (l, (l.getLast?).elim cursor (·.seq + 1))
  | some n =>
    let l := (x.from_ cursor).take 4096
    let hits := (l.filter fun r => r.subject = n).take 16
    let last := if hits.length < 16 then l.getLast? else hits.getLast?
    (hits, last.elim cursor (·.seq + 1))

/-- Bytes that a Get Log Page of NUMD returns of a page of so many (NVM Express: NUMD is 0-based, in dwords). -/
def logBytes (numd page : Nat) : Nat := min page (4 * (numd + 1))

/-- SAMPLER_WINDOW_LOG (R426, R427): log page D0h; an instance reads its own records only. -/
def execSamplerWindowLog (h : Hdr) (advance : Bool) (offset numd : Nat) (s : State) : Answer :=
  .next (s.runRead h fun z => z.buffered h (logBytes numd 1088) fun a =>
    if offset ≠ 0 then refuse .invalidField a
    else
      let c := h.fn.accessor.code
      let x := a.acc c
      let subject := if h.fn.isManager then none else some h.fn.code
      let b := a.reach (x.cursor + 15)
      let got := b.sampler.scan x.cursor subject
      let hits := got.1
      let next := got.2
      let header := [(0, x.cursor), (64, b.sampler.oldest), (128, b.sampler.newest), (192, b.sampler.firstLast), (256, next),
        (320, hits.length), (328, (!h.fn.isManager).toNat)]
      let d := b.emit (.reply h (.sampler header ((List.range (logBytes numd 1088 / 64 - 1)).map fun i => hits[i]?)))
      (if advance then d.setAcc c { x with cursor := next } else d, Cpl.ok))

end Sys2Proof.Machine
end

