-- ==== Sys2Proof/Machine/Namespaces.lean ====
section
/-! DEFINITION. Namespace Management and Attachment, Format NVM (R80, R149 to R154, R177 to R179, R288). -/
namespace Sys2Proof.Machine

def Status.attachLimit : Status := ⟨1, 0x27⟩

/-! ### What a namespace takes (R177 to R179) -/

/-- Data bytes of one four-plane block: D of R177. -/
def State.blockBytes (s : State) : Nat := planes * s.blockPages * 16384

/-- Blocks of a member of each stripe: W + 1 + Qp. -/
def stripeWidth (w : Nat) (q : Bool) : Nat := w + 1 + q.toNat

/-- Blocks that a namespace reserves (R177). -/
def State.blocksFor (s : State) (zoned : Bool) (nsze w : Nat) (q : Bool) (r : Nat) : Nat :=
  if zoned then (if s.zsze w = 0 then 0 else nsze / s.zsze w) * stripeWidth w q
  else if s.blockBytes = 0 then 0
  else ceilDiv (nsze * 4096 * 10000) ((10000 - r) * w * s.blockBytes) * stripeWidth w q

/-- DRAM bytes of a namespace's map and digest contexts (R149, R179). -/
def State.mapBytesFor (s : State) (zoned : Bool) (nsze w : Nat) (q digest : Bool) (active : Nat) : Nat :=
  if zoned then
    (if s.zsze w = 0 then 0 else nsze / s.zsze w) * (32 + 4 * stripeWidth w q) + (if digest then 128 * active else 0)
  else 5 * (nsze / 4)

/-- Bytes of the dirty bitmaps in force (R179, R485). -/
def State.dirtyMapBytes (s : State) : Nat :=
  (s.migration.dirty.map fun e => (s.ns? (e.1 % 4096 + 1)).elim 0 fun n => ceilDiv (ceilDiv n.nsze 4) 8).sum

/-- DRAM that the table of R179 takes. -/
def State.dramTaken (s : State) : Nat :=
  2 ^ 31 + s.cfg Obj.journalBytes + s.dirtyLimit + 32 * (s.attachedLuns.map s.lunBlocks).sum
    + (s.store.ns.map (·.2.mapBytes)).sum + s.dirtyMapBytes

/-- 0x2400.02 DRAM_FREE. -/
def State.dramLeft (s : State) : Nat := s.dramBytes - s.dramTaken

/-- 0x2480.02: active zones that no namespace reserves. -/
def State.activeFree (s : State) : Nat :=
  16384 - (s.store.ns.map fun e => if e.2.kind = .zoned then e.2.maxActive else 0).sum

/-! ### Create (R153, R154) -/

/-- Width of the reclaim units of an FDP configuration (R159). -/
def fdpWidth (config : Nat) : Nat := if config = 1 then 7 else 31

/-- The creation word in force: the Reset column of R153 where BLOCK_VER is 0, in which case the host's fields are ignored. A
limit of 0 on a zoned namespace selects 1,024 too. -/
def NsArgs_word (a : NsArgs) : CreationWord :=
  let w := a.word
  if w.blockVer = 0 then
    { maxOpen := 1024, maxActive := 1024, stripeData := 0, qParity := false, contract := false, cipherMode := 0, keyMode := false
      digest := false, noCoalesce := false, blockVer := 0 }
  else if a.csi = 2 then
    { w with
      maxActive := if w.maxActive = 0 then 1024 else w.maxActive
      maxOpen := if w.maxOpen = 0 then min 1024 (if w.maxActive = 0 then 1024 else w.maxActive) else w.maxOpen }
  else w

/-- The data width in force: the configuration's on a flexible-placement namespace (R153, R159). -/
def State.widthFor (s : State) (a : NsArgs) : Nat :=
  match s.store.fdp with
  | some c => if a.csi = 2 then widthOf (NsArgs_word a) else fdpWidth c
  | none => widthOf (NsArgs_word a)

/-- FLBAS selects a format and DPS a protection type that it has (R151). -/
def formatOk (flbas dps : Nat) : Bool :=
  flbas % 16 ≤ 2 && flbas / 32 % 4 = 0
    && (dps % 8 = 0 || (flbas % 16 ≠ 0 && (dps % 8 = 1 || dps % 8 = 3)))

/-- The stripe width of a creation word is legal. -/
def stripeDataOk (w : CreationWord) : Bool :=
  w.stripeData = 0 || (7 ≤ w.stripeData && w.stripeData ≤ if w.qParity then 62 else 63)

/-- The zoned fields are 0 unless the namespace is zoned, and MAX_OPEN is within MAX_ACTIVE. -/
def zonedFieldsOk (zoned : Bool) (w : CreationWord) : Bool :=
  if zoned then w.maxOpen ≤ w.maxActive
  else w.blockVer = 0 || (!w.keyMode && !w.digest && w.maxOpen = 0 && w.maxActive = 0)

/-- Placement handles suit the kind and the configuration in force (R150, R159). -/
def State.handlesOk (s : State) (a : NsArgs) : Bool :=
  match s.store.fdp with
  | some c =>
    if a.csi = 2 then a.handles = []
    else a.handles.length ≤ 128 && a.handles.all (· < 1024)
      && (a.word.blockVer = 0 || a.word.stripeData = 0 || a.word.stripeData = fdpWidth c)
  | none => a.handles = []

/-- The first check of R154 that fails; the last one met is the want of DRAM, with the bytes needed. -/
def State.createRefusal (s : State) (a : NsArgs) : Option (Status × Option Nat) :=
  let w := NsArgs_word a
  let width := s.widthFor a
  let zoned : Bool := a.csi = 2
  let grain := if zoned then s.zsze width else 4
  let need := s.mapBytesFor zoned a.nsze width w.qParity w.digest w.maxActive
  if 1 < a.word.blockVer ∨ 1 < w.cipherMode ∨ (a.csi ≠ 0 ∧ a.csi ≠ 2) then some (.invalidField, none)
  else if !(formatOk a.flbas a.dps) then some (.invalidFormat, none)
  else if !(stripeDataOk w) then some (.invalidField, none)
  else if w.contract ∧ s.cfg Obj.raMaxWidth < width then some (.invalidField, none)
  else if !(zonedFieldsOk zoned w) then some (.invalidField, none)
  else if !(s.handlesOk a) then some (.invalidField, none)
  else if a.ncap ≠ a.nsze ∨ grain = 0 ∨ a.nsze % grain ≠ 0 then some (.invalidField, none)
  else if zoned ∧ s.activeFree < w.maxActive then some (.nsCapacity, none)
  else if s.unreservedBlocks < s.blocksFor zoned a.nsze width w.qParity (s.cfg Obj.mangleReserveBp) then
    some (.nsCapacity, none)
  else if s.dramLeft < need then some (.nsCapacity, some need)
  else if 4096 ≤ s.store.ns.length then some (.nsidUnavailable, none)
  else none

/-- The namespace that a create makes. -/
def State.newNs (s : State) (a : NsArgs) (owner : Port) (slot : Nat) : Ns :=
  let w := NsArgs_word a
  let zoned : Bool := a.csi = 2
  { kind := if zoned then .zoned else if s.store.fdp.isSome then .flexible else .conventional
    nsze := a.nsze, flbas := a.flbas, dps := a.dps, word := w, width := s.widthFor a, owner := owner, attached := []
    handles := if zoned then [] else if s.store.fdp.isSome ∧ a.handles ≠ [] then a.handles else [0]
    reserve := s.cfg Obj.mangleReserveBp
    blocks := s.blocksFor zoned a.nsze (s.widthFor a) w.qParity (s.cfg Obj.mangleReserveBp)
    mapBytes := s.mapBytesFor zoned a.nsze (s.widthFor a) w.qParity w.digest w.maxActive
    keySlot := slot, loaded := true, map := [], zones := [], secureDiscard := false
    writeBlocked := false, born := 0 }

/-- NAMESPACE_CREATE (R154): the lowest free NSID; its key slot is filled with a generated key (R283). -/
def execNamespaceCreate (h : Hdr) (x : NsArgs) (s : State) : Answer :=
  .next (s.sanRun h fun b => b.buffered h 4096 fun a =>
    match a.createRefusal x with
    | some (st, some need) =>
      refuse st (a.record 0x0501 [lowWord need, highWord need, lowWord a.dramLeft, highWord a.dramLeft])
    | some (st, none) => refuse st a
    | none =>
      let nsid := Tbl.fresh a.store.ns 1 4096
      let n := a.newNs x (a.portOfFn h.fn) (nsid - 1)
      let b := (a.setNs nsid n).newKey
      ((((b.2.putKey (nsid - 1) n.keyKind 1 b.1).forgetOld nsid).journal (.nscfg (nsid - 1) 1)).settleWidths, Cpl.ok0 nsid))

/-! ### Delete and format (R80, R288, R355) -/

/-- A self-test of a namespace ends with a result when the namespace goes. -/
def State.endTestOf (s : State) (nsid result : Nat) : State :=
  if s.admin.selftest.any (·.nsid = nsid) then s.endTest result else s

/-- Namespaces that an NSID names for deletion. -/
def State.named (s : State) (nsid : Nat) : List Nat :=
  if nsid = 0xFFFFFFFF then s.store.ns.map (·.1) else [nsid]

/-- A command that destroys keys begins for each namespace (R288); with none it is done. -/
def State.beginKeys (s : State) (h : Hdr) (ids : List Nat) (act : KeyAct) : State :=
  match ids with
  | [] => s.finish h Cpl.ok
  | _ =>
    let got := ids.foldl (fun (a : List KeyWork × State) i =>
      let k := a.2.newKey
      (a.1 ++ [KeyWork.mk (i - 1) (some h) 1 k.1 act], k.2)) ([], s)
    let s1 := got.2.modCtx h fun c => { c with wait := .erase }
    { s1 with cipher := { s1.cipher with works := s1.cipher.works ++ got.1 } }.settleKeys

/-- A command of the managers that a sanitize closes, whose effect may wait. -/
def State.sanStart (s : State) (h : Hdr) (go : State → State) : Answer :=
  .next (s.startAdmin h (fun a => match a.adminGate with
    | some st => some st
    | none => if h.fn.isManager then a.sanGate else some .invalidOpcode) go)

/-- NAMESPACE_DELETE (R288): only by the owner's manager (R80). -/
def execNamespaceDelete (h : Hdr) (nsid : Nat) (s : State) : Answer :=
  s.sanStart h fun a =>
    if nsid ≠ 0xFFFFFFFF ∧ (a.ns? nsid).isNone then a.finish h (Cpl.of .invalidNamespace)
    else if (a.named nsid).any (fun i => (a.ownNs h.fn i).isNone) then a.finish h (Cpl.of .invalidField)
    else ((a.named nsid).foldl (fun b i => b.endTestOf i 3) a).beginKeys h (a.named nsid) .delete

/-- FORMAT_NVM (R288): one namespace, by its owner's manager (R80), to a format of R151; READ-ONLY forbids it (R203). -/
def execFormatNvm (h : Hdr) (nsid flbas dps : Nat) (s : State) : Answer :=
  s.sanStart h fun a =>
    if nsid = 0xFFFFFFFF then a.finish h (Cpl.of .invalidField)
    else if (a.ns? nsid).isNone then a.finish h (Cpl.of .invalidNamespace)
    else if (a.ownNs h.fn nsid).isNone then a.finish h (Cpl.of .invalidField)
    else if a.has Mode.readOnly then a.finish h (Cpl.of .writeProtected)
    else if !(formatOk flbas dps) then a.finish h (Cpl.of .invalidFormat)
    else
      let b := a.endTestOf nsid 4
      let c := if a.has Mode.factory then
          { b with security := { b.security with barred := b.security.barred.filter (· ≠ nsid) } } else b
      c.beginKeys h [nsid] (.format flbas dps)

/-! ### Attachment (R80, R150, R479) -/

/-- The function of a Controller ID (R63). -/
def fnOfCntlid (c : Nat) : Option Func :=
  if c = 1 then some .pf0 else if c = 2 then some .pf1 else (instanceOfCntlid c).map .inst

/-- A controller that a manager may attach to or detach from: present, of its port, and not frozen. -/
def State.listable (s : State) (m : Func) (c : Nat) : Bool :=
  match fnOfCntlid c with
  | some f => s.present f && s.portOfFn f = s.portOfFn m && (s.fn f).state ≠ .frozen
  | none => false

/-- Codes of the functions of a controller list. -/
def listCodes (ctrls : List Nat) : List Nat := (ctrls.filterMap fnOfCntlid).map Func.code

/-- Namespaces attached to a function. -/
def State.attachedCount (s : State) (f : Nat) : Nat := s.store.ns.countP fun e => e.2.attached.contains f

/-- NAMESPACE_ATTACH: the whole list, or nothing. -/
def execNamespaceAttach (h : Hdr) (nsid : Nat) (ctrls : List Nat) (s : State) : Answer :=
  .next (s.sanRun h fun b => b.buffered h 4096 fun a =>
    match a.ns? nsid with
    | none => refuse .invalidNamespace a
    | some n =>
      let fs := listCodes ctrls
      if ctrls = [] ∨ !(ctrls.all (a.listable h.fn)) then refuse .ctrlListInvalid a
      else if fs.any n.attached.contains then refuse .nsAttached a
      else if fs.any (fun f => (if f < 1024 then 256 else 4096) ≤ a.attachedCount f) then refuse Status.attachLimit a
      else
        let b := (a.setNs nsid { n with attached := fs.foldl (fun l f => insertNsid f l) n.attached }).nsChanged nsid fs
        (b, Cpl.ok))

/-- NAMESPACE_DETACH: the whole list, or nothing. -/
def execNamespaceDetach (h : Hdr) (nsid : Nat) (ctrls : List Nat) (s : State) : Answer :=
  .next (s.sanRun h fun b => b.buffered h 4096 fun a =>
    match a.ns? nsid with
    | none => refuse .invalidNamespace a
    | some n =>
      let fs := listCodes ctrls
      if ctrls = [] ∨ !(ctrls.all (a.listable h.fn)) then refuse .ctrlListInvalid a
      else if !(fs.all n.attached.contains) then refuse .nsNotAttached a
      else
        let b := (a.setNs nsid { n with attached := n.attached.filter fun f => !(fs.contains f) }).nsChanged nsid fs
        (b, Cpl.ok))

end Sys2Proof.Machine
end

