-- ==== Sys2Proof/Machine/Shuttle.lean ====
section
/-! DEFINITION. Shuttle channels (R306 to R319). -/
namespace Sys2Proof.Machine

/-- A channel before EN is set: RING_LOG2 reads 4 (R308). -/
def ShuttleSt.reset : ShuttleSt :=
  { state := 0, ringBase := 0, recordAddr := 0, ringLog2 := 4, tail := 0, head := 0, pauseSw := false, pauseDom := false
    pauseDev := false, errCode := 0, errIndex := 0, ownStall := false, bytes := 0, seq := 0, desc := none, curSrc := 0
    curDst := 0, remain := 0, toOff := false }

def ShuttleId_num (c : ShuttleId) : Nat := 16 * portNum c.port + c.ch.val

def State.shuttle (s : State) (c : ShuttleId) : ShuttleSt := Tbl.get ShuttleSt.reset s.engines.shuttles (ShuttleId_num c)

def State.setShuttle (s : State) (c : ShuttleId) (x : ShuttleSt) : State :=
  { s with engines := { s.engines with shuttles := Tbl.set ShuttleSt.reset s.engines.shuttles (ShuttleId_num c) x } }

/-- A visible channel: those of PF1 exist in DUAL_X8 mode (R306); none while the management cluster is lost (R33). -/
def State.shuttleSeen (s : State) (c : ShuttleId) : Bool := (c.port = .a || s.dual) && !s.blockLost 2

def ShuttleSt.size (x : ShuttleSt) : Nat := 2 ^ x.ringLog2

def ShuttleSt.paused (x : ShuttleSt) : Bool := x.pauseSw || x.pauseDom || x.pauseDev

/-! ### Windows (R307) -/

/-- Window number and offset of a window address. -/
def winOf (a : Nat) : Nat × Nat := (a / 2 ^ 48, a % 2 ^ 48)

/-- Size of a window, 0 where there is none. -/
def winSize (w : Nat) : Nat :=
  if w = 1 then 64 * 2 ^ 20 else if w = 2 then 256 * 2 ^ 10 else if w = 3 then 16 * 2 ^ 20
  else if 0x1000 ≤ w ∧ w < 0x1000 + 1024 then 16384 else 0

/-- A window its function may use now: an instance's while it is FROZEN and belongs to the port (R307). -/
def State.winValid (s : State) (p : Port) (w : Nat) : Bool :=
  w < 0x1000 || ((s.fnAt (w - 0x1000)).state = .frozen && s.portOf (w - 0x1000) = p)

/-- A device side of a descriptor is refused: outside its window, not valid, or in a direction it does not allow. -/
def State.winBad (s : State) (p : Port) (space address count : Nat) (write : Bool) : Bool :=
  if space = 0 then false
  else
    let (w, off) := winOf address
    1 < space || winSize w < off + count || winSize w = 0 || !(s.winValid p w) || (w = 1 && !write) || ((w = 2 || w = 3) && write)

/-- Code with which a descriptor halts the channel at step 3 of R310, 0 for none. -/
def State.descBad (s : State) (p : Port) (d : ShuttleDesc) : Nat :=
  if d.count = 0 then 5
  else if s.winBad p d.srcSpace d.src d.count false || s.winBad p d.dstSpace d.dst d.count true then 6
  else 0

/-! ### Records and halts (R315, R318, R319) -/

/-- A completion record, one write to RECORD_ADDR; 0 there writes none (R308, R315). -/
def State.shuttleRecord (s : State) (c : ShuttleId) (index tag : Nat) : State :=
  let x := s.shuttle c
  if x.recordAddr = 0 then s
  else
    let y := { x with seq := x.seq + 1 }
    (s.setShuttle c y).emit (.shuttleRecord c.port c.ch.val x.recordAddr
      [(0, y.seq), (108, y.state), (112, index), (128, y.errCode), (160, tag), (192, y.bytes)])

/-- A halt: state, code and index, counted, with a record. -/
def State.haltShuttle (s : State) (c : ShuttleId) (code index : Nat) : State :=
  let x := s.shuttle c
  let s1 := (s.setShuttle c { x with state := 5, errCode := code, errIndex := index }).bump Obj.shuttleHalts
  s1.shuttleRecord c index (x.desc.elim 0 (·.tag))

/-! ### Registers (R308, R311, R316 to R318) -/

/-- SHUTTLE_ENABLE (R308): EN 0 to 1 with the ring written while OFF; a bad ring halts the channel. -/
def execShuttleEnable (c : ShuttleId) (ringBase recordAddr ringLog2 : Nat) (s : State) : Answer :=
  let x := s.shuttle c
  if !(s.shuttleSeen c) ∨ x.state ≠ 0 then .next s
  else
    let y := { ShuttleSt.reset with
      state := 1
      ringBase := ringBase / 64 * 64
      recordAddr := recordAddr / 32 * 32
      ringLog2 := ringLog2
      pauseSw := x.pauseSw
      pauseDom := x.pauseDom
      pauseDev := s.host.paused || s.has Mode.holdUp }
    let s1 := s.setShuttle c y
    if ringLog2 < 4 ∨ 16 < ringLog2 ∨ y.ringBase = 0 then .next (s1.haltShuttle c 9 0) else .next s1

/-- A channel that may run starts on the descriptor at HEAD, or pauses between descriptors (R310, R316). -/
def ShuttleSt.look (x : ShuttleSt) : ShuttleSt :=
  if x.head = x.tail then { x with state := 1 }
  else if x.paused then { x with state := 4, remain := 0, desc := none }
  else { x with state := 2, desc := none }

/-- SHUTTLE_TAIL_WRITE (R7, R311, R312): TAIL takes the value; an index below the ring size marks descriptors ready, and an IDLE
engine reads the descriptor at HEAD when the index differs from it; one at or above the ring size halts the channel. A channel
that is OFF or HALTED does nothing more. -/
def execShuttleTailWrite (c : ShuttleId) (v : Nat) (s : State) : Answer :=
  if !(s.shuttleSeen c) then .next s
  else
    let x := { s.shuttle c with tail := v % 65536 }
    let s1 := s.setShuttle c x
    if x.state = 0 ∨ x.state = 5 then .next s1
    else if x.size ≤ v % 65536 then .next (s1.haltShuttle c 7 x.head)
    else .next (s.setShuttle c (if x.state = 1 then x.look else x))

/-- SHUTTLE_DISABLE (R317): RUN pauses first, any other state goes OFF at once. -/
def execShuttleDisable (c : ShuttleId) (s : State) : Answer :=
  let x := s.shuttle c
  if !(s.shuttleSeen c) then .next s
  else if x.state = 2 ∨ x.state = 3 then .next (s.setShuttle c { x with state := 3, toOff := true })
  else .next (s.setShuttle c { x with state := 0 })

/-- A channel whose last pause source has cleared goes on from its CUR_ values (R316). -/
def ShuttleSt.resume (x : ShuttleSt) : ShuttleSt :=
  if x.paused ∨ x.toOff then x
  else if x.state = 3 then { x with state := 2 }
  else if x.state = 4 then (if x.desc.isSome then { x with state := 2 } else x.look)
  else x

/-- A channel on which a pause source has been set: one that runs pauses (R316). -/
def ShuttleSt.pause (x : ShuttleSt) : ShuttleSt := if x.state = 2 then { x with state := 3 } else x

/-- SHUTTLE_PAUSE_WRITE (R316): the software source. -/
def execShuttlePauseWrite (c : ShuttleId) (on : Bool) (s : State) : Answer :=
  let x := s.shuttle c
  if !(s.shuttleSeen c) then .next s
  else if on then .next (s.setShuttle c { x with pauseSw := true }.pause)
  else .next (s.setShuttle c { x with pauseSw := false }.resume)

/-- SHUTTLE_CLEAR (R318): a halted channel restarts the faulting descriptor from its first byte. -/
def execShuttleClear (c : ShuttleId) (s : State) : Answer :=
  let x := s.shuttle c
  if !(s.shuttleSeen c) ∨ x.state ≠ 5 then .next s
  else .next (s.setShuttle c { x with errCode := 0, desc := none }.look)

/-! ### The engine (R310, R312 to R316) -/

/-- DESCRIPTOR_READ (R310 steps 1 to 4): a read that fails halts; OWN 0 stops the engine (R312, counted between HEAD and
TAIL, R313); a bad descriptor halts; else its move starts. -/
def execDescriptorRead (c : ShuttleId) (d : ShuttleDesc) (e : ReadEnd) (s : State) : Answer :=
  let x := s.shuttle c
  if x.state ≠ 2 ∨ x.desc.isSome then .next s
  else if e ≠ .ok then .next (s.haltShuttle c 1 x.head)
  else if !d.own then
    .next ((s.setShuttle c { x with state := 1, ownStall := true }).bump Obj.ownStalls (if x.head = x.tail then 0 else 1))
  else
    let s1 := s.setShuttle c { x with
      ownStall := false
      desc := some d
      curSrc := d.src
      curDst := d.dst
      remain := d.count }
    let bad := s1.descBad c.port d
    if bad = 0 then .next s1 else .next (s1.haltShuttle c bad x.head)

/-- Bytes land in a device window, or are written to host memory (R314). -/
def State.landBytes (s : State) (c : ShuttleId) (space address : Nat) (bs : List Byte) : State :=
  if space = 0 then s.emit (.shuttleWrite c.port c.ch.val address bs)
  else
    let (w, off) := winOf address
    let key := if w = 1 then 1 + 65536 * portNum c.port else w
    { s with engines := { s.engines with
      windows := Tbl.set [] s.engines.windows key (cellsStore (Tbl.get [] s.engines.windows key) off bs) } }

def insertGranule (g : Nat) : List Nat → List Nat
  | [] => [g]
  | h :: t => if g < h then g :: h :: t else if g = h then h :: t else h :: insertGranule g t

/-- Granules of a staging area that a write into window 1 touches (R358). -/
def State.stageBytes (s : State) (p : Port) (off n : Nat) : State :=
  let gs := (List.range (ceilDiv (off % 4096 + n) 4096)).map (· + off / 4096)
  let put := fun (x : Staging) => ⟨gs.foldl (fun a g => insertGranule g a) x.granules⟩
  match p with
  | .a => { s with admin := { s.admin with stageA := put s.admin.stageA } }
  | .b => { s with admin := { s.admin with stageB := put s.admin.stageB } }

/-- A byte of a device window: the first area holds the record of SEQ FIRST_BASE + i at 64 × i, the circulating area that of
SEQ s at 64 × (s mod 262,144), and a slot without a record reads as ones (R428). -/
def State.windowByte (s : State) (w off : Nat) : Byte :=
  let x := s.sampler
  if w = 2 then BitVec.ofNat 8 (slotWord (x.first.find? (·.seq = x.firstBase + off / 64)) / 256 ^ (off % 64))
  else if w = 3 then BitVec.ofNat 8 (slotWord (x.circ.find? (·.seq % circSize = off / 64)) / 256 ^ (off % 64))
  else cellsRead (Tbl.get [] s.engines.windows w) off

/-- The next n source bytes of a channel's descriptor: those of its window, or as the host's memory gave them. -/
def State.sourceBytes (s : State) (x : ShuttleSt) (d : ShuttleDesc) (n : Nat) (host : List Byte) : List Byte :=
  if d.srcSpace = 0 then host
  else (List.range n).map fun i => s.windowByte (winOf x.curSrc).1 ((winOf x.curSrc).2 + i)

/-- The next n bytes of a descriptor have been moved. -/
def State.moved (s : State) (c : ShuttleId) (d : ShuttleDesc) (n : Nat) (host : List Byte) : State :=
  let x := s.shuttle c
  let bs := s.sourceBytes x d n host
  let s1 := s.landBytes c d.dstSpace x.curDst bs
  let s2 := if d.dstSpace = 1 ∧ (winOf x.curDst).1 = 1 then s1.stageBytes c.port (winOf x.curDst).2 n else s1
  (s2.setShuttle c { x with
    curSrc := x.curSrc + n
    curDst := x.curDst + n
    remain := x.remain - n
    bytes := x.bytes + n }).bump Obj.shuttleBytes n

/-- DESCRIPTOR_DONE (R310 steps 5 to 7): OWN goes to 0, a record is written where REC asks for one, HEAD advances. -/
def execDescriptorDone (c : ShuttleId) (bytes : List Byte) (s : State) : Answer :=
  let x := s.shuttle c
  match x.desc with
  | none => .next s
  | some d =>
    if x.state ≠ 2 then .next s
    else
      let s1 := (s.moved c d x.remain (bytes.take x.remain)).emit (.descriptorOwn c.port c.ch.val x.head)
      let y := ({ s1.shuttle c with desc := none, head := (x.head + 1) % x.size }).look
      let s2 := s1.setShuttle c y
      .next (if d.wantRec then s2.shuttleRecord c x.head d.tag else s2)

/-- SHUTTLE_PAUSED (R316, R317): the reads in flight have landed; CUR_ values name the next byte. A channel that is being
disabled goes OFF; one whose pause has been lifted meanwhile runs on. -/
def execShuttlePaused (c : ShuttleId) (bytes : List Byte) (s : State) : Answer :=
  let x := s.shuttle c
  if x.state ≠ 3 then .next s
  else
    let s1 := match x.desc with
      | some d => s.moved c d (bytes.take x.remain).length (bytes.take x.remain)
      | none => s
    let y := s1.shuttle c
    .next (s1.setShuttle c (if x.toOff then { y with state := 0, toOff := false } else { y with state := 4 }))

/-- SHUTTLE_HALT (R319): a failed request halts a channel that runs or pauses, after those bytes have moved. -/
def execShuttleHalt (c : ShuttleId) (code : Nat) (bytes : List Byte) (s : State) : Answer :=
  let x := s.shuttle c
  if x.state ≠ 2 ∧ x.state ≠ 3 then .next s
  else
    let s1 := match x.desc with
      | some d => s.moved c d (bytes.take x.remain).length (bytes.take x.remain)
      | none => s
    .next (s1.haltShuttle c code x.head)

/-! ### Pauses by the device (R316) -/

/-- Every visible channel takes or loses a pause source of the device. -/
def State.pauseShuttles (s : State) (on : Bool) : State :=
  { s with engines := { s.engines with
    shuttles := s.engines.shuttles.map fun (e : Nat × ShuttleSt) =>
      (e.1, if on then { e.2 with pauseDev := true }.pause else { e.2 with pauseDev := false }.resume) } }

end Sys2Proof.Machine
end

