-- ==== Sys2Proof/Machine/Firmware.lean ====
section
/-! DEFINITION. Firmware images, commit, activation and the image switch (R121, R356 to R364, R459). -/
namespace Sys2Proof.Machine

/-! ### Presence (R462 to R467) -/

/-- A loop in OPEN or REVERSED lets no presence-gated operation succeed (R462). -/
def LoopState_bars : LoopState → Bool
  | .openLoop => true
  | .reversed => true
  | .normal => false
  | .short => false

/-- A broken seal under LOCK refuses every operation of R464 (R467). -/
def State.sealLocked (s : State) : Bool := s.flag Obj.sealBroken && s.cfg Obj.sealPolicy = 0

/-- How long a presence window lasts (R462), in ns. -/
def windowNs : Nat := 60 * 10 ^ 9

/-- A presence window is open (R462). -/
def State.windowOpen (s : State) : Bool := s.security.opened.any fun t => s.now < t + windowNs

/-- A presence-gated operation may succeed: a window is open, its loop does not bar it, and no broken seal locks it
(R462, R467). -/
def State.presenceUsable (s : State) : Bool :=
  s.windowOpen && !(LoopState_bars s.security.presence.shown) && !s.sealLocked

/-- A presence-gated operation has succeeded (R464). -/
def State.presenceDone (s : State) : State := s.bump Obj.presenceOps

/-! ### The staged image (R357, R358) -/

def State.stage (s : State) : Port → Staging
  | .a => s.admin.stageA
  | .b => s.admin.stageB

/-- Bytes of a header, at their offsets (R357). -/
def headerBytes (i : ImageHeader) : List (Nat × List Byte) :=
  [(0, bytesLE 4 i.magic), (12, bytesLE 1 i.format), (13, bytesLE 2 i.part), (15, bytesLE 1 i.svn), (16, bytesLE 1 i.major),
   (17, bytesLE 1 i.minor), (18, bytesLE 2 i.build), (20, bytesLE 8 i.version), (28, bytesLE 4 i.bodyLen),
   (32, bytesLE 4 i.imageLen), (36, bytesLE 1 i.flags)]

/-- A little-endian number of n bytes of a memory. -/
def cellsNat (m : List Host.Cell) (a n : Nat) : Nat :=
  ((List.range n).map fun i => (cellsRead m (a + i)).toNat * 256 ^ i).sum

/-- The header that a staging area holds (R357). -/
def headerOf (m : List Host.Cell) : ImageHeader :=
  { magic := cellsNat m 0 4, format := cellsNat m 12 1, part := cellsNat m 13 2, svn := cellsNat m 15 1
    major := cellsNat m 16 1, minor := cellsNat m 17 1, build := cellsNat m 18 2, version := cellsNat m 20 8
    bodyLen := cellsNat m 28 4, imageLen := cellsNat m 32 4, flags := cellsNat m 36 1 }

/-- The window's bytes of a port's staging area. -/
def State.stageWindow (s : State) (p : Port) : List Host.Cell := Tbl.get [] s.engines.windows (1 + 65536 * portNum p)

/-- A firmware command: in ROM recovery from PF0 and where the ROM serves it (R459), else from a manager. -/
def State.fwStart (s : State) (h : Hdr) (rom : Bool) (go : State → State) : Answer :=
  .next (s.startAdmin h (fun a =>
    if a.security.rom then (if h.fn = .pf0 ∧ rom then none else some .invalidOpcode)
    else match a.adminGate with
      | some st => some st
      | none => if h.fn.isManager then none else some .invalidOpcode) go)

/-- A write into a manager's staging area: the granules touched, and the header's bytes where it starts the image. -/
def State.stageImage (s : State) (p : Port) (offset bytes : Nat) (header : Option ImageHeader) : State :=
  let s1 := s.stageBytes p offset bytes
  match header with
  | some i =>
    if offset = 0 then
      let m := (headerBytes i).foldl (fun m e => cellsStore m e.1 e.2) (s1.stageWindow p)
      { s1 with engines := { s1.engines with windows := Tbl.set [] s1.engines.windows (1 + 65536 * portNum p) m } }
    else s1
  | none => s1

/-- FIRMWARE_IMAGE_DOWNLOAD (R358). -/
def execFirmwareImageDownload (h : Hdr) (offset bytes : Nat) (header : Option ImageHeader) (s : State) : Answer :=
  s.fwStart h true fun a =>
    let p := a.portOfFn h.fn
    let got := a.buffered h bytes fun b => (b, Cpl.ok)
    if got.2 ≠ Cpl.ok then (got.1).finish h got.2
    else if offset % 4096 ≠ 0 ∨ bytes % 4096 ≠ 0 ∨ 67108864 < offset + bytes then a.finish h (Cpl.of .invalidField)
    else if (a.stage p).granules.any (fun g => offset ≤ 4096 * g && 4096 * g < offset + bytes) then
      a.finish h (Cpl.of .overlappingRange)
    else (a.stageImage p offset bytes header).finish h Cpl.ok

/-! ### Checks (R360) -/

/-- The first check of R360 that an image fails; `granules` are those written, for a staged image. -/
def State.imageFails (s : State) (i : ImageHeader) (granules : Option (List Nat)) (c : ImageChecks) : Option Nat :=
  if i.magic ≠ 0x36394C50 ∨ i.format ≠ 1 ∨ i.part ≠ 0x9664 ∨ 33554432 < i.imageLen then some 1
  else if granules.any (· ≠ List.range (ceilDiv i.imageLen 4096)) then some 2
  else if !c.digests then some 3
  else if !c.ecdsa then some 4
  else if !c.mlDsa then some 5
  else if i.svn < s.cfg Obj.arbCounter ∧ !s.presenceUsable then some 6
  else none

/-- Status of a failing check. -/
def checkStatus (k : Nat) : Status := if k = 6 then .activationProhibited else .invalidImage

/-- A commit is refused: counted, recorded with the check number (R360). -/
def State.refuseImage (s : State) (check slot : Nat) : State :=
  (s.bump Obj.fwRefused).record 0x0D02 [check, slot]

/-- The slot that a replacing action writes (R362), none where FS names none. -/
def State.replaceSlot (s : State) (slot : Nat) : Option Nat :=
  if slot = 0 then
    [2, 3, 4].find? fun k => k ≠ s.cfg Obj.fwActiveSlot && s.admin.onReset ≠ some k
  else if 2 ≤ slot ∧ slot ≤ 4 then some slot
  else none

/-- An image enters a slot: its downgrade mark is written where only a window let it pass, else cleared (R361, R458). -/
def State.fillSlot (s : State) (slot : Nat) (i : ImageHeader) : State :=
  let low := i.svn < s.cfg Obj.arbCounter
  let rest := s.security.downgrade.filter (· ≠ slot)
  let s1 := { s with
    admin := { s.admin with slots := Tbl.put s.admin.slots slot i }
    security := { s.security with downgrade := if low then rest ++ [slot] else rest } }
  if low then s1.presenceDone else s1

/-- A commit that replaces a slot (R360, R362): the staging area is emptied whether the checks pass or not. `done` goes on
with the slot and its image. -/
def State.commitImage (s : State) (h : Hdr) (slot : Nat) (c : ImageChecks) (done : State → Nat → ImageHeader → State) : State :=
  match s.replaceSlot slot with
  | none => s.finish h (Cpl.of .invalidSlot)
  | some k =>
    let p := s.portOfFn h.fn
    let i := headerOf (s.stageWindow p)
    let s1 := s.emptyStaging (portNum p)
    match s.imageFails i (some (s.stage p).granules) c with
    | some n => (s1.refuseImage n k).finish h (Cpl.of (checkStatus n))
    | none => done (s1.fillSlot k i) k i

/-- The slot that the next reset activates (R362). -/
def State.armReset (s : State) (slot : Nat) : State := { s with admin := { s.admin with onReset := some slot } }

/-- ROM recovery: a commit that passes restarts the device, and the restart boots its image (R459). -/
def State.romRestart (s : State) (h : Hdr) (slot : Nat) : State :=
  let s1 := s.finish h Cpl.ok
  { s1 with security := { s1.security with marker := slot }, power := { s1.power with restart := true } }

/-- FIRMWARE_COMMIT_REPLACE: CA 000b. -/
def execFirmwareCommitReplace (h : Hdr) (slot : Nat) (c : ImageChecks) (s : State) : Answer :=
  s.fwStart h false fun a => a.commitImage h slot c fun b _ _ => b.finish h Cpl.ok

/-- FIRMWARE_COMMIT_REPLACE_ACTIVATE_RESET: CA 001b. -/
def execFirmwareCommitReplaceActivateReset (h : Hdr) (slot : Nat) (c : ImageChecks) (s : State) : Answer :=
  s.fwStart h (slot = 2) fun a => a.commitImage h slot c fun b k _ =>
    if b.security.rom then b.romRestart h k else (b.armReset k).finish h Cpl.ok

/-- FIRMWARE_COMMIT_ACTIVATE_RESET: CA 010b; the slot's image is checked again. -/
def execFirmwareCommitActivateReset (h : Hdr) (slot : Nat) (c : ImageChecks) (s : State) : Answer :=
  s.fwStart h false fun a =>
    if 4 < slot ∨ slot = 0 then a.finish h (Cpl.of .invalidSlot)
    else match a.image slot with
      | none => a.finish h (Cpl.of .invalidSlot)
      | some i =>
        match a.imageFails i none c with
        | some n => (a.refuseImage n slot).finish h (Cpl.of (checkStatus n))
        | none =>
          let low := i.svn < a.cfg Obj.arbCounter
          let b := if low then a.presenceDone else a
          ((if low ∧ !(b.security.downgrade.contains slot) then
              { b with security := { b.security with downgrade := b.security.downgrade ++ [slot] } }
            else b).armReset slot).finish h Cpl.ok

/-! ### Activation without reset (R121, R363, R380) -/

/-- The pause of R121: fetch stops on every function, the event goes out, every enabled line shows PAUSED 1; the visible
Shuttle channels pause (R308). -/
def State.startPause (s : State) : State :=
  (({ s with host := { s.host with paused := true } }.raiseAll (s.host.fns.map fun (e : Nat × Fn) => e.1)
    .firmwareActivationStarting).pauseShuttles true).writeAllLines

/-- A deferred switch starts once neither SANITIZE nor RECOVERY defers it (R363, R376, R383). -/
def State.startDeferredSwitch (s : State) : State :=
  if s.has Mode.activation ∧ !s.host.paused ∧ s.admin.switchTo.isSome ∧ !(s.has Mode.sanitize) ∧ !(s.has Mode.recovery) then
    s.startPause
  else s

/-- A sanitize ends the pause without a switch: fetch resumes under the old image, ACTIVATION stays set (R380), and the
command whose image is in its slot completes (R363). -/
def State.endPause (s : State) : State :=
  let s1 := if s.host.paused then ({ s with host := { s.host with paused := false } }.pauseShuttles false).writeAllLines else s
  match s1.admin.switchCmd with
  | some h => { s1 with admin := { s1.admin with switchCmd := none } }.finish h Cpl.ok
  | none => s1

/-- FIRMWARE_COMMIT_ACTIVATE_NOW: CA 011b (R363). -/
def execFirmwareCommitActivateNow (h : Hdr) (slot : Nat) (c : ImageChecks) (s : State) : Answer :=
  s.fwStart h (slot = 2) fun a => a.commitImage h slot c fun b k i =>
    if b.security.rom then b.romRestart h k
    else if i.major ≠ b.runningImage.major then (b.armReset k).finish h (Cpl.of .needsSubsystem)
    else if !(i.flags.testBit 0) then (b.armReset k).finish h (Cpl.of .needsConventional)
    else
      let s1 := { b with admin := { b.admin with switchTo := some k } }.setMode Mode.activation 11
      if b.has Mode.sanitize then s1.finish h Cpl.ok
      else
        ({ s1 with admin := { s1.admin with switchCmd := some h } }.modCtx h fun x =>
          { x with wait := .activation }).startDeferredSwitch

/-- Commands that the pause leaves unfinished (R364). -/
def State.unfinished (s : State) : Nat :=
  s.host.ctxs.countP fun c => c.done.isNone && s.admin.switchCmd ≠ some c.hdr && c.wait ≠ .event

/-- IMAGE_SWITCH (R121, R364): the marker is written, the image runs, fetch resumes, ACTIVATION ends. -/
def execImageSwitch (s : State) : Answer :=
  match s.admin.switchTo with
  | none => .next s
  | some k =>
    if !s.host.paused ∨ s.has Mode.holdUp then .next s
    else
      let s1 := ((s.bump Obj.actLate s.unfinished).activate k)
      let s2 := { s1 with
        admin := { s1.admin with switchTo := none }
        host := { s1.host with paused := false } }.clearMode Mode.activation 11
      .next (s2.pauseShuttles false).writeAllLines.endPause

end Sys2Proof.Machine
end

