-- ==== Sys2Proof/Machine/Sanitize.lean ====
section
/-! DEFINITION. Sanitize: Block Erase, Crypto Erase, Exit Failure Mode, and the crypto erase that the device starts itself
(R365 to R367, R380, R384). -/
namespace Sys2Proof.Machine

/-- Instances in FROZEN. -/
def State.frozenInsts (s : State) : List Nat := (s.host.fns.filter fun e => e.2.state = .frozen).map (·.1)

/-- Every frozen instance is fenced, row 9 of R77 (R366). -/
def State.fenceFrozen (s : State) : State :=
  s.frozenInsts.foldl (fun a n => if h : n < 1024 then a.fence (.inst ⟨n, h⟩) 9 else a) s

/-- Freezes in progress end: no instance becomes FROZEN while SANITIZE is set (R384 note 2). -/
def State.endFreezes (s : State) : State :=
  s.migration.freezing.foldl (fun a e =>
    let b := a.endFreeze e.1 .sanitizeInProgress
    if h : e.1 < 1024 then b.releaseBells (.inst ⟨e.1, h⟩) else b) s

/-- Pending member replacements are dropped (R384 note 1). -/
def State.dropDarning (s : State) : State := s.store.darning.foldl State.dropReplacement s

/-- Every stripe is given up, and what serves stripes with it; a crypto erase's blocks are counted as R170 counts. -/
def State.giveUpAll (s : State) (secure : Bool) : State :=
  let s1 := (s.store.stripes.map fun (e : Nat × Stripe) => e.1).foldl (fun a i => a.giveUpStripe i secure) s
  { s1 with store := { s1.store with folding := false, mangling := [], urgent := [], noReplace := [], replacing := [] } }.keep
    Obj.stripesUnreplaceable 0

/-- Every block of every attached LUN that is not retired is queued for erase (R365). -/
def State.eraseAll (s : State) : State :=
  (s.attachedLuns.flatMap fun l => (s.goodBlocks l 0 4096).map fun b => (l, b)).foldl (fun a e => a.queueErase e.1 e.2) s

/-- Every key that the sanitize destroys is destroyed, and every namespace unmapped. -/
def State.keysDone (s : State) : Bool :=
  s.admin.sanitize.any (·.keysGone) && !(s.cipher.works.any fun w => w.cmd.isNone)

/-- Once the keys are destroyed and the new ones wrapped under the present root (R465), the stripes are given up; a block
erase then queues every block. -/
def State.sweepStripes (s : State) : State :=
  match s.admin.sanitize with
  | none => s
  | some z =>
    if s.keysDone ∧ !z.swept then
      let s1 := ({ s with
        admin := { s.admin with sanitize := some { z with swept := true } }
        security := { s.security with storeGen := s.cfg Obj.rootGen } }).giveUpAll (z.action ≠ 2)
      if z.action = 2 then s1.eraseAll else s1
    else s

/-- Steps of a sanitize that wait for no instance in FROZEN (R366): every namespace key and Key Per I/O key is destroyed
under R288. -/
def State.settleSanitize (s : State) : State :=
  match s.admin.sanitize with
  | none => s
  | some z =>
    if z.keysGone ∨ s.frozenInsts ≠ [] then s
    else
      let s1 := { s with
        admin := { s.admin with sanitize := some { z with keysGone := true } }
        cipher := { s.cipher with kpio := [] } }.purgeKeys fun k => match k with
          | .kpio _ _ => false
          | .nsKey _ _ => true
          | .zoneKey _ _ _ _ => true
      let s2 := s1.keep Obj.kpioKeys 0
      let got := (s2.store.ns.map fun (e : Nat × Ns) => e.1).foldl (fun (a : List KeyWork × State) i =>
        let k := a.2.newKey
        (a.1 ++ [KeyWork.mk (i - 1) none 1 k.1 .replace], k.2)) ([], s2)
      { got.2 with cipher := { got.2.cipher with works := got.2.cipher.works ++ got.1 } }.settleKeys.sweepStripes

/-- A sanitize starts (R366): SANITIZE is set, I/O ends, a self-test and a forced pass end, claims end, replacements are
dropped, an activation pause ends. -/
def State.startSanitize (s : State) (action : Nat) (abort own ause : Bool) : State :=
  let block := action = 2 ∨ s.admin.sanitize.any (·.action = 2)
  let s1 := { s with admin := { s.admin with
    sanitize := some { action := if block then 2 else 4, abort := abort, keysGone := false, own := own, swept := false }
    sanStatus := 2
    sanAuse := ause } }
  let s2 := (s1.setMode Mode.sanitize 10).sweepIo .sanitizeInProgress
  let s3 := s2.endTest 9
  let s4 := if s3.mem.forced then s3.endForced else s3
  let s5 := s4.dropClaims.dropDarning.endFreezes
  let s6 := if s5.host.paused then s5.endPause else s5
  let s7 := if abort then s6.fenceFrozen else s6
  s7.settleSanitize

/-- A namespace of the device is owned by the other port (R365). -/
def State.foreignNs (s : State) (p : Port) : Bool := s.dual && s.store.ns.any (·.2.owner ≠ p)

/-- The failed state (R366): SANITIZE is set and nothing of it runs. -/
def State.sanFailed (s : State) : Bool := s.has Mode.sanitize && s.admin.sanitize.isNone

/-- A Sanitize command with an erase action: AUSE 1 after a failed sanitize with AUSE 0 ends Sanitize Failed (NVM Express;
PRESUMED). -/
def State.sanitizeCmd (s : State) (h : Hdr) (action : Nat) (abort ndas emvs ause : Bool) : Answer :=
  .next (s.managerRun h fun a =>
    if ndas ∨ emvs ∨ a.foreignNs (a.portOfFn h.fn) then refuse .invalidField a
    else if a.admin.sanitize.isSome then refuse .sanitizeInProgress a
    else if a.sanFailed ∧ ause ∧ !a.admin.sanAuse then refuse .sanitizeFailed a
    else (a.startSanitize action abort false ause, Cpl.ok))

/-- SANITIZE_BLOCK_ERASE: SANACT 010b. -/
def execSanitizeBlockErase (h : Hdr) (abort ndas emvs ause : Bool) (s : State) : Answer :=
  s.sanitizeCmd h 2 abort ndas emvs ause

/-- SANITIZE_CRYPTO_ERASE: SANACT 100b. -/
def execSanitizeCryptoErase (h : Hdr) (abort ndas emvs ause : Bool) (s : State) : Answer :=
  s.sanitizeCmd h 4 abort ndas emvs ause

/-- SANITIZE_EXIT_FAILURE_MODE: SANACT 001b clears a failed state. -/
def execSanitizeExitFailureMode (h : Hdr) (s : State) : Answer :=
  .next (s.managerRun h fun a =>
    if a.foreignNs (a.portOfFn h.fn) then refuse .invalidField a
    else if a.admin.sanitize.isSome then refuse .sanitizeInProgress a
    else if a.sanFailed then (a.clearMode Mode.sanitize 10, Cpl.ok)
    else (a, Cpl.ok))

/-- SANITIZE_END (R370): a failure leaves the device in the failed state; otherwise the last key destruction or erase ends
SANITIZE, and DEGRADED with it (R384 note 1). -/
def execSanitizeEnd (failed : Bool) (s : State) : Answer :=
  if s.admin.sanitize.isNone then .next s
  else if failed then .next { s with admin := { s.admin with sanitize := none, sanStatus := 3 } }
  else
    let s1 := s.sweepStripes
    if !s1.keysDone ∨ (s1.admin.sanitize.any (·.action = 2) ∧ s1.store.erases ≠ []) then .next s1
    else .next (({ s1 with admin := { s1.admin with sanitize := none, sanStatus := 1 } }.clearMode Mode.sanitize 10).settleDegraded)

end Sys2Proof.Machine
end

