-- ==== Sys2Proof/Machine/LogPages.lean ====
section
/-! DEFINITION. Get Log Page and Identify (R345, R347, R349 to R351, R367). A reply lists words by byte offset; where the
spec names a field only by its NVM Express name, its offset is that standard's (PRESUMED, log entry 6). -/
namespace Sys2Proof.Machine

/-! ### What the device reports (R178, R202, R350) -/

/-- Capacity of R178 of so many blocks, in bytes. -/
def State.capacityOf (s : State) (blocks : Nat) : Nat :=
  blocks / 32 * 31 * s.blockBytes * (10000 - s.cfg Obj.mangleReserveBp) / 10000 / 16384 * 16384

/-- Available Spare (R202). -/
def State.availableSpare (s : State) : Nat :=
  if s.cfg Obj.spareInitial = 0 then 0 else s.cfg Obj.spareRemaining * 100 / s.cfg Obj.spareInitial

/-- Hottest on-die sensor, in kelvin; 0 before the first reading. -/
def State.kelvin (s : State) : Nat :=
  if s.power.temps = [] then 0 else ((s.power.temps.foldl max (-273)) + 273).toNat

/-- Percentage Used: the mean erase count of stripe-available blocks as a percentage of the rated cycles, at most 255. -/
def State.percentUsed (s : State) : Nat :=
  let luns := s.attachedLuns
  let per := luns.map fun l =>
    let first := systemBlocks + s.stagingBlocks
    ((s.goodBlocks l first 4096).map (fun b => (s.block l b).erases)).sum
  let rated := luns.map fun l => (s.goodBlocks l (systemBlocks + s.stagingBlocks) 4096).length * Config.ratedCycles (s.lun l).cls.val
  if rated.sum = 0 then 0 else min 255 (per.sum * 100 / rated.sum)

/-- Critical Warning of a function's page (R202, R350). -/
def State.criticalWarning (s : State) (f : Func) : Nat :=
  let warnAt := Tbl.get 378 (s.fn f).feats (featKey 0x04 0)
  (decide (s.availableSpare ≤ 10)).toNat + 2 * (decide (warnAt < s.kelvin)).toNat + 4 * (s.has Mode.degraded).toNat
    + 8 * (s.has Mode.readOnly).toNat

/-- Commands and data units: an instance's own, the device's for a manager (R350). -/
def State.countsOf (s : State) (f : Func) : Nat × Nat × Nat × Nat :=
  if f.isManager then
    s.admin.counts.foldl (fun a e => (a.1 + e.2.1, a.2.1 + e.2.2.1, a.2.2.1 + e.2.2.2.1, a.2.2.2 + e.2.2.2.2)) (0, 0, 0, 0)
  else Tbl.get (0, 0, 0, 0) s.admin.counts f.code

/-- Thousands of 512-byte units in some blocks of 4,096 bytes, rounded up. -/
def dataUnits (blocks : Nat) : Nat := ceilDiv (8 * blocks) 1000

/-! ### Log pages (R349) -/

/-- Entries of Error Information, newest first. -/
def State.errorPage (s : State) (f : Func) : List (Nat × Nat) :=
  (Tbl.get (0, []) s.admin.errors f.code).2.zipIdx.flatMap fun e =>
    let at_ := 64 * e.2
    [(at_, e.1.getD 0 0), (at_ + 8, e.1.getD 1 0), (at_ + 10, e.1.getD 2 0), (at_ + 12, 2 * e.1.getD 3 0)]

/-- SMART / Health (R350). -/
def State.smartPage (s : State) (f : Func) : List (Nat × Nat) :=
  let c := s.countsOf f
  [(0, s.criticalWarning f), (1, s.kelvin), (3, s.availableSpare), (4, 10), (5, s.percentUsed),
   (32, dataUnits c.2.2.1), (48, dataUnits c.2.2.2), (64, c.1), (80, c.2.1), (112, s.cfg Obj.boots), (160, s.cfg Obj.unitsLost),
   (176, if f.isManager then (s.admin.errors.map fun (e : Nat × Nat × List (List Nat)) => e.2.1).sum
         else (Tbl.get (0, []) s.admin.errors f.code).1)]

/-- Firmware Slot Information. -/
def State.slotPage (s : State) : List (Nat × Nat) :=
  (0, s.cfg Obj.fwActiveSlot + 16 * s.admin.onReset.getD 0)
    :: [1, 2, 3, 4].map fun k => (8 * k, (s.image k).elim 0 (·.version))

/-- A list with its end: more than 1,024 namespaces read as FFFFFFFFh. -/
def changedList (l : List Nat) : List (Nat × Nat) :=
  if 1024 < l.length then [(0, 0xFFFFFFFF)] else l.zipIdx.map fun e => (4 * e.2, e.1)

/-- Admin opcodes of a function (R345), and I/O opcodes (R101). -/
def adminOpcodes (f : Func) : List Nat :=
  [0x00, 0x01, 0x02, 0x04, 0x05, 0x06, 0x08, 0x09, 0x0A, 0x0C, 0x81, 0x82, 0xC1, 0xC2]
    ++ if f.isManager then [0x0D, 0x10, 0x11, 0x14, 0x15, 0x1C, 0x80, 0x84, 0xC3, 0xC8, 0xC9, 0xCA, 0xCB] else []

def ioOpcodes : List Nat :=
  [0x00, 0x01, 0x02, 0x04, 0x05, 0x08, 0x09, 0x0C, 0x12, 0x19, 0x1D, 0x79, 0x7A, 0x7D]

/-- Commands Supported and Effects: the supported bit of each. -/
def effectsPage (f : Func) : List (Nat × Nat) :=
  (adminOpcodes f).map (fun o => (4 * o, 1)) ++ ioOpcodes.map fun o => (1024 + 4 * o, 1)

/-- Device Self-test: what runs, and the 20 newest results with their segments (R355). -/
def State.testPage (s : State) : List (Nat × Nat) :=
  let run := match s.admin.selftest with
    | some t => [(0, if t.extended then 2 else 1), (1, 100 * (t.segment - 1) / (if t.extended then 6 else 4))]
    | none => [(0, 0)]
  run ++ s.admin.testLog.zipIdx.flatMap fun e => [(4 + 28 * e.2, e.1.1), (5 + 28 * e.2, e.1.2)]

/-- Endurance group 1. -/
def State.endurancePage (s : State) : List (Nat × Nat) :=
  [(0, (decide (s.availableSpare ≤ 10)).toNat + 4 * (s.has Mode.degraded).toNat + 8 * (s.has Mode.readOnly).toNat),
   (3, s.availableSpare), (4, 10), (5, s.percentUsed), (160, s.capacityOf s.stripeAvailable),
   (176, s.capacityOf s.unreservedBlocks)]

/-- RUNS of a configuration (R159). -/
def State.runs (s : State) (config : Nat) : Nat := fdpWidth config * s.blockBytes

/-- FDP Configurations: two of them, each with a descriptor of type Initially Isolated, 1, for each of its 1,024 reclaim unit
handles (R159). -/
def State.fdpConfigs (s : State) : List (Nat × Nat) :=
  (0, 1) :: [0, 1].flatMap fun k =>
    let at_ := 16 + 4160 * k
    [(at_, 4160), (at_ + 2, 0x86), (at_ + 4, s.groups.length), (at_ + 8, 1024), (at_ + 10, 127), (at_ + 16, s.runs k)]
      ++ (List.range 1024).map fun i => (at_ + 64 + 4 * i, 1)

/-- Reclaim unit handles that some namespace holds. -/
def State.handlesUsed (s : State) : List (Nat × Nat) :=
  (0, 1024) :: ((List.range 1024).filter fun h => s.store.ns.any fun n => n.2.kind = .flexible && n.2.handles.contains h).map
    fun h => (8 + 8 * h, 1)

/-- Sanitize Status (R367): ETCE 10 s, ETBE 0x2040.01. -/
def State.sanitizePage (s : State) : List (Nat × Nat) :=
  [(0, if s.admin.sanStatus = 2 then 0 else 0xFFFF), (2, s.admin.sanStatus), (12, s.cfg Obj.sanitizeEtbe), (16, 10)]

/-- Device State (R351). -/
def State.devicePage (s : State) : List (Nat × Nat) :=
  [(0, s.modes.toNat), (8, s.cfg Obj.modeSeq), (16, s.power.current + 16 * s.power.target), (17, s.derate),
   (18, s.cfg Obj.lastWake), (19, s.power.refuseDomain), (20, s.power.refuseHold)]

/-- Length of a page in bytes. -/
def pageBytesOf (lid : Nat) : Nat :=
  if lid = 0x01 then 16384
  else if lid = 0x04 ∨ lid = 0x05 ∨ lid = 0xBF then 4096
  else if lid = 0x06 then 564
  else if lid = 0xD1 then 64
  else if lid ∈ [0x02, 0x03, 0x09, 0x81] then 512
  else 2 ^ 32

/-- The pages of R349 that a function has, but for D0h. -/
def hasPage (f : Func) (lid : Nat) : Bool :=
  lid ∈ [0x01, 0x02, 0x03, 0x04, 0x05, 0x09, 0x20, 0x21, 0x22, 0x23, 0x81, 0xBF, 0xD1] || (lid = 0x06 && f.isManager)

/-- Words of a page. -/
def State.pageWords (s : State) (f : Func) (lid nsid : Nat) : List (Nat × Nat) :=
  if lid = 0x01 then s.errorPage f
  else if lid = 0x02 then s.smartPage f
  else if lid = 0x03 then s.slotPage
  else if lid = 0x04 then changedList (Tbl.get [] s.admin.changedNs f.code)
  else if lid = 0x05 then effectsPage f
  else if lid = 0x06 then s.testPage
  else if lid = 0x09 then s.endurancePage
  else if lid = 0x20 then s.fdpConfigs
  else if lid = 0x21 then s.handlesUsed
  else if lid = 0x22 then [(0, 16384 * s.store.unitsHost), (16, 16384 * s.store.unitsFlash)]
  else if lid = 0x23 then (0, s.store.fdpEvents.length) :: s.store.fdpEvents.zipIdx.flatMap fun e =>
    [(64 + 64 * e.2, e.1.1), (64 + 64 * e.2 + 2, e.1.2)]
  else if lid = 0x81 then s.sanitizePage
  else if lid = 0xBF then
    let l := (Tbl.get [] s.admin.changedZones f.code).filter fun e => e.1 = nsid
    (0, l.length) :: l.zipIdx.map fun e => (8 + 8 * e.2, e.1.2)
  else s.devicePage

/-- A page that is read without RAE: its list of changes starts again. -/
def State.pageRead (s : State) (f : Func) (lid nsid : Nat) : State :=
  if lid = 0x04 then { s with admin := { s.admin with changedNs := Tbl.del s.admin.changedNs f.code } }
  else if lid = 0xBF then
    let rest := (Tbl.get [] s.admin.changedZones f.code).filter fun e => e.1 ≠ nsid
    { s with admin := { s.admin with changedZones := Tbl.set [] s.admin.changedZones f.code rest } }
  else s

/-- GET_LOG_PAGE (R349): D0h without ADVANCE is the Sampler window. -/
def execGetLogPage (h : Hdr) (lid offset nsid numd : Nat) (rae : Bool) (s : State) : Answer :=
  if lid = 0xD0 then execSamplerWindowLog h false offset numd s
  else .next (s.runRead h fun z => z.buffered h (4 * (numd + 1)) fun a =>
    if !(hasPage h.fn lid) then refuse .invalidLogPage a
    else if pageBytesOf lid < offset then refuse .invalidField a
    else if lid = 0xBF ∧ (a.ns? nsid).isNone then refuse .invalidNamespace a
    else if 0x21 ≤ lid ∧ lid ≤ 0x23 ∧ a.store.fdp.isNone then refuse Status.fdpDisabled a
    else
      let b := a.emit (.reply h (.words ((a.pageWords h.fn lid nsid).filter fun w => offset ≤ w.1 && w.1 < offset + 4 * (numd + 1))))
      (if rae then b else b.pageRead h.fn lid nsid, Cpl.ok))

/-! ### Identify (R60, R63, R68, R83, R102, R112, R151 to R156, R178, R347, R392) -/

/-- Power state descriptors (R392): module figure in 0.01 W, NOPS, ENLAT, EXLAT, and the relative figures. -/
def State.powerDescriptors (s : State) : List (Nat × Nat) :=
  let rows := [(s.cfg Obj.moduleBudget, 0, 0, 0), (s.cfg Obj.ps1ModuleMw, 0, 500, 500), (s.cfg Obj.ps2ModuleMw, 0, 500, 500),
    (s.cfg Obj.ps3ModuleMw, 1, 12320, 2000), (s.cfg Obj.ps4ModuleMw, 1, 6000000, 10000000)]
  rows.zipIdx.flatMap fun e =>
    let at_ := 2048 + 32 * e.2
    [(at_, e.1.1 / 10), (at_ + 3, 2 * e.1.2.1), (at_ + 4, e.1.2.2.1), (at_ + 8, e.1.2.2.2), (at_ + 12, e.2), (at_ + 13, e.2),
     (at_ + 14, e.2), (at_ + 15, e.2)]

/-- MAXCMD: the function's context cap. -/
def State.maxCmd (s : State) : Func → Nat
  | .inst n => s.cfg Obj.ctxMax n.val
  | .pf0 => 512
  | .pf1 => 512

/-- Identify Controller (R347). -/
def State.identifyController (s : State) (f : Func) : List (Nat × Nat) :=
  [(0, s.cfg Obj.pciIds), (4, s.cfg Obj.serial), (24, s.cfg Obj.model), (64, s.cfg Obj.fwVersion), (77, 9), (78, cntlidOf f),
   (80, 0x00020100), (96, 2 ^ 19), (256, if f.isManager then 0x9F else 1), (258, 7), (259, 7), (260, 0x19), (261, 0x06),
   (262, 255), (263, 4), (265, 1), (266, 378), (268, 383), (270, 2),
   (280, if f.isManager then s.capacityOf s.stripeAvailable else 0),
   (296, if f.isManager then s.capacityOf s.unreservedBlocks else 0), (316, s.cfg Obj.selftestEdstt), (318, 1), (319, 1),
   (328, 3 + 2 ^ 29 + 2 ^ 30), (512, 0x66), (513, 0x44), (514, s.maxCmd f), (516, 4096), (520, 0x1DF), (525, 7), (526, 3),
   (528, 3), (536, 0xD0001), (540, 4096)] ++ s.powerDescriptors

/-- The creation word in force (R153). -/
def CreationWord_bits (w : CreationWord) : Nat :=
  w.maxOpen * 2 ^ 48 + w.maxActive * 2 ^ 32 + w.stripeData * 2 ^ 18 + w.qParity.toNat * 2 ^ 17 + w.contract.toNat * 2 ^ 16
    + w.cipherMode * 2 ^ 14 + w.keyMode.toNat * 2 ^ 13 + w.digest.toNat * 2 ^ 12 + w.noCoalesce.toNat * 2 ^ 11 + w.blockVer

/-- LBA formats of R151: LBADS 12, metadata 0, 8 and 16 bytes. -/
def lbaFormats : List (Nat × Nat) := [(128, 12 * 2 ^ 16), (132, 8 + 12 * 2 ^ 16), (136, 16 + 12 * 2 ^ 16)]

/-- What every namespace reports alike (R102, R150, R151). -/
def nsCommon : List (Nat × Nat) := [(25, 2), (27, 3), (28, 5), (30, 1), (33, 1), (34, 3), (38, 0), (40, 3), (44, 3)] ++ lbaFormats

/-- Identify Namespace. -/
def Ns.identify (n : Ns) : List (Nat × Nat) :=
  [(0, n.nsze), (8, n.nsze), (16, n.nsze), (26, n.flbas), (29, n.dps), (48, 4096 * n.nsze),
    (3840, CreationWord_bits n.word)] ++ nsCommon

/-- Identify Namespace of the Zoned Namespace Command Set (R155, R156). -/
def State.identifyZoned (s : State) (n : Ns) : List (Nat × Nat) :=
  [(2, 1), (4, n.maxActive - 1), (8, n.maxOpen - 1)] ++ [0, 1, 2].map fun k => (2816 + 16 * k, s.zsze n.width)

/-- Extended LBA formats of the NVM command set: format 2 has the 64b Guard, and the storage tag has no bits (R151). -/
def nvmFormats : List (Nat × Nat) := [(0, 0), (8, 0), (12, 0), (16, 0), (20, 2 * 2 ^ 7)]

/-- A namespace is active for a function: attached to it. -/
def Ns.activeFor (n : Ns) (f : Func) : Bool := n.attached.contains f.code

/-- Command set of a namespace. -/
def Ns.csi (n : Ns) : Nat := if n.kind = .zoned then 2 else 0

/-- NSIDs above a number that a test selects, at most 1,024. -/
def State.nsList (s : State) (above : Nat) (p : Ns → Bool) : List Nat :=
  ((s.store.ns.filter fun e => above < e.1 && p e.2).map (·.1)).take 1024

/-- Primary Controller Capabilities (R68). -/
def State.primaryCaps (s : State) (f : Func) : List (Nat × Nat) :=
  let p := s.portOfFn f
  [(0, cntlidOf f), (4, 1), (32, s.flexPool p), (36, s.vqAssigned p), (40, 0), (42, 32), (44, 64), (46, 1)]

/-- Secondary Controller List: the instances of the port from a Controller ID up. -/
def State.secondaries (s : State) (f : Func) (cntid : Nat) : List (Nat × Nat) :=
  let p := s.portOfFn f
  let l := ((s.instancesOf p).filter fun n => cntid ≤ 0x100 + n).take 127
  (0, l.length) :: l.zipIdx.flatMap fun e =>
    let at_ := 32 + 32 * e.2
    let x := s.fnAt e.1
    [(at_, 0x100 + e.1), (at_ + 2, cntlidOf f), (at_ + 4, (decide (x.state = .online ∨ x.state = .frozen)).toNat),
     (at_ + 8, if p = .a then e.1 + 1 else e.1 - s.split + 1), (at_ + 10, s.cfg Obj.qpAllow e.1)]

/-- Controller IDs of the functions that exist. -/
def State.controllers (s : State) : List Nat :=
  ([Func.pf0, Func.pf1].filter s.present).map cntlidOf
    ++ ((s.host.fns.filter fun e => e.1 < 1024 && e.2.state ≠ .absent).map fun e => 0x100 + e.1)

/-- A list of numbers, its count first. -/
def counted (l : List Nat) : List (Nat × Nat) := (0, l.length) :: l.zipIdx.map fun e => (2 + 2 * e.2, e.1)

/-- Structures that only a manager reads. -/
def managerCns (cns : Nat) : Bool := cns ∈ [0x10, 0x11, 0x12, 0x13, 0x14, 0x15]

/-- An inactive namespace reads as zeros. -/
def State.identifyNs (s : State) (nsid : Nat) (p : Ns → Bool) (words : Ns → List (Nat × Nat)) : Except Status Reply :=
  match s.ns? nsid with
  | some n => .ok (.words (if p n then words n else []))
  | none => if 1 ≤ nsid ∧ nsid ≤ 4096 then .ok (.words []) else .error .invalidNamespace

/-- Data of Identify. -/
def State.identify (s : State) (f : Func) (cns nsid cntid csi : Nat) : Except Status Reply :=
  if cns = 0x00 then
    if nsid = 0xFFFFFFFF ∧ f.isManager then .ok (.words nsCommon) else s.identifyNs nsid (·.activeFor f) Ns.identify
  else if cns = 0x01 then .ok (.words (s.identifyController f))
  else if cns = 0x02 then .ok (.list (s.nsList nsid (·.activeFor f)))
  else if cns = 0x03 then s.identifyNs nsid (·.activeFor f) fun n => [(0, 4), (1, 1), (4, n.csi)]
  else if cns = 0x05 then s.identifyNs nsid (fun n => n.activeFor f && n.csi = csi) fun n =>
    if n.kind = .zoned then s.identifyZoned n else nvmFormats
  else if cns = 0x06 then
    if csi = 2 then .ok (.words [(0, 9)]) else if csi = 0 then .ok (.words [(0, 16), (1, 16), (2, 16)]) else .error .invalidField
  else if cns = 0x07 then .ok (.list (s.nsList nsid fun n => n.activeFor f && n.csi = csi))
  else if cns = 0x08 then s.identifyNs nsid (·.activeFor f) fun n => [(1, 1), (14, n.loaded.toNat)]
  else if cns = 0x10 then .ok (.list (s.nsList nsid fun _ => true))
  else if cns = 0x11 then s.identifyNs nsid (fun _ => true) Ns.identify
  else if cns = 0x12 then
    match s.ns? nsid with
    | some n => .ok (.words (counted ((n.attached.filterMap fun c => (Func.ofCode c).map cntlidOf).filter (cntid ≤ ·))))
    | none => .error .invalidNamespace
  else if cns = 0x13 then .ok (.words (counted (s.controllers.filter (cntid ≤ ·))))
  else if cns = 0x14 then .ok (.words (s.primaryCaps f))
  else if cns = 0x15 then .ok (.words (s.secondaries f cntid))
  else if cns = 0x1C then .ok (.words [(0, 5)])
  else .error .invalidField

/-- IDENTIFY (R347). -/
def execIdentify (h : Hdr) (cns nsid cntid csi : Nat) (s : State) : Answer :=
  .next (s.runRead h fun z => z.buffered h 4096 fun a =>
    if managerCns cns ∧ !h.fn.isManager then refuse .invalidField a
    else match a.identify h.fn cns nsid cntid csi with
      | .ok r => (a.emit (.reply h r), Cpl.ok)
      | .error st => refuse st a)

end Sys2Proof.Machine
end

