-- ==== Sys2Proof/Machine/Dirty.lean ====
section
/-! DEFINITION. Dirty tracking (R485 to R487): bit u of a bitmap stands for map unit u. -/
namespace Sys2Proof.Machine

/-- An accessor reaches the objects of instance n: its own port's manager, the port, the instance itself (R432). -/
def State.reaches (s : State) (acc : Accessor) (n : Nat) : Bool :=
  match acc with
  | .pf0 => s.portOf n = .a
  | .pf1 => s.dual && s.portOf n = .b
  | .port => true
  | .inst m => m.val = n

/-- The bitmap that 0x4nnn.42 selects. -/
def State.dirtyKey (s : State) (n : Nat) : Nat := 4096 * n + (s.cfg Obj.dirtyNsid n - 1)

def State.dirtyMap (s : State) (n : Nat) : Option Nat :=
  if s.cfg Obj.dirtyNsid n = 0 then none else Tbl.find s.migration.dirty (s.dirtyKey n)

/-- Map units of a namespace. -/
def Ns.units (x : Ns) : Nat := ceilDiv x.nsze 4

/-- Namespaces that an instance tracks. -/
def State.tracked (s : State) (n : Nat) : Nat := s.migration.dirty.countP fun e => e.1 / 4096 = n

/-- Tracking of the selected namespace starts with every bit set, or ends (R485); none where it is refused: the
namespace is not attached, 4 are tracked already, or DRAM lacks one bit a unit. -/
def State.setTracking (s : State) (n : Nat) (on : Bool) : Option State :=
  let nsid := s.cfg Obj.dirtyNsid n
  if on then
    match s.ns? nsid with
    | none => none
    | some x =>
      let new := (s.dirtyMap n).isNone
      if nsid = 0 ∨ !(x.attached.contains n) ∨ (new ∧ (4 ≤ s.tracked n ∨ s.dramLeft < ceilDiv x.units 8)) then none
      else some { s with migration := { s.migration with dirty := Tbl.put s.migration.dirty (s.dirtyKey n) (2 ^ x.units - 1) } }
  else if nsid = 0 then some s
  else some { s with migration := { s.migration with dirty := Tbl.del s.migration.dirty (s.dirtyKey n) } }

/-- DIRTY_EN_WRITE (R485): a manager of the port, or the management port, writes 0x4nnn.43. -/
def execDirtyEnWrite (acc : Accessor) (n : Fin 1024) (on : Bool) (s : State) : Answer :=
  if Accessor_manages acc ∧ s.reaches acc n.val then .next ((s.setTracking n.val on).getD s) else .next s

/-- Bits of a chunk (R487). -/
def chunkBits : Nat := 2048

/-- 0x4nnn.44 once every chunk is clear. -/
def noChunk : Nat := 2 ^ 64 - 1

/-- The chunk of a bitmap that follows chunk c among those with a set bit, the lowest such chunk after the last. -/
def nextChunk (map c : Nat) : Nat :=
  let chunks := (List.range (map.log2 / chunkBits + 1)).filter fun k => map / 2 ^ (chunkBits * k) % 2 ^ chunkBits ≠ 0
  ((chunks.find? (c < ·)).or chunks.head?).getD noChunk

/-- A read of 0x4nnn.45: the chunk's bits, which are cleared, and 0x4nnn.44 moves on (R487). -/
def State.takeDirty (s : State) (n : Nat) : Nat × State :=
  match s.dirtyMap n with
  | none => (0, s)
  | some m =>
    let c := s.cfg Obj.dirtyChunk n
    let bits := if m.log2 < chunkBits * c then 0 else m / 2 ^ (chunkBits * c) % 2 ^ chunkBits
    let m1 := if bits = 0 then m else m - bits * 2 ^ (chunkBits * c)
    let s1 := { s with migration := { s.migration with dirty := Tbl.put s.migration.dirty (s.dirtyKey n) m1 } }
    (bits, s1.keep Obj.dirtyChunk (nextChunk m1 c) n)

/-- Set bits of a number. -/
def popCount (m : Nat) : Nat := (List.range (m.log2 + 1)).countP fun i => m.testBit i

/-- DIRTY_BITS_READ (R487). -/
def execDirtyBitsRead (acc : Accessor) (n : Fin 1024) (s : State) : Answer :=
  if Accessor_manages acc ∧ s.reaches acc n.val then
    let got := s.takeDirty n.val
    .next (got.2.emit (.object acc.code (Obj.dirtyBits.key n.val 0) got.1))
  else .next s

end Sys2Proof.Machine
end

