-- ==== Sys2Proof/Machine/Security.lean ====
section
/-! DEFINITION. Physical presence, seal policy, root keys, debug lock, entropy health and CRYPTO_HALT (R461 to R475). -/
namespace Sys2Proof.Machine

/-! ### Zeroisation (R467, R474, R475) -/

/-- Step 2 of R467: key RAM, device KEK, transport KEKs, Key Per I/O keys, the management key register and every cell key
cache are cleared. KIDs and counters stay with the management cores, stored copies where they are. -/
def State.clearKeys (s : State) : State :=
  let s1 := s.purgeKeys fun _ => false
  let s2 := { s1 with
    cipher := { s1.cipher with
      slots := s1.cipher.slots.map fun (e : Nat × KeySlot) => (e.1, { e.2 with kind := 0, origin := 0, keyId := 0 })
      tkeks := []
      kpio := []
      masks := [] }
    security := { s1.security with mgmtKey := none, kek := false }
    engines := { s1.engines with digests := s1.engines.digests.map fun (e : Nat × DigestSt) => (e.1, { e.2 with key := none }) } }
  (s2.keep Obj.kpioKeys 0).keep Obj.keyPresent 0

/-- Every slot of the write buffer is on its way to flash, and the journal is closed (R474 step 3). -/
def State.drain (s : State) : State :=
  ((s.store.slots.map fun (e : Nat × Slot) => e.1).foldl (fun a k => match a.slot? k with
    | some x => if x.state = .filling then a.pushSlot k else a
    | none => a) s).closePage

/-- No slot is dirty. -/
def State.drained (s : State) : Bool :=
  s.store.slots.all fun e => match e.2.state with
    | .programmed _ => true
    | .filling => false
    | .fillRead => false
    | .programming _ => false

/-- A drain goes on; once nothing is dirty the keys are cleared, and a debug unlock takes effect (R468, R474). -/
def State.settleClearing (s : State) : State :=
  if s.security.clearing = 0 then s
  else
    let s1 := s.drain
    if !s1.drained then s1
    else
      let s2 := { s1.clearKeys with security := { s1.clearKeys.security with clearing := 0 } }
      if s.security.clearing = 2 then s2.keep Obj.debugState 1
      else { s2 with cipher := { s2.cipher with requests := 0 } }

/-! ### CRYPTO_HALT (R474) -/

/-- 0x2720.0B of a halt cause. -/
def HaltCause_code : HaltCause → Nat
  | .islandTest row => 256 + row % 256
  | .entropyStartup => 512
  | .repetition => 768
  | .proportion => 1024
  | .drbg => 1280

/-- CRYPTO_HALT during service: every function is fenced as by NVM Subsystem Reset, dirty slots are programmed, then the
keys are cleared. -/
def State.cryptoHalt (s : State) (c : HaltCause) : State :=
  if s.cfg Obj.cryptoState = 2 then s
  else
    let s1 := ((s.keep Obj.cryptoState 2).keep Obj.haltCause (HaltCause_code c)).subsystemReset
    { s1 with security := { s1.security with clearing := 1 } }.settleClearing

/-- ENTROPY_SAMPLE (R471): the Repetition Count Test at 41 and the Adaptive Proportion Test at 796 of 1,024. -/
def execEntropySample (bit : Bool) (s : State) : Answer :=
  if s.cfg Obj.cryptoState = 2 then .next s
  else
    let x := s.security
    let run := if x.run ≠ 0 ∧ bit = x.lastBit then x.run + 1 else 1
    let first := x.aptSeen = 0 ∨ 1024 ≤ x.aptSeen
    let ref := if first then bit else x.aptBit
    let seen := if first then 1 else x.aptSeen + 1
    let count := if first then 1 else if bit = x.aptBit then x.aptCount + 1 else x.aptCount
    let s1 := { s with security := { x with
      lastBit := bit
      run := run
      aptBit := ref
      aptSeen := seen
      aptCount := count } }
    if 41 ≤ run then .next (s1.cryptoHalt .repetition)
    else if 796 ≤ count then .next (s1.cryptoHalt .proportion)
    else .next s1

/-- DRBG_RESEED (R471, R474): a reseed starts the request count again; a failed test, or 1,048,576 requests without a
reseed, halts. -/
def execDrbgReseed (ok : Bool) (s : State) : Answer :=
  if s.cfg Obj.cryptoState = 2 then .next s
  else if ok then .next { s with cipher := { s.cipher with requests := 0 } }
  else .next (s.cryptoHalt .drbg)

/-! ### The loops (R461 to R463, R467) -/

/-- State of a loop from its forward and reverse voltages, in mV. -/
def loopState (fwd rev : Nat) : LoopState :=
  if 1200 ≤ fwd ∧ fwd ≤ 2000 ∧ 2500 ≤ rev then .normal
  else if fwd < 300 ∧ rev < 300 then .short
  else if 2500 ≤ fwd ∧ 1200 ≤ rev ∧ rev ≤ 2000 then .reversed
  else .openLoop

/-- Code of a loop state in 0x2720.01 and .02. -/
def LoopState_code : LoopState → Nat
  | .normal => 0
  | .openLoop => 1
  | .short => 2
  | .reversed => 3

/-- A measurement of a loop at a moment: a state is reported once it has held for `hold` ns. -/
def LoopSt.measure (x : LoopSt) (c : LoopState) (now hold : Nat) : LoopSt :=
  let y := if c = x.seen then x else { x with seen := c, since := now }
  if y.seen ≠ y.shown ∧ hold ≤ now - y.since then
    { y with shown := y.seen, normalSince := if y.seen = .normal then some now else none }
  else y

/-- Namespaces that exist, by NSID. -/
def State.nsids (s : State) : List Nat := s.store.ns.map fun (e : Nat × Ns) => e.1

/-- A ROOT_GEN step is burnt: stored copies of transport KEKs and of the management key are lost with the old root
(R465, R467). -/
def State.burnRoot (s : State) : State :=
  let s1 := s.save Obj.rootGen (s.cfg Obj.rootGen + 1)
  ({ s1 with
    cipher := { s1.cipher with tkeks := [], tkekBlobs := [] }
    security := { s1.security with mgmtKey := none, mgmtBlob := none, kek := true } }.tkekMap).keep Obj.keyPresent 0

/-- ROOT_GEN has a step left. -/
def State.rootLeft (s : State) : Bool := s.cfg Obj.rootGen < 32

/-- Dirty write-buffer slots are released unprogrammed (R467). -/
def State.releaseDirty (s : State) : State :=
  s.store.slots.foldl (fun a e => match e.2.state with
    | .programmed _ => a
    | .filling => a.freeSlot e.1 e.2.prev
    | .fillRead => a.freeSlot e.1 e.2.prev
    | .programming _ => a.freeSlot e.1 e.2.prev) s

/-- ZEROISE (R467): fence, clear, burn, crypto erase; with ROOT_GEN at 32 every namespace is barred until FACTORY formats
it. In HOLD-UP the burn comes first and the dump is abandoned. -/
def State.zeroise (s : State) : State :=
  let burn := fun (a : State) => if a.rootLeft then a.burnRoot
    else { a with security := { a.security with barred := a.nsids } }
  if s.has Mode.holdUp then
    let s1 := burn s
    { s1 with power := { s1.power with dumping := false }, store := { s1.store with dump := none } }
  else
    (burn (s.subsystemReset.clearKeys.releaseDirty)).startSanitize 4 true true false

/-- The presence window closes, and the challenge with it (R462, R468). -/
def State.closeWindow (s : State) : State :=
  { s with security := { s.security with opened := none, challenge := none } }

/-- A seal break (R467). -/
def State.sealBreak (s : State) : State :=
  let s1 := (s.save Obj.sealBroken 1).closeWindow
  if s1.cfg Obj.sealPolicy = 1 then s1.zeroise else s1

/-- A new reported state of PRESENCE_N: a press after 100 ms of NORMAL opens a window, but not under LOCK with the seal
broken, nor while one is open; a jumper ends when its SHORT does (R462, R463). -/
def State.presenceReport (s : State) (old : LoopSt) : State :=
  let x := s.security.presence
  let press := x.shown = .short ∧ old.shown = .normal ∧ old.normalSince.any fun t => 100000000 ≤ s.now - t
  let s1 := s.keep Obj.presenceLoop (LoopState_code x.shown)
  let s2 := { s1 with security := { s1.security with jumper := s1.security.jumper && x.shown = .short } }
  if press ∧ !s2.windowOpen ∧ !s2.sealLocked then { s2 with security := { s2.security with opened := some s2.now } } else s2

/-- LOOP_MEASUREMENT (R461): both loops, at a moment, in mV. -/
def execLoopMeasurement (t presFwd presRev sealFwd sealRev : Nat) (s : State) : Answer :=
  let s0 := s.tick t
  let p := s0.security.presence
  let q := s0.security.sealing
  let p1 := p.measure (loopState presFwd presRev) s0.now 20000000
  let q1 := q.measure (loopState sealFwd sealRev) s0.now 50000000
  let s1 := { s0 with security := { s0.security with presence := p1, sealing := q1 } }
  let s2 := if p1.shown = p.shown then s1 else s1.presenceReport p
  if q1.shown = q.shown then .next s2
  else
    let s3 := s2.keep Obj.sealLoop (LoopState_code q1.shown)
    .next (if q1.shown ≠ .normal ∧ q.shown = .normal then s3.sealBreak else s3)

/-- PRESENCE_WINDOW_EXPIRY (R462): 60 s after it opened. -/
def execPresenceWindowExpiry (t : Nat) (s : State) : Answer :=
  let s1 := s.tick t
  match s1.security.opened with
  | none => .next s1
  | some t0 => if t0 + windowNs ≤ s1.now then .next s1.closeWindow else .next s1

/-- 0x2720.03: seconds left in the window. -/
def State.windowLeft (s : State) : Nat :=
  match s.security.opened with
  | none => 0
  | some t0 => ceilDiv (t0 + windowNs - s.now) 1000000000

/-! ### Presence-gated operations (R464, R465, R468) -/

/-- A command of Security Protocol F1h: managers only (R464). -/
def State.secRun (s : State) (h : Hdr) (body : State → State × Cpl) : Answer :=
  .next (s.run h fun a => if h.fn.isManager then body a else refuse .invalidField a)

/-- FACTORY entry has presence: a window, or a jumper; a broken seal under LOCK lets only the jumper through, while the
seal reads NORMAL (R463, R464, R467). -/
def State.factoryMay (s : State) : Bool :=
  let jumper := s.security.jumper && s.security.presence.shown = .short
  if s.sealLocked then jumper && s.security.sealing.shown = .normal else s.presenceUsable || jumper

/-- FACTORY_ENTRY (R375, R464). -/
def execFactoryEntry (h : Hdr) (s : State) : Answer :=
  s.secRun h fun a =>
    if !a.factoryMay then refuse .operationDenied a
    else if a.has Mode.sanitize ∨ a.has Mode.activation ∨ a.has Mode.holdUp then refuse .sequenceError a
    else (((a.setMode Mode.factory 15).sweepIo .nsNotReady).presenceDone, Cpl.ok)

/-- ROOT_KEY_RESET (R465): a ROOT_GEN step, then a crypto erase with FREEZE_ABORT 1. -/
def execRootKeyReset (h : Hdr) (s : State) : Answer :=
  s.secRun h fun a =>
    if !a.presenceUsable ∨ !a.rootLeft then refuse .operationDenied a
    else if a.admin.sanitize.isSome then refuse .sanitizeInProgress a
    else (((a.burnRoot).startSanitize 4 true true false).presenceDone, Cpl.ok)

/-- DEBUG_CHALLENGE (R468): SERIAL and a challenge that is valid until it is used or the window closes. -/
def execDebugChallenge (h : Hdr) (s : State) : Answer :=
  s.secRun h fun a =>
    if !a.presenceUsable then refuse .operationDenied a
    else
      let (c, b) := a.draw
      let d := { b with
        security := { b.security with challenge := some c }
        cipher := { b.cipher with requests := b.cipher.requests + 1 } }
      (d.emit (.reply h (.words [(0, Config.serial), (20, c)])), Cpl.ok)

/-- DEBUG_UNLOCK (R468): a token that verifies over the outstanding challenge drains the device and unlocks; one that does
not consumes the challenge. -/
def execDebugUnlock (h : Hdr) (k : DebugToken) (s : State) : Answer :=
  s.secRun h fun a =>
    if !a.presenceUsable then refuse .operationDenied a
    else
      let b := { a with security := { a.security with challenge := none } }
      if a.security.challenge ≠ some k.challenge ∨ !k.signatureOk then refuse .operationDenied b
      else
        let d := b.presenceDone.subsystemReset
        ({ d with security := { d.security with clearing := 2 } }.settleClearing, Cpl.ok)

/-- A management key blob is refused at unwrap (R286, R465). -/
def State.mgmtBlobBad (s : State) (b : KeyBlob) : Bool :=
  !b.icvOk || !b.headerMatch || b.format ≠ 1 || b.length ≠ 72
    || !(b.wrap = 0 || (0x10 ≤ b.wrap && b.wrap ≤ 0x1F && (Tbl.find s.cipher.tkeks (b.wrap - 0x10)).isSome))

/-- MANAGEMENT_KEY_PROVISIONING (R465): KIND 5, TARGET 0; the key replaces any held, and the sequence state of R454 starts
again. -/
def execManagementKeyProvisioning (h : Hdr) (b : KeyBlob) (s : State) : Answer :=
  s.secRun h fun a =>
    if a.sealLocked ∨ !(a.presenceUsable || a.has Mode.factory) then refuse .operationDenied a
    else if b.kind ≠ 5 ∨ b.target ≠ 0 then refuse .invalidField a
    else if a.mgmtBlobBad b then a.refuseBlob b
    else
      let c := { a with
        security := { a.security with mgmtKey := some b.keyId, mgmtBlob := some b.keyId }
        staing := { a.staing with res := 0, lastReq := none, cached := none } }
      ((((c.keep Obj.keyPresent 1).keep Obj.seqLast 0).presenceDone), Cpl.ok)

end Sys2Proof.Machine
end

