-- ==== Sys2Proof/Machine/Objects.lean ====
section
/-! DEFINITION. Objects of the dictionary as a reader sees them: rights, types, values that the device computes at the
read, and the digest of settings (R430 to R434, R440, R442). -/
namespace Sys2Proof.Machine

/-! ### Rights (R432, R433) -/

/-- Type codes of R431. -/
def ObjTy.code : ObjTy → Nat
  | .u8 => 1
  | .u16 => 2
  | .u32 => 3
  | .u64 => 4
  | .i32 => 5
  | .bool => 6
  | .enum => 7
  | .octets => 8
  | .string => 9
  | .time64 => 10

/-- The object lies in a 0x4nnn index: its instance. -/
def instanceOf (index : Nat) : Option Nat := if 0x4000 ≤ index ∧ index < 0x4400 then some (index - 0x4000) else none

/-- Rights of an accessor on a row, as the union of its roles (R432), for an index within its scope. PRESENCE is held
while a window is open and usable, FACTORY while FACTORY is set. -/
def State.may (s : State) (acc : Accessor) (r : ObjRow) (index : Nat) (test : Right → Bool) : Bool :=
  let scope := (instanceOf index).elim true (s.reaches acc)
  let shared := (test r.acc.presence && s.presenceUsable) || (test r.acc.factory && s.has Mode.factory)
  scope && (match acc with
    | .pf0 => test r.acc.manager || shared
    | .pf1 => test r.acc.manager || shared
    | .port => test r.acc.port || shared
    | .inst _ => test r.acc.inst)

/-- Rows of an index, and its highest subindex (R430). -/
def rowsOf (index : Nat) : List ObjRow := Obj.table.filter fun r => r.base ≤ index && index < r.base + r.cnt

def highestSub (index : Nat) : Nat := ((rowsOf index).map fun r => r.sub + r.subs - 1).foldl max 0

/-- An index of the diagnostics, which the Epmin file alone describes (R446). -/
def diagnostic (index : Nat) : Bool := 0x7000 ≤ index && index < 0x8000

/-! ### Values computed at a read -/

/-- Bits 31 to 29 state, 28 to 27 class, 26 suspend, 23 to 12 excluded blocks, 11 to 0 retired ones (0x2300.09). -/
def State.lunWord (s : State) (l : Nat) : Nat :=
  let x := s.lun l
  let code := match x.state with
    | .absent => 0
    | .active => 1
    | .lost => 2
    | .unsupported => 3
    | .noProfile => 4
  code * 2 ^ 29 + x.cls.val * 2 ^ 27 + ((s.profile l).any (·.suspend)).toNat * 2 ^ 26
    + x.factoryBad.length % 4096 * 2 ^ 12 + min 4095 (s.retiredOf l)

/-- CH_STATUS of a channel (0x2301). -/
def State.chWord (s : State) (c : Nat) : Nat :=
  match Tbl.find s.flash.channels c with
  | some x => x.rate * 2 ^ 28 + x.state * 2 ^ 24 + min 255 x.eyeMin * 2 ^ 16 + min 255 x.fails * 2 ^ 8 + x.targets % 256
  | none => 0

/-- SLOT_STATUS of a key slot (0x2700.0E). -/
def State.slotStat (s : State) (k : Nat) : Nat :=
  match Tbl.find s.cipher.slots k with
  | some q => q.kind * 2 ^ 60 + q.origin * 2 ^ 56 + q.kid % 2 ^ 32
  | none => 0

/-- Blocks beyond the limits of R174. DESIGN CHOICE (log entry 132): the unit is one four-plane block of a present LUN; pages
beyond 2,048 leave no block unused and count nothing. -/
def State.unusedBlocks (s : State) : Nat :=
  ((s.flash.luns.filter fun e => e.2.state = .active || e.2.state = .lost).map fun e =>
    (s.profile e.1).elim 0 fun p => p.blocks - 4096).sum

/-- Domain of the consumer of a fabric request: its cell group, D02 for a Shuttle channel, D05 for the host front end. -/
def consumerDomain : Consumer → Option Nat
  | .cell c => some (cellDomain c.val)
  | .shuttle _ => some 2
  | .hostFront _ => some 5
  | .other => none

/-- OTC of a domain (R390): the fabric requests that its units have issued and not seen answered, and those they have accepted
and not answered. -/
def State.otc (s : State) (d : Nat) : Nat :=
  s.cells.reqs.countP (fun r => consumerDomain r.consumer = some d)
    + s.cells.inHand.countP fun p => nodeDomain p.dstX.val p.dstY.val = d

/-- DOMAIN_STATUS of a domain (0x2600.61). -/
def State.domainWord (s : State) (d : Nat) : Nat :=
  let code := fun (x : DomState) => match x with
    | .off => 0
    | .on => if s.domainOn d && !(s.cells.parked.contains d && domainCells d ≠ []) then 1 else 0
    | .clockStopped => 2
    | .retain => 3
    | .linkLp => 4
    | .listen => 5
    | .stopping => 6
    | .starting => 7
  match Tbl.find s.power.domains d with
  | some x => code x.state * 2 ^ 28 + min 4095 (s.otc d) * 2 ^ 16 + min 255 x.refusals * 2 ^ 8
  | none => code .on * 2 ^ 28 + min 4095 (s.otc d) * 2 ^ 16

def InstState.code : InstState → Nat
  | .absent => 0
  | .offline => 1
  | .online => 2
  | .frozen => 3
  | .fencing => 4

/-- Cells, link and instances. -/
def State.liveA (s : State) (r : ObjRow) (i j : Nat) : Option Nat :=
  if r = Obj.cellsActive then some (s.roleCount 1 + s.roleCount 2 + s.roleCount 3 + s.roleCount 4)
  else if r = Obj.cellsFenced then some (s.roleCount 7)
  else if r = Obj.deratePct then some s.derate
  else if r = Obj.cellState then some (s.cellState i)
  else if r = Obj.linkAStatus then some (s.linkStatus .a)
  else if r = Obj.linkBStatus then some (s.linkStatus .b)
  else if r = Obj.instancesOnline then
    some (s.host.fns.countP fun e => e.1 < 1024 && (e.2.state = .online || e.2.state = .frozen))
  else if r = Obj.flexFreeA then some (s.flexPool .a - s.vqAssigned .a)
  else if r = Obj.flexFreeB then some (s.flexPool .b - s.vqAssigned .b)
  else if r = Obj.ctxSharedFree then some s.sharedFree
  else if r = Obj.instState then some (InstState.code (s.fnAt i).state)
  else if r = Obj.instPort then some (portNum (s.portOf i))
  else if r = Obj.fenceGen then some (s.fnAt i).gen.toNat
  else if r = Obj.overlapFree then some s.overlapFree
  else if r = Obj.isumAddrA then some (s.host.isumA.elim 0 (·.address))
  else if r = Obj.isumAddrB then some (s.host.isumB.elim 0 (·.address))
  else if r = Obj.sumlineAddr then some ((s.fnAt i).line.elim 0 (·.address))
  else if r = Obj.sumlineSeq then some ((s.fnAt i).line.elim 0 (·.seq.toNat))
  else if r = Obj.readCap then some s.readCap
  else if r = Obj.writeCap then some s.writeCap
  else if r = Obj.tokenPool then some s.tokenPool
  else if r = Obj.tokensHeld then some s.tokensHeld
  else if r = Obj.dirtyEn then some (s.dirtyMap i).isSome.toNat
  else if r = Obj.dirtyCount then some ((s.dirtyMap i).elim 0 popCount)
  else if r = Obj.chStatus then some (s.chWord j)
  else if r = Obj.dchStatus then some (s.dchWord j)
  else none

/-- Codes of 0x2610.01 (R505). -/
def PwrfailClass_code : PwrfailClass → Nat
  | .high => 0
  | .low => 1
  | .openPin => 2
  | .shortHigh => 3

/-- Codes of 0x2610.05 with a diode fitted (R507). -/
def DiodeState_code : DiodeState → Nat
  | .normal => 0
  | .openPins => 1
  | .short => 2

/-- 0x2610.03: 0 normal, 1 below 0x2600.45, 2 out of range. -/
def State.senseState (s : State) : Nat :=
  if s.power.senseFaulty then 2 else if s.power.senseMv < s.cfg Obj.holdupSenseMv then 1 else 0

/-- A signed value as an object of so many bits holds it. -/
def twosOf (bits : Nat) (v : Int) : Nat := (v % (2 ^ bits : Nat)).toNat

/-- Namespaces, flash, memories, keys, pools, sensors. -/
def State.liveB (s : State) (r : ObjRow) (i : Nat) : Option Nat :=
  if r = Obj.nsCount then some s.store.ns.length
  else if r = Obj.zoneActiveFree then some s.activeFree
  else if r = Obj.digestCtx then some ((s.store.ns.map fun e => e.2.zones.countP fun z => z.2.dctx.isSome).sum)
  else if r = Obj.mapBytes then some (((s.store.ns.filter (·.2.loaded)).map (·.2.mapBytes)).sum)
  else if r = Obj.dramFree then some s.dramLeft
  else if r = Obj.stagingUsedPct then some s.stagingUsed
  else if r = Obj.sparePct then some s.availableSpare
  else if r = Obj.geometryUnused then some s.unusedBlocks
  else if r = Obj.dieClasses then some s.flash.classes.length
  else if r = Obj.lunsActive then some (s.flash.luns.countP fun e => e.2.state = .active)
  else if r = Obj.lunStatus then some (s.lunWord (s.cfg Obj.lunSelect))
  else if r = Obj.logData then some s.logWord
  else if r = Obj.keySlotsUsed then some (s.cipher.slots.countP fun e => e.2.kind ≠ 0)
  else if r = Obj.slotStatus then some (s.slotStat (s.cfg Obj.slotSelect))
  else if r = Obj.slotWctr then some ((Tbl.find s.cipher.slots (s.cfg Obj.slotSelect)).elim 0 (·.wctr))
  else if r = Obj.poolFree then some (s.poolFree i)
  else if r = Obj.dchActive then some s.dramActive.length
  else if r = Obj.dramBytes then some s.dramBytes
  else if r = Obj.modes then some s.modes.toNat
  else if r = Obj.domainStatus then some (s.domainWord (s.cfg Obj.domainSelect))
  else if r = Obj.oldest then some s.sampler.oldest
  else if r = Obj.newest then some s.sampler.newest
  else if r = Obj.firstLast then some s.sampler.firstLast
  else if r = Obj.pending then some s.pendingRecs
  else if r = Obj.windowS then some s.windowLeft
  else if r = Obj.pwrfailState then some (PwrfailClass_code s.power.pinClass)
  else if r = Obj.holdupMv then some (if s.power.senseFaulty then 65535 else s.power.senseMv)
  else if r = Obj.holdupState then some s.senseState
  else if r = Obj.tdState then some (if s.flag Obj.tdFitted then DiodeState_code s.power.diode else 3)
  else if r = Obj.tdTemp then some (twosOf 32 s.power.diodeTenths)
  else if r = Obj.dieTemps then some (natLE (s.power.temps.map fun t => BitVec.ofInt 8 t))
  else if r = Obj.dieTempMax then some (twosOf 32 (s.power.temps.tail.foldl max (s.power.temps.headD 0)))
  else if r = Obj.ratePerS then some (s.rateOf (s.cfg Obj.rateSelect))
  else if r = Obj.rateBurst then some (s.burstOf (s.cfg Obj.rateSelect))
  else none

/-- What an accessor has of its own. -/
def State.liveC (s : State) (acc : Accessor) (r : ObjRow) : Option Nat :=
  let x := s.acc acc.code
  if r = Obj.cursor then some x.cursor
  else if r = Obj.commitReason then some x.reason
  else if r = Obj.stagedEntries then some x.staged.length
  else none

/-- The value in force of an object, computed where the device computes it. -/
def State.inForce (s : State) (acc : Accessor) (r : ObjRow) (i j : Nat) : Nat :=
  (((s.liveA r i j).or (s.liveB r i)).or (s.liveC acc r)).getD (s.cfg r i j)

/-! ### SETTINGS_DIGEST (R440) -/

/-- Header of a record with STATUS 0 and FLAGS 0 (R441). -/
def recordHeader (index sub type length : Nat) : Nat :=
  index * 2 ^ 48 + sub % 256 * 2 ^ 40 + type % 256 * 2 ^ 32 + length % 65536 * 2 ^ 16

/-- A value padded with zeros to a multiple of 8 bytes. -/
def padded (length : Nat) : Nat := 8 * ceilDiv length 8

/-- A SAVED object that MANAGER or PORT may write (R439, R440). -/
def ObjRow.setting (r : ObjRow) : Bool := r.per = .saved && (r.acc.manager.canWrite || r.acc.port.canWrite)

/-- Records of an index's settings, by rising subindex. -/
def State.settingBytes (s : State) (index : Nat) : List Byte :=
  let rows := (rowsOf index).filter ObjRow.setting
  (List.range (highestSub index + 1)).flatMap fun sub =>
    match rows.find? fun r => r.sub ≤ sub && sub < r.sub + r.subs with
    | none => []
    | some r => bytesLE 8 (recordHeader index sub r.ty.code r.len)
        ++ bytesLE (padded r.len) (s.inForce .port r (index - r.base) (sub - r.sub))

/-- Indices that hold settings, rising. -/
def settingIndices : List Nat :=
  (List.range 0x8000).filter fun index => (rowsOf index).any ObjRow.setting

/-- 0x1F00.11: SHA-256 over every setting in ascending order, as a number, its first byte lowest. -/
def State.settingsDigest (s : State) : Nat :=
  natLE (settingIndices.foldl (fun (d : DigestCtx) index => d.feed (s.settingBytes index)) DigestCtx.fresh).finish

end Sys2Proof.Machine
end

