-- ==== Sys2Proof/Machine/Dictionary.lean ====
section
/-! DEFINITION. Reads, writes, staging sets and commits of the object dictionary (R433 to R445, with the checks of R38, R73
and R146). -/
namespace Sys2Proof.Machine

/-! ### Reads (R434, R442, R443) -/

/-- A reply that refuses an address. -/
def refusedReply (index sub status : Nat) : DictReply :=
  { index := index, sub := sub, type := 0, length := 0, status := status, staged := false, value := 0 }

/-- The value an accessor reads, and whether it is not yet in force (R434): its own staged value, then that of a commit
that waits for its boundary, then a FRAME or REBOOT value that waits. -/
def State.waitingValue (s : State) (acc : Accessor) (key : Nat) : Option Nat :=
  let own := Tbl.find (s.acc acc.code).staged key
  let committed := s.dict.commits.reverse.findSome? fun c => Tbl.find c.2 key
  ((own.or committed).or (Tbl.find s.dict.frame key)).or (Tbl.find s.dict.reboot key)

/-- Value of a row for a reader; reading DIRTY_BITS clears the chunk, and reading a window slot may flush (R425, R487). -/
def State.readRow (s : State) (acc : Accessor) (inForce : Bool) (r : ObjRow) (i j : Nat) : Nat × Bool × State :=
  if r = Obj.dirtyBits then
    let got := s.takeDirty i
    (got.1, false, got.2)
  else if r = Obj.window then
    let seq := (s.acc acc.code).cursor + j
    let s1 := s.reach seq
    (slotWord (s1.sampler.stored seq), false, s1)
  else if r = Obj.settingsDigest then (s.settingsDigest, false, s)
  else
    match (if inForce then none else s.waitingValue acc (r.key i j)) with
    | some v => (v, true, s)
    | none => (s.inForce acc r i j, false, s)

/-- One record of a read (R430, R433, R442). -/
def State.readObject (s : State) (acc : Accessor) (inForce : Bool) (index sub : Nat) : DictReply × State :=
  if diagnostic index then
    match Config.diagObject (256 * index + sub) with
    | none => (refusedReply index sub 1, s)
    | some v =>
      if (match acc with
          | .inst _ => false
          | .pf0 => true
          | .pf1 => true
          | .port => true) && s.has Mode.factory then
        ({ refusedReply index sub 0 with type := 4, length := 8, value := v % 2 ^ 64 }, s)
      else (refusedReply index sub 2, s)
  else if sub = 0 then
    if rowsOf index = [] then (refusedReply index sub 1, s)
    else if (rowsOf index).any fun r => s.may acc r index Right.canRead then
      ({ refusedReply index sub 0 with type := 1, length := 1, value := highestSub index }, s)
    else (refusedReply index sub 2, s)
  else
    match Obj.rowOf (256 * index + sub) with
    | none => (refusedReply index sub 1, s)
    | some r =>
      if s.may acc r index Right.canRead then
        let got := s.readRow acc inForce r (index - r.base) (sub - r.sub)
        ({ index := index, sub := sub, type := r.ty.code, length := r.len, status := 0, staged := got.2.1,
           value := got.1 % 256 ^ r.len }, got.2.2)
      else if s.may acc r index Right.canWrite then
        ({ refusedReply index sub 0 with type := r.ty.code, length := r.len }, s)
      else (refusedReply index sub 2, s)

/-- Bytes of a record. -/
def DictReply.bytes (d : DictReply) : Nat := 8 + padded d.length

/-- Records for some addresses, in order, up to the first that does not fit. -/
def State.readMany (s : State) (acc : Accessor) (room : Nat) : List ReadReq → List DictReply × State
  | [] => ([], s)
  | q :: t =>
    let got := s.readObject acc q.inForce q.index q.sub
    if room < got.1.bytes then ([], s)
    else
      let rest := got.2.readMany acc (room - got.1.bytes) t
      (got.1 :: rest.1, rest.2)

/-- DICTIONARY_READ (R443, C1h): COUNT subindices of an index; dword 0 gives the number of records returned. -/
def execDictionaryRead (h : Hdr) (index sub : Nat) (inForce : Bool) (count buflen : Nat) (s : State) : Answer :=
  .next (s.runRead h fun z =>
    if count = 0 ∨ 256 - sub < count ∨ 255 < sub ∨ buflen % 8 ≠ 0 ∨ buflen < 8 ∨ 4096 < buflen then refuse .invalidField z
    else z.buffered h buflen fun a =>
      let reqs := (List.range count).map fun k => ReadReq.mk index (sub + k) inForce
      let got := a.readMany h.fn.accessor buflen reqs
      (got.2.emit (.reply h (.records got.1)), Cpl.ok0 got.1.length))

/-! ### Types and ranges (R431, R433) -/

/-- Bytes of a STRING are ASCII 20h to 7Eh. -/
def stringOk (len v : Nat) : Bool := (bytesLE len v).all fun b => 0x20 ≤ b.toNat && b.toNat ≤ 0x7E

/-- Type, length and encoding of a record fit its object. -/
def typeOk (r : ObjRow) (d : DictRec) : Bool :=
  d.type = r.ty.code && d.length = r.len && (r.ty ≠ .bool || d.value ≤ 1) && (r.ty ≠ .string || stringOk r.len d.value)

/-- The value last written to an object, in force or not (R434). -/
def State.written (s : State) (r : ObjRow) (i : Nat := 0) (j : Nat := 0) : Nat :=
  ((Tbl.find s.dict.frame (r.key i j)).or (Tbl.find s.dict.reboot (r.key i j))).getD (s.cfg r i j)

/-- Ranges that another object bounds. -/
def State.boundsOk (s : State) (r : ObjRow) (i j v : Nat) : Bool :=
  if r = Obj.suspendReserve then v ≤ s.written Obj.suspendMax
  else if r = Obj.gcLowBp then s.written Obj.gcUrgentBp ≤ v && v ≤ s.written Obj.gcHighBp
  else if r = Obj.gcHighBp then s.written Obj.gcLowBp ≤ v
  else if r = Obj.gcUrgentBp then v ≤ s.written Obj.gcLowBp
  else if r = Obj.watchPct then v ≤ s.written Obj.relocatePct
  else if r = Obj.relocatePct then s.written Obj.watchPct ≤ v
  else if r = Obj.noticePct then s.written Obj.throttlePct i ≤ v
  else if r = Obj.throttlePct then s.written Obj.stopPct i ≤ v && v ≤ s.written Obj.noticePct i
  else if r = Obj.stopPct then v ≤ s.written Obj.throttlePct i
  else if r = Obj.thermFullC then s.written Obj.thermStartC < v
  else if r = Obj.tdFullC then s.written Obj.tdStartC < v
  else if r = Obj.ceMode then j ≠ 4 || v = 2
  else if r = Obj.rateSelect then (recordClass v).2 && eventCodes.contains v
  else true

/-- A value lies in its object's range. -/
def State.inRange (s : State) (r : ObjRow) (i j v : Nat) : Bool :=
  (match r.ty with
    | .octets => true
    | .string => true
    | .bool => true
    | .u8 => r.lo ≤ v && v ≤ r.hi
    | .u16 => r.lo ≤ v && v ≤ r.hi
    | .u32 => r.lo ≤ v && v ≤ r.hi
    | .u64 => r.lo ≤ v && v ≤ r.hi
    | .i32 => r.lo ≤ v && v ≤ r.hi
    | .enum => r.lo ≤ v && v ≤ r.hi
    | .time64 => true) && s.boundsOk r i j v

/-! ### Commits (R38, R73, R146, R436 to R438) -/

/-- Values in force with every accepted commit and then a staging set laid over them. -/
def State.withSet (s : State) (set : Tbl Nat) : State :=
  let force := s.dict.commits.foldl (fun t c => Tbl.over t c.2) s.dict.force
  { s with dict := { s.dict with force := Tbl.over force set } }

/-- Members of a staging set that belong to a row: offset (i, j) and value. -/
def stagedOf (set : Tbl Nat) (r : ObjRow) : List (Nat × Nat × Nat) :=
  (set.filter fun e => r.covers e.1).map fun e => (e.1 / 256 - r.base, e.1 % 256 - r.sub, e.2)

/-- Ranges that a commit checks and no chapter gives a code (0x0002). -/
def State.rangeFails (m : State) (set : Tbl Nat) : Bool :=
  let out := fun (r : ObjRow) (lo hi : Nat) => (stagedOf set r).any fun e => e.2.2 < lo || hi < e.2.2
  out Obj.ctxReserved 32 4096 || out Obj.ctxMax 0 16384 || out Obj.basketMin 2 1024 || out Obj.reservePct 10 90
    || out Obj.minReclaim 64 (m.poolSize 3 / 2) || out Obj.minRebuild 256 (m.poolSize 2 / 2) || out Obj.minScrub 64 (m.poolSize 2 / 4)
    || (stagedOf set Obj.contractPctl).any fun e => 3 < e.2.2 && m.cfg Obj.contractBound e.1 = 0

/-- Checks of R38 that fail, by reason code; `cellFails` are the cells that fail the fresh self-test of R44. A cell fenced
while an accepted commit waits is FENCED. -/
def State.roleFails (s m : State) (set : Tbl Nat) (cellFails : List (Fin 96)) : List Nat :=
  let roles := stagedOf set Obj.cellRole
  if roles = [] then []
  else
    let back := roles.any fun e => (s.cellRole e.1 = 7 || (s.withSet []).cellRole e.1 = 7) && e.2.2 ≠ 7
      && (cellFails.any (fun c => c.val = e.1) || 3 ≤ s.cfg Obj.fenceCount e.1)
    (if roles.any fun e => !([0, 1, 2, 3, 4, 7].contains e.2.2) then [0x0281] else [])
      ++ (if back then [0x0282] else [])
      ++ (if m.roleCount 1 < 8 ∨ m.roleCount 2 < 2 ∨ m.roleCount 3 < 1 ∨ m.roleCount 4 < 1 then [0x0283] else [])
      ++ (if s.power.entry.isSome then [0x0284] else [])
      ++ (if roles.any fun e => s.cellState e.1 = 2 then [0x0285] else [])

/-- Highest I/O queue identifier that a function has created. -/
def Fn.topQid (x : Fn) : Nat := ((x.sqs.map (·.1)) ++ x.cqs.map (·.1)).foldl max 0

/-- Objects of an instance that a commit may stage (R73, R146). -/
def instanceRows : List ObjRow :=
  [Obj.qpAllow, Obj.ctxReserved, Obj.ctxMax, Obj.basketMin, Obj.readShare, Obj.writeShare, Obj.copyShare, Obj.contractBound,
   Obj.contractPctl]

/-- Instances for which a set stages an object. -/
def stagedInstances (set : Tbl Nat) : List Nat := instanceRows.flatMap fun r => (stagedOf set r).map (·.1)

/-- Checks of R73 that fail. -/
def State.sizeFails (m : State) (set : Tbl Nat) : List Nat :=
  let some_ := fun (r : ObjRow) => stagedOf set r ≠ []
  let qps := stagedOf set Obj.qpAllow
  let insts := stagedInstances set
  (if qps.any fun e => e.2.2 = 0 || 64 < e.2.2 then [0x0401] else [])
    ++ (if qps.any fun e => e.2.2 < (m.fnAt e.1).topQid then [0x0402] else [])
    ++ (if some_ Obj.qpAllow ∧ (m.flexPool .a < m.vqAssigned .a ∨ m.flexPool .b < m.vqAssigned .b) then [0x0403] else [])
    ++ (if (insts.any fun n => m.cfg Obj.ctxMax n < m.cfg Obj.ctxReserved n)
          || (some_ Obj.ctxReserved && decide (65536 - 512 * m.managers < m.sumObj Obj.ctxReserved)) then [0x0404] else [])
    ++ (if (some_ Obj.basketMin ∨ some_ Obj.reservePct) ∧
          m.cfg Obj.reservePct * m.poolSize 1 < 100 * (((List.range 1024).map (m.minimum 1)).sum + 64 * m.managers)
        then [0x0405] else [])
    ++ (if insts.any fun n => (m.fnAt n).state = .fencing then [0x0406] else [])
    ++ (if insts.any fun n => (m.fnAt n).state = .frozen then [0x0407] else [])

/-- Background shares of one side: j of 0x2210 even read, odd write. -/
def State.bgTotal (m : State) (side : Nat) : Nat := ((List.range 4).map fun k => m.cfg Obj.bgShares 0 (2 * k + side)).sum

/-- Checks of R146 that fail; every nonzero contract bound is checked, staged or not. -/
def State.shareFails (m : State) (set : Tbl Nat) : List Nat :=
  let shares := [Obj.readShare, Obj.writeShare, Obj.copyShare].flatMap fun r => stagedOf set r
  let bgs := stagedOf set Obj.bgShares
  let contracts := (stagedOf m.dict.force Obj.contractBound).filter fun e => e.2.2 ≠ 0
  (if (shares.any fun e => e.2.2 = 0 || 10000 < e.2.2) || (bgs.any fun e => 10000 < e.2.2) then [0x2201] else [])
    ++ (if (shares ≠ [] ∨ bgs ≠ []) ∧ 10000 < m.sumObj Obj.readShare + m.bgTotal 0 then [0x2202] else [])
    ++ (if (shares ≠ [] ∨ bgs ≠ []) ∧ 10000 < m.sumObj Obj.writeShare + m.sumObj Obj.copyShare + m.bgTotal 1 then [0x2203] else [])
    ++ (if contracts.any fun e => decide (m.contractQ (m.cfg Obj.contractBound e.1) < 0) then [0x2204] else [])
    ++ (if contracts.any fun e => 3 < m.cfg Obj.contractPctl e.1 then [0x2205] else [])

/-- Every check that a set fails, by reason code (R437 step 1). -/
def State.commitFails (s : State) (set : Tbl Nat) (cellFails : List (Fin 96)) : List Nat :=
  let m := s.withSet set
  (if set = [] then [0x0001] else []) ++ (if m.rangeFails set then [0x0002] else []) ++ s.roleFails m set cellFails
    ++ m.sizeFails set ++ m.shareFails set

/-- The failing check with the lowest reason code. -/
def lowest : List Nat → Option Nat
  | [] => none
  | a :: t => some (t.foldl min a)

/-- A set whose checks pass is durable with its marker, the count rises, role changes begin, and its values wait for the
boundary (R437 steps 3 and 4, R39). -/
def State.acceptSet (s : State) (set : Tbl Nat) : State :=
  let s1 := { s with dict := { s.dict with durable := Tbl.over s.dict.durable set } }
  let s2 := s1.save Obj.commitSeq ((s1.cfg Obj.commitSeq + 1) % 2 ^ 32)
  let roles := stagedOf set Obj.cellRole
  let s3 := roles.foldl (fun a e => a.commitRole e.1 e.2.2) s2
  let s4 := if roles = [] then s3 else s3.save Obj.layoutId ((s3.cfg Obj.layoutId + 1) % 2 ^ 32)
  { s4 with dict := { s4.dict with commits := s4.dict.commits ++ [(s2.cfg Obj.commitSeq, set)] } }

/-- A commit of an accessor's set: its reason code, 0 when it is accepted. A set that fails stays staged. -/
def State.commitSet (s : State) (acc : Accessor) (cellFails : List (Fin 96)) : Nat × State :=
  let x := s.acc acc.code
  match lowest (s.commitFails x.staged cellFails) with
  | some r => (r, s.setAcc acc.code { x with reason := r })
  | none => (0, (s.acceptSet x.staged).setAcc acc.code { x with staged := [], reason := 0 })

/-- A discard empties the accessor's set (R438). -/
def State.discardSet (s : State) (acc : Accessor) : State := s.setAcc acc.code { s.acc acc.code with staged := [] }

/-! ### Writes (R433, R434, R436) -/

/-- A value is stored under its object's apply class. -/
def State.storeValue (s : State) (r : ObjRow) (i j v : Nat) : State :=
  let durable := fun (a : State) => if r.per = .volatile then a
    else { a with dict := { a.dict with durable := Tbl.put a.dict.durable (r.key i j) v } }
  match r.app with
  | .frame => durable { s with dict := { s.dict with frame := Tbl.put s.dict.frame (r.key i j) v } }
  | .reboot => durable { s with dict := { s.dict with reboot := Tbl.put s.dict.reboot (r.key i j) v } }
  | .immediate => s.save r v i j
  | .quiesce => s.save r v i j
  | .commit => s
  | .fixed => s

/-- RATE and BURST of the selected code (R420). -/
def State.storeRate (s : State) (burst : Bool) (v : Nat) : State :=
  let key := rateKey (s.cfg Obj.rateSelect) + burst.toNat
  let b := s.bucket (s.cfg Obj.rateSelect)
  let s1 := { s with dict := { s.dict with force := Tbl.put s.dict.force key v, durable := Tbl.put s.dict.durable key v } }
  s1.setBucket (s.cfg Obj.rateSelect) (if burst then { b with level := min b.level (v * oneToken) } else b)

/-- Bytes that the pools of one place other than pool 0 hold by the values last written (R320). -/
def State.poolBytes (s : State) (place : Nat) : Nat :=
  (((List.range 16).filter fun p => p ≠ 0 && s.written Obj.poolPlace p = place).map fun p =>
    s.written Obj.poolCount p * (4096 * 4 ^ s.written Obj.poolBuf p)).sum

/-- The pools stay within management SRAM and the fixed part of DRAM (R320). -/
def State.poolsFit (s : State) : Bool := s.poolBytes 0 ≤ 2 * 2 ^ 20 && s.poolBytes 1 ≤ 2 ^ 30

/-- Functions and queues of port B still fit (0x2100.02, 0x2100.03). -/
def splitsOk (vf vq : Nat) : Bool := vf ≤ vq && 1024 - vf ≤ 8128 - vq

/-- WRITE_PROTECT (R372). -/
def State.protect (s : State) (on : Bool) : State :=
  let s1 := s.save Obj.writeProtect on.toNat
  if on then s1.enterReadOnly 7 else s1.leaveReadOnly 7

/-- Objects whose write has a refusal of its own, or does more than hold a value: the result, none where the write is
refused (R442). -/
def State.actRefused (s : State) (acc : Accessor) (r : ObjRow) (i j v : Nat) : Option State :=
  if r = Obj.vfSplitA then (if splitsOk v (s.written Obj.vqSplitA) then some (s.storeValue r i j v) else none)
  else if r = Obj.vqSplitA then (if splitsOk (s.written Obj.vfSplitA) v then some (s.storeValue r i j v) else none)
  else if r = Obj.raMaxWidth then
    (if s.store.ns.any fun e => e.2.word.contract && decide (v < e.2.width) then none else some (s.storeValue r i j v))
  else if r = Obj.poolBuf ∨ r = Obj.poolPlace ∨ r = Obj.poolCount then
    (if (s.storeValue r i j v).poolsFit then some (s.storeValue r i j v) else none)
  else if r = Obj.ownerTakeover then s.takeOver acc v
  else if r = Obj.spareAdd then s.addSpares v
  else if r = Obj.dirtyEn then s.setTracking i (v = 1)
  else if r = Obj.sealBroken then
    (if v = 0 ∧ s.security.sealing.shown = .normal then some (s.save r 0) else none)
  else if r = Obj.maxRate then some (s.writeMaxRate v)
  else if r = Obj.ratePerS then some (s.storeRate false v)
  else if r = Obj.rateBurst then some (s.storeRate true v)
  else if r = Obj.writeProtect then some (s.protect (v = 1))
  else if r = Obj.fullPass then some (s.writeFullPass (v = 1))
  else if r = Obj.logClear then
    some (if v = 1 then { s with mem := { s.mem with logs := Tbl.del s.mem.logs (s.cfg Obj.logSelect) } } else s)
  else if r = Obj.samplerClear then
    some (if v = 1 then { s with sampler := { s.sampler with clearDue := true } } else s)
  else if r = Obj.cursor then some (s.setAcc acc.code { s.acc acc.code with cursor := v })
  else if r = Obj.advance then
    some (if v = 1 then s.setAcc acc.code { s.acc acc.code with cursor := ((s.acc acc.code).cursor + 16) % 2 ^ 64 } else s)
  else if r = Obj.sealPolicy ∨ r = Obj.arbAuto then some (s.storeValue r i j v).presenceDone
  else some (s.storeValue r i j v)

/-- A write by an accessor that has the right and gives the right type: its status and the state (R433, R434, R436). `cellFails`
are the cells that fail the fresh self-test of a commit that it asks for (R44). -/
def State.writeRow (s : State) (acc : Accessor) (r : ObjRow) (i j v : Nat) (cellFails : List (Fin 96)) : Nat × State :=
  if r.app = .commit then
    let x := s.acc acc.code
    if 8192 ≤ x.staged.length ∧ (Tbl.find x.staged (r.key i j)).isNone then (7, s)
    else (0, s.setAcc acc.code { x with staged := Tbl.put x.staged (r.key i j) v })
  else if !(s.inRange r i j v) then (4, s)
  else if r.app = .quiesce ∧ s.store.ns ≠ [] then (5, s)
  else if r = Obj.commit then
    (if v = 2 then (0, s.discardSet acc)
     else
      let got := s.commitSet acc cellFails
      (if got.1 = 0 then 0 else 8, got.2))
  else match s.actRefused acc r i j v with
    | some s1 => (0, s1)
    | none => (6, s)

/-- One record of a write: its status of R442, and the state. Pool 0 is read only (R320). -/
def State.writeObject (s : State) (acc : Accessor) (d : DictRec) (cellFails : List (Fin 96)) : Nat × State :=
  if diagnostic d.index then ((if (Config.diagObject (256 * d.index + d.sub)).isSome then 2 else 1), s)
  else if d.sub = 0 then ((if rowsOf d.index = [] then 1 else 2), s)
  else
    match Obj.rowOf (256 * d.index + d.sub) with
    | none => (1, s)
    | some r =>
      if r.app = .fixed ∨ !(s.may acc r d.index Right.canWrite) ∨ (d.index = 0x20A0 ∧ d.sub ≤ 3) then (2, s)
      else if !(typeOk r d) then (3, s)
      else s.writeRow acc r (d.index - r.base) (d.sub - r.sub) d.value cellFails

/-- Records are applied in order up to the first refusal (R444): how many, the refusal's status, and the state. -/
def State.writeMany (s : State) (acc : Accessor) (cellFails : List (Fin 96)) : List DictRec → Nat × Nat × State
  | [] => (0, 0, s)
  | d :: t =>
    let got := s.writeObject acc d cellFails
    if got.1 ≠ 0 then (0, got.1, got.2)
    else
      let rest := got.2.writeMany acc cellFails t
      (rest.1 + 1, rest.2.1, rest.2.2)

/-- Bytes of a run of records. -/
def recBytes (recs : List DictRec) : Nat := (recs.map fun d => 8 + padded d.length).sum

/-- DICTIONARY_WRITE (R444, C2h). -/
def execDictionaryWrite (h : Hdr) (len : Nat) (recs : List DictRec) (cellFails : List (Fin 96)) (s : State) : Answer :=
  .next (s.run h fun z =>
    if len % 8 ≠ 0 ∨ len < 16 ∨ 4096 < len ∨ recBytes recs ≠ len then refuse .invalidField z
    else z.buffered h len fun a =>
      let got := a.writeMany h.fn.accessor cellFails recs
      (got.2.2, ⟨if got.2.1 = 0 then .success else .writeRefused, got.1 + 2 ^ 16 * got.2.1, 0⟩))

/-- OBJECT_WRITE (R433). -/
def execObjectWrite (acc : Accessor) (r : DictRec) (cellFails : List (Fin 96)) (s : State) : Answer :=
  .next (s.writeObject acc r cellFails).2

/-- RESTORE_DEFAULTS (R439): a write of 0x1F00.10 by a manager or the port. -/
def execRestoreDefaults (acc : Accessor) (on : Bool) (s : State) : Answer :=
  .next (s.writeObject acc { index := 0x1F00, sub := 0x10, type := 6, length := 1, value := on.toNat } []).2

end Sys2Proof.Machine
end

