-- ==== Sys2Proof/Machine/Migration.lean ====
section
/-! DEFINITION. Freezing, saving, restoring and resuming instances (R476 to R484, R488). -/
namespace Sys2Proof.Machine

/-! ### Which instance (R476) -/

/-- The instance a manager names, when it is one of its own port. -/
def State.ownInst (s : State) (m : Func) (n : Nat) : Option (Fin 1024) :=
  if h : n < 1024 then (if s.portOf n = s.portOfFn m then some ⟨n, h⟩ else none) else none

/-- FREEZE_PHASE of an instance (0x4nnn.40): 0 NONE, 1 DRAINING, 2 FROZEN, 3 MOVED. -/
def State.phase (s : State) (n : Fin 1024) : Nat := s.cfg Obj.freezePhase n.val

/-! ### Freeze (R477, R478) -/

/-- A fetched command of the instance, under its present generation, that has not ended and is no outstanding Asynchronous
Event Request. -/
def State.running (s : State) (n : Fin 1024) (c : Ctx) : Bool :=
  c.hdr.fn = .inst n && c.gen = (s.fn (.inst n)).gen && c.done.isNone && c.wait ≠ .event

/-- Step 2 of R477 ends it: not admitted to media, no data moved, and no Flush. -/
def Ctx.interruptible (c : Ctx) : Bool := !c.admitted && !c.moved && c.flushOf.isNone

/-- Commands end Command Interrupted, counted in 0x4nnn.47. -/
def State.interrupt (s : State) (n : Fin 1024) (cs : List Ctx) : State :=
  (cs.foldl (fun a c => (a.withdraw c.hdr).finish c.hdr (Cpl.of .interrupted)) s).bump Obj.freezeInterrupted cs.length n.val

/-- Steps 1 to 3 of R477. -/
def State.startFreeze (s : State) (h : Hdr) (n : Fin 1024) : State :=
  let s1 := (s.keep Obj.freezePhase 1 n.val).setBank n.val Bank.zero
  let all := s1.host.ctxs.filter (s1.running n)
  let out := all.filter Ctx.interruptible
  let s2 := s1.interrupt n out
  let s3 := { s2 with migration := { s2.migration with freezing := Tbl.put s2.migration.freezing n.val (h, out.length, 0) } }
  let s4 := (all.filter fun c => !c.interruptible).foldl (fun a c => a.admitFor c.hdr false) s3
  s4.modCtx h fun k => { k with wait := .freeze n.val }

/-- FREEZE_INSTANCE (C8h): an ONLINE instance of the manager's port, in no freeze; not while SANITIZE is set. -/
def execFreezeInstance (h : Hdr) (n : Nat) (s : State) : Answer :=
  .next (s.startAdmin h State.adminGate fun a =>
    if !h.fn.isManager then a.finish h (Cpl.of .invalidOpcode)
    else if a.has Mode.sanitize then a.finish h (Cpl.of .sanitizeInProgress)
    else
      match a.ownInst h.fn n with
      | none => a.finish h (Cpl.of .invalidInstState)
      | some i =>
        if (a.fn (.inst i)).state = .online ∧ a.phase i = 0 then a.startFreeze h i
        else a.finish h (Cpl.of .invalidInstState))

/-- FREEZE_DRAIN_TIMEOUT: step 4 of R477, at 20 ms. -/
def execFreezeDrainTimeout (n : Fin 1024) (s : State) : Answer :=
  match Tbl.find s.migration.freezing n.val with
  | none => .next s
  | some e =>
    let all := s.host.ctxs.filter (s.running n)
    let s1 := s.interrupt n all
    .next { s1 with migration := { s1.migration with
      freezing := Tbl.put s1.migration.freezing n.val (e.1, e.2.1, e.2.2 + all.length) } }

/-- Every context but those of outstanding Asynchronous Event Requests has posted its entry. -/
def State.drainedOut (s : State) (n : Fin 1024) : Bool :=
  !(s.host.ctxs.any fun c => c.hdr.fn = .inst n && c.gen = (s.fn (.inst n)).gen && c.wait ≠ .event)

/-- FREEZE_COMPLETE: step 5 of R477. -/
def execFreezeComplete (n : Fin 1024) (s : State) : Answer :=
  match Tbl.find s.migration.freezing n.val with
  | none => .next s
  | some e =>
    if s.drainedOut n then
      let s1 := (s.writeLine (.inst n)).modFn (.inst n) fun x => { x with state := .frozen }
      let s2 := (s1.keep Obj.freezePhase 2 n.val).setMode Mode.freeze 12
      let s3 := { s2 with migration := { s2.migration with freezing := Tbl.del s2.migration.freezing n.val } }
      .next (s3.finish e.1 (Cpl.ok0 (e.2.1 + e.2.2)))
    else .next s

/-! ### Resume (R480) -/

/-- A FROZEN instance goes ONLINE: its bank is zero, its recorded doorbells take effect, its line is written once, and
its image is gone. -/
def State.thaw (s : State) (n : Fin 1024) : State :=
  let s1 := ((s.modFn (.inst n) fun x => { x with state := .online }).keep Obj.freezePhase 0 n.val).setBank n.val Bank.zero
  let s2 := ((s1.releaseBells (.inst n)).writeLine (.inst n)).dropFreeze n.val
  s2.settleFreeze

/-- RESUME_INSTANCE (CBh). A freeze that is not complete ends with Command Abort Requested first. -/
def execResumeInstance (h : Hdr) (n : Nat) (s : State) : Answer :=
  .next (s.managerRun h fun a =>
    match a.ownInst h.fn n with
    | none => refuse .invalidInstState a
    | some i =>
      match (a.fn (.inst i)).state, a.phase i with
      | .frozen, 2 => (a.thaw i, Cpl.ok)
      | .online, 1 => ((a.endFreeze i.val .abortRequested).releaseBells (.inst i), Cpl.ok)
      | _, _ => refuse .invalidInstState a)

/-! ### The state image (R481, R482) -/

/-- Numbers laid side by side, each with its width in bytes, as one run of bytes. -/
def layout (fields : List (Nat × Nat)) : List Byte := fields.flatMap fun f => bytesLE f.1 f.2

/-- A run of bytes padded with zeros, or cut, to n bytes. -/
def fit (n : Nat) (bs : List Byte) : List Byte := bs.take n ++ List.replicate (n - bs.length) 0

/-- CC as software reads it (NVM Express; entry sizes 64 and 16 bytes, all I/O command sets). -/
def Fn.cc (x : Fn) : Nat :=
  x.en.toNat + 6 * 2 ^ 4 + x.mps % 16 * 2 ^ 7 + x.wrr.toNat * 2 ^ 11 + (decide (x.shst ≠ 0)).toNat * 2 ^ 14 + 6 * 2 ^ 16
    + 4 * 2 ^ 20

/-- Queue record of a QID, 64 bytes. -/
def Fn.queueRecord (x : Fn) (q : Nat) : List Byte :=
  let sq := Tbl.find x.sqs q
  let cq := Tbl.find x.cqs q
  let flags := cq.isSome.toNat * 2 ^ 3 + sq.isSome.toNat * 2 ^ 4 + sq.elim 0 (·.prio % 4) * 2 ^ 5
    + cq.elim 0 (·.phase.toNat) * 2 ^ 7
  layout [(31, 0), (1, flags), (2, q), (2, sq.elim 0 (·.cqid)), (2, cq.elim 0 (·.head)), (2, cq.elim 0 (·.tail)),
    (2, sq.elim 0 (·.head)), (2, sq.elim 0 fun y => y.recorded.getD y.tail), (2, cq.elim 0 (·.size - 1)),
    (2, sq.elim 0 (·.size - 1)), (8, cq.elim 0 (·.base)), (8, sq.elim 0 (·.base))]

/-- Features of an instance that the image carries: FID and key of each part (R348). -/
def imageFeats : List (Nat × Nat) :=
  [(0x01, 0x01), (0x04, featKey 0x04 0), (0x04, featKey 0x04 1), (0x05, 0x05), (0x06, 0x06), (0x08, 0x08), (0x09, 0x09),
   (0x0A, 0x0A), (0x0B, 0x0B)]

/-- Default of a part of a feature by its key. -/
def State.keyDefault (s : State) (f : Func) (e : Nat × Nat) : Nat := s.featDefault f e.1 (if e.1 = e.2 then 0 else 1)

/-- Feature entries, 16 bytes each. -/
def State.featBytes (s : State) (f : Func) : List Byte :=
  let x := s.fn f
  imageFeats.flatMap fun e =>
    layout [(4, e.1), (4, Tbl.get (s.keyDefault f e) x.feats e.2), (4, Tbl.get (s.keyDefault f e) x.savedFeats e.2), (4, 0)]

/-- Attached namespaces, 8 bytes each. -/
def State.nsBytes (s : State) (n : Nat) : List Byte :=
  (s.store.ns.filter fun e => e.2.attached.contains n).flatMap fun e => layout [(4, e.1), (1, e.2.flbas), (1, e.2.csi), (2, 0)]

/-- Objects that the image carries. -/
def imageRows : List ObjRow :=
  [Obj.qpAllow, Obj.ctxReserved, Obj.ctxMax, Obj.basketMin, Obj.readShare, Obj.writeShare, Obj.copyShare, Obj.contractBound,
   Obj.contractPctl, Obj.raThreshold, Obj.authDelivery]

/-- Their dictionary records, with INDEX 0x4000. -/
def State.objectBytes (s : State) (n : Nat) : List Byte :=
  imageRows.flatMap fun r =>
    layout [(8, recordHeader 0x4000 r.sub r.ty.code r.len), (padded r.len, (s.withSet []).written r n)]

/-- Code of a pending event in the image. -/
def AsyncEvent_code : AsyncEvent → Nat
  | .invalidDoorbellRegister => 1
  | .invalidDoorbellValue => 2
  | .spareBelowThreshold => 3
  | .firmwareActivationStarting => 4
  | .zoneDescriptorChanged => 5
  | .namespaceAttributeChanged => 6
  | .fdpEvent => 7

def eventOfCode (n : Nat) : Option AsyncEvent :=
  [.invalidDoorbellRegister, .invalidDoorbellValue, .spareBelowThreshold, .firmwareActivationStarting, .zoneDescriptorChanged,
    .namespaceAttributeChanged, .fdpEvent].find? fun e => AsyncEvent_code e = n

/-- Asynchronous Event state: count, CIDs, then the masks of feature 0Bh and the pending events. -/
def State.eventBytes (s : State) (f : Func) : List Byte :=
  let x := s.fn f
  layout [(8, x.aers.length)] ++ fit 16 (x.aers.flatMap fun h => bytesLE 2 h.cid)
    ++ fit 104 (bytesLE 4 (Tbl.get eventMask x.feats 0x0B) ++ x.events.flatMap fun e => bytesLE 1 (AsyncEvent_code e))

/-- Controller state, 256 bytes. -/
def State.controlBytes (s : State) (f : Func) : List Byte :=
  let x := s.fn f
  let sq := Tbl.find x.sqs 0
  let cq := Tbl.find x.cqs 0
  fit 256 (layout [(4, x.cc), (2, sq.elim 0 (·.size - 1)), (2, cq.elim 0 (·.size - 1)), (8, sq.elim 0 (·.base)),
    (8, cq.elim 0 (·.base)), (8, x.line.elim 0 (·.address)), (4, x.line.isSome.toNat + 2 ^ 8 * x.lineDelay),
    (8, x.line.elim 0 (·.seq.toNat)), (4, x.line.elim 0 (·.posted.toNat))])

/-- SRC_TAG of this device: the first 8 bytes of SHA-256 of SERIAL. -/
def State.sourceTag (s : State) : Nat := natLE ((sha256 (bytesLE Obj.serial.len (s.cfg Obj.serial))).take 8)

/-- Bytes of an image with so many queue records. -/
def imageLength (queues : Nat) : Nat := 8192 + 64 * queues

/-- The header's first 32 bytes. -/
def State.imageHeader (s : State) (n : Fin 1024) (queues : Nat) : List Byte :=
  let i := s.runningImage
  let tracked := (s.migration.dirty.any fun e => e.1 / 4096 = n.val).toNat
  layout [(4, 0x53394C50), (2, 0), (2, 0x9664), (1, 1), (1, tracked), (1, i.minor), (1, i.major), (2, imageLength queues),
    (2, queues), (2, (s.fn (.inst n)).gen.toNat), (2, n.val), (4, s.cfg Obj.saveCount n.val), (8, s.sourceTag)]

/-- The image of an instance (R482). -/
def State.imageOf (s : State) (n : Fin 1024) : List Byte :=
  let f := Func.inst n
  let x := s.fn f
  let queues := x.topQid + 1
  let head := s.imageHeader n queues
  let body := s.controlBytes f ++ fit 1024 (s.featBytes f) ++ fit 2048 (s.nsBytes n.val) ++ fit 2048 (s.objectBytes n.val)
    ++ fit 2752 (s.eventBytes f) ++ (List.range queues).flatMap x.queueRecord
  head ++ sha256 (head ++ List.replicate 32 0 ++ body) ++ body

/-- The window of an instance's image. -/
def imageWindow (n : Fin 1024) : Nat := 0x1000 + n.val

/-- SAVE_INSTANCE_STATE (C9h): the image takes the window's place, and 0x4nnn.41 counts it. -/
def execSaveInstanceState (h : Hdr) (n : Nat) (s : State) : Answer :=
  .next (s.managerRun h fun a =>
    match a.ownInst h.fn n with
    | none => refuse .invalidInstState a
    | some i =>
      if (a.fn (.inst i)).state = .frozen ∧ (a.phase i = 2 ∨ a.phase i = 3) then
        let b := a.bump Obj.saveCount 1 i.val
        let img := b.imageOf i
        ({ b with engines := { b.engines with
          windows := Tbl.set [] b.engines.windows (imageWindow i) (cellsStore [] 0 img) } }, Cpl.ok0 img.length)
      else refuse .invalidInstState a)

/-! ### Restore (R483, R484) -/

/-- The number at some bytes of a run. -/
def fieldAt (img : List Byte) (at_ n : Nat) : Nat := natLE ((img.drop at_).take n)

/-- Dictionary records of a run, up to a zero header (at most `fuel` of them): subindex and value. -/
def readRecords : Nat → List Byte → List (Nat × Nat)
  | 0, _ => []
  | fuel + 1, bs =>
    let header := fieldAt bs 0 8
    let len := header / 2 ^ 16 % 65536
    if header = 0 then []
    else (header / 2 ^ 40 % 256, fieldAt bs 8 len) :: readRecords fuel (bs.drop (8 + padded len))

/-- The image's objects as a set staged for an instance. -/
def imageSet (img : List Byte) (n : Nat) : Tbl Nat :=
  (readRecords 256 ((img.drop 3392).take 2048)).foldl (fun t e =>
    match imageRows.find? fun r => r.sub = e.1 with
    | some r => Tbl.put t (r.key n 0) e.2
    | none => t) []

/-- Check 7 of R483: the checks of R73 and R146 on the image's objects but the one of R479 that a FROZEN instance always
fails. -/
def State.moveFails (s : State) (set : Tbl Nat) : List Nat :=
  let m := s.withSet set
  (if m.rangeFails set then [0x0002] else []) ++ (m.sizeFails set).filter (· ≠ 0x0407) ++ m.shareFails set

/-- Check 6 of R483: a namespace of the image is attached to the target with the same FLBAS and CSI. -/
def State.imageNsOk (s : State) (img : List Byte) (n i : Nat) : Bool :=
  let e := (img.drop (1344 + 8 * i)).take 8
  let nsid := fieldAt e 0 4
  nsid = 0 || (match Tbl.find s.store.ns nsid with
    | some x => x.attached.contains n && x.flbas = fieldAt e 4 1 && x.csi = fieldAt e 5 1
    | none => false)

/-- The first check of R483 that an image fails: its number, the status, and the reason code of check 7. -/
def State.imageCheck (s : State) (img : List Byte) (n : Fin 1024) : Option (Nat × Status × Nat) :=
  let queues := fieldAt img 14 2
  let len := fieldAt img 12 2
  if s.phase n ≠ 2 ∨ (s.fn (.inst n)).en then some (1, .invalidInstState, 0)
  else if fieldAt img 0 4 ≠ 0x53394C50 ∨ fieldAt img 8 1 ≠ 1 ∨ fieldAt img 6 2 ≠ 0x9664 ∨ len ≠ imageLength queues ∨ 12352 < len
  then some (2, .imageInvalid, 0)
  else if (img.drop 32).take 32 ≠ sha256 (img.take 32 ++ List.replicate 32 0 ++ (img.drop 64).take (len - 64)) then
    some (3, .imageInvalid, 0)
  else if fieldAt img 11 1 ≠ s.runningImage.major then some (4, .imageIncompatible, 0)
  else if s.cfg Obj.qpAllow n.val < queues - 1 then some (5, .imageIncompatible, 0)
  else if !((List.range 256).all (s.imageNsOk img n.val)) then some (6, .imageIncompatible, 0)
  else match lowest (s.moveFails (imageSet img n.val)) with
    | some r => some (7, .imageIncompatible, r)
    | none => none

/-- A queue record laid into a function's queues; a recorded tail waits for the resume, in QID order. -/
def Fn.loadQueue (x : Fn) (r : List Byte) (bell : Nat) : Fn :=
  let flags := fieldAt r 31 1
  let qid := fieldAt r 32 2
  let x1 := if flags / 8 % 2 = 1 then { x with
      cqs := Tbl.put x.cqs qid (Cq.mk (fieldAt r 44 2 + 1) (fieldAt r 48 8) (fieldAt r 36 2) (fieldAt r 38 2) (decide (128 ≤ flags))) }
    else x
  if flags / 16 % 2 = 1 then
    let sq : Sq :=
      { size := fieldAt r 46 2 + 1
        base := fieldAt r 56 8
        cqid := fieldAt r 34 2
        prio := flags / 32 % 4
        head := fieldAt r 40 2
        tail := fieldAt r 40 2
        bell := some bell
        recorded := some (fieldAt r 42 2)
        deleting := [] }
    { x1 with sqs := Tbl.put x1.sqs qid sq }
  else x1

/-- Features of an image. -/
def Fn.loadFeats (x : Fn) (img : List Byte) : Fn :=
  imageFeats.zipIdx.foldl (fun (y : Fn) e =>
    let at_ := 320 + 16 * e.2
    if fieldAt img at_ 1 = e.1.1 then { y with
      feats := Tbl.put y.feats e.1.2 (fieldAt img (at_ + 4) 4)
      savedFeats := Tbl.put y.savedFeats e.1.2 (fieldAt img (at_ + 8) 4) }
    else y) x

/-- The completion summary line of an image: none with EN 0; the next write carries SEQ one higher. -/
def imageLine (img : List Byte) : Option Line :=
  let c0 := fieldAt img 96 4
  if c0 % 2 = 0 then none
  else some
    { address := fieldAt img 88 8
      delay := c0 / 2 ^ 8 % 256
      seq := BitVec.ofNat 64 (fieldAt img 100 8)
      posted := BitVec.ofNat 32 (fieldAt img 108 4)
      cqMap := 0
      admin := false
      paused := false
      due := false }

/-- Commands of an image's outstanding Asynchronous Event Requests. -/
def imageAers (img : List Byte) (n : Fin 1024) : List Hdr :=
  (List.range (min 8 (fieldAt img 5440 1))).map fun i => ⟨.inst n, 0, fieldAt img (5448 + 2 * i) 2⟩

/-- Its pending events. -/
def imageEvents (img : List Byte) : List AsyncEvent :=
  (List.range 100).filterMap fun i => eventOfCode (fieldAt img (5468 + i) 1)

/-- Queues, controller state, features and Asynchronous Event state of an image are loaded into an instance. -/
def State.loadImage (s : State) (img : List Byte) (n : Fin 1024) : State :=
  let f := Func.inst n
  let cc := fieldAt img 64 4
  let aers := imageAers img n
  let x := s.fn f
  let x1 := { x with
    en := decide (cc % 2 = 1)
    rdy := decide (cc % 2 = 1) && s.readyWhen f
    shst := if cc / 2 ^ 14 % 4 = 0 then 0 else 2
    wrr := decide (cc / 2 ^ 11 % 8 = 1)
    mps := cc / 2 ^ 7 % 16
    sqs := []
    cqs := []
    line := imageLine img
    lineDelay := fieldAt img 97 1
    aers := aers
    events := imageEvents img }
  let x2 := (List.range (fieldAt img 14 2)).foldl (fun (y : Fn) q =>
    y.loadQueue ((img.drop (8192 + 64 * q)).take 64) (s.host.bells + q)) (x1.loadFeats img)
  let s1 := s.setFn f x2
  let s2 := { s1 with host := { s1.host with bells := s1.host.bells + fieldAt img 14 2 } }
  aers.foldl (fun a h => (a.addCtx h).modCtx h fun k => { k with wait := .event, begun := true }) s2

/-- The source of an image of this device, still FROZEN under the image's generation, takes MOVED (R484). -/
def State.markMoved (s : State) (img : List Byte) (n : Fin 1024) : State :=
  let src := fieldAt img 18 2
  if h : src < 1024 then
    let i : Fin 1024 := ⟨src, h⟩
    if fieldAt img 24 8 = s.sourceTag ∧ i ≠ n ∧ (s.fn (.inst i)).state = .frozen
        ∧ (s.fn (.inst i)).gen.toNat = fieldAt img 16 2 then
      s.keep Obj.freezePhase 3 src
    else s
  else s

/-- RESTORE_INSTANCE_STATE (CAh): the checks of R483 in order; dword 0 gives the one that fails. -/
def execRestoreInstanceState (h : Hdr) (n : Nat) (s : State) : Answer :=
  .next (s.managerRun h fun a =>
    match a.ownInst h.fn n with
    | none => (a, ⟨.invalidInstState, 1, 0⟩)
    | some i =>
      let img := cellsLoad (Tbl.get [] a.engines.windows (imageWindow i)) 0 12352
      if (a.fn (.inst i)).state ≠ .frozen then (a, ⟨.invalidInstState, 1, 0⟩)
      else match a.imageCheck img i with
        | some e => (a, ⟨e.2.1, e.1 + 2 ^ 16 * e.2.2, 0⟩)
        | none =>
          let set := imageSet img i.val
          let b := a.loadImage img i
          let c := if set = [] then b else b.acceptSet set
          (c.markMoved img i, Cpl.ok))

end Sys2Proof.Machine
end

