-- ==== Sys2Proof/Machine/SelfTest.lean ====
section
/-! DEFINITION. Device self-test (R346, R352 to R355). -/
namespace Sys2Proof.Machine

/-- A self-test starts: segment 1 is next, and an extended one sets MAINTENANCE once its work starts (R352, R383). -/
def State.beginTest (s : State) (h : Hdr) (nsid : Nat) (extended : Bool) : State :=
  let t := SelfTest.mk extended (if nsid = 0xFFFFFFFF then 0 else nsid) 1 h.fn.code 0 false
  let s1 := { s with admin := { s.admin with selftest := some t } }
  if extended ∧ !(s.has Mode.recovery) then s1.setMode Mode.maintenance 8 else s1

/-- Device Self-test with STC 1h or 2h (R355). -/
def State.startTest (s : State) (h : Hdr) (nsid : Nat) (extended : Bool) : Answer :=
  .next (s.sanRun h fun a =>
    if a.admin.selftest.isSome then refuse .selfTestInProgress a
    else if nsid ≠ 0 ∧ nsid ≠ 0xFFFFFFFF ∧ (a.ns? nsid).isNone then refuse .invalidNamespace a
    else (a.beginTest h nsid extended, Cpl.ok))

/-- DEVICE_SELF_TEST_SHORT: segments 1 to 4. -/
def execDeviceSelfTestShort (h : Hdr) (nsid : Nat) (s : State) : Answer := s.startTest h nsid false

/-- DEVICE_SELF_TEST_EXTENDED: segments 1 to 6. -/
def execDeviceSelfTestExtended (h : Hdr) (nsid : Nat) (s : State) : Answer := s.startTest h nsid true

/-- DEVICE_SELF_TEST_ABORT: STC Fh ends the running self-test at its next step. -/
def execDeviceSelfTestAbort (h : Hdr) (s : State) : Answer :=
  .next (s.sanRun h fun a =>
    ({ a with admin := { a.admin with selftest := a.admin.selftest.map fun t => { t with stopping := true } } }, Cpl.ok))

/-- An admin command waits (R346). -/
def State.adminWaits (s : State) : Bool :=
  s.host.ctxs.any fun c => c.hdr.sqid = 0 && c.done.isNone && c.wait = .none && c.cmd.isNone

/-- Self-test work may run (R346, R355, R376). -/
def State.testOpen (s : State) : Bool :=
  !s.adminWaits && !s.host.paused && !(s.has Mode.activation) && !(s.has Mode.sanitize) && !(s.has Mode.idle)
    && !(s.has Mode.airing) && !(s.has Mode.holdUp) && !(s.has Mode.recovery)

/-- The reads of a block's sample are done, and self-test holds its claim. -/
def State.sampleDone (s : State) (e : SampleEnd) : Bool :=
  (s.block e.lun.val e.block).claim = some claimSelftest && Tbl.find s.mem.sampling (blockKey e.lun.val e.block) = some 0

/-- A block that a segment samples is asked for (R237); once its claim is held its reads are admitted for SELFTEST credits, and
when they are done the sample is judged (R352, R353). -/
def State.testSample (s : State) (e : SampleEnd) : State :=
  let l := e.lun.val
  if s.sampleDone e then s.endSample l e.block e.failBits e.left
  else if !(s.programmedBlocks.contains (blockKey l e.block)) then s
  else if (s.block l e.block).claim ≠ some claimSelftest then s.requestClaim claimSelftest l e.block
  else if (Tbl.find s.mem.sampling (blockKey l e.block)).isNone then s.startSample .selftest l e.block
  else s

/-- Last segment of a self-test. -/
def SelfTest.last (t : SelfTest) : Nat := if t.extended then 6 else 4

/-- Segment 3 leaves the next address (0x2030.02). -/
def State.advanceDramTest (s : State) : State :=
  if s.dramBytes = 0 then s
  else s.save Obj.selftestDramPos ((s.cfg Obj.selftestDramPos + 2 ^ 30 * s.dramActive.length) % s.dramBytes)

/-- A segment ends: the next one starts, or the self-test ends with 0h, or 7h and its first failing segment. -/
def State.endSegment (s : State) (t : SelfTest) : State :=
  let s1 := if t.segment = 3 then s.advanceDramTest else s
  let put := fun (a : State) (u : SelfTest) => { a with admin := { a.admin with selftest := some u } }
  if t.segment < t.last then put s1 { t with segment := t.segment + 1 }
  else if t.failed = 0 then (put s1 t).endTest 0
  else (put s1 { t with segment := t.failed }).endTest 7

/-- SELF_TEST_STEP (R346, R352): what a step found acts as the earlier rules set out. -/
def execSelfTestStep (segmentDone failed : Bool) (samples : List SampleEnd) (cellFail : Option (Fin 96))
    (halt : Option HaltCause) (s : State) : Answer :=
  match s.admin.selftest with
  | none => .next s
  | some t =>
    if !s.testOpen then .next s
    else if t.stopping then .next (s.endTest 1)
    else
      let s1 := if t.extended then s.setMode Mode.maintenance 8 else s
      match halt with
      | some c => .next (s1.cryptoHalt c)
      | none =>
        let s2 := match cellFail with
          | some c => s1.fenceCell c.val 1
          | none => s1
        let taken := if t.segment = 4 ∨ t.segment = 6 then samples else []
        let s3 := taken.foldl State.testSample s2
        let bad := failed || cellFail.isSome || taken.any fun e => e.left && s2.sampleDone e
        let u := { t with failed := if bad ∧ t.failed = 0 then t.segment else t.failed }
        let s4 := { s3 with admin := { s3.admin with selftest := some u } }
        .next (if segmentDone then s4.endSegment u else s4)

end Sys2Proof.Machine
end

