-- ==== Sys2Proof/Machine/Staing.lean ====
section
/-! DEFINITION. The management pair, Staing datagrams and operations, commits and discards by every accessor (R437, R438,
R445, R448 to R456). -/
namespace Sys2Proof.Machine

/-! ### The pair (R450) -/

/-- A field of 0x1100.09: its value, from bit lo, w bits wide. -/
def field (v lo w : Nat) : Nat := v / 2 ^ lo % 2 ^ w

/-- PAIR_STATUS from its fields. -/
def pairWord (st wire polInv txEn vFault faults : Nat) : Nat :=
  st * 2 ^ 28 + wire * 2 ^ 26 + polInv * 2 ^ 25 + txEn * 2 ^ 24 + vFault * 2 ^ 16 + faults * 2 ^ 8

/-- The transmitter is enabled (TX_EN). -/
def State.txEnabled (s : State) : Bool := (s.cfg Obj.pairStatus).testBit 24

def PairState_code : PairState → Nat
  | .normal => 0
  | .openWire => 1
  | .shortPair => 2
  | .shortGnd => 3
  | .shortVolt => 4

/-- How long a pair fault must be absent, in ns. -/
def pairClearNs : Nat := 1000000000

/-- The pair is found in a state. A fault disables the transmitter at once and counts when it begins; one that has been
absent for 1 s enables it again. -/
def State.diagnose (s : State) (st : PairState) (wire vFault polInv : Nat) : State :=
  let v := s.cfg Obj.pairStatus
  let faults := field v 8 8
  if st = .normal then
    let since := s.staing.pairClear.getD s.now
    if s.txEnabled then s.keep Obj.pairStatus (pairWord 0 0 polInv 1 0 faults)
    else if pairClearNs ≤ s.now - since then
      { s.keep Obj.pairStatus (pairWord 0 0 polInv 1 0 faults) with staing := { s.staing with pairClear := none } }
    else
      { s.keep Obj.pairStatus (pairWord (field v 28 4) (field v 26 2) polInv 0 (field v 16 8) faults) with
        staing := { s.staing with pairClear := some since } }
  else
    let began := s.txEnabled || s.staing.pairClear.isSome || field v 28 4 ≠ PairState_code st
    let n := if began then min 255 (faults + 1) else faults
    { s.keep Obj.pairStatus (pairWord (PairState_code st) (wire % 4) polInv 0 (min 255 vFault) n) with
      staing := { s.staing with pairClear := none } }

/-- PAIR_DIAGNOSIS (R450), every 10 ms. -/
def execPairDiagnosis (st : PairState) (wire vFault : Nat) (reversed : Bool) (t : Nat) (s : State) : Answer :=
  .next ((s.tick t).diagnose st wire vFault reversed.toNat)

/-! ### What the port answers (R449, R456) -/

/-- The port answers: out of reset and ROM recovery (R459), in no mode that only a wake frame reaches, and unless D54 or the
management cluster is lost (R33). -/
def State.portAwake (s : State) : Bool :=
  !(s.blockLost 54) && !(s.blockLost 2) && !s.power.held && !s.power.restart && !s.security.rom && !(s.has Mode.idle) &&
    !(s.has Mode.airing) && !(s.has Mode.holdUp)

/-- Staing requests are served; CRYPTO_HALT drops them (R474). -/
def State.staingOpen (s : State) : Bool := s.portAwake && s.cfg Obj.cryptoState ≠ 2

/-- A frame leaves while the transmitter is enabled. -/
def State.transmit (s : State) (o : Out) : State := if s.txEnabled then s.emit o else s

/-- A frame to the device's address without fragment or extension header, its checksum good. -/
def IpFrame_ok (f : IpFrame) : Bool := f.toDevice && !f.fragment && !f.extension && f.checksumOk

/-- NEIGHBOR_SOLICITATION (R449). -/
def execNeighborSolicitation (f : IpFrame) (s : State) : Answer :=
  if s.portAwake ∧ IpFrame_ok f then .next (s.transmit .advert) else .next s

/-- ECHO_REQUEST (R449). -/
def execEchoRequest (f : IpFrame) (s : State) : Answer :=
  if s.portAwake ∧ IpFrame_ok f then .next (s.transmit .echoReply) else .next s

/-! ### Datagrams (R453, R454, R456) -/

/-- LAST of R454. -/
def State.last (s : State) : Nat := s.cfg Obj.seqLast

/-- A SEQ above LAST becomes LAST; RES moves 65,536 past it first when it is reached. -/
def State.acceptSeq (s : State) (d : Datagram) : State :=
  let s1 := s.keep Obj.seqLast d.seq
  { s1 with staing := { s1.staing with
    res := if s1.staing.res ≤ d.seq then d.seq + 65536 else s1.staing.res
    lastReq := some d
    cached := none } }

/-- A response is sent, and kept for a repetition of its request. -/
def State.respond (s : State) (o : Out) : State :=
  let s1 := s.transmit o
  { s1 with staing := { s1.staing with cached := some o } }

/-- An accepted request is answered at once when its operation or its body is bad, and waits otherwise. -/
def State.queueRequest (s : State) (d : Datagram) : State :=
  if d.op = 0 ∨ 4 < d.op then s.respond (.staing d.op 2 d.seq 0 [] 0)
  else if !d.bodyWhole then s.respond (.staing d.op 3 d.seq 0 [] 0)
  else { s with staing := { s.staing with waiting := s.staing.waiting ++ [d] } }

/-- The SEQ of a request under R454. -/
def State.checkSeq (s : State) (d : Datagram) : State :=
  if s.last < d.seq then (s.acceptSeq d).queueRequest d
  else
    let s1 := s.bump Obj.seqRejects
    if d.seq = s.last ∧ s.staing.lastReq = some d then
      match s.staing.cached with
      | some o => s1.transmit o
      | none => s1
    else s1.transmit (.staing d.op 1 d.seq (s.last + 1) [] 0)

/-- The checks of R453 in order; a fifth request that would wait is dropped (R456). -/
def State.receive (s : State) (d : Datagram) : State :=
  if !d.srcLinkLocal ∨ !d.dstDevice ∨ d.udpPort ≠ s.cfg Obj.udpPort then s
  else if d.payloadLen < 48 ∨ d.length ≠ d.payloadLen ∨ d.length % 8 ≠ 0 then s.bump Obj.lenDrops
  else if d.magic ≠ 0x5453 ∨ d.version ≠ 1 ∨ d.kind ≠ 1 then s.bump Obj.formatDrops
  else if s.security.mgmtKey.isNone then s.bump Obj.authDrops
  else if !(ComparePair_match d.tagPair) then (s.judgePair 96 d.tagPair).bump Obj.authDrops
  else if s.last < d.seq ∧ 4 ≤ s.staing.waiting.length then s.bump Obj.busyDrops
  else s.checkSeq d

/-- STAING_DATAGRAM (R453). -/
def execStaingDatagram (d : Datagram) (s : State) : Answer := if s.staingOpen then .next (s.receive d) else .next s

/-! ### Operations (R455) -/

/-- The oldest waiting request, when it is this operation with this SEQ. -/
def State.oldestRequest (s : State) (op seq : Nat) : Option Datagram :=
  match s.staing.waiting with
  | d :: _ => if d.op = op ∧ d.seq = seq ∧ s.staingOpen then some d else none
  | [] => none

/-- The oldest request has been executed: its response is sent. -/
def State.executed (s : State) (o : Out) : State :=
  let s1 := { s with staing := { s.staing with waiting := s.staing.waiting.drop 1 } }
  (s1.bump Obj.requestsOk).respond o

/-- Bytes of records that a datagram holds (R451). -/
def staingBody : Nat := 1404

/-- STAING_READ: OP 1. -/
def execStaingRead (seq : Nat) (reqs : List ReadReq) (s : State) : Answer :=
  match s.oldestRequest 1 seq with
  | none => .next s
  | some d =>
    let got := s.readMany .port staingBody reqs
    .next (got.2.executed (.staing 1 0 d.seq got.1.length got.1 0))

/-- STAING_WRITE: OP 2. -/
def execStaingWrite (seq : Nat) (recs : List DictRec) (cellFails : List (Fin 96)) (s : State) : Answer :=
  match s.oldestRequest 2 seq with
  | none => .next s
  | some d =>
    let got := s.writeMany .port cellFails recs
    .next (got.2.2.executed (.staing 2 (if got.2.1 = 0 then 0 else 4) d.seq (got.1 + 2 ^ 16 * got.2.1) [] 0))

/-- Body of an ECHO response: boot count, MODES. -/
def State.echoBody (s : State) : Nat := s.cfg Obj.boots % 2 ^ 32 + 2 ^ 32 * s.modes.toNat

/-- STAING_ECHO: OP 4. -/
def execStaingEcho (seq : Nat) (s : State) : Answer :=
  match s.oldestRequest 4 seq with
  | none => .next s
  | some d => .next (s.executed (.staing 4 0 d.seq (s.last + 1) [] s.echoBody))

/-! ### Commit and discard (R437, R438, R445) -/

/-- The oldest waiting request is a COMMIT: its ARG says what it asks. One whose ARG asks neither has no response that the
spec states: nothing is done, and the status is a free value (log entry 1). -/
def State.staingCommit (s : State) (action : Nat) (go : State → Nat × State) : State :=
  match s.staing.waiting with
  | d :: _ =>
    if d.op ≠ 3 ∨ !s.staingOpen then s
    else if d.arg % 256 = action then
      let got := go s
      got.2.executed (.staing 3 (if got.1 = 0 then 0 else 5) d.seq got.1 [] 0)
    else if d.arg % 256 ≠ 1 ∧ d.arg % 256 ≠ 2 then
      let v := s.draw
      v.2.executed (.staing 3 (v.1 % 256) d.seq 0 [] 0)
    else s
  | [] => s

/-- An accessor may write 0x1F00.01. -/
def State.mayCommit (s : State) (acc : Accessor) : Bool := s.may acc Obj.commit 0x1F00 Right.canWrite

/-- COMMIT (R437): by C3h, by 0x1F00.01, or by Staing. -/
def execCommit (by' : CommitBy) (cellFails : List (Fin 96)) (s : State) : Answer :=
  match by' with
  | .admin h =>
    .next (s.managerRun h fun a =>
      let got := a.commitSet h.fn.accessor cellFails
      (got.2, if got.1 = 0 then Cpl.ok else ⟨.commitFailed, got.1, 0⟩))
  | .object acc => .next (if s.mayCommit acc then (s.commitSet acc cellFails).2 else s)
  | .staing => .next (s.staingCommit 1 fun a => a.commitSet .port cellFails)

/-- DISCARD (R438). -/
def execDiscard (by' : CommitBy) (s : State) : Answer :=
  match by' with
  | .admin h => .next (s.managerRun h fun a => (a.discardSet h.fn.accessor, Cpl.ok))
  | .object acc => .next (if s.mayCommit acc then s.discardSet acc else s)
  | .staing => .next (s.staingCommit 2 fun a => (0, a.discardSet .port))

end Sys2Proof.Machine
end

