-- ==== Sys2Proof/Machine/Boundary.lean ====
section
/-! DEFINITION. What a frame boundary does as a whole: values that take effect, limits, banks, claims and admission (R43,
R123 to R132, R238, R242, R378, R386, R395, R413, R414, R437). -/
namespace Sys2Proof.Machine

/-! ### FRAME and COMMIT values (R434, R437) -/

/-- A value takes effect for the object of a key. -/
def State.keepKey (s : State) (key v : Nat) : State :=
  match Obj.rowOf key with
  | some r => s.keep r v (key / 256 - r.base) (key % 256 - r.sub)
  | none => { s with dict := { s.dict with force := Tbl.put s.dict.force key v } }

def State.keepAll (s : State) (t : Tbl Nat) : State := t.foldl (fun a e => a.keepKey e.1 e.2) s

/-- A role that its cell still drains to (R39): it takes effect when the cell does. -/
def State.roleWaits (s : State) (e : Nat × Nat) : Bool :=
  Obj.cellRole.covers e.1 && (s.cell (e.1 / 256 - Obj.cellRole.base)).drainTo = some e.2

/-- The window of an instance whose contract is set or changed restarts (R147). -/
def State.restartWindows (s : State) (set : Tbl Nat) : State :=
  { s with sched := { s.sched with windows := s.sched.windows.filter fun w =>
    !(set.any fun e => e.1 = Obj.contractBound.key w.1 0 || e.1 = Obj.contractPctl.key w.1 0) } }

/-- One commit takes effect: roles follow their cells. -/
def State.applyCommit (s : State) (c : Nat × Tbl Nat) : State :=
  let s1 := (s.keepAll (c.2.filter fun e => !(Obj.cellRole.covers e.1))).restartWindows c.2
  let rest := c.2.filter s1.roleWaits
  if rest = [] then s1 else { s1 with dict := { s1.dict with commits := s1.dict.commits ++ [(c.1, rest)] } }

/-- FRAME values take effect, and commits in their order, the last of which 0x1F00.05 shows. -/
def State.applyValues (s : State) : State :=
  let due := s.dict.commits
  let s1 := { s.keepAll s.dict.frame with dict := { (s.keepAll s.dict.frame).dict with frame := [], commits := [] } }
  let s2 := due.foldl State.applyCommit s1
  match due.getLast? with
  | some c => s2.keep Obj.appliedSeq c.1
  | none => s2

/-! ### Dirty limit (R413) -/

/-- P_dump of R412, in mW. -/
def State.dumpPower (s : State) : Nat :=
  let n := s.cfg Obj.dumpLuns
  let prog := (s.attached.map (·.pProg)).foldl max 0
  let idle := (s.attached.map (·.pIdle)).foldl max 0
  11000 + s.cfg Obj.dramReserve + n * prog + (s.attachedLuns.length - n) * idle

/-- tSLC and tPROG of the slowest class, in ns. -/
def State.slowSlc (s : State) : Nat := (s.attached.map (·.tSlc)).foldl max 0
def State.slowProg (s : State) : Nat := (s.attached.map (·.tProg)).foldl max 0

/-- Time of a dump beside its rounds: 0.5 ms + tPROG + 4 × tSLC. -/
def State.dumpFixed (s : State) : Nat := 500000 + s.slowProg + 4 * s.slowSlc

/-- The energy bound: 0 when it is negative. One mJ × % over one mW lasts 10⁷ ns. -/
def State.energyBound (s : State) : Nat :=
  let energy := s.cfg Obj.holdupEnergyMj * s.cfg Obj.holdupMarginPct * 10000000
  let power := s.dumpPower
  if s.slowSlc = 0 then 0
  else (energy - s.dumpFixed * power) / (s.slowSlc * power) * s.cfg Obj.dumpLuns * 32768

/-- The limit but for pool 0 and the sense pin. -/
def State.limitAtBoot (s : State) : Nat :=
  min s.energyBound (min (s.cfg Obj.dirtyCap) (s.cfg Obj.ctrWindow / 2 * 16384)) / 16384 * 16384

/-- HOLDUP_SENSE is below 0x2600.45, out of range, or counts as faulty by PWRFAIL_N's class (R505, R506). -/
def State.senseBad (s : State) : Bool :=
  s.power.senseFaulty || decide (s.power.senseMv < s.cfg Obj.holdupSenseMv)
    || s.power.pinClass = .openPin || s.power.pinClass = .shortHigh

/-- 0x2400.03 at a boundary. -/
def State.newLimit (s : State) : Nat := if s.senseBad then 0 else min s.limitAtBoot (s.poolSize 0 * 16384)

/-! ### Thermal factor (R414, R507) -/

/-- A factor that falls from 1 at `start` to pct % at `full`, over a common denominator. -/
def fallOff (t start full : Int) (pct : Nat) : Nat × Nat :=
  if t ≤ start then (1, 1)
  else if full ≤ t then (pct, 100)
  else (100 * (full - start).toNat - (100 - pct) * (t - start).toNat, 100 * (full - start).toNat)

/-- The lower of two factors. -/
def lowerOf (a b : Nat × Nat) : Nat × Nat := if a.1 * b.2 ≤ b.1 * a.2 then a else b

/-- The factor of the on-die sensors: that of the hottest one. -/
def State.dieFactor (s : State) : Nat × Nat :=
  s.power.temps.foldl (fun f t =>
    lowerOf f (fallOff t (s.cfg Obj.thermStartC : Nat) (s.cfg Obj.thermFullC : Nat) (s.cfg Obj.thermMinPct))) (1, 1)

/-- The factor of the remote diode, measured in 0.1 °C. -/
def State.diodeFactor (s : State) : Nat × Nat :=
  if !(s.flag Obj.tdFitted) then (1, 1)
  else if s.power.diode ≠ .normal then (s.cfg Obj.thermMinPct, 100)
  else fallOff s.power.diodeTenths (10 * s.cfg Obj.tdStartC : Nat) (10 * s.cfg Obj.tdFullC : Nat) (s.cfg Obj.thermMinPct)

/-- The factor at a boundary, with a record when it leaves or reaches 100 %. -/
def State.scalePool (s : State) : State :=
  let f := lowerOf s.dieFactor s.diodeFactor
  let pct := 100 * f.1 / f.2
  let s1 := { s with power := { s.power with scaleNum := f.1, scaleDen := f.2 } }.keep Obj.poolScalePct pct
  if decide (f.1 = f.2) = decide (s.power.scaleNum = s.power.scaleDen) then s1 else s1.record 0x0F04 [pct]

/-! ### Power state (R395) -/

/-- A change among PS0, PS1 and PS2 takes effect. -/
def State.takePower (s : State) : State :=
  if s.power.target ≤ 2 then
    { s with power := { s.power with current := s.power.target, operational := s.power.target } }
  else s

/-! ### Admission (R132, R378) -/

/-- MAINTENANCE: SCRUB and SELFTEST chunks go first in step 3, within 0x2000.05 of the frame's read capacity. -/
def State.admitMaintenance (s : State) (len : Nat) : State :=
  if s.has Mode.maintenance then
    let cap := min s.sched.leftRead (s.readCap * len / max 1 s.frameNs * s.cfg Obj.maintBp / 10000)
    let held := s.sched.leftRead - cap
    let s1 := { s with sched := { s.sched with leftRead := cap } }.admitBgAll true fun (c : BgChunk) => c.task = Task.scrub
      || c.task = Task.selftest
    { s1 with sched := { s1.sched with leftRead := s1.sched.leftRead + held } }
  else s

/-- Chunks of a short self-test whose SELFTEST bank is empty go ahead of the background chunks of step 2 (R353). -/
def State.admitShortTest (s : State) : State :=
  if s.admin.selftest.any (fun t => !t.extended) ∧ (s.bank Task.selftest.holder).read ≤ 0 then
    s.admitBgAll true fun c => c.task = .selftest
  else s

/-- Steps 1 to 3 of R132; what step 3 leaves is not carried. -/
def State.admitAll (s : State) (len : Nat) : State :=
  let s1 := ((s.admitHosts false).admitShortTest).admitBgAll false fun _ => true
  let s2 := ((s1.admitMaintenance len).admitHosts true).admitBgAll true fun _ => true
  { s2 with sched := { s2.sched with leftRead := 0, leftWrite := 0 } }

/-! ### The boundary -/

/-- Deferred work that starts at a boundary (R256, R380, R386, R468). -/
def State.startDeferred (s : State) : State :=
  let s1 := s.settleSanitize.sweepStripes.startDeferredSwitch.settleClearing
  if s1.mem.passDue ∧ !(s1.has Mode.sanitize) ∧ !(s1.has Mode.recovery) then s1.startForced else s1

/-- Frame k opens, planned to end at a moment. -/
def State.openFrame (s : State) (k planned : Nat) : State :=
  let len := planned - s.now
  let s1 := { s with sched := { s.sched with
    k := k
    openAt := s.now
    planned := planned
    isOpen := true
    late := 0
    spentRead := 0
    spentWrite := 0 } }
  let s2 := (s1.takePower.cellsBoundary.applyValues.scalePool.computeCaps.recomputeQ.bump Obj.frameCount)
  let s3 := (s2.keep Obj.dirtyLimit s2.newLimit).keep Obj.gridLag (planned - s2.grid (k + 1))
  let s4 := s3.growBanks len
  let s5 := { s4 with sched := { s4.sched with
    raLeft := s4.readCap * len / max 1 s4.frameNs * s4.cfg Obj.raBudget / 10000 } }
  let s6 := s5.raiseStrengths.grantClaims.startSamples.darnAll.startSources.queueErases.startDeferred
  (s6.admitAll len).settleAll

/-- The value of F that takes effect at the next boundary (R123). -/
def State.nextF (s : State) : Nat := (Tbl.find s.dict.frame (Obj.frameUs.key 0 0)).getD (s.cfg Obj.frameUs)

/-- The grid starts: T0 is now, and frame 0 opens with the values that wait for a boundary (R123, R148, R434). -/
def State.openGrid (s : State) : State :=
  let s1 := { s with sched := { s.sched with running := true, t0 := s.now, leftRead := 0, leftWrite := 0 } }
  s1.openFrame 0 (s.now + 1000 * s.nextF)

/-- Frame slots skipped are counted and recorded (R126). -/
def State.skipSlots (s : State) (n : Nat) : State :=
  if n = 0 then s else (s.bump Obj.slotsSkipped n).record 0x0401 [n]

/-- A frame that opens after the planned end of the one before counts an overrun, unless its late work has been counted: the pass
itself has run long (R124). -/
def State.countOverrun (s : State) : State := if s.sched.planned < s.now ∧ !s.sched.overran then s.bump Obj.overruns else s

/-- The next frame opens. A new F makes this boundary T0 and restarts k. -/
def State.boundary (s0 : State) : State :=
  let s := s0.countOverrun
  if s.nextF ≠ s.cfg Obj.frameUs then
    { s with sched := { s.sched with t0 := s.now } }.openFrame 0 (s.now + 1000 * s.nextF)
  else
    let n := s.nextFrame
    (s.skipSlots n.2.2).openFrame n.1 n.2.1

/-- A frame may open: the grid runs, the frame before it has closed, and neither HOLD-UP nor a sleep entry stops it. -/
def State.mayOpen (s : State) : Bool :=
  s.sched.running && !s.sched.isOpen && s.sched.late = 0 && !(s.has Mode.holdUp) && s.power.entry.isNone

end Sys2Proof.Machine
end

