-- ==== Sys2Proof/Machine/Power.lean ====
section
/-! DEFINITION. Domains, sleep entry, wakes and Airing (R387 to R409), and what a boundary or a fetch does to an entry. -/
namespace Sys2Proof.Machine

/-! ### Domains (R387 to R391) -/

/-- The steps of R398: cell groups, channel-engine groups, D05, DRAM channels, fabric quadrants, D01, D02. -/
def sleepSteps : List (List Nat) :=
  [(List.range 24).map (· + 10), (List.range 16).map (· + 34), [5], [6, 7, 8, 9], [50, 51, 52, 53], [1], [2]]

def sleepStep (k : Nat) : List Nat := sleepSteps.getD k []

/-- State that a domain stops to on the way to PS3 or PS4 (R388). -/
def sleepGoal (ps d : Nat) : DomState :=
  if d = 1 ∨ d = 2 ∨ d = 5 then .retain
  else if 6 ≤ d ∧ d ≤ 9 then (if ps = 3 then .clockStopped else .off)
  else .off

/-- The domain has stopped, or is a cell group that holds no active cell. -/
def State.domainDown (s : State) (d : Nat) : Bool :=
  match (s.domain d).state with
  | .on => !(s.domainOn d)
  | .stopping => false
  | .starting => false
  | .off => true
  | .clockStopped => true
  | .retain => true
  | .linkLp => true
  | .listen => true

/-- A descriptor's transfer passes through a domain (R390): every one through D02; with a side in host memory through D05
and its port half, both halves in X16; with a side in the staging window through DRAM. -/
def touches (dual : Bool) (p : Port) (x : ShuttleDesc) (d : Nat) : Bool :=
  let host := x.srcSpace = 0 || x.dstSpace = 0
  let dram := (x.srcSpace = 1 && (winOf x.src).1 = 1) || (x.dstSpace = 1 && (winOf x.dst).1 = 1)
  d = 2 || (host && (d = 5 || d = 3 + portNum p || (!dual && d = 4))) || (dram && 6 ≤ d && d ≤ 9)

/-- PAUSE_DOM of a channel: a domain that its current descriptor touches is not ON (R316, R390). -/
def State.pausedBy (s : State) (k : Nat) (x : ShuttleSt) : Bool :=
  match x.desc with
  | none => false
  | some e => s.power.domains.any fun c => c.2.state ≠ .on && touches s.dual (if k < 16 then .a else .b) e c.1

/-- Every channel takes or loses PAUSE_DOM. -/
def State.domainPauses (s : State) : State :=
  { s with engines := { s.engines with
    shuttles := s.engines.shuttles.map fun (e : Nat × ShuttleSt) =>
      let on := s.pausedBy e.1 e.2
      (e.1, if on then { e.2 with pauseDom := true }.pause else { e.2 with pauseDom := false }.resume) } }

/-! ### DRAM channels at a sleep and a wake (R341 to R344) -/

/-- Refreshes due or postponed are issued before self-refresh or power removal. -/
def State.dueRefreshes (s : State) (c : Nat) : State :=
  ((s.chan c).refresh.filter fun e => e.2.postponed || decide (e.2.due ≤ s.now)).foldl (fun a e => a.issueRefresh c e.1 e.2) s

/-- A channel drains and stops: self-refresh for PS3, power off for PS4. -/
def State.stopDram (s : State) (c : Nat) : State :=
  if (s.chan c).state ≠ 2 then s
  else
    let s1 := s.dueRefreshes c
    s1.setChan c { s1.chan c with state := if s.power.target = 3 then 3 else 4, writes := [], refresh := [] }

/-- A channel serves again: a re-centre step per rank, and a new refresh grid (R342 steps 3 and 4). -/
def State.startDram (s : State) (c : Nat) : State :=
  let x := { s.chan c with state := 2, centred := s.power.temps.getD ([0, 2, 21, 23].getD c 0) (s.chan c).centred }
  (s.setChan c { x with refresh := (List.range x.ranks).map fun r => (r, x.grid r s.now) }).bump Obj.recentres x.ranks

/-- Every channel in self-refresh serves again (R342). -/
def State.leaveSelfRefresh (s : State) : State :=
  ((List.range 4).filter fun c => (s.chan c).state = 3).foldl State.startDram s

/-- The first attempt of at most 3 whose narrowest window passes, and the attempts that fail before it (R333). -/
def firstPass (min_ : Nat) (eyes : List Nat) : Option Nat × Nat :=
  ((eyes.take 3).find? (min_ ≤ ·), ((eyes.take 3).takeWhile (· < min_)).length)

/-- Attempts of a byte lane (R333): the window of the first of at most 3 that passes, and those that fail. -/
def State.laneTraining (s : State) (eyes : List Nat) : Option Nat × Nat := firstPass s.minEye eyes

/-- Full training of a channel, ten lanes a rank (R328, R332, R333): its narrowest window, or its exclusion from this boot. -/
def State.trainDram (s : State) (c : Nat) (t : DramTraining) : State :=
  let ranks := min 4 t.ranks
  let got := (List.range (10 * ranks)).map fun i => s.laneTraining (t.lanes.getD i [])
  let x := s.chan c
  let fails := x.trainFails + (got.map (·.2)).sum
  if 0 < ranks ∧ got.all (·.1.isSome) then
    let eye := (got.filterMap (·.1)).foldl min 128
    s.setChan c { x with state := 2, ranks := ranks, eyeMin := eye, trainFails := fails }
  else (s.setChan c { x with state := 5, trainFails := fails }).record 0x0C01 [c] 0xFFFF (6 + c)

/-- The valid-bit scheme starts (R262). -/
def State.startFill (s : State) : State :=
  let n := s.dramBytes / 65536
  if n = 0 then s
  else
    { s with mem := { s.mem with filling := true, granules := n, fillAt := 0, valid := [] } }.keep Obj.fillDonePct 0

/-- DRAM power returns after AIRING (R344): the kept delays serve, but for a channel with a rank that trains in full; the
valid-bit scheme starts and the DRAM pools' lists are built afresh. -/
def State.powerDram (s : State) (ranks : List (Fin 4 × DramTraining)) : State :=
  let off := (List.range 4).filter fun c => (s.chan c).state = 4
  let s1 := off.foldl State.startDram s
  let full := ranks.filter fun e => off.contains e.1.val
  let s2 := full.foldl (fun a e => (a.trainDram e.1.val { e.2 with ranks := (a.chan e.1.val).ranks })) s1
  (s2.startFill).freshPools false

/-- The namespaces with `loaded` as their maps fit, one after the other, in so many bytes. -/
def fitMaps (room : Nat) : Tbl Ns → Tbl Ns
  | [] => []
  | (k, x) :: t =>
    if x.mapBytes ≤ room then (k, { x with loaded := true }) :: fitMaps (room - x.mapBytes) t
    else (k, { x with loaded := false }) :: t.map fun (e : Nat × Ns) => (e.1, { e.2 with loaded := false })

/-- Maps that fit are loaded, in ascending NSIDX, after the tables and pools (R335). -/
def State.placeMaps (s : State) : State :=
  let fixed := s.dramTaken - (s.store.ns.map fun (e : Nat × Ns) => e.2.mapBytes).sum
  let got := fitMaps (s.dramBytes - fixed) s.store.ns
  let short := got.countP fun (e : Nat × Ns) => !e.2.loaded
  let s1 := { s with store := { s.store with ns := got } }
  if short = 0 then s1 else s1.record 0x0C03 [short]

/-! ### Requests (R399, R403) -/

/-- The request for PS3 or PS4 is spent: the operational state is the one asked for. -/
def State.spendRequest (s : State) : State :=
  let op := s.power.operational
  { s with power := { s.power with
    requests := s.power.requests.map fun (e : Nat × Nat) => (e.1, if 3 ≤ e.2 then op else e.2)
    target := op
    refusals := 0
    retryAt := none } }.keep Obj.powerDefer 0

/-- Every domain is in its PS0 to PS2 state again. -/
def State.domainsOn (s : State) : State :=
  { s with power := { s.power with
    domains := (s.power.domains.filter fun (e : Nat × DomainSt) => e.2.refusals ≠ 0).map fun (e : Nat × DomainSt) =>
      (e.1, { e.2 with state := DomState.on, goal := DomState.on }) } }.domainPauses

/-! ### End of an entry (R381, R397, R399) -/

/-- Every domain of R398 is in its PS3 state. -/
def State.domainsIdle (s : State) : State :=
  let s1 := (sleepSteps.flatten.filter fun d => !(s.domainDown d)).foldl (fun a d =>
    a.setDomain d { a.domain d with state := sleepGoal 3 d, goal := sleepGoal 3 d }) s
  ((List.range 4).filter fun c => (s.chan c).state = 2).foldl (fun a c =>
    a.setChan c { a.chan c with state := 3, writes := [], refresh := [] }) (s1.park sleepSteps.flatten)

/-- The links into every domain that serves open (R19, R342 step 5). -/
def State.openLinks (s : State) : State := s.unpark s.domainOn

/-- An entry ends: the domains that have stopped restart, and the state in force is unchanged. -/
def State.leaveEntry (s : State) : State :=
  let s1 := { s with power := { s.power with entry := none } }.domainsOn.leaveSelfRefresh.openLinks
  if s1.has Mode.idle then s1.domainsIdle.domainPauses else s1.openGrid

/-- No command is held in any context, event requests apart (R385). -/
def State.quiet (s : State) : Bool := !(s.host.ctxs.any fun c => c.wait ≠ .event || c.done.isSome)

/-- A mode that defers sleep, HOLD-UP, a command or a new request ends an entry. -/
def State.settleEntry (s : State) : State :=
  if s.power.entry.isSome ∧ ((s.modes &&& sleepDefer) ≠ 0 ∨ !s.quiet ∨ s.power.target < 3) then s.leaveEntry else s

/-- COMMAND_FETCH: one burst (R88); none while D05 is not ON; a command fetched during an entry ends it (R397). -/
def execCommandFetch (entries : List Sqe) (s : State) : Answer :=
  if (s.domain 5).state ≠ .on then .next s
  else
    let s1 := s.fetchBurst entries
    .next (if s1.power.entry.isSome ∧ s1.host.ctxs.length ≠ s.host.ctxs.length then s1.leaveEntry else s1)

/-- FRAME_BOUNDARY (R132). -/
def execFrameBoundary (t : Nat) (s : State) : Answer :=
  let s1 := (s.tick t).settleEntry
  if s1.mayOpen then .next s1.boundary else .next s1

/-! ### Start of an entry (R397, R407) -/

/-- No die operation runs. -/
def State.diesIdle (s : State) : Bool := s.flash.luns.all fun e => e.2.busy.isNone

/-- An entry may start: a frame boundary in SERVICE, or IDLE on its way to AIRING. -/
def State.mayEnter (s : State) : Bool :=
  3 ≤ s.power.target && s.power.target ≠ s.power.current && (s.modes &&& sleepDefer) = 0 && !(s.has Mode.holdUp)
    && s.power.retryAt.isNone && s.power.entry.isNone && s.quiet && s.diesIdle
    && (s.has Mode.idle || (s.has Mode.service && s.sched.running && !s.sched.isOpen && s.sched.late = 0))

/-- The canary block of a LUN: its oldest-programmed QLC block (R407). -/
def State.canaryOf (s : State) (lun : Nat) : Option Nat :=
  let qlc := s.store.blocks.filter fun e => e.1 / 4096 = lun &&
    (match e.2.stripe with
      | some (id, _) => (s.stripe? id).elim false fun t => !t.slc
      | none => false)
  (qlc.foldl (fun (m : Option (Nat × Nat)) e => match m with
    | none => some (e.1 % 4096, e.2.programmedAt)
    | some x => if e.2.programmedAt < x.2 then some (e.1 % 4096, e.2.programmedAt) else some x) none).map (·.1)

/-- The canary table, of ACTIVE LUNs. -/
def State.canaryTable (s : State) : List (Nat × Nat) :=
  (s.flash.luns.filter fun e => e.2.state = .active).filterMap fun e => (s.canaryOf e.1).map fun b => (e.1, b)

/-- Every segment that is changed, or whose table a pass always copies, is copied (R190). -/
def State.checkpointAll (s : State) : State :=
  let zoned := (s.store.ns.filter fun (e : Nat × Ns) => e.2.kind = .zoned).map fun e => (e.1, 0)
  (s.store.journal.changed ++ zoned ++ [(0, 0)]).foldl (fun (a : State) (g : Nat × Nat) => a.copySegment g.1 g.2) s

/-- What R343 asks for is set going: every slot programs, changed segments are copied, the journal closes. The canary table is
written (R407). -/
def State.prepareAiring (s : State) : State :=
  let s1 := (s.store.slots.map fun (e : Nat × Slot) => e.1).foldl State.pushSlot s
  let s2 := s1.checkpointAll.closePage
  { s2 with power := { s2.power with canaries := s2.canaryTable } }

/-- The conditions of R343. -/
def State.airingReady (s : State) : Bool :=
  s.allDurable && s.store.journal.changed = [] && s.store.journal.copies.all (·.inEffect) && s.store.journal.recs = []

/-- The first domain may be asked to stop: the flush has ended (R422), and for PS4 the conditions of R343 hold. -/
def State.entryReady (s : State) : Bool := s.sampler.flushing.isNone && (s.power.target = 3 || s.airingReady)

/-- An entry starts. From IDLE, the domains come up for it first. -/
def State.startEntry (s : State) : State :=
  let s1 : State := if s.has Mode.idle then s.domainsOn.leaveSelfRefresh.openLinks else s.stopFrames.beginFlush
  let s2 : State := { s1 with power := { s1.power with entry := some 0 } }
  if s2.power.target = 4 then s2.prepareAiring else s2

/-- SLEEP_ENTRY_START (R397). -/
def execSleepEntryStart (t : Nat) (s : State) : Answer :=
  let s1 := s.tick t
  if s1.mayEnter then .next s1.startEntry else .next s1

/-! ### Domains of an entry (R398, R399) -/

/-- What a domain loses as it stops: a cell group its key caches; a DRAM channel stops as R341 or R343. -/
def State.stopEffect (s : State) (d : Nat) : State :=
  if 6 ≤ d ∧ d ≤ 9 then s.stopDram (d - 6)
  else (domainCells d).foldl (fun a c => a.setCell c { a.cell c with keys := [] }) s

/-- Interval of Airing steps in ns (R406). -/
def State.airingNs (s : State) : Nat := 1000000000 * s.cfg Obj.airingIntervalS

/-- The sleep state is in force once D02 has stopped: the mode, PS_CURRENT, the debug domain and the port's; DRAM without
power holds nothing. -/
def State.fallAsleep (s : State) : State :=
  let ps := s.power.target
  let set := if ps = 3 then modeBit Mode.idle else modeBit Mode.airing
  let clear := modeBit Mode.service ||| (if ps = 3 then modeBit Mode.airing else modeBit Mode.idle)
  let s1 := if s.domainOn 55 then s.setDomain 55 { s.domain 55 with state := .off, goal := .off } else s
  let s2 := if ps = 4 then s1.setDomain 54 { s1.domain 54 with state := .listen, goal := .listen } else s1
  let s3 := { s2 with power := { s2.power with current := ps, entry := none, refusals := 0 } }
  let s4 := if ps = 4 then { s3 with mem := { s3.mem with dram := [], poison := [] } }.startTask Periodic.airing s3.airingNs else s3
  s4.changeModes set clear 3

/-- The next steps of the entry, as far as their domains are down. -/
def State.advanceEntry (s : State) : Nat → State
  | 0 => s
  | fuel + 1 =>
    match s.power.entry with
    | none => s
    | some k =>
      if (sleepStep k).all s.domainDown then
        if k = 6 then s.fallAsleep else { s with power := { s.power with entry := some (k + 1) } }.advanceEntry fuel
      else s

/-- A domain may be asked to stop: in the step the entry is at, or as a cell group that a layout change leaves without an
active cell. -/
def State.stopDue (s : State) (d : Nat) : Bool :=
  (s.domain d).state = .on &&
    match s.power.entry with
    | some k => (sleepStep k).contains d && s.domainOn d && (k ≠ 0 || s.entryReady)
    | none => 10 ≤ d && d ≤ 33 && !(s.domainOn d) && !(s.cells.parked.contains d) && s.has Mode.service

/-- DOMAIN_STOP_REQUEST (R390): the domain enters STOPPING, its links park for new requests, and its Shuttle channels pause. -/
def execDomainStopRequest (d : Fin 56) (s : State) : Answer :=
  let s1 := s.settleEntry
  if s1.stopDue d.val then
    let x := { s1.domain d.val with state := .stopping, goal := sleepGoal s1.power.target d.val }
    .next ((s1.park [d.val]).setDomain d.val x).domainPauses
  else .next s1

/-- DOMAIN_STOPPED (R390, R398): the OTC is zero, the domain powers down, and the next step starts when it was the last. -/
def execDomainStopped (d : Fin 56) (s : State) : Answer :=
  let s1 := s.settleEntry
  let x := s1.domain d.val
  if x.state = .stopping ∧ s1.otc d.val = 0 then
    let s2 := s1.stopEffect d.val
    if s2.power.entry.isSome then .next ((s2.setDomain d.val { x with state := x.goal }).advanceEntry 7)
    else .next (s2.setDomain d.val { x with state := .on, goal := .on }).domainPauses
  else .next s1

/-- A refusal of R399: the hold time is 0x2600.20 times the consecutive refusals, and the eighth lets the request lapse. -/
def State.refuseEntry (s : State) (d : Nat) : State :=
  let n := s.power.refusals + 1
  let hold := s.cfg Obj.refuseHoldMs * n
  let s1 := (s.bump Obj.sleepRefusals).record 0x0F02 [d, hold] 0xFFFF d
  let s2 := { s1 with power := { s1.power with
    refusals := n
    refuseDomain := d
    refuseHold := hold
    retryAt := some (s1.now + 1000000 * hold) } }
  (if n < 8 then s2 else s2.spendRequest).leaveEntry

/-- DOMAIN_REFUSAL (R391, R399): the domain returns to ON, and its links open. -/
def execDomainRefusal (d : Fin 56) (s : State) : Answer :=
  let s1 := s.settleEntry
  let x := s1.domain d.val
  if x.state = .stopping then
    let s2 := s1.setDomain d.val { state := .on, refusals := x.refusals + 1, goal := .on }
    if s2.power.entry.isSome then .next (s2.refuseEntry d.val) else .next (s2.domainPauses.unpark (· = d.val))
  else .next s1

/-- REFUSAL_HOLD_EXPIRY (R399): the entry may start again. -/
def execRefusalHoldExpiry (t : Nat) (s : State) : Answer :=
  let s1 := s.tick t
  match s1.power.retryAt with
  | some r => if r ≤ s1.now then .next { s1 with power := { s1.power with retryAt := none } } else .next s1
  | none => .next s1

/-- A manager's idle state for the state in force, 0 for none (R396). -/
def State.idleState (s : State) (p : Port) : Nat :=
  let x := s.fn (managerOf p)
  if Tbl.get 0 x.feats 0x0C = 1 then Tbl.get 0 x.feats (featKey 0x0C (2 * s.power.current + 1)) else 0

/-- APST_IDLE_EXPIRY (R396): the idle time of the manager's entry has passed with no command held and no doorbell; the
transition is a request under R395. -/
def execApstIdleExpiry (p : Port) (t : Nat) (s : State) : Answer :=
  let s1 := s.tick t
  let ps := s1.idleState p
  let bells := s1.host.fns.any fun e => e.2.sqs.any fun q => 0 < q.2.unfetched
  if s1.portExists p ∧ 3 ≤ ps ∧ s1.power.current < ps ∧ s1.quiet ∧ !bells ∧ s1.power.entry.isNone ∧ !(s1.has Mode.holdUp) then
    .next (s1.requestPower p ps)
  else .next s1

/-! ### Wakes (R400 to R403) -/

/-- The device is in IDLE or AIRING. -/
def State.asleep (s : State) : Bool := s.has Mode.idle || s.has Mode.airing

/-- A wake with a code of R400: the operational state, every domain on, DRAM, SERVICE, and frame 0. -/
def State.awaken (s : State) (code : Nat) (ranks : List (Fin 4 × DramTraining)) : State :=
  let s1 := ((s.keep Obj.lastWake code).bump Obj.wakeCount).spendRequest
  let s2 := { s1 with
    power := { s1.power with current := s1.power.operational, entry := none }
    mem := { s1.mem with aonLost := false } }.domainsOn
  let s3 := (if s.has Mode.airing then (s2.powerDram ranks).placeMaps else s2.leaveSelfRefresh).openLinks
  (s3.changeModes (modeBit Mode.service) (modeBit Mode.idle ||| modeBit Mode.airing) 2).openGrid

/-- PCIE_ACTIVITY_WAKE: codes 1 and 2, through a port half that is not lost (R33). -/
def execPcieActivityWake (p : Port) (ranks : List (Fin 4 × DramTraining)) (s : State) : Answer :=
  if s.asleep ∧ s.portExists p ∧ !(s.blockLost (3 + portNum p)) then .next (s.awaken (1 + portNum p) ranks) else .next s

/-- WAKE_FRAME (R401): its SERIAL is the device's, or all ones. Nothing arrives through a management port that is lost (R33). -/
def execWakeFrame (magicOk : Bool) (serial : Nat) (ranks : List (Fin 4 × DramTraining)) (s : State) : Answer :=
  if s.asleep ∧ !(s.blockLost 54) ∧ magicOk ∧ (serial = Config.serial ∨ serial = 2 ^ 160 - 1) then
    .next (s.awaken 4 ranks) else .next s

/-- MANAGEMENT_FRAME_WAKE: a frame that the MAC accepts wakes from IDLE, and a datagram in it is then received; in AIRING
it is dropped. -/
def execManagementFrameWake (d : Option Datagram) (s : State) : Answer :=
  if s.has Mode.idle ∧ !(s.blockLost 54) then
    let s1 := s.awaken 3 []
    match d with
    | some x => .next (s1.receive x)
    | none => .next s1
  else .next s

/-! ### Airing (R406 to R409) -/

/-- A canary codeword exceeds the threshold, or fails hard decode (R408). -/
def State.canaryBad (s : State) (c : Nat × Nat × Bool) : Bool :=
  let block := (s.power.canaries.find? fun e => e.1 = c.1).elim 0 (·.2)
  !c.2.2 || decide (hardLimit (s.block c.1 block).strength * s.cfg Obj.canaryPct < 100 * c.2.1)

/-- The nearest cell group that holds a cell not FENCED to channel-engine group g, by hops, the lowest of equals (R406; DESIGN
CHOICE, log entry 133). -/
def State.nearestGroup (s : State) (g : Nat) : Option Nat :=
  let far := fun (k : Nat) => ((domainCells (10 + k)).map fun c =>
    ((cellNode c).1 - (groupNode g).1) + ((groupNode g).1 - (cellNode c).1) + ((cellNode c).2 - (groupNode g).2)
      + ((groupNode g).2 - (cellNode c).2)).foldl min 20
  ((List.range 24).filter fun k => (domainCells (10 + k)).any fun c => s.cellRole c ≠ 7).foldl (fun m k => match m with
    | some j => if far k < far j then some k else some j
    | none => some k) none

/-- The quadrants that R22 requires between two nodes. -/
def quadrantsOf (a b : Nat × Nat) : List Nat :=
  (List.range 4).filter fun q =>
    ([a, b].any fun n => quadrantOf n.1 n.2 / 2 = q / 2) && ([a, b].any fun n => quadrantOf n.1 n.2 % 2 = q % 2)

/-- Domains that a step starts: the channel-engine group, the cell group and the quadrants (R389, R406). -/
def State.airingDomains (s : State) (g : Nat) : List Nat :=
  match s.nearestGroup g with
  | some k => [34 + g, 10 + k] ++ (quadrantsOf (groupNode g) (cellNode (4 * k))).map (50 + ·)
  | none => [34 + g]

/-- The Airing sequencer starts and stops the domains of a step over the configuration plane (R34, R389). -/
def State.airingPlane (s : State) (g : Nat) : State :=
  let ds := s.airingDomains g
  { s with cells := { s.cells with
    ring := s.cells.ring ++ ds.map (fun d => (d, CfgMsg.power true)) ++ ds.map (fun d => (d, CfgMsg.power false)) } }

/-- A canary of the group was read: its LUN is in the table, and its channel has re-centred. -/
def State.canaryRead (s : State) (g : Nat) (skipped : List (Fin 4)) (c : Nat × Nat × Bool) : Bool :=
  c.1 / 64 / 4 = g && !(skipped.any fun i => i.val = c.1 / 64 % 4) && s.power.canaries.any fun e => e.1 = c.1

/-- A step of the Airing sequencer has read the next group's canaries. A channel that fails its re-centre is skipped; its record
is that of a channel below rated (R406, R408; DESIGN CHOICE, log entry 134). -/
def State.airing (s : State) (skipped : List (Fin 4)) (failBits : List (Nat × Nat × Bool)) (readable : Bool) : State :=
  let g := s.cfg Obj.airingNext
  let s0 := skipped.foldl (fun a i => a.record 0x0701 [4 * g + i.val, 4]) (s.airingPlane g)
  let codewords := failBits.filter (s.canaryRead g skipped)
  let readable := readable && !((List.finRange 4).all fun i => skipped.contains i)
  let bad := readable && codewords.any s.canaryBad
  let high := (codewords.map fun (c : Nat × Nat × Bool) => c.2.1).foldl max 0
  let result := if !readable then 2 else if bad then 1 else 0
  let s1 := ((s0.bump Obj.airingSteps).keep Obj.airingNext ((g + 1) % 16)).record 0x0F03 [g, high, result] 0xFFFF (34 + g)
  let again := s.power.unreadable.contains g
  let rest := s.power.unreadable.filter (· ≠ g)
  let s2 := { s1 with power := { s1.power with unreadable := if readable ∨ again then rest else rest ++ [g] } }
  if bad then (s2.awaken 5 []).startForced
  else if !readable ∧ again then s2.awaken 8 []
  else s2

/-- AIRING_STEP (R127, R406): once the interval has ended; the channels of the group that fail their re-centre, and each
codeword by its LUN, its fail bits, and whether hard decode gave it. -/
def execAiringStep (t : Nat) (skipped : List (Fin 4)) (failBits : List (Nat × Nat × Bool)) (readable : Bool) (s : State) : Answer :=
  let s1 := s.tick t
  if s1.has Mode.airing ∧ s1.isDue Periodic.airing then
    .next ((s1.taskDone Periodic.airing s1.airingNs).airing skipped failBits readable)
  else .next s1

/-- SAMPLER_BUFFER_WAKE (R409): 768 pending records wake the device, which flushes them and asks for PS4 again. -/
def execSamplerBufferWake (ranks : List (Fin 4 × DramTraining)) (s : State) : Answer :=
  if s.has Mode.airing ∧ 768 ≤ s.pendingRecs then
    let s1 := (s.awaken 6 ranks).beginFlush
    .next { s1 with power := { s1.power with target := 4 } }.noteDefer
  else .next s

/-! ### Supply enables (R343, R388, R389, R496) -/

/-- FLASH_PWR_EN[k], of the groups H(4k) to H(4k + 3): low while PORST_N is, and deasserted when all four are OFF for PS4. -/
def State.flashPwrEn (s : State) (k : Fin 4) : Bool :=
  !s.power.held && !(s.power.target = 4 && (List.range 4).all fun i => (s.domain (34 + 4 * k.val + i)).state = .off)

/-- DRAM_PWR_EN: low while PORST_N is, and deasserted while the channels that take part are without power. -/
def State.dramPwrEn (s : State) : Bool := !s.power.held && !(s.mem.chans.any fun e => e.2.state = 4)

end Sys2Proof.Machine
end

