-- ==== Sys2Proof/Machine/HoldUp.lean ====
section
/-! DEFINITION. Sensors, PWRFAIL_N, HOLD-UP and its dump, and the host's shutdown notification (R222, R373, R374, R410 to
R415, R500, R505 to R508). -/
namespace Sys2Proof.Machine

/-! ### Sensors (R414, R505 to R508) -/

/-- SENSOR_READING (R414, R507, R508): the die sensors and the remote diode; the factors follow at the next boundary. -/
def execSensorReading (t : Nat) (temps : List Int) (diode : DiodeState) (tenths : Int) (s : State) : Answer :=
  let s1 := s.tick t
  .next { s1 with power := { s1.power with
    temps := temps
    diode := diode
    diodeTenths := tenths } }

/-- HOLDUP_SENSE_SAMPLE (R506): a reading above 1.2 V is out of range. -/
def execHoldupSenseSample (mv : Nat) (s : State) : Answer :=
  .next { s with power := { s.power with senseMv := mv, senseFaulty := decide (1200 < mv) } }

/-- PWRFAIL_N_CLASSIFY (R505): the class of the pin's voltage. -/
def execPwrfailClassify (c : PwrfailClass) (t : Nat) (s : State) : Answer :=
  .next { s.tick t with power := { (s.tick t).power with pinClass := c } }

/-! ### HOLD-UP (R222, R379, R384, R410, R411) -/

/-- A program that is suspended goes on (R222). -/
def Busy.goOn (b : Busy) (now : Nat) : Busy :=
  if b.suspended then
    { b with asking := false, suspended := false, toServe := [], serving := none, since := now, ends := now + b.ends }
  else { b with asking := false }

/-- What a LUN does when HOLD-UP is set: no further operation starts, erases end, suspended programs go on (R222). -/
def Lun.halt (x : Lun) (now : Nat) : Lun :=
  let busy := x.busy.bind fun b => match b.op.kind with
    | .erase _ => Option.none
    | .read _ => some b
    | .sample _ => some b
    | .refill _ => some b
    | .program _ => some (b.goOn now)
    | .progSys _ _ => some (b.goOn now)
    | .progSeg _ _ => some (b.goOn now)
    | .parity _ _ => some (b.goOn now)
    | .progMember _ _ => some (b.goOn now)
  { x with queue := [], busy := busy }

/-- A sleeping device wakes for HOLD-UP with code 7: from IDLE as a wake, from AIRING with the management cluster, the
security island and channel-engine group H00 alone (notes 6 and 7 of R384). -/
def State.wakeForDump (s : State) : State :=
  if !s.asleep then { s with power := { s.power with entry := none } }.domainsOn.openLinks
  else
    let s1 := ((s.keep Obj.lastWake 7).bump Obj.wakeCount).spendRequest
    let s2 := { s1 with power := { s1.power with current := s1.power.operational, entry := none } }
    if s.has Mode.idle then s2.domainsOn.leaveSelfRefresh.openLinks
    else
      let s3 := [1, 2, 34].foldl (fun a d => a.setDomain d { a.domain d with state := .on, goal := .on }) s2
      s3.domainPauses.unpark ([1, 2, 34].contains ·)

/-- Phase 1 of the dump (R411): functions fenced, D03 to D05 down, engines halted, claims dropped, a self-test ended. -/
def State.beginDump (s : State) : State :=
  let s1 := (((s.fencePort .a 7).fencePort .b 7).dropLink .a).dropLink .b
  let down := [3, 4, 5].foldl (fun a d => a.setDomain d { a.domain d with state := .off, goal := .off }) s1
  let s2 := down.domainPauses.park [3, 4, 5]
  let s3 := { s2 with flash := { s2.flash with
    luns := s2.flash.luns.map fun (e : Nat × Lun) => (e.1, e.2.halt s.now)
    channels := s2.flash.channels.map fun (e : Nat × Channel) => (e.1, { e.2 with transfers := [] }) } }
  let s4 := (s3.dropClaims.endTest 8).pauseShuttles true
  { s4 with power := { s4.power with dumping := true } }.save Obj.dumpComplete 0

/-- HOLD-UP is set, and every other mode with it cleared (R379). -/
def State.enterHoldUp (s : State) : State :=
  (s.wakeForDump.changeModes (modeBit Mode.holdUp) (~~~(modeBit Mode.holdUp)) 13).stopFrames.beginDump

/-- PWRFAIL_N_ASSERT (R410): low for 0x2600.40 µs. -/
def execPwrfailAssert (lowUs t : Nat) (s : State) : Answer :=
  let s1 := s.tick t
  if s1.cfg Obj.pwrfailFilterUs ≤ lowUs ∧ !(s1.has Mode.holdUp) ∧ !s1.power.held then .next s1.enterHoldUp else .next s1

/-! ### The end of a dump (R374, R411, R412, R500) -/

/-- Every closed page programs (phase 3). -/
def Journal.allDurable (j : Journal) : Journal :=
  { j with
    pages := j.pages.map fun (p : JPage) => if p.stuck then p else { p with copies := 2 } }.advance j.pages.length

/-- The open page closes, and every page that can be written is durable. -/
def State.closeJournal (s : State) : State :=
  let s1 := s.closePage
  let j := s1.store.journal.allDurable
  let s2 := (s1.setJournal j).keep Obj.pageSeq (j.durable - 1)
  match j.pages.find? fun p => p.seq + 1 = j.durable with
  | some p => s2.journalEffects p
  | none => s2

/-- Slots whose data is not durable (R184). -/
def State.dirtySlots (s : State) : List Slot :=
  (s.store.slots.filter fun e => !e.2.dead && !(s.slotDurable e.2)).map fun (e : Nat × Slot) => e.2

/-- Slots as the dump writes them: each takes a write counter (R277). -/
def State.dumpSlots (s : State) : List Slot × State :=
  s.dirtySlots.foldl (fun (a : List Slot × State) x =>
    let got := a.2.takeCounter x
    (a.1 ++ [got.1], got.2)) ([], s)

/-- The dump is completed after so many µs: slots, directory and the values that the device keeps itself are on flash,
then the Sampler buffer (phases 4 to 6). -/
def State.endDump (s : State) (us : Nat) : State :=
  let s1 := s.closeJournal
  let got := s1.dumpSlots
  let s2 := { got.2 with
    store := { got.2.store with dump := some got.1 }
    power := { got.2.power with dumping := false } }
  let s3 := ((s2.save Obj.dumpComplete 1).save Obj.dumpLastUs us).save Obj.dumpLastMj (s2.dumpPower * us / 1000000)
  (s3.keepDurable s3.keptNow).flushNow

end Sys2Proof.Machine
end

