-- ==== Sys2Proof/Machine/PowerOff.lean ====
section
/-! DEFINITION. What a reset by PORST_N, a brown-out or a restart leaves: the contents of flash, OTP and the system blocks
(R209, R373, R379, R418, R424, R435, R499, R500). -/
namespace Sys2Proof.Machine

/-! ### Parts of the state without power -/

/-- A LUN without its operations. -/
def Lun.cold (x : Lun) : Lun := { x with queue := [], busy := Option.none, resetAt := Option.none }

/-- A block without its claims. -/
def Block.cold (b : Block) : Block := { b with claim := none, wants := [] }

/-- Number and link of the last record stored (R418, R424). -/
def Sampler.lastRec (x : Sampler) : Option Rec :=
  match x.circ.getLast?, x.first.getLast? with
  | some a, some b => some (if a.seq < b.seq then b else a)
  | some a, none => some a
  | none, some b => some b
  | none, none => none

/-- The Sampler's areas; the AON buffer is lost, and numbers and links go on from the last record stored. -/
def Sampler.cold (x : Sampler) : Sampler :=
  { Sampler.reset with
    circ := x.circ
    first := x.first
    firstBase := x.firstBase
    next := x.lastRec.elim 0 (·.seq + 1)
    link := x.lastRec.elim 0 (·.link) }

/-- Erases that were queued or cut short are due again (R209, R222). -/
def dueErases (blocks : Tbl Block) : List (Nat × Nat) :=
  (blocks.filter fun (e : Nat × Block) => e.2.eraseDue).map fun (e : Nat × Block) => (e.1 / 4096, e.1 % 4096)

/-- The write buffer, reads and relocations are lost. -/
def Store.cold (x : Store) : Store :=
  { x with
    slots := []
    reads := []
    folding := false
    mangling := []
    blocks := (x.blocks.map fun (e : Nat × Block) => (e.1, e.2.cold)).filter fun (e : Nat × Block) => e.2 ≠ Block.fresh
    erases := dueErases x.blocks }

/-- Saved feature values of each function (R348); a port has no link from this moment on (R81). -/
def HostSt.cold (x : HostSt) (now : Nat) : HostSt :=
  { HostSt.reset with
    portA := { PortSt.reset with downSince := now }
    portB := { PortSt.reset with downSince := now }
    fns := (x.fns.filter fun (e : Nat × Fn) => e.2.savedFeats ≠ []).map fun (e : Nat × Fn) =>
      (e.1, { Fn.default e.1 with feats := e.2.savedFeats, savedFeats := e.2.savedFeats }) }

/-- Fabric lanes spared out stay out (R31), and a cell that awaits its promotion goes on doing so (R43, R45). -/
def Cells.cold (x : Cells) : Cells := { Cells.reset with lanesOut := x.lanesOut, linkDead := x.linkDead, fenced := x.fenced }

/-- Stored copies of keys, and the durable marks of the write counters (R278, R283). -/
def Cipher.cold (x : Cipher) : Cipher :=
  { Cipher.reset with
    slots := x.slots.map fun (e : Nat × KeySlot) =>
      (e.1, { e.2 with kind := 0, origin := 0, keyId := 0, reserving := false })
    blobs := x.blobs
    lost := x.lost
    erasing := x.erasing
    nextKey := x.nextKey
    tkekBlobs := x.tkekBlobs }

/-- Images, logs, and a sanitize that starts over (R366). -/
def Admin.cold (x : Admin) : Admin :=
  { Admin.reset with
    testLog := x.testLog
    slots := x.slots
    running := x.running
    onReset := x.onReset
    sanitize := x.sanitize.map fun z => { z with keysGone := false, swept := false }
    sanStatus := x.sanStatus
    sanAuse := x.sanAuse
    errors := x.errors.map fun (e : Nat × (Nat × List (List Nat))) => (e.1, (e.2.1, []))
    counts := x.counts }

/-- Marks and stored copies of the security island. -/
def Security.cold (x : Security) : Security :=
  { Security.reset with
    marker := x.marker
    downgrade := x.downgrade
    mgmtBlob := x.mgmtBlob
    storeGen := x.storeGen
    barred := x.barred }

/-! ### Power loss -/

/-- A slot whose WRITE record is durable while its program has not ended: replay drops the record (R209). -/
def State.recordDropped (s : State) (x : Slot) : Bool :=
  match x.state with
  | .programming _ => 0 < x.page && s.pageDurable x.page
  | .filling => false
  | .fillRead => false
  | .programmed _ => false

/-- Units whose only copy lies in the write buffer, and for which no durable record is left (R209). -/
def State.lostNow (s : State) : Nat :=
  if s.store.dump.isSome then 0
  else s.store.slots.countP fun e => !e.2.dead && !(s.slotDurable e.2) && !(s.recordDropped e.2)

/-- The device without power, or in reset: what is not on flash, in OTP or in the factory area is gone. Commands that
wait, free values and what has been sent are not the device's. -/
def State.powerOff (s : State) : State :=
  let a := s.endTest 8
  let b := if a.has Mode.holdUp then a.save Obj.dumpComplete a.store.dump.isSome.toNat else a
  { dict := { Dict.reset with durable := b.dict.durable }
    modes := 1
    sampler := b.sampler.cold
    cells := b.cells.cold
    host := b.host.cold b.now
    sched := Sched.reset
    flash := { b.flash with
      luns := b.flash.luns.map fun (e : Nat × Lun) => (e.1, e.2.cold)
      channels := [] }
    store := b.store.cold
    power := { PowerSt.reset with clean := b.power.clean && b.dirtyBytes = 0 }
    mem := { Mem.reset with restartCause := b.mem.restartCause, lostUnits := b.mem.lostUnits + b.lostNow }
    cipher := b.cipher.cold
    engines := Engines.reset
    admin := b.admin.cold
    staing := { Staing.reset with res := b.staing.res }
    security := b.security.cold
    migration := Migration.reset
    pending := b.pending
    now := b.now
    bootAt := b.bootAt
    free := b.free
    out := b.out }

/-- PORST_N_ASSERT (R498, R500): a pulse below 10 µs is ignored; during the dump the reset is latched. -/
def execPorstAssert (lowNs : Nat) (s : State) : Answer :=
  if lowNs < 10000 ∨ s.power.held then .next s
  else if s.has Mode.holdUp ∧ s.power.dumping then .next { s with power := { s.power with latched := true } }
  else .next s.powerOff

/-- BROWN_OUT (R499, R500): counted, and a reset at once. -/
def execBrownOut (s : State) : Answer :=
  let n := ((Tbl.find s.dict.durable (Obj.brownouts.key 0 0)).getD 0) + 1
  if s.power.held then .next { s with dict := { s.dict with durable := Tbl.put s.dict.durable (Obj.brownouts.key 0 0) n } }
  else .next (s.save Obj.brownouts n).powerOff

/-- DUMP_COMPLETE (R411, R500): a latched reset then takes effect. -/
def execDumpComplete (us : Nat) (s : State) : Answer :=
  if s.has Mode.holdUp ∧ s.power.dumping then
    let s1 := s.endDump us
    .next (if s.power.latched then s1.powerOff else s1)
  else .next s

/-- PWRFAIL_N_RETURN (R374): the device restarts as at PORST_N once its dump is finished. -/
def execPwrfailReturn (s : State) : Answer :=
  if s.has Mode.holdUp then .next { s with power := { s.power with restart := true } } else .next s

/-- SHUTDOWN_NOTIFICATION (R373): an enabled function brings what is dirty to flash, and its shutdown is complete once
nothing is. A write to CC in FENCING is ignored (R79). -/
def execShutdownNotification (f : Func) (s : State) : Answer :=
  let x := s.fn f
  if x.en ∧ x.shst = 0 ∧ x.state ≠ .fencing then .next ((s.setFn f { x with shst := 1 }).drain.settleAll) else .next s

end Sys2Proof.Machine
end

