-- ==== Sys2Proof/Machine/Replay.lean ====
section
/-! DEFINITION. Replay of the journal at boot: page maps, zones, stripes and the dump (R166, R190, R191, R209, R289, R298). -/
namespace Sys2Proof.Machine

/-! ### The durable journal (R187, R188, R190, R191) -/

/-- First page that cannot be read: neither copy has programmed, or neither decodes. Replay stops there (R191). -/
def Journal.stop (j : Journal) (bad : List Nat) : Nat :=
  match j.pages with
  | [] => j.durable
  | p :: _ => j.pages.foldl (fun k q => if q.seq = k ∧ 1 ≤ q.copies ∧ !(bad.contains k) then k + 1 else k) p.seq

/-- Pages that replay reads, in order. -/
def Journal.readable (j : Journal) (stop : Nat) : List JPage := j.pages.filter fun p => p.seq < stop

/-- Copies that boot loads: in effect, or with a durable CKPT record; for each segment the latest of them. -/
def Journal.loadable (j : Journal) (stop : Nat) : List SegCopy :=
  j.copies.filter fun c => c.inEffect || decide (0 < c.page ∧ c.page ≤ stop)

def latestOf (cs : List SegCopy) (nsid seg : Nat) : Option SegCopy :=
  (cs.filter fun c => c.nsid = nsid && c.segment = seg).foldl (fun (m : Option SegCopy) c => match m with
    | none => some c
    | some d => if d.snapshot ≤ c.snapshot then some c else some d) none

/-- Snapshot of a segment as loaded, 0 where there is no copy. -/
def snapshotOf (cs : List SegCopy) (nsid seg : Nat) : Nat := (latestOf cs nsid seg).elim 0 (·.snapshot)

/-- A record of a page applies to a segment: it is not older than the segment's snapshot (R191), nor than the key of the
namespace (R289). -/
def State.recordDue (s : State) (cs : List SegCopy) (page nsid seg : Nat) : Bool :=
  match s.ns? nsid with
  | some n => n.born ≤ page && snapshotOf cs nsid seg ≤ page
  | none => false

/-- A copy of a segment belongs to the namespace as it is. -/
def State.copyDue (s : State) (c : SegCopy) : Bool := (s.ns? c.nsid).elim false fun n => n.born ≤ c.snapshot

/-! ### Records (R186, R189, R191) -/

/-- The full WSEQ of a record: the value nearest its page's CONF_SEQ with the record's low 36 bits (R189). -/
def nearestSeq (conf low : Nat) : Nat :=
  let w := conf / 2 ^ 36 * 2 ^ 36 + low
  if w + 2 ^ 35 < conf then w + 2 ^ 36 else if conf + 2 ^ 35 < w ∧ 2 ^ 36 ≤ w then w - 2 ^ 36 else w

/-- A WRITE record past CONF_SEQ applies only if its unit decodes and names this namespace, unit and WSEQ; one whose unit
lies under another key is none of this namespace (R289). -/
def State.writeStands (s : State) (conf nsid unit wseq : Nat) (e : MapEntry) : Bool :=
  wseq ≤ conf || (match Tbl.find s.store.media e.key with
    | some u => u.nsid = nsid && u.unit = unit && u.wseq = wseq
    | none => false)

/-- A range of units takes an entry. -/
def Ns.setRange (x : Ns) (first count : Nat) (e : MapEntry) : Ns :=
  match e with
  | .uncorrectable => (List.range count).foldl (fun a i => a.setEntry (first + i) .uncorrectable) x
  | .unmapped => { x with map := x.map.filter fun m => m.1 < first || first + count ≤ m.1 }
  | .flash _ _ _ _ _ _ _ => x
  | .buffer _ => x

/-- Replay so far: the state, records applied, WRITE records dropped, segments changed. -/
structure Replayed where
  state : State
  applied : Nat
  dropped : Nat
  touched : List (Nat × Nat)

/-- A record changes a namespace's map. -/
def Replayed.put (r : Replayed) (nsid seg : Nat) (g : Ns → Ns) : Replayed :=
  let s := r.state
  { r with
    state := { s with store := { s.store with ns := Tbl.upd s.store.ns nsid g } }
    applied := r.applied + 1
    touched := if r.touched.contains (nsid, seg) then r.touched else r.touched ++ [(nsid, seg)] }

/-- One record of a page, `conf` being the CONF_SEQ of the last durable page and `here` that of its own. Records of blocks,
copies, zones and the namespace table change no entry. -/
def Replayed.record (conf here : Nat) (cs : List SegCopy) (page : Nat) (r : Replayed) : JRec → Replayed
  | .write nsidx unit e wseq =>
    if !(r.state.recordDue cs page (nsidx + 1) (segmentOf unit)) then r
    else if r.state.writeStands conf (nsidx + 1) unit (nearestSeq here (wseq % 2 ^ 36)) e then
      r.put (nsidx + 1) (segmentOf unit) fun n => n.setEntry unit e
    else { r with dropped := r.dropped + 1 }
  | .reloc nsidx unit e =>
    if r.state.recordDue cs page (nsidx + 1) (segmentOf unit) then
      r.put (nsidx + 1) (segmentOf unit) fun n => n.setEntry unit e
    else r
  | .unmap nsidx unit count =>
    if r.state.recordDue cs page (nsidx + 1) (segmentOf unit) then
      r.put (nsidx + 1) (segmentOf unit) fun n => n.setRange unit count .unmapped
    else r
  | .uncorr nsidx unit count =>
    if r.state.recordDue cs page (nsidx + 1) (segmentOf unit) then
      r.put (nsidx + 1) (segmentOf unit) fun n => n.setRange unit count .uncorrectable
    else r
  | .block _ _ _ _ => { r with applied := r.applied + 1 }
  | .ckpt _ _ _ => { r with applied := r.applied + 1 }
  | .zone _ _ _ _ _ => { r with applied := r.applied + 1 }
  | .nscfg _ _ => { r with applied := r.applied + 1 }

/-- One page, its records in order. -/
def Replayed.page (conf : Nat) (cs : List SegCopy) (r : Replayed) (p : JPage) : Replayed :=
  p.recs.foldl (Replayed.record conf p.conf cs p.seq) r

/-! ### Maps (R190, R191) -/

/-- A place holds a unit of a namespace. -/
def State.unitLies (s : State) (nsid unit : Nat) (e : MapEntry) : Bool :=
  match Tbl.find s.store.media e.key with
  | some u => u.nsid = nsid && u.unit = unit
  | none => false

/-- Entries of a segment copy: a unit whose program was not done at the copy, and did not end, is at its former place
(DEDUCED, log entry 127). -/
def State.copyEntries (s : State) (c : SegCopy) : Tbl MapEntry :=
  c.entries.map fun e => match Tbl.find c.former e.1 with
    | some old => if s.unitLies c.nsid e.1 e.2 then e else (e.1, old)
    | none => e

/-- The map of a namespace as its segment copies give it (R191). -/
def State.loadMap (s : State) (cs : List SegCopy) (nsid : Nat) : Tbl MapEntry :=
  let mine := cs.filter (·.nsid = nsid)
  let segs := (mine.map fun (c : SegCopy) => c.segment).eraseDups
  ((segs.filterMap fun g => latestOf mine nsid g).foldl (fun (m : Tbl MapEntry) c => Tbl.over m (s.copyEntries c)) []).filter
    fun m => m.2 ≠ .unmapped

/-- Segment copies are loaded. -/
def State.loadMaps (s : State) (cs : List SegCopy) : State :=
  { s with store := { s.store with ns := s.store.ns.map fun (e : Nat × Ns) => (e.1, { e.2 with map := s.loadMap cs e.1 }) } }

/-- The journal goes on behind the last page that was read, whose digest the next page carries (R187); what was loaded is in
effect, what replay changed is to be copied again. -/
def State.resumeJournal (s : State) (stop : Nat) (cs : List SegCopy) (touched : List (Nat × Nat)) : State :=
  let j := s.store.journal
  let before : BitVec 256 := match (j.readable stop).getLast?, j.pages.head? with
    | some p, _ => BitVec.ofNat 256 (natLE (sha256 (p.bytes 0)))
    | none, some p => p.prev
    | none, none => j.digest
  let s1 := s.setJournal { j with
    recs := []
    pass := []
    digest := before
    pages := j.readable stop
    next := stop
    durable := stop
    pendingSeqs := []
    copies := cs.map fun (c : SegCopy) => { c with inEffect := true }
    changed := touched }
  { s1 with mem := { s1.mem with replayed := touched } }.keep Obj.pageSeq (stop - 1)

/-- R191 over the durable journal, with the counts of 0x2410.05 and .06. -/
def State.replayJournal (s : State) (bad : List Nat) : State :=
  let j := s.store.journal
  let stop := j.stop bad
  let cs := (j.loadable stop).filter s.copyDue
  let pages := j.readable stop
  let last := pages.getLast?
  let conf := last.elim 0 (·.conf)
  let r := pages.foldl (Replayed.page conf cs) ⟨s.loadMaps cs, 0, 0, []⟩
  let s1 := r.state.resumeJournal stop cs r.touched
  let s2 := (s1.keep Obj.replayRecords r.applied).keep Obj.replayDropped (r.dropped + s.mem.lostUnits)
  match last with
  | some p => { s2 with store := { s2.store with durableNs := p.nss } }
  | none => s2

/-! ### Stripes (R209, R234) -/

/-- A relocation target whose RELOC records are not all durable holds garbage: it is erased and reused, and the old map
stands. -/
def State.dropTargets (s : State) (stop : Nat) : State :=
  let garbage := s.store.stripes.filter fun (e : Nat × Stripe) =>
    e.2.sources ≠ [] && (e.2.relocPage = 0 || decide (stop < e.2.relocPage)) && s.unitsIn e.1 = []
  (garbage.map fun (e : Nat × Stripe) => e.1).foldl (fun a i => a.giveUpStripe i false) s

/-- A replacement in progress is abandoned and starts again. -/
def State.dropReplacing (s : State) : State :=
  let s1 := s.store.replacing.foldl (fun a r => (a.setBlock r.2.2.1 r.2.2.2 { a.block r.2.2.1 r.2.2.2 with stripe := none }).queueErase
    r.2.2.1 r.2.2.2) s
  { s1 with store := { s1.store with replacing := [] } }

/-- Open page-mapped stripes take no more units: a page that was being programmed is not programmed again. -/
def State.stopStripes (s : State) : State :=
  { s with store := { s.store with
    stripes := s.store.stripes.map fun (e : Nat × Stripe) => (e.1, { e.2.stopped with copying := false, moved := [] }) } }

/-- Stripes after replay. -/
def State.settleStripes (s : State) (stop : Nat) : State := ((s.dropTargets stop).dropReplacing).stopStripes

/-! ### Zones (R155, R165, R166, R186, R298) -/

/-- The unit of a zone lies at a place: content of this namespace, unit, epoch and key. -/
def State.holds (s : State) (nsid unit epoch : Nat) (e : MapEntry) : Bool :=
  match Tbl.find s.store.media e.key with
  | some u => u.nsid = nsid && u.unit = unit && u.epoch = epoch && decide (u.key = (s.keySlot (nsid - 1)).keyId)
  | none => false

/-- The zone as the last durable page carries it; a zone whose stripe has been given up since is as it was when power was
lost. -/
def State.zoneThen (s : State) (nsid z : Nat) (n : Ns) : Zone :=
  match Tbl.find s.store.durableNs nsid with
  | none => Zone.initial
  | some d =>
    if d.born ≠ n.born then Zone.initial
    else
      let y := d.zone z
      match y.stripe with
      | none => y
      | some id => if (s.stripe? id).isSome then y else n.zone z

/-- Where a zone's unit is staged: by a record that replay has applied, or as the zone's table says. -/
def State.stagedAt (s : State) (nsid : Nat) (n : Ns) (y : Zone) (unit v : Nat) : Option MapEntry :=
  if s.holds nsid unit y.epoch (n.entry unit) then some (n.entry unit)
  else (Tbl.find y.staged v).filter (s.holds nsid unit y.epoch)

/-- A unit has survived: its row is recorded, or it is staged, by the dump among others. -/
def State.survives (s : State) (nsid : Nat) (n : Ns) (y : Zone) (t : Stripe) (unit v : Nat) : Bool :=
  v / t.rowUnits < y.rows || (s.stagedAt nsid n y unit v).isSome

/-- Units from a zone's start that have survived, at most `fuel`. -/
def State.unitsLeft (s : State) (nsid : Nat) (n : Ns) (y : Zone) (t : Stripe) (base v : Nat) : Nat → Nat
  | 0 => v
  | fuel + 1 => if s.survives nsid n y t (base + v) v then s.unitsLeft nsid n y t base (v + 1) fuel else v

/-- State of a zone after a power loss: an open zone is Closed, or Empty with nothing written (ZNS; PRESUMED), and a Full
zone that has lost its tail is Closed. -/
def zoneAfter (st : ZState) (wp : Nat) (whole : Bool) : ZState :=
  match st with
  | .empty => .empty
  | .implicitOpen => if wp = 0 then .empty else .closed
  | .explicitOpen => if wp = 0 then .empty else .closed
  | .closed => if wp = 0 then .empty else .closed
  | .full => if whole then .full else if wp = 0 then .empty else .closed
  | .readOnly => .readOnly
  | .offline => .offline

/-- A slot for a unit that has not reached its row: it is staged, as it was or by the dump. -/
def stagedSlot (nsid unit wp v : Nat) (u : Stored) (e : MapEntry) (dctx : Option DigestCtx) (now : Nat) : Slot :=
  let n := min 4 (wp - 4 * v)
  { nsid := nsid, unit := unit, mask := BitVec.ofNat 4 (2 ^ n - 1), lbas := u.lbas, metas := u.metas, bad := u.bad
    keyTags := u.keyTags, prev := .unmapped, since := now, state := .filling, tries := 0, wseq := u.wseq, page := 0, handle := u.handle
    writers := [], wanted := false, staged := some e, digested := dctx.elim true fun d => decide (16384 * (v + 1) ≤ d.count)
    counter := 0, dead := false, flight := none, again := false }

/-- Units below the write pointer that have not reached their rows are in slots again. -/
def State.refillZone (s : State) (nsid z base : Nat) (y : Zone) (t : Stripe) : State :=
  let lo := y.rows * t.rowUnits
  let hi := ceilDiv y.wp 4
  ((List.range (hi - lo)).map (· + lo)).foldl (fun a v =>
    match a.ns? nsid with
    | none => a
    | some n =>
      match (a.stagedAt nsid n y (base + v) v).bind fun e => (Tbl.find a.store.media e.key).map fun u => (e, u) with
      | none => a
      | some (e, u) =>
        let k := a.store.nextSlot
        let a1 := a.setSlot k (stagedSlot nsid (base + v) y.wp v u e y.dctx a.now)
        let a2 := { a1 with store := { a1.store with nextSlot := k + 1 } }
        let yz := n.zone z
        a2.setNs nsid (n.setZone z { yz with slots := Tbl.put yz.slots v k, staged := Tbl.put yz.staged v e })) s

/-- A zone is rebuilt. `kept` says that the running digests are kept: by a completed dump, or a clean shutdown. -/
def State.rebuildZone (s : State) (nsid : Nat) (n : Ns) (kept : Bool) (z : Nat) : State :=
  let y := s.zoneThen nsid z n
  let live := n.zone z
  let base := z * s.zoneUnits n
  if y.resetting.isSome ∧ 0 < y.resetPage ∧ s.pageDurable y.resetPage then
    let s1 := s.setNs nsid (n.setZone z { Zone.initial with epoch := min 0xFFFFFFFF (y.epoch + 1), zgen := (y.zgen + 1) % 2 ^ 16 })
    y.stripe.elim s1 fun id => s1.giveUpStripe id true
  else match (y.stripe.bind fun id => (s.stripe? id).map fun t => (id, t)) with
  | none =>
    let st := zoneAfter y.state 0 (decide (y.state = .full ∧ y.wp = 0))
    s.setNs nsid (n.setZone z { Zone.initial with
      state := st
      epoch := y.epoch
      zgen := y.zgen
      finishRec := y.finishRec
      dstate := if st = .empty then .none else y.dstate
      digest := if st = .empty then 0 else y.digest })
  | some (_, t) =>
    let wp := min (max y.wp live.wp) (4 * s.unitsLeft nsid n y t base 0 (s.zcap t.w / 4))
    let whole := decide (y.wp ≤ wp)
    let st := zoneAfter y.state wp whole
    let keep := kept && live.epoch = y.epoch && live.dstate = y.dstate
    let y1 := { y with
      state := st
      wp := wp
      slots := []
      lostRows := if live.stripe = y.stripe then live.lostRows else y.lostRows
      resetting := none
      resetPage := 0
      dctx := if keep then live.dctx else none
      stripe := if st = .empty then none else y.stripe }
    let s1 := s.setNs nsid (n.setZone z y1)
    let bad := (y.dstate = .running && !keep) || (y.dstate = .final && !whole)
    if st = .empty then
      (s1.setNs nsid (n.setZone z { Zone.initial with epoch := y.epoch, zgen := y.zgen })).giveUpStripe (y.stripe.getD 0) false
    else if bad then s1.spoilDigest nsid z 3
    else s1

/-- Zones that a namespace lists, then or now. -/
def State.zonesOf (s : State) (nsid : Nat) (n : Ns) : List Nat :=
  ((n.zones.map fun (e : Nat × Zone) => e.1)
    ++ ((Tbl.find s.store.durableNs nsid).elim [] fun d => d.zones.map fun (e : Nat × Zone) => e.1)).eraseDups

/-- Every zone of every zoned namespace. -/
def State.rebuildZones (s : State) (kept : Bool) : State :=
  (s.store.ns.filter fun (e : Nat × Ns) => e.2.kind = .zoned).foldl (fun a e =>
    (s.zonesOf e.1 e.2).foldl (fun b z => match b.ns? e.1 with
      | some n => b.rebuildZone e.1 n kept z
      | none => b) a) s

/-- A stripe that serves a zone which does not name it is given up. -/
def State.dropZoneStripes (s : State) : State :=
  s.store.stripes.foldl (fun a e => match e.2.use with
    | .zone nsid z => if (a.ns? nsid).elim false fun n => (n.zone z).stripe = some e.1 then a else a.giveUpStripe e.1 false
    | .ns _ _ => a
    | .mangle => a
    | .fold _ => a
    | .staging => a
    | .dump => a
    | .worn => a) s

/-- A zoned namespace has no page map (R175). -/
def Ns.plain (n : Ns) : Ns := if n.kind = .zoned then { n with map := [] } else n

/-- Slots of every zone that has units beyond its rows. -/
def State.refillSlots (s : State) : State :=
  (s.store.ns.filter fun (e : Nat × Ns) => e.2.kind = .zoned).foldl (fun a e =>
    ((a.ns? e.1).elim [] (·.zones)).foldl (fun b z => match z.2.stripe.bind b.stripe?, b.ns? e.1 with
      | some t, some n =>
        let c := b.refillZone e.1 z.1 (z.1 * b.zoneUnits n) z.2 t
        (c.digestZone e.1 z.1 (4 * (z.2.wp / 4 + 1))).digestDone e.1 z.1
      | _, _ => b) a) s

/-- The zones' slots and digests; entries of staged units stay with their zones alone. -/
def State.refillZones (s : State) : State :=
  let s1 := s.refillSlots
  { s1 with store := { s1.store with ns := s1.store.ns.map fun (e : Nat × Ns) => (e.1, e.2.plain) } }

/-! ### The dump (R191, R209, R411) -/

/-- What a dumped slot's unit holds: its own LBAs, and its previous content where it has none. -/
def State.mergeDump (s : State) (x : Slot) : Stored :=
  let old := Tbl.find s.store.media (s.locate x.nsid x.unit).key
  let u := s.slotStored x
  let own := fun (i : Nat) => x.mask.getLsbD i
  { u with
    lbas := (List.range 4).map fun i => if own i then x.lbas.getD i 0 else (old.bind fun o => o.lbas[i]?).getD 0
    metas := (List.range 4).map fun i => if own i then x.metas.getD i 0 else (old.bind fun o => o.metas[i]?).getD 0
    keyTags := (List.range 4).map fun i => if own i then x.keyTags.getD i none else (old.bind fun o => o.keyTags[i]?).getD none
    bad := (x.bad &&& x.mask) ||| ((old.elim 0 (·.bad)) &&& ~~~x.mask) }

/-- A dumped unit becomes an SLC entry in system blocks (R191); a unit for which no place is free is lost. -/
def State.restoreSlot (s : State) (x : Slot) : State :=
  if (s.ns? x.nsid).isNone then s
  else
    let j := s.store.journal
    let u := { s.mergeDump x with wseq := j.wseq + 1 }
    match s.placeFirst .dump 7 false (List.range s.groups.length) with
    | some (id, v, s1) =>
      match s1.stripe? id with
      | some t =>
        let e := t.entryOf true v
        let s2 := s1.setJournal { s1.store.journal with wseq := j.wseq + 1 }
        let s3 := ((s2.putStored e u).setUnit x.nsid x.unit e).journal (.reloc (x.nsid - 1) x.unit e)
        s3.advanceParity id (s3.blockPages + s3.slcPages)
      | none => s
    | none => s.bump Obj.replayDropped

/-- The first part of R191: maps and stripes, from the durable journal. -/
def State.replayMaps (s : State) (bad : List Nat) : State :=
  (s.replayJournal bad).settleStripes (s.store.journal.stop bad)

/-- The second part of R191: the dump, after the journal, and the zones. It and what boot recorded are durable before service
begins. -/
def State.replayDump (s : State) (clean : Bool) : State :=
  let dump := s.store.dump.getD []
  let s1 := dump.foldl State.restoreSlot { s with store := { s.store with dump := none } }
  let s2 := ((s1.rebuildZones (clean || s.store.dump.isSome)).dropZoneStripes).refillZones
  s2.closeJournal

end Sys2Proof.Machine
end

