-- ==== Sys2Proof/Machine/Boot.lean ====
section
/-! DEFINITION. The boot chain (R457 to R459) and the start of the device behind it (R45, R211 to R217, R261, R279, R328 to
R335, R354, R367, R373, R424, R435, R439). -/
namespace Sys2Proof.Machine

/-! ### What AON memory and the system blocks say (R373, R418, R424, R435, R439) -/

/-- The cause of R373: a restart's, else 3 after a run that neither shut down cleanly nor completed a dump. -/
def State.bootCause (s : State) : Nat :=
  if s.mem.restartCause ≠ 0 then s.mem.restartCause
  else if 0 < s.cfg Obj.boots ∧ !s.power.clean ∧ s.store.dump.isNone then 3
  else 0

/-- A key of the durable table that restoring defaults drops (R439): a setting, a rate of R420; a fence is no setting. -/
def restored (e : Nat × Nat) : Bool :=
  if 0x1000000 ≤ e.1 then true
  else match Obj.rowOf e.1 with
    | some r => r.setting && !(r = Obj.cellRole && e.2 = 7)
    | none => false

/-- Saved values come into force; 0x1F00.10 restores defaults first (R439). -/
def State.loadValues (s : State) : State :=
  let d := s.dict.durable
  let kept := if Tbl.find d (Obj.restoreDefaults.key 0 0) = some 1 then d.filter fun e => !(restored e) else d
  { s with dict := { s.dict with force := kept, durable := kept } }

/-- SEQs at which the two areas break their chains (R424). -/
def Sampler.chainBreaks (x : Sampler) : List Nat := (breaksOf x.first ++ breaksOf x.circ).eraseDups

/-- The highest SEQ stored, all ones when there is none (R417). -/
def Sampler.highest (x : Sampler) : Nat := x.lastRec.elim (2 ^ 64 - 1) (·.seq)

/-- The boot count rises, the cause is shown, and the first records enter: power-on, then chain breaks (R417, R418,
R424). -/
def State.firstRecords (s : State) (cause : Nat) : State :=
  let high := s.sampler.highest
  let s0 := s.bump Obj.boots
  let s1 := (s0.save Obj.boots (s0.cfg Obj.boots)).keep Obj.recoveryCause cause
  let s2 := { s1 with mem := { s1.mem with restartCause := 0 } }
  let s3 := s2.record 0x0001 [s2.cfg Obj.boots, cause, lowWord high, highWord high]
  s.sampler.chainBreaks.foldl (fun a q => (a.bump Obj.chainBreaks).record 0x0006 [lowWord q, highWord q]) s3

/-! ### Steps 1 to 4 of R457 -/

/-- A loop as the ROM measures it: reported at once. -/
def LoopSt.boot (c : LoopState) (now : Nat) : LoopSt :=
  { seen := c, since := now, shown := c, normalSince := if c = .normal then some now else none }

/-- The loops at boot: a SHORT on PRESENCE_N is a jumper (R463). -/
def State.bootLoops (s : State) (pres outer : LoopState) : State :=
  let s1 := { s with security := { s.security with
    presence := LoopSt.boot pres s.now
    sealing := LoopSt.boot outer s.now
    jumper := decide (pres = LoopState.short) } }
  (s1.keep Obj.presenceLoop (LoopState_code pres)).keep Obj.sealLoop (LoopState_code outer)

/-- The seal policy at boot (R457 step 3, R467): under ZEROISE what the dump holds is released, a ROOT_GEN step is burnt, and
a crypto erase waits for service. -/
def State.bootSeal (s : State) : State :=
  if s.security.sealing.shown = .normal ∧ !(s.flag Obj.sealBroken) then s
  else
    let s1 := s.save Obj.sealBroken 1
    if s1.cfg Obj.sealPolicy ≠ 1 then s1
    else
      let s2 := if s1.rootLeft then s1.burnRoot else { s1 with security := { s1.security with barred := s1.nsids } }
      { s2 with
        store := { s2.store with dump := none }
        security := { s2.security with eraseDue := true } }

/-- The stores of blobs were wrapped under an earlier root (R466). -/
def State.storeStale (s : State) : Bool := s.security.storeGen < s.cfg Obj.rootGen

/-- A key slot at boot: its key from the stored copy, and for GCM the counter of R279, H being the mark of the newest readable
reservation. -/
def State.bootSlot (s : State) (badRes : List Nat) (slot : Nat) (b : KeySlot) : KeySlot :=
  let q := s.keySlot slot
  let w := s.cfg Obj.ctrWindow
  let m := s.cfg Obj.ctrBootMargin
  let h := if badRes.contains slot then q.high - w else q.high
  let q1 := { q with kind := b.kind, origin := b.origin, keyId := b.keyId, reserving := false }
  if b.kind = 2 then { q1 with wctr := h + m * w, high := h + (m + 1) * w } else q1

/-- Key slots are loaded, but those whose key is lost (R279, R283). -/
def State.loadSlots (s : State) (badRes : List Nat) : State :=
  (s.cipher.blobs.filter fun (e : Nat × KeySlot) => !(s.cipher.lost.contains e.1)).foldl (fun a e =>
    let q := a.bootSlot badRes e.1 e.2
    let a1 := a.setKeySlot e.1 q
    if q.kind = 2 ∧ counterEnd ≤ q.wctr then a1.record 0x0904 [e.1] else a1) s

/-- Step 4: the device KEK is derived; keys wrapped under the present root are loaded, a stale store starts a crypto erase
(R466). -/
def State.loadKeys (s : State) (badRes : List Nat) : State :=
  let s1 := { s with
    cipher := { s.cipher with tkeks := s.cipher.tkekBlobs }
    security := { s.security with
      kek := true
      mgmtKey := s.security.mgmtBlob
      eraseDue := s.security.eraseDue || s.storeStale } }
  let s2 := (s1.tkekMap).keep Obj.keyPresent s1.security.mgmtKey.isSome.toNat
  if s.storeStale then s2 else s2.loadSlots badRes

/-- Steps 2 to 4: a failed island test halts cryptography, and nothing is derived or loaded (R474). -/
def State.bootKeys (s : State) (fail : Option HaltCause) (badRes : List Nat) : State :=
  match fail with
  | some c => (s.keep Obj.cryptoState 2).keep Obj.haltCause (HaltCause_code c)
  | none => s.loadKeys badRes

/-! ### Step 5: image selection (R458, R459) -/

/-- Higher SVN first, then higher BUILD. -/
def imageBefore (a b : ImageHeader) : Bool := b.svn < a.svn || (a.svn = b.svn && b.build ≤ a.build)

def insertImage (e : Nat × ImageHeader) : List (Nat × ImageHeader) → List (Nat × ImageHeader)
  | [] => [e]
  | d :: t => if imageBefore e.2 d.2 then e :: d :: t else d :: insertImage e t

/-- Slot and copy of the candidates, in the order of R458. -/
def State.candidates (s : State) : List (Nat × Nat) :=
  let m := s.security.marker
  let rest := (s.admin.slots.filter fun (e : Nat × ImageHeader) => e.1 ≠ m && e.1 ≠ 1).foldr insertImage []
  [(m, 1), (m, 2)] ++ rest.flatMap (fun (e : Nat × ImageHeader) => [(e.1, 1), (e.1, 2)]) ++ [(1, 1)]

/-- A candidate is accepted: its checks pass, and its SVN does, or its slot carries a downgrade mark. -/
def State.accepts (s : State) (found : List Candidate) (c : Nat × Nat) : Bool :=
  match s.image c.1 with
  | none => false
  | some i => (found.any fun x => x.slot = c.1 && x.copy = c.2 && x.pass)
      && (s.cfg Obj.arbCounter ≤ i.svn || s.security.downgrade.contains c.1)

/-- The image of a slot runs; a fall back to another candidate than the first is counted. -/
def State.runImage (s : State) (slot : Nat) (first : Bool) : State :=
  let s1 := (s.keep Obj.bootSlot slot).setRunning slot ((s.image slot).getD factoryImage)
  let s2 := if first then s1 else (s1.bump Obj.bootFallbacks)
  (if first then s2 else s2.save Obj.bootFallbacks (s2.cfg Obj.bootFallbacks)).raiseArb

/-- Step 5: the first candidate accepted runs, or the ROM enters recovery. -/
def State.selectImage (s : State) (found : List Candidate) : State :=
  match s.candidates.find? (s.accepts found) with
  | some c => s.runImage c.1 (decide (some c = s.candidates.head?))
  | none => { s with security := { s.security with rom := true } }

/-! ### Domains and cells (R33, R45) -/

/-- Channels and DRAM channels of a failed domain: its own, or those at the routers of its quadrant. -/
def lostGroups (d : Nat) : List Nat := (List.range 16).filter fun g => d = 34 + g ∨ d = 50 + quadrantOf (groupNode g).1 (groupNode g).2
def lostDram (d : Nat) : List Nat := (List.range 4).filter fun c => d = 6 + c ∨ d = 50 + quadrantOf (dramNode c).1 (dramNode c).2

/-- A block whose domain is reported failed counts as lost (R33): a cell group by fences; a channel-engine group's channels;
a DRAM channel; a port half's link; of a quadrant what its routers attach. The island, the management cluster, the host front
end and the management port are lost where `blockLost` is asked. -/
def State.loseDomain (s : State) (d : Nat) : State :=
  let s1 := (lostGroups d).foldl (fun a g => (List.range 4).foldl (fun b i => b.loseChannel (4 * g + i)) a) (s.failDomain d)
  let s2 := (lostDram d).foldl (fun a c => if (a.chan c).state = 2 then a.loseDram c else a) s1
  if d = 3 then (s2.fencePort .a 7).dropLink .a
  else if d = 4 then (if s2.dual then (s2.fencePort .b 7).dropLink .b else (s2.fencePort .a 7).dropLink .a)
  else s2

/-- A fabric link without a lane is shown in 0x6000.10 (R31). -/
def State.bootFabric (s : State) : State :=
  match s.cells.lanesOut.find? fun (e : Nat × Nat) => e.2 = 15 with
  | some e => s.keep Obj.fabricFault (2 ^ 31 + e.1 / 6 % 12 * 2 ^ 16 + e.1 / 72 * 2 ^ 8 + e.1 % 6)
  | none => s

/-- R45: domains that do not answer, fences, promotions, and the release of the dispatch units. The links into a group without an
active cell stay parked (R19, R35). -/
def State.bootCells (s : State) (e : BootEnv) : State :=
  let s1 := e.domainFails.foldl (fun a d => a.failDomain d.val) s.bootFabric
  let s2 := (e.cellFails ++ e.sramFails).foldl (fun a c => a.fenceCell c.val 1) s1
  let s3 := s2.promoteAll
  { s3 with cells := { s3.cells with released := true, parked := (List.range 56).filter fun d => !(s3.domainOn d) } }

/-! ### Flash discovery and training (R211 to R217) -/

/-- Two profiles are of one die (R212). -/
def sameDie (p q : DieProfile) : Bool := decide ({ p with classId := 0 } = { q with classId := 0 })

/-- A die joins its class; a fifth class has no place. -/
def classify (l : List DieProfile) (p : DieProfile) : Option (Fin 4 × List DieProfile) :=
  match l.findIdx? (sameDie p) with
  | some i => some (Fin.ofNat 4 i, l)
  | none =>
    if l.length < 4 then
      let c := Fin.ofNat 4 l.length
      some (c, l ++ [{ p with classId := c }])
    else none

/-- Step 3 of R216: four planes, 16,384 data bytes, at least 2,048 spare bytes. -/
def geometryOk (p : DieProfile) : Bool := p.planes = 4 && p.dataBytes = 16384 && 2048 ≤ p.spareBytes

/-- A LUN that is found for the first time: ACTIVE, with its factory marks (R216, R217). -/
def State.formatLun (s : State) (k : Nat) (c : Fin 4) (bad : List Nat) : State :=
  let s1 := s.setLun k { Lun.none with state := .active, cls := c, factoryBad := bad.eraseDups }
  s1.setLun k { s1.lun k with factoryBad := bad.eraseDups.filter fun b => b < s1.lunBlocks k }

/-- What stands at a LUN position as discovery finds it. One lost earlier stays LOST; one that served and is not found stays
as it is for the moment. -/
def State.findLun (s : State) (k : Nat) (f : LunFound) : State :=
  let x := s.lun k
  let mark := fun (st : LunState) => if x.state = .active ∨ x.state = .lost then s else s.setLun k { Lun.none with state := st }
  match f with
  | .unsupported => mark .unsupported
  | .noProfile => mark .noProfile
  | .present p bad =>
    if x.state = .lost then s
    else if !(geometryOk p) then mark .unsupported
    else match classify s.flash.classes p with
      | none => mark .noProfile
      | some (c, l) =>
        let s1 := { s with flash := { s.flash with classes := l } }
        if x.state = .active then s1.setLun k { x with cls := c } else s1.formatLun k c bad

/-- A LUN position serves as found. -/
def State.foundOk (s : State) (f : LunFound) : Bool :=
  match f with
  | .present p _ => geometryOk p && s.flash.classes.any (sameDie p)
  | .unsupported => false
  | .noProfile => false

/-- The rate that R211 allows a channel before training. -/
def State.rateCap (s : State) (ch : Nat) : Nat :=
  (s.flash.luns.filter fun (e : Nat × Lun) => e.1 / 64 = ch && e.2.state = .active).foldl (fun m e =>
    min m ((s.profile e.1).elim m (·.maxRate.val))) (s.cfg Obj.chRateMax)

/-- Training of a channel (R213): extended mode in at most three attempts, else rate 4 with a record. One that fails step 2
is lost later. -/
def State.trainChannel (s : State) (ch : Nat) (t : ChannelTraining) : State :=
  let cap := s.rateCap ch
  let got := firstPass (windowSteps (s.cfg Obj.extMinEye)) t.eyes
  let ext := t.basic && 5 ≤ cap
  let v := s.draw
  let x : Channel :=
    { rate := if !t.basic then 0 else if !ext then cap else if got.1.isSome then 5 else 4
      state := 1
      eyeMin := if ext then got.1.getD ((t.eyes.take 3).getLastD 0) else 0
      fails := if ext then got.2 else 0
      targets := t.targets % 256
      faults := 0
      trainedAt := v.1
      transfers := [] }
  let s1 := { v.2 with flash := { v.2.flash with channels := Tbl.put v.2.flash.channels ch x } }
  if ext ∧ got.1.isNone then s1.record 0x0701 [ch, 4] else s1

/-- LUNs that discovery reaches: those on channels that answer. -/
def BootEnv_luns (e : BootEnv) : List (Fin 4096 × LunFound) :=
  e.luns.filter fun l => e.channels.any fun c => c.1.val = l.1.val / 64

/-- Discovery and training; the first format sets the spare pool (R176, R202). -/
def State.bootFlash (s : State) (e : BootEnv) : State :=
  let s1 := (BootEnv_luns e).foldl (fun a l => a.findLun l.1.val l.2) s
  let s2 := e.channels.foldl (fun a c => a.trainChannel c.1.val c.2) s1
  if s2.store.formatted ∨ s2.attachedLuns = [] then s2
  else { s2 with store := { s2.store with formatted := true } }.save Obj.spareRemaining (s2.cfg Obj.spareInitial)

/-- LUNs that served in an earlier run and do not any more are lost, once the maps are there (R232). -/
def State.loseMissing (s : State) (e : BootEnv) : State :=
  let failed := e.domainFails.flatMap fun d => lostGroups d.val
  let chans := (e.channels.filter fun c => !c.2.basic).map (fun c => c.1.val)
    ++ failed.flatMap fun g => (List.range 4).map fun i => 4 * g + i
  let s1 := chans.foldl (fun a c => a.loseChannel c) s
  let gone := (s1.flash.luns.filter fun (x : Nat × Lun) => x.2.state = .active
    && !((BootEnv_luns e).any fun l => l.1.val = x.1 && s1.foundOk l.2)).map fun (x : Nat × Lun) => x.1
  gone.foldl (fun a k => a.loseLun k) s1

/-! ### DRAM (R261, R262, R328 to R333) -/

/-- How a channel answers: not at all in a failed domain, or where discovery names no rank. -/
def BootEnv_dram (e : BootEnv) (c : Nat) : DramTraining :=
  match e.dram.find? fun x => x.1.val = c with
  | some x => if x.2.ranks = 0 ∨ e.domainFails.any (fun d => (lostDram d.val).contains c) then ⟨0, []⟩ else x.2
  | none => ⟨0, []⟩

/-- The reference rank count: the count of most channels that trained, the larger of equals (R329). -/
def State.rankCount (s : State) : Nat :=
  let n := fun (r : Nat) => (List.range 4).countP fun c => (s.chan c).state = 2 && (s.chan c).ranks = r
  [1, 2, 3, 4].foldl (fun m r => if n m ≤ n r then r else m) 0

/-- A channel of another rank count takes no part; the others start their refresh grids. -/
def State.admitChannel (s : State) (ref c : Nat) : State :=
  let x := s.chan c
  if x.state ≠ 2 then s
  else if x.ranks ≠ ref then (s.setChan c { x with state := 5 }).record 0x0C01 [c] 0xFFFF (6 + c)
  else
    let v := s.draw
    v.2.setChan c { x with
      centred := v.1
      refresh := (List.range x.ranks).map fun r => (r, x.grid r s.now) }

/-- Training, the fill or the valid-bit scheme, and fresh pools (R261, R262, R322). -/
def State.bootDram (s : State) (e : BootEnv) (recovery : Bool) : State :=
  let s1 := (List.range 4).foldl (fun a c => a.trainDram c (BootEnv_dram e c)) s
  let s2 := (List.range 4).foldl (fun a c => a.admitChannel s1.rankCount c) s1
  let s3 := (if recovery ∨ e.testImage then s2.startFill else s2).freshPools true
  s3.keep Obj.poolCount (s3.limitAtBoot / 16384)

/-! ### Counts and estimates (R236, R354, R367) -/

/-- What the store shows in the objects that count it. -/
def State.recount (s : State) : State :=
  let lost := s.flash.luns.countP fun (e : Nat × Lun) => e.2.state = .lost
  let s1 := ((s.keep Obj.lunsLost lost).keep Obj.darnPending s.store.darning.length).keep Obj.stripesUnreplaceable
    s.store.noReplace.length
  (s1.keep Obj.secureErasePending s.store.secureQueue.length).keep Obj.sdPending
    (s.store.stripes.countP fun (e : Nat × Stripe) => e.2.secure)

/-- Blocks of the attached LUNs. -/
def State.allBlocks (s : State) : Nat := (s.attachedLuns.map s.lunBlocks).sum

/-- Blocks that the forced pass of segment 6 samples: all but excluded ones and the initial spares (R354). -/
def State.sampleBlocks (s : State) : Nat :=
  let luns := s.attachedLuns
  let spare := if luns.length = 0 then 0 else s.cfg Obj.spareInitial / luns.length
  (luns.map fun l => s.lunBlocks l - (s.lun l).factoryBad.length - spare).sum

/-- EDSTT in minutes: 128 codewords a block at the SELFTEST read rate. -/
def State.edstt (s : State) : Nat :=
  ceilDiv (s.sampleBlocks * 128 * 1024 * 10000 * s.cfg Obj.frameUs) (s.readCap * s.cfg Obj.bgShares 0 6 * 60000000)

/-- EDSTT as shown: free where the share is 0 or the minutes exceed its 16 bits (log entry 1). -/
def State.showEdstt (s : State) : State :=
  if s.cfg Obj.bgShares 0 6 = 0 ∨ s.readCap = 0 ∨ 65535 < s.edstt then
    let v := s.draw
    v.2.keep Obj.selftestEdstt (v.1 % 65536)
  else s.keep Obj.selftestEdstt s.edstt

/-- ETBE in seconds: rounds of the erases that tokens allow at once. -/
def State.etbe (s : State) : Nat :=
  let hold := (s.flash.classes.map fun (p : DieProfile) => p.pErase - p.pIdle).foldl max 0
  let t := (s.flash.classes.map fun (p : DieProfile) => p.tErase).foldl max 0
  let atOnce := max 1 ((s.tokenPool - s.standing) / max 1 hold)
  ceilDiv (ceilDiv s.allBlocks atOnce * t) 1000000000

/-! ### Modes at the start of service (R366, R369, R370, R372) -/

/-- READ-ONLY by RO_CAUSE and WRITE_PROTECT; system blocks that cannot be written set cause 2, which else ends (R203). -/
def State.bootReadOnly (s : State) (systemOk : Bool) : State :=
  let c := s.cfg Obj.roCause
  let now := if !systemOk then 2 else if c = 2 then (if s.cfg Obj.spareRemaining = 0 ∧ s.store.formatted then 1 else 0) else c
  let s1 := if now = c then s else s.save Obj.roCause now
  if now ≠ 0 then s1.setMode Mode.readOnly 6
  else if s1.flag Obj.writeProtect then s1.setMode Mode.readOnly 7
  else s1

/-- SANITIZE at boot: an unfinished one starts over, a failed one stays, and a crypto erase that is due begins. -/
def State.bootSanitize (s : State) : State :=
  if s.cfg Obj.cryptoState = 2 then
    (if s.admin.sanitize.isSome ∨ s.admin.sanStatus = 3 then s.setMode Mode.sanitize 10 else s)
  else if s.security.eraseDue then
    { s with security := { s.security with eraseDue := false } }.startSanitize 4 true true false
  else match s.admin.sanitize with
    | some z => s.startSanitize z.action z.abort z.own s.admin.sanAuse
    | none => if s.admin.sanStatus = 3 then s.setMode Mode.sanitize 10 else s

/-- The grids of the periodic tasks start (R127). -/
def State.startTasks (s : State) : State :=
  let s1 := (List.range 4).foldl (fun a c => a.startTask (Periodic.recentre c) (1000000000 * s.cfg Obj.recentreS)) s
  ((s1.startTask Periodic.rinse s.passNs).startTask Periodic.checkpoint (1000000000 * s.cfg Obj.ckptPassS)).startTask
    Periodic.flush s.flushNs

/-- Service begins (R370), with the modes that hold at boot, and frame 0. -/
def State.beginService (s : State) (e : BootEnv) : State :=
  let s1 := s.setMode Mode.service 1
  let s2 := if s1.store.darning ≠ [] ∧ !(s1.has Mode.degraded) then s1.setMode Mode.degraded 4 else s1
  let s3 := ((s2.bootReadOnly e.systemBlocksOk).bootSanitize).settleRecovery
  let s4 := s3.showEdstt
  ((s4.keep Obj.sanitizeEtbe s4.etbe).startTasks).openGrid

/-! ### The boot -/

/-- The device as its ROM finds it: in no mode, out of reset, its clock started, and an image that was to be activated at
this reset marked (R362). -/
def State.wakeRom (s : State) : State :=
  { s with
    modes := 0
    bootAt := s.now
    power := { s.power with held := false, restart := false, latched := false } }

/-- The slot that a reset activates gets its marker (R362, R364). -/
def State.markReset (s : State) : State :=
  match s.admin.onReset with
  | some k => { s with
      admin := { s.admin with onReset := none }
      security := { s.security with marker := k } }
  | none => s

/-- Steps 2 to 5 of R457, with the loops and the first records. -/
def State.romChain (s : State) (e : BootEnv) (cause : Nat) : State :=
  let s1 := (s.firstRecords cause).bootLoops e.presLoop e.sealLoop
  (((s1.bootSeal).bootKeys e.islandFail e.badReservations).markReset).selectImage e.candidates

/-- Whether a width can be opened is found anew at each boot (R229). -/
def State.freshWidths (s : State) : State :=
  { s with store := { s.store with
    ns := s.store.ns.map fun (e : Nat × Ns) => (e.1, { e.2 with writeBlocked := false }) } }.settleWidths

/-- What the management cores start: cells, flash, DRAM, maps, service. -/
def State.startUp (s : State) (e : BootEnv) (cause : Nat) : State :=
  let recovery := cause ≠ 0
  let s1 := ((s.bootCells e).bootFlash e).bootDram e recovery
  let s2 := if recovery then s1.setMode Mode.recovery 1 else s1
  let s3 := (((s2.replayMaps e.badPages).loseMissing e).replayDump s.power.clean).freshWidths
  let s4 := (s3.placeMaps).recount
  let s5 := { s4 with power := { s4.power with clean := false } }.keep Obj.seqLast (s4.staing.res - 1)
  s5.beginService e

/-- PORST_N_RELEASE (R457): the boot chain, from reset, or after a restart (R260, R335, R374, R459). Without an acceptable
image the device stays in ROM recovery, and what it knows of the run before waits for the next boot. -/
def execPorstRelease (e : BootEnv) (s : State) : Answer :=
  if !(s.power.held || s.power.restart || s.power.latched) ∨ s.power.dumping then .next s
  else
    let s0 := (if s.power.held then s else s.powerOff).wakeRom.loadValues
    let cause := s0.bootCause
    let s1 := s0.romChain e cause
    if s1.security.rom then .next { s1 with mem := { s1.mem with restartCause := s0.mem.restartCause } }
    else .next (s1.startUp e cause)

end Sys2Proof.Machine
end

