-- ==== Sys2Proof/Machine/Digest.lean ====
section
/-! DEFINITION. Digest cores and the comparator (R290 to R305). -/
namespace Sys2Proof.Machine

/-! ### Algorithms (R290, R291) -/

/-- Block and output bytes of an algorithm: 1 SHA-256 (the code of R296), 2 SHA-384, 3 SHA-512 (log entry 12). -/
def algBlock (alg : Nat) : Nat := if alg = 1 then 64 else 128
def algOut (alg : Nat) : Nat := if alg = 1 then 32 else if alg = 2 then 48 else 64

/-- A context without input. -/
def DigestRun.fresh (alg : Nat) : DigestRun :=
  if alg = 1 then .short DigestCtx.fresh
  else .long { h := if alg = 2 then sha384H else sha512H, count := 0, tail := [] }

def DigestRun.feed (r : DigestRun) (bs : List Byte) : DigestRun :=
  match r with
  | .short c => .short (c.feed bs)
  | .long c => .long (c.feed bs)

def DigestRun.count : DigestRun → Nat
  | .short c => c.count
  | .long c => c.count

def DigestRun.finish (r : DigestRun) (alg : Nat) : List Byte :=
  match r with
  | .short c => c.finish
  | .long c => c.finish (algOut alg)

/-- The hash of a message. -/
def hashOf (alg : Nat) (m : List Byte) : List Byte := ((DigestRun.fresh alg).feed m).finish alg

/-- An HMAC key as long as a block: a longer key is hashed first (R291). -/
def padKey (alg : Nat) (key : List Byte) : List Byte :=
  let k := if algBlock alg < key.length then hashOf alg key else key
  k ++ List.replicate (algBlock alg - k.length) 0#8

/-- Most bytes a context takes (R292). -/
def algLimit (alg : Nat) : Nat := if alg = 1 then 2 ^ 61 - 1 else 2 ^ 125 - 1

/-! ### Cores -/

/-- Number of a core: cells 0 to 95, bank K 96, bank M 97. -/
def DigestCore_num : DigestCore → Nat
  | .cell c => c.val
  | .islandK => 96
  | .islandM => 97

/-- A core before its first START: no context, so that nothing can be read. -/
def DigestSt.reset : DigestSt :=
  { alg := 1, key := none, run := DigestRun.fresh 1, result := none, zgen := 0, pair := ⟨0, 0⟩, error := 0, lastRead := []
    misuse := 0 }

def State.digestCore (s : State) (k : Nat) : DigestSt := Tbl.get DigestSt.reset s.engines.digests k

def State.setDigest (s : State) (k : Nat) (x : DigestSt) : State :=
  { s with engines := { s.engines with digests := Tbl.set DigestSt.reset s.engines.digests k x } }

/-- 0x2710.01 holds a 32-bit count for each error code, code 1 lowest (R305). -/
def State.countDigestError (s : State) (code : Nat) : State :=
  let v := s.cfg Obj.digestErrors
  let n := v / 2 ^ (32 * (code - 1)) % 2 ^ 32
  s.keep Obj.digestErrors (v - n * 2 ^ (32 * (code - 1)) + (n + 1) % 2 ^ 32 * 2 ^ (32 * (code - 1)))

/-- A misused cell core: its work item fails and is posted again once; a second misuse fences the cell (R305). -/
def State.misused (s : State) (k : Nat) : State :=
  let x := s.digestCore k
  if 96 ≤ k then s
  else if 1 ≤ x.misuse then (s.setDigest k { x with misuse := 0 }).fenceCell k 3
  else
    let s1 := s.setDigest k { x with misuse := x.misuse + 1 }
    match (s1.cell k).items with
    | w :: t => (s1.setCell k { s1.cell k with
        items := t
        lane := (s1.cell k).lane.filter fun e => (e.1, e.2.1) ≠ (w.prod, w.tag) }).repostAfterFault w
    | [] => s1

/-- An operation that meets its error condition sets the code and changes nothing else of the core (R292). -/
def State.digestError (s : State) (k code : Nat) : State :=
  let s1 := (s.setDigest k { s.digestCore k with error := code }).countDigestError code
  if code = 1 ∨ code = 2 ∨ code = 6 ∨ code = 7 then s1.misused k else s1

/-- A core that works: the island's, unless the island is lost, or that of a cell that is not fenced (R33, R41). -/
def State.digestUp (s : State) (k : Nat) : Bool := if 96 ≤ k then !s.blockLost 1 else s.cellRole k ≠ 7

/-- An operation of a core; a fenced cell's results are never used (R42). -/
def State.atDigest (s : State) (k : DigestCore) (go : Nat → State) : Answer :=
  .next (if s.digestUp (DigestCore_num k) then go (DigestCore_num k) else s)

/-- DIGEST_START: a new context; for HMAC the inner pad state is loaded. -/
def execDigestStart (k : DigestCore) (alg : Nat) (hmac : Bool) (key : Option (List Byte)) (s : State) : Answer :=
  s.atDigest k fun n =>
  if alg = 0 ∨ 3 < alg then s.digestError n 6
  else if hmac ∧ key.isNone then s.digestError n 5
  else
    let used := if hmac then key.map (padKey alg) else none
    let run := match used with
      | some p => (DigestRun.fresh alg).feed (p.map (· ^^^ 0x36#8))
      | none => DigestRun.fresh alg
    (s.setDigest n { s.digestCore n with
      alg := alg
      key := used
      run := run
      result := none
      zgen := 0
      pair := ⟨0, 0⟩
      error := 0 })

/-- DIGEST_FEED. -/
def execDigestFeed (k : DigestCore) (bytes : List Byte) (s : State) : Answer :=
  s.atDigest k fun n =>
  let x := s.digestCore n
  if x.result.isSome then s.digestError n 2
  else if algLimit x.alg < x.run.count + bytes.length then s.digestError n 3
  else (s.setDigest n { x with run := x.run.feed bytes })

/-- The result of a core's context: for HMAC the outer hash over the inner one (R291, R293). -/
def DigestSt.value (x : DigestSt) : List Byte :=
  match x.key with
  | some p => hashOf x.alg (p.map (· ^^^ 0x5C#8) ++ x.run.finish x.alg)
  | none => x.run.finish x.alg

/-- DIGEST_FINISH (R293). -/
def execDigestFinish (k : DigestCore) (s : State) : Answer :=
  s.atDigest k fun n =>
  let x := s.digestCore n
  if x.result.isSome then (s.digestError n 2) else (s.setDigest n { x with result := some x.value })

/-- DIGEST_READ: the result, or zeros and error 1 before FINISH (R292). -/
def execDigestRead (k : DigestCore) (s : State) : Answer :=
  s.atDigest k fun n =>
  let x := s.digestCore n
  match x.result with
  | some r => (s.setDigest n { x with lastRead := r })
  | none => ((s.setDigest n { x with lastRead := List.replicate (algOut x.alg) 0#8 }).digestError n 1)

/-- What the comparator gives over L bytes (R299). -/
def compareBytes (a b : List Byte) (len : Nat) : ComparePair :=
  if a.take len = b.take len ∧ len ≤ b.length then ⟨0x5A#8, 0xA5#8⟩ else ⟨0xA5#8, 0x5A#8⟩

/-- DIGEST_COMPARE (R292, R299, R300): before FINISH the pair stays 0x00 and 0x00, which is a fault. -/
def execDigestCompare (k : DigestCore) (expected : List Byte) (len : Nat) (s : State) : Answer :=
  s.atDigest k fun n =>
  let x := s.digestCore n
  match x.result with
  | none => (((s.setDigest n { x with pair := ⟨0, 0⟩ }).digestError n 1).judgePair n ⟨0, 0⟩)
  | some r =>
    if len = 0 ∨ algOut x.alg < len then s.digestError n 7
    else (s.setDigest n { x with pair := compareBytes r expected len })

/-- DIGEST_SAVE (R297): a zone's context is written out, or discarded where the zone's generation has moved on. Only a
SHA-256 context has a saved form. -/
def execDigestSave (k : DigestCore) (nsid zone : Nat) (s : State) : Answer :=
  s.atDigest k fun n =>
  let x := s.digestCore n
  if x.result.isSome then s.digestError n 2
  else match x.run, s.ns? nsid with
    | .short c, some m =>
      if (m.zone zone).zgen = x.zgen then (s.setNs nsid (m.setZone zone { m.zone zone with dctx := some c }))
      else (s.bump Obj.staleSaves)
    | _, _ => s

/-- The context that a saved one describes: its partial block is the first COUNT mod 64 bytes of BLOCK (R296). -/
def SavedDigest_ctx (d : SavedDigest) : DigestCtx := { h := d.h, count := d.count, tail := d.block.take (d.count % 64) }

/-- DIGEST_RESTORE (R297): checks of CCRC, FORMAT, ALG and ZGEN; a context that fails is not loaded and the zone's digest
becomes INVALID, cause "context lost" (3, log entry 13). -/
def execDigestRestore (k : DigestCore) (nsid zone : Nat) (saved : SavedDigest) (s : State) : Answer :=
  s.atDigest k fun n =>
  match s.ns? nsid with
  | none => (s.digestError n 4)
  | some m =>
    if saved.crcOk ∧ saved.format = 1 ∧ saved.alg = 1 ∧ saved.zgen = (m.zone zone).zgen then
      (s.setDigest n { s.digestCore n with
        alg := 1
        key := none
        run := .short (SavedDigest_ctx saved)
        result := none
        zgen := saved.zgen
        pair := ⟨0, 0⟩
        error := 0 })
    else ((s.digestError n 4).spoilDigest nsid zone 3)

end Sys2Proof.Machine
end

