-- ==== Sys2Proof/Machine/Plane.lean ====
section
/-! DEFINITION. The configuration plane, parked links, lane sparing and the fabric timeout (R19, R31 to R34). -/
namespace Sys2Proof.Machine

/-! ### Configuration plane (R33, R34) -/

/-- The links into a domain open once it signals ready, which a domain does that is ON and serves (R19). -/
def State.signalReady (s : State) (d : Nat) : State :=
  if s.domainOn d ∧ (s.domain d).state = .on then s.unpark (· = d) else s

/-- A domain is switched on or off; its links park until it signals ready (R19). -/
def State.switchPower (s : State) (d : Nat) (on : Bool) : State :=
  let x := s.domain d
  let state := if on then DomState.on else DomState.off
  if x.state = state then s else ((s.park [d]).setDomain d { x with state := state, goal := state }).domainPauses

/-- What a message that reached its stop does: clock and power settings, roles, drains, fences, readiness of the island and
the die temperature of a group, whose sensor is numbered ten below its domain (R19, R34, R39, R41, R508). -/
def State.planeAct (s : State) (d : Nat) : CfgMsg → State
  | .clock mhz => { s with cells := { s.cells with clocks := Tbl.set 0 s.cells.clocks d mhz } }
  | .power on => s.switchPower d on
  | .role c r => if cellDomain c.val = d then s.commitRole c.val r.code else s
  | .drain c =>
    if cellDomain c.val = d ∧ (s.cell c).drainTo.isNone ∧ 1 ≤ s.cellRole c.val ∧ s.cellRole c.val ≤ 4 then
      s.setCell c.val { s.cell c.val with drainTo := some (s.cellRole c.val), drained := false }
    else s
  | .fence c => if cellDomain c.val = d then s.fenceCell c.val 6 else s
  | .ready => s.signalReady d
  | .temps t => if 10 ≤ d then { s with power := { s.power with temps := s.power.temps.set (d - 10) t } } else s

/-- Who may send: the management cluster while it is powered, the Airing sequencer while it is off (R34). -/
def State.planeOpen (s : State) (airing : Bool) : Bool :=
  if airing then s.has Mode.airing && (s.domain 2).state ≠ .on else (s.domain 2).state = .on && !(s.blockLost 2)

/-- CONFIG_PLANE_MESSAGE (R33): the first delivery and three more may fail; then the domain is reported failed and its
block is lost. A message is logged in the order it was sent (R34). -/
def execConfigPlaneMessage (d : Fin 56) (m : CfgMsg) (airing : Bool) (failedAcks : Nat) (s : State) : Answer :=
  if !(s.planeOpen airing) then .next s
  else if 3 < failedAcks then .next (s.loseDomain d.val)
  else
    let s1 := { s with cells := { s.cells with ring := s.cells.ring ++ [(d.val, m)] } }
    .next (s1.planeAct d.val m)

/-- LINK_UNPARK (R19): what the parked links held is delivered, once and whole. -/
def execLinkUnpark (d : Fin 56) (s : State) : Answer := .next (s.signalReady d.val)

/-! ### Lanes (R31) -/

/-- A lane is spared out after more than 64 corrected errors in one second, or one uncorrectable error. -/
def LaneErr.due (e : LaneErr) : Bool := e.hard || 64 < e.count

/-- A link without a working lane stops the device: both host links go down and train no more. -/
def State.stopDevice (s : State) (fault : Nat) : State :=
  let s1 := { s with cells := { s.cells with linkDead := true } }.keep Obj.fabricFault fault
  let s2 := (s1.fencePort .a 7).dropLink .a
  if s2.dual then (s2.fencePort .b 7).dropLink .b else s2

/-- LANE_SPARE (R31): a lane that is due is spared out and recorded; 0x2800.07 counts links below four lanes; a link with no
lane stops the device and shows in 0x6000.10. -/
def execLaneSpare (x : Fin 12) (y : Fin 10) (port : Fin 4) (lane : Fin 4) (s : State) : Answer :=
  let k := laneKey x.val y.val port.val lane.val
  let out := s.lanesOut x.val y.val port.val
  if !((s.laneErr k).due) ∨ out.testBit lane.val then .next s
  else
    let new := out ||| 2 ^ lane.val
    let s1 := { s with cells := { s.cells with
      laneErrs := Tbl.del s.cells.laneErrs k
      lanesOut := Tbl.put s.cells.lanesOut (routerKey x.val y.val * 6 + port.val) new } }
    let s2 := if out = 0 then s1.bump Obj.lanesSpared else s1
    let s3 := s2.record 0x0103 [x.val, y.val, port.val, lane.val] 0xFFFF (50 + quadrantOf x.val y.val)
    if new = 15 then .next (s3.stopDevice (2 ^ 31 + x.val * 2 ^ 16 + y.val * 2 ^ 8 + port.val)) else .next s3

/-! ### The fabric timeout (R32) -/

/-- A request runs its timeout: no ACCEPT has come, and it does not wait in a parked link (R390). -/
def State.timeoutRuns (s : State) (r : FabricReq) : Bool :=
  let d := nodeDomain r.packet.dstX.val r.packet.dstY.val
  !r.accepted && (s.isolated r.packet.dstX.val r.packet.dstY.val || s.linked d .request)

/-- The requester injects its request again, with the same tag, where its buffer has credit. -/
def State.reissue (s : State) (r : FabricReq) : State :=
  let s1 := { s with cells := { s.cells with
    reqs := s.cells.reqs.map fun (q : FabricReq) =>
      if q.tag = r.tag then { q with reissues := q.reissues + 1, since := s.now } else q } }
  let k := inputKey r.packet.srcX.val r.packet.srcY.val r.port r.packet.vc.code
  if s1.hasCredit k r.packet then (s1.setInput k (s1.input k ++ [{ r.packet with age := 0 }])).settleFabric else s1

/-- The consumer hears of the timeout: a cell fences, a Shuttle channel halts with code 4, a host command ends with Internal
Error. -/
def State.giveUp (s : State) (c : Consumer) : State :=
  match c with
  | .cell c => s.fenceCell c.val 4
  | .shuttle id => s.haltShuttle id 4 (s.shuttle id).head
  | .hostFront h => s.finish h (Cpl.of .internalError)
  | .other => s

/-- FABRIC_TIMEOUT (R32): 0x2800.05 after it was last issued, a request without answer or ACCEPT is issued again, at most 3 times;
then its requester gives up. -/
def execFabricTimeout (tag t : Nat) (s : State) : Answer :=
  let s1 := s.tick t
  match s1.cells.reqs.find? (·.tag = tag) with
  | none => .next s1
  | some r =>
    if !(s1.timeoutRuns r) ∨ s1.now < r.since + 1000 * s1.cfg Obj.fabricTimeout then .next s1
    else if r.reissues < 3 then .next (s1.reissue r)
    else .next ({ s1 with cells := { s1.cells with reqs := s1.cells.reqs.filter (·.tag ≠ tag) } }.giveUp r.consumer)

end Sys2Proof.Machine
end

