-- ==== Sys2Proof/Machine/Words.lean ====
section
/-! DEFINITION. Uncorrectable words by the row of R260 they fall under, and the SRAM scrubber (R257, R264). -/
namespace Sys2Proof.Machine

/-! ### Rows of R260 -/

/-- An uncorrectable word of a read buffer: its unit is read again from flash, once; after that it is lost. -/
def State.bufferWordLost (s : State) (rd : Nat) : State :=
  match Tbl.find s.store.reads rd with
  | none => s
  | some r =>
    if !r.arrived then s
    else if r.reread then s.tagLost rd r
    else s.readAgain rd { r with reread := true, source := 1, data := [], metas := [], steps := ladderStart r.mask .hard }

/-- Every bit of a word of a dirty bitmap reads 1. -/
def State.dirtyWordLost (s : State) (n nsid word : Nat) : State :=
  let key := 4096 * n + (nsid - 1)
  match Tbl.find s.migration.dirty key, s.ns? nsid with
  | some m, some x =>
    let ones := 2 ^ (min 64 (x.units - 64 * word)) - 1
    { s with migration := { s.migration with dirty := Tbl.put s.migration.dirty key (m ||| ones * 2 ^ (64 * word)) } }
  | _, _ => s

/-- What a row of R260 does to its consumer, with the memory code of R264 and the address of the word. -/
def State.wordLost (s : State) (w : BadWord) : State :=
  match w with
  | .cellSram c a => (s.uncorrectable 0 (c.val * 2 ^ 56 + a)).fenceCell c.val 2
  | .mgmtSram a => (s.uncorrectable 1 a).restart 1
  | .keyRam slot a => (s.uncorrectable 2 a).emptySlot slot.val
  | .aonSram a => { s.uncorrectable 3 a with mem := { (s.uncorrectable 3 a).mem with aonLost := true } }
  | .dramMap ch a _ _ => s.uncorrectable (5 + ch.val) a
  | .dramSlot ch a slot lbas => ((s.uncorrectable (5 + ch.val) a).slotWordLost slot (lbas.map (·.val))).settleAll
  | .dramReadBuffer ch a rd => (s.uncorrectable (5 + ch.val) a).bufferWordLost rd
  | .dramDigest ch a nsid zone => (s.uncorrectable (5 + ch.val) a).spoilDigest nsid zone 3
  | .dramJournal ch a => s.uncorrectable (5 + ch.val) a
  | .dramDirty ch a n nsid word => (s.uncorrectable (5 + ch.val) a).dirtyWordLost n.val nsid word

/-- CELL_SRAM_UNCORRECTABLE (R260). -/
def execCellSramUncorrectable (w : BadWord) (s : State) : Answer := .next (s.wordLost w)

/-! ### SRAM scrubber (R257, R264, R266) -/

/-- The row of R260 for a word of an SRAM, by the memory's code. Which slot a key RAM word belongs to is open (log entry
14). -/
def sramRow (mem address : Nat) : BadWord :=
  match mem with
  | 0 => if h : address / 2 ^ 56 < 96 then .cellSram ⟨address / 2 ^ 56, h⟩ (address % 2 ^ 56) else .mgmtSram address
  | 1 => .mgmtSram address
  | 2 => .keyRam (Config.keyRamSlot address) address
  | _ => .aonSram address

/-- A corrected SRAM word: counted by memory, and by cell for cell SRAM, and logged with its first bit. -/
def State.sramFixed (s : State) (mem address bits first : Nat) : State :=
  let s1 := s.corrected mem
    { count := 1, position := first, kind := bits, rank := 0, firstS := 0, address := address }
  if mem = 0 then s1.bump Obj.sramCe 1 (address / 2 ^ 56) else s1

/-- A word with more than three wrong bits is beyond the code: it is found uncorrectable, decoded as another word, or
not seen, and which is open (log entry 1). -/
def State.sramBeyond (s : State) (mem address : Nat) : State :=
  let (n, s1) := s.draw
  if n % 3 = 0 then s1.wordLost (sramRow mem address)
  else if n % 3 = 1 then s1.sramFixed mem address (1 + n / 3 % 2) (n / 6 % 80)
  else s1

/-- SRAM_SCRUB (R257): the word at an address is read; the code corrects two bits of it and detects three. Cell SRAM
addresses have the cell number in bits 63 to 56 (R266), and those of cells 96 and above name no word. -/
def execSramScrub (mem : Fin 4) (address : Nat) (bad : List (Fin 80)) (s : State) : Answer :=
  let bits := bad.eraseDups
  if mem.val = 0 ∧ 96 ≤ address / 2 ^ 56 then .next s
  else if bits.length = 0 then .next s
  else if bits.length ≤ 2 then .next (s.sramFixed mem.val address bits.length ((bits.map (·.val)).foldl min 79))
  else if bits.length = 3 then .next (s.wordLost (sramRow mem.val address))
  else .next (s.sramBeyond mem.val address)

end Sys2Proof.Machine
end

