-- ==== Sys2Proof/Machine/Dispatch.lean ====
section
/-! DEFINITION. Which meaning each command has: one arm per constructor, in the order of the opcode table. -/
namespace Sys2Proof.Machine

/-- The effect of a command on everything but the queue. -/
def exec (i : Instr) (s : State) : Host.Outcome State Fault Refusal :=
  match i with
  | .porstRelease e => Sys2Proof.Machine.execPorstRelease e s
  | .porstAssert lowNs => Sys2Proof.Machine.execPorstAssert lowNs s
  | .brownOut => Sys2Proof.Machine.execBrownOut s
  | .validBitGranuleFill => Sys2Proof.Machine.execValidBitGranuleFill s
  | .workItemPost w => Sys2Proof.Machine.execWorkItemPost w s
  | .workItemRepost p tag => Sys2Proof.Machine.execWorkItemRepost p tag s
  | .cellWorkTake c => Sys2Proof.Machine.execCellWorkTake c s
  | .workItemResult c p tag ok => Sys2Proof.Machine.execWorkItemResult c p tag ok s
  | .sequencerWatchdogExpiry c => Sys2Proof.Machine.execSequencerWatchdogExpiry c s
  | .cellSramUncorrectable w => Sys2Proof.Machine.execCellSramUncorrectable w s
  | .linkUnpark d => Sys2Proof.Machine.execLinkUnpark d s
  | .fabricPacket x y inPort p errs => Sys2Proof.Machine.execFabricPacket x y inPort p errs s
  | .laneSpare x y port lane => Sys2Proof.Machine.execLaneSpare x y port lane s
  | .fabricAccept tag => Sys2Proof.Machine.execFabricAccept tag s
  | .fabricTimeout tag t => Sys2Proof.Machine.execFabricTimeout tag t s
  | .configPlaneMessage d m airing failedAcks => Sys2Proof.Machine.execConfigPlaneMessage d m airing failedAcks s
  | .cellDrained c => Sys2Proof.Machine.execCellDrained c s
  | .perstAssert p => Sys2Proof.Machine.execPerstAssert p s
  | .hotReset p => Sys2Proof.Machine.execHotReset p s
  | .linkDown p t => Sys2Proof.Machine.execLinkDown p t s
  | .linkTrained p rate width flit laneRev polInv => Sys2Proof.Machine.execLinkTrained p rate width flit laneRev polInv s
  | .functionLevelResetVf n => Sys2Proof.Machine.execFunctionLevelResetVf n s
  | .functionLevelResetPf p => Sys2Proof.Machine.execFunctionLevelResetPf p s
  | .nvmSubsystemReset => Sys2Proof.Machine.execNvmSubsystemReset s
  | .fenceComplete f => Sys2Proof.Machine.execFenceComplete f s
  | .vfEnableSet p => Sys2Proof.Machine.execVfEnableSet p s
  | .vfEnableClear p => Sys2Proof.Machine.execVfEnableClear p s
  | .numVfsWrite p n => Sys2Proof.Machine.execNumVfsWrite p n s
  | .ccEnSet f wrr mps asqs acqs asq acq => Sys2Proof.Machine.execCcEnSet f wrr mps asqs acqs asq acq s
  | .ccEnClearInstance n => Sys2Proof.Machine.execCcEnClearInstance n s
  | .ccEnClearManager p => Sys2Proof.Machine.execCcEnClearManager p s
  | .secondaryOnline h cntlid rt nr => Sys2Proof.Machine.execSecondaryOnline h cntlid rt nr s
  | .secondaryOffline h cntlid rt nr => Sys2Proof.Machine.execSecondaryOffline h cntlid rt nr s
  | .secondaryAssign h cntlid rt nr => Sys2Proof.Machine.execSecondaryAssign h cntlid rt nr s
  | .primaryFlexibleAllocation h rt nr => Sys2Proof.Machine.execPrimaryFlexibleAllocation h rt nr s
  | .ownerTakeover acc nsid t => Sys2Proof.Machine.execOwnerTakeover acc nsid t s
  | .maxRateWrite acc rate => Sys2Proof.Machine.execMaxRateWrite acc rate s
  | .createIoCompletionQueue h a => Sys2Proof.Machine.execCreateIoCompletionQueue h a s
  | .createIoSubmissionQueue h a => Sys2Proof.Machine.execCreateIoSubmissionQueue h a s
  | .deleteIoCompletionQueue h qid => Sys2Proof.Machine.execDeleteIoCompletionQueue h qid s
  | .deleteIoSubmissionQueue h qid => Sys2Proof.Machine.execDeleteIoSubmissionQueue h qid s
  | .sqTailDoorbell f qid value => Sys2Proof.Machine.execSqTailDoorbell f qid value s
  | .cqHeadDoorbell f qid value => Sys2Proof.Machine.execCqHeadDoorbell f qid value s
  | .commandFetch entries => Sys2Proof.Machine.execCommandFetch entries s
  | .overlapEntryGrant => Sys2Proof.Machine.execOverlapEntryGrant s
  | .completionPost h => Sys2Proof.Machine.execCompletionPost h s
  | .waitingEntryPost f cqid => Sys2Proof.Machine.execWaitingEntryPost f cqid s
  | .summaryLineWrite f => Sys2Proof.Machine.execSummaryLineWrite f s
  | .instanceSummaryWrite p upper => Sys2Proof.Machine.execInstanceSummaryWrite p upper s
  | .flush h nsid => Sys2Proof.Machine.execFlush h nsid s
  | .write h a => Sys2Proof.Machine.execWrite h a s
  | .read h a => Sys2Proof.Machine.execRead h a s
  | .writeUncorrectable h r => Sys2Proof.Machine.execWriteUncorrectable h r s
  | .compare h a => Sys2Proof.Machine.execCompare h a s
  | .writeZeroes h r deac => Sys2Proof.Machine.execWriteZeroes h r deac s
  | .datasetManagement h nsid deallocate ranges => Sys2Proof.Machine.execDatasetManagement h nsid deallocate ranges s
  | .verify h r p => Sys2Proof.Machine.execVerify h r p s
  | .copy h a => Sys2Proof.Machine.execCopy h a s
  | .zoneAppend h a => Sys2Proof.Machine.execZoneAppend h a s
  | .reclaimUnitHandleUpdate h nsid pids => Sys2Proof.Machine.execReclaimUnitHandleUpdate h nsid pids s
  | .reclaimUnitHandleStatus h nsid numd => Sys2Proof.Machine.execReclaimUnitHandleStatus h nsid numd s
  | .zoneClose h nsid slba all => Sys2Proof.Machine.execZoneClose h nsid slba all s
  | .zoneFinish h nsid slba all => Sys2Proof.Machine.execZoneFinish h nsid slba all s
  | .zoneOpen h nsid slba all => Sys2Proof.Machine.execZoneOpen h nsid slba all s
  | .zoneReset h nsid slba all => Sys2Proof.Machine.execZoneReset h nsid slba all s
  | .zoneOffline h nsid slba all => Sys2Proof.Machine.execZoneOffline h nsid slba all s
  | .secureReset h nsid slba all => Sys2Proof.Machine.execSecureReset h nsid slba all s
  | .reportZones h nsid slba filter part numd => Sys2Proof.Machine.execReportZones h nsid slba filter part numd s
  | .zoneDigestReport h nsid slba filter part numd => Sys2Proof.Machine.execZoneDigestReport h nsid slba filter part numd s
  | .abort h sqid cid => Sys2Proof.Machine.execAbort h sqid cid s
  | .asynchronousEventRequest h => Sys2Proof.Machine.execAsynchronousEventRequest h s
  | .getLogPage h lid offset nsid numd rae => Sys2Proof.Machine.execGetLogPage h lid offset nsid numd rae s
  | .samplerWindowLog h advance offset numd => Sys2Proof.Machine.execSamplerWindowLog h advance offset numd s
  | .identify h cns nsid cntid csi => Sys2Proof.Machine.execIdentify h cns nsid cntid csi s
  | .getFeatures h fid sel nsid dw11 => Sys2Proof.Machine.execGetFeatures h fid sel nsid dw11 s
  | .setArbitration h sv burst lpw mpw hpw => Sys2Proof.Machine.execSetArbitration h sv burst lpw mpw hpw s
  | .setPowerManagement h sv ps wh => Sys2Proof.Machine.execSetPowerManagement h sv ps wh s
  | .setTemperatureThreshold h sv under kelvin => Sys2Proof.Machine.execSetTemperatureThreshold h sv under kelvin s
  | .setErrorRecovery h sv tler dulbe => Sys2Proof.Machine.execSetErrorRecovery h sv tler dulbe s
  | .setVolatileWriteCache h sv wce => Sys2Proof.Machine.execSetVolatileWriteCache h sv wce s
  | .setNumberOfQueues h sv nsqr ncqr => Sys2Proof.Machine.execSetNumberOfQueues h sv nsqr ncqr s
  | .setInterruptCoalescing h sv dw11 => Sys2Proof.Machine.execSetInterruptCoalescing h sv dw11 s
  | .setInterruptVectorConfiguration h sv iv cd => Sys2Proof.Machine.execSetInterruptVectorConfiguration h sv iv cd s
  | .setWriteAtomicityNormal h sv dn => Sys2Proof.Machine.execSetWriteAtomicityNormal h sv dn s
  | .setAsyncEventConfiguration h sv dw11 => Sys2Proof.Machine.execSetAsyncEventConfiguration h sv dw11 s
  | .setAutonomousPowerStateTransition h sv enable table => Sys2Proof.Machine.execSetAutonomousPowerStateTransition h sv enable table s
  | .setTimestamp h sv ms => Sys2Proof.Machine.execSetTimestamp h sv ms s
  | .setFdp h sv enable config => Sys2Proof.Machine.execSetFdp h sv enable config s
  | .setFdpEvents h sv enable types => Sys2Proof.Machine.execSetFdpEvents h sv enable types s
  | .setCompletionSummaryLine h sv en address delay => Sys2Proof.Machine.execSetCompletionSummaryLine h sv en address delay s
  | .setInstanceSummary h sv en address delay => Sys2Proof.Machine.execSetInstanceSummary h sv en address delay s
  | .setSecureDiscard h sv nsid en => Sys2Proof.Machine.execSetSecureDiscard h sv nsid en s
  | .namespaceCreate h a => Sys2Proof.Machine.execNamespaceCreate h a s
  | .namespaceDelete h nsid => Sys2Proof.Machine.execNamespaceDelete h nsid s
  | .namespaceAttach h nsid ctrls => Sys2Proof.Machine.execNamespaceAttach h nsid ctrls s
  | .namespaceDetach h nsid ctrls => Sys2Proof.Machine.execNamespaceDetach h nsid ctrls s
  | .formatNvm h nsid flbas dps => Sys2Proof.Machine.execFormatNvm h nsid flbas dps s
  | .firmwareImageDownload h offset bytes header => Sys2Proof.Machine.execFirmwareImageDownload h offset bytes header s
  | .firmwareCommitReplace h slot c => Sys2Proof.Machine.execFirmwareCommitReplace h slot c s
  | .firmwareCommitReplaceActivateReset h slot c => Sys2Proof.Machine.execFirmwareCommitReplaceActivateReset h slot c s
  | .firmwareCommitActivateReset h slot c => Sys2Proof.Machine.execFirmwareCommitActivateReset h slot c s
  | .firmwareCommitActivateNow h slot c => Sys2Proof.Machine.execFirmwareCommitActivateNow h slot c s
  | .imageSwitch => Sys2Proof.Machine.execImageSwitch s
  | .deviceSelfTestShort h nsid => Sys2Proof.Machine.execDeviceSelfTestShort h nsid s
  | .deviceSelfTestExtended h nsid => Sys2Proof.Machine.execDeviceSelfTestExtended h nsid s
  | .deviceSelfTestAbort h => Sys2Proof.Machine.execDeviceSelfTestAbort h s
  | .selfTestStep segmentDone failed samples cellFail halt => Sys2Proof.Machine.execSelfTestStep segmentDone failed samples cellFail halt s
  | .sanitizeExitFailureMode h => Sys2Proof.Machine.execSanitizeExitFailureMode h s
  | .sanitizeBlockErase h freezeAbort ndas emvs ause => Sys2Proof.Machine.execSanitizeBlockErase h freezeAbort ndas emvs ause s
  | .sanitizeCryptoErase h freezeAbort ndas emvs ause => Sys2Proof.Machine.execSanitizeCryptoErase h freezeAbort ndas emvs ause s
  | .sanitizeEnd failed => Sys2Proof.Machine.execSanitizeEnd failed s
  | .dictionaryRead h index sub inForce count buflen => Sys2Proof.Machine.execDictionaryRead h index sub inForce count buflen s
  | .dictionaryWrite h len recs cellFails => Sys2Proof.Machine.execDictionaryWrite h len recs cellFails s
  | .commit by' cellFails => Sys2Proof.Machine.execCommit by' cellFails s
  | .discard by' => Sys2Proof.Machine.execDiscard by' s
  | .objectWrite acc r cellFails => Sys2Proof.Machine.execObjectWrite acc r cellFails s
  | .restoreDefaults acc on => Sys2Proof.Machine.execRestoreDefaults acc on s
  | .freezeInstance h n => Sys2Proof.Machine.execFreezeInstance h n s
  | .freezeDrainTimeout n => Sys2Proof.Machine.execFreezeDrainTimeout n s
  | .freezeComplete n => Sys2Proof.Machine.execFreezeComplete n s
  | .saveInstanceState h n => Sys2Proof.Machine.execSaveInstanceState h n s
  | .restoreInstanceState h n => Sys2Proof.Machine.execRestoreInstanceState h n s
  | .resumeInstance h n => Sys2Proof.Machine.execResumeInstance h n s
  | .dirtyEnWrite acc n on => Sys2Proof.Machine.execDirtyEnWrite acc n on s
  | .dirtyBitsRead acc n => Sys2Proof.Machine.execDirtyBitsRead acc n s
  | .framePlannedEnd t late => Sys2Proof.Machine.execFramePlannedEnd t late s
  | .lateWorkHandover t => Sys2Proof.Machine.execLateWorkHandover t s
  | .frameBoundary t => Sys2Proof.Machine.execFrameBoundary t s
  | .chunkAdmit c => Sys2Proof.Machine.execChunkAdmit c s
  | .progAgePromote lun op => Sys2Proof.Machine.execProgAgePromote lun op s
  | .operationIssue t => Sys2Proof.Machine.execOperationIssue t s
  | .operationReady lun ok t => Sys2Proof.Machine.execOperationReady lun ok t s
  | .readyTimeout lun resetReady t => Sys2Proof.Machine.execReadyTimeout lun resetReady t s
  | .channelPhyFault ch => Sys2Proof.Machine.execChannelPhyFault ch s
  | .suspendReported lun suspended t => Sys2Proof.Machine.execSuspendReported lun suspended t s
  | .suspendTimeout lun resetReady t => Sys2Proof.Machine.execSuspendTimeout lun resetReady t s
  | .readAroundReconstruct rd ok payloads => Sys2Proof.Machine.execReadAroundReconstruct rd ok payloads s
  | .contractWindowEnd n measured => Sys2Proof.Machine.execContractWindowEnd n measured s
  | .channelRecentre ch celsius window => Sys2Proof.Machine.execChannelRecentre ch celsius window s
  | .zoneAgeExpiry nsid zone t => Sys2Proof.Machine.execZoneAgeExpiry nsid zone t s
  | .reclaimUnitTimeLimit ruh group t => Sys2Proof.Machine.execReclaimUnitTimeLimit ruh group t s
  | .secureEraseDue lun block ok t => Sys2Proof.Machine.execSecureEraseDue lun block ok t s
  | .mergeWaitExpiry slot t => Sys2Proof.Machine.execMergeWaitExpiry slot t s
  | .unitProgramDone slot => Sys2Proof.Machine.execUnitProgramDone slot s
  | .programFailure slot => Sys2Proof.Machine.execProgramFailure slot s
  | .journalTimerExpiry t => Sys2Proof.Machine.execJournalTimerExpiry t s
  | .journalPageDurable seq => Sys2Proof.Machine.execJournalPageDurable seq s
  | .journalCopyFailure seq copy blockLeft => Sys2Proof.Machine.execJournalCopyFailure seq copy blockLeft s
  | .checkpointPass nsid segment t => Sys2Proof.Machine.execCheckpointPass nsid segment t s
  | .segmentCopyDurable nsid segment => Sys2Proof.Machine.execSegmentCopyDurable nsid segment s
  | .foldStart => Sys2Proof.Machine.execFoldStart s
  | .mangleStart group => Sys2Proof.Machine.execMangleStart group s
  | .targetStripeComplete stripe => Sys2Proof.Machine.execTargetStripeComplete stripe s
  | .targetProgramFailure stripe member => Sys2Proof.Machine.execTargetProgramFailure stripe member s
  | .sourceStripeErase stripe => Sys2Proof.Machine.execSourceStripeErase stripe s
  | .eraseFailure lun block => Sys2Proof.Machine.execEraseFailure lun block s
  | .spareAdd acc count => Sys2Proof.Machine.execSpareAdd acc count s
  | .secureDiscardDue stripe t => Sys2Proof.Machine.execSecureDiscardDue stripe t s
  | .stripeClose stripe => Sys2Proof.Machine.execStripeClose stripe s
  | .memberReplaced stripe member => Sys2Proof.Machine.execMemberReplaced stripe member s
  | .codewordDecode rd cw e => Sys2Proof.Machine.execCodewordDecode rd cw e s
  | .rinseStep lun block failBits leftStep1 t => Sys2Proof.Machine.execRinseStep lun block failBits leftStep1 t s
  | .disturbCountReached lun block => Sys2Proof.Machine.execDisturbCountReached lun block s
  | .fullPassWrite acc on => Sys2Proof.Machine.execFullPassWrite acc on s
  | .sramScrub mem address bad => Sys2Proof.Machine.execSramScrub mem address bad s
  | .logClear acc => Sys2Proof.Machine.execLogClear acc s
  | .dramRequest op errs => Sys2Proof.Machine.execDramRequest op errs s
  | .dramTimeout ch => Sys2Proof.Machine.execDramTimeout ch s
  | .dramRecentre ch rank celsius window retrainOk t => Sys2Proof.Machine.execDramRecentre ch rank celsius window retrainOk t s
  | .refreshDue ch rank t => Sys2Proof.Machine.execRefreshDue ch rank t s
  | .refreshPostponeLimit ch rank t => Sys2Proof.Machine.execRefreshPostponeLimit ch rank t s
  | .mr4Poll ch hot => Sys2Proof.Machine.execMr4Poll ch hot s
  | .dramPatrol ch address errs => Sys2Proof.Machine.execDramPatrol ch address errs s
  | .cipherLockClaim k id => Sys2Proof.Machine.execCipherLockClaim k id s
  | .cipherRequestSteer c id => Sys2Proof.Machine.execCipherRequestSteer c id s
  | .cipherMessageDone k rd tag => Sys2Proof.Machine.execCipherMessageDone k rd tag s
  | .maskReseed k blocks reseeded => Sys2Proof.Machine.execMaskReseed k blocks reseeded s
  | .counterReservationDurable slot => Sys2Proof.Machine.execCounterReservationDurable slot s
  | .keyCacheFill c k firstOk secondOk => Sys2Proof.Machine.execKeyCacheFill c k firstOk secondOk s
  | .keySlotReload slot copyReadable => Sys2Proof.Machine.execKeySlotReload slot copyReadable s
  | .importTransportKek h b => Sys2Proof.Machine.execImportTransportKek h b s
  | .setNamespaceKey h b => Sys2Proof.Machine.execSetNamespaceKey h b s
  | .generateNamespaceKey h nsid => Sys2Proof.Machine.execGenerateNamespaceKey h nsid s
  | .destroyTransportKek h index => Sys2Proof.Machine.execDestroyTransportKek h index s
  | .keyStatusReceive h nsid => Sys2Proof.Machine.execKeyStatusReceive h nsid s
  | .keyPerIoInject h b => Sys2Proof.Machine.execKeyPerIoInject h b s
  | .keyPerIoClear h nsid tag => Sys2Proof.Machine.execKeyPerIoClear h nsid tag s
  | .keyEraseDue slot t => Sys2Proof.Machine.execKeyEraseDue slot t s
  | .digestStart k alg hmac key => Sys2Proof.Machine.execDigestStart k alg hmac key s
  | .digestFeed k bytes => Sys2Proof.Machine.execDigestFeed k bytes s
  | .digestFinish k => Sys2Proof.Machine.execDigestFinish k s
  | .digestRead k => Sys2Proof.Machine.execDigestRead k s
  | .digestCompare k expected len => Sys2Proof.Machine.execDigestCompare k expected len s
  | .digestSave k nsid zone => Sys2Proof.Machine.execDigestSave k nsid zone s
  | .digestRestore k nsid zone saved => Sys2Proof.Machine.execDigestRestore k nsid zone saved s
  | .shuttleTailWrite c v => Sys2Proof.Machine.execShuttleTailWrite c v s
  | .shuttleEnable c ringBase recordAddr ringLog2 => Sys2Proof.Machine.execShuttleEnable c ringBase recordAddr ringLog2 s
  | .shuttleDisable c => Sys2Proof.Machine.execShuttleDisable c s
  | .shuttlePauseWrite c on => Sys2Proof.Machine.execShuttlePauseWrite c on s
  | .shuttleClear c => Sys2Proof.Machine.execShuttleClear c s
  | .descriptorRead c d e => Sys2Proof.Machine.execDescriptorRead c d e s
  | .descriptorDone c bytes => Sys2Proof.Machine.execDescriptorDone c bytes s
  | .shuttlePaused c bytes => Sys2Proof.Machine.execShuttlePaused c bytes s
  | .shuttleHalt c code bytes => Sys2Proof.Machine.execShuttleHalt c code bytes s
  | .bufferAllocate pool h agent linkOk => Sys2Proof.Machine.execBufferAllocate pool h agent linkOk s
  | .referenceIncrement pool buf f => Sys2Proof.Machine.execReferenceIncrement pool buf f s
  | .referenceDecrement pool buf f fence => Sys2Proof.Machine.execReferenceDecrement pool buf f fence s
  | .bufferWaitServed pool => Sys2Proof.Machine.execBufferWaitServed pool s
  | .domainStopRequest d => Sys2Proof.Machine.execDomainStopRequest d s
  | .domainStopped d => Sys2Proof.Machine.execDomainStopped d s
  | .domainRefusal d => Sys2Proof.Machine.execDomainRefusal d s
  | .sleepEntryStart t => Sys2Proof.Machine.execSleepEntryStart t s
  | .refusalHoldExpiry t => Sys2Proof.Machine.execRefusalHoldExpiry t s
  | .apstIdleExpiry p t => Sys2Proof.Machine.execApstIdleExpiry p t s
  | .pcieActivityWake p ranks => Sys2Proof.Machine.execPcieActivityWake p ranks s
  | .wakeFrame magicOk serial ranks => Sys2Proof.Machine.execWakeFrame magicOk serial ranks s
  | .managementFrameWake d => Sys2Proof.Machine.execManagementFrameWake d s
  | .airingStep t skipped failBits readable => Sys2Proof.Machine.execAiringStep t skipped failBits readable s
  | .samplerBufferWake ranks => Sys2Proof.Machine.execSamplerBufferWake ranks s
  | .pwrfailAssert lowUs t => Sys2Proof.Machine.execPwrfailAssert lowUs t s
  | .dumpComplete us => Sys2Proof.Machine.execDumpComplete us s
  | .pwrfailReturn => Sys2Proof.Machine.execPwrfailReturn s
  | .sensorReading t temps diode tenths => Sys2Proof.Machine.execSensorReading t temps diode tenths s
  | .holdupSenseSample mv => Sys2Proof.Machine.execHoldupSenseSample mv s
  | .pwrfailClassify c t => Sys2Proof.Machine.execPwrfailClassify c t s
  | .recordEnter code subject domain params => Sys2Proof.Machine.execRecordEnter code subject domain params s
  | .rateBucketRefill code t => Sys2Proof.Machine.execRateBucketRefill code t s
  | .samplerFlush => Sys2Proof.Machine.execSamplerFlush s
  | .samplerFlushTimer t => Sys2Proof.Machine.execSamplerFlushTimer t s
  | .samplerFlushDone fails => Sys2Proof.Machine.execSamplerFlushDone fails s
  | .windowSlotRead acc slot => Sys2Proof.Machine.execWindowSlotRead acc slot s
  | .cursorAdvance acc => Sys2Proof.Machine.execCursorAdvance acc s
  | .samplerClear acc => Sys2Proof.Machine.execSamplerClear acc s
  | .staingDatagram d => Sys2Proof.Machine.execStaingDatagram d s
  | .staingRead seq reqs => Sys2Proof.Machine.execStaingRead seq reqs s
  | .staingWrite seq recs cellFails => Sys2Proof.Machine.execStaingWrite seq recs cellFails s
  | .staingEcho seq => Sys2Proof.Machine.execStaingEcho seq s
  | .neighborSolicitation f => Sys2Proof.Machine.execNeighborSolicitation f s
  | .echoRequest f => Sys2Proof.Machine.execEchoRequest f s
  | .pairDiagnosis st wire vFault reversed t => Sys2Proof.Machine.execPairDiagnosis st wire vFault reversed t s
  | .loopMeasurement t presFwd presRev sealFwd sealRev => Sys2Proof.Machine.execLoopMeasurement t presFwd presRev sealFwd sealRev s
  | .presenceWindowExpiry t => Sys2Proof.Machine.execPresenceWindowExpiry t s
  | .factoryEntry h => Sys2Proof.Machine.execFactoryEntry h s
  | .rootKeyReset h => Sys2Proof.Machine.execRootKeyReset h s
  | .debugChallenge h => Sys2Proof.Machine.execDebugChallenge h s
  | .debugUnlock h k => Sys2Proof.Machine.execDebugUnlock h k s
  | .managementKeyProvisioning h b => Sys2Proof.Machine.execManagementKeyProvisioning h b s
  | .entropySample bit => Sys2Proof.Machine.execEntropySample bit s
  | .drbgReseed ok => Sys2Proof.Machine.execDrbgReseed ok s
  | .hostMemoryReadCompletion h e => Sys2Proof.Machine.execHostMemoryReadCompletion h e s
  | .completionTimeout h => Sys2Proof.Machine.execCompletionTimeout h s
  | .shutdownNotification f => Sys2Proof.Machine.execShutdownNotification f s
  | .invalidCommandOpcode h opcode action => Sys2Proof.Machine.execInvalidCommandOpcode h opcode action s

end Sys2Proof.Machine
end

