-- ==== Sys2Proof/Safety.lean ====
section
/-! DEFINITION. What a safe step is, and the terms the statements of this row use. -/
namespace Sys2Proof.Machine

/-- Where a packet at node (x, y) is after n hops (R26). -/
def afterHops : Nat → Nat → Nat → Packet → Nat × Nat
  | 0, x, y, _ => (x, y)
  | n + 1, x, y, p => afterHops n (nextNode x y (outPort x y p)).1 (nextNode x y (outPort x y p)).2 p

/-- A reset event of a row of R77 has fenced a function that existed and was in no fence: it is in FENCING, its generation
has risen by one, its summary line and its event requests are gone. -/
def FencedBy (s t : State) (f : Func) (row : Nat) : Prop :=
  s.present f = true → (s.fn f).fence = none →
    (t.fn f).state = .fencing ∧ (t.fn f).gen = (s.fn f).gen + 1 ∧ (t.fn f).line = none ∧ (t.fn f).aers = [] ∧
      ∃ p, (t.fn f).fence = some p ∧ p.row = row

/-- An admin command of any function begins, and nothing that ends every admin command ends it: it is not one of a fused pair
(R104), no gate is closed (R459, R474), it came in the admin queue (R101) and has no SGL (R112). -/
def Starts (s : State) (h : Hdr) (a : State) : Prop :=
  s.begin h = some a ∧ a.fusedGate h = none ∧ a.adminGate = none ∧ a.adminEntry h = none

/-- The same of a manager function. -/
def AdminStarts (s : State) (h : Hdr) (a : State) : Prop := Starts s h a ∧ h.fn.isManager = true

/-- The PRPs of an admin command are aligned, however long its data buffer is (R114). -/
def Buffers (a : State) (h : Hdr) : Prop := ∀ n, a.adminBuffer h n = none

/-- An I/O command begins, and nothing that ends every I/O command ends it (R101, R104, R459, R468, R474). -/
def IoStarts (s : State) (h : Hdr) (a : State) : Prop := s.begin h = some a ∧ a.fusedGate h = none ∧ a.ioEntry h = none

/-- A command with the runs of units it modifies and looks at goes on at once: nothing waits for entries, it takes its own,
and no earlier command of its queue meets it (R107, R108). `b` is the state its effect starts from. -/
def Launches (a : State) (h : Hdr) (mods looks : List (Nat × Nat × Nat)) (b : State) : Prop :=
  let s := a.modCtx h fun c => { c with mods := mods, looks := looks }
  (mods = [] ∨ (s.entryWaiter = false ∧ s.entriesFit h.fn (entriesOf mods) = true)) ∧
    b = (s.modCtx h fun c => { c with holds := decide (mods ≠ []), cmd := none, wait := .none }) ∧
    (b.ctx? h).elim false b.ordered = false

/-- The command of h has ended in t with a status and Dword 0. -/
def Ended (t : State) (h : Hdr) (st : Status) (dw0 : Nat) : Prop := ∃ d, t.ctx? h = some d ∧ d.done = some ⟨st, dw0, 0⟩

/-- From a to t a function has taken a feature value v under a key, saved where sv asks for it, and the command of h has
ended with Success; no other value, function or part of the state has changed. -/
def StoresFeature (a t : State) (h : Hdr) (sv : Bool) (k v : Nat) : Prop :=
  Tbl.find (t.fn h.fn).feats k = some v ∧ (∀ j, j ≠ k → Tbl.find (t.fn h.fn).feats j = Tbl.find (a.fn h.fn).feats j) ∧
    (if sv then Tbl.find (t.fn h.fn).savedFeats k = some v else (t.fn h.fn).savedFeats = (a.fn h.fn).savedFeats) ∧
    (∀ g, g ≠ h.fn → t.fn g = a.fn g) ∧ t = { a with host := t.host } ∧ Ended t h ⟨0, 0⟩ 0

/-- An entry into sleep stands at step k of R398, and nothing ends it. -/
def EntryAt (s : State) (k : Nat) : Prop :=
  s.power.entry = some k ∧ s.modes &&& sleepDefer = 0 ∧ s.quiet = true ∧ 3 ≤ s.power.target

/-- A mode change that a command begins finds room for its record, and none waits before it (R421). -/
def HasRoom (s : State) : Prop := s.pendingRecs < 1024 ∧ s.sampler.waiting = []

/-- From s the device has woken with a code (R400, R402, R403), up to the frame that opens next: u is in SERVICE in the most
recent operational state, every domain is ON, and the request for sleep is spent. -/
def WokenBy (s u : State) (code : Nat) : Prop :=
  u.cfg Obj.lastWake = code ∧ u.power.current = s.power.operational ∧ u.power.target = s.power.operational ∧
    u.power.entry = none ∧ u.power.retryAt = none ∧ (∀ d, (u.domain d).state = .on) ∧
    (HasRoom s → u.has Mode.service = true ∧ u.has Mode.idle = false ∧ u.has Mode.airing = false)

/-- Objects whose write does more than hold a value, or has a refusal of its own. -/
def actingRows : List ObjRow :=
  [Obj.commit, Obj.vfSplitA, Obj.vqSplitA, Obj.raMaxWidth, Obj.poolBuf, Obj.poolPlace, Obj.poolCount, Obj.ownerTakeover,
   Obj.spareAdd, Obj.dirtyEn, Obj.sealBroken, Obj.maxRate, Obj.ratePerS, Obj.rateBurst, Obj.writeProtect, Obj.fullPass,
   Obj.logClear, Obj.samplerClear, Obj.cursor, Obj.advance, Obj.sealPolicy, Obj.arbAuto]

/-- A write of a record by an accessor with the right, of the object's own type (R431, R433): the row and its offsets. -/
def MayWrite (s : State) (acc : Accessor) (d : DictRec) (r : ObjRow) : Prop :=
  Obj.rowOf (256 * d.index + d.sub) = some r ∧ d.sub ≠ 0 ∧ diagnostic d.index = false ∧ r.app ≠ .fixed ∧
    s.may acc r d.index Right.canWrite = true ∧ ¬ (d.index = 0x20A0 ∧ d.sub ≤ 3) ∧ typeOk r d = true

/-- A command of a manager function or of an instance begins under Security Protocol F1h, and no gate closes it. -/
def PresentOp (s : State) (h : Hdr) (a : State) : Prop := AdminStarts s h a ∧ h.sqid = 0

/-- Both loops read as they were reported, so that nothing of them changes (R461). -/
def LoopSt.steady (x : LoopSt) (c : LoopState) : Prop := x.seen = c ∧ x.shown = c

/-- What every step keeps: the canonical form of every memory that the host addresses (DRAM, the windows of R307), and a
clock that is not behind the boot. -/
def Kept (s : State) : Prop :=
  Memory.wf s.mem.dram = true ∧ (∀ e ∈ s.engines.windows, Memory.wf e.2 = true) ∧ s.bootAt ≤ s.now

end Sys2Proof.Machine
end

