-- ==== Sys2Proof/WellFormed.lean ====
section
/-! DEFINITION. Which commands are well formed: every operand fits the field that carries it on the wire, and a list
has as many entries as its count says. A meaning runs on any operand; this says which ones a sender can spell. -/
namespace Sys2Proof

/-- A 16-bit field. -/
def u16 (n : Nat) : Bool := n < 2 ^ 16

/-- A 32-bit field. -/
def u32 (n : Nat) : Bool := n < 2 ^ 32

/-- A 64-bit field. -/
def u64 (n : Nat) : Bool := n < 2 ^ 64

/-- A command identifier has 16 bits, and so has a submission queue identifier (R83). -/
def Hdr.wf (h : Hdr) : Bool := u16 h.cid && u16 h.sqid

/-- NSID of 32 bits, SLBA of 64 and NLB, 0-based, of 16. -/
def Range.wf (r : Range) : Bool := u32 r.nsid && u64 r.slba && u16 r.nlb

/-- A Dataset Management range carries a length of 32 bits, which counts LBAs. -/
def Range.wf32 (r : Range) : Bool := u32 r.nsid && u64 r.slba && u32 r.nlb

/-- One data and one metadata value for each LBA. -/
def WriteArgs.wf (a : WriteArgs) : Bool :=
  a.range.wf && a.data.length = a.range.nlb + 1 && a.metas.length = a.range.nlb + 1 && a.dtype < 16 && u16 a.dspec
    && a.keyTag.all u16

/-- The host data of a Compare has an entry for each LBA; other commands carry none. -/
def ReadArgs.wf (a : ReadArgs) : Bool :=
  a.range.wf && (a.expect = [] || a.expect.length = a.range.nlb + 1)
    && (a.expectMetas = [] || a.expectMetas.length = a.range.nlb + 1) && a.keyTag.all u16

/-- One to 256 source ranges (NR is 8 bits, 0-based), each of 16-bit NLB. -/
def CopyArgs.wf (a : CopyArgs) : Bool :=
  u32 a.nsid && u64 a.sdlba && a.format < 16 && 1 ≤ a.ranges.length && a.ranges.length ≤ 256
    && a.ranges.all fun r => u64 r.slba && u16 r.nlb

/-- The command identifier of a fetched entry has 16 bits (R83). -/
def Sqe.wf (q : Sqe) : Bool := u16 q.cid

def QueueArgs.wf (a : QueueArgs) : Bool :=
  u16 a.qid && u16 a.qsize && u64 a.prp1 && u16 a.cqid && a.qprio < 4

/-- Fields of the creation word (R153). -/
def CreationWord.wf (w : CreationWord) : Bool :=
  u16 w.maxOpen && u16 w.maxActive && w.stripeData < 64 && w.cipherMode < 4 && w.blockVer < 256

def NsArgs.wf (a : NsArgs) : Bool :=
  a.csi < 256 && u64 a.nsze && u64 a.ncap && a.flbas < 256 && a.dps < 256 && a.handles.length ≤ 128 && a.handles.all u16
    && a.word.wf

def KeyBlob.wf (b : KeyBlob) : Bool :=
  u16 b.format && b.kind < 256 && b.wrap < 256 && u32 b.target && u16 b.keyTag && u16 b.length

def ImageHeader.wf (x : ImageHeader) : Bool :=
  u32 x.magic && x.format < 256 && u16 x.part && x.svn < 128 && x.major < 256 && x.minor < 256 && u16 x.build
    && u64 x.version && u32 x.bodyLen && u32 x.imageLen && x.flags < 256

def DictRec.wf (r : DictRec) : Bool := u16 r.index && r.sub < 256 && r.type < 256 && u16 r.length && r.value < 2 ^ (8 * r.length)

def ReadReq.wf (r : ReadReq) : Bool := u16 r.index && r.sub < 256

/-- A saved context holds eight chaining words and less than one block. -/
def SavedDigest.wf (d : SavedDigest) : Bool := d.h.length = 8 && d.block.length ≤ 64

/-- A DRAM request moves 1 to 128 bytes that lie in one burst (R328). -/
def DramOp.wf : DramOp → Bool
  | .read a len => 1 ≤ len && a % 128 + len ≤ 128
  | .write a bytes => 1 ≤ bytes.length && a % 128 + bytes.length ≤ 128

def ShuttleDesc.wf (d : ShuttleDesc) : Bool :=
  d.srcSpace < 4 && d.dstSpace < 4 && u32 d.count && u32 d.tag && u64 d.src && u64 d.dst

def Datagram.wf (d : Datagram) : Bool :=
  u16 d.udpPort && u16 d.payloadLen && u16 d.magic && d.version < 256 && d.kind < 256 && d.op < 256 && u16 d.length
    && u64 d.seq && u64 d.arg

/-- The host queue entry a command belongs to, for the rows that are host commands. -/
def Instr.hdr? : Instr → Option Hdr
  | .porstRelease _ => none
  | .porstAssert _ => none
  | .brownOut => none
  | .validBitGranuleFill => none
  | .workItemPost _ => none
  | .workItemRepost _ _ => none
  | .cellWorkTake _ => none
  | .workItemResult _ _ _ _ => none
  | .sequencerWatchdogExpiry _ => none
  | .cellSramUncorrectable _ => none
  | .linkUnpark _ => none
  | .fabricPacket _ _ _ _ _ => none
  | .laneSpare _ _ _ _ => none
  | .fabricAccept _ => none
  | .fabricTimeout _ _ => none
  | .configPlaneMessage _ _ _ _ => none
  | .cellDrained _ => none
  | .perstAssert _ => none
  | .hotReset _ => none
  | .linkDown _ _ => none
  | .linkTrained _ _ _ _ _ _ => none
  | .functionLevelResetVf _ => none
  | .functionLevelResetPf _ => none
  | .nvmSubsystemReset => none
  | .fenceComplete _ => none
  | .vfEnableSet _ => none
  | .vfEnableClear _ => none
  | .numVfsWrite _ _ => none
  | .ccEnSet _ _ _ _ _ _ _ => none
  | .ccEnClearInstance _ => none
  | .ccEnClearManager _ => none
  | .secondaryOnline h _ _ _ => some h
  | .secondaryOffline h _ _ _ => some h
  | .secondaryAssign h _ _ _ => some h
  | .primaryFlexibleAllocation h _ _ => some h
  | .ownerTakeover _ _ _ => none
  | .maxRateWrite _ _ => none
  | .createIoCompletionQueue h _ => some h
  | .createIoSubmissionQueue h _ => some h
  | .deleteIoCompletionQueue h _ => some h
  | .deleteIoSubmissionQueue h _ => some h
  | .sqTailDoorbell _ _ _ => none
  | .cqHeadDoorbell _ _ _ => none
  | .commandFetch _ => none
  | .overlapEntryGrant => none
  | .completionPost _ => none
  | .waitingEntryPost _ _ => none
  | .summaryLineWrite _ => none
  | .instanceSummaryWrite _ _ => none
  | .flush h _ => some h
  | .write h _ => some h
  | .read h _ => some h
  | .writeUncorrectable h _ => some h
  | .compare h _ => some h
  | .writeZeroes h _ _ => some h
  | .datasetManagement h _ _ _ => some h
  | .verify h _ _ => some h
  | .copy h _ => some h
  | .zoneAppend h _ => some h
  | .reclaimUnitHandleUpdate h _ _ => some h
  | .reclaimUnitHandleStatus h _ _ => some h
  | .zoneClose h _ _ _ => some h
  | .zoneFinish h _ _ _ => some h
  | .zoneOpen h _ _ _ => some h
  | .zoneReset h _ _ _ => some h
  | .zoneOffline h _ _ _ => some h
  | .secureReset h _ _ _ => some h
  | .reportZones h _ _ _ _ _ => some h
  | .zoneDigestReport h _ _ _ _ _ => some h
  | .abort h _ _ => some h
  | .asynchronousEventRequest h => some h
  | .getLogPage h _ _ _ _ _ => some h
  | .samplerWindowLog h _ _ _ => some h
  | .identify h _ _ _ _ => some h
  | .getFeatures h _ _ _ _ => some h
  | .setArbitration h _ _ _ _ _ => some h
  | .setPowerManagement h _ _ _ => some h
  | .setTemperatureThreshold h _ _ _ => some h
  | .setErrorRecovery h _ _ _ => some h
  | .setVolatileWriteCache h _ _ => some h
  | .setNumberOfQueues h _ _ _ => some h
  | .setInterruptCoalescing h _ _ => some h
  | .setInterruptVectorConfiguration h _ _ _ => some h
  | .setWriteAtomicityNormal h _ _ => some h
  | .setAsyncEventConfiguration h _ _ => some h
  | .setAutonomousPowerStateTransition h _ _ _ => some h
  | .setTimestamp h _ _ => some h
  | .setFdp h _ _ _ => some h
  | .setFdpEvents h _ _ _ => some h
  | .setCompletionSummaryLine h _ _ _ _ => some h
  | .setInstanceSummary h _ _ _ _ => some h
  | .setSecureDiscard h _ _ _ => some h
  | .namespaceCreate h _ => some h
  | .namespaceDelete h _ => some h
  | .namespaceAttach h _ _ => some h
  | .namespaceDetach h _ _ => some h
  | .formatNvm h _ _ _ => some h
  | .firmwareImageDownload h _ _ _ => some h
  | .firmwareCommitReplace h _ _ => some h
  | .firmwareCommitReplaceActivateReset h _ _ => some h
  | .firmwareCommitActivateReset h _ _ => some h
  | .firmwareCommitActivateNow h _ _ => some h
  | .imageSwitch => none
  | .deviceSelfTestShort h _ => some h
  | .deviceSelfTestExtended h _ => some h
  | .deviceSelfTestAbort h => some h
  | .selfTestStep _ _ _ _ _ => none
  | .sanitizeExitFailureMode h => some h
  | .sanitizeBlockErase h _ _ _ _ => some h
  | .sanitizeCryptoErase h _ _ _ _ => some h
  | .sanitizeEnd _ => none
  | .dictionaryRead h _ _ _ _ _ => some h
  | .dictionaryWrite h _ _ _ => some h
  | .commit _ _ => none
  | .discard _ => none
  | .objectWrite _ _ _ => none
  | .restoreDefaults _ _ => none
  | .freezeInstance h _ => some h
  | .freezeDrainTimeout _ => none
  | .freezeComplete _ => none
  | .saveInstanceState h _ => some h
  | .restoreInstanceState h _ => some h
  | .resumeInstance h _ => some h
  | .dirtyEnWrite _ _ _ => none
  | .dirtyBitsRead _ _ => none
  | .framePlannedEnd _ _ => none
  | .lateWorkHandover _ => none
  | .frameBoundary _ => none
  | .chunkAdmit _ => none
  | .progAgePromote _ _ => none
  | .operationIssue _ => none
  | .operationReady _ _ _ => none
  | .readyTimeout _ _ _ => none
  | .channelPhyFault _ => none
  | .suspendReported _ _ _ => none
  | .suspendTimeout _ _ _ => none
  | .readAroundReconstruct _ _ _ => none
  | .contractWindowEnd _ _ => none
  | .channelRecentre _ _ _ => none
  | .zoneAgeExpiry _ _ _ => none
  | .reclaimUnitTimeLimit _ _ _ => none
  | .secureEraseDue _ _ _ _ => none
  | .mergeWaitExpiry _ _ => none
  | .unitProgramDone _ => none
  | .programFailure _ => none
  | .journalTimerExpiry _ => none
  | .journalPageDurable _ => none
  | .journalCopyFailure _ _ _ => none
  | .checkpointPass _ _ _ => none
  | .segmentCopyDurable _ _ => none
  | .foldStart => none
  | .mangleStart _ => none
  | .targetStripeComplete _ => none
  | .targetProgramFailure _ _ => none
  | .sourceStripeErase _ => none
  | .eraseFailure _ _ => none
  | .spareAdd _ _ => none
  | .secureDiscardDue _ _ => none
  | .stripeClose _ => none
  | .memberReplaced _ _ => none
  | .codewordDecode _ _ _ => none
  | .rinseStep _ _ _ _ _ => none
  | .disturbCountReached _ _ => none
  | .fullPassWrite _ _ => none
  | .sramScrub _ _ _ => none
  | .logClear _ => none
  | .dramRequest _ _ => none
  | .dramTimeout _ => none
  | .dramRecentre _ _ _ _ _ _ => none
  | .refreshDue _ _ _ => none
  | .refreshPostponeLimit _ _ _ => none
  | .mr4Poll _ _ => none
  | .dramPatrol _ _ _ => none
  | .cipherLockClaim _ _ => none
  | .cipherRequestSteer _ _ => none
  | .cipherMessageDone _ _ _ => none
  | .maskReseed _ _ _ => none
  | .counterReservationDurable _ => none
  | .keyCacheFill _ _ _ _ => none
  | .keySlotReload _ _ => none
  | .importTransportKek h _ => some h
  | .setNamespaceKey h _ => some h
  | .generateNamespaceKey h _ => some h
  | .destroyTransportKek h _ => some h
  | .keyStatusReceive h _ => some h
  | .keyPerIoInject h _ => some h
  | .keyPerIoClear h _ _ => some h
  | .keyEraseDue _ _ => none
  | .digestStart _ _ _ _ => none
  | .digestFeed _ _ => none
  | .digestFinish _ => none
  | .digestRead _ => none
  | .digestCompare _ _ _ => none
  | .digestSave _ _ _ => none
  | .digestRestore _ _ _ _ => none
  | .shuttleTailWrite _ _ => none
  | .shuttleEnable _ _ _ _ => none
  | .shuttleDisable _ => none
  | .shuttlePauseWrite _ _ => none
  | .shuttleClear _ => none
  | .descriptorRead _ _ _ => none
  | .descriptorDone _ _ => none
  | .shuttlePaused _ _ => none
  | .shuttleHalt _ _ _ => none
  | .bufferAllocate _ _ _ _ => none
  | .referenceIncrement _ _ _ => none
  | .referenceDecrement _ _ _ _ => none
  | .bufferWaitServed _ => none
  | .domainStopRequest _ => none
  | .domainStopped _ => none
  | .domainRefusal _ => none
  | .sleepEntryStart _ => none
  | .refusalHoldExpiry _ => none
  | .apstIdleExpiry _ _ => none
  | .pcieActivityWake _ _ => none
  | .wakeFrame _ _ _ => none
  | .managementFrameWake _ => none
  | .airingStep _ _ _ _ => none
  | .samplerBufferWake _ => none
  | .pwrfailAssert _ _ => none
  | .dumpComplete _ => none
  | .pwrfailReturn => none
  | .sensorReading _ _ _ _ => none
  | .holdupSenseSample _ => none
  | .pwrfailClassify _ _ => none
  | .recordEnter _ _ _ _ => none
  | .rateBucketRefill _ _ => none
  | .samplerFlush => none
  | .samplerFlushTimer _ => none
  | .samplerFlushDone _ => none
  | .windowSlotRead _ _ => none
  | .cursorAdvance _ => none
  | .samplerClear _ => none
  | .staingDatagram _ => none
  | .staingRead _ _ => none
  | .staingWrite _ _ _ => none
  | .staingEcho _ => none
  | .neighborSolicitation _ => none
  | .echoRequest _ => none
  | .pairDiagnosis _ _ _ _ _ => none
  | .loopMeasurement _ _ _ _ _ => none
  | .presenceWindowExpiry _ => none
  | .factoryEntry h => some h
  | .rootKeyReset h => some h
  | .debugChallenge h => some h
  | .debugUnlock h _ => some h
  | .managementKeyProvisioning h _ => some h
  | .entropySample _ => none
  | .drbgReseed _ => none
  | .hostMemoryReadCompletion _ _ => none
  | .completionTimeout _ => none
  | .shutdownNotification _ => none
  | .invalidCommandOpcode h _ _ => some h

/-- The operands of a command beside its queue entry fit their fields. -/
def Instr.operandsFit : Instr → Bool
  | .porstRelease _ => true
  | .porstAssert _ => true
  | .brownOut => true
  | .validBitGranuleFill => true
  | .workItemPost _ => true
  | .workItemRepost _ _ => true
  | .cellWorkTake _ => true
  | .workItemResult _ _ _ _ => true
  | .sequencerWatchdogExpiry _ => true
  | .cellSramUncorrectable _ => true
  | .linkUnpark _ => true
  | .fabricPacket _ _ _ _ errs => errs.length ≤ 9
  | .laneSpare _ _ _ _ => true
  | .fabricAccept _ => true
  | .fabricTimeout _ _ => true
  | .configPlaneMessage _ _ _ _ => true
  | .cellDrained _ => true
  | .perstAssert _ => true
  | .hotReset _ => true
  | .linkDown _ _ => true
  | .linkTrained _ rate width _ _ _ => rate < 7 && width ≤ 16
  | .functionLevelResetVf _ => true
  | .functionLevelResetPf _ => true
  | .nvmSubsystemReset => true
  | .fenceComplete _ => true
  | .vfEnableSet _ => true
  | .vfEnableClear _ => true
  | .numVfsWrite _ n => u16 n
  | .ccEnSet _ _ mps asqs acqs asq acq => mps < 16 && asqs < 4096 && acqs < 4096 && u64 asq && u64 acq
  | .ccEnClearInstance _ => true
  | .ccEnClearManager _ => true
  | .secondaryOnline _ cntlid rt nr => u16 cntlid && rt < 8 && u16 nr
  | .secondaryOffline _ cntlid rt nr => u16 cntlid && rt < 8 && u16 nr
  | .secondaryAssign _ cntlid rt nr => u16 cntlid && rt < 8 && u16 nr
  | .primaryFlexibleAllocation _ rt nr => rt < 8 && u16 nr
  | .ownerTakeover _ nsid _ => u32 nsid
  | .maxRateWrite _ rate => rate < 256
  | .createIoCompletionQueue _ a => a.wf
  | .createIoSubmissionQueue _ a => a.wf
  | .deleteIoCompletionQueue _ qid => u16 qid
  | .deleteIoSubmissionQueue _ qid => u16 qid
  | .sqTailDoorbell _ qid value => u16 qid && u16 value
  | .cqHeadDoorbell _ qid value => u16 qid && u16 value
  | .commandFetch entries => entries.all Sqe.wf
  | .overlapEntryGrant => true
  | .completionPost _ => true
  | .waitingEntryPost _ cqid => u16 cqid
  | .summaryLineWrite _ => true
  | .instanceSummaryWrite _ _ => true
  | .flush _ nsid => u32 nsid
  | .write _ a => a.wf
  | .read _ a => a.wf
  | .writeUncorrectable _ r => r.wf
  | .compare _ a => a.wf
  | .writeZeroes _ r _ => r.wf
  | .datasetManagement _ nsid _ ranges => u32 nsid && 1 ≤ ranges.length && ranges.length ≤ 256 && ranges.all Range.wf32
  | .verify _ r _ => r.wf
  | .copy _ a => a.wf
  | .zoneAppend _ a => a.wf
  | .reclaimUnitHandleUpdate _ nsid pids => u32 nsid && pids.all u16
  | .reclaimUnitHandleStatus _ nsid numd => u32 nsid && u32 numd
  | .zoneClose _ nsid slba _ => u32 nsid && u64 slba
  | .zoneFinish _ nsid slba _ => u32 nsid && u64 slba
  | .zoneOpen _ nsid slba _ => u32 nsid && u64 slba
  | .zoneReset _ nsid slba _ => u32 nsid && u64 slba
  | .zoneOffline _ nsid slba _ => u32 nsid && u64 slba
  | .secureReset _ nsid slba _ => u32 nsid && u64 slba
  | .reportZones _ nsid slba filter _ numd => u32 nsid && u64 slba && filter < 256 && u32 numd
  | .zoneDigestReport _ nsid slba filter _ numd => u32 nsid && u64 slba && filter < 256 && u32 numd
  | .abort _ sqid cid => u16 sqid && u16 cid
  | .asynchronousEventRequest _ => true
  | .getLogPage _ lid offset nsid numd _ => lid < 256 && u64 offset && u32 nsid && u32 numd
  | .samplerWindowLog _ _ offset numd => u64 offset && u32 numd
  | .identify _ cns nsid cntid csi => cns < 256 && u32 nsid && u16 cntid && csi < 256
  | .getFeatures _ fid sel nsid dw11 => fid < 256 && sel < 8 && u32 nsid && u32 dw11
  | .setArbitration _ _ burst lpw mpw hpw => burst < 8 && lpw < 256 && mpw < 256 && hpw < 256
  | .setPowerManagement _ _ ps wh => ps < 32 && wh < 8
  | .setTemperatureThreshold _ _ _ kelvin => u16 kelvin
  | .setErrorRecovery _ _ tler _ => u16 tler
  | .setVolatileWriteCache _ _ _ => true
  | .setNumberOfQueues _ _ nsqr ncqr => u16 nsqr && u16 ncqr
  | .setInterruptCoalescing _ _ dw11 => u32 dw11
  | .setInterruptVectorConfiguration _ _ iv _ => u16 iv
  | .setWriteAtomicityNormal _ _ _ => true
  | .setAsyncEventConfiguration _ _ dw11 => u32 dw11
  | .setAutonomousPowerStateTransition _ _ _ table => table.length ≤ 32 && table.all fun e => e.1 < 32 && e.2 < 2 ^ 24
  | .setTimestamp _ _ ms => ms < 2 ^ 48
  | .setFdp _ _ _ config => config < 256
  | .setFdpEvents _ _ _ types => types.length ≤ 255 && types.all fun y => y < 256
  | .setCompletionSummaryLine _ _ _ address delay => u64 address && u32 delay
  | .setInstanceSummary _ _ _ address delay => u64 address && u32 delay
  | .setSecureDiscard _ _ nsid _ => u32 nsid
  | .namespaceCreate _ a => a.wf
  | .namespaceDelete _ nsid => u32 nsid
  | .namespaceAttach _ nsid ctrls => u32 nsid && ctrls.length ≤ 2047 && ctrls.all u16
  | .namespaceDetach _ nsid ctrls => u32 nsid && ctrls.length ≤ 2047 && ctrls.all u16
  | .formatNvm _ nsid flbas dps => u32 nsid && flbas < 64 && dps < 32
  | .firmwareImageDownload _ offset bytes header => u32 (offset / 4) && bytes % 4 = 0 && bytes ≤ 2 ^ 34 && header.all ImageHeader.wf
  | .firmwareCommitReplace _ slot _ => slot < 8
  | .firmwareCommitReplaceActivateReset _ slot _ => slot < 8
  | .firmwareCommitActivateReset _ slot _ => slot < 8
  | .firmwareCommitActivateNow _ slot _ => slot < 8
  | .imageSwitch => true
  | .deviceSelfTestShort _ nsid => u32 nsid
  | .deviceSelfTestExtended _ nsid => u32 nsid
  | .deviceSelfTestAbort _ => true
  | .selfTestStep _ _ _ _ _ => true
  | .sanitizeExitFailureMode _ => true
  | .sanitizeBlockErase _ _ _ _ _ => true
  | .sanitizeCryptoErase _ _ _ _ _ => true
  | .sanitizeEnd _ => true
  | .dictionaryRead _ index sub _ count buflen => u16 index && sub < 256 && count < 256 && u32 buflen
  | .dictionaryWrite _ len recs _ => u32 len && recs.all DictRec.wf
  | .commit _ _ => true
  | .discard _ => true
  | .objectWrite _ r _ => r.wf
  | .restoreDefaults _ _ => true
  | .freezeInstance _ n => u16 n
  | .freezeDrainTimeout _ => true
  | .freezeComplete _ => true
  | .saveInstanceState _ n => u16 n
  | .restoreInstanceState _ n => u16 n
  | .resumeInstance _ n => u16 n
  | .dirtyEnWrite _ _ _ => true
  | .dirtyBitsRead _ _ => true
  | .framePlannedEnd _ _ => true
  | .lateWorkHandover _ => true
  | .frameBoundary _ => true
  | .chunkAdmit _ => true
  | .progAgePromote _ _ => true
  | .operationIssue _ => true
  | .operationReady _ _ _ => true
  | .readyTimeout _ _ _ => true
  | .channelPhyFault _ => true
  | .suspendReported _ _ _ => true
  | .suspendTimeout _ _ _ => true
  | .readAroundReconstruct _ _ payloads => payloads.length ≤ 4
  | .contractWindowEnd _ _ => true
  | .channelRecentre _ _ _ => true
  | .zoneAgeExpiry _ _ _ => true
  | .reclaimUnitTimeLimit _ _ _ => true
  | .secureEraseDue _ _ _ _ => true
  | .mergeWaitExpiry _ _ => true
  | .unitProgramDone _ => true
  | .programFailure _ => true
  | .journalTimerExpiry _ => true
  | .journalPageDurable _ => true
  | .journalCopyFailure _ _ _ => true
  | .checkpointPass _ _ _ => true
  | .segmentCopyDurable _ _ => true
  | .foldStart => true
  | .mangleStart _ => true
  | .targetStripeComplete _ => true
  | .targetProgramFailure _ _ => true
  | .sourceStripeErase _ => true
  | .eraseFailure _ _ => true
  | .spareAdd _ count => u32 count
  | .secureDiscardDue _ _ => true
  | .stripeClose _ => true
  | .memberReplaced _ _ => true
  | .codewordDecode _ _ _ => true
  | .rinseStep _ _ _ _ _ => true
  | .disturbCountReached _ _ => true
  | .fullPassWrite _ _ => true
  | .sramScrub _ _ bad => bad.length ≤ 80
  | .logClear _ => true
  | .dramRequest op _ => op.wf
  | .dramTimeout _ => true
  | .dramRecentre _ _ _ _ _ _ => true
  | .refreshDue _ _ _ => true
  | .refreshPostponeLimit _ _ _ => true
  | .mr4Poll _ _ => true
  | .dramPatrol _ _ _ => true
  | .cipherLockClaim _ _ => true
  | .cipherRequestSteer _ _ => true
  | .cipherMessageDone _ _ _ => true
  | .maskReseed _ _ _ => true
  | .counterReservationDurable _ => true
  | .keyCacheFill _ _ _ _ => true
  | .keySlotReload _ _ => true
  | .importTransportKek _ b => b.wf
  | .setNamespaceKey _ b => b.wf
  | .generateNamespaceKey _ nsid => u32 nsid
  | .destroyTransportKek _ index => index < 256
  | .keyStatusReceive _ nsid => u32 nsid
  | .keyPerIoInject _ b => b.wf
  | .keyPerIoClear _ nsid tag => u32 nsid && u16 tag
  | .keyEraseDue _ _ => true
  | .digestStart _ _ _ _ => true
  | .digestFeed _ _ => true
  | .digestFinish _ => true
  | .digestRead _ => true
  | .digestCompare _ expected _ => expected.length ≤ 64
  | .digestSave _ nsid _ => u32 nsid
  | .digestRestore _ nsid _ saved => u32 nsid && saved.wf
  | .shuttleTailWrite _ v => v < 2 ^ 16
  | .shuttleEnable _ ringBase recordAddr ringLog2 => u64 ringBase && u64 recordAddr && ringLog2 < 256
  | .shuttleDisable _ => true
  | .shuttlePauseWrite _ _ => true
  | .shuttleClear _ => true
  | .descriptorRead _ d _ => d.wf
  | .descriptorDone _ _ => true
  | .shuttlePaused _ _ => true
  | .shuttleHalt _ _ _ => true
  | .bufferAllocate _ _ _ _ => true
  | .referenceIncrement _ _ _ => true
  | .referenceDecrement _ _ _ _ => true
  | .bufferWaitServed _ => true
  | .domainStopRequest _ => true
  | .domainStopped _ => true
  | .domainRefusal _ => true
  | .sleepEntryStart _ => true
  | .refusalHoldExpiry _ => true
  | .apstIdleExpiry _ _ => true
  | .pcieActivityWake _ _ => true
  | .wakeFrame _ serial _ => serial < 2 ^ 160
  | .managementFrameWake d => d.all Datagram.wf
  | .airingStep _ _ _ _ => true
  | .samplerBufferWake _ => true
  | .pwrfailAssert _ _ => true
  | .dumpComplete _ => true
  | .pwrfailReturn => true
  | .sensorReading _ _ _ _ => true
  | .holdupSenseSample _ => true
  | .pwrfailClassify _ _ => true
  | .recordEnter code subject domain params => u16 code && u16 subject && domain < 256 && params.length ≤ 6 && params.all u32
  | .rateBucketRefill code _ => u16 code
  | .samplerFlush => true
  | .samplerFlushTimer _ => true
  | .samplerFlushDone _ => true
  | .windowSlotRead _ _ => true
  | .cursorAdvance _ => true
  | .samplerClear _ => true
  | .staingDatagram d => d.wf
  | .staingRead seq reqs => u64 seq && reqs.all ReadReq.wf
  | .staingWrite seq recs _ => u64 seq && recs.all DictRec.wf
  | .staingEcho seq => u64 seq
  | .neighborSolicitation _ => true
  | .echoRequest _ => true
  | .pairDiagnosis _ wire _ _ _ => wire < 8
  | .loopMeasurement _ _ _ _ _ => true
  | .presenceWindowExpiry _ => true
  | .factoryEntry _ => true
  | .rootKeyReset _ => true
  | .debugChallenge _ => true
  | .debugUnlock _ k => k.scope < 256
  | .managementKeyProvisioning _ b => b.wf
  | .entropySample _ => true
  | .drbgReseed _ => true
  | .hostMemoryReadCompletion _ _ => true
  | .completionTimeout _ => true
  | .shutdownNotification _ => true
  | .invalidCommandOpcode _ opcode action => opcode < 256 && action < 256

/-- A command is well formed: its queue entry and its operands are. -/
def Instr.wf (i : Instr) : Bool := i.hdr?.all Hdr.wf && i.operandsFit

end Sys2Proof
end

