-- ==== Sys2Proof/Certificates/Slice0/Obligations.lean ====
section
/-! DEFINITION. The statements of this row, for the provers. Each names the rules of spec/ it rests on; a statement whose
docstring names a log entry rests on a choice of the model there. -/
open Sys2Proof Sys2Proof.Machine

/-! ### Cells, fabric and configuration plane -/

/-- R14, R15: a work item posted to a queue of its role and its producer's quadrant that holds fewer than 1,024 items joins it
at the end and changes nothing else; a full queue drops nothing, and the producer holds the item. R15: the producer that holds
an item posts it again when the queue accepts it: the item leaves the held ones and joins the queue at the end; while the queue
is full it stays held. -/
def Obligations.WorkItemsJoinTheirQueuesOrAreHeld : Prop :=
  (∀ (w : WorkItem) (s : State),
    ((s.workQueue (queueKey (producerQuadrant w.prod) w.role.code)).length < 1024 →
      ∃ t, exec (.workItemPost w) s = .next t ∧
        t.workQueue (queueKey (producerQuadrant w.prod) w.role.code)
          = s.workQueue (queueKey (producerQuadrant w.prod) w.role.code) ++ [w] ∧
        (∀ j, j ≠ queueKey (producerQuadrant w.prod) w.role.code → t.workQueue j = s.workQueue j) ∧
        t = { s with cells := { s.cells with queues := t.cells.queues } }) ∧
    (1024 ≤ (s.workQueue (queueKey (producerQuadrant w.prod) w.role.code)).length →
      exec (.workItemPost w) s = .next { s with cells := { s.cells with held := s.cells.held ++ [w] } })) ∧
  (∀ (p : Producer) (tag : Nat) (w : WorkItem) (s : State),
    s.cells.held.find? (fun v => v.prod = p ∧ v.tag = tag) = some w →
    ((s.workQueue (queueKey (producerQuadrant w.prod) w.role.code)).length < 1024 →
      ∃ t, exec (.workItemRepost p tag) s = .next t ∧ t.cells.held = s.cells.held.erase w ∧
        t.workQueue (queueKey (producerQuadrant w.prod) w.role.code)
          = s.workQueue (queueKey (producerQuadrant w.prod) w.role.code) ++ [w] ∧
        (∀ j, j ≠ queueKey (producerQuadrant w.prod) w.role.code → t.workQueue j = s.workQueue j) ∧
        t = { s with cells := { s.cells with held := t.cells.held, queues := t.cells.queues } }) ∧
    (1024 ≤ (s.workQueue (queueKey (producerQuadrant w.prod) w.role.code)).length → exec (.workItemRepost p tag) s = .next s))

/-- R12, R14, R16, R39, R45, R76: once the dispatch units are released, an ACTIVE cell with a free buffer takes the oldest
item of its role from the first of the four dispatch units, its own first and then ascending, that holds one, and its LDPC
operation joins the cell's lane behind those before it; the result of an item it holds goes to its producer under its tag,
and the cell no longer holds it; a draining cell gives back all it holds, its key cache is cleared, and it counts as drained.
Choices of the model it rests on: log entry 114. -/
def Obligations.CellTakesAndReturnsWork : Prop :=
  (∀ (c : Fin 96) (s : State) (q : Nat) (before after : List Nat) (w : WorkItem) (rest : List WorkItem),
    s.cells.released = true → s.cellState c.val = 1 → (s.cell c.val).items.length < 40 →
    [cellQuadrant c.val, (cellQuadrant c.val + 1) % 4, (cellQuadrant c.val + 2) % 4, (cellQuadrant c.val + 3) % 4]
      = before ++ q :: after →
    (∀ p ∈ before, s.workQueue (queueKey p (s.cellRole c.val)) = []) →
    s.workQueue (queueKey q (s.cellRole c.val)) = w :: rest → s.staleWork w = false →
    ∃ t, exec (.cellWorkTake c) s = .next t ∧ (t.cell c.val).items = (s.cell c.val).items ++ [w] ∧
      (t.cell c.val).lane = (s.cell c.val).lane ++ w.laneOp ∧ (∀ d, d ≠ c.val → t.cell d = s.cell d) ∧
      t.workQueue (queueKey q (s.cellRole c.val)) = rest ∧
      t = { s with cells := { s.cells with queues := t.cells.queues, cells := t.cells.cells } }) ∧
  (∀ (c : Fin 96) (p : Producer) (tag : Nat) (w : WorkItem) (s : State),
    (s.cell c.val).items.find? (fun v => v.prod = p ∧ v.tag = tag) = some w → s.staleWork w = false →
    ∃ t, exec (.workItemResult c p tag true) s = .next t ∧ t.cells.results = s.cells.results ++ [(p, tag, true)] ∧
      (t.cell c.val).items = (s.cell c.val).items.erase w ∧ (∀ d, d ≠ c.val → t.cell d = s.cell d) ∧
      t = { s with cells := { s.cells with results := t.cells.results, cells := t.cells.cells } }) ∧
  (∀ (c : Fin 96) (s : State), (s.cell c.val).drainTo.isSome = true → (∀ w ∈ (s.cell c.val).items, s.staleWork w = false) →
    ∃ t, exec (.cellDrained c) s = .next t ∧
      t.cells.results = s.cells.results ++ (s.cell c.val).items.map (fun w => (w.prod, w.tag, true)) ∧
      t.cell c.val = { drainTo := (s.cell c.val).drainTo, drained := true, items := [], lane := [], keys := [] } ∧
      (∀ d, d ≠ c.val → t.cell d = s.cell d) ∧
      t = { s with cells := { s.cells with results := t.cells.results, cells := t.cells.cells } })

/-- R17, R41, R42, R43, R269: a cell whose watchdog expires and that is not FENCED becomes FENCED at once with reason 3, its
fence count rises by one, it holds no work and no key any more, it is entered for promotion with the role it had, and its
cipher core and its digest core are clear; what is stored and the modes do not change. R15, R42: an item of a fenced cell
that has met fewer than two faults before is posted again to its role's queue, or held while that is full, with the fault
counted; one that meets its third is failed to its producer, and its host command ends with Internal Error. Choices of the
model it rests on: log entry 114. -/
def Obligations.FaultsFenceCellsAndRepostTheirWork : Prop :=
  (∀ (c : Fin 96) (s : State), s.cellRole c.val ≠ 7 → s.cfg Obj.fenceCount c.val < 255 →
    ∃ t, exec (.sequencerWatchdogExpiry c) s = .next t ∧ t.cellRole c.val = 7 ∧ t.cfg Obj.fenceReason c.val = 3 ∧
      t.cfg Obj.fenceCount c.val = s.cfg Obj.fenceCount c.val + 1 ∧ t.cell c.val = CellSt.idle ∧
      t.cells.fenced = s.cells.fenced ++ [(c.val, s.cellRole c.val)] ∧
      t.store = s.store ∧ t.modes = s.modes ∧
      t.cipher.cores = Tbl.del s.cipher.cores c.val ∧ t.engines.digests = Tbl.del s.engines.digests c.val ∧
      t = { s with
        dict := t.dict, sampler := t.sampler, cells := t.cells, host := t.host, cipher := t.cipher, engines := t.engines }) ∧
  (∀ (w : WorkItem) (s : State),
    (w.faults < 2 → (s.workQueue (queueKey (producerQuadrant w.prod) w.role.code)).length < 1024 →
      (s.repostAfterFault w).workQueue (queueKey (producerQuadrant w.prod) w.role.code)
        = s.workQueue (queueKey (producerQuadrant w.prod) w.role.code) ++ [{ w with faults := w.faults + 1 }]) ∧
    (w.faults < 2 → 1024 ≤ (s.workQueue (queueKey (producerQuadrant w.prod) w.role.code)).length →
      s.repostAfterFault w = { s with cells := { s.cells with held := s.cells.held ++ [{ w with faults := w.faults + 1 }] } }) ∧
    (2 ≤ w.faults → ∀ (h : Hdr) (c : Ctx), w.cmd = some h → s.ctx? h = some c → c.done = none →
      (s.repostAfterFault w).cells.results = s.cells.results ++ [(w.prod, w.tag, false)] ∧
      ∃ d, (s.repostAfterFault w).ctx? h = some d ∧ d.done = some (Cpl.of .internalError)))

/-- R26: from any node a packet's output ports lead along its row to the destination column and then along that column, so that
it is at its destination after as many hops as the two distances add up to, and leaves by the local port there. R24, R25, R27,
R30, R32, R33, R35: a block that is cut off injects nothing; the beats of a packet are checked and counted; a bad header beat
discards it; otherwise, where its buffer has room for its beats, it enters it (at age 0 where it is injected there, a request as
an outstanding one), poisoned where a data beat was bad, and the routers grant as long as a packet may move. Of the packets that
wait for an output, none is older than the one granted. R30, R32, R35, R48: at its endpoint a packet is sunk: discarded by a
block that is cut off, unused where it is poisoned, the end of its request where it is a response, and taken once where it is a
request.
Choices of the model it rests on: log entries 115 and 138. -/
def Obligations.PacketsFollowTheirRouteByAge : Prop :=
  (∀ (p : Packet) (x y : Nat),
    (∀ n, n ≤ (x - p.dstX.val) + (p.dstX.val - x) →
      ∃ z, afterHops n x y p = (z, y) ∧ (z - p.dstX.val) + (p.dstX.val - z) + n = (x - p.dstX.val) + (p.dstX.val - x)) ∧
    afterHops ((x - p.dstX.val) + (p.dstX.val - x) + ((y - p.dstY.val) + (p.dstY.val - y))) x y p = (p.dstX.val, p.dstY.val) ∧
    outPort p.dstX.val p.dstY.val p = 4) ∧
  ((∀ (x : Fin 12) (y : Fin 10) (i : Fin 6) (p : Packet) (l : Fin 4) (errs : List BeatErr) (s : State),
    (4 ≤ i.val → s.isolated x.val y.val = true → exec (.fabricPacket x y i p errs) s = .next s) ∧
    (i.val < 4 ∨ s.isolated x.val y.val = false →
      ∃ t, exec (.fabricPacket x y i p (.uncorrectable l :: errs)) s = .next t ∧
        t = { s with cells := { s.cells with laneErrs := t.cells.laneErrs } })) ∧
  (∀ (x : Fin 12) (y : Fin 10) (i : Fin 6) (p : Packet) (errs : List BeatErr) (s : State),
    (i.val < 4 ∨ s.isolated x.val y.val = false) → BeatErr_bad (errs.headD .clean) = false →
    ((s.input (inputKey x.val y.val i.val p.vc.code)).map (fun q => 1 + q.beats.val)).sum + (1 + p.beats.val) ≤ 18 →
    ∃ s1 q s2, s1 = errs.foldl (fun a e => a.countBeat x.val y.val i.val e) s ∧
      q = { p with poisoned := p.poisoned || errs.tail.any BeatErr_bad, age := if 4 ≤ i.val then 0 else p.age } ∧
      s2 = s1.setInput (inputKey x.val y.val i.val p.vc.code) (s.input (inputKey x.val y.val i.val p.vc.code) ++ [q]) ∧
      exec (.fabricPacket x y i p errs) s = .next (if 4 ≤ i.val then s2.inject i.val q else s2).settleFabric) ∧
  (∀ (l : List (Nat × Packet)) (e : Nat × Packet), oldest l = some e → e ∈ l ∧ ∀ f ∈ l, f.2.age.val ≤ e.2.age.val) ∧
  (∀ (p : Packet) (s : State),
    (s.isolated p.dstX.val p.dstY.val = true → s.deliver p = s) ∧
    (s.isolated p.dstX.val p.dstY.val = false →
      (p.poisoned = true → s.deliver p = { s with cells := { s.cells with failed := s.cells.failed ++ [p] } }) ∧
      (p.poisoned = false → p.vc = .response → (∀ r ∈ (s.deliver p).cells.reqs, r.tag ≠ p.tag) ∧
        ∀ r ∈ s.cells.reqs, r.tag ≠ p.tag → r ∈ (s.deliver p).cells.reqs) ∧
      (p.poisoned = false → p.vc = .request →
        (s.deliver p).cells.inHand = (if s.cells.inHand.any (fun q => q.tag = p.tag) then s.cells.inHand
          else s.cells.inHand ++ [p])))))

/-- R31, R32: a lane that met one uncorrectable error or more than 64 corrected errors in one second is spared out: it joins its
link's missing lanes, and the loss of all four stops the device, with both links down; no other lane is. ACCEPT marks every
request of its tag; a request that is neither answered nor accepted is injected again three times, each once 0x2800.05 has
passed since it was last issued; at the fourth timeout it is given up: the cell that asked is FENCED with reason 4, the host
command ends with Internal Error.
Choices of the model it rests on: log entry 138. -/
def Obligations.LanesSparedAndRequestsReissued : Prop :=
  (∀ (x : Fin 12) (y : Fin 10) (port lane : Fin 4) (s : State),
    ((s.laneErr (laneKey x.val y.val port.val lane.val)).hard = true ∨
        64 < (s.laneErr (laneKey x.val y.val port.val lane.val)).count →
      (s.lanesOut x.val y.val port.val).testBit lane.val = false →
      ∃ t, exec (.laneSpare x y port lane) s = .next t ∧
        t.lanesOut x.val y.val port.val = s.lanesOut x.val y.val port.val ||| 2 ^ lane.val ∧
        (s.lanesOut x.val y.val port.val ||| 2 ^ lane.val ≠ 15 → t.modes = s.modes ∧
          t.cells.linkDead = s.cells.linkDead ∧ t.host = s.host ∧ t.store = s.store) ∧
        (s.lanesOut x.val y.val port.val ||| 2 ^ lane.val = 15 → t.cells.linkDead = true ∧ (t.port .a).up = false)) ∧
    ((s.laneErr (laneKey x.val y.val port.val lane.val)).hard = false →
      (s.laneErr (laneKey x.val y.val port.val lane.val)).count ≤ 64 →
      exec (.laneSpare x y port lane) s = .next s)) ∧
  (∀ (tag : Nat) (s : State), exec (.fabricAccept tag) s = .next { s with cells := { s.cells with
    reqs := s.cells.reqs.map fun r => if r.tag = tag then { r with accepted := true } else r } }) ∧
  (∀ (tag now : Nat) (r : FabricReq) (s a : State), a = s.tick now → s.cells.reqs.find? (·.tag = tag) = some r →
    a.timeoutRuns r = true →
    (a.now < r.since + 1000 * s.cfg Obj.fabricTimeout → exec (.fabricTimeout tag now) s = .next a) ∧
    (r.since + 1000 * s.cfg Obj.fabricTimeout ≤ a.now →
      (r.reissues < 3 → exec (.fabricTimeout tag now) s = .next (a.reissue r)) ∧
      (3 ≤ r.reissues →
        (∀ c : Fin 96, r.consumer = .cell c → s.cellRole c.val ≠ 7 →
          ∃ t, exec (.fabricTimeout tag now) s = .next t ∧ (∀ q ∈ t.cells.reqs, q.tag ≠ tag) ∧ t.cellRole c.val = 7 ∧
            t.cfg Obj.fenceReason c.val = 4) ∧
        (∀ h : Hdr, r.consumer = .hostFront h → exec (.fabricTimeout tag now) s
          = .next ({ a with cells := { a.cells with reqs := a.cells.reqs.filter (·.tag ≠ tag) } }.finish h ⟨⟨0, 0x06⟩, 0, 0⟩))))) ∧
  (∀ (r : FabricReq) (s : State) (k : Nat), k = inputKey r.packet.srcX.val r.packet.srcY.val r.port r.packet.vc.code →
    ((s.input k).map (fun q => 1 + q.beats.val)).sum + (1 + r.packet.beats.val) ≤ 18 →
    ∃ u, u = { s with cells := { s.cells with reqs := s.cells.reqs.map fun (q : FabricReq) =>
        if q.tag = r.tag then { q with reissues := q.reissues + 1, since := s.now } else q } } ∧
      s.reissue r = (u.setInput k (s.input k ++ [{ r.packet with age := 0 }])).settleFabric)

/-- R19, R33, R34: a message of the configuration plane that its sender may send and that is acknowledged within four
deliveries is logged behind those sent before it and takes effect at its stop: a clock setting, readiness, which unparks the
links of an island that is ON, a temperature, a role for a SPARE cell of the stop's group, which awaits the next frame
boundary. One whose four deliveries all fail has the domain reported failed in 0x6000.11, and the cells of a group or at the
routers of a quadrant are FENCED. The management cluster may send while it is ON, the Airing sequencer while it is not;
another message does nothing. Choices of the model it rests on: log entries 88 and 136. -/
def Obligations.PlaneMessageTakesEffectInOrder : Prop :=
  (∀ (d : Fin 56) (n : Nat) (m : CfgMsg) (airing : Bool) (s : State),
    (airing = false → (s.domain 2).state ≠ .on → exec (.configPlaneMessage d m airing n) s = .next s) ∧
    (airing = true → (s.domain 2).state = .on → exec (.configPlaneMessage d m airing n) s = .next s)) ∧
  (∀ (d : Fin 56) (n mhz : Nat) (airing : Bool) (s : State), s.planeOpen airing = true → n ≤ 3 →
    ∃ t, exec (.configPlaneMessage d (.clock mhz) airing n) s = .next t ∧ Tbl.get 0 t.cells.clocks d.val = mhz ∧
      t.cells.ring = s.cells.ring ++ [(d.val, .clock mhz)] ∧
      t = { s with cells := { s.cells with ring := t.cells.ring, clocks := t.cells.clocks } }) ∧
  (∀ (d : Fin 56) (s : State), s.domainOn d.val = true → (s.domain d.val).state = .on →
    (∃ t, exec (.linkUnpark d) s = .next t ∧ t.cells.parked = s.cells.parked.filter (· ≠ d.val)) ∧
    (∀ (n : Nat) (airing : Bool), s.planeOpen airing = true → n ≤ 3 →
      ∃ t, exec (.configPlaneMessage d .ready airing n) s = .next t ∧ t.cells.parked = s.cells.parked.filter (· ≠ d.val) ∧
        t.cells.ring = s.cells.ring ++ [(d.val, .ready)])) ∧
  (∀ (d : Fin 56) (s : State), (s.domain d.val).state ≠ .on → exec (.linkUnpark d) s = .next s) ∧
  (∀ (d : Fin 56) (n : Nat) (c : Int) (airing : Bool) (s : State), s.planeOpen airing = true → n ≤ 3 → 10 ≤ d.val →
    exec (.configPlaneMessage d (.temps c) airing n) s = .next { s with
      cells := { s.cells with ring := s.cells.ring ++ [(d.val, .temps c)] }
      power := { s.power with temps := s.power.temps.set (d.val - 10) c } }) ∧
  (∀ (d : Fin 56) (n : Nat) (c : Fin 96) (airing : Bool) (s : State), s.planeOpen airing = true → n ≤ 3 →
    cellDomain c.val = d.val → s.cellRole c.val = 0 →
    ∃ t, exec (.configPlaneMessage d (.role c .host) airing n) s = .next t ∧ (t.cell c.val).drainTo = some 1 ∧
      (t.cell c.val).drained = true ∧ t.cellRole c.val = 0 ∧
      t.cells.ring = s.cells.ring ++ [(d.val, .role c .host)]) ∧
  (∀ (d : Fin 56) (n : Nat) (m : CfgMsg) (airing : Bool) (s : State), s.planeOpen airing = true → 3 < n →
    (54 ≤ d.val → exec (.configPlaneMessage d m airing n) s
      = .next (s.keep Obj.domainsFailed (s.cfg Obj.domainsFailed ||| 2 ^ d.val))) ∧
    (10 ≤ d.val → d.val ≤ 33 → ∃ t, exec (.configPlaneMessage d m airing n) s = .next t ∧
      t.cfg Obj.domainsFailed = s.cfg Obj.domainsFailed ||| 2 ^ d.val ∧
      ∀ c : Fin 96, cellDomain c.val = d.val → t.cellRole c.val = 7))

/-! ### Host link, functions and instances -/

/-- R75 to R77, R79: a Function Level Reset of an instance that is not ABSENT, and a write of CC.EN from 1 to 0, fence exactly
that instance: FENCING, the generation up by one, its event requests and summary line gone, LAST_RESET the row of R77. A reset
event in FENCING joins the fence in progress, and an ABSENT instance is not reached. R77, R82: a link-down or a hot reset of a
port, PERST asserted on it outside HOLD-UP, and a Function Level Reset of its physical function fence every function of that
port under their rows of R77 and leave every function of the other port as it is; the two that take the link down leave the
port without one. R77: an NVM Subsystem Reset fences every function of both ports under row 8, and ends FACTORY; a write of
CC.EN 0 to an enabled manager function fences its own queues only, under row 6, and no instance. R75, R76, R79: when a fence is
complete the function leaves FENCING for the state the fence was to end in, with its generation, CC.EN and CSTS.RDY 0, CFS
clear and its queues deleted; the contexts of older generations are returned, and the Secondary Offlines that waited
have completed.
Choices of the model it rests on: log entries 21, 22, 24, 117 and 118. -/
def Obligations.ResetsFenceTheirFunctionsAndEnd : Prop :=
  (∀ (n : Fin 1024) (s : State),
    (s.present (.inst n) = true → (s.fn (.inst n)).fence = none →
      (∃ t, exec (.functionLevelResetVf n) s = .next t ∧ FencedBy s t (.inst n) 1 ∧ t.cfg Obj.lastReset n.val = 1 ∧
        ∀ f, f ≠ .inst n → t.fn f = s.fn f) ∧
      ((s.fn (.inst n)).en = true → ∃ t, exec (.ccEnClearInstance n) s = .next t ∧ FencedBy s t (.inst n) 2 ∧
        t.cfg Obj.lastReset n.val = 2 ∧ ∀ f, f ≠ .inst n → t.fn f = s.fn f)) ∧
    ((s.fn (.inst n)).fence ≠ none → exec (.functionLevelResetVf n) s = .next s) ∧
    (s.present (.inst n) = false → exec (.functionLevelResetVf n) s = .next s) ∧
    ((s.fn (.inst n)).en = false → exec (.ccEnClearInstance n) s = .next s)) ∧
  (∀ (p : Port) (now : Nat) (s : State), s.portExists p = true →
    (∃ t, exec (.linkDown p now) s = .next t ∧ (∀ f, s.portOfFn f = p → FencedBy s t f 7) ∧
      (∀ f, s.portOfFn f ≠ p → t.fn f = s.fn f) ∧ (t.port p).up = false) ∧
    (∃ t, exec (.hotReset p) s = .next t ∧ (∀ f, s.portOfFn f = p → FencedBy s t f 7) ∧
      (∀ f, s.portOfFn f ≠ p → t.fn f = s.fn f)) ∧
    (s.has Mode.holdUp = false → ∃ t, exec (.perstAssert p) s = .next t ∧ (∀ f, s.portOfFn f = p → FencedBy s t f 7) ∧
      (∀ f, s.portOfFn f ≠ p → t.fn f = s.fn f) ∧ (t.port p).up = false ∧ (t.port p).perst = true) ∧
    (∃ t, exec (.functionLevelResetPf p) s = .next t ∧ (∀ f, s.portOfFn f = p → FencedBy s t f 5) ∧
      (∀ f, s.portOfFn f ≠ p → t.fn f = s.fn f) ∧ (t.port p).vfEnable = false)) ∧
  ((∀ s : State, ∃ t, exec .nvmSubsystemReset s = .next t ∧ ∀ f, FencedBy s t f 8) ∧
  (∀ (p : Port) (s : State), s.portExists p = true → (s.fn (managerOf p)).en = true →
    ∃ t, exec (.ccEnClearManager p) s = .next t ∧ FencedBy s t (managerOf p) 6 ∧
      ∀ f, f ≠ managerOf p → t.fn f = s.fn f)) ∧
  (∀ (f : Func) (p : Fence) (s : State), (s.fn f).fence = some p →
    ∃ t, exec (.fenceComplete f) s = .next t ∧ (t.fn f).state = p.after ∧ (t.fn f).gen = (s.fn f).gen ∧
      (t.fn f).en = false ∧ (t.fn f).rdy = false ∧ (t.fn f).cfs = false ∧ (t.fn f).sqs = [] ∧ (t.fn f).cqs = [] ∧
      (t.fn f).fence = none ∧ (∀ g, g ≠ f → t.fn g = s.fn g) ∧
      (∀ c ∈ t.host.ctxs, c.hdr.fn = f → c.gen = (s.fn f).gen) ∧
      (∀ c ∈ t.host.ctxs, c.hdr ∈ p.waiters → c.done ≠ none))

/-- R61, R70, R75, R77: VF Enable brings every ABSENT instance of the port within NumVFs to OFFLINE with 1 VQ resource, default
sizes and fence generation 0, and leaves the port's VF Enable set; cleared, it fences the port's instances under row 4, which
will be ABSENT; NumVFs is written only while VF Enable is clear. R70, R79: CC.EN written 1 enables a manager or an ONLINE
instance that is not enabled, with the admin queues of its registers, empty, and CSTS.RDY as R371 says, but CFS with a
memory page above MPSMAX; an OFFLINE instance
keeps RDY and has CFS set; in FENCING the write is ignored. No other function changes.
Choices of the model it rests on: log entries 20, 119 and 120. -/
def Obligations.FunctionsAreEnabledByState : Prop :=
  ((∀ (p : Port) (n : Fin 1024) (s : State), s.portExists p = true → (s.port p).vfEnable = false → s.portOf n.val = p →
    (s.fn (.inst n)).state = .absent → n.val - (if p = .a then 0 else s.split) < (s.port p).numVfs →
    ∃ t, exec (.vfEnableSet p) s = .next t ∧ (t.port p).vfEnable = true ∧ (t.fn (.inst n)).state = .offline ∧
      (t.fn (.inst n)).gen = 0 ∧ (t.fn (.inst n)).en = false ∧ t.cfg Obj.qpAllow n.val = 1 ∧
      t.cfg Obj.ctxReserved n.val = 32 ∧ t.cfg Obj.ctxMax n.val = 4096 ∧ t.cfg Obj.basketMin n.val = 8) ∧
  (∀ (p : Port) (s : State), s.portExists p = true → (s.port p).vfEnable = true →
    ∃ t, exec (.vfEnableClear p) s = .next t ∧ (t.port p).vfEnable = false ∧
      (∀ n : Fin 1024, s.portOf n.val = p → FencedBy s t (.inst n) 4 ∧
        ((s.fn (.inst n)).state ≠ .absent → ∃ q, (t.fn (.inst n)).fence = some q ∧ q.after = .absent))) ∧
  (∀ (p : Port) (k : Nat) (s : State), ((s.port p).vfEnable = true → exec (.numVfsWrite p k) s = .next s) ∧
    (s.portExists p = true → (s.port p).vfEnable = false → k ≤ s.totalVfs p → s.security.rom = false →
      exec (.numVfsWrite p k) s = .next (s.setPort p { s.port p with numVfs := k })))) ∧
  (∀ (f : Func) (wrr : Bool) (mps asqs acqs asq acq : Nat) (s : State), s.present f = true → (s.fn f).en = false →
    ((s.fn f).state = .online → ∃ t, exec (.ccEnSet f wrr mps asqs acqs asq acq) s = .next t ∧ (t.fn f).en = true ∧
      (t.fn f).rdy = (s.readyWhen f && decide (mps ≤ 4)) ∧ (4 < mps → (t.fn f).cfs = true) ∧ (t.fn f).wrr = wrr ∧ (t.fn f).mps = mps ∧
      (∃ q, Tbl.find (t.fn f).sqs 0 = some q ∧ q.size = asqs + 1 ∧ q.base = asq ∧ q.cqid = 0 ∧ q.head = 0 ∧ q.tail = 0) ∧
      (∃ q, Tbl.find (t.fn f).cqs 0 = some q ∧ q.size = acqs + 1 ∧ q.base = acq ∧ q.head = 0 ∧ q.tail = 0 ∧
        q.phase = true) ∧
      (∀ g, g ≠ f → t.fn g = s.fn g)) ∧
    ((s.fn f).state = .offline → ∃ t, exec (.ccEnSet f wrr mps asqs acqs asq acq) s = .next t ∧ (t.fn f).cfs = true ∧
      (t.fn f).rdy = (s.fn f).rdy ∧ (t.fn f).state = .offline ∧ (∀ g, g ≠ f → t.fn g = s.fn g)) ∧
    ((s.fn f).state = .fencing → exec (.ccEnSet f wrr mps asqs acqs asq acq) s = .next s))

/-- R67, R69, R70: the Virtualization Management actions of a manager on an instance of its own port: Secondary Online takes an
OFFLINE instance ONLINE and does nothing else to it; Secondary Assign gives an OFFLINE instance 1 to 64 VQ resources within the
port's pool; a count of 0 or above 64, a nonzero count of VI resources, and a Primary Flexible Allocation with a nonzero count,
end with Invalid Number of Controller Resources; Secondary Offline fences the instance under row 3, to end OFFLINE, and completes
after the fence, a second one joining it. -/
def Obligations.VirtualizationManagementActs : Prop :=
  ∀ (h : Hdr) (n : Fin 1024) (s a : State), AdminStarts s h a → a.portOf n.val = a.portOfFn h.fn →
    ((a.fn (.inst n)).state = .offline →
      (∀ rt nr, rt ≠ 1 ∨ nr = 0 → exec (.secondaryOnline h (0x100 + n.val) rt nr) s
        = .next ((a.setFn (.inst n) { a.fn (.inst n) with state := .online }).finish h Cpl.ok)) ∧
      (∀ k, 1 ≤ k → k ≤ 64 →
        a.vqAssigned (a.portOf n.val) - a.cfg Obj.qpAllow n.val + k ≤ a.flexPool (a.portOf n.val) →
        exec (.secondaryAssign h (0x100 + n.val) 0 k) s = .next ((a.save Obj.qpAllow k n.val).finish h (Cpl.ok0 k))) ∧
      (∀ k, k = 0 ∨ 64 < k →
        exec (.secondaryAssign h (0x100 + n.val) 0 k) s = .next (a.finish h (Cpl.of .invalidResCount)))) ∧
    (∀ nr, nr ≠ 0 → exec (.secondaryOnline h (0x100 + n.val) 1 nr) s = .next (a.finish h (Cpl.of .invalidResCount)) ∧
      exec (.secondaryOffline h (0x100 + n.val) 1 nr) s = .next (a.finish h (Cpl.of .invalidResCount)) ∧
      exec (.secondaryAssign h (0x100 + n.val) 1 nr) s = .next (a.finish h (Cpl.of .invalidResCount))) ∧
    (∀ rt nr, rt ≠ 1 ∨ nr = 0 → (a.fn (.inst n)).state ≠ .absent →
      ((a.fn (.inst n)).fence = none →
        ∃ t, exec (.secondaryOffline h (0x100 + n.val) rt nr) s = .next t ∧ FencedBy a t (.inst n) 3 ∧
          (t.fn (.inst n)).fence = some { row := 3, after := .offline, waiters := [h] }) ∧
      (∀ p, (a.fn (.inst n)).fence = some p →
        ∃ t q, exec (.secondaryOffline h (0x100 + n.val) rt nr) s = .next t ∧ (t.fn (.inst n)).fence = some q ∧
          q.row = p.row ∧ q.waiters = p.waiters ++ [h])) ∧
    (∀ rt k, exec (.primaryFlexibleAllocation h rt k) s
      = .next (a.finish h (if k = 0 then Cpl.ok else Cpl.of .invalidResCount)))

/-- R55 to R58, R81: a port trains to a rate of codes 1 to 6 within the cap, 64 GT/s in Flit mode only, and to a width of 1,
2, 4, 8 or 16 lanes within the port mode, and to nothing else; its link is up at what it trained to, below rated where rate
or width is short of the mode's; lowering the rate cap lowers a faster link to it and takes no link down; the other port's
manager takes a namespace over once its owner port has had no link for the delay, and not before. Choices of the model it
rests on: log entry 23. -/
def Obligations.LinkTrainsAndOwnershipMoves : Prop :=
  (∀ (p : Port) (rate width : Nat) (flit rev pol : Bool) (s : State),
    (rate = 6 ∧ flit = false) ∨ s.cfg Obj.maxRate < rate ∨ s.fullWidth < width ∨ width ∉ [1, 2, 4, 8, 16] →
      exec (.linkTrained p rate width flit rev pol) s = .next s) ∧
  (∀ (p : Port) (rate width : Nat) (flit rev pol : Bool) (s : State), s.cells.linkDead = false → s.portExists p = true →
    s.halfWorks p = true → s.blockLost 4 = false → 1 ≤ rate → rate ≤ 6 → rate ≤ s.cfg Obj.maxRate → (rate = 6 → flit = true) →
    width ∈ [1, 2, 4, 8, 16] → width ≤ s.fullWidth →
    ∃ t, exec (.linkTrained p rate width flit rev pol) s = .next t ∧ (t.port p).up = true ∧ (t.port p).rate = rate ∧
      (t.port p).width = width ∧ (t.port p).flit = flit ∧ (t.port p).laneRev = rev ∧ (t.port p).polInv = pol ∧
      (t.port p).below = (decide (rate < 6) || decide (width < s.fullWidth)) ∧ (∀ f, t.fn f = s.fn f)) ∧
  (∀ (rate : Nat) (s : State), 3 ≤ rate → rate ≤ 6 →
    ∃ t, exec (.maxRateWrite .pf0 rate) s = .next t ∧ t.cfg Obj.maxRate = rate ∧
      (∀ p, (t.port p).up = (s.port p).up ∧ ((s.port p).up = true → (t.port p).rate = min rate (s.port p).rate)) ∧
      (∀ f, t.fn f = s.fn f)) ∧
  (∀ (nsid now : Nat) (x : Ns) (s : State), s.dual = true → Tbl.find s.store.ns nsid = some x → x.owner = .a →
    (s.port .a).up = false → s.now ≤ now →
    (s.cfg Obj.takeoverDelay * 1000000 ≤ now - (s.port .a).downSince →
      ∃ t, exec (.ownerTakeover .pf1 nsid now) s = .next t ∧ Tbl.find t.store.ns nsid = some { x with owner := .b }) ∧
    (now - (s.port .a).downSince < s.cfg Obj.takeoverDelay * 1000000 →
      exec (.ownerTakeover .pf1 nsid now) s = .next (s.tick now)))
/-! ### Queues, ordering and polled completion -/

/-- R33, R76, R90, R106, R115: a command that was fetched under the present generation begins in its context, once, in the order
of its function's fetch stamps; one that was not fetched, that has begun, is finished or belongs to an older generation, does
not; none begins in reset or while the host front end is lost. Finishing sets the completion of that command's context once and
changes no other context. R104: a command of an unknown opcode, and one of a fused pair, ends with Invalid Command Opcode; R156:
an unsupported zone action with Invalid Field; a host memory read that fails ends its command with Data Transfer Error, counted
for an instance.
Choices of the model it rests on: log entries 4, 5 and 6. -/
def Obligations.CommandBeginsOnceAndFinishesOnce : Prop :=
  (∀ (s : State) (h : Hdr), s.power.held = true ∨ s.power.restart = true ∨ s.blockLost 5 = true ∨ s.ctx? h = none →
    s.begin h = none) ∧
  (∀ (s : State) (h : Hdr) (c : Ctx), s.power.held = false → s.power.restart = false → s.blockLost 5 = false →
    (h.sqid = 0 → s.blockLost 2 = false) → s.ctx? h = some c →
    (c.gen = (s.fn h.fn).gen → c.done = none → c.begun = false →
      (∀ e ∈ s.host.ctxs, e.hdr.fn = h.fn → e.gen = c.gen → e.stamp < c.stamp → e.begun = true ∨ e.done ≠ none) →
      ∃ a, s.begin h = some a ∧ a.ctx? h = some { c with begun := true } ∧ a = { s with host := a.host } ∧
        ∀ g, g ≠ h → a.ctx? g = s.ctx? g) ∧
    (c.gen ≠ (s.fn h.fn).gen ∨ c.done ≠ none ∨ c.begun = true → s.begin h = none) ∧
    ((∃ e ∈ s.host.ctxs, e.hdr.fn = h.fn ∧ e.gen = c.gen ∧ e.stamp < c.stamp ∧ e.begun = false ∧ e.done = none) →
      s.begin h = none)) ∧
  (∀ (s : State) (h : Hdr) (k : Cpl) (c : Ctx), s.ctx? h = some c →
    ∃ d, (s.finish h k).ctx? h = some d ∧ d.done = some (c.done.getD k) ∧ (c.done = none → d.chunks = [] ∧ d.doneNo = s.host.dones) ∧
      (∀ g, g ≠ h → (s.finish h k).ctx? g = s.ctx? g) ∧ s.finish h k = { s with host := (s.finish h k).host }) ∧
  (∀ (s a : State) (h : Hdr) (op act : Nat), s.begin h = some a →
    ((∃ c, a.ctx? h = some c ∧ c.fused = true) → exec (.invalidCommandOpcode h op act) s = .next (a.finish h ⟨⟨0, 0x01⟩, 0, 0⟩)) ∧
    (a.fusedGate h = none → h.sqid = 0 → a.adminGate = none →
      exec (.invalidCommandOpcode h op act) s = .next (a.finish h ⟨⟨0, 0x01⟩, 0, 0⟩)) ∧
    (a.fusedGate h = none → h.sqid ≠ 0 → a.ioGate = none → exec (.invalidCommandOpcode h op act) s
      = .next (a.finish h ⟨⟨0, if (op = 0x79 ∧ act = 0x10) ∨ (op = 0x7A ∧ act = 0x01) then 0x02 else 0x01⟩, 0, 0⟩))) ∧
  (∀ (s : State) (n : Fin 1024) (q i : Nat) (c : Ctx) (e : ReadEnd), e ≠ .ok → s.ctx? ⟨.inst n, q, i⟩ = some c →
    c.done = none →
    exec (.hostMemoryReadCompletion ⟨.inst n, q, i⟩ e) s
      = .next ((s.bump Obj.dteCount 1 n.val).finish ⟨.inst n, q, i⟩ ⟨⟨0, 0x04⟩, 0, 0⟩) ∧
    exec (.completionTimeout ⟨.inst n, q, i⟩) s
      = .next ((s.bump Obj.dteCount 1 n.val).finish ⟨.inst n, q, i⟩ ⟨⟨0, 0x04⟩, 0, 0⟩))

/-- R84, R85: the checks of queue creation in their order, each with its status and no queue created; where all pass the queue
exists, empty, with its size and base, and no other function changes. R86, R118: a completion queue that a submission queue is
bound to is not deleted, another one is; Delete I/O Submission Queue stops fetch from its queue, aborts the queue's commands
that are neither admitted nor have moved data with Command Aborted due to SQ Deletion, and is complete, the queue gone, once no
command of the queue is left.
Choices of the model it rests on: log entries 5 and 6. -/
def Obligations.QueuesAreCreatedAndDeleted : Prop :=
  (∀ (h : Hdr) (q : QueueArgs) (newCq : Cq) (newSq : Sq) (s a : State), Starts s h a →
    newCq = { size := q.qsize + 1, base := q.prp1, head := 0, tail := 0, phase := true } →
    newSq = { size := q.qsize + 1, base := q.prp1, cqid := q.cqid, prio := q.qprio, head := 0, tail := 0,
              bell := none, recorded := none, deleting := [] } →
    exec (.createIoCompletionQueue h q) s = .next (
      if q.pc = false then a.finish h ⟨⟨0, 0x02⟩, 0, 0⟩
      else if q.ien = true then a.finish h ⟨⟨1, 0x08⟩, 0, 0⟩
      else if q.qid = 0 ∨ a.qidLimit h.fn < q.qid ∨ (Tbl.find (a.fn h.fn).cqs q.qid).isSome then a.finish h ⟨⟨1, 0x01⟩, 0, 0⟩
      else if q.qsize = 0 ∨ 4095 < q.qsize then a.finish h ⟨⟨1, 0x02⟩, 0, 0⟩
      else if q.prp1 % (4096 * 2 ^ (a.fn h.fn).mps) ≠ 0 then a.finish h ⟨⟨0, 0x13⟩, 0, 0⟩
      else (a.setFn h.fn { a.fn h.fn with cqs := Tbl.put (a.fn h.fn).cqs q.qid newCq, ioMade := true }).finish h ⟨⟨0, 0⟩, 0, 0⟩) ∧
    exec (.createIoSubmissionQueue h q) s = .next (
      if q.pc = false then a.finish h ⟨⟨0, 0x02⟩, 0, 0⟩
      else if q.qid = 0 ∨ a.qidLimit h.fn < q.qid ∨ (Tbl.find (a.fn h.fn).sqs q.qid).isSome then a.finish h ⟨⟨1, 0x01⟩, 0, 0⟩
      else if q.qsize = 0 ∨ 4095 < q.qsize then a.finish h ⟨⟨1, 0x02⟩, 0, 0⟩
      else if q.prp1 % (4096 * 2 ^ (a.fn h.fn).mps) ≠ 0 then a.finish h ⟨⟨0, 0x13⟩, 0, 0⟩
      else if q.cqid = 0 ∨ Tbl.find (a.fn h.fn).cqs q.cqid = none then a.finish h ⟨⟨1, 0x00⟩, 0, 0⟩
      else (a.setFn h.fn { a.fn h.fn with sqs := Tbl.put (a.fn h.fn).sqs q.qid newSq, ioMade := true }).finish h ⟨⟨0, 0⟩, 0, 0⟩)) ∧
  (∀ (h : Hdr) (qid : Nat) (s a : State), Starts s h a → qid ≠ 0 →
    (Tbl.find (a.fn h.fn).cqs qid ≠ none →
      exec (.deleteIoCompletionQueue h qid) s = .next (
        if (a.fn h.fn).sqs.any (fun e => e.1 ≠ 0 && e.2.cqid = qid) then a.finish h ⟨⟨1, 0x0C⟩, 0, 0⟩
        else (a.setFn h.fn { a.fn h.fn with cqs := Tbl.del (a.fn h.fn).cqs qid }).finish h ⟨⟨0, 0⟩, 0, 0⟩)) ∧
    (∀ q, Tbl.find (a.fn h.fn).sqs qid = some q →
      (∃ t, exec (.deleteIoSubmissionQueue h qid) s = .next t ∧
        (∀ c ∈ a.host.ctxs, c.hdr.fn = h.fn → c.hdr.sqid = qid → c.done = none → c.admitted = false → c.moved = false →
          (∃ d ∈ t.host.ctxs, d.hdr = c.hdr ∧ d.done = some ⟨⟨0, 0x08⟩, 0, 0⟩) ∧
          ∃ p, Tbl.find (t.fn h.fn).sqs qid = some p ∧ p.unfetched = 0)) ∧
      ((∀ c ∈ a.host.ctxs, c.hdr.fn = h.fn → c.hdr.sqid ≠ qid) →
        ∃ t d, exec (.deleteIoSubmissionQueue h qid) s = .next t ∧ Tbl.find (t.fn h.fn).sqs qid = none ∧
          t.ctx? h = some d ∧ d.done = some ⟨⟨0, 0⟩, 0, 0⟩)))

/-- R87, R79: a doorbell write of a function that serves: a tail below the queue size is taken and a head at or behind the tail
frees the slots up to it; another value, or a queue that does not exist, changes no queue and raises the error event of its
kind; for a FROZEN instance the tail is recorded and the tail in force stays; in FENCING the write is ignored. The event
completes the oldest outstanding event request, or is held until one comes. R88 to R91, R106, R121, R371: while the host front
end is on, SERVICE is set and fetch is not paused, one burst is fetched from the queue chosen for the function that is served:
at most 64 commands, no more than were rung, than contexts are free, and than the completion queue's room; each takes a
context, in order, and the function's stamps rise by as many. Among eligible functions with a queue to fetch from, none has an
older unfetched doorbell write than the one served.
Choices of the model it rests on: log entries 5, 6, 27 and 121. -/
def Obligations.DoorbellsAndFetchFollowTheRings : Prop :=
  (∀ (f : Func) (qid v : Nat) (s : State), s.present f = true →
    ((s.fn f).state = .fencing → exec (.sqTailDoorbell f qid v) s = .next s ∧ exec (.cqHeadDoorbell f qid v) s = .next s) ∧
    ((s.fn f).state ≠ .fencing →
      (Tbl.find (s.fn f).sqs qid = none → exec (.sqTailDoorbell f qid v) s = .next (s.raise f .invalidDoorbellRegister)) ∧
      (Tbl.find (s.fn f).cqs qid = none → exec (.cqHeadDoorbell f qid v) s = .next (s.raise f .invalidDoorbellRegister)) ∧
      (∀ q, Tbl.find (s.fn f).sqs qid = some q →
        (q.size ≤ v → exec (.sqTailDoorbell f qid v) s = .next (s.raise f .invalidDoorbellValue)) ∧
        (v < q.size → ∃ t p, exec (.sqTailDoorbell f qid v) s = .next t ∧ Tbl.find (t.fn f).sqs qid = some p ∧
          p.head = q.head ∧ p.size = q.size ∧
          (if (s.fn f).state = .frozen ∨ s.draining f = true then p.recorded = some v ∧ p.tail = q.tail else p.tail = v) ∧
          (∀ j, j ≠ qid → Tbl.find (t.fn f).sqs j = Tbl.find (s.fn f).sqs j) ∧ (t.fn f).cqs = (s.fn f).cqs ∧
          (∀ g, g ≠ f → t.fn g = s.fn g) ∧ t = { s with host := t.host })) ∧
      (∀ q, Tbl.find (s.fn f).cqs qid = some q →
        (q.size ≤ v ∨ ringDist q.size q.head q.tail < ringDist q.size q.head v →
          exec (.cqHeadDoorbell f qid v) s = .next (s.raise f .invalidDoorbellValue)) ∧
        (v < q.size → ringDist q.size q.head v ≤ ringDist q.size q.head q.tail →
          exec (.cqHeadDoorbell f qid v) s
            = .next (s.setFn f { s.fn f with cqs := Tbl.put (s.fn f).cqs qid { q with head := v } })))) ∧
    ((s.fn f).state = .online →
      ((s.fn f).aers = [] → ((s.raise f .invalidDoorbellValue).fn f).events = (s.fn f).events ++ [.invalidDoorbellValue]) ∧
      (∀ h r c, (s.fn f).aers = h :: r → s.ctx? h = some c → c.done = none →
        ((s.raise f .invalidDoorbellValue).fn f).aers = r ∧
        ∃ d, (s.raise f .invalidDoorbellValue).ctx? h = some d ∧ d.done = some ⟨⟨0, 0⟩, 0x010100, 0⟩))) ∧
  ((∀ (es : List Sqe) (f : Func) (cls qid : Nat) (q : Sq) (s : State), (s.domain 5).state = .on → s.power.entry = none →
    s.blockLost 5 = false → s.host.paused = false → s.has Mode.service = true → s.nextFn = some f →
    s.basketThrottles f = false → s.pickQueue f = some (cls, qid) → Tbl.find (s.fn f).sqs qid = some q →
    (s.fn f).stamp < 2 ^ 64 →
    ∃ t n, exec (.commandFetch es) s = .next t ∧
      n = min es.length (min (min (s.fn f).burst q.unfetched) (min (s.ctxAvail f) (s.cqRoom f q))) ∧ n ≤ 64 ∧
      t.host.ctxs.map (fun c => (c.hdr, c.fused, c.dptr, c.begun, c.gen))
        = s.host.ctxs.map (fun c => (c.hdr, c.fused, c.dptr, c.begun, c.gen))
          ++ (es.take n).map (fun e => (⟨f, qid, e.cid⟩, e.fused, e.dptr, false, (s.fn f).gen)) ∧
      (t.fn f).stamp = ((s.fn f).stamp + n) % 2 ^ 64 ∧
      ∃ p, Tbl.find (t.fn f).sqs qid = some p ∧ p.head = (q.head + n) % q.size ∧ p.tail = q.tail) ∧
  (∀ (es : List Sqe) (s : State), s.host.paused = true ∨ (s.has Mode.service = false ∧ s.security.rom = false) →
    exec (.commandFetch es) s = .next s) ∧
  (∀ (f : Func) (s : State), s.nextFn = some f → ∃ b, (s.fn f).oldestBell = some b ∧
    ∀ e ∈ s.host.fns, ∀ (g : Func) (a : Nat), Func.ofCode e.1 = some g → s.fnEligible g = true →
      e.2.sqs.any (fun q => s.fetchable g q.2) = true → e.2.oldestBell = some a → b ≤ a))

/-- R108: of the commands that wait for entries of the address comparison table the one that began to wait first is served: it
takes all it needs in one step when they are to be had, and otherwise nobody takes any; up to 128 units it is one entry a unit,
else one a contiguous run, and runs that meet or touch are one. R51, R90, R91, R96: a finished command of the present
generation, whose completion queue has a free slot that no entry waits for, is posted: the next thing the device sends is its
entry at the queue's tail with the queue's phase, the tail goes to the next slot and the phase flips at the wrap, and its
context is gone; then what waited goes on. Where the queue is full, the entry waits, counted for an instance once.
Choices of the model it rests on: log entry 5. -/
def Obligations.EntriesArePostedInTurn : Prop :=
  ((∀ (s : State) (c : Ctx) (n : Nat), s.firstWaiter = some c → c.wait = .entries n →
    (∀ d ∈ s.host.ctxs, ∀ m, d.wait = .entries m → n ≤ m)) ∧
  (∀ (s : State) (c : Ctx), s.firstWaiter = some c →
    (s.entriesFit c.hdr.fn (entriesOf c.mods) = true → exec .overlapEntryGrant s
      = .next ((s.modCtx c.hdr fun x => { x with holds := true, wait := .order }).wakeOrdered c)) ∧
    (s.entriesFit c.hdr.fn (entriesOf c.mods) = false → exec .overlapEntryGrant s = .next s)) ∧
  (∀ nsid a b : Nat, entriesOf [(nsid, a, b)] = if b + 1 - a ≤ 128 then (b + 1 - a, 0) else (0, 1)) ∧
  (∀ nsid a b c d : Nat, a ≤ c → c ≤ b + 1 → b ≤ d → entriesOf [(nsid, a, b), (nsid, c, d)] = entriesOf [(nsid, a, d)])) ∧
  ((∀ (h : Hdr) (c : Ctx) (k : Cpl) (q : Cq) (s : State), s.ctx? h = some c → c.done = some k →
    c.gen = (s.fn h.fn).gen → Tbl.find (s.fn h.fn).cqs c.cqid = some q →
    (ringDist q.size q.head q.tail + 1 < q.size → s.spaceWaiter c = false →
      exec (.completionPost h) s = .next ((s.postEntry c q k).wakeAll.settleDurable)) ∧
    (q.size ≤ ringDist q.size q.head q.tail + 1 → ∀ n : Fin 1024, h.fn = .inst n → c.wait ≠ .space →
      exec (.completionPost h) s = .next (((s.modCtx h fun x => { x with wait := .space }).bump Obj.cqFullWaits 1
        n.val).wakeAll.settleDurable))) ∧
  (∀ (f : Func) (cqid : Nat) (c : Ctx) (k : Cpl) (q : Cq) (s : State), s.oldestWaiting f cqid = some c → c.done = some k →
    Tbl.find (s.fn f).cqs cqid = some q → ringDist q.size q.head q.tail + 1 < q.size →
    exec (.waitingEntryPost f cqid) s = .next ((s.postEntry c q k).wakeAll.settleDurable)) ∧
  (∀ (c : Ctx) (k : Cpl) (q : Cq) (s : State), (∀ x, Tbl.find (s.fn c.hdr.fn).sqs c.hdr.sqid = some x → x.deleting = []) →
    (s.postEntry c q k).out = s.out ++ [.entry c.hdr.fn.code c.cqid q.tail q.phase c.hdr.sqid
      ((Tbl.find (s.fn c.hdr.fn).sqs c.hdr.sqid).elim 0 (·.head)) c.hdr.cid k] ∧
    (∃ p, Tbl.find ((s.postEntry c q k).fn c.hdr.fn).cqs c.cqid = some p ∧ p.tail = (q.tail + 1) % q.size ∧
      p.head = q.head ∧ p.phase = (if (q.tail + 1) % q.size = 0 then !q.phase else q.phase)) ∧
    (s.postEntry c q k).ctx? c.hdr = none))

/-- R93 to R95, R98 to R100: a line write carries the state at its moment, SEQ one higher and SEQ_ECHO equal to it, and bit q −
1 of its map exactly when I/O completion queue q holds an unreleased entry. Set Features C0h with EN 1 is a fresh enable,
written at once with SEQ 1 and POSTED 0; a DELAY above 80 changes nothing; EN 0 stops the line and keeps its
DELAY. C1h from an instance ends with
Invalid Field, and an enabled manager's halves are written when they differ.
Choices of the model it rests on: log entries 6 and 30. -/
def Obligations.SummaryLineShowsTheQueues : Prop :=
  (∀ (f : Func) (l : Line) (s : State), (s.fn f).line = some l → s.lineDue f = true →
    ∃ t i, exec (.summaryLineWrite f) s = .next t ∧ t.out = s.out ++ [.line f.code l.address i] ∧ i.seq = l.seq + 1 ∧
      i.seqEcho = i.seq ∧ i.posted = l.posted ∧ i.paused = s.host.paused ∧
      (∀ n, n < 64 → (i.cqMap.getLsbD n = true ↔ ∃ q, (n + 1, q) ∈ (s.fn f).cqs ∧ ringDist q.size q.head q.tail ≠ 0)) ∧
      t = { s with host := t.host, out := t.out }) ∧
  (∀ (h : Hdr) (addr delay : Nat) (s a : State), Starts s h a →
    (delay % 256 ≤ 80 → addr / 64 ≠ 0 → ∃ t i, exec (.setCompletionSummaryLine h false true addr delay) s = .next t ∧
      t.out = a.out ++ [.line h.fn.code (addr / 64 * 64) i] ∧ i.seq = 1 ∧ i.seqEcho = 1 ∧ i.posted = 0) ∧
    (80 < delay % 256 → ∀ en, exec (.setCompletionSummaryLine h false en addr delay) s = .next (a.finish h ⟨⟨0, 0x02⟩, 0, 0⟩)) ∧
    (delay % 256 ≤ 80 → exec (.setCompletionSummaryLine h false false addr delay) s
      = .next ((a.setFn h.fn { a.fn h.fn with line := none, lineDelay := delay % 256 }).finish h ⟨⟨0, 0⟩, 0, 0⟩)) ∧
    (∀ en, exec (.setCompletionSummaryLine h true en addr delay) s = .next (a.finish h ⟨⟨1, 0x0D⟩, 0, 0⟩)) ∧
    (h.fn.isManager = false → ∀ en,
      exec (.setInstanceSummary h false en addr delay) s = .next (a.finish h ⟨⟨0, 0x02⟩, 0, 0⟩)) ∧
    (h.fn = .pf0 → delay % 256 ≤ 80 → addr / 128 ≠ 0 → ∃ t, exec (.setInstanceSummary h false true addr delay) s = .next t ∧
      t.out = a.out ++ [.summary .a (addr / 128 * 128) false (a.summaryHalf .a false),
        .summary .a (addr / 128 * 128) true (a.summaryHalf .a true)])) ∧
  (∀ (upper : Bool) (m : ISum) (s : State), s.host.isumA = some m →
    s.summaryHalf .a upper ≠ (if upper then m.upper else m.lower) →
    s.lineFirst .a upper m = false →
    ∃ t, exec (.instanceSummaryWrite .a upper) s = .next t ∧
      t.out = s.out ++ [.summary .a m.address upper (s.summaryHalf .a upper)])

/-! ### Frames, shares and the die -/

/-- R123 to R126, R130: the frame closes at its planned end, not before, with its late items counted once; late work is
handed over one by one; a frame opens only when the frame before has closed, numbered and ended by the rule of R125, or by
that of R126 where slots have passed, and every holder's bank grows by its share of the capacity for the frame's length and
is capped. Choices of the model it rests on: log entries 31 and 35. -/
def Obligations.FramesCloseAndOpenByTheGrid : Prop :=
  (∀ (t late : Nat) (s : State), max s.now t < s.sched.planned → exec (.framePlannedEnd t late) s = .next (s.tick t)) ∧
  (∀ (t late : Nat) (s : State), s.sched.running = true → s.sched.isOpen = true → s.has Mode.holdUp = false →
    s.sched.planned ≤ t →
    ∃ u, exec (.framePlannedEnd t late) s = .next u ∧ u.sched.isOpen = false ∧ u.sched.late = late ∧
      u.sched.k = s.sched.k ∧ u.sched.planned = s.sched.planned ∧ u.host = s.host ∧ u.store = (s.tick t).store ∧ u.flash = s.flash ∧
      (0 < late → s.cfg Obj.overruns < 2 ^ 32 - 1 → u.cfg Obj.overruns = s.cfg Obj.overruns + 1)) ∧
  (∀ (t : Nat) (s : State), ∃ u, exec (.lateWorkHandover t) s = .next u ∧ u.sched.late = s.sched.late - 1 ∧
    u = { s.tick t with sched := { s.sched with late := u.sched.late } }) ∧
  (∀ (t f : Nat) (s : State), s.power.entry = none → f = 1000 * s.cfg Obj.frameUs → 0 < f → s.nextF = s.cfg Obj.frameUs →
    (s.sched.isOpen = true ∨ 0 < s.sched.late ∨ s.has Mode.holdUp = true →
      exec (.frameBoundary t) s = .next (s.tick t)) ∧
    (s.sched.running = true → s.sched.isOpen = false → s.sched.late = 0 → s.has Mode.holdUp = false → s.now ≤ t →
      (t < s.sched.t0 + (s.sched.k + 2) * f → exec (.frameBoundary t) s = .next ((s.tick t).countOverrun.openFrame
        (s.sched.k + 1) (max (s.sched.t0 + (s.sched.k + 2) * f) (max (s.sched.planned + 8 * f / 10) (t + 6 * f / 10))))) ∧
      (∀ j, s.sched.t0 + (s.sched.k + 2) * f ≤ t → s.sched.t0 + j * f ≤ t → t < s.sched.t0 + (j + 1) * f →
        exec (.frameBoundary t) s = .next (((s.tick t).countOverrun.skipSlots (j - (s.sched.k + 1))).openFrame j
          (max (s.sched.t0 + (j + 1) * f) (max t (t + 6 * f / 10))))))) ∧
  (∀ (s : State) (len f : Nat) (n : Fin 1024), (s.fn (.inst n)).state = .online → s.cfg Obj.freezePhase n.val = 0 →
    let b := (s.growInstance len f n.val).bank n.val
    b.read = min ((s.bank n.val).read + (s.readCap * s.cfg Obj.readShare n.val * len / (10000 * f) : Nat))
      ((max (s.cfg Obj.carryFrames * (s.readCap * s.cfg Obj.readShare n.val / 10000)) 4096 : Nat) : Int) ∧
    b.write = min ((s.bank n.val).write + (s.writeCap * s.cfg Obj.writeShare n.val * len / (10000 * f) : Nat))
      ((max (s.cfg Obj.carryFrames * (s.writeCap * s.cfg Obj.writeShare n.val / 10000)) 1024 : Nat) : Int)) ∧
  (∀ (s : State) (len f : Nat) (n : Fin 1024), (s.fn (.inst n)).state = .offline ∨ (s.fn (.inst n)).state = .absent →
    (s.growInstance len f n.val).bank n.val = Bank.zero)

/-- R122, R129, R131, R132: an instance's chunk is charged to its bank, or in step 3 to the capacity left unspent, a manager's
only to the latter, and it waits where the charge is not covered; no chunk is admitted in HOLD-UP; a background chunk is
admitted once its task's bank covers both its charges, and leaves the queue; R325: not while its task presses on Basket at the
throttle level; R145: a window ends after 1,000,000 covered reads, and one above the contract's bound is a miss.
Choices of the model it rests on: log entries 31 and 32. -/
def Obligations.ChunksAreChargedToTheirHolders : Prop :=
  (∀ (s : State) (n : Fin 1024) (k : Nat), s.draining (.inst n) = false →
    s.pay (.inst n) .read k false = (if (k : Int) ≤ (s.bank n.val).read then
      some ((s.setBank n.val { s.bank n.val with read := (s.bank n.val).read - k }).spend .read k) else none) ∧
    s.pay .pf0 .read k false = none ∧ s.pay .pf1 .write k false = none ∧
    s.pay (.inst n) .read k true = (if k ≤ s.sched.leftRead then
      some { s with sched := { s.sched with leftRead := s.sched.leftRead - k } } else none)) ∧
  (∀ (c : ChunkOf) (s : State), s.has Mode.holdUp = true → exec (.chunkAdmit c) s = .next s) ∧
  (∀ (h : Hdr) (s : State), s.has Mode.holdUp = false →
    exec (.chunkAdmit (.host h)) s = .next ((((s.admitMany h false (s.waitingChunks h)).noteHeld h).noteWrites).settleCtx h)) ∧
  (∀ (id : Nat) (c : BgChunk) (s : State), s.sched.bg.find? (·.id = id) = some c → s.bgOpen = true →
    (s.taskPresses 2 c.task = true → exec (.chunkAdmit (.background id)) s = .next s) ∧
    (s.taskPresses 2 c.task = false → s.taskPresses 3 c.task = false →
      (c.readCost : Int) ≤ (s.bank c.task.holder).read → (c.writeCost : Int) ≤ (s.bank c.task.holder).write →
      ∃ a : State, exec (.chunkAdmit (.background id)) s = .next (a.doBg c.work) ∧
        (a.bank c.task.holder).read = (s.bank c.task.holder).read - c.readCost ∧
        (a.bank c.task.holder).write = (s.bank c.task.holder).write - c.writeCost ∧
        a.sched.bg = s.sched.bg.filter (·.id ≠ id) ∧ a = { s with sched := a.sched }) ∧
    ((s.bank c.task.holder).read < c.readCost → exec (.chunkAdmit (.background id)) s = .next s)) ∧
  (∀ (n : Fin 1024) (v : Nat) (s : State), Tbl.get 0 s.sched.windows n.val < 1000000 →
    exec (.contractWindowEnd n v) s = .next s) ∧
  (∀ (n : Fin 1024) (v : Nat) (s : State), s.cfg Obj.contractBound n.val ≠ 0 → 1000000 ≤ Tbl.get 0 s.sched.windows n.val →
    ∃ t, exec (.contractWindowEnd n v) s = .next t ∧ t.host = s.host ∧ t.store = s.store ∧
      Tbl.get 0 t.sched.windows n.val = Tbl.get 0 s.sched.windows n.val - 1000000 ∧
      (v ≤ s.cfg Obj.contractBound n.val → t = { s.keep Obj.contractMeasured v n.val with sched := t.sched }) ∧
      (s.cfg Obj.contractBound n.val < v → s.cfg Obj.contractMiss n.val < 2 ^ 32 - 1 →
        t.cfg Obj.contractMiss n.val = s.cfg Obj.contractMiss n.val + 1))

/-- R134 to R136: of the operations at the heads of the free LUNs none stands before the one that is issued; it is issued
alone, and only when the free tokens cover it, and it leaves its queue for its die; while it waits for tokens nothing else is
issued; a program or erase that has waited 0x2200.09 frames passes other reads. R122: HOLD-UP issues nothing. -/
def Obligations.OperationsIssueInStrictOrder : Prop :=
  (∀ (s : State) (l : Nat) (o : LunOp), s.firstHead = some (l, o) → (l, o) ∈ s.heads ∧
    (∀ e ∈ s.heads, e.2.before o = false)) ∧
  (∀ (t l : Nat) (o : LunOp) (s : State), s.has Mode.holdUp = false → s.now ≤ t → s.firstHead = some (l, o) →
    (o.tokens ≤ s.tokensFree → ∃ u b, exec (.operationIssue t) s = .next u ∧ (u.lun l).busy = some b ∧ b.op = o ∧
      b.since = t ∧ b.suspends = 0 ∧ b.suspended = false ∧ (u.lun l).queue = (s.lun l).queue.filter (·.id ≠ o.id) ∧
      (∀ m, m ≠ l → u.lun m = s.lun m) ∧ u.host = s.host ∧ u.modes = s.modes) ∧
    (s.tokensFree < o.tokens → ∃ u, exec (.operationIssue t) s = .next u ∧ (∀ m, (u.lun m).busy = (s.lun m).busy) ∧
      u.host = s.host ∧ u.store = (s.tick t).store)) ∧
  (∀ (t : Nat) (s : State), s.has Mode.holdUp = true → exec (.operationIssue t) s = .next (s.tick t)) ∧
  (∀ (l : Fin 4096) (id : Nat) (s : State), ∃ u, exec (.progAgePromote l id) s = .next u ∧
    (u.lun l.val).queue = (s.lun l.val).queue.map (fun o =>
      if o.id = id ∧ (o.cls = .program ∨ o.cls = .erase) ∧ o.frame + s.cfg Obj.progAge ≤ s.cfg Obj.frameCount
      then { o with cls := .aged } else o) ∧
    (∀ m, m ≠ l.val → u.lun m = s.lun m) ∧ u = { s with flash := u.flash })

/-- R139, R140, R220: a die that reports suspended serves at most 0x2200.23 of its queued reads, the rest stay queued, and its
operation counts one suspension more; with no read left to serve the operation resumes. A die that reports ready frees its
operation's place. R219: a program that times out has failed; a LUN that does not become ready after Reset LUN is lost; R220: a
suspend timeout is taken only from a LUN that was asked.
Choices of the model it rests on: log entry 33. -/
def Obligations.DieReportsEndOperations : Prop :=
  (∀ (l : Fin 4096) (t : Nat) (b : Busy) (s : State), (s.lun l.val).busy = some b → b.asking = true → b.suspended = false →
    ∃ u, exec (.suspendReported l true t) s = .next u ∧ (∀ m, m ≠ l.val → u.lun m = s.lun m) ∧
      (((s.lun l.val).queue.filter (s.servable l.val b)).length ≥ 1 → 1 ≤ s.cfg Obj.suspendReads →
        ∃ c o, (u.lun l.val).busy = some c ∧ c.suspended = true ∧ c.suspends = b.suspends + 1 ∧ c.op = b.op ∧
          c.serving = some o ∧ o.kind.isRead = true ∧ c.toServe.length + 1 ≤ s.cfg Obj.suspendReads)) ∧
  (∀ (l : Fin 4096) (ok : Bool) (t : Nat) (b : Busy) (s : State), (s.lun l.val).busy = some b → b.suspended = false →
    exec (.operationReady l ok t) s = .next (State.opDone
      ((s.tick t).setLun l.val { s.lun l.val with busy := none }) l.val b.op ok)) ∧
  (∀ (l : Fin 4096) (t : Nat) (b : Busy) (s : State), (s.lun l.val).busy = some b → b.suspended = true → b.serving = none →
    b.toServe = [] → ∃ u c, exec (.operationReady l true t) s = .next u ∧ (u.lun l.val).busy = some c ∧
      c.suspended = false ∧ c.op = b.op ∧ c.since = max s.now t ∧ c.ends = max s.now t + b.ends) ∧
  (∀ (l : Fin 4096) (t : Nat) (s : State), (s.lun l.val).busy = none →
    exec (.operationReady l true t) s = .next (s.tick t) ∧
    exec (.suspendReported l true t) s = .next (s.tick t) ∧
    exec (.suspendTimeout l true t) s = .next (s.tick t)) ∧
  (∀ (l : Fin 4096) (t : Nat) (b : Busy) (s : State), (s.lun l.val).busy = some b →
    exec (.readyTimeout l false t) s = .next (((s.tick t).loseLun l.val).settleAll) ∧
    (b.asking = true → exec (.suspendTimeout l false t) s
      = .next (((s.tick t).loseLun l.val).settleAll))) ∧
  (∀ (c : Fin 64) (s : State), exec (.channelPhyFault c) s = .next ((s.loseChannel c.val).settleAll))

/-! ### I/O commands, namespaces and zones -/

/-- R131: the chunks of a range are one for each map unit of it, their masks cover exactly its LBAs, and a read's charge is one
credit an LBA, a write's one credit. R101, R173: a Read, Compare or Verify that passes its checks and need not wait gives its
context the chunks of its range, and they reach the scheduler; nothing else changes before. One that fails a check ends with
that check's status, Sanitize In Progress where SANITIZE is set, Invalid Namespace where there is none.
Choices of the model it rests on: log entries 5, 6, 32 and 122. -/
def Obligations.ReadsReachTheSchedulerByUnits : Prop :=
  (∀ (k : CreditKind) (nsid slba n : Nat), 0 < n →
    (∀ l, slba ≤ l → l < slba + n → ∃ c ∈ chunksOf k nsid slba n 0, c.unit = l / 4 ∧ c.mask.getLsbD (l % 4) = true) ∧
    ((chunksOf k nsid slba n 0).map (·.unit)).Nodup ∧
    (∀ c ∈ chunksOf k nsid slba n 0, c.nsid = nsid ∧
      (∀ i, i < 4 → c.mask.getLsbD i = true → slba ≤ 4 * c.unit + i ∧ 4 * c.unit + i < slba + n) ∧
      c.charge = (if k = .read then (maskLbas c.mask).length * 1024 else 1024))) ∧
  (∀ (h : Hdr) (r : ReadArgs) (s a b : State) (c : Ctx), IoStarts s h a → r.fua = false →
    Launches a h [] [unitRun r.range.nsid r.range.slba (r.range.nlb + 1)] b → b.ctx? h = some c →
    (∀ u ∈ unitsOf r.range.slba (r.range.nlb + 1), a.zoneBusy r.range.nsid u = false) →
    (a.readCheck h true r = none → ∃ (t : State) (d : Ctx), exec (.read h r) s = .next (t.admitFor h false) ∧ t.ctx? h = some d ∧
      d.chunks = chunksOf .read r.range.nsid r.range.slba (r.range.nlb + 1) 0 ∧ d.lba = r.range.slba ∧
      d.purpose = .toHost ∧ d.keyTag = r.keyTag ∧ d.stamp = c.stamp ∧ (∀ g, g ≠ h → t.ctx? g = b.ctx? g) ∧
      t = { b with host := t.host }) ∧
    (a.readCheck h false r = none → ∃ (t : State) (d : Ctx), exec (.compare h r) s = .next (t.admitFor h false) ∧ t.ctx? h = some d ∧
      d.chunks = chunksOf .read r.range.nsid r.range.slba (r.range.nlb + 1) 0 ∧ d.expect = r.expect ∧ d.expectMetas = r.expectMetas ∧
      d.purpose = .compare ∧ (∀ g, g ≠ h → t.ctx? g = b.ctx? g) ∧ t = { b with host := t.host }) ∧
    (∀ x, a.readGate = none → a.nsCheck h.fn r.range.nsid = .ok x → a.keyCheck x r.range.nsid none = none →
      r.range.slba + r.range.nlb + 1 ≤ x.nsze →
      ∃ (t : State) (d : Ctx), exec (.verify h r.range r.prinfo) s = .next (t.admitFor h false) ∧ t.ctx? h = some d ∧
        d.chunks = chunksOf .read r.range.nsid r.range.slba (r.range.nlb + 1) 0 ∧ d.purpose = .verify ∧
        (∀ g, g ≠ h → t.ctx? g = b.ctx? g) ∧ t = { b with host := t.host })) ∧
  (∀ (h : Hdr) (r : ReadArgs) (s a : State), IoStarts s h a → a.has Mode.factory = false →
    (a.has Mode.sanitize = true → exec (.read h r) s = .next (a.finish h ⟨⟨0, 0x1D⟩, 0, 0⟩) ∧
      exec (.compare h r) s = .next (a.finish h ⟨⟨0, 0x1D⟩, 0, 0⟩) ∧
      exec (.verify h r.range r.prinfo) s = .next (a.finish h ⟨⟨0, 0x1D⟩, 0, 0⟩)) ∧
    (a.has Mode.sanitize = false → a.ns? r.range.nsid = none →
      exec (.read h r) s = .next (a.finish h ⟨⟨0, 0x0B⟩, 0, 0⟩) ∧
      exec (.compare h r) s = .next (a.finish h ⟨⟨0, 0x0B⟩, 0, 0⟩) ∧
      exec (.verify h r.range r.prinfo) s = .next (a.finish h ⟨⟨0, 0x0B⟩, 0, 0⟩)))

/-- R111, R131, R158, R180: a Write to a page-mapped namespace that passes its checks and need not wait gives its context one
chunk a map unit, with its data; on an open zone a Write at the write pointer that fits is assigned its LBAs, the pointer moves
by their number and a zone written to ZCAP is Full, while a Write elsewhere ends with Zone Invalid Write and one to a Full zone
with Zone Is Full; a Zone Append is assigned the LBA at the write pointer and returns it; a Copy to a page-mapped namespace
gives its context one chunk a map unit of its destination. READ-ONLY ends all three with Namespace is Write Protected.
Choices of the model it rests on: log entries 6, 28 and 29. -/
def Obligations.WritesReachTheSchedulerInPosition : Prop :=
  (∀ (h : Hdr) (w : WriteArgs) (s a b : State) (c : Ctx) (x : Ns), IoStarts s h a →
    a.writeCheck h w false = none → Launches a h [unitRun w.range.nsid w.range.slba (w.range.nlb + 1)] [] b →
    b.ctx? h = some c → a.ns? w.range.nsid = some x →
    (x.kind ≠ .zoned → ∃ (t : State) (d : Ctx), exec (.write h w) s = .next (t.admitFor h false) ∧ t.ctx? h = some d ∧
      d.chunks = chunksOf .write w.range.nsid w.range.slba (w.range.nlb + 1) 0 ∧ d.data = w.data ∧
        d.metas = x.metasFor w w.range.slba ∧
      d.lba = w.range.slba ∧ d.fua = (w.fua || !(a.fn h.fn).wce || decide (a.dirtyLimit = 0)) ∧
      (∀ g, g ≠ h → t.ctx? g = b.ctx? g) ∧ t = { b with host := t.host }) ∧
    (x.kind = .zoned → ((x.zone (w.range.slba / a.zsze x.width)).state = .full →
        exec (.write h w) s = .next (b.finish h ⟨⟨1, 0xB9⟩, 0, 0⟩)) ∧
      ((x.zone (w.range.slba / a.zsze x.width)).state.isOpen = true →
        (w.range.slba % a.zsze x.width ≠ (x.zone (w.range.slba / a.zsze x.width)).wp →
          exec (.write h w) s = .next (b.finish h ⟨⟨1, 0xBC⟩, 0, 0⟩)) ∧
        ((x.zone (w.range.slba / a.zsze x.width)).wp + w.range.nlb + 1 ≤ a.zcap x.width →
          w.range.slba % a.zsze x.width = (x.zone (w.range.slba / a.zsze x.width)).wp →
          (x.zone (w.range.slba / a.zsze x.width)).stripe ≠ none → ∃ (t : State) (d : Ctx) (y : Ns),
            exec (.write h w) s = .next (t.admitFor h false) ∧
            t.ctx? h = some d ∧ d.chunks = chunksOf .write w.range.nsid w.range.slba (w.range.nlb + 1) 0 ∧
            t.ns? w.range.nsid = some y ∧ (y.zone (w.range.slba / a.zsze x.width)).wp
              = (x.zone (w.range.slba / a.zsze x.width)).wp + w.range.nlb + 1 ∧
            ((y.zone (w.range.slba / a.zsze x.width)).state = .full ↔
              (x.zone (w.range.slba / a.zsze x.width)).wp + w.range.nlb + 1 = a.zcap x.width))))) ∧
  (∀ (h : Hdr) (w : WriteArgs) (s a b : State) (c : Ctx) (x : Ns), IoStarts s h a →
    a.writeCheck h w true = none → Launches a h [a.appendRun w] [] b →
    b.ctx? h = some c → a.ns? w.range.nsid = some x →
    (x.zone (w.range.slba / a.zsze x.width)).state.isOpen = true → (x.zone (w.range.slba / a.zsze x.width)).stripe ≠ none →
    (x.zone (w.range.slba / a.zsze x.width)).wp + w.range.nlb + 1 ≤ a.zcap x.width →
    ∃ (t : State) (d : Ctx) (l : Nat), exec (.zoneAppend h w) s = .next (t.admitFor h false) ∧ t.ctx? h = some d ∧
      l = w.range.slba + (x.zone (w.range.slba / a.zsze x.width)).wp ∧ d.lba = l ∧ d.dw0 = l % 2 ^ 32 ∧
      d.dw1 = l / 2 ^ 32 % 2 ^ 32 ∧ d.chunks = chunksOf .write w.range.nsid l (w.range.nlb + 1) 0) ∧
  (∀ (h : Hdr) (p : CopyArgs) (s a b : State) (c : Ctx) (x : Ns), IoStarts s h a →
    a.copyCheck h p = none → Launches a h [unitRun p.nsid p.sdlba (copyLen p.ranges)]
      (p.ranges.map fun r => unitRun p.nsid r.slba (r.nlb + 1)) b → b.ctx? h = some c → a.ns? p.nsid = some x →
    x.kind ≠ .zoned → ∃ (t : State) (d : Ctx), exec (.copy h p) s = .next (t.admitFor h false) ∧ t.ctx? h = some d ∧
      d.chunks = copyChunks p.nsid p.sdlba p.ranges ∧ d.dst = some (p.nsid, p.sdlba) ∧ d.purpose = .copy ∧
      (∀ g, g ≠ h → t.ctx? g = b.ctx? g) ∧ t = { b with host := t.host }) ∧
  (∀ (h : Hdr) (w : WriteArgs) (p : CopyArgs) (s a : State), IoStarts s h a →
    a.has Mode.factory = false → a.has Mode.sanitize = false → a.has Mode.readOnly = true → p.format = 0 →
    exec (.write h w) s = .next (a.finish h ⟨⟨0, 0x20⟩, 0, 0⟩) ∧ exec (.zoneAppend h w) s = .next (a.finish h ⟨⟨0, 0x20⟩, 0, 0⟩) ∧
    exec (.copy h p) s = .next (a.finish h ⟨⟨0, 0x20⟩, 0, 0⟩))

/-- R181: Write Zeroes, and Dataset Management with Deallocate, of one whole map unit of a page-mapped namespace leave it
UNMAPPED, Write Uncorrectable leaves it UNCORRECTABLE, whatever held it before, and the command ends with Success; without
Deallocate nothing changes. R116, R117: a Flush ends at once where nothing it covers waits, and does not end while an earlier
command of its function that modifies its namespace is not finished.
Choices of the model it rests on: log entries 5, 6, 28 and 45. -/
def Obligations.MapCommandsActAtOnceAndFlushWaits : Prop :=
  (∀ (h : Hdr) (nsid u : Nat) (deac : Bool) (s a b : State) (x : Ns) (c : Ctx), IoStarts s h a →
    a.ns? nsid = some x → x.kind ≠ .zoned → Launches a h [(nsid, u, u)] [] b → b.ctx? h = some c → c.done = none →
    (∀ k, a.slotOf nsid u = some k → ∃ y, a.slot? k = some y ∧ y.nsid = nsid ∧ y.unit = u) →
    (a.mapCheck h ⟨nsid, 4 * u, 3⟩ 65536 = none →
      (∃ t d, exec (.writeZeroes h ⟨nsid, 4 * u, 3⟩ deac) s = .next t ∧ t.locate nsid u = .unmapped ∧
        t.ctx? h = some d ∧ d.done = some ⟨⟨0, 0⟩, 0, 0⟩ ∧ (∀ v, v ≠ u → t.locate nsid v = a.locate nsid v)) ∧
      (∃ t d, exec (.writeUncorrectable h ⟨nsid, 4 * u, 3⟩) s = .next t ∧ t.locate nsid u = .uncorrectable ∧
        t.ctx? h = some d ∧ d.done = some ⟨⟨0, 0⟩, 0, 0⟩ ∧ (∀ v, v ≠ u → t.locate nsid v = a.locate nsid v))) ∧
    (a.dsmCheck h nsid true [⟨nsid, 4 * u, 3⟩] = none →
      ∃ t d, exec (.datasetManagement h nsid true [⟨nsid, 4 * u, 3⟩]) s = .next t ∧ t.locate nsid u = .unmapped ∧
        t.ctx? h = some d ∧ d.done = some ⟨⟨0, 0⟩, 0, 0⟩ ∧ (∀ v, v ≠ u → t.locate nsid v = a.locate nsid v))) ∧
  (∀ (h : Hdr) (nsid : Nat) (rs : List Range) (s a b : State), IoStarts s h a →
    a.dsmCheck h nsid false rs = none → Launches a h [] [] b →
    exec (.datasetManagement h nsid false rs) s = .next (b.finish h ⟨⟨0, 0⟩, 0, 0⟩)) ∧
  (∀ (h : Hdr) (s a : State) (c : Ctx), IoStarts s h a → a.readGate = none → a.ctx? h = some c →
    c.done = none → c.chunks = [] → c.open_ = 0 → c.err = none → c.purpose = .none → c.data = [] → c.need = [] →
    c.page = 0 → c.pi = none →
    (a.store.slots = [] → a.lastPage ≤ a.store.journal.durable → (∀ e ∈ a.host.ctxs, e.mods = []) →
      ∃ t d, exec (.flush h 0xFFFFFFFF) s = .next t ∧ t.ctx? h = some d ∧ d.done.map (·.status) = some ⟨0, 0⟩) ∧
    (∀ e ∈ a.host.ctxs, e.hdr.fn = h.fn → e.hdr ≠ h → e.stamp < c.stamp → e.done = none → e.gen = c.gen → e.mods ≠ [] →
      ∃ t d, exec (.flush h 0xFFFFFFFF) s = .next t ∧ t.ctx? h = some d ∧ d.done = none))

/-- R156, R158, R165, R170: Zone Management Send on one zone that passes its checks: Close, Open, Finish, Reset and Offline
take the zone to Closed, Explicitly Opened, Full, Empty (write pointer 0, digest NONE, no stripe, epoch as before) and Offline
from the states that the command set names, and end with Invalid Zone State Transition from the others; an Open beyond the
active or open limit ends with Too Many Active or Too Many Open Zones.
Choices of the model it rests on: log entries 6, 9 and 29. -/
def Obligations.ZoneManagementMovesTheState : Prop :=
  ∀ (h : Hdr) (nsid slba z : Nat) (s a : State) (x : Ns) (c : Ctx), IoStarts s h a →
    a.sendCheck h nsid slba false = none → a.ns? nsid = some x → z = slba / a.zsze x.width → a.ctx? h = some c → c.done = none →
    (exec (.zoneClose h nsid slba false) s = .next (
      if (x.zone z).state = .closed then a.finish h ⟨⟨0, 0⟩, 0, 0⟩
      else if (x.zone z).state.isOpen then (a.zoneTo nsid z fun y => { y with state := .closed }).finish h ⟨⟨0, 0⟩, 0, 0⟩
      else a.finish h ⟨⟨1, 0xBF⟩, 0, 0⟩)) ∧
    ((x.zone z).state = .full ∨ (x.zone z).state = .readOnly ∨ (x.zone z).state = .offline →
      exec (.zoneOpen h nsid slba false) s = .next (a.finish h ⟨⟨1, 0xBF⟩, 0, 0⟩)) ∧
    ((x.zone z).state = .empty → x.maxActive ≤ x.activeZones →
      exec (.zoneOpen h nsid slba false) s = .next (a.finish h ⟨⟨1, 0xBD⟩, 0, 0⟩)) ∧
    ((x.zone z).state = .closed → x.maxOpen ≤ x.openZones → (∀ e ∈ x.zones, e.2.state ≠ .implicitOpen) →
      exec (.zoneOpen h nsid slba false) s = .next (a.finish h ⟨⟨1, 0xBE⟩, 0, 0⟩)) ∧
    ((x.zone z).state = .closed ∨ ((x.zone z).state = .empty ∧ x.activeZones < x.maxActive) → x.openZones < x.maxOpen →
      ∃ t y, exec (.zoneOpen h nsid slba false) s = .next t ∧ t.ns? nsid = some y ∧ (y.zone z).state = .explicitOpen ∧
        (y.zone z).wp = (x.zone z).wp ∧ ∀ v, v ≠ z → y.zone v = x.zone v) ∧
    ((x.zone z).state = .readOnly ∨ (x.zone z).state = .offline →
      exec (.zoneFinish h nsid slba false) s = .next (a.finish h ⟨⟨1, 0xBF⟩, 0, 0⟩) ∧
      exec (.zoneReset h nsid slba false) s = .next (a.finish h ⟨⟨1, 0xBF⟩, 0, 0⟩)) ∧
    ((x.zone z).state.isActive = true ∨ (x.zone z).state = .empty →
      ∃ t y d, exec (.zoneFinish h nsid slba false) s = .next t ∧ t.ns? nsid = some y ∧ (y.zone z).state = .full ∧
        (y.zone z).wp = (x.zone z).wp ∧ t.ctx? h = some d ∧ d.done = some ⟨⟨0, 0⟩, 0, 0⟩) ∧
    ((x.zone z).state.isActive = true ∨ (x.zone z).state = .full →
      ∃ t y d, exec (.zoneReset h nsid slba false) s = .next t ∧ t.ns? nsid = some y ∧ (y.zone z).state = .empty ∧
        (y.zone z).wp = 0 ∧ (y.zone z).dstate = .none ∧ (y.zone z).stripe = none ∧ (y.zone z).epoch = (x.zone z).epoch ∧
        t.ctx? h = some d ∧ d.done = some ⟨⟨0, 0⟩, 0, 0⟩ ∧ ∀ v, v ≠ z → y.zone v = x.zone v) ∧
    ((x.zone z).state = .readOnly → ∃ t y, exec (.zoneOffline h nsid slba false) s = .next t ∧ t.ns? nsid = some y ∧
      (y.zone z).state = .offline ∧ ∀ v, v ≠ z → y.zone v = x.zone v) ∧
    ((x.zone z).state = .full → exec (.zoneOffline h nsid slba false) s = .next (a.finish h ⟨⟨1, 0xBF⟩, 0, 0⟩))

/-- R169, R171: Secure Reset on a namespace without per-zone keys ends with Invalid Field, of a Read Only or Offline zone with
Invalid Zone State Transition; one of a zone whose Secure Reset is in progress waits; its last steps leave no cell with the
zone's old key and the zone Empty under the next epoch, or, at the last epoch, Offline. R156, R167: Report Zones and Zone Digest
Report answer with as many descriptors of 64 bytes as fit behind a header of 64 in the NUMD + 1 dwords asked for, of zones from
SLBA on, and with the number of all that match unless Partial Report is set; a digest is given only where DSTATE is FINAL;
neither changes a zone.
Choices of the model it rests on: log entries 6, 43 and 123. -/
def Obligations.SecureResetDropsTheOldKey : Prop :=
  (∀ (h : Hdr) (nsid slba : Nat) (s a : State) (x : Ns), IoStarts s h a →
    a.sendCheck h nsid slba false = none → a.ns? nsid = some x →
    (x.word.keyMode = false → exec (.secureReset h nsid slba false) s = .next (a.finish h ⟨⟨0, 0x02⟩, 0, 0⟩)) ∧
    (x.word.keyMode = true → (x.zone (slba / a.zsze x.width)).resetting = none →
      (x.zone (slba / a.zsze x.width)).state = .readOnly ∨ (x.zone (slba / a.zsze x.width)).state = .offline →
      exec (.secureReset h nsid slba false) s = .next (a.finish h ⟨⟨1, 0xBF⟩, 0, 0⟩)) ∧
    (x.word.keyMode = true → (∃ g, (x.zone (slba / a.zsze x.width)).resetting = some g) →
      exec (.secureReset h nsid slba false) s
        = .next (a.modCtx h fun c => { c with wait := .epoch, cmd := some (.secureReset h nsid slba false) })) ∧
    (x.word.keyMode = true → (x.zone (slba / a.zsze x.width)).resetting = none →
      (x.zone (slba / a.zsze x.width)).state = .full →
      ∃ b : State, exec (.secureReset h nsid slba false) s = .next (b.writeEpochs h nsid) ∧
        (∃ y, b.ns? nsid = some y ∧ (y.zone (slba / a.zsze x.width)).resetting = some h ∧
          ∀ u, u / a.zoneUnits x = slba / a.zsze x.width → x.kind = .zoned → b.zoneBusy nsid u = true) ∧
        b = { a with host := b.host, store := b.store })) ∧
  (∀ (s : State) (nsid z : Nat) (x : Ns) (y : Zone), s.ns? nsid = some x → y = x.zone z →
    (∀ e ∈ (s.secureZone nsid z x y).cells.cells, ∀ k, KeyRef.zoneKey x.keySlot k (z * s.zsze x.width) y.epoch ∉ e.2.keys) ∧
    ∃ w, (s.secureZone nsid z x y).ns? nsid = some w ∧ (w.zone z).wp = 0 ∧ (w.zone z).dstate = .none ∧
      (y.epoch ≠ 0xFFFFFFFF → (w.zone z).state = .empty ∧ (w.zone z).epoch = y.epoch + 1) ∧
      (y.epoch = 0xFFFFFFFF → (w.zone z).state = .offline ∧ (w.zone z).epoch = y.epoch)) ∧
  (∀ (h : Hdr) (nsid slba f m : Nat) (part : Bool) (s a : State) (x : Ns), IoStarts s h a →
    a.receiveCheck h nsid slba m = none → a.ns? nsid = some x →
    (f ≤ 7 → ∃ (n : Nat) (ds : List ZoneDesc), exec (.reportZones h nsid slba f part m) s
        = .next (State.finish { a with out := a.out ++ [.reply h (.zones n ds)] } h ⟨⟨0, 0⟩, 0, 0⟩) ∧
          (ds = [] ∨ 64 + 64 * ds.length ≤ 4 * (m + 1)) ∧
      (part = true → n = ds.length) ∧
      (part = false → n = ((a.zonesFrom x slba).filter fun z => reportFilter f (x.zone z).state).length) ∧
      ∀ d ∈ ds, ∃ z, slba / a.zsze x.width ≤ z ∧ d.zslba = z * a.zsze x.width ∧ d.state = (x.zone z).state.code ∧
        d.wp = d.zslba + (x.zone z).wp ∧ reportFilter f (x.zone z).state = true) ∧
    (x.word.digest = false → exec (.zoneDigestReport h nsid slba f part m) s = .next (a.finish h ⟨⟨0, 0x02⟩, 0, 0⟩)) ∧
    (x.word.digest = true → f ≤ 1 → ∃ (n : Nat) (ds : List (BitVec 512)), exec (.zoneDigestReport h nsid slba f part m) s
        = .next (State.finish { a with out := a.out ++ [.reply h (.digests n ds)] } h ⟨⟨0, 0⟩, 0, 0⟩) ∧
          (ds = [] ∨ 64 + 64 * ds.length ≤ 4 * (m + 1)) ∧
      ∀ d ∈ ds, (f = 1 → d.extractLsb' 0 4 = 2#4) ∧ (d.extractLsb' 0 4 ≠ 2#4 → d.extractLsb' 256 256 = 0#256)))

/-- R157, R161: an active zone whose age expires gains Finish Zone Recommended 0x2480.06 hours after its first write, not before,
and the change is listed for its functions; a Reclaim Unit Handle Update, and the time limit of 0x2480.07 hours, end the unit
that the handle points at in the group, and the Update opens the handle's next unit; the Status command changes nothing but its
reply. R170: a block that a Secure Reset queued is erased once 0x2480.09 seconds that permit erase have passed; R182: a slot of a
page-mapped namespace that has waited 0x2400.05 µs is programmed.
Choices of the model it rests on: log entries 6 and 42. -/
def Obligations.PlacementTimersCloseUnits : Prop :=
  (∀ (nsid z w : Nat) (s : State) (x : Ns), s.ns? nsid = some x → x.kind = .zoned → (x.zone z).state.isActive = true →
    (x.zone z).stripe ≠ none → (x.zone z).finishRec = false →
    (max s.now w < (x.zone z).opened + 3600000000000 * s.cfg Obj.zoneAgeH →
      exec (.zoneAgeExpiry nsid z w) s = .next (s.tick w)) ∧
    ((x.zone z).opened + 3600000000000 * s.cfg Obj.zoneAgeH ≤ max s.now w →
      ∃ t y, exec (.zoneAgeExpiry nsid z w) s = .next t ∧ t.ns? nsid = some y ∧ (y.zone z).finishRec = true ∧
        (y.zone z).state = (x.zone z).state ∧ (∀ v, v ≠ z → y.zone v = x.zone v) ∧
        (∀ f ∈ x.attached, (nsid, z * s.zsze x.width) ∈ Tbl.get [] t.admin.changedZones f))) ∧
  (∀ (r g w id : Nat) (q : Stripe) (s : State), s.openOf (.ns 0 (g * 1024 + r)) g = some id → s.stripe? id = some q →
    (max s.now w < q.openedAt + 3600000000000 * s.cfg Obj.ruTimeLimitH →
      exec (.reclaimUnitTimeLimit r g w) s = .next (s.tick w)) ∧
    (q.openedAt + 3600000000000 * s.cfg Obj.ruTimeLimitH ≤ max s.now w →
      ∃ t p, exec (.reclaimUnitTimeLimit r g w) s = .next t ∧ t.stripe? id = some p ∧ p.ended = true ∧
        p.members = q.members ∧ p.next = q.next)) ∧
  (∀ (h : Hdr) (nsid pid id : Nat) (q : Stripe) (s a b : State) (x : Ns) (r : Nat × Nat), IoStarts s h a →
    a.writeGate = none → a.fdpCheck h nsid = none → a.ns? nsid = some x → a.handleOf x pid = some r →
    a.pointerCheck h false 2 0 = none → a.openOf (.ns 0 (r.2 * 1024 + r.1)) r.2 = some id → a.stripe? id = some q →
    b = a.setStripe id { q with ended := true } →
    exec (.reclaimUnitHandleUpdate h nsid [pid]) s
      = .next ((((b.openStripe (.ns 0 (r.2 * 1024 + r.1)) r.2 x.width x.word.qParity).map (·.2)).getD b).finish h
        ⟨⟨0, 0⟩, 0, 0⟩)) ∧
  (∀ (h : Hdr) (nsid m n k : Nat) (s a : State) (x : Ns), IoStarts s h a → a.readGate = none →
    a.fdpCheck h nsid = none → a.transferCheck h true (4 * (m + 1), 0) = none → a.ns? nsid = some x →
    n = a.groups.length * x.handles.length → k = min n ((4 * (m + 1) - 16) / 32) →
    ∃ ds : List Nat, exec (.reclaimUnitHandleStatus h nsid m) s
      = .next (State.finish { a with out := a.out ++ [.reply h (.list (n :: ds))] } h ⟨⟨0, 0⟩, 0, 0⟩) ∧ ds.length = 4 * k) ∧
  (∀ (l : Fin 4096) (b w : Nat) (ok : Bool) (e : Nat × Nat × Nat) (s : State),
    s.store.secureDue.find? (fun e => (e.1, e.2.1) = (l.val, b)) = some e → s.erasePermitted = true →
    (e.2.2 + 1000000000 * s.cfg Obj.secureEraseS ≤ (s.tick w).store.eraseClock →
      exec (.secureEraseDue l b true w) s = .next (((s.tick w).unqueueErase l.val b).blockErased l.val b)) ∧
    ((s.tick w).store.eraseClock < e.2.2 + 1000000000 * s.cfg Obj.secureEraseS →
      exec (.secureEraseDue l b ok w) s = .next (s.tick w))) ∧
  (∀ (l : Fin 4096) (b w : Nat) (ok : Bool) (s : State),
    (∀ e ∈ s.store.secureDue, (e.1, e.2.1) ≠ (l.val, b)) ∨ s.erasePermitted = false →
    exec (.secureEraseDue l b ok w) s = .next (s.tick w)) ∧
  (∀ (k w : Nat) (q : Slot) (x : Ns) (s : State), s.slot? k = some q → s.ns? q.nsid = some x →
    exec (.mergeWaitExpiry k w) s = .next (if x.kind = .zoned ∨ max s.now w < q.since + 1000 * s.cfg Obj.mergeWaitUs then s.tick w
      else ((s.tick w).programSlot k).settleAll))

/-- R80, R150, R153, R154: Namespace Management and Attachment of a manager: a create that passes every check makes the
namespace under the lowest free NSID, with the kind, size and format asked for, its creation word in force and no function
attached; one with an unknown BLOCK_VER or CIPHER_MODE ends with Invalid Field, with an unknown format with Invalid Format, and
makes none. Attach and detach of a list change exactly the functions of the list, and an attached one is refused. A namespace
that another port owns is neither deleted nor formatted.
Choices of the model it rests on: log entries 6, 25, 40 and 41. -/
def Obligations.NamespacesAreMadeAndAttached : Prop :=
  ∀ (h : Hdr) (s a : State), AdminStarts s h a → a.has Mode.sanitize = false →
    (∀ (x : NsArgs), a.adminBuffer h 4096 = none → a.createRefusal x = none → ∃ t n id, exec (.namespaceCreate h x) s = .next t ∧
      id = Tbl.fresh a.store.ns 1 4096 ∧ t.ns? id = some n ∧ n.nsze = x.nsze ∧ n.flbas = x.flbas ∧ n.dps = x.dps ∧
      n.attached = [] ∧ n.owner = a.portOfFn h.fn ∧ n.word = NsArgs_word x ∧
      n.kind = (if x.csi = 2 then .zoned else if a.store.fdp.isSome then .flexible else .conventional)) ∧
    (∀ (x : NsArgs), a.adminBuffer h 4096 = none → (1 < x.word.blockVer ∨ (x.word.blockVer = 1 ∧ 1 < x.word.cipherMode) →
      exec (.namespaceCreate h x) s = .next (a.finish h ⟨⟨0, 0x02⟩, 0, 0⟩)) ∧
      (x.word.blockVer = 0 → x.csi = 0 → 2 < x.flbas % 16 →
        exec (.namespaceCreate h x) s = .next (a.finish h ⟨⟨1, 0x0A⟩, 0, 0⟩))) ∧
    (∀ (nsid : Nat) (x : Ns) (n : Fin 1024), a.ns? nsid = some x → a.listable h.fn (0x100 + n.val) = true →
      a.adminBuffer h 4096 = none →
      (n.val ∈ x.attached → exec (.namespaceAttach h nsid [0x100 + n.val]) s = .next (a.finish h ⟨⟨1, 0x18⟩, 0, 0⟩)) ∧
      (n.val ∉ x.attached → a.attachedCount n.val < 256 → ∃ t y, exec (.namespaceAttach h nsid [0x100 + n.val]) s = .next t ∧
        t.ns? nsid = some y ∧ (∀ f, f ∈ y.attached ↔ f = n.val ∨ f ∈ x.attached) ∧ y = { x with attached := y.attached } ∧
        ∀ j, j ≠ nsid → t.ns? j = a.ns? j) ∧
      (n.val ∉ x.attached → exec (.namespaceDetach h nsid [0x100 + n.val]) s = .next (a.finish h ⟨⟨1, 0x1A⟩, 0, 0⟩)) ∧
      (n.val ∈ x.attached → ∃ t y, exec (.namespaceDetach h nsid [0x100 + n.val]) s = .next t ∧ t.ns? nsid = some y ∧
        (∀ f, f ∈ y.attached ↔ f ≠ n.val ∧ f ∈ x.attached) ∧ y = { x with attached := y.attached } ∧
        ∀ j, j ≠ nsid → t.ns? j = a.ns? j)) ∧
    (∀ (nsid flbas dps : Nat) (x : Ns), a.ns? nsid = some x → nsid ≠ 0xFFFFFFFF →
      (x.owner ≠ a.portOfFn h.fn → exec (.namespaceDelete h nsid) s = .next (a.finish h ⟨⟨0, 0x02⟩, 0, 0⟩) ∧
        exec (.formatNvm h nsid flbas dps) s = .next (a.finish h ⟨⟨0, 0x02⟩, 0, 0⟩)) ∧
      (x.owner = a.portOfFn h.fn → exec (.namespaceDelete h nsid) s
        = .next ((a.endTestOf nsid 3).beginKeys h [nsid] .delete)) ∧
      (x.owner = a.portOfFn h.fn → a.has Mode.readOnly = false → a.has Mode.factory = false → formatOk flbas dps = true →
        exec (.formatNvm h nsid flbas dps) s = .next ((a.endTestOf nsid 4).beginKeys h [nsid] (.format flbas dps))))

/-! ### Translation, journal and reclaim -/

/-- R188: the open journal page closes when its timer has run: its records become the next page of the journal. R188: pages
become durable in PAGE_SEQ order only: none does unless it and every page before it has both its copies. R52, R188, R202: each
copy counts its failures, one that fails on its fourth system block sets READ-ONLY with cause 2, and where no block is left the
commands that need the page end with Write Fault. R127, R190: when a pass is due a changed segment is copied, its entries as
they lie on flash, with the PAGE_SEQ of the open page, and the copy takes effect only once its record is durable, in place of
its earlier copy.
Choices of the model it rests on: log entries 6, 47 and 125. -/
def Obligations.JournalPagesBecomeDurableInOrder : Prop :=
  (∀ (t : Nat) (s : State), s.store.journal.recs ≠ [] →
    (1000 * s.cfg Obj.journalTimerUs ≤ max s.now t - s.store.journal.since →
      ∃ u p, exec (.journalTimerExpiry t) s = .next u ∧ u.store.journal.pages = s.store.journal.pages ++ [p] ∧
        p.seq = s.store.journal.next ∧ p.recs = s.store.journal.recs ∧ p.copies = 0 ∧
        u.store.journal.next = s.store.journal.next + 1 ∧ u.store.journal.recs = [] ∧
        u.store.journal.durable = s.store.journal.durable) ∧
    (max s.now t - s.store.journal.since < 1000 * s.cfg Obj.journalTimerUs →
      exec (.journalTimerExpiry t) s = .next (s.tick t))) ∧
  (∀ (n : Nat) (s : State),
    ((∀ p ∈ s.store.journal.pages, p.seq = s.store.journal.durable → p.copies < 2 ∧ (p.seq ≠ n ∨ p.stuck = true)) →
      ∃ u, exec (.journalPageDurable n) s = .next u ∧ u.store.journal.durable = s.store.journal.durable ∧
        u.host = s.host ∧ u.store.ns = s.store.ns) ∧
    (∀ p ∈ s.store.journal.pages, p.seq = n → p.stuck = false → n = s.store.journal.durable →
      ∃ u, exec (.journalPageDurable n) s = .next u ∧ n < u.store.journal.durable)) ∧
  (∀ (n k : Nat) (c : Fin 2) (p : JPage) (s : State), s.store.journal.pages.find? (·.seq = n) = some p →
    2 ≤ s.cfg Obj.spareRemaining → s.cfg Obj.roCause = 0 → k = (if c.val = 0 then p.fails.1 else p.fails.2) →
    (k = 3 → ∃ u, exec (.journalCopyFailure n c true) s = .next u ∧ u.cfg Obj.roCause = 2 ∧
      (u.has Mode.readOnly = true ∨ ∃ w ∈ u.sampler.waiting, w.set = modeBit Mode.readOnly)) ∧
    (k < 3 → (∀ f, (s.fn f).aers = []) → ∃ u, exec (.journalCopyFailure n c false) s = .next u ∧
      (∃ q ∈ u.store.journal.pages, q.seq = n ∧ q.stuck = true) ∧
      ∀ c ∈ s.host.ctxs, c.wait = .durable → c.done = none → n < c.page → s.ctx? c.hdr = some c →
        ∃ d, u.ctx? c.hdr = some d ∧ d.done = some ⟨⟨2, 0x80⟩, 0, 0⟩)) ∧
  (∀ (nsid g t : Nat) (x : Ns) (s : State), s.ns? nsid = some x → x.kind ≠ .zoned → (nsid, g) ∈ s.store.journal.changed →
    (s.tick t).isDue Periodic.checkpoint = true → s.store.journal.pass = [] →
    (∀ c ∈ s.store.journal.copies, c.nsid = nsid → c.segment = g → c.page ≠ 0) →
    ∃ u c, exec (.checkpointPass nsid g t) s = .next u ∧ u.store.journal.copies = s.store.journal.copies ++ [c] ∧
      c.nsid = nsid ∧ c.segment = g ∧ c.snapshot = s.store.journal.next ∧ c.inEffect = false ∧
      c.entries = (x.map.filter (fun e => e.1 / 1048576 = g)).map (fun e => (e.1, (s.copyEntry e.2).1)) ∧
        (nsid, g) ∉ u.store.journal.changed ∧
      u.store.ns = s.store.ns ∧ u.host = s.host) ∧
  (∀ (nsid g : Nat) (s : State),
    ((∀ c ∈ s.store.journal.copies, c.nsid = nsid → c.segment = g →
      c.inEffect = true ∨ c.page = 0 ∨ s.store.journal.durable < c.page) →
      exec (.segmentCopyDurable nsid g) s = .next s) ∧
    (∀ c, s.store.journal.copies.find? (fun d => (d.nsid = nsid && d.segment = g) && !d.inEffect
        && 0 < d.page && s.pageDurable d.page) = some c →
      ∃ u, exec (.segmentCopyDurable nsid g) s = .next u ∧ { c with inEffect := true } ∈ u.store.journal.copies ∧
        ∀ d ∈ u.store.journal.copies, d.nsid = nsid → d.segment = g → d.snapshot ≤ c.snapshot → d = { c with inEffect := true }))

/-- R183, R185: a unit whose program has ended lies on flash where its slot was programmed to, as it was when its
program was issued; a slot
whose program fails for the fourth time is given up, its entry UNCORRECTABLE, and an open Write that touches the unit ends with
Write Fault. R198, R208: a moved unit's entry is replaced only if it still names the source. R200: a failed target is
abandoned, its sources start again, and no entry changes.
Choices of the model it rests on: log entries 6 and 46. -/
def Obligations.ProgramsEndAndFailuresAreContained : Prop :=
  (∀ (k : Nat) (x : Slot) (loc : MapEntry) (n : Ns) (s : State), s.slot? k = some x → x.state = .programming loc →
    x.dead = false → s.ns? x.nsid = some n →
    exec (.unitProgramDone k) s = .next (s.unitDone k x loc).settleAll ∧
    Tbl.find (s.unitDone k x loc).store.media loc.key = some (x.flight.getD (s.slotStored x)) ∧
    (n.kind ≠ .zoned → x.again = false → x.wseq ∉ (s.unitDone k x loc).store.journal.pendingSeqs ∧
      ∃ y, (s.unitDone k x loc).slot? k = some y ∧ y.state = .programmed loc)) ∧
  (∀ (k : Nat) (x : Slot) (s : State), s.slot? k = some x → x.state = .filling →
    exec (.unitProgramDone k) s = .next s ∧ exec (.programFailure k) s = .next s.settleAll) ∧
  (∀ (k : Nat) (x : Slot) (loc : MapEntry) (s : State), s.slot? k = some x → x.state = .programming loc →
    exec (.programFailure k) s = .next (s.programFails k).settleAll) ∧
  (∀ (k : Nat) (x : Slot) (loc : MapEntry) (n : Ns) (s : State), s.slot? k = some x → x.state = .programming loc →
    x.dead = false → 4 ≤ x.tries → s.ns? x.nsid = some n → n.kind ≠ .zoned →
    (s.placeAgain k).slot? k = none ∧ (s.placeAgain k).locate x.nsid x.unit = .uncorrectable ∧
    (∀ c ∈ s.host.ctxs, s.ctx? c.hdr = some c → c.done = none → (∃ r ∈ c.mods, runsMeet r (x.nsid, x.unit, x.unit) = true) →
      ∃ d, (s.placeAgain k).ctx? c.hdr = some d ∧ d.done = some ⟨⟨2, 0x80⟩, 0, 0⟩)) ∧
  (∀ (nsid u : Nat) (src dst : MapEntry) (x : Ns) (s : State), s.ns? nsid = some x →
    (x.entry u ≠ src → s.relocate (nsid, u, src, dst) = s) ∧
    (x.entry u = src → ∃ y, (s.relocate (nsid, u, src, dst)).ns? nsid = some y ∧ y.entry u = dst ∧
      ∀ v, v ≠ u → y.entry v = x.entry v)) ∧
  (∀ (id : Nat) (t : Stripe) (s : State), s.stripe? id = some t → t.moved ≠ [] → t.closedAt = none →
    ∃ u : State, exec (.targetStripeComplete id) s = .next u.settleAll ∧
      ∀ w, s.stripe? id = some w → ∃ q, u.stripe? id = some q ∧ q.moved = [] ∧ q.sources = []) ∧
  (∀ (id k : Nat) (t : Stripe) (m : Nat × Nat) (s : State), s.stripe? id = some t → m = t.members.getD k (0, 0) →
    (∀ r ∈ s.store.replacing, ¬ (r.1 = id ∧ r.2.1 = k)) → (s.lun m.1).state = .active → (s.block m.1 m.2).retired = false →
    2 ≤ s.cfg Obj.spareRemaining → s.cfg Obj.blocksRetired < 2 ^ 32 - 1 →
    100 * (s.retiredOf m.1 + 1) ≤ s.lunBlocks m.1 * s.cfg Obj.lunWearoutPct →
    ∃ u, exec (.targetProgramFailure id k) s = .next u ∧ u.stripe? id = none ∧ (∀ n, u.ns? n = s.ns? n) ∧
      u.cfg Obj.blocksRetired = s.cfg Obj.blocksRetired + 1 ∧
      ∀ i ∈ t.sources, i ≠ id → ∀ q, s.stripe? i = some q → ∃ p, u.stripe? i = some p ∧ q.restarts < p.restarts ∧
        p.copying = false)

/-- R193, R195, R198, R204, R206, R208: folding starts where staging use is at its mark and stops below half of it; a source is
given up only when no entry names it, the page of its last relocation is durable, no read goes through it and no claim but
Mangle's holds it, and then leaves the sources; blocks are added to the spare pool only within what no namespace reserves; a
stripe without the secure-pending mark is left alone.
Choices of the model it rests on: log entry 48. -/
def Obligations.SourcesAreErasedOnlyWhenCovered : Prop :=
  (∀ s : State, (s.store.folding = true → 2 * s.stagingUsed < s.cfg Obj.foldStartPct →
      exec .foldStart s = .next { s with store := { s.store with folding := false } }) ∧
    (s.cfg Obj.foldStartPct ≤ s.stagingUsed → s.store.folding = false →
      ∃ u, exec .foldStart s = .next u ∧ u.store.folding = true ∧ u.store.ns = s.store.ns ∧ u.host = s.host)) ∧
  (∀ (g : Fin 64) (s : State), (s.bgOpen = false ∨ s.victim g.val = none → exec (.mangleStart g) s = .next s) ∧
    (∀ id, s.bgOpen = true → s.has Mode.recovery = false → s.victim g.val = some id → s.freeBp g.val < s.cfg Obj.gcLowBp →
      exec (.mangleStart g) s = .next ((s.noteWear id (!(s.store.urgent.contains id || (s.stripe? id).elim false (·.secure))
        && decide (s.cfg Obj.wearSpread < s.wearSpread g.val))).addSource id))) ∧
  (∀ (id : Nat) (t : Stripe) (s : State), s.stripe? id = some t →
    (t.ended = true → s.unitsIn id = [] → t.relocPage ≤ s.store.journal.durable → s.stripeRead id = false →
      (t.victimUse = true ∨ t.slc = true) →
      (∀ m ∈ t.members, (s.block m.1 m.2).claim = none ∨ (s.block m.1 m.2).claim = some 1) →
      ∃ u, exec (.sourceStripeErase id) s = .next u ∧ u.stripe? id = none ∧ id ∉ u.store.mangling ∧ u.store.ns = s.store.ns) ∧
    (s.unitsIn id ≠ [] ∨ s.store.journal.durable < t.relocPage ∨ s.stripeRead id = true ∨ t.ended = false →
      exec (.sourceStripeErase id) s = .next s) ∧
    (∀ w, (t.secure = false ∨ (s.tick w).store.eraseClock < t.secureAt + 1000000000 * s.cfg Obj.sdBoundS →
        exec (.secureDiscardDue id w) s = .next (s.tick w)) ∧
      (t.secure = true → t.secureAt + 1000000000 * s.cfg Obj.sdBoundS ≤ (s.tick w).store.eraseClock → s.unitsIn id ≠ [] →
        exec (.secureDiscardDue id w) s = .next (((s.tick w).setStripe id t.stopped).addSource id))) ∧
    (t.ended = false → exec (.stripeClose id) s = .next s) ∧
    (t.ended = true → t.closedAt = none → s.stripeBusy id = false →
      exec (.stripeClose id) s = .next (s.closeStripe id).settleAll)) ∧
  (∀ (k : Nat) (s : State), (s.unreservedBlocks < k → exec (.spareAdd .pf0 k) s = .next s) ∧
    exec (.spareAdd (.inst 0) k) s = .next s ∧
    (k ≤ s.unreservedBlocks → s.cfg Obj.roCause ≠ 1 → ∃ u, exec (.spareAdd .pf0 k) s = .next u ∧
      u.cfg Obj.spareRemaining = s.cfg Obj.spareRemaining + k ∧ u.modes = s.modes)) ∧
  (∀ (l : Fin 4096) (b : Nat) (s : State), exec (.eraseFailure l b) s = .next (s.eraseFails l.val b).settleAll) ∧
  (∀ (l b : Nat) (s : State), { (s.blockErased l b).block l b with system := false }
      = { Block.fresh with erases := (s.block l b).erases + 1, system := false, before := (s.block l b).refreshed } ∧
    ((s.block l b).system = true → ((s.blockErased l b).block l b).system = true) ∧
    (∀ e ∈ (s.blockErased l b).store.media, e.1 / 2 ^ 25 % 2 ^ 12 ≠ l ∨ e.1 / 2 ^ 11 % 2 ^ 12 ≠ b) ∧
    (l, b) ∉ (s.blockErased l b).store.erases ∧ (s.blockErased l b).store.ns = s.store.ns) ∧
  (∀ (id k l b : Nat) (t : Stripe) (s : State), s.stripe? id = some t →
    s.store.replacing.find? (fun r => r.1 = id && r.2.1 = k) = some (id, k, l, b) →
    ∃ u : State, exec (.memberReplaced id k) s = .next (State.settleAll (State.retireMember u id k t)) ∧
      ∃ q, u.stripe? id = some q ∧ q.members = t.members.set k (l, b) ∧ k ∉ q.lost)

/-- R226, R231, R142: XOR of the other members and of P gives any one data member of a row; a read-around of which every
member decoded gives that XOR as the read's data, decoded, and takes the read out of its LUN's queue, while one with a failed
member leaves the read as it was. R214: a channel re-centres where its sensor has moved far enough, and an extended one whose
window is too narrow falls to rate 4. R238: a free claim goes to a request that has lost 16 frames, else to the first in the
order Darning, Mangle, Rinse, self-test. Choices of the model it rests on: log entry 34. -/
def Obligations.ReadAroundRebuildsFromParity : Prop :=
  (∀ (l : List Payload) (m : Nat) (p : Payload), l[m]? = some p → parityP (l.eraseIdx m ++ [parityP l]) = p) ∧
  (∀ (rd : Nat) (r : MediaRead) (ps : List Payload) (s : State), Tbl.find s.store.reads rd = some r →
    (∃ n, r.around = some n) → r.serves = .host →
    (¬ (∀ e ∈ r.steps, e = .decoded) → ∃ u q, exec (.readAroundReconstruct rd true ps) s = .next u ∧
      Tbl.find u.store.reads rd = some q ∧ (∀ e ∈ q.steps, e = .decoded) ∧ q.source = 2 ∧ q.around = none ∧ q.arrived = true ∧
      (∀ o ∈ (u.lun (r.entry.lun?.getD 0)).queue, o.kind ≠ .read rd) ∧ u.host = s.host ∧
      (∀ e ∈ u.store.reads, e.2.serves ≠ .member rd)) ∧
    (∃ u q, exec (.readAroundReconstruct rd false ps) s = .next u ∧ Tbl.find u.store.reads rd = some q ∧
      q = { r with around := none } ∧ u.flash = s.flash ∧ u.host = s.host)) ∧
  (∀ (ch : Fin 64) (t : Int) (w : Nat) (c : Channel) (s : State), Tbl.find s.flash.channels ch.val = some c → c.state = 1 →
    ((t - c.trainedAt).natAbs < s.cfg Obj.chRecentreDeg → exec (.channelRecentre ch t w) s = .next s) ∧
    (s.cfg Obj.chRecentreDeg ≤ (t - c.trainedAt).natAbs → ∃ u d, exec (.channelRecentre ch t w) s = .next u ∧
      Tbl.find u.flash.channels ch.val = some d ∧ d.trainedAt = t ∧
      d.rate = (if c.rate = 5 ∧ 100 * w < 64 * s.cfg Obj.extMinEye then 4 else c.rate) ∧
      (∀ j, j ≠ ch.val → Tbl.find u.flash.channels j = Tbl.find s.flash.channels j) ∧ u.host = s.host ∧ u.store = s.store)) ∧
  (∀ ws : List (Nat × Nat), (∀ w ∈ ws, w.1 < 4) → (∀ w ∈ ws, w.2 < 16) → ∀ t, claimWinner ws = some t →
    (∃ w ∈ ws, w.1 = t) ∧ ∀ w ∈ ws, t ≤ w.1) ∧
  (∀ (ws : List (Nat × Nat)) (w : Nat × Nat), w ∈ ws → 16 ≤ w.2 → ∃ v ∈ ws, 16 ≤ v.2 ∧ claimWinner ws = some v.1)

/-! ### Codes, ciphers and keys -/

/-- R245 to R247: a codeword whose hard decode fails, or whose MCRC does not match, enters the retries, counted in 0x2322.01;
after each failed retry it goes to the next, after the fifteenth to a soft decode where 0x2320.03 is TRUE, counted in
0x2322.03; a member read that its soft decode does not save is lost to the unit it serves. A retry that decodes is kept as the
block's hint and counted. Nothing happens to a codeword that has decoded, is lost, or has not arrived.
Choices of the model it rests on: log entry 54. -/
def Obligations.CodewordClimbsTheLadder : Prop :=
  ∀ (rd : Nat) (cw : Fin 4) (r : MediaRead) (n : Nat) (s : State), Tbl.find s.store.reads rd = some r →
    (r.steps.getD cw.val .decoded = .decoded ∨ r.steps.getD cw.val .decoded = .lost ∨
      (r.arrived = false ∧ r.steps.getD cw.val .decoded ≠ .darning) → ∀ e, exec (.codewordDecode rd cw e) s = .next s) ∧
    (r.arrived = true → (s.lun (r.entry.lun?.getD 0)).state = .active →
      (r.steps.getD cw.val .decoded = .hard → s.aroundOwner r = false → s.cfg Obj.retryEntered < 2 ^ 64 - 1 →
        (∃ t q, exec (.codewordDecode rd cw (.failed n)) s = .next t ∧ Tbl.find t.store.reads rd = some q ∧
          q.steps = r.steps.set cw.val (.retry 0) ∧ t.cfg Obj.retryEntered = s.cfg Obj.retryEntered + 1 ∧
          t.cfg Obj.mcrcFails = s.cfg Obj.mcrcFails ∧ t.host = s.host ∧ t.store.ns = s.store.ns) ∧
        (s.cfg Obj.mcrcFails < 2 ^ 64 - 1 → ∃ t q, exec (.codewordDecode rd cw (.decoded n false)) s = .next t ∧
          Tbl.find t.store.reads rd = some q ∧ q.steps = r.steps.set cw.val (.retry 0) ∧
          t.cfg Obj.mcrcFails = s.cfg Obj.mcrcFails + 1)) ∧
      (∀ k, k < 14 → r.steps.getD cw.val .decoded = .retry k →
        ∃ t q, exec (.codewordDecode rd cw (.failed n)) s = .next t ∧ Tbl.find t.store.reads rd = some q ∧
          q.steps = r.steps.set cw.val (.retry (k + 1)) ∧ t.host = s.host ∧ t.store.ns = s.store.ns) ∧
      (r.steps.getD cw.val .decoded = .retry 14 → s.cfg Obj.softEn = 1 → s.cfg Obj.softDecodes < 2 ^ 64 - 1 →
        ∃ t q, exec (.codewordDecode rd cw (.failed n)) s = .next t ∧ Tbl.find t.store.reads rd = some q ∧
          q.steps = r.steps.set cw.val .soft ∧ t.cfg Obj.softDecodes = s.cfg Obj.softDecodes + 1 ∧ t.host = s.host)) ∧
    (r.arrived = true → ∀ m, r.serves = .member m → r.steps.getD cw.val .decoded = .soft →
      s.cfg Obj.softFails < 2 ^ 64 - 1 →
      ∃ t q, exec (.codewordDecode rd cw (.failed n)) s = .next t ∧ Tbl.find t.store.reads rd = some q ∧
        q.steps = r.steps.set cw.val .lost ∧ t.cfg Obj.softFails = s.cfg Obj.softFails + 1 ∧ t.host = s.host) ∧
    (r.arrived = true → (∃ i : Nat, i ≠ cw.val ∧ i < r.steps.length ∧ r.steps.getD i .lost ≠ .decoded ∧
        r.steps.getD i .lost ≠ .lost) →
      (r.steps.getD cw.val .decoded = .hard → exec (.codewordDecode rd cw (.decoded n true)) s
        = .next ((s.transferred rd r).setRead rd { r with steps := r.steps.set cw.val .decoded })) ∧
      (∀ k, r.steps.getD cw.val .decoded = .retry k → s.cfg Obj.retryDecoded < 2 ^ 64 - 1 →
        ∃ t q, exec (.codewordDecode rd cw (.decoded n true)) s = .next t ∧ Tbl.find t.store.reads rd = some q ∧
          q.steps = r.steps.set cw.val .decoded ∧ t.cfg Obj.retryDecoded = s.cfg Obj.retryDecoded + 1 ∧
          (t.block (r.entry.lun?.getD 0) (r.entry.block?.getD 0)).hint
            = retryEntry (s.block (r.entry.lun?.getD 0) (r.entry.block?.getD 0)).hint k))

/-- R237, R251 to R253, R256: Rinse asks for the claim of a block that is due; once it holds it, it queues the block's unit
reads, at most 32 outside a forced pass, each at four SCRUB credits; when they are done the block is marked for an early
sample where its highest count passes 0x2330.02 but not 0x2330.03 percent of its hard limit, marked with nothing below, and
the claim is given back. Past its read limit a block's count returns to zero and it is to be sampled. A forced pass is
started and ended by managers alone, at once or when the block being read is done. R257, R260, R264, R266: the scrubber
corrects and counts up to two wrong bits of a word; three are uncorrectable: a key RAM slot is emptied, management SRAM
restarts the device, cell SRAM fences the cell. A log clear empties the selected log only. Choices of the model it rests on:
log entries 14 and 55. -/
def Obligations.PatrolsActOnWhatTheyFind : Prop :=
  (∀ (l : Fin 4096) (b w : Nat) (counts : List Nat) (s a : State) (x : Block) (lim : Nat), a = (s.tick w).beginRinse →
    x = a.block l.val b → a.rinseOpen = true → a.programmedBlocks.contains (blockKey l.val b) = true →
    lim = 180 + 25 * (if x.system then 7 else x.strength) →
    (x.claim = some 2 → Tbl.find a.mem.sampling (blockKey l.val b) = none →
      ∃ t n, exec (.rinseStep l b counts false w) s = .next t ∧ t.host = s.host ∧
        Tbl.find t.mem.sampling (blockKey l.val b) = some n ∧ (a.mem.forced = false → n ≤ 32) ∧
        t.sched.bg.length = a.sched.bg.length + n ∧
        ∀ c ∈ t.sched.bg, c ∈ a.sched.bg ∨ (c.task = .scrub ∧ c.readCost = 4096 ∧ c.writeCost = 0)) ∧
    (x.claim = some 2 → Tbl.find a.mem.sampling (blockKey l.val b) = some 0 →
      100 * counts.foldl max 0 ≤ lim * s.cfg Obj.relocatePct →
      ∃ t, exec (.rinseStep l b counts false w) s = .next t ∧ t.host = s.host ∧
        t.block l.val b = { x with
          watch := if lim * s.cfg Obj.watchPct < 100 * counts.foldl max 0 then 1 else 0
          claim := none
          sampledAt := max s.now w }) ∧
    (x.claim ≠ some 2 → a.sampleDue l.val b = true → ∃ t, exec (.rinseStep l b counts false w) s = .next t ∧
      (∃ e ∈ (t.block l.val b).wants, e.1 = 2) ∧ t.host = s.host) ∧
    (x.claim ≠ some 2 → a.sampleDue l.val b = false → exec (.rinseStep l b counts false w) s = .next a)) ∧
  (∀ (l : Fin 4096) (b : Nat) (s : State),
    ((s.block l.val b).reads ≤ s.cfg Obj.disturbReads → exec (.disturbCountReached l b) s = .next s) ∧
    (s.cfg Obj.disturbReads < (s.block l.val b).reads → ∃ t, exec (.disturbCountReached l b) s = .next t ∧
      (t.block l.val b).reads = 0 ∧ (t.block l.val b).watch = 3 ∧
      ((t.block l.val b).claim = some 2 ∨ ∃ e ∈ (t.block l.val b).wants, e.1 = 2) ∧ t = { s with store := t.store })) ∧
  (∀ (acc : Accessor) (s : State),
    ((∃ n, acc = .inst n) → (∀ on, exec (.fullPassWrite acc on) s = .next s) ∧ exec (.logClear acc) s = .next s) ∧
    ((∀ n, acc ≠ .inst n) →
      (s.has Mode.sanitize = false → s.has Mode.recovery = false → s.mem.forced = false →
        ∃ t, exec (.fullPassWrite acc true) s = .next t ∧ t.mem.forced = true ∧ t.cfg Obj.fullPass = 1 ∧ t.mem.sampled = []) ∧
      (s.mem.forced = true → s.mem.sampling = [] →
        ∃ t, exec (.fullPassWrite acc false) s = .next t ∧ t.mem.forced = false ∧ t.cfg Obj.fullPass = 0) ∧
      (s.mem.forced = true → s.mem.sampling ≠ [] →
        exec (.fullPassWrite acc false) s = .next (s.keep Obj.fullPass 0)) ∧
      ∃ t, exec (.logClear acc) s = .next t ∧ Tbl.get [] t.mem.logs (s.cfg Obj.logSelect) = [] ∧
        (∀ m, m ≠ s.cfg Obj.logSelect → Tbl.get [] t.mem.logs m = Tbl.get [] s.mem.logs m) ∧
        t = { s with mem := t.mem })) ∧
  (∀ (m : Fin 4) (a : Nat) (bad : List (Fin 80)) (s : State), m ≠ 0 →
    (bad = [] → exec (.sramScrub m a bad) s = .next s) ∧
    (1 ≤ bad.eraseDups.length → bad.eraseDups.length ≤ 2 → s.cfg Obj.ceCount 0 m.val < 2 ^ 64 - 1 →
      ∃ t, exec (.sramScrub m a bad) s = .next t ∧ t.cfg Obj.ceCount 0 m.val = s.cfg Obj.ceCount 0 m.val + 1 ∧
        t.host = s.host ∧ t.cipher = s.cipher ∧ t.power = s.power) ∧
    (bad.eraseDups.length = 3 → s.cfg Obj.ueCount 0 m.val < 2 ^ 32 - 1 →
      (m = 2 → ∃ t, exec (.sramScrub m a bad) s = .next t ∧ t.cfg Obj.ueCount 0 2 = s.cfg Obj.ueCount 0 2 + 1 ∧
        (t.keySlot (Config.keyRamSlot a)).kind = 0 ∧ t.host = s.host) ∧
      (m = 1 → ∃ t, exec (.sramScrub m a bad) s = .next t ∧ t.power.restart = true ∧ ∀ f, FencedBy s t f 8))) ∧
  (∀ (c : Fin 96) (a : Nat) (s : State), s.cellRole c.val ≠ 7 →
    ∃ t, exec (.cellSramUncorrectable (.cellSram c a)) s = .next t ∧ t.cellRole c.val = 7 ∧
      t.cfg Obj.fenceReason c.val = 2 ∧ t.cells.fenced = s.cells.fenced ++ [(c.val, s.cellRole c.val)])

/-- R49, R267, R269: a claim of a core takes effect only while no message holds it, of a message that the core takes, and of an
agent with no fabric request open. R270: a request of a HOST cell that has none outstanding goes to the cell's own core, else to
the idle core of its quadrant that is nearest, the lowest of those that are equally near, else to the end of the quadrant's
waiting list, counted; a HOST core that ends a message goes to the head of that list. R42, R76, R271: a core without a message
ends none, and one whose holder was fenced since delivers nothing. R275, R280, R281: an authenticated unit whose tag matches is
delivered; one whose tag fails after a reconstruction is read from flash once more and delivers nothing yet. R272: a generator
that has run 1,048,576 blocks without a reseed fences its cell with reason 5.
Choices of the model it rests on: log entry 59. -/
def Obligations.CoresServeOneMessageAtATime : Prop :=
  (∀ (k : Core) (id : LockId) (s : State),
    (s.lockOf (Core_num k) ≠ none ∨ s.coreTakes (Core_num k) id = false ∨ s.pastLock id = true →
      exec (.cipherLockClaim k id) s = .next s) ∧
    (s.lockOf (Core_num k) = none → s.coreTakes (Core_num k) id = true → s.pastLock id = false → ∃ t,
      exec (.cipherLockClaim k id) s = .next t ∧
      t.lockOf (Core_num k) = some id ∧ (∀ j, j ≠ Core_num k → t.lockOf j = s.lockOf j) ∧ t = { s with cipher := t.cipher })) ∧
  (∀ (c d : Nat) (id : LockId) (s : State), s.nearestIdle c id = some d →
    cellQuadrant d = cellQuadrant c ∧ s.coreTakes d id = true ∧ (id.op ≠ 6 → s.cellRole d = 1) ∧ s.lockOf d = none ∧
    ∀ e, e < 96 → cellQuadrant e = cellQuadrant c → s.coreTakes e id = true → s.lockOf e = none →
      hops c d < hops c e ∨ (hops c d = hops c e ∧ d ≤ e)) ∧
  (∀ (c : Fin 96) (id : LockId) (s a : State),
    (s.cellRole c.val ≠ 1 ∨ 3 < id.op ∨ s.pastLock id = true ∨ (∃ o, Tbl.find s.cipher.asks c.val = some o) →
      exec (.cipherRequestSteer c id) s = .next s) ∧
    (s.cellRole c.val = 1 → id.op ≤ 3 → s.pastLock id = false → Tbl.find s.cipher.asks c.val = none →
      a = { s with cipher := { s.cipher with asks := Tbl.put s.cipher.asks c.val id } } →
      (s.lockOf c.val = none → s.coreUp c.val = true →
        exec (.cipherRequestSteer c id) s = .next (a.setLock c.val (some id))) ∧
      (∀ d, s.lockOf c.val ≠ none → s.nearestIdle c.val id = some d →
        exec (.cipherRequestSteer c id) s = .next (a.setLock d (some id))) ∧
      (s.lockOf c.val ≠ none → s.nearestIdle c.val id = none → s.cfg Obj.cipherWaits < 2 ^ 64 - 1 →
        (Tbl.get [] s.cipher.waits (cellQuadrant c.val)).length < s.hostCells (cellQuadrant c.val) →
        ∃ t, exec (.cipherRequestSteer c id) s = .next t ∧
          Tbl.get [] t.cipher.waits (cellQuadrant c.val) = Tbl.get [] s.cipher.waits (cellQuadrant c.val) ++ [id] ∧
          t.cipher.cores = s.cipher.cores ∧ t.cfg Obj.cipherWaits = s.cfg Obj.cipherWaits + 1))) ∧
  (∀ (k : Core) (p : ComparePair) (id : LockId) (s : State),
    (s.lockOf (Core_num k) = none → ∀ rd, exec (.cipherMessageDone k rd p) s = .next s) ∧
    (s.lockOf (Core_num k) = some id → s.staleLock id = true → ∀ rd,
      exec (.cipherMessageDone k rd p) s = .next (s.freeCore (Core_num k))) ∧
    (s.lockOf (Core_num k) = some id → Core_num k < 96 → s.cellRole (Core_num k) = 1 → ∀ o rest,
      Tbl.get [] s.cipher.waits (cellQuadrant (Core_num k)) = o :: rest →
      ∃ t, exec (.cipherMessageDone k none p) s = .next t ∧ t.lockOf (Core_num k) = some o ∧
        Tbl.get [] t.cipher.waits (cellQuadrant (Core_num k)) = rest ∧ t = { s with cipher := t.cipher }) ∧
    (s.lockOf (Core_num k) = some id →
      96 ≤ Core_num k ∨ s.cellRole (Core_num k) ≠ 1 ∨ Tbl.get [] s.cipher.waits (cellQuadrant (Core_num k)) = [] →
      ∃ t, exec (.cipherMessageDone k none p) s = .next t ∧ t.lockOf (Core_num k) = none ∧
        (∀ j, j ≠ Core_num k → t.lockOf j = s.lockOf j) ∧ t.cipher.waits = s.cipher.waits ∧
        t = { s with cipher := t.cipher }) ∧
    (∀ rd r u, s.lockOf (Core_num k) = some id → s.staleLock id = false → Tbl.find s.store.reads rd = some r →
      r.climbed = true → r.arrived = true → s.readUnit r = some u → u.gcm = true → (∀ e ∈ r.attached, ∀ n,
        e.hdr.fn = .inst n → s.cfg Obj.authDelivery n.val ≠ 1) →
      (p.hit = 0x5A#8 → p.missN = 0xA5#8 → r.tagFails = 0 →
        exec (.cipherMessageDone k (some rd) p) s = .next (((s.freeCore (Core_num k)).concludeRead rd r).settleKeys)) ∧
      (p.hit = 0xA5#8 → p.missN = 0x5A#8 → r.tagFails = 0 → r.source ≠ 1 → s.cfg Obj.tagFails < 2 ^ 64 - 1 →
        (s.lun (r.entry.lun?.getD 0)).state = .active → s.cipher.works = [] →
        ∃ t q, exec (.cipherMessageDone k (some rd) p) s = .next t ∧ Tbl.find t.store.reads rd = some q ∧
          q.source = 1 ∧ q.tagFails = r.source ∧ q.arrived = false ∧ q.steps = ladderStart r.mask .hard ∧
          t.cfg Obj.tagFails = s.cfg Obj.tagFails + 1 ∧ t.host = s.host ∧ t.out = s.out))) ∧
  (∀ (k : Core) (n : Nat) (s : State),
    (∃ t, exec (.maskReseed k n true) s = .next t ∧ Tbl.get 0 t.cipher.masks (Core_num k) = 0 ∧ t.cells = s.cells) ∧
    (Tbl.get 0 s.cipher.masks (Core_num k) + n < 1048576 ∨ 96 ≤ Core_num k → ∃ t, exec (.maskReseed k n false) s = .next t ∧
      Tbl.get 0 t.cipher.masks (Core_num k) = Tbl.get 0 s.cipher.masks (Core_num k) + n ∧ t = { s with cipher := t.cipher }) ∧
    (1048576 ≤ Tbl.get 0 s.cipher.masks (Core_num k) + n → Core_num k < 96 → s.cellRole (Core_num k) ≠ 7 →
      ∃ t, exec (.maskReseed k n false) s = .next t ∧ t.cellRole (Core_num k) = 7 ∧
        t.cfg Obj.fenceReason (Core_num k) = 5 ∧ t.lockOf (Core_num k) = none))

/-- R278: a durable reservation raises the slot's mark by the window, and its waiting writes go on. R285: a miss of a key that
the key service knows is filled where either transfer passes its check, the cache then holds 64 keys at most with that one the
latest, and both failing fences the cell with reason 5. R283: an emptied slot is filled again from a readable blob; with none
readable the key is lost. R288: destroying a key leaves no cell with it and its slot empty with the KID it had; a new key
raises the KID by one and starts the counter at 0; the blob pages
of a destroyed key are erased once 0x2700.0B seconds that permit erase have passed. R286, R287: key commands from an
instance end with Invalid Field; a blob refused under R286 changes no key, is counted in 0x2700.06, and ends its command with
Invalid Field; a transport KEK of index 0 to 15 is imported into its place and destroyed there; a key of a namespace of the
function's own port is replaced under R288. A Key Per I/O key of a permitted namespace takes its tag's place, no cell keeping
the old one, and is gone once cleared. Key Status answers and changes no key.
Choices of the model it rests on: log entries 6, 57, 62, 63, 64 and 130. -/
def Obligations.KeysAreKeptAndAccepted : Prop :=
  ((∀ (k : Fin 4096) (s : State) (q : KeySlot), q = s.keySlot k.val →
    (q.reserving = false → exec (.counterReservationDurable k) s = .next s) ∧
    (q.reserving = true → exec (.counterReservationDurable k) s = .next (State.settleAll (State.pushNs (s.setKeySlot k.val { q with
      high := q.high + s.cfg Obj.ctrWindow
      reserving := decide (q.high + s.cfg Obj.ctrWindow < q.wctr + s.cfg Obj.ctrWindow / 2) }) (k.val + 1)))) ∧
    (∀ b, Tbl.find s.cipher.blobs k.val = some b → q.kind = 0 → k.val ∉ s.cipher.lost → s.security.kek = true →
      s.blockLost 1 = false →
      s.cfg Obj.rootGen ≤ s.security.storeGen →
      (exec (.keySlotReload k true) s
        = .next (s.setKeySlot k.val { q with kind := b.kind, origin := b.origin, keyId := b.keyId })) ∧
      ∃ t, exec (.keySlotReload k false) s = .next t ∧ t.cipher.lost = s.cipher.lost ++ [k.val] ∧ t.cipher.slots = s.cipher.slots) ∧
    (q.kind ≠ 0 → ∀ ok, exec (.keySlotReload k ok) s = .next s) ∧
    (∀ w since, Tbl.find s.cipher.erasing k.val = some since → s.erasePermitted = true →
      (since + 1000000000 * s.cfg Obj.keyEraseS ≤ (s.tick w).store.eraseClock → exec (.keyEraseDue k w) s
        = .next { s.tick w with cipher := { s.cipher with erasing := Tbl.del s.cipher.erasing k.val } }) ∧
      ((s.tick w).store.eraseClock < since + 1000000000 * s.cfg Obj.keyEraseS →
        exec (.keyEraseDue k w) s = .next (s.tick w))) ∧
    (∀ w, Tbl.find s.cipher.erasing k.val = none ∨ s.erasePermitted = false → exec (.keyEraseDue k w) s = .next (s.tick w))) ∧
  (∀ (c : Fin 96) (k : KeyRef) (ok1 ok2 : Bool) (s : State),
    (k ∉ (s.cell c.val).keys → s.keyKnown k = true → s.cellRole c.val ≠ 7 →
      s.blockLost 1 = false →
      (ok1 = true ∨ ok2 = true → s.cfg Obj.keyMisses < 2 ^ 64 - 1 → ∃ t, exec (.keyCacheFill c k ok1 ok2) s = .next t ∧
        (t.cell c.val).keys.getLast? = some k ∧ (t.cell c.val).keys.length ≤ 64 ∧
        (∀ j ∈ (t.cell c.val).keys, j = k ∨ j ∈ (s.cell c.val).keys) ∧ t.cfg Obj.keyMisses = s.cfg Obj.keyMisses + 1) ∧
      (ok1 = false → ok2 = false → ∃ t, exec (.keyCacheFill c k ok1 ok2) s = .next t ∧ t.cellRole c.val = 7 ∧
        t.cfg Obj.fenceReason c.val = 5)) ∧
    (k ∉ (s.cell c.val).keys → s.keyKnown k = false → exec (.keyCacheFill c k ok1 ok2) s = .next s) ∧
    (k ∈ (s.cell c.val).keys → ∃ t, exec (.keyCacheFill c k ok1 ok2) s = .next t ∧ (t.cell c.val).keys.getLast? = some k ∧
      (∀ j, j ∈ (t.cell c.val).keys ↔ j ∈ (s.cell c.val).keys) ∧ t.cipher = s.cipher)) ∧
  (∀ (k : Nat) (s : State),
    (∀ e ∈ (s.destroyKey k).cells.cells, ∀ j ∈ e.2.keys, j ≠ .nsKey k (s.keySlot k).kid ∧
      ∀ a b, j ≠ .zoneKey k (s.keySlot k).kid a b) ∧
    ((s.destroyKey k).keySlot k).kind = 0 ∧ ((s.destroyKey k).keySlot k).kid = (s.keySlot k).kid ∧
    ∀ kind origin id, ((s.putKey k kind origin id).keySlot k).kid = ((s.keySlot k).kid + 1) % 2 ^ 32 ∧
      ((s.putKey k kind origin id).keySlot k).wctr = 0 ∧ ((s.putKey k kind origin id).keySlot k).kind = kind ∧
      ((s.putKey k kind origin id).keySlot k).high = s.cfg Obj.ctrWindow)) ∧
  ((∀ (h : Hdr) (b : KeyBlob) (i nsid : Nat) (s a : State), Starts s h a → Buffers a h →
    (h.fn.isManager = false →
      exec (.importTransportKek h b) s = .next (a.finish h ⟨⟨0, 2⟩, 0, 0⟩) ∧
      exec (.setNamespaceKey h b) s = .next (a.finish h ⟨⟨0, 2⟩, 0, 0⟩) ∧
      exec (.generateNamespaceKey h nsid) s = .next (a.finish h ⟨⟨0, 2⟩, 0, 0⟩) ∧
      exec (.destroyTransportKek h i) s = .next (a.finish h ⟨⟨0, 2⟩, 0, 0⟩) ∧
      exec (.keyStatusReceive h nsid) s = .next (a.finish h ⟨⟨0, 2⟩, 0, 0⟩)) ∧
    (h.fn.isManager = true →
      (a.blobRefused b = true → a.cfg Obj.unwrapFails < 2 ^ 32 - 1 →
        (∃ t d, exec (.importTransportKek h b) s = .next t ∧ t.cfg Obj.unwrapFails = a.cfg Obj.unwrapFails + 1 ∧
          t.cipher = a.cipher ∧ t.ctx? h = some d ∧ d.done = some ⟨⟨0, 2⟩, 0, 0⟩) ∧
        ∃ t d, exec (.setNamespaceKey h b) s = .next t ∧ t.cfg Obj.unwrapFails = a.cfg Obj.unwrapFails + 1 ∧
          t.cipher = a.cipher ∧ t.ctx? h = some d ∧ d.done = some ⟨⟨0, 2⟩, 0, 0⟩) ∧
      (a.blobRefused b = false → b.kind = 3 → b.target ≤ 15 → ∃ t, exec (.importTransportKek h b) s = .next t ∧
        Tbl.find t.cipher.tkeks b.target = some b.keyId ∧ t.cipher.slots = a.cipher.slots ∧
        ∀ j, j ≠ b.target → Tbl.find t.cipher.tkeks j = Tbl.find a.cipher.tkeks j) ∧
      (i ≤ 15 → ∃ t, exec (.destroyTransportKek h i) s = .next t ∧ Tbl.find t.cipher.tkeks i = none ∧
        ∀ j, j ≠ i → Tbl.find t.cipher.tkeks j = Tbl.find a.cipher.tkeks j) ∧
      (15 < i → exec (.destroyTransportKek h i) s = .next (a.finish h ⟨⟨0, 2⟩, 0, 0⟩)) ∧
      (∀ n, a.ns? b.target = some n → n.owner = a.portOfFn h.fn → a.blobRefused b = false → b.kind = n.word.cipherMode + 1 →
        exec (.setNamespaceKey h b) s = .next (a.beginKey h b.target 2 b.keyId .replace)) ∧
      (∀ n, a.ns? nsid = some n →
        (n.owner = a.portOfFn h.fn → exec (.generateNamespaceKey h nsid) s
            = .next (State.beginKey a.newKey.2 h nsid 1 a.newKey.1 .replace) ∧
          ∃ l, exec (.keyStatusReceive h nsid) s
            = .next (State.finish { a with out := a.out ++ [.reply h (.list l)] } h ⟨⟨0, 0⟩, 0, 0⟩)) ∧
        (n.owner ≠ a.portOfFn h.fn →
          exec (.generateNamespaceKey h nsid) s = .next (a.finish h ⟨⟨0, 2⟩, 0, 0⟩) ∧
          exec (.keyStatusReceive h nsid) s = .next (a.finish h ⟨⟨0, 2⟩, 0, 0⟩))))) ∧
  (∀ (h : Hdr) (b : KeyBlob) (nsid tag : Nat) (s a : State), Starts s h a → Buffers a h →
    (a.kpioMay h.fn b.target = false → exec (.keyPerIoInject h b) s = .next (a.finish h ⟨⟨0, 2⟩, 0, 0⟩)) ∧
    (a.kpioMay h.fn b.target = true → a.blobRefused b = false → b.kind ≠ 4 ∨ b.wrap = 0 ∨ 1023 < b.keyTag →
      exec (.keyPerIoInject h b) s = .next (a.finish h ⟨⟨0, 2⟩, 0, 0⟩)) ∧
    (a.kpioMay h.fn b.target = true → a.blobRefused b = false → b.kind = 4 → b.wrap ≠ 0 → b.keyTag ≤ 1023 →
      a.cipher.kpio.length < 65536 → ∃ t, exec (.keyPerIoInject h b) s = .next t ∧
        t.kpioKey b.target b.keyTag = some b.keyId ∧
        (∀ n g, ¬ (n = b.target ∧ g = b.keyTag) → t.kpioKey n g = a.kpioKey n g) ∧
        (∀ e ∈ t.cells.cells, .kpio (b.target - 1) b.keyTag ∉ e.2.keys) ∧ t.cfg Obj.kpioKeys = t.cipher.kpio.length) ∧
    (a.kpioMay h.fn nsid = true → tag ≤ 1023 → ∃ t, exec (.keyPerIoClear h nsid tag) s = .next t ∧
      t.kpioKey nsid tag = none ∧ (∀ n g, ¬ (n = nsid ∧ g = tag) → t.kpioKey n g = a.kpioKey n g) ∧
      ∀ e ∈ t.cells.cells, .kpio (nsid - 1) tag ∉ e.2.keys) ∧
    (1023 < tag → exec (.keyPerIoClear h nsid tag) s = .next (a.finish h ⟨⟨0, 2⟩, 0, 0⟩))))

/-! ### Digests, Shuttle, Basket and DRAM -/

/-- R290 to R293: however a message is cut into FEEDs, START, FEED and FINISH leave the hash of it as the result, and the HMAC
of FIPS 198-1 under a key; READ gives the result after FINISH, and zeros with error 1 before. R292, R305: an unknown algorithm,
HMAC without a key, or a use after FINISH gives its error code and nothing else; R33, R42: a core that is cut off or
in a fenced cell does nothing. R299, R300: over L bytes the comparator gives
MATCH exactly when they are equal and else NOMATCH; before FINISH a fault, counted. R296, R297: SAVE writes a zone's context
where its generation is still the zone's, and is discarded and counted in 0x2710.03 where it is not; RESTORE loads a context
whose CRC, format, algorithm and generation are right; with any of them wrong the core keeps its context, and the zone's digest
enters INVALID under the next generation.
Choices of the model it rests on: log entries 8, 12, 13 and 65. -/
def Obligations.DigestsFollowTheirInput : Prop :=
  ((∀ (alg : Nat) (a b : List Byte), 1 ≤ alg → alg ≤ 3 →
    ((DigestRun.fresh alg).feed a).feed b = (DigestRun.fresh alg).feed (a ++ b)) ∧
  (∀ (k : DigestCore) (alg : Nat) (key : Option (List Byte)) (a b : List Byte) (s : State), 1 ≤ alg → alg ≤ 3 →
    s.digestUp (DigestCore_num k) = true → a.length + b.length < 2 ^ 60 → ∃ s1 s2 s3 t,
      exec (.digestStart k alg key.isSome key) s = .next s1 ∧
      exec (.digestFeed k a) s1 = .next s2 ∧ exec (.digestFeed k b) s2 = .next s3 ∧ exec (.digestFinish k) s3 = .next t ∧
      (t.digestCore (DigestCore_num k)).result = some (match key with
        | none => hashOf alg (a ++ b)
        | some q => hashOf alg ((padKey alg q).map (· ^^^ 0x5C#8)
            ++ hashOf alg ((padKey alg q).map (· ^^^ 0x36#8) ++ (a ++ b)))) ∧
      (∀ j, j ≠ DigestCore_num k → t.digestCore j = s.digestCore j) ∧ t = { s with engines := t.engines }) ∧
  (∀ (k : DigestCore) (s : State), s.digestUp (DigestCore_num k) = false →
    ∀ b, exec (.digestFeed k b) s = .next s ∧ exec (.digestFinish k) s = .next s ∧ exec (.digestRead k) s = .next s) ∧
  (∀ (k : DigestCore) (s : State) (x : DigestSt), x = s.digestCore (DigestCore_num k) → s.digestUp (DigestCore_num k) = true →
    (∀ r, x.result = some r → (∃ t, exec (.digestRead k) s = .next t ∧ (t.digestCore (DigestCore_num k)).lastRead = r ∧
        t = { s with engines := t.engines }) ∧
      (∀ e l, 1 ≤ l → l ≤ algOut x.alg → e.length = l → ∃ t, exec (.digestCompare k e l) s = .next t ∧
        (t.digestCore (DigestCore_num k)).pair = (if r.take l = e then ⟨0x5A#8, 0xA5#8⟩ else ⟨0xA5#8, 0x5A#8⟩) ∧
        (t.digestCore (DigestCore_num k)).result = some r)) ∧
    (x.result = none → (96 ≤ DigestCore_num k ∨ x.misuse = 0 → ∃ t, exec (.digestRead k) s = .next t ∧
        (t.digestCore (DigestCore_num k)).lastRead = List.replicate (algOut x.alg) 0#8 ∧
        t.cfg Obj.digestErrors % 2 ^ 32 = (s.cfg Obj.digestErrors % 2 ^ 32 + 1) % 2 ^ 32) ∧
      (∀ e l, s.cfg Obj.compareFaults < 2 ^ 32 - 1 → ∃ t, exec (.digestCompare k e l) s = .next t ∧
        t.cfg Obj.compareFaults = s.cfg Obj.compareFaults + 1)) ∧
    (96 ≤ DigestCore_num k →
      (∀ alg h key, alg = 0 ∨ 3 < alg → ∃ t, exec (.digestStart k alg h key) s = .next t ∧
        t.digestCore (DigestCore_num k) = { x with error := 6 }) ∧
      (∀ alg, 1 ≤ alg → alg ≤ 3 → ∃ t, exec (.digestStart k alg true none) s = .next t ∧
        t.digestCore (DigestCore_num k) = { x with error := 5 }) ∧
      (x.result ≠ none → (∀ b, ∃ t, exec (.digestFeed k b) s = .next t ∧
          t.digestCore (DigestCore_num k) = { x with error := 2 }) ∧
        ∃ t, exec (.digestFinish k) s = .next t ∧ t.digestCore (DigestCore_num k) = { x with error := 2 })))) ∧
  (∀ (k : DigestCore) (nsid z : Nat) (s : State) (n : Ns) (x : DigestSt), s.ns? nsid = some n →
    x = s.digestCore (DigestCore_num k) → s.digestUp (DigestCore_num k) = true →
    (∀ c, x.result = none → x.run = .short c →
      (x.zgen = (n.zone z).zgen → ∃ t m, exec (.digestSave k nsid z) s = .next t ∧ t.ns? nsid = some m ∧
        m.zone z = { n.zone z with dctx := some c } ∧ (∀ v, v ≠ z → m.zone v = n.zone v) ∧
        t.store.journal = s.store.journal ∧ t.host = s.host) ∧
      (x.zgen ≠ (n.zone z).zgen → s.cfg Obj.staleSaves < 2 ^ 32 - 1 → ∃ t, exec (.digestSave k nsid z) s = .next t ∧
        t.cfg Obj.staleSaves = s.cfg Obj.staleSaves + 1 ∧ t = { s with dict := t.dict })) ∧
    (∀ d : SavedDigest, d.crcOk = true ∧ d.format = 1 ∧ d.alg = 1 ∧ d.zgen = (n.zone z).zgen → ∃ t y,
      exec (.digestRestore k nsid z d) s = .next t ∧ y = t.digestCore (DigestCore_num k) ∧ y.zgen = d.zgen ∧ y.alg = 1 ∧
        y.run = .short { h := d.h, count := d.count, tail := d.block.take (d.count % 64) } ∧ y.result = none ∧
        t = { s with engines := t.engines }) ∧
    (∀ d : SavedDigest, ¬ (d.crcOk = true ∧ d.format = 1 ∧ d.alg = 1 ∧ d.zgen = (n.zone z).zgen) → n.word.digest = true →
      (n.zone z).dstate ≠ .invalid → ∃ t m, exec (.digestRestore k nsid z d) s = .next t ∧ t.ns? nsid = some m ∧
        (m.zone z).dstate = .invalid ∧ (m.zone z).dctx = none ∧ (m.zone z).zgen = ((n.zone z).zgen + 1) % 2 ^ 16 ∧
        (m.zone z).wp = (n.zone z).wp ∧ (t.digestCore (DigestCore_num k)).run = x.run ∧
        (t.digestCore (DigestCore_num k)).error = 4))

/-- R307 to R319: a visible channel that is enabled with a good ring is IDLE at descriptor 0, with a bad one HALTED with code
9. A TAIL below the ring size that differs from HEAD makes an IDLE one run, one at or above it halts it with code 7. It stops
on a descriptor it does not own, halts with code 1, 5 or 6 on a bad one, and else moves it, gives it back, writes a record
where asked and goes to the next. A paused one keeps its place and goes on from it; a halted one keeps its index until it is
cleared.
Choices of the model it rests on: log entries 66, 67 and 68. -/
def Obligations.ShuttleMovesAndStops : Prop :=
  ∀ (c : ShuttleId) (s : State) (x : ShuttleSt), s.shuttleSeen c = true → x = s.shuttle c →
    (x.state ≠ 0 → ∀ b r l, exec (.shuttleEnable c b r l) s = .next s) ∧
    (x.state = 0 → ∀ b r l, ∃ t y, exec (.shuttleEnable c b r l) s = .next t ∧ y = t.shuttle c ∧ y.head = 0 ∧ y.tail = 0 ∧
      y.bytes = 0 ∧ y.ringLog2 = l ∧ y.ringBase = b / 64 * 64 ∧
      (4 ≤ l ∧ l ≤ 16 ∧ 64 ≤ b → y.state = 1 ∧ y.seq = 0) ∧
      (l < 4 ∨ 16 < l ∨ b < 64 → y.state = 5 ∧ y.errCode = 9)) ∧
    (∀ v, v < 65536 → 1 ≤ x.state → x.state ≠ 5 →
      (x.size ≤ v → ∃ t, exec (.shuttleTailWrite c v) s = .next t ∧ (t.shuttle c).state = 5 ∧ (t.shuttle c).errCode = 7 ∧
        (t.shuttle c).errIndex = x.head) ∧
      (v < x.size → ∃ t, exec (.shuttleTailWrite c v) s = .next t ∧ (t.shuttle c).tail = v ∧ (t.shuttle c).head = x.head ∧
        (x.state = 1 → x.paused = false → (t.shuttle c).state = if x.head = v then 1 else 2) ∧
        (x.state ≠ 1 → (t.shuttle c).state = x.state) ∧ t = { s with engines := t.engines })) ∧
    (x.state = 2 → x.desc = none → ∀ d : ShuttleDesc,
      (∀ e, e ≠ .ok → ∃ t, exec (.descriptorRead c d e) s = .next t ∧ (t.shuttle c).state = 5 ∧ (t.shuttle c).errCode = 1) ∧
      (d.own = false → ∃ t, exec (.descriptorRead c d .ok) s = .next t ∧ (t.shuttle c).state = 1 ∧
        (t.shuttle c).ownStall = true ∧ (t.shuttle c).head = x.head ∧
        (x.head ≠ x.tail → s.cfg Obj.ownStalls < 2 ^ 32 - 1 → t.cfg Obj.ownStalls = s.cfg Obj.ownStalls + 1)) ∧
      (d.own = true → s.descBad c.port d ≠ 0 → ∃ t, exec (.descriptorRead c d .ok) s = .next t ∧ (t.shuttle c).state = 5 ∧
        (t.shuttle c).errCode = s.descBad c.port d ∧ (t.shuttle c).errIndex = x.head) ∧
      (d.own = true → s.descBad c.port d = 0 → ∃ t, exec (.descriptorRead c d .ok) s = .next t ∧ (t.shuttle c).state = 2 ∧
        (t.shuttle c).desc = some d ∧ (t.shuttle c).curSrc = d.src ∧ (t.shuttle c).curDst = d.dst ∧
        (t.shuttle c).remain = d.count ∧ (t.shuttle c).ownStall = false ∧ t = { s with engines := t.engines })) ∧
    (∀ (d : ShuttleDesc) (bs : List Byte), x.state = 2 → x.desc = some d → d.dstSpace = 0 → bs.length = x.remain →
      ∃ (t : State) (y : ShuttleSt), exec (.descriptorDone c bs) s = .next t ∧ y = t.shuttle c ∧
        y.head = (x.head + 1) % x.size ∧ y.desc = none ∧
        y.bytes = x.bytes + x.remain ∧
        y.state = (if (x.head + 1) % x.size = x.tail then 1 else if x.paused then 4 else 2) ∧
        t.out = s.out ++ [.shuttleWrite c.port c.ch.val x.curDst (s.sourceBytes x d x.remain bs),
            .descriptorOwn c.port c.ch.val x.head] ++
          (if d.wantRec = true ∧ x.recordAddr ≠ 0 then [.shuttleRecord c.port c.ch.val x.recordAddr [(0, x.seq + 1),
            (108, y.state), (112, x.head), (128, x.errCode), (160, d.tag), (192, x.bytes + x.remain)]] else [])) ∧
    (∀ (d : ShuttleDesc) (bs : List Byte), x.desc = some d → bs.length ≤ x.remain →
      (x.state = 2 → ∃ t, exec (.shuttlePauseWrite c true) s = .next t ∧ t.shuttle c = { x with pauseSw := true, state := 3 }) ∧
      (x.state = 3 → ∃ t y, exec (.shuttlePaused c bs) s = .next t ∧ y = t.shuttle c ∧ y.desc = some d ∧
        y.curSrc = x.curSrc + bs.length ∧ y.curDst = x.curDst + bs.length ∧ y.remain = x.remain - bs.length ∧
        y.head = x.head ∧ y.state = if x.toOff then 0 else 4) ∧
      (x.state = 4 → x.pauseDom = false → x.pauseDev = false → x.toOff = false →
        ∃ t, exec (.shuttlePauseWrite c false) s = .next t ∧ t.shuttle c = { x with pauseSw := false, state := 2 }) ∧
      (x.state = 2 ∨ x.state = 3 → ∀ e, ∃ t, exec (.shuttleHalt c e bs) s = .next t ∧ (t.shuttle c).state = 5 ∧
        (t.shuttle c).errCode = e ∧ (t.shuttle c).errIndex = x.head ∧ (t.shuttle c).remain = x.remain - bs.length)) ∧
    (∃ t, exec (.shuttleDisable c) s = .next t ∧
      t.shuttle c = if x.state = 2 ∨ x.state = 3 then { x with state := 3, toOff := true } else { x with state := 0 }) ∧
    (x.state = 5 → x.paused = false → x.head ≠ x.tail → ∃ t, exec (.shuttleClear c) s = .next t ∧
      t.shuttle c = { x with errCode := 0, desc := none, state := 2 }) ∧
    (∀ d : ShuttleDesc, (d.count = 0 → s.descBad c.port d = 5) ∧
      (d.count ≠ 0 → d.srcSpace = 1 ∧ d.src / 2 ^ 48 = 1 ∨ d.dstSpace = 1 ∧ (d.dst / 2 ^ 48 = 2 ∨ d.dst / 2 ^ 48 = 3) ∨
          1 < d.srcSpace ∨ 1 < d.dstSpace ∨ (∃ n : Fin 1024, d.dstSpace = 1 ∧ d.dst / 2 ^ 48 = 0x1000 + n.val ∧
            (s.fn (.inst n)).state ≠ .frozen) → s.descBad c.port d = 6) ∧
      (d.count ≠ 0 → d.srcSpace = 0 → d.dstSpace = 0 → s.descBad c.port d = 0))

/-- R321 to R323, R325: a holder below its minimum is served while any buffer is free, one at or above it only from the general
free buffers; else it joins the line once, or, where its agent holds a general buffer of the pool, does not wait (R325), and an
agent that holds something later in the order of R49 gets nothing. A freed buffer goes to the oldest waiter below its minimum,
else to the head of the line (R74). A buffer with a bad link is put out of service. R326, R327: an allocated buffer has one
reference, or two where a media read fills it for a function; an increment needs a count of at least 1 and below 0x2480.04; the
last decrement makes it the head of the free list; a fence moves the charge to the oldest user left.
Choices of the model it rests on: log entries 69 and 70. -/
def Obligations.BuffersAreCountedAndCharged : Prop :=
  (∀ (p : Fin 16) (h : Holder) (g : Option LockId) (s : State),
    ((s.pool p.val).inUse (Holder_num h) < s.minimum p.val (Holder_num h) → 0 < s.poolFree p.val →
      s.maySupply p.val (Holder_num h) = true) ∧
    (s.minimum p.val (Holder_num h) ≤ (s.pool p.val).inUse (Holder_num h) → s.generalFree p.val = 0 →
      s.maySupply p.val (Holder_num h) = false) ∧
    (∀ a ok, g = some a → s.pastBasket a = true → exec (.bufferAllocate p h g ok) s = .next s) ∧
    (g.any s.pastBasket = false → s.maySupply p.val (Holder_num h) = false →
      ((s.pool p.val).holdsGeneral g = true → exec (.bufferAllocate p h g true) s = .next s) ∧
      ((s.pool p.val).holdsGeneral g = false → ∃ t, exec (.bufferAllocate p h g true) s = .next t ∧
        t.pool p.val = { s.pool p.val with waiters := (s.pool p.val).waiters ++ [Holder_num h] } ∧ t.host = s.host)) ∧
    (∀ b x, g.any s.pastBasket = false → s.maySupply p.val (Holder_num h) = true → s.popBuf p.val = some (b, x) →
      ∃ t y, exec (.bufferAllocate p h g true) s = .next t ∧ Tbl.find (t.pool p.val).bufs b = some y ∧
        y.charge = some (Holder_num h) ∧ y.refs = (if p.val = 1 ∧ Holder_num h < 1026 then 2 else 1) ∧ y.agent = g ∧
        (y.general = true ↔ s.minimum p.val (Holder_num h) ≤ (s.pool p.val).inUse (Holder_num h)) ∧
        (∀ c, c ≠ b → Tbl.find (t.pool p.val).bufs c = Tbl.find (s.pool p.val).bufs c) ∧
        (t.pool p.val).freed = x.freed ∧ (t.pool p.val).fresh = x.fresh) ∧
    (∀ b x, g.any s.pastBasket = false → s.popBuf p.val = some (b, x) → s.cfg Obj.poolFaults p.val < 2 ^ 32 - 1 →
      ∃ t, exec (.bufferAllocate p h g false) s = .next t ∧ b ∈ (t.pool p.val).bad ∧
        t.cfg Obj.poolFaults p.val = s.cfg Obj.poolFaults p.val + 1)) ∧
  (∀ (p : Fin 16) (s : State) (serve : Nat → State), (∀ n, serve n = State.allocate (s.setPool p.val
      { s.pool p.val with waiters := (s.pool p.val).waiters.erase n }) p.val n none) →
    ((s.pool p.val).waiters = [] → exec (.bufferWaitServed p) s = .next s) ∧
    (∀ as n bs, (s.pool p.val).waiters = as ++ n :: bs → (s.pool p.val).inUse n < s.minimum p.val n →
      s.maySupply p.val n = true →
      (∀ m ∈ as, s.minimum p.val m ≤ (s.pool p.val).inUse m ∨ s.maySupply p.val m = false) →
      exec (.bufferWaitServed p) s = .next (serve n)) ∧
    (∀ n rest, (s.pool p.val).waiters = n :: rest →
      (∀ m ∈ n :: rest, s.minimum p.val m ≤ (s.pool p.val).inUse m ∨ s.maySupply p.val m = false) →
      exec (.bufferWaitServed p) s = .next (if s.maySupply p.val n then serve n else s))) ∧
  (∀ (p : Fin 16) (b : Nat) (f : Func) (y : BufSt) (s : State), Tbl.find (s.pool p.val).bufs b = some y →
    (y.refs = 0 ∨ s.cfg Obj.coalesceMaxRef ≤ y.refs → exec (.referenceIncrement p b f) s = .next s) ∧
    (1 ≤ y.refs → y.refs < s.cfg Obj.coalesceMaxRef → ∃ t z, exec (.referenceIncrement p b f) s = .next t ∧
      Tbl.find (t.pool p.val).bufs b = some z ∧ z.refs = y.refs + 1 ∧ z.users = y.users ++ [(f.code, (s.fn f).gen.toNat)] ∧
      (y.charge ≠ none → z.charge = y.charge)) ∧
    ((∀ u ∈ y.users, u.1 ≠ f.code) → ∀ e, exec (.referenceDecrement p b (some f) e) s = .next s) ∧
    ((∃ u ∈ y.users, u.1 = f.code) → ∀ e,
      (y.refs ≤ 1 → ∃ t, exec (.referenceDecrement p b (some f) e) s = .next t ∧
        Tbl.find (t.pool p.val).bufs b = none ∧ (t.pool p.val).freed = b :: (s.pool p.val).freed) ∧
      (2 ≤ y.refs → ∃ t z, exec (.referenceDecrement p b (some f) e) s = .next t ∧
        Tbl.find (t.pool p.val).bufs b = some z ∧ z.refs = y.refs - 1 ∧ z.users = dropUser f.code y.users ∧
        z.charge = (if e = true ∧ y.charge = some f.code then (dropUser f.code y.users).head?.map (·.1) else y.charge))) ∧
    (∀ e, 2 ≤ y.refs → ∃ t, exec (.referenceDecrement p b none e) s = .next t ∧
      Tbl.find (t.pool p.val).bufs b = some { y with refs := y.refs - 1, own := false })) ∧
  (∀ (p : Fin 16) (b : Nat) (f : Option Func) (e : Bool) (s : State), Tbl.find (s.pool p.val).bufs b = none →
    (∀ g, exec (.referenceIncrement p b g) s = .next s) ∧
    (s.cfg Obj.poolFaults p.val < 2 ^ 32 - 1 → ∃ t, exec (.referenceDecrement p b f e) s = .next t ∧
      t.pool p.val = s.pool p.val ∧ t.cfg Obj.poolFaults p.val = s.cfg Obj.poolFaults p.val + 1))

/-- R257 to R266, R331, R336 to R339: what is written to DRAM is read back, every other byte keeps its value, and the memory
keeps its form (the byte list is the model's); a granule whose valid bit is 0 reads as zeros, and the fill sets the lowest
such bit and clears none. A burst whose words name two devices of an unmarked rank is poisoned where the second read fails
too; one that names a single device is corrected, each word counted, and 16 words mark the device. A request beyond the data
capacity changes nothing, and one whose channel is not ACTIVE or whose link is parked waits in the link (R19, R341). R334,
R335, R340: when its interval has ended a rank re-centres, counted, where its sensor has moved by 0x2500.07, else not; one
that fails to retrain, or a request that times out on an active channel, loses the channel: the device restarts with the
cause kept. A refresh is due no earlier than its grid slot, 0.8 T after the last due time and 0.6 T after the last issue; a
postponed one is issued at its limit, counted as late. MR4 sets the rate of the channel. Choices of the model it rests on:
log entries 17, 71 and 72. -/
def Obligations.DramServesRefreshesAndLosesChannels : Prop :=
  ((∀ (a : Nat) (bs : List Byte) (e : DramErrors) (s : State), e.words = [] → e.uncorrectable = [] → s.mem.poison = [] →
    Memory.wf s.mem.dram = true → bs.length ≤ 128 - a % 128 → a + bs.length ≤ s.dramBytes →
    s.dramTakes (s.dramPlace a).1 = true → ∃ t u, exec (.dramRequest (.write a bs) e) s = .next t ∧
      exec (.dramRequest (.read a bs.length) e) t = .next u ∧ u.mem.answer = bs.map some ∧
      (∀ b, b < a ∨ a + bs.length ≤ b → cellsRead t.mem.dram b = cellsRead s.mem.dram b) ∧
      Memory.wf t.mem.dram = true ∧ t.host = s.host ∧ t.store = s.store) ∧
  (∀ (a n : Nat) (e : DramErrors) (s : State), a + n ≤ s.dramBytes → s.dramTakes (s.dramPlace a).1 = true →
    s.granuleValid (a / 65536) = false → exec (.dramRequest (.read a n) e) s = .next { s with mem := { s.mem with
      answer := List.replicate (min n (128 - a % 128)) (some 0) } }) ∧
  (∀ s : State, (s.mem.filling = false → exec .validBitGranuleFill s = .next s) ∧
    (s.mem.filling = true → ∃ t, exec .validBitGranuleFill s = .next t ∧ t.granuleValid s.mem.fillAt = true ∧
      (∀ g, s.granuleValid g = true → t.granuleValid g = true) ∧ t.mem.dram = s.mem.dram ∧ t.host = s.host)) ∧
  (∀ (c : Fin 4) (a : Nat) (e : DramErrors) (s : State), a < s.dramBytes → (s.dramPlace a).1 = c.val →
    s.dramTakes c.val = true → s.granuleValid (a / 65536) = true → e.uncorrectable = [] →
    s.anyMark c.val (s.dramRank (s.dramPlace a).2) = false →
    (∀ v w, v ∈ e.words → w ∈ e.words → v.2 ≠ w.2 → ∃ t, exec (.dramPatrol c a e) s = .next t ∧
      ∀ u ∈ e.words, u.1 ∈ e.again → a / 128 * 16 + u.1.val ∈ t.mem.poison) ∧
    (∀ d : Fin 10, (∀ w ∈ e.words, w.2 = d) → s.cfg Obj.ceCount 0 (5 + c.val) + e.words.length < 2 ^ 64 →
      ∃ t, exec (.dramPatrol c a e) s = .next t ∧
        t.cfg Obj.ceCount 0 (5 + c.val) = s.cfg Obj.ceCount 0 (5 + c.val) + e.words.length ∧
        (∀ w, w ∈ t.mem.poison ↔ w ∈ s.mem.poison) ∧
        (16 ≤ e.words.length → t.marked c.val (s.dramRank (s.dramPlace a).2) d.val = true))) ∧
  (∀ (op : DramOp) (a : Nat) (c : Fin 4) (e : DramErrors) (s : State),
    (s.dramBytes < dramEnd op → exec (.dramRequest op e) s = .next s) ∧
    (dramEnd op ≤ s.dramBytes → s.dramTakes (s.dramPlace (dramFirst op)).1 = false →
      exec (.dramRequest op e) s = .next { s with mem := { s.mem with requests := s.mem.requests ++ [(op, e)] } }) ∧
    (s.dramBytes ≤ a → exec (.dramPatrol c a e) s = .next s))) ∧
  ((∀ (c r : Fin 4) (deg : Int) (w now : Nat) (ok : Bool) (s : State) (x : DramChan), x = s.chan c.val → x.state = 2 →
    r.val < x.ranks →
    ((s.tick now).isDue (Periodic.recentre c.val) = false → exec (.dramRecentre c r deg w ok now) s = .next (s.tick now)) ∧
    ((s.tick now).isDue (Periodic.recentre c.val) = true →
    ((deg - x.centred).natAbs < s.cfg Obj.dramRecentreDeg → exec (.dramRecentre c r deg w ok now) s =
      .next ((s.tick now).taskDone (Periodic.recentre c.val) (1000000000 * s.cfg Obj.recentreS))) ∧
    (s.cfg Obj.dramRecentreDeg ≤ (deg - x.centred).natAbs → s.cfg Obj.recentres < 2 ^ 32 - 1 →
      (ok = true ∨ s.minEye ≤ w → ∃ t, exec (.dramRecentre c r deg w ok now) s = .next t ∧
        t.cfg Obj.recentres = s.cfg Obj.recentres + 1 ∧ (t.chan c.val).eyeMin = w ∧ (t.chan c.val).state = 2 ∧
        (t.chan c.val).centred = (if r.val + 1 = x.ranks then deg else x.centred) ∧
        (∀ d, d ≠ c.val → t.chan d = s.chan d) ∧ t.host = s.host) ∧
      (ok = false → w < s.minEye → ∃ t, exec (.dramRecentre c r deg w ok now) s = .next t ∧ t.power.restart = true ∧
        t.mem.restartCause = 2)))) ∧
  (∀ (c : Fin 4) (s : State), ((s.chan c.val).state ≠ 2 → exec (.dramTimeout c) s = .next s) ∧
    ((s.chan c.val).state = 2 → ∃ t, exec (.dramTimeout c) s = .next t ∧ t.power.restart = true ∧ t.mem.restartCause = 2)) ∧
  (∀ (c rk : Fin 4) (now : Nat) (r : Refresh) (s : State), (s.chan c.val).state = 2 → s.now ≤ now →
    Tbl.find (s.chan c.val).refresh rk.val = some r → s.cfg Obj.refLate < 2 ^ 64 - 1 →
    (now < r.due → exec (.refreshDue c rk now) s = .next (s.tick now)) ∧
    (r.due ≤ now → r.postponed = true ∨ s.refreshLimit r ≤ now → r.period = (s.chan c.val).period →
      ∃ t q, exec (.refreshDue c rk now) s = .next t ∧
        Tbl.find (t.chan c.val).refresh rk.val = some q ∧ q.slot = r.slot + 1 ∧ q.postponed = false ∧
        r.base + (r.slot + 1) * r.period ≤ q.due ∧ r.due + r.period * 8 / 10 ≤ q.due ∧ now + r.period * 6 / 10 ≤ q.due ∧
        (r.due < now → t.cfg Obj.refLate = s.cfg Obj.refLate + 1)) ∧
    (r.due ≤ now → r.postponed = false → now < s.refreshLimit r → ∃ t q, exec (.refreshDue c rk now) s = .next t ∧
      Tbl.find (t.chan c.val).refresh rk.val = some q ∧
      (q = { r with postponed := true } ∨ q = r.after now (s.chan c.val).period)) ∧
    (r.postponed = false ∨ now < s.refreshLimit r → exec (.refreshPostponeLimit c rk now) s = .next (s.tick now)) ∧
    (r.postponed = true → s.refreshLimit r ≤ now → ∃ t, exec (.refreshPostponeLimit c rk now) s = .next t ∧
      Tbl.find (t.chan c.val).refresh rk.val = some (r.after now (s.chan c.val).period))) ∧
  (∀ (c : Fin 4) (hot : Bool) (s : State), ∃ t, exec (.mr4Poll c hot) s = .next t ∧ t.chan c.val = { s.chan c.val with hot := hot } ∧
    (∀ d, d ≠ c.val → t.chan d = s.chan d) ∧ t = { s with mem := t.mem }))

/-! ### Administration -/

/-- R83, R119, R349: Abort ends a target that is fetched, not admitted and has moved no data with Command Abort Requested, and
its own Dword 0 says whether it did; an Asynchronous Event Request takes a held event at once, waits where there is none, and
the ninth outstanding one ends with its limit. A data buffer whose PRPs are refused ends the command with that
status (R114); a log page that a function has is answered and read without change under RAE;
any other ends with Invalid Log Page, and Device State shows the modes, MODE_SEQ and the power states. R347: Identify
Controller reports version 2.1.0, FRMW 0x19, ELPE 255, NPSS 4, temperatures of 378 K and 383 K, NN 4,096 and the function's
MAXCMD; a structure of the managers alone, and one that is not defined, end with Invalid Field for others; the active list
holds attached namespaces above the NSID only. R348: Get Features of another identifier ends with Invalid Field; the current
value of Arbitration is what was set, 3 by default, its capability word says that it is saveable and changeable. R426, R427: a
window log at offset 0 is answered and moves no cursor unless told to.
Choices of the model it rests on: log entries 6 and 26. -/
def Obligations.AdminCommandsThatReadAnswer : Prop :=
  (∀ (h : Hdr) (s a : State), Starts s h a →
    (∀ (q i : Nat) (c : Ctx), a.ctx? ⟨h.fn, q, i⟩ = some c → (⟨h.fn, q, i⟩ : Hdr) ≠ h →
      (c.done = none → c.admitted = false → c.moved = false → ∃ t, exec (.abort h q i) s = .next t ∧
        Ended t ⟨h.fn, q, i⟩ ⟨0, 0x07⟩ 0 ∧ Ended t h ⟨0, 0⟩ 0) ∧
      (c.done ≠ none ∨ c.admitted = true ∨ c.moved = true →
        exec (.abort h q i) s = .next (a.finish h ⟨⟨0, 0⟩, 1, 0⟩))) ∧
    (∀ q i, a.ctx? ⟨h.fn, q, i⟩ = none → exec (.abort h q i) s = .next (a.finish h ⟨⟨0, 0⟩, 1, 0⟩)) ∧
    (∀ e r, (a.fn h.fn).events = e :: r → ∃ t, exec (.asynchronousEventRequest h) s = .next t ∧ Ended t h ⟨0, 0⟩ e.dw0 ∧
      (t.fn h.fn).events = r) ∧
    ((a.fn h.fn).events = [] → h ∉ (a.fn h.fn).aers →
      ((a.fn h.fn).aers.length < 8 → ∃ t d, exec (.asynchronousEventRequest h) s = .next t ∧
        (t.fn h.fn).aers = (a.fn h.fn).aers ++ [h] ∧ t.ctx? h = some d ∧ d.done = none ∧ d.wait = .event) ∧
      (8 ≤ (a.fn h.fn).aers.length → exec (.asynchronousEventRequest h) s = .next (a.finish h ⟨⟨1, 0x05⟩, 0, 0⟩))) ∧
    (∀ (lid o nsid numd : Nat) (rae : Bool) (st : Status), lid ≠ 0xD0 → a.adminBuffer h (4 * (numd + 1)) = some st →
      exec (.getLogPage h lid o nsid numd rae) s = .next ((a.countPointer h.fn st).finish h ⟨st, 0, 0⟩)) ∧
    (∀ (o nsid numd : Nat) (rae : Bool), Buffers a h →
      (∀ lid, hasPage h.fn lid = false → lid ≠ 0xD0 →
        exec (.getLogPage h lid o nsid numd rae) s = .next (a.finish h ⟨⟨1, 0x09⟩, 0, 0⟩)) ∧
      (h.fn.isManager = false → exec (.getLogPage h 0x06 o nsid numd rae) s = .next (a.finish h ⟨⟨1, 0x09⟩, 0, 0⟩)) ∧
      (5 ≤ numd → exec (.getLogPage h 0xD1 0 nsid numd rae) s = .next (State.finish { a with out := a.out ++ [.reply h (.words
        [(0, a.modes.toNat), (8, a.cfg Obj.modeSeq), (16, a.power.current + 16 * a.power.target), (17, a.derate),
         (18, a.cfg Obj.lastWake), (19, a.power.refuseDomain), (20, a.power.refuseHold)])] } h ⟨⟨0, 0⟩, 0, 0⟩)) ∧
      (∀ lid, hasPage h.fn lid = true → (lid = 0xBF → (a.ns? nsid).isSome = true) →
        (lid ∈ [0x21, 0x22, 0x23] → a.store.fdp ≠ none) → ∃ w,
        exec (.getLogPage h lid 0 nsid numd true) s
          = .next (State.finish { a with out := a.out ++ [.reply h (.words w)] } h ⟨⟨0, 0⟩, 0, 0⟩)) ∧
      (∃ t, exec (.getLogPage h 0x04 0 nsid numd false) s = .next t ∧ Tbl.get [] t.admin.changedNs h.fn.code = [] ∧
        ∀ j, j ≠ h.fn.code → Tbl.get [] t.admin.changedNs j = Tbl.get [] a.admin.changedNs j))) ∧
  (∀ (h : Hdr) (s a : State), Starts s h a → Buffers a h →
    (∀ (n c i : Nat), (∃ w, exec (.identify h 0x01 n c i) s
        = .next (State.finish { a with out := a.out ++ [.reply h (.words w)] } h ⟨⟨0, 0⟩, 0, 0⟩) ∧
        (∀ e ∈ [(80, 0x00020100), (260, 0x19), (262, 255), (263, 4), (265, 1), (266, 378), (268, 383), (516, 4096),
          (514, a.maxCmd h.fn), (78, cntlidOf h.fn)], e ∈ w)) ∧
      (∃ l, exec (.identify h 0x02 n c i) s
          = .next (State.finish { a with out := a.out ++ [.reply h (.list l)] } h ⟨⟨0, 0⟩, 0, 0⟩) ∧ l.length ≤ 1024 ∧
        ∀ j ∈ l, n < j ∧ ∃ x, (j, x) ∈ a.store.ns ∧ h.fn.code ∈ x.attached) ∧
      (h.fn.isManager = false → ∀ k ∈ [0x10, 0x11, 0x12, 0x13, 0x14, 0x15],
        exec (.identify h k n c i) s = .next (a.finish h ⟨⟨0, 0x02⟩, 0, 0⟩)) ∧
      (∀ k, 0x1C < k → exec (.identify h k n c i) s = .next (a.finish h ⟨⟨0, 0x02⟩, 0, 0⟩))) ∧
    (∀ fid sel n d, hasFeature h.fn fid = false ∨ 3 < sel →
      exec (.getFeatures h fid sel n d) s = .next (a.finish h ⟨⟨0, 0x02⟩, 0, 0⟩)) ∧
    (∀ n d, exec (.getFeatures h 0x01 0 n d) s
        = .next (a.finish h ⟨⟨0, 0⟩, (Tbl.find (a.fn h.fn).feats 1).getD 3, 0⟩) ∧
      exec (.getFeatures h 0x01 1 n d) s = .next (a.finish h ⟨⟨0, 0⟩, 3, 0⟩) ∧
      exec (.getFeatures h 0x01 3 n d) s = .next (a.finish h ⟨⟨0, 0⟩, 5, 0⟩) ∧
      exec (.getFeatures h 0x06 3 n d) s = .next (a.finish h ⟨⟨0, 0⟩, 4, 0⟩)) ∧
    (∀ adv o numd, o ≠ 0 → exec (.samplerWindowLog h adv o numd) s = .next (a.finish h ⟨⟨0, 0x02⟩, 0, 0⟩)) ∧
    (∀ adv numd, ∃ t, exec (.samplerWindowLog h adv 0 numd) s = .next t ∧ Ended t h ⟨0, 0⟩ 0 ∧
      (adv = false → (t.acc h.fn.accessor.code).cursor = (a.acc h.fn.accessor.code).cursor)))

/-- R348: SV on a feature that is not saveable ends with Feature Identifier Not Saveable and changes nothing; each other
feature takes the values of its row, saves them with SV, and changes nothing else; values outside the row end with Invalid
Field. Power Management is refused to an instance, and from a manager sets the request that the device follows.
Choices of the model it rests on: log entries 6, 81 and 131. -/
def Obligations.FeaturesTakeTheirRowsValues : Prop :=
  ∀ (h : Hdr) (s a : State), Starts s h a → Buffers a h →
    (∀ (x y z : Nat) (b : Bool) (l : List Nat), exec (.setErrorRecovery h true x b) s = .next (a.finish h ⟨⟨1, 0x0D⟩, 0, 0⟩) ∧
      exec (.setVolatileWriteCache h true b) s = .next (a.finish h ⟨⟨1, 0x0D⟩, 0, 0⟩) ∧
      exec (.setNumberOfQueues h true x y) s = .next (a.finish h ⟨⟨1, 0x0D⟩, 0, 0⟩) ∧
      exec (.setInterruptCoalescing h true x) s = .next (a.finish h ⟨⟨1, 0x0D⟩, 0, 0⟩) ∧
      exec (.setInterruptVectorConfiguration h true x b) s = .next (a.finish h ⟨⟨1, 0x0D⟩, 0, 0⟩) ∧
      exec (.setWriteAtomicityNormal h true b) s = .next (a.finish h ⟨⟨1, 0x0D⟩, 0, 0⟩) ∧
      exec (.setTimestamp h true z) s = .next (a.finish h ⟨⟨1, 0x0D⟩, 0, 0⟩) ∧
      exec (.setFdp h true b x) s = .next (a.finish h ⟨⟨1, 0x0D⟩, 0, 0⟩) ∧
      exec (.setFdpEvents h true b l) s = .next (a.finish h ⟨⟨1, 0x0D⟩, 0, 0⟩)) ∧
    (∀ (sv : Bool) (b l m g : Nat), b < 8 → l < 256 → m < 256 → g < 256 → ∃ t, exec (.setArbitration h sv b l m g) s = .next t ∧
      StoresFeature a t h sv 0x01 (b + 256 * l + 65536 * m + 16777216 * g)) ∧
    (∀ (sv under : Bool) (k : Nat), k < 65536 → ∃ t, exec (.setTemperatureThreshold h sv under k) s = .next t ∧
      StoresFeature a t h sv (if under then 0x401 else 0x04) k) ∧
    (∀ x, (∃ t, exec (.setErrorRecovery h false x false) s = .next t ∧ StoresFeature a t h false 0x05 (x % 65536)) ∧
      exec (.setErrorRecovery h false x true) s = .next (a.finish h ⟨⟨0, 0x02⟩, 0, 0⟩)) ∧
    (∀ w : Bool, (∃ t, exec (.setVolatileWriteCache h false w) s = .next t ∧ StoresFeature a t h false 0x06 w.toNat) ∧
      ∃ t, exec (.setWriteAtomicityNormal h false w) s = .next t ∧ StoresFeature a t h false 0x0A w.toNat) ∧
    (∀ x, ∃ t, exec (.setInterruptCoalescing h false x) s = .next t ∧ StoresFeature a t h false 0x08 (x % 65536)) ∧
    (∀ (v : Nat) (cd : Bool), (v ≠ 0 → exec (.setInterruptVectorConfiguration h false v cd) s = .next (a.finish h ⟨⟨0, 0x02⟩, 0, 0⟩)) ∧
      ∃ t, exec (.setInterruptVectorConfiguration h false 0 cd) s = .next t ∧
        StoresFeature a t h false 0x09 (65536 * cd.toNat)) ∧
    (∀ (sv : Bool) (w : Nat), (w.testBit 10 = true →
        exec (.setAsyncEventConfiguration h sv w) s = .next (a.finish h ⟨⟨0, 0x02⟩, 0, 0⟩)) ∧
      (w.testBit 10 = false → ∃ t v, exec (.setAsyncEventConfiguration h sv w) s = .next t ∧ StoresFeature a t h sv 0x0B v ∧
        ∀ i, v.testBit i = true → w.testBit i = true)) ∧
    (∀ n m : Nat, ((a.fn h.fn).ioMade = true → exec (.setNumberOfQueues h false n m) s = .next (a.finish h ⟨⟨0, 0x0C⟩, 0, 0⟩)) ∧
      ((a.fn h.fn).ioMade = false → n < 65535 → m < 65535 →
        exec (.setNumberOfQueues h false n m) s
          = .next (a.finish h ⟨⟨0, 0⟩, (a.qidLimit h.fn - 1) * 65537, 0⟩))) ∧
    (∀ (sv : Bool) (ps wh : Nat),
      (h.fn.isManager = false → exec (.setPowerManagement h sv ps wh) s = .next (a.finish h ⟨⟨1, 0x0E⟩, 0, 0⟩)) ∧
      (h.fn.isManager = true → 4 < ps ∨ wh ≠ 0 → exec (.setPowerManagement h sv ps wh) s = .next (a.finish h ⟨⟨0, 0x02⟩, 0, 0⟩)) ∧
      (h.fn = .pf0 → ps ≤ 4 → ∃ t, exec (.setPowerManagement h sv ps 0) s = .next t ∧ Tbl.get 0 t.power.requests 0 = ps ∧
        t.power.target = (if a.dual then min ps (Tbl.get 0 a.power.requests 1) else ps) ∧ Ended t h ⟨0, 0⟩ 0)) ∧
    (∀ (sv en : Bool) (l : List (Nat × Nat)),
      (h.fn.isManager = false → exec (.setAutonomousPowerStateTransition h sv en l) s = .next (a.finish h ⟨⟨0, 0x02⟩, 0, 0⟩)) ∧
      (h.fn.isManager = true → (∃ e ∈ l.take 32, e.1 ≠ 3 ∧ e.1 ≠ 4 ∧ e ≠ (0, 0)) →
        exec (.setAutonomousPowerStateTransition h sv en l) s = .next (a.finish h ⟨⟨0, 0x02⟩, 0, 0⟩)) ∧
      (h.fn.isManager = true → (∀ e ∈ l, e = (0, 0) ∨ ((e.1 = 3 ∨ e.1 = 4) ∧ 100 ≤ e.2)) →
        ∃ t, exec (.setAutonomousPowerStateTransition h sv en l) s = .next t ∧ Tbl.find (t.fn h.fn).feats 0x0C = some en.toNat ∧
          Ended t h ⟨0, 0⟩ 0 ∧ ∀ g, g ≠ h.fn → t.fn g = a.fn g)) ∧
    (∀ ms, ms < 2 ^ 48 → ∃ t, exec (.setTimestamp h false ms) s = .next t ∧ Ended t h ⟨0, 0⟩ 0 ∧ t.timestampOf h.fn = (if
        h.fn.isManager = true ∧ Tbl.find (a.fn h.fn).feats 0x0E ≠ none then a.timestampOf h.fn else ms) ∧
      (h.fn.isManager = true → t.hostMs = ms ∧ t.sampler.tsOrigin = 1) ∧
      (h.fn.isManager = false → t.hostMs = a.hostMs)) ∧
    (∀ (en : Bool) (c : Nat), (a.store.ns ≠ [] → exec (.setFdp h false en c) s = .next (a.finish h ⟨⟨0, 0x0C⟩, 0, 0⟩)) ∧
      (a.store.ns = [] → c ≤ 1 → ∃ t, exec (.setFdp h false en c) s = .next t ∧
        t.store.fdp = (if en then some c else none) ∧ Ended t h ⟨0, 0⟩ 0)) ∧
    (∀ (en : Bool) (l : List Nat), a.store.fdp ≠ none → ∃ t, exec (.setFdpEvents h false en l) s = .next t ∧
      (∀ k, k ∈ t.store.fdpTypes ↔ if k ∈ l then en = true else k ∈ a.store.fdpTypes) ∧ Ended t h ⟨0, 0⟩ 0) ∧
    (∀ (sv en : Bool) (nsid : Nat), (a.ns? nsid = none ∨ h.fn.isManager = false ∨ (∃ n, a.ns? nsid = some n ∧
          (n.owner ≠ a.portOfFn h.fn ∨ n.kind = .zoned)) →
        exec (.setSecureDiscard h sv nsid en) s = .next (a.finish h ⟨⟨0, 0x02⟩, 0, 0⟩)) ∧
      (∀ n, a.ns? nsid = some n → n.owner = a.portOfFn h.fn → n.kind ≠ .zoned → h.fn.isManager = true →
        ∃ t, exec (.setSecureDiscard h sv nsid en) s = .next t ∧ t.ns? nsid = some { n with secureDiscard := en } ∧
          (∀ j, j ≠ nsid → t.ns? j = a.ns? j) ∧ Ended t h ⟨0, 0⟩ 0))

/-- R358, R360, R362, R363: a download that is not whole granules within 64 MiB ends with Invalid Field, one that touches a
written granule with Overlapping Range, and another marks its granules. A commit empties the staging area; one that fails a
check ends with that check's status, counted, and changes no slot; one that passes fills its slot, and is set to activate where
it asks. Slot 1 is not replaced. Activation at once needs the same MAJOR and FLAGS bit 0, and pauses fetch under ACTIVATION.
R360, R361: an image with a wrong MAGIC, FORMAT or PART or over 32 MiB fails check 1; one that passes every check has exactly
its granules written, both digests and both signatures right, and an SVN not below the counter unless presence permits it.
R121, R364: the switch runs the image and writes its marker, fetch resumes and ACTIVATION ends; without a pause nothing
switches.
Choices of the model it rests on: log entries 6 and 76. -/
def Obligations.FirmwareIsCheckedStoredAndSwitched : Prop :=
  (∀ (h : Hdr) (s a : State), AdminStarts s h a →
    (∀ (o n : Nat) (i : Option ImageHeader), a.adminBuffer h n = none →
      (o % 4096 ≠ 0 ∨ n % 4096 ≠ 0 ∨ 67108864 < o + n →
        exec (.firmwareImageDownload h o n i) s = .next (a.finish h ⟨⟨0, 0x02⟩, 0, 0⟩)) ∧
      (o % 4096 = 0 → n % 4096 = 0 → o + n ≤ 67108864 →
        ((∃ g ∈ (a.stage (a.portOfFn h.fn)).granules, o ≤ 4096 * g ∧ 4096 * g < o + n) →
          exec (.firmwareImageDownload h o n i) s = .next (a.finish h ⟨⟨1, 0x14⟩, 0, 0⟩)) ∧
        ((∀ g ∈ (a.stage (a.portOfFn h.fn)).granules, 4096 * g < o ∨ o + n ≤ 4096 * g) →
          ∃ t, exec (.firmwareImageDownload h o n i) s = .next t ∧ Ended t h ⟨0, 0⟩ 0 ∧
            ∀ g, g ∈ (t.stage (a.portOfFn h.fn)).granules ↔
              g ∈ (a.stage (a.portOfFn h.fn)).granules ∨ (o ≤ 4096 * g ∧ 4096 * g < o + n)))) ∧
    (∀ (slot : Nat) (c : ImageChecks), slot = 1 ∨ 4 < slot →
      exec (.firmwareCommitReplace h slot c) s = .next (a.finish h ⟨⟨1, 0x06⟩, 0, 0⟩) ∧
      exec (.firmwareCommitReplaceActivateReset h slot c) s = .next (a.finish h ⟨⟨1, 0x06⟩, 0, 0⟩) ∧
      exec (.firmwareCommitActivateNow h slot c) s = .next (a.finish h ⟨⟨1, 0x06⟩, 0, 0⟩)) ∧
    (∀ (slot : Nat) (c : ImageChecks) (p : Port) (i : ImageHeader), 2 ≤ slot → slot ≤ 4 → p = a.portOfFn h.fn →
      i = headerOf (a.stageWindow p) →
      (∀ k, a.imageFails i (some (a.stage p).granules) c = some k → a.cfg Obj.fwRefused < 2 ^ 32 - 1 →
        ∃ t, exec (.firmwareCommitReplace h slot c) s = .next t ∧
          Ended t h (if k = 6 then ⟨1, 0x13⟩ else ⟨1, 0x07⟩) 0 ∧ t.admin.slots = a.admin.slots ∧ (t.stage p).granules = [] ∧
          t.cfg Obj.fwRefused = a.cfg Obj.fwRefused + 1) ∧
      (a.imageFails i (some (a.stage p).granules) c = none →
        (∃ t, exec (.firmwareCommitReplace h slot c) s = .next t ∧ Ended t h ⟨0, 0⟩ 0 ∧ (t.stage p).granules = [] ∧
          Tbl.find t.admin.slots slot = some i ∧ (∀ j, j ≠ slot → Tbl.find t.admin.slots j = Tbl.find a.admin.slots j) ∧
          t.admin.onReset = a.admin.onReset) ∧
        (∃ t, exec (.firmwareCommitReplaceActivateReset h slot c) s = .next t ∧ Ended t h ⟨0, 0⟩ 0 ∧
          Tbl.find t.admin.slots slot = some i ∧ t.admin.onReset = some slot) ∧
        (i.major ≠ a.runningImage.major → ∃ t, exec (.firmwareCommitActivateNow h slot c) s = .next t ∧
          Ended t h ⟨1, 0x10⟩ 0 ∧ t.admin.onReset = some slot) ∧
        (i.major = a.runningImage.major → i.flags.testBit 0 = false →
          ∃ t, exec (.firmwareCommitActivateNow h slot c) s = .next t ∧ Ended t h ⟨1, 0x0B⟩ 0 ∧ t.admin.onReset = some slot) ∧
        (i.major = a.runningImage.major → i.flags.testBit 0 = true → a.has Mode.sanitize = false →
          a.has Mode.recovery = false → a.host.paused = false → a.pendingRecs < 1024 → a.sampler.waiting = [] →
          ∃ t, exec (.firmwareCommitActivateNow h slot c) s = .next t ∧ t.has Mode.activation = true ∧ t.host.paused = true ∧
            t.admin.switchTo = some slot))) ∧
    (∀ (slot : Nat) (c : ImageChecks), 1 ≤ slot → slot ≤ 4 →
      (a.image slot = none → exec (.firmwareCommitActivateReset h slot c) s = .next (a.finish h ⟨⟨1, 0x06⟩, 0, 0⟩)) ∧
      (∀ i, a.image slot = some i → a.imageFails i none c = none → ∃ t, exec (.firmwareCommitActivateReset h slot c) s = .next t ∧
        Ended t h ⟨0, 0⟩ 0 ∧ t.admin.onReset = some slot ∧ t.admin.slots = a.admin.slots))) ∧
  ((∀ (i : ImageHeader) (g : List Nat) (c : ImageChecks) (s : State),
    (i.magic ≠ 0x36394C50 ∨ i.format ≠ 1 ∨ i.part ≠ 0x9664 ∨ 33554432 < i.imageLen → s.imageFails i (some g) c = some 1) ∧
    (s.imageFails i (some g) c = none ↔ i.magic = 0x36394C50 ∧ i.format = 1 ∧ i.part = 0x9664 ∧ i.imageLen ≤ 33554432 ∧
      g = List.range (ceilDiv i.imageLen 4096) ∧ c.digests = true ∧ c.ecdsa = true ∧ c.mlDsa = true ∧
      (s.cfg Obj.arbCounter ≤ i.svn ∨ s.presenceUsable = true))) ∧
  (∀ s : State, (s.admin.switchTo = none ∨ s.host.paused = false ∨ s.has Mode.holdUp = true →
      exec .imageSwitch s = .next s) ∧
    (∀ k i, s.admin.switchTo = some k → s.host.paused = true → s.has Mode.holdUp = false → s.image k = some i →
      s.pendingRecs < 1024 → s.sampler.waiting = [] → ∃ t, exec .imageSwitch s = .next t ∧ t.security.marker = k ∧
        t.cfg Obj.fwActiveSlot = k ∧ t.admin.running = (if k = 1 then none else some i) ∧ t.host.paused = false ∧
        t.admin.switchTo = none ∧ t.has Mode.activation = false)))

/-- R352, R355: a self-test starts at segment 1, ends a second one with Device Self-test In Progress, and goes on segment by
segment to the last of its kind, where the log takes its result, 0h, or 7h with the first segment that failed; an abort ends it
at its next step with 1h. R365, R366: Sanitize with NDAS or EMVS ends with Invalid Field, a second one with Sanitize In
Progress; every I/O command that is not admitted ends with it; a failed step leaves the failed state, which Exit Failure Mode
clears.
Choices of the model it rests on: log entries 6, 77, 78 and 79. -/
def Obligations.SelfTestsAndSanitizesRun : Prop :=
  (∀ (h : Hdr) (n : Nat) (s a : State), AdminStarts s h a →
    (a.has Mode.sanitize = true → exec (.deviceSelfTestShort h n) s = .next (a.finish h ⟨⟨0, 0x1D⟩, 0, 0⟩) ∧
      exec (.deviceSelfTestExtended h n) s = .next (a.finish h ⟨⟨0, 0x1D⟩, 0, 0⟩)) ∧
    (a.has Mode.sanitize = false →
      (a.admin.selftest ≠ none → exec (.deviceSelfTestShort h n) s = .next (a.finish h ⟨⟨1, 0x1D⟩, 0, 0⟩) ∧
        exec (.deviceSelfTestExtended h n) s = .next (a.finish h ⟨⟨1, 0x1D⟩, 0, 0⟩)) ∧
      (a.admin.selftest = none → n ≠ 0 → n ≠ 0xFFFFFFFF → a.ns? n = none →
        exec (.deviceSelfTestShort h n) s = .next (a.finish h ⟨⟨0, 0x0B⟩, 0, 0⟩) ∧
        exec (.deviceSelfTestExtended h n) s = .next (a.finish h ⟨⟨0, 0x0B⟩, 0, 0⟩)) ∧
      (a.admin.selftest = none → n = 0 ∨ n = 0xFFFFFFFF ∨ a.ns? n ≠ none →
        (∃ t, exec (.deviceSelfTestShort h n) s = .next t ∧ Ended t h ⟨0, 0⟩ 0 ∧ t.modes = a.modes ∧
          t.admin.selftest = some ⟨false, if n = 0xFFFFFFFF then 0 else n, 1, h.fn.code, 0, false⟩) ∧
        ∃ t, exec (.deviceSelfTestExtended h n) s = .next t ∧ Ended t h ⟨0, 0⟩ 0 ∧
          t.admin.selftest = some ⟨true, if n = 0xFFFFFFFF then 0 else n, 1, h.fn.code, 0, false⟩ ∧
          (a.has Mode.recovery = false → a.pendingRecs < 1024 → a.sampler.waiting = [] → t.has Mode.maintenance = true)) ∧
      (∀ x, a.admin.selftest = some x → ∃ t, exec (.deviceSelfTestAbort h) s = .next t ∧ Ended t h ⟨0, 0⟩ 0 ∧
        t.admin.selftest = some { x with stopping := true }))) ∧
  (∀ (x : SelfTest) (done failed : Bool) (s : State), s.admin.selftest = some x →
    (s.testOpen = false → exec (.selfTestStep done failed [] none none) s = .next s) ∧
    (s.testOpen = true →
      (x.stopping = true → ∃ t, exec (.selfTestStep done failed [] none none) s = .next t ∧ t.admin.selftest = none ∧
        t.admin.testLog.head? = some (if x.extended then 33 else 17, x.segment)) ∧
      (x.stopping = false →
        (x.segment < x.last → ∃ t, exec (.selfTestStep true failed [] none none) s = .next t ∧
          t.admin.selftest = some { x with
            segment := x.segment + 1
            failed := if failed = true ∧ x.failed = 0 then x.segment else x.failed }) ∧
        (x.last ≤ x.segment → x.failed = 0 → ∃ t, exec (.selfTestStep true failed [] none none) s = .next t ∧
          t.admin.selftest = none ∧ (x.segment ≠ 0 → t.admin.testLog.head?
            = some ((if failed then 7 else 0) + 16 * (if x.extended then 2 else 1), x.segment)))))) ∧
  (∀ (h : Hdr) (ab nd em au : Bool) (s a : State), AdminStarts s h a →
    (nd = true ∨ em = true ∨ a.foreignNs (a.portOfFn h.fn) = true →
      exec (.sanitizeBlockErase h ab nd em au) s = .next (a.finish h ⟨⟨0, 0x02⟩, 0, 0⟩) ∧
      exec (.sanitizeCryptoErase h ab nd em au) s = .next (a.finish h ⟨⟨0, 0x02⟩, 0, 0⟩)) ∧
    (a.foreignNs (a.portOfFn h.fn) = false →
      (a.admin.sanitize ≠ none → exec (.sanitizeBlockErase h ab false false au) s = .next (a.finish h ⟨⟨0, 0x1D⟩, 0, 0⟩) ∧
        exec (.sanitizeCryptoErase h ab false false au) s = .next (a.finish h ⟨⟨0, 0x1D⟩, 0, 0⟩) ∧
        exec (.sanitizeExitFailureMode h) s = .next (a.finish h ⟨⟨0, 0x1D⟩, 0, 0⟩)) ∧
      (a.admin.sanitize = none → a.has Mode.sanitize = false ∨ au = false ∨ a.admin.sanAuse = true →
        exec (.sanitizeBlockErase h ab false false au) s
          = .next (State.finish (a.startSanitize 2 ab false au) h ⟨⟨0, 0⟩, 0, 0⟩) ∧
        exec (.sanitizeCryptoErase h ab false false au) s
          = .next (State.finish (a.startSanitize 4 ab false au) h ⟨⟨0, 0⟩, 0, 0⟩)) ∧
      (a.admin.sanitize = none → a.has Mode.sanitize = false →
        exec (.sanitizeExitFailureMode h) s = .next (a.finish h ⟨⟨0, 0⟩, 0, 0⟩)) ∧
      (a.admin.sanitize = none → a.has Mode.sanitize = true → a.pendingRecs < 1024 → a.sampler.waiting = [] →
        ∃ t, exec (.sanitizeExitFailureMode h) s = .next t ∧ Ended t h ⟨0, 0⟩ 0 ∧ t.has Mode.sanitize = false))) ∧
  (∀ (st : Status) (s : State) (c : Ctx), s.ctx? c.hdr = some c → c.hdr.sqid ≠ 0 → c.done = none → c.admitted = false →
    Ended (s.sweepIo st) c.hdr st 0) ∧
  (∀ s : State, (s.admin.sanitize = none → ∀ f, exec (.sanitizeEnd f) s = .next s) ∧
    (∀ z, s.admin.sanitize = some z → (∃ t, exec (.sanitizeEnd true) s = .next t ∧ t.admin.sanitize = none ∧
        t.admin.sanStatus = 3 ∧ t.modes = s.modes) ∧
      (z.swept = true → z.keysGone = true → s.cipher.works = [] →
        (z.action = 2 → s.store.erases ≠ [] → exec (.sanitizeEnd false) s = .next s) ∧
        (z.action ≠ 2 ∨ s.store.erases = [] → s.pendingRecs < 1024 → s.sampler.waiting = [] →
          ∃ t, exec (.sanitizeEnd false) s = .next t ∧ t.admin.sanitize = none ∧ t.admin.sanStatus = 1 ∧
            t.has Mode.sanitize = false))))

/-- R368, R369, R379: a mode change gives exactly the modes it sets and those of before that it does not clear, MODE_SEQ the
number of its record, and one more change; one whose record finds no room waits; PWRFAIL_N held low for 0x2600.40 µs leaves
HOLD-UP as the only mode, and a shorter pulse changes nothing. R373: an enabled function's shutdown notification sets what is
dirty on its way to flash; one of a function that is not enabled, that has shut down or is in FENCING (R79), does nothing.
Choices of the model it rests on: log entry 90. -/
def Obligations.ModeChangesAreExact : Prop :=
  (∀ (set clear : BitVec 12) (cause : Nat) (s : State), (s.modes &&& ~~~clear) ||| set ≠ s.modes →
    (cause = 13 ∨ (s.pendingRecs < 1024 ∧ s.sampler.waiting = []) →
      (s.changeModes set clear cause).modes = (s.modes &&& ~~~clear) ||| set ∧
      (s.changeModes set clear cause).cfg Obj.modeSeq = s.sampler.next ∧
      (s.cfg Obj.modeChanges < 2 ^ 32 - 1 → (s.changeModes set clear cause).cfg Obj.modeChanges = s.cfg Obj.modeChanges + 1) ∧
      (s.changeModes set clear cause).host = s.host ∧ (s.changeModes set clear cause).store = s.store) ∧
    (cause ≠ 13 → 1024 ≤ s.pendingRecs ∨ s.sampler.waiting ≠ [] → (s.changeModes set clear cause).modes = s.modes ∧
      (s.changeModes set clear cause).sampler.waiting = s.sampler.waiting ++ [⟨set, clear, cause⟩])) ∧
  (∀ (us t : Nat) (s : State),
    (us < s.cfg Obj.pwrfailFilterUs ∨ s.has Mode.holdUp = true ∨ s.power.held = true → exec (.pwrfailAssert us t) s = .next
      (s.tick t)) ∧
    (s.cfg Obj.pwrfailFilterUs ≤ us → s.has Mode.holdUp = false → s.power.held = false →
      ∃ u, exec (.pwrfailAssert us t) s = .next u ∧ u.modes = modeBit Mode.holdUp ∧ u.power.dumping = true)) ∧
  (∀ (f : Func) (s : State),
    ((s.fn f).en = false ∨ (s.fn f).shst ≠ 0 ∨ (s.fn f).state = .fencing → exec (.shutdownNotification f) s = .next s) ∧
    ((s.fn f).en = true → (s.fn f).shst = 0 → (s.fn f).state ≠ .fencing → exec (.shutdownNotification f) s
      = .next (State.settleAll (State.drain (s.setFn f { s.fn f with shst := 1 })))))

/-- R390: of the domains of the step that an entry stands at, one that is ON enters STOPPING, and every Shuttle channel whose
current descriptor touches it is paused; another request does nothing. Without an entry, a cell group that holds no active
cell stops, and its links park (R19, R20, R390). R398: once its transfers are zero it stops, and the step after starts with
the last; D02's stop puts the sleep state in force. R391, R399: a refusal ends the entry with every domain ON, records the
domain and the hold time, and the eighth lets the request lapse. R397: an entry starts with no further frame. R396: an
autonomous transition is a request. Choices of the model it rests on: log entries 82, 84 and 85. -/
def Obligations.DomainsStopInTheirOrder : Prop :=
  (∀ (d : Fin 56) (k : Nat) (s : State), EntryAt s k →
    ((s.domain d).state ≠ .on ∨ ¬ d.val ∈ sleepStep k ∨ (k = 0 ∧ s.entryReady = false) → exec (.domainStopRequest d) s = .next s) ∧
    ((s.domain d).state = .on → d.val ∈ sleepStep k → s.domainOn d = true → k ≠ 0 ∨ s.entryReady = true →
      ∃ t : State, exec (.domainStopRequest d) s = .next t ∧ (t.domain d).state = .stopping ∧ t.power.entry = some k ∧
        (∀ j, j ≠ d.val → t.domain j = s.domain j) ∧
        ∀ n x e, Tbl.find t.engines.shuttles n = some x → x.desc = some e →
          touches s.dual (if n < 16 then .a else .b) e d = true → x.pauseDom = true) ∧
    ((s.domain d).state ≠ .stopping ∨ 0 < s.otc d → exec (.domainStopped d) s = .next s) ∧
    ((s.domain d).state = .stopping → s.otc d = 0 → (s.domain d).goal = sleepGoal s.power.target d →
      ((∃ j ∈ sleepStep k, j ≠ d.val ∧ s.domainDown j = false) → ∃ t : State, exec (.domainStopped d) s = .next t ∧
        (t.domain d).state = sleepGoal s.power.target d ∧ t.power.entry = some k) ∧
      (k < 6 → d.val ∈ sleepStep k → (∀ j ∈ sleepStep k, j ≠ d.val → s.domainDown j = true) →
        (∃ j ∈ sleepStep (k + 1), s.domainDown j = false) → ∃ t : State, exec (.domainStopped d) s = .next t ∧
          (t.domain d).state = sleepGoal s.power.target d ∧ t.power.entry = some (k + 1)) ∧
      (k = 6 → d = 2 → HasRoom s → ∃ t : State, exec (.domainStopped d) s = .next t ∧ t.power.entry = none ∧
        t.power.current = s.power.target ∧ t.has Mode.service = false ∧ t.has Mode.idle = decide (s.power.target = 3) ∧
        t.has Mode.airing = decide (s.power.target ≠ 3))) ∧
    ((s.domain d).state ≠ .stopping → exec (.domainRefusal d) s = .next s) ∧
    ((s.domain d).state = .stopping → s.has Mode.idle = false → ∃ t : State, exec (.domainRefusal d) s = .next t ∧
      t.power.entry = none ∧ (∀ j, (t.domain j).state = .on) ∧ (t.domain d).refusals = (s.domain d).refusals + 1 ∧
      t.power.refuseDomain = d.val ∧ t.power.refuseHold = s.cfg Obj.refuseHoldMs * (s.power.refusals + 1) ∧
      (s.power.refusals < 7 → t.power.target = s.power.target ∧
        t.power.retryAt = some (s.now + 1000000 * (s.cfg Obj.refuseHoldMs * (s.power.refusals + 1)))) ∧
      (7 ≤ s.power.refusals → t.power.target = s.power.operational ∧ t.power.retryAt = none))) ∧
  (∀ (d : Fin 56) (s : State), s.power.entry = none →
    (s.stopDue d = false → exec (.domainStopRequest d) s = .next s) ∧
    (s.stopDue d = true → ∃ t : State, exec (.domainStopRequest d) s = .next t ∧ (t.domain d).state = .stopping ∧
      d.val ∈ t.cells.parked ∧ ∀ j, j ≠ d.val → t.domain j = s.domain j)) ∧
  (∀ (t : Nat) (s : State),
    (s.power.retryAt = none → exec (.refusalHoldExpiry t) s = .next (s.tick t)) ∧
    (∀ r, s.power.retryAt = some r → (max s.now t < r → exec (.refusalHoldExpiry t) s = .next (s.tick t)) ∧
      (r ≤ max s.now t → ∃ u : State, exec (.refusalHoldExpiry t) s = .next u ∧ u.power.retryAt = none ∧
        u.power.target = s.power.target ∧ u.host = s.host ∧ u.modes = s.modes)) ∧
    ((s.tick t).mayEnter = false → exec (.sleepEntryStart t) s = .next (s.tick t)) ∧
    ((s.tick t).mayEnter = true → s.has Mode.idle = false → ∃ u : State, exec (.sleepEntryStart t) s = .next u ∧
      u.power.entry = some 0 ∧ u.sched.running = false ∧ u.sched.isOpen = false ∧
      (s.power.target = 3 → u.modes = s.modes ∧ (s.sampler.flushing = none → u.sampler.buf = [])))) ∧
  (∀ (p : Port) (t : Nat) (s : State),
    (s.portExists p = true → 3 ≤ s.idleState p → s.power.current < s.idleState p → s.quiet = true →
      (∀ e ∈ s.host.fns, ∀ q ∈ e.2.sqs, q.2.unfetched = 0) → s.power.entry = none → s.has Mode.holdUp = false →
      exec (.apstIdleExpiry p t) s = .next (State.requestPower (s.tick t) p (s.idleState p))) ∧
    (s.portExists p = false ∨ s.idleState p < 3 ∨ s.idleState p ≤ s.power.current ∨ s.quiet = false →
      exec (.apstIdleExpiry p t) s = .next (s.tick t)))

/-- R400 to R403, R406 to R409: activity on an existing port, a frame with the device's SERIAL or all ones, an accepted
management frame in IDLE, a canary above its limit, a second unreadable visit and 768 records in AIRING each wake a sleeping
device with their code, and frame 0 opens; what is no wake source does nothing. A step of Airing with readable canaries within
their limits, and a first unreadable one, leave the device asleep at the next group; a threshold starts a forced pass; the
buffer wake asks for PS4 again.
Choices of the model it rests on: log entries 86, 87 and 134. -/
def Obligations.WakesAndAiringStepsAct : Prop :=
  (∀ (p : Port) (ranks : List (Fin 4 × DramTraining)) (s : State),
    (s.asleep = true → s.portExists p = true → s.blockLost (3 + portNum p) = false → ∃ u, WokenBy s u (1 + portNum p) ∧
      exec (.pcieActivityWake p ranks) s = .next (State.openGrid u)) ∧
    (s.asleep = false ∨ s.portExists p = false ∨ s.blockLost (3 + portNum p) = true → exec (.pcieActivityWake p ranks) s = .next s)) ∧
  (∀ (ok : Bool) (serial : Nat) (ranks : List (Fin 4 × DramTraining)) (s : State),
    (s.asleep = true → s.blockLost 54 = false → ok = true → serial = Config.serial ∨ serial = 2 ^ 160 - 1 → ∃ u, WokenBy s u 4 ∧
      exec (.wakeFrame ok serial ranks) s = .next (State.openGrid u)) ∧
    (s.asleep = false ∨ s.blockLost 54 = true ∨ ok = false ∨ (serial ≠ Config.serial ∧ serial ≠ 2 ^ 160 - 1) →
      exec (.wakeFrame ok serial ranks) s = .next s)) ∧
  (∀ s : State,
    (s.has Mode.idle = true → s.blockLost 54 = false → ∃ u, WokenBy s u 3 ∧
      exec (.managementFrameWake none) s = .next (State.openGrid u) ∧
      ∀ x, exec (.managementFrameWake (some x)) s = .next (State.receive (State.openGrid u) x)) ∧
    (s.has Mode.idle = false ∨ s.blockLost 54 = true → ∀ d, exec (.managementFrameWake d) s = .next s)) ∧
  (∀ (t : Nat) (skip : List (Fin 4)) (rd : Bool) (l : List (Nat × Nat × Bool)) (s : State) (g : Nat), g = s.cfg Obj.airingNext →
    (s.has Mode.airing = false ∨ (s.tick t).isDue Periodic.airing = false → exec (.airingStep t skip l rd) s = .next (s.tick t)) ∧
    (s.has Mode.airing = true → (s.tick t).isDue Periodic.airing = true →
      (rd = true → (∃ c, ¬ c ∈ skip) → (∀ c ∈ l, s.canaryRead g skip c = true → (s.tick t).canaryBad c = false) →
        ∃ u : State, exec (.airingStep t skip l rd) s = .next u ∧ u.modes = s.modes ∧
          u.cfg Obj.airingNext = (g + 1) % 16 ∧ ¬ g ∈ u.power.unreadable) ∧
      (rd = true → (∃ c, ¬ c ∈ skip) → (∃ c ∈ l, s.canaryRead g skip c = true ∧ (s.tick t).canaryBad c = true) →
        ∃ u, WokenBy s u 5 ∧ exec (.airingStep t skip l rd) s = .next (State.startForced (State.openGrid u))) ∧
      (rd = false ∨ (∀ c, c ∈ skip) → ¬ g ∈ s.power.unreadable → ∃ u : State,
        exec (.airingStep t skip l rd) s = .next u ∧ u.modes = s.modes ∧ g ∈ u.power.unreadable ∧
        u.cfg Obj.airingNext = (g + 1) % 16) ∧
      (rd = false ∨ (∀ c, c ∈ skip) → g ∈ s.power.unreadable → ∃ u, WokenBy s u 8 ∧
        exec (.airingStep t skip l rd) s = .next (State.openGrid u)))) ∧
  (∀ (ranks : List (Fin 4 × DramTraining)) (s : State),
    (s.has Mode.airing = true → 768 ≤ s.pendingRecs → ∃ u v : State, WokenBy s u 6 ∧ v = State.beginFlush (State.openGrid u) ∧
      exec (.samplerBufferWake ranks) s = .next (State.noteDefer { v with power := { v.power with target := 4 } })) ∧
    (s.has Mode.airing = false ∨ s.pendingRecs < 768 → exec (.samplerBufferWake ranks) s = .next s))

/-- R498 to R500: a reset by PORST_N of at least 10 µs, and a brown-out, leave what is on flash and in OTP and nothing else;
PORST_N during a dump is latched, and takes effect when the dump ends. R411: the end of a dump records its completion and
duration. R374: PWRFAIL_N high asks for a restart. R457 to R459: a release boots the device; without an image that passes it
stays in ROM recovery. R505 to R508: readings of the sensors, of HOLDUP_SENSE and of PWRFAIL_N are kept, and one out of range
makes the next dirty limit 0.
Choices of the model it rests on: log entries 2, 89, 91 and 92. -/
def Obligations.ResetPinsAndSensorsAct : Prop :=
  (∀ (ns : Nat) (s : State),
    (ns < 10000 ∨ s.power.held = true → exec (.porstAssert ns) s = .next s) ∧
    (10000 ≤ ns → s.power.held = false →
      (s.has Mode.holdUp = true → s.power.dumping = true → exec (.porstAssert ns) s
        = .next { s with power := { s.power with latched := true } }) ∧
      (s.has Mode.holdUp = false → ∃ t : State, exec (.porstAssert ns) s = .next t ∧ t.power.held = true ∧ t.modes = 1 ∧
        t.dict.durable = s.dict.durable ∧ t.dict.force = [] ∧ t.sampler.buf = [] ∧ t.sampler.circ = s.sampler.circ ∧
        t.host.ctxs = [] ∧ t.store.ns = s.store.ns ∧ t.store.stripes = s.store.stripes ∧ t.store.slots = [] ∧
        t.store.journal.durable = s.store.journal.durable ∧ t.mem.dram = [] ∧ t.cipher.blobs = s.cipher.blobs ∧
        t.security.kek = false ∧ t.admin.slots = s.admin.slots ∧ t.security.marker = s.security.marker ∧
        t.pending = s.pending ∧ t.now = s.now))) ∧
  (∀ s : State, ∃ t : State, exec .brownOut s = .next t ∧ (s.power.held = false → t.power.held = true) ∧
    Tbl.find t.dict.durable (Obj.brownouts.key 0 0) = some ((Tbl.find s.dict.durable (Obj.brownouts.key 0 0)).getD 0 + 1)) ∧
  (∀ (us : Nat) (s : State),
    (s.has Mode.holdUp = false ∨ s.power.dumping = false → exec (.dumpComplete us) s = .next s ∧
      (s.has Mode.holdUp = false → exec .pwrfailReturn s = .next s)) ∧
    (s.has Mode.holdUp = true → exec .pwrfailReturn s = .next { s with power := { s.power with restart := true } } ∧
      (s.power.dumping = true →
        (s.power.latched = false → ∃ t : State, exec (.dumpComplete us) s = .next t ∧ t.power.dumping = false ∧
          t.store.dump ≠ none ∧ t.cfg Obj.dumpComplete = 1 ∧ t.cfg Obj.dumpLastUs = us) ∧
        (s.power.latched = true → ∃ t : State, exec (.dumpComplete us) s = .next t ∧ t.power.held = true ∧
          t.store.dump ≠ none)))) ∧
  (∀ (e : BootEnv) (s : State),
    ((s.power.held = false ∧ s.power.restart = false ∧ s.power.latched = false) ∨ s.power.dumping = true →
      exec (.porstRelease e) s = .next s) ∧
    (s.power.held = true → s.power.dumping = false →
      (∃ t : State, exec (.porstRelease e) s = .next t ∧ t.bootAt = s.now ∧ t.power.held = false) ∧
      ((∀ c ∈ e.candidates, c.pass = false) → ∃ t : State, exec (.porstRelease e) s = .next t ∧ t.security.rom = true ∧
        t.modes = 0 ∧ t.host = s.host ∧ t.power.held = false ∧ (∀ k, s.admin.onReset = some k → t.security.marker = k)))) ∧
  (∀ (t : Nat) (l : List Int) (d : DiodeState) (x : Int) (mv : Nat) (c : PwrfailClass) (s : State),
    (∃ u : State, exec (.sensorReading t l d x) s = .next u ∧ u.power.temps = l ∧ u.power.diode = d ∧ u.power.diodeTenths = x ∧
      u = { s.tick t with power := u.power } ∧ (u.power.senseMv, u.power.domains) = (s.power.senseMv, s.power.domains)) ∧
    (∃ u : State, exec (.holdupSenseSample mv) s = .next u ∧ u.power.senseMv = mv ∧
      (1200 < mv ∨ mv < s.cfg Obj.holdupSenseMv → u.newLimit = 0) ∧ u = { s with power := u.power }) ∧
    (∃ u : State, exec (.pwrfailClassify c t) s = .next u ∧ u.power.pinClass = c ∧
      (c = .openPin ∨ c = .shortHigh → u.newLimit = 0) ∧ u = { s.tick t with power := u.power }))

/-- R418, R420, R421: an event whose code is exempt, or whose bucket holds a token, enters the buffer with the next SEQ while
there is room for its code, and is lost and counted otherwise; one that finds no token is suppressed, takes no SEQ, and stays
its code's last suppressed event, which enters once the bucket reaches a token, with the number of events before it that were
not recorded.
Choices of the model it rests on: log entry 99. -/
def Obligations.RecordsTakeNumbersAsTheyEnter : Prop :=
  (∀ (code subject domain : Nat) (params : List Nat) (s : State),
    (¬ code ∈ eventCodes → exec (.recordEnter code subject domain params) s = .next s) ∧
    (code ∈ eventCodes → (recordClass code).2 = false ∨ oneToken ≤ (s.bucket code).level →
      (s.pendingRecs < bufferRoom code → ∃ (t : State) (r : Rec), exec (.recordEnter code subject domain params) s = .next t ∧
        t.sampler.buf = s.sampler.buf ++ [r] ∧ r.seq = s.sampler.next ∧ t.sampler.next = s.sampler.next + 1 ∧ r.code = code ∧
        r.subject = subject % 65536 ∧ r.domain = domain % 256 ∧ r.params = (params.take 6).map (· % 2 ^ 32) ∧
        r.hostMs = s.hostMs ∧ r.boot = s.cfg Obj.boots % 256 ∧ r.severity = (recordClass code).1 ∧
        t = { s with sampler := t.sampler }) ∧
      (bufferRoom code ≤ s.pendingRecs → s.cfg Obj.dropped < 2 ^ 32 - 1 → ∃ t : State,
        exec (.recordEnter code subject domain params) s = .next t ∧ t.sampler.buf = s.sampler.buf ∧
        t.sampler.next = s.sampler.next ∧ t.cfg Obj.dropped = s.cfg Obj.dropped + 1)) ∧
    (code ∈ eventCodes → (recordClass code).2 = true → (s.bucket code).level < oneToken → ∃ t : State,
      exec (.recordEnter code subject domain params) s = .next t ∧ t.sampler.buf = s.sampler.buf ∧
      t.sampler.next = s.sampler.next ∧ (t.bucket code).suppressed = (s.bucket code).suppressed + 1 ∧
      (t.bucket code).last.isSome = true)) ∧
  (∀ (code t : Nat) (s : State),
    (((s.tick t).bucket code).last = none ∨ ((s.tick t).bucket code).level < oneToken →
      exec (.rateBucketRefill code t) s = .next (s.tick t)) ∧
    (∀ r, ((s.tick t).bucket code).last = some r → oneToken ≤ ((s.tick t).bucket code).level →
      s.pendingRecs < bufferRoom r.code → ∃ u : State, exec (.rateBucketRefill code t) s = .next u ∧
        u.sampler.buf = s.sampler.buf ++
          [{ r with seq := s.sampler.next, suppressed := min 65535 (((s.tick t).bucket code).suppressed - 1) }] ∧
        u.sampler.next = s.sampler.next + 1 ∧ (u.bucket code).suppressed = 0 ∧ (u.bucket code).last = none))

/-- R422, R423, R303: a flush that is due takes every pending record with its chain link; the timer, a periodic task of
0x2060.01 s (R127), starts one; when its pages have programmed, its records are the newest of the circulating area, but for those
of a page both of whose copies have failed three times, and such copies are counted (R52). R425: a window slot answers the record
of its SEQ, after a flush where it names one above NEWEST; an advance moves the accessor's cursor by 16; R429: a clear is set
only under FACTORY.
Choices of the model it rests on: log entries 98 and 100. -/
def Obligations.FlushesStoreAndReadersFollow : Prop :=
  (∀ s : State,
    (s.sampler.due = false ∨ s.flushOpen = false → exec .samplerFlush s = .next s) ∧
    (s.sampler.due = true → s.flushOpen = true → s.sampler.flushing = none → s.sampler.holdSlot = none → s.sampler.buf ≠ [] →
      ∃ t : State, exec .samplerFlush s = .next t ∧ t.sampler.buf = [] ∧ t.sampler.due = false ∧ t.sampler.dropped = 0 ∧
        t.sampler.flushing = some (chain s.sampler.link (s.sampler.buf ++ s.closing.1)).1 ∧
        t.sampler.circ = s.sampler.circ ∧ t = { s with sampler := t.sampler, sched := t.sched })) ∧
  (∀ (t : Nat) (s : State),
    (s.flushOpen = false ∨ (s.tick t).isDue Periodic.flush = false → exec (.samplerFlushTimer t) s = .next (s.tick t)) ∧
    (s.flushOpen = true → (s.tick t).isDue Periodic.flush = true → ∃ u : State,
      exec (.samplerFlushTimer t) s = .next u ∧ u.sched = ((s.tick t).taskDone Periodic.flush s.flushNs).sched ∧
        (s.sampler.flushing = none → u.sampler.buf = []))) ∧
  (∀ (fails : List Nat) (s : State),
    (s.sampler.flushing = none → exec (.samplerFlushDone fails) s = .next s) ∧
    (∀ recs kept bad, s.sampler.flushing = some recs → s.sampler.due = false → s.sampler.waiting = [] →
      kept = programmedRecs recs fails → bad = (List.range (2 * (pagesOf recs).length)).countP (copyBad fails) → ∃ t : State,
      exec (.samplerFlushDone fails) s = .next t ∧ t.sampler.flushing = none ∧ t.sampler.buf = s.sampler.buf ∧
        (s.cfg Obj.copiesBad + bad < 2 ^ 32 → t.cfg Obj.copiesBad = s.cfg Obj.copiesBad + bad) ∧
        ((∀ i, fails.getD i 0 < 3) → kept = recs) ∧
        (kept.find? (·.code = 0x0005) = none →
          t.sampler.circ = (s.sampler.circ ++ kept).drop ((s.sampler.circ ++ kept).length - 262144)) ∧
        (∀ c, kept.find? (·.code = 0x0005) = some c → t.sampler.firstBase = c.seq ∧
          ∀ r ∈ t.sampler.circ, c.seq ≤ r.seq))) ∧
  (∀ (acc : Accessor) (k : Fin 16) (s : State),
    (Accessor_manages acc = false → exec (.windowSlotRead acc k) s = .next s ∧ exec (.cursorAdvance acc) s = .next s ∧
      exec (.samplerClear acc) s = .next s) ∧
    (Accessor_manages acc = true →
      ((s.sampler.circ ≠ [] ∧ (s.acc acc.code).cursor + k ≤ s.sampler.newest) ∨ s.pendingRecs = 0 ∨ s.flushOpen = false →
        exec (.windowSlotRead acc k) s = .next (State.emit s (.object acc.code (0x6110 * 256 + 1 + k)
          (slotWord (s.sampler.stored ((s.acc acc.code).cursor + k)))))) ∧
      (s.sampler.circ = [] ∨ s.sampler.newest < (s.acc acc.code).cursor + k → 0 < s.pendingRecs → s.flushOpen = true →
        s.sampler.waiting = [] → ∃ t : State, exec (.windowSlotRead acc k) s = .next t ∧ t.sampler.buf = [] ∧
          t.sampler.flushing = none ∧ t.out = s.out ++ [.object acc.code (0x6110 * 256 + 1 + k)
            (slotWord (t.sampler.stored ((s.acc acc.code).cursor + k)))]) ∧
      (∃ t : State, exec (.cursorAdvance acc) s = .next t ∧
        (t.acc acc.code).cursor = ((s.acc acc.code).cursor + 16) % 2 ^ 64 ∧
        (t.acc acc.code).staged = (s.acc acc.code).staged ∧ (∀ c, c ≠ acc.code → t.acc c = s.acc c) ∧
        t.sampler = s.sampler) ∧
      (s.has Mode.factory = false → exec (.samplerClear acc) s = .next s) ∧
      (s.has Mode.factory = true → exec (.samplerClear acc) s
        = .next { s with sampler := { s.sampler with clearDue := true } })))

/-- R430, R433, R434, R442, R443: a read of one object answers its type, length and value: its own staged value, that of a
commit or write that waits, or the one in force, which IN_FORCE asks for; an address without an object, or without the right,
its status. R444: records are written up to the first refusal. R433 to R436: a write of a COMMIT object is staged; one out of
range, to a busy block, of the wrong type or without the right changes nothing; an IMMEDIATE value is in force at once, a FRAME
or REBOOT value waits. R439: RESTORE_DEFAULTS waits for the boot.
Choices of the model it rests on: log entries 6, 101, 102 and 103. -/
def Obligations.ObjectsAreReadAndWritten : Prop :=
  (∀ (h : Hdr) (index sub : Nat) (inForce : Bool) (count buflen : Nat) (s a : State), s.begin h = some a →
    a.fusedGate h = none → a.adminEntry h = none → a.security.rom = false →
    (count = 0 ∨ 256 - sub < count ∨ 255 < sub ∨ buflen % 8 ≠ 0 ∨ buflen < 8 ∨ 4096 < buflen →
      exec (.dictionaryRead h index sub inForce count buflen) s = .next (State.finish a h ⟨⟨0, 0x02⟩, 0, 0⟩)) ∧
    (1 ≤ sub → sub ≤ 255 → buflen % 8 = 0 → 8 ≤ buflen → buflen ≤ 4096 → a.adminBuffer h buflen = none → diagnostic index = false →
      (Obj.rowOf (256 * index + sub) = none → exec (.dictionaryRead h index sub inForce 1 buflen) s
        = .next (State.finish (State.emit a (.reply h (.records [⟨index, sub, 0, 0, 1, false, 0⟩]))) h ⟨⟨0, 0⟩, 1, 0⟩)) ∧
      (∀ r, Obj.rowOf (256 * index + sub) = some r →
        (a.may h.fn.accessor r index Right.canRead = false → a.may h.fn.accessor r index Right.canWrite = false →
          exec (.dictionaryRead h index sub inForce 1 buflen) s = .next (State.finish (State.emit a (.reply h
            (.records [⟨index, sub, 0, 0, 2, false, 0⟩]))) h ⟨⟨0, 0⟩, 1, 0⟩)) ∧
        (a.may h.fn.accessor r index Right.canRead = true → r ≠ Obj.dirtyBits → r ≠ Obj.window → r ≠ Obj.settingsDigest →
          8 + padded r.len ≤ buflen →
          ((inForce = true ∨ a.waitingValue h.fn.accessor (256 * index + sub) = none) →
            exec (.dictionaryRead h index sub inForce 1 buflen) s = .next (State.finish (State.emit a (.reply h (.records
              [⟨index, sub, r.ty.code, r.len, 0, false,
                a.inForce h.fn.accessor r (index - r.base) (sub - r.sub) % 256 ^ r.len⟩]))) h ⟨⟨0, 0⟩, 1, 0⟩)) ∧
          (∀ v, inForce = false → a.waitingValue h.fn.accessor (256 * index + sub) = some v →
            exec (.dictionaryRead h index sub inForce 1 buflen) s = .next (State.finish (State.emit a (.reply h (.records
              [⟨index, sub, r.ty.code, r.len, 0, true, v % 256 ^ r.len⟩]))) h ⟨⟨0, 0⟩, 1, 0⟩)))))) ∧
  (∀ (h : Hdr) (len : Nat) (recs : List DictRec) (l : List (Fin 96)) (s a : State), Starts s h a →
    (len % 8 ≠ 0 ∨ len < 16 ∨ 4096 < len ∨ recBytes recs ≠ len →
      exec (.dictionaryWrite h len recs l) s = .next (State.finish a h ⟨⟨0, 0x02⟩, 0, 0⟩)) ∧
    (len % 8 = 0 → 16 ≤ len → len ≤ 4096 → recBytes recs = len → a.adminBuffer h len = none → ∃ n code : Nat,
      exec (.dictionaryWrite h len recs l) s = .next (State.finish
        ((recs.take (n + 1)).foldl (fun (b : State) d => (b.writeObject h.fn.accessor d l).2) a) h
        ⟨if code = 0 then ⟨0, 0⟩ else ⟨1, 0xC1⟩, n + 65536 * code, 0⟩) ∧
      n ≤ recs.length ∧ (code = 0 ↔ n = recs.length))) ∧
  (∀ (acc : Accessor) (d : DictRec) (l : List (Fin 96)) (s : State),
    (Obj.rowOf (256 * d.index + d.sub) = none → exec (.objectWrite acc d l) s = .next s) ∧
    (∀ r, Obj.rowOf (256 * d.index + d.sub) = some r →
      (r.app = .fixed ∨ s.may acc r d.index Right.canWrite = false ∨ typeOk r d = false → exec (.objectWrite acc d l) s = .next s) ∧
      (MayWrite s acc d r → ∀ i j, i = d.index - r.base → j = d.sub - r.sub →
        (r.app = .commit →
          ((s.acc acc.code).staged.length < 8192 ∨ (Tbl.find (s.acc acc.code).staged (r.key i j)).isSome = true →
            ∃ t : State, exec (.objectWrite acc d l) s = .next t ∧ Tbl.find (t.acc acc.code).staged (r.key i j) = some d.value ∧
              (∀ k, k ≠ r.key i j → Tbl.find (t.acc acc.code).staged k = Tbl.find (s.acc acc.code).staged k) ∧
              (∀ c, c ≠ acc.code → t.acc c = s.acc c) ∧ t.dict.force = s.dict.force ∧ t = { s with dict := t.dict }) ∧
          (8192 ≤ (s.acc acc.code).staged.length → Tbl.find (s.acc acc.code).staged (r.key i j) = none →
            exec (.objectWrite acc d l) s = .next s)) ∧
        (r.app ≠ .commit →
          (s.inRange r i j d.value = false → exec (.objectWrite acc d l) s = .next s) ∧
          (s.inRange r i j d.value = true →
            (r.app = .quiesce → s.store.ns ≠ [] → exec (.objectWrite acc d l) s = .next s) ∧
            (¬ r ∈ actingRows →
              (r.app = .frame → ∃ t : State, exec (.objectWrite acc d l) s = .next t ∧
                Tbl.find t.dict.frame (r.key i j) = some d.value ∧ t.dict.force = s.dict.force ∧
                (r.per ≠ .volatile → Tbl.find t.dict.durable (r.key i j) = some d.value) ∧ t = { s with dict := t.dict }) ∧
              (r.app = .reboot → ∃ t : State, exec (.objectWrite acc d l) s = .next t ∧
                Tbl.find t.dict.reboot (r.key i j) = some d.value ∧ t.dict.force = s.dict.force ∧
                (r.per ≠ .volatile → Tbl.find t.dict.durable (r.key i j) = some d.value) ∧ t = { s with dict := t.dict }) ∧
              (r.app = .immediate ∨ (r.app = .quiesce ∧ s.store.ns = []) → ∃ t : State,
                exec (.objectWrite acc d l) s = .next t ∧ t.cfg r i j = d.value ∧
                (r.per ≠ .volatile → Tbl.find t.dict.durable (r.key i j) = some d.value) ∧ t = { s with dict := t.dict }))))))) ∧
  (∀ (acc : Accessor) (on : Bool) (s : State),
    (Accessor_manages acc = false → exec (.restoreDefaults acc on) s = .next s) ∧
    (Accessor_manages acc = true → ∃ t : State, exec (.restoreDefaults acc on) s = .next t ∧
      Tbl.find t.dict.durable (0x1F00 * 256 + 0x10) = some on.toNat ∧ t.dict.force = s.dict.force ∧
      t = { s with dict := t.dict }))

/-- R437, R438, R445: a commit that fails a check reports the lowest reason code, shows it, applies nothing and leaves the set
staged; one that passes empties the set, makes it durable, raises 0x1F00.04, and its values wait for the boundary under that
number; a discard empties the set. C3h, 0x1F00.01 and Staing COMMIT do the same.
Choices of the model it rests on: log entries 6, 101 and 103. -/
def Obligations.CommitsCheckTheirSets : Prop :=
  (∀ (acc : Accessor) (l : List (Fin 96)) (s : State),
    (∀ k, lowest (s.commitFails (s.acc acc.code).staged l) = some k →
      (s.commitSet acc l).1 = k ∧ ((s.commitSet acc l).2.acc acc.code).reason = k ∧
      ((s.commitSet acc l).2.acc acc.code).staged = (s.acc acc.code).staged ∧
      (s.commitSet acc l).2.dict.force = s.dict.force ∧ (s.commitSet acc l).2.dict.commits = s.dict.commits) ∧
    (lowest (s.commitFails (s.acc acc.code).staged l) = none →
      (s.commitSet acc l).1 = 0 ∧ ((s.commitSet acc l).2.acc acc.code).reason = 0 ∧
      ((s.commitSet acc l).2.acc acc.code).staged = [] ∧
      (s.commitSet acc l).2.cfg Obj.commitSeq = (s.cfg Obj.commitSeq + 1) % 2 ^ 32 ∧
      (s.commitSet acc l).2.dict.commits
        = s.dict.commits ++ [((s.cfg Obj.commitSeq + 1) % 2 ^ 32, (s.acc acc.code).staged)]) ∧
    ((s.discardSet acc).acc acc.code).staged = [] ∧ (s.discardSet acc).dict.force = s.dict.force ∧
    (∀ c, c ≠ acc.code → (s.discardSet acc).acc c = s.acc c)) ∧
  (∀ (h : Hdr) (l : List (Fin 96)) (s a : State), AdminStarts s h a →
    exec (.commit (.admin h) l) s = .next (State.finish (a.commitSet h.fn.accessor l).2 h
      (if (a.commitSet h.fn.accessor l).1 = 0 then ⟨⟨0, 0⟩, 0, 0⟩ else ⟨⟨1, 0xC0⟩, (a.commitSet h.fn.accessor l).1, 0⟩)) ∧
    exec (.discard (.admin h)) s = .next (State.finish (a.discardSet h.fn.accessor) h ⟨⟨0, 0⟩, 0, 0⟩)) ∧
  (∀ (acc : Accessor) (l : List (Fin 96)) (s : State),
    (Accessor_manages acc = true → exec (.commit (.object acc) l) s = .next (s.commitSet acc l).2 ∧
      exec (.discard (.object acc)) s = .next (s.discardSet acc)) ∧
    (Accessor_manages acc = false → exec (.commit (.object acc) l) s = .next s ∧ exec (.discard (.object acc)) s = .next s)) ∧
  (∀ (l : List (Fin 96)) (s : State) (d : Datagram) (rest : List Datagram), s.staing.waiting = d :: rest →
    (d.op ≠ 3 ∨ s.staingOpen = false → exec (.commit .staing l) s = .next s ∧ exec (.discard .staing) s = .next s) ∧
    (d.op = 3 → s.staingOpen = true →
      (d.arg % 256 = 1 → ∃ t : State, exec (.commit .staing l) s = .next t ∧ t.staing.waiting = rest ∧
        t.dict.commits = (s.commitSet .port l).2.dict.commits ∧
        t.staing.cached = some (.staing 3 (if (s.commitSet .port l).1 = 0 then 0 else 5) d.seq (s.commitSet .port l).1 [] 0)) ∧
      (d.arg % 256 = 2 → exec (.commit .staing l) s = .next s ∧ ∃ t : State, exec (.discard .staing) s = .next t ∧
        t.staing.waiting = rest ∧ (t.acc Accessor.port.code).staged = [] ∧
        t.staing.cached = some (.staing 3 0 d.seq 0 [] 0))))

/-- R453, R454, R456: a datagram that fails a check is dropped and counted by that check; a new SEQ becomes LAST and moves RES
where it reaches it, and its request waits; a repeated request gets the cached response, another SEQ gets SEQ_OLD; a fifth
request is dropped. R455: an operation answers the oldest waiting request. R449: the port answers solicitations and echoes.
R450: a pair fault disables the transmitter at once, until it has been absent for 1 s.
Choices of the model it rests on: log entries 105 and 106. -/
def Obligations.StaingRequestsAreServedInOrder : Prop :=
  (∀ (d : Datagram) (s : State),
    (s.staingOpen = false → exec (.staingDatagram d) s = .next s) ∧
    (s.staingOpen = true →
      (d.srcLinkLocal = false ∨ d.dstDevice = false ∨ d.udpPort ≠ s.cfg Obj.udpPort → exec (.staingDatagram d) s = .next s) ∧
      (d.srcLinkLocal = true → d.dstDevice = true → d.udpPort = s.cfg Obj.udpPort →
        (d.payloadLen < 48 ∨ d.length ≠ d.payloadLen ∨ d.length % 8 ≠ 0 →
          exec (.staingDatagram d) s = .next (State.bump s Obj.lenDrops)) ∧
        (48 ≤ d.payloadLen → d.length = d.payloadLen → d.length % 8 = 0 →
          (d.magic ≠ 0x5453 ∨ d.version ≠ 1 ∨ d.kind ≠ 1 → exec (.staingDatagram d) s = .next (State.bump s Obj.formatDrops)) ∧
          (d.magic = 0x5453 → d.version = 1 → d.kind = 1 →
            (s.security.mgmtKey = none → exec (.staingDatagram d) s = .next (State.bump s Obj.authDrops)) ∧
            (s.security.mgmtKey ≠ none → ComparePair_match d.tagPair = true →
              (s.last < d.seq → 4 ≤ s.staing.waiting.length → exec (.staingDatagram d) s = .next (State.bump s Obj.busyDrops)) ∧
              (s.last < d.seq → s.staing.waiting.length < 4 → ∃ t : State, exec (.staingDatagram d) s = .next t ∧
                t.last = d.seq ∧ t.staing.res = (if s.staing.res ≤ d.seq then d.seq + 65536 else s.staing.res) ∧
                (1 ≤ d.op → d.op ≤ 4 → d.bodyWhole = true → t.staing.waiting = s.staing.waiting ++ [d] ∧ t.out = s.out) ∧
                (d.op = 0 ∨ 4 < d.op → t.staing.waiting = s.staing.waiting ∧
                  t.staing.cached = some (.staing d.op 2 d.seq 0 [] 0)) ∧
                (1 ≤ d.op → d.op ≤ 4 → d.bodyWhole = false → t.staing.waiting = s.staing.waiting ∧
                  t.staing.cached = some (.staing d.op 3 d.seq 0 [] 0))) ∧
              (∀ o, d.seq = s.last → s.staing.lastReq = some d → s.staing.cached = some o → s.txEnabled = true →
                ∃ t : State, exec (.staingDatagram d) s = .next t ∧ t.out = s.out ++ [o] ∧ t.staing = s.staing) ∧
              (d.seq < s.last ∨ (d.seq = s.last ∧ s.staing.lastReq ≠ some d) → s.txEnabled = true → ∃ t : State,
                exec (.staingDatagram d) s = .next t ∧ t.out = s.out ++ [.staing d.op 1 d.seq (s.last + 1) [] 0] ∧
                t.staing = s.staing))))))) ∧
  (∀ (q : Nat) (reqs : List ReadReq) (recs : List DictRec)
    (l : List (Fin 96)) (s : State),
    (s.oldestRequest 1 q = none → exec (.staingRead q reqs) s = .next s) ∧
    (s.oldestRequest 2 q = none → exec (.staingWrite q recs l) s = .next s) ∧
    (s.oldestRequest 4 q = none → exec (.staingEcho q) s = .next s) ∧
    (∀ d, s.oldestRequest 1 q = some d → ∃ (t : State) (l : List DictReply), exec (.staingRead q reqs) s = .next t ∧
      l.length ≤ reqs.length ∧ t.staing.waiting = s.staing.waiting.drop 1 ∧
      t.staing.cached = some (.staing 1 0 d.seq l.length l 0)) ∧
    (∀ d, s.oldestRequest 2 q = some d → ∃ (t : State) (n code : Nat), exec (.staingWrite q recs l) s = .next t ∧
      n ≤ recs.length ∧ (code = 0 ↔ n = recs.length) ∧ t.staing.waiting = s.staing.waiting.drop 1 ∧
      t.staing.cached = some (.staing 2 (if code = 0 then 0 else 4) d.seq (n + 65536 * code) [] 0)) ∧
    (∀ d, s.oldestRequest 4 q = some d → ∃ t : State, exec (.staingEcho q) s = .next t ∧
      t.staing.waiting = s.staing.waiting.drop 1 ∧ (s.txEnabled = true → t.out = s.out ++ [.staing 4 0 d.seq (s.last + 1) []
        (s.cfg Obj.boots % 2 ^ 32 + 2 ^ 32 * s.modes.toNat)]))) ∧
  (∀ (f : IpFrame) (s : State),
    (s.portAwake = true → f.toDevice = true → f.fragment = false → f.extension = false → f.checksumOk = true →
      s.txEnabled = true → exec (.neighborSolicitation f) s = .next (State.emit s .advert) ∧
        exec (.echoRequest f) s = .next (State.emit s .echoReply)) ∧
    (s.portAwake = false ∨ f.toDevice = false ∨ f.fragment = true ∨ f.extension = true ∨ f.checksumOk = false ∨
      s.txEnabled = false → exec (.neighborSolicitation f) s = .next s ∧ exec (.echoRequest f) s = .next s)) ∧
  (∀ (st : PairState) (wire v t : Nat) (rev : Bool) (s : State), ∃ u : State, exec (.pairDiagnosis st wire v rev t) s = .next u ∧
    u.host = s.host ∧ field (u.cfg Obj.pairStatus) 25 1 = rev.toNat ∧
    (st ≠ .normal → u.txEnabled = false ∧ field (u.cfg Obj.pairStatus) 28 4 = PairState_code st ∧
      field (u.cfg Obj.pairStatus) 26 2 = wire % 4 ∧ u.staing.pairClear = none) ∧
    (st = .normal → s.txEnabled = true → u.txEnabled = true ∧ field (u.cfg Obj.pairStatus) 28 4 = 0) ∧
    (st = .normal → s.txEnabled = false →
      (s.staing.pairClear = none → u.txEnabled = false ∧ u.staing.pairClear = some (max s.now t)) ∧
      (∀ c, s.staing.pairClear = some c → u.txEnabled = decide (1000000000 ≤ max s.now t - c))))

/-- R461 to R463, R467: a loop state is reported once it has held, a press after 100 ms of NORMAL opens a window, and a seal
break is marked, closes the window, and under ZEROISE zeroises the device; readings that stay as they were do nothing. R462: a
window closes after 60 s. R474: CRYPTO_HALT shows its cause and fences every function; keys are cleared behind the drain. R471:
41 identical samples, 796 of a window's samples alike, and a failed DRBG test halt.
Choices of the model it rests on: log entry 107. -/
def Obligations.LoopsAndEntropyAreWatched : Prop :=
  (∀ (t pf pr sf sr n : Nat) (s : State) (cp cq : LoopState), cp = loopState pf pr → cq = loopState sf sr → n = max s.now t →
    (LoopSt.steady s.security.sealing cq →
      (LoopSt.steady s.security.presence cp → exec (.loopMeasurement t pf pr sf sr) s = .next (s.tick t)) ∧
      (s.security.presence.seen ≠ cp → ∃ u : State, exec (.loopMeasurement t pf pr sf sr) s = .next u ∧
        u.security = { s.security with presence := { s.security.presence with seen := cp, since := n } } ∧ u.modes = s.modes) ∧
      (s.security.presence.seen = cp → s.security.presence.shown ≠ cp → 20000000 ≤ n - s.security.presence.since → ∃ u : State,
        exec (.loopMeasurement t pf pr sf sr) s = .next u ∧ u.security.presence.shown = cp ∧
        u.cfg Obj.presenceLoop = LoopState_code cp ∧ u.modes = s.modes ∧
        (∀ t0, cp = .short → s.security.presence.shown = .normal → s.security.presence.normalSince = some t0 →
          100000000 ≤ n - t0 → (s.tick t).windowOpen = false → s.sealLocked = false → u.security.opened = some n) ∧
        (cp ≠ .short ∨ s.security.presence.shown ≠ .normal ∨ (s.tick t).windowOpen = true ∨ s.sealLocked = true →
          u.security.opened = s.security.opened))) ∧
    (LoopSt.steady s.security.presence cp → cq ≠ .normal → s.security.sealing.seen = cq → s.security.sealing.shown = .normal →
      50000000 ≤ n - s.security.sealing.since →
      (s.cfg Obj.sealPolicy ≠ 1 → ∃ u : State, exec (.loopMeasurement t pf pr sf sr) s = .next u ∧ u.cfg Obj.sealBroken = 1 ∧
        u.cfg Obj.sealLoop = LoopState_code cq ∧ u.security.opened = none ∧ u.security.challenge = none ∧ u.modes = s.modes) ∧
      (s.cfg Obj.sealPolicy = 1 → ∃ u : State, exec (.loopMeasurement t pf pr sf sr) s = .next (State.zeroise u) ∧
        u.cfg Obj.sealBroken = 1 ∧ u.security.opened = none ∧ u.host = s.host))) ∧
  (∀ s : State,
    (∀ v, v = State.releaseDirty (State.clearKeys s.subsystemReset) → s.has Mode.holdUp = false →
      (v.rootLeft = true → s.zeroise = State.startSanitize v.burnRoot 4 true true false) ∧
      (v.rootLeft = false → s.zeroise = State.startSanitize { v with security := { v.security with barred :=
        v.nsids } } 4 true true false)) ∧
    (s.has Mode.holdUp = true → s.rootLeft = true → s.zeroise.store.dump = none ∧ s.zeroise.power.dumping = false ∧
      s.zeroise.cfg Obj.rootGen = s.cfg Obj.rootGen + 1) ∧
    s.clearKeys.security.kek = false ∧ s.clearKeys.security.mgmtKey = none ∧ s.clearKeys.cipher.tkeks = [] ∧
      s.clearKeys.cipher.kpio = [] ∧ (∀ k q, Tbl.find s.clearKeys.cipher.slots k = some q → q.kind = 0)) ∧
  (∀ (t : Nat) (s : State),
    (s.security.opened = none → exec (.presenceWindowExpiry t) s = .next (s.tick t)) ∧
    (∀ t0, s.security.opened = some t0 →
      (max s.now t < t0 + 60000000000 → exec (.presenceWindowExpiry t) s = .next (s.tick t)) ∧
      (t0 + 60000000000 ≤ max s.now t → ∃ u : State, exec (.presenceWindowExpiry t) s = .next u ∧
        u.security = { s.security with opened := none, challenge := none } ∧ u.modes = s.modes ∧ u.host = s.host))) ∧
  (∀ (s : State) (c : HaltCause),
    (s.cfg Obj.cryptoState = 2 → s.cryptoHalt c = s) ∧
    (s.cfg Obj.cryptoState ≠ 2 → ∃ u v : State, u.cfg Obj.cryptoState = 2 ∧ u.cfg Obj.haltCause = HaltCause_code c ∧
      u.host = s.host ∧ v = u.subsystemReset ∧
      s.cryptoHalt c = State.settleClearing { v with security := { v.security with clearing := 1 } })) ∧
  (∀ (b : Bool) (run cnt : Nat) (s : State),
    run = (if s.security.run ≠ 0 ∧ b = s.security.lastBit then s.security.run + 1 else 1) →
    cnt = (if s.security.aptSeen = 0 ∨ 1024 ≤ s.security.aptSeen then 1
      else if b = s.security.aptBit then s.security.aptCount + 1 else s.security.aptCount) →
    (s.cfg Obj.cryptoState = 2 → exec (.entropySample b) s = .next s ∧ ∀ ok, exec (.drbgReseed ok) s = .next s) ∧
    (s.cfg Obj.cryptoState ≠ 2 →
      (run < 41 → cnt < 796 → ∃ u : State, exec (.entropySample b) s = .next u ∧ u.security.run = run ∧
        u.security.lastBit = b ∧ u.security.aptCount = cnt ∧ u = { s with security := u.security }) ∧
      (41 ≤ run → ∃ u : State, exec (.entropySample b) s = .next (State.cryptoHalt u .repetition) ∧ u.host = s.host ∧
        u.store = s.store ∧ u.dict = s.dict) ∧
      (run < 41 → 796 ≤ cnt → ∃ u : State, exec (.entropySample b) s = .next (State.cryptoHalt u .proportion) ∧
        u.host = s.host ∧ u.store = s.store ∧ u.dict = s.dict) ∧
      exec (.drbgReseed true) s = .next { s with cipher := { s.cipher with requests := 0 } } ∧
      exec (.drbgReseed false) s = .next (State.cryptoHalt s .drbg)))

/-- R464, R465, R468, R375: the operations that need presence end with Operation Denied without it, and with Invalid Field from
an instance. FACTORY entry sets FACTORY, but not during a sanitize or an activation; a root-key reset burns one ROOT_GEN step
and runs a crypto erase; a challenge answers SERIAL and a number, which a token that verifies uses up to drain and unlock; a
provisioned management key replaces any held and starts the sequence state again.
Choices of the model it rests on: log entries 6, 108 and 109. -/
def Obligations.PresenceGatesItsOperations : Prop :=
  ∀ (h : Hdr) (k : DebugToken) (b : KeyBlob) (s a : State),
    (Starts s h a → h.fn.isManager = false →
      exec (.factoryEntry h) s = .next (a.finish h ⟨⟨0, 0x02⟩, 0, 0⟩) ∧
        exec (.rootKeyReset h) s = .next (a.finish h ⟨⟨0, 0x02⟩, 0, 0⟩) ∧
      exec (.debugChallenge h) s = .next (a.finish h ⟨⟨0, 0x02⟩, 0, 0⟩) ∧
      exec (.debugUnlock h k) s = .next (a.finish h ⟨⟨0, 0x02⟩, 0, 0⟩) ∧
      exec (.managementKeyProvisioning h b) s = .next (a.finish h ⟨⟨0, 0x02⟩, 0, 0⟩)) ∧
    (PresentOp s h a →
      (a.presenceUsable = false →
        exec (.rootKeyReset h) s = .next (a.finish h ⟨⟨0, 0x15⟩, 0, 0⟩) ∧
        exec (.debugChallenge h) s = .next (a.finish h ⟨⟨0, 0x15⟩, 0, 0⟩) ∧
        exec (.debugUnlock h k) s = .next (a.finish h ⟨⟨0, 0x15⟩, 0, 0⟩) ∧
        (a.has Mode.factory = false → exec (.managementKeyProvisioning h b) s = .next (a.finish h ⟨⟨0, 0x15⟩, 0, 0⟩))) ∧
      (a.sealLocked = true → exec (.managementKeyProvisioning h b) s = .next (a.finish h ⟨⟨0, 0x15⟩, 0, 0⟩)) ∧
      (a.factoryMay = false → exec (.factoryEntry h) s = .next (a.finish h ⟨⟨0, 0x15⟩, 0, 0⟩)) ∧
      (a.factoryMay = true →
        (a.has Mode.sanitize = true ∨ a.has Mode.activation = true ∨ a.has Mode.holdUp = true →
          exec (.factoryEntry h) s = .next (a.finish h ⟨⟨0, 0x0C⟩, 0, 0⟩)) ∧
        (a.has Mode.sanitize = false → a.has Mode.activation = false → a.has Mode.holdUp = false → HasRoom a →
          a.cfg Obj.presenceOps < 2 ^ 32 - 1 → ∃ t : State, exec (.factoryEntry h) s = .next t ∧ Ended t h ⟨0, 0⟩ 0 ∧
            t.has Mode.factory = true ∧ t.cfg Obj.presenceOps = a.cfg Obj.presenceOps + 1 ∧ t.store = a.store)) ∧
      (a.presenceUsable = true →
        (32 ≤ a.cfg Obj.rootGen → exec (.rootKeyReset h) s = .next (a.finish h ⟨⟨0, 0x15⟩, 0, 0⟩)) ∧
        (a.cfg Obj.rootGen < 32 → a.admin.sanitize ≠ none → exec (.rootKeyReset h) s = .next (a.finish h ⟨⟨0, 0x1D⟩, 0, 0⟩)) ∧
        (a.cfg Obj.rootGen < 32 → a.admin.sanitize = none → ∃ u : State, exec (.rootKeyReset h) s
            = .next (State.finish (State.presenceDone (State.startSanitize u 4 true true false)) h ⟨⟨0, 0⟩, 0, 0⟩) ∧
          u.cfg Obj.rootGen = a.cfg Obj.rootGen + 1 ∧ u.cipher.tkeks = [] ∧ u.cipher.tkekBlobs = [] ∧
          u.security.mgmtKey = none ∧ u.security.mgmtBlob = none ∧ u.host = a.host) ∧
        (∃ (t : State) (c : Nat), exec (.debugChallenge h) s = .next t ∧ Ended t h ⟨0, 0⟩ 0 ∧ t.security.challenge = some c ∧
          t.out = a.out ++ [.reply h (.words [(0, Config.serial), (20, c)])]) ∧
        (a.security.challenge ≠ some k.challenge ∨ k.signatureOk = false → ∃ t : State, exec (.debugUnlock h k) s = .next t ∧
          Ended t h ⟨0, 0x15⟩ 0 ∧ t.security.challenge = none ∧ t.store = a.store) ∧
        (a.security.challenge = some k.challenge → k.signatureOk = true → ∃ u v : State, exec (.debugUnlock h k) s
            = .next (State.finish (State.settleClearing { v with security := { v.security with clearing := 2 } }) h
              ⟨⟨0, 0⟩, 0, 0⟩) ∧
          v = u.subsystemReset ∧ u.security.challenge = none ∧ u.host = a.host ∧ u.store = a.store) ∧
        (a.sealLocked = false →
          (b.kind ≠ 5 ∨ b.target ≠ 0 → exec (.managementKeyProvisioning h b) s = .next (a.finish h ⟨⟨0, 0x02⟩, 0, 0⟩)) ∧
          (b.kind = 5 → b.target = 0 → a.mgmtBlobBad b = false → ∃ t : State,
            exec (.managementKeyProvisioning h b) s = .next t ∧ Ended t h ⟨0, 0⟩ 0 ∧ t.security.mgmtKey = some b.keyId ∧
            t.cfg Obj.keyPresent = 1 ∧ t.last = 0 ∧ t.staing.res = 0 ∧ t.staing.cached = none))))

/-- R476, R477: a freeze begins on an ONLINE instance of the manager's port and no other, ends what has not been admitted with
Command Interrupted and waits; at 20 ms every command still running ends so; when every context has posted, the instance is
FROZEN, FREEZE is set, and the command ends with the number of commands ended. R480: a resume takes a FROZEN instance to
ONLINE, and cancels a freeze that drains. R481, R482: a save of a FROZEN instance puts its image, 8,192 + 64 × QUEUES bytes,
into its window. R483: a restore that fails a check changes nothing and reports it; one that passes loads the image into the
target, which stays FROZEN.
Choices of the model it rests on: log entries 6, 110, 111 and 112. -/
def Obligations.InstancesFreezeMoveAndResume : Prop :=
  (∀ (h : Hdr) (n : Fin 1024) (s a : State), AdminStarts s h a →
    (a.has Mode.sanitize = true → exec (.freezeInstance h n) s = .next (a.finish h ⟨⟨0, 0x1D⟩, 0, 0⟩)) ∧
    (a.has Mode.sanitize = false →
      (a.portOf n ≠ a.portOfFn h.fn ∨ (a.fn (.inst n)).state ≠ .online ∨ a.phase n ≠ 0 →
        exec (.freezeInstance h n) s = .next (a.finish h ⟨⟨1, 0xC2⟩, 0, 0⟩)) ∧
      (a.portOf n = a.portOfFn h.fn → (a.fn (.inst n)).state = .online → a.phase n = 0 →
        (∃ t : State, exec (.freezeInstance h n) s = .next t ∧ (Tbl.find t.migration.freezing n).isSome = true) ∧
        ((∀ c ∈ a.host.ctxs, a.running n c = true → c.interruptible = true) → ∃ t : State,
          exec (.freezeInstance h n) s = .next t ∧ t.phase n = 1 ∧ (t.fn (.inst n)).state = .online ∧
          Tbl.find t.migration.freezing n = some (h, (a.host.ctxs.filter (a.running n)).length, 0) ∧
          (∀ c, a.ctx? c.hdr = some c → a.running n c = true → Ended t c.hdr ⟨0, 0x21⟩ 0)))) ∧
    (a.portOf n ≠ a.portOfFn h.fn ∨ (a.fn (.inst n)).state ≠ .frozen ∨ (a.phase n ≠ 2 ∧ a.phase n ≠ 3) →
      exec (.saveInstanceState h n) s = .next (a.finish h ⟨⟨1, 0xC2⟩, 0, 0⟩)) ∧
    (a.portOf n = a.portOfFn h.fn → (a.fn (.inst n)).state = .frozen → a.phase n = 2 ∨ a.phase n = 3 → ∃ t u : State,
      exec (.saveInstanceState h n) s = .next t ∧ Ended t h ⟨0, 0⟩ (8192 + 64 * ((a.fn (.inst n)).topQid + 1)) ∧
      u = a.bump Obj.saveCount 1 n ∧ Tbl.get [] t.engines.windows (0x1000 + n) = cellsStore [] 0 (u.imageOf n) ∧
      (t.fn (.inst n)).state = .frozen ∧ t.store = a.store) ∧
    (a.portOf n ≠ a.portOfFn h.fn ∨ (a.fn (.inst n)).state ≠ .frozen →
      exec (.restoreInstanceState h n) s = .next (a.finish h ⟨⟨1, 0xC2⟩, 1, 0⟩)) ∧
    (∀ img, a.portOf n = a.portOfFn h.fn → (a.fn (.inst n)).state = .frozen →
      img = cellsLoad (Tbl.get [] a.engines.windows (0x1000 + n)) 0 12352 →
      (∀ e, a.imageCheck img n = some e →
        exec (.restoreInstanceState h n) s = .next (a.finish h ⟨e.2.1, e.1 + 65536 * e.2.2, 0⟩)) ∧
      (a.imageCheck img n = none → ∃ t : State, exec (.restoreInstanceState h n) s = .next t ∧ Ended t h ⟨0, 0⟩ 0 ∧
        (t.fn (.inst n)).state = .frozen ∧ (t.fn (.inst n)).gen = (a.fn (.inst n)).gen ∧
        (t.fn (.inst n)).en = decide (fieldAt img 64 4 % 2 = 1) ∧ (t.fn (.inst n)).line = imageLine img ∧
        (t.fn (.inst n)).aers = imageAers img n ∧ t.store = a.store)) ∧
    (a.portOf n ≠ a.portOfFn h.fn ∨ ((a.fn (.inst n)).state = .frozen ∧ a.phase n ≠ 2) ∨
      ((a.fn (.inst n)).state = .online ∧ a.phase n ≠ 1) ∨ ((a.fn (.inst n)).state ≠ .frozen ∧ (a.fn (.inst n)).state ≠ .online) →
      exec (.resumeInstance h n) s = .next (a.finish h ⟨⟨1, 0xC2⟩, 0, 0⟩)) ∧
    (a.portOf n = a.portOfFn h.fn →
      ((a.fn (.inst n)).state = .frozen → a.phase n = 2 → Tbl.find a.migration.freezing n = none → ∃ t : State,
        exec (.resumeInstance h n) s = .next t ∧
        Ended t h ⟨0, 0⟩ 0 ∧ (t.fn (.inst n)).state = .online ∧ t.phase n = 0 ∧
        Tbl.find t.engines.windows (0x1000 + n) = none ∧
        ∀ q sq v, Tbl.find (a.fn (.inst n)).sqs q = some sq → sq.recorded = some v →
          ∃ sq', Tbl.find (t.fn (.inst n)).sqs q = some sq' ∧ sq'.tail = v ∧ sq'.recorded = none) ∧
      ((a.fn (.inst n)).state = .online → a.phase n = 1 → ∀ e c, Tbl.find a.migration.freezing n = some e → e.1 ≠ h →
        a.ctx? e.1 = some c → c.done = none → ∃ t : State, exec (.resumeInstance h n) s = .next t ∧ Ended t h ⟨0, 0⟩ 0 ∧
          t.phase n = 0 ∧ Tbl.find t.migration.freezing n = none ∧ Ended t e.1 ⟨0, 0x07⟩ e.2.1))) ∧
  (∀ (n : Fin 1024) (s : State),
    (Tbl.find s.migration.freezing n = none → exec (.freezeDrainTimeout n) s = .next s ∧ exec (.freezeComplete n) s = .next s) ∧
    (∀ e, Tbl.find s.migration.freezing n = some e →
      (∃ t : State, exec (.freezeDrainTimeout n) s = .next t ∧
        Tbl.find t.migration.freezing n = some (e.1, e.2.1, e.2.2 + (s.host.ctxs.filter (s.running n)).length) ∧
        ∀ c, s.ctx? c.hdr = some c → s.running n c = true → Ended t c.hdr ⟨0, 0x21⟩ 0) ∧
      (s.drainedOut n = false → exec (.freezeComplete n) s = .next s) ∧
      (s.drainedOut n = true → HasRoom s → ∃ t : State, exec (.freezeComplete n) s = .next t ∧ (t.fn (.inst n)).state = .frozen ∧
        t.phase n = 2 ∧ t.has Mode.freeze = true ∧ Tbl.find t.migration.freezing n = none ∧
        ∀ c, s.ctx? e.1 = some c → c.done = none → Ended t e.1 ⟨0, 0⟩ (e.2.1 + e.2.2))))

/-- R485: tracking of an attached namespace starts with the bit of every map unit set, is refused where the namespace is not
attached, four are tracked already or DRAM is short, and ends with its bitmap gone. R487: a read of the bits answers the 2,048
bits of its chunk and clears exactly those.
Choices of the model it rests on: log entry 4. -/
def Obligations.DirtyBitsAreReadAndCleared : Prop :=
  (∀ (acc : Accessor) (n : Fin 1024) (on : Bool) (s : State),
    (Accessor_manages acc = false ∨ s.reaches acc n = false → exec (.dirtyEnWrite acc n on) s = .next s ∧
      exec (.dirtyBitsRead acc n) s = .next s) ∧
    (Accessor_manages acc = true → s.reaches acc n = true →
      (∀ x, s.ns? (s.cfg Obj.dirtyNsid n) = some x → s.cfg Obj.dirtyNsid n ≠ 0 →
        (x.attached.contains n.val = false ∨ (s.dirtyMap n = none ∧ (4 ≤ s.tracked n ∨ s.dramLeft < ceilDiv (ceilDiv x.nsze 4) 8)) →
          exec (.dirtyEnWrite acc n true) s = .next s) ∧
        (x.attached.contains n.val = true → s.dirtyMap n ≠ none ∨ (s.tracked n < 4 ∧ ceilDiv (ceilDiv x.nsze 4) 8 ≤ s.dramLeft) →
          ∃ t : State, exec (.dirtyEnWrite acc n true) s = .next t ∧ (∀ u, (t.dirtyMap n).elim false (·.testBit u)
            = decide (u < ceilDiv x.nsze 4)) ∧ (t.dirtyMap n).isSome = true ∧ t = { s with migration := t.migration })) ∧
      (s.cfg Obj.dirtyNsid n ≠ 0 → ∃ t : State, exec (.dirtyEnWrite acc n false) s = .next t ∧ t.dirtyMap n = none ∧
        t = { s with migration := t.migration }) ∧
      (s.dirtyMap n = none → exec (.dirtyBitsRead acc n) s = .next (State.emit s (.object acc.code ((0x4000 + n) * 256 + 0x45) 0))) ∧
      (∀ m, s.dirtyMap n = some m → ∃ (t : State) (bits m1 : Nat), exec (.dirtyBitsRead acc n) s = .next t ∧
        t.out = s.out ++ [.object acc.code ((0x4000 + n) * 256 + 0x45) bits] ∧ t.dirtyMap n = some m1 ∧
        (∀ i, bits.testBit i = (decide (i < 2048) && m.testBit (2048 * s.cfg Obj.dirtyChunk n + i))) ∧
        (∀ u, m1.testBit u = (m.testBit u && !(decide (2048 * s.cfg Obj.dirtyChunk n ≤ u) &&
          decide (u < 2048 * s.cfg Obj.dirtyChunk n + 2048)))))))

/-- A step takes the command at the front of the queue and runs its effect on the state with the rest of the queue; with no
command waiting, nothing happens (log entry 10).
Choices of the model it rests on: log entry 10. -/
def Obligations.StepRunsTheFrontCommand : Prop :=
  (∀ (c : Instr) (rest : List Instr) (s : State), step { s with pending := c :: rest } = exec c { s with pending := rest }) ∧
  (∀ s : State, s.pending = [] → step s = .next s)

/-- R431, R434, R435, R438: after reset no command waits, every object holds its default, no function is enabled, no context is
held, no namespace, stripe or journal record exists, memory lists nothing, and no key is loaded. R75: an instance is ABSENT.
MODES reads 0x0001 until the boot (log entry 2).
Choices of the model it rests on: log entry 2. -/
def Obligations.ResetHoldsDefaultsAndNothingElse : Prop :=
  (∀ (r : ObjRow) (i j : Nat), State.reset.cfg r i j = r.default i j) ∧ State.reset.pending = [] ∧ State.reset.modes = 1 ∧
    State.reset.power.held = true ∧ (∀ n : Fin 1024, (State.reset.fn (.inst n)).state = .absent) ∧
    (∀ f : Func, (State.reset.fn f).en = false ∧ (State.reset.fn f).sqs = [] ∧ (State.reset.fn f).cqs = []) ∧
    State.reset.host.ctxs = [] ∧ State.reset.store.ns = [] ∧ State.reset.store.stripes = [] ∧
    State.reset.store.journal.recs = [] ∧ State.reset.mem.dram = [] ∧ State.reset.engines.windows = [] ∧
    State.reset.cipher.slots = [] ∧ State.reset.security.kek = false ∧ State.reset.security.mgmtKey = none ∧
    State.reset.sampler.buf = [] ∧ (∀ c, (State.reset.acc c).staged = [] ∧ (State.reset.acc c).cursor = 0)

/-- What every step keeps: DRAM and every window hold their bytes in the one canonical form, and the clock has not run back
behind the boot that its times are counted from (R416).
Choices of the model it rests on: log entries 16 and 17. -/
def Obligations.StepKeepsMemoryAndClock : Prop :=
  ∀ s t : State, Kept s → step s = .next t → Kept t

/-- The state after reset meets what every step keeps.
Choices of the model it rests on: log entries 16 and 17. -/
def Obligations.ResetMeetsWhatStepsKeep : Prop :=
  Kept State.reset

/-- No command changes the queue of the commands that wait, lets the clock run back, takes back a free value that has been
drawn, or takes back what the device has sent.
Choices of the model it rests on: log entries 10 and 16. -/
def Obligations.CommandsOnlyAddToWhatWasSent : Prop :=
  ∀ (c : Instr) (s t : State), exec c s = .next t →
    t.pending = s.pending ∧ s.now ≤ t.now ∧ s.free ≤ t.free ∧ ∃ l, t.out = s.out ++ l
end

