-- ==== Sys2Proof/Laws/Frames.lean ====
section
/-! SUPPORT. What each operation leaves alone: for every operation over the state, the fields of `State` that it does not
touch, one lemma each. Provers cite these instead of unfolding an operation. -/
set_option maxRecDepth 8000
set_option linter.all false
namespace Sys2Proof.Machine
@[simp] theorem ite_dict {c : Prop} [Decidable c] (a b : State) :
    (if c then a else b).dict = if c then a.dict else b.dict := by split <;> rfl

@[simp] theorem foldl_dict {α : Type} (g : State → α → State) (l : List α) (s : State)
    (h : ∀ a e, (g a e).dict = a.dict) : (l.foldl g s).dict = s.dict := by
  induction l generalizing s with
  | nil => rfl
  | cons a t ih => simp [ih, h]


@[simp] theorem elim_dict {α : Type} (o : Option α) (s : State) (f : α → State)
    (h : ∀ x, (f x).dict = s.dict) : (o.elim s f).dict = s.dict := by
  cases o with
  | none => rfl
  | some x => exact h x

@[simp] theorem foldlPair_dict {α β : Type} (g : β × State → α → β × State) (l : List α) (s : β × State)
    (h : ∀ a e, (g a e).2.dict = a.2.dict) : (l.foldl g s).2.dict = s.2.dict := by
  induction l generalizing s with
  | nil => rfl
  | cons a t ih => simp [ih, h]

@[simp] theorem ite_modes {c : Prop} [Decidable c] (a b : State) :
    (if c then a else b).modes = if c then a.modes else b.modes := by split <;> rfl

@[simp] theorem foldl_modes {α : Type} (g : State → α → State) (l : List α) (s : State)
    (h : ∀ a e, (g a e).modes = a.modes) : (l.foldl g s).modes = s.modes := by
  induction l generalizing s with
  | nil => rfl
  | cons a t ih => simp [ih, h]


@[simp] theorem elim_modes {α : Type} (o : Option α) (s : State) (f : α → State)
    (h : ∀ x, (f x).modes = s.modes) : (o.elim s f).modes = s.modes := by
  cases o with
  | none => rfl
  | some x => exact h x

@[simp] theorem foldlPair_modes {α β : Type} (g : β × State → α → β × State) (l : List α) (s : β × State)
    (h : ∀ a e, (g a e).2.modes = a.2.modes) : (l.foldl g s).2.modes = s.2.modes := by
  induction l generalizing s with
  | nil => rfl
  | cons a t ih => simp [ih, h]

@[simp] theorem ite_sampler {c : Prop} [Decidable c] (a b : State) :
    (if c then a else b).sampler = if c then a.sampler else b.sampler := by split <;> rfl

@[simp] theorem foldl_sampler {α : Type} (g : State → α → State) (l : List α) (s : State)
    (h : ∀ a e, (g a e).sampler = a.sampler) : (l.foldl g s).sampler = s.sampler := by
  induction l generalizing s with
  | nil => rfl
  | cons a t ih => simp [ih, h]


@[simp] theorem elim_sampler {α : Type} (o : Option α) (s : State) (f : α → State)
    (h : ∀ x, (f x).sampler = s.sampler) : (o.elim s f).sampler = s.sampler := by
  cases o with
  | none => rfl
  | some x => exact h x

@[simp] theorem foldlPair_sampler {α β : Type} (g : β × State → α → β × State) (l : List α) (s : β × State)
    (h : ∀ a e, (g a e).2.sampler = a.2.sampler) : (l.foldl g s).2.sampler = s.2.sampler := by
  induction l generalizing s with
  | nil => rfl
  | cons a t ih => simp [ih, h]

@[simp] theorem ite_cells {c : Prop} [Decidable c] (a b : State) :
    (if c then a else b).cells = if c then a.cells else b.cells := by split <;> rfl

@[simp] theorem foldl_cells {α : Type} (g : State → α → State) (l : List α) (s : State)
    (h : ∀ a e, (g a e).cells = a.cells) : (l.foldl g s).cells = s.cells := by
  induction l generalizing s with
  | nil => rfl
  | cons a t ih => simp [ih, h]


@[simp] theorem elim_cells {α : Type} (o : Option α) (s : State) (f : α → State)
    (h : ∀ x, (f x).cells = s.cells) : (o.elim s f).cells = s.cells := by
  cases o with
  | none => rfl
  | some x => exact h x

@[simp] theorem foldlPair_cells {α β : Type} (g : β × State → α → β × State) (l : List α) (s : β × State)
    (h : ∀ a e, (g a e).2.cells = a.2.cells) : (l.foldl g s).2.cells = s.2.cells := by
  induction l generalizing s with
  | nil => rfl
  | cons a t ih => simp [ih, h]

@[simp] theorem ite_host {c : Prop} [Decidable c] (a b : State) :
    (if c then a else b).host = if c then a.host else b.host := by split <;> rfl

@[simp] theorem foldl_host {α : Type} (g : State → α → State) (l : List α) (s : State)
    (h : ∀ a e, (g a e).host = a.host) : (l.foldl g s).host = s.host := by
  induction l generalizing s with
  | nil => rfl
  | cons a t ih => simp [ih, h]


@[simp] theorem elim_host {α : Type} (o : Option α) (s : State) (f : α → State)
    (h : ∀ x, (f x).host = s.host) : (o.elim s f).host = s.host := by
  cases o with
  | none => rfl
  | some x => exact h x

@[simp] theorem foldlPair_host {α β : Type} (g : β × State → α → β × State) (l : List α) (s : β × State)
    (h : ∀ a e, (g a e).2.host = a.2.host) : (l.foldl g s).2.host = s.2.host := by
  induction l generalizing s with
  | nil => rfl
  | cons a t ih => simp [ih, h]

@[simp] theorem ite_sched {c : Prop} [Decidable c] (a b : State) :
    (if c then a else b).sched = if c then a.sched else b.sched := by split <;> rfl

@[simp] theorem foldl_sched {α : Type} (g : State → α → State) (l : List α) (s : State)
    (h : ∀ a e, (g a e).sched = a.sched) : (l.foldl g s).sched = s.sched := by
  induction l generalizing s with
  | nil => rfl
  | cons a t ih => simp [ih, h]


@[simp] theorem elim_sched {α : Type} (o : Option α) (s : State) (f : α → State)
    (h : ∀ x, (f x).sched = s.sched) : (o.elim s f).sched = s.sched := by
  cases o with
  | none => rfl
  | some x => exact h x

@[simp] theorem foldlPair_sched {α β : Type} (g : β × State → α → β × State) (l : List α) (s : β × State)
    (h : ∀ a e, (g a e).2.sched = a.2.sched) : (l.foldl g s).2.sched = s.2.sched := by
  induction l generalizing s with
  | nil => rfl
  | cons a t ih => simp [ih, h]

@[simp] theorem ite_flash {c : Prop} [Decidable c] (a b : State) :
    (if c then a else b).flash = if c then a.flash else b.flash := by split <;> rfl

@[simp] theorem foldl_flash {α : Type} (g : State → α → State) (l : List α) (s : State)
    (h : ∀ a e, (g a e).flash = a.flash) : (l.foldl g s).flash = s.flash := by
  induction l generalizing s with
  | nil => rfl
  | cons a t ih => simp [ih, h]


@[simp] theorem elim_flash {α : Type} (o : Option α) (s : State) (f : α → State)
    (h : ∀ x, (f x).flash = s.flash) : (o.elim s f).flash = s.flash := by
  cases o with
  | none => rfl
  | some x => exact h x

@[simp] theorem foldlPair_flash {α β : Type} (g : β × State → α → β × State) (l : List α) (s : β × State)
    (h : ∀ a e, (g a e).2.flash = a.2.flash) : (l.foldl g s).2.flash = s.2.flash := by
  induction l generalizing s with
  | nil => rfl
  | cons a t ih => simp [ih, h]

@[simp] theorem ite_store {c : Prop} [Decidable c] (a b : State) :
    (if c then a else b).store = if c then a.store else b.store := by split <;> rfl

@[simp] theorem foldl_store {α : Type} (g : State → α → State) (l : List α) (s : State)
    (h : ∀ a e, (g a e).store = a.store) : (l.foldl g s).store = s.store := by
  induction l generalizing s with
  | nil => rfl
  | cons a t ih => simp [ih, h]


@[simp] theorem elim_store {α : Type} (o : Option α) (s : State) (f : α → State)
    (h : ∀ x, (f x).store = s.store) : (o.elim s f).store = s.store := by
  cases o with
  | none => rfl
  | some x => exact h x

@[simp] theorem foldlPair_store {α β : Type} (g : β × State → α → β × State) (l : List α) (s : β × State)
    (h : ∀ a e, (g a e).2.store = a.2.store) : (l.foldl g s).2.store = s.2.store := by
  induction l generalizing s with
  | nil => rfl
  | cons a t ih => simp [ih, h]

@[simp] theorem ite_power {c : Prop} [Decidable c] (a b : State) :
    (if c then a else b).power = if c then a.power else b.power := by split <;> rfl

@[simp] theorem foldl_power {α : Type} (g : State → α → State) (l : List α) (s : State)
    (h : ∀ a e, (g a e).power = a.power) : (l.foldl g s).power = s.power := by
  induction l generalizing s with
  | nil => rfl
  | cons a t ih => simp [ih, h]


@[simp] theorem elim_power {α : Type} (o : Option α) (s : State) (f : α → State)
    (h : ∀ x, (f x).power = s.power) : (o.elim s f).power = s.power := by
  cases o with
  | none => rfl
  | some x => exact h x

@[simp] theorem foldlPair_power {α β : Type} (g : β × State → α → β × State) (l : List α) (s : β × State)
    (h : ∀ a e, (g a e).2.power = a.2.power) : (l.foldl g s).2.power = s.2.power := by
  induction l generalizing s with
  | nil => rfl
  | cons a t ih => simp [ih, h]

@[simp] theorem ite_mem {c : Prop} [Decidable c] (a b : State) :
    (if c then a else b).mem = if c then a.mem else b.mem := by split <;> rfl

@[simp] theorem foldl_mem {α : Type} (g : State → α → State) (l : List α) (s : State)
    (h : ∀ a e, (g a e).mem = a.mem) : (l.foldl g s).mem = s.mem := by
  induction l generalizing s with
  | nil => rfl
  | cons a t ih => simp [ih, h]


@[simp] theorem elim_mem {α : Type} (o : Option α) (s : State) (f : α → State)
    (h : ∀ x, (f x).mem = s.mem) : (o.elim s f).mem = s.mem := by
  cases o with
  | none => rfl
  | some x => exact h x

@[simp] theorem foldlPair_mem {α β : Type} (g : β × State → α → β × State) (l : List α) (s : β × State)
    (h : ∀ a e, (g a e).2.mem = a.2.mem) : (l.foldl g s).2.mem = s.2.mem := by
  induction l generalizing s with
  | nil => rfl
  | cons a t ih => simp [ih, h]

@[simp] theorem ite_cipher {c : Prop} [Decidable c] (a b : State) :
    (if c then a else b).cipher = if c then a.cipher else b.cipher := by split <;> rfl

@[simp] theorem foldl_cipher {α : Type} (g : State → α → State) (l : List α) (s : State)
    (h : ∀ a e, (g a e).cipher = a.cipher) : (l.foldl g s).cipher = s.cipher := by
  induction l generalizing s with
  | nil => rfl
  | cons a t ih => simp [ih, h]


@[simp] theorem elim_cipher {α : Type} (o : Option α) (s : State) (f : α → State)
    (h : ∀ x, (f x).cipher = s.cipher) : (o.elim s f).cipher = s.cipher := by
  cases o with
  | none => rfl
  | some x => exact h x

@[simp] theorem foldlPair_cipher {α β : Type} (g : β × State → α → β × State) (l : List α) (s : β × State)
    (h : ∀ a e, (g a e).2.cipher = a.2.cipher) : (l.foldl g s).2.cipher = s.2.cipher := by
  induction l generalizing s with
  | nil => rfl
  | cons a t ih => simp [ih, h]

@[simp] theorem ite_engines {c : Prop} [Decidable c] (a b : State) :
    (if c then a else b).engines = if c then a.engines else b.engines := by split <;> rfl

@[simp] theorem foldl_engines {α : Type} (g : State → α → State) (l : List α) (s : State)
    (h : ∀ a e, (g a e).engines = a.engines) : (l.foldl g s).engines = s.engines := by
  induction l generalizing s with
  | nil => rfl
  | cons a t ih => simp [ih, h]


@[simp] theorem elim_engines {α : Type} (o : Option α) (s : State) (f : α → State)
    (h : ∀ x, (f x).engines = s.engines) : (o.elim s f).engines = s.engines := by
  cases o with
  | none => rfl
  | some x => exact h x

@[simp] theorem foldlPair_engines {α β : Type} (g : β × State → α → β × State) (l : List α) (s : β × State)
    (h : ∀ a e, (g a e).2.engines = a.2.engines) : (l.foldl g s).2.engines = s.2.engines := by
  induction l generalizing s with
  | nil => rfl
  | cons a t ih => simp [ih, h]

@[simp] theorem ite_admin {c : Prop} [Decidable c] (a b : State) :
    (if c then a else b).admin = if c then a.admin else b.admin := by split <;> rfl

@[simp] theorem foldl_admin {α : Type} (g : State → α → State) (l : List α) (s : State)
    (h : ∀ a e, (g a e).admin = a.admin) : (l.foldl g s).admin = s.admin := by
  induction l generalizing s with
  | nil => rfl
  | cons a t ih => simp [ih, h]


@[simp] theorem elim_admin {α : Type} (o : Option α) (s : State) (f : α → State)
    (h : ∀ x, (f x).admin = s.admin) : (o.elim s f).admin = s.admin := by
  cases o with
  | none => rfl
  | some x => exact h x

@[simp] theorem foldlPair_admin {α β : Type} (g : β × State → α → β × State) (l : List α) (s : β × State)
    (h : ∀ a e, (g a e).2.admin = a.2.admin) : (l.foldl g s).2.admin = s.2.admin := by
  induction l generalizing s with
  | nil => rfl
  | cons a t ih => simp [ih, h]

@[simp] theorem ite_staing {c : Prop} [Decidable c] (a b : State) :
    (if c then a else b).staing = if c then a.staing else b.staing := by split <;> rfl

@[simp] theorem foldl_staing {α : Type} (g : State → α → State) (l : List α) (s : State)
    (h : ∀ a e, (g a e).staing = a.staing) : (l.foldl g s).staing = s.staing := by
  induction l generalizing s with
  | nil => rfl
  | cons a t ih => simp [ih, h]


@[simp] theorem elim_staing {α : Type} (o : Option α) (s : State) (f : α → State)
    (h : ∀ x, (f x).staing = s.staing) : (o.elim s f).staing = s.staing := by
  cases o with
  | none => rfl
  | some x => exact h x

@[simp] theorem foldlPair_staing {α β : Type} (g : β × State → α → β × State) (l : List α) (s : β × State)
    (h : ∀ a e, (g a e).2.staing = a.2.staing) : (l.foldl g s).2.staing = s.2.staing := by
  induction l generalizing s with
  | nil => rfl
  | cons a t ih => simp [ih, h]

@[simp] theorem ite_security {c : Prop} [Decidable c] (a b : State) :
    (if c then a else b).security = if c then a.security else b.security := by split <;> rfl

@[simp] theorem foldl_security {α : Type} (g : State → α → State) (l : List α) (s : State)
    (h : ∀ a e, (g a e).security = a.security) : (l.foldl g s).security = s.security := by
  induction l generalizing s with
  | nil => rfl
  | cons a t ih => simp [ih, h]


@[simp] theorem elim_security {α : Type} (o : Option α) (s : State) (f : α → State)
    (h : ∀ x, (f x).security = s.security) : (o.elim s f).security = s.security := by
  cases o with
  | none => rfl
  | some x => exact h x

@[simp] theorem foldlPair_security {α β : Type} (g : β × State → α → β × State) (l : List α) (s : β × State)
    (h : ∀ a e, (g a e).2.security = a.2.security) : (l.foldl g s).2.security = s.2.security := by
  induction l generalizing s with
  | nil => rfl
  | cons a t ih => simp [ih, h]

@[simp] theorem ite_migration {c : Prop} [Decidable c] (a b : State) :
    (if c then a else b).migration = if c then a.migration else b.migration := by split <;> rfl

@[simp] theorem foldl_migration {α : Type} (g : State → α → State) (l : List α) (s : State)
    (h : ∀ a e, (g a e).migration = a.migration) : (l.foldl g s).migration = s.migration := by
  induction l generalizing s with
  | nil => rfl
  | cons a t ih => simp [ih, h]


@[simp] theorem elim_migration {α : Type} (o : Option α) (s : State) (f : α → State)
    (h : ∀ x, (f x).migration = s.migration) : (o.elim s f).migration = s.migration := by
  cases o with
  | none => rfl
  | some x => exact h x

@[simp] theorem foldlPair_migration {α β : Type} (g : β × State → α → β × State) (l : List α) (s : β × State)
    (h : ∀ a e, (g a e).2.migration = a.2.migration) : (l.foldl g s).2.migration = s.2.migration := by
  induction l generalizing s with
  | nil => rfl
  | cons a t ih => simp [ih, h]

@[simp] theorem ite_pending {c : Prop} [Decidable c] (a b : State) :
    (if c then a else b).pending = if c then a.pending else b.pending := by split <;> rfl

@[simp] theorem foldl_pending {α : Type} (g : State → α → State) (l : List α) (s : State)
    (h : ∀ a e, (g a e).pending = a.pending) : (l.foldl g s).pending = s.pending := by
  induction l generalizing s with
  | nil => rfl
  | cons a t ih => simp [ih, h]


@[simp] theorem elim_pending {α : Type} (o : Option α) (s : State) (f : α → State)
    (h : ∀ x, (f x).pending = s.pending) : (o.elim s f).pending = s.pending := by
  cases o with
  | none => rfl
  | some x => exact h x

@[simp] theorem foldlPair_pending {α β : Type} (g : β × State → α → β × State) (l : List α) (s : β × State)
    (h : ∀ a e, (g a e).2.pending = a.2.pending) : (l.foldl g s).2.pending = s.2.pending := by
  induction l generalizing s with
  | nil => rfl
  | cons a t ih => simp [ih, h]

@[simp] theorem ite_now {c : Prop} [Decidable c] (a b : State) :
    (if c then a else b).now = if c then a.now else b.now := by split <;> rfl

@[simp] theorem foldl_now {α : Type} (g : State → α → State) (l : List α) (s : State)
    (h : ∀ a e, (g a e).now = a.now) : (l.foldl g s).now = s.now := by
  induction l generalizing s with
  | nil => rfl
  | cons a t ih => simp [ih, h]


@[simp] theorem elim_now {α : Type} (o : Option α) (s : State) (f : α → State)
    (h : ∀ x, (f x).now = s.now) : (o.elim s f).now = s.now := by
  cases o with
  | none => rfl
  | some x => exact h x

@[simp] theorem foldlPair_now {α β : Type} (g : β × State → α → β × State) (l : List α) (s : β × State)
    (h : ∀ a e, (g a e).2.now = a.2.now) : (l.foldl g s).2.now = s.2.now := by
  induction l generalizing s with
  | nil => rfl
  | cons a t ih => simp [ih, h]

@[simp] theorem ite_bootAt {c : Prop} [Decidable c] (a b : State) :
    (if c then a else b).bootAt = if c then a.bootAt else b.bootAt := by split <;> rfl

@[simp] theorem foldl_bootAt {α : Type} (g : State → α → State) (l : List α) (s : State)
    (h : ∀ a e, (g a e).bootAt = a.bootAt) : (l.foldl g s).bootAt = s.bootAt := by
  induction l generalizing s with
  | nil => rfl
  | cons a t ih => simp [ih, h]


@[simp] theorem elim_bootAt {α : Type} (o : Option α) (s : State) (f : α → State)
    (h : ∀ x, (f x).bootAt = s.bootAt) : (o.elim s f).bootAt = s.bootAt := by
  cases o with
  | none => rfl
  | some x => exact h x

@[simp] theorem foldlPair_bootAt {α β : Type} (g : β × State → α → β × State) (l : List α) (s : β × State)
    (h : ∀ a e, (g a e).2.bootAt = a.2.bootAt) : (l.foldl g s).2.bootAt = s.2.bootAt := by
  induction l generalizing s with
  | nil => rfl
  | cons a t ih => simp [ih, h]

@[simp] theorem ite_free {c : Prop} [Decidable c] (a b : State) :
    (if c then a else b).free = if c then a.free else b.free := by split <;> rfl

@[simp] theorem foldl_free {α : Type} (g : State → α → State) (l : List α) (s : State)
    (h : ∀ a e, (g a e).free = a.free) : (l.foldl g s).free = s.free := by
  induction l generalizing s with
  | nil => rfl
  | cons a t ih => simp [ih, h]


@[simp] theorem elim_free {α : Type} (o : Option α) (s : State) (f : α → State)
    (h : ∀ x, (f x).free = s.free) : (o.elim s f).free = s.free := by
  cases o with
  | none => rfl
  | some x => exact h x

@[simp] theorem foldlPair_free {α β : Type} (g : β × State → α → β × State) (l : List α) (s : β × State)
    (h : ∀ a e, (g a e).2.free = a.2.free) : (l.foldl g s).2.free = s.2.free := by
  induction l generalizing s with
  | nil => rfl
  | cons a t ih => simp [ih, h]

@[simp] theorem ite_out {c : Prop} [Decidable c] (a b : State) :
    (if c then a else b).out = if c then a.out else b.out := by split <;> rfl

@[simp] theorem foldl_out {α : Type} (g : State → α → State) (l : List α) (s : State)
    (h : ∀ a e, (g a e).out = a.out) : (l.foldl g s).out = s.out := by
  induction l generalizing s with
  | nil => rfl
  | cons a t ih => simp [ih, h]


@[simp] theorem elim_out {α : Type} (o : Option α) (s : State) (f : α → State)
    (h : ∀ x, (f x).out = s.out) : (o.elim s f).out = s.out := by
  cases o with
  | none => rfl
  | some x => exact h x

@[simp] theorem foldlPair_out {α β : Type} (g : β × State → α → β × State) (l : List α) (s : β × State)
    (h : ∀ a e, (g a e).2.out = a.2.out) : (l.foldl g s).2.out = s.2.out := by
  induction l generalizing s with
  | nil => rfl
  | cons a t ih => simp [ih, h]

@[simp] theorem ite_mem_dram {c : Prop} [Decidable c] (a b : State) :
    (if c then a else b).mem.dram = if c then a.mem.dram else b.mem.dram := by split <;> rfl

@[simp] theorem foldl_mem_dram {α : Type} (g : State → α → State) (l : List α) (s : State)
    (h : ∀ a e, (g a e).mem.dram = a.mem.dram) : (l.foldl g s).mem.dram = s.mem.dram := by
  induction l generalizing s with
  | nil => rfl
  | cons a t ih => simp [ih, h]


@[simp] theorem elim_mem_dram {α : Type} (o : Option α) (s : State) (f : α → State)
    (h : ∀ x, (f x).mem.dram = s.mem.dram) : (o.elim s f).mem.dram = s.mem.dram := by
  cases o with
  | none => rfl
  | some x => exact h x

@[simp] theorem foldlPair_mem_dram {α β : Type} (g : β × State → α → β × State) (l : List α) (s : β × State)
    (h : ∀ a e, (g a e).2.mem.dram = a.2.mem.dram) : (l.foldl g s).2.mem.dram = s.2.mem.dram := by
  induction l generalizing s with
  | nil => rfl
  | cons a t ih => simp [ih, h]

@[simp] theorem ite_engines_windows {c : Prop} [Decidable c] (a b : State) :
    (if c then a else b).engines.windows = if c then a.engines.windows else b.engines.windows := by split <;> rfl

@[simp] theorem foldl_engines_windows {α : Type} (g : State → α → State) (l : List α) (s : State)
    (h : ∀ a e, (g a e).engines.windows = a.engines.windows) : (l.foldl g s).engines.windows = s.engines.windows := by
  induction l generalizing s with
  | nil => rfl
  | cons a t ih => simp [ih, h]


@[simp] theorem elim_engines_windows {α : Type} (o : Option α) (s : State) (f : α → State)
    (h : ∀ x, (f x).engines.windows = s.engines.windows) : (o.elim s f).engines.windows = s.engines.windows := by
  cases o with
  | none => rfl
  | some x => exact h x

@[simp] theorem foldlPair_engines_windows {α β : Type} (g : β × State → α → β × State) (l : List α) (s : β × State)
    (h : ∀ a e, (g a e).2.engines.windows = a.2.engines.windows) : (l.foldl g s).2.engines.windows = s.2.engines.windows := by
  induction l generalizing s with
  | nil => rfl
  | cons a t ih => simp [ih, h]

@[simp] theorem state_keep_frame (s : State) (r : ObjRow) (v : Nat) (i : Nat) (j : Nat) :
    (State.keep s r v i j).modes = s.modes ∧ (State.keep s r v i j).sampler = s.sampler ∧ (State.keep s r v i j).cells = s.cells ∧ (State.keep s r v i j).host = s.host ∧ (State.keep s r v i j).sched = s.sched ∧ (State.keep s r v i j).flash = s.flash ∧ (State.keep s r v i j).store = s.store ∧ (State.keep s r v i j).power = s.power ∧ (State.keep s r v i j).mem = s.mem ∧ (State.keep s r v i j).cipher = s.cipher ∧ (State.keep s r v i j).engines = s.engines ∧ (State.keep s r v i j).admin = s.admin ∧ (State.keep s r v i j).staing = s.staing ∧ (State.keep s r v i j).security = s.security ∧ (State.keep s r v i j).migration = s.migration ∧ (State.keep s r v i j).pending = s.pending ∧ (State.keep s r v i j).now = s.now ∧ (State.keep s r v i j).bootAt = s.bootAt ∧ (State.keep s r v i j).free = s.free ∧ (State.keep s r v i j).out = s.out := by
  unfold State.keep
  simp

@[simp] theorem state_save_frame (s : State) (r : ObjRow) (v : Nat) (i : Nat) (j : Nat) :
    (State.save s r v i j).modes = s.modes ∧ (State.save s r v i j).sampler = s.sampler ∧ (State.save s r v i j).cells = s.cells ∧ (State.save s r v i j).host = s.host ∧ (State.save s r v i j).sched = s.sched ∧ (State.save s r v i j).flash = s.flash ∧ (State.save s r v i j).store = s.store ∧ (State.save s r v i j).power = s.power ∧ (State.save s r v i j).mem = s.mem ∧ (State.save s r v i j).cipher = s.cipher ∧ (State.save s r v i j).engines = s.engines ∧ (State.save s r v i j).admin = s.admin ∧ (State.save s r v i j).staing = s.staing ∧ (State.save s r v i j).security = s.security ∧ (State.save s r v i j).migration = s.migration ∧ (State.save s r v i j).pending = s.pending ∧ (State.save s r v i j).now = s.now ∧ (State.save s r v i j).bootAt = s.bootAt ∧ (State.save s r v i j).free = s.free ∧ (State.save s r v i j).out = s.out := by
  unfold State.save
  simp

@[simp] theorem state_bump_frame (s : State) (r : ObjRow) (n : Nat) (i : Nat) (j : Nat) :
    (State.bump s r n i j).modes = s.modes ∧ (State.bump s r n i j).sampler = s.sampler ∧ (State.bump s r n i j).cells = s.cells ∧ (State.bump s r n i j).host = s.host ∧ (State.bump s r n i j).sched = s.sched ∧ (State.bump s r n i j).flash = s.flash ∧ (State.bump s r n i j).store = s.store ∧ (State.bump s r n i j).power = s.power ∧ (State.bump s r n i j).mem = s.mem ∧ (State.bump s r n i j).cipher = s.cipher ∧ (State.bump s r n i j).engines = s.engines ∧ (State.bump s r n i j).admin = s.admin ∧ (State.bump s r n i j).staing = s.staing ∧ (State.bump s r n i j).security = s.security ∧ (State.bump s r n i j).migration = s.migration ∧ (State.bump s r n i j).pending = s.pending ∧ (State.bump s r n i j).now = s.now ∧ (State.bump s r n i j).bootAt = s.bootAt ∧ (State.bump s r n i j).free = s.free ∧ (State.bump s r n i j).out = s.out := by
  unfold State.bump
  simp

@[simp] theorem state_drop1_frame (s : State) (r : ObjRow) (i : Nat) (j : Nat) :
    (State.drop1 s r i j).modes = s.modes ∧ (State.drop1 s r i j).sampler = s.sampler ∧ (State.drop1 s r i j).cells = s.cells ∧ (State.drop1 s r i j).host = s.host ∧ (State.drop1 s r i j).sched = s.sched ∧ (State.drop1 s r i j).flash = s.flash ∧ (State.drop1 s r i j).store = s.store ∧ (State.drop1 s r i j).power = s.power ∧ (State.drop1 s r i j).mem = s.mem ∧ (State.drop1 s r i j).cipher = s.cipher ∧ (State.drop1 s r i j).engines = s.engines ∧ (State.drop1 s r i j).admin = s.admin ∧ (State.drop1 s r i j).staing = s.staing ∧ (State.drop1 s r i j).security = s.security ∧ (State.drop1 s r i j).migration = s.migration ∧ (State.drop1 s r i j).pending = s.pending ∧ (State.drop1 s r i j).now = s.now ∧ (State.drop1 s r i j).bootAt = s.bootAt ∧ (State.drop1 s r i j).free = s.free ∧ (State.drop1 s r i j).out = s.out := by
  unfold State.drop1
  simp

@[simp] theorem state_draw_frame (s : State) :
    (State.draw s).2.dict = s.dict ∧ (State.draw s).2.modes = s.modes ∧ (State.draw s).2.sampler = s.sampler ∧ (State.draw s).2.cells = s.cells ∧ (State.draw s).2.host = s.host ∧ (State.draw s).2.sched = s.sched ∧ (State.draw s).2.flash = s.flash ∧ (State.draw s).2.store = s.store ∧ (State.draw s).2.power = s.power ∧ (State.draw s).2.mem = s.mem ∧ (State.draw s).2.cipher = s.cipher ∧ (State.draw s).2.engines = s.engines ∧ (State.draw s).2.admin = s.admin ∧ (State.draw s).2.staing = s.staing ∧ (State.draw s).2.security = s.security ∧ (State.draw s).2.migration = s.migration ∧ (State.draw s).2.pending = s.pending ∧ (State.draw s).2.now = s.now ∧ (State.draw s).2.bootAt = s.bootAt ∧ (State.draw s).2.out = s.out := by
  unfold State.draw
  simp

@[simp] theorem state_drawData_frame (s : State) :
    (State.drawData s).2.dict = s.dict ∧ (State.drawData s).2.modes = s.modes ∧ (State.drawData s).2.sampler = s.sampler ∧ (State.drawData s).2.cells = s.cells ∧ (State.drawData s).2.host = s.host ∧ (State.drawData s).2.sched = s.sched ∧ (State.drawData s).2.flash = s.flash ∧ (State.drawData s).2.store = s.store ∧ (State.drawData s).2.power = s.power ∧ (State.drawData s).2.mem = s.mem ∧ (State.drawData s).2.cipher = s.cipher ∧ (State.drawData s).2.engines = s.engines ∧ (State.drawData s).2.admin = s.admin ∧ (State.drawData s).2.staing = s.staing ∧ (State.drawData s).2.security = s.security ∧ (State.drawData s).2.migration = s.migration ∧ (State.drawData s).2.pending = s.pending ∧ (State.drawData s).2.now = s.now ∧ (State.drawData s).2.bootAt = s.bootAt ∧ (State.drawData s).2.out = s.out := by
  unfold State.drawData
  simp

@[simp] theorem state_emit_frame (s : State) (o : Out) :
    (State.emit s o).dict = s.dict ∧ (State.emit s o).modes = s.modes ∧ (State.emit s o).sampler = s.sampler ∧ (State.emit s o).cells = s.cells ∧ (State.emit s o).host = s.host ∧ (State.emit s o).sched = s.sched ∧ (State.emit s o).flash = s.flash ∧ (State.emit s o).store = s.store ∧ (State.emit s o).power = s.power ∧ (State.emit s o).mem = s.mem ∧ (State.emit s o).cipher = s.cipher ∧ (State.emit s o).engines = s.engines ∧ (State.emit s o).admin = s.admin ∧ (State.emit s o).staing = s.staing ∧ (State.emit s o).security = s.security ∧ (State.emit s o).migration = s.migration ∧ (State.emit s o).pending = s.pending ∧ (State.emit s o).now = s.now ∧ (State.emit s o).bootAt = s.bootAt ∧ (State.emit s o).free = s.free := by
  unfold State.emit
  simp

@[simp] theorem state_tick_frame (s : State) (t : Nat) :
    (State.tick s t).dict = s.dict ∧ (State.tick s t).modes = s.modes ∧ (State.tick s t).sampler = s.sampler ∧ (State.tick s t).cells = s.cells ∧ (State.tick s t).host = s.host ∧ (State.tick s t).sched = s.sched ∧ (State.tick s t).flash = s.flash ∧ (State.tick s t).power = s.power ∧ (State.tick s t).mem = s.mem ∧ (State.tick s t).cipher = s.cipher ∧ (State.tick s t).engines = s.engines ∧ (State.tick s t).admin = s.admin ∧ (State.tick s t).staing = s.staing ∧ (State.tick s t).security = s.security ∧ (State.tick s t).migration = s.migration ∧ (State.tick s t).pending = s.pending ∧ (State.tick s t).bootAt = s.bootAt ∧ (State.tick s t).free = s.free ∧ (State.tick s t).out = s.out := by
  unfold State.tick
  simp

@[simp] theorem state_enter_frame (s : State) (r : Rec) :
    (State.enter s r).modes = s.modes ∧ (State.enter s r).cells = s.cells ∧ (State.enter s r).host = s.host ∧ (State.enter s r).sched = s.sched ∧ (State.enter s r).flash = s.flash ∧ (State.enter s r).store = s.store ∧ (State.enter s r).power = s.power ∧ (State.enter s r).mem = s.mem ∧ (State.enter s r).cipher = s.cipher ∧ (State.enter s r).engines = s.engines ∧ (State.enter s r).admin = s.admin ∧ (State.enter s r).staing = s.staing ∧ (State.enter s r).security = s.security ∧ (State.enter s r).migration = s.migration ∧ (State.enter s r).pending = s.pending ∧ (State.enter s r).now = s.now ∧ (State.enter s r).bootAt = s.bootAt ∧ (State.enter s r).free = s.free ∧ (State.enter s r).out = s.out := by
  unfold State.enter
  simp

@[simp] theorem state_setBucket_frame (s : State) (code : Nat) (b : Bucket) :
    (State.setBucket s code b).dict = s.dict ∧ (State.setBucket s code b).modes = s.modes ∧ (State.setBucket s code b).cells = s.cells ∧ (State.setBucket s code b).host = s.host ∧ (State.setBucket s code b).sched = s.sched ∧ (State.setBucket s code b).flash = s.flash ∧ (State.setBucket s code b).store = s.store ∧ (State.setBucket s code b).power = s.power ∧ (State.setBucket s code b).mem = s.mem ∧ (State.setBucket s code b).cipher = s.cipher ∧ (State.setBucket s code b).engines = s.engines ∧ (State.setBucket s code b).admin = s.admin ∧ (State.setBucket s code b).staing = s.staing ∧ (State.setBucket s code b).security = s.security ∧ (State.setBucket s code b).migration = s.migration ∧ (State.setBucket s code b).pending = s.pending ∧ (State.setBucket s code b).now = s.now ∧ (State.setBucket s code b).bootAt = s.bootAt ∧ (State.setBucket s code b).free = s.free ∧ (State.setBucket s code b).out = s.out := by
  unfold State.setBucket
  simp

@[simp] theorem state_record_frame (s : State) (code : Nat) (params : List Nat) (subject : Nat) (domain : Nat) :
    (State.record s code params subject domain).modes = s.modes ∧ (State.record s code params subject domain).cells = s.cells ∧ (State.record s code params subject domain).host = s.host ∧ (State.record s code params subject domain).sched = s.sched ∧ (State.record s code params subject domain).flash = s.flash ∧ (State.record s code params subject domain).store = s.store ∧ (State.record s code params subject domain).power = s.power ∧ (State.record s code params subject domain).mem = s.mem ∧ (State.record s code params subject domain).cipher = s.cipher ∧ (State.record s code params subject domain).engines = s.engines ∧ (State.record s code params subject domain).admin = s.admin ∧ (State.record s code params subject domain).staing = s.staing ∧ (State.record s code params subject domain).security = s.security ∧ (State.record s code params subject domain).migration = s.migration ∧ (State.record s code params subject domain).pending = s.pending ∧ (State.record s code params subject domain).now = s.now ∧ (State.record s code params subject domain).bootAt = s.bootAt ∧ (State.record s code params subject domain).free = s.free ∧ (State.record s code params subject domain).out = s.out := by
  unfold State.record
  simp

@[simp] theorem state_noteDefer_frame (s : State) :
    (State.noteDefer s).modes = s.modes ∧ (State.noteDefer s).cells = s.cells ∧ (State.noteDefer s).host = s.host ∧ (State.noteDefer s).sched = s.sched ∧ (State.noteDefer s).flash = s.flash ∧ (State.noteDefer s).store = s.store ∧ (State.noteDefer s).power = s.power ∧ (State.noteDefer s).mem = s.mem ∧ (State.noteDefer s).cipher = s.cipher ∧ (State.noteDefer s).engines = s.engines ∧ (State.noteDefer s).admin = s.admin ∧ (State.noteDefer s).staing = s.staing ∧ (State.noteDefer s).security = s.security ∧ (State.noteDefer s).migration = s.migration ∧ (State.noteDefer s).pending = s.pending ∧ (State.noteDefer s).now = s.now ∧ (State.noteDefer s).bootAt = s.bootAt ∧ (State.noteDefer s).free = s.free ∧ (State.noteDefer s).out = s.out := by
  unfold State.noteDefer
  simp

@[simp] theorem state_changeModes_frame (s : State) (set : BitVec 12) (clear : BitVec 12) (cause : Nat) :
    (State.changeModes s set clear cause).cells = s.cells ∧ (State.changeModes s set clear cause).host = s.host ∧ (State.changeModes s set clear cause).sched = s.sched ∧ (State.changeModes s set clear cause).flash = s.flash ∧ (State.changeModes s set clear cause).store = s.store ∧ (State.changeModes s set clear cause).power = s.power ∧ (State.changeModes s set clear cause).mem = s.mem ∧ (State.changeModes s set clear cause).cipher = s.cipher ∧ (State.changeModes s set clear cause).engines = s.engines ∧ (State.changeModes s set clear cause).admin = s.admin ∧ (State.changeModes s set clear cause).staing = s.staing ∧ (State.changeModes s set clear cause).security = s.security ∧ (State.changeModes s set clear cause).migration = s.migration ∧ (State.changeModes s set clear cause).pending = s.pending ∧ (State.changeModes s set clear cause).now = s.now ∧ (State.changeModes s set clear cause).bootAt = s.bootAt ∧ (State.changeModes s set clear cause).free = s.free ∧ (State.changeModes s set clear cause).out = s.out := by
  unfold State.changeModes
  simp

@[simp] theorem state_setMode_frame (s : State) (m : Nat) (cause : Nat) :
    (State.setMode s m cause).cells = s.cells ∧ (State.setMode s m cause).host = s.host ∧ (State.setMode s m cause).sched = s.sched ∧ (State.setMode s m cause).flash = s.flash ∧ (State.setMode s m cause).store = s.store ∧ (State.setMode s m cause).power = s.power ∧ (State.setMode s m cause).mem = s.mem ∧ (State.setMode s m cause).cipher = s.cipher ∧ (State.setMode s m cause).engines = s.engines ∧ (State.setMode s m cause).admin = s.admin ∧ (State.setMode s m cause).staing = s.staing ∧ (State.setMode s m cause).security = s.security ∧ (State.setMode s m cause).migration = s.migration ∧ (State.setMode s m cause).pending = s.pending ∧ (State.setMode s m cause).now = s.now ∧ (State.setMode s m cause).bootAt = s.bootAt ∧ (State.setMode s m cause).free = s.free ∧ (State.setMode s m cause).out = s.out := by
  unfold State.setMode
  simp

@[simp] theorem state_clearMode_frame (s : State) (m : Nat) (cause : Nat) :
    (State.clearMode s m cause).cells = s.cells ∧ (State.clearMode s m cause).host = s.host ∧ (State.clearMode s m cause).sched = s.sched ∧ (State.clearMode s m cause).flash = s.flash ∧ (State.clearMode s m cause).store = s.store ∧ (State.clearMode s m cause).power = s.power ∧ (State.clearMode s m cause).mem = s.mem ∧ (State.clearMode s m cause).cipher = s.cipher ∧ (State.clearMode s m cause).engines = s.engines ∧ (State.clearMode s m cause).admin = s.admin ∧ (State.clearMode s m cause).staing = s.staing ∧ (State.clearMode s m cause).security = s.security ∧ (State.clearMode s m cause).migration = s.migration ∧ (State.clearMode s m cause).pending = s.pending ∧ (State.clearMode s m cause).now = s.now ∧ (State.clearMode s m cause).bootAt = s.bootAt ∧ (State.clearMode s m cause).free = s.free ∧ (State.clearMode s m cause).out = s.out := by
  unfold State.clearMode
  simp

@[simp] theorem state_setFnAt_frame (s : State) (code : Nat) (x : Fn) :
    (State.setFnAt s code x).dict = s.dict ∧ (State.setFnAt s code x).modes = s.modes ∧ (State.setFnAt s code x).sampler = s.sampler ∧ (State.setFnAt s code x).cells = s.cells ∧ (State.setFnAt s code x).sched = s.sched ∧ (State.setFnAt s code x).flash = s.flash ∧ (State.setFnAt s code x).store = s.store ∧ (State.setFnAt s code x).power = s.power ∧ (State.setFnAt s code x).mem = s.mem ∧ (State.setFnAt s code x).cipher = s.cipher ∧ (State.setFnAt s code x).engines = s.engines ∧ (State.setFnAt s code x).admin = s.admin ∧ (State.setFnAt s code x).staing = s.staing ∧ (State.setFnAt s code x).security = s.security ∧ (State.setFnAt s code x).migration = s.migration ∧ (State.setFnAt s code x).pending = s.pending ∧ (State.setFnAt s code x).now = s.now ∧ (State.setFnAt s code x).bootAt = s.bootAt ∧ (State.setFnAt s code x).free = s.free ∧ (State.setFnAt s code x).out = s.out := by
  unfold State.setFnAt
  simp

@[simp] theorem state_setFn_frame (s : State) (f : Func) (x : Fn) :
    (State.setFn s f x).dict = s.dict ∧ (State.setFn s f x).modes = s.modes ∧ (State.setFn s f x).sampler = s.sampler ∧ (State.setFn s f x).cells = s.cells ∧ (State.setFn s f x).sched = s.sched ∧ (State.setFn s f x).flash = s.flash ∧ (State.setFn s f x).store = s.store ∧ (State.setFn s f x).power = s.power ∧ (State.setFn s f x).mem = s.mem ∧ (State.setFn s f x).cipher = s.cipher ∧ (State.setFn s f x).engines = s.engines ∧ (State.setFn s f x).admin = s.admin ∧ (State.setFn s f x).staing = s.staing ∧ (State.setFn s f x).security = s.security ∧ (State.setFn s f x).migration = s.migration ∧ (State.setFn s f x).pending = s.pending ∧ (State.setFn s f x).now = s.now ∧ (State.setFn s f x).bootAt = s.bootAt ∧ (State.setFn s f x).free = s.free ∧ (State.setFn s f x).out = s.out := by
  unfold State.setFn
  simp

@[simp] theorem state_modFn_frame (s : State) (f : Func) (g : Fn → Fn) :
    (State.modFn s f g).dict = s.dict ∧ (State.modFn s f g).modes = s.modes ∧ (State.modFn s f g).sampler = s.sampler ∧ (State.modFn s f g).cells = s.cells ∧ (State.modFn s f g).sched = s.sched ∧ (State.modFn s f g).flash = s.flash ∧ (State.modFn s f g).store = s.store ∧ (State.modFn s f g).power = s.power ∧ (State.modFn s f g).mem = s.mem ∧ (State.modFn s f g).cipher = s.cipher ∧ (State.modFn s f g).engines = s.engines ∧ (State.modFn s f g).admin = s.admin ∧ (State.modFn s f g).staing = s.staing ∧ (State.modFn s f g).security = s.security ∧ (State.modFn s f g).migration = s.migration ∧ (State.modFn s f g).pending = s.pending ∧ (State.modFn s f g).now = s.now ∧ (State.modFn s f g).bootAt = s.bootAt ∧ (State.modFn s f g).free = s.free ∧ (State.modFn s f g).out = s.out := by
  unfold State.modFn
  simp

@[simp] theorem state_setPort_frame (s : State) (p : Port) (x : PortSt) :
    (State.setPort s p x).dict = s.dict ∧ (State.setPort s p x).modes = s.modes ∧ (State.setPort s p x).sampler = s.sampler ∧ (State.setPort s p x).cells = s.cells ∧ (State.setPort s p x).sched = s.sched ∧ (State.setPort s p x).flash = s.flash ∧ (State.setPort s p x).store = s.store ∧ (State.setPort s p x).power = s.power ∧ (State.setPort s p x).mem = s.mem ∧ (State.setPort s p x).cipher = s.cipher ∧ (State.setPort s p x).engines = s.engines ∧ (State.setPort s p x).admin = s.admin ∧ (State.setPort s p x).staing = s.staing ∧ (State.setPort s p x).security = s.security ∧ (State.setPort s p x).migration = s.migration ∧ (State.setPort s p x).pending = s.pending ∧ (State.setPort s p x).now = s.now ∧ (State.setPort s p x).bootAt = s.bootAt ∧ (State.setPort s p x).free = s.free ∧ (State.setPort s p x).out = s.out := by
  unfold State.setPort
  (repeat' split) <;> simp

@[simp] theorem state_modCtx_frame (s : State) (h : Hdr) (g : Ctx → Ctx) :
    (State.modCtx s h g).dict = s.dict ∧ (State.modCtx s h g).modes = s.modes ∧ (State.modCtx s h g).sampler = s.sampler ∧ (State.modCtx s h g).cells = s.cells ∧ (State.modCtx s h g).sched = s.sched ∧ (State.modCtx s h g).flash = s.flash ∧ (State.modCtx s h g).store = s.store ∧ (State.modCtx s h g).power = s.power ∧ (State.modCtx s h g).mem = s.mem ∧ (State.modCtx s h g).cipher = s.cipher ∧ (State.modCtx s h g).engines = s.engines ∧ (State.modCtx s h g).admin = s.admin ∧ (State.modCtx s h g).staing = s.staing ∧ (State.modCtx s h g).security = s.security ∧ (State.modCtx s h g).migration = s.migration ∧ (State.modCtx s h g).pending = s.pending ∧ (State.modCtx s h g).now = s.now ∧ (State.modCtx s h g).bootAt = s.bootAt ∧ (State.modCtx s h g).free = s.free ∧ (State.modCtx s h g).out = s.out := by
  unfold State.modCtx
  simp

@[simp] theorem state_addCtx_frame (s : State) (h : Hdr) (e : Sqe) :
    (State.addCtx s h e).dict = s.dict ∧ (State.addCtx s h e).modes = s.modes ∧ (State.addCtx s h e).sampler = s.sampler ∧ (State.addCtx s h e).cells = s.cells ∧ (State.addCtx s h e).sched = s.sched ∧ (State.addCtx s h e).flash = s.flash ∧ (State.addCtx s h e).store = s.store ∧ (State.addCtx s h e).power = s.power ∧ (State.addCtx s h e).mem = s.mem ∧ (State.addCtx s h e).cipher = s.cipher ∧ (State.addCtx s h e).engines = s.engines ∧ (State.addCtx s h e).admin = s.admin ∧ (State.addCtx s h e).staing = s.staing ∧ (State.addCtx s h e).security = s.security ∧ (State.addCtx s h e).migration = s.migration ∧ (State.addCtx s h e).pending = s.pending ∧ (State.addCtx s h e).now = s.now ∧ (State.addCtx s h e).bootAt = s.bootAt ∧ (State.addCtx s h e).free = s.free ∧ (State.addCtx s h e).out = s.out := by
  unfold State.addCtx
  simp

theorem state_begin_some (s : State) (h : Hdr) :
    ∀ got, State.begin s h = some got → got.dict = s.dict ∧ got.modes = s.modes ∧ got.sampler = s.sampler ∧ got.cells = s.cells ∧ got.sched = s.sched ∧ got.flash = s.flash ∧ got.store = s.store ∧ got.power = s.power ∧ got.mem = s.mem ∧ got.cipher = s.cipher ∧ got.engines = s.engines ∧ got.admin = s.admin ∧ got.staing = s.staing ∧ got.security = s.security ∧ got.migration = s.migration ∧ got.pending = s.pending ∧ got.now = s.now ∧ got.bootAt = s.bootAt ∧ got.free = s.free ∧ got.out = s.out := by
  intro got h
  unfold State.begin at h
  (repeat' split at h) <;> first | (cases h; done) | (cases h; simp) | grind []

@[simp] theorem state_finish_frame (s : State) (h : Hdr) (c : Cpl) :
    (State.finish s h c).dict = s.dict ∧ (State.finish s h c).modes = s.modes ∧ (State.finish s h c).sampler = s.sampler ∧ (State.finish s h c).cells = s.cells ∧ (State.finish s h c).sched = s.sched ∧ (State.finish s h c).flash = s.flash ∧ (State.finish s h c).store = s.store ∧ (State.finish s h c).power = s.power ∧ (State.finish s h c).mem = s.mem ∧ (State.finish s h c).cipher = s.cipher ∧ (State.finish s h c).engines = s.engines ∧ (State.finish s h c).admin = s.admin ∧ (State.finish s h c).staing = s.staing ∧ (State.finish s h c).security = s.security ∧ (State.finish s h c).migration = s.migration ∧ (State.finish s h c).pending = s.pending ∧ (State.finish s h c).now = s.now ∧ (State.finish s h c).bootAt = s.bootAt ∧ (State.finish s h c).free = s.free ∧ (State.finish s h c).out = s.out := by
  unfold State.finish
  simp

@[simp] theorem state_countPointer_frame (s : State) (f : Func) (st : Status) :
    (State.countPointer s f st).modes = s.modes ∧ (State.countPointer s f st).sampler = s.sampler ∧ (State.countPointer s f st).cells = s.cells ∧ (State.countPointer s f st).host = s.host ∧ (State.countPointer s f st).sched = s.sched ∧ (State.countPointer s f st).flash = s.flash ∧ (State.countPointer s f st).store = s.store ∧ (State.countPointer s f st).power = s.power ∧ (State.countPointer s f st).mem = s.mem ∧ (State.countPointer s f st).cipher = s.cipher ∧ (State.countPointer s f st).engines = s.engines ∧ (State.countPointer s f st).admin = s.admin ∧ (State.countPointer s f st).staing = s.staing ∧ (State.countPointer s f st).security = s.security ∧ (State.countPointer s f st).migration = s.migration ∧ (State.countPointer s f st).pending = s.pending ∧ (State.countPointer s f st).now = s.now ∧ (State.countPointer s f st).bootAt = s.bootAt ∧ (State.countPointer s f st).free = s.free ∧ (State.countPointer s f st).out = s.out := by
  unfold State.countPointer
  (repeat' split) <;> simp

@[simp] theorem refuse_frame (st : Status) (s : State) :
    (refuse st s).1.dict = s.dict ∧ (refuse st s).1.modes = s.modes ∧ (refuse st s).1.sampler = s.sampler ∧ (refuse st s).1.cells = s.cells ∧ (refuse st s).1.host = s.host ∧ (refuse st s).1.sched = s.sched ∧ (refuse st s).1.flash = s.flash ∧ (refuse st s).1.store = s.store ∧ (refuse st s).1.power = s.power ∧ (refuse st s).1.mem = s.mem ∧ (refuse st s).1.cipher = s.cipher ∧ (refuse st s).1.engines = s.engines ∧ (refuse st s).1.admin = s.admin ∧ (refuse st s).1.staing = s.staing ∧ (refuse st s).1.security = s.security ∧ (refuse st s).1.migration = s.migration ∧ (refuse st s).1.pending = s.pending ∧ (refuse st s).1.now = s.now ∧ (refuse st s).1.bootAt = s.bootAt ∧ (refuse st s).1.free = s.free ∧ (refuse st s).1.out = s.out := by
  unfold refuse
  simp

@[simp] theorem state_markDirty_frame (s : State) (nsid : Nat) (first : Nat) (last : Nat) :
    (State.markDirty s nsid first last).dict = s.dict ∧ (State.markDirty s nsid first last).modes = s.modes ∧ (State.markDirty s nsid first last).sampler = s.sampler ∧ (State.markDirty s nsid first last).cells = s.cells ∧ (State.markDirty s nsid first last).host = s.host ∧ (State.markDirty s nsid first last).sched = s.sched ∧ (State.markDirty s nsid first last).flash = s.flash ∧ (State.markDirty s nsid first last).store = s.store ∧ (State.markDirty s nsid first last).power = s.power ∧ (State.markDirty s nsid first last).mem = s.mem ∧ (State.markDirty s nsid first last).cipher = s.cipher ∧ (State.markDirty s nsid first last).engines = s.engines ∧ (State.markDirty s nsid first last).admin = s.admin ∧ (State.markDirty s nsid first last).staing = s.staing ∧ (State.markDirty s nsid first last).security = s.security ∧ (State.markDirty s nsid first last).pending = s.pending ∧ (State.markDirty s nsid first last).now = s.now ∧ (State.markDirty s nsid first last).bootAt = s.bootAt ∧ (State.markDirty s nsid first last).free = s.free ∧ (State.markDirty s nsid first last).out = s.out := by
  unfold State.markDirty
  simp

@[simp] theorem state_markRuns_frame (s : State) (runs : List (Nat × Nat × Nat)) :
    (State.markRuns s runs).dict = s.dict ∧ (State.markRuns s runs).modes = s.modes ∧ (State.markRuns s runs).sampler = s.sampler ∧ (State.markRuns s runs).cells = s.cells ∧ (State.markRuns s runs).host = s.host ∧ (State.markRuns s runs).sched = s.sched ∧ (State.markRuns s runs).flash = s.flash ∧ (State.markRuns s runs).store = s.store ∧ (State.markRuns s runs).power = s.power ∧ (State.markRuns s runs).mem = s.mem ∧ (State.markRuns s runs).cipher = s.cipher ∧ (State.markRuns s runs).engines = s.engines ∧ (State.markRuns s runs).admin = s.admin ∧ (State.markRuns s runs).staing = s.staing ∧ (State.markRuns s runs).security = s.security ∧ (State.markRuns s runs).pending = s.pending ∧ (State.markRuns s runs).now = s.now ∧ (State.markRuns s runs).bootAt = s.bootAt ∧ (State.markRuns s runs).free = s.free ∧ (State.markRuns s runs).out = s.out := by
  unfold State.markRuns
  simp

@[simp] theorem state_raise_frame (s : State) (f : Func) (e : AsyncEvent) :
    (State.raise s f e).dict = s.dict ∧ (State.raise s f e).modes = s.modes ∧ (State.raise s f e).sampler = s.sampler ∧ (State.raise s f e).cells = s.cells ∧ (State.raise s f e).sched = s.sched ∧ (State.raise s f e).flash = s.flash ∧ (State.raise s f e).store = s.store ∧ (State.raise s f e).power = s.power ∧ (State.raise s f e).mem = s.mem ∧ (State.raise s f e).cipher = s.cipher ∧ (State.raise s f e).engines = s.engines ∧ (State.raise s f e).admin = s.admin ∧ (State.raise s f e).staing = s.staing ∧ (State.raise s f e).security = s.security ∧ (State.raise s f e).migration = s.migration ∧ (State.raise s f e).pending = s.pending ∧ (State.raise s f e).now = s.now ∧ (State.raise s f e).bootAt = s.bootAt ∧ (State.raise s f e).free = s.free ∧ (State.raise s f e).out = s.out := by
  simp only [State.raise]
  (repeat' split) <;> simp

@[simp] theorem state_raiseAll_frame (s : State) (codes : List Nat) (e : AsyncEvent) :
    (State.raiseAll s codes e).dict = s.dict ∧ (State.raiseAll s codes e).modes = s.modes ∧ (State.raiseAll s codes e).sampler = s.sampler ∧ (State.raiseAll s codes e).cells = s.cells ∧ (State.raiseAll s codes e).sched = s.sched ∧ (State.raiseAll s codes e).flash = s.flash ∧ (State.raiseAll s codes e).store = s.store ∧ (State.raiseAll s codes e).power = s.power ∧ (State.raiseAll s codes e).mem = s.mem ∧ (State.raiseAll s codes e).cipher = s.cipher ∧ (State.raiseAll s codes e).engines = s.engines ∧ (State.raiseAll s codes e).admin = s.admin ∧ (State.raiseAll s codes e).staing = s.staing ∧ (State.raiseAll s codes e).security = s.security ∧ (State.raiseAll s codes e).migration = s.migration ∧ (State.raiseAll s codes e).pending = s.pending ∧ (State.raiseAll s codes e).now = s.now ∧ (State.raiseAll s codes e).bootAt = s.bootAt ∧ (State.raiseAll s codes e).free = s.free ∧ (State.raiseAll s codes e).out = s.out := by
  unfold State.raiseAll
  simp (disch := (intros; (repeat' split) <;> simp))

@[simp] theorem state_setCell_frame (s : State) (c : Nat) (x : CellSt) :
    (State.setCell s c x).dict = s.dict ∧ (State.setCell s c x).modes = s.modes ∧ (State.setCell s c x).sampler = s.sampler ∧ (State.setCell s c x).host = s.host ∧ (State.setCell s c x).sched = s.sched ∧ (State.setCell s c x).flash = s.flash ∧ (State.setCell s c x).store = s.store ∧ (State.setCell s c x).power = s.power ∧ (State.setCell s c x).mem = s.mem ∧ (State.setCell s c x).cipher = s.cipher ∧ (State.setCell s c x).engines = s.engines ∧ (State.setCell s c x).admin = s.admin ∧ (State.setCell s c x).staing = s.staing ∧ (State.setCell s c x).security = s.security ∧ (State.setCell s c x).migration = s.migration ∧ (State.setCell s c x).pending = s.pending ∧ (State.setCell s c x).now = s.now ∧ (State.setCell s c x).bootAt = s.bootAt ∧ (State.setCell s c x).free = s.free ∧ (State.setCell s c x).out = s.out := by
  unfold State.setCell
  simp

@[simp] theorem state_setQueue_frame (s : State) (k : Nat) (q : List WorkItem) :
    (State.setQueue s k q).dict = s.dict ∧ (State.setQueue s k q).modes = s.modes ∧ (State.setQueue s k q).sampler = s.sampler ∧ (State.setQueue s k q).host = s.host ∧ (State.setQueue s k q).sched = s.sched ∧ (State.setQueue s k q).flash = s.flash ∧ (State.setQueue s k q).store = s.store ∧ (State.setQueue s k q).power = s.power ∧ (State.setQueue s k q).mem = s.mem ∧ (State.setQueue s k q).cipher = s.cipher ∧ (State.setQueue s k q).engines = s.engines ∧ (State.setQueue s k q).admin = s.admin ∧ (State.setQueue s k q).staing = s.staing ∧ (State.setQueue s k q).security = s.security ∧ (State.setQueue s k q).migration = s.migration ∧ (State.setQueue s k q).pending = s.pending ∧ (State.setQueue s k q).now = s.now ∧ (State.setQueue s k q).bootAt = s.bootAt ∧ (State.setQueue s k q).free = s.free ∧ (State.setQueue s k q).out = s.out := by
  unfold State.setQueue
  simp

@[simp] theorem state_post_frame (s : State) (w : WorkItem) :
    (State.post s w).dict = s.dict ∧ (State.post s w).modes = s.modes ∧ (State.post s w).sampler = s.sampler ∧ (State.post s w).host = s.host ∧ (State.post s w).sched = s.sched ∧ (State.post s w).flash = s.flash ∧ (State.post s w).store = s.store ∧ (State.post s w).power = s.power ∧ (State.post s w).mem = s.mem ∧ (State.post s w).cipher = s.cipher ∧ (State.post s w).engines = s.engines ∧ (State.post s w).admin = s.admin ∧ (State.post s w).staing = s.staing ∧ (State.post s w).security = s.security ∧ (State.post s w).migration = s.migration ∧ (State.post s w).pending = s.pending ∧ (State.post s w).now = s.now ∧ (State.post s w).bootAt = s.bootAt ∧ (State.post s w).free = s.free ∧ (State.post s w).out = s.out := by
  unfold State.post
  simp

@[simp] theorem state_failWork_frame (s : State) (w : WorkItem) :
    (State.failWork s w).dict = s.dict ∧ (State.failWork s w).modes = s.modes ∧ (State.failWork s w).sampler = s.sampler ∧ (State.failWork s w).sched = s.sched ∧ (State.failWork s w).flash = s.flash ∧ (State.failWork s w).store = s.store ∧ (State.failWork s w).power = s.power ∧ (State.failWork s w).mem = s.mem ∧ (State.failWork s w).cipher = s.cipher ∧ (State.failWork s w).engines = s.engines ∧ (State.failWork s w).admin = s.admin ∧ (State.failWork s w).staing = s.staing ∧ (State.failWork s w).security = s.security ∧ (State.failWork s w).migration = s.migration ∧ (State.failWork s w).pending = s.pending ∧ (State.failWork s w).now = s.now ∧ (State.failWork s w).bootAt = s.bootAt ∧ (State.failWork s w).free = s.free ∧ (State.failWork s w).out = s.out := by
  unfold State.failWork
  (repeat' split) <;> simp

@[simp] theorem state_repostAfterFault_frame (s : State) (w : WorkItem) :
    (State.repostAfterFault s w).dict = s.dict ∧ (State.repostAfterFault s w).modes = s.modes ∧ (State.repostAfterFault s w).sampler = s.sampler ∧ (State.repostAfterFault s w).sched = s.sched ∧ (State.repostAfterFault s w).flash = s.flash ∧ (State.repostAfterFault s w).store = s.store ∧ (State.repostAfterFault s w).power = s.power ∧ (State.repostAfterFault s w).mem = s.mem ∧ (State.repostAfterFault s w).cipher = s.cipher ∧ (State.repostAfterFault s w).engines = s.engines ∧ (State.repostAfterFault s w).admin = s.admin ∧ (State.repostAfterFault s w).staing = s.staing ∧ (State.repostAfterFault s w).security = s.security ∧ (State.repostAfterFault s w).migration = s.migration ∧ (State.repostAfterFault s w).pending = s.pending ∧ (State.repostAfterFault s w).now = s.now ∧ (State.repostAfterFault s w).bootAt = s.bootAt ∧ (State.repostAfterFault s w).free = s.free ∧ (State.repostAfterFault s w).out = s.out := by
  unfold State.repostAfterFault
  simp

@[simp] theorem state_fenceCell_frame (s : State) (c : Nat) (reason : Nat) :
    (State.fenceCell s c reason).modes = s.modes ∧ (State.fenceCell s c reason).sched = s.sched ∧ (State.fenceCell s c reason).flash = s.flash ∧ (State.fenceCell s c reason).store = s.store ∧ (State.fenceCell s c reason).power = s.power ∧ (State.fenceCell s c reason).mem = s.mem ∧ (State.fenceCell s c reason).admin = s.admin ∧ (State.fenceCell s c reason).staing = s.staing ∧ (State.fenceCell s c reason).security = s.security ∧ (State.fenceCell s c reason).migration = s.migration ∧ (State.fenceCell s c reason).pending = s.pending ∧ (State.fenceCell s c reason).now = s.now ∧ (State.fenceCell s c reason).bootAt = s.bootAt ∧ (State.fenceCell s c reason).free = s.free ∧ (State.fenceCell s c reason).out = s.out ∧ (State.fenceCell s c reason).engines.windows = s.engines.windows := by
  unfold State.fenceCell
  (repeat' split) <;> simp

@[simp] theorem state_returnItem_frame (s : State) (w : WorkItem) (ok : Bool) :
    (State.returnItem s w ok).dict = s.dict ∧ (State.returnItem s w ok).modes = s.modes ∧ (State.returnItem s w ok).sampler = s.sampler ∧ (State.returnItem s w ok).sched = s.sched ∧ (State.returnItem s w ok).flash = s.flash ∧ (State.returnItem s w ok).store = s.store ∧ (State.returnItem s w ok).power = s.power ∧ (State.returnItem s w ok).mem = s.mem ∧ (State.returnItem s w ok).cipher = s.cipher ∧ (State.returnItem s w ok).engines = s.engines ∧ (State.returnItem s w ok).admin = s.admin ∧ (State.returnItem s w ok).staing = s.staing ∧ (State.returnItem s w ok).security = s.security ∧ (State.returnItem s w ok).migration = s.migration ∧ (State.returnItem s w ok).pending = s.pending ∧ (State.returnItem s w ok).now = s.now ∧ (State.returnItem s w ok).bootAt = s.bootAt ∧ (State.returnItem s w ok).free = s.free ∧ (State.returnItem s w ok).out = s.out := by
  unfold State.returnItem
  simp

@[simp] theorem state_commitRole_frame (s : State) (c : Nat) (role : Nat) :
    (State.commitRole s c role).modes = s.modes ∧ (State.commitRole s c role).sched = s.sched ∧ (State.commitRole s c role).flash = s.flash ∧ (State.commitRole s c role).store = s.store ∧ (State.commitRole s c role).power = s.power ∧ (State.commitRole s c role).mem = s.mem ∧ (State.commitRole s c role).admin = s.admin ∧ (State.commitRole s c role).staing = s.staing ∧ (State.commitRole s c role).security = s.security ∧ (State.commitRole s c role).migration = s.migration ∧ (State.commitRole s c role).pending = s.pending ∧ (State.commitRole s c role).now = s.now ∧ (State.commitRole s c role).bootAt = s.bootAt ∧ (State.commitRole s c role).free = s.free ∧ (State.commitRole s c role).out = s.out ∧ (State.commitRole s c role).engines.windows = s.engines.windows := by
  simp only [State.commitRole]
  (repeat' split) <;> simp

@[simp] theorem state_saveRole_frame (s : State) (c : Nat) (role : Nat) :
    (State.saveRole s c role).modes = s.modes ∧ (State.saveRole s c role).sampler = s.sampler ∧ (State.saveRole s c role).cells = s.cells ∧ (State.saveRole s c role).host = s.host ∧ (State.saveRole s c role).sched = s.sched ∧ (State.saveRole s c role).flash = s.flash ∧ (State.saveRole s c role).store = s.store ∧ (State.saveRole s c role).power = s.power ∧ (State.saveRole s c role).mem = s.mem ∧ (State.saveRole s c role).cipher = s.cipher ∧ (State.saveRole s c role).engines = s.engines ∧ (State.saveRole s c role).admin = s.admin ∧ (State.saveRole s c role).staing = s.staing ∧ (State.saveRole s c role).security = s.security ∧ (State.saveRole s c role).migration = s.migration ∧ (State.saveRole s c role).pending = s.pending ∧ (State.saveRole s c role).now = s.now ∧ (State.saveRole s c role).bootAt = s.bootAt ∧ (State.saveRole s c role).free = s.free ∧ (State.saveRole s c role).out = s.out := by
  unfold State.saveRole
  simp

@[simp] theorem state_promoteFor_frame (s : State) (cell : Nat) (role : Nat) :
    (State.promoteFor s cell role).modes = s.modes ∧ (State.promoteFor s cell role).host = s.host ∧ (State.promoteFor s cell role).sched = s.sched ∧ (State.promoteFor s cell role).flash = s.flash ∧ (State.promoteFor s cell role).store = s.store ∧ (State.promoteFor s cell role).power = s.power ∧ (State.promoteFor s cell role).mem = s.mem ∧ (State.promoteFor s cell role).cipher = s.cipher ∧ (State.promoteFor s cell role).engines = s.engines ∧ (State.promoteFor s cell role).admin = s.admin ∧ (State.promoteFor s cell role).staing = s.staing ∧ (State.promoteFor s cell role).security = s.security ∧ (State.promoteFor s cell role).migration = s.migration ∧ (State.promoteFor s cell role).pending = s.pending ∧ (State.promoteFor s cell role).now = s.now ∧ (State.promoteFor s cell role).bootAt = s.bootAt ∧ (State.promoteFor s cell role).free = s.free ∧ (State.promoteFor s cell role).out = s.out := by
  unfold State.promoteFor
  (repeat' split) <;> simp

@[simp] theorem state_promoteAll_frame (s : State) :
    (State.promoteAll s).modes = s.modes ∧ (State.promoteAll s).host = s.host ∧ (State.promoteAll s).sched = s.sched ∧ (State.promoteAll s).flash = s.flash ∧ (State.promoteAll s).store = s.store ∧ (State.promoteAll s).power = s.power ∧ (State.promoteAll s).mem = s.mem ∧ (State.promoteAll s).cipher = s.cipher ∧ (State.promoteAll s).engines = s.engines ∧ (State.promoteAll s).admin = s.admin ∧ (State.promoteAll s).staing = s.staing ∧ (State.promoteAll s).security = s.security ∧ (State.promoteAll s).migration = s.migration ∧ (State.promoteAll s).pending = s.pending ∧ (State.promoteAll s).now = s.now ∧ (State.promoteAll s).bootAt = s.bootAt ∧ (State.promoteAll s).free = s.free ∧ (State.promoteAll s).out = s.out := by
  unfold State.promoteAll
  simp

@[simp] theorem state_takeRole_frame (s : State) (c : Nat) :
    (State.takeRole s c).modes = s.modes ∧ (State.takeRole s c).sampler = s.sampler ∧ (State.takeRole s c).host = s.host ∧ (State.takeRole s c).sched = s.sched ∧ (State.takeRole s c).flash = s.flash ∧ (State.takeRole s c).store = s.store ∧ (State.takeRole s c).power = s.power ∧ (State.takeRole s c).mem = s.mem ∧ (State.takeRole s c).cipher = s.cipher ∧ (State.takeRole s c).engines = s.engines ∧ (State.takeRole s c).admin = s.admin ∧ (State.takeRole s c).staing = s.staing ∧ (State.takeRole s c).security = s.security ∧ (State.takeRole s c).migration = s.migration ∧ (State.takeRole s c).pending = s.pending ∧ (State.takeRole s c).now = s.now ∧ (State.takeRole s c).bootAt = s.bootAt ∧ (State.takeRole s c).free = s.free ∧ (State.takeRole s c).out = s.out := by
  simp only [State.takeRole]
  (repeat' split) <;> simp

@[simp] theorem state_cellsBoundary_frame (s : State) :
    (State.cellsBoundary s).modes = s.modes ∧ (State.cellsBoundary s).host = s.host ∧ (State.cellsBoundary s).sched = s.sched ∧ (State.cellsBoundary s).flash = s.flash ∧ (State.cellsBoundary s).store = s.store ∧ (State.cellsBoundary s).power = s.power ∧ (State.cellsBoundary s).mem = s.mem ∧ (State.cellsBoundary s).cipher = s.cipher ∧ (State.cellsBoundary s).engines = s.engines ∧ (State.cellsBoundary s).admin = s.admin ∧ (State.cellsBoundary s).staing = s.staing ∧ (State.cellsBoundary s).security = s.security ∧ (State.cellsBoundary s).migration = s.migration ∧ (State.cellsBoundary s).pending = s.pending ∧ (State.cellsBoundary s).now = s.now ∧ (State.cellsBoundary s).bootAt = s.bootAt ∧ (State.cellsBoundary s).free = s.free ∧ (State.cellsBoundary s).out = s.out := by
  unfold State.cellsBoundary
  simp

@[simp] theorem state_failDomain_frame (s : State) (d : Nat) :
    (State.failDomain s d).modes = s.modes ∧ (State.failDomain s d).sched = s.sched ∧ (State.failDomain s d).flash = s.flash ∧ (State.failDomain s d).store = s.store ∧ (State.failDomain s d).power = s.power ∧ (State.failDomain s d).mem = s.mem ∧ (State.failDomain s d).admin = s.admin ∧ (State.failDomain s d).staing = s.staing ∧ (State.failDomain s d).security = s.security ∧ (State.failDomain s d).migration = s.migration ∧ (State.failDomain s d).pending = s.pending ∧ (State.failDomain s d).now = s.now ∧ (State.failDomain s d).bootAt = s.bootAt ∧ (State.failDomain s d).free = s.free ∧ (State.failDomain s d).out = s.out ∧ (State.failDomain s d).engines.windows = s.engines.windows := by
  unfold State.failDomain
  simp

@[simp] theorem state_setDomain_frame (s : State) (d : Nat) (x : DomainSt) :
    (State.setDomain s d x).dict = s.dict ∧ (State.setDomain s d x).modes = s.modes ∧ (State.setDomain s d x).sampler = s.sampler ∧ (State.setDomain s d x).cells = s.cells ∧ (State.setDomain s d x).host = s.host ∧ (State.setDomain s d x).sched = s.sched ∧ (State.setDomain s d x).flash = s.flash ∧ (State.setDomain s d x).store = s.store ∧ (State.setDomain s d x).mem = s.mem ∧ (State.setDomain s d x).cipher = s.cipher ∧ (State.setDomain s d x).engines = s.engines ∧ (State.setDomain s d x).admin = s.admin ∧ (State.setDomain s d x).staing = s.staing ∧ (State.setDomain s d x).security = s.security ∧ (State.setDomain s d x).migration = s.migration ∧ (State.setDomain s d x).pending = s.pending ∧ (State.setDomain s d x).now = s.now ∧ (State.setDomain s d x).bootAt = s.bootAt ∧ (State.setDomain s d x).free = s.free ∧ (State.setDomain s d x).out = s.out := by
  unfold State.setDomain
  simp

@[simp] theorem state_setInput_frame (s : State) (k : Nat) (q : List Packet) :
    (State.setInput s k q).dict = s.dict ∧ (State.setInput s k q).modes = s.modes ∧ (State.setInput s k q).sampler = s.sampler ∧ (State.setInput s k q).host = s.host ∧ (State.setInput s k q).sched = s.sched ∧ (State.setInput s k q).flash = s.flash ∧ (State.setInput s k q).store = s.store ∧ (State.setInput s k q).power = s.power ∧ (State.setInput s k q).mem = s.mem ∧ (State.setInput s k q).cipher = s.cipher ∧ (State.setInput s k q).engines = s.engines ∧ (State.setInput s k q).admin = s.admin ∧ (State.setInput s k q).staing = s.staing ∧ (State.setInput s k q).security = s.security ∧ (State.setInput s k q).migration = s.migration ∧ (State.setInput s k q).pending = s.pending ∧ (State.setInput s k q).now = s.now ∧ (State.setInput s k q).bootAt = s.bootAt ∧ (State.setInput s k q).free = s.free ∧ (State.setInput s k q).out = s.out := by
  unfold State.setInput
  simp

@[simp] theorem state_ageHead_frame (s : State) (x : Nat) (y : Nat) (i : Nat) :
    (State.ageHead s x y i).dict = s.dict ∧ (State.ageHead s x y i).modes = s.modes ∧ (State.ageHead s x y i).sampler = s.sampler ∧ (State.ageHead s x y i).host = s.host ∧ (State.ageHead s x y i).sched = s.sched ∧ (State.ageHead s x y i).flash = s.flash ∧ (State.ageHead s x y i).store = s.store ∧ (State.ageHead s x y i).power = s.power ∧ (State.ageHead s x y i).mem = s.mem ∧ (State.ageHead s x y i).cipher = s.cipher ∧ (State.ageHead s x y i).engines = s.engines ∧ (State.ageHead s x y i).admin = s.admin ∧ (State.ageHead s x y i).staing = s.staing ∧ (State.ageHead s x y i).security = s.security ∧ (State.ageHead s x y i).migration = s.migration ∧ (State.ageHead s x y i).pending = s.pending ∧ (State.ageHead s x y i).now = s.now ∧ (State.ageHead s x y i).bootAt = s.bootAt ∧ (State.ageHead s x y i).free = s.free ∧ (State.ageHead s x y i).out = s.out := by
  simp only [State.ageHead]
  (repeat' split) <;> simp

@[simp] theorem state_deliver_frame (s : State) (p : Packet) :
    (State.deliver s p).dict = s.dict ∧ (State.deliver s p).modes = s.modes ∧ (State.deliver s p).sampler = s.sampler ∧ (State.deliver s p).host = s.host ∧ (State.deliver s p).sched = s.sched ∧ (State.deliver s p).flash = s.flash ∧ (State.deliver s p).store = s.store ∧ (State.deliver s p).power = s.power ∧ (State.deliver s p).mem = s.mem ∧ (State.deliver s p).cipher = s.cipher ∧ (State.deliver s p).engines = s.engines ∧ (State.deliver s p).admin = s.admin ∧ (State.deliver s p).staing = s.staing ∧ (State.deliver s p).security = s.security ∧ (State.deliver s p).migration = s.migration ∧ (State.deliver s p).pending = s.pending ∧ (State.deliver s p).now = s.now ∧ (State.deliver s p).bootAt = s.bootAt ∧ (State.deliver s p).free = s.free ∧ (State.deliver s p).out = s.out := by
  unfold State.deliver
  (repeat' split) <;> simp

@[simp] theorem state_grant_frame (s : State) (x : Nat) (y : Nat) (o : Nat) :
    (State.grant s x y o).dict = s.dict ∧ (State.grant s x y o).modes = s.modes ∧ (State.grant s x y o).sampler = s.sampler ∧ (State.grant s x y o).host = s.host ∧ (State.grant s x y o).sched = s.sched ∧ (State.grant s x y o).flash = s.flash ∧ (State.grant s x y o).store = s.store ∧ (State.grant s x y o).power = s.power ∧ (State.grant s x y o).mem = s.mem ∧ (State.grant s x y o).cipher = s.cipher ∧ (State.grant s x y o).engines = s.engines ∧ (State.grant s x y o).admin = s.admin ∧ (State.grant s x y o).staing = s.staing ∧ (State.grant s x y o).security = s.security ∧ (State.grant s x y o).migration = s.migration ∧ (State.grant s x y o).pending = s.pending ∧ (State.grant s x y o).now = s.now ∧ (State.grant s x y o).bootAt = s.bootAt ∧ (State.grant s x y o).free = s.free ∧ (State.grant s x y o).out = s.out := by
  simp only [State.grant]
  (repeat' split) <;> simp

@[simp] theorem state_grants_frame (s : State) (y0 : Nat) :
    (State.grants s y0).dict = s.dict ∧ (State.grants s y0).modes = s.modes ∧ (State.grants s y0).sampler = s.sampler ∧ (State.grants s y0).host = s.host ∧ (State.grants s y0).sched = s.sched ∧ (State.grants s y0).flash = s.flash ∧ (State.grants s y0).store = s.store ∧ (State.grants s y0).power = s.power ∧ (State.grants s y0).mem = s.mem ∧ (State.grants s y0).cipher = s.cipher ∧ (State.grants s y0).engines = s.engines ∧ (State.grants s y0).admin = s.admin ∧ (State.grants s y0).staing = s.staing ∧ (State.grants s y0).security = s.security ∧ (State.grants s y0).migration = s.migration ∧ (State.grants s y0).pending = s.pending ∧ (State.grants s y0).now = s.now ∧ (State.grants s y0).bootAt = s.bootAt ∧ (State.grants s y0).free = s.free ∧ (State.grants s y0).out = s.out := by
  induction y0 generalizing s <;> (unfold State.grants; grind [state_grant_frame])

@[simp] theorem state_settleFabric_frame (s : State) :
    (State.settleFabric s).dict = s.dict ∧ (State.settleFabric s).modes = s.modes ∧ (State.settleFabric s).sampler = s.sampler ∧ (State.settleFabric s).host = s.host ∧ (State.settleFabric s).sched = s.sched ∧ (State.settleFabric s).flash = s.flash ∧ (State.settleFabric s).store = s.store ∧ (State.settleFabric s).power = s.power ∧ (State.settleFabric s).mem = s.mem ∧ (State.settleFabric s).cipher = s.cipher ∧ (State.settleFabric s).engines = s.engines ∧ (State.settleFabric s).admin = s.admin ∧ (State.settleFabric s).staing = s.staing ∧ (State.settleFabric s).security = s.security ∧ (State.settleFabric s).migration = s.migration ∧ (State.settleFabric s).pending = s.pending ∧ (State.settleFabric s).now = s.now ∧ (State.settleFabric s).bootAt = s.bootAt ∧ (State.settleFabric s).free = s.free ∧ (State.settleFabric s).out = s.out := by
  unfold State.settleFabric
  simp

@[simp] theorem state_countLane_frame (s : State) (x : Nat) (y : Nat) (port : Nat) (lane : Nat) (hard : Bool) :
    (State.countLane s x y port lane hard).dict = s.dict ∧ (State.countLane s x y port lane hard).modes = s.modes ∧ (State.countLane s x y port lane hard).sampler = s.sampler ∧ (State.countLane s x y port lane hard).host = s.host ∧ (State.countLane s x y port lane hard).sched = s.sched ∧ (State.countLane s x y port lane hard).flash = s.flash ∧ (State.countLane s x y port lane hard).store = s.store ∧ (State.countLane s x y port lane hard).power = s.power ∧ (State.countLane s x y port lane hard).mem = s.mem ∧ (State.countLane s x y port lane hard).cipher = s.cipher ∧ (State.countLane s x y port lane hard).engines = s.engines ∧ (State.countLane s x y port lane hard).admin = s.admin ∧ (State.countLane s x y port lane hard).staing = s.staing ∧ (State.countLane s x y port lane hard).security = s.security ∧ (State.countLane s x y port lane hard).migration = s.migration ∧ (State.countLane s x y port lane hard).pending = s.pending ∧ (State.countLane s x y port lane hard).now = s.now ∧ (State.countLane s x y port lane hard).bootAt = s.bootAt ∧ (State.countLane s x y port lane hard).free = s.free ∧ (State.countLane s x y port lane hard).out = s.out := by
  unfold State.countLane
  simp

@[simp] theorem state_countBeat_frame (s : State) (x : Nat) (y : Nat) (port : Nat) (y0 : BeatErr) :
    (State.countBeat s x y port y0).dict = s.dict ∧ (State.countBeat s x y port y0).modes = s.modes ∧ (State.countBeat s x y port y0).sampler = s.sampler ∧ (State.countBeat s x y port y0).host = s.host ∧ (State.countBeat s x y port y0).sched = s.sched ∧ (State.countBeat s x y port y0).flash = s.flash ∧ (State.countBeat s x y port y0).store = s.store ∧ (State.countBeat s x y port y0).power = s.power ∧ (State.countBeat s x y port y0).mem = s.mem ∧ (State.countBeat s x y port y0).cipher = s.cipher ∧ (State.countBeat s x y port y0).engines = s.engines ∧ (State.countBeat s x y port y0).admin = s.admin ∧ (State.countBeat s x y port y0).staing = s.staing ∧ (State.countBeat s x y port y0).security = s.security ∧ (State.countBeat s x y port y0).migration = s.migration ∧ (State.countBeat s x y port y0).pending = s.pending ∧ (State.countBeat s x y port y0).now = s.now ∧ (State.countBeat s x y port y0).bootAt = s.bootAt ∧ (State.countBeat s x y port y0).free = s.free ∧ (State.countBeat s x y port y0).out = s.out := by
  unfold State.countBeat
  (repeat' split) <;> simp

@[simp] theorem state_inject_frame (s : State) (port : Nat) (p : Packet) :
    (State.inject s port p).dict = s.dict ∧ (State.inject s port p).modes = s.modes ∧ (State.inject s port p).sampler = s.sampler ∧ (State.inject s port p).host = s.host ∧ (State.inject s port p).sched = s.sched ∧ (State.inject s port p).flash = s.flash ∧ (State.inject s port p).store = s.store ∧ (State.inject s port p).power = s.power ∧ (State.inject s port p).mem = s.mem ∧ (State.inject s port p).cipher = s.cipher ∧ (State.inject s port p).engines = s.engines ∧ (State.inject s port p).admin = s.admin ∧ (State.inject s port p).staing = s.staing ∧ (State.inject s port p).security = s.security ∧ (State.inject s port p).migration = s.migration ∧ (State.inject s port p).pending = s.pending ∧ (State.inject s port p).now = s.now ∧ (State.inject s port p).bootAt = s.bootAt ∧ (State.inject s port p).free = s.free ∧ (State.inject s port p).out = s.out := by
  unfold State.inject
  (repeat' split) <;> simp

@[simp] theorem state_park_frame (s : State) (ds : List Nat) :
    (State.park s ds).dict = s.dict ∧ (State.park s ds).modes = s.modes ∧ (State.park s ds).sampler = s.sampler ∧ (State.park s ds).host = s.host ∧ (State.park s ds).sched = s.sched ∧ (State.park s ds).flash = s.flash ∧ (State.park s ds).store = s.store ∧ (State.park s ds).power = s.power ∧ (State.park s ds).mem = s.mem ∧ (State.park s ds).cipher = s.cipher ∧ (State.park s ds).engines = s.engines ∧ (State.park s ds).admin = s.admin ∧ (State.park s ds).staing = s.staing ∧ (State.park s ds).security = s.security ∧ (State.park s ds).migration = s.migration ∧ (State.park s ds).pending = s.pending ∧ (State.park s ds).now = s.now ∧ (State.park s ds).bootAt = s.bootAt ∧ (State.park s ds).free = s.free ∧ (State.park s ds).out = s.out := by
  unfold State.park
  simp

@[simp] theorem state_setPool_frame (s : State) (p : Nat) (x : PoolSt) :
    (State.setPool s p x).dict = s.dict ∧ (State.setPool s p x).modes = s.modes ∧ (State.setPool s p x).sampler = s.sampler ∧ (State.setPool s p x).cells = s.cells ∧ (State.setPool s p x).host = s.host ∧ (State.setPool s p x).sched = s.sched ∧ (State.setPool s p x).flash = s.flash ∧ (State.setPool s p x).store = s.store ∧ (State.setPool s p x).power = s.power ∧ (State.setPool s p x).mem = s.mem ∧ (State.setPool s p x).cipher = s.cipher ∧ (State.setPool s p x).admin = s.admin ∧ (State.setPool s p x).staing = s.staing ∧ (State.setPool s p x).security = s.security ∧ (State.setPool s p x).migration = s.migration ∧ (State.setPool s p x).pending = s.pending ∧ (State.setPool s p x).now = s.now ∧ (State.setPool s p x).bootAt = s.bootAt ∧ (State.setPool s p x).free = s.free ∧ (State.setPool s p x).out = s.out ∧ (State.setPool s p x).engines.windows = s.engines.windows := by
  unfold State.setPool
  simp

@[simp] theorem state_settlePool_frame (s : State) (p : Nat) :
    (State.settlePool s p).modes = s.modes ∧ (State.settlePool s p).cells = s.cells ∧ (State.settlePool s p).host = s.host ∧ (State.settlePool s p).sched = s.sched ∧ (State.settlePool s p).flash = s.flash ∧ (State.settlePool s p).store = s.store ∧ (State.settlePool s p).power = s.power ∧ (State.settlePool s p).mem = s.mem ∧ (State.settlePool s p).cipher = s.cipher ∧ (State.settlePool s p).admin = s.admin ∧ (State.settlePool s p).staing = s.staing ∧ (State.settlePool s p).security = s.security ∧ (State.settlePool s p).migration = s.migration ∧ (State.settlePool s p).pending = s.pending ∧ (State.settlePool s p).now = s.now ∧ (State.settlePool s p).bootAt = s.bootAt ∧ (State.settlePool s p).free = s.free ∧ (State.settlePool s p).out = s.out ∧ (State.settlePool s p).engines.windows = s.engines.windows := by
  unfold State.settlePool
  simp

@[simp] theorem state_passOver_frame (s : State) (f : Func) :
    (State.passOver s f).modes = s.modes ∧ (State.passOver s f).sampler = s.sampler ∧ (State.passOver s f).cells = s.cells ∧ (State.passOver s f).sched = s.sched ∧ (State.passOver s f).flash = s.flash ∧ (State.passOver s f).store = s.store ∧ (State.passOver s f).power = s.power ∧ (State.passOver s f).mem = s.mem ∧ (State.passOver s f).cipher = s.cipher ∧ (State.passOver s f).engines = s.engines ∧ (State.passOver s f).admin = s.admin ∧ (State.passOver s f).staing = s.staing ∧ (State.passOver s f).security = s.security ∧ (State.passOver s f).migration = s.migration ∧ (State.passOver s f).pending = s.pending ∧ (State.passOver s f).now = s.now ∧ (State.passOver s f).bootAt = s.bootAt ∧ (State.passOver s f).free = s.free ∧ (State.passOver s f).out = s.out := by
  unfold State.passOver
  (repeat' split) <;> simp

@[simp] theorem state_basketFault_frame (s : State) (p : Nat) (b : Nat) :
    (State.basketFault s p b).modes = s.modes ∧ (State.basketFault s p b).cells = s.cells ∧ (State.basketFault s p b).host = s.host ∧ (State.basketFault s p b).sched = s.sched ∧ (State.basketFault s p b).flash = s.flash ∧ (State.basketFault s p b).store = s.store ∧ (State.basketFault s p b).power = s.power ∧ (State.basketFault s p b).mem = s.mem ∧ (State.basketFault s p b).cipher = s.cipher ∧ (State.basketFault s p b).engines = s.engines ∧ (State.basketFault s p b).admin = s.admin ∧ (State.basketFault s p b).staing = s.staing ∧ (State.basketFault s p b).security = s.security ∧ (State.basketFault s p b).migration = s.migration ∧ (State.basketFault s p b).pending = s.pending ∧ (State.basketFault s p b).now = s.now ∧ (State.basketFault s p b).bootAt = s.bootAt ∧ (State.basketFault s p b).free = s.free ∧ (State.basketFault s p b).out = s.out := by
  unfold State.basketFault
  simp

@[simp] theorem state_countUse_frame (s : State) (p : Nat) (h : Option Nat) :
    (State.countUse s p h).modes = s.modes ∧ (State.countUse s p h).sampler = s.sampler ∧ (State.countUse s p h).cells = s.cells ∧ (State.countUse s p h).host = s.host ∧ (State.countUse s p h).sched = s.sched ∧ (State.countUse s p h).flash = s.flash ∧ (State.countUse s p h).store = s.store ∧ (State.countUse s p h).power = s.power ∧ (State.countUse s p h).mem = s.mem ∧ (State.countUse s p h).cipher = s.cipher ∧ (State.countUse s p h).engines = s.engines ∧ (State.countUse s p h).admin = s.admin ∧ (State.countUse s p h).staing = s.staing ∧ (State.countUse s p h).security = s.security ∧ (State.countUse s p h).migration = s.migration ∧ (State.countUse s p h).pending = s.pending ∧ (State.countUse s p h).now = s.now ∧ (State.countUse s p h).bootAt = s.bootAt ∧ (State.countUse s p h).free = s.free ∧ (State.countUse s p h).out = s.out := by
  unfold State.countUse
  (repeat' split) <;> simp

@[simp] theorem state_giveBuf_frame (s : State) (p : Nat) (b : Nat) (h : Nat) (agent : Option LockId) (x : PoolSt) :
    (State.giveBuf s p b h agent x).modes = s.modes ∧ (State.giveBuf s p b h agent x).cells = s.cells ∧ (State.giveBuf s p b h agent x).host = s.host ∧ (State.giveBuf s p b h agent x).sched = s.sched ∧ (State.giveBuf s p b h agent x).flash = s.flash ∧ (State.giveBuf s p b h agent x).store = s.store ∧ (State.giveBuf s p b h agent x).power = s.power ∧ (State.giveBuf s p b h agent x).mem = s.mem ∧ (State.giveBuf s p b h agent x).cipher = s.cipher ∧ (State.giveBuf s p b h agent x).admin = s.admin ∧ (State.giveBuf s p b h agent x).staing = s.staing ∧ (State.giveBuf s p b h agent x).security = s.security ∧ (State.giveBuf s p b h agent x).migration = s.migration ∧ (State.giveBuf s p b h agent x).pending = s.pending ∧ (State.giveBuf s p b h agent x).now = s.now ∧ (State.giveBuf s p b h agent x).bootAt = s.bootAt ∧ (State.giveBuf s p b h agent x).free = s.free ∧ (State.giveBuf s p b h agent x).out = s.out ∧ (State.giveBuf s p b h agent x).engines.windows = s.engines.windows := by
  unfold State.giveBuf
  simp

@[simp] theorem state_badLink_frame (s : State) (p : Nat) :
    (State.badLink s p).modes = s.modes ∧ (State.badLink s p).cells = s.cells ∧ (State.badLink s p).host = s.host ∧ (State.badLink s p).sched = s.sched ∧ (State.badLink s p).flash = s.flash ∧ (State.badLink s p).store = s.store ∧ (State.badLink s p).power = s.power ∧ (State.badLink s p).mem = s.mem ∧ (State.badLink s p).cipher = s.cipher ∧ (State.badLink s p).admin = s.admin ∧ (State.badLink s p).staing = s.staing ∧ (State.badLink s p).security = s.security ∧ (State.badLink s p).migration = s.migration ∧ (State.badLink s p).pending = s.pending ∧ (State.badLink s p).now = s.now ∧ (State.badLink s p).bootAt = s.bootAt ∧ (State.badLink s p).free = s.free ∧ (State.badLink s p).out = s.out ∧ (State.badLink s p).engines.windows = s.engines.windows := by
  unfold State.badLink
  (repeat' split) <;> simp

@[simp] theorem state_waitBuf_frame (s : State) (p : Nat) (h : Nat) :
    (State.waitBuf s p h).dict = s.dict ∧ (State.waitBuf s p h).modes = s.modes ∧ (State.waitBuf s p h).sampler = s.sampler ∧ (State.waitBuf s p h).cells = s.cells ∧ (State.waitBuf s p h).host = s.host ∧ (State.waitBuf s p h).sched = s.sched ∧ (State.waitBuf s p h).flash = s.flash ∧ (State.waitBuf s p h).store = s.store ∧ (State.waitBuf s p h).power = s.power ∧ (State.waitBuf s p h).mem = s.mem ∧ (State.waitBuf s p h).cipher = s.cipher ∧ (State.waitBuf s p h).admin = s.admin ∧ (State.waitBuf s p h).staing = s.staing ∧ (State.waitBuf s p h).security = s.security ∧ (State.waitBuf s p h).migration = s.migration ∧ (State.waitBuf s p h).pending = s.pending ∧ (State.waitBuf s p h).now = s.now ∧ (State.waitBuf s p h).bootAt = s.bootAt ∧ (State.waitBuf s p h).free = s.free ∧ (State.waitBuf s p h).out = s.out ∧ (State.waitBuf s p h).engines.windows = s.engines.windows := by
  unfold State.waitBuf
  simp

@[simp] theorem state_allocate_frame (s : State) (p : Nat) (h : Nat) (agent : Option LockId) :
    (State.allocate s p h agent).modes = s.modes ∧ (State.allocate s p h agent).cells = s.cells ∧ (State.allocate s p h agent).host = s.host ∧ (State.allocate s p h agent).sched = s.sched ∧ (State.allocate s p h agent).flash = s.flash ∧ (State.allocate s p h agent).store = s.store ∧ (State.allocate s p h agent).power = s.power ∧ (State.allocate s p h agent).mem = s.mem ∧ (State.allocate s p h agent).cipher = s.cipher ∧ (State.allocate s p h agent).admin = s.admin ∧ (State.allocate s p h agent).staing = s.staing ∧ (State.allocate s p h agent).security = s.security ∧ (State.allocate s p h agent).migration = s.migration ∧ (State.allocate s p h agent).pending = s.pending ∧ (State.allocate s p h agent).now = s.now ∧ (State.allocate s p h agent).bootAt = s.bootAt ∧ (State.allocate s p h agent).free = s.free ∧ (State.allocate s p h agent).out = s.out ∧ (State.allocate s p h agent).engines.windows = s.engines.windows := by
  unfold State.allocate
  (repeat' split) <;> simp

@[simp] theorem state_releaseRef_frame (s : State) (pool : Nat) (buf : Nat) (y : BufSt) (f : Option Nat) (fence : Bool) :
    (State.releaseRef s pool buf y f fence).modes = s.modes ∧ (State.releaseRef s pool buf y f fence).cells = s.cells ∧ (State.releaseRef s pool buf y f fence).host = s.host ∧ (State.releaseRef s pool buf y f fence).sched = s.sched ∧ (State.releaseRef s pool buf y f fence).flash = s.flash ∧ (State.releaseRef s pool buf y f fence).store = s.store ∧ (State.releaseRef s pool buf y f fence).power = s.power ∧ (State.releaseRef s pool buf y f fence).mem = s.mem ∧ (State.releaseRef s pool buf y f fence).cipher = s.cipher ∧ (State.releaseRef s pool buf y f fence).admin = s.admin ∧ (State.releaseRef s pool buf y f fence).staing = s.staing ∧ (State.releaseRef s pool buf y f fence).security = s.security ∧ (State.releaseRef s pool buf y f fence).migration = s.migration ∧ (State.releaseRef s pool buf y f fence).pending = s.pending ∧ (State.releaseRef s pool buf y f fence).now = s.now ∧ (State.releaseRef s pool buf y f fence).bootAt = s.bootAt ∧ (State.releaseRef s pool buf y f fence).free = s.free ∧ (State.releaseRef s pool buf y f fence).out = s.out ∧ (State.releaseRef s pool buf y f fence).engines.windows = s.engines.windows := by
  simp only [State.releaseRef]
  (repeat' split) <;> simp

@[simp] theorem state_releaseStale_frame (s : State) (n : Nat) (gen : Nat) :
    (State.releaseStale s n gen).modes = s.modes ∧ (State.releaseStale s n gen).cells = s.cells ∧ (State.releaseStale s n gen).host = s.host ∧ (State.releaseStale s n gen).sched = s.sched ∧ (State.releaseStale s n gen).flash = s.flash ∧ (State.releaseStale s n gen).store = s.store ∧ (State.releaseStale s n gen).power = s.power ∧ (State.releaseStale s n gen).mem = s.mem ∧ (State.releaseStale s n gen).cipher = s.cipher ∧ (State.releaseStale s n gen).admin = s.admin ∧ (State.releaseStale s n gen).staing = s.staing ∧ (State.releaseStale s n gen).security = s.security ∧ (State.releaseStale s n gen).migration = s.migration ∧ (State.releaseStale s n gen).pending = s.pending ∧ (State.releaseStale s n gen).now = s.now ∧ (State.releaseStale s n gen).bootAt = s.bootAt ∧ (State.releaseStale s n gen).free = s.free ∧ (State.releaseStale s n gen).out = s.out ∧ (State.releaseStale s n gen).engines.windows = s.engines.windows := by
  unfold State.releaseStale
  and_intros
  all_goals (repeat' first | rfl | assumption | (intros; trivial) | (dsimp only; done) | (intro _) | split | (first | refine (foldl_dict _ _ _ ?_).trans ?_ | refine (foldl_modes _ _ _ ?_).trans ?_ | refine (foldl_sampler _ _ _ ?_).trans ?_ | refine (foldl_cells _ _ _ ?_).trans ?_ | refine (foldl_host _ _ _ ?_).trans ?_ | refine (foldl_sched _ _ _ ?_).trans ?_ | refine (foldl_flash _ _ _ ?_).trans ?_ | refine (foldl_store _ _ _ ?_).trans ?_ | refine (foldl_power _ _ _ ?_).trans ?_ | refine (foldl_mem _ _ _ ?_).trans ?_ | refine (foldl_cipher _ _ _ ?_).trans ?_ | refine (foldl_engines _ _ _ ?_).trans ?_ | refine (foldl_admin _ _ _ ?_).trans ?_ | refine (foldl_staing _ _ _ ?_).trans ?_ | refine (foldl_security _ _ _ ?_).trans ?_ | refine (foldl_migration _ _ _ ?_).trans ?_ | refine (foldl_pending _ _ _ ?_).trans ?_ | refine (foldl_now _ _ _ ?_).trans ?_ | refine (foldl_bootAt _ _ _ ?_).trans ?_ | refine (foldl_free _ _ _ ?_).trans ?_ | refine (foldl_out _ _ _ ?_).trans ?_ | refine (foldl_mem_dram _ _ _ ?_).trans ?_ | refine (foldl_engines_windows _ _ _ ?_).trans ?_) | (simp; done) | simp)

@[simp] theorem state_freshPools_frame (s : State) (all : Bool) :
    (State.freshPools s all).dict = s.dict ∧ (State.freshPools s all).modes = s.modes ∧ (State.freshPools s all).sampler = s.sampler ∧ (State.freshPools s all).cells = s.cells ∧ (State.freshPools s all).host = s.host ∧ (State.freshPools s all).sched = s.sched ∧ (State.freshPools s all).flash = s.flash ∧ (State.freshPools s all).store = s.store ∧ (State.freshPools s all).power = s.power ∧ (State.freshPools s all).mem = s.mem ∧ (State.freshPools s all).cipher = s.cipher ∧ (State.freshPools s all).admin = s.admin ∧ (State.freshPools s all).staing = s.staing ∧ (State.freshPools s all).security = s.security ∧ (State.freshPools s all).migration = s.migration ∧ (State.freshPools s all).pending = s.pending ∧ (State.freshPools s all).now = s.now ∧ (State.freshPools s all).bootAt = s.bootAt ∧ (State.freshPools s all).free = s.free ∧ (State.freshPools s all).out = s.out ∧ (State.freshPools s all).engines.windows = s.engines.windows := by
  unfold State.freshPools
  simp

@[simp] theorem state_stopSummary_frame (s : State) (y0 : Func) :
    (State.stopSummary s y0).dict = s.dict ∧ (State.stopSummary s y0).modes = s.modes ∧ (State.stopSummary s y0).sampler = s.sampler ∧ (State.stopSummary s y0).cells = s.cells ∧ (State.stopSummary s y0).sched = s.sched ∧ (State.stopSummary s y0).flash = s.flash ∧ (State.stopSummary s y0).store = s.store ∧ (State.stopSummary s y0).power = s.power ∧ (State.stopSummary s y0).mem = s.mem ∧ (State.stopSummary s y0).cipher = s.cipher ∧ (State.stopSummary s y0).engines = s.engines ∧ (State.stopSummary s y0).admin = s.admin ∧ (State.stopSummary s y0).staing = s.staing ∧ (State.stopSummary s y0).security = s.security ∧ (State.stopSummary s y0).migration = s.migration ∧ (State.stopSummary s y0).pending = s.pending ∧ (State.stopSummary s y0).now = s.now ∧ (State.stopSummary s y0).bootAt = s.bootAt ∧ (State.stopSummary s y0).free = s.free ∧ (State.stopSummary s y0).out = s.out := by
  unfold State.stopSummary
  (repeat' split) <;> simp

@[simp] theorem state_dropStaging_frame (s : State) (f : Func) :
    (State.dropStaging s f).modes = s.modes ∧ (State.dropStaging s f).sampler = s.sampler ∧ (State.dropStaging s f).cells = s.cells ∧ (State.dropStaging s f).host = s.host ∧ (State.dropStaging s f).sched = s.sched ∧ (State.dropStaging s f).flash = s.flash ∧ (State.dropStaging s f).store = s.store ∧ (State.dropStaging s f).power = s.power ∧ (State.dropStaging s f).mem = s.mem ∧ (State.dropStaging s f).cipher = s.cipher ∧ (State.dropStaging s f).engines = s.engines ∧ (State.dropStaging s f).admin = s.admin ∧ (State.dropStaging s f).staing = s.staing ∧ (State.dropStaging s f).security = s.security ∧ (State.dropStaging s f).migration = s.migration ∧ (State.dropStaging s f).pending = s.pending ∧ (State.dropStaging s f).now = s.now ∧ (State.dropStaging s f).bootAt = s.bootAt ∧ (State.dropStaging s f).free = s.free ∧ (State.dropStaging s f).out = s.out := by
  unfold State.dropStaging
  simp

@[simp] theorem state_endTest_frame (s : State) (result : Nat) :
    (State.endTest s result).cells = s.cells ∧ (State.endTest s result).host = s.host ∧ (State.endTest s result).sched = s.sched ∧ (State.endTest s result).flash = s.flash ∧ (State.endTest s result).store = s.store ∧ (State.endTest s result).power = s.power ∧ (State.endTest s result).mem = s.mem ∧ (State.endTest s result).cipher = s.cipher ∧ (State.endTest s result).engines = s.engines ∧ (State.endTest s result).staing = s.staing ∧ (State.endTest s result).security = s.security ∧ (State.endTest s result).migration = s.migration ∧ (State.endTest s result).pending = s.pending ∧ (State.endTest s result).now = s.now ∧ (State.endTest s result).bootAt = s.bootAt ∧ (State.endTest s result).free = s.free ∧ (State.endTest s result).out = s.out := by
  unfold State.endTest
  (repeat' split) <;> simp

@[simp] theorem state_emptyStaging_frame (s : State) (p : Nat) :
    (State.emptyStaging s p).dict = s.dict ∧ (State.emptyStaging s p).modes = s.modes ∧ (State.emptyStaging s p).sampler = s.sampler ∧ (State.emptyStaging s p).cells = s.cells ∧ (State.emptyStaging s p).host = s.host ∧ (State.emptyStaging s p).sched = s.sched ∧ (State.emptyStaging s p).flash = s.flash ∧ (State.emptyStaging s p).store = s.store ∧ (State.emptyStaging s p).power = s.power ∧ (State.emptyStaging s p).mem = s.mem ∧ (State.emptyStaging s p).cipher = s.cipher ∧ (State.emptyStaging s p).staing = s.staing ∧ (State.emptyStaging s p).security = s.security ∧ (State.emptyStaging s p).migration = s.migration ∧ (State.emptyStaging s p).pending = s.pending ∧ (State.emptyStaging s p).now = s.now ∧ (State.emptyStaging s p).bootAt = s.bootAt ∧ (State.emptyStaging s p).free = s.free ∧ (State.emptyStaging s p).out = s.out := by
  unfold State.emptyStaging
  simp

@[simp] theorem state_stopChannels_frame (s : State) (f : Func) (row : Nat) :
    (State.stopChannels s f row).dict = s.dict ∧ (State.stopChannels s f row).modes = s.modes ∧ (State.stopChannels s f row).sampler = s.sampler ∧ (State.stopChannels s f row).cells = s.cells ∧ (State.stopChannels s f row).host = s.host ∧ (State.stopChannels s f row).sched = s.sched ∧ (State.stopChannels s f row).flash = s.flash ∧ (State.stopChannels s f row).store = s.store ∧ (State.stopChannels s f row).power = s.power ∧ (State.stopChannels s f row).mem = s.mem ∧ (State.stopChannels s f row).cipher = s.cipher ∧ (State.stopChannels s f row).admin = s.admin ∧ (State.stopChannels s f row).staing = s.staing ∧ (State.stopChannels s f row).security = s.security ∧ (State.stopChannels s f row).migration = s.migration ∧ (State.stopChannels s f row).pending = s.pending ∧ (State.stopChannels s f row).now = s.now ∧ (State.stopChannels s f row).bootAt = s.bootAt ∧ (State.stopChannels s f row).free = s.free ∧ (State.stopChannels s f row).out = s.out ∧ (State.stopChannels s f row).engines.windows = s.engines.windows := by
  unfold State.stopChannels
  (repeat' split) <;> simp

@[simp] theorem state_fenceManager_frame (s : State) (f : Func) (row : Nat) :
    (State.fenceManager s f row).cells = s.cells ∧ (State.fenceManager s f row).host = s.host ∧ (State.fenceManager s f row).sched = s.sched ∧ (State.fenceManager s f row).flash = s.flash ∧ (State.fenceManager s f row).store = s.store ∧ (State.fenceManager s f row).power = s.power ∧ (State.fenceManager s f row).mem = s.mem ∧ (State.fenceManager s f row).cipher = s.cipher ∧ (State.fenceManager s f row).staing = s.staing ∧ (State.fenceManager s f row).security = s.security ∧ (State.fenceManager s f row).migration = s.migration ∧ (State.fenceManager s f row).pending = s.pending ∧ (State.fenceManager s f row).now = s.now ∧ (State.fenceManager s f row).bootAt = s.bootAt ∧ (State.fenceManager s f row).free = s.free ∧ (State.fenceManager s f row).out = s.out := by
  unfold State.fenceManager
  simp

@[simp] theorem state_settleFreeze_frame (s : State) :
    (State.settleFreeze s).cells = s.cells ∧ (State.settleFreeze s).host = s.host ∧ (State.settleFreeze s).sched = s.sched ∧ (State.settleFreeze s).flash = s.flash ∧ (State.settleFreeze s).store = s.store ∧ (State.settleFreeze s).power = s.power ∧ (State.settleFreeze s).mem = s.mem ∧ (State.settleFreeze s).cipher = s.cipher ∧ (State.settleFreeze s).engines = s.engines ∧ (State.settleFreeze s).admin = s.admin ∧ (State.settleFreeze s).staing = s.staing ∧ (State.settleFreeze s).security = s.security ∧ (State.settleFreeze s).migration = s.migration ∧ (State.settleFreeze s).pending = s.pending ∧ (State.settleFreeze s).now = s.now ∧ (State.settleFreeze s).bootAt = s.bootAt ∧ (State.settleFreeze s).free = s.free ∧ (State.settleFreeze s).out = s.out := by
  unfold State.settleFreeze
  simp

@[simp] theorem state_endFreeze_frame (s : State) (n : Nat) (st : Status) :
    (State.endFreeze s n st).modes = s.modes ∧ (State.endFreeze s n st).sampler = s.sampler ∧ (State.endFreeze s n st).cells = s.cells ∧ (State.endFreeze s n st).sched = s.sched ∧ (State.endFreeze s n st).flash = s.flash ∧ (State.endFreeze s n st).store = s.store ∧ (State.endFreeze s n st).power = s.power ∧ (State.endFreeze s n st).mem = s.mem ∧ (State.endFreeze s n st).cipher = s.cipher ∧ (State.endFreeze s n st).engines = s.engines ∧ (State.endFreeze s n st).admin = s.admin ∧ (State.endFreeze s n st).staing = s.staing ∧ (State.endFreeze s n st).security = s.security ∧ (State.endFreeze s n st).pending = s.pending ∧ (State.endFreeze s n st).now = s.now ∧ (State.endFreeze s n st).bootAt = s.bootAt ∧ (State.endFreeze s n st).free = s.free ∧ (State.endFreeze s n st).out = s.out := by
  unfold State.endFreeze
  (repeat' split) <;> simp

@[simp] theorem state_dropFreeze_frame (s : State) (n : Nat) :
    (State.dropFreeze s n).modes = s.modes ∧ (State.dropFreeze s n).sampler = s.sampler ∧ (State.dropFreeze s n).cells = s.cells ∧ (State.dropFreeze s n).sched = s.sched ∧ (State.dropFreeze s n).flash = s.flash ∧ (State.dropFreeze s n).store = s.store ∧ (State.dropFreeze s n).power = s.power ∧ (State.dropFreeze s n).mem = s.mem ∧ (State.dropFreeze s n).cipher = s.cipher ∧ (State.dropFreeze s n).admin = s.admin ∧ (State.dropFreeze s n).staing = s.staing ∧ (State.dropFreeze s n).security = s.security ∧ (State.dropFreeze s n).pending = s.pending ∧ (State.dropFreeze s n).now = s.now ∧ (State.dropFreeze s n).bootAt = s.bootAt ∧ (State.dropFreeze s n).free = s.free ∧ (State.dropFreeze s n).out = s.out := by
  unfold State.dropFreeze
  simp

@[simp] theorem state_fence_frame (s : State) (f : Func) (row : Nat) (vfClear : Bool) :
    (State.fence s f row vfClear).cells = s.cells ∧ (State.fence s f row vfClear).sched = s.sched ∧ (State.fence s f row vfClear).flash = s.flash ∧ (State.fence s f row vfClear).power = s.power ∧ (State.fence s f row vfClear).mem = s.mem ∧ (State.fence s f row vfClear).cipher = s.cipher ∧ (State.fence s f row vfClear).staing = s.staing ∧ (State.fence s f row vfClear).security = s.security ∧ (State.fence s f row vfClear).pending = s.pending ∧ (State.fence s f row vfClear).now = s.now ∧ (State.fence s f row vfClear).bootAt = s.bootAt ∧ (State.fence s f row vfClear).free = s.free ∧ (State.fence s f row vfClear).out = s.out := by
  simp only [State.fence]
  (repeat' split) <;> simp

@[simp] theorem state_fenceInstances_frame (s : State) (p : Port) (row : Nat) (vfClear : Bool) :
    (State.fenceInstances s p row vfClear).cells = s.cells ∧ (State.fenceInstances s p row vfClear).sched = s.sched ∧ (State.fenceInstances s p row vfClear).flash = s.flash ∧ (State.fenceInstances s p row vfClear).power = s.power ∧ (State.fenceInstances s p row vfClear).mem = s.mem ∧ (State.fenceInstances s p row vfClear).cipher = s.cipher ∧ (State.fenceInstances s p row vfClear).staing = s.staing ∧ (State.fenceInstances s p row vfClear).security = s.security ∧ (State.fenceInstances s p row vfClear).pending = s.pending ∧ (State.fenceInstances s p row vfClear).now = s.now ∧ (State.fenceInstances s p row vfClear).bootAt = s.bootAt ∧ (State.fenceInstances s p row vfClear).free = s.free ∧ (State.fenceInstances s p row vfClear).out = s.out := by
  unfold State.fenceInstances
  simp (disch := (intros; (repeat' split) <;> simp))

@[simp] theorem state_fencePort_frame (s : State) (p : Port) (row : Nat) (vfClear : Bool) :
    (State.fencePort s p row vfClear).cells = s.cells ∧ (State.fencePort s p row vfClear).sched = s.sched ∧ (State.fencePort s p row vfClear).flash = s.flash ∧ (State.fencePort s p row vfClear).power = s.power ∧ (State.fencePort s p row vfClear).mem = s.mem ∧ (State.fencePort s p row vfClear).cipher = s.cipher ∧ (State.fencePort s p row vfClear).staing = s.staing ∧ (State.fencePort s p row vfClear).security = s.security ∧ (State.fencePort s p row vfClear).pending = s.pending ∧ (State.fencePort s p row vfClear).now = s.now ∧ (State.fencePort s p row vfClear).bootAt = s.bootAt ∧ (State.fencePort s p row vfClear).free = s.free ∧ (State.fencePort s p row vfClear).out = s.out := by
  unfold State.fencePort
  simp

@[simp] theorem state_endFactory_frame (s : State) :
    (State.endFactory s).cells = s.cells ∧ (State.endFactory s).host = s.host ∧ (State.endFactory s).sched = s.sched ∧ (State.endFactory s).flash = s.flash ∧ (State.endFactory s).store = s.store ∧ (State.endFactory s).power = s.power ∧ (State.endFactory s).mem = s.mem ∧ (State.endFactory s).cipher = s.cipher ∧ (State.endFactory s).engines = s.engines ∧ (State.endFactory s).admin = s.admin ∧ (State.endFactory s).staing = s.staing ∧ (State.endFactory s).security = s.security ∧ (State.endFactory s).migration = s.migration ∧ (State.endFactory s).pending = s.pending ∧ (State.endFactory s).now = s.now ∧ (State.endFactory s).bootAt = s.bootAt ∧ (State.endFactory s).free = s.free ∧ (State.endFactory s).out = s.out := by
  unfold State.endFactory
  simp

@[simp] theorem state_dropLink_frame (s : State) (p : Port) :
    (State.dropLink s p).dict = s.dict ∧ (State.dropLink s p).modes = s.modes ∧ (State.dropLink s p).sampler = s.sampler ∧ (State.dropLink s p).cells = s.cells ∧ (State.dropLink s p).sched = s.sched ∧ (State.dropLink s p).flash = s.flash ∧ (State.dropLink s p).store = s.store ∧ (State.dropLink s p).power = s.power ∧ (State.dropLink s p).mem = s.mem ∧ (State.dropLink s p).cipher = s.cipher ∧ (State.dropLink s p).engines = s.engines ∧ (State.dropLink s p).admin = s.admin ∧ (State.dropLink s p).staing = s.staing ∧ (State.dropLink s p).security = s.security ∧ (State.dropLink s p).migration = s.migration ∧ (State.dropLink s p).pending = s.pending ∧ (State.dropLink s p).now = s.now ∧ (State.dropLink s p).bootAt = s.bootAt ∧ (State.dropLink s p).free = s.free ∧ (State.dropLink s p).out = s.out := by
  unfold State.dropLink
  simp

@[simp] theorem state_setRunning_frame (s : State) (slot : Nat) (i : ImageHeader) :
    (State.setRunning s slot i).modes = s.modes ∧ (State.setRunning s slot i).sampler = s.sampler ∧ (State.setRunning s slot i).cells = s.cells ∧ (State.setRunning s slot i).host = s.host ∧ (State.setRunning s slot i).sched = s.sched ∧ (State.setRunning s slot i).flash = s.flash ∧ (State.setRunning s slot i).store = s.store ∧ (State.setRunning s slot i).power = s.power ∧ (State.setRunning s slot i).mem = s.mem ∧ (State.setRunning s slot i).cipher = s.cipher ∧ (State.setRunning s slot i).engines = s.engines ∧ (State.setRunning s slot i).staing = s.staing ∧ (State.setRunning s slot i).security = s.security ∧ (State.setRunning s slot i).migration = s.migration ∧ (State.setRunning s slot i).pending = s.pending ∧ (State.setRunning s slot i).now = s.now ∧ (State.setRunning s slot i).bootAt = s.bootAt ∧ (State.setRunning s slot i).free = s.free ∧ (State.setRunning s slot i).out = s.out := by
  unfold State.setRunning
  simp

@[simp] theorem state_raiseArb_frame (s : State) :
    (State.raiseArb s).modes = s.modes ∧ (State.raiseArb s).sampler = s.sampler ∧ (State.raiseArb s).cells = s.cells ∧ (State.raiseArb s).host = s.host ∧ (State.raiseArb s).sched = s.sched ∧ (State.raiseArb s).flash = s.flash ∧ (State.raiseArb s).store = s.store ∧ (State.raiseArb s).power = s.power ∧ (State.raiseArb s).mem = s.mem ∧ (State.raiseArb s).cipher = s.cipher ∧ (State.raiseArb s).engines = s.engines ∧ (State.raiseArb s).admin = s.admin ∧ (State.raiseArb s).staing = s.staing ∧ (State.raiseArb s).security = s.security ∧ (State.raiseArb s).migration = s.migration ∧ (State.raiseArb s).pending = s.pending ∧ (State.raiseArb s).now = s.now ∧ (State.raiseArb s).bootAt = s.bootAt ∧ (State.raiseArb s).free = s.free ∧ (State.raiseArb s).out = s.out := by
  unfold State.raiseArb
  simp

@[simp] theorem state_activate_frame (s : State) (slot : Nat) :
    (State.activate s slot).modes = s.modes ∧ (State.activate s slot).sampler = s.sampler ∧ (State.activate s slot).cells = s.cells ∧ (State.activate s slot).host = s.host ∧ (State.activate s slot).sched = s.sched ∧ (State.activate s slot).flash = s.flash ∧ (State.activate s slot).store = s.store ∧ (State.activate s slot).power = s.power ∧ (State.activate s slot).mem = s.mem ∧ (State.activate s slot).cipher = s.cipher ∧ (State.activate s slot).engines = s.engines ∧ (State.activate s slot).staing = s.staing ∧ (State.activate s slot).migration = s.migration ∧ (State.activate s slot).pending = s.pending ∧ (State.activate s slot).now = s.now ∧ (State.activate s slot).bootAt = s.bootAt ∧ (State.activate s slot).free = s.free ∧ (State.activate s slot).out = s.out := by
  unfold State.activate
  (repeat' split) <;> simp

@[simp] theorem state_activateAtReset_frame (s : State) :
    (State.activateAtReset s).modes = s.modes ∧ (State.activateAtReset s).sampler = s.sampler ∧ (State.activateAtReset s).cells = s.cells ∧ (State.activateAtReset s).host = s.host ∧ (State.activateAtReset s).sched = s.sched ∧ (State.activateAtReset s).flash = s.flash ∧ (State.activateAtReset s).store = s.store ∧ (State.activateAtReset s).power = s.power ∧ (State.activateAtReset s).mem = s.mem ∧ (State.activateAtReset s).cipher = s.cipher ∧ (State.activateAtReset s).engines = s.engines ∧ (State.activateAtReset s).staing = s.staing ∧ (State.activateAtReset s).migration = s.migration ∧ (State.activateAtReset s).pending = s.pending ∧ (State.activateAtReset s).now = s.now ∧ (State.activateAtReset s).bootAt = s.bootAt ∧ (State.activateAtReset s).free = s.free ∧ (State.activateAtReset s).out = s.out := by
  unfold State.activateAtReset
  (repeat' split) <;> simp

@[simp] theorem state_subsystemReset_frame (s : State) :
    (State.subsystemReset s).cells = s.cells ∧ (State.subsystemReset s).sched = s.sched ∧ (State.subsystemReset s).flash = s.flash ∧ (State.subsystemReset s).power = s.power ∧ (State.subsystemReset s).mem = s.mem ∧ (State.subsystemReset s).cipher = s.cipher ∧ (State.subsystemReset s).staing = s.staing ∧ (State.subsystemReset s).security = s.security ∧ (State.subsystemReset s).pending = s.pending ∧ (State.subsystemReset s).now = s.now ∧ (State.subsystemReset s).bootAt = s.bootAt ∧ (State.subsystemReset s).free = s.free ∧ (State.subsystemReset s).out = s.out := by
  unfold State.subsystemReset
  simp

@[simp] theorem state_returnContexts_frame (s : State) (f : Func) :
    (State.returnContexts s f).dict = s.dict ∧ (State.returnContexts s f).modes = s.modes ∧ (State.returnContexts s f).sampler = s.sampler ∧ (State.returnContexts s f).cells = s.cells ∧ (State.returnContexts s f).sched = s.sched ∧ (State.returnContexts s f).flash = s.flash ∧ (State.returnContexts s f).store = s.store ∧ (State.returnContexts s f).power = s.power ∧ (State.returnContexts s f).mem = s.mem ∧ (State.returnContexts s f).cipher = s.cipher ∧ (State.returnContexts s f).engines = s.engines ∧ (State.returnContexts s f).admin = s.admin ∧ (State.returnContexts s f).staing = s.staing ∧ (State.returnContexts s f).security = s.security ∧ (State.returnContexts s f).pending = s.pending ∧ (State.returnContexts s f).now = s.now ∧ (State.returnContexts s f).bootAt = s.bootAt ∧ (State.returnContexts s f).free = s.free ∧ (State.returnContexts s f).out = s.out := by
  unfold State.returnContexts
  simp

@[simp] theorem state_bringUp_frame (s : State) (n : Nat) :
    (State.bringUp s n).modes = s.modes ∧ (State.bringUp s n).sampler = s.sampler ∧ (State.bringUp s n).cells = s.cells ∧ (State.bringUp s n).sched = s.sched ∧ (State.bringUp s n).flash = s.flash ∧ (State.bringUp s n).store = s.store ∧ (State.bringUp s n).power = s.power ∧ (State.bringUp s n).mem = s.mem ∧ (State.bringUp s n).cipher = s.cipher ∧ (State.bringUp s n).engines = s.engines ∧ (State.bringUp s n).admin = s.admin ∧ (State.bringUp s n).staing = s.staing ∧ (State.bringUp s n).security = s.security ∧ (State.bringUp s n).migration = s.migration ∧ (State.bringUp s n).pending = s.pending ∧ (State.bringUp s n).now = s.now ∧ (State.bringUp s n).bootAt = s.bootAt ∧ (State.bringUp s n).free = s.free ∧ (State.bringUp s n).out = s.out := by
  unfold State.bringUp
  simp

theorem state_takeOver_some (s : State) (acc : Accessor) (nsid : Nat) :
    ∀ got, State.takeOver s acc nsid = some got → got.modes = s.modes ∧ got.cells = s.cells ∧ got.host = s.host ∧ got.sched = s.sched ∧ got.flash = s.flash ∧ got.power = s.power ∧ got.mem = s.mem ∧ got.cipher = s.cipher ∧ got.engines = s.engines ∧ got.admin = s.admin ∧ got.staing = s.staing ∧ got.security = s.security ∧ got.migration = s.migration ∧ got.pending = s.pending ∧ got.now = s.now ∧ got.bootAt = s.bootAt ∧ got.free = s.free ∧ got.out = s.out := by
  intro got h
  unfold State.takeOver at h
  split at h
  · dsimp only at h
    split at h
    · cases h; simp
    · cases h
  · cases h

@[simp] theorem state_recap_frame (s : State) (p : Port) (cap : Nat) :
    (State.recap s p cap).modes = s.modes ∧ (State.recap s p cap).cells = s.cells ∧ (State.recap s p cap).sched = s.sched ∧ (State.recap s p cap).flash = s.flash ∧ (State.recap s p cap).store = s.store ∧ (State.recap s p cap).power = s.power ∧ (State.recap s p cap).mem = s.mem ∧ (State.recap s p cap).cipher = s.cipher ∧ (State.recap s p cap).engines = s.engines ∧ (State.recap s p cap).admin = s.admin ∧ (State.recap s p cap).staing = s.staing ∧ (State.recap s p cap).security = s.security ∧ (State.recap s p cap).migration = s.migration ∧ (State.recap s p cap).pending = s.pending ∧ (State.recap s p cap).now = s.now ∧ (State.recap s p cap).bootAt = s.bootAt ∧ (State.recap s p cap).free = s.free ∧ (State.recap s p cap).out = s.out := by
  unfold State.recap
  simp

@[simp] theorem state_writeMaxRate_frame (s : State) (rate : Nat) :
    (State.writeMaxRate s rate).modes = s.modes ∧ (State.writeMaxRate s rate).cells = s.cells ∧ (State.writeMaxRate s rate).sched = s.sched ∧ (State.writeMaxRate s rate).flash = s.flash ∧ (State.writeMaxRate s rate).store = s.store ∧ (State.writeMaxRate s rate).power = s.power ∧ (State.writeMaxRate s rate).mem = s.mem ∧ (State.writeMaxRate s rate).cipher = s.cipher ∧ (State.writeMaxRate s rate).engines = s.engines ∧ (State.writeMaxRate s rate).admin = s.admin ∧ (State.writeMaxRate s rate).staing = s.staing ∧ (State.writeMaxRate s rate).security = s.security ∧ (State.writeMaxRate s rate).migration = s.migration ∧ (State.writeMaxRate s rate).pending = s.pending ∧ (State.writeMaxRate s rate).now = s.now ∧ (State.writeMaxRate s rate).bootAt = s.bootAt ∧ (State.writeMaxRate s rate).free = s.free ∧ (State.writeMaxRate s rate).out = s.out := by
  unfold State.writeMaxRate
  simp

@[simp] theorem state_endDeletion_frame (s : State) (f : Func) (qid : Nat) :
    (State.endDeletion s f qid).dict = s.dict ∧ (State.endDeletion s f qid).modes = s.modes ∧ (State.endDeletion s f qid).sampler = s.sampler ∧ (State.endDeletion s f qid).cells = s.cells ∧ (State.endDeletion s f qid).sched = s.sched ∧ (State.endDeletion s f qid).flash = s.flash ∧ (State.endDeletion s f qid).store = s.store ∧ (State.endDeletion s f qid).power = s.power ∧ (State.endDeletion s f qid).mem = s.mem ∧ (State.endDeletion s f qid).cipher = s.cipher ∧ (State.endDeletion s f qid).engines = s.engines ∧ (State.endDeletion s f qid).admin = s.admin ∧ (State.endDeletion s f qid).staing = s.staing ∧ (State.endDeletion s f qid).security = s.security ∧ (State.endDeletion s f qid).migration = s.migration ∧ (State.endDeletion s f qid).pending = s.pending ∧ (State.endDeletion s f qid).now = s.now ∧ (State.endDeletion s f qid).bootAt = s.bootAt ∧ (State.endDeletion s f qid).free = s.free ∧ (State.endDeletion s f qid).out = s.out := by
  simp only [State.endDeletion]
  (repeat' split) <;> simp

@[simp] theorem state_abortIdle_frame (s : State) (st : Status) (c : Ctx) :
    (State.abortIdle s st c).dict = s.dict ∧ (State.abortIdle s st c).modes = s.modes ∧ (State.abortIdle s st c).sampler = s.sampler ∧ (State.abortIdle s st c).cells = s.cells ∧ (State.abortIdle s st c).sched = s.sched ∧ (State.abortIdle s st c).flash = s.flash ∧ (State.abortIdle s st c).store = s.store ∧ (State.abortIdle s st c).power = s.power ∧ (State.abortIdle s st c).mem = s.mem ∧ (State.abortIdle s st c).cipher = s.cipher ∧ (State.abortIdle s st c).engines = s.engines ∧ (State.abortIdle s st c).admin = s.admin ∧ (State.abortIdle s st c).staing = s.staing ∧ (State.abortIdle s st c).security = s.security ∧ (State.abortIdle s st c).migration = s.migration ∧ (State.abortIdle s st c).pending = s.pending ∧ (State.abortIdle s st c).now = s.now ∧ (State.abortIdle s st c).bootAt = s.bootAt ∧ (State.abortIdle s st c).free = s.free ∧ (State.abortIdle s st c).out = s.out := by
  unfold State.abortIdle
  simp

@[simp] theorem state_releaseBells_frame (s : State) (f : Func) :
    (State.releaseBells s f).dict = s.dict ∧ (State.releaseBells s f).modes = s.modes ∧ (State.releaseBells s f).sampler = s.sampler ∧ (State.releaseBells s f).cells = s.cells ∧ (State.releaseBells s f).sched = s.sched ∧ (State.releaseBells s f).flash = s.flash ∧ (State.releaseBells s f).store = s.store ∧ (State.releaseBells s f).power = s.power ∧ (State.releaseBells s f).mem = s.mem ∧ (State.releaseBells s f).cipher = s.cipher ∧ (State.releaseBells s f).engines = s.engines ∧ (State.releaseBells s f).admin = s.admin ∧ (State.releaseBells s f).staing = s.staing ∧ (State.releaseBells s f).security = s.security ∧ (State.releaseBells s f).migration = s.migration ∧ (State.releaseBells s f).pending = s.pending ∧ (State.releaseBells s f).now = s.now ∧ (State.releaseBells s f).bootAt = s.bootAt ∧ (State.releaseBells s f).free = s.free ∧ (State.releaseBells s f).out = s.out := by
  unfold State.releaseBells
  simp

@[simp] theorem state_fetchBurst_frame (s : State) (entries : List Sqe) :
    (State.fetchBurst s entries).modes = s.modes ∧ (State.fetchBurst s entries).sampler = s.sampler ∧ (State.fetchBurst s entries).cells = s.cells ∧ (State.fetchBurst s entries).sched = s.sched ∧ (State.fetchBurst s entries).flash = s.flash ∧ (State.fetchBurst s entries).store = s.store ∧ (State.fetchBurst s entries).power = s.power ∧ (State.fetchBurst s entries).mem = s.mem ∧ (State.fetchBurst s entries).cipher = s.cipher ∧ (State.fetchBurst s entries).engines = s.engines ∧ (State.fetchBurst s entries).admin = s.admin ∧ (State.fetchBurst s entries).staing = s.staing ∧ (State.fetchBurst s entries).security = s.security ∧ (State.fetchBurst s entries).migration = s.migration ∧ (State.fetchBurst s entries).pending = s.pending ∧ (State.fetchBurst s entries).now = s.now ∧ (State.fetchBurst s entries).bootAt = s.bootAt ∧ (State.fetchBurst s entries).free = s.free ∧ (State.fetchBurst s entries).out = s.out := by
  unfold State.fetchBurst
  (repeat' split) <;> simp

@[simp] theorem state_countOverlapWait_frame (s : State) (y0 : Func) :
    (State.countOverlapWait s y0).modes = s.modes ∧ (State.countOverlapWait s y0).sampler = s.sampler ∧ (State.countOverlapWait s y0).cells = s.cells ∧ (State.countOverlapWait s y0).host = s.host ∧ (State.countOverlapWait s y0).sched = s.sched ∧ (State.countOverlapWait s y0).flash = s.flash ∧ (State.countOverlapWait s y0).store = s.store ∧ (State.countOverlapWait s y0).power = s.power ∧ (State.countOverlapWait s y0).mem = s.mem ∧ (State.countOverlapWait s y0).cipher = s.cipher ∧ (State.countOverlapWait s y0).engines = s.engines ∧ (State.countOverlapWait s y0).admin = s.admin ∧ (State.countOverlapWait s y0).staing = s.staing ∧ (State.countOverlapWait s y0).security = s.security ∧ (State.countOverlapWait s y0).migration = s.migration ∧ (State.countOverlapWait s y0).pending = s.pending ∧ (State.countOverlapWait s y0).now = s.now ∧ (State.countOverlapWait s y0).bootAt = s.bootAt ∧ (State.countOverlapWait s y0).free = s.free ∧ (State.countOverlapWait s y0).out = s.out := by
  unfold State.countOverlapWait
  (repeat' split) <;> simp

@[simp] theorem state_dropCtx_frame (s : State) (h : Hdr) :
    (State.dropCtx s h).dict = s.dict ∧ (State.dropCtx s h).modes = s.modes ∧ (State.dropCtx s h).sampler = s.sampler ∧ (State.dropCtx s h).cells = s.cells ∧ (State.dropCtx s h).sched = s.sched ∧ (State.dropCtx s h).flash = s.flash ∧ (State.dropCtx s h).store = s.store ∧ (State.dropCtx s h).power = s.power ∧ (State.dropCtx s h).mem = s.mem ∧ (State.dropCtx s h).cipher = s.cipher ∧ (State.dropCtx s h).engines = s.engines ∧ (State.dropCtx s h).admin = s.admin ∧ (State.dropCtx s h).staing = s.staing ∧ (State.dropCtx s h).security = s.security ∧ (State.dropCtx s h).migration = s.migration ∧ (State.dropCtx s h).pending = s.pending ∧ (State.dropCtx s h).now = s.now ∧ (State.dropCtx s h).bootAt = s.bootAt ∧ (State.dropCtx s h).free = s.free ∧ (State.dropCtx s h).out = s.out := by
  unfold State.dropCtx
  simp

@[simp] theorem state_noteEnd_frame (s : State) (c : Ctx) (k : Cpl) :
    (State.noteEnd s c k).dict = s.dict ∧ (State.noteEnd s c k).modes = s.modes ∧ (State.noteEnd s c k).sampler = s.sampler ∧ (State.noteEnd s c k).cells = s.cells ∧ (State.noteEnd s c k).host = s.host ∧ (State.noteEnd s c k).sched = s.sched ∧ (State.noteEnd s c k).flash = s.flash ∧ (State.noteEnd s c k).store = s.store ∧ (State.noteEnd s c k).power = s.power ∧ (State.noteEnd s c k).mem = s.mem ∧ (State.noteEnd s c k).cipher = s.cipher ∧ (State.noteEnd s c k).engines = s.engines ∧ (State.noteEnd s c k).staing = s.staing ∧ (State.noteEnd s c k).security = s.security ∧ (State.noteEnd s c k).migration = s.migration ∧ (State.noteEnd s c k).pending = s.pending ∧ (State.noteEnd s c k).now = s.now ∧ (State.noteEnd s c k).bootAt = s.bootAt ∧ (State.noteEnd s c k).free = s.free ∧ (State.noteEnd s c k).out = s.out := by
  unfold State.noteEnd
  simp

@[simp] theorem state_riseSummary_frame (s : State) (y0 : Func) :
    (State.riseSummary s y0).dict = s.dict ∧ (State.riseSummary s y0).modes = s.modes ∧ (State.riseSummary s y0).sampler = s.sampler ∧ (State.riseSummary s y0).cells = s.cells ∧ (State.riseSummary s y0).sched = s.sched ∧ (State.riseSummary s y0).flash = s.flash ∧ (State.riseSummary s y0).store = s.store ∧ (State.riseSummary s y0).power = s.power ∧ (State.riseSummary s y0).mem = s.mem ∧ (State.riseSummary s y0).cipher = s.cipher ∧ (State.riseSummary s y0).engines = s.engines ∧ (State.riseSummary s y0).admin = s.admin ∧ (State.riseSummary s y0).staing = s.staing ∧ (State.riseSummary s y0).security = s.security ∧ (State.riseSummary s y0).migration = s.migration ∧ (State.riseSummary s y0).pending = s.pending ∧ (State.riseSummary s y0).now = s.now ∧ (State.riseSummary s y0).bootAt = s.bootAt ∧ (State.riseSummary s y0).free = s.free ∧ (State.riseSummary s y0).out = s.out := by
  unfold State.riseSummary
  (repeat' split) <;> simp

@[simp] theorem state_postEntry_frame (s : State) (c : Ctx) (q : Cq) (k : Cpl) :
    (State.postEntry s c q k).dict = s.dict ∧ (State.postEntry s c q k).modes = s.modes ∧ (State.postEntry s c q k).sampler = s.sampler ∧ (State.postEntry s c q k).cells = s.cells ∧ (State.postEntry s c q k).sched = s.sched ∧ (State.postEntry s c q k).flash = s.flash ∧ (State.postEntry s c q k).store = s.store ∧ (State.postEntry s c q k).power = s.power ∧ (State.postEntry s c q k).mem = s.mem ∧ (State.postEntry s c q k).cipher = s.cipher ∧ (State.postEntry s c q k).engines = s.engines ∧ (State.postEntry s c q k).staing = s.staing ∧ (State.postEntry s c q k).security = s.security ∧ (State.postEntry s c q k).pending = s.pending ∧ (State.postEntry s c q k).now = s.now ∧ (State.postEntry s c q k).bootAt = s.bootAt ∧ (State.postEntry s c q k).free = s.free := by
  unfold State.postEntry
  simp

@[simp] theorem state_waitSpace_frame (s : State) (c : Ctx) :
    (State.waitSpace s c).modes = s.modes ∧ (State.waitSpace s c).sampler = s.sampler ∧ (State.waitSpace s c).cells = s.cells ∧ (State.waitSpace s c).sched = s.sched ∧ (State.waitSpace s c).flash = s.flash ∧ (State.waitSpace s c).store = s.store ∧ (State.waitSpace s c).power = s.power ∧ (State.waitSpace s c).mem = s.mem ∧ (State.waitSpace s c).cipher = s.cipher ∧ (State.waitSpace s c).engines = s.engines ∧ (State.waitSpace s c).admin = s.admin ∧ (State.waitSpace s c).staing = s.staing ∧ (State.waitSpace s c).security = s.security ∧ (State.waitSpace s c).migration = s.migration ∧ (State.waitSpace s c).pending = s.pending ∧ (State.waitSpace s c).now = s.now ∧ (State.waitSpace s c).bootAt = s.bootAt ∧ (State.waitSpace s c).free = s.free ∧ (State.waitSpace s c).out = s.out := by
  unfold State.waitSpace
  (repeat' split) <;> simp

@[simp] theorem state_postCmd_frame (s : State) (h : Hdr) :
    (State.postCmd s h).modes = s.modes ∧ (State.postCmd s h).sampler = s.sampler ∧ (State.postCmd s h).cells = s.cells ∧ (State.postCmd s h).sched = s.sched ∧ (State.postCmd s h).flash = s.flash ∧ (State.postCmd s h).store = s.store ∧ (State.postCmd s h).power = s.power ∧ (State.postCmd s h).mem = s.mem ∧ (State.postCmd s h).cipher = s.cipher ∧ (State.postCmd s h).engines = s.engines ∧ (State.postCmd s h).staing = s.staing ∧ (State.postCmd s h).security = s.security ∧ (State.postCmd s h).pending = s.pending ∧ (State.postCmd s h).now = s.now ∧ (State.postCmd s h).bootAt = s.bootAt ∧ (State.postCmd s h).free = s.free := by
  unfold State.postCmd
  (repeat' split) <;> simp

@[simp] theorem state_postWaiting_frame (s : State) (f : Func) (cqid : Nat) :
    (State.postWaiting s f cqid).dict = s.dict ∧ (State.postWaiting s f cqid).modes = s.modes ∧ (State.postWaiting s f cqid).sampler = s.sampler ∧ (State.postWaiting s f cqid).cells = s.cells ∧ (State.postWaiting s f cqid).sched = s.sched ∧ (State.postWaiting s f cqid).flash = s.flash ∧ (State.postWaiting s f cqid).store = s.store ∧ (State.postWaiting s f cqid).power = s.power ∧ (State.postWaiting s f cqid).mem = s.mem ∧ (State.postWaiting s f cqid).cipher = s.cipher ∧ (State.postWaiting s f cqid).engines = s.engines ∧ (State.postWaiting s f cqid).staing = s.staing ∧ (State.postWaiting s f cqid).security = s.security ∧ (State.postWaiting s f cqid).pending = s.pending ∧ (State.postWaiting s f cqid).now = s.now ∧ (State.postWaiting s f cqid).bootAt = s.bootAt ∧ (State.postWaiting s f cqid).free = s.free := by
  unfold State.postWaiting
  (repeat' split) <;> simp

@[simp] theorem state_writeLine_frame (s : State) (f : Func) :
    (State.writeLine s f).dict = s.dict ∧ (State.writeLine s f).modes = s.modes ∧ (State.writeLine s f).sampler = s.sampler ∧ (State.writeLine s f).cells = s.cells ∧ (State.writeLine s f).sched = s.sched ∧ (State.writeLine s f).flash = s.flash ∧ (State.writeLine s f).store = s.store ∧ (State.writeLine s f).power = s.power ∧ (State.writeLine s f).mem = s.mem ∧ (State.writeLine s f).cipher = s.cipher ∧ (State.writeLine s f).engines = s.engines ∧ (State.writeLine s f).staing = s.staing ∧ (State.writeLine s f).security = s.security ∧ (State.writeLine s f).migration = s.migration ∧ (State.writeLine s f).pending = s.pending ∧ (State.writeLine s f).now = s.now ∧ (State.writeLine s f).bootAt = s.bootAt ∧ (State.writeLine s f).free = s.free := by
  simp only [State.writeLine]
  (repeat' split) <;> simp

@[simp] theorem state_writeAllLines_frame (s : State) :
    (State.writeAllLines s).dict = s.dict ∧ (State.writeAllLines s).modes = s.modes ∧ (State.writeAllLines s).sampler = s.sampler ∧ (State.writeAllLines s).cells = s.cells ∧ (State.writeAllLines s).sched = s.sched ∧ (State.writeAllLines s).flash = s.flash ∧ (State.writeAllLines s).store = s.store ∧ (State.writeAllLines s).power = s.power ∧ (State.writeAllLines s).mem = s.mem ∧ (State.writeAllLines s).cipher = s.cipher ∧ (State.writeAllLines s).engines = s.engines ∧ (State.writeAllLines s).staing = s.staing ∧ (State.writeAllLines s).security = s.security ∧ (State.writeAllLines s).migration = s.migration ∧ (State.writeAllLines s).pending = s.pending ∧ (State.writeAllLines s).now = s.now ∧ (State.writeAllLines s).bootAt = s.bootAt ∧ (State.writeAllLines s).free = s.free := by
  unfold State.writeAllLines
  simp (disch := (intros; (repeat' split) <;> simp))

@[simp] theorem state_setStore_frame (s : State) (x : Store) :
    (State.setStore s x).dict = s.dict ∧ (State.setStore s x).modes = s.modes ∧ (State.setStore s x).sampler = s.sampler ∧ (State.setStore s x).cells = s.cells ∧ (State.setStore s x).host = s.host ∧ (State.setStore s x).sched = s.sched ∧ (State.setStore s x).flash = s.flash ∧ (State.setStore s x).power = s.power ∧ (State.setStore s x).mem = s.mem ∧ (State.setStore s x).cipher = s.cipher ∧ (State.setStore s x).engines = s.engines ∧ (State.setStore s x).admin = s.admin ∧ (State.setStore s x).staing = s.staing ∧ (State.setStore s x).security = s.security ∧ (State.setStore s x).migration = s.migration ∧ (State.setStore s x).pending = s.pending ∧ (State.setStore s x).now = s.now ∧ (State.setStore s x).bootAt = s.bootAt ∧ (State.setStore s x).free = s.free ∧ (State.setStore s x).out = s.out := by
  unfold State.setStore
  simp

@[simp] theorem state_setNs_frame (s : State) (nsid : Nat) (x : Ns) :
    (State.setNs s nsid x).dict = s.dict ∧ (State.setNs s nsid x).modes = s.modes ∧ (State.setNs s nsid x).sampler = s.sampler ∧ (State.setNs s nsid x).cells = s.cells ∧ (State.setNs s nsid x).host = s.host ∧ (State.setNs s nsid x).sched = s.sched ∧ (State.setNs s nsid x).flash = s.flash ∧ (State.setNs s nsid x).power = s.power ∧ (State.setNs s nsid x).mem = s.mem ∧ (State.setNs s nsid x).cipher = s.cipher ∧ (State.setNs s nsid x).engines = s.engines ∧ (State.setNs s nsid x).admin = s.admin ∧ (State.setNs s nsid x).staing = s.staing ∧ (State.setNs s nsid x).security = s.security ∧ (State.setNs s nsid x).migration = s.migration ∧ (State.setNs s nsid x).pending = s.pending ∧ (State.setNs s nsid x).now = s.now ∧ (State.setNs s nsid x).bootAt = s.bootAt ∧ (State.setNs s nsid x).free = s.free ∧ (State.setNs s nsid x).out = s.out := by
  unfold State.setNs
  simp

@[simp] theorem state_setSlot_frame (s : State) (k : Nat) (x : Slot) :
    (State.setSlot s k x).dict = s.dict ∧ (State.setSlot s k x).modes = s.modes ∧ (State.setSlot s k x).sampler = s.sampler ∧ (State.setSlot s k x).cells = s.cells ∧ (State.setSlot s k x).host = s.host ∧ (State.setSlot s k x).sched = s.sched ∧ (State.setSlot s k x).flash = s.flash ∧ (State.setSlot s k x).power = s.power ∧ (State.setSlot s k x).mem = s.mem ∧ (State.setSlot s k x).cipher = s.cipher ∧ (State.setSlot s k x).engines = s.engines ∧ (State.setSlot s k x).admin = s.admin ∧ (State.setSlot s k x).staing = s.staing ∧ (State.setSlot s k x).security = s.security ∧ (State.setSlot s k x).migration = s.migration ∧ (State.setSlot s k x).pending = s.pending ∧ (State.setSlot s k x).now = s.now ∧ (State.setSlot s k x).bootAt = s.bootAt ∧ (State.setSlot s k x).free = s.free ∧ (State.setSlot s k x).out = s.out := by
  unfold State.setSlot
  simp

@[simp] theorem state_setStripe_frame (s : State) (k : Nat) (x : Stripe) :
    (State.setStripe s k x).dict = s.dict ∧ (State.setStripe s k x).modes = s.modes ∧ (State.setStripe s k x).sampler = s.sampler ∧ (State.setStripe s k x).cells = s.cells ∧ (State.setStripe s k x).host = s.host ∧ (State.setStripe s k x).sched = s.sched ∧ (State.setStripe s k x).flash = s.flash ∧ (State.setStripe s k x).power = s.power ∧ (State.setStripe s k x).mem = s.mem ∧ (State.setStripe s k x).cipher = s.cipher ∧ (State.setStripe s k x).engines = s.engines ∧ (State.setStripe s k x).admin = s.admin ∧ (State.setStripe s k x).staing = s.staing ∧ (State.setStripe s k x).security = s.security ∧ (State.setStripe s k x).migration = s.migration ∧ (State.setStripe s k x).pending = s.pending ∧ (State.setStripe s k x).now = s.now ∧ (State.setStripe s k x).bootAt = s.bootAt ∧ (State.setStripe s k x).free = s.free ∧ (State.setStripe s k x).out = s.out := by
  unfold State.setStripe
  simp

@[simp] theorem state_setRead_frame (s : State) (k : Nat) (x : MediaRead) :
    (State.setRead s k x).dict = s.dict ∧ (State.setRead s k x).modes = s.modes ∧ (State.setRead s k x).sampler = s.sampler ∧ (State.setRead s k x).cells = s.cells ∧ (State.setRead s k x).host = s.host ∧ (State.setRead s k x).sched = s.sched ∧ (State.setRead s k x).flash = s.flash ∧ (State.setRead s k x).power = s.power ∧ (State.setRead s k x).mem = s.mem ∧ (State.setRead s k x).cipher = s.cipher ∧ (State.setRead s k x).engines = s.engines ∧ (State.setRead s k x).admin = s.admin ∧ (State.setRead s k x).staing = s.staing ∧ (State.setRead s k x).security = s.security ∧ (State.setRead s k x).migration = s.migration ∧ (State.setRead s k x).pending = s.pending ∧ (State.setRead s k x).now = s.now ∧ (State.setRead s k x).bootAt = s.bootAt ∧ (State.setRead s k x).free = s.free ∧ (State.setRead s k x).out = s.out := by
  unfold State.setRead
  simp

@[simp] theorem state_setJournal_frame (s : State) (j : Journal) :
    (State.setJournal s j).dict = s.dict ∧ (State.setJournal s j).modes = s.modes ∧ (State.setJournal s j).sampler = s.sampler ∧ (State.setJournal s j).cells = s.cells ∧ (State.setJournal s j).host = s.host ∧ (State.setJournal s j).sched = s.sched ∧ (State.setJournal s j).flash = s.flash ∧ (State.setJournal s j).power = s.power ∧ (State.setJournal s j).mem = s.mem ∧ (State.setJournal s j).cipher = s.cipher ∧ (State.setJournal s j).engines = s.engines ∧ (State.setJournal s j).admin = s.admin ∧ (State.setJournal s j).staing = s.staing ∧ (State.setJournal s j).security = s.security ∧ (State.setJournal s j).migration = s.migration ∧ (State.setJournal s j).pending = s.pending ∧ (State.setJournal s j).now = s.now ∧ (State.setJournal s j).bootAt = s.bootAt ∧ (State.setJournal s j).free = s.free ∧ (State.setJournal s j).out = s.out := by
  unfold State.setJournal
  simp

@[simp] theorem state_setLun_frame (s : State) (k : Nat) (x : Lun) :
    (State.setLun s k x).dict = s.dict ∧ (State.setLun s k x).modes = s.modes ∧ (State.setLun s k x).sampler = s.sampler ∧ (State.setLun s k x).cells = s.cells ∧ (State.setLun s k x).host = s.host ∧ (State.setLun s k x).sched = s.sched ∧ (State.setLun s k x).store = s.store ∧ (State.setLun s k x).power = s.power ∧ (State.setLun s k x).mem = s.mem ∧ (State.setLun s k x).cipher = s.cipher ∧ (State.setLun s k x).engines = s.engines ∧ (State.setLun s k x).admin = s.admin ∧ (State.setLun s k x).staing = s.staing ∧ (State.setLun s k x).security = s.security ∧ (State.setLun s k x).migration = s.migration ∧ (State.setLun s k x).pending = s.pending ∧ (State.setLun s k x).now = s.now ∧ (State.setLun s k x).bootAt = s.bootAt ∧ (State.setLun s k x).free = s.free ∧ (State.setLun s k x).out = s.out := by
  unfold State.setLun
  simp

@[simp] theorem state_setBlock_frame (s : State) (lun : Nat) (block : Nat) (x : Block) :
    (State.setBlock s lun block x).dict = s.dict ∧ (State.setBlock s lun block x).modes = s.modes ∧ (State.setBlock s lun block x).sampler = s.sampler ∧ (State.setBlock s lun block x).cells = s.cells ∧ (State.setBlock s lun block x).host = s.host ∧ (State.setBlock s lun block x).sched = s.sched ∧ (State.setBlock s lun block x).flash = s.flash ∧ (State.setBlock s lun block x).power = s.power ∧ (State.setBlock s lun block x).mem = s.mem ∧ (State.setBlock s lun block x).cipher = s.cipher ∧ (State.setBlock s lun block x).engines = s.engines ∧ (State.setBlock s lun block x).admin = s.admin ∧ (State.setBlock s lun block x).staing = s.staing ∧ (State.setBlock s lun block x).security = s.security ∧ (State.setBlock s lun block x).migration = s.migration ∧ (State.setBlock s lun block x).pending = s.pending ∧ (State.setBlock s lun block x).now = s.now ∧ (State.setBlock s lun block x).bootAt = s.bootAt ∧ (State.setBlock s lun block x).free = s.free ∧ (State.setBlock s lun block x).out = s.out := by
  unfold State.setBlock
  simp

@[simp] theorem state_enqueue_frame (s : State) (lun : Nat) (kind : OpKind) (cls : OpClass) (block : Nat) (slc : Bool) :
    (State.enqueue s lun kind cls block slc).dict = s.dict ∧ (State.enqueue s lun kind cls block slc).modes = s.modes ∧ (State.enqueue s lun kind cls block slc).sampler = s.sampler ∧ (State.enqueue s lun kind cls block slc).cells = s.cells ∧ (State.enqueue s lun kind cls block slc).host = s.host ∧ (State.enqueue s lun kind cls block slc).sched = s.sched ∧ (State.enqueue s lun kind cls block slc).store = s.store ∧ (State.enqueue s lun kind cls block slc).power = s.power ∧ (State.enqueue s lun kind cls block slc).mem = s.mem ∧ (State.enqueue s lun kind cls block slc).cipher = s.cipher ∧ (State.enqueue s lun kind cls block slc).engines = s.engines ∧ (State.enqueue s lun kind cls block slc).admin = s.admin ∧ (State.enqueue s lun kind cls block slc).staing = s.staing ∧ (State.enqueue s lun kind cls block slc).security = s.security ∧ (State.enqueue s lun kind cls block slc).migration = s.migration ∧ (State.enqueue s lun kind cls block slc).pending = s.pending ∧ (State.enqueue s lun kind cls block slc).now = s.now ∧ (State.enqueue s lun kind cls block slc).bootAt = s.bootAt ∧ (State.enqueue s lun kind cls block slc).free = s.free ∧ (State.enqueue s lun kind cls block slc).out = s.out := by
  unfold State.enqueue
  simp

@[simp] theorem state_useSystem_frame (s : State) (m : Nat × Nat) :
    (State.useSystem s m).dict = s.dict ∧ (State.useSystem s m).modes = s.modes ∧ (State.useSystem s m).sampler = s.sampler ∧ (State.useSystem s m).cells = s.cells ∧ (State.useSystem s m).host = s.host ∧ (State.useSystem s m).sched = s.sched ∧ (State.useSystem s m).flash = s.flash ∧ (State.useSystem s m).power = s.power ∧ (State.useSystem s m).mem = s.mem ∧ (State.useSystem s m).cipher = s.cipher ∧ (State.useSystem s m).engines = s.engines ∧ (State.useSystem s m).admin = s.admin ∧ (State.useSystem s m).staing = s.staing ∧ (State.useSystem s m).security = s.security ∧ (State.useSystem s m).migration = s.migration ∧ (State.useSystem s m).pending = s.pending ∧ (State.useSystem s m).now = s.now ∧ (State.useSystem s m).bootAt = s.bootAt ∧ (State.useSystem s m).free = s.free ∧ (State.useSystem s m).out = s.out := by
  unfold State.useSystem
  simp

@[simp] theorem state_closePage_frame (s : State) :
    (State.closePage s).dict = s.dict ∧ (State.closePage s).modes = s.modes ∧ (State.closePage s).sampler = s.sampler ∧ (State.closePage s).cells = s.cells ∧ (State.closePage s).host = s.host ∧ (State.closePage s).sched = s.sched ∧ (State.closePage s).power = s.power ∧ (State.closePage s).mem = s.mem ∧ (State.closePage s).cipher = s.cipher ∧ (State.closePage s).engines = s.engines ∧ (State.closePage s).admin = s.admin ∧ (State.closePage s).staing = s.staing ∧ (State.closePage s).security = s.security ∧ (State.closePage s).migration = s.migration ∧ (State.closePage s).pending = s.pending ∧ (State.closePage s).now = s.now ∧ (State.closePage s).bootAt = s.bootAt ∧ (State.closePage s).free = s.free ∧ (State.closePage s).out = s.out := by
  unfold State.closePage
  simp

@[simp] theorem state_forgetOld_frame (s : State) (nsid : Nat) :
    (State.forgetOld s nsid).dict = s.dict ∧ (State.forgetOld s nsid).modes = s.modes ∧ (State.forgetOld s nsid).sampler = s.sampler ∧ (State.forgetOld s nsid).cells = s.cells ∧ (State.forgetOld s nsid).host = s.host ∧ (State.forgetOld s nsid).sched = s.sched ∧ (State.forgetOld s nsid).power = s.power ∧ (State.forgetOld s nsid).mem = s.mem ∧ (State.forgetOld s nsid).cipher = s.cipher ∧ (State.forgetOld s nsid).engines = s.engines ∧ (State.forgetOld s nsid).admin = s.admin ∧ (State.forgetOld s nsid).staing = s.staing ∧ (State.forgetOld s nsid).security = s.security ∧ (State.forgetOld s nsid).migration = s.migration ∧ (State.forgetOld s nsid).pending = s.pending ∧ (State.forgetOld s nsid).now = s.now ∧ (State.forgetOld s nsid).bootAt = s.bootAt ∧ (State.forgetOld s nsid).free = s.free ∧ (State.forgetOld s nsid).out = s.out := by
  unfold State.forgetOld
  simp

@[simp] theorem state_journal_frame (s : State) (r : JRec) :
    (State.journal s r).dict = s.dict ∧ (State.journal s r).modes = s.modes ∧ (State.journal s r).sampler = s.sampler ∧ (State.journal s r).cells = s.cells ∧ (State.journal s r).host = s.host ∧ (State.journal s r).sched = s.sched ∧ (State.journal s r).power = s.power ∧ (State.journal s r).mem = s.mem ∧ (State.journal s r).cipher = s.cipher ∧ (State.journal s r).engines = s.engines ∧ (State.journal s r).admin = s.admin ∧ (State.journal s r).staing = s.staing ∧ (State.journal s r).security = s.security ∧ (State.journal s r).migration = s.migration ∧ (State.journal s r).pending = s.pending ∧ (State.journal s r).now = s.now ∧ (State.journal s r).bootAt = s.bootAt ∧ (State.journal s r).free = s.free ∧ (State.journal s r).out = s.out := by
  unfold State.journal
  simp

@[simp] theorem state_touchSegment_frame (s : State) (nsid : Nat) (seg : Nat) :
    (State.touchSegment s nsid seg).dict = s.dict ∧ (State.touchSegment s nsid seg).modes = s.modes ∧ (State.touchSegment s nsid seg).sampler = s.sampler ∧ (State.touchSegment s nsid seg).cells = s.cells ∧ (State.touchSegment s nsid seg).host = s.host ∧ (State.touchSegment s nsid seg).sched = s.sched ∧ (State.touchSegment s nsid seg).power = s.power ∧ (State.touchSegment s nsid seg).mem = s.mem ∧ (State.touchSegment s nsid seg).cipher = s.cipher ∧ (State.touchSegment s nsid seg).engines = s.engines ∧ (State.touchSegment s nsid seg).admin = s.admin ∧ (State.touchSegment s nsid seg).staing = s.staing ∧ (State.touchSegment s nsid seg).security = s.security ∧ (State.touchSegment s nsid seg).migration = s.migration ∧ (State.touchSegment s nsid seg).pending = s.pending ∧ (State.touchSegment s nsid seg).now = s.now ∧ (State.touchSegment s nsid seg).bootAt = s.bootAt ∧ (State.touchSegment s nsid seg).free = s.free ∧ (State.touchSegment s nsid seg).out = s.out := by
  unfold State.touchSegment
  simp

@[simp] theorem state_superseded_frame (s : State) (x : Ns) (old : MapEntry) :
    (State.superseded s x old).modes = s.modes ∧ (State.superseded s x old).sampler = s.sampler ∧ (State.superseded s x old).cells = s.cells ∧ (State.superseded s x old).host = s.host ∧ (State.superseded s x old).sched = s.sched ∧ (State.superseded s x old).power = s.power ∧ (State.superseded s x old).mem = s.mem ∧ (State.superseded s x old).cipher = s.cipher ∧ (State.superseded s x old).engines = s.engines ∧ (State.superseded s x old).admin = s.admin ∧ (State.superseded s x old).staing = s.staing ∧ (State.superseded s x old).security = s.security ∧ (State.superseded s x old).migration = s.migration ∧ (State.superseded s x old).pending = s.pending ∧ (State.superseded s x old).now = s.now ∧ (State.superseded s x old).bootAt = s.bootAt ∧ (State.superseded s x old).free = s.free ∧ (State.superseded s x old).out = s.out := by
  unfold State.superseded
  (repeat' split) <;> simp

@[simp] theorem state_setUnit_frame (s : State) (nsid : Nat) (u : Nat) (e : MapEntry) :
    (State.setUnit s nsid u e).modes = s.modes ∧ (State.setUnit s nsid u e).sampler = s.sampler ∧ (State.setUnit s nsid u e).cells = s.cells ∧ (State.setUnit s nsid u e).host = s.host ∧ (State.setUnit s nsid u e).sched = s.sched ∧ (State.setUnit s nsid u e).power = s.power ∧ (State.setUnit s nsid u e).mem = s.mem ∧ (State.setUnit s nsid u e).cipher = s.cipher ∧ (State.setUnit s nsid u e).engines = s.engines ∧ (State.setUnit s nsid u e).admin = s.admin ∧ (State.setUnit s nsid u e).staing = s.staing ∧ (State.setUnit s nsid u e).security = s.security ∧ (State.setUnit s nsid u e).migration = s.migration ∧ (State.setUnit s nsid u e).pending = s.pending ∧ (State.setUnit s nsid u e).now = s.now ∧ (State.setUnit s nsid u e).bootAt = s.bootAt ∧ (State.setUnit s nsid u e).free = s.free ∧ (State.setUnit s nsid u e).out = s.out := by
  unfold State.setUnit
  (repeat' split) <;> simp

@[simp] theorem state_queueErase_frame (s : State) (lun : Nat) (block : Nat) :
    (State.queueErase s lun block).dict = s.dict ∧ (State.queueErase s lun block).modes = s.modes ∧ (State.queueErase s lun block).sampler = s.sampler ∧ (State.queueErase s lun block).cells = s.cells ∧ (State.queueErase s lun block).host = s.host ∧ (State.queueErase s lun block).sched = s.sched ∧ (State.queueErase s lun block).flash = s.flash ∧ (State.queueErase s lun block).power = s.power ∧ (State.queueErase s lun block).mem = s.mem ∧ (State.queueErase s lun block).cipher = s.cipher ∧ (State.queueErase s lun block).engines = s.engines ∧ (State.queueErase s lun block).admin = s.admin ∧ (State.queueErase s lun block).staing = s.staing ∧ (State.queueErase s lun block).security = s.security ∧ (State.queueErase s lun block).migration = s.migration ∧ (State.queueErase s lun block).pending = s.pending ∧ (State.queueErase s lun block).now = s.now ∧ (State.queueErase s lun block).bootAt = s.bootAt ∧ (State.queueErase s lun block).free = s.free ∧ (State.queueErase s lun block).out = s.out := by
  unfold State.queueErase
  simp

theorem state_openStripe_some (s : State) (use : StripeUse) (g : Nat) (w : Nat) (q : Bool) :
    ∀ got, State.openStripe s use g w q = some got → got.2.dict = s.dict ∧ got.2.modes = s.modes ∧ got.2.sampler = s.sampler ∧ got.2.cells = s.cells ∧ got.2.host = s.host ∧ got.2.sched = s.sched ∧ got.2.power = s.power ∧ got.2.mem = s.mem ∧ got.2.cipher = s.cipher ∧ got.2.engines = s.engines ∧ got.2.admin = s.admin ∧ got.2.staing = s.staing ∧ got.2.security = s.security ∧ got.2.migration = s.migration ∧ got.2.pending = s.pending ∧ got.2.now = s.now ∧ got.2.bootAt = s.bootAt ∧ got.2.free = s.free ∧ got.2.out = s.out := by
  intro got h
  unfold State.openStripe at h
  (repeat' split at h) <;> simp at h <;> (try subst h) <;> grind []

theorem state_placeIn_some (s : State) (use : StripeUse) (g : Nat) (w : Nat) (q : Bool) :
    ∀ got, State.placeIn s use g w q = some got → got.2.2.dict = s.dict ∧ got.2.2.modes = s.modes ∧ got.2.2.sampler = s.sampler ∧ got.2.2.cells = s.cells ∧ got.2.2.host = s.host ∧ got.2.2.sched = s.sched ∧ got.2.2.power = s.power ∧ got.2.2.mem = s.mem ∧ got.2.2.cipher = s.cipher ∧ got.2.2.engines = s.engines ∧ got.2.2.admin = s.admin ∧ got.2.2.staing = s.staing ∧ got.2.2.security = s.security ∧ got.2.2.migration = s.migration ∧ got.2.2.pending = s.pending ∧ got.2.2.now = s.now ∧ got.2.2.bootAt = s.bootAt ∧ got.2.2.free = s.free ∧ got.2.2.out = s.out := by
  intro got h
  unfold State.placeIn at h
  dsimp only at h
  split at h
  · cases h
  · rename_i id s1 hg
    split at h
    · cases h
    · cases h
      split at hg
      · cases hg; simp
      · have := state_openStripe_some _ _ _ _ _ _ hg
        dsimp only at this
        simp [this]

theorem state_placeFirst_some (s : State) (use : StripeUse) (w : Nat) (q : Bool) (y0 : List Nat) :
    ∀ got, State.placeFirst s use w q y0 = some got → got.2.2.dict = s.dict ∧ got.2.2.modes = s.modes ∧ got.2.2.sampler = s.sampler ∧ got.2.2.cells = s.cells ∧ got.2.2.host = s.host ∧ got.2.2.sched = s.sched ∧ got.2.2.power = s.power ∧ got.2.2.mem = s.mem ∧ got.2.2.cipher = s.cipher ∧ got.2.2.engines = s.engines ∧ got.2.2.admin = s.admin ∧ got.2.2.staing = s.staing ∧ got.2.2.security = s.security ∧ got.2.2.migration = s.migration ∧ got.2.2.pending = s.pending ∧ got.2.2.now = s.now ∧ got.2.2.bootAt = s.bootAt ∧ got.2.2.free = s.free ∧ got.2.2.out = s.out := by
  induction y0 with
  | nil => intro got h; cases h
  | cons g gs ih =>
    intro got h
    unfold State.placeFirst at h
    cases hp : s.placeIn use g w q with
    | none => rw [hp] at h; exact ih got h
    | some v => rw [hp] at h; cases h; exact state_placeIn_some _ _ _ _ _ _ hp

@[simp] theorem state_takeSlot_frame (s : State) (nsid : Nat) (u : Nat) (handle : Nat) :
    (State.takeSlot s nsid u handle).2.modes = s.modes ∧ (State.takeSlot s nsid u handle).2.sampler = s.sampler ∧ (State.takeSlot s nsid u handle).2.cells = s.cells ∧ (State.takeSlot s nsid u handle).2.host = s.host ∧ (State.takeSlot s nsid u handle).2.sched = s.sched ∧ (State.takeSlot s nsid u handle).2.power = s.power ∧ (State.takeSlot s nsid u handle).2.mem = s.mem ∧ (State.takeSlot s nsid u handle).2.cipher = s.cipher ∧ (State.takeSlot s nsid u handle).2.engines = s.engines ∧ (State.takeSlot s nsid u handle).2.admin = s.admin ∧ (State.takeSlot s nsid u handle).2.staing = s.staing ∧ (State.takeSlot s nsid u handle).2.security = s.security ∧ (State.takeSlot s nsid u handle).2.migration = s.migration ∧ (State.takeSlot s nsid u handle).2.pending = s.pending ∧ (State.takeSlot s nsid u handle).2.now = s.now ∧ (State.takeSlot s nsid u handle).2.bootAt = s.bootAt ∧ (State.takeSlot s nsid u handle).2.free = s.free ∧ (State.takeSlot s nsid u handle).2.out = s.out := by
  unfold State.takeSlot
  (repeat' split) <;> simp

@[simp] theorem state_dropSlot_frame (s : State) (k : Nat) (e : MapEntry) :
    (State.dropSlot s k e).modes = s.modes ∧ (State.dropSlot s k e).sampler = s.sampler ∧ (State.dropSlot s k e).cells = s.cells ∧ (State.dropSlot s k e).host = s.host ∧ (State.dropSlot s k e).sched = s.sched ∧ (State.dropSlot s k e).power = s.power ∧ (State.dropSlot s k e).mem = s.mem ∧ (State.dropSlot s k e).cipher = s.cipher ∧ (State.dropSlot s k e).engines = s.engines ∧ (State.dropSlot s k e).admin = s.admin ∧ (State.dropSlot s k e).staing = s.staing ∧ (State.dropSlot s k e).security = s.security ∧ (State.dropSlot s k e).migration = s.migration ∧ (State.dropSlot s k e).pending = s.pending ∧ (State.dropSlot s k e).now = s.now ∧ (State.dropSlot s k e).bootAt = s.bootAt ∧ (State.dropSlot s k e).free = s.free ∧ (State.dropSlot s k e).out = s.out := by
  unfold State.dropSlot
  (repeat' split) <;> simp

@[simp] theorem state_freeSlot_frame (s : State) (k : Nat) (e : MapEntry) :
    (State.freeSlot s k e).modes = s.modes ∧ (State.freeSlot s k e).sampler = s.sampler ∧ (State.freeSlot s k e).cells = s.cells ∧ (State.freeSlot s k e).host = s.host ∧ (State.freeSlot s k e).sched = s.sched ∧ (State.freeSlot s k e).power = s.power ∧ (State.freeSlot s k e).mem = s.mem ∧ (State.freeSlot s k e).cipher = s.cipher ∧ (State.freeSlot s k e).engines = s.engines ∧ (State.freeSlot s k e).admin = s.admin ∧ (State.freeSlot s k e).staing = s.staing ∧ (State.freeSlot s k e).security = s.security ∧ (State.freeSlot s k e).migration = s.migration ∧ (State.freeSlot s k e).pending = s.pending ∧ (State.freeSlot s k e).now = s.now ∧ (State.freeSlot s k e).bootAt = s.bootAt ∧ (State.freeSlot s k e).free = s.free ∧ (State.freeSlot s k e).out = s.out := by
  unfold State.freeSlot
  (repeat' split) <;> simp

@[simp] theorem state_looseSlot_frame (s : State) (k : Nat) :
    (State.looseSlot s k).dict = s.dict ∧ (State.looseSlot s k).modes = s.modes ∧ (State.looseSlot s k).sampler = s.sampler ∧ (State.looseSlot s k).cells = s.cells ∧ (State.looseSlot s k).host = s.host ∧ (State.looseSlot s k).sched = s.sched ∧ (State.looseSlot s k).flash = s.flash ∧ (State.looseSlot s k).power = s.power ∧ (State.looseSlot s k).mem = s.mem ∧ (State.looseSlot s k).cipher = s.cipher ∧ (State.looseSlot s k).engines = s.engines ∧ (State.looseSlot s k).admin = s.admin ∧ (State.looseSlot s k).staing = s.staing ∧ (State.looseSlot s k).security = s.security ∧ (State.looseSlot s k).migration = s.migration ∧ (State.looseSlot s k).pending = s.pending ∧ (State.looseSlot s k).now = s.now ∧ (State.looseSlot s k).bootAt = s.bootAt ∧ (State.looseSlot s k).free = s.free ∧ (State.looseSlot s k).out = s.out := by
  unfold State.looseSlot
  (repeat' split) <;> simp

@[simp] theorem state_setKeySlot_frame (s : State) (k : Nat) (x : KeySlot) :
    (State.setKeySlot s k x).dict = s.dict ∧ (State.setKeySlot s k x).modes = s.modes ∧ (State.setKeySlot s k x).sampler = s.sampler ∧ (State.setKeySlot s k x).cells = s.cells ∧ (State.setKeySlot s k x).host = s.host ∧ (State.setKeySlot s k x).sched = s.sched ∧ (State.setKeySlot s k x).flash = s.flash ∧ (State.setKeySlot s k x).store = s.store ∧ (State.setKeySlot s k x).power = s.power ∧ (State.setKeySlot s k x).mem = s.mem ∧ (State.setKeySlot s k x).engines = s.engines ∧ (State.setKeySlot s k x).admin = s.admin ∧ (State.setKeySlot s k x).staing = s.staing ∧ (State.setKeySlot s k x).security = s.security ∧ (State.setKeySlot s k x).migration = s.migration ∧ (State.setKeySlot s k x).pending = s.pending ∧ (State.setKeySlot s k x).now = s.now ∧ (State.setKeySlot s k x).bootAt = s.bootAt ∧ (State.setKeySlot s k x).free = s.free ∧ (State.setKeySlot s k x).out = s.out := by
  unfold State.setKeySlot
  simp

@[simp] theorem state_setBank_frame (s : State) (k : Nat) (b : Bank) :
    (State.setBank s k b).dict = s.dict ∧ (State.setBank s k b).modes = s.modes ∧ (State.setBank s k b).sampler = s.sampler ∧ (State.setBank s k b).cells = s.cells ∧ (State.setBank s k b).host = s.host ∧ (State.setBank s k b).flash = s.flash ∧ (State.setBank s k b).store = s.store ∧ (State.setBank s k b).power = s.power ∧ (State.setBank s k b).mem = s.mem ∧ (State.setBank s k b).cipher = s.cipher ∧ (State.setBank s k b).engines = s.engines ∧ (State.setBank s k b).admin = s.admin ∧ (State.setBank s k b).staing = s.staing ∧ (State.setBank s k b).security = s.security ∧ (State.setBank s k b).migration = s.migration ∧ (State.setBank s k b).pending = s.pending ∧ (State.setBank s k b).now = s.now ∧ (State.setBank s k b).bootAt = s.bootAt ∧ (State.setBank s k b).free = s.free ∧ (State.setBank s k b).out = s.out := by
  unfold State.setBank
  simp

@[simp] theorem state_computeCaps_frame (s : State) :
    (State.computeCaps s).dict = s.dict ∧ (State.computeCaps s).modes = s.modes ∧ (State.computeCaps s).sampler = s.sampler ∧ (State.computeCaps s).cells = s.cells ∧ (State.computeCaps s).host = s.host ∧ (State.computeCaps s).flash = s.flash ∧ (State.computeCaps s).store = s.store ∧ (State.computeCaps s).power = s.power ∧ (State.computeCaps s).mem = s.mem ∧ (State.computeCaps s).cipher = s.cipher ∧ (State.computeCaps s).engines = s.engines ∧ (State.computeCaps s).admin = s.admin ∧ (State.computeCaps s).staing = s.staing ∧ (State.computeCaps s).security = s.security ∧ (State.computeCaps s).migration = s.migration ∧ (State.computeCaps s).pending = s.pending ∧ (State.computeCaps s).now = s.now ∧ (State.computeCaps s).bootAt = s.bootAt ∧ (State.computeCaps s).free = s.free ∧ (State.computeCaps s).out = s.out := by
  unfold State.computeCaps
  simp

@[simp] theorem state_spend_frame (s : State) (k : CreditKind) (n : Nat) :
    (State.spend s k n).dict = s.dict ∧ (State.spend s k n).modes = s.modes ∧ (State.spend s k n).sampler = s.sampler ∧ (State.spend s k n).cells = s.cells ∧ (State.spend s k n).host = s.host ∧ (State.spend s k n).flash = s.flash ∧ (State.spend s k n).store = s.store ∧ (State.spend s k n).power = s.power ∧ (State.spend s k n).mem = s.mem ∧ (State.spend s k n).cipher = s.cipher ∧ (State.spend s k n).engines = s.engines ∧ (State.spend s k n).admin = s.admin ∧ (State.spend s k n).staing = s.staing ∧ (State.spend s k n).security = s.security ∧ (State.spend s k n).migration = s.migration ∧ (State.spend s k n).pending = s.pending ∧ (State.spend s k n).now = s.now ∧ (State.spend s k n).bootAt = s.bootAt ∧ (State.spend s k n).free = s.free ∧ (State.spend s k n).out = s.out := by
  unfold State.spend
  (repeat' split) <;> simp

theorem state_pay_some (s : State) (f : Func) (k : CreditKind) (n : Nat) (step3 : Bool) :
    ∀ got, State.pay s f k n step3 = some got → got.dict = s.dict ∧ got.modes = s.modes ∧ got.sampler = s.sampler ∧ got.cells = s.cells ∧ got.host = s.host ∧ got.flash = s.flash ∧ got.store = s.store ∧ got.power = s.power ∧ got.mem = s.mem ∧ got.cipher = s.cipher ∧ got.engines = s.engines ∧ got.admin = s.admin ∧ got.staing = s.staing ∧ got.security = s.security ∧ got.migration = s.migration ∧ got.pending = s.pending ∧ got.now = s.now ∧ got.bootAt = s.bootAt ∧ got.free = s.free ∧ got.out = s.out := by
  intro got h
  unfold State.pay at h
  (repeat' split at h) <;> first | (cases h; done) | (cases h; simp) | grind []

@[simp] theorem state_enterRead_frame (s : State) (nsid : Nat) (u : Nat) (e : MapEntry) (mask : BitVec 4) (cls : OpClass) (serves : ReadFor) (att : List Attach) (dead : LadderStep) :
    (State.enterRead s nsid u e mask cls serves att dead).2.dict = s.dict ∧ (State.enterRead s nsid u e mask cls serves att dead).2.modes = s.modes ∧ (State.enterRead s nsid u e mask cls serves att dead).2.sampler = s.sampler ∧ (State.enterRead s nsid u e mask cls serves att dead).2.cells = s.cells ∧ (State.enterRead s nsid u e mask cls serves att dead).2.host = s.host ∧ (State.enterRead s nsid u e mask cls serves att dead).2.sched = s.sched ∧ (State.enterRead s nsid u e mask cls serves att dead).2.power = s.power ∧ (State.enterRead s nsid u e mask cls serves att dead).2.mem = s.mem ∧ (State.enterRead s nsid u e mask cls serves att dead).2.cipher = s.cipher ∧ (State.enterRead s nsid u e mask cls serves att dead).2.engines = s.engines ∧ (State.enterRead s nsid u e mask cls serves att dead).2.admin = s.admin ∧ (State.enterRead s nsid u e mask cls serves att dead).2.staing = s.staing ∧ (State.enterRead s nsid u e mask cls serves att dead).2.security = s.security ∧ (State.enterRead s nsid u e mask cls serves att dead).2.migration = s.migration ∧ (State.enterRead s nsid u e mask cls serves att dead).2.pending = s.pending ∧ (State.enterRead s nsid u e mask cls serves att dead).2.now = s.now ∧ (State.enterRead s nsid u e mask cls serves att dead).2.bootAt = s.bootAt ∧ (State.enterRead s nsid u e mask cls serves att dead).2.free = s.free ∧ (State.enterRead s nsid u e mask cls serves att dead).2.out = s.out := by
  unfold State.enterRead
  simp

@[simp] theorem state_queueBg_frame (s : State) (task : Task) (work : BgWork) (readCost : Nat) (writeCost : Nat) :
    (State.queueBg s task work readCost writeCost).dict = s.dict ∧ (State.queueBg s task work readCost writeCost).modes = s.modes ∧ (State.queueBg s task work readCost writeCost).sampler = s.sampler ∧ (State.queueBg s task work readCost writeCost).cells = s.cells ∧ (State.queueBg s task work readCost writeCost).host = s.host ∧ (State.queueBg s task work readCost writeCost).flash = s.flash ∧ (State.queueBg s task work readCost writeCost).store = s.store ∧ (State.queueBg s task work readCost writeCost).power = s.power ∧ (State.queueBg s task work readCost writeCost).mem = s.mem ∧ (State.queueBg s task work readCost writeCost).cipher = s.cipher ∧ (State.queueBg s task work readCost writeCost).engines = s.engines ∧ (State.queueBg s task work readCost writeCost).admin = s.admin ∧ (State.queueBg s task work readCost writeCost).staing = s.staing ∧ (State.queueBg s task work readCost writeCost).security = s.security ∧ (State.queueBg s task work readCost writeCost).migration = s.migration ∧ (State.queueBg s task work readCost writeCost).pending = s.pending ∧ (State.queueBg s task work readCost writeCost).now = s.now ∧ (State.queueBg s task work readCost writeCost).bootAt = s.bootAt ∧ (State.queueBg s task work readCost writeCost).free = s.free ∧ (State.queueBg s task work readCost writeCost).out = s.out := by
  unfold State.queueBg
  simp

@[simp] theorem state_startDarning_frame (s : State) (rd : Nat) (r : MediaRead) :
    (State.startDarning s rd r).dict = s.dict ∧ (State.startDarning s rd r).modes = s.modes ∧ (State.startDarning s rd r).sampler = s.sampler ∧ (State.startDarning s rd r).cells = s.cells ∧ (State.startDarning s rd r).host = s.host ∧ (State.startDarning s rd r).sched = s.sched ∧ (State.startDarning s rd r).power = s.power ∧ (State.startDarning s rd r).mem = s.mem ∧ (State.startDarning s rd r).cipher = s.cipher ∧ (State.startDarning s rd r).engines = s.engines ∧ (State.startDarning s rd r).admin = s.admin ∧ (State.startDarning s rd r).staing = s.staing ∧ (State.startDarning s rd r).security = s.security ∧ (State.startDarning s rd r).migration = s.migration ∧ (State.startDarning s rd r).pending = s.pending ∧ (State.startDarning s rd r).now = s.now ∧ (State.startDarning s rd r).bootAt = s.bootAt ∧ (State.startDarning s rd r).free = s.free ∧ (State.startDarning s rd r).out = s.out := by
  unfold State.startDarning
  (repeat' split) <;> simp

@[simp] theorem state_darnUnit_frame (s : State) (rd : Nat) (owed : Bool) :
    (State.darnUnit s rd owed).dict = s.dict ∧ (State.darnUnit s rd owed).modes = s.modes ∧ (State.darnUnit s rd owed).sampler = s.sampler ∧ (State.darnUnit s rd owed).cells = s.cells ∧ (State.darnUnit s rd owed).host = s.host ∧ (State.darnUnit s rd owed).power = s.power ∧ (State.darnUnit s rd owed).mem = s.mem ∧ (State.darnUnit s rd owed).cipher = s.cipher ∧ (State.darnUnit s rd owed).engines = s.engines ∧ (State.darnUnit s rd owed).admin = s.admin ∧ (State.darnUnit s rd owed).staing = s.staing ∧ (State.darnUnit s rd owed).security = s.security ∧ (State.darnUnit s rd owed).migration = s.migration ∧ (State.darnUnit s rd owed).pending = s.pending ∧ (State.darnUnit s rd owed).now = s.now ∧ (State.darnUnit s rd owed).bootAt = s.bootAt ∧ (State.darnUnit s rd owed).free = s.free ∧ (State.darnUnit s rd owed).out = s.out := by
  unfold State.darnUnit
  (repeat' split) <;> simp

@[simp] theorem state_startRead_frame (s : State) (nsid : Nat) (u : Nat) (e : MapEntry) (mask : BitVec 4) (cls : OpClass) (serves : ReadFor) (att : List Attach) :
    (State.startRead s nsid u e mask cls serves att).2.dict = s.dict ∧ (State.startRead s nsid u e mask cls serves att).2.modes = s.modes ∧ (State.startRead s nsid u e mask cls serves att).2.sampler = s.sampler ∧ (State.startRead s nsid u e mask cls serves att).2.cells = s.cells ∧ (State.startRead s nsid u e mask cls serves att).2.host = s.host ∧ (State.startRead s nsid u e mask cls serves att).2.power = s.power ∧ (State.startRead s nsid u e mask cls serves att).2.mem = s.mem ∧ (State.startRead s nsid u e mask cls serves att).2.cipher = s.cipher ∧ (State.startRead s nsid u e mask cls serves att).2.engines = s.engines ∧ (State.startRead s nsid u e mask cls serves att).2.admin = s.admin ∧ (State.startRead s nsid u e mask cls serves att).2.staing = s.staing ∧ (State.startRead s nsid u e mask cls serves att).2.security = s.security ∧ (State.startRead s nsid u e mask cls serves att).2.migration = s.migration ∧ (State.startRead s nsid u e mask cls serves att).2.pending = s.pending ∧ (State.startRead s nsid u e mask cls serves att).2.now = s.now ∧ (State.startRead s nsid u e mask cls serves att).2.bootAt = s.bootAt ∧ (State.startRead s nsid u e mask cls serves att).2.free = s.free ∧ (State.startRead s nsid u e mask cls serves att).2.out = s.out := by
  unfold State.startRead
  simp

@[simp] theorem state_promoteRead_frame (s : State) (rd : Nat) (r : MediaRead) :
    (State.promoteRead s rd r).dict = s.dict ∧ (State.promoteRead s rd r).modes = s.modes ∧ (State.promoteRead s rd r).sampler = s.sampler ∧ (State.promoteRead s rd r).cells = s.cells ∧ (State.promoteRead s rd r).host = s.host ∧ (State.promoteRead s rd r).sched = s.sched ∧ (State.promoteRead s rd r).power = s.power ∧ (State.promoteRead s rd r).mem = s.mem ∧ (State.promoteRead s rd r).cipher = s.cipher ∧ (State.promoteRead s rd r).engines = s.engines ∧ (State.promoteRead s rd r).admin = s.admin ∧ (State.promoteRead s rd r).staing = s.staing ∧ (State.promoteRead s rd r).security = s.security ∧ (State.promoteRead s rd r).migration = s.migration ∧ (State.promoteRead s rd r).pending = s.pending ∧ (State.promoteRead s rd r).now = s.now ∧ (State.promoteRead s rd r).bootAt = s.bootAt ∧ (State.promoteRead s rd r).free = s.free ∧ (State.promoteRead s rd r).out = s.out := by
  unfold State.promoteRead
  simp

@[simp] theorem state_attach_frame (s : State) (rd : Nat) (r : MediaRead) (a : Attach) :
    (State.attach s rd r a).modes = s.modes ∧ (State.attach s rd r a).sampler = s.sampler ∧ (State.attach s rd r a).cells = s.cells ∧ (State.attach s rd r a).host = s.host ∧ (State.attach s rd r a).sched = s.sched ∧ (State.attach s rd r a).power = s.power ∧ (State.attach s rd r a).mem = s.mem ∧ (State.attach s rd r a).cipher = s.cipher ∧ (State.attach s rd r a).engines = s.engines ∧ (State.attach s rd r a).admin = s.admin ∧ (State.attach s rd r a).staing = s.staing ∧ (State.attach s rd r a).security = s.security ∧ (State.attach s rd r a).migration = s.migration ∧ (State.attach s rd r a).pending = s.pending ∧ (State.attach s rd r a).now = s.now ∧ (State.attach s rd r a).bootAt = s.bootAt ∧ (State.attach s rd r a).free = s.free ∧ (State.attach s rd r a).out = s.out := by
  unfold State.attach
  simp

theorem state_placeUnit_some (s : State) (x : Slot) (n : Ns) :
    ∀ got, State.placeUnit s x n = some got → got.2.2.2.modes = s.modes ∧ got.2.2.2.sampler = s.sampler ∧ got.2.2.2.cells = s.cells ∧ got.2.2.2.host = s.host ∧ got.2.2.2.sched = s.sched ∧ got.2.2.2.power = s.power ∧ got.2.2.2.mem = s.mem ∧ got.2.2.2.cipher = s.cipher ∧ got.2.2.2.engines = s.engines ∧ got.2.2.2.admin = s.admin ∧ got.2.2.2.staing = s.staing ∧ got.2.2.2.security = s.security ∧ got.2.2.2.migration = s.migration ∧ got.2.2.2.pending = s.pending ∧ got.2.2.2.now = s.now ∧ got.2.2.2.bootAt = s.bootAt ∧ got.2.2.2.free = s.free ∧ got.2.2.2.out = s.out := by
  intro got h
  unfold State.placeUnit at h
  dsimp only at h
  split at h
  · rename_i hs
    cases h
    split at hs
    · have := state_placeFirst_some _ _ _ _ _ _ hs
      dsimp only at this
      simp [this]
    · cases hs
  · split at h
    · rename_i hp
      cases h
      have := state_placeFirst_some _ _ _ _ _ _ hp
      dsimp only at this
      split <;> simp [this]
    · cases h

@[simp] theorem state_counterWait_frame (s : State) (k : Nat) (x : Slot) :
    (State.counterWait s k x).modes = s.modes ∧ (State.counterWait s k x).sampler = s.sampler ∧ (State.counterWait s k x).cells = s.cells ∧ (State.counterWait s k x).host = s.host ∧ (State.counterWait s k x).sched = s.sched ∧ (State.counterWait s k x).flash = s.flash ∧ (State.counterWait s k x).power = s.power ∧ (State.counterWait s k x).mem = s.mem ∧ (State.counterWait s k x).engines = s.engines ∧ (State.counterWait s k x).admin = s.admin ∧ (State.counterWait s k x).staing = s.staing ∧ (State.counterWait s k x).security = s.security ∧ (State.counterWait s k x).migration = s.migration ∧ (State.counterWait s k x).pending = s.pending ∧ (State.counterWait s k x).now = s.now ∧ (State.counterWait s k x).bootAt = s.bootAt ∧ (State.counterWait s k x).free = s.free ∧ (State.counterWait s k x).out = s.out := by
  unfold State.counterWait
  simp

@[simp] theorem state_takeCounter_frame (s : State) (x : Slot) :
    (State.takeCounter s x).2.modes = s.modes ∧ (State.takeCounter s x).2.cells = s.cells ∧ (State.takeCounter s x).2.host = s.host ∧ (State.takeCounter s x).2.sched = s.sched ∧ (State.takeCounter s x).2.flash = s.flash ∧ (State.takeCounter s x).2.store = s.store ∧ (State.takeCounter s x).2.power = s.power ∧ (State.takeCounter s x).2.mem = s.mem ∧ (State.takeCounter s x).2.engines = s.engines ∧ (State.takeCounter s x).2.admin = s.admin ∧ (State.takeCounter s x).2.staing = s.staing ∧ (State.takeCounter s x).2.security = s.security ∧ (State.takeCounter s x).2.migration = s.migration ∧ (State.takeCounter s x).2.pending = s.pending ∧ (State.takeCounter s x).2.now = s.now ∧ (State.takeCounter s x).2.bootAt = s.bootAt ∧ (State.takeCounter s x).2.free = s.free ∧ (State.takeCounter s x).2.out = s.out := by
  unfold State.takeCounter
  (repeat' split) <;> simp

@[simp] theorem state_issueProgram_frame (s : State) (k : Nat) (x : Slot) (loc : MapEntry) (record : Bool) :
    (State.issueProgram s k x loc record).modes = s.modes ∧ (State.issueProgram s k x loc record).cells = s.cells ∧ (State.issueProgram s k x loc record).host = s.host ∧ (State.issueProgram s k x loc record).sched = s.sched ∧ (State.issueProgram s k x loc record).power = s.power ∧ (State.issueProgram s k x loc record).mem = s.mem ∧ (State.issueProgram s k x loc record).engines = s.engines ∧ (State.issueProgram s k x loc record).admin = s.admin ∧ (State.issueProgram s k x loc record).staing = s.staing ∧ (State.issueProgram s k x loc record).security = s.security ∧ (State.issueProgram s k x loc record).migration = s.migration ∧ (State.issueProgram s k x loc record).pending = s.pending ∧ (State.issueProgram s k x loc record).now = s.now ∧ (State.issueProgram s k x loc record).bootAt = s.bootAt ∧ (State.issueProgram s k x loc record).free = s.free ∧ (State.issueProgram s k x loc record).out = s.out := by
  unfold State.issueProgram
  simp

@[simp] theorem state_programSlot_frame (s : State) (k : Nat) :
    (State.programSlot s k).modes = s.modes ∧ (State.programSlot s k).cells = s.cells ∧ (State.programSlot s k).host = s.host ∧ (State.programSlot s k).power = s.power ∧ (State.programSlot s k).mem = s.mem ∧ (State.programSlot s k).engines = s.engines ∧ (State.programSlot s k).admin = s.admin ∧ (State.programSlot s k).staing = s.staing ∧ (State.programSlot s k).security = s.security ∧ (State.programSlot s k).migration = s.migration ∧ (State.programSlot s k).pending = s.pending ∧ (State.programSlot s k).now = s.now ∧ (State.programSlot s k).bootAt = s.bootAt ∧ (State.programSlot s k).free = s.free ∧ (State.programSlot s k).out = s.out := by
  unfold State.programSlot
  split
  · simp
  · split
    · split
      · simp
      · split
        · simp
        · split
          · simp
          · dsimp only
            split
            · rename_i hp
              have := state_placeUnit_some _ _ _ _ hp
              dsimp only at this
              split <;> simp [this]
            · simp
    · simp

@[simp] theorem state_programRow_frame (s : State) (nsid : Nat) (z : Nat) (v : Nat) :
    (State.programRow s nsid z v).modes = s.modes ∧ (State.programRow s nsid z v).cells = s.cells ∧ (State.programRow s nsid z v).host = s.host ∧ (State.programRow s nsid z v).sched = s.sched ∧ (State.programRow s nsid z v).power = s.power ∧ (State.programRow s nsid z v).mem = s.mem ∧ (State.programRow s nsid z v).engines = s.engines ∧ (State.programRow s nsid z v).admin = s.admin ∧ (State.programRow s nsid z v).staing = s.staing ∧ (State.programRow s nsid z v).security = s.security ∧ (State.programRow s nsid z v).migration = s.migration ∧ (State.programRow s nsid z v).pending = s.pending ∧ (State.programRow s nsid z v).now = s.now ∧ (State.programRow s nsid z v).bootAt = s.bootAt ∧ (State.programRow s nsid z v).free = s.free ∧ (State.programRow s nsid z v).out = s.out := by
  unfold State.programRow
  and_intros
  all_goals (repeat' first | rfl | assumption | (intros; trivial) | (dsimp only; done) | (intro _) | split | (first | refine (foldl_dict _ _ _ ?_).trans ?_ | refine (foldl_modes _ _ _ ?_).trans ?_ | refine (foldl_sampler _ _ _ ?_).trans ?_ | refine (foldl_cells _ _ _ ?_).trans ?_ | refine (foldl_host _ _ _ ?_).trans ?_ | refine (foldl_sched _ _ _ ?_).trans ?_ | refine (foldl_flash _ _ _ ?_).trans ?_ | refine (foldl_store _ _ _ ?_).trans ?_ | refine (foldl_power _ _ _ ?_).trans ?_ | refine (foldl_mem _ _ _ ?_).trans ?_ | refine (foldl_cipher _ _ _ ?_).trans ?_ | refine (foldl_engines _ _ _ ?_).trans ?_ | refine (foldl_admin _ _ _ ?_).trans ?_ | refine (foldl_staing _ _ _ ?_).trans ?_ | refine (foldl_security _ _ _ ?_).trans ?_ | refine (foldl_migration _ _ _ ?_).trans ?_ | refine (foldl_pending _ _ _ ?_).trans ?_ | refine (foldl_now _ _ _ ?_).trans ?_ | refine (foldl_bootAt _ _ _ ?_).trans ?_ | refine (foldl_free _ _ _ ?_).trans ?_ | refine (foldl_out _ _ _ ?_).trans ?_ | refine (foldl_mem_dram _ _ _ ?_).trans ?_ | refine (foldl_engines_windows _ _ _ ?_).trans ?_) | (simp; done) | simp)

@[simp] theorem state_tryRow_frame (s : State) (nsid : Nat) (z : Nat) (v : Nat) :
    (State.tryRow s nsid z v).modes = s.modes ∧ (State.tryRow s nsid z v).cells = s.cells ∧ (State.tryRow s nsid z v).host = s.host ∧ (State.tryRow s nsid z v).sched = s.sched ∧ (State.tryRow s nsid z v).power = s.power ∧ (State.tryRow s nsid z v).mem = s.mem ∧ (State.tryRow s nsid z v).engines = s.engines ∧ (State.tryRow s nsid z v).admin = s.admin ∧ (State.tryRow s nsid z v).staing = s.staing ∧ (State.tryRow s nsid z v).security = s.security ∧ (State.tryRow s nsid z v).migration = s.migration ∧ (State.tryRow s nsid z v).pending = s.pending ∧ (State.tryRow s nsid z v).now = s.now ∧ (State.tryRow s nsid z v).bootAt = s.bootAt ∧ (State.tryRow s nsid z v).free = s.free ∧ (State.tryRow s nsid z v).out = s.out := by
  unfold State.tryRow
  (repeat' split) <;> simp

@[simp] theorem state_stageSlot_frame (s : State) (k : Nat) :
    (State.stageSlot s k).modes = s.modes ∧ (State.stageSlot s k).cells = s.cells ∧ (State.stageSlot s k).host = s.host ∧ (State.stageSlot s k).sched = s.sched ∧ (State.stageSlot s k).power = s.power ∧ (State.stageSlot s k).mem = s.mem ∧ (State.stageSlot s k).engines = s.engines ∧ (State.stageSlot s k).admin = s.admin ∧ (State.stageSlot s k).staing = s.staing ∧ (State.stageSlot s k).security = s.security ∧ (State.stageSlot s k).migration = s.migration ∧ (State.stageSlot s k).pending = s.pending ∧ (State.stageSlot s k).now = s.now ∧ (State.stageSlot s k).bootAt = s.bootAt ∧ (State.stageSlot s k).free = s.free ∧ (State.stageSlot s k).out = s.out := by
  unfold State.stageSlot
  (repeat' split) <;> grind [state_counterWait_frame, state_issueProgram_frame, → state_placeFirst_some, state_setSlot_frame]

@[simp] theorem state_pushSlot_frame (s : State) (k : Nat) :
    (State.pushSlot s k).modes = s.modes ∧ (State.pushSlot s k).cells = s.cells ∧ (State.pushSlot s k).host = s.host ∧ (State.pushSlot s k).power = s.power ∧ (State.pushSlot s k).mem = s.mem ∧ (State.pushSlot s k).engines = s.engines ∧ (State.pushSlot s k).admin = s.admin ∧ (State.pushSlot s k).staing = s.staing ∧ (State.pushSlot s k).security = s.security ∧ (State.pushSlot s k).migration = s.migration ∧ (State.pushSlot s k).pending = s.pending ∧ (State.pushSlot s k).now = s.now ∧ (State.pushSlot s k).bootAt = s.bootAt ∧ (State.pushSlot s k).free = s.free ∧ (State.pushSlot s k).out = s.out := by
  unfold State.pushSlot
  (repeat' split) <;> simp

@[simp] theorem state_dirtyMark_frame (s : State) :
    (State.dirtyMark s).modes = s.modes ∧ (State.dirtyMark s).cells = s.cells ∧ (State.dirtyMark s).host = s.host ∧ (State.dirtyMark s).power = s.power ∧ (State.dirtyMark s).mem = s.mem ∧ (State.dirtyMark s).engines = s.engines ∧ (State.dirtyMark s).admin = s.admin ∧ (State.dirtyMark s).staing = s.staing ∧ (State.dirtyMark s).security = s.security ∧ (State.dirtyMark s).migration = s.migration ∧ (State.dirtyMark s).pending = s.pending ∧ (State.dirtyMark s).now = s.now ∧ (State.dirtyMark s).bootAt = s.bootAt ∧ (State.dirtyMark s).free = s.free ∧ (State.dirtyMark s).out = s.out := by
  unfold State.dirtyMark
  (repeat' split) <;> simp

@[simp] theorem state_digestZone_frame (s : State) (nsid : Nat) (z : Nat) (y0 : Nat) :
    (State.digestZone s nsid z y0).modes = s.modes ∧ (State.digestZone s nsid z y0).sampler = s.sampler ∧ (State.digestZone s nsid z y0).cells = s.cells ∧ (State.digestZone s nsid z y0).host = s.host ∧ (State.digestZone s nsid z y0).sched = s.sched ∧ (State.digestZone s nsid z y0).flash = s.flash ∧ (State.digestZone s nsid z y0).power = s.power ∧ (State.digestZone s nsid z y0).mem = s.mem ∧ (State.digestZone s nsid z y0).cipher = s.cipher ∧ (State.digestZone s nsid z y0).engines = s.engines ∧ (State.digestZone s nsid z y0).admin = s.admin ∧ (State.digestZone s nsid z y0).staing = s.staing ∧ (State.digestZone s nsid z y0).security = s.security ∧ (State.digestZone s nsid z y0).migration = s.migration ∧ (State.digestZone s nsid z y0).pending = s.pending ∧ (State.digestZone s nsid z y0).now = s.now ∧ (State.digestZone s nsid z y0).bootAt = s.bootAt ∧ (State.digestZone s nsid z y0).free = s.free ∧ (State.digestZone s nsid z y0).out = s.out := by
  induction y0 generalizing s with
  | zero => simp [State.digestZone]
  | succ n ih =>
    unfold State.digestZone
    split
    · simp
    · dsimp only
      split
      · simp
      · split
        · split
          · simp [ih]
          · simp
        · simp

@[simp] theorem state_digestDone_frame (s : State) (nsid : Nat) (z : Nat) :
    (State.digestDone s nsid z).dict = s.dict ∧ (State.digestDone s nsid z).modes = s.modes ∧ (State.digestDone s nsid z).sampler = s.sampler ∧ (State.digestDone s nsid z).cells = s.cells ∧ (State.digestDone s nsid z).sched = s.sched ∧ (State.digestDone s nsid z).flash = s.flash ∧ (State.digestDone s nsid z).power = s.power ∧ (State.digestDone s nsid z).mem = s.mem ∧ (State.digestDone s nsid z).cipher = s.cipher ∧ (State.digestDone s nsid z).engines = s.engines ∧ (State.digestDone s nsid z).admin = s.admin ∧ (State.digestDone s nsid z).staing = s.staing ∧ (State.digestDone s nsid z).security = s.security ∧ (State.digestDone s nsid z).migration = s.migration ∧ (State.digestDone s nsid z).pending = s.pending ∧ (State.digestDone s nsid z).now = s.now ∧ (State.digestDone s nsid z).bootAt = s.bootAt ∧ (State.digestDone s nsid z).free = s.free ∧ (State.digestDone s nsid z).out = s.out := by
  simp only [State.digestDone]
  (repeat' split) <;> simp

@[simp] theorem state_writeUnit_frame (s : State) (f : Func) (stamp : Nat) (nsid : Nat) (u : Nat) (mask : BitVec 4) (handle : Nat) (lbas : List LbaData) (metas : List HostMeta) (tag : Option Nat) (bad : Bool) :
    (State.writeUnit s f stamp nsid u mask handle lbas metas tag bad).modes = s.modes ∧ (State.writeUnit s f stamp nsid u mask handle lbas metas tag bad).cells = s.cells ∧ (State.writeUnit s f stamp nsid u mask handle lbas metas tag bad).power = s.power ∧ (State.writeUnit s f stamp nsid u mask handle lbas metas tag bad).mem = s.mem ∧ (State.writeUnit s f stamp nsid u mask handle lbas metas tag bad).engines = s.engines ∧ (State.writeUnit s f stamp nsid u mask handle lbas metas tag bad).admin = s.admin ∧ (State.writeUnit s f stamp nsid u mask handle lbas metas tag bad).staing = s.staing ∧ (State.writeUnit s f stamp nsid u mask handle lbas metas tag bad).security = s.security ∧ (State.writeUnit s f stamp nsid u mask handle lbas metas tag bad).migration = s.migration ∧ (State.writeUnit s f stamp nsid u mask handle lbas metas tag bad).pending = s.pending ∧ (State.writeUnit s f stamp nsid u mask handle lbas metas tag bad).now = s.now ∧ (State.writeUnit s f stamp nsid u mask handle lbas metas tag bad).bootAt = s.bootAt ∧ (State.writeUnit s f stamp nsid u mask handle lbas metas tag bad).free = s.free ∧ (State.writeUnit s f stamp nsid u mask handle lbas metas tag bad).out = s.out := by
  simp only [State.writeUnit]
  (repeat' split) <;> simp

@[simp] theorem state_pushFor_frame (s : State) (c : Ctx) :
    (State.pushFor s c).modes = s.modes ∧ (State.pushFor s c).cells = s.cells ∧ (State.pushFor s c).host = s.host ∧ (State.pushFor s c).power = s.power ∧ (State.pushFor s c).mem = s.mem ∧ (State.pushFor s c).engines = s.engines ∧ (State.pushFor s c).admin = s.admin ∧ (State.pushFor s c).staing = s.staing ∧ (State.pushFor s c).security = s.security ∧ (State.pushFor s c).migration = s.migration ∧ (State.pushFor s c).pending = s.pending ∧ (State.pushFor s c).now = s.now ∧ (State.pushFor s c).bootAt = s.bootAt ∧ (State.pushFor s c).free = s.free ∧ (State.pushFor s c).out = s.out := by
  unfold State.pushFor
  simp

@[simp] theorem state_concludeOk_frame (s : State) (c : Ctx) :
    (State.concludeOk s c).dict = s.dict ∧ (State.concludeOk s c).modes = s.modes ∧ (State.concludeOk s c).sampler = s.sampler ∧ (State.concludeOk s c).cells = s.cells ∧ (State.concludeOk s c).sched = s.sched ∧ (State.concludeOk s c).flash = s.flash ∧ (State.concludeOk s c).store = s.store ∧ (State.concludeOk s c).power = s.power ∧ (State.concludeOk s c).mem = s.mem ∧ (State.concludeOk s c).cipher = s.cipher ∧ (State.concludeOk s c).engines = s.engines ∧ (State.concludeOk s c).admin = s.admin ∧ (State.concludeOk s c).staing = s.staing ∧ (State.concludeOk s c).security = s.security ∧ (State.concludeOk s c).migration = s.migration ∧ (State.concludeOk s c).pending = s.pending ∧ (State.concludeOk s c).now = s.now ∧ (State.concludeOk s c).bootAt = s.bootAt ∧ (State.concludeOk s c).free = s.free := by
  unfold State.concludeOk
  (repeat' split) <;> simp

@[simp] theorem state_conclude_frame (s : State) (c : Ctx) :
    (State.conclude s c).dict = s.dict ∧ (State.conclude s c).modes = s.modes ∧ (State.conclude s c).sampler = s.sampler ∧ (State.conclude s c).cells = s.cells ∧ (State.conclude s c).sched = s.sched ∧ (State.conclude s c).flash = s.flash ∧ (State.conclude s c).store = s.store ∧ (State.conclude s c).power = s.power ∧ (State.conclude s c).mem = s.mem ∧ (State.conclude s c).cipher = s.cipher ∧ (State.conclude s c).engines = s.engines ∧ (State.conclude s c).admin = s.admin ∧ (State.conclude s c).staing = s.staing ∧ (State.conclude s c).security = s.security ∧ (State.conclude s c).migration = s.migration ∧ (State.conclude s c).pending = s.pending ∧ (State.conclude s c).now = s.now ∧ (State.conclude s c).bootAt = s.bootAt ∧ (State.conclude s c).free = s.free := by
  unfold State.conclude
  (repeat' split) <;> simp

@[simp] theorem state_copyOut_frame (s : State) (c : Ctx) :
    (State.copyOut s c).modes = s.modes ∧ (State.copyOut s c).cells = s.cells ∧ (State.copyOut s c).power = s.power ∧ (State.copyOut s c).mem = s.mem ∧ (State.copyOut s c).engines = s.engines ∧ (State.copyOut s c).admin = s.admin ∧ (State.copyOut s c).staing = s.staing ∧ (State.copyOut s c).security = s.security ∧ (State.copyOut s c).migration = s.migration ∧ (State.copyOut s c).pending = s.pending ∧ (State.copyOut s c).now = s.now ∧ (State.copyOut s c).bootAt = s.bootAt ∧ (State.copyOut s c).free = s.free ∧ (State.copyOut s c).out = s.out := by
  unfold State.copyOut
  (repeat' split) <;> simp

@[simp] theorem state_settleCtx_frame (s : State) (h : Hdr) :
    (State.settleCtx s h).modes = s.modes ∧ (State.settleCtx s h).cells = s.cells ∧ (State.settleCtx s h).power = s.power ∧ (State.settleCtx s h).mem = s.mem ∧ (State.settleCtx s h).engines = s.engines ∧ (State.settleCtx s h).admin = s.admin ∧ (State.settleCtx s h).staing = s.staing ∧ (State.settleCtx s h).security = s.security ∧ (State.settleCtx s h).migration = s.migration ∧ (State.settleCtx s h).pending = s.pending ∧ (State.settleCtx s h).now = s.now ∧ (State.settleCtx s h).bootAt = s.bootAt ∧ (State.settleCtx s h).free = s.free := by
  unfold State.settleCtx
  (repeat' split) <;> simp

@[simp] theorem state_settleWait_frame (s : State) (h : Hdr) :
    (State.settleWait s h).modes = s.modes ∧ (State.settleWait s h).cells = s.cells ∧ (State.settleWait s h).power = s.power ∧ (State.settleWait s h).mem = s.mem ∧ (State.settleWait s h).engines = s.engines ∧ (State.settleWait s h).admin = s.admin ∧ (State.settleWait s h).staing = s.staing ∧ (State.settleWait s h).security = s.security ∧ (State.settleWait s h).migration = s.migration ∧ (State.settleWait s h).pending = s.pending ∧ (State.settleWait s h).now = s.now ∧ (State.settleWait s h).bootAt = s.bootAt ∧ (State.settleWait s h).free = s.free := by
  unfold State.settleWait
  (repeat' split) <;> simp

@[simp] theorem state_settleDurable_frame (s : State) :
    (State.settleDurable s).modes = s.modes ∧ (State.settleDurable s).cells = s.cells ∧ (State.settleDurable s).power = s.power ∧ (State.settleDurable s).mem = s.mem ∧ (State.settleDurable s).engines = s.engines ∧ (State.settleDurable s).admin = s.admin ∧ (State.settleDurable s).staing = s.staing ∧ (State.settleDurable s).security = s.security ∧ (State.settleDurable s).migration = s.migration ∧ (State.settleDurable s).pending = s.pending ∧ (State.settleDurable s).now = s.now ∧ (State.settleDurable s).bootAt = s.bootAt ∧ (State.settleDurable s).free = s.free := by
  unfold State.settleDurable
  simp

@[simp] theorem state_askSuspend_frame (s : State) (lun : Nat) (contract : Bool) :
    (State.askSuspend s lun contract).dict = s.dict ∧ (State.askSuspend s lun contract).modes = s.modes ∧ (State.askSuspend s lun contract).sampler = s.sampler ∧ (State.askSuspend s lun contract).cells = s.cells ∧ (State.askSuspend s lun contract).host = s.host ∧ (State.askSuspend s lun contract).sched = s.sched ∧ (State.askSuspend s lun contract).store = s.store ∧ (State.askSuspend s lun contract).power = s.power ∧ (State.askSuspend s lun contract).mem = s.mem ∧ (State.askSuspend s lun contract).cipher = s.cipher ∧ (State.askSuspend s lun contract).engines = s.engines ∧ (State.askSuspend s lun contract).admin = s.admin ∧ (State.askSuspend s lun contract).staing = s.staing ∧ (State.askSuspend s lun contract).security = s.security ∧ (State.askSuspend s lun contract).migration = s.migration ∧ (State.askSuspend s lun contract).pending = s.pending ∧ (State.askSuspend s lun contract).now = s.now ∧ (State.askSuspend s lun contract).bootAt = s.bootAt ∧ (State.askSuspend s lun contract).free = s.free ∧ (State.askSuspend s lun contract).out = s.out := by
  unfold State.askSuspend
  simp

@[simp] theorem state_startAround_frame (s : State) (rd : Nat) (r : MediaRead) (t : Stripe) (m : Nat) (plane : Nat) (page : Nat) :
    (State.startAround s rd r t m plane page).modes = s.modes ∧ (State.startAround s rd r t m plane page).sampler = s.sampler ∧ (State.startAround s rd r t m plane page).cells = s.cells ∧ (State.startAround s rd r t m plane page).host = s.host ∧ (State.startAround s rd r t m plane page).power = s.power ∧ (State.startAround s rd r t m plane page).mem = s.mem ∧ (State.startAround s rd r t m plane page).cipher = s.cipher ∧ (State.startAround s rd r t m plane page).engines = s.engines ∧ (State.startAround s rd r t m plane page).admin = s.admin ∧ (State.startAround s rd r t m plane page).staing = s.staing ∧ (State.startAround s rd r t m plane page).security = s.security ∧ (State.startAround s rd r t m plane page).migration = s.migration ∧ (State.startAround s rd r t m plane page).pending = s.pending ∧ (State.startAround s rd r t m plane page).now = s.now ∧ (State.startAround s rd r t m plane page).bootAt = s.bootAt ∧ (State.startAround s rd r t m plane page).free = s.free ∧ (State.startAround s rd r t m plane page).out = s.out := by
  unfold State.startAround
  simp

@[simp] theorem state_busyPath_frame (s : State) (rd : Nat) :
    (State.busyPath s rd).modes = s.modes ∧ (State.busyPath s rd).sampler = s.sampler ∧ (State.busyPath s rd).cells = s.cells ∧ (State.busyPath s rd).host = s.host ∧ (State.busyPath s rd).power = s.power ∧ (State.busyPath s rd).mem = s.mem ∧ (State.busyPath s rd).cipher = s.cipher ∧ (State.busyPath s rd).engines = s.engines ∧ (State.busyPath s rd).admin = s.admin ∧ (State.busyPath s rd).staing = s.staing ∧ (State.busyPath s rd).security = s.security ∧ (State.busyPath s rd).migration = s.migration ∧ (State.busyPath s rd).pending = s.pending ∧ (State.busyPath s rd).now = s.now ∧ (State.busyPath s rd).bootAt = s.bootAt ∧ (State.busyPath s rd).free = s.free ∧ (State.busyPath s rd).out = s.out := by
  simp only [State.busyPath]
  (repeat' split) <;> simp

@[simp] theorem state_countExempt_frame (s : State) (a : Attach) :
    (State.countExempt s a).modes = s.modes ∧ (State.countExempt s a).sampler = s.sampler ∧ (State.countExempt s a).cells = s.cells ∧ (State.countExempt s a).host = s.host ∧ (State.countExempt s a).sched = s.sched ∧ (State.countExempt s a).flash = s.flash ∧ (State.countExempt s a).store = s.store ∧ (State.countExempt s a).power = s.power ∧ (State.countExempt s a).mem = s.mem ∧ (State.countExempt s a).cipher = s.cipher ∧ (State.countExempt s a).engines = s.engines ∧ (State.countExempt s a).admin = s.admin ∧ (State.countExempt s a).staing = s.staing ∧ (State.countExempt s a).security = s.security ∧ (State.countExempt s a).migration = s.migration ∧ (State.countExempt s a).pending = s.pending ∧ (State.countExempt s a).now = s.now ∧ (State.countExempt s a).bootAt = s.bootAt ∧ (State.countExempt s a).free = s.free ∧ (State.countExempt s a).out = s.out := by
  unfold State.countExempt
  (repeat' split) <;> simp

theorem state_admitRead_some (s : State) (c : Ctx) (k : Chunk) (step3 : Bool) :
    ∀ got, State.admitRead s c k step3 = some got → got.modes = s.modes ∧ got.sampler = s.sampler ∧ got.cells = s.cells ∧ got.power = s.power ∧ got.mem = s.mem ∧ got.cipher = s.cipher ∧ got.engines = s.engines ∧ got.admin = s.admin ∧ got.staing = s.staing ∧ got.security = s.security ∧ got.migration = s.migration ∧ got.pending = s.pending ∧ got.now = s.now ∧ got.bootAt = s.bootAt ∧ got.free = s.free ∧ got.out = s.out := by
  intro got h
  unfold State.admitRead at h
  dsimp only at h
  split at h
  · split at h <;> simp only [if_true, if_false, Bool.false_eq_true] at h
    · cases h
      split <;> simp
    all_goals
      obtain ⟨a, ha, rfl⟩ := Option.map_eq_some_iff.mp h
      have := state_pay_some _ _ _ _ _ _ ha
      split <;> simp [this]
  · split at h
    · cases h
      split <;> simp
    · obtain ⟨a, ha, rfl⟩ := Option.map_eq_some_iff.mp h
      have := state_pay_some _ _ _ _ _ _ ha
      split <;> simp [this]

theorem state_admitWrite_some (s : State) (c : Ctx) (k : Chunk) (step3 : Bool) :
    ∀ got, State.admitWrite s c k step3 = some got → got.modes = s.modes ∧ got.cells = s.cells ∧ got.power = s.power ∧ got.mem = s.mem ∧ got.engines = s.engines ∧ got.admin = s.admin ∧ got.staing = s.staing ∧ got.security = s.security ∧ got.migration = s.migration ∧ got.pending = s.pending ∧ got.now = s.now ∧ got.bootAt = s.bootAt ∧ got.free = s.free ∧ got.out = s.out := by
  intro got h
  unfold State.admitWrite at h
  split at h
  · obtain ⟨a, ha, rfl⟩ := Option.map_eq_some_iff.mp h
    have := state_pay_some _ _ _ _ _ _ ha
    simp [this]
  · cases h

@[simp] theorem state_startPiece_frame (s : State) (c : Ctx) (nsid : Nat) (p : Nat × BitVec 4 × Nat) :
    (State.startPiece s c nsid p).modes = s.modes ∧ (State.startPiece s c nsid p).sampler = s.sampler ∧ (State.startPiece s c nsid p).cells = s.cells ∧ (State.startPiece s c nsid p).power = s.power ∧ (State.startPiece s c nsid p).mem = s.mem ∧ (State.startPiece s c nsid p).cipher = s.cipher ∧ (State.startPiece s c nsid p).engines = s.engines ∧ (State.startPiece s c nsid p).admin = s.admin ∧ (State.startPiece s c nsid p).staing = s.staing ∧ (State.startPiece s c nsid p).security = s.security ∧ (State.startPiece s c nsid p).migration = s.migration ∧ (State.startPiece s c nsid p).pending = s.pending ∧ (State.startPiece s c nsid p).now = s.now ∧ (State.startPiece s c nsid p).bootAt = s.bootAt ∧ (State.startPiece s c nsid p).free = s.free ∧ (State.startPiece s c nsid p).out = s.out := by
  unfold State.startPiece
  simp

theorem state_admitCopy_some (s : State) (c : Ctx) (k : Chunk) (step3 : Bool) :
    ∀ got, State.admitCopy s c k step3 = some got → got.modes = s.modes ∧ got.sampler = s.sampler ∧ got.cells = s.cells ∧ got.power = s.power ∧ got.mem = s.mem ∧ got.cipher = s.cipher ∧ got.engines = s.engines ∧ got.admin = s.admin ∧ got.staing = s.staing ∧ got.security = s.security ∧ got.migration = s.migration ∧ got.pending = s.pending ∧ got.now = s.now ∧ got.bootAt = s.bootAt ∧ got.free = s.free ∧ got.out = s.out := by
  intro got h
  unfold State.admitCopy at h
  split at h
  · cases hp : s.pay c.hdr.fn .copy k.charge step3 with
    | none => rw [hp] at h; cases h
    | some s1 =>
      rw [hp] at h
      cases h
      have := state_pay_some _ _ _ _ _ _ hp
      simp [this]
  · cases h

@[simp] theorem state_noteOutside_frame (s : State) (y0 : Func) :
    (State.noteOutside s y0).dict = s.dict ∧ (State.noteOutside s y0).modes = s.modes ∧ (State.noteOutside s y0).sampler = s.sampler ∧ (State.noteOutside s y0).cells = s.cells ∧ (State.noteOutside s y0).host = s.host ∧ (State.noteOutside s y0).flash = s.flash ∧ (State.noteOutside s y0).store = s.store ∧ (State.noteOutside s y0).power = s.power ∧ (State.noteOutside s y0).mem = s.mem ∧ (State.noteOutside s y0).cipher = s.cipher ∧ (State.noteOutside s y0).engines = s.engines ∧ (State.noteOutside s y0).admin = s.admin ∧ (State.noteOutside s y0).staing = s.staing ∧ (State.noteOutside s y0).security = s.security ∧ (State.noteOutside s y0).migration = s.migration ∧ (State.noteOutside s y0).pending = s.pending ∧ (State.noteOutside s y0).now = s.now ∧ (State.noteOutside s y0).bootAt = s.bootAt ∧ (State.noteOutside s y0).free = s.free ∧ (State.noteOutside s y0).out = s.out := by
  unfold State.noteOutside
  (repeat' split) <;> simp

@[simp] theorem state_noteHeld_frame (s : State) (h : Hdr) :
    (State.noteHeld s h).modes = s.modes ∧ (State.noteHeld s h).sampler = s.sampler ∧ (State.noteHeld s h).cells = s.cells ∧ (State.noteHeld s h).sched = s.sched ∧ (State.noteHeld s h).flash = s.flash ∧ (State.noteHeld s h).store = s.store ∧ (State.noteHeld s h).power = s.power ∧ (State.noteHeld s h).mem = s.mem ∧ (State.noteHeld s h).cipher = s.cipher ∧ (State.noteHeld s h).engines = s.engines ∧ (State.noteHeld s h).admin = s.admin ∧ (State.noteHeld s h).staing = s.staing ∧ (State.noteHeld s h).security = s.security ∧ (State.noteHeld s h).migration = s.migration ∧ (State.noteHeld s h).pending = s.pending ∧ (State.noteHeld s h).now = s.now ∧ (State.noteHeld s h).bootAt = s.bootAt ∧ (State.noteHeld s h).free = s.free ∧ (State.noteHeld s h).out = s.out := by
  unfold State.noteHeld
  (repeat' split) <;> simp

theorem state_admitNext_some (s : State) (h : Hdr) (step3 : Bool) :
    ∀ got, State.admitNext s h step3 = some got → got.modes = s.modes ∧ got.cells = s.cells ∧ got.power = s.power ∧ got.mem = s.mem ∧ got.engines = s.engines ∧ got.admin = s.admin ∧ got.staing = s.staing ∧ got.security = s.security ∧ got.migration = s.migration ∧ got.pending = s.pending ∧ got.now = s.now ∧ got.bootAt = s.bootAt ∧ got.free = s.free ∧ got.out = s.out := by
  intro got h
  unfold State.admitNext at h
  split at h
  · cases h
  · split at h
    · dsimp only at h
      obtain ⟨a, ha, rfl⟩ := Option.map_eq_some_iff.mp h
      split at ha
      · cases ha
      · split at ha
        · split at ha
          · cases ha
          · have := state_admitRead_some _ _ _ _ _ ha
            split <;> simp [this]
        · have := state_admitWrite_some _ _ _ _ _ ha
          split <;> simp [this]
        · have := state_admitCopy_some _ _ _ _ _ ha
          split <;> simp [this]
    · cases h

@[simp] theorem state_admitMany_frame (s : State) (h : Hdr) (step3 : Bool) (y0 : Nat) :
    (State.admitMany s h step3 y0).modes = s.modes ∧ (State.admitMany s h step3 y0).cells = s.cells ∧ (State.admitMany s h step3 y0).power = s.power ∧ (State.admitMany s h step3 y0).mem = s.mem ∧ (State.admitMany s h step3 y0).engines = s.engines ∧ (State.admitMany s h step3 y0).admin = s.admin ∧ (State.admitMany s h step3 y0).staing = s.staing ∧ (State.admitMany s h step3 y0).security = s.security ∧ (State.admitMany s h step3 y0).migration = s.migration ∧ (State.admitMany s h step3 y0).pending = s.pending ∧ (State.admitMany s h step3 y0).now = s.now ∧ (State.admitMany s h step3 y0).bootAt = s.bootAt ∧ (State.admitMany s h step3 y0).free = s.free ∧ (State.admitMany s h step3 y0).out = s.out := by
  induction y0 generalizing s h step3 <;> (unfold State.admitMany; grind [→ state_admitNext_some])

@[simp] theorem state_noteWrites_frame (s : State) :
    (State.noteWrites s).dict = s.dict ∧ (State.noteWrites s).modes = s.modes ∧ (State.noteWrites s).sampler = s.sampler ∧ (State.noteWrites s).cells = s.cells ∧ (State.noteWrites s).host = s.host ∧ (State.noteWrites s).flash = s.flash ∧ (State.noteWrites s).store = s.store ∧ (State.noteWrites s).power = s.power ∧ (State.noteWrites s).mem = s.mem ∧ (State.noteWrites s).cipher = s.cipher ∧ (State.noteWrites s).engines = s.engines ∧ (State.noteWrites s).admin = s.admin ∧ (State.noteWrites s).staing = s.staing ∧ (State.noteWrites s).security = s.security ∧ (State.noteWrites s).migration = s.migration ∧ (State.noteWrites s).pending = s.pending ∧ (State.noteWrites s).now = s.now ∧ (State.noteWrites s).bootAt = s.bootAt ∧ (State.noteWrites s).free = s.free ∧ (State.noteWrites s).out = s.out := by
  unfold State.noteWrites
  simp

@[simp] theorem state_admitFor_frame (s : State) (h : Hdr) (step3 : Bool) :
    (State.admitFor s h step3).modes = s.modes ∧ (State.admitFor s h step3).cells = s.cells ∧ (State.admitFor s h step3).power = s.power ∧ (State.admitFor s h step3).mem = s.mem ∧ (State.admitFor s h step3).engines = s.engines ∧ (State.admitFor s h step3).admin = s.admin ∧ (State.admitFor s h step3).staing = s.staing ∧ (State.admitFor s h step3).security = s.security ∧ (State.admitFor s h step3).migration = s.migration ∧ (State.admitFor s h step3).pending = s.pending ∧ (State.admitFor s h step3).now = s.now ∧ (State.admitFor s h step3).bootAt = s.bootAt ∧ (State.admitFor s h step3).free = s.free := by
  unfold State.admitFor
  simp

@[simp] theorem state_zoneTo_frame (s : State) (nsid : Nat) (z : Nat) (g : Zone → Zone) :
    (State.zoneTo s nsid z g).dict = s.dict ∧ (State.zoneTo s nsid z g).modes = s.modes ∧ (State.zoneTo s nsid z g).sampler = s.sampler ∧ (State.zoneTo s nsid z g).cells = s.cells ∧ (State.zoneTo s nsid z g).host = s.host ∧ (State.zoneTo s nsid z g).sched = s.sched ∧ (State.zoneTo s nsid z g).power = s.power ∧ (State.zoneTo s nsid z g).mem = s.mem ∧ (State.zoneTo s nsid z g).cipher = s.cipher ∧ (State.zoneTo s nsid z g).engines = s.engines ∧ (State.zoneTo s nsid z g).admin = s.admin ∧ (State.zoneTo s nsid z g).staing = s.staing ∧ (State.zoneTo s nsid z g).security = s.security ∧ (State.zoneTo s nsid z g).migration = s.migration ∧ (State.zoneTo s nsid z g).pending = s.pending ∧ (State.zoneTo s nsid z g).now = s.now ∧ (State.zoneTo s nsid z g).bootAt = s.bootAt ∧ (State.zoneTo s nsid z g).free = s.free ∧ (State.zoneTo s nsid z g).out = s.out := by
  unfold State.zoneTo
  (repeat' split) <;> simp

@[simp] theorem state_spoilDigest_frame (s : State) (nsid : Nat) (z : Nat) (cause : Nat) :
    (State.spoilDigest s nsid z cause).modes = s.modes ∧ (State.spoilDigest s nsid z cause).cells = s.cells ∧ (State.spoilDigest s nsid z cause).host = s.host ∧ (State.spoilDigest s nsid z cause).sched = s.sched ∧ (State.spoilDigest s nsid z cause).flash = s.flash ∧ (State.spoilDigest s nsid z cause).power = s.power ∧ (State.spoilDigest s nsid z cause).mem = s.mem ∧ (State.spoilDigest s nsid z cause).cipher = s.cipher ∧ (State.spoilDigest s nsid z cause).engines = s.engines ∧ (State.spoilDigest s nsid z cause).admin = s.admin ∧ (State.spoilDigest s nsid z cause).staing = s.staing ∧ (State.spoilDigest s nsid z cause).security = s.security ∧ (State.spoilDigest s nsid z cause).migration = s.migration ∧ (State.spoilDigest s nsid z cause).pending = s.pending ∧ (State.spoilDigest s nsid z cause).now = s.now ∧ (State.spoilDigest s nsid z cause).bootAt = s.bootAt ∧ (State.spoilDigest s nsid z cause).free = s.free ∧ (State.spoilDigest s nsid z cause).out = s.out := by
  unfold State.spoilDigest
  (repeat' split) <;> simp

@[simp] theorem state_makeRoom_frame (s : State) (nsid : Nat) (n : Ns) :
    (State.makeRoom s nsid n).dict = s.dict ∧ (State.makeRoom s nsid n).modes = s.modes ∧ (State.makeRoom s nsid n).sampler = s.sampler ∧ (State.makeRoom s nsid n).cells = s.cells ∧ (State.makeRoom s nsid n).host = s.host ∧ (State.makeRoom s nsid n).sched = s.sched ∧ (State.makeRoom s nsid n).power = s.power ∧ (State.makeRoom s nsid n).mem = s.mem ∧ (State.makeRoom s nsid n).cipher = s.cipher ∧ (State.makeRoom s nsid n).engines = s.engines ∧ (State.makeRoom s nsid n).admin = s.admin ∧ (State.makeRoom s nsid n).staing = s.staing ∧ (State.makeRoom s nsid n).security = s.security ∧ (State.makeRoom s nsid n).migration = s.migration ∧ (State.makeRoom s nsid n).pending = s.pending ∧ (State.makeRoom s nsid n).now = s.now ∧ (State.makeRoom s nsid n).bootAt = s.bootAt ∧ (State.makeRoom s nsid n).free = s.free ∧ (State.makeRoom s nsid n).out = s.out := by
  unfold State.makeRoom
  (repeat' split) <;> simp

theorem state_openable_some (s : State) (nsid : Nat) (y : Zone) :
    ∀ got, State.openable s nsid y = .ok got → got.dict = s.dict ∧ got.modes = s.modes ∧ got.sampler = s.sampler ∧ got.cells = s.cells ∧ got.host = s.host ∧ got.sched = s.sched ∧ got.power = s.power ∧ got.mem = s.mem ∧ got.cipher = s.cipher ∧ got.engines = s.engines ∧ got.admin = s.admin ∧ got.staing = s.staing ∧ got.security = s.security ∧ got.migration = s.migration ∧ got.pending = s.pending ∧ got.now = s.now ∧ got.bootAt = s.bootAt ∧ got.free = s.free ∧ got.out = s.out := by
  intro got h
  unfold State.openable at h
  (repeat' split at h) <;> first | (cases h; done) | (cases h; simp) | grind []

theorem foldl_or_aux {α β : Type} (f : α → Option β) (l : List α) {r : β} :
    ∀ m : Option β, l.foldl (fun (m : Option β) g => m.or (f g)) m = some r → m = some r ∨ ∃ g, f g = some r := by
  induction l with
  | nil => exact fun _ hm => .inl hm
  | cons g t ih =>
    intro m hm
    cases ih _ hm with
    | inl h1 =>
      cases m with
      | none => exact .inr ⟨g, h1⟩
      | some v => exact .inl h1
    | inr h1 => exact .inr h1

theorem foldl_or_some {α β : Type} (f : α → Option β) (l : List α) {r : β}
    (h : l.foldl (fun (m : Option β) g => m.or (f g)) none = some r) : ∃ g, f g = some r := by
  cases foldl_or_aux f l _ h with
  | inl h1 => cases h1
  | inr h1 => exact h1

theorem state_zoneStripe_some (s : State) (nsid : Nat) (z : Nat) (n : Ns) :
    ∀ got, State.zoneStripe s nsid z n = .ok got → got.dict = s.dict ∧ got.modes = s.modes ∧ got.sampler = s.sampler ∧ got.cells = s.cells ∧ got.host = s.host ∧ got.sched = s.sched ∧ got.power = s.power ∧ got.mem = s.mem ∧ got.cipher = s.cipher ∧ got.engines = s.engines ∧ got.admin = s.admin ∧ got.staing = s.staing ∧ got.security = s.security ∧ got.migration = s.migration ∧ got.pending = s.pending ∧ got.now = s.now ∧ got.bootAt = s.bootAt ∧ got.free = s.free ∧ got.out = s.out := by
  intro got h
  unfold State.zoneStripe at h
  split at h
  · cases h; simp
  · dsimp only at h
    split at h
    · cases h
    · rename_i hf
      obtain ⟨g, hg⟩ := foldl_or_some _ _ hf
      have := state_openStripe_some _ _ _ _ _ _ hg
      cases h
      dsimp only at this
      simp [this]

theorem state_openZone_some (s : State) (nsid : Nat) (z : Nat) (st : ZState) :
    ∀ got, State.openZone s nsid z st = .ok got → got.dict = s.dict ∧ got.modes = s.modes ∧ got.sampler = s.sampler ∧ got.cells = s.cells ∧ got.host = s.host ∧ got.sched = s.sched ∧ got.power = s.power ∧ got.mem = s.mem ∧ got.cipher = s.cipher ∧ got.engines = s.engines ∧ got.admin = s.admin ∧ got.staing = s.staing ∧ got.security = s.security ∧ got.migration = s.migration ∧ got.pending = s.pending ∧ got.now = s.now ∧ got.bootAt = s.bootAt ∧ got.free = s.free ∧ got.out = s.out := by
  intro got h
  unfold State.openZone at h
  split at h
  · cases h
  · split at h
    · cases h
    · rename_i ho
      have := state_openable_some _ _ _ _ ho
      cases h
      simp [this]

theorem state_assignWrite_some (s : State) (nsid : Nat) (z : Nat) (n : Nat) (at_ : Option Nat) :
    ∀ got, State.assignWrite s nsid z n at_ = .ok got → got.2.dict = s.dict ∧ got.2.modes = s.modes ∧ got.2.sampler = s.sampler ∧ got.2.cells = s.cells ∧ got.2.host = s.host ∧ got.2.sched = s.sched ∧ got.2.power = s.power ∧ got.2.mem = s.mem ∧ got.2.cipher = s.cipher ∧ got.2.engines = s.engines ∧ got.2.admin = s.admin ∧ got.2.staing = s.staing ∧ got.2.security = s.security ∧ got.2.migration = s.migration ∧ got.2.pending = s.pending ∧ got.2.now = s.now ∧ got.2.bootAt = s.bootAt ∧ got.2.free = s.free ∧ got.2.out = s.out := by
  intro got h
  unfold State.assignWrite at h
  split at h
  · cases h
  · dsimp only at h
    split at h
    · cases h
    · split at h
      · cases h
      · split at h
        · cases h
        · split at h
          · cases h
          · rename_i s1 ho
            split at h
            · cases h
            · rename_i hz
              have h2 := state_zoneStripe_some _ _ _ _ _ hz
              cases h
              split at ho
              · cases ho
                simp [h2]
              · have h1 := state_openZone_some _ _ _ _ _ ho
                simp [h2, h1]

@[simp] theorem state_goRead_frame (s : State) (h : Hdr) (a : ReadArgs) (purpose : Purpose) :
    (State.goRead s h a purpose).modes = s.modes ∧ (State.goRead s h a purpose).cells = s.cells ∧ (State.goRead s h a purpose).power = s.power ∧ (State.goRead s h a purpose).mem = s.mem ∧ (State.goRead s h a purpose).engines = s.engines ∧ (State.goRead s h a purpose).admin = s.admin ∧ (State.goRead s h a purpose).staing = s.staing ∧ (State.goRead s h a purpose).security = s.security ∧ (State.goRead s h a purpose).migration = s.migration ∧ (State.goRead s h a purpose).pending = s.pending ∧ (State.goRead s h a purpose).now = s.now ∧ (State.goRead s h a purpose).bootAt = s.bootAt ∧ (State.goRead s h a purpose).free = s.free := by
  unfold State.goRead
  dsimp only
  split
  · simp
  · split
    · simp
    · cases State.ctx? _ h <;> simp

@[simp] theorem state_goChunks_frame (s : State) (h : Hdr) (a : WriteArgs) (slba : Nat) (dw0 : Nat) (dw1 : Nat) :
    (State.goChunks s h a slba dw0 dw1).modes = s.modes ∧ (State.goChunks s h a slba dw0 dw1).cells = s.cells ∧ (State.goChunks s h a slba dw0 dw1).power = s.power ∧ (State.goChunks s h a slba dw0 dw1).mem = s.mem ∧ (State.goChunks s h a slba dw0 dw1).engines = s.engines ∧ (State.goChunks s h a slba dw0 dw1).admin = s.admin ∧ (State.goChunks s h a slba dw0 dw1).staing = s.staing ∧ (State.goChunks s h a slba dw0 dw1).security = s.security ∧ (State.goChunks s h a slba dw0 dw1).migration = s.migration ∧ (State.goChunks s h a slba dw0 dw1).pending = s.pending ∧ (State.goChunks s h a slba dw0 dw1).now = s.now ∧ (State.goChunks s h a slba dw0 dw1).bootAt = s.bootAt ∧ (State.goChunks s h a slba dw0 dw1).free = s.free := by
  unfold State.goChunks
  simp

@[simp] theorem state_goWrite_frame (s : State) (h : Hdr) (a : WriteArgs) :
    (State.goWrite s h a).modes = s.modes ∧ (State.goWrite s h a).cells = s.cells ∧ (State.goWrite s h a).power = s.power ∧ (State.goWrite s h a).mem = s.mem ∧ (State.goWrite s h a).engines = s.engines ∧ (State.goWrite s h a).admin = s.admin ∧ (State.goWrite s h a).staing = s.staing ∧ (State.goWrite s h a).security = s.security ∧ (State.goWrite s h a).migration = s.migration ∧ (State.goWrite s h a).pending = s.pending ∧ (State.goWrite s h a).now = s.now ∧ (State.goWrite s h a).bootAt = s.bootAt ∧ (State.goWrite s h a).free = s.free := by
  unfold State.goWrite
  (repeat' split) <;> grind [→ state_assignWrite_some, state_finish_frame, state_goChunks_frame]

@[simp] theorem state_assignAppend_frame (s : State) (h : Hdr) (a : WriteArgs) :
    (State.assignAppend s h a).modes = s.modes ∧ (State.assignAppend s h a).cells = s.cells ∧ (State.assignAppend s h a).power = s.power ∧ (State.assignAppend s h a).mem = s.mem ∧ (State.assignAppend s h a).engines = s.engines ∧ (State.assignAppend s h a).admin = s.admin ∧ (State.assignAppend s h a).staing = s.staing ∧ (State.assignAppend s h a).security = s.security ∧ (State.assignAppend s h a).migration = s.migration ∧ (State.assignAppend s h a).pending = s.pending ∧ (State.assignAppend s h a).now = s.now ∧ (State.assignAppend s h a).bootAt = s.bootAt ∧ (State.assignAppend s h a).free = s.free := by
  unfold State.assignAppend
  (repeat' split) <;> grind [→ state_assignWrite_some, state_finish_frame, state_goChunks_frame]

@[simp] theorem state_goAppend_frame (s : State) (h : Hdr) (a : WriteArgs) :
    (State.goAppend s h a).modes = s.modes ∧ (State.goAppend s h a).cells = s.cells ∧ (State.goAppend s h a).power = s.power ∧ (State.goAppend s h a).mem = s.mem ∧ (State.goAppend s h a).engines = s.engines ∧ (State.goAppend s h a).admin = s.admin ∧ (State.goAppend s h a).staing = s.staing ∧ (State.goAppend s h a).security = s.security ∧ (State.goAppend s h a).migration = s.migration ∧ (State.goAppend s h a).pending = s.pending ∧ (State.goAppend s h a).now = s.now ∧ (State.goAppend s h a).bootAt = s.bootAt ∧ (State.goAppend s h a).free = s.free := by
  unfold State.goAppend
  (repeat' split) <;> grind [state_assignAppend_frame, state_countOverlapWait_frame, state_modCtx_frame]

@[simp] theorem state_clearUnit_frame (s : State) (nsid : Nat) (u : Nat) (e : MapEntry) :
    (State.clearUnit s nsid u e).modes = s.modes ∧ (State.clearUnit s nsid u e).sampler = s.sampler ∧ (State.clearUnit s nsid u e).cells = s.cells ∧ (State.clearUnit s nsid u e).host = s.host ∧ (State.clearUnit s nsid u e).sched = s.sched ∧ (State.clearUnit s nsid u e).power = s.power ∧ (State.clearUnit s nsid u e).mem = s.mem ∧ (State.clearUnit s nsid u e).cipher = s.cipher ∧ (State.clearUnit s nsid u e).engines = s.engines ∧ (State.clearUnit s nsid u e).admin = s.admin ∧ (State.clearUnit s nsid u e).staing = s.staing ∧ (State.clearUnit s nsid u e).security = s.security ∧ (State.clearUnit s nsid u e).migration = s.migration ∧ (State.clearUnit s nsid u e).pending = s.pending ∧ (State.clearUnit s nsid u e).now = s.now ∧ (State.clearUnit s nsid u e).bootAt = s.bootAt ∧ (State.clearUnit s nsid u e).free = s.free ∧ (State.clearUnit s nsid u e).out = s.out := by
  unfold State.clearUnit
  (repeat' split) <;> simp

@[simp] theorem state_blankUnits_frame (s : State) (f : Func) (stamp : Nat) (nsid : Nat) (slba : Nat) (n : Nat) (uncorr : Bool) :
    (State.blankUnits s f stamp nsid slba n uncorr).modes = s.modes ∧ (State.blankUnits s f stamp nsid slba n uncorr).cells = s.cells ∧ (State.blankUnits s f stamp nsid slba n uncorr).power = s.power ∧ (State.blankUnits s f stamp nsid slba n uncorr).mem = s.mem ∧ (State.blankUnits s f stamp nsid slba n uncorr).engines = s.engines ∧ (State.blankUnits s f stamp nsid slba n uncorr).admin = s.admin ∧ (State.blankUnits s f stamp nsid slba n uncorr).staing = s.staing ∧ (State.blankUnits s f stamp nsid slba n uncorr).security = s.security ∧ (State.blankUnits s f stamp nsid slba n uncorr).migration = s.migration ∧ (State.blankUnits s f stamp nsid slba n uncorr).pending = s.pending ∧ (State.blankUnits s f stamp nsid slba n uncorr).now = s.now ∧ (State.blankUnits s f stamp nsid slba n uncorr).bootAt = s.bootAt ∧ (State.blankUnits s f stamp nsid slba n uncorr).free = s.free ∧ (State.blankUnits s f stamp nsid slba n uncorr).out = s.out := by
  simp only [State.blankUnits]
  (repeat' split) <;> simp

@[simp] theorem state_blankZone_frame (s : State) (h : Hdr) (nsid : Nat) (slba : Nat) (n : Nat) (uncorr : Bool) (x : Ns) :
    (State.blankZone s h nsid slba n uncorr x).modes = s.modes ∧ (State.blankZone s h nsid slba n uncorr x).cells = s.cells ∧ (State.blankZone s h nsid slba n uncorr x).power = s.power ∧ (State.blankZone s h nsid slba n uncorr x).mem = s.mem ∧ (State.blankZone s h nsid slba n uncorr x).engines = s.engines ∧ (State.blankZone s h nsid slba n uncorr x).admin = s.admin ∧ (State.blankZone s h nsid slba n uncorr x).staing = s.staing ∧ (State.blankZone s h nsid slba n uncorr x).security = s.security ∧ (State.blankZone s h nsid slba n uncorr x).migration = s.migration ∧ (State.blankZone s h nsid slba n uncorr x).pending = s.pending ∧ (State.blankZone s h nsid slba n uncorr x).now = s.now ∧ (State.blankZone s h nsid slba n uncorr x).bootAt = s.bootAt ∧ (State.blankZone s h nsid slba n uncorr x).free = s.free ∧ (State.blankZone s h nsid slba n uncorr x).out = s.out := by
  unfold State.blankZone
  dsimp only
  split
  · simp
  · rename_i hs
    have := state_assignWrite_some _ _ _ _ _ _ hs
    dsimp only at this
    split <;> simp [this]

@[simp] theorem state_goBlank_frame (s : State) (h : Hdr) (r : Range) (uncorr : Bool) :
    (State.goBlank s h r uncorr).modes = s.modes ∧ (State.goBlank s h r uncorr).cells = s.cells ∧ (State.goBlank s h r uncorr).power = s.power ∧ (State.goBlank s h r uncorr).mem = s.mem ∧ (State.goBlank s h r uncorr).engines = s.engines ∧ (State.goBlank s h r uncorr).admin = s.admin ∧ (State.goBlank s h r uncorr).staing = s.staing ∧ (State.goBlank s h r uncorr).security = s.security ∧ (State.goBlank s h r uncorr).migration = s.migration ∧ (State.goBlank s h r uncorr).pending = s.pending ∧ (State.goBlank s h r uncorr).now = s.now ∧ (State.goBlank s h r uncorr).bootAt = s.bootAt ∧ (State.goBlank s h r uncorr).free = s.free ∧ (State.goBlank s h r uncorr).out = s.out := by
  unfold State.goBlank
  (repeat' split) <;> simp

@[simp] theorem state_deallocate_frame (s : State) (nsid : Nat) (slba : Nat) (n : Nat) :
    (State.deallocate s nsid slba n).modes = s.modes ∧ (State.deallocate s nsid slba n).sampler = s.sampler ∧ (State.deallocate s nsid slba n).cells = s.cells ∧ (State.deallocate s nsid slba n).host = s.host ∧ (State.deallocate s nsid slba n).sched = s.sched ∧ (State.deallocate s nsid slba n).power = s.power ∧ (State.deallocate s nsid slba n).mem = s.mem ∧ (State.deallocate s nsid slba n).cipher = s.cipher ∧ (State.deallocate s nsid slba n).engines = s.engines ∧ (State.deallocate s nsid slba n).admin = s.admin ∧ (State.deallocate s nsid slba n).staing = s.staing ∧ (State.deallocate s nsid slba n).security = s.security ∧ (State.deallocate s nsid slba n).migration = s.migration ∧ (State.deallocate s nsid slba n).pending = s.pending ∧ (State.deallocate s nsid slba n).now = s.now ∧ (State.deallocate s nsid slba n).bootAt = s.bootAt ∧ (State.deallocate s nsid slba n).free = s.free ∧ (State.deallocate s nsid slba n).out = s.out := by
  simp only [State.deallocate]
  (repeat' split) <;> simp

@[simp] theorem state_goDsm_frame (s : State) (h : Hdr) (nsid : Nat) (dealloc : Bool) (ranges : List Range) :
    (State.goDsm s h nsid dealloc ranges).modes = s.modes ∧ (State.goDsm s h nsid dealloc ranges).sampler = s.sampler ∧ (State.goDsm s h nsid dealloc ranges).cells = s.cells ∧ (State.goDsm s h nsid dealloc ranges).sched = s.sched ∧ (State.goDsm s h nsid dealloc ranges).power = s.power ∧ (State.goDsm s h nsid dealloc ranges).mem = s.mem ∧ (State.goDsm s h nsid dealloc ranges).cipher = s.cipher ∧ (State.goDsm s h nsid dealloc ranges).engines = s.engines ∧ (State.goDsm s h nsid dealloc ranges).admin = s.admin ∧ (State.goDsm s h nsid dealloc ranges).staing = s.staing ∧ (State.goDsm s h nsid dealloc ranges).security = s.security ∧ (State.goDsm s h nsid dealloc ranges).migration = s.migration ∧ (State.goDsm s h nsid dealloc ranges).pending = s.pending ∧ (State.goDsm s h nsid dealloc ranges).now = s.now ∧ (State.goDsm s h nsid dealloc ranges).bootAt = s.bootAt ∧ (State.goDsm s h nsid dealloc ranges).free = s.free ∧ (State.goDsm s h nsid dealloc ranges).out = s.out := by
  unfold State.goDsm
  simp

@[simp] theorem state_goCopy_frame (s : State) (h : Hdr) (a : CopyArgs) :
    (State.goCopy s h a).modes = s.modes ∧ (State.goCopy s h a).cells = s.cells ∧ (State.goCopy s h a).power = s.power ∧ (State.goCopy s h a).mem = s.mem ∧ (State.goCopy s h a).engines = s.engines ∧ (State.goCopy s h a).admin = s.admin ∧ (State.goCopy s h a).staing = s.staing ∧ (State.goCopy s h a).security = s.security ∧ (State.goCopy s h a).migration = s.migration ∧ (State.goCopy s h a).pending = s.pending ∧ (State.goCopy s h a).now = s.now ∧ (State.goCopy s h a).bootAt = s.bootAt ∧ (State.goCopy s h a).free = s.free := by
  unfold State.goCopy
  split
  · simp
  · dsimp only
    split
    · simp
    · rename_i x _ _ s1 hs
      split at hs
      · cases ha : s.assignWrite a.nsid (a.sdlba / s.zsze x.width) (copyLen a.ranges) (some (a.sdlba % s.zsze x.width)) with
        | error e => rw [ha] at hs; cases hs
        | ok v =>
          rw [ha] at hs
          cases hs
          have := state_assignWrite_some _ _ _ _ _ _ ha
          simp [this]
      · cases hs
        simp

@[simp] theorem state_resume_frame (s : State) (h : Hdr) (y0 : Instr) :
    (State.resume s h y0).modes = s.modes ∧ (State.resume s h y0).cells = s.cells ∧ (State.resume s h y0).power = s.power ∧ (State.resume s h y0).mem = s.mem ∧ (State.resume s h y0).engines = s.engines ∧ (State.resume s h y0).admin = s.admin ∧ (State.resume s h y0).staing = s.staing ∧ (State.resume s h y0).security = s.security ∧ (State.resume s h y0).migration = s.migration ∧ (State.resume s h y0).pending = s.pending ∧ (State.resume s h y0).now = s.now ∧ (State.resume s h y0).bootAt = s.bootAt ∧ (State.resume s h y0).free = s.free := by
  unfold State.resume
  (repeat' split) <;> simp

@[simp] theorem state_wakeOrdered_frame (s : State) (c : Ctx) :
    (State.wakeOrdered s c).modes = s.modes ∧ (State.wakeOrdered s c).cells = s.cells ∧ (State.wakeOrdered s c).power = s.power ∧ (State.wakeOrdered s c).mem = s.mem ∧ (State.wakeOrdered s c).engines = s.engines ∧ (State.wakeOrdered s c).admin = s.admin ∧ (State.wakeOrdered s c).staing = s.staing ∧ (State.wakeOrdered s c).security = s.security ∧ (State.wakeOrdered s c).migration = s.migration ∧ (State.wakeOrdered s c).pending = s.pending ∧ (State.wakeOrdered s c).now = s.now ∧ (State.wakeOrdered s c).bootAt = s.bootAt ∧ (State.wakeOrdered s c).free = s.free := by
  unfold State.wakeOrdered
  (repeat' split) <;> simp

@[simp] theorem state_wakeAll_frame (s : State) :
    (State.wakeAll s).modes = s.modes ∧ (State.wakeAll s).cells = s.cells ∧ (State.wakeAll s).power = s.power ∧ (State.wakeAll s).mem = s.mem ∧ (State.wakeAll s).engines = s.engines ∧ (State.wakeAll s).admin = s.admin ∧ (State.wakeAll s).staing = s.staing ∧ (State.wakeAll s).security = s.security ∧ (State.wakeAll s).migration = s.migration ∧ (State.wakeAll s).pending = s.pending ∧ (State.wakeAll s).now = s.now ∧ (State.wakeAll s).bootAt = s.bootAt ∧ (State.wakeAll s).free = s.free := by
  unfold State.wakeAll
  simp

@[simp] theorem state_hostReadFails_frame (s : State) (h : Hdr) :
    (State.hostReadFails s h).modes = s.modes ∧ (State.hostReadFails s h).sampler = s.sampler ∧ (State.hostReadFails s h).cells = s.cells ∧ (State.hostReadFails s h).sched = s.sched ∧ (State.hostReadFails s h).flash = s.flash ∧ (State.hostReadFails s h).store = s.store ∧ (State.hostReadFails s h).power = s.power ∧ (State.hostReadFails s h).mem = s.mem ∧ (State.hostReadFails s h).cipher = s.cipher ∧ (State.hostReadFails s h).engines = s.engines ∧ (State.hostReadFails s h).admin = s.admin ∧ (State.hostReadFails s h).staing = s.staing ∧ (State.hostReadFails s h).security = s.security ∧ (State.hostReadFails s h).migration = s.migration ∧ (State.hostReadFails s h).pending = s.pending ∧ (State.hostReadFails s h).now = s.now ∧ (State.hostReadFails s h).bootAt = s.bootAt ∧ (State.hostReadFails s h).free = s.free ∧ (State.hostReadFails s h).out = s.out := by
  unfold State.hostReadFails
  (repeat' split) <;> simp

@[simp] theorem state_giveUpStripe_frame (s : State) (id : Nat) (secure : Bool) :
    (State.giveUpStripe s id secure).modes = s.modes ∧ (State.giveUpStripe s id secure).sampler = s.sampler ∧ (State.giveUpStripe s id secure).cells = s.cells ∧ (State.giveUpStripe s id secure).host = s.host ∧ (State.giveUpStripe s id secure).sched = s.sched ∧ (State.giveUpStripe s id secure).flash = s.flash ∧ (State.giveUpStripe s id secure).power = s.power ∧ (State.giveUpStripe s id secure).mem = s.mem ∧ (State.giveUpStripe s id secure).cipher = s.cipher ∧ (State.giveUpStripe s id secure).engines = s.engines ∧ (State.giveUpStripe s id secure).admin = s.admin ∧ (State.giveUpStripe s id secure).staing = s.staing ∧ (State.giveUpStripe s id secure).security = s.security ∧ (State.giveUpStripe s id secure).migration = s.migration ∧ (State.giveUpStripe s id secure).pending = s.pending ∧ (State.giveUpStripe s id secure).now = s.now ∧ (State.giveUpStripe s id secure).bootAt = s.bootAt ∧ (State.giveUpStripe s id secure).free = s.free ∧ (State.giveUpStripe s id secure).out = s.out := by
  unfold State.giveUpStripe
  (repeat' split) <;> simp

@[simp] theorem state_clearZone_frame (s : State) (nsid : Nat) (z : Nat) (secure : Bool) (y : Zone → Zone) :
    (State.clearZone s nsid z secure y).modes = s.modes ∧ (State.clearZone s nsid z secure y).sampler = s.sampler ∧ (State.clearZone s nsid z secure y).cells = s.cells ∧ (State.clearZone s nsid z secure y).host = s.host ∧ (State.clearZone s nsid z secure y).sched = s.sched ∧ (State.clearZone s nsid z secure y).power = s.power ∧ (State.clearZone s nsid z secure y).mem = s.mem ∧ (State.clearZone s nsid z secure y).cipher = s.cipher ∧ (State.clearZone s nsid z secure y).engines = s.engines ∧ (State.clearZone s nsid z secure y).admin = s.admin ∧ (State.clearZone s nsid z secure y).staing = s.staing ∧ (State.clearZone s nsid z secure y).security = s.security ∧ (State.clearZone s nsid z secure y).pending = s.pending ∧ (State.clearZone s nsid z secure y).now = s.now ∧ (State.clearZone s nsid z secure y).bootAt = s.bootAt ∧ (State.clearZone s nsid z secure y).free = s.free ∧ (State.clearZone s nsid z secure y).out = s.out := by
  simp only [State.clearZone]
  (repeat' split) <;> simp

@[simp] theorem state_emptyZone_frame (s : State) (nsid : Nat) (z : Nat) (st : ZState) (epoch : Nat) (secure : Bool) :
    (State.emptyZone s nsid z st epoch secure).modes = s.modes ∧ (State.emptyZone s nsid z st epoch secure).sampler = s.sampler ∧ (State.emptyZone s nsid z st epoch secure).cells = s.cells ∧ (State.emptyZone s nsid z st epoch secure).host = s.host ∧ (State.emptyZone s nsid z st epoch secure).sched = s.sched ∧ (State.emptyZone s nsid z st epoch secure).power = s.power ∧ (State.emptyZone s nsid z st epoch secure).mem = s.mem ∧ (State.emptyZone s nsid z st epoch secure).cipher = s.cipher ∧ (State.emptyZone s nsid z st epoch secure).engines = s.engines ∧ (State.emptyZone s nsid z st epoch secure).admin = s.admin ∧ (State.emptyZone s nsid z st epoch secure).staing = s.staing ∧ (State.emptyZone s nsid z st epoch secure).security = s.security ∧ (State.emptyZone s nsid z st epoch secure).pending = s.pending ∧ (State.emptyZone s nsid z st epoch secure).now = s.now ∧ (State.emptyZone s nsid z st epoch secure).bootAt = s.bootAt ∧ (State.emptyZone s nsid z st epoch secure).free = s.free ∧ (State.emptyZone s nsid z st epoch secure).out = s.out := by
  simp only [State.emptyZone]
  (repeat' split) <;> simp

theorem state_closeZone_some (s : State) (nsid : Nat) (z : Nat) (y : Zone) :
    ∀ got, State.closeZone s nsid z y = .ok got → got.dict = s.dict ∧ got.modes = s.modes ∧ got.sampler = s.sampler ∧ got.cells = s.cells ∧ got.host = s.host ∧ got.sched = s.sched ∧ got.power = s.power ∧ got.mem = s.mem ∧ got.cipher = s.cipher ∧ got.engines = s.engines ∧ got.admin = s.admin ∧ got.staing = s.staing ∧ got.security = s.security ∧ got.migration = s.migration ∧ got.pending = s.pending ∧ got.now = s.now ∧ got.bootAt = s.bootAt ∧ got.free = s.free ∧ got.out = s.out := by
  intro got h
  unfold State.closeZone at h
  (repeat' split at h) <;> first | (cases h; done) | (cases h; simp) | grind []

@[simp] theorem state_padSlots_frame (s : State) (nsid : Nat) (z : Nat) :
    (State.padSlots s nsid z).modes = s.modes ∧ (State.padSlots s nsid z).cells = s.cells ∧ (State.padSlots s nsid z).host = s.host ∧ (State.padSlots s nsid z).sched = s.sched ∧ (State.padSlots s nsid z).power = s.power ∧ (State.padSlots s nsid z).mem = s.mem ∧ (State.padSlots s nsid z).engines = s.engines ∧ (State.padSlots s nsid z).admin = s.admin ∧ (State.padSlots s nsid z).staing = s.staing ∧ (State.padSlots s nsid z).security = s.security ∧ (State.padSlots s nsid z).migration = s.migration ∧ (State.padSlots s nsid z).pending = s.pending ∧ (State.padSlots s nsid z).now = s.now ∧ (State.padSlots s nsid z).bootAt = s.bootAt ∧ (State.padSlots s nsid z).free = s.free ∧ (State.padSlots s nsid z).out = s.out := by
  unfold State.padSlots
  and_intros
  all_goals (repeat' first | rfl | assumption | (intros; trivial) | (dsimp only; done) | (intro _) | split | (first | refine (foldl_dict _ _ _ ?_).trans ?_ | refine (foldl_modes _ _ _ ?_).trans ?_ | refine (foldl_sampler _ _ _ ?_).trans ?_ | refine (foldl_cells _ _ _ ?_).trans ?_ | refine (foldl_host _ _ _ ?_).trans ?_ | refine (foldl_sched _ _ _ ?_).trans ?_ | refine (foldl_flash _ _ _ ?_).trans ?_ | refine (foldl_store _ _ _ ?_).trans ?_ | refine (foldl_power _ _ _ ?_).trans ?_ | refine (foldl_mem _ _ _ ?_).trans ?_ | refine (foldl_cipher _ _ _ ?_).trans ?_ | refine (foldl_engines _ _ _ ?_).trans ?_ | refine (foldl_admin _ _ _ ?_).trans ?_ | refine (foldl_staing _ _ _ ?_).trans ?_ | refine (foldl_security _ _ _ ?_).trans ?_ | refine (foldl_migration _ _ _ ?_).trans ?_ | refine (foldl_pending _ _ _ ?_).trans ?_ | refine (foldl_now _ _ _ ?_).trans ?_ | refine (foldl_bootAt _ _ _ ?_).trans ?_ | refine (foldl_free _ _ _ ?_).trans ?_ | refine (foldl_out _ _ _ ?_).trans ?_ | refine (foldl_mem_dram _ _ _ ?_).trans ?_ | refine (foldl_engines_windows _ _ _ ?_).trans ?_) | (simp; done) | simp)

theorem state_finishZone_some (s : State) (nsid : Nat) (z : Nat) (y : Zone) :
    ∀ got, State.finishZone s nsid z y = .ok got → got.modes = s.modes ∧ got.cells = s.cells ∧ got.sched = s.sched ∧ got.power = s.power ∧ got.mem = s.mem ∧ got.engines = s.engines ∧ got.admin = s.admin ∧ got.staing = s.staing ∧ got.security = s.security ∧ got.migration = s.migration ∧ got.pending = s.pending ∧ got.now = s.now ∧ got.bootAt = s.bootAt ∧ got.free = s.free ∧ got.out = s.out := by
  intro got h
  unfold State.finishZone at h
  (repeat' split at h) <;> first | (cases h; done) | (cases h; simp) | grind []

theorem state_explicitOpen_some (s : State) (nsid : Nat) (z : Nat) (y : Zone) :
    ∀ got, State.explicitOpen s nsid z y = .ok got → got.dict = s.dict ∧ got.modes = s.modes ∧ got.sampler = s.sampler ∧ got.cells = s.cells ∧ got.host = s.host ∧ got.sched = s.sched ∧ got.power = s.power ∧ got.mem = s.mem ∧ got.cipher = s.cipher ∧ got.engines = s.engines ∧ got.admin = s.admin ∧ got.staing = s.staing ∧ got.security = s.security ∧ got.migration = s.migration ∧ got.pending = s.pending ∧ got.now = s.now ∧ got.bootAt = s.bootAt ∧ got.free = s.free ∧ got.out = s.out := by
  intro got h
  unfold State.explicitOpen at h
  (repeat' split at h) <;> first | (cases h; done) | (cases h; simp) | grind [→ state_openZone_some]

theorem state_resetZone_some (s : State) (nsid : Nat) (z : Nat) (y : Zone) :
    ∀ got, State.resetZone s nsid z y = .ok got → got.modes = s.modes ∧ got.sampler = s.sampler ∧ got.cells = s.cells ∧ got.host = s.host ∧ got.sched = s.sched ∧ got.power = s.power ∧ got.mem = s.mem ∧ got.cipher = s.cipher ∧ got.engines = s.engines ∧ got.admin = s.admin ∧ got.staing = s.staing ∧ got.security = s.security ∧ got.pending = s.pending ∧ got.now = s.now ∧ got.bootAt = s.bootAt ∧ got.free = s.free ∧ got.out = s.out := by
  intro got h
  unfold State.resetZone at h
  (repeat' split at h) <;> first | (cases h; done) | (cases h; simp) | grind [→ state_explicitOpen_some]

theorem state_offlineZone_some (s : State) (nsid : Nat) (z : Nat) (y : Zone) :
    ∀ got, State.offlineZone s nsid z y = .ok got → got.modes = s.modes ∧ got.sampler = s.sampler ∧ got.cells = s.cells ∧ got.host = s.host ∧ got.sched = s.sched ∧ got.power = s.power ∧ got.mem = s.mem ∧ got.cipher = s.cipher ∧ got.engines = s.engines ∧ got.admin = s.admin ∧ got.staing = s.staing ∧ got.security = s.security ∧ got.pending = s.pending ∧ got.now = s.now ∧ got.bootAt = s.bootAt ∧ got.free = s.free ∧ got.out = s.out := by
  intro got h
  unfold State.offlineZone at h
  (repeat' split at h) <;> first | (cases h; done) | (cases h; simp) | grind [→ state_explicitOpen_some]

@[simp] theorem state_purgeKeys_frame (s : State) (keep : KeyRef → Bool) :
    (State.purgeKeys s keep).modes = s.modes ∧ (State.purgeKeys s keep).sampler = s.sampler ∧ (State.purgeKeys s keep).host = s.host ∧ (State.purgeKeys s keep).sched = s.sched ∧ (State.purgeKeys s keep).flash = s.flash ∧ (State.purgeKeys s keep).store = s.store ∧ (State.purgeKeys s keep).power = s.power ∧ (State.purgeKeys s keep).mem = s.mem ∧ (State.purgeKeys s keep).cipher = s.cipher ∧ (State.purgeKeys s keep).engines = s.engines ∧ (State.purgeKeys s keep).admin = s.admin ∧ (State.purgeKeys s keep).staing = s.staing ∧ (State.purgeKeys s keep).security = s.security ∧ (State.purgeKeys s keep).migration = s.migration ∧ (State.purgeKeys s keep).pending = s.pending ∧ (State.purgeKeys s keep).now = s.now ∧ (State.purgeKeys s keep).bootAt = s.bootAt ∧ (State.purgeKeys s keep).free = s.free ∧ (State.purgeKeys s keep).out = s.out := by
  unfold State.purgeKeys
  simp

@[simp] theorem state_secureZone_frame (s : State) (nsid : Nat) (z : Nat) (n : Ns) (y : Zone) :
    (State.secureZone s nsid z n y).modes = s.modes ∧ (State.secureZone s nsid z n y).host = s.host ∧ (State.secureZone s nsid z n y).sched = s.sched ∧ (State.secureZone s nsid z n y).power = s.power ∧ (State.secureZone s nsid z n y).mem = s.mem ∧ (State.secureZone s nsid z n y).cipher = s.cipher ∧ (State.secureZone s nsid z n y).engines = s.engines ∧ (State.secureZone s nsid z n y).admin = s.admin ∧ (State.secureZone s nsid z n y).staing = s.staing ∧ (State.secureZone s nsid z n y).security = s.security ∧ (State.secureZone s nsid z n y).pending = s.pending ∧ (State.secureZone s nsid z n y).now = s.now ∧ (State.secureZone s nsid z n y).bootAt = s.bootAt ∧ (State.secureZone s nsid z n y).free = s.free ∧ (State.secureZone s nsid z n y).out = s.out := by
  unfold State.secureZone
  simp

@[simp] theorem state_readmit_frame (s : State) :
    (State.readmit s).modes = s.modes ∧ (State.readmit s).cells = s.cells ∧ (State.readmit s).power = s.power ∧ (State.readmit s).mem = s.mem ∧ (State.readmit s).engines = s.engines ∧ (State.readmit s).admin = s.admin ∧ (State.readmit s).staing = s.staing ∧ (State.readmit s).security = s.security ∧ (State.readmit s).migration = s.migration ∧ (State.readmit s).pending = s.pending ∧ (State.readmit s).now = s.now ∧ (State.readmit s).bootAt = s.bootAt ∧ (State.readmit s).free = s.free := by
  unfold State.readmit
  simp

@[simp] theorem state_writeEpochs_frame (s : State) (h : Hdr) (nsid : Nat) :
    (State.writeEpochs s h nsid).dict = s.dict ∧ (State.writeEpochs s h nsid).modes = s.modes ∧ (State.writeEpochs s h nsid).sampler = s.sampler ∧ (State.writeEpochs s h nsid).cells = s.cells ∧ (State.writeEpochs s h nsid).host = s.host ∧ (State.writeEpochs s h nsid).sched = s.sched ∧ (State.writeEpochs s h nsid).power = s.power ∧ (State.writeEpochs s h nsid).mem = s.mem ∧ (State.writeEpochs s h nsid).cipher = s.cipher ∧ (State.writeEpochs s h nsid).engines = s.engines ∧ (State.writeEpochs s h nsid).admin = s.admin ∧ (State.writeEpochs s h nsid).staing = s.staing ∧ (State.writeEpochs s h nsid).security = s.security ∧ (State.writeEpochs s h nsid).migration = s.migration ∧ (State.writeEpochs s h nsid).pending = s.pending ∧ (State.writeEpochs s h nsid).now = s.now ∧ (State.writeEpochs s h nsid).bootAt = s.bootAt ∧ (State.writeEpochs s h nsid).free = s.free ∧ (State.writeEpochs s h nsid).out = s.out := by
  unfold State.writeEpochs
  and_intros
  all_goals (repeat' first | rfl | assumption | (intros; trivial) | (dsimp only; done) | (intro _) | split | (first | refine (foldl_dict _ _ _ ?_).trans ?_ | refine (foldl_modes _ _ _ ?_).trans ?_ | refine (foldl_sampler _ _ _ ?_).trans ?_ | refine (foldl_cells _ _ _ ?_).trans ?_ | refine (foldl_host _ _ _ ?_).trans ?_ | refine (foldl_sched _ _ _ ?_).trans ?_ | refine (foldl_flash _ _ _ ?_).trans ?_ | refine (foldl_store _ _ _ ?_).trans ?_ | refine (foldl_power _ _ _ ?_).trans ?_ | refine (foldl_mem _ _ _ ?_).trans ?_ | refine (foldl_cipher _ _ _ ?_).trans ?_ | refine (foldl_engines _ _ _ ?_).trans ?_ | refine (foldl_admin _ _ _ ?_).trans ?_ | refine (foldl_staing _ _ _ ?_).trans ?_ | refine (foldl_security _ _ _ ?_).trans ?_ | refine (foldl_migration _ _ _ ?_).trans ?_ | refine (foldl_pending _ _ _ ?_).trans ?_ | refine (foldl_now _ _ _ ?_).trans ?_ | refine (foldl_bootAt _ _ _ ?_).trans ?_ | refine (foldl_free _ _ _ ?_).trans ?_ | refine (foldl_out _ _ _ ?_).trans ?_ | refine (foldl_mem_dram _ _ _ ?_).trans ?_ | refine (foldl_engines_windows _ _ _ ?_).trans ?_) | (simp; done) | simp)

@[simp] theorem state_goReset_frame (s : State) (h : Hdr) (nsid : Nat) (slba : Nat) (all : Bool) :
    (State.goReset s h nsid slba all).dict = s.dict ∧ (State.goReset s h nsid slba all).modes = s.modes ∧ (State.goReset s h nsid slba all).sampler = s.sampler ∧ (State.goReset s h nsid slba all).cells = s.cells ∧ (State.goReset s h nsid slba all).sched = s.sched ∧ (State.goReset s h nsid slba all).power = s.power ∧ (State.goReset s h nsid slba all).mem = s.mem ∧ (State.goReset s h nsid slba all).cipher = s.cipher ∧ (State.goReset s h nsid slba all).engines = s.engines ∧ (State.goReset s h nsid slba all).admin = s.admin ∧ (State.goReset s h nsid slba all).staing = s.staing ∧ (State.goReset s h nsid slba all).security = s.security ∧ (State.goReset s h nsid slba all).migration = s.migration ∧ (State.goReset s h nsid slba all).pending = s.pending ∧ (State.goReset s h nsid slba all).now = s.now ∧ (State.goReset s h nsid slba all).bootAt = s.bootAt ∧ (State.goReset s h nsid slba all).free = s.free ∧ (State.goReset s h nsid slba all).out = s.out := by
  unfold State.goReset
  (repeat' split) <;> simp

@[simp] theorem state_releaseHeld_frame (s : State) :
    (State.releaseHeld s).modes = s.modes ∧ (State.releaseHeld s).cells = s.cells ∧ (State.releaseHeld s).power = s.power ∧ (State.releaseHeld s).mem = s.mem ∧ (State.releaseHeld s).engines = s.engines ∧ (State.releaseHeld s).admin = s.admin ∧ (State.releaseHeld s).staing = s.staing ∧ (State.releaseHeld s).security = s.security ∧ (State.releaseHeld s).migration = s.migration ∧ (State.releaseHeld s).pending = s.pending ∧ (State.releaseHeld s).now = s.now ∧ (State.releaseHeld s).bootAt = s.bootAt ∧ (State.releaseHeld s).free = s.free := by
  unfold State.releaseHeld
  simp (disch := (intros; (repeat' split) <;> simp))

@[simp] theorem state_settleReset_frame (s : State) (h : Hdr) (nsid : Nat) :
    (State.settleReset s h nsid).modes = s.modes ∧ (State.settleReset s h nsid).power = s.power ∧ (State.settleReset s h nsid).mem = s.mem ∧ (State.settleReset s h nsid).engines = s.engines ∧ (State.settleReset s h nsid).admin = s.admin ∧ (State.settleReset s h nsid).staing = s.staing ∧ (State.settleReset s h nsid).security = s.security ∧ (State.settleReset s h nsid).pending = s.pending ∧ (State.settleReset s h nsid).now = s.now ∧ (State.settleReset s h nsid).bootAt = s.bootAt ∧ (State.settleReset s h nsid).free = s.free := by
  unfold State.settleReset
  and_intros
  all_goals (repeat' first | rfl | assumption | (intros; trivial) | (dsimp only; done) | (intro _) | split | (first | refine (foldl_dict _ _ _ ?_).trans ?_ | refine (foldl_modes _ _ _ ?_).trans ?_ | refine (foldl_sampler _ _ _ ?_).trans ?_ | refine (foldl_cells _ _ _ ?_).trans ?_ | refine (foldl_host _ _ _ ?_).trans ?_ | refine (foldl_sched _ _ _ ?_).trans ?_ | refine (foldl_flash _ _ _ ?_).trans ?_ | refine (foldl_store _ _ _ ?_).trans ?_ | refine (foldl_power _ _ _ ?_).trans ?_ | refine (foldl_mem _ _ _ ?_).trans ?_ | refine (foldl_cipher _ _ _ ?_).trans ?_ | refine (foldl_engines _ _ _ ?_).trans ?_ | refine (foldl_admin _ _ _ ?_).trans ?_ | refine (foldl_staing _ _ _ ?_).trans ?_ | refine (foldl_security _ _ _ ?_).trans ?_ | refine (foldl_migration _ _ _ ?_).trans ?_ | refine (foldl_pending _ _ _ ?_).trans ?_ | refine (foldl_now _ _ _ ?_).trans ?_ | refine (foldl_bootAt _ _ _ ?_).trans ?_ | refine (foldl_free _ _ _ ?_).trans ?_ | refine (foldl_out _ _ _ ?_).trans ?_ | refine (foldl_mem_dram _ _ _ ?_).trans ?_ | refine (foldl_engines_windows _ _ _ ?_).trans ?_) | (simp; done) | simp)

@[simp] theorem state_settleResets_frame (s : State) :
    (State.settleResets s).modes = s.modes ∧ (State.settleResets s).power = s.power ∧ (State.settleResets s).mem = s.mem ∧ (State.settleResets s).engines = s.engines ∧ (State.settleResets s).admin = s.admin ∧ (State.settleResets s).staing = s.staing ∧ (State.settleResets s).security = s.security ∧ (State.settleResets s).pending = s.pending ∧ (State.settleResets s).now = s.now ∧ (State.settleResets s).bootAt = s.bootAt ∧ (State.settleResets s).free = s.free := by
  unfold State.settleResets
  simp

@[simp] theorem state_fdpEvent_frame (s : State) (type : Nat) (ru : Nat) :
    (State.fdpEvent s type ru).dict = s.dict ∧ (State.fdpEvent s type ru).modes = s.modes ∧ (State.fdpEvent s type ru).sampler = s.sampler ∧ (State.fdpEvent s type ru).cells = s.cells ∧ (State.fdpEvent s type ru).sched = s.sched ∧ (State.fdpEvent s type ru).flash = s.flash ∧ (State.fdpEvent s type ru).power = s.power ∧ (State.fdpEvent s type ru).mem = s.mem ∧ (State.fdpEvent s type ru).cipher = s.cipher ∧ (State.fdpEvent s type ru).engines = s.engines ∧ (State.fdpEvent s type ru).admin = s.admin ∧ (State.fdpEvent s type ru).staing = s.staing ∧ (State.fdpEvent s type ru).security = s.security ∧ (State.fdpEvent s type ru).migration = s.migration ∧ (State.fdpEvent s type ru).pending = s.pending ∧ (State.fdpEvent s type ru).now = s.now ∧ (State.fdpEvent s type ru).bootAt = s.bootAt ∧ (State.fdpEvent s type ru).free = s.free ∧ (State.fdpEvent s type ru).out = s.out := by
  unfold State.fdpEvent
  simp

@[simp] theorem state_closeUnit_frame (s : State) (ruh : Nat) (group : Nat) :
    (State.closeUnit s ruh group).dict = s.dict ∧ (State.closeUnit s ruh group).modes = s.modes ∧ (State.closeUnit s ruh group).sampler = s.sampler ∧ (State.closeUnit s ruh group).cells = s.cells ∧ (State.closeUnit s ruh group).host = s.host ∧ (State.closeUnit s ruh group).sched = s.sched ∧ (State.closeUnit s ruh group).flash = s.flash ∧ (State.closeUnit s ruh group).power = s.power ∧ (State.closeUnit s ruh group).mem = s.mem ∧ (State.closeUnit s ruh group).cipher = s.cipher ∧ (State.closeUnit s ruh group).engines = s.engines ∧ (State.closeUnit s ruh group).admin = s.admin ∧ (State.closeUnit s ruh group).staing = s.staing ∧ (State.closeUnit s ruh group).security = s.security ∧ (State.closeUnit s ruh group).migration = s.migration ∧ (State.closeUnit s ruh group).pending = s.pending ∧ (State.closeUnit s ruh group).now = s.now ∧ (State.closeUnit s ruh group).bootAt = s.bootAt ∧ (State.closeUnit s ruh group).free = s.free ∧ (State.closeUnit s ruh group).out = s.out := by
  unfold State.closeUnit
  and_intros
  all_goals (repeat' first | rfl | assumption | (intros; trivial) | (dsimp only; done) | (intro _) | split | (first | refine (foldl_dict _ _ _ ?_).trans ?_ | refine (foldl_modes _ _ _ ?_).trans ?_ | refine (foldl_sampler _ _ _ ?_).trans ?_ | refine (foldl_cells _ _ _ ?_).trans ?_ | refine (foldl_host _ _ _ ?_).trans ?_ | refine (foldl_sched _ _ _ ?_).trans ?_ | refine (foldl_flash _ _ _ ?_).trans ?_ | refine (foldl_store _ _ _ ?_).trans ?_ | refine (foldl_power _ _ _ ?_).trans ?_ | refine (foldl_mem _ _ _ ?_).trans ?_ | refine (foldl_cipher _ _ _ ?_).trans ?_ | refine (foldl_engines _ _ _ ?_).trans ?_ | refine (foldl_admin _ _ _ ?_).trans ?_ | refine (foldl_staing _ _ _ ?_).trans ?_ | refine (foldl_security _ _ _ ?_).trans ?_ | refine (foldl_migration _ _ _ ?_).trans ?_ | refine (foldl_pending _ _ _ ?_).trans ?_ | refine (foldl_now _ _ _ ?_).trans ?_ | refine (foldl_bootAt _ _ _ ?_).trans ?_ | refine (foldl_free _ _ _ ?_).trans ?_ | refine (foldl_out _ _ _ ?_).trans ?_ | refine (foldl_mem_dram _ _ _ ?_).trans ?_ | refine (foldl_engines_windows _ _ _ ?_).trans ?_) | (simp; done) | simp)

@[simp] theorem state_nextUnit_frame (s : State) (x : Ns) (ruh : Nat) (group : Nat) :
    (State.nextUnit s x ruh group).dict = s.dict ∧ (State.nextUnit s x ruh group).modes = s.modes ∧ (State.nextUnit s x ruh group).sampler = s.sampler ∧ (State.nextUnit s x ruh group).cells = s.cells ∧ (State.nextUnit s x ruh group).host = s.host ∧ (State.nextUnit s x ruh group).sched = s.sched ∧ (State.nextUnit s x ruh group).power = s.power ∧ (State.nextUnit s x ruh group).mem = s.mem ∧ (State.nextUnit s x ruh group).cipher = s.cipher ∧ (State.nextUnit s x ruh group).engines = s.engines ∧ (State.nextUnit s x ruh group).admin = s.admin ∧ (State.nextUnit s x ruh group).staing = s.staing ∧ (State.nextUnit s x ruh group).security = s.security ∧ (State.nextUnit s x ruh group).migration = s.migration ∧ (State.nextUnit s x ruh group).pending = s.pending ∧ (State.nextUnit s x ruh group).now = s.now ∧ (State.nextUnit s x ruh group).bootAt = s.bootAt ∧ (State.nextUnit s x ruh group).free = s.free ∧ (State.nextUnit s x ruh group).out = s.out := by
  unfold State.nextUnit
  dsimp only
  cases hg : (s.closeUnit ruh group).openStripe (.ns 0 (group * 1024 + ruh)) group x.width x.word.qParity with
  | none => simp
  | some got =>
    have := state_openStripe_some _ _ _ _ _ _ hg
    simp [this]

@[simp] theorem state_sweepReadOnly_frame (s : State) :
    (State.sweepReadOnly s).modes = s.modes ∧ (State.sweepReadOnly s).cells = s.cells ∧ (State.sweepReadOnly s).power = s.power ∧ (State.sweepReadOnly s).mem = s.mem ∧ (State.sweepReadOnly s).engines = s.engines ∧ (State.sweepReadOnly s).admin = s.admin ∧ (State.sweepReadOnly s).staing = s.staing ∧ (State.sweepReadOnly s).security = s.security ∧ (State.sweepReadOnly s).migration = s.migration ∧ (State.sweepReadOnly s).pending = s.pending ∧ (State.sweepReadOnly s).now = s.now ∧ (State.sweepReadOnly s).bootAt = s.bootAt ∧ (State.sweepReadOnly s).free = s.free := by
  unfold State.sweepReadOnly
  simp

@[simp] theorem state_enterReadOnly_frame (s : State) (cause : Nat) :
    (State.enterReadOnly s cause).cells = s.cells ∧ (State.enterReadOnly s cause).power = s.power ∧ (State.enterReadOnly s cause).mem = s.mem ∧ (State.enterReadOnly s cause).engines = s.engines ∧ (State.enterReadOnly s cause).admin = s.admin ∧ (State.enterReadOnly s cause).staing = s.staing ∧ (State.enterReadOnly s cause).security = s.security ∧ (State.enterReadOnly s cause).migration = s.migration ∧ (State.enterReadOnly s cause).pending = s.pending ∧ (State.enterReadOnly s cause).now = s.now ∧ (State.enterReadOnly s cause).bootAt = s.bootAt ∧ (State.enterReadOnly s cause).free = s.free := by
  unfold State.enterReadOnly
  simp

@[simp] theorem state_leaveReadOnly_frame (s : State) (cause : Nat) :
    (State.leaveReadOnly s cause).cells = s.cells ∧ (State.leaveReadOnly s cause).host = s.host ∧ (State.leaveReadOnly s cause).sched = s.sched ∧ (State.leaveReadOnly s cause).flash = s.flash ∧ (State.leaveReadOnly s cause).store = s.store ∧ (State.leaveReadOnly s cause).power = s.power ∧ (State.leaveReadOnly s cause).mem = s.mem ∧ (State.leaveReadOnly s cause).cipher = s.cipher ∧ (State.leaveReadOnly s cause).engines = s.engines ∧ (State.leaveReadOnly s cause).admin = s.admin ∧ (State.leaveReadOnly s cause).staing = s.staing ∧ (State.leaveReadOnly s cause).security = s.security ∧ (State.leaveReadOnly s cause).migration = s.migration ∧ (State.leaveReadOnly s cause).pending = s.pending ∧ (State.leaveReadOnly s cause).now = s.now ∧ (State.leaveReadOnly s cause).bootAt = s.bootAt ∧ (State.leaveReadOnly s cause).free = s.free ∧ (State.leaveReadOnly s cause).out = s.out := by
  unfold State.leaveReadOnly
  simp

@[simp] theorem state_sweepIo_frame (s : State) (st : Status) :
    (State.sweepIo s st).dict = s.dict ∧ (State.sweepIo s st).modes = s.modes ∧ (State.sweepIo s st).sampler = s.sampler ∧ (State.sweepIo s st).cells = s.cells ∧ (State.sweepIo s st).sched = s.sched ∧ (State.sweepIo s st).flash = s.flash ∧ (State.sweepIo s st).store = s.store ∧ (State.sweepIo s st).power = s.power ∧ (State.sweepIo s st).mem = s.mem ∧ (State.sweepIo s st).cipher = s.cipher ∧ (State.sweepIo s st).engines = s.engines ∧ (State.sweepIo s st).admin = s.admin ∧ (State.sweepIo s st).staing = s.staing ∧ (State.sweepIo s st).security = s.security ∧ (State.sweepIo s st).migration = s.migration ∧ (State.sweepIo s st).pending = s.pending ∧ (State.sweepIo s st).now = s.now ∧ (State.sweepIo s st).bootAt = s.bootAt ∧ (State.sweepIo s st).free = s.free ∧ (State.sweepIo s st).out = s.out := by
  unfold State.sweepIo
  simp

@[simp] theorem state_setRoCause_frame (s : State) (c : Nat) :
    (State.setRoCause s c).cells = s.cells ∧ (State.setRoCause s c).power = s.power ∧ (State.setRoCause s c).mem = s.mem ∧ (State.setRoCause s c).engines = s.engines ∧ (State.setRoCause s c).admin = s.admin ∧ (State.setRoCause s c).staing = s.staing ∧ (State.setRoCause s c).security = s.security ∧ (State.setRoCause s c).migration = s.migration ∧ (State.setRoCause s c).pending = s.pending ∧ (State.setRoCause s c).now = s.now ∧ (State.setRoCause s c).bootAt = s.bootAt ∧ (State.setRoCause s c).free = s.free := by
  unfold State.setRoCause
  simp

@[simp] theorem state_takeSpares_frame (s : State) (n : Nat) :
    (State.takeSpares s n).cells = s.cells ∧ (State.takeSpares s n).power = s.power ∧ (State.takeSpares s n).mem = s.mem ∧ (State.takeSpares s n).engines = s.engines ∧ (State.takeSpares s n).admin = s.admin ∧ (State.takeSpares s n).staing = s.staing ∧ (State.takeSpares s n).security = s.security ∧ (State.takeSpares s n).migration = s.migration ∧ (State.takeSpares s n).pending = s.pending ∧ (State.takeSpares s n).now = s.now ∧ (State.takeSpares s n).bootAt = s.bootAt ∧ (State.takeSpares s n).free = s.free := by
  unfold State.takeSpares
  simp

@[simp] theorem state_recordLost_frame (s : State) (nsid : Nat) (n : Nat) :
    (State.recordLost s nsid n).modes = s.modes ∧ (State.recordLost s nsid n).cells = s.cells ∧ (State.recordLost s nsid n).host = s.host ∧ (State.recordLost s nsid n).sched = s.sched ∧ (State.recordLost s nsid n).flash = s.flash ∧ (State.recordLost s nsid n).store = s.store ∧ (State.recordLost s nsid n).power = s.power ∧ (State.recordLost s nsid n).mem = s.mem ∧ (State.recordLost s nsid n).cipher = s.cipher ∧ (State.recordLost s nsid n).engines = s.engines ∧ (State.recordLost s nsid n).admin = s.admin ∧ (State.recordLost s nsid n).staing = s.staing ∧ (State.recordLost s nsid n).security = s.security ∧ (State.recordLost s nsid n).migration = s.migration ∧ (State.recordLost s nsid n).pending = s.pending ∧ (State.recordLost s nsid n).now = s.now ∧ (State.recordLost s nsid n).bootAt = s.bootAt ∧ (State.recordLost s nsid n).free = s.free ∧ (State.recordLost s nsid n).out = s.out := by
  unfold State.recordLost
  simp

@[simp] theorem state_loseMapped_frame (s : State) (id : Nat) (t : Stripe) :
    (State.loseMapped s id t).modes = s.modes ∧ (State.loseMapped s id t).cells = s.cells ∧ (State.loseMapped s id t).host = s.host ∧ (State.loseMapped s id t).sched = s.sched ∧ (State.loseMapped s id t).power = s.power ∧ (State.loseMapped s id t).mem = s.mem ∧ (State.loseMapped s id t).cipher = s.cipher ∧ (State.loseMapped s id t).engines = s.engines ∧ (State.loseMapped s id t).admin = s.admin ∧ (State.loseMapped s id t).staing = s.staing ∧ (State.loseMapped s id t).security = s.security ∧ (State.loseMapped s id t).migration = s.migration ∧ (State.loseMapped s id t).pending = s.pending ∧ (State.loseMapped s id t).now = s.now ∧ (State.loseMapped s id t).bootAt = s.bootAt ∧ (State.loseMapped s id t).free = s.free ∧ (State.loseMapped s id t).out = s.out := by
  unfold State.loseMapped
  simp

@[simp] theorem state_loseData_frame (s : State) (id : Nat) (t : Stripe) :
    (State.loseData s id t).modes = s.modes ∧ (State.loseData s id t).cells = s.cells ∧ (State.loseData s id t).host = s.host ∧ (State.loseData s id t).sched = s.sched ∧ (State.loseData s id t).power = s.power ∧ (State.loseData s id t).mem = s.mem ∧ (State.loseData s id t).cipher = s.cipher ∧ (State.loseData s id t).engines = s.engines ∧ (State.loseData s id t).admin = s.admin ∧ (State.loseData s id t).staing = s.staing ∧ (State.loseData s id t).security = s.security ∧ (State.loseData s id t).migration = s.migration ∧ (State.loseData s id t).pending = s.pending ∧ (State.loseData s id t).now = s.now ∧ (State.loseData s id t).bootAt = s.bootAt ∧ (State.loseData s id t).free = s.free ∧ (State.loseData s id t).out = s.out := by
  unfold State.loseData
  (repeat' split) <;> simp

@[simp] theorem state_planReplacement_frame (s : State) (id : Nat) (m : Nat) (t : Stripe) :
    (State.planReplacement s id m t).modes = s.modes ∧ (State.planReplacement s id m t).sampler = s.sampler ∧ (State.planReplacement s id m t).cells = s.cells ∧ (State.planReplacement s id m t).host = s.host ∧ (State.planReplacement s id m t).sched = s.sched ∧ (State.planReplacement s id m t).flash = s.flash ∧ (State.planReplacement s id m t).power = s.power ∧ (State.planReplacement s id m t).mem = s.mem ∧ (State.planReplacement s id m t).cipher = s.cipher ∧ (State.planReplacement s id m t).engines = s.engines ∧ (State.planReplacement s id m t).admin = s.admin ∧ (State.planReplacement s id m t).staing = s.staing ∧ (State.planReplacement s id m t).security = s.security ∧ (State.planReplacement s id m t).migration = s.migration ∧ (State.planReplacement s id m t).pending = s.pending ∧ (State.planReplacement s id m t).now = s.now ∧ (State.planReplacement s id m t).bootAt = s.bootAt ∧ (State.planReplacement s id m t).free = s.free ∧ (State.planReplacement s id m t).out = s.out := by
  unfold State.planReplacement
  simp

@[simp] theorem state_loseMember_frame (s : State) (id : Nat) (m : Nat) :
    (State.loseMember s id m).modes = s.modes ∧ (State.loseMember s id m).cells = s.cells ∧ (State.loseMember s id m).host = s.host ∧ (State.loseMember s id m).sched = s.sched ∧ (State.loseMember s id m).power = s.power ∧ (State.loseMember s id m).mem = s.mem ∧ (State.loseMember s id m).cipher = s.cipher ∧ (State.loseMember s id m).engines = s.engines ∧ (State.loseMember s id m).admin = s.admin ∧ (State.loseMember s id m).staing = s.staing ∧ (State.loseMember s id m).security = s.security ∧ (State.loseMember s id m).migration = s.migration ∧ (State.loseMember s id m).pending = s.pending ∧ (State.loseMember s id m).now = s.now ∧ (State.loseMember s id m).bootAt = s.bootAt ∧ (State.loseMember s id m).free = s.free ∧ (State.loseMember s id m).out = s.out := by
  unfold State.loseMember
  (repeat' split) <;> simp

@[simp] theorem state_settleDegraded_frame (s : State) :
    (State.settleDegraded s).cells = s.cells ∧ (State.settleDegraded s).host = s.host ∧ (State.settleDegraded s).sched = s.sched ∧ (State.settleDegraded s).flash = s.flash ∧ (State.settleDegraded s).store = s.store ∧ (State.settleDegraded s).power = s.power ∧ (State.settleDegraded s).mem = s.mem ∧ (State.settleDegraded s).cipher = s.cipher ∧ (State.settleDegraded s).engines = s.engines ∧ (State.settleDegraded s).admin = s.admin ∧ (State.settleDegraded s).staing = s.staing ∧ (State.settleDegraded s).security = s.security ∧ (State.settleDegraded s).migration = s.migration ∧ (State.settleDegraded s).pending = s.pending ∧ (State.settleDegraded s).now = s.now ∧ (State.settleDegraded s).bootAt = s.bootAt ∧ (State.settleDegraded s).free = s.free ∧ (State.settleDegraded s).out = s.out := by
  unfold State.settleDegraded
  simp

@[simp] theorem state_loseUnit_frame (s : State) (nsid : Nat) (u : Nat) :
    (State.loseUnit s nsid u).dict = s.dict ∧ (State.loseUnit s nsid u).modes = s.modes ∧ (State.loseUnit s nsid u).sampler = s.sampler ∧ (State.loseUnit s nsid u).cells = s.cells ∧ (State.loseUnit s nsid u).host = s.host ∧ (State.loseUnit s nsid u).sched = s.sched ∧ (State.loseUnit s nsid u).power = s.power ∧ (State.loseUnit s nsid u).mem = s.mem ∧ (State.loseUnit s nsid u).cipher = s.cipher ∧ (State.loseUnit s nsid u).engines = s.engines ∧ (State.loseUnit s nsid u).admin = s.admin ∧ (State.loseUnit s nsid u).staing = s.staing ∧ (State.loseUnit s nsid u).security = s.security ∧ (State.loseUnit s nsid u).migration = s.migration ∧ (State.loseUnit s nsid u).pending = s.pending ∧ (State.loseUnit s nsid u).now = s.now ∧ (State.loseUnit s nsid u).bootAt = s.bootAt ∧ (State.loseUnit s nsid u).free = s.free ∧ (State.loseUnit s nsid u).out = s.out := by
  unfold State.loseUnit
  (repeat' split) <;> simp

@[simp] theorem state_giveUpSlot_frame (s : State) (k : Nat) (x : Slot) :
    (State.giveUpSlot s k x).modes = s.modes ∧ (State.giveUpSlot s k x).cells = s.cells ∧ (State.giveUpSlot s k x).sched = s.sched ∧ (State.giveUpSlot s k x).power = s.power ∧ (State.giveUpSlot s k x).mem = s.mem ∧ (State.giveUpSlot s k x).cipher = s.cipher ∧ (State.giveUpSlot s k x).engines = s.engines ∧ (State.giveUpSlot s k x).admin = s.admin ∧ (State.giveUpSlot s k x).staing = s.staing ∧ (State.giveUpSlot s k x).security = s.security ∧ (State.giveUpSlot s k x).migration = s.migration ∧ (State.giveUpSlot s k x).pending = s.pending ∧ (State.giveUpSlot s k x).now = s.now ∧ (State.giveUpSlot s k x).bootAt = s.bootAt ∧ (State.giveUpSlot s k x).free = s.free ∧ (State.giveUpSlot s k x).out = s.out := by
  unfold State.giveUpSlot
  simp

@[simp] theorem state_doneSeq_frame (s : State) (w : Nat) :
    (State.doneSeq s w).dict = s.dict ∧ (State.doneSeq s w).modes = s.modes ∧ (State.doneSeq s w).sampler = s.sampler ∧ (State.doneSeq s w).cells = s.cells ∧ (State.doneSeq s w).host = s.host ∧ (State.doneSeq s w).sched = s.sched ∧ (State.doneSeq s w).power = s.power ∧ (State.doneSeq s w).mem = s.mem ∧ (State.doneSeq s w).cipher = s.cipher ∧ (State.doneSeq s w).engines = s.engines ∧ (State.doneSeq s w).admin = s.admin ∧ (State.doneSeq s w).staing = s.staing ∧ (State.doneSeq s w).security = s.security ∧ (State.doneSeq s w).migration = s.migration ∧ (State.doneSeq s w).pending = s.pending ∧ (State.doneSeq s w).now = s.now ∧ (State.doneSeq s w).bootAt = s.bootAt ∧ (State.doneSeq s w).free = s.free ∧ (State.doneSeq s w).out = s.out := by
  unfold State.doneSeq
  simp

@[simp] theorem state_placeAgain_frame (s : State) (k : Nat) :
    (State.placeAgain s k).modes = s.modes ∧ (State.placeAgain s k).cells = s.cells ∧ (State.placeAgain s k).power = s.power ∧ (State.placeAgain s k).mem = s.mem ∧ (State.placeAgain s k).engines = s.engines ∧ (State.placeAgain s k).admin = s.admin ∧ (State.placeAgain s k).staing = s.staing ∧ (State.placeAgain s k).security = s.security ∧ (State.placeAgain s k).migration = s.migration ∧ (State.placeAgain s k).pending = s.pending ∧ (State.placeAgain s k).now = s.now ∧ (State.placeAgain s k).bootAt = s.bootAt ∧ (State.placeAgain s k).free = s.free ∧ (State.placeAgain s k).out = s.out := by
  unfold State.placeAgain
  (repeat' split) <;> simp

@[simp] theorem state_dropTransfers_frame (s : State) (lun : Nat) :
    (State.dropTransfers s lun).dict = s.dict ∧ (State.dropTransfers s lun).modes = s.modes ∧ (State.dropTransfers s lun).sampler = s.sampler ∧ (State.dropTransfers s lun).cells = s.cells ∧ (State.dropTransfers s lun).host = s.host ∧ (State.dropTransfers s lun).sched = s.sched ∧ (State.dropTransfers s lun).store = s.store ∧ (State.dropTransfers s lun).power = s.power ∧ (State.dropTransfers s lun).mem = s.mem ∧ (State.dropTransfers s lun).cipher = s.cipher ∧ (State.dropTransfers s lun).engines = s.engines ∧ (State.dropTransfers s lun).admin = s.admin ∧ (State.dropTransfers s lun).staing = s.staing ∧ (State.dropTransfers s lun).security = s.security ∧ (State.dropTransfers s lun).migration = s.migration ∧ (State.dropTransfers s lun).pending = s.pending ∧ (State.dropTransfers s lun).now = s.now ∧ (State.dropTransfers s lun).bootAt = s.bootAt ∧ (State.dropTransfers s lun).free = s.free ∧ (State.dropTransfers s lun).out = s.out := by
  unfold State.dropTransfers
  (repeat' split) <;> simp

@[simp] theorem state_readsToDarning_frame (s0 : State) (lun : Nat) :
    (State.readsToDarning s0 lun).dict = s0.dict ∧ (State.readsToDarning s0 lun).modes = s0.modes ∧ (State.readsToDarning s0 lun).sampler = s0.sampler ∧ (State.readsToDarning s0 lun).cells = s0.cells ∧ (State.readsToDarning s0 lun).host = s0.host ∧ (State.readsToDarning s0 lun).power = s0.power ∧ (State.readsToDarning s0 lun).mem = s0.mem ∧ (State.readsToDarning s0 lun).cipher = s0.cipher ∧ (State.readsToDarning s0 lun).engines = s0.engines ∧ (State.readsToDarning s0 lun).admin = s0.admin ∧ (State.readsToDarning s0 lun).staing = s0.staing ∧ (State.readsToDarning s0 lun).security = s0.security ∧ (State.readsToDarning s0 lun).migration = s0.migration ∧ (State.readsToDarning s0 lun).pending = s0.pending ∧ (State.readsToDarning s0 lun).now = s0.now ∧ (State.readsToDarning s0 lun).bootAt = s0.bootAt ∧ (State.readsToDarning s0 lun).free = s0.free ∧ (State.readsToDarning s0 lun).out = s0.out := by
  unfold State.readsToDarning
  simp

@[simp] theorem state_dropErases_frame (s : State) (gone : Nat × Nat → Bool) :
    (State.dropErases s gone).modes = s.modes ∧ (State.dropErases s gone).sampler = s.sampler ∧ (State.dropErases s gone).cells = s.cells ∧ (State.dropErases s gone).host = s.host ∧ (State.dropErases s gone).sched = s.sched ∧ (State.dropErases s gone).flash = s.flash ∧ (State.dropErases s gone).power = s.power ∧ (State.dropErases s gone).mem = s.mem ∧ (State.dropErases s gone).cipher = s.cipher ∧ (State.dropErases s gone).engines = s.engines ∧ (State.dropErases s gone).admin = s.admin ∧ (State.dropErases s gone).staing = s.staing ∧ (State.dropErases s gone).security = s.security ∧ (State.dropErases s gone).migration = s.migration ∧ (State.dropErases s gone).pending = s.pending ∧ (State.dropErases s gone).now = s.now ∧ (State.dropErases s gone).bootAt = s.bootAt ∧ (State.dropErases s gone).free = s.free ∧ (State.dropErases s gone).out = s.out := by
  unfold State.dropErases
  simp

@[simp] theorem state_loseMembers_frame (s : State) (lun : Nat) :
    (State.loseMembers s lun).modes = s.modes ∧ (State.loseMembers s lun).cells = s.cells ∧ (State.loseMembers s lun).host = s.host ∧ (State.loseMembers s lun).sched = s.sched ∧ (State.loseMembers s lun).power = s.power ∧ (State.loseMembers s lun).mem = s.mem ∧ (State.loseMembers s lun).cipher = s.cipher ∧ (State.loseMembers s lun).engines = s.engines ∧ (State.loseMembers s lun).admin = s.admin ∧ (State.loseMembers s lun).staing = s.staing ∧ (State.loseMembers s lun).security = s.security ∧ (State.loseMembers s lun).migration = s.migration ∧ (State.loseMembers s lun).pending = s.pending ∧ (State.loseMembers s lun).now = s.now ∧ (State.loseMembers s lun).bootAt = s.bootAt ∧ (State.loseMembers s lun).free = s.free ∧ (State.loseMembers s lun).out = s.out := by
  unfold State.loseMembers
  simp

@[simp] theorem state_stampRow_frame (s : State) (nsid : Nat) (z : Nat) (row : Nat) (t : Stripe) :
    (State.stampRow s nsid z row t).dict = s.dict ∧ (State.stampRow s nsid z row t).modes = s.modes ∧ (State.stampRow s nsid z row t).sampler = s.sampler ∧ (State.stampRow s nsid z row t).cells = s.cells ∧ (State.stampRow s nsid z row t).host = s.host ∧ (State.stampRow s nsid z row t).sched = s.sched ∧ (State.stampRow s nsid z row t).flash = s.flash ∧ (State.stampRow s nsid z row t).power = s.power ∧ (State.stampRow s nsid z row t).mem = s.mem ∧ (State.stampRow s nsid z row t).cipher = s.cipher ∧ (State.stampRow s nsid z row t).engines = s.engines ∧ (State.stampRow s nsid z row t).admin = s.admin ∧ (State.stampRow s nsid z row t).staing = s.staing ∧ (State.stampRow s nsid z row t).security = s.security ∧ (State.stampRow s nsid z row t).migration = s.migration ∧ (State.stampRow s nsid z row t).pending = s.pending ∧ (State.stampRow s nsid z row t).now = s.now ∧ (State.stampRow s nsid z row t).bootAt = s.bootAt ∧ (State.stampRow s nsid z row t).free = s.free ∧ (State.stampRow s nsid z row t).out = s.out := by
  unfold State.stampRow
  and_intros
  all_goals (repeat' first | rfl | assumption | (intros; trivial) | (dsimp only; done) | (intro _) | split | (first | refine (foldl_dict _ _ _ ?_).trans ?_ | refine (foldl_modes _ _ _ ?_).trans ?_ | refine (foldl_sampler _ _ _ ?_).trans ?_ | refine (foldl_cells _ _ _ ?_).trans ?_ | refine (foldl_host _ _ _ ?_).trans ?_ | refine (foldl_sched _ _ _ ?_).trans ?_ | refine (foldl_flash _ _ _ ?_).trans ?_ | refine (foldl_store _ _ _ ?_).trans ?_ | refine (foldl_power _ _ _ ?_).trans ?_ | refine (foldl_mem _ _ _ ?_).trans ?_ | refine (foldl_cipher _ _ _ ?_).trans ?_ | refine (foldl_engines _ _ _ ?_).trans ?_ | refine (foldl_admin _ _ _ ?_).trans ?_ | refine (foldl_staing _ _ _ ?_).trans ?_ | refine (foldl_security _ _ _ ?_).trans ?_ | refine (foldl_migration _ _ _ ?_).trans ?_ | refine (foldl_pending _ _ _ ?_).trans ?_ | refine (foldl_now _ _ _ ?_).trans ?_ | refine (foldl_bootAt _ _ _ ?_).trans ?_ | refine (foldl_free _ _ _ ?_).trans ?_ | refine (foldl_out _ _ _ ?_).trans ?_ | refine (foldl_mem_dram _ _ _ ?_).trans ?_ | refine (foldl_engines_windows _ _ _ ?_).trans ?_) | (simp; done) | simp)

@[simp] theorem state_parityRow_frame (s : State) (id : Nat) (t : Stripe) (row : Nat) :
    (State.parityRow s id t row).dict = s.dict ∧ (State.parityRow s id t row).modes = s.modes ∧ (State.parityRow s id t row).sampler = s.sampler ∧ (State.parityRow s id t row).cells = s.cells ∧ (State.parityRow s id t row).host = s.host ∧ (State.parityRow s id t row).sched = s.sched ∧ (State.parityRow s id t row).power = s.power ∧ (State.parityRow s id t row).mem = s.mem ∧ (State.parityRow s id t row).cipher = s.cipher ∧ (State.parityRow s id t row).engines = s.engines ∧ (State.parityRow s id t row).admin = s.admin ∧ (State.parityRow s id t row).staing = s.staing ∧ (State.parityRow s id t row).security = s.security ∧ (State.parityRow s id t row).migration = s.migration ∧ (State.parityRow s id t row).pending = s.pending ∧ (State.parityRow s id t row).now = s.now ∧ (State.parityRow s id t row).bootAt = s.bootAt ∧ (State.parityRow s id t row).free = s.free ∧ (State.parityRow s id t row).out = s.out := by
  unfold State.parityRow
  (repeat' split) <;> simp

@[simp] theorem state_startParity_frame (s : State) (id : Nat) (row : Nat) (t : Stripe) :
    (State.startParity s id row t).dict = s.dict ∧ (State.startParity s id row t).modes = s.modes ∧ (State.startParity s id row t).sampler = s.sampler ∧ (State.startParity s id row t).cells = s.cells ∧ (State.startParity s id row t).host = s.host ∧ (State.startParity s id row t).sched = s.sched ∧ (State.startParity s id row t).store = s.store ∧ (State.startParity s id row t).power = s.power ∧ (State.startParity s id row t).mem = s.mem ∧ (State.startParity s id row t).cipher = s.cipher ∧ (State.startParity s id row t).engines = s.engines ∧ (State.startParity s id row t).admin = s.admin ∧ (State.startParity s id row t).staing = s.staing ∧ (State.startParity s id row t).security = s.security ∧ (State.startParity s id row t).migration = s.migration ∧ (State.startParity s id row t).pending = s.pending ∧ (State.startParity s id row t).now = s.now ∧ (State.startParity s id row t).bootAt = s.bootAt ∧ (State.startParity s id row t).free = s.free ∧ (State.startParity s id row t).out = s.out := by
  unfold State.startParity
  simp

@[simp] theorem state_advanceParity_frame (s : State) (id : Nat) (y0 : Nat) :
    (State.advanceParity s id y0).dict = s.dict ∧ (State.advanceParity s id y0).modes = s.modes ∧ (State.advanceParity s id y0).sampler = s.sampler ∧ (State.advanceParity s id y0).cells = s.cells ∧ (State.advanceParity s id y0).host = s.host ∧ (State.advanceParity s id y0).sched = s.sched ∧ (State.advanceParity s id y0).power = s.power ∧ (State.advanceParity s id y0).mem = s.mem ∧ (State.advanceParity s id y0).cipher = s.cipher ∧ (State.advanceParity s id y0).engines = s.engines ∧ (State.advanceParity s id y0).admin = s.admin ∧ (State.advanceParity s id y0).staing = s.staing ∧ (State.advanceParity s id y0).security = s.security ∧ (State.advanceParity s id y0).migration = s.migration ∧ (State.advanceParity s id y0).pending = s.pending ∧ (State.advanceParity s id y0).now = s.now ∧ (State.advanceParity s id y0).bootAt = s.bootAt ∧ (State.advanceParity s id y0).free = s.free ∧ (State.advanceParity s id y0).out = s.out := by
  induction y0 generalizing s id <;> unfold State.advanceParity <;> (repeat' split) <;> simp [*]

@[simp] theorem state_parityEnds_frame (s : State) (id : Nat) (row : Nat) :
    (State.parityEnds s id row).dict = s.dict ∧ (State.parityEnds s id row).modes = s.modes ∧ (State.parityEnds s id row).sampler = s.sampler ∧ (State.parityEnds s id row).cells = s.cells ∧ (State.parityEnds s id row).host = s.host ∧ (State.parityEnds s id row).sched = s.sched ∧ (State.parityEnds s id row).power = s.power ∧ (State.parityEnds s id row).mem = s.mem ∧ (State.parityEnds s id row).cipher = s.cipher ∧ (State.parityEnds s id row).engines = s.engines ∧ (State.parityEnds s id row).admin = s.admin ∧ (State.parityEnds s id row).staing = s.staing ∧ (State.parityEnds s id row).security = s.security ∧ (State.parityEnds s id row).migration = s.migration ∧ (State.parityEnds s id row).pending = s.pending ∧ (State.parityEnds s id row).now = s.now ∧ (State.parityEnds s id row).bootAt = s.bootAt ∧ (State.parityEnds s id row).free = s.free ∧ (State.parityEnds s id row).out = s.out := by
  unfold State.parityEnds
  (repeat' split) <;> simp

@[simp] theorem state_sampleRead_frame (s : State) (lun : Nat) (block : Nat) :
    (State.sampleRead s lun block).dict = s.dict ∧ (State.sampleRead s lun block).modes = s.modes ∧ (State.sampleRead s lun block).sampler = s.sampler ∧ (State.sampleRead s lun block).cells = s.cells ∧ (State.sampleRead s lun block).host = s.host ∧ (State.sampleRead s lun block).sched = s.sched ∧ (State.sampleRead s lun block).flash = s.flash ∧ (State.sampleRead s lun block).store = s.store ∧ (State.sampleRead s lun block).power = s.power ∧ (State.sampleRead s lun block).cipher = s.cipher ∧ (State.sampleRead s lun block).engines = s.engines ∧ (State.sampleRead s lun block).admin = s.admin ∧ (State.sampleRead s lun block).staing = s.staing ∧ (State.sampleRead s lun block).security = s.security ∧ (State.sampleRead s lun block).migration = s.migration ∧ (State.sampleRead s lun block).pending = s.pending ∧ (State.sampleRead s lun block).now = s.now ∧ (State.sampleRead s lun block).bootAt = s.bootAt ∧ (State.sampleRead s lun block).free = s.free ∧ (State.sampleRead s lun block).out = s.out ∧ (State.sampleRead s lun block).mem.dram = s.mem.dram := by
  unfold State.sampleRead
  (repeat' split) <;> simp

@[simp] theorem state_placeOpsAgain_frame (s : State) (lun : Nat) (ops : List LunOp) :
    (State.placeOpsAgain s lun ops).modes = s.modes ∧ (State.placeOpsAgain s lun ops).cells = s.cells ∧ (State.placeOpsAgain s lun ops).power = s.power ∧ (State.placeOpsAgain s lun ops).engines = s.engines ∧ (State.placeOpsAgain s lun ops).admin = s.admin ∧ (State.placeOpsAgain s lun ops).staing = s.staing ∧ (State.placeOpsAgain s lun ops).security = s.security ∧ (State.placeOpsAgain s lun ops).migration = s.migration ∧ (State.placeOpsAgain s lun ops).pending = s.pending ∧ (State.placeOpsAgain s lun ops).now = s.now ∧ (State.placeOpsAgain s lun ops).bootAt = s.bootAt ∧ (State.placeOpsAgain s lun ops).free = s.free ∧ (State.placeOpsAgain s lun ops).out = s.out ∧ (State.placeOpsAgain s lun ops).mem.dram = s.mem.dram := by
  unfold State.placeOpsAgain
  and_intros
  all_goals (repeat' first | rfl | assumption | (intros; trivial) | (dsimp only; done) | (intro _) | split | (first | refine (foldl_dict _ _ _ ?_).trans ?_ | refine (foldl_modes _ _ _ ?_).trans ?_ | refine (foldl_sampler _ _ _ ?_).trans ?_ | refine (foldl_cells _ _ _ ?_).trans ?_ | refine (foldl_host _ _ _ ?_).trans ?_ | refine (foldl_sched _ _ _ ?_).trans ?_ | refine (foldl_flash _ _ _ ?_).trans ?_ | refine (foldl_store _ _ _ ?_).trans ?_ | refine (foldl_power _ _ _ ?_).trans ?_ | refine (foldl_mem _ _ _ ?_).trans ?_ | refine (foldl_cipher _ _ _ ?_).trans ?_ | refine (foldl_engines _ _ _ ?_).trans ?_ | refine (foldl_admin _ _ _ ?_).trans ?_ | refine (foldl_staing _ _ _ ?_).trans ?_ | refine (foldl_security _ _ _ ?_).trans ?_ | refine (foldl_migration _ _ _ ?_).trans ?_ | refine (foldl_pending _ _ _ ?_).trans ?_ | refine (foldl_now _ _ _ ?_).trans ?_ | refine (foldl_bootAt _ _ _ ?_).trans ?_ | refine (foldl_free _ _ _ ?_).trans ?_ | refine (foldl_out _ _ _ ?_).trans ?_ | refine (foldl_mem_dram _ _ _ ?_).trans ?_ | refine (foldl_engines_windows _ _ _ ?_).trans ?_) | (simp; done) | simp)

@[simp] theorem state_settleWidth_frame (s : State) (e : Nat × Ns) :
    (State.settleWidth s e).modes = s.modes ∧ (State.settleWidth s e).cells = s.cells ∧ (State.settleWidth s e).host = s.host ∧ (State.settleWidth s e).sched = s.sched ∧ (State.settleWidth s e).flash = s.flash ∧ (State.settleWidth s e).power = s.power ∧ (State.settleWidth s e).mem = s.mem ∧ (State.settleWidth s e).cipher = s.cipher ∧ (State.settleWidth s e).engines = s.engines ∧ (State.settleWidth s e).admin = s.admin ∧ (State.settleWidth s e).staing = s.staing ∧ (State.settleWidth s e).security = s.security ∧ (State.settleWidth s e).migration = s.migration ∧ (State.settleWidth s e).pending = s.pending ∧ (State.settleWidth s e).now = s.now ∧ (State.settleWidth s e).bootAt = s.bootAt ∧ (State.settleWidth s e).free = s.free ∧ (State.settleWidth s e).out = s.out := by
  unfold State.settleWidth
  simp

@[simp] theorem state_settleWidths_frame (s : State) :
    (State.settleWidths s).modes = s.modes ∧ (State.settleWidths s).cells = s.cells ∧ (State.settleWidths s).host = s.host ∧ (State.settleWidths s).sched = s.sched ∧ (State.settleWidths s).flash = s.flash ∧ (State.settleWidths s).power = s.power ∧ (State.settleWidths s).mem = s.mem ∧ (State.settleWidths s).cipher = s.cipher ∧ (State.settleWidths s).engines = s.engines ∧ (State.settleWidths s).admin = s.admin ∧ (State.settleWidths s).staing = s.staing ∧ (State.settleWidths s).security = s.security ∧ (State.settleWidths s).migration = s.migration ∧ (State.settleWidths s).pending = s.pending ∧ (State.settleWidths s).now = s.now ∧ (State.settleWidths s).bootAt = s.bootAt ∧ (State.settleWidths s).free = s.free ∧ (State.settleWidths s).out = s.out := by
  unfold State.settleWidths
  simp

@[simp] theorem state_loseLun_frame (s : State) (lun : Nat) :
    (State.loseLun s lun).cells = s.cells ∧ (State.loseLun s lun).power = s.power ∧ (State.loseLun s lun).engines = s.engines ∧ (State.loseLun s lun).admin = s.admin ∧ (State.loseLun s lun).staing = s.staing ∧ (State.loseLun s lun).security = s.security ∧ (State.loseLun s lun).migration = s.migration ∧ (State.loseLun s lun).pending = s.pending ∧ (State.loseLun s lun).now = s.now ∧ (State.loseLun s lun).bootAt = s.bootAt ∧ (State.loseLun s lun).free = s.free ∧ (State.loseLun s lun).mem.dram = s.mem.dram := by
  simp only [State.loseLun]
  (repeat' split) <;> simp

@[simp] theorem state_loseTarget_frame (s : State) (ch : Nat) (ce : Nat) :
    (State.loseTarget s ch ce).cells = s.cells ∧ (State.loseTarget s ch ce).power = s.power ∧ (State.loseTarget s ch ce).engines = s.engines ∧ (State.loseTarget s ch ce).admin = s.admin ∧ (State.loseTarget s ch ce).staing = s.staing ∧ (State.loseTarget s ch ce).security = s.security ∧ (State.loseTarget s ch ce).migration = s.migration ∧ (State.loseTarget s ch ce).pending = s.pending ∧ (State.loseTarget s ch ce).now = s.now ∧ (State.loseTarget s ch ce).bootAt = s.bootAt ∧ (State.loseTarget s ch ce).free = s.free ∧ (State.loseTarget s ch ce).mem.dram = s.mem.dram := by
  simp only [State.loseTarget]
  (repeat' split) <;> simp

@[simp] theorem state_loseChannel_frame (s : State) (ch : Nat) :
    (State.loseChannel s ch).cells = s.cells ∧ (State.loseChannel s ch).power = s.power ∧ (State.loseChannel s ch).engines = s.engines ∧ (State.loseChannel s ch).admin = s.admin ∧ (State.loseChannel s ch).staing = s.staing ∧ (State.loseChannel s ch).security = s.security ∧ (State.loseChannel s ch).migration = s.migration ∧ (State.loseChannel s ch).pending = s.pending ∧ (State.loseChannel s ch).now = s.now ∧ (State.loseChannel s ch).bootAt = s.bootAt ∧ (State.loseChannel s ch).free = s.free ∧ (State.loseChannel s ch).mem.dram = s.mem.dram := by
  unfold State.loseChannel
  (repeat' split) <;> simp

@[simp] theorem state_relocateFirst_frame (s : State) (b : Block) :
    (State.relocateFirst s b).dict = s.dict ∧ (State.relocateFirst s b).modes = s.modes ∧ (State.relocateFirst s b).sampler = s.sampler ∧ (State.relocateFirst s b).cells = s.cells ∧ (State.relocateFirst s b).host = s.host ∧ (State.relocateFirst s b).sched = s.sched ∧ (State.relocateFirst s b).flash = s.flash ∧ (State.relocateFirst s b).power = s.power ∧ (State.relocateFirst s b).mem = s.mem ∧ (State.relocateFirst s b).cipher = s.cipher ∧ (State.relocateFirst s b).engines = s.engines ∧ (State.relocateFirst s b).admin = s.admin ∧ (State.relocateFirst s b).staing = s.staing ∧ (State.relocateFirst s b).security = s.security ∧ (State.relocateFirst s b).migration = s.migration ∧ (State.relocateFirst s b).pending = s.pending ∧ (State.relocateFirst s b).now = s.now ∧ (State.relocateFirst s b).bootAt = s.bootAt ∧ (State.relocateFirst s b).free = s.free ∧ (State.relocateFirst s b).out = s.out := by
  unfold State.relocateFirst
  (repeat' split) <;> simp

@[simp] theorem state_retireBlock_frame (s : State) (lun : Nat) (block : Nat) :
    (State.retireBlock s lun block).cells = s.cells ∧ (State.retireBlock s lun block).power = s.power ∧ (State.retireBlock s lun block).engines = s.engines ∧ (State.retireBlock s lun block).admin = s.admin ∧ (State.retireBlock s lun block).staing = s.staing ∧ (State.retireBlock s lun block).security = s.security ∧ (State.retireBlock s lun block).migration = s.migration ∧ (State.retireBlock s lun block).pending = s.pending ∧ (State.retireBlock s lun block).now = s.now ∧ (State.retireBlock s lun block).bootAt = s.bootAt ∧ (State.retireBlock s lun block).free = s.free ∧ (State.retireBlock s lun block).mem.dram = s.mem.dram := by
  simp only [State.retireBlock]
  (repeat' split) <;> simp

@[simp] theorem state_retireSystem_frame (s : State) (lun : Nat) (block : Nat) :
    (State.retireSystem s lun block).cells = s.cells ∧ (State.retireSystem s lun block).power = s.power ∧ (State.retireSystem s lun block).mem = s.mem ∧ (State.retireSystem s lun block).engines = s.engines ∧ (State.retireSystem s lun block).admin = s.admin ∧ (State.retireSystem s lun block).staing = s.staing ∧ (State.retireSystem s lun block).security = s.security ∧ (State.retireSystem s lun block).migration = s.migration ∧ (State.retireSystem s lun block).pending = s.pending ∧ (State.retireSystem s lun block).now = s.now ∧ (State.retireSystem s lun block).bootAt = s.bootAt ∧ (State.retireSystem s lun block).free = s.free := by
  unfold State.retireSystem
  simp

@[simp] theorem state_programFails_frame (s : State) (k : Nat) :
    (State.programFails s k).cells = s.cells ∧ (State.programFails s k).power = s.power ∧ (State.programFails s k).engines = s.engines ∧ (State.programFails s k).admin = s.admin ∧ (State.programFails s k).staing = s.staing ∧ (State.programFails s k).security = s.security ∧ (State.programFails s k).migration = s.migration ∧ (State.programFails s k).pending = s.pending ∧ (State.programFails s k).now = s.now ∧ (State.programFails s k).bootAt = s.bootAt ∧ (State.programFails s k).free = s.free ∧ (State.programFails s k).mem.dram = s.mem.dram := by
  simp only [State.programFails]
  (repeat' split) <;> simp

@[simp] theorem state_dropCopies_frame (s : State) (gone : BgWork → Bool) (sources : List Nat) :
    (State.dropCopies s gone sources).dict = s.dict ∧ (State.dropCopies s gone sources).modes = s.modes ∧ (State.dropCopies s gone sources).sampler = s.sampler ∧ (State.dropCopies s gone sources).cells = s.cells ∧ (State.dropCopies s gone sources).host = s.host ∧ (State.dropCopies s gone sources).flash = s.flash ∧ (State.dropCopies s gone sources).power = s.power ∧ (State.dropCopies s gone sources).mem = s.mem ∧ (State.dropCopies s gone sources).cipher = s.cipher ∧ (State.dropCopies s gone sources).engines = s.engines ∧ (State.dropCopies s gone sources).admin = s.admin ∧ (State.dropCopies s gone sources).staing = s.staing ∧ (State.dropCopies s gone sources).security = s.security ∧ (State.dropCopies s gone sources).migration = s.migration ∧ (State.dropCopies s gone sources).pending = s.pending ∧ (State.dropCopies s gone sources).now = s.now ∧ (State.dropCopies s gone sources).bootAt = s.bootAt ∧ (State.dropCopies s gone sources).free = s.free ∧ (State.dropCopies s gone sources).out = s.out := by
  unfold State.dropCopies
  simp

@[simp] theorem state_restartSource_frame (s : State) (i : Nat) :
    (State.restartSource s i).modes = s.modes ∧ (State.restartSource s i).sampler = s.sampler ∧ (State.restartSource s i).cells = s.cells ∧ (State.restartSource s i).host = s.host ∧ (State.restartSource s i).sched = s.sched ∧ (State.restartSource s i).flash = s.flash ∧ (State.restartSource s i).power = s.power ∧ (State.restartSource s i).mem = s.mem ∧ (State.restartSource s i).cipher = s.cipher ∧ (State.restartSource s i).engines = s.engines ∧ (State.restartSource s i).admin = s.admin ∧ (State.restartSource s i).staing = s.staing ∧ (State.restartSource s i).security = s.security ∧ (State.restartSource s i).migration = s.migration ∧ (State.restartSource s i).pending = s.pending ∧ (State.restartSource s i).now = s.now ∧ (State.restartSource s i).bootAt = s.bootAt ∧ (State.restartSource s i).free = s.free ∧ (State.restartSource s i).out = s.out := by
  unfold State.restartSource
  (repeat' split) <;> simp

@[simp] theorem state_replacementFails_frame (s : State) (id : Nat) (member : Nat) (lun : Nat) (block : Nat) :
    (State.replacementFails s id member lun block).cells = s.cells ∧ (State.replacementFails s id member lun block).power = s.power ∧ (State.replacementFails s id member lun block).engines = s.engines ∧ (State.replacementFails s id member lun block).admin = s.admin ∧ (State.replacementFails s id member lun block).staing = s.staing ∧ (State.replacementFails s id member lun block).security = s.security ∧ (State.replacementFails s id member lun block).migration = s.migration ∧ (State.replacementFails s id member lun block).pending = s.pending ∧ (State.replacementFails s id member lun block).now = s.now ∧ (State.replacementFails s id member lun block).bootAt = s.bootAt ∧ (State.replacementFails s id member lun block).free = s.free ∧ (State.replacementFails s id member lun block).mem.dram = s.mem.dram := by
  unfold State.replacementFails
  simp

@[simp] theorem state_abandonTarget_frame (s : State) (id : Nat) (member : Nat) :
    (State.abandonTarget s id member).cells = s.cells ∧ (State.abandonTarget s id member).power = s.power ∧ (State.abandonTarget s id member).engines = s.engines ∧ (State.abandonTarget s id member).admin = s.admin ∧ (State.abandonTarget s id member).staing = s.staing ∧ (State.abandonTarget s id member).security = s.security ∧ (State.abandonTarget s id member).migration = s.migration ∧ (State.abandonTarget s id member).pending = s.pending ∧ (State.abandonTarget s id member).now = s.now ∧ (State.abandonTarget s id member).bootAt = s.bootAt ∧ (State.abandonTarget s id member).free = s.free ∧ (State.abandonTarget s id member).mem.dram = s.mem.dram := by
  unfold State.abandonTarget
  (repeat' split) <;> simp

@[simp] theorem state_targetFails_frame (s : State) (id : Nat) (member : Nat) :
    (State.targetFails s id member).cells = s.cells ∧ (State.targetFails s id member).power = s.power ∧ (State.targetFails s id member).engines = s.engines ∧ (State.targetFails s id member).admin = s.admin ∧ (State.targetFails s id member).staing = s.staing ∧ (State.targetFails s id member).security = s.security ∧ (State.targetFails s id member).migration = s.migration ∧ (State.targetFails s id member).pending = s.pending ∧ (State.targetFails s id member).now = s.now ∧ (State.targetFails s id member).bootAt = s.bootAt ∧ (State.targetFails s id member).free = s.free ∧ (State.targetFails s id member).mem.dram = s.mem.dram := by
  unfold State.targetFails
  (repeat' split) <;> simp

@[simp] theorem state_blockErased_frame (s : State) (lun : Nat) (block : Nat) :
    (State.blockErased s lun block).modes = s.modes ∧ (State.blockErased s lun block).sampler = s.sampler ∧ (State.blockErased s lun block).cells = s.cells ∧ (State.blockErased s lun block).host = s.host ∧ (State.blockErased s lun block).sched = s.sched ∧ (State.blockErased s lun block).power = s.power ∧ (State.blockErased s lun block).mem = s.mem ∧ (State.blockErased s lun block).cipher = s.cipher ∧ (State.blockErased s lun block).engines = s.engines ∧ (State.blockErased s lun block).admin = s.admin ∧ (State.blockErased s lun block).staing = s.staing ∧ (State.blockErased s lun block).security = s.security ∧ (State.blockErased s lun block).migration = s.migration ∧ (State.blockErased s lun block).pending = s.pending ∧ (State.blockErased s lun block).now = s.now ∧ (State.blockErased s lun block).bootAt = s.bootAt ∧ (State.blockErased s lun block).free = s.free ∧ (State.blockErased s lun block).out = s.out := by
  unfold State.blockErased
  simp

@[simp] theorem state_eraseFails_frame (s : State) (lun : Nat) (block : Nat) :
    (State.eraseFails s lun block).cells = s.cells ∧ (State.eraseFails s lun block).power = s.power ∧ (State.eraseFails s lun block).engines = s.engines ∧ (State.eraseFails s lun block).admin = s.admin ∧ (State.eraseFails s lun block).staing = s.staing ∧ (State.eraseFails s lun block).security = s.security ∧ (State.eraseFails s lun block).migration = s.migration ∧ (State.eraseFails s lun block).pending = s.pending ∧ (State.eraseFails s lun block).now = s.now ∧ (State.eraseFails s lun block).bootAt = s.bootAt ∧ (State.eraseFails s lun block).free = s.free ∧ (State.eraseFails s lun block).mem.dram = s.mem.dram := by
  unfold State.eraseFails
  simp

@[simp] theorem state_releaseSlots_frame (s : State) :
    (State.releaseSlots s).modes = s.modes ∧ (State.releaseSlots s).sampler = s.sampler ∧ (State.releaseSlots s).cells = s.cells ∧ (State.releaseSlots s).host = s.host ∧ (State.releaseSlots s).sched = s.sched ∧ (State.releaseSlots s).power = s.power ∧ (State.releaseSlots s).mem = s.mem ∧ (State.releaseSlots s).cipher = s.cipher ∧ (State.releaseSlots s).engines = s.engines ∧ (State.releaseSlots s).admin = s.admin ∧ (State.releaseSlots s).staing = s.staing ∧ (State.releaseSlots s).security = s.security ∧ (State.releaseSlots s).migration = s.migration ∧ (State.releaseSlots s).pending = s.pending ∧ (State.releaseSlots s).now = s.now ∧ (State.releaseSlots s).bootAt = s.bootAt ∧ (State.releaseSlots s).free = s.free ∧ (State.releaseSlots s).out = s.out := by
  unfold State.releaseSlots
  simp

@[simp] theorem state_settleShutdown_frame (s : State) :
    (State.settleShutdown s).dict = s.dict ∧ (State.settleShutdown s).modes = s.modes ∧ (State.settleShutdown s).sampler = s.sampler ∧ (State.settleShutdown s).cells = s.cells ∧ (State.settleShutdown s).sched = s.sched ∧ (State.settleShutdown s).flash = s.flash ∧ (State.settleShutdown s).store = s.store ∧ (State.settleShutdown s).mem = s.mem ∧ (State.settleShutdown s).cipher = s.cipher ∧ (State.settleShutdown s).engines = s.engines ∧ (State.settleShutdown s).admin = s.admin ∧ (State.settleShutdown s).staing = s.staing ∧ (State.settleShutdown s).security = s.security ∧ (State.settleShutdown s).migration = s.migration ∧ (State.settleShutdown s).pending = s.pending ∧ (State.settleShutdown s).now = s.now ∧ (State.settleShutdown s).bootAt = s.bootAt ∧ (State.settleShutdown s).free = s.free ∧ (State.settleShutdown s).out = s.out := by
  unfold State.settleShutdown
  simp

@[simp] theorem state_settleAll_frame (s : State) :
    (State.settleAll s).modes = s.modes ∧ (State.settleAll s).mem = s.mem ∧ (State.settleAll s).engines = s.engines ∧ (State.settleAll s).admin = s.admin ∧ (State.settleAll s).staing = s.staing ∧ (State.settleAll s).security = s.security ∧ (State.settleAll s).pending = s.pending ∧ (State.settleAll s).now = s.now ∧ (State.settleAll s).bootAt = s.bootAt ∧ (State.settleAll s).free = s.free := by
  unfold State.settleAll
  simp

@[simp] theorem state_stopFrames_frame (s : State) :
    (State.stopFrames s).dict = s.dict ∧ (State.stopFrames s).modes = s.modes ∧ (State.stopFrames s).sampler = s.sampler ∧ (State.stopFrames s).cells = s.cells ∧ (State.stopFrames s).host = s.host ∧ (State.stopFrames s).flash = s.flash ∧ (State.stopFrames s).store = s.store ∧ (State.stopFrames s).power = s.power ∧ (State.stopFrames s).mem = s.mem ∧ (State.stopFrames s).cipher = s.cipher ∧ (State.stopFrames s).engines = s.engines ∧ (State.stopFrames s).admin = s.admin ∧ (State.stopFrames s).staing = s.staing ∧ (State.stopFrames s).security = s.security ∧ (State.stopFrames s).migration = s.migration ∧ (State.stopFrames s).pending = s.pending ∧ (State.stopFrames s).now = s.now ∧ (State.stopFrames s).bootAt = s.bootAt ∧ (State.stopFrames s).free = s.free ∧ (State.stopFrames s).out = s.out := by
  unfold State.stopFrames
  simp

@[simp] theorem state_writeShares_frame (s : State) (outside : List Nat) :
    (State.writeShares s outside).modes = s.modes ∧ (State.writeShares s outside).sampler = s.sampler ∧ (State.writeShares s outside).cells = s.cells ∧ (State.writeShares s outside).host = s.host ∧ (State.writeShares s outside).sched = s.sched ∧ (State.writeShares s outside).flash = s.flash ∧ (State.writeShares s outside).store = s.store ∧ (State.writeShares s outside).power = s.power ∧ (State.writeShares s outside).mem = s.mem ∧ (State.writeShares s outside).cipher = s.cipher ∧ (State.writeShares s outside).engines = s.engines ∧ (State.writeShares s outside).admin = s.admin ∧ (State.writeShares s outside).staing = s.staing ∧ (State.writeShares s outside).security = s.security ∧ (State.writeShares s outside).migration = s.migration ∧ (State.writeShares s outside).pending = s.pending ∧ (State.writeShares s outside).now = s.now ∧ (State.writeShares s outside).bootAt = s.bootAt ∧ (State.writeShares s outside).free = s.free ∧ (State.writeShares s outside).out = s.out := by
  unfold State.writeShares
  simp

@[simp] theorem state_closeFrame_frame (s : State) (late : Nat) :
    (State.closeFrame s late).modes = s.modes ∧ (State.closeFrame s late).sampler = s.sampler ∧ (State.closeFrame s late).cells = s.cells ∧ (State.closeFrame s late).host = s.host ∧ (State.closeFrame s late).flash = s.flash ∧ (State.closeFrame s late).store = s.store ∧ (State.closeFrame s late).power = s.power ∧ (State.closeFrame s late).mem = s.mem ∧ (State.closeFrame s late).cipher = s.cipher ∧ (State.closeFrame s late).engines = s.engines ∧ (State.closeFrame s late).admin = s.admin ∧ (State.closeFrame s late).staing = s.staing ∧ (State.closeFrame s late).security = s.security ∧ (State.closeFrame s late).migration = s.migration ∧ (State.closeFrame s late).pending = s.pending ∧ (State.closeFrame s late).now = s.now ∧ (State.closeFrame s late).bootAt = s.bootAt ∧ (State.closeFrame s late).free = s.free ∧ (State.closeFrame s late).out = s.out := by
  unfold State.closeFrame
  simp

@[simp] theorem state_taskDone_frame (s : State) (task : Nat) (period : Nat) :
    (State.taskDone s task period).dict = s.dict ∧ (State.taskDone s task period).modes = s.modes ∧ (State.taskDone s task period).sampler = s.sampler ∧ (State.taskDone s task period).cells = s.cells ∧ (State.taskDone s task period).host = s.host ∧ (State.taskDone s task period).flash = s.flash ∧ (State.taskDone s task period).store = s.store ∧ (State.taskDone s task period).power = s.power ∧ (State.taskDone s task period).mem = s.mem ∧ (State.taskDone s task period).cipher = s.cipher ∧ (State.taskDone s task period).engines = s.engines ∧ (State.taskDone s task period).admin = s.admin ∧ (State.taskDone s task period).staing = s.staing ∧ (State.taskDone s task period).security = s.security ∧ (State.taskDone s task period).migration = s.migration ∧ (State.taskDone s task period).pending = s.pending ∧ (State.taskDone s task period).now = s.now ∧ (State.taskDone s task period).bootAt = s.bootAt ∧ (State.taskDone s task period).free = s.free ∧ (State.taskDone s task period).out = s.out := by
  unfold State.taskDone
  simp

@[simp] theorem state_startTask_frame (s : State) (task : Nat) (period : Nat) :
    (State.startTask s task period).dict = s.dict ∧ (State.startTask s task period).modes = s.modes ∧ (State.startTask s task period).sampler = s.sampler ∧ (State.startTask s task period).cells = s.cells ∧ (State.startTask s task period).host = s.host ∧ (State.startTask s task period).flash = s.flash ∧ (State.startTask s task period).store = s.store ∧ (State.startTask s task period).power = s.power ∧ (State.startTask s task period).mem = s.mem ∧ (State.startTask s task period).cipher = s.cipher ∧ (State.startTask s task period).engines = s.engines ∧ (State.startTask s task period).admin = s.admin ∧ (State.startTask s task period).staing = s.staing ∧ (State.startTask s task period).security = s.security ∧ (State.startTask s task period).migration = s.migration ∧ (State.startTask s task period).pending = s.pending ∧ (State.startTask s task period).now = s.now ∧ (State.startTask s task period).bootAt = s.bootAt ∧ (State.startTask s task period).free = s.free ∧ (State.startTask s task period).out = s.out := by
  unfold State.startTask
  simp

@[simp] theorem state_growInstance_frame (s : State) (len : Nat) (f : Nat) (n : Nat) :
    (State.growInstance s len f n).dict = s.dict ∧ (State.growInstance s len f n).modes = s.modes ∧ (State.growInstance s len f n).sampler = s.sampler ∧ (State.growInstance s len f n).cells = s.cells ∧ (State.growInstance s len f n).host = s.host ∧ (State.growInstance s len f n).flash = s.flash ∧ (State.growInstance s len f n).store = s.store ∧ (State.growInstance s len f n).power = s.power ∧ (State.growInstance s len f n).mem = s.mem ∧ (State.growInstance s len f n).cipher = s.cipher ∧ (State.growInstance s len f n).engines = s.engines ∧ (State.growInstance s len f n).admin = s.admin ∧ (State.growInstance s len f n).staing = s.staing ∧ (State.growInstance s len f n).security = s.security ∧ (State.growInstance s len f n).migration = s.migration ∧ (State.growInstance s len f n).pending = s.pending ∧ (State.growInstance s len f n).now = s.now ∧ (State.growInstance s len f n).bootAt = s.bootAt ∧ (State.growInstance s len f n).free = s.free ∧ (State.growInstance s len f n).out = s.out := by
  unfold State.growInstance
  simp

@[simp] theorem state_growTask_frame (s : State) (len : Nat) (f : Nat) (k : Task) :
    (State.growTask s len f k).dict = s.dict ∧ (State.growTask s len f k).modes = s.modes ∧ (State.growTask s len f k).sampler = s.sampler ∧ (State.growTask s len f k).cells = s.cells ∧ (State.growTask s len f k).host = s.host ∧ (State.growTask s len f k).flash = s.flash ∧ (State.growTask s len f k).store = s.store ∧ (State.growTask s len f k).power = s.power ∧ (State.growTask s len f k).mem = s.mem ∧ (State.growTask s len f k).cipher = s.cipher ∧ (State.growTask s len f k).engines = s.engines ∧ (State.growTask s len f k).admin = s.admin ∧ (State.growTask s len f k).staing = s.staing ∧ (State.growTask s len f k).security = s.security ∧ (State.growTask s len f k).migration = s.migration ∧ (State.growTask s len f k).pending = s.pending ∧ (State.growTask s len f k).now = s.now ∧ (State.growTask s len f k).bootAt = s.bootAt ∧ (State.growTask s len f k).free = s.free ∧ (State.growTask s len f k).out = s.out := by
  unfold State.growTask
  simp

@[simp] theorem state_growBanks_frame (s : State) (len : Nat) :
    (State.growBanks s len).dict = s.dict ∧ (State.growBanks s len).modes = s.modes ∧ (State.growBanks s len).sampler = s.sampler ∧ (State.growBanks s len).cells = s.cells ∧ (State.growBanks s len).host = s.host ∧ (State.growBanks s len).flash = s.flash ∧ (State.growBanks s len).store = s.store ∧ (State.growBanks s len).power = s.power ∧ (State.growBanks s len).mem = s.mem ∧ (State.growBanks s len).cipher = s.cipher ∧ (State.growBanks s len).engines = s.engines ∧ (State.growBanks s len).admin = s.admin ∧ (State.growBanks s len).staing = s.staing ∧ (State.growBanks s len).security = s.security ∧ (State.growBanks s len).migration = s.migration ∧ (State.growBanks s len).pending = s.pending ∧ (State.growBanks s len).now = s.now ∧ (State.growBanks s len).bootAt = s.bootAt ∧ (State.growBanks s len).free = s.free ∧ (State.growBanks s len).out = s.out := by
  unfold State.growBanks
  simp

@[simp] theorem state_beginCopy_frame (s : State) (source : Nat) (nsid : Nat) (unit : Nat) :
    (State.beginCopy s source nsid unit).dict = s.dict ∧ (State.beginCopy s source nsid unit).modes = s.modes ∧ (State.beginCopy s source nsid unit).sampler = s.sampler ∧ (State.beginCopy s source nsid unit).cells = s.cells ∧ (State.beginCopy s source nsid unit).host = s.host ∧ (State.beginCopy s source nsid unit).power = s.power ∧ (State.beginCopy s source nsid unit).mem = s.mem ∧ (State.beginCopy s source nsid unit).cipher = s.cipher ∧ (State.beginCopy s source nsid unit).engines = s.engines ∧ (State.beginCopy s source nsid unit).admin = s.admin ∧ (State.beginCopy s source nsid unit).staing = s.staing ∧ (State.beginCopy s source nsid unit).security = s.security ∧ (State.beginCopy s source nsid unit).migration = s.migration ∧ (State.beginCopy s source nsid unit).pending = s.pending ∧ (State.beginCopy s source nsid unit).now = s.now ∧ (State.beginCopy s source nsid unit).bootAt = s.bootAt ∧ (State.beginCopy s source nsid unit).free = s.free ∧ (State.beginCopy s source nsid unit).out = s.out := by
  unfold State.beginCopy
  simp

@[simp] theorem state_beginRebuild_frame (s : State) (stripe : Nat) (member : Nat) :
    (State.beginRebuild s stripe member).dict = s.dict ∧ (State.beginRebuild s stripe member).modes = s.modes ∧ (State.beginRebuild s stripe member).sampler = s.sampler ∧ (State.beginRebuild s stripe member).cells = s.cells ∧ (State.beginRebuild s stripe member).host = s.host ∧ (State.beginRebuild s stripe member).sched = s.sched ∧ (State.beginRebuild s stripe member).store = s.store ∧ (State.beginRebuild s stripe member).power = s.power ∧ (State.beginRebuild s stripe member).mem = s.mem ∧ (State.beginRebuild s stripe member).cipher = s.cipher ∧ (State.beginRebuild s stripe member).engines = s.engines ∧ (State.beginRebuild s stripe member).admin = s.admin ∧ (State.beginRebuild s stripe member).staing = s.staing ∧ (State.beginRebuild s stripe member).security = s.security ∧ (State.beginRebuild s stripe member).migration = s.migration ∧ (State.beginRebuild s stripe member).pending = s.pending ∧ (State.beginRebuild s stripe member).now = s.now ∧ (State.beginRebuild s stripe member).bootAt = s.bootAt ∧ (State.beginRebuild s stripe member).free = s.free ∧ (State.beginRebuild s stripe member).out = s.out := by
  unfold State.beginRebuild
  (repeat' split) <;> simp

@[simp] theorem state_doBg_frame (s : State) (y0 : BgWork) :
    (State.doBg s y0).dict = s.dict ∧ (State.doBg s y0).modes = s.modes ∧ (State.doBg s y0).sampler = s.sampler ∧ (State.doBg s y0).cells = s.cells ∧ (State.doBg s y0).host = s.host ∧ (State.doBg s y0).power = s.power ∧ (State.doBg s y0).mem = s.mem ∧ (State.doBg s y0).cipher = s.cipher ∧ (State.doBg s y0).engines = s.engines ∧ (State.doBg s y0).admin = s.admin ∧ (State.doBg s y0).staing = s.staing ∧ (State.doBg s y0).security = s.security ∧ (State.doBg s y0).migration = s.migration ∧ (State.doBg s y0).pending = s.pending ∧ (State.doBg s y0).now = s.now ∧ (State.doBg s y0).bootAt = s.bootAt ∧ (State.doBg s y0).free = s.free ∧ (State.doBg s y0).out = s.out := by
  unfold State.doBg
  and_intros
  all_goals (repeat' first | rfl | assumption | (intros; trivial) | (dsimp only; done) | (intro _) | split | (first | refine (foldl_dict _ _ _ ?_).trans ?_ | refine (foldl_modes _ _ _ ?_).trans ?_ | refine (foldl_sampler _ _ _ ?_).trans ?_ | refine (foldl_cells _ _ _ ?_).trans ?_ | refine (foldl_host _ _ _ ?_).trans ?_ | refine (foldl_sched _ _ _ ?_).trans ?_ | refine (foldl_flash _ _ _ ?_).trans ?_ | refine (foldl_store _ _ _ ?_).trans ?_ | refine (foldl_power _ _ _ ?_).trans ?_ | refine (foldl_mem _ _ _ ?_).trans ?_ | refine (foldl_cipher _ _ _ ?_).trans ?_ | refine (foldl_engines _ _ _ ?_).trans ?_ | refine (foldl_admin _ _ _ ?_).trans ?_ | refine (foldl_staing _ _ _ ?_).trans ?_ | refine (foldl_security _ _ _ ?_).trans ?_ | refine (foldl_migration _ _ _ ?_).trans ?_ | refine (foldl_pending _ _ _ ?_).trans ?_ | refine (foldl_now _ _ _ ?_).trans ?_ | refine (foldl_bootAt _ _ _ ?_).trans ?_ | refine (foldl_free _ _ _ ?_).trans ?_ | refine (foldl_out _ _ _ ?_).trans ?_ | refine (foldl_mem_dram _ _ _ ?_).trans ?_ | refine (foldl_engines_windows _ _ _ ?_).trans ?_) | (simp; done) | simp)

theorem state_payBg_some (s : State) (c : BgChunk) (step3 : Bool) :
    ∀ got, State.payBg s c step3 = some got → got.dict = s.dict ∧ got.modes = s.modes ∧ got.sampler = s.sampler ∧ got.cells = s.cells ∧ got.host = s.host ∧ got.flash = s.flash ∧ got.store = s.store ∧ got.power = s.power ∧ got.mem = s.mem ∧ got.cipher = s.cipher ∧ got.engines = s.engines ∧ got.admin = s.admin ∧ got.staing = s.staing ∧ got.security = s.security ∧ got.migration = s.migration ∧ got.pending = s.pending ∧ got.now = s.now ∧ got.bootAt = s.bootAt ∧ got.free = s.free ∧ got.out = s.out := by
  intro got h
  unfold State.payBg at h
  split at h
  · split at h
    · cases h; simp
    · cases h
  · dsimp only at h
    split at h
    · cases h; simp
    · cases h

@[simp] theorem state_admitBg_frame (s : State) (step3 : Bool) (c : BgChunk) :
    (State.admitBg s step3 c).dict = s.dict ∧ (State.admitBg s step3 c).modes = s.modes ∧ (State.admitBg s step3 c).sampler = s.sampler ∧ (State.admitBg s step3 c).cells = s.cells ∧ (State.admitBg s step3 c).host = s.host ∧ (State.admitBg s step3 c).power = s.power ∧ (State.admitBg s step3 c).mem = s.mem ∧ (State.admitBg s step3 c).cipher = s.cipher ∧ (State.admitBg s step3 c).engines = s.engines ∧ (State.admitBg s step3 c).admin = s.admin ∧ (State.admitBg s step3 c).staing = s.staing ∧ (State.admitBg s step3 c).security = s.security ∧ (State.admitBg s step3 c).migration = s.migration ∧ (State.admitBg s step3 c).pending = s.pending ∧ (State.admitBg s step3 c).now = s.now ∧ (State.admitBg s step3 c).bootAt = s.bootAt ∧ (State.admitBg s step3 c).free = s.free ∧ (State.admitBg s step3 c).out = s.out := by
  unfold State.admitBg
  grind [state_doBg_frame, → state_payBg_some]

@[simp] theorem state_admitBgAll_frame (s : State) (step3 : Bool) (sel : BgChunk → Bool) :
    (State.admitBgAll s step3 sel).dict = s.dict ∧ (State.admitBgAll s step3 sel).modes = s.modes ∧ (State.admitBgAll s step3 sel).sampler = s.sampler ∧ (State.admitBgAll s step3 sel).cells = s.cells ∧ (State.admitBgAll s step3 sel).host = s.host ∧ (State.admitBgAll s step3 sel).power = s.power ∧ (State.admitBgAll s step3 sel).mem = s.mem ∧ (State.admitBgAll s step3 sel).cipher = s.cipher ∧ (State.admitBgAll s step3 sel).engines = s.engines ∧ (State.admitBgAll s step3 sel).admin = s.admin ∧ (State.admitBgAll s step3 sel).staing = s.staing ∧ (State.admitBgAll s step3 sel).security = s.security ∧ (State.admitBgAll s step3 sel).migration = s.migration ∧ (State.admitBgAll s step3 sel).pending = s.pending ∧ (State.admitBgAll s step3 sel).now = s.now ∧ (State.admitBgAll s step3 sel).bootAt = s.bootAt ∧ (State.admitBgAll s step3 sel).free = s.free ∧ (State.admitBgAll s step3 sel).out = s.out := by
  unfold State.admitBgAll
  simp

@[simp] theorem state_admitHosts_frame (s : State) (step3 : Bool) :
    (State.admitHosts s step3).modes = s.modes ∧ (State.admitHosts s step3).cells = s.cells ∧ (State.admitHosts s step3).power = s.power ∧ (State.admitHosts s step3).mem = s.mem ∧ (State.admitHosts s step3).engines = s.engines ∧ (State.admitHosts s step3).admin = s.admin ∧ (State.admitHosts s step3).staing = s.staing ∧ (State.admitHosts s step3).security = s.security ∧ (State.admitHosts s step3).migration = s.migration ∧ (State.admitHosts s step3).pending = s.pending ∧ (State.admitHosts s step3).now = s.now ∧ (State.admitHosts s step3).bootAt = s.bootAt ∧ (State.admitHosts s step3).free = s.free := by
  unfold State.admitHosts
  simp

@[simp] theorem state_requestClaim_frame (s : State) (task : Nat) (lun : Nat) (block : Nat) :
    (State.requestClaim s task lun block).dict = s.dict ∧ (State.requestClaim s task lun block).modes = s.modes ∧ (State.requestClaim s task lun block).sampler = s.sampler ∧ (State.requestClaim s task lun block).cells = s.cells ∧ (State.requestClaim s task lun block).host = s.host ∧ (State.requestClaim s task lun block).sched = s.sched ∧ (State.requestClaim s task lun block).flash = s.flash ∧ (State.requestClaim s task lun block).power = s.power ∧ (State.requestClaim s task lun block).mem = s.mem ∧ (State.requestClaim s task lun block).cipher = s.cipher ∧ (State.requestClaim s task lun block).engines = s.engines ∧ (State.requestClaim s task lun block).admin = s.admin ∧ (State.requestClaim s task lun block).staing = s.staing ∧ (State.requestClaim s task lun block).security = s.security ∧ (State.requestClaim s task lun block).migration = s.migration ∧ (State.requestClaim s task lun block).pending = s.pending ∧ (State.requestClaim s task lun block).now = s.now ∧ (State.requestClaim s task lun block).bootAt = s.bootAt ∧ (State.requestClaim s task lun block).free = s.free ∧ (State.requestClaim s task lun block).out = s.out := by
  unfold State.requestClaim
  simp

@[simp] theorem state_grantClaim_frame (s : State) (lun : Nat) (block : Nat) (b : Block) :
    (State.grantClaim s lun block b).modes = s.modes ∧ (State.grantClaim s lun block b).sampler = s.sampler ∧ (State.grantClaim s lun block b).cells = s.cells ∧ (State.grantClaim s lun block b).host = s.host ∧ (State.grantClaim s lun block b).sched = s.sched ∧ (State.grantClaim s lun block b).flash = s.flash ∧ (State.grantClaim s lun block b).power = s.power ∧ (State.grantClaim s lun block b).mem = s.mem ∧ (State.grantClaim s lun block b).cipher = s.cipher ∧ (State.grantClaim s lun block b).engines = s.engines ∧ (State.grantClaim s lun block b).admin = s.admin ∧ (State.grantClaim s lun block b).staing = s.staing ∧ (State.grantClaim s lun block b).security = s.security ∧ (State.grantClaim s lun block b).migration = s.migration ∧ (State.grantClaim s lun block b).pending = s.pending ∧ (State.grantClaim s lun block b).now = s.now ∧ (State.grantClaim s lun block b).bootAt = s.bootAt ∧ (State.grantClaim s lun block b).free = s.free ∧ (State.grantClaim s lun block b).out = s.out := by
  unfold State.grantClaim
  (repeat' split) <;> simp

@[simp] theorem state_grantClaims_frame (s : State) :
    (State.grantClaims s).modes = s.modes ∧ (State.grantClaims s).sampler = s.sampler ∧ (State.grantClaims s).cells = s.cells ∧ (State.grantClaims s).host = s.host ∧ (State.grantClaims s).sched = s.sched ∧ (State.grantClaims s).flash = s.flash ∧ (State.grantClaims s).power = s.power ∧ (State.grantClaims s).mem = s.mem ∧ (State.grantClaims s).cipher = s.cipher ∧ (State.grantClaims s).engines = s.engines ∧ (State.grantClaims s).admin = s.admin ∧ (State.grantClaims s).staing = s.staing ∧ (State.grantClaims s).security = s.security ∧ (State.grantClaims s).migration = s.migration ∧ (State.grantClaims s).pending = s.pending ∧ (State.grantClaims s).now = s.now ∧ (State.grantClaims s).bootAt = s.bootAt ∧ (State.grantClaims s).free = s.free ∧ (State.grantClaims s).out = s.out := by
  unfold State.grantClaims
  simp

@[simp] theorem state_dropClaims_frame (s : State) :
    (State.dropClaims s).dict = s.dict ∧ (State.dropClaims s).modes = s.modes ∧ (State.dropClaims s).sampler = s.sampler ∧ (State.dropClaims s).cells = s.cells ∧ (State.dropClaims s).host = s.host ∧ (State.dropClaims s).sched = s.sched ∧ (State.dropClaims s).flash = s.flash ∧ (State.dropClaims s).power = s.power ∧ (State.dropClaims s).mem = s.mem ∧ (State.dropClaims s).cipher = s.cipher ∧ (State.dropClaims s).engines = s.engines ∧ (State.dropClaims s).admin = s.admin ∧ (State.dropClaims s).staing = s.staing ∧ (State.dropClaims s).security = s.security ∧ (State.dropClaims s).migration = s.migration ∧ (State.dropClaims s).pending = s.pending ∧ (State.dropClaims s).now = s.now ∧ (State.dropClaims s).bootAt = s.bootAt ∧ (State.dropClaims s).free = s.free ∧ (State.dropClaims s).out = s.out := by
  unfold State.dropClaims
  simp

@[simp] theorem state_startMember_frame (s : State) (e : Nat × Nat) (task : Task) (reads : Nat) :
    (State.startMember s e task reads).dict = s.dict ∧ (State.startMember s e task reads).modes = s.modes ∧ (State.startMember s e task reads).sampler = s.sampler ∧ (State.startMember s e task reads).cells = s.cells ∧ (State.startMember s e task reads).host = s.host ∧ (State.startMember s e task reads).flash = s.flash ∧ (State.startMember s e task reads).power = s.power ∧ (State.startMember s e task reads).mem = s.mem ∧ (State.startMember s e task reads).cipher = s.cipher ∧ (State.startMember s e task reads).engines = s.engines ∧ (State.startMember s e task reads).admin = s.admin ∧ (State.startMember s e task reads).staing = s.staing ∧ (State.startMember s e task reads).security = s.security ∧ (State.startMember s e task reads).migration = s.migration ∧ (State.startMember s e task reads).pending = s.pending ∧ (State.startMember s e task reads).now = s.now ∧ (State.startMember s e task reads).bootAt = s.bootAt ∧ (State.startMember s e task reads).free = s.free ∧ (State.startMember s e task reads).out = s.out := by
  simp only [State.startMember]
  (repeat' split) <;> simp

@[simp] theorem state_startReplacement_frame (s : State) (e : Nat × Nat) :
    (State.startReplacement s e).dict = s.dict ∧ (State.startReplacement s e).modes = s.modes ∧ (State.startReplacement s e).sampler = s.sampler ∧ (State.startReplacement s e).cells = s.cells ∧ (State.startReplacement s e).host = s.host ∧ (State.startReplacement s e).flash = s.flash ∧ (State.startReplacement s e).power = s.power ∧ (State.startReplacement s e).mem = s.mem ∧ (State.startReplacement s e).cipher = s.cipher ∧ (State.startReplacement s e).engines = s.engines ∧ (State.startReplacement s e).admin = s.admin ∧ (State.startReplacement s e).staing = s.staing ∧ (State.startReplacement s e).security = s.security ∧ (State.startReplacement s e).migration = s.migration ∧ (State.startReplacement s e).pending = s.pending ∧ (State.startReplacement s e).now = s.now ∧ (State.startReplacement s e).bootAt = s.bootAt ∧ (State.startReplacement s e).free = s.free ∧ (State.startReplacement s e).out = s.out := by
  unfold State.startReplacement
  simp

@[simp] theorem state_dropReplacement_frame (s : State) (e : Nat × Nat) :
    (State.dropReplacement s e).modes = s.modes ∧ (State.dropReplacement s e).sampler = s.sampler ∧ (State.dropReplacement s e).cells = s.cells ∧ (State.dropReplacement s e).host = s.host ∧ (State.dropReplacement s e).sched = s.sched ∧ (State.dropReplacement s e).flash = s.flash ∧ (State.dropReplacement s e).power = s.power ∧ (State.dropReplacement s e).mem = s.mem ∧ (State.dropReplacement s e).cipher = s.cipher ∧ (State.dropReplacement s e).engines = s.engines ∧ (State.dropReplacement s e).admin = s.admin ∧ (State.dropReplacement s e).staing = s.staing ∧ (State.dropReplacement s e).security = s.security ∧ (State.dropReplacement s e).migration = s.migration ∧ (State.dropReplacement s e).pending = s.pending ∧ (State.dropReplacement s e).now = s.now ∧ (State.dropReplacement s e).bootAt = s.bootAt ∧ (State.dropReplacement s e).free = s.free ∧ (State.dropReplacement s e).out = s.out := by
  unfold State.dropReplacement
  simp

@[simp] theorem state_darnOne_frame (s : State) (e : Nat × Nat) :
    (State.darnOne s e).modes = s.modes ∧ (State.darnOne s e).sampler = s.sampler ∧ (State.darnOne s e).cells = s.cells ∧ (State.darnOne s e).host = s.host ∧ (State.darnOne s e).flash = s.flash ∧ (State.darnOne s e).power = s.power ∧ (State.darnOne s e).mem = s.mem ∧ (State.darnOne s e).cipher = s.cipher ∧ (State.darnOne s e).engines = s.engines ∧ (State.darnOne s e).admin = s.admin ∧ (State.darnOne s e).staing = s.staing ∧ (State.darnOne s e).security = s.security ∧ (State.darnOne s e).migration = s.migration ∧ (State.darnOne s e).pending = s.pending ∧ (State.darnOne s e).now = s.now ∧ (State.darnOne s e).bootAt = s.bootAt ∧ (State.darnOne s e).free = s.free ∧ (State.darnOne s e).out = s.out := by
  unfold State.darnOne
  (repeat' split) <;> simp

@[simp] theorem state_darnAll_frame (s : State) :
    (State.darnAll s).cells = s.cells ∧ (State.darnAll s).host = s.host ∧ (State.darnAll s).flash = s.flash ∧ (State.darnAll s).power = s.power ∧ (State.darnAll s).mem = s.mem ∧ (State.darnAll s).cipher = s.cipher ∧ (State.darnAll s).engines = s.engines ∧ (State.darnAll s).admin = s.admin ∧ (State.darnAll s).staing = s.staing ∧ (State.darnAll s).security = s.security ∧ (State.darnAll s).migration = s.migration ∧ (State.darnAll s).pending = s.pending ∧ (State.darnAll s).now = s.now ∧ (State.darnAll s).bootAt = s.bootAt ∧ (State.darnAll s).free = s.free ∧ (State.darnAll s).out = s.out := by
  unfold State.darnAll
  simp

@[simp] theorem state_markIssued_frame (s : State) (lun : Nat) (o : LunOp) :
    (State.markIssued s lun o).dict = s.dict ∧ (State.markIssued s lun o).modes = s.modes ∧ (State.markIssued s lun o).sampler = s.sampler ∧ (State.markIssued s lun o).cells = s.cells ∧ (State.markIssued s lun o).host = s.host ∧ (State.markIssued s lun o).sched = s.sched ∧ (State.markIssued s lun o).flash = s.flash ∧ (State.markIssued s lun o).power = s.power ∧ (State.markIssued s lun o).mem = s.mem ∧ (State.markIssued s lun o).cipher = s.cipher ∧ (State.markIssued s lun o).engines = s.engines ∧ (State.markIssued s lun o).admin = s.admin ∧ (State.markIssued s lun o).staing = s.staing ∧ (State.markIssued s lun o).security = s.security ∧ (State.markIssued s lun o).migration = s.migration ∧ (State.markIssued s lun o).pending = s.pending ∧ (State.markIssued s lun o).now = s.now ∧ (State.markIssued s lun o).bootAt = s.bootAt ∧ (State.markIssued s lun o).free = s.free ∧ (State.markIssued s lun o).out = s.out := by
  simp only [State.markIssued]
  (repeat' split) <;> simp

@[simp] theorem state_issueOp_frame (s : State) (lun : Nat) (o : LunOp) :
    (State.issueOp s lun o).dict = s.dict ∧ (State.issueOp s lun o).modes = s.modes ∧ (State.issueOp s lun o).sampler = s.sampler ∧ (State.issueOp s lun o).cells = s.cells ∧ (State.issueOp s lun o).host = s.host ∧ (State.issueOp s lun o).sched = s.sched ∧ (State.issueOp s lun o).power = s.power ∧ (State.issueOp s lun o).mem = s.mem ∧ (State.issueOp s lun o).cipher = s.cipher ∧ (State.issueOp s lun o).engines = s.engines ∧ (State.issueOp s lun o).admin = s.admin ∧ (State.issueOp s lun o).staing = s.staing ∧ (State.issueOp s lun o).security = s.security ∧ (State.issueOp s lun o).migration = s.migration ∧ (State.issueOp s lun o).pending = s.pending ∧ (State.issueOp s lun o).now = s.now ∧ (State.issueOp s lun o).bootAt = s.bootAt ∧ (State.issueOp s lun o).free = s.free ∧ (State.issueOp s lun o).out = s.out := by
  unfold State.issueOp
  simp

@[simp] theorem state_readReady_frame (s : State) (lun : Nat) (o : LunOp) :
    (State.readReady s lun o).dict = s.dict ∧ (State.readReady s lun o).modes = s.modes ∧ (State.readReady s lun o).sampler = s.sampler ∧ (State.readReady s lun o).cells = s.cells ∧ (State.readReady s lun o).host = s.host ∧ (State.readReady s lun o).sched = s.sched ∧ (State.readReady s lun o).store = s.store ∧ (State.readReady s lun o).power = s.power ∧ (State.readReady s lun o).mem = s.mem ∧ (State.readReady s lun o).cipher = s.cipher ∧ (State.readReady s lun o).engines = s.engines ∧ (State.readReady s lun o).admin = s.admin ∧ (State.readReady s lun o).staing = s.staing ∧ (State.readReady s lun o).security = s.security ∧ (State.readReady s lun o).migration = s.migration ∧ (State.readReady s lun o).pending = s.pending ∧ (State.readReady s lun o).now = s.now ∧ (State.readReady s lun o).bootAt = s.bootAt ∧ (State.readReady s lun o).free = s.free ∧ (State.readReady s lun o).out = s.out := by
  unfold State.readReady
  (repeat' split) <;> simp

@[simp] theorem state_readArrived_frame (s : State) (rd : Nat) :
    (State.readArrived s rd).dict = s.dict ∧ (State.readArrived s rd).modes = s.modes ∧ (State.readArrived s rd).sampler = s.sampler ∧ (State.readArrived s rd).cells = s.cells ∧ (State.readArrived s rd).host = s.host ∧ (State.readArrived s rd).sched = s.sched ∧ (State.readArrived s rd).flash = s.flash ∧ (State.readArrived s rd).power = s.power ∧ (State.readArrived s rd).mem = s.mem ∧ (State.readArrived s rd).cipher = s.cipher ∧ (State.readArrived s rd).engines = s.engines ∧ (State.readArrived s rd).admin = s.admin ∧ (State.readArrived s rd).staing = s.staing ∧ (State.readArrived s rd).security = s.security ∧ (State.readArrived s rd).migration = s.migration ∧ (State.readArrived s rd).pending = s.pending ∧ (State.readArrived s rd).now = s.now ∧ (State.readArrived s rd).bootAt = s.bootAt ∧ (State.readArrived s rd).free = s.free ∧ (State.readArrived s rd).out = s.out := by
  unfold State.readArrived
  (repeat' split) <;> simp

@[simp] theorem state_parityDone_frame (s : State) (lun : Nat) (o : LunOp) (id : Nat) (row : Nat) (ok : Bool) :
    (State.parityDone s lun o id row ok).engines = s.engines ∧ (State.parityDone s lun o id row ok).admin = s.admin ∧ (State.parityDone s lun o id row ok).staing = s.staing ∧ (State.parityDone s lun o id row ok).security = s.security ∧ (State.parityDone s lun o id row ok).pending = s.pending ∧ (State.parityDone s lun o id row ok).now = s.now ∧ (State.parityDone s lun o id row ok).bootAt = s.bootAt ∧ (State.parityDone s lun o id row ok).free = s.free ∧ (State.parityDone s lun o id row ok).mem.dram = s.mem.dram := by
  unfold State.parityDone
  (repeat' split) <;> simp

@[simp] theorem state_segmentWritten_frame (s : State) (nsid : Nat) (segment : Nat) (lun : Nat) (o : LunOp) (ok : Bool) :
    (State.segmentWritten s nsid segment lun o ok).cells = s.cells ∧ (State.segmentWritten s nsid segment lun o ok).power = s.power ∧ (State.segmentWritten s nsid segment lun o ok).mem = s.mem ∧ (State.segmentWritten s nsid segment lun o ok).engines = s.engines ∧ (State.segmentWritten s nsid segment lun o ok).admin = s.admin ∧ (State.segmentWritten s nsid segment lun o ok).staing = s.staing ∧ (State.segmentWritten s nsid segment lun o ok).security = s.security ∧ (State.segmentWritten s nsid segment lun o ok).migration = s.migration ∧ (State.segmentWritten s nsid segment lun o ok).pending = s.pending ∧ (State.segmentWritten s nsid segment lun o ok).now = s.now ∧ (State.segmentWritten s nsid segment lun o ok).bootAt = s.bootAt ∧ (State.segmentWritten s nsid segment lun o ok).free = s.free := by
  simp only [State.segmentWritten]
  (repeat' split) <;> simp

@[simp] theorem state_opDone_frame (s : State) (lun : Nat) (o : LunOp) (ok : Bool) :
    (State.opDone s lun o ok).engines = s.engines ∧ (State.opDone s lun o ok).admin = s.admin ∧ (State.opDone s lun o ok).staing = s.staing ∧ (State.opDone s lun o ok).security = s.security ∧ (State.opDone s lun o ok).pending = s.pending ∧ (State.opDone s lun o ok).now = s.now ∧ (State.opDone s lun o ok).bootAt = s.bootAt ∧ (State.opDone s lun o ok).free = s.free ∧ (State.opDone s lun o ok).mem.dram = s.mem.dram := by
  unfold State.opDone
  (repeat' split) <;> simp

@[simp] theorem state_serveNext_frame (s : State) (lun : Nat) (b : Busy) :
    (State.serveNext s lun b).dict = s.dict ∧ (State.serveNext s lun b).modes = s.modes ∧ (State.serveNext s lun b).sampler = s.sampler ∧ (State.serveNext s lun b).cells = s.cells ∧ (State.serveNext s lun b).host = s.host ∧ (State.serveNext s lun b).sched = s.sched ∧ (State.serveNext s lun b).power = s.power ∧ (State.serveNext s lun b).mem = s.mem ∧ (State.serveNext s lun b).cipher = s.cipher ∧ (State.serveNext s lun b).engines = s.engines ∧ (State.serveNext s lun b).admin = s.admin ∧ (State.serveNext s lun b).staing = s.staing ∧ (State.serveNext s lun b).security = s.security ∧ (State.serveNext s lun b).migration = s.migration ∧ (State.serveNext s lun b).pending = s.pending ∧ (State.serveNext s lun b).now = s.now ∧ (State.serveNext s lun b).bootAt = s.bootAt ∧ (State.serveNext s lun b).free = s.free ∧ (State.serveNext s lun b).out = s.out := by
  unfold State.serveNext
  (repeat' split) <;> simp

@[simp] theorem state_readFails_frame (s : State) (rd : Nat) :
    (State.readFails s rd).dict = s.dict ∧ (State.readFails s rd).modes = s.modes ∧ (State.readFails s rd).sampler = s.sampler ∧ (State.readFails s rd).cells = s.cells ∧ (State.readFails s rd).host = s.host ∧ (State.readFails s rd).power = s.power ∧ (State.readFails s rd).mem = s.mem ∧ (State.readFails s rd).cipher = s.cipher ∧ (State.readFails s rd).engines = s.engines ∧ (State.readFails s rd).admin = s.admin ∧ (State.readFails s rd).staing = s.staing ∧ (State.readFails s rd).security = s.security ∧ (State.readFails s rd).migration = s.migration ∧ (State.readFails s rd).pending = s.pending ∧ (State.readFails s rd).now = s.now ∧ (State.readFails s rd).bootAt = s.bootAt ∧ (State.readFails s rd).free = s.free ∧ (State.readFails s rd).out = s.out := by
  unfold State.readFails
  (repeat' split) <;> simp

@[simp] theorem state_afterReset_frame (s : State) (lun : Nat) (b : Busy) :
    (State.afterReset s lun b).engines = s.engines ∧ (State.afterReset s lun b).admin = s.admin ∧ (State.afterReset s lun b).staing = s.staing ∧ (State.afterReset s lun b).security = s.security ∧ (State.afterReset s lun b).pending = s.pending ∧ (State.afterReset s lun b).now = s.now ∧ (State.afterReset s lun b).bootAt = s.bootAt ∧ (State.afterReset s lun b).free = s.free ∧ (State.afterReset s lun b).mem.dram = s.mem.dram := by
  unfold State.afterReset
  (repeat' split) <;> simp

@[simp] theorem state_lunTimeout_frame (s : State) (lun : Nat) (resetReady : Bool) :
    (State.lunTimeout s lun resetReady).engines = s.engines ∧ (State.lunTimeout s lun resetReady).admin = s.admin ∧ (State.lunTimeout s lun resetReady).staing = s.staing ∧ (State.lunTimeout s lun resetReady).security = s.security ∧ (State.lunTimeout s lun resetReady).pending = s.pending ∧ (State.lunTimeout s lun resetReady).now = s.now ∧ (State.lunTimeout s lun resetReady).bootAt = s.bootAt ∧ (State.lunTimeout s lun resetReady).free = s.free ∧ (State.lunTimeout s lun resetReady).mem.dram = s.mem.dram := by
  simp only [State.lunTimeout]
  (repeat' split) <;> simp

@[simp] theorem state_recomputeQ_frame (s : State) :
    (State.recomputeQ s).modes = s.modes ∧ (State.recomputeQ s).sampler = s.sampler ∧ (State.recomputeQ s).cells = s.cells ∧ (State.recomputeQ s).host = s.host ∧ (State.recomputeQ s).sched = s.sched ∧ (State.recomputeQ s).flash = s.flash ∧ (State.recomputeQ s).store = s.store ∧ (State.recomputeQ s).power = s.power ∧ (State.recomputeQ s).mem = s.mem ∧ (State.recomputeQ s).cipher = s.cipher ∧ (State.recomputeQ s).engines = s.engines ∧ (State.recomputeQ s).admin = s.admin ∧ (State.recomputeQ s).staing = s.staing ∧ (State.recomputeQ s).security = s.security ∧ (State.recomputeQ s).migration = s.migration ∧ (State.recomputeQ s).pending = s.pending ∧ (State.recomputeQ s).now = s.now ∧ (State.recomputeQ s).bootAt = s.bootAt ∧ (State.recomputeQ s).free = s.free ∧ (State.recomputeQ s).out = s.out := by
  unfold State.recomputeQ
  simp

@[simp] theorem state_corrected_frame (s : State) (code : Nat) (e : LogEntry) :
    (State.corrected s code e).modes = s.modes ∧ (State.corrected s code e).sampler = s.sampler ∧ (State.corrected s code e).cells = s.cells ∧ (State.corrected s code e).host = s.host ∧ (State.corrected s code e).sched = s.sched ∧ (State.corrected s code e).flash = s.flash ∧ (State.corrected s code e).store = s.store ∧ (State.corrected s code e).power = s.power ∧ (State.corrected s code e).cipher = s.cipher ∧ (State.corrected s code e).engines = s.engines ∧ (State.corrected s code e).admin = s.admin ∧ (State.corrected s code e).staing = s.staing ∧ (State.corrected s code e).security = s.security ∧ (State.corrected s code e).migration = s.migration ∧ (State.corrected s code e).pending = s.pending ∧ (State.corrected s code e).now = s.now ∧ (State.corrected s code e).bootAt = s.bootAt ∧ (State.corrected s code e).free = s.free ∧ (State.corrected s code e).out = s.out ∧ (State.corrected s code e).mem.dram = s.mem.dram := by
  unfold State.corrected
  (repeat' split) <;> simp

@[simp] theorem state_uncorrectable_frame (s : State) (code : Nat) (address : Nat) :
    (State.uncorrectable s code address).modes = s.modes ∧ (State.uncorrectable s code address).cells = s.cells ∧ (State.uncorrectable s code address).host = s.host ∧ (State.uncorrectable s code address).sched = s.sched ∧ (State.uncorrectable s code address).flash = s.flash ∧ (State.uncorrectable s code address).store = s.store ∧ (State.uncorrectable s code address).power = s.power ∧ (State.uncorrectable s code address).mem = s.mem ∧ (State.uncorrectable s code address).cipher = s.cipher ∧ (State.uncorrectable s code address).engines = s.engines ∧ (State.uncorrectable s code address).admin = s.admin ∧ (State.uncorrectable s code address).staing = s.staing ∧ (State.uncorrectable s code address).security = s.security ∧ (State.uncorrectable s code address).migration = s.migration ∧ (State.uncorrectable s code address).pending = s.pending ∧ (State.uncorrectable s code address).now = s.now ∧ (State.uncorrectable s code address).bootAt = s.bootAt ∧ (State.uncorrectable s code address).free = s.free ∧ (State.uncorrectable s code address).out = s.out := by
  unfold State.uncorrectable
  simp

@[simp] theorem state_restart_frame (s : State) (cause : Nat) :
    (State.restart s cause).cells = s.cells ∧ (State.restart s cause).sched = s.sched ∧ (State.restart s cause).flash = s.flash ∧ (State.restart s cause).cipher = s.cipher ∧ (State.restart s cause).staing = s.staing ∧ (State.restart s cause).security = s.security ∧ (State.restart s cause).pending = s.pending ∧ (State.restart s cause).now = s.now ∧ (State.restart s cause).bootAt = s.bootAt ∧ (State.restart s cause).free = s.free ∧ (State.restart s cause).out = s.out ∧ (State.restart s cause).mem.dram = s.mem.dram := by
  unfold State.restart
  simp

@[simp] theorem state_settleRecovery_frame (s : State) :
    (State.settleRecovery s).cells = s.cells ∧ (State.settleRecovery s).host = s.host ∧ (State.settleRecovery s).sched = s.sched ∧ (State.settleRecovery s).flash = s.flash ∧ (State.settleRecovery s).store = s.store ∧ (State.settleRecovery s).power = s.power ∧ (State.settleRecovery s).mem = s.mem ∧ (State.settleRecovery s).cipher = s.cipher ∧ (State.settleRecovery s).engines = s.engines ∧ (State.settleRecovery s).admin = s.admin ∧ (State.settleRecovery s).staing = s.staing ∧ (State.settleRecovery s).security = s.security ∧ (State.settleRecovery s).migration = s.migration ∧ (State.settleRecovery s).pending = s.pending ∧ (State.settleRecovery s).now = s.now ∧ (State.settleRecovery s).bootAt = s.bootAt ∧ (State.settleRecovery s).free = s.free ∧ (State.settleRecovery s).out = s.out := by
  unfold State.settleRecovery
  simp

@[simp] theorem state_slotWordLost_frame (s : State) (k : Nat) (lbas : List Nat) :
    (State.slotWordLost s k lbas).modes = s.modes ∧ (State.slotWordLost s k lbas).cells = s.cells ∧ (State.slotWordLost s k lbas).sched = s.sched ∧ (State.slotWordLost s k lbas).power = s.power ∧ (State.slotWordLost s k lbas).mem = s.mem ∧ (State.slotWordLost s k lbas).cipher = s.cipher ∧ (State.slotWordLost s k lbas).engines = s.engines ∧ (State.slotWordLost s k lbas).admin = s.admin ∧ (State.slotWordLost s k lbas).staing = s.staing ∧ (State.slotWordLost s k lbas).security = s.security ∧ (State.slotWordLost s k lbas).migration = s.migration ∧ (State.slotWordLost s k lbas).pending = s.pending ∧ (State.slotWordLost s k lbas).now = s.now ∧ (State.slotWordLost s k lbas).bootAt = s.bootAt ∧ (State.slotWordLost s k lbas).free = s.free ∧ (State.slotWordLost s k lbas).out = s.out := by
  unfold State.slotWordLost
  (repeat' split) <;> simp

@[simp] theorem state_writeAmp_frame (s : State) :
    (State.writeAmp s).modes = s.modes ∧ (State.writeAmp s).sampler = s.sampler ∧ (State.writeAmp s).cells = s.cells ∧ (State.writeAmp s).host = s.host ∧ (State.writeAmp s).sched = s.sched ∧ (State.writeAmp s).flash = s.flash ∧ (State.writeAmp s).store = s.store ∧ (State.writeAmp s).power = s.power ∧ (State.writeAmp s).mem = s.mem ∧ (State.writeAmp s).cipher = s.cipher ∧ (State.writeAmp s).engines = s.engines ∧ (State.writeAmp s).admin = s.admin ∧ (State.writeAmp s).staing = s.staing ∧ (State.writeAmp s).security = s.security ∧ (State.writeAmp s).migration = s.migration ∧ (State.writeAmp s).pending = s.pending ∧ (State.writeAmp s).now = s.now ∧ (State.writeAmp s).bootAt = s.bootAt ∧ (State.writeAmp s).free = s.free ∧ (State.writeAmp s).out = s.out := by
  unfold State.writeAmp
  simp

@[simp] theorem state_putStored_frame (s : State) (loc : MapEntry) (u : Stored) :
    (State.putStored s loc u).modes = s.modes ∧ (State.putStored s loc u).sampler = s.sampler ∧ (State.putStored s loc u).cells = s.cells ∧ (State.putStored s loc u).host = s.host ∧ (State.putStored s loc u).sched = s.sched ∧ (State.putStored s loc u).flash = s.flash ∧ (State.putStored s loc u).power = s.power ∧ (State.putStored s loc u).mem = s.mem ∧ (State.putStored s loc u).cipher = s.cipher ∧ (State.putStored s loc u).engines = s.engines ∧ (State.putStored s loc u).admin = s.admin ∧ (State.putStored s loc u).staing = s.staing ∧ (State.putStored s loc u).security = s.security ∧ (State.putStored s loc u).migration = s.migration ∧ (State.putStored s loc u).pending = s.pending ∧ (State.putStored s loc u).now = s.now ∧ (State.putStored s loc u).bootAt = s.bootAt ∧ (State.putStored s loc u).free = s.free ∧ (State.putStored s loc u).out = s.out := by
  unfold State.putStored
  simp

@[simp] theorem state_finishUnit_frame (s : State) (k : Nat) (n : Ns) (z : Nat) (v : Nat) :
    (State.finishUnit s k n z v).modes = s.modes ∧ (State.finishUnit s k n z v).cells = s.cells ∧ (State.finishUnit s k n z v).host = s.host ∧ (State.finishUnit s k n z v).sched = s.sched ∧ (State.finishUnit s k n z v).power = s.power ∧ (State.finishUnit s k n z v).mem = s.mem ∧ (State.finishUnit s k n z v).engines = s.engines ∧ (State.finishUnit s k n z v).admin = s.admin ∧ (State.finishUnit s k n z v).staing = s.staing ∧ (State.finishUnit s k n z v).security = s.security ∧ (State.finishUnit s k n z v).migration = s.migration ∧ (State.finishUnit s k n z v).pending = s.pending ∧ (State.finishUnit s k n z v).now = s.now ∧ (State.finishUnit s k n z v).bootAt = s.bootAt ∧ (State.finishUnit s k n z v).free = s.free ∧ (State.finishUnit s k n z v).out = s.out := by
  simp only [State.finishUnit]
  (repeat' split) <;> simp

@[simp] theorem state_stagedUnit_frame (s : State) (k : Nat) (x : Slot) (n : Ns) (loc : MapEntry) :
    (State.stagedUnit s k x n loc).modes = s.modes ∧ (State.stagedUnit s k x n loc).cells = s.cells ∧ (State.stagedUnit s k x n loc).host = s.host ∧ (State.stagedUnit s k x n loc).sched = s.sched ∧ (State.stagedUnit s k x n loc).power = s.power ∧ (State.stagedUnit s k x n loc).mem = s.mem ∧ (State.stagedUnit s k x n loc).engines = s.engines ∧ (State.stagedUnit s k x n loc).admin = s.admin ∧ (State.stagedUnit s k x n loc).staing = s.staing ∧ (State.stagedUnit s k x n loc).security = s.security ∧ (State.stagedUnit s k x n loc).migration = s.migration ∧ (State.stagedUnit s k x n loc).pending = s.pending ∧ (State.stagedUnit s k x n loc).now = s.now ∧ (State.stagedUnit s k x n loc).bootAt = s.bootAt ∧ (State.stagedUnit s k x n loc).free = s.free ∧ (State.stagedUnit s k x n loc).out = s.out := by
  unfold State.stagedUnit
  simp

@[simp] theorem state_unitDone_frame (s : State) (k : Nat) (x : Slot) (loc : MapEntry) :
    (State.unitDone s k x loc).modes = s.modes ∧ (State.unitDone s k x loc).cells = s.cells ∧ (State.unitDone s k x loc).host = s.host ∧ (State.unitDone s k x loc).power = s.power ∧ (State.unitDone s k x loc).mem = s.mem ∧ (State.unitDone s k x loc).engines = s.engines ∧ (State.unitDone s k x loc).admin = s.admin ∧ (State.unitDone s k x loc).staing = s.staing ∧ (State.unitDone s k x loc).security = s.security ∧ (State.unitDone s k x loc).migration = s.migration ∧ (State.unitDone s k x loc).pending = s.pending ∧ (State.unitDone s k x loc).now = s.now ∧ (State.unitDone s k x loc).bootAt = s.bootAt ∧ (State.unitDone s k x loc).free = s.free ∧ (State.unitDone s k x loc).out = s.out := by
  simp only [State.unitDone]
  (repeat' split) <;> simp

@[simp] theorem state_keepDurable_frame (s : State) (kept : Tbl Nat) :
    (State.keepDurable s kept).modes = s.modes ∧ (State.keepDurable s kept).sampler = s.sampler ∧ (State.keepDurable s kept).cells = s.cells ∧ (State.keepDurable s kept).host = s.host ∧ (State.keepDurable s kept).sched = s.sched ∧ (State.keepDurable s kept).flash = s.flash ∧ (State.keepDurable s kept).store = s.store ∧ (State.keepDurable s kept).power = s.power ∧ (State.keepDurable s kept).mem = s.mem ∧ (State.keepDurable s kept).cipher = s.cipher ∧ (State.keepDurable s kept).engines = s.engines ∧ (State.keepDurable s kept).admin = s.admin ∧ (State.keepDurable s kept).staing = s.staing ∧ (State.keepDurable s kept).security = s.security ∧ (State.keepDurable s kept).migration = s.migration ∧ (State.keepDurable s kept).pending = s.pending ∧ (State.keepDurable s kept).now = s.now ∧ (State.keepDurable s kept).bootAt = s.bootAt ∧ (State.keepDurable s kept).free = s.free ∧ (State.keepDurable s kept).out = s.out := by
  unfold State.keepDurable
  simp

@[simp] theorem state_journalEffects_frame (s : State) (p : JPage) :
    (State.journalEffects s p).modes = s.modes ∧ (State.journalEffects s p).sampler = s.sampler ∧ (State.journalEffects s p).cells = s.cells ∧ (State.journalEffects s p).host = s.host ∧ (State.journalEffects s p).sched = s.sched ∧ (State.journalEffects s p).flash = s.flash ∧ (State.journalEffects s p).power = s.power ∧ (State.journalEffects s p).mem = s.mem ∧ (State.journalEffects s p).cipher = s.cipher ∧ (State.journalEffects s p).engines = s.engines ∧ (State.journalEffects s p).admin = s.admin ∧ (State.journalEffects s p).staing = s.staing ∧ (State.journalEffects s p).security = s.security ∧ (State.journalEffects s p).migration = s.migration ∧ (State.journalEffects s p).pending = s.pending ∧ (State.journalEffects s p).now = s.now ∧ (State.journalEffects s p).bootAt = s.bootAt ∧ (State.journalEffects s p).free = s.free ∧ (State.journalEffects s p).out = s.out := by
  unfold State.journalEffects
  simp

@[simp] theorem state_failWaiters_frame (s : State) (seq : Nat) :
    (State.failWaiters s seq).dict = s.dict ∧ (State.failWaiters s seq).modes = s.modes ∧ (State.failWaiters s seq).sampler = s.sampler ∧ (State.failWaiters s seq).cells = s.cells ∧ (State.failWaiters s seq).sched = s.sched ∧ (State.failWaiters s seq).flash = s.flash ∧ (State.failWaiters s seq).store = s.store ∧ (State.failWaiters s seq).power = s.power ∧ (State.failWaiters s seq).mem = s.mem ∧ (State.failWaiters s seq).cipher = s.cipher ∧ (State.failWaiters s seq).engines = s.engines ∧ (State.failWaiters s seq).admin = s.admin ∧ (State.failWaiters s seq).staing = s.staing ∧ (State.failWaiters s seq).security = s.security ∧ (State.failWaiters s seq).migration = s.migration ∧ (State.failWaiters s seq).pending = s.pending ∧ (State.failWaiters s seq).now = s.now ∧ (State.failWaiters s seq).bootAt = s.bootAt ∧ (State.failWaiters s seq).free = s.free ∧ (State.failWaiters s seq).out = s.out := by
  unfold State.failWaiters
  simp

@[simp] theorem state_beginPass_frame (s : State) :
    (State.beginPass s).dict = s.dict ∧ (State.beginPass s).modes = s.modes ∧ (State.beginPass s).sampler = s.sampler ∧ (State.beginPass s).cells = s.cells ∧ (State.beginPass s).host = s.host ∧ (State.beginPass s).power = s.power ∧ (State.beginPass s).mem = s.mem ∧ (State.beginPass s).cipher = s.cipher ∧ (State.beginPass s).engines = s.engines ∧ (State.beginPass s).admin = s.admin ∧ (State.beginPass s).staing = s.staing ∧ (State.beginPass s).security = s.security ∧ (State.beginPass s).migration = s.migration ∧ (State.beginPass s).pending = s.pending ∧ (State.beginPass s).now = s.now ∧ (State.beginPass s).bootAt = s.bootAt ∧ (State.beginPass s).free = s.free ∧ (State.beginPass s).out = s.out := by
  unfold State.beginPass
  simp

@[simp] theorem state_copySegment_frame (s : State) (nsid : Nat) (segment : Nat) :
    (State.copySegment s nsid segment).cells = s.cells ∧ (State.copySegment s nsid segment).power = s.power ∧ (State.copySegment s nsid segment).mem = s.mem ∧ (State.copySegment s nsid segment).engines = s.engines ∧ (State.copySegment s nsid segment).admin = s.admin ∧ (State.copySegment s nsid segment).staing = s.staing ∧ (State.copySegment s nsid segment).security = s.security ∧ (State.copySegment s nsid segment).migration = s.migration ∧ (State.copySegment s nsid segment).pending = s.pending ∧ (State.copySegment s nsid segment).now = s.now ∧ (State.copySegment s nsid segment).bootAt = s.bootAt ∧ (State.copySegment s nsid segment).free = s.free := by
  simp only [State.copySegment]
  (repeat' split) <;> simp

@[simp] theorem state_releaseSystem_frame (s : State) (ms : List (Nat × Nat)) :
    (State.releaseSystem s ms).dict = s.dict ∧ (State.releaseSystem s ms).modes = s.modes ∧ (State.releaseSystem s ms).sampler = s.sampler ∧ (State.releaseSystem s ms).cells = s.cells ∧ (State.releaseSystem s ms).host = s.host ∧ (State.releaseSystem s ms).sched = s.sched ∧ (State.releaseSystem s ms).power = s.power ∧ (State.releaseSystem s ms).mem = s.mem ∧ (State.releaseSystem s ms).cipher = s.cipher ∧ (State.releaseSystem s ms).engines = s.engines ∧ (State.releaseSystem s ms).admin = s.admin ∧ (State.releaseSystem s ms).staing = s.staing ∧ (State.releaseSystem s ms).security = s.security ∧ (State.releaseSystem s ms).migration = s.migration ∧ (State.releaseSystem s ms).pending = s.pending ∧ (State.releaseSystem s ms).now = s.now ∧ (State.releaseSystem s ms).bootAt = s.bootAt ∧ (State.releaseSystem s ms).free = s.free ∧ (State.releaseSystem s ms).out = s.out := by
  unfold State.releaseSystem
  simp

@[simp] theorem state_addSource_frame (s : State) (id : Nat) :
    (State.addSource s id).dict = s.dict ∧ (State.addSource s id).modes = s.modes ∧ (State.addSource s id).sampler = s.sampler ∧ (State.addSource s id).cells = s.cells ∧ (State.addSource s id).host = s.host ∧ (State.addSource s id).sched = s.sched ∧ (State.addSource s id).flash = s.flash ∧ (State.addSource s id).power = s.power ∧ (State.addSource s id).mem = s.mem ∧ (State.addSource s id).cipher = s.cipher ∧ (State.addSource s id).engines = s.engines ∧ (State.addSource s id).admin = s.admin ∧ (State.addSource s id).staing = s.staing ∧ (State.addSource s id).security = s.security ∧ (State.addSource s id).migration = s.migration ∧ (State.addSource s id).pending = s.pending ∧ (State.addSource s id).now = s.now ∧ (State.addSource s id).bootAt = s.bootAt ∧ (State.addSource s id).free = s.free ∧ (State.addSource s id).out = s.out := by
  unfold State.addSource
  (repeat' split) <;> simp

@[simp] theorem state_noteWear_frame (s : State) (id : Nat) (wear : Bool) :
    (State.noteWear s id wear).dict = s.dict ∧ (State.noteWear s id wear).modes = s.modes ∧ (State.noteWear s id wear).sampler = s.sampler ∧ (State.noteWear s id wear).cells = s.cells ∧ (State.noteWear s id wear).host = s.host ∧ (State.noteWear s id wear).sched = s.sched ∧ (State.noteWear s id wear).flash = s.flash ∧ (State.noteWear s id wear).power = s.power ∧ (State.noteWear s id wear).mem = s.mem ∧ (State.noteWear s id wear).cipher = s.cipher ∧ (State.noteWear s id wear).engines = s.engines ∧ (State.noteWear s id wear).admin = s.admin ∧ (State.noteWear s id wear).staing = s.staing ∧ (State.noteWear s id wear).security = s.security ∧ (State.noteWear s id wear).migration = s.migration ∧ (State.noteWear s id wear).pending = s.pending ∧ (State.noteWear s id wear).now = s.now ∧ (State.noteWear s id wear).bootAt = s.bootAt ∧ (State.noteWear s id wear).free = s.free ∧ (State.noteWear s id wear).out = s.out := by
  unfold State.noteWear
  simp

@[simp] theorem state_startSource_frame (s : State) (id : Nat) :
    (State.startSource s id).dict = s.dict ∧ (State.startSource s id).modes = s.modes ∧ (State.startSource s id).sampler = s.sampler ∧ (State.startSource s id).cells = s.cells ∧ (State.startSource s id).host = s.host ∧ (State.startSource s id).flash = s.flash ∧ (State.startSource s id).power = s.power ∧ (State.startSource s id).mem = s.mem ∧ (State.startSource s id).cipher = s.cipher ∧ (State.startSource s id).engines = s.engines ∧ (State.startSource s id).admin = s.admin ∧ (State.startSource s id).staing = s.staing ∧ (State.startSource s id).security = s.security ∧ (State.startSource s id).migration = s.migration ∧ (State.startSource s id).pending = s.pending ∧ (State.startSource s id).now = s.now ∧ (State.startSource s id).bootAt = s.bootAt ∧ (State.startSource s id).free = s.free ∧ (State.startSource s id).out = s.out := by
  unfold State.startSource
  (repeat' split) <;> simp

@[simp] theorem state_startSources_frame (s : State) :
    (State.startSources s).dict = s.dict ∧ (State.startSources s).modes = s.modes ∧ (State.startSources s).sampler = s.sampler ∧ (State.startSources s).cells = s.cells ∧ (State.startSources s).host = s.host ∧ (State.startSources s).flash = s.flash ∧ (State.startSources s).power = s.power ∧ (State.startSources s).mem = s.mem ∧ (State.startSources s).cipher = s.cipher ∧ (State.startSources s).engines = s.engines ∧ (State.startSources s).admin = s.admin ∧ (State.startSources s).staing = s.staing ∧ (State.startSources s).security = s.security ∧ (State.startSources s).migration = s.migration ∧ (State.startSources s).pending = s.pending ∧ (State.startSources s).now = s.now ∧ (State.startSources s).bootAt = s.bootAt ∧ (State.startSources s).free = s.free ∧ (State.startSources s).out = s.out := by
  unfold State.startSources
  simp

@[simp] theorem state_placeCopy_frame (s : State) (source : Nat) (nsid : Nat) (unit : Nat) (src : MapEntry) :
    (State.placeCopy s source nsid unit src).modes = s.modes ∧ (State.placeCopy s source nsid unit src).sampler = s.sampler ∧ (State.placeCopy s source nsid unit src).cells = s.cells ∧ (State.placeCopy s source nsid unit src).host = s.host ∧ (State.placeCopy s source nsid unit src).power = s.power ∧ (State.placeCopy s source nsid unit src).mem = s.mem ∧ (State.placeCopy s source nsid unit src).cipher = s.cipher ∧ (State.placeCopy s source nsid unit src).engines = s.engines ∧ (State.placeCopy s source nsid unit src).admin = s.admin ∧ (State.placeCopy s source nsid unit src).staing = s.staing ∧ (State.placeCopy s source nsid unit src).security = s.security ∧ (State.placeCopy s source nsid unit src).migration = s.migration ∧ (State.placeCopy s source nsid unit src).pending = s.pending ∧ (State.placeCopy s source nsid unit src).now = s.now ∧ (State.placeCopy s source nsid unit src).bootAt = s.bootAt ∧ (State.placeCopy s source nsid unit src).free = s.free ∧ (State.placeCopy s source nsid unit src).out = s.out := by
  unfold State.placeCopy
  (repeat' split) <;> grind [state_enqueue_frame, → state_placeFirst_some, state_putStored_frame, state_queueBg_frame, state_setStripe_frame]

@[simp] theorem state_relocate_frame (s : State) (m : Nat × Nat × MapEntry × MapEntry) :
    (State.relocate s m).modes = s.modes ∧ (State.relocate s m).sampler = s.sampler ∧ (State.relocate s m).cells = s.cells ∧ (State.relocate s m).host = s.host ∧ (State.relocate s m).sched = s.sched ∧ (State.relocate s m).power = s.power ∧ (State.relocate s m).mem = s.mem ∧ (State.relocate s m).cipher = s.cipher ∧ (State.relocate s m).engines = s.engines ∧ (State.relocate s m).admin = s.admin ∧ (State.relocate s m).staing = s.staing ∧ (State.relocate s m).security = s.security ∧ (State.relocate s m).migration = s.migration ∧ (State.relocate s m).pending = s.pending ∧ (State.relocate s m).now = s.now ∧ (State.relocate s m).bootAt = s.bootAt ∧ (State.relocate s m).free = s.free ∧ (State.relocate s m).out = s.out := by
  unfold State.relocate
  (repeat' split) <;> simp

@[simp] theorem state_parityAll_frame (s : State) (id : Nat) :
    (State.parityAll s id).dict = s.dict ∧ (State.parityAll s id).modes = s.modes ∧ (State.parityAll s id).sampler = s.sampler ∧ (State.parityAll s id).cells = s.cells ∧ (State.parityAll s id).host = s.host ∧ (State.parityAll s id).sched = s.sched ∧ (State.parityAll s id).power = s.power ∧ (State.parityAll s id).mem = s.mem ∧ (State.parityAll s id).cipher = s.cipher ∧ (State.parityAll s id).engines = s.engines ∧ (State.parityAll s id).admin = s.admin ∧ (State.parityAll s id).staing = s.staing ∧ (State.parityAll s id).security = s.security ∧ (State.parityAll s id).migration = s.migration ∧ (State.parityAll s id).pending = s.pending ∧ (State.parityAll s id).now = s.now ∧ (State.parityAll s id).bootAt = s.bootAt ∧ (State.parityAll s id).free = s.free ∧ (State.parityAll s id).out = s.out := by
  unfold State.parityAll
  and_intros
  all_goals (repeat' first | rfl | assumption | (intros; trivial) | (dsimp only; done) | (intro _) | split | (first | refine (foldl_dict _ _ _ ?_).trans ?_ | refine (foldl_modes _ _ _ ?_).trans ?_ | refine (foldl_sampler _ _ _ ?_).trans ?_ | refine (foldl_cells _ _ _ ?_).trans ?_ | refine (foldl_host _ _ _ ?_).trans ?_ | refine (foldl_sched _ _ _ ?_).trans ?_ | refine (foldl_flash _ _ _ ?_).trans ?_ | refine (foldl_store _ _ _ ?_).trans ?_ | refine (foldl_power _ _ _ ?_).trans ?_ | refine (foldl_mem _ _ _ ?_).trans ?_ | refine (foldl_cipher _ _ _ ?_).trans ?_ | refine (foldl_engines _ _ _ ?_).trans ?_ | refine (foldl_admin _ _ _ ?_).trans ?_ | refine (foldl_staing _ _ _ ?_).trans ?_ | refine (foldl_security _ _ _ ?_).trans ?_ | refine (foldl_migration _ _ _ ?_).trans ?_ | refine (foldl_pending _ _ _ ?_).trans ?_ | refine (foldl_now _ _ _ ?_).trans ?_ | refine (foldl_bootAt _ _ _ ?_).trans ?_ | refine (foldl_free _ _ _ ?_).trans ?_ | refine (foldl_out _ _ _ ?_).trans ?_ | refine (foldl_mem_dram _ _ _ ?_).trans ?_ | refine (foldl_engines_windows _ _ _ ?_).trans ?_) | (simp; done) | simp)

@[simp] theorem state_closeStripe_frame (s : State) (id : Nat) :
    (State.closeStripe s id).dict = s.dict ∧ (State.closeStripe s id).modes = s.modes ∧ (State.closeStripe s id).sampler = s.sampler ∧ (State.closeStripe s id).cells = s.cells ∧ (State.closeStripe s id).host = s.host ∧ (State.closeStripe s id).sched = s.sched ∧ (State.closeStripe s id).power = s.power ∧ (State.closeStripe s id).mem = s.mem ∧ (State.closeStripe s id).cipher = s.cipher ∧ (State.closeStripe s id).engines = s.engines ∧ (State.closeStripe s id).admin = s.admin ∧ (State.closeStripe s id).staing = s.staing ∧ (State.closeStripe s id).security = s.security ∧ (State.closeStripe s id).migration = s.migration ∧ (State.closeStripe s id).pending = s.pending ∧ (State.closeStripe s id).now = s.now ∧ (State.closeStripe s id).bootAt = s.bootAt ∧ (State.closeStripe s id).free = s.free ∧ (State.closeStripe s id).out = s.out := by
  unfold State.closeStripe
  (repeat' split) <;> simp

@[simp] theorem state_queueErases_frame (s : State) :
    (State.queueErases s).dict = s.dict ∧ (State.queueErases s).modes = s.modes ∧ (State.queueErases s).sampler = s.sampler ∧ (State.queueErases s).cells = s.cells ∧ (State.queueErases s).host = s.host ∧ (State.queueErases s).sched = s.sched ∧ (State.queueErases s).store = s.store ∧ (State.queueErases s).power = s.power ∧ (State.queueErases s).mem = s.mem ∧ (State.queueErases s).cipher = s.cipher ∧ (State.queueErases s).engines = s.engines ∧ (State.queueErases s).admin = s.admin ∧ (State.queueErases s).staing = s.staing ∧ (State.queueErases s).security = s.security ∧ (State.queueErases s).migration = s.migration ∧ (State.queueErases s).pending = s.pending ∧ (State.queueErases s).now = s.now ∧ (State.queueErases s).bootAt = s.bootAt ∧ (State.queueErases s).free = s.free ∧ (State.queueErases s).out = s.out := by
  unfold State.queueErases
  simp

@[simp] theorem state_unqueueErase_frame (s : State) (lun : Nat) (block : Nat) :
    (State.unqueueErase s lun block).dict = s.dict ∧ (State.unqueueErase s lun block).modes = s.modes ∧ (State.unqueueErase s lun block).sampler = s.sampler ∧ (State.unqueueErase s lun block).cells = s.cells ∧ (State.unqueueErase s lun block).host = s.host ∧ (State.unqueueErase s lun block).sched = s.sched ∧ (State.unqueueErase s lun block).store = s.store ∧ (State.unqueueErase s lun block).power = s.power ∧ (State.unqueueErase s lun block).mem = s.mem ∧ (State.unqueueErase s lun block).cipher = s.cipher ∧ (State.unqueueErase s lun block).engines = s.engines ∧ (State.unqueueErase s lun block).admin = s.admin ∧ (State.unqueueErase s lun block).staing = s.staing ∧ (State.unqueueErase s lun block).security = s.security ∧ (State.unqueueErase s lun block).migration = s.migration ∧ (State.unqueueErase s lun block).pending = s.pending ∧ (State.unqueueErase s lun block).now = s.now ∧ (State.unqueueErase s lun block).bootAt = s.bootAt ∧ (State.unqueueErase s lun block).free = s.free ∧ (State.unqueueErase s lun block).out = s.out := by
  unfold State.unqueueErase
  simp

theorem state_addSpares_some (s : State) (count : Nat) :
    ∀ got, State.addSpares s count = some got → got.cells = s.cells ∧ got.host = s.host ∧ got.sched = s.sched ∧ got.flash = s.flash ∧ got.power = s.power ∧ got.mem = s.mem ∧ got.cipher = s.cipher ∧ got.engines = s.engines ∧ got.admin = s.admin ∧ got.staing = s.staing ∧ got.security = s.security ∧ got.migration = s.migration ∧ got.pending = s.pending ∧ got.now = s.now ∧ got.bootAt = s.bootAt ∧ got.free = s.free ∧ got.out = s.out := by
  intro got h
  unfold State.addSpares at h
  (repeat' split at h) <;> first | (cases h; done) | (cases h; simp) | grind []

@[simp] theorem state_rebuildMedia_frame (s : State) (moves : List (MapEntry × MapEntry)) :
    (State.rebuildMedia s moves).modes = s.modes ∧ (State.rebuildMedia s moves).sampler = s.sampler ∧ (State.rebuildMedia s moves).cells = s.cells ∧ (State.rebuildMedia s moves).host = s.host ∧ (State.rebuildMedia s moves).sched = s.sched ∧ (State.rebuildMedia s moves).flash = s.flash ∧ (State.rebuildMedia s moves).power = s.power ∧ (State.rebuildMedia s moves).mem = s.mem ∧ (State.rebuildMedia s moves).cipher = s.cipher ∧ (State.rebuildMedia s moves).engines = s.engines ∧ (State.rebuildMedia s moves).admin = s.admin ∧ (State.rebuildMedia s moves).staing = s.staing ∧ (State.rebuildMedia s moves).security = s.security ∧ (State.rebuildMedia s moves).migration = s.migration ∧ (State.rebuildMedia s moves).pending = s.pending ∧ (State.rebuildMedia s moves).now = s.now ∧ (State.rebuildMedia s moves).bootAt = s.bootAt ∧ (State.rebuildMedia s moves).free = s.free ∧ (State.rebuildMedia s moves).out = s.out := by
  unfold State.rebuildMedia
  simp (disch := (intros; (repeat' split) <;> simp))

@[simp] theorem state_resumeZone_frame (s : State) (nsid : Nat) (z : Nat) (m : Nat) :
    (State.resumeZone s nsid z m).modes = s.modes ∧ (State.resumeZone s nsid z m).cells = s.cells ∧ (State.resumeZone s nsid z m).host = s.host ∧ (State.resumeZone s nsid z m).sched = s.sched ∧ (State.resumeZone s nsid z m).power = s.power ∧ (State.resumeZone s nsid z m).mem = s.mem ∧ (State.resumeZone s nsid z m).engines = s.engines ∧ (State.resumeZone s nsid z m).admin = s.admin ∧ (State.resumeZone s nsid z m).staing = s.staing ∧ (State.resumeZone s nsid z m).security = s.security ∧ (State.resumeZone s nsid z m).migration = s.migration ∧ (State.resumeZone s nsid z m).pending = s.pending ∧ (State.resumeZone s nsid z m).now = s.now ∧ (State.resumeZone s nsid z m).bootAt = s.bootAt ∧ (State.resumeZone s nsid z m).free = s.free ∧ (State.resumeZone s nsid z m).out = s.out := by
  unfold State.resumeZone
  (repeat' split) <;> simp

@[simp] theorem state_renameMember_frame (s : State) (id : Nat) (m : Nat) (lun : Nat) (block : Nat) (t : Stripe) (moves : List (MapEntry × MapEntry)) :
    (State.renameMember s id m lun block t moves).modes = s.modes ∧ (State.renameMember s id m lun block t moves).cells = s.cells ∧ (State.renameMember s id m lun block t moves).host = s.host ∧ (State.renameMember s id m lun block t moves).sched = s.sched ∧ (State.renameMember s id m lun block t moves).power = s.power ∧ (State.renameMember s id m lun block t moves).mem = s.mem ∧ (State.renameMember s id m lun block t moves).engines = s.engines ∧ (State.renameMember s id m lun block t moves).admin = s.admin ∧ (State.renameMember s id m lun block t moves).staing = s.staing ∧ (State.renameMember s id m lun block t moves).security = s.security ∧ (State.renameMember s id m lun block t moves).migration = s.migration ∧ (State.renameMember s id m lun block t moves).pending = s.pending ∧ (State.renameMember s id m lun block t moves).now = s.now ∧ (State.renameMember s id m lun block t moves).bootAt = s.bootAt ∧ (State.renameMember s id m lun block t moves).free = s.free ∧ (State.renameMember s id m lun block t moves).out = s.out := by
  unfold State.renameMember
  and_intros
  all_goals (repeat' first | rfl | assumption | (intros; trivial) | (dsimp only; done) | (intro _) | split | (first | refine (foldl_dict _ _ _ ?_).trans ?_ | refine (foldl_modes _ _ _ ?_).trans ?_ | refine (foldl_sampler _ _ _ ?_).trans ?_ | refine (foldl_cells _ _ _ ?_).trans ?_ | refine (foldl_host _ _ _ ?_).trans ?_ | refine (foldl_sched _ _ _ ?_).trans ?_ | refine (foldl_flash _ _ _ ?_).trans ?_ | refine (foldl_store _ _ _ ?_).trans ?_ | refine (foldl_power _ _ _ ?_).trans ?_ | refine (foldl_mem _ _ _ ?_).trans ?_ | refine (foldl_cipher _ _ _ ?_).trans ?_ | refine (foldl_engines _ _ _ ?_).trans ?_ | refine (foldl_admin _ _ _ ?_).trans ?_ | refine (foldl_staing _ _ _ ?_).trans ?_ | refine (foldl_security _ _ _ ?_).trans ?_ | refine (foldl_migration _ _ _ ?_).trans ?_ | refine (foldl_pending _ _ _ ?_).trans ?_ | refine (foldl_now _ _ _ ?_).trans ?_ | refine (foldl_bootAt _ _ _ ?_).trans ?_ | refine (foldl_free _ _ _ ?_).trans ?_ | refine (foldl_out _ _ _ ?_).trans ?_ | refine (foldl_mem_dram _ _ _ ?_).trans ?_ | refine (foldl_engines_windows _ _ _ ?_).trans ?_) | (simp; done) | simp)

@[simp] theorem state_dropStripeClaims_frame (s : State) (t : Stripe) (task : Nat) :
    (State.dropStripeClaims s t task).dict = s.dict ∧ (State.dropStripeClaims s t task).modes = s.modes ∧ (State.dropStripeClaims s t task).sampler = s.sampler ∧ (State.dropStripeClaims s t task).cells = s.cells ∧ (State.dropStripeClaims s t task).host = s.host ∧ (State.dropStripeClaims s t task).sched = s.sched ∧ (State.dropStripeClaims s t task).flash = s.flash ∧ (State.dropStripeClaims s t task).power = s.power ∧ (State.dropStripeClaims s t task).mem = s.mem ∧ (State.dropStripeClaims s t task).cipher = s.cipher ∧ (State.dropStripeClaims s t task).engines = s.engines ∧ (State.dropStripeClaims s t task).admin = s.admin ∧ (State.dropStripeClaims s t task).staing = s.staing ∧ (State.dropStripeClaims s t task).security = s.security ∧ (State.dropStripeClaims s t task).migration = s.migration ∧ (State.dropStripeClaims s t task).pending = s.pending ∧ (State.dropStripeClaims s t task).now = s.now ∧ (State.dropStripeClaims s t task).bootAt = s.bootAt ∧ (State.dropStripeClaims s t task).free = s.free ∧ (State.dropStripeClaims s t task).out = s.out := by
  unfold State.dropStripeClaims
  simp

@[simp] theorem state_retireMember_frame (s : State) (stripe : Nat) (member : Nat) (t : Stripe) :
    (State.retireMember s stripe member t).cells = s.cells ∧ (State.retireMember s stripe member t).host = s.host ∧ (State.retireMember s stripe member t).sched = s.sched ∧ (State.retireMember s stripe member t).flash = s.flash ∧ (State.retireMember s stripe member t).power = s.power ∧ (State.retireMember s stripe member t).mem = s.mem ∧ (State.retireMember s stripe member t).cipher = s.cipher ∧ (State.retireMember s stripe member t).engines = s.engines ∧ (State.retireMember s stripe member t).admin = s.admin ∧ (State.retireMember s stripe member t).staing = s.staing ∧ (State.retireMember s stripe member t).security = s.security ∧ (State.retireMember s stripe member t).migration = s.migration ∧ (State.retireMember s stripe member t).pending = s.pending ∧ (State.retireMember s stripe member t).now = s.now ∧ (State.retireMember s stripe member t).bootAt = s.bootAt ∧ (State.retireMember s stripe member t).free = s.free ∧ (State.retireMember s stripe member t).out = s.out := by
  unfold State.retireMember
  simp

@[simp] theorem state_unqueueRead_frame (s : State) (lun : Nat) (rd : Nat) :
    (State.unqueueRead s lun rd).dict = s.dict ∧ (State.unqueueRead s lun rd).modes = s.modes ∧ (State.unqueueRead s lun rd).sampler = s.sampler ∧ (State.unqueueRead s lun rd).cells = s.cells ∧ (State.unqueueRead s lun rd).host = s.host ∧ (State.unqueueRead s lun rd).sched = s.sched ∧ (State.unqueueRead s lun rd).store = s.store ∧ (State.unqueueRead s lun rd).power = s.power ∧ (State.unqueueRead s lun rd).mem = s.mem ∧ (State.unqueueRead s lun rd).cipher = s.cipher ∧ (State.unqueueRead s lun rd).engines = s.engines ∧ (State.unqueueRead s lun rd).admin = s.admin ∧ (State.unqueueRead s lun rd).staing = s.staing ∧ (State.unqueueRead s lun rd).security = s.security ∧ (State.unqueueRead s lun rd).migration = s.migration ∧ (State.unqueueRead s lun rd).pending = s.pending ∧ (State.unqueueRead s lun rd).now = s.now ∧ (State.unqueueRead s lun rd).bootAt = s.bootAt ∧ (State.unqueueRead s lun rd).free = s.free ∧ (State.unqueueRead s lun rd).out = s.out := by
  unfold State.unqueueRead
  simp

@[simp] theorem state_plainLba_frame (s : State) (nsid : Nat) (tag : Option Nat) (stored : Option Nat) (d : LbaData) :
    (State.plainLba s nsid tag stored d).2.dict = s.dict ∧ (State.plainLba s nsid tag stored d).2.modes = s.modes ∧ (State.plainLba s nsid tag stored d).2.sampler = s.sampler ∧ (State.plainLba s nsid tag stored d).2.cells = s.cells ∧ (State.plainLba s nsid tag stored d).2.host = s.host ∧ (State.plainLba s nsid tag stored d).2.sched = s.sched ∧ (State.plainLba s nsid tag stored d).2.flash = s.flash ∧ (State.plainLba s nsid tag stored d).2.store = s.store ∧ (State.plainLba s nsid tag stored d).2.power = s.power ∧ (State.plainLba s nsid tag stored d).2.mem = s.mem ∧ (State.plainLba s nsid tag stored d).2.cipher = s.cipher ∧ (State.plainLba s nsid tag stored d).2.engines = s.engines ∧ (State.plainLba s nsid tag stored d).2.admin = s.admin ∧ (State.plainLba s nsid tag stored d).2.staing = s.staing ∧ (State.plainLba s nsid tag stored d).2.security = s.security ∧ (State.plainLba s nsid tag stored d).2.migration = s.migration ∧ (State.plainLba s nsid tag stored d).2.pending = s.pending ∧ (State.plainLba s nsid tag stored d).2.now = s.now ∧ (State.plainLba s nsid tag stored d).2.bootAt = s.bootAt ∧ (State.plainLba s nsid tag stored d).2.out = s.out := by
  unfold State.plainLba
  (repeat' split) <;> simp

@[simp] theorem state_plainLbas_frame (s : State) (nsid : Nat) (tag : Option Nat) (y0 : List (Option Nat × LbaData)) :
    (State.plainLbas s nsid tag y0).2.dict = s.dict ∧ (State.plainLbas s nsid tag y0).2.modes = s.modes ∧ (State.plainLbas s nsid tag y0).2.sampler = s.sampler ∧ (State.plainLbas s nsid tag y0).2.cells = s.cells ∧ (State.plainLbas s nsid tag y0).2.host = s.host ∧ (State.plainLbas s nsid tag y0).2.sched = s.sched ∧ (State.plainLbas s nsid tag y0).2.flash = s.flash ∧ (State.plainLbas s nsid tag y0).2.store = s.store ∧ (State.plainLbas s nsid tag y0).2.power = s.power ∧ (State.plainLbas s nsid tag y0).2.mem = s.mem ∧ (State.plainLbas s nsid tag y0).2.cipher = s.cipher ∧ (State.plainLbas s nsid tag y0).2.engines = s.engines ∧ (State.plainLbas s nsid tag y0).2.admin = s.admin ∧ (State.plainLbas s nsid tag y0).2.staing = s.staing ∧ (State.plainLbas s nsid tag y0).2.security = s.security ∧ (State.plainLbas s nsid tag y0).2.migration = s.migration ∧ (State.plainLbas s nsid tag y0).2.pending = s.pending ∧ (State.plainLbas s nsid tag y0).2.now = s.now ∧ (State.plainLbas s nsid tag y0).2.bootAt = s.bootAt ∧ (State.plainLbas s nsid tag y0).2.out = s.out := by
  induction y0 generalizing s nsid tag <;> (unfold State.plainLbas; grind [state_plainLba_frame])

@[simp] theorem state_countWindow_frame (s : State) (a : Attach) :
    (State.countWindow s a).modes = s.modes ∧ (State.countWindow s a).sampler = s.sampler ∧ (State.countWindow s a).cells = s.cells ∧ (State.countWindow s a).host = s.host ∧ (State.countWindow s a).flash = s.flash ∧ (State.countWindow s a).store = s.store ∧ (State.countWindow s a).power = s.power ∧ (State.countWindow s a).mem = s.mem ∧ (State.countWindow s a).cipher = s.cipher ∧ (State.countWindow s a).engines = s.engines ∧ (State.countWindow s a).admin = s.admin ∧ (State.countWindow s a).staing = s.staing ∧ (State.countWindow s a).security = s.security ∧ (State.countWindow s a).migration = s.migration ∧ (State.countWindow s a).pending = s.pending ∧ (State.countWindow s a).now = s.now ∧ (State.countWindow s a).bootAt = s.bootAt ∧ (State.countWindow s a).free = s.free ∧ (State.countWindow s a).out = s.out := by
  unfold State.countWindow
  (repeat' split) <;> simp

@[simp] theorem state_deliverTo_frame (s : State) (r : MediaRead) (bad : BitVec 4) (a : Attach) :
    (State.deliverTo s r bad a).modes = s.modes ∧ (State.deliverTo s r bad a).cells = s.cells ∧ (State.deliverTo s r bad a).power = s.power ∧ (State.deliverTo s r bad a).mem = s.mem ∧ (State.deliverTo s r bad a).engines = s.engines ∧ (State.deliverTo s r bad a).admin = s.admin ∧ (State.deliverTo s r bad a).staing = s.staing ∧ (State.deliverTo s r bad a).security = s.security ∧ (State.deliverTo s r bad a).migration = s.migration ∧ (State.deliverTo s r bad a).pending = s.pending ∧ (State.deliverTo s r bad a).now = s.now ∧ (State.deliverTo s r bad a).bootAt = s.bootAt := by
  unfold State.deliverTo
  (repeat' split) <;> simp

@[simp] theorem state_dropRead_frame (s : State) (rd : Nat) :
    (State.dropRead s rd).dict = s.dict ∧ (State.dropRead s rd).modes = s.modes ∧ (State.dropRead s rd).sampler = s.sampler ∧ (State.dropRead s rd).cells = s.cells ∧ (State.dropRead s rd).host = s.host ∧ (State.dropRead s rd).flash = s.flash ∧ (State.dropRead s rd).power = s.power ∧ (State.dropRead s rd).mem = s.mem ∧ (State.dropRead s rd).cipher = s.cipher ∧ (State.dropRead s rd).engines = s.engines ∧ (State.dropRead s rd).admin = s.admin ∧ (State.dropRead s rd).staing = s.staing ∧ (State.dropRead s rd).security = s.security ∧ (State.dropRead s rd).migration = s.migration ∧ (State.dropRead s rd).pending = s.pending ∧ (State.dropRead s rd).now = s.now ∧ (State.dropRead s rd).bootAt = s.bootAt ∧ (State.dropRead s rd).free = s.free ∧ (State.dropRead s rd).out = s.out := by
  unfold State.dropRead
  simp

@[simp] theorem state_fillFrom_frame (s : State) (k : Nat) (r : MediaRead) (bad : BitVec 4) :
    (State.fillFrom s k r bad).modes = s.modes ∧ (State.fillFrom s k r bad).cells = s.cells ∧ (State.fillFrom s k r bad).host = s.host ∧ (State.fillFrom s k r bad).power = s.power ∧ (State.fillFrom s k r bad).mem = s.mem ∧ (State.fillFrom s k r bad).engines = s.engines ∧ (State.fillFrom s k r bad).admin = s.admin ∧ (State.fillFrom s k r bad).staing = s.staing ∧ (State.fillFrom s k r bad).security = s.security ∧ (State.fillFrom s k r bad).migration = s.migration ∧ (State.fillFrom s k r bad).pending = s.pending ∧ (State.fillFrom s k r bad).now = s.now ∧ (State.fillFrom s k r bad).bootAt = s.bootAt ∧ (State.fillFrom s k r bad).free = s.free ∧ (State.fillFrom s k r bad).out = s.out := by
  unfold State.fillFrom
  (repeat' split) <;> simp

@[simp] theorem state_copyFrom_frame (s : State) (source : Nat) (r : MediaRead) :
    (State.copyFrom s source r).modes = s.modes ∧ (State.copyFrom s source r).cells = s.cells ∧ (State.copyFrom s source r).host = s.host ∧ (State.copyFrom s source r).power = s.power ∧ (State.copyFrom s source r).mem = s.mem ∧ (State.copyFrom s source r).cipher = s.cipher ∧ (State.copyFrom s source r).engines = s.engines ∧ (State.copyFrom s source r).admin = s.admin ∧ (State.copyFrom s source r).staing = s.staing ∧ (State.copyFrom s source r).security = s.security ∧ (State.copyFrom s source r).migration = s.migration ∧ (State.copyFrom s source r).pending = s.pending ∧ (State.copyFrom s source r).now = s.now ∧ (State.copyFrom s source r).bootAt = s.bootAt ∧ (State.copyFrom s source r).free = s.free ∧ (State.copyFrom s source r).out = s.out := by
  unfold State.copyFrom
  (repeat' split) <;> simp

@[simp] theorem state_countLost_frame (s : State) (r : MediaRead) :
    (State.countLost s r).modes = s.modes ∧ (State.countLost s r).cells = s.cells ∧ (State.countLost s r).host = s.host ∧ (State.countLost s r).sched = s.sched ∧ (State.countLost s r).flash = s.flash ∧ (State.countLost s r).store = s.store ∧ (State.countLost s r).power = s.power ∧ (State.countLost s r).mem = s.mem ∧ (State.countLost s r).cipher = s.cipher ∧ (State.countLost s r).engines = s.engines ∧ (State.countLost s r).admin = s.admin ∧ (State.countLost s r).staing = s.staing ∧ (State.countLost s r).security = s.security ∧ (State.countLost s r).migration = s.migration ∧ (State.countLost s r).pending = s.pending ∧ (State.countLost s r).now = s.now ∧ (State.countLost s r).bootAt = s.bootAt ∧ (State.countLost s r).free = s.free ∧ (State.countLost s r).out = s.out := by
  unfold State.countLost
  (repeat' split) <;> simp

@[simp] theorem state_countRebuild_frame (s : State) (r : MediaRead) :
    (State.countRebuild s r).modes = s.modes ∧ (State.countRebuild s r).sampler = s.sampler ∧ (State.countRebuild s r).cells = s.cells ∧ (State.countRebuild s r).host = s.host ∧ (State.countRebuild s r).sched = s.sched ∧ (State.countRebuild s r).flash = s.flash ∧ (State.countRebuild s r).store = s.store ∧ (State.countRebuild s r).power = s.power ∧ (State.countRebuild s r).mem = s.mem ∧ (State.countRebuild s r).cipher = s.cipher ∧ (State.countRebuild s r).engines = s.engines ∧ (State.countRebuild s r).admin = s.admin ∧ (State.countRebuild s r).staing = s.staing ∧ (State.countRebuild s r).security = s.security ∧ (State.countRebuild s r).migration = s.migration ∧ (State.countRebuild s r).pending = s.pending ∧ (State.countRebuild s r).now = s.now ∧ (State.countRebuild s r).bootAt = s.bootAt ∧ (State.countRebuild s r).free = s.free ∧ (State.countRebuild s r).out = s.out := by
  unfold State.countRebuild
  (repeat' split) <;> simp

@[simp] theorem state_countTag_frame (s : State) (r : MediaRead) :
    (State.countTag s r).modes = s.modes ∧ (State.countTag s r).cells = s.cells ∧ (State.countTag s r).host = s.host ∧ (State.countTag s r).sched = s.sched ∧ (State.countTag s r).flash = s.flash ∧ (State.countTag s r).store = s.store ∧ (State.countTag s r).power = s.power ∧ (State.countTag s r).mem = s.mem ∧ (State.countTag s r).cipher = s.cipher ∧ (State.countTag s r).engines = s.engines ∧ (State.countTag s r).admin = s.admin ∧ (State.countTag s r).staing = s.staing ∧ (State.countTag s r).security = s.security ∧ (State.countTag s r).migration = s.migration ∧ (State.countTag s r).pending = s.pending ∧ (State.countTag s r).now = s.now ∧ (State.countTag s r).bootAt = s.bootAt ∧ (State.countTag s r).free = s.free ∧ (State.countTag s r).out = s.out := by
  unfold State.countTag
  simp

@[simp] theorem state_concludeRead_frame (s : State) (rd : Nat) (r : MediaRead) :
    (State.concludeRead s rd r).modes = s.modes ∧ (State.concludeRead s rd r).mem = s.mem ∧ (State.concludeRead s rd r).engines = s.engines ∧ (State.concludeRead s rd r).admin = s.admin ∧ (State.concludeRead s rd r).staing = s.staing ∧ (State.concludeRead s rd r).security = s.security ∧ (State.concludeRead s rd r).pending = s.pending ∧ (State.concludeRead s rd r).now = s.now ∧ (State.concludeRead s rd r).bootAt = s.bootAt := by
  unfold State.concludeRead
  (repeat' split) <;> simp

@[simp] theorem state_afterLadder_frame (s : State) (rd : Nat) (r : MediaRead) :
    (State.afterLadder s rd r).modes = s.modes ∧ (State.afterLadder s rd r).mem = s.mem ∧ (State.afterLadder s rd r).engines = s.engines ∧ (State.afterLadder s rd r).admin = s.admin ∧ (State.afterLadder s rd r).staing = s.staing ∧ (State.afterLadder s rd r).security = s.security ∧ (State.afterLadder s rd r).pending = s.pending ∧ (State.afterLadder s rd r).now = s.now ∧ (State.afterLadder s rd r).bootAt = s.bootAt := by
  unfold State.afterLadder
  (repeat' split) <;> simp

@[simp] theorem state_readAgain_frame (s : State) (rd : Nat) (r : MediaRead) :
    (State.readAgain s rd r).dict = s.dict ∧ (State.readAgain s rd r).modes = s.modes ∧ (State.readAgain s rd r).sampler = s.sampler ∧ (State.readAgain s rd r).cells = s.cells ∧ (State.readAgain s rd r).host = s.host ∧ (State.readAgain s rd r).power = s.power ∧ (State.readAgain s rd r).mem = s.mem ∧ (State.readAgain s rd r).cipher = s.cipher ∧ (State.readAgain s rd r).engines = s.engines ∧ (State.readAgain s rd r).admin = s.admin ∧ (State.readAgain s rd r).staing = s.staing ∧ (State.readAgain s rd r).security = s.security ∧ (State.readAgain s rd r).migration = s.migration ∧ (State.readAgain s rd r).pending = s.pending ∧ (State.readAgain s rd r).now = s.now ∧ (State.readAgain s rd r).bootAt = s.bootAt ∧ (State.readAgain s rd r).free = s.free ∧ (State.readAgain s rd r).out = s.out := by
  unfold State.readAgain
  simp

@[simp] theorem state_exempt_frame (s : State) (rd : Nat) (r : MediaRead) :
    (State.exempt s rd r).modes = s.modes ∧ (State.exempt s rd r).sampler = s.sampler ∧ (State.exempt s rd r).cells = s.cells ∧ (State.exempt s rd r).host = s.host ∧ (State.exempt s rd r).sched = s.sched ∧ (State.exempt s rd r).flash = s.flash ∧ (State.exempt s rd r).power = s.power ∧ (State.exempt s rd r).mem = s.mem ∧ (State.exempt s rd r).cipher = s.cipher ∧ (State.exempt s rd r).engines = s.engines ∧ (State.exempt s rd r).admin = s.admin ∧ (State.exempt s rd r).staing = s.staing ∧ (State.exempt s rd r).security = s.security ∧ (State.exempt s rd r).migration = s.migration ∧ (State.exempt s rd r).pending = s.pending ∧ (State.exempt s rd r).now = s.now ∧ (State.exempt s rd r).bootAt = s.bootAt ∧ (State.exempt s rd r).free = s.free ∧ (State.exempt s rd r).out = s.out := by
  unfold State.exempt
  simp (disch := (intros; (repeat' split) <;> simp))

@[simp] theorem state_sampleSoon_frame (s : State) (r : MediaRead) :
    (State.sampleSoon s r).dict = s.dict ∧ (State.sampleSoon s r).modes = s.modes ∧ (State.sampleSoon s r).sampler = s.sampler ∧ (State.sampleSoon s r).cells = s.cells ∧ (State.sampleSoon s r).host = s.host ∧ (State.sampleSoon s r).sched = s.sched ∧ (State.sampleSoon s r).flash = s.flash ∧ (State.sampleSoon s r).power = s.power ∧ (State.sampleSoon s r).mem = s.mem ∧ (State.sampleSoon s r).cipher = s.cipher ∧ (State.sampleSoon s r).engines = s.engines ∧ (State.sampleSoon s r).admin = s.admin ∧ (State.sampleSoon s r).staing = s.staing ∧ (State.sampleSoon s r).security = s.security ∧ (State.sampleSoon s r).migration = s.migration ∧ (State.sampleSoon s r).pending = s.pending ∧ (State.sampleSoon s r).now = s.now ∧ (State.sampleSoon s r).bootAt = s.bootAt ∧ (State.sampleSoon s r).free = s.free ∧ (State.sampleSoon s r).out = s.out := by
  unfold State.sampleSoon
  simp

@[simp] theorem state_earlyFail_frame (s : State) (r : MediaRead) :
    (State.earlyFail s r).cells = s.cells ∧ (State.earlyFail s r).power = s.power ∧ (State.earlyFail s r).engines = s.engines ∧ (State.earlyFail s r).admin = s.admin ∧ (State.earlyFail s r).staing = s.staing ∧ (State.earlyFail s r).security = s.security ∧ (State.earlyFail s r).migration = s.migration ∧ (State.earlyFail s r).pending = s.pending ∧ (State.earlyFail s r).now = s.now ∧ (State.earlyFail s r).bootAt = s.bootAt ∧ (State.earlyFail s r).free = s.free ∧ (State.earlyFail s r).mem.dram = s.mem.dram := by
  simp only [State.earlyFail]
  (repeat' split) <;> simp

@[simp] theorem state_toDarning_frame (s : State) (rd : Nat) (r : MediaRead) (cw : Nat) :
    (State.toDarning s rd r cw).cells = s.cells ∧ (State.toDarning s rd r cw).power = s.power ∧ (State.toDarning s rd r cw).engines = s.engines ∧ (State.toDarning s rd r cw).admin = s.admin ∧ (State.toDarning s rd r cw).staing = s.staing ∧ (State.toDarning s rd r cw).security = s.security ∧ (State.toDarning s rd r cw).migration = s.migration ∧ (State.toDarning s rd r cw).pending = s.pending ∧ (State.toDarning s rd r cw).now = s.now ∧ (State.toDarning s rd r cw).bootAt = s.bootAt ∧ (State.toDarning s rd r cw).free = s.free ∧ (State.toDarning s rd r cw).mem.dram = s.mem.dram := by
  unfold State.toDarning
  simp

@[simp] theorem state_toStep4_frame (s : State) (rd : Nat) (r : MediaRead) (cw : Nat) :
    (State.toStep4 s rd r cw).cells = s.cells ∧ (State.toStep4 s rd r cw).power = s.power ∧ (State.toStep4 s rd r cw).engines = s.engines ∧ (State.toStep4 s rd r cw).admin = s.admin ∧ (State.toStep4 s rd r cw).staing = s.staing ∧ (State.toStep4 s rd r cw).security = s.security ∧ (State.toStep4 s rd r cw).migration = s.migration ∧ (State.toStep4 s rd r cw).pending = s.pending ∧ (State.toStep4 s rd r cw).now = s.now ∧ (State.toStep4 s rd r cw).bootAt = s.bootAt ∧ (State.toStep4 s rd r cw).free = s.free ∧ (State.toStep4 s rd r cw).mem.dram = s.mem.dram := by
  unfold State.toStep4
  (repeat' split) <;> simp

@[simp] theorem state_climb_frame (s : State) (rd : Nat) (r : MediaRead) (cw : Nat) (step : LadderStep) :
    (State.climb s rd r cw step).dict = s.dict ∧ (State.climb s rd r cw step).modes = s.modes ∧ (State.climb s rd r cw step).sampler = s.sampler ∧ (State.climb s rd r cw step).cells = s.cells ∧ (State.climb s rd r cw step).host = s.host ∧ (State.climb s rd r cw step).power = s.power ∧ (State.climb s rd r cw step).mem = s.mem ∧ (State.climb s rd r cw step).cipher = s.cipher ∧ (State.climb s rd r cw step).engines = s.engines ∧ (State.climb s rd r cw step).admin = s.admin ∧ (State.climb s rd r cw step).staing = s.staing ∧ (State.climb s rd r cw step).security = s.security ∧ (State.climb s rd r cw step).migration = s.migration ∧ (State.climb s rd r cw step).pending = s.pending ∧ (State.climb s rd r cw step).now = s.now ∧ (State.climb s rd r cw step).bootAt = s.bootAt ∧ (State.climb s rd r cw step).free = s.free ∧ (State.climb s rd r cw step).out = s.out := by
  unfold State.climb
  simp

@[simp] theorem state_abandonAround_frame (s : State) (r : MediaRead) :
    (State.abandonAround s r).dict = s.dict ∧ (State.abandonAround s r).modes = s.modes ∧ (State.abandonAround s r).sampler = s.sampler ∧ (State.abandonAround s r).cells = s.cells ∧ (State.abandonAround s r).host = s.host ∧ (State.abandonAround s r).sched = s.sched ∧ (State.abandonAround s r).flash = s.flash ∧ (State.abandonAround s r).power = s.power ∧ (State.abandonAround s r).mem = s.mem ∧ (State.abandonAround s r).cipher = s.cipher ∧ (State.abandonAround s r).engines = s.engines ∧ (State.abandonAround s r).admin = s.admin ∧ (State.abandonAround s r).staing = s.staing ∧ (State.abandonAround s r).security = s.security ∧ (State.abandonAround s r).migration = s.migration ∧ (State.abandonAround s r).pending = s.pending ∧ (State.abandonAround s r).now = s.now ∧ (State.abandonAround s r).bootAt = s.bootAt ∧ (State.abandonAround s r).free = s.free ∧ (State.abandonAround s r).out = s.out := by
  unfold State.abandonAround
  (repeat' split) <;> simp

@[simp] theorem state_codewordFails_frame (s : State) (rd : Nat) (r : MediaRead) (cw : Nat) :
    (State.codewordFails s rd r cw).cells = s.cells ∧ (State.codewordFails s rd r cw).power = s.power ∧ (State.codewordFails s rd r cw).engines = s.engines ∧ (State.codewordFails s rd r cw).admin = s.admin ∧ (State.codewordFails s rd r cw).staing = s.staing ∧ (State.codewordFails s rd r cw).security = s.security ∧ (State.codewordFails s rd r cw).migration = s.migration ∧ (State.codewordFails s rd r cw).pending = s.pending ∧ (State.codewordFails s rd r cw).now = s.now ∧ (State.codewordFails s rd r cw).bootAt = s.bootAt ∧ (State.codewordFails s rd r cw).free = s.free ∧ (State.codewordFails s rd r cw).mem.dram = s.mem.dram := by
  unfold State.codewordFails
  (repeat' split) <;> simp

@[simp] theorem state_codewordDecodes_frame (s : State) (rd : Nat) (r : MediaRead) (cw : Nat) :
    (State.codewordDecodes s rd r cw).modes = s.modes ∧ (State.codewordDecodes s rd r cw).sampler = s.sampler ∧ (State.codewordDecodes s rd r cw).cells = s.cells ∧ (State.codewordDecodes s rd r cw).host = s.host ∧ (State.codewordDecodes s rd r cw).sched = s.sched ∧ (State.codewordDecodes s rd r cw).flash = s.flash ∧ (State.codewordDecodes s rd r cw).power = s.power ∧ (State.codewordDecodes s rd r cw).mem = s.mem ∧ (State.codewordDecodes s rd r cw).cipher = s.cipher ∧ (State.codewordDecodes s rd r cw).engines = s.engines ∧ (State.codewordDecodes s rd r cw).admin = s.admin ∧ (State.codewordDecodes s rd r cw).staing = s.staing ∧ (State.codewordDecodes s rd r cw).security = s.security ∧ (State.codewordDecodes s rd r cw).migration = s.migration ∧ (State.codewordDecodes s rd r cw).pending = s.pending ∧ (State.codewordDecodes s rd r cw).now = s.now ∧ (State.codewordDecodes s rd r cw).bootAt = s.bootAt ∧ (State.codewordDecodes s rd r cw).free = s.free ∧ (State.codewordDecodes s rd r cw).out = s.out := by
  unfold State.codewordDecodes
  (repeat' split) <;> simp

@[simp] theorem state_transferred_frame (s : State) (rd : Nat) (r : MediaRead) :
    (State.transferred s rd r).dict = s.dict ∧ (State.transferred s rd r).modes = s.modes ∧ (State.transferred s rd r).sampler = s.sampler ∧ (State.transferred s rd r).cells = s.cells ∧ (State.transferred s rd r).host = s.host ∧ (State.transferred s rd r).sched = s.sched ∧ (State.transferred s rd r).store = s.store ∧ (State.transferred s rd r).power = s.power ∧ (State.transferred s rd r).mem = s.mem ∧ (State.transferred s rd r).cipher = s.cipher ∧ (State.transferred s rd r).engines = s.engines ∧ (State.transferred s rd r).admin = s.admin ∧ (State.transferred s rd r).staing = s.staing ∧ (State.transferred s rd r).security = s.security ∧ (State.transferred s rd r).migration = s.migration ∧ (State.transferred s rd r).pending = s.pending ∧ (State.transferred s rd r).now = s.now ∧ (State.transferred s rd r).bootAt = s.bootAt ∧ (State.transferred s rd r).free = s.free ∧ (State.transferred s rd r).out = s.out := by
  simp only [State.transferred]
  (repeat' split) <;> simp

@[simp] theorem state_raiseGroup_frame (s : State) (g : Nat) :
    (State.raiseGroup s g).modes = s.modes ∧ (State.raiseGroup s g).cells = s.cells ∧ (State.raiseGroup s g).host = s.host ∧ (State.raiseGroup s g).sched = s.sched ∧ (State.raiseGroup s g).flash = s.flash ∧ (State.raiseGroup s g).store = s.store ∧ (State.raiseGroup s g).power = s.power ∧ (State.raiseGroup s g).mem = s.mem ∧ (State.raiseGroup s g).cipher = s.cipher ∧ (State.raiseGroup s g).engines = s.engines ∧ (State.raiseGroup s g).admin = s.admin ∧ (State.raiseGroup s g).staing = s.staing ∧ (State.raiseGroup s g).security = s.security ∧ (State.raiseGroup s g).migration = s.migration ∧ (State.raiseGroup s g).pending = s.pending ∧ (State.raiseGroup s g).now = s.now ∧ (State.raiseGroup s g).bootAt = s.bootAt ∧ (State.raiseGroup s g).free = s.free ∧ (State.raiseGroup s g).out = s.out := by
  unfold State.raiseGroup
  simp

@[simp] theorem state_raiseStrengths_frame (s : State) :
    (State.raiseStrengths s).modes = s.modes ∧ (State.raiseStrengths s).cells = s.cells ∧ (State.raiseStrengths s).host = s.host ∧ (State.raiseStrengths s).sched = s.sched ∧ (State.raiseStrengths s).flash = s.flash ∧ (State.raiseStrengths s).store = s.store ∧ (State.raiseStrengths s).power = s.power ∧ (State.raiseStrengths s).mem = s.mem ∧ (State.raiseStrengths s).cipher = s.cipher ∧ (State.raiseStrengths s).engines = s.engines ∧ (State.raiseStrengths s).admin = s.admin ∧ (State.raiseStrengths s).staing = s.staing ∧ (State.raiseStrengths s).security = s.security ∧ (State.raiseStrengths s).migration = s.migration ∧ (State.raiseStrengths s).pending = s.pending ∧ (State.raiseStrengths s).now = s.now ∧ (State.raiseStrengths s).bootAt = s.bootAt ∧ (State.raiseStrengths s).free = s.free ∧ (State.raiseStrengths s).out = s.out := by
  unfold State.raiseStrengths
  simp

@[simp] theorem state_endForced_frame (s : State) :
    (State.endForced s).cells = s.cells ∧ (State.endForced s).host = s.host ∧ (State.endForced s).sched = s.sched ∧ (State.endForced s).flash = s.flash ∧ (State.endForced s).store = s.store ∧ (State.endForced s).power = s.power ∧ (State.endForced s).cipher = s.cipher ∧ (State.endForced s).engines = s.engines ∧ (State.endForced s).admin = s.admin ∧ (State.endForced s).staing = s.staing ∧ (State.endForced s).security = s.security ∧ (State.endForced s).migration = s.migration ∧ (State.endForced s).pending = s.pending ∧ (State.endForced s).now = s.now ∧ (State.endForced s).bootAt = s.bootAt ∧ (State.endForced s).free = s.free ∧ (State.endForced s).out = s.out ∧ (State.endForced s).mem.dram = s.mem.dram := by
  unfold State.endForced
  simp

@[simp] theorem state_startForced_frame (s : State) :
    (State.startForced s).cells = s.cells ∧ (State.startForced s).host = s.host ∧ (State.startForced s).sched = s.sched ∧ (State.startForced s).flash = s.flash ∧ (State.startForced s).store = s.store ∧ (State.startForced s).power = s.power ∧ (State.startForced s).cipher = s.cipher ∧ (State.startForced s).engines = s.engines ∧ (State.startForced s).admin = s.admin ∧ (State.startForced s).staing = s.staing ∧ (State.startForced s).security = s.security ∧ (State.startForced s).migration = s.migration ∧ (State.startForced s).pending = s.pending ∧ (State.startForced s).now = s.now ∧ (State.startForced s).bootAt = s.bootAt ∧ (State.startForced s).free = s.free ∧ (State.startForced s).out = s.out ∧ (State.startForced s).mem.dram = s.mem.dram := by
  unfold State.startForced
  (repeat' split) <;> simp

@[simp] theorem state_writeFullPass_frame (s : State) (on : Bool) :
    (State.writeFullPass s on).cells = s.cells ∧ (State.writeFullPass s on).host = s.host ∧ (State.writeFullPass s on).sched = s.sched ∧ (State.writeFullPass s on).flash = s.flash ∧ (State.writeFullPass s on).store = s.store ∧ (State.writeFullPass s on).power = s.power ∧ (State.writeFullPass s on).cipher = s.cipher ∧ (State.writeFullPass s on).engines = s.engines ∧ (State.writeFullPass s on).admin = s.admin ∧ (State.writeFullPass s on).staing = s.staing ∧ (State.writeFullPass s on).security = s.security ∧ (State.writeFullPass s on).migration = s.migration ∧ (State.writeFullPass s on).pending = s.pending ∧ (State.writeFullPass s on).now = s.now ∧ (State.writeFullPass s on).bootAt = s.bootAt ∧ (State.writeFullPass s on).free = s.free ∧ (State.writeFullPass s on).out = s.out ∧ (State.writeFullPass s on).mem.dram = s.mem.dram := by
  unfold State.writeFullPass
  (repeat' split) <;> simp

@[simp] theorem state_passStep_frame (s : State) (key : Nat) :
    (State.passStep s key).cells = s.cells ∧ (State.passStep s key).host = s.host ∧ (State.passStep s key).sched = s.sched ∧ (State.passStep s key).flash = s.flash ∧ (State.passStep s key).store = s.store ∧ (State.passStep s key).power = s.power ∧ (State.passStep s key).cipher = s.cipher ∧ (State.passStep s key).engines = s.engines ∧ (State.passStep s key).admin = s.admin ∧ (State.passStep s key).staing = s.staing ∧ (State.passStep s key).security = s.security ∧ (State.passStep s key).migration = s.migration ∧ (State.passStep s key).pending = s.pending ∧ (State.passStep s key).now = s.now ∧ (State.passStep s key).bootAt = s.bootAt ∧ (State.passStep s key).free = s.free ∧ (State.passStep s key).out = s.out ∧ (State.passStep s key).mem.dram = s.mem.dram := by
  simp only [State.passStep]
  (repeat' split) <;> simp

@[simp] theorem state_beginRinse_frame (s : State) :
    (State.beginRinse s).modes = s.modes ∧ (State.beginRinse s).sampler = s.sampler ∧ (State.beginRinse s).cells = s.cells ∧ (State.beginRinse s).host = s.host ∧ (State.beginRinse s).flash = s.flash ∧ (State.beginRinse s).store = s.store ∧ (State.beginRinse s).power = s.power ∧ (State.beginRinse s).cipher = s.cipher ∧ (State.beginRinse s).engines = s.engines ∧ (State.beginRinse s).admin = s.admin ∧ (State.beginRinse s).staing = s.staing ∧ (State.beginRinse s).security = s.security ∧ (State.beginRinse s).migration = s.migration ∧ (State.beginRinse s).pending = s.pending ∧ (State.beginRinse s).now = s.now ∧ (State.beginRinse s).bootAt = s.bootAt ∧ (State.beginRinse s).free = s.free ∧ (State.beginRinse s).out = s.out ∧ (State.beginRinse s).mem.dram = s.mem.dram := by
  unfold State.beginRinse
  (repeat' split) <;> simp

@[simp] theorem state_startSample_frame (s : State) (task : Task) (lun : Nat) (block : Nat) :
    (State.startSample s task lun block).dict = s.dict ∧ (State.startSample s task lun block).modes = s.modes ∧ (State.startSample s task lun block).sampler = s.sampler ∧ (State.startSample s task lun block).cells = s.cells ∧ (State.startSample s task lun block).host = s.host ∧ (State.startSample s task lun block).flash = s.flash ∧ (State.startSample s task lun block).store = s.store ∧ (State.startSample s task lun block).power = s.power ∧ (State.startSample s task lun block).cipher = s.cipher ∧ (State.startSample s task lun block).engines = s.engines ∧ (State.startSample s task lun block).admin = s.admin ∧ (State.startSample s task lun block).staing = s.staing ∧ (State.startSample s task lun block).security = s.security ∧ (State.startSample s task lun block).migration = s.migration ∧ (State.startSample s task lun block).pending = s.pending ∧ (State.startSample s task lun block).now = s.now ∧ (State.startSample s task lun block).bootAt = s.bootAt ∧ (State.startSample s task lun block).free = s.free ∧ (State.startSample s task lun block).out = s.out ∧ (State.startSample s task lun block).mem.dram = s.mem.dram := by
  unfold State.startSample
  simp

@[simp] theorem state_startSamples_frame (s : State) :
    (State.startSamples s).dict = s.dict ∧ (State.startSamples s).modes = s.modes ∧ (State.startSamples s).sampler = s.sampler ∧ (State.startSamples s).cells = s.cells ∧ (State.startSamples s).host = s.host ∧ (State.startSamples s).flash = s.flash ∧ (State.startSamples s).store = s.store ∧ (State.startSamples s).power = s.power ∧ (State.startSamples s).cipher = s.cipher ∧ (State.startSamples s).engines = s.engines ∧ (State.startSamples s).admin = s.admin ∧ (State.startSamples s).staing = s.staing ∧ (State.startSamples s).security = s.security ∧ (State.startSamples s).migration = s.migration ∧ (State.startSamples s).pending = s.pending ∧ (State.startSamples s).now = s.now ∧ (State.startSamples s).bootAt = s.bootAt ∧ (State.startSamples s).free = s.free ∧ (State.startSamples s).out = s.out ∧ (State.startSamples s).mem.dram = s.mem.dram := by
  unfold State.startSamples
  simp

@[simp] theorem state_rewriteSystem_frame (s : State) (lun : Nat) (block : Nat) :
    (State.rewriteSystem s lun block).dict = s.dict ∧ (State.rewriteSystem s lun block).modes = s.modes ∧ (State.rewriteSystem s lun block).sampler = s.sampler ∧ (State.rewriteSystem s lun block).cells = s.cells ∧ (State.rewriteSystem s lun block).host = s.host ∧ (State.rewriteSystem s lun block).sched = s.sched ∧ (State.rewriteSystem s lun block).power = s.power ∧ (State.rewriteSystem s lun block).mem = s.mem ∧ (State.rewriteSystem s lun block).cipher = s.cipher ∧ (State.rewriteSystem s lun block).engines = s.engines ∧ (State.rewriteSystem s lun block).admin = s.admin ∧ (State.rewriteSystem s lun block).staing = s.staing ∧ (State.rewriteSystem s lun block).security = s.security ∧ (State.rewriteSystem s lun block).migration = s.migration ∧ (State.rewriteSystem s lun block).pending = s.pending ∧ (State.rewriteSystem s lun block).now = s.now ∧ (State.rewriteSystem s lun block).bootAt = s.bootAt ∧ (State.rewriteSystem s lun block).free = s.free ∧ (State.rewriteSystem s lun block).out = s.out := by
  unfold State.rewriteSystem
  simp

@[simp] theorem state_noteFails_frame (s : State) (lun : Nat) (l : List Nat) :
    (State.noteFails s lun l).dict = s.dict ∧ (State.noteFails s lun l).modes = s.modes ∧ (State.noteFails s lun l).sampler = s.sampler ∧ (State.noteFails s lun l).cells = s.cells ∧ (State.noteFails s lun l).host = s.host ∧ (State.noteFails s lun l).sched = s.sched ∧ (State.noteFails s lun l).flash = s.flash ∧ (State.noteFails s lun l).store = s.store ∧ (State.noteFails s lun l).power = s.power ∧ (State.noteFails s lun l).cipher = s.cipher ∧ (State.noteFails s lun l).engines = s.engines ∧ (State.noteFails s lun l).admin = s.admin ∧ (State.noteFails s lun l).staing = s.staing ∧ (State.noteFails s lun l).security = s.security ∧ (State.noteFails s lun l).migration = s.migration ∧ (State.noteFails s lun l).pending = s.pending ∧ (State.noteFails s lun l).now = s.now ∧ (State.noteFails s lun l).bootAt = s.bootAt ∧ (State.noteFails s lun l).free = s.free ∧ (State.noteFails s lun l).out = s.out ∧ (State.noteFails s lun l).mem.dram = s.mem.dram := by
  unfold State.noteFails
  simp

@[simp] theorem state_refreshBlock_frame (s : State) (lun : Nat) (block : Nat) :
    (State.refreshBlock s lun block).cells = s.cells ∧ (State.refreshBlock s lun block).power = s.power ∧ (State.refreshBlock s lun block).engines = s.engines ∧ (State.refreshBlock s lun block).admin = s.admin ∧ (State.refreshBlock s lun block).staing = s.staing ∧ (State.refreshBlock s lun block).security = s.security ∧ (State.refreshBlock s lun block).migration = s.migration ∧ (State.refreshBlock s lun block).pending = s.pending ∧ (State.refreshBlock s lun block).now = s.now ∧ (State.refreshBlock s lun block).bootAt = s.bootAt ∧ (State.refreshBlock s lun block).free = s.free ∧ (State.refreshBlock s lun block).mem.dram = s.mem.dram := by
  simp only [State.refreshBlock]
  (repeat' split) <;> simp

@[simp] theorem state_judge_frame (s : State) (lun : Nat) (block : Nat) (high : Nat) (left : Bool) :
    (State.judge s lun block high left).cells = s.cells ∧ (State.judge s lun block high left).power = s.power ∧ (State.judge s lun block high left).engines = s.engines ∧ (State.judge s lun block high left).admin = s.admin ∧ (State.judge s lun block high left).staing = s.staing ∧ (State.judge s lun block high left).security = s.security ∧ (State.judge s lun block high left).migration = s.migration ∧ (State.judge s lun block high left).pending = s.pending ∧ (State.judge s lun block high left).now = s.now ∧ (State.judge s lun block high left).bootAt = s.bootAt ∧ (State.judge s lun block high left).free = s.free ∧ (State.judge s lun block high left).mem.dram = s.mem.dram := by
  simp only [State.judge]
  (repeat' split) <;> simp

@[simp] theorem state_endSample_frame (s : State) (lun : Nat) (block : Nat) (failBits : List Nat) (leftStep1 : Bool) :
    (State.endSample s lun block failBits leftStep1).cells = s.cells ∧ (State.endSample s lun block failBits leftStep1).power = s.power ∧ (State.endSample s lun block failBits leftStep1).engines = s.engines ∧ (State.endSample s lun block failBits leftStep1).admin = s.admin ∧ (State.endSample s lun block failBits leftStep1).staing = s.staing ∧ (State.endSample s lun block failBits leftStep1).security = s.security ∧ (State.endSample s lun block failBits leftStep1).migration = s.migration ∧ (State.endSample s lun block failBits leftStep1).pending = s.pending ∧ (State.endSample s lun block failBits leftStep1).now = s.now ∧ (State.endSample s lun block failBits leftStep1).bootAt = s.bootAt ∧ (State.endSample s lun block failBits leftStep1).free = s.free ∧ (State.endSample s lun block failBits leftStep1).mem.dram = s.mem.dram := by
  unfold State.endSample
  simp

@[simp] theorem state_setLock_frame (s : State) (k : Nat) (l : Option LockId) :
    (State.setLock s k l).dict = s.dict ∧ (State.setLock s k l).modes = s.modes ∧ (State.setLock s k l).sampler = s.sampler ∧ (State.setLock s k l).cells = s.cells ∧ (State.setLock s k l).host = s.host ∧ (State.setLock s k l).sched = s.sched ∧ (State.setLock s k l).flash = s.flash ∧ (State.setLock s k l).store = s.store ∧ (State.setLock s k l).power = s.power ∧ (State.setLock s k l).mem = s.mem ∧ (State.setLock s k l).engines = s.engines ∧ (State.setLock s k l).admin = s.admin ∧ (State.setLock s k l).staing = s.staing ∧ (State.setLock s k l).security = s.security ∧ (State.setLock s k l).migration = s.migration ∧ (State.setLock s k l).pending = s.pending ∧ (State.setLock s k l).now = s.now ∧ (State.setLock s k l).bootAt = s.bootAt ∧ (State.setLock s k l).free = s.free ∧ (State.setLock s k l).out = s.out := by
  unfold State.setLock
  (repeat' split) <;> simp

@[simp] theorem state_waitCore_frame (s : State) (q : Nat) (id : LockId) :
    (State.waitCore s q id).modes = s.modes ∧ (State.waitCore s q id).sampler = s.sampler ∧ (State.waitCore s q id).cells = s.cells ∧ (State.waitCore s q id).host = s.host ∧ (State.waitCore s q id).sched = s.sched ∧ (State.waitCore s q id).flash = s.flash ∧ (State.waitCore s q id).store = s.store ∧ (State.waitCore s q id).power = s.power ∧ (State.waitCore s q id).mem = s.mem ∧ (State.waitCore s q id).engines = s.engines ∧ (State.waitCore s q id).admin = s.admin ∧ (State.waitCore s q id).staing = s.staing ∧ (State.waitCore s q id).security = s.security ∧ (State.waitCore s q id).migration = s.migration ∧ (State.waitCore s q id).pending = s.pending ∧ (State.waitCore s q id).now = s.now ∧ (State.waitCore s q id).bootAt = s.bootAt ∧ (State.waitCore s q id).free = s.free ∧ (State.waitCore s q id).out = s.out := by
  unfold State.waitCore
  simp

@[simp] theorem state_freeCore_frame (s : State) (k : Nat) :
    (State.freeCore s k).dict = s.dict ∧ (State.freeCore s k).modes = s.modes ∧ (State.freeCore s k).sampler = s.sampler ∧ (State.freeCore s k).cells = s.cells ∧ (State.freeCore s k).host = s.host ∧ (State.freeCore s k).sched = s.sched ∧ (State.freeCore s k).flash = s.flash ∧ (State.freeCore s k).store = s.store ∧ (State.freeCore s k).power = s.power ∧ (State.freeCore s k).mem = s.mem ∧ (State.freeCore s k).engines = s.engines ∧ (State.freeCore s k).admin = s.admin ∧ (State.freeCore s k).staing = s.staing ∧ (State.freeCore s k).security = s.security ∧ (State.freeCore s k).migration = s.migration ∧ (State.freeCore s k).pending = s.pending ∧ (State.freeCore s k).now = s.now ∧ (State.freeCore s k).bootAt = s.bootAt ∧ (State.freeCore s k).free = s.free ∧ (State.freeCore s k).out = s.out := by
  simp only [State.freeCore]
  (repeat' split) <;> simp

@[simp] theorem state_judgePair_frame (s : State) (core : Nat) (p : ComparePair) :
    (State.judgePair s core p).modes = s.modes ∧ (State.judgePair s core p).cells = s.cells ∧ (State.judgePair s core p).host = s.host ∧ (State.judgePair s core p).sched = s.sched ∧ (State.judgePair s core p).flash = s.flash ∧ (State.judgePair s core p).store = s.store ∧ (State.judgePair s core p).power = s.power ∧ (State.judgePair s core p).mem = s.mem ∧ (State.judgePair s core p).cipher = s.cipher ∧ (State.judgePair s core p).engines = s.engines ∧ (State.judgePair s core p).admin = s.admin ∧ (State.judgePair s core p).staing = s.staing ∧ (State.judgePair s core p).security = s.security ∧ (State.judgePair s core p).migration = s.migration ∧ (State.judgePair s core p).pending = s.pending ∧ (State.judgePair s core p).now = s.now ∧ (State.judgePair s core p).bootAt = s.bootAt ∧ (State.judgePair s core p).free = s.free ∧ (State.judgePair s core p).out = s.out := by
  unfold State.judgePair
  simp

@[simp] theorem state_cutThrough_frame (s : State) (r : MediaRead) :
    (State.cutThrough s r).dict = s.dict ∧ (State.cutThrough s r).modes = s.modes ∧ (State.cutThrough s r).sampler = s.sampler ∧ (State.cutThrough s r).cells = s.cells ∧ (State.cutThrough s r).host = s.host ∧ (State.cutThrough s r).sched = s.sched ∧ (State.cutThrough s r).flash = s.flash ∧ (State.cutThrough s r).store = s.store ∧ (State.cutThrough s r).power = s.power ∧ (State.cutThrough s r).mem = s.mem ∧ (State.cutThrough s r).cipher = s.cipher ∧ (State.cutThrough s r).engines = s.engines ∧ (State.cutThrough s r).admin = s.admin ∧ (State.cutThrough s r).staing = s.staing ∧ (State.cutThrough s r).security = s.security ∧ (State.cutThrough s r).migration = s.migration ∧ (State.cutThrough s r).pending = s.pending ∧ (State.cutThrough s r).now = s.now ∧ (State.cutThrough s r).bootAt = s.bootAt ∧ (State.cutThrough s r).free = s.free := by
  unfold State.cutThrough
  and_intros
  all_goals (repeat' first | rfl | assumption | (intros; trivial) | (dsimp only; done) | (intro _) | split | (first | refine (foldl_dict _ _ _ ?_).trans ?_ | refine (foldl_modes _ _ _ ?_).trans ?_ | refine (foldl_sampler _ _ _ ?_).trans ?_ | refine (foldl_cells _ _ _ ?_).trans ?_ | refine (foldl_host _ _ _ ?_).trans ?_ | refine (foldl_sched _ _ _ ?_).trans ?_ | refine (foldl_flash _ _ _ ?_).trans ?_ | refine (foldl_store _ _ _ ?_).trans ?_ | refine (foldl_power _ _ _ ?_).trans ?_ | refine (foldl_mem _ _ _ ?_).trans ?_ | refine (foldl_cipher _ _ _ ?_).trans ?_ | refine (foldl_engines _ _ _ ?_).trans ?_ | refine (foldl_admin _ _ _ ?_).trans ?_ | refine (foldl_staing _ _ _ ?_).trans ?_ | refine (foldl_security _ _ _ ?_).trans ?_ | refine (foldl_migration _ _ _ ?_).trans ?_ | refine (foldl_pending _ _ _ ?_).trans ?_ | refine (foldl_now _ _ _ ?_).trans ?_ | refine (foldl_bootAt _ _ _ ?_).trans ?_ | refine (foldl_free _ _ _ ?_).trans ?_ | refine (foldl_out _ _ _ ?_).trans ?_ | refine (foldl_mem_dram _ _ _ ?_).trans ?_ | refine (foldl_engines_windows _ _ _ ?_).trans ?_) | (simp; done) | simp)

@[simp] theorem state_secondSource_frame (s : State) (rd : Nat) (r : MediaRead) :
    (State.secondSource s rd r).dict = s.dict ∧ (State.secondSource s rd r).modes = s.modes ∧ (State.secondSource s rd r).sampler = s.sampler ∧ (State.secondSource s rd r).cells = s.cells ∧ (State.secondSource s rd r).host = s.host ∧ (State.secondSource s rd r).power = s.power ∧ (State.secondSource s rd r).mem = s.mem ∧ (State.secondSource s rd r).cipher = s.cipher ∧ (State.secondSource s rd r).engines = s.engines ∧ (State.secondSource s rd r).admin = s.admin ∧ (State.secondSource s rd r).staing = s.staing ∧ (State.secondSource s rd r).security = s.security ∧ (State.secondSource s rd r).migration = s.migration ∧ (State.secondSource s rd r).pending = s.pending ∧ (State.secondSource s rd r).now = s.now ∧ (State.secondSource s rd r).bootAt = s.bootAt ∧ (State.secondSource s rd r).free = s.free ∧ (State.secondSource s rd r).out = s.out := by
  unfold State.secondSource
  simp

@[simp] theorem state_tagLost_frame (s : State) (rd : Nat) (r : MediaRead) :
    (State.tagLost s rd r).modes = s.modes ∧ (State.tagLost s rd r).mem = s.mem ∧ (State.tagLost s rd r).engines = s.engines ∧ (State.tagLost s rd r).admin = s.admin ∧ (State.tagLost s rd r).staing = s.staing ∧ (State.tagLost s rd r).security = s.security ∧ (State.tagLost s rd r).pending = s.pending ∧ (State.tagLost s rd r).now = s.now ∧ (State.tagLost s rd r).bootAt = s.bootAt := by
  unfold State.tagLost
  simp

@[simp] theorem state_unitDeciphered_frame (s : State) (rd : Nat) (r : MediaRead) (core : Nat) (tag : ComparePair) :
    (State.unitDeciphered s rd r core tag).modes = s.modes ∧ (State.unitDeciphered s rd r core tag).mem = s.mem ∧ (State.unitDeciphered s rd r core tag).engines = s.engines ∧ (State.unitDeciphered s rd r core tag).admin = s.admin ∧ (State.unitDeciphered s rd r core tag).staing = s.staing ∧ (State.unitDeciphered s rd r core tag).security = s.security ∧ (State.unitDeciphered s rd r core tag).pending = s.pending ∧ (State.unitDeciphered s rd r core tag).now = s.now ∧ (State.unitDeciphered s rd r core tag).bootAt = s.bootAt := by
  unfold State.unitDeciphered
  simp

@[simp] theorem state_blankNs_frame (s : State) (nsid : Nat) :
    (State.blankNs s nsid).modes = s.modes ∧ (State.blankNs s nsid).sampler = s.sampler ∧ (State.blankNs s nsid).cells = s.cells ∧ (State.blankNs s nsid).host = s.host ∧ (State.blankNs s nsid).sched = s.sched ∧ (State.blankNs s nsid).power = s.power ∧ (State.blankNs s nsid).mem = s.mem ∧ (State.blankNs s nsid).cipher = s.cipher ∧ (State.blankNs s nsid).engines = s.engines ∧ (State.blankNs s nsid).admin = s.admin ∧ (State.blankNs s nsid).staing = s.staing ∧ (State.blankNs s nsid).security = s.security ∧ (State.blankNs s nsid).pending = s.pending ∧ (State.blankNs s nsid).now = s.now ∧ (State.blankNs s nsid).bootAt = s.bootAt ∧ (State.blankNs s nsid).free = s.free ∧ (State.blankNs s nsid).out = s.out := by
  simp only [State.blankNs]
  (repeat' split) <;> simp

@[simp] theorem state_nsChanged_frame (s : State) (nsid : Nat) (fns : List Nat) :
    (State.nsChanged s nsid fns).dict = s.dict ∧ (State.nsChanged s nsid fns).modes = s.modes ∧ (State.nsChanged s nsid fns).sampler = s.sampler ∧ (State.nsChanged s nsid fns).cells = s.cells ∧ (State.nsChanged s nsid fns).sched = s.sched ∧ (State.nsChanged s nsid fns).flash = s.flash ∧ (State.nsChanged s nsid fns).store = s.store ∧ (State.nsChanged s nsid fns).power = s.power ∧ (State.nsChanged s nsid fns).mem = s.mem ∧ (State.nsChanged s nsid fns).cipher = s.cipher ∧ (State.nsChanged s nsid fns).engines = s.engines ∧ (State.nsChanged s nsid fns).staing = s.staing ∧ (State.nsChanged s nsid fns).security = s.security ∧ (State.nsChanged s nsid fns).migration = s.migration ∧ (State.nsChanged s nsid fns).pending = s.pending ∧ (State.nsChanged s nsid fns).now = s.now ∧ (State.nsChanged s nsid fns).bootAt = s.bootAt ∧ (State.nsChanged s nsid fns).free = s.free ∧ (State.nsChanged s nsid fns).out = s.out := by
  unfold State.nsChanged
  simp

@[simp] theorem state_destroyKey_frame (s : State) (slot : Nat) :
    (State.destroyKey s slot).modes = s.modes ∧ (State.destroyKey s slot).sampler = s.sampler ∧ (State.destroyKey s slot).host = s.host ∧ (State.destroyKey s slot).sched = s.sched ∧ (State.destroyKey s slot).flash = s.flash ∧ (State.destroyKey s slot).store = s.store ∧ (State.destroyKey s slot).power = s.power ∧ (State.destroyKey s slot).mem = s.mem ∧ (State.destroyKey s slot).engines = s.engines ∧ (State.destroyKey s slot).admin = s.admin ∧ (State.destroyKey s slot).staing = s.staing ∧ (State.destroyKey s slot).security = s.security ∧ (State.destroyKey s slot).migration = s.migration ∧ (State.destroyKey s slot).pending = s.pending ∧ (State.destroyKey s slot).now = s.now ∧ (State.destroyKey s slot).bootAt = s.bootAt ∧ (State.destroyKey s slot).free = s.free ∧ (State.destroyKey s slot).out = s.out := by
  unfold State.destroyKey
  simp

@[simp] theorem state_putKey_frame (s : State) (slot : Nat) (kind : Nat) (origin : Nat) (keyId : Nat) :
    (State.putKey s slot kind origin keyId).dict = s.dict ∧ (State.putKey s slot kind origin keyId).modes = s.modes ∧ (State.putKey s slot kind origin keyId).sampler = s.sampler ∧ (State.putKey s slot kind origin keyId).cells = s.cells ∧ (State.putKey s slot kind origin keyId).host = s.host ∧ (State.putKey s slot kind origin keyId).sched = s.sched ∧ (State.putKey s slot kind origin keyId).flash = s.flash ∧ (State.putKey s slot kind origin keyId).store = s.store ∧ (State.putKey s slot kind origin keyId).power = s.power ∧ (State.putKey s slot kind origin keyId).mem = s.mem ∧ (State.putKey s slot kind origin keyId).engines = s.engines ∧ (State.putKey s slot kind origin keyId).admin = s.admin ∧ (State.putKey s slot kind origin keyId).staing = s.staing ∧ (State.putKey s slot kind origin keyId).security = s.security ∧ (State.putKey s slot kind origin keyId).migration = s.migration ∧ (State.putKey s slot kind origin keyId).pending = s.pending ∧ (State.putKey s slot kind origin keyId).now = s.now ∧ (State.putKey s slot kind origin keyId).bootAt = s.bootAt ∧ (State.putKey s slot kind origin keyId).free = s.free ∧ (State.putKey s slot kind origin keyId).out = s.out := by
  unfold State.putKey
  simp

@[simp] theorem state_newKey_frame (s : State) :
    (State.newKey s).2.dict = s.dict ∧ (State.newKey s).2.modes = s.modes ∧ (State.newKey s).2.sampler = s.sampler ∧ (State.newKey s).2.cells = s.cells ∧ (State.newKey s).2.host = s.host ∧ (State.newKey s).2.sched = s.sched ∧ (State.newKey s).2.flash = s.flash ∧ (State.newKey s).2.store = s.store ∧ (State.newKey s).2.power = s.power ∧ (State.newKey s).2.mem = s.mem ∧ (State.newKey s).2.engines = s.engines ∧ (State.newKey s).2.admin = s.admin ∧ (State.newKey s).2.staing = s.staing ∧ (State.newKey s).2.security = s.security ∧ (State.newKey s).2.migration = s.migration ∧ (State.newKey s).2.pending = s.pending ∧ (State.newKey s).2.now = s.now ∧ (State.newKey s).2.bootAt = s.bootAt ∧ (State.newKey s).2.free = s.free ∧ (State.newKey s).2.out = s.out := by
  unfold State.newKey
  simp

@[simp] theorem state_removeNs_frame (s : State) (nsid : Nat) :
    (State.removeNs s nsid).modes = s.modes ∧ (State.removeNs s nsid).sampler = s.sampler ∧ (State.removeNs s nsid).cells = s.cells ∧ (State.removeNs s nsid).sched = s.sched ∧ (State.removeNs s nsid).flash = s.flash ∧ (State.removeNs s nsid).power = s.power ∧ (State.removeNs s nsid).mem = s.mem ∧ (State.removeNs s nsid).engines = s.engines ∧ (State.removeNs s nsid).staing = s.staing ∧ (State.removeNs s nsid).security = s.security ∧ (State.removeNs s nsid).pending = s.pending ∧ (State.removeNs s nsid).now = s.now ∧ (State.removeNs s nsid).bootAt = s.bootAt ∧ (State.removeNs s nsid).free = s.free ∧ (State.removeNs s nsid).out = s.out := by
  unfold State.removeNs
  (repeat' split) <;> simp

@[simp] theorem state_replaceKey_frame (s : State) (w : KeyWork) :
    (State.replaceKey s w).modes = s.modes ∧ (State.replaceKey s w).sampler = s.sampler ∧ (State.replaceKey s w).sched = s.sched ∧ (State.replaceKey s w).power = s.power ∧ (State.replaceKey s w).mem = s.mem ∧ (State.replaceKey s w).engines = s.engines ∧ (State.replaceKey s w).staing = s.staing ∧ (State.replaceKey s w).security = s.security ∧ (State.replaceKey s w).pending = s.pending ∧ (State.replaceKey s w).now = s.now ∧ (State.replaceKey s w).bootAt = s.bootAt ∧ (State.replaceKey s w).free = s.free ∧ (State.replaceKey s w).out = s.out := by
  simp only [State.replaceKey]
  (repeat' split) <;> simp

@[simp] theorem state_settleKeys_frame (s : State) :
    (State.settleKeys s).modes = s.modes ∧ (State.settleKeys s).sampler = s.sampler ∧ (State.settleKeys s).sched = s.sched ∧ (State.settleKeys s).power = s.power ∧ (State.settleKeys s).mem = s.mem ∧ (State.settleKeys s).engines = s.engines ∧ (State.settleKeys s).staing = s.staing ∧ (State.settleKeys s).security = s.security ∧ (State.settleKeys s).pending = s.pending ∧ (State.settleKeys s).now = s.now ∧ (State.settleKeys s).bootAt = s.bootAt ∧ (State.settleKeys s).free = s.free ∧ (State.settleKeys s).out = s.out := by
  unfold State.settleKeys
  simp

@[simp] theorem state_pushNs_frame (s : State) (nsid : Nat) :
    (State.pushNs s nsid).modes = s.modes ∧ (State.pushNs s nsid).cells = s.cells ∧ (State.pushNs s nsid).host = s.host ∧ (State.pushNs s nsid).power = s.power ∧ (State.pushNs s nsid).mem = s.mem ∧ (State.pushNs s nsid).engines = s.engines ∧ (State.pushNs s nsid).admin = s.admin ∧ (State.pushNs s nsid).staing = s.staing ∧ (State.pushNs s nsid).security = s.security ∧ (State.pushNs s nsid).migration = s.migration ∧ (State.pushNs s nsid).pending = s.pending ∧ (State.pushNs s nsid).now = s.now ∧ (State.pushNs s nsid).bootAt = s.bootAt ∧ (State.pushNs s nsid).free = s.free ∧ (State.pushNs s nsid).out = s.out := by
  unfold State.pushNs
  and_intros
  all_goals (repeat' first | rfl | assumption | (intros; trivial) | (dsimp only; done) | (intro _) | split | (first | refine (foldl_dict _ _ _ ?_).trans ?_ | refine (foldl_modes _ _ _ ?_).trans ?_ | refine (foldl_sampler _ _ _ ?_).trans ?_ | refine (foldl_cells _ _ _ ?_).trans ?_ | refine (foldl_host _ _ _ ?_).trans ?_ | refine (foldl_sched _ _ _ ?_).trans ?_ | refine (foldl_flash _ _ _ ?_).trans ?_ | refine (foldl_store _ _ _ ?_).trans ?_ | refine (foldl_power _ _ _ ?_).trans ?_ | refine (foldl_mem _ _ _ ?_).trans ?_ | refine (foldl_cipher _ _ _ ?_).trans ?_ | refine (foldl_engines _ _ _ ?_).trans ?_ | refine (foldl_admin _ _ _ ?_).trans ?_ | refine (foldl_staing _ _ _ ?_).trans ?_ | refine (foldl_security _ _ _ ?_).trans ?_ | refine (foldl_migration _ _ _ ?_).trans ?_ | refine (foldl_pending _ _ _ ?_).trans ?_ | refine (foldl_now _ _ _ ?_).trans ?_ | refine (foldl_bootAt _ _ _ ?_).trans ?_ | refine (foldl_free _ _ _ ?_).trans ?_ | refine (foldl_out _ _ _ ?_).trans ?_ | refine (foldl_mem_dram _ _ _ ?_).trans ?_ | refine (foldl_engines_windows _ _ _ ?_).trans ?_) | (simp; done) | simp)

@[simp] theorem state_emptySlot_frame (s : State) (slot : Nat) :
    (State.emptySlot s slot).dict = s.dict ∧ (State.emptySlot s slot).modes = s.modes ∧ (State.emptySlot s slot).sampler = s.sampler ∧ (State.emptySlot s slot).cells = s.cells ∧ (State.emptySlot s slot).host = s.host ∧ (State.emptySlot s slot).sched = s.sched ∧ (State.emptySlot s slot).flash = s.flash ∧ (State.emptySlot s slot).store = s.store ∧ (State.emptySlot s slot).power = s.power ∧ (State.emptySlot s slot).mem = s.mem ∧ (State.emptySlot s slot).engines = s.engines ∧ (State.emptySlot s slot).admin = s.admin ∧ (State.emptySlot s slot).staing = s.staing ∧ (State.emptySlot s slot).security = s.security ∧ (State.emptySlot s slot).migration = s.migration ∧ (State.emptySlot s slot).pending = s.pending ∧ (State.emptySlot s slot).now = s.now ∧ (State.emptySlot s slot).bootAt = s.bootAt ∧ (State.emptySlot s slot).free = s.free ∧ (State.emptySlot s slot).out = s.out := by
  unfold State.emptySlot
  simp

@[simp] theorem state_refuseBlob_frame (s : State) (b : KeyBlob) :
    (State.refuseBlob s b).1.modes = s.modes ∧ (State.refuseBlob s b).1.cells = s.cells ∧ (State.refuseBlob s b).1.host = s.host ∧ (State.refuseBlob s b).1.sched = s.sched ∧ (State.refuseBlob s b).1.flash = s.flash ∧ (State.refuseBlob s b).1.store = s.store ∧ (State.refuseBlob s b).1.power = s.power ∧ (State.refuseBlob s b).1.mem = s.mem ∧ (State.refuseBlob s b).1.cipher = s.cipher ∧ (State.refuseBlob s b).1.engines = s.engines ∧ (State.refuseBlob s b).1.admin = s.admin ∧ (State.refuseBlob s b).1.staing = s.staing ∧ (State.refuseBlob s b).1.security = s.security ∧ (State.refuseBlob s b).1.migration = s.migration ∧ (State.refuseBlob s b).1.pending = s.pending ∧ (State.refuseBlob s b).1.now = s.now ∧ (State.refuseBlob s b).1.bootAt = s.bootAt ∧ (State.refuseBlob s b).1.free = s.free ∧ (State.refuseBlob s b).1.out = s.out := by
  unfold State.refuseBlob
  simp

@[simp] theorem state_tkekMap_frame (s : State) :
    (State.tkekMap s).modes = s.modes ∧ (State.tkekMap s).sampler = s.sampler ∧ (State.tkekMap s).cells = s.cells ∧ (State.tkekMap s).host = s.host ∧ (State.tkekMap s).sched = s.sched ∧ (State.tkekMap s).flash = s.flash ∧ (State.tkekMap s).store = s.store ∧ (State.tkekMap s).power = s.power ∧ (State.tkekMap s).mem = s.mem ∧ (State.tkekMap s).cipher = s.cipher ∧ (State.tkekMap s).engines = s.engines ∧ (State.tkekMap s).admin = s.admin ∧ (State.tkekMap s).staing = s.staing ∧ (State.tkekMap s).security = s.security ∧ (State.tkekMap s).migration = s.migration ∧ (State.tkekMap s).pending = s.pending ∧ (State.tkekMap s).now = s.now ∧ (State.tkekMap s).bootAt = s.bootAt ∧ (State.tkekMap s).free = s.free ∧ (State.tkekMap s).out = s.out := by
  unfold State.tkekMap
  simp

@[simp] theorem state_beginKey_frame (s : State) (h : Hdr) (nsid : Nat) (origin : Nat) (keyId : Nat) (act : KeyAct) :
    (State.beginKey s h nsid origin keyId act).modes = s.modes ∧ (State.beginKey s h nsid origin keyId act).sampler = s.sampler ∧ (State.beginKey s h nsid origin keyId act).sched = s.sched ∧ (State.beginKey s h nsid origin keyId act).power = s.power ∧ (State.beginKey s h nsid origin keyId act).mem = s.mem ∧ (State.beginKey s h nsid origin keyId act).engines = s.engines ∧ (State.beginKey s h nsid origin keyId act).staing = s.staing ∧ (State.beginKey s h nsid origin keyId act).security = s.security ∧ (State.beginKey s h nsid origin keyId act).pending = s.pending ∧ (State.beginKey s h nsid origin keyId act).now = s.now ∧ (State.beginKey s h nsid origin keyId act).bootAt = s.bootAt ∧ (State.beginKey s h nsid origin keyId act).free = s.free ∧ (State.beginKey s h nsid origin keyId act).out = s.out := by
  unfold State.beginKey
  simp

@[simp] theorem state_dropKpio_frame (s : State) (nsid : Nat) (tag : Nat) :
    (State.dropKpio s nsid tag).modes = s.modes ∧ (State.dropKpio s nsid tag).sampler = s.sampler ∧ (State.dropKpio s nsid tag).host = s.host ∧ (State.dropKpio s nsid tag).sched = s.sched ∧ (State.dropKpio s nsid tag).flash = s.flash ∧ (State.dropKpio s nsid tag).store = s.store ∧ (State.dropKpio s nsid tag).power = s.power ∧ (State.dropKpio s nsid tag).mem = s.mem ∧ (State.dropKpio s nsid tag).engines = s.engines ∧ (State.dropKpio s nsid tag).admin = s.admin ∧ (State.dropKpio s nsid tag).staing = s.staing ∧ (State.dropKpio s nsid tag).security = s.security ∧ (State.dropKpio s nsid tag).migration = s.migration ∧ (State.dropKpio s nsid tag).pending = s.pending ∧ (State.dropKpio s nsid tag).now = s.now ∧ (State.dropKpio s nsid tag).bootAt = s.bootAt ∧ (State.dropKpio s nsid tag).free = s.free ∧ (State.dropKpio s nsid tag).out = s.out := by
  unfold State.dropKpio
  simp

@[simp] theorem state_countKpio_frame (s : State) :
    (State.countKpio s).modes = s.modes ∧ (State.countKpio s).sampler = s.sampler ∧ (State.countKpio s).cells = s.cells ∧ (State.countKpio s).host = s.host ∧ (State.countKpio s).sched = s.sched ∧ (State.countKpio s).flash = s.flash ∧ (State.countKpio s).store = s.store ∧ (State.countKpio s).power = s.power ∧ (State.countKpio s).mem = s.mem ∧ (State.countKpio s).cipher = s.cipher ∧ (State.countKpio s).engines = s.engines ∧ (State.countKpio s).admin = s.admin ∧ (State.countKpio s).staing = s.staing ∧ (State.countKpio s).security = s.security ∧ (State.countKpio s).migration = s.migration ∧ (State.countKpio s).pending = s.pending ∧ (State.countKpio s).now = s.now ∧ (State.countKpio s).bootAt = s.bootAt ∧ (State.countKpio s).free = s.free ∧ (State.countKpio s).out = s.out := by
  unfold State.countKpio
  simp

@[simp] theorem state_setChan_frame (s : State) (c : Nat) (x : DramChan) :
    (State.setChan s c x).dict = s.dict ∧ (State.setChan s c x).modes = s.modes ∧ (State.setChan s c x).sampler = s.sampler ∧ (State.setChan s c x).cells = s.cells ∧ (State.setChan s c x).host = s.host ∧ (State.setChan s c x).sched = s.sched ∧ (State.setChan s c x).flash = s.flash ∧ (State.setChan s c x).store = s.store ∧ (State.setChan s c x).power = s.power ∧ (State.setChan s c x).cipher = s.cipher ∧ (State.setChan s c x).engines = s.engines ∧ (State.setChan s c x).admin = s.admin ∧ (State.setChan s c x).staing = s.staing ∧ (State.setChan s c x).security = s.security ∧ (State.setChan s c x).migration = s.migration ∧ (State.setChan s c x).pending = s.pending ∧ (State.setChan s c x).now = s.now ∧ (State.setChan s c x).bootAt = s.bootAt ∧ (State.setChan s c x).free = s.free ∧ (State.setChan s c x).out = s.out ∧ (State.setChan s c x).mem.dram = s.mem.dram := by
  unfold State.setChan
  simp

@[simp] theorem state_hitDevice_frame (s : State) (c : Nat) (rank : Nat) (dev : Nat) :
    (State.hitDevice s c rank dev).modes = s.modes ∧ (State.hitDevice s c rank dev).cells = s.cells ∧ (State.hitDevice s c rank dev).host = s.host ∧ (State.hitDevice s c rank dev).sched = s.sched ∧ (State.hitDevice s c rank dev).flash = s.flash ∧ (State.hitDevice s c rank dev).store = s.store ∧ (State.hitDevice s c rank dev).power = s.power ∧ (State.hitDevice s c rank dev).cipher = s.cipher ∧ (State.hitDevice s c rank dev).engines = s.engines ∧ (State.hitDevice s c rank dev).admin = s.admin ∧ (State.hitDevice s c rank dev).staing = s.staing ∧ (State.hitDevice s c rank dev).security = s.security ∧ (State.hitDevice s c rank dev).migration = s.migration ∧ (State.hitDevice s c rank dev).pending = s.pending ∧ (State.hitDevice s c rank dev).now = s.now ∧ (State.hitDevice s c rank dev).bootAt = s.bootAt ∧ (State.hitDevice s c rank dev).free = s.free ∧ (State.hitDevice s c rank dev).out = s.out ∧ (State.hitDevice s c rank dev).mem.dram = s.mem.dram := by
  simp only [State.hitDevice]
  (repeat' split) <;> simp

@[simp] theorem state_wordCorrected_frame (s : State) (c : Nat) (rank : Nat) (burst : Nat) (w : Nat × Nat) :
    (State.wordCorrected s c rank burst w).modes = s.modes ∧ (State.wordCorrected s c rank burst w).cells = s.cells ∧ (State.wordCorrected s c rank burst w).host = s.host ∧ (State.wordCorrected s c rank burst w).sched = s.sched ∧ (State.wordCorrected s c rank burst w).flash = s.flash ∧ (State.wordCorrected s c rank burst w).store = s.store ∧ (State.wordCorrected s c rank burst w).power = s.power ∧ (State.wordCorrected s c rank burst w).cipher = s.cipher ∧ (State.wordCorrected s c rank burst w).engines = s.engines ∧ (State.wordCorrected s c rank burst w).admin = s.admin ∧ (State.wordCorrected s c rank burst w).staing = s.staing ∧ (State.wordCorrected s c rank burst w).security = s.security ∧ (State.wordCorrected s c rank burst w).migration = s.migration ∧ (State.wordCorrected s c rank burst w).pending = s.pending ∧ (State.wordCorrected s c rank burst w).now = s.now ∧ (State.wordCorrected s c rank burst w).bootAt = s.bootAt ∧ (State.wordCorrected s c rank burst w).free = s.free ∧ (State.wordCorrected s c rank burst w).out = s.out ∧ (State.wordCorrected s c rank burst w).mem.dram = s.mem.dram := by
  unfold State.wordCorrected
  simp

@[simp] theorem state_queueWrite_frame (s : State) (c : Nat) (burst : Nat) :
    (State.queueWrite s c burst).dict = s.dict ∧ (State.queueWrite s c burst).modes = s.modes ∧ (State.queueWrite s c burst).sampler = s.sampler ∧ (State.queueWrite s c burst).cells = s.cells ∧ (State.queueWrite s c burst).host = s.host ∧ (State.queueWrite s c burst).sched = s.sched ∧ (State.queueWrite s c burst).flash = s.flash ∧ (State.queueWrite s c burst).store = s.store ∧ (State.queueWrite s c burst).power = s.power ∧ (State.queueWrite s c burst).cipher = s.cipher ∧ (State.queueWrite s c burst).engines = s.engines ∧ (State.queueWrite s c burst).admin = s.admin ∧ (State.queueWrite s c burst).staing = s.staing ∧ (State.queueWrite s c burst).security = s.security ∧ (State.queueWrite s c burst).migration = s.migration ∧ (State.queueWrite s c burst).pending = s.pending ∧ (State.queueWrite s c burst).now = s.now ∧ (State.queueWrite s c burst).bootAt = s.bootAt ∧ (State.queueWrite s c burst).free = s.free ∧ (State.queueWrite s c burst).out = s.out ∧ (State.queueWrite s c burst).mem.dram = s.mem.dram := by
  unfold State.queueWrite
  simp

@[simp] theorem state_readBurst_frame (s : State) (c : Nat) (rank : Nat) (burst : Nat) (e : DramErrors) :
    (State.readBurst s c rank burst e).modes = s.modes ∧ (State.readBurst s c rank burst e).cells = s.cells ∧ (State.readBurst s c rank burst e).host = s.host ∧ (State.readBurst s c rank burst e).sched = s.sched ∧ (State.readBurst s c rank burst e).flash = s.flash ∧ (State.readBurst s c rank burst e).store = s.store ∧ (State.readBurst s c rank burst e).power = s.power ∧ (State.readBurst s c rank burst e).cipher = s.cipher ∧ (State.readBurst s c rank burst e).engines = s.engines ∧ (State.readBurst s c rank burst e).admin = s.admin ∧ (State.readBurst s c rank burst e).staing = s.staing ∧ (State.readBurst s c rank burst e).security = s.security ∧ (State.readBurst s c rank burst e).migration = s.migration ∧ (State.readBurst s c rank burst e).pending = s.pending ∧ (State.readBurst s c rank burst e).now = s.now ∧ (State.readBurst s c rank burst e).bootAt = s.bootAt ∧ (State.readBurst s c rank burst e).free = s.free ∧ (State.readBurst s c rank burst e).out = s.out ∧ (State.readBurst s c rank burst e).mem.dram = s.mem.dram := by
  unfold State.readBurst
  and_intros
  all_goals (repeat' first | rfl | assumption | (intros; trivial) | (dsimp only; done) | (intro _) | split | (first | refine (foldl_dict _ _ _ ?_).trans ?_ | refine (foldl_modes _ _ _ ?_).trans ?_ | refine (foldl_sampler _ _ _ ?_).trans ?_ | refine (foldl_cells _ _ _ ?_).trans ?_ | refine (foldl_host _ _ _ ?_).trans ?_ | refine (foldl_sched _ _ _ ?_).trans ?_ | refine (foldl_flash _ _ _ ?_).trans ?_ | refine (foldl_store _ _ _ ?_).trans ?_ | refine (foldl_power _ _ _ ?_).trans ?_ | refine (foldl_mem _ _ _ ?_).trans ?_ | refine (foldl_cipher _ _ _ ?_).trans ?_ | refine (foldl_engines _ _ _ ?_).trans ?_ | refine (foldl_admin _ _ _ ?_).trans ?_ | refine (foldl_staing _ _ _ ?_).trans ?_ | refine (foldl_security _ _ _ ?_).trans ?_ | refine (foldl_migration _ _ _ ?_).trans ?_ | refine (foldl_pending _ _ _ ?_).trans ?_ | refine (foldl_now _ _ _ ?_).trans ?_ | refine (foldl_bootAt _ _ _ ?_).trans ?_ | refine (foldl_free _ _ _ ?_).trans ?_ | refine (foldl_out _ _ _ ?_).trans ?_ | refine (foldl_mem_dram _ _ _ ?_).trans ?_ | refine (foldl_engines_windows _ _ _ ?_).trans ?_) | (simp; done) | simp)

@[simp] theorem state_hazard_frame (s : State) (c : Nat) (burst : Nat) :
    (State.hazard s c burst).modes = s.modes ∧ (State.hazard s c burst).sampler = s.sampler ∧ (State.hazard s c burst).cells = s.cells ∧ (State.hazard s c burst).host = s.host ∧ (State.hazard s c burst).sched = s.sched ∧ (State.hazard s c burst).flash = s.flash ∧ (State.hazard s c burst).store = s.store ∧ (State.hazard s c burst).power = s.power ∧ (State.hazard s c burst).cipher = s.cipher ∧ (State.hazard s c burst).engines = s.engines ∧ (State.hazard s c burst).admin = s.admin ∧ (State.hazard s c burst).staing = s.staing ∧ (State.hazard s c burst).security = s.security ∧ (State.hazard s c burst).migration = s.migration ∧ (State.hazard s c burst).pending = s.pending ∧ (State.hazard s c burst).now = s.now ∧ (State.hazard s c burst).bootAt = s.bootAt ∧ (State.hazard s c burst).free = s.free ∧ (State.hazard s c burst).out = s.out ∧ (State.hazard s c burst).mem.dram = s.mem.dram := by
  simp only [State.hazard]
  (repeat' split) <;> simp

@[simp] theorem state_settleFill_frame (s : State) :
    (State.settleFill s).cells = s.cells ∧ (State.settleFill s).host = s.host ∧ (State.settleFill s).sched = s.sched ∧ (State.settleFill s).flash = s.flash ∧ (State.settleFill s).store = s.store ∧ (State.settleFill s).power = s.power ∧ (State.settleFill s).cipher = s.cipher ∧ (State.settleFill s).engines = s.engines ∧ (State.settleFill s).admin = s.admin ∧ (State.settleFill s).staing = s.staing ∧ (State.settleFill s).security = s.security ∧ (State.settleFill s).migration = s.migration ∧ (State.settleFill s).pending = s.pending ∧ (State.settleFill s).now = s.now ∧ (State.settleFill s).bootAt = s.bootAt ∧ (State.settleFill s).free = s.free ∧ (State.settleFill s).out = s.out ∧ (State.settleFill s).mem.dram = s.mem.dram := by
  unfold State.settleFill
  (repeat' split) <;> simp

@[simp] theorem state_validate_frame (s : State) (g : Nat) :
    (State.validate s g).cells = s.cells ∧ (State.validate s g).host = s.host ∧ (State.validate s g).sched = s.sched ∧ (State.validate s g).flash = s.flash ∧ (State.validate s g).store = s.store ∧ (State.validate s g).power = s.power ∧ (State.validate s g).cipher = s.cipher ∧ (State.validate s g).engines = s.engines ∧ (State.validate s g).admin = s.admin ∧ (State.validate s g).staing = s.staing ∧ (State.validate s g).security = s.security ∧ (State.validate s g).migration = s.migration ∧ (State.validate s g).pending = s.pending ∧ (State.validate s g).now = s.now ∧ (State.validate s g).bootAt = s.bootAt ∧ (State.validate s g).free = s.free ∧ (State.validate s g).out = s.out ∧ (State.validate s g).mem.dram = s.mem.dram := by
  unfold State.validate
  (repeat' split) <;> simp

@[simp] theorem state_dramRead_frame (s : State) (a : Nat) (n : Nat) (e : DramErrors) :
    (State.dramRead s a n e).modes = s.modes ∧ (State.dramRead s a n e).cells = s.cells ∧ (State.dramRead s a n e).host = s.host ∧ (State.dramRead s a n e).sched = s.sched ∧ (State.dramRead s a n e).flash = s.flash ∧ (State.dramRead s a n e).store = s.store ∧ (State.dramRead s a n e).power = s.power ∧ (State.dramRead s a n e).cipher = s.cipher ∧ (State.dramRead s a n e).engines = s.engines ∧ (State.dramRead s a n e).admin = s.admin ∧ (State.dramRead s a n e).staing = s.staing ∧ (State.dramRead s a n e).security = s.security ∧ (State.dramRead s a n e).migration = s.migration ∧ (State.dramRead s a n e).pending = s.pending ∧ (State.dramRead s a n e).now = s.now ∧ (State.dramRead s a n e).bootAt = s.bootAt ∧ (State.dramRead s a n e).free = s.free ∧ (State.dramRead s a n e).out = s.out ∧ (State.dramRead s a n e).mem.dram = s.mem.dram := by
  unfold State.dramRead
  (repeat' split) <;> simp

@[simp] theorem state_dramWrite_frame (s : State) (a : Nat) (bs : List Byte) (e : DramErrors) :
    (State.dramWrite s a bs e).cells = s.cells ∧ (State.dramWrite s a bs e).host = s.host ∧ (State.dramWrite s a bs e).sched = s.sched ∧ (State.dramWrite s a bs e).flash = s.flash ∧ (State.dramWrite s a bs e).store = s.store ∧ (State.dramWrite s a bs e).power = s.power ∧ (State.dramWrite s a bs e).cipher = s.cipher ∧ (State.dramWrite s a bs e).engines = s.engines ∧ (State.dramWrite s a bs e).admin = s.admin ∧ (State.dramWrite s a bs e).staing = s.staing ∧ (State.dramWrite s a bs e).security = s.security ∧ (State.dramWrite s a bs e).migration = s.migration ∧ (State.dramWrite s a bs e).pending = s.pending ∧ (State.dramWrite s a bs e).now = s.now ∧ (State.dramWrite s a bs e).bootAt = s.bootAt ∧ (State.dramWrite s a bs e).free = s.free ∧ (State.dramWrite s a bs e).out = s.out := by
  unfold State.dramWrite
  simp

@[simp] theorem state_serveDram_frame (s : State) (op : DramOp) (errs : DramErrors) :
    (State.serveDram s op errs).cells = s.cells ∧ (State.serveDram s op errs).host = s.host ∧ (State.serveDram s op errs).sched = s.sched ∧ (State.serveDram s op errs).flash = s.flash ∧ (State.serveDram s op errs).store = s.store ∧ (State.serveDram s op errs).power = s.power ∧ (State.serveDram s op errs).cipher = s.cipher ∧ (State.serveDram s op errs).engines = s.engines ∧ (State.serveDram s op errs).admin = s.admin ∧ (State.serveDram s op errs).staing = s.staing ∧ (State.serveDram s op errs).security = s.security ∧ (State.serveDram s op errs).migration = s.migration ∧ (State.serveDram s op errs).pending = s.pending ∧ (State.serveDram s op errs).now = s.now ∧ (State.serveDram s op errs).bootAt = s.bootAt ∧ (State.serveDram s op errs).free = s.free ∧ (State.serveDram s op errs).out = s.out := by
  unfold State.serveDram
  (repeat' split) <;> simp

@[simp] theorem state_requestDram_frame (s : State) (op : DramOp) (errs : DramErrors) :
    (State.requestDram s op errs).cells = s.cells ∧ (State.requestDram s op errs).host = s.host ∧ (State.requestDram s op errs).sched = s.sched ∧ (State.requestDram s op errs).flash = s.flash ∧ (State.requestDram s op errs).store = s.store ∧ (State.requestDram s op errs).power = s.power ∧ (State.requestDram s op errs).cipher = s.cipher ∧ (State.requestDram s op errs).engines = s.engines ∧ (State.requestDram s op errs).admin = s.admin ∧ (State.requestDram s op errs).staing = s.staing ∧ (State.requestDram s op errs).security = s.security ∧ (State.requestDram s op errs).migration = s.migration ∧ (State.requestDram s op errs).pending = s.pending ∧ (State.requestDram s op errs).now = s.now ∧ (State.requestDram s op errs).bootAt = s.bootAt ∧ (State.requestDram s op errs).free = s.free ∧ (State.requestDram s op errs).out = s.out := by
  unfold State.requestDram
  simp

@[simp] theorem state_settleDram_frame (s : State) :
    (State.settleDram s).cells = s.cells ∧ (State.settleDram s).host = s.host ∧ (State.settleDram s).sched = s.sched ∧ (State.settleDram s).flash = s.flash ∧ (State.settleDram s).store = s.store ∧ (State.settleDram s).power = s.power ∧ (State.settleDram s).cipher = s.cipher ∧ (State.settleDram s).engines = s.engines ∧ (State.settleDram s).admin = s.admin ∧ (State.settleDram s).staing = s.staing ∧ (State.settleDram s).security = s.security ∧ (State.settleDram s).migration = s.migration ∧ (State.settleDram s).pending = s.pending ∧ (State.settleDram s).now = s.now ∧ (State.settleDram s).bootAt = s.bootAt ∧ (State.settleDram s).free = s.free ∧ (State.settleDram s).out = s.out := by
  unfold State.settleDram
  simp

@[simp] theorem state_unpark_frame (s : State) (ready : Nat → Bool) :
    (State.unpark s ready).host = s.host ∧ (State.unpark s ready).sched = s.sched ∧ (State.unpark s ready).flash = s.flash ∧ (State.unpark s ready).store = s.store ∧ (State.unpark s ready).power = s.power ∧ (State.unpark s ready).cipher = s.cipher ∧ (State.unpark s ready).engines = s.engines ∧ (State.unpark s ready).admin = s.admin ∧ (State.unpark s ready).staing = s.staing ∧ (State.unpark s ready).security = s.security ∧ (State.unpark s ready).migration = s.migration ∧ (State.unpark s ready).pending = s.pending ∧ (State.unpark s ready).now = s.now ∧ (State.unpark s ready).bootAt = s.bootAt ∧ (State.unpark s ready).free = s.free ∧ (State.unpark s ready).out = s.out := by
  unfold State.unpark
  simp

@[simp] theorem state_loseDram_frame (s : State) (c : Nat) :
    (State.loseDram s c).cells = s.cells ∧ (State.loseDram s c).sched = s.sched ∧ (State.loseDram s c).cipher = s.cipher ∧ (State.loseDram s c).staing = s.staing ∧ (State.loseDram s c).security = s.security ∧ (State.loseDram s c).pending = s.pending ∧ (State.loseDram s c).now = s.now ∧ (State.loseDram s c).bootAt = s.bootAt ∧ (State.loseDram s c).free = s.free ∧ (State.loseDram s c).out = s.out ∧ (State.loseDram s c).mem.dram = s.mem.dram := by
  unfold State.loseDram
  simp

@[simp] theorem state_issueRefresh_frame (s : State) (c : Nat) (rank : Nat) (r : Refresh) :
    (State.issueRefresh s c rank r).modes = s.modes ∧ (State.issueRefresh s c rank r).sampler = s.sampler ∧ (State.issueRefresh s c rank r).cells = s.cells ∧ (State.issueRefresh s c rank r).host = s.host ∧ (State.issueRefresh s c rank r).sched = s.sched ∧ (State.issueRefresh s c rank r).flash = s.flash ∧ (State.issueRefresh s c rank r).store = s.store ∧ (State.issueRefresh s c rank r).power = s.power ∧ (State.issueRefresh s c rank r).cipher = s.cipher ∧ (State.issueRefresh s c rank r).engines = s.engines ∧ (State.issueRefresh s c rank r).admin = s.admin ∧ (State.issueRefresh s c rank r).staing = s.staing ∧ (State.issueRefresh s c rank r).security = s.security ∧ (State.issueRefresh s c rank r).migration = s.migration ∧ (State.issueRefresh s c rank r).pending = s.pending ∧ (State.issueRefresh s c rank r).now = s.now ∧ (State.issueRefresh s c rank r).bootAt = s.bootAt ∧ (State.issueRefresh s c rank r).free = s.free ∧ (State.issueRefresh s c rank r).out = s.out ∧ (State.issueRefresh s c rank r).mem.dram = s.mem.dram := by
  unfold State.issueRefresh
  simp

@[simp] theorem state_withdraw_frame (s : State) (h : Hdr) :
    (State.withdraw s h).dict = s.dict ∧ (State.withdraw s h).modes = s.modes ∧ (State.withdraw s h).sampler = s.sampler ∧ (State.withdraw s h).cells = s.cells ∧ (State.withdraw s h).sched = s.sched ∧ (State.withdraw s h).flash = s.flash ∧ (State.withdraw s h).store = s.store ∧ (State.withdraw s h).power = s.power ∧ (State.withdraw s h).mem = s.mem ∧ (State.withdraw s h).engines = s.engines ∧ (State.withdraw s h).admin = s.admin ∧ (State.withdraw s h).staing = s.staing ∧ (State.withdraw s h).security = s.security ∧ (State.withdraw s h).migration = s.migration ∧ (State.withdraw s h).pending = s.pending ∧ (State.withdraw s h).now = s.now ∧ (State.withdraw s h).bootAt = s.bootAt ∧ (State.withdraw s h).free = s.free ∧ (State.withdraw s h).out = s.out := by
  unfold State.withdraw
  simp

@[simp] theorem state_storeFeat_frame (s : State) (f : Func) (sv : Bool) (vals : List (Nat × Nat)) :
    (State.storeFeat s f sv vals).dict = s.dict ∧ (State.storeFeat s f sv vals).modes = s.modes ∧ (State.storeFeat s f sv vals).sampler = s.sampler ∧ (State.storeFeat s f sv vals).cells = s.cells ∧ (State.storeFeat s f sv vals).sched = s.sched ∧ (State.storeFeat s f sv vals).flash = s.flash ∧ (State.storeFeat s f sv vals).store = s.store ∧ (State.storeFeat s f sv vals).power = s.power ∧ (State.storeFeat s f sv vals).mem = s.mem ∧ (State.storeFeat s f sv vals).cipher = s.cipher ∧ (State.storeFeat s f sv vals).engines = s.engines ∧ (State.storeFeat s f sv vals).admin = s.admin ∧ (State.storeFeat s f sv vals).staing = s.staing ∧ (State.storeFeat s f sv vals).security = s.security ∧ (State.storeFeat s f sv vals).migration = s.migration ∧ (State.storeFeat s f sv vals).pending = s.pending ∧ (State.storeFeat s f sv vals).now = s.now ∧ (State.storeFeat s f sv vals).bootAt = s.bootAt ∧ (State.storeFeat s f sv vals).free = s.free ∧ (State.storeFeat s f sv vals).out = s.out := by
  unfold State.storeFeat
  simp

@[simp] theorem state_requestPower_frame (s : State) (p : Port) (ps : Nat) :
    (State.requestPower s p ps).modes = s.modes ∧ (State.requestPower s p ps).cells = s.cells ∧ (State.requestPower s p ps).host = s.host ∧ (State.requestPower s p ps).sched = s.sched ∧ (State.requestPower s p ps).flash = s.flash ∧ (State.requestPower s p ps).store = s.store ∧ (State.requestPower s p ps).mem = s.mem ∧ (State.requestPower s p ps).cipher = s.cipher ∧ (State.requestPower s p ps).engines = s.engines ∧ (State.requestPower s p ps).admin = s.admin ∧ (State.requestPower s p ps).staing = s.staing ∧ (State.requestPower s p ps).security = s.security ∧ (State.requestPower s p ps).migration = s.migration ∧ (State.requestPower s p ps).pending = s.pending ∧ (State.requestPower s p ps).now = s.now ∧ (State.requestPower s p ps).bootAt = s.bootAt ∧ (State.requestPower s p ps).free = s.free ∧ (State.requestPower s p ps).out = s.out := by
  unfold State.requestPower
  simp

@[simp] theorem state_setSummary_frame (s : State) (p : Port) (m : Option ISum) (delay : Nat) :
    (State.setSummary s p m delay).dict = s.dict ∧ (State.setSummary s p m delay).modes = s.modes ∧ (State.setSummary s p m delay).sampler = s.sampler ∧ (State.setSummary s p m delay).cells = s.cells ∧ (State.setSummary s p m delay).sched = s.sched ∧ (State.setSummary s p m delay).flash = s.flash ∧ (State.setSummary s p m delay).store = s.store ∧ (State.setSummary s p m delay).power = s.power ∧ (State.setSummary s p m delay).mem = s.mem ∧ (State.setSummary s p m delay).cipher = s.cipher ∧ (State.setSummary s p m delay).engines = s.engines ∧ (State.setSummary s p m delay).admin = s.admin ∧ (State.setSummary s p m delay).staing = s.staing ∧ (State.setSummary s p m delay).security = s.security ∧ (State.setSummary s p m delay).migration = s.migration ∧ (State.setSummary s p m delay).pending = s.pending ∧ (State.setSummary s p m delay).now = s.now ∧ (State.setSummary s p m delay).bootAt = s.bootAt ∧ (State.setSummary s p m delay).free = s.free ∧ (State.setSummary s p m delay).out = s.out := by
  unfold State.setSummary
  (repeat' split) <;> simp

@[simp] theorem state_startFlush_frame (s : State) :
    (State.startFlush s).dict = s.dict ∧ (State.startFlush s).modes = s.modes ∧ (State.startFlush s).cells = s.cells ∧ (State.startFlush s).host = s.host ∧ (State.startFlush s).sched = s.sched ∧ (State.startFlush s).flash = s.flash ∧ (State.startFlush s).store = s.store ∧ (State.startFlush s).power = s.power ∧ (State.startFlush s).mem = s.mem ∧ (State.startFlush s).cipher = s.cipher ∧ (State.startFlush s).engines = s.engines ∧ (State.startFlush s).admin = s.admin ∧ (State.startFlush s).staing = s.staing ∧ (State.startFlush s).security = s.security ∧ (State.startFlush s).migration = s.migration ∧ (State.startFlush s).pending = s.pending ∧ (State.startFlush s).now = s.now ∧ (State.startFlush s).bootAt = s.bootAt ∧ (State.startFlush s).free = s.free ∧ (State.startFlush s).out = s.out := by
  unfold State.startFlush
  simp

@[simp] theorem state_beginFlush_frame (s : State) :
    (State.beginFlush s).dict = s.dict ∧ (State.beginFlush s).modes = s.modes ∧ (State.beginFlush s).cells = s.cells ∧ (State.beginFlush s).host = s.host ∧ (State.beginFlush s).flash = s.flash ∧ (State.beginFlush s).store = s.store ∧ (State.beginFlush s).power = s.power ∧ (State.beginFlush s).mem = s.mem ∧ (State.beginFlush s).cipher = s.cipher ∧ (State.beginFlush s).engines = s.engines ∧ (State.beginFlush s).admin = s.admin ∧ (State.beginFlush s).staing = s.staing ∧ (State.beginFlush s).security = s.security ∧ (State.beginFlush s).migration = s.migration ∧ (State.beginFlush s).pending = s.pending ∧ (State.beginFlush s).now = s.now ∧ (State.beginFlush s).bootAt = s.bootAt ∧ (State.beginFlush s).free = s.free ∧ (State.beginFlush s).out = s.out := by
  unfold State.beginFlush
  simp

@[simp] theorem state_applyWaiting_frame (s : State) :
    (State.applyWaiting s).cells = s.cells ∧ (State.applyWaiting s).host = s.host ∧ (State.applyWaiting s).sched = s.sched ∧ (State.applyWaiting s).flash = s.flash ∧ (State.applyWaiting s).store = s.store ∧ (State.applyWaiting s).power = s.power ∧ (State.applyWaiting s).mem = s.mem ∧ (State.applyWaiting s).cipher = s.cipher ∧ (State.applyWaiting s).engines = s.engines ∧ (State.applyWaiting s).admin = s.admin ∧ (State.applyWaiting s).staing = s.staing ∧ (State.applyWaiting s).security = s.security ∧ (State.applyWaiting s).migration = s.migration ∧ (State.applyWaiting s).pending = s.pending ∧ (State.applyWaiting s).now = s.now ∧ (State.applyWaiting s).bootAt = s.bootAt ∧ (State.applyWaiting s).free = s.free ∧ (State.applyWaiting s).out = s.out := by
  unfold State.applyWaiting
  simp

@[simp] theorem state_endFlush_frame (s : State) (fails : List Nat) :
    (State.endFlush s fails).cells = s.cells ∧ (State.endFlush s fails).host = s.host ∧ (State.endFlush s fails).sched = s.sched ∧ (State.endFlush s fails).flash = s.flash ∧ (State.endFlush s fails).store = s.store ∧ (State.endFlush s fails).power = s.power ∧ (State.endFlush s fails).mem = s.mem ∧ (State.endFlush s fails).cipher = s.cipher ∧ (State.endFlush s fails).engines = s.engines ∧ (State.endFlush s fails).admin = s.admin ∧ (State.endFlush s fails).staing = s.staing ∧ (State.endFlush s fails).security = s.security ∧ (State.endFlush s fails).migration = s.migration ∧ (State.endFlush s fails).pending = s.pending ∧ (State.endFlush s fails).now = s.now ∧ (State.endFlush s fails).bootAt = s.bootAt ∧ (State.endFlush s fails).free = s.free ∧ (State.endFlush s fails).out = s.out := by
  unfold State.endFlush
  (repeat' split) <;> simp

@[simp] theorem state_flushNow_frame (s : State) :
    (State.flushNow s).cells = s.cells ∧ (State.flushNow s).host = s.host ∧ (State.flushNow s).flash = s.flash ∧ (State.flushNow s).store = s.store ∧ (State.flushNow s).power = s.power ∧ (State.flushNow s).mem = s.mem ∧ (State.flushNow s).cipher = s.cipher ∧ (State.flushNow s).engines = s.engines ∧ (State.flushNow s).admin = s.admin ∧ (State.flushNow s).staing = s.staing ∧ (State.flushNow s).security = s.security ∧ (State.flushNow s).migration = s.migration ∧ (State.flushNow s).pending = s.pending ∧ (State.flushNow s).now = s.now ∧ (State.flushNow s).bootAt = s.bootAt ∧ (State.flushNow s).free = s.free ∧ (State.flushNow s).out = s.out := by
  unfold State.flushNow
  simp

@[simp] theorem state_setAcc_frame (s : State) (c : Nat) (x : AccSt) :
    (State.setAcc s c x).modes = s.modes ∧ (State.setAcc s c x).sampler = s.sampler ∧ (State.setAcc s c x).cells = s.cells ∧ (State.setAcc s c x).host = s.host ∧ (State.setAcc s c x).sched = s.sched ∧ (State.setAcc s c x).flash = s.flash ∧ (State.setAcc s c x).store = s.store ∧ (State.setAcc s c x).power = s.power ∧ (State.setAcc s c x).mem = s.mem ∧ (State.setAcc s c x).cipher = s.cipher ∧ (State.setAcc s c x).engines = s.engines ∧ (State.setAcc s c x).admin = s.admin ∧ (State.setAcc s c x).staing = s.staing ∧ (State.setAcc s c x).security = s.security ∧ (State.setAcc s c x).migration = s.migration ∧ (State.setAcc s c x).pending = s.pending ∧ (State.setAcc s c x).now = s.now ∧ (State.setAcc s c x).bootAt = s.bootAt ∧ (State.setAcc s c x).free = s.free ∧ (State.setAcc s c x).out = s.out := by
  unfold State.setAcc
  simp

@[simp] theorem state_reach_frame (s : State) (seq : Nat) :
    (State.reach s seq).cells = s.cells ∧ (State.reach s seq).host = s.host ∧ (State.reach s seq).flash = s.flash ∧ (State.reach s seq).store = s.store ∧ (State.reach s seq).power = s.power ∧ (State.reach s seq).mem = s.mem ∧ (State.reach s seq).cipher = s.cipher ∧ (State.reach s seq).engines = s.engines ∧ (State.reach s seq).admin = s.admin ∧ (State.reach s seq).staing = s.staing ∧ (State.reach s seq).security = s.security ∧ (State.reach s seq).migration = s.migration ∧ (State.reach s seq).pending = s.pending ∧ (State.reach s seq).now = s.now ∧ (State.reach s seq).bootAt = s.bootAt ∧ (State.reach s seq).free = s.free ∧ (State.reach s seq).out = s.out := by
  unfold State.reach
  simp

@[simp] theorem state_endTestOf_frame (s : State) (nsid : Nat) (result : Nat) :
    (State.endTestOf s nsid result).cells = s.cells ∧ (State.endTestOf s nsid result).host = s.host ∧ (State.endTestOf s nsid result).sched = s.sched ∧ (State.endTestOf s nsid result).flash = s.flash ∧ (State.endTestOf s nsid result).store = s.store ∧ (State.endTestOf s nsid result).power = s.power ∧ (State.endTestOf s nsid result).mem = s.mem ∧ (State.endTestOf s nsid result).cipher = s.cipher ∧ (State.endTestOf s nsid result).engines = s.engines ∧ (State.endTestOf s nsid result).staing = s.staing ∧ (State.endTestOf s nsid result).security = s.security ∧ (State.endTestOf s nsid result).migration = s.migration ∧ (State.endTestOf s nsid result).pending = s.pending ∧ (State.endTestOf s nsid result).now = s.now ∧ (State.endTestOf s nsid result).bootAt = s.bootAt ∧ (State.endTestOf s nsid result).free = s.free ∧ (State.endTestOf s nsid result).out = s.out := by
  unfold State.endTestOf
  simp

@[simp] theorem state_beginKeys_frame (s : State) (h : Hdr) (ids : List Nat) (act : KeyAct) :
    (State.beginKeys s h ids act).modes = s.modes ∧ (State.beginKeys s h ids act).sampler = s.sampler ∧ (State.beginKeys s h ids act).sched = s.sched ∧ (State.beginKeys s h ids act).power = s.power ∧ (State.beginKeys s h ids act).mem = s.mem ∧ (State.beginKeys s h ids act).engines = s.engines ∧ (State.beginKeys s h ids act).staing = s.staing ∧ (State.beginKeys s h ids act).security = s.security ∧ (State.beginKeys s h ids act).pending = s.pending ∧ (State.beginKeys s h ids act).now = s.now ∧ (State.beginKeys s h ids act).bootAt = s.bootAt ∧ (State.beginKeys s h ids act).free = s.free ∧ (State.beginKeys s h ids act).out = s.out := by
  unfold State.beginKeys
  and_intros
  all_goals (repeat' first | rfl | assumption | (intros; trivial) | (dsimp only; done) | (intro _) | split | (first | refine (foldl_dict _ _ _ ?_).trans ?_ | refine (foldl_modes _ _ _ ?_).trans ?_ | refine (foldl_sampler _ _ _ ?_).trans ?_ | refine (foldl_cells _ _ _ ?_).trans ?_ | refine (foldl_host _ _ _ ?_).trans ?_ | refine (foldl_sched _ _ _ ?_).trans ?_ | refine (foldl_flash _ _ _ ?_).trans ?_ | refine (foldl_store _ _ _ ?_).trans ?_ | refine (foldl_power _ _ _ ?_).trans ?_ | refine (foldl_mem _ _ _ ?_).trans ?_ | refine (foldl_cipher _ _ _ ?_).trans ?_ | refine (foldl_engines _ _ _ ?_).trans ?_ | refine (foldl_admin _ _ _ ?_).trans ?_ | refine (foldl_staing _ _ _ ?_).trans ?_ | refine (foldl_security _ _ _ ?_).trans ?_ | refine (foldl_migration _ _ _ ?_).trans ?_ | refine (foldl_pending _ _ _ ?_).trans ?_ | refine (foldl_now _ _ _ ?_).trans ?_ | refine (foldl_bootAt _ _ _ ?_).trans ?_ | refine (foldl_free _ _ _ ?_).trans ?_ | refine (foldl_out _ _ _ ?_).trans ?_ | refine (foldl_mem_dram _ _ _ ?_).trans ?_ | refine (foldl_engines_windows _ _ _ ?_).trans ?_) | (simp; done) | simp)

@[simp] theorem state_setShuttle_frame (s : State) (c : ShuttleId) (x : ShuttleSt) :
    (State.setShuttle s c x).dict = s.dict ∧ (State.setShuttle s c x).modes = s.modes ∧ (State.setShuttle s c x).sampler = s.sampler ∧ (State.setShuttle s c x).cells = s.cells ∧ (State.setShuttle s c x).host = s.host ∧ (State.setShuttle s c x).sched = s.sched ∧ (State.setShuttle s c x).flash = s.flash ∧ (State.setShuttle s c x).store = s.store ∧ (State.setShuttle s c x).power = s.power ∧ (State.setShuttle s c x).mem = s.mem ∧ (State.setShuttle s c x).cipher = s.cipher ∧ (State.setShuttle s c x).admin = s.admin ∧ (State.setShuttle s c x).staing = s.staing ∧ (State.setShuttle s c x).security = s.security ∧ (State.setShuttle s c x).migration = s.migration ∧ (State.setShuttle s c x).pending = s.pending ∧ (State.setShuttle s c x).now = s.now ∧ (State.setShuttle s c x).bootAt = s.bootAt ∧ (State.setShuttle s c x).free = s.free ∧ (State.setShuttle s c x).out = s.out ∧ (State.setShuttle s c x).engines.windows = s.engines.windows := by
  unfold State.setShuttle
  simp

@[simp] theorem state_shuttleRecord_frame (s : State) (c : ShuttleId) (index : Nat) (tag : Nat) :
    (State.shuttleRecord s c index tag).dict = s.dict ∧ (State.shuttleRecord s c index tag).modes = s.modes ∧ (State.shuttleRecord s c index tag).sampler = s.sampler ∧ (State.shuttleRecord s c index tag).cells = s.cells ∧ (State.shuttleRecord s c index tag).host = s.host ∧ (State.shuttleRecord s c index tag).sched = s.sched ∧ (State.shuttleRecord s c index tag).flash = s.flash ∧ (State.shuttleRecord s c index tag).store = s.store ∧ (State.shuttleRecord s c index tag).power = s.power ∧ (State.shuttleRecord s c index tag).mem = s.mem ∧ (State.shuttleRecord s c index tag).cipher = s.cipher ∧ (State.shuttleRecord s c index tag).admin = s.admin ∧ (State.shuttleRecord s c index tag).staing = s.staing ∧ (State.shuttleRecord s c index tag).security = s.security ∧ (State.shuttleRecord s c index tag).migration = s.migration ∧ (State.shuttleRecord s c index tag).pending = s.pending ∧ (State.shuttleRecord s c index tag).now = s.now ∧ (State.shuttleRecord s c index tag).bootAt = s.bootAt ∧ (State.shuttleRecord s c index tag).free = s.free ∧ (State.shuttleRecord s c index tag).engines.windows = s.engines.windows := by
  simp only [State.shuttleRecord]
  (repeat' split) <;> simp

@[simp] theorem state_haltShuttle_frame (s : State) (c : ShuttleId) (code : Nat) (index : Nat) :
    (State.haltShuttle s c code index).modes = s.modes ∧ (State.haltShuttle s c code index).sampler = s.sampler ∧ (State.haltShuttle s c code index).cells = s.cells ∧ (State.haltShuttle s c code index).host = s.host ∧ (State.haltShuttle s c code index).sched = s.sched ∧ (State.haltShuttle s c code index).flash = s.flash ∧ (State.haltShuttle s c code index).store = s.store ∧ (State.haltShuttle s c code index).power = s.power ∧ (State.haltShuttle s c code index).mem = s.mem ∧ (State.haltShuttle s c code index).cipher = s.cipher ∧ (State.haltShuttle s c code index).admin = s.admin ∧ (State.haltShuttle s c code index).staing = s.staing ∧ (State.haltShuttle s c code index).security = s.security ∧ (State.haltShuttle s c code index).migration = s.migration ∧ (State.haltShuttle s c code index).pending = s.pending ∧ (State.haltShuttle s c code index).now = s.now ∧ (State.haltShuttle s c code index).bootAt = s.bootAt ∧ (State.haltShuttle s c code index).free = s.free ∧ (State.haltShuttle s c code index).engines.windows = s.engines.windows := by
  unfold State.haltShuttle
  simp

@[simp] theorem state_landBytes_frame (s : State) (c : ShuttleId) (space : Nat) (address : Nat) (bs : List Byte) :
    (State.landBytes s c space address bs).dict = s.dict ∧ (State.landBytes s c space address bs).modes = s.modes ∧ (State.landBytes s c space address bs).sampler = s.sampler ∧ (State.landBytes s c space address bs).cells = s.cells ∧ (State.landBytes s c space address bs).host = s.host ∧ (State.landBytes s c space address bs).sched = s.sched ∧ (State.landBytes s c space address bs).flash = s.flash ∧ (State.landBytes s c space address bs).store = s.store ∧ (State.landBytes s c space address bs).power = s.power ∧ (State.landBytes s c space address bs).mem = s.mem ∧ (State.landBytes s c space address bs).cipher = s.cipher ∧ (State.landBytes s c space address bs).admin = s.admin ∧ (State.landBytes s c space address bs).staing = s.staing ∧ (State.landBytes s c space address bs).security = s.security ∧ (State.landBytes s c space address bs).migration = s.migration ∧ (State.landBytes s c space address bs).pending = s.pending ∧ (State.landBytes s c space address bs).now = s.now ∧ (State.landBytes s c space address bs).bootAt = s.bootAt ∧ (State.landBytes s c space address bs).free = s.free := by
  unfold State.landBytes
  simp

@[simp] theorem state_stageBytes_frame (s : State) (p : Port) (off : Nat) (n : Nat) :
    (State.stageBytes s p off n).dict = s.dict ∧ (State.stageBytes s p off n).modes = s.modes ∧ (State.stageBytes s p off n).sampler = s.sampler ∧ (State.stageBytes s p off n).cells = s.cells ∧ (State.stageBytes s p off n).host = s.host ∧ (State.stageBytes s p off n).sched = s.sched ∧ (State.stageBytes s p off n).flash = s.flash ∧ (State.stageBytes s p off n).store = s.store ∧ (State.stageBytes s p off n).power = s.power ∧ (State.stageBytes s p off n).mem = s.mem ∧ (State.stageBytes s p off n).cipher = s.cipher ∧ (State.stageBytes s p off n).engines = s.engines ∧ (State.stageBytes s p off n).staing = s.staing ∧ (State.stageBytes s p off n).security = s.security ∧ (State.stageBytes s p off n).migration = s.migration ∧ (State.stageBytes s p off n).pending = s.pending ∧ (State.stageBytes s p off n).now = s.now ∧ (State.stageBytes s p off n).bootAt = s.bootAt ∧ (State.stageBytes s p off n).free = s.free ∧ (State.stageBytes s p off n).out = s.out := by
  unfold State.stageBytes
  (repeat' split) <;> simp

@[simp] theorem state_moved_frame (s : State) (c : ShuttleId) (d : ShuttleDesc) (n : Nat) (host : List Byte) :
    (State.moved s c d n host).modes = s.modes ∧ (State.moved s c d n host).sampler = s.sampler ∧ (State.moved s c d n host).cells = s.cells ∧ (State.moved s c d n host).host = s.host ∧ (State.moved s c d n host).sched = s.sched ∧ (State.moved s c d n host).flash = s.flash ∧ (State.moved s c d n host).store = s.store ∧ (State.moved s c d n host).power = s.power ∧ (State.moved s c d n host).mem = s.mem ∧ (State.moved s c d n host).cipher = s.cipher ∧ (State.moved s c d n host).staing = s.staing ∧ (State.moved s c d n host).security = s.security ∧ (State.moved s c d n host).migration = s.migration ∧ (State.moved s c d n host).pending = s.pending ∧ (State.moved s c d n host).now = s.now ∧ (State.moved s c d n host).bootAt = s.bootAt ∧ (State.moved s c d n host).free = s.free := by
  unfold State.moved
  simp

@[simp] theorem state_pauseShuttles_frame (s : State) (on : Bool) :
    (State.pauseShuttles s on).modes = s.modes ∧ (State.pauseShuttles s on).cells = s.cells ∧ (State.pauseShuttles s on).power = s.power ∧ (State.pauseShuttles s on).mem = s.mem ∧ (State.pauseShuttles s on).admin = s.admin ∧ (State.pauseShuttles s on).staing = s.staing ∧ (State.pauseShuttles s on).security = s.security ∧ (State.pauseShuttles s on).migration = s.migration ∧ (State.pauseShuttles s on).pending = s.pending ∧ (State.pauseShuttles s on).now = s.now ∧ (State.pauseShuttles s on).bootAt = s.bootAt ∧ (State.pauseShuttles s on).free = s.free ∧ (State.pauseShuttles s on).engines.windows = s.engines.windows := by
  unfold State.pauseShuttles
  simp

@[simp] theorem state_presenceDone_frame (s : State) :
    (State.presenceDone s).modes = s.modes ∧ (State.presenceDone s).sampler = s.sampler ∧ (State.presenceDone s).cells = s.cells ∧ (State.presenceDone s).host = s.host ∧ (State.presenceDone s).sched = s.sched ∧ (State.presenceDone s).flash = s.flash ∧ (State.presenceDone s).store = s.store ∧ (State.presenceDone s).power = s.power ∧ (State.presenceDone s).mem = s.mem ∧ (State.presenceDone s).cipher = s.cipher ∧ (State.presenceDone s).engines = s.engines ∧ (State.presenceDone s).admin = s.admin ∧ (State.presenceDone s).staing = s.staing ∧ (State.presenceDone s).security = s.security ∧ (State.presenceDone s).migration = s.migration ∧ (State.presenceDone s).pending = s.pending ∧ (State.presenceDone s).now = s.now ∧ (State.presenceDone s).bootAt = s.bootAt ∧ (State.presenceDone s).free = s.free ∧ (State.presenceDone s).out = s.out := by
  unfold State.presenceDone
  simp

@[simp] theorem state_stageImage_frame (s : State) (p : Port) (offset : Nat) (bytes : Nat) (header : Option ImageHeader) :
    (State.stageImage s p offset bytes header).dict = s.dict ∧ (State.stageImage s p offset bytes header).modes = s.modes ∧ (State.stageImage s p offset bytes header).sampler = s.sampler ∧ (State.stageImage s p offset bytes header).cells = s.cells ∧ (State.stageImage s p offset bytes header).host = s.host ∧ (State.stageImage s p offset bytes header).sched = s.sched ∧ (State.stageImage s p offset bytes header).flash = s.flash ∧ (State.stageImage s p offset bytes header).store = s.store ∧ (State.stageImage s p offset bytes header).power = s.power ∧ (State.stageImage s p offset bytes header).mem = s.mem ∧ (State.stageImage s p offset bytes header).cipher = s.cipher ∧ (State.stageImage s p offset bytes header).staing = s.staing ∧ (State.stageImage s p offset bytes header).security = s.security ∧ (State.stageImage s p offset bytes header).migration = s.migration ∧ (State.stageImage s p offset bytes header).pending = s.pending ∧ (State.stageImage s p offset bytes header).now = s.now ∧ (State.stageImage s p offset bytes header).bootAt = s.bootAt ∧ (State.stageImage s p offset bytes header).free = s.free ∧ (State.stageImage s p offset bytes header).out = s.out := by
  unfold State.stageImage
  (repeat' split) <;> simp

@[simp] theorem state_refuseImage_frame (s : State) (check : Nat) (slot : Nat) :
    (State.refuseImage s check slot).modes = s.modes ∧ (State.refuseImage s check slot).cells = s.cells ∧ (State.refuseImage s check slot).host = s.host ∧ (State.refuseImage s check slot).sched = s.sched ∧ (State.refuseImage s check slot).flash = s.flash ∧ (State.refuseImage s check slot).store = s.store ∧ (State.refuseImage s check slot).power = s.power ∧ (State.refuseImage s check slot).mem = s.mem ∧ (State.refuseImage s check slot).cipher = s.cipher ∧ (State.refuseImage s check slot).engines = s.engines ∧ (State.refuseImage s check slot).admin = s.admin ∧ (State.refuseImage s check slot).staing = s.staing ∧ (State.refuseImage s check slot).security = s.security ∧ (State.refuseImage s check slot).migration = s.migration ∧ (State.refuseImage s check slot).pending = s.pending ∧ (State.refuseImage s check slot).now = s.now ∧ (State.refuseImage s check slot).bootAt = s.bootAt ∧ (State.refuseImage s check slot).free = s.free ∧ (State.refuseImage s check slot).out = s.out := by
  unfold State.refuseImage
  simp

@[simp] theorem state_fillSlot_frame (s : State) (slot : Nat) (i : ImageHeader) :
    (State.fillSlot s slot i).modes = s.modes ∧ (State.fillSlot s slot i).sampler = s.sampler ∧ (State.fillSlot s slot i).cells = s.cells ∧ (State.fillSlot s slot i).host = s.host ∧ (State.fillSlot s slot i).sched = s.sched ∧ (State.fillSlot s slot i).flash = s.flash ∧ (State.fillSlot s slot i).store = s.store ∧ (State.fillSlot s slot i).power = s.power ∧ (State.fillSlot s slot i).mem = s.mem ∧ (State.fillSlot s slot i).cipher = s.cipher ∧ (State.fillSlot s slot i).engines = s.engines ∧ (State.fillSlot s slot i).staing = s.staing ∧ (State.fillSlot s slot i).migration = s.migration ∧ (State.fillSlot s slot i).pending = s.pending ∧ (State.fillSlot s slot i).now = s.now ∧ (State.fillSlot s slot i).bootAt = s.bootAt ∧ (State.fillSlot s slot i).free = s.free ∧ (State.fillSlot s slot i).out = s.out := by
  unfold State.fillSlot
  simp

@[simp] theorem state_armReset_frame (s : State) (slot : Nat) :
    (State.armReset s slot).dict = s.dict ∧ (State.armReset s slot).modes = s.modes ∧ (State.armReset s slot).sampler = s.sampler ∧ (State.armReset s slot).cells = s.cells ∧ (State.armReset s slot).host = s.host ∧ (State.armReset s slot).sched = s.sched ∧ (State.armReset s slot).flash = s.flash ∧ (State.armReset s slot).store = s.store ∧ (State.armReset s slot).power = s.power ∧ (State.armReset s slot).mem = s.mem ∧ (State.armReset s slot).cipher = s.cipher ∧ (State.armReset s slot).engines = s.engines ∧ (State.armReset s slot).staing = s.staing ∧ (State.armReset s slot).security = s.security ∧ (State.armReset s slot).migration = s.migration ∧ (State.armReset s slot).pending = s.pending ∧ (State.armReset s slot).now = s.now ∧ (State.armReset s slot).bootAt = s.bootAt ∧ (State.armReset s slot).free = s.free ∧ (State.armReset s slot).out = s.out := by
  unfold State.armReset
  simp

@[simp] theorem state_romRestart_frame (s : State) (h : Hdr) (slot : Nat) :
    (State.romRestart s h slot).cells = s.cells ∧ (State.romRestart s h slot).sched = s.sched ∧ (State.romRestart s h slot).flash = s.flash ∧ (State.romRestart s h slot).cipher = s.cipher ∧ (State.romRestart s h slot).staing = s.staing ∧ (State.romRestart s h slot).pending = s.pending ∧ (State.romRestart s h slot).now = s.now ∧ (State.romRestart s h slot).bootAt = s.bootAt ∧ (State.romRestart s h slot).free = s.free ∧ (State.romRestart s h slot).out = s.out ∧ (State.romRestart s h slot).mem.dram = s.mem.dram := by
  unfold State.romRestart
  simp

@[simp] theorem state_startPause_frame (s : State) :
    (State.startPause s).modes = s.modes ∧ (State.startPause s).cells = s.cells ∧ (State.startPause s).power = s.power ∧ (State.startPause s).mem = s.mem ∧ (State.startPause s).staing = s.staing ∧ (State.startPause s).security = s.security ∧ (State.startPause s).migration = s.migration ∧ (State.startPause s).pending = s.pending ∧ (State.startPause s).now = s.now ∧ (State.startPause s).bootAt = s.bootAt ∧ (State.startPause s).free = s.free ∧ (State.startPause s).engines.windows = s.engines.windows := by
  unfold State.startPause
  simp

@[simp] theorem state_startDeferredSwitch_frame (s : State) :
    (State.startDeferredSwitch s).modes = s.modes ∧ (State.startDeferredSwitch s).cells = s.cells ∧ (State.startDeferredSwitch s).power = s.power ∧ (State.startDeferredSwitch s).mem = s.mem ∧ (State.startDeferredSwitch s).staing = s.staing ∧ (State.startDeferredSwitch s).security = s.security ∧ (State.startDeferredSwitch s).migration = s.migration ∧ (State.startDeferredSwitch s).pending = s.pending ∧ (State.startDeferredSwitch s).now = s.now ∧ (State.startDeferredSwitch s).bootAt = s.bootAt ∧ (State.startDeferredSwitch s).free = s.free ∧ (State.startDeferredSwitch s).engines.windows = s.engines.windows := by
  unfold State.startDeferredSwitch
  (repeat' split) <;> simp

@[simp] theorem state_endPause_frame (s : State) :
    (State.endPause s).modes = s.modes ∧ (State.endPause s).cells = s.cells ∧ (State.endPause s).power = s.power ∧ (State.endPause s).mem = s.mem ∧ (State.endPause s).staing = s.staing ∧ (State.endPause s).security = s.security ∧ (State.endPause s).migration = s.migration ∧ (State.endPause s).pending = s.pending ∧ (State.endPause s).now = s.now ∧ (State.endPause s).bootAt = s.bootAt ∧ (State.endPause s).free = s.free ∧ (State.endPause s).engines.windows = s.engines.windows := by
  simp only [State.endPause]
  (repeat' split) <;> simp

@[simp] theorem state_fenceFrozen_frame (s : State) :
    (State.fenceFrozen s).cells = s.cells ∧ (State.fenceFrozen s).sched = s.sched ∧ (State.fenceFrozen s).flash = s.flash ∧ (State.fenceFrozen s).power = s.power ∧ (State.fenceFrozen s).mem = s.mem ∧ (State.fenceFrozen s).cipher = s.cipher ∧ (State.fenceFrozen s).staing = s.staing ∧ (State.fenceFrozen s).security = s.security ∧ (State.fenceFrozen s).pending = s.pending ∧ (State.fenceFrozen s).now = s.now ∧ (State.fenceFrozen s).bootAt = s.bootAt ∧ (State.fenceFrozen s).free = s.free ∧ (State.fenceFrozen s).out = s.out := by
  unfold State.fenceFrozen
  simp (disch := (intros; (repeat' split) <;> simp))

@[simp] theorem state_endFreezes_frame (s : State) :
    (State.endFreezes s).modes = s.modes ∧ (State.endFreezes s).sampler = s.sampler ∧ (State.endFreezes s).cells = s.cells ∧ (State.endFreezes s).sched = s.sched ∧ (State.endFreezes s).flash = s.flash ∧ (State.endFreezes s).store = s.store ∧ (State.endFreezes s).power = s.power ∧ (State.endFreezes s).mem = s.mem ∧ (State.endFreezes s).cipher = s.cipher ∧ (State.endFreezes s).engines = s.engines ∧ (State.endFreezes s).admin = s.admin ∧ (State.endFreezes s).staing = s.staing ∧ (State.endFreezes s).security = s.security ∧ (State.endFreezes s).pending = s.pending ∧ (State.endFreezes s).now = s.now ∧ (State.endFreezes s).bootAt = s.bootAt ∧ (State.endFreezes s).free = s.free ∧ (State.endFreezes s).out = s.out := by
  unfold State.endFreezes
  simp (disch := (intros; (repeat' split) <;> simp))

@[simp] theorem state_dropDarning_frame (s : State) :
    (State.dropDarning s).modes = s.modes ∧ (State.dropDarning s).sampler = s.sampler ∧ (State.dropDarning s).cells = s.cells ∧ (State.dropDarning s).host = s.host ∧ (State.dropDarning s).sched = s.sched ∧ (State.dropDarning s).flash = s.flash ∧ (State.dropDarning s).power = s.power ∧ (State.dropDarning s).mem = s.mem ∧ (State.dropDarning s).cipher = s.cipher ∧ (State.dropDarning s).engines = s.engines ∧ (State.dropDarning s).admin = s.admin ∧ (State.dropDarning s).staing = s.staing ∧ (State.dropDarning s).security = s.security ∧ (State.dropDarning s).migration = s.migration ∧ (State.dropDarning s).pending = s.pending ∧ (State.dropDarning s).now = s.now ∧ (State.dropDarning s).bootAt = s.bootAt ∧ (State.dropDarning s).free = s.free ∧ (State.dropDarning s).out = s.out := by
  unfold State.dropDarning
  simp

@[simp] theorem state_giveUpAll_frame (s : State) (secure : Bool) :
    (State.giveUpAll s secure).modes = s.modes ∧ (State.giveUpAll s secure).sampler = s.sampler ∧ (State.giveUpAll s secure).cells = s.cells ∧ (State.giveUpAll s secure).host = s.host ∧ (State.giveUpAll s secure).sched = s.sched ∧ (State.giveUpAll s secure).flash = s.flash ∧ (State.giveUpAll s secure).power = s.power ∧ (State.giveUpAll s secure).mem = s.mem ∧ (State.giveUpAll s secure).cipher = s.cipher ∧ (State.giveUpAll s secure).engines = s.engines ∧ (State.giveUpAll s secure).admin = s.admin ∧ (State.giveUpAll s secure).staing = s.staing ∧ (State.giveUpAll s secure).security = s.security ∧ (State.giveUpAll s secure).migration = s.migration ∧ (State.giveUpAll s secure).pending = s.pending ∧ (State.giveUpAll s secure).now = s.now ∧ (State.giveUpAll s secure).bootAt = s.bootAt ∧ (State.giveUpAll s secure).free = s.free ∧ (State.giveUpAll s secure).out = s.out := by
  unfold State.giveUpAll
  simp

@[simp] theorem state_eraseAll_frame (s : State) :
    (State.eraseAll s).dict = s.dict ∧ (State.eraseAll s).modes = s.modes ∧ (State.eraseAll s).sampler = s.sampler ∧ (State.eraseAll s).cells = s.cells ∧ (State.eraseAll s).host = s.host ∧ (State.eraseAll s).sched = s.sched ∧ (State.eraseAll s).flash = s.flash ∧ (State.eraseAll s).power = s.power ∧ (State.eraseAll s).mem = s.mem ∧ (State.eraseAll s).cipher = s.cipher ∧ (State.eraseAll s).engines = s.engines ∧ (State.eraseAll s).admin = s.admin ∧ (State.eraseAll s).staing = s.staing ∧ (State.eraseAll s).security = s.security ∧ (State.eraseAll s).migration = s.migration ∧ (State.eraseAll s).pending = s.pending ∧ (State.eraseAll s).now = s.now ∧ (State.eraseAll s).bootAt = s.bootAt ∧ (State.eraseAll s).free = s.free ∧ (State.eraseAll s).out = s.out := by
  unfold State.eraseAll
  simp

@[simp] theorem state_sweepStripes_frame (s : State) :
    (State.sweepStripes s).modes = s.modes ∧ (State.sweepStripes s).sampler = s.sampler ∧ (State.sweepStripes s).cells = s.cells ∧ (State.sweepStripes s).host = s.host ∧ (State.sweepStripes s).sched = s.sched ∧ (State.sweepStripes s).flash = s.flash ∧ (State.sweepStripes s).power = s.power ∧ (State.sweepStripes s).mem = s.mem ∧ (State.sweepStripes s).cipher = s.cipher ∧ (State.sweepStripes s).engines = s.engines ∧ (State.sweepStripes s).staing = s.staing ∧ (State.sweepStripes s).migration = s.migration ∧ (State.sweepStripes s).pending = s.pending ∧ (State.sweepStripes s).now = s.now ∧ (State.sweepStripes s).bootAt = s.bootAt ∧ (State.sweepStripes s).free = s.free ∧ (State.sweepStripes s).out = s.out := by
  unfold State.sweepStripes
  (repeat' split) <;> simp

@[simp] theorem state_settleSanitize_frame (s : State) :
    (State.settleSanitize s).modes = s.modes ∧ (State.settleSanitize s).sampler = s.sampler ∧ (State.settleSanitize s).sched = s.sched ∧ (State.settleSanitize s).power = s.power ∧ (State.settleSanitize s).mem = s.mem ∧ (State.settleSanitize s).engines = s.engines ∧ (State.settleSanitize s).staing = s.staing ∧ (State.settleSanitize s).pending = s.pending ∧ (State.settleSanitize s).now = s.now ∧ (State.settleSanitize s).bootAt = s.bootAt ∧ (State.settleSanitize s).free = s.free ∧ (State.settleSanitize s).out = s.out := by
  unfold State.settleSanitize
  and_intros
  all_goals (repeat' first | rfl | assumption | (intros; trivial) | (dsimp only; done) | (intro _) | split | (first | refine (foldl_dict _ _ _ ?_).trans ?_ | refine (foldl_modes _ _ _ ?_).trans ?_ | refine (foldl_sampler _ _ _ ?_).trans ?_ | refine (foldl_cells _ _ _ ?_).trans ?_ | refine (foldl_host _ _ _ ?_).trans ?_ | refine (foldl_sched _ _ _ ?_).trans ?_ | refine (foldl_flash _ _ _ ?_).trans ?_ | refine (foldl_store _ _ _ ?_).trans ?_ | refine (foldl_power _ _ _ ?_).trans ?_ | refine (foldl_mem _ _ _ ?_).trans ?_ | refine (foldl_cipher _ _ _ ?_).trans ?_ | refine (foldl_engines _ _ _ ?_).trans ?_ | refine (foldl_admin _ _ _ ?_).trans ?_ | refine (foldl_staing _ _ _ ?_).trans ?_ | refine (foldl_security _ _ _ ?_).trans ?_ | refine (foldl_migration _ _ _ ?_).trans ?_ | refine (foldl_pending _ _ _ ?_).trans ?_ | refine (foldl_now _ _ _ ?_).trans ?_ | refine (foldl_bootAt _ _ _ ?_).trans ?_ | refine (foldl_free _ _ _ ?_).trans ?_ | refine (foldl_out _ _ _ ?_).trans ?_ | refine (foldl_mem_dram _ _ _ ?_).trans ?_ | refine (foldl_engines_windows _ _ _ ?_).trans ?_) | (simp; done) | simp)

@[simp] theorem state_startSanitize_frame (s : State) (action : Nat) (abort : Bool) (own : Bool) (ause : Bool) :
    (State.startSanitize s action abort own ause).power = s.power ∧ (State.startSanitize s action abort own ause).staing = s.staing ∧ (State.startSanitize s action abort own ause).pending = s.pending ∧ (State.startSanitize s action abort own ause).now = s.now ∧ (State.startSanitize s action abort own ause).bootAt = s.bootAt ∧ (State.startSanitize s action abort own ause).free = s.free ∧ (State.startSanitize s action abort own ause).mem.dram = s.mem.dram := by
  simp only [State.startSanitize]
  (repeat' split) <;> simp

@[simp] theorem state_pageRead_frame (s : State) (f : Func) (lid : Nat) (nsid : Nat) :
    (State.pageRead s f lid nsid).dict = s.dict ∧ (State.pageRead s f lid nsid).modes = s.modes ∧ (State.pageRead s f lid nsid).sampler = s.sampler ∧ (State.pageRead s f lid nsid).cells = s.cells ∧ (State.pageRead s f lid nsid).host = s.host ∧ (State.pageRead s f lid nsid).sched = s.sched ∧ (State.pageRead s f lid nsid).flash = s.flash ∧ (State.pageRead s f lid nsid).store = s.store ∧ (State.pageRead s f lid nsid).power = s.power ∧ (State.pageRead s f lid nsid).mem = s.mem ∧ (State.pageRead s f lid nsid).cipher = s.cipher ∧ (State.pageRead s f lid nsid).engines = s.engines ∧ (State.pageRead s f lid nsid).staing = s.staing ∧ (State.pageRead s f lid nsid).security = s.security ∧ (State.pageRead s f lid nsid).migration = s.migration ∧ (State.pageRead s f lid nsid).pending = s.pending ∧ (State.pageRead s f lid nsid).now = s.now ∧ (State.pageRead s f lid nsid).bootAt = s.bootAt ∧ (State.pageRead s f lid nsid).free = s.free ∧ (State.pageRead s f lid nsid).out = s.out := by
  unfold State.pageRead
  simp

theorem state_setTracking_some (s : State) (n : Nat) (on : Bool) :
    ∀ got, State.setTracking s n on = some got → got.dict = s.dict ∧ got.modes = s.modes ∧ got.sampler = s.sampler ∧ got.cells = s.cells ∧ got.host = s.host ∧ got.sched = s.sched ∧ got.flash = s.flash ∧ got.store = s.store ∧ got.power = s.power ∧ got.mem = s.mem ∧ got.cipher = s.cipher ∧ got.engines = s.engines ∧ got.admin = s.admin ∧ got.staing = s.staing ∧ got.security = s.security ∧ got.pending = s.pending ∧ got.now = s.now ∧ got.bootAt = s.bootAt ∧ got.free = s.free ∧ got.out = s.out := by
  intro got h
  unfold State.setTracking at h
  dsimp only at h
  split at h
  · split at h
    · cases h
    · split at h
      · cases h
      · cases h; simp
  · split at h <;> cases h <;> simp

@[simp] theorem state_takeDirty_frame (s : State) (n : Nat) :
    (State.takeDirty s n).2.modes = s.modes ∧ (State.takeDirty s n).2.sampler = s.sampler ∧ (State.takeDirty s n).2.cells = s.cells ∧ (State.takeDirty s n).2.host = s.host ∧ (State.takeDirty s n).2.sched = s.sched ∧ (State.takeDirty s n).2.flash = s.flash ∧ (State.takeDirty s n).2.store = s.store ∧ (State.takeDirty s n).2.power = s.power ∧ (State.takeDirty s n).2.mem = s.mem ∧ (State.takeDirty s n).2.cipher = s.cipher ∧ (State.takeDirty s n).2.engines = s.engines ∧ (State.takeDirty s n).2.admin = s.admin ∧ (State.takeDirty s n).2.staing = s.staing ∧ (State.takeDirty s n).2.security = s.security ∧ (State.takeDirty s n).2.pending = s.pending ∧ (State.takeDirty s n).2.now = s.now ∧ (State.takeDirty s n).2.bootAt = s.bootAt ∧ (State.takeDirty s n).2.free = s.free ∧ (State.takeDirty s n).2.out = s.out := by
  unfold State.takeDirty
  (repeat' split) <;> simp

@[simp] theorem state_clearKeys_frame (s : State) :
    (State.clearKeys s).modes = s.modes ∧ (State.clearKeys s).sampler = s.sampler ∧ (State.clearKeys s).host = s.host ∧ (State.clearKeys s).sched = s.sched ∧ (State.clearKeys s).flash = s.flash ∧ (State.clearKeys s).store = s.store ∧ (State.clearKeys s).power = s.power ∧ (State.clearKeys s).mem = s.mem ∧ (State.clearKeys s).admin = s.admin ∧ (State.clearKeys s).staing = s.staing ∧ (State.clearKeys s).migration = s.migration ∧ (State.clearKeys s).pending = s.pending ∧ (State.clearKeys s).now = s.now ∧ (State.clearKeys s).bootAt = s.bootAt ∧ (State.clearKeys s).free = s.free ∧ (State.clearKeys s).out = s.out ∧ (State.clearKeys s).engines.windows = s.engines.windows := by
  unfold State.clearKeys
  simp

@[simp] theorem state_drain_frame (s : State) :
    (State.drain s).modes = s.modes ∧ (State.drain s).cells = s.cells ∧ (State.drain s).host = s.host ∧ (State.drain s).power = s.power ∧ (State.drain s).mem = s.mem ∧ (State.drain s).engines = s.engines ∧ (State.drain s).admin = s.admin ∧ (State.drain s).staing = s.staing ∧ (State.drain s).security = s.security ∧ (State.drain s).migration = s.migration ∧ (State.drain s).pending = s.pending ∧ (State.drain s).now = s.now ∧ (State.drain s).bootAt = s.bootAt ∧ (State.drain s).free = s.free ∧ (State.drain s).out = s.out := by
  unfold State.drain
  simp (disch := (intros; (repeat' split) <;> simp))

@[simp] theorem state_settleClearing_frame (s : State) :
    (State.settleClearing s).modes = s.modes ∧ (State.settleClearing s).host = s.host ∧ (State.settleClearing s).power = s.power ∧ (State.settleClearing s).mem = s.mem ∧ (State.settleClearing s).admin = s.admin ∧ (State.settleClearing s).staing = s.staing ∧ (State.settleClearing s).migration = s.migration ∧ (State.settleClearing s).pending = s.pending ∧ (State.settleClearing s).now = s.now ∧ (State.settleClearing s).bootAt = s.bootAt ∧ (State.settleClearing s).free = s.free ∧ (State.settleClearing s).out = s.out ∧ (State.settleClearing s).engines.windows = s.engines.windows := by
  simp only [State.settleClearing]
  (repeat' split) <;> simp

@[simp] theorem state_cryptoHalt_frame (s : State) (c : HaltCause) :
    (State.cryptoHalt s c).power = s.power ∧ (State.cryptoHalt s c).mem = s.mem ∧ (State.cryptoHalt s c).staing = s.staing ∧ (State.cryptoHalt s c).pending = s.pending ∧ (State.cryptoHalt s c).now = s.now ∧ (State.cryptoHalt s c).bootAt = s.bootAt ∧ (State.cryptoHalt s c).free = s.free ∧ (State.cryptoHalt s c).out = s.out := by
  unfold State.cryptoHalt
  simp

@[simp] theorem state_burnRoot_frame (s : State) :
    (State.burnRoot s).modes = s.modes ∧ (State.burnRoot s).sampler = s.sampler ∧ (State.burnRoot s).cells = s.cells ∧ (State.burnRoot s).host = s.host ∧ (State.burnRoot s).sched = s.sched ∧ (State.burnRoot s).flash = s.flash ∧ (State.burnRoot s).store = s.store ∧ (State.burnRoot s).power = s.power ∧ (State.burnRoot s).mem = s.mem ∧ (State.burnRoot s).engines = s.engines ∧ (State.burnRoot s).admin = s.admin ∧ (State.burnRoot s).staing = s.staing ∧ (State.burnRoot s).migration = s.migration ∧ (State.burnRoot s).pending = s.pending ∧ (State.burnRoot s).now = s.now ∧ (State.burnRoot s).bootAt = s.bootAt ∧ (State.burnRoot s).free = s.free ∧ (State.burnRoot s).out = s.out := by
  unfold State.burnRoot
  simp

@[simp] theorem state_releaseDirty_frame (s : State) :
    (State.releaseDirty s).modes = s.modes ∧ (State.releaseDirty s).sampler = s.sampler ∧ (State.releaseDirty s).cells = s.cells ∧ (State.releaseDirty s).host = s.host ∧ (State.releaseDirty s).sched = s.sched ∧ (State.releaseDirty s).power = s.power ∧ (State.releaseDirty s).mem = s.mem ∧ (State.releaseDirty s).cipher = s.cipher ∧ (State.releaseDirty s).engines = s.engines ∧ (State.releaseDirty s).admin = s.admin ∧ (State.releaseDirty s).staing = s.staing ∧ (State.releaseDirty s).security = s.security ∧ (State.releaseDirty s).migration = s.migration ∧ (State.releaseDirty s).pending = s.pending ∧ (State.releaseDirty s).now = s.now ∧ (State.releaseDirty s).bootAt = s.bootAt ∧ (State.releaseDirty s).free = s.free ∧ (State.releaseDirty s).out = s.out := by
  unfold State.releaseDirty
  simp (disch := (intros; (repeat' split) <;> simp))

@[simp] theorem state_zeroise_frame (s : State) :
    (State.zeroise s).staing = s.staing ∧ (State.zeroise s).pending = s.pending ∧ (State.zeroise s).now = s.now ∧ (State.zeroise s).bootAt = s.bootAt ∧ (State.zeroise s).free = s.free ∧ (State.zeroise s).mem.dram = s.mem.dram := by
  unfold State.zeroise
  (repeat' split) <;> simp

@[simp] theorem state_closeWindow_frame (s : State) :
    (State.closeWindow s).dict = s.dict ∧ (State.closeWindow s).modes = s.modes ∧ (State.closeWindow s).sampler = s.sampler ∧ (State.closeWindow s).cells = s.cells ∧ (State.closeWindow s).host = s.host ∧ (State.closeWindow s).sched = s.sched ∧ (State.closeWindow s).flash = s.flash ∧ (State.closeWindow s).store = s.store ∧ (State.closeWindow s).power = s.power ∧ (State.closeWindow s).mem = s.mem ∧ (State.closeWindow s).cipher = s.cipher ∧ (State.closeWindow s).engines = s.engines ∧ (State.closeWindow s).admin = s.admin ∧ (State.closeWindow s).staing = s.staing ∧ (State.closeWindow s).migration = s.migration ∧ (State.closeWindow s).pending = s.pending ∧ (State.closeWindow s).now = s.now ∧ (State.closeWindow s).bootAt = s.bootAt ∧ (State.closeWindow s).free = s.free ∧ (State.closeWindow s).out = s.out := by
  unfold State.closeWindow
  simp

@[simp] theorem state_sealBreak_frame (s : State) :
    (State.sealBreak s).staing = s.staing ∧ (State.sealBreak s).pending = s.pending ∧ (State.sealBreak s).now = s.now ∧ (State.sealBreak s).bootAt = s.bootAt ∧ (State.sealBreak s).free = s.free ∧ (State.sealBreak s).mem.dram = s.mem.dram := by
  simp only [State.sealBreak]
  (repeat' split) <;> simp

@[simp] theorem state_presenceReport_frame (s : State) (old : LoopSt) :
    (State.presenceReport s old).modes = s.modes ∧ (State.presenceReport s old).sampler = s.sampler ∧ (State.presenceReport s old).cells = s.cells ∧ (State.presenceReport s old).host = s.host ∧ (State.presenceReport s old).sched = s.sched ∧ (State.presenceReport s old).flash = s.flash ∧ (State.presenceReport s old).store = s.store ∧ (State.presenceReport s old).power = s.power ∧ (State.presenceReport s old).mem = s.mem ∧ (State.presenceReport s old).cipher = s.cipher ∧ (State.presenceReport s old).engines = s.engines ∧ (State.presenceReport s old).admin = s.admin ∧ (State.presenceReport s old).staing = s.staing ∧ (State.presenceReport s old).migration = s.migration ∧ (State.presenceReport s old).pending = s.pending ∧ (State.presenceReport s old).now = s.now ∧ (State.presenceReport s old).bootAt = s.bootAt ∧ (State.presenceReport s old).free = s.free ∧ (State.presenceReport s old).out = s.out := by
  unfold State.presenceReport
  simp

@[simp] theorem state_readRow_frame (s : State) (acc : Accessor) (inForce : Bool) (r : ObjRow) (i : Nat) (j : Nat) :
    (State.readRow s acc inForce r i j).2.2.cells = s.cells ∧ (State.readRow s acc inForce r i j).2.2.host = s.host ∧ (State.readRow s acc inForce r i j).2.2.flash = s.flash ∧ (State.readRow s acc inForce r i j).2.2.store = s.store ∧ (State.readRow s acc inForce r i j).2.2.power = s.power ∧ (State.readRow s acc inForce r i j).2.2.mem = s.mem ∧ (State.readRow s acc inForce r i j).2.2.cipher = s.cipher ∧ (State.readRow s acc inForce r i j).2.2.engines = s.engines ∧ (State.readRow s acc inForce r i j).2.2.admin = s.admin ∧ (State.readRow s acc inForce r i j).2.2.staing = s.staing ∧ (State.readRow s acc inForce r i j).2.2.security = s.security ∧ (State.readRow s acc inForce r i j).2.2.pending = s.pending ∧ (State.readRow s acc inForce r i j).2.2.now = s.now ∧ (State.readRow s acc inForce r i j).2.2.bootAt = s.bootAt ∧ (State.readRow s acc inForce r i j).2.2.free = s.free ∧ (State.readRow s acc inForce r i j).2.2.out = s.out := by
  unfold State.readRow
  (repeat' split) <;> simp

@[simp] theorem state_readObject_frame (s : State) (acc : Accessor) (inForce : Bool) (index : Nat) (sub : Nat) :
    (State.readObject s acc inForce index sub).2.cells = s.cells ∧ (State.readObject s acc inForce index sub).2.host = s.host ∧ (State.readObject s acc inForce index sub).2.flash = s.flash ∧ (State.readObject s acc inForce index sub).2.store = s.store ∧ (State.readObject s acc inForce index sub).2.power = s.power ∧ (State.readObject s acc inForce index sub).2.mem = s.mem ∧ (State.readObject s acc inForce index sub).2.cipher = s.cipher ∧ (State.readObject s acc inForce index sub).2.engines = s.engines ∧ (State.readObject s acc inForce index sub).2.admin = s.admin ∧ (State.readObject s acc inForce index sub).2.staing = s.staing ∧ (State.readObject s acc inForce index sub).2.security = s.security ∧ (State.readObject s acc inForce index sub).2.pending = s.pending ∧ (State.readObject s acc inForce index sub).2.now = s.now ∧ (State.readObject s acc inForce index sub).2.bootAt = s.bootAt ∧ (State.readObject s acc inForce index sub).2.free = s.free ∧ (State.readObject s acc inForce index sub).2.out = s.out := by
  unfold State.readObject
  (repeat' split) <;> simp

@[simp] theorem state_readMany_frame (s : State) (acc : Accessor) (room : Nat) (y0 : List ReadReq) :
    (State.readMany s acc room y0).2.cells = s.cells ∧ (State.readMany s acc room y0).2.host = s.host ∧ (State.readMany s acc room y0).2.flash = s.flash ∧ (State.readMany s acc room y0).2.store = s.store ∧ (State.readMany s acc room y0).2.power = s.power ∧ (State.readMany s acc room y0).2.mem = s.mem ∧ (State.readMany s acc room y0).2.cipher = s.cipher ∧ (State.readMany s acc room y0).2.engines = s.engines ∧ (State.readMany s acc room y0).2.admin = s.admin ∧ (State.readMany s acc room y0).2.staing = s.staing ∧ (State.readMany s acc room y0).2.security = s.security ∧ (State.readMany s acc room y0).2.pending = s.pending ∧ (State.readMany s acc room y0).2.now = s.now ∧ (State.readMany s acc room y0).2.bootAt = s.bootAt ∧ (State.readMany s acc room y0).2.free = s.free ∧ (State.readMany s acc room y0).2.out = s.out := by
  induction y0 generalizing s acc room <;> (unfold State.readMany; grind [state_readObject_frame])

@[simp] theorem state_withSet_frame (s : State) (set : Tbl Nat) :
    (State.withSet s set).modes = s.modes ∧ (State.withSet s set).sampler = s.sampler ∧ (State.withSet s set).cells = s.cells ∧ (State.withSet s set).host = s.host ∧ (State.withSet s set).sched = s.sched ∧ (State.withSet s set).flash = s.flash ∧ (State.withSet s set).store = s.store ∧ (State.withSet s set).power = s.power ∧ (State.withSet s set).mem = s.mem ∧ (State.withSet s set).cipher = s.cipher ∧ (State.withSet s set).engines = s.engines ∧ (State.withSet s set).admin = s.admin ∧ (State.withSet s set).staing = s.staing ∧ (State.withSet s set).security = s.security ∧ (State.withSet s set).migration = s.migration ∧ (State.withSet s set).pending = s.pending ∧ (State.withSet s set).now = s.now ∧ (State.withSet s set).bootAt = s.bootAt ∧ (State.withSet s set).free = s.free ∧ (State.withSet s set).out = s.out := by
  unfold State.withSet
  simp

@[simp] theorem state_acceptSet_frame (s : State) (set : Tbl Nat) :
    (State.acceptSet s set).modes = s.modes ∧ (State.acceptSet s set).sched = s.sched ∧ (State.acceptSet s set).flash = s.flash ∧ (State.acceptSet s set).store = s.store ∧ (State.acceptSet s set).power = s.power ∧ (State.acceptSet s set).mem = s.mem ∧ (State.acceptSet s set).admin = s.admin ∧ (State.acceptSet s set).staing = s.staing ∧ (State.acceptSet s set).security = s.security ∧ (State.acceptSet s set).migration = s.migration ∧ (State.acceptSet s set).pending = s.pending ∧ (State.acceptSet s set).now = s.now ∧ (State.acceptSet s set).bootAt = s.bootAt ∧ (State.acceptSet s set).free = s.free ∧ (State.acceptSet s set).out = s.out ∧ (State.acceptSet s set).engines.windows = s.engines.windows := by
  unfold State.acceptSet
  simp

@[simp] theorem state_commitSet_frame (s : State) (acc : Accessor) (cellFails : List (Fin 96)) :
    (State.commitSet s acc cellFails).2.modes = s.modes ∧ (State.commitSet s acc cellFails).2.sched = s.sched ∧ (State.commitSet s acc cellFails).2.flash = s.flash ∧ (State.commitSet s acc cellFails).2.store = s.store ∧ (State.commitSet s acc cellFails).2.power = s.power ∧ (State.commitSet s acc cellFails).2.mem = s.mem ∧ (State.commitSet s acc cellFails).2.admin = s.admin ∧ (State.commitSet s acc cellFails).2.staing = s.staing ∧ (State.commitSet s acc cellFails).2.security = s.security ∧ (State.commitSet s acc cellFails).2.migration = s.migration ∧ (State.commitSet s acc cellFails).2.pending = s.pending ∧ (State.commitSet s acc cellFails).2.now = s.now ∧ (State.commitSet s acc cellFails).2.bootAt = s.bootAt ∧ (State.commitSet s acc cellFails).2.free = s.free ∧ (State.commitSet s acc cellFails).2.out = s.out ∧ (State.commitSet s acc cellFails).2.engines.windows = s.engines.windows := by
  simp only [State.commitSet]
  (repeat' split) <;> simp

@[simp] theorem state_discardSet_frame (s : State) (acc : Accessor) :
    (State.discardSet s acc).modes = s.modes ∧ (State.discardSet s acc).sampler = s.sampler ∧ (State.discardSet s acc).cells = s.cells ∧ (State.discardSet s acc).host = s.host ∧ (State.discardSet s acc).sched = s.sched ∧ (State.discardSet s acc).flash = s.flash ∧ (State.discardSet s acc).store = s.store ∧ (State.discardSet s acc).power = s.power ∧ (State.discardSet s acc).mem = s.mem ∧ (State.discardSet s acc).cipher = s.cipher ∧ (State.discardSet s acc).engines = s.engines ∧ (State.discardSet s acc).admin = s.admin ∧ (State.discardSet s acc).staing = s.staing ∧ (State.discardSet s acc).security = s.security ∧ (State.discardSet s acc).migration = s.migration ∧ (State.discardSet s acc).pending = s.pending ∧ (State.discardSet s acc).now = s.now ∧ (State.discardSet s acc).bootAt = s.bootAt ∧ (State.discardSet s acc).free = s.free ∧ (State.discardSet s acc).out = s.out := by
  unfold State.discardSet
  simp

@[simp] theorem state_storeValue_frame (s : State) (r : ObjRow) (i : Nat) (j : Nat) (v : Nat) :
    (State.storeValue s r i j v).modes = s.modes ∧ (State.storeValue s r i j v).sampler = s.sampler ∧ (State.storeValue s r i j v).cells = s.cells ∧ (State.storeValue s r i j v).host = s.host ∧ (State.storeValue s r i j v).sched = s.sched ∧ (State.storeValue s r i j v).flash = s.flash ∧ (State.storeValue s r i j v).store = s.store ∧ (State.storeValue s r i j v).power = s.power ∧ (State.storeValue s r i j v).mem = s.mem ∧ (State.storeValue s r i j v).cipher = s.cipher ∧ (State.storeValue s r i j v).engines = s.engines ∧ (State.storeValue s r i j v).admin = s.admin ∧ (State.storeValue s r i j v).staing = s.staing ∧ (State.storeValue s r i j v).security = s.security ∧ (State.storeValue s r i j v).migration = s.migration ∧ (State.storeValue s r i j v).pending = s.pending ∧ (State.storeValue s r i j v).now = s.now ∧ (State.storeValue s r i j v).bootAt = s.bootAt ∧ (State.storeValue s r i j v).free = s.free ∧ (State.storeValue s r i j v).out = s.out := by
  unfold State.storeValue
  (repeat' split) <;> simp

@[simp] theorem state_storeRate_frame (s : State) (burst : Bool) (v : Nat) :
    (State.storeRate s burst v).modes = s.modes ∧ (State.storeRate s burst v).cells = s.cells ∧ (State.storeRate s burst v).host = s.host ∧ (State.storeRate s burst v).sched = s.sched ∧ (State.storeRate s burst v).flash = s.flash ∧ (State.storeRate s burst v).store = s.store ∧ (State.storeRate s burst v).power = s.power ∧ (State.storeRate s burst v).mem = s.mem ∧ (State.storeRate s burst v).cipher = s.cipher ∧ (State.storeRate s burst v).engines = s.engines ∧ (State.storeRate s burst v).admin = s.admin ∧ (State.storeRate s burst v).staing = s.staing ∧ (State.storeRate s burst v).security = s.security ∧ (State.storeRate s burst v).migration = s.migration ∧ (State.storeRate s burst v).pending = s.pending ∧ (State.storeRate s burst v).now = s.now ∧ (State.storeRate s burst v).bootAt = s.bootAt ∧ (State.storeRate s burst v).free = s.free ∧ (State.storeRate s burst v).out = s.out := by
  unfold State.storeRate
  simp

@[simp] theorem state_protect_frame (s : State) (on : Bool) :
    (State.protect s on).cells = s.cells ∧ (State.protect s on).power = s.power ∧ (State.protect s on).mem = s.mem ∧ (State.protect s on).engines = s.engines ∧ (State.protect s on).admin = s.admin ∧ (State.protect s on).staing = s.staing ∧ (State.protect s on).security = s.security ∧ (State.protect s on).migration = s.migration ∧ (State.protect s on).pending = s.pending ∧ (State.protect s on).now = s.now ∧ (State.protect s on).bootAt = s.bootAt ∧ (State.protect s on).free = s.free := by
  unfold State.protect
  simp

theorem state_actRefused_some (s : State) (acc : Accessor) (r : ObjRow) (i : Nat) (j : Nat) (v : Nat) :
    ∀ got, State.actRefused s acc r i j v = some got → got.cells = s.cells ∧ got.power = s.power ∧ got.engines = s.engines ∧ got.admin = s.admin ∧ got.staing = s.staing ∧ got.security = s.security ∧ got.pending = s.pending ∧ got.now = s.now ∧ got.bootAt = s.bootAt ∧ got.free = s.free ∧ got.mem.dram = s.mem.dram := by
  intro got h
  unfold State.actRefused at h
  by_cases hc : r = Obj.vfSplitA
  · rw [if_pos hc] at h
    split at h <;> cases h
    simp
  rw [if_neg hc] at h
  clear hc
  by_cases hc : r = Obj.vqSplitA
  · rw [if_pos hc] at h
    split at h <;> cases h
    simp
  rw [if_neg hc] at h
  clear hc
  by_cases hc : r = Obj.raMaxWidth
  · rw [if_pos hc] at h
    split at h <;> cases h
    simp
  rw [if_neg hc] at h
  clear hc
  by_cases hc : r = Obj.poolBuf ∨ r = Obj.poolPlace ∨ r = Obj.poolCount
  · rw [if_pos hc] at h
    split at h <;> cases h
    simp
  rw [if_neg hc] at h
  clear hc
  by_cases hc : r = Obj.ownerTakeover
  · rw [if_pos hc] at h
    have := state_takeOver_some _ _ _ _ h
    simp [this]
  rw [if_neg hc] at h
  clear hc
  by_cases hc : r = Obj.spareAdd
  · rw [if_pos hc] at h
    have := state_addSpares_some _ _ _ h
    simp [this]
  rw [if_neg hc] at h
  clear hc
  by_cases hc : r = Obj.dirtyEn
  · rw [if_pos hc] at h
    have := state_setTracking_some _ _ _ _ h
    simp [this]
  rw [if_neg hc] at h
  clear hc
  by_cases hc : r = Obj.sealBroken
  · rw [if_pos hc] at h
    split at h <;> cases h
    simp
  rw [if_neg hc] at h
  clear hc
  by_cases hc : r = Obj.maxRate
  · rw [if_pos hc] at h
    cases h
    simp
  rw [if_neg hc] at h
  clear hc
  by_cases hc : r = Obj.ratePerS
  · rw [if_pos hc] at h
    cases h
    simp
  rw [if_neg hc] at h
  clear hc
  by_cases hc : r = Obj.rateBurst
  · rw [if_pos hc] at h
    cases h
    simp
  rw [if_neg hc] at h
  clear hc
  by_cases hc : r = Obj.writeProtect
  · rw [if_pos hc] at h
    cases h
    simp
  rw [if_neg hc] at h
  clear hc
  by_cases hc : r = Obj.fullPass
  · rw [if_pos hc] at h
    cases h
    simp
  rw [if_neg hc] at h
  clear hc
  by_cases hc : r = Obj.logClear
  · rw [if_pos hc] at h
    cases h
    split <;> simp
  rw [if_neg hc] at h
  clear hc
  by_cases hc : r = Obj.samplerClear
  · rw [if_pos hc] at h
    cases h
    split <;> simp
  rw [if_neg hc] at h
  clear hc
  by_cases hc : r = Obj.cursor
  · rw [if_pos hc] at h
    cases h
    simp
  rw [if_neg hc] at h
  clear hc
  by_cases hc : r = Obj.advance
  · rw [if_pos hc] at h
    cases h
    split <;> simp
  rw [if_neg hc] at h
  clear hc
  by_cases hc : r = Obj.sealPolicy ∨ r = Obj.arbAuto
  · rw [if_pos hc] at h
    cases h
    simp
  rw [if_neg hc] at h
  clear hc
  cases h
  simp

@[simp] theorem state_writeRow_frame (s : State) (acc : Accessor) (r : ObjRow) (i : Nat) (j : Nat) (v : Nat) (cellFails : List (Fin 96)) :
    (State.writeRow s acc r i j v cellFails).2.power = s.power ∧ (State.writeRow s acc r i j v cellFails).2.admin = s.admin ∧ (State.writeRow s acc r i j v cellFails).2.staing = s.staing ∧ (State.writeRow s acc r i j v cellFails).2.security = s.security ∧ (State.writeRow s acc r i j v cellFails).2.pending = s.pending ∧ (State.writeRow s acc r i j v cellFails).2.now = s.now ∧ (State.writeRow s acc r i j v cellFails).2.bootAt = s.bootAt ∧ (State.writeRow s acc r i j v cellFails).2.free = s.free ∧ (State.writeRow s acc r i j v cellFails).2.mem.dram = s.mem.dram ∧ (State.writeRow s acc r i j v cellFails).2.engines.windows = s.engines.windows := by
  unfold State.writeRow
  grind [→ state_actRefused_some, state_commitSet_frame, state_discardSet_frame, state_setAcc_frame]

@[simp] theorem state_writeObject_frame (s : State) (acc : Accessor) (d : DictRec) (cellFails : List (Fin 96)) :
    (State.writeObject s acc d cellFails).2.power = s.power ∧ (State.writeObject s acc d cellFails).2.admin = s.admin ∧ (State.writeObject s acc d cellFails).2.staing = s.staing ∧ (State.writeObject s acc d cellFails).2.security = s.security ∧ (State.writeObject s acc d cellFails).2.pending = s.pending ∧ (State.writeObject s acc d cellFails).2.now = s.now ∧ (State.writeObject s acc d cellFails).2.bootAt = s.bootAt ∧ (State.writeObject s acc d cellFails).2.free = s.free ∧ (State.writeObject s acc d cellFails).2.mem.dram = s.mem.dram ∧ (State.writeObject s acc d cellFails).2.engines.windows = s.engines.windows := by
  unfold State.writeObject
  (repeat' split) <;> simp

@[simp] theorem state_writeMany_frame (s : State) (acc : Accessor) (cellFails : List (Fin 96)) (y0 : List DictRec) :
    (State.writeMany s acc cellFails y0).2.2.power = s.power ∧ (State.writeMany s acc cellFails y0).2.2.admin = s.admin ∧ (State.writeMany s acc cellFails y0).2.2.staing = s.staing ∧ (State.writeMany s acc cellFails y0).2.2.security = s.security ∧ (State.writeMany s acc cellFails y0).2.2.pending = s.pending ∧ (State.writeMany s acc cellFails y0).2.2.now = s.now ∧ (State.writeMany s acc cellFails y0).2.2.bootAt = s.bootAt ∧ (State.writeMany s acc cellFails y0).2.2.free = s.free ∧ (State.writeMany s acc cellFails y0).2.2.mem.dram = s.mem.dram ∧ (State.writeMany s acc cellFails y0).2.2.engines.windows = s.engines.windows := by
  induction y0 generalizing s acc cellFails <;> (unfold State.writeMany; grind [state_writeObject_frame])

@[simp] theorem state_interrupt_frame (s : State) (n : Fin 1024) (cs : List Ctx) :
    (State.interrupt s n cs).modes = s.modes ∧ (State.interrupt s n cs).sampler = s.sampler ∧ (State.interrupt s n cs).cells = s.cells ∧ (State.interrupt s n cs).sched = s.sched ∧ (State.interrupt s n cs).flash = s.flash ∧ (State.interrupt s n cs).store = s.store ∧ (State.interrupt s n cs).power = s.power ∧ (State.interrupt s n cs).mem = s.mem ∧ (State.interrupt s n cs).engines = s.engines ∧ (State.interrupt s n cs).admin = s.admin ∧ (State.interrupt s n cs).staing = s.staing ∧ (State.interrupt s n cs).security = s.security ∧ (State.interrupt s n cs).migration = s.migration ∧ (State.interrupt s n cs).pending = s.pending ∧ (State.interrupt s n cs).now = s.now ∧ (State.interrupt s n cs).bootAt = s.bootAt ∧ (State.interrupt s n cs).free = s.free ∧ (State.interrupt s n cs).out = s.out := by
  unfold State.interrupt
  simp

@[simp] theorem state_startFreeze_frame (s : State) (h : Hdr) (n : Fin 1024) :
    (State.startFreeze s h n).modes = s.modes ∧ (State.startFreeze s h n).cells = s.cells ∧ (State.startFreeze s h n).power = s.power ∧ (State.startFreeze s h n).mem = s.mem ∧ (State.startFreeze s h n).engines = s.engines ∧ (State.startFreeze s h n).admin = s.admin ∧ (State.startFreeze s h n).staing = s.staing ∧ (State.startFreeze s h n).security = s.security ∧ (State.startFreeze s h n).pending = s.pending ∧ (State.startFreeze s h n).now = s.now ∧ (State.startFreeze s h n).bootAt = s.bootAt ∧ (State.startFreeze s h n).free = s.free := by
  unfold State.startFreeze
  simp

@[simp] theorem state_thaw_frame (s : State) (n : Fin 1024) :
    (State.thaw s n).cells = s.cells ∧ (State.thaw s n).flash = s.flash ∧ (State.thaw s n).store = s.store ∧ (State.thaw s n).power = s.power ∧ (State.thaw s n).mem = s.mem ∧ (State.thaw s n).cipher = s.cipher ∧ (State.thaw s n).staing = s.staing ∧ (State.thaw s n).security = s.security ∧ (State.thaw s n).pending = s.pending ∧ (State.thaw s n).now = s.now ∧ (State.thaw s n).bootAt = s.bootAt ∧ (State.thaw s n).free = s.free := by
  unfold State.thaw
  simp

@[simp] theorem state_loadImage_frame (s : State) (img : List Byte) (n : Fin 1024) :
    (State.loadImage s img n).dict = s.dict ∧ (State.loadImage s img n).modes = s.modes ∧ (State.loadImage s img n).sampler = s.sampler ∧ (State.loadImage s img n).cells = s.cells ∧ (State.loadImage s img n).sched = s.sched ∧ (State.loadImage s img n).flash = s.flash ∧ (State.loadImage s img n).store = s.store ∧ (State.loadImage s img n).power = s.power ∧ (State.loadImage s img n).mem = s.mem ∧ (State.loadImage s img n).cipher = s.cipher ∧ (State.loadImage s img n).engines = s.engines ∧ (State.loadImage s img n).admin = s.admin ∧ (State.loadImage s img n).staing = s.staing ∧ (State.loadImage s img n).security = s.security ∧ (State.loadImage s img n).migration = s.migration ∧ (State.loadImage s img n).pending = s.pending ∧ (State.loadImage s img n).now = s.now ∧ (State.loadImage s img n).bootAt = s.bootAt ∧ (State.loadImage s img n).free = s.free ∧ (State.loadImage s img n).out = s.out := by
  unfold State.loadImage
  simp

@[simp] theorem state_markMoved_frame (s : State) (img : List Byte) (n : Fin 1024) :
    (State.markMoved s img n).modes = s.modes ∧ (State.markMoved s img n).sampler = s.sampler ∧ (State.markMoved s img n).cells = s.cells ∧ (State.markMoved s img n).host = s.host ∧ (State.markMoved s img n).sched = s.sched ∧ (State.markMoved s img n).flash = s.flash ∧ (State.markMoved s img n).store = s.store ∧ (State.markMoved s img n).power = s.power ∧ (State.markMoved s img n).mem = s.mem ∧ (State.markMoved s img n).cipher = s.cipher ∧ (State.markMoved s img n).engines = s.engines ∧ (State.markMoved s img n).admin = s.admin ∧ (State.markMoved s img n).staing = s.staing ∧ (State.markMoved s img n).security = s.security ∧ (State.markMoved s img n).migration = s.migration ∧ (State.markMoved s img n).pending = s.pending ∧ (State.markMoved s img n).now = s.now ∧ (State.markMoved s img n).bootAt = s.bootAt ∧ (State.markMoved s img n).free = s.free ∧ (State.markMoved s img n).out = s.out := by
  simp only [State.markMoved]
  (repeat' split) <;> simp

@[simp] theorem state_diagnose_frame (s : State) (st : PairState) (wire : Nat) (vFault : Nat) (polInv : Nat) :
    (State.diagnose s st wire vFault polInv).modes = s.modes ∧ (State.diagnose s st wire vFault polInv).sampler = s.sampler ∧ (State.diagnose s st wire vFault polInv).cells = s.cells ∧ (State.diagnose s st wire vFault polInv).host = s.host ∧ (State.diagnose s st wire vFault polInv).sched = s.sched ∧ (State.diagnose s st wire vFault polInv).flash = s.flash ∧ (State.diagnose s st wire vFault polInv).store = s.store ∧ (State.diagnose s st wire vFault polInv).power = s.power ∧ (State.diagnose s st wire vFault polInv).mem = s.mem ∧ (State.diagnose s st wire vFault polInv).cipher = s.cipher ∧ (State.diagnose s st wire vFault polInv).engines = s.engines ∧ (State.diagnose s st wire vFault polInv).admin = s.admin ∧ (State.diagnose s st wire vFault polInv).security = s.security ∧ (State.diagnose s st wire vFault polInv).migration = s.migration ∧ (State.diagnose s st wire vFault polInv).pending = s.pending ∧ (State.diagnose s st wire vFault polInv).now = s.now ∧ (State.diagnose s st wire vFault polInv).bootAt = s.bootAt ∧ (State.diagnose s st wire vFault polInv).free = s.free ∧ (State.diagnose s st wire vFault polInv).out = s.out := by
  unfold State.diagnose
  simp

@[simp] theorem state_transmit_frame (s : State) (o : Out) :
    (State.transmit s o).dict = s.dict ∧ (State.transmit s o).modes = s.modes ∧ (State.transmit s o).sampler = s.sampler ∧ (State.transmit s o).cells = s.cells ∧ (State.transmit s o).host = s.host ∧ (State.transmit s o).sched = s.sched ∧ (State.transmit s o).flash = s.flash ∧ (State.transmit s o).store = s.store ∧ (State.transmit s o).power = s.power ∧ (State.transmit s o).mem = s.mem ∧ (State.transmit s o).cipher = s.cipher ∧ (State.transmit s o).engines = s.engines ∧ (State.transmit s o).admin = s.admin ∧ (State.transmit s o).staing = s.staing ∧ (State.transmit s o).security = s.security ∧ (State.transmit s o).migration = s.migration ∧ (State.transmit s o).pending = s.pending ∧ (State.transmit s o).now = s.now ∧ (State.transmit s o).bootAt = s.bootAt ∧ (State.transmit s o).free = s.free := by
  unfold State.transmit
  simp

@[simp] theorem state_acceptSeq_frame (s : State) (d : Datagram) :
    (State.acceptSeq s d).modes = s.modes ∧ (State.acceptSeq s d).sampler = s.sampler ∧ (State.acceptSeq s d).cells = s.cells ∧ (State.acceptSeq s d).host = s.host ∧ (State.acceptSeq s d).sched = s.sched ∧ (State.acceptSeq s d).flash = s.flash ∧ (State.acceptSeq s d).store = s.store ∧ (State.acceptSeq s d).power = s.power ∧ (State.acceptSeq s d).mem = s.mem ∧ (State.acceptSeq s d).cipher = s.cipher ∧ (State.acceptSeq s d).engines = s.engines ∧ (State.acceptSeq s d).admin = s.admin ∧ (State.acceptSeq s d).security = s.security ∧ (State.acceptSeq s d).migration = s.migration ∧ (State.acceptSeq s d).pending = s.pending ∧ (State.acceptSeq s d).now = s.now ∧ (State.acceptSeq s d).bootAt = s.bootAt ∧ (State.acceptSeq s d).free = s.free ∧ (State.acceptSeq s d).out = s.out := by
  unfold State.acceptSeq
  simp

@[simp] theorem state_respond_frame (s : State) (o : Out) :
    (State.respond s o).dict = s.dict ∧ (State.respond s o).modes = s.modes ∧ (State.respond s o).sampler = s.sampler ∧ (State.respond s o).cells = s.cells ∧ (State.respond s o).host = s.host ∧ (State.respond s o).sched = s.sched ∧ (State.respond s o).flash = s.flash ∧ (State.respond s o).store = s.store ∧ (State.respond s o).power = s.power ∧ (State.respond s o).mem = s.mem ∧ (State.respond s o).cipher = s.cipher ∧ (State.respond s o).engines = s.engines ∧ (State.respond s o).admin = s.admin ∧ (State.respond s o).security = s.security ∧ (State.respond s o).migration = s.migration ∧ (State.respond s o).pending = s.pending ∧ (State.respond s o).now = s.now ∧ (State.respond s o).bootAt = s.bootAt ∧ (State.respond s o).free = s.free := by
  unfold State.respond
  simp

@[simp] theorem state_queueRequest_frame (s : State) (d : Datagram) :
    (State.queueRequest s d).dict = s.dict ∧ (State.queueRequest s d).modes = s.modes ∧ (State.queueRequest s d).sampler = s.sampler ∧ (State.queueRequest s d).cells = s.cells ∧ (State.queueRequest s d).host = s.host ∧ (State.queueRequest s d).sched = s.sched ∧ (State.queueRequest s d).flash = s.flash ∧ (State.queueRequest s d).store = s.store ∧ (State.queueRequest s d).power = s.power ∧ (State.queueRequest s d).mem = s.mem ∧ (State.queueRequest s d).cipher = s.cipher ∧ (State.queueRequest s d).engines = s.engines ∧ (State.queueRequest s d).admin = s.admin ∧ (State.queueRequest s d).security = s.security ∧ (State.queueRequest s d).migration = s.migration ∧ (State.queueRequest s d).pending = s.pending ∧ (State.queueRequest s d).now = s.now ∧ (State.queueRequest s d).bootAt = s.bootAt ∧ (State.queueRequest s d).free = s.free := by
  unfold State.queueRequest
  simp

@[simp] theorem state_checkSeq_frame (s : State) (d : Datagram) :
    (State.checkSeq s d).modes = s.modes ∧ (State.checkSeq s d).sampler = s.sampler ∧ (State.checkSeq s d).cells = s.cells ∧ (State.checkSeq s d).host = s.host ∧ (State.checkSeq s d).sched = s.sched ∧ (State.checkSeq s d).flash = s.flash ∧ (State.checkSeq s d).store = s.store ∧ (State.checkSeq s d).power = s.power ∧ (State.checkSeq s d).mem = s.mem ∧ (State.checkSeq s d).cipher = s.cipher ∧ (State.checkSeq s d).engines = s.engines ∧ (State.checkSeq s d).admin = s.admin ∧ (State.checkSeq s d).security = s.security ∧ (State.checkSeq s d).migration = s.migration ∧ (State.checkSeq s d).pending = s.pending ∧ (State.checkSeq s d).now = s.now ∧ (State.checkSeq s d).bootAt = s.bootAt ∧ (State.checkSeq s d).free = s.free := by
  unfold State.checkSeq
  (repeat' split) <;> simp

@[simp] theorem state_receive_frame (s : State) (d : Datagram) :
    (State.receive s d).modes = s.modes ∧ (State.receive s d).cells = s.cells ∧ (State.receive s d).host = s.host ∧ (State.receive s d).sched = s.sched ∧ (State.receive s d).flash = s.flash ∧ (State.receive s d).store = s.store ∧ (State.receive s d).power = s.power ∧ (State.receive s d).mem = s.mem ∧ (State.receive s d).cipher = s.cipher ∧ (State.receive s d).engines = s.engines ∧ (State.receive s d).admin = s.admin ∧ (State.receive s d).security = s.security ∧ (State.receive s d).migration = s.migration ∧ (State.receive s d).pending = s.pending ∧ (State.receive s d).now = s.now ∧ (State.receive s d).bootAt = s.bootAt ∧ (State.receive s d).free = s.free := by
  unfold State.receive
  simp

@[simp] theorem state_executed_frame (s : State) (o : Out) :
    (State.executed s o).modes = s.modes ∧ (State.executed s o).sampler = s.sampler ∧ (State.executed s o).cells = s.cells ∧ (State.executed s o).host = s.host ∧ (State.executed s o).sched = s.sched ∧ (State.executed s o).flash = s.flash ∧ (State.executed s o).store = s.store ∧ (State.executed s o).power = s.power ∧ (State.executed s o).mem = s.mem ∧ (State.executed s o).cipher = s.cipher ∧ (State.executed s o).engines = s.engines ∧ (State.executed s o).admin = s.admin ∧ (State.executed s o).security = s.security ∧ (State.executed s o).migration = s.migration ∧ (State.executed s o).pending = s.pending ∧ (State.executed s o).now = s.now ∧ (State.executed s o).bootAt = s.bootAt ∧ (State.executed s o).free = s.free := by
  unfold State.executed
  simp

@[simp] theorem state_beginTest_frame (s : State) (h : Hdr) (nsid : Nat) (extended : Bool) :
    (State.beginTest s h nsid extended).cells = s.cells ∧ (State.beginTest s h nsid extended).host = s.host ∧ (State.beginTest s h nsid extended).sched = s.sched ∧ (State.beginTest s h nsid extended).flash = s.flash ∧ (State.beginTest s h nsid extended).store = s.store ∧ (State.beginTest s h nsid extended).power = s.power ∧ (State.beginTest s h nsid extended).mem = s.mem ∧ (State.beginTest s h nsid extended).cipher = s.cipher ∧ (State.beginTest s h nsid extended).engines = s.engines ∧ (State.beginTest s h nsid extended).staing = s.staing ∧ (State.beginTest s h nsid extended).security = s.security ∧ (State.beginTest s h nsid extended).migration = s.migration ∧ (State.beginTest s h nsid extended).pending = s.pending ∧ (State.beginTest s h nsid extended).now = s.now ∧ (State.beginTest s h nsid extended).bootAt = s.bootAt ∧ (State.beginTest s h nsid extended).free = s.free ∧ (State.beginTest s h nsid extended).out = s.out := by
  unfold State.beginTest
  simp

@[simp] theorem state_testSample_frame (s : State) (e : SampleEnd) :
    (State.testSample s e).cells = s.cells ∧ (State.testSample s e).power = s.power ∧ (State.testSample s e).engines = s.engines ∧ (State.testSample s e).admin = s.admin ∧ (State.testSample s e).staing = s.staing ∧ (State.testSample s e).security = s.security ∧ (State.testSample s e).migration = s.migration ∧ (State.testSample s e).pending = s.pending ∧ (State.testSample s e).now = s.now ∧ (State.testSample s e).bootAt = s.bootAt ∧ (State.testSample s e).free = s.free ∧ (State.testSample s e).mem.dram = s.mem.dram := by
  simp only [State.testSample]
  (repeat' split) <;> simp

@[simp] theorem state_advanceDramTest_frame (s : State) :
    (State.advanceDramTest s).modes = s.modes ∧ (State.advanceDramTest s).sampler = s.sampler ∧ (State.advanceDramTest s).cells = s.cells ∧ (State.advanceDramTest s).host = s.host ∧ (State.advanceDramTest s).sched = s.sched ∧ (State.advanceDramTest s).flash = s.flash ∧ (State.advanceDramTest s).store = s.store ∧ (State.advanceDramTest s).power = s.power ∧ (State.advanceDramTest s).mem = s.mem ∧ (State.advanceDramTest s).cipher = s.cipher ∧ (State.advanceDramTest s).engines = s.engines ∧ (State.advanceDramTest s).admin = s.admin ∧ (State.advanceDramTest s).staing = s.staing ∧ (State.advanceDramTest s).security = s.security ∧ (State.advanceDramTest s).migration = s.migration ∧ (State.advanceDramTest s).pending = s.pending ∧ (State.advanceDramTest s).now = s.now ∧ (State.advanceDramTest s).bootAt = s.bootAt ∧ (State.advanceDramTest s).free = s.free ∧ (State.advanceDramTest s).out = s.out := by
  unfold State.advanceDramTest
  simp

@[simp] theorem state_endSegment_frame (s : State) (t : SelfTest) :
    (State.endSegment s t).cells = s.cells ∧ (State.endSegment s t).host = s.host ∧ (State.endSegment s t).sched = s.sched ∧ (State.endSegment s t).flash = s.flash ∧ (State.endSegment s t).store = s.store ∧ (State.endSegment s t).power = s.power ∧ (State.endSegment s t).mem = s.mem ∧ (State.endSegment s t).cipher = s.cipher ∧ (State.endSegment s t).engines = s.engines ∧ (State.endSegment s t).staing = s.staing ∧ (State.endSegment s t).security = s.security ∧ (State.endSegment s t).migration = s.migration ∧ (State.endSegment s t).pending = s.pending ∧ (State.endSegment s t).now = s.now ∧ (State.endSegment s t).bootAt = s.bootAt ∧ (State.endSegment s t).free = s.free ∧ (State.endSegment s t).out = s.out := by
  unfold State.endSegment
  simp

@[simp] theorem state_keepKey_frame (s : State) (key : Nat) (v : Nat) :
    (State.keepKey s key v).modes = s.modes ∧ (State.keepKey s key v).sampler = s.sampler ∧ (State.keepKey s key v).cells = s.cells ∧ (State.keepKey s key v).host = s.host ∧ (State.keepKey s key v).sched = s.sched ∧ (State.keepKey s key v).flash = s.flash ∧ (State.keepKey s key v).store = s.store ∧ (State.keepKey s key v).power = s.power ∧ (State.keepKey s key v).mem = s.mem ∧ (State.keepKey s key v).cipher = s.cipher ∧ (State.keepKey s key v).engines = s.engines ∧ (State.keepKey s key v).admin = s.admin ∧ (State.keepKey s key v).staing = s.staing ∧ (State.keepKey s key v).security = s.security ∧ (State.keepKey s key v).migration = s.migration ∧ (State.keepKey s key v).pending = s.pending ∧ (State.keepKey s key v).now = s.now ∧ (State.keepKey s key v).bootAt = s.bootAt ∧ (State.keepKey s key v).free = s.free ∧ (State.keepKey s key v).out = s.out := by
  unfold State.keepKey
  (repeat' split) <;> simp

@[simp] theorem state_keepAll_frame (s : State) (t : Tbl Nat) :
    (State.keepAll s t).modes = s.modes ∧ (State.keepAll s t).sampler = s.sampler ∧ (State.keepAll s t).cells = s.cells ∧ (State.keepAll s t).host = s.host ∧ (State.keepAll s t).sched = s.sched ∧ (State.keepAll s t).flash = s.flash ∧ (State.keepAll s t).store = s.store ∧ (State.keepAll s t).power = s.power ∧ (State.keepAll s t).mem = s.mem ∧ (State.keepAll s t).cipher = s.cipher ∧ (State.keepAll s t).engines = s.engines ∧ (State.keepAll s t).admin = s.admin ∧ (State.keepAll s t).staing = s.staing ∧ (State.keepAll s t).security = s.security ∧ (State.keepAll s t).migration = s.migration ∧ (State.keepAll s t).pending = s.pending ∧ (State.keepAll s t).now = s.now ∧ (State.keepAll s t).bootAt = s.bootAt ∧ (State.keepAll s t).free = s.free ∧ (State.keepAll s t).out = s.out := by
  unfold State.keepAll
  simp

@[simp] theorem state_restartWindows_frame (s : State) (set : Tbl Nat) :
    (State.restartWindows s set).dict = s.dict ∧ (State.restartWindows s set).modes = s.modes ∧ (State.restartWindows s set).sampler = s.sampler ∧ (State.restartWindows s set).cells = s.cells ∧ (State.restartWindows s set).host = s.host ∧ (State.restartWindows s set).flash = s.flash ∧ (State.restartWindows s set).store = s.store ∧ (State.restartWindows s set).power = s.power ∧ (State.restartWindows s set).mem = s.mem ∧ (State.restartWindows s set).cipher = s.cipher ∧ (State.restartWindows s set).engines = s.engines ∧ (State.restartWindows s set).admin = s.admin ∧ (State.restartWindows s set).staing = s.staing ∧ (State.restartWindows s set).security = s.security ∧ (State.restartWindows s set).migration = s.migration ∧ (State.restartWindows s set).pending = s.pending ∧ (State.restartWindows s set).now = s.now ∧ (State.restartWindows s set).bootAt = s.bootAt ∧ (State.restartWindows s set).free = s.free ∧ (State.restartWindows s set).out = s.out := by
  unfold State.restartWindows
  simp

@[simp] theorem state_applyCommit_frame (s : State) (c : Nat × Tbl Nat) :
    (State.applyCommit s c).modes = s.modes ∧ (State.applyCommit s c).sampler = s.sampler ∧ (State.applyCommit s c).cells = s.cells ∧ (State.applyCommit s c).host = s.host ∧ (State.applyCommit s c).flash = s.flash ∧ (State.applyCommit s c).store = s.store ∧ (State.applyCommit s c).power = s.power ∧ (State.applyCommit s c).mem = s.mem ∧ (State.applyCommit s c).cipher = s.cipher ∧ (State.applyCommit s c).engines = s.engines ∧ (State.applyCommit s c).admin = s.admin ∧ (State.applyCommit s c).staing = s.staing ∧ (State.applyCommit s c).security = s.security ∧ (State.applyCommit s c).migration = s.migration ∧ (State.applyCommit s c).pending = s.pending ∧ (State.applyCommit s c).now = s.now ∧ (State.applyCommit s c).bootAt = s.bootAt ∧ (State.applyCommit s c).free = s.free ∧ (State.applyCommit s c).out = s.out := by
  unfold State.applyCommit
  simp

@[simp] theorem state_applyValues_frame (s : State) :
    (State.applyValues s).modes = s.modes ∧ (State.applyValues s).sampler = s.sampler ∧ (State.applyValues s).cells = s.cells ∧ (State.applyValues s).host = s.host ∧ (State.applyValues s).flash = s.flash ∧ (State.applyValues s).store = s.store ∧ (State.applyValues s).power = s.power ∧ (State.applyValues s).mem = s.mem ∧ (State.applyValues s).cipher = s.cipher ∧ (State.applyValues s).engines = s.engines ∧ (State.applyValues s).admin = s.admin ∧ (State.applyValues s).staing = s.staing ∧ (State.applyValues s).security = s.security ∧ (State.applyValues s).migration = s.migration ∧ (State.applyValues s).pending = s.pending ∧ (State.applyValues s).now = s.now ∧ (State.applyValues s).bootAt = s.bootAt ∧ (State.applyValues s).free = s.free ∧ (State.applyValues s).out = s.out := by
  simp only [State.applyValues]
  (repeat' split) <;> simp

@[simp] theorem state_scalePool_frame (s : State) :
    (State.scalePool s).modes = s.modes ∧ (State.scalePool s).cells = s.cells ∧ (State.scalePool s).host = s.host ∧ (State.scalePool s).sched = s.sched ∧ (State.scalePool s).flash = s.flash ∧ (State.scalePool s).store = s.store ∧ (State.scalePool s).mem = s.mem ∧ (State.scalePool s).cipher = s.cipher ∧ (State.scalePool s).engines = s.engines ∧ (State.scalePool s).admin = s.admin ∧ (State.scalePool s).staing = s.staing ∧ (State.scalePool s).security = s.security ∧ (State.scalePool s).migration = s.migration ∧ (State.scalePool s).pending = s.pending ∧ (State.scalePool s).now = s.now ∧ (State.scalePool s).bootAt = s.bootAt ∧ (State.scalePool s).free = s.free ∧ (State.scalePool s).out = s.out := by
  unfold State.scalePool
  simp

@[simp] theorem state_takePower_frame (s : State) :
    (State.takePower s).dict = s.dict ∧ (State.takePower s).modes = s.modes ∧ (State.takePower s).sampler = s.sampler ∧ (State.takePower s).cells = s.cells ∧ (State.takePower s).host = s.host ∧ (State.takePower s).sched = s.sched ∧ (State.takePower s).flash = s.flash ∧ (State.takePower s).store = s.store ∧ (State.takePower s).mem = s.mem ∧ (State.takePower s).cipher = s.cipher ∧ (State.takePower s).engines = s.engines ∧ (State.takePower s).admin = s.admin ∧ (State.takePower s).staing = s.staing ∧ (State.takePower s).security = s.security ∧ (State.takePower s).migration = s.migration ∧ (State.takePower s).pending = s.pending ∧ (State.takePower s).now = s.now ∧ (State.takePower s).bootAt = s.bootAt ∧ (State.takePower s).free = s.free ∧ (State.takePower s).out = s.out := by
  unfold State.takePower
  simp

@[simp] theorem state_admitMaintenance_frame (s : State) (len : Nat) :
    (State.admitMaintenance s len).dict = s.dict ∧ (State.admitMaintenance s len).modes = s.modes ∧ (State.admitMaintenance s len).sampler = s.sampler ∧ (State.admitMaintenance s len).cells = s.cells ∧ (State.admitMaintenance s len).host = s.host ∧ (State.admitMaintenance s len).power = s.power ∧ (State.admitMaintenance s len).mem = s.mem ∧ (State.admitMaintenance s len).cipher = s.cipher ∧ (State.admitMaintenance s len).engines = s.engines ∧ (State.admitMaintenance s len).admin = s.admin ∧ (State.admitMaintenance s len).staing = s.staing ∧ (State.admitMaintenance s len).security = s.security ∧ (State.admitMaintenance s len).migration = s.migration ∧ (State.admitMaintenance s len).pending = s.pending ∧ (State.admitMaintenance s len).now = s.now ∧ (State.admitMaintenance s len).bootAt = s.bootAt ∧ (State.admitMaintenance s len).free = s.free ∧ (State.admitMaintenance s len).out = s.out := by
  unfold State.admitMaintenance
  simp

@[simp] theorem state_admitShortTest_frame (s : State) :
    (State.admitShortTest s).dict = s.dict ∧ (State.admitShortTest s).modes = s.modes ∧ (State.admitShortTest s).sampler = s.sampler ∧ (State.admitShortTest s).cells = s.cells ∧ (State.admitShortTest s).host = s.host ∧ (State.admitShortTest s).power = s.power ∧ (State.admitShortTest s).mem = s.mem ∧ (State.admitShortTest s).cipher = s.cipher ∧ (State.admitShortTest s).engines = s.engines ∧ (State.admitShortTest s).admin = s.admin ∧ (State.admitShortTest s).staing = s.staing ∧ (State.admitShortTest s).security = s.security ∧ (State.admitShortTest s).migration = s.migration ∧ (State.admitShortTest s).pending = s.pending ∧ (State.admitShortTest s).now = s.now ∧ (State.admitShortTest s).bootAt = s.bootAt ∧ (State.admitShortTest s).free = s.free ∧ (State.admitShortTest s).out = s.out := by
  unfold State.admitShortTest
  simp

@[simp] theorem state_admitAll_frame (s : State) (len : Nat) :
    (State.admitAll s len).modes = s.modes ∧ (State.admitAll s len).cells = s.cells ∧ (State.admitAll s len).power = s.power ∧ (State.admitAll s len).mem = s.mem ∧ (State.admitAll s len).engines = s.engines ∧ (State.admitAll s len).admin = s.admin ∧ (State.admitAll s len).staing = s.staing ∧ (State.admitAll s len).security = s.security ∧ (State.admitAll s len).migration = s.migration ∧ (State.admitAll s len).pending = s.pending ∧ (State.admitAll s len).now = s.now ∧ (State.admitAll s len).bootAt = s.bootAt ∧ (State.admitAll s len).free = s.free := by
  unfold State.admitAll
  simp

@[simp] theorem state_startDeferred_frame (s : State) :
    (State.startDeferred s).power = s.power ∧ (State.startDeferred s).staing = s.staing ∧ (State.startDeferred s).pending = s.pending ∧ (State.startDeferred s).now = s.now ∧ (State.startDeferred s).bootAt = s.bootAt ∧ (State.startDeferred s).free = s.free ∧ (State.startDeferred s).mem.dram = s.mem.dram ∧ (State.startDeferred s).engines.windows = s.engines.windows := by
  simp only [State.startDeferred]
  (repeat' split) <;> simp

@[simp] theorem state_openFrame_frame (s : State) (k : Nat) (planned : Nat) :
    (State.openFrame s k planned).staing = s.staing ∧ (State.openFrame s k planned).pending = s.pending ∧ (State.openFrame s k planned).now = s.now ∧ (State.openFrame s k planned).bootAt = s.bootAt ∧ (State.openFrame s k planned).free = s.free ∧ (State.openFrame s k planned).mem.dram = s.mem.dram := by
  unfold State.openFrame
  simp

@[simp] theorem state_openGrid_frame (s : State) :
    (State.openGrid s).staing = s.staing ∧ (State.openGrid s).pending = s.pending ∧ (State.openGrid s).now = s.now ∧ (State.openGrid s).bootAt = s.bootAt ∧ (State.openGrid s).free = s.free ∧ (State.openGrid s).mem.dram = s.mem.dram := by
  unfold State.openGrid
  simp

@[simp] theorem state_skipSlots_frame (s : State) (n : Nat) :
    (State.skipSlots s n).modes = s.modes ∧ (State.skipSlots s n).cells = s.cells ∧ (State.skipSlots s n).host = s.host ∧ (State.skipSlots s n).sched = s.sched ∧ (State.skipSlots s n).flash = s.flash ∧ (State.skipSlots s n).store = s.store ∧ (State.skipSlots s n).power = s.power ∧ (State.skipSlots s n).mem = s.mem ∧ (State.skipSlots s n).cipher = s.cipher ∧ (State.skipSlots s n).engines = s.engines ∧ (State.skipSlots s n).admin = s.admin ∧ (State.skipSlots s n).staing = s.staing ∧ (State.skipSlots s n).security = s.security ∧ (State.skipSlots s n).migration = s.migration ∧ (State.skipSlots s n).pending = s.pending ∧ (State.skipSlots s n).now = s.now ∧ (State.skipSlots s n).bootAt = s.bootAt ∧ (State.skipSlots s n).free = s.free ∧ (State.skipSlots s n).out = s.out := by
  unfold State.skipSlots
  simp

@[simp] theorem state_countOverrun_frame (s : State) :
    (State.countOverrun s).modes = s.modes ∧ (State.countOverrun s).sampler = s.sampler ∧ (State.countOverrun s).cells = s.cells ∧ (State.countOverrun s).host = s.host ∧ (State.countOverrun s).sched = s.sched ∧ (State.countOverrun s).flash = s.flash ∧ (State.countOverrun s).store = s.store ∧ (State.countOverrun s).power = s.power ∧ (State.countOverrun s).mem = s.mem ∧ (State.countOverrun s).cipher = s.cipher ∧ (State.countOverrun s).engines = s.engines ∧ (State.countOverrun s).admin = s.admin ∧ (State.countOverrun s).staing = s.staing ∧ (State.countOverrun s).security = s.security ∧ (State.countOverrun s).migration = s.migration ∧ (State.countOverrun s).pending = s.pending ∧ (State.countOverrun s).now = s.now ∧ (State.countOverrun s).bootAt = s.bootAt ∧ (State.countOverrun s).free = s.free ∧ (State.countOverrun s).out = s.out := by
  unfold State.countOverrun
  simp

@[simp] theorem state_boundary_frame (s0 : State) :
    (State.boundary s0).staing = s0.staing ∧ (State.boundary s0).pending = s0.pending ∧ (State.boundary s0).now = s0.now ∧ (State.boundary s0).bootAt = s0.bootAt ∧ (State.boundary s0).free = s0.free ∧ (State.boundary s0).mem.dram = s0.mem.dram := by
  simp only [State.boundary]
  (repeat' split) <;> simp

@[simp] theorem state_domainPauses_frame (s : State) :
    (State.domainPauses s).modes = s.modes ∧ (State.domainPauses s).cells = s.cells ∧ (State.domainPauses s).power = s.power ∧ (State.domainPauses s).mem = s.mem ∧ (State.domainPauses s).admin = s.admin ∧ (State.domainPauses s).staing = s.staing ∧ (State.domainPauses s).security = s.security ∧ (State.domainPauses s).migration = s.migration ∧ (State.domainPauses s).pending = s.pending ∧ (State.domainPauses s).now = s.now ∧ (State.domainPauses s).bootAt = s.bootAt ∧ (State.domainPauses s).free = s.free ∧ (State.domainPauses s).engines.windows = s.engines.windows := by
  unfold State.domainPauses
  simp

@[simp] theorem state_dueRefreshes_frame (s : State) (c : Nat) :
    (State.dueRefreshes s c).modes = s.modes ∧ (State.dueRefreshes s c).sampler = s.sampler ∧ (State.dueRefreshes s c).cells = s.cells ∧ (State.dueRefreshes s c).host = s.host ∧ (State.dueRefreshes s c).sched = s.sched ∧ (State.dueRefreshes s c).flash = s.flash ∧ (State.dueRefreshes s c).store = s.store ∧ (State.dueRefreshes s c).power = s.power ∧ (State.dueRefreshes s c).cipher = s.cipher ∧ (State.dueRefreshes s c).engines = s.engines ∧ (State.dueRefreshes s c).admin = s.admin ∧ (State.dueRefreshes s c).staing = s.staing ∧ (State.dueRefreshes s c).security = s.security ∧ (State.dueRefreshes s c).migration = s.migration ∧ (State.dueRefreshes s c).pending = s.pending ∧ (State.dueRefreshes s c).now = s.now ∧ (State.dueRefreshes s c).bootAt = s.bootAt ∧ (State.dueRefreshes s c).free = s.free ∧ (State.dueRefreshes s c).out = s.out ∧ (State.dueRefreshes s c).mem.dram = s.mem.dram := by
  unfold State.dueRefreshes
  and_intros
  all_goals (repeat' first | rfl | assumption | (intros; trivial) | (dsimp only; done) | (intro _) | split | (first | refine (foldl_dict _ _ _ ?_).trans ?_ | refine (foldl_modes _ _ _ ?_).trans ?_ | refine (foldl_sampler _ _ _ ?_).trans ?_ | refine (foldl_cells _ _ _ ?_).trans ?_ | refine (foldl_host _ _ _ ?_).trans ?_ | refine (foldl_sched _ _ _ ?_).trans ?_ | refine (foldl_flash _ _ _ ?_).trans ?_ | refine (foldl_store _ _ _ ?_).trans ?_ | refine (foldl_power _ _ _ ?_).trans ?_ | refine (foldl_mem _ _ _ ?_).trans ?_ | refine (foldl_cipher _ _ _ ?_).trans ?_ | refine (foldl_engines _ _ _ ?_).trans ?_ | refine (foldl_admin _ _ _ ?_).trans ?_ | refine (foldl_staing _ _ _ ?_).trans ?_ | refine (foldl_security _ _ _ ?_).trans ?_ | refine (foldl_migration _ _ _ ?_).trans ?_ | refine (foldl_pending _ _ _ ?_).trans ?_ | refine (foldl_now _ _ _ ?_).trans ?_ | refine (foldl_bootAt _ _ _ ?_).trans ?_ | refine (foldl_free _ _ _ ?_).trans ?_ | refine (foldl_out _ _ _ ?_).trans ?_ | refine (foldl_mem_dram _ _ _ ?_).trans ?_ | refine (foldl_engines_windows _ _ _ ?_).trans ?_) | (simp; done) | simp)

@[simp] theorem state_stopDram_frame (s : State) (c : Nat) :
    (State.stopDram s c).modes = s.modes ∧ (State.stopDram s c).sampler = s.sampler ∧ (State.stopDram s c).cells = s.cells ∧ (State.stopDram s c).host = s.host ∧ (State.stopDram s c).sched = s.sched ∧ (State.stopDram s c).flash = s.flash ∧ (State.stopDram s c).store = s.store ∧ (State.stopDram s c).power = s.power ∧ (State.stopDram s c).cipher = s.cipher ∧ (State.stopDram s c).engines = s.engines ∧ (State.stopDram s c).admin = s.admin ∧ (State.stopDram s c).staing = s.staing ∧ (State.stopDram s c).security = s.security ∧ (State.stopDram s c).migration = s.migration ∧ (State.stopDram s c).pending = s.pending ∧ (State.stopDram s c).now = s.now ∧ (State.stopDram s c).bootAt = s.bootAt ∧ (State.stopDram s c).free = s.free ∧ (State.stopDram s c).out = s.out ∧ (State.stopDram s c).mem.dram = s.mem.dram := by
  unfold State.stopDram
  (repeat' split) <;> simp

@[simp] theorem state_startDram_frame (s : State) (c : Nat) :
    (State.startDram s c).modes = s.modes ∧ (State.startDram s c).sampler = s.sampler ∧ (State.startDram s c).cells = s.cells ∧ (State.startDram s c).host = s.host ∧ (State.startDram s c).sched = s.sched ∧ (State.startDram s c).flash = s.flash ∧ (State.startDram s c).store = s.store ∧ (State.startDram s c).power = s.power ∧ (State.startDram s c).cipher = s.cipher ∧ (State.startDram s c).engines = s.engines ∧ (State.startDram s c).admin = s.admin ∧ (State.startDram s c).staing = s.staing ∧ (State.startDram s c).security = s.security ∧ (State.startDram s c).migration = s.migration ∧ (State.startDram s c).pending = s.pending ∧ (State.startDram s c).now = s.now ∧ (State.startDram s c).bootAt = s.bootAt ∧ (State.startDram s c).free = s.free ∧ (State.startDram s c).out = s.out ∧ (State.startDram s c).mem.dram = s.mem.dram := by
  unfold State.startDram
  simp

@[simp] theorem state_leaveSelfRefresh_frame (s : State) :
    (State.leaveSelfRefresh s).modes = s.modes ∧ (State.leaveSelfRefresh s).sampler = s.sampler ∧ (State.leaveSelfRefresh s).cells = s.cells ∧ (State.leaveSelfRefresh s).host = s.host ∧ (State.leaveSelfRefresh s).sched = s.sched ∧ (State.leaveSelfRefresh s).flash = s.flash ∧ (State.leaveSelfRefresh s).store = s.store ∧ (State.leaveSelfRefresh s).power = s.power ∧ (State.leaveSelfRefresh s).cipher = s.cipher ∧ (State.leaveSelfRefresh s).engines = s.engines ∧ (State.leaveSelfRefresh s).admin = s.admin ∧ (State.leaveSelfRefresh s).staing = s.staing ∧ (State.leaveSelfRefresh s).security = s.security ∧ (State.leaveSelfRefresh s).migration = s.migration ∧ (State.leaveSelfRefresh s).pending = s.pending ∧ (State.leaveSelfRefresh s).now = s.now ∧ (State.leaveSelfRefresh s).bootAt = s.bootAt ∧ (State.leaveSelfRefresh s).free = s.free ∧ (State.leaveSelfRefresh s).out = s.out ∧ (State.leaveSelfRefresh s).mem.dram = s.mem.dram := by
  unfold State.leaveSelfRefresh
  and_intros
  all_goals (repeat' first | rfl | assumption | (intros; trivial) | (dsimp only; done) | (intro _) | split | (first | refine (foldl_dict _ _ _ ?_).trans ?_ | refine (foldl_modes _ _ _ ?_).trans ?_ | refine (foldl_sampler _ _ _ ?_).trans ?_ | refine (foldl_cells _ _ _ ?_).trans ?_ | refine (foldl_host _ _ _ ?_).trans ?_ | refine (foldl_sched _ _ _ ?_).trans ?_ | refine (foldl_flash _ _ _ ?_).trans ?_ | refine (foldl_store _ _ _ ?_).trans ?_ | refine (foldl_power _ _ _ ?_).trans ?_ | refine (foldl_mem _ _ _ ?_).trans ?_ | refine (foldl_cipher _ _ _ ?_).trans ?_ | refine (foldl_engines _ _ _ ?_).trans ?_ | refine (foldl_admin _ _ _ ?_).trans ?_ | refine (foldl_staing _ _ _ ?_).trans ?_ | refine (foldl_security _ _ _ ?_).trans ?_ | refine (foldl_migration _ _ _ ?_).trans ?_ | refine (foldl_pending _ _ _ ?_).trans ?_ | refine (foldl_now _ _ _ ?_).trans ?_ | refine (foldl_bootAt _ _ _ ?_).trans ?_ | refine (foldl_free _ _ _ ?_).trans ?_ | refine (foldl_out _ _ _ ?_).trans ?_ | refine (foldl_mem_dram _ _ _ ?_).trans ?_ | refine (foldl_engines_windows _ _ _ ?_).trans ?_) | (simp; done) | simp)

@[simp] theorem state_trainDram_frame (s : State) (c : Nat) (t : DramTraining) :
    (State.trainDram s c t).modes = s.modes ∧ (State.trainDram s c t).cells = s.cells ∧ (State.trainDram s c t).host = s.host ∧ (State.trainDram s c t).sched = s.sched ∧ (State.trainDram s c t).flash = s.flash ∧ (State.trainDram s c t).store = s.store ∧ (State.trainDram s c t).power = s.power ∧ (State.trainDram s c t).cipher = s.cipher ∧ (State.trainDram s c t).engines = s.engines ∧ (State.trainDram s c t).admin = s.admin ∧ (State.trainDram s c t).staing = s.staing ∧ (State.trainDram s c t).security = s.security ∧ (State.trainDram s c t).migration = s.migration ∧ (State.trainDram s c t).pending = s.pending ∧ (State.trainDram s c t).now = s.now ∧ (State.trainDram s c t).bootAt = s.bootAt ∧ (State.trainDram s c t).free = s.free ∧ (State.trainDram s c t).out = s.out ∧ (State.trainDram s c t).mem.dram = s.mem.dram := by
  simp only [State.trainDram]
  (repeat' split) <;> simp

@[simp] theorem state_startFill_frame (s : State) :
    (State.startFill s).modes = s.modes ∧ (State.startFill s).sampler = s.sampler ∧ (State.startFill s).cells = s.cells ∧ (State.startFill s).host = s.host ∧ (State.startFill s).sched = s.sched ∧ (State.startFill s).flash = s.flash ∧ (State.startFill s).store = s.store ∧ (State.startFill s).power = s.power ∧ (State.startFill s).cipher = s.cipher ∧ (State.startFill s).engines = s.engines ∧ (State.startFill s).admin = s.admin ∧ (State.startFill s).staing = s.staing ∧ (State.startFill s).security = s.security ∧ (State.startFill s).migration = s.migration ∧ (State.startFill s).pending = s.pending ∧ (State.startFill s).now = s.now ∧ (State.startFill s).bootAt = s.bootAt ∧ (State.startFill s).free = s.free ∧ (State.startFill s).out = s.out ∧ (State.startFill s).mem.dram = s.mem.dram := by
  simp only [State.startFill]
  (repeat' split) <;> simp

@[simp] theorem state_powerDram_frame (s : State) (ranks : List (Fin 4 × DramTraining)) :
    (State.powerDram s ranks).modes = s.modes ∧ (State.powerDram s ranks).cells = s.cells ∧ (State.powerDram s ranks).host = s.host ∧ (State.powerDram s ranks).sched = s.sched ∧ (State.powerDram s ranks).flash = s.flash ∧ (State.powerDram s ranks).store = s.store ∧ (State.powerDram s ranks).power = s.power ∧ (State.powerDram s ranks).cipher = s.cipher ∧ (State.powerDram s ranks).admin = s.admin ∧ (State.powerDram s ranks).staing = s.staing ∧ (State.powerDram s ranks).security = s.security ∧ (State.powerDram s ranks).migration = s.migration ∧ (State.powerDram s ranks).pending = s.pending ∧ (State.powerDram s ranks).now = s.now ∧ (State.powerDram s ranks).bootAt = s.bootAt ∧ (State.powerDram s ranks).free = s.free ∧ (State.powerDram s ranks).out = s.out ∧ (State.powerDram s ranks).mem.dram = s.mem.dram ∧ (State.powerDram s ranks).engines.windows = s.engines.windows := by
  unfold State.powerDram
  and_intros
  all_goals (repeat' first | rfl | assumption | (intros; trivial) | (dsimp only; done) | (intro _) | split | (first | refine (foldl_dict _ _ _ ?_).trans ?_ | refine (foldl_modes _ _ _ ?_).trans ?_ | refine (foldl_sampler _ _ _ ?_).trans ?_ | refine (foldl_cells _ _ _ ?_).trans ?_ | refine (foldl_host _ _ _ ?_).trans ?_ | refine (foldl_sched _ _ _ ?_).trans ?_ | refine (foldl_flash _ _ _ ?_).trans ?_ | refine (foldl_store _ _ _ ?_).trans ?_ | refine (foldl_power _ _ _ ?_).trans ?_ | refine (foldl_mem _ _ _ ?_).trans ?_ | refine (foldl_cipher _ _ _ ?_).trans ?_ | refine (foldl_engines _ _ _ ?_).trans ?_ | refine (foldl_admin _ _ _ ?_).trans ?_ | refine (foldl_staing _ _ _ ?_).trans ?_ | refine (foldl_security _ _ _ ?_).trans ?_ | refine (foldl_migration _ _ _ ?_).trans ?_ | refine (foldl_pending _ _ _ ?_).trans ?_ | refine (foldl_now _ _ _ ?_).trans ?_ | refine (foldl_bootAt _ _ _ ?_).trans ?_ | refine (foldl_free _ _ _ ?_).trans ?_ | refine (foldl_out _ _ _ ?_).trans ?_ | refine (foldl_mem_dram _ _ _ ?_).trans ?_ | refine (foldl_engines_windows _ _ _ ?_).trans ?_) | (simp; done) | simp)

@[simp] theorem state_placeMaps_frame (s : State) :
    (State.placeMaps s).modes = s.modes ∧ (State.placeMaps s).cells = s.cells ∧ (State.placeMaps s).host = s.host ∧ (State.placeMaps s).sched = s.sched ∧ (State.placeMaps s).flash = s.flash ∧ (State.placeMaps s).power = s.power ∧ (State.placeMaps s).mem = s.mem ∧ (State.placeMaps s).cipher = s.cipher ∧ (State.placeMaps s).engines = s.engines ∧ (State.placeMaps s).admin = s.admin ∧ (State.placeMaps s).staing = s.staing ∧ (State.placeMaps s).security = s.security ∧ (State.placeMaps s).migration = s.migration ∧ (State.placeMaps s).pending = s.pending ∧ (State.placeMaps s).now = s.now ∧ (State.placeMaps s).bootAt = s.bootAt ∧ (State.placeMaps s).free = s.free ∧ (State.placeMaps s).out = s.out := by
  unfold State.placeMaps
  simp

@[simp] theorem state_spendRequest_frame (s : State) :
    (State.spendRequest s).modes = s.modes ∧ (State.spendRequest s).sampler = s.sampler ∧ (State.spendRequest s).cells = s.cells ∧ (State.spendRequest s).host = s.host ∧ (State.spendRequest s).sched = s.sched ∧ (State.spendRequest s).flash = s.flash ∧ (State.spendRequest s).store = s.store ∧ (State.spendRequest s).mem = s.mem ∧ (State.spendRequest s).cipher = s.cipher ∧ (State.spendRequest s).engines = s.engines ∧ (State.spendRequest s).admin = s.admin ∧ (State.spendRequest s).staing = s.staing ∧ (State.spendRequest s).security = s.security ∧ (State.spendRequest s).migration = s.migration ∧ (State.spendRequest s).pending = s.pending ∧ (State.spendRequest s).now = s.now ∧ (State.spendRequest s).bootAt = s.bootAt ∧ (State.spendRequest s).free = s.free ∧ (State.spendRequest s).out = s.out := by
  unfold State.spendRequest
  simp

@[simp] theorem state_domainsOn_frame (s : State) :
    (State.domainsOn s).modes = s.modes ∧ (State.domainsOn s).cells = s.cells ∧ (State.domainsOn s).mem = s.mem ∧ (State.domainsOn s).admin = s.admin ∧ (State.domainsOn s).staing = s.staing ∧ (State.domainsOn s).security = s.security ∧ (State.domainsOn s).migration = s.migration ∧ (State.domainsOn s).pending = s.pending ∧ (State.domainsOn s).now = s.now ∧ (State.domainsOn s).bootAt = s.bootAt ∧ (State.domainsOn s).free = s.free ∧ (State.domainsOn s).engines.windows = s.engines.windows := by
  unfold State.domainsOn
  simp

@[simp] theorem state_domainsIdle_frame (s : State) :
    (State.domainsIdle s).dict = s.dict ∧ (State.domainsIdle s).modes = s.modes ∧ (State.domainsIdle s).sampler = s.sampler ∧ (State.domainsIdle s).host = s.host ∧ (State.domainsIdle s).sched = s.sched ∧ (State.domainsIdle s).flash = s.flash ∧ (State.domainsIdle s).store = s.store ∧ (State.domainsIdle s).cipher = s.cipher ∧ (State.domainsIdle s).engines = s.engines ∧ (State.domainsIdle s).admin = s.admin ∧ (State.domainsIdle s).staing = s.staing ∧ (State.domainsIdle s).security = s.security ∧ (State.domainsIdle s).migration = s.migration ∧ (State.domainsIdle s).pending = s.pending ∧ (State.domainsIdle s).now = s.now ∧ (State.domainsIdle s).bootAt = s.bootAt ∧ (State.domainsIdle s).free = s.free ∧ (State.domainsIdle s).out = s.out ∧ (State.domainsIdle s).mem.dram = s.mem.dram := by
  unfold State.domainsIdle
  and_intros
  all_goals (repeat' first | rfl | assumption | (intros; trivial) | (dsimp only; done) | (intro _) | split | (first | refine (foldl_dict _ _ _ ?_).trans ?_ | refine (foldl_modes _ _ _ ?_).trans ?_ | refine (foldl_sampler _ _ _ ?_).trans ?_ | refine (foldl_cells _ _ _ ?_).trans ?_ | refine (foldl_host _ _ _ ?_).trans ?_ | refine (foldl_sched _ _ _ ?_).trans ?_ | refine (foldl_flash _ _ _ ?_).trans ?_ | refine (foldl_store _ _ _ ?_).trans ?_ | refine (foldl_power _ _ _ ?_).trans ?_ | refine (foldl_mem _ _ _ ?_).trans ?_ | refine (foldl_cipher _ _ _ ?_).trans ?_ | refine (foldl_engines _ _ _ ?_).trans ?_ | refine (foldl_admin _ _ _ ?_).trans ?_ | refine (foldl_staing _ _ _ ?_).trans ?_ | refine (foldl_security _ _ _ ?_).trans ?_ | refine (foldl_migration _ _ _ ?_).trans ?_ | refine (foldl_pending _ _ _ ?_).trans ?_ | refine (foldl_now _ _ _ ?_).trans ?_ | refine (foldl_bootAt _ _ _ ?_).trans ?_ | refine (foldl_free _ _ _ ?_).trans ?_ | refine (foldl_out _ _ _ ?_).trans ?_ | refine (foldl_mem_dram _ _ _ ?_).trans ?_ | refine (foldl_engines_windows _ _ _ ?_).trans ?_) | (simp; done) | simp)

@[simp] theorem state_openLinks_frame (s : State) :
    (State.openLinks s).host = s.host ∧ (State.openLinks s).sched = s.sched ∧ (State.openLinks s).flash = s.flash ∧ (State.openLinks s).store = s.store ∧ (State.openLinks s).power = s.power ∧ (State.openLinks s).cipher = s.cipher ∧ (State.openLinks s).engines = s.engines ∧ (State.openLinks s).admin = s.admin ∧ (State.openLinks s).staing = s.staing ∧ (State.openLinks s).security = s.security ∧ (State.openLinks s).migration = s.migration ∧ (State.openLinks s).pending = s.pending ∧ (State.openLinks s).now = s.now ∧ (State.openLinks s).bootAt = s.bootAt ∧ (State.openLinks s).free = s.free ∧ (State.openLinks s).out = s.out := by
  unfold State.openLinks
  simp

@[simp] theorem state_leaveEntry_frame (s : State) :
    (State.leaveEntry s).staing = s.staing ∧ (State.leaveEntry s).pending = s.pending ∧ (State.leaveEntry s).now = s.now ∧ (State.leaveEntry s).bootAt = s.bootAt ∧ (State.leaveEntry s).free = s.free := by
  simp only [State.leaveEntry]
  (repeat' split) <;> simp

@[simp] theorem state_settleEntry_frame (s : State) :
    (State.settleEntry s).staing = s.staing ∧ (State.settleEntry s).pending = s.pending ∧ (State.settleEntry s).now = s.now ∧ (State.settleEntry s).bootAt = s.bootAt ∧ (State.settleEntry s).free = s.free := by
  unfold State.settleEntry
  (repeat' split) <;> simp

@[simp] theorem state_checkpointAll_frame (s : State) :
    (State.checkpointAll s).cells = s.cells ∧ (State.checkpointAll s).power = s.power ∧ (State.checkpointAll s).mem = s.mem ∧ (State.checkpointAll s).engines = s.engines ∧ (State.checkpointAll s).admin = s.admin ∧ (State.checkpointAll s).staing = s.staing ∧ (State.checkpointAll s).security = s.security ∧ (State.checkpointAll s).migration = s.migration ∧ (State.checkpointAll s).pending = s.pending ∧ (State.checkpointAll s).now = s.now ∧ (State.checkpointAll s).bootAt = s.bootAt ∧ (State.checkpointAll s).free = s.free := by
  unfold State.checkpointAll
  simp

@[simp] theorem state_prepareAiring_frame (s : State) :
    (State.prepareAiring s).cells = s.cells ∧ (State.prepareAiring s).mem = s.mem ∧ (State.prepareAiring s).engines = s.engines ∧ (State.prepareAiring s).admin = s.admin ∧ (State.prepareAiring s).staing = s.staing ∧ (State.prepareAiring s).security = s.security ∧ (State.prepareAiring s).migration = s.migration ∧ (State.prepareAiring s).pending = s.pending ∧ (State.prepareAiring s).now = s.now ∧ (State.prepareAiring s).bootAt = s.bootAt ∧ (State.prepareAiring s).free = s.free := by
  unfold State.prepareAiring
  simp

@[simp] theorem state_startEntry_frame (s : State) :
    (State.startEntry s).admin = s.admin ∧ (State.startEntry s).staing = s.staing ∧ (State.startEntry s).security = s.security ∧ (State.startEntry s).migration = s.migration ∧ (State.startEntry s).pending = s.pending ∧ (State.startEntry s).now = s.now ∧ (State.startEntry s).bootAt = s.bootAt ∧ (State.startEntry s).free = s.free ∧ (State.startEntry s).engines.windows = s.engines.windows := by
  unfold State.startEntry
  (repeat' split) <;> simp

@[simp] theorem state_stopEffect_frame (s : State) (d : Nat) :
    (State.stopEffect s d).modes = s.modes ∧ (State.stopEffect s d).sampler = s.sampler ∧ (State.stopEffect s d).host = s.host ∧ (State.stopEffect s d).sched = s.sched ∧ (State.stopEffect s d).flash = s.flash ∧ (State.stopEffect s d).store = s.store ∧ (State.stopEffect s d).power = s.power ∧ (State.stopEffect s d).cipher = s.cipher ∧ (State.stopEffect s d).engines = s.engines ∧ (State.stopEffect s d).admin = s.admin ∧ (State.stopEffect s d).staing = s.staing ∧ (State.stopEffect s d).security = s.security ∧ (State.stopEffect s d).migration = s.migration ∧ (State.stopEffect s d).pending = s.pending ∧ (State.stopEffect s d).now = s.now ∧ (State.stopEffect s d).bootAt = s.bootAt ∧ (State.stopEffect s d).free = s.free ∧ (State.stopEffect s d).out = s.out ∧ (State.stopEffect s d).mem.dram = s.mem.dram := by
  unfold State.stopEffect
  (repeat' split) <;> simp

@[simp] theorem state_fallAsleep_frame (s : State) :
    (State.fallAsleep s).cells = s.cells ∧ (State.fallAsleep s).host = s.host ∧ (State.fallAsleep s).flash = s.flash ∧ (State.fallAsleep s).store = s.store ∧ (State.fallAsleep s).cipher = s.cipher ∧ (State.fallAsleep s).engines = s.engines ∧ (State.fallAsleep s).admin = s.admin ∧ (State.fallAsleep s).staing = s.staing ∧ (State.fallAsleep s).security = s.security ∧ (State.fallAsleep s).migration = s.migration ∧ (State.fallAsleep s).pending = s.pending ∧ (State.fallAsleep s).now = s.now ∧ (State.fallAsleep s).bootAt = s.bootAt ∧ (State.fallAsleep s).free = s.free ∧ (State.fallAsleep s).out = s.out := by
  unfold State.fallAsleep
  simp

@[simp] theorem state_advanceEntry_frame (s : State) (y0 : Nat) :
    (State.advanceEntry s y0).cells = s.cells ∧ (State.advanceEntry s y0).host = s.host ∧ (State.advanceEntry s y0).flash = s.flash ∧ (State.advanceEntry s y0).store = s.store ∧ (State.advanceEntry s y0).cipher = s.cipher ∧ (State.advanceEntry s y0).engines = s.engines ∧ (State.advanceEntry s y0).admin = s.admin ∧ (State.advanceEntry s y0).staing = s.staing ∧ (State.advanceEntry s y0).security = s.security ∧ (State.advanceEntry s y0).migration = s.migration ∧ (State.advanceEntry s y0).pending = s.pending ∧ (State.advanceEntry s y0).now = s.now ∧ (State.advanceEntry s y0).bootAt = s.bootAt ∧ (State.advanceEntry s y0).free = s.free ∧ (State.advanceEntry s y0).out = s.out := by
  induction y0 generalizing s <;> unfold State.advanceEntry <;> (repeat' split) <;> simp [*]

@[simp] theorem state_refuseEntry_frame (s : State) (d : Nat) :
    (State.refuseEntry s d).staing = s.staing ∧ (State.refuseEntry s d).pending = s.pending ∧ (State.refuseEntry s d).now = s.now ∧ (State.refuseEntry s d).bootAt = s.bootAt ∧ (State.refuseEntry s d).free = s.free := by
  unfold State.refuseEntry
  simp

@[simp] theorem state_awaken_frame (s : State) (code : Nat) (ranks : List (Fin 4 × DramTraining)) :
    (State.awaken s code ranks).staing = s.staing ∧ (State.awaken s code ranks).pending = s.pending ∧ (State.awaken s code ranks).now = s.now ∧ (State.awaken s code ranks).bootAt = s.bootAt ∧ (State.awaken s code ranks).free = s.free := by
  unfold State.awaken
  (repeat' split) <;> simp

@[simp] theorem state_airingPlane_frame (s : State) (g : Nat) :
    (State.airingPlane s g).dict = s.dict ∧ (State.airingPlane s g).modes = s.modes ∧ (State.airingPlane s g).sampler = s.sampler ∧ (State.airingPlane s g).host = s.host ∧ (State.airingPlane s g).sched = s.sched ∧ (State.airingPlane s g).flash = s.flash ∧ (State.airingPlane s g).store = s.store ∧ (State.airingPlane s g).power = s.power ∧ (State.airingPlane s g).mem = s.mem ∧ (State.airingPlane s g).cipher = s.cipher ∧ (State.airingPlane s g).engines = s.engines ∧ (State.airingPlane s g).admin = s.admin ∧ (State.airingPlane s g).staing = s.staing ∧ (State.airingPlane s g).security = s.security ∧ (State.airingPlane s g).migration = s.migration ∧ (State.airingPlane s g).pending = s.pending ∧ (State.airingPlane s g).now = s.now ∧ (State.airingPlane s g).bootAt = s.bootAt ∧ (State.airingPlane s g).free = s.free ∧ (State.airingPlane s g).out = s.out := by
  unfold State.airingPlane
  simp

@[simp] theorem state_airing_frame (s : State) (skipped : List (Fin 4)) (failBits : List (Nat × Nat × Bool)) (readable : Bool) :
    (State.airing s skipped failBits readable).staing = s.staing ∧ (State.airing s skipped failBits readable).pending = s.pending ∧ (State.airing s skipped failBits readable).now = s.now ∧ (State.airing s skipped failBits readable).bootAt = s.bootAt ∧ (State.airing s skipped failBits readable).free = s.free := by
  simp only [State.airing]
  (repeat' split) <;> simp

@[simp] theorem state_wakeForDump_frame (s : State) :
    (State.wakeForDump s).admin = s.admin ∧ (State.wakeForDump s).staing = s.staing ∧ (State.wakeForDump s).security = s.security ∧ (State.wakeForDump s).migration = s.migration ∧ (State.wakeForDump s).pending = s.pending ∧ (State.wakeForDump s).now = s.now ∧ (State.wakeForDump s).bootAt = s.bootAt ∧ (State.wakeForDump s).free = s.free ∧ (State.wakeForDump s).engines.windows = s.engines.windows := by
  unfold State.wakeForDump
  (repeat' split) <;> simp

@[simp] theorem state_beginDump_frame (s : State) :
    (State.beginDump s).mem = s.mem ∧ (State.beginDump s).staing = s.staing ∧ (State.beginDump s).security = s.security ∧ (State.beginDump s).pending = s.pending ∧ (State.beginDump s).now = s.now ∧ (State.beginDump s).bootAt = s.bootAt ∧ (State.beginDump s).free = s.free := by
  unfold State.beginDump
  simp

@[simp] theorem state_enterHoldUp_frame (s : State) :
    (State.enterHoldUp s).staing = s.staing ∧ (State.enterHoldUp s).security = s.security ∧ (State.enterHoldUp s).pending = s.pending ∧ (State.enterHoldUp s).now = s.now ∧ (State.enterHoldUp s).bootAt = s.bootAt ∧ (State.enterHoldUp s).free = s.free := by
  unfold State.enterHoldUp
  simp

@[simp] theorem state_closeJournal_frame (s : State) :
    (State.closeJournal s).modes = s.modes ∧ (State.closeJournal s).sampler = s.sampler ∧ (State.closeJournal s).cells = s.cells ∧ (State.closeJournal s).host = s.host ∧ (State.closeJournal s).sched = s.sched ∧ (State.closeJournal s).power = s.power ∧ (State.closeJournal s).mem = s.mem ∧ (State.closeJournal s).cipher = s.cipher ∧ (State.closeJournal s).engines = s.engines ∧ (State.closeJournal s).admin = s.admin ∧ (State.closeJournal s).staing = s.staing ∧ (State.closeJournal s).security = s.security ∧ (State.closeJournal s).migration = s.migration ∧ (State.closeJournal s).pending = s.pending ∧ (State.closeJournal s).now = s.now ∧ (State.closeJournal s).bootAt = s.bootAt ∧ (State.closeJournal s).free = s.free ∧ (State.closeJournal s).out = s.out := by
  simp only [State.closeJournal]
  (repeat' split) <;> simp

@[simp] theorem state_dumpSlots_frame (s : State) :
    (State.dumpSlots s).2.modes = s.modes ∧ (State.dumpSlots s).2.cells = s.cells ∧ (State.dumpSlots s).2.host = s.host ∧ (State.dumpSlots s).2.sched = s.sched ∧ (State.dumpSlots s).2.flash = s.flash ∧ (State.dumpSlots s).2.store = s.store ∧ (State.dumpSlots s).2.power = s.power ∧ (State.dumpSlots s).2.mem = s.mem ∧ (State.dumpSlots s).2.engines = s.engines ∧ (State.dumpSlots s).2.admin = s.admin ∧ (State.dumpSlots s).2.staing = s.staing ∧ (State.dumpSlots s).2.security = s.security ∧ (State.dumpSlots s).2.migration = s.migration ∧ (State.dumpSlots s).2.pending = s.pending ∧ (State.dumpSlots s).2.now = s.now ∧ (State.dumpSlots s).2.bootAt = s.bootAt ∧ (State.dumpSlots s).2.free = s.free ∧ (State.dumpSlots s).2.out = s.out := by
  unfold State.dumpSlots
  simp (disch := (intros; (repeat' split) <;> simp))

@[simp] theorem state_endDump_frame (s : State) (us : Nat) :
    (State.endDump s us).cells = s.cells ∧ (State.endDump s us).host = s.host ∧ (State.endDump s us).mem = s.mem ∧ (State.endDump s us).engines = s.engines ∧ (State.endDump s us).admin = s.admin ∧ (State.endDump s us).staing = s.staing ∧ (State.endDump s us).security = s.security ∧ (State.endDump s us).migration = s.migration ∧ (State.endDump s us).pending = s.pending ∧ (State.endDump s us).now = s.now ∧ (State.endDump s us).bootAt = s.bootAt ∧ (State.endDump s us).free = s.free ∧ (State.endDump s us).out = s.out := by
  unfold State.endDump
  simp

@[simp] theorem state_loadMaps_frame (s : State) (cs : List SegCopy) :
    (State.loadMaps s cs).dict = s.dict ∧ (State.loadMaps s cs).modes = s.modes ∧ (State.loadMaps s cs).sampler = s.sampler ∧ (State.loadMaps s cs).cells = s.cells ∧ (State.loadMaps s cs).host = s.host ∧ (State.loadMaps s cs).sched = s.sched ∧ (State.loadMaps s cs).flash = s.flash ∧ (State.loadMaps s cs).power = s.power ∧ (State.loadMaps s cs).mem = s.mem ∧ (State.loadMaps s cs).cipher = s.cipher ∧ (State.loadMaps s cs).engines = s.engines ∧ (State.loadMaps s cs).admin = s.admin ∧ (State.loadMaps s cs).staing = s.staing ∧ (State.loadMaps s cs).security = s.security ∧ (State.loadMaps s cs).migration = s.migration ∧ (State.loadMaps s cs).pending = s.pending ∧ (State.loadMaps s cs).now = s.now ∧ (State.loadMaps s cs).bootAt = s.bootAt ∧ (State.loadMaps s cs).free = s.free ∧ (State.loadMaps s cs).out = s.out := by
  unfold State.loadMaps
  simp

@[simp] theorem state_resumeJournal_frame (s : State) (stop : Nat) (cs : List SegCopy) (touched : List (Nat × Nat)) :
    (State.resumeJournal s stop cs touched).modes = s.modes ∧ (State.resumeJournal s stop cs touched).sampler = s.sampler ∧ (State.resumeJournal s stop cs touched).cells = s.cells ∧ (State.resumeJournal s stop cs touched).host = s.host ∧ (State.resumeJournal s stop cs touched).sched = s.sched ∧ (State.resumeJournal s stop cs touched).power = s.power ∧ (State.resumeJournal s stop cs touched).cipher = s.cipher ∧ (State.resumeJournal s stop cs touched).engines = s.engines ∧ (State.resumeJournal s stop cs touched).admin = s.admin ∧ (State.resumeJournal s stop cs touched).staing = s.staing ∧ (State.resumeJournal s stop cs touched).security = s.security ∧ (State.resumeJournal s stop cs touched).migration = s.migration ∧ (State.resumeJournal s stop cs touched).pending = s.pending ∧ (State.resumeJournal s stop cs touched).now = s.now ∧ (State.resumeJournal s stop cs touched).bootAt = s.bootAt ∧ (State.resumeJournal s stop cs touched).free = s.free ∧ (State.resumeJournal s stop cs touched).out = s.out ∧ (State.resumeJournal s stop cs touched).mem.dram = s.mem.dram := by
  unfold State.resumeJournal
  simp

theorem replayed_record_keeps (conf here : Nat) (cs : List SegCopy) (g : Nat) (r : Replayed) (x : JRec) :
    ∃ st, (Replayed.record conf here cs g r x).state = { r.state with store := st } := by
  cases x <;> simp only [Replayed.record] <;> (repeat' split) <;> exact ⟨_, rfl⟩

theorem replayed_foldl_keeps {α : Type} (g : Replayed → α → Replayed) (l : List α) (r : Replayed)
    (h : ∀ a e, ∃ st, (g a e).state = { a.state with store := st }) :
    ∃ st, (l.foldl g r).state = { r.state with store := st } := by
  induction l generalizing r with
  | nil => exact ⟨r.state.store, rfl⟩
  | cons e t ih =>
    obtain ⟨st, h1⟩ := h r e
    obtain ⟨st2, h2⟩ := ih (g r e)
    exact ⟨st2, by rw [List.foldl_cons, h2, h1]⟩

theorem replayed_pages_keep (conf : Nat) (cs : List SegCopy) (ps : List JPage) (r : Replayed) :
    ∃ st, (ps.foldl (Replayed.page conf cs) r).state = { r.state with store := st } :=
  replayed_foldl_keeps _ _ _ fun _ p => replayed_foldl_keeps _ p.recs _ fun _ x => replayed_record_keeps conf p.conf cs p.seq _ x

@[simp] theorem state_replayJournal_frame (s : State) (bad : List Nat) :
    (State.replayJournal s bad).modes = s.modes ∧ (State.replayJournal s bad).sampler = s.sampler ∧ (State.replayJournal s bad).cells = s.cells ∧ (State.replayJournal s bad).host = s.host ∧ (State.replayJournal s bad).sched = s.sched ∧ (State.replayJournal s bad).power = s.power ∧ (State.replayJournal s bad).cipher = s.cipher ∧ (State.replayJournal s bad).engines = s.engines ∧ (State.replayJournal s bad).admin = s.admin ∧ (State.replayJournal s bad).staing = s.staing ∧ (State.replayJournal s bad).security = s.security ∧ (State.replayJournal s bad).migration = s.migration ∧ (State.replayJournal s bad).pending = s.pending ∧ (State.replayJournal s bad).now = s.now ∧ (State.replayJournal s bad).bootAt = s.bootAt ∧ (State.replayJournal s bad).free = s.free ∧ (State.replayJournal s bad).out = s.out ∧ (State.replayJournal s bad).mem.dram = s.mem.dram := by
  obtain ⟨st, h⟩ := replayed_pages_keep
    ((s.store.journal.readable (s.store.journal.stop bad)).getLast?.elim 0 (·.conf))
    ((s.store.journal.loadable (s.store.journal.stop bad)).filter s.copyDue)
    (s.store.journal.readable (s.store.journal.stop bad))
    ⟨s.loadMaps ((s.store.journal.loadable (s.store.journal.stop bad)).filter s.copyDue), 0, 0, []⟩
  unfold State.replayJournal
  dsimp only at h ⊢
  split <;> simp [h]

@[simp] theorem state_dropTargets_frame (s : State) (stop : Nat) :
    (State.dropTargets s stop).modes = s.modes ∧ (State.dropTargets s stop).sampler = s.sampler ∧ (State.dropTargets s stop).cells = s.cells ∧ (State.dropTargets s stop).host = s.host ∧ (State.dropTargets s stop).sched = s.sched ∧ (State.dropTargets s stop).flash = s.flash ∧ (State.dropTargets s stop).power = s.power ∧ (State.dropTargets s stop).mem = s.mem ∧ (State.dropTargets s stop).cipher = s.cipher ∧ (State.dropTargets s stop).engines = s.engines ∧ (State.dropTargets s stop).admin = s.admin ∧ (State.dropTargets s stop).staing = s.staing ∧ (State.dropTargets s stop).security = s.security ∧ (State.dropTargets s stop).migration = s.migration ∧ (State.dropTargets s stop).pending = s.pending ∧ (State.dropTargets s stop).now = s.now ∧ (State.dropTargets s stop).bootAt = s.bootAt ∧ (State.dropTargets s stop).free = s.free ∧ (State.dropTargets s stop).out = s.out := by
  unfold State.dropTargets
  simp

@[simp] theorem state_dropReplacing_frame (s : State) :
    (State.dropReplacing s).dict = s.dict ∧ (State.dropReplacing s).modes = s.modes ∧ (State.dropReplacing s).sampler = s.sampler ∧ (State.dropReplacing s).cells = s.cells ∧ (State.dropReplacing s).host = s.host ∧ (State.dropReplacing s).sched = s.sched ∧ (State.dropReplacing s).flash = s.flash ∧ (State.dropReplacing s).power = s.power ∧ (State.dropReplacing s).mem = s.mem ∧ (State.dropReplacing s).cipher = s.cipher ∧ (State.dropReplacing s).engines = s.engines ∧ (State.dropReplacing s).admin = s.admin ∧ (State.dropReplacing s).staing = s.staing ∧ (State.dropReplacing s).security = s.security ∧ (State.dropReplacing s).migration = s.migration ∧ (State.dropReplacing s).pending = s.pending ∧ (State.dropReplacing s).now = s.now ∧ (State.dropReplacing s).bootAt = s.bootAt ∧ (State.dropReplacing s).free = s.free ∧ (State.dropReplacing s).out = s.out := by
  unfold State.dropReplacing
  simp

@[simp] theorem state_stopStripes_frame (s : State) :
    (State.stopStripes s).modes = s.modes ∧ (State.stopStripes s).sampler = s.sampler ∧ (State.stopStripes s).cells = s.cells ∧ (State.stopStripes s).host = s.host ∧ (State.stopStripes s).sched = s.sched ∧ (State.stopStripes s).flash = s.flash ∧ (State.stopStripes s).power = s.power ∧ (State.stopStripes s).mem = s.mem ∧ (State.stopStripes s).cipher = s.cipher ∧ (State.stopStripes s).staing = s.staing ∧ (State.stopStripes s).security = s.security ∧ (State.stopStripes s).migration = s.migration ∧ (State.stopStripes s).pending = s.pending ∧ (State.stopStripes s).now = s.now ∧ (State.stopStripes s).bootAt = s.bootAt ∧ (State.stopStripes s).free = s.free := by
  unfold State.stopStripes
  simp

@[simp] theorem state_settleStripes_frame (s : State) (stop : Nat) :
    (State.settleStripes s stop).modes = s.modes ∧ (State.settleStripes s stop).sampler = s.sampler ∧ (State.settleStripes s stop).cells = s.cells ∧ (State.settleStripes s stop).host = s.host ∧ (State.settleStripes s stop).sched = s.sched ∧ (State.settleStripes s stop).flash = s.flash ∧ (State.settleStripes s stop).power = s.power ∧ (State.settleStripes s stop).mem = s.mem ∧ (State.settleStripes s stop).cipher = s.cipher ∧ (State.settleStripes s stop).staing = s.staing ∧ (State.settleStripes s stop).security = s.security ∧ (State.settleStripes s stop).migration = s.migration ∧ (State.settleStripes s stop).pending = s.pending ∧ (State.settleStripes s stop).now = s.now ∧ (State.settleStripes s stop).bootAt = s.bootAt ∧ (State.settleStripes s stop).free = s.free := by
  unfold State.settleStripes
  simp

@[simp] theorem state_refillZone_frame (s : State) (nsid : Nat) (z : Nat) (base : Nat) (y : Zone) (t : Stripe) :
    (State.refillZone s nsid z base y t).dict = s.dict ∧ (State.refillZone s nsid z base y t).modes = s.modes ∧ (State.refillZone s nsid z base y t).sampler = s.sampler ∧ (State.refillZone s nsid z base y t).cells = s.cells ∧ (State.refillZone s nsid z base y t).host = s.host ∧ (State.refillZone s nsid z base y t).sched = s.sched ∧ (State.refillZone s nsid z base y t).flash = s.flash ∧ (State.refillZone s nsid z base y t).power = s.power ∧ (State.refillZone s nsid z base y t).mem = s.mem ∧ (State.refillZone s nsid z base y t).cipher = s.cipher ∧ (State.refillZone s nsid z base y t).engines = s.engines ∧ (State.refillZone s nsid z base y t).admin = s.admin ∧ (State.refillZone s nsid z base y t).staing = s.staing ∧ (State.refillZone s nsid z base y t).security = s.security ∧ (State.refillZone s nsid z base y t).migration = s.migration ∧ (State.refillZone s nsid z base y t).pending = s.pending ∧ (State.refillZone s nsid z base y t).now = s.now ∧ (State.refillZone s nsid z base y t).bootAt = s.bootAt ∧ (State.refillZone s nsid z base y t).free = s.free ∧ (State.refillZone s nsid z base y t).out = s.out := by
  unfold State.refillZone
  and_intros
  all_goals (repeat' first | rfl | assumption | (intros; trivial) | (dsimp only; done) | (intro _) | split | (first | refine (foldl_dict _ _ _ ?_).trans ?_ | refine (foldl_modes _ _ _ ?_).trans ?_ | refine (foldl_sampler _ _ _ ?_).trans ?_ | refine (foldl_cells _ _ _ ?_).trans ?_ | refine (foldl_host _ _ _ ?_).trans ?_ | refine (foldl_sched _ _ _ ?_).trans ?_ | refine (foldl_flash _ _ _ ?_).trans ?_ | refine (foldl_store _ _ _ ?_).trans ?_ | refine (foldl_power _ _ _ ?_).trans ?_ | refine (foldl_mem _ _ _ ?_).trans ?_ | refine (foldl_cipher _ _ _ ?_).trans ?_ | refine (foldl_engines _ _ _ ?_).trans ?_ | refine (foldl_admin _ _ _ ?_).trans ?_ | refine (foldl_staing _ _ _ ?_).trans ?_ | refine (foldl_security _ _ _ ?_).trans ?_ | refine (foldl_migration _ _ _ ?_).trans ?_ | refine (foldl_pending _ _ _ ?_).trans ?_ | refine (foldl_now _ _ _ ?_).trans ?_ | refine (foldl_bootAt _ _ _ ?_).trans ?_ | refine (foldl_free _ _ _ ?_).trans ?_ | refine (foldl_out _ _ _ ?_).trans ?_ | refine (foldl_mem_dram _ _ _ ?_).trans ?_ | refine (foldl_engines_windows _ _ _ ?_).trans ?_) | (simp; done) | simp)

@[simp] theorem state_rebuildZone_frame (s : State) (nsid : Nat) (n : Ns) (kept : Bool) (z : Nat) :
    (State.rebuildZone s nsid n kept z).modes = s.modes ∧ (State.rebuildZone s nsid n kept z).cells = s.cells ∧ (State.rebuildZone s nsid n kept z).host = s.host ∧ (State.rebuildZone s nsid n kept z).sched = s.sched ∧ (State.rebuildZone s nsid n kept z).power = s.power ∧ (State.rebuildZone s nsid n kept z).mem = s.mem ∧ (State.rebuildZone s nsid n kept z).cipher = s.cipher ∧ (State.rebuildZone s nsid n kept z).engines = s.engines ∧ (State.rebuildZone s nsid n kept z).admin = s.admin ∧ (State.rebuildZone s nsid n kept z).staing = s.staing ∧ (State.rebuildZone s nsid n kept z).security = s.security ∧ (State.rebuildZone s nsid n kept z).migration = s.migration ∧ (State.rebuildZone s nsid n kept z).pending = s.pending ∧ (State.rebuildZone s nsid n kept z).now = s.now ∧ (State.rebuildZone s nsid n kept z).bootAt = s.bootAt ∧ (State.rebuildZone s nsid n kept z).free = s.free ∧ (State.rebuildZone s nsid n kept z).out = s.out := by
  unfold State.rebuildZone
  dsimp only
  split
  · cases (s.zoneThen nsid z n).stripe <;> simp
  · split
    · simp
    · split
      · simp
      · split <;> simp

@[simp] theorem state_rebuildZones_frame (s : State) (kept : Bool) :
    (State.rebuildZones s kept).modes = s.modes ∧ (State.rebuildZones s kept).cells = s.cells ∧ (State.rebuildZones s kept).host = s.host ∧ (State.rebuildZones s kept).sched = s.sched ∧ (State.rebuildZones s kept).power = s.power ∧ (State.rebuildZones s kept).mem = s.mem ∧ (State.rebuildZones s kept).cipher = s.cipher ∧ (State.rebuildZones s kept).engines = s.engines ∧ (State.rebuildZones s kept).admin = s.admin ∧ (State.rebuildZones s kept).staing = s.staing ∧ (State.rebuildZones s kept).security = s.security ∧ (State.rebuildZones s kept).migration = s.migration ∧ (State.rebuildZones s kept).pending = s.pending ∧ (State.rebuildZones s kept).now = s.now ∧ (State.rebuildZones s kept).bootAt = s.bootAt ∧ (State.rebuildZones s kept).free = s.free ∧ (State.rebuildZones s kept).out = s.out := by
  unfold State.rebuildZones
  and_intros
  all_goals (repeat' first | rfl | assumption | (intros; trivial) | (dsimp only; done) | (intro _) | split | (first | refine (foldl_dict _ _ _ ?_).trans ?_ | refine (foldl_modes _ _ _ ?_).trans ?_ | refine (foldl_sampler _ _ _ ?_).trans ?_ | refine (foldl_cells _ _ _ ?_).trans ?_ | refine (foldl_host _ _ _ ?_).trans ?_ | refine (foldl_sched _ _ _ ?_).trans ?_ | refine (foldl_flash _ _ _ ?_).trans ?_ | refine (foldl_store _ _ _ ?_).trans ?_ | refine (foldl_power _ _ _ ?_).trans ?_ | refine (foldl_mem _ _ _ ?_).trans ?_ | refine (foldl_cipher _ _ _ ?_).trans ?_ | refine (foldl_engines _ _ _ ?_).trans ?_ | refine (foldl_admin _ _ _ ?_).trans ?_ | refine (foldl_staing _ _ _ ?_).trans ?_ | refine (foldl_security _ _ _ ?_).trans ?_ | refine (foldl_migration _ _ _ ?_).trans ?_ | refine (foldl_pending _ _ _ ?_).trans ?_ | refine (foldl_now _ _ _ ?_).trans ?_ | refine (foldl_bootAt _ _ _ ?_).trans ?_ | refine (foldl_free _ _ _ ?_).trans ?_ | refine (foldl_out _ _ _ ?_).trans ?_ | refine (foldl_mem_dram _ _ _ ?_).trans ?_ | refine (foldl_engines_windows _ _ _ ?_).trans ?_) | (simp; done) | simp)

@[simp] theorem state_dropZoneStripes_frame (s : State) :
    (State.dropZoneStripes s).modes = s.modes ∧ (State.dropZoneStripes s).sampler = s.sampler ∧ (State.dropZoneStripes s).cells = s.cells ∧ (State.dropZoneStripes s).host = s.host ∧ (State.dropZoneStripes s).sched = s.sched ∧ (State.dropZoneStripes s).flash = s.flash ∧ (State.dropZoneStripes s).power = s.power ∧ (State.dropZoneStripes s).mem = s.mem ∧ (State.dropZoneStripes s).cipher = s.cipher ∧ (State.dropZoneStripes s).engines = s.engines ∧ (State.dropZoneStripes s).admin = s.admin ∧ (State.dropZoneStripes s).staing = s.staing ∧ (State.dropZoneStripes s).security = s.security ∧ (State.dropZoneStripes s).migration = s.migration ∧ (State.dropZoneStripes s).pending = s.pending ∧ (State.dropZoneStripes s).now = s.now ∧ (State.dropZoneStripes s).bootAt = s.bootAt ∧ (State.dropZoneStripes s).free = s.free ∧ (State.dropZoneStripes s).out = s.out := by
  unfold State.dropZoneStripes
  simp (disch := (intros; (repeat' split) <;> simp))

@[simp] theorem state_refillSlots_frame (s : State) :
    (State.refillSlots s).modes = s.modes ∧ (State.refillSlots s).sampler = s.sampler ∧ (State.refillSlots s).cells = s.cells ∧ (State.refillSlots s).sched = s.sched ∧ (State.refillSlots s).flash = s.flash ∧ (State.refillSlots s).power = s.power ∧ (State.refillSlots s).mem = s.mem ∧ (State.refillSlots s).cipher = s.cipher ∧ (State.refillSlots s).engines = s.engines ∧ (State.refillSlots s).admin = s.admin ∧ (State.refillSlots s).staing = s.staing ∧ (State.refillSlots s).security = s.security ∧ (State.refillSlots s).migration = s.migration ∧ (State.refillSlots s).pending = s.pending ∧ (State.refillSlots s).now = s.now ∧ (State.refillSlots s).bootAt = s.bootAt ∧ (State.refillSlots s).free = s.free ∧ (State.refillSlots s).out = s.out := by
  unfold State.refillSlots
  and_intros
  all_goals
    (first | refine foldl_modes _ _ _ ?_ | refine foldl_sampler _ _ _ ?_ | refine foldl_cells _ _ _ ?_ | refine foldl_sched _ _ _ ?_ | refine foldl_flash _ _ _ ?_ | refine foldl_power _ _ _ ?_ | refine foldl_mem _ _ _ ?_ | refine foldl_cipher _ _ _ ?_ | refine foldl_engines _ _ _ ?_ | refine foldl_admin _ _ _ ?_ | refine foldl_staing _ _ _ ?_ | refine foldl_security _ _ _ ?_ | refine foldl_migration _ _ _ ?_ | refine foldl_pending _ _ _ ?_ | refine foldl_now _ _ _ ?_ | refine foldl_bootAt _ _ _ ?_ | refine foldl_free _ _ _ ?_ | refine foldl_out _ _ _ ?_)
    intro a e
    (first | refine foldl_modes _ _ _ ?_ | refine foldl_sampler _ _ _ ?_ | refine foldl_cells _ _ _ ?_ | refine foldl_sched _ _ _ ?_ | refine foldl_flash _ _ _ ?_ | refine foldl_power _ _ _ ?_ | refine foldl_mem _ _ _ ?_ | refine foldl_cipher _ _ _ ?_ | refine foldl_engines _ _ _ ?_ | refine foldl_admin _ _ _ ?_ | refine foldl_staing _ _ _ ?_ | refine foldl_security _ _ _ ?_ | refine foldl_migration _ _ _ ?_ | refine foldl_pending _ _ _ ?_ | refine foldl_now _ _ _ ?_ | refine foldl_bootAt _ _ _ ?_ | refine foldl_free _ _ _ ?_ | refine foldl_out _ _ _ ?_)
    intro b z
    dsimp only
    split <;> simp

@[simp] theorem state_refillZones_frame (s : State) :
    (State.refillZones s).modes = s.modes ∧ (State.refillZones s).sampler = s.sampler ∧ (State.refillZones s).cells = s.cells ∧ (State.refillZones s).sched = s.sched ∧ (State.refillZones s).flash = s.flash ∧ (State.refillZones s).power = s.power ∧ (State.refillZones s).mem = s.mem ∧ (State.refillZones s).cipher = s.cipher ∧ (State.refillZones s).engines = s.engines ∧ (State.refillZones s).admin = s.admin ∧ (State.refillZones s).staing = s.staing ∧ (State.refillZones s).security = s.security ∧ (State.refillZones s).migration = s.migration ∧ (State.refillZones s).pending = s.pending ∧ (State.refillZones s).now = s.now ∧ (State.refillZones s).bootAt = s.bootAt ∧ (State.refillZones s).free = s.free ∧ (State.refillZones s).out = s.out := by
  unfold State.refillZones
  simp

@[simp] theorem state_restoreSlot_frame (s : State) (x : Slot) :
    (State.restoreSlot s x).modes = s.modes ∧ (State.restoreSlot s x).sampler = s.sampler ∧ (State.restoreSlot s x).cells = s.cells ∧ (State.restoreSlot s x).host = s.host ∧ (State.restoreSlot s x).sched = s.sched ∧ (State.restoreSlot s x).power = s.power ∧ (State.restoreSlot s x).mem = s.mem ∧ (State.restoreSlot s x).cipher = s.cipher ∧ (State.restoreSlot s x).engines = s.engines ∧ (State.restoreSlot s x).admin = s.admin ∧ (State.restoreSlot s x).staing = s.staing ∧ (State.restoreSlot s x).security = s.security ∧ (State.restoreSlot s x).migration = s.migration ∧ (State.restoreSlot s x).pending = s.pending ∧ (State.restoreSlot s x).now = s.now ∧ (State.restoreSlot s x).bootAt = s.bootAt ∧ (State.restoreSlot s x).free = s.free ∧ (State.restoreSlot s x).out = s.out := by
  unfold State.restoreSlot
  (repeat' split) <;> grind [state_advanceParity_frame, state_bump_frame, state_journal_frame, → state_placeFirst_some, state_putStored_frame, state_setJournal_frame, state_setUnit_frame]

@[simp] theorem state_replayMaps_frame (s : State) (bad : List Nat) :
    (State.replayMaps s bad).modes = s.modes ∧ (State.replayMaps s bad).sampler = s.sampler ∧ (State.replayMaps s bad).cells = s.cells ∧ (State.replayMaps s bad).host = s.host ∧ (State.replayMaps s bad).sched = s.sched ∧ (State.replayMaps s bad).power = s.power ∧ (State.replayMaps s bad).cipher = s.cipher ∧ (State.replayMaps s bad).staing = s.staing ∧ (State.replayMaps s bad).security = s.security ∧ (State.replayMaps s bad).migration = s.migration ∧ (State.replayMaps s bad).pending = s.pending ∧ (State.replayMaps s bad).now = s.now ∧ (State.replayMaps s bad).bootAt = s.bootAt ∧ (State.replayMaps s bad).free = s.free ∧ (State.replayMaps s bad).mem.dram = s.mem.dram := by
  unfold State.replayMaps
  simp

@[simp] theorem state_replayDump_frame (s : State) (clean : Bool) :
    (State.replayDump s clean).modes = s.modes ∧ (State.replayDump s clean).cells = s.cells ∧ (State.replayDump s clean).sched = s.sched ∧ (State.replayDump s clean).power = s.power ∧ (State.replayDump s clean).mem = s.mem ∧ (State.replayDump s clean).cipher = s.cipher ∧ (State.replayDump s clean).engines = s.engines ∧ (State.replayDump s clean).admin = s.admin ∧ (State.replayDump s clean).staing = s.staing ∧ (State.replayDump s clean).security = s.security ∧ (State.replayDump s clean).migration = s.migration ∧ (State.replayDump s clean).pending = s.pending ∧ (State.replayDump s clean).now = s.now ∧ (State.replayDump s clean).bootAt = s.bootAt ∧ (State.replayDump s clean).free = s.free ∧ (State.replayDump s clean).out = s.out := by
  unfold State.replayDump
  simp

@[simp] theorem state_loadValues_frame (s : State) :
    (State.loadValues s).modes = s.modes ∧ (State.loadValues s).sampler = s.sampler ∧ (State.loadValues s).cells = s.cells ∧ (State.loadValues s).host = s.host ∧ (State.loadValues s).sched = s.sched ∧ (State.loadValues s).flash = s.flash ∧ (State.loadValues s).store = s.store ∧ (State.loadValues s).power = s.power ∧ (State.loadValues s).mem = s.mem ∧ (State.loadValues s).cipher = s.cipher ∧ (State.loadValues s).engines = s.engines ∧ (State.loadValues s).admin = s.admin ∧ (State.loadValues s).staing = s.staing ∧ (State.loadValues s).security = s.security ∧ (State.loadValues s).migration = s.migration ∧ (State.loadValues s).pending = s.pending ∧ (State.loadValues s).now = s.now ∧ (State.loadValues s).bootAt = s.bootAt ∧ (State.loadValues s).free = s.free ∧ (State.loadValues s).out = s.out := by
  unfold State.loadValues
  simp

@[simp] theorem state_firstRecords_frame (s : State) (cause : Nat) :
    (State.firstRecords s cause).modes = s.modes ∧ (State.firstRecords s cause).cells = s.cells ∧ (State.firstRecords s cause).host = s.host ∧ (State.firstRecords s cause).sched = s.sched ∧ (State.firstRecords s cause).flash = s.flash ∧ (State.firstRecords s cause).store = s.store ∧ (State.firstRecords s cause).power = s.power ∧ (State.firstRecords s cause).cipher = s.cipher ∧ (State.firstRecords s cause).engines = s.engines ∧ (State.firstRecords s cause).admin = s.admin ∧ (State.firstRecords s cause).staing = s.staing ∧ (State.firstRecords s cause).security = s.security ∧ (State.firstRecords s cause).migration = s.migration ∧ (State.firstRecords s cause).pending = s.pending ∧ (State.firstRecords s cause).now = s.now ∧ (State.firstRecords s cause).bootAt = s.bootAt ∧ (State.firstRecords s cause).free = s.free ∧ (State.firstRecords s cause).out = s.out ∧ (State.firstRecords s cause).mem.dram = s.mem.dram := by
  unfold State.firstRecords
  simp

@[simp] theorem state_bootLoops_frame (s : State) (pres : LoopState) (outer : LoopState) :
    (State.bootLoops s pres outer).modes = s.modes ∧ (State.bootLoops s pres outer).sampler = s.sampler ∧ (State.bootLoops s pres outer).cells = s.cells ∧ (State.bootLoops s pres outer).host = s.host ∧ (State.bootLoops s pres outer).sched = s.sched ∧ (State.bootLoops s pres outer).flash = s.flash ∧ (State.bootLoops s pres outer).store = s.store ∧ (State.bootLoops s pres outer).power = s.power ∧ (State.bootLoops s pres outer).mem = s.mem ∧ (State.bootLoops s pres outer).cipher = s.cipher ∧ (State.bootLoops s pres outer).engines = s.engines ∧ (State.bootLoops s pres outer).admin = s.admin ∧ (State.bootLoops s pres outer).staing = s.staing ∧ (State.bootLoops s pres outer).migration = s.migration ∧ (State.bootLoops s pres outer).pending = s.pending ∧ (State.bootLoops s pres outer).now = s.now ∧ (State.bootLoops s pres outer).bootAt = s.bootAt ∧ (State.bootLoops s pres outer).free = s.free ∧ (State.bootLoops s pres outer).out = s.out := by
  unfold State.bootLoops
  simp

@[simp] theorem state_bootSeal_frame (s : State) :
    (State.bootSeal s).modes = s.modes ∧ (State.bootSeal s).sampler = s.sampler ∧ (State.bootSeal s).cells = s.cells ∧ (State.bootSeal s).host = s.host ∧ (State.bootSeal s).sched = s.sched ∧ (State.bootSeal s).flash = s.flash ∧ (State.bootSeal s).power = s.power ∧ (State.bootSeal s).mem = s.mem ∧ (State.bootSeal s).engines = s.engines ∧ (State.bootSeal s).admin = s.admin ∧ (State.bootSeal s).staing = s.staing ∧ (State.bootSeal s).migration = s.migration ∧ (State.bootSeal s).pending = s.pending ∧ (State.bootSeal s).now = s.now ∧ (State.bootSeal s).bootAt = s.bootAt ∧ (State.bootSeal s).free = s.free ∧ (State.bootSeal s).out = s.out := by
  unfold State.bootSeal
  simp

@[simp] theorem state_loadSlots_frame (s : State) (badRes : List Nat) :
    (State.loadSlots s badRes).modes = s.modes ∧ (State.loadSlots s badRes).cells = s.cells ∧ (State.loadSlots s badRes).host = s.host ∧ (State.loadSlots s badRes).sched = s.sched ∧ (State.loadSlots s badRes).flash = s.flash ∧ (State.loadSlots s badRes).store = s.store ∧ (State.loadSlots s badRes).power = s.power ∧ (State.loadSlots s badRes).mem = s.mem ∧ (State.loadSlots s badRes).engines = s.engines ∧ (State.loadSlots s badRes).admin = s.admin ∧ (State.loadSlots s badRes).staing = s.staing ∧ (State.loadSlots s badRes).security = s.security ∧ (State.loadSlots s badRes).migration = s.migration ∧ (State.loadSlots s badRes).pending = s.pending ∧ (State.loadSlots s badRes).now = s.now ∧ (State.loadSlots s badRes).bootAt = s.bootAt ∧ (State.loadSlots s badRes).free = s.free ∧ (State.loadSlots s badRes).out = s.out := by
  unfold State.loadSlots
  simp

@[simp] theorem state_loadKeys_frame (s : State) (badRes : List Nat) :
    (State.loadKeys s badRes).modes = s.modes ∧ (State.loadKeys s badRes).cells = s.cells ∧ (State.loadKeys s badRes).host = s.host ∧ (State.loadKeys s badRes).sched = s.sched ∧ (State.loadKeys s badRes).flash = s.flash ∧ (State.loadKeys s badRes).store = s.store ∧ (State.loadKeys s badRes).power = s.power ∧ (State.loadKeys s badRes).mem = s.mem ∧ (State.loadKeys s badRes).engines = s.engines ∧ (State.loadKeys s badRes).admin = s.admin ∧ (State.loadKeys s badRes).staing = s.staing ∧ (State.loadKeys s badRes).migration = s.migration ∧ (State.loadKeys s badRes).pending = s.pending ∧ (State.loadKeys s badRes).now = s.now ∧ (State.loadKeys s badRes).bootAt = s.bootAt ∧ (State.loadKeys s badRes).free = s.free ∧ (State.loadKeys s badRes).out = s.out := by
  unfold State.loadKeys
  simp

@[simp] theorem state_bootKeys_frame (s : State) (fail : Option HaltCause) (badRes : List Nat) :
    (State.bootKeys s fail badRes).modes = s.modes ∧ (State.bootKeys s fail badRes).cells = s.cells ∧ (State.bootKeys s fail badRes).host = s.host ∧ (State.bootKeys s fail badRes).sched = s.sched ∧ (State.bootKeys s fail badRes).flash = s.flash ∧ (State.bootKeys s fail badRes).store = s.store ∧ (State.bootKeys s fail badRes).power = s.power ∧ (State.bootKeys s fail badRes).mem = s.mem ∧ (State.bootKeys s fail badRes).engines = s.engines ∧ (State.bootKeys s fail badRes).admin = s.admin ∧ (State.bootKeys s fail badRes).staing = s.staing ∧ (State.bootKeys s fail badRes).migration = s.migration ∧ (State.bootKeys s fail badRes).pending = s.pending ∧ (State.bootKeys s fail badRes).now = s.now ∧ (State.bootKeys s fail badRes).bootAt = s.bootAt ∧ (State.bootKeys s fail badRes).free = s.free ∧ (State.bootKeys s fail badRes).out = s.out := by
  unfold State.bootKeys
  (repeat' split) <;> simp

@[simp] theorem state_runImage_frame (s : State) (slot : Nat) (first : Bool) :
    (State.runImage s slot first).modes = s.modes ∧ (State.runImage s slot first).sampler = s.sampler ∧ (State.runImage s slot first).cells = s.cells ∧ (State.runImage s slot first).host = s.host ∧ (State.runImage s slot first).sched = s.sched ∧ (State.runImage s slot first).flash = s.flash ∧ (State.runImage s slot first).store = s.store ∧ (State.runImage s slot first).power = s.power ∧ (State.runImage s slot first).mem = s.mem ∧ (State.runImage s slot first).cipher = s.cipher ∧ (State.runImage s slot first).engines = s.engines ∧ (State.runImage s slot first).staing = s.staing ∧ (State.runImage s slot first).security = s.security ∧ (State.runImage s slot first).migration = s.migration ∧ (State.runImage s slot first).pending = s.pending ∧ (State.runImage s slot first).now = s.now ∧ (State.runImage s slot first).bootAt = s.bootAt ∧ (State.runImage s slot first).free = s.free ∧ (State.runImage s slot first).out = s.out := by
  unfold State.runImage
  simp

@[simp] theorem state_selectImage_frame (s : State) (found : List Candidate) :
    (State.selectImage s found).modes = s.modes ∧ (State.selectImage s found).sampler = s.sampler ∧ (State.selectImage s found).cells = s.cells ∧ (State.selectImage s found).host = s.host ∧ (State.selectImage s found).sched = s.sched ∧ (State.selectImage s found).flash = s.flash ∧ (State.selectImage s found).store = s.store ∧ (State.selectImage s found).power = s.power ∧ (State.selectImage s found).mem = s.mem ∧ (State.selectImage s found).cipher = s.cipher ∧ (State.selectImage s found).engines = s.engines ∧ (State.selectImage s found).staing = s.staing ∧ (State.selectImage s found).migration = s.migration ∧ (State.selectImage s found).pending = s.pending ∧ (State.selectImage s found).now = s.now ∧ (State.selectImage s found).bootAt = s.bootAt ∧ (State.selectImage s found).free = s.free ∧ (State.selectImage s found).out = s.out := by
  unfold State.selectImage
  (repeat' split) <;> simp

@[simp] theorem state_loseDomain_frame (s : State) (d : Nat) :
    (State.loseDomain s d).staing = s.staing ∧ (State.loseDomain s d).security = s.security ∧ (State.loseDomain s d).pending = s.pending ∧ (State.loseDomain s d).now = s.now ∧ (State.loseDomain s d).bootAt = s.bootAt ∧ (State.loseDomain s d).free = s.free ∧ (State.loseDomain s d).mem.dram = s.mem.dram := by
  unfold State.loseDomain
  and_intros
  all_goals (dsimp only; (repeat' split) <;> simp (disch := (intros; first | (split <;> simp; done) | simp)))

@[simp] theorem state_bootFabric_frame (s : State) :
    (State.bootFabric s).modes = s.modes ∧ (State.bootFabric s).sampler = s.sampler ∧ (State.bootFabric s).cells = s.cells ∧ (State.bootFabric s).host = s.host ∧ (State.bootFabric s).sched = s.sched ∧ (State.bootFabric s).flash = s.flash ∧ (State.bootFabric s).store = s.store ∧ (State.bootFabric s).power = s.power ∧ (State.bootFabric s).mem = s.mem ∧ (State.bootFabric s).cipher = s.cipher ∧ (State.bootFabric s).engines = s.engines ∧ (State.bootFabric s).admin = s.admin ∧ (State.bootFabric s).staing = s.staing ∧ (State.bootFabric s).security = s.security ∧ (State.bootFabric s).migration = s.migration ∧ (State.bootFabric s).pending = s.pending ∧ (State.bootFabric s).now = s.now ∧ (State.bootFabric s).bootAt = s.bootAt ∧ (State.bootFabric s).free = s.free ∧ (State.bootFabric s).out = s.out := by
  unfold State.bootFabric
  (repeat' split) <;> simp

@[simp] theorem state_bootCells_frame (s : State) (e : BootEnv) :
    (State.bootCells s e).modes = s.modes ∧ (State.bootCells s e).sched = s.sched ∧ (State.bootCells s e).flash = s.flash ∧ (State.bootCells s e).store = s.store ∧ (State.bootCells s e).power = s.power ∧ (State.bootCells s e).mem = s.mem ∧ (State.bootCells s e).admin = s.admin ∧ (State.bootCells s e).staing = s.staing ∧ (State.bootCells s e).security = s.security ∧ (State.bootCells s e).migration = s.migration ∧ (State.bootCells s e).pending = s.pending ∧ (State.bootCells s e).now = s.now ∧ (State.bootCells s e).bootAt = s.bootAt ∧ (State.bootCells s e).free = s.free ∧ (State.bootCells s e).out = s.out ∧ (State.bootCells s e).engines.windows = s.engines.windows := by
  unfold State.bootCells
  simp

@[simp] theorem state_formatLun_frame (s : State) (k : Nat) (c : Fin 4) (bad : List Nat) :
    (State.formatLun s k c bad).dict = s.dict ∧ (State.formatLun s k c bad).modes = s.modes ∧ (State.formatLun s k c bad).sampler = s.sampler ∧ (State.formatLun s k c bad).cells = s.cells ∧ (State.formatLun s k c bad).host = s.host ∧ (State.formatLun s k c bad).sched = s.sched ∧ (State.formatLun s k c bad).store = s.store ∧ (State.formatLun s k c bad).power = s.power ∧ (State.formatLun s k c bad).mem = s.mem ∧ (State.formatLun s k c bad).cipher = s.cipher ∧ (State.formatLun s k c bad).engines = s.engines ∧ (State.formatLun s k c bad).admin = s.admin ∧ (State.formatLun s k c bad).staing = s.staing ∧ (State.formatLun s k c bad).security = s.security ∧ (State.formatLun s k c bad).migration = s.migration ∧ (State.formatLun s k c bad).pending = s.pending ∧ (State.formatLun s k c bad).now = s.now ∧ (State.formatLun s k c bad).bootAt = s.bootAt ∧ (State.formatLun s k c bad).free = s.free ∧ (State.formatLun s k c bad).out = s.out := by
  unfold State.formatLun
  simp

@[simp] theorem state_findLun_frame (s : State) (k : Nat) (f : LunFound) :
    (State.findLun s k f).dict = s.dict ∧ (State.findLun s k f).modes = s.modes ∧ (State.findLun s k f).sampler = s.sampler ∧ (State.findLun s k f).cells = s.cells ∧ (State.findLun s k f).host = s.host ∧ (State.findLun s k f).sched = s.sched ∧ (State.findLun s k f).store = s.store ∧ (State.findLun s k f).power = s.power ∧ (State.findLun s k f).mem = s.mem ∧ (State.findLun s k f).cipher = s.cipher ∧ (State.findLun s k f).engines = s.engines ∧ (State.findLun s k f).admin = s.admin ∧ (State.findLun s k f).staing = s.staing ∧ (State.findLun s k f).security = s.security ∧ (State.findLun s k f).migration = s.migration ∧ (State.findLun s k f).pending = s.pending ∧ (State.findLun s k f).now = s.now ∧ (State.findLun s k f).bootAt = s.bootAt ∧ (State.findLun s k f).free = s.free ∧ (State.findLun s k f).out = s.out := by
  unfold State.findLun
  (repeat' split) <;> simp

@[simp] theorem state_trainChannel_frame (s : State) (ch : Nat) (t : ChannelTraining) :
    (State.trainChannel s ch t).modes = s.modes ∧ (State.trainChannel s ch t).cells = s.cells ∧ (State.trainChannel s ch t).host = s.host ∧ (State.trainChannel s ch t).sched = s.sched ∧ (State.trainChannel s ch t).store = s.store ∧ (State.trainChannel s ch t).power = s.power ∧ (State.trainChannel s ch t).mem = s.mem ∧ (State.trainChannel s ch t).cipher = s.cipher ∧ (State.trainChannel s ch t).engines = s.engines ∧ (State.trainChannel s ch t).admin = s.admin ∧ (State.trainChannel s ch t).staing = s.staing ∧ (State.trainChannel s ch t).security = s.security ∧ (State.trainChannel s ch t).migration = s.migration ∧ (State.trainChannel s ch t).pending = s.pending ∧ (State.trainChannel s ch t).now = s.now ∧ (State.trainChannel s ch t).bootAt = s.bootAt ∧ (State.trainChannel s ch t).out = s.out := by
  unfold State.trainChannel
  simp

@[simp] theorem state_bootFlash_frame (s : State) (e : BootEnv) :
    (State.bootFlash s e).modes = s.modes ∧ (State.bootFlash s e).cells = s.cells ∧ (State.bootFlash s e).host = s.host ∧ (State.bootFlash s e).sched = s.sched ∧ (State.bootFlash s e).power = s.power ∧ (State.bootFlash s e).mem = s.mem ∧ (State.bootFlash s e).cipher = s.cipher ∧ (State.bootFlash s e).engines = s.engines ∧ (State.bootFlash s e).admin = s.admin ∧ (State.bootFlash s e).staing = s.staing ∧ (State.bootFlash s e).security = s.security ∧ (State.bootFlash s e).migration = s.migration ∧ (State.bootFlash s e).pending = s.pending ∧ (State.bootFlash s e).now = s.now ∧ (State.bootFlash s e).bootAt = s.bootAt ∧ (State.bootFlash s e).out = s.out := by
  unfold State.bootFlash
  simp

@[simp] theorem state_loseMissing_frame (s : State) (e : BootEnv) :
    (State.loseMissing s e).cells = s.cells ∧ (State.loseMissing s e).power = s.power ∧ (State.loseMissing s e).engines = s.engines ∧ (State.loseMissing s e).admin = s.admin ∧ (State.loseMissing s e).staing = s.staing ∧ (State.loseMissing s e).security = s.security ∧ (State.loseMissing s e).migration = s.migration ∧ (State.loseMissing s e).pending = s.pending ∧ (State.loseMissing s e).now = s.now ∧ (State.loseMissing s e).bootAt = s.bootAt ∧ (State.loseMissing s e).free = s.free ∧ (State.loseMissing s e).mem.dram = s.mem.dram := by
  unfold State.loseMissing
  simp

@[simp] theorem state_admitChannel_frame (s : State) (ref : Nat) (c : Nat) :
    (State.admitChannel s ref c).modes = s.modes ∧ (State.admitChannel s ref c).cells = s.cells ∧ (State.admitChannel s ref c).host = s.host ∧ (State.admitChannel s ref c).sched = s.sched ∧ (State.admitChannel s ref c).flash = s.flash ∧ (State.admitChannel s ref c).store = s.store ∧ (State.admitChannel s ref c).power = s.power ∧ (State.admitChannel s ref c).cipher = s.cipher ∧ (State.admitChannel s ref c).engines = s.engines ∧ (State.admitChannel s ref c).admin = s.admin ∧ (State.admitChannel s ref c).staing = s.staing ∧ (State.admitChannel s ref c).security = s.security ∧ (State.admitChannel s ref c).migration = s.migration ∧ (State.admitChannel s ref c).pending = s.pending ∧ (State.admitChannel s ref c).now = s.now ∧ (State.admitChannel s ref c).bootAt = s.bootAt ∧ (State.admitChannel s ref c).out = s.out ∧ (State.admitChannel s ref c).mem.dram = s.mem.dram := by
  simp only [State.admitChannel]
  (repeat' split) <;> simp

@[simp] theorem state_bootDram_frame (s : State) (e : BootEnv) (recovery : Bool) :
    (State.bootDram s e recovery).modes = s.modes ∧ (State.bootDram s e recovery).cells = s.cells ∧ (State.bootDram s e recovery).host = s.host ∧ (State.bootDram s e recovery).sched = s.sched ∧ (State.bootDram s e recovery).flash = s.flash ∧ (State.bootDram s e recovery).store = s.store ∧ (State.bootDram s e recovery).power = s.power ∧ (State.bootDram s e recovery).cipher = s.cipher ∧ (State.bootDram s e recovery).admin = s.admin ∧ (State.bootDram s e recovery).staing = s.staing ∧ (State.bootDram s e recovery).security = s.security ∧ (State.bootDram s e recovery).migration = s.migration ∧ (State.bootDram s e recovery).pending = s.pending ∧ (State.bootDram s e recovery).now = s.now ∧ (State.bootDram s e recovery).bootAt = s.bootAt ∧ (State.bootDram s e recovery).out = s.out ∧ (State.bootDram s e recovery).mem.dram = s.mem.dram ∧ (State.bootDram s e recovery).engines.windows = s.engines.windows := by
  unfold State.bootDram
  dsimp only
  split <;> simp (disch := (intros; simp))

@[simp] theorem state_recount_frame (s : State) :
    (State.recount s).modes = s.modes ∧ (State.recount s).sampler = s.sampler ∧ (State.recount s).cells = s.cells ∧ (State.recount s).host = s.host ∧ (State.recount s).sched = s.sched ∧ (State.recount s).flash = s.flash ∧ (State.recount s).store = s.store ∧ (State.recount s).power = s.power ∧ (State.recount s).mem = s.mem ∧ (State.recount s).cipher = s.cipher ∧ (State.recount s).engines = s.engines ∧ (State.recount s).admin = s.admin ∧ (State.recount s).staing = s.staing ∧ (State.recount s).security = s.security ∧ (State.recount s).migration = s.migration ∧ (State.recount s).pending = s.pending ∧ (State.recount s).now = s.now ∧ (State.recount s).bootAt = s.bootAt ∧ (State.recount s).free = s.free ∧ (State.recount s).out = s.out := by
  unfold State.recount
  simp

@[simp] theorem state_showEdstt_frame (s : State) :
    (State.showEdstt s).modes = s.modes ∧ (State.showEdstt s).sampler = s.sampler ∧ (State.showEdstt s).cells = s.cells ∧ (State.showEdstt s).host = s.host ∧ (State.showEdstt s).sched = s.sched ∧ (State.showEdstt s).flash = s.flash ∧ (State.showEdstt s).store = s.store ∧ (State.showEdstt s).power = s.power ∧ (State.showEdstt s).mem = s.mem ∧ (State.showEdstt s).cipher = s.cipher ∧ (State.showEdstt s).engines = s.engines ∧ (State.showEdstt s).admin = s.admin ∧ (State.showEdstt s).staing = s.staing ∧ (State.showEdstt s).security = s.security ∧ (State.showEdstt s).migration = s.migration ∧ (State.showEdstt s).pending = s.pending ∧ (State.showEdstt s).now = s.now ∧ (State.showEdstt s).bootAt = s.bootAt ∧ (State.showEdstt s).out = s.out := by
  unfold State.showEdstt
  simp

@[simp] theorem state_bootReadOnly_frame (s : State) (systemOk : Bool) :
    (State.bootReadOnly s systemOk).cells = s.cells ∧ (State.bootReadOnly s systemOk).host = s.host ∧ (State.bootReadOnly s systemOk).sched = s.sched ∧ (State.bootReadOnly s systemOk).flash = s.flash ∧ (State.bootReadOnly s systemOk).store = s.store ∧ (State.bootReadOnly s systemOk).power = s.power ∧ (State.bootReadOnly s systemOk).mem = s.mem ∧ (State.bootReadOnly s systemOk).cipher = s.cipher ∧ (State.bootReadOnly s systemOk).engines = s.engines ∧ (State.bootReadOnly s systemOk).admin = s.admin ∧ (State.bootReadOnly s systemOk).staing = s.staing ∧ (State.bootReadOnly s systemOk).security = s.security ∧ (State.bootReadOnly s systemOk).migration = s.migration ∧ (State.bootReadOnly s systemOk).pending = s.pending ∧ (State.bootReadOnly s systemOk).now = s.now ∧ (State.bootReadOnly s systemOk).bootAt = s.bootAt ∧ (State.bootReadOnly s systemOk).free = s.free ∧ (State.bootReadOnly s systemOk).out = s.out := by
  unfold State.bootReadOnly
  simp

@[simp] theorem state_bootSanitize_frame (s : State) :
    (State.bootSanitize s).power = s.power ∧ (State.bootSanitize s).staing = s.staing ∧ (State.bootSanitize s).pending = s.pending ∧ (State.bootSanitize s).now = s.now ∧ (State.bootSanitize s).bootAt = s.bootAt ∧ (State.bootSanitize s).free = s.free ∧ (State.bootSanitize s).mem.dram = s.mem.dram := by
  unfold State.bootSanitize
  (repeat' split) <;> simp

@[simp] theorem state_startTasks_frame (s : State) :
    (State.startTasks s).dict = s.dict ∧ (State.startTasks s).modes = s.modes ∧ (State.startTasks s).sampler = s.sampler ∧ (State.startTasks s).cells = s.cells ∧ (State.startTasks s).host = s.host ∧ (State.startTasks s).flash = s.flash ∧ (State.startTasks s).store = s.store ∧ (State.startTasks s).power = s.power ∧ (State.startTasks s).mem = s.mem ∧ (State.startTasks s).cipher = s.cipher ∧ (State.startTasks s).engines = s.engines ∧ (State.startTasks s).admin = s.admin ∧ (State.startTasks s).staing = s.staing ∧ (State.startTasks s).security = s.security ∧ (State.startTasks s).migration = s.migration ∧ (State.startTasks s).pending = s.pending ∧ (State.startTasks s).now = s.now ∧ (State.startTasks s).bootAt = s.bootAt ∧ (State.startTasks s).free = s.free ∧ (State.startTasks s).out = s.out := by
  unfold State.startTasks
  simp

@[simp] theorem state_beginService_frame (s : State) (e : BootEnv) :
    (State.beginService s e).staing = s.staing ∧ (State.beginService s e).pending = s.pending ∧ (State.beginService s e).now = s.now ∧ (State.beginService s e).bootAt = s.bootAt ∧ (State.beginService s e).mem.dram = s.mem.dram := by
  unfold State.beginService
  simp

@[simp] theorem state_wakeRom_frame (s : State) :
    (State.wakeRom s).cells = s.cells ∧ (State.wakeRom s).sched = s.sched ∧ (State.wakeRom s).flash = s.flash ∧ (State.wakeRom s).cipher = s.cipher ∧ (State.wakeRom s).staing = s.staing ∧ (State.wakeRom s).security = s.security ∧ (State.wakeRom s).pending = s.pending ∧ (State.wakeRom s).now = s.now ∧ (State.wakeRom s).free = s.free ∧ (State.wakeRom s).out = s.out ∧ (State.wakeRom s).mem.dram = s.mem.dram := by
  unfold State.wakeRom
  simp

@[simp] theorem state_markReset_frame (s : State) :
    (State.markReset s).dict = s.dict ∧ (State.markReset s).modes = s.modes ∧ (State.markReset s).sampler = s.sampler ∧ (State.markReset s).cells = s.cells ∧ (State.markReset s).host = s.host ∧ (State.markReset s).sched = s.sched ∧ (State.markReset s).flash = s.flash ∧ (State.markReset s).store = s.store ∧ (State.markReset s).power = s.power ∧ (State.markReset s).mem = s.mem ∧ (State.markReset s).cipher = s.cipher ∧ (State.markReset s).engines = s.engines ∧ (State.markReset s).staing = s.staing ∧ (State.markReset s).migration = s.migration ∧ (State.markReset s).pending = s.pending ∧ (State.markReset s).now = s.now ∧ (State.markReset s).bootAt = s.bootAt ∧ (State.markReset s).free = s.free ∧ (State.markReset s).out = s.out := by
  unfold State.markReset
  (repeat' split) <;> simp

@[simp] theorem state_romChain_frame (s : State) (e : BootEnv) (cause : Nat) :
    (State.romChain s e cause).modes = s.modes ∧ (State.romChain s e cause).cells = s.cells ∧ (State.romChain s e cause).host = s.host ∧ (State.romChain s e cause).sched = s.sched ∧ (State.romChain s e cause).flash = s.flash ∧ (State.romChain s e cause).power = s.power ∧ (State.romChain s e cause).engines = s.engines ∧ (State.romChain s e cause).staing = s.staing ∧ (State.romChain s e cause).migration = s.migration ∧ (State.romChain s e cause).pending = s.pending ∧ (State.romChain s e cause).now = s.now ∧ (State.romChain s e cause).bootAt = s.bootAt ∧ (State.romChain s e cause).free = s.free ∧ (State.romChain s e cause).out = s.out ∧ (State.romChain s e cause).mem.dram = s.mem.dram := by
  unfold State.romChain
  simp

@[simp] theorem state_freshWidths_frame (s : State) :
    (State.freshWidths s).modes = s.modes ∧ (State.freshWidths s).cells = s.cells ∧ (State.freshWidths s).host = s.host ∧ (State.freshWidths s).sched = s.sched ∧ (State.freshWidths s).flash = s.flash ∧ (State.freshWidths s).power = s.power ∧ (State.freshWidths s).mem = s.mem ∧ (State.freshWidths s).cipher = s.cipher ∧ (State.freshWidths s).engines = s.engines ∧ (State.freshWidths s).admin = s.admin ∧ (State.freshWidths s).staing = s.staing ∧ (State.freshWidths s).security = s.security ∧ (State.freshWidths s).migration = s.migration ∧ (State.freshWidths s).pending = s.pending ∧ (State.freshWidths s).now = s.now ∧ (State.freshWidths s).bootAt = s.bootAt ∧ (State.freshWidths s).free = s.free ∧ (State.freshWidths s).out = s.out := by
  unfold State.freshWidths
  simp

@[simp] theorem state_startUp_frame (s : State) (e : BootEnv) (cause : Nat) :
    (State.startUp s e cause).staing = s.staing ∧ (State.startUp s e cause).pending = s.pending ∧ (State.startUp s e cause).now = s.now ∧ (State.startUp s e cause).bootAt = s.bootAt ∧ (State.startUp s e cause).mem.dram = s.mem.dram := by
  unfold State.startUp
  simp

@[simp] theorem state_setDigest_frame (s : State) (k : Nat) (x : DigestSt) :
    (State.setDigest s k x).dict = s.dict ∧ (State.setDigest s k x).modes = s.modes ∧ (State.setDigest s k x).sampler = s.sampler ∧ (State.setDigest s k x).cells = s.cells ∧ (State.setDigest s k x).host = s.host ∧ (State.setDigest s k x).sched = s.sched ∧ (State.setDigest s k x).flash = s.flash ∧ (State.setDigest s k x).store = s.store ∧ (State.setDigest s k x).power = s.power ∧ (State.setDigest s k x).mem = s.mem ∧ (State.setDigest s k x).cipher = s.cipher ∧ (State.setDigest s k x).admin = s.admin ∧ (State.setDigest s k x).staing = s.staing ∧ (State.setDigest s k x).security = s.security ∧ (State.setDigest s k x).migration = s.migration ∧ (State.setDigest s k x).pending = s.pending ∧ (State.setDigest s k x).now = s.now ∧ (State.setDigest s k x).bootAt = s.bootAt ∧ (State.setDigest s k x).free = s.free ∧ (State.setDigest s k x).out = s.out ∧ (State.setDigest s k x).engines.windows = s.engines.windows := by
  unfold State.setDigest
  simp

@[simp] theorem state_countDigestError_frame (s : State) (code : Nat) :
    (State.countDigestError s code).modes = s.modes ∧ (State.countDigestError s code).sampler = s.sampler ∧ (State.countDigestError s code).cells = s.cells ∧ (State.countDigestError s code).host = s.host ∧ (State.countDigestError s code).sched = s.sched ∧ (State.countDigestError s code).flash = s.flash ∧ (State.countDigestError s code).store = s.store ∧ (State.countDigestError s code).power = s.power ∧ (State.countDigestError s code).mem = s.mem ∧ (State.countDigestError s code).cipher = s.cipher ∧ (State.countDigestError s code).engines = s.engines ∧ (State.countDigestError s code).admin = s.admin ∧ (State.countDigestError s code).staing = s.staing ∧ (State.countDigestError s code).security = s.security ∧ (State.countDigestError s code).migration = s.migration ∧ (State.countDigestError s code).pending = s.pending ∧ (State.countDigestError s code).now = s.now ∧ (State.countDigestError s code).bootAt = s.bootAt ∧ (State.countDigestError s code).free = s.free ∧ (State.countDigestError s code).out = s.out := by
  unfold State.countDigestError
  simp

@[simp] theorem state_misused_frame (s : State) (k : Nat) :
    (State.misused s k).modes = s.modes ∧ (State.misused s k).sched = s.sched ∧ (State.misused s k).flash = s.flash ∧ (State.misused s k).store = s.store ∧ (State.misused s k).power = s.power ∧ (State.misused s k).mem = s.mem ∧ (State.misused s k).admin = s.admin ∧ (State.misused s k).staing = s.staing ∧ (State.misused s k).security = s.security ∧ (State.misused s k).migration = s.migration ∧ (State.misused s k).pending = s.pending ∧ (State.misused s k).now = s.now ∧ (State.misused s k).bootAt = s.bootAt ∧ (State.misused s k).free = s.free ∧ (State.misused s k).out = s.out ∧ (State.misused s k).engines.windows = s.engines.windows := by
  simp only [State.misused]
  (repeat' split) <;> simp

@[simp] theorem state_digestError_frame (s : State) (k : Nat) (code : Nat) :
    (State.digestError s k code).modes = s.modes ∧ (State.digestError s k code).sched = s.sched ∧ (State.digestError s k code).flash = s.flash ∧ (State.digestError s k code).store = s.store ∧ (State.digestError s k code).power = s.power ∧ (State.digestError s k code).mem = s.mem ∧ (State.digestError s k code).admin = s.admin ∧ (State.digestError s k code).staing = s.staing ∧ (State.digestError s k code).security = s.security ∧ (State.digestError s k code).migration = s.migration ∧ (State.digestError s k code).pending = s.pending ∧ (State.digestError s k code).now = s.now ∧ (State.digestError s k code).bootAt = s.bootAt ∧ (State.digestError s k code).free = s.free ∧ (State.digestError s k code).out = s.out ∧ (State.digestError s k code).engines.windows = s.engines.windows := by
  unfold State.digestError
  (repeat' split) <;> simp

@[simp] theorem state_signalReady_frame (s : State) (d : Nat) :
    (State.signalReady s d).host = s.host ∧ (State.signalReady s d).sched = s.sched ∧ (State.signalReady s d).flash = s.flash ∧ (State.signalReady s d).store = s.store ∧ (State.signalReady s d).power = s.power ∧ (State.signalReady s d).cipher = s.cipher ∧ (State.signalReady s d).engines = s.engines ∧ (State.signalReady s d).admin = s.admin ∧ (State.signalReady s d).staing = s.staing ∧ (State.signalReady s d).security = s.security ∧ (State.signalReady s d).migration = s.migration ∧ (State.signalReady s d).pending = s.pending ∧ (State.signalReady s d).now = s.now ∧ (State.signalReady s d).bootAt = s.bootAt ∧ (State.signalReady s d).free = s.free ∧ (State.signalReady s d).out = s.out := by
  unfold State.signalReady
  simp

@[simp] theorem state_switchPower_frame (s : State) (d : Nat) (on : Bool) :
    (State.switchPower s d on).modes = s.modes ∧ (State.switchPower s d on).mem = s.mem ∧ (State.switchPower s d on).admin = s.admin ∧ (State.switchPower s d on).staing = s.staing ∧ (State.switchPower s d on).security = s.security ∧ (State.switchPower s d on).migration = s.migration ∧ (State.switchPower s d on).pending = s.pending ∧ (State.switchPower s d on).now = s.now ∧ (State.switchPower s d on).bootAt = s.bootAt ∧ (State.switchPower s d on).free = s.free ∧ (State.switchPower s d on).engines.windows = s.engines.windows := by
  simp only [State.switchPower]
  (repeat' split) <;> simp

@[simp] theorem state_planeAct_frame (s : State) (d : Nat) (y0 : CfgMsg) :
    (State.planeAct s d y0).staing = s.staing ∧ (State.planeAct s d y0).security = s.security ∧ (State.planeAct s d y0).pending = s.pending ∧ (State.planeAct s d y0).now = s.now ∧ (State.planeAct s d y0).bootAt = s.bootAt ∧ (State.planeAct s d y0).free = s.free := by
  unfold State.planeAct
  (repeat' split) <;> simp

@[simp] theorem state_stopDevice_frame (s : State) (fault : Nat) :
    (State.stopDevice s fault).sched = s.sched ∧ (State.stopDevice s fault).flash = s.flash ∧ (State.stopDevice s fault).power = s.power ∧ (State.stopDevice s fault).mem = s.mem ∧ (State.stopDevice s fault).cipher = s.cipher ∧ (State.stopDevice s fault).staing = s.staing ∧ (State.stopDevice s fault).security = s.security ∧ (State.stopDevice s fault).pending = s.pending ∧ (State.stopDevice s fault).now = s.now ∧ (State.stopDevice s fault).bootAt = s.bootAt ∧ (State.stopDevice s fault).free = s.free ∧ (State.stopDevice s fault).out = s.out := by
  unfold State.stopDevice
  simp

@[simp] theorem state_reissue_frame (s : State) (r : FabricReq) :
    (State.reissue s r).dict = s.dict ∧ (State.reissue s r).modes = s.modes ∧ (State.reissue s r).sampler = s.sampler ∧ (State.reissue s r).host = s.host ∧ (State.reissue s r).sched = s.sched ∧ (State.reissue s r).flash = s.flash ∧ (State.reissue s r).store = s.store ∧ (State.reissue s r).power = s.power ∧ (State.reissue s r).mem = s.mem ∧ (State.reissue s r).cipher = s.cipher ∧ (State.reissue s r).engines = s.engines ∧ (State.reissue s r).admin = s.admin ∧ (State.reissue s r).staing = s.staing ∧ (State.reissue s r).security = s.security ∧ (State.reissue s r).migration = s.migration ∧ (State.reissue s r).pending = s.pending ∧ (State.reissue s r).now = s.now ∧ (State.reissue s r).bootAt = s.bootAt ∧ (State.reissue s r).free = s.free ∧ (State.reissue s r).out = s.out := by
  unfold State.reissue
  simp

@[simp] theorem state_giveUp_frame (s : State) (c : Consumer) :
    (State.giveUp s c).modes = s.modes ∧ (State.giveUp s c).sched = s.sched ∧ (State.giveUp s c).flash = s.flash ∧ (State.giveUp s c).store = s.store ∧ (State.giveUp s c).power = s.power ∧ (State.giveUp s c).mem = s.mem ∧ (State.giveUp s c).admin = s.admin ∧ (State.giveUp s c).staing = s.staing ∧ (State.giveUp s c).security = s.security ∧ (State.giveUp s c).migration = s.migration ∧ (State.giveUp s c).pending = s.pending ∧ (State.giveUp s c).now = s.now ∧ (State.giveUp s c).bootAt = s.bootAt ∧ (State.giveUp s c).free = s.free ∧ (State.giveUp s c).engines.windows = s.engines.windows := by
  unfold State.giveUp
  (repeat' split) <;> simp

@[simp] theorem state_bufferWordLost_frame (s : State) (rd : Nat) :
    (State.bufferWordLost s rd).modes = s.modes ∧ (State.bufferWordLost s rd).mem = s.mem ∧ (State.bufferWordLost s rd).engines = s.engines ∧ (State.bufferWordLost s rd).admin = s.admin ∧ (State.bufferWordLost s rd).staing = s.staing ∧ (State.bufferWordLost s rd).security = s.security ∧ (State.bufferWordLost s rd).pending = s.pending ∧ (State.bufferWordLost s rd).now = s.now ∧ (State.bufferWordLost s rd).bootAt = s.bootAt := by
  unfold State.bufferWordLost
  (repeat' split) <;> simp

@[simp] theorem state_dirtyWordLost_frame (s : State) (n : Nat) (nsid : Nat) (word : Nat) :
    (State.dirtyWordLost s n nsid word).dict = s.dict ∧ (State.dirtyWordLost s n nsid word).modes = s.modes ∧ (State.dirtyWordLost s n nsid word).sampler = s.sampler ∧ (State.dirtyWordLost s n nsid word).cells = s.cells ∧ (State.dirtyWordLost s n nsid word).host = s.host ∧ (State.dirtyWordLost s n nsid word).sched = s.sched ∧ (State.dirtyWordLost s n nsid word).flash = s.flash ∧ (State.dirtyWordLost s n nsid word).store = s.store ∧ (State.dirtyWordLost s n nsid word).power = s.power ∧ (State.dirtyWordLost s n nsid word).mem = s.mem ∧ (State.dirtyWordLost s n nsid word).cipher = s.cipher ∧ (State.dirtyWordLost s n nsid word).engines = s.engines ∧ (State.dirtyWordLost s n nsid word).admin = s.admin ∧ (State.dirtyWordLost s n nsid word).staing = s.staing ∧ (State.dirtyWordLost s n nsid word).security = s.security ∧ (State.dirtyWordLost s n nsid word).pending = s.pending ∧ (State.dirtyWordLost s n nsid word).now = s.now ∧ (State.dirtyWordLost s n nsid word).bootAt = s.bootAt ∧ (State.dirtyWordLost s n nsid word).free = s.free ∧ (State.dirtyWordLost s n nsid word).out = s.out := by
  simp only [State.dirtyWordLost]
  (repeat' split) <;> simp

@[simp] theorem state_wordLost_frame (s : State) (w : BadWord) :
    (State.wordLost s w).staing = s.staing ∧ (State.wordLost s w).security = s.security ∧ (State.wordLost s w).pending = s.pending ∧ (State.wordLost s w).now = s.now ∧ (State.wordLost s w).bootAt = s.bootAt := by
  unfold State.wordLost
  (repeat' split) <;> simp

@[simp] theorem state_sramFixed_frame (s : State) (mem : Nat) (address : Nat) (bits : Nat) (first : Nat) :
    (State.sramFixed s mem address bits first).modes = s.modes ∧ (State.sramFixed s mem address bits first).sampler = s.sampler ∧ (State.sramFixed s mem address bits first).cells = s.cells ∧ (State.sramFixed s mem address bits first).host = s.host ∧ (State.sramFixed s mem address bits first).sched = s.sched ∧ (State.sramFixed s mem address bits first).flash = s.flash ∧ (State.sramFixed s mem address bits first).store = s.store ∧ (State.sramFixed s mem address bits first).power = s.power ∧ (State.sramFixed s mem address bits first).cipher = s.cipher ∧ (State.sramFixed s mem address bits first).engines = s.engines ∧ (State.sramFixed s mem address bits first).admin = s.admin ∧ (State.sramFixed s mem address bits first).staing = s.staing ∧ (State.sramFixed s mem address bits first).security = s.security ∧ (State.sramFixed s mem address bits first).migration = s.migration ∧ (State.sramFixed s mem address bits first).pending = s.pending ∧ (State.sramFixed s mem address bits first).now = s.now ∧ (State.sramFixed s mem address bits first).bootAt = s.bootAt ∧ (State.sramFixed s mem address bits first).free = s.free ∧ (State.sramFixed s mem address bits first).out = s.out ∧ (State.sramFixed s mem address bits first).mem.dram = s.mem.dram := by
  unfold State.sramFixed
  simp

@[simp] theorem state_sramBeyond_frame (s : State) (mem : Nat) (address : Nat) :
    (State.sramBeyond s mem address).staing = s.staing ∧ (State.sramBeyond s mem address).security = s.security ∧ (State.sramBeyond s mem address).pending = s.pending ∧ (State.sramBeyond s mem address).now = s.now ∧ (State.sramBeyond s mem address).bootAt = s.bootAt := by
  unfold State.sramBeyond
  simp

end Sys2Proof.Machine
end

