-- ==== Sys2Proof/Laws/Tables.lean ====
section
/-! SUPPORT. Sparse tables: what is found after an entry is put, set or removed, and the objects of the dictionary
after one of them is kept. -/
namespace Sys2Proof.Machine

variable {α : Type}

theorem Tbl.find_put_same (t : Tbl α) (k : Nat) (v : α) : Tbl.find (Tbl.put t k v) k = some v := by
  induction t with
  | nil => simp [Tbl.put, Tbl.find]
  | cons e t ih =>
    obtain ⟨j, w⟩ := e
    by_cases h : k < j
    · simp [Tbl.put, Tbl.find, h]
    · by_cases h' : k = j
      · simp [Tbl.put, Tbl.find, h']
      · have : ¬ j = k := fun c => h' c.symm
        simp [Tbl.put, Tbl.find, h, h', this, ih]

theorem Tbl.find_put_ne (t : Tbl α) {k j : Nat} (v : α) (n : j ≠ k) :
    Tbl.find (Tbl.put t k v) j = Tbl.find t j := by
  induction t with
  | nil => simp [Tbl.put, Tbl.find, Ne.symm n]
  | cons e t ih =>
    obtain ⟨i, w⟩ := e
    by_cases h : k < i
    · simp [Tbl.put, Tbl.find, h, Ne.symm n]
    · by_cases h' : k = i
      · subst h'
        simp [Tbl.put, Tbl.find, Ne.symm n]
      · simp [Tbl.put, Tbl.find, h, h', ih]

theorem Tbl.find_del_same (t : Tbl α) (k : Nat) : Tbl.find (Tbl.del t k) k = none := by
  induction t with
  | nil => rfl
  | cons e t ih =>
    obtain ⟨j, w⟩ := e
    by_cases h : j = k
    · simp [Tbl.del, h, ih]
    · simp [Tbl.del, Tbl.find, h, ih]

theorem Tbl.find_del_ne (t : Tbl α) {k j : Nat} (n : j ≠ k) : Tbl.find (Tbl.del t k) j = Tbl.find t j := by
  induction t with
  | nil => rfl
  | cons e t ih =>
    obtain ⟨i, w⟩ := e
    by_cases h : i = k
    · subst h
      simp [Tbl.del, Tbl.find, Ne.symm n, ih]
    · simp [Tbl.del, Tbl.find, h, ih]

@[simp] theorem Tbl.get_put_same (d : α) (t : Tbl α) (k : Nat) (v : α) : Tbl.get d (Tbl.put t k v) k = v := by
  simp [Tbl.get, Tbl.find_put_same]

theorem Tbl.get_put_ne (d : α) (t : Tbl α) {k j : Nat} (v : α) (n : j ≠ k) :
    Tbl.get d (Tbl.put t k v) j = Tbl.get d t j := by
  simp [Tbl.get, Tbl.find_put_ne t v n]

@[simp] theorem Tbl.get_set_same [DecidableEq α] (d : α) (t : Tbl α) (k : Nat) (v : α) :
    Tbl.get d (Tbl.set d t k v) k = v := by
  by_cases h : v = d
  · simp [Tbl.set, Tbl.get, h, Tbl.find_del_same]
  · simp [Tbl.set, Tbl.get, h, Tbl.find_put_same]

theorem Tbl.find_set_ne [DecidableEq α] (d : α) (t : Tbl α) {k j : Nat} (v : α) (n : j ≠ k) :
    Tbl.find (Tbl.set d t k v) j = Tbl.find t j := by
  by_cases h : v = d
  · simp [Tbl.set, h, Tbl.find_del_ne t n]
  · simp [Tbl.set, h, Tbl.find_put_ne t v n]

theorem Tbl.get_set_ne [DecidableEq α] (d e : α) (t : Tbl α) {k j : Nat} (v : α) (n : j ≠ k) :
    Tbl.get e (Tbl.set d t k v) j = Tbl.get e t j := by
  simp [Tbl.get, Tbl.find_set_ne d t v n]

/-- An object reads what was kept in it. -/
@[simp] theorem State.cfg_keep_same (s : State) (r : ObjRow) (v i j : Nat) : (s.keep r v i j).cfg r i j = v := by
  by_cases h : v = r.default i j
  · simp [State.keep, State.cfg, h, Tbl.find_del_same]
  · simp [State.keep, State.cfg, h, Tbl.find_put_same]

/-- Another object reads what it read. -/
theorem State.cfg_keep_ne (s : State) (r q : ObjRow) (v i j a b : Nat) (n : q.key a b ≠ r.key i j) :
    (s.keep r v i j).cfg q a b = s.cfg q a b := by
  by_cases h : v = r.default i j
  · simp [State.keep, State.cfg, h, Tbl.find_del_ne _ n]
  · simp [State.keep, State.cfg, h, Tbl.find_put_ne _ _ n]

/-- A counter below its width counts. -/
theorem State.cfg_bump_same (s : State) (r : ObjRow) (n i j : Nat) (h : s.cfg r i j + n ≤ r.top) :
    (s.bump r n i j).cfg r i j = s.cfg r i j + n := by
  simp [State.bump, h]

/-- A counter changes no other object. -/
theorem State.cfg_bump_ne (s : State) (r q : ObjRow) (n i j a b : Nat) (h : q.key a b ≠ r.key i j) :
    (s.bump r n i j).cfg q a b = s.cfg q a b := by
  simp [State.bump, State.cfg_keep_ne _ _ _ _ _ _ _ _ h]

/-- Saving an object sets its value in force as keeping it does. -/
theorem State.save_force (s : State) (r : ObjRow) (v i j : Nat) :
    (s.save r v i j).dict.force = (s.keep r v i j).dict.force := by
  unfold State.save
  by_cases h : r.per = .volatile <;> simp [h]

theorem State.cfg_of_force {s t : State} (h : s.dict.force = t.dict.force) (r : ObjRow) (i j : Nat) :
    s.cfg r i j = t.cfg r i j := by
  simp [State.cfg, h]

@[simp] theorem State.cfg_save_same (s : State) (r : ObjRow) (v i j : Nat) : (s.save r v i j).cfg r i j = v := by
  rw [State.cfg_of_force (s.save_force r v i j), State.cfg_keep_same]

theorem State.cfg_save_ne (s : State) (r q : ObjRow) (v i j a b : Nat) (n : q.key a b ≠ r.key i j) :
    (s.save r v i j).cfg q a b = s.cfg q a b := by
  rw [State.cfg_of_force (s.save_force r v i j), State.cfg_keep_ne _ _ _ _ _ _ _ _ n]

/-- A function reads what was set for it, and the others what they were. -/
@[simp] theorem State.fnAt_setFnAt_same (s : State) (k : Nat) (x : Fn) : (s.setFnAt k x).fnAt k = x := by
  simp [State.fnAt, State.setFnAt]

theorem State.fnAt_setFnAt_ne (s : State) {k j : Nat} (x : Fn) (n : j ≠ k) : (s.setFnAt k x).fnAt j = s.fnAt j := by
  simp [State.fnAt, State.setFnAt, Tbl.get_set_ne _ _ _ _ n]

end Sys2Proof.Machine
end

