-- ==== Sys2Proof/Laws/Records.lean ====
section
/-! SUPPORT. Records and mode changes leave every object alone but their own counters, and what a mode change does to
the mode word. -/
namespace Sys2Proof.Machine

/-- Two objects are different. -/
def ObjRow.other (q : ObjRow) (i j : Nat) (r : ObjRow) : Prop := q.key i j ≠ r.key 0 0

theorem State.cfg_enter (s : State) (r : Rec) (q : ObjRow) (i j : Nat) (h : q.other i j Obj.dropped) :
    (s.enter r).cfg q i j = s.cfg q i j := by
  unfold State.enter
  split
  · dsimp only; split <;> rfl
  · exact (State.cfg_bump_ne s _ _ _ _ _ _ _ h : (s.bump Obj.dropped).cfg q i j = s.cfg q i j)

theorem State.cfg_record (s : State) (code : Nat) (params : List Nat) (subject domain : Nat) (q : ObjRow) (i j : Nat)
    (h : q.other i j Obj.dropped) (h' : q.other i j Obj.suppressedTotal) :
    (s.record code params subject domain).cfg q i j = s.cfg q i j := by
  unfold State.record
  dsimp only
  split
  · split
    · rw [State.cfg_enter _ _ _ _ _ h]; rfl
    · rw [State.cfg_bump_ne _ _ _ _ _ _ _ _ h']; rfl
  · exact State.cfg_enter _ _ _ _ _ h

theorem State.cfg_noteDefer (s : State) (q : ObjRow) (i j : Nat) (h : q.other i j Obj.dropped)
    (h' : q.other i j Obj.suppressedTotal) (h'' : q.other i j Obj.powerDefer) : s.noteDefer.cfg q i j = s.cfg q i j := by
  unfold State.noteDefer
  generalize (if 3 ≤ s.power.target then (s.modes &&& sleepDefer).toNat else 0) = d
  dsimp only
  split
  · rw [State.cfg_record _ _ _ _ _ _ _ _ h h', State.cfg_keep_ne _ _ _ _ _ _ _ _ h'']
  · rw [State.cfg_keep_ne _ _ _ _ _ _ _ _ h'']

/-- A mode change leaves an object alone that is none of the five it may count in. -/
theorem State.cfg_changeModes (s : State) (set clear : BitVec 12) (cause : Nat) (q : ObjRow) (i j : Nat)
    (h : q.other i j Obj.dropped) (h' : q.other i j Obj.suppressedTotal) (h'' : q.other i j Obj.powerDefer)
    (m : q.other i j Obj.modeSeq) (m' : q.other i j Obj.modeChanges) :
    (s.changeModes set clear cause).cfg q i j = s.cfg q i j := by
  unfold State.changeModes
  dsimp only
  split
  · rfl
  · split
    · rw [State.cfg_noteDefer _ _ _ _ h h' h'']
      show (((s.keep _ _).bump _).cfg q i j) = _
      rw [State.cfg_bump_ne _ _ _ _ _ _ _ _ m', State.cfg_keep_ne _ _ _ _ _ _ _ _ m]
    · split
      · rw [State.cfg_noteDefer _ _ _ _ h h' h'']
        show ((((s.keep _ _).bump _).enter _).cfg q i j) = _
        rw [State.cfg_enter _ _ _ _ _ h, State.cfg_bump_ne _ _ _ _ _ _ _ _ m', State.cfg_keep_ne _ _ _ _ _ _ _ _ m]
      · rfl

/-- While no change waits and the buffer has room, a mode change that changes something is in force at once. -/
theorem State.modes_changeModes (s : State) (set clear : BitVec 12) (cause : Nat) (hw : s.sampler.waiting = [])
    (hr : s.pendingRecs < 1024) : (s.changeModes set clear cause).modes = newModes s.modes set clear := by
  unfold State.changeModes
  dsimp only
  split
  · exact ‹_ = s.modes›.symm
  · split
    · simp
    · simp [hr, hw]

end Sys2Proof.Machine
end

