-- ==== Sys2Proof/Laws/Cells.lean ====
section
/-! SUPPORT. Dispatch queues, cells and fences: what posting, returning and fencing do (R14 to R16, R39 to R44). -/
namespace Sys2Proof.Machine

@[simp] theorem State.workQueue_setQueue_same (s : State) (k : Nat) (q : List WorkItem) :
    (s.setQueue k q).workQueue k = q := by
  simp [State.workQueue, State.setQueue]

theorem State.workQueue_setQueue_ne (s : State) (k : Nat) (q : List WorkItem) {j : Nat} (h : j ≠ k) :
    (s.setQueue k q).workQueue j = s.workQueue j := by
  simp [State.workQueue, State.setQueue, Tbl.get_set_ne _ _ _ _ h]

@[simp] theorem State.cell_setCell_same (s : State) (c : Nat) (x : CellSt) : (s.setCell c x).cell c = x := by
  simp [State.cell, State.setCell]

theorem State.cell_setCell_ne (s : State) (c : Nat) (x : CellSt) {d : Nat} (h : d ≠ c) :
    (s.setCell c x).cell d = s.cell d := by
  simp [State.cell, State.setCell, Tbl.get_set_ne _ _ _ _ h]

/-- A cell finds the first item in the first dispatch unit that holds one of its role. -/
theorem State.nextItem_first (s : State) (role q : Nat) (before after : List Nat) (w : WorkItem) (rest : List WorkItem)
    (hb : ∀ p ∈ before, s.workQueue (queueKey p role) = []) (hq : s.workQueue (queueKey q role) = w :: rest) :
    s.nextItem role (before ++ q :: after) = some (queueKey q role, w, rest) := by
  induction before with
  | nil => simp [State.nextItem, hq]
  | cons a t ih =>
    simp only [List.cons_append, State.nextItem, hb a (by simp)]
    exact ih (fun p hp => hb p (by simp [hp]))

/-- Items of the generation in force that a cell gives back are results, in order. -/
theorem State.return_all (l : List WorkItem) : ∀ (s : State), (∀ w ∈ l, s.staleWork w = false) →
    l.foldl (fun a w => a.returnItem w true) s
      = { s with cells := { s.cells with results := s.cells.results ++ l.map (fun w => (w.prod, w.tag, true)) } } := by
  induction l with
  | nil => intro s _; simp
  | cons a t ih =>
    intro s h
    have e : s.returnItem a true
        = { s with cells := { s.cells with results := s.cells.results ++ [(a.prod, a.tag, true)] } } := by
      simp [State.returnItem, h a (by simp)]
    rw [List.foldl_cons, e]
    refine (ih _ ?_).trans ?_
    · exact fun w hw => h w (by simp [hw])
    · simp

/-- An item posted again touches neither the cells nor what waits for promotion or for the fabric. -/
theorem State.repost_cells (s : State) (w : WorkItem) :
    (s.repostAfterFault w).cells.cells = s.cells.cells ∧ (s.repostAfterFault w).cells.fenced = s.cells.fenced ∧
      (s.repostAfterFault w).cells.reqs = s.cells.reqs := by
  unfold State.repostAfterFault
  split
  · unfold State.post; dsimp only; split <;> simp [State.setQueue]
  · unfold State.failWork; split <;> simp

theorem State.repostAll_cells (l : List WorkItem) : ∀ (s : State),
    (l.foldl State.repostAfterFault s).cells.cells = s.cells.cells ∧
      (l.foldl State.repostAfterFault s).cells.fenced = s.cells.fenced ∧
      (l.foldl State.repostAfterFault s).cells.reqs = s.cells.reqs := by
  induction l with
  | nil => simp
  | cons a t ih =>
    intro s
    have h := s.repost_cells a
    have g := ih (s.repostAfterFault a)
    exact ⟨g.1.trans h.1, g.2.1.trans h.2.1, g.2.2.trans h.2.2⟩

/-- What fencing a cell by a fault does (R41, R43). -/
theorem State.fenceCell_facts (s : State) (c r : Nat) (hc : c < 96) (h : s.cellRole c ≠ 7) (hr : r ≤ 5) :
    (s.fenceCell c r).cellRole c = 7 ∧ (s.fenceCell c r).cfg Obj.fenceReason c = r ∧
      (s.cfg Obj.fenceCount c < 255 → (s.fenceCell c r).cfg Obj.fenceCount c = s.cfg Obj.fenceCount c + 1) ∧
      (s.fenceCell c r).cell c = CellSt.idle ∧
      (s.fenceCell c r).cells.fenced = s.cells.fenced ++ [(c, s.cellRole c)] ∧
      (s.fenceCell c r).cells.reqs = s.cells.reqs := by
  have n1 : Obj.fenceReason.key c 0 ≠ Obj.cellRole.key c 0 := by simp [ObjRow.key, Obj.cellRole, Obj.fenceReason]
  have n2 : Obj.fenceCount.key c 0 ≠ Obj.cellRole.key c 0 := by simp [ObjRow.key, Obj.cellRole, Obj.fenceCount]
  have n3 : Obj.fenceCount.key c 0 ≠ Obj.fenceReason.key c 0 := by simp [ObjRow.key, Obj.fenceReason, Obj.fenceCount]
  have o : ∀ q ∈ [Obj.cellRole, Obj.fenceReason, Obj.fenceCount], q.other c 0 Obj.dropped ∧ q.other c 0 Obj.suppressedTotal := by
    intro q hq
    simp at hq
    rcases hq with rfl | rfl | rfl <;>
      simp [ObjRow.other, ObjRow.key, Obj.cellRole, Obj.fenceReason, Obj.fenceCount, Obj.dropped, Obj.suppressedTotal] <;> omega
  have top : Obj.fenceCount.top = 255 := by decide
  have K : ∀ (l : List WorkItem) (a : State) (q : ObjRow),
      (l.foldl State.repostAfterFault a).cfg q c = a.cfg q c := fun l a q => State.cfg_of_force (by simp) q c 0
  unfold State.fenceCell
  rw [if_neg h]
  simp only [hr, if_true]
  refine ⟨?_, ?_, ?_, ?_, ?_, ?_⟩
  · unfold State.cellRole
    rw [K]
    show (State.record _ _ _ _ _).cfg _ _ _ = _
    rw [State.cfg_record _ _ _ _ _ _ _ _ (o _ (by simp)).1 (o _ (by simp)).2]
    show (State.save _ _ _ _ _).cfg _ _ _ = _
    rw [State.cfg_save_ne _ _ _ _ _ _ _ _ n2.symm, State.cfg_bump_ne _ _ _ _ _ _ _ _ n2.symm,
      State.cfg_save_ne _ _ _ _ _ _ _ _ n1.symm, State.cfg_save_same]
  · rw [K]
    show (State.record _ _ _ _ _).cfg _ _ _ = _
    rw [State.cfg_record _ _ _ _ _ _ _ _ (o _ (by simp)).1 (o _ (by simp)).2]
    show (State.save _ _ _ _ _).cfg _ _ _ = _
    rw [State.cfg_save_ne _ _ _ _ _ _ _ _ n3.symm, State.cfg_bump_ne _ _ _ _ _ _ _ _ n3.symm, State.cfg_save_same]
  · intro lt
    rw [K]
    show (State.record _ _ _ _ _).cfg _ _ _ = _
    rw [State.cfg_record _ _ _ _ _ _ _ _ (o _ (by simp)).1 (o _ (by simp)).2]
    show (State.save _ _ _ _ _).cfg _ _ _ = _
    rw [State.cfg_save_same]
    have e : ((s.save Obj.cellRole 7 c).save Obj.fenceReason r c).cfg Obj.fenceCount c = s.cfg Obj.fenceCount c := by
      rw [State.cfg_save_ne _ _ _ _ _ _ _ _ n3, State.cfg_save_ne _ _ _ _ _ _ _ _ n2]
    rw [State.cfg_bump_same _ _ _ _ _ (by rw [e, top]; omega), e]
  · show Tbl.get CellSt.idle (List.foldl State.repostAfterFault _ _).cells.cells c = _
    rw [(State.repostAll_cells _ _).1]
    show Tbl.get CellSt.idle (State.record _ _ _ _ _).cells.cells c = _
    simp [State.setCell]
  · rw [(State.repostAll_cells (s.cell c).items _).2.1]
    show (State.record _ _ _ _ _).cells.fenced ++ _ = _
    simp [State.setCell]
  · rw [(State.repostAll_cells (s.cell c).items _).2.2]
    show (State.record _ _ _ _ _).cells.reqs = _
    simp [State.setCell]

end Sys2Proof.Machine
end

