-- ==== Sys2Proof/Laws/Commands.lean ====
section
/-! SUPPORT. What each command leaves alone: for a command that gives a next state, the fields of `State` that it does not
touch. -/
set_option maxRecDepth 8000
set_option linter.all false
namespace Sys2Proof.Machine

@[simp] theorem startWith_dict (s : State) (h : Hdr) (gate : State → Option Status) (go : State → State)
    (k : ∀ a, (go a).dict = a.dict) : (s.startWith h gate go).dict = s.dict := by
  unfold State.startWith
  split
  · rfl
  · rename_i hb
    have := state_begin_some _ _ _ hb
    split <;> simp [k, this]

@[simp] theorem run_dict (s : State) (h : Hdr) (body : State → State × Cpl)
    (k : ∀ a, (body a).1.dict = a.dict) : (s.run h body).dict = s.dict := by
  unfold State.run
  exact startWith_dict _ _ _ _ fun a => by simp [k]

@[simp] theorem runRead_dict (s : State) (h : Hdr) (body : State → State × Cpl)
    (k : ∀ a, (body a).1.dict = a.dict) : (s.runRead h body).dict = s.dict := by
  unfold State.runRead
  exact startWith_dict _ _ _ _ fun a => by simp [k]

@[simp] theorem startWith_modes (s : State) (h : Hdr) (gate : State → Option Status) (go : State → State)
    (k : ∀ a, (go a).modes = a.modes) : (s.startWith h gate go).modes = s.modes := by
  unfold State.startWith
  split
  · rfl
  · rename_i hb
    have := state_begin_some _ _ _ hb
    split <;> simp [k, this]

@[simp] theorem run_modes (s : State) (h : Hdr) (body : State → State × Cpl)
    (k : ∀ a, (body a).1.modes = a.modes) : (s.run h body).modes = s.modes := by
  unfold State.run
  exact startWith_modes _ _ _ _ fun a => by simp [k]

@[simp] theorem runRead_modes (s : State) (h : Hdr) (body : State → State × Cpl)
    (k : ∀ a, (body a).1.modes = a.modes) : (s.runRead h body).modes = s.modes := by
  unfold State.runRead
  exact startWith_modes _ _ _ _ fun a => by simp [k]

@[simp] theorem startWith_sampler (s : State) (h : Hdr) (gate : State → Option Status) (go : State → State)
    (k : ∀ a, (go a).sampler = a.sampler) : (s.startWith h gate go).sampler = s.sampler := by
  unfold State.startWith
  split
  · rfl
  · rename_i hb
    have := state_begin_some _ _ _ hb
    split <;> simp [k, this]

@[simp] theorem run_sampler (s : State) (h : Hdr) (body : State → State × Cpl)
    (k : ∀ a, (body a).1.sampler = a.sampler) : (s.run h body).sampler = s.sampler := by
  unfold State.run
  exact startWith_sampler _ _ _ _ fun a => by simp [k]

@[simp] theorem runRead_sampler (s : State) (h : Hdr) (body : State → State × Cpl)
    (k : ∀ a, (body a).1.sampler = a.sampler) : (s.runRead h body).sampler = s.sampler := by
  unfold State.runRead
  exact startWith_sampler _ _ _ _ fun a => by simp [k]

@[simp] theorem startWith_cells (s : State) (h : Hdr) (gate : State → Option Status) (go : State → State)
    (k : ∀ a, (go a).cells = a.cells) : (s.startWith h gate go).cells = s.cells := by
  unfold State.startWith
  split
  · rfl
  · rename_i hb
    have := state_begin_some _ _ _ hb
    split <;> simp [k, this]

@[simp] theorem run_cells (s : State) (h : Hdr) (body : State → State × Cpl)
    (k : ∀ a, (body a).1.cells = a.cells) : (s.run h body).cells = s.cells := by
  unfold State.run
  exact startWith_cells _ _ _ _ fun a => by simp [k]

@[simp] theorem runRead_cells (s : State) (h : Hdr) (body : State → State × Cpl)
    (k : ∀ a, (body a).1.cells = a.cells) : (s.runRead h body).cells = s.cells := by
  unfold State.runRead
  exact startWith_cells _ _ _ _ fun a => by simp [k]

@[simp] theorem startWith_sched (s : State) (h : Hdr) (gate : State → Option Status) (go : State → State)
    (k : ∀ a, (go a).sched = a.sched) : (s.startWith h gate go).sched = s.sched := by
  unfold State.startWith
  split
  · rfl
  · rename_i hb
    have := state_begin_some _ _ _ hb
    split <;> simp [k, this]

@[simp] theorem run_sched (s : State) (h : Hdr) (body : State → State × Cpl)
    (k : ∀ a, (body a).1.sched = a.sched) : (s.run h body).sched = s.sched := by
  unfold State.run
  exact startWith_sched _ _ _ _ fun a => by simp [k]

@[simp] theorem runRead_sched (s : State) (h : Hdr) (body : State → State × Cpl)
    (k : ∀ a, (body a).1.sched = a.sched) : (s.runRead h body).sched = s.sched := by
  unfold State.runRead
  exact startWith_sched _ _ _ _ fun a => by simp [k]

@[simp] theorem startWith_flash (s : State) (h : Hdr) (gate : State → Option Status) (go : State → State)
    (k : ∀ a, (go a).flash = a.flash) : (s.startWith h gate go).flash = s.flash := by
  unfold State.startWith
  split
  · rfl
  · rename_i hb
    have := state_begin_some _ _ _ hb
    split <;> simp [k, this]

@[simp] theorem run_flash (s : State) (h : Hdr) (body : State → State × Cpl)
    (k : ∀ a, (body a).1.flash = a.flash) : (s.run h body).flash = s.flash := by
  unfold State.run
  exact startWith_flash _ _ _ _ fun a => by simp [k]

@[simp] theorem runRead_flash (s : State) (h : Hdr) (body : State → State × Cpl)
    (k : ∀ a, (body a).1.flash = a.flash) : (s.runRead h body).flash = s.flash := by
  unfold State.runRead
  exact startWith_flash _ _ _ _ fun a => by simp [k]

@[simp] theorem startWith_store (s : State) (h : Hdr) (gate : State → Option Status) (go : State → State)
    (k : ∀ a, (go a).store = a.store) : (s.startWith h gate go).store = s.store := by
  unfold State.startWith
  split
  · rfl
  · rename_i hb
    have := state_begin_some _ _ _ hb
    split <;> simp [k, this]

@[simp] theorem run_store (s : State) (h : Hdr) (body : State → State × Cpl)
    (k : ∀ a, (body a).1.store = a.store) : (s.run h body).store = s.store := by
  unfold State.run
  exact startWith_store _ _ _ _ fun a => by simp [k]

@[simp] theorem runRead_store (s : State) (h : Hdr) (body : State → State × Cpl)
    (k : ∀ a, (body a).1.store = a.store) : (s.runRead h body).store = s.store := by
  unfold State.runRead
  exact startWith_store _ _ _ _ fun a => by simp [k]

@[simp] theorem startWith_power (s : State) (h : Hdr) (gate : State → Option Status) (go : State → State)
    (k : ∀ a, (go a).power = a.power) : (s.startWith h gate go).power = s.power := by
  unfold State.startWith
  split
  · rfl
  · rename_i hb
    have := state_begin_some _ _ _ hb
    split <;> simp [k, this]

@[simp] theorem run_power (s : State) (h : Hdr) (body : State → State × Cpl)
    (k : ∀ a, (body a).1.power = a.power) : (s.run h body).power = s.power := by
  unfold State.run
  exact startWith_power _ _ _ _ fun a => by simp [k]

@[simp] theorem runRead_power (s : State) (h : Hdr) (body : State → State × Cpl)
    (k : ∀ a, (body a).1.power = a.power) : (s.runRead h body).power = s.power := by
  unfold State.runRead
  exact startWith_power _ _ _ _ fun a => by simp [k]

@[simp] theorem startWith_mem (s : State) (h : Hdr) (gate : State → Option Status) (go : State → State)
    (k : ∀ a, (go a).mem = a.mem) : (s.startWith h gate go).mem = s.mem := by
  unfold State.startWith
  split
  · rfl
  · rename_i hb
    have := state_begin_some _ _ _ hb
    split <;> simp [k, this]

@[simp] theorem run_mem (s : State) (h : Hdr) (body : State → State × Cpl)
    (k : ∀ a, (body a).1.mem = a.mem) : (s.run h body).mem = s.mem := by
  unfold State.run
  exact startWith_mem _ _ _ _ fun a => by simp [k]

@[simp] theorem runRead_mem (s : State) (h : Hdr) (body : State → State × Cpl)
    (k : ∀ a, (body a).1.mem = a.mem) : (s.runRead h body).mem = s.mem := by
  unfold State.runRead
  exact startWith_mem _ _ _ _ fun a => by simp [k]

@[simp] theorem startWith_cipher (s : State) (h : Hdr) (gate : State → Option Status) (go : State → State)
    (k : ∀ a, (go a).cipher = a.cipher) : (s.startWith h gate go).cipher = s.cipher := by
  unfold State.startWith
  split
  · rfl
  · rename_i hb
    have := state_begin_some _ _ _ hb
    split <;> simp [k, this]

@[simp] theorem run_cipher (s : State) (h : Hdr) (body : State → State × Cpl)
    (k : ∀ a, (body a).1.cipher = a.cipher) : (s.run h body).cipher = s.cipher := by
  unfold State.run
  exact startWith_cipher _ _ _ _ fun a => by simp [k]

@[simp] theorem runRead_cipher (s : State) (h : Hdr) (body : State → State × Cpl)
    (k : ∀ a, (body a).1.cipher = a.cipher) : (s.runRead h body).cipher = s.cipher := by
  unfold State.runRead
  exact startWith_cipher _ _ _ _ fun a => by simp [k]

@[simp] theorem startWith_engines (s : State) (h : Hdr) (gate : State → Option Status) (go : State → State)
    (k : ∀ a, (go a).engines = a.engines) : (s.startWith h gate go).engines = s.engines := by
  unfold State.startWith
  split
  · rfl
  · rename_i hb
    have := state_begin_some _ _ _ hb
    split <;> simp [k, this]

@[simp] theorem run_engines (s : State) (h : Hdr) (body : State → State × Cpl)
    (k : ∀ a, (body a).1.engines = a.engines) : (s.run h body).engines = s.engines := by
  unfold State.run
  exact startWith_engines _ _ _ _ fun a => by simp [k]

@[simp] theorem runRead_engines (s : State) (h : Hdr) (body : State → State × Cpl)
    (k : ∀ a, (body a).1.engines = a.engines) : (s.runRead h body).engines = s.engines := by
  unfold State.runRead
  exact startWith_engines _ _ _ _ fun a => by simp [k]

@[simp] theorem startWith_admin (s : State) (h : Hdr) (gate : State → Option Status) (go : State → State)
    (k : ∀ a, (go a).admin = a.admin) : (s.startWith h gate go).admin = s.admin := by
  unfold State.startWith
  split
  · rfl
  · rename_i hb
    have := state_begin_some _ _ _ hb
    split <;> simp [k, this]

@[simp] theorem run_admin (s : State) (h : Hdr) (body : State → State × Cpl)
    (k : ∀ a, (body a).1.admin = a.admin) : (s.run h body).admin = s.admin := by
  unfold State.run
  exact startWith_admin _ _ _ _ fun a => by simp [k]

@[simp] theorem runRead_admin (s : State) (h : Hdr) (body : State → State × Cpl)
    (k : ∀ a, (body a).1.admin = a.admin) : (s.runRead h body).admin = s.admin := by
  unfold State.runRead
  exact startWith_admin _ _ _ _ fun a => by simp [k]

@[simp] theorem startWith_staing (s : State) (h : Hdr) (gate : State → Option Status) (go : State → State)
    (k : ∀ a, (go a).staing = a.staing) : (s.startWith h gate go).staing = s.staing := by
  unfold State.startWith
  split
  · rfl
  · rename_i hb
    have := state_begin_some _ _ _ hb
    split <;> simp [k, this]

@[simp] theorem run_staing (s : State) (h : Hdr) (body : State → State × Cpl)
    (k : ∀ a, (body a).1.staing = a.staing) : (s.run h body).staing = s.staing := by
  unfold State.run
  exact startWith_staing _ _ _ _ fun a => by simp [k]

@[simp] theorem runRead_staing (s : State) (h : Hdr) (body : State → State × Cpl)
    (k : ∀ a, (body a).1.staing = a.staing) : (s.runRead h body).staing = s.staing := by
  unfold State.runRead
  exact startWith_staing _ _ _ _ fun a => by simp [k]

@[simp] theorem startWith_security (s : State) (h : Hdr) (gate : State → Option Status) (go : State → State)
    (k : ∀ a, (go a).security = a.security) : (s.startWith h gate go).security = s.security := by
  unfold State.startWith
  split
  · rfl
  · rename_i hb
    have := state_begin_some _ _ _ hb
    split <;> simp [k, this]

@[simp] theorem run_security (s : State) (h : Hdr) (body : State → State × Cpl)
    (k : ∀ a, (body a).1.security = a.security) : (s.run h body).security = s.security := by
  unfold State.run
  exact startWith_security _ _ _ _ fun a => by simp [k]

@[simp] theorem runRead_security (s : State) (h : Hdr) (body : State → State × Cpl)
    (k : ∀ a, (body a).1.security = a.security) : (s.runRead h body).security = s.security := by
  unfold State.runRead
  exact startWith_security _ _ _ _ fun a => by simp [k]

@[simp] theorem startWith_migration (s : State) (h : Hdr) (gate : State → Option Status) (go : State → State)
    (k : ∀ a, (go a).migration = a.migration) : (s.startWith h gate go).migration = s.migration := by
  unfold State.startWith
  split
  · rfl
  · rename_i hb
    have := state_begin_some _ _ _ hb
    split <;> simp [k, this]

@[simp] theorem run_migration (s : State) (h : Hdr) (body : State → State × Cpl)
    (k : ∀ a, (body a).1.migration = a.migration) : (s.run h body).migration = s.migration := by
  unfold State.run
  exact startWith_migration _ _ _ _ fun a => by simp [k]

@[simp] theorem runRead_migration (s : State) (h : Hdr) (body : State → State × Cpl)
    (k : ∀ a, (body a).1.migration = a.migration) : (s.runRead h body).migration = s.migration := by
  unfold State.runRead
  exact startWith_migration _ _ _ _ fun a => by simp [k]

@[simp] theorem startWith_pending (s : State) (h : Hdr) (gate : State → Option Status) (go : State → State)
    (k : ∀ a, (go a).pending = a.pending) : (s.startWith h gate go).pending = s.pending := by
  unfold State.startWith
  split
  · rfl
  · rename_i hb
    have := state_begin_some _ _ _ hb
    split <;> simp [k, this]

@[simp] theorem run_pending (s : State) (h : Hdr) (body : State → State × Cpl)
    (k : ∀ a, (body a).1.pending = a.pending) : (s.run h body).pending = s.pending := by
  unfold State.run
  exact startWith_pending _ _ _ _ fun a => by simp [k]

@[simp] theorem runRead_pending (s : State) (h : Hdr) (body : State → State × Cpl)
    (k : ∀ a, (body a).1.pending = a.pending) : (s.runRead h body).pending = s.pending := by
  unfold State.runRead
  exact startWith_pending _ _ _ _ fun a => by simp [k]

@[simp] theorem startWith_now (s : State) (h : Hdr) (gate : State → Option Status) (go : State → State)
    (k : ∀ a, (go a).now = a.now) : (s.startWith h gate go).now = s.now := by
  unfold State.startWith
  split
  · rfl
  · rename_i hb
    have := state_begin_some _ _ _ hb
    split <;> simp [k, this]

@[simp] theorem run_now (s : State) (h : Hdr) (body : State → State × Cpl)
    (k : ∀ a, (body a).1.now = a.now) : (s.run h body).now = s.now := by
  unfold State.run
  exact startWith_now _ _ _ _ fun a => by simp [k]

@[simp] theorem runRead_now (s : State) (h : Hdr) (body : State → State × Cpl)
    (k : ∀ a, (body a).1.now = a.now) : (s.runRead h body).now = s.now := by
  unfold State.runRead
  exact startWith_now _ _ _ _ fun a => by simp [k]

@[simp] theorem startWith_bootAt (s : State) (h : Hdr) (gate : State → Option Status) (go : State → State)
    (k : ∀ a, (go a).bootAt = a.bootAt) : (s.startWith h gate go).bootAt = s.bootAt := by
  unfold State.startWith
  split
  · rfl
  · rename_i hb
    have := state_begin_some _ _ _ hb
    split <;> simp [k, this]

@[simp] theorem run_bootAt (s : State) (h : Hdr) (body : State → State × Cpl)
    (k : ∀ a, (body a).1.bootAt = a.bootAt) : (s.run h body).bootAt = s.bootAt := by
  unfold State.run
  exact startWith_bootAt _ _ _ _ fun a => by simp [k]

@[simp] theorem runRead_bootAt (s : State) (h : Hdr) (body : State → State × Cpl)
    (k : ∀ a, (body a).1.bootAt = a.bootAt) : (s.runRead h body).bootAt = s.bootAt := by
  unfold State.runRead
  exact startWith_bootAt _ _ _ _ fun a => by simp [k]

@[simp] theorem startWith_free (s : State) (h : Hdr) (gate : State → Option Status) (go : State → State)
    (k : ∀ a, (go a).free = a.free) : (s.startWith h gate go).free = s.free := by
  unfold State.startWith
  split
  · rfl
  · rename_i hb
    have := state_begin_some _ _ _ hb
    split <;> simp [k, this]

@[simp] theorem run_free (s : State) (h : Hdr) (body : State → State × Cpl)
    (k : ∀ a, (body a).1.free = a.free) : (s.run h body).free = s.free := by
  unfold State.run
  exact startWith_free _ _ _ _ fun a => by simp [k]

@[simp] theorem runRead_free (s : State) (h : Hdr) (body : State → State × Cpl)
    (k : ∀ a, (body a).1.free = a.free) : (s.runRead h body).free = s.free := by
  unfold State.runRead
  exact startWith_free _ _ _ _ fun a => by simp [k]

@[simp] theorem startWith_out (s : State) (h : Hdr) (gate : State → Option Status) (go : State → State)
    (k : ∀ a, (go a).out = a.out) : (s.startWith h gate go).out = s.out := by
  unfold State.startWith
  split
  · rfl
  · rename_i hb
    have := state_begin_some _ _ _ hb
    split <;> simp [k, this]

@[simp] theorem run_out (s : State) (h : Hdr) (body : State → State × Cpl)
    (k : ∀ a, (body a).1.out = a.out) : (s.run h body).out = s.out := by
  unfold State.run
  exact startWith_out _ _ _ _ fun a => by simp [k]

@[simp] theorem runRead_out (s : State) (h : Hdr) (body : State → State × Cpl)
    (k : ∀ a, (body a).1.out = a.out) : (s.runRead h body).out = s.out := by
  unfold State.runRead
  exact startWith_out _ _ _ _ fun a => by simp [k]

@[simp] theorem startWith_mem_dram (s : State) (h : Hdr) (gate : State → Option Status) (go : State → State)
    (k : ∀ a, (go a).mem.dram = a.mem.dram) : (s.startWith h gate go).mem.dram = s.mem.dram := by
  unfold State.startWith
  split
  · rfl
  · rename_i hb
    have := state_begin_some _ _ _ hb
    split <;> simp [k, this]

@[simp] theorem run_mem_dram (s : State) (h : Hdr) (body : State → State × Cpl)
    (k : ∀ a, (body a).1.mem.dram = a.mem.dram) : (s.run h body).mem.dram = s.mem.dram := by
  unfold State.run
  exact startWith_mem_dram _ _ _ _ fun a => by simp [k]

@[simp] theorem runRead_mem_dram (s : State) (h : Hdr) (body : State → State × Cpl)
    (k : ∀ a, (body a).1.mem.dram = a.mem.dram) : (s.runRead h body).mem.dram = s.mem.dram := by
  unfold State.runRead
  exact startWith_mem_dram _ _ _ _ fun a => by simp [k]

@[simp] theorem startWith_engines_windows (s : State) (h : Hdr) (gate : State → Option Status) (go : State → State)
    (k : ∀ a, (go a).engines.windows = a.engines.windows) : (s.startWith h gate go).engines.windows = s.engines.windows := by
  unfold State.startWith
  split
  · rfl
  · rename_i hb
    have := state_begin_some _ _ _ hb
    split <;> simp [k, this]

@[simp] theorem run_engines_windows (s : State) (h : Hdr) (body : State → State × Cpl)
    (k : ∀ a, (body a).1.engines.windows = a.engines.windows) : (s.run h body).engines.windows = s.engines.windows := by
  unfold State.run
  exact startWith_engines_windows _ _ _ _ fun a => by simp [k]

@[simp] theorem runRead_engines_windows (s : State) (h : Hdr) (body : State → State × Cpl)
    (k : ∀ a, (body a).1.engines.windows = a.engines.windows) : (s.runRead h body).engines.windows = s.engines.windows := by
  unfold State.runRead
  exact startWith_engines_windows _ _ _ _ fun a => by simp [k]

@[simp] theorem buffered_modes (s : State) (h : Hdr) (len : Nat) (body : State → State × Cpl)
    (k : ∀ a, (body a).1.modes = a.modes) : (s.buffered h len body).1.modes = s.modes := by
  unfold State.buffered
  split
  · simp
  · exact k _

@[simp] theorem runData_modes (s : State) (h : Hdr) (len : Nat) (body : State → State × Cpl)
    (k : ∀ a, (body a).1.modes = a.modes) : (s.runData h len body).modes = s.modes :=
  run_modes _ _ _ fun a => buffered_modes _ _ _ _ k

@[simp] theorem buffered_sampler (s : State) (h : Hdr) (len : Nat) (body : State → State × Cpl)
    (k : ∀ a, (body a).1.sampler = a.sampler) : (s.buffered h len body).1.sampler = s.sampler := by
  unfold State.buffered
  split
  · simp
  · exact k _

@[simp] theorem runData_sampler (s : State) (h : Hdr) (len : Nat) (body : State → State × Cpl)
    (k : ∀ a, (body a).1.sampler = a.sampler) : (s.runData h len body).sampler = s.sampler :=
  run_sampler _ _ _ fun a => buffered_sampler _ _ _ _ k

@[simp] theorem buffered_cells (s : State) (h : Hdr) (len : Nat) (body : State → State × Cpl)
    (k : ∀ a, (body a).1.cells = a.cells) : (s.buffered h len body).1.cells = s.cells := by
  unfold State.buffered
  split
  · simp
  · exact k _

@[simp] theorem runData_cells (s : State) (h : Hdr) (len : Nat) (body : State → State × Cpl)
    (k : ∀ a, (body a).1.cells = a.cells) : (s.runData h len body).cells = s.cells :=
  run_cells _ _ _ fun a => buffered_cells _ _ _ _ k

@[simp] theorem buffered_sched (s : State) (h : Hdr) (len : Nat) (body : State → State × Cpl)
    (k : ∀ a, (body a).1.sched = a.sched) : (s.buffered h len body).1.sched = s.sched := by
  unfold State.buffered
  split
  · simp
  · exact k _

@[simp] theorem runData_sched (s : State) (h : Hdr) (len : Nat) (body : State → State × Cpl)
    (k : ∀ a, (body a).1.sched = a.sched) : (s.runData h len body).sched = s.sched :=
  run_sched _ _ _ fun a => buffered_sched _ _ _ _ k

@[simp] theorem buffered_flash (s : State) (h : Hdr) (len : Nat) (body : State → State × Cpl)
    (k : ∀ a, (body a).1.flash = a.flash) : (s.buffered h len body).1.flash = s.flash := by
  unfold State.buffered
  split
  · simp
  · exact k _

@[simp] theorem runData_flash (s : State) (h : Hdr) (len : Nat) (body : State → State × Cpl)
    (k : ∀ a, (body a).1.flash = a.flash) : (s.runData h len body).flash = s.flash :=
  run_flash _ _ _ fun a => buffered_flash _ _ _ _ k

@[simp] theorem buffered_store (s : State) (h : Hdr) (len : Nat) (body : State → State × Cpl)
    (k : ∀ a, (body a).1.store = a.store) : (s.buffered h len body).1.store = s.store := by
  unfold State.buffered
  split
  · simp
  · exact k _

@[simp] theorem runData_store (s : State) (h : Hdr) (len : Nat) (body : State → State × Cpl)
    (k : ∀ a, (body a).1.store = a.store) : (s.runData h len body).store = s.store :=
  run_store _ _ _ fun a => buffered_store _ _ _ _ k

@[simp] theorem buffered_power (s : State) (h : Hdr) (len : Nat) (body : State → State × Cpl)
    (k : ∀ a, (body a).1.power = a.power) : (s.buffered h len body).1.power = s.power := by
  unfold State.buffered
  split
  · simp
  · exact k _

@[simp] theorem runData_power (s : State) (h : Hdr) (len : Nat) (body : State → State × Cpl)
    (k : ∀ a, (body a).1.power = a.power) : (s.runData h len body).power = s.power :=
  run_power _ _ _ fun a => buffered_power _ _ _ _ k

@[simp] theorem buffered_mem (s : State) (h : Hdr) (len : Nat) (body : State → State × Cpl)
    (k : ∀ a, (body a).1.mem = a.mem) : (s.buffered h len body).1.mem = s.mem := by
  unfold State.buffered
  split
  · simp
  · exact k _

@[simp] theorem runData_mem (s : State) (h : Hdr) (len : Nat) (body : State → State × Cpl)
    (k : ∀ a, (body a).1.mem = a.mem) : (s.runData h len body).mem = s.mem :=
  run_mem _ _ _ fun a => buffered_mem _ _ _ _ k

@[simp] theorem buffered_cipher (s : State) (h : Hdr) (len : Nat) (body : State → State × Cpl)
    (k : ∀ a, (body a).1.cipher = a.cipher) : (s.buffered h len body).1.cipher = s.cipher := by
  unfold State.buffered
  split
  · simp
  · exact k _

@[simp] theorem runData_cipher (s : State) (h : Hdr) (len : Nat) (body : State → State × Cpl)
    (k : ∀ a, (body a).1.cipher = a.cipher) : (s.runData h len body).cipher = s.cipher :=
  run_cipher _ _ _ fun a => buffered_cipher _ _ _ _ k

@[simp] theorem buffered_engines (s : State) (h : Hdr) (len : Nat) (body : State → State × Cpl)
    (k : ∀ a, (body a).1.engines = a.engines) : (s.buffered h len body).1.engines = s.engines := by
  unfold State.buffered
  split
  · simp
  · exact k _

@[simp] theorem runData_engines (s : State) (h : Hdr) (len : Nat) (body : State → State × Cpl)
    (k : ∀ a, (body a).1.engines = a.engines) : (s.runData h len body).engines = s.engines :=
  run_engines _ _ _ fun a => buffered_engines _ _ _ _ k

@[simp] theorem buffered_admin (s : State) (h : Hdr) (len : Nat) (body : State → State × Cpl)
    (k : ∀ a, (body a).1.admin = a.admin) : (s.buffered h len body).1.admin = s.admin := by
  unfold State.buffered
  split
  · simp
  · exact k _

@[simp] theorem runData_admin (s : State) (h : Hdr) (len : Nat) (body : State → State × Cpl)
    (k : ∀ a, (body a).1.admin = a.admin) : (s.runData h len body).admin = s.admin :=
  run_admin _ _ _ fun a => buffered_admin _ _ _ _ k

@[simp] theorem buffered_staing (s : State) (h : Hdr) (len : Nat) (body : State → State × Cpl)
    (k : ∀ a, (body a).1.staing = a.staing) : (s.buffered h len body).1.staing = s.staing := by
  unfold State.buffered
  split
  · simp
  · exact k _

@[simp] theorem runData_staing (s : State) (h : Hdr) (len : Nat) (body : State → State × Cpl)
    (k : ∀ a, (body a).1.staing = a.staing) : (s.runData h len body).staing = s.staing :=
  run_staing _ _ _ fun a => buffered_staing _ _ _ _ k

@[simp] theorem buffered_security (s : State) (h : Hdr) (len : Nat) (body : State → State × Cpl)
    (k : ∀ a, (body a).1.security = a.security) : (s.buffered h len body).1.security = s.security := by
  unfold State.buffered
  split
  · simp
  · exact k _

@[simp] theorem runData_security (s : State) (h : Hdr) (len : Nat) (body : State → State × Cpl)
    (k : ∀ a, (body a).1.security = a.security) : (s.runData h len body).security = s.security :=
  run_security _ _ _ fun a => buffered_security _ _ _ _ k

@[simp] theorem buffered_migration (s : State) (h : Hdr) (len : Nat) (body : State → State × Cpl)
    (k : ∀ a, (body a).1.migration = a.migration) : (s.buffered h len body).1.migration = s.migration := by
  unfold State.buffered
  split
  · simp
  · exact k _

@[simp] theorem runData_migration (s : State) (h : Hdr) (len : Nat) (body : State → State × Cpl)
    (k : ∀ a, (body a).1.migration = a.migration) : (s.runData h len body).migration = s.migration :=
  run_migration _ _ _ fun a => buffered_migration _ _ _ _ k

@[simp] theorem buffered_pending (s : State) (h : Hdr) (len : Nat) (body : State → State × Cpl)
    (k : ∀ a, (body a).1.pending = a.pending) : (s.buffered h len body).1.pending = s.pending := by
  unfold State.buffered
  split
  · simp
  · exact k _

@[simp] theorem runData_pending (s : State) (h : Hdr) (len : Nat) (body : State → State × Cpl)
    (k : ∀ a, (body a).1.pending = a.pending) : (s.runData h len body).pending = s.pending :=
  run_pending _ _ _ fun a => buffered_pending _ _ _ _ k

@[simp] theorem buffered_now (s : State) (h : Hdr) (len : Nat) (body : State → State × Cpl)
    (k : ∀ a, (body a).1.now = a.now) : (s.buffered h len body).1.now = s.now := by
  unfold State.buffered
  split
  · simp
  · exact k _

@[simp] theorem runData_now (s : State) (h : Hdr) (len : Nat) (body : State → State × Cpl)
    (k : ∀ a, (body a).1.now = a.now) : (s.runData h len body).now = s.now :=
  run_now _ _ _ fun a => buffered_now _ _ _ _ k

@[simp] theorem buffered_bootAt (s : State) (h : Hdr) (len : Nat) (body : State → State × Cpl)
    (k : ∀ a, (body a).1.bootAt = a.bootAt) : (s.buffered h len body).1.bootAt = s.bootAt := by
  unfold State.buffered
  split
  · simp
  · exact k _

@[simp] theorem runData_bootAt (s : State) (h : Hdr) (len : Nat) (body : State → State × Cpl)
    (k : ∀ a, (body a).1.bootAt = a.bootAt) : (s.runData h len body).bootAt = s.bootAt :=
  run_bootAt _ _ _ fun a => buffered_bootAt _ _ _ _ k

@[simp] theorem buffered_free (s : State) (h : Hdr) (len : Nat) (body : State → State × Cpl)
    (k : ∀ a, (body a).1.free = a.free) : (s.buffered h len body).1.free = s.free := by
  unfold State.buffered
  split
  · simp
  · exact k _

@[simp] theorem runData_free (s : State) (h : Hdr) (len : Nat) (body : State → State × Cpl)
    (k : ∀ a, (body a).1.free = a.free) : (s.runData h len body).free = s.free :=
  run_free _ _ _ fun a => buffered_free _ _ _ _ k

@[simp] theorem buffered_out (s : State) (h : Hdr) (len : Nat) (body : State → State × Cpl)
    (k : ∀ a, (body a).1.out = a.out) : (s.buffered h len body).1.out = s.out := by
  unfold State.buffered
  split
  · simp
  · exact k _

@[simp] theorem runData_out (s : State) (h : Hdr) (len : Nat) (body : State → State × Cpl)
    (k : ∀ a, (body a).1.out = a.out) : (s.runData h len body).out = s.out :=
  run_out _ _ _ fun a => buffered_out _ _ _ _ k

@[simp] theorem buffered_mem_dram (s : State) (h : Hdr) (len : Nat) (body : State → State × Cpl)
    (k : ∀ a, (body a).1.mem.dram = a.mem.dram) : (s.buffered h len body).1.mem.dram = s.mem.dram := by
  unfold State.buffered
  split
  · simp
  · exact k _

@[simp] theorem runData_mem_dram (s : State) (h : Hdr) (len : Nat) (body : State → State × Cpl)
    (k : ∀ a, (body a).1.mem.dram = a.mem.dram) : (s.runData h len body).mem.dram = s.mem.dram :=
  run_mem_dram _ _ _ fun a => buffered_mem_dram _ _ _ _ k

@[simp] theorem buffered_engines_windows (s : State) (h : Hdr) (len : Nat) (body : State → State × Cpl)
    (k : ∀ a, (body a).1.engines.windows = a.engines.windows) : (s.buffered h len body).1.engines.windows = s.engines.windows := by
  unfold State.buffered
  split
  · simp
  · exact k _

@[simp] theorem runData_engines_windows (s : State) (h : Hdr) (len : Nat) (body : State → State × Cpl)
    (k : ∀ a, (body a).1.engines.windows = a.engines.windows) : (s.runData h len body).engines.windows = s.engines.windows :=
  run_engines_windows _ _ _ fun a => buffered_engines_windows _ _ _ _ k

@[simp] theorem managerRun_dict (s : State) (h : Hdr) (body : State → State × Cpl)
    (k : ∀ a, (body a).1.dict = a.dict) : (s.managerRun h body).dict = s.dict := by
  unfold State.managerRun
  exact run_dict _ _ _ fun a => by split <;> simp [k, refuse]

@[simp] theorem managerRun_modes (s : State) (h : Hdr) (body : State → State × Cpl)
    (k : ∀ a, (body a).1.modes = a.modes) : (s.managerRun h body).modes = s.modes := by
  unfold State.managerRun
  exact run_modes _ _ _ fun a => by split <;> simp [k, refuse]

@[simp] theorem managerRun_sampler (s : State) (h : Hdr) (body : State → State × Cpl)
    (k : ∀ a, (body a).1.sampler = a.sampler) : (s.managerRun h body).sampler = s.sampler := by
  unfold State.managerRun
  exact run_sampler _ _ _ fun a => by split <;> simp [k, refuse]

@[simp] theorem managerRun_cells (s : State) (h : Hdr) (body : State → State × Cpl)
    (k : ∀ a, (body a).1.cells = a.cells) : (s.managerRun h body).cells = s.cells := by
  unfold State.managerRun
  exact run_cells _ _ _ fun a => by split <;> simp [k, refuse]

@[simp] theorem managerRun_sched (s : State) (h : Hdr) (body : State → State × Cpl)
    (k : ∀ a, (body a).1.sched = a.sched) : (s.managerRun h body).sched = s.sched := by
  unfold State.managerRun
  exact run_sched _ _ _ fun a => by split <;> simp [k, refuse]

@[simp] theorem managerRun_flash (s : State) (h : Hdr) (body : State → State × Cpl)
    (k : ∀ a, (body a).1.flash = a.flash) : (s.managerRun h body).flash = s.flash := by
  unfold State.managerRun
  exact run_flash _ _ _ fun a => by split <;> simp [k, refuse]

@[simp] theorem managerRun_store (s : State) (h : Hdr) (body : State → State × Cpl)
    (k : ∀ a, (body a).1.store = a.store) : (s.managerRun h body).store = s.store := by
  unfold State.managerRun
  exact run_store _ _ _ fun a => by split <;> simp [k, refuse]

@[simp] theorem managerRun_power (s : State) (h : Hdr) (body : State → State × Cpl)
    (k : ∀ a, (body a).1.power = a.power) : (s.managerRun h body).power = s.power := by
  unfold State.managerRun
  exact run_power _ _ _ fun a => by split <;> simp [k, refuse]

@[simp] theorem managerRun_mem (s : State) (h : Hdr) (body : State → State × Cpl)
    (k : ∀ a, (body a).1.mem = a.mem) : (s.managerRun h body).mem = s.mem := by
  unfold State.managerRun
  exact run_mem _ _ _ fun a => by split <;> simp [k, refuse]

@[simp] theorem managerRun_cipher (s : State) (h : Hdr) (body : State → State × Cpl)
    (k : ∀ a, (body a).1.cipher = a.cipher) : (s.managerRun h body).cipher = s.cipher := by
  unfold State.managerRun
  exact run_cipher _ _ _ fun a => by split <;> simp [k, refuse]

@[simp] theorem managerRun_engines (s : State) (h : Hdr) (body : State → State × Cpl)
    (k : ∀ a, (body a).1.engines = a.engines) : (s.managerRun h body).engines = s.engines := by
  unfold State.managerRun
  exact run_engines _ _ _ fun a => by split <;> simp [k, refuse]

@[simp] theorem managerRun_admin (s : State) (h : Hdr) (body : State → State × Cpl)
    (k : ∀ a, (body a).1.admin = a.admin) : (s.managerRun h body).admin = s.admin := by
  unfold State.managerRun
  exact run_admin _ _ _ fun a => by split <;> simp [k, refuse]

@[simp] theorem managerRun_staing (s : State) (h : Hdr) (body : State → State × Cpl)
    (k : ∀ a, (body a).1.staing = a.staing) : (s.managerRun h body).staing = s.staing := by
  unfold State.managerRun
  exact run_staing _ _ _ fun a => by split <;> simp [k, refuse]

@[simp] theorem managerRun_security (s : State) (h : Hdr) (body : State → State × Cpl)
    (k : ∀ a, (body a).1.security = a.security) : (s.managerRun h body).security = s.security := by
  unfold State.managerRun
  exact run_security _ _ _ fun a => by split <;> simp [k, refuse]

@[simp] theorem managerRun_migration (s : State) (h : Hdr) (body : State → State × Cpl)
    (k : ∀ a, (body a).1.migration = a.migration) : (s.managerRun h body).migration = s.migration := by
  unfold State.managerRun
  exact run_migration _ _ _ fun a => by split <;> simp [k, refuse]

@[simp] theorem managerRun_pending (s : State) (h : Hdr) (body : State → State × Cpl)
    (k : ∀ a, (body a).1.pending = a.pending) : (s.managerRun h body).pending = s.pending := by
  unfold State.managerRun
  exact run_pending _ _ _ fun a => by split <;> simp [k, refuse]

@[simp] theorem managerRun_now (s : State) (h : Hdr) (body : State → State × Cpl)
    (k : ∀ a, (body a).1.now = a.now) : (s.managerRun h body).now = s.now := by
  unfold State.managerRun
  exact run_now _ _ _ fun a => by split <;> simp [k, refuse]

@[simp] theorem managerRun_bootAt (s : State) (h : Hdr) (body : State → State × Cpl)
    (k : ∀ a, (body a).1.bootAt = a.bootAt) : (s.managerRun h body).bootAt = s.bootAt := by
  unfold State.managerRun
  exact run_bootAt _ _ _ fun a => by split <;> simp [k, refuse]

@[simp] theorem managerRun_free (s : State) (h : Hdr) (body : State → State × Cpl)
    (k : ∀ a, (body a).1.free = a.free) : (s.managerRun h body).free = s.free := by
  unfold State.managerRun
  exact run_free _ _ _ fun a => by split <;> simp [k, refuse]

@[simp] theorem managerRun_out (s : State) (h : Hdr) (body : State → State × Cpl)
    (k : ∀ a, (body a).1.out = a.out) : (s.managerRun h body).out = s.out := by
  unfold State.managerRun
  exact run_out _ _ _ fun a => by split <;> simp [k, refuse]

@[simp] theorem managerRun_mem_dram (s : State) (h : Hdr) (body : State → State × Cpl)
    (k : ∀ a, (body a).1.mem.dram = a.mem.dram) : (s.managerRun h body).mem.dram = s.mem.dram := by
  unfold State.managerRun
  exact run_mem_dram _ _ _ fun a => by split <;> simp [k, refuse]

@[simp] theorem managerRun_engines_windows (s : State) (h : Hdr) (body : State → State × Cpl)
    (k : ∀ a, (body a).1.engines.windows = a.engines.windows) : (s.managerRun h body).engines.windows = s.engines.windows := by
  unfold State.managerRun
  exact run_engines_windows _ _ _ fun a => by split <;> simp [k, refuse]

@[simp] theorem launch_modes (s : State) (h : Hdr) (cmd : Instr) (mods looks : List (Nat × Nat × Nat)) (go : State → State)
    (k : ∀ a, (go a).modes = a.modes) : (s.launch h cmd mods looks go).modes = s.modes := by
  unfold State.launch
  dsimp only
  split
  · simp
  · split <;> simp [k]

@[simp] theorem launch_sampler (s : State) (h : Hdr) (cmd : Instr) (mods looks : List (Nat × Nat × Nat)) (go : State → State)
    (k : ∀ a, (go a).sampler = a.sampler) : (s.launch h cmd mods looks go).sampler = s.sampler := by
  unfold State.launch
  dsimp only
  split
  · simp
  · split <;> simp [k]

@[simp] theorem launch_cells (s : State) (h : Hdr) (cmd : Instr) (mods looks : List (Nat × Nat × Nat)) (go : State → State)
    (k : ∀ a, (go a).cells = a.cells) : (s.launch h cmd mods looks go).cells = s.cells := by
  unfold State.launch
  dsimp only
  split
  · simp
  · split <;> simp [k]

@[simp] theorem launch_sched (s : State) (h : Hdr) (cmd : Instr) (mods looks : List (Nat × Nat × Nat)) (go : State → State)
    (k : ∀ a, (go a).sched = a.sched) : (s.launch h cmd mods looks go).sched = s.sched := by
  unfold State.launch
  dsimp only
  split
  · simp
  · split <;> simp [k]

@[simp] theorem launch_flash (s : State) (h : Hdr) (cmd : Instr) (mods looks : List (Nat × Nat × Nat)) (go : State → State)
    (k : ∀ a, (go a).flash = a.flash) : (s.launch h cmd mods looks go).flash = s.flash := by
  unfold State.launch
  dsimp only
  split
  · simp
  · split <;> simp [k]

@[simp] theorem launch_store (s : State) (h : Hdr) (cmd : Instr) (mods looks : List (Nat × Nat × Nat)) (go : State → State)
    (k : ∀ a, (go a).store = a.store) : (s.launch h cmd mods looks go).store = s.store := by
  unfold State.launch
  dsimp only
  split
  · simp
  · split <;> simp [k]

@[simp] theorem launch_power (s : State) (h : Hdr) (cmd : Instr) (mods looks : List (Nat × Nat × Nat)) (go : State → State)
    (k : ∀ a, (go a).power = a.power) : (s.launch h cmd mods looks go).power = s.power := by
  unfold State.launch
  dsimp only
  split
  · simp
  · split <;> simp [k]

@[simp] theorem launch_mem (s : State) (h : Hdr) (cmd : Instr) (mods looks : List (Nat × Nat × Nat)) (go : State → State)
    (k : ∀ a, (go a).mem = a.mem) : (s.launch h cmd mods looks go).mem = s.mem := by
  unfold State.launch
  dsimp only
  split
  · simp
  · split <;> simp [k]

@[simp] theorem launch_cipher (s : State) (h : Hdr) (cmd : Instr) (mods looks : List (Nat × Nat × Nat)) (go : State → State)
    (k : ∀ a, (go a).cipher = a.cipher) : (s.launch h cmd mods looks go).cipher = s.cipher := by
  unfold State.launch
  dsimp only
  split
  · simp
  · split <;> simp [k]

@[simp] theorem launch_engines (s : State) (h : Hdr) (cmd : Instr) (mods looks : List (Nat × Nat × Nat)) (go : State → State)
    (k : ∀ a, (go a).engines = a.engines) : (s.launch h cmd mods looks go).engines = s.engines := by
  unfold State.launch
  dsimp only
  split
  · simp
  · split <;> simp [k]

@[simp] theorem launch_admin (s : State) (h : Hdr) (cmd : Instr) (mods looks : List (Nat × Nat × Nat)) (go : State → State)
    (k : ∀ a, (go a).admin = a.admin) : (s.launch h cmd mods looks go).admin = s.admin := by
  unfold State.launch
  dsimp only
  split
  · simp
  · split <;> simp [k]

@[simp] theorem launch_staing (s : State) (h : Hdr) (cmd : Instr) (mods looks : List (Nat × Nat × Nat)) (go : State → State)
    (k : ∀ a, (go a).staing = a.staing) : (s.launch h cmd mods looks go).staing = s.staing := by
  unfold State.launch
  dsimp only
  split
  · simp
  · split <;> simp [k]

@[simp] theorem launch_security (s : State) (h : Hdr) (cmd : Instr) (mods looks : List (Nat × Nat × Nat)) (go : State → State)
    (k : ∀ a, (go a).security = a.security) : (s.launch h cmd mods looks go).security = s.security := by
  unfold State.launch
  dsimp only
  split
  · simp
  · split <;> simp [k]

@[simp] theorem launch_migration (s : State) (h : Hdr) (cmd : Instr) (mods looks : List (Nat × Nat × Nat)) (go : State → State)
    (k : ∀ a, (go a).migration = a.migration) : (s.launch h cmd mods looks go).migration = s.migration := by
  unfold State.launch
  dsimp only
  split
  · simp
  · split <;> simp [k]

@[simp] theorem launch_pending (s : State) (h : Hdr) (cmd : Instr) (mods looks : List (Nat × Nat × Nat)) (go : State → State)
    (k : ∀ a, (go a).pending = a.pending) : (s.launch h cmd mods looks go).pending = s.pending := by
  unfold State.launch
  dsimp only
  split
  · simp
  · split <;> simp [k]

@[simp] theorem launch_now (s : State) (h : Hdr) (cmd : Instr) (mods looks : List (Nat × Nat × Nat)) (go : State → State)
    (k : ∀ a, (go a).now = a.now) : (s.launch h cmd mods looks go).now = s.now := by
  unfold State.launch
  dsimp only
  split
  · simp
  · split <;> simp [k]

@[simp] theorem launch_bootAt (s : State) (h : Hdr) (cmd : Instr) (mods looks : List (Nat × Nat × Nat)) (go : State → State)
    (k : ∀ a, (go a).bootAt = a.bootAt) : (s.launch h cmd mods looks go).bootAt = s.bootAt := by
  unfold State.launch
  dsimp only
  split
  · simp
  · split <;> simp [k]

@[simp] theorem launch_free (s : State) (h : Hdr) (cmd : Instr) (mods looks : List (Nat × Nat × Nat)) (go : State → State)
    (k : ∀ a, (go a).free = a.free) : (s.launch h cmd mods looks go).free = s.free := by
  unfold State.launch
  dsimp only
  split
  · simp
  · split <;> simp [k]

@[simp] theorem launch_out (s : State) (h : Hdr) (cmd : Instr) (mods looks : List (Nat × Nat × Nat)) (go : State → State)
    (k : ∀ a, (go a).out = a.out) : (s.launch h cmd mods looks go).out = s.out := by
  unfold State.launch
  dsimp only
  split
  · simp
  · split <;> simp [k]

/-- A command starts: nothing happens, it ends with a status, or it goes on. -/
theorem startWith_ind {P : State → Prop} {s : State} {h : Hdr} {gate : State → Option Status} {go : State → State}
    (h0 : P s) (h1 : ∀ a c, s.begin h = some a → P (a.finish h c)) (h2 : ∀ a, s.begin h = some a → P (go a)) :
    P (s.startWith h gate go) := by
  unfold State.startWith
  split
  · exact h0
  · rename_i hb
    split
    · exact h1 _ _ hb
    · exact h2 _ hb

/-- A command that runs to its end: nothing happens, it ends with a status, or its body gives its completion. -/
theorem run_ind {P : State → Prop} {s : State} {h : Hdr} {body : State → State × Cpl}
    (h0 : P s) (h1 : ∀ a c, s.begin h = some a → P (a.finish h c))
    (h2 : ∀ a, s.begin h = some a → P ((body a).1.finish h (body a).2)) : P (s.run h body) :=
  startWith_ind h0 h1 h2

theorem runRead_ind {P : State → Prop} {s : State} {h : Hdr} {body : State → State × Cpl}
    (h0 : P s) (h1 : ∀ a c, s.begin h = some a → P (a.finish h c))
    (h2 : ∀ a, s.begin h = some a → P ((body a).1.finish h (body a).2)) : P (s.runRead h body) :=
  startWith_ind h0 h1 h2

/-- A command of an I/O queue: nothing happens, it ends with a status, a refused pointer counted, or it goes on. -/
theorem ioRun_cases {s t : State} {h : Hdr} {check : State → Option Status} {go : State → State}
    (e : s.ioRun h check go = .next t) :
    t = s ∨ ∃ a, s.begin h = some a ∧
      ((∃ c, t = a.finish h c) ∨ (∃ st c, t = (a.countPointer h.fn st).finish h c) ∨ t = go a) := by
  unfold State.ioRun at e
  split at e
  · cases e; exact .inl rfl
  · rename_i a hb
    refine .inr ⟨a, hb, ?_⟩
    split at e
    · cases e
      split
      · exact .inr (.inl ⟨_, _, rfl⟩)
      · exact .inl ⟨_, rfl⟩
    · cases e; exact .inr (.inr rfl)

@[simp] theorem fst_refuse (st : Status) (s : State) : (refuse st s).1 = s := rfl

theorem actOn_modes (nsid : Nat) (act : State → Nat → Nat → Zone → Except Status State)
    (k : ∀ a n z y b, act a n z y = .ok b → b.modes = a.modes) (zs : List Nat) :
    ∀ a b, State.actOn nsid act zs a = .ok b → b.modes = a.modes := by
  induction zs with
  | nil => intro a b e; cases e; rfl
  | cons z t ih =>
    intro a b e
    unfold State.actOn at e
    split at e
    · cases e
    · split at e
      · rename_i hx
        exact (ih _ _ e).trans (k _ _ _ _ _ hx)
      · cases e

theorem zoneAction_modes (s : State) (h : Hdr) (nsid slba : Nat) (all : Bool) (states : List ZState)
    (act : State → Nat → Nat → Zone → Except Status State)
    (k : ∀ a n z y b, act a n z y = .ok b → b.modes = a.modes) :
    ∀ t, s.zoneAction h nsid slba all states act = .next t → t.modes = s.modes := by
  intro t e
  unfold State.zoneAction at e
  obtain rfl | ⟨a, hb, ⟨c, rfl⟩ | ⟨st, c, rfl⟩ | rfl⟩ := ioRun_cases e
  · rfl
  · simp [state_begin_some _ _ _ hb]
  · simp [state_begin_some _ _ _ hb]
  · have hf := state_begin_some _ _ _ hb
    split
    · simp [hf]
    · split
      · simp [hf]
      · rename_i ha
        have := actOn_modes nsid act k _ _ _ ha
        simp [this, hf]

theorem actOn_sampler (nsid : Nat) (act : State → Nat → Nat → Zone → Except Status State)
    (k : ∀ a n z y b, act a n z y = .ok b → b.sampler = a.sampler) (zs : List Nat) :
    ∀ a b, State.actOn nsid act zs a = .ok b → b.sampler = a.sampler := by
  induction zs with
  | nil => intro a b e; cases e; rfl
  | cons z t ih =>
    intro a b e
    unfold State.actOn at e
    split at e
    · cases e
    · split at e
      · rename_i hx
        exact (ih _ _ e).trans (k _ _ _ _ _ hx)
      · cases e

theorem zoneAction_sampler (s : State) (h : Hdr) (nsid slba : Nat) (all : Bool) (states : List ZState)
    (act : State → Nat → Nat → Zone → Except Status State)
    (k : ∀ a n z y b, act a n z y = .ok b → b.sampler = a.sampler) :
    ∀ t, s.zoneAction h nsid slba all states act = .next t → t.sampler = s.sampler := by
  intro t e
  unfold State.zoneAction at e
  obtain rfl | ⟨a, hb, ⟨c, rfl⟩ | ⟨st, c, rfl⟩ | rfl⟩ := ioRun_cases e
  · rfl
  · simp [state_begin_some _ _ _ hb]
  · simp [state_begin_some _ _ _ hb]
  · have hf := state_begin_some _ _ _ hb
    split
    · simp [hf]
    · split
      · simp [hf]
      · rename_i ha
        have := actOn_sampler nsid act k _ _ _ ha
        simp [this, hf]

theorem actOn_cells (nsid : Nat) (act : State → Nat → Nat → Zone → Except Status State)
    (k : ∀ a n z y b, act a n z y = .ok b → b.cells = a.cells) (zs : List Nat) :
    ∀ a b, State.actOn nsid act zs a = .ok b → b.cells = a.cells := by
  induction zs with
  | nil => intro a b e; cases e; rfl
  | cons z t ih =>
    intro a b e
    unfold State.actOn at e
    split at e
    · cases e
    · split at e
      · rename_i hx
        exact (ih _ _ e).trans (k _ _ _ _ _ hx)
      · cases e

theorem zoneAction_cells (s : State) (h : Hdr) (nsid slba : Nat) (all : Bool) (states : List ZState)
    (act : State → Nat → Nat → Zone → Except Status State)
    (k : ∀ a n z y b, act a n z y = .ok b → b.cells = a.cells) :
    ∀ t, s.zoneAction h nsid slba all states act = .next t → t.cells = s.cells := by
  intro t e
  unfold State.zoneAction at e
  obtain rfl | ⟨a, hb, ⟨c, rfl⟩ | ⟨st, c, rfl⟩ | rfl⟩ := ioRun_cases e
  · rfl
  · simp [state_begin_some _ _ _ hb]
  · simp [state_begin_some _ _ _ hb]
  · have hf := state_begin_some _ _ _ hb
    split
    · simp [hf]
    · split
      · simp [hf]
      · rename_i ha
        have := actOn_cells nsid act k _ _ _ ha
        simp [this, hf]

theorem actOn_sched (nsid : Nat) (act : State → Nat → Nat → Zone → Except Status State)
    (k : ∀ a n z y b, act a n z y = .ok b → b.sched = a.sched) (zs : List Nat) :
    ∀ a b, State.actOn nsid act zs a = .ok b → b.sched = a.sched := by
  induction zs with
  | nil => intro a b e; cases e; rfl
  | cons z t ih =>
    intro a b e
    unfold State.actOn at e
    split at e
    · cases e
    · split at e
      · rename_i hx
        exact (ih _ _ e).trans (k _ _ _ _ _ hx)
      · cases e

theorem zoneAction_sched (s : State) (h : Hdr) (nsid slba : Nat) (all : Bool) (states : List ZState)
    (act : State → Nat → Nat → Zone → Except Status State)
    (k : ∀ a n z y b, act a n z y = .ok b → b.sched = a.sched) :
    ∀ t, s.zoneAction h nsid slba all states act = .next t → t.sched = s.sched := by
  intro t e
  unfold State.zoneAction at e
  obtain rfl | ⟨a, hb, ⟨c, rfl⟩ | ⟨st, c, rfl⟩ | rfl⟩ := ioRun_cases e
  · rfl
  · simp [state_begin_some _ _ _ hb]
  · simp [state_begin_some _ _ _ hb]
  · have hf := state_begin_some _ _ _ hb
    split
    · simp [hf]
    · split
      · simp [hf]
      · rename_i ha
        have := actOn_sched nsid act k _ _ _ ha
        simp [this, hf]

theorem actOn_flash (nsid : Nat) (act : State → Nat → Nat → Zone → Except Status State)
    (k : ∀ a n z y b, act a n z y = .ok b → b.flash = a.flash) (zs : List Nat) :
    ∀ a b, State.actOn nsid act zs a = .ok b → b.flash = a.flash := by
  induction zs with
  | nil => intro a b e; cases e; rfl
  | cons z t ih =>
    intro a b e
    unfold State.actOn at e
    split at e
    · cases e
    · split at e
      · rename_i hx
        exact (ih _ _ e).trans (k _ _ _ _ _ hx)
      · cases e

theorem zoneAction_flash (s : State) (h : Hdr) (nsid slba : Nat) (all : Bool) (states : List ZState)
    (act : State → Nat → Nat → Zone → Except Status State)
    (k : ∀ a n z y b, act a n z y = .ok b → b.flash = a.flash) :
    ∀ t, s.zoneAction h nsid slba all states act = .next t → t.flash = s.flash := by
  intro t e
  unfold State.zoneAction at e
  obtain rfl | ⟨a, hb, ⟨c, rfl⟩ | ⟨st, c, rfl⟩ | rfl⟩ := ioRun_cases e
  · rfl
  · simp [state_begin_some _ _ _ hb]
  · simp [state_begin_some _ _ _ hb]
  · have hf := state_begin_some _ _ _ hb
    split
    · simp [hf]
    · split
      · simp [hf]
      · rename_i ha
        have := actOn_flash nsid act k _ _ _ ha
        simp [this, hf]

theorem actOn_store (nsid : Nat) (act : State → Nat → Nat → Zone → Except Status State)
    (k : ∀ a n z y b, act a n z y = .ok b → b.store = a.store) (zs : List Nat) :
    ∀ a b, State.actOn nsid act zs a = .ok b → b.store = a.store := by
  induction zs with
  | nil => intro a b e; cases e; rfl
  | cons z t ih =>
    intro a b e
    unfold State.actOn at e
    split at e
    · cases e
    · split at e
      · rename_i hx
        exact (ih _ _ e).trans (k _ _ _ _ _ hx)
      · cases e

theorem zoneAction_store (s : State) (h : Hdr) (nsid slba : Nat) (all : Bool) (states : List ZState)
    (act : State → Nat → Nat → Zone → Except Status State)
    (k : ∀ a n z y b, act a n z y = .ok b → b.store = a.store) :
    ∀ t, s.zoneAction h nsid slba all states act = .next t → t.store = s.store := by
  intro t e
  unfold State.zoneAction at e
  obtain rfl | ⟨a, hb, ⟨c, rfl⟩ | ⟨st, c, rfl⟩ | rfl⟩ := ioRun_cases e
  · rfl
  · simp [state_begin_some _ _ _ hb]
  · simp [state_begin_some _ _ _ hb]
  · have hf := state_begin_some _ _ _ hb
    split
    · simp [hf]
    · split
      · simp [hf]
      · rename_i ha
        have := actOn_store nsid act k _ _ _ ha
        simp [this, hf]

theorem actOn_power (nsid : Nat) (act : State → Nat → Nat → Zone → Except Status State)
    (k : ∀ a n z y b, act a n z y = .ok b → b.power = a.power) (zs : List Nat) :
    ∀ a b, State.actOn nsid act zs a = .ok b → b.power = a.power := by
  induction zs with
  | nil => intro a b e; cases e; rfl
  | cons z t ih =>
    intro a b e
    unfold State.actOn at e
    split at e
    · cases e
    · split at e
      · rename_i hx
        exact (ih _ _ e).trans (k _ _ _ _ _ hx)
      · cases e

theorem zoneAction_power (s : State) (h : Hdr) (nsid slba : Nat) (all : Bool) (states : List ZState)
    (act : State → Nat → Nat → Zone → Except Status State)
    (k : ∀ a n z y b, act a n z y = .ok b → b.power = a.power) :
    ∀ t, s.zoneAction h nsid slba all states act = .next t → t.power = s.power := by
  intro t e
  unfold State.zoneAction at e
  obtain rfl | ⟨a, hb, ⟨c, rfl⟩ | ⟨st, c, rfl⟩ | rfl⟩ := ioRun_cases e
  · rfl
  · simp [state_begin_some _ _ _ hb]
  · simp [state_begin_some _ _ _ hb]
  · have hf := state_begin_some _ _ _ hb
    split
    · simp [hf]
    · split
      · simp [hf]
      · rename_i ha
        have := actOn_power nsid act k _ _ _ ha
        simp [this, hf]

theorem actOn_mem (nsid : Nat) (act : State → Nat → Nat → Zone → Except Status State)
    (k : ∀ a n z y b, act a n z y = .ok b → b.mem = a.mem) (zs : List Nat) :
    ∀ a b, State.actOn nsid act zs a = .ok b → b.mem = a.mem := by
  induction zs with
  | nil => intro a b e; cases e; rfl
  | cons z t ih =>
    intro a b e
    unfold State.actOn at e
    split at e
    · cases e
    · split at e
      · rename_i hx
        exact (ih _ _ e).trans (k _ _ _ _ _ hx)
      · cases e

theorem zoneAction_mem (s : State) (h : Hdr) (nsid slba : Nat) (all : Bool) (states : List ZState)
    (act : State → Nat → Nat → Zone → Except Status State)
    (k : ∀ a n z y b, act a n z y = .ok b → b.mem = a.mem) :
    ∀ t, s.zoneAction h nsid slba all states act = .next t → t.mem = s.mem := by
  intro t e
  unfold State.zoneAction at e
  obtain rfl | ⟨a, hb, ⟨c, rfl⟩ | ⟨st, c, rfl⟩ | rfl⟩ := ioRun_cases e
  · rfl
  · simp [state_begin_some _ _ _ hb]
  · simp [state_begin_some _ _ _ hb]
  · have hf := state_begin_some _ _ _ hb
    split
    · simp [hf]
    · split
      · simp [hf]
      · rename_i ha
        have := actOn_mem nsid act k _ _ _ ha
        simp [this, hf]

theorem actOn_cipher (nsid : Nat) (act : State → Nat → Nat → Zone → Except Status State)
    (k : ∀ a n z y b, act a n z y = .ok b → b.cipher = a.cipher) (zs : List Nat) :
    ∀ a b, State.actOn nsid act zs a = .ok b → b.cipher = a.cipher := by
  induction zs with
  | nil => intro a b e; cases e; rfl
  | cons z t ih =>
    intro a b e
    unfold State.actOn at e
    split at e
    · cases e
    · split at e
      · rename_i hx
        exact (ih _ _ e).trans (k _ _ _ _ _ hx)
      · cases e

theorem zoneAction_cipher (s : State) (h : Hdr) (nsid slba : Nat) (all : Bool) (states : List ZState)
    (act : State → Nat → Nat → Zone → Except Status State)
    (k : ∀ a n z y b, act a n z y = .ok b → b.cipher = a.cipher) :
    ∀ t, s.zoneAction h nsid slba all states act = .next t → t.cipher = s.cipher := by
  intro t e
  unfold State.zoneAction at e
  obtain rfl | ⟨a, hb, ⟨c, rfl⟩ | ⟨st, c, rfl⟩ | rfl⟩ := ioRun_cases e
  · rfl
  · simp [state_begin_some _ _ _ hb]
  · simp [state_begin_some _ _ _ hb]
  · have hf := state_begin_some _ _ _ hb
    split
    · simp [hf]
    · split
      · simp [hf]
      · rename_i ha
        have := actOn_cipher nsid act k _ _ _ ha
        simp [this, hf]

theorem actOn_engines (nsid : Nat) (act : State → Nat → Nat → Zone → Except Status State)
    (k : ∀ a n z y b, act a n z y = .ok b → b.engines = a.engines) (zs : List Nat) :
    ∀ a b, State.actOn nsid act zs a = .ok b → b.engines = a.engines := by
  induction zs with
  | nil => intro a b e; cases e; rfl
  | cons z t ih =>
    intro a b e
    unfold State.actOn at e
    split at e
    · cases e
    · split at e
      · rename_i hx
        exact (ih _ _ e).trans (k _ _ _ _ _ hx)
      · cases e

theorem zoneAction_engines (s : State) (h : Hdr) (nsid slba : Nat) (all : Bool) (states : List ZState)
    (act : State → Nat → Nat → Zone → Except Status State)
    (k : ∀ a n z y b, act a n z y = .ok b → b.engines = a.engines) :
    ∀ t, s.zoneAction h nsid slba all states act = .next t → t.engines = s.engines := by
  intro t e
  unfold State.zoneAction at e
  obtain rfl | ⟨a, hb, ⟨c, rfl⟩ | ⟨st, c, rfl⟩ | rfl⟩ := ioRun_cases e
  · rfl
  · simp [state_begin_some _ _ _ hb]
  · simp [state_begin_some _ _ _ hb]
  · have hf := state_begin_some _ _ _ hb
    split
    · simp [hf]
    · split
      · simp [hf]
      · rename_i ha
        have := actOn_engines nsid act k _ _ _ ha
        simp [this, hf]

theorem actOn_admin (nsid : Nat) (act : State → Nat → Nat → Zone → Except Status State)
    (k : ∀ a n z y b, act a n z y = .ok b → b.admin = a.admin) (zs : List Nat) :
    ∀ a b, State.actOn nsid act zs a = .ok b → b.admin = a.admin := by
  induction zs with
  | nil => intro a b e; cases e; rfl
  | cons z t ih =>
    intro a b e
    unfold State.actOn at e
    split at e
    · cases e
    · split at e
      · rename_i hx
        exact (ih _ _ e).trans (k _ _ _ _ _ hx)
      · cases e

theorem zoneAction_admin (s : State) (h : Hdr) (nsid slba : Nat) (all : Bool) (states : List ZState)
    (act : State → Nat → Nat → Zone → Except Status State)
    (k : ∀ a n z y b, act a n z y = .ok b → b.admin = a.admin) :
    ∀ t, s.zoneAction h nsid slba all states act = .next t → t.admin = s.admin := by
  intro t e
  unfold State.zoneAction at e
  obtain rfl | ⟨a, hb, ⟨c, rfl⟩ | ⟨st, c, rfl⟩ | rfl⟩ := ioRun_cases e
  · rfl
  · simp [state_begin_some _ _ _ hb]
  · simp [state_begin_some _ _ _ hb]
  · have hf := state_begin_some _ _ _ hb
    split
    · simp [hf]
    · split
      · simp [hf]
      · rename_i ha
        have := actOn_admin nsid act k _ _ _ ha
        simp [this, hf]

theorem actOn_staing (nsid : Nat) (act : State → Nat → Nat → Zone → Except Status State)
    (k : ∀ a n z y b, act a n z y = .ok b → b.staing = a.staing) (zs : List Nat) :
    ∀ a b, State.actOn nsid act zs a = .ok b → b.staing = a.staing := by
  induction zs with
  | nil => intro a b e; cases e; rfl
  | cons z t ih =>
    intro a b e
    unfold State.actOn at e
    split at e
    · cases e
    · split at e
      · rename_i hx
        exact (ih _ _ e).trans (k _ _ _ _ _ hx)
      · cases e

theorem zoneAction_staing (s : State) (h : Hdr) (nsid slba : Nat) (all : Bool) (states : List ZState)
    (act : State → Nat → Nat → Zone → Except Status State)
    (k : ∀ a n z y b, act a n z y = .ok b → b.staing = a.staing) :
    ∀ t, s.zoneAction h nsid slba all states act = .next t → t.staing = s.staing := by
  intro t e
  unfold State.zoneAction at e
  obtain rfl | ⟨a, hb, ⟨c, rfl⟩ | ⟨st, c, rfl⟩ | rfl⟩ := ioRun_cases e
  · rfl
  · simp [state_begin_some _ _ _ hb]
  · simp [state_begin_some _ _ _ hb]
  · have hf := state_begin_some _ _ _ hb
    split
    · simp [hf]
    · split
      · simp [hf]
      · rename_i ha
        have := actOn_staing nsid act k _ _ _ ha
        simp [this, hf]

theorem actOn_security (nsid : Nat) (act : State → Nat → Nat → Zone → Except Status State)
    (k : ∀ a n z y b, act a n z y = .ok b → b.security = a.security) (zs : List Nat) :
    ∀ a b, State.actOn nsid act zs a = .ok b → b.security = a.security := by
  induction zs with
  | nil => intro a b e; cases e; rfl
  | cons z t ih =>
    intro a b e
    unfold State.actOn at e
    split at e
    · cases e
    · split at e
      · rename_i hx
        exact (ih _ _ e).trans (k _ _ _ _ _ hx)
      · cases e

theorem zoneAction_security (s : State) (h : Hdr) (nsid slba : Nat) (all : Bool) (states : List ZState)
    (act : State → Nat → Nat → Zone → Except Status State)
    (k : ∀ a n z y b, act a n z y = .ok b → b.security = a.security) :
    ∀ t, s.zoneAction h nsid slba all states act = .next t → t.security = s.security := by
  intro t e
  unfold State.zoneAction at e
  obtain rfl | ⟨a, hb, ⟨c, rfl⟩ | ⟨st, c, rfl⟩ | rfl⟩ := ioRun_cases e
  · rfl
  · simp [state_begin_some _ _ _ hb]
  · simp [state_begin_some _ _ _ hb]
  · have hf := state_begin_some _ _ _ hb
    split
    · simp [hf]
    · split
      · simp [hf]
      · rename_i ha
        have := actOn_security nsid act k _ _ _ ha
        simp [this, hf]

theorem actOn_migration (nsid : Nat) (act : State → Nat → Nat → Zone → Except Status State)
    (k : ∀ a n z y b, act a n z y = .ok b → b.migration = a.migration) (zs : List Nat) :
    ∀ a b, State.actOn nsid act zs a = .ok b → b.migration = a.migration := by
  induction zs with
  | nil => intro a b e; cases e; rfl
  | cons z t ih =>
    intro a b e
    unfold State.actOn at e
    split at e
    · cases e
    · split at e
      · rename_i hx
        exact (ih _ _ e).trans (k _ _ _ _ _ hx)
      · cases e

theorem zoneAction_migration (s : State) (h : Hdr) (nsid slba : Nat) (all : Bool) (states : List ZState)
    (act : State → Nat → Nat → Zone → Except Status State)
    (k : ∀ a n z y b, act a n z y = .ok b → b.migration = a.migration) :
    ∀ t, s.zoneAction h nsid slba all states act = .next t → t.migration = s.migration := by
  intro t e
  unfold State.zoneAction at e
  obtain rfl | ⟨a, hb, ⟨c, rfl⟩ | ⟨st, c, rfl⟩ | rfl⟩ := ioRun_cases e
  · rfl
  · simp [state_begin_some _ _ _ hb]
  · simp [state_begin_some _ _ _ hb]
  · have hf := state_begin_some _ _ _ hb
    split
    · simp [hf]
    · split
      · simp [hf]
      · rename_i ha
        have := actOn_migration nsid act k _ _ _ ha
        simp [this, hf]

theorem actOn_pending (nsid : Nat) (act : State → Nat → Nat → Zone → Except Status State)
    (k : ∀ a n z y b, act a n z y = .ok b → b.pending = a.pending) (zs : List Nat) :
    ∀ a b, State.actOn nsid act zs a = .ok b → b.pending = a.pending := by
  induction zs with
  | nil => intro a b e; cases e; rfl
  | cons z t ih =>
    intro a b e
    unfold State.actOn at e
    split at e
    · cases e
    · split at e
      · rename_i hx
        exact (ih _ _ e).trans (k _ _ _ _ _ hx)
      · cases e

theorem zoneAction_pending (s : State) (h : Hdr) (nsid slba : Nat) (all : Bool) (states : List ZState)
    (act : State → Nat → Nat → Zone → Except Status State)
    (k : ∀ a n z y b, act a n z y = .ok b → b.pending = a.pending) :
    ∀ t, s.zoneAction h nsid slba all states act = .next t → t.pending = s.pending := by
  intro t e
  unfold State.zoneAction at e
  obtain rfl | ⟨a, hb, ⟨c, rfl⟩ | ⟨st, c, rfl⟩ | rfl⟩ := ioRun_cases e
  · rfl
  · simp [state_begin_some _ _ _ hb]
  · simp [state_begin_some _ _ _ hb]
  · have hf := state_begin_some _ _ _ hb
    split
    · simp [hf]
    · split
      · simp [hf]
      · rename_i ha
        have := actOn_pending nsid act k _ _ _ ha
        simp [this, hf]

theorem actOn_now (nsid : Nat) (act : State → Nat → Nat → Zone → Except Status State)
    (k : ∀ a n z y b, act a n z y = .ok b → b.now = a.now) (zs : List Nat) :
    ∀ a b, State.actOn nsid act zs a = .ok b → b.now = a.now := by
  induction zs with
  | nil => intro a b e; cases e; rfl
  | cons z t ih =>
    intro a b e
    unfold State.actOn at e
    split at e
    · cases e
    · split at e
      · rename_i hx
        exact (ih _ _ e).trans (k _ _ _ _ _ hx)
      · cases e

theorem zoneAction_now (s : State) (h : Hdr) (nsid slba : Nat) (all : Bool) (states : List ZState)
    (act : State → Nat → Nat → Zone → Except Status State)
    (k : ∀ a n z y b, act a n z y = .ok b → b.now = a.now) :
    ∀ t, s.zoneAction h nsid slba all states act = .next t → t.now = s.now := by
  intro t e
  unfold State.zoneAction at e
  obtain rfl | ⟨a, hb, ⟨c, rfl⟩ | ⟨st, c, rfl⟩ | rfl⟩ := ioRun_cases e
  · rfl
  · simp [state_begin_some _ _ _ hb]
  · simp [state_begin_some _ _ _ hb]
  · have hf := state_begin_some _ _ _ hb
    split
    · simp [hf]
    · split
      · simp [hf]
      · rename_i ha
        have := actOn_now nsid act k _ _ _ ha
        simp [this, hf]

theorem actOn_bootAt (nsid : Nat) (act : State → Nat → Nat → Zone → Except Status State)
    (k : ∀ a n z y b, act a n z y = .ok b → b.bootAt = a.bootAt) (zs : List Nat) :
    ∀ a b, State.actOn nsid act zs a = .ok b → b.bootAt = a.bootAt := by
  induction zs with
  | nil => intro a b e; cases e; rfl
  | cons z t ih =>
    intro a b e
    unfold State.actOn at e
    split at e
    · cases e
    · split at e
      · rename_i hx
        exact (ih _ _ e).trans (k _ _ _ _ _ hx)
      · cases e

theorem zoneAction_bootAt (s : State) (h : Hdr) (nsid slba : Nat) (all : Bool) (states : List ZState)
    (act : State → Nat → Nat → Zone → Except Status State)
    (k : ∀ a n z y b, act a n z y = .ok b → b.bootAt = a.bootAt) :
    ∀ t, s.zoneAction h nsid slba all states act = .next t → t.bootAt = s.bootAt := by
  intro t e
  unfold State.zoneAction at e
  obtain rfl | ⟨a, hb, ⟨c, rfl⟩ | ⟨st, c, rfl⟩ | rfl⟩ := ioRun_cases e
  · rfl
  · simp [state_begin_some _ _ _ hb]
  · simp [state_begin_some _ _ _ hb]
  · have hf := state_begin_some _ _ _ hb
    split
    · simp [hf]
    · split
      · simp [hf]
      · rename_i ha
        have := actOn_bootAt nsid act k _ _ _ ha
        simp [this, hf]

theorem actOn_free (nsid : Nat) (act : State → Nat → Nat → Zone → Except Status State)
    (k : ∀ a n z y b, act a n z y = .ok b → b.free = a.free) (zs : List Nat) :
    ∀ a b, State.actOn nsid act zs a = .ok b → b.free = a.free := by
  induction zs with
  | nil => intro a b e; cases e; rfl
  | cons z t ih =>
    intro a b e
    unfold State.actOn at e
    split at e
    · cases e
    · split at e
      · rename_i hx
        exact (ih _ _ e).trans (k _ _ _ _ _ hx)
      · cases e

theorem zoneAction_free (s : State) (h : Hdr) (nsid slba : Nat) (all : Bool) (states : List ZState)
    (act : State → Nat → Nat → Zone → Except Status State)
    (k : ∀ a n z y b, act a n z y = .ok b → b.free = a.free) :
    ∀ t, s.zoneAction h nsid slba all states act = .next t → t.free = s.free := by
  intro t e
  unfold State.zoneAction at e
  obtain rfl | ⟨a, hb, ⟨c, rfl⟩ | ⟨st, c, rfl⟩ | rfl⟩ := ioRun_cases e
  · rfl
  · simp [state_begin_some _ _ _ hb]
  · simp [state_begin_some _ _ _ hb]
  · have hf := state_begin_some _ _ _ hb
    split
    · simp [hf]
    · split
      · simp [hf]
      · rename_i ha
        have := actOn_free nsid act k _ _ _ ha
        simp [this, hf]

theorem actOn_out (nsid : Nat) (act : State → Nat → Nat → Zone → Except Status State)
    (k : ∀ a n z y b, act a n z y = .ok b → b.out = a.out) (zs : List Nat) :
    ∀ a b, State.actOn nsid act zs a = .ok b → b.out = a.out := by
  induction zs with
  | nil => intro a b e; cases e; rfl
  | cons z t ih =>
    intro a b e
    unfold State.actOn at e
    split at e
    · cases e
    · split at e
      · rename_i hx
        exact (ih _ _ e).trans (k _ _ _ _ _ hx)
      · cases e

theorem zoneAction_out (s : State) (h : Hdr) (nsid slba : Nat) (all : Bool) (states : List ZState)
    (act : State → Nat → Nat → Zone → Except Status State)
    (k : ∀ a n z y b, act a n z y = .ok b → b.out = a.out) :
    ∀ t, s.zoneAction h nsid slba all states act = .next t → t.out = s.out := by
  intro t e
  unfold State.zoneAction at e
  obtain rfl | ⟨a, hb, ⟨c, rfl⟩ | ⟨st, c, rfl⟩ | rfl⟩ := ioRun_cases e
  · rfl
  · simp [state_begin_some _ _ _ hb]
  · simp [state_begin_some _ _ _ hb]
  · have hf := state_begin_some _ _ _ hb
    split
    · simp [hf]
    · split
      · simp [hf]
      · rename_i ha
        have := actOn_out nsid act k _ _ _ ha
        simp [this, hf]

theorem actOn_mem_dram (nsid : Nat) (act : State → Nat → Nat → Zone → Except Status State)
    (k : ∀ a n z y b, act a n z y = .ok b → b.mem.dram = a.mem.dram) (zs : List Nat) :
    ∀ a b, State.actOn nsid act zs a = .ok b → b.mem.dram = a.mem.dram := by
  induction zs with
  | nil => intro a b e; cases e; rfl
  | cons z t ih =>
    intro a b e
    unfold State.actOn at e
    split at e
    · cases e
    · split at e
      · rename_i hx
        exact (ih _ _ e).trans (k _ _ _ _ _ hx)
      · cases e

theorem zoneAction_mem_dram (s : State) (h : Hdr) (nsid slba : Nat) (all : Bool) (states : List ZState)
    (act : State → Nat → Nat → Zone → Except Status State)
    (k : ∀ a n z y b, act a n z y = .ok b → b.mem.dram = a.mem.dram) :
    ∀ t, s.zoneAction h nsid slba all states act = .next t → t.mem.dram = s.mem.dram := by
  intro t e
  unfold State.zoneAction at e
  obtain rfl | ⟨a, hb, ⟨c, rfl⟩ | ⟨st, c, rfl⟩ | rfl⟩ := ioRun_cases e
  · rfl
  · simp [state_begin_some _ _ _ hb]
  · simp [state_begin_some _ _ _ hb]
  · have hf := state_begin_some _ _ _ hb
    split
    · simp [hf]
    · split
      · simp [hf]
      · rename_i ha
        have := actOn_mem_dram nsid act k _ _ _ ha
        simp [this, hf]

theorem actOn_engines_windows (nsid : Nat) (act : State → Nat → Nat → Zone → Except Status State)
    (k : ∀ a n z y b, act a n z y = .ok b → b.engines.windows = a.engines.windows) (zs : List Nat) :
    ∀ a b, State.actOn nsid act zs a = .ok b → b.engines.windows = a.engines.windows := by
  induction zs with
  | nil => intro a b e; cases e; rfl
  | cons z t ih =>
    intro a b e
    unfold State.actOn at e
    split at e
    · cases e
    · split at e
      · rename_i hx
        exact (ih _ _ e).trans (k _ _ _ _ _ hx)
      · cases e

theorem zoneAction_engines_windows (s : State) (h : Hdr) (nsid slba : Nat) (all : Bool) (states : List ZState)
    (act : State → Nat → Nat → Zone → Except Status State)
    (k : ∀ a n z y b, act a n z y = .ok b → b.engines.windows = a.engines.windows) :
    ∀ t, s.zoneAction h nsid slba all states act = .next t → t.engines.windows = s.engines.windows := by
  intro t e
  unfold State.zoneAction at e
  obtain rfl | ⟨a, hb, ⟨c, rfl⟩ | ⟨st, c, rfl⟩ | rfl⟩ := ioRun_cases e
  · rfl
  · simp [state_begin_some _ _ _ hb]
  · simp [state_begin_some _ _ _ hb]
  · have hf := state_begin_some _ _ _ hb
    split
    · simp [hf]
    · split
      · simp [hf]
      · rename_i ha
        have := actOn_engines_windows nsid act k _ _ _ ha
        simp [this, hf]

theorem execWorkItemPost_next (w : WorkItem) (s : State) :
    ∀ nx, execWorkItemPost w s = .next nx → nx.dict = s.dict ∧ nx.modes = s.modes ∧ nx.sampler = s.sampler ∧ nx.host = s.host ∧ nx.sched = s.sched ∧ nx.flash = s.flash ∧ nx.store = s.store ∧ nx.power = s.power ∧ nx.mem = s.mem ∧ nx.cipher = s.cipher ∧ nx.engines = s.engines ∧ nx.admin = s.admin ∧ nx.staing = s.staing ∧ nx.security = s.security ∧ nx.migration = s.migration ∧ nx.pending = s.pending ∧ nx.now = s.now ∧ nx.bootAt = s.bootAt ∧ nx.free = s.free ∧ nx.out = s.out := by
  intro nx h
  unfold execWorkItemPost at h
  cases h
  simp

theorem execWorkItemRepost_next (p : Producer) (tag : Nat) (s : State) :
    ∀ nx, execWorkItemRepost p tag s = .next nx → nx.dict = s.dict ∧ nx.modes = s.modes ∧ nx.sampler = s.sampler ∧ nx.host = s.host ∧ nx.sched = s.sched ∧ nx.flash = s.flash ∧ nx.store = s.store ∧ nx.power = s.power ∧ nx.mem = s.mem ∧ nx.cipher = s.cipher ∧ nx.engines = s.engines ∧ nx.admin = s.admin ∧ nx.staing = s.staing ∧ nx.security = s.security ∧ nx.migration = s.migration ∧ nx.pending = s.pending ∧ nx.now = s.now ∧ nx.bootAt = s.bootAt ∧ nx.free = s.free ∧ nx.out = s.out := by
  intro nx h
  unfold execWorkItemRepost at h
  dsimp only at h
  (repeat' split at h) <;> cases h <;> simp

theorem execCellWorkTake_next (c : Fin 96) (s : State) :
    ∀ nx, execCellWorkTake c s = .next nx → nx.dict = s.dict ∧ nx.modes = s.modes ∧ nx.sampler = s.sampler ∧ nx.host = s.host ∧ nx.sched = s.sched ∧ nx.flash = s.flash ∧ nx.store = s.store ∧ nx.power = s.power ∧ nx.mem = s.mem ∧ nx.cipher = s.cipher ∧ nx.engines = s.engines ∧ nx.admin = s.admin ∧ nx.staing = s.staing ∧ nx.security = s.security ∧ nx.migration = s.migration ∧ nx.pending = s.pending ∧ nx.now = s.now ∧ nx.bootAt = s.bootAt ∧ nx.free = s.free ∧ nx.out = s.out := by
  intro nx h
  unfold execCellWorkTake at h
  dsimp only at h
  (repeat' split at h) <;> cases h <;> simp

theorem execWorkItemResult_next (c : Fin 96) (p : Producer) (tag : Nat) (ok : Bool) (s : State) :
    ∀ nx, execWorkItemResult c p tag ok s = .next nx → nx.dict = s.dict ∧ nx.modes = s.modes ∧ nx.sampler = s.sampler ∧ nx.sched = s.sched ∧ nx.flash = s.flash ∧ nx.store = s.store ∧ nx.power = s.power ∧ nx.mem = s.mem ∧ nx.cipher = s.cipher ∧ nx.engines = s.engines ∧ nx.admin = s.admin ∧ nx.staing = s.staing ∧ nx.security = s.security ∧ nx.migration = s.migration ∧ nx.pending = s.pending ∧ nx.now = s.now ∧ nx.bootAt = s.bootAt ∧ nx.free = s.free ∧ nx.out = s.out := by
  intro nx h
  unfold execWorkItemResult at h
  dsimp only at h
  (repeat' split at h) <;> cases h <;> simp

theorem execSequencerWatchdogExpiry_next (c : Fin 96) (s : State) :
    ∀ nx, execSequencerWatchdogExpiry c s = .next nx → nx.modes = s.modes ∧ nx.sched = s.sched ∧ nx.flash = s.flash ∧ nx.store = s.store ∧ nx.power = s.power ∧ nx.mem = s.mem ∧ nx.admin = s.admin ∧ nx.staing = s.staing ∧ nx.security = s.security ∧ nx.migration = s.migration ∧ nx.pending = s.pending ∧ nx.now = s.now ∧ nx.bootAt = s.bootAt ∧ nx.free = s.free ∧ nx.out = s.out ∧ nx.engines.windows = s.engines.windows := by
  intro nx h
  unfold execSequencerWatchdogExpiry at h
  cases h
  simp

theorem execCellDrained_next (c : Fin 96) (s : State) :
    ∀ nx, execCellDrained c s = .next nx → nx.dict = s.dict ∧ nx.modes = s.modes ∧ nx.sampler = s.sampler ∧ nx.sched = s.sched ∧ nx.flash = s.flash ∧ nx.store = s.store ∧ nx.power = s.power ∧ nx.mem = s.mem ∧ nx.cipher = s.cipher ∧ nx.engines = s.engines ∧ nx.admin = s.admin ∧ nx.staing = s.staing ∧ nx.security = s.security ∧ nx.migration = s.migration ∧ nx.pending = s.pending ∧ nx.now = s.now ∧ nx.bootAt = s.bootAt ∧ nx.free = s.free ∧ nx.out = s.out := by
  intro nx h
  unfold execCellDrained at h
  dsimp only at h
  (repeat' split at h) <;> cases h <;> simp

theorem execFabricPacket_next (x : Fin 12) (y : Fin 10) (inPort : Fin 6) (p : Packet) (errs : List BeatErr) (s : State) :
    ∀ nx, execFabricPacket x y inPort p errs s = .next nx → nx.dict = s.dict ∧ nx.modes = s.modes ∧ nx.sampler = s.sampler ∧ nx.host = s.host ∧ nx.sched = s.sched ∧ nx.flash = s.flash ∧ nx.store = s.store ∧ nx.power = s.power ∧ nx.mem = s.mem ∧ nx.cipher = s.cipher ∧ nx.engines = s.engines ∧ nx.admin = s.admin ∧ nx.staing = s.staing ∧ nx.security = s.security ∧ nx.migration = s.migration ∧ nx.pending = s.pending ∧ nx.now = s.now ∧ nx.bootAt = s.bootAt ∧ nx.free = s.free ∧ nx.out = s.out := by
  intro nx h
  unfold execFabricPacket at h
  dsimp only at h
  (repeat' split at h) <;> cases h <;> simp

theorem execFabricAccept_next (tag : Nat) (s : State) :
    ∀ nx, execFabricAccept tag s = .next nx → nx.dict = s.dict ∧ nx.modes = s.modes ∧ nx.sampler = s.sampler ∧ nx.host = s.host ∧ nx.sched = s.sched ∧ nx.flash = s.flash ∧ nx.store = s.store ∧ nx.power = s.power ∧ nx.mem = s.mem ∧ nx.cipher = s.cipher ∧ nx.engines = s.engines ∧ nx.admin = s.admin ∧ nx.staing = s.staing ∧ nx.security = s.security ∧ nx.migration = s.migration ∧ nx.pending = s.pending ∧ nx.now = s.now ∧ nx.bootAt = s.bootAt ∧ nx.free = s.free ∧ nx.out = s.out := by
  intro nx h
  unfold execFabricAccept at h
  cases h
  simp

theorem execBufferAllocate_next (pool : Fin 16) (h : Holder) (agent : Option LockId) (linkOk : Bool) (s : State) :
    ∀ nx, execBufferAllocate pool h agent linkOk s = .next nx → nx.modes = s.modes ∧ nx.cells = s.cells ∧ nx.host = s.host ∧ nx.sched = s.sched ∧ nx.flash = s.flash ∧ nx.store = s.store ∧ nx.power = s.power ∧ nx.mem = s.mem ∧ nx.cipher = s.cipher ∧ nx.admin = s.admin ∧ nx.staing = s.staing ∧ nx.security = s.security ∧ nx.migration = s.migration ∧ nx.pending = s.pending ∧ nx.now = s.now ∧ nx.bootAt = s.bootAt ∧ nx.free = s.free ∧ nx.out = s.out ∧ nx.engines.windows = s.engines.windows := by
  intro nx h
  unfold execBufferAllocate at h
  (repeat' split at h) <;> cases h <;> simp

theorem execReferenceIncrement_next (pool : Fin 16) (buf : Nat) (f : Func) (s : State) :
    ∀ nx, execReferenceIncrement pool buf f s = .next nx → nx.modes = s.modes ∧ nx.cells = s.cells ∧ nx.host = s.host ∧ nx.sched = s.sched ∧ nx.flash = s.flash ∧ nx.store = s.store ∧ nx.power = s.power ∧ nx.mem = s.mem ∧ nx.cipher = s.cipher ∧ nx.admin = s.admin ∧ nx.staing = s.staing ∧ nx.security = s.security ∧ nx.migration = s.migration ∧ nx.pending = s.pending ∧ nx.now = s.now ∧ nx.bootAt = s.bootAt ∧ nx.free = s.free ∧ nx.out = s.out ∧ nx.engines.windows = s.engines.windows := by
  intro nx h
  unfold execReferenceIncrement at h
  dsimp only at h
  (repeat' split at h) <;> injection h with h <;> subst h <;> simp

theorem execReferenceDecrement_next (pool : Fin 16) (buf : Nat) (f : Option Func) (fence : Bool) (s : State) :
    ∀ nx, execReferenceDecrement pool buf f fence s = .next nx → nx.modes = s.modes ∧ nx.cells = s.cells ∧ nx.host = s.host ∧ nx.sched = s.sched ∧ nx.flash = s.flash ∧ nx.store = s.store ∧ nx.power = s.power ∧ nx.mem = s.mem ∧ nx.cipher = s.cipher ∧ nx.admin = s.admin ∧ nx.staing = s.staing ∧ nx.security = s.security ∧ nx.migration = s.migration ∧ nx.pending = s.pending ∧ nx.now = s.now ∧ nx.bootAt = s.bootAt ∧ nx.free = s.free ∧ nx.out = s.out ∧ nx.engines.windows = s.engines.windows := by
  intro nx h
  unfold execReferenceDecrement at h
  (repeat' split at h) <;> cases h <;> simp

theorem execBufferWaitServed_next (pool : Fin 16) (s : State) :
    ∀ nx, execBufferWaitServed pool s = .next nx → nx.modes = s.modes ∧ nx.cells = s.cells ∧ nx.host = s.host ∧ nx.sched = s.sched ∧ nx.flash = s.flash ∧ nx.store = s.store ∧ nx.power = s.power ∧ nx.mem = s.mem ∧ nx.cipher = s.cipher ∧ nx.admin = s.admin ∧ nx.staing = s.staing ∧ nx.security = s.security ∧ nx.migration = s.migration ∧ nx.pending = s.pending ∧ nx.now = s.now ∧ nx.bootAt = s.bootAt ∧ nx.free = s.free ∧ nx.out = s.out ∧ nx.engines.windows = s.engines.windows := by
  intro nx h
  unfold execBufferWaitServed at h
  dsimp only at h
  (repeat' split at h) <;> cases h <;> simp

theorem execFunctionLevelResetVf_next (n : Fin 1024) (s : State) :
    ∀ nx, execFunctionLevelResetVf n s = .next nx → nx.cells = s.cells ∧ nx.sched = s.sched ∧ nx.flash = s.flash ∧ nx.power = s.power ∧ nx.mem = s.mem ∧ nx.cipher = s.cipher ∧ nx.staing = s.staing ∧ nx.security = s.security ∧ nx.pending = s.pending ∧ nx.now = s.now ∧ nx.bootAt = s.bootAt ∧ nx.free = s.free ∧ nx.out = s.out := by
  intro nx h
  unfold execFunctionLevelResetVf at h
  cases h
  simp

theorem execFunctionLevelResetPf_next (p : Port) (s : State) :
    ∀ nx, execFunctionLevelResetPf p s = .next nx → nx.cells = s.cells ∧ nx.sched = s.sched ∧ nx.flash = s.flash ∧ nx.power = s.power ∧ nx.mem = s.mem ∧ nx.cipher = s.cipher ∧ nx.staing = s.staing ∧ nx.security = s.security ∧ nx.pending = s.pending ∧ nx.now = s.now ∧ nx.bootAt = s.bootAt ∧ nx.free = s.free ∧ nx.out = s.out := by
  intro nx h
  unfold execFunctionLevelResetPf at h
  (repeat' split at h) <;> cases h <;> simp

theorem execPerstAssert_next (p : Port) (s : State) :
    ∀ nx, execPerstAssert p s = .next nx → nx.cells = s.cells ∧ nx.sched = s.sched ∧ nx.flash = s.flash ∧ nx.power = s.power ∧ nx.mem = s.mem ∧ nx.cipher = s.cipher ∧ nx.staing = s.staing ∧ nx.pending = s.pending ∧ nx.now = s.now ∧ nx.bootAt = s.bootAt ∧ nx.free = s.free ∧ nx.out = s.out := by
  intro nx h
  unfold execPerstAssert at h
  (repeat' split at h) <;> cases h <;> simp

theorem execHotReset_next (p : Port) (s : State) :
    ∀ nx, execHotReset p s = .next nx → nx.cells = s.cells ∧ nx.sched = s.sched ∧ nx.flash = s.flash ∧ nx.power = s.power ∧ nx.mem = s.mem ∧ nx.cipher = s.cipher ∧ nx.staing = s.staing ∧ nx.pending = s.pending ∧ nx.now = s.now ∧ nx.bootAt = s.bootAt ∧ nx.free = s.free ∧ nx.out = s.out := by
  intro nx h
  unfold execHotReset at h
  (repeat' split at h) <;> cases h <;> simp

theorem execLinkDown_next (p : Port) (t : Nat) (s : State) :
    ∀ nx, execLinkDown p t s = .next nx → nx.cells = s.cells ∧ nx.sched = s.sched ∧ nx.flash = s.flash ∧ nx.power = s.power ∧ nx.mem = s.mem ∧ nx.cipher = s.cipher ∧ nx.staing = s.staing ∧ nx.security = s.security ∧ nx.pending = s.pending ∧ nx.bootAt = s.bootAt ∧ nx.free = s.free ∧ nx.out = s.out := by
  intro nx h
  unfold execLinkDown at h
  (repeat' split at h) <;> cases h <;> simp

theorem execLinkTrained_next (p : Port) (rate : Nat) (width : Nat) (flit : Bool) (laneRev : Bool) (polInv : Bool) (s : State) :
    ∀ nx, execLinkTrained p rate width flit laneRev polInv s = .next nx → nx.modes = s.modes ∧ nx.cells = s.cells ∧ nx.sched = s.sched ∧ nx.flash = s.flash ∧ nx.store = s.store ∧ nx.power = s.power ∧ nx.mem = s.mem ∧ nx.cipher = s.cipher ∧ nx.engines = s.engines ∧ nx.admin = s.admin ∧ nx.staing = s.staing ∧ nx.security = s.security ∧ nx.migration = s.migration ∧ nx.pending = s.pending ∧ nx.now = s.now ∧ nx.bootAt = s.bootAt ∧ nx.free = s.free ∧ nx.out = s.out := by
  intro nx h
  unfold execLinkTrained at h
  dsimp only at h
  (repeat' split at h) <;> cases h <;> simp

theorem execNvmSubsystemReset_next (s : State) :
    ∀ nx, execNvmSubsystemReset s = .next nx → nx.cells = s.cells ∧ nx.sched = s.sched ∧ nx.flash = s.flash ∧ nx.power = s.power ∧ nx.mem = s.mem ∧ nx.cipher = s.cipher ∧ nx.staing = s.staing ∧ nx.pending = s.pending ∧ nx.now = s.now ∧ nx.bootAt = s.bootAt ∧ nx.free = s.free ∧ nx.out = s.out := by
  intro nx h
  unfold execNvmSubsystemReset at h
  grind [state_activateAtReset_frame, state_subsystemReset_frame]

theorem execFenceComplete_next (f : Func) (s : State) :
    ∀ nx, execFenceComplete f s = .next nx → nx.cells = s.cells ∧ nx.sched = s.sched ∧ nx.flash = s.flash ∧ nx.power = s.power ∧ nx.mem = s.mem ∧ nx.cipher = s.cipher ∧ nx.staing = s.staing ∧ nx.security = s.security ∧ nx.pending = s.pending ∧ nx.now = s.now ∧ nx.bootAt = s.bootAt ∧ nx.free = s.free ∧ nx.out = s.out := by
  intro nx h
  unfold execFenceComplete at h
  dsimp only at h
  (repeat' split at h) <;> cases h <;> simp

theorem execVfEnableSet_next (p : Port) (s : State) :
    ∀ nx, execVfEnableSet p s = .next nx → nx.modes = s.modes ∧ nx.sampler = s.sampler ∧ nx.cells = s.cells ∧ nx.sched = s.sched ∧ nx.flash = s.flash ∧ nx.store = s.store ∧ nx.power = s.power ∧ nx.mem = s.mem ∧ nx.cipher = s.cipher ∧ nx.engines = s.engines ∧ nx.admin = s.admin ∧ nx.staing = s.staing ∧ nx.security = s.security ∧ nx.migration = s.migration ∧ nx.pending = s.pending ∧ nx.now = s.now ∧ nx.bootAt = s.bootAt ∧ nx.free = s.free ∧ nx.out = s.out := by
  intro nx h
  unfold execVfEnableSet at h
  (repeat' split at h) <;> cases h <;> simp

theorem execVfEnableClear_next (p : Port) (s : State) :
    ∀ nx, execVfEnableClear p s = .next nx → nx.cells = s.cells ∧ nx.sched = s.sched ∧ nx.flash = s.flash ∧ nx.power = s.power ∧ nx.mem = s.mem ∧ nx.cipher = s.cipher ∧ nx.staing = s.staing ∧ nx.security = s.security ∧ nx.pending = s.pending ∧ nx.now = s.now ∧ nx.bootAt = s.bootAt ∧ nx.free = s.free ∧ nx.out = s.out := by
  intro nx h
  unfold execVfEnableClear at h
  (repeat' split at h) <;> cases h <;> simp

theorem execNumVfsWrite_next (p : Port) (n : Nat) (s : State) :
    ∀ nx, execNumVfsWrite p n s = .next nx → nx.dict = s.dict ∧ nx.modes = s.modes ∧ nx.sampler = s.sampler ∧ nx.cells = s.cells ∧ nx.sched = s.sched ∧ nx.flash = s.flash ∧ nx.store = s.store ∧ nx.power = s.power ∧ nx.mem = s.mem ∧ nx.cipher = s.cipher ∧ nx.engines = s.engines ∧ nx.admin = s.admin ∧ nx.staing = s.staing ∧ nx.security = s.security ∧ nx.migration = s.migration ∧ nx.pending = s.pending ∧ nx.now = s.now ∧ nx.bootAt = s.bootAt ∧ nx.free = s.free ∧ nx.out = s.out := by
  intro nx h
  unfold execNumVfsWrite at h
  (repeat' split at h) <;> cases h <;> simp

theorem execCcEnSet_next (f : Func) (wrr : Bool) (mps : Nat) (asqs : Nat) (acqs : Nat) (asq : Nat) (acq : Nat) (s : State) :
    ∀ nx, execCcEnSet f wrr mps asqs acqs asq acq s = .next nx → nx.dict = s.dict ∧ nx.modes = s.modes ∧ nx.sampler = s.sampler ∧ nx.cells = s.cells ∧ nx.sched = s.sched ∧ nx.flash = s.flash ∧ nx.store = s.store ∧ nx.mem = s.mem ∧ nx.cipher = s.cipher ∧ nx.engines = s.engines ∧ nx.admin = s.admin ∧ nx.staing = s.staing ∧ nx.security = s.security ∧ nx.migration = s.migration ∧ nx.pending = s.pending ∧ nx.now = s.now ∧ nx.bootAt = s.bootAt ∧ nx.free = s.free ∧ nx.out = s.out := by
  intro nx h
  unfold execCcEnSet at h
  dsimp only at h
  (repeat' split at h) <;> cases h <;> simp

theorem execCcEnClearInstance_next (n : Fin 1024) (s : State) :
    ∀ nx, execCcEnClearInstance n s = .next nx → nx.cells = s.cells ∧ nx.sched = s.sched ∧ nx.flash = s.flash ∧ nx.power = s.power ∧ nx.mem = s.mem ∧ nx.cipher = s.cipher ∧ nx.staing = s.staing ∧ nx.security = s.security ∧ nx.pending = s.pending ∧ nx.now = s.now ∧ nx.bootAt = s.bootAt ∧ nx.free = s.free ∧ nx.out = s.out := by
  intro nx h
  unfold execCcEnClearInstance at h
  (repeat' split at h) <;> cases h <;> simp

theorem execCcEnClearManager_next (p : Port) (s : State) :
    ∀ nx, execCcEnClearManager p s = .next nx → nx.cells = s.cells ∧ nx.sched = s.sched ∧ nx.flash = s.flash ∧ nx.power = s.power ∧ nx.mem = s.mem ∧ nx.cipher = s.cipher ∧ nx.staing = s.staing ∧ nx.security = s.security ∧ nx.pending = s.pending ∧ nx.now = s.now ∧ nx.bootAt = s.bootAt ∧ nx.free = s.free ∧ nx.out = s.out := by
  intro nx h
  unfold execCcEnClearManager at h
  (repeat' split at h) <;> cases h <;> simp

theorem execSecondaryOnline_next (h : Hdr) (cntlid : Nat) (rt : Nat) (nr : Nat) (s : State) :
    ∀ nx, execSecondaryOnline h cntlid rt nr s = .next nx → nx.dict = s.dict ∧ nx.modes = s.modes ∧ nx.sampler = s.sampler ∧ nx.cells = s.cells ∧ nx.sched = s.sched ∧ nx.flash = s.flash ∧ nx.store = s.store ∧ nx.power = s.power ∧ nx.mem = s.mem ∧ nx.cipher = s.cipher ∧ nx.engines = s.engines ∧ nx.admin = s.admin ∧ nx.staing = s.staing ∧ nx.security = s.security ∧ nx.migration = s.migration ∧ nx.pending = s.pending ∧ nx.now = s.now ∧ nx.bootAt = s.bootAt ∧ nx.free = s.free ∧ nx.out = s.out := by
  intro nx h
  unfold execSecondaryOnline at h
  try unfold State.setFeature at h
  try unfold State.sanRun at h
  try unfold State.keyRun at h
  try unfold State.secRun at h
  try unfold State.managerRun at h
  try unfold State.sanStart at h
  try unfold State.fwStart at h
  try unfold State.keyStart at h
  try unfold State.runData at h
  try unfold State.startAdmin at h
  cases h
  refine run_ind (P := fun nx => nx.dict = s.dict ∧ nx.modes = s.modes ∧ nx.sampler = s.sampler ∧ nx.cells = s.cells ∧ nx.sched = s.sched ∧ nx.flash = s.flash ∧ nx.store = s.store ∧ nx.power = s.power ∧ nx.mem = s.mem ∧ nx.cipher = s.cipher ∧ nx.engines = s.engines ∧ nx.admin = s.admin ∧ nx.staing = s.staing ∧ nx.security = s.security ∧ nx.migration = s.migration ∧ nx.pending = s.pending ∧ nx.now = s.now ∧ nx.bootAt = s.bootAt ∧ nx.free = s.free ∧ nx.out = s.out) ?_ ?_ ?_
  · simp
  · intro a c hb
    simp [state_begin_some _ _ _ hb]
  · intro a hb
    have hf := state_begin_some _ _ _ hb
    dsimp only
    (repeat' split) <;> simp [hf, refuse]

theorem execSecondaryOffline_next (h : Hdr) (cntlid : Nat) (rt : Nat) (nr : Nat) (s : State) :
    ∀ nx, execSecondaryOffline h cntlid rt nr s = .next nx → nx.cells = s.cells ∧ nx.sched = s.sched ∧ nx.flash = s.flash ∧ nx.power = s.power ∧ nx.mem = s.mem ∧ nx.cipher = s.cipher ∧ nx.staing = s.staing ∧ nx.security = s.security ∧ nx.pending = s.pending ∧ nx.now = s.now ∧ nx.bootAt = s.bootAt ∧ nx.free = s.free ∧ nx.out = s.out := by
  intro nx h
  unfold execSecondaryOffline at h
  try unfold State.setFeature at h
  try unfold State.sanRun at h
  try unfold State.keyRun at h
  try unfold State.secRun at h
  try unfold State.managerRun at h
  try unfold State.sanStart at h
  try unfold State.fwStart at h
  try unfold State.keyStart at h
  try unfold State.runData at h
  try unfold State.startAdmin at h
  cases h
  refine startWith_ind (P := fun nx => nx.cells = s.cells ∧ nx.sched = s.sched ∧ nx.flash = s.flash ∧ nx.power = s.power ∧ nx.mem = s.mem ∧ nx.cipher = s.cipher ∧ nx.staing = s.staing ∧ nx.security = s.security ∧ nx.pending = s.pending ∧ nx.now = s.now ∧ nx.bootAt = s.bootAt ∧ nx.free = s.free ∧ nx.out = s.out) ?_ ?_ ?_
  · simp
  · intro a c hb
    simp [state_begin_some _ _ _ hb]
  · intro a hb
    have hf := state_begin_some _ _ _ hb
    dsimp only
    (repeat' split) <;> simp [hf, refuse]

theorem execSecondaryAssign_next (h : Hdr) (cntlid : Nat) (rt : Nat) (nr : Nat) (s : State) :
    ∀ nx, execSecondaryAssign h cntlid rt nr s = .next nx → nx.modes = s.modes ∧ nx.sampler = s.sampler ∧ nx.cells = s.cells ∧ nx.sched = s.sched ∧ nx.flash = s.flash ∧ nx.store = s.store ∧ nx.power = s.power ∧ nx.mem = s.mem ∧ nx.cipher = s.cipher ∧ nx.engines = s.engines ∧ nx.admin = s.admin ∧ nx.staing = s.staing ∧ nx.security = s.security ∧ nx.migration = s.migration ∧ nx.pending = s.pending ∧ nx.now = s.now ∧ nx.bootAt = s.bootAt ∧ nx.free = s.free ∧ nx.out = s.out := by
  intro nx h
  unfold execSecondaryAssign at h
  try unfold State.setFeature at h
  try unfold State.sanRun at h
  try unfold State.keyRun at h
  try unfold State.secRun at h
  try unfold State.managerRun at h
  try unfold State.sanStart at h
  try unfold State.fwStart at h
  try unfold State.keyStart at h
  try unfold State.runData at h
  try unfold State.startAdmin at h
  cases h
  refine run_ind (P := fun nx => nx.modes = s.modes ∧ nx.sampler = s.sampler ∧ nx.cells = s.cells ∧ nx.sched = s.sched ∧ nx.flash = s.flash ∧ nx.store = s.store ∧ nx.power = s.power ∧ nx.mem = s.mem ∧ nx.cipher = s.cipher ∧ nx.engines = s.engines ∧ nx.admin = s.admin ∧ nx.staing = s.staing ∧ nx.security = s.security ∧ nx.migration = s.migration ∧ nx.pending = s.pending ∧ nx.now = s.now ∧ nx.bootAt = s.bootAt ∧ nx.free = s.free ∧ nx.out = s.out) ?_ ?_ ?_
  · simp
  · intro a c hb
    simp [state_begin_some _ _ _ hb]
  · intro a hb
    have hf := state_begin_some _ _ _ hb
    dsimp only
    (repeat' split) <;> simp [hf, refuse]

theorem execPrimaryFlexibleAllocation_next (h : Hdr) (_rt : Nat) (nr : Nat) (s : State) :
    ∀ nx, execPrimaryFlexibleAllocation h _rt nr s = .next nx → nx.dict = s.dict ∧ nx.modes = s.modes ∧ nx.sampler = s.sampler ∧ nx.cells = s.cells ∧ nx.sched = s.sched ∧ nx.flash = s.flash ∧ nx.store = s.store ∧ nx.power = s.power ∧ nx.mem = s.mem ∧ nx.cipher = s.cipher ∧ nx.engines = s.engines ∧ nx.admin = s.admin ∧ nx.staing = s.staing ∧ nx.security = s.security ∧ nx.migration = s.migration ∧ nx.pending = s.pending ∧ nx.now = s.now ∧ nx.bootAt = s.bootAt ∧ nx.free = s.free ∧ nx.out = s.out := by
  intro nx h
  unfold execPrimaryFlexibleAllocation at h
  try unfold State.setFeature at h
  try unfold State.sanRun at h
  try unfold State.keyRun at h
  try unfold State.secRun at h
  try unfold State.managerRun at h
  try unfold State.sanStart at h
  try unfold State.fwStart at h
  try unfold State.keyStart at h
  try unfold State.runData at h
  try unfold State.startAdmin at h
  cases h
  refine run_ind (P := fun nx => nx.dict = s.dict ∧ nx.modes = s.modes ∧ nx.sampler = s.sampler ∧ nx.cells = s.cells ∧ nx.sched = s.sched ∧ nx.flash = s.flash ∧ nx.store = s.store ∧ nx.power = s.power ∧ nx.mem = s.mem ∧ nx.cipher = s.cipher ∧ nx.engines = s.engines ∧ nx.admin = s.admin ∧ nx.staing = s.staing ∧ nx.security = s.security ∧ nx.migration = s.migration ∧ nx.pending = s.pending ∧ nx.now = s.now ∧ nx.bootAt = s.bootAt ∧ nx.free = s.free ∧ nx.out = s.out) ?_ ?_ ?_
  · simp
  · intro a c hb
    simp [state_begin_some _ _ _ hb]
  · intro a hb
    have hf := state_begin_some _ _ _ hb
    dsimp only
    (repeat' split) <;> simp [hf, refuse]

theorem execMaxRateWrite_next (acc : Accessor) (rate : Nat) (s : State) :
    ∀ nx, execMaxRateWrite acc rate s = .next nx → nx.modes = s.modes ∧ nx.cells = s.cells ∧ nx.sched = s.sched ∧ nx.flash = s.flash ∧ nx.store = s.store ∧ nx.power = s.power ∧ nx.mem = s.mem ∧ nx.cipher = s.cipher ∧ nx.engines = s.engines ∧ nx.admin = s.admin ∧ nx.staing = s.staing ∧ nx.security = s.security ∧ nx.migration = s.migration ∧ nx.pending = s.pending ∧ nx.now = s.now ∧ nx.bootAt = s.bootAt ∧ nx.free = s.free ∧ nx.out = s.out := by
  intro nx h
  unfold execMaxRateWrite at h
  (repeat' split at h) <;> cases h <;> simp

theorem execCreateIoCompletionQueue_next (h : Hdr) (q : QueueArgs) (s : State) :
    ∀ nx, execCreateIoCompletionQueue h q s = .next nx → nx.dict = s.dict ∧ nx.modes = s.modes ∧ nx.sampler = s.sampler ∧ nx.cells = s.cells ∧ nx.sched = s.sched ∧ nx.flash = s.flash ∧ nx.store = s.store ∧ nx.power = s.power ∧ nx.mem = s.mem ∧ nx.cipher = s.cipher ∧ nx.engines = s.engines ∧ nx.admin = s.admin ∧ nx.staing = s.staing ∧ nx.security = s.security ∧ nx.migration = s.migration ∧ nx.pending = s.pending ∧ nx.now = s.now ∧ nx.bootAt = s.bootAt ∧ nx.free = s.free ∧ nx.out = s.out := by
  intro nx h
  unfold execCreateIoCompletionQueue at h
  try unfold State.setFeature at h
  try unfold State.sanRun at h
  try unfold State.keyRun at h
  try unfold State.secRun at h
  try unfold State.managerRun at h
  try unfold State.sanStart at h
  try unfold State.fwStart at h
  try unfold State.keyStart at h
  try unfold State.runData at h
  try unfold State.startAdmin at h
  cases h
  refine run_ind (P := fun nx => nx.dict = s.dict ∧ nx.modes = s.modes ∧ nx.sampler = s.sampler ∧ nx.cells = s.cells ∧ nx.sched = s.sched ∧ nx.flash = s.flash ∧ nx.store = s.store ∧ nx.power = s.power ∧ nx.mem = s.mem ∧ nx.cipher = s.cipher ∧ nx.engines = s.engines ∧ nx.admin = s.admin ∧ nx.staing = s.staing ∧ nx.security = s.security ∧ nx.migration = s.migration ∧ nx.pending = s.pending ∧ nx.now = s.now ∧ nx.bootAt = s.bootAt ∧ nx.free = s.free ∧ nx.out = s.out) ?_ ?_ ?_
  · simp
  · intro a c hb
    simp [state_begin_some _ _ _ hb]
  · intro a hb
    have hf := state_begin_some _ _ _ hb
    dsimp only
    (repeat' split) <;> simp [hf, refuse]

theorem execCreateIoSubmissionQueue_next (h : Hdr) (q : QueueArgs) (s : State) :
    ∀ nx, execCreateIoSubmissionQueue h q s = .next nx → nx.dict = s.dict ∧ nx.modes = s.modes ∧ nx.sampler = s.sampler ∧ nx.cells = s.cells ∧ nx.sched = s.sched ∧ nx.flash = s.flash ∧ nx.store = s.store ∧ nx.power = s.power ∧ nx.mem = s.mem ∧ nx.cipher = s.cipher ∧ nx.engines = s.engines ∧ nx.admin = s.admin ∧ nx.staing = s.staing ∧ nx.security = s.security ∧ nx.migration = s.migration ∧ nx.pending = s.pending ∧ nx.now = s.now ∧ nx.bootAt = s.bootAt ∧ nx.free = s.free ∧ nx.out = s.out := by
  intro nx h
  unfold execCreateIoSubmissionQueue at h
  try unfold State.setFeature at h
  try unfold State.sanRun at h
  try unfold State.keyRun at h
  try unfold State.secRun at h
  try unfold State.managerRun at h
  try unfold State.sanStart at h
  try unfold State.fwStart at h
  try unfold State.keyStart at h
  try unfold State.runData at h
  try unfold State.startAdmin at h
  cases h
  refine run_ind (P := fun nx => nx.dict = s.dict ∧ nx.modes = s.modes ∧ nx.sampler = s.sampler ∧ nx.cells = s.cells ∧ nx.sched = s.sched ∧ nx.flash = s.flash ∧ nx.store = s.store ∧ nx.power = s.power ∧ nx.mem = s.mem ∧ nx.cipher = s.cipher ∧ nx.engines = s.engines ∧ nx.admin = s.admin ∧ nx.staing = s.staing ∧ nx.security = s.security ∧ nx.migration = s.migration ∧ nx.pending = s.pending ∧ nx.now = s.now ∧ nx.bootAt = s.bootAt ∧ nx.free = s.free ∧ nx.out = s.out) ?_ ?_ ?_
  · simp
  · intro a c hb
    simp [state_begin_some _ _ _ hb]
  · intro a hb
    have hf := state_begin_some _ _ _ hb
    dsimp only
    (repeat' split) <;> simp [hf, refuse]

theorem execDeleteIoCompletionQueue_next (h : Hdr) (qid : Nat) (s : State) :
    ∀ nx, execDeleteIoCompletionQueue h qid s = .next nx → nx.dict = s.dict ∧ nx.modes = s.modes ∧ nx.sampler = s.sampler ∧ nx.cells = s.cells ∧ nx.sched = s.sched ∧ nx.flash = s.flash ∧ nx.store = s.store ∧ nx.power = s.power ∧ nx.mem = s.mem ∧ nx.cipher = s.cipher ∧ nx.engines = s.engines ∧ nx.admin = s.admin ∧ nx.staing = s.staing ∧ nx.security = s.security ∧ nx.migration = s.migration ∧ nx.pending = s.pending ∧ nx.now = s.now ∧ nx.bootAt = s.bootAt ∧ nx.free = s.free ∧ nx.out = s.out := by
  intro nx h
  unfold execDeleteIoCompletionQueue at h
  try unfold State.setFeature at h
  try unfold State.sanRun at h
  try unfold State.keyRun at h
  try unfold State.secRun at h
  try unfold State.managerRun at h
  try unfold State.sanStart at h
  try unfold State.fwStart at h
  try unfold State.keyStart at h
  try unfold State.runData at h
  try unfold State.startAdmin at h
  cases h
  refine run_ind (P := fun nx => nx.dict = s.dict ∧ nx.modes = s.modes ∧ nx.sampler = s.sampler ∧ nx.cells = s.cells ∧ nx.sched = s.sched ∧ nx.flash = s.flash ∧ nx.store = s.store ∧ nx.power = s.power ∧ nx.mem = s.mem ∧ nx.cipher = s.cipher ∧ nx.engines = s.engines ∧ nx.admin = s.admin ∧ nx.staing = s.staing ∧ nx.security = s.security ∧ nx.migration = s.migration ∧ nx.pending = s.pending ∧ nx.now = s.now ∧ nx.bootAt = s.bootAt ∧ nx.free = s.free ∧ nx.out = s.out) ?_ ?_ ?_
  · simp
  · intro a c hb
    simp [state_begin_some _ _ _ hb]
  · intro a hb
    have hf := state_begin_some _ _ _ hb
    dsimp only
    (repeat' split) <;> simp [hf, refuse]

theorem execDeleteIoSubmissionQueue_next (h : Hdr) (qid : Nat) (s : State) :
    ∀ nx, execDeleteIoSubmissionQueue h qid s = .next nx → nx.dict = s.dict ∧ nx.modes = s.modes ∧ nx.sampler = s.sampler ∧ nx.cells = s.cells ∧ nx.sched = s.sched ∧ nx.flash = s.flash ∧ nx.store = s.store ∧ nx.power = s.power ∧ nx.mem = s.mem ∧ nx.cipher = s.cipher ∧ nx.engines = s.engines ∧ nx.admin = s.admin ∧ nx.staing = s.staing ∧ nx.security = s.security ∧ nx.migration = s.migration ∧ nx.pending = s.pending ∧ nx.now = s.now ∧ nx.bootAt = s.bootAt ∧ nx.free = s.free ∧ nx.out = s.out := by
  intro nx h
  unfold execDeleteIoSubmissionQueue at h
  try unfold State.setFeature at h
  try unfold State.sanRun at h
  try unfold State.keyRun at h
  try unfold State.secRun at h
  try unfold State.managerRun at h
  try unfold State.sanStart at h
  try unfold State.fwStart at h
  try unfold State.keyStart at h
  try unfold State.runData at h
  try unfold State.startAdmin at h
  cases h
  refine startWith_ind (P := fun nx => nx.dict = s.dict ∧ nx.modes = s.modes ∧ nx.sampler = s.sampler ∧ nx.cells = s.cells ∧ nx.sched = s.sched ∧ nx.flash = s.flash ∧ nx.store = s.store ∧ nx.power = s.power ∧ nx.mem = s.mem ∧ nx.cipher = s.cipher ∧ nx.engines = s.engines ∧ nx.admin = s.admin ∧ nx.staing = s.staing ∧ nx.security = s.security ∧ nx.migration = s.migration ∧ nx.pending = s.pending ∧ nx.now = s.now ∧ nx.bootAt = s.bootAt ∧ nx.free = s.free ∧ nx.out = s.out) ?_ ?_ ?_
  · simp
  · intro a c hb
    simp [state_begin_some _ _ _ hb]
  · intro a hb
    have hf := state_begin_some _ _ _ hb
    dsimp only
    (repeat' split) <;> simp [hf, refuse]

theorem execSqTailDoorbell_next (f : Func) (qid : Nat) (value : Nat) (s : State) :
    ∀ nx, execSqTailDoorbell f qid value s = .next nx → nx.dict = s.dict ∧ nx.modes = s.modes ∧ nx.sampler = s.sampler ∧ nx.cells = s.cells ∧ nx.sched = s.sched ∧ nx.flash = s.flash ∧ nx.store = s.store ∧ nx.power = s.power ∧ nx.mem = s.mem ∧ nx.cipher = s.cipher ∧ nx.engines = s.engines ∧ nx.admin = s.admin ∧ nx.staing = s.staing ∧ nx.security = s.security ∧ nx.migration = s.migration ∧ nx.pending = s.pending ∧ nx.now = s.now ∧ nx.bootAt = s.bootAt ∧ nx.free = s.free ∧ nx.out = s.out := by
  intro nx h
  unfold execSqTailDoorbell at h
  dsimp only at h
  (repeat' split at h) <;> cases h <;> simp

theorem execCqHeadDoorbell_next (f : Func) (qid : Nat) (value : Nat) (s : State) :
    ∀ nx, execCqHeadDoorbell f qid value s = .next nx → nx.dict = s.dict ∧ nx.modes = s.modes ∧ nx.sampler = s.sampler ∧ nx.cells = s.cells ∧ nx.sched = s.sched ∧ nx.flash = s.flash ∧ nx.store = s.store ∧ nx.power = s.power ∧ nx.mem = s.mem ∧ nx.cipher = s.cipher ∧ nx.engines = s.engines ∧ nx.admin = s.admin ∧ nx.staing = s.staing ∧ nx.security = s.security ∧ nx.migration = s.migration ∧ nx.pending = s.pending ∧ nx.now = s.now ∧ nx.bootAt = s.bootAt ∧ nx.free = s.free ∧ nx.out = s.out := by
  intro nx h
  unfold execCqHeadDoorbell at h
  dsimp only at h
  (repeat' split at h) <;> cases h <;> simp

theorem execSummaryLineWrite_next (f : Func) (s : State) :
    ∀ nx, execSummaryLineWrite f s = .next nx → nx.dict = s.dict ∧ nx.modes = s.modes ∧ nx.sampler = s.sampler ∧ nx.cells = s.cells ∧ nx.sched = s.sched ∧ nx.flash = s.flash ∧ nx.store = s.store ∧ nx.power = s.power ∧ nx.mem = s.mem ∧ nx.cipher = s.cipher ∧ nx.engines = s.engines ∧ nx.staing = s.staing ∧ nx.security = s.security ∧ nx.migration = s.migration ∧ nx.pending = s.pending ∧ nx.now = s.now ∧ nx.bootAt = s.bootAt ∧ nx.free = s.free := by
  intro nx h
  unfold execSummaryLineWrite at h
  (repeat' split at h) <;> cases h <;> simp

theorem execInstanceSummaryWrite_next (p : Port) (upper : Bool) (s : State) :
    ∀ nx, execInstanceSummaryWrite p upper s = .next nx → nx.dict = s.dict ∧ nx.modes = s.modes ∧ nx.sampler = s.sampler ∧ nx.cells = s.cells ∧ nx.sched = s.sched ∧ nx.flash = s.flash ∧ nx.store = s.store ∧ nx.power = s.power ∧ nx.mem = s.mem ∧ nx.cipher = s.cipher ∧ nx.engines = s.engines ∧ nx.admin = s.admin ∧ nx.staing = s.staing ∧ nx.security = s.security ∧ nx.migration = s.migration ∧ nx.pending = s.pending ∧ nx.now = s.now ∧ nx.bootAt = s.bootAt ∧ nx.free = s.free := by
  intro nx h
  unfold execInstanceSummaryWrite at h
  dsimp only at h
  (repeat' split at h) <;> cases h <;> simp

theorem execRead_next (h : Hdr) (a : ReadArgs) (s : State) :
    ∀ nx, execRead h a s = .next nx → nx.modes = s.modes ∧ nx.cells = s.cells ∧ nx.power = s.power ∧ nx.mem = s.mem ∧ nx.engines = s.engines ∧ nx.admin = s.admin ∧ nx.staing = s.staing ∧ nx.security = s.security ∧ nx.migration = s.migration ∧ nx.pending = s.pending ∧ nx.now = s.now ∧ nx.bootAt = s.bootAt ∧ nx.free = s.free := by
  intro nx h
  unfold execRead at h
  obtain rfl | ⟨a, hb, ⟨c, rfl⟩ | ⟨x, c, rfl⟩ | rfl⟩ := ioRun_cases h
  · simp
  · simp [state_begin_some _ _ _ hb]
  · simp [state_begin_some _ _ _ hb]
  · have hf := state_begin_some _ _ _ hb
    simp [hf]

theorem execCompare_next (h : Hdr) (a : ReadArgs) (s : State) :
    ∀ nx, execCompare h a s = .next nx → nx.modes = s.modes ∧ nx.cells = s.cells ∧ nx.power = s.power ∧ nx.mem = s.mem ∧ nx.engines = s.engines ∧ nx.admin = s.admin ∧ nx.staing = s.staing ∧ nx.security = s.security ∧ nx.migration = s.migration ∧ nx.pending = s.pending ∧ nx.now = s.now ∧ nx.bootAt = s.bootAt ∧ nx.free = s.free := by
  intro nx h
  unfold execCompare at h
  obtain rfl | ⟨a, hb, ⟨c, rfl⟩ | ⟨x, c, rfl⟩ | rfl⟩ := ioRun_cases h
  · simp
  · simp [state_begin_some _ _ _ hb]
  · simp [state_begin_some _ _ _ hb]
  · have hf := state_begin_some _ _ _ hb
    simp [hf]

theorem execVerify_next (h : Hdr) (r : Range) (p : PrInfo) (s : State) :
    ∀ nx, execVerify h r p s = .next nx → nx.modes = s.modes ∧ nx.cells = s.cells ∧ nx.power = s.power ∧ nx.mem = s.mem ∧ nx.engines = s.engines ∧ nx.admin = s.admin ∧ nx.staing = s.staing ∧ nx.security = s.security ∧ nx.migration = s.migration ∧ nx.pending = s.pending ∧ nx.now = s.now ∧ nx.bootAt = s.bootAt ∧ nx.free = s.free := by
  intro nx h
  unfold execVerify at h
  obtain rfl | ⟨a, hb, ⟨c, rfl⟩ | ⟨x, c, rfl⟩ | rfl⟩ := ioRun_cases h
  · simp
  · simp [state_begin_some _ _ _ hb]
  · simp [state_begin_some _ _ _ hb]
  · have hf := state_begin_some _ _ _ hb
    simp [hf]

theorem execWrite_next (h : Hdr) (a : WriteArgs) (s : State) :
    ∀ nx, execWrite h a s = .next nx → nx.modes = s.modes ∧ nx.cells = s.cells ∧ nx.power = s.power ∧ nx.mem = s.mem ∧ nx.engines = s.engines ∧ nx.admin = s.admin ∧ nx.staing = s.staing ∧ nx.security = s.security ∧ nx.migration = s.migration ∧ nx.pending = s.pending ∧ nx.now = s.now ∧ nx.bootAt = s.bootAt ∧ nx.free = s.free := by
  intro nx h
  unfold execWrite at h
  obtain rfl | ⟨a, hb, ⟨c, rfl⟩ | ⟨x, c, rfl⟩ | rfl⟩ := ioRun_cases h
  · simp
  · simp [state_begin_some _ _ _ hb]
  · simp [state_begin_some _ _ _ hb]
  · have hf := state_begin_some _ _ _ hb
    simp [hf]

theorem execZoneAppend_next (h : Hdr) (a : WriteArgs) (s : State) :
    ∀ nx, execZoneAppend h a s = .next nx → nx.modes = s.modes ∧ nx.cells = s.cells ∧ nx.power = s.power ∧ nx.mem = s.mem ∧ nx.engines = s.engines ∧ nx.admin = s.admin ∧ nx.staing = s.staing ∧ nx.security = s.security ∧ nx.migration = s.migration ∧ nx.pending = s.pending ∧ nx.now = s.now ∧ nx.bootAt = s.bootAt ∧ nx.free = s.free := by
  intro nx h
  unfold execZoneAppend at h
  obtain rfl | ⟨a, hb, ⟨c, rfl⟩ | ⟨x, c, rfl⟩ | rfl⟩ := ioRun_cases h
  · simp
  · simp [state_begin_some _ _ _ hb]
  · simp [state_begin_some _ _ _ hb]
  · have hf := state_begin_some _ _ _ hb
    simp [hf]

theorem execWriteZeroes_next (h : Hdr) (r : Range) (deac : Bool) (s : State) :
    ∀ nx, execWriteZeroes h r deac s = .next nx → nx.modes = s.modes ∧ nx.cells = s.cells ∧ nx.power = s.power ∧ nx.mem = s.mem ∧ nx.engines = s.engines ∧ nx.admin = s.admin ∧ nx.staing = s.staing ∧ nx.security = s.security ∧ nx.migration = s.migration ∧ nx.pending = s.pending ∧ nx.now = s.now ∧ nx.bootAt = s.bootAt ∧ nx.free = s.free ∧ nx.out = s.out := by
  intro nx h
  unfold execWriteZeroes at h
  obtain rfl | ⟨a, hb, ⟨c, rfl⟩ | ⟨x, c, rfl⟩ | rfl⟩ := ioRun_cases h
  · simp
  · simp [state_begin_some _ _ _ hb]
  · simp [state_begin_some _ _ _ hb]
  · have hf := state_begin_some _ _ _ hb
    simp [hf]

theorem execWriteUncorrectable_next (h : Hdr) (r : Range) (s : State) :
    ∀ nx, execWriteUncorrectable h r s = .next nx → nx.modes = s.modes ∧ nx.cells = s.cells ∧ nx.power = s.power ∧ nx.mem = s.mem ∧ nx.engines = s.engines ∧ nx.admin = s.admin ∧ nx.staing = s.staing ∧ nx.security = s.security ∧ nx.migration = s.migration ∧ nx.pending = s.pending ∧ nx.now = s.now ∧ nx.bootAt = s.bootAt ∧ nx.free = s.free ∧ nx.out = s.out := by
  intro nx h
  unfold execWriteUncorrectable at h
  obtain rfl | ⟨a, hb, ⟨c, rfl⟩ | ⟨x, c, rfl⟩ | rfl⟩ := ioRun_cases h
  · simp
  · simp [state_begin_some _ _ _ hb]
  · simp [state_begin_some _ _ _ hb]
  · have hf := state_begin_some _ _ _ hb
    simp [hf]

theorem execDatasetManagement_next (h : Hdr) (nsid : Nat) (dealloc : Bool) (ranges : List Range) (s : State) :
    ∀ nx, execDatasetManagement h nsid dealloc ranges s = .next nx → nx.modes = s.modes ∧ nx.sampler = s.sampler ∧ nx.cells = s.cells ∧ nx.sched = s.sched ∧ nx.power = s.power ∧ nx.mem = s.mem ∧ nx.cipher = s.cipher ∧ nx.engines = s.engines ∧ nx.admin = s.admin ∧ nx.staing = s.staing ∧ nx.security = s.security ∧ nx.migration = s.migration ∧ nx.pending = s.pending ∧ nx.now = s.now ∧ nx.bootAt = s.bootAt ∧ nx.free = s.free ∧ nx.out = s.out := by
  intro nx h
  unfold execDatasetManagement at h
  obtain rfl | ⟨a, hb, ⟨c, rfl⟩ | ⟨x, c, rfl⟩ | rfl⟩ := ioRun_cases h
  · simp
  · simp [state_begin_some _ _ _ hb]
  · simp [state_begin_some _ _ _ hb]
  · have hf := state_begin_some _ _ _ hb
    simp [hf]

theorem execCopy_next (h : Hdr) (a : CopyArgs) (s : State) :
    ∀ nx, execCopy h a s = .next nx → nx.modes = s.modes ∧ nx.cells = s.cells ∧ nx.power = s.power ∧ nx.mem = s.mem ∧ nx.engines = s.engines ∧ nx.admin = s.admin ∧ nx.staing = s.staing ∧ nx.security = s.security ∧ nx.migration = s.migration ∧ nx.pending = s.pending ∧ nx.now = s.now ∧ nx.bootAt = s.bootAt ∧ nx.free = s.free := by
  intro nx h
  unfold execCopy at h
  obtain rfl | ⟨a, hb, ⟨c, rfl⟩ | ⟨x, c, rfl⟩ | rfl⟩ := ioRun_cases h
  · simp
  · simp [state_begin_some _ _ _ hb]
  · simp [state_begin_some _ _ _ hb]
  · have hf := state_begin_some _ _ _ hb
    simp [hf]

theorem execFlush_next (h : Hdr) (nsid : Nat) (s : State) :
    ∀ nx, execFlush h nsid s = .next nx → nx.modes = s.modes ∧ nx.cells = s.cells ∧ nx.power = s.power ∧ nx.mem = s.mem ∧ nx.engines = s.engines ∧ nx.admin = s.admin ∧ nx.staing = s.staing ∧ nx.security = s.security ∧ nx.migration = s.migration ∧ nx.pending = s.pending ∧ nx.now = s.now ∧ nx.bootAt = s.bootAt ∧ nx.free = s.free := by
  intro nx h
  unfold execFlush at h
  obtain rfl | ⟨a, hb, ⟨c, rfl⟩ | ⟨x, c, rfl⟩ | rfl⟩ := ioRun_cases h
  · simp
  · simp [state_begin_some _ _ _ hb]
  · simp [state_begin_some _ _ _ hb]
  · have hf := state_begin_some _ _ _ hb
    simp [hf]

theorem execOverlapEntryGrant_next (s : State) :
    ∀ nx, execOverlapEntryGrant s = .next nx → nx.modes = s.modes ∧ nx.cells = s.cells ∧ nx.power = s.power ∧ nx.mem = s.mem ∧ nx.engines = s.engines ∧ nx.admin = s.admin ∧ nx.staing = s.staing ∧ nx.security = s.security ∧ nx.migration = s.migration ∧ nx.pending = s.pending ∧ nx.now = s.now ∧ nx.bootAt = s.bootAt ∧ nx.free = s.free := by
  intro nx h
  unfold execOverlapEntryGrant at h
  (repeat' split at h) <;> cases h <;> simp

theorem execCompletionPost_next (h : Hdr) (s : State) :
    ∀ nx, execCompletionPost h s = .next nx → nx.modes = s.modes ∧ nx.cells = s.cells ∧ nx.power = s.power ∧ nx.mem = s.mem ∧ nx.engines = s.engines ∧ nx.staing = s.staing ∧ nx.security = s.security ∧ nx.pending = s.pending ∧ nx.now = s.now ∧ nx.bootAt = s.bootAt ∧ nx.free = s.free := by
  intro nx h
  unfold execCompletionPost at h
  cases h
  simp

theorem execWaitingEntryPost_next (f : Func) (cqid : Nat) (s : State) :
    ∀ nx, execWaitingEntryPost f cqid s = .next nx → nx.modes = s.modes ∧ nx.cells = s.cells ∧ nx.power = s.power ∧ nx.mem = s.mem ∧ nx.engines = s.engines ∧ nx.staing = s.staing ∧ nx.security = s.security ∧ nx.pending = s.pending ∧ nx.now = s.now ∧ nx.bootAt = s.bootAt ∧ nx.free = s.free := by
  intro nx h
  unfold execWaitingEntryPost at h
  cases h
  simp

theorem execHostMemoryReadCompletion_next (h : Hdr) (e : ReadEnd) (s : State) :
    ∀ nx, execHostMemoryReadCompletion h e s = .next nx → nx.modes = s.modes ∧ nx.sampler = s.sampler ∧ nx.cells = s.cells ∧ nx.sched = s.sched ∧ nx.flash = s.flash ∧ nx.store = s.store ∧ nx.power = s.power ∧ nx.mem = s.mem ∧ nx.cipher = s.cipher ∧ nx.engines = s.engines ∧ nx.admin = s.admin ∧ nx.staing = s.staing ∧ nx.security = s.security ∧ nx.migration = s.migration ∧ nx.pending = s.pending ∧ nx.now = s.now ∧ nx.bootAt = s.bootAt ∧ nx.free = s.free ∧ nx.out = s.out := by
  intro nx h
  unfold execHostMemoryReadCompletion at h
  (repeat' split at h) <;> cases h <;> simp

theorem execCompletionTimeout_next (h : Hdr) (s : State) :
    ∀ nx, execCompletionTimeout h s = .next nx → nx.modes = s.modes ∧ nx.sampler = s.sampler ∧ nx.cells = s.cells ∧ nx.sched = s.sched ∧ nx.flash = s.flash ∧ nx.store = s.store ∧ nx.power = s.power ∧ nx.mem = s.mem ∧ nx.cipher = s.cipher ∧ nx.engines = s.engines ∧ nx.admin = s.admin ∧ nx.staing = s.staing ∧ nx.security = s.security ∧ nx.migration = s.migration ∧ nx.pending = s.pending ∧ nx.now = s.now ∧ nx.bootAt = s.bootAt ∧ nx.free = s.free ∧ nx.out = s.out := by
  intro nx h
  unfold execCompletionTimeout at h
  cases h
  simp

theorem execInvalidCommandOpcode_next (h : Hdr) (opcode : Nat) (action : Nat) (s : State) :
    ∀ nx, execInvalidCommandOpcode h opcode action s = .next nx → nx.dict = s.dict ∧ nx.modes = s.modes ∧ nx.sampler = s.sampler ∧ nx.cells = s.cells ∧ nx.sched = s.sched ∧ nx.flash = s.flash ∧ nx.store = s.store ∧ nx.power = s.power ∧ nx.mem = s.mem ∧ nx.cipher = s.cipher ∧ nx.engines = s.engines ∧ nx.admin = s.admin ∧ nx.staing = s.staing ∧ nx.security = s.security ∧ nx.migration = s.migration ∧ nx.pending = s.pending ∧ nx.now = s.now ∧ nx.bootAt = s.bootAt ∧ nx.free = s.free ∧ nx.out = s.out := by
  intro nx h
  unfold execInvalidCommandOpcode at h
  cases h
  simp

theorem execZoneClose_next (h : Hdr) (nsid : Nat) (slba : Nat) (all : Bool) (s : State) :
    ∀ nx, execZoneClose h nsid slba all s = .next nx → nx.modes = s.modes ∧ nx.sampler = s.sampler ∧ nx.cells = s.cells ∧ nx.sched = s.sched ∧ nx.power = s.power ∧ nx.mem = s.mem ∧ nx.cipher = s.cipher ∧ nx.engines = s.engines ∧ nx.admin = s.admin ∧ nx.staing = s.staing ∧ nx.security = s.security ∧ nx.migration = s.migration ∧ nx.pending = s.pending ∧ nx.now = s.now ∧ nx.bootAt = s.bootAt ∧ nx.free = s.free ∧ nx.out = s.out := by
  intro nx h
  unfold execZoneClose at h
  exact ⟨zoneAction_modes _ _ _ _ _ _ _ (fun _ _ _ _ _ k => by simp [state_closeZone_some _ _ _ _ _ k]) _ h, zoneAction_sampler _ _ _ _ _ _ _ (fun _ _ _ _ _ k => by simp [state_closeZone_some _ _ _ _ _ k]) _ h, zoneAction_cells _ _ _ _ _ _ _ (fun _ _ _ _ _ k => by simp [state_closeZone_some _ _ _ _ _ k]) _ h, zoneAction_sched _ _ _ _ _ _ _ (fun _ _ _ _ _ k => by simp [state_closeZone_some _ _ _ _ _ k]) _ h, zoneAction_power _ _ _ _ _ _ _ (fun _ _ _ _ _ k => by simp [state_closeZone_some _ _ _ _ _ k]) _ h, zoneAction_mem _ _ _ _ _ _ _ (fun _ _ _ _ _ k => by simp [state_closeZone_some _ _ _ _ _ k]) _ h, zoneAction_cipher _ _ _ _ _ _ _ (fun _ _ _ _ _ k => by simp [state_closeZone_some _ _ _ _ _ k]) _ h, zoneAction_engines _ _ _ _ _ _ _ (fun _ _ _ _ _ k => by simp [state_closeZone_some _ _ _ _ _ k]) _ h, zoneAction_admin _ _ _ _ _ _ _ (fun _ _ _ _ _ k => by simp [state_closeZone_some _ _ _ _ _ k]) _ h, zoneAction_staing _ _ _ _ _ _ _ (fun _ _ _ _ _ k => by simp [state_closeZone_some _ _ _ _ _ k]) _ h, zoneAction_security _ _ _ _ _ _ _ (fun _ _ _ _ _ k => by simp [state_closeZone_some _ _ _ _ _ k]) _ h, zoneAction_migration _ _ _ _ _ _ _ (fun _ _ _ _ _ k => by simp [state_closeZone_some _ _ _ _ _ k]) _ h, zoneAction_pending _ _ _ _ _ _ _ (fun _ _ _ _ _ k => by simp [state_closeZone_some _ _ _ _ _ k]) _ h, zoneAction_now _ _ _ _ _ _ _ (fun _ _ _ _ _ k => by simp [state_closeZone_some _ _ _ _ _ k]) _ h, zoneAction_bootAt _ _ _ _ _ _ _ (fun _ _ _ _ _ k => by simp [state_closeZone_some _ _ _ _ _ k]) _ h, zoneAction_free _ _ _ _ _ _ _ (fun _ _ _ _ _ k => by simp [state_closeZone_some _ _ _ _ _ k]) _ h, zoneAction_out _ _ _ _ _ _ _ (fun _ _ _ _ _ k => by simp [state_closeZone_some _ _ _ _ _ k]) _ h⟩

theorem execZoneOpen_next (h : Hdr) (nsid : Nat) (slba : Nat) (all : Bool) (s : State) :
    ∀ nx, execZoneOpen h nsid slba all s = .next nx → nx.modes = s.modes ∧ nx.sampler = s.sampler ∧ nx.cells = s.cells ∧ nx.sched = s.sched ∧ nx.power = s.power ∧ nx.mem = s.mem ∧ nx.cipher = s.cipher ∧ nx.engines = s.engines ∧ nx.admin = s.admin ∧ nx.staing = s.staing ∧ nx.security = s.security ∧ nx.migration = s.migration ∧ nx.pending = s.pending ∧ nx.now = s.now ∧ nx.bootAt = s.bootAt ∧ nx.free = s.free ∧ nx.out = s.out := by
  intro nx h
  unfold execZoneOpen at h
  exact ⟨zoneAction_modes _ _ _ _ _ _ _ (fun _ _ _ _ _ k => by simp [state_explicitOpen_some _ _ _ _ _ k]) _ h, zoneAction_sampler _ _ _ _ _ _ _ (fun _ _ _ _ _ k => by simp [state_explicitOpen_some _ _ _ _ _ k]) _ h, zoneAction_cells _ _ _ _ _ _ _ (fun _ _ _ _ _ k => by simp [state_explicitOpen_some _ _ _ _ _ k]) _ h, zoneAction_sched _ _ _ _ _ _ _ (fun _ _ _ _ _ k => by simp [state_explicitOpen_some _ _ _ _ _ k]) _ h, zoneAction_power _ _ _ _ _ _ _ (fun _ _ _ _ _ k => by simp [state_explicitOpen_some _ _ _ _ _ k]) _ h, zoneAction_mem _ _ _ _ _ _ _ (fun _ _ _ _ _ k => by simp [state_explicitOpen_some _ _ _ _ _ k]) _ h, zoneAction_cipher _ _ _ _ _ _ _ (fun _ _ _ _ _ k => by simp [state_explicitOpen_some _ _ _ _ _ k]) _ h, zoneAction_engines _ _ _ _ _ _ _ (fun _ _ _ _ _ k => by simp [state_explicitOpen_some _ _ _ _ _ k]) _ h, zoneAction_admin _ _ _ _ _ _ _ (fun _ _ _ _ _ k => by simp [state_explicitOpen_some _ _ _ _ _ k]) _ h, zoneAction_staing _ _ _ _ _ _ _ (fun _ _ _ _ _ k => by simp [state_explicitOpen_some _ _ _ _ _ k]) _ h, zoneAction_security _ _ _ _ _ _ _ (fun _ _ _ _ _ k => by simp [state_explicitOpen_some _ _ _ _ _ k]) _ h, zoneAction_migration _ _ _ _ _ _ _ (fun _ _ _ _ _ k => by simp [state_explicitOpen_some _ _ _ _ _ k]) _ h, zoneAction_pending _ _ _ _ _ _ _ (fun _ _ _ _ _ k => by simp [state_explicitOpen_some _ _ _ _ _ k]) _ h, zoneAction_now _ _ _ _ _ _ _ (fun _ _ _ _ _ k => by simp [state_explicitOpen_some _ _ _ _ _ k]) _ h, zoneAction_bootAt _ _ _ _ _ _ _ (fun _ _ _ _ _ k => by simp [state_explicitOpen_some _ _ _ _ _ k]) _ h, zoneAction_free _ _ _ _ _ _ _ (fun _ _ _ _ _ k => by simp [state_explicitOpen_some _ _ _ _ _ k]) _ h, zoneAction_out _ _ _ _ _ _ _ (fun _ _ _ _ _ k => by simp [state_explicitOpen_some _ _ _ _ _ k]) _ h⟩

theorem execZoneOffline_next (h : Hdr) (nsid : Nat) (slba : Nat) (all : Bool) (s : State) :
    ∀ nx, execZoneOffline h nsid slba all s = .next nx → nx.modes = s.modes ∧ nx.sampler = s.sampler ∧ nx.cells = s.cells ∧ nx.sched = s.sched ∧ nx.power = s.power ∧ nx.mem = s.mem ∧ nx.cipher = s.cipher ∧ nx.engines = s.engines ∧ nx.admin = s.admin ∧ nx.staing = s.staing ∧ nx.security = s.security ∧ nx.pending = s.pending ∧ nx.now = s.now ∧ nx.bootAt = s.bootAt ∧ nx.free = s.free ∧ nx.out = s.out := by
  intro nx h
  unfold execZoneOffline at h
  exact ⟨zoneAction_modes _ _ _ _ _ _ _ (fun _ _ _ _ _ k => by simp [state_offlineZone_some _ _ _ _ _ k]) _ h, zoneAction_sampler _ _ _ _ _ _ _ (fun _ _ _ _ _ k => by simp [state_offlineZone_some _ _ _ _ _ k]) _ h, zoneAction_cells _ _ _ _ _ _ _ (fun _ _ _ _ _ k => by simp [state_offlineZone_some _ _ _ _ _ k]) _ h, zoneAction_sched _ _ _ _ _ _ _ (fun _ _ _ _ _ k => by simp [state_offlineZone_some _ _ _ _ _ k]) _ h, zoneAction_power _ _ _ _ _ _ _ (fun _ _ _ _ _ k => by simp [state_offlineZone_some _ _ _ _ _ k]) _ h, zoneAction_mem _ _ _ _ _ _ _ (fun _ _ _ _ _ k => by simp [state_offlineZone_some _ _ _ _ _ k]) _ h, zoneAction_cipher _ _ _ _ _ _ _ (fun _ _ _ _ _ k => by simp [state_offlineZone_some _ _ _ _ _ k]) _ h, zoneAction_engines _ _ _ _ _ _ _ (fun _ _ _ _ _ k => by simp [state_offlineZone_some _ _ _ _ _ k]) _ h, zoneAction_admin _ _ _ _ _ _ _ (fun _ _ _ _ _ k => by simp [state_offlineZone_some _ _ _ _ _ k]) _ h, zoneAction_staing _ _ _ _ _ _ _ (fun _ _ _ _ _ k => by simp [state_offlineZone_some _ _ _ _ _ k]) _ h, zoneAction_security _ _ _ _ _ _ _ (fun _ _ _ _ _ k => by simp [state_offlineZone_some _ _ _ _ _ k]) _ h, zoneAction_pending _ _ _ _ _ _ _ (fun _ _ _ _ _ k => by simp [state_offlineZone_some _ _ _ _ _ k]) _ h, zoneAction_now _ _ _ _ _ _ _ (fun _ _ _ _ _ k => by simp [state_offlineZone_some _ _ _ _ _ k]) _ h, zoneAction_bootAt _ _ _ _ _ _ _ (fun _ _ _ _ _ k => by simp [state_offlineZone_some _ _ _ _ _ k]) _ h, zoneAction_free _ _ _ _ _ _ _ (fun _ _ _ _ _ k => by simp [state_offlineZone_some _ _ _ _ _ k]) _ h, zoneAction_out _ _ _ _ _ _ _ (fun _ _ _ _ _ k => by simp [state_offlineZone_some _ _ _ _ _ k]) _ h⟩

theorem execSecureReset_next (h : Hdr) (nsid : Nat) (slba : Nat) (all : Bool) (s : State) :
    ∀ nx, execSecureReset h nsid slba all s = .next nx → nx.modes = s.modes ∧ nx.sampler = s.sampler ∧ nx.cells = s.cells ∧ nx.sched = s.sched ∧ nx.power = s.power ∧ nx.mem = s.mem ∧ nx.cipher = s.cipher ∧ nx.engines = s.engines ∧ nx.admin = s.admin ∧ nx.staing = s.staing ∧ nx.security = s.security ∧ nx.migration = s.migration ∧ nx.pending = s.pending ∧ nx.now = s.now ∧ nx.bootAt = s.bootAt ∧ nx.free = s.free ∧ nx.out = s.out := by
  intro nx h
  unfold execSecureReset at h
  obtain rfl | ⟨a, hb, ⟨c, rfl⟩ | ⟨x, c, rfl⟩ | rfl⟩ := ioRun_cases h
  · simp
  · simp [state_begin_some _ _ _ hb]
  · simp [state_begin_some _ _ _ hb]
  · have hf := state_begin_some _ _ _ hb
    simp [hf]

theorem execReportZones_next (h : Hdr) (nsid : Nat) (slba : Nat) (filter : Nat) (part : Bool) (numd : Nat) (s : State) :
    ∀ nx, execReportZones h nsid slba filter part numd s = .next nx → nx.modes = s.modes ∧ nx.sampler = s.sampler ∧ nx.cells = s.cells ∧ nx.sched = s.sched ∧ nx.flash = s.flash ∧ nx.store = s.store ∧ nx.power = s.power ∧ nx.mem = s.mem ∧ nx.cipher = s.cipher ∧ nx.engines = s.engines ∧ nx.admin = s.admin ∧ nx.staing = s.staing ∧ nx.security = s.security ∧ nx.migration = s.migration ∧ nx.pending = s.pending ∧ nx.now = s.now ∧ nx.bootAt = s.bootAt ∧ nx.free = s.free := by
  intro nx h
  unfold execReportZones at h
  obtain rfl | ⟨a, hb, ⟨c, rfl⟩ | ⟨x, c, rfl⟩ | rfl⟩ := ioRun_cases h
  · simp
  · simp [state_begin_some _ _ _ hb]
  · simp [state_begin_some _ _ _ hb]
  · have hf := state_begin_some _ _ _ hb
    dsimp only
    (repeat' split) <;> simp [hf]

theorem execZoneDigestReport_next (h : Hdr) (nsid : Nat) (slba : Nat) (filter : Nat) (part : Bool) (numd : Nat) (s : State) :
    ∀ nx, execZoneDigestReport h nsid slba filter part numd s = .next nx → nx.modes = s.modes ∧ nx.sampler = s.sampler ∧ nx.cells = s.cells ∧ nx.sched = s.sched ∧ nx.flash = s.flash ∧ nx.store = s.store ∧ nx.power = s.power ∧ nx.mem = s.mem ∧ nx.cipher = s.cipher ∧ nx.engines = s.engines ∧ nx.admin = s.admin ∧ nx.staing = s.staing ∧ nx.security = s.security ∧ nx.migration = s.migration ∧ nx.pending = s.pending ∧ nx.now = s.now ∧ nx.bootAt = s.bootAt ∧ nx.free = s.free := by
  intro nx h
  unfold execZoneDigestReport at h
  obtain rfl | ⟨a, hb, ⟨c, rfl⟩ | ⟨x, c, rfl⟩ | rfl⟩ := ioRun_cases h
  · simp
  · simp [state_begin_some _ _ _ hb]
  · simp [state_begin_some _ _ _ hb]
  · have hf := state_begin_some _ _ _ hb
    dsimp only
    (repeat' split) <;> simp [hf]

theorem execZoneAgeExpiry_next (nsid : Nat) (zone : Nat) (t : Nat) (s0 : State) :
    ∀ nx, execZoneAgeExpiry nsid zone t s0 = .next nx → nx.dict = s0.dict ∧ nx.modes = s0.modes ∧ nx.sampler = s0.sampler ∧ nx.cells = s0.cells ∧ nx.sched = s0.sched ∧ nx.flash = s0.flash ∧ nx.power = s0.power ∧ nx.mem = s0.mem ∧ nx.cipher = s0.cipher ∧ nx.engines = s0.engines ∧ nx.staing = s0.staing ∧ nx.security = s0.security ∧ nx.migration = s0.migration ∧ nx.pending = s0.pending ∧ nx.bootAt = s0.bootAt ∧ nx.free = s0.free ∧ nx.out = s0.out := by
  intro nx h
  unfold execZoneAgeExpiry at h
  dsimp only at h
  (repeat' split at h) <;> cases h <;> simp

theorem execReclaimUnitHandleStatus_next (h : Hdr) (nsid : Nat) (numd : Nat) (s : State) :
    ∀ nx, execReclaimUnitHandleStatus h nsid numd s = .next nx → nx.modes = s.modes ∧ nx.sampler = s.sampler ∧ nx.cells = s.cells ∧ nx.sched = s.sched ∧ nx.flash = s.flash ∧ nx.store = s.store ∧ nx.power = s.power ∧ nx.mem = s.mem ∧ nx.cipher = s.cipher ∧ nx.engines = s.engines ∧ nx.admin = s.admin ∧ nx.staing = s.staing ∧ nx.security = s.security ∧ nx.migration = s.migration ∧ nx.pending = s.pending ∧ nx.now = s.now ∧ nx.bootAt = s.bootAt ∧ nx.free = s.free := by
  intro nx h
  unfold execReclaimUnitHandleStatus at h
  obtain rfl | ⟨a, hb, ⟨c, rfl⟩ | ⟨x, c, rfl⟩ | rfl⟩ := ioRun_cases h
  · simp
  · simp [state_begin_some _ _ _ hb]
  · simp [state_begin_some _ _ _ hb]
  · have hf := state_begin_some _ _ _ hb
    dsimp only
    (repeat' split) <;> simp [hf]

theorem execReclaimUnitTimeLimit_next (ruh : Nat) (group : Nat) (t : Nat) (s0 : State) :
    ∀ nx, execReclaimUnitTimeLimit ruh group t s0 = .next nx → nx.dict = s0.dict ∧ nx.modes = s0.modes ∧ nx.sampler = s0.sampler ∧ nx.cells = s0.cells ∧ nx.sched = s0.sched ∧ nx.flash = s0.flash ∧ nx.power = s0.power ∧ nx.mem = s0.mem ∧ nx.cipher = s0.cipher ∧ nx.engines = s0.engines ∧ nx.admin = s0.admin ∧ nx.staing = s0.staing ∧ nx.security = s0.security ∧ nx.migration = s0.migration ∧ nx.pending = s0.pending ∧ nx.bootAt = s0.bootAt ∧ nx.free = s0.free ∧ nx.out = s0.out := by
  intro nx h
  unfold execReclaimUnitTimeLimit at h
  dsimp only at h
  (repeat' split at h) <;> cases h <;> simp

theorem execFramePlannedEnd_next (t : Nat) (late : Nat) (s : State) :
    ∀ nx, execFramePlannedEnd t late s = .next nx → nx.modes = s.modes ∧ nx.sampler = s.sampler ∧ nx.cells = s.cells ∧ nx.host = s.host ∧ nx.flash = s.flash ∧ nx.power = s.power ∧ nx.mem = s.mem ∧ nx.cipher = s.cipher ∧ nx.engines = s.engines ∧ nx.admin = s.admin ∧ nx.staing = s.staing ∧ nx.security = s.security ∧ nx.migration = s.migration ∧ nx.pending = s.pending ∧ nx.bootAt = s.bootAt ∧ nx.free = s.free ∧ nx.out = s.out := by
  intro nx h
  unfold execFramePlannedEnd at h
  dsimp only at h
  (repeat' split at h) <;> cases h <;> simp

theorem execLateWorkHandover_next (t : Nat) (s : State) :
    ∀ nx, execLateWorkHandover t s = .next nx → nx.dict = s.dict ∧ nx.modes = s.modes ∧ nx.sampler = s.sampler ∧ nx.cells = s.cells ∧ nx.host = s.host ∧ nx.flash = s.flash ∧ nx.power = s.power ∧ nx.mem = s.mem ∧ nx.cipher = s.cipher ∧ nx.engines = s.engines ∧ nx.admin = s.admin ∧ nx.staing = s.staing ∧ nx.security = s.security ∧ nx.migration = s.migration ∧ nx.pending = s.pending ∧ nx.bootAt = s.bootAt ∧ nx.free = s.free ∧ nx.out = s.out := by
  intro nx h
  unfold execLateWorkHandover at h
  cases h
  simp

theorem execChunkAdmit_next (c : ChunkOf) (s : State) :
    ∀ nx, execChunkAdmit c s = .next nx → nx.modes = s.modes ∧ nx.cells = s.cells ∧ nx.power = s.power ∧ nx.mem = s.mem ∧ nx.engines = s.engines ∧ nx.admin = s.admin ∧ nx.staing = s.staing ∧ nx.security = s.security ∧ nx.migration = s.migration ∧ nx.pending = s.pending ∧ nx.now = s.now ∧ nx.bootAt = s.bootAt ∧ nx.free = s.free := by
  intro nx h
  unfold execChunkAdmit at h
  (repeat' split at h) <;> cases h <;> simp

theorem execOperationIssue_next (t : Nat) (s : State) :
    ∀ nx, execOperationIssue t s = .next nx → nx.modes = s.modes ∧ nx.sampler = s.sampler ∧ nx.cells = s.cells ∧ nx.host = s.host ∧ nx.sched = s.sched ∧ nx.power = s.power ∧ nx.mem = s.mem ∧ nx.cipher = s.cipher ∧ nx.engines = s.engines ∧ nx.admin = s.admin ∧ nx.staing = s.staing ∧ nx.security = s.security ∧ nx.migration = s.migration ∧ nx.pending = s.pending ∧ nx.bootAt = s.bootAt ∧ nx.free = s.free ∧ nx.out = s.out := by
  intro nx h
  unfold execOperationIssue at h
  dsimp only at h
  (repeat' split at h) <;> cases h <;> simp

theorem execProgAgePromote_next (lun : Fin 4096) (op : Nat) (s : State) :
    ∀ nx, execProgAgePromote lun op s = .next nx → nx.dict = s.dict ∧ nx.modes = s.modes ∧ nx.sampler = s.sampler ∧ nx.cells = s.cells ∧ nx.host = s.host ∧ nx.sched = s.sched ∧ nx.store = s.store ∧ nx.power = s.power ∧ nx.mem = s.mem ∧ nx.cipher = s.cipher ∧ nx.engines = s.engines ∧ nx.admin = s.admin ∧ nx.staing = s.staing ∧ nx.security = s.security ∧ nx.migration = s.migration ∧ nx.pending = s.pending ∧ nx.now = s.now ∧ nx.bootAt = s.bootAt ∧ nx.free = s.free ∧ nx.out = s.out := by
  intro nx h
  unfold execProgAgePromote at h
  cases h
  simp

theorem execOperationReady_next (lun : Fin 4096) (ok : Bool) (t : Nat) (s : State) :
    ∀ nx, execOperationReady lun ok t s = .next nx → nx.engines = s.engines ∧ nx.admin = s.admin ∧ nx.staing = s.staing ∧ nx.security = s.security ∧ nx.pending = s.pending ∧ nx.bootAt = s.bootAt ∧ nx.free = s.free ∧ nx.mem.dram = s.mem.dram := by
  intro nx h
  unfold execOperationReady at h
  dsimp only at h
  (repeat' split at h) <;> cases h <;> simp

theorem execSuspendReported_next (lun : Fin 4096) (suspended : Bool) (t : Nat) (s : State) :
    ∀ nx, execSuspendReported lun suspended t s = .next nx → nx.engines = s.engines ∧ nx.admin = s.admin ∧ nx.staing = s.staing ∧ nx.security = s.security ∧ nx.pending = s.pending ∧ nx.bootAt = s.bootAt ∧ nx.free = s.free ∧ nx.mem.dram = s.mem.dram := by
  intro nx h
  unfold execSuspendReported at h
  dsimp only at h
  (repeat' split at h) <;> cases h <;> simp

theorem execReadyTimeout_next (lun : Fin 4096) (resetReady : Bool) (t : Nat) (s : State) :
    ∀ nx, execReadyTimeout lun resetReady t s = .next nx → nx.engines = s.engines ∧ nx.admin = s.admin ∧ nx.staing = s.staing ∧ nx.security = s.security ∧ nx.pending = s.pending ∧ nx.bootAt = s.bootAt ∧ nx.free = s.free ∧ nx.mem.dram = s.mem.dram := by
  intro nx h
  unfold execReadyTimeout at h
  grind [state_lunTimeout_frame, state_settleAll_frame, state_tick_frame]

theorem execSuspendTimeout_next (lun : Fin 4096) (resetReady : Bool) (t : Nat) (s : State) :
    ∀ nx, execSuspendTimeout lun resetReady t s = .next nx → nx.engines = s.engines ∧ nx.admin = s.admin ∧ nx.staing = s.staing ∧ nx.security = s.security ∧ nx.pending = s.pending ∧ nx.bootAt = s.bootAt ∧ nx.free = s.free ∧ nx.mem.dram = s.mem.dram := by
  intro nx h
  unfold execSuspendTimeout at h
  dsimp only at h
  (repeat' split at h) <;> injection h with h <;> subst h <;> simp

theorem execChannelPhyFault_next (ch : Fin 64) (s : State) :
    ∀ nx, execChannelPhyFault ch s = .next nx → nx.engines = s.engines ∧ nx.admin = s.admin ∧ nx.staing = s.staing ∧ nx.security = s.security ∧ nx.pending = s.pending ∧ nx.now = s.now ∧ nx.bootAt = s.bootAt ∧ nx.free = s.free ∧ nx.mem.dram = s.mem.dram := by
  intro nx h
  unfold execChannelPhyFault at h
  cases h
  simp

theorem execContractWindowEnd_next (n : Fin 1024) (measured : Nat) (s : State) :
    ∀ nx, execContractWindowEnd n measured s = .next nx → nx.modes = s.modes ∧ nx.cells = s.cells ∧ nx.host = s.host ∧ nx.flash = s.flash ∧ nx.store = s.store ∧ nx.power = s.power ∧ nx.mem = s.mem ∧ nx.cipher = s.cipher ∧ nx.engines = s.engines ∧ nx.admin = s.admin ∧ nx.staing = s.staing ∧ nx.security = s.security ∧ nx.migration = s.migration ∧ nx.pending = s.pending ∧ nx.now = s.now ∧ nx.bootAt = s.bootAt ∧ nx.free = s.free ∧ nx.out = s.out := by
  intro nx h
  unfold execContractWindowEnd at h
  dsimp only at h
  (repeat' split at h) <;> cases h <;> simp

theorem execMergeWaitExpiry_next (slot : Nat) (t : Nat) (s0 : State) :
    ∀ nx, execMergeWaitExpiry slot t s0 = .next nx → nx.modes = s0.modes ∧ nx.mem = s0.mem ∧ nx.engines = s0.engines ∧ nx.admin = s0.admin ∧ nx.staing = s0.staing ∧ nx.security = s0.security ∧ nx.pending = s0.pending ∧ nx.bootAt = s0.bootAt ∧ nx.free = s0.free := by
  intro nx h
  unfold execMergeWaitExpiry at h
  dsimp only at h
  split at h
  · obtain rfl := Host.Outcome.next.inj h; simp
  · split at h
    · obtain rfl := Host.Outcome.next.inj h; simp
    · obtain rfl := Host.Outcome.next.inj h; simp

theorem execUnitProgramDone_next (slot : Nat) (s : State) :
    ∀ nx, execUnitProgramDone slot s = .next nx → nx.modes = s.modes ∧ nx.mem = s.mem ∧ nx.engines = s.engines ∧ nx.admin = s.admin ∧ nx.staing = s.staing ∧ nx.security = s.security ∧ nx.pending = s.pending ∧ nx.now = s.now ∧ nx.bootAt = s.bootAt ∧ nx.free = s.free := by
  intro nx h
  unfold execUnitProgramDone at h
  dsimp only at h
  (repeat' split at h) <;> injection h with h <;> subst h <;> simp

theorem execProgramFailure_next (slot : Nat) (s : State) :
    ∀ nx, execProgramFailure slot s = .next nx → nx.engines = s.engines ∧ nx.admin = s.admin ∧ nx.staing = s.staing ∧ nx.security = s.security ∧ nx.pending = s.pending ∧ nx.now = s.now ∧ nx.bootAt = s.bootAt ∧ nx.free = s.free ∧ nx.mem.dram = s.mem.dram := by
  intro nx h
  unfold execProgramFailure at h
  cases h
  simp

theorem execJournalTimerExpiry_next (t : Nat) (s : State) :
    ∀ nx, execJournalTimerExpiry t s = .next nx → nx.dict = s.dict ∧ nx.modes = s.modes ∧ nx.sampler = s.sampler ∧ nx.cells = s.cells ∧ nx.host = s.host ∧ nx.sched = s.sched ∧ nx.power = s.power ∧ nx.mem = s.mem ∧ nx.cipher = s.cipher ∧ nx.engines = s.engines ∧ nx.admin = s.admin ∧ nx.staing = s.staing ∧ nx.security = s.security ∧ nx.migration = s.migration ∧ nx.pending = s.pending ∧ nx.bootAt = s.bootAt ∧ nx.free = s.free ∧ nx.out = s.out := by
  intro nx h
  unfold execJournalTimerExpiry at h
  dsimp only at h
  (repeat' split at h) <;> cases h <;> simp

theorem execJournalPageDurable_next (seq : Nat) (s : State) :
    ∀ nx, execJournalPageDurable seq s = .next nx → nx.modes = s.modes ∧ nx.mem = s.mem ∧ nx.engines = s.engines ∧ nx.admin = s.admin ∧ nx.staing = s.staing ∧ nx.security = s.security ∧ nx.pending = s.pending ∧ nx.now = s.now ∧ nx.bootAt = s.bootAt ∧ nx.free = s.free := by
  intro nx h
  unfold execJournalPageDurable at h
  dsimp only at h
  (repeat' split at h) <;> cases h <;> simp

theorem execJournalCopyFailure_next (seq : Nat) (copy : Fin 2) (blockLeft : Bool) (s : State) :
    ∀ nx, execJournalCopyFailure seq copy blockLeft s = .next nx → nx.cells = s.cells ∧ nx.power = s.power ∧ nx.mem = s.mem ∧ nx.engines = s.engines ∧ nx.admin = s.admin ∧ nx.staing = s.staing ∧ nx.security = s.security ∧ nx.migration = s.migration ∧ nx.pending = s.pending ∧ nx.now = s.now ∧ nx.bootAt = s.bootAt ∧ nx.free = s.free := by
  intro nx h
  unfold execJournalCopyFailure at h
  dsimp only at h
  (repeat' split at h) <;> cases h <;> simp

theorem execCheckpointPass_next (nsid : Nat) (segment : Nat) (t : Nat) (s : State) :
    ∀ nx, execCheckpointPass nsid segment t s = .next nx → nx.cells = s.cells ∧ nx.power = s.power ∧ nx.mem = s.mem ∧ nx.engines = s.engines ∧ nx.admin = s.admin ∧ nx.staing = s.staing ∧ nx.security = s.security ∧ nx.migration = s.migration ∧ nx.pending = s.pending ∧ nx.bootAt = s.bootAt ∧ nx.free = s.free := by
  intro nx h
  unfold execCheckpointPass at h
  dsimp only at h
  (repeat' split at h) <;> cases h <;> simp

theorem execSegmentCopyDurable_next (nsid : Nat) (segment : Nat) (s : State) :
    ∀ nx, execSegmentCopyDurable nsid segment s = .next nx → nx.cells = s.cells ∧ nx.host = s.host ∧ nx.sched = s.sched ∧ nx.power = s.power ∧ nx.cipher = s.cipher ∧ nx.engines = s.engines ∧ nx.admin = s.admin ∧ nx.staing = s.staing ∧ nx.security = s.security ∧ nx.migration = s.migration ∧ nx.pending = s.pending ∧ nx.now = s.now ∧ nx.bootAt = s.bootAt ∧ nx.free = s.free ∧ nx.out = s.out ∧ nx.mem.dram = s.mem.dram := by
  intro nx h
  unfold execSegmentCopyDurable at h
  dsimp only at h
  (repeat' split at h) <;> cases h <;> simp

theorem execFoldStart_next (s : State) :
    ∀ nx, execFoldStart s = .next nx → nx.dict = s.dict ∧ nx.modes = s.modes ∧ nx.sampler = s.sampler ∧ nx.cells = s.cells ∧ nx.host = s.host ∧ nx.sched = s.sched ∧ nx.flash = s.flash ∧ nx.power = s.power ∧ nx.mem = s.mem ∧ nx.cipher = s.cipher ∧ nx.engines = s.engines ∧ nx.admin = s.admin ∧ nx.staing = s.staing ∧ nx.security = s.security ∧ nx.migration = s.migration ∧ nx.pending = s.pending ∧ nx.now = s.now ∧ nx.bootAt = s.bootAt ∧ nx.free = s.free ∧ nx.out = s.out := by
  intro nx h
  unfold execFoldStart at h
  dsimp only at h
  (repeat' split at h) <;> cases h <;> simp

theorem execMangleStart_next (group : Nat) (s : State) :
    ∀ nx, execMangleStart group s = .next nx → nx.dict = s.dict ∧ nx.modes = s.modes ∧ nx.sampler = s.sampler ∧ nx.cells = s.cells ∧ nx.host = s.host ∧ nx.sched = s.sched ∧ nx.flash = s.flash ∧ nx.power = s.power ∧ nx.mem = s.mem ∧ nx.cipher = s.cipher ∧ nx.engines = s.engines ∧ nx.admin = s.admin ∧ nx.staing = s.staing ∧ nx.security = s.security ∧ nx.migration = s.migration ∧ nx.pending = s.pending ∧ nx.now = s.now ∧ nx.bootAt = s.bootAt ∧ nx.free = s.free ∧ nx.out = s.out := by
  intro nx h
  unfold execMangleStart at h
  dsimp only at h
  (repeat' split at h) <;> cases h <;> simp

theorem execTargetProgramFailure_next (stripe : Nat) (member : Nat) (s : State) :
    ∀ nx, execTargetProgramFailure stripe member s = .next nx → nx.cells = s.cells ∧ nx.power = s.power ∧ nx.engines = s.engines ∧ nx.admin = s.admin ∧ nx.staing = s.staing ∧ nx.security = s.security ∧ nx.migration = s.migration ∧ nx.pending = s.pending ∧ nx.now = s.now ∧ nx.bootAt = s.bootAt ∧ nx.free = s.free ∧ nx.mem.dram = s.mem.dram := by
  intro nx h
  unfold execTargetProgramFailure at h
  cases h
  simp

theorem execSourceStripeErase_next (stripe : Nat) (s : State) :
    ∀ nx, execSourceStripeErase stripe s = .next nx → nx.modes = s.modes ∧ nx.sampler = s.sampler ∧ nx.cells = s.cells ∧ nx.host = s.host ∧ nx.sched = s.sched ∧ nx.flash = s.flash ∧ nx.power = s.power ∧ nx.mem = s.mem ∧ nx.cipher = s.cipher ∧ nx.engines = s.engines ∧ nx.admin = s.admin ∧ nx.staing = s.staing ∧ nx.security = s.security ∧ nx.migration = s.migration ∧ nx.pending = s.pending ∧ nx.now = s.now ∧ nx.bootAt = s.bootAt ∧ nx.free = s.free ∧ nx.out = s.out := by
  intro nx h
  unfold execSourceStripeErase at h
  (repeat' split at h) <;> cases h <;> simp

theorem execEraseFailure_next (lun : Fin 4096) (block : Nat) (s : State) :
    ∀ nx, execEraseFailure lun block s = .next nx → nx.engines = s.engines ∧ nx.admin = s.admin ∧ nx.staing = s.staing ∧ nx.security = s.security ∧ nx.pending = s.pending ∧ nx.now = s.now ∧ nx.bootAt = s.bootAt ∧ nx.free = s.free ∧ nx.mem.dram = s.mem.dram := by
  intro nx h
  unfold execEraseFailure at h
  grind [state_eraseFails_frame, state_settleAll_frame]

theorem execSecureEraseDue_next (lun : Fin 4096) (block : Nat) (ok : Bool) (t : Nat) (s0 : State) :
    ∀ nx, execSecureEraseDue lun block ok t s0 = .next nx → nx.cells = s0.cells ∧ nx.power = s0.power ∧ nx.engines = s0.engines ∧ nx.admin = s0.admin ∧ nx.staing = s0.staing ∧ nx.security = s0.security ∧ nx.migration = s0.migration ∧ nx.pending = s0.pending ∧ nx.bootAt = s0.bootAt ∧ nx.free = s0.free ∧ nx.mem.dram = s0.mem.dram := by
  intro nx h
  unfold execSecureEraseDue at h
  dsimp only at h
  (repeat' split at h) <;> cases h <;> simp

theorem execMemberReplaced_next (stripe : Nat) (member : Nat) (s : State) :
    ∀ nx, execMemberReplaced stripe member s = .next nx → nx.mem = s.mem ∧ nx.engines = s.engines ∧ nx.admin = s.admin ∧ nx.staing = s.staing ∧ nx.security = s.security ∧ nx.pending = s.pending ∧ nx.now = s.now ∧ nx.bootAt = s.bootAt ∧ nx.free = s.free := by
  intro nx h
  unfold execMemberReplaced at h
  dsimp only at h
  (repeat' split at h) <;> cases h <;> simp

theorem execChannelRecentre_next (ch : Fin 64) (celsius : Int) (window : Nat) (s : State) :
    ∀ nx, execChannelRecentre ch celsius window s = .next nx → nx.modes = s.modes ∧ nx.cells = s.cells ∧ nx.host = s.host ∧ nx.sched = s.sched ∧ nx.store = s.store ∧ nx.power = s.power ∧ nx.mem = s.mem ∧ nx.cipher = s.cipher ∧ nx.engines = s.engines ∧ nx.admin = s.admin ∧ nx.staing = s.staing ∧ nx.security = s.security ∧ nx.migration = s.migration ∧ nx.pending = s.pending ∧ nx.now = s.now ∧ nx.bootAt = s.bootAt ∧ nx.free = s.free ∧ nx.out = s.out := by
  intro nx h
  unfold execChannelRecentre at h
  (repeat' split at h) <;> cases h <;> simp

theorem execReadAroundReconstruct_next (rd : Nat) (ok : Bool) (payloads : List Payload) (s : State) :
    ∀ nx, execReadAroundReconstruct rd ok payloads s = .next nx → nx.dict = s.dict ∧ nx.modes = s.modes ∧ nx.sampler = s.sampler ∧ nx.cells = s.cells ∧ nx.host = s.host ∧ nx.sched = s.sched ∧ nx.power = s.power ∧ nx.mem = s.mem ∧ nx.cipher = s.cipher ∧ nx.engines = s.engines ∧ nx.admin = s.admin ∧ nx.staing = s.staing ∧ nx.security = s.security ∧ nx.migration = s.migration ∧ nx.pending = s.pending ∧ nx.now = s.now ∧ nx.bootAt = s.bootAt ∧ nx.free = s.free ∧ nx.out = s.out := by
  intro nx h
  unfold execReadAroundReconstruct at h
  (repeat' split at h) <;> cases h <;> simp

theorem execCodewordDecode_next (rd : Nat) (cw : Fin 4) (e : DecodeEnd) (s0 : State) :
    ∀ nx, execCodewordDecode rd cw e s0 = .next nx → nx.engines = s0.engines ∧ nx.admin = s0.admin ∧ nx.staing = s0.staing ∧ nx.security = s0.security ∧ nx.pending = s0.pending ∧ nx.now = s0.now ∧ nx.bootAt = s0.bootAt ∧ nx.mem.dram = s0.mem.dram := by
  intro nx h
  unfold execCodewordDecode at h
  dsimp only at h
  (repeat' split at h) <;> cases h <;> simp

theorem execFullPassWrite_next (acc : Accessor) (on : Bool) (s : State) :
    ∀ nx, execFullPassWrite acc on s = .next nx → nx.cells = s.cells ∧ nx.host = s.host ∧ nx.sched = s.sched ∧ nx.flash = s.flash ∧ nx.store = s.store ∧ nx.power = s.power ∧ nx.cipher = s.cipher ∧ nx.engines = s.engines ∧ nx.admin = s.admin ∧ nx.staing = s.staing ∧ nx.security = s.security ∧ nx.migration = s.migration ∧ nx.pending = s.pending ∧ nx.now = s.now ∧ nx.bootAt = s.bootAt ∧ nx.free = s.free ∧ nx.out = s.out ∧ nx.mem.dram = s.mem.dram := by
  intro nx h
  unfold execFullPassWrite at h
  (repeat' split at h) <;> cases h <;> simp

theorem execRinseStep_next (lun : Fin 4096) (block : Nat) (failBits : List Nat) (leftStep1 : Bool) (t : Nat) (s0 : State) :
    ∀ nx, execRinseStep lun block failBits leftStep1 t s0 = .next nx → nx.cells = s0.cells ∧ nx.power = s0.power ∧ nx.engines = s0.engines ∧ nx.admin = s0.admin ∧ nx.staing = s0.staing ∧ nx.security = s0.security ∧ nx.migration = s0.migration ∧ nx.pending = s0.pending ∧ nx.bootAt = s0.bootAt ∧ nx.free = s0.free ∧ nx.mem.dram = s0.mem.dram := by
  intro nx h
  unfold execRinseStep at h
  dsimp only at h
  (repeat' split at h) <;> cases h <;> simp

theorem execDisturbCountReached_next (lun : Fin 4096) (block : Nat) (s : State) :
    ∀ nx, execDisturbCountReached lun block s = .next nx → nx.dict = s.dict ∧ nx.modes = s.modes ∧ nx.sampler = s.sampler ∧ nx.cells = s.cells ∧ nx.host = s.host ∧ nx.sched = s.sched ∧ nx.flash = s.flash ∧ nx.power = s.power ∧ nx.mem = s.mem ∧ nx.cipher = s.cipher ∧ nx.engines = s.engines ∧ nx.admin = s.admin ∧ nx.staing = s.staing ∧ nx.security = s.security ∧ nx.migration = s.migration ∧ nx.pending = s.pending ∧ nx.now = s.now ∧ nx.bootAt = s.bootAt ∧ nx.free = s.free ∧ nx.out = s.out := by
  intro nx h
  unfold execDisturbCountReached at h
  dsimp only at h
  (repeat' split at h) <;> cases h <;> simp

theorem execLogClear_next (acc : Accessor) (s : State) :
    ∀ nx, execLogClear acc s = .next nx → nx.dict = s.dict ∧ nx.modes = s.modes ∧ nx.sampler = s.sampler ∧ nx.cells = s.cells ∧ nx.host = s.host ∧ nx.sched = s.sched ∧ nx.flash = s.flash ∧ nx.store = s.store ∧ nx.power = s.power ∧ nx.cipher = s.cipher ∧ nx.engines = s.engines ∧ nx.admin = s.admin ∧ nx.staing = s.staing ∧ nx.security = s.security ∧ nx.migration = s.migration ∧ nx.pending = s.pending ∧ nx.now = s.now ∧ nx.bootAt = s.bootAt ∧ nx.free = s.free ∧ nx.out = s.out ∧ nx.mem.dram = s.mem.dram := by
  intro nx h
  unfold execLogClear at h
  (repeat' split at h) <;> cases h <;> simp

theorem execCipherLockClaim_next (k : Core) (id : LockId) (s : State) :
    ∀ nx, execCipherLockClaim k id s = .next nx → nx.dict = s.dict ∧ nx.modes = s.modes ∧ nx.sampler = s.sampler ∧ nx.cells = s.cells ∧ nx.host = s.host ∧ nx.sched = s.sched ∧ nx.flash = s.flash ∧ nx.store = s.store ∧ nx.power = s.power ∧ nx.mem = s.mem ∧ nx.engines = s.engines ∧ nx.admin = s.admin ∧ nx.staing = s.staing ∧ nx.security = s.security ∧ nx.migration = s.migration ∧ nx.pending = s.pending ∧ nx.now = s.now ∧ nx.bootAt = s.bootAt ∧ nx.free = s.free ∧ nx.out = s.out := by
  intro nx h
  unfold execCipherLockClaim at h
  (repeat' split at h) <;> cases h <;> simp

theorem execCipherRequestSteer_next (c : Fin 96) (id : LockId) (s : State) :
    ∀ nx, execCipherRequestSteer c id s = .next nx → nx.modes = s.modes ∧ nx.sampler = s.sampler ∧ nx.cells = s.cells ∧ nx.host = s.host ∧ nx.sched = s.sched ∧ nx.flash = s.flash ∧ nx.store = s.store ∧ nx.power = s.power ∧ nx.mem = s.mem ∧ nx.engines = s.engines ∧ nx.admin = s.admin ∧ nx.staing = s.staing ∧ nx.security = s.security ∧ nx.migration = s.migration ∧ nx.pending = s.pending ∧ nx.now = s.now ∧ nx.bootAt = s.bootAt ∧ nx.free = s.free ∧ nx.out = s.out := by
  intro nx h
  unfold execCipherRequestSteer at h
  (repeat' split at h) <;> cases h <;> simp

theorem execCipherMessageDone_next (k : Core) (rd : Option Nat) (tag : ComparePair) (s : State) :
    ∀ nx, execCipherMessageDone k rd tag s = .next nx → nx.modes = s.modes ∧ nx.mem = s.mem ∧ nx.engines = s.engines ∧ nx.staing = s.staing ∧ nx.security = s.security ∧ nx.pending = s.pending ∧ nx.now = s.now ∧ nx.bootAt = s.bootAt := by
  intro nx h
  unfold execCipherMessageDone at h
  dsimp only at h
  (repeat' split at h) <;> cases h <;> simp

theorem execMaskReseed_next (k : Core) (blocks : Nat) (reseeded : Bool) (s : State) :
    ∀ nx, execMaskReseed k blocks reseeded s = .next nx → nx.modes = s.modes ∧ nx.sched = s.sched ∧ nx.flash = s.flash ∧ nx.store = s.store ∧ nx.power = s.power ∧ nx.mem = s.mem ∧ nx.admin = s.admin ∧ nx.staing = s.staing ∧ nx.security = s.security ∧ nx.migration = s.migration ∧ nx.pending = s.pending ∧ nx.now = s.now ∧ nx.bootAt = s.bootAt ∧ nx.free = s.free ∧ nx.out = s.out ∧ nx.engines.windows = s.engines.windows := by
  intro nx h
  unfold execMaskReseed at h
  dsimp only at h
  (repeat' split at h) <;> cases h <;> simp

theorem execCounterReservationDurable_next (slot : Fin 4096) (s : State) :
    ∀ nx, execCounterReservationDurable slot s = .next nx → nx.modes = s.modes ∧ nx.mem = s.mem ∧ nx.engines = s.engines ∧ nx.admin = s.admin ∧ nx.staing = s.staing ∧ nx.security = s.security ∧ nx.pending = s.pending ∧ nx.now = s.now ∧ nx.bootAt = s.bootAt ∧ nx.free = s.free := by
  intro nx h
  unfold execCounterReservationDurable at h
  dsimp only at h
  (repeat' split at h) <;> injection h with h <;> subst h <;> simp

theorem execKeyCacheFill_next (c : Fin 96) (k : KeyRef) (firstOk : Bool) (secondOk : Bool) (s : State) :
    ∀ nx, execKeyCacheFill c k firstOk secondOk s = .next nx → nx.modes = s.modes ∧ nx.sched = s.sched ∧ nx.flash = s.flash ∧ nx.store = s.store ∧ nx.power = s.power ∧ nx.mem = s.mem ∧ nx.admin = s.admin ∧ nx.staing = s.staing ∧ nx.security = s.security ∧ nx.migration = s.migration ∧ nx.pending = s.pending ∧ nx.now = s.now ∧ nx.bootAt = s.bootAt ∧ nx.free = s.free ∧ nx.out = s.out ∧ nx.engines.windows = s.engines.windows := by
  intro nx h
  unfold execKeyCacheFill at h
  dsimp only at h
  (repeat' split at h) <;> cases h <;> simp

theorem execKeySlotReload_next (slot : Fin 4096) (copyReadable : Bool) (s : State) :
    ∀ nx, execKeySlotReload slot copyReadable s = .next nx → nx.modes = s.modes ∧ nx.cells = s.cells ∧ nx.host = s.host ∧ nx.sched = s.sched ∧ nx.flash = s.flash ∧ nx.store = s.store ∧ nx.power = s.power ∧ nx.mem = s.mem ∧ nx.engines = s.engines ∧ nx.admin = s.admin ∧ nx.staing = s.staing ∧ nx.security = s.security ∧ nx.migration = s.migration ∧ nx.pending = s.pending ∧ nx.now = s.now ∧ nx.bootAt = s.bootAt ∧ nx.free = s.free ∧ nx.out = s.out := by
  intro nx h
  unfold execKeySlotReload at h
  dsimp only at h
  (repeat' split at h) <;> cases h <;> simp

theorem execKeyEraseDue_next (slot : Fin 4096) (t : Nat) (s0 : State) :
    ∀ nx, execKeyEraseDue slot t s0 = .next nx → nx.dict = s0.dict ∧ nx.modes = s0.modes ∧ nx.sampler = s0.sampler ∧ nx.cells = s0.cells ∧ nx.host = s0.host ∧ nx.sched = s0.sched ∧ nx.flash = s0.flash ∧ nx.power = s0.power ∧ nx.mem = s0.mem ∧ nx.engines = s0.engines ∧ nx.admin = s0.admin ∧ nx.staing = s0.staing ∧ nx.security = s0.security ∧ nx.migration = s0.migration ∧ nx.pending = s0.pending ∧ nx.bootAt = s0.bootAt ∧ nx.free = s0.free ∧ nx.out = s0.out := by
  intro nx h
  unfold execKeyEraseDue at h
  dsimp only at h
  (repeat' split at h) <;> cases h <;> simp

theorem execDestroyTransportKek_next (h : Hdr) (index : Nat) (s : State) :
    ∀ nx, execDestroyTransportKek h index s = .next nx → nx.modes = s.modes ∧ nx.sampler = s.sampler ∧ nx.cells = s.cells ∧ nx.sched = s.sched ∧ nx.flash = s.flash ∧ nx.store = s.store ∧ nx.power = s.power ∧ nx.mem = s.mem ∧ nx.engines = s.engines ∧ nx.admin = s.admin ∧ nx.staing = s.staing ∧ nx.security = s.security ∧ nx.migration = s.migration ∧ nx.pending = s.pending ∧ nx.now = s.now ∧ nx.bootAt = s.bootAt ∧ nx.free = s.free ∧ nx.out = s.out := by
  intro nx h
  unfold execDestroyTransportKek at h
  try unfold State.setFeature at h
  try unfold State.sanRun at h
  try unfold State.keyRun at h
  try unfold State.secRun at h
  try unfold State.managerRun at h
  try unfold State.sanStart at h
  try unfold State.fwStart at h
  try unfold State.keyStart at h
  try unfold State.runData at h
  try unfold State.startAdmin at h
  cases h
  refine run_ind (P := fun nx => nx.modes = s.modes ∧ nx.sampler = s.sampler ∧ nx.cells = s.cells ∧ nx.sched = s.sched ∧ nx.flash = s.flash ∧ nx.store = s.store ∧ nx.power = s.power ∧ nx.mem = s.mem ∧ nx.engines = s.engines ∧ nx.admin = s.admin ∧ nx.staing = s.staing ∧ nx.security = s.security ∧ nx.migration = s.migration ∧ nx.pending = s.pending ∧ nx.now = s.now ∧ nx.bootAt = s.bootAt ∧ nx.free = s.free ∧ nx.out = s.out) ?_ ?_ ?_
  · simp
  · intro a c hb
    simp [state_begin_some _ _ _ hb]
  · intro a hb
    have hf := state_begin_some _ _ _ hb
    dsimp only
    (repeat' split) <;> simp [hf, refuse]

theorem execKeyPerIoClear_next (h : Hdr) (nsid : Nat) (tag : Nat) (s : State) :
    ∀ nx, execKeyPerIoClear h nsid tag s = .next nx → nx.modes = s.modes ∧ nx.sampler = s.sampler ∧ nx.sched = s.sched ∧ nx.flash = s.flash ∧ nx.store = s.store ∧ nx.power = s.power ∧ nx.mem = s.mem ∧ nx.engines = s.engines ∧ nx.admin = s.admin ∧ nx.staing = s.staing ∧ nx.security = s.security ∧ nx.migration = s.migration ∧ nx.pending = s.pending ∧ nx.now = s.now ∧ nx.bootAt = s.bootAt ∧ nx.free = s.free ∧ nx.out = s.out := by
  intro nx h
  unfold execKeyPerIoClear at h
  try unfold State.setFeature at h
  try unfold State.sanRun at h
  try unfold State.keyRun at h
  try unfold State.secRun at h
  try unfold State.managerRun at h
  try unfold State.sanStart at h
  try unfold State.fwStart at h
  try unfold State.keyStart at h
  try unfold State.runData at h
  try unfold State.startAdmin at h
  cases h
  refine startWith_ind (P := fun nx => nx.modes = s.modes ∧ nx.sampler = s.sampler ∧ nx.sched = s.sched ∧ nx.flash = s.flash ∧ nx.store = s.store ∧ nx.power = s.power ∧ nx.mem = s.mem ∧ nx.engines = s.engines ∧ nx.admin = s.admin ∧ nx.staing = s.staing ∧ nx.security = s.security ∧ nx.migration = s.migration ∧ nx.pending = s.pending ∧ nx.now = s.now ∧ nx.bootAt = s.bootAt ∧ nx.free = s.free ∧ nx.out = s.out) ?_ ?_ ?_
  · simp
  · intro a c hb
    simp [state_begin_some _ _ _ hb]
  · intro a hb
    have hf := state_begin_some _ _ _ hb
    dsimp only
    (repeat' split) <;> simp [hf, refuse]

theorem execValidBitGranuleFill_next (s : State) :
    ∀ nx, execValidBitGranuleFill s = .next nx → nx.cells = s.cells ∧ nx.host = s.host ∧ nx.sched = s.sched ∧ nx.flash = s.flash ∧ nx.store = s.store ∧ nx.power = s.power ∧ nx.cipher = s.cipher ∧ nx.engines = s.engines ∧ nx.admin = s.admin ∧ nx.staing = s.staing ∧ nx.security = s.security ∧ nx.migration = s.migration ∧ nx.pending = s.pending ∧ nx.now = s.now ∧ nx.bootAt = s.bootAt ∧ nx.free = s.free ∧ nx.out = s.out ∧ nx.mem.dram = s.mem.dram := by
  intro nx h
  unfold execValidBitGranuleFill at h
  (repeat' split at h) <;> cases h <;> simp

theorem execDramRequest_next (op : DramOp) (errs : DramErrors) (s : State) :
    ∀ nx, execDramRequest op errs s = .next nx → nx.cells = s.cells ∧ nx.host = s.host ∧ nx.sched = s.sched ∧ nx.flash = s.flash ∧ nx.store = s.store ∧ nx.power = s.power ∧ nx.cipher = s.cipher ∧ nx.engines = s.engines ∧ nx.admin = s.admin ∧ nx.staing = s.staing ∧ nx.security = s.security ∧ nx.migration = s.migration ∧ nx.pending = s.pending ∧ nx.now = s.now ∧ nx.bootAt = s.bootAt ∧ nx.free = s.free ∧ nx.out = s.out := by
  intro nx h
  unfold execDramRequest at h
  (repeat' split at h) <;> cases h <;> simp

theorem execDramPatrol_next (ch : Fin 4) (address : Nat) (errs : DramErrors) (s : State) :
    ∀ nx, execDramPatrol ch address errs s = .next nx → nx.modes = s.modes ∧ nx.cells = s.cells ∧ nx.host = s.host ∧ nx.sched = s.sched ∧ nx.flash = s.flash ∧ nx.store = s.store ∧ nx.power = s.power ∧ nx.cipher = s.cipher ∧ nx.engines = s.engines ∧ nx.admin = s.admin ∧ nx.staing = s.staing ∧ nx.security = s.security ∧ nx.migration = s.migration ∧ nx.pending = s.pending ∧ nx.now = s.now ∧ nx.bootAt = s.bootAt ∧ nx.free = s.free ∧ nx.out = s.out ∧ nx.mem.dram = s.mem.dram := by
  intro nx h
  unfold execDramPatrol at h
  (repeat' split at h) <;> cases h <;> simp

theorem execDramRecentre_next (ch : Fin 4) (rank : Fin 4) (celsius : Int) (window : Nat) (retrainOk : Bool) (t : Nat) (s : State) :
    ∀ nx, execDramRecentre ch rank celsius window retrainOk t s = .next nx → nx.cells = s.cells ∧ nx.cipher = s.cipher ∧ nx.staing = s.staing ∧ nx.security = s.security ∧ nx.pending = s.pending ∧ nx.bootAt = s.bootAt ∧ nx.free = s.free ∧ nx.out = s.out ∧ nx.mem.dram = s.mem.dram := by
  intro nx h
  unfold execDramRecentre at h
  dsimp only at h
  (repeat' split at h) <;> injection h with h <;> subst h <;> simp

theorem execRefreshDue_next (ch : Fin 4) (rank : Fin 4) (t : Nat) (s : State) :
    ∀ nx, execRefreshDue ch rank t s = .next nx → nx.modes = s.modes ∧ nx.sampler = s.sampler ∧ nx.cells = s.cells ∧ nx.host = s.host ∧ nx.sched = s.sched ∧ nx.flash = s.flash ∧ nx.power = s.power ∧ nx.cipher = s.cipher ∧ nx.engines = s.engines ∧ nx.admin = s.admin ∧ nx.staing = s.staing ∧ nx.security = s.security ∧ nx.migration = s.migration ∧ nx.pending = s.pending ∧ nx.bootAt = s.bootAt ∧ nx.out = s.out ∧ nx.mem.dram = s.mem.dram := by
  intro nx h
  unfold execRefreshDue at h
  dsimp only at h
  (repeat' split at h) <;> cases h <;> simp

theorem execRefreshPostponeLimit_next (ch : Fin 4) (rank : Fin 4) (t : Nat) (s : State) :
    ∀ nx, execRefreshPostponeLimit ch rank t s = .next nx → nx.modes = s.modes ∧ nx.sampler = s.sampler ∧ nx.cells = s.cells ∧ nx.host = s.host ∧ nx.sched = s.sched ∧ nx.flash = s.flash ∧ nx.power = s.power ∧ nx.cipher = s.cipher ∧ nx.engines = s.engines ∧ nx.admin = s.admin ∧ nx.staing = s.staing ∧ nx.security = s.security ∧ nx.migration = s.migration ∧ nx.pending = s.pending ∧ nx.bootAt = s.bootAt ∧ nx.free = s.free ∧ nx.out = s.out ∧ nx.mem.dram = s.mem.dram := by
  intro nx h
  unfold execRefreshPostponeLimit at h
  dsimp only at h
  (repeat' split at h) <;> cases h <;> simp

theorem execMr4Poll_next (ch : Fin 4) (hot : Bool) (s : State) :
    ∀ nx, execMr4Poll ch hot s = .next nx → nx.dict = s.dict ∧ nx.modes = s.modes ∧ nx.sampler = s.sampler ∧ nx.cells = s.cells ∧ nx.host = s.host ∧ nx.sched = s.sched ∧ nx.flash = s.flash ∧ nx.store = s.store ∧ nx.power = s.power ∧ nx.cipher = s.cipher ∧ nx.engines = s.engines ∧ nx.admin = s.admin ∧ nx.staing = s.staing ∧ nx.security = s.security ∧ nx.migration = s.migration ∧ nx.pending = s.pending ∧ nx.now = s.now ∧ nx.bootAt = s.bootAt ∧ nx.free = s.free ∧ nx.out = s.out ∧ nx.mem.dram = s.mem.dram := by
  intro nx h
  unfold execMr4Poll at h
  cases h
  simp

theorem execAbort_next (h : Hdr) (sqid : Nat) (cid : Nat) (s : State) :
    ∀ nx, execAbort h sqid cid s = .next nx → nx.dict = s.dict ∧ nx.modes = s.modes ∧ nx.sampler = s.sampler ∧ nx.cells = s.cells ∧ nx.sched = s.sched ∧ nx.flash = s.flash ∧ nx.store = s.store ∧ nx.power = s.power ∧ nx.mem = s.mem ∧ nx.engines = s.engines ∧ nx.admin = s.admin ∧ nx.staing = s.staing ∧ nx.security = s.security ∧ nx.migration = s.migration ∧ nx.pending = s.pending ∧ nx.now = s.now ∧ nx.bootAt = s.bootAt ∧ nx.free = s.free ∧ nx.out = s.out := by
  intro nx h
  unfold execAbort at h
  try unfold State.setFeature at h
  try unfold State.sanRun at h
  try unfold State.keyRun at h
  try unfold State.secRun at h
  try unfold State.managerRun at h
  try unfold State.sanStart at h
  try unfold State.fwStart at h
  try unfold State.keyStart at h
  try unfold State.runData at h
  try unfold State.startAdmin at h
  cases h
  refine run_ind (P := fun nx => nx.dict = s.dict ∧ nx.modes = s.modes ∧ nx.sampler = s.sampler ∧ nx.cells = s.cells ∧ nx.sched = s.sched ∧ nx.flash = s.flash ∧ nx.store = s.store ∧ nx.power = s.power ∧ nx.mem = s.mem ∧ nx.engines = s.engines ∧ nx.admin = s.admin ∧ nx.staing = s.staing ∧ nx.security = s.security ∧ nx.migration = s.migration ∧ nx.pending = s.pending ∧ nx.now = s.now ∧ nx.bootAt = s.bootAt ∧ nx.free = s.free ∧ nx.out = s.out) ?_ ?_ ?_
  · simp
  · intro a c hb
    simp [state_begin_some _ _ _ hb]
  · intro a hb
    have hf := state_begin_some _ _ _ hb
    dsimp only
    (repeat' split) <;> simp [hf, refuse]

theorem execAsynchronousEventRequest_next (h : Hdr) (s : State) :
    ∀ nx, execAsynchronousEventRequest h s = .next nx → nx.dict = s.dict ∧ nx.modes = s.modes ∧ nx.sampler = s.sampler ∧ nx.cells = s.cells ∧ nx.sched = s.sched ∧ nx.flash = s.flash ∧ nx.store = s.store ∧ nx.power = s.power ∧ nx.mem = s.mem ∧ nx.cipher = s.cipher ∧ nx.engines = s.engines ∧ nx.admin = s.admin ∧ nx.staing = s.staing ∧ nx.security = s.security ∧ nx.migration = s.migration ∧ nx.pending = s.pending ∧ nx.now = s.now ∧ nx.bootAt = s.bootAt ∧ nx.free = s.free ∧ nx.out = s.out := by
  intro nx h
  unfold execAsynchronousEventRequest at h
  try unfold State.setFeature at h
  try unfold State.sanRun at h
  try unfold State.keyRun at h
  try unfold State.secRun at h
  try unfold State.managerRun at h
  try unfold State.sanStart at h
  try unfold State.fwStart at h
  try unfold State.keyStart at h
  try unfold State.runData at h
  try unfold State.startAdmin at h
  cases h
  refine startWith_ind (P := fun nx => nx.dict = s.dict ∧ nx.modes = s.modes ∧ nx.sampler = s.sampler ∧ nx.cells = s.cells ∧ nx.sched = s.sched ∧ nx.flash = s.flash ∧ nx.store = s.store ∧ nx.power = s.power ∧ nx.mem = s.mem ∧ nx.cipher = s.cipher ∧ nx.engines = s.engines ∧ nx.admin = s.admin ∧ nx.staing = s.staing ∧ nx.security = s.security ∧ nx.migration = s.migration ∧ nx.pending = s.pending ∧ nx.now = s.now ∧ nx.bootAt = s.bootAt ∧ nx.free = s.free ∧ nx.out = s.out) ?_ ?_ ?_
  · simp
  · intro a c hb
    simp [state_begin_some _ _ _ hb]
  · intro a hb
    have hf := state_begin_some _ _ _ hb
    dsimp only
    (repeat' split) <;> simp [hf, refuse]

theorem execSetArbitration_next (h : Hdr) (sv : Bool) (burst : Nat) (lpw : Nat) (mpw : Nat) (hpw : Nat) (s : State) :
    ∀ nx, execSetArbitration h sv burst lpw mpw hpw s = .next nx → nx.modes = s.modes ∧ nx.sampler = s.sampler ∧ nx.cells = s.cells ∧ nx.sched = s.sched ∧ nx.flash = s.flash ∧ nx.store = s.store ∧ nx.power = s.power ∧ nx.mem = s.mem ∧ nx.cipher = s.cipher ∧ nx.engines = s.engines ∧ nx.admin = s.admin ∧ nx.staing = s.staing ∧ nx.security = s.security ∧ nx.migration = s.migration ∧ nx.pending = s.pending ∧ nx.now = s.now ∧ nx.bootAt = s.bootAt ∧ nx.free = s.free ∧ nx.out = s.out := by
  intro nx h
  unfold execSetArbitration at h
  try unfold State.setFeature at h
  try unfold State.sanRun at h
  try unfold State.keyRun at h
  try unfold State.secRun at h
  try unfold State.managerRun at h
  try unfold State.sanStart at h
  try unfold State.fwStart at h
  try unfold State.keyStart at h
  try unfold State.runData at h
  try unfold State.startAdmin at h
  cases h
  refine run_ind (P := fun nx => nx.modes = s.modes ∧ nx.sampler = s.sampler ∧ nx.cells = s.cells ∧ nx.sched = s.sched ∧ nx.flash = s.flash ∧ nx.store = s.store ∧ nx.power = s.power ∧ nx.mem = s.mem ∧ nx.cipher = s.cipher ∧ nx.engines = s.engines ∧ nx.admin = s.admin ∧ nx.staing = s.staing ∧ nx.security = s.security ∧ nx.migration = s.migration ∧ nx.pending = s.pending ∧ nx.now = s.now ∧ nx.bootAt = s.bootAt ∧ nx.free = s.free ∧ nx.out = s.out) ?_ ?_ ?_
  · simp
  · intro a c hb
    simp [state_begin_some _ _ _ hb]
  · intro a hb
    have hf := state_begin_some _ _ _ hb
    dsimp only
    (repeat' split) <;> simp [hf, refuse]

theorem execSetPowerManagement_next (h : Hdr) (sv : Bool) (ps : Nat) (wh : Nat) (s : State) :
    ∀ nx, execSetPowerManagement h sv ps wh s = .next nx → nx.modes = s.modes ∧ nx.cells = s.cells ∧ nx.sched = s.sched ∧ nx.flash = s.flash ∧ nx.store = s.store ∧ nx.mem = s.mem ∧ nx.cipher = s.cipher ∧ nx.engines = s.engines ∧ nx.admin = s.admin ∧ nx.staing = s.staing ∧ nx.security = s.security ∧ nx.migration = s.migration ∧ nx.pending = s.pending ∧ nx.now = s.now ∧ nx.bootAt = s.bootAt ∧ nx.free = s.free ∧ nx.out = s.out := by
  intro nx h
  unfold execSetPowerManagement at h
  try unfold State.setFeature at h
  try unfold State.sanRun at h
  try unfold State.keyRun at h
  try unfold State.secRun at h
  try unfold State.managerRun at h
  try unfold State.sanStart at h
  try unfold State.fwStart at h
  try unfold State.keyStart at h
  try unfold State.runData at h
  try unfold State.startAdmin at h
  cases h
  refine run_ind (P := fun nx => nx.modes = s.modes ∧ nx.cells = s.cells ∧ nx.sched = s.sched ∧ nx.flash = s.flash ∧ nx.store = s.store ∧ nx.mem = s.mem ∧ nx.cipher = s.cipher ∧ nx.engines = s.engines ∧ nx.admin = s.admin ∧ nx.staing = s.staing ∧ nx.security = s.security ∧ nx.migration = s.migration ∧ nx.pending = s.pending ∧ nx.now = s.now ∧ nx.bootAt = s.bootAt ∧ nx.free = s.free ∧ nx.out = s.out) ?_ ?_ ?_
  · simp
  · intro a c hb
    simp [state_begin_some _ _ _ hb]
  · intro a hb
    have hf := state_begin_some _ _ _ hb
    dsimp only
    (repeat' split) <;> simp [hf, refuse]

theorem execSetTemperatureThreshold_next (h : Hdr) (sv : Bool) (under : Bool) (kelvin : Nat) (s : State) :
    ∀ nx, execSetTemperatureThreshold h sv under kelvin s = .next nx → nx.modes = s.modes ∧ nx.sampler = s.sampler ∧ nx.cells = s.cells ∧ nx.sched = s.sched ∧ nx.flash = s.flash ∧ nx.store = s.store ∧ nx.power = s.power ∧ nx.mem = s.mem ∧ nx.cipher = s.cipher ∧ nx.engines = s.engines ∧ nx.admin = s.admin ∧ nx.staing = s.staing ∧ nx.security = s.security ∧ nx.migration = s.migration ∧ nx.pending = s.pending ∧ nx.now = s.now ∧ nx.bootAt = s.bootAt ∧ nx.free = s.free ∧ nx.out = s.out := by
  intro nx h
  unfold execSetTemperatureThreshold at h
  try unfold State.setFeature at h
  try unfold State.sanRun at h
  try unfold State.keyRun at h
  try unfold State.secRun at h
  try unfold State.managerRun at h
  try unfold State.sanStart at h
  try unfold State.fwStart at h
  try unfold State.keyStart at h
  try unfold State.runData at h
  try unfold State.startAdmin at h
  cases h
  refine run_ind (P := fun nx => nx.modes = s.modes ∧ nx.sampler = s.sampler ∧ nx.cells = s.cells ∧ nx.sched = s.sched ∧ nx.flash = s.flash ∧ nx.store = s.store ∧ nx.power = s.power ∧ nx.mem = s.mem ∧ nx.cipher = s.cipher ∧ nx.engines = s.engines ∧ nx.admin = s.admin ∧ nx.staing = s.staing ∧ nx.security = s.security ∧ nx.migration = s.migration ∧ nx.pending = s.pending ∧ nx.now = s.now ∧ nx.bootAt = s.bootAt ∧ nx.free = s.free ∧ nx.out = s.out) ?_ ?_ ?_
  · simp
  · intro a c hb
    simp [state_begin_some _ _ _ hb]
  · intro a hb
    have hf := state_begin_some _ _ _ hb
    dsimp only
    (repeat' split) <;> simp [hf, refuse]

theorem execSetErrorRecovery_next (h : Hdr) (sv : Bool) (tler : Nat) (dulbe : Bool) (s : State) :
    ∀ nx, execSetErrorRecovery h sv tler dulbe s = .next nx → nx.modes = s.modes ∧ nx.sampler = s.sampler ∧ nx.cells = s.cells ∧ nx.sched = s.sched ∧ nx.flash = s.flash ∧ nx.store = s.store ∧ nx.power = s.power ∧ nx.mem = s.mem ∧ nx.cipher = s.cipher ∧ nx.engines = s.engines ∧ nx.admin = s.admin ∧ nx.staing = s.staing ∧ nx.security = s.security ∧ nx.migration = s.migration ∧ nx.pending = s.pending ∧ nx.now = s.now ∧ nx.bootAt = s.bootAt ∧ nx.free = s.free ∧ nx.out = s.out := by
  intro nx h
  unfold execSetErrorRecovery at h
  try unfold State.setFeature at h
  try unfold State.sanRun at h
  try unfold State.keyRun at h
  try unfold State.secRun at h
  try unfold State.managerRun at h
  try unfold State.sanStart at h
  try unfold State.fwStart at h
  try unfold State.keyStart at h
  try unfold State.runData at h
  try unfold State.startAdmin at h
  cases h
  refine run_ind (P := fun nx => nx.modes = s.modes ∧ nx.sampler = s.sampler ∧ nx.cells = s.cells ∧ nx.sched = s.sched ∧ nx.flash = s.flash ∧ nx.store = s.store ∧ nx.power = s.power ∧ nx.mem = s.mem ∧ nx.cipher = s.cipher ∧ nx.engines = s.engines ∧ nx.admin = s.admin ∧ nx.staing = s.staing ∧ nx.security = s.security ∧ nx.migration = s.migration ∧ nx.pending = s.pending ∧ nx.now = s.now ∧ nx.bootAt = s.bootAt ∧ nx.free = s.free ∧ nx.out = s.out) ?_ ?_ ?_
  · simp
  · intro a c hb
    simp [state_begin_some _ _ _ hb]
  · intro a hb
    have hf := state_begin_some _ _ _ hb
    dsimp only
    (repeat' split) <;> simp [hf, refuse]

theorem execSetVolatileWriteCache_next (h : Hdr) (sv : Bool) (wce : Bool) (s : State) :
    ∀ nx, execSetVolatileWriteCache h sv wce s = .next nx → nx.modes = s.modes ∧ nx.sampler = s.sampler ∧ nx.cells = s.cells ∧ nx.sched = s.sched ∧ nx.flash = s.flash ∧ nx.store = s.store ∧ nx.power = s.power ∧ nx.mem = s.mem ∧ nx.cipher = s.cipher ∧ nx.engines = s.engines ∧ nx.admin = s.admin ∧ nx.staing = s.staing ∧ nx.security = s.security ∧ nx.migration = s.migration ∧ nx.pending = s.pending ∧ nx.now = s.now ∧ nx.bootAt = s.bootAt ∧ nx.free = s.free ∧ nx.out = s.out := by
  intro nx h
  unfold execSetVolatileWriteCache at h
  try unfold State.setFeature at h
  try unfold State.sanRun at h
  try unfold State.keyRun at h
  try unfold State.secRun at h
  try unfold State.managerRun at h
  try unfold State.sanStart at h
  try unfold State.fwStart at h
  try unfold State.keyStart at h
  try unfold State.runData at h
  try unfold State.startAdmin at h
  cases h
  refine run_ind (P := fun nx => nx.modes = s.modes ∧ nx.sampler = s.sampler ∧ nx.cells = s.cells ∧ nx.sched = s.sched ∧ nx.flash = s.flash ∧ nx.store = s.store ∧ nx.power = s.power ∧ nx.mem = s.mem ∧ nx.cipher = s.cipher ∧ nx.engines = s.engines ∧ nx.admin = s.admin ∧ nx.staing = s.staing ∧ nx.security = s.security ∧ nx.migration = s.migration ∧ nx.pending = s.pending ∧ nx.now = s.now ∧ nx.bootAt = s.bootAt ∧ nx.free = s.free ∧ nx.out = s.out) ?_ ?_ ?_
  · simp
  · intro a c hb
    simp [state_begin_some _ _ _ hb]
  · intro a hb
    have hf := state_begin_some _ _ _ hb
    dsimp only
    (repeat' split) <;> simp [hf, refuse]

theorem execSetInterruptCoalescing_next (h : Hdr) (sv : Bool) (dw11 : Nat) (s : State) :
    ∀ nx, execSetInterruptCoalescing h sv dw11 s = .next nx → nx.modes = s.modes ∧ nx.sampler = s.sampler ∧ nx.cells = s.cells ∧ nx.sched = s.sched ∧ nx.flash = s.flash ∧ nx.store = s.store ∧ nx.power = s.power ∧ nx.mem = s.mem ∧ nx.cipher = s.cipher ∧ nx.engines = s.engines ∧ nx.admin = s.admin ∧ nx.staing = s.staing ∧ nx.security = s.security ∧ nx.migration = s.migration ∧ nx.pending = s.pending ∧ nx.now = s.now ∧ nx.bootAt = s.bootAt ∧ nx.free = s.free ∧ nx.out = s.out := by
  intro nx h
  unfold execSetInterruptCoalescing at h
  try unfold State.setFeature at h
  try unfold State.sanRun at h
  try unfold State.keyRun at h
  try unfold State.secRun at h
  try unfold State.managerRun at h
  try unfold State.sanStart at h
  try unfold State.fwStart at h
  try unfold State.keyStart at h
  try unfold State.runData at h
  try unfold State.startAdmin at h
  cases h
  refine run_ind (P := fun nx => nx.modes = s.modes ∧ nx.sampler = s.sampler ∧ nx.cells = s.cells ∧ nx.sched = s.sched ∧ nx.flash = s.flash ∧ nx.store = s.store ∧ nx.power = s.power ∧ nx.mem = s.mem ∧ nx.cipher = s.cipher ∧ nx.engines = s.engines ∧ nx.admin = s.admin ∧ nx.staing = s.staing ∧ nx.security = s.security ∧ nx.migration = s.migration ∧ nx.pending = s.pending ∧ nx.now = s.now ∧ nx.bootAt = s.bootAt ∧ nx.free = s.free ∧ nx.out = s.out) ?_ ?_ ?_
  · simp
  · intro a c hb
    simp [state_begin_some _ _ _ hb]
  · intro a hb
    have hf := state_begin_some _ _ _ hb
    dsimp only
    (repeat' split) <;> simp [hf, refuse]

theorem execSetInterruptVectorConfiguration_next (h : Hdr) (sv : Bool) (iv : Nat) (cd : Bool) (s : State) :
    ∀ nx, execSetInterruptVectorConfiguration h sv iv cd s = .next nx → nx.modes = s.modes ∧ nx.sampler = s.sampler ∧ nx.cells = s.cells ∧ nx.sched = s.sched ∧ nx.flash = s.flash ∧ nx.store = s.store ∧ nx.power = s.power ∧ nx.mem = s.mem ∧ nx.cipher = s.cipher ∧ nx.engines = s.engines ∧ nx.admin = s.admin ∧ nx.staing = s.staing ∧ nx.security = s.security ∧ nx.migration = s.migration ∧ nx.pending = s.pending ∧ nx.now = s.now ∧ nx.bootAt = s.bootAt ∧ nx.free = s.free ∧ nx.out = s.out := by
  intro nx h
  unfold execSetInterruptVectorConfiguration at h
  try unfold State.setFeature at h
  try unfold State.sanRun at h
  try unfold State.keyRun at h
  try unfold State.secRun at h
  try unfold State.managerRun at h
  try unfold State.sanStart at h
  try unfold State.fwStart at h
  try unfold State.keyStart at h
  try unfold State.runData at h
  try unfold State.startAdmin at h
  cases h
  refine run_ind (P := fun nx => nx.modes = s.modes ∧ nx.sampler = s.sampler ∧ nx.cells = s.cells ∧ nx.sched = s.sched ∧ nx.flash = s.flash ∧ nx.store = s.store ∧ nx.power = s.power ∧ nx.mem = s.mem ∧ nx.cipher = s.cipher ∧ nx.engines = s.engines ∧ nx.admin = s.admin ∧ nx.staing = s.staing ∧ nx.security = s.security ∧ nx.migration = s.migration ∧ nx.pending = s.pending ∧ nx.now = s.now ∧ nx.bootAt = s.bootAt ∧ nx.free = s.free ∧ nx.out = s.out) ?_ ?_ ?_
  · simp
  · intro a c hb
    simp [state_begin_some _ _ _ hb]
  · intro a hb
    have hf := state_begin_some _ _ _ hb
    dsimp only
    (repeat' split) <;> simp [hf, refuse]

theorem execSetWriteAtomicityNormal_next (h : Hdr) (sv : Bool) (dn : Bool) (s : State) :
    ∀ nx, execSetWriteAtomicityNormal h sv dn s = .next nx → nx.modes = s.modes ∧ nx.sampler = s.sampler ∧ nx.cells = s.cells ∧ nx.sched = s.sched ∧ nx.flash = s.flash ∧ nx.store = s.store ∧ nx.power = s.power ∧ nx.mem = s.mem ∧ nx.cipher = s.cipher ∧ nx.engines = s.engines ∧ nx.admin = s.admin ∧ nx.staing = s.staing ∧ nx.security = s.security ∧ nx.migration = s.migration ∧ nx.pending = s.pending ∧ nx.now = s.now ∧ nx.bootAt = s.bootAt ∧ nx.free = s.free ∧ nx.out = s.out := by
  intro nx h
  unfold execSetWriteAtomicityNormal at h
  try unfold State.setFeature at h
  try unfold State.sanRun at h
  try unfold State.keyRun at h
  try unfold State.secRun at h
  try unfold State.managerRun at h
  try unfold State.sanStart at h
  try unfold State.fwStart at h
  try unfold State.keyStart at h
  try unfold State.runData at h
  try unfold State.startAdmin at h
  cases h
  refine run_ind (P := fun nx => nx.modes = s.modes ∧ nx.sampler = s.sampler ∧ nx.cells = s.cells ∧ nx.sched = s.sched ∧ nx.flash = s.flash ∧ nx.store = s.store ∧ nx.power = s.power ∧ nx.mem = s.mem ∧ nx.cipher = s.cipher ∧ nx.engines = s.engines ∧ nx.admin = s.admin ∧ nx.staing = s.staing ∧ nx.security = s.security ∧ nx.migration = s.migration ∧ nx.pending = s.pending ∧ nx.now = s.now ∧ nx.bootAt = s.bootAt ∧ nx.free = s.free ∧ nx.out = s.out) ?_ ?_ ?_
  · simp
  · intro a c hb
    simp [state_begin_some _ _ _ hb]
  · intro a hb
    have hf := state_begin_some _ _ _ hb
    dsimp only
    (repeat' split) <;> simp [hf, refuse]

theorem execSetAsyncEventConfiguration_next (h : Hdr) (sv : Bool) (dw11 : Nat) (s : State) :
    ∀ nx, execSetAsyncEventConfiguration h sv dw11 s = .next nx → nx.modes = s.modes ∧ nx.sampler = s.sampler ∧ nx.cells = s.cells ∧ nx.sched = s.sched ∧ nx.flash = s.flash ∧ nx.store = s.store ∧ nx.power = s.power ∧ nx.mem = s.mem ∧ nx.cipher = s.cipher ∧ nx.engines = s.engines ∧ nx.admin = s.admin ∧ nx.staing = s.staing ∧ nx.security = s.security ∧ nx.migration = s.migration ∧ nx.pending = s.pending ∧ nx.now = s.now ∧ nx.bootAt = s.bootAt ∧ nx.free = s.free ∧ nx.out = s.out := by
  intro nx h
  unfold execSetAsyncEventConfiguration at h
  try unfold State.setFeature at h
  try unfold State.sanRun at h
  try unfold State.keyRun at h
  try unfold State.secRun at h
  try unfold State.managerRun at h
  try unfold State.sanStart at h
  try unfold State.fwStart at h
  try unfold State.keyStart at h
  try unfold State.runData at h
  try unfold State.startAdmin at h
  cases h
  refine run_ind (P := fun nx => nx.modes = s.modes ∧ nx.sampler = s.sampler ∧ nx.cells = s.cells ∧ nx.sched = s.sched ∧ nx.flash = s.flash ∧ nx.store = s.store ∧ nx.power = s.power ∧ nx.mem = s.mem ∧ nx.cipher = s.cipher ∧ nx.engines = s.engines ∧ nx.admin = s.admin ∧ nx.staing = s.staing ∧ nx.security = s.security ∧ nx.migration = s.migration ∧ nx.pending = s.pending ∧ nx.now = s.now ∧ nx.bootAt = s.bootAt ∧ nx.free = s.free ∧ nx.out = s.out) ?_ ?_ ?_
  · simp
  · intro a c hb
    simp [state_begin_some _ _ _ hb]
  · intro a hb
    have hf := state_begin_some _ _ _ hb
    dsimp only
    (repeat' split) <;> simp [hf, refuse]

theorem execSetAutonomousPowerStateTransition_next (h : Hdr) (sv : Bool) (enable : Bool) (table : List (Nat × Nat)) (s : State) :
    ∀ nx, execSetAutonomousPowerStateTransition h sv enable table s = .next nx → nx.modes = s.modes ∧ nx.sampler = s.sampler ∧ nx.cells = s.cells ∧ nx.sched = s.sched ∧ nx.flash = s.flash ∧ nx.store = s.store ∧ nx.power = s.power ∧ nx.mem = s.mem ∧ nx.cipher = s.cipher ∧ nx.engines = s.engines ∧ nx.admin = s.admin ∧ nx.staing = s.staing ∧ nx.security = s.security ∧ nx.migration = s.migration ∧ nx.pending = s.pending ∧ nx.now = s.now ∧ nx.bootAt = s.bootAt ∧ nx.free = s.free ∧ nx.out = s.out := by
  intro nx h
  unfold execSetAutonomousPowerStateTransition at h
  try unfold State.setFeature at h
  try unfold State.sanRun at h
  try unfold State.keyRun at h
  try unfold State.secRun at h
  try unfold State.managerRun at h
  try unfold State.sanStart at h
  try unfold State.fwStart at h
  try unfold State.keyStart at h
  try unfold State.runData at h
  try unfold State.startAdmin at h
  cases h
  refine run_ind (P := fun nx => nx.modes = s.modes ∧ nx.sampler = s.sampler ∧ nx.cells = s.cells ∧ nx.sched = s.sched ∧ nx.flash = s.flash ∧ nx.store = s.store ∧ nx.power = s.power ∧ nx.mem = s.mem ∧ nx.cipher = s.cipher ∧ nx.engines = s.engines ∧ nx.admin = s.admin ∧ nx.staing = s.staing ∧ nx.security = s.security ∧ nx.migration = s.migration ∧ nx.pending = s.pending ∧ nx.now = s.now ∧ nx.bootAt = s.bootAt ∧ nx.free = s.free ∧ nx.out = s.out) ?_ ?_ ?_
  · simp
  · intro a c hb
    simp [state_begin_some _ _ _ hb]
  · intro a hb
    have hf := state_begin_some _ _ _ hb
    dsimp only
    (repeat' split) <;> simp [hf, refuse]

theorem execSetTimestamp_next (h : Hdr) (sv : Bool) (ms : Nat) (s : State) :
    ∀ nx, execSetTimestamp h sv ms s = .next nx → nx.modes = s.modes ∧ nx.cells = s.cells ∧ nx.sched = s.sched ∧ nx.flash = s.flash ∧ nx.store = s.store ∧ nx.power = s.power ∧ nx.mem = s.mem ∧ nx.cipher = s.cipher ∧ nx.engines = s.engines ∧ nx.admin = s.admin ∧ nx.staing = s.staing ∧ nx.security = s.security ∧ nx.migration = s.migration ∧ nx.pending = s.pending ∧ nx.now = s.now ∧ nx.bootAt = s.bootAt ∧ nx.free = s.free ∧ nx.out = s.out := by
  intro nx h
  unfold execSetTimestamp at h
  try unfold State.setFeature at h
  try unfold State.sanRun at h
  try unfold State.keyRun at h
  try unfold State.secRun at h
  try unfold State.managerRun at h
  try unfold State.sanStart at h
  try unfold State.fwStart at h
  try unfold State.keyStart at h
  try unfold State.runData at h
  try unfold State.startAdmin at h
  cases h
  refine run_ind (P := fun nx => nx.modes = s.modes ∧ nx.cells = s.cells ∧ nx.sched = s.sched ∧ nx.flash = s.flash ∧ nx.store = s.store ∧ nx.power = s.power ∧ nx.mem = s.mem ∧ nx.cipher = s.cipher ∧ nx.engines = s.engines ∧ nx.admin = s.admin ∧ nx.staing = s.staing ∧ nx.security = s.security ∧ nx.migration = s.migration ∧ nx.pending = s.pending ∧ nx.now = s.now ∧ nx.bootAt = s.bootAt ∧ nx.free = s.free ∧ nx.out = s.out) ?_ ?_ ?_
  · simp
  · intro a c hb
    simp [state_begin_some _ _ _ hb]
  · intro a hb
    have hf := state_begin_some _ _ _ hb
    dsimp only
    (repeat' split) <;> simp [hf, refuse]

theorem execSetCompletionSummaryLine_next (h : Hdr) (sv : Bool) (en : Bool) (address : Nat) (cdw13 : Nat) (s : State) :
    ∀ nx, execSetCompletionSummaryLine h sv en address cdw13 s = .next nx → nx.modes = s.modes ∧ nx.sampler = s.sampler ∧ nx.cells = s.cells ∧ nx.sched = s.sched ∧ nx.flash = s.flash ∧ nx.store = s.store ∧ nx.power = s.power ∧ nx.mem = s.mem ∧ nx.cipher = s.cipher ∧ nx.engines = s.engines ∧ nx.staing = s.staing ∧ nx.security = s.security ∧ nx.migration = s.migration ∧ nx.pending = s.pending ∧ nx.now = s.now ∧ nx.bootAt = s.bootAt ∧ nx.free = s.free := by
  intro nx h
  unfold execSetCompletionSummaryLine at h
  try unfold State.setFeature at h
  try unfold State.sanRun at h
  try unfold State.keyRun at h
  try unfold State.secRun at h
  try unfold State.managerRun at h
  try unfold State.sanStart at h
  try unfold State.fwStart at h
  try unfold State.keyStart at h
  try unfold State.runData at h
  try unfold State.startAdmin at h
  cases h
  refine run_ind (P := fun nx => nx.modes = s.modes ∧ nx.sampler = s.sampler ∧ nx.cells = s.cells ∧ nx.sched = s.sched ∧ nx.flash = s.flash ∧ nx.store = s.store ∧ nx.power = s.power ∧ nx.mem = s.mem ∧ nx.cipher = s.cipher ∧ nx.engines = s.engines ∧ nx.staing = s.staing ∧ nx.security = s.security ∧ nx.migration = s.migration ∧ nx.pending = s.pending ∧ nx.now = s.now ∧ nx.bootAt = s.bootAt ∧ nx.free = s.free) ?_ ?_ ?_
  · simp
  · intro a c hb
    simp [state_begin_some _ _ _ hb]
  · intro a hb
    have hf := state_begin_some _ _ _ hb
    dsimp only
    (repeat' split) <;> simp [hf, refuse]

theorem execSetInstanceSummary_next (h : Hdr) (sv : Bool) (en : Bool) (address : Nat) (cdw13 : Nat) (s : State) :
    ∀ nx, execSetInstanceSummary h sv en address cdw13 s = .next nx → nx.modes = s.modes ∧ nx.sampler = s.sampler ∧ nx.cells = s.cells ∧ nx.sched = s.sched ∧ nx.flash = s.flash ∧ nx.store = s.store ∧ nx.power = s.power ∧ nx.mem = s.mem ∧ nx.cipher = s.cipher ∧ nx.engines = s.engines ∧ nx.admin = s.admin ∧ nx.staing = s.staing ∧ nx.security = s.security ∧ nx.migration = s.migration ∧ nx.pending = s.pending ∧ nx.now = s.now ∧ nx.bootAt = s.bootAt ∧ nx.free = s.free := by
  intro nx h
  unfold execSetInstanceSummary at h
  try unfold State.setFeature at h
  try unfold State.sanRun at h
  try unfold State.keyRun at h
  try unfold State.secRun at h
  try unfold State.managerRun at h
  try unfold State.sanStart at h
  try unfold State.fwStart at h
  try unfold State.keyStart at h
  try unfold State.runData at h
  try unfold State.startAdmin at h
  cases h
  refine run_ind (P := fun nx => nx.modes = s.modes ∧ nx.sampler = s.sampler ∧ nx.cells = s.cells ∧ nx.sched = s.sched ∧ nx.flash = s.flash ∧ nx.store = s.store ∧ nx.power = s.power ∧ nx.mem = s.mem ∧ nx.cipher = s.cipher ∧ nx.engines = s.engines ∧ nx.admin = s.admin ∧ nx.staing = s.staing ∧ nx.security = s.security ∧ nx.migration = s.migration ∧ nx.pending = s.pending ∧ nx.now = s.now ∧ nx.bootAt = s.bootAt ∧ nx.free = s.free) ?_ ?_ ?_
  · simp
  · intro a c hb
    simp [state_begin_some _ _ _ hb]
  · intro a hb
    have hf := state_begin_some _ _ _ hb
    dsimp only
    (repeat' split) <;> simp [hf, refuse]

theorem execGetFeatures_next (h : Hdr) (fid : Nat) (sel : Nat) (nsid : Nat) (dw11 : Nat) (s : State) :
    ∀ nx, execGetFeatures h fid sel nsid dw11 s = .next nx → nx.modes = s.modes ∧ nx.sampler = s.sampler ∧ nx.cells = s.cells ∧ nx.sched = s.sched ∧ nx.flash = s.flash ∧ nx.store = s.store ∧ nx.power = s.power ∧ nx.mem = s.mem ∧ nx.cipher = s.cipher ∧ nx.engines = s.engines ∧ nx.admin = s.admin ∧ nx.staing = s.staing ∧ nx.security = s.security ∧ nx.migration = s.migration ∧ nx.pending = s.pending ∧ nx.now = s.now ∧ nx.bootAt = s.bootAt ∧ nx.free = s.free := by
  intro nx h
  unfold execGetFeatures at h
  try unfold State.setFeature at h
  try unfold State.sanRun at h
  try unfold State.keyRun at h
  try unfold State.secRun at h
  try unfold State.managerRun at h
  try unfold State.sanStart at h
  try unfold State.fwStart at h
  try unfold State.keyStart at h
  try unfold State.runData at h
  try unfold State.startAdmin at h
  cases h
  refine startWith_ind (P := fun nx => nx.modes = s.modes ∧ nx.sampler = s.sampler ∧ nx.cells = s.cells ∧ nx.sched = s.sched ∧ nx.flash = s.flash ∧ nx.store = s.store ∧ nx.power = s.power ∧ nx.mem = s.mem ∧ nx.cipher = s.cipher ∧ nx.engines = s.engines ∧ nx.admin = s.admin ∧ nx.staing = s.staing ∧ nx.security = s.security ∧ nx.migration = s.migration ∧ nx.pending = s.pending ∧ nx.now = s.now ∧ nx.bootAt = s.bootAt ∧ nx.free = s.free) ?_ ?_ ?_
  · simp
  · intro a c hb
    simp [state_begin_some _ _ _ hb]
  · intro a hb
    have hf := state_begin_some _ _ _ hb
    dsimp only
    (repeat' split) <;> simp [hf, refuse]

theorem execSamplerFlush_next (s : State) :
    ∀ nx, execSamplerFlush s = .next nx → nx.dict = s.dict ∧ nx.modes = s.modes ∧ nx.cells = s.cells ∧ nx.host = s.host ∧ nx.flash = s.flash ∧ nx.store = s.store ∧ nx.power = s.power ∧ nx.mem = s.mem ∧ nx.cipher = s.cipher ∧ nx.engines = s.engines ∧ nx.admin = s.admin ∧ nx.staing = s.staing ∧ nx.security = s.security ∧ nx.migration = s.migration ∧ nx.pending = s.pending ∧ nx.now = s.now ∧ nx.bootAt = s.bootAt ∧ nx.free = s.free ∧ nx.out = s.out := by
  intro nx h
  unfold execSamplerFlush at h
  (repeat' split at h) <;> cases h <;> simp

theorem execSamplerFlushTimer_next (t : Nat) (s : State) :
    ∀ nx, execSamplerFlushTimer t s = .next nx → nx.dict = s.dict ∧ nx.modes = s.modes ∧ nx.cells = s.cells ∧ nx.host = s.host ∧ nx.flash = s.flash ∧ nx.power = s.power ∧ nx.mem = s.mem ∧ nx.cipher = s.cipher ∧ nx.engines = s.engines ∧ nx.admin = s.admin ∧ nx.staing = s.staing ∧ nx.security = s.security ∧ nx.migration = s.migration ∧ nx.pending = s.pending ∧ nx.bootAt = s.bootAt ∧ nx.free = s.free ∧ nx.out = s.out := by
  intro nx h
  unfold execSamplerFlushTimer at h
  dsimp only at h
  (repeat' split at h) <;> cases h <;> simp

theorem execSamplerFlushDone_next (fails : List Nat) (s : State) :
    ∀ nx, execSamplerFlushDone fails s = .next nx → nx.cells = s.cells ∧ nx.host = s.host ∧ nx.flash = s.flash ∧ nx.store = s.store ∧ nx.power = s.power ∧ nx.mem = s.mem ∧ nx.cipher = s.cipher ∧ nx.engines = s.engines ∧ nx.admin = s.admin ∧ nx.staing = s.staing ∧ nx.security = s.security ∧ nx.migration = s.migration ∧ nx.pending = s.pending ∧ nx.now = s.now ∧ nx.bootAt = s.bootAt ∧ nx.free = s.free ∧ nx.out = s.out := by
  intro nx h
  unfold execSamplerFlushDone at h
  (repeat' split at h) <;> cases h <;> simp

theorem execRecordEnter_next (code : Nat) (subject : Nat) (domain : Nat) (params : List Nat) (s : State) :
    ∀ nx, execRecordEnter code subject domain params s = .next nx → nx.modes = s.modes ∧ nx.cells = s.cells ∧ nx.host = s.host ∧ nx.sched = s.sched ∧ nx.flash = s.flash ∧ nx.store = s.store ∧ nx.power = s.power ∧ nx.mem = s.mem ∧ nx.cipher = s.cipher ∧ nx.engines = s.engines ∧ nx.admin = s.admin ∧ nx.staing = s.staing ∧ nx.security = s.security ∧ nx.migration = s.migration ∧ nx.pending = s.pending ∧ nx.now = s.now ∧ nx.bootAt = s.bootAt ∧ nx.free = s.free ∧ nx.out = s.out := by
  intro nx h
  unfold execRecordEnter at h
  (repeat' split at h) <;> cases h <;> simp

theorem execRateBucketRefill_next (code : Nat) (t : Nat) (s : State) :
    ∀ nx, execRateBucketRefill code t s = .next nx → nx.modes = s.modes ∧ nx.cells = s.cells ∧ nx.host = s.host ∧ nx.sched = s.sched ∧ nx.flash = s.flash ∧ nx.power = s.power ∧ nx.mem = s.mem ∧ nx.cipher = s.cipher ∧ nx.engines = s.engines ∧ nx.admin = s.admin ∧ nx.staing = s.staing ∧ nx.security = s.security ∧ nx.migration = s.migration ∧ nx.pending = s.pending ∧ nx.bootAt = s.bootAt ∧ nx.free = s.free ∧ nx.out = s.out := by
  intro nx h
  unfold execRateBucketRefill at h
  dsimp only at h
  (repeat' split at h) <;> cases h <;> simp

theorem execWindowSlotRead_next (acc : Accessor) (slot : Fin 16) (s : State) :
    ∀ nx, execWindowSlotRead acc slot s = .next nx → nx.cells = s.cells ∧ nx.host = s.host ∧ nx.flash = s.flash ∧ nx.store = s.store ∧ nx.power = s.power ∧ nx.mem = s.mem ∧ nx.cipher = s.cipher ∧ nx.engines = s.engines ∧ nx.admin = s.admin ∧ nx.staing = s.staing ∧ nx.security = s.security ∧ nx.migration = s.migration ∧ nx.pending = s.pending ∧ nx.now = s.now ∧ nx.bootAt = s.bootAt ∧ nx.free = s.free := by
  intro nx h
  unfold execWindowSlotRead at h
  (repeat' split at h) <;> cases h <;> simp

theorem execCursorAdvance_next (acc : Accessor) (s : State) :
    ∀ nx, execCursorAdvance acc s = .next nx → nx.modes = s.modes ∧ nx.sampler = s.sampler ∧ nx.cells = s.cells ∧ nx.host = s.host ∧ nx.sched = s.sched ∧ nx.flash = s.flash ∧ nx.store = s.store ∧ nx.power = s.power ∧ nx.mem = s.mem ∧ nx.cipher = s.cipher ∧ nx.engines = s.engines ∧ nx.admin = s.admin ∧ nx.staing = s.staing ∧ nx.security = s.security ∧ nx.migration = s.migration ∧ nx.pending = s.pending ∧ nx.now = s.now ∧ nx.bootAt = s.bootAt ∧ nx.free = s.free ∧ nx.out = s.out := by
  intro nx h
  unfold execCursorAdvance at h
  (repeat' split at h) <;> cases h <;> simp

theorem execSamplerClear_next (acc : Accessor) (s : State) :
    ∀ nx, execSamplerClear acc s = .next nx → nx.dict = s.dict ∧ nx.modes = s.modes ∧ nx.cells = s.cells ∧ nx.host = s.host ∧ nx.sched = s.sched ∧ nx.flash = s.flash ∧ nx.store = s.store ∧ nx.power = s.power ∧ nx.mem = s.mem ∧ nx.cipher = s.cipher ∧ nx.engines = s.engines ∧ nx.admin = s.admin ∧ nx.staing = s.staing ∧ nx.security = s.security ∧ nx.migration = s.migration ∧ nx.pending = s.pending ∧ nx.now = s.now ∧ nx.bootAt = s.bootAt ∧ nx.free = s.free ∧ nx.out = s.out := by
  intro nx h
  unfold execSamplerClear at h
  (repeat' split at h) <;> cases h <;> simp

theorem execSamplerWindowLog_next (h : Hdr) (advance : Bool) (offset : Nat) (numd : Nat) (s : State) :
    ∀ nx, execSamplerWindowLog h advance offset numd s = .next nx → nx.cells = s.cells ∧ nx.flash = s.flash ∧ nx.store = s.store ∧ nx.power = s.power ∧ nx.mem = s.mem ∧ nx.cipher = s.cipher ∧ nx.engines = s.engines ∧ nx.admin = s.admin ∧ nx.staing = s.staing ∧ nx.security = s.security ∧ nx.migration = s.migration ∧ nx.pending = s.pending ∧ nx.now = s.now ∧ nx.bootAt = s.bootAt ∧ nx.free = s.free := by
  intro nx h
  unfold execSamplerWindowLog at h
  try unfold State.setFeature at h
  try unfold State.sanRun at h
  try unfold State.keyRun at h
  try unfold State.secRun at h
  try unfold State.managerRun at h
  try unfold State.sanStart at h
  try unfold State.fwStart at h
  try unfold State.keyStart at h
  try unfold State.runData at h
  try unfold State.startAdmin at h
  cases h
  refine startWith_ind (P := fun nx => nx.cells = s.cells ∧ nx.flash = s.flash ∧ nx.store = s.store ∧ nx.power = s.power ∧ nx.mem = s.mem ∧ nx.cipher = s.cipher ∧ nx.engines = s.engines ∧ nx.admin = s.admin ∧ nx.staing = s.staing ∧ nx.security = s.security ∧ nx.migration = s.migration ∧ nx.pending = s.pending ∧ nx.now = s.now ∧ nx.bootAt = s.bootAt ∧ nx.free = s.free) ?_ ?_ ?_
  · simp
  · intro a c hb
    simp [state_begin_some _ _ _ hb]
  · intro a hb
    have hf := state_begin_some _ _ _ hb
    dsimp only
    (repeat' split) <;> simp [hf, refuse]

theorem execFormatNvm_next (h : Hdr) (nsid : Nat) (flbas : Nat) (dps : Nat) (s : State) :
    ∀ nx, execFormatNvm h nsid flbas dps s = .next nx → nx.sched = s.sched ∧ nx.power = s.power ∧ nx.mem = s.mem ∧ nx.engines = s.engines ∧ nx.staing = s.staing ∧ nx.pending = s.pending ∧ nx.now = s.now ∧ nx.bootAt = s.bootAt ∧ nx.free = s.free ∧ nx.out = s.out := by
  intro nx h
  unfold execFormatNvm at h
  try unfold State.setFeature at h
  try unfold State.sanRun at h
  try unfold State.keyRun at h
  try unfold State.secRun at h
  try unfold State.managerRun at h
  try unfold State.sanStart at h
  try unfold State.fwStart at h
  try unfold State.keyStart at h
  try unfold State.runData at h
  try unfold State.startAdmin at h
  cases h
  refine startWith_ind (P := fun nx => nx.sched = s.sched ∧ nx.power = s.power ∧ nx.mem = s.mem ∧ nx.engines = s.engines ∧ nx.staing = s.staing ∧ nx.pending = s.pending ∧ nx.now = s.now ∧ nx.bootAt = s.bootAt ∧ nx.free = s.free ∧ nx.out = s.out) ?_ ?_ ?_
  · simp
  · intro a c hb
    simp [state_begin_some _ _ _ hb]
  · intro a hb
    have hf := state_begin_some _ _ _ hb
    dsimp only
    simp [hf, refuse]

theorem execShuttleEnable_next (c : ShuttleId) (ringBase : Nat) (recordAddr : Nat) (ringLog2 : Nat) (s : State) :
    ∀ nx, execShuttleEnable c ringBase recordAddr ringLog2 s = .next nx → nx.modes = s.modes ∧ nx.sampler = s.sampler ∧ nx.cells = s.cells ∧ nx.host = s.host ∧ nx.sched = s.sched ∧ nx.flash = s.flash ∧ nx.store = s.store ∧ nx.power = s.power ∧ nx.mem = s.mem ∧ nx.cipher = s.cipher ∧ nx.admin = s.admin ∧ nx.staing = s.staing ∧ nx.security = s.security ∧ nx.migration = s.migration ∧ nx.pending = s.pending ∧ nx.now = s.now ∧ nx.bootAt = s.bootAt ∧ nx.free = s.free ∧ nx.engines.windows = s.engines.windows := by
  intro nx h
  unfold execShuttleEnable at h
  dsimp only at h
  (repeat' split at h) <;> cases h <;> simp

theorem execShuttleTailWrite_next (c : ShuttleId) (v : Nat) (s : State) :
    ∀ nx, execShuttleTailWrite c v s = .next nx → nx.modes = s.modes ∧ nx.sampler = s.sampler ∧ nx.cells = s.cells ∧ nx.host = s.host ∧ nx.sched = s.sched ∧ nx.flash = s.flash ∧ nx.store = s.store ∧ nx.power = s.power ∧ nx.mem = s.mem ∧ nx.cipher = s.cipher ∧ nx.admin = s.admin ∧ nx.staing = s.staing ∧ nx.security = s.security ∧ nx.migration = s.migration ∧ nx.pending = s.pending ∧ nx.now = s.now ∧ nx.bootAt = s.bootAt ∧ nx.free = s.free ∧ nx.engines.windows = s.engines.windows := by
  intro nx h
  unfold execShuttleTailWrite at h
  dsimp only at h
  (repeat' split at h) <;> cases h <;> simp

theorem execShuttleDisable_next (c : ShuttleId) (s : State) :
    ∀ nx, execShuttleDisable c s = .next nx → nx.dict = s.dict ∧ nx.modes = s.modes ∧ nx.sampler = s.sampler ∧ nx.cells = s.cells ∧ nx.host = s.host ∧ nx.sched = s.sched ∧ nx.flash = s.flash ∧ nx.store = s.store ∧ nx.power = s.power ∧ nx.mem = s.mem ∧ nx.cipher = s.cipher ∧ nx.admin = s.admin ∧ nx.staing = s.staing ∧ nx.security = s.security ∧ nx.migration = s.migration ∧ nx.pending = s.pending ∧ nx.now = s.now ∧ nx.bootAt = s.bootAt ∧ nx.free = s.free ∧ nx.out = s.out ∧ nx.engines.windows = s.engines.windows := by
  intro nx h
  unfold execShuttleDisable at h
  dsimp only at h
  (repeat' split at h) <;> cases h <;> simp

theorem execShuttlePauseWrite_next (c : ShuttleId) (on : Bool) (s : State) :
    ∀ nx, execShuttlePauseWrite c on s = .next nx → nx.modes = s.modes ∧ nx.cells = s.cells ∧ nx.power = s.power ∧ nx.mem = s.mem ∧ nx.admin = s.admin ∧ nx.staing = s.staing ∧ nx.security = s.security ∧ nx.migration = s.migration ∧ nx.pending = s.pending ∧ nx.now = s.now ∧ nx.bootAt = s.bootAt ∧ nx.free = s.free ∧ nx.engines.windows = s.engines.windows := by
  intro nx h
  unfold execShuttlePauseWrite at h
  (repeat' split at h) <;> cases h <;> simp

theorem execShuttleClear_next (c : ShuttleId) (s : State) :
    ∀ nx, execShuttleClear c s = .next nx → nx.dict = s.dict ∧ nx.modes = s.modes ∧ nx.sampler = s.sampler ∧ nx.cells = s.cells ∧ nx.host = s.host ∧ nx.sched = s.sched ∧ nx.flash = s.flash ∧ nx.store = s.store ∧ nx.power = s.power ∧ nx.mem = s.mem ∧ nx.cipher = s.cipher ∧ nx.admin = s.admin ∧ nx.staing = s.staing ∧ nx.security = s.security ∧ nx.migration = s.migration ∧ nx.pending = s.pending ∧ nx.now = s.now ∧ nx.bootAt = s.bootAt ∧ nx.free = s.free ∧ nx.out = s.out ∧ nx.engines.windows = s.engines.windows := by
  intro nx h
  unfold execShuttleClear at h
  dsimp only at h
  (repeat' split at h) <;> cases h <;> simp

theorem execDescriptorRead_next (c : ShuttleId) (d : ShuttleDesc) (e : ReadEnd) (s : State) :
    ∀ nx, execDescriptorRead c d e s = .next nx → nx.modes = s.modes ∧ nx.sampler = s.sampler ∧ nx.cells = s.cells ∧ nx.host = s.host ∧ nx.sched = s.sched ∧ nx.flash = s.flash ∧ nx.store = s.store ∧ nx.power = s.power ∧ nx.mem = s.mem ∧ nx.cipher = s.cipher ∧ nx.admin = s.admin ∧ nx.staing = s.staing ∧ nx.security = s.security ∧ nx.migration = s.migration ∧ nx.pending = s.pending ∧ nx.now = s.now ∧ nx.bootAt = s.bootAt ∧ nx.free = s.free ∧ nx.engines.windows = s.engines.windows := by
  intro nx h
  unfold execDescriptorRead at h
  dsimp only at h
  (repeat' split at h) <;> cases h <;> simp

theorem execDescriptorDone_next (c : ShuttleId) (bytes : List Byte) (s : State) :
    ∀ nx, execDescriptorDone c bytes s = .next nx → nx.modes = s.modes ∧ nx.sampler = s.sampler ∧ nx.cells = s.cells ∧ nx.host = s.host ∧ nx.sched = s.sched ∧ nx.flash = s.flash ∧ nx.store = s.store ∧ nx.power = s.power ∧ nx.mem = s.mem ∧ nx.cipher = s.cipher ∧ nx.staing = s.staing ∧ nx.security = s.security ∧ nx.migration = s.migration ∧ nx.pending = s.pending ∧ nx.now = s.now ∧ nx.bootAt = s.bootAt ∧ nx.free = s.free := by
  intro nx h
  unfold execDescriptorDone at h
  dsimp only at h
  (repeat' split at h) <;> cases h <;> simp

theorem execShuttlePaused_next (c : ShuttleId) (bytes : List Byte) (s : State) :
    ∀ nx, execShuttlePaused c bytes s = .next nx → nx.modes = s.modes ∧ nx.sampler = s.sampler ∧ nx.cells = s.cells ∧ nx.host = s.host ∧ nx.sched = s.sched ∧ nx.flash = s.flash ∧ nx.store = s.store ∧ nx.power = s.power ∧ nx.mem = s.mem ∧ nx.cipher = s.cipher ∧ nx.staing = s.staing ∧ nx.security = s.security ∧ nx.migration = s.migration ∧ nx.pending = s.pending ∧ nx.now = s.now ∧ nx.bootAt = s.bootAt ∧ nx.free = s.free := by
  intro nx h
  unfold execShuttlePaused at h
  dsimp only at h
  (repeat' split at h) <;> cases h <;> simp

theorem execShuttleHalt_next (c : ShuttleId) (code : Nat) (bytes : List Byte) (s : State) :
    ∀ nx, execShuttleHalt c code bytes s = .next nx → nx.modes = s.modes ∧ nx.sampler = s.sampler ∧ nx.cells = s.cells ∧ nx.host = s.host ∧ nx.sched = s.sched ∧ nx.flash = s.flash ∧ nx.store = s.store ∧ nx.power = s.power ∧ nx.mem = s.mem ∧ nx.cipher = s.cipher ∧ nx.staing = s.staing ∧ nx.security = s.security ∧ nx.migration = s.migration ∧ nx.pending = s.pending ∧ nx.now = s.now ∧ nx.bootAt = s.bootAt ∧ nx.free = s.free := by
  intro nx h
  unfold execShuttleHalt at h
  dsimp only at h
  (repeat' split at h) <;> cases h <;> simp

theorem execFirmwareImageDownload_next (h : Hdr) (offset : Nat) (bytes : Nat) (header : Option ImageHeader) (s : State) :
    ∀ nx, execFirmwareImageDownload h offset bytes header s = .next nx → nx.modes = s.modes ∧ nx.sampler = s.sampler ∧ nx.cells = s.cells ∧ nx.sched = s.sched ∧ nx.flash = s.flash ∧ nx.store = s.store ∧ nx.power = s.power ∧ nx.mem = s.mem ∧ nx.cipher = s.cipher ∧ nx.staing = s.staing ∧ nx.security = s.security ∧ nx.migration = s.migration ∧ nx.pending = s.pending ∧ nx.now = s.now ∧ nx.bootAt = s.bootAt ∧ nx.free = s.free ∧ nx.out = s.out := by
  intro nx h
  unfold execFirmwareImageDownload at h
  try unfold State.setFeature at h
  try unfold State.sanRun at h
  try unfold State.keyRun at h
  try unfold State.secRun at h
  try unfold State.managerRun at h
  try unfold State.sanStart at h
  try unfold State.fwStart at h
  try unfold State.keyStart at h
  try unfold State.runData at h
  try unfold State.startAdmin at h
  cases h
  refine startWith_ind (P := fun nx => nx.modes = s.modes ∧ nx.sampler = s.sampler ∧ nx.cells = s.cells ∧ nx.sched = s.sched ∧ nx.flash = s.flash ∧ nx.store = s.store ∧ nx.power = s.power ∧ nx.mem = s.mem ∧ nx.cipher = s.cipher ∧ nx.staing = s.staing ∧ nx.security = s.security ∧ nx.migration = s.migration ∧ nx.pending = s.pending ∧ nx.now = s.now ∧ nx.bootAt = s.bootAt ∧ nx.free = s.free ∧ nx.out = s.out) ?_ ?_ ?_
  · simp
  · intro a c hb
    simp [state_begin_some _ _ _ hb]
  · intro a hb
    have hf := state_begin_some _ _ _ hb
    dsimp only
    simp [hf, refuse]

theorem execFirmwareCommitActivateReset_next (h : Hdr) (slot : Nat) (c : ImageChecks) (s : State) :
    ∀ nx, execFirmwareCommitActivateReset h slot c s = .next nx → nx.modes = s.modes ∧ nx.cells = s.cells ∧ nx.sched = s.sched ∧ nx.flash = s.flash ∧ nx.store = s.store ∧ nx.power = s.power ∧ nx.mem = s.mem ∧ nx.cipher = s.cipher ∧ nx.engines = s.engines ∧ nx.staing = s.staing ∧ nx.migration = s.migration ∧ nx.pending = s.pending ∧ nx.now = s.now ∧ nx.bootAt = s.bootAt ∧ nx.free = s.free ∧ nx.out = s.out := by
  intro nx h
  unfold execFirmwareCommitActivateReset at h
  try unfold State.setFeature at h
  try unfold State.sanRun at h
  try unfold State.keyRun at h
  try unfold State.secRun at h
  try unfold State.managerRun at h
  try unfold State.sanStart at h
  try unfold State.fwStart at h
  try unfold State.keyStart at h
  try unfold State.runData at h
  try unfold State.startAdmin at h
  cases h
  refine startWith_ind (P := fun nx => nx.modes = s.modes ∧ nx.cells = s.cells ∧ nx.sched = s.sched ∧ nx.flash = s.flash ∧ nx.store = s.store ∧ nx.power = s.power ∧ nx.mem = s.mem ∧ nx.cipher = s.cipher ∧ nx.engines = s.engines ∧ nx.staing = s.staing ∧ nx.migration = s.migration ∧ nx.pending = s.pending ∧ nx.now = s.now ∧ nx.bootAt = s.bootAt ∧ nx.free = s.free ∧ nx.out = s.out) ?_ ?_ ?_
  · simp
  · intro a c hb
    simp [state_begin_some _ _ _ hb]
  · intro a hb
    have hf := state_begin_some _ _ _ hb
    dsimp only
    (repeat' split) <;> simp [hf, refuse]

theorem execImageSwitch_next (s : State) :
    ∀ nx, execImageSwitch s = .next nx → nx.cells = s.cells ∧ nx.power = s.power ∧ nx.mem = s.mem ∧ nx.staing = s.staing ∧ nx.migration = s.migration ∧ nx.pending = s.pending ∧ nx.now = s.now ∧ nx.bootAt = s.bootAt ∧ nx.free = s.free ∧ nx.engines.windows = s.engines.windows := by
  intro nx h
  unfold execImageSwitch at h
  (repeat' split at h) <;> cases h <;> simp

theorem state_sanitizeCmd_next (s : State) (h : Hdr) (action : Nat) (abort : Bool) (ndas : Bool) (emvs : Bool) (ause : Bool) :
    ∀ nx, State.sanitizeCmd s h action abort ndas emvs ause = .next nx → nx.power = s.power ∧ nx.staing = s.staing ∧ nx.pending = s.pending ∧ nx.now = s.now ∧ nx.bootAt = s.bootAt ∧ nx.free = s.free ∧ nx.mem.dram = s.mem.dram := by
  intro nx h
  unfold State.sanitizeCmd at h
  try unfold State.setFeature at h
  try unfold State.sanRun at h
  try unfold State.keyRun at h
  try unfold State.secRun at h
  try unfold State.managerRun at h
  try unfold State.sanStart at h
  try unfold State.fwStart at h
  try unfold State.keyStart at h
  try unfold State.runData at h
  try unfold State.startAdmin at h
  cases h
  refine run_ind (P := fun nx => nx.power = s.power ∧ nx.staing = s.staing ∧ nx.pending = s.pending ∧ nx.now = s.now ∧ nx.bootAt = s.bootAt ∧ nx.free = s.free ∧ nx.mem.dram = s.mem.dram) ?_ ?_ ?_
  · simp
  · intro a c hb
    simp [state_begin_some _ _ _ hb]
  · intro a hb
    have hf := state_begin_some _ _ _ hb
    dsimp only
    (repeat' split) <;> simp [hf, refuse]

theorem execSanitizeBlockErase_next (h : Hdr) (abort : Bool) (ndas : Bool) (emvs : Bool) (ause : Bool) (s : State) :
    ∀ nx, execSanitizeBlockErase h abort ndas emvs ause s = .next nx → nx.power = s.power ∧ nx.staing = s.staing ∧ nx.pending = s.pending ∧ nx.now = s.now ∧ nx.bootAt = s.bootAt ∧ nx.free = s.free ∧ nx.mem.dram = s.mem.dram := by
  intro nx h
  unfold execSanitizeBlockErase at h
  try unfold State.setFeature at h
  try unfold State.sanRun at h
  try unfold State.keyRun at h
  try unfold State.secRun at h
  try unfold State.managerRun at h
  try unfold State.sanStart at h
  try unfold State.fwStart at h
  try unfold State.keyStart at h
  try unfold State.runData at h
  try unfold State.startAdmin at h
  cases h
  refine run_ind (P := fun nx => nx.power = s.power ∧ nx.staing = s.staing ∧ nx.pending = s.pending ∧ nx.now = s.now ∧ nx.bootAt = s.bootAt ∧ nx.free = s.free ∧ nx.mem.dram = s.mem.dram) ?_ ?_ ?_
  · simp
  · intro a c hb
    simp [state_begin_some _ _ _ hb]
  · intro a hb
    have hf := state_begin_some _ _ _ hb
    dsimp only
    (repeat' split) <;> simp [hf, refuse]

theorem execSanitizeCryptoErase_next (h : Hdr) (abort : Bool) (ndas : Bool) (emvs : Bool) (ause : Bool) (s : State) :
    ∀ nx, execSanitizeCryptoErase h abort ndas emvs ause s = .next nx → nx.power = s.power ∧ nx.staing = s.staing ∧ nx.pending = s.pending ∧ nx.now = s.now ∧ nx.bootAt = s.bootAt ∧ nx.free = s.free ∧ nx.mem.dram = s.mem.dram := by
  intro nx h
  unfold execSanitizeCryptoErase at h
  try unfold State.setFeature at h
  try unfold State.sanRun at h
  try unfold State.keyRun at h
  try unfold State.secRun at h
  try unfold State.managerRun at h
  try unfold State.sanStart at h
  try unfold State.fwStart at h
  try unfold State.keyStart at h
  try unfold State.runData at h
  try unfold State.startAdmin at h
  cases h
  refine run_ind (P := fun nx => nx.power = s.power ∧ nx.staing = s.staing ∧ nx.pending = s.pending ∧ nx.now = s.now ∧ nx.bootAt = s.bootAt ∧ nx.free = s.free ∧ nx.mem.dram = s.mem.dram) ?_ ?_ ?_
  · simp
  · intro a c hb
    simp [state_begin_some _ _ _ hb]
  · intro a hb
    have hf := state_begin_some _ _ _ hb
    dsimp only
    (repeat' split) <;> simp [hf, refuse]

theorem execSanitizeExitFailureMode_next (h : Hdr) (s : State) :
    ∀ nx, execSanitizeExitFailureMode h s = .next nx → nx.cells = s.cells ∧ nx.sched = s.sched ∧ nx.flash = s.flash ∧ nx.store = s.store ∧ nx.power = s.power ∧ nx.mem = s.mem ∧ nx.cipher = s.cipher ∧ nx.engines = s.engines ∧ nx.admin = s.admin ∧ nx.staing = s.staing ∧ nx.security = s.security ∧ nx.migration = s.migration ∧ nx.pending = s.pending ∧ nx.now = s.now ∧ nx.bootAt = s.bootAt ∧ nx.free = s.free ∧ nx.out = s.out := by
  intro nx h
  unfold execSanitizeExitFailureMode at h
  try unfold State.setFeature at h
  try unfold State.sanRun at h
  try unfold State.keyRun at h
  try unfold State.secRun at h
  try unfold State.managerRun at h
  try unfold State.sanStart at h
  try unfold State.fwStart at h
  try unfold State.keyStart at h
  try unfold State.runData at h
  try unfold State.startAdmin at h
  cases h
  refine run_ind (P := fun nx => nx.cells = s.cells ∧ nx.sched = s.sched ∧ nx.flash = s.flash ∧ nx.store = s.store ∧ nx.power = s.power ∧ nx.mem = s.mem ∧ nx.cipher = s.cipher ∧ nx.engines = s.engines ∧ nx.admin = s.admin ∧ nx.staing = s.staing ∧ nx.security = s.security ∧ nx.migration = s.migration ∧ nx.pending = s.pending ∧ nx.now = s.now ∧ nx.bootAt = s.bootAt ∧ nx.free = s.free ∧ nx.out = s.out) ?_ ?_ ?_
  · simp
  · intro a c hb
    simp [state_begin_some _ _ _ hb]
  · intro a hb
    have hf := state_begin_some _ _ _ hb
    dsimp only
    (repeat' split) <;> simp [hf, refuse]

theorem execSanitizeEnd_next (failed : Bool) (s : State) :
    ∀ nx, execSanitizeEnd failed s = .next nx → nx.cells = s.cells ∧ nx.host = s.host ∧ nx.sched = s.sched ∧ nx.flash = s.flash ∧ nx.power = s.power ∧ nx.mem = s.mem ∧ nx.cipher = s.cipher ∧ nx.engines = s.engines ∧ nx.staing = s.staing ∧ nx.migration = s.migration ∧ nx.pending = s.pending ∧ nx.now = s.now ∧ nx.bootAt = s.bootAt ∧ nx.free = s.free ∧ nx.out = s.out := by
  intro nx h
  unfold execSanitizeEnd at h
  dsimp only at h
  (repeat' split at h) <;> cases h <;> simp

theorem execDirtyBitsRead_next (acc : Accessor) (n : Fin 1024) (s : State) :
    ∀ nx, execDirtyBitsRead acc n s = .next nx → nx.modes = s.modes ∧ nx.sampler = s.sampler ∧ nx.cells = s.cells ∧ nx.host = s.host ∧ nx.sched = s.sched ∧ nx.flash = s.flash ∧ nx.store = s.store ∧ nx.power = s.power ∧ nx.mem = s.mem ∧ nx.cipher = s.cipher ∧ nx.engines = s.engines ∧ nx.admin = s.admin ∧ nx.staing = s.staing ∧ nx.security = s.security ∧ nx.pending = s.pending ∧ nx.now = s.now ∧ nx.bootAt = s.bootAt ∧ nx.free = s.free := by
  intro nx h
  unfold execDirtyBitsRead at h
  (repeat' split at h) <;> cases h <;> simp

theorem execEntropySample_next (bit : Bool) (s : State) :
    ∀ nx, execEntropySample bit s = .next nx → nx.power = s.power ∧ nx.mem = s.mem ∧ nx.staing = s.staing ∧ nx.pending = s.pending ∧ nx.now = s.now ∧ nx.bootAt = s.bootAt ∧ nx.free = s.free ∧ nx.out = s.out := by
  intro nx h
  unfold execEntropySample at h
  dsimp only at h
  (repeat' split at h) <;> cases h <;> simp

theorem execDrbgReseed_next (ok : Bool) (s : State) :
    ∀ nx, execDrbgReseed ok s = .next nx → nx.power = s.power ∧ nx.mem = s.mem ∧ nx.staing = s.staing ∧ nx.pending = s.pending ∧ nx.now = s.now ∧ nx.bootAt = s.bootAt ∧ nx.free = s.free ∧ nx.out = s.out := by
  intro nx h
  unfold execDrbgReseed at h
  (repeat' split at h) <;> cases h <;> simp

theorem execLoopMeasurement_next (t : Nat) (presFwd : Nat) (presRev : Nat) (sealFwd : Nat) (sealRev : Nat) (s : State) :
    ∀ nx, execLoopMeasurement t presFwd presRev sealFwd sealRev s = .next nx → nx.staing = s.staing ∧ nx.pending = s.pending ∧ nx.bootAt = s.bootAt ∧ nx.free = s.free ∧ nx.mem.dram = s.mem.dram := by
  intro nx h
  unfold execLoopMeasurement at h
  dsimp only at h
  (repeat' split at h) <;> cases h <;> simp

theorem execPresenceWindowExpiry_next (t : Nat) (s : State) :
    ∀ nx, execPresenceWindowExpiry t s = .next nx → nx.dict = s.dict ∧ nx.modes = s.modes ∧ nx.sampler = s.sampler ∧ nx.cells = s.cells ∧ nx.host = s.host ∧ nx.sched = s.sched ∧ nx.flash = s.flash ∧ nx.power = s.power ∧ nx.mem = s.mem ∧ nx.cipher = s.cipher ∧ nx.engines = s.engines ∧ nx.admin = s.admin ∧ nx.staing = s.staing ∧ nx.migration = s.migration ∧ nx.pending = s.pending ∧ nx.bootAt = s.bootAt ∧ nx.free = s.free ∧ nx.out = s.out := by
  intro nx h
  unfold execPresenceWindowExpiry at h
  dsimp only at h
  (repeat' split at h) <;> cases h <;> simp

theorem execFactoryEntry_next (h : Hdr) (s : State) :
    ∀ nx, execFactoryEntry h s = .next nx → nx.cells = s.cells ∧ nx.sched = s.sched ∧ nx.flash = s.flash ∧ nx.store = s.store ∧ nx.power = s.power ∧ nx.mem = s.mem ∧ nx.cipher = s.cipher ∧ nx.engines = s.engines ∧ nx.admin = s.admin ∧ nx.staing = s.staing ∧ nx.security = s.security ∧ nx.migration = s.migration ∧ nx.pending = s.pending ∧ nx.now = s.now ∧ nx.bootAt = s.bootAt ∧ nx.free = s.free ∧ nx.out = s.out := by
  intro nx h
  unfold execFactoryEntry at h
  try unfold State.setFeature at h
  try unfold State.sanRun at h
  try unfold State.keyRun at h
  try unfold State.secRun at h
  try unfold State.managerRun at h
  try unfold State.sanStart at h
  try unfold State.fwStart at h
  try unfold State.keyStart at h
  try unfold State.runData at h
  try unfold State.startAdmin at h
  cases h
  refine run_ind (P := fun nx => nx.cells = s.cells ∧ nx.sched = s.sched ∧ nx.flash = s.flash ∧ nx.store = s.store ∧ nx.power = s.power ∧ nx.mem = s.mem ∧ nx.cipher = s.cipher ∧ nx.engines = s.engines ∧ nx.admin = s.admin ∧ nx.staing = s.staing ∧ nx.security = s.security ∧ nx.migration = s.migration ∧ nx.pending = s.pending ∧ nx.now = s.now ∧ nx.bootAt = s.bootAt ∧ nx.free = s.free ∧ nx.out = s.out) ?_ ?_ ?_
  · simp
  · intro a c hb
    simp [state_begin_some _ _ _ hb]
  · intro a hb
    have hf := state_begin_some _ _ _ hb
    dsimp only
    (repeat' split) <;> simp [hf, refuse]

theorem execRootKeyReset_next (h : Hdr) (s : State) :
    ∀ nx, execRootKeyReset h s = .next nx → nx.power = s.power ∧ nx.staing = s.staing ∧ nx.pending = s.pending ∧ nx.now = s.now ∧ nx.bootAt = s.bootAt ∧ nx.free = s.free ∧ nx.mem.dram = s.mem.dram := by
  intro nx h
  unfold execRootKeyReset at h
  try unfold State.setFeature at h
  try unfold State.sanRun at h
  try unfold State.keyRun at h
  try unfold State.secRun at h
  try unfold State.managerRun at h
  try unfold State.sanStart at h
  try unfold State.fwStart at h
  try unfold State.keyStart at h
  try unfold State.runData at h
  try unfold State.startAdmin at h
  cases h
  refine run_ind (P := fun nx => nx.power = s.power ∧ nx.staing = s.staing ∧ nx.pending = s.pending ∧ nx.now = s.now ∧ nx.bootAt = s.bootAt ∧ nx.free = s.free ∧ nx.mem.dram = s.mem.dram) ?_ ?_ ?_
  · simp
  · intro a c hb
    simp [state_begin_some _ _ _ hb]
  · intro a hb
    have hf := state_begin_some _ _ _ hb
    dsimp only
    (repeat' split) <;> simp [hf, refuse]

theorem execDebugChallenge_next (h : Hdr) (s : State) :
    ∀ nx, execDebugChallenge h s = .next nx → nx.dict = s.dict ∧ nx.modes = s.modes ∧ nx.sampler = s.sampler ∧ nx.cells = s.cells ∧ nx.sched = s.sched ∧ nx.flash = s.flash ∧ nx.store = s.store ∧ nx.power = s.power ∧ nx.mem = s.mem ∧ nx.engines = s.engines ∧ nx.admin = s.admin ∧ nx.staing = s.staing ∧ nx.migration = s.migration ∧ nx.pending = s.pending ∧ nx.now = s.now ∧ nx.bootAt = s.bootAt := by
  intro nx h
  unfold execDebugChallenge at h
  try unfold State.setFeature at h
  try unfold State.sanRun at h
  try unfold State.keyRun at h
  try unfold State.secRun at h
  try unfold State.managerRun at h
  try unfold State.sanStart at h
  try unfold State.fwStart at h
  try unfold State.keyStart at h
  try unfold State.runData at h
  try unfold State.startAdmin at h
  cases h
  refine run_ind (P := fun nx => nx.dict = s.dict ∧ nx.modes = s.modes ∧ nx.sampler = s.sampler ∧ nx.cells = s.cells ∧ nx.sched = s.sched ∧ nx.flash = s.flash ∧ nx.store = s.store ∧ nx.power = s.power ∧ nx.mem = s.mem ∧ nx.engines = s.engines ∧ nx.admin = s.admin ∧ nx.staing = s.staing ∧ nx.migration = s.migration ∧ nx.pending = s.pending ∧ nx.now = s.now ∧ nx.bootAt = s.bootAt) ?_ ?_ ?_
  · simp
  · intro a c hb
    simp [state_begin_some _ _ _ hb]
  · intro a hb
    have hf := state_begin_some _ _ _ hb
    dsimp only
    (repeat' split) <;> simp [hf, refuse]

theorem execDebugUnlock_next (h : Hdr) (k : DebugToken) (s : State) :
    ∀ nx, execDebugUnlock h k s = .next nx → nx.power = s.power ∧ nx.mem = s.mem ∧ nx.staing = s.staing ∧ nx.pending = s.pending ∧ nx.now = s.now ∧ nx.bootAt = s.bootAt ∧ nx.free = s.free ∧ nx.out = s.out := by
  intro nx h
  unfold execDebugUnlock at h
  try unfold State.setFeature at h
  try unfold State.sanRun at h
  try unfold State.keyRun at h
  try unfold State.secRun at h
  try unfold State.managerRun at h
  try unfold State.sanStart at h
  try unfold State.fwStart at h
  try unfold State.keyStart at h
  try unfold State.runData at h
  try unfold State.startAdmin at h
  cases h
  refine run_ind (P := fun nx => nx.power = s.power ∧ nx.mem = s.mem ∧ nx.staing = s.staing ∧ nx.pending = s.pending ∧ nx.now = s.now ∧ nx.bootAt = s.bootAt ∧ nx.free = s.free ∧ nx.out = s.out) ?_ ?_ ?_
  · simp
  · intro a c hb
    simp [state_begin_some _ _ _ hb]
  · intro a hb
    have hf := state_begin_some _ _ _ hb
    dsimp only
    (repeat' split) <;> simp [hf, refuse]

theorem execManagementKeyProvisioning_next (h : Hdr) (b : KeyBlob) (s : State) :
    ∀ nx, execManagementKeyProvisioning h b s = .next nx → nx.modes = s.modes ∧ nx.cells = s.cells ∧ nx.sched = s.sched ∧ nx.flash = s.flash ∧ nx.store = s.store ∧ nx.power = s.power ∧ nx.mem = s.mem ∧ nx.cipher = s.cipher ∧ nx.engines = s.engines ∧ nx.admin = s.admin ∧ nx.migration = s.migration ∧ nx.pending = s.pending ∧ nx.now = s.now ∧ nx.bootAt = s.bootAt ∧ nx.free = s.free ∧ nx.out = s.out := by
  intro nx h
  unfold execManagementKeyProvisioning at h
  try unfold State.setFeature at h
  try unfold State.sanRun at h
  try unfold State.keyRun at h
  try unfold State.secRun at h
  try unfold State.managerRun at h
  try unfold State.sanStart at h
  try unfold State.fwStart at h
  try unfold State.keyStart at h
  try unfold State.runData at h
  try unfold State.startAdmin at h
  cases h
  refine run_ind (P := fun nx => nx.modes = s.modes ∧ nx.cells = s.cells ∧ nx.sched = s.sched ∧ nx.flash = s.flash ∧ nx.store = s.store ∧ nx.power = s.power ∧ nx.mem = s.mem ∧ nx.cipher = s.cipher ∧ nx.engines = s.engines ∧ nx.admin = s.admin ∧ nx.migration = s.migration ∧ nx.pending = s.pending ∧ nx.now = s.now ∧ nx.bootAt = s.bootAt ∧ nx.free = s.free ∧ nx.out = s.out) ?_ ?_ ?_
  · simp
  · intro a c hb
    simp [state_begin_some _ _ _ hb]
  · intro a hb
    have hf := state_begin_some _ _ _ hb
    dsimp only
    (repeat' split) <;> simp [hf, refuse]

theorem execDictionaryRead_next (h : Hdr) (index : Nat) (sub : Nat) (inForce : Bool) (count : Nat) (buflen : Nat) (s : State) :
    ∀ nx, execDictionaryRead h index sub inForce count buflen s = .next nx → nx.cells = s.cells ∧ nx.flash = s.flash ∧ nx.store = s.store ∧ nx.power = s.power ∧ nx.mem = s.mem ∧ nx.cipher = s.cipher ∧ nx.engines = s.engines ∧ nx.admin = s.admin ∧ nx.staing = s.staing ∧ nx.security = s.security ∧ nx.pending = s.pending ∧ nx.now = s.now ∧ nx.bootAt = s.bootAt ∧ nx.free = s.free := by
  intro nx h
  unfold execDictionaryRead at h
  try unfold State.setFeature at h
  try unfold State.sanRun at h
  try unfold State.keyRun at h
  try unfold State.secRun at h
  try unfold State.managerRun at h
  try unfold State.sanStart at h
  try unfold State.fwStart at h
  try unfold State.keyStart at h
  try unfold State.runData at h
  try unfold State.startAdmin at h
  cases h
  refine startWith_ind (P := fun nx => nx.cells = s.cells ∧ nx.flash = s.flash ∧ nx.store = s.store ∧ nx.power = s.power ∧ nx.mem = s.mem ∧ nx.cipher = s.cipher ∧ nx.engines = s.engines ∧ nx.admin = s.admin ∧ nx.staing = s.staing ∧ nx.security = s.security ∧ nx.pending = s.pending ∧ nx.now = s.now ∧ nx.bootAt = s.bootAt ∧ nx.free = s.free) ?_ ?_ ?_
  · simp
  · intro a c hb
    simp [state_begin_some _ _ _ hb]
  · intro a hb
    have hf := state_begin_some _ _ _ hb
    dsimp only
    (repeat' split) <;> simp [hf, refuse]

theorem execDictionaryWrite_next (h : Hdr) (len : Nat) (recs : List DictRec) (cellFails : List (Fin 96)) (s : State) :
    ∀ nx, execDictionaryWrite h len recs cellFails s = .next nx → nx.power = s.power ∧ nx.admin = s.admin ∧ nx.staing = s.staing ∧ nx.security = s.security ∧ nx.pending = s.pending ∧ nx.now = s.now ∧ nx.bootAt = s.bootAt ∧ nx.free = s.free ∧ nx.mem.dram = s.mem.dram ∧ nx.engines.windows = s.engines.windows := by
  intro nx h
  unfold execDictionaryWrite at h
  try unfold State.setFeature at h
  try unfold State.sanRun at h
  try unfold State.keyRun at h
  try unfold State.secRun at h
  try unfold State.managerRun at h
  try unfold State.sanStart at h
  try unfold State.fwStart at h
  try unfold State.keyStart at h
  try unfold State.runData at h
  try unfold State.startAdmin at h
  cases h
  refine run_ind (P := fun nx => nx.power = s.power ∧ nx.admin = s.admin ∧ nx.staing = s.staing ∧ nx.security = s.security ∧ nx.pending = s.pending ∧ nx.now = s.now ∧ nx.bootAt = s.bootAt ∧ nx.free = s.free ∧ nx.mem.dram = s.mem.dram ∧ nx.engines.windows = s.engines.windows) ?_ ?_ ?_
  · simp
  · intro a c hb
    simp [state_begin_some _ _ _ hb]
  · intro a hb
    have hf := state_begin_some _ _ _ hb
    dsimp only
    (repeat' split) <;> simp [hf, refuse]

theorem execObjectWrite_next (acc : Accessor) (r : DictRec) (cellFails : List (Fin 96)) (s : State) :
    ∀ nx, execObjectWrite acc r cellFails s = .next nx → nx.power = s.power ∧ nx.admin = s.admin ∧ nx.staing = s.staing ∧ nx.security = s.security ∧ nx.pending = s.pending ∧ nx.now = s.now ∧ nx.bootAt = s.bootAt ∧ nx.free = s.free ∧ nx.mem.dram = s.mem.dram ∧ nx.engines.windows = s.engines.windows := by
  intro nx h
  unfold execObjectWrite at h
  cases h
  simp

theorem execRestoreDefaults_next (acc : Accessor) (on : Bool) (s : State) :
    ∀ nx, execRestoreDefaults acc on s = .next nx → nx.power = s.power ∧ nx.admin = s.admin ∧ nx.staing = s.staing ∧ nx.security = s.security ∧ nx.pending = s.pending ∧ nx.now = s.now ∧ nx.bootAt = s.bootAt ∧ nx.free = s.free ∧ nx.mem.dram = s.mem.dram ∧ nx.engines.windows = s.engines.windows := by
  intro nx h
  unfold execRestoreDefaults at h
  cases h
  simp

theorem execFreezeDrainTimeout_next (n : Fin 1024) (s : State) :
    ∀ nx, execFreezeDrainTimeout n s = .next nx → nx.modes = s.modes ∧ nx.sampler = s.sampler ∧ nx.cells = s.cells ∧ nx.sched = s.sched ∧ nx.flash = s.flash ∧ nx.store = s.store ∧ nx.power = s.power ∧ nx.mem = s.mem ∧ nx.engines = s.engines ∧ nx.admin = s.admin ∧ nx.staing = s.staing ∧ nx.security = s.security ∧ nx.pending = s.pending ∧ nx.now = s.now ∧ nx.bootAt = s.bootAt ∧ nx.free = s.free ∧ nx.out = s.out := by
  intro nx h
  unfold execFreezeDrainTimeout at h
  (repeat' split at h) <;> cases h <;> simp

theorem execFreezeComplete_next (n : Fin 1024) (s : State) :
    ∀ nx, execFreezeComplete n s = .next nx → nx.cells = s.cells ∧ nx.sched = s.sched ∧ nx.flash = s.flash ∧ nx.store = s.store ∧ nx.power = s.power ∧ nx.mem = s.mem ∧ nx.cipher = s.cipher ∧ nx.engines = s.engines ∧ nx.staing = s.staing ∧ nx.security = s.security ∧ nx.pending = s.pending ∧ nx.now = s.now ∧ nx.bootAt = s.bootAt ∧ nx.free = s.free := by
  intro nx h
  unfold execFreezeComplete at h
  (repeat' split at h) <;> cases h <;> simp

theorem execResumeInstance_next (h : Hdr) (n : Nat) (s : State) :
    ∀ nx, execResumeInstance h n s = .next nx → nx.cells = s.cells ∧ nx.flash = s.flash ∧ nx.store = s.store ∧ nx.power = s.power ∧ nx.mem = s.mem ∧ nx.cipher = s.cipher ∧ nx.staing = s.staing ∧ nx.security = s.security ∧ nx.pending = s.pending ∧ nx.now = s.now ∧ nx.bootAt = s.bootAt ∧ nx.free = s.free := by
  intro nx h
  unfold execResumeInstance at h
  try unfold State.setFeature at h
  try unfold State.sanRun at h
  try unfold State.keyRun at h
  try unfold State.secRun at h
  try unfold State.managerRun at h
  try unfold State.sanStart at h
  try unfold State.fwStart at h
  try unfold State.keyStart at h
  try unfold State.runData at h
  try unfold State.startAdmin at h
  cases h
  refine run_ind (P := fun nx => nx.cells = s.cells ∧ nx.flash = s.flash ∧ nx.store = s.store ∧ nx.power = s.power ∧ nx.mem = s.mem ∧ nx.cipher = s.cipher ∧ nx.staing = s.staing ∧ nx.security = s.security ∧ nx.pending = s.pending ∧ nx.now = s.now ∧ nx.bootAt = s.bootAt ∧ nx.free = s.free) ?_ ?_ ?_
  · simp
  · intro a c hb
    simp [state_begin_some _ _ _ hb]
  · intro a hb
    have hf := state_begin_some _ _ _ hb
    dsimp only
    (repeat' split) <;> simp [hf, refuse]

theorem execSaveInstanceState_next (h : Hdr) (n : Nat) (s : State) :
    ∀ nx, execSaveInstanceState h n s = .next nx → nx.modes = s.modes ∧ nx.sampler = s.sampler ∧ nx.cells = s.cells ∧ nx.sched = s.sched ∧ nx.flash = s.flash ∧ nx.store = s.store ∧ nx.power = s.power ∧ nx.mem = s.mem ∧ nx.cipher = s.cipher ∧ nx.admin = s.admin ∧ nx.staing = s.staing ∧ nx.security = s.security ∧ nx.migration = s.migration ∧ nx.pending = s.pending ∧ nx.now = s.now ∧ nx.bootAt = s.bootAt ∧ nx.free = s.free ∧ nx.out = s.out := by
  intro nx h
  unfold execSaveInstanceState at h
  try unfold State.setFeature at h
  try unfold State.sanRun at h
  try unfold State.keyRun at h
  try unfold State.secRun at h
  try unfold State.managerRun at h
  try unfold State.sanStart at h
  try unfold State.fwStart at h
  try unfold State.keyStart at h
  try unfold State.runData at h
  try unfold State.startAdmin at h
  cases h
  refine run_ind (P := fun nx => nx.modes = s.modes ∧ nx.sampler = s.sampler ∧ nx.cells = s.cells ∧ nx.sched = s.sched ∧ nx.flash = s.flash ∧ nx.store = s.store ∧ nx.power = s.power ∧ nx.mem = s.mem ∧ nx.cipher = s.cipher ∧ nx.admin = s.admin ∧ nx.staing = s.staing ∧ nx.security = s.security ∧ nx.migration = s.migration ∧ nx.pending = s.pending ∧ nx.now = s.now ∧ nx.bootAt = s.bootAt ∧ nx.free = s.free ∧ nx.out = s.out) ?_ ?_ ?_
  · simp
  · intro a c hb
    simp [state_begin_some _ _ _ hb]
  · intro a hb
    have hf := state_begin_some _ _ _ hb
    dsimp only
    (repeat' split) <;> simp [hf, refuse]

theorem execRestoreInstanceState_next (h : Hdr) (n : Nat) (s : State) :
    ∀ nx, execRestoreInstanceState h n s = .next nx → nx.modes = s.modes ∧ nx.sched = s.sched ∧ nx.flash = s.flash ∧ nx.store = s.store ∧ nx.power = s.power ∧ nx.mem = s.mem ∧ nx.admin = s.admin ∧ nx.staing = s.staing ∧ nx.security = s.security ∧ nx.migration = s.migration ∧ nx.pending = s.pending ∧ nx.now = s.now ∧ nx.bootAt = s.bootAt ∧ nx.free = s.free ∧ nx.out = s.out ∧ nx.engines.windows = s.engines.windows := by
  intro nx h
  unfold execRestoreInstanceState at h
  try unfold State.setFeature at h
  try unfold State.sanRun at h
  try unfold State.keyRun at h
  try unfold State.secRun at h
  try unfold State.managerRun at h
  try unfold State.sanStart at h
  try unfold State.fwStart at h
  try unfold State.keyStart at h
  try unfold State.runData at h
  try unfold State.startAdmin at h
  cases h
  refine run_ind (P := fun nx => nx.modes = s.modes ∧ nx.sched = s.sched ∧ nx.flash = s.flash ∧ nx.store = s.store ∧ nx.power = s.power ∧ nx.mem = s.mem ∧ nx.admin = s.admin ∧ nx.staing = s.staing ∧ nx.security = s.security ∧ nx.migration = s.migration ∧ nx.pending = s.pending ∧ nx.now = s.now ∧ nx.bootAt = s.bootAt ∧ nx.free = s.free ∧ nx.out = s.out ∧ nx.engines.windows = s.engines.windows) ?_ ?_ ?_
  · simp
  · intro a c hb
    simp [state_begin_some _ _ _ hb]
  · intro a hb
    have hf := state_begin_some _ _ _ hb
    dsimp only
    (repeat' split) <;> simp [hf, refuse]

theorem execPairDiagnosis_next (st : PairState) (wire : Nat) (vFault : Nat) (reversed : Bool) (t : Nat) (s : State) :
    ∀ nx, execPairDiagnosis st wire vFault reversed t s = .next nx → nx.modes = s.modes ∧ nx.sampler = s.sampler ∧ nx.cells = s.cells ∧ nx.host = s.host ∧ nx.sched = s.sched ∧ nx.flash = s.flash ∧ nx.power = s.power ∧ nx.mem = s.mem ∧ nx.cipher = s.cipher ∧ nx.engines = s.engines ∧ nx.admin = s.admin ∧ nx.security = s.security ∧ nx.migration = s.migration ∧ nx.pending = s.pending ∧ nx.bootAt = s.bootAt ∧ nx.free = s.free ∧ nx.out = s.out := by
  intro nx h
  unfold execPairDiagnosis at h
  cases h
  simp

theorem execNeighborSolicitation_next (f : IpFrame) (s : State) :
    ∀ nx, execNeighborSolicitation f s = .next nx → nx.dict = s.dict ∧ nx.modes = s.modes ∧ nx.sampler = s.sampler ∧ nx.cells = s.cells ∧ nx.host = s.host ∧ nx.sched = s.sched ∧ nx.flash = s.flash ∧ nx.store = s.store ∧ nx.power = s.power ∧ nx.mem = s.mem ∧ nx.cipher = s.cipher ∧ nx.engines = s.engines ∧ nx.admin = s.admin ∧ nx.staing = s.staing ∧ nx.security = s.security ∧ nx.migration = s.migration ∧ nx.pending = s.pending ∧ nx.now = s.now ∧ nx.bootAt = s.bootAt ∧ nx.free = s.free := by
  intro nx h
  unfold execNeighborSolicitation at h
  (repeat' split at h) <;> cases h <;> simp

theorem execEchoRequest_next (f : IpFrame) (s : State) :
    ∀ nx, execEchoRequest f s = .next nx → nx.dict = s.dict ∧ nx.modes = s.modes ∧ nx.sampler = s.sampler ∧ nx.cells = s.cells ∧ nx.host = s.host ∧ nx.sched = s.sched ∧ nx.flash = s.flash ∧ nx.store = s.store ∧ nx.power = s.power ∧ nx.mem = s.mem ∧ nx.cipher = s.cipher ∧ nx.engines = s.engines ∧ nx.admin = s.admin ∧ nx.staing = s.staing ∧ nx.security = s.security ∧ nx.migration = s.migration ∧ nx.pending = s.pending ∧ nx.now = s.now ∧ nx.bootAt = s.bootAt ∧ nx.free = s.free := by
  intro nx h
  unfold execEchoRequest at h
  (repeat' split at h) <;> cases h <;> simp

theorem execStaingDatagram_next (d : Datagram) (s : State) :
    ∀ nx, execStaingDatagram d s = .next nx → nx.modes = s.modes ∧ nx.cells = s.cells ∧ nx.host = s.host ∧ nx.sched = s.sched ∧ nx.flash = s.flash ∧ nx.store = s.store ∧ nx.power = s.power ∧ nx.mem = s.mem ∧ nx.cipher = s.cipher ∧ nx.engines = s.engines ∧ nx.admin = s.admin ∧ nx.security = s.security ∧ nx.migration = s.migration ∧ nx.pending = s.pending ∧ nx.now = s.now ∧ nx.bootAt = s.bootAt ∧ nx.free = s.free := by
  intro nx h
  unfold execStaingDatagram at h
  (repeat' split at h) <;> cases h <;> simp

theorem execStaingRead_next (seq : Nat) (reqs : List ReadReq) (s : State) :
    ∀ nx, execStaingRead seq reqs s = .next nx → nx.cells = s.cells ∧ nx.host = s.host ∧ nx.flash = s.flash ∧ nx.store = s.store ∧ nx.power = s.power ∧ nx.mem = s.mem ∧ nx.cipher = s.cipher ∧ nx.engines = s.engines ∧ nx.admin = s.admin ∧ nx.security = s.security ∧ nx.pending = s.pending ∧ nx.now = s.now ∧ nx.bootAt = s.bootAt ∧ nx.free = s.free := by
  intro nx h
  unfold execStaingRead at h
  (repeat' split at h) <;> cases h <;> simp

theorem execStaingWrite_next (seq : Nat) (recs : List DictRec) (cellFails : List (Fin 96)) (s : State) :
    ∀ nx, execStaingWrite seq recs cellFails s = .next nx → nx.power = s.power ∧ nx.admin = s.admin ∧ nx.security = s.security ∧ nx.pending = s.pending ∧ nx.now = s.now ∧ nx.bootAt = s.bootAt ∧ nx.free = s.free ∧ nx.mem.dram = s.mem.dram ∧ nx.engines.windows = s.engines.windows := by
  intro nx h
  unfold execStaingWrite at h
  (repeat' split at h) <;> cases h <;> simp

theorem execStaingEcho_next (seq : Nat) (s : State) :
    ∀ nx, execStaingEcho seq s = .next nx → nx.modes = s.modes ∧ nx.sampler = s.sampler ∧ nx.cells = s.cells ∧ nx.host = s.host ∧ nx.sched = s.sched ∧ nx.flash = s.flash ∧ nx.store = s.store ∧ nx.power = s.power ∧ nx.mem = s.mem ∧ nx.cipher = s.cipher ∧ nx.engines = s.engines ∧ nx.admin = s.admin ∧ nx.security = s.security ∧ nx.migration = s.migration ∧ nx.pending = s.pending ∧ nx.now = s.now ∧ nx.bootAt = s.bootAt ∧ nx.free = s.free := by
  intro nx h
  unfold execStaingEcho at h
  (repeat' split at h) <;> cases h <;> simp

theorem state_startTest_next (s : State) (h : Hdr) (nsid : Nat) (extended : Bool) :
    ∀ nx, State.startTest s h nsid extended = .next nx → nx.cells = s.cells ∧ nx.sched = s.sched ∧ nx.flash = s.flash ∧ nx.store = s.store ∧ nx.power = s.power ∧ nx.mem = s.mem ∧ nx.cipher = s.cipher ∧ nx.engines = s.engines ∧ nx.staing = s.staing ∧ nx.security = s.security ∧ nx.migration = s.migration ∧ nx.pending = s.pending ∧ nx.now = s.now ∧ nx.bootAt = s.bootAt ∧ nx.free = s.free ∧ nx.out = s.out := by
  intro nx h
  unfold State.startTest at h
  try unfold State.setFeature at h
  try unfold State.sanRun at h
  try unfold State.keyRun at h
  try unfold State.secRun at h
  try unfold State.managerRun at h
  try unfold State.sanStart at h
  try unfold State.fwStart at h
  try unfold State.keyStart at h
  try unfold State.runData at h
  try unfold State.startAdmin at h
  cases h
  refine run_ind (P := fun nx => nx.cells = s.cells ∧ nx.sched = s.sched ∧ nx.flash = s.flash ∧ nx.store = s.store ∧ nx.power = s.power ∧ nx.mem = s.mem ∧ nx.cipher = s.cipher ∧ nx.engines = s.engines ∧ nx.staing = s.staing ∧ nx.security = s.security ∧ nx.migration = s.migration ∧ nx.pending = s.pending ∧ nx.now = s.now ∧ nx.bootAt = s.bootAt ∧ nx.free = s.free ∧ nx.out = s.out) ?_ ?_ ?_
  · simp
  · intro a c hb
    simp [state_begin_some _ _ _ hb]
  · intro a hb
    have hf := state_begin_some _ _ _ hb
    dsimp only
    (repeat' split) <;> simp [hf, refuse]

theorem execDeviceSelfTestShort_next (h : Hdr) (nsid : Nat) (s : State) :
    ∀ nx, execDeviceSelfTestShort h nsid s = .next nx → nx.cells = s.cells ∧ nx.sched = s.sched ∧ nx.flash = s.flash ∧ nx.store = s.store ∧ nx.power = s.power ∧ nx.mem = s.mem ∧ nx.cipher = s.cipher ∧ nx.engines = s.engines ∧ nx.staing = s.staing ∧ nx.security = s.security ∧ nx.migration = s.migration ∧ nx.pending = s.pending ∧ nx.now = s.now ∧ nx.bootAt = s.bootAt ∧ nx.free = s.free ∧ nx.out = s.out := by
  intro nx h
  unfold execDeviceSelfTestShort at h
  try unfold State.setFeature at h
  try unfold State.sanRun at h
  try unfold State.keyRun at h
  try unfold State.secRun at h
  try unfold State.managerRun at h
  try unfold State.sanStart at h
  try unfold State.fwStart at h
  try unfold State.keyStart at h
  try unfold State.runData at h
  try unfold State.startAdmin at h
  cases h
  refine run_ind (P := fun nx => nx.cells = s.cells ∧ nx.sched = s.sched ∧ nx.flash = s.flash ∧ nx.store = s.store ∧ nx.power = s.power ∧ nx.mem = s.mem ∧ nx.cipher = s.cipher ∧ nx.engines = s.engines ∧ nx.staing = s.staing ∧ nx.security = s.security ∧ nx.migration = s.migration ∧ nx.pending = s.pending ∧ nx.now = s.now ∧ nx.bootAt = s.bootAt ∧ nx.free = s.free ∧ nx.out = s.out) ?_ ?_ ?_
  · simp
  · intro a c hb
    simp [state_begin_some _ _ _ hb]
  · intro a hb
    have hf := state_begin_some _ _ _ hb
    dsimp only
    (repeat' split) <;> simp [hf, refuse]

theorem execDeviceSelfTestExtended_next (h : Hdr) (nsid : Nat) (s : State) :
    ∀ nx, execDeviceSelfTestExtended h nsid s = .next nx → nx.cells = s.cells ∧ nx.sched = s.sched ∧ nx.flash = s.flash ∧ nx.store = s.store ∧ nx.power = s.power ∧ nx.mem = s.mem ∧ nx.cipher = s.cipher ∧ nx.engines = s.engines ∧ nx.staing = s.staing ∧ nx.security = s.security ∧ nx.migration = s.migration ∧ nx.pending = s.pending ∧ nx.now = s.now ∧ nx.bootAt = s.bootAt ∧ nx.free = s.free ∧ nx.out = s.out := by
  intro nx h
  unfold execDeviceSelfTestExtended at h
  try unfold State.setFeature at h
  try unfold State.sanRun at h
  try unfold State.keyRun at h
  try unfold State.secRun at h
  try unfold State.managerRun at h
  try unfold State.sanStart at h
  try unfold State.fwStart at h
  try unfold State.keyStart at h
  try unfold State.runData at h
  try unfold State.startAdmin at h
  cases h
  refine run_ind (P := fun nx => nx.cells = s.cells ∧ nx.sched = s.sched ∧ nx.flash = s.flash ∧ nx.store = s.store ∧ nx.power = s.power ∧ nx.mem = s.mem ∧ nx.cipher = s.cipher ∧ nx.engines = s.engines ∧ nx.staing = s.staing ∧ nx.security = s.security ∧ nx.migration = s.migration ∧ nx.pending = s.pending ∧ nx.now = s.now ∧ nx.bootAt = s.bootAt ∧ nx.free = s.free ∧ nx.out = s.out) ?_ ?_ ?_
  · simp
  · intro a c hb
    simp [state_begin_some _ _ _ hb]
  · intro a hb
    have hf := state_begin_some _ _ _ hb
    dsimp only
    (repeat' split) <;> simp [hf, refuse]

theorem execDeviceSelfTestAbort_next (h : Hdr) (s : State) :
    ∀ nx, execDeviceSelfTestAbort h s = .next nx → nx.dict = s.dict ∧ nx.modes = s.modes ∧ nx.sampler = s.sampler ∧ nx.cells = s.cells ∧ nx.sched = s.sched ∧ nx.flash = s.flash ∧ nx.store = s.store ∧ nx.power = s.power ∧ nx.mem = s.mem ∧ nx.cipher = s.cipher ∧ nx.engines = s.engines ∧ nx.staing = s.staing ∧ nx.security = s.security ∧ nx.migration = s.migration ∧ nx.pending = s.pending ∧ nx.now = s.now ∧ nx.bootAt = s.bootAt ∧ nx.free = s.free ∧ nx.out = s.out := by
  intro nx h
  unfold execDeviceSelfTestAbort at h
  try unfold State.setFeature at h
  try unfold State.sanRun at h
  try unfold State.keyRun at h
  try unfold State.secRun at h
  try unfold State.managerRun at h
  try unfold State.sanStart at h
  try unfold State.fwStart at h
  try unfold State.keyStart at h
  try unfold State.runData at h
  try unfold State.startAdmin at h
  cases h
  refine run_ind (P := fun nx => nx.dict = s.dict ∧ nx.modes = s.modes ∧ nx.sampler = s.sampler ∧ nx.cells = s.cells ∧ nx.sched = s.sched ∧ nx.flash = s.flash ∧ nx.store = s.store ∧ nx.power = s.power ∧ nx.mem = s.mem ∧ nx.cipher = s.cipher ∧ nx.engines = s.engines ∧ nx.staing = s.staing ∧ nx.security = s.security ∧ nx.migration = s.migration ∧ nx.pending = s.pending ∧ nx.now = s.now ∧ nx.bootAt = s.bootAt ∧ nx.free = s.free ∧ nx.out = s.out) ?_ ?_ ?_
  · simp
  · intro a c hb
    simp [state_begin_some _ _ _ hb]
  · intro a hb
    have hf := state_begin_some _ _ _ hb
    dsimp only
    (repeat' split) <;> simp [hf, refuse]

theorem execSelfTestStep_next (segmentDone : Bool) (failed : Bool) (samples : List SampleEnd) (cellFail : Option (Fin 96)) (halt : Option HaltCause) (s : State) :
    ∀ nx, execSelfTestStep segmentDone failed samples cellFail halt s = .next nx → nx.power = s.power ∧ nx.staing = s.staing ∧ nx.pending = s.pending ∧ nx.now = s.now ∧ nx.bootAt = s.bootAt ∧ nx.free = s.free ∧ nx.mem.dram = s.mem.dram := by
  intro nx h
  unfold execSelfTestStep at h
  (repeat' split at h) <;> cases h <;> simp

theorem execCommandFetch_next (entries : List Sqe) (s : State) :
    ∀ nx, execCommandFetch entries s = .next nx → nx.staing = s.staing ∧ nx.pending = s.pending ∧ nx.now = s.now ∧ nx.bootAt = s.bootAt ∧ nx.free = s.free := by
  intro nx h
  unfold execCommandFetch at h
  dsimp only at h
  (repeat' split at h) <;> cases h <;> simp

theorem execFrameBoundary_next (t : Nat) (s : State) :
    ∀ nx, execFrameBoundary t s = .next nx → nx.staing = s.staing ∧ nx.pending = s.pending ∧ nx.bootAt = s.bootAt ∧ nx.free = s.free := by
  intro nx h
  unfold execFrameBoundary at h
  dsimp only at h
  (repeat' split at h) <;> cases h <;> simp

theorem execSleepEntryStart_next (t : Nat) (s : State) :
    ∀ nx, execSleepEntryStart t s = .next nx → nx.admin = s.admin ∧ nx.staing = s.staing ∧ nx.security = s.security ∧ nx.migration = s.migration ∧ nx.pending = s.pending ∧ nx.bootAt = s.bootAt ∧ nx.free = s.free ∧ nx.engines.windows = s.engines.windows := by
  intro nx h
  unfold execSleepEntryStart at h
  dsimp only at h
  (repeat' split at h) <;> cases h <;> simp

theorem execDomainStopRequest_next (d : Fin 56) (s : State) :
    ∀ nx, execDomainStopRequest d s = .next nx → nx.staing = s.staing ∧ nx.pending = s.pending ∧ nx.now = s.now ∧ nx.bootAt = s.bootAt ∧ nx.free = s.free := by
  intro nx h
  unfold execDomainStopRequest at h
  dsimp only at h
  (repeat' split at h) <;> cases h <;> simp

theorem execDomainStopped_next (d : Fin 56) (s : State) :
    ∀ nx, execDomainStopped d s = .next nx → nx.staing = s.staing ∧ nx.pending = s.pending ∧ nx.now = s.now ∧ nx.bootAt = s.bootAt ∧ nx.free = s.free := by
  intro nx h
  unfold execDomainStopped at h
  dsimp only at h
  (repeat' split at h) <;> cases h <;> simp

theorem execDomainRefusal_next (d : Fin 56) (s : State) :
    ∀ nx, execDomainRefusal d s = .next nx → nx.staing = s.staing ∧ nx.pending = s.pending ∧ nx.now = s.now ∧ nx.bootAt = s.bootAt ∧ nx.free = s.free := by
  intro nx h
  unfold execDomainRefusal at h
  dsimp only at h
  (repeat' split at h) <;> cases h <;> simp

theorem execRefusalHoldExpiry_next (t : Nat) (s : State) :
    ∀ nx, execRefusalHoldExpiry t s = .next nx → nx.dict = s.dict ∧ nx.modes = s.modes ∧ nx.sampler = s.sampler ∧ nx.cells = s.cells ∧ nx.host = s.host ∧ nx.sched = s.sched ∧ nx.flash = s.flash ∧ nx.mem = s.mem ∧ nx.cipher = s.cipher ∧ nx.engines = s.engines ∧ nx.admin = s.admin ∧ nx.staing = s.staing ∧ nx.security = s.security ∧ nx.migration = s.migration ∧ nx.pending = s.pending ∧ nx.bootAt = s.bootAt ∧ nx.free = s.free ∧ nx.out = s.out := by
  intro nx h
  unfold execRefusalHoldExpiry at h
  dsimp only at h
  (repeat' split at h) <;> cases h <;> simp

theorem execApstIdleExpiry_next (p : Port) (t : Nat) (s : State) :
    ∀ nx, execApstIdleExpiry p t s = .next nx → nx.modes = s.modes ∧ nx.cells = s.cells ∧ nx.host = s.host ∧ nx.sched = s.sched ∧ nx.flash = s.flash ∧ nx.mem = s.mem ∧ nx.cipher = s.cipher ∧ nx.engines = s.engines ∧ nx.admin = s.admin ∧ nx.staing = s.staing ∧ nx.security = s.security ∧ nx.migration = s.migration ∧ nx.pending = s.pending ∧ nx.bootAt = s.bootAt ∧ nx.free = s.free ∧ nx.out = s.out := by
  intro nx h
  unfold execApstIdleExpiry at h
  dsimp only at h
  (repeat' split at h) <;> cases h <;> simp

theorem execPcieActivityWake_next (p : Port) (ranks : List (Fin 4 × DramTraining)) (s : State) :
    ∀ nx, execPcieActivityWake p ranks s = .next nx → nx.staing = s.staing ∧ nx.pending = s.pending ∧ nx.now = s.now ∧ nx.bootAt = s.bootAt ∧ nx.free = s.free := by
  intro nx h
  unfold execPcieActivityWake at h
  grind [state_awaken_frame]

theorem execWakeFrame_next (magicOk : Bool) (serial : Nat) (ranks : List (Fin 4 × DramTraining)) (s : State) :
    ∀ nx, execWakeFrame magicOk serial ranks s = .next nx → nx.staing = s.staing ∧ nx.pending = s.pending ∧ nx.now = s.now ∧ nx.bootAt = s.bootAt ∧ nx.free = s.free := by
  intro nx h
  unfold execWakeFrame at h
  grind [state_awaken_frame]

theorem execManagementFrameWake_next (d : Option Datagram) (s : State) :
    ∀ nx, execManagementFrameWake d s = .next nx → nx.pending = s.pending ∧ nx.now = s.now ∧ nx.bootAt = s.bootAt ∧ nx.free = s.free := by
  intro nx h
  unfold execManagementFrameWake at h
  dsimp only at h
  (repeat' split at h) <;> injection h with h <;> subst h <;> simp

theorem execAiringStep_next (t : Nat) (skipped : List (Fin 4)) (failBits : List (Nat × Nat × Bool)) (readable : Bool) (s : State) :
    ∀ nx, execAiringStep t skipped failBits readable s = .next nx → nx.staing = s.staing ∧ nx.pending = s.pending ∧ nx.bootAt = s.bootAt ∧ nx.free = s.free := by
  intro nx h
  unfold execAiringStep at h
  dsimp only at h
  (repeat' split at h) <;> cases h <;> simp

theorem execSamplerBufferWake_next (ranks : List (Fin 4 × DramTraining)) (s : State) :
    ∀ nx, execSamplerBufferWake ranks s = .next nx → nx.staing = s.staing ∧ nx.pending = s.pending ∧ nx.now = s.now ∧ nx.bootAt = s.bootAt ∧ nx.free = s.free := by
  intro nx h
  unfold execSamplerBufferWake at h
  (repeat' split at h) <;> cases h <;> simp

theorem execSensorReading_next (t : Nat) (temps : List Int) (diode : DiodeState) (tenths : Int) (s : State) :
    ∀ nx, execSensorReading t temps diode tenths s = .next nx → nx.dict = s.dict ∧ nx.modes = s.modes ∧ nx.sampler = s.sampler ∧ nx.cells = s.cells ∧ nx.host = s.host ∧ nx.sched = s.sched ∧ nx.flash = s.flash ∧ nx.mem = s.mem ∧ nx.cipher = s.cipher ∧ nx.engines = s.engines ∧ nx.admin = s.admin ∧ nx.staing = s.staing ∧ nx.security = s.security ∧ nx.migration = s.migration ∧ nx.pending = s.pending ∧ nx.bootAt = s.bootAt ∧ nx.free = s.free ∧ nx.out = s.out := by
  intro nx h
  unfold execSensorReading at h
  cases h
  simp

theorem execHoldupSenseSample_next (mv : Nat) (s : State) :
    ∀ nx, execHoldupSenseSample mv s = .next nx → nx.dict = s.dict ∧ nx.modes = s.modes ∧ nx.sampler = s.sampler ∧ nx.cells = s.cells ∧ nx.host = s.host ∧ nx.sched = s.sched ∧ nx.flash = s.flash ∧ nx.store = s.store ∧ nx.mem = s.mem ∧ nx.cipher = s.cipher ∧ nx.engines = s.engines ∧ nx.admin = s.admin ∧ nx.staing = s.staing ∧ nx.security = s.security ∧ nx.migration = s.migration ∧ nx.pending = s.pending ∧ nx.now = s.now ∧ nx.bootAt = s.bootAt ∧ nx.free = s.free ∧ nx.out = s.out := by
  intro nx h
  unfold execHoldupSenseSample at h
  cases h
  simp

theorem execPwrfailClassify_next (c : PwrfailClass) (t : Nat) (s : State) :
    ∀ nx, execPwrfailClassify c t s = .next nx → nx.dict = s.dict ∧ nx.modes = s.modes ∧ nx.sampler = s.sampler ∧ nx.cells = s.cells ∧ nx.host = s.host ∧ nx.sched = s.sched ∧ nx.flash = s.flash ∧ nx.mem = s.mem ∧ nx.cipher = s.cipher ∧ nx.engines = s.engines ∧ nx.admin = s.admin ∧ nx.staing = s.staing ∧ nx.security = s.security ∧ nx.migration = s.migration ∧ nx.pending = s.pending ∧ nx.bootAt = s.bootAt ∧ nx.free = s.free ∧ nx.out = s.out := by
  intro nx h
  unfold execPwrfailClassify at h
  cases h
  simp

theorem execPwrfailAssert_next (lowUs : Nat) (t : Nat) (s : State) :
    ∀ nx, execPwrfailAssert lowUs t s = .next nx → nx.staing = s.staing ∧ nx.security = s.security ∧ nx.pending = s.pending ∧ nx.bootAt = s.bootAt ∧ nx.free = s.free := by
  intro nx h
  unfold execPwrfailAssert at h
  dsimp only at h
  (repeat' split at h) <;> injection h with h <;> subst h <;> simp

theorem execPwrfailReturn_next (s : State) :
    ∀ nx, execPwrfailReturn s = .next nx → nx.cells = s.cells ∧ nx.sched = s.sched ∧ nx.flash = s.flash ∧ nx.cipher = s.cipher ∧ nx.staing = s.staing ∧ nx.security = s.security ∧ nx.pending = s.pending ∧ nx.now = s.now ∧ nx.bootAt = s.bootAt ∧ nx.free = s.free ∧ nx.out = s.out ∧ nx.mem.dram = s.mem.dram := by
  intro nx h
  unfold execPwrfailReturn at h
  (repeat' split at h) <;> cases h <;> simp

theorem execShutdownNotification_next (f : Func) (s : State) :
    ∀ nx, execShutdownNotification f s = .next nx → nx.modes = s.modes ∧ nx.mem = s.mem ∧ nx.engines = s.engines ∧ nx.admin = s.admin ∧ nx.staing = s.staing ∧ nx.security = s.security ∧ nx.pending = s.pending ∧ nx.now = s.now ∧ nx.bootAt = s.bootAt ∧ nx.free = s.free := by
  intro nx h
  unfold execShutdownNotification at h
  dsimp only at h
  (repeat' split at h) <;> injection h with h <;> subst h <;> simp

theorem execDigestStart_next (k : DigestCore) (alg : Nat) (hmac : Bool) (key : Option (List Byte)) (s : State) :
    ∀ nx, execDigestStart k alg hmac key s = .next nx → nx.modes = s.modes ∧ nx.sched = s.sched ∧ nx.flash = s.flash ∧ nx.store = s.store ∧ nx.power = s.power ∧ nx.mem = s.mem ∧ nx.admin = s.admin ∧ nx.staing = s.staing ∧ nx.security = s.security ∧ nx.migration = s.migration ∧ nx.pending = s.pending ∧ nx.now = s.now ∧ nx.bootAt = s.bootAt ∧ nx.free = s.free ∧ nx.out = s.out ∧ nx.engines.windows = s.engines.windows := by
  intro nx h
  unfold execDigestStart at h
  dsimp only at h
  cases h
  (repeat' split) <;> simp

theorem execDigestFinish_next (k : DigestCore) (s : State) :
    ∀ nx, execDigestFinish k s = .next nx → nx.modes = s.modes ∧ nx.sched = s.sched ∧ nx.flash = s.flash ∧ nx.store = s.store ∧ nx.power = s.power ∧ nx.mem = s.mem ∧ nx.admin = s.admin ∧ nx.staing = s.staing ∧ nx.security = s.security ∧ nx.migration = s.migration ∧ nx.pending = s.pending ∧ nx.now = s.now ∧ nx.bootAt = s.bootAt ∧ nx.free = s.free ∧ nx.out = s.out ∧ nx.engines.windows = s.engines.windows := by
  intro nx h
  unfold execDigestFinish at h
  (repeat' split at h) <;> cases h <;> grind [state_digestError_frame, state_setDigest_frame]

theorem execDigestRead_next (k : DigestCore) (s : State) :
    ∀ nx, execDigestRead k s = .next nx → nx.modes = s.modes ∧ nx.sched = s.sched ∧ nx.flash = s.flash ∧ nx.store = s.store ∧ nx.power = s.power ∧ nx.mem = s.mem ∧ nx.admin = s.admin ∧ nx.staing = s.staing ∧ nx.security = s.security ∧ nx.migration = s.migration ∧ nx.pending = s.pending ∧ nx.now = s.now ∧ nx.bootAt = s.bootAt ∧ nx.free = s.free ∧ nx.out = s.out ∧ nx.engines.windows = s.engines.windows := by
  intro nx h
  unfold execDigestRead at h
  (repeat' split at h) <;> cases h <;> grind [state_digestError_frame, state_setDigest_frame]

theorem execDigestRestore_next (k : DigestCore) (nsid : Nat) (zone : Nat) (saved : SavedDigest) (s : State) :
    ∀ nx, execDigestRestore k nsid zone saved s = .next nx → nx.modes = s.modes ∧ nx.sched = s.sched ∧ nx.flash = s.flash ∧ nx.power = s.power ∧ nx.mem = s.mem ∧ nx.admin = s.admin ∧ nx.staing = s.staing ∧ nx.security = s.security ∧ nx.migration = s.migration ∧ nx.pending = s.pending ∧ nx.now = s.now ∧ nx.bootAt = s.bootAt ∧ nx.free = s.free ∧ nx.out = s.out ∧ nx.engines.windows = s.engines.windows := by
  intro nx h
  unfold execDigestRestore at h
  dsimp only at h
  cases h
  (repeat' split) <;> simp

theorem execConfigPlaneMessage_next (d : Fin 56) (m : CfgMsg) (airing : Bool) (failedAcks : Nat) (s : State) :
    ∀ nx, execConfigPlaneMessage d m airing failedAcks s = .next nx → nx.staing = s.staing ∧ nx.pending = s.pending ∧ nx.now = s.now ∧ nx.bootAt = s.bootAt ∧ nx.free = s.free := by
  intro nx h
  unfold execConfigPlaneMessage at h
  (repeat' split at h) <;> cases h <;> simp

theorem execLinkUnpark_next (d : Fin 56) (s : State) :
    ∀ nx, execLinkUnpark d s = .next nx → nx.host = s.host ∧ nx.sched = s.sched ∧ nx.flash = s.flash ∧ nx.store = s.store ∧ nx.power = s.power ∧ nx.cipher = s.cipher ∧ nx.engines = s.engines ∧ nx.admin = s.admin ∧ nx.staing = s.staing ∧ nx.security = s.security ∧ nx.migration = s.migration ∧ nx.pending = s.pending ∧ nx.now = s.now ∧ nx.bootAt = s.bootAt ∧ nx.free = s.free ∧ nx.out = s.out := by
  intro nx h
  unfold execLinkUnpark at h
  cases h
  simp

theorem execLaneSpare_next (x : Fin 12) (y : Fin 10) (port : Fin 4) (lane : Fin 4) (s : State) :
    ∀ nx, execLaneSpare x y port lane s = .next nx → nx.sched = s.sched ∧ nx.flash = s.flash ∧ nx.power = s.power ∧ nx.mem = s.mem ∧ nx.cipher = s.cipher ∧ nx.staing = s.staing ∧ nx.security = s.security ∧ nx.pending = s.pending ∧ nx.now = s.now ∧ nx.bootAt = s.bootAt ∧ nx.free = s.free ∧ nx.out = s.out := by
  intro nx h
  unfold execLaneSpare at h
  dsimp only at h
  (repeat' split at h) <;> cases h <;> simp

theorem execFabricTimeout_next (tag : Nat) (t : Nat) (s : State) :
    ∀ nx, execFabricTimeout tag t s = .next nx → nx.modes = s.modes ∧ nx.sched = s.sched ∧ nx.flash = s.flash ∧ nx.power = s.power ∧ nx.mem = s.mem ∧ nx.admin = s.admin ∧ nx.staing = s.staing ∧ nx.security = s.security ∧ nx.migration = s.migration ∧ nx.pending = s.pending ∧ nx.bootAt = s.bootAt ∧ nx.free = s.free ∧ nx.engines.windows = s.engines.windows := by
  intro nx h
  unfold execFabricTimeout at h
  dsimp only at h
  (repeat' split at h) <;> cases h <;> simp

theorem execCellSramUncorrectable_next (w : BadWord) (s : State) :
    ∀ nx, execCellSramUncorrectable w s = .next nx → nx.staing = s.staing ∧ nx.security = s.security ∧ nx.pending = s.pending ∧ nx.now = s.now ∧ nx.bootAt = s.bootAt := by
  intro nx h
  unfold execCellSramUncorrectable at h
  cases h
  simp

theorem execSramScrub_next (mem : Fin 4) (address : Nat) (bad : List (Fin 80)) (s : State) :
    ∀ nx, execSramScrub mem address bad s = .next nx → nx.staing = s.staing ∧ nx.security = s.security ∧ nx.pending = s.pending ∧ nx.now = s.now ∧ nx.bootAt = s.bootAt := by
  intro nx h
  unfold execSramScrub at h
  dsimp only at h
  (repeat' split at h) <;> cases h <;> simp

end Sys2Proof.Machine
end

