-- ==== Sys2Proof/Laws/Memory.lean ====
section
/-! SUPPORT. DRAM as bytes (R261): reading back what was written, and the canonical form that every write keeps. -/
namespace Sys2Proof.Machine

/-- The byte written reads back. -/
@[simp] theorem cellsRead_write_same (m : List Host.Cell) (a : Nat) (v : Byte) (h : Memory.wf m = true) :
    cellsRead (cellsWrite m a v) a = v := by
  induction m with
  | nil => by_cases hv : v = unlisted <;> simp [cellsWrite, cellsRead, hv]
  | cons e t ih =>
    obtain ⟨b, w⟩ := e
    simp only [Memory.wf, Bool.and_eq_true, List.all_eq_true, decide_eq_true_eq] at h
    have none_below : ∀ (l : List Host.Cell) (c : Nat), (∀ e ∈ l, c < e.1) → cellsRead l c = unlisted := by
      intro l c
      induction l with
      | nil => intro _; rfl
      | cons e t ih =>
        intro hl
        have h1 := hl e (by simp)
        simp only [cellsRead]
        rw [if_neg (by omega)]
        exact ih fun x hx => hl x (by simp [hx])
    simp only [cellsWrite]
    by_cases h1 : a < b
    · by_cases hv : v = unlisted
      · simp only [h1, hv, if_true]
        rw [cellsRead, if_neg (by omega)]
        exact none_below t a fun x hx => Nat.lt_trans h1 (h.1.2 x hx)
      · simp [h1, hv, cellsRead]
    · by_cases h2 : a = b
      · by_cases hv : v = unlisted
        · simp only [h2, hv, if_true, Nat.lt_irrefl, if_false]
          exact none_below t b h.1.2
        · simp [h2, hv, cellsRead]
      · rw [if_neg h1, if_neg h2, cellsRead, if_neg (Ne.symm h2)]
        exact ih h.2

/-- Every other byte reads as before. -/
theorem cellsRead_write_ne (m : List Host.Cell) {a c : Nat} (v : Byte) (n : c ≠ a) (h : Memory.wf m = true) :
    cellsRead (cellsWrite m a v) c = cellsRead m c := by
  induction m with
  | nil => by_cases hv : v = unlisted <;> simp [cellsWrite, cellsRead, hv, Ne.symm n]
  | cons e t ih =>
    obtain ⟨b, w⟩ := e
    simp only [Memory.wf, Bool.and_eq_true] at h
    simp only [cellsWrite]
    by_cases h1 : a < b
    · by_cases hv : v = unlisted <;> simp [h1, hv, cellsRead, Ne.symm n]
    · by_cases h2 : a = b
      · subst h2
        by_cases hv : v = unlisted <;> simp [hv, cellsRead, Ne.symm n]
      · rw [if_neg h1, if_neg h2, cellsRead, cellsRead, ih h.2]

/-- What a write leaves listed stands at the address written or stood before. -/
theorem cellsWrite_mem (m : List Host.Cell) (a : Nat) (v : Byte) : ∀ e ∈ cellsWrite m a v, e.1 = a ∨ e ∈ m := by
  induction m with
  | nil =>
    intro e he
    by_cases hv : v = unlisted
    · simp [cellsWrite, hv] at he
    · simp [cellsWrite, hv] at he
      exact .inl (by rw [he])
  | cons x t ih =>
    obtain ⟨b, w⟩ := x
    intro e he
    simp only [cellsWrite] at he
    by_cases h1 : a < b
    · by_cases hv : v = unlisted
      · simp only [h1, hv, if_true] at he
        exact .inr he
      · simp only [h1, hv, if_true, if_false] at he
        cases he with
        | head => exact .inl rfl
        | tail _ h => exact .inr h
    · by_cases h2 : a = b
      · by_cases hv : v = unlisted
        · rw [if_neg h1, if_pos h2, if_pos hv] at he
          exact .inr (List.mem_cons_of_mem _ he)
        · rw [if_neg h1, if_pos h2, if_neg hv] at he
          cases he with
          | head => exact .inl rfl
          | tail _ h => exact .inr (List.mem_cons_of_mem _ h)
      · rw [if_neg h1, if_neg h2] at he
        cases he with
        | head => exact .inr (by simp)
        | tail _ h =>
          cases ih e h with
          | inl h' => exact .inl h'
          | inr h' => exact .inr (List.mem_cons_of_mem _ h')

/-- Writing a byte keeps the canonical form. -/
theorem cellsWrite_wf (m : List Host.Cell) (a : Nat) (v : Byte) (h : Memory.wf m = true) :
    Memory.wf (cellsWrite m a v) = true := by
  induction m with
  | nil => by_cases hv : v = unlisted <;> simp [cellsWrite, Memory.wf, hv]
  | cons e t ih =>
    obtain ⟨b, w⟩ := e
    have hw := h
    simp only [Memory.wf, Bool.and_eq_true, List.all_eq_true, decide_eq_true_eq] at h
    simp only [cellsWrite]
    by_cases h1 : a < b
    · by_cases hv : v = unlisted
      · simpa [h1, hv] using hw
      · rw [if_pos h1, if_neg hv]
        simp only [Memory.wf, Bool.and_eq_true, List.all_eq_true, decide_eq_true_eq]
        refine ⟨⟨hv, fun x hx => ?_⟩, h⟩
        cases hx with
        | head => exact h1
        | tail _ hx => exact Nat.lt_trans h1 (h.1.2 x hx)
    · by_cases h2 : a = b
      · subst h2
        by_cases hv : v = unlisted
        · simpa [hv] using h.2
        · rw [if_neg h1, if_pos rfl, if_neg hv]
          simp only [Memory.wf, Bool.and_eq_true, List.all_eq_true, decide_eq_true_eq]
          exact ⟨⟨hv, h.1.2⟩, h.2⟩
      · rw [if_neg h1, if_neg h2]
        simp only [Memory.wf, Bool.and_eq_true, List.all_eq_true, decide_eq_true_eq]
        refine ⟨⟨h.1.1, fun x hx => ?_⟩, ih h.2⟩
        cases cellsWrite_mem t a v x hx with
        | inl h' => rw [h']; omega
        | inr h' => exact h.1.2 x h'

/-- Storing bytes keeps the canonical form. -/
theorem cellsStore_wf (m : List Host.Cell) (a : Nat) (l : List Byte) (h : Memory.wf m = true) :
    Memory.wf (cellsStore m a l) = true := by
  induction l generalizing m a with
  | nil => exact h
  | cons b t ih => exact ih _ _ (cellsWrite_wf m a b h)

/-- A byte below or above those stored reads as before. -/
theorem cellsRead_store_out (m : List Host.Cell) (a c : Nat) (l : List Byte) (h : Memory.wf m = true)
    (o : c < a ∨ a + l.length ≤ c) : cellsRead (cellsStore m a l) c = cellsRead m c := by
  induction l generalizing m a with
  | nil => rfl
  | cons b t ih =>
    simp only [List.length_cons] at o
    show cellsRead (cellsStore (cellsWrite m a b) (a + 1) t) c = _
    rw [ih _ _ (cellsWrite_wf m a b h) (by omega), cellsRead_write_ne m b (by omega) h]

end Sys2Proof.Machine
end

