-- ==== Sys2Proof/Laws/PerInstr.lean ====
section
/-! SUPPORT. One lemma per command: a well-formed command carries a well-formed queue entry. -/
namespace Sys2Proof.Laws.Wf

/-- What a well-formed command says of its queue entry: its two identifiers fit in 16 bits. -/
def Statement (i : Instr) : Prop :=
  i.wf = true → ∀ h, i.hdr? = some h → h.cid < 65536 ∧ h.sqid < 65536

/-- A well-formed queue entry, in numbers. -/
theorem hdr_bounds {h : Hdr} (w : h.wf = true) : h.cid < 65536 ∧ h.sqid < 65536 := by
  simpa [Hdr.wf, u16] using w

/-- The queue entry of a well-formed command is well formed. -/
theorem of_hdr (i : Instr) : Statement i := by
  intro w h e
  refine hdr_bounds ?_
  have := (Bool.and_eq_true _ _ ▸ w : i.hdr?.all Hdr.wf = true ∧ i.operandsFit = true).1
  simpa [e] using this

theorem porstRelease (e : BootEnv) : Statement (.porstRelease e) := of_hdr _
theorem porstAssert (lowNs : Nat) : Statement (.porstAssert lowNs) := of_hdr _
theorem brownOut : Statement (.brownOut) := of_hdr _
theorem validBitGranuleFill : Statement (.validBitGranuleFill) := of_hdr _
theorem workItemPost (w : WorkItem) : Statement (.workItemPost w) := of_hdr _
theorem workItemRepost (p : Producer) (tag : Nat) : Statement (.workItemRepost p tag) := of_hdr _
theorem cellWorkTake (c : Fin 96) : Statement (.cellWorkTake c) := of_hdr _
theorem workItemResult (c : Fin 96) (p : Producer) (tag : Nat) (ok : Bool) : Statement (.workItemResult c p tag ok) := of_hdr _
theorem sequencerWatchdogExpiry (c : Fin 96) : Statement (.sequencerWatchdogExpiry c) := of_hdr _
theorem cellSramUncorrectable (w : BadWord) : Statement (.cellSramUncorrectable w) := of_hdr _
theorem linkUnpark (d : Fin 56) : Statement (.linkUnpark d) := of_hdr _
theorem fabricPacket (x : Fin 12) (y : Fin 10) (inPort : Fin 6) (p : Packet) (errs : List BeatErr) : Statement (.fabricPacket x y inPort p errs) := of_hdr _
theorem laneSpare (x : Fin 12) (y : Fin 10) (port : Fin 4) (lane : Fin 4) : Statement (.laneSpare x y port lane) := of_hdr _
theorem fabricAccept (tag : Nat) : Statement (.fabricAccept tag) := of_hdr _
theorem fabricTimeout (tag : Nat) (t : Nat) : Statement (.fabricTimeout tag t) := of_hdr _
theorem configPlaneMessage (d : Fin 56) (m : CfgMsg) (airing : Bool) (failedAcks : Nat) : Statement (.configPlaneMessage d m airing failedAcks) := of_hdr _
theorem cellDrained (c : Fin 96) : Statement (.cellDrained c) := of_hdr _
theorem perstAssert (p : Port) : Statement (.perstAssert p) := of_hdr _
theorem hotReset (p : Port) : Statement (.hotReset p) := of_hdr _
theorem linkDown (p : Port) (t : Nat) : Statement (.linkDown p t) := of_hdr _
theorem linkTrained (p : Port) (rate : Nat) (width : Nat) (flit : Bool) (laneRev : Bool) (polInv : Bool) : Statement (.linkTrained p rate width flit laneRev polInv) := of_hdr _
theorem functionLevelResetVf (n : Fin 1024) : Statement (.functionLevelResetVf n) := of_hdr _
theorem functionLevelResetPf (p : Port) : Statement (.functionLevelResetPf p) := of_hdr _
theorem nvmSubsystemReset : Statement (.nvmSubsystemReset) := of_hdr _
theorem fenceComplete (f : Func) : Statement (.fenceComplete f) := of_hdr _
theorem vfEnableSet (p : Port) : Statement (.vfEnableSet p) := of_hdr _
theorem vfEnableClear (p : Port) : Statement (.vfEnableClear p) := of_hdr _
theorem numVfsWrite (p : Port) (n : Nat) : Statement (.numVfsWrite p n) := of_hdr _
theorem ccEnSet (f : Func) (wrr : Bool) (mps : Nat) (asqs : Nat) (acqs : Nat) (asq : Nat) (acq : Nat) : Statement (.ccEnSet f wrr mps asqs acqs asq acq) := of_hdr _
theorem ccEnClearInstance (n : Fin 1024) : Statement (.ccEnClearInstance n) := of_hdr _
theorem ccEnClearManager (p : Port) : Statement (.ccEnClearManager p) := of_hdr _
theorem secondaryOnline (h : Hdr) (cntlid : Nat) (rt : Nat) (nr : Nat) : Statement (.secondaryOnline h cntlid rt nr) := of_hdr _
theorem secondaryOffline (h : Hdr) (cntlid : Nat) (rt : Nat) (nr : Nat) : Statement (.secondaryOffline h cntlid rt nr) := of_hdr _
theorem secondaryAssign (h : Hdr) (cntlid : Nat) (rt : Nat) (nr : Nat) : Statement (.secondaryAssign h cntlid rt nr) := of_hdr _
theorem primaryFlexibleAllocation (h : Hdr) (rt : Nat) (nr : Nat) : Statement (.primaryFlexibleAllocation h rt nr) := of_hdr _
theorem ownerTakeover (acc : Accessor) (nsid : Nat) (t : Nat) : Statement (.ownerTakeover acc nsid t) := of_hdr _
theorem maxRateWrite (acc : Accessor) (rate : Nat) : Statement (.maxRateWrite acc rate) := of_hdr _
theorem createIoCompletionQueue (h : Hdr) (a : QueueArgs) : Statement (.createIoCompletionQueue h a) := of_hdr _
theorem createIoSubmissionQueue (h : Hdr) (a : QueueArgs) : Statement (.createIoSubmissionQueue h a) := of_hdr _
theorem deleteIoCompletionQueue (h : Hdr) (qid : Nat) : Statement (.deleteIoCompletionQueue h qid) := of_hdr _
theorem deleteIoSubmissionQueue (h : Hdr) (qid : Nat) : Statement (.deleteIoSubmissionQueue h qid) := of_hdr _
theorem sqTailDoorbell (f : Func) (qid : Nat) (value : Nat) : Statement (.sqTailDoorbell f qid value) := of_hdr _
theorem cqHeadDoorbell (f : Func) (qid : Nat) (value : Nat) : Statement (.cqHeadDoorbell f qid value) := of_hdr _
theorem commandFetch (entries : List Sqe) : Statement (.commandFetch entries) := of_hdr _
theorem overlapEntryGrant : Statement (.overlapEntryGrant) := of_hdr _
theorem completionPost (h : Hdr) : Statement (.completionPost h) := of_hdr _
theorem waitingEntryPost (f : Func) (cqid : Nat) : Statement (.waitingEntryPost f cqid) := of_hdr _
theorem summaryLineWrite (f : Func) : Statement (.summaryLineWrite f) := of_hdr _
theorem instanceSummaryWrite (p : Port) (upper : Bool) : Statement (.instanceSummaryWrite p upper) := of_hdr _
theorem flush (h : Hdr) (nsid : Nat) : Statement (.flush h nsid) := of_hdr _
theorem write (h : Hdr) (a : WriteArgs) : Statement (.write h a) := of_hdr _
theorem read (h : Hdr) (a : ReadArgs) : Statement (.read h a) := of_hdr _
theorem writeUncorrectable (h : Hdr) (r : Range) : Statement (.writeUncorrectable h r) := of_hdr _
theorem compare (h : Hdr) (a : ReadArgs) : Statement (.compare h a) := of_hdr _
theorem writeZeroes (h : Hdr) (r : Range) (deac : Bool) : Statement (.writeZeroes h r deac) := of_hdr _
theorem datasetManagement (h : Hdr) (nsid : Nat) (deallocate : Bool) (ranges : List Range) : Statement (.datasetManagement h nsid deallocate ranges) := of_hdr _
theorem verify (h : Hdr) (r : Range) (p : PrInfo) : Statement (.verify h r p) := of_hdr _
theorem copy (h : Hdr) (a : CopyArgs) : Statement (.copy h a) := of_hdr _
theorem zoneAppend (h : Hdr) (a : WriteArgs) : Statement (.zoneAppend h a) := of_hdr _
theorem reclaimUnitHandleUpdate (h : Hdr) (nsid : Nat) (pids : List Nat) : Statement (.reclaimUnitHandleUpdate h nsid pids) := of_hdr _
theorem reclaimUnitHandleStatus (h : Hdr) (nsid : Nat) (numd : Nat) : Statement (.reclaimUnitHandleStatus h nsid numd) := of_hdr _
theorem zoneClose (h : Hdr) (nsid : Nat) (slba : Nat) (all : Bool) : Statement (.zoneClose h nsid slba all) := of_hdr _
theorem zoneFinish (h : Hdr) (nsid : Nat) (slba : Nat) (all : Bool) : Statement (.zoneFinish h nsid slba all) := of_hdr _
theorem zoneOpen (h : Hdr) (nsid : Nat) (slba : Nat) (all : Bool) : Statement (.zoneOpen h nsid slba all) := of_hdr _
theorem zoneReset (h : Hdr) (nsid : Nat) (slba : Nat) (all : Bool) : Statement (.zoneReset h nsid slba all) := of_hdr _
theorem zoneOffline (h : Hdr) (nsid : Nat) (slba : Nat) (all : Bool) : Statement (.zoneOffline h nsid slba all) := of_hdr _
theorem secureReset (h : Hdr) (nsid : Nat) (slba : Nat) (all : Bool) : Statement (.secureReset h nsid slba all) := of_hdr _
theorem reportZones (h : Hdr) (nsid : Nat) (slba : Nat) (filter : Nat) (part : Bool) (numd : Nat) : Statement (.reportZones h nsid slba filter part numd) := of_hdr _
theorem zoneDigestReport (h : Hdr) (nsid : Nat) (slba : Nat) (filter : Nat) (part : Bool) (numd : Nat) : Statement (.zoneDigestReport h nsid slba filter part numd) := of_hdr _
theorem abort (h : Hdr) (sqid : Nat) (cid : Nat) : Statement (.abort h sqid cid) := of_hdr _
theorem asynchronousEventRequest (h : Hdr) : Statement (.asynchronousEventRequest h) := of_hdr _
theorem getLogPage (h : Hdr) (lid : Nat) (offset : Nat) (nsid : Nat) (numd : Nat) (rae : Bool) : Statement (.getLogPage h lid offset nsid numd rae) := of_hdr _
theorem samplerWindowLog (h : Hdr) (advance : Bool) (offset : Nat) (numd : Nat) : Statement (.samplerWindowLog h advance offset numd) := of_hdr _
theorem identify (h : Hdr) (cns : Nat) (nsid : Nat) (cntid : Nat) (csi : Nat) : Statement (.identify h cns nsid cntid csi) := of_hdr _
theorem getFeatures (h : Hdr) (fid : Nat) (sel : Nat) (nsid : Nat) (dw11 : Nat) : Statement (.getFeatures h fid sel nsid dw11) := of_hdr _
theorem setArbitration (h : Hdr) (sv : Bool) (burst : Nat) (lpw : Nat) (mpw : Nat) (hpw : Nat) : Statement (.setArbitration h sv burst lpw mpw hpw) := of_hdr _
theorem setPowerManagement (h : Hdr) (sv : Bool) (ps : Nat) (wh : Nat) : Statement (.setPowerManagement h sv ps wh) := of_hdr _
theorem setTemperatureThreshold (h : Hdr) (sv : Bool) (under : Bool) (kelvin : Nat) : Statement (.setTemperatureThreshold h sv under kelvin) := of_hdr _
theorem setErrorRecovery (h : Hdr) (sv : Bool) (tler : Nat) (dulbe : Bool) : Statement (.setErrorRecovery h sv tler dulbe) := of_hdr _
theorem setVolatileWriteCache (h : Hdr) (sv : Bool) (wce : Bool) : Statement (.setVolatileWriteCache h sv wce) := of_hdr _
theorem setNumberOfQueues (h : Hdr) (sv : Bool) (nsqr : Nat) (ncqr : Nat) : Statement (.setNumberOfQueues h sv nsqr ncqr) := of_hdr _
theorem setInterruptCoalescing (h : Hdr) (sv : Bool) (dw11 : Nat) : Statement (.setInterruptCoalescing h sv dw11) := of_hdr _
theorem setInterruptVectorConfiguration (h : Hdr) (sv : Bool) (iv : Nat) (cd : Bool) : Statement (.setInterruptVectorConfiguration h sv iv cd) := of_hdr _
theorem setWriteAtomicityNormal (h : Hdr) (sv : Bool) (dn : Bool) : Statement (.setWriteAtomicityNormal h sv dn) := of_hdr _
theorem setAsyncEventConfiguration (h : Hdr) (sv : Bool) (dw11 : Nat) : Statement (.setAsyncEventConfiguration h sv dw11) := of_hdr _
theorem setAutonomousPowerStateTransition (h : Hdr) (sv : Bool) (enable : Bool) (table : List (Nat × Nat)) : Statement (.setAutonomousPowerStateTransition h sv enable table) := of_hdr _
theorem setTimestamp (h : Hdr) (sv : Bool) (ms : Nat) : Statement (.setTimestamp h sv ms) := of_hdr _
theorem setFdp (h : Hdr) (sv : Bool) (enable : Bool) (config : Nat) : Statement (.setFdp h sv enable config) := of_hdr _
theorem setFdpEvents (h : Hdr) (sv : Bool) (enable : Bool) (types : List Nat) : Statement (.setFdpEvents h sv enable types) := of_hdr _
theorem setCompletionSummaryLine (h : Hdr) (sv : Bool) (en : Bool) (address : Nat) (delay : Nat) : Statement (.setCompletionSummaryLine h sv en address delay) := of_hdr _
theorem setInstanceSummary (h : Hdr) (sv : Bool) (en : Bool) (address : Nat) (delay : Nat) : Statement (.setInstanceSummary h sv en address delay) := of_hdr _
theorem setSecureDiscard (h : Hdr) (sv : Bool) (nsid : Nat) (en : Bool) : Statement (.setSecureDiscard h sv nsid en) := of_hdr _
theorem namespaceCreate (h : Hdr) (a : NsArgs) : Statement (.namespaceCreate h a) := of_hdr _
theorem namespaceDelete (h : Hdr) (nsid : Nat) : Statement (.namespaceDelete h nsid) := of_hdr _
theorem namespaceAttach (h : Hdr) (nsid : Nat) (ctrls : List Nat) : Statement (.namespaceAttach h nsid ctrls) := of_hdr _
theorem namespaceDetach (h : Hdr) (nsid : Nat) (ctrls : List Nat) : Statement (.namespaceDetach h nsid ctrls) := of_hdr _
theorem formatNvm (h : Hdr) (nsid : Nat) (flbas : Nat) (dps : Nat) : Statement (.formatNvm h nsid flbas dps) := of_hdr _
theorem firmwareImageDownload (h : Hdr) (offset : Nat) (bytes : Nat) (header : Option ImageHeader) : Statement (.firmwareImageDownload h offset bytes header) := of_hdr _
theorem firmwareCommitReplace (h : Hdr) (slot : Nat) (c : ImageChecks) : Statement (.firmwareCommitReplace h slot c) := of_hdr _
theorem firmwareCommitReplaceActivateReset (h : Hdr) (slot : Nat) (c : ImageChecks) : Statement (.firmwareCommitReplaceActivateReset h slot c) := of_hdr _
theorem firmwareCommitActivateReset (h : Hdr) (slot : Nat) (c : ImageChecks) : Statement (.firmwareCommitActivateReset h slot c) := of_hdr _
theorem firmwareCommitActivateNow (h : Hdr) (slot : Nat) (c : ImageChecks) : Statement (.firmwareCommitActivateNow h slot c) := of_hdr _
theorem imageSwitch : Statement (.imageSwitch) := of_hdr _
theorem deviceSelfTestShort (h : Hdr) (nsid : Nat) : Statement (.deviceSelfTestShort h nsid) := of_hdr _
theorem deviceSelfTestExtended (h : Hdr) (nsid : Nat) : Statement (.deviceSelfTestExtended h nsid) := of_hdr _
theorem deviceSelfTestAbort (h : Hdr) : Statement (.deviceSelfTestAbort h) := of_hdr _
theorem selfTestStep (segmentDone : Bool) (failed : Bool) (samples : List SampleEnd) (cellFail : Option (Fin 96)) (halt : Option HaltCause) : Statement (.selfTestStep segmentDone failed samples cellFail halt) := of_hdr _
theorem sanitizeExitFailureMode (h : Hdr) : Statement (.sanitizeExitFailureMode h) := of_hdr _
theorem sanitizeBlockErase (h : Hdr) (freezeAbort : Bool) (ndas : Bool) (emvs : Bool) (ause : Bool) : Statement (.sanitizeBlockErase h freezeAbort ndas emvs ause) := of_hdr _
theorem sanitizeCryptoErase (h : Hdr) (freezeAbort : Bool) (ndas : Bool) (emvs : Bool) (ause : Bool) : Statement (.sanitizeCryptoErase h freezeAbort ndas emvs ause) := of_hdr _
theorem sanitizeEnd (failed : Bool) : Statement (.sanitizeEnd failed) := of_hdr _
theorem dictionaryRead (h : Hdr) (index : Nat) (sub : Nat) (inForce : Bool) (count : Nat) (buflen : Nat) : Statement (.dictionaryRead h index sub inForce count buflen) := of_hdr _
theorem dictionaryWrite (h : Hdr) (len : Nat) (recs : List DictRec) (cellFails : List (Fin 96)) : Statement (.dictionaryWrite h len recs cellFails) := of_hdr _
theorem commit (by' : CommitBy) (cellFails : List (Fin 96)) : Statement (.commit by' cellFails) := of_hdr _
theorem discard (by' : CommitBy) : Statement (.discard by') := of_hdr _
theorem objectWrite (acc : Accessor) (r : DictRec) (cellFails : List (Fin 96)) : Statement (.objectWrite acc r cellFails) := of_hdr _
theorem restoreDefaults (acc : Accessor) (on : Bool) : Statement (.restoreDefaults acc on) := of_hdr _
theorem freezeInstance (h : Hdr) (n : Nat) : Statement (.freezeInstance h n) := of_hdr _
theorem freezeDrainTimeout (n : Fin 1024) : Statement (.freezeDrainTimeout n) := of_hdr _
theorem freezeComplete (n : Fin 1024) : Statement (.freezeComplete n) := of_hdr _
theorem saveInstanceState (h : Hdr) (n : Nat) : Statement (.saveInstanceState h n) := of_hdr _
theorem restoreInstanceState (h : Hdr) (n : Nat) : Statement (.restoreInstanceState h n) := of_hdr _
theorem resumeInstance (h : Hdr) (n : Nat) : Statement (.resumeInstance h n) := of_hdr _
theorem dirtyEnWrite (acc : Accessor) (n : Fin 1024) (on : Bool) : Statement (.dirtyEnWrite acc n on) := of_hdr _
theorem dirtyBitsRead (acc : Accessor) (n : Fin 1024) : Statement (.dirtyBitsRead acc n) := of_hdr _
theorem framePlannedEnd (t : Nat) (late : Nat) : Statement (.framePlannedEnd t late) := of_hdr _
theorem lateWorkHandover (t : Nat) : Statement (.lateWorkHandover t) := of_hdr _
theorem frameBoundary (t : Nat) : Statement (.frameBoundary t) := of_hdr _
theorem chunkAdmit (c : ChunkOf) : Statement (.chunkAdmit c) := of_hdr _
theorem progAgePromote (lun : Fin 4096) (op : Nat) : Statement (.progAgePromote lun op) := of_hdr _
theorem operationIssue (t : Nat) : Statement (.operationIssue t) := of_hdr _
theorem operationReady (lun : Fin 4096) (ok : Bool) (t : Nat) : Statement (.operationReady lun ok t) := of_hdr _
theorem readyTimeout (lun : Fin 4096) (resetReady : Bool) (t : Nat) : Statement (.readyTimeout lun resetReady t) := of_hdr _
theorem channelPhyFault (ch : Fin 64) : Statement (.channelPhyFault ch) := of_hdr _
theorem suspendReported (lun : Fin 4096) (suspended : Bool) (t : Nat) : Statement (.suspendReported lun suspended t) := of_hdr _
theorem suspendTimeout (lun : Fin 4096) (resetReady : Bool) (t : Nat) : Statement (.suspendTimeout lun resetReady t) := of_hdr _
theorem readAroundReconstruct (rd : Nat) (ok : Bool) (payloads : List Payload) : Statement (.readAroundReconstruct rd ok payloads) := of_hdr _
theorem contractWindowEnd (n : Fin 1024) (measured : Nat) : Statement (.contractWindowEnd n measured) := of_hdr _
theorem channelRecentre (ch : Fin 64) (celsius : Int) (window : Nat) : Statement (.channelRecentre ch celsius window) := of_hdr _
theorem zoneAgeExpiry (nsid : Nat) (zone : Nat) (t : Nat) : Statement (.zoneAgeExpiry nsid zone t) := of_hdr _
theorem reclaimUnitTimeLimit (ruh : Nat) (group : Nat) (t : Nat) : Statement (.reclaimUnitTimeLimit ruh group t) := of_hdr _
theorem secureEraseDue (lun : Fin 4096) (block : Nat) (ok : Bool) (t : Nat) : Statement (.secureEraseDue lun block ok t) := of_hdr _
theorem mergeWaitExpiry (slot : Nat) (t : Nat) : Statement (.mergeWaitExpiry slot t) := of_hdr _
theorem unitProgramDone (slot : Nat) : Statement (.unitProgramDone slot) := of_hdr _
theorem programFailure (slot : Nat) : Statement (.programFailure slot) := of_hdr _
theorem journalTimerExpiry (t : Nat) : Statement (.journalTimerExpiry t) := of_hdr _
theorem journalPageDurable (seq : Nat) : Statement (.journalPageDurable seq) := of_hdr _
theorem journalCopyFailure (seq : Nat) (copy : Fin 2) (blockLeft : Bool) : Statement (.journalCopyFailure seq copy blockLeft) := of_hdr _
theorem checkpointPass (nsid : Nat) (segment : Nat) (t : Nat) : Statement (.checkpointPass nsid segment t) := of_hdr _
theorem segmentCopyDurable (nsid : Nat) (segment : Nat) : Statement (.segmentCopyDurable nsid segment) := of_hdr _
theorem foldStart : Statement (.foldStart) := of_hdr _
theorem mangleStart (group : Nat) : Statement (.mangleStart group) := of_hdr _
theorem targetStripeComplete (stripe : Nat) : Statement (.targetStripeComplete stripe) := of_hdr _
theorem targetProgramFailure (stripe : Nat) (member : Nat) : Statement (.targetProgramFailure stripe member) := of_hdr _
theorem sourceStripeErase (stripe : Nat) : Statement (.sourceStripeErase stripe) := of_hdr _
theorem eraseFailure (lun : Fin 4096) (block : Nat) : Statement (.eraseFailure lun block) := of_hdr _
theorem spareAdd (acc : Accessor) (count : Nat) : Statement (.spareAdd acc count) := of_hdr _
theorem secureDiscardDue (stripe : Nat) (t : Nat) : Statement (.secureDiscardDue stripe t) := of_hdr _
theorem stripeClose (stripe : Nat) : Statement (.stripeClose stripe) := of_hdr _
theorem memberReplaced (stripe : Nat) (member : Nat) : Statement (.memberReplaced stripe member) := of_hdr _
theorem codewordDecode (rd : Nat) (cw : Fin 4) (e : DecodeEnd) : Statement (.codewordDecode rd cw e) := of_hdr _
theorem rinseStep (lun : Fin 4096) (block : Nat) (failBits : List Nat) (leftStep1 : Bool) (t : Nat) : Statement (.rinseStep lun block failBits leftStep1 t) := of_hdr _
theorem disturbCountReached (lun : Fin 4096) (block : Nat) : Statement (.disturbCountReached lun block) := of_hdr _
theorem fullPassWrite (acc : Accessor) (on : Bool) : Statement (.fullPassWrite acc on) := of_hdr _
theorem sramScrub (mem : Fin 4) (address : Nat) (bad : List (Fin 80)) : Statement (.sramScrub mem address bad) := of_hdr _
theorem logClear (acc : Accessor) : Statement (.logClear acc) := of_hdr _
theorem dramRequest (op : DramOp) (errs : DramErrors) : Statement (.dramRequest op errs) := of_hdr _
theorem dramTimeout (ch : Fin 4) : Statement (.dramTimeout ch) := of_hdr _
theorem dramRecentre (ch : Fin 4) (rank : Fin 4) (celsius : Int) (window : Nat) (retrainOk : Bool) (t : Nat) : Statement (.dramRecentre ch rank celsius window retrainOk t) := of_hdr _
theorem refreshDue (ch : Fin 4) (rank : Fin 4) (t : Nat) : Statement (.refreshDue ch rank t) := of_hdr _
theorem refreshPostponeLimit (ch : Fin 4) (rank : Fin 4) (t : Nat) : Statement (.refreshPostponeLimit ch rank t) := of_hdr _
theorem mr4Poll (ch : Fin 4) (hot : Bool) : Statement (.mr4Poll ch hot) := of_hdr _
theorem dramPatrol (ch : Fin 4) (address : Nat) (errs : DramErrors) : Statement (.dramPatrol ch address errs) := of_hdr _
theorem cipherLockClaim (k : Core) (id : LockId) : Statement (.cipherLockClaim k id) := of_hdr _
theorem cipherRequestSteer (c : Fin 96) (id : LockId) : Statement (.cipherRequestSteer c id) := of_hdr _
theorem cipherMessageDone (k : Core) (rd : Option Nat) (tag : ComparePair) : Statement (.cipherMessageDone k rd tag) := of_hdr _
theorem maskReseed (k : Core) (blocks : Nat) (reseeded : Bool) : Statement (.maskReseed k blocks reseeded) := of_hdr _
theorem counterReservationDurable (slot : Fin 4096) : Statement (.counterReservationDurable slot) := of_hdr _
theorem keyCacheFill (c : Fin 96) (k : KeyRef) (firstOk : Bool) (secondOk : Bool) : Statement (.keyCacheFill c k firstOk secondOk) := of_hdr _
theorem keySlotReload (slot : Fin 4096) (copyReadable : Bool) : Statement (.keySlotReload slot copyReadable) := of_hdr _
theorem importTransportKek (h : Hdr) (b : KeyBlob) : Statement (.importTransportKek h b) := of_hdr _
theorem setNamespaceKey (h : Hdr) (b : KeyBlob) : Statement (.setNamespaceKey h b) := of_hdr _
theorem generateNamespaceKey (h : Hdr) (nsid : Nat) : Statement (.generateNamespaceKey h nsid) := of_hdr _
theorem destroyTransportKek (h : Hdr) (index : Nat) : Statement (.destroyTransportKek h index) := of_hdr _
theorem keyStatusReceive (h : Hdr) (nsid : Nat) : Statement (.keyStatusReceive h nsid) := of_hdr _
theorem keyPerIoInject (h : Hdr) (b : KeyBlob) : Statement (.keyPerIoInject h b) := of_hdr _
theorem keyPerIoClear (h : Hdr) (nsid : Nat) (tag : Nat) : Statement (.keyPerIoClear h nsid tag) := of_hdr _
theorem keyEraseDue (slot : Fin 4096) (t : Nat) : Statement (.keyEraseDue slot t) := of_hdr _
theorem digestStart (k : DigestCore) (alg : Nat) (hmac : Bool) (key : Option (List Byte)) : Statement (.digestStart k alg hmac key) := of_hdr _
theorem digestFeed (k : DigestCore) (bytes : List Byte) : Statement (.digestFeed k bytes) := of_hdr _
theorem digestFinish (k : DigestCore) : Statement (.digestFinish k) := of_hdr _
theorem digestRead (k : DigestCore) : Statement (.digestRead k) := of_hdr _
theorem digestCompare (k : DigestCore) (expected : List Byte) (len : Nat) : Statement (.digestCompare k expected len) := of_hdr _
theorem digestSave (k : DigestCore) (nsid : Nat) (zone : Nat) : Statement (.digestSave k nsid zone) := of_hdr _
theorem digestRestore (k : DigestCore) (nsid : Nat) (zone : Nat) (saved : SavedDigest) : Statement (.digestRestore k nsid zone saved) := of_hdr _
theorem shuttleTailWrite (c : ShuttleId) (v : Nat) : Statement (.shuttleTailWrite c v) := of_hdr _
theorem shuttleEnable (c : ShuttleId) (ringBase : Nat) (recordAddr : Nat) (ringLog2 : Nat) : Statement (.shuttleEnable c ringBase recordAddr ringLog2) := of_hdr _
theorem shuttleDisable (c : ShuttleId) : Statement (.shuttleDisable c) := of_hdr _
theorem shuttlePauseWrite (c : ShuttleId) (on : Bool) : Statement (.shuttlePauseWrite c on) := of_hdr _
theorem shuttleClear (c : ShuttleId) : Statement (.shuttleClear c) := of_hdr _
theorem descriptorRead (c : ShuttleId) (d : ShuttleDesc) (e : ReadEnd) : Statement (.descriptorRead c d e) := of_hdr _
theorem descriptorDone (c : ShuttleId) (bytes : List Byte) : Statement (.descriptorDone c bytes) := of_hdr _
theorem shuttlePaused (c : ShuttleId) (bytes : List Byte) : Statement (.shuttlePaused c bytes) := of_hdr _
theorem shuttleHalt (c : ShuttleId) (code : Nat) (bytes : List Byte) : Statement (.shuttleHalt c code bytes) := of_hdr _
theorem bufferAllocate (pool : Fin 16) (h : Holder) (agent : Option LockId) (linkOk : Bool) : Statement (.bufferAllocate pool h agent linkOk) := of_hdr _
theorem referenceIncrement (pool : Fin 16) (buf : Nat) (f : Func) : Statement (.referenceIncrement pool buf f) := of_hdr _
theorem referenceDecrement (pool : Fin 16) (buf : Nat) (f : Option Func) (fence : Bool) : Statement (.referenceDecrement pool buf f fence) := of_hdr _
theorem bufferWaitServed (pool : Fin 16) : Statement (.bufferWaitServed pool) := of_hdr _
theorem domainStopRequest (d : Fin 56) : Statement (.domainStopRequest d) := of_hdr _
theorem domainStopped (d : Fin 56) : Statement (.domainStopped d) := of_hdr _
theorem domainRefusal (d : Fin 56) : Statement (.domainRefusal d) := of_hdr _
theorem sleepEntryStart (t : Nat) : Statement (.sleepEntryStart t) := of_hdr _
theorem refusalHoldExpiry (t : Nat) : Statement (.refusalHoldExpiry t) := of_hdr _
theorem apstIdleExpiry (p : Port) (t : Nat) : Statement (.apstIdleExpiry p t) := of_hdr _
theorem pcieActivityWake (p : Port) (ranks : List (Fin 4 × DramTraining)) : Statement (.pcieActivityWake p ranks) := of_hdr _
theorem wakeFrame (magicOk : Bool) (serial : Nat) (ranks : List (Fin 4 × DramTraining)) : Statement (.wakeFrame magicOk serial ranks) := of_hdr _
theorem managementFrameWake (d : Option Datagram) : Statement (.managementFrameWake d) := of_hdr _
theorem airingStep (t : Nat) (skipped : List (Fin 4)) (failBits : List (Nat × Nat × Bool)) (readable : Bool) : Statement (.airingStep t skipped failBits readable) := of_hdr _
theorem samplerBufferWake (ranks : List (Fin 4 × DramTraining)) : Statement (.samplerBufferWake ranks) := of_hdr _
theorem pwrfailAssert (lowUs : Nat) (t : Nat) : Statement (.pwrfailAssert lowUs t) := of_hdr _
theorem dumpComplete (us : Nat) : Statement (.dumpComplete us) := of_hdr _
theorem pwrfailReturn : Statement (.pwrfailReturn) := of_hdr _
theorem sensorReading (t : Nat) (temps : List Int) (diode : DiodeState) (tenths : Int) : Statement (.sensorReading t temps diode tenths) := of_hdr _
theorem holdupSenseSample (mv : Nat) : Statement (.holdupSenseSample mv) := of_hdr _
theorem pwrfailClassify (c : PwrfailClass) (t : Nat) : Statement (.pwrfailClassify c t) := of_hdr _
theorem recordEnter (code : Nat) (subject : Nat) (domain : Nat) (params : List Nat) : Statement (.recordEnter code subject domain params) := of_hdr _
theorem rateBucketRefill (code : Nat) (t : Nat) : Statement (.rateBucketRefill code t) := of_hdr _
theorem samplerFlush : Statement (.samplerFlush) := of_hdr _
theorem samplerFlushTimer (t : Nat) : Statement (.samplerFlushTimer t) := of_hdr _
theorem samplerFlushDone (fails : List Nat) : Statement (.samplerFlushDone fails) := of_hdr _
theorem windowSlotRead (acc : Accessor) (slot : Fin 16) : Statement (.windowSlotRead acc slot) := of_hdr _
theorem cursorAdvance (acc : Accessor) : Statement (.cursorAdvance acc) := of_hdr _
theorem samplerClear (acc : Accessor) : Statement (.samplerClear acc) := of_hdr _
theorem staingDatagram (d : Datagram) : Statement (.staingDatagram d) := of_hdr _
theorem staingRead (seq : Nat) (reqs : List ReadReq) : Statement (.staingRead seq reqs) := of_hdr _
theorem staingWrite (seq : Nat) (recs : List DictRec) (cellFails : List (Fin 96)) : Statement (.staingWrite seq recs cellFails) := of_hdr _
theorem staingEcho (seq : Nat) : Statement (.staingEcho seq) := of_hdr _
theorem neighborSolicitation (f : IpFrame) : Statement (.neighborSolicitation f) := of_hdr _
theorem echoRequest (f : IpFrame) : Statement (.echoRequest f) := of_hdr _
theorem pairDiagnosis (st : PairState) (wire : Nat) (vFault : Nat) (reversed : Bool) (t : Nat) : Statement (.pairDiagnosis st wire vFault reversed t) := of_hdr _
theorem loopMeasurement (t : Nat) (presFwd : Nat) (presRev : Nat) (sealFwd : Nat) (sealRev : Nat) : Statement (.loopMeasurement t presFwd presRev sealFwd sealRev) := of_hdr _
theorem presenceWindowExpiry (t : Nat) : Statement (.presenceWindowExpiry t) := of_hdr _
theorem factoryEntry (h : Hdr) : Statement (.factoryEntry h) := of_hdr _
theorem rootKeyReset (h : Hdr) : Statement (.rootKeyReset h) := of_hdr _
theorem debugChallenge (h : Hdr) : Statement (.debugChallenge h) := of_hdr _
theorem debugUnlock (h : Hdr) (k : DebugToken) : Statement (.debugUnlock h k) := of_hdr _
theorem managementKeyProvisioning (h : Hdr) (b : KeyBlob) : Statement (.managementKeyProvisioning h b) := of_hdr _
theorem entropySample (bit : Bool) : Statement (.entropySample bit) := of_hdr _
theorem drbgReseed (ok : Bool) : Statement (.drbgReseed ok) := of_hdr _
theorem hostMemoryReadCompletion (h : Hdr) (e : ReadEnd) : Statement (.hostMemoryReadCompletion h e) := of_hdr _
theorem completionTimeout (h : Hdr) : Statement (.completionTimeout h) := of_hdr _
theorem shutdownNotification (f : Func) : Statement (.shutdownNotification f) := of_hdr _
theorem invalidCommandOpcode (h : Hdr) (opcode : Nat) (action : Nat) : Statement (.invalidCommandOpcode h opcode action) := of_hdr _

end Sys2Proof.Laws.Wf
end

