-- ==== Sys2Proof/Laws/State.lean ====
section
/-! SUPPORT. Updates of State: what each field reads after an update of a field, by rfl; the entries of its tables read
back what was set in them. -/
namespace Sys2Proof.Machine

@[simp] theorem State.with_dict_dict (s : State) (x : Dict) : ({ s with dict := x } : State).dict = x := rfl
@[simp] theorem State.with_dict_modes (s : State) (x : Dict) : ({ s with dict := x } : State).modes = s.modes := rfl
@[simp] theorem State.with_dict_sampler (s : State) (x : Dict) : ({ s with dict := x } : State).sampler = s.sampler := rfl
@[simp] theorem State.with_dict_cells (s : State) (x : Dict) : ({ s with dict := x } : State).cells = s.cells := rfl
@[simp] theorem State.with_dict_host (s : State) (x : Dict) : ({ s with dict := x } : State).host = s.host := rfl
@[simp] theorem State.with_dict_sched (s : State) (x : Dict) : ({ s with dict := x } : State).sched = s.sched := rfl
@[simp] theorem State.with_dict_flash (s : State) (x : Dict) : ({ s with dict := x } : State).flash = s.flash := rfl
@[simp] theorem State.with_dict_store (s : State) (x : Dict) : ({ s with dict := x } : State).store = s.store := rfl
@[simp] theorem State.with_dict_power (s : State) (x : Dict) : ({ s with dict := x } : State).power = s.power := rfl
@[simp] theorem State.with_dict_mem (s : State) (x : Dict) : ({ s with dict := x } : State).mem = s.mem := rfl
@[simp] theorem State.with_dict_cipher (s : State) (x : Dict) : ({ s with dict := x } : State).cipher = s.cipher := rfl
@[simp] theorem State.with_dict_engines (s : State) (x : Dict) : ({ s with dict := x } : State).engines = s.engines := rfl
@[simp] theorem State.with_dict_admin (s : State) (x : Dict) : ({ s with dict := x } : State).admin = s.admin := rfl
@[simp] theorem State.with_dict_staing (s : State) (x : Dict) : ({ s with dict := x } : State).staing = s.staing := rfl
@[simp] theorem State.with_dict_security (s : State) (x : Dict) : ({ s with dict := x } : State).security = s.security := rfl
@[simp] theorem State.with_dict_migration (s : State) (x : Dict) : ({ s with dict := x } : State).migration = s.migration := rfl
@[simp] theorem State.with_dict_pending (s : State) (x : Dict) : ({ s with dict := x } : State).pending = s.pending := rfl
@[simp] theorem State.with_dict_now (s : State) (x : Dict) : ({ s with dict := x } : State).now = s.now := rfl
@[simp] theorem State.with_dict_bootAt (s : State) (x : Dict) : ({ s with dict := x } : State).bootAt = s.bootAt := rfl
@[simp] theorem State.with_dict_free (s : State) (x : Dict) : ({ s with dict := x } : State).free = s.free := rfl
@[simp] theorem State.with_dict_out (s : State) (x : Dict) : ({ s with dict := x } : State).out = s.out := rfl

@[simp] theorem State.with_modes_dict (s : State) (x : BitVec 12) : ({ s with modes := x } : State).dict = s.dict := rfl
@[simp] theorem State.with_modes_modes (s : State) (x : BitVec 12) : ({ s with modes := x } : State).modes = x := rfl
@[simp] theorem State.with_modes_sampler (s : State) (x : BitVec 12) : ({ s with modes := x } : State).sampler = s.sampler := rfl
@[simp] theorem State.with_modes_cells (s : State) (x : BitVec 12) : ({ s with modes := x } : State).cells = s.cells := rfl
@[simp] theorem State.with_modes_host (s : State) (x : BitVec 12) : ({ s with modes := x } : State).host = s.host := rfl
@[simp] theorem State.with_modes_sched (s : State) (x : BitVec 12) : ({ s with modes := x } : State).sched = s.sched := rfl
@[simp] theorem State.with_modes_flash (s : State) (x : BitVec 12) : ({ s with modes := x } : State).flash = s.flash := rfl
@[simp] theorem State.with_modes_store (s : State) (x : BitVec 12) : ({ s with modes := x } : State).store = s.store := rfl
@[simp] theorem State.with_modes_power (s : State) (x : BitVec 12) : ({ s with modes := x } : State).power = s.power := rfl
@[simp] theorem State.with_modes_mem (s : State) (x : BitVec 12) : ({ s with modes := x } : State).mem = s.mem := rfl
@[simp] theorem State.with_modes_cipher (s : State) (x : BitVec 12) : ({ s with modes := x } : State).cipher = s.cipher := rfl
@[simp] theorem State.with_modes_engines (s : State) (x : BitVec 12) : ({ s with modes := x } : State).engines = s.engines := rfl
@[simp] theorem State.with_modes_admin (s : State) (x : BitVec 12) : ({ s with modes := x } : State).admin = s.admin := rfl
@[simp] theorem State.with_modes_staing (s : State) (x : BitVec 12) : ({ s with modes := x } : State).staing = s.staing := rfl
@[simp] theorem State.with_modes_security (s : State) (x : BitVec 12) : ({ s with modes := x } : State).security = s.security := rfl
@[simp] theorem State.with_modes_migration (s : State) (x : BitVec 12) : ({ s with modes := x } : State).migration = s.migration := rfl
@[simp] theorem State.with_modes_pending (s : State) (x : BitVec 12) : ({ s with modes := x } : State).pending = s.pending := rfl
@[simp] theorem State.with_modes_now (s : State) (x : BitVec 12) : ({ s with modes := x } : State).now = s.now := rfl
@[simp] theorem State.with_modes_bootAt (s : State) (x : BitVec 12) : ({ s with modes := x } : State).bootAt = s.bootAt := rfl
@[simp] theorem State.with_modes_free (s : State) (x : BitVec 12) : ({ s with modes := x } : State).free = s.free := rfl
@[simp] theorem State.with_modes_out (s : State) (x : BitVec 12) : ({ s with modes := x } : State).out = s.out := rfl

@[simp] theorem State.with_sampler_dict (s : State) (x : Sampler) : ({ s with sampler := x } : State).dict = s.dict := rfl
@[simp] theorem State.with_sampler_modes (s : State) (x : Sampler) : ({ s with sampler := x } : State).modes = s.modes := rfl
@[simp] theorem State.with_sampler_sampler (s : State) (x : Sampler) : ({ s with sampler := x } : State).sampler = x := rfl
@[simp] theorem State.with_sampler_cells (s : State) (x : Sampler) : ({ s with sampler := x } : State).cells = s.cells := rfl
@[simp] theorem State.with_sampler_host (s : State) (x : Sampler) : ({ s with sampler := x } : State).host = s.host := rfl
@[simp] theorem State.with_sampler_sched (s : State) (x : Sampler) : ({ s with sampler := x } : State).sched = s.sched := rfl
@[simp] theorem State.with_sampler_flash (s : State) (x : Sampler) : ({ s with sampler := x } : State).flash = s.flash := rfl
@[simp] theorem State.with_sampler_store (s : State) (x : Sampler) : ({ s with sampler := x } : State).store = s.store := rfl
@[simp] theorem State.with_sampler_power (s : State) (x : Sampler) : ({ s with sampler := x } : State).power = s.power := rfl
@[simp] theorem State.with_sampler_mem (s : State) (x : Sampler) : ({ s with sampler := x } : State).mem = s.mem := rfl
@[simp] theorem State.with_sampler_cipher (s : State) (x : Sampler) : ({ s with sampler := x } : State).cipher = s.cipher := rfl
@[simp] theorem State.with_sampler_engines (s : State) (x : Sampler) : ({ s with sampler := x } : State).engines = s.engines := rfl
@[simp] theorem State.with_sampler_admin (s : State) (x : Sampler) : ({ s with sampler := x } : State).admin = s.admin := rfl
@[simp] theorem State.with_sampler_staing (s : State) (x : Sampler) : ({ s with sampler := x } : State).staing = s.staing := rfl
@[simp] theorem State.with_sampler_security (s : State) (x : Sampler) : ({ s with sampler := x } : State).security = s.security := rfl
@[simp] theorem State.with_sampler_migration (s : State) (x : Sampler) : ({ s with sampler := x } : State).migration = s.migration := rfl
@[simp] theorem State.with_sampler_pending (s : State) (x : Sampler) : ({ s with sampler := x } : State).pending = s.pending := rfl
@[simp] theorem State.with_sampler_now (s : State) (x : Sampler) : ({ s with sampler := x } : State).now = s.now := rfl
@[simp] theorem State.with_sampler_bootAt (s : State) (x : Sampler) : ({ s with sampler := x } : State).bootAt = s.bootAt := rfl
@[simp] theorem State.with_sampler_free (s : State) (x : Sampler) : ({ s with sampler := x } : State).free = s.free := rfl
@[simp] theorem State.with_sampler_out (s : State) (x : Sampler) : ({ s with sampler := x } : State).out = s.out := rfl

@[simp] theorem State.with_cells_dict (s : State) (x : Cells) : ({ s with cells := x } : State).dict = s.dict := rfl
@[simp] theorem State.with_cells_modes (s : State) (x : Cells) : ({ s with cells := x } : State).modes = s.modes := rfl
@[simp] theorem State.with_cells_sampler (s : State) (x : Cells) : ({ s with cells := x } : State).sampler = s.sampler := rfl
@[simp] theorem State.with_cells_cells (s : State) (x : Cells) : ({ s with cells := x } : State).cells = x := rfl
@[simp] theorem State.with_cells_host (s : State) (x : Cells) : ({ s with cells := x } : State).host = s.host := rfl
@[simp] theorem State.with_cells_sched (s : State) (x : Cells) : ({ s with cells := x } : State).sched = s.sched := rfl
@[simp] theorem State.with_cells_flash (s : State) (x : Cells) : ({ s with cells := x } : State).flash = s.flash := rfl
@[simp] theorem State.with_cells_store (s : State) (x : Cells) : ({ s with cells := x } : State).store = s.store := rfl
@[simp] theorem State.with_cells_power (s : State) (x : Cells) : ({ s with cells := x } : State).power = s.power := rfl
@[simp] theorem State.with_cells_mem (s : State) (x : Cells) : ({ s with cells := x } : State).mem = s.mem := rfl
@[simp] theorem State.with_cells_cipher (s : State) (x : Cells) : ({ s with cells := x } : State).cipher = s.cipher := rfl
@[simp] theorem State.with_cells_engines (s : State) (x : Cells) : ({ s with cells := x } : State).engines = s.engines := rfl
@[simp] theorem State.with_cells_admin (s : State) (x : Cells) : ({ s with cells := x } : State).admin = s.admin := rfl
@[simp] theorem State.with_cells_staing (s : State) (x : Cells) : ({ s with cells := x } : State).staing = s.staing := rfl
@[simp] theorem State.with_cells_security (s : State) (x : Cells) : ({ s with cells := x } : State).security = s.security := rfl
@[simp] theorem State.with_cells_migration (s : State) (x : Cells) : ({ s with cells := x } : State).migration = s.migration := rfl
@[simp] theorem State.with_cells_pending (s : State) (x : Cells) : ({ s with cells := x } : State).pending = s.pending := rfl
@[simp] theorem State.with_cells_now (s : State) (x : Cells) : ({ s with cells := x } : State).now = s.now := rfl
@[simp] theorem State.with_cells_bootAt (s : State) (x : Cells) : ({ s with cells := x } : State).bootAt = s.bootAt := rfl
@[simp] theorem State.with_cells_free (s : State) (x : Cells) : ({ s with cells := x } : State).free = s.free := rfl
@[simp] theorem State.with_cells_out (s : State) (x : Cells) : ({ s with cells := x } : State).out = s.out := rfl

@[simp] theorem State.with_host_dict (s : State) (x : HostSt) : ({ s with host := x } : State).dict = s.dict := rfl
@[simp] theorem State.with_host_modes (s : State) (x : HostSt) : ({ s with host := x } : State).modes = s.modes := rfl
@[simp] theorem State.with_host_sampler (s : State) (x : HostSt) : ({ s with host := x } : State).sampler = s.sampler := rfl
@[simp] theorem State.with_host_cells (s : State) (x : HostSt) : ({ s with host := x } : State).cells = s.cells := rfl
@[simp] theorem State.with_host_host (s : State) (x : HostSt) : ({ s with host := x } : State).host = x := rfl
@[simp] theorem State.with_host_sched (s : State) (x : HostSt) : ({ s with host := x } : State).sched = s.sched := rfl
@[simp] theorem State.with_host_flash (s : State) (x : HostSt) : ({ s with host := x } : State).flash = s.flash := rfl
@[simp] theorem State.with_host_store (s : State) (x : HostSt) : ({ s with host := x } : State).store = s.store := rfl
@[simp] theorem State.with_host_power (s : State) (x : HostSt) : ({ s with host := x } : State).power = s.power := rfl
@[simp] theorem State.with_host_mem (s : State) (x : HostSt) : ({ s with host := x } : State).mem = s.mem := rfl
@[simp] theorem State.with_host_cipher (s : State) (x : HostSt) : ({ s with host := x } : State).cipher = s.cipher := rfl
@[simp] theorem State.with_host_engines (s : State) (x : HostSt) : ({ s with host := x } : State).engines = s.engines := rfl
@[simp] theorem State.with_host_admin (s : State) (x : HostSt) : ({ s with host := x } : State).admin = s.admin := rfl
@[simp] theorem State.with_host_staing (s : State) (x : HostSt) : ({ s with host := x } : State).staing = s.staing := rfl
@[simp] theorem State.with_host_security (s : State) (x : HostSt) : ({ s with host := x } : State).security = s.security := rfl
@[simp] theorem State.with_host_migration (s : State) (x : HostSt) : ({ s with host := x } : State).migration = s.migration := rfl
@[simp] theorem State.with_host_pending (s : State) (x : HostSt) : ({ s with host := x } : State).pending = s.pending := rfl
@[simp] theorem State.with_host_now (s : State) (x : HostSt) : ({ s with host := x } : State).now = s.now := rfl
@[simp] theorem State.with_host_bootAt (s : State) (x : HostSt) : ({ s with host := x } : State).bootAt = s.bootAt := rfl
@[simp] theorem State.with_host_free (s : State) (x : HostSt) : ({ s with host := x } : State).free = s.free := rfl
@[simp] theorem State.with_host_out (s : State) (x : HostSt) : ({ s with host := x } : State).out = s.out := rfl

@[simp] theorem State.with_sched_dict (s : State) (x : Sched) : ({ s with sched := x } : State).dict = s.dict := rfl
@[simp] theorem State.with_sched_modes (s : State) (x : Sched) : ({ s with sched := x } : State).modes = s.modes := rfl
@[simp] theorem State.with_sched_sampler (s : State) (x : Sched) : ({ s with sched := x } : State).sampler = s.sampler := rfl
@[simp] theorem State.with_sched_cells (s : State) (x : Sched) : ({ s with sched := x } : State).cells = s.cells := rfl
@[simp] theorem State.with_sched_host (s : State) (x : Sched) : ({ s with sched := x } : State).host = s.host := rfl
@[simp] theorem State.with_sched_sched (s : State) (x : Sched) : ({ s with sched := x } : State).sched = x := rfl
@[simp] theorem State.with_sched_flash (s : State) (x : Sched) : ({ s with sched := x } : State).flash = s.flash := rfl
@[simp] theorem State.with_sched_store (s : State) (x : Sched) : ({ s with sched := x } : State).store = s.store := rfl
@[simp] theorem State.with_sched_power (s : State) (x : Sched) : ({ s with sched := x } : State).power = s.power := rfl
@[simp] theorem State.with_sched_mem (s : State) (x : Sched) : ({ s with sched := x } : State).mem = s.mem := rfl
@[simp] theorem State.with_sched_cipher (s : State) (x : Sched) : ({ s with sched := x } : State).cipher = s.cipher := rfl
@[simp] theorem State.with_sched_engines (s : State) (x : Sched) : ({ s with sched := x } : State).engines = s.engines := rfl
@[simp] theorem State.with_sched_admin (s : State) (x : Sched) : ({ s with sched := x } : State).admin = s.admin := rfl
@[simp] theorem State.with_sched_staing (s : State) (x : Sched) : ({ s with sched := x } : State).staing = s.staing := rfl
@[simp] theorem State.with_sched_security (s : State) (x : Sched) : ({ s with sched := x } : State).security = s.security := rfl
@[simp] theorem State.with_sched_migration (s : State) (x : Sched) : ({ s with sched := x } : State).migration = s.migration := rfl
@[simp] theorem State.with_sched_pending (s : State) (x : Sched) : ({ s with sched := x } : State).pending = s.pending := rfl
@[simp] theorem State.with_sched_now (s : State) (x : Sched) : ({ s with sched := x } : State).now = s.now := rfl
@[simp] theorem State.with_sched_bootAt (s : State) (x : Sched) : ({ s with sched := x } : State).bootAt = s.bootAt := rfl
@[simp] theorem State.with_sched_free (s : State) (x : Sched) : ({ s with sched := x } : State).free = s.free := rfl
@[simp] theorem State.with_sched_out (s : State) (x : Sched) : ({ s with sched := x } : State).out = s.out := rfl

@[simp] theorem State.with_flash_dict (s : State) (x : Flash) : ({ s with flash := x } : State).dict = s.dict := rfl
@[simp] theorem State.with_flash_modes (s : State) (x : Flash) : ({ s with flash := x } : State).modes = s.modes := rfl
@[simp] theorem State.with_flash_sampler (s : State) (x : Flash) : ({ s with flash := x } : State).sampler = s.sampler := rfl
@[simp] theorem State.with_flash_cells (s : State) (x : Flash) : ({ s with flash := x } : State).cells = s.cells := rfl
@[simp] theorem State.with_flash_host (s : State) (x : Flash) : ({ s with flash := x } : State).host = s.host := rfl
@[simp] theorem State.with_flash_sched (s : State) (x : Flash) : ({ s with flash := x } : State).sched = s.sched := rfl
@[simp] theorem State.with_flash_flash (s : State) (x : Flash) : ({ s with flash := x } : State).flash = x := rfl
@[simp] theorem State.with_flash_store (s : State) (x : Flash) : ({ s with flash := x } : State).store = s.store := rfl
@[simp] theorem State.with_flash_power (s : State) (x : Flash) : ({ s with flash := x } : State).power = s.power := rfl
@[simp] theorem State.with_flash_mem (s : State) (x : Flash) : ({ s with flash := x } : State).mem = s.mem := rfl
@[simp] theorem State.with_flash_cipher (s : State) (x : Flash) : ({ s with flash := x } : State).cipher = s.cipher := rfl
@[simp] theorem State.with_flash_engines (s : State) (x : Flash) : ({ s with flash := x } : State).engines = s.engines := rfl
@[simp] theorem State.with_flash_admin (s : State) (x : Flash) : ({ s with flash := x } : State).admin = s.admin := rfl
@[simp] theorem State.with_flash_staing (s : State) (x : Flash) : ({ s with flash := x } : State).staing = s.staing := rfl
@[simp] theorem State.with_flash_security (s : State) (x : Flash) : ({ s with flash := x } : State).security = s.security := rfl
@[simp] theorem State.with_flash_migration (s : State) (x : Flash) : ({ s with flash := x } : State).migration = s.migration := rfl
@[simp] theorem State.with_flash_pending (s : State) (x : Flash) : ({ s with flash := x } : State).pending = s.pending := rfl
@[simp] theorem State.with_flash_now (s : State) (x : Flash) : ({ s with flash := x } : State).now = s.now := rfl
@[simp] theorem State.with_flash_bootAt (s : State) (x : Flash) : ({ s with flash := x } : State).bootAt = s.bootAt := rfl
@[simp] theorem State.with_flash_free (s : State) (x : Flash) : ({ s with flash := x } : State).free = s.free := rfl
@[simp] theorem State.with_flash_out (s : State) (x : Flash) : ({ s with flash := x } : State).out = s.out := rfl

@[simp] theorem State.with_store_dict (s : State) (x : Store) : ({ s with store := x } : State).dict = s.dict := rfl
@[simp] theorem State.with_store_modes (s : State) (x : Store) : ({ s with store := x } : State).modes = s.modes := rfl
@[simp] theorem State.with_store_sampler (s : State) (x : Store) : ({ s with store := x } : State).sampler = s.sampler := rfl
@[simp] theorem State.with_store_cells (s : State) (x : Store) : ({ s with store := x } : State).cells = s.cells := rfl
@[simp] theorem State.with_store_host (s : State) (x : Store) : ({ s with store := x } : State).host = s.host := rfl
@[simp] theorem State.with_store_sched (s : State) (x : Store) : ({ s with store := x } : State).sched = s.sched := rfl
@[simp] theorem State.with_store_flash (s : State) (x : Store) : ({ s with store := x } : State).flash = s.flash := rfl
@[simp] theorem State.with_store_store (s : State) (x : Store) : ({ s with store := x } : State).store = x := rfl
@[simp] theorem State.with_store_power (s : State) (x : Store) : ({ s with store := x } : State).power = s.power := rfl
@[simp] theorem State.with_store_mem (s : State) (x : Store) : ({ s with store := x } : State).mem = s.mem := rfl
@[simp] theorem State.with_store_cipher (s : State) (x : Store) : ({ s with store := x } : State).cipher = s.cipher := rfl
@[simp] theorem State.with_store_engines (s : State) (x : Store) : ({ s with store := x } : State).engines = s.engines := rfl
@[simp] theorem State.with_store_admin (s : State) (x : Store) : ({ s with store := x } : State).admin = s.admin := rfl
@[simp] theorem State.with_store_staing (s : State) (x : Store) : ({ s with store := x } : State).staing = s.staing := rfl
@[simp] theorem State.with_store_security (s : State) (x : Store) : ({ s with store := x } : State).security = s.security := rfl
@[simp] theorem State.with_store_migration (s : State) (x : Store) : ({ s with store := x } : State).migration = s.migration := rfl
@[simp] theorem State.with_store_pending (s : State) (x : Store) : ({ s with store := x } : State).pending = s.pending := rfl
@[simp] theorem State.with_store_now (s : State) (x : Store) : ({ s with store := x } : State).now = s.now := rfl
@[simp] theorem State.with_store_bootAt (s : State) (x : Store) : ({ s with store := x } : State).bootAt = s.bootAt := rfl
@[simp] theorem State.with_store_free (s : State) (x : Store) : ({ s with store := x } : State).free = s.free := rfl
@[simp] theorem State.with_store_out (s : State) (x : Store) : ({ s with store := x } : State).out = s.out := rfl

@[simp] theorem State.with_power_dict (s : State) (x : PowerSt) : ({ s with power := x } : State).dict = s.dict := rfl
@[simp] theorem State.with_power_modes (s : State) (x : PowerSt) : ({ s with power := x } : State).modes = s.modes := rfl
@[simp] theorem State.with_power_sampler (s : State) (x : PowerSt) : ({ s with power := x } : State).sampler = s.sampler := rfl
@[simp] theorem State.with_power_cells (s : State) (x : PowerSt) : ({ s with power := x } : State).cells = s.cells := rfl
@[simp] theorem State.with_power_host (s : State) (x : PowerSt) : ({ s with power := x } : State).host = s.host := rfl
@[simp] theorem State.with_power_sched (s : State) (x : PowerSt) : ({ s with power := x } : State).sched = s.sched := rfl
@[simp] theorem State.with_power_flash (s : State) (x : PowerSt) : ({ s with power := x } : State).flash = s.flash := rfl
@[simp] theorem State.with_power_store (s : State) (x : PowerSt) : ({ s with power := x } : State).store = s.store := rfl
@[simp] theorem State.with_power_power (s : State) (x : PowerSt) : ({ s with power := x } : State).power = x := rfl
@[simp] theorem State.with_power_mem (s : State) (x : PowerSt) : ({ s with power := x } : State).mem = s.mem := rfl
@[simp] theorem State.with_power_cipher (s : State) (x : PowerSt) : ({ s with power := x } : State).cipher = s.cipher := rfl
@[simp] theorem State.with_power_engines (s : State) (x : PowerSt) : ({ s with power := x } : State).engines = s.engines := rfl
@[simp] theorem State.with_power_admin (s : State) (x : PowerSt) : ({ s with power := x } : State).admin = s.admin := rfl
@[simp] theorem State.with_power_staing (s : State) (x : PowerSt) : ({ s with power := x } : State).staing = s.staing := rfl
@[simp] theorem State.with_power_security (s : State) (x : PowerSt) : ({ s with power := x } : State).security = s.security := rfl
@[simp] theorem State.with_power_migration (s : State) (x : PowerSt) : ({ s with power := x } : State).migration = s.migration := rfl
@[simp] theorem State.with_power_pending (s : State) (x : PowerSt) : ({ s with power := x } : State).pending = s.pending := rfl
@[simp] theorem State.with_power_now (s : State) (x : PowerSt) : ({ s with power := x } : State).now = s.now := rfl
@[simp] theorem State.with_power_bootAt (s : State) (x : PowerSt) : ({ s with power := x } : State).bootAt = s.bootAt := rfl
@[simp] theorem State.with_power_free (s : State) (x : PowerSt) : ({ s with power := x } : State).free = s.free := rfl
@[simp] theorem State.with_power_out (s : State) (x : PowerSt) : ({ s with power := x } : State).out = s.out := rfl

@[simp] theorem State.with_mem_dict (s : State) (x : Mem) : ({ s with mem := x } : State).dict = s.dict := rfl
@[simp] theorem State.with_mem_modes (s : State) (x : Mem) : ({ s with mem := x } : State).modes = s.modes := rfl
@[simp] theorem State.with_mem_sampler (s : State) (x : Mem) : ({ s with mem := x } : State).sampler = s.sampler := rfl
@[simp] theorem State.with_mem_cells (s : State) (x : Mem) : ({ s with mem := x } : State).cells = s.cells := rfl
@[simp] theorem State.with_mem_host (s : State) (x : Mem) : ({ s with mem := x } : State).host = s.host := rfl
@[simp] theorem State.with_mem_sched (s : State) (x : Mem) : ({ s with mem := x } : State).sched = s.sched := rfl
@[simp] theorem State.with_mem_flash (s : State) (x : Mem) : ({ s with mem := x } : State).flash = s.flash := rfl
@[simp] theorem State.with_mem_store (s : State) (x : Mem) : ({ s with mem := x } : State).store = s.store := rfl
@[simp] theorem State.with_mem_power (s : State) (x : Mem) : ({ s with mem := x } : State).power = s.power := rfl
@[simp] theorem State.with_mem_mem (s : State) (x : Mem) : ({ s with mem := x } : State).mem = x := rfl
@[simp] theorem State.with_mem_cipher (s : State) (x : Mem) : ({ s with mem := x } : State).cipher = s.cipher := rfl
@[simp] theorem State.with_mem_engines (s : State) (x : Mem) : ({ s with mem := x } : State).engines = s.engines := rfl
@[simp] theorem State.with_mem_admin (s : State) (x : Mem) : ({ s with mem := x } : State).admin = s.admin := rfl
@[simp] theorem State.with_mem_staing (s : State) (x : Mem) : ({ s with mem := x } : State).staing = s.staing := rfl
@[simp] theorem State.with_mem_security (s : State) (x : Mem) : ({ s with mem := x } : State).security = s.security := rfl
@[simp] theorem State.with_mem_migration (s : State) (x : Mem) : ({ s with mem := x } : State).migration = s.migration := rfl
@[simp] theorem State.with_mem_pending (s : State) (x : Mem) : ({ s with mem := x } : State).pending = s.pending := rfl
@[simp] theorem State.with_mem_now (s : State) (x : Mem) : ({ s with mem := x } : State).now = s.now := rfl
@[simp] theorem State.with_mem_bootAt (s : State) (x : Mem) : ({ s with mem := x } : State).bootAt = s.bootAt := rfl
@[simp] theorem State.with_mem_free (s : State) (x : Mem) : ({ s with mem := x } : State).free = s.free := rfl
@[simp] theorem State.with_mem_out (s : State) (x : Mem) : ({ s with mem := x } : State).out = s.out := rfl

@[simp] theorem State.with_cipher_dict (s : State) (x : Cipher) : ({ s with cipher := x } : State).dict = s.dict := rfl
@[simp] theorem State.with_cipher_modes (s : State) (x : Cipher) : ({ s with cipher := x } : State).modes = s.modes := rfl
@[simp] theorem State.with_cipher_sampler (s : State) (x : Cipher) : ({ s with cipher := x } : State).sampler = s.sampler := rfl
@[simp] theorem State.with_cipher_cells (s : State) (x : Cipher) : ({ s with cipher := x } : State).cells = s.cells := rfl
@[simp] theorem State.with_cipher_host (s : State) (x : Cipher) : ({ s with cipher := x } : State).host = s.host := rfl
@[simp] theorem State.with_cipher_sched (s : State) (x : Cipher) : ({ s with cipher := x } : State).sched = s.sched := rfl
@[simp] theorem State.with_cipher_flash (s : State) (x : Cipher) : ({ s with cipher := x } : State).flash = s.flash := rfl
@[simp] theorem State.with_cipher_store (s : State) (x : Cipher) : ({ s with cipher := x } : State).store = s.store := rfl
@[simp] theorem State.with_cipher_power (s : State) (x : Cipher) : ({ s with cipher := x } : State).power = s.power := rfl
@[simp] theorem State.with_cipher_mem (s : State) (x : Cipher) : ({ s with cipher := x } : State).mem = s.mem := rfl
@[simp] theorem State.with_cipher_cipher (s : State) (x : Cipher) : ({ s with cipher := x } : State).cipher = x := rfl
@[simp] theorem State.with_cipher_engines (s : State) (x : Cipher) : ({ s with cipher := x } : State).engines = s.engines := rfl
@[simp] theorem State.with_cipher_admin (s : State) (x : Cipher) : ({ s with cipher := x } : State).admin = s.admin := rfl
@[simp] theorem State.with_cipher_staing (s : State) (x : Cipher) : ({ s with cipher := x } : State).staing = s.staing := rfl
@[simp] theorem State.with_cipher_security (s : State) (x : Cipher) : ({ s with cipher := x } : State).security = s.security := rfl
@[simp] theorem State.with_cipher_migration (s : State) (x : Cipher) : ({ s with cipher := x } : State).migration = s.migration := rfl
@[simp] theorem State.with_cipher_pending (s : State) (x : Cipher) : ({ s with cipher := x } : State).pending = s.pending := rfl
@[simp] theorem State.with_cipher_now (s : State) (x : Cipher) : ({ s with cipher := x } : State).now = s.now := rfl
@[simp] theorem State.with_cipher_bootAt (s : State) (x : Cipher) : ({ s with cipher := x } : State).bootAt = s.bootAt := rfl
@[simp] theorem State.with_cipher_free (s : State) (x : Cipher) : ({ s with cipher := x } : State).free = s.free := rfl
@[simp] theorem State.with_cipher_out (s : State) (x : Cipher) : ({ s with cipher := x } : State).out = s.out := rfl

@[simp] theorem State.with_engines_dict (s : State) (x : Engines) : ({ s with engines := x } : State).dict = s.dict := rfl
@[simp] theorem State.with_engines_modes (s : State) (x : Engines) : ({ s with engines := x } : State).modes = s.modes := rfl
@[simp] theorem State.with_engines_sampler (s : State) (x : Engines) : ({ s with engines := x } : State).sampler = s.sampler := rfl
@[simp] theorem State.with_engines_cells (s : State) (x : Engines) : ({ s with engines := x } : State).cells = s.cells := rfl
@[simp] theorem State.with_engines_host (s : State) (x : Engines) : ({ s with engines := x } : State).host = s.host := rfl
@[simp] theorem State.with_engines_sched (s : State) (x : Engines) : ({ s with engines := x } : State).sched = s.sched := rfl
@[simp] theorem State.with_engines_flash (s : State) (x : Engines) : ({ s with engines := x } : State).flash = s.flash := rfl
@[simp] theorem State.with_engines_store (s : State) (x : Engines) : ({ s with engines := x } : State).store = s.store := rfl
@[simp] theorem State.with_engines_power (s : State) (x : Engines) : ({ s with engines := x } : State).power = s.power := rfl
@[simp] theorem State.with_engines_mem (s : State) (x : Engines) : ({ s with engines := x } : State).mem = s.mem := rfl
@[simp] theorem State.with_engines_cipher (s : State) (x : Engines) : ({ s with engines := x } : State).cipher = s.cipher := rfl
@[simp] theorem State.with_engines_engines (s : State) (x : Engines) : ({ s with engines := x } : State).engines = x := rfl
@[simp] theorem State.with_engines_admin (s : State) (x : Engines) : ({ s with engines := x } : State).admin = s.admin := rfl
@[simp] theorem State.with_engines_staing (s : State) (x : Engines) : ({ s with engines := x } : State).staing = s.staing := rfl
@[simp] theorem State.with_engines_security (s : State) (x : Engines) : ({ s with engines := x } : State).security = s.security := rfl
@[simp] theorem State.with_engines_migration (s : State) (x : Engines) : ({ s with engines := x } : State).migration = s.migration := rfl
@[simp] theorem State.with_engines_pending (s : State) (x : Engines) : ({ s with engines := x } : State).pending = s.pending := rfl
@[simp] theorem State.with_engines_now (s : State) (x : Engines) : ({ s with engines := x } : State).now = s.now := rfl
@[simp] theorem State.with_engines_bootAt (s : State) (x : Engines) : ({ s with engines := x } : State).bootAt = s.bootAt := rfl
@[simp] theorem State.with_engines_free (s : State) (x : Engines) : ({ s with engines := x } : State).free = s.free := rfl
@[simp] theorem State.with_engines_out (s : State) (x : Engines) : ({ s with engines := x } : State).out = s.out := rfl

@[simp] theorem State.with_admin_dict (s : State) (x : Admin) : ({ s with admin := x } : State).dict = s.dict := rfl
@[simp] theorem State.with_admin_modes (s : State) (x : Admin) : ({ s with admin := x } : State).modes = s.modes := rfl
@[simp] theorem State.with_admin_sampler (s : State) (x : Admin) : ({ s with admin := x } : State).sampler = s.sampler := rfl
@[simp] theorem State.with_admin_cells (s : State) (x : Admin) : ({ s with admin := x } : State).cells = s.cells := rfl
@[simp] theorem State.with_admin_host (s : State) (x : Admin) : ({ s with admin := x } : State).host = s.host := rfl
@[simp] theorem State.with_admin_sched (s : State) (x : Admin) : ({ s with admin := x } : State).sched = s.sched := rfl
@[simp] theorem State.with_admin_flash (s : State) (x : Admin) : ({ s with admin := x } : State).flash = s.flash := rfl
@[simp] theorem State.with_admin_store (s : State) (x : Admin) : ({ s with admin := x } : State).store = s.store := rfl
@[simp] theorem State.with_admin_power (s : State) (x : Admin) : ({ s with admin := x } : State).power = s.power := rfl
@[simp] theorem State.with_admin_mem (s : State) (x : Admin) : ({ s with admin := x } : State).mem = s.mem := rfl
@[simp] theorem State.with_admin_cipher (s : State) (x : Admin) : ({ s with admin := x } : State).cipher = s.cipher := rfl
@[simp] theorem State.with_admin_engines (s : State) (x : Admin) : ({ s with admin := x } : State).engines = s.engines := rfl
@[simp] theorem State.with_admin_admin (s : State) (x : Admin) : ({ s with admin := x } : State).admin = x := rfl
@[simp] theorem State.with_admin_staing (s : State) (x : Admin) : ({ s with admin := x } : State).staing = s.staing := rfl
@[simp] theorem State.with_admin_security (s : State) (x : Admin) : ({ s with admin := x } : State).security = s.security := rfl
@[simp] theorem State.with_admin_migration (s : State) (x : Admin) : ({ s with admin := x } : State).migration = s.migration := rfl
@[simp] theorem State.with_admin_pending (s : State) (x : Admin) : ({ s with admin := x } : State).pending = s.pending := rfl
@[simp] theorem State.with_admin_now (s : State) (x : Admin) : ({ s with admin := x } : State).now = s.now := rfl
@[simp] theorem State.with_admin_bootAt (s : State) (x : Admin) : ({ s with admin := x } : State).bootAt = s.bootAt := rfl
@[simp] theorem State.with_admin_free (s : State) (x : Admin) : ({ s with admin := x } : State).free = s.free := rfl
@[simp] theorem State.with_admin_out (s : State) (x : Admin) : ({ s with admin := x } : State).out = s.out := rfl

@[simp] theorem State.with_staing_dict (s : State) (x : Staing) : ({ s with staing := x } : State).dict = s.dict := rfl
@[simp] theorem State.with_staing_modes (s : State) (x : Staing) : ({ s with staing := x } : State).modes = s.modes := rfl
@[simp] theorem State.with_staing_sampler (s : State) (x : Staing) : ({ s with staing := x } : State).sampler = s.sampler := rfl
@[simp] theorem State.with_staing_cells (s : State) (x : Staing) : ({ s with staing := x } : State).cells = s.cells := rfl
@[simp] theorem State.with_staing_host (s : State) (x : Staing) : ({ s with staing := x } : State).host = s.host := rfl
@[simp] theorem State.with_staing_sched (s : State) (x : Staing) : ({ s with staing := x } : State).sched = s.sched := rfl
@[simp] theorem State.with_staing_flash (s : State) (x : Staing) : ({ s with staing := x } : State).flash = s.flash := rfl
@[simp] theorem State.with_staing_store (s : State) (x : Staing) : ({ s with staing := x } : State).store = s.store := rfl
@[simp] theorem State.with_staing_power (s : State) (x : Staing) : ({ s with staing := x } : State).power = s.power := rfl
@[simp] theorem State.with_staing_mem (s : State) (x : Staing) : ({ s with staing := x } : State).mem = s.mem := rfl
@[simp] theorem State.with_staing_cipher (s : State) (x : Staing) : ({ s with staing := x } : State).cipher = s.cipher := rfl
@[simp] theorem State.with_staing_engines (s : State) (x : Staing) : ({ s with staing := x } : State).engines = s.engines := rfl
@[simp] theorem State.with_staing_admin (s : State) (x : Staing) : ({ s with staing := x } : State).admin = s.admin := rfl
@[simp] theorem State.with_staing_staing (s : State) (x : Staing) : ({ s with staing := x } : State).staing = x := rfl
@[simp] theorem State.with_staing_security (s : State) (x : Staing) : ({ s with staing := x } : State).security = s.security := rfl
@[simp] theorem State.with_staing_migration (s : State) (x : Staing) : ({ s with staing := x } : State).migration = s.migration := rfl
@[simp] theorem State.with_staing_pending (s : State) (x : Staing) : ({ s with staing := x } : State).pending = s.pending := rfl
@[simp] theorem State.with_staing_now (s : State) (x : Staing) : ({ s with staing := x } : State).now = s.now := rfl
@[simp] theorem State.with_staing_bootAt (s : State) (x : Staing) : ({ s with staing := x } : State).bootAt = s.bootAt := rfl
@[simp] theorem State.with_staing_free (s : State) (x : Staing) : ({ s with staing := x } : State).free = s.free := rfl
@[simp] theorem State.with_staing_out (s : State) (x : Staing) : ({ s with staing := x } : State).out = s.out := rfl

@[simp] theorem State.with_security_dict (s : State) (x : Security) : ({ s with security := x } : State).dict = s.dict := rfl
@[simp] theorem State.with_security_modes (s : State) (x : Security) : ({ s with security := x } : State).modes = s.modes := rfl
@[simp] theorem State.with_security_sampler (s : State) (x : Security) : ({ s with security := x } : State).sampler = s.sampler := rfl
@[simp] theorem State.with_security_cells (s : State) (x : Security) : ({ s with security := x } : State).cells = s.cells := rfl
@[simp] theorem State.with_security_host (s : State) (x : Security) : ({ s with security := x } : State).host = s.host := rfl
@[simp] theorem State.with_security_sched (s : State) (x : Security) : ({ s with security := x } : State).sched = s.sched := rfl
@[simp] theorem State.with_security_flash (s : State) (x : Security) : ({ s with security := x } : State).flash = s.flash := rfl
@[simp] theorem State.with_security_store (s : State) (x : Security) : ({ s with security := x } : State).store = s.store := rfl
@[simp] theorem State.with_security_power (s : State) (x : Security) : ({ s with security := x } : State).power = s.power := rfl
@[simp] theorem State.with_security_mem (s : State) (x : Security) : ({ s with security := x } : State).mem = s.mem := rfl
@[simp] theorem State.with_security_cipher (s : State) (x : Security) : ({ s with security := x } : State).cipher = s.cipher := rfl
@[simp] theorem State.with_security_engines (s : State) (x : Security) : ({ s with security := x } : State).engines = s.engines := rfl
@[simp] theorem State.with_security_admin (s : State) (x : Security) : ({ s with security := x } : State).admin = s.admin := rfl
@[simp] theorem State.with_security_staing (s : State) (x : Security) : ({ s with security := x } : State).staing = s.staing := rfl
@[simp] theorem State.with_security_security (s : State) (x : Security) : ({ s with security := x } : State).security = x := rfl
@[simp] theorem State.with_security_migration (s : State) (x : Security) : ({ s with security := x } : State).migration = s.migration := rfl
@[simp] theorem State.with_security_pending (s : State) (x : Security) : ({ s with security := x } : State).pending = s.pending := rfl
@[simp] theorem State.with_security_now (s : State) (x : Security) : ({ s with security := x } : State).now = s.now := rfl
@[simp] theorem State.with_security_bootAt (s : State) (x : Security) : ({ s with security := x } : State).bootAt = s.bootAt := rfl
@[simp] theorem State.with_security_free (s : State) (x : Security) : ({ s with security := x } : State).free = s.free := rfl
@[simp] theorem State.with_security_out (s : State) (x : Security) : ({ s with security := x } : State).out = s.out := rfl

@[simp] theorem State.with_migration_dict (s : State) (x : Migration) : ({ s with migration := x } : State).dict = s.dict := rfl
@[simp] theorem State.with_migration_modes (s : State) (x : Migration) : ({ s with migration := x } : State).modes = s.modes := rfl
@[simp] theorem State.with_migration_sampler (s : State) (x : Migration) : ({ s with migration := x } : State).sampler = s.sampler := rfl
@[simp] theorem State.with_migration_cells (s : State) (x : Migration) : ({ s with migration := x } : State).cells = s.cells := rfl
@[simp] theorem State.with_migration_host (s : State) (x : Migration) : ({ s with migration := x } : State).host = s.host := rfl
@[simp] theorem State.with_migration_sched (s : State) (x : Migration) : ({ s with migration := x } : State).sched = s.sched := rfl
@[simp] theorem State.with_migration_flash (s : State) (x : Migration) : ({ s with migration := x } : State).flash = s.flash := rfl
@[simp] theorem State.with_migration_store (s : State) (x : Migration) : ({ s with migration := x } : State).store = s.store := rfl
@[simp] theorem State.with_migration_power (s : State) (x : Migration) : ({ s with migration := x } : State).power = s.power := rfl
@[simp] theorem State.with_migration_mem (s : State) (x : Migration) : ({ s with migration := x } : State).mem = s.mem := rfl
@[simp] theorem State.with_migration_cipher (s : State) (x : Migration) : ({ s with migration := x } : State).cipher = s.cipher := rfl
@[simp] theorem State.with_migration_engines (s : State) (x : Migration) : ({ s with migration := x } : State).engines = s.engines := rfl
@[simp] theorem State.with_migration_admin (s : State) (x : Migration) : ({ s with migration := x } : State).admin = s.admin := rfl
@[simp] theorem State.with_migration_staing (s : State) (x : Migration) : ({ s with migration := x } : State).staing = s.staing := rfl
@[simp] theorem State.with_migration_security (s : State) (x : Migration) : ({ s with migration := x } : State).security = s.security := rfl
@[simp] theorem State.with_migration_migration (s : State) (x : Migration) : ({ s with migration := x } : State).migration = x := rfl
@[simp] theorem State.with_migration_pending (s : State) (x : Migration) : ({ s with migration := x } : State).pending = s.pending := rfl
@[simp] theorem State.with_migration_now (s : State) (x : Migration) : ({ s with migration := x } : State).now = s.now := rfl
@[simp] theorem State.with_migration_bootAt (s : State) (x : Migration) : ({ s with migration := x } : State).bootAt = s.bootAt := rfl
@[simp] theorem State.with_migration_free (s : State) (x : Migration) : ({ s with migration := x } : State).free = s.free := rfl
@[simp] theorem State.with_migration_out (s : State) (x : Migration) : ({ s with migration := x } : State).out = s.out := rfl

@[simp] theorem State.with_pending_dict (s : State) (x : List Instr) : ({ s with pending := x } : State).dict = s.dict := rfl
@[simp] theorem State.with_pending_modes (s : State) (x : List Instr) : ({ s with pending := x } : State).modes = s.modes := rfl
@[simp] theorem State.with_pending_sampler (s : State) (x : List Instr) : ({ s with pending := x } : State).sampler = s.sampler := rfl
@[simp] theorem State.with_pending_cells (s : State) (x : List Instr) : ({ s with pending := x } : State).cells = s.cells := rfl
@[simp] theorem State.with_pending_host (s : State) (x : List Instr) : ({ s with pending := x } : State).host = s.host := rfl
@[simp] theorem State.with_pending_sched (s : State) (x : List Instr) : ({ s with pending := x } : State).sched = s.sched := rfl
@[simp] theorem State.with_pending_flash (s : State) (x : List Instr) : ({ s with pending := x } : State).flash = s.flash := rfl
@[simp] theorem State.with_pending_store (s : State) (x : List Instr) : ({ s with pending := x } : State).store = s.store := rfl
@[simp] theorem State.with_pending_power (s : State) (x : List Instr) : ({ s with pending := x } : State).power = s.power := rfl
@[simp] theorem State.with_pending_mem (s : State) (x : List Instr) : ({ s with pending := x } : State).mem = s.mem := rfl
@[simp] theorem State.with_pending_cipher (s : State) (x : List Instr) : ({ s with pending := x } : State).cipher = s.cipher := rfl
@[simp] theorem State.with_pending_engines (s : State) (x : List Instr) : ({ s with pending := x } : State).engines = s.engines := rfl
@[simp] theorem State.with_pending_admin (s : State) (x : List Instr) : ({ s with pending := x } : State).admin = s.admin := rfl
@[simp] theorem State.with_pending_staing (s : State) (x : List Instr) : ({ s with pending := x } : State).staing = s.staing := rfl
@[simp] theorem State.with_pending_security (s : State) (x : List Instr) : ({ s with pending := x } : State).security = s.security := rfl
@[simp] theorem State.with_pending_migration (s : State) (x : List Instr) : ({ s with pending := x } : State).migration = s.migration := rfl
@[simp] theorem State.with_pending_pending (s : State) (x : List Instr) : ({ s with pending := x } : State).pending = x := rfl
@[simp] theorem State.with_pending_now (s : State) (x : List Instr) : ({ s with pending := x } : State).now = s.now := rfl
@[simp] theorem State.with_pending_bootAt (s : State) (x : List Instr) : ({ s with pending := x } : State).bootAt = s.bootAt := rfl
@[simp] theorem State.with_pending_free (s : State) (x : List Instr) : ({ s with pending := x } : State).free = s.free := rfl
@[simp] theorem State.with_pending_out (s : State) (x : List Instr) : ({ s with pending := x } : State).out = s.out := rfl

@[simp] theorem State.with_now_dict (s : State) (x : Nat) : ({ s with now := x } : State).dict = s.dict := rfl
@[simp] theorem State.with_now_modes (s : State) (x : Nat) : ({ s with now := x } : State).modes = s.modes := rfl
@[simp] theorem State.with_now_sampler (s : State) (x : Nat) : ({ s with now := x } : State).sampler = s.sampler := rfl
@[simp] theorem State.with_now_cells (s : State) (x : Nat) : ({ s with now := x } : State).cells = s.cells := rfl
@[simp] theorem State.with_now_host (s : State) (x : Nat) : ({ s with now := x } : State).host = s.host := rfl
@[simp] theorem State.with_now_sched (s : State) (x : Nat) : ({ s with now := x } : State).sched = s.sched := rfl
@[simp] theorem State.with_now_flash (s : State) (x : Nat) : ({ s with now := x } : State).flash = s.flash := rfl
@[simp] theorem State.with_now_store (s : State) (x : Nat) : ({ s with now := x } : State).store = s.store := rfl
@[simp] theorem State.with_now_power (s : State) (x : Nat) : ({ s with now := x } : State).power = s.power := rfl
@[simp] theorem State.with_now_mem (s : State) (x : Nat) : ({ s with now := x } : State).mem = s.mem := rfl
@[simp] theorem State.with_now_cipher (s : State) (x : Nat) : ({ s with now := x } : State).cipher = s.cipher := rfl
@[simp] theorem State.with_now_engines (s : State) (x : Nat) : ({ s with now := x } : State).engines = s.engines := rfl
@[simp] theorem State.with_now_admin (s : State) (x : Nat) : ({ s with now := x } : State).admin = s.admin := rfl
@[simp] theorem State.with_now_staing (s : State) (x : Nat) : ({ s with now := x } : State).staing = s.staing := rfl
@[simp] theorem State.with_now_security (s : State) (x : Nat) : ({ s with now := x } : State).security = s.security := rfl
@[simp] theorem State.with_now_migration (s : State) (x : Nat) : ({ s with now := x } : State).migration = s.migration := rfl
@[simp] theorem State.with_now_pending (s : State) (x : Nat) : ({ s with now := x } : State).pending = s.pending := rfl
@[simp] theorem State.with_now_now (s : State) (x : Nat) : ({ s with now := x } : State).now = x := rfl
@[simp] theorem State.with_now_bootAt (s : State) (x : Nat) : ({ s with now := x } : State).bootAt = s.bootAt := rfl
@[simp] theorem State.with_now_free (s : State) (x : Nat) : ({ s with now := x } : State).free = s.free := rfl
@[simp] theorem State.with_now_out (s : State) (x : Nat) : ({ s with now := x } : State).out = s.out := rfl

@[simp] theorem State.with_bootAt_dict (s : State) (x : Nat) : ({ s with bootAt := x } : State).dict = s.dict := rfl
@[simp] theorem State.with_bootAt_modes (s : State) (x : Nat) : ({ s with bootAt := x } : State).modes = s.modes := rfl
@[simp] theorem State.with_bootAt_sampler (s : State) (x : Nat) : ({ s with bootAt := x } : State).sampler = s.sampler := rfl
@[simp] theorem State.with_bootAt_cells (s : State) (x : Nat) : ({ s with bootAt := x } : State).cells = s.cells := rfl
@[simp] theorem State.with_bootAt_host (s : State) (x : Nat) : ({ s with bootAt := x } : State).host = s.host := rfl
@[simp] theorem State.with_bootAt_sched (s : State) (x : Nat) : ({ s with bootAt := x } : State).sched = s.sched := rfl
@[simp] theorem State.with_bootAt_flash (s : State) (x : Nat) : ({ s with bootAt := x } : State).flash = s.flash := rfl
@[simp] theorem State.with_bootAt_store (s : State) (x : Nat) : ({ s with bootAt := x } : State).store = s.store := rfl
@[simp] theorem State.with_bootAt_power (s : State) (x : Nat) : ({ s with bootAt := x } : State).power = s.power := rfl
@[simp] theorem State.with_bootAt_mem (s : State) (x : Nat) : ({ s with bootAt := x } : State).mem = s.mem := rfl
@[simp] theorem State.with_bootAt_cipher (s : State) (x : Nat) : ({ s with bootAt := x } : State).cipher = s.cipher := rfl
@[simp] theorem State.with_bootAt_engines (s : State) (x : Nat) : ({ s with bootAt := x } : State).engines = s.engines := rfl
@[simp] theorem State.with_bootAt_admin (s : State) (x : Nat) : ({ s with bootAt := x } : State).admin = s.admin := rfl
@[simp] theorem State.with_bootAt_staing (s : State) (x : Nat) : ({ s with bootAt := x } : State).staing = s.staing := rfl
@[simp] theorem State.with_bootAt_security (s : State) (x : Nat) : ({ s with bootAt := x } : State).security = s.security := rfl
@[simp] theorem State.with_bootAt_migration (s : State) (x : Nat) : ({ s with bootAt := x } : State).migration = s.migration := rfl
@[simp] theorem State.with_bootAt_pending (s : State) (x : Nat) : ({ s with bootAt := x } : State).pending = s.pending := rfl
@[simp] theorem State.with_bootAt_now (s : State) (x : Nat) : ({ s with bootAt := x } : State).now = s.now := rfl
@[simp] theorem State.with_bootAt_bootAt (s : State) (x : Nat) : ({ s with bootAt := x } : State).bootAt = x := rfl
@[simp] theorem State.with_bootAt_free (s : State) (x : Nat) : ({ s with bootAt := x } : State).free = s.free := rfl
@[simp] theorem State.with_bootAt_out (s : State) (x : Nat) : ({ s with bootAt := x } : State).out = s.out := rfl

@[simp] theorem State.with_free_dict (s : State) (x : Nat) : ({ s with free := x } : State).dict = s.dict := rfl
@[simp] theorem State.with_free_modes (s : State) (x : Nat) : ({ s with free := x } : State).modes = s.modes := rfl
@[simp] theorem State.with_free_sampler (s : State) (x : Nat) : ({ s with free := x } : State).sampler = s.sampler := rfl
@[simp] theorem State.with_free_cells (s : State) (x : Nat) : ({ s with free := x } : State).cells = s.cells := rfl
@[simp] theorem State.with_free_host (s : State) (x : Nat) : ({ s with free := x } : State).host = s.host := rfl
@[simp] theorem State.with_free_sched (s : State) (x : Nat) : ({ s with free := x } : State).sched = s.sched := rfl
@[simp] theorem State.with_free_flash (s : State) (x : Nat) : ({ s with free := x } : State).flash = s.flash := rfl
@[simp] theorem State.with_free_store (s : State) (x : Nat) : ({ s with free := x } : State).store = s.store := rfl
@[simp] theorem State.with_free_power (s : State) (x : Nat) : ({ s with free := x } : State).power = s.power := rfl
@[simp] theorem State.with_free_mem (s : State) (x : Nat) : ({ s with free := x } : State).mem = s.mem := rfl
@[simp] theorem State.with_free_cipher (s : State) (x : Nat) : ({ s with free := x } : State).cipher = s.cipher := rfl
@[simp] theorem State.with_free_engines (s : State) (x : Nat) : ({ s with free := x } : State).engines = s.engines := rfl
@[simp] theorem State.with_free_admin (s : State) (x : Nat) : ({ s with free := x } : State).admin = s.admin := rfl
@[simp] theorem State.with_free_staing (s : State) (x : Nat) : ({ s with free := x } : State).staing = s.staing := rfl
@[simp] theorem State.with_free_security (s : State) (x : Nat) : ({ s with free := x } : State).security = s.security := rfl
@[simp] theorem State.with_free_migration (s : State) (x : Nat) : ({ s with free := x } : State).migration = s.migration := rfl
@[simp] theorem State.with_free_pending (s : State) (x : Nat) : ({ s with free := x } : State).pending = s.pending := rfl
@[simp] theorem State.with_free_now (s : State) (x : Nat) : ({ s with free := x } : State).now = s.now := rfl
@[simp] theorem State.with_free_bootAt (s : State) (x : Nat) : ({ s with free := x } : State).bootAt = s.bootAt := rfl
@[simp] theorem State.with_free_free (s : State) (x : Nat) : ({ s with free := x } : State).free = x := rfl
@[simp] theorem State.with_free_out (s : State) (x : Nat) : ({ s with free := x } : State).out = s.out := rfl

@[simp] theorem State.with_out_dict (s : State) (x : List Out) : ({ s with out := x } : State).dict = s.dict := rfl
@[simp] theorem State.with_out_modes (s : State) (x : List Out) : ({ s with out := x } : State).modes = s.modes := rfl
@[simp] theorem State.with_out_sampler (s : State) (x : List Out) : ({ s with out := x } : State).sampler = s.sampler := rfl
@[simp] theorem State.with_out_cells (s : State) (x : List Out) : ({ s with out := x } : State).cells = s.cells := rfl
@[simp] theorem State.with_out_host (s : State) (x : List Out) : ({ s with out := x } : State).host = s.host := rfl
@[simp] theorem State.with_out_sched (s : State) (x : List Out) : ({ s with out := x } : State).sched = s.sched := rfl
@[simp] theorem State.with_out_flash (s : State) (x : List Out) : ({ s with out := x } : State).flash = s.flash := rfl
@[simp] theorem State.with_out_store (s : State) (x : List Out) : ({ s with out := x } : State).store = s.store := rfl
@[simp] theorem State.with_out_power (s : State) (x : List Out) : ({ s with out := x } : State).power = s.power := rfl
@[simp] theorem State.with_out_mem (s : State) (x : List Out) : ({ s with out := x } : State).mem = s.mem := rfl
@[simp] theorem State.with_out_cipher (s : State) (x : List Out) : ({ s with out := x } : State).cipher = s.cipher := rfl
@[simp] theorem State.with_out_engines (s : State) (x : List Out) : ({ s with out := x } : State).engines = s.engines := rfl
@[simp] theorem State.with_out_admin (s : State) (x : List Out) : ({ s with out := x } : State).admin = s.admin := rfl
@[simp] theorem State.with_out_staing (s : State) (x : List Out) : ({ s with out := x } : State).staing = s.staing := rfl
@[simp] theorem State.with_out_security (s : State) (x : List Out) : ({ s with out := x } : State).security = s.security := rfl
@[simp] theorem State.with_out_migration (s : State) (x : List Out) : ({ s with out := x } : State).migration = s.migration := rfl
@[simp] theorem State.with_out_pending (s : State) (x : List Out) : ({ s with out := x } : State).pending = s.pending := rfl
@[simp] theorem State.with_out_now (s : State) (x : List Out) : ({ s with out := x } : State).now = s.now := rfl
@[simp] theorem State.with_out_bootAt (s : State) (x : List Out) : ({ s with out := x } : State).bootAt = s.bootAt := rfl
@[simp] theorem State.with_out_free (s : State) (x : List Out) : ({ s with out := x } : State).free = s.free := rfl
@[simp] theorem State.with_out_out (s : State) (x : List Out) : ({ s with out := x } : State).out = x := rfl

@[simp] theorem State.slot_setSlot_same (s : State) (k : Nat) (x : Slot) : (s.setSlot k x).slot? k = some x :=
  Tbl.find_put_same _ _ _

theorem State.slot_setSlot_ne (s : State) {k j : Nat} (x : Slot) (h : j ≠ k) : (s.setSlot k x).slot? j = s.slot? j :=
  Tbl.find_put_ne _ _ h

@[simp] theorem State.stripe_setStripe_same (s : State) (k : Nat) (x : Stripe) : (s.setStripe k x).stripe? k = some x :=
  Tbl.find_put_same _ _ _

theorem State.stripe_setStripe_ne (s : State) {k j : Nat} (x : Stripe) (h : j ≠ k) : (s.setStripe k x).stripe? j = s.stripe? j :=
  Tbl.find_put_ne _ _ h

@[simp] theorem State.ns_setNs_same (s : State) (k : Nat) (x : Ns) : (s.setNs k x).ns? k = some x :=
  Tbl.find_put_same _ _ _

theorem State.ns_setNs_ne (s : State) {k j : Nat} (x : Ns) (h : j ≠ k) : (s.setNs k x).ns? j = s.ns? j :=
  Tbl.find_put_ne _ _ h

@[simp] theorem State.chan_setChan_same (s : State) (k : Nat) (x : DramChan) : (s.setChan k x).chan k = x :=
  Tbl.get_set_same _ _ _ _

theorem State.chan_setChan_ne (s : State) {k j : Nat} (x : DramChan) (h : j ≠ k) : (s.setChan k x).chan j = s.chan j :=
  Tbl.get_set_ne _ _ _ _ h

@[simp] theorem State.bank_setBank_same (s : State) (k : Nat) (x : Bank) : (s.setBank k x).bank k = x :=
  Tbl.get_set_same _ _ _ _

theorem State.bank_setBank_ne (s : State) {k j : Nat} (x : Bank) (h : j ≠ k) : (s.setBank k x).bank j = s.bank j :=
  Tbl.get_set_ne _ _ _ _ h

@[simp] theorem State.lun_setLun_same (s : State) (k : Nat) (x : Lun) : (s.setLun k x).lun k = x :=
  Tbl.get_set_same _ _ _ _

theorem State.lun_setLun_ne (s : State) {k j : Nat} (x : Lun) (h : j ≠ k) : (s.setLun k x).lun j = s.lun j :=
  Tbl.get_set_ne _ _ _ _ h

@[simp] theorem State.domain_setDomain_same (s : State) (k : Nat) (x : DomainSt) : (s.setDomain k x).domain k = x :=
  Tbl.get_set_same _ _ _ _

theorem State.domain_setDomain_ne (s : State) {k j : Nat} (x : DomainSt) (h : j ≠ k) : (s.setDomain k x).domain j = s.domain j :=
  Tbl.get_set_ne _ _ _ _ h

@[simp] theorem State.acc_setAcc_same (s : State) (k : Nat) (x : AccSt) : (s.setAcc k x).acc k = x :=
  Tbl.get_set_same _ _ _ _

theorem State.acc_setAcc_ne (s : State) {k j : Nat} (x : AccSt) (h : j ≠ k) : (s.setAcc k x).acc j = s.acc j :=
  Tbl.get_set_ne _ _ _ _ h

@[simp] theorem State.block_setBlock_same (s : State) (lun block : Nat) (x : Block) :
    (s.setBlock lun block x).block lun block = x :=
  Tbl.get_set_same _ _ _ _

@[simp] theorem State.port_setPort_same (s : State) (p : Port) (x : PortSt) : (s.setPort p x).port p = x := by
  cases p <;> rfl

theorem State.port_setPort_ne (s : State) {p q : Port} (x : PortSt) (h : q ≠ p) : (s.setPort p x).port q = s.port q := by
  cases p <;> cases q <;> first | rfl | exact absurd rfl h

end Sys2Proof.Machine
end

