-- ==== Sys2Proof/Machine/Balls.lean ====
section
/-! DEFINITION. The package's ball map (R489 to R494): what each of the 66 × 66 balls carries, the names of rows, and the
supply enables that decide which flash and DRAM balls are driven (R343, R496). -/
namespace Sys2Proof.Machine

/-- Supplies and ground (R497). -/
inductive Supply where
  | vss | core | sram | aon | vddio | vddqF | vddqD | peA | peH
  deriving DecidableEq, Repr

/-- A flash channel's signals (R491). -/
inductive FlashPin where
  | dq (n : Nat) | dqsT | dqsC | reT | reC | weN | cle | ale | ceN (n : Nat) | rbN
  deriving DecidableEq, Repr

/-- A DRAM channel's signals (R492). -/
inductive DramPin where
  | dq (n : Nat) | dqsT (lane : Nat) | dqsC (lane : Nat) | ca (n : Nat) | csN (n : Nat) | ckT | ckC | resetN
  deriving DecidableEq, Repr

/-- The PCIe region's signals (R493). -/
inductive PciePin where
  | txp (lane : Nat) | txn (lane : Nat) | rxp (lane : Nat) | rxn (lane : Nat) | refclkP | refclkN | perst (port : Nat)
  deriving DecidableEq, Repr

/-- The AON edge's signals (R494). -/
inductive EdgePin where
  | mdP | mdN | pwrfailN | holdupSense | presenceN | sealA | sealB | porstN | xtalIn | xtalOut
  | dramPwrEn | flashPwrEn (k : Nat) | tdP | tdN | tck | tms | tdi | tdo | trstN
  deriving DecidableEq, Repr

/-- What a ball carries (R490). -/
inductive Ball where
  | supply (r : Supply) | flash (channel : Nat) (p : FlashPin) | dram (channel : Nat) (p : DramPin)
  | pcie (p : PciePin) | edge (p : EdgePin)
  deriving DecidableEq, Repr

/-- The letters of a row, 1 to 66 (R489). -/
def rowLetters : List Char :=
  ['A', 'B', 'C', 'D', 'E', 'F', 'G', 'H', 'J', 'K', 'L', 'M', 'N', 'P', 'T', 'U', 'V', 'W', 'Y']

/-- A row's name: 19 letters, then the same prefixed by A, B and C (R489). -/
def rowName (r : Nat) : List Char :=
  let letter := rowLetters.getD ((r - 1) % 19) 'A'
  match (r - 1) / 19 with
  | 0 => [letter]
  | 1 => ['A', letter]
  | 2 => ['B', letter]
  | _ => ['C', letter]

/-- A flash block's position (i, j) (R491). -/
def flashBall (channel i j : Nat) : Ball :=
  let f := Ball.flash channel
  let vss := Ball.supply .vss
  let row : List Ball := match i with
    | 0 => [f (.dq 0), f (.dq 1), vss, f (.dq 2)]
    | 1 => [f (.dq 3), vss, f (.dq 4), f (.dq 5)]
    | 2 => [f .dqsT, f .dqsC, vss, f (.dq 6)]
    | 3 => [f (.dq 7), vss, f .reT, f .reC]
    | 4 => [f .weN, f .cle, f .ale, .supply .vddqF]
    | 5 => [f (.ceN 0), f (.ceN 1), f (.ceN 2), vss]
    | 6 => [f (.ceN 3), f (.ceN 4), .supply .vddqF, f (.ceN 5)]
    | _ => [f (.ceN 6), f (.ceN 7), f .rbN, .supply .vddqF]
  row.getD j vss

/-- A DRAM block's position (i, j): byte lanes in rows 0 to 11, command signals and supplies below (R492). -/
def dramBall (channel i j : Nat) : Ball :=
  let d := Ball.dram channel
  if i < 12 then
    if i = 2 ∨ i = 7 then .supply .vss
    else if i < 2 then d (.dq (8 * j + i))
    else if i < 5 then d (.dq (8 * j + i - 1))
    else if i = 5 then d (.dqsT j)
    else if i = 6 then d (.dqsC j)
    else d (.dq (8 * j + i - 4))
  else if i = 12 then (if j < 7 then d (.ca j) else .supply .vddqD)
  else if i = 13 then (if j < 7 then d (.ca (7 + j)) else .supply .vddqD)
  else if i = 14 then
    match j with
    | 0 => d (.csN 0)
    | 1 => d (.csN 1)
    | 2 => d (.csN 2)
    | 3 => d (.csN 3)
    | 4 => d .ckT
    | 5 => d .ckC
    | 6 => d .resetN
    | _ => .supply .vss
  else if i = 16 ∧ 8 ≤ j then .supply .vss
  else .supply .vddqD

/-- The PCIe region, rows V (17) to AE (24), columns 11 to 56 (R493). -/
def pcieBall (r c : Nat) : Ball :=
  let vss := Ball.supply .vss
  if 18 ≤ c ∧ c ≤ 49 then
    let lane := (c - 18) / 2
    let low := (c - 18) % 2 = 0
    match r with
    | 18 => .pcie (if low then .txp lane else .txn lane)
    | 21 => .pcie (if low then .rxp lane else .rxn lane)
    | 23 => .supply .peA
    | _ => vss
  else match r with
    | 17 =>
      if c = 11 then .pcie .refclkP
      else if c = 12 then .pcie .refclkN
      else if c = 13 then .pcie (.perst 0)
      else if c = 14 then .pcie (.perst 1)
      else vss
    | 18 => .supply .peH
    | 19 => .supply .peH
    | 20 => .supply .peA
    | 21 => .supply .peA
    | _ => vss

/-- The AON edge, rows A to U (R494). -/
def aonLeft : List Ball :=
  [.edge .mdP, .edge .mdN, .supply .vss, .edge .pwrfailN, .edge .holdupSense, .edge .presenceN, .edge .sealA, .edge .sealB,
    .supply .vddio, .supply .aon, .edge .porstN, .edge .xtalIn, .edge .xtalOut, .supply .aon, .supply .vddio, .supply .vddio]

@[inherit_doc aonLeft]
def aonRight : List Ball :=
  [.edge .dramPwrEn, .edge (.flashPwrEn 0), .edge (.flashPwrEn 1), .edge (.flashPwrEn 2), .edge (.flashPwrEn 3), .supply .vss,
    .edge .tdP, .edge .tdN, .supply .vddio, .supply .aon, .edge .tck, .edge .tms, .edge .tdi, .edge .tdo, .edge .trstN,
    .supply .aon]

/-- The first row of a flash band, and the band of a row (R490). -/
def bandOf (r : Nat) : Option (Nat × Nat) :=
  if r ≤ 8 then some (0, 1) else if r ≤ 16 then some (1, 9)
  else if r ≤ 50 then none else if r ≤ 58 then some (2, 51) else some (3, 59)

/-- What the ball at row r and column c carries, rows and columns from 1 to 66 (R490). -/
def ballAt (r c : Nat) : Ball :=
  let vss := Ball.supply .vss
  match bandOf r with
  | some (band, first) =>
    if 2 ≤ c ∧ c ≤ 65 then flashBall (16 * band + (c - 2) / 4) (r - first) ((c - 2) % 4)
    else if band < 2 then (if c = 1 then aonLeft else aonRight).getD (r - 1) vss
    else vss
  | none =>
    if c ≤ 10 then (if r ≤ 33 then dramBall 0 (r - 17) (c - 1) else dramBall 2 (r - 34) (c - 1))
    else if 57 ≤ c then (if r ≤ 33 then dramBall 1 (r - 17) (66 - c) else dramBall 3 (r - 34) (66 - c))
    else if r ≤ 24 then pcieBall r c
    else if (r + c) % 2 = 0 then vss
    else if c ≤ 13 ∨ 54 ≤ c then .supply .sram
    else .supply .core

/-- Signals that are off: those of a flash or DRAM channel whose supply enable is low (its outputs are driven low and its
inputs disabled), and an enable that is low itself (R343, R496). -/
def State.ballOff (s : State) (b : Ball) : Bool :=
  match b with
  | .supply _ => false
  | .pcie _ => false
  | .flash c _ => !(s.flashPwrEn (Fin.ofNat 4 (c / 16)))
  | .dram _ _ => !s.dramPwrEn
  | .edge .dramPwrEn => !s.dramPwrEn
  | .edge (.flashPwrEn k) => !(s.flashPwrEn (Fin.ofNat 4 k))
  | .edge _ => false

end Sys2Proof.Machine
end

