-- ==== Sys2Proof/Machine/Registers.lean ====
section
/-! DEFINITION. What the PCIe capabilities and the BARs read: no row of the opcode table reads or writes them but through the
commands that carry their effects (R47, R56, R60, R62, R64 to R66, R83, R104, R105, R308). -/
namespace Sys2Proof.Machine

/-! ### Configuration space (R47, R56, R60, R62) -/

/-- What a physical function advertises. `speeds` holds the rate codes of R55, `pageSizes` the Supported Page Sizes in KiB. -/
structure PciCaps where
  vendorId : Nat
  subsystemVendorId : Nat
  deviceId : Nat
  classCode : Nat
  speeds : List Nat
  timeoutDisable : Bool
  totalVfs : Nat
  initialVfs : Nat
  numVfs : Nat
  vfEnable : Bool
  firstVfOffset : Nat
  vfStride : Nat
  vfDeviceId : Nat
  pageSizes : List Nat
  ariPreserved : Bool
  msixTableSize : Nat
  msi : Bool
  intx : Bool
  deriving DecidableEq, Repr

/-- The capabilities of a port's physical function; PF1 is there in DUAL_X8 only (R54, R60). -/
def State.pciCaps (s : State) (p : Port) : Option PciCaps :=
  if s.portExists p then
    some
      { vendorId := s.cfg Obj.pciIds % 65536
        subsystemVendorId := s.cfg Obj.pciIds / 65536
        deviceId := 0x9664
        classCode := 0x010802
        speeds := [1, 2, 3, 4, 5, 6]
        timeoutDisable := false
        totalVfs := s.totalVfs p
        initialVfs := s.totalVfs p
        numVfs := (s.port p).numVfs
        vfEnable := (s.port p).vfEnable
        firstVfOffset := 1
        vfStride := 1
        vfDeviceId := 0x966F
        pageSizes := [4, 8, 16, 32, 64]
        ariPreserved := true
        msixTableSize := 1
        msi := false
        intx := false }
  else none

/-- Bus numbers that a port with its enabled virtual functions spans (R62). -/
def State.busNumbers (s : State) (p : Port) : Nat := ceilDiv ((if (s.port p).vfEnable then (s.port p).numVfs else 0) + 1) 256

/-- Size of a virtual function's BAR in bytes: the larger of 16 KiB and the System Page Size (R65), which is 4 KiB: no row writes
it (PRESUMED, log entry 137). -/
def vfBarBytes : Nat := max 16384 4096

/-- Size of a physical function's BAR (R64). -/
def pfBarBytes : Nat := 1048576

/-! ### Controller registers (R83, R104) -/

/-- CAP, its fields at the places of NVM Express Base 2.1 (PRESUMED, log entry 137): MQES 4,095, CQR 1, AMS with weighted round
robin, DSTRD 0, NVM Subsystem Reset, I/O command sets, MPSMIN 0, MPSMAX 4, PMRS 0, CMBS 0; TO is a free value. -/
def capWord : Nat :=
  4095 + 2 ^ 16 + 2 ^ 17 + Config.capTimeout.val * 2 ^ 24 + 2 ^ 36 + 2 ^ 37 + 2 ^ 43 + 4 * 2 ^ 52

/-- CSTS: RDY, CFS, SHST and PP (R121). -/
def State.csts (s : State) (f : Func) : Nat :=
  let x := s.fn f
  x.rdy.toNat + 2 * x.cfs.toNat + 4 * (x.shst % 4) + 32 * s.host.paused.toNat

/-- The 32-bit word i of a value. -/
def word32 (v i : Nat) : Nat := v / 2 ^ (32 * i) % 2 ^ 32

/-- Controller register word at an offset; one that is not implemented reads zero, CMBLOC, CMBSZ and PMRCAP among them (R104). -/
def State.controllerWord (s : State) (f : Func) (offset : Nat) : Nat :=
  let x := s.fn f
  let sq := Tbl.find x.sqs 0
  let cq := Tbl.find x.cqs 0
  match offset with
  | 0x00 => word32 capWord 0
  | 0x04 => word32 capWord 1
  | 0x08 => 0x00020100
  | 0x14 => x.cc
  | 0x1C => s.csts f
  | 0x24 => sq.elim 0 (·.size - 1) + 2 ^ 16 * cq.elim 0 (·.size - 1)
  | 0x28 => word32 (sq.elim 0 (·.base)) 0
  | 0x2C => word32 (sq.elim 0 (·.base)) 1
  | 0x30 => word32 (cq.elim 0 (·.base)) 0
  | 0x34 => word32 (cq.elim 0 (·.base)) 1
  | _ => 0

/-! ### MSI-X (R66, R105) -/

/-- Word i of the one table entry: address and data, which no row writes, read 0 (log entry 137); the mask bit of Vector Control
reads 1, so no message is sent. -/
def msixWord (i : Nat) : Nat := if i = 3 then 1 else 0

/-! ### Shuttle registers (R308) -/

/-- CTRL of a channel. -/
def ShuttleSt.ctrl (x : ShuttleSt) : Nat :=
  x.ringLog2 % 32 * 2 ^ 16 + x.pauseSw.toNat * 4 + (decide (x.state ≠ 0) && !x.toOff).toNat

/-- STATUS of a channel; PAUSE_FRZ is of internal channels only. -/
def ShuttleSt.statusWord (x : ShuttleSt) : Nat :=
  x.state * 2 ^ 28 + x.pauseDev.toNat * 2 ^ 27 + x.pauseDom.toNat * 2 ^ 26 + x.pauseSw.toNat * 2 ^ 24 + x.errCode % 256 * 2 ^ 16
    + x.ownStall.toNat

/-- Register word of a channel at an offset from its base. -/
def ShuttleSt.word (x : ShuttleSt) (offset : Nat) : Nat :=
  match offset with
  | 0x00 => word32 x.ringBase 0
  | 0x04 => word32 x.ringBase 1
  | 0x08 => word32 x.recordAddr 0
  | 0x0C => word32 x.recordAddr 1
  | 0x10 => x.ctrl
  | 0x14 => x.statusWord
  | 0x18 => x.tail % 65536
  | 0x1C => x.head % 65536
  | 0x20 => word32 x.curSrc 0
  | 0x24 => word32 x.curSrc 1
  | 0x28 => word32 x.curDst 0
  | 0x2C => word32 x.curDst 1
  | 0x30 => word32 x.remain 0
  | 0x34 => x.errIndex % 65536
  | 0x38 => word32 x.bytes 0
  | 0x3C => word32 x.bytes 1
  | _ => 0

/-! ### BARs (R64, R65) -/

/-- The word at an offset of a physical function's BAR, 4-byte aligned: controller registers, Shuttle channels, the MSI-X
table; the pending bit array, doorbells and every other offset read zero. -/
def State.pfBarWord (s : State) (p : Port) (offset : Nat) : Nat :=
  if offset < 0x1000 then s.controllerWord (managerOf p) offset
  else if h : 0x40000 ≤ offset ∧ offset < 0x41000 then
    (s.shuttle ⟨p, ⟨(offset - 0x40000) / 256, by omega⟩⟩).word (offset % 256)
  else if 0xC0000 ≤ offset ∧ offset < 0xC0010 then msixWord ((offset - 0xC0000) / 4)
  else 0

/-- The word at an offset of an instance's BAR. -/
def State.vfBarWord (s : State) (n : Fin 1024) (offset : Nat) : Nat :=
  if offset < 0x1000 then s.controllerWord (.inst n) offset
  else if 0x2000 ≤ offset ∧ offset < 0x2010 then msixWord ((offset - 0x2000) / 4)
  else 0

end Sys2Proof.Machine
end

