-- ==== Sys2Proof/Tests/Slice0.lean ====
section
/-! SUPPORT. Tests of this row: ill-formed terms that the check of WellFormed refuses, small steps whose results come from
the spec, and for each statement of Obligations states and operands that meet its hypotheses (a witness for each clause). -/
set_option Elab.async false

namespace Sys2Proof.Tests
open Sys2Proof Sys2Proof.Machine

/-! ### Helpers -/

/-- The block out of reset, before any queue or namespace. -/
def on : State := { State.reset with power := { PowerSt.reset with held := false } }

/-- An admin command of PF0. -/
def hA : Hdr := ⟨.pf0, 0, 7⟩

/-- A command of I/O queue 1 of PF0. -/
def hIo : Hdr := ⟨.pf0, 1, 3⟩

/-- A state after the command of h, fetched there, has begun. -/
def begun (s : State) (h : Hdr) : State := s.modCtx h fun c => { c with begun := true }

/-- The block with the command of hA fetched, and with it begun. -/
def fetA : State := on.addCtx hA
def onA : State := begun fetA hA

/-- The block with the command of hIo fetched, and with it begun. -/
def fetIo : State := on.addCtx hIo
def onIo : State := begun fetIo hIo

theorem on_begins_admin : fetA.begin hA = some onA := rfl
theorem on_begins_io : fetIo.begin hIo = some onIo := rfl
theorem on_starts : Starts fetA hA onA := ⟨rfl, rfl, rfl, rfl⟩
theorem on_admin_starts : AdminStarts fetA hA onA := ⟨on_starts, rfl⟩
theorem on_io_starts : IoStarts fetIo hIo onIo := ⟨rfl, rfl, rfl⟩
theorem on_buffers : Buffers onA hA := by
  intro n
  have c : onA.ctx? hA = some { Ctx.new hA (plainSqe hA.cid) 0 0 0 with begun := true } := by decide
  simp [State.adminBuffer, c, Ctx.new, plainSqe, prpCheck]

/-! ### Witnesses: cells, fabric and configuration plane -/

def item : WorkItem :=
  { role := .host, prod := .hostFrontA, tag := 5, ldpc := some .encode, fn := none, gen := 0, cmd := none, faults := 0 }
def itemKey : Nat := queueKey (producerQuadrant item.prod) item.role.code
def queued (n : Nat) : State := on.setQueue itemKey (List.replicate n item)
def holding (n : Nat) : State := { queued n with cells := { (queued n).cells with held := [item] } }
theorem queued_length (n : Nat) : ((queued n).workQueue itemKey).length = n := by simp [queued]
theorem holding_length (n : Nat) : ((holding n).workQueue itemKey).length = n := queued_length n

theorem wit_post_room : ((queued 1023).workQueue itemKey).length < 1024 := by have := queued_length 1023; omega
theorem wit_post_full : 1024 ≤ ((queued 1024).workQueue itemKey).length := by have := queued_length 1024; omega
theorem wit_repost_room : (holding 1023).cells.held.find? (fun v => v.prod = item.prod ∧ v.tag = 5) = some item ∧
    ((holding 1023).workQueue itemKey).length < 1024 := ⟨rfl, by have := holding_length 1023; omega⟩
theorem wit_repost_full : (holding 1024).cells.held.find? (fun v => v.prod = item.prod ∧ v.tag = 5) = some item ∧
    1024 ≤ ((holding 1024).workQueue itemKey).length := ⟨rfl, by have := holding_length 1024; omega⟩

/-- Cell 0 is active for host work and drains; or one item waits for it in the unit of the producer's quadrant. -/
def busyCell : State :=
  (on.keep Obj.cellRole 1 0).setCell 0 { drainTo := some 1, drained := false, items := [item], lane := [], keys := [] }

def hostCell : State := { (queued 1).keep Obj.cellRole 1 0 with cells := { (queued 1).cells with released := true } }

theorem wit_cell_takes : hostCell.cells.released = true ∧ hostCell.cellState 0 = 1 ∧ (hostCell.cell 0).items.length < 40 ∧
    [cellQuadrant 0, (cellQuadrant 0 + 1) % 4, (cellQuadrant 0 + 2) % 4, (cellQuadrant 0 + 3) % 4]
      = [] ++ producerQuadrant item.prod :: [1, 2, 3] ∧
    hostCell.workQueue (queueKey (producerQuadrant item.prod) (hostCell.cellRole 0)) = [item] ∧
    hostCell.staleWork item = false := by decide
theorem wit_cell_result : (busyCell.cell 0).items.find? (fun v => v.prod = item.prod ∧ v.tag = 5) = some item ∧
    busyCell.staleWork item = false := by decide
theorem wit_cell_drained :
    (busyCell.cell 0).drainTo.isSome = true ∧ ∀ w ∈ (busyCell.cell 0).items, busyCell.staleWork w = false := by decide

theorem wit_watchdog : (on.keep Obj.fenceCount 254 95).cellRole 95 ≠ 7 ∧
    (on.keep Obj.fenceCount 254 95).cfg Obj.fenceCount 95 < 255 := by decide
theorem wit_fault_again : ({ item with faults := 1 } : WorkItem).faults < 2 := by decide
theorem wit_fault_fails : 2 ≤ ({ item with faults := 2, cmd := some hIo } : WorkItem).faults ∧
    (onIo.ctx? hIo).map (·.done) = some none := by decide

def packet : Packet := ⟨11, 9, 0, 0, .request, 3, 8, 255, false, .cell 95, none⟩
def answer : Packet := { packet with vc := .response }
theorem wit_packet_route : 11 ≤ (11 - packet.dstX.val) + (packet.dstX.val - 11) := by decide
theorem wit_packet_open : on.isolated 11 9 = false ∧ on.isolated 0 0 = false := by decide
theorem wit_packet_cut : (on.keep Obj.domainsFailed (2 ^ nodeDomain 11 9)).isolated 11 9 = true := by decide
theorem wit_packet_enters : BeatErr_bad (([] : List BeatErr).headD .clean) = false ∧
    ((on.input (inputKey 11 9 5 packet.vc.code)).map (fun q => 1 + q.beats.val)).sum + (1 + packet.beats.val) ≤ 18 := by decide
theorem wit_packet_oldest : oldest [(0, packet), (1, { packet with age := 254 })] = some (0, packet) := by decide
theorem wit_packet_sunk : packet.vc = .request ∧ packet.poisoned = false ∧ answer.vc = .response ∧ answer.poisoned = false ∧
    ({ packet with poisoned := true } : Packet).poisoned = true := by decide

def laneErrs (e : LaneErr) (out : Nat) : State := { on with cells := { on.cells with
  laneErrs := [(laneKey 11 9 3 2, e)], lanesOut := if out = 0 then [] else [(routerKey 11 9 * 6 + 3, out)] } }
theorem wit_lane_hard : ((laneErrs ⟨0, 0, true⟩ 0).laneErr (laneKey 11 9 3 2)).hard = true ∧
    ((laneErrs ⟨0, 0, true⟩ 0).lanesOut 11 9 3).testBit 2 = false ∧ (laneErrs ⟨0, 0, true⟩ 0).lanesOut 11 9 3 ||| 2 ^ 2 ≠ 15 := by
  decide
theorem wit_lane_corrected : 64 < ((laneErrs ⟨65, 0, false⟩ 0).laneErr (laneKey 11 9 3 2)).count ∧
    ((laneErrs ⟨64, 0, false⟩ 0).laneErr (laneKey 11 9 3 2)).count ≤ 64 ∧
    ((laneErrs ⟨64, 0, false⟩ 0).laneErr (laneKey 11 9 3 2)).hard = false := by decide
theorem wit_lane_last : ((laneErrs ⟨65, 0, false⟩ 11).lanesOut 11 9 3).testBit 2 = false ∧
    (laneErrs ⟨65, 0, false⟩ 11).lanesOut 11 9 3 ||| 2 ^ 2 = 15 := by decide

def req (n : Nat) (c : Consumer) : FabricReq :=
  { tag := 9, reissues := n, accepted := false, consumer := c, agent := none, packet := packet, port := 5, since := 0 }
def asked (n : Nat) (c : Consumer) : State := { on with cells := { on.cells with reqs := [req n c] } }
def fabricLimit : Nat := 1000 * on.cfg Obj.fabricTimeout
theorem wit_reissue_early : (asked 2 (.cell 95)).cells.reqs.find? (·.tag = 9) = some (req 2 (.cell 95)) ∧
    ((asked 2 (.cell 95)).tick (fabricLimit - 1)).timeoutRuns (req 2 (.cell 95)) = true ∧
    ((asked 2 (.cell 95)).tick (fabricLimit - 1)).now < 0 + 1000 * (asked 2 (.cell 95)).cfg Obj.fabricTimeout := by decide
theorem wit_reissue : (asked 2 (.cell 95)).cells.reqs.find? (·.tag = 9) = some (req 2 (.cell 95)) ∧
    ((asked 2 (.cell 95)).tick fabricLimit).timeoutRuns (req 2 (.cell 95)) = true ∧
    0 + 1000 * (asked 2 (.cell 95)).cfg Obj.fabricTimeout ≤ ((asked 2 (.cell 95)).tick fabricLimit).now := by decide
theorem wit_reissue_ends : (asked 3 (.cell 95)).cells.reqs.find? (·.tag = 9) = some (req 3 (.cell 95)) ∧
    ((asked 3 (.cell 95)).tick fabricLimit).timeoutRuns (req 3 (.cell 95)) = true ∧
    0 + 1000 * (asked 3 (.cell 95)).cfg Obj.fabricTimeout ≤ ((asked 3 (.cell 95)).tick fabricLimit).now ∧
    (asked 3 (.cell 95)).cellRole 95 ≠ 7 := by decide
theorem wit_reissue_host : (asked 3 (.hostFront hIo)).cells.reqs.find? (·.tag = 9) = some (req 3 (.hostFront hIo)) ∧
    ((asked 3 (.hostFront hIo)).tick fabricLimit).timeoutRuns (req 3 (.hostFront hIo)) = true ∧
    0 + 1000 * (asked 3 (.hostFront hIo)).cfg Obj.fabricTimeout ≤ ((asked 3 (.hostFront hIo)).tick fabricLimit).now := by decide
theorem wit_reissue_room : ((on.input (inputKey 11 9 5 packet.vc.code)).map (fun q => 1 + q.beats.val)).sum + (1 + 8) ≤ 18 := by
  decide

theorem wit_plane_open : on.planeOpen false = true ∧ (on.domain 2).state = .on := by decide
theorem wit_plane_closed : ((on.setDomain 2 { on.domain 2 with state := .off }).domain 2).state ≠ .on := by decide
theorem wit_plane_unpark : on.domainOn 10 = true ∧ (on.domain 10).state = .on := by decide
theorem wit_plane_role : cellDomain 0 = 10 ∧ on.cellRole 0 = 0 := by decide
theorem wit_plane_temps : 10 ≤ (10 : Fin 56).val := by decide
theorem wit_plane_fails : 3 < 4 ∧ 54 ≤ (54 : Fin 56).val ∧ 10 ≤ (33 : Fin 56).val ∧ (33 : Fin 56).val ≤ 33 := by decide

/-! ### Witnesses: host link, functions and instances -/

/-- The block with a function as given. -/
def withFn (f : Func) (x : Fn) : State := on.setFn f x
def online : Fn := { Fn.init .online with en := true, rdy := true }
def dualOn : State := on.keep Obj.portMode 1
def lastVf : Func := .inst 1023

theorem wit_flr_instance : (withFn lastVf online).present lastVf = true ∧ ((withFn lastVf online).fn lastVf).fence = none ∧
    ((withFn lastVf online).fn lastVf).en = true := by decide
theorem wit_flr_joins : ((withFn lastVf { online with fence := some ⟨4, .absent, []⟩ }).fn lastVf).fence ≠ none := by decide
theorem wit_flr_absent : on.present lastVf = false ∧ (on.fn lastVf).en = false := by decide
theorem wit_port_a : on.portExists .a = true ∧ on.has Mode.holdUp = false := by decide
theorem wit_port_b : dualOn.portExists .b = true ∧ dualOn.has Mode.holdUp = false := by decide
theorem wit_fenced_by : (on.fn .pf0).fence = none ∧ on.present .pf0 = true := by decide
theorem wit_manager_disable : dualOn.portExists .b = true ∧ ((dualOn.setFn .pf1 online).fn (managerOf .b)).en = true := by decide
theorem wit_fence_complete :
    ((withFn lastVf { online with state := .fencing, fence := some ⟨3, .offline, [hA]⟩ }).fn lastVf).fence
      = some ⟨3, .offline, [hA]⟩ := by decide

def numVfs (n : Nat) (e : Bool) : State := on.setPort .a { PortSt.reset with numVfs := n, vfEnable := e }
theorem wit_vf_enable : (numVfs 1024 false).portExists .a = true ∧ ((numVfs 1024 false).port .a).vfEnable = false ∧
    (numVfs 1024 false).portOf 1023 = .a ∧ ((numVfs 1024 false).fn (.inst 1023)).state = .absent ∧
    1023 - 0 < ((numVfs 1024 false).port .a).numVfs := by decide
theorem wit_vf_disable : (numVfs 1024 true).portExists .a = true ∧ ((numVfs 1024 true).port .a).vfEnable = true := by decide
theorem wit_numvfs : on.portExists .a = true ∧ (on.port .a).vfEnable = false ∧ 1024 ≤ on.totalVfs .a ∧ on.security.rom = false := by
  decide
theorem wit_numvfs_dual : dualOn.portExists .b = true ∧ dualOn.totalVfs .b = 512 := by decide

theorem wit_en_online : on.present .pf0 = true ∧ (on.fn .pf0).en = false ∧ (on.fn .pf0).state = .online ∧ 4 < 5 := by decide
theorem wit_en_offline : (withFn lastVf (Fn.init .offline)).present lastVf = true ∧
    ((withFn lastVf (Fn.init .offline)).fn lastVf).en = false ∧ ((withFn lastVf (Fn.init .offline)).fn lastVf).state = .offline := by
  decide
theorem wit_en_fencing : (withFn lastVf (Fn.init .fencing)).present lastVf = true ∧
    ((withFn lastVf (Fn.init .fencing)).fn lastVf).state = .fencing := by decide

/-- Instance 0 as given, and an admin command of PF0 begins. -/
def vfAs (x : Fn) : State := (withFn (.inst 0) x).addCtx hA
def offlineVf : State := vfAs (Fn.init .offline)
theorem wit_secondary : AdminStarts offlineVf hA (begun offlineVf hA) ∧
    (begun offlineVf hA).portOf 0 = (begun offlineVf hA).portOfFn hA.fn ∧
    ((begun offlineVf hA).fn (.inst 0)).state = .offline ∧ ((begun offlineVf hA).fn (.inst 0)).fence = none :=
  ⟨⟨⟨rfl, rfl, rfl, rfl⟩, rfl⟩, by decide, by decide, by decide⟩
theorem wit_assign_most : (begun offlineVf hA).vqAssigned .a - (begun offlineVf hA).cfg Obj.qpAllow 0 + 64
    ≤ (begun offlineVf hA).flexPool .a := by decide +kernel
theorem wit_assign_counts : (0 : Nat) = 0 ∨ 64 < 0 := .inl rfl
def fencingVf : State := vfAs { Fn.init .fencing with fence := some ⟨3, .offline, []⟩ }
theorem wit_secondary_joins : AdminStarts fencingVf hA (begun fencingVf hA) ∧
    (begun fencingVf hA).portOf 0 = (begun fencingVf hA).portOfFn hA.fn ∧ ((begun fencingVf hA).fn (.inst 0)).state ≠ .absent ∧
    ((begun fencingVf hA).fn (.inst 0)).fence = some ⟨3, .offline, []⟩ :=
  ⟨⟨⟨rfl, rfl, rfl, rfl⟩, rfl⟩, by decide, by decide, by decide⟩

theorem wit_trained : on.cells.linkDead = false ∧ on.portExists .a = true ∧ on.halfWorks .a = true ∧ on.blockLost 4 = false ∧
    6 ≤ on.cfg Obj.maxRate ∧ 16 ≤ on.fullWidth ∧ 16 ∈ [1, 2, 4, 8, 16] := by decide
theorem wit_trained_not : dualOn.fullWidth < 16 ∧ 12 ∉ [1, 2, 4, 8, 16] ∧ (on.keep Obj.maxRate 3).cfg Obj.maxRate < 4 := by decide
theorem wit_max_rate : 3 ≤ 6 ∧ 6 ≤ 6 := by decide
def conventional : Ns :=
  { kind := .conventional, nsze := 4096, flbas := 0, dps := 0, word := ⟨0, 0, 8, false, false, 0, false, false, false, 0⟩
    width := 8, owner := .a, attached := [1024], handles := [0], reserve := 0, blocks := 0, mapBytes := 0, keySlot := 0
    loaded := true, map := [], zones := [], secureDiscard := false, writeBlocked := false, born := 0 }
def oneNs (x : Ns) : State := on.setNs 1 x
theorem wit_takeover : ((oneNs conventional).keep Obj.portMode 1).dual = true ∧
    Tbl.find ((oneNs conventional).keep Obj.portMode 1).store.ns 1 = some conventional ∧ conventional.owner = .a ∧
    (((oneNs conventional).keep Obj.portMode 1).port .a).up = false := by decide
theorem wit_takeover_due : on.cfg Obj.takeoverDelay * 1000000 ≤ on.cfg Obj.takeoverDelay * 1000000 - (on.port .a).downSince := by
  decide
theorem wit_takeover_early :
    on.cfg Obj.takeoverDelay * 1000000 - 1 - (on.port .a).downSince < on.cfg Obj.takeoverDelay * 1000000 := by decide

/-! ### Witnesses: queues, ordering and polled completion -/

theorem wit_begin_held : State.reset.power.held = true := by decide
theorem wit_begin_known : fetIo.power.held = false ∧ fetIo.power.restart = false ∧ fetIo.blockLost 5 = false ∧
    fetIo.blockLost 2 = false ∧ fetIo.ctx? hIo = some (Ctx.new hIo (plainSqe 3) 0 0 0) ∧
    (Ctx.new hIo (plainSqe 3) 0 0 0).gen = (fetIo.fn hIo.fn).gen ∧ (Ctx.new hIo (plainSqe 3) 0 0 0).done = none ∧
    (Ctx.new hIo (plainSqe 3) 0 0 0).begun = false ∧
    ∀ e ∈ fetIo.host.ctxs, e.hdr.fn = hIo.fn → e.gen = 0 → e.stamp < 0 → e.begun = true ∨ e.done ≠ none := by decide
theorem wit_begin_old :
    (fetIo.modCtx hIo fun c => { c with gen := 65535 }).ctx? hIo = some { Ctx.new hIo (plainSqe 3) 0 0 0 with gen := 65535 } ∧
    (65535 : BitVec 16) ≠ (fetIo.fn hIo.fn).gen := by decide
theorem wit_begin_behind : ((fetIo.addCtx hA).ctx? hA).map (·.stamp) = some 1 ∧ ∃ e ∈ (fetIo.addCtx hA).host.ctxs,
    e.hdr.fn = hA.fn ∧ e.gen = 0 ∧ e.stamp < 1 ∧ e.begun = false ∧ e.done = none := by decide
theorem wit_begin_finished : ((onIo.finish hIo Cpl.ok).ctx? hIo).any (fun c => c.done.isSome) = true := by decide
theorem wit_begin_new : on.ctx? hIo = none ∧ (on.fn hIo.fn).state = .online ∧ on.power.restart = false := by decide

/-- An entry of a fused pair, fetched in the admin queue. -/
def fetFused : State := on.addCtx hA { cid := 7, fused := true, dptr := .prp 0 0 [] }
theorem wit_opcode_fused : fetFused.begin hA = some (begun fetFused hA) ∧
    ((begun fetFused hA).ctx? hA).map (·.fused) = some true := ⟨rfl, by decide⟩
theorem wit_opcode_admin : fetA.begin hA = some onA ∧ onA.fusedGate hA = none ∧ hA.sqid = 0 ∧ onA.adminGate = none :=
  ⟨rfl, rfl, rfl, rfl⟩
theorem wit_opcode_io : fetIo.begin hIo = some onIo ∧ onIo.fusedGate hIo = none ∧ hIo.sqid ≠ 0 ∧ onIo.ioGate = none :=
  ⟨rfl, rfl, by decide, rfl⟩
def hVf : Hdr := ⟨lastVf, 1, 0⟩
theorem wit_read_fails : ReadEnd.completerAbort ≠ .ok ∧ (((withFn lastVf online).addCtx hVf).ctx? hVf).map (·.done) = some none := by
  decide

/-- PF0 with I/O queue pair 1 of 4 entries, its submission queue's tail as given. -/
def sq1 (tail : Nat) : Sq :=
  { size := 4, base := 0, cqid := 1, prio := 0, head := 0, tail := tail, bell := some 0, recorded := none, deleting := [] }
def cq1 (head tail : Nat) : Cq := { size := 4, base := 0, head := head, tail := tail, phase := true }
def queuesFn (tail ctail : Nat) : Fn := { online with sqs := [(1, sq1 tail)], cqs := [(1, cq1 0 ctail)] }
def queues (tail ctail : Nat) : State := withFn .pf0 (queuesFn tail ctail)
def queuesA (tail : Nat) : State := begun ((queues tail 0).addCtx hA) hA

theorem wit_create : Starts fetA hA onA := on_starts
theorem wit_create_bounds : onA.qidLimit .pf0 = 32 ∧ (4095 + 1) * 1 = 4096 := by decide
theorem wit_delete_cq : Starts ((queues 0 0).addCtx hA) hA (queuesA 0) ∧ Tbl.find ((queuesA 0).fn hA.fn).cqs 1 ≠ none :=
  ⟨⟨rfl, rfl, rfl, rfl⟩, by decide⟩
theorem wit_delete_sq : Tbl.find ((queuesA 0).fn hA.fn).sqs 1 = some (sq1 0) ∧
    ∀ c ∈ (queuesA 0).host.ctxs, c.hdr.fn = hA.fn → c.hdr.sqid ≠ 1 := by decide
def queuesBusy : State := begun (begun (((queues 1 0).addCtx hIo).addCtx hA) hIo) hA
theorem wit_delete_sq_idle : Starts (begun (((queues 1 0).addCtx hIo).addCtx hA) hIo) hA queuesBusy ∧
    Tbl.find (queuesBusy.fn hA.fn).sqs 1 = some (sq1 1) ∧ ∃ c ∈ queuesBusy.host.ctxs,
    c.hdr.fn = hA.fn ∧ c.hdr.sqid = 1 ∧ c.done = none ∧ c.admitted = false ∧ c.moved = false :=
  ⟨⟨rfl, rfl, rfl, rfl⟩, by decide, by decide⟩

theorem wit_bell_fencing : (withFn lastVf (Fn.init .fencing)).present lastVf = true ∧
    ((withFn lastVf (Fn.init .fencing)).fn lastVf).state = .fencing := by decide
theorem wit_bell_none : (queues 0 0).present .pf0 = true ∧ ((queues 0 0).fn .pf0).state ≠ .fencing ∧
    Tbl.find ((queues 0 0).fn .pf0).sqs 2 = none ∧ Tbl.find ((queues 0 0).fn .pf0).cqs 2 = none := by decide
theorem wit_bell_value : Tbl.find ((queues 0 0).fn .pf0).sqs 1 = some (sq1 0) ∧ (sq1 0).size ≤ 4 ∧ 3 < (sq1 0).size := by decide
theorem wit_head_value : Tbl.find ((queues 0 2).fn .pf0).cqs 1 = some (cq1 0 2) ∧
    ringDist 4 0 2 < ringDist 4 0 3 ∧ ringDist 4 0 2 ≤ ringDist 4 0 2 := by decide
theorem wit_raise_held : (on.fn .pf0).state = .online ∧ (on.fn .pf0).aers = [] := by decide
def listening : State := onA.modFn .pf0 fun x => { x with aers := [hA] }
theorem wit_raise_taken : (listening.fn .pf0).aers = hA :: [] ∧ (listening.ctx? hA).map (·.done) = some none := by decide

/-- In SERVICE (bit 0 of MODES), with three commands rung in PF0's queue 1. -/
def rung : State := queues 3 0
theorem wit_fetch : (rung.domain 5).state = .on ∧ rung.power.entry = none ∧ rung.blockLost 5 = false ∧
    rung.host.paused = false ∧ rung.has Mode.service = true ∧ rung.nextFn = some .pf0 ∧ rung.basketThrottles .pf0 = false ∧
    rung.pickQueue .pf0 = some (0, 1) ∧ Tbl.find (rung.fn .pf0).sqs 1 = some (sq1 3) ∧ (rung.fn .pf0).stamp < 2 ^ 64 := by decide
theorem wit_fetch_not : State.has { on with modes := 0 } Mode.service = false ∧ on.security.rom = false := by decide
theorem wit_fetch_paused : ({ on with host := { on.host with paused := true } } : State).host.paused = true := by decide
theorem wit_fetch_oldest : ∀ e ∈ rung.host.fns, e.2.sqs.any (fun q => rung.fetchable .pf0 q.2) = true ∧ e.2.oldestBell = some 0 := by
  decide

def waits (runs : List (Nat × Nat × Nat)) : State := onIo.modCtx hIo fun c => { c with wait := .entries 4, mods := runs }
theorem wit_entries_first : ((waits [(1, 0, 127)]).firstWaiter).map (·.wait) = some (.entries 4) := by decide
theorem wit_entries_fit : (waits [(1, 0, 127)]).firstWaiter.isSome = true ∧
    (waits [(1, 0, 127)]).entriesFit .pf0 (entriesOf [(1, 0, 127)]) = true := by decide
/-- Every range entry that functions share is taken by twelve Copies of 256 ranges each; the waiter needs one more. -/
def taken : State :=
  let s := waits [(1, 0, 128)]
  { s with host := { s.host with
    ctxs := (List.range 12).map (fun (k : Nat) => { Ctx.new ⟨.pf0, 1, 10 + k⟩ (plainSqe 4) 0 0 0 with
      holds := true, mods := (List.range 256).map fun i => (1, 1000 * i, 1000 * i + 128) }) ++ s.host.ctxs } }
theorem wit_entries_short : taken.firstWaiter.isSome = true ∧ taken.entriesFit .pf0 (entriesOf [(1, 0, 128)]) = false := by
  decide +kernel
theorem wit_entries_meet : (0 : Nat) ≤ 128 ∧ 128 ≤ 127 + 1 ∧ (127 : Nat) ≤ 200 := by decide

def done1 (tail : Nat) : State := (((queues 0 tail).addCtx hIo).finish hIo Cpl.ok)
theorem wit_post_entry : ((done1 2).ctx? hIo).any (fun c => c.done = some Cpl.ok && c.cqid = 1 && c.gen = ((done1 2).fn hIo.fn).gen
      && !((done1 2).spaceWaiter c)) = true ∧
    Tbl.find ((done1 2).fn hIo.fn).cqs 1 = some (cq1 0 2) ∧ ringDist 4 0 2 + 1 < 4 := by decide
def hVf1 : Hdr := ⟨lastVf, 1, 3⟩
def doneVf : State := (((withFn lastVf (queuesFn 0 3)).addCtx hVf1).finish hVf1 Cpl.ok)
theorem wit_post_waits : (doneVf.ctx? hVf1).any (fun c => c.done = some Cpl.ok && c.cqid = 1 && c.wait = .none) = true ∧
    Tbl.find (doneVf.fn lastVf).cqs 1 = some (cq1 0 3) ∧ 4 ≤ ringDist 4 0 3 + 1 := by decide
def waiting1 : State := (done1 0).modCtx hIo fun c => { c with wait := .space }
theorem wit_post_waiting : (waiting1.oldestWaiting .pf0 1).map (·.done) = some (some Cpl.ok) ∧
    Tbl.find (waiting1.fn .pf0).cqs 1 = some (cq1 0 0) ∧ ringDist 4 0 0 + 1 < 4 := by decide
theorem wit_post_bound : ∀ x, Tbl.find ((done1 2).fn hIo.fn).sqs hIo.sqid = some x → x.deleting = [] := by
  intro x h
  simp only [show Tbl.find ((done1 2).fn hIo.fn).sqs hIo.sqid = some (sq1 0) by decide, Option.some.injEq] at h
  rw [← h]
  rfl

def line0 : Line := { address := 4096, delay := 0, seq := 1, posted := 0, cqMap := 0, admin := false, paused := false, due := true }
def lined : State := withFn .pf0 { queuesFn 0 2 with line := some line0 }
theorem wit_line : (lined.fn .pf0).line = some line0 ∧ lined.lineDue .pf0 = true := by decide
theorem wit_line_enable : Starts fetA hA onA ∧ 80 % 256 ≤ 80 ∧ 64 / 64 ≠ 0 ∧ 128 / 128 ≠ 0 := ⟨on_starts, by decide⟩
theorem wit_line_delay : 80 < 81 % 256 ∧ 80 < 0x151 % 256 := by decide
/-- Instance 512 has an unreleased entry in its queue 1. -/
def summed : State :=
  let s := withFn (.inst 512) (queuesFn 0 2)
  { s with host := { s.host with isumA := some ⟨4096, 0, 0, 0, []⟩ } }
theorem wit_summary : summed.host.isumA = some ⟨4096, 0, 0, 0, []⟩ ∧ summed.summaryHalf .a true ≠ 0 ∧
    summed.lineFirst .a true ⟨4096, 0, 0, 0, []⟩ = false := by decide

/-! ### Witnesses: frames, shares and the die -/

def framed (isOpen : Bool) (late : Nat) : State :=
  { on with sched := { on.sched with running := true, isOpen := isOpen, late := late, k := 4, planned := 3 } }
theorem wit_frame_early : max (framed true 0).now 2 < (framed true 0).sched.planned := by decide
theorem wit_frame_end : (framed true 0).sched.running = true ∧ (framed true 0).sched.isOpen = true ∧
    (framed true 0).has Mode.holdUp = false ∧ (framed true 0).sched.planned ≤ 3 ∧ 0 < 1 ∧
    (framed true 0).cfg Obj.overruns < 2 ^ 32 - 1 := by decide
def frameNs : Nat := 1000 * on.cfg Obj.frameUs
theorem wit_frame_waits : (framed false 1).power.entry = none ∧ frameNs = 1000 * (framed false 1).cfg Obj.frameUs ∧ 0 < frameNs ∧
    (framed false 1).nextF = (framed false 1).cfg Obj.frameUs ∧ 0 < (framed false 1).sched.late := by decide
theorem wit_frame_next : (framed false 0).sched.running = true ∧ (framed false 0).sched.isOpen = false ∧
    (framed false 0).sched.late = 0 ∧ (framed false 0).has Mode.holdUp = false ∧ (framed false 0).now ≤ 6 * frameNs - 1 ∧
    6 * frameNs - 1 < (framed false 0).sched.t0 + ((framed false 0).sched.k + 2) * frameNs := by decide
theorem wit_frame_skips : (framed false 0).sched.t0 + ((framed false 0).sched.k + 2) * frameNs ≤ 6 * frameNs ∧
    (framed false 0).sched.t0 + 6 * frameNs ≤ 6 * frameNs ∧ 6 * frameNs < (framed false 0).sched.t0 + (6 + 1) * frameNs := by decide
theorem wit_bank_grows : ((withFn lastVf online).fn lastVf).state = .online ∧ on.cfg Obj.freezePhase 1023 = 0 := by decide
theorem wit_bank_stops : (on.fn lastVf).state = .absent := by decide

theorem wit_pay : on.draining lastVf = false ∧ ((0 : Nat) : Int) ≤ (on.bank 1023).read ∧ ¬ ((1 : Nat) : Int) ≤ (on.bank 1023).read := by
  decide
def holdingUp : State := { on with modes := modeBit Mode.holdUp }
theorem wit_admit_not : holdingUp.has Mode.holdUp = true := by decide
theorem wit_admit : on.has Mode.holdUp = false := by decide
def bgOne (r : Nat) : State := { on with sched := { on.sched with bg := [⟨3, .scrub, .copy 0 1 0, r, 0⟩] } }
theorem wit_admit_bg : (bgOne 0).sched.bg.find? (·.id = 3) = some ⟨3, .scrub, .copy 0 1 0, 0, 0⟩ ∧ (bgOne 0).bgOpen = true ∧
    (bgOne 0).taskPresses 2 .scrub = false ∧ (bgOne 0).taskPresses 3 .scrub = false ∧
    ((0 : Nat) : Int) ≤ ((bgOne 0).bank Task.scrub.holder).read ∧ ((0 : Nat) : Int) ≤ ((bgOne 0).bank Task.scrub.holder).write := by
  decide +kernel
theorem wit_admit_bg_waits : (bgOne 1).sched.bg.find? (·.id = 3) = some ⟨3, .scrub, .copy 0 1 0, 1, 0⟩ ∧ (bgOne 1).bgOpen = true ∧
    ((bgOne 1).bank Task.scrub.holder).read < ((1 : Nat) : Int) := by decide
def windowAt (n : Nat) : State :=
  let s := on.keep Obj.contractBound 100 5
  { s with sched := { s.sched with windows := [(5, n)] } }
theorem wit_window_early : Tbl.get 0 (windowAt 999999).sched.windows 5 < 1000000 := by decide
theorem wit_window : (windowAt 1000000).cfg Obj.contractBound 5 ≠ 0 ∧ 1000000 ≤ Tbl.get 0 (windowAt 1000000).sched.windows 5 ∧
    100 ≤ (windowAt 1000000).cfg Obj.contractBound 5 ∧ (windowAt 1000000).cfg Obj.contractBound 5 < 101 ∧
    (windowAt 1000000).cfg Obj.contractMiss 5 < 2 ^ 32 - 1 := by decide

/-- A class of small dies, so that a zone of width 8 has 2,048 LBAs. -/
def die : DieProfile :=
  { classId := 0, planes := 4, blocks := 1000, pages := 16, slcPages := 8, dataBytes := 16384, spareBytes := 2048, tR := 50000
    tProg := 400000, tSlc := 100000, tErase := 3000000, tSusp := 20000, suspend := true, readSuspendedBlock := true, maxRate := 5
    pRead := 1, pProg := 1, pErase := 1, pIdle := 1 }
def readOp (tokens : Nat) : LunOp :=
  { id := 7, kind := .read 0, cls := .other, age := 1, frame := 0, block := 2, tokens := tokens, waited := false, slc := false }
def lun0 (queue : List LunOp) (busy : Option Busy) : State :=
  { on with flash := { on.flash with
    classes := [die]
    luns := [(0, { state := .active, cls := 0, factoryBad := [], queue := queue, busy := busy, resetAt := none })] } }
def eraseBusy (asking suspended : Bool) : Busy :=
  { op := { readOp 1 with kind := .erase 9, cls := .erase, block := 9 }, since := 0, ends := 5, suspends := 0, asking := asking
    suspended := suspended, toServe := [], serving := none, retried := false }

theorem wit_first_head : (lun0 [readOp 0] none).firstHead = some (0, readOp 0) ∧ (lun0 [readOp 0] none).has Mode.holdUp = false ∧
    (readOp 0).tokens ≤ (lun0 [readOp 0] none).tokensFree := by decide
theorem wit_head_waits : (lun0 [readOp 9999999] none).firstHead = some (0, readOp 9999999) ∧
    (lun0 [readOp 9999999] none).tokensFree < (readOp 9999999).tokens := by decide
theorem wit_suspended : ((lun0 [readOp 0] (some (eraseBusy true false))).lun 0).busy = some (eraseBusy true false) ∧
    (eraseBusy true false).asking = true ∧ (eraseBusy true false).suspended = false ∧
    (((lun0 [readOp 0] (some (eraseBusy true false))).lun 0).queue.filter
      ((lun0 [readOp 0] (some (eraseBusy true false))).servable 0 (eraseBusy true false))).length ≥ 1 ∧
    1 ≤ on.cfg Obj.suspendReads := by decide
theorem wit_ready : ((lun0 [] (some (eraseBusy false false))).lun 0).busy = some (eraseBusy false false) ∧
    (eraseBusy false false).suspended = false := by decide
theorem wit_resumes : ((lun0 [] (some (eraseBusy false true))).lun 0).busy = some (eraseBusy false true) ∧
    (eraseBusy false true).serving = none ∧ (eraseBusy false true).toServe = [] := by decide
theorem wit_idle_lun : (on.lun 4095).busy = none := by decide

/-! ### Witnesses: I/O commands, namespaces and zones -/

def nsState (x : Ns) : State := { oneNs x with flash := { on.flash with classes := [die] } }
def fet (x : Ns) : State := (nsState x).addCtx hIo
def io (x : Ns) : State := begun (fet x) hIo
theorem io_starts (x : Ns) : IoStarts (fet x) hIo (io x) := by
  have b : ∀ d, (fet x).blockLost d = fetIo.blockLost d := fun _ => rfl
  have c : (fet x).begin hIo = some (io x) := by
    simp only [State.begin, b]
    rfl
  exact ⟨c, rfl, rfl⟩
/-- What follows when hIo goes on at once. -/
def goes (x : Ns) (mods looks : List (Nat × Nat × Nat)) : State :=
  ((io x).modCtx hIo fun c => { c with mods := mods, looks := looks }).modCtx hIo fun c =>
    { c with holds := decide (mods ≠ []), cmd := none, wait := .none }
def noPi : PrInfo := ⟨false, false, false, false, 0⟩
def range0 (n : Nat) : Range := ⟨1, 4, n⟩
def readArgs : ReadArgs :=
  { range := range0 511, fua := false, keyTag := none, expect := [], expectMetas := [], prinfo := noPi }
def writeArgs (slba n : Nat) : WriteArgs :=
  { range := ⟨1, slba, n⟩, fua := false, dtype := 0, dspec := 0, keyTag := none, data := [], metas := [], prinfo := noPi }

theorem wit_chunks : 0 < 1 := by decide
theorem wit_read : readArgs.fua = false ∧ ((goes conventional [] [(1, 1, 128)]).ctx? hIo).isSome = true ∧
    (∀ u ∈ unitsOf 4 512, (io conventional).zoneBusy 1 u = false) ∧ (io conventional).readCheck hIo true readArgs = none ∧
    (io conventional).readCheck hIo false readArgs = none := by
  decide +kernel
theorem wit_read_launches : Launches (io conventional) hIo [] [unitRun 1 4 512] (goes conventional [] [unitRun 1 4 512]) :=
  ⟨.inl rfl, rfl, by decide⟩
theorem wit_verify : (io conventional).readGate = none ∧ (io conventional).keyCheck conventional 1 none = none ∧
    4092 + 3 + 1 ≤ conventional.nsze := by decide
theorem wit_verify_ns : (io conventional).nsCheck .pf0 1 = .ok conventional := rfl
def moded (m : Nat) : State := { fetIo with modes := modeBit m }
theorem wit_read_sanitize : IoStarts (moded Mode.sanitize) hIo (begun (moded Mode.sanitize) hIo) ∧
    (begun (moded Mode.sanitize) hIo).has Mode.factory = false ∧ (begun (moded Mode.sanitize) hIo).has Mode.sanitize = true :=
  ⟨⟨rfl, rfl, rfl⟩, by decide, by decide⟩
theorem wit_read_no_ns : onIo.has Mode.factory = false ∧ onIo.has Mode.sanitize = false ∧ onIo.ns? 1 = none := by decide

theorem wit_write : (io conventional).writeCheck hIo (writeArgs 4 511) false = none ∧
    (io conventional).ns? 1 = some conventional ∧ conventional.kind ≠ .zoned := by decide
theorem wit_write_launches : Launches (io conventional) hIo [unitRun 1 4 512] [] (goes conventional [unitRun 1 4 512] []) :=
  ⟨.inr ⟨by decide, by decide⟩, rfl, by decide⟩
def zoned (st : ZState) (wp : Nat) : Ns :=
  { conventional with kind := .zoned, zones := [(0, { Zone.initial with state := st, wp := wp, stripe := some 0 })] }
theorem wit_zone_sizes : (io (zoned .full 0)).zsze 8 = 2048 ∧ (io (zoned .full 0)).zcap 8 = 2048 := by decide
theorem wit_write_full : (io (zoned .full 2048)).writeCheck hIo (writeArgs 0 0) false = none ∧
    (((zoned .full 2048).zone (0 / 2048)).state = .full) := by decide
theorem wit_write_elsewhere : ((zoned .implicitOpen 4).zone 0).state.isOpen = true ∧
    0 % 2048 ≠ ((zoned .implicitOpen 4).zone 0).wp := by decide
theorem wit_write_fills : ((zoned .implicitOpen 1536).zone 0).state.isOpen = true ∧
    ((zoned .implicitOpen 1536).zone 0).wp + 511 + 1 = 2048 ∧ 1536 % 2048 = ((zoned .implicitOpen 1536).zone 0).wp ∧
    ((zoned .implicitOpen 1536).zone 0).stripe ≠ none ∧
    (io (zoned .implicitOpen 1536)).writeCheck hIo (writeArgs 1536 511) false = none := by decide
theorem wit_zone_launches : Launches (io (zoned .implicitOpen 1536)) hIo [unitRun 1 1536 512] []
    (goes (zoned .implicitOpen 1536) [unitRun 1 1536 512] []) := ⟨.inr ⟨by decide, by decide⟩, rfl, by decide⟩
theorem wit_append : (io (zoned .implicitOpen 1536)).writeCheck hIo (writeArgs 0 511) true = none ∧
    ((zoned .implicitOpen 1536).zone 0).wp + 511 + 1 ≤ 2048 := by decide
theorem wit_append_launches : Launches (io (zoned .implicitOpen 1536)) hIo [(io (zoned .implicitOpen 1536)).appendRun (writeArgs 0 511)]
    [] (goes (zoned .implicitOpen 1536) [(io (zoned .implicitOpen 1536)).appendRun (writeArgs 0 511)] []) :=
  ⟨.inr ⟨by decide, by decide⟩, rfl, by decide⟩
def copyArgs : CopyArgs := { nsid := 1, sdlba := 0, format := 0, ranges := [⟨8, 3⟩, ⟨100, 0⟩] }
theorem wit_copy : (io conventional).copyCheck hIo copyArgs = none := by decide
theorem wit_copy_launches : Launches (io conventional) hIo [unitRun 1 0 5] [unitRun 1 8 4, unitRun 1 100 1]
    (goes conventional [unitRun 1 0 5] [unitRun 1 8 4, unitRun 1 100 1]) := ⟨.inr ⟨by decide, by decide⟩, rfl, by decide⟩
theorem wit_read_only : IoStarts (moded Mode.readOnly) hIo (begun (moded Mode.readOnly) hIo) ∧
    (begun (moded Mode.readOnly) hIo).has Mode.factory = false ∧ (begun (moded Mode.readOnly) hIo).has Mode.sanitize = false ∧
    (begun (moded Mode.readOnly) hIo).has Mode.readOnly = true ∧ copyArgs.format = 0 :=
  ⟨⟨rfl, rfl, rfl⟩, by decide, by decide, by decide, rfl⟩

theorem wit_zeroes : (io conventional).mapCheck hIo ⟨1, 4 * 1023, 3⟩ 65536 = none ∧
    (io conventional).dsmCheck hIo 1 true [⟨1, 4 * 1023, 3⟩] = none ∧
    ((goes conventional [(1, 1023, 1023)] []).ctx? hIo).map (·.done) = some none ∧ (io conventional).slotOf 1 1023 = none := by decide
theorem wit_zeroes_launches : Launches (io conventional) hIo [(1, 1023, 1023)] [] (goes conventional [(1, 1023, 1023)] []) :=
  ⟨.inr ⟨by decide, by decide⟩, rfl, by decide⟩
theorem wit_dsm_nothing : (io conventional).dsmCheck hIo 1 false [range0 3] = none := by decide
theorem wit_dsm_launches : Launches (io conventional) hIo [] [] (goes conventional [] []) := ⟨.inl rfl, rfl, by decide⟩
theorem wit_flush : onIo.readGate = none ∧ (onIo.ctx? hIo).any (fun c => c.done.isNone && c.chunks = [] && c.open_ = 0 &&
      c.err.isNone && c.purpose = .none && c.data = [] && c.need = [] && c.page = 0 && c.pi.isNone) = true ∧
    onIo.store.slots = [] ∧ onIo.lastPage ≤ onIo.store.journal.durable ∧ (∀ e ∈ onIo.host.ctxs, e.mods = []) := by decide
def hIo4 : Hdr := ⟨.pf0, 1, 4⟩
def fetBehind : State := (onIo.modCtx hIo fun c => { c with mods := [(1, 0, 0)] }).addCtx hIo4
theorem wit_flush_starts : IoStarts fetBehind hIo4 (begun fetBehind hIo4) := ⟨rfl, rfl, rfl⟩
theorem wit_flush_waits : ((begun fetBehind hIo4).ctx? hIo4).map (fun c => (c.stamp, c.gen, c.done)) = some (1, 0, none) ∧
    ∃ e ∈ (begun fetBehind hIo4).host.ctxs, e.hdr.fn = .pf0 ∧ e.hdr ≠ hIo4 ∧ e.stamp < 1 ∧ e.done = none ∧ e.gen = 0 ∧ e.mods ≠ [] := by
  decide

/-! ### Witnesses: zones, placement and namespaces -/

def narrow (st other : ZState) : Ns :=
  { conventional with
    kind := .zoned
    word := { conventional.word with maxOpen := 1, maxActive := 1, blockVer := 1 }
    zones := [(0, { Zone.initial with state := st, wp := 4 }), (1, { Zone.initial with state := other })] }
theorem wit_zone_send : (io (narrow .closed .empty)).sendCheck hIo 1 0 false = none ∧
    0 = 0 / (io (narrow .closed .empty)).zsze (narrow .closed .empty).width ∧
    ((io (narrow .closed .empty)).ctx? hIo).map (·.done) = some none := by decide
theorem wit_zone_open : ((narrow .closed .empty).zone 0).state = .closed ∧ (narrow .closed .empty).openZones < (narrow .closed .empty).maxOpen := by
  decide
theorem wit_zone_open_empty : ((narrow .empty .empty).zone 0).state = .empty ∧
    (narrow .empty .empty).activeZones < (narrow .empty .empty).maxActive := by decide
theorem wit_zone_refused : ((narrow .full .empty).zone 0).state = .full ∧ ((narrow .readOnly .empty).zone 0).state = .readOnly ∧
    ((narrow .offline .empty).zone 0).state = .offline := by decide
theorem wit_zone_too_many_active : ((narrow .empty .closed).zone 0).state = .empty ∧
    (narrow .empty .closed).maxActive ≤ (narrow .empty .closed).activeZones := by decide
theorem wit_zone_too_many_open : ((narrow .closed .explicitOpen).zone 0).state = .closed ∧
    (narrow .closed .explicitOpen).maxOpen ≤ (narrow .closed .explicitOpen).openZones ∧
    (∀ e ∈ (narrow .closed .explicitOpen).zones, e.2.state ≠ .implicitOpen) := by decide
theorem wit_zone_active : ((narrow .implicitOpen .empty).zone 0).state.isActive = true := by decide

def keyed (st : ZState) (m : Bool) (g : Option Hdr) : Ns :=
  { zoned st 8 with
    word := { conventional.word with keyMode := m, digest := m }
    zones := [(0, { Zone.initial with state := st, wp := 8, stripe := some 0, resetting := g })] }
theorem wit_secure_reset_not : (io (keyed .full false none)).sendCheck hIo 1 0 false = none ∧
    (keyed .full false none).word.keyMode = false := by decide
theorem wit_secure_reset_state : (io (keyed .offline true none)).sendCheck hIo 1 0 false = none ∧
    (keyed .offline true none).word.keyMode = true ∧ ((keyed .offline true none).zone 0).resetting = none ∧
    ((keyed .offline true none).zone 0).state = .offline := by decide
theorem wit_secure_reset_waits : (io (keyed .full true (some hA))).sendCheck hIo 1 0 false = none ∧
    ∃ g, ((keyed .full true (some hA)).zone 0).resetting = some g := ⟨by decide, hA, rfl⟩
theorem wit_secure_reset : (io (keyed .full true none)).sendCheck hIo 1 0 false = none ∧ (keyed .full true none).word.keyMode = true ∧
    ((keyed .full true none).zone 0).state = .full ∧ (keyed .full true none).kind = .zoned ∧
    ((keyed .full true none).zone 0).resetting = none := by decide
theorem wit_secure_zone : (io (keyed .full true none)).ns? 1 = some (keyed .full true none) ∧
    ((keyed .full true none).zone 0).epoch ≠ 0xFFFFFFFF := by decide
def lastEpoch : Ns := { keyed .full true none with zones := [(0, { Zone.initial with state := .full, epoch := 0xFFFFFFFF })] }
theorem wit_secure_last : (io lastEpoch).ns? 1 = some lastEpoch ∧ (lastEpoch.zone 0).epoch = 0xFFFFFFFF := by decide
theorem wit_report : (io (keyed .full true none)).receiveCheck hIo 1 0 31 = none ∧ 7 ≤ 7 ∧ 1 ≤ 1 ∧
    (keyed .full true none).word.digest = true := by decide
theorem wit_report_plain : (io (keyed .full false none)).receiveCheck hIo 1 0 0 = none ∧ (keyed .full false none).word.digest = false := by
  decide

def ageNs : Nat := 3600000000000 * on.cfg Obj.zoneAgeH
theorem wit_age : (io (zoned .implicitOpen 4)).ns? 1 = some (zoned .implicitOpen 4) ∧ (zoned .implicitOpen 4).kind = .zoned ∧
    ((zoned .implicitOpen 4).zone 0).state.isActive = true ∧ ((zoned .implicitOpen 4).zone 0).stripe ≠ none ∧
    ((zoned .implicitOpen 4).zone 0).finishRec = false ∧
    max on.now (ageNs - 1) < ((zoned .implicitOpen 4).zone 0).opened + ageNs ∧
    ((zoned .implicitOpen 4).zone 0).opened + ageNs ≤ max on.now ageNs := by decide
def stripe0 : Stripe :=
  { use := .ns 0 0, w := 8, q := false, group := 0, members := [(0, 0)], next := 0, parityRows := 0, ended := false, openedAt := 0
    closedAt := none, restarts := 0, lost := [], secure := false, secureAt := 0, copying := false, wear := false, relocPage := 0
    sources := [], moved := [] }
/-- Sixteen LUNs make reclaim group 0; FDP is enabled, and handle 0 has an open stripe there. -/
def flexible : Ns := { conventional with kind := .flexible }
def placed : State :=
  let s := nsState flexible
  { s with
    flash := { s.flash with luns := (List.range 16).map fun i => (i, { Lun.none with state := .active, cls := 0 }) }
    store := { s.store with fdp := some 0, stripes := [(0, stripe0)] } }
def ruNs : Nat := 3600000000000 * on.cfg Obj.ruTimeLimitH
theorem wit_unit_ends : placed.openOf (.ns 0 (0 * 1024 + 0)) 0 = some 0 ∧ placed.stripe? 0 = some stripe0 ∧
    max placed.now (ruNs - 1) < stripe0.openedAt + 3600000000000 * placed.cfg Obj.ruTimeLimitH ∧
    stripe0.openedAt + 3600000000000 * placed.cfg Obj.ruTimeLimitH ≤ max placed.now ruNs := by decide
def fetPlaced : State := placed.addCtx hIo
def ioPlaced : State := begun fetPlaced hIo
theorem wit_handle_starts : IoStarts fetPlaced hIo ioPlaced := ⟨rfl, rfl, rfl⟩
theorem wit_handle_update : ioPlaced.writeGate = none ∧
    ioPlaced.readGate = none ∧ ioPlaced.fdpCheck hIo 1 = none ∧ ioPlaced.pointerCheck hIo false 2 0 = none ∧
    ioPlaced.ns? 1 = some flexible ∧ ioPlaced.handleOf flexible 0 = some (0, 0) ∧
    ioPlaced.transferCheck hIo true (4 * (11 + 1), 0) = none ∧
    ioPlaced.openOf (.ns 0 (0 * 1024 + 0)) 0 = some 0 ∧ ioPlaced.stripe? 0 = some stripe0 := by decide
def queuedErase (clock : Nat) : State :=
  { on with store := { on.store with secureQueue := [(4095, 1)], secureDue := [(4095, 1, 0)], eraseClock := clock } }
def eraseNs : Nat := 1000000000 * on.cfg Obj.secureEraseS
theorem wit_secure_erase : (queuedErase eraseNs).store.secureDue.find? (fun e => (e.1, e.2.1) = (4095, 1)) = some (4095, 1, 0) ∧
    (queuedErase eraseNs).erasePermitted = true ∧
    0 + 1000000000 * (queuedErase eraseNs).cfg Obj.secureEraseS ≤ ((queuedErase eraseNs).tick 0).store.eraseClock := by decide
theorem wit_secure_erase_early : (queuedErase 0).erasePermitted = true ∧
    ((queuedErase 0).tick 0).store.eraseClock < 0 + 1000000000 * (queuedErase 0).cfg Obj.secureEraseS := by decide
theorem wit_secure_erase_not : ∀ e ∈ (queuedErase 0).store.secureDue, (e.1, e.2.1) ≠ (4095, 0) := by decide
def slot0 (st : SlotState) : Slot :=
  { nsid := 1, unit := 2, mask := 1, lbas := [], metas := [], bad := 0, keyTags := [], prev := .unmapped, since := 0, state := st
    tries := 4, wseq := 9, page := 0, handle := 0, writers := [], wanted := false, staged := none, digested := false, counter := 0
    dead := false, flight := none, again := false }
def slotted (st : SlotState) : State := (oneNs conventional).setSlot 0 (slot0 st)
theorem wit_merge : (slotted .filling).slot? 0 = some (slot0 .filling) ∧
    (slotted .filling).ns? (slot0 .filling).nsid = some conventional := by decide

def created : NsArgs :=
  { csi := 0, nsze := 4, ncap := 4, flbas := 0, dps := 0, handles := [], word := { conventional.word with blockVer := 1 } }
def fetRoomy : State :=
  let s := { placed with store := { placed.store with fdp := none, ns := [], stripes := [] } }
  (({ s with mem := { s.mem with chans := [(0, { DramChan.reset with state := 2, ranks := 1 })] } }).keep Obj.spareInitial 16).addCtx hA
def roomy : State := begun fetRoomy hA
theorem wit_create_starts : AdminStarts fetRoomy hA roomy := ⟨⟨rfl, rfl, rfl, rfl⟩, rfl⟩
theorem wit_create_ns : roomy.has Mode.sanitize = false ∧ roomy.adminBuffer hA 4096 = none ∧ roomy.createRefusal created = none := by
  decide +kernel
theorem wit_ns_manager : AdminStarts fetA hA onA ∧ onA.has Mode.sanitize = false := ⟨on_admin_starts, by decide⟩
theorem wit_create_refused : 1 < ({ created.word with blockVer := 2 } : CreationWord).blockVer ∧
    ({ created.word with blockVer := 1, cipherMode := 2 } : CreationWord).blockVer = 1 ∧
    1 < ({ created.word with blockVer := 1, cipherMode := 2 } : CreationWord).cipherMode ∧
    conventional.word.blockVer = 0 ∧ created.csi = 0 ∧ 2 < 3 % 16 := by decide
def fetAttach (l : List Nat) : State :=
  ((oneNs { conventional with attached := l }).setFn (.inst 0) (Fn.init .offline)).addCtx hA
def attach (l : List Nat) : State := begun (fetAttach l) hA
theorem wit_attach_starts : AdminStarts (fetAttach []) hA (attach []) ∧ AdminStarts (fetAttach [0]) hA (attach [0]) :=
  ⟨⟨⟨rfl, rfl, rfl, rfl⟩, rfl⟩, ⟨⟨rfl, rfl, rfl, rfl⟩, rfl⟩⟩
theorem wit_attach : (attach []).ns? 1 = some { conventional with attached := [] } ∧ (attach []).listable .pf0 (0x100 + 0) = true ∧
    (attach []).adminBuffer hA 4096 = none ∧ (attach []).attachedCount 0 < 256 := by decide
theorem wit_detach : (attach [0]).listable .pf0 (0x100 + 0) = true ∧ 0 ∈ ({ conventional with attached := [0] } : Ns).attached := by
  decide
theorem wit_format : (attach []).ns? 1 = some { conventional with attached := [] } ∧ 1 ≠ 0xFFFFFFFF ∧
    conventional.owner = (attach []).portOfFn .pf0 ∧ (attach []).has Mode.readOnly = false ∧
    (attach []).has Mode.factory = false ∧ formatOk 2 3 = true := by decide
theorem wit_format_other : ({ conventional with owner := .b } : Ns).owner ≠ onA.portOfFn .pf0 := by decide

/-! ### Witnesses: journal, programs, reclaim -/

def jrec : JRec := .nscfg 0 0
def recorded : State := { on with store := { on.store with journal := { Journal.reset with recs := [jrec] } } }
theorem wit_journal_timer : recorded.store.journal.recs ≠ [] ∧
    1000 * recorded.cfg Obj.journalTimerUs ≤ max recorded.now (1000 * on.cfg Obj.journalTimerUs) - recorded.store.journal.since := by
  decide
theorem wit_journal_timer_early : max recorded.now (1000 * on.cfg Obj.journalTimerUs - 1) - recorded.store.journal.since
    < 1000 * recorded.cfg Obj.journalTimerUs := by decide
def page (seq copies : Nat) (fails : Nat × Nat) (stuck : Bool) : JPage :=
  { seq := seq, recs := [jrec], conf := 0, base := 0, copies := copies, fails := fails, stuck := stuck, prev := 0, places := []
    kept := [], nss := [] }
def paged (ps : List JPage) : State :=
  (on.keep Obj.spareRemaining 2).setJournal { Journal.reset with pages := ps, next := 2 }
theorem wit_page_not_durable : ∀ p ∈ (paged [page 0 1 (3, 1) true, page 1 2 (0, 0) false]).store.journal.pages,
    p.seq = (paged [page 0 1 (3, 1) true, page 1 2 (0, 0) false]).store.journal.durable →
      p.copies < 2 ∧ (p.seq ≠ 0 ∨ p.stuck = true) := by decide
theorem wit_page_durable : ∀ p ∈ (paged [page 0 1 (0, 0) false]).store.journal.pages, p.seq = 0 ∧ p.stuck = false ∧
    0 = (paged [page 0 1 (0, 0) false]).store.journal.durable := by decide
theorem wit_copy_fails : (paged [page 0 0 (0, 3) false]).store.journal.pages.find? (·.seq = 0) = some (page 0 0 (0, 3) false) ∧
    2 ≤ (paged [page 0 0 (0, 3) false]).cfg Obj.spareRemaining ∧ (paged [page 0 0 (0, 3) false]).cfg Obj.roCause = 0 ∧
    3 = (if (1 : Fin 2).val = 0 then (page 0 0 (0, 3) false).fails.1 else (page 0 0 (0, 3) false).fails.2) := by decide
def stuckFor : State :=
  let s := (paged [page 0 0 (2, 0) false]).addCtx hIo
  s.modCtx hIo fun c => { c with wait := .durable, page := 1 }
theorem wit_copy_stuck : stuckFor.store.journal.pages.find? (·.seq = 0) = some (page 0 0 (2, 0) false) ∧
    2 ≤ stuckFor.cfg Obj.spareRemaining ∧ stuckFor.cfg Obj.roCause = 0 ∧ (page 0 0 (2, 0) false).fails.1 < 3 ∧
    ∃ c ∈ stuckFor.host.ctxs, c.wait = .durable ∧ c.done = none ∧ 0 < c.page ∧ stuckFor.ctx? c.hdr = some c := by decide
theorem wit_no_aer (f : Func) : (stuckFor.fn f).aers = [] := by
  cases f <;> simp [stuckFor, State.fn, State.fnAt, State.modCtx, State.addCtx, State.setFn, State.setFnAt, State.setJournal, paged, on,
    hIo, Tbl.get, Tbl.set, Tbl.find, Tbl.put, State.reset, HostSt.reset, Func.code, Fn.default, Fn.init]
  all_goals (first | rfl | (split <;> rfl))
def changed1 : State :=
  let s := oneNs { conventional with map := [(0, .uncorrectable), (1048576, .uncorrectable)] }
  s.setJournal { s.store.journal with changed := [(1, 0)] }
theorem wit_checkpoint : (changed1.ns? 1).any (fun x => x.kind ≠ .zoned) = true ∧ (1, 0) ∈ changed1.store.journal.changed ∧
    (changed1.tick 0).isDue Periodic.checkpoint = true ∧ changed1.store.journal.pass = [] ∧
    (∀ c ∈ changed1.store.journal.copies, c.nsid = 1 → c.segment = 0 → c.page ≠ 0) := by decide
def copied (d : Nat) : State := on.setJournal { Journal.reset with
  durable := d
  copies := [{ nsid := 1, segment := 0, snapshot := 3, entries := [], zones := [], former := [], nss := [], place := .unmapped
               fails := 0, page := 4, inEffect := false }] }
theorem wit_segment_waits : ∀ c ∈ (copied 3).store.journal.copies, c.nsid = 1 ∧ c.segment = 0 ∧ (copied 3).store.journal.durable < c.page := by
  decide
theorem wit_segment_durable : ((copied 4).store.journal.copies.find? (fun d => (d.nsid = 1 && d.segment = 0) && !d.inEffect
    && 0 < d.page && (copied 4).pageDurable d.page)).isSome = true := by decide

def loc : MapEntry := .flash false 0 0 0 0 20 0
theorem wit_program_done : (slotted (.programming loc)).slot? 0 = some (slot0 (.programming loc)) ∧
    (slot0 (.programming loc)).dead = false ∧ (slotted (.programming loc)).ns? 1 = some conventional ∧
    4 ≤ (slot0 (.programming loc)).tries ∧ (slot0 (.programming loc)).again = false ∧ conventional.kind ≠ .zoned := by decide
theorem wit_program_filling : (slotted .filling).slot? 0 = some (slot0 .filling) := by decide
def writing : State := ((slotted (.programming loc)).addCtx hIo).modCtx hIo fun c => { c with mods := [(1, 2, 2)] }
theorem wit_program_writers : ∃ c ∈ writing.host.ctxs, writing.ctx? c.hdr = some c ∧ c.done = none ∧
    ∃ r ∈ c.mods, runsMeet r (1, 2, 2) = true := by decide
theorem wit_relocate : (oneNs { conventional with map := [(5, loc)] }).ns? 1 = some { conventional with map := [(5, loc)] } ∧
    ({ conventional with map := [(5, loc)] } : Ns).entry 5 = loc ∧ conventional.entry 5 ≠ loc := by decide
def moving : Stripe := { stripe0 with use := .mangle, moved := [(1, 5, loc, .uncorrectable)], sources := [1] }
def movingState : State :=
  let s := (lun0 [] none).setStripe 0 moving
  (s.setStripe 1 stripe0).keep Obj.spareRemaining 2
theorem wit_target_complete : movingState.stripe? 0 = some moving ∧ moving.moved ≠ [] ∧ moving.closedAt = none := by decide
theorem wit_target_fails : movingState.stripe? 0 = some moving ∧ (0, 0) = moving.members.getD 0 (0, 0) ∧
    (∀ r ∈ movingState.store.replacing, ¬ (r.1 = 0 ∧ r.2.1 = 0)) ∧ (movingState.lun 0).state = .active ∧
    (movingState.block 0 0).retired = false ∧ 2 ≤ movingState.cfg Obj.spareRemaining ∧
    movingState.cfg Obj.blocksRetired < 2 ^ 32 - 1 ∧
    100 * (movingState.retiredOf 0 + 1) ≤ movingState.lunBlocks 0 * movingState.cfg Obj.lunWearoutPct ∧
    ∃ i ∈ moving.sources, i ≠ 0 ∧ movingState.stripe? i = some stripe0 := by decide +kernel

def folding (b : Bool) : State := { on with store := { on.store with folding := b } }
theorem wit_fold_stops : (folding true).store.folding = true ∧ 2 * (folding true).stagingUsed < (folding true).cfg Obj.foldStartPct := by
  decide +kernel
theorem wit_fold_starts : ((folding false).keep Obj.foldStartPct 0).cfg Obj.foldStartPct ≤ ((folding false).keep Obj.foldStartPct 0).stagingUsed ∧
    ((folding false).keep Obj.foldStartPct 0).store.folding = false := by decide +kernel
theorem wit_no_victim : on.victim 0 = none := by decide
def scarce : State := on.setStripe 0 { stripe0 with ended := true, closedAt := some 0, secure := true }
theorem wit_victim : (scarce.victim 0).isSome = true ∧ scarce.bgOpen = true ∧ scarce.has Mode.recovery = false ∧
    scarce.freeBp 0 < scarce.cfg Obj.gcLowBp := by decide
def emptied : Stripe := { stripe0 with ended := true, closedAt := some 0 }
def emptiedState : State := on.setStripe 0 emptied
theorem wit_source_goes : emptiedState.stripe? 0 = some emptied ∧ emptied.ended = true ∧ emptiedState.unitsIn 0 = [] ∧
    emptied.relocPage ≤ emptiedState.store.journal.durable ∧ emptiedState.stripeRead 0 = false ∧ emptied.victimUse = true ∧
    (∀ m ∈ emptied.members, (emptiedState.block m.1 m.2).claim = none ∨ (emptiedState.block m.1 m.2).claim = some 1) := by decide
theorem wit_source_stays : (on.setStripe 0 { emptied with relocPage := 1 }).store.journal.durable < 1 := by decide
def lastUnit : Ns := { conventional with map := [(5, .flash false 0 0 0 0 0 0)] }
def namedState (sec : Bool) (clock : Nat) : State :=
  let s := ((oneNs lastUnit).setStripe 0 { emptied with secure := sec }).setBlock 0 0 { Block.fresh with stripe := some (0, 0) }
  { s with store := { s.store with eraseClock := clock } }
def sdNs : Nat := 1000000000 * on.cfg Obj.sdBoundS
theorem wit_secure_discard : (namedState true sdNs).stripe? 0 = some { emptied with secure := true } ∧
    0 + 1000000000 * (namedState true sdNs).cfg Obj.sdBoundS ≤ ((namedState true sdNs).tick 0).store.eraseClock ∧
    (namedState true sdNs).unitsIn 0 ≠ [] := by decide
theorem wit_secure_discard_early :
    ((namedState true 0).tick 0).store.eraseClock < 0 + 1000000000 * (namedState true 0).cfg Obj.sdBoundS := by decide
theorem wit_stripe_close : (on.setStripe 0 { stripe0 with ended := true }).stripe? 0 = some { stripe0 with ended := true } ∧
    (on.setStripe 0 { stripe0 with ended := true }).stripeBusy 0 = false := by decide
theorem wit_spare_add : on.unreservedBlocks < 1 ∧ 0 ≤ on.unreservedBlocks ∧ on.cfg Obj.roCause ≠ 1 := by decide
def replacing : State := { emptiedState with store := { emptiedState.store with replacing := [(0, 0, 3, 30)] } }
theorem wit_member_replaced : replacing.stripe? 0 = some emptied ∧
    replacing.store.replacing.find? (fun r => r.1 = 0 && r.2.1 = 0) = some (0, 0, 3, 30) := by decide
theorem wit_system_block : ((on.setBlock 0 0 { Block.fresh with system := true }).block 0 0).system = true := by decide

def mread (n : Option Nat) (steps : List LadderStep) : MediaRead :=
  { nsid := 1, unit := 5, entry := loc, mask := 15, cls := .other, attached := [], refs := 0, steps := steps, arrived := false
    issued := false, epoch := 0, around := n, aroundTried := false, tagFails := 0, source := 1, serves := .host, data := []
    metas := [], sending := false, reread := false }
def readState (r : MediaRead) : State := (oneNs lastUnit).setRead 0 r
theorem wit_read_around : Tbl.find (readState (mread (some 3) [.hard])).store.reads 0 = some (mread (some 3) [.hard]) ∧
    (∃ n, (mread (some 3) [.hard]).around = some n) ∧ (mread (some 3) [.hard]).serves = .host ∧
    ¬ (∀ e ∈ (mread (some 3) [.hard]).steps, e = .decoded) := by
  refine ⟨by decide, ⟨3, rfl⟩, by decide, by decide⟩
def chan63 : Channel :=
  { rate := 5, state := 1, eyeMin := 100, fails := 0, targets := 1, faults := 0, trainedAt := 20, transfers := [] }
def chanState : State := { on with flash := { on.flash with channels := [(63, chan63)] } }
theorem wit_recentre : Tbl.find chanState.flash.channels 63 = some chan63 ∧ chan63.state = 1 ∧
    ((20 : Int) - chan63.trainedAt).natAbs < chanState.cfg Obj.chRecentreDeg ∧
    chanState.cfg Obj.chRecentreDeg ≤ ((20 - (chanState.cfg Obj.chRecentreDeg : Int)) - chan63.trainedAt).natAbs := by decide
theorem wit_claims : (∀ w ∈ [(3, 0), (1, 15)], w.1 < 4 ∧ w.2 < 16) ∧ claimWinner [(3, 0), (1, 15)] = some 1 := by decide
theorem wit_claims_aged : (3, 16) ∈ [(0, 0), (3, 16)] ∧ 16 ≤ 16 := by decide
theorem wit_parity : ([5, 9] : List Payload)[1]? = some 9 := rfl

/-! ### Witnesses: codes, ciphers and keys -/

/-- A read of the unit at `loc` that has arrived, its LUN active. -/
def arrivedRead (steps : List LadderStep) : MediaRead := { mread none steps with arrived := true }
def decoding (r : MediaRead) : State := { (readState r) with flash := (lun0 [] none).flash }
theorem wit_decode_settled : Tbl.find (decoding (arrivedRead [.decoded, .lost])).store.reads 0 = some (arrivedRead [.decoded, .lost]) ∧
    (arrivedRead [.decoded, .lost]).steps.getD 0 .decoded = .decoded ∧ (arrivedRead [.decoded, .lost]).steps.getD 1 .decoded = .lost := by
  decide
theorem wit_decode_not_arrived : (mread none [.hard]).arrived = false ∧ (mread none [.hard]).steps.getD 0 .decoded ≠ .darning := by decide
theorem wit_decode_hard : (arrivedRead [.hard, .hard]).arrived = true ∧
    ((decoding (arrivedRead [.hard])).lun ((arrivedRead [.hard]).entry.lun?.getD 0)).state = .active ∧
    (decoding (arrivedRead [.hard])).aroundOwner (arrivedRead [.hard]) = false ∧
    (arrivedRead [.hard, .hard]).steps.getD 0 .decoded = .hard ∧ on.cfg Obj.retryEntered < 2 ^ 64 - 1 ∧ on.cfg Obj.mcrcFails < 2 ^ 64 - 1 := by
  decide
theorem wit_decode_retry : (arrivedRead [.retry 13]).steps.getD 0 .decoded = .retry 13 ∧ 13 < 14 := by decide
theorem wit_decode_soft : (arrivedRead [.retry 14]).steps.getD 0 .decoded = .retry 14 ∧ (on.keep Obj.softEn 1).cfg Obj.softEn = 1 ∧
    on.cfg Obj.softDecodes < 2 ^ 64 - 1 := by decide
theorem wit_decode_member : ({ arrivedRead [.soft] with serves := .member 4 } : MediaRead).serves = .member 4 ∧
    (arrivedRead [.soft]).steps.getD 0 .decoded = .soft ∧ on.cfg Obj.softFails < 2 ^ 64 - 1 := by decide
theorem wit_decode_one_left : ∃ i ∈ [1], i ≠ 0 ∧ i < (arrivedRead [.retry 2, .hard]).steps.length ∧
    (arrivedRead [.retry 2, .hard]).steps.getD i .lost ≠ .decoded ∧ (arrivedRead [.retry 2, .hard]).steps.getD i .lost ≠ .lost ∧
    on.cfg Obj.retryDecoded < 2 ^ 64 - 1 := by decide

def sampledBlock (c : Option Nat) : Block := { Block.fresh with stripe := some (0, 0), claim := c, reads := 1 }
def rinsing (c : Option Nat) (left : Option Nat) : State :=
  let s := on.setBlock 4095 7 (sampledBlock c)
  { s with mem := { s.mem with sampling := left.elim [] fun n => [(blockKey 4095 7, n)] } }
def rinse0 (c : Option Nat) (left : Option Nat) : State := ((rinsing c left).tick 0).beginRinse
theorem wit_rinse : (rinse0 (some 2) (some 0)).block 4095 7 = sampledBlock (some 2) ∧ (rinse0 (some 2) (some 0)).rinseOpen = true ∧
    (rinse0 (some 2) (some 0)).programmedBlocks.contains (blockKey 4095 7) = true ∧ (sampledBlock (some 2)).claim = some 2 ∧
    Tbl.find (rinse0 (some 2) (some 0)).mem.sampling (blockKey 4095 7) = some 0 ∧
    180 + 25 * (if (sampledBlock (some 2)).system then 7 else (sampledBlock (some 2)).strength) = 180 ∧
    100 * [100].foldl max 0 ≤ 180 * (rinsing (some 2) (some 0)).cfg Obj.relocatePct := by decide
theorem wit_rinse_starts : Tbl.find (rinse0 (some 2) none).mem.sampling (blockKey 4095 7) = none ∧
    (rinse0 (some 2) none).rinseOpen = true ∧ (rinse0 (some 2) none).programmedBlocks.contains (blockKey 4095 7) = true := by decide
theorem wit_rinse_unclaimed : (rinse0 none none).programmedBlocks.contains (blockKey 4095 7) = true ∧ (sampledBlock none).claim ≠ some 2 ∧
    (rinse0 none none).sampleDue 4095 7 = true := by decide
def rinsed : State :=
  let s := on.setBlock 4095 7 (sampledBlock none)
  { s with
    mem := { s.mem with sampled := [blockKey 4095 7] }
    sched := { s.sched with periodic := [(Periodic.rinse, ⟨0, 0, 5, 5, false⟩)] } }
theorem wit_rinse_not_due : ((rinsed.tick 0).beginRinse).sampleDue 4095 7 = false ∧ ((rinsed.tick 0).beginRinse).rinseOpen = true ∧
    ((rinsed.tick 0).beginRinse).programmedBlocks.contains (blockKey 4095 7) = true := by decide
theorem wit_disturb :
    ((rinsing none none).block 4095 7).reads ≤ ((rinsing none none).keep Obj.disturbReads 1).cfg Obj.disturbReads ∧
    ((rinsing none none).keep Obj.disturbReads 0).cfg Obj.disturbReads < ((rinsing none none).block 4095 7).reads := by decide
def forcedPass (left : Tbl Nat) : State := { on with mem := { on.mem with forced := true, sampling := left } }
theorem wit_forced : on.has Mode.sanitize = false ∧ on.has Mode.recovery = false ∧ on.mem.forced = false ∧
    (forcedPass []).mem.forced = true ∧ (forcedPass []).mem.sampling = [] ∧ (forcedPass [(7, 1)]).mem.sampling ≠ [] := by decide
theorem wit_forced_instance : ∃ n, Accessor.inst 0 = .inst n := ⟨0, rfl⟩
theorem wit_scrub : (3 : Fin 4) ≠ 0 ∧ 1 ≤ ([5] : List (Fin 80)).eraseDups.length ∧ ([5, 6] : List (Fin 80)).eraseDups.length ≤ 2 ∧
    on.cfg Obj.ceCount 0 3 < 2 ^ 64 - 1 ∧ ([5, 6, 7] : List (Fin 80)).eraseDups.length = 3 ∧ on.cfg Obj.ueCount 0 2 < 2 ^ 32 - 1 := by
  decide

def lock1 : LockId := ⟨0, 2000, 3, 1, 5⟩
def hostCells : State := (on.keep Obj.cellRole 1 0).keep Obj.cellRole 1 1
theorem wit_claim : hostCells.lockOf 0 = none ∧ hostCells.coreTakes 0 lock1 = true ∧ hostCells.pastLock lock1 = false ∧
    hostCells.coreUp 0 = true ∧ (hostCells.setLock 0 (some lock1)).lockOf 0 ≠ none ∧ lock1.op ≠ 6 := by decide
theorem wit_steer_near : ((hostCells.setLock 0 (some lock1)).nearestIdle 0 lock1) = some 1 ∧ hostCells.cellRole 0 = 1 ∧ lock1.op ≤ 3 ∧
    Tbl.find (hostCells.setLock 0 (some lock1)).cipher.asks 0 = none := by decide +kernel
/-- Every core is held. -/
def allHeld : State := { hostCells with cipher := { on.cipher with cores := (List.range 98).map fun k => (k, lock1) } }
theorem wit_steer_waits : allHeld.lockOf 0 ≠ none ∧ allHeld.nearestIdle 0 lock1 = none ∧ allHeld.cfg Obj.cipherWaits < 2 ^ 64 - 1 ∧
    (Tbl.get [] allHeld.cipher.waits (cellQuadrant 0)).length < allHeld.hostCells (cellQuadrant 0) := by
  decide +kernel
def queuedLock : State :=
  { hostCells with cipher := { hostCells.cipher with cores := [(0, lock1)], waits := [(cellQuadrant 0, [lock1])] } }
theorem wit_message_done : queuedLock.lockOf (Core_num (.cell 0)) = some lock1 ∧ queuedLock.staleLock lock1 = false ∧
    Core_num (.cell 0) < 96 ∧ queuedLock.cellRole 0 = 1 ∧
    Tbl.get [] queuedLock.cipher.waits (cellQuadrant 0) = lock1 :: [] ∧ queuedLock.lockOf (Core_num (.cell 1)) = none := by decide
theorem wit_message_stale : on.staleLock { lock1 with fnCode := 0, gen := 9 } = true := by decide
theorem wit_message_island : 96 ≤ Core_num (.island 0) ∧ Tbl.get [] on.cipher.waits (cellQuadrant 95) = [] := by decide
def gcmUnit : Stored :=
  { nsid := 1, unit := 5, wseq := 1, handle := 0, lbas := [], metas := [], bad := 0, key := 0, epoch := 0, counter := 1, gcm := true
    keyTags := [] }
def tagged (src : Nat) : State :=
  let s := decoding { arrivedRead [.decoded] with source := src }
  { s with store := { s.store with media := [(loc.key, gcmUnit)] }, cipher := { s.cipher with cores := [(0, lock1)] } }
theorem wit_tag_matches : (tagged 1).lockOf (Core_num (.cell 0)) = some lock1 ∧ (tagged 1).staleLock lock1 = false ∧
    (Tbl.find (tagged 1).store.reads 0).any (fun r => r.climbed && r.arrived && r.tagFails = 0 &&
      (tagged 1).readUnit r = some gcmUnit && r.attached = []) = true ∧ gcmUnit.gcm = true := by decide
theorem wit_tag_fails : (Tbl.find (tagged 2).store.reads 0).any (fun r => r.climbed && r.tagFails = 0 && r.source ≠ 1 &&
      ((tagged 2).lun (r.entry.lun?.getD 0)).state = .active) = true ∧ (tagged 2).cipher.works = [] ∧
    (tagged 2).cfg Obj.tagFails < 2 ^ 64 - 1 := by decide
theorem wit_reseed : Tbl.get 0 on.cipher.masks 95 + 1048575 < 1048576 ∧ 1048576 ≤ Tbl.get 0 on.cipher.masks 95 + 1048576 ∧
    on.cellRole 95 ≠ 7 := by decide

def key1 (r : Bool) : KeySlot := { KeySlot.empty with kind := 2, kid := 4, high := 100, wctr := 60, reserving := r }
theorem wit_reservation : ((on.setKeySlot 4095 (key1 true)).keySlot 4095).reserving = true ∧
    ((on.setKeySlot 4095 (key1 false)).keySlot 4095).reserving = false ∧ ((on.setKeySlot 4095 (key1 false)).keySlot 4095).kind ≠ 0 := by
  decide
def blobbed : State :=
  { on with cipher := { on.cipher with blobs := [(4095, key1 false)] }, security := { on.security with kek := true } }
theorem wit_reload : Tbl.find blobbed.cipher.blobs 4095 = some (key1 false) ∧ (blobbed.keySlot 4095).kind = 0 ∧
    4095 ∉ blobbed.cipher.lost ∧ blobbed.security.kek = true ∧ blobbed.blockLost 1 = false ∧
    blobbed.cfg Obj.rootGen ≤ blobbed.security.storeGen := by decide
def erasingKey (clock : Nat) : State :=
  { on with cipher := { on.cipher with erasing := [(4095, 0)] }, store := { on.store with eraseClock := clock } }
def keyEraseNs : Nat := 1000000000 * on.cfg Obj.keyEraseS
theorem wit_key_erase : Tbl.find (erasingKey keyEraseNs).cipher.erasing 4095 = some 0 ∧ (erasingKey keyEraseNs).erasePermitted = true ∧
    0 + 1000000000 * (erasingKey keyEraseNs).cfg Obj.keyEraseS ≤ ((erasingKey keyEraseNs).tick 0).store.eraseClock ∧
    ((erasingKey 0).tick 0).store.eraseClock < 0 + 1000000000 * (erasingKey 0).cfg Obj.keyEraseS ∧
    Tbl.find on.cipher.erasing 4095 = none := by decide
theorem wit_cache_fill : KeyRef.nsKey 4095 4 ∉ (on.cell 0).keys ∧ (on.setKeySlot 4095 (key1 false)).keyKnown (.nsKey 4095 4) = true ∧
    on.keyKnown (.nsKey 4095 4) = false ∧ on.cellRole 0 ≠ 7 ∧ on.blockLost 1 = false ∧ on.cfg Obj.keyMisses < 2 ^ 64 - 1 := by
  decide
theorem wit_cache_hit : KeyRef.nsKey 4095 4 ∈ ((on.setCell 0 { CellSt.idle with keys := [.nsKey 4095 4] }).cell 0).keys := by decide

def blob (kind wrap target tag : Nat) : KeyBlob :=
  { format := 1, kind := kind, wrap := wrap, target := target, keyTag := tag, length := blobBytes kind, icvOk := true
    headerMatch := true, halvesEqual := false, keyId := 77 }
def vfAdmin : Hdr := ⟨lastVf, 0, 0⟩
def fetVf : State := (withFn lastVf online).addCtx vfAdmin
theorem wit_key_instance : Starts fetVf vfAdmin (begun fetVf vfAdmin) ∧ vfAdmin.fn.isManager = false := ⟨⟨rfl, rfl, rfl, rfl⟩, rfl⟩
theorem wit_key_instance_buffers : Buffers (begun fetVf vfAdmin) vfAdmin := by
  intro n
  have c : (begun fetVf vfAdmin).ctx? vfAdmin = some { Ctx.new vfAdmin (plainSqe 0) 0 0 0 with begun := true } := by decide
  simp [State.adminBuffer, c, Ctx.new, plainSqe, prpCheck]
theorem wit_key_manager : hA.fn.isManager = true ∧ onA.blobRefused { blob 3 0 15 0 with icvOk := false } = true ∧
    onA.cfg Obj.unwrapFails < 2 ^ 32 - 1 ∧ onA.blobRefused (blob 3 0 15 0) = false ∧ (blob 3 0 15 0).kind = 3 ∧
    (blob 3 0 15 0).target ≤ 15 ∧ 15 < 16 := by decide
def fetNs : State := (oneNs conventional).addCtx hA
def keyNs : State := begun fetNs hA
theorem wit_key_starts : AdminStarts fetNs hA keyNs := ⟨⟨rfl, rfl, rfl, rfl⟩, rfl⟩
theorem wit_key_ns : keyNs.ns? (blob 1 0 1 0).target = some conventional ∧ conventional.owner = keyNs.portOfFn hA.fn ∧
    keyNs.blobRefused (blob 1 0 1 0) = false ∧ (blob 1 0 1 0).kind = conventional.word.cipherMode + 1 := by decide
theorem wit_key_other_port : ({ conventional with owner := .b } : Ns).owner ≠ keyNs.portOfFn hA.fn := by decide
def kekState : State := { keyNs with cipher := { keyNs.cipher with tkeks := [(15, 3)] } }
theorem wit_kpio : kekState.kpioMay .pf0 (blob 4 0x1F 1 1023).target = true ∧ kekState.blobRefused (blob 4 0x1F 1 1023) = false ∧
    (blob 4 0x1F 1 1023).kind = 4 ∧ (blob 4 0x1F 1 1023).wrap ≠ 0 ∧ (blob 4 0x1F 1 1023).keyTag ≤ 1023 ∧
    kekState.cipher.kpio.length < 65536 ∧ kekState.kpioMay .pf0 2 = false ∧ 1023 < 1024 := by decide
theorem wit_kpio_refused : kekState.blobRefused (blob 4 0 1 0) = false ∧ (blob 4 0 1 0).wrap = 0 := by decide

/-! ### Witnesses: digests, Shuttle, Basket and DRAM -/

theorem wit_digest_length : 1 ≤ 3 ∧ on.digestUp 97 = true ∧ ([0x61#8] : List Byte).length + ([] : List Byte).length < 2 ^ 60 := by
  decide
theorem wit_digest_down : (on.keep Obj.cellRole 7 95).digestUp 95 = false := by decide
def digestOf (r : DigestRun) (res : Option (List Byte)) : State :=
  on.setDigest 97 { DigestSt.reset with run := r, result := res, zgen := 4 }
theorem wit_digest_done : ((digestOf (.short DigestCtx.fresh) (some (List.replicate 32 7))).digestCore (DigestCore_num .islandM)).result =
      some (List.replicate 32 7) ∧ (digestOf (.short DigestCtx.fresh) (some (List.replicate 32 7))).digestUp (DigestCore_num .islandM) = true ∧
    (List.replicate 32 (7 : Byte)).length = 32 ∧ 32 ≤ algOut 1 ∧ 96 ≤ DigestCore_num .islandM := by
  decide
theorem wit_digest_not_done : (on.digestCore (DigestCore_num (.cell 95))).result = none ∧ on.digestUp 95 = true ∧
    (on.digestCore (DigestCore_num (.cell 95))).misuse = 0 ∧ on.cfg Obj.compareFaults < 2 ^ 32 - 1 := by
  decide
theorem wit_digest_unknown : 0 = 0 ∨ 3 < 0 := Or.inl rfl

def digestNs (g : Nat) (d : Option DigestCtx) (st : DState) : Ns :=
  { zoned .implicitOpen 8 with
    word := { conventional.word with digest := true }
    zones := [(1, { Zone.initial with state := .implicitOpen, wp := 8, zgen := g, dctx := d, dstate := st })] }
def digesting (g : Nat) : State :=
  { oneNs (digestNs g none .running) with engines := (digestOf (.short DigestCtx.fresh) none).engines }
theorem wit_digest_save : (digesting 4).ns? 1 = some (digestNs 4 none .running) ∧ ((digestNs 4 none .running).zone 1).zgen = 4 ∧
    (digesting 4).digestUp 97 = true ∧
    ((digesting 4).digestCore 97).result = none ∧ ((digesting 4).digestCore 97).run = .short DigestCtx.fresh ∧
    ((digesting 4).digestCore 97).zgen = 4 := by decide
theorem wit_digest_stale : ((digesting 5).digestCore 97).zgen ≠ ((digestNs 5 none .running).zone 1).zgen ∧
    (digesting 5).cfg Obj.staleSaves < 2 ^ 32 - 1 := by decide
def savedD (ok : Bool) : SavedDigest := ⟨ok, 4, 1, 1, [], 0, []⟩
theorem wit_digest_restore : (savedD true).crcOk = true ∧ (savedD true).format = 1 ∧ (savedD true).alg = 1 ∧
    (savedD true).zgen = ((digestNs 4 none .running).zone 1).zgen := by decide
theorem wit_digest_restore_bad : (savedD false).crcOk ≠ true ∧ (digestNs 4 none .running).word.digest = true ∧
    ((digestNs 4 none .running).zone 1).dstate ≠ .invalid := by decide

def sh15 : ShuttleId := ⟨.a, 15⟩
def desc0 : ShuttleDesc := { own := true, wantRec := true, srcSpace := 0, dstSpace := 0, count := 2, tag := 9, src := 4096, dst := 8192 }
def chanIn (st : Nat) (d : Option ShuttleDesc) : ShuttleSt :=
  { ShuttleSt.reset with state := st, head := 15, tail := 2, recordAddr := 64, desc := d, curSrc := 4096, curDst := 8192, remain := 2 }
def shuttleAt (x : ShuttleSt) : State := on.setShuttle sh15 x
theorem wit_shuttle_seen : on.shuttleSeen sh15 = true ∧ (dualOn.shuttleSeen ⟨.b, 0⟩) = true := by decide
theorem wit_shuttle_off : (on.shuttle sh15).state = 0 ∧ ((shuttleAt (chanIn 1 none)).shuttle sh15).state ≠ 0 := by decide
theorem wit_shuttle_ring : (4 ≤ 4 ∧ 4 ≤ 16 ∧ 64 ≤ 64) ∧ (3 < 4 ∨ 16 < 3 ∨ 64 < 64) := by decide
theorem wit_shuttle_tail : (chanIn 1 none).state = 1 ∧ (chanIn 1 none).size = 16 ∧ 15 < (chanIn 1 none).size ∧
    (chanIn 1 none).size ≤ 16 ∧ (chanIn 1 none).paused = false ∧ 16 < 65536 := by decide
theorem wit_shuttle_read : ((shuttleAt (chanIn 2 none)).shuttle sh15).state = 2 ∧ (chanIn 2 none).desc = none ∧ desc0.own = true ∧
    (shuttleAt (chanIn 2 none)).descBad sh15.port desc0 = 0 ∧ (shuttleAt (chanIn 2 none)).descBad sh15.port { desc0 with count := 0 } ≠ 0 ∧
    (chanIn 2 none).head ≠ (chanIn 2 none).tail ∧ (shuttleAt (chanIn 2 none)).cfg Obj.ownStalls < 2 ^ 32 - 1 := by decide
theorem wit_shuttle_moves : ((shuttleAt (chanIn 2 (some desc0))).shuttle sh15).desc = some desc0 ∧ desc0.dstSpace = 0 ∧
    ([1, 2] : List Byte).length = (chanIn 2 (some desc0)).remain := by decide
theorem wit_shuttle_pausing : ((shuttleAt (chanIn 3 (some desc0))).shuttle sh15).state = 3 ∧ ([] : List Byte).length ≤ 2 ∧
    ((shuttleAt (chanIn 4 (some desc0))).shuttle sh15).state = 4 ∧ (chanIn 4 (some desc0)).pauseDom = false ∧
    (chanIn 4 (some desc0)).pauseDev = false ∧ (chanIn 4 (some desc0)).toOff = false := by decide
theorem wit_shuttle_halted : (chanIn 5 none).state = 5 ∧ (chanIn 5 none).paused = false ∧ (chanIn 5 none).head ≠ (chanIn 5 none).tail := by
  decide
theorem wit_shuttle_windows : desc0.count ≠ 0 ∧ ({ desc0 with srcSpace := 1, src := 2 ^ 48 } : ShuttleDesc).src / 2 ^ 48 = 1 ∧
    (on.fn (.inst 0)).state ≠ .frozen := by decide

theorem wit_buffer_minimum : (on.pool 1).inUse (Holder_num (.fn .pf0)) < on.minimum 1 (Holder_num (.fn .pf0)) ∧ 0 < on.poolFree 1 ∧
    on.maySupply 1 (Holder_num (.fn .pf0)) = true := by decide +kernel
/-- A pool without buffers. -/
def dry : State := on.keep Obj.poolCount 0 8
theorem wit_buffer_none : dry.minimum 8 (Holder_num .scrub) ≤ (dry.pool 8).inUse (Holder_num .scrub) ∧ dry.generalFree 8 = 0 ∧
    dry.maySupply 8 (Holder_num .scrub) = false ∧ (none : Option LockId).any dry.pastBasket = false ∧
    (dry.pool 8).holdsGeneral none = false := by decide +kernel
/-- An agent whose general buffer of pool 8 is the only one, and one that holds a cipher core already. -/
def agentHolds : State := dry.setPool 8 { PoolSt.reset with bufs := [(0, ⟨1, some (Holder_num .scrub), true, [], some lock1, true⟩)] }
theorem wit_buffer_agent : (some lock1).any agentHolds.pastBasket = false ∧ agentHolds.maySupply 8 (Holder_num .scrub) = false ∧
    (agentHolds.pool 8).holdsGeneral (some lock1) = true := by decide +kernel
theorem wit_buffer_past : (on.setLock 0 (some lock1)).pastBasket lock1 = true := by decide +kernel
theorem wit_buffer_pop : on.popBuf 1 = some (0, { on.pool 1 with fresh := 1 }) ∧ on.cfg Obj.poolFaults 1 < 2 ^ 32 - 1 := by decide +kernel
def lined8 (s : State) : State := s.setPool 8 { PoolSt.reset with waiters := [Holder_num .scrub] }
theorem wit_buffer_line : ((lined8 on).pool 8).waiters = [] ++ Holder_num .scrub :: [] ∧ (on.pool 8).waiters = [] := by decide
theorem wit_buffer_short :
    (((lined8 on).pool 1).waiters = [] ∧ ((lined8 dry).pool 8).waiters = Holder_num .scrub :: []) ∧
    (∀ m ∈ [Holder_num .scrub], (lined8 dry).minimum 8 m ≤ ((lined8 dry).pool 8).inUse m ∨ (lined8 dry).maySupply 8 m = false) := by
  decide +kernel
def lined1 : State := on.setPool 1 { PoolSt.reset with waiters := [Holder_num (.fn .pf0)] }
theorem wit_buffer_serves : (lined1.pool 1).waiters = [] ++ Holder_num (.fn .pf0) :: [] ∧
    (lined1.pool 1).inUse (Holder_num (.fn .pf0)) < lined1.minimum 1 (Holder_num (.fn .pf0)) ∧
    lined1.maySupply 1 (Holder_num (.fn .pf0)) = true := by decide +kernel
def bufOf (n : Nat) (us : List (Nat × Nat)) : State :=
  on.setPool 1 { PoolSt.reset with
    fresh := 1
    bufs := [(0, { refs := n, charge := us.head?.map (·.1), own := false, users := us, agent := none, general := false })] }
def pf0User : Nat × Nat := (Func.code .pf0, 0)
theorem wit_buffer_one : (Tbl.find ((bufOf 1 [pf0User]).pool 1).bufs 0).any (fun y => decide (1 ≤ y.refs ∧ y.refs ≤ 1 ∧
    y.refs < (bufOf 1 [pf0User]).cfg Obj.coalesceMaxRef ∧ y.charge ≠ none ∧ ∃ u ∈ y.users, u.1 = Func.code .pf0)) = true := by decide
theorem wit_buffer_two : (Tbl.find ((bufOf 2 [pf0User, (5, 0)]).pool 1).bufs 0).any (fun y => decide (2 ≤ y.refs ∧
    y.charge = some (Func.code .pf0) ∧ (∀ u ∈ y.users, u.1 ≠ Func.code lastVf))) = true := by decide
theorem wit_buffer_most : (Tbl.find ((bufOf (on.cfg Obj.coalesceMaxRef) []).pool 1).bufs 0).any (fun y =>
    decide (on.cfg Obj.coalesceMaxRef ≤ y.refs)) = true := by decide
theorem wit_buffer_absent : Tbl.find (on.pool 15).bufs 0 = none ∧ on.cfg Obj.poolFaults 15 < 2 ^ 32 - 1 := by decide

def dchan : DramChan := { DramChan.reset with state := 2, ranks := 2, centred := 40 }
def dramOn : State := on.setChan 3 dchan
theorem wit_dram_write : dramOn.mem.poison = [] ∧ Memory.wf dramOn.mem.dram = true ∧ ([1, 2] : List Byte).length ≤ 128 - 126 % 128 ∧
    126 + ([1, 2] : List Byte).length ≤ dramOn.dramBytes ∧ dramOn.dramTakes (dramOn.dramPlace 126).1 = true := by decide +kernel
def fillingUp : State := { dramOn with mem := { dramOn.mem with filling := true, fillAt := 1, granules := 1048576 } }
theorem wit_dram_invalid : 65536 + 128 ≤ fillingUp.dramBytes ∧ fillingUp.dramTakes (fillingUp.dramPlace 65536).1 = true ∧
    fillingUp.granuleValid (65536 / 65536) = false ∧ fillingUp.mem.filling = true ∧ dramOn.mem.filling = false := by decide +kernel
theorem wit_dram_burst : 0 < dramOn.dramBytes ∧ (dramOn.dramPlace 0).1 = 3 ∧ dramOn.dramTakes 3 = true ∧ dramOn.granuleValid 0 = true ∧
    dramOn.anyMark 3 (dramOn.dramRank (dramOn.dramPlace 0).2) = false ∧ dramOn.cfg Obj.ceCount 0 8 + 16 < 2 ^ 64 := by decide +kernel
theorem wit_dram_two_devices : ∀ v ∈ [((0 : Fin 16), (1 : Fin 10)), (1, 2)], ∀ w ∈ [((0 : Fin 16), (1 : Fin 10)), (1, 2)], v.1 = w.1 ∨ v.2 ≠ w.2 := by
  decide +kernel
theorem wit_dram_outside : dramOn.dramBytes < dramEnd (.read dramOn.dramBytes 1) ∧ on.dramBytes ≤ 0 := by decide +kernel
theorem wit_dram_held : dramEnd (.read 126 2) ≤ (on.setChan 3 { dchan with state := 3 }).dramBytes ∧
    (on.setChan 3 { dchan with state := 3 }).dramTakes ((on.setChan 3 { dchan with state := 3 }).dramPlace (dramFirst (.read 126 2))).1 = false := by
  decide +kernel
def centreOn (due : Nat) : State :=
  { dramOn with sched := { dramOn.sched with periodic := [(Periodic.recentre 3, ⟨0, 0, 20, due, false⟩)] } }
theorem wit_dram_centre : dramOn.chan 3 = dchan ∧ dchan.state = 2 ∧ 1 < dchan.ranks ∧
    ((centreOn 9).tick 8).isDue (Periodic.recentre 3) = false ∧ ((centreOn 9).tick 9).isDue (Periodic.recentre 3) = true ∧
    ((40 : Int) - dchan.centred).natAbs < dramOn.cfg Obj.dramRecentreDeg ∧ dramOn.cfg Obj.dramRecentreDeg ≤ ((90 : Int) - dchan.centred).natAbs ∧
    dramOn.cfg Obj.recentres < 2 ^ 32 - 1 ∧ dramOn.minEye ≤ dramOn.minEye ∧ 0 < dramOn.minEye := by decide +kernel
def refresh0 (p : Bool) : Refresh := { slot := 0, base := 0, period := 3900, due := 10, postponed := p }
def refreshing (p : Bool) : State := on.setChan 3 { dchan with refresh := [(1, refresh0 p)] }
theorem wit_refresh (p : Bool) : ((refreshing p).chan 3).state = 2 ∧ (refreshing p).now ≤ 9 ∧
    Tbl.find ((refreshing p).chan 3).refresh 1 = some (refresh0 p) ∧ (refreshing p).cfg Obj.refLate < 2 ^ 64 - 1 ∧ 9 < (refresh0 p).due ∧
    (refresh0 p).due ≤ 10 ∧ (refresh0 p).period = ((refreshing p).chan 3).period ∧
    10 < (refreshing p).refreshLimit (refresh0 p) ∧ (refreshing p).refreshLimit (refresh0 p) ≤ 100000 := by cases p <;> decide

/-! ### Witnesses: administration -/

/-- PF0 with an I/O command begun before the admin command of hA. -/
def fetTwo (f : Ctx → Ctx) : State := (onIo.addCtx hA).modCtx hIo f
def twoCmds (f : Ctx → Ctx) : State := begun (fetTwo f) hA
theorem wit_abort_starts : Starts (fetTwo id) hA (twoCmds id) := ⟨rfl, rfl, rfl, rfl⟩
theorem wit_abort : (((twoCmds id).ctx? ⟨.pf0, 1, 3⟩).any fun c => c.done = none && !c.admitted && !c.moved) = true ∧
    (⟨.pf0, 1, 3⟩ : Hdr) ≠ hA ∧ (((twoCmds fun c => { c with moved := true }).ctx? ⟨.pf0, 1, 3⟩).any fun c => c.moved) = true ∧
    onA.ctx? ⟨.pf0, 1, 3⟩ = none := by decide
def ev0 : AsyncEvent := .fdpEvent
theorem wit_event_held : ((onA.modFn .pf0 fun x => { x with events := [ev0] }).fn .pf0).events = ev0 :: [] ∧ (onA.fn .pf0).events = [] ∧
    hA ∉ (onA.fn .pf0).aers ∧ (onA.fn .pf0).aers.length < 8 := by decide
theorem wit_event_limit : 8 ≤ ((onA.modFn .pf0 fun x => { x with aers := List.replicate 8 hIo }).fn .pf0).aers.length ∧
    hA ∉ List.replicate 8 hIo := by decide
theorem wit_log_page : hasPage .pf0 0xFF = false ∧ hasPage .pf0 0x01 = true ∧ (lastVf).isManager = false ∧
    0x01 ∉ [0xBF, 0x21, 0x22, 0x23] ∧ 5 ≤ 127 := by decide
/-- An admin command whose first PRP is not aligned to a dword. -/
def fetSkew : State := on.addCtx hA { cid := 7, fused := false, dptr := .prp 2 0 [] }
theorem wit_log_buffer : Starts fetSkew hA (begun fetSkew hA) ∧ (begun fetSkew hA).adminBuffer hA (4 * (127 + 1)) = some .prpOffset :=
  ⟨⟨rfl, rfl, rfl, rfl⟩, by decide⟩
theorem wit_identify_instance : vfAdmin.fn.isManager = false ∧ 0x10 ∈ [0x10, 0x11, 0x12, 0x13, 0x14, 0x15] ∧ 0x1C < 0x1D := by decide
theorem wit_get_features : hasFeature .pf0 0xFF = false ∧ 3 < 4 ∧ (1 : Nat) ≠ 0 := by decide

theorem wit_set_features : 7 < 8 ∧ 255 < 256 ∧ 65535 < 65536 ∧ (0x400 : Nat).testBit 10 = true ∧ (0x3FF : Nat).testBit 10 = false := by
  decide
theorem wit_queue_counts : (onA.fn .pf0).ioMade = false ∧
    ((onA.modFn .pf0 fun x => { x with ioMade := true }).fn .pf0).ioMade = true ∧ 0 < 65535 := by decide
theorem wit_power_feature : hA.fn.isManager = true ∧ 4 < 5 ∧ vfAdmin.fn.isManager = false ∧ hA.fn = .pf0 ∧ 4 ≤ 4 := by decide
theorem wit_apst_bad : ∃ e ∈ ([(2, 500)] : List (Nat × Nat)).take 32, e.1 ≠ 3 ∧ e.1 ≠ 4 ∧ e ≠ (0, 0) := ⟨(2, 500), by decide⟩
theorem wit_apst_good : ∀ e ∈ ([(3, 100), (0, 0), (4, 0xFFFFFF)] : List (Nat × Nat)), e = (0, 0) ∨ ((e.1 = 3 ∨ e.1 = 4) ∧ 100 ≤ e.2) := by
  decide
theorem wit_timestamp : 2 ^ 48 - 1 < 2 ^ 48 := by decide
theorem wit_fdp_feature : onA.store.ns = [] ∧ keyNs.store.ns ≠ [] ∧
    ({ onA with store := { onA.store with fdp := some 0 } } : State).store.fdp ≠ none := by decide
theorem wit_set_secure_discard : keyNs.ns? 1 = some conventional ∧ conventional.owner = keyNs.portOfFn hA.fn ∧ conventional.kind ≠ .zoned ∧
    onA.ns? 1 = none := by decide

def staged (gs : List Nat) : State := { onA with admin := { onA.admin with stageA := ⟨gs⟩ } }
theorem wit_download_form : 1 % 4096 ≠ 0 ∧ 4096 % 4096 = 0 ∧ 4096 + 67104768 ≤ 67108864 ∧ onA.adminBuffer hA 8192 = none := by decide
theorem wit_download_overlap : ∃ g ∈ ((staged [1]).stage (onA.portOfFn hA.fn)).granules, 4096 ≤ 4096 * g ∧ 4096 * g < 4096 + 8192 :=
  ⟨1, by decide⟩
theorem wit_download_fresh : ∀ g ∈ ((staged [0, 3]).stage (onA.portOfFn hA.fn)).granules, 4096 * g < 4096 ∨ 4096 + 8192 ≤ 4096 * g := by
  decide
theorem wit_commit_slot : (1 = 1 ∨ 4 < 1) ∧ 2 ≤ 2 ∧ 4 ≤ 4 := by decide
def image2 (major flags len : Nat) : ImageHeader :=
  { magic := 0x36394C50, format := 1, part := 0x9664, svn := 0, major := major, minor := 0, build := 0, version := 0
    bodyLen := 4096, imageLen := len, flags := flags }
def goodImage : ImageChecks := ⟨true, true, true⟩
theorem wit_image_good : on.imageFails (image2 1 1 8192) (some [0, 1]) goodImage = none := by decide
theorem wit_image_checks : on.imageFails (image2 1 1 8192) (some [0]) goodImage = some 2 ∧
    on.imageFails (image2 1 1 33554433) (some []) goodImage = some 1 ∧ (image2 1 1 33554433).imageLen = 33554432 + 1 := by decide
theorem wit_commit_refused : onA.imageFails (headerOf (onA.stageWindow .a)) (some (onA.stage .a).granules) goodImage = some 1 ∧
    onA.cfg Obj.fwRefused < 2 ^ 32 - 1 ∧ Port.a = onA.portOfFn hA.fn := by decide
def twoSlots : State := { onA with admin := { onA.admin with slots := [(2, image2 onA.runningImage.major 1 8192)] } }
theorem wit_commit_reset : twoSlots.image 2 = some (image2 onA.runningImage.major 1 8192) ∧
    twoSlots.imageFails (image2 onA.runningImage.major 1 8192) none goodImage = none ∧ twoSlots.image 3 = none := by decide
theorem wit_commit_now : onA.has Mode.sanitize = false ∧ onA.has Mode.recovery = false ∧ onA.host.paused = false ∧
    onA.pendingRecs < 1024 ∧ onA.sampler.waiting = [] := by decide
def switching : State :=
  { twoSlots with host := { twoSlots.host with paused := true }, admin := { twoSlots.admin with switchTo := some 2 } }
theorem wit_switch : switching.admin.switchTo = some 2 ∧ switching.host.paused = true ∧ switching.has Mode.holdUp = false ∧
    (switching.image 2).isSome = true ∧ switching.pendingRecs < 1024 ∧ switching.sampler.waiting = [] ∧ on.admin.switchTo = none := by
  decide

def testing (seg : Nat) (stop : Bool) : State := { on with admin := { on.admin with selftest := some ⟨true, 0, seg, 1024, 0, stop⟩ } }
theorem wit_selftest_starts : onA.has Mode.sanitize = false ∧ onA.admin.selftest = none ∧ (testing 1 false).admin.selftest ≠ none ∧
    ({ onA with modes := modeBit Mode.sanitize } : State).has Mode.sanitize = true ∧ onA.ns? 5 = none ∧ keyNs.ns? 1 ≠ none := by decide
theorem wit_selftest_step : (testing 1 true).testOpen = true ∧ (testing 1 false).admin.selftest = some ⟨true, 0, 1, 1024, 0, false⟩ ∧
    1 < (SelfTest.mk true 0 1 1024 0 false).last ∧ (SelfTest.mk true 0 (SelfTest.mk true 0 1 1024 0 false).last 1024 0 false).last ≤
      (SelfTest.mk true 0 1 1024 0 false).last := by decide
theorem wit_selftest_shut : ({ testing 1 true with modes := modeBit Mode.holdUp } : State).testOpen = false := by decide
def sanitizes (z : Option Sanitize) : State :=
  { onA with modes := modeBit Mode.sanitize, admin := { onA.admin with sanitize := z } }
def san1 (action : Nat) : Sanitize := { action := action, abort := false, keysGone := true, own := false, swept := true }
theorem wit_sanitize : onA.foreignNs (onA.portOfFn hA.fn) = false ∧ onA.admin.sanitize = none ∧ (sanitizes (some (san1 2))).admin.sanitize ≠ none ∧
    (sanitizes none).has Mode.sanitize = true ∧ (sanitizes none).pendingRecs < 1024 ∧ (sanitizes none).sampler.waiting = [] := by decide
theorem wit_sanitize_other_port : (dualOn.setNs 1 { conventional with owner := .b }).foreignNs .a = true := by decide
theorem wit_sanitize_sweep : (onIo.ctx? hIo).any (fun c => c.hdr = hIo && c.hdr.sqid ≠ 0 && c.done = none && !c.admitted) = true := by decide
theorem wit_sanitize_end : (san1 4).swept = true ∧ (san1 4).keysGone = true ∧ (sanitizes (some (san1 4))).cipher.works = [] ∧
    (san1 2).action = 2 ∧ (sanitizes (some (san1 2))).store.erases = [] := by decide

theorem wit_mode_change : (on.modes &&& ~~~(0 : BitVec 12)) ||| 0x400 ≠ on.modes ∧ (13 = 13 ∨ (on.pendingRecs < 1024 ∧ on.sampler.waiting = [])) ∧
    on.cfg Obj.modeChanges < 2 ^ 32 - 1 := by decide
theorem wit_mode_waits : ({ on with sampler := { on.sampler with waiting := [⟨0x400, 0, 4⟩] } } : State).sampler.waiting ≠ [] ∧ 4 ≠ 13 := by
  decide
theorem wit_power_fail : on.cfg Obj.pwrfailFilterUs ≤ on.cfg Obj.pwrfailFilterUs ∧ 0 < on.cfg Obj.pwrfailFilterUs ∧
    on.has Mode.holdUp = false ∧ on.power.held = false ∧ State.reset.power.held = true := by decide
theorem wit_shutdown : ((withFn .pf0 online).fn .pf0).state ≠ .fencing ∧ ((withFn .pf0 online).fn .pf0).en = true ∧ ((withFn .pf0 online).fn .pf0).shst = 0 ∧ (on.fn .pf0).en = false := by
  decide

/-! ### Witnesses: power -/

def entering (k target : Nat) (d : Nat) (st : DomState) (goal : DomState) (downs : List Nat) : State :=
  let s : State := { on with power := { on.power with entry := some k, target := target } }
  downs.foldl (fun s j => s.setDomain j { state := .off, refusals := 0, goal := .off }) (s.setDomain d { state := st, refusals := 0, goal := goal })
theorem wit_entry_ask : EntryAt (entering 2 3 5 .on .on []) 2 ∧ ((entering 2 3 5 .on .on []).domain (5 : Fin 56)).state = .on ∧
    (5 : Fin 56).val ∈ sleepStep 2 ∧ (entering 2 3 5 .on .on []).domainOn 5 = true := ⟨⟨rfl, rfl, rfl, by decide⟩, by decide⟩
theorem wit_entry_first : EntryAt (entering 0 3 5 .on .on []) 0 ∧ (entering 0 3 5 .on .on []).entryReady = true ∧ 10 ∈ sleepStep 0 :=
  ⟨⟨rfl, rfl, rfl, by decide⟩, by decide⟩
/-- No entry, and cell group G0 without a worker: its domain is due to stop. -/
def idleGroup : State :=
  [92, 93, 94, 95].foldl (fun s c => s.keep Obj.cellRole 0 c) { on with modes := modeBit Mode.service }
theorem wit_stop_due : idleGroup.power.entry = none ∧ idleGroup.stopDue 33 = true ∧ on.stopDue 33 = false ∧ on.power.entry = none := by decide
def stopping3 : State := entering 3 3 6 .stopping .clockStopped []
theorem wit_domain_stops : (stopping3.domain 6).state = .stopping ∧ stopping3.otc 6 = 0 ∧ (stopping3.domain 6).goal = sleepGoal 3 6 ∧
    (∃ j ∈ sleepStep 3, j ≠ 6 ∧ stopping3.domainDown j = false) := by decide
def lastOfThree : State := entering 3 3 6 .stopping .clockStopped [7, 8, 9]
theorem wit_domain_last : (∀ j ∈ sleepStep 3, j ≠ 6 → lastOfThree.domainDown j = true) ∧
    (∃ j ∈ sleepStep 4, lastOfThree.domainDown j = false) ∧ EntryAt lastOfThree 3 := ⟨by decide, by decide, ⟨rfl, rfl, rfl, by decide⟩⟩
theorem wit_domain_d02 : EntryAt (entering 6 4 2 .stopping .retain []) 6 ∧ ((entering 6 4 2 .stopping .retain []).domain 2).state = .stopping ∧
    ((entering 6 4 2 .stopping .retain []).domain 2).goal = sleepGoal 4 2 ∧ HasRoom (entering 6 4 2 .stopping .retain []) :=
  ⟨⟨rfl, rfl, rfl, by decide⟩, by decide, by decide, by decide, rfl⟩
theorem wit_domain_refuses : stopping3.has Mode.idle = false ∧ stopping3.power.refusals < 7 ∧
    7 ≤ ({ stopping3 with power := { stopping3.power with refusals := 7 } } : State).power.refusals := by decide
def held1 : State := { on with power := { on.power with retryAt := some 50 } }
theorem wit_hold_time : held1.power.retryAt = some 50 ∧ max held1.now 49 < 50 ∧ 50 ≤ max held1.now 50 ∧ on.power.retryAt = none := by decide
def mayEnter0 : State :=
  { on with modes := modeBit Mode.service, power := { on.power with target := 3 }, sched := { on.sched with running := true } }
theorem wit_may_enter : (mayEnter0.tick 9).mayEnter = true ∧ mayEnter0.has Mode.idle = false ∧ mayEnter0.sampler.flushing = none ∧
    (on.tick 9).mayEnter = false := by decide
def apst : State := withFn .pf0 { online with feats := [(0x0C, 1), (featKey 0x0C 1, 4)] }
theorem wit_apst_idle : apst.portExists .a = true ∧ 3 ≤ apst.idleState .a ∧ apst.power.current < apst.idleState .a ∧ apst.quiet = true ∧
    (∀ e ∈ apst.host.fns, ∀ q ∈ e.2.sqs, q.2.unfetched = 0) ∧ apst.power.entry = none ∧ apst.has Mode.holdUp = false ∧
    on.idleState .a < 3 := by decide

def idling : State := { on with modes := modeBit Mode.idle }
def airing0 (u : List Nat) : State := { on with modes := modeBit Mode.airing, power := { on.power with unreadable := u } }
theorem wit_asleep : idling.asleep = true ∧ (airing0 []).asleep = true ∧ on.asleep = false ∧ on.portExists .a = true ∧
    on.portExists .b = false ∧ HasRoom idling := ⟨by decide, by decide, by decide, by decide, by decide, by decide, rfl⟩
def canaried : State := { airing0 [] with power := { (airing0 []).power with canaries := [(5, 0)] } }
theorem wit_wake_serial : (2 ^ 160 - 1 = Config.serial ∨ 2 ^ 160 - 1 = 2 ^ 160 - 1) := .inr rfl
theorem wit_airing_step : (airing0 []).has Mode.airing = true ∧ (∀ c ∈ [(5, 90, true)], ((airing0 []).tick 1).canaryBad c = false) ∧
    (∃ c ∈ [(5, 0, false)], canaried.canaryRead 0 [] c = true ∧ (canaried.tick 1).canaryBad c = true) ∧ canaried.cfg Obj.airingNext = 0 ∧ ¬ (airing0 []).cfg Obj.airingNext ∈ (airing0 []).power.unreadable ∧
    (airing0 [0]).cfg Obj.airingNext ∈ (airing0 [0]).power.unreadable := by decide
theorem wit_airing_due : ((airing0 []).tick 1).isDue Periodic.airing = true ∧ (∃ c : Fin 4, ¬ c ∈ ([] : List (Fin 4))) ∧
    (∀ c : Fin 4, c ∈ [0, 1, 2, 3]) ∧ (canaried.canaryRead 0 [] (5, 0, false) = true) ∧ canaried.canaryRead 0 [0] (5, 0, false) = false ∧
    (canaried.taskDone Periodic.airing 10).isDue Periodic.airing = false := by decide
theorem wit_wake_lost : on.blockLost 3 = false ∧ (on.keep Obj.domainsFailed 8).blockLost 3 = true ∧ on.blockLost 54 = false ∧
    (on.keep Obj.domainsFailed (2 ^ 54)).blockLost 54 = true := by decide
def rec0 : Rec := on.makeRec 0x0006 0 0 []
def airingFull : State := { airing0 [] with sampler := { on.sampler with buf := List.replicate 768 rec0 } }
theorem wit_buffer_wake : airingFull.has Mode.airing = true ∧ 768 ≤ airingFull.pendingRecs ∧ (airing0 []).pendingRecs < 768 := by
  decide +kernel

def dumpingUp (l : Bool) : State := { holdingUp with power := { on.power with dumping := true, latched := l } }
theorem wit_porst : 10000 ≤ 10000 ∧ on.power.held = false ∧ on.has Mode.holdUp = false ∧ (dumpingUp false).has Mode.holdUp = true ∧
    (dumpingUp false).power.dumping = true ∧ State.reset.power.held = true := by decide
theorem wit_dump_end : (dumpingUp false).power.latched = false ∧ (dumpingUp true).power.latched = true := by decide
theorem wit_release : State.reset.power.held = true ∧ State.reset.power.dumping = false ∧ on.power.restart = false ∧ on.power.latched = false ∧
    ∀ c ∈ [(⟨1, 1, false⟩ : Candidate)], c.pass = false := by decide
theorem wit_sense : 1200 < 1201 ∧ (PwrfailClass.openPin = .openPin ∨ PwrfailClass.openPin = .shortHigh) := by decide
/-! ### Witnesses: Sampler -/

theorem wit_record_codes : 0x0102 ∈ eventCodes ∧ (recordClass 0x0102).2 = true ∧ oneToken ≤ (on.bucket 0x0102).level ∧
    ¬ 0x0001 ∈ eventCodes ∧ on.pendingRecs < bufferRoom 0x0102 ∧ 0x0006 ∈ eventCodes ∧ (recordClass 0x0006).2 = false := by decide
def crowded : State := { on with sampler := { on.sampler with buf := List.replicate 960 rec0 } }
theorem wit_record_lost : bufferRoom 0x0006 ≤ crowded.pendingRecs ∧ crowded.cfg Obj.dropped < 2 ^ 32 - 1 := by decide +kernel
def spent : State :=
  { on with sampler := { on.sampler with buckets := [(0x0102, { level := 1, time := 0, suppressed := 3, last := some rec0 })] } }
theorem wit_record_suppressed : (spent.bucket 0x0102).level < oneToken := by decide
theorem wit_refill : ((spent.tick 0).bucket 0x0102).level < oneToken ∧ ((spent.tick 2000000000).bucket 0x0102).last = some rec0 ∧
    oneToken ≤ ((spent.tick 2000000000).bucket 0x0102).level ∧ spent.pendingRecs < bufferRoom rec0.code := by decide
def flushDue : State := { on with sampler := { on.sampler with buf := [rec0], due := true } }
theorem wit_sampler_flush : flushDue.sampler.due = true ∧ flushDue.flushOpen = true ∧ flushDue.sampler.flushing = none ∧
    flushDue.sampler.holdSlot = none ∧ flushDue.sampler.buf ≠ [] ∧ on.sampler.due = false := by decide
theorem wit_flush_timer : flushDue.flushOpen = true ∧ (flushDue.tick 3600000000000).isDue Periodic.flush = true ∧
    flushDue.sampler.flushing = none ∧ ((flushDue.taskDone Periodic.flush flushDue.flushNs).tick 1).isDue Periodic.flush = false := by decide
theorem wit_page_lost : programmedRecs [rec0] [3, 3] = [] ∧ programmedRecs [rec0] [3, 2] = [rec0] ∧
    (List.range (2 * (pagesOf [rec0]).length)).countP (copyBad [3, 3]) = 2 ∧ ∀ i ∈ List.range 2, [0, 2].getD i 0 < 3 := by decide
def flushingNow (r : Rec) : State := { on with sampler := { on.sampler with flushing := some [r] } }
theorem wit_flush_done : (flushingNow rec0).sampler.flushing = some [rec0] ∧ (flushingNow rec0).sampler.due = false ∧
    (flushingNow rec0).sampler.waiting = [] ∧ on.cfg Obj.copiesBad + 1 < 2 ^ 32 ∧ [rec0].find? (·.code = 0x0005) = none ∧
    [{ rec0 with code := 0x0005 }].find? (·.code = 0x0005) = some { rec0 with code := 0x0005 } := by decide
theorem wit_sampler_window : Accessor_manages .pf1 = true ∧ Accessor_manages (.inst 0) = false ∧ on.sampler.circ = [] ∧ 0 < flushDue.pendingRecs ∧
    flushDue.flushOpen = true ∧ flushDue.sampler.waiting = [] ∧ on.pendingRecs = 0 ∧ on.has Mode.factory = false ∧
    ({ on with modes := modeBit Mode.factory } : State).has Mode.factory = true := by decide
theorem wit_window_stored : ({ on with sampler := { on.sampler with circ := [{ rec0 with seq := 20 }] } } : State).sampler.circ ≠ [] ∧
    (on.acc Accessor.pf0.code).cursor + (15 : Fin 16).val ≤
      ({ on with sampler := { on.sampler with circ := [{ rec0 with seq := 20 }] } } : State).sampler.newest := by decide
/-! ### Witnesses: dictionary and Staing -/

theorem wit_dict_read_form : (0 = 0 ∨ 256 - 1 < 0 ∨ 255 < 1) ∧ 1 ≤ 255 ∧ 255 ≤ 255 ∧ 4096 % 8 = 0 ∧ 8 ≤ 4096 ∧ diagnostic 0x2000 = false ∧
    onA.security.rom = false := by decide
theorem wit_dict_read : Obj.rowOf (256 * 0x2060 + 1) = some Obj.flushS ∧ Obj.rowOf (256 * 0x1234 + 1) = none ∧
    onA.may .pf0 Obj.flushS 0x2060 Right.canRead = true ∧ Obj.flushS ≠ Obj.dirtyBits ∧ Obj.flushS ≠ Obj.window ∧
    Obj.flushS ≠ Obj.settingsDigest ∧ 8 + padded Obj.flushS.len ≤ 16 := by decide +kernel
theorem wit_dict_read_right : (onA.may (.inst 5) Obj.flushS 0x2060 Right.canRead || onA.may (.inst 5) Obj.flushS 0x2060 Right.canWrite) = false := by
  decide
def stagedF (v : Nat) : State := onA.setAcc Accessor.pf0.code { onA.acc Accessor.pf0.code with staged := [(Obj.minScrub.key 0 0, v)] }
def scrubRec (v : Nat) : DictRec := ⟨Obj.minScrub.base, Obj.minScrub.sub, Obj.minScrub.ty.code, Obj.minScrub.len, v⟩
theorem wit_dict_waiting : (stagedF 600).waitingValue .pf0 (256 * Obj.minScrub.base + Obj.minScrub.sub) = some 600 ∧
    onA.waitingValue .pf0 (256 * Obj.minScrub.base + Obj.minScrub.sub) = none := by decide
def rec1 : DictRec := ⟨0x2060, 1, Obj.flushS.ty.code, Obj.flushS.len, 60⟩
theorem wit_dict_write_form : recBytes [rec1] = 16 ∧ 16 % 8 = 0 ∧ 16 ≤ 16 ∧ recBytes [rec1] ≠ 24 := by decide
theorem wit_object_commit : MayWrite on .pf0 (scrubRec 3) Obj.minScrub ∧ Obj.minScrub.app = .commit ∧
    (on.acc Accessor.pf0.code).staged.length < 8192 := ⟨⟨by decide +kernel, by decide⟩, by decide⟩
theorem wit_object_staged_full : 8192 ≤ (List.replicate 8192 (0, 0)).length := by decide +kernel
theorem wit_object_fixed : ∃ r, Obj.rowOf (256 * 0x2060 + 1) = some r ∧ typeOk r { rec1 with type := 99 } = false :=
  ⟨Obj.flushS, by decide +kernel, by decide⟩
theorem wit_object_values : MayWrite on .pf0 rec1 Obj.flushS ∧ on.inRange Obj.flushS 0 0 60 = true ∧ on.inRange Obj.flushS 0 0 0 = false ∧
    ¬ Obj.flushS ∈ actingRows := ⟨⟨by decide +kernel, by decide⟩, by decide, by decide, by decide +kernel⟩
theorem wit_restore_defaults : Accessor_manages .port = true ∧ Accessor_manages (.inst 9) = false := by decide

theorem wit_commit_empty : lowest (on.commitFails (on.acc Accessor.pf0.code).staged []) = some 1 := by decide +kernel
theorem wit_commit_passes : lowest ((stagedF 600).commitFails ((stagedF 600).acc Accessor.pf0.code).staged []) = none := by decide +kernel
def gram (op seq arg : Nat) : Datagram :=
  { srcLinkLocal := true, dstDevice := true, udpPort := on.cfg Obj.udpPort, payloadLen := 48, magic := 0x5453, version := 1, kind := 1
    op := op, length := 48, seq := seq, arg := arg, tagPair := ⟨0x5A#8, 0xA5#8⟩, bodyWhole := true, bodyId := 0 }
def staingOn (w : List Datagram) (c : Option Out) : State :=
  let s : State := { on with modes := modeBit Mode.service, security := { on.security with mgmtKey := some 5 } }
  { (s.keep Obj.seqLast 9).keep Obj.pairStatus (2 ^ 24) with
    staing := { s.staing with waiting := w, cached := c, lastReq := some (gram 4 9 0) } }
theorem wit_staing_commit : (staingOn [gram 3 9 1, gram 1 8 0] none).staing.waiting = gram 3 9 1 :: [gram 1 8 0] ∧ (gram 3 9 1).op = 3 ∧
    (staingOn [] none).staingOpen = true ∧ (gram 3 9 1).arg % 256 = 1 ∧ (gram 3 9 258).arg % 256 = 2 := by decide
theorem wit_staing_shut : idling.staingOpen = false ∧ (staingOn [] none).txEnabled = true ∧ on.security.mgmtKey = none := by decide
theorem wit_staing_checks : (gram 1 10 0).udpPort = (staingOn [] none).cfg Obj.udpPort ∧ 48 ≤ (gram 1 10 0).payloadLen ∧
    (gram 1 10 0).length = (gram 1 10 0).payloadLen ∧ (gram 1 10 0).length % 8 = 0 ∧ ComparePair_match (gram 1 10 0).tagPair = true ∧
    (staingOn [] none).security.mgmtKey ≠ none := by decide
theorem wit_staing_seq : (staingOn [] none).last < (gram 1 10 0).seq ∧ (gram 1 8 0).seq < (staingOn [] none).last ∧
    (gram 4 9 0).seq = (staingOn [] none).last ∧ (staingOn [] none).staing.lastReq = some (gram 4 9 0) ∧
    4 ≤ (staingOn (List.replicate 4 (gram 1 8 0)) none).staing.waiting.length := by decide
theorem wit_staing_repeat : (staingOn [] (some .advert)).staing.cached = some .advert := rfl
theorem wit_staing_oldest : (staingOn [gram 1 9 0] none).oldestRequest 1 9 = some (gram 1 9 0) ∧
    (staingOn [gram 2 9 0] none).oldestRequest 2 9 = some (gram 2 9 0) ∧ (staingOn [gram 4 9 0] none).oldestRequest 4 9 = some (gram 4 9 0) ∧
    (staingOn [gram 4 9 0] none).oldestRequest 1 9 = none := by decide
theorem wit_ip_frame : (staingOn [] none).portAwake = true ∧ idling.portAwake = false := by decide
theorem wit_pair : on.txEnabled = true ∧ (on.keep Obj.pairStatus 0).txEnabled = false ∧ on.staing.pairClear = none ∧
    ({ on with staing := { on.staing with pairClear := some 4 } } : State).staing.pairClear = some 4 := by decide
/-! ### Witnesses: security and migration -/

def loopSt (seen shown : LoopState) (normal : Option Nat) : LoopSt := { seen := seen, since := 0, shown := shown, normalSince := normal }
def loops (p q : LoopSt) : State := { on with security := { on.security with presence := p, sealing := q } }
theorem wit_loop_states : loopState 1500 3000 = .normal ∧ loopState 100 100 = .short ∧ loopState 3000 1500 = .reversed ∧
    loopState 3000 3000 = .openLoop := by decide
theorem wit_loops_steady : LoopSt.steady (loopSt .normal .normal none) .normal := ⟨rfl, rfl⟩
def pressed : State := loops (loopSt .short .normal (some 0)) (loopSt .normal .normal (some 0))
theorem wit_loop_press : pressed.security.presence.seen = .short ∧ pressed.security.presence.shown ≠ .short ∧
    20000000 ≤ 100000000 - pressed.security.presence.since ∧ pressed.security.presence.normalSince = some 0 ∧
    100000000 ≤ 100000000 - 0 ∧ (pressed.tick 100000000).windowOpen = false ∧ pressed.sealLocked = false := by decide
def breaking : State := loops (loopSt .normal .normal none) (loopSt .openLoop .normal none)
theorem wit_seal_break : LoopSt.steady breaking.security.presence .normal ∧ breaking.security.sealing.seen = .openLoop ∧
    breaking.security.sealing.shown = .normal ∧ 50000000 ≤ 50000000 - breaking.security.sealing.since ∧ breaking.cfg Obj.sealPolicy ≠ 1 ∧
    (breaking.keep Obj.sealPolicy 1).cfg Obj.sealPolicy = 1 := ⟨⟨rfl, rfl⟩, by decide⟩
theorem wit_zeroise : on.rootLeft = true ∧ holdingUp.has Mode.holdUp = true ∧ holdingUp.rootLeft = true ∧ on.has Mode.holdUp = false := by
  decide
def opened : State := { onA with security := { onA.security with opened := some 0, challenge := some 6 } }
theorem wit_window_closes : opened.security.opened = some 0 ∧ max opened.now 59999999999 < 0 + 60000000000 ∧
    0 + 60000000000 ≤ max opened.now 60000000000 := by decide
theorem wit_halt : on.cfg Obj.cryptoState ≠ 2 ∧ (on.keep Obj.cryptoState 2).cfg Obj.cryptoState = 2 := by decide
def sampled (run seen count : Nat) : State :=
  { on with security := { on.security with lastBit := true, run := run, aptBit := true, aptSeen := seen, aptCount := count } }
theorem wit_entropy : 41 = (if (sampled 40 5 4).security.run ≠ 0 ∧ true = (sampled 40 5 4).security.lastBit then
    (sampled 40 5 4).security.run + 1 else 1) ∧ 796 = (if (sampled 3 1000 795).security.aptSeen = 0 ∨ 1024 ≤ (sampled 3 1000 795).security.aptSeen
    then 1 else if true = (sampled 3 1000 795).security.aptBit then (sampled 3 1000 795).security.aptCount + 1
    else (sampled 3 1000 795).security.aptCount) := by decide

theorem wit_present : PresentOp fetA hA onA := ⟨on_admin_starts, rfl⟩
theorem wit_not_present : onA.presenceUsable = false ∧ onA.has Mode.factory = false ∧ onA.factoryMay = false := by decide
theorem wit_present_usable : opened.presenceUsable = true ∧ opened.factoryMay = true ∧ opened.has Mode.sanitize = false ∧
    opened.has Mode.activation = false ∧ opened.has Mode.holdUp = false ∧ HasRoom opened ∧ opened.cfg Obj.presenceOps < 2 ^ 32 - 1 ∧
    opened.cfg Obj.rootGen < 32 ∧ opened.admin.sanitize = none ∧ opened.sealLocked = false :=
  ⟨by decide, by decide, by decide, by decide, by decide, ⟨by decide, rfl⟩, by decide, by decide, rfl, by decide⟩
theorem wit_seal_locked : (onA.keep Obj.sealBroken 1).sealLocked = true := by decide
theorem wit_debug_token : opened.security.challenge = some (DebugToken.mk 1 6 true).challenge ∧
    opened.security.challenge ≠ some (DebugToken.mk 1 7 true).challenge := by decide
def mgmtBlob : KeyBlob := { blob 5 0 0 0 with length := 72 }
theorem wit_mgmt_key : mgmtBlob.kind = 5 ∧ mgmtBlob.target = 0 ∧ opened.mgmtBlobBad mgmtBlob = false := by decide

def vfState (st : InstState) (ph : Nat) : State := (onA.setFn (.inst 0) { Fn.init st with en := true }).keep Obj.freezePhase ph 0
theorem wit_freeze : (vfState .online 0).has Mode.sanitize = false ∧ (vfState .online 0).portOf 0 = (vfState .online 0).portOfFn hA.fn ∧
    ((vfState .online 0).fn (.inst 0)).state = .online ∧ (vfState .online 0).phase 0 = 0 ∧
    ∀ c ∈ (vfState .online 0).host.ctxs, (vfState .online 0).running 0 c = true → c.interruptible = true := by decide
theorem wit_freeze_refused : (vfState .frozen 2).phase 0 ≠ 0 ∧ ((vfState .frozen 2).fn (.inst 0)).state = .frozen ∧
    (vfState .frozen 2).phase 0 = 2 ∧ Tbl.find (vfState .frozen 2).migration.freezing 0 = none := by decide
theorem wit_restore_check : (vfState .frozen 2).imageCheck
    (cellsLoad (Tbl.get [] (vfState .frozen 2).engines.windows (0x1000 + (0 : Fin 1024))) 0 12352) 0 = some (1, .invalidInstState, 0) := by
  decide
def freezing : State :=
  let s := vfState .online 1
  (s.addCtx ⟨.inst 0, 1, 0⟩).addCtx ⟨.pf0, 0, 8⟩
def frozenBy : State := { freezing with migration := { freezing.migration with freezing := [(0, (⟨.pf0, 0, 8⟩, 3, 0))] } }
theorem wit_freeze_cancel : Tbl.find frozenBy.migration.freezing 0 = some (⟨.pf0, 0, 8⟩, 3, 0) ∧ (⟨.pf0, 0, 8⟩ : Hdr) ≠ hA ∧
    (frozenBy.ctx? ⟨.pf0, 0, 8⟩).any (fun c => c.done = none) = true ∧ (frozenBy.fn (.inst 0)).state = .online ∧ frozenBy.phase 0 = 1 ∧
    frozenBy.drainedOut 0 = false := by decide
theorem wit_freeze_complete : ({ vfState .online 1 with migration := frozenBy.migration } : State).drainedOut 0 = true ∧
    HasRoom frozenBy := ⟨by decide, by decide, rfl⟩
def tracking (m : Option Nat) : State :=
  let s := ((oneNs { conventional with attached := [0] }).keep Obj.dirtyNsid 1 0).setChan 3 dchan
  { s with migration := { s.migration with dirty := m.elim [] fun x => [(0, x)] } }
theorem wit_dirty : (tracking none).ns? 1 = some { conventional with attached := [0] } ∧ (tracking none).cfg Obj.dirtyNsid 0 = 1 ∧
    (tracking none).reaches .pf0 0 = true ∧ (tracking none).reaches (.inst 1) 0 = false ∧ (tracking none).dirtyMap 0 = none ∧
    (tracking (some 5)).dirtyMap 0 = some 5 ∧ (tracking none).tracked 0 < 4 ∧ ¬ [0].contains 1 = true := by decide
theorem wit_dirty_room : ceilDiv (ceilDiv conventional.nsze 4) 8 ≤ (tracking none).dramLeft := by decide +kernel

/-! ### Witnesses: the machine as a whole -/

theorem wit_kept : Kept on := ⟨rfl, by decide, by decide⟩
theorem wit_step : step { on with pending := [.brownOut] } = exec .brownOut on ∧ on.pending = [] := ⟨rfl, rfl⟩
theorem wit_exec : ∃ t, exec (.mr4Poll 3 true) on = .next t := ⟨_, rfl⟩
/-! ### Well-formed commands: an ill-formed one for each check -/

def hBad : Hdr := ⟨.pf0, 0, 65536⟩
theorem test_wf_header : hBad.wf = false ∧ (⟨.pf0, 65536, 0⟩ : Hdr).wf = false ∧ hA.wf = true ∧ (⟨.pf1, 65535, 65535⟩ : Hdr).wf = true ∧
    (Instr.asynchronousEventRequest hBad).wf = false ∧ (Instr.asynchronousEventRequest hA).wf = true := by decide
theorem test_wf_range : (⟨2 ^ 32, 0, 0⟩ : Range).wf = false ∧ (⟨1, 2 ^ 64, 0⟩ : Range).wf = false ∧ (⟨1, 0, 65536⟩ : Range).wf = false ∧
    (⟨1, 0, 65536⟩ : Range).wf32 = true ∧ (⟨1, 0, 2 ^ 32⟩ : Range).wf32 = false ∧ (⟨1, 2 ^ 64, 0⟩ : Range).wf32 = false ∧
    (⟨2 ^ 32, 0, 0⟩ : Range).wf32 = false ∧ (⟨2 ^ 32 - 1, 2 ^ 64 - 1, 65535⟩ : Range).wf = true := by decide
theorem test_wf_write : (Instr.write hIo (writeArgs 0 0)).wf = false ∧ (Instr.zoneAppend hIo (writeArgs 0 3)).wf = false := by decide
def verified : ReadArgs := { range := ⟨1, 4, 0⟩, fua := false, keyTag := none, expect := [], expectMetas := [], prinfo := noPi }
theorem test_wf_read : (Instr.read hIo verified).wf = true ∧ (Instr.read hIo { verified with keyTag := some 65536 }).wf = false ∧
    (Instr.compare hIo { verified with expectMetas := [0, 0] }).wf = false ∧
    (Instr.compare hIo { verified with range := ⟨1, 4, 65536⟩ }).wf = false := by decide
theorem test_wf_copy : copyArgs.wf = true ∧ ({ copyArgs with ranges := [] } : CopyArgs).wf = false ∧ ({ copyArgs with format := 16 } : CopyArgs).wf = false ∧
    ({ copyArgs with nsid := 2 ^ 32 } : CopyArgs).wf = false ∧ ({ copyArgs with sdlba := 2 ^ 64 } : CopyArgs).wf = false ∧
    ({ copyArgs with ranges := [⟨0, 65536⟩] } : CopyArgs).wf = false ∧ ({ copyArgs with ranges := [⟨2 ^ 64, 0⟩] } : CopyArgs).wf = false ∧
    ({ copyArgs with ranges := List.replicate 257 ⟨0, 0⟩ } : CopyArgs).wf = false := by decide +kernel
def queueArgs : QueueArgs := { qid := 1, qsize := 3, pc := true, ien := false, prp1 := 0, cqid := 1, qprio := 0 }
theorem test_wf_queue : queueArgs.wf = true ∧ ∀ a ∈ [{ queueArgs with qid := 65536 }, { queueArgs with qsize := 65536 },
    { queueArgs with prp1 := 2 ^ 64 }, { queueArgs with cqid := 65536 }, { queueArgs with qprio := 4 }], a.wf = false := by decide
theorem test_wf_creation : created.wf = true ∧ (∀ a ∈ [{ created with csi := 256 }, { created with nsze := 2 ^ 64 }, { created with ncap := 2 ^ 64 },
      { created with flbas := 256 }, { created with dps := 256 }, { created with handles := [65536] },
      { created with handles := List.replicate 129 0 }], a.wf = false) ∧
    ∀ w ∈ [{ created.word with maxOpen := 65536 }, { created.word with maxActive := 65536 }, { created.word with stripeData := 64 },
      { created.word with cipherMode := 4 }, { created.word with blockVer := 256 }], w.wf = false := by decide +kernel
theorem test_wf_blob : mgmtBlob.wf = true ∧ ∀ b ∈ [{ mgmtBlob with format := 65536 }, { mgmtBlob with kind := 256 }, { mgmtBlob with wrap := 256 },
    { mgmtBlob with target := 2 ^ 32 }, { mgmtBlob with keyTag := 65536 }, { mgmtBlob with length := 65536 }], b.wf = false := by decide
theorem test_wf_image : (image2 1 1 4096).wf = true ∧ ∀ x ∈ [{ image2 1 1 4096 with magic := 2 ^ 32 }, { image2 1 1 4096 with format := 256 },
    { image2 1 1 4096 with part := 65536 }, { image2 1 1 4096 with svn := 128 }, image2 256 1 0, { image2 1 1 4096 with minor := 256 },
    { image2 1 1 4096 with build := 65536 }, { image2 1 1 4096 with version := 2 ^ 64 }, { image2 1 1 4096 with bodyLen := 2 ^ 32 },
    image2 1 1 (2 ^ 32), image2 1 256 0], x.wf = false := by decide
theorem test_wf_records : rec1.wf = true ∧ (∀ r ∈ [{ rec1 with index := 65536 }, { rec1 with sub := 256 }, { rec1 with type := 256 },
    { rec1 with length := 65536 }, { rec1 with value := 2 ^ 32 }], r.wf = false) ∧ (⟨65536, 0, false⟩ : ReadReq).wf = false ∧
    (⟨0, 256, false⟩ : ReadReq).wf = false ∧ (savedD true).wf = false := by decide
theorem test_wf_dram : (DramOp.read 0 0).wf = false ∧ (DramOp.read 127 2).wf = false ∧ (DramOp.read 127 1).wf = true ∧
    (DramOp.write 0 []).wf = false ∧ (DramOp.write 126 [1, 2, 3]).wf = false := by decide
theorem test_wf_descriptor : desc0.wf = true ∧ ∀ d ∈ [{ desc0 with srcSpace := 4 }, { desc0 with dstSpace := 4 }, { desc0 with count := 2 ^ 32 },
    { desc0 with tag := 2 ^ 32 }, { desc0 with src := 2 ^ 64 }, { desc0 with dst := 2 ^ 64 }], d.wf = false := by decide
theorem test_wf_datagram : (gram 1 1 0).wf = true ∧ ∀ d ∈ [{ gram 1 1 0 with udpPort := 65536 }, { gram 1 1 0 with payloadLen := 65536 },
    { gram 1 1 0 with magic := 65536 }, { gram 1 1 0 with version := 256 }, { gram 1 1 0 with kind := 256 }, gram 256 1 0,
    { gram 1 1 0 with length := 65536 }, gram 1 (2 ^ 64) 0, gram 1 1 (2 ^ 64)], d.wf = false := by decide

theorem test_wf_link : ∀ i ∈ [Instr.linkTrained .a 7 16 true false false, .linkTrained .a 5 17 true false false, .numVfsWrite .a 65536,
    .ccEnSet .pf0 false 16 0 0 0 0, .ccEnSet .pf0 false 0 4096 0 0 0, .ccEnSet .pf0 false 0 0 4096 0 0, .ccEnSet .pf0 false 0 0 0 (2 ^ 64) 0,
    .secondaryOnline hA 65536 0 0, .secondaryOffline hA 0 8 0, .secondaryOffline hA 0 0 65536, .secondaryAssign hA 0 8 0, .primaryFlexibleAllocation hA 0 65536,
    .ownerTakeover .pf0 (2 ^ 32) 0, .maxRateWrite .pf0 256], i.wf = false := by decide
theorem test_wf_queues : ∀ i ∈ [Instr.createIoCompletionQueue hA { queueArgs with qid := 65536 }, .createIoSubmissionQueue hA { queueArgs with qprio := 4 },
    .deleteIoCompletionQueue hA 65536, .deleteIoSubmissionQueue hA 65536, .sqTailDoorbell .pf0 65536 0, .cqHeadDoorbell .pf0 1 65536,
    .commandFetch [plainSqe 65536], .waitingEntryPost .pf0 65536], i.wf = false := by decide
theorem test_wf_io : ∀ i ∈ [Instr.flush hIo (2 ^ 32), .writeUncorrectable hIo ⟨1, 0, 65536⟩, .writeZeroes hIo ⟨1, 2 ^ 64, 0⟩ false,
    .datasetManagement hIo 1 true [], .datasetManagement hIo (2 ^ 32) true [⟨1, 0, 1⟩], .verify hIo ⟨2 ^ 32, 0, 0⟩ noPi,
    .copy hIo { copyArgs with ranges := [] }, .reclaimUnitHandleUpdate hIo 1 [65536], .reclaimUnitHandleStatus hIo (2 ^ 32) 0, .reclaimUnitHandleStatus hIo 1 (2 ^ 32)], i.wf = false := by
  decide
theorem test_wf_zones : ∀ i ∈ [Instr.zoneClose hIo (2 ^ 32) 0 false, .zoneFinish hIo 1 (2 ^ 64) false, .zoneOpen hIo (2 ^ 32) 0 false,
    .zoneReset hIo 1 (2 ^ 64) false, .zoneOffline hIo (2 ^ 32) 0 false, .secureReset hIo 1 (2 ^ 64) false,
    .reportZones hIo 1 0 256 true 0, .zoneDigestReport hIo 1 0 256 true 0], i.wf = false := by decide
theorem test_wf_admin : ∀ i ∈ [Instr.abort hA 65536 0, .abort hA 0 65536, .getLogPage hA 256 0 0 0 true, .getLogPage hA 1 (2 ^ 64) 0 0 true, .getLogPage hA 1 0 0 (2 ^ 32) true,
    .samplerWindowLog hA false (2 ^ 64) 0, .identify hA 256 0 0 0, .identify hA 0 0 65536 0, .identify hA 0 0 0 256, .getFeatures hA 256 0 0 0,
    .getFeatures hA 1 8 0 0, .getFeatures hA 1 0 0 (2 ^ 32), .deviceSelfTestShort hA (2 ^ 32), .deviceSelfTestExtended hA (2 ^ 32),
    .invalidCommandOpcode hA 256 0, .invalidCommandOpcode hA 0 256], i.wf = false := by decide
theorem test_wf_features : ∀ i ∈ [Instr.setArbitration hA false 8 0 0 0, .setArbitration hA false 0 0 0 256, .setPowerManagement hA false 32 0,
    .setPowerManagement hA false 0 8, .setTemperatureThreshold hA false false 65536, .setErrorRecovery hA false 65536 false,
    .setNumberOfQueues hA false 65536 0, .setNumberOfQueues hA false 0 65536, .setInterruptCoalescing hA false (2 ^ 32),
    .setInterruptVectorConfiguration hA false 65536 false, .setAsyncEventConfiguration hA false (2 ^ 32),
    .setAutonomousPowerStateTransition hA false true [(32, 0)], .setAutonomousPowerStateTransition hA false true [(0, 2 ^ 24)],
    .setTimestamp hA false (2 ^ 48), .setFdp hA false true 256, .setFdpEvents hA false true [256], .setCompletionSummaryLine hA false true (2 ^ 64) 0,
    .setInstanceSummary hA false true 0 (2 ^ 32), .setSecureDiscard hA false (2 ^ 32) true], i.wf = false := by decide
theorem test_wf_namespaces : ∀ i ∈ [Instr.namespaceCreate hA { created with csi := 256 }, .namespaceDelete hA (2 ^ 32), .namespaceAttach hA 1 [65536],
    .namespaceDetach hA (2 ^ 32) [], .formatNvm hA 1 64 0, .formatNvm hA 1 0 32, .spareAdd .pf0 (2 ^ 32)], i.wf = false := by decide
theorem test_wf_firmware : ∀ i ∈ [Instr.firmwareImageDownload hA 0 2 none, .firmwareImageDownload hA (2 ^ 34) 4 none,
    .firmwareImageDownload hA 0 4096 (some (image2 256 1 0)), .firmwareCommitReplace hA 8 goodImage,
    .firmwareCommitReplaceActivateReset hA 8 goodImage, .firmwareCommitActivateReset hA 8 goodImage, .firmwareCommitActivateNow hA 8 goodImage],
    i.wf = false := by decide
theorem test_wf_dictionary : ∀ i ∈ [Instr.dictionaryRead hA 65536 1 false 1 16, .dictionaryRead hA 1 256 false 1 16, .dictionaryRead hA 1 1 false 256 16,
    .dictionaryRead hA 1 1 false 1 (2 ^ 32), .dictionaryWrite hA (2 ^ 32) [] [], .dictionaryWrite hA 16 [{ rec1 with sub := 256 }] [],
    .objectWrite .pf0 { rec1 with sub := 256 } [], .freezeInstance hA 65536, .saveInstanceState hA 65536, .restoreInstanceState hA 65536,
    .resumeInstance hA 65536], i.wf = false := by decide
theorem test_wf_engines : ∀ i ∈ [Instr.digestCompare .islandM (List.replicate 65 0) 64, .digestSave .islandM (2 ^ 32) 0,
    .digestRestore .islandM 1 0 (savedD true), .shuttleTailWrite sh15 65536, .shuttleEnable sh15 (2 ^ 64) 0 4, .shuttleEnable sh15 64 (2 ^ 64) 4,
    .shuttleEnable sh15 64 0 256, .descriptorRead sh15 { desc0 with tag := 2 ^ 32 } .ok, .sramScrub 0 0 (List.replicate 81 0),
    .dramRequest (.read 0 0) ⟨[], [], []⟩, .fabricPacket 0 0 0 packet (List.replicate 10 .clean)], i.wf = false := by decide
theorem test_wf_keys : ∀ i ∈ [Instr.importTransportKek hA { mgmtBlob with kind := 256 }, .setNamespaceKey hA { mgmtBlob with wrap := 256 },
    .generateNamespaceKey hA (2 ^ 32), .destroyTransportKek hA 256, .keyStatusReceive hA (2 ^ 32), .keyPerIoInject hA { mgmtBlob with keyTag := 65536 },
    .keyPerIoClear hA 1 65536, .managementKeyProvisioning hA { mgmtBlob with length := 65536 }, .debugUnlock hA ⟨256, 0, true⟩], i.wf = false := by
  decide
theorem test_wf_rest : ∀ i ∈ [Instr.wakeFrame true (2 ^ 160) [], .managementFrameWake (some (gram 256 1 0)), .staingDatagram (gram 256 1 0),
    .recordEnter 65536 0 0 [], .recordEnter 6 65536 0 [], .recordEnter 6 0 256 [], .recordEnter 6 0 0 [0, 0, 0, 0, 0, 0, 0],
    .recordEnter 6 0 0 [2 ^ 32], .rateBucketRefill 65536 0, .staingRead (2 ^ 64) [], .staingRead 0 [⟨65536, 0, false⟩], .staingWrite (2 ^ 64) [] [],
    .staingWrite 0 [{ rec1 with sub := 256 }] [], .staingEcho (2 ^ 64), .pairDiagnosis .normal 8 0 false 0,
    .readAroundReconstruct 0 true (List.replicate 5 0#33280)], i.wf = false := by decide
/-! ### Small steps -/

/-- FIPS 180-4, its one-block example: SHA-256 of "abc". -/
theorem test_sha256_abc : sha256 [0x61, 0x62, 0x63] =
    [0xba, 0x78, 0x16, 0xbf, 0x8f, 0x01, 0xcf, 0xea, 0x41, 0x41, 0x40, 0xde, 0x5d, 0xae, 0x22, 0x23,
     0xb0, 0x03, 0x61, 0xa3, 0x96, 0x17, 0x7a, 0x9c, 0xb4, 0x10, 0xff, 0x61, 0xf2, 0x00, 0x15, 0xad] := by decide +kernel
/-- FIPS 180-4: SHA-512 and SHA-384 of "abc", their first bytes. -/
theorem test_sha512_abc : (hashOf 3 [0x61, 0x62, 0x63]).take 8 = [0xdd, 0xaf, 0x35, 0xa1, 0x93, 0x61, 0x7a, 0xba] ∧
    (hashOf 2 [0x61, 0x62, 0x63]).take 8 = [0xcb, 0x00, 0x75, 0x3f, 0x45, 0xa3, 0x5e, 0x8b] ∧ (hashOf 2 []).length = 48 := by decide +kernel
/-- No row of the table gives bits. -/
theorem test_no_word : decodeTableWord 16 0 = none ∧ decodeTableWord 0 0xFFFF = none := by decide
/-- R329: 16 Gb, 24 Gb and 32 Gb devices make ranks of 16, 24 and 32 GiB. -/
theorem test_rank_bytes : rankBytes 0 = 16 * 2 ^ 30 ∧ rankBytes 2 = 32 * 2 ^ 30 := by decide
/-- R340: the doubled refresh rate. -/
theorem test_mr4 : ∃ t, exec (.mr4Poll 3 true) on = .next t ∧ (t.chan 3).period = 1950 ∧ (on.chan 3).period = 3900 := ⟨_, rfl, by decide⟩
/-- R419: a record takes the next SEQ, and the following one the SEQ after it. -/
theorem test_record_seq : ∃ t, exec (.recordEnter 0x0102 3 9 [1, 2]) on = .next t ∧ (t.sampler.buf.map (·.seq)) = [on.sampler.next] ∧
    (t.sampler.buf.map (·.severity)) = [1] := ⟨_, rfl, by decide⟩
/-- R326: a freed buffer is the next one taken. -/
theorem test_buffer_lifo : (match exec (.referenceDecrement 1 0 (some .pf0) false) (bufOf 1 [pf0User]) with
    | .next t => (t.pool 1).freed
    | _ => []) = [0] := by decide +kernel
/-- R311: an index at the ring size halts the channel with code 7. -/
theorem test_tail_beyond : ∃ t, exec (.shuttleTailWrite sh15 16) (shuttleAt (chanIn 1 none)) = .next t ∧ (t.shuttle sh15).state = 5 ∧
    (t.shuttle sh15).errCode = 7 := ⟨_, rfl, by decide⟩
/-- R83: the ninth Asynchronous Event Request. -/
theorem test_ninth_event : ∃ t, exec (.asynchronousEventRequest hA) (fetA.modFn .pf0 fun x => { x with aers := List.replicate 8 hIo }) = .next t ∧
    (t.ctx? hA).any (fun c => c.done = some ⟨⟨1, 0x05⟩, 0, 0⟩) = true := ⟨_, rfl, by decide +kernel⟩
/-- R462: the window closes 60 s after it opened, not before. -/
theorem test_window_time : ∃ t u, exec (.presenceWindowExpiry 59999999999) opened = .next t ∧ t.security.opened = some 0 ∧
    exec (.presenceWindowExpiry 60000000000) opened = .next u ∧ u.security.opened = none := ⟨_, _, rfl, by decide, rfl, by decide⟩
/-- R331: a request to an address that no channel holds changes nothing (log entry 72). -/
theorem test_no_dram : exec (.dramRequest (.read 0 1) ⟨[], [], []⟩) on = .next on := rfl
/-- R490 to R493: the three examples of the ball map, DQS_C of CH37 at BT23, lane 4 of DM2 at BA5, TXP[9] at W36. -/
theorem test_ball_map : ballAt 53 23 = .flash 37 .dqsC ∧ rowName 53 = ['B', 'T'] ∧ ballAt 39 5 = .dram 2 (.dqsT 4) ∧ rowName 39 = ['B', 'A'] ∧
    ballAt 18 36 = .pcie (.txp 9) ∧ rowName 18 = ['W'] := by decide
/-- R343, R496: out of reset the flash and DRAM enables are high; in it they are low, and their balls are off. -/
theorem test_balls_off : State.reset.ballOff (.edge (.flashPwrEn 0)) = true ∧ on.ballOff (.edge (.flashPwrEn 0)) = false ∧
    State.reset.ballOff (.dram 2 (.dqsT 4)) = true ∧ on.ballOff (.dram 2 (.dqsT 4)) = false := by decide
end Sys2Proof.Tests
end

section
/-! Dispatch queues: what posting and reposting a work item do (R14, R15). -/
namespace Sys2Proof.Machine

/-- The dispatch queue that a work item is posted to: that of its role in its producer's quadrant (R14). -/
abbrev postKey (w : WorkItem) : Nat := queueKey (producerQuadrant w.prod) w.role.code

theorem State.post_of_room {s : State} {w : WorkItem} (h : (s.workQueue (postKey w)).length < 1024) :
    s.post w = s.setQueue (postKey w) (s.workQueue (postKey w) ++ [w]) :=
  if_pos h

theorem State.post_of_full {s : State} {w : WorkItem} (h : 1024 ≤ (s.workQueue (postKey w)).length) :
    s.post w = { s with cells := { s.cells with held := s.cells.held ++ [w] } } :=
  if_neg (Nat.not_lt.mpr h)

theorem exec_workItemPost (w : WorkItem) (s : State) : exec (.workItemPost w) s = .next (s.post w) := rfl

theorem exec_workItemRepost (p : Producer) (tag : Nat) (s : State) :
    exec (.workItemRepost p tag) s = execWorkItemRepost p tag s := rfl

section
variable {p : Producer} {tag : Nat} {w : WorkItem} {s : State}

/-- A held item that its queue accepts leaves the held ones for the end of the queue (R15). -/
theorem exec_workItemRepost_of_room (hw : s.cells.held.find? (fun v => v.prod = p ∧ v.tag = tag) = some w)
    (h : (s.workQueue (postKey w)).length < 1024) :
    exec (.workItemRepost p tag) s
      = .next ({ s with cells := { s.cells with held := s.cells.held.erase w } }.setQueue (postKey w)
          (s.workQueue (postKey w) ++ [w])) := by
  rw [exec_workItemRepost, execWorkItemRepost, hw]
  exact if_pos h

theorem exec_workItemRepost_of_full (hw : s.cells.held.find? (fun v => v.prod = p ∧ v.tag = tag) = some w)
    (h : 1024 ≤ (s.workQueue (postKey w)).length) : exec (.workItemRepost p tag) s = .next s := by
  rw [exec_workItemRepost, execWorkItemRepost, hw]
  exact if_neg (Nat.not_lt.mpr h)

end

/-- Settles O1: with room the queue is set to itself and the item behind it, and no other queue is; a full queue leaves the
item with its producer. -/
theorem workItemsJoinTheirQueuesOrAreHeld : Obligations.WorkItemsJoinTheirQueuesOrAreHeld := by
  refine ⟨fun w s => ⟨fun room => ?_, fun full => ?_⟩, fun p tag w s hw => ⟨fun room => ?_, fun full => ?_⟩⟩
  · exact ⟨_, by rw [exec_workItemPost, State.post_of_room room], State.workQueue_setQueue_same ..,
      fun j hj => State.workQueue_setQueue_ne s _ _ hj, rfl⟩
  · rw [exec_workItemPost, State.post_of_full full]
  · exact ⟨_, exec_workItemRepost_of_room hw room, rfl, State.workQueue_setQueue_same ..,
      fun j hj => State.workQueue_setQueue_ne _ _ _ hj, rfl⟩
  · exact exec_workItemRepost_of_full hw full

end Sys2Proof.Machine
end

section
/-! Routes: along the row, then along the column, one node nearer with every hop (R26). -/
namespace Sys2Proof.Machine

theorem outPort_at_destination (p : Packet) : outPort p.dstX.val p.dstY.val p = 4 := by
  simp [outPort]

/-- Off its destination column, a packet stays in its row and comes one column nearer. -/
theorem nextNode_along_row (p : Packet) {x : Nat} (y : Nat) (h : x ≠ p.dstX.val) :
    ∃ z, nextNode x y (outPort x y p) = (z, y) ∧
      (z - p.dstX.val) + (p.dstX.val - z) + 1 = (x - p.dstX.val) + (p.dstX.val - x) := by
  rcases Nat.lt_or_gt_of_ne h with east | west
  · have port : outPort x y p = 0 := if_pos east
    exact ⟨x + 1, by rw [port]; rfl, by omega⟩
  · have port : outPort x y p = 1 := by simp [outPort, west, Nat.lt_asymm west]
    exact ⟨x - 1, by rw [port]; rfl, by omega⟩

/-- In its destination column, a packet stays there and comes one row nearer. -/
theorem nextNode_along_column (p : Packet) {y : Nat} (h : y ≠ p.dstY.val) :
    ∃ z, nextNode p.dstX.val y (outPort p.dstX.val y p) = (p.dstX.val, z) ∧
      (z - p.dstY.val) + (p.dstY.val - z) + 1 = (y - p.dstY.val) + (p.dstY.val - y) := by
  rcases Nat.lt_or_gt_of_ne h with south | north
  · have port : outPort p.dstX.val y p = 2 := by simp [outPort, south]
    exact ⟨y + 1, by rw [port]; rfl, by omega⟩
  · have port : outPort p.dstX.val y p = 3 := by simp [outPort, north, Nat.lt_asymm north]
    exact ⟨y - 1, by rw [port]; rfl, by omega⟩

theorem afterHops_succ (n x y : Nat) (p : Packet) {x' y' : Nat} (h : nextNode x y (outPort x y p) = (x', y')) :
    afterHops (n + 1) x y p = afterHops n x' y' p := by
  rw [afterHops, h]

theorem afterHops_add (m n x y : Nat) (p : Packet) :
    afterHops (m + n) x y p = afterHops n (afterHops m x y p).1 (afterHops m x y p).2 p := by
  induction m generalizing x y with
  | zero => rw [Nat.zero_add]; rfl
  | succ m ih => rw [Nat.succ_add, afterHops, ih, afterHops]

/-- The first hops of a route, up to the destination column, lead along the row. -/
theorem afterHops_along_row (p : Packet) (n x y : Nat) (h : n ≤ (x - p.dstX.val) + (p.dstX.val - x)) :
    ∃ z, afterHops n x y p = (z, y) ∧
      (z - p.dstX.val) + (p.dstX.val - z) + n = (x - p.dstX.val) + (p.dstX.val - x) := by
  induction n generalizing x with
  | zero => exact ⟨x, rfl, rfl⟩
  | succ n ih =>
    obtain ⟨x', hop, nearer⟩ := nextNode_along_row p (x := x) y (by omega)
    obtain ⟨z, there, left⟩ := ih x' (by omega)
    exact ⟨z, (afterHops_succ n x y p hop).trans there, by omega⟩

/-- From a node of the destination column a packet reaches its destination after as many hops as it is rows away. -/
theorem afterHops_along_column (p : Packet) (n y : Nat) (h : (y - p.dstY.val) + (p.dstY.val - y) = n) :
    afterHops n p.dstX.val y p = (p.dstX.val, p.dstY.val) := by
  induction n generalizing y with
  | zero => rw [afterHops, show y = p.dstY.val by omega]
  | succ n ih =>
    obtain ⟨y', hop, nearer⟩ := nextNode_along_column p (y := y) (by omega)
    exact (afterHops_succ n _ y p hop).trans (ih y' (by omega))

/-- A route is as long as the distances along its row and along its column add up to. -/
theorem afterHops_destination (p : Packet) (x y : Nat) :
    afterHops ((x - p.dstX.val) + (p.dstX.val - x) + ((y - p.dstY.val) + (p.dstY.val - y))) x y p
      = (p.dstX.val, p.dstY.val) := by
  obtain ⟨z, there, left⟩ := afterHops_along_row p _ x y (Nat.le_refl _)
  rw [afterHops_add, there, show z = p.dstX.val by omega]
  exact afterHops_along_column p _ y rfl

end Sys2Proof.Machine
end

section
/-! Packets at a router: what enters a buffer, which packet an output grants, and what an endpoint does with one
(R24, R25, R27, R30, R32, R33, R35, R48). -/
namespace Sys2Proof.Machine

/-- The beats of a packet are counted in the lanes' error counts, and nowhere else (R30, R31). -/
theorem countBeat_with_laneErrs (s : State) (x y port : Nat) (e : BeatErr) (l : Tbl LaneErr) :
    { s.countBeat x y port e with cells := { (s.countBeat x y port e).cells with laneErrs := l } }
      = { s with cells := { s.cells with laneErrs := l } } := by
  cases e <;> rfl

theorem countBeats_eq (x y port : Nat) (errs : List BeatErr) (s : State) :
    errs.foldl (fun a e => a.countBeat x y port e) s
      = { s with cells := { s.cells with laneErrs := (errs.foldl (fun a e => a.countBeat x y port e) s).cells.laneErrs } } := by
  induction errs generalizing s with
  | nil => rfl
  | cons e errs ih => exact (ih (s.countBeat x y port e)).trans (countBeat_with_laneErrs ..)

theorem input_countBeats (x y port : Nat) (errs : List BeatErr) (s : State) (k : Nat) :
    (errs.foldl (fun a e => a.countBeat x y port e) s).input k = s.input k := by
  rw [countBeats_eq]; rfl

theorem exec_fabricPacket (x : Fin 12) (y : Fin 10) (i : Fin 6) (p : Packet) (errs : List BeatErr) (s : State) :
    exec (.fabricPacket x y i p errs) s = execFabricPacket x y i p errs s := rfl

section
variable {x : Fin 12} {y : Fin 10} {i : Fin 6} {p : Packet} {errs : List BeatErr} {s : State}

/-- A block that is cut off injects nothing (R33, R35). -/
theorem exec_fabricPacket_of_isolated (hi : 4 ≤ i.val) (h : s.isolated x.val y.val = true) :
    exec (.fabricPacket x y i p errs) s = .next s := by
  simp [exec_fabricPacket, execFabricPacket, hi, h]

/-- An arrival from a neighbour, or an injection by a block that is not cut off, is taken. -/
theorem not_cutOff (h : i.val < 4 ∨ s.isolated x.val y.val = false) :
    (decide (4 ≤ i.val) && s.isolated x.val y.val) = false := by
  rcases h with link | attached
  · simp [Nat.not_le.mpr link]
  · simp [attached]

/-- A bad header beat discards the packet: only its beats are counted (R30). -/
theorem exec_fabricPacket_of_badHeader (h : i.val < 4 ∨ s.isolated x.val y.val = false)
    (bad : BeatErr_bad (errs.headD .clean) = true) :
    exec (.fabricPacket x y i p errs) s = .next (errs.foldl (fun a e => a.countBeat x.val y.val i.val e) s) := by
  simp only [exec_fabricPacket, execFabricPacket, not_cutOff h, bad, Bool.false_eq_true, if_false, if_true]

/-- A packet as it enters its buffer: poisoned by a bad data beat, and young where it is injected (R27, R30). -/
abbrev entering (p : Packet) (i : Fin 6) (errs : List BeatErr) : Packet :=
  { p with poisoned := p.poisoned || errs.tail.any BeatErr_bad, age := if 4 ≤ i.val then 0 else p.age }

/-- The state in which the beats of a packet are counted and it stands at the end of its buffer. -/
abbrev State.entered (s : State) (x : Fin 12) (y : Fin 10) (i : Fin 6) (p : Packet) (errs : List BeatErr) : State :=
  (errs.foldl (fun a e => a.countBeat x.val y.val i.val e) s).setInput (inputKey x.val y.val i.val p.vc.code)
    (s.input (inputKey x.val y.val i.val p.vc.code) ++ [entering p i errs])

/-- A packet with a good header enters its buffer where that has room for its beats, and the routers grant (R25, R27). -/
theorem exec_fabricPacket_of_room (h : i.val < 4 ∨ s.isolated x.val y.val = false)
    (good : BeatErr_bad (errs.headD .clean) = false)
    (room : ((s.input (inputKey x.val y.val i.val p.vc.code)).map (fun q => 1 + q.beats.val)).sum + (1 + p.beats.val) ≤ 18) :
    exec (.fabricPacket x y i p errs) s
      = .next (if 4 ≤ i.val then (s.entered x y i p errs).inject i.val (entering p i errs)
          else s.entered x y i p errs).settleFabric := by
  have credit : (errs.foldl (fun a e => a.countBeat x.val y.val i.val e) s).hasCredit
      (inputKey x.val y.val i.val p.vc.code) (entering p i errs) = true := by
    rw [State.hasCredit, input_countBeats]
    exact decide_eq_true room
  simp only [exec_fabricPacket, execFabricPacket, not_cutOff h, good, decide_eq_true_eq, credit, input_countBeats, if_true,
    Bool.false_eq_true, if_false]

end

/-- Where any packet waits, one is granted (R27). -/
theorem eq_nil_of_oldest_none {l : List (Nat × Packet)} (h : oldest l = none) : l = [] := by
  cases l with
  | nil => rfl
  | cons e t =>
    rw [oldest] at h
    split at h
    · cases h
    · split at h <;> cases h

/-- The oldest of a list is its first packet or the oldest of the rest, whichever is not younger. -/
theorem oldest_cons (e e' : Nat × Packet) (t : List (Nat × Packet)) (h : oldest (e :: t) = some e') :
    (e' = e ∧ ∀ f, oldest t = some f → f.2.age.val ≤ e.2.age.val) ∨
      (oldest t = some e' ∧ e.2.age.val ≤ e'.2.age.val) := by
  cases rest : oldest t with
  | none => exact .inl ⟨by simpa [oldest, rest] using h.symm, by simp⟩
  | some f =>
    by_cases le : f.2.age.val ≤ e.2.age.val
    · exact .inl ⟨by simpa [oldest, rest, le] using h.symm, by simpa using le⟩
    · have granted : f = e' := by simpa [oldest, rest, le] using h
      exact .inr ⟨by rw [granted], by rw [← granted]; omega⟩

/-- No packet that waits for an output is older than the one granted (R27). -/
theorem oldest_spec (l : List (Nat × Packet)) (e : Nat × Packet) (h : oldest l = some e) :
    e ∈ l ∧ ∀ f ∈ l, f.2.age.val ≤ e.2.age.val := by
  induction l generalizing e with
  | nil => cases h
  | cons a t ih =>
    obtain ⟨rfl, rest⟩ | ⟨granted, le⟩ := oldest_cons a e t h
    · refine ⟨List.mem_cons_self, List.forall_mem_cons.mpr ⟨Nat.le_refl _, fun f hf => ?_⟩⟩
      cases ht : oldest t with
      | none => simp [eq_nil_of_oldest_none ht] at hf
      | some g => exact Nat.le_trans ((ih g ht).2 f hf) (rest g ht)
    · obtain ⟨waits, notOlder⟩ := ih e granted
      exact ⟨List.mem_cons_of_mem _ waits, List.forall_mem_cons.mpr ⟨le, notOlder⟩⟩

section
variable {p : Packet} {s : State}

theorem State.deliver_of_isolated (h : s.isolated p.dstX.val p.dstY.val = true) : s.deliver p = s :=
  if_pos h

theorem State.deliver_of_poisoned (h : s.isolated p.dstX.val p.dstY.val = false) (bad : p.poisoned = true) :
    s.deliver p = { s with cells := { s.cells with failed := s.cells.failed ++ [p] } } := by
  simp [State.deliver, h, bad]

theorem State.deliver_response (h : s.isolated p.dstX.val p.dstY.val = false) (good : p.poisoned = false)
    (vc : p.vc = .response) :
    s.deliver p = { s with cells := { s.cells with reqs := s.cells.reqs.filter (·.tag ≠ p.tag) } } := by
  simp [State.deliver, h, good, vc]

theorem State.deliver_request (h : s.isolated p.dstX.val p.dstY.val = false) (good : p.poisoned = false)
    (vc : p.vc = .request) :
    s.deliver p = if s.cells.inHand.any (fun q => q.tag = p.tag) then s
      else { s with cells := { s.cells with inHand := s.cells.inHand ++ [p] } } := by
  simp [State.deliver, h, good, vc]

end

/-- Settles O4, from the length of a route, what becomes of a packet offered to a router, the oldest packet of
an arbitration, and what an endpoint does with each kind of packet. -/
theorem packetsFollowTheirRouteByAge : Obligations.PacketsFollowTheirRouteByAge := by
  refine ⟨fun p x y => ⟨fun n hn => afterHops_along_row p n x y hn, afterHops_destination p x y, outPort_at_destination p⟩,
    fun x y i p l errs s => ⟨exec_fabricPacket_of_isolated, fun h => ?_⟩,
    fun x y i p errs s h good room => ⟨_, _, _, rfl, rfl, rfl, exec_fabricPacket_of_room h good room⟩,
    oldest_spec, fun p s => ⟨State.deliver_of_isolated, fun h => ⟨State.deliver_of_poisoned h, fun good vc => ?_,
      fun good vc => ?_⟩⟩⟩
  · exact ⟨_, exec_fabricPacket_of_badHeader h rfl, countBeats_eq ..⟩
  · rw [State.deliver_response h good vc]
    simp +contextual
  · rw [State.deliver_request h good vc]
    split <;> rfl

end Sys2Proof.Machine
end

section
/-! Facts of lists and of `if` that the proofs use in more than one place: the package stands on core Lean alone. -/
namespace Sys2Proof.Machine

/-- Two choices on equivalent conditions between the same outcomes are one. -/
theorem ite_of_iff {α : Type} {p q : Prop} [Decidable p] [Decidable q] {a b c d : α} (same : p ↔ q) (yes : a = c)
    (no : b = d) : (if p then a else b) = if q then c else d :=
  ite_congr (propext same) (fun _ => yes) fun _ => no

/-- A choice on two conditions is a choice on one and then on the other. -/
theorem ite_both {α : Type} {p q : Prop} [Decidable p] [Decidable q] (a b : α) :
    (if p ∧ q then a else b) = if p then if q then a else b else b := by
  by_cases hp : p
  · rw [if_pos hp]
    exact ite_of_iff (and_iff_right hp) rfl rfl
  · rw [if_neg hp, if_neg fun h => hp h.1]

theorem nodup_map_of_inj {α β : Type} {l : List α} {f : α → β} (inj : ∀ a b, f a = f b → a = b) (apart : l.Nodup) :
    (l.map f).Nodup :=
  List.Pairwise.map f (fun a b ne same => ne (inj a b same)) apart

theorem sum_map_const {α : Type} (l : List α) (k : Nat) : (l.map fun _ => k).sum = l.length * k := by
  rw [List.map_const', List.sum_replicate_nat]

/-- Where one of two flags is clear they are not both set. -/
theorem not_both {a b : Bool} (no : a = false ∨ b = false) : ¬ (a = true ∧ b = true) := by
  rcases no with rfl | rfl <;> simp

theorem filter_all {α : Type} (l : List α) : (l.filter fun _ => true) = l :=
  List.filter_eq_self.mpr fun _ _ => rfl

theorem filter_none {α : Type} (l : List α) : (l.filter fun _ => false) = [] :=
  List.filter_eq_nil_iff.mpr fun _ _ => Bool.false_ne_true

end Sys2Proof.Machine
end

section
/-! What listing an entry under a key, or none, leaves in a table; and the canonical form of every window (R307). -/
namespace Sys2Proof.Machine

/-- Every window lists its bytes in the canonical form. -/
def WindowsFormed (w : Tbl (List Host.Cell)) : Prop := ∀ e ∈ w, Memory.wf e.2 = true

theorem Tbl.mem_of_mem_del {α : Type} {t : Tbl α} {k : Nat} {e : Nat × α} (h : e ∈ Tbl.del t k) : e ∈ t := by
  induction t with
  | nil => exact h
  | cons x xs ih =>
    simp only [Tbl.del] at h
    split at h
    · exact List.mem_cons_of_mem _ (ih h)
    · exact (List.mem_cons.mp h).elim (fun h => h ▸ List.mem_cons_self) fun h => List.mem_cons_of_mem _ (ih h)

theorem Tbl.eq_or_mem_of_mem_put {α : Type} {t : Tbl α} {k : Nat} {v : α} {e : Nat × α} (h : e ∈ Tbl.put t k v) :
    e = (k, v) ∨ e ∈ t := by
  induction t with
  | nil => exact .inl (by simpa [Tbl.put] using h)
  | cons x xs ih =>
    simp only [Tbl.put] at h
    split at h
    · exact List.mem_cons.mp h
    · split at h
      · exact (List.mem_cons.mp h).imp_right (List.mem_cons_of_mem _)
      · obtain rfl | h := List.mem_cons.mp h
        · exact .inr List.mem_cons_self
        · exact (ih h).imp_right (List.mem_cons_of_mem _)

theorem Tbl.mem_of_find {α : Type} {t : Tbl α} {k : Nat} {v : α} (h : Tbl.find t k = some v) : (k, v) ∈ t := by
  induction t with
  | nil => cases h
  | cons x xs ih =>
    simp only [Tbl.find] at h
    split at h
    · next hk => cases h; exact hk ▸ List.mem_cons_self
    · exact List.mem_cons_of_mem _ (ih h)

@[simp] theorem WindowsFormed.del {w : Tbl (List Host.Cell)} (h : WindowsFormed w) (k : Nat) : WindowsFormed (Tbl.del w k) :=
  fun e he => h e (Tbl.mem_of_mem_del he)

theorem WindowsFormed.get {w : Tbl (List Host.Cell)} (h : WindowsFormed w) (k : Nat) : Memory.wf (Tbl.get [] w k) = true := by
  cases hf : Tbl.find w k with
  | none => simp [Tbl.get, hf, Memory.wf]
  | some m => simpa [Tbl.get, hf] using h _ (Tbl.mem_of_find hf)

@[simp] theorem WindowsFormed.put {w : Tbl (List Host.Cell)} (h : WindowsFormed w) (k : Nat) {m : List Host.Cell}
    (hm : Memory.wf m = true) : WindowsFormed (Tbl.put w k m) :=
  fun e he => (Tbl.eq_or_mem_of_mem_put he).elim (fun eq => eq ▸ hm) (h e)

@[simp] theorem WindowsFormed.set {w : Tbl (List Host.Cell)} (h : WindowsFormed w) (k : Nat) {m : List Host.Cell}
    (hm : Memory.wf m = true) : WindowsFormed (Tbl.set [] w k m) := by
  unfold Tbl.set
  split
  · exact h.del k
  · exact h.put k hm

end Sys2Proof.Machine
end

section
/-! What the device has sent stays sent: for each operation that may send something, a list that the output begins with
before it begins the output after it. Every other operation keeps the output by its frame. -/
namespace Sys2Proof.Machine

variable {α : Type} {l : List Out} {s : State}

@[simp] theorem sent_ite {c : Prop} [Decidable c] {a b : List Out} (ha : l <+: a) (hb : l <+: b) : l <+: (if c then a else b) := by
  split <;> assumption

@[simp] theorem sent_foldl (g : State → α → State) (xs : List α) {s : State} (h : l <+: s.out)
    (k : ∀ a e, l <+: a.out → l <+: (g a e).out) : l <+: (xs.foldl g s).out := by
  induction xs generalizing s with
  | nil => exact h
  | cons x xs ih => exact ih (k s x h)

@[simp] theorem sent_elim (o : Option α) (s : State) (f : α → State) (h : l <+: s.out)
    (k : ∀ x, l <+: (f x).out) : l <+: (o.elim s f).out := by
  cases o with
  | none => exact h
  | some x => exact k x

@[simp] theorem sent_emit (o : Out) (hs : l <+: s.out) : l <+: (s.emit o).out := by
  exact hs.trans (List.prefix_append _ _)

@[simp] theorem sent_postEntry (c : Ctx) (q : Cq) (k : Cpl) (hs : l <+: s.out) : l <+: (s.postEntry c q k).out := by
  unfold State.postEntry
  simp [hs]

@[simp] theorem sent_postCmd (h : Hdr) (hs : l <+: s.out) : l <+: (s.postCmd h).out := by
  unfold State.postCmd
  (repeat' split) <;> simp [hs]

@[simp] theorem sent_postWaiting (f : Func) (cqid : Nat) (hs : l <+: s.out) : l <+: (s.postWaiting f cqid).out := by
  unfold State.postWaiting
  (repeat' split) <;> simp [hs]

@[simp] theorem sent_writeLine (f : Func) (hs : l <+: s.out) : l <+: (s.writeLine f).out := by
  simp only [State.writeLine]
  (repeat' split) <;> simp [hs]

@[simp] theorem sent_writeAllLines (hs : l <+: s.out) : l <+: (s.writeAllLines).out := by
  unfold State.writeAllLines
  exact sent_foldl _ _ hs fun a e ha => by
    (repeat' split) <;> simp [ha]

@[simp] theorem sent_concludeOk (c : Ctx) (hs : l <+: s.out) : l <+: (s.concludeOk c).out := by
  unfold State.concludeOk
  (repeat' split) <;> simp [hs]

@[simp] theorem sent_conclude (c : Ctx) (hs : l <+: s.out) : l <+: (s.conclude c).out := by
  unfold State.conclude
  (repeat' split) <;> simp [hs]

@[simp] theorem sent_settleCtx (h : Hdr) (hs : l <+: s.out) : l <+: (s.settleCtx h).out := by
  unfold State.settleCtx
  (repeat' split) <;> simp [hs]

@[simp] theorem sent_settleWait (h : Hdr) (hs : l <+: s.out) : l <+: (s.settleWait h).out := by
  unfold State.settleWait
  (repeat' split) <;> simp [hs]

@[simp] theorem sent_settleDurable (hs : l <+: s.out) : l <+: (s.settleDurable).out := by
  unfold State.settleDurable
  exact sent_foldl _ _ hs fun a e ha => by
    (repeat' split) <;> simp [ha]

@[simp] theorem sent_admitFor (h : Hdr) (step3 : Bool) (hs : l <+: s.out) : l <+: (s.admitFor h step3).out := by
  unfold State.admitFor
  simp [hs]

@[simp] theorem sent_goRead (h : Hdr) (a : ReadArgs) (purpose : Purpose) (hs : l <+: s.out) :
    l <+: (s.goRead h a purpose).out := by
  unfold State.goRead
  dsimp only
  (repeat' split)
  · simp [hs]
  · simp [hs]
  · exact sent_elim _ _ _ (by simp [hs]) fun c => by simp [hs]

@[simp] theorem sent_goChunks (h : Hdr) (a : WriteArgs) (slba : Nat) (dw0 : Nat) (dw1 : Nat) (hs : l <+: s.out) :
    l <+: (s.goChunks h a slba dw0 dw1).out := by
  unfold State.goChunks
  simp [hs]

@[simp] theorem sent_goWrite (h : Hdr) (a : WriteArgs) (hs : l <+: s.out) : l <+: (s.goWrite h a).out := by
  unfold State.goWrite
  dsimp only
  (repeat' split)
  · simp [hs]
  · simp [hs]
  next he =>
    have same := state_assignWrite_some _ _ _ _ _ _ he
    simp_all
  · simp [hs]

@[simp] theorem sent_assignAppend (h : Hdr) (a : WriteArgs) (hs : l <+: s.out) : l <+: (s.assignAppend h a).out := by
  unfold State.assignAppend
  (repeat' split)
  · simp [hs]
  · simp [hs]
  next he =>
    have same := state_assignWrite_some _ _ _ _ _ _ he
    simp_all

@[simp] theorem sent_goAppend (h : Hdr) (a : WriteArgs) (hs : l <+: s.out) : l <+: (s.goAppend h a).out := by
  unfold State.goAppend
  dsimp only
  (repeat' split) <;> simp [hs]

@[simp] theorem sent_goCopy (h : Hdr) (a : CopyArgs) (hs : l <+: s.out) : l <+: (s.goCopy h a).out := by
  unfold State.goCopy
  dsimp only
  (repeat' split)
  · simp [hs]
  · simp [hs]
  next s1 start =>
    have same : s1.out = s.out := by
      split at start
      · cases he : s.assignWrite a.nsid (a.sdlba / s.zsze _) (copyLen a.ranges) (some (a.sdlba % s.zsze _)) with
        | error e => rw [he] at start; cases start
        | ok got =>
          rw [he] at start
          cases start
          simp [state_assignWrite_some _ _ _ _ _ _ he]
      · cases start; rfl
    simp [same, hs]

@[simp] theorem sent_resume (h : Hdr) (y0 : Instr) (hs : l <+: s.out) : l <+: (s.resume h y0).out := by
  unfold State.resume
  (repeat' split) <;> simp [hs]

@[simp] theorem sent_wakeOrdered (c : Ctx) (hs : l <+: s.out) : l <+: (s.wakeOrdered c).out := by
  unfold State.wakeOrdered
  (repeat' split) <;> simp [hs]

@[simp] theorem sent_wakeAll (hs : l <+: s.out) : l <+: (s.wakeAll).out := by
  unfold State.wakeAll
  exact sent_foldl _ _ hs fun a e ha => by
    simp [ha]

@[simp] theorem sent_readmit (hs : l <+: s.out) : l <+: (s.readmit).out := by
  unfold State.readmit
  exact sent_foldl _ _ hs fun a e ha => by
    simp [ha]

@[simp] theorem sent_releaseHeld (hs : l <+: s.out) : l <+: (s.releaseHeld).out := by
  unfold State.releaseHeld
  exact sent_foldl _ _ hs fun a e ha => by
    (repeat' split) <;> simp [ha]

@[simp] theorem sent_settleReset (h : Hdr) (nsid : Nat) (hs : l <+: s.out) : l <+: (s.settleReset h nsid).out := by
  unfold State.settleReset
  dsimp only
  (repeat' split)
  · exact hs
  · exact hs
  · simp [hs]
  · simp only [state_finish_frame]
    refine sent_readmit (sent_releaseHeld ?_)
    exact sent_foldl _ _ hs fun a e ha => by split <;> simp [ha]
  · exact hs

@[simp] theorem sent_settleResets (hs : l <+: s.out) : l <+: (s.settleResets).out := by
  unfold State.settleResets
  exact sent_foldl _ _ hs fun a e ha => sent_foldl _ _ ha fun b h hb => by simp [hb]

@[simp] theorem sent_sweepReadOnly (hs : l <+: s.out) : l <+: (s.sweepReadOnly).out := by
  unfold State.sweepReadOnly
  exact sent_foldl _ _ hs fun a e ha => by
    (repeat' split) <;> simp [ha]

@[simp] theorem sent_enterReadOnly (cause : Nat) (hs : l <+: s.out) : l <+: (s.enterReadOnly cause).out := by
  unfold State.enterReadOnly
  simp [hs]

@[simp] theorem sent_setRoCause (c : Nat) (hs : l <+: s.out) : l <+: (s.setRoCause c).out := by
  unfold State.setRoCause
  simp [hs]

@[simp] theorem sent_takeSpares (n : Nat) (hs : l <+: s.out) : l <+: (s.takeSpares n).out := by
  unfold State.takeSpares
  simp [hs]

@[simp] theorem sent_loseLun (lun : Nat) (hs : l <+: s.out) : l <+: (s.loseLun lun).out := by
  simp only [State.loseLun]
  (repeat' split) <;> simp [hs]

@[simp] theorem sent_loseTarget (ch : Nat) (ce : Nat) (hs : l <+: s.out) : l <+: (s.loseTarget ch ce).out := by
  unfold State.loseTarget
  dsimp only
  split
  · exact hs
  · exact sent_foldl _ _ (by simp [hs]) fun a e ha => by simp [ha]

@[simp] theorem sent_loseChannel (ch : Nat) (hs : l <+: s.out) : l <+: (s.loseChannel ch).out := by
  unfold State.loseChannel
  (repeat' split)
  · exact hs
  · exact hs
  · exact sent_foldl _ _ (by simp [hs]) fun a e ha => by simp [ha]

@[simp] theorem sent_retireBlock (lun : Nat) (block : Nat) (hs : l <+: s.out) :
    l <+: (s.retireBlock lun block).out := by
  simp only [State.retireBlock]
  (repeat' split) <;> simp [hs]

@[simp] theorem sent_retireSystem (lun : Nat) (block : Nat) (hs : l <+: s.out) :
    l <+: (s.retireSystem lun block).out := by
  unfold State.retireSystem
  simp [hs]

@[simp] theorem sent_programFails (k : Nat) (hs : l <+: s.out) : l <+: (s.programFails k).out := by
  simp only [State.programFails]
  (repeat' split) <;> simp [hs]

@[simp] theorem sent_replacementFails (id : Nat) (member : Nat) (lun : Nat) (block : Nat) (hs : l <+: s.out) :
    l <+: (s.replacementFails id member lun block).out := by
  unfold State.replacementFails
  simp [hs]

@[simp] theorem sent_abandonTarget (id : Nat) (member : Nat) (hs : l <+: s.out) :
    l <+: (s.abandonTarget id member).out := by
  unfold State.abandonTarget
  (repeat' split) <;> simp [hs]

@[simp] theorem sent_targetFails (id : Nat) (member : Nat) (hs : l <+: s.out) :
    l <+: (s.targetFails id member).out := by
  unfold State.targetFails
  (repeat' split) <;> simp [hs]

@[simp] theorem sent_eraseFails (lun : Nat) (block : Nat) (hs : l <+: s.out) :
    l <+: (s.eraseFails lun block).out := by
  unfold State.eraseFails
  simp [hs]

@[simp] theorem sent_settleAll (hs : l <+: s.out) : l <+: (s.settleAll).out := by
  unfold State.settleAll
  have freed : l <+: s.releaseSlots.out := by simpa using hs
  simpa using sent_wakeAll (sent_readmit (sent_settleResets (sent_settleDurable freed)))

@[simp] theorem sent_admitHosts (step3 : Bool) (hs : l <+: s.out) : l <+: (s.admitHosts step3).out := by
  unfold State.admitHosts
  dsimp only
  split
  · exact sent_foldl _ _ hs fun a c ha => by simp [ha]
  · exact sent_foldl _ _ hs fun a f ha => sent_foldl _ _ ha fun b c hb => by simp [hb]

@[simp] theorem sent_parityDone (lun : Nat) (o : LunOp) (id : Nat) (row : Nat) (ok : Bool) (hs : l <+: s.out) :
    l <+: (s.parityDone lun o id row ok).out := by
  unfold State.parityDone
  (repeat' split) <;> simp [hs]

@[simp] theorem sent_segmentWritten (nsid : Nat) (segment : Nat) (lun : Nat) (o : LunOp) (ok : Bool) (hs : l <+: s.out) :
    l <+: (s.segmentWritten nsid segment lun o ok).out := by
  simp only [State.segmentWritten]
  (repeat' split) <;> simp [hs]

@[simp] theorem sent_opDone (lun : Nat) (o : LunOp) (ok : Bool) (hs : l <+: s.out) :
    l <+: (s.opDone lun o ok).out := by
  unfold State.opDone
  (repeat' split) <;> simp [hs]

@[simp] theorem sent_afterReset (lun : Nat) (b : Busy) (hs : l <+: s.out) : l <+: (s.afterReset lun b).out := by
  unfold State.afterReset
  (repeat' split) <;> simp [hs]

@[simp] theorem sent_lunTimeout (lun : Nat) (resetReady : Bool) (hs : l <+: s.out) :
    l <+: (s.lunTimeout lun resetReady).out := by
  simp only [State.lunTimeout]
  (repeat' split) <;> simp [hs]

@[simp] theorem sent_copySegment (nsid : Nat) (segment : Nat) (hs : l <+: s.out) :
    l <+: (s.copySegment nsid segment).out := by
  simp only [State.copySegment]
  (repeat' split) <;> simp [hs]

@[simp] theorem sent_deliverTo (r : MediaRead) (bad : BitVec 4) (a : Attach) (hs : l <+: s.out) :
    l <+: (s.deliverTo r bad a).out := by
  unfold State.deliverTo
  (repeat' split) <;> simp [hs]

@[simp] theorem sent_concludeRead (rd : Nat) (r : MediaRead) (hs : l <+: s.out) :
    l <+: (s.concludeRead rd r).out := by
  unfold State.concludeRead
  split
  · exact hs
  · have served := sent_foldl (fun a e => a.deliverTo r (s.readBad r) e) r.attached (s := s.countTag r) (by simpa using hs)
      fun a e ha => by simp [ha]
    simp [served]
  · simp [hs]
  · simp [hs]
  · simp [hs]

@[simp] theorem sent_afterLadder (rd : Nat) (r : MediaRead) (hs : l <+: s.out) : l <+: (s.afterLadder rd r).out := by
  unfold State.afterLadder
  (repeat' split) <;> simp [hs]

@[simp] theorem sent_earlyFail (r : MediaRead) (hs : l <+: s.out) : l <+: (s.earlyFail r).out := by
  simp only [State.earlyFail]
  (repeat' split) <;> simp [hs]

@[simp] theorem sent_toDarning (rd : Nat) (r : MediaRead) (cw : Nat) (hs : l <+: s.out) :
    l <+: (s.toDarning rd r cw).out := by
  unfold State.toDarning
  simp [hs]

@[simp] theorem sent_toStep4 (rd : Nat) (r : MediaRead) (cw : Nat) (hs : l <+: s.out) :
    l <+: (s.toStep4 rd r cw).out := by
  unfold State.toStep4
  (repeat' split) <;> simp [hs]

@[simp] theorem sent_codewordFails (rd : Nat) (r : MediaRead) (cw : Nat) (hs : l <+: s.out) :
    l <+: (s.codewordFails rd r cw).out := by
  unfold State.codewordFails
  (repeat' split) <;> simp [hs]

@[simp] theorem sent_refreshBlock (lun : Nat) (block : Nat) (hs : l <+: s.out) :
    l <+: (s.refreshBlock lun block).out := by
  simp only [State.refreshBlock]
  (repeat' split) <;> simp [hs]

@[simp] theorem sent_judge (lun : Nat) (block : Nat) (high : Nat) (left : Bool) (hs : l <+: s.out) :
    l <+: (s.judge lun block high left).out := by
  simp only [State.judge]
  (repeat' split) <;> simp [hs]

@[simp] theorem sent_endSample (lun : Nat) (block : Nat) (failBits : List Nat) (leftStep1 : Bool) (hs : l <+: s.out) :
    l <+: (s.endSample lun block failBits leftStep1).out := by
  unfold State.endSample
  simp [hs]

@[simp] theorem sent_cutThrough (r : MediaRead) (hs : l <+: s.out) : l <+: (s.cutThrough r).out := by
  unfold State.cutThrough
  exact sent_foldl _ _ hs fun a e ha => by
    (repeat' split) <;> simp [ha]

@[simp] theorem sent_tagLost (rd : Nat) (r : MediaRead) (hs : l <+: s.out) : l <+: (s.tagLost rd r).out := by
  unfold State.tagLost
  simp [hs]

@[simp] theorem sent_unitDeciphered (rd : Nat) (r : MediaRead) (core : Nat) (tag : ComparePair) (hs : l <+: s.out) :
    l <+: (s.unitDeciphered rd r core tag).out := by
  have judged : l <+: ((s.judgePair core tag).cutThrough r).out := sent_cutThrough _ (by simpa using hs)
  unfold State.unitDeciphered
  dsimp only
  (repeat' split) <;> simp [hs, judged]

@[simp] theorem sent_shuttleRecord (c : ShuttleId) (index : Nat) (tag : Nat) (hs : l <+: s.out) :
    l <+: (s.shuttleRecord c index tag).out := by
  simp only [State.shuttleRecord]
  (repeat' split) <;> simp [hs]

@[simp] theorem sent_haltShuttle (c : ShuttleId) (code : Nat) (index : Nat) (hs : l <+: s.out) :
    l <+: (s.haltShuttle c code index).out := by
  unfold State.haltShuttle
  simp [hs]

@[simp] theorem sent_landBytes (c : ShuttleId) (space : Nat) (address : Nat) (bs : List Byte) (hs : l <+: s.out) :
    l <+: (s.landBytes c space address bs).out := by
  unfold State.landBytes
  simp [hs]

@[simp] theorem sent_moved (c : ShuttleId) (d : ShuttleDesc) (n : Nat) (host : List Byte) (hs : l <+: s.out) :
    l <+: (s.moved c d n host).out := by
  unfold State.moved
  simp [hs]

@[simp] theorem sent_pauseShuttles (on : Bool) (hs : l <+: s.out) : l <+: (s.pauseShuttles on).out := by
  unfold State.pauseShuttles
  simp [hs]

@[simp] theorem sent_startPause (hs : l <+: s.out) : l <+: (s.startPause).out := by
  unfold State.startPause
  simp [hs]

@[simp] theorem sent_startDeferredSwitch (hs : l <+: s.out) : l <+: (s.startDeferredSwitch).out := by
  unfold State.startDeferredSwitch
  (repeat' split) <;> simp [hs]

@[simp] theorem sent_endPause (hs : l <+: s.out) : l <+: (s.endPause).out := by
  simp only [State.endPause]
  (repeat' split) <;> simp [hs]

@[simp] theorem sent_startSanitize (action : Nat) (abort : Bool) (own : Bool) (ause : Bool) (hs : l <+: s.out) :
    l <+: (s.startSanitize action abort own ause).out := by
  simp only [State.startSanitize]
  (repeat' split) <;> simp [hs]

@[simp] theorem sent_zeroise (hs : l <+: s.out) : l <+: (s.zeroise).out := by
  unfold State.zeroise
  (repeat' split) <;> simp [hs]

@[simp] theorem sent_sealBreak (hs : l <+: s.out) : l <+: (s.sealBreak).out := by
  simp only [State.sealBreak]
  (repeat' split) <;> simp [hs]

@[simp] theorem sent_protect (on : Bool) (hs : l <+: s.out) : l <+: (s.protect on).out := by
  unfold State.protect
  simp [hs]

theorem sent_actRefused {acc : Accessor} {r : ObjRow} {i j v : Nat} (hs : l <+: s.out) :
    ∀ t ∈ s.actRefused acc r i j v, l <+: t.out := by
  unfold State.actRefused
  repeat' with_reducible refine iteInduction (motive := fun o : Option State => ∀ t ∈ o, l <+: t.out) (fun _ => ?_) (fun _ => ?_)
  all_goals simp only [Option.mem_def, Option.some.injEq, forall_eq', reduceCtorEq, false_implies, implies_true]
  case refine_2.refine_2.refine_2.refine_2.refine_1 => exact fun t ht => by simpa [state_takeOver_some _ _ _ _ ht] using hs
  case refine_2.refine_2.refine_2.refine_2.refine_2.refine_1 => exact fun t ht => by simpa [state_addSpares_some _ _ _ ht] using hs
  case refine_2.refine_2.refine_2.refine_2.refine_2.refine_2.refine_1 =>
    exact fun t ht => by simpa [state_setTracking_some _ _ _ _ ht] using hs
  all_goals simp [hs, apply_ite State.out]

@[simp] theorem sent_writeRow (acc : Accessor) (r : ObjRow) (i : Nat) (j : Nat) (v : Nat) (cellFails : List (Fin 96)) (hs : l <+: s.out) :
    l <+: ((s.writeRow acc r i j v cellFails).2).out := by
  unfold State.writeRow
  dsimp only
  (repeat' split) <;> try simp [hs]
  next s1 he => exact sent_actRefused hs s1 he

@[simp] theorem sent_writeObject (acc : Accessor) (d : DictRec) (cellFails : List (Fin 96)) (hs : l <+: s.out) :
    l <+: ((s.writeObject acc d cellFails).2).out := by
  unfold State.writeObject
  (repeat' split) <;> simp [hs]

@[simp] theorem sent_writeMany (acc : Accessor) (cellFails : List (Fin 96)) (ds : List DictRec) (hs : l <+: s.out) :
    l <+: (s.writeMany acc cellFails ds).2.2.out := by
  induction ds generalizing s with
  | nil => exact hs
  | cons d t ih =>
    have first := sent_writeObject acc d cellFails hs
    unfold State.writeMany
    dsimp only
    split
    · exact first
    · exact ih first

@[simp] theorem sent_startFreeze (h : Hdr) (n : Fin 1024) (hs : l <+: s.out) : l <+: (s.startFreeze h n).out := by
  unfold State.startFreeze
  simp only [state_modCtx_frame]
  exact sent_foldl _ _ (by simp [hs]) fun a c ha => by simp [ha]

@[simp] theorem sent_thaw (n : Fin 1024) (hs : l <+: s.out) : l <+: (s.thaw n).out := by
  unfold State.thaw
  simp [hs]

@[simp] theorem sent_transmit (o : Out) (hs : l <+: s.out) : l <+: (s.transmit o).out := by
  unfold State.transmit
  simp [hs]

@[simp] theorem sent_respond (o : Out) (hs : l <+: s.out) : l <+: (s.respond o).out := by
  unfold State.respond
  simp [hs]

@[simp] theorem sent_queueRequest (d : Datagram) (hs : l <+: s.out) : l <+: (s.queueRequest d).out := by
  unfold State.queueRequest
  (repeat' split) <;> simp [hs]

@[simp] theorem sent_checkSeq (d : Datagram) (hs : l <+: s.out) : l <+: (s.checkSeq d).out := by
  unfold State.checkSeq
  (repeat' split) <;> simp [hs]

@[simp] theorem sent_receive (d : Datagram) (hs : l <+: s.out) : l <+: (s.receive d).out := by
  unfold State.receive
  (repeat' split) <;> simp [hs]

@[simp] theorem sent_executed (o : Out) (hs : l <+: s.out) : l <+: (s.executed o).out := by
  unfold State.executed
  simp [hs]

@[simp] theorem sent_testSample (e : SampleEnd) (hs : l <+: s.out) : l <+: (s.testSample e).out := by
  simp only [State.testSample]
  (repeat' split) <;> simp [hs]

@[simp] theorem sent_admitAll (len : Nat) (hs : l <+: s.out) : l <+: (s.admitAll len).out := by
  unfold State.admitAll
  simp [hs]

@[simp] theorem sent_startDeferred (hs : l <+: s.out) : l <+: (s.startDeferred).out := by
  simp only [State.startDeferred]
  (repeat' split) <;> simp [hs]

@[simp] theorem sent_openFrame (k : Nat) (planned : Nat) (hs : l <+: s.out) : l <+: (s.openFrame k planned).out := by
  unfold State.openFrame
  refine sent_settleAll (sent_admitAll _ ?_)
  simp [hs]

@[simp] theorem sent_openGrid (hs : l <+: s.out) : l <+: (s.openGrid).out := by
  unfold State.openGrid
  simp [hs]

@[simp] theorem sent_boundary (s0 : State) (hs : l <+: s0.out) : l <+: (s0.boundary).out := by
  simp only [State.boundary]
  (repeat' split) <;> simp [hs]

@[simp] theorem sent_domainPauses (hs : l <+: s.out) : l <+: (s.domainPauses).out := by
  unfold State.domainPauses
  simp [hs]

@[simp] theorem sent_domainsOn (hs : l <+: s.out) : l <+: (s.domainsOn).out := by
  unfold State.domainsOn
  simp [hs]

@[simp] theorem sent_leaveEntry (hs : l <+: s.out) : l <+: (s.leaveEntry).out := by
  simp only [State.leaveEntry]
  (repeat' split) <;> simp [hs]

@[simp] theorem sent_settleEntry (hs : l <+: s.out) : l <+: (s.settleEntry).out := by
  unfold State.settleEntry
  (repeat' split) <;> simp [hs]

@[simp] theorem sent_checkpointAll (hs : l <+: s.out) : l <+: (s.checkpointAll).out := by
  unfold State.checkpointAll
  exact sent_foldl _ _ hs fun a e ha => by
    simp [ha]

@[simp] theorem sent_prepareAiring (hs : l <+: s.out) : l <+: (s.prepareAiring).out := by
  unfold State.prepareAiring
  simp [hs]

@[simp] theorem sent_startEntry (hs : l <+: s.out) : l <+: (s.startEntry).out := by
  unfold State.startEntry
  dsimp only
  (repeat' split) <;> simp [hs]

@[simp] theorem sent_refuseEntry (d : Nat) (hs : l <+: s.out) : l <+: (s.refuseEntry d).out := by
  unfold State.refuseEntry
  simp [hs]

@[simp] theorem sent_awaken (code : Nat) (ranks : List (Fin 4 × DramTraining)) (hs : l <+: s.out) :
    l <+: (s.awaken code ranks).out := by
  unfold State.awaken
  (repeat' split) <;> simp [hs]

@[simp] theorem sent_airing (skipped : List (Fin 4)) (failBits : List (Nat × Nat × Bool)) (readable : Bool) (hs : l <+: s.out) :
    l <+: (s.airing skipped failBits readable).out := by
  simp only [State.airing]
  (repeat' split) <;> simp [hs]

@[simp] theorem sent_wakeForDump (hs : l <+: s.out) : l <+: (s.wakeForDump).out := by
  unfold State.wakeForDump
  (repeat' split) <;> simp [hs]

@[simp] theorem sent_beginDump (hs : l <+: s.out) : l <+: (s.beginDump).out := by
  unfold State.beginDump
  simp [hs]

@[simp] theorem sent_enterHoldUp (hs : l <+: s.out) : l <+: (s.enterHoldUp).out := by
  unfold State.enterHoldUp
  simp [hs]

@[simp] theorem sent_stopStripes (hs : l <+: s.out) : l <+: (s.stopStripes).out := by
  unfold State.stopStripes
  simp [hs]

@[simp] theorem sent_settleStripes (stop : Nat) (hs : l <+: s.out) : l <+: (s.settleStripes stop).out := by
  unfold State.settleStripes
  simp [hs]

@[simp] theorem sent_replayMaps (bad : List Nat) (hs : l <+: s.out) : l <+: (s.replayMaps bad).out := by
  unfold State.replayMaps
  simp [hs]

@[simp] theorem sent_loseDomain (d : Nat) (hs : l <+: s.out) : l <+: (s.loseDomain d).out := by
  have channels : l <+: ((lostGroups d).foldl (fun a g => (List.range 4).foldl (fun b i => b.loseChannel (4 * g + i)) a)
      (s.failDomain d)).out :=
    sent_foldl _ _ (by simp [hs]) fun a g ha => sent_foldl _ _ ha fun b i hb => by simp [hb]
  have drams (t : State) (ht : l <+: t.out) : l <+: ((lostDram d).foldl (fun a c =>
      if (a.chan c).state = 2 then a.loseDram c else a) t).out :=
    sent_foldl _ _ ht fun a c ha => by split <;> simp [ha]
  unfold State.loseDomain
  dsimp only
  (repeat' split) <;> simpa using drams _ channels

@[simp] theorem sent_loseMissing (e : BootEnv) (hs : l <+: s.out) : l <+: (s.loseMissing e).out := by
  unfold State.loseMissing
  exact sent_foldl _ _ (sent_foldl _ _ hs fun a c ha => by simp [ha]) fun a k ha => by simp [ha]

@[simp] theorem sent_bootSanitize (hs : l <+: s.out) : l <+: (s.bootSanitize).out := by
  unfold State.bootSanitize
  (repeat' split) <;> simp [hs]

@[simp] theorem sent_beginService (e : BootEnv) (hs : l <+: s.out) : l <+: (s.beginService e).out := by
  unfold State.beginService
  simp [hs]

@[simp] theorem sent_startUp (e : BootEnv) (cause : Nat) (hs : l <+: s.out) : l <+: (s.startUp e cause).out := by
  unfold State.startUp
  refine sent_beginService _ ?_
  simp [hs]

@[simp] theorem sent_switchPower (d : Nat) (on : Bool) (hs : l <+: s.out) : l <+: (s.switchPower d on).out := by
  simp only [State.switchPower]
  (repeat' split) <;> simp [hs]

@[simp] theorem sent_planeAct (d : Nat) (y0 : CfgMsg) (hs : l <+: s.out) : l <+: (s.planeAct d y0).out := by
  unfold State.planeAct
  (repeat' split) <;> simp [hs]

@[simp] theorem sent_giveUp (c : Consumer) (hs : l <+: s.out) : l <+: (s.giveUp c).out := by
  unfold State.giveUp
  (repeat' split) <;> simp [hs]

@[simp] theorem sent_bufferWordLost (rd : Nat) (hs : l <+: s.out) : l <+: (s.bufferWordLost rd).out := by
  unfold State.bufferWordLost
  (repeat' split) <;> simp [hs]

@[simp] theorem sent_wordLost (w : BadWord) (hs : l <+: s.out) : l <+: (s.wordLost w).out := by
  unfold State.wordLost
  (repeat' split) <;> simp [hs]

@[simp] theorem sent_sramBeyond (mem : Nat) (address : Nat) (hs : l <+: s.out) :
    l <+: (s.sramBeyond mem address).out := by
  unfold State.sramBeyond
  simp [hs]

end Sys2Proof.Machine
end

section
/-! A free value that was drawn stays drawn (log entry 1): the operations that may draw one do not lower the counter. -/
namespace Sys2Proof.Machine

variable {α : Type} {n : Nat} {s : State}

@[simp] theorem drawn_ite {c : Prop} [Decidable c] {a b : Nat} (ha : n ≤ a) (hb : n ≤ b) : n ≤ (if c then a else b) := by
  split <;> assumption

@[simp] theorem drawn_foldl (g : State → α → State) (xs : List α) {s : State} (h : n ≤ s.free)
    (k : ∀ a e, n ≤ a.free → n ≤ (g a e).free) : n ≤ (xs.foldl g s).free := by
  induction xs generalizing s with
  | nil => exact h
  | cons x xs ih => exact ih (k s x h)

@[simp] theorem drawn_elim (o : Option α) (s : State) (f : α → State) (h : n ≤ s.free)
    (k : ∀ x, n ≤ (f x).free) : n ≤ (o.elim s f).free := by
  cases o with
  | none => exact h
  | some x => exact k x

@[simp] theorem drawn_draw (hs : n ≤ s.free) : n ≤ ((s.draw).2).free := by
  exact Nat.le_succ_of_le hs

@[simp] theorem drawn_drawData (hs : n ≤ s.free) : n ≤ ((s.drawData).2).free := by
  exact Nat.le_succ_of_le hs

@[simp] theorem drawn_plainLba (nsid : Nat) (tag : Option Nat) (stored : Option Nat) (d : LbaData) (hs : n ≤ s.free) :
    n ≤ ((s.plainLba nsid tag stored d).2).free := by
  unfold State.plainLba
  (repeat' split) <;> simp [hs]

@[simp] theorem drawn_plainLbas (nsid : Nat) (tag : Option Nat) (y0 : List (Option Nat × LbaData)) (hs : n ≤ s.free) :
    n ≤ ((s.plainLbas nsid tag y0).2).free := by
  induction y0 generalizing s with
  | nil => exact hs
  | cons e t ih => exact ih (drawn_plainLba _ _ _ _ hs)

@[simp] theorem drawn_deliverTo (r : MediaRead) (bad : BitVec 4) (a : Attach) (hs : n ≤ s.free) :
    n ≤ (s.deliverTo r bad a).free := by
  unfold State.deliverTo
  (repeat' split) <;> simp [hs]

@[simp] theorem drawn_concludeRead (rd : Nat) (r : MediaRead) (hs : n ≤ s.free) : n ≤ (s.concludeRead rd r).free := by
  unfold State.concludeRead
  split
  · exact hs
  · have served := drawn_foldl (fun a e => a.deliverTo r (s.readBad r) e) r.attached (s := s.countTag r) (by simpa using hs)
      fun a e ha => by simp [ha]
    simp [served]
  · simp [hs]
  · simp [hs]
  · simp [hs]

@[simp] theorem drawn_afterLadder (rd : Nat) (r : MediaRead) (hs : n ≤ s.free) : n ≤ (s.afterLadder rd r).free := by
  unfold State.afterLadder
  (repeat' split) <;> simp [hs]

@[simp] theorem drawn_tagLost (rd : Nat) (r : MediaRead) (hs : n ≤ s.free) : n ≤ (s.tagLost rd r).free := by
  unfold State.tagLost
  simp [hs]

@[simp] theorem drawn_unitDeciphered (rd : Nat) (r : MediaRead) (core : Nat) (tag : ComparePair) (hs : n ≤ s.free) :
    n ≤ (s.unitDeciphered rd r core tag).free := by
  unfold State.unitDeciphered
  dsimp only
  (repeat' split) <;> simp [hs]

@[simp] theorem drawn_trainChannel (ch : Nat) (t : ChannelTraining) (hs : n ≤ s.free) :
    n ≤ (s.trainChannel ch t).free := by
  unfold State.trainChannel
  simp [hs]

@[simp] theorem drawn_bootFlash (e : BootEnv) (hs : n ≤ s.free) : n ≤ (s.bootFlash e).free := by
  have trained (s : State) (hs : n ≤ s.free) : n ≤ (e.channels.foldl (fun a c => a.trainChannel c.1.val c.2) s).free :=
    drawn_foldl _ _ hs fun a c ha => by simp [ha]
  unfold State.bootFlash
  dsimp only
  split <;> simp [trained, hs]

@[simp] theorem drawn_admitChannel (ref : Nat) (c : Nat) (hs : n ≤ s.free) : n ≤ (s.admitChannel ref c).free := by
  simp only [State.admitChannel]
  (repeat' split) <;> simp [hs]

@[simp] theorem drawn_bootDram (e : BootEnv) (recovery : Bool) (hs : n ≤ s.free) :
    n ≤ (s.bootDram e recovery).free := by
  unfold State.bootDram
  have admitted (s t : State) (hs : n ≤ s.free) : n ≤ ((List.range 4).foldl (fun a c => a.admitChannel t.rankCount c) s).free :=
    drawn_foldl _ _ hs fun a c ha => by simp [ha]
  simp [admitted, hs, apply_ite State.free]

@[simp] theorem drawn_showEdstt (hs : n ≤ s.free) : n ≤ (s.showEdstt).free := by
  unfold State.showEdstt
  simp [hs]

@[simp] theorem drawn_beginService (e : BootEnv) (hs : n ≤ s.free) : n ≤ (s.beginService e).free := by
  unfold State.beginService
  simp [hs]

@[simp] theorem drawn_startUp (e : BootEnv) (cause : Nat) (hs : n ≤ s.free) : n ≤ (s.startUp e cause).free := by
  have booted : n ≤ (((s.bootCells e).bootFlash e).bootDram e (decide (cause ≠ 0))).free := by simp [hs]
  unfold State.startUp
  refine drawn_beginService _ ?_
  simpa using booted

@[simp] theorem drawn_bufferWordLost (rd : Nat) (hs : n ≤ s.free) : n ≤ (s.bufferWordLost rd).free := by
  unfold State.bufferWordLost
  (repeat' split) <;> simp [hs]

@[simp] theorem drawn_wordLost (w : BadWord) (hs : n ≤ s.free) : n ≤ (s.wordLost w).free := by
  unfold State.wordLost
  (repeat' split) <;> simp [hs]

@[simp] theorem drawn_sramBeyond (mem : Nat) (address : Nat) (hs : n ≤ s.free) :
    n ≤ (s.sramBeyond mem address).free := by
  unfold State.sramBeyond
  dsimp only
  (repeat' split) <;> simp [hs]

end Sys2Proof.Machine
end

section
/-! The windows keep the canonical form (R307): the operations that may change one. -/
namespace Sys2Proof.Machine

variable {α : Type} {s : State}

@[simp] theorem windows_ite {c : Prop} [Decidable c] {a b : Engines} (ha : WindowsFormed a.windows) (hb : WindowsFormed b.windows) : WindowsFormed (if c then a else b).windows := by
  split <;> assumption

@[simp] theorem windows_foldl (g : State → α → State) (xs : List α) {s : State} (h : WindowsFormed s.engines.windows)
    (k : ∀ a e, WindowsFormed a.engines.windows → WindowsFormed (g a e).engines.windows) : WindowsFormed (xs.foldl g s).engines.windows := by
  induction xs generalizing s with
  | nil => exact h
  | cons x xs ih => exact ih (k s x h)

@[simp] theorem windows_elim (o : Option α) (s : State) (f : α → State) (h : WindowsFormed s.engines.windows)
    (k : ∀ x, WindowsFormed (f x).engines.windows) : WindowsFormed (o.elim s f).engines.windows := by
  cases o with
  | none => exact h
  | some x => exact k x

@[simp] theorem windows_emptyStaging (p : Nat) (hs : WindowsFormed s.engines.windows) :
    WindowsFormed (s.emptyStaging p).engines.windows := by
  unfold State.emptyStaging
  dsimp only
  split <;> exact hs.del _

@[simp] theorem windows_fenceManager (f : Func) (row : Nat) (hs : WindowsFormed s.engines.windows) :
    WindowsFormed (s.fenceManager f row).engines.windows := by
  unfold State.fenceManager
  simp [hs]

@[simp] theorem windows_dropFreeze (n : Nat) (hs : WindowsFormed s.engines.windows) :
    WindowsFormed (s.dropFreeze n).engines.windows := by
  unfold State.dropFreeze
  simp [hs]

@[simp] theorem windows_fence (f : Func) (row : Nat) (vfClear : Bool) (hs : WindowsFormed s.engines.windows) :
    WindowsFormed (s.fence f row vfClear).engines.windows := by
  simp only [State.fence]
  (repeat' split) <;> simp [hs]

@[simp] theorem windows_fenceInstances (p : Port) (row : Nat) (vfClear : Bool) (hs : WindowsFormed s.engines.windows) :
    WindowsFormed (s.fenceInstances p row vfClear).engines.windows := by
  unfold State.fenceInstances
  exact windows_foldl _ _ hs fun a e ha => by
    (repeat' split) <;> simp [ha]

@[simp] theorem windows_fencePort (p : Port) (row : Nat) (vfClear : Bool) (hs : WindowsFormed s.engines.windows) :
    WindowsFormed (s.fencePort p row vfClear).engines.windows := by
  unfold State.fencePort
  simp [hs]

@[simp] theorem windows_subsystemReset (hs : WindowsFormed s.engines.windows) :
    WindowsFormed (s.subsystemReset).engines.windows := by
  unfold State.subsystemReset
  simp [hs]

@[simp] theorem windows_restart (cause : Nat) (hs : WindowsFormed s.engines.windows) :
    WindowsFormed (s.restart cause).engines.windows := by
  unfold State.restart
  simp [hs]

@[simp] theorem windows_loseDram (c : Nat) (hs : WindowsFormed s.engines.windows) :
    WindowsFormed (s.loseDram c).engines.windows := by
  unfold State.loseDram
  simp [hs]

@[simp] theorem windows_landBytes (c : ShuttleId) (space : Nat) (address : Nat) (bs : List Byte) (hs : WindowsFormed s.engines.windows) :
    WindowsFormed (s.landBytes c space address bs).engines.windows := by
  unfold State.landBytes
  split
  · simp [hs]
  · exact hs.set _ (cellsStore_wf _ _ _ (hs.get _))

@[simp] theorem windows_moved (c : ShuttleId) (d : ShuttleDesc) (n : Nat) (host : List Byte) (hs : WindowsFormed s.engines.windows) :
    WindowsFormed (s.moved c d n host).engines.windows := by
  unfold State.moved
  simp [hs]

theorem cellsStore_foldl_wf (es : List (Nat × List Byte)) (m : List Host.Cell) (hm : Memory.wf m = true) :
    Memory.wf (es.foldl (fun m e => cellsStore m e.1 e.2) m) = true := by
  induction es generalizing m with
  | nil => exact hm
  | cons e es ih => exact ih _ (cellsStore_wf _ _ _ hm)

@[simp] theorem windows_stageImage (p : Port) (offset : Nat) (bytes : Nat) (header : Option ImageHeader) (hs : WindowsFormed s.engines.windows) :
    WindowsFormed (s.stageImage p offset bytes header).engines.windows := by
  have kept : WindowsFormed (s.stageBytes p offset bytes).engines.windows := by simpa using hs
  have staged : Memory.wf ((s.stageBytes p offset bytes).stageWindow p) = true := kept.get _
  unfold State.stageImage
  dsimp only
  (repeat' split)
  next i _ =>
    have stored := cellsStore_foldl_wf (headerBytes i) _ staged
    generalize List.foldl _ _ _ = m at *
    exact kept.set _ stored
  · exact kept
  · exact kept

@[simp] theorem windows_romRestart (h : Hdr) (slot : Nat) (hs : WindowsFormed s.engines.windows) :
    WindowsFormed (s.romRestart h slot).engines.windows := by
  unfold State.romRestart
  simp [hs]

@[simp] theorem windows_fenceFrozen (hs : WindowsFormed s.engines.windows) :
    WindowsFormed (s.fenceFrozen).engines.windows := by
  unfold State.fenceFrozen
  exact windows_foldl _ _ hs fun a e ha => by
    (repeat' split) <;> simp [ha]

@[simp] theorem windows_startSanitize (action : Nat) (abort : Bool) (own : Bool) (ause : Bool) (hs : WindowsFormed s.engines.windows) :
    WindowsFormed (s.startSanitize action abort own ause).engines.windows := by
  simp only [State.startSanitize]
  (repeat' split) <;> simp [hs]

@[simp] theorem windows_cryptoHalt (c : HaltCause) (hs : WindowsFormed s.engines.windows) :
    WindowsFormed (s.cryptoHalt c).engines.windows := by
  unfold State.cryptoHalt
  simp [hs]

@[simp] theorem windows_zeroise (hs : WindowsFormed s.engines.windows) :
    WindowsFormed (s.zeroise).engines.windows := by
  unfold State.zeroise
  (repeat' split) <;> simp [hs]

@[simp] theorem windows_sealBreak (hs : WindowsFormed s.engines.windows) :
    WindowsFormed (s.sealBreak).engines.windows := by
  simp only [State.sealBreak]
  (repeat' split) <;> simp [hs]

@[simp] theorem windows_thaw (n : Fin 1024) (hs : WindowsFormed s.engines.windows) :
    WindowsFormed (s.thaw n).engines.windows := by
  unfold State.thaw
  simp [hs]

@[simp] theorem windows_openFrame (k : Nat) (planned : Nat) (hs : WindowsFormed s.engines.windows) :
    WindowsFormed (s.openFrame k planned).engines.windows := by
  unfold State.openFrame
  simp [hs]

@[simp] theorem windows_openGrid (hs : WindowsFormed s.engines.windows) :
    WindowsFormed (s.openGrid).engines.windows := by
  unfold State.openGrid
  simp [hs]

@[simp] theorem windows_boundary (s0 : State) (hs : WindowsFormed s0.engines.windows) :
    WindowsFormed (s0.boundary).engines.windows := by
  simp only [State.boundary]
  (repeat' split) <;> simp [hs]

@[simp] theorem windows_leaveEntry (hs : WindowsFormed s.engines.windows) :
    WindowsFormed (s.leaveEntry).engines.windows := by
  simp only [State.leaveEntry]
  (repeat' split) <;> simp [hs]

@[simp] theorem windows_settleEntry (hs : WindowsFormed s.engines.windows) :
    WindowsFormed (s.settleEntry).engines.windows := by
  unfold State.settleEntry
  (repeat' split) <;> simp [hs]

@[simp] theorem windows_refuseEntry (d : Nat) (hs : WindowsFormed s.engines.windows) :
    WindowsFormed (s.refuseEntry d).engines.windows := by
  unfold State.refuseEntry
  simp [hs]

@[simp] theorem windows_awaken (code : Nat) (ranks : List (Fin 4 × DramTraining)) (hs : WindowsFormed s.engines.windows) :
    WindowsFormed (s.awaken code ranks).engines.windows := by
  unfold State.awaken
  (repeat' split) <;> simp [hs]

@[simp] theorem windows_airing (skipped : List (Fin 4)) (failBits : List (Nat × Nat × Bool)) (readable : Bool) (hs : WindowsFormed s.engines.windows) :
    WindowsFormed (s.airing skipped failBits readable).engines.windows := by
  simp only [State.airing]
  (repeat' split) <;> simp [hs]

@[simp] theorem windows_beginDump (hs : WindowsFormed s.engines.windows) :
    WindowsFormed (s.beginDump).engines.windows := by
  unfold State.beginDump
  simp [hs]

@[simp] theorem windows_enterHoldUp (hs : WindowsFormed s.engines.windows) :
    WindowsFormed (s.enterHoldUp).engines.windows := by
  unfold State.enterHoldUp
  simp [hs]

@[simp] theorem windows_stopStripes (hs : WindowsFormed s.engines.windows) :
    WindowsFormed (s.stopStripes).engines.windows := by
  unfold State.stopStripes
  simp [hs]

@[simp] theorem windows_settleStripes (stop : Nat) (hs : WindowsFormed s.engines.windows) :
    WindowsFormed (s.settleStripes stop).engines.windows := by
  unfold State.settleStripes
  simp [hs]

@[simp] theorem windows_replayMaps (bad : List Nat) (hs : WindowsFormed s.engines.windows) :
    WindowsFormed (s.replayMaps bad).engines.windows := by
  unfold State.replayMaps
  simp [hs]

@[simp] theorem windows_loseDomain (d : Nat) (hs : WindowsFormed s.engines.windows) :
    WindowsFormed (s.loseDomain d).engines.windows := by
  have drams (t : State) (ht : WindowsFormed t.engines.windows) : WindowsFormed ((lostDram d).foldl (fun a c =>
      if (a.chan c).state = 2 then a.loseDram c else a) t).engines.windows :=
    windows_foldl _ _ ht fun a c ha => by split <;> simp [ha]
  have channels : WindowsFormed ((lostGroups d).foldl (fun a g => (List.range 4).foldl (fun b i =>
      b.loseChannel (4 * g + i)) a) (s.failDomain d)).engines.windows := by
    simpa (disch := intros; simp) using hs
  unfold State.loseDomain
  dsimp only
  (repeat' split) <;> simp [drams _ channels]

@[simp] theorem windows_bootSanitize (hs : WindowsFormed s.engines.windows) :
    WindowsFormed (s.bootSanitize).engines.windows := by
  unfold State.bootSanitize
  (repeat' split) <;> simp [hs]

@[simp] theorem windows_beginService (e : BootEnv) (hs : WindowsFormed s.engines.windows) :
    WindowsFormed (s.beginService e).engines.windows := by
  unfold State.beginService
  simp [hs]

@[simp] theorem windows_wakeRom (hs : WindowsFormed s.engines.windows) :
    WindowsFormed (s.wakeRom).engines.windows := by
  unfold State.wakeRom
  simp [hs]

@[simp] theorem windows_startUp (e : BootEnv) (cause : Nat) (hs : WindowsFormed s.engines.windows) :
    WindowsFormed (s.startUp e cause).engines.windows := by
  unfold State.startUp
  simp [hs]

@[simp] theorem windows_planeAct (d : Nat) (y0 : CfgMsg) (hs : WindowsFormed s.engines.windows) :
    WindowsFormed (s.planeAct d y0).engines.windows := by
  unfold State.planeAct
  (repeat' split) <;> simp [hs]

@[simp] theorem windows_stopDevice (fault : Nat) (hs : WindowsFormed s.engines.windows) :
    WindowsFormed (s.stopDevice fault).engines.windows := by
  unfold State.stopDevice
  dsimp only
  split <;> simp [hs]

@[simp] theorem windows_wordLost (w : BadWord) (hs : WindowsFormed s.engines.windows) :
    WindowsFormed (s.wordLost w).engines.windows := by
  unfold State.wordLost
  (repeat' split) <;> simp [hs]

@[simp] theorem windows_sramBeyond (mem : Nat) (address : Nat) (hs : WindowsFormed s.engines.windows) :
    WindowsFormed (s.sramBeyond mem address).engines.windows := by
  unfold State.sramBeyond
  simp [hs]

end Sys2Proof.Machine
end

section
/-! DRAM keeps the canonical form (R261): the operations that may change it. -/
namespace Sys2Proof.Machine

variable {α : Type} {s : State}

@[simp] theorem dram_ite {c : Prop} [Decidable c] {a b : Mem} (ha : Memory.wf a.dram = true) (hb : Memory.wf b.dram = true) : Memory.wf (if c then a else b).dram = true := by
  split <;> assumption

@[simp] theorem dram_foldl (g : State → α → State) (xs : List α) {s : State} (h : Memory.wf s.mem.dram = true)
    (k : ∀ a e, Memory.wf a.mem.dram = true → Memory.wf (g a e).mem.dram = true) : Memory.wf (xs.foldl g s).mem.dram = true := by
  induction xs generalizing s with
  | nil => exact h
  | cons x xs ih => exact ih (k s x h)

@[simp] theorem dram_elim (o : Option α) (s : State) (f : α → State) (h : Memory.wf s.mem.dram = true)
    (k : ∀ x, Memory.wf (f x).mem.dram = true) : Memory.wf (o.elim s f).mem.dram = true := by
  cases o with
  | none => exact h
  | some x => exact k x

@[simp] theorem dram_dramWrite (a : Nat) (bs : List Byte) (e : DramErrors) (hs : Memory.wf s.mem.dram = true) :
    Memory.wf (s.dramWrite a bs e).mem.dram = true := by
  unfold State.dramWrite
  simpa using cellsStore_wf _ _ _ (by split <;> simp [hs])

@[simp] theorem dram_serveDram (op : DramOp) (errs : DramErrors) (hs : Memory.wf s.mem.dram = true) :
    Memory.wf (s.serveDram op errs).mem.dram = true := by
  unfold State.serveDram
  (repeat' split) <;> simp [hs]

@[simp] theorem dram_requestDram (op : DramOp) (errs : DramErrors) (hs : Memory.wf s.mem.dram = true) :
    Memory.wf (s.requestDram op errs).mem.dram = true := by
  unfold State.requestDram
  (repeat' split) <;> simp [hs]

@[simp] theorem dram_settleDram (hs : Memory.wf s.mem.dram = true) : Memory.wf (s.settleDram).mem.dram = true := by
  unfold State.settleDram
  exact dram_foldl _ _ hs fun a r ha => by simp [ha]

@[simp] theorem dram_unpark (ready : Nat → Bool) (hs : Memory.wf s.mem.dram = true) :
    Memory.wf (s.unpark ready).mem.dram = true := by
  unfold State.unpark
  simp [hs]

@[simp] theorem dram_openLinks (hs : Memory.wf s.mem.dram = true) : Memory.wf (s.openLinks).mem.dram = true := by
  unfold State.openLinks
  simp [hs]

@[simp] theorem dram_leaveEntry (hs : Memory.wf s.mem.dram = true) : Memory.wf (s.leaveEntry).mem.dram = true := by
  simp only [State.leaveEntry]
  (repeat' split) <;> simp [hs]

@[simp] theorem dram_settleEntry (hs : Memory.wf s.mem.dram = true) : Memory.wf (s.settleEntry).mem.dram = true := by
  unfold State.settleEntry
  (repeat' split) <;> simp [hs]

@[simp] theorem dram_startEntry (hs : Memory.wf s.mem.dram = true) : Memory.wf (s.startEntry).mem.dram = true := by
  unfold State.startEntry
  (repeat' split) <;> simp [hs]

@[simp] theorem dram_fallAsleep (hs : Memory.wf s.mem.dram = true) : Memory.wf (s.fallAsleep).mem.dram = true := by
  unfold State.fallAsleep
  dsimp only
  (repeat' split) <;> simp [hs, Memory.wf]

@[simp] theorem dram_advanceEntry (y0 : Nat) (hs : Memory.wf s.mem.dram = true) :
    Memory.wf (s.advanceEntry y0).mem.dram = true := by
  induction y0 generalizing s <;> unfold State.advanceEntry <;> (repeat' split) <;> simp [*]

@[simp] theorem dram_refuseEntry (d : Nat) (hs : Memory.wf s.mem.dram = true) :
    Memory.wf (s.refuseEntry d).mem.dram = true := by
  unfold State.refuseEntry
  simp [hs]

@[simp] theorem dram_awaken (code : Nat) (ranks : List (Fin 4 × DramTraining)) (hs : Memory.wf s.mem.dram = true) :
    Memory.wf (s.awaken code ranks).mem.dram = true := by
  unfold State.awaken
  (repeat' split) <;> simp [hs]

@[simp] theorem dram_airing (skipped : List (Fin 4)) (failBits : List (Nat × Nat × Bool)) (readable : Bool) (hs : Memory.wf s.mem.dram = true) :
    Memory.wf (s.airing skipped failBits readable).mem.dram = true := by
  simp only [State.airing]
  (repeat' split) <;> simp [hs]

@[simp] theorem dram_wakeForDump (hs : Memory.wf s.mem.dram = true) : Memory.wf (s.wakeForDump).mem.dram = true := by
  unfold State.wakeForDump
  (repeat' split) <;> simp [hs]

@[simp] theorem dram_enterHoldUp (hs : Memory.wf s.mem.dram = true) : Memory.wf (s.enterHoldUp).mem.dram = true := by
  unfold State.enterHoldUp
  simp [hs]

@[simp] theorem dram_signalReady (d : Nat) (hs : Memory.wf s.mem.dram = true) :
    Memory.wf (s.signalReady d).mem.dram = true := by
  unfold State.signalReady
  simp [hs]

@[simp] theorem dram_planeAct (d : Nat) (y0 : CfgMsg) (hs : Memory.wf s.mem.dram = true) :
    Memory.wf (s.planeAct d y0).mem.dram = true := by
  unfold State.planeAct
  (repeat' split) <;> simp [hs]

@[simp] theorem dram_wordLost (w : BadWord) (hs : Memory.wf s.mem.dram = true) :
    Memory.wf (s.wordLost w).mem.dram = true := by
  unfold State.wordLost
  (repeat' split) <;> simp [hs]

@[simp] theorem dram_sramBeyond (mem : Nat) (address : Nat) (hs : Memory.wf s.mem.dram = true) :
    Memory.wf (s.sramBeyond mem address).mem.dram = true := by
  unfold State.sramBeyond
  simp [hs]

end Sys2Proof.Machine
end

section
/-! Growth: what every command adds to and takes nothing of; and the four statements about a step (O56 to O60). -/
namespace Sys2Proof.Machine

/-- From s to t nothing is taken back: the queue of commands is the same, and clock, free values, output and the form of every
memory only go on. -/
structure Grows (s t : State) : Prop where
  pending : t.pending = s.pending
  now : s.now ≤ t.now
  free : s.free ≤ t.free
  sent : s.out <+: t.out
  dram : Memory.wf s.mem.dram = true → Memory.wf t.mem.dram = true
  windows : WindowsFormed s.engines.windows → WindowsFormed t.engines.windows
  boot : s.bootAt ≤ s.now → t.bootAt ≤ t.now

theorem grows_iff (s t : State) : Grows s t ↔
    t.pending = s.pending ∧ s.now ≤ t.now ∧ s.free ≤ t.free ∧ s.out <+: t.out ∧
      (Memory.wf s.mem.dram = true → Memory.wf t.mem.dram = true) ∧
      (WindowsFormed s.engines.windows → WindowsFormed t.engines.windows) ∧ (s.bootAt ≤ s.now → t.bootAt ≤ t.now) :=
  ⟨fun ⟨pending, now, free, sent, dram, windows, boot⟩ => ⟨pending, now, free, sent, dram, windows, boot⟩,
    fun ⟨pending, now, free, sent, dram, windows, boot⟩ => ⟨pending, now, free, sent, dram, windows, boot⟩⟩

/-- An answer that is a next state grows from s. -/
def GrowsTo (s : State) (a : Answer) : Prop := ∀ t, a = .next t → Grows s t

variable {s t u : State} {h : Hdr} {l : List Out} {n : Nat}
@[simp] theorem growsTo_next : GrowsTo s (.next t) ↔ Grows s t := by
  simp [GrowsTo]

theorem Grows.refl (s : State) : Grows s s := by simp [grows_iff]

theorem Grows.trans (h : Grows s t) (k : Grows t u) : Grows s u where
  pending := k.pending.trans h.pending
  now := Nat.le_trans h.now k.now
  free := Nat.le_trans h.free k.free
  sent := h.sent.trans k.sent
  dram := k.dram ∘ h.dram
  windows := k.windows ∘ h.windows
  boot := k.boot ∘ h.boot

/-- The clock runs on from where it stands. -/
@[simp] theorem now_le_max (a b : Nat) : a ≤ max a b := Nat.le_max_left a b

/-- What the clock had passed it has passed still. -/
@[simp] theorem passed_le_max (a b c : Nat) : (a ≤ b → a ≤ max b c) ↔ True :=
  ⟨fun _ => trivial, fun _ h => Nat.le_trans h (Nat.le_max_left b c)⟩

@[simp] theorem now_tick (k : Nat) : (s.tick k).now = max s.now k := rfl

theorem begin_grows {a : State} (hb : s.begin h = some a) : Grows s a := by
  simp [grows_iff, state_begin_some _ _ _ hb]

theorem finish_grows (c : Cpl) : Grows s (s.finish h c) := by
  simp [grows_iff]

theorem startWith_grows {gate : State → Option Status} {go : State → State} (k : ∀ a, Grows a (go a)) :
    Grows s (s.startWith h gate go) := by
  unfold State.startWith
  split
  · exact Grows.refl s
  next a hb =>
    refine (begin_grows hb).trans ?_
    split
    · exact finish_grows _
    · exact k a

theorem startAdmin_grows {gate : State → Option Status} {go : State → State} (k : ∀ a, Grows a (go a)) :
    Grows s (s.startAdmin h gate go) :=
  startWith_grows k

theorem run_grows {body : State → State × Cpl} (k : ∀ a, Grows a (body a).1) : Grows s (s.run h body) :=
  startAdmin_grows fun a => (k a).trans (finish_grows _)

theorem runRead_grows {body : State → State × Cpl} (k : ∀ a, Grows a (body a).1) : Grows s (s.runRead h body) :=
  startAdmin_grows fun a => (k a).trans (finish_grows _)

theorem buffered_grows {len : Nat} {body : State → State × Cpl} (k : Grows s (body s).1) :
    Grows s (s.buffered h len body).1 := by
  unfold State.buffered
  split
  · simp [grows_iff]
  · exact k

theorem runData_grows {len : Nat} {body : State → State × Cpl} (k : ∀ a, Grows a (body a).1) :
    Grows s (s.runData h len body) :=
  run_grows fun a => buffered_grows (k a)

theorem managerRun_grows {body : State → State × Cpl} (k : ∀ a, Grows a (body a).1) : Grows s (s.managerRun h body) :=
  run_grows fun a => by
    split
    · exact k a
    · exact Grows.refl a

theorem sanRun_grows {body : State → State × Cpl} (k : ∀ a, Grows a (body a).1) : Grows s (s.sanRun h body) :=
  managerRun_grows fun a => by
    split
    · exact Grows.refl a
    · exact k a

theorem keyRun_grows {len : Nat} {body : State → State × Cpl} (k : ∀ a, Grows a (body a).1) :
    Grows s (s.keyRun h len body) :=
  runData_grows fun a => by
    split
    · exact k a
    · exact Grows.refl a

theorem setFeature_grows {fid len : Nat} {sv : Bool} {body : State → State × Cpl} (k : ∀ a, Grows a (body a).1) :
    GrowsTo s (s.setFeature h fid sv body len) :=
  growsTo_next.mpr (runData_grows fun a => by
    split
    · exact Grows.refl a
    · exact k a)

theorem secRun_grows {body : State → State × Cpl} (k : ∀ a, Grows a (body a).1) : GrowsTo s (s.secRun h body) :=
  growsTo_next.mpr (run_grows fun a => by
    split
    · exact k a
    · exact Grows.refl a)

theorem sanStart_grows {go : State → State} (k : ∀ a, Grows a (go a)) : GrowsTo s (s.sanStart h go) :=
  growsTo_next.mpr (startAdmin_grows k)

theorem fwStart_grows {rom : Bool} {go : State → State} (k : ∀ a, Grows a (go a)) : GrowsTo s (s.fwStart h rom go) :=
  growsTo_next.mpr (startAdmin_grows k)

theorem keyStart_grows {len : Nat} {check : State → Option (State × Cpl)} {go : State → State}
    (checked : ∀ a e, check a = some e → Grows a e.1) (k : ∀ a, Grows a (go a)) :
    GrowsTo s (s.keyStart h len check go) :=
  growsTo_next.mpr (startAdmin_grows fun a => by
    (repeat' split)
    · exact finish_grows _
    · exact finish_grows _
    next b c he => exact (checked a (b, c) he).trans (finish_grows _)
    · exact k a)

theorem ioRun_grows {check : State → Option Status} {go : State → State} (k : ∀ a, Grows a (go a)) :
    GrowsTo s (s.ioRun h check go) := by
  unfold State.ioRun
  split
  · exact growsTo_next.mpr (Grows.refl s)
  next a hb =>
    split
    · refine growsTo_next.mpr ((begin_grows hb).trans ?_)
      split <;> simp [grows_iff]
    · exact growsTo_next.mpr ((begin_grows hb).trans (k a))

theorem launch_grows {cmd : Instr} {mods looks : List (Nat × Nat × Nat)} {go : State → State} (k : ∀ a, Grows a (go a)) :
    Grows s (s.launch h cmd mods looks go) := by
  unfold State.launch
  dsimp only
  (repeat' split)
  · simp [grows_iff]
  · simp [grows_iff]
  · exact Grows.trans (by simp [grows_iff]) (k _)

theorem atDigest_grows {k : DigestCore} {go : Nat → State} (g : ∀ n, Grows s (go n)) : GrowsTo s (s.atDigest k go) := by
  unfold State.atDigest
  split
  · exact growsTo_next.mpr (g _)
  · exact growsTo_next.mpr (Grows.refl s)

theorem powerOff_grows : Grows s s.powerOff := by
  have tested : (s.endTest 8).pending = s.pending := by simp
  unfold State.powerOff
  dsimp only
  split <;> simp [grows_iff, Memory.wf, Engines.reset, Mem.reset, WindowsFormed]

theorem tick_grows (k : Nat) : Grows s (s.tick k) where
  pending := rfl
  now := Nat.le_max_left ..
  free := Nat.le_refl _
  sent := List.prefix_rfl
  dram := id
  windows := id
  boot booted := Nat.le_trans booted (Nat.le_max_left ..)

theorem wakeAll_grows : Grows s s.wakeAll := by simp [grows_iff]

theorem settleAll_grows : Grows s s.settleAll := by simp [grows_iff]

theorem released_grows (s : State) : Grows s (if s.power.held then s else s.powerOff).wakeRom.loadValues := by
  have woken (a : State) : Grows a a.wakeRom.loadValues := by
    refine Grows.trans (t := a.wakeRom) ?_ (by simp [grows_iff])
    simp [grows_iff, State.wakeRom]
  split
  · exact woken s
  · exact powerOff_grows.trans (woken _)

theorem execPorstRelease_grows (e : BootEnv) : GrowsTo s (execPorstRelease e s) := by
  unfold execPorstRelease
  dsimp only
  split
  · exact growsTo_next.mpr (Grows.refl s)
  · have woken := released_grows s
    generalize ((if s.power.held then s else s.powerOff).wakeRom.loadValues) = a at *
    split
    · exact growsTo_next.mpr (woken.trans (by simp [grows_iff]))
    · refine growsTo_next.mpr ((woken.trans (t := a) (u := a.romChain e a.bootCause) (by simp [grows_iff])).trans ?_)
      simp +contextual [grows_iff]

theorem execPorstAssert_grows (lowNs : Nat) : GrowsTo s (execPorstAssert lowNs s) := by
  unfold execPorstAssert
  (repeat' split)
  · simp [grows_iff]
  · simp [grows_iff]
  · exact growsTo_next.mpr powerOff_grows

theorem execBrownOut_grows : GrowsTo s (execBrownOut s) := by
  unfold execBrownOut
  dsimp only
  split
  · simp [grows_iff]
  · exact growsTo_next.mpr (Grows.trans (by simp [grows_iff]) powerOff_grows)

theorem execCellSramUncorrectable_grows (w : BadWord) : GrowsTo s (execCellSramUncorrectable w s) := by
  unfold execCellSramUncorrectable
  simp +contextual [grows_iff]

theorem execLinkUnpark_grows (d : Fin 56) : GrowsTo s (execLinkUnpark d s) := by
  unfold execLinkUnpark
  simp +contextual [grows_iff]

theorem execLaneSpare_grows (x : Fin 12) (y : Fin 10) (port : Fin 4) (lane : Fin 4) :
    GrowsTo s (execLaneSpare x y port lane s) := by
  unfold execLaneSpare
  dsimp only
  (repeat' split) <;> simp +contextual [grows_iff]

theorem execFabricTimeout_grows (tag t : Nat) : GrowsTo s (execFabricTimeout tag t s) := by
  unfold execFabricTimeout
  dsimp only
  (repeat' split) <;> simp +contextual [grows_iff]

theorem execConfigPlaneMessage_grows (d : Fin 56) (m : CfgMsg) (airing : Bool) (failedAcks : Nat) :
    GrowsTo s (execConfigPlaneMessage d m airing failedAcks s) := by
  unfold execConfigPlaneMessage
  dsimp only
  (repeat' split) <;> simp +contextual [grows_iff]

theorem execPerstAssert_grows (p : Port) : GrowsTo s (execPerstAssert p s) := by
  unfold execPerstAssert
  dsimp only
  (repeat' split) <;> simp +contextual [grows_iff]

theorem execHotReset_grows (p : Port) : GrowsTo s (execHotReset p s) := by
  unfold execHotReset
  (repeat' split) <;> simp +contextual [grows_iff]

theorem execLinkDown_grows (p : Port) (t : Nat) : GrowsTo s (execLinkDown p t s) := by
  unfold execLinkDown
  (repeat' split) <;> simp +contextual [grows_iff]

theorem execFunctionLevelResetVf_grows (n : Fin 1024) : GrowsTo s (execFunctionLevelResetVf n s) := by
  unfold execFunctionLevelResetVf
  simp +contextual [grows_iff]

theorem execFunctionLevelResetPf_grows (p : Port) : GrowsTo s (execFunctionLevelResetPf p s) := by
  unfold execFunctionLevelResetPf
  dsimp only
  (repeat' split) <;> simp +contextual [grows_iff]

theorem execNvmSubsystemReset_grows : GrowsTo s (execNvmSubsystemReset s) := by
  unfold execNvmSubsystemReset
  simp +contextual [grows_iff]

theorem execFenceComplete_grows (f : Func) : GrowsTo s (execFenceComplete f s) := by
  unfold execFenceComplete
  dsimp only
  (repeat' split) <;> simp +contextual [grows_iff]

theorem execVfEnableClear_grows (p : Port) : GrowsTo s (execVfEnableClear p s) := by
  unfold execVfEnableClear
  dsimp only
  (repeat' split) <;> simp +contextual [grows_iff]

theorem execCcEnClearInstance_grows (n : Fin 1024) : GrowsTo s (execCcEnClearInstance n s) := by
  unfold execCcEnClearInstance
  (repeat' split) <;> simp +contextual [grows_iff]

theorem execCcEnClearManager_grows (p : Port) : GrowsTo s (execCcEnClearManager p s) := by
  unfold execCcEnClearManager
  (repeat' split) <;> simp +contextual [grows_iff]

theorem execSecondaryOffline_grows (h : Hdr) (cntlid rt nr : Nat) :
    GrowsTo s (execSecondaryOffline h cntlid rt nr s) := by
  unfold execSecondaryOffline
  refine growsTo_next.mpr (startAdmin_grows fun a => ?_)
  dsimp only
  (repeat' split) <;> simp +contextual [grows_iff]

theorem execOwnerTakeover_grows (acc : Accessor) (nsid t : Nat) : GrowsTo s (execOwnerTakeover acc nsid t s) := by
  have taken (a : State) : Grows a ((a.takeOver acc nsid).getD a) := by
    cases he : a.takeOver acc nsid with
    | none => exact Grows.refl a
    | some b => simp [grows_iff, state_takeOver_some _ _ _ _ he]
  unfold execOwnerTakeover
  cases acc with
  | pf0 => exact growsTo_next.mpr ((tick_grows t).trans (taken _))
  | pf1 => exact growsTo_next.mpr ((tick_grows t).trans (taken _))
  | port => exact growsTo_next.mpr (tick_grows t)
  | inst _ => exact growsTo_next.mpr (tick_grows t)

theorem execCommandFetch_grows (entries : List Sqe) : GrowsTo s (execCommandFetch entries s) := by
  unfold execCommandFetch
  dsimp only
  (repeat' split) <;> simp +contextual [grows_iff]

theorem execOverlapEntryGrant_grows : GrowsTo s (execOverlapEntryGrant s) := by
  unfold execOverlapEntryGrant
  dsimp only
  (repeat' split) <;> simp +contextual [grows_iff]

theorem execCompletionPost_grows (h : Hdr) : GrowsTo s (execCompletionPost h s) := by
  have posted : Grows s (s.postCmd h) := by simp [grows_iff]
  exact growsTo_next.mpr ((posted.trans wakeAll_grows).trans (by simp [grows_iff]))

theorem execWaitingEntryPost_grows (f : Func) (cqid : Nat) : GrowsTo s (execWaitingEntryPost f cqid s) := by
  have posted : Grows s (s.postWaiting f cqid) := by simp [grows_iff]
  exact growsTo_next.mpr ((posted.trans wakeAll_grows).trans (by simp [grows_iff]))

theorem execSummaryLineWrite_grows (f : Func) : GrowsTo s (execSummaryLineWrite f s) := by
  unfold execSummaryLineWrite
  (repeat' split) <;> simp +contextual [grows_iff]

theorem execInstanceSummaryWrite_grows (p : Port) (upper : Bool) :
    GrowsTo s (execInstanceSummaryWrite p upper s) := by
  unfold execInstanceSummaryWrite
  dsimp only
  (repeat' split) <;> simp +contextual [grows_iff]

theorem execFlush_grows (h : Hdr) (nsid : Nat) : GrowsTo s (execFlush h nsid s) := by
  exact ioRun_grows fun x => by simp +contextual [grows_iff]

theorem execWrite_grows (h : Hdr) (a : WriteArgs) : GrowsTo s (execWrite h a s) := by
  exact ioRun_grows fun x => launch_grows fun y => by simp +contextual [grows_iff]

theorem execRead_grows (h : Hdr) (a : ReadArgs) : GrowsTo s (execRead h a s) := by
  exact ioRun_grows fun x => launch_grows fun y => by simp +contextual [grows_iff]

theorem execCompare_grows (h : Hdr) (a : ReadArgs) : GrowsTo s (execCompare h a s) := by
  exact ioRun_grows fun x => launch_grows fun y => by simp +contextual [grows_iff]

theorem execVerify_grows (h : Hdr) (r : Range) (p : PrInfo) : GrowsTo s (execVerify h r p s) := by
  exact ioRun_grows fun x => launch_grows fun y => by simp +contextual [grows_iff]

theorem execCopy_grows (h : Hdr) (a : CopyArgs) : GrowsTo s (execCopy h a s) := by
  exact ioRun_grows fun x => launch_grows fun y => by simp +contextual [grows_iff]

theorem execZoneAppend_grows (h : Hdr) (a : WriteArgs) : GrowsTo s (execZoneAppend h a s) := by
  exact ioRun_grows fun x => launch_grows fun y => by simp +contextual [grows_iff]

theorem foldl_grows {α : Type} {g : State → α → State} {xs : List α} (k : ∀ a e, Grows a (g a e)) : Grows s (xs.foldl g s) := by
  induction xs generalizing s with
  | nil => exact Grows.refl s
  | cons x xs ih => exact (k s x).trans ih

theorem execReclaimUnitHandleUpdate_grows (h : Hdr) (nsid : Nat) (pids : List Nat) :
    GrowsTo s (execReclaimUnitHandleUpdate h nsid pids s) := by
  refine ioRun_grows fun a => ?_
  split
  · simp [grows_iff]
  · refine Grows.trans ?_ (finish_grows _)
    refine foldl_grows fun b p => ?_
    split
    · simp +contextual [grows_iff]
    · exact Grows.refl b

theorem execReclaimUnitHandleStatus_grows (h : Hdr) (nsid numd : Nat) :
    GrowsTo s (execReclaimUnitHandleStatus h nsid numd s) := by
  refine ioRun_grows fun a => ?_
  split <;> simp [grows_iff]

theorem actOn_grows {nsid : Nat} {act : State → Nat → Nat → Zone → Except Status State}
    (k : ∀ a nsid z y b, act a nsid z y = .ok b → Grows a b) {zs : List Nat} {a b : State}
    (he : State.actOn nsid act zs a = .ok b) : Grows a b := by
  induction zs generalizing a with
  | nil => cases he; exact Grows.refl _
  | cons z zs ih =>
    rw [State.actOn] at he
    split at he
    · cases he
    · split at he
      next c hc => exact (k _ _ _ _ _ hc).trans (ih he)
      · cases he

theorem zoneAction_grows {nsid slba : Nat} {all : Bool} {states : List ZState}
    {act : State → Nat → Nat → Zone → Except Status State} (k : ∀ a nsid z y b, act a nsid z y = .ok b → Grows a b) :
    GrowsTo s (s.zoneAction h nsid slba all states act) := by
  refine ioRun_grows fun a => ?_
  (repeat' split)
  · exact finish_grows _
  · exact finish_grows _
  next b he => exact (actOn_grows k he).trans (finish_grows _)

theorem execZoneFinish_grows (h : Hdr) (nsid slba : Nat) (all : Bool) :
    GrowsTo s (execZoneFinish h nsid slba all s) := by
  exact zoneAction_grows fun a nsid z y b he => by simp [grows_iff, state_finishZone_some _ _ _ _ _ he]

theorem execZoneReset_grows (h : Hdr) (nsid slba : Nat) (all : Bool) :
    GrowsTo s (execZoneReset h nsid slba all s) := by
  exact zoneAction_grows fun a nsid z y b he => by simp [grows_iff, state_resetZone_some _ _ _ _ _ he]

theorem execReportZones_grows (h : Hdr) (nsid slba filter : Nat) (part : Bool) (numd : Nat) :
    GrowsTo s (execReportZones h nsid slba filter part numd s) := by
  refine ioRun_grows fun a => ?_
  split <;> simp [grows_iff]

theorem execZoneDigestReport_grows (h : Hdr) (nsid slba filter : Nat) (part : Bool) (numd : Nat) :
    GrowsTo s (execZoneDigestReport h nsid slba filter part numd s) := by
  refine ioRun_grows fun a => ?_
  split <;> simp [grows_iff]

theorem samplerWindow_grows (h : Hdr) (advance : Bool) (offset numd : Nat) :
    GrowsTo s (execSamplerWindowLog h advance offset numd s) := by
  refine growsTo_next.mpr (runRead_grows fun z => buffered_grows ?_)
  dsimp only
  (repeat' split) <;> simp [grows_iff, refuse]

theorem execGetLogPage_grows (h : Hdr) (lid offset nsid numd : Nat) (rae : Bool) :
    GrowsTo s (execGetLogPage h lid offset nsid numd rae s) := by
  unfold execGetLogPage
  split
  · exact samplerWindow_grows h false offset numd
  · refine growsTo_next.mpr (runRead_grows fun z => buffered_grows ?_)
    dsimp only
    (repeat' split) <;> simp [grows_iff, refuse]

theorem execSamplerWindowLog_grows (h : Hdr) (advance : Bool) (offset numd : Nat) :
    GrowsTo s (execSamplerWindowLog h advance offset numd s) := by
  exact samplerWindow_grows h advance offset numd

theorem execIdentify_grows (h : Hdr) (cns nsid cntid csi : Nat) :
    GrowsTo s (execIdentify h cns nsid cntid csi s) := by
  refine growsTo_next.mpr (runRead_grows fun z => buffered_grows ?_)
  (repeat' split) <;> simp [grows_iff, refuse]

theorem execGetFeatures_grows (h : Hdr) (fid sel nsid dw11 : Nat) :
    GrowsTo s (execGetFeatures h fid sel nsid dw11 s) := by
  have answered (a : State) (len v : Nat) (w : List (Nat × Nat)) : Grows a (a.buffered h len fun b =>
      (b.emit (.reply h (.words w)), Cpl.ok0 v)).1 := buffered_grows (by simp [grows_iff])
  refine growsTo_next.mpr (runRead_grows fun a => ?_)
  dsimp only
  iterate 3 (split; · exact Grows.refl a)
  split
  · exact answered ..
  · exact Grows.refl a

theorem execSetNumberOfQueues_grows (h : Hdr) (sv : Bool) (nsqr ncqr : Nat) :
    GrowsTo s (execSetNumberOfQueues h sv nsqr ncqr s) := by
  refine setFeature_grows fun a => ?_
  dsimp only
  (repeat' split) <;> simp [grows_iff, refuse]

theorem execSetFdp_grows (h : Hdr) (sv enable : Bool) (config : Nat) :
    GrowsTo s (execSetFdp h sv enable config s) := by
  refine setFeature_grows fun a => ?_
  dsimp only
  (repeat' split) <;> simp [grows_iff, refuse]

theorem execSetFdpEvents_grows (h : Hdr) (sv enable : Bool) (types : List Nat) :
    GrowsTo s (execSetFdpEvents h sv enable types s) := by
  refine setFeature_grows fun a => ?_
  dsimp only
  (repeat' split) <;> simp [grows_iff, refuse]

theorem execSetCompletionSummaryLine_grows (h : Hdr) (sv en : Bool) (address cdw13 : Nat) :
    GrowsTo s (execSetCompletionSummaryLine h sv en address delay s) := by
  refine setFeature_grows fun a => ?_
  dsimp only
  (repeat' split) <;> simp [grows_iff, refuse]

theorem execSetInstanceSummary_grows (h : Hdr) (sv en : Bool) (address cdw13 : Nat) :
    GrowsTo s (execSetInstanceSummary h sv en address delay s) := by
  refine setFeature_grows fun a => ?_
  dsimp only
  (repeat' split) <;> simp [grows_iff, refuse]

theorem execSetSecureDiscard_grows (h : Hdr) (sv : Bool) (nsid : Nat) (en : Bool) :
    GrowsTo s (execSetSecureDiscard h sv nsid en s) := by
  refine setFeature_grows fun a => ?_
  dsimp only
  (repeat' split) <;> simp [grows_iff, refuse]

theorem execNamespaceCreate_grows (h : Hdr) (x : NsArgs) : GrowsTo s (execNamespaceCreate h a s) := by
  refine growsTo_next.mpr (sanRun_grows fun b => buffered_grows ?_)
  dsimp only
  (repeat' split) <;> simp [grows_iff, refuse]

theorem execNamespaceDelete_grows (h : Hdr) (nsid : Nat) : GrowsTo s (execNamespaceDelete h nsid s) := by
  refine sanStart_grows fun a => ?_
  (repeat' split) <;> simp [grows_iff]

theorem execNamespaceAttach_grows (h : Hdr) (nsid : Nat) (ctrls : List Nat) :
    GrowsTo s (execNamespaceAttach h nsid ctrls s) := by
  refine growsTo_next.mpr (sanRun_grows fun b => buffered_grows ?_)
  dsimp only
  (repeat' split) <;> simp [grows_iff, refuse]

theorem execNamespaceDetach_grows (h : Hdr) (nsid : Nat) (ctrls : List Nat) :
    GrowsTo s (execNamespaceDetach h nsid ctrls s) := by
  refine growsTo_next.mpr (sanRun_grows fun b => buffered_grows ?_)
  dsimp only
  (repeat' split) <;> simp [grows_iff, refuse]

theorem execFirmwareImageDownload_grows (h : Hdr) (offset bytes : Nat) (header : Option ImageHeader) :
    GrowsTo s (execFirmwareImageDownload h offset bytes header s) := by
  refine fwStart_grows fun a => ?_
  dsimp only
  (repeat' split) <;> simp +contextual [grows_iff]

/-- `State.commitImage` over any function that checks the image: with the checks a variable, the kernel does not evaluate
their comparisons with large numbers when it follows a branch. -/
def State.commitChecked (s : State) (h : Hdr) (slot : Nat) (c : ImageChecks) (done : State → Nat → ImageHeader → State)
    (fails : ImageHeader → Option (List Nat) → ImageChecks → Option Nat) : State :=
  match s.replaceSlot slot with
  | none => s.finish h (Cpl.of .invalidSlot)
  | some k =>
    let p := s.portOfFn h.fn
    let i := headerOf (s.stageWindow p)
    match fails i (some (s.stage p).granules) c with
    | some n => ((s.emptyStaging (portNum p)).refuseImage n k).finish h (Cpl.of (checkStatus n))
    | none => done ((s.emptyStaging (portNum p)).fillSlot k i) k i

section
variable {slot k : Nat} {c : ImageChecks} {done : State → Nat → ImageHeader → State}

theorem State.commitImage_eq_commitChecked : s.commitImage h slot c done = s.commitChecked h slot c done s.imageFails := rfl

theorem commitChecked_grows {fails : ImageHeader → Option (List Nat) → ImageChecks → Option Nat}
    (g : ∀ a n i, Grows a (done a n i)) : Grows s (s.commitChecked h slot c done fails) := by
  have emptied (p : Nat) : Grows s (s.emptyStaging p) := by simp +contextual [grows_iff]
  unfold State.commitChecked
  dsimp only
  (repeat' split)
  · exact finish_grows _
  · exact (emptied (portNum (s.portOfFn h.fn))).trans (by simp [grows_iff])
  · exact (emptied (portNum (s.portOfFn h.fn))).trans (Grows.trans (by simp [grows_iff]) (g _ _ _))

theorem commitImage_grows (g : ∀ a n i, Grows a (done a n i)) : Grows s (s.commitImage h slot c done) :=
  State.commitImage_eq_commitChecked ▸ commitChecked_grows g

end

theorem execFirmwareCommitReplace_grows (h : Hdr) (slot : Nat) (c : ImageChecks) :
    GrowsTo s (execFirmwareCommitReplace h slot c s) := by
  exact fwStart_grows fun a => commitImage_grows fun b k i => finish_grows _

theorem execFirmwareCommitReplaceActivateReset_grows (h : Hdr) (slot : Nat) (c : ImageChecks) :
    GrowsTo s (execFirmwareCommitReplaceActivateReset h slot c s) := by
  refine fwStart_grows fun a => commitImage_grows fun b k i => ?_
  split <;> simp +contextual [grows_iff]

theorem execFirmwareCommitActivateNow_grows (h : Hdr) (slot : Nat) (c : ImageChecks) :
    GrowsTo s (execFirmwareCommitActivateNow h slot c s) := by
  refine fwStart_grows fun a => commitImage_grows fun b k i => ?_
  dsimp only
  (repeat' split) <;> simp +contextual [grows_iff]

theorem execImageSwitch_grows : GrowsTo s (execImageSwitch s) := by
  unfold execImageSwitch
  (repeat' split)
  · exact growsTo_next.mpr (Grows.refl s)
  · exact growsTo_next.mpr (Grows.refl s)
  next k _ _ =>
    have running (a : State) : Grows a (a.pauseShuttles false) := by simp [grows_iff]
    have written (a : State) : Grows a a.writeAllLines.endPause :=
      Grows.trans (t := a.writeAllLines) (by simp [grows_iff]) (by simp [grows_iff])
    exact growsTo_next.mpr (((Grows.trans (by simp [grows_iff]) (running _))).trans (written _))

theorem execSelfTestStep_grows (segmentDone failed : Bool) (samples : List SampleEnd) (cellFail : Option (Fin 96)) (halt : Option HaltCause) :
    GrowsTo s (execSelfTestStep segmentDone failed samples cellFail halt s) := by
  unfold execSelfTestStep
  dsimp only
  (repeat' split) <;> simp +contextual [grows_iff]

theorem sanitizeCmd_grows (action : Nat) (abort ndas emvs ause : Bool) :
    GrowsTo s (s.sanitizeCmd h action abort ndas emvs ause) := by
  refine growsTo_next.mpr (managerRun_grows fun a => ?_)
  (repeat' split) <;> simp +contextual [grows_iff, refuse]

theorem execSanitizeBlockErase_grows (h : Hdr) (abort ndas emvs ause : Bool) :
    GrowsTo s (execSanitizeBlockErase h freezeAbort ndas emvs ause s) := by
  exact sanitizeCmd_grows _ _ _ _ _

theorem execSanitizeCryptoErase_grows (h : Hdr) (abort ndas emvs ause : Bool) :
    GrowsTo s (execSanitizeCryptoErase h freezeAbort ndas emvs ause s) := by
  exact sanitizeCmd_grows _ _ _ _ _

theorem execDictionaryRead_grows (h : Hdr) (index sub : Nat) (inForce : Bool) (count buflen : Nat) :
    GrowsTo s (execDictionaryRead h index sub inForce count buflen s) := by
  refine growsTo_next.mpr (runRead_grows fun z => ?_)
  split
  · exact Grows.refl z
  · exact buffered_grows (by simp [grows_iff])

theorem execDictionaryWrite_grows (h : Hdr) (len : Nat) (recs : List DictRec) (cellFails : List (Fin 96)) :
    GrowsTo s (execDictionaryWrite h len recs cellFails s) := by
  refine growsTo_next.mpr (run_grows fun z => ?_)
  split
  · exact Grows.refl z
  · exact buffered_grows (by simp [grows_iff])

theorem staingCommit_grows {action : Nat} {go : State → Nat × State} (k : ∀ a, Grows a (go a).2) :
    Grows s (s.staingCommit action go) := by
  unfold State.staingCommit
  split
  · split
    · exact Grows.refl s
    · split
      · exact (k s).trans (by simp [grows_iff])
      · split
        · simp [grows_iff]
        · exact Grows.refl s
  · exact Grows.refl s

theorem execCommit_grows (by' : CommitBy) (cellFails : List (Fin 96)) : GrowsTo s (execCommit by' cellFails s) := by
  unfold execCommit
  split
  · exact growsTo_next.mpr (managerRun_grows fun a => by simp [grows_iff])
  · refine growsTo_next.mpr ?_
    split <;> simp [grows_iff]
  · exact growsTo_next.mpr (staingCommit_grows fun a => by simp [grows_iff])

theorem execDiscard_grows (by' : CommitBy) : GrowsTo s (execDiscard by' s) := by
  unfold execDiscard
  split
  · exact growsTo_next.mpr (managerRun_grows fun a => by simp [grows_iff])
  · refine growsTo_next.mpr ?_
    split <;> simp [grows_iff]
  · exact growsTo_next.mpr (staingCommit_grows fun a => by simp [grows_iff])

theorem execObjectWrite_grows (acc : Accessor) (r : DictRec) (cellFails : List (Fin 96)) :
    GrowsTo s (execObjectWrite acc r cellFails s) := by
  unfold execObjectWrite
  simp +contextual [grows_iff]

theorem execRestoreDefaults_grows (acc : Accessor) (on : Bool) : GrowsTo s (execRestoreDefaults acc on s) := by
  unfold execRestoreDefaults
  simp +contextual [grows_iff]

theorem execFreezeInstance_grows (h : Hdr) (n : Nat) : GrowsTo s (execFreezeInstance h n s) := by
  unfold execFreezeInstance
  refine growsTo_next.mpr (startAdmin_grows fun a => ?_)
  (repeat' split) <;> simp +contextual [grows_iff]

theorem execFreezeComplete_grows (n : Fin 1024) : GrowsTo s (execFreezeComplete n s) := by
  unfold execFreezeComplete
  dsimp only
  (repeat' split) <;> simp +contextual [grows_iff]

theorem execSaveInstanceState_grows (h : Hdr) (n : Nat) : GrowsTo s (execSaveInstanceState h n s) := by
  refine growsTo_next.mpr (managerRun_grows fun a => ?_)
  dsimp only
  (repeat' split)
  · exact Grows.refl a
  · simp +contextual [grows_iff, cellsStore_wf [] _ _ rfl]
  · exact Grows.refl a

theorem execResumeInstance_grows (h : Hdr) (n : Nat) : GrowsTo s (execResumeInstance h n s) := by
  refine growsTo_next.mpr (managerRun_grows fun a => ?_)
  (repeat' split) <;> simp +contextual [grows_iff, refuse]

theorem execDirtyEnWrite_grows (acc : Accessor) (n : Fin 1024) (on : Bool) :
    GrowsTo s (execDirtyEnWrite acc n on s) := by
  unfold execDirtyEnWrite
  split
  · cases he : s.setTracking n.val on with
    | none => exact growsTo_next.mpr (Grows.refl s)
    | some b => simp [grows_iff, state_setTracking_some _ _ _ _ he]
  · exact growsTo_next.mpr (Grows.refl s)

theorem execDirtyBitsRead_grows (acc : Accessor) (n : Fin 1024) : GrowsTo s (execDirtyBitsRead acc n s) := by
  unfold execDirtyBitsRead
  dsimp only
  (repeat' split) <;> simp +contextual [grows_iff]

theorem execFramePlannedEnd_grows (t late : Nat) : GrowsTo s (execFramePlannedEnd t late s) := by
  unfold execFramePlannedEnd
  dsimp only
  (repeat' split) <;> simp +contextual [grows_iff]

theorem execLateWorkHandover_grows (t : Nat) : GrowsTo s (execLateWorkHandover t s) := by
  unfold execLateWorkHandover
  dsimp only
  simp +contextual [grows_iff]

theorem execFrameBoundary_grows (t : Nat) : GrowsTo s (execFrameBoundary t s) := by
  unfold execFrameBoundary
  dsimp only
  (repeat' split) <;> simp +contextual [grows_iff]

theorem execChunkAdmit_grows (c : ChunkOf) : GrowsTo s (execChunkAdmit c s) := by
  unfold execChunkAdmit
  (repeat' split) <;> simp +contextual [grows_iff]

theorem execOperationIssue_grows (t : Nat) : GrowsTo s (execOperationIssue t s) := by
  unfold execOperationIssue
  dsimp only
  (repeat' split) <;> simp +contextual [grows_iff]

theorem execOperationReady_grows (lun : Fin 4096) (ok : Bool) (t : Nat) :
    GrowsTo s (execOperationReady lun ok t s) := by
  unfold execOperationReady
  dsimp only
  (repeat' split) <;> simp +contextual [grows_iff]

theorem execReadyTimeout_grows (lun : Fin 4096) (resetReady : Bool) (t : Nat) :
    GrowsTo s (execReadyTimeout lun resetReady t s) := by
  unfold execReadyTimeout
  simp +contextual [grows_iff]

theorem execChannelPhyFault_grows (ch : Fin 64) : GrowsTo s (execChannelPhyFault ch s) := by
  unfold execChannelPhyFault
  simp +contextual [grows_iff]

theorem execSuspendReported_grows (lun : Fin 4096) (suspended : Bool) (t : Nat) :
    GrowsTo s (execSuspendReported lun suspended t s) := by
  unfold execSuspendReported
  dsimp only
  (repeat' split) <;> simp +contextual [grows_iff]

theorem execSuspendTimeout_grows (lun : Fin 4096) (resetReady : Bool) (t : Nat) :
    GrowsTo s (execSuspendTimeout lun resetReady t s) := by
  unfold execSuspendTimeout
  dsimp only
  (repeat' split) <;> simp +contextual [grows_iff]

theorem execZoneAgeExpiry_grows (nsid zone t : Nat) : GrowsTo s (execZoneAgeExpiry nsid zone t s) := by
  unfold execZoneAgeExpiry
  dsimp only
  (repeat' split) <;> simp +contextual [grows_iff]

theorem execReclaimUnitTimeLimit_grows (ruh group t : Nat) : GrowsTo s (execReclaimUnitTimeLimit ruh group t s) := by
  unfold execReclaimUnitTimeLimit
  dsimp only
  (repeat' split) <;> simp +contextual [grows_iff]

theorem execSecureEraseDue_grows (lun : Fin 4096) (block : Nat) (ok : Bool) (t : Nat) :
    GrowsTo s (execSecureEraseDue lun block ok t s) := by
  unfold execSecureEraseDue
  dsimp only
  (repeat' split) <;> simp +contextual [grows_iff]

theorem execMergeWaitExpiry_grows (slot t : Nat) : GrowsTo s (execMergeWaitExpiry slot t s) := by
  unfold execMergeWaitExpiry
  dsimp only
  (repeat' split) <;> simp +contextual [grows_iff]

theorem execUnitProgramDone_grows (slot : Nat) : GrowsTo s (execUnitProgramDone slot s) := by
  unfold execUnitProgramDone
  (repeat' split) <;> simp +contextual [grows_iff]

theorem execProgramFailure_grows (slot : Nat) : GrowsTo s (execProgramFailure slot s) := by
  unfold execProgramFailure
  simp +contextual [grows_iff]

theorem execJournalTimerExpiry_grows (t : Nat) : GrowsTo s (execJournalTimerExpiry t s) := by
  unfold execJournalTimerExpiry
  dsimp only
  (repeat' split) <;> simp +contextual [grows_iff]

theorem execJournalPageDurable_grows (seq : Nat) : GrowsTo s (execJournalPageDurable seq s) := by
  unfold execJournalPageDurable
  dsimp only
  (repeat' split) <;> simp +contextual [grows_iff]

theorem execJournalCopyFailure_grows (seq : Nat) (copy : Fin 2) (blockLeft : Bool) :
    GrowsTo s (execJournalCopyFailure seq copy blockLeft s) := by
  unfold execJournalCopyFailure
  dsimp only
  split
  · exact growsTo_next.mpr (Grows.refl s)
  next p _ =>
    generalize start : (p.places[copy.val]?.elim ((s.bump Obj.blocksRetired).takeSpares 1) fun m => s.retireSystem m.1 m.2) = s0
    have retired : Grows s s0 := by
      subst start
      cases p.places[copy.val]? <;> simp [grows_iff]
    (repeat' split) <;> exact growsTo_next.mpr (retired.trans (by simp [grows_iff]))

theorem execCheckpointPass_grows (nsid segment t : Nat) : GrowsTo s (execCheckpointPass nsid segment t s) := by
  unfold execCheckpointPass
  dsimp only
  (repeat' split) <;> simp +contextual [grows_iff]

theorem execTargetStripeComplete_grows (stripe : Nat) : GrowsTo s (execTargetStripeComplete stripe s) := by
  have relocated (t : Stripe) : Grows s (t.moved.foldl State.relocate (s.closeStripe stripe)) := by
    simp [grows_iff]
  have copied (t : Stripe) := (relocated t).trans (foldl_grows (xs := t.sources) (g := fun a i => match a.stripe? i with
      | some q => a.setStripe i { q with relocPage := a.lastPage }
      | none => a) fun a i => by split <;> simp [grows_iff])
  have stored (a : State) (q : Stripe) : Grows a (a.setStripe stripe q) := by simp [grows_iff]
  unfold execTargetStripeComplete
  dsimp only
  split
  · exact growsTo_next.mpr (Grows.refl s)
  next t _ =>
    split
    · exact growsTo_next.mpr (Grows.refl s)
    · refine growsTo_next.mpr (Grows.trans ?_ settleAll_grows)
      split
      · exact (copied t).trans (stored _ _)
      · exact copied t

theorem execTargetProgramFailure_grows (stripe : Nat) (member : Nat) :
    GrowsTo s (execTargetProgramFailure stripe member s) := by
  unfold execTargetProgramFailure
  simp +contextual [grows_iff]

theorem execEraseFailure_grows (lun : Fin 4096) (block : Nat) : GrowsTo s (execEraseFailure lun block s) := by
  unfold execEraseFailure
  simp +contextual [grows_iff]

theorem execSpareAdd_grows (acc : Accessor) (count : Nat) : GrowsTo s (execSpareAdd acc count s) := by
  have added : Grows s ((s.addSpares count).getD s) := by
    cases he : s.addSpares count with
    | none => exact Grows.refl s
    | some b => simp [grows_iff, state_addSpares_some _ _ _ he]
  unfold execSpareAdd
  cases acc with
  | inst _ => exact growsTo_next.mpr (Grows.refl s)
  | pf0 => exact growsTo_next.mpr added
  | pf1 => exact growsTo_next.mpr added
  | port => exact growsTo_next.mpr added

theorem execSecureDiscardDue_grows (stripe t : Nat) : GrowsTo s (execSecureDiscardDue stripe t s) := by
  have ticked := tick_grows (s := s) t
  unfold execSecureDiscardDue
  dsimp only
  (repeat' split)
  · exact growsTo_next.mpr ticked
  · exact growsTo_next.mpr ticked
  · exact fun u hu => ticked.trans (by simp [grows_iff, execSourceStripeErase_next _ _ u hu])
  · exact growsTo_next.mpr (ticked.trans (by simp [grows_iff]))

theorem execStripeClose_grows (stripe : Nat) : GrowsTo s (execStripeClose stripe s) := by
  unfold execStripeClose
  (repeat' split) <;> simp +contextual [grows_iff]

theorem execMemberReplaced_grows (stripe : Nat) (member : Nat) : GrowsTo s (execMemberReplaced stripe member s) := by
  unfold execMemberReplaced
  dsimp only
  (repeat' split) <;> simp +contextual [grows_iff]

theorem execCodewordDecode_grows (rd : Nat) (cw : Fin 4) (e : DecodeEnd) :
    GrowsTo s (execCodewordDecode rd cw e s) := by
  unfold execCodewordDecode
  dsimp only
  (repeat' split) <;> simp +contextual [grows_iff]

theorem execRinseStep_grows (lun : Fin 4096) (block : Nat) (failBits : List Nat) (leftStep1 : Bool) (t : Nat) :
    GrowsTo s (execRinseStep lun block failBits leftStep1 t s) := by
  unfold execRinseStep
  dsimp only
  (repeat' split) <;> simp +contextual [grows_iff]

theorem execSramScrub_grows (mem : Fin 4) (address : Nat) (bad : List (Fin 80)) :
    GrowsTo s (execSramScrub mem address bad s) := by
  unfold execSramScrub
  dsimp only
  (repeat' split) <;> simp +contextual [grows_iff]

theorem execDramRequest_grows (op : DramOp) (errs : DramErrors) : GrowsTo s (execDramRequest op errs s) := by
  unfold execDramRequest
  simp +contextual [grows_iff]

theorem execDramTimeout_grows (ch : Fin 4) : GrowsTo s (execDramTimeout ch s) := by
  unfold execDramTimeout
  (repeat' split) <;> simp +contextual [grows_iff]

theorem execDramRecentre_grows (ch : Fin 4) (rank : Fin 4) (celsius : Int) (window : Nat) (retrainOk : Bool) (t : Nat) :
    GrowsTo s (execDramRecentre ch rank celsius window retrainOk t s) := by
  unfold execDramRecentre
  dsimp only
  (repeat' split) <;> simp +contextual [grows_iff]

theorem execRefreshDue_grows (ch : Fin 4) (rank : Fin 4) (t : Nat) : GrowsTo s (execRefreshDue ch rank t s) := by
  unfold execRefreshDue
  dsimp only
  (repeat' split) <;> simp +contextual [grows_iff]

theorem execRefreshPostponeLimit_grows (ch : Fin 4) (rank : Fin 4) (t : Nat) :
    GrowsTo s (execRefreshPostponeLimit ch rank t s) := by
  unfold execRefreshPostponeLimit
  dsimp only
  (repeat' split) <;> simp +contextual [grows_iff]

theorem execCipherMessageDone_grows (k : Core) (rd : Option Nat) (tag : ComparePair) :
    GrowsTo s (execCipherMessageDone k rd tag s) := by
  unfold execCipherMessageDone
  dsimp only
  (repeat' split) <;> simp +contextual [grows_iff]

theorem execCounterReservationDurable_grows (slot : Fin 4096) : GrowsTo s (execCounterReservationDurable slot s) := by
  unfold execCounterReservationDurable
  dsimp only
  (repeat' split) <;> simp +contextual [grows_iff]

theorem execImportTransportKek_grows (h : Hdr) (b : KeyBlob) : GrowsTo s (execImportTransportKek h b s) := by
  refine growsTo_next.mpr (keyRun_grows fun a => ?_)
  (repeat' split) <;> simp [grows_iff, refuse]

theorem execSetNamespaceKey_grows (h : Hdr) (b : KeyBlob) : GrowsTo s (execSetNamespaceKey h b s) := by
  refine keyStart_grows (fun a e he => ?_) fun a => by simp [grows_iff]
  (repeat' split at he) <;> cases he <;> simp [grows_iff, refuse]

theorem execGenerateNamespaceKey_grows (h : Hdr) (nsid : Nat) : GrowsTo s (execGenerateNamespaceKey h nsid s) := by
  refine keyStart_grows (fun a e he => ?_) fun a => by simp [grows_iff]
  (repeat' split at he) <;> cases he <;> simp [grows_iff, refuse]

theorem execKeyStatusReceive_grows (h : Hdr) (nsid : Nat) : GrowsTo s (execKeyStatusReceive h nsid s) := by
  refine growsTo_next.mpr (keyRun_grows fun a => ?_)
  (repeat' split) <;> simp [grows_iff, refuse]

theorem execKeyPerIoInject_grows (h : Hdr) (b : KeyBlob) : GrowsTo s (execKeyPerIoInject h b s) := by
  refine growsTo_next.mpr (runData_grows fun a => ?_)
  dsimp only
  (repeat' split) <;> simp [grows_iff, refuse]

theorem execKeyEraseDue_grows (slot : Fin 4096) (t : Nat) : GrowsTo s (execKeyEraseDue slot t s) := by
  unfold execKeyEraseDue
  dsimp only
  (repeat' split) <;> simp +contextual [grows_iff]

theorem execDigestFeed_grows (k : DigestCore) (bytes : List Byte) : GrowsTo s (execDigestFeed k bytes s) := by
  refine atDigest_grows fun n => ?_
  dsimp only
  (repeat' split) <;> simp [grows_iff]

theorem execDigestCompare_grows (k : DigestCore) (expected : List Byte) (len : Nat) :
    GrowsTo s (execDigestCompare k expected len s) := by
  refine atDigest_grows fun n => ?_
  dsimp only
  (repeat' split) <;> simp [grows_iff]

theorem execDigestSave_grows (k : DigestCore) (nsid zone : Nat) : GrowsTo s (execDigestSave k nsid zone s) := by
  refine atDigest_grows fun n => ?_
  dsimp only
  (repeat' split) <;> simp [grows_iff]

theorem execShuttleTailWrite_grows (c : ShuttleId) (v : Nat) : GrowsTo s (execShuttleTailWrite c v s) := by
  unfold execShuttleTailWrite
  dsimp only
  (repeat' split) <;> simp +contextual [grows_iff]

theorem execShuttleEnable_grows (c : ShuttleId) (ringBase recordAddr ringLog2 : Nat) :
    GrowsTo s (execShuttleEnable c ringBase recordAddr ringLog2 s) := by
  unfold execShuttleEnable
  dsimp only
  (repeat' split) <;> simp +contextual [grows_iff]

theorem execShuttlePauseWrite_grows (c : ShuttleId) (on : Bool) : GrowsTo s (execShuttlePauseWrite c on s) := by
  unfold execShuttlePauseWrite
  dsimp only
  (repeat' split) <;> simp +contextual [grows_iff]

theorem execDescriptorRead_grows (c : ShuttleId) (d : ShuttleDesc) (e : ReadEnd) :
    GrowsTo s (execDescriptorRead c d e s) := by
  unfold execDescriptorRead
  dsimp only
  (repeat' split) <;> simp +contextual [grows_iff]

theorem execDescriptorDone_grows (c : ShuttleId) (bytes : List Byte) : GrowsTo s (execDescriptorDone c bytes s) := by
  unfold execDescriptorDone
  dsimp only
  split
  · exact growsTo_next.mpr (Grows.refl s)
  next d _ =>
    split
    · exact growsTo_next.mpr (Grows.refl s)
    · have landed : Grows s (s.moved c d (s.shuttle c).remain (bytes.take (s.shuttle c).remain)) := by
        simp +contextual [grows_iff]
      refine growsTo_next.mpr (landed.trans ?_)
      split <;> simp [grows_iff]

theorem execShuttlePaused_grows (c : ShuttleId) (bytes : List Byte) : GrowsTo s (execShuttlePaused c bytes s) := by
  unfold execShuttlePaused
  dsimp only
  (repeat' split) <;> simp +contextual [grows_iff]

theorem execShuttleHalt_grows (c : ShuttleId) (code : Nat) (bytes : List Byte) :
    GrowsTo s (execShuttleHalt c code bytes s) := by
  unfold execShuttleHalt
  dsimp only
  (repeat' split) <;> simp +contextual [grows_iff]

theorem execDomainStopRequest_grows (d : Fin 56) : GrowsTo s (execDomainStopRequest d s) := by
  unfold execDomainStopRequest
  dsimp only
  (repeat' split) <;> simp +contextual [grows_iff]

theorem execDomainStopped_grows (d : Fin 56) : GrowsTo s (execDomainStopped d s) := by
  unfold execDomainStopped
  dsimp only
  (repeat' split) <;> simp +contextual [grows_iff]

theorem execDomainRefusal_grows (d : Fin 56) : GrowsTo s (execDomainRefusal d s) := by
  unfold execDomainRefusal
  dsimp only
  (repeat' split) <;> simp +contextual [grows_iff]

theorem execSleepEntryStart_grows (t : Nat) : GrowsTo s (execSleepEntryStart t s) := by
  unfold execSleepEntryStart
  dsimp only
  (repeat' split) <;> simp +contextual [grows_iff]

theorem execRefusalHoldExpiry_grows (t : Nat) : GrowsTo s (execRefusalHoldExpiry t s) := by
  unfold execRefusalHoldExpiry
  dsimp only
  (repeat' split) <;> simp +contextual [grows_iff]

theorem execApstIdleExpiry_grows (p : Port) (t : Nat) : GrowsTo s (execApstIdleExpiry p t s) := by
  unfold execApstIdleExpiry
  dsimp only
  (repeat' split) <;> simp +contextual [grows_iff]

theorem execPcieActivityWake_grows (p : Port) (ranks : List (Fin 4 × DramTraining)) :
    GrowsTo s (execPcieActivityWake p ranks s) := by
  unfold execPcieActivityWake
  (repeat' split) <;> simp +contextual [grows_iff]

theorem execWakeFrame_grows (magicOk : Bool) (serial : Nat) (ranks : List (Fin 4 × DramTraining)) :
    GrowsTo s (execWakeFrame magicOk serial ranks s) := by
  unfold execWakeFrame
  (repeat' split) <;> simp +contextual [grows_iff]

theorem execManagementFrameWake_grows (d : Option Datagram) : GrowsTo s (execManagementFrameWake d s) := by
  unfold execManagementFrameWake
  dsimp only
  (repeat' split) <;> simp +contextual [grows_iff]

theorem execAiringStep_grows (t : Nat) (skipped : List (Fin 4)) (failBits : List (Nat × Nat × Bool)) (readable : Bool) :
    GrowsTo s (execAiringStep t skipped failBits readable s) := by
  unfold execAiringStep
  dsimp only
  (repeat' split) <;> simp +contextual [grows_iff]

theorem execSamplerBufferWake_grows (ranks : List (Fin 4 × DramTraining)) :
    GrowsTo s (execSamplerBufferWake ranks s) := by
  unfold execSamplerBufferWake
  dsimp only
  (repeat' split) <;> simp +contextual [grows_iff]

theorem execPwrfailAssert_grows (lowUs t : Nat) : GrowsTo s (execPwrfailAssert lowUs t s) := by
  unfold execPwrfailAssert
  dsimp only
  (repeat' split) <;> simp +contextual [grows_iff]

theorem execDumpComplete_grows (us : Nat) : GrowsTo s (execDumpComplete us s) := by
  unfold execDumpComplete
  dsimp only
  split
  · refine growsTo_next.mpr ?_
    split
    · exact Grows.trans (by simp [grows_iff]) powerOff_grows
    · simp [grows_iff]
  · simp [grows_iff]

theorem execPwrfailReturn_grows : GrowsTo s (execPwrfailReturn s) := by
  unfold execPwrfailReturn
  (repeat' split) <;> simp +contextual [grows_iff]

theorem execSensorReading_grows (t : Nat) (temps : List Int) (diode : DiodeState) (tenths : Int) :
    GrowsTo s (execSensorReading t temps diode tenths s) := by
  unfold execSensorReading
  dsimp only
  simp +contextual [grows_iff]

theorem execPwrfailClassify_grows (c : PwrfailClass) (t : Nat) : GrowsTo s (execPwrfailClassify c t s) := by
  unfold execPwrfailClassify
  simp +contextual [grows_iff]

theorem execRateBucketRefill_grows (code t : Nat) : GrowsTo s (execRateBucketRefill code t s) := by
  unfold execRateBucketRefill
  dsimp only
  (repeat' split) <;> simp +contextual [grows_iff]

theorem execSamplerFlushTimer_grows (t : Nat) : GrowsTo s (execSamplerFlushTimer t s) := by
  unfold execSamplerFlushTimer
  dsimp only
  (repeat' split) <;> simp +contextual [grows_iff]

theorem execWindowSlotRead_grows (acc : Accessor) (slot : Fin 16) : GrowsTo s (execWindowSlotRead acc slot s) := by
  unfold execWindowSlotRead
  dsimp only
  (repeat' split) <;> simp +contextual [grows_iff]

theorem execStaingDatagram_grows (d : Datagram) : GrowsTo s (execStaingDatagram d s) := by
  unfold execStaingDatagram
  (repeat' split) <;> simp +contextual [grows_iff]

theorem execStaingRead_grows (seq : Nat) (reqs : List ReadReq) : GrowsTo s (execStaingRead seq reqs s) := by
  unfold execStaingRead
  dsimp only
  (repeat' split) <;> simp +contextual [grows_iff]

theorem execStaingWrite_grows (seq : Nat) (recs : List DictRec) (cellFails : List (Fin 96)) :
    GrowsTo s (execStaingWrite seq recs cellFails s) := by
  unfold execStaingWrite
  dsimp only
  (repeat' split) <;> simp +contextual [grows_iff]

theorem execStaingEcho_grows (seq : Nat) : GrowsTo s (execStaingEcho seq s) := by
  unfold execStaingEcho
  (repeat' split) <;> simp +contextual [grows_iff]

theorem execNeighborSolicitation_grows (f : IpFrame) : GrowsTo s (execNeighborSolicitation f s) := by
  unfold execNeighborSolicitation
  (repeat' split) <;> simp +contextual [grows_iff]

theorem execEchoRequest_grows (f : IpFrame) : GrowsTo s (execEchoRequest f s) := by
  unfold execEchoRequest
  (repeat' split) <;> simp +contextual [grows_iff]

theorem execPairDiagnosis_grows (st : PairState) (wire vFault : Nat) (reversed : Bool) (t : Nat) :
    GrowsTo s (execPairDiagnosis st wire vFault reversed t s) := by
  unfold execPairDiagnosis
  simp +contextual [grows_iff]

theorem execLoopMeasurement_grows (t presFwd presRev sealFwd sealRev : Nat) :
    GrowsTo s (execLoopMeasurement t presFwd presRev sealFwd sealRev s) := by
  unfold execLoopMeasurement
  dsimp only
  (repeat' split) <;> simp +contextual [grows_iff]

theorem execPresenceWindowExpiry_grows (t : Nat) : GrowsTo s (execPresenceWindowExpiry t s) := by
  unfold execPresenceWindowExpiry
  dsimp only
  (repeat' split) <;> simp +contextual [grows_iff]

theorem execRootKeyReset_grows (h : Hdr) : GrowsTo s (execRootKeyReset h s) := by
  refine secRun_grows fun a => ?_
  (repeat' split) <;> simp +contextual [grows_iff, refuse]

theorem execDebugChallenge_grows (h : Hdr) : GrowsTo s (execDebugChallenge h s) := by
  refine secRun_grows fun a => ?_
  dsimp only
  (repeat' split) <;> simp +contextual [grows_iff, refuse]

theorem execDebugUnlock_grows (h : Hdr) (k : DebugToken) : GrowsTo s (execDebugUnlock h k s) := by
  refine secRun_grows fun a => ?_
  dsimp only
  (repeat' split) <;> simp +contextual [grows_iff, refuse]

theorem execEntropySample_grows (bit : Bool) : GrowsTo s (execEntropySample bit s) := by
  unfold execEntropySample
  dsimp only
  (repeat' split) <;> simp +contextual [grows_iff]

theorem execDrbgReseed_grows (ok : Bool) : GrowsTo s (execDrbgReseed ok s) := by
  unfold execDrbgReseed
  (repeat' split) <;> simp +contextual [grows_iff]

theorem execShutdownNotification_grows (f : Func) : GrowsTo s (execShutdownNotification f s) := by
  unfold execShutdownNotification
  dsimp only
  (repeat' split) <;> simp +contextual [grows_iff]

theorem exec_grows (c : Instr) (s : State) : GrowsTo s (exec c s) := by
  cases c with
  | porstRelease e => exact execPorstRelease_grows e
  | porstAssert lowNs => exact execPorstAssert_grows lowNs
  | brownOut => exact execBrownOut_grows
  | validBitGranuleFill => exact fun t ht => by simp [grows_iff, execValidBitGranuleFill_next _ t ht]
  | workItemPost w => exact fun t ht => by simp [grows_iff, execWorkItemPost_next w _ t ht]
  | workItemRepost p tag => exact fun t ht => by simp [grows_iff, execWorkItemRepost_next p tag _ t ht]
  | cellWorkTake c => exact fun t ht => by simp [grows_iff, execCellWorkTake_next c _ t ht]
  | workItemResult c p tag ok => exact fun t ht => by simp [grows_iff, execWorkItemResult_next c p tag ok _ t ht]
  | sequencerWatchdogExpiry c => exact fun t ht => by simp [grows_iff, execSequencerWatchdogExpiry_next c _ t ht]
  | cellSramUncorrectable w => exact execCellSramUncorrectable_grows w
  | linkUnpark d => exact execLinkUnpark_grows d
  | fabricPacket x y inPort p errs => exact fun t ht => by simp [grows_iff, execFabricPacket_next x y inPort p errs _ t ht]
  | laneSpare x y port lane => exact execLaneSpare_grows x y port lane
  | fabricAccept tag => exact fun t ht => by simp [grows_iff, execFabricAccept_next tag _ t ht]
  | fabricTimeout tag t => exact execFabricTimeout_grows tag t
  | configPlaneMessage d m airing failedAcks => exact execConfigPlaneMessage_grows d m airing failedAcks
  | cellDrained c => exact fun t ht => by simp [grows_iff, execCellDrained_next c _ t ht]
  | perstAssert p => exact execPerstAssert_grows p
  | hotReset p => exact execHotReset_grows p
  | linkDown p t => exact execLinkDown_grows p t
  | linkTrained p rate width flit laneRev polInv => exact fun t ht => by simp [grows_iff, execLinkTrained_next p rate width flit laneRev polInv _ t ht]
  | functionLevelResetVf n => exact execFunctionLevelResetVf_grows n
  | functionLevelResetPf p => exact execFunctionLevelResetPf_grows p
  | nvmSubsystemReset => exact execNvmSubsystemReset_grows
  | fenceComplete f => exact execFenceComplete_grows f
  | vfEnableSet p => exact fun t ht => by simp [grows_iff, execVfEnableSet_next p _ t ht]
  | vfEnableClear p => exact execVfEnableClear_grows p
  | numVfsWrite p n => exact fun t ht => by simp [grows_iff, execNumVfsWrite_next p n _ t ht]
  | ccEnSet f wrr mps asqs acqs asq acq => exact fun t ht => by simp [grows_iff, execCcEnSet_next f wrr mps asqs acqs asq acq _ t ht]
  | ccEnClearInstance n => exact execCcEnClearInstance_grows n
  | ccEnClearManager p => exact execCcEnClearManager_grows p
  | secondaryOnline h cntlid rt nr => exact fun t ht => by simp [grows_iff, execSecondaryOnline_next h cntlid rt nr _ t ht]
  | secondaryOffline h cntlid rt nr => exact execSecondaryOffline_grows h cntlid rt nr
  | secondaryAssign h cntlid rt nr => exact fun t ht => by simp [grows_iff, execSecondaryAssign_next h cntlid rt nr _ t ht]
  | primaryFlexibleAllocation h rt nr => exact fun t ht => by simp [grows_iff, execPrimaryFlexibleAllocation_next h rt nr _ t ht]
  | ownerTakeover acc nsid t => exact execOwnerTakeover_grows acc nsid t
  | maxRateWrite acc rate => exact fun t ht => by simp [grows_iff, execMaxRateWrite_next acc rate _ t ht]
  | createIoCompletionQueue h a => exact fun t ht => by simp [grows_iff, execCreateIoCompletionQueue_next h a _ t ht]
  | createIoSubmissionQueue h a => exact fun t ht => by simp [grows_iff, execCreateIoSubmissionQueue_next h a _ t ht]
  | deleteIoCompletionQueue h qid => exact fun t ht => by simp [grows_iff, execDeleteIoCompletionQueue_next h qid _ t ht]
  | deleteIoSubmissionQueue h qid => exact fun t ht => by simp [grows_iff, execDeleteIoSubmissionQueue_next h qid _ t ht]
  | sqTailDoorbell f qid value => exact fun t ht => by simp [grows_iff, execSqTailDoorbell_next f qid value _ t ht]
  | cqHeadDoorbell f qid value => exact fun t ht => by simp [grows_iff, execCqHeadDoorbell_next f qid value _ t ht]
  | commandFetch entries => exact execCommandFetch_grows entries
  | overlapEntryGrant => exact execOverlapEntryGrant_grows
  | completionPost h => exact execCompletionPost_grows h
  | waitingEntryPost f cqid => exact execWaitingEntryPost_grows f cqid
  | summaryLineWrite f => exact execSummaryLineWrite_grows f
  | instanceSummaryWrite p upper => exact execInstanceSummaryWrite_grows p upper
  | flush h nsid => exact execFlush_grows h nsid
  | write h a => exact execWrite_grows h a
  | read h a => exact execRead_grows h a
  | writeUncorrectable h r => exact fun t ht => by simp [grows_iff, execWriteUncorrectable_next h r _ t ht]
  | compare h a => exact execCompare_grows h a
  | writeZeroes h r deac => exact fun t ht => by simp [grows_iff, execWriteZeroes_next h r deac _ t ht]
  | datasetManagement h nsid deallocate ranges => exact fun t ht => by simp [grows_iff, execDatasetManagement_next h nsid deallocate ranges _ t ht]
  | verify h r p => exact execVerify_grows h r p
  | copy h a => exact execCopy_grows h a
  | zoneAppend h a => exact execZoneAppend_grows h a
  | reclaimUnitHandleUpdate h nsid pids => exact execReclaimUnitHandleUpdate_grows h nsid pids
  | reclaimUnitHandleStatus h nsid numd => exact execReclaimUnitHandleStatus_grows h nsid numd
  | zoneClose h nsid slba all => exact fun t ht => by simp [grows_iff, execZoneClose_next h nsid slba all _ t ht]
  | zoneFinish h nsid slba all => exact execZoneFinish_grows h nsid slba all
  | zoneOpen h nsid slba all => exact fun t ht => by simp [grows_iff, execZoneOpen_next h nsid slba all _ t ht]
  | zoneReset h nsid slba all => exact execZoneReset_grows h nsid slba all
  | zoneOffline h nsid slba all => exact fun t ht => by simp [grows_iff, execZoneOffline_next h nsid slba all _ t ht]
  | secureReset h nsid slba all => exact fun t ht => by simp [grows_iff, execSecureReset_next h nsid slba all _ t ht]
  | reportZones h nsid slba filter part numd => exact execReportZones_grows h nsid slba filter part numd
  | zoneDigestReport h nsid slba filter part numd => exact execZoneDigestReport_grows h nsid slba filter part numd
  | abort h sqid cid => exact fun t ht => by simp [grows_iff, execAbort_next h sqid cid _ t ht]
  | asynchronousEventRequest h => exact fun t ht => by simp [grows_iff, execAsynchronousEventRequest_next h _ t ht]
  | getLogPage h lid offset nsid numd rae => exact execGetLogPage_grows h lid offset nsid numd rae
  | samplerWindowLog h advance offset numd => exact execSamplerWindowLog_grows h advance offset numd
  | identify h cns nsid cntid csi => exact execIdentify_grows h cns nsid cntid csi
  | getFeatures h fid sel nsid dw11 => exact execGetFeatures_grows h fid sel nsid dw11
  | setArbitration h sv burst lpw mpw hpw => exact fun t ht => by simp [grows_iff, execSetArbitration_next h sv burst lpw mpw hpw _ t ht]
  | setPowerManagement h sv ps wh => exact fun t ht => by simp [grows_iff, execSetPowerManagement_next h sv ps wh _ t ht]
  | setTemperatureThreshold h sv under kelvin => exact fun t ht => by simp [grows_iff, execSetTemperatureThreshold_next h sv under kelvin _ t ht]
  | setErrorRecovery h sv tler dulbe => exact fun t ht => by simp [grows_iff, execSetErrorRecovery_next h sv tler dulbe _ t ht]
  | setVolatileWriteCache h sv wce => exact fun t ht => by simp [grows_iff, execSetVolatileWriteCache_next h sv wce _ t ht]
  | setNumberOfQueues h sv nsqr ncqr => exact execSetNumberOfQueues_grows h sv nsqr ncqr
  | setInterruptCoalescing h sv dw11 => exact fun t ht => by simp [grows_iff, execSetInterruptCoalescing_next h sv dw11 _ t ht]
  | setInterruptVectorConfiguration h sv iv cd => exact fun t ht => by simp [grows_iff, execSetInterruptVectorConfiguration_next h sv iv cd _ t ht]
  | setWriteAtomicityNormal h sv dn => exact fun t ht => by simp [grows_iff, execSetWriteAtomicityNormal_next h sv dn _ t ht]
  | setAsyncEventConfiguration h sv dw11 => exact fun t ht => by simp [grows_iff, execSetAsyncEventConfiguration_next h sv dw11 _ t ht]
  | setAutonomousPowerStateTransition h sv enable table => exact fun t ht => by simp [grows_iff, execSetAutonomousPowerStateTransition_next h sv enable table _ t ht]
  | setTimestamp h sv ms => exact fun t ht => by simp [grows_iff, execSetTimestamp_next h sv ms _ t ht]
  | setFdp h sv enable config => exact execSetFdp_grows h sv enable config
  | setFdpEvents h sv enable types => exact execSetFdpEvents_grows h sv enable types
  | setCompletionSummaryLine h sv en address delay => exact execSetCompletionSummaryLine_grows h sv en address delay
  | setInstanceSummary h sv en address delay => exact execSetInstanceSummary_grows h sv en address delay
  | setSecureDiscard h sv nsid en => exact execSetSecureDiscard_grows h sv nsid en
  | namespaceCreate h a => exact execNamespaceCreate_grows h a
  | namespaceDelete h nsid => exact execNamespaceDelete_grows h nsid
  | namespaceAttach h nsid ctrls => exact execNamespaceAttach_grows h nsid ctrls
  | namespaceDetach h nsid ctrls => exact execNamespaceDetach_grows h nsid ctrls
  | formatNvm h nsid flbas dps => exact fun t ht => by simp [grows_iff, execFormatNvm_next h nsid flbas dps _ t ht]
  | firmwareImageDownload h offset bytes header => exact execFirmwareImageDownload_grows h offset bytes header
  | firmwareCommitReplace h slot c => exact execFirmwareCommitReplace_grows h slot c
  | firmwareCommitReplaceActivateReset h slot c => exact execFirmwareCommitReplaceActivateReset_grows h slot c
  | firmwareCommitActivateReset h slot c => exact fun t ht => by simp [grows_iff, execFirmwareCommitActivateReset_next h slot c _ t ht]
  | firmwareCommitActivateNow h slot c => exact execFirmwareCommitActivateNow_grows h slot c
  | imageSwitch => exact execImageSwitch_grows
  | deviceSelfTestShort h nsid => exact fun t ht => by simp [grows_iff, execDeviceSelfTestShort_next h nsid _ t ht]
  | deviceSelfTestExtended h nsid => exact fun t ht => by simp [grows_iff, execDeviceSelfTestExtended_next h nsid _ t ht]
  | deviceSelfTestAbort h => exact fun t ht => by simp [grows_iff, execDeviceSelfTestAbort_next h _ t ht]
  | selfTestStep segmentDone failed samples cellFail halt => exact execSelfTestStep_grows segmentDone failed samples cellFail halt
  | sanitizeExitFailureMode h => exact fun t ht => by simp [grows_iff, execSanitizeExitFailureMode_next h _ t ht]
  | sanitizeBlockErase h freezeAbort ndas emvs ause => exact execSanitizeBlockErase_grows h freezeAbort ndas emvs ause
  | sanitizeCryptoErase h freezeAbort ndas emvs ause => exact execSanitizeCryptoErase_grows h freezeAbort ndas emvs ause
  | sanitizeEnd failed => exact fun t ht => by simp [grows_iff, execSanitizeEnd_next failed _ t ht]
  | dictionaryRead h index sub inForce count buflen => exact execDictionaryRead_grows h index sub inForce count buflen
  | dictionaryWrite h len recs cellFails => exact execDictionaryWrite_grows h len recs cellFails
  | commit by' cellFails => exact execCommit_grows by' cellFails
  | discard by' => exact execDiscard_grows by'
  | objectWrite acc r cellFails => exact execObjectWrite_grows acc r cellFails
  | restoreDefaults acc on => exact execRestoreDefaults_grows acc on
  | freezeInstance h n => exact execFreezeInstance_grows h n
  | freezeDrainTimeout n => exact fun t ht => by simp [grows_iff, execFreezeDrainTimeout_next n _ t ht]
  | freezeComplete n => exact execFreezeComplete_grows n
  | saveInstanceState h n => exact execSaveInstanceState_grows h n
  | restoreInstanceState h n => exact fun t ht => by simp [grows_iff, execRestoreInstanceState_next h n _ t ht]
  | resumeInstance h n => exact execResumeInstance_grows h n
  | dirtyEnWrite acc n on => exact execDirtyEnWrite_grows acc n on
  | dirtyBitsRead acc n => exact execDirtyBitsRead_grows acc n
  | framePlannedEnd t late => exact execFramePlannedEnd_grows t late
  | lateWorkHandover t => exact execLateWorkHandover_grows t
  | frameBoundary t => exact execFrameBoundary_grows t
  | chunkAdmit c => exact execChunkAdmit_grows c
  | progAgePromote lun op => exact fun t ht => by simp [grows_iff, execProgAgePromote_next lun op _ t ht]
  | operationIssue t => exact execOperationIssue_grows t
  | operationReady lun ok t => exact execOperationReady_grows lun ok t
  | readyTimeout lun resetReady t => exact execReadyTimeout_grows lun resetReady t
  | channelPhyFault ch => exact execChannelPhyFault_grows ch
  | suspendReported lun suspended t => exact execSuspendReported_grows lun suspended t
  | suspendTimeout lun resetReady t => exact execSuspendTimeout_grows lun resetReady t
  | readAroundReconstruct rd ok payloads => exact fun t ht => by simp [grows_iff, execReadAroundReconstruct_next rd ok payloads _ t ht]
  | contractWindowEnd n measured => exact fun t ht => by simp [grows_iff, execContractWindowEnd_next n measured _ t ht]
  | channelRecentre ch celsius window => exact fun t ht => by simp [grows_iff, execChannelRecentre_next ch celsius window _ t ht]
  | zoneAgeExpiry nsid zone t => exact execZoneAgeExpiry_grows nsid zone t
  | reclaimUnitTimeLimit ruh group t => exact execReclaimUnitTimeLimit_grows ruh group t
  | secureEraseDue lun block ok t => exact execSecureEraseDue_grows lun block ok t
  | mergeWaitExpiry slot t => exact execMergeWaitExpiry_grows slot t
  | unitProgramDone slot => exact execUnitProgramDone_grows slot
  | programFailure slot => exact execProgramFailure_grows slot
  | journalTimerExpiry t => exact execJournalTimerExpiry_grows t
  | journalPageDurable seq => exact execJournalPageDurable_grows seq
  | journalCopyFailure seq copy blockLeft => exact execJournalCopyFailure_grows seq copy blockLeft
  | checkpointPass nsid segment t => exact execCheckpointPass_grows nsid segment t
  | segmentCopyDurable nsid segment => exact fun t ht => by simp [grows_iff, execSegmentCopyDurable_next nsid segment _ t ht]
  | foldStart => exact fun t ht => by simp [grows_iff, execFoldStart_next _ t ht]
  | mangleStart group => exact fun t ht => by simp [grows_iff, execMangleStart_next group _ t ht]
  | targetStripeComplete stripe => exact execTargetStripeComplete_grows stripe
  | targetProgramFailure stripe member => exact execTargetProgramFailure_grows stripe member
  | sourceStripeErase stripe => exact fun t ht => by simp [grows_iff, execSourceStripeErase_next stripe _ t ht]
  | eraseFailure lun block => exact execEraseFailure_grows lun block
  | spareAdd acc count => exact execSpareAdd_grows acc count
  | secureDiscardDue stripe t => exact execSecureDiscardDue_grows stripe t
  | stripeClose stripe => exact execStripeClose_grows stripe
  | memberReplaced stripe member => exact execMemberReplaced_grows stripe member
  | codewordDecode rd cw e => exact execCodewordDecode_grows rd cw e
  | rinseStep lun block failBits leftStep1 t => exact execRinseStep_grows lun block failBits leftStep1 t
  | disturbCountReached lun block => exact fun t ht => by simp [grows_iff, execDisturbCountReached_next lun block _ t ht]
  | fullPassWrite acc on => exact fun t ht => by simp [grows_iff, execFullPassWrite_next acc on _ t ht]
  | sramScrub mem address bad => exact execSramScrub_grows mem address bad
  | logClear acc => exact fun t ht => by simp [grows_iff, execLogClear_next acc _ t ht]
  | dramRequest op errs => exact execDramRequest_grows op errs
  | dramTimeout ch => exact execDramTimeout_grows ch
  | dramRecentre ch rank celsius window retrainOk t => exact execDramRecentre_grows ch rank celsius window retrainOk t
  | refreshDue ch rank t => exact execRefreshDue_grows ch rank t
  | refreshPostponeLimit ch rank t => exact execRefreshPostponeLimit_grows ch rank t
  | mr4Poll ch hot => exact fun t ht => by simp [grows_iff, execMr4Poll_next ch hot _ t ht]
  | dramPatrol ch address errs => exact fun t ht => by simp [grows_iff, execDramPatrol_next ch address errs _ t ht]
  | cipherLockClaim k id => exact fun t ht => by simp [grows_iff, execCipherLockClaim_next k id _ t ht]
  | cipherRequestSteer c id => exact fun t ht => by simp [grows_iff, execCipherRequestSteer_next c id _ t ht]
  | cipherMessageDone k rd tag => exact execCipherMessageDone_grows k rd tag
  | maskReseed k blocks reseeded => exact fun t ht => by simp [grows_iff, execMaskReseed_next k blocks reseeded _ t ht]
  | counterReservationDurable slot => exact execCounterReservationDurable_grows slot
  | keyCacheFill c k firstOk secondOk => exact fun t ht => by simp [grows_iff, execKeyCacheFill_next c k firstOk secondOk _ t ht]
  | keySlotReload slot copyReadable => exact fun t ht => by simp [grows_iff, execKeySlotReload_next slot copyReadable _ t ht]
  | importTransportKek h b => exact execImportTransportKek_grows h b
  | setNamespaceKey h b => exact execSetNamespaceKey_grows h b
  | generateNamespaceKey h nsid => exact execGenerateNamespaceKey_grows h nsid
  | destroyTransportKek h index => exact fun t ht => by simp [grows_iff, execDestroyTransportKek_next h index _ t ht]
  | keyStatusReceive h nsid => exact execKeyStatusReceive_grows h nsid
  | keyPerIoInject h b => exact execKeyPerIoInject_grows h b
  | keyPerIoClear h nsid tag => exact fun t ht => by simp [grows_iff, execKeyPerIoClear_next h nsid tag _ t ht]
  | keyEraseDue slot t => exact execKeyEraseDue_grows slot t
  | digestStart k alg hmac key => exact fun t ht => by simp [grows_iff, execDigestStart_next k alg hmac key _ t ht]
  | digestFeed k bytes => exact execDigestFeed_grows k bytes
  | digestFinish k => exact fun t ht => by simp [grows_iff, execDigestFinish_next k _ t ht]
  | digestRead k => exact fun t ht => by simp [grows_iff, execDigestRead_next k _ t ht]
  | digestCompare k expected len => exact execDigestCompare_grows k expected len
  | digestSave k nsid zone => exact execDigestSave_grows k nsid zone
  | digestRestore k nsid zone saved => exact fun t ht => by simp [grows_iff, execDigestRestore_next k nsid zone saved _ t ht]
  | shuttleTailWrite c v => exact execShuttleTailWrite_grows c v
  | shuttleEnable c ringBase recordAddr ringLog2 => exact execShuttleEnable_grows c ringBase recordAddr ringLog2
  | shuttleDisable c => exact fun t ht => by simp [grows_iff, execShuttleDisable_next c _ t ht]
  | shuttlePauseWrite c on => exact execShuttlePauseWrite_grows c on
  | shuttleClear c => exact fun t ht => by simp [grows_iff, execShuttleClear_next c _ t ht]
  | descriptorRead c d e => exact execDescriptorRead_grows c d e
  | descriptorDone c bytes => exact execDescriptorDone_grows c bytes
  | shuttlePaused c bytes => exact execShuttlePaused_grows c bytes
  | shuttleHalt c code bytes => exact execShuttleHalt_grows c code bytes
  | bufferAllocate pool h agent linkOk => exact fun t ht => by simp [grows_iff, execBufferAllocate_next pool h agent linkOk _ t ht]
  | referenceIncrement pool buf f => exact fun t ht => by simp [grows_iff, execReferenceIncrement_next pool buf f _ t ht]
  | referenceDecrement pool buf f fence => exact fun t ht => by simp [grows_iff, execReferenceDecrement_next pool buf f fence _ t ht]
  | bufferWaitServed pool => exact fun t ht => by simp [grows_iff, execBufferWaitServed_next pool _ t ht]
  | domainStopRequest d => exact execDomainStopRequest_grows d
  | domainStopped d => exact execDomainStopped_grows d
  | domainRefusal d => exact execDomainRefusal_grows d
  | sleepEntryStart t => exact execSleepEntryStart_grows t
  | refusalHoldExpiry t => exact execRefusalHoldExpiry_grows t
  | apstIdleExpiry p t => exact execApstIdleExpiry_grows p t
  | pcieActivityWake p ranks => exact execPcieActivityWake_grows p ranks
  | wakeFrame magicOk serial ranks => exact execWakeFrame_grows magicOk serial ranks
  | managementFrameWake d => exact execManagementFrameWake_grows d
  | airingStep t skipped failBits readable => exact execAiringStep_grows t skipped failBits readable
  | samplerBufferWake ranks => exact execSamplerBufferWake_grows ranks
  | pwrfailAssert lowUs t => exact execPwrfailAssert_grows lowUs t
  | dumpComplete us => exact execDumpComplete_grows us
  | pwrfailReturn => exact execPwrfailReturn_grows
  | sensorReading t temps diode tenths => exact execSensorReading_grows t temps diode tenths
  | holdupSenseSample mv => exact fun t ht => by simp [grows_iff, execHoldupSenseSample_next mv _ t ht]
  | pwrfailClassify c t => exact execPwrfailClassify_grows c t
  | recordEnter code subject domain params => exact fun t ht => by simp [grows_iff, execRecordEnter_next code subject domain params _ t ht]
  | rateBucketRefill code t => exact execRateBucketRefill_grows code t
  | samplerFlush => exact fun t ht => by simp [grows_iff, execSamplerFlush_next _ t ht]
  | samplerFlushTimer t => exact execSamplerFlushTimer_grows t
  | samplerFlushDone fails => exact fun t ht => by simp [grows_iff, execSamplerFlushDone_next fails _ t ht]
  | windowSlotRead acc slot => exact execWindowSlotRead_grows acc slot
  | cursorAdvance acc => exact fun t ht => by simp [grows_iff, execCursorAdvance_next acc _ t ht]
  | samplerClear acc => exact fun t ht => by simp [grows_iff, execSamplerClear_next acc _ t ht]
  | staingDatagram d => exact execStaingDatagram_grows d
  | staingRead seq reqs => exact execStaingRead_grows seq reqs
  | staingWrite seq recs cellFails => exact execStaingWrite_grows seq recs cellFails
  | staingEcho seq => exact execStaingEcho_grows seq
  | neighborSolicitation f => exact execNeighborSolicitation_grows f
  | echoRequest f => exact execEchoRequest_grows f
  | pairDiagnosis st wire vFault reversed t => exact execPairDiagnosis_grows st wire vFault reversed t
  | loopMeasurement t presFwd presRev sealFwd sealRev => exact execLoopMeasurement_grows t presFwd presRev sealFwd sealRev
  | presenceWindowExpiry t => exact execPresenceWindowExpiry_grows t
  | factoryEntry h => exact fun t ht => by simp [grows_iff, execFactoryEntry_next h _ t ht]
  | rootKeyReset h => exact execRootKeyReset_grows h
  | debugChallenge h => exact execDebugChallenge_grows h
  | debugUnlock h k => exact execDebugUnlock_grows h k
  | managementKeyProvisioning h b => exact fun t ht => by simp [grows_iff, execManagementKeyProvisioning_next h b _ t ht]
  | entropySample bit => exact execEntropySample_grows bit
  | drbgReseed ok => exact execDrbgReseed_grows ok
  | hostMemoryReadCompletion h e => exact fun t ht => by simp [grows_iff, execHostMemoryReadCompletion_next h e _ t ht]
  | completionTimeout h => exact fun t ht => by simp [grows_iff, execCompletionTimeout_next h _ t ht]
  | shutdownNotification f => exact execShutdownNotification_grows f
  | invalidCommandOpcode h opcode action => exact fun t ht => by simp [grows_iff, execInvalidCommandOpcode_next h opcode action _ t ht]

theorem Grows.kept (g : Grows s t) (k : Kept s) : Kept t := by
  obtain ⟨dram, windows, boot⟩ := k
  exact ⟨g.dram dram, g.windows windows, g.boot boot⟩

theorem kept_with_pending (rest : List Instr) (k : Kept s) : Kept { s with pending := rest } := k

/-- Settles O58: a step runs its front command on a state that is kept as before but for the queue, and every command
grows its state, which keeps memory and clock. -/
theorem stepKeepsMemoryAndClock : Obligations.StepKeepsMemoryAndClock := by
  intro s t kept ht
  unfold step at ht
  split at ht
  · cases ht
    exact kept
  next c rest _ => exact (exec_grows c _ t ht).kept (kept_with_pending rest kept)

/-- Settles O60, command by command. -/
theorem commandsOnlyAddToWhatWasSent : Obligations.CommandsOnlyAddToWhatWasSent := by
  intro c s t ht
  obtain ⟨pending, now, free, ⟨l, sent⟩, -, -, -⟩ := exec_grows c s t ht
  exact ⟨pending, now, free, l, sent.symm⟩

/-- Settles O56: both clauses are the two branches of a step. -/
theorem stepRunsTheFrontCommand : Obligations.StepRunsTheFrontCommand :=
  ⟨fun _ _ _ => rfl, fun s idle => by rw [step, idle]⟩

/-- Settles O59: memory and windows list nothing after reset, and clock and boot are both 0. -/
theorem resetMeetsWhatStepsKeep : Obligations.ResetMeetsWhatStepsKeep := by
  refine ⟨rfl, ?_, Nat.le_refl _⟩
  intro e listed
  cases listed

theorem reset_fn (f : Func) : State.reset.fn f = Fn.default f.code := rfl

/-- Settles O57: each table of the reset state is empty, so every look-up answers its default. -/
theorem resetHoldsDefaultsAndNothingElse : Obligations.ResetHoldsDefaultsAndNothingElse := by
  refine ⟨fun _ _ _ => rfl, rfl, rfl, rfl, fun n => ?_, fun _ => ⟨rfl, rfl, rfl⟩, rfl, rfl, rfl, rfl, rfl, rfl, rfl, rfl, rfl,
    rfl, fun _ => ⟨rfl, rfl⟩⟩
  simp [reset_fn, Func.code, Fn.default, Fn.init]

end Sys2Proof.Machine
end

section
/-! Functions and command contexts: what each of their operations changes, and what it leaves (R90, R106). -/
namespace Sys2Proof.Machine

/-- Two states with the same parts are the same. -/
theorem State.ext_parts {s t : State} : s = t ↔
    s.dict = t.dict ∧ s.modes = t.modes ∧ s.sampler = t.sampler ∧ s.cells = t.cells ∧ s.host = t.host ∧
      s.sched = t.sched ∧ s.flash = t.flash ∧ s.store = t.store ∧ s.power = t.power ∧ s.mem = t.mem ∧
      s.cipher = t.cipher ∧ s.engines = t.engines ∧ s.admin = t.admin ∧ s.staing = t.staing ∧
      s.security = t.security ∧ s.migration = t.migration ∧ s.pending = t.pending ∧ s.now = t.now ∧
      s.bootAt = t.bootAt ∧ s.free = t.free ∧ s.out = t.out := by
  constructor
  · rintro rfl
    exact ⟨rfl, rfl, rfl, rfl, rfl, rfl, rfl, rfl, rfl, rfl, rfl, rfl, rfl, rfl, rfl, rfl, rfl, rfl, rfl, rfl, rfl⟩
  · cases s
    cases t
    simp only [State.mk.injEq]
    exact id

theorem Func.code_inj {f g : Func} (h : f.code = g.code) : f = g := by
  cases f <;> cases g <;> simp [Func.code] at h <;> first | rfl | omega | exact congrArg Func.inst (Fin.ext h)

section
variable {s : State} {f : Func} {h : Hdr} {c : Ctx}

@[simp] theorem State.fn_setFn_same (x : Fn) : (s.setFn f x).fn f = x :=
  State.fnAt_setFnAt_same s f.code x

theorem State.fn_setFn_ne (x : Fn) {g : Func} (n : g ≠ f) : (s.setFn f x).fn g = s.fn g :=
  State.fnAt_setFnAt_ne s x fun e => n (Func.code_inj e)

@[simp] theorem State.fn_modFn_same (g : Fn → Fn) : (s.modFn f g).fn f = g (s.fn f) :=
  State.fn_setFn_same _

theorem State.fn_modFn_ne (g : Fn → Fn) {e : Func} (n : e ≠ f) : (s.modFn f g).fn e = s.fn e :=
  State.fn_setFn_ne _ n

theorem State.ctx_hdr (hc : s.ctx? h = some c) : c.hdr = h := by
  simpa [Ctx.is] using List.find?_some hc

theorem State.ctx_mem (hc : s.ctx? h = some c) : c ∈ s.host.ctxs :=
  List.mem_of_find?_eq_some hc

/-- The context of a command after contexts were changed one by one, each under its own command. -/
theorem find_map_ctx (l : List Ctx) (g : Ctx → Ctx) (same : ∀ c, (g c).hdr = c.hdr) :
    (l.map g).find? (·.is h) = (l.find? (·.is h)).map g := by
  rw [List.find?_map]
  congr 1
  exact congrArg (List.find? · l) (funext fun c => by simp [Ctx.is, same])

theorem State.ctx_modCtx (g : Ctx → Ctx) (same : ∀ c, (g c).hdr = c.hdr) (k : Hdr) :
    (s.modCtx h g).ctx? k = (s.ctx? k).map fun c => if c.is h then g c else c :=
  find_map_ctx _ _ fun c => by split <;> simp [same]

theorem State.ctx_modCtx_same (g : Ctx → Ctx) (same : ∀ c, (g c).hdr = c.hdr) (hc : s.ctx? h = some c) :
    (s.modCtx h g).ctx? h = some (g c) := by
  simp [State.ctx_modCtx g same, hc, Ctx.is, State.ctx_hdr hc]

theorem State.ctx_modCtx_ne (g : Ctx → Ctx) (same : ∀ c, (g c).hdr = c.hdr) {k : Hdr} (n : k ≠ h) :
    (s.modCtx h g).ctx? k = s.ctx? k := by
  rw [State.ctx_modCtx g same]
  cases hc : s.ctx? k with
  | none => rfl
  | some c => simp [Ctx.is, State.ctx_hdr hc, n]

/-- A context with a completion: the first one stays. -/
def Ctx.ended (c : Ctx) (k : Cpl) (no : Nat) : Ctx :=
  if c.done = none then { c with done := some k, doneNo := no, wait := .none, cmd := none, chunks := [] } else c

@[simp] theorem Ctx.ended_hdr (c : Ctx) (k : Cpl) (no : Nat) : (c.ended k no).hdr = c.hdr := by
  unfold Ctx.ended
  split <;> rfl

theorem Ctx.ended_done (c : Ctx) (k : Cpl) (no : Nat) : (c.ended k no).done = some (c.done.getD k) := by
  unfold Ctx.ended
  cases hd : c.done <;> simp [hd]

theorem State.ctx_finish_same (k : Cpl) (hc : s.ctx? h = some c) :
    (s.finish h k).ctx? h = some (c.ended k s.host.dones) :=
  State.ctx_modCtx_same (fun x => x.ended k s.host.dones) (fun _ => Ctx.ended_hdr ..) hc

theorem State.ctx_finish_ne (k : Cpl) {g : Hdr} (n : g ≠ h) : (s.finish h k).ctx? g = s.ctx? g :=
  State.ctx_modCtx_ne (fun x => x.ended k s.host.dones) (fun _ => Ctx.ended_hdr ..) n

/-- A command without a completion ends with the one it is given. -/
theorem State.ended_finish (k : Cpl) (hc : s.ctx? h = some c) (hd : c.done = none) :
    ∃ d, (s.finish h k).ctx? h = some d ∧ d.done = some k :=
  ⟨_, State.ctx_finish_same k hc, by rw [Ctx.ended_done, hd]; rfl⟩

@[simp] theorem State.finish_fn (k : Cpl) : (s.finish h k).fn f = s.fn f := rfl

@[simp] theorem State.modCtx_fn (g : Ctx → Ctx) : (s.modCtx h g).fn f = s.fn f := rfl

@[simp] theorem State.setFn_ctx (x : Fn) : (s.setFn f x).ctx? h = s.ctx? h := rfl

/-- What a command that begins finds: its own context, not begun before, of the present generation. -/
theorem State.begin_ctx {a : State} (hb : s.begin h = some a) : ∃ c, s.ctx? h = some c ∧ c.done = none ∧ c.begun = false ∧
    c.gen = (s.fn h.fn).gen ∧ a = s.modCtx h fun x => { x with begun := true } := by
  unfold State.begin at hb
  split at hb
  · cases hb
  · split at hb
    next c hc =>
      split at hb
      next ready =>
        obtain ⟨gen, done, begun, -⟩ := ready
        cases hb
        exact ⟨c, hc, done, begun, gen, rfl⟩
      · cases hb
    · cases hb

/-- The context of a command that has begun: open, with its mark. -/
theorem State.ctx_of_begin {a : State} (hb : s.begin h = some a) : ∃ c, a.ctx? h = some c ∧ c.done = none := by
  obtain ⟨c, hc, done, -, -, rfl⟩ := State.begin_ctx hb
  exact ⟨_, State.ctx_modCtx_same _ (fun _ => rfl) hc, done⟩

end

end Sys2Proof.Machine
end

section
/-! Cells at work: taking, returning and draining (R14, R16, R39), and faults (R15, R41, R42). -/
namespace Sys2Proof.Machine

section
variable {s : State} {c : Fin 96} {w : WorkItem}

theorem execCellWorkTake_of_next {k : Nat} {rest : List WorkItem} (released : s.cells.released = true)
    (active : s.cellState c.val = 1) (room : (s.cell c.val).items.length < 40)
    (next : s.nextItem (s.cellRole c.val) (takeOrder (cellQuadrant c.val)) = some (k, w, rest)) (fresh : s.staleWork w = false) :
    exec (.cellWorkTake c) s = .next ((s.setQueue k rest).setCell c.val
      { s.cell c.val with items := (s.cell c.val).items ++ [w], lane := (s.cell c.val).lane ++ w.laneOp }) := by
  show execCellWorkTake c s = _
  unfold execCellWorkTake
  simp [released, active, cellBuffers, room, next, fresh]

theorem State.returnItem_of_fresh (fresh : s.staleWork w = false) :
    s.returnItem w true = { s with cells := { s.cells with results := s.cells.results ++ [(w.prod, w.tag, true)] } } := by
  simp [State.returnItem, fresh]

end

/-- Settles O2: the first queue that holds an item is the one `nextItem` finds; results are appended one by one. -/
theorem cellTakesAndReturnsWork : Obligations.CellTakesAndReturnsWork := by
  refine ⟨fun c s q before after w rest released active room order empty holds fresh => ?_,
    fun c p tag w s found fresh => ?_, fun c s drains fresh => ?_⟩
  · have next := s.nextItem_first (s.cellRole c.val) q before after w rest empty holds
    rw [← order] at next
    refine ⟨_, execCellWorkTake_of_next released active room next fresh, ?_, ?_, fun d hd => ?_, ?_, rfl⟩
    · rw [State.cell_setCell_same]
    · rw [State.cell_setCell_same]
    · exact State.cell_setCell_ne _ _ _ hd
    · exact State.workQueue_setQueue_same ..
  · have ran : exec (.workItemResult c p tag true) s = .next ((s.setCell c.val { s.cell c.val with
        items := (s.cell c.val).items.erase w, lane := laneAfter p tag (s.cell c.val).lane }).returnItem w true) := by
      show execWorkItemResult c p tag true s = _
      unfold execWorkItemResult
      dsimp only
      rw [found]
    have key : w.prod = p ∧ w.tag = tag := by simpa using List.find?_some found
    rw [State.returnItem_of_fresh (by exact fresh)] at ran
    refine ⟨_, ran, ?_, ?_, fun d hd => ?_, rfl⟩
    · rw [key.1, key.2]
      rfl
    · exact congrArg CellSt.items (State.cell_setCell_same s c.val _)
    · exact State.cell_setCell_ne s _ _ hd
  · have ran : exec (.cellDrained c) s = .next ((s.cell c.val).items.foldl (fun a w => a.returnItem w true)
        (s.setCell c.val { s.cell c.val with drained := true, items := [], lane := [], keys := [] })) := by
      show execCellDrained c s = _
      simp [execCellDrained, drains]
    rw [State.return_all _ (State.setCell s _ _) fresh] at ran
    exact ⟨_, ran, rfl, State.cell_setCell_same s c.val _, fun d hd => State.cell_setCell_ne s _ _ hd, rfl⟩

section
variable {s : State} {w : WorkItem}

theorem State.repostAfterFault_of_few (few : w.faults < 2) : s.repostAfterFault w = s.post { w with faults := w.faults + 1 } :=
  if_pos (Nat.succ_lt_succ few)

theorem State.repostAfterFault_of_third (third : 2 ≤ w.faults) : s.repostAfterFault w = s.failWork w :=
  if_neg (Nat.not_lt.mpr (Nat.succ_le_succ third))

theorem State.failWork_host {h : Hdr} (hw : w.cmd = some h) : s.failWork w
    = { s with cells := { s.cells with results := s.cells.results ++ [(w.prod, w.tag, false)] } }.finish h
        (Cpl.of .internalError) := by
  simp [State.failWork, hw]

/-- A cell that is fenced: its cipher core and its digest core are clear. -/
theorem State.fenceCell_cores {c r : Nat} (h : s.cellRole c ≠ 7) :
    (s.fenceCell c r).cipher.cores = Tbl.del s.cipher.cores c ∧
      (s.fenceCell c r).engines.digests = Tbl.del s.engines.digests c := by
  unfold State.fenceCell
  rw [if_neg h]
  constructor <;> (dsimp only; split) <;> simp

end

/-- Settles O3, from what fencing does to a cell (`State.fenceCell_facts`) and the two ends of a repost. -/
theorem faultsFenceCellsAndRepostTheirWork : Obligations.FaultsFenceCellsAndRepostTheirWork := by
  refine ⟨fun c s live room => ?_, fun w s => ⟨fun few room => ?_, fun few full => ?_, fun third h x hw hx open_ => ?_⟩⟩
  · obtain ⟨role, reason, count, idle, entered, -⟩ := s.fenceCell_facts c.val 3 c.isLt live (by decide)
    obtain ⟨cores, digests⟩ := State.fenceCell_cores (r := 3) live
    exact ⟨s.fenceCell c.val 3, rfl, role, reason, count room, idle, entered, by simp, by simp, cores, digests,
      by simp [State.ext_parts]⟩
  · rw [State.repostAfterFault_of_few few, State.post_of_room (w := { w with faults := w.faults + 1 }) room]
    exact State.workQueue_setQueue_same ..
  · rw [State.repostAfterFault_of_few few, State.post_of_full (w := { w with faults := w.faults + 1 }) full]
  · rw [State.repostAfterFault_of_third third, State.failWork_host hw]
    exact ⟨rfl, State.ended_finish _ hx open_⟩

end Sys2Proof.Machine
end

section
/-! Fences: what a reset event does to the function it reaches, and to no other (R75 to R77). -/
namespace Sys2Proof.Machine

/-- A function that a reset event has reached: fenced by it, or left in the fence that it was in. -/
def Fn.fenced (x : Fn) (row : Nat) (vfClear : Bool) : Fn :=
  match x.fence with
  | some p => if vfClear then { x with fence := some { p with after := .absent } } else x
  | none => { x with
      state := .fencing, gen := x.gen + 1, line := none, lineDelay := 0, aers := [], events := []
      fence := some { row := row, after := fenceEnd x.state row vfClear, waiters := [] } }

section
variable {s : State} {f g : Func} {row n : Nat} {v : Bool} {p q : Port}

theorem State.fn_of_fns {t : State} (h : s.host.fns = t.host.fns) (f : Func) : s.fn f = t.fn f := by
  simp [State.fn, State.fnAt, h]

theorem State.port_of_host {t : State} (h : s.host = t.host) (p : Port) : s.port p = t.port p := by
  cases p <;> simp [State.port, h]

@[simp] theorem State.endFreeze_host (st : Status) : (s.endFreeze n st).host.fns = s.host.fns ∧
    (s.endFreeze n st).host.portA = s.host.portA ∧ (s.endFreeze n st).host.portB = s.host.portB := by
  unfold State.endFreeze
  split <;> exact ⟨rfl, rfl, rfl⟩

@[simp] theorem State.stopSummary_host : (s.stopSummary f).host.fns = s.host.fns ∧
    (s.stopSummary f).host.portA = s.host.portA ∧ (s.stopSummary f).host.portB = s.host.portB := by
  cases f <;> exact ⟨rfl, rfl, rfl⟩

@[simp] theorem State.setFn_host (x : Fn) :
    (s.setFn f x).host.portA = s.host.portA ∧ (s.setFn f x).host.portB = s.host.portB := ⟨rfl, rfl⟩

/-- A reset event that fences a function changes the functions' table for that one, and no port. -/
theorem State.fence_new (here : s.present f = true) (new : (s.fn f).fence = none) :
    (s.fence f row v).host.fns = (s.setFn f ((s.fn f).fenced row v)).host.fns ∧
      (s.fence f row v).host.portA = s.host.portA ∧ (s.fence f row v).host.portB = s.host.portB := by
  unfold State.fence Fn.fenced
  simp only [here, new, Bool.not_true, Bool.false_eq_true, if_false]
  cases f <;> simp [State.dropFreeze]

/-- One that finds it in FENCING joins the fence in progress. -/
theorem State.fence_joined {x : Fence} (here : s.present f = true) (old : (s.fn f).fence = some x) :
    s.fence f row v = (if v then s.setFn f ((s.fn f).fenced row v) else s).stopChannels f row := by
  unfold State.fence Fn.fenced
  simp only [here, old, Bool.not_true, Bool.false_eq_true, if_false]
  cases v <;> rfl

/-- A function that does not exist is not reached. -/
theorem State.fence_absent (gone : s.present f = false) : s.fence f row v = s := by
  simp [State.fence, gone]

@[simp] theorem State.fence_port : (s.fence f row v).port p = s.port p := by
  cases here : s.present f with
  | false => rw [State.fence_absent here]
  | true =>
    cases old : (s.fn f).fence with
    | none =>
      obtain ⟨-, a, b⟩ := State.fence_new (row := row) (v := v) here old
      cases p <;> assumption
    | some x =>
      rw [State.fence_joined here old]
      cases p <;> cases v <;> simp [State.port]

theorem State.fence_fn_same (here : s.present f = true) : (s.fence f row v).fn f = (s.fn f).fenced row v := by
  cases old : (s.fn f).fence with
  | none => rw [State.fn_of_fns (State.fence_new here old).1, State.fn_setFn_same]
  | some x =>
    rw [State.fence_joined here old, State.fn_of_fns (t := if v then s.setFn f ((s.fn f).fenced row v) else s) (by simp)]
    cases v
    · simp [Fn.fenced, old]
    · simp

theorem State.fence_fn_ne (other : g ≠ f) : (s.fence f row v).fn g = s.fn g := by
  cases here : s.present f with
  | false => rw [State.fence_absent here]
  | true =>
    cases old : (s.fn f).fence with
    | none => rw [State.fn_of_fns (State.fence_new here old).1, State.fn_setFn_ne _ other]
    | some x =>
      rw [State.fence_joined here old, State.fn_of_fns (t := if v then s.setFn f ((s.fn f).fenced row v) else s) (by simp)]
      cases v
      · rfl
      · exact State.fn_setFn_ne _ other

end

/-- An object that neither records, mode changes, buffers nor fences change. -/
structure ObjRow.Quiet (q : ObjRow) (i j : Nat) : Prop where
  dropped : q.other i j Obj.dropped
  suppressed : q.other i j Obj.suppressedTotal
  defer : q.other i j Obj.powerDefer
  modeSeq : q.other i j Obj.modeSeq
  modeChanges : q.other i j Obj.modeChanges
  level : ∀ n, q.key i j ≠ Obj.poolLevel.key n 0
  stops : ∀ n, q.key i j ≠ Obj.stopEntries.key n 0
  inUse : ∀ n, q.key i j ≠ Obj.basketInUse.key n 0
  resets : ∀ n, q.key i j ≠ Obj.resetCount.key n 0
  reset : ∀ n, q.key i j ≠ Obj.lastReset.key n 0
  phase : ∀ n, q.key i j ≠ Obj.freezePhase.key n 0

theorem portMode_quiet : Obj.portMode.Quiet 0 0 := by
  constructor <;> intros <;> simp [ObjRow.other, ObjRow.key, Obj.portMode, Obj.dropped, Obj.suppressedTotal, Obj.powerDefer,
    Obj.modeSeq, Obj.modeChanges, Obj.poolLevel, Obj.stopEntries, Obj.basketInUse, Obj.resetCount, Obj.lastReset,
    Obj.freezePhase] <;> omega

theorem vfSplitA_quiet : Obj.vfSplitA.Quiet 0 0 := by
  constructor <;> intros <;> simp [ObjRow.other, ObjRow.key, Obj.vfSplitA, Obj.dropped, Obj.suppressedTotal, Obj.powerDefer,
    Obj.modeSeq, Obj.modeChanges, Obj.poolLevel, Obj.stopEntries, Obj.basketInUse, Obj.resetCount, Obj.lastReset,
    Obj.freezePhase] <;> omega

section
variable {q : ObjRow} {i j : Nat} (quiet : q.Quiet i j) (s : State)
include quiet

theorem State.cfg_record_quiet (code : Nat) (params : List Nat) (subject domain : Nat) :
    (s.record code params subject domain).cfg q i j = s.cfg q i j :=
  State.cfg_record _ _ _ _ _ _ _ _ quiet.dropped quiet.suppressed

theorem State.cfg_clearMode_quiet (m cause : Nat) : (s.clearMode m cause).cfg q i j = s.cfg q i j :=
  State.cfg_changeModes _ _ _ _ _ _ _ quiet.dropped quiet.suppressed quiet.defer quiet.modeSeq quiet.modeChanges

theorem State.cfg_countUse_quiet (p : Nat) (h : Option Nat) : (s.countUse p h).cfg q i j = s.cfg q i j := by
  unfold State.countUse
  split
  · split
    · exact State.cfg_keep_ne _ _ _ _ _ _ _ _ (quiet.inUse _)
    · rfl
  · rfl

theorem State.cfg_settlePool_quiet (p : Nat) : (s.settlePool p).cfg q i j = s.cfg q i j := by
  have kept : ∀ (x : PoolSt) (l : Nat), ((s.setPool p x).keep Obj.poolLevel l p).cfg q i j = s.cfg q i j :=
    fun x l => State.cfg_keep_ne _ _ _ _ _ _ _ _ (quiet.level p)
  unfold State.settlePool
  dsimp only
  split
  · rw [State.cfg_bump_ne _ _ _ _ _ _ _ _ (quiet.stops p)]
    split
    · rw [State.cfg_record_quiet quiet, kept]
    · exact kept _ _
  · split
    · rw [State.cfg_record_quiet quiet, kept]
    · exact kept _ _

theorem State.cfg_releaseRef_quiet (pool buf : Nat) (y : BufSt) (f : Option Nat) (fence : Bool) :
    (s.releaseRef pool buf y f fence).cfg q i j = s.cfg q i j := by
  unfold State.releaseRef
  dsimp only
  split
  · rw [State.cfg_settlePool_quiet quiet, State.cfg_countUse_quiet quiet]
    rfl
  · rw [State.cfg_settlePool_quiet quiet, State.cfg_countUse_quiet quiet, State.cfg_countUse_quiet quiet]
    rfl

omit quiet in
/-- What every step of a fold keeps, the fold keeps. -/
theorem State.cfg_foldl {α : Type} {g : State → α → State} (l : List α) (s : State)
    (same : ∀ a e, (g a e).cfg q i j = a.cfg q i j) : (l.foldl g s).cfg q i j = s.cfg q i j := by
  induction l generalizing s with
  | nil => rfl
  | cons e l ih => rw [List.foldl_cons, ih, same]

theorem State.cfg_releaseStale_quiet (n gen : Nat) : (s.releaseStale n gen).cfg q i j = s.cfg q i j := by
  unfold State.releaseStale
  refine State.cfg_foldl _ _ fun a k => ?_
  split
  · exact State.cfg_releaseRef_quiet quiet _ _ _ _ _ _
  · rfl

theorem State.cfg_endTest_quiet (result : Nat) : (s.endTest result).cfg q i j = s.cfg q i j := by
  unfold State.endTest
  split
  · rfl
  · dsimp only
    split
    · rw [State.cfg_clearMode_quiet quiet, State.cfg_record_quiet quiet]
      rfl
    · rw [State.cfg_record_quiet quiet]
      rfl

theorem State.cfg_fenceManager_quiet (f : Func) (row : Nat) : (s.fenceManager f row).cfg q i j = s.cfg q i j := by
  unfold State.fenceManager
  dsimp only
  rw [State.cfg_of_force (t := if s.admin.selftest.any (·.starter = f.code) then s.endTest 2 else s) (by simp)]
  split
  · exact State.cfg_endTest_quiet quiet _ _
  · rfl

theorem State.cfg_dropFreeze_quiet (n : Nat) : (s.dropFreeze n).cfg q i j = s.cfg q i j := by
  show (s.endFreeze n .abortRequested).cfg q i j = _
  unfold State.endFreeze
  split
  · rfl
  · exact State.cfg_keep_ne _ _ _ _ _ _ _ _ (quiet.phase n)

theorem State.cfg_settleFreeze_quiet : s.settleFreeze.cfg q i j = s.cfg q i j := by
  unfold State.settleFreeze
  split
  · rfl
  · exact State.cfg_clearMode_quiet quiet _ _ _

omit quiet in
theorem State.cfg_dropStaging (f : Func) : (s.dropStaging f).cfg q i j = s.cfg q i j := by
  unfold State.dropStaging
  split <;> rfl

/-- What a fence ends before the part of its function's own kind. -/
theorem State.cfg_fencing_quiet (f : Func) (x : Fn) (n gen : Nat) :
    ((((s.setFn f x).stopSummary f).dropStaging f).releaseStale n gen).cfg q i j = s.cfg q i j := by
  rw [State.cfg_releaseStale_quiet quiet, State.cfg_dropStaging, State.cfg_of_force (t := s) (by simp)]

theorem State.cfg_fence_quiet (f : Func) (row : Nat) (v : Bool) : (s.fence f row v).cfg q i j = s.cfg q i j := by
  cases here : s.present f with
  | false => rw [State.fence_absent here]
  | true =>
    cases old : (s.fn f).fence with
    | some x =>
      rw [State.fence_joined here old, State.cfg_of_force (t := s) (by cases v <;> simp)]
    | none =>
      unfold State.fence
      simp only [here, old, Bool.not_true, Bool.false_eq_true, if_false]
      cases f with
      | pf0 => exact (State.cfg_fenceManager_quiet quiet _ _ _).trans (State.cfg_fencing_quiet quiet s _ _ _ _)
      | pf1 => exact (State.cfg_fenceManager_quiet quiet _ _ _).trans (State.cfg_fencing_quiet quiet s _ _ _ _)
      | inst n =>
        dsimp only
        rw [State.cfg_settleFreeze_quiet quiet, State.cfg_keep_ne _ _ _ _ _ _ _ _ (quiet.reset n.val),
          State.cfg_bump_ne _ _ _ _ _ _ _ _ (quiet.resets n.val), State.cfg_dropFreeze_quiet quiet]
        exact State.cfg_fencing_quiet quiet s _ _ _ _

theorem State.cfg_fenceAll_quiet (l : List Nat) (row : Nat) (v : Bool) :
    (l.foldl (fun a n => if h : n < 1024 then a.fence (.inst ⟨n, h⟩) row v else a) s).cfg q i j = s.cfg q i j := by
  refine State.cfg_foldl _ _ fun a n => ?_
  split
  · exact State.cfg_fence_quiet quiet _ _ _ _
  · rfl

theorem State.cfg_fencePort_quiet (p : Port) (row : Nat) (v : Bool) : (s.fencePort p row v).cfg q i j = s.cfg q i j := by
  unfold State.fencePort State.fenceInstances
  rw [State.cfg_fenceAll_quiet quiet, State.cfg_fence_quiet quiet]

end

section
variable {s : State} {f g : Func} {row : Nat} {v : Bool} {p q : Port}

/-- An instance that a reset event of its port, or of itself, may reach. -/
def Fn.reached (x : Fn) (row : Nat) (v : Bool) : Fn := if x.state = .absent then x else x.fenced row v

theorem State.fence_inst_same (n : Fin 1024) : (s.fence (.inst n) row v).fn (.inst n) = (s.fn (.inst n)).reached row v := by
  unfold Fn.reached
  split
  next gone => rw [State.fence_absent (by simp [State.present, gone])]
  next here => exact State.fence_fn_same (by simp [State.present, here])

theorem State.dual_fence : (s.fence f row v).dual = s.dual := by
  simp [State.dual, State.cfg_fence_quiet portMode_quiet]

theorem State.split_fence : (s.fence f row v).split = s.split := by
  simp [State.split, State.dual_fence, State.cfg_fence_quiet vfSplitA_quiet]

theorem State.instancesOf_fence : (s.fence f row v).instancesOf p = s.instancesOf p := by
  cases p <;> simp [State.instancesOf, State.split_fence]

theorem State.portOfFn_of_split {t : State} (h : t.split = s.split) (f : Func) : t.portOfFn f = s.portOfFn f := by
  cases f <;> simp [State.portOfFn, State.portOf, h]

theorem State.fenceAll_port (l : List Nat) :
    (l.foldl (fun a n => if h : n < 1024 then a.fence (.inst ⟨n, h⟩) row v else a) s).port p = s.port p := by
  induction l generalizing s with
  | nil => rfl
  | cons n l ih =>
    rw [List.foldl_cons, ih]
    split <;> simp

/-- A list of instances is fenced: those in it are reached, once each, and no other function. -/
theorem State.fenceAll_fn (l : List Nat) (once : l.Nodup) (f : Func) :
    (l.foldl (fun a n => if h : n < 1024 then a.fence (.inst ⟨n, h⟩) row v else a) s).fn f
      = if ∃ n : Fin 1024, f = .inst n ∧ n.val ∈ l then (s.fn f).reached row v else s.fn f := by
  induction l generalizing s with
  | nil => simp
  | cons m l ih =>
    rw [List.foldl_cons, ih once.of_cons]
    have notin := (List.nodup_cons.mp once).1
    by_cases hm : ∃ h : m < 1024, f = .inst ⟨m, h⟩
    · obtain ⟨h, rfl⟩ := hm
      simp [h, notin, State.fence_inst_same]
    · have same : (if h : m < 1024 then s.fence (.inst ⟨m, h⟩) row v else s).fn f = s.fn f := by
        split
        next h => exact State.fence_fn_ne fun e => hm ⟨h, e⟩
        · rfl
      have alike : (∃ n : Fin 1024, f = .inst n ∧ n.val ∈ m :: l) ↔ ∃ n : Fin 1024, f = .inst n ∧ n.val ∈ l := by
        constructor
        · rintro ⟨n, rfl, hn⟩
          rcases List.mem_cons.mp hn with rfl | hn
          · exact absurd ⟨n.isLt, rfl⟩ hm
          · exact ⟨n, rfl, hn⟩
        · rintro ⟨n, rfl, hn⟩
          exact ⟨n, rfl, List.mem_cons_of_mem _ hn⟩
      rw [same]
      simp only [alike]

theorem State.instancesOf_nodup : (s.instancesOf p).Nodup := by
  cases p
  · exact List.nodup_range
  · exact nodup_map_of_inj (fun a b h => by simpa using h) List.nodup_range

theorem State.mem_instancesOf (n : Fin 1024) : n.val ∈ s.instancesOf p ↔ s.portOf n.val = p := by
  have := n.isLt
  cases p
  · simp [State.instancesOf, State.portOf]
  · simp only [State.instancesOf, State.portOf, List.mem_map, List.mem_range]
    constructor
    · rintro ⟨k, hk, e⟩
      simp [show ¬ n.val < s.split by omega]
    · intro h
      have : ¬ n.val < s.split := by
        intro lt
        simp [lt] at h
      exact ⟨n.val - s.split, by omega, by omega⟩

theorem State.fenceInstances_fn : (s.fenceInstances p row v).fn f
    = if ∃ n, f = .inst n ∧ s.portOf n.val = p then (s.fn f).reached row v else s.fn f := by
  unfold State.fenceInstances
  rw [State.fenceAll_fn _ State.instancesOf_nodup]
  simp only [State.mem_instancesOf]

theorem fencedBy_of_fenced {t : State} (h : s.present f = true → t.fn f = (s.fn f).fenced row v) : FencedBy s t f row := by
  intro here new
  rw [h here]
  simp [Fn.fenced, new]

/-- What the fences of a port leave of each function: the manager's, its instances, and every other one. -/
theorem State.fencePort_fn : (s.fencePort p row v).fn f
    = if f = managerOf p then (s.fence (managerOf p) row).fn f
      else if ∃ n, f = .inst n ∧ s.portOf n.val = p then (s.fn f).reached row v else s.fn f := by
  have manager : ∀ n, managerOf p ≠ .inst n := by cases p <;> simp [managerOf]
  have split : (s.fence (managerOf p) row).split = s.split := State.split_fence
  unfold State.fencePort
  rw [State.fenceInstances_fn]
  by_cases hf : f = managerOf p
  · subst hf
    simp [manager]
  · rw [if_neg hf, State.fence_fn_ne hf]
    refine ite_of_iff ?_ rfl rfl
    simp only [State.portOf, split]

@[simp] theorem State.fencePort_port : (s.fencePort p row v).port q = s.port q := by
  unfold State.fencePort State.fenceInstances
  rw [State.fenceAll_port, State.fence_port]

/-- Every function of a port is fenced by a reset event of the port. -/
theorem State.fencePort_fenced (own : s.portOfFn f = p) : FencedBy s (s.fencePort p row v) f row := by
  cases f with
  | inst n =>
    refine fencedBy_of_fenced (v := v) fun here => ?_
    have : (s.fn (.inst n)).state ≠ .absent := by simpa [State.present] using here
    rw [State.fencePort_fn, if_neg (by cases p <;> simp [managerOf]), if_pos ⟨n, rfl, own⟩, Fn.reached, if_neg this]
  | pf0 =>
    subst own
    refine fencedBy_of_fenced (v := false) fun here => ?_
    rw [State.fencePort_fn]
    exact State.fence_fn_same here
  | pf1 =>
    subst own
    refine fencedBy_of_fenced (v := false) fun here => ?_
    rw [State.fencePort_fn]
    exact State.fence_fn_same here

theorem State.fencePort_other (other : s.portOfFn f ≠ p) : (s.fencePort p row v).fn f = s.fn f := by
  rw [State.fencePort_fn, if_neg, if_neg]
  · rintro ⟨n, rfl, own⟩
    exact other own
  · rintro rfl
    cases p <;> exact other rfl

theorem State.dual_fencePort : (s.fencePort p row v).dual = s.dual := by
  simp [State.dual, State.cfg_fencePort_quiet portMode_quiet]

theorem State.split_fencePort : (s.fencePort p row v).split = s.split := by
  simp [State.split, State.dual_fencePort, State.cfg_fencePort_quiet vfSplitA_quiet]

/-- What is fenced stays so where its function is not changed after. -/
theorem FencedBy.of_fn {t u : State} (h : FencedBy s t f row) (same : u.fn f = t.fn f) : FencedBy s u f row := by
  unfold FencedBy at *
  rwa [same]

/-- A function that existed before, as it was: a fence of it now is one of the state before. -/
theorem FencedBy.of_before {t u : State} (h : FencedBy t u f row) (same : t.fn f = s.fn f) (dual : t.dual = s.dual) :
    FencedBy s u f row := by
  have here : t.present f = s.present f := by cases f <;> simp [State.present, same, dual]
  unfold FencedBy at *
  rwa [here, same] at h

@[simp] theorem State.dropLink_fn : (s.dropLink p).fn f = s.fn f := by
  cases p <;> rfl

theorem State.dropLink_up : ((s.dropLink p).port p).up = false := by
  unfold State.dropLink
  dsimp only
  rw [State.port_setPort_same]

theorem State.dropLink_port_ne (n : q ≠ p) : (s.dropLink p).port q = s.port q :=
  State.port_setPort_ne _ _ n

theorem State.setPort_fn (x : PortSt) : (s.setPort p x).fn f = s.fn f := by
  cases p <;> rfl

end

section
variable {s : State} {f : Func} {x : Fence}

/-- The contexts that FENCE_COMPLETE leaves: those of the function under its present generation, and all of others. -/
theorem State.returnContexts_ctxs (f : Func) : (s.returnContexts f).host.ctxs
    = s.host.ctxs.filter fun c => c.hdr.fn ≠ f ∨ c.gen = (s.fn f).gen := rfl

theorem State.returnContexts_fn (f g : Func) : (s.returnContexts f).fn g = s.fn g := by
  unfold State.returnContexts
  exact State.fn_of_fns (by simp) g

/-- A completion changes no context's command and generation. -/
theorem mem_finish {h : Hdr} {k : Cpl} {c : Ctx} (hc : c ∈ (s.finish h k).host.ctxs) :
    ∃ d ∈ s.host.ctxs, c.hdr = d.hdr ∧ c.gen = d.gen ∧ (d.done ≠ none ∨ d.hdr = h → c.done ≠ none) := by
  obtain ⟨d, hd, rfl⟩ := List.mem_map.mp hc
  refine ⟨d, hd, ?_⟩
  by_cases is : d.hdr = h <;> by_cases done : d.done = none <;> simp [Ctx.is, is, done]

/-- Commands that all end. -/
theorem mem_finishAll {k : Cpl} (l : List Hdr) {c : Ctx}
    (hc : c ∈ (l.foldl (fun a h => a.finish h k) s).host.ctxs) :
    ∃ d ∈ s.host.ctxs, c.hdr = d.hdr ∧ c.gen = d.gen ∧ (d.done ≠ none ∨ d.hdr ∈ l → c.done ≠ none) := by
  induction l generalizing s with
  | nil => exact ⟨c, hc, rfl, rfl, by simp⟩
  | cons h l ih =>
    obtain ⟨d, hd, hdr, gen, done⟩ := ih hc
    obtain ⟨e, he, hdr', gen', done'⟩ := mem_finish hd
    refine ⟨e, he, hdr.trans hdr', gen.trans gen', fun open_ => done ?_⟩
    rcases open_ with ended | listed
    · exact .inl (done' (.inl ended))
    · rcases List.mem_cons.mp listed with rfl | later
      · exact .inl (done' (.inr rfl))
      · exact .inr (hdr' ▸ later)

theorem State.finishAll_fn {k : Cpl} (l : List Hdr) (g : Func) :
    (l.foldl (fun a h => a.finish h k) s).fn g = s.fn g := by
  induction l generalizing s with
  | nil => rfl
  | cons h l ih => rw [List.foldl_cons, ih, State.finish_fn]

end
section
variable {s : State} {n : Fin 1024} {row : Nat} {v : Bool}

theorem State.cfg_settleFreeze_reset : s.settleFreeze.cfg Obj.lastReset n.val = s.cfg Obj.lastReset n.val := by
  unfold State.settleFreeze
  split
  · rfl
  · have := n.isLt
    refine State.cfg_changeModes _ _ _ _ _ _ _ ?_ ?_ ?_ ?_ ?_ <;>
      simp [ObjRow.other, ObjRow.key, Obj.lastReset, Obj.dropped, Obj.suppressedTotal, Obj.powerDefer, Obj.modeSeq,
        Obj.modeChanges] <;> omega

/-- LAST_RESET of an instance that is fenced is the row (R77). -/
theorem State.fence_lastReset (here : s.present (.inst n) = true) (new : (s.fn (.inst n)).fence = none) :
    (s.fence (.inst n) row v).cfg Obj.lastReset n.val = row := by
  unfold State.fence
  simp only [here, new, Bool.not_true, Bool.false_eq_true, if_false]
  rw [State.cfg_settleFreeze_reset, State.cfg_keep_same]

/-- A reset event of one instance. -/
theorem State.fence_inst (here : s.present (.inst n) = true) (new : (s.fn (.inst n)).fence = none) :
    FencedBy s (s.fence (.inst n) row) (.inst n) row ∧ (s.fence (.inst n) row).cfg Obj.lastReset n.val = row ∧
      ∀ f, f ≠ .inst n → (s.fence (.inst n) row).fn f = s.fn f :=
  ⟨fencedBy_of_fenced fun h => State.fence_fn_same h, State.fence_lastReset here new, fun _ => State.fence_fn_ne⟩

theorem State.fence_inst_joins (old : (s.fn (.inst n)).fence ≠ none) : s.fence (.inst n) row = s := by
  obtain ⟨x, hx⟩ := Option.ne_none_iff_exists'.mp old
  cases here : s.present (.inst n) with
  | false => exact State.fence_absent here
  | true =>
    rw [State.fence_joined here hx]
    simp [State.stopChannels, Func.isManager]

end

section
variable {s : State} {p : Port} {now row : Nat} {v : Bool} {f : Func}

theorem execLinkDown_of_exists (there : s.portExists p = true) :
    exec (.linkDown p now) s = .next (((s.tick now).fencePort p 7).dropLink p) := by
  show execLinkDown p now s = _
  rw [execLinkDown, if_pos there]

theorem execHotReset_of_exists (there : s.portExists p = true) :
    exec (.hotReset p) s = .next ((s.fencePort p 7).endFactory).activateAtReset := by
  show execHotReset p s = _
  rw [execHotReset, if_pos there]

theorem execPerstAssert_of_exists (there : s.portExists p = true) (up : s.has Mode.holdUp = false) :
    exec (.perstAssert p) s = .next ((((s.fencePort p 7).dropLink p).endFactory.activateAtReset).setPort p
      { (((s.fencePort p 7).dropLink p).endFactory.activateAtReset).port p with perst := true }) := by
  show execPerstAssert p s = _
  rw [execPerstAssert, if_neg (by simp [there, up])]

theorem execFunctionLevelResetPf_of_exists (there : s.portExists p = true) :
    exec (.functionLevelResetPf p) s = .next ((s.fencePort p 5 true).setPort p
      { (s.fencePort p 5 true).port p with vfEnable := false }) := by
  show execFunctionLevelResetPf p s = _
  rw [execFunctionLevelResetPf, if_pos there]

theorem State.dropPort_host : ((s.endFactory).activateAtReset).host = s.host := by
  simp

/-- A port's functions are fenced in u, where u has the functions of the state after the fences. -/
theorem portFenced {u : State} (same : ∀ f, u.fn f = (s.fencePort p row v).fn f) :
    (∀ f, s.portOfFn f = p → FencedBy s u f row) ∧ ∀ f, s.portOfFn f ≠ p → u.fn f = s.fn f :=
  ⟨fun f own => (State.fencePort_fenced own).of_fn (same f), fun f other => (same f).trans (State.fencePort_other other)⟩

/-- NVM Subsystem Reset: the functions of port A are fenced first, and port B's find their port as it was. -/
theorem State.subsystemReset_fenced : FencedBy s s.subsystemReset f 8 := by
  have same : s.subsystemReset.fn f = ((s.fencePort .a 8).fencePort .b 8).fn f :=
    State.fn_of_fns (by simp [State.subsystemReset]) f
  have own : (s.fencePort .a 8).portOfFn f = s.portOfFn f := State.portOfFn_of_split State.split_fencePort f
  refine FencedBy.of_fn ?_ same
  cases hp : s.portOfFn f with
  | a => exact (State.fencePort_fenced hp).of_fn (State.fencePort_other (by simp [own, hp]))
  | b => exact (State.fencePort_fenced (own.trans hp)).of_before (State.fencePort_other (by simp [hp])) State.dual_fencePort

/-- What FENCE_COMPLETE leaves of its function. -/
theorem execFenceComplete_of_fence {x : Fence} (old : (s.fn f).fence = some x) :
    ∃ t, exec (.fenceComplete f) s = .next t ∧
      t.fn f = { Fn.init x.after with gen := (s.fn f).gen, stamp := (s.fn f).stamp, feats := (s.fn f).savedFeats,
                                      savedFeats := (s.fn f).savedFeats } ∧
      (∀ g, g ≠ f → t.fn g = s.fn g) ∧
      ∀ c ∈ t.host.ctxs, (c.hdr.fn = f → c.gen = (s.fn f).gen) ∧ (c.hdr ∈ x.waiters → c.done ≠ none) := by
  refine ⟨?next, ?ran, ?same, ?others, ?ctxs⟩
  case ran =>
    show execFenceComplete f s = _
    unfold execFenceComplete
    dsimp only
    rw [old]
  case same =>
    dsimp only
    rw [State.finishAll_fn]
    cases f <;> exact State.fn_setFn_same _
  case others =>
    intro g other
    rw [State.finishAll_fn]
    cases f <;> exact (State.fn_setFn_ne _ other).trans (State.returnContexts_fn _ _)
  case ctxs =>
    intro c hc
    obtain ⟨d, hd, hdr, gen, done⟩ := mem_finishAll _ hc
    have kept : d ∈ (s.returnContexts f).host.ctxs := by cases f <;> exact hd
    rw [State.returnContexts_ctxs] at kept
    have young := (List.mem_filter.mp kept).2
    exact ⟨fun own => by simpa [← hdr, ← gen, own] using young, fun waits => done (.inr (hdr ▸ waits))⟩

end

/-- Settles O7: a port's reset event is one fence of each of its functions, and what each fence does is `Fn.fenced`. -/
theorem resetsFenceTheirFunctionsAndEnd : Obligations.ResetsFenceTheirFunctionsAndEnd := by
  refine ⟨fun n s => ⟨fun here new => ⟨?_, fun en => ?_⟩, fun old => ?_, fun gone => ?_, fun off => ?_⟩,
    fun p now s there => ⟨?_, ?_, fun up => ?_, ?_⟩, ⟨fun s => ?_, fun p s there en => ?_⟩, fun f x s old => ?_⟩
  · exact ⟨_, rfl, State.fence_inst here new⟩
  · refine ⟨s.fence (.inst n) 2, ?_, State.fence_inst here new⟩
    show execCcEnClearInstance n s = _
    rw [execCcEnClearInstance, if_pos en]
  · exact congrArg Host.Outcome.next (State.fence_inst_joins old)
  · exact congrArg Host.Outcome.next (State.fence_absent gone)
  · show execCcEnClearInstance n s = _
    rw [execCcEnClearInstance, if_neg (by simp [off])]
  · have late := portFenced (s := s.tick now) (p := p) (row := 7) (v := false) (u := ((s.tick now).fencePort p 7).dropLink p)
      fun f => State.dropLink_fn
    exact ⟨_, execLinkDown_of_exists there, late.1, late.2, State.dropLink_up⟩
  · exact ⟨_, execHotReset_of_exists there, portFenced (v := false) fun f => State.fn_of_fns (by simp) f⟩
  · have fenced := portFenced (s := s) (p := p) (row := 7) (v := false)
      (u := (((s.fencePort p 7).dropLink p).endFactory.activateAtReset).setPort p
        { (((s.fencePort p 7).dropLink p).endFactory.activateAtReset).port p with perst := true })
      fun f => (State.setPort_fn _).trans ((State.fn_of_fns (congrArg _ State.dropPort_host) f).trans State.dropLink_fn)
    refine ⟨_, execPerstAssert_of_exists there up, fenced.1, fenced.2, ?_, ?_⟩
    · rw [State.port_setPort_same, State.port_of_host State.dropPort_host]
      exact State.dropLink_up
    · rw [State.port_setPort_same]
  · have fenced := portFenced (s := s) (p := p) (row := 5) (v := true)
      (u := (s.fencePort p 5 true).setPort p { (s.fencePort p 5 true).port p with vfEnable := false })
      fun f => State.setPort_fn _
    exact ⟨_, execFunctionLevelResetPf_of_exists there, fenced.1, fenced.2, by rw [State.port_setPort_same]⟩
  · refine ⟨_, rfl, fun f => State.subsystemReset_fenced.of_fn (State.fn_of_fns (by simp) f)⟩
  · refine ⟨s.fence (managerOf p) 6, ?_, fencedBy_of_fenced fun h => State.fence_fn_same h, fun f => State.fence_fn_ne⟩
    show execCcEnClearManager p s = _
    rw [execCcEnClearManager, if_pos ⟨there, en⟩]
  · obtain ⟨t, ran, is, others, ctxs⟩ := execFenceComplete_of_fence old
    refine ⟨t, ran, ?_⟩
    rw [is]
    exact ⟨rfl, rfl, rfl, rfl, rfl, rfl, rfl, rfl, others, fun c hc => (ctxs c hc).1, fun c hc => (ctxs c hc).2⟩

end Sys2Proof.Machine
end

section
/-! Functions that are enabled, and the Virtualization Management of instances (R60, R61, R67 to R70, R79). -/
namespace Sys2Proof.Machine

section
variable {s : State} {p : Port} {n m : Nat}

theorem State.dual_of_force {t : State} (h : s.dict.force = t.dict.force) : s.dual = t.dual := by
  simp [State.dual, State.cfg_of_force h]

theorem State.split_of_force {t : State} (h : s.dict.force = t.dict.force) : s.split = t.split := by
  simp [State.split, State.dual_of_force h, State.cfg_of_force h]

theorem State.bringUp_port : (s.bringUp n).port p = s.port p := by
  unfold State.bringUp
  dsimp only
  split
  · cases p <;> simp [State.port, State.setFnAt]
  · rfl

/-- The rows of R70 that an instance brought up takes its defaults in. -/
def bringUpRows : List ObjRow := [Obj.qpAllow, Obj.ctxReserved, Obj.ctxMax, Obj.basketMin]

/-- Two such rows, or the rows of two instances, are different objects. -/
theorem bringUpRows_key {q r : ObjRow} (hq : q ∈ bringUpRows) (hr : r ∈ bringUpRows) (h : q ≠ r ∨ m ≠ n) :
    q.key m 0 ≠ r.key n 0 := by
  simp only [bringUpRows, List.mem_cons, List.not_mem_nil, or_false] at hq hr
  rcases hq with rfl | rfl | rfl | rfl <;> rcases hr with rfl | rfl | rfl | rfl <;>
    simp [ObjRow.key, Obj.qpAllow, Obj.ctxReserved, Obj.ctxMax, Obj.basketMin] at h ⊢ <;> omega

theorem State.bringUp_of_absent (gone : (s.fnAt n).state = .absent) :
    ((s.bringUp n).fnAt n).state = .offline ∧ ((s.bringUp n).fnAt n).gen = 0 ∧ ((s.bringUp n).fnAt n).en = false ∧
      (s.bringUp n).cfg Obj.qpAllow n = 1 ∧ (s.bringUp n).cfg Obj.ctxReserved n = 32 ∧
      (s.bringUp n).cfg Obj.ctxMax n = 4096 ∧ (s.bringUp n).cfg Obj.basketMin n = 8 := by
  have is : (s.bringUp n).fnAt n = { Fn.init .offline with feats := (s.fnAt n).savedFeats, savedFeats := (s.fnAt n).savedFeats } := by
    unfold State.bringUp
    rw [if_pos gone]
    simp [State.fnAt, State.setFnAt]
  have differ : ∀ q ∈ bringUpRows, ∀ r ∈ bringUpRows, q ≠ r → q.key n 0 ≠ r.key n 0 :=
    fun q hq r hr ne => bringUpRows_key hq hr (.inl ne)
  refine ⟨by rw [is]; rfl, by rw [is]; rfl, by rw [is]; rfl, ?_⟩
  unfold State.bringUp
  rw [if_pos gone]
  dsimp only
  rw [State.cfg_save_same, State.cfg_save_ne _ _ _ _ _ _ _ _ (differ Obj.qpAllow (by decide) Obj.basketMin (by decide) (by decide)),
    State.cfg_save_ne _ _ _ _ _ _ _ _ (differ Obj.qpAllow (by decide) Obj.ctxMax (by decide) (by decide)),
    State.cfg_save_ne _ _ _ _ _ _ _ _ (differ Obj.qpAllow (by decide) Obj.ctxReserved (by decide) (by decide)), State.cfg_save_same,
    State.cfg_save_ne _ _ _ _ _ _ _ _ (differ Obj.ctxReserved (by decide) Obj.basketMin (by decide) (by decide)),
    State.cfg_save_ne _ _ _ _ _ _ _ _ (differ Obj.ctxReserved (by decide) Obj.ctxMax (by decide) (by decide)), State.cfg_save_same,
    State.cfg_save_ne _ _ _ _ _ _ _ _ (differ Obj.ctxMax (by decide) Obj.basketMin (by decide) (by decide)), State.cfg_save_same]
  exact ⟨rfl, rfl, rfl, rfl⟩

theorem State.bringUp_ne (other : m ≠ n) : (s.bringUp n).fnAt m = s.fnAt m ∧
    ∀ q ∈ bringUpRows, (s.bringUp n).cfg q m = s.cfg q m := by
  unfold State.bringUp
  dsimp only
  split
  · refine ⟨?_, fun q hq => ?_⟩
    · rw [← State.fnAt_setFnAt_ne s { Fn.init .offline with feats := (s.fnAt n).savedFeats, savedFeats := (s.fnAt n).savedFeats } other]
      simp [State.fnAt]
    · have apart : ∀ r ∈ bringUpRows, q.key m 0 ≠ r.key n 0 := fun r hr => bringUpRows_key hq hr (.inr other)
      rw [State.cfg_save_ne _ _ _ _ _ _ _ _ (apart Obj.basketMin (by decide)),
        State.cfg_save_ne _ _ _ _ _ _ _ _ (apart Obj.ctxMax (by decide)),
        State.cfg_save_ne _ _ _ _ _ _ _ _ (apart Obj.ctxReserved (by decide)),
        State.cfg_save_ne _ _ _ _ _ _ _ _ (apart Obj.qpAllow (by decide))]
      rfl
  · exact ⟨rfl, fun _ _ => rfl⟩

/-- What a list of instances brought up leaves of an instance that is not in it. -/
theorem State.bringUpAll_ne (l : List Nat) (notin : m ∉ l) : (l.foldl State.bringUp s).fnAt m = s.fnAt m ∧
    ∀ q ∈ bringUpRows, (l.foldl State.bringUp s).cfg q m = s.cfg q m := by
  induction l generalizing s with
  | nil => exact ⟨rfl, fun _ _ => rfl⟩
  | cons n l ih =>
    obtain ⟨ne, later⟩ : m ≠ n ∧ m ∉ l := by simpa using notin
    obtain ⟨fn, cfg⟩ := ih (s := s.bringUp n) later
    obtain ⟨fn', cfg'⟩ := State.bringUp_ne (s := s) ne
    exact ⟨fn.trans fn', fun q hq => (cfg q hq).trans (cfg' q hq)⟩

theorem State.bringUpAll_port (l : List Nat) : (l.foldl State.bringUp s).port p = s.port p := by
  induction l generalizing s with
  | nil => rfl
  | cons n l ih => rw [List.foldl_cons, ih, State.bringUp_port]

/-- An ABSENT instance of a list that is brought up (R70). -/
theorem State.bringUpAll_of_absent (l : List Nat) (once : l.Nodup) (listed : n ∈ l) (gone : (s.fnAt n).state = .absent) :
    ((l.foldl State.bringUp s).fnAt n).state = .offline ∧ ((l.foldl State.bringUp s).fnAt n).gen = 0 ∧
      ((l.foldl State.bringUp s).fnAt n).en = false ∧ (l.foldl State.bringUp s).cfg Obj.qpAllow n = 1 ∧
      (l.foldl State.bringUp s).cfg Obj.ctxReserved n = 32 ∧ (l.foldl State.bringUp s).cfg Obj.ctxMax n = 4096 ∧
      (l.foldl State.bringUp s).cfg Obj.basketMin n = 8 := by
  obtain ⟨before, after, rfl⟩ := List.append_of_mem listed
  obtain ⟨-, onceAfter, apart⟩ := List.nodup_append.mp once
  have first : n ∉ before := fun h => apart n h n (by simp) rfl
  have last : n ∉ after := (List.nodup_cons.mp onceAfter).1
  rw [List.foldl_append, List.foldl_cons]
  obtain ⟨fn, cfg⟩ := State.bringUpAll_ne (s := (before.foldl State.bringUp s).bringUp n) after last
  rw [fn, cfg _ (by decide), cfg _ (by decide), cfg _ (by decide), cfg _ (by decide)]
  exact State.bringUp_of_absent (by rw [(State.bringUpAll_ne before first).1, gone])

/-- The virtual functions of a port within NumVFs (R61). -/
theorem State.mem_take_instancesOf (n : Fin 1024) (k : Nat) (own : s.portOf n.val = p)
    (within : n.val - (if p = .a then 0 else s.split) < k) : n.val ∈ (s.instancesOf p).take k := by
  have here := (State.mem_instancesOf n).mpr own
  cases p
  · simp only [State.instancesOf, List.mem_range, reduceIte] at here within ⊢
    exact List.mem_take_iff_getElem.mpr ⟨n.val, by simp; omega, by simp⟩
  · simp only [State.instancesOf, List.mem_map, List.mem_range] at here ⊢
    obtain ⟨i, hi, e⟩ := here
    have : i < k := by simpa [← e] using within
    exact List.mem_take_iff_getElem.mpr ⟨i, by simp; omega, by simp [e]⟩

theorem State.setPort_instancesOf (x : PortSt) (q : Port) : (s.setPort q x).instancesOf p = s.instancesOf p := by
  cases p <;> simp [State.instancesOf, State.split_of_force (s := s.setPort q x) (t := s) (by simp)]

end

section
variable {s : State} {f : Func} {wrr : Bool} {mps asqs acqs asq acq : Nat}

theorem execCcEnSet_of_online (here : s.present f = true) (off : (s.fn f).en = false) (on : (s.fn f).state = .online) :
    exec (.ccEnSet f wrr mps asqs acqs asq acq) s = .next ({ s with power := { s.power with clean := false } }.setFn f
      { s.fn f with
        en := true
        rdy := s.readyWhen f && mps ≤ 4
        cfs := (s.fn f).cfs || s.security.rom || s.noMemory || 4 < mps
        wrr := wrr
        mps := mps
        sqs := Tbl.put (s.fn f).sqs 0 (adminSq asqs asq)
        cqs := Tbl.put (s.fn f).cqs 0 (adminCq acqs acq)
        shst := 0 }) := by
  show execCcEnSet f wrr mps asqs acqs asq acq s = _
  simp [execCcEnSet, here, off, on]

theorem execCcEnSet_of_offline (here : s.present f = true) (off : (s.fn f).en = false) (on : (s.fn f).state = .offline) :
    exec (.ccEnSet f wrr mps asqs acqs asq acq) s = .next (s.setFn f { s.fn f with en := true, cfs := true }) := by
  show execCcEnSet f wrr mps asqs acqs asq acq s = _
  simp [execCcEnSet, here, off, on]

theorem execCcEnSet_of_fencing (on : (s.fn f).state = .fencing) :
    exec (.ccEnSet f wrr mps asqs acqs asq acq) s = .next s := by
  show execCcEnSet f wrr mps asqs acqs asq acq s = _
  simp [execCcEnSet, on]

end

/-- Settles O8, from `bringUp` along the port's instances, the fences of row 4, and CC.EN by state. -/
theorem functionsAreEnabledByState : Obligations.FunctionsAreEnabledByState := by
  refine ⟨⟨fun p n s there clear own gone within => ?_, fun p s there set => ?_, fun p k s => ⟨fun set => ?_, fun there clear few boot => ?_⟩⟩,
    fun f wrr mps asqs acqs asq acq s here off => ⟨fun on => ?_, fun on => ?_, fun on => execCcEnSet_of_fencing on⟩⟩
  · refine ⟨?t, ?ran, ?facts⟩
    case ran =>
      show execVfEnableSet p s = _
      rw [execVfEnableSet, if_pos (by simp [there, clear])]
    case facts =>
      dsimp only
      rw [State.setPort_instancesOf, State.port_setPort_same]
      refine ⟨by rw [State.bringUpAll_port, State.port_setPort_same], ?_⟩
      refine State.bringUpAll_of_absent _ (State.instancesOf_nodup.sublist (List.take_sublist _ _))
        (State.mem_take_instancesOf n _ own within) ?_
      exact (congrArg Fn.state (State.setPort_fn _)).trans gone
  · refine ⟨(s.setPort p { s.port p with vfEnable := false }).fenceInstances p 4 true, ?_, ?_, fun n own => ?_⟩
    · show execVfEnableClear p s = _
      rw [execVfEnableClear, if_pos ⟨there, set⟩]
    · unfold State.fenceInstances
      rw [State.fenceAll_port, State.port_setPort_same]
    · have own' : (s.setPort p { s.port p with vfEnable := false }).portOf n.val = p := by
        rw [State.portOf, State.split_of_force (t := s) (by simp)]
        exact own
      have is : ((s.setPort p { s.port p with vfEnable := false }).fenceInstances p 4 true).fn (.inst n)
          = (s.fn (.inst n)).reached 4 true := by
        rw [State.fenceInstances_fn, if_pos ⟨n, rfl, own'⟩, State.setPort_fn]
      refine ⟨fencedBy_of_fenced (v := true) fun here => ?_, fun here => ?_⟩
      · rw [is, Fn.reached, if_neg (by simpa [State.present] using here)]
      · rw [is, Fn.reached, if_neg here]
        unfold Fn.fenced
        cases (s.fn (.inst n)).fence <;> exact ⟨_, rfl, rfl⟩
  · show execNumVfsWrite p k s = _
    rw [execNumVfsWrite, if_neg (by simp [set])]
  · show execNumVfsWrite p k s = _
    rw [execNumVfsWrite, if_pos (by simp [there, clear, few, boot])]
  · refine ⟨_, execCcEnSet_of_online here off on, ?_⟩
    rw [State.fn_setFn_same]
    exact ⟨rfl, rfl, fun above => by simp [above], rfl, rfl, ⟨_, Tbl.find_put_same .., rfl, rfl, rfl, rfl, rfl⟩,
      ⟨_, Tbl.find_put_same .., rfl, rfl, rfl, rfl, rfl⟩, fun g other => State.fn_setFn_ne _ other⟩
  · refine ⟨_, execCcEnSet_of_offline here off on, ?_⟩
    rw [State.fn_setFn_same]
    exact ⟨rfl, rfl, on, fun g other => State.fn_setFn_ne _ other⟩

section
variable {s a : State} {h : Hdr} {n : Fin 1024}

/-- A command that starts, and that nothing of its kind ends, goes on. -/
theorem State.startAdmin_of_starts (starts : Starts s h a) (go : State → State) :
    s.startAdmin h State.adminGate go = go a := by
  obtain ⟨began, fused, gate, entry⟩ := starts
  unfold State.startAdmin State.startWith
  simp [began, fused, gate, entry, orElse]

theorem State.run_of_starts (starts : Starts s h a) (body : State → State × Cpl) :
    s.run h body = ((body a).1).finish h (body a).2 :=
  State.startAdmin_of_starts starts _

theorem State.managerRun_of_starts (starts : AdminStarts s h a) (body : State → State × Cpl) :
    s.managerRun h body = ((body a).1).finish h (body a).2 := by
  unfold State.managerRun
  rw [State.run_of_starts starts.1, if_pos starts.2]

/-- A manager names an instance of its port by its Controller ID. -/
theorem State.ownInstance_of_own (manager : h.fn.isManager = true) (own : a.portOf n.val = a.portOfFn h.fn) :
    a.ownInstance h.fn (0x100 + n.val) = some n := by
  simp [State.ownInstance, instanceOfCntlid, manager, own]

theorem viCount_eq_false {rt nr : Nat} (h : rt ≠ 1 ∨ nr = 0) : viCount rt nr = false := by
  simpa [viCount] using (show rt = 1 → nr = 0 by omega)

theorem viCount_one {nr : Nat} (h : nr ≠ 0) : viCount 1 nr = true := by
  simp [viCount, h]

theorem execSecondaryOffline_of_present {rt nr : Nat} (starts : AdminStarts s h a) (own : a.portOf n.val = a.portOfFn h.fn)
    (count : viCount rt nr = false) (here : (a.fn (.inst n)).state ≠ .absent) :
    exec (.secondaryOffline h (0x100 + n.val) rt nr) s = .next
      (((a.fence (.inst n) 3).setFn (.inst n) { (a.fence (.inst n) 3).fn (.inst n) with
        fence := ((a.fence (.inst n) 3).fn (.inst n)).fence.map fun p =>
          { p with waiters := p.waiters ++ [h], after := if p.after = .absent then .absent else .offline } }).modCtx h
        fun k => { k with wait := .offline n.val }) := by
  show execSecondaryOffline h (0x100 + n.val) rt nr s = _
  unfold execSecondaryOffline
  rw [State.startAdmin_of_starts starts.1]
  simp [starts.2, State.ownInstance_of_own starts.2 own, count, here]

end

/-- Settles O9: each action is one case of its body, run on the instance that the manager names. -/
theorem virtualizationManagementActs : Obligations.VirtualizationManagementActs := by
  intro h n s a starts own
  have named := State.ownInstance_of_own starts.2 own
  refine ⟨fun off => ⟨fun rt nr none_ => ?_, fun k least most pool => ?_, fun k bad => ?_⟩, fun nr some_ => ⟨?_, ?_, ?_⟩,
    fun rt nr none_ here => ⟨fun new => ?_, fun p old => ?_⟩, fun rt k => ?_⟩
  · show execSecondaryOnline h (0x100 + n.val) rt nr s = _
    unfold execSecondaryOnline
    rw [State.managerRun_of_starts starts]
    simp [named, viCount_eq_false none_, off]
  · show execSecondaryAssign h (0x100 + n.val) 0 k s = _
    unfold execSecondaryAssign
    rw [State.managerRun_of_starts starts]
    have fits : ¬ (k = 0 ∨ 64 < k) := by omega
    simp [named, off, fits, pool]
  · show execSecondaryAssign h (0x100 + n.val) 0 k s = _
    unfold execSecondaryAssign
    rw [State.managerRun_of_starts starts]
    simp [named, off, bad, refuse]
  · show execSecondaryOnline h (0x100 + n.val) 1 nr s = _
    unfold execSecondaryOnline
    rw [State.managerRun_of_starts starts]
    simp [named, viCount_one some_, refuse]
  · show execSecondaryOffline h (0x100 + n.val) 1 nr s = _
    unfold execSecondaryOffline
    rw [State.startAdmin_of_starts starts.1]
    simp [starts.2, named, viCount_one some_]
  · show execSecondaryAssign h (0x100 + n.val) 1 nr s = _
    unfold execSecondaryAssign
    rw [State.managerRun_of_starts starts]
    simp [named, some_, refuse]
  · have fenced : (a.fence (.inst n) 3).fn (.inst n) = (a.fn (.inst n)).fenced 3 false :=
      State.fence_fn_same (by simp [State.present, here])
    refine ⟨_, execSecondaryOffline_of_present starts own (viCount_eq_false none_) here, fun _ _ => ?_, ?_⟩
    · rw [State.modCtx_fn, State.fn_setFn_same, fenced]
      simp [Fn.fenced, new]
    · rw [State.modCtx_fn, State.fn_setFn_same, fenced]
      simp [Fn.fenced, new, fenceEnd]
  · have fenced : (a.fence (.inst n) 3).fn (.inst n) = (a.fn (.inst n)).fenced 3 false :=
      State.fence_fn_same (by simp [State.present, here])
    refine ⟨_, { p with waiters := p.waiters ++ [h], after := if p.after = .absent then .absent else .offline },
      execSecondaryOffline_of_present starts own (viCount_eq_false none_) here, ?_, rfl, rfl⟩
    rw [State.modCtx_fn, State.fn_setFn_same, fenced]
    simp [Fn.fenced, old]
  · show execPrimaryFlexibleAllocation h rt k s = _
    unfold execPrimaryFlexibleAllocation
    rw [State.managerRun_of_starts starts]
    split <;> rfl

end Sys2Proof.Machine
end

section
/-! Links, ownership and the deletion of queues (R55 to R58, R81, R84 to R86, R118). -/
namespace Sys2Proof.Machine

section
variable {s : State} {p q : Port} {rate width cap : Nat} {flit rev pol : Bool}

theorem State.trainable_iff : s.trainable p rate width flit = true ↔ 1 ≤ rate ∧ rate ≤ 6 ∧ rate ≤ s.cfg Obj.maxRate ∧
    (rate < 6 ∨ flit = true) ∧ width ∈ [1, 2, 4, 8, 16] ∧
    width ≤ (if s.blockLost 4 then min 8 s.fullWidth else s.fullWidth) ∧ s.halfWorks p = true := by
  simp only [State.trainable, Bool.and_eq_true, decide_eq_true_eq, Bool.or_eq_true, List.contains_iff_mem, Nat.le_min, and_assoc]

theorem execLinkTrained_of_untrainable (no : s.trainable p rate width flit = false) :
    exec (.linkTrained p rate width flit rev pol) s = .next s := by
  show execLinkTrained p rate width flit rev pol s = _
  simp [execLinkTrained, no]

/-- A record touches neither the ports nor the functions. -/
theorem State.record_port (code : Nat) (params : List Nat) (subject domain : Nat) :
    (s.record code params subject domain).port p = s.port p :=
  State.port_of_host (by simp) p

theorem State.record_fn (code : Nat) (params : List Nat) (subject domain : Nat) (f : Func) :
    (s.record code params subject domain).fn f = s.fn f :=
  State.fn_of_fns (by simp) f

/-- A link that trains: its port is as it trained, and nothing of the other functions changes. -/
theorem execLinkTrained_of_trainable (alive : s.cells.linkDead = false) (there : s.portExists p = true)
    (can : s.trainable p rate width flit = true) :
    ∃ t, exec (.linkTrained p rate width flit rev pol) s = .next t ∧ (∀ f, t.fn f = s.fn f) ∧
      t.port p = { s.port p with
        up := true, rate := rate, width := width, flit := flit, laneRev := rev, polInv := pol
        below := rate < 6 || width < s.fullWidth, perst := false, retrain := false } := by
  have start : ¬ (s.cells.linkDead = true ∨ (!s.portExists p) = true ∨ (!s.trainable p rate width flit) = true) := by
    simp [alive, there, can]
  refine ⟨?next, ?ran, ?fns, ?port⟩
  case ran =>
    show execLinkTrained p rate width flit rev pol s = _
    rw [execLinkTrained, if_neg start]
    dsimp only
    rw [← apply_ite Host.Outcome.next]
  case fns =>
    intro f
    split
    · exact (State.record_fn ..).trans (State.setPort_fn _)
    · exact State.setPort_fn _
  case port =>
    split
    · rw [State.record_port, State.port_setPort_same]
    · rw [State.port_setPort_same]

theorem State.recap_fn (f : Func) : (s.recap p cap).fn f = s.fn f := by
  unfold State.recap
  dsimp only
  split
  · rfl
  · split
    · exact (State.record_fn ..).trans (State.setPort_fn _)
    · split
      · exact State.setPort_fn _
      · rfl

theorem State.recap_port_ne (n : q ≠ p) : (s.recap p cap).port q = s.port q := by
  unfold State.recap
  dsimp only
  split
  · rfl
  · split
    · rw [State.record_port, State.port_setPort_ne _ _ n]
    · split
      · exact State.port_setPort_ne _ _ n
      · rfl

/-- A new cap takes no link down, and a link above it goes to it (R58). -/
theorem State.recap_port : ((s.recap p cap).port p).up = (s.port p).up ∧
    ((s.port p).up = true → ((s.recap p cap).port p).rate = min cap (s.port p).rate) := by
  unfold State.recap
  dsimp only
  split
  next down => exact ⟨rfl, fun up => by simp [up] at down⟩
  · split
    next above =>
      rw [State.record_port, State.port_setPort_same]
      exact ⟨rfl, fun _ => by simp [Nat.min_eq_left (Nat.le_of_lt above)]⟩
    next within =>
      split
      · rw [State.port_setPort_same]
        exact ⟨rfl, fun _ => by simp; omega⟩
      · exact ⟨rfl, fun _ => by omega⟩

theorem State.cfg_recap : (s.recap p cap).cfg Obj.maxRate = s.cfg Obj.maxRate := by
  have apart : Obj.maxRate.other 0 0 Obj.dropped ∧ Obj.maxRate.other 0 0 Obj.suppressedTotal := by
    unfold ObjRow.other
    decide
  unfold State.recap
  dsimp only
  split
  · rfl
  · split
    · rw [State.cfg_record _ _ _ _ _ _ _ _ apart.1 apart.2]
      exact State.cfg_of_force (by simp) _ _ _
    · split
      · exact State.cfg_of_force (by simp) _ _ _
      · rfl

/-- Port B's manager asks for a namespace of port A (R81). -/
theorem State.takeOver_pf1 {nsid : Nat} {x : Ns} (dual : s.dual = true) (found : Tbl.find s.store.ns nsid = some x)
    (own : x.owner = .a) (down : (s.port .a).up = false) : s.takeOver .pf1 nsid =
      if s.cfg Obj.takeoverDelay * 1000000 ≤ s.now - (s.port .a).downSince then
        some ({ s with store := { s.store with ns := Tbl.put s.store.ns nsid { x with owner := .b } } }.record 0x0202
          [nsid, portNum .b])
      else none := by
  unfold State.takeOver
  simp [found, State.portOfAcc, own, dual, down]

end

/-- Settles O10: training by `trainable`, the cap by `recap` of each port, the takeover by its one condition. -/
theorem linkTrainsAndOwnershipMoves : Obligations.LinkTrainsAndOwnershipMoves := by
  refine ⟨fun p rate width flit rev pol s bad => ?_,
    fun p rate width flit rev pol s alive there half full least most cap six lanes fits => ?_,
    fun rate s least most => ?_, fun nsid now x s dual found own down later => ?_⟩
  · refine execLinkTrained_of_untrainable (Bool.eq_false_iff.mpr fun can => ?_)
    obtain ⟨-, -, cap, six, lanes, fits, -⟩ := State.trainable_iff.mp can
    have fits' : width ≤ s.fullWidth := by split at fits <;> omega
    rcases bad with ⟨rfl, slow⟩ | above | wide | odd
    · simp [slow] at six
    · omega
    · omega
    · exact odd lanes
  · have can : s.trainable p rate width flit = true := State.trainable_iff.mpr
      ⟨least, most, cap, by rcases Nat.lt_or_ge rate 6 with h | h
                            · exact .inl h
                            · exact .inr (six (by omega)), lanes, by simpa [full] using fits, half⟩
    obtain ⟨t, ran, fns, port⟩ := execLinkTrained_of_trainable (rev := rev) (pol := pol) alive there can
    refine ⟨t, ran, ?_⟩
    rw [port]
    exact ⟨rfl, rfl, rfl, rfl, rfl, rfl, rfl, fns⟩
  · refine ⟨s.writeMaxRate rate, ?_, ?_, fun p => ?_, fun f => ?_⟩
    · show (if 3 ≤ rate ∧ rate ≤ 6 then _ else _) = _
      rw [if_pos ⟨least, most⟩]
    · unfold State.writeMaxRate
      rw [State.cfg_recap, State.cfg_recap, State.cfg_save_same]
    · unfold State.writeMaxRate
      have saved : ∀ q, (s.save Obj.maxRate rate).port q = s.port q := State.port_of_host (by simp)
      cases p
      · rw [State.recap_port_ne (by simp), ← saved]
        exact State.recap_port
      · rw [← saved, ← State.recap_port_ne (s := s.save Obj.maxRate rate) (p := .a) (cap := rate) (by simp)]
        exact State.recap_port
    · unfold State.writeMaxRate
      rw [State.recap_fn, State.recap_fn]
      exact State.fn_of_fns (by simp) f
  · have now' : (s.tick now).now = now := by simp [State.tick, later]
    have port : (s.tick now).port .a = s.port .a := State.port_of_host (by simp) _
    have delay : (s.tick now).cfg Obj.takeoverDelay = s.cfg Obj.takeoverDelay := State.cfg_of_force (by simp) _ _ _
    have asked := State.takeOver_pf1 (s := s.tick now) (nsid := nsid) (x := x)
      ((State.dual_of_force (by simp)).trans dual) found own (by rw [port, down])
    rw [now', port, delay] at asked
    have ran : exec (.ownerTakeover .pf1 nsid now) s = .next (((s.tick now).takeOver .pf1 nsid).getD (s.tick now)) := rfl
    rw [asked] at ran
    refine ⟨fun long => ?_, fun short => ?_⟩
    · rw [if_pos long] at ran
      exact ⟨_, ran, by simp [Tbl.find_put_same]⟩
    · rw [if_neg (by omega)] at ran
      exact ran

section
variable {s a : State} {h : Hdr} {k : Cpl}

/-- The completion of a command that all of a list of commands get: where it is open, it ends with it once it is listed. -/
theorem State.ctx_finishAll (l : List Hdr) {c : Ctx} (hc : s.ctx? h = some c) :
    ∃ d, (l.foldl (fun a g => a.finish g k) s).ctx? h = some d ∧
      (c.done = some k ∨ (c.done = none ∧ h ∈ l) → d.done = some k) := by
  induction l generalizing s c with
  | nil => exact ⟨c, hc, by simp⟩
  | cons g l ih =>
    by_cases is : g = h
    · subst is
      obtain ⟨d, hd, done⟩ := ih (State.ctx_finish_same k hc)
      refine ⟨d, hd, fun ended => done (.inl ?_)⟩
      rw [Ctx.ended_done]
      rcases ended with is | ⟨is, -⟩ <;> simp [is]
    · obtain ⟨d, hd, done⟩ := ih ((State.ctx_finish_ne k (Ne.symm is)).trans hc)
      refine ⟨d, hd, fun ended => done (ended.imp_right fun ⟨open_, listed⟩ => ⟨open_, ?_⟩)⟩
      exact (List.mem_cons.mp listed).resolve_left (Ne.symm is)

/-- A command that is neither admitted nor has moved data is open to the abort of R118. -/
def Ctx.idle (c : Ctx) : Prop := c.done = none ∧ c.admitted = false ∧ c.moved = false

theorem State.abortIdle_of_idle {st : Status} {c : Ctx} (idle : c.idle) : s.abortIdle st c = s.finish c.hdr (Cpl.of st) :=
  if_pos (by obtain ⟨open_, out, still⟩ := idle; simp [open_, out, still])

theorem State.abortIdle_of_busy {st : Status} {c : Ctx} (busy : ¬ c.idle) : s.abortIdle st c = s :=
  if_neg fun h => busy (by simpa [Ctx.idle] using h)

theorem State.abortIdle_fn (st : Status) (c : Ctx) (f : Func) : (s.abortIdle st c).fn f = s.fn f := by
  unfold State.abortIdle
  split <;> rfl

theorem State.abortAll_fn (st : Status) (l : List Ctx) (f : Func) :
    (l.foldl (fun b c => b.abortIdle st c) s).fn f = s.fn f := by
  induction l generalizing s with
  | nil => rfl
  | cons c l ih => rw [List.foldl_cons, ih, State.abortIdle_fn]

/-- A context after a completion of some command. -/
theorem mem_ctxs_finish {c : Ctx} (hc : c ∈ s.host.ctxs) : ∃ d ∈ (s.finish h k).host.ctxs, d.hdr = c.hdr ∧
    (c.done = some k ∨ (c.done = none ∧ h = c.hdr) → d.done = some k) ∧ (c.done = none → h ≠ c.hdr → d.done = none) := by
  refine ⟨_, List.mem_map_of_mem hc, ?_⟩
  by_cases is : h = c.hdr
  · by_cases open_ : c.done = none <;> simp [Ctx.is, is, open_]
  · simp [Ctx.is, is, Ne.symm is]

/-- The contexts of a list of commands that are aborted with one status. -/
theorem mem_ctxs_abortAll {st : Status} (l : List Ctx) {c : Ctx} (hc : c ∈ s.host.ctxs) :
    ∃ d ∈ (l.foldl (fun b e => b.abortIdle st e) s).host.ctxs, d.hdr = c.hdr ∧
      (c.done = some (Cpl.of st) ∨ (c.done = none ∧ ∃ e ∈ l, e.hdr = c.hdr ∧ e.idle) → d.done = some (Cpl.of st)) := by
  induction l generalizing s c with
  | nil => exact ⟨c, hc, rfl, by simp⟩
  | cons e l ih =>
    rw [List.foldl_cons]
    by_cases idle : e.idle
    · rw [State.abortIdle_of_idle idle]
      obtain ⟨d, hd, hdr, ended, kept⟩ := mem_ctxs_finish (h := e.hdr) (k := Cpl.of st) hc
      obtain ⟨b, hb, hdr', ended'⟩ := ih hd
      refine ⟨b, hb, hdr'.trans hdr, ?_⟩
      rintro (done | ⟨open_, x, hx, same, still⟩)
      · exact ended' (.inl (ended (.inl done)))
      · by_cases is : e.hdr = c.hdr
        · exact ended' (.inl (ended (.inr ⟨open_, is⟩)))
        · refine ended' (.inr ⟨kept open_ is, x, ?_, same.trans hdr.symm, still⟩)
          exact (List.mem_cons.mp hx).resolve_left fun h => is (h ▸ same)
    · rw [State.abortIdle_of_busy idle]
      obtain ⟨b, hb, hdr', ended'⟩ := ih hc
      refine ⟨b, hb, hdr', fun ended => ended' (ended.imp_right fun ⟨open_, x, hx, same, still⟩ => ⟨open_, x, ?_, same, still⟩)⟩
      exact (List.mem_cons.mp hx).resolve_left fun h => idle (h ▸ still)

end

/-- A command that runs to its end in one step: what its body gives. -/
def closeRun (h : Hdr) (r : State × Cpl) : State := r.1.finish h r.2

section
variable {s a : State} {h : Hdr} {qid : Nat}

@[simp] theorem closeRun_refuse (st : Status) : closeRun h (refuse st a) = a.finish h (Cpl.of st) := rfl

@[simp] theorem closeRun_mk (k : Cpl) : closeRun h (a, k) = a.finish h k := rfl

@[simp] theorem closeRun_ite {p : Prop} [Decidable p] (x y : State × Cpl) :
    closeRun h (if p then x else y) = if p then closeRun h x else closeRun h y := apply_ite ..

theorem State.run_closes (starts : Starts s h a) (body : State → State × Cpl) : s.run h body = closeRun h (body a) :=
  State.run_of_starts starts body

/-- A submission queue that is being deleted: its open commands that are idle abort. -/
def State.deletingSq (a : State) (h : Hdr) (qid : Nat) (x : Fn) : State :=
  ((a.host.ctxs.filter (Ctx.inQueue h.fn qid)).foldl (fun b c => b.abortIdle .abortedSqDeletion c) (a.setFn h.fn x)).modCtx h
    fun k => { k with wait := .deleteSq qid }

theorem execDeleteIoSubmissionQueue_of_queue {q : Sq} (starts : Starts s h a) (io : qid ≠ 0)
    (found : Tbl.find (a.fn h.fn).sqs qid = some q) :
    ∃ x : Fn, exec (.deleteIoSubmissionQueue h qid) s = .next ((a.deletingSq h qid x).endDeletion h.fn qid) ∧
      Tbl.find x.sqs qid = some { q with deleting := q.deleting ++ [h], bell := none } := by
  refine ⟨?x, ?ran, ?queue⟩
  case ran =>
    show execDeleteIoSubmissionQueue h qid s = _
    unfold execDeleteIoSubmissionQueue
    rw [State.startAdmin_of_starts starts]
    dsimp only
    rw [if_neg io, found]
    rfl
  case queue => exact Tbl.find_put_same ..

theorem State.deletingSq_fn (x : Fn) : (a.deletingSq h qid x).fn h.fn = x := by
  unfold State.deletingSq
  rw [State.modCtx_fn, State.abortAll_fn, State.fn_setFn_same]

/-- A context under a change of one command's context that leaves completions and commands alone. -/
theorem mem_ctxs_modCtx {c : Ctx} (g : Ctx → Ctx) (same : ∀ c, (g c).hdr = c.hdr ∧ (g c).done = c.done)
    (hc : c ∈ a.host.ctxs) : ∃ d ∈ (a.modCtx h g).host.ctxs, d.hdr = c.hdr ∧ d.done = c.done := by
  refine ⟨_, List.mem_map_of_mem hc, ?_⟩
  split
  · exact same c
  · exact ⟨rfl, rfl⟩

/-- While a command of the queue is left, the deletion waits. -/
theorem State.endDeletion_of_busy {f : Func} {c : Ctx} (hc : c ∈ a.host.ctxs) (mine : c.inQueue f qid = true) :
    a.endDeletion f qid = a := by
  unfold State.endDeletion
  dsimp only
  split
  · exact if_pos (.inr (List.any_eq_true.mpr ⟨c, hc, mine⟩))
  · rfl

theorem State.endDeletion_of_empty {f : Func} {q : Sq} (found : Tbl.find (a.fn f).sqs qid = some q) (asked : q.deleting ≠ [])
    (empty : a.host.ctxs.any (Ctx.inQueue f qid) = false) : a.endDeletion f qid
      = q.deleting.foldl (fun a h => a.finish h Cpl.ok) (a.setFn f { a.fn f with sqs := Tbl.del (a.fn f).sqs qid }) := by
  unfold State.endDeletion
  simp [found, asked, empty]

end

/-- Settles O12. -/
theorem queuesAreCreatedAndDeleted : Obligations.QueuesAreCreatedAndDeleted := by
  refine ⟨fun h q newCq newSq s a starts cq sq => ⟨?_, ?_⟩, fun h qid s a starts io => ⟨fun found => ?_, fun q found => ⟨?_, fun empty => ?_⟩⟩⟩
  · subst cq
    show execCreateIoCompletionQueue h q s = _
    unfold execCreateIoCompletionQueue
    rw [State.run_closes starts]
    simp only [closeRun_ite, closeRun_refuse, closeRun_mk]
    exact congrArg _ (ite_of_iff (by simp) rfl (ite_of_iff Iff.rfl rfl (ite_of_iff Iff.rfl rfl (ite_of_iff Iff.rfl rfl rfl))))
  · subst sq
    show execCreateIoSubmissionQueue h q s = _
    unfold execCreateIoSubmissionQueue
    rw [State.run_closes starts]
    simp only [closeRun_ite, closeRun_refuse, closeRun_mk]
    exact congrArg _ (ite_of_iff (by simp) rfl (ite_of_iff Iff.rfl rfl (ite_of_iff Iff.rfl rfl (ite_of_iff Iff.rfl rfl
      (ite_of_iff (by simp) rfl rfl)))))
  · show execDeleteIoCompletionQueue h qid s = _
    unfold execDeleteIoCompletionQueue
    rw [State.run_closes starts]
    simp only [closeRun_ite, closeRun_refuse, closeRun_mk]
    rw [if_neg (by simp [io, found])]
    rfl
  · obtain ⟨x, ran, queue⟩ := execDeleteIoSubmissionQueue_of_queue starts io found
    refine ⟨_, ran, fun c hc own inq open_ out still => ?_⟩
    have mine : c.inQueue h.fn qid = true := by simp [Ctx.inQueue, own, inq]
    obtain ⟨d, hd, hdr, done⟩ := mem_ctxs_abortAll (s := a.setFn h.fn x) (st := .abortedSqDeletion)
      (a.host.ctxs.filter (Ctx.inQueue h.fn qid)) hc
    obtain ⟨e, he, hdr', done'⟩ := mem_ctxs_modCtx (h := h) (fun k => { k with wait := .deleteSq qid }) (fun _ => ⟨rfl, rfl⟩) hd
    have stays : (a.deletingSq h qid x).endDeletion h.fn qid = a.deletingSq h qid x :=
      State.endDeletion_of_busy he (by simp [Ctx.inQueue, hdr', hdr, own, inq])
    rw [stays]
    refine ⟨⟨e, he, hdr'.trans hdr, ?_⟩, _, by rw [State.deletingSq_fn, queue], by simp [Sq.unfetched]⟩
    rw [done', done (.inr ⟨open_, c, List.mem_filter.mpr ⟨hc, mine⟩, rfl, open_, out, still⟩)]
    rfl
  · obtain ⟨x, ran, queue⟩ := execDeleteIoSubmissionQueue_of_queue starts io found
    have none_ : a.host.ctxs.filter (Ctx.inQueue h.fn qid) = [] :=
      List.filter_eq_nil_iff.mpr fun c hc => by simpa [Ctx.inQueue] using empty c hc
    have plain : a.deletingSq h qid x = (a.setFn h.fn x).modCtx h fun k => { k with wait := .deleteSq qid } := by
      rw [State.deletingSq, none_, List.foldl_nil]
    have idle : (a.deletingSq h qid x).host.ctxs.any (Ctx.inQueue h.fn qid) = false := by
      rw [plain]
      simp only [List.any_eq_false, State.modCtx]
      intro c hc
      obtain ⟨d, hd, rfl⟩ := List.mem_map.mp hc
      have := empty d hd
      split <;> simpa [Ctx.inQueue] using this
    rw [State.endDeletion_of_empty (State.deletingSq_fn x ▸ queue) (by simp) idle] at ran
    obtain ⟨c, hc, open_⟩ := State.ctx_of_begin starts.1
    obtain ⟨d, hd, done⟩ := State.ctx_finishAll (k := Cpl.ok) (h := h) (q.deleting ++ [h])
      (s := (a.deletingSq h qid x).setFn h.fn { (a.deletingSq h qid x).fn h.fn with
        sqs := Tbl.del ((a.deletingSq h qid x).fn h.fn).sqs qid })
      (c := { c with wait := .deleteSq qid })
      (by rw [State.setFn_ctx, plain]; exact State.ctx_modCtx_same _ (fun _ => rfl) hc)
    refine ⟨_, d, ran, ?_, hd, done (.inr ⟨open_, by simp⟩)⟩
    rw [State.finishAll_fn, State.fn_setFn_same, Tbl.find_del_same]

end Sys2Proof.Machine
end

section
/-! Lanes, requests and the configuration plane of the fabric (R31 to R34). -/
namespace Sys2Proof.Machine

section
variable {s : State}

theorem LaneErr.due_iff (e : LaneErr) : e.due = true ↔ e.hard = true ∨ 64 < e.count := by
  simp [LaneErr.due]

/-- A stopped device has a dead link, and port A has no link (R31). -/
theorem State.stopDevice_facts (fault : Nat) :
    (s.stopDevice fault).cells.linkDead = true ∧ ((s.stopDevice fault).port .a).up = false := by
  unfold State.stopDevice
  dsimp only
  split
  · refine ⟨by simp, ?_⟩
    rw [State.dropLink_port_ne (by simp), State.fencePort_port]
    exact State.dropLink_up
  · exact ⟨by simp, State.dropLink_up⟩

/-- What sparing a lane out records, before a link without a lane stops the device. -/
def State.laneSpared (s : State) (x : Fin 12) (y : Fin 10) (port lane : Fin 4) : State :=
  let out := s.lanesOut x.val y.val port.val
  let s1 := { s with cells := { s.cells with
    laneErrs := Tbl.del s.cells.laneErrs (laneKey x.val y.val port.val lane.val)
    lanesOut := Tbl.put s.cells.lanesOut (routerKey x.val y.val * 6 + port.val) (out ||| 2 ^ lane.val) } }
  (if out = 0 then s1.bump Obj.lanesSpared else s1).record 0x0103 [x.val, y.val, port.val, lane.val] 0xFFFF
    (50 + quadrantOf x.val y.val)

variable {x : Fin 12} {y : Fin 10} {port lane : Fin 4}

theorem State.laneSpared_cells : (s.laneSpared x y port lane).cells = { s.cells with
    laneErrs := Tbl.del s.cells.laneErrs (laneKey x.val y.val port.val lane.val)
    lanesOut := Tbl.put s.cells.lanesOut (routerKey x.val y.val * 6 + port.val)
      (s.lanesOut x.val y.val port.val ||| 2 ^ lane.val) } := by
  unfold State.laneSpared
  dsimp only
  split <;> simp

theorem State.laneSpared_frame : (s.laneSpared x y port lane).modes = s.modes ∧ (s.laneSpared x y port lane).host = s.host ∧
    (s.laneSpared x y port lane).store = s.store := by
  unfold State.laneSpared
  dsimp only
  split <;> simp

theorem execLaneSpare_of_due (due : (s.laneErr (laneKey x.val y.val port.val lane.val)).due = true)
    (used : (s.lanesOut x.val y.val port.val).testBit lane.val = false) :
    exec (.laneSpare x y port lane) s = .next (if s.lanesOut x.val y.val port.val ||| 2 ^ lane.val = 15 then
      (s.laneSpared x y port lane).stopDevice (2 ^ 31 + x.val * 2 ^ 16 + y.val * 2 ^ 8 + port.val)
      else s.laneSpared x y port lane) := by
  show execLaneSpare x y port lane s = _
  unfold execLaneSpare
  dsimp only
  rw [if_neg (by simp [due, used]), apply_ite Host.Outcome.next]
  rfl

/-- A request that nobody answered, given up after its fourth timeout. -/
theorem execFabricTimeout_of_request {tag now : Nat} {r : FabricReq}
    (found : s.cells.reqs.find? (·.tag = tag) = some r) (runs : (s.tick now).timeoutRuns r = true) :
    exec (.fabricTimeout tag now) s = .next (
      if (s.tick now).now < r.since + 1000 * s.cfg Obj.fabricTimeout then s.tick now
      else if r.reissues < 3 then (s.tick now).reissue r
      else { s.tick now with cells := { s.cells with reqs := s.cells.reqs.filter (·.tag ≠ tag) } }.giveUp r.consumer) := by
  show execFabricTimeout tag now s = _
  unfold execFabricTimeout
  dsimp only
  have cells : (s.tick now).cells = s.cells := by simp
  have cfg : (s.tick now).cfg Obj.fabricTimeout = s.cfg Obj.fabricTimeout := rfl
  rw [cells, found, cfg]
  simp only [runs, Bool.not_true, Bool.false_eq_true, false_or]
  split
  · rfl
  · split <;> rfl

end

/-- Settles O5. -/
theorem lanesSparedAndRequestsReissued : Obligations.LanesSparedAndRequestsReissued := by
  refine ⟨fun x y port lane s => ⟨fun bad used => ?_, fun soft few => ?_⟩, fun tag s => rfl,
    fun tag now r s a ticked found runs => ?_, fun r s k key room => ?_⟩
  · have ran := execLaneSpare_of_due (LaneErr.due_iff _ |>.mpr bad) used
    refine ⟨_, ran, ?_, fun some_ => ?_, fun none_ => ?_⟩
    · have cells : (if s.lanesOut x.val y.val port.val ||| 2 ^ lane.val = 15 then
          (s.laneSpared x y port lane).stopDevice (2 ^ 31 + x.val * 2 ^ 16 + y.val * 2 ^ 8 + port.val)
          else s.laneSpared x y port lane).cells.lanesOut = (s.laneSpared x y port lane).cells.lanesOut := by
        split
        · unfold State.stopDevice
          dsimp only
          split <;> simp
        · rfl
      unfold State.lanesOut at *
      rw [cells, State.laneSpared_cells]
      exact Tbl.get_put_same ..
    · rw [if_neg some_]
      obtain ⟨modes, host, store⟩ := s.laneSpared_frame (x := x) (y := y) (port := port) (lane := lane)
      exact ⟨modes, by rw [State.laneSpared_cells], host, store⟩
    · rw [if_pos none_]
      exact State.stopDevice_facts _
  · show execLaneSpare x y port lane s = _
    unfold execLaneSpare
    rw [if_pos (.inl (by simp [LaneErr.due, soft, few]))]
  · subst ticked
    rw [execFabricTimeout_of_request found runs]
    refine ⟨fun early => by rw [if_pos early], fun late => ?_⟩
    rw [if_neg (by omega)]
    refine ⟨fun few => by rw [if_pos few], fun third => ?_⟩
    rw [if_neg (by omega)]
    refine ⟨fun c asked live => ?_, fun h asked => by rw [asked]; rfl⟩
    rw [asked]
    obtain ⟨role, reason, -, -, -, reqs⟩ := State.fenceCell_facts
      { s.tick now with cells := { s.cells with reqs := s.cells.reqs.filter (·.tag ≠ tag) } } c.val 4 c.isLt live (by decide)
    refine ⟨_, rfl, fun q hq => ?_, role, reason⟩
    exact of_decide_eq_true (List.mem_filter.mp (reqs ▸ hq : q ∈ s.cells.reqs.filter _)).2
  · subst key
    refine ⟨_, rfl, ?_⟩
    unfold State.reissue
    dsimp only
    rw [if_pos]
    · rfl
    · exact decide_eq_true room

section
variable {s : State}

/-- What the routers leave alone: which links are parked, and what the configuration plane has logged. -/
theorem State.grant_parked (x y o : Nat) : (s.grant x y o).cells.parked = s.cells.parked ∧
    (s.grant x y o).cells.ring = s.cells.ring := by
  have aged : ∀ (l : List (Nat × Packet)) (a : State), (l.foldl (fun a e => a.ageHead x y e.1) a).cells.parked = a.cells.parked ∧
      (l.foldl (fun a e => a.ageHead x y e.1) a).cells.ring = a.cells.ring := by
    intro l
    induction l with
    | nil => exact fun a => ⟨rfl, rfl⟩
    | cons e l ih =>
      intro a
      rw [List.foldl_cons, (ih _).1, (ih _).2]
      unfold State.ageHead
      dsimp only
      split <;> exact ⟨rfl, rfl⟩
  have delivered : ∀ (a : State) (p : Packet), (a.deliver p).cells.parked = a.cells.parked ∧
      (a.deliver p).cells.ring = a.cells.ring := by
    intro a p
    unfold State.deliver
    split
    · exact ⟨rfl, rfl⟩
    · split
      · exact ⟨rfl, rfl⟩
      · cases p.vc
        case request => dsimp only; split <;> exact ⟨rfl, rfl⟩
        all_goals exact ⟨rfl, rfl⟩
  unfold State.grant
  dsimp only
  split
  · exact ⟨rfl, rfl⟩
  · split
    · rw [(delivered _ _).1, (delivered _ _).2]
      exact aged _ _
    · exact aged _ _

theorem State.settleFabric_parked : s.settleFabric.cells.parked = s.cells.parked ∧ s.settleFabric.cells.ring = s.cells.ring := by
  unfold State.settleFabric
  generalize 21 * _ = fuel
  induction fuel generalizing s with
  | zero => exact ⟨rfl, rfl⟩
  | succ fuel ih =>
    unfold State.grants
    split
    · rw [ih.1, ih.2]
      exact State.grant_parked _ _ _
    · exact ⟨rfl, rfl⟩

theorem State.signalReady_of_on {d : Nat} (serves : s.domainOn d = true) (on : (s.domain d).state = .on) :
    (s.signalReady d).cells.parked = s.cells.parked.filter (· ≠ d) ∧ (s.signalReady d).cells.ring = s.cells.ring := by
  unfold State.signalReady State.unpark
  rw [if_pos ⟨serves, on⟩]
  simp [State.settleFabric_parked]

theorem execConfigPlaneMessage_of_sent {d : Fin 56} {m : CfgMsg} {airing : Bool} {n : Nat} (may : s.planeOpen airing = true)
    (acked : n ≤ 3) : exec (.configPlaneMessage d m airing n) s
      = .next ({ s with cells := { s.cells with ring := s.cells.ring ++ [(d.val, m)] } }.planeAct d.val m) := by
  show execConfigPlaneMessage d m airing n s = _
  simp [execConfigPlaneMessage, may, Nat.not_lt.mpr acked]

theorem execConfigPlaneMessage_of_lost {d : Fin 56} {m : CfgMsg} {airing : Bool} {n : Nat} (may : s.planeOpen airing = true)
    (lost : 3 < n) : exec (.configPlaneMessage d m airing n) s = .next (s.loseDomain d.val) := by
  show execConfigPlaneMessage d m airing n s = _
  simp [execConfigPlaneMessage, may, lost]

theorem execConfigPlaneMessage_of_closed {d : Fin 56} {m : CfgMsg} {airing : Bool} {n : Nat} (shut : s.planeOpen airing = false) :
    exec (.configPlaneMessage d m airing n) s = .next s := by
  show execConfigPlaneMessage d m airing n s = _
  simp [execConfigPlaneMessage, shut]

/-- A domain that is neither a port half, nor of a channel group, a DRAM channel or a quadrant takes its cells alone. -/
theorem State.loseDomain_of_cells {d : Nat} (h : 10 ≤ d ∧ d ≤ 33 ∨ 54 ≤ d) : s.loseDomain d = s.failDomain d := by
  have quadrant : ∀ x y, quadrantOf x y ≤ 3 := by
    intro x y
    unfold quadrantOf
    split <;> split <;> omega
  have groups : lostGroups d = [] := by
    refine List.filter_eq_nil_iff.mpr fun g hg => ?_
    have := List.mem_range.mp hg
    have := quadrant (groupNode g).1 (groupNode g).2
    simp only [decide_eq_true_eq]
    omega
  have dram : lostDram d = [] := by
    refine List.filter_eq_nil_iff.mpr fun c hc => ?_
    have := List.mem_range.mp hc
    have := quadrant (dramNode c).1 (dramNode c).2
    simp only [decide_eq_true_eq]
    omega
  unfold State.loseDomain
  rw [groups, dram]
  simp only [List.foldl_nil]
  rw [if_neg (by omega), if_neg (by omega)]

/-- Fencing a cell changes no object but its own three. -/
theorem State.cfg_fenceCell_ne {q : ObjRow} {i j c r : Nat} (dropped : q.other i j Obj.dropped)
    (suppressed : q.other i j Obj.suppressedTotal) (role : q.key i j ≠ Obj.cellRole.key c 0)
    (reason : q.key i j ≠ Obj.fenceReason.key c 0) (count : q.key i j ≠ Obj.fenceCount.key c 0) :
    (s.fenceCell c r).cfg q i j = s.cfg q i j := by
  unfold State.fenceCell
  dsimp only
  split
  · rfl
  · rw [State.cfg_foldl _ _ fun a w => State.cfg_of_force (by simp) _ _ _]
    have kept : ∀ a : State, a.dict.force = (((s.save Obj.cellRole 7 c).save Obj.fenceReason r c).bump Obj.fenceCount 1 c).dict.force →
        ((a.save Obj.fenceCount (a.cfg Obj.fenceCount c) c)).cfg q i j = s.cfg q i j := by
      intro a same
      rw [State.cfg_save_ne _ _ _ _ _ _ _ _ count, State.cfg_of_force same, State.cfg_bump_ne _ _ _ _ _ _ _ _ count,
        State.cfg_save_ne _ _ _ _ _ _ _ _ reason, State.cfg_save_ne _ _ _ _ _ _ _ _ role]
    split <;> exact (State.cfg_record _ _ _ _ _ _ _ _ dropped suppressed).trans (kept _ rfl)

theorem State.cellRole_fenceCell_ne {c d r : Nat} (hd : d < 96) (other : d ≠ c) :
    (s.fenceCell c r).cellRole d = s.cellRole d := by
  unfold State.cellRole
  refine State.cfg_fenceCell_ne ?_ ?_ ?_ ?_ ?_ <;>
    simp only [ObjRow.other, ObjRow.key, Obj.cellRole, Obj.fenceReason, Obj.fenceCount, Obj.dropped, Obj.suppressedTotal] <;> omega

theorem State.cellRole_fenceCell_same {c r : Nat} (hc : c < 96) (hr : r ≤ 5) : (s.fenceCell c r).cellRole c = 7 := by
  by_cases h : s.cellRole c = 7
  · rw [State.fenceCell, if_pos h, h]
  · exact (s.fenceCell_facts c r hc h hr).1

/-- A list of cells that are fenced are FENCED. -/
theorem State.cellRole_fenceAll {r c : Nat} (hr : r ≤ 5) (hc : c < 96) (l : List Nat) (h : c ∈ l ∨ s.cellRole c = 7) :
    (l.foldl (fun a c => a.fenceCell c r) s).cellRole c = 7 := by
  induction l generalizing s with
  | nil => simpa using h
  | cons d l ih =>
    refine ih ?_
    by_cases is : c = d
    · subst is
      exact .inr (State.cellRole_fenceCell_same hc hr)
    · rw [State.cellRole_fenceCell_ne hc is]
      exact h.imp_left fun h => (List.mem_cons.mp h).resolve_left is

theorem State.failDomain_reported (d : Nat) :
    (s.failDomain d).cfg Obj.domainsFailed = s.cfg Obj.domainsFailed ||| 2 ^ d := by
  have apart : ∀ (a : State) (c : Nat), (a.fenceCell c 4).cfg Obj.domainsFailed = a.cfg Obj.domainsFailed := fun a c =>
    State.cfg_fenceCell_ne (by unfold ObjRow.other; decide) (by unfold ObjRow.other; decide)
      (by simp only [ObjRow.key, Obj.cellRole, Obj.domainsFailed]; omega)
      (by simp only [ObjRow.key, Obj.fenceReason, Obj.domainsFailed]; omega)
      (by simp only [ObjRow.key, Obj.fenceCount, Obj.domainsFailed]; omega)
  unfold State.failDomain
  rw [State.cfg_foldl _ _ apart, State.cfg_keep_same]

end

/-- Settles O6. -/
theorem planeMessageTakesEffectInOrder : Obligations.PlaneMessageTakesEffectInOrder := by
  refine ⟨fun d n m airing s => ⟨?_, ?_⟩, fun d n mhz airing s may acked => ?_,
    fun d s serves on => ⟨⟨_, rfl, (State.signalReady_of_on serves on).1⟩, fun n airing may acked => ?_⟩,
    fun d s off => ?_, fun d n c airing s may acked group => ?_, fun d n c airing s may acked own spare => ?_,
    fun d n m airing s may lost => ⟨fun high => ?_, fun low top => ?_⟩⟩
  · rintro rfl off
    exact execConfigPlaneMessage_of_closed (by simp [State.planeOpen, off])
  · rintro rfl on
    exact execConfigPlaneMessage_of_closed (by simp [State.planeOpen, on])
  · exact ⟨_, execConfigPlaneMessage_of_sent may acked, Tbl.get_set_same .., rfl, rfl⟩
  · refine ⟨_, execConfigPlaneMessage_of_sent may acked, ?_⟩
    exact State.signalReady_of_on (s := { s with cells := { s.cells with ring := s.cells.ring ++ [(d.val, .ready)] } }) serves on
  · show Host.Outcome.next (s.signalReady d.val) = _
    rw [State.signalReady, if_neg fun h => off h.2]
  · rw [execConfigPlaneMessage_of_sent may acked]
    exact congrArg _ (if_pos group)
  · refine ⟨_, execConfigPlaneMessage_of_sent may acked, ?_⟩
    have is : State.planeAct { s with cells := { s.cells with ring := s.cells.ring ++ [(d.val, .role c .host)] } } d.val
        (.role c .host) = State.commitRole { s with cells := { s.cells with ring := s.cells.ring ++ [(d.val, .role c .host)] } }
        c.val 1 := if_pos own
    have spare' : State.cellRole { s with cells := { s.cells with ring := s.cells.ring ++ [(d.val, .role c .host)] } } c.val = 0 := spare
    rw [is, State.commitRole]
    dsimp only
    rw [spare', if_neg (by decide), if_neg (by decide), State.cell_setCell_same]
    exact ⟨rfl, rfl, spare, rfl⟩
  · rw [execConfigPlaneMessage_of_lost may lost, State.loseDomain_of_cells (.inr high)]
    have cells : lostCells d.val = [] := by
      rw [lostCells, if_neg (by omega), domainCells, if_neg (by omega)]
    rw [State.failDomain, cells, List.foldl_nil]
  · rw [execConfigPlaneMessage_of_lost may lost, State.loseDomain_of_cells (.inl ⟨low, top⟩)]
    refine ⟨_, rfl, State.failDomain_reported d.val, fun c own => ?_⟩
    refine State.cellRole_fenceAll (by decide) c.isLt _ (.inl ?_)
    rw [lostCells, if_neg (by omega), domainCells, if_pos ⟨low, top⟩]
    simp only [cellDomain] at own
    simp only [List.mem_map, List.mem_range]
    exact ⟨c.val % 4, by omega, by omega⟩

end Sys2Proof.Machine
end

section
/-! Entries of the comparison table and of completion queues, and the summary lines (R90 to R100, R108). -/
namespace Sys2Proof.Machine

section
variable {s a : State} {h : Hdr} {c : Ctx} {k : Cpl} {q : Cq}

/-- The number that a command waits for entries under (R108). -/
def Ctx.waiting (c : Ctx) : Option (Nat × Ctx) :=
  match c.wait with
  | .entries n => some (n, c)
  | _ => none

/-- The earlier of two commands that wait for entries; of the same number, the first. -/
def earlier (m : Option (Nat × Ctx)) (e : Nat × Ctx) : Option (Nat × Ctx) :=
  match m with
  | none => some e
  | some f => if e.1 < f.1 then some e else some f

theorem State.firstWaiter_eq : s.firstWaiter = ((s.host.ctxs.filterMap Ctx.waiting).foldl earlier none).map (·.2) := rfl

/-- The earliest of a list: it is one of them, and none is before it. -/
theorem foldl_earlier (l : List (Nat × Ctx)) (m : Option (Nat × Ctx)) (e : Nat × Ctx) (h : l.foldl earlier m = some e) :
    (e ∈ l ∨ m = some e) ∧ (∀ f ∈ l, e.1 ≤ f.1) ∧ ∀ f, m = some f → e.1 ≤ f.1 := by
  induction l generalizing m with
  | nil => exact ⟨.inr h, by simp, fun f hf => by cases hf.symm.trans h; exact Nat.le_refl _⟩
  | cons x l ih =>
    obtain ⟨from_, least, before⟩ := ih _ h
    cases m with
    | none =>
      have := before x rfl
      refine ⟨.inl ?_, ?_, by simp⟩
      · rcases from_ with mem | is
        · exact List.mem_cons_of_mem _ mem
        · cases is
          exact List.mem_cons_self
      · intro f hf
        rcases List.mem_cons.mp hf with rfl | hf
        · exact this
        · exact least f hf
    | some f =>
      by_cases lt : x.1 < f.1
      · have e' : earlier (some f) x = some x := if_pos lt
        rw [e'] at from_ before
        have := before x rfl
        refine ⟨.inl ?_, ?_, fun g hg => by cases hg; omega⟩
        · rcases from_ with mem | is
          · exact List.mem_cons_of_mem _ mem
          · cases is
            exact List.mem_cons_self
        · intro g hg
          rcases List.mem_cons.mp hg with rfl | hg
          · exact this
          · exact least g hg
      · have e' : earlier (some f) x = some f := if_neg lt
        rw [e'] at from_ before
        have := before f rfl
        refine ⟨from_.imp_left fun mem => List.mem_cons_of_mem _ mem, ?_, fun g hg => by cases hg; exact this⟩
        intro g hg
        rcases List.mem_cons.mp hg with rfl | hg
        · omega
        · exact least g hg

/-- The first of the commands that wait for entries began to wait before every other (R108). -/
theorem State.firstWaiter_least {n m : Nat} {d : Ctx} (first : s.firstWaiter = some c) (hn : c.wait = .entries n)
    (hd : d ∈ s.host.ctxs) (hm : d.wait = .entries m) : n ≤ m := by
  rw [State.firstWaiter_eq, Option.map_eq_some_iff] at first
  obtain ⟨e, he, rfl⟩ := first
  obtain ⟨from_, least, -⟩ := foldl_earlier _ _ _ he
  obtain ⟨x, -, hx⟩ := List.mem_filterMap.mp (from_.resolve_right (by simp))
  have is : e.1 = n := by
    unfold Ctx.waiting at hx
    split at hx
    next k hk =>
      cases hx
      simpa [hk] using hn
    · cases hx
  have := least (m, d) (List.mem_filterMap.mpr ⟨d, hd, by simp [Ctx.waiting, hm]⟩)
  omega

/-- A run alone, in entries. -/
theorem entriesOf_one (nsid x y : Nat) : entriesOf [(nsid, x, y)] = if y + 1 - x ≤ 128 then (y + 1 - x, 0) else (0, 1) := by
  simp [entriesOf, contiguous, insertRun, joinRuns, runUnits]

/-- Two runs in rising order that meet or touch are one. -/
theorem contiguous_pair {nsid x y z w : Nat} (order : x ≤ z) (touch : z ≤ y + 1) (long : y ≤ w) :
    contiguous [(nsid, x, y), (nsid, z, w)] = contiguous [(nsid, x, w)] := by
  simp [contiguous, insertRun, joinRuns, order, touch, long]

theorem Cq.full_iff : q.full = true ↔ q.size ≤ ringDist q.size q.head q.tail + 1 := by
  exact decide_eq_true_iff

/-- Where a finished command's queue is, its completion is posted, or waits for space. -/
theorem State.postCmd_of_queue (hc : s.ctx? h = some c) (done : c.done = some k) (gen : c.gen = (s.fn h.fn).gen)
    (queue : Tbl.find (s.fn h.fn).cqs c.cqid = some q) :
    s.postCmd h = if q.full || s.spaceWaiter c then s.waitSpace c else s.postEntry c q k := by
  unfold State.postCmd
  rw [hc]
  dsimp only
  rw [done]
  dsimp only
  rw [if_neg (by simp [gen]), queue]

theorem State.dropCtx_ctx : (s.dropCtx h).ctx? h = none := by
  simp [State.dropCtx, State.ctx?, Ctx.is]

theorem State.riseSummary_fn (f g : Func) : (s.riseSummary f).fn g = s.fn g := by
  cases f with
  | inst n => unfold State.riseSummary; dsimp only; split <;> rfl
  | pf0 => rfl
  | pf1 => rfl

theorem State.endDeletion_of_kept {f : Func} {qid : Nat} (kept : ∀ x, Tbl.find (s.fn f).sqs qid = some x → x.deleting = []) :
    s.endDeletion f qid = s := by
  unfold State.endDeletion
  dsimp only
  split
  next x hx => rw [if_pos (.inl (kept x hx))]
  · rfl

/-- A posted entry, where its submission queue is not being deleted (R90, R96). -/
theorem State.postEntry_facts
    (kept : ∀ x, Tbl.find (s.fn c.hdr.fn).sqs c.hdr.sqid = some x → x.deleting = []) :
    (s.postEntry c q k).out = s.out ++ [.entry c.hdr.fn.code c.cqid q.tail q.phase c.hdr.sqid
      ((Tbl.find (s.fn c.hdr.fn).sqs c.hdr.sqid).elim 0 (·.head)) c.hdr.cid k] ∧
    Tbl.find ((s.postEntry c q k).fn c.hdr.fn).cqs c.cqid = some { q with
      tail := (q.tail + 1) % q.size, phase := if (q.tail + 1) % q.size = 0 then !q.phase else q.phase } ∧
    (s.postEntry c q k).ctx? c.hdr = none := by
  have fns : ∀ (x : Fn) (o : Out) (b : Bool),
      ((((((if b then s.setFn c.hdr.fn x else (s.setFn c.hdr.fn x).riseSummary c.hdr.fn).emit o).noteEnd c k).markRuns
        c.mods).dropCtx c.hdr).fn c.hdr.fn) = x := by
    intro x o b
    have : ∀ u : State, ((((u.emit o).noteEnd c k).markRuns c.mods).dropCtx c.hdr).fn c.hdr.fn = u.fn c.hdr.fn :=
      fun u => State.fn_of_fns (by simp [State.dropCtx]) _
    rw [this]
    cases b
    · rw [if_neg (by simp), State.riseSummary_fn, State.fn_setFn_same]
    · rw [if_pos rfl, State.fn_setFn_same]
  unfold State.postEntry
  dsimp only
  rw [State.endDeletion_of_kept (by rw [fns]; exact kept)]
  refine ⟨?_, ?_, State.dropCtx_ctx⟩
  · simp [State.emit]
  · rw [fns, Tbl.find_put_same]

end

/-- Settles O14. -/
theorem entriesArePostedInTurn : Obligations.EntriesArePostedInTurn := by
  refine ⟨⟨fun s c n first hn d hd m hm => State.firstWaiter_least first hn hd hm, fun s c first => ⟨fun fits => ?_, fun short => ?_⟩,
    entriesOf_one, fun nsid x y z w order touch long => ?_⟩,
    fun h c k q s hc done gen queue => ⟨fun room free => ?_, fun full n inst new => ?_⟩,
    fun f cqid c k q s first done queue room => ?_, fun c k q s kept => ?_⟩
  · show execOverlapEntryGrant s = _
    simp [execOverlapEntryGrant, first, fits]
  · show execOverlapEntryGrant s = _
    simp [execOverlapEntryGrant, first, short]
  · unfold entriesOf
    rw [contiguous_pair order touch long]
  · show Host.Outcome.next ((s.postCmd h).wakeAll.settleDurable) = _
    have open_ : q.full = false := Bool.eq_false_iff.mpr fun full => by have := Cq.full_iff.mp full; omega
    rw [State.postCmd_of_queue hc done gen queue]
    simp [open_, free]
  · show Host.Outcome.next ((s.postCmd h).wakeAll.settleDurable) = _
    have own := State.ctx_hdr hc
    rw [State.postCmd_of_queue hc done gen queue]
    simp only [Cq.full_iff.mpr full, Bool.true_or, if_true]
    unfold State.waitSpace
    rw [own, inst]
    simp [new]
  · show Host.Outcome.next ((s.postWaiting f cqid).wakeAll.settleDurable) = _
    have open_ : q.full = false := Bool.eq_false_iff.mpr fun full => by have := Cq.full_iff.mp full; omega
    simp [State.postWaiting, first, queue, done, open_]
  · obtain ⟨out, queue, gone⟩ := State.postEntry_facts (k := k) (q := q) kept
    exact ⟨out, ⟨_, queue, rfl, rfl, rfl⟩, gone⟩

section
variable {s a : State} {h : Hdr} {f : Func}

/-- Bits of a map that is made of single bits. -/
theorem getLsbD_foldl_or (l : List (Nat × Cq)) (m : BitVec 64) {n : Nat} (hn : n < 64) :
    (l.foldl (fun m e => if e.1 = 0 ∨ e.2.used = 0 then m else m ||| (1#64 <<< (e.1 - 1))) m).getLsbD n = true ↔
      m.getLsbD n = true ∨ ∃ q, (n + 1, q) ∈ l ∧ q.used ≠ 0 := by
  induction l generalizing m with
  | nil => simp
  | cons e l ih =>
    obtain ⟨j, x⟩ := e
    rw [List.foldl_cons, ih]
    by_cases skip : j = 0 ∨ x.used = 0
    · rw [if_pos skip]
      refine or_congr_right ⟨fun ⟨q, hq, u⟩ => ⟨q, List.mem_cons_of_mem _ hq, u⟩, fun ⟨q, hq, u⟩ => ⟨q, ?_, u⟩⟩
      rcases List.mem_cons.mp hq with is | hq
      · cases is
        exact absurd skip (by simp [u])
      · exact hq
    · rw [if_neg skip]
      have bit : (m ||| (1#64 <<< (j - 1))).getLsbD n = true ↔ m.getLsbD n = true ∨ n + 1 = j := by
        simp only [BitVec.getLsbD_or, Bool.or_eq_true, BitVec.getLsbD_shiftLeft, BitVec.getLsbD_one]
        simp only [hn, decide_true, Bool.true_and, Bool.and_eq_true, Bool.not_eq_true', decide_eq_false_iff_not,
          decide_eq_true_eq]
        refine or_congr_right ?_
        omega
      rw [bit, or_assoc]
      refine or_congr_right ⟨?_, ?_⟩
      · rintro (is | ⟨q, hq, u⟩)
        · exact ⟨x, by simp [is], fun none_ => skip (.inr none_)⟩
        · exact ⟨q, List.mem_cons_of_mem _ hq, u⟩
      · rintro ⟨q, hq, u⟩
        rcases List.mem_cons.mp hq with is | hq
        · cases is
          exact .inl rfl
        · exact .inr ⟨q, hq, u⟩

/-- CQ_MAP: a bit for each I/O completion queue that holds an unreleased entry (R94). -/
theorem Fn.cqMap_bit (x : Fn) {n : Nat} (hn : n < 64) :
    x.cqMap.getLsbD n = true ↔ ∃ q, (n + 1, q) ∈ x.cqs ∧ ringDist q.size q.head q.tail ≠ 0 := by
  unfold Fn.cqMap
  rw [getLsbD_foldl_or _ _ hn]
  simp [Cq.used]

/-- The image of a line that is written now. -/
def State.lineImage (s : State) (f : Func) (l : Line) : LineImage :=
  { seqEcho := l.seq + 1, posted := l.posted, paused := s.host.paused, admin := (s.fn f).adminBit, cqMap := (s.fn f).cqMap
    seq := l.seq + 1 }

theorem State.writeLine_of_line {l : Line} (hl : (s.fn f).line = some l) :
    (s.writeLine f).out = s.out ++ [.line f.code l.address (s.lineImage f l)] ∧
      s.writeLine f = { s with host := (s.writeLine f).host, out := (s.writeLine f).out } := by
  unfold State.writeLine
  dsimp only
  rw [hl]
  exact ⟨rfl, rfl⟩

/-- A function whose summary line is enabled afresh (R93). -/
def State.freshLine (s : State) (f : Func) (addr delay : Nat) : State :=
  s.modFn f fun x => { x with
    lineDelay := delay
    line := some {
      address := addr / 64 * 64, delay := delay, seq := 0, posted := 0, cqMap := 0, admin := false, paused := false
      due := false } }

theorem State.freshLine_line (s : State) (f : Func) (addr delay : Nat) : ((s.freshLine f addr delay).fn f).line = some {
    address := addr / 64 * 64, delay := delay, seq := 0, posted := 0, cqMap := 0, admin := false, paused := false
    due := false } := by
  unfold State.freshLine
  rw [State.fn_modFn_same]

theorem State.buffered_zero (body : State → State × Cpl) : a.buffered h 0 body = body a := by
  simp [State.buffered, State.adminBuffer]

/-- Set Features of an admin command that starts. -/
theorem State.setFeature_of_starts (starts : Starts s h a) (fid : Nat) (sv : Bool) (body : State → State × Cpl) :
    s.setFeature h fid sv body = .next (closeRun h (if sv && !(saveable fid) then refuse .notSaveable a else body a)) := by
  unfold State.setFeature State.runData
  rw [State.run_closes starts, State.buffered_zero]

theorem State.setFeature_plain (starts : Starts s h a) (fid : Nat) (body : State → State × Cpl) :
    s.setFeature h fid false body = .next (closeRun h (body a)) := by
  rw [State.setFeature_of_starts starts]
  rfl

theorem State.setFeature_unsaveable (starts : Starts s h a) {fid : Nat} (un : saveable fid = false)
    (body : State → State × Cpl) : s.setFeature h fid true body = .next (a.finish h (Cpl.of .notSaveable)) := by
  rw [State.setFeature_of_starts starts, un]
  rfl

end

/-- Settles O15. -/
theorem summaryLineShowsTheQueues : Obligations.SummaryLineShowsTheQueues := by
  refine ⟨fun f l s hl due => ?_, fun h addr delay s a starts => ⟨fun fits some_ => ?_, fun long en => ?_, fun fits => ?_,
    fun en => ?_, fun inst en => ?_, fun pf0 fits some_ => ?_⟩, fun upper m s hm differ free => ?_⟩
  · obtain ⟨out, rest⟩ := State.writeLine_of_line hl
    refine ⟨s.writeLine f, s.lineImage f l, ?_, out, rfl, rfl, rfl, rfl, fun n hn => Fn.cqMap_bit _ hn, rest⟩
    show (if s.lineDue f then _ else _) = _
    rw [if_pos due]
  · have ran : exec (.setCompletionSummaryLine h false true addr delay) s
        = .next (((a.freshLine h.fn addr (delay % 256)).writeLine h.fn).finish h Cpl.ok) := by
      show execSetCompletionSummaryLine h false true addr delay s = _
      unfold execSetCompletionSummaryLine
      rw [State.setFeature_plain starts]
      dsimp only
      rw [if_neg (by simp [some_]; omega), if_pos rfl, closeRun_mk]
      rfl
    obtain ⟨out, -⟩ := State.writeLine_of_line (a.freshLine_line h.fn addr (delay % 256))
    exact ⟨_, _, ran, out, rfl, rfl, rfl⟩
  · show execSetCompletionSummaryLine h false en addr delay s = _
    unfold execSetCompletionSummaryLine
    rw [State.setFeature_plain starts]
    dsimp only
    rw [if_pos (.inl long)]
    rfl
  · show execSetCompletionSummaryLine h false false addr delay s = _
    unfold execSetCompletionSummaryLine
    rw [State.setFeature_plain starts]
    dsimp only
    rw [if_neg (by simp; omega)]
    rfl
  · show execSetCompletionSummaryLine h true en addr delay s = _
    unfold execSetCompletionSummaryLine
    rw [State.setFeature_unsaveable starts (by decide)]
    rfl
  · show execSetInstanceSummary h false en addr delay s = _
    unfold execSetInstanceSummary
    rw [State.setFeature_plain starts]
    dsimp only
    rw [if_pos (.inl (by simp [inst]))]
    rfl
  · refine ⟨?t', ?ran', ?out'⟩
    case ran' =>
      show execSetInstanceSummary h false true addr delay s = _
      unfold execSetInstanceSummary
      rewrite [State.setFeature_plain starts]
      dsimp only
      rewrite [if_neg (by simp [some_, pf0, Func.isManager]; omega), if_pos rfl, closeRun_mk, pf0]
      rfl
    case out' => simp [State.emit, State.portOfFn, State.setSummary]
  · refine ⟨?t'', ?ran'', ?out''⟩
    case ran'' =>
      show execInstanceSummaryWrite .a upper s = _
      unfold execInstanceSummaryWrite
      dsimp only
      rw [hm]
      dsimp only
      rw [if_neg (by simp [differ, free])]
    case out'' =>
      cases upper <;> rfl

end Sys2Proof.Machine
end

section
/-! Frames and charges (R122 to R132, R145). -/
namespace Sys2Proof.Machine

/-- A key whose entries a filter keeps reads as it did. -/
theorem Tbl.find_filter {α : Type} (l : Tbl α) (p : Nat × α → Bool) {k : Nat} (kept : ∀ v, p (k, v) = true) :
    Tbl.find (l.filter p) k = Tbl.find l k := by
  induction l with
  | nil => rfl
  | cons e l ih =>
    obtain ⟨j, v⟩ := e
    by_cases is : j = k
    · subst is
      simp [kept, Tbl.find]
    · cases hp : p (j, v) <;> simp [hp, Tbl.find, is, ih]

section
variable {s : State} {t late : Nat}

theorem execFramePlannedEnd_of_early (early : max s.now t < s.sched.planned) :
    exec (.framePlannedEnd t late) s = .next (s.tick t) := by
  have now : (s.tick t).now = max s.now t := rfl
  have sched : (s.tick t).sched = s.sched := rfl
  show execFramePlannedEnd t late s = _
  rw [execFramePlannedEnd, if_neg]
  rintro ⟨-, -, due, -⟩
  rw [now, sched] at due
  omega

theorem execFramePlannedEnd_of_due (runs : s.sched.running = true) (open_ : s.sched.isOpen = true)
    (up : s.has Mode.holdUp = false) (due : s.sched.planned ≤ t) :
    exec (.framePlannedEnd t late) s = .next ((s.tick t).closeFrame late) := by
  have up' : (s.tick t).has Mode.holdUp = false := up
  show execFramePlannedEnd t late s = _
  rw [execFramePlannedEnd, if_pos ⟨runs, open_, Nat.le_trans due (Nat.le_max_right _ _), by simp [up']⟩]

/-- The report of who was within its share changes 0x4nnn.23 alone. -/
theorem State.cfg_writeShares {q : ObjRow} {i j : Nat} (l : List Nat) (other : q.key i j % 256 ≠ 35) :
    (s.writeShares l).cfg q i j = s.cfg q i j := by
  unfold State.writeShares
  dsimp only
  rw [State.cfg_foldl _ _ fun a n => State.cfg_keep_ne _ _ _ _ _ _ _ _
    (fun e => other (by rw [e]; simp only [ObjRow.key, Obj.withinShare]; omega))]
  show (Tbl.find (s.dict.force.filter _) (q.key i j)).getD _ = _
  rw [Tbl.find_filter]
  · rfl
  · intro v
    simp only [Obj.withinShare, Bool.not_eq_true', Bool.and_eq_false_iff]
    exact .inl (.inl (decide_eq_false other))

theorem State.closeFrame_facts (late : Nat) : (s.closeFrame late).sched.isOpen = false ∧ (s.closeFrame late).sched.late = late ∧
    (s.closeFrame late).sched.k = s.sched.k ∧ (s.closeFrame late).sched.planned = s.sched.planned ∧
    (s.closeFrame late).host = s.host ∧ (s.closeFrame late).store = s.store ∧ (s.closeFrame late).flash = s.flash ∧
    (0 < late → s.cfg Obj.overruns < 2 ^ 32 - 1 →
      (s.closeFrame late).cfg Obj.overruns = s.cfg Obj.overruns + 1) := by
  unfold State.closeFrame
  dsimp only
  split
  next none_ => simp [none_]
  · refine ⟨by simp, by simp, by simp, by simp, by simp, by simp, by simp, fun _ room => ?_⟩
    have same : (s.writeShares s.outsideNow).cfg Obj.overruns = s.cfg Obj.overruns := State.cfg_writeShares _ (by decide)
    have top : Obj.overruns.top = 2 ^ 32 - 1 := by decide
    refine (State.cfg_bump_same _ _ _ _ _ ?_).trans (congrArg (· + 1) same)
    rw [top]
    exact same.symm ▸ room

theorem State.settleEntry_of_none (awake : s.power.entry = none) : s.settleEntry = s :=
  if_neg (by simp [awake])

theorem execFrameBoundary_of_awake (awake : s.power.entry = none) : exec (.frameBoundary t) s
    = .next (if (s.tick t).mayOpen then (s.tick t).boundary else s.tick t) := by
  show execFrameBoundary t s = _
  rw [execFrameBoundary, State.settleEntry_of_none (by exact awake), apply_ite Host.Outcome.next]

theorem State.countOverrun_frame : s.countOverrun.nextF = s.nextF ∧ s.countOverrun.cfg Obj.frameUs = s.cfg Obj.frameUs := by
  unfold State.countOverrun
  split
  · have us : (s.bump Obj.overruns).cfg Obj.frameUs = s.cfg Obj.frameUs := State.cfg_bump_ne _ _ _ _ _ _ _ _ (by decide)
    exact ⟨by unfold State.nextF; rw [us]; rfl, us⟩
  · exact ⟨rfl, rfl⟩

/-- The boundary of a frame whose length has not been changed (R125, R126). -/
theorem State.boundary_of_same (same : s.nextF = s.cfg Obj.frameUs) : s.boundary
    = (s.countOverrun.skipSlots s.nextFrame.2.2).openFrame s.nextFrame.1 s.nextFrame.2.1 := by
  obtain ⟨next, us⟩ := s.countOverrun_frame
  have frame : s.countOverrun.nextFrame = s.nextFrame := by
    simp [State.nextFrame, State.grid, State.frameNs, us]
  unfold State.boundary
  dsimp only
  rw [if_neg (by rw [next, us]; exact fun h => h same), frame]

end

/-- Settles O16: the frame opens by `nextFrame`, whose two cases are R125 and R126. -/
theorem framesCloseAndOpenByTheGrid : Obligations.FramesCloseAndOpenByTheGrid := by
  refine ⟨fun t late s early => execFramePlannedEnd_of_early early, fun t late s runs open_ up due => ?_,
    fun t s => ⟨_, rfl, rfl, rfl⟩, fun t f s awake hf pos same => ⟨fun no => ?_, fun runs closed done up later => ?_⟩,
    fun s len f n on thawed => ?_, fun s len f n off => ?_⟩
  · exact ⟨_, execFramePlannedEnd_of_due runs open_ up due, State.closeFrame_facts late⟩
  · rw [execFrameBoundary_of_awake awake, if_neg]
    have up : (s.tick t).has Mode.holdUp = s.has Mode.holdUp := rfl
    have sched : (s.tick t).sched = s.sched := rfl
    simp only [State.mayOpen, up, sched, Bool.and_eq_true, Bool.not_eq_true', decide_eq_true_eq]
    rintro ⟨⟨⟨⟨-, shut⟩, none_⟩, low⟩, -⟩
    rcases no with h | h | h
    · simp [h] at shut
    · omega
    · simp [h] at low
  · have now : (s.tick t).now = t := Nat.max_eq_right later
    have sched : (s.tick t).sched = s.sched := rfl
    have us : (s.tick t).cfg Obj.frameUs = s.cfg Obj.frameUs := rfl
    have may : (s.tick t).mayOpen = true := by
      have up' : (s.tick t).has Mode.holdUp = false := up
      simp [State.mayOpen, runs, closed, done, up', awake]
    have len : s.cfg Obj.frameUs * 1000 = f := by omega
    rw [execFrameBoundary_of_awake awake, if_pos may, State.boundary_of_same (by exact same)]
    unfold State.nextFrame State.grid State.frameNs
    simp only [now, sched, us, len, show s.sched.k + 1 + 1 = s.sched.k + 2 from rfl]
    refine ⟨fun early => ?_, fun j past from_ before => ?_⟩
    · rw [if_neg (by omega), if_neg (by omega)]
      rfl
    · have slot : (t - s.sched.t0) / f = j :=
        Nat.div_eq_of_lt_le (by omega) (by have := Nat.succ_mul j f; omega)
      rw [if_neg (by omega), if_pos (by omega), slot]
  · have live : (s.fnAt n.val).state = .online := on
    unfold State.growInstance
    simp only [live, thawed, Bool.true_and, decide_true, if_true, State.bank_setBank_same]
    exact ⟨rfl, rfl⟩
  · unfold State.growInstance
    rcases off with off | off
    · have dead : (s.fnAt n.val).state = .offline := off
      simp [dead]
    · have dead : (s.fnAt n.val).state = .absent := off
      simp [dead]

section
variable {s : State}

theorem State.admitFor_of_holdUp {h : Hdr} {step3 : Bool} (up : s.has Mode.holdUp = true) : s.admitFor h step3 = s :=
  if_pos up

theorem execChunkAdmit_of_holdUp (c : ChunkOf) (up : s.has Mode.holdUp = true) : exec (.chunkAdmit c) s = .next s := by
  cases c with
  | host h => exact congrArg _ (State.admitFor_of_holdUp up)
  | background id =>
    show execChunkAdmit (.background id) s = _
    exact if_pos up

theorem State.holdUp_of_bgOpen (open_ : s.bgOpen = true) : s.has Mode.holdUp = false := by
  simp only [State.bgOpen, Bool.and_eq_true, Bool.not_eq_true'] at open_
  exact open_.1.2

theorem execChunkAdmit_of_background {id : Nat} {c : BgChunk} (open_ : s.bgOpen = true)
    (found : s.sched.bg.find? (·.id = id) = some c) :
    exec (.chunkAdmit (.background id)) s = .next (if s.taskPresses 2 c.task then s else s.admitBg false c) := by
  show execChunkAdmit (.background id) s = _
  unfold execChunkAdmit
  dsimp only
  rw [if_neg (by simp [State.holdUp_of_bgOpen open_]), found]

/-- A background chunk is paid for by its task's bank, both charges or none (R131). -/
theorem State.payBg_of_bank (c : BgChunk) : s.payBg c false =
    if (c.readCost : Int) ≤ (s.bank c.task.holder).read ∧ (c.writeCost : Int) ≤ (s.bank c.task.holder).write then
      some (((s.setBank c.task.holder (((s.bank c.task.holder).take .read c.readCost).take .write c.writeCost)).spend .read
        c.readCost).spend .write c.writeCost)
    else none := by
  unfold State.payBg
  simp [Bank.has]

theorem execContractWindowEnd_of_full {n : Fin 1024} {v : Nat} (bound : s.cfg Obj.contractBound n.val ≠ 0)
    (full : windowReads ≤ Tbl.get 0 s.sched.windows n.val) : exec (.contractWindowEnd n v) s
      = .next (if s.cfg Obj.contractBound n.val < v then
          (({ s with sched := { s.sched with
            windows := Tbl.set 0 s.sched.windows n.val (Tbl.get 0 s.sched.windows n.val - windowReads) } }.keep
            Obj.contractMeasured v n.val).bump Obj.contractMiss 1 n.val).record 0x0402 [s.cfg Obj.contractBound n.val, v] n.val
        else { s with sched := { s.sched with
          windows := Tbl.set 0 s.sched.windows n.val (Tbl.get 0 s.sched.windows n.val - windowReads) } }.keep
          Obj.contractMeasured v n.val) := by
  show execContractWindowEnd n v s = _
  unfold execContractWindowEnd
  dsimp only
  rw [if_neg (by omega), apply_ite Host.Outcome.next]

/-- The count of misses after a window above its bound (R145). -/
theorem State.cfg_missed {n : Fin 1024} (x : Sched) (v : Nat) (params : List Nat) (room : s.cfg Obj.contractMiss n.val < 2 ^ 32 - 1) :
    ((({ s with sched := x }.keep Obj.contractMeasured v n.val).bump Obj.contractMiss 1 n.val).record 0x0402 params n.val).cfg
      Obj.contractMiss n.val = s.cfg Obj.contractMiss n.val + 1 := by
  have := n.isLt
  have same : ({ s with sched := x }.keep Obj.contractMeasured v n.val).cfg Obj.contractMiss n.val = s.cfg Obj.contractMiss n.val :=
    State.cfg_keep_ne _ _ _ _ _ _ _ _ (by simp only [ObjRow.key, Obj.contractMeasured, Obj.contractMiss]; omega)
  have top : Obj.contractMiss.top = 2 ^ 32 - 1 := by decide
  rw [State.cfg_record _ _ _ _ _ _ _ _ (by simp only [ObjRow.other, ObjRow.key, Obj.contractMiss, Obj.dropped]; omega)
    (by simp only [ObjRow.other, ObjRow.key, Obj.contractMiss, Obj.suppressedTotal]; omega),
    State.cfg_bump_same _ _ _ _ _ (by rw [same, top]; omega), same]

end

/-- Settles O17. -/
theorem chunksAreChargedToTheirHolders : Obligations.ChunksAreChargedToTheirHolders := by
  refine ⟨fun s n k thawed => ⟨?_, rfl, rfl, ?_⟩, fun c s up => execChunkAdmit_of_holdUp c up, fun h s up => ?_,
    fun id c s found open_ => ⟨fun presses => ?_, fun calm low read write => ?_, fun short => ?_⟩,
    fun n v s young => ?_, fun n v s bound full => ?_⟩
  · unfold State.pay
    simp [thawed, holderOf, Bank.has, Bank.take]
  · unfold State.pay
    simp [thawed]
  · show Host.Outcome.next (s.admitFor h false) = _
    rw [State.admitFor, if_neg (by simp [up])]
  · rw [execChunkAdmit_of_background open_ found, if_pos presses]
  · rw [execChunkAdmit_of_background open_ found, if_neg (by simp [calm]), State.admitBg, if_pos (by simp [open_, low]),
      State.payBg_of_bank, if_pos ⟨read, write⟩]
    have is : c.id = id := by simpa using List.find?_some found
    refine ⟨_, rfl, ?_, ?_, by rw [← is]; rfl, rfl⟩
    · exact congrArg Bank.read (State.bank_setBank_same ..)
    · exact congrArg Bank.write (State.bank_setBank_same ..)
  · have unpaid : s.payBg c false = none := by
      rw [State.payBg_of_bank, if_neg (by omega)]
    rw [execChunkAdmit_of_background open_ found, State.admitBg, unpaid]
    simp
  · show execContractWindowEnd n v s = _
    exact if_pos (.inr young)
  · rw [execContractWindowEnd_of_full bound full]
    refine ⟨_, rfl, ?_⟩
    split
    next above =>
      refine ⟨by simp, by simp, ?_, fun within => by omega,
        fun _ room => State.cfg_missed _ _ _ room⟩
      simp [windowReads]
    next within =>
      exact ⟨by simp, by simp, by simp [windowReads], fun _ => rfl, fun above => absurd above within⟩

end Sys2Proof.Machine
end

section
/-! The order of operations at the dies, and what the dies report (R134 to R140, R219, R220). -/
namespace Sys2Proof.Machine

theorem LunOp.before_iff (a b : LunOp) :
    a.before b = true ↔ a.cls.rank < b.cls.rank ∨ a.cls.rank = b.cls.rank ∧ a.age < b.age := by
  simp [LunOp.before]

theorem LunOp.not_before_iff (a b : LunOp) :
    a.before b = false ↔ b.cls.rank < a.cls.rank ∨ b.cls.rank = a.cls.rank ∧ b.age ≤ a.age := by
  rw [Bool.eq_false_iff, Ne, LunOp.before_iff]
  omega

/-- The earlier of two heads in the device-wide order; of equal ones, the first. -/
def firstOf (m : Option (Nat × LunOp)) (e : Nat × LunOp) : Option (Nat × LunOp) :=
  match m with
  | none => some e
  | some a => if e.2.before a.2 then some e else some a

theorem State.firstHead_eq (s : State) : s.firstHead = s.heads.foldl firstOf none := rfl

/-- The first of some heads: it is one of them, and none is before it. -/
theorem foldl_firstOf (l : List (Nat × LunOp)) (m : Option (Nat × LunOp)) (e : Nat × LunOp)
    (h : l.foldl firstOf m = some e) :
    (e ∈ l ∨ m = some e) ∧ (∀ f ∈ l, f.2.before e.2 = false) ∧ ∀ f, m = some f → f.2.before e.2 = false := by
  induction l generalizing m with
  | nil =>
    refine ⟨.inr h, by simp, fun f hf => ?_⟩
    cases hf.symm.trans h
    exact (LunOp.not_before_iff _ _).mpr (by omega)
  | cons x l ih =>
    obtain ⟨from_, least, before⟩ := ih _ h
    cases m with
    | none =>
      have first := before x rfl
      refine ⟨.inl ?_, fun f hf => ?_, by simp⟩
      · rcases from_ with mem | is
        · exact List.mem_cons_of_mem _ mem
        · cases is
          exact List.mem_cons_self
      · rcases List.mem_cons.mp hf with rfl | hf
        · exact first
        · exact least f hf
    | some f =>
      by_cases lt : x.2.before f.2 = true
      · have e' : firstOf (some f) x = some x := if_pos lt
        rw [e'] at from_ before
        have first := before x rfl
        refine ⟨.inl ?_, fun g hg => ?_, fun g hg => ?_⟩
        · rcases from_ with mem | is
          · exact List.mem_cons_of_mem _ mem
          · cases is
            exact List.mem_cons_self
        · rcases List.mem_cons.mp hg with rfl | hg
          · exact first
          · exact least g hg
        · cases hg
          rw [LunOp.before_iff] at lt
          rw [LunOp.not_before_iff] at first ⊢
          omega
      · have e' : firstOf (some f) x = some f := if_neg lt
        rw [e'] at from_ before
        have first := before f rfl
        refine ⟨from_.imp_left fun mem => List.mem_cons_of_mem _ mem, fun g hg => ?_, fun g hg => ?_⟩
        · rcases List.mem_cons.mp hg with rfl | hg
          · have lt' := (LunOp.not_before_iff _ _).mp (Bool.eq_false_iff.mpr lt)
            rw [LunOp.not_before_iff] at first ⊢
            omega
          · exact least g hg
        · cases hg
          exact first

section
variable {s : State} {t l : Nat} {o : LunOp}

theorem State.lun_of_flash {u : State} (h : u.flash = s.flash) (m : Nat) : u.lun m = s.lun m := by
  simp [State.lun, h]

theorem State.bump_lun (r : ObjRow) (n i j m : Nat) : (s.bump r n i j).lun m = s.lun m := rfl

theorem State.markIssued_lun (n m : Nat) : (s.markIssued n o).lun m = s.lun m :=
  State.lun_of_flash (by simp) m

/-- What an operation that is issued changes at its LUN, and nowhere else (R135). -/
theorem State.issueOp_facts : ((s.issueOp l o).lun l).busy = some
      { op := o, since := s.now, ends := s.now + s.opTime l o, suspends := 0, asking := false, suspended := false, toServe := []
        serving := none, retried := false } ∧
    ((s.issueOp l o).lun l).queue = (s.lun l).queue.filter (·.id ≠ o.id) ∧ (∀ m, m ≠ l → (s.issueOp l o).lun m = s.lun m) ∧
    (s.issueOp l o).host = s.host ∧ (s.issueOp l o).modes = s.modes := by
  unfold State.issueOp
  dsimp only
  refine ⟨?_, ?_, fun m other => ?_, by simp, by simp⟩
  · rw [State.markIssued_lun, State.lun_setLun_same]
  · rw [State.markIssued_lun, State.lun_setLun_same]
  · rw [State.markIssued_lun, State.lun_setLun_ne _ _ other]

theorem execOperationIssue_of_head (up : s.has Mode.holdUp = false) (first : s.firstHead = some (l, o)) :
    exec (.operationIssue t) s = .next (if o.tokens ≤ s.tokensFree then (s.tick t).issueOp l o
      else if o.waited then s.tick t
      else ((s.tick t).setLun l { s.lun l with
        queue := (s.lun l).queue.map fun q => if q.id = o.id then { q with waited := true } else q }).bump Obj.tokenWaits) := by
  have up' : (s.tick t).has Mode.holdUp = false := up
  have first' : (s.tick t).firstHead = some (l, o) := first
  have free : (s.tick t).tokensFree = s.tokensFree := rfl
  show execOperationIssue t s = _
  unfold execOperationIssue
  dsimp only
  rw [if_neg (by simp [up']), first']
  dsimp only
  rw [free]
  split
  · rfl
  · split <;> rfl

end

/-- Settles O18. -/
theorem operationsIssueInStrictOrder : Obligations.OperationsIssueInStrictOrder := by
  refine ⟨fun s l o first => ?_, fun t l o s up later first => ⟨fun fits => ?_, fun short => ?_⟩, fun t s up => ?_,
    fun l id s => ?_⟩
  · obtain ⟨from_, least, -⟩ := foldl_firstOf _ _ _ (s.firstHead_eq ▸ first)
    exact ⟨from_.resolve_right (by simp), least⟩
  · rw [execOperationIssue_of_head up first, if_pos fits]
    obtain ⟨busy, queue, others, host, modes⟩ := State.issueOp_facts (s := s.tick t) (l := l) (o := o)
    exact ⟨_, _, rfl, busy, rfl, Nat.max_eq_right later, rfl, rfl, queue, others, host, modes⟩
  · rw [execOperationIssue_of_head up first, if_neg (by omega)]
    refine ⟨_, rfl, ?_⟩
    split
    · exact ⟨fun _ => rfl, rfl, rfl⟩
    · refine ⟨fun m => ?_, by simp, by simp⟩
      rw [State.bump_lun]
      by_cases is : m = l
      · rw [is, State.lun_setLun_same]
      · rw [State.lun_setLun_ne _ _ is]
        rfl
  · show execOperationIssue t s = _
    exact if_pos up
  · refine ⟨_, rfl, ?_, fun m other => State.lun_setLun_ne _ _ other, rfl⟩
    rw [State.lun_setLun_same]
    refine List.map_congr_left fun o _ => ?_
    simp [and_assoc]

section
variable {s : State} {t l : Nat} {b : Busy}

theorem mem_insertOp {o p : LunOp} (q : List LunOp) : p ∈ insertOp o q ↔ p = o ∨ p ∈ q := by
  induction q with
  | nil => simp [insertOp]
  | cons x q ih =>
    unfold insertOp
    split
    · simp
    · simp only [List.mem_cons, ih]
      exact or_left_comm

theorem mem_foldr_insertOp {p : LunOp} (q : List LunOp) : p ∈ q.foldr insertOp [] ↔ p ∈ q := by
  induction q with
  | nil => rfl
  | cons x q ih => rw [List.foldr_cons, mem_insertOp, ih, List.mem_cons]

/-- The next read that is served during a suspension. -/
theorem State.serveNext_cons {o : LunOp} {rest : List LunOp} (h : b.toServe = o :: rest) :
    ((s.serveNext l b).lun l).busy = some { b with toServe := rest, serving := some o } := by
  unfold State.serveNext
  dsimp only
  rw [h]
  dsimp only
  rw [State.markIssued_lun, State.lun_setLun_same]

theorem State.serveNext_nil (h : b.toServe = []) : ((s.serveNext l b).lun l).busy = some { b with
    suspended := false, asking := false, serving := none, since := s.now, ends := s.now + b.ends } := by
  unfold State.serveNext
  dsimp only
  rw [h]
  dsimp only
  rw [State.lun_setLun_same]

theorem State.serveNext_ne {m : Nat} (other : m ≠ l) : (s.serveNext l b).lun m = s.lun m := by
  unfold State.serveNext
  dsimp only
  split
  · rw [State.markIssued_lun, State.lun_setLun_ne _ _ other]
  · rw [State.lun_setLun_ne _ _ other]

/-- The reads that a suspended LUN serves (R140, R220). -/
def State.toServe (s : State) (l : Nat) (b : Busy) : List LunOp :=
  (((s.lun l).queue.filter (s.servable l b)).foldr insertOp []).take (s.cfg Obj.suspendReads)

/-- Where a read is queued that may be served, some are, and all of them are reads. -/
theorem State.toServe_of_some (some_ : 1 ≤ ((s.lun l).queue.filter (s.servable l b)).length)
    (serves : 1 ≤ s.cfg Obj.suspendReads) :
    ∃ o rest, s.toServe l b = o :: rest ∧ o.kind.isRead = true ∧ rest.length + 1 ≤ s.cfg Obj.suspendReads := by
  obtain ⟨p, hp⟩ := List.exists_mem_of_length_pos some_
  have nonempty : ((s.lun l).queue.filter (s.servable l b)).foldr insertOp [] ≠ [] := by
    have := (mem_foldr_insertOp _).mpr hp
    exact fun e => by simp [e] at this
  cases hs : s.toServe l b with
  | nil => simp [State.toServe, nonempty] at hs; omega
  | cons o rest =>
    have mem : o ∈ (s.lun l).queue.filter (s.servable l b) :=
      (mem_foldr_insertOp _).mp (List.mem_of_mem_take (show o ∈ s.toServe l b by simp [hs]))
    have reads := (List.mem_filter.mp mem).2
    simp only [State.servable, Bool.and_eq_true] at reads
    have len : (s.toServe l b).length ≤ s.cfg Obj.suspendReads := List.length_take_le _ _
    rw [hs] at len
    exact ⟨o, rest, rfl, reads.1, len⟩

theorem execSuspendReported_of_asking {n : Fin 4096} (busy : (s.lun n.val).busy = some b) (asking : b.asking = true)
    (runs : b.suspended = false) : exec (.suspendReported n true t) s
      = .next (((s.tick t).setLun n.val { s.lun n.val with
          queue := (s.lun n.val).queue.filter fun o => !((s.toServe n.val b).any (·.id = o.id))
          busy := some { b with asking := false, suspended := true, suspends := b.suspends + 1, ends := b.ends - (s.tick t).now
                                toServe := s.toServe n.val b } }).serveNext n.val
          { b with asking := false, suspended := true, suspends := b.suspends + 1, ends := b.ends - (s.tick t).now
                   toServe := s.toServe n.val b }) := by
  have busy' : ((s.tick t).lun n.val).busy = some b := busy
  show execSuspendReported n true t s = _
  unfold execSuspendReported
  dsimp only
  rw [busy']
  dsimp only
  rw [if_neg (by simp [asking, runs]), if_pos rfl]
  rfl

end

/-- Settles O19. -/
theorem dieReportsEndOperations : Obligations.DieReportsEndOperations := by
  refine ⟨fun l t b s busy asking runs => ?_, fun l ok t b s busy runs => ?_, fun l t b s busy susp none_ empty => ?_,
    fun l t s free => ⟨?_, ?_, ?_⟩, fun l t b s busy => ⟨?_, fun asking => ?_⟩, fun c s => rfl⟩
  · refine ⟨_, execSuspendReported_of_asking busy asking runs, fun m other => ?_, fun some_ serves => ?_⟩
    · rw [State.serveNext_ne other, State.lun_setLun_ne _ _ other]
      rfl
    · obtain ⟨o, rest, is, reads, few⟩ := State.toServe_of_some some_ serves
      exact ⟨_, o, State.serveNext_cons is, rfl, rfl, rfl, rfl, reads, few⟩
  · have busy' : ((s.tick t).lun l.val).busy = some b := busy
    show execOperationReady l ok t s = _
    unfold execOperationReady
    dsimp only
    rw [busy']
    dsimp only
    rw [runs]
    rfl
  · have busy' : ((s.tick t).lun l.val).busy = some b := busy
    refine ⟨(s.tick t).serveNext l.val b, _, ?_, State.serveNext_nil empty, rfl, rfl, rfl, rfl⟩
    show execOperationReady l true t s = _
    unfold execOperationReady
    dsimp only
    rw [busy']
    dsimp only
    rw [susp, none_]
  · have free' : ((s.tick t).lun l.val).busy = none := free
    show execOperationReady l true t s = _
    simp [execOperationReady, free']
  · have free' : ((s.tick t).lun l.val).busy = none := free
    show execSuspendReported l true t s = _
    simp [execSuspendReported, free']
  · have free' : ((s.tick t).lun l.val).busy = none := free
    show execSuspendTimeout l true t s = _
    simp [execSuspendTimeout, free']
  · have busy' : ((s.tick t).lun l.val).busy = some b := busy
    show execReadyTimeout l false t s = _
    simp [execReadyTimeout, State.lunTimeout, busy']
  · have busy' : ((s.tick t).lun l.val).busy = some b := busy
    show execSuspendTimeout l false t s = _
    simp [execSuspendTimeout, State.lunTimeout, busy', asking]

end Sys2Proof.Machine
end


section
/-! How the commands of an I/O queue start -/
namespace Sys2Proof.Machine

section
variable {s a b : State} {h : Hdr} {mods looks : List (Nat × Nat × Nat)}

/-- A command of an I/O queue that starts and passes its checks goes on. -/
theorem State.ioRun_of_starts {check : State → Option Status} (start : IoStarts s h a) (pass : check a = none)
    (go : State → State) : s.ioRun h check go = .next (go a) := by
  obtain ⟨begun, fused, entry⟩ := start
  simp [State.ioRun, begun, fused, entry, pass, orElse]

/-- One that starts and fails a check ends with the check's status; a refusal of its data pointer is counted. -/
theorem State.ioRun_refused {check : State → Option Status} {st : Status} (start : IoStarts s h a) (fail : check a = some st)
    (go : State → State) :
    s.ioRun h check go = .next ((if pointerStatus st then a.countPointer h.fn st else a).finish h (Cpl.of st)) := by
  obtain ⟨begun, fused, entry⟩ := start
  simp [State.ioRun, begun, fused, entry, fail, orElse]

theorem State.ioRun_ends {check : State → Option Status} {st : Status} (start : IoStarts s h a) (fail : check a = some st)
    (plain : pointerStatus st = false) (go : State → State) : s.ioRun h check go = .next (a.finish h (Cpl.of st)) := by
  rw [State.ioRun_refused start fail, plain]
  rfl

/-- A command that nothing holds up goes on with its effect. -/
theorem State.launch_of_launches (now : Launches a h mods looks b) (cmd : Instr) (go : State → State) :
    a.launch h cmd mods looks go = go b := by
  obtain ⟨entries, rfl, order⟩ := now
  unfold State.launch
  dsimp only at entries order ⊢
  rw [if_neg (by rcases entries with none | ⟨free, fit⟩ <;> simp_all), order]
  rfl

/-- The state that a command's effect starts from differs from the one where it began by contexts alone. -/
theorem State.launches_parts (now : Launches a h mods looks b) :
    b = { a with host := { a.host with ctxs := b.host.ctxs } } := by
  rw [now.2.1]
  rfl

end

end Sys2Proof.Machine
end

section
/-! The chunks of a range (R131) -/
namespace Sys2Proof.Machine

/-- A bit of a mask that is built bit by bit. -/
theorem getLsbD_foldl_setBit (p : Nat → Prop) [DecidablePred p] (l : List Nat) (m : BitVec 4) (i : Nat) (hi : i < 4) :
    (l.foldl (fun (m : BitVec 4) j => if p j then m ||| (1#4 <<< j) else m) m).getLsbD i
      = (m.getLsbD i || decide (i ∈ l ∧ p i)) := by
  induction l generalizing m with
  | nil => simp
  | cons j l ih =>
    rw [List.foldl_cons, ih]
    by_cases e : i = j
    · subst e
      by_cases q : p i <;> simp [q, hi]
    · have off : (1#4 <<< j).getLsbD i = false := by
        simp only [BitVec.getLsbD_shiftLeft, BitVec.getLsbD_one]
        grind
      by_cases q : p j <;> simp [q, e, off]

theorem unitMask_getLsbD {slba n u i : Nat} (hi : i < 4) :
    (unitMask slba n u).getLsbD i = decide (slba ≤ 4 * u + i ∧ 4 * u + i < slba + n) := by
  unfold unitMask
  rw [getLsbD_foldl_setBit (fun i => slba ≤ 4 * u + i ∧ 4 * u + i < slba + n) _ _ _ hi]
  simp [hi]

theorem mem_unitsOf {slba n u : Nat} (pos : 0 < n) : u ∈ unitsOf slba n ↔ slba / 4 ≤ u ∧ u ≤ (slba + n - 1) / 4 := by
  have order : slba / 4 ≤ (slba + n - 1) / 4 := Nat.div_le_div_right (by omega)
  simp only [unitsOf, if_neg (Nat.ne_of_gt pos), List.mem_map, List.mem_range]
  exact ⟨by rintro ⟨k, hk, rfl⟩; omega, fun ⟨lo, hi⟩ => ⟨u - slba / 4, by omega, by omega⟩⟩

theorem unitsOf_nodup (slba n : Nat) : (unitsOf slba n).Nodup := by
  unfold unitsOf
  split
  · exact List.nodup_nil
  · exact nodup_map_of_inj (fun a b e => by simpa using e) List.nodup_range

theorem chunksOf_units (k : CreditKind) (nsid slba n base : Nat) :
    (chunksOf k nsid slba n base).map (·.unit) = unitsOf slba n := by
  simp [chunksOf, Function.comp_def]

/-- The chunks of a range stand one for each of its units, and their masks for its LBAs. -/
theorem chunksOf_cover (k : CreditKind) (nsid slba n : Nat) (pos : 0 < n) :
    (∀ l, slba ≤ l → l < slba + n → ∃ c ∈ chunksOf k nsid slba n 0, c.unit = l / 4 ∧ c.mask.getLsbD (l % 4) = true) ∧
    ((chunksOf k nsid slba n 0).map (·.unit)).Nodup ∧
    (∀ c ∈ chunksOf k nsid slba n 0, c.nsid = nsid ∧
      (∀ i, i < 4 → c.mask.getLsbD i = true → slba ≤ 4 * c.unit + i ∧ 4 * c.unit + i < slba + n) ∧
      c.charge = (if k = .read then (maskLbas c.mask).length * 1024 else 1024)) := by
  refine ⟨fun l lo hi => ?_, by rw [chunksOf_units]; exact unitsOf_nodup .., fun c hc => ?_⟩
  · refine ⟨_, List.mem_map.mpr ⟨l / 4, (mem_unitsOf pos).mpr ⟨by omega, by omega⟩, rfl⟩, rfl, ?_⟩
    rw [unitMask_getLsbD (by omega), decide_eq_true_eq]
    omega
  · obtain ⟨u, -, rfl⟩ := List.mem_map.mp hc
    refine ⟨rfl, fun i hi bit => ?_, by cases k <;> rfl⟩
    simpa [unitMask_getLsbD hi] using bit

end Sys2Proof.Machine
end

section
/-! Read, Compare and Verify (R101, R173) -/
namespace Sys2Proof.Machine

/-- The context of a command that reads a range of a namespace x, once its chunks are its own. -/
def Ctx.reading (c : Ctx) (i : Instr) (r : ReadArgs) (x : Option Ns) (p : Purpose) : Ctx :=
  { c with
    cmd := some i
    chunks := chunksOf .read r.range.nsid r.range.slba (r.range.nlb + 1) 0
    lba := r.range.slba
    fua := r.fua
    keyTag := r.keyTag
    expect := r.expect
    expectMetas := r.expectMetas
    pi := x.bind fun y => if y.piType = 0 then none else some (y.piKind, r.prinfo)
    withMeta := x.any fun y => y.metaMoves r.prinfo
    purpose := p
    short := decide (r.range.nlb + 1 ≤ 4)
    need := []
    wait := .none }

section
variable {s a b : State} {h : Hdr} {r : ReadArgs} {c : Ctx}

/-- A read without FUA, of units that no Secure Reset holds, takes its chunks to the scheduler. -/
theorem State.goRead_now (i : Instr) (p : Purpose) (plain : r.fua = false) (hc : b.ctx? h = some c)
    (free : ∀ u ∈ unitsOf r.range.slba (r.range.nlb + 1), b.zoneBusy r.range.nsid u = false) :
    ∃ t : State, (b.modCtx h fun c => { c with cmd := some i }).goRead h r p = t.admitFor h false ∧
      t.ctx? h = some (c.reading i r (b.ns? r.range.nsid) p) ∧ (∀ g, g ≠ h → t.ctx? g = b.ctx? g) ∧
      t = { b with host := t.host } := by
  have idle : (unitsOf r.range.slba (Range_len r.range)).any (b.zoneBusy r.range.nsid) = false := by
    simpa [Range_len] using free
  unfold State.goRead
  dsimp only
  rewrite [if_neg (by rw [show (b.modCtx h fun c => { c with cmd := some i }).zoneBusy r.range.nsid
    = b.zoneBusy r.range.nsid from rfl, idle]; simp)]
  simp only [plain, Bool.false_and, filter_none, List.map_nil, if_true]
  refine ⟨_, rfl, ?_, fun g n => ?_, rfl⟩
  · refine (State.ctx_modCtx_same _ (by intro; rfl) (State.ctx_modCtx_same _ (by intro; rfl) hc)).trans ?_
    simp only [Ctx.reading, plain]
    rfl
  · exact (State.ctx_modCtx_ne _ (by intro; rfl) n).trans (State.ctx_modCtx_ne _ (by intro; rfl) n)

/-- A command that reads and that nothing holds up takes its chunks to the scheduler. -/
theorem State.launch_read (i : Instr) (p : Purpose) (plain : r.fua = false)
    (now : Launches a h [] [unitRun r.range.nsid r.range.slba (r.range.nlb + 1)] b) (hc : b.ctx? h = some c)
    (free : ∀ u ∈ unitsOf r.range.slba (r.range.nlb + 1), a.zoneBusy r.range.nsid u = false) :
    ∃ t : State, a.launch h i [] [unitRun r.range.nsid r.range.slba (Range_len r.range)]
        (fun y => (y.modCtx h fun c => { c with cmd := some i }).goRead h r p) = t.admitFor h false ∧
      t.ctx? h = some (c.reading i r (b.ns? r.range.nsid) p) ∧ (∀ g, g ≠ h → t.ctx? g = b.ctx? g) ∧
      t = { b with host := t.host } := by
  rewrite [show Range_len r.range = r.range.nlb + 1 from rfl, State.launch_of_launches now]
  refine State.goRead_now i p plain hc fun u hu => ?_
  rw [State.launches_parts now]
  exact free u hu

theorem State.readGate_sanitize (f : s.has Mode.factory = false) (z : s.has Mode.sanitize = true) :
    s.readGate = some .sanitizeInProgress := by
  simp [State.readGate, f, z]

theorem State.readGate_none (f : s.has Mode.factory = false) (z : s.has Mode.sanitize = false) : s.readGate = none := by
  simp [State.readGate, f, z]

theorem State.nsCheck_missing {nsid : Nat} {f : Func} (gone : s.ns? nsid = none) :
    s.nsCheck f nsid = .error .invalidNamespace := by
  simp [State.nsCheck, gone]

end

/-- Settles O20: units and masks from the definition of a range's chunks; the commands from what starting, passing the checks
and going on to the scheduler each do. -/
theorem readsReachTheSchedulerByUnits : Obligations.ReadsReachTheSchedulerByUnits := by
  unfold Obligations.ReadsReachTheSchedulerByUnits
  refine ⟨chunksOf_cover, fun h r s a b c start plain now hc free => ⟨fun pass => ?_, fun pass => ?_, fun x gate ns key fits => ?_⟩,
    fun h r s a start f => ⟨fun z => ?_, fun z gone => ?_⟩⟩
  · obtain ⟨t, ran, ht, rest, frame⟩ := State.launch_read (.read h r) .toHost plain now hc free
    exact ⟨t, _, (State.ioRun_of_starts start pass _).trans (congrArg _ ran), ht, rfl, rfl, rfl, rfl, rfl, rest, frame⟩
  · obtain ⟨t, ran, ht, rest, frame⟩ := State.launch_read (.compare h r) .compare plain now hc free
    exact ⟨t, _, (State.ioRun_of_starts start pass _).trans (congrArg _ ran), ht, rfl, rfl, rfl, rfl, rest, frame⟩
  · obtain ⟨t, ran, ht, rest, frame⟩ :=
      State.launch_read (r := Range_verify r.range r.prinfo) (.verify h r.range r.prinfo) .verify rfl now hc free
    refine ⟨t, _, (State.ioRun_of_starts start ?_ _).trans (congrArg _ ran), ht, rfl, rfl, rest, frame⟩
    simp only [gate, ns, key, orElse, rangeCheck, Range_len]
    exact if_neg (by omega)
  · have shut := State.readGate_sanitize f z
    refine ⟨?_, ?_, ?_⟩ <;> refine State.ioRun_ends start (st := .sanitizeInProgress) ?_ (by decide) _
    · simp [State.readCheck, shut, orElse]
    · simp [State.readCheck, shut, orElse]
    · simp [shut, orElse]
  · have clear := State.readGate_none f z
    refine ⟨?_, ?_, ?_⟩ <;> refine State.ioRun_ends start (st := .invalidNamespace) ?_ (by decide) _
    · simp [State.readCheck, clear, State.nsCheck_missing gone, orElse]
    · simp [State.readCheck, clear, State.nsCheck_missing gone, orElse]
    · simp [clear, State.nsCheck_missing gone, orElse]

end Sys2Proof.Machine
end


section
/-! What entering a record in the journal leaves as it was (R186, R188) -/
namespace Sys2Proof.Machine

/-- A fold whose every step keeps a view of the state keeps it. -/
theorem foldl_keeps {α β γ : Type} (view : β → γ) {g : β → α → β} (same : ∀ b a, view (g b a) = view b) (l : List α) (b : β) :
    view (l.foldl g b) = view b := by
  induction l generalizing b with
  | nil => rfl
  | cons a l ih => exact (ih _).trans (same b a)

/-- A journal that holds nothing. -/
def Journal.blank : Journal :=
  { recs := [], since := 0, pages := [], next := 0, durable := 0, wseq := 0, pendingSeqs := [], copies := [], changed := []
    pass := [], digest := 0 }

section
variable (s : State) (r : JRec)

/-- The store but for the journal and the blocks, and the flash but for the queues of its LUNs. -/
def State.besideJournal (s : State) : Store × Flash :=
  ({ s.store with journal := Journal.blank, blocks := [] }, { s.flash with luns := [], nextOp := 0 })

theorem State.closePage_besideJournal : s.closePage.besideJournal = s.besideJournal := by
  unfold State.closePage
  dsimp only
  split
  · rfl
  · exact foldl_keeps State.besideJournal (by intro a e; rfl) _ _

theorem State.journal_besideJournal : (s.journal r).besideJournal = s.besideJournal := by
  unfold State.journal
  dsimp only
  split
  · exact State.closePage_besideJournal _
  · rfl

@[simp] theorem State.journal_ns : (s.journal r).store.ns = s.store.ns :=
  congrArg (·.1.ns) (s.journal_besideJournal r)

@[simp] theorem State.journal_slots : (s.journal r).store.slots = s.store.slots :=
  congrArg (·.1.slots) (s.journal_besideJournal r)

@[simp] theorem State.journal_stripes : (s.journal r).store.stripes = s.store.stripes :=
  congrArg (·.1.stripes) (s.journal_besideJournal r)

@[simp] theorem State.journal_classes : (s.journal r).flash.classes = s.flash.classes :=
  congrArg (·.2.classes) (s.journal_besideJournal r)

end

end Sys2Proof.Machine
end

section
/-! A zone takes a state (R155, R158) -/
namespace Sys2Proof.Machine

section
variable {s : State} {nsid z : Nat} {x : Ns}

@[simp] theorem Ns.zone_setZone_same (x : Ns) (z : Nat) (y : Zone) : (x.setZone z y).zone z = y := by
  simp [Ns.zone, Ns.setZone]

theorem Ns.zone_setZone_ne (x : Ns) (y : Zone) {z v : Nat} (n : v ≠ z) : (x.setZone z y).zone v = x.zone v := by
  simp [Ns.zone, Ns.setZone, Tbl.get_set_ne _ _ _ _ n]

theorem State.zoneTo_of_ns (ns : s.ns? nsid = some x) (g : Zone → Zone) :
    s.zoneTo nsid z g = (s.setNs nsid (x.setZone z (g (x.zone z)))).journal
      (.zone (nsid - 1) z (g (x.zone z)).state (g (x.zone z)).rows (g (x.zone z)).epoch) := by
  simp [State.zoneTo, ns]

theorem State.zoneTo_ns (ns : s.ns? nsid = some x) (g : Zone → Zone) :
    (s.zoneTo nsid z g).ns? nsid = some (x.setZone z (g (x.zone z))) := by
  rw [State.zoneTo_of_ns ns, State.ns?, State.journal_ns]
  exact State.ns_setNs_same ..

/-- A zone that has taken n LBAs more, of a capacity. -/
def Zone.written (y : Zone) (x : Ns) (n cap : Nat) : Zone :=
  { y with
    wp := y.wp + n
    state := if y.wp + n = cap then .full else y.state
    dstate := if x.word.digest ∧ y.dstate = .none then .running else y.dstate
    dctx := if x.word.digest ∧ y.dstate = .none then some DigestCtx.fresh else y.dctx }

theorem Zone.not_full_of_open {y : Zone} (open_ : y.state.isOpen = true) : y.writeRefusal = none ∧ y.state ≠ .full := by
  cases hs : y.state <;> simp_all [ZState.isOpen, Zone.writeRefusal]

theorem Zone.written_full {y : Zone} (open_ : y.state.isOpen = true) (x : Ns) (n cap : Nat) :
    (y.written x n cap).state = .full ↔ y.wp + n = cap := by
  have := (Zone.not_full_of_open open_).2
  simp only [Zone.written]
  split <;> simp_all

/-- On an open zone that has a stripe, a write that fits takes its LBAs at the write pointer. -/
theorem State.assignWrite_open {n : Nat} {at_ : Option Nat} (ns : s.ns? nsid = some x)
    (open_ : (x.zone z).state.isOpen = true) (stripe : (x.zone z).stripe ≠ none)
    (here : ∀ l ∈ at_, l = (x.zone z).wp) (fits : (x.zone z).wp + n ≤ s.zcap x.width) :
    s.assignWrite nsid z n at_ = .ok ((x.zone z).wp, s.zoneTo nsid z fun y => y.written x n (s.zcap x.width)) := by
  obtain ⟨id, hid⟩ := Option.ne_none_iff_exists'.mp stripe
  have fit : ¬ s.zcap x.width < (x.zone z).wp + n := by omega
  have meets : at_.elim false (fun l => decide (l ≠ (x.zone z).wp)) = false := by cases at_ <;> simp_all
  simp only [State.assignWrite, ns, (Zone.not_full_of_open open_).1, meets, fit, open_, State.zoneStripe, hid, if_true,
    Bool.false_eq_true, if_false]
  rfl

theorem State.assignWrite_full {n : Nat} {at_ : Option Nat} (ns : s.ns? nsid = some x) (full : (x.zone z).state = .full) :
    s.assignWrite nsid z n at_ = .error .zoneFull := by
  simp [State.assignWrite, ns, Zone.writeRefusal, full]

theorem State.assignWrite_elsewhere {n l : Nat} (ns : s.ns? nsid = some x)
    (open_ : (x.zone z).state.isOpen = true) (off : l ≠ (x.zone z).wp) :
    s.assignWrite nsid z n (some l) = .error .zoneInvalidWrite := by
  simp [State.assignWrite, ns, (Zone.not_full_of_open open_).1, off]

end

end Sys2Proof.Machine
end

section
/-! Write, Zone Append and Copy (R111, R131, R158, R180) -/
namespace Sys2Proof.Machine

/-- The context of a command that writes a range from an LBA on, once its chunks are its own. -/
def Ctx.writing (c : Ctx) (s : State) (h : Hdr) (w : WriteArgs) (l dw0 dw1 : Nat) : Ctx :=
  { c with
    cmd := none
    chunks := chunksOf .write w.range.nsid l (w.range.nlb + 1) 0
    data := w.data
    metas := (s.ns? w.range.nsid).elim w.metas fun x => x.metasFor w l
    lba := l
    fua := w.fua || !(s.fn h.fn).wce || s.dirtyLimit = 0
    keyTag := w.keyTag
    handle := ((s.ns? w.range.nsid).bind fun x => s.placement x w.dtype w.dspec).getD 0
    need := if w.fua || !(s.fn h.fn).wce || s.dirtyLimit = 0 then
      (unitsOf l (w.range.nlb + 1)).map fun u => (w.range.nsid, u) else []
    dw0 := dw0
    dw1 := dw1 }

section
variable {s a b : State} {h : Hdr} {w : WriteArgs} {c : Ctx} {x : Ns}

/-- The chunks of a write reach the scheduler. -/
theorem State.goChunks_now (l dw0 dw1 : Nat) (hc : s.ctx? h = some c) :
    ∃ t : State, s.goChunks h w l dw0 dw1 = t.admitFor h false ∧ t.ctx? h = some (c.writing s h w l dw0 dw1) ∧
      (∀ g, g ≠ h → t.ctx? g = s.ctx? g) ∧ t = { s with host := t.host } :=
  ⟨_, rfl, State.ctx_modCtx_same _ (by intro; rfl) hc, fun _ n => State.ctx_modCtx_ne _ (by intro; rfl) n, rfl⟩

/-- A position that is taken changes no context. -/
theorem State.zoneTo_ctx (nsid z : Nat) (g : Zone → Zone) (k : Hdr) : (s.zoneTo nsid z g).ctx? k = s.ctx? k := by
  simp [State.ctx?]

theorem State.launches_ns {mods looks : List (Nat × Nat × Nat)} (now : Launches a h mods looks b) (n : Nat) :
    b.ns? n = a.ns? n := by
  rw [State.launches_parts now]
  rfl

/-- A Write to an open zone, at its write pointer. -/
theorem State.goWrite_open {z : Nat} (ns : b.ns? w.range.nsid = some x) (zoned : x.kind = .zoned)
    (hz : w.range.slba / b.zsze x.width = z) (open_ : (x.zone z).state.isOpen = true)
    (fits : (x.zone z).wp + w.range.nlb + 1 ≤ b.zcap x.width) (at_ : w.range.slba % b.zsze x.width = (x.zone z).wp)
    (stripe : (x.zone z).stripe ≠ none) :
    b.goWrite h w = (b.zoneTo w.range.nsid z fun y => y.written x (w.range.nlb + 1) (b.zcap x.width)).goChunks
      h w w.range.slba 0 0 := by
  simp [State.goWrite, ns, zoned, hz, Range_len, State.assignWrite_open (n := w.range.nlb + 1)
    (at_ := some (w.range.slba % b.zsze x.width)) ns open_ stripe (by simpa using at_) fits]

theorem State.goWrite_full {z : Nat} (ns : b.ns? w.range.nsid = some x) (zoned : x.kind = .zoned)
    (hz : w.range.slba / b.zsze x.width = z) (full : (x.zone z).state = .full) :
    b.goWrite h w = b.finish h (Cpl.of .zoneFull) := by
  simp [State.goWrite, ns, zoned, hz, State.assignWrite_full ns full]

theorem State.goWrite_elsewhere {z : Nat} (ns : b.ns? w.range.nsid = some x) (zoned : x.kind = .zoned)
    (hz : w.range.slba / b.zsze x.width = z) (open_ : (x.zone z).state.isOpen = true)
    (off : w.range.slba % b.zsze x.width ≠ (x.zone z).wp) : b.goWrite h w = b.finish h (Cpl.of .zoneInvalidWrite) := by
  simp [State.goWrite, ns, zoned, hz, State.assignWrite_elsewhere ns open_ off]

/-- A Zone Append to an open zone that holds the entries of its units. -/
theorem State.goAppend_open {z : Nat} (hc : b.ctx? h = some c) (mods : c.mods = [b.appendRun w]) (holds : c.holds = true)
    (ns : b.ns? w.range.nsid = some x) (hz : w.range.slba / b.zsze x.width = z) (open_ : (x.zone z).state.isOpen = true)
    (stripe : (x.zone z).stripe ≠ none) (fits : (x.zone z).wp + w.range.nlb + 1 ≤ b.zcap x.width) :
    b.goAppend h w = (b.zoneTo w.range.nsid z fun y => y.written x (w.range.nlb + 1) (b.zcap x.width)).goChunks h w
      (w.range.slba + (x.zone z).wp) (lowWord (w.range.slba + (x.zone z).wp)) (highWord (w.range.slba + (x.zone z).wp)) := by
  simp [State.goAppend, hc, mods, holds, State.assignAppend, ns, hz, Range_len,
    State.assignWrite_open (n := w.range.nlb + 1) (at_ := none) ns open_ stripe (by simp) fits]

/-- What a command holds once it goes on: the runs that it modifies, and their entries. -/
theorem State.launches_ctx {m : Nat × Nat × Nat} {mods looks : List (Nat × Nat × Nat)}
    (now : Launches a h (m :: mods) looks b) (hc : b.ctx? h = some c) : c.mods = m :: mods ∧ c.holds = true := by
  obtain ⟨-, rfl, -⟩ := now
  cases ha : a.ctx? h with
  | none => simp [State.ctx_modCtx, ha] at hc
  | some d =>
    have two := State.ctx_modCtx_same (h := h) (fun e => { e with holds := decide (m :: mods ≠ []), cmd := none, wait := .none })
      (by intro; rfl) (State.ctx_modCtx_same (fun e => { e with mods := m :: mods, looks := looks }) (by intro; rfl) ha)
    obtain rfl : _ = c := Option.some.inj (two.symm.trans hc)
    exact ⟨rfl, by simp⟩

theorem State.launches_cfg {mods looks : List (Nat × Nat × Nat)} (now : Launches a h mods looks b) (r : ObjRow) (i j : Nat) :
    b.cfg r i j = a.cfg r i j := by
  rw [State.launches_parts now]
  rfl

theorem State.launches_fn {mods looks : List (Nat × Nat × Nat)} (now : Launches a h mods looks b) (f : Func) :
    b.fn f = a.fn f := by
  rw [State.launches_parts now]
  rfl

theorem State.launches_zsze {mods looks : List (Nat × Nat × Nat)} (now : Launches a h mods looks b) (n : Nat) :
    b.zsze n = a.zsze n ∧ b.zcap n = a.zcap n := by
  rw [State.launches_parts now]
  exact ⟨rfl, rfl⟩

theorem State.writeGate_readOnly (f : s.has Mode.factory = false) (z : s.has Mode.sanitize = false)
    (r : s.has Mode.readOnly = true) : s.writeGate = some .writeProtected := by
  simp [State.writeGate, f, z, r]

/-- A Copy to a namespace without zones takes its chunks to the scheduler. -/
theorem State.goCopy_now {p : CopyArgs} (ns : b.ns? p.nsid = some x) (plain : x.kind ≠ .zoned) (hc : b.ctx? h = some c) :
    ∃ t : State, b.goCopy h p = t.admitFor h false ∧ t.ctx? h = some { c with
        cmd := none, chunks := copyChunks p.nsid p.sdlba p.ranges, dst := some (p.nsid, p.sdlba), purpose := .copy } ∧
      (∀ g, g ≠ h → t.ctx? g = b.ctx? g) ∧ t = { b with host := t.host } := by
  refine ⟨b.modCtx h fun c => { c with
    cmd := none, chunks := copyChunks p.nsid p.sdlba p.ranges, dst := some (p.nsid, p.sdlba), purpose := .copy },
    ?_, State.ctx_modCtx_same _ (by intro; rfl) hc, fun _ n => State.ctx_modCtx_ne _ (by intro; rfl) n, rfl⟩
  simp [State.goCopy, ns, plain]

end

/-- Settles O21: what starting, passing the checks and going on to the scheduler each do, and where an open zone assigns its
LBAs. -/
theorem writesReachTheSchedulerInPosition : Obligations.WritesReachTheSchedulerInPosition := by
  unfold Obligations.WritesReachTheSchedulerInPosition
  refine ⟨fun h w s a b c x start pass now hc ns => ⟨fun plain => ?_, fun zoned => ?_⟩,
    fun h w s a b c x start pass now hc ns open_ stripe fits => ?_, fun h p s a b c x start pass now hc ns plain => ?_,
    fun h w p s a start f z r format => ⟨?_, ?_, ?_⟩⟩
  · obtain ⟨t, ran, ht, rest, frame⟩ := State.goChunks_now (s := b) (w := w) w.range.slba 0 0 hc
    have ns' : b.ns? w.range.nsid = some x := (State.launches_ns now _).trans ns
    have go : b.goWrite h w = t.admitFor h false := by simp [State.goWrite, ns', plain, ran]
    refine ⟨t, _, (State.ioRun_of_starts start pass _).trans (congrArg _ ((State.launch_of_launches now _ _).trans go)), ht,
      rfl, rfl, by simp [Ctx.writing, ns'], rfl, ?_, rest, frame⟩
    rw [← State.launches_fn now, show a.dirtyLimit = b.dirtyLimit from (State.launches_cfg now _ _ _).symm]
    rfl
  · have ns' : b.ns? w.range.nsid = some x := (State.launches_ns now _).trans ns
    obtain ⟨size, cap⟩ := State.launches_zsze now x.width
    rw [← size, ← cap]
    have runs : exec (.write h w) s = .next (b.goWrite h w) :=
      (State.ioRun_of_starts start pass _).trans (congrArg _ (State.launch_of_launches now _ _))
    rw [runs]
    refine ⟨fun full => by rw [State.goWrite_full ns' zoned rfl full]; rfl, fun open_ =>
      ⟨fun off => by rw [State.goWrite_elsewhere ns' zoned rfl open_ off]; rfl, fun fits at_ stripe => ?_⟩⟩
    rewrite [State.goWrite_open ns' zoned rfl open_ fits at_ stripe]
    obtain ⟨t, ran, ht, rest, frame⟩ := State.goChunks_now (w := w) w.range.slba 0 0
      ((State.zoneTo_ctx w.range.nsid (w.range.slba / b.zsze x.width)
        (fun y => y.written x (w.range.nlb + 1) (b.zcap x.width)) h).trans hc)
    have held := State.zoneTo_ns (z := w.range.slba / b.zsze x.width) ns' fun y =>
      y.written x (w.range.nlb + 1) (b.zcap x.width)
    refine ⟨t, _, _, congrArg _ ran, ht, rfl, by rw [frame]; exact held, ?_, ?_⟩
    · rw [Ns.zone_setZone_same]
      rfl
    · rw [Ns.zone_setZone_same]
      exact Zone.written_full open_ ..
  · have ns' : b.ns? w.range.nsid = some x := (State.launches_ns now _).trans ns
    obtain ⟨size, cap⟩ := State.launches_zsze now x.width
    rw [← size] at open_ stripe fits ⊢
    rw [← cap] at fits
    obtain ⟨mods, holds⟩ := State.launches_ctx now hc
    have run : a.appendRun w = b.appendRun w := by
      rw [State.launches_parts now]
      rfl
    have go := State.goAppend_open hc (run ▸ mods) holds ns' rfl open_ stripe fits
    obtain ⟨t, ran, ht, -, -⟩ := State.goChunks_now (w := w) (w.range.slba + (x.zone (w.range.slba / b.zsze x.width)).wp)
      (lowWord (w.range.slba + (x.zone (w.range.slba / b.zsze x.width)).wp))
      (highWord (w.range.slba + (x.zone (w.range.slba / b.zsze x.width)).wp))
      ((State.zoneTo_ctx w.range.nsid (w.range.slba / b.zsze x.width)
        (fun y => y.written x (w.range.nlb + 1) (b.zcap x.width)) h).trans hc)
    exact ⟨t, _, _, (State.ioRun_of_starts start pass _).trans
      (congrArg _ ((State.launch_of_launches now _ _).trans (go.trans ran))), ht, rfl, rfl, rfl, rfl, rfl⟩
  · have ns' : b.ns? p.nsid = some x := (State.launches_ns now _).trans ns
    obtain ⟨t, ran, ht, rest, frame⟩ := State.goCopy_now ns' plain hc
    exact ⟨t, _, (State.ioRun_of_starts start pass _).trans (congrArg _ ((State.launch_of_launches now _ _).trans ran)), ht,
      rfl, rfl, rfl, rest, frame⟩
  all_goals
    refine State.ioRun_ends start (st := .writeProtected) ?_ (by decide) _
    simp [State.writeCheck, State.copyCheck, State.writeGate_readOnly f z r, format, orElse]

end Sys2Proof.Machine
end


section
/-! Entries of the map change (R181) -/
namespace Sys2Proof.Machine

section
variable {s : State} {nsid u k : Nat} {x : Ns} {e : MapEntry}

@[simp] theorem Ns.entry_setEntry_same (x : Ns) (u : Nat) (e : MapEntry) : (x.setEntry u e).entry u = e := by
  simp [Ns.entry, Ns.setEntry]

theorem Ns.entry_setEntry_ne (x : Ns) {u v : Nat} (e : MapEntry) (n : v ≠ u) : (x.setEntry u e).entry v = x.entry v := by
  simp [Ns.entry, Ns.setEntry, Tbl.get_set_ne _ _ _ _ n]

/-- Of a namespace without zones a unit is read from where its entry says. -/
theorem State.locate_plain (ns : s.ns? nsid = some x) (plain : x.kind ≠ .zoned) (u : Nat) : s.locate nsid u = x.entry u := by
  simp [State.locate, ns, plain]

@[simp] theorem State.touchSegment_ns (seg : Nat) : (s.touchSegment nsid seg).store.ns = s.store.ns := by
  unfold State.touchSegment
  dsimp only
  split <;> rfl

/-- A location that is superseded changes no namespace. -/
@[simp] theorem State.superseded_ns (x : Ns) (old : MapEntry) : (s.superseded x old).store.ns = s.store.ns := by
  unfold State.superseded
  split
  · split
    · split
      · split
        · rfl
        · exact foldl_keeps (fun a : State => a.store.ns) (fun _ _ => State.journal_ns ..) _ _
      · rfl
    · rfl
  · rfl

theorem State.setUnit_ns (ns : s.ns? nsid = some x) (u : Nat) (e : MapEntry) :
    (s.setUnit nsid u e).ns? nsid = some (x.setEntry u e) := by
  unfold State.setUnit
  rw [ns]
  simp only [State.ns?, State.superseded_ns, State.touchSegment_ns]
  exact State.ns_setNs_same ..

/-- The entry of a unit whose slot is given back. -/
theorem State.freeSlot_ns {y : Slot} (hk : s.slot? k = some y) (ns : s.ns? y.nsid = some x) (plain : x.kind ≠ .zoned)
    (e : MapEntry) : (s.freeSlot k e).ns? y.nsid = some (x.setEntry y.unit e) := by
  have dropped : (s.dropSlot k e).ns? y.nsid = some (x.setEntry y.unit e) := by
    simp only [State.dropSlot, hk, ns, plain, if_false]
    exact State.setUnit_ns (s := { s with store := { s.store with slots := Tbl.del s.store.slots k } }) ns ..
  unfold State.freeSlot
  rw [hk]
  dsimp only
  split
  · exact (show ((s.dropSlot k e).setSlot k { y with dead := true }).ns? y.nsid = (s.dropSlot k e).ns? y.nsid from rfl).trans dropped
  all_goals exact dropped

/-- A whole unit of a namespace without zones takes an entry without data, whatever held it. -/
theorem State.clearUnit_ns (ns : s.ns? nsid = some x) (plain : x.kind ≠ .zoned)
    (held : ∀ k, s.slotOf nsid u = some k → ∃ y, s.slot? k = some y ∧ y.nsid = nsid ∧ y.unit = u) (e : MapEntry) :
    (s.clearUnit nsid u e).ns? nsid = some (x.setEntry u e) := by
  unfold State.clearUnit
  split
  next k slot =>
    obtain ⟨y, hy, rfl, rfl⟩ := held k slot
    exact State.freeSlot_ns hy ns plain e
  next => exact State.setUnit_ns ns u e

end

/-- Four LBAs from the first of a unit are that unit. -/
theorem unitsOf_whole (u : Nat) : unitsOf (4 * u) 4 = [u] := by
  have count : (4 * u + 4 - 1) / 4 + 1 - 4 * u / 4 = 1 := by omega
  rw [unitsOf, if_neg (by decide), count]
  simp

theorem unitMask_whole (u : Nat) : unitMask (4 * u) 4 u = 15#4 := by
  refine BitVec.eq_of_getLsbD_eq fun i hi => ?_
  rw [unitMask_getLsbD hi, decide_eq_true (by omega)]
  exact (by decide : ∀ i, i < 4 → true = (15#4).getLsbD i) i hi

theorem unitRun_whole (nsid u : Nat) : unitRun nsid (4 * u) 4 = (nsid, u, u) := by
  have first : 4 * u / 4 = u := by omega
  have last : (4 * u + 4 - 1) / 4 = u := by omega
  rw [unitRun, first, last]

section
variable {s a b : State} {h : Hdr} {nsid u : Nat} {x : Ns} {c : Ctx}

/-- A state in which a unit has taken an entry, no other unit has, and the commands stand as before. -/
def State.Entered (s t : State) (nsid u : Nat) (e : MapEntry) : Prop :=
  t.locate nsid u = e ∧ (∀ v, v ≠ u → t.locate nsid v = s.locate nsid v) ∧ t.host = s.host

theorem State.clearUnit_entered (ns : s.ns? nsid = some x) (plain : x.kind ≠ .zoned)
    (held : ∀ k, s.slotOf nsid u = some k → ∃ y, s.slot? k = some y ∧ y.nsid = nsid ∧ y.unit = u) (e : MapEntry) (r : JRec) :
    s.Entered ((s.clearUnit nsid u e).journal r) nsid u e := by
  have after : ((s.clearUnit nsid u e).journal r).ns? nsid = some (x.setEntry u e) := by
    rw [State.ns?, State.journal_ns]
    exact State.clearUnit_ns ns plain held e
  refine ⟨?_, fun v n => ?_, by simp⟩
  · rw [State.locate_plain after plain, Ns.entry_setEntry_same]
  · rw [State.locate_plain after plain, State.locate_plain ns plain, Ns.entry_setEntry_ne x e n]

theorem State.blankUnits_whole (f : Func) (stamp nsid u : Nat) (uncorr : Bool) :
    s.blankUnits f stamp nsid (4 * u) 4 uncorr
      = (s.clearUnit nsid u (if uncorr then .uncorrectable else .unmapped)).journal
          (if uncorr then .uncorr (nsid - 1) u 1 else .unmap (nsid - 1) u 1) := by
  simp [State.blankUnits, unitsOf_whole, unitMask_whole]

theorem State.deallocate_whole (ns : s.ns? nsid = some x) (plain : x.kind ≠ .zoned) (u : Nat) :
    s.deallocate nsid (4 * u) 4 = (s.clearUnit nsid u .unmapped).journal (.unmap (nsid - 1) u 1) := by
  simp [State.deallocate, ns, plain, unitsOf_whole, unitMask_whole]

/-- What a command that has changed an entry leaves, once it has ended with Success. -/
theorem State.Entered.finish {t : State} {e : MapEntry} (done : s.Entered t nsid u e) (hc : s.ctx? h = some c)
    (open_ : c.done = none) : ∃ d, (t.finish h Cpl.ok).locate nsid u = e ∧ (t.finish h Cpl.ok).ctx? h = some d ∧
      d.done = some ⟨⟨0, 0⟩, 0, 0⟩ ∧ (∀ v, v ≠ u → (t.finish h Cpl.ok).locate nsid v = s.locate nsid v) := by
  obtain ⟨here, rest, host⟩ := done
  have hc' : t.ctx? h = some c := by rwa [State.ctx?, host]
  obtain ⟨d, hd, ends⟩ := State.ended_finish Cpl.ok hc' open_
  exact ⟨d, here, hd, ends, rest⟩

end

end Sys2Proof.Machine
end

section
/-! Flush (R116, R117) -/
namespace Sys2Proof.Machine

section
variable {s a b : State} {h : Hdr} {nsid : Nat} {c : Ctx}

/-- What a command waits for is not there while a command that it covers is open. -/
theorem State.durableNow_of_covered (open_ : s.coveredOpen c = true) : s.durableNow c = false := by
  simp [State.durableNow, open_]

theorem State.coveredOpen_of_ctxs {t : State} (same : t.host.ctxs = s.host.ctxs) (c : Ctx) :
    t.coveredOpen c = s.coveredOpen c := by
  simp [State.coveredOpen, same]

/-- Which commands a command covers does not depend on the pages that commands wait for. -/
theorem State.coveredOpen_page (c : Ctx) (p : Nat) :
    (s.modCtx h fun k => { k with page := p }).coveredOpen c = s.coveredOpen c := by
  simp only [State.coveredOpen, State.modCtx, List.any_map]
  congr
  funext nsid
  congr
  funext e
  simp only [Function.comp_apply]
  split <;> rfl

/-- A command that waits for durability and covers an open one goes on waiting. -/
theorem State.settleCtx_waits (hc : s.ctx? h = some c) (wait : c.wait = .durable)
    (open_ : s.coveredOpen c = true) : s.settleCtx h = s := by
  have same : s.coveredOpen (s.withNeed c) = true ∧ (s.withNeed c).wait = .durable := by
    unfold State.withNeed
    split
    · exact ⟨open_, wait⟩
    · exact ⟨open_, wait⟩
  unfold State.settleCtx
  rw [hc]
  simp only [Option.map_some, same.2, State.durableNow_of_covered same.1]
  split <;> rfl

/-- A Flush of every namespace does not end while an earlier command of its function is open. -/
theorem State.settleWait_waits (hc : s.ctx? h = some c) (wait : c.wait = .durable)
    (open_ : s.coveredOpen c = true) : ∃ d, (s.settleWait h).ctx? h = some d ∧ d.done = c.done := by
  have page : s.flushPage c = c := by simp [State.flushPage, open_]
  have ctxs : ((s.modCtx h fun k => { k with page := c.page }).pushFor c).host
      = (s.modCtx h fun k => { k with page := c.page }).host := by simp
  have held : ((s.modCtx h fun k => { k with page := c.page }).pushFor c).ctx? h = some c := by
    rw [State.ctx?, ctxs]
    exact State.ctx_modCtx_same _ (by intro; rfl) hc
  have covers : ((s.modCtx h fun k => { k with page := c.page }).pushFor c).coveredOpen c = true := by
    rw [State.coveredOpen_of_ctxs (congrArg (·.ctxs) ctxs), State.coveredOpen_page, open_]
  refine ⟨c, ?_, rfl⟩
  unfold State.settleWait
  rw [hc]
  dsimp only
  rw [page, State.settleCtx_waits held wait covers, held]

/-- A command that waits for nothing more than what is durable ends with Success. -/
theorem State.settleCtx_ends (hc : s.ctx? h = some c) (wait : c.wait = .durable) (open_ : c.done = none)
    (chunks : c.chunks = []) (none_ : c.open_ = 0) (data : c.data = []) (err : c.err = none) (pi : c.pi = none)
    (purpose : c.purpose = .none) (durable : s.durableNow c = true) :
    ∃ d, (s.settleCtx h).ctx? h = some d ∧ d.done.map (·.status) = some ⟨0, 0⟩ := by
  have need : s.withNeed c = c := by simp [State.withNeed, data]
  have ends : s.settleCtx h = s.finish c.hdr { status := .success, dw0 := c.dw0, dw1 := c.dw1 } := by
    unfold State.settleCtx
    rw [hc]
    simp [need, open_, chunks, none_, wait, durable, State.conclude, err, Ctx.piError, pi, State.concludeOk, purpose]
  obtain ⟨d, hd, done⟩ := State.ended_finish { status := .success, dw0 := c.dw0, dw1 := c.dw1 } hc open_
  rw [ends, State.ctx_hdr hc]
  exact ⟨d, hd, by rw [done]; rfl⟩

/-- A Flush that covers nothing that waits ends at once with Success. -/
theorem State.settleWait_ends (hc : s.ctx? h = some c) (wait : c.wait = .durable) (flush : c.flushOf.isSome) (page : c.page = 0)
    (open_ : c.done = none) (chunks : c.chunks = []) (none_ : c.open_ = 0) (data : c.data = []) (need : c.need = [])
    (err : c.err = none) (pi : c.pi = none) (purpose : c.purpose = .none) (slots : s.store.slots = [])
    (durable : s.lastPage ≤ s.store.journal.durable) (free : s.coveredOpen c = false) :
    ∃ d, (s.settleWait h).ctx? h = some d ∧ d.done.map (·.status) = some ⟨0, 0⟩ := by
  let t := s.modCtx h fun k => { k with page := s.lastPage }
  let d := { c with page := s.lastPage }
  have flushed : s.flushPage c = d := by simp [State.flushPage, flush, page, free, d]
  have clear : t.coveredOpen d = false := (State.coveredOpen_page d _).trans free
  have ready : t.durableNow d = true := by
    have pages : t.pageDurable d.page = true := decide_eq_true durable
    have needs : d.need = [] := need
    have none_ : t.store.slots = [] := slots
    simp [State.durableNow, pages, needs, none_, clear]
  have pushed : t.pushFor d = t := by
    have none_ : t.store.slots = [] := slots
    simp [State.pushFor, none_, ready]
  unfold State.settleWait
  rw [hc]
  dsimp only
  rw [flushed, show (s.modCtx h fun k => { k with page := d.page }) = t from rfl, pushed]
  exact State.settleCtx_ends (State.ctx_modCtx_same _ (by intro; rfl) hc) wait open_ chunks none_ data err pi purpose ready

/-- A Flush of every namespace passes its checks where reads are served, and waits for what it covers. -/
theorem State.flush_run (start : IoStarts s h a) (gate : a.readGate = none) : exec (.flush h 0xFFFFFFFF) s
    = .next ((a.modCtx h fun c => { c with flushOf := some 0xFFFFFFFF, wait := .durable }).settleWait h) :=
  State.ioRun_of_starts start (by simp [gate, orElse]) _

/-- The context of a Flush of every namespace. -/
def Ctx.flushing (c : Ctx) : Ctx := { c with flushOf := some 0xFFFFFFFF, wait := .durable }

theorem State.ctx_flushing (hc : a.ctx? h = some c) :
    (a.modCtx h fun c => { c with flushOf := some 0xFFFFFFFF, wait := .durable }).ctx? h = some c.flushing :=
  State.ctx_modCtx_same _ (by intro; rfl) hc

/-- A Flush covers nothing where no command modifies anything. -/
theorem State.coveredOpen_idle (d : Ctx) (idle : ∀ e ∈ a.host.ctxs, e.mods = []) :
    (a.modCtx h fun c => { c with flushOf := some nsid, wait := .durable }).coveredOpen d = false := by
  unfold State.coveredOpen
  split
  · refine List.any_eq_false.mpr fun e he => ?_
    obtain ⟨o, ho, rfl⟩ := List.mem_map.mp he
    have none_ : (if o.is h then { o with flushOf := some nsid, wait := .durable } else o).mods = [] := by
      split <;> exact idle o ho
    simp [none_]
  · rfl

/-- It covers an earlier command of its function that is open and modifies something. -/
theorem State.coveredOpen_earlier {e : Ctx} (he : e ∈ a.host.ctxs) (hc : a.ctx? h = some c) (fn : e.hdr.fn = h.fn)
    (other : e.hdr ≠ h) (before : e.stamp < c.stamp) (open_ : e.done = none) (gen : e.gen = c.gen) (mods : e.mods ≠ []) :
    (a.modCtx h fun c => { c with flushOf := some 0xFFFFFFFF, wait := .durable }).coveredOpen c.flushing = true := by
  obtain ⟨r, rs, hr⟩ := List.exists_cons_of_ne_nil mods
  refine List.any_eq_true.mpr ⟨e, List.mem_map.mpr ⟨e, he, if_neg (by simpa [Ctx.is] using other)⟩, ?_⟩
  simp [fn, State.ctx_hdr hc, before, open_, gen, hr, Ctx.flushing]

end

section
variable {s a b : State} {h : Hdr} {nsid u : Nat} {x : Ns} {c : Ctx}

/-- A command that goes on and leaves a unit's entry e: it has ended with Success, and no other unit's entry has changed. -/
def State.EndsEntered (a t : State) (h : Hdr) (nsid u : Nat) (e : MapEntry) : Prop :=
  t.locate nsid u = e ∧ ∃ d, t.ctx? h = some d ∧ d.done = some ⟨⟨0, 0⟩, 0, 0⟩ ∧
    (∀ v, v ≠ u → t.locate nsid v = a.locate nsid v)

theorem State.ends_entered {mods : List (Nat × Nat × Nat)} (now : Launches a h mods [] b) (ns : a.ns? nsid = some x)
    (plain : x.kind ≠ .zoned) (hc : b.ctx? h = some c) (open_ : c.done = none)
    (held : ∀ k, a.slotOf nsid u = some k → ∃ y, a.slot? k = some y ∧ y.nsid = nsid ∧ y.unit = u) (e : MapEntry) (r : JRec) :
    a.EndsEntered (((b.clearUnit nsid u e).journal r).finish h Cpl.ok) h nsid u e := by
  have ns' : b.ns? nsid = some x := (State.launches_ns now nsid).trans ns
  have stored : b.store = a.store := by rw [State.launches_parts now]
  have same : ∀ v, b.locate nsid v = a.locate nsid v := fun v => by
    rw [State.locate_plain ns' plain, State.locate_plain ns plain]
  have held' : ∀ k, b.slotOf nsid u = some k → ∃ y, b.slot? k = some y ∧ y.nsid = nsid ∧ y.unit = u := by
    simpa only [State.slotOf, State.slot?, stored] using held
  obtain ⟨d, here, hd, done, rest⟩ := (State.clearUnit_entered ns' plain held' e r).finish hc open_
  exact ⟨here, d, hd, done, fun v n => (rest v n).trans (same v)⟩

theorem State.launches_whole (now : Launches a h [(nsid, u, u)] [] b) :
    Launches a h [unitRun nsid (4 * u) (Range_len ⟨nsid, 4 * u, 3⟩)] [] b := by
  rwa [show unitRun nsid (4 * u) (Range_len ⟨nsid, 4 * u, 3⟩) = (nsid, u, u) from unitRun_whole nsid u]

theorem State.goBlank_whole (ns : b.ns? nsid = some x) (plain : x.kind ≠ .zoned) (uncorr : Bool) :
    b.goBlank h ⟨nsid, 4 * u, 3⟩ uncorr
      = ((b.clearUnit nsid u (if uncorr then .uncorrectable else .unmapped)).journal
          (if uncorr then .uncorr (nsid - 1) u 1 else .unmap (nsid - 1) u 1)).finish h Cpl.ok := by
  simp only [State.goBlank, ns, plain, if_false]
  exact congrArg (State.finish · h Cpl.ok) (State.blankUnits_whole ..)

theorem State.goDsm_whole (ns : b.ns? nsid = some x) (plain : x.kind ≠ .zoned) :
    b.goDsm h nsid true [⟨nsid, 4 * u, 3⟩]
      = ((b.clearUnit nsid u .unmapped).journal (.unmap (nsid - 1) u 1)).finish h Cpl.ok :=
  congrArg (State.finish · h Cpl.ok) (State.deallocate_whole ns plain u)

end

/-- Settles O22: a whole unit is one unit under one full mask, so each command changes one entry; a Flush waits for what it
covers. -/
theorem mapCommandsActAtOnceAndFlushWaits : Obligations.MapCommandsActAtOnceAndFlushWaits := by
  unfold Obligations.MapCommandsActAtOnceAndFlushWaits
  refine ⟨fun h nsid u deac s a b x c start ns plain now hc open_ held => ?_,
    fun h nsid rs s a b start pass now =>
      (State.ioRun_of_starts start pass _).trans (congrArg _ (State.launch_of_launches now _ _)),
    fun h s a c start gate hc open_ chunks none_ err purpose data need page pi =>
      ⟨fun slots durable idle => ?_, fun e he fn other before free gen mods => ?_⟩⟩
  · have ns' : b.ns? nsid = some x := (State.launches_ns now nsid).trans ns
    have whole := State.launches_whole now
    have ends := State.ends_entered now ns plain hc open_ held
    have blanks : ∀ (i : Instr) (uncorr : Bool), a.launch h i [unitRun nsid (4 * u) (Range_len ⟨nsid, 4 * u, 3⟩)] []
        (fun y => y.goBlank h ⟨nsid, 4 * u, 3⟩ uncorr) = _ := fun i uncorr =>
      (State.launch_of_launches whole _ _).trans (State.goBlank_whole ns' plain uncorr)
    refine ⟨fun pass => ⟨?_, ?_⟩, fun pass => ?_⟩
    · obtain ⟨here, d, rest⟩ := ends .unmapped (.unmap (nsid - 1) u 1)
      exact ⟨_, d, (State.ioRun_of_starts start pass _).trans (congrArg _ (blanks _ false)), here, rest⟩
    · obtain ⟨here, d, rest⟩ := ends .uncorrectable (.uncorr (nsid - 1) u 1)
      exact ⟨_, d, (State.ioRun_of_starts start pass _).trans (congrArg _ (blanks _ true)), here, rest⟩
    · obtain ⟨here, d, rest⟩ := ends .unmapped (.unmap (nsid - 1) u 1)
      exact ⟨_, d, (State.ioRun_of_starts start pass _).trans (congrArg _ ((State.launch_of_launches whole _ _).trans
        (State.goDsm_whole ns' plain))), here, rest⟩
  · have run := State.flush_run start gate
    obtain ⟨d, ends⟩ := State.settleWait_ends (State.ctx_flushing hc) rfl rfl page open_ chunks none_ data need err pi purpose
      slots durable (State.coveredOpen_idle _ idle)
    exact ⟨_, d, run, ends⟩
  · obtain ⟨d, hd, waits⟩ := State.settleWait_waits (State.ctx_flushing hc) rfl
      (State.coveredOpen_earlier he hc fn other before free gen mods)
    exact ⟨_, d, State.flush_run start gate, hd, waits.trans open_⟩

end Sys2Proof.Machine
end


section
/-! The zone actions of Zone Management Send (R156, R158, R165, R170) -/
namespace Sys2Proof.Machine

section
variable {s a b : State} {h : Hdr} {nsid slba z : Nat} {x : Ns} {y : Zone} {c : Ctx}

theorem State.ctx_of_host {t : State} (same : t.host = s.host) (h : Hdr) : t.ctx? h = s.ctx? h := by
  rw [State.ctx?, same, State.ctx?]

/-- A zone action that may be done on its zone ends with Success, one that may not with the status it is refused with. -/
theorem State.zoneAction_ok {states : List ZState} {act : State → Nat → Nat → Zone → Except Status State}
    (start : IoStarts s h a) (pass : a.sendCheck h nsid slba false = none) (ns : a.ns? nsid = some x)
    (did : act a nsid (slba / a.zsze x.width) (x.zone (slba / a.zsze x.width)) = .ok b) :
    s.zoneAction h nsid slba false states act = .next (b.finish h ⟨⟨0, 0⟩, 0, 0⟩) := by
  rw [State.zoneAction, State.ioRun_of_starts start pass]
  simp only [ns, Bool.false_eq_true, if_false, State.actOn, did]
  rfl

theorem State.zoneAction_error {states : List ZState} {act : State → Nat → Nat → Zone → Except Status State} {st : Status}
    (start : IoStarts s h a) (pass : a.sendCheck h nsid slba false = none) (ns : a.ns? nsid = some x)
    (refused : act a nsid (slba / a.zsze x.width) (x.zone (slba / a.zsze x.width)) = .error st) :
    s.zoneAction h nsid slba false states act = .next (a.finish h ⟨st, 0, 0⟩) := by
  rw [State.zoneAction, State.ioRun_of_starts start pass]
  simp only [ns, Bool.false_eq_true, if_false, State.actOn, refused]
  rfl

/-- Close, from each state. -/
theorem State.closeZone_eq : s.closeZone nsid z y =
    if y.state = .closed then .ok s
    else if y.state.isOpen then .ok (s.zoneTo nsid z fun a => { a with state := .closed })
    else .error .zoneTransition := by
  unfold State.closeZone
  cases hs : y.state <;> simp [ZState.isOpen]

/-- The limits of open and active zones, where no room is made (R158). -/
theorem State.openable_ok (ns : s.ns? nsid = some x) (active : y.state.isActive = true ∨ x.activeZones < x.maxActive)
    (open_ : x.openZones < x.maxOpen) : s.openable nsid y = .ok s := by
  simp only [State.openable, ns]
  rw [if_neg (by rcases active with is | few <;> simp_all), if_neg (by simp [open_])]

theorem State.openZone_ok {st : ZState} (ns : s.ns? nsid = some x) (may : s.openable nsid (x.zone z) = .ok s) :
    s.openZone nsid z st
      = .ok (s.zoneTo nsid z fun y => { y with state := if y.state = .explicitOpen then .explicitOpen else st }) := by
  simp [State.openZone, ns, may]

theorem State.openZone_error {st : ZState} {e : Status} (ns : s.ns? nsid = some x)
    (no : s.openable nsid (x.zone z) = .error e) : s.openZone nsid z st = .error e := by
  simp [State.openZone, ns, no]

/-- What a zone that takes a state leaves of its namespace: that zone as it is made, every other as it was. -/
theorem State.zoneTo_zones (ns : s.ns? nsid = some x) (g : Zone → Zone) :
    ∃ w, (s.zoneTo nsid z g).ns? nsid = some w ∧ w.zone z = g (x.zone z) ∧ ∀ v, v ≠ z → w.zone v = x.zone v :=
  ⟨_, State.zoneTo_ns ns g, Ns.zone_setZone_same .., fun _ n => Ns.zone_setZone_ne _ _ n⟩

end

section
variable {s : State} {nsid z : Nat} {x : Ns}

@[simp] theorem State.looseSlot_ns (k : Nat) : (s.looseSlot k).store.ns = s.store.ns := by
  unfold State.looseSlot
  split
  · rfl
  · dsimp only
    split <;> rfl

@[simp] theorem State.queueErase_ns (l b : Nat) : (s.queueErase l b).store.ns = s.store.ns := by
  unfold State.queueErase
  dsimp only
  split
  · rfl
  · split <;> rfl

@[simp] theorem State.giveUpStripe_ns (id : Nat) (secure : Bool) : (s.giveUpStripe id secure).store.ns = s.store.ns := by
  unfold State.giveUpStripe
  split
  · rfl
  · refine foldl_keeps (fun a : State => a.store.ns) (fun a m => ?_) _ _
    dsimp only
    split
    · exact State.queueErase_ns ..
    · exact State.queueErase_ns ..

@[simp] theorem State.markDirty_ns (n first last : Nat) : (s.markDirty n first last).store.ns = s.store.ns := by
  unfold State.markDirty
  split <;> rfl

/-- A zone that loses its data takes the state it is given; every other stays as it was. -/
theorem State.clearZone_zones (ns : s.ns? nsid = some x) (secure : Bool) (g : Zone → Zone) :
    ∃ w, (s.clearZone nsid z secure g).ns? nsid = some w ∧ w.zone z = g (x.zone z) ∧ ∀ v, v ≠ z → w.zone v = x.zone v := by
  have slots : ((x.zone z).slots.foldl (fun a e => a.looseSlot e.2) s).store.ns = s.store.ns :=
    foldl_keeps (fun a : State => a.store.ns) (fun _ _ => State.looseSlot_ns _) _ _
  unfold State.clearZone
  rw [ns]
  simp only [State.ns?, State.markDirty_ns]
  refine State.zoneTo_zones ?_ g
  cases (x.zone z).stripe with
  | none => exact (congrArg (Tbl.find · nsid) slots).trans ns
  | some id => exact (congrArg (Tbl.find · nsid) ((State.giveUpStripe_ns id secure).trans slots)).trans ns

/-- A namespace of which zone z is Full with a write pointer. -/
def State.FullAt (s : State) (nsid z wp : Nat) : Prop :=
  ∃ w, s.ns? nsid = some w ∧ (w.zone z).state = .full ∧ (w.zone z).wp = wp

theorem State.FullAt.mk {w : Ns} {wp : Nat} (hw : s.ns? nsid = some w) (state : (w.zone z).state = .full)
    (at_ : (w.zone z).wp = wp) : s.FullAt nsid z wp := ⟨w, hw, state, at_⟩

theorem State.FullAt.of_ns {t : State} {wp : Nat} (full : s.FullAt nsid z wp) (same : t.store.ns = s.store.ns) :
    t.FullAt nsid z wp := by
  obtain ⟨w, hw, rest⟩ := full
  exact ⟨w, by rwa [State.ns?, same], rest⟩

theorem State.FullAt.of_put {t : State} {wp : Nat} {w : Ns} {y : Zone}
    (put : t.store.ns = Tbl.put s.store.ns nsid (w.setZone z y)) (state : y.state = .full) (at_ : y.wp = wp) :
    t.FullAt nsid z wp :=
  ⟨w.setZone z y, by rw [State.ns?, put, Tbl.find_put_same], by rw [Ns.zone_setZone_same]; exact state,
    by rw [Ns.zone_setZone_same]; exact at_⟩

/-- A digest that runs on leaves its zone's state and write pointer. -/
theorem State.FullAt.digestZone {wp : Nat} (fuel : Nat) (full : s.FullAt nsid z wp) :
    (s.digestZone nsid z fuel).FullAt nsid z wp := by
  induction fuel generalizing s with
  | zero => exact full
  | succ fuel ih =>
    obtain ⟨w, hw, state, at_⟩ := full
    unfold State.digestZone
    rw [hw]
    dsimp only
    split
    · exact ⟨w, hw, state, at_⟩
    · split
      · split
        · exact ih (State.FullAt.of_put (s := s) (w := w) rfl state at_)
        · exact ⟨w, hw, state, at_⟩
      · exact ⟨w, hw, state, at_⟩

theorem State.FullAt.digestDone {wp : Nat} (full : s.FullAt nsid z wp) : (s.digestDone nsid z).FullAt nsid z wp := by
  obtain ⟨w, hw, state, at_⟩ := full
  unfold State.digestDone
  rw [hw]
  dsimp only
  split
  · exact ⟨w, hw, state, at_⟩
  · split
    · exact State.FullAt.of_put (s := s) (w := w) rfl state at_
    · exact ⟨w, hw, state, at_⟩

@[simp] theorem State.digestDone_host : (s.digestDone nsid z).host = s.host := by
  unfold State.digestDone
  split
  · rfl
  · dsimp only
    split
    · rfl
    · split <;> rfl

@[simp] theorem State.takeCounter_ns (y : Slot) : (s.takeCounter y).2.store.ns = s.store.ns := by
  unfold State.takeCounter
  split
  · dsimp only
    split
    · simp
    · rfl
  · rfl

@[simp] theorem State.issueProgram_ns (k : Nat) (y : Slot) (loc : MapEntry) (record : Bool) :
    (s.issueProgram k y loc record).store.ns = s.store.ns := by
  unfold State.issueProgram
  cases record <;> simp [State.enqueue, State.setSlot, State.setJournal, State.setLun]

@[simp] theorem State.padSlots_ns : (s.padSlots nsid z).store.ns = s.store.ns := by
  unfold State.padSlots
  split
  · rfl
  · dsimp only
    split
    · rfl
    · refine foldl_keeps (fun a : State => a.store.ns) (fun a e => ?_) _ _
      split
      · split
        · exact State.issueProgram_ns ..
        · rfl
      · rfl

end

/-- Zone Management Send on one zone whose action succeeds leaves the namespace as the action did, and has ended. -/
theorem State.FullAt.finishZone {s : State} {nsid z : Nat} {x : Ns} (ns : s.ns? nsid = some x)
    (active : (x.zone z).state.isActive = true ∨ (x.zone z).state = .empty) :
    ∃ b, s.finishZone nsid z (x.zone z) = .ok b ∧ b.FullAt nsid z (x.zone z).wp ∧ b.host = s.host := by
  obtain ⟨w, hw, same, -⟩ := State.zoneTo_zones (z := z) ns fun a =>
    { a with
      state := .full
      finishRec := false
      dstate := if a.dstate = .none ∧ ((s.ns? nsid).elim false (·.word.digest)) then .running else a.dstate
      dctx := if a.dstate = .none ∧ ((s.ns? nsid).elim false (·.word.digest)) then some DigestCtx.fresh else a.dctx }
  have full := State.FullAt.digestDone (State.FullAt.digestZone (4 * (x.zone z).slots.length)
    (State.FullAt.mk (z := z) (wp := (x.zone z).wp) hw (by rw [same]) (by rw [same])))
  have done := full.of_ns (State.padSlots_ns (z := z) (nsid := nsid))
  refine ⟨_, ?_, done, by simp⟩
  unfold State.finishZone
  cases hs : (x.zone z).state <;> simp_all [ZState.isActive, ZState.isOpen]

/-- Settles O23: each action from each state, and what taking a state does to a zone and leaves of the others. -/
theorem zoneManagementMovesTheState : Obligations.ZoneManagementMovesTheState := by
  unfold Obligations.ZoneManagementMovesTheState
  rintro h nsid slba z s a x c start pass ns rfl hc open_
  refine ⟨?_, fun shut => ?_, fun empty full => ?_, fun closed full none_ => ?_, fun may room => ?_, fun shut => ⟨?_, ?_⟩,
    fun from_ => ?_, fun from_ => ?_, fun readOnly => ?_, fun full => ?_⟩
  · have close := State.closeZone_eq (s := a) (nsid := nsid) (z := slba / a.zsze x.width) (y := x.zone (slba / a.zsze x.width))
    split
    next closed =>
      rw [if_pos closed] at close
      exact State.zoneAction_ok start pass ns close
    next closed =>
      rw [if_neg closed] at close
      split
      next open_ =>
        rw [if_pos open_] at close
        exact State.zoneAction_ok start pass ns close
      next open_ =>
        rw [if_neg open_] at close
        exact State.zoneAction_error start pass ns close
  · refine State.zoneAction_error start pass ns ?_
    rcases shut with is | is | is <;> simp [State.explicitOpen, is] <;> rfl
  · refine State.zoneAction_error start pass ns ?_
    have no : a.openable nsid (x.zone (slba / a.zsze x.width)) = .error .tooManyActive := by
      simp [State.openable, ns, empty, ZState.isActive, ZState.isOpen, full]
    simp only [State.explicitOpen, empty]
    exact State.openZone_error ns no
  · refine State.zoneAction_error start pass ns ?_
    have no : a.openable nsid (x.zone (slba / a.zsze x.width)) = .error .tooManyOpen := by
      simpa [State.openable, ns, closed, ZState.isActive, ZState.isOpen, full] using none_
    simp only [State.explicitOpen, closed]
    exact State.openZone_error ns no
  · have can : a.openable nsid (x.zone (slba / a.zsze x.width)) = .ok a := by
      refine State.openable_ok ns ?_ room
      rcases may with closed | ⟨-, few⟩
      · exact .inl (by rw [closed]; rfl)
      · exact .inr few
    have did : a.explicitOpen nsid (slba / a.zsze x.width) (x.zone (slba / a.zsze x.width))
        = a.openZone nsid (slba / a.zsze x.width) .explicitOpen := by
      unfold State.explicitOpen
      rcases may with is | ⟨is, -⟩ <;> rw [is]
    obtain ⟨w, hw, same, rest⟩ := State.zoneTo_zones (z := slba / a.zsze x.width) ns
      fun y => { y with state := if y.state = .explicitOpen then .explicitOpen else .explicitOpen }
    exact ⟨_, w, State.zoneAction_ok start pass ns (did.trans (State.openZone_ok ns can)), hw, by rw [same]; simp,
      by rw [same], rest⟩
  · refine State.zoneAction_error start pass ns ?_
    rcases shut with is | is <;> simp [State.finishZone, is] <;> rfl
  · refine State.zoneAction_error start pass ns ?_
    rcases shut with is | is <;> simp [State.resetZone, is] <;> rfl
  · obtain ⟨b, did, ⟨w, hw, full, at_⟩, host⟩ := State.FullAt.finishZone ns from_
    obtain ⟨d, hd, done⟩ := State.ended_finish (s := b) Cpl.ok ((State.ctx_of_host host h).trans hc) open_
    exact ⟨_, w, d, State.zoneAction_ok start pass ns did, hw, full, at_, hd, done⟩
  · obtain ⟨w, hw, same, rest⟩ := State.clearZone_zones (z := slba / a.zsze x.width) ns false fun y =>
      { Zone.initial with
        state := .empty, epoch := (x.zone (slba / a.zsze x.width)).epoch, zgen := (y.zgen + 1) % 2 ^ 16 }
    have did : a.resetZone nsid (slba / a.zsze x.width) (x.zone (slba / a.zsze x.width))
        = .ok (a.emptyZone nsid (slba / a.zsze x.width) .empty (x.zone (slba / a.zsze x.width)).epoch false) := by
      unfold State.resetZone
      cases hs : (x.zone (slba / a.zsze x.width)).state <;> simp_all [ZState.isActive, ZState.isOpen]
    obtain ⟨d, hd, done⟩ := State.ended_finish
      (s := a.emptyZone nsid (slba / a.zsze x.width) .empty (x.zone (slba / a.zsze x.width)).epoch false) Cpl.ok
      ((State.ctx_of_host (by simp) h).trans hc) open_
    exact ⟨_, w, d, State.zoneAction_ok start pass ns did, hw, by rw [same], by rw [same]; rfl, by rw [same]; rfl,
      by rw [same]; rfl, by rw [same], hd, done, rest⟩
  · obtain ⟨w, hw, same, rest⟩ := State.clearZone_zones (z := slba / a.zsze x.width) ns false fun y =>
      { Zone.initial with state := .offline, epoch := y.epoch, zgen := y.zgen, dstate := y.dstate, digest := y.digest }
    exact ⟨_, w, State.zoneAction_ok start pass ns (by rw [State.offlineZone, readOnly]), hw, by rw [same], rest⟩
  · refine State.zoneAction_error start pass ns ?_
    simp [State.offlineZone, full]
    rfl

end Sys2Proof.Machine
end


section
/-! Secure Reset (R169, R171) -/
namespace Sys2Proof.Machine

section
variable {s a b : State} {h : Hdr} {nsid slba z : Nat} {x : Ns} {y : Zone} {c : Ctx}

/-- A zone's old key is none that a purge of it keeps. -/
theorem not_mem_purged (slot kid zslba epoch : Nat) (keys : List KeyRef) :
    KeyRef.zoneKey slot kid zslba epoch ∉ keys.filter (purgeZoneKey slot zslba epoch) := by
  simp [purgeZoneKey]

theorem State.purgeKeys_ns (keep : KeyRef → Bool) (n : Nat) : (s.purgeKeys keep).ns? n = s.ns? n := rfl

/-- The last steps of a Secure Reset purge the zone's old key from every cell. -/
theorem State.secureZone_keys : ∀ e ∈ (s.secureZone nsid z x y).cells.cells,
    ∀ k, KeyRef.zoneKey x.keySlot k (z * s.zsze x.width) y.epoch ∉ e.2.keys := by
  have purged : (s.secureZone nsid z x y).cells
      = (s.purgeKeys (purgeZoneKey x.keySlot (z * s.zsze x.width) y.epoch)).cells := by
    unfold State.secureZone
    dsimp only
    split <;> simp
  rw [purged]
  rintro e he k
  obtain ⟨d, -, rfl⟩ := List.mem_map.mp he
  exact not_mem_purged x.keySlot k (z * s.zsze x.width) y.epoch d.2.keys

/-- A zone that is emptied is without data, in the state and under the epoch it is given. -/
theorem State.emptyZone_zone (ns : s.ns? nsid = some x) (st : ZState) (epoch : Nat) (secure : Bool) :
    ∃ w, (s.emptyZone nsid z st epoch secure).ns? nsid = some w ∧ (w.zone z).wp = 0 ∧ (w.zone z).dstate = .none ∧
      (w.zone z).state = st ∧ (w.zone z).epoch = epoch := by
  obtain ⟨w, hw, same, -⟩ := State.clearZone_zones (z := z) ns secure fun a =>
    { Zone.initial with state := st, epoch := epoch, zgen := (a.zgen + 1) % 2 ^ 16 }
  exact ⟨w, hw, by rw [same]; rfl, by rw [same]; rfl, by rw [same], by rw [same]⟩

/-- They leave the zone Empty under the next epoch, or Offline at the last one. -/
theorem State.secureZone_zone (ns : s.ns? nsid = some x) :
    ∃ w, (s.secureZone nsid z x y).ns? nsid = some w ∧ (w.zone z).wp = 0 ∧ (w.zone z).dstate = .none ∧
      (y.epoch ≠ 0xFFFFFFFF → (w.zone z).state = .empty ∧ (w.zone z).epoch = y.epoch + 1) ∧
      (y.epoch = 0xFFFFFFFF → (w.zone z).state = .offline ∧ (w.zone z).epoch = y.epoch) := by
  unfold State.secureZone
  dsimp only
  split
  next last =>
    obtain ⟨w, hw, wp, dstate, state, epoch⟩ := State.emptyZone_zone (z := z)
      (s := s.purgeKeys (purgeZoneKey x.keySlot (z * s.zsze x.width) y.epoch)) ns .offline y.epoch true
    refine ⟨w, ?_, wp, dstate, fun no => absurd last no, fun _ => ⟨state, epoch⟩⟩
    simpa [State.ns?] using hw
  next more =>
    obtain ⟨w, hw, wp, dstate, state, epoch⟩ := State.emptyZone_zone (z := z)
      (s := s.purgeKeys (purgeZoneKey x.keySlot (z * s.zsze x.width) y.epoch)) ns .empty (y.epoch + 1) true
    exact ⟨w, hw, wp, dstate, fun _ => ⟨state, epoch⟩, fun last => absurd last more⟩

/-- The namespace of which zone z is under Secure Reset by a command. -/
def Ns.underReset (x : Ns) (z : Nat) (h : Hdr) : Ns := x.setZone z { x.zone z with resetting := some h, resetPage := 0 }

theorem State.goReset_one (ns : a.ns? nsid = some x) (free : (x.zone (slba / a.zsze x.width)).resetting = none)
    (can : resettable (x.zone (slba / a.zsze x.width)) = true) :
    a.goReset h nsid slba false = ((a.setNs nsid (x.underReset (slba / a.zsze x.width) h)).modCtx h fun c =>
      { c with wait := .epoch, cmd := none }).writeEpochs h nsid := by
  simp [State.goReset, ns, State.resetTargets, free, can, Ns.underReset]

/-- A unit of a zone under Secure Reset is busy. -/
theorem State.zoneBusy_underReset {u : Nat} (ns : b.ns? nsid = some (x.underReset z h)) (zoned : x.kind = .zoned)
    (in_ : u / b.zoneUnits x = z) : b.zoneBusy nsid u = true := by
  have unit : u / b.zoneUnits (x.underReset z h) = z := in_
  have kind : (x.underReset z h).kind = .zoned := zoned
  have held : ((x.underReset z h).zone z).resetting = some h := by
    rw [Ns.underReset, Ns.zone_setZone_same]
  simp [State.zoneBusy, ns, unit, kind, held]

end

/-! ### Reports of zones and digests (R156, R167) -/

theorem DigestDesc.bits_dstate (d : DigestDesc) : d.bits.extractLsb' 0 4 = BitVec.ofNat 4 d.dstate := by
  have apart : ∀ e f g h i : Nat, d.dstate % 16 + e * 2 ^ 4 + f * 2 ^ 32 + g * 2 ^ 64 + h * 2 ^ 128 + i * 2 ^ 256
      = d.dstate % 16 + 2 ^ 4 * (e + f * 2 ^ 28 + g * 2 ^ 60 + h * 2 ^ 124 + i * 2 ^ 252) := fun e f g h i => by omega
  apply BitVec.eq_of_toNat_eq
  rw [BitVec.extractLsb'_toNat, DigestDesc.bits, BitVec.toNat_ofNat, BitVec.toNat_ofNat, Nat.shiftRight_zero,
    Nat.mod_mod_of_dvd _ (Nat.pow_dvd_pow 2 (by decide : 4 ≤ 512)), apart, Nat.add_mul_mod_self_left]
  exact Nat.mod_mod _ _

theorem DigestDesc.bits_digest (d : DigestDesc) (none_ : d.digest = 0) : d.bits.extractLsb' 256 256 = 0#256 := by
  have low : ∀ b c e f g : Nat, b < 16 → c < 16 → e < 2 ^ 32 → f < 2 ^ 64 → g < 2 ^ 64 →
      b + c * 2 ^ 4 + e * 2 ^ 32 + f * 2 ^ 64 + g * 2 ^ 128 < 2 ^ 256 := by
    intro b c e f g hb hc he hf hg
    calc b + c * 2 ^ 4 + e * 2 ^ 32 + f * 2 ^ 64 + g * 2 ^ 128
        < 2 ^ 192 := by omega
      _ < 2 ^ 256 := Nat.pow_lt_pow_right (by decide) (by decide)
  apply BitVec.eq_of_toNat_eq
  rw [BitVec.extractLsb'_toNat, DigestDesc.bits, BitVec.toNat_ofNat, none_, Nat.zero_mod, Nat.zero_mul, Nat.add_zero,
    Nat.shiftRight_eq_div_pow, Nat.div_eq_of_lt]
  · rfl
  · exact Nat.lt_of_le_of_lt (Nat.mod_le _ _) (low _ _ _ _ _ (Nat.mod_lt _ (by decide)) (Nat.mod_lt _ (by decide))
      (Nat.mod_lt _ (by decide)) (Nat.mod_lt _ (by decide)) (Nat.mod_lt _ (by decide)))

theorem mem_zonesFrom {s : State} {x : Ns} {slba z : Nat} (hz : z ∈ s.zonesFrom x slba) : slba / s.zsze x.width ≤ z := by
  obtain ⟨i, hi, rfl⟩ := List.getElem_of_mem hz
  simp [State.zonesFrom]

/-- What is taken of a report fits behind its header, or nothing does. -/
theorem reportRoom_fits {α : Type} (l : List α) (m : Nat) :
    l.take (reportRoom m) = [] ∨ 64 + 64 * (l.take (reportRoom m)).length ≤ 4 * (m + 1) := by
  rcases Nat.eq_zero_or_pos (reportRoom m) with none_ | pos
  · exact .inl (by rw [none_]; rfl)
  · refine .inr ?_
    have := List.length_take_le (reportRoom m) l
    unfold reportRoom numdBytes at *
    omega

theorem DState.code_final (d : DState) : BitVec.ofNat 4 d.code = 2#4 ↔ d = .final := by
  cases d <;> decide

/-- Settles O24: Secure Reset by its checks and its last steps; the reports by what is taken of the zones from SLBA on. -/
theorem secureResetDropsTheOldKey : Obligations.SecureResetDropsTheOldKey := by
  unfold Obligations.SecureResetDropsTheOldKey
  refine ⟨fun h nsid slba s a x start pass ns => ⟨fun plain => ?_, fun keyed free shut => ?_, fun keyed held => ?_,
    fun keyed free full => ?_⟩, ?_, fun h nsid slba f m part s a x start pass ns => ⟨fun known => ?_, fun plain => ?_,
    fun digest known => ?_⟩⟩
  · exact State.ioRun_ends start (st := .invalidField) (by simp [pass, ns, plain, orElse]) (by decide) _
  · refine (State.ioRun_of_starts start (by simp [pass, ns, keyed, orElse]) _).trans (congrArg _ ?_)
    have no : resettable (x.zone (slba / a.zsze x.width)) = false := by rcases shut with is | is <;> rw [resettable, is] <;> rfl
    simp [State.goReset, ns, State.resetTargets, free, no]
    rfl
  · obtain ⟨g, hg⟩ := held
    refine (State.ioRun_of_starts start (by simp [pass, ns, keyed, orElse]) _).trans (congrArg _ ?_)
    simp [State.goReset, ns, State.resetTargets, hg]
  · refine ⟨_, (State.ioRun_of_starts start (by simp [pass, ns, keyed, orElse]) _).trans
      (congrArg _ (State.goReset_one ns free (by rw [resettable, full]; rfl))), ⟨_, State.ns_setNs_same .., ?_, ?_⟩, rfl⟩
    · rw [Ns.underReset, Ns.zone_setZone_same]
    · exact fun u in_ zoned => State.zoneBusy_underReset (State.ns_setNs_same ..) zoned in_
  · rintro s nsid z x y ns rfl
    exact ⟨State.secureZone_keys, State.secureZone_zone ns⟩
  · have run := State.ioRun_of_starts start (check := fun x => orElse (x.receiveCheck h nsid slba m)
      (if 7 < f then some .invalidField else none)) (by simp [pass, orElse]; omega)
    refine ⟨_, _, (run _).trans (by simp only [ns]; rfl), ?_, fun is => by simp [is], fun is => by simp [is], fun d hd => ?_⟩
    · rw [List.map_take]
      exact reportRoom_fits ..
    · obtain ⟨z, hz, rfl⟩ := List.mem_map.mp hd
      obtain ⟨from_, lists⟩ := List.mem_filter.mp (List.mem_of_mem_take hz)
      exact ⟨z, mem_zonesFrom from_, rfl, rfl, rfl, lists⟩
  · exact State.ioRun_ends start (st := .invalidField) (by simp [pass, ns, plain, orElse]) (by decide) _
  · have run := State.ioRun_of_starts start (check := fun x => orElse (x.receiveCheck h nsid slba m) (match x.ns? nsid with
      | some n => if n.word.digest ∧ f ≤ 1 then none else some .invalidField
      | none => none)) (by simp [pass, ns, digest, known, orElse])
    refine ⟨_, _, (run _).trans (by simp only [ns]; rfl), ?_, fun d hd => ?_⟩
    · rw [List.map_take]
      exact reportRoom_fits ..
    · obtain ⟨z, hz, rfl⟩ := List.mem_map.mp hd
      obtain ⟨-, lists⟩ := List.mem_filter.mp (List.mem_of_mem_take hz)
      rw [DigestDesc.bits_dstate]
      refine ⟨fun only => ?_, fun other => DigestDesc.bits_digest _ (if_neg fun is => other ?_)⟩
      · exact (DState.code_final _).mpr (by simpa [only] using lists)
      · exact (DState.code_final _).mpr is

end Sys2Proof.Machine
end


section
/-! The timers of placement (R157, R161, R170, R182) -/
namespace Sys2Proof.Machine

section
variable {s : State} {nsid z : Nat}

/-- The objects do not change as time passes. -/
theorem State.tick_cfg (s : State) (t : Nat) (r : ObjRow) (i j : Nat) : (s.tick t).cfg r i j = s.cfg r i j := rfl

/-- A zone whose age has run out is listed once more for a function. -/
def State.noteZone (e : Nat × Nat) (s : State) (f : Nat) : State :=
  { s with admin := { s.admin with changedZones := Tbl.put s.admin.changedZones f (Tbl.get [] s.admin.changedZones f ++ [e]) } }

theorem State.noteZone_mem (e : Nat × Nat) (s : State) (f g : Nat) (listed : e ∈ Tbl.get [] s.admin.changedZones g ∨ g = f) :
    e ∈ Tbl.get [] (s.noteZone e f).admin.changedZones g := by
  unfold State.noteZone
  by_cases same : g = f
  · subst same
    simp
  · rw [Tbl.get_put_ne _ _ _ same]
    exact listed.resolve_right same

/-- It is then listed for every function of a list. -/
theorem State.noteZones_mem (e : Nat × Nat) (l : List Nat) (s : State) (g : Nat)
    (listed : e ∈ Tbl.get [] s.admin.changedZones g ∨ g ∈ l) :
    e ∈ Tbl.get [] (l.foldl (State.noteZone e) s).admin.changedZones g := by
  induction l generalizing s with
  | nil => simpa using listed
  | cons f l ih =>
    refine ih _ ?_
    rcases listed with here | here
    · exact .inl (State.noteZone_mem e s f g (.inl here))
    · rcases List.mem_cons.mp here with is | later
      · exact .inl (State.noteZone_mem e s f g (.inr is))
      · exact .inr later

theorem State.noteZones_store (e : Nat × Nat) (l : List Nat) (s : State) : (l.foldl (State.noteZone e) s).store = s.store :=
  foldl_keeps State.store (by intro a f; rfl) l s

theorem State.closeUnit_of_open {r g id : Nat} {q : Stripe} (open_ : s.openOf (.ns 0 (g * 1024 + r)) g = some id)
    (hq : s.stripe? id = some q) : s.closeUnit r g = s.setStripe id { q with ended := true } := by
  simp [State.closeUnit, open_, hq]

theorem State.raise_stripes (f : Func) (e : AsyncEvent) : (s.raise f e).store = s.store := by simp

theorem State.fdpEvent_stripes (type ru : Nat) : (s.fdpEvent type ru).store.stripes = s.store.stripes := by
  unfold State.fdpEvent
  split
  · rw [State.raise_stripes]
  · rfl

end

/-- As many descriptors of a placement identifier each as are taken. -/
theorem length_flatMap_four {α : Type} (l : List α) (f : α → List Nat) (four : ∀ a, (f a).length = 4) :
    (l.flatMap f).length = 4 * l.length := by
  rw [List.length_flatMap, List.map_congr_left fun a _ => four a]
  rw [sum_map_const, Nat.mul_comm]

section
variable {s : State} {l : Fin 4096} {b w : Nat} {ok : Bool}

/-- A block that no Secure Reset queued is not erased. -/
theorem State.secureEraseDue_of_none (none_ : s.store.secureDue.find? (fun e => (e.1, e.2.1) = (l.val, b)) = none) :
    exec (.secureEraseDue l b ok w) s = .next (s.tick w) := by
  show execSecureEraseDue l b ok w s = _
  unfold execSecureEraseDue
  dsimp only
  rw [show (s.tick w).store.secureDue = s.store.secureDue from rfl, none_]

/-- One that it queued is erased at its time, where the modes permit erase. -/
theorem State.secureEraseDue_of_queued {e : Nat × Nat × Nat}
    (queued : s.store.secureDue.find? (fun e => (e.1, e.2.1) = (l.val, b)) = some e) :
    exec (.secureEraseDue l b ok w) s
      = if s.erasePermitted = true ∧ e.2.2 + 1000000000 * s.cfg Obj.secureEraseS ≤ (s.tick w).store.eraseClock then
          .next (if ok then ((s.tick w).unqueueErase l.val b).blockErased l.val b
            else ((s.tick w).unqueueErase l.val b).eraseFails l.val b)
        else .next (s.tick w) := by
  show execSecureEraseDue l b ok w s = _
  unfold execSecureEraseDue
  dsimp only
  rw [show (s.tick w).store.secureDue = s.store.secureDue from rfl, queued]
  rfl

end

/-- The placement identifiers of a namespace: group, place in its handle list, and handle. -/
def State.handleIds (s : State) (x : Ns) : List (Nat × Nat × Nat) :=
  (List.range s.groups.length).flatMap fun g => (x.handles.zipIdx).map fun e => (g, e.2, e.1)

/-- What Reclaim Unit Handle Status says of one. -/
def State.handleWords (s : State) (x : Ns) (e : Nat × Nat × Nat) : List Nat :=
  [e.1 * 1024 + e.2.1, e.2.2, (s.unitLeft x e.2.2 e.1).2, (s.unitLeft x e.2.2 e.1).1]

theorem State.handleIds_length (s : State) (x : Ns) : (s.handleIds x).length = s.groups.length * x.handles.length := by
  simp [State.handleIds, sum_map_const]

/-- Settles O25: each timer at its time and before it. -/
theorem placementTimersCloseUnits : Obligations.PlacementTimersCloseUnits := by
  unfold Obligations.PlacementTimersCloseUnits
  refine ⟨fun nsid z w s x ns zoned active stripe fresh => ⟨fun early => ?_, fun due => ?_⟩,
    fun r g w id q s open_ hq => ⟨fun early => ?_, fun due => ?_⟩,
    fun h nsid pid id q s a b x r start gate fdp ns handle pointer open_ hq hb => ?_,
    fun h nsid m n k s a x start gate fdp transfer ns hn hk => ?_,
    fun l b w ok e s queued may => ⟨fun due => ?_, fun early => ?_⟩, fun l b w ok s none_ => ?_, fun k w q x s hq ns => ?_⟩
  · have young : (s.tick w).hoursSince (x.zone z).opened (s.cfg Obj.zoneAgeH) = false := decide_eq_false (Nat.not_le.mpr early)
    show execZoneAgeExpiry nsid z w s = _
    simp only [execZoneAgeExpiry, show (s.tick w).ns? nsid = some x from ns, State.tick_cfg, young]
    simp
  · have old : (s.tick w).hoursSince (x.zone z).opened (s.cfg Obj.zoneAgeH) = true := decide_eq_true due
    let y := x.setZone z { x.zone z with finishRec := true }
    have run : exec (.zoneAgeExpiry nsid z w) s = .next ((x.attached.foldl (State.noteZone (nsid, z * s.zsze x.width))
        ((s.tick w).setNs nsid y)).raiseAll x.attached .zoneDescriptorChanged) := by
      show execZoneAgeExpiry nsid z w s = _
      simp only [execZoneAgeExpiry, show (s.tick w).ns? nsid = some x from ns, State.tick_cfg, old]
      rewrite [if_pos (by simp [zoned, active, fresh, Option.isSome_iff_ne_none, stripe])]
      rfl
    refine ⟨_, y, run, ?_, ?_, ?_, ?_, fun f hf => ?_⟩
    · rw [State.ns?, (state_raiseAll_frame ..).2.2.2.2.2.2.1, State.noteZones_store]
      exact State.ns_setNs_same ..
    · rw [Ns.zone_setZone_same]
    · rw [Ns.zone_setZone_same]
    · exact fun v n => Ns.zone_setZone_ne _ _ n
    · simpa using State.noteZones_mem (nsid, z * s.zsze x.width) x.attached ((s.tick w).setNs nsid y) f (.inr hf)
  · have young : (s.tick w).hoursSince q.openedAt (s.cfg Obj.ruTimeLimitH) = false := decide_eq_false (Nat.not_le.mpr early)
    show execReclaimUnitTimeLimit r g w s = _
    have open_' : (s.tick w).openOf (.ns 0 (g * 1024 + r)) g = some id := open_
    have hq' : (s.tick w).stripe? id = some q := hq
    simp [execReclaimUnitTimeLimit, open_', hq', State.tick_cfg, young]
  · have old : (s.tick w).hoursSince q.openedAt (s.cfg Obj.ruTimeLimitH) = true := decide_eq_true due
    have open_' : (s.tick w).openOf (.ns 0 (g * 1024 + r)) g = some id := open_
    have hq' : (s.tick w).stripe? id = some q := hq
    have run : exec (.reclaimUnitTimeLimit r g w) s
        = .next (((s.tick w).setStripe id { q with ended := true }).fdpEvent 1 (g * 1024 + r)) := by
      show execReclaimUnitTimeLimit r g w s = _
      simp [execReclaimUnitTimeLimit, open_', hq', State.tick_cfg, old,
        State.closeUnit_of_open open_' hq']
    refine ⟨_, { q with ended := true }, run, ?_, rfl, rfl, rfl⟩
    rw [State.stripe?, State.fdpEvent_stripes]
    exact State.stripe_setStripe_same ..
  · subst hb
    refine (State.ioRun_of_starts start (by simp [gate, fdp, ns, handle, pointer, orElse]) _).trans (congrArg _ ?_)
    simp only [ns, List.foldl_cons, List.foldl_nil, handle, State.nextUnit, State.closeUnit_of_open open_ hq]
    rfl
  · refine ⟨((a.handleIds x).take ((numdBytes m - 16) / 32)).flatMap (a.handleWords x), ?_, ?_⟩
    · refine (State.ioRun_of_starts start (by simp [gate, fdp, orElse]; exact transfer) _).trans ?_
      simp only [ns, hn, ← State.handleIds_length]
      rfl
    · rw [length_flatMap_four _ _ (by intro e; rfl), List.length_take, State.handleIds_length, hk, hn]
      simp [numdBytes, Nat.min_comm]
  · rw [State.secureEraseDue_of_queued queued, if_pos ⟨may, due⟩]
    rfl
  · rw [State.secureEraseDue_of_queued queued, if_neg fun is => by omega]
  · rcases none_ with none_ | no
    · exact State.secureEraseDue_of_none (by simpa using none_)
    · cases queued : s.store.secureDue.find? fun e => (e.1, e.2.1) = (l.val, b) with
      | none => exact State.secureEraseDue_of_none queued
      | some e => rw [State.secureEraseDue_of_queued queued, if_neg fun is => by simp [no] at is]
  · show execMergeWaitExpiry k w s = _
    have kind : (((s.tick w).ns? q.nsid).elim true fun n => decide (n.kind = .zoned)) = decide (x.kind = .zoned) := by
      rw [show (s.tick w).ns? q.nsid = some x from ns]
      rfl
    unfold execMergeWaitExpiry
    dsimp only
    rw [show (s.tick w).slot? k = some q from hq]
    simp only [kind, decide_eq_true_eq, State.tick_cfg, show (s.tick w).now = max s.now w from rfl]
    exact (apply_ite Host.Outcome.next ..).symm

end Sys2Proof.Machine
end


section
/-! The lowest number that a table does not list -/
namespace Sys2Proof.Machine

section
variable {α : Type} {t : Tbl α} {k : Nat} {v : α}

theorem Tbl.mem_put {e : Nat × α} (he : e ∈ Tbl.put t k v) : e = (k, v) ∨ e ∈ t := by
  induction t with
  | nil => simpa [Tbl.put] using he
  | cons p t ih =>
    obtain ⟨j, w⟩ := p
    unfold Tbl.put at he
    split at he
    · simpa using he
    · split at he
      · rcases List.mem_cons.mp he with is | later
        · exact .inl is
        · exact .inr (List.mem_cons_of_mem _ later)
      · rcases List.mem_cons.mp he with is | later
        · exact .inr (is ▸ List.mem_cons_self)
        · exact (ih later).imp_right (List.mem_cons_of_mem _)

theorem Tbl.find_none_iff : Tbl.find t k = none ↔ ∀ e ∈ t, e.1 ≠ k := by
  induction t with
  | nil => simp [Tbl.find]
  | cons p t ih =>
    obtain ⟨j, w⟩ := p
    unfold Tbl.find
    split <;> simp_all

/-- Where one of the numbers searched is not listed, the one found is not. -/
theorem Tbl.find_fresh {n fuel : Nat} (free : ∃ k, n ≤ k ∧ k < n + fuel ∧ Tbl.find t k = none) :
    Tbl.find t (Tbl.fresh t n fuel) = none := by
  induction fuel generalizing n with
  | zero =>
    obtain ⟨k, lo, hi, -⟩ := free
    omega
  | succ fuel ih =>
    obtain ⟨k, lo, hi, hk⟩ := free
    unfold Tbl.fresh
    split
    next taken =>
      have other : k ≠ n := by
        rintro rfl
        simp [hk] at taken
      exact ih ⟨k, by omega, by omega, hk⟩
    next none_ => simpa using none_

/-- A table with fewer entries than numbers searched leaves one of them free. -/
theorem Tbl.find_fresh_of_length {n fuel : Nat} (few : t.length < fuel) : Tbl.find t (Tbl.fresh t n fuel) = none := by
  refine Tbl.find_fresh ?_
  refine Classical.byContradiction fun none_ => ?_
  have listed : (List.range fuel).map (· + n) ⊆ t.map (·.1) := by
    intro k hk
    obtain ⟨i, hi, rfl⟩ := List.mem_map.mp hk
    refine Classical.byContradiction fun absent => none_ ⟨i + n, by omega, by have := List.mem_range.mp hi; omega, ?_⟩
    exact
      (Tbl.find_none_iff.mpr fun e he is => absent (List.mem_map.mpr ⟨e, he, is⟩))
  have once : ((List.range fuel).map (· + n)).Nodup := nodup_map_of_inj (fun a b e => by simpa using e) List.nodup_range
  have := once.length_le_of_subset listed
  simp only [List.length_map, List.length_range] at this
  omega

end

end Sys2Proof.Machine
end

section
/-! Namespaces are created (R154, R229, R289) -/
namespace Sys2Proof.Machine

/-- A namespace as it was made, but for what replay skips and whether modifying commands are barred. -/
def Ns.MadeAs (m n : Ns) : Prop := m = { n with born := m.born, writeBlocked := m.writeBlocked }

section
variable {s a : State} {h : Hdr} {id : Nat} {n : Ns}

/-- A state that holds a namespace as it was made. -/
def State.Holds (s : State) (id : Nat) (n : Ns) : Prop := ∃ m, s.ns? id = some m ∧ m.MadeAs n

theorem State.Holds.of_ns {t : State} (held : s.Holds id n) (same : t.store.ns = s.store.ns) : t.Holds id n := by
  obtain ⟨m, hm, made⟩ := held
  exact ⟨m, by rwa [State.ns?, same], made⟩

theorem State.Holds.settleWidth {e : Nat × Ns} (held : s.Holds id n) (made : e.1 = id → e.2.MadeAs n) :
    (s.settleWidth e).Holds id n := by
  unfold State.settleWidth
  dsimp only
  split
  · exact held
  · refine State.Holds.of_ns (s := s.setNs e.1 { e.2 with writeBlocked := true }) ?_ (by simp)
    by_cases is : e.1 = id
    · refine ⟨{ e.2 with writeBlocked := true }, by rw [← is]; exact State.ns_setNs_same .., ?_⟩
      have := made is
      unfold Ns.MadeAs at *
      rw [this]
    · obtain ⟨m, hm, made⟩ := held
      exact ⟨m, by rw [State.ns_setNs_ne _ _ (Ne.symm is)]; exact hm, made⟩

theorem State.Holds.settleWidths (held : s.Holds id n) (made : ∀ e ∈ s.store.ns, e.1 = id → e.2.MadeAs n) :
    s.settleWidths.Holds id n := by
  have all : ∀ (l : List (Nat × Ns)) (t : State), (∀ e ∈ l, e.1 = id → e.2.MadeAs n) → t.Holds id n →
      (l.foldl State.settleWidth t).Holds id n := by
    intro l
    induction l with
    | nil => exact fun t _ ht => ht
    | cons e l ih =>
      intro t hl ht
      exact ih _ (fun d hd => hl d (List.mem_cons_of_mem _ hd)) (State.Holds.settleWidth ht (hl e List.mem_cons_self))
  exact all _ s made held

theorem State.closePage_ns : s.closePage.store.ns = s.store.ns :=
  congrArg (·.1.ns) s.closePage_besideJournal

/-- A namespace whose earlier records replay skips is the only one under its number, and stands as it was made. -/
theorem State.forgetOld_holds (ns : s.ns? id = some n) (only : ∀ e ∈ s.store.ns, e.1 = id → e.2 = n) :
    (s.forgetOld id).Holds id n ∧ ∀ e ∈ (s.forgetOld id).store.ns, e.1 = id → e.2.MadeAs n := by
  have put : (s.forgetOld id).store.ns = Tbl.put s.store.ns id { n with born := s.closePage.store.journal.next } := by
    have found : Tbl.find s.store.ns id = some n := ns
    simp [State.forgetOld, Tbl.upd, State.closePage_ns, found]
  refine ⟨⟨{ n with born := s.closePage.store.journal.next }, by rw [State.ns?, put, Tbl.find_put_same], rfl⟩,
    fun e he is => ?_⟩
  rw [put] at he
  rcases Tbl.mem_put he with rfl | there
  · rfl
  · rw [only e there is]
    rfl

/-- A namespace that is made is held once its key and its records are. -/
theorem State.create_holds (free : Tbl.find s.store.ns id = none) (kind keyId : Nat) (t : State)
    (same : t.store.ns = (s.setNs id n).store.ns) (r : JRec) :
    ((((t.putKey (id - 1) kind 1 keyId).forgetOld id).journal r).settleWidths).Holds id n := by
  have stored : (t.putKey (id - 1) kind 1 keyId).store.ns = Tbl.put s.store.ns id n := by
    exact same
  obtain ⟨held, made⟩ := State.forgetOld_holds (s := t.putKey (id - 1) kind 1 keyId) (id := id) (n := n)
    (by rw [State.ns?, stored, Tbl.find_put_same]) (fun e he is => by
      rw [stored] at he
      rcases Tbl.mem_put he with rfl | there
      · rfl
      · exact absurd is (Tbl.find_none_iff.mp free e there))
  exact State.Holds.settleWidths (held.of_ns (State.journal_ns ..)) (by rwa [State.journal_ns])

end

/-- The namespace that a create makes, with its key and its records. -/
def State.created (s : State) (x : NsArgs) (p : Port) : State :=
  let id := Tbl.fresh s.store.ns 1 4096
  let n := s.newNs x p (id - 1)
  let b := (s.setNs id n).newKey
  (((b.2.putKey (id - 1) n.keyKind 1 b.1).forgetOld id).journal (.nscfg (id - 1) 1)).settleWidths

theorem State.created_holds {s : State} {x : NsArgs} (few : s.store.ns.length < 4096) (p : Port) :
    (s.created x p).Holds (Tbl.fresh s.store.ns 1 4096) (s.newNs x p (Tbl.fresh s.store.ns 1 4096 - 1)) :=
  State.create_holds (Tbl.find_fresh_of_length few)
    (s.newNs x p (Tbl.fresh s.store.ns 1 4096 - 1)).keyKind s.cipher.nextKey
    ((s.setNs (Tbl.fresh s.store.ns 1 4096) (s.newNs x p (Tbl.fresh s.store.ns 1 4096 - 1))).newKey).2 rfl
    (.nscfg (Tbl.fresh s.store.ns 1 4096 - 1) 1)

/-! ### The commands of namespace management and attachment -/

section
variable {s a : State} {h : Hdr} {nsid : Nat} {x : Ns}

theorem State.sanRun_of_starts (starts : AdminStarts s h a) (open_ : a.has Mode.sanitize = false)
    (body : State → State × Cpl) : s.sanRun h body = ((body a).1).finish h (body a).2 := by
  rw [State.sanRun, State.managerRun_of_starts starts]
  simp [State.sanGate, open_]

theorem State.sanStart_of_starts (starts : AdminStarts s h a) (open_ : a.has Mode.sanitize = false) (go : State → State) :
    s.sanStart h go = .next (go a) := by
  obtain ⟨⟨began, fused, gate, entry⟩, manager⟩ := starts
  unfold State.sanStart State.startAdmin State.startWith
  simp [began, fused, gate, entry, orElse, manager, State.sanGate, open_]

theorem State.buffered_of_none {len : Nat} (fits : a.adminBuffer h len = none) (body : State → State × Cpl) :
    a.buffered h len body = body a := by
  simp [State.buffered, fits]

theorem fnOfCntlid_inst (n : Fin 1024) : fnOfCntlid (0x100 + n.val) = some (.inst n) := by
  have one : ¬ 0x100 + n.val = 1 := by omega
  have two : ¬ 0x100 + n.val = 2 := by omega
  simp [fnOfCntlid, one, two, instanceOfCntlid]

theorem listCodes_inst (n : Fin 1024) : listCodes [0x100 + n.val] = [n.val] := by
  simp [listCodes, fnOfCntlid_inst, Func.code]

theorem mem_insertNsid {n m : Nat} {l : List Nat} : m ∈ insertNsid n l ↔ m = n ∨ m ∈ l := by
  induction l with
  | nil => simp [insertNsid]
  | cons k l ih =>
    unfold insertNsid
    split
    · simp
    · simp only [List.mem_cons, ih]
      exact or_left_comm

/-- What a change of one namespace's functions leaves of the table of namespaces. -/
theorem State.attach_ns {y : Ns} (fs : List Nat) (k : Cpl) :
    ((((a.setNs nsid y).nsChanged nsid fs).finish h k).ns? nsid = some y) ∧
      ∀ j, j ≠ nsid → (((a.setNs nsid y).nsChanged nsid fs).finish h k).ns? j = a.ns? j := by
  have same : (((a.setNs nsid y).nsChanged nsid fs).finish h k).store = (a.setNs nsid y).store := by simp
  refine ⟨?_, fun j n => ?_⟩
  · rw [State.ns?, same]
    exact State.ns_setNs_same ..
  · rw [State.ns?, same]
    exact State.ns_setNs_ne _ _ n

theorem NsArgs_word_cipher (x : NsArgs) (one : x.word.blockVer = 1) :
    (NsArgs_word x).cipherMode = x.word.cipherMode := by
  simp only [NsArgs_word, one]
  split
  · next no => exact absurd no (by decide)
  · split <;> rfl

theorem createRefusal_field (x : NsArgs) (bad : 1 < x.word.blockVer ∨ (x.word.blockVer = 1 ∧ 1 < x.word.cipherMode)) :
    a.createRefusal x = some (.invalidField, none) := by
  refine if_pos ?_
  rcases bad with ver | ⟨ver, cipher⟩
  · exact .inl ver
  · exact .inr (.inl (by rw [NsArgs_word_cipher x ver]; exact cipher))

theorem createRefusal_format (x : NsArgs) (ver : x.word.blockVer = 0) (csi : x.csi = 0) (bad : 2 < x.flbas % 16) :
    a.createRefusal x = some (.invalidFormat, none) := by
  have cipher : (NsArgs_word x).cipherMode = 0 := by simp [NsArgs_word, ver]
  have format : formatOk x.flbas x.dps = false := by
    have beyond : ¬ x.flbas % 16 ≤ 2 := by omega
    simp [formatOk, beyond]
  unfold State.createRefusal
  dsimp only
  rw [if_neg (by simp [ver, csi, cipher]), if_pos (by simp [format])]

/-- A create that passes every check finds room in the table. -/
theorem length_of_createRefusal (x : NsArgs) (pass : a.createRefusal x = none) : a.store.ns.length < 4096 := by
  unfold State.createRefusal at pass
  dsimp only at pass
  refine Nat.lt_of_not_le fun full => ?_
  rw [if_pos full] at pass
  repeat' split at pass
  all_goals cases pass

end

/-- Settles O26: the create by what its records leave of the namespace it made; the others by their checks. -/
theorem namespacesAreMadeAndAttached : Obligations.NamespacesAreMadeAndAttached := by
  unfold Obligations.NamespacesAreMadeAndAttached
  intro h s a starts open_
  refine ⟨fun x fits pass => ?_, fun x fits => ⟨fun bad => ?_, fun ver csi bad => ?_⟩, fun nsid x n ns listable fits =>
    ⟨fun there => ?_, fun absent room => ?_, fun absent => ?_, fun there => ?_⟩, fun nsid flbas dps x ns one =>
    ⟨fun other => ⟨?_, ?_⟩, fun own => ?_, fun own readOnly factory format => ?_⟩⟩
  · obtain ⟨m, hm, made⟩ := (State.created_holds (length_of_createRefusal x pass) (a.portOfFn h.fn)).of_ns
      (t := (a.created x (a.portOfFn h.fn)).finish h (Cpl.ok0 (Tbl.fresh a.store.ns 1 4096))) rfl
    refine ⟨_, m, _, ?_, rfl, hm, ?_⟩
    · show Host.Outcome.next (s.sanRun h _) = _
      rw [State.sanRun_of_starts starts open_, State.buffered_of_none fits, pass]
      rfl
    · rw [made]
      exact ⟨rfl, rfl, rfl, rfl, rfl, rfl, by simp [State.newNs]⟩
  · show Host.Outcome.next (s.sanRun h _) = _
    rw [State.sanRun_of_starts starts open_, State.buffered_of_none fits, createRefusal_field x bad]
    rfl
  · show Host.Outcome.next (s.sanRun h _) = _
    rw [State.sanRun_of_starts starts open_, State.buffered_of_none fits, createRefusal_format x ver csi bad]
    rfl
  · show Host.Outcome.next (s.sanRun h _) = _
    rw [State.sanRun_of_starts starts open_, State.buffered_of_none fits, ns]
    simp [listCodes_inst, listable, there, refuse]
    rfl
  · obtain ⟨held, rest⟩ := State.attach_ns (a := a) (h := h) (nsid := nsid)
      (y := { x with attached := insertNsid n.val x.attached }) [n.val] Cpl.ok
    refine ⟨_, _, ?_, held, fun f => mem_insertNsid, rfl, rest⟩
    show Host.Outcome.next (s.sanRun h _) = _
    rw [State.sanRun_of_starts starts open_, State.buffered_of_none fits, ns]
    simp [listCodes_inst, listable, absent, Nat.not_le.mpr room]
  · show Host.Outcome.next (s.sanRun h _) = _
    rw [State.sanRun_of_starts starts open_, State.buffered_of_none fits, ns]
    simp [listCodes_inst, listable, absent, refuse]
    rfl
  · obtain ⟨held, rest⟩ := State.attach_ns (a := a) (h := h) (nsid := nsid)
      (y := { x with attached := x.attached.filter fun f => !([n.val].contains f) }) [n.val] Cpl.ok
    refine ⟨_, _, ?_, held, fun f => by simp [and_comm], rfl, rest⟩
    show Host.Outcome.next (s.sanRun h _) = _
    rw [State.sanRun_of_starts starts open_, State.buffered_of_none fits, ns]
    simp [listCodes_inst, listable, there]
  · show execNamespaceDelete h nsid s = _
    rw [execNamespaceDelete, State.sanStart_of_starts starts open_]
    simp [ns, State.named, one, State.ownNs, other]
    rfl
  · show execFormatNvm h nsid flbas dps s = _
    rw [execFormatNvm, State.sanStart_of_starts starts open_]
    simp [ns, one, State.ownNs, other]
    rfl
  · show execNamespaceDelete h nsid s = _
    rw [execNamespaceDelete, State.sanStart_of_starts starts open_]
    simp [ns, State.named, one, State.ownNs, own]
  · show execFormatNvm h nsid flbas dps s = _
    rw [execFormatNvm, State.sanStart_of_starts starts open_]
    simp [ns, one, State.ownNs, own, readOnly, factory, format]

end Sys2Proof.Machine
end


section
/-! Blocks and the records that name them (R186, R188, R198) -/
namespace Sys2Proof.Machine

section
variable {s : State} {l b : Nat}

/-- The block of the same key as another is that block. -/
theorem State.block_of_key {m c : Nat} (same : blockKey l b = blockKey m c) : s.block l b = s.block m c := by
  rw [State.block, same, State.block]

theorem State.block_setBlock_ne {m c : Nat} (x : Block) (n : blockKey l b ≠ blockKey m c) :
    (s.setBlock m c x).block l b = s.block l b :=
  Tbl.get_set_ne _ _ _ _ n

/-- A block as it was, or with system data since. -/
def Block.Claimed (x y : Block) : Prop := ∃ sys, y = { x with system := sys } ∧ (x.system = true → sys = true)

theorem Block.Claimed.refl (x : Block) : x.Claimed x := ⟨x.system, rfl, id⟩

theorem Block.Claimed.trans {x y z : Block} (h : x.Claimed y) (k : y.Claimed z) : x.Claimed z := by
  obtain ⟨a, rfl, ha⟩ := h
  obtain ⟨c, rfl, hc⟩ := k
  exact ⟨c, rfl, hc ∘ ha⟩

theorem State.useSystem_block (m : Nat × Nat) : (s.block l b).Claimed ((s.useSystem m).block l b) := by
  unfold State.useSystem
  by_cases same : blockKey l b = blockKey m.1 m.2
  · refine ⟨true, ?_, fun _ => rfl⟩
    rw [State.block_of_key same, State.block_of_key same, State.block_setBlock_same]
  · rw [State.block_setBlock_ne _ same]
    exact Block.Claimed.refl _

theorem State.closePage_block : (s.block l b).Claimed (s.closePage.block l b) := by
  unfold State.closePage
  dsimp only
  split
  · exact Block.Claimed.refl _
  · have fold : ∀ (ps : List ((Nat × Nat) × Nat)) (n : Nat) (t : State), (t.block l b).Claimed
        ((ps.foldl (fun a e => (a.useSystem e.1).enqueue e.1.1 (.progSys n e.2) .sys e.1.2 true) t).block l b) := by
      intro ps n
      induction ps with
      | nil => exact fun t => Block.Claimed.refl _
      | cons p ps ih => exact fun t => (State.useSystem_block p.1).trans (ih _)
    exact fold _ _ _

/-- A record changes no block but those that take the page's copies. -/
theorem State.journal_block (r : JRec) : (s.block l b).Claimed ((s.journal r).block l b) := by
  unfold State.journal
  dsimp only
  split
  · exact State.closePage_block
  · exact Block.Claimed.refl _

@[simp] theorem State.journal_media (r : JRec) : (s.journal r).store.media = s.store.media :=
  congrArg (·.1.media) (s.journal_besideJournal r)

/-- What an erase leaves of a block (R198): one erase more, and nothing but whether it holds system data. -/
theorem State.blockErased_block : ∃ sys, (s.blockErased l b).block l b = { Block.fresh with
      erases := (s.block l b).erases + 1, system := sys, before := (s.block l b).refreshed } ∧
    ((s.block l b).system = true → sys = true) := by
  have set : (s.setBlock l b { Block.fresh with
      erases := (s.block l b).erases + 1, system := (s.block l b).system, before := (s.block l b).refreshed }).block l b = _ :=
    State.block_setBlock_same ..
  obtain ⟨sys, is, keeps⟩ := (set ▸ State.journal_block (.block 0 l b ((s.block l b).erases + 1)) : Block.Claimed _ _)
  refine ⟨sys, ?_, keeps⟩
  rw [← is]
  unfold State.blockErased
  dsimp only
  split <;> split <;> simp [State.block]

/-- Of the media, of the erases that wait and of the namespaces. -/
theorem State.blockErased_store : (s.blockErased l b).store.media
      = s.store.media.filter (fun e => e.1 / 2 ^ 25 % 2 ^ 12 ≠ l || e.1 / 2 ^ 11 % 2 ^ 12 ≠ b) ∧
    (l, b) ∉ (s.blockErased l b).store.erases ∧ (s.blockErased l b).store.ns = s.store.ns := by
  unfold State.blockErased
  dsimp only
  split <;> split <;> simp [State.setBlock]

/-! ### Sources of Mangle -/

@[simp] theorem State.requestClaim_ns (t m c : Nat) : (s.requestClaim t m c).store.ns = s.store.ns ∧
    (s.requestClaim t m c).store.folding = s.store.folding := by
  unfold State.requestClaim
  dsimp only
  split <;> exact ⟨rfl, rfl⟩

theorem State.addSource_ns (id : Nat) : (s.addSource id).store.ns = s.store.ns ∧
    (s.addSource id).store.folding = s.store.folding := by
  unfold State.addSource
  split
  · exact ⟨rfl, rfl⟩
  · split
    · exact ⟨rfl, rfl⟩
    · have each : ∀ (a : State) (m : Nat × Nat), (fun a : State => (a.store.ns, a.store.folding))
          (if (a.lun m.1).state = .active then a.requestClaim claimMangle m.1 m.2 else a) = (a.store.ns, a.store.folding) := by
        intro a m
        split <;> simp
      have := foldl_keeps (fun a : State => (a.store.ns, a.store.folding)) each
      exact ⟨congrArg (·.1) (this _ _), congrArg (·.2) (this _ _)⟩

@[simp] theorem State.queueErase_stripes (m c : Nat) : (s.queueErase m c).store.stripes = s.store.stripes ∧
    (s.queueErase m c).store.mangling = s.store.mangling := by
  unfold State.queueErase
  dsimp only
  split
  · exact ⟨rfl, rfl⟩
  · split <;> exact ⟨rfl, rfl⟩

/-- A stripe that is given up is gone. -/
theorem State.giveUpStripe_stripe (id : Nat) : (s.giveUpStripe id false).stripe? id = none := by
  unfold State.giveUpStripe
  split
  next none_ => exact none_
  next t ht =>
    rw [State.stripe?, foldl_keeps (fun a : State => a.store.stripes) (fun a m => by simp)]
    exact Tbl.find_del_same ..

/-! ### A replaced member -/

@[simp] theorem State.putStored_stripes (loc : MapEntry) (u : Stored) :
    (s.putStored loc u).store.stripes = s.store.stripes := by
  unfold State.putStored State.writeAmp
  split <;> simp

theorem State.rebuildMedia_stripes (moves : List (MapEntry × MapEntry)) :
    (s.rebuildMedia moves).store.stripes = s.store.stripes := by
  unfold State.rebuildMedia
  refine foldl_keeps (fun a : State => a.store.stripes) (fun a m => ?_) _ _
  split
  · exact State.putStored_stripes ..
  · rfl

@[simp] theorem State.takeCounter_stripes (y : Slot) : (s.takeCounter y).2.store.stripes = s.store.stripes := by
  unfold State.takeCounter
  split
  · dsimp only
    split
    · simp
    · rfl
  · rfl

@[simp] theorem State.issueProgram_stripes (k : Nat) (y : Slot) (loc : MapEntry) (record : Bool) :
    (s.issueProgram k y loc record).store.stripes = s.store.stripes := by
  unfold State.issueProgram
  cases record <;> simp [State.enqueue, State.setSlot, State.setJournal, State.setLun]

@[simp] theorem State.counterWait_stripes (k : Nat) (y : Slot) : (s.counterWait k y).store.stripes = s.store.stripes := by
  unfold State.counterWait
  dsimp only
  split <;> simp [State.setSlot]

@[simp] theorem State.programRow_stripes (nsid z v : Nat) : (s.programRow nsid z v).store.stripes = s.store.stripes := by
  unfold State.programRow
  split
  · rfl
  · dsimp only
    split
    · rfl
    · refine foldl_keeps (fun a : State => a.store.stripes) (fun a u => ?_) _ _
      split
      · exact State.issueProgram_stripes ..
      · rfl

@[simp] theorem State.tryRow_stripes (nsid z v : Nat) : (s.tryRow nsid z v).store.stripes = s.store.stripes := by
  unfold State.tryRow
  split
  · rfl
  · dsimp only
    split
    · exact State.programRow_stripes ..
    · split
      · refine foldl_keeps (fun a : State => a.store.stripes) (fun a u => ?_) _ _
        split
        · exact State.counterWait_stripes ..
        · rfl
      · rfl

@[simp] theorem State.resumeZone_stripes (nsid z m : Nat) : (s.resumeZone nsid z m).store.stripes = s.store.stripes := by
  unfold State.resumeZone
  split
  · rfl
  · refine foldl_keeps (fun a : State => a.store.stripes) (fun a u => ?_) _ _
    split
    · exact State.tryRow_stripes ..
    · rfl

/-- A stripe with its members and those of them that are lost. -/
def State.StripeWith (s : State) (id : Nat) (ms : List (Nat × Nat)) (lost : List Nat) : Prop :=
  ∃ q, s.stripe? id = some q ∧ q.members = ms ∧ q.lost = lost

theorem State.StripeWith.of_stripes {t : State} {id : Nat} {ms : List (Nat × Nat)} {lost : List Nat}
    (h : s.StripeWith id ms lost) (same : t.store.stripes = s.store.stripes) : t.StripeWith id ms lost := by
  obtain ⟨q, hq, rest⟩ := h
  exact ⟨q, by rwa [State.stripe?, same], rest⟩

theorem State.StripeWith.bump {id : Nat} {ms : List (Nat × Nat)} {lost : List Nat} (h : s.StripeWith id ms lost)
    (r : ObjRow) (n i j : Nat) : (s.bump r n i j).StripeWith id ms lost :=
  h.of_stripes (by simp)

theorem State.StripeWith.setStripe {id d : Nat} {ms : List (Nat × Nat)} {lost : List Nat} {q p : Stripe}
    (h : s.StripeWith id ms lost) (hq : s.stripe? d = some q) (members : p.members = q.members) (gone : p.lost = q.lost) :
    (s.setStripe d p).StripeWith id ms lost := by
  obtain ⟨o, ho, is⟩ := h
  by_cases same : id = d
  · subst same
    obtain rfl : o = q := Option.some.inj (ho.symm.trans hq)
    exact ⟨p, State.stripe_setStripe_same .., members.trans is.1, gone.trans is.2⟩
  · exact ⟨o, (State.stripe_setStripe_ne _ _ same).trans ho, is⟩

/-- A stripe that becomes secure-pending keeps its members. -/
theorem State.StripeWith.setUnit {id : Nat} {ms : List (Nat × Nat)} {lost : List Nat} (h : s.StripeWith id ms lost)
    (nsid u : Nat) (e : MapEntry) : (s.setUnit nsid u e).StripeWith id ms lost := by
  have touched : ∀ (a : State) (n g : Nat), (a.touchSegment n g).store.stripes = a.store.stripes := by
    intro a n g
    unfold State.touchSegment
    dsimp only
    split <;> rfl
  unfold State.setUnit
  split
  next x _ =>
    have before : ((s.setNs nsid (x.setEntry u e)).touchSegment nsid (segmentOf u)).StripeWith id ms lost :=
      h.of_stripes (by rw [touched]; rfl)
    unfold State.superseded
    split
    · split
      next d m _ _ =>
        split
        next q hq =>
          split
          · exact before
          · refine State.StripeWith.of_stripes ?_ (foldl_keeps (fun a : State => a.store.stripes) (fun a m => by simp) _ _)
            exact (before.setStripe hq (by rfl) (by rfl)).bump _ _ _ _
        next => exact before
      next => exact before
    · exact before
  next => exact h

theorem State.StripeWith.renameMember {id : Nat} {ms : List (Nat × Nat)} {lost : List Nat} (h : s.StripeWith id ms lost)
    (m c : Nat) (t : Stripe) (moves : List (MapEntry × MapEntry)) :
    (s.renameMember id m l c t moves).StripeWith id ms lost := by
  have units : ∀ (us : List (Nat × Nat × MapEntry)) (a : State), a.StripeWith id ms lost →
      (us.foldl (fun a u => match moves.find? (fun v => v.1 = u.2.2) with
        | some v => (a.setUnit u.1 u.2.1 v.2).journal (.reloc (u.1 - 1) u.2.1 v.2)
        | none => a) a).StripeWith id ms lost := by
    intro us
    induction us with
    | nil => exact fun _ ha => ha
    | cons u us ih =>
      refine fun a ha => ih _ ?_
      dsimp only
      split
      · exact (ha.setUnit _ _ _).of_stripes (State.journal_stripes ..)
      · exact ha
  unfold State.renameMember
  split
  · exact h.of_stripes (by simp)
  · exact units _ _ h

end

/-- Settles O29: each command by its own conditions. -/
theorem sourcesAreErasedOnlyWhenCovered : Obligations.SourcesAreErasedOnlyWhenCovered := by
  unfold Obligations.SourcesAreErasedOnlyWhenCovered
  refine ⟨fun s => ⟨fun on few => ?_, fun many off => ?_⟩, fun g s => ⟨fun no => ?_, fun id open_ well victim low => ?_⟩,
    fun id t s ht => ⟨fun ended empty durable unread use claims => ?_, fun no => ?_, fun w => ⟨fun early => ?_,
      fun secure due some_ => ?_⟩, fun open_ => ?_, fun ended new idle => ?_⟩,
    fun k s => ⟨fun few => ?_, rfl, fun enough cause => ?_⟩, fun l b s => rfl, fun l b s => ?_,
    fun id k l b t s ht found => ?_⟩
  · show execFoldStart s = _
    exact if_pos ⟨on, few⟩
  · show ∃ u, execFoldStart s = .next u ∧ _
    unfold execFoldStart
    dsimp only
    rw [if_neg (by simp [off]), if_pos (.inl many)]
    split
    next e _ =>
      obtain ⟨ns, folding⟩ := State.addSource_ns (s := { s with store := { s.store with folding := true } }) e.1
      exact ⟨_, rfl, folding, ns, by simp⟩
    next => exact ⟨_, rfl, rfl, rfl, rfl⟩
  · show execMangleStart g s = _
    unfold execMangleStart
    dsimp only
    rcases no with shut | none_
    · rw [if_pos (.inl (by simp [shut]))]
    · rw [none_]
      split <;> rfl
  · show execMangleStart g s = _
    unfold execMangleStart
    dsimp only
    rw [if_neg (by simp [open_, well]), victim]
    dsimp only
    rw [if_pos (.inl (by simp [low]))]
  · have ready : s.eraseReady id t = true := by
      have each : (t.members.all fun m => (s.block m.1 m.2).claim.elim true (· = claimMangle)) = true := by
        refine List.all_eq_true.mpr fun m hm => ?_
        rcases claims m hm with none_ | own
        · rw [none_]
          rfl
        · rw [own]
          rfl
      simp only [State.eraseReady, State.pageDurable, empty, unread, each, durable]
      rcases use with is | is <;> simp [is]
    show ∃ u, execSourceStripeErase id s = .next u ∧ _
    unfold execSourceStripeErase
    rw [ht]
    dsimp only
    rw [if_pos ⟨ended, ready⟩]
    refine ⟨_, rfl, ?_⟩
    split
    · exact ⟨by simpa [State.stripe?] using State.giveUpStripe_stripe id, by simp, by simp⟩
    · exact ⟨State.giveUpStripe_stripe id, by simp, State.giveUpStripe_ns ..⟩
  · show execSourceStripeErase id s = _
    have unready : ¬ (t.ended = true ∧ s.eraseReady id t = true) := by
      simp only [State.eraseReady, State.pageDurable]
      rcases no with some_ | late | read | open_
      · simp [some_]
      · simp [Nat.not_le.mpr late]
      · simp [read]
      · simp [open_]
    unfold execSourceStripeErase
    rw [ht]
    exact if_neg unready
  · show execSecureDiscardDue id w s = _
    unfold execSecureDiscardDue
    dsimp only
    rw [show (s.tick w).stripe? id = some t from ht]
    exact if_pos (early.imp_left fun is => by simp [is])
  · show execSecureDiscardDue id w s = _
    unfold execSecureDiscardDue
    dsimp only
    rw [show (s.tick w).stripe? id = some t from ht]
    dsimp only
    rw [if_neg (by simp only [secure, State.tick_cfg]; simpa using due),
      if_neg (show ¬ (s.tick w).unitsIn id = [] from some_)]
  · show execStripeClose id s = _
    unfold execStripeClose
    rw [ht]
    exact if_pos (.inl (by simp [open_]))
  · show execStripeClose id s = _
    unfold execStripeClose
    rw [ht]
    exact if_neg (by simp [ended, new, idle])
  · show Host.Outcome.next ((s.addSpares k).getD s) = _
    rw [State.addSpares, if_neg (Nat.not_le.mpr few)]
    rfl
  · refine ⟨(s.addSpares k).getD s, rfl, ?_⟩
    have other : Obj.roCause.key 0 0 ≠ Obj.spareRemaining.key 0 0 := by decide
    have still : (({ s with store := { s.store with movedToSpares := s.store.movedToSpares + k } } : State).save
        Obj.spareRemaining (s.cfg Obj.spareRemaining + k)).cfg Obj.roCause ≠ 1 := by
      rw [State.cfg_save_ne _ _ _ _ _ _ _ _ other]
      exact cause
    unfold State.addSpares
    dsimp only
    rw [if_pos enough, if_neg fun is => still is.1]
    rw [Option.getD_some]
    exact ⟨State.cfg_save_same .., by simp⟩
  · obtain ⟨sys, is, keeps⟩ := State.blockErased_block (s := s) (l := l) (b := b)
    obtain ⟨media, erases, ns⟩ := State.blockErased_store (s := s) (l := l) (b := b)
    refine ⟨by rw [is], fun had => by rw [is]; exact keeps had, fun e he => ?_, erases, ns⟩
    rw [media] at he
    simpa [Bool.or_eq_true, Decidable.imp_iff_not_or] using (List.mem_filter.mp he).2
  · have moved : ((s.rebuildMedia (s.memberMoves t k l b)).setStripe id { t with
        members := t.members.set k (l, b), lost := t.lost.filter (· ≠ k) }).StripeWith id (t.members.set k (l, b))
          (t.lost.filter (· ≠ k)) := ⟨_, State.stripe_setStripe_same .., rfl, rfl⟩
    obtain ⟨q, hq, members, lost⟩ := moved.renameMember (l := l) k b t (s.memberMoves t k l b)
    refine ⟨_, ?_, q, hq, members, by rw [lost]; simp⟩
    show execMemberReplaced id k s = _
    unfold execMemberReplaced
    rw [ht, found]

end Sys2Proof.Machine
end


section
/-! Read-around, re-centring and claims (R142, R214, R226, R231, R238) -/
namespace Sys2Proof.Machine

theorem foldl_xor (l : List Payload) (a : Payload) : l.foldl (· ^^^ ·) a = a ^^^ parityP l := by
  unfold parityP
  induction l generalizing a with
  | nil => simp
  | cons p l ih =>
    rw [List.foldl_cons, List.foldl_cons, ih, ih (0 ^^^ p), show (0 : Payload) ^^^ p = p from BitVec.zero_xor, BitVec.xor_assoc]

theorem parityP_append (l m : List Payload) : parityP (l ++ m) = parityP l ^^^ parityP m := by
  rw [parityP, List.foldl_append]
  exact foldl_xor _ _

theorem parityP_singleton (p : Payload) : parityP [p] = p := BitVec.zero_xor

/-- The other members and P give the member that is missing. -/
theorem parityP_rebuild {l : List Payload} {m : Nat} {p : Payload} (hp : l[m]? = some p) :
    parityP (l.eraseIdx m ++ [parityP l]) = p := by
  obtain ⟨hm, rfl⟩ := List.getElem?_eq_some_iff.mp hp
  have whole : parityP l = parityP (l.take m) ^^^ (l[m] ^^^ parityP (l.drop (m + 1))) := by
    conv => lhs; rw [← List.take_append_drop m l, List.drop_eq_getElem_cons hm]
    rw [parityP_append, ← List.singleton_append, parityP_append, parityP_singleton]
  rw [parityP_append, parityP_singleton, List.eraseIdx_eq_take_drop_succ, parityP_append, whole]
  generalize parityP (l.take m) = a
  generalize parityP (l.drop (m + 1)) = b
  rw [BitVec.xor_assoc, ← BitVec.xor_assoc b, BitVec.xor_comm b a, BitVec.xor_assoc a b, ← BitVec.xor_assoc a a,
    BitVec.xor_self, BitVec.zero_xor, BitVec.xor_comm l[m], ← BitVec.xor_assoc, BitVec.xor_self, BitVec.zero_xor]

/-- Of requests none of which has lost 16 frames the first task in order wins. -/
theorem claimWinner_first {ws : List (Nat × Nat)} (tasks : ∀ w ∈ ws, w.1 < 4) (new : ∀ w ∈ ws, w.2 < 16) {t : Nat}
    (win : claimWinner ws = some t) : (∃ w ∈ ws, w.1 = t) ∧ ∀ w ∈ ws, t ≤ w.1 := by
  have none_ : ws.find? (fun w => 16 ≤ w.2) = none := by
    simpa using fun a b h => new (a, b) h
  rw [claimWinner, none_] at win
  have asked := List.find?_some win
  obtain ⟨w, hw, is⟩ := List.any_eq_true.mp asked
  refine ⟨⟨w, hw, by simpa using is⟩, fun v hv => ?_⟩
  obtain ⟨-, before, after, order, refused⟩ := List.find?_eq_some_iff_append.mp win
  refine Classical.byContradiction fun less => ?_
  have early : v.1 ∈ before := by
    have place : v.1 ∈ [claimDarning, claimMangle, claimRinse, claimSelftest] := by
      have := tasks v hv
      simp only [claimDarning, claimMangle, claimRinse, claimSelftest, List.mem_cons, List.not_mem_nil, or_false]
      omega
    have sorted : ([claimDarning, claimMangle, claimRinse, claimSelftest] : List Nat).Pairwise (· < ·) := by decide
    rw [order] at place sorted
    rcases List.mem_append.mp place with there | later
    · exact there
    · rcases List.mem_cons.mp later with is | behind
      · omega
      · exact absurd ((List.pairwise_cons.mp (List.pairwise_append.mp sorted).2.1).1 v.1 behind) (by omega)
  have asks : (ws.any fun w => decide (w.1 = v.1)) = true := List.any_eq_true.mpr ⟨v, hv, by simp⟩
  simpa [asks] using refused v.1 early

theorem claimWinner_lost {ws : List (Nat × Nat)} {w : Nat × Nat} (hw : w ∈ ws) (lost : 16 ≤ w.2) :
    ∃ v ∈ ws, 16 ≤ v.2 ∧ claimWinner ws = some v.1 := by
  cases found : ws.find? (fun w => 16 ≤ w.2) with
  | none => exact absurd lost (by simpa using List.find?_eq_none.mp found w hw)
  | some v => exact ⟨v, List.mem_of_find?_eq_some found, by simpa using List.find?_some found, by rw [claimWinner, found]⟩

theorem lt_windowSteps (w pct : Nat) : w < windowSteps pct ↔ 100 * w < 64 * pct := by
  unfold windowSteps ceilDiv
  omega

section
variable {s : State} {rd : Nat}

/-- No read serves a read-around of `rd` once its members are dropped and the read itself stands for the host. -/
theorem no_member_put {t : Tbl MediaRead} {q : MediaRead} (host : q.serves = .host) :
    ∀ e ∈ Tbl.put (t.filter fun e => e.2.serves ≠ .member rd) rd q, e.2.serves ≠ .member rd := by
  intro e he
  rcases Tbl.mem_put he with rfl | there
  · simp [host]
  · simpa using (List.mem_filter.mp there).2

end

/-- Settles O30: the XOR law by the parity of a split list; the commands by their branches. -/
theorem readAroundRebuildsFromParity : Obligations.ReadAroundRebuildsFromParity := by
  unfold Obligations.ReadAroundRebuildsFromParity
  refine ⟨fun l m p hp => parityP_rebuild hp, fun rd r ps s hr around host => ⟨fun open_ => ?_, ?_⟩,
    fun ch t w c s hc state => ⟨fun still => ?_, fun moved => ?_⟩, fun ws tasks new t win => claimWinner_first tasks new win,
    fun ws w hw lost => claimWinner_lost hw lost⟩
  · obtain ⟨n, hn⟩ := around
    have left : ¬ (r.steps.all fun e => decide (e = .decoded)) = true := by simpa using open_
    show ∃ u q, execReadAroundReconstruct rd true ps s = .next u ∧ _
    unfold execReadAroundReconstruct
    rw [hr]
    dsimp only
    rw [if_neg (by simp [hn]), if_neg (by simpa using left)]
    refine ⟨_, _, rfl, Tbl.find_put_same .., ?_, rfl, rfl, rfl, fun o ho => ?_, rfl, no_member_put host⟩
    · intro e he
      obtain ⟨d, -, rfl⟩ := List.mem_map.mp he
      rfl
    · rw [State.unqueueRead, State.lun_setLun_same] at ho
      simpa using (List.mem_filter.mp ho).2
  · obtain ⟨n, hn⟩ := around
    show ∃ u q, execReadAroundReconstruct rd false ps s = .next u ∧ _
    unfold execReadAroundReconstruct
    rw [hr]
    dsimp only
    rw [if_neg (by simp [hn]), if_pos (.inl rfl)]
    exact ⟨_, _, rfl, Tbl.find_put_same .., rfl, rfl, rfl⟩
  · show execChannelRecentre ch t w s = _
    unfold execChannelRecentre
    rw [hc]
    exact if_pos (.inr still)
  · show ∃ u d, execChannelRecentre ch t w s = .next u ∧ _
    unfold execChannelRecentre
    rw [hc]
    dsimp only
    rw [if_neg (by simp [state]; omega)]
    have rate : (if (decide (c.rate = 5) && decide (w < windowSteps (s.cfg Obj.extMinEye))) = true then 4 else c.rate)
        = if c.rate = 5 ∧ 100 * w < 64 * s.cfg Obj.extMinEye then 4 else c.rate := by
      simp [lt_windowSteps]
    have noted : ∀ (a : State) (low : Bool) (params : List Nat), (if low then a.record 0x0701 params else a).flash = a.flash ∧
        (if low then a.record 0x0701 params else a).host = a.host ∧
        (if low then a.record 0x0701 params else a).store = a.store := by
      intro a low params
      cases low <;> simp
    obtain ⟨flash, host, store⟩ := noted { s with flash := { s.flash with channels := Tbl.put s.flash.channels ch.val { c with
      trainedAt := t
      rate := if (decide (c.rate = 5) && decide (w < windowSteps (s.cfg Obj.extMinEye))) = true then 4 else c.rate } } }
      (decide (c.rate = 5) && decide (w < windowSteps (s.cfg Obj.extMinEye))) [ch.val, 4]
    refine ⟨_, { c with trainedAt := t, rate := _ }, rfl, ?_, rfl, rate, fun j n => ?_, host, store⟩
    · rw [flash]
      exact Tbl.find_put_same ..
    · rw [flash]
      exact Tbl.find_put_ne _ _ n

end Sys2Proof.Machine
end


section
/-! Codewords climb the ladder (R245 to R247) -/
namespace Sys2Proof.Machine

section
variable {s : State} {rd cw : Nat} {r : MediaRead} {step : LadderStep}

@[simp] theorem State.transferred_luns : (s.transferred rd r).flash.luns = s.flash.luns := by
  unfold State.transferred
  dsimp only
  split
  · split <;> rfl
  · rfl

/-- A codeword at a step that is neither the last nor unknown is one of the read's. -/
theorem lt_steps_of_getD (ne : r.steps.getD cw .decoded ≠ .decoded) : cw < r.steps.length := by
  refine Nat.lt_of_not_le fun out => ne ?_
  rw [List.getD_eq_getElem?_getD, List.getElem?_eq_none out, Option.getD_none]

/-- A read of which a codeword still climbs has not ended. -/
theorem not_climbed_of_getElem? {i : Nat} {e : LadderStep} (he : r.steps[i]? = some e) (dec : e ≠ .decoded) (lost : e ≠ .lost) :
    r.climbed = false := by
  obtain ⟨hi, rfl⟩ := List.getElem?_eq_some_iff.mp he
  refine Bool.eq_false_iff.mpr fun all => ?_
  have := List.all_eq_true.mp all _ (List.getElem_mem hi)
  simp [dec, lost] at this

theorem State.afterLadder_open (open_ : r.climbed = false) : s.afterLadder rd r = s := by
  simp [State.afterLadder, open_]

/-- A read after a codeword of it has gone to a step, whatever else the read was given. -/
def State.SteppedTo (s t : State) (rd : Nat) (steps : List LadderStep) : Prop :=
  (∃ q, Tbl.find t.store.reads rd = some q ∧ q.steps = steps) ∧ t.host = s.host ∧ t.store.ns = s.store.ns

theorem State.setRead_steppedTo (q : MediaRead) : s.SteppedTo (s.setRead rd q) rd q.steps :=
  ⟨⟨q, Tbl.find_put_same .., rfl⟩, rfl, rfl⟩

/-- A codeword that climbs is at its next step; where its LUN serves, the page is read again. -/
theorem State.climb_steppedTo (up : (s.lun (r.entry.lun?.getD 0)).state = .active) :
    s.SteppedTo (s.climb rd r cw step) rd (r.steps.set cw step) := by
  unfold State.climb
  dsimp only
  split
  · exact State.setRead_steppedTo _
  · unfold State.readAgain
    dsimp only
    rw [if_pos up]
    exact ⟨⟨_, Tbl.find_put_same .., rfl⟩, rfl, rfl⟩

theorem State.SteppedTo.of_parts {a t : State} {steps : List LadderStep} (h : s.SteppedTo t rd steps) (host : s.host = a.host)
    (ns : s.store.ns = a.store.ns) : a.SteppedTo t rd steps :=
  ⟨h.1, h.2.1.trans host, h.2.2.trans ns⟩

theorem State.lun_of_luns {a : State} (same : s.flash.luns = a.flash.luns) (l : Nat) : s.lun l = a.lun l := by
  rw [State.lun, same, State.lun]

/-- The end of a decode, once the read's data has come. -/
def State.decodeEnds (s : State) (rd : Nat) (r : MediaRead) (cw : Nat) : DecodeEnd → State
  | .decoded _ true => s.codewordDecodes rd r cw
  | .decoded _ false => (s.bump Obj.mcrcFails).codewordFails rd r cw
  | .failed _ => s.codewordFails rd r cw

/-- What a decode does to a codeword that is on the ladder. -/
theorem execCodewordDecode_open {c : Fin 4} (hr : Tbl.find s.store.reads rd = some r) (arrived : r.arrived = true)
    (dec : r.steps.getD c.val .decoded ≠ .decoded) (lost : r.steps.getD c.val .decoded ≠ .lost) (e : DecodeEnd) {t : State}
    {q : MediaRead}
    (did : (s.transferred rd r).decodeEnds rd r c.val e = t)
    (hq : Tbl.find t.store.reads rd = some q) : exec (.codewordDecode rd c e) s = .next (t.afterLadder rd q) := by
  subst did
  show execCodewordDecode rd c e s = _
  unfold execCodewordDecode
  rw [hr]
  dsimp only
  rw [if_neg fun is => by
    rcases is with is | is | ⟨is, -⟩
    · exact dec is
    · exact lost is
    · simp [arrived] at is]
  rcases e with ⟨n, _ | _⟩ | n <;> · dsimp only [State.decodeEnds] at hq ⊢; rw [hq]

/-- One whose codeword goes to a step of the ladder is read again, and nothing else has happened. -/
theorem execCodewordDecode_climbs {c : Fin 4} (hr : Tbl.find s.store.reads rd = some r) (arrived : r.arrived = true)
    (dec : r.steps.getD c.val .decoded ≠ .decoded) (lost : r.steps.getD c.val .decoded ≠ .lost) (e : DecodeEnd) {t : State}
    (did : (s.transferred rd r).decodeEnds rd r c.val e = t)
    (up : step ≠ .decoded) (here : step ≠ .lost) (stepped : s.SteppedTo t rd (r.steps.set c.val step)) :
    exec (.codewordDecode rd c e) s = .next t := by
  obtain ⟨⟨q, hq, steps⟩, -, -⟩ := stepped
  have at_ : q.steps[c.val]? = some step := by
    rw [steps]
    exact List.getElem?_set_self (lt_steps_of_getD dec)
  rw [execCodewordDecode_open hr arrived dec lost e did hq, State.afterLadder_open (not_climbed_of_getElem? at_ up here)]

/-- A read of which a codeword leaves the first step leaves its commands out of their windows. -/
theorem State.exempt_reads : ∃ as, (s.exempt rd r).store.reads = Tbl.put s.store.reads rd { r with attached := as } ∧
    (s.exempt rd r).flash = s.flash ∧ (s.exempt rd r).host = s.host ∧ (s.exempt rd r).store.ns = s.store.ns := by
  have kept : ∀ (l : List Attach) (a : State),
      (l.foldl (fun a e => if e.exempt then a else a.countExempt e) a).store = a.store := fun l a =>
    foldl_keeps State.store (fun b e => by split <;> simp) l a
  refine ⟨r.attached.map fun e => { e with exempt := true }, ?_, by simp, by simp, ?_⟩
  · unfold State.exempt
    simp [State.setRead, kept]
  · unfold State.exempt
    simp [State.setRead, kept]

theorem State.cfg_exempt {q : ObjRow} (quiet : ∀ n : Nat, q.key 0 0 ≠ Obj.contractExempt.key n 0) :
    (s.exempt rd r).cfg q = s.cfg q := by
  unfold State.exempt
  refine (State.cfg_foldl (q := q) (i := 0) (j := 0) r.attached s fun a e => ?_ : _ = _)
  split
  · rfl
  · unfold State.countExempt
    split
    · split
      · exact State.cfg_bump_ne _ _ _ _ _ _ _ _ (quiet _)
      · rfl
    · rfl
    · rfl

/-- A codeword that enters the retries is counted, and its page read again. -/
theorem State.retries {a : State} {q : MediaRead} (steps : q.steps = r.steps) (entry : q.entry = r.entry)
    (luns : a.flash.luns = s.flash.luns) (host : a.host = s.host) (ns : a.store.ns = s.store.ns)
    (entered : a.cfg Obj.retryEntered = s.cfg Obj.retryEntered) (mcrc : a.cfg Obj.mcrcFails = s.cfg Obj.mcrcFails)
    (room : s.cfg Obj.retryEntered < 2 ^ 64 - 1) (up : (s.lun (r.entry.lun?.getD 0)).state = .active) :
    s.SteppedTo ((a.bump Obj.retryEntered).climb rd q cw (.retry 0)) rd (r.steps.set cw (.retry 0)) ∧
      ((a.bump Obj.retryEntered).climb rd q cw (.retry 0)).cfg Obj.retryEntered = s.cfg Obj.retryEntered + 1 ∧
      ((a.bump Obj.retryEntered).climb rd q cw (.retry 0)).cfg Obj.mcrcFails = s.cfg Obj.mcrcFails := by
  have same : ∀ o : ObjRow, ((a.bump Obj.retryEntered).climb rd q cw (.retry 0)).cfg o = (a.bump Obj.retryEntered).cfg o :=
    fun o => State.cfg_of_force (by simp) _ _ _
  have top : Obj.retryEntered.top = 2 ^ 64 - 1 := by decide
  refine ⟨?_, ?_, ?_⟩
  · rw [← steps]
    refine State.SteppedTo.of_parts (State.climb_steppedTo ?_) (by simpa using host) (by simpa using ns)
    rw [entry, State.lun_of_luns (a := s) (by simpa using luns)]
    exact up
  · rw [same, State.cfg_bump_same _ _ _ _ _ (by rw [entered, top]; omega), entered]
  · rw [same, State.cfg_bump_ne _ _ _ _ _ _ _ _ (by decide), mcrc]

/-- A codeword whose hard decode fails enters the retries. -/
theorem State.codewordFails_hard (hr : Tbl.find s.store.reads rd = some r) (hard : r.steps.getD cw .decoded = .hard)
    (alone : s.aroundOwner r = false) (room : s.cfg Obj.retryEntered < 2 ^ 64 - 1)
    (up : (s.lun (r.entry.lun?.getD 0)).state = .active) :
    s.SteppedTo (s.codewordFails rd r cw) rd (r.steps.set cw (.retry 0)) ∧
      (s.codewordFails rd r cw).cfg Obj.retryEntered = s.cfg Obj.retryEntered + 1 ∧
      (s.codewordFails rd r cw).cfg Obj.mcrcFails = s.cfg Obj.mcrcFails := by
  unfold State.codewordFails
  rw [hard]
  dsimp only
  rw [if_neg (by simp [alone])]
  split
  · obtain ⟨as, reads, flash, host, ns⟩ := State.exempt_reads (s := s) (rd := rd) (r := r)
    have found : Tbl.find (s.exempt rd r).store.reads rd = some { r with attached := as } := by
      rw [reads, Tbl.find_put_same]
    rw [found, Option.getD_some]
    refine State.retries ?_ ?_ (by rw [flash]) host ns (State.cfg_exempt fun n => ?_) (State.cfg_exempt fun n => ?_) room up
    · rfl
    · rfl
    all_goals
      simp only [ObjRow.key, Obj.retryEntered, Obj.mcrcFails, Obj.contractExempt]
      omega
  · rw [hr, Option.getD_some]
    exact State.retries rfl rfl rfl rfl rfl rfl rfl room up

/-- One that fails a retry goes to the next. -/
theorem State.codewordFails_retry {k : Nat} (at_ : r.steps.getD cw .decoded = .retry k) (more : k < 14)
    (up : (s.lun (r.entry.lun?.getD 0)).state = .active) :
    s.SteppedTo (s.codewordFails rd r cw) rd (r.steps.set cw (.retry (k + 1))) := by
  unfold State.codewordFails
  rw [at_]
  dsimp only
  rw [if_pos more]
  exact State.climb_steppedTo up

/-- One that fails the last goes to a soft decode, counted, where that is on. -/
theorem State.codewordFails_last (at_ : r.steps.getD cw .decoded = .retry 14) (on : s.cfg Obj.softEn = 1)
    (room : s.cfg Obj.softDecodes < 2 ^ 64 - 1) (up : (s.lun (r.entry.lun?.getD 0)).state = .active) :
    s.SteppedTo (s.codewordFails rd r cw) rd (r.steps.set cw .soft) ∧
      (s.codewordFails rd r cw).cfg Obj.softDecodes = s.cfg Obj.softDecodes + 1 := by
  have top : Obj.softDecodes.top = 2 ^ 64 - 1 := by decide
  unfold State.codewordFails
  rw [at_]
  dsimp only
  rw [if_neg (by decide), if_pos (by simp [State.flag, on])]
  refine ⟨State.SteppedTo.of_parts (State.climb_steppedTo ?_) (by simp) (by simp [State.sampleSoon, State.setBlock]), ?_⟩
  · rw [State.lun_of_luns (a := s) (by simp)]
    exact up
  · rw [State.cfg_of_force (t := s.bump Obj.softDecodes) (by simp), State.cfg_bump_same _ _ _ _ _ (by rw [top]; omega)]

/-- A member read that its soft decode does not save is lost. -/
theorem State.codewordFails_soft {m : Nat} (at_ : r.steps.getD cw .decoded = .soft) (member : r.serves = .member m)
    (room : s.cfg Obj.softFails < 2 ^ 64 - 1) :
    Tbl.find (s.codewordFails rd r cw).store.reads rd = some { r with steps := r.steps.set cw .lost } ∧
      (s.codewordFails rd r cw).cfg Obj.softFails = s.cfg Obj.softFails + 1 ∧ (s.codewordFails rd r cw).host = s.host := by
  have top : Obj.softFails.top = 2 ^ 64 - 1 := by decide
  have is : s.codewordFails rd r cw = (s.bump Obj.softFails).setRead rd { r with steps := r.steps.set cw .lost } := by
    simp only [State.codewordFails, at_, State.toStep4, member]
  rw [is]
  refine ⟨Tbl.find_put_same .., ?_, by simp⟩
  rw [State.cfg_of_force (t := s.bump Obj.softFails) (by simp), State.cfg_bump_same _ _ _ _ _ (by rw [top]; omega)]

/-- What the end of a member read's ladder counts. -/
theorem State.afterLadder_member {m : Nat} (member : r.serves = .member m) :
    (s.afterLadder rd r).store = s.store ∧ (s.afterLadder rd r).host = s.host ∧
      (s.afterLadder rd r).cfg Obj.softFails = s.cfg Obj.softFails := by
  unfold State.afterLadder
  split
  · have counted : ((s.countLost r).countRebuild r).cfg Obj.softFails = s.cfg Obj.softFails := by
      simp only [State.countRebuild, member, State.countLost]
      split
      · rfl
      · exact State.cfg_bump_ne _ _ _ _ _ _ _ _ (by decide)
    rw [member]
    exact ⟨by simp, by simp, counted⟩
  · exact ⟨rfl, rfl, rfl⟩

/-- The read of a codeword that decodes has it decoded. -/
theorem State.find_codewordDecodes : Tbl.find (s.codewordDecodes rd r cw).store.reads rd
    = some { r with steps := r.steps.set cw .decoded } := by
  unfold State.codewordDecodes
  dsimp only
  split <;> exact Tbl.find_put_same ..

/-- A retry that decodes is counted and kept as its block's hint. -/
theorem State.codewordDecodes_retry {k : Nat} (at_ : r.steps.getD cw .decoded = .retry k)
    (room : s.cfg Obj.retryDecoded < 2 ^ 64 - 1) :
    (s.codewordDecodes rd r cw).cfg Obj.retryDecoded = s.cfg Obj.retryDecoded + 1 ∧
      ((s.codewordDecodes rd r cw).block (r.entry.lun?.getD 0) (r.entry.block?.getD 0)).hint
        = retryEntry (s.block (r.entry.lun?.getD 0) (r.entry.block?.getD 0)).hint k := by
  have top : Obj.retryDecoded.top = 2 ^ 64 - 1 := by decide
  unfold State.codewordDecodes
  rw [at_]
  refine ⟨State.cfg_bump_same _ _ _ _ _ (by rw [top]; exact room), ?_⟩
  exact congrArg Block.hint (State.block_setBlock_same ..)

/-- With another codeword on the ladder, the read has not ended where one of it decodes. -/
theorem still_climbs (other : ∃ i : Nat, i ≠ cw ∧ i < r.steps.length ∧ r.steps.getD i .lost ≠ .decoded ∧
    r.steps.getD i .lost ≠ .lost) : { r with steps := r.steps.set cw .decoded }.climbed = false := by
  obtain ⟨i, ne, inside, dec, lost⟩ := other
  have at_ : r.steps.getD i .lost = r.steps[i] := (List.getElem_eq_getD _).symm
  refine not_climbed_of_getElem? (i := i) (e := r.steps[i]) ?_ (at_ ▸ dec) (at_ ▸ lost)
  rw [List.getElem?_set_ne ne.symm, List.getElem?_eq_getElem inside]

/-- A codeword that decodes while another is on the ladder: the read goes on. -/
theorem execCodewordDecode_waits {c : Fin 4} (hr : Tbl.find s.store.reads rd = some r) (arrived : r.arrived = true)
    (dec : r.steps.getD c.val .decoded ≠ .decoded) (lost : r.steps.getD c.val .decoded ≠ .lost)
    (other : ∃ i : Nat, i ≠ c.val ∧ i < r.steps.length ∧ r.steps.getD i .lost ≠ .decoded ∧ r.steps.getD i .lost ≠ .lost)
    {n : Nat} :
    exec (.codewordDecode rd c (.decoded n true)) s = .next ((s.transferred rd r).codewordDecodes rd r c.val) :=
  (execCodewordDecode_open hr arrived dec lost (.decoded n true) rfl State.find_codewordDecodes).trans
    (congrArg Host.Outcome.next (State.afterLadder_open (still_climbs other)))

end

/-- Settles O31: each step by what a codeword's failure or decode does at it. -/
theorem codewordClimbsTheLadder : Obligations.CodewordClimbsTheLadder := by
  unfold Obligations.CodewordClimbsTheLadder
  intro rd cw r n s hr
  have hr' : ∀ a : State, a.store = s.store → Tbl.find a.store.reads rd = some r := fun a same => by rw [same, hr]
  have alone' : ∀ a : State, a.store = s.store → s.aroundOwner r = false → a.aroundOwner r = false := fun a same alone => by
    simpa [State.aroundOwner, same] using alone
  have cfg' : ∀ o : ObjRow, (s.transferred rd r).cfg o = s.cfg o := fun o => State.cfg_of_force (by simp) _ _ _
  have up' : (s.lun (r.entry.lun?.getD 0)).state = .active →
      ((s.transferred rd r).lun (r.entry.lun?.getD 0)).state = .active := fun up => by
    rwa [State.lun_of_luns (a := s) (by simp)]
  have host' : (s.transferred rd r).host = s.host := by simp
  have ns' : (s.transferred rd r).store.ns = s.store.ns := by simp
  refine ⟨fun rest e => ?_, fun arrived up => ⟨fun hard alone room => ⟨?_, fun free => ?_⟩, fun k more at_ => ?_,
    fun at_ on room => ?_⟩, fun arrived m member at_ room => ?_, fun arrived other => ⟨fun hard => ?_, fun k at_ room => ?_⟩⟩
  · show execCodewordDecode rd cw e s = _
    unfold execCodewordDecode
    rw [hr]
    refine if_pos ?_
    rcases rest with is | is | ⟨wait, is⟩
    · exact .inl is
    · exact .inr (.inl is)
    · exact .inr (.inr ⟨by simp [wait], is⟩)
  · obtain ⟨stepped, entered, mcrc⟩ := State.codewordFails_hard (hr' (s.transferred rd r) (by simp)) hard (alone' _ (by simp) alone)
      ((cfg' Obj.retryEntered).symm ▸ room) (up' up)
    have here := stepped.of_parts host' ns'
    obtain ⟨q, hq, steps⟩ := here.1
    refine ⟨_, q, execCodewordDecode_climbs hr arrived (by rw [hard]; decide) (by rw [hard]; decide) (.failed n) rfl (by simp) (by simp)
      here, hq, steps, ?_, ?_, here.2.1, here.2.2⟩
    · exact entered.trans (by rw [cfg'])
    · exact mcrc.trans (cfg' _)
  · have top : Obj.mcrcFails.top = 2 ^ 64 - 1 := by decide
    have still : ((s.transferred rd r).bump Obj.mcrcFails).cfg Obj.retryEntered = s.cfg Obj.retryEntered := by
      rw [State.cfg_bump_ne _ _ _ _ _ _ _ _ (by decide), cfg']
    obtain ⟨stepped, -, mcrc⟩ := State.codewordFails_hard (s := (s.transferred rd r).bump Obj.mcrcFails) (cw := cw.val)
      (hr' _ (by simp)) hard (alone' _ (by simp) alone) (still.symm ▸ room)
      (by rw [State.lun_of_luns (a := s) (by simp)]; exact up)
    have here := stepped.of_parts (a := s) (by simp) (by simp)
    obtain ⟨q, hq, steps⟩ := here.1
    refine ⟨_, q, execCodewordDecode_climbs hr arrived (by rw [hard]; decide) (by rw [hard]; decide) (.decoded n false) rfl (by simp)
      (by simp) here, hq, steps, ?_⟩
    refine mcrc.trans ?_
    rw [State.cfg_bump_same _ _ _ _ _ (by rw [cfg', top]; omega), cfg']
  · have here := (State.codewordFails_retry (s := s.transferred rd r) (rd := rd) at_ more (up' up)).of_parts host' ns'
    obtain ⟨q, hq, steps⟩ := here.1
    exact ⟨_, q, execCodewordDecode_climbs hr arrived (by rw [at_]; simp) (by rw [at_]; simp) (.failed n) rfl (by simp) (by simp)
      here, hq, steps, here.2.1, here.2.2⟩
  · obtain ⟨stepped, soft⟩ := State.codewordFails_last (s := s.transferred rd r) (rd := rd) at_ ((cfg' _).trans on)
      ((cfg' Obj.softDecodes).symm ▸ room) (up' up)
    have here := stepped.of_parts host' ns'
    obtain ⟨q, hq, steps⟩ := here.1
    exact ⟨_, q, execCodewordDecode_climbs hr arrived (by rw [at_]; simp) (by rw [at_]; simp) (.failed n) rfl (by simp) (by simp)
      here, hq, steps, soft.trans (by rw [cfg']), here.2.1⟩
  · obtain ⟨hq, fails, host⟩ := State.codewordFails_soft (s := s.transferred rd r) (rd := rd) at_ member
      ((cfg' Obj.softFails).symm ▸ room)
    obtain ⟨store, host2, fails2⟩ := State.afterLadder_member (s := (s.transferred rd r).codewordFails rd r cw.val) (rd := rd)
      (r := { r with steps := r.steps.set cw.val .lost }) member
    refine ⟨_, { r with steps := r.steps.set cw.val .lost }, execCodewordDecode_open hr arrived (by rw [at_]; simp) (by rw [at_]; simp)
      (.failed n) rfl hq, (congrArg (fun k => Tbl.find k.reads rd) store).trans hq, rfl, ?_, host2.trans (host.trans host')⟩
    exact (fails2.trans fails).trans (by rw [cfg'])
  · refine (execCodewordDecode_waits hr arrived (by rw [hard]; decide) (by rw [hard]; decide) other).trans ?_
    unfold State.codewordDecodes
    rw [hard]
  · obtain ⟨counted, hint⟩ := State.codewordDecodes_retry (s := s.transferred rd r) (rd := rd) at_
      ((cfg' Obj.retryDecoded).symm ▸ room)
    refine ⟨_, { r with steps := r.steps.set cw.val .decoded },
      execCodewordDecode_waits hr arrived (by rw [at_]; simp) (by rw [at_]; simp) other,
      State.find_codewordDecodes, rfl, counted.trans (by rw [cfg']), hint.trans ?_⟩
    rw [State.block, State.block, show (s.transferred rd r).store = s.store by simp]

end Sys2Proof.Machine
end


section
/-! Patrols act on what they find (R237, R251 to R257, R260, R264, R266) -/
namespace Sys2Proof.Machine

section
variable {s : State}

theorem State.requestClaim_asked {task l b : Nat} :
    ((s.requestClaim task l b).block l b).claim = some task ∨ ∃ e ∈ ((s.requestClaim task l b).block l b).wants, e.1 = task := by
  unfold State.requestClaim
  dsimp only
  split
  case isTrue has =>
    rcases has with held | wants
    · exact .inl held
    · obtain ⟨e, he, is⟩ := List.any_eq_true.mp wants
      exact .inr ⟨e, he, by simpa using is⟩
  case isFalse =>
    rw [State.block_setBlock_same]
    exact .inr ⟨(task, 0), by simp, rfl⟩

/-- A claim's request changes of its block the waiting line alone. -/
theorem State.requestClaim_block {task l b : Nat} :
    ((s.requestClaim task l b).block l b).claim = (s.block l b).claim ∧
      ((s.requestClaim task l b).block l b).reads = (s.block l b).reads ∧
      ((s.requestClaim task l b).block l b).watch = (s.block l b).watch := by
  unfold State.requestClaim
  dsimp only
  split
  · exact ⟨rfl, rfl, rfl⟩
  · rw [State.block_setBlock_same]
    exact ⟨rfl, rfl, rfl⟩

theorem State.requestClaim_store {task l b : Nat} :
    s.requestClaim task l b = { s with store := (s.requestClaim task l b).store } := by
  unfold State.requestClaim
  dsimp only
  split <;> rfl

/-- Chunks of one task and charge are put behind those that wait. -/
theorem State.queueAll_bg {task : Task} {work : BgWork} {rc wc : Nat} (l : List Nat) :
    (l.foldl (fun a _ => a.queueBg task work rc wc) s).sched.bg.length = s.sched.bg.length + l.length ∧
      ∀ c ∈ (l.foldl (fun a _ => a.queueBg task work rc wc) s).sched.bg,
        c ∈ s.sched.bg ∨ (c.task = task ∧ c.readCost = rc ∧ c.writeCost = wc) := by
  induction l generalizing s with
  | nil => exact ⟨rfl, fun c hc => .inl hc⟩
  | cons _ l ih =>
    obtain ⟨len, new⟩ := ih (s := s.queueBg task work rc wc)
    refine ⟨?_, fun c hc => ?_⟩
    · rw [List.foldl_cons, len]
      simp [State.queueBg]
      omega
    · rcases new c hc with old | is
      · simp only [State.queueBg, List.mem_append, List.mem_singleton] at old
        rcases old with old | rfl
        · exact .inl old
        · exact .inr ⟨rfl, rfl, rfl⟩
      · exact .inr is

/-- Reads of a sample (R251, R256). -/
def State.sampleReads (s : State) (task : Task) (l b : Nat) : Nat :=
  planes * (if s.mem.forced ∧ task = .scrub then s.programmedPages l b else min 8 (s.programmedPages l b))

theorem State.sampleReads_le {l b : Nat} {task : Task} (short : s.mem.forced = false) : s.sampleReads task l b ≤ 32 := by
  simp [State.sampleReads, short, planes]
  omega

/-- A sample: its reads are queued, each at four credits. -/
theorem State.startSample_queued {task : Task} {l b : Nat} : (s.startSample task l b).host = s.host ∧
    Tbl.find (s.startSample task l b).mem.sampling (blockKey l b) = some (s.sampleReads task l b) ∧
    (s.startSample task l b).sched.bg.length = s.sched.bg.length + s.sampleReads task l b ∧
    ∀ c ∈ (s.startSample task l b).sched.bg, c ∈ s.sched.bg ∨ (c.task = task ∧ c.readCost = 4096 ∧ c.writeCost = 0) := by
  have is : s.startSample task l b = (List.range (s.sampleReads task l b)).foldl
      (fun a _ => a.queueBg task (.sample l b) (4 * oneCredit) 0)
      { s with mem := { s.mem with sampling := Tbl.put s.mem.sampling (blockKey l b) (s.sampleReads task l b) } } := rfl
  rw [is]
  refine ⟨by simp, ?_, ?_⟩
  · rw [foldl_keeps State.mem (by intro a e; rfl)]
    exact Tbl.find_put_same ..
  · obtain ⟨len, new⟩ := State.queueAll_bg (s := { s with mem := { s.mem with
      sampling := Tbl.put s.mem.sampling (blockKey l b) (s.sampleReads task l b) } }) (task := task) (work := .sample l b)
      (rc := 4 * oneCredit) (wc := 0) (List.range (s.sampleReads task l b))
    rw [List.length_range] at len
    exact ⟨len, new⟩

/-- A sample whose highest count is within its relocation share marks its block, or marks it with nothing. -/
theorem State.judge_keeps {l b high : Nat} (within : 100 * high ≤
    hardLimit (if (s.block l b).system then 7 else (s.block l b).strength) * s.cfg Obj.relocatePct) :
    s.judge l b high false = s.setBlock l b { s.block l b with
      watch := if hardLimit (if (s.block l b).system then 7 else (s.block l b).strength) * s.cfg Obj.watchPct < 100 * high
        then 1 else 0 } := by
  unfold State.judge
  dsimp only
  rw [if_neg (by simp only [Bool.false_eq_true, false_or]; omega)]
  generalize hardLimit _ = lim
  by_cases marked : lim * s.cfg Obj.watchPct < 100 * high
  · rw [if_pos marked, if_pos marked]
  · rw [if_neg marked, if_neg marked]

theorem State.passStep_kept {k : Nat} : (s.passStep k).host = s.host ∧ (s.passStep k).store = s.store := by
  unfold State.passStep
  dsimp only
  split <;> simp

theorem State.endSample_kept {l b : Nat} {counts : List Nat} (within : 100 * counts.foldl max 0 ≤
    hardLimit (if (s.block l b).system then 7 else (s.block l b).strength) * s.cfg Obj.relocatePct) :
    (s.endSample l b counts false).host = s.host ∧ (s.endSample l b counts false).block l b = { s.block l b with
      watch := if hardLimit (if (s.block l b).system then 7 else (s.block l b).strength) * s.cfg Obj.watchPct
        < 100 * counts.foldl max 0 then 1 else 0
      claim := none
      sampledAt := s.now } := by
  obtain ⟨t, noted, host, block, cfg, now⟩ : ∃ t, t = ({ s with mem := { s.mem with
      sampling := Tbl.del s.mem.sampling (blockKey l b) } } : State).noteFails l counts ∧ t.host = s.host ∧
      t.block l b = s.block l b ∧ (∀ q, t.cfg q = s.cfg q) ∧ t.now = s.now :=
    ⟨_, rfl, by simp, by simp [State.block], fun q => State.cfg_of_force (by simp) _ _ _, by simp⟩
  rw [← block, ← cfg] at within
  unfold State.endSample
  dsimp only
  rw [← noted, State.judge_keeps within, State.block_setBlock_same, State.block_setBlock_same, block, cfg]
  exact ⟨host, rfl⟩

/-- The step of Rinse on a programmed block whose claim it holds. -/
theorem execRinseStep_held {l : Fin 4096} {b w : Nat} {counts : List Nat} {left : Bool} {a : State}
    (ha : a = (s.tick w).beginRinse) (runs : a.rinseOpen = true)
    (programmed : a.programmedBlocks.contains (blockKey l.val b) = true) (held : (a.block l.val b).claim = some claimRinse) :
    exec (.rinseStep l b counts left w) s = match Tbl.find a.mem.sampling (blockKey l.val b) with
      | none => .next (a.startSample .scrub l.val b)
      | some 0 => .next ((a.endSample l.val b counts left).passStep (blockKey l.val b))
      | some (_ + 1) => .next a := by
  subst ha
  show execRinseStep l b counts left w s = _
  unfold execRinseStep
  dsimp only
  rw [if_neg (by rw [runs, programmed]; simp), if_neg (not_not_intro held)] <;> rfl

/-- The step of Rinse on a programmed block that it does not hold. -/
theorem execRinseStep_asks {l : Fin 4096} {b w : Nat} {counts : List Nat} {left : Bool} {a : State}
    (ha : a = (s.tick w).beginRinse) (runs : a.rinseOpen = true)
    (programmed : a.programmedBlocks.contains (blockKey l.val b) = true) (free : (a.block l.val b).claim ≠ some claimRinse) :
    exec (.rinseStep l b counts left w) s = .next (if a.sampleDue l.val b then a.requestClaim claimRinse l.val b else a) := by
  subst ha
  show execRinseStep l b counts left w s = _
  unfold execRinseStep
  dsimp only
  rw [if_neg (by rw [runs, programmed]; simp), if_pos free]

theorem State.cfg_beginRinse {q : ObjRow} {w : Nat} (other : q.key 0 0 ≠ Obj.passDonePct.key 0 0) :
    (s.tick w).beginRinse.cfg q = s.cfg q := by
  unfold State.beginRinse
  split
  · exact State.cfg_keep_ne _ _ _ _ _ _ _ _ other
  · rfl

theorem State.block_of_store {t : State} (same : s.store = t.store) (l b : Nat) : s.block l b = t.block l b := by
  rw [State.block, same, State.block]

/-- A forced pass that starts at once. -/
theorem State.startForced_runs (noSan : s.has Mode.sanitize = false) (noRec : s.has Mode.recovery = false) :
    s.startForced.mem.forced = true ∧ s.startForced.cfg Obj.fullPass = 1 ∧ s.startForced.mem.sampled = [] := by
  unfold State.startForced
  dsimp only
  rw [if_neg (by simp [noSan, noRec])]
  refine ⟨by simp, ?_, by simp⟩
  rw [State.setMode, State.cfg_changeModes _ _ _ _ _ _ _ (by unfold ObjRow.other; decide) (by unfold ObjRow.other; decide) (by unfold ObjRow.other; decide) (by unfold ObjRow.other; decide) (by unfold ObjRow.other; decide)]
  exact State.cfg_keep_same ..

/-- A forced pass that ends. -/
theorem State.endForced_ended : s.endForced.mem.forced = false ∧ s.endForced.cfg Obj.fullPass = 0 := by
  unfold State.endForced
  dsimp only
  split
  · exact ⟨rfl, State.cfg_keep_same ..⟩
  · refine ⟨by simp, ?_⟩
    rw [State.clearMode, State.cfg_changeModes _ _ _ _ _ _ _ (by unfold ObjRow.other; decide) (by unfold ObjRow.other; decide) (by unfold ObjRow.other; decide) (by unfold ObjRow.other; decide) (by unfold ObjRow.other; decide)]
    exact State.cfg_keep_same ..

/-- A correction is counted, whatever the log says. -/
theorem State.corrected_counted {m : Nat} {e : LogEntry} (room : s.cfg Obj.ceCount 0 m < 2 ^ 64 - 1) :
    (s.corrected m e).cfg Obj.ceCount 0 m = s.cfg Obj.ceCount 0 m + 1 := by
  have top : Obj.ceCount.top = 2 ^ 64 - 1 := by decide
  have counted := State.cfg_bump_same s Obj.ceCount 1 0 m (by rw [top]; omega)
  unfold State.corrected
  dsimp only
  split
  · exact counted
  · split
    · exact counted
    · rw [State.cfg_bump_ne _ _ _ _ _ _ _ _ (by simp only [ObjRow.key, Obj.ceCount, Obj.logOverflow]; omega), counted]

theorem State.uncorrectable_counted {m a : Nat} (hm : m < 16) (room : s.cfg Obj.ueCount 0 m < 2 ^ 32 - 1) :
    (s.uncorrectable m a).cfg Obj.ueCount 0 m = s.cfg Obj.ueCount 0 m + 1 := by
  have top : Obj.ueCount.top = 2 ^ 32 - 1 := by decide
  unfold State.uncorrectable
  rw [State.cfg_record _ _ _ _ _ _ _ _
    (by simp only [ObjRow.other, ObjRow.key, Obj.ueCount, Obj.dropped]; omega)
    (by simp only [ObjRow.other, ObjRow.key, Obj.ueCount, Obj.suppressedTotal]; omega),
    State.cfg_bump_same _ _ _ _ _ (by rw [top]; omega)]

/-- An uncorrectable word changes of the objects only its count and those of the records. -/
theorem State.cfg_uncorrectable {q : ObjRow} {m a i j : Nat} (dropped : q.other i j Obj.dropped)
    (suppressed : q.other i j Obj.suppressedTotal) (other : q.key i j ≠ Obj.ueCount.key 0 m) :
    (s.uncorrectable m a).cfg q i j = s.cfg q i j := by
  unfold State.uncorrectable
  rw [State.cfg_record _ _ _ _ _ _ _ _ dropped suppressed, State.cfg_bump_ne _ _ _ _ _ _ _ _ other]

/-- A restart fences every function by row 8. -/
theorem State.restart_fenced {cause : Nat} {f : Func} : FencedBy s (s.restart cause) f 8 := by
  refine FencedBy.of_fn State.subsystemReset_fenced ?_
  exact State.fn_of_fns (by simp [State.restart]) f

end

/-- A word of three wrong bits outside cell SRAM. -/
theorem execSramScrub_lost {s : State} {m : Fin 4} {a : Nat} {bad : List (Fin 80)} (hm : m ≠ 0)
    (three : bad.eraseDups.length = 3) : exec (.sramScrub m a bad) s = .next (s.wordLost (sramRow m.val a)) := by
  show execSramScrub m a bad s = _
  unfold execSramScrub
  rw [if_neg (fun z => hm (Fin.ext z.1))]
  rw [if_neg (by omega), if_neg (by omega), if_pos three]

/-- Settles O32, patrol by patrol. -/
theorem patrolsActOnWhatTheyFind : Obligations.PatrolsActOnWhatTheyFind := by
  unfold Obligations.PatrolsActOnWhatTheyFind
  refine ⟨fun l b w counts s a x lim ha hx runs programmed hlim => ?_, fun l b s => ⟨fun few => ?_, fun many => ?_⟩,
    fun acc s => ⟨fun inst => ?_, fun manages => ?_⟩, fun m a bad s hm => ⟨fun none_ => ?_, fun one two room => ?_,
      fun three room => ⟨fun is => ?_, fun is => ?_⟩⟩, fun c a s live => ?_⟩
  · subst hx
    have host : a.host = s.host := by subst ha; simp
    have now : a.now = max s.now w := by subst ha; simp [State.tick]
    have cfg : a.cfg Obj.relocatePct = s.cfg Obj.relocatePct ∧ a.cfg Obj.watchPct = s.cfg Obj.watchPct := by
      subst ha
      exact ⟨State.cfg_beginRinse (by decide), State.cfg_beginRinse (by decide)⟩
    refine ⟨fun held first => ?_, fun held done within => ?_, fun free due => ?_, fun free rest => ?_⟩
    · obtain ⟨host2, sampling, len, new⟩ := State.startSample_queued (s := a) (task := .scrub) (l := l.val) (b := b)
      refine ⟨_, _, (execRinseStep_held ha runs programmed held).trans (by rw [first]), host2.trans host, sampling,
        State.sampleReads_le, len, new⟩
    · subst hlim
      rw [← cfg.1] at within
      rw [← cfg.2]
      obtain ⟨host2, block⟩ := State.endSample_kept (s := a) (l := l.val) (b := b) (counts := counts) within
      obtain ⟨host3, store⟩ := State.passStep_kept (s := a.endSample l.val b counts false) (k := blockKey l.val b)
      refine ⟨_, (execRinseStep_held ha runs programmed held).trans (by rw [done]), host3.trans (host2.trans host), ?_⟩
      rw [← now]
      exact (State.block_of_store store _ _).trans block
    · refine ⟨_, (execRinseStep_asks ha runs programmed free).trans (by rw [if_pos due]), ?_, ?_⟩
      · exact State.requestClaim_asked.resolve_left fun held => free (State.requestClaim_block.1.symm.trans held)
      · rw [State.requestClaim_store]
        exact host
    · rw [execRinseStep_asks ha runs programmed free, if_neg (by simp [rest])]
  · exact if_neg (Nat.not_lt.mpr few)
  · have ran : exec (.disturbCountReached l b) s = .next ((s.setBlock l.val b
        { s.block l.val b with reads := 0, watch := 3 }).requestClaim claimRinse l.val b) := if_pos many
    obtain ⟨-, reads, watch⟩ := State.requestClaim_block
      (s := s.setBlock l.val b { s.block l.val b with reads := 0, watch := 3 }) (task := claimRinse) (l := l.val) (b := b)
    refine ⟨_, ran, ?_, ?_, State.requestClaim_asked, ?_⟩
    · rw [reads, State.block_setBlock_same]
    · rw [watch, State.block_setBlock_same]
    · exact State.requestClaim_store
  · obtain ⟨n, rfl⟩ := inst
    exact ⟨fun on => rfl, rfl⟩
  · have may : Accessor_manages acc = true := by
      cases acc with
      | inst n => exact absurd rfl (manages n)
      | _ => rfl
    have passes : ∀ on, exec (.fullPassWrite acc on) s = .next (s.writeFullPass on) := fun on => by
      show execFullPassWrite acc on s = _
      rw [execFullPassWrite, if_pos may]
    refine ⟨fun noSan noRec idle => ⟨_, passes true, ?_⟩, fun runs done => ⟨_, passes false, ?_⟩, fun runs reading => ?_,
      _, if_pos may, by simp [Tbl.get, Tbl.find_del_same], fun m ne => ?_, rfl⟩
    · have is : s.writeFullPass true = s.startForced := by simp [State.writeFullPass, idle]
      rw [is]
      exact State.startForced_runs noSan noRec
    · have is : s.writeFullPass false = s.endForced := by simp [State.writeFullPass, runs, done]
      rw [is]
      exact State.endForced_ended
    · rw [passes]
      simp [State.writeFullPass, runs, reading]
    · unfold Tbl.get
      rw [Tbl.find_del_ne _ ne]
  · subst none_
    show execSramScrub m a [] s = _
    simp [execSramScrub]
  · have fixed : ∀ first, s.sramFixed m.val a bad.eraseDups.length first = s.corrected m.val
        { count := 1, position := first, kind := bad.eraseDups.length, rank := 0, firstS := 0, address := a } := fun first =>
      if_neg (fun z => hm (Fin.ext z))
    have ran : ∃ first, exec (.sramScrub m a bad) s = .next (s.sramFixed m.val a bad.eraseDups.length first) := by
      refine ⟨(bad.eraseDups.map (·.val)).foldl min 79, ?_⟩
      show execSramScrub m a bad s = _
      unfold execSramScrub
      rw [if_neg (fun z => hm (Fin.ext z.1))]
      rw [if_neg (by omega), if_pos two]
    obtain ⟨first, ran⟩ := ran
    refine ⟨_, ran, ?_⟩
    rw [fixed]
    exact ⟨State.corrected_counted room, by simp, by simp, by simp⟩
  · subst is
    refine ⟨_, execSramScrub_lost (by decide) three, ?_, ?_, ?_⟩
    · exact State.uncorrectable_counted (by decide) room
    · exact congrArg KeySlot.kind (Tbl.get_set_same ..)
    · show ((s.uncorrectable 2 a).emptySlot _).host = s.host
      simp
  · subst is
    refine ⟨_, execSramScrub_lost (by decide) three, rfl, fun f => ?_⟩
    refine (State.restart_fenced (s := s.uncorrectable 1 a)).of_before (State.fn_of_fns (by simp) f) ?_
    unfold State.dual
    rw [State.cfg_uncorrectable (by unfold ObjRow.other; decide) (by unfold ObjRow.other; decide) (by decide)]
  · have role : (s.uncorrectable 0 (c.val * 2 ^ 56 + a)).cellRole c.val = s.cellRole c.val := by
      unfold State.cellRole
      refine State.cfg_uncorrectable ?_ ?_ ?_ <;>
        simp only [ObjRow.other, ObjRow.key, Obj.cellRole, Obj.ueCount, Obj.dropped, Obj.suppressedTotal] <;> omega
    obtain ⟨fenced, reason, -, -, listed, -⟩ := (s.uncorrectable 0 (c.val * 2 ^ 56 + a)).fenceCell_facts c.val 2 c.isLt
      (by rw [role]; exact live) (by decide)
    refine ⟨_, rfl, fenced, reason, listed.trans ?_⟩
    rw [role]
    simp

end Sys2Proof.Machine
end


section
/-! Cores serve one message at a time (R49, R267 to R281) -/
namespace Sys2Proof.Machine

section
variable {s : State} {k : Nat} {id : LockId}

@[simp] theorem State.lockOf_setLock_same : (s.setLock k (some id)).lockOf k = some id := Tbl.find_put_same ..

@[simp] theorem State.lockOf_setLock_none : (s.setLock k none).lockOf k = none := Tbl.find_del_same ..

theorem State.lockOf_setLock_ne {l : Option LockId} {j : Nat} (ne : j ≠ k) : (s.setLock k l).lockOf j = s.lockOf j := by
  cases l with
  | none => exact Tbl.find_del_ne _ ne
  | some id => exact Tbl.find_put_ne _ _ ne

theorem State.setLock_cipher {l : Option LockId} : s.setLock k l = { s with cipher := (s.setLock k l).cipher } := by
  cases l <;> rfl

/-- Of two cells, the one that is kept while the nearest is looked for. -/
def nearer (c : Nat) (m : Option Nat) (d : Nat) : Option Nat :=
  match m with
  | none => some d
  | some a => if hops c d < hops c a then some d else some a

/-- The nearest of an ascending list, the lowest of those that are equally near. -/
theorem foldl_nearer_some {c a d : Nat} (l : List Nat) (up : (a :: l).Pairwise (· < ·))
    (h : l.foldl (nearer c) (some a) = some d) :
    d ∈ a :: l ∧ ∀ e ∈ a :: l, hops c d < hops c e ∨ (hops c d = hops c e ∧ d ≤ e) := by
  induction l generalizing a with
  | nil =>
    obtain rfl := Option.some.inj h
    simp
  | cons b l ih =>
    obtain ⟨first, rest⟩ := List.pairwise_cons.mp up
    obtain ⟨second, tail⟩ := List.pairwise_cons.mp rest
    have ab : a < b := first b (by simp)
    by_cases near : hops c b < hops c a
    · rw [List.foldl_cons, nearer, if_pos near] at h
      obtain ⟨there, best⟩ := ih rest h
      refine ⟨List.mem_cons_of_mem _ there, fun e he => ?_⟩
      rcases List.mem_cons.mp he with rfl | he
      · have := best b (by simp)
        omega
      · exact best e he
    · rw [List.foldl_cons, nearer, if_neg near] at h
      obtain ⟨there, best⟩ := ih (List.pairwise_cons.mpr ⟨fun e he => first e (List.mem_cons_of_mem _ he), tail⟩) h
      refine ⟨?_, fun e he => ?_⟩
      · rcases List.mem_cons.mp there with rfl | there
        · simp
        · simp [there]
      · rcases List.mem_cons.mp he with rfl | he
        · exact best e (by simp)
        · rcases List.mem_cons.mp he with rfl | he
          · have := best a (by simp)
            omega
          · exact best e (List.mem_cons_of_mem _ he)

theorem foldl_nearer {c d : Nat} (l : List Nat) (up : l.Pairwise (· < ·)) (h : l.foldl (nearer c) none = some d) :
    d ∈ l ∧ ∀ e ∈ l, hops c d < hops c e ∨ (hops c d = hops c e ∧ d ≤ e) := by
  cases l with
  | nil => exact absurd h (by simp)
  | cons a l => exact foldl_nearer_some l up h

/-- Idle cores of a cell's quadrant that take a message. -/
def State.idleCores (s : State) (c : Nat) (id : LockId) : List Nat :=
  (List.range 96).filter fun d => cellQuadrant d = cellQuadrant c && s.coreTakes d id && (s.lockOf d).isNone

theorem State.nearestIdle_eq {c : Nat} : s.nearestIdle c id = (s.idleCores c id).foldl (nearer c) none := rfl

theorem State.mem_idleCores {c d : Nat} : d ∈ s.idleCores c id ↔
    d < 96 ∧ cellQuadrant d = cellQuadrant c ∧ s.coreTakes d id = true ∧ s.lockOf d = none := by
  simp [State.idleCores, and_assoc]

theorem State.nearestIdle_best {c d : Nat} (h : s.nearestIdle c id = some d) : d ∈ s.idleCores c id ∧
    ∀ e ∈ s.idleCores c id, hops c d < hops c e ∨ (hops c d = hops c e ∧ d ≤ e) :=
  foldl_nearer _ (List.pairwise_lt_range.filter _) h

/-- A cell's core takes data messages and known-answer tests, the former in a HOST cell. -/
theorem State.coreTakes_cell (hk : k < 96) :
    s.coreTakes k id = (s.coreUp k && (id.op = 6 || (id.op ≤ 3 && s.cellRole k = 1))) := by
  rw [State.coreTakes, if_neg (by omega), if_neg (by omega)]

/-- A HOST cell's core that ends its message goes to the head of its quadrant's line. -/
theorem State.freeCore_next {o : LockId} {rest : List LockId} (cell : k < 96) (host : s.cellRole k = 1)
    (line : Tbl.get [] s.cipher.waits (cellQuadrant k) = o :: rest) :
    (s.freeCore k).lockOf k = some o ∧ Tbl.get [] (s.freeCore k).cipher.waits (cellQuadrant k) = rest ∧
      s.freeCore k = { s with cipher := (s.freeCore k).cipher } := by
  unfold State.freeCore
  dsimp only
  rw [if_pos ⟨cell, host⟩]
  have line' : Tbl.get [] (s.setLock k none).cipher.waits (cellQuadrant k) = o :: rest := line
  simp only [line']
  exact ⟨State.lockOf_setLock_same, Tbl.get_set_same .., rfl⟩

/-- Any other core that ends its message is free. -/
theorem State.freeCore_idle (h : 96 ≤ k ∨ s.cellRole k ≠ 1 ∨ Tbl.get [] s.cipher.waits (cellQuadrant k) = []) :
    (s.freeCore k).lockOf k = none ∧ (∀ j, j ≠ k → (s.freeCore k).lockOf j = s.lockOf j) ∧
      (s.freeCore k).cipher.waits = s.cipher.waits ∧ s.freeCore k = { s with cipher := (s.freeCore k).cipher } := by
  have is : s.freeCore k = { s with cipher := { (s.setLock k none).cipher with
      asks := (s.setLock k none).cipher.asks.filter fun (e : Nat × LockId) => some e.2 ≠ s.lockOf k } } := by
    unfold State.freeCore
    dsimp only
    split
    case isFalse => rfl
    case isTrue on =>
      have empty : Tbl.get [] (s.setLock k none).cipher.waits (cellQuadrant k) = [] := by
        rcases h with h | h | h
        · omega
        · exact absurd on.2 h
        · exact h
      simp only [empty]
      rfl
  rw [is]
  exact ⟨State.lockOf_setLock_none, fun j ne => State.lockOf_setLock_ne ne, rfl, rfl⟩

/-- A message that is over frees its core, and where it deciphered no unit nothing else happens. -/
theorem execCipherMessageDone_frees {c : Core} {p : ComparePair} (held : s.lockOf (Core_num c) = some id) :
    exec (.cipherMessageDone c none p) s = .next (s.freeCore (Core_num c)) := by
  show execCipherMessageDone c none p s = _
  unfold execCipherMessageDone
  rw [held]
  dsimp only
  split
  · rfl
  · rfl

/-- A unit that a core has deciphered goes on. -/
theorem execCipherMessageDone_deciphers {c : Core} {p : ComparePair} {rd : Nat} {r : MediaRead}
    (held : s.lockOf (Core_num c) = some id) (fresh : s.staleLock id = false) (hr : Tbl.find s.store.reads rd = some r)
    (climbed : r.climbed = true) (arrived : r.arrived = true) : exec (.cipherMessageDone c (some rd) p) s
      = .next (((s.freeCore (Core_num c)).unitDeciphered rd r (Core_num c) p).settleKeys) := by
  show execCipherMessageDone c (some rd) p s = _
  unfold execCipherMessageDone
  rw [held]
  dsimp only
  have hr' : Tbl.find (s.freeCore (Core_num c)).store.reads rd = some r := by simpa using hr
  rw [if_neg (by simp [fresh]), Option.bind_some, hr', Option.map_some]
  exact if_pos ⟨climbed, arrived⟩

/-- A state that no element of a list changes is the state after all of them. -/
theorem foldl_stays {α β : Type} {f : α → β → α} {a : α} (l : List β) (stays : ∀ e ∈ l, f a e = a) : l.foldl f a = a := by
  induction l with
  | nil => rfl
  | cons e l ih => rw [List.foldl_cons, stays e (by simp), ih fun e he => stays e (List.mem_cons_of_mem _ he)]

/-- No data leaves before the tag is checked where no instance asks for it. -/
theorem State.cutThrough_none {r : MediaRead} (off : ∀ e ∈ r.attached, ∀ n, e.hdr.fn = .inst n →
    s.cfg Obj.authDelivery n.val ≠ 1) : s.cutThrough r = s := by
  unfold State.cutThrough
  refine foldl_stays _ fun e he => ?_
  cases hf : e.hdr.fn with
  | pf0 => rfl
  | pf1 => rfl
  | inst n => exact if_neg fun on => off e he n hf on.2

theorem State.settleKeys_idle (none_ : s.cipher.works = []) : s.settleKeys = s := by
  simp [State.settleKeys, none_]

/-- An authenticated unit of which no data left early: what its tag decides. -/
theorem State.unitDeciphered_gcm {rd : Nat} {r : MediaRead} {u : Stored} {p : ComparePair} (hu : s.readUnit r = some u)
    (gcm : u.gcm = true) (fresh : r.tagFails = 0) (clear : p.hit = 0x5A#8 ∧ p.missN = 0xA5#8 ∨ p.hit = 0xA5#8 ∧ p.missN = 0x5A#8)
    (off : ∀ e ∈ r.attached, ∀ n, e.hdr.fn = .inst n → s.cfg Obj.authDelivery n.val ≠ 1) :
    s.unitDeciphered rd r k p
      = if ComparePair_match p then s.concludeRead rd r else (s.bump Obj.tagFails).secondSource rd r := by
  have judged : s.judgePair k p = s := if_pos (clear.imp_left fun h => by simp [ComparePair_match, h.1, h.2])
  unfold State.unitDeciphered
  dsimp only
  rw [judged, State.cutThrough_none off, if_pos (by rw [hu]; exact gcm), if_pos fresh, if_pos fresh]

/-- A direct read whose tag failed, as its page is read again for a reconstruction. -/
def MediaRead.anew (r : MediaRead) : MediaRead :=
  { r with tagFails := r.source, data := [], metas := [], source := 1, steps := ladderStart r.mask .hard, arrived := false }

theorem State.secondSource_direct {rd : Nat} {r : MediaRead} (direct : r.source ≠ 1)
    (up : (s.lun (r.entry.lun?.getD 0)).state = .active) :
    Tbl.find (s.secondSource rd r).store.reads rd = some r.anew := by
  unfold State.secondSource State.readAgain
  dsimp only
  rw [if_neg direct, if_pos up]
  exact Tbl.find_put_same ..

theorem State.freeCore_works : (s.freeCore k).cipher.works = s.cipher.works := by
  unfold State.freeCore
  dsimp only
  split
  · split <;> rfl
  · rfl

end

/-- A request that its HOST cell may make: its own core, the nearest idle one, or a place in the line. -/
theorem execCipherRequestSteer_open {c : Fin 96} {id : LockId} {s : State} (role : s.cellRole c.val = 1) (op : id.op ≤ 3)
    (open_ : s.pastLock id = false) (alone : Tbl.find s.cipher.asks c.val = none) :
    exec (.cipherRequestSteer c id) s = (let a := { s with cipher := { s.cipher with asks := Tbl.put s.cipher.asks c.val id } }
      if (s.lockOf c.val).isNone ∧ s.coreTakes c.val id then .next (a.setLock c.val (some id))
      else match s.nearestIdle c.val id with
        | some d => .next (a.setLock d (some id))
        | none => .next (if (Tbl.get [] s.cipher.waits (cellQuadrant c.val)).length < s.hostCells (cellQuadrant c.val)
          then a.waitCore (cellQuadrant c.val) id else s)) := by
  show execCipherRequestSteer c id s = _
  unfold execCipherRequestSteer
  dsimp only
  rw [if_neg (by simp [role, open_, alone]; omega)] <;> rfl

/-- The mask generator of a core has run so many blocks. -/
def State.blocksRun (s : State) (k v : Nat) : State :=
  { s with cipher := { s.cipher with masks := Tbl.set 0 s.cipher.masks k v } }

theorem State.blocksRun_masks {s : State} {k v : Nat} : Tbl.get 0 (s.blocksRun k v).cipher.masks k = v := Tbl.get_set_same ..

theorem execMaskReseed_done {k : Core} {n : Nat} {s : State} : ∃ t, exec (.maskReseed k n true) s = .next t ∧
    t.cipher.masks = (s.blocksRun (Core_num k) 0).cipher.masks ∧ t.cells = s.cells := ⟨_, rfl, rfl, rfl⟩

/-- Settles O33, claim by claim. -/
theorem coresServeOneMessageAtATime : Obligations.CoresServeOneMessageAtATime := by
  unfold Obligations.CoresServeOneMessageAtATime
  refine ⟨fun k id s => ⟨fun no => ?_, fun free takes open_ => ?_⟩, fun c d id s near => ?_,
    fun c id s a => ⟨fun no => ?_, fun role op open_ alone ha => ⟨fun free up => ?_, fun d busy near => ?_,
      fun busy near room short => ?_⟩⟩,
    fun k p id s => ⟨fun free rd => ?_, fun held stale rd => ?_, fun held cell host o rest line => ?_, fun held idle => ?_,
      fun rd r u held fresh hr climbed arrived hu gcm off => ⟨fun hit miss clean => ?_,
        fun hit miss clean direct room up idle => ?_⟩⟩,
    fun k n s => ⟨?_, fun few => ?_, fun many cell live => ?_⟩⟩
  · refine if_neg fun ⟨free, takes, open_⟩ => ?_
    rcases no with busy | not | past
    · exact busy (Option.isNone_iff_eq_none.mp free)
    · exact absurd takes (by simp [not])
    · exact absurd open_ (by simp [past])
  · refine ⟨_, if_pos ⟨Option.isNone_iff_eq_none.mpr free, takes, open_⟩, State.lockOf_setLock_same,
      fun j ne => State.lockOf_setLock_ne ne, rfl⟩
  · obtain ⟨there, best⟩ := State.nearestIdle_best near
    obtain ⟨cell, quadrant, takes, free⟩ := State.mem_idleCores.mp there
    refine ⟨quadrant, takes, fun data => ?_, free, fun e he same takes free => best e (State.mem_idleCores.mpr ⟨he, same, takes, free⟩)⟩
    rw [State.coreTakes_cell cell] at takes
    simp [data] at takes
    exact takes.2.2
  · refine if_pos ?_
    rcases no with role | op | past | ⟨o, asks⟩
    · exact .inl role
    · exact .inr (.inl op)
    · exact .inr (.inr (.inl past))
    · exact .inr (.inr (.inr (by simp [asks])))
  · rw [execCipherRequestSteer_open role op open_ alone, ← ha]
    rw [if_pos ⟨Option.isNone_iff_eq_none.mpr free, by rw [State.coreTakes_cell c.isLt]; simp [up, op, role]⟩]
  · rw [execCipherRequestSteer_open role op open_ alone, ← ha]
    rw [if_neg fun is => busy (Option.isNone_iff_eq_none.mp is.1), near]
  · rw [execCipherRequestSteer_open role op open_ alone, ← ha]
    rw [if_neg fun is => busy (Option.isNone_iff_eq_none.mp is.1), near]
    refine ⟨_, congrArg Host.Outcome.next (if_pos short), ?_⟩
    subst ha
    refine ⟨Tbl.get_put_same .., by simp [State.waitCore], ?_⟩
    have top : Obj.cipherWaits.top = 2 ^ 64 - 1 := by decide
    exact State.cfg_bump_same _ _ _ _ _ (by rw [top]; exact room)
  · show execCipherMessageDone k rd p s = _
    rw [execCipherMessageDone, free]
  · show execCipherMessageDone k rd p s = _
    unfold execCipherMessageDone
    rw [held]
    exact if_pos stale
  · exact ⟨_, execCipherMessageDone_frees held, State.freeCore_next cell host line⟩
  · exact ⟨_, execCipherMessageDone_frees held, State.freeCore_idle idle⟩
  · have hu' : (s.freeCore (Core_num k)).readUnit r = some u := by simpa [State.readUnit] using hu
    rw [execCipherMessageDone_deciphers held fresh hr climbed arrived,
      State.unitDeciphered_gcm hu' gcm clean (.inl ⟨hit, miss⟩) fun e he n hf => by
        rw [State.cfg_of_force (t := s) (by simp)]; exact off e he n hf,
      if_pos (by simp [ComparePair_match, hit, miss])]
  · have hu' : (s.freeCore (Core_num k)).readUnit r = some u := by simpa [State.readUnit] using hu
    have top : Obj.tagFails.top = 2 ^ 64 - 1 := by decide
    have counted : (s.freeCore (Core_num k)).cfg Obj.tagFails = s.cfg Obj.tagFails := State.cfg_of_force (by simp) _ _ _
    have ran : exec (.cipherMessageDone k (some rd) p) s
        = .next (((s.freeCore (Core_num k)).bump Obj.tagFails).secondSource rd r) := by
      rw [execCipherMessageDone_deciphers held fresh hr climbed arrived,
        State.unitDeciphered_gcm hu' gcm clean (.inr ⟨hit, miss⟩) fun e he n hf => by
          rw [State.cfg_of_force (t := s) (by simp)]; exact off e he n hf,
        if_neg (by simp [ComparePair_match, hit]), State.settleKeys_idle (by simpa [State.freeCore_works] using idle)]
    refine ⟨_, r.anew, ran, State.secondSource_direct direct ?_, rfl, rfl, rfl, rfl, ?_, by simp, by simp⟩
    · rw [State.lun_of_luns (a := s) (by simp)]
      exact up
    · rw [State.cfg_of_force (t := (s.freeCore (Core_num k)).bump Obj.tagFails) (by simp),
        State.cfg_bump_same _ _ _ _ _ (by rw [counted, top]; omega), counted]
  · obtain ⟨t, ran, masks, cells⟩ := execMaskReseed_done (k := k) (n := n) (s := s)
    refine ⟨t, ran, ?_, cells⟩
    rw [masks, State.blocksRun_masks]
  · have ran : exec (.maskReseed k n false) s = .next (s.blocksRun (Core_num k) (Tbl.get 0 s.cipher.masks (Core_num k) + n)) :=
      if_neg (by omega)
    exact ⟨_, ran, State.blocksRun_masks, rfl⟩
  · have ran : exec (.maskReseed k n false) s = .next (((s.blocksRun (Core_num k) 0).fenceCell (Core_num k) 5).setLock
        (Core_num k) none) := if_pos ⟨many, cell⟩
    obtain ⟨fenced, reason, -⟩ := (s.blocksRun (Core_num k) 0).fenceCell_facts (Core_num k) 5 cell live (by decide)
    exact ⟨_, ran, fenced, reason, State.lockOf_setLock_none⟩

end Sys2Proof.Machine
end


section
/-! Keys are kept and accepted (R278 to R288) -/
namespace Sys2Proof.Machine

section
variable {s a : State} {h : Hdr} {k len : Nat}

@[simp] theorem State.keySlot_setKeySlot_same {x : KeySlot} : (s.setKeySlot k x).keySlot k = x := Tbl.get_set_same ..

/-- A fill of a key that the key service knows and the cell's cache does not hold. -/
theorem execKeyCacheFill_miss {c : Fin 96} {key : KeyRef} {ok1 ok2 : Bool} (missing : key ∉ (s.cell c.val).keys)
    (known : s.keyKnown key = true) (live : s.cellRole c.val ≠ 7) (there : s.blockLost 1 = false) :
    exec (.keyCacheFill c key ok1 ok2) s = if ok1 ∨ ok2
      then .next ((s.setCell c.val { s.cell c.val with
        keys := ((s.cell c.val).keys ++ [key]).drop (((s.cell c.val).keys ++ [key]).length - 64) }).bump Obj.keyMisses)
      else .next (s.fenceCell c.val 5) := by
  show execKeyCacheFill c key ok1 ok2 s = _
  unfold execKeyCacheFill
  dsimp only
  rw [if_neg (by simpa using missing), if_neg (by simp [known, live, there])]

theorem execKeyCacheFill_hit {c : Fin 96} {key : KeyRef} {ok1 ok2 : Bool} (held : key ∈ (s.cell c.val).keys) :
    exec (.keyCacheFill c key ok1 ok2) s
      = .next (s.setCell c.val { s.cell c.val with keys := (s.cell c.val).keys.filter (· ≠ key) ++ [key] }) :=
  if_pos (by simpa using held)

/-- The last entries of a cache with one more key: at most 64, that key the latest. -/
theorem latest_keys (l : List KeyRef) (key : KeyRef) : ((l ++ [key]).drop ((l ++ [key]).length - 64)).getLast? = some key ∧
    ((l ++ [key]).drop ((l ++ [key]).length - 64)).length ≤ 64 ∧
    ∀ j ∈ (l ++ [key]).drop ((l ++ [key]).length - 64), j = key ∨ j ∈ l := by
  refine ⟨?_, ?_, fun j hj => ?_⟩
  · rw [List.getLast?_drop, if_neg (by rw [List.length_append, List.length_singleton]; omega), List.getLast?_concat]
  · rw [List.length_drop]
    omega
  · have := List.mem_of_mem_drop hj
    simp only [List.mem_append, List.mem_singleton] at this
    exact this.symm

/-- A purge leaves in every cell only keys that its test keeps. -/
theorem State.mem_purgeKeys {keep : KeyRef → Bool} {e : Nat × CellSt} (he : e ∈ (s.purgeKeys keep).cells.cells) {j : KeyRef}
    (hj : j ∈ e.2.keys) : keep j = true := by
  obtain ⟨e0, -, rfl⟩ := List.mem_map.mp he
  exact (List.mem_filter.mp hj).2

theorem State.keyRun_of_starts (starts : Starts s h a) (fits : Buffers a h) (body : State → State × Cpl) :
    s.keyRun h len body = if h.fn.isManager then ((body a).1).finish h (body a).2 else a.finish h (Cpl.of .invalidField) := by
  unfold State.keyRun State.runData
  rw [State.run_of_starts starts, State.buffered_of_none (fits len)]
  split <;> rfl

theorem State.keyStart_of_starts (starts : Starts s h a) (fits : Buffers a h) (check : State → Option (State × Cpl))
    (go : State → State) : s.keyStart h len check go = .next (if h.fn.isManager then (match check a with
      | some (b, c) => b.finish h c
      | none => go a) else a.finish h (Cpl.of .invalidField)) := by
  unfold State.keyStart
  rw [State.startAdmin_of_starts starts]
  cases h.fn.isManager
  · rfl
  · simp only [Bool.not_true, Bool.false_eq_true, if_false, fits len, if_true] <;> rfl

theorem State.ownNs_own {f : Func} {id : Nat} {n : Ns} (there : a.ns? id = some n) (own : n.owner = a.portOfFn f) :
    a.ownNs f id = some n := by
  rw [State.ownNs, there]
  exact if_pos own

theorem State.ownNs_other {f : Func} {id : Nat} {n : Ns} (there : a.ns? id = some n) (other : n.owner ≠ a.portOfFn f) :
    a.ownNs f id = none := by
  rw [State.ownNs, there]
  exact if_neg other

theorem State.keySlot_destroyKey : (s.destroyKey k).keySlot k = { KeySlot.empty with kid := (s.keySlot k).kid } :=
  Tbl.get_set_same ..

/-- A reload of an emptied slot, with its blob under the present device KEK. -/
theorem execKeySlotReload_of_blob {k : Fin 4096} {b : KeySlot} {ok : Bool} (hb : Tbl.find s.cipher.blobs k.val = some b)
    (empty : (s.keySlot k.val).kind = 0) (found : k.val ∉ s.cipher.lost) (kek : s.security.kek = true)
    (there : s.blockLost 1 = false) (gen : s.cfg Obj.rootGen ≤ s.security.storeGen) :
    exec (.keySlotReload k ok) s = if ok
      then .next (s.setKeySlot k.val { s.keySlot k.val with kind := b.kind, origin := b.origin, keyId := b.keyId })
      else .next ({ s with cipher := { s.cipher with lost := s.cipher.lost ++ [k.val] } }.record 0x0902 [k.val + 1]) := by
  show execKeySlotReload k ok s = _
  unfold execKeySlotReload
  dsimp only
  rw [hb]
  dsimp only
  rw [if_neg]
  rintro (full | lost | no | cut | old)
  · exact full empty
  · exact found (by simpa using lost)
  · simp [kek] at no
  · simp [there] at cut
  · omega

theorem execKeyEraseDue_of_since {k : Fin 4096} {w since : Nat} (hw : Tbl.find s.cipher.erasing k.val = some since) :
    exec (.keyEraseDue k w) s
      = if s.erasePermitted ∧ since + 1000000000 * s.cfg Obj.keyEraseS ≤ (s.tick w).store.eraseClock
        then .next { s.tick w with cipher := { s.cipher with erasing := Tbl.del s.cipher.erasing k.val } }
        else .next (s.tick w) := by
  show execKeyEraseDue k w s = _
  unfold execKeyEraseDue
  dsimp only
  rw [show Tbl.find (s.tick w).cipher.erasing k.val = some since from hw]
  rfl

/-- A Key Per I/O key of a tag that has none is taken in (R287). -/
def State.injected (s : State) (b : KeyBlob) : State :=
  State.countKpio { s with cipher := { s.cipher with kpio := s.cipher.kpio ++ [(b.target, b.keyTag, b.keyId)] } }

theorem State.kpioKey_injected_same {b : KeyBlob} (new : s.kpioKey b.target b.keyTag = none) :
    (s.injected b).kpioKey b.target b.keyTag = some b.keyId := by
  have new' := Option.map_eq_none_iff.mp new
  show ((s.cipher.kpio ++ [(b.target, b.keyTag, b.keyId)]).find? _).map _ = _
  rw [List.find?_append, new']
  simp

theorem State.kpioKey_injected_ne {b : KeyBlob} {n g : Nat} (ne : ¬ (n = b.target ∧ g = b.keyTag)) :
    (s.injected b).kpioKey n g = s.kpioKey n g := by
  show ((s.cipher.kpio ++ [(b.target, b.keyTag, b.keyId)]).find? _).map _ = _
  rw [List.find?_append, List.find?_singleton, if_neg ?_, Option.or_none]
  · rfl
  · intro is
    obtain ⟨rfl, rfl⟩ : b.target = n ∧ b.keyTag = g := by simpa using is
    exact ne ⟨rfl, rfl⟩

/-- What Key Status answers: four words a namespace (R287). -/
def State.keyStatus (s a : State) (f : Func) (nsid : Nat) : List Nat :=
  (s.store.ns.filter fun e => nsid ≤ e.1 && e.2.owner = s.portOfFn f).flatMap fun e =>
    [e.1, (a.keySlot (e.1 - 1)).kid, (a.keySlot (e.1 - 1)).kind, (a.keySlot (e.1 - 1)).origin]

/-- A blob that is refused changes no key, is counted, and its command ends with Invalid Field. -/
theorem State.refuseBlob_ends (starts : Starts s h a) {b : KeyBlob} (room : a.cfg Obj.unwrapFails < 2 ^ 32 - 1) :
    (((a.refuseBlob b).1).finish h (a.refuseBlob b).2).cfg Obj.unwrapFails = a.cfg Obj.unwrapFails + 1 ∧
      (((a.refuseBlob b).1).finish h (a.refuseBlob b).2).cipher = a.cipher ∧
      ∃ d, (((a.refuseBlob b).1).finish h (a.refuseBlob b).2).ctx? h = some d ∧ d.done = some ⟨⟨0, 2⟩, 0, 0⟩ := by
  obtain ⟨c, hc, open_⟩ := State.ctx_of_begin starts.1
  have top : Obj.unwrapFails.top = 2 ^ 32 - 1 := by decide
  refine ⟨?_, by simp [State.refuseBlob], State.ended_finish _ (c := c) ?_ open_⟩
  · rw [State.cfg_of_force (t := (a.refuseBlob b).1) (by simp)]
    unfold State.refuseBlob
    rw [State.cfg_record _ _ _ _ _ _ _ _ (by unfold ObjRow.other; decide) (by unfold ObjRow.other; decide),
      State.cfg_bump_same _ _ _ _ _ (by rw [top]; omega)]
  · rw [← hc]
    exact ctx_of_host (by simp [State.refuseBlob]) h

/-- A Key Per I/O key that is dropped is in no cell, and no other tag's key has changed. -/
theorem State.dropKpio_gone {nsid tag : Nat} : (a.dropKpio nsid tag).kpioKey nsid tag = none ∧
    (∀ n g, ¬ (n = nsid ∧ g = tag) → (a.dropKpio nsid tag).kpioKey n g = a.kpioKey n g) ∧
    ∀ e ∈ (a.dropKpio nsid tag).cells.cells, .kpio (nsid - 1) tag ∉ e.2.keys := by
  refine ⟨?_, fun n g other => ?_, fun e he hj => ?_⟩
  · unfold State.kpioKey
    rw [Option.map_eq_none_iff, List.find?_eq_none]
    intro e he is
    have kept := (List.mem_filter.mp he).2
    simp only [is, Bool.not_true, Bool.false_eq_true] at kept
  · unfold State.kpioKey State.dropKpio
    dsimp only
    rw [List.find?_filter]
    refine congrArg (Option.map _) (congrArg (fun p => List.find? p _) (funext fun e => ?_))
    by_cases is : e.1 = n ∧ e.2.1 = g
    · obtain ⟨rfl, rfl⟩ := is
      simpa [Decidable.imp_iff_not_or] using other
    · simpa using fun first second => absurd ⟨first, second⟩ is
  · simpa using State.mem_purgeKeys he hj

end

/-- Settles O34, the slots and caches first, then the key commands. -/
theorem keysAreKeptAndAccepted : Obligations.KeysAreKeptAndAccepted := by
  unfold Obligations.KeysAreKeptAndAccepted
  refine ⟨⟨fun k s q hq => ?_, fun c k ok1 ok2 s => ?_, fun k s => ?_⟩, fun h b i nsid s a starts fits => ⟨fun inst => ?_,
    fun manager => ?_⟩, fun h b nsid tag s a starts fits => ?_⟩
  · subst hq
    refine ⟨fun idle => if_neg (by simp [idle]), fun runs => if_pos runs, fun b hb empty found kek there gen => ⟨?_, ?_⟩,
      fun full ok => ?_, fun w since hw may => ⟨fun due => ?_, fun early => ?_⟩, fun w none_ => ?_⟩
    · rw [execKeySlotReload_of_blob hb empty found kek there gen]
      rfl
    · exact ⟨_, execKeySlotReload_of_blob hb empty found kek there gen, by simp, by simp⟩
    · show execKeySlotReload k ok s = _
      unfold execKeySlotReload
      dsimp only
      split
      · rfl
      · exact if_pos (.inl full)
    · rw [execKeyEraseDue_of_since hw, if_pos ⟨may, due⟩]
    · rw [execKeyEraseDue_of_since hw, if_neg fun is => absurd is.2 (by omega)]
    · cases hw : Tbl.find s.cipher.erasing k.val with
      | none =>
        show execKeyEraseDue k w s = _
        unfold execKeyEraseDue
        dsimp only
        rw [show Tbl.find (s.tick w).cipher.erasing k.val = none from hw]
      | some since =>
        rw [execKeyEraseDue_of_since hw, if_neg fun is => absurd is.1 ?_]
        simpa [hw] using none_
  · refine ⟨fun missing known live there => ⟨fun ok room => ?_, fun no1 no2 => ?_⟩, fun missing unknown => ?_, fun held => ?_⟩
    · have top : Obj.keyMisses.top = 2 ^ 64 - 1 := by decide
      refine ⟨_, (execKeyCacheFill_miss missing known live there).trans (if_pos ok), ?_⟩
      rw [show ∀ x : CellSt, (((s.setCell c.val x).bump Obj.keyMisses).cell c.val) = x from fun x => Tbl.get_set_same ..]
      obtain ⟨last, short, from_⟩ := latest_keys (s.cell c.val).keys k
      exact ⟨last, short, from_, State.cfg_bump_same _ _ _ _ _ (by rw [top]; exact room)⟩
    · refine ⟨_, (execKeyCacheFill_miss missing known live there).trans (if_neg (by simp [no1, no2])), ?_⟩
      obtain ⟨fenced, reason, -⟩ := s.fenceCell_facts c.val 5 c.isLt live (by decide)
      exact ⟨fenced, reason⟩
    · show execKeyCacheFill c k ok1 ok2 s = _
      unfold execKeyCacheFill
      dsimp only
      rw [if_neg (by simpa using missing), if_pos (.inl (by simp [unknown]))]
    · refine ⟨_, execKeyCacheFill_hit held, ?_⟩
      rw [show ∀ x : CellSt, ((s.setCell c.val x).cell c.val) = x from fun x => Tbl.get_set_same ..]
      refine ⟨by simp, fun j => ?_, rfl⟩
      by_cases is : j = k
      · simp [is, held]
      · simp [is]
  · refine ⟨fun e he j hj => ?_, ?_, ?_, fun kind origin id => ?_⟩
    · have kept : purgeSlot k (s.keySlot k).kid j = true := State.mem_purgeKeys he hj
      refine ⟨fun is => ?_, fun x y is => ?_⟩ <;> · subst is; simp [purgeSlot] at kept
    · rw [State.keySlot_destroyKey]
      rfl
    · rw [State.keySlot_destroyKey]
    · have is : (s.putKey k kind origin id).keySlot k = KeySlot.mk kind origin (((s.keySlot k).kid + 1) % 2 ^ 32) id 0
          (s.cfg Obj.ctrWindow) false := Tbl.get_set_same ..
      rw [is]
      exact ⟨rfl, rfl, rfl, rfl⟩
  · refine ⟨congrArg Host.Outcome.next ?_, ?_, ?_, congrArg Host.Outcome.next ?_, congrArg Host.Outcome.next ?_⟩
    · rw [State.keyRun_of_starts starts fits, if_neg (by simp [inst])]
      rfl
    · exact (State.keyStart_of_starts starts fits _ _).trans (congrArg _ (if_neg (by simp [inst])))
    · show execGenerateNamespaceKey h nsid s = _
      rw [execGenerateNamespaceKey, State.keyStart_of_starts starts fits, if_neg (by simp [inst])]
      rfl
    · rw [State.keyRun_of_starts starts fits, if_neg (by simp [inst])]
      rfl
    · rw [State.keyRun_of_starts starts fits, if_neg (by simp [inst])]
      rfl
  · have runs : ∀ len body, s.keyRun h len body = ((body a).1).finish h (body a).2 := fun len body => by
      rw [State.keyRun_of_starts starts fits, if_pos manager]
    have starts_ : ∀ len check go, s.keyStart h len check go = .next (match check a with
        | some (b, c) => b.finish h c
        | none => go a) := fun len check go => by
      rw [State.keyStart_of_starts starts fits, if_pos manager]
    refine ⟨fun refused room => ⟨?_, ?_⟩, fun good kind target => ?_, fun low => ?_, fun high => ?_, fun n there own good kind => ?_,
      fun n there => ⟨fun own => ⟨?_, ?_⟩, fun other => ⟨?_, ?_⟩⟩⟩
    · obtain ⟨count, cipher, d, hd, done⟩ := State.refuseBlob_ends starts (b := b) room
      refine ⟨_, d, congrArg Host.Outcome.next ((runs _ _).trans ?_), count, cipher, hd, done⟩
      rw [if_pos refused]
    · obtain ⟨count, cipher, d, hd, done⟩ := State.refuseBlob_ends starts (b := b) room
      refine ⟨_, d, (starts_ _ _ _).trans ?_, count, cipher, hd, done⟩
      rw [if_pos refused]
    · have ran : exec (.importTransportKek h b) s = .next (State.finish (State.tkekMap { a with cipher := { a.cipher with
          tkeks := Tbl.put a.cipher.tkeks b.target b.keyId
          tkekBlobs := Tbl.put a.cipher.tkekBlobs b.target b.keyId } }) h Cpl.ok) := by
        refine congrArg Host.Outcome.next ((runs _ _).trans ?_)
        rw [if_neg (by simp [good]), if_neg (by omega)]
      exact ⟨_, ran, Tbl.find_put_same .., rfl, fun j ne => Tbl.find_put_ne _ _ ne⟩
    · have ran : exec (.destroyTransportKek h i) s = .next (State.finish (State.tkekMap { a with cipher := { a.cipher with
          tkeks := Tbl.del a.cipher.tkeks i
          tkekBlobs := Tbl.del a.cipher.tkekBlobs i } }) h Cpl.ok) := by
        refine congrArg Host.Outcome.next ((runs _ _).trans ?_)
        rw [if_neg (by omega)]
      exact ⟨_, ran, Tbl.find_del_same .., fun j ne => Tbl.find_del_ne _ ne⟩
    · refine congrArg Host.Outcome.next ((runs _ _).trans ?_)
      rw [if_pos high]
      rfl
    · refine (starts_ _ _ _).trans ?_
      rw [if_neg (by simp [good]), State.ownNs_own there own]
      dsimp only
      rw [if_pos (show b.kind = n.keyKind from kind)]
    · show execGenerateNamespaceKey h nsid s = _
      rw [execGenerateNamespaceKey, starts_, State.ownNs_own there own]
      rfl
    · refine ⟨s.keyStatus a h.fn nsid, congrArg Host.Outcome.next ((runs _ _).trans ?_)⟩
      rw [State.ownNs_own there own, if_neg (by simp)]
      rfl
    · show execGenerateNamespaceKey h nsid s = _
      rw [execGenerateNamespaceKey, starts_, State.ownNs_other there other]
      rfl
    · refine congrArg Host.Outcome.next ((runs _ _).trans ?_)
      rw [State.ownNs_other there other, there, if_pos (by simp)]
      rfl
  · have runs : ∀ body, s.runData h b.length body = ((body a).1).finish h (body a).2 := fun body => by
      rw [State.runData, State.run_of_starts starts, State.buffered_of_none (fits _)]
    refine ⟨fun no => congrArg Host.Outcome.next ?_, fun may good bad => congrArg Host.Outcome.next ?_, fun may good kind wrap low room => ?_,
      fun may low => ?_, fun high => congrArg Host.Outcome.next ?_⟩
    · rw [runs, if_pos (by simp [no])]
      rfl
    · rw [runs, if_neg (by simp [may]), if_neg (by simp [good]), if_pos bad]
      rfl
    · obtain ⟨none_, others, cells⟩ := State.dropKpio_gone (a := a) (nsid := b.target) (tag := b.keyTag)
      have ran : exec (.keyPerIoInject h b) s = .next (State.finish ((a.dropKpio b.target b.keyTag).injected b) h Cpl.ok) := by
        refine congrArg Host.Outcome.next ((runs _).trans ?_)
        rw [if_neg (by simp [may]), if_neg (by simp [good]), if_neg (by omega), if_neg (by omega)]
        rfl
      refine ⟨_, ran, (State.kpioKey_injected_same none_).trans rfl, fun n g ne => (State.kpioKey_injected_ne ne).trans (others n g ne),
        cells, State.cfg_keep_same ..⟩
    · obtain ⟨none_, others, cells⟩ := State.dropKpio_gone (a := a) (nsid := nsid) (tag := tag)
      have ran : exec (.keyPerIoClear h nsid tag) s = .next (State.finish (a.dropKpio nsid tag).countKpio h Cpl.ok) := by
        refine congrArg Host.Outcome.next ((State.run_of_starts starts _).trans ?_)
        rw [if_neg (by simp [may]; omega)]
      exact ⟨_, ran, none_, others, cells⟩
    · rw [State.run_of_starts starts, if_pos (.inr high)]
      rfl

end Sys2Proof.Machine
end


section
/-! Digests follow their input (R290 to R305) -/
namespace Sys2Proof.Machine

/-- Whole blocks of a tail taken into a state, at most `n` of them. -/
def drainBy {η : Type} (size : Nat) (step : η → List Byte → η) : Nat → η → List Byte → η × List Byte
  | 0, h, tail => (h, tail)
  | n + 1, h, tail =>
    if size ≤ tail.length then drainBy size step n (step h (tail.take size)) (tail.drop size) else (h, tail)

section
variable {η : Type} {size : Nat} {step : η → List Byte → η}

/-- A tail below a block stays. -/
theorem drainBy_short {h : η} {tail : List Byte} (short : tail.length < size) (n : Nat) :
    drainBy size step n h tail = (h, tail) := by
  cases n with
  | zero => rfl
  | succ n => exact if_neg (by omega)

/-- More steps than whole blocks change nothing. -/
theorem drainBy_enough (pos : 0 < size) {h : η} {tail : List Byte} {n m : Nat} (hn : tail.length / size ≤ n)
    (hm : tail.length / size ≤ m) : drainBy size step n h tail = drainBy size step m h tail := by
  induction n generalizing h tail m with
  | zero =>
    have short : tail.length < size := (Nat.div_eq_zero_iff_lt pos).mp (Nat.le_zero.mp hn)
    rw [drainBy_short short, drainBy_short short]
  | succ n ih =>
    by_cases long : size ≤ tail.length
    · have less := Nat.div_eq_sub_div pos long
      rw [← List.length_drop] at less
      obtain ⟨m, rfl⟩ := Nat.exists_eq_succ_of_ne_zero (n := m) (Nat.ne_of_gt (Nat.lt_of_lt_of_le (Nat.succ_pos _) (less ▸ hm)))
      rw [drainBy, if_pos long, drainBy, if_pos long]
      exact ih (by omega) (by omega)
    · rw [drainBy_short (by omega), drainBy_short (by omega)]

/-- Blocks taken from one part of the input and then from the rest are those of the whole. -/
theorem drainBy_append (pos : 0 < size) {h : η} {a b : List Byte} {n m k : Nat} (hn : a.length / size ≤ n)
    (hk : (a ++ b).length / size ≤ k) (hm : ((drainBy size step n h a).2 ++ b).length / size ≤ m) :
    drainBy size step m (drainBy size step n h a).1 ((drainBy size step n h a).2 ++ b) = drainBy size step k h (a ++ b) := by
  induction n generalizing h a k with
  | zero => exact drainBy_enough pos hm hk
  | succ n ih =>
    by_cases long : size ≤ a.length
    · have more : size ≤ (a ++ b).length := by rw [List.length_append]; omega
      have less := Nat.div_eq_sub_div pos long
      have both := Nat.div_eq_sub_div pos more
      rw [← List.length_drop] at less both
      obtain ⟨k, rfl⟩ := Nat.exists_eq_succ_of_ne_zero (n := k) (Nat.ne_of_gt (Nat.lt_of_lt_of_le (Nat.succ_pos _) (both ▸ hk)))
      rw [drainBy, if_pos long] at hm ⊢
      rw [drainBy, if_pos more, List.take_append_of_le_length long, List.drop_append_of_le_length long]
      rw [List.drop_append_of_le_length long] at both
      exact ih (by omega) (by omega) hm
    · rw [drainBy_short (n := n + 1) (by omega)] at hm ⊢
      exact drainBy_enough pos hm hk

end

/-- The drained context of either kind, by its chaining words and its tail. -/
theorem DigestCtx.drain_eq (d : DigestCtx) (n : Nat) : d.drain n = { d with
    h := (drainBy 64 (fun h b => sha256Block h (beWords b)) n d.h d.tail).1
    tail := (drainBy 64 (fun h b => sha256Block h (beWords b)) n d.h d.tail).2 } := by
  induction n generalizing d with
  | zero => rfl
  | succ n ih =>
    rw [DigestCtx.drain, drainBy]
    split
    · rw [ih]
    · rfl

theorem Digest512.drain_eq (d : Digest512) (n : Nat) : d.drain n = { d with
    h := (drainBy 128 (fun h b => sha512Block h (beWords64 b)) n d.h d.tail).1
    tail := (drainBy 128 (fun h b => sha512Block h (beWords64 b)) n d.h d.tail).2 } := by
  induction n generalizing d with
  | zero => rfl
  | succ n ih =>
    rw [Digest512.drain, drainBy]
    split
    · rw [ih]
    · rfl

/-- However a message is cut, the context is the same. -/
theorem DigestCtx.feed_feed (d : DigestCtx) (a b : List Byte) : (d.feed a).feed b = d.feed (a ++ b) := by
  unfold DigestCtx.feed
  simp only [DigestCtx.drain_eq]
  have whole := drainBy_append (size := 64) (step := fun h b => sha256Block h (beWords b)) (by omega) (h := d.h) (a := d.tail ++ a)
    (b := b) (n := (d.tail.length + a.length) / 64) (k := (d.tail.length + (a ++ b).length) / 64) (by simp)
    (by simp) (Nat.le_refl _)
  rw [List.length_append] at whole
  rw [whole, List.append_assoc, List.length_append, Nat.add_assoc]

theorem Digest512.feed_feed (d : Digest512) (a b : List Byte) : (d.feed a).feed b = d.feed (a ++ b) := by
  unfold Digest512.feed
  simp only [Digest512.drain_eq]
  have whole := drainBy_append (size := 128) (step := fun h b => sha512Block h (beWords64 b)) (by omega) (h := d.h)
    (a := d.tail ++ a) (b := b) (n := (d.tail.length + a.length) / 128) (k := (d.tail.length + (a ++ b).length) / 128) (by simp)
    (by simp) (Nat.le_refl _)
  rw [List.length_append] at whole
  rw [whole, List.append_assoc, List.length_append, Nat.add_assoc]

theorem DigestRun.feed_feed (r : DigestRun) (a b : List Byte) : (r.feed a).feed b = r.feed (a ++ b) := by
  cases r with
  | short c => exact congrArg DigestRun.short (c.feed_feed a b)
  | long c => exact congrArg DigestRun.long (c.feed_feed a b)

theorem DigestRun.count_feed (r : DigestRun) (a : List Byte) : (r.feed a).count = r.count + a.length := by
  cases r with
  | short c => exact congrArg DigestCtx.count (DigestCtx.drain_eq _ _)
  | long c => exact congrArg Digest512.count (Digest512.drain_eq _ _)

@[simp] theorem DigestRun.count_fresh (alg : Nat) : (DigestRun.fresh alg).count = 0 := by
  unfold DigestRun.fresh
  split <;> rfl

theorem length_drainBy {α : Type} {size : Nat} {step : List α → List Byte → List α}
    (keeps : ∀ h b, (step h b).length ≤ h.length) (n : Nat) (h : List α) (tail : List Byte) :
    (drainBy size step n h tail).1.length ≤ h.length := by
  induction n generalizing h tail with
  | zero => exact Nat.le_refl _
  | succ n ih =>
    rw [drainBy]
    split
    · exact Nat.le_trans (ih _ _) (keeps _ _)
    · exact Nat.le_refl _

@[simp] theorem length_bytesBE (n v : Nat) : (bytesBE n v).length = n := by simp [bytesBE, bytesLE]

/-- The chaining words of SHA-256 are never more than they were. -/
theorem DigestCtx.feed_words (d : DigestCtx) (a : List Byte) : (d.feed a).h.length ≤ d.h.length := by
  unfold DigestCtx.feed
  rw [DigestCtx.drain_eq]
  exact length_drainBy (fun h b => by rw [sha256Block, List.length_zipWith]; exact Nat.min_le_left _ _) _ _ _

theorem DigestCtx.length_finish (d : DigestCtx) : d.finish.length ≤ 4 * d.h.length := by
  have words := d.feed_words ([0x80#8] ++ List.replicate ((55 + 64 - d.count % 64) % 64) 0#8 ++ bytesBE 8 (8 * d.count))
  unfold DigestCtx.finish
  simp only [List.length_flatMap, length_bytesBE, sum_map_const]
  omega

theorem length_hashOf (alg : Nat) (m : List Byte) : (hashOf alg m).length ≤ 64 := by
  unfold hashOf DigestRun.fresh
  split
  · have long := (DigestCtx.fresh.feed m).length_finish
    have words := DigestCtx.fresh.feed_words m
    have eight : DigestCtx.fresh.h.length = 8 := rfl
    show (DigestCtx.fresh.feed m).finish.length ≤ 64
    omega
  · refine Nat.le_trans (List.length_take_le _ _) ?_
    unfold algOut
    split
    · omega
    · split <;> omega

/-- A key is padded to a block. -/
theorem length_padKey (alg : Nat) (key : List Byte) : (padKey alg key).length ≤ 128 := by
  have hash := length_hashOf alg key
  have block : algBlock alg = 64 ∨ algBlock alg = 128 := by
    unfold algBlock
    split <;> simp
  unfold padKey
  simp only [List.length_append, List.length_replicate]
  split <;> omega

section
variable {s : State} {k : DigestCore} {n : Nat}

@[simp] theorem State.digestCore_setDigest_same {x : DigestSt} : (s.setDigest n x).digestCore n = x := Tbl.get_set_same ..

theorem State.digestCore_setDigest_ne {x : DigestSt} {j : Nat} (ne : j ≠ n) : (s.setDigest n x).digestCore j = s.digestCore j :=
  Tbl.get_set_ne _ _ _ _ ne

theorem State.atDigest_up (up : s.digestUp (DigestCore_num k) = true) (go : Nat → State) :
    s.atDigest k go = .next (go (DigestCore_num k)) := by
  rw [State.atDigest, if_pos up]

theorem State.atDigest_down (down : s.digestUp (DigestCore_num k) = false) (go : Nat → State) : s.atDigest k go = .next s := by
  rw [State.atDigest, if_neg (by simp [down])]

theorem State.setDigest_engines {x : DigestSt} : s.setDigest n x = { s with engines := (s.setDigest n x).engines } := rfl

/-- The context that a START leaves: for HMAC the inner pad is in it. -/
def startRun (alg : Nat) : Option (List Byte) → DigestRun
  | some p => (DigestRun.fresh alg).feed (p.map (· ^^^ 0x36#8))
  | none => DigestRun.fresh alg

/-- A core that has been started. -/
def DigestSt.started (x : DigestSt) (alg : Nat) (key : Option (List Byte)) : DigestSt :=
  { x with alg := alg, key := key, run := startRun alg key, result := none, zgen := 0, pair := ⟨0, 0⟩, error := 0 }

theorem execDigestStart_of_key (up : s.digestUp (DigestCore_num k) = true) {alg : Nat} (low : 1 ≤ alg) (high : alg ≤ 3)
    (key : Option (List Byte)) : exec (.digestStart k alg key.isSome key) s
      = .next (s.setDigest (DigestCore_num k) ((s.digestCore (DigestCore_num k)).started alg (key.map (padKey alg)))) := by
  show execDigestStart k alg key.isSome key s = _
  unfold execDigestStart
  rw [State.atDigest_up up]
  dsimp only
  rw [if_neg (by omega), if_neg (by cases key <;> simp)]
  cases key <;> rfl

theorem execDigestFeed_of_open (up : s.digestUp (DigestCore_num k) = true) {x : DigestSt} (hx : s.digestCore (DigestCore_num k) = x)
    (open_ : x.result = none) {b : List Byte} (fits : x.run.count + b.length ≤ algLimit x.alg) :
    exec (.digestFeed k b) s = .next (s.setDigest (DigestCore_num k) { x with run := x.run.feed b }) := by
  subst hx
  show execDigestFeed k b s = _
  unfold execDigestFeed
  rw [State.atDigest_up up]
  dsimp only
  rw [if_neg (by simp [open_]), if_neg (by omega)]

theorem execDigestFinish_of_open (up : s.digestUp (DigestCore_num k) = true) {x : DigestSt}
    (hx : s.digestCore (DigestCore_num k) = x) (open_ : x.result = none) :
    exec (.digestFinish k) s = .next (s.setDigest (DigestCore_num k) { x with result := some x.value }) := by
  subst hx
  show execDigestFinish k s = _
  unfold execDigestFinish
  rw [State.atDigest_up up]
  dsimp only
  rw [if_neg (by simp [open_])]

theorem State.digestUp_of_force {t : State} (force : s.dict.force = t.dict.force) : s.digestUp n = t.digestUp n := by
  unfold State.digestUp State.blockLost State.cellRole
  rw [State.cfg_of_force force Obj.domainsFailed, State.cfg_of_force force Obj.cellRole]

/-- A message in two parts is hashed as one, under the key where there is one. -/
theorem digestCore_hashes (up : s.digestUp (DigestCore_num k) = true) {alg : Nat} (low : 1 ≤ alg) (high : alg ≤ 3)
    (key : Option (List Byte)) {a b : List Byte} (short : a.length + b.length < 2 ^ 60) : ∃ s1 s2 s3 t,
    exec (.digestStart k alg key.isSome key) s = .next s1 ∧ exec (.digestFeed k a) s1 = .next s2 ∧
    exec (.digestFeed k b) s2 = .next s3 ∧ exec (.digestFinish k) s3 = .next t ∧
    (t.digestCore (DigestCore_num k)).result = some ((({ (s.digestCore (DigestCore_num k)).started alg (key.map (padKey alg)) with
      run := (startRun alg (key.map (padKey alg))).feed (a ++ b) }) : DigestSt).value) ∧
    (∀ j, j ≠ DigestCore_num k → t.digestCore j = s.digestCore j) ∧ t = { s with engines := t.engines } := by
  have limit : 2 ^ 60 + 128 ≤ algLimit alg := by
    unfold algLimit
    split <;> decide
  have begun : (startRun alg (key.map (padKey alg))).count ≤ 128 := by
    cases key with
    | none => simp [startRun]
    | some q => simpa [startRun, DigestRun.count_feed] using length_padKey alg q
  obtain ⟨x, hx⟩ : ∃ x, x = (s.digestCore (DigestCore_num k)).started alg (key.map (padKey alg)) := ⟨_, rfl⟩
  have started := execDigestStart_of_key up low high key
  have alg_ : x.alg = alg := by rw [hx]; rfl
  have run_ : x.run = startRun alg (key.map (padKey alg)) := by rw [hx]; rfl
  have none_ : x.result = none := by rw [hx]; rfl
  rw [← run_] at begun
  rw [← run_, ← hx]
  rw [← hx] at started
  have up' : ∀ y, (s.setDigest (DigestCore_num k) y).digestUp (DigestCore_num k) = true := fun y =>
    (State.digestUp_of_force rfl).trans up
  have first := execDigestFeed_of_open (s := s.setDigest (DigestCore_num k) x) (k := k) (b := a) (up' x)
    State.digestCore_setDigest_same none_ (by rw [alg_]; omega)
  have second := execDigestFeed_of_open (s := (s.setDigest (DigestCore_num k) x).setDigest (DigestCore_num k)
      { x with run := x.run.feed a }) (k := k) (b := b) ((State.digestUp_of_force rfl).trans up)
    State.digestCore_setDigest_same none_ (by rw [DigestRun.count_feed, alg_]; omega)
  have last := execDigestFinish_of_open (s := ((s.setDigest (DigestCore_num k) x).setDigest (DigestCore_num k)
      { x with run := x.run.feed a }).setDigest (DigestCore_num k) { x with run := (x.run.feed a).feed b }) (k := k)
    ((State.digestUp_of_force rfl).trans up) State.digestCore_setDigest_same none_
  refine ⟨_, _, _, _, started, first, second, last, ?_, fun j ne => ?_, rfl⟩
  · rw [State.digestCore_setDigest_same, DigestRun.feed_feed]
  · rw [State.digestCore_setDigest_ne ne, State.digestCore_setDigest_ne ne, State.digestCore_setDigest_ne ne,
      State.digestCore_setDigest_ne ne]

/-- An error sets the code of its core, counted; misuse is met by cell cores alone. -/
theorem State.digestError_island {code : Nat} (island : 96 ≤ n) :
    s.digestError n code = (s.setDigest n { s.digestCore n with error := code }).countDigestError code := by
  unfold State.digestError
  dsimp only
  split
  · exact if_pos island
  · rfl

theorem State.countDigestError_core {code : Nat} : (s.countDigestError code).digestCore n = s.digestCore n := rfl

/-- A misused core that is of the island, or had not been misused: its item alone is posted again. -/
theorem State.misused_calm (calm : 96 ≤ n ∨ (s.digestCore n).misuse = 0) : (s.misused n).dict = s.dict ∧
    ((s.misused n).digestCore n).lastRead = (s.digestCore n).lastRead := by
  unfold State.misused
  dsimp only
  split
  · exact ⟨rfl, rfl⟩
  · rw [if_neg (by omega)]
    split
    · refine ⟨by simp [State.setDigest, State.setCell], ?_⟩
      have kept : ∀ (a : State) (y : CellSt) (w : WorkItem), ((a.setCell n y).repostAfterFault w).digestCore n = a.digestCore n :=
        fun a y w => by simp [State.digestCore, State.setCell]
      rw [kept, State.digestCore_setDigest_same]
    · refine ⟨rfl, ?_⟩
      rw [State.digestCore_setDigest_same]

/-- A misused core changes no object but those of its cell's fence. -/
theorem State.cfg_misused {q : ObjRow} (dropped : q.other 0 0 Obj.dropped) (suppressed : q.other 0 0 Obj.suppressedTotal)
    (apart : ∀ c < 96, q.key 0 0 ≠ Obj.cellRole.key c 0 ∧ q.key 0 0 ≠ Obj.fenceReason.key c 0 ∧ q.key 0 0 ≠ Obj.fenceCount.key c 0) :
    (s.misused n).cfg q = s.cfg q := by
  unfold State.misused
  dsimp only
  split
  · rfl
  · obtain ⟨role, reason, count⟩ := apart n (by omega)
    split
    · exact State.cfg_fenceCell_ne dropped suppressed role reason count
    · split
      · exact State.cfg_of_force (by simp [State.setDigest, State.setCell]) _ _ _
      · rfl

theorem State.cfg_digestError {q : ObjRow} {code : Nat} (dropped : q.other 0 0 Obj.dropped)
    (suppressed : q.other 0 0 Obj.suppressedTotal) (errors : q.key 0 0 ≠ Obj.digestErrors.key 0 0)
    (apart : ∀ c < 96, q.key 0 0 ≠ Obj.cellRole.key c 0 ∧ q.key 0 0 ≠ Obj.fenceReason.key c 0 ∧ q.key 0 0 ≠ Obj.fenceCount.key c 0) :
    (s.digestError n code).cfg q = s.cfg q := by
  have counted : ((s.setDigest n { s.digestCore n with error := code }).countDigestError code).cfg q = s.cfg q :=
    State.cfg_keep_ne _ _ _ _ _ _ _ _ errors
  unfold State.digestError
  dsimp only
  split
  · exact (State.cfg_misused dropped suppressed apart).trans counted
  · exact counted

/-- Code 1 is counted in the lowest 32 bits. -/
theorem State.countDigestError_one : (s.countDigestError 1).cfg Obj.digestErrors % 2 ^ 32
    = (s.cfg Obj.digestErrors % 2 ^ 32 + 1) % 2 ^ 32 := by
  unfold State.countDigestError
  rw [State.cfg_keep_same]
  generalize s.cfg Obj.digestErrors = v
  simp only [Nat.sub_self, Nat.mul_zero, Nat.pow_zero, Nat.div_one, Nat.mul_one]
  omega

/-- A pair that neither matches nor fails to is a fault, counted. -/
theorem State.judgePair_fault (room : s.cfg Obj.compareFaults < 2 ^ 32 - 1) :
    (s.judgePair n ⟨0, 0⟩).cfg Obj.compareFaults = s.cfg Obj.compareFaults + 1 := by
  have top : Obj.compareFaults.top = 2 ^ 32 - 1 := by decide
  unfold State.judgePair
  rw [if_neg (by decide), State.cfg_record _ _ _ _ _ _ _ _ (by unfold ObjRow.other; decide) (by unfold ObjRow.other; decide),
    State.cfg_bump_same _ _ _ _ _ (by rw [top]; omega)]

theorem compareBytes_full {r e : List Byte} : compareBytes r e e.length = if r.take e.length = e then ⟨0x5A#8, 0xA5#8⟩
    else ⟨0xA5#8, 0x5A#8⟩ := by
  simp [compareBytes]

theorem State.digestError_core {code : Nat} (island : 96 ≤ n) :
    (s.digestError n code).digestCore n = { s.digestCore n with error := code } := by
  rw [State.digestError_island island, State.countDigestError_core, State.digestCore_setDigest_same]

theorem State.digestError_calm (calm : 96 ≤ n ∨ (s.digestCore n).misuse = 0) :
    ((s.digestError n 1).digestCore n).lastRead = (s.digestCore n).lastRead ∧
      (s.digestError n 1).cfg Obj.digestErrors % 2 ^ 32 = (s.cfg Obj.digestErrors % 2 ^ 32 + 1) % 2 ^ 32 := by
  obtain ⟨dict, lastRead⟩ := State.misused_calm
    (s := (s.setDigest n { s.digestCore n with error := 1 }).countDigestError 1) (n := n)
    (by rw [State.countDigestError_core, State.digestCore_setDigest_same]; exact calm)
  have is : s.digestError n 1 = ((s.setDigest n { s.digestCore n with error := 1 }).countDigestError 1).misused n :=
    by simp [State.digestError]
  rw [is]
  refine ⟨lastRead.trans (by rw [State.countDigestError_core, State.digestCore_setDigest_same]), ?_⟩
  rw [State.cfg_of_force (congrArg (·.force) dict)]
  exact State.countDigestError_one

end

theorem execDigestRead_of_result {s : State} {k : DigestCore} {r : List Byte} (up : s.digestUp (DigestCore_num k) = true)
    (hr : (s.digestCore (DigestCore_num k)).result = some r) : exec (.digestRead k) s
      = .next (s.setDigest (DigestCore_num k) { s.digestCore (DigestCore_num k) with lastRead := r }) := by
  show execDigestRead k s = _
  unfold execDigestRead
  rw [State.atDigest_up up]
  dsimp only
  rw [hr]

theorem execDigestSave_of_short {s : State} {k : DigestCore} {nsid z : Nat} {n : Ns} {c : DigestCtx}
    (up : s.digestUp (DigestCore_num k) = true) (open_ : (s.digestCore (DigestCore_num k)).result = none)
    (run : (s.digestCore (DigestCore_num k)).run = .short c) (there : s.ns? nsid = some n) : exec (.digestSave k nsid z) s
      = if (n.zone z).zgen = (s.digestCore (DigestCore_num k)).zgen
        then .next (s.setNs nsid (n.setZone z { n.zone z with dctx := some c })) else .next (s.bump Obj.staleSaves) := by
  show execDigestSave k nsid z s = _
  unfold execDigestSave
  rw [State.atDigest_up up]
  dsimp only
  rw [if_neg (by simp [open_]), run, there]
  exact apply_ite Host.Outcome.next ..

theorem execDigestRestore_of_ns {s : State} {k : DigestCore} {nsid z : Nat} {n : Ns} {d : SavedDigest}
    (up : s.digestUp (DigestCore_num k) = true) (there : s.ns? nsid = some n) : exec (.digestRestore k nsid z d) s
      = if d.crcOk = true ∧ d.format = 1 ∧ d.alg = 1 ∧ d.zgen = (n.zone z).zgen
        then .next (s.setDigest (DigestCore_num k) { s.digestCore (DigestCore_num k) with
          alg := 1, key := none, run := .short (SavedDigest_ctx d), result := none, zgen := d.zgen, pair := ⟨0, 0⟩, error := 0 })
        else .next ((s.digestError (DigestCore_num k) 4).spoilDigest nsid z 3) := by
  show execDigestRestore k nsid z d s = _
  unfold execDigestRestore
  rw [State.atDigest_up up]
  dsimp only
  rw [there]
  exact apply_ite Host.Outcome.next ..

/-- A digest that is spoilt: INVALID, under the next generation. -/
theorem State.spoilDigest_zone {s : State} {nsid z cause : Nat} {n : Ns} (there : s.ns? nsid = some n)
    (digest : n.word.digest = true) (valid : (n.zone z).dstate ≠ .invalid) : ∃ m, (s.spoilDigest nsid z cause).ns? nsid = some m ∧
      (m.zone z).dstate = .invalid ∧ (m.zone z).dctx = none ∧ (m.zone z).zgen = ((n.zone z).zgen + 1) % 2 ^ 16 ∧
      (m.zone z).wp = (n.zone z).wp := by
  unfold State.spoilDigest
  rw [there]
  dsimp only
  rw [if_pos ⟨digest, valid⟩]
  refine ⟨n.setZone z { n.zone z with dstate := .invalid, dctx := none, digest := 0, zgen := ((n.zone z).zgen + 1) % 2 ^ 16 },
    ?_, ?_⟩
  · simp [State.ns?, State.setNs, Tbl.find_put_same]
  · simp [Ns.zone_setZone_same]

theorem State.digestError_four {s : State} {n : Nat} : (∀ i, (s.digestError n 4).ns? i = s.ns? i) ∧
    (s.digestError n 4).digestCore n = { s.digestCore n with error := 4 } := by
  have is : s.digestError n 4 = (s.setDigest n { s.digestCore n with error := 4 }).countDigestError 4 := by
    unfold State.digestError
    exact if_neg (by decide)
  rw [is, State.countDigestError_core, State.digestCore_setDigest_same]
  exact ⟨fun i => by simp [State.ns?, State.setDigest], rfl⟩

theorem State.digestCore_spoilDigest {s : State} {n i z c : Nat} : (s.spoilDigest i z c).digestCore n = s.digestCore n := by
  simp [State.digestCore]

/-- Settles O35, the hashes first, then each operation of a core. -/
theorem digestsFollowTheirInput : Obligations.DigestsFollowTheirInput := by
  unfold Obligations.DigestsFollowTheirInput
  refine ⟨⟨fun alg a b low high => DigestRun.feed_feed _ a b, fun k alg key a b s low high up short => ?_, fun k s down b => ?_,
    fun k s x hx up => ⟨fun r hr => ⟨?_, fun e l some_ fits same => ?_⟩, fun open_ => ⟨fun calm => ?_, fun e l room => ?_⟩,
      fun island => ⟨fun alg h key bad => ?_, fun alg low high => ?_, fun done => ⟨fun b => ?_, ?_⟩⟩⟩⟩,
    fun k nsid z s n x there hx up => ⟨fun c open_ run => ⟨fun same => ?_, fun other room => ?_⟩, fun d good => ?_,
      fun d bad digest valid => ?_⟩⟩
  · obtain ⟨s1, s2, s3, t, e1, e2, e3, e4, result, rest⟩ := digestCore_hashes up low high key short
    refine ⟨s1, s2, s3, t, e1, e2, e3, e4, result.trans (congrArg some ?_), rest⟩
    cases key with
    | none => simp only [DigestSt.value, DigestSt.started, startRun, Option.map_none, hashOf]
    | some q =>
      simp only [DigestSt.value, DigestSt.started, startRun, Option.map_some, DigestRun.feed_feed, hashOf]
  · refine ⟨?_, ?_, ?_⟩
    · show execDigestFeed k b s = _
      rw [execDigestFeed, State.atDigest_down down]
    · show execDigestFinish k s = _
      rw [execDigestFinish, State.atDigest_down down]
    · show execDigestRead k s = _
      rw [execDigestRead, State.atDigest_down down]
  · subst hx
    refine ⟨_, execDigestRead_of_result up hr, ?_, rfl⟩
    rw [State.digestCore_setDigest_same]
  · subst hx same
    have ran : exec (.digestCompare k e e.length) s = .next (s.setDigest (DigestCore_num k)
        { s.digestCore (DigestCore_num k) with pair := compareBytes r e e.length }) := by
      show execDigestCompare k e e.length s = _
      unfold execDigestCompare
      rw [State.atDigest_up up]
      dsimp only
      rw [hr]
      exact congrArg Host.Outcome.next (if_neg (by omega))
    refine ⟨_, ran, ?_, ?_⟩
    · rw [State.digestCore_setDigest_same, ← compareBytes_full]
    · rw [State.digestCore_setDigest_same, hr]
  · subst hx
    have ran : exec (.digestRead k) s = .next ((s.setDigest (DigestCore_num k) { s.digestCore (DigestCore_num k) with
        lastRead := List.replicate (algOut (s.digestCore (DigestCore_num k)).alg) 0#8 }).digestError (DigestCore_num k) 1) := by
      show execDigestRead k s = _
      unfold execDigestRead
      rw [State.atDigest_up up]
      dsimp only
      rw [open_]
    refine ⟨_, ran, ?_⟩
    obtain ⟨lastRead, count⟩ := State.digestError_calm (s := s.setDigest (DigestCore_num k) { s.digestCore (DigestCore_num k) with
      lastRead := List.replicate (algOut (s.digestCore (DigestCore_num k)).alg) 0#8 }) (n := DigestCore_num k)
      (by rw [State.digestCore_setDigest_same]; exact calm)
    rw [State.digestCore_setDigest_same] at lastRead
    exact ⟨lastRead, count⟩
  · subst hx
    have ran : exec (.digestCompare k e l) s = .next (((s.setDigest (DigestCore_num k) { s.digestCore (DigestCore_num k) with
        pair := ⟨0, 0⟩ }).digestError (DigestCore_num k) 1).judgePair (DigestCore_num k) ⟨0, 0⟩) := by
      show execDigestCompare k e l s = _
      unfold execDigestCompare
      rw [State.atDigest_up up]
      dsimp only
      rw [open_]
    have before : ((s.setDigest (DigestCore_num k) { s.digestCore (DigestCore_num k) with pair := ⟨0, 0⟩ }).digestError
        (DigestCore_num k) 1).cfg Obj.compareFaults = s.cfg Obj.compareFaults :=
      State.cfg_digestError (by unfold ObjRow.other; decide) (by unfold ObjRow.other; decide) (by decide) fun c hc => by
        simp only [ObjRow.key, Obj.compareFaults, Obj.cellRole, Obj.fenceReason, Obj.fenceCount]
        omega
    refine ⟨_, ran, ?_⟩
    rw [State.judgePair_fault (by rw [before]; exact room), before]
  · subst hx
    have ran : exec (.digestStart k alg h key) s = .next (s.digestError (DigestCore_num k) 6) := by
      show execDigestStart k alg h key s = _
      rw [execDigestStart, State.atDigest_up up, if_pos bad]
    exact ⟨_, ran, State.digestError_core island⟩
  · subst hx
    have ran : exec (.digestStart k alg true none) s = .next (s.digestError (DigestCore_num k) 5) := by
      show execDigestStart k alg true none s = _
      rw [execDigestStart, State.atDigest_up up, if_neg (by omega), if_pos (by simp)]
    exact ⟨_, ran, State.digestError_core island⟩
  · subst hx
    have ran : exec (.digestFeed k b) s = .next (s.digestError (DigestCore_num k) 2) := by
      show execDigestFeed k b s = _
      unfold execDigestFeed
      rw [State.atDigest_up up]
      exact congrArg Host.Outcome.next (if_pos (Option.isSome_iff_ne_none.mpr done))
    exact ⟨_, ran, State.digestError_core island⟩
  · subst hx
    have ran : exec (.digestFinish k) s = .next (s.digestError (DigestCore_num k) 2) := by
      show execDigestFinish k s = _
      unfold execDigestFinish
      rw [State.atDigest_up up]
      exact congrArg Host.Outcome.next (if_pos (Option.isSome_iff_ne_none.mpr done))
    exact ⟨_, ran, State.digestError_core island⟩
  · subst hx
    have ran : exec (.digestSave k nsid z) s = .next (s.setNs nsid (n.setZone z { n.zone z with dctx := some c })) := by
      rw [execDigestSave_of_short up open_ run there, if_pos same.symm]
    refine ⟨_, _, ran, State.ns_setNs_same .., Ns.zone_setZone_same .., fun v ne => Ns.zone_setZone_ne _ _ ne, rfl, rfl⟩
  · subst hx
    have top : Obj.staleSaves.top = 2 ^ 32 - 1 := by decide
    have ran : exec (.digestSave k nsid z) s = .next (s.bump Obj.staleSaves) := by
      rw [execDigestSave_of_short up open_ run there, if_neg (Ne.symm other)]
    exact ⟨_, ran, State.cfg_bump_same _ _ _ _ _ (by rw [top]; omega), rfl⟩
  · refine ⟨_, _, (execDigestRestore_of_ns up there).trans (if_pos good), rfl, ?_⟩
    rw [State.digestCore_setDigest_same]
    exact ⟨rfl, rfl, rfl, rfl, rfl⟩
  · subst hx
    obtain ⟨m, hm, dstate, dctx, zgen, wp⟩ := State.spoilDigest_zone (s := s.digestError (DigestCore_num k) 4) (cause := 3)
      ((State.digestError_four.1 nsid).trans there) digest valid
    refine ⟨_, m, (execDigestRestore_of_ns up there).trans (if_neg bad), hm, ?_⟩
    have core : ((s.digestError (DigestCore_num k) 4).spoilDigest nsid z 3).digestCore (DigestCore_num k)
        = { s.digestCore (DigestCore_num k) with error := 4 } :=
      State.digestCore_spoilDigest.trans State.digestError_four.2
    exact ⟨dstate, dctx, zgen, wp, by rw [core], by rw [core]⟩

end Sys2Proof.Machine
end


section
/-! Shuttle moves and stops (R306 to R319) -/
namespace Sys2Proof.Machine

section
variable {s : State} {c : ShuttleId} {x : ShuttleSt}

@[simp] theorem State.shuttle_setShuttle : (s.setShuttle c x).shuttle c = x := Tbl.get_set_same ..

/-- A completion record, where one is written. -/
def recordOf (c : ShuttleId) (x : ShuttleSt) (index tag : Nat) : List Out :=
  if x.recordAddr ≠ 0 then [.shuttleRecord c.port c.ch.val x.recordAddr
    [(0, x.seq + 1), (108, x.state), (112, index), (128, x.errCode), (160, tag), (192, x.bytes)]] else []

/-- A record changes of its channel the sequence number alone. -/
theorem State.shuttleRecord_shuttle {i tag : Nat} : ∃ n, (s.shuttleRecord c i tag).shuttle c = { s.shuttle c with seq := n } := by
  unfold State.shuttleRecord
  dsimp only
  split
  · exact ⟨_, rfl⟩
  · exact ⟨_, Tbl.get_set_same ..⟩

theorem State.shuttleRecord_out {i tag : Nat} : (s.shuttleRecord c i tag).out = s.out ++ recordOf c (s.shuttle c) i tag := by
  unfold State.shuttleRecord recordOf
  dsimp only
  split
  next none_ => simp [none_]
  · rfl

/-- A halted channel: its state, code and index, and all else but its record's number as before. -/
theorem State.haltShuttle_shuttle {code i : Nat} : ∃ n, (s.haltShuttle c code i).shuttle c
    = { s.shuttle c with state := 5, errCode := code, errIndex := i, seq := n } := by
  obtain ⟨n, is⟩ := State.shuttleRecord_shuttle (s := (s.setShuttle c { s.shuttle c with
    state := 5, errCode := code, errIndex := i }).bump Obj.shuttleHalts) (c := c) (i := i) (tag := (s.shuttle c).desc.elim 0 (·.tag))
  refine ⟨n, is.trans ?_⟩
  rw [show ∀ a : State, (a.bump Obj.shuttleHalts).shuttle c = a.shuttle c from fun a => rfl, State.shuttle_setShuttle]

theorem State.setShuttle_descBad {p : Port} {d : ShuttleDesc} : (s.setShuttle c x).descBad p d = s.descBad p d := rfl

/-- So many bytes of a descriptor have moved. -/
theorem State.moved_shuttle {d : ShuttleDesc} {n : Nat} {bs : List Byte} : (s.moved c d n bs).shuttle c
    = { s.shuttle c with
        curSrc := (s.shuttle c).curSrc + n, curDst := (s.shuttle c).curDst + n, remain := (s.shuttle c).remain - n
        bytes := (s.shuttle c).bytes + n } :=
  Tbl.get_set_same ..

/-- Bytes for the host's memory are sent. -/
theorem State.moved_out {d : ShuttleDesc} {n : Nat} {bs : List Byte} (host : d.dstSpace = 0) : (s.moved c d n bs).out
    = s.out ++ [.shuttleWrite c.port c.ch.val (s.shuttle c).curDst (s.sourceBytes (s.shuttle c) d n bs)] := by
  unfold State.moved State.landBytes
  dsimp only
  rw [if_pos host, if_neg (by simp [host])]
  rfl

theorem ShuttleSt.look_state (x : ShuttleSt) : x.look.state = if x.head = x.tail then 1 else if x.paused then 4 else 2 := by
  unfold ShuttleSt.look
  split
  · rfl
  · split <;> rfl

theorem ShuttleSt.look_kept (x : ShuttleSt) : x.look.head = x.head ∧ x.look.tail = x.tail ∧ x.look.bytes = x.bytes ∧
    x.look.recordAddr = x.recordAddr ∧ x.look.seq = x.seq ∧ x.look.errCode = x.errCode ∧ (x.desc = none → x.look.desc = none) := by
  unfold ShuttleSt.look
  split
  · exact ⟨rfl, rfl, rfl, rfl, rfl, rfl, id⟩
  · split <;> exact ⟨rfl, rfl, rfl, rfl, rfl, rfl, fun _ => rfl⟩

theorem State.setShuttle_engines : s.setShuttle c x = { s with engines := (s.setShuttle c x).engines } := rfl

/-- A descriptor has been taken for its move. -/
def State.taken (s : State) (c : ShuttleId) (d : ShuttleDesc) : State :=
  s.setShuttle c { s.shuttle c with ownStall := false, desc := some d, curSrc := d.src, curDst := d.dst, remain := d.count }

/-- A descriptor has been moved: its channel is at `y`, and a record is written where one is asked for. -/
def State.finished (s : State) (c : ShuttleId) (d : ShuttleDesc) (bs : List Byte) (y : ShuttleSt) : State :=
  let t := ((s.moved c d (s.shuttle c).remain bs).emit (.descriptorOwn c.port c.ch.val (s.shuttle c).head)).setShuttle c y
  if d.wantRec then t.shuttleRecord c (s.shuttle c).head d.tag else t

theorem State.finished_parts {d : ShuttleDesc} {bs : List Byte} (host : d.dstSpace = 0) :
    (∃ n, (s.finished c d bs x).shuttle c = { x with seq := n }) ∧ (s.finished c d bs x).out
      = s.out ++ [.shuttleWrite c.port c.ch.val (s.shuttle c).curDst (s.sourceBytes (s.shuttle c) d (s.shuttle c).remain bs),
          .descriptorOwn c.port c.ch.val (s.shuttle c).head] ++ if d.wantRec then recordOf c x (s.shuttle c).head d.tag else [] := by
  have sent : (((s.moved c d (s.shuttle c).remain bs).emit (.descriptorOwn c.port c.ch.val (s.shuttle c).head)).setShuttle c x).out
      = s.out ++ [.shuttleWrite c.port c.ch.val (s.shuttle c).curDst (s.sourceBytes (s.shuttle c) d (s.shuttle c).remain bs),
          .descriptorOwn c.port c.ch.val (s.shuttle c).head] := by
    show (s.moved c d (s.shuttle c).remain bs).out ++ _ = _
    rw [State.moved_out host, List.append_assoc]
    rfl
  unfold State.finished
  dsimp only
  split
  · obtain ⟨n, is⟩ := State.shuttleRecord_shuttle (s := ((s.moved c d (s.shuttle c).remain bs).emit
      (.descriptorOwn c.port c.ch.val (s.shuttle c).head)).setShuttle c x) (c := c) (i := (s.shuttle c).head) (tag := d.tag)
    rw [State.shuttle_setShuttle] at is
    exact ⟨⟨n, is⟩, by rw [State.shuttleRecord_out, State.shuttle_setShuttle, sent]⟩
  · exact ⟨⟨x.seq, State.shuttle_setShuttle⟩, by rw [sent, List.append_nil]⟩

/-- A side of a descriptor outside the two spaces, or in a window that its function may not use so. -/
theorem State.winBad_space {p : Port} {space a n : Nat} {w : Bool} (bad : 1 < space) : s.winBad p space a n w = true := by
  unfold State.winBad
  rw [if_neg (by omega)]
  simp [bad]

theorem State.winBad_read {p : Port} {a n : Nat} (bad : a / 2 ^ 48 = 1) : s.winBad p 1 a n false = true := by
  simp only [State.winBad, winOf, bad]
  simp

theorem State.winBad_write {p : Port} {a n : Nat} (bad : a / 2 ^ 48 = 2 ∨ a / 2 ^ 48 = 3) : s.winBad p 1 a n true = true := by
  rcases bad with bad | bad <;> · simp only [State.winBad, winOf, bad]; simp

theorem State.winBad_instance {p : Port} {a n : Nat} {w : Bool} {i : Fin 1024} (at_ : a / 2 ^ 48 = 0x1000 + i.val)
    (live : (s.fn (.inst i)).state ≠ .frozen) : s.winBad p 1 a n w = true := by
  have not : (s.fnAt i.val).state ≠ .frozen := live
  simp only [State.winBad, winOf, at_, State.winValid]
  simp [not]

end

/-- A channel that has been enabled. -/
def State.enabled (s : State) (c : ShuttleId) (b r l : Nat) : ShuttleSt :=
  { ShuttleSt.reset with
    state := 1, ringBase := b / 64 * 64, recordAddr := r / 32 * 32, ringLog2 := l, pauseSw := (s.shuttle c).pauseSw
    pauseDom := (s.shuttle c).pauseDom, pauseDev := s.host.paused || s.has Mode.holdUp }

theorem execShuttleEnable_off {s : State} {c : ShuttleId} {b r l : Nat} (seen : s.shuttleSeen c = true)
    (off : (s.shuttle c).state = 0) : exec (.shuttleEnable c b r l) s = if l < 4 ∨ 16 < l ∨ b / 64 * 64 = 0
      then .next ((s.setShuttle c (s.enabled c b r l)).haltShuttle c 9 0) else .next (s.setShuttle c (s.enabled c b r l)) := by
  show execShuttleEnable c b r l s = _
  unfold execShuttleEnable
  dsimp only
  rw [if_neg (by simp [seen, off])]
  rfl

/-- The read of the descriptor at HEAD, of a channel that runs. -/
theorem execDescriptorRead_runs {s : State} {c : ShuttleId} {d : ShuttleDesc} {e : ReadEnd} (runs : (s.shuttle c).state = 2)
    (idle : (s.shuttle c).desc = none) : exec (.descriptorRead c d e) s = if e ≠ .ok then .next (s.haltShuttle c 1 (s.shuttle c).head)
      else if !d.own then .next ((s.setShuttle c { s.shuttle c with state := 1, ownStall := true }).bump Obj.ownStalls
        (if (s.shuttle c).head = (s.shuttle c).tail then 0 else 1))
      else if s.descBad c.port d = 0 then .next (s.taken c d) else .next ((s.taken c d).haltShuttle c (s.descBad c.port d)
        (s.shuttle c).head) := by
  show execDescriptorRead c d e s = _
  unfold execDescriptorRead
  dsimp only
  rw [if_neg (by simp [runs, idle])]
  rfl

/-- Settles O36, operation by operation. -/
theorem shuttleMovesAndStops : Obligations.ShuttleMovesAndStops := by
  unfold Obligations.ShuttleMovesAndStops
  intro c s x seen hx
  subst hx
  refine ⟨fun on b r l => if_pos (.inr on), fun off b r l => ?_, fun v low on live => ⟨fun high => ?_, fun fits => ?_⟩,
    fun runs idle d => ⟨fun e bad => ?_, fun own => ?_, fun own bad => ?_, fun own good => ?_⟩,
    fun d bs runs hd host len => ?_, fun d bs hd short => ⟨fun runs => ?_, fun pausing => ?_, fun paused dom dev on => ?_,
      fun moving e => ?_⟩, ?_, fun halted free ready => ?_, fun d => ⟨fun none_ => ?_, fun some_ bad => ?_, fun some_ src dst => ?_⟩⟩
  · by_cases good : 4 ≤ l ∧ l ≤ 16 ∧ 64 ≤ b
    · have ran : exec (.shuttleEnable c b r l) s = .next (s.setShuttle c (s.enabled c b r l)) := by
        rw [execShuttleEnable_off seen off, if_neg (by omega)]
      refine ⟨_, _, ran, rfl, ?_⟩
      rw [State.shuttle_setShuttle]
      exact ⟨rfl, rfl, rfl, rfl, rfl, fun _ => ⟨rfl, rfl⟩, fun bad => by omega⟩
    · have ran : exec (.shuttleEnable c b r l) s = .next ((s.setShuttle c (s.enabled c b r l)).haltShuttle c 9 0) := by
        rw [execShuttleEnable_off seen off, if_pos (by omega)]
      obtain ⟨n, is⟩ := State.haltShuttle_shuttle (s := s.setShuttle c (s.enabled c b r l)) (c := c) (code := 9) (i := 0)
      refine ⟨_, _, ran, rfl, ?_⟩
      rw [is, State.shuttle_setShuttle]
      exact ⟨rfl, rfl, rfl, rfl, rfl, fun ok => absurd ok good, fun _ => ⟨rfl, rfl⟩⟩
  · have ran : exec (.shuttleTailWrite c v) s = .next ((s.setShuttle c { s.shuttle c with tail := v % 65536 }).haltShuttle c 7
        (s.shuttle c).head) := by
      show execShuttleTailWrite c v s = _
      unfold execShuttleTailWrite
      rw [if_neg (by simp [seen])]
      dsimp only
      rw [if_neg (by omega), if_pos (by rw [Nat.mod_eq_of_lt low]; exact high)]
    obtain ⟨n, is⟩ := State.haltShuttle_shuttle (s := s.setShuttle c { s.shuttle c with tail := v % 65536 }) (c := c) (code := 7)
      (i := (s.shuttle c).head)
    refine ⟨_, ran, ?_⟩
    rw [is]
    exact ⟨rfl, rfl, rfl⟩
  · have ran : exec (.shuttleTailWrite c v) s = .next (s.setShuttle c (if (s.shuttle c).state = 1
        then ShuttleSt.look { s.shuttle c with tail := v } else { s.shuttle c with tail := v })) := by
      show execShuttleTailWrite c v s = _
      unfold execShuttleTailWrite
      rw [if_neg (by simp [seen]), Nat.mod_eq_of_lt low]
      dsimp only
      rw [if_neg (by omega), if_neg (by exact Nat.not_le.mpr fits)]
    obtain ⟨head, tail, -⟩ := ShuttleSt.look_kept { s.shuttle c with tail := v }
    refine ⟨_, ran, ?_⟩
    rw [State.shuttle_setShuttle]
    by_cases idle : (s.shuttle c).state = 1
    · rw [if_pos idle]
      refine ⟨tail, head, fun _ free => ?_, fun no => absurd idle no, rfl⟩
      rw [ShuttleSt.look_state, show ShuttleSt.paused { s.shuttle c with tail := v } = false from free]
      rfl
    · rw [if_neg idle]
      exact ⟨rfl, rfl, fun is => absurd is idle, fun _ => rfl, rfl⟩
  · have ran : exec (.descriptorRead c d e) s = .next (s.haltShuttle c 1 (s.shuttle c).head) := by
      rw [execDescriptorRead_runs runs idle, if_pos bad]
    obtain ⟨n, is⟩ := State.haltShuttle_shuttle (s := s) (c := c) (code := 1) (i := (s.shuttle c).head)
    refine ⟨_, ran, ?_⟩
    rw [is]
    exact ⟨rfl, rfl⟩
  · have top : Obj.ownStalls.top = 2 ^ 32 - 1 := by decide
    refine ⟨_, (execDescriptorRead_runs runs idle).trans ((if_neg (by simp)).trans (if_pos (by simp [own]))), ?_⟩
    rw [show ∀ (a : State) n, (a.bump Obj.ownStalls n).shuttle c = a.shuttle c from fun a n => rfl, State.shuttle_setShuttle]
    refine ⟨rfl, rfl, rfl, fun ne room => ?_⟩
    rw [if_neg ne]
    exact State.cfg_bump_same _ _ _ _ _ (by rw [top]; exact room)
  · obtain ⟨n, is⟩ := State.haltShuttle_shuttle (s := s.taken c d) (c := c) (code := s.descBad c.port d) (i := (s.shuttle c).head)
    refine ⟨_, (execDescriptorRead_runs runs idle).trans ((if_neg (by simp)).trans ((if_neg (by simp [own])).trans
      (if_neg bad))), ?_⟩
    rw [is]
    exact ⟨rfl, rfl, rfl⟩
  · refine ⟨_, (execDescriptorRead_runs runs idle).trans ((if_neg (by simp)).trans ((if_neg (by simp [own])).trans
      (if_pos good))), ?_⟩
    rw [State.taken, State.shuttle_setShuttle]
    exact ⟨runs, rfl, rfl, rfl, rfl, rfl, rfl⟩
  · obtain ⟨y, hy⟩ : ∃ y, y = ShuttleSt.look { s.shuttle c with
        desc := none, head := ((s.shuttle c).head + 1) % (s.shuttle c).size
        curSrc := (s.shuttle c).curSrc + (s.shuttle c).remain, curDst := (s.shuttle c).curDst + (s.shuttle c).remain
        remain := (s.shuttle c).remain - (s.shuttle c).remain, bytes := (s.shuttle c).bytes + (s.shuttle c).remain } := ⟨_, rfl⟩
    have ran : exec (.descriptorDone c bs) s = .next (s.finished c d bs y) := by
      show execDescriptorDone c bs s = _
      unfold execDescriptorDone
      dsimp only
      rw [hd]
      dsimp only
      rw [if_neg (not_not_intro runs), State.finished, hy, List.take_of_length_le (by omega),
        show ∀ (a : State) o, (a.emit o).shuttle c = a.shuttle c from fun a o => rfl, State.moved_shuttle]
    obtain ⟨recorded, out⟩ := State.finished_parts (s := s) (x := y) (c := c) (d := d) (bs := bs) host
    obtain ⟨n, recorded⟩ := recorded
    obtain ⟨lhead, -, lbytes, lrec, lseq, lerr, ldesc⟩ := ShuttleSt.look_kept { s.shuttle c with
        desc := none, head := ((s.shuttle c).head + 1) % (s.shuttle c).size
        curSrc := (s.shuttle c).curSrc + (s.shuttle c).remain, curDst := (s.shuttle c).curDst + (s.shuttle c).remain
        remain := (s.shuttle c).remain - (s.shuttle c).remain, bytes := (s.shuttle c).bytes + (s.shuttle c).remain }
    rw [← hy] at lhead lbytes lrec lseq lerr ldesc
    refine ⟨_, _, ran, rfl, ?_⟩
    rw [recorded]
    refine ⟨lhead, ldesc rfl, lbytes, ?_, ?_⟩
    · dsimp only
      rw [hy, ShuttleSt.look_state]
      rfl
    · rw [out]
      dsimp only [recordOf]
      rw [lrec, lseq, lerr, lbytes, ite_both]
  · have ran : exec (.shuttlePauseWrite c true) s = .next (s.setShuttle c (ShuttleSt.pause { s.shuttle c with pauseSw := true })) := by
      show execShuttlePauseWrite c true s = _
      unfold execShuttlePauseWrite
      rw [if_neg (by simp [seen]), if_pos rfl]
    refine ⟨_, ran, ?_⟩
    rw [State.shuttle_setShuttle]
    exact if_pos runs
  · have took : (bs.take (s.shuttle c).remain) = bs := List.take_of_length_le short
    have ran : exec (.shuttlePaused c bs) s = .next ((s.moved c d bs.length bs).setShuttle c
        (if (s.shuttle c).toOff then { (s.moved c d bs.length bs).shuttle c with state := 0, toOff := false }
          else { (s.moved c d bs.length bs).shuttle c with state := 4 })) := by
      show execShuttlePaused c bs s = _
      unfold execShuttlePaused
      dsimp only
      rw [if_neg (not_not_intro pausing), hd, took]
    refine ⟨_, _, ran, rfl, ?_⟩
    rw [State.shuttle_setShuttle, State.moved_shuttle]
    split <;> exact ⟨hd, rfl, rfl, rfl, rfl, rfl⟩
  · have ran : exec (.shuttlePauseWrite c false) s
        = .next (s.setShuttle c (ShuttleSt.resume { s.shuttle c with pauseSw := false })) := by
      show execShuttlePauseWrite c false s = _
      unfold execShuttlePauseWrite
      rw [if_neg (by simp [seen]), if_neg (by simp)]
    refine ⟨_, ran, ?_⟩
    rw [State.shuttle_setShuttle]
    simp [ShuttleSt.resume, ShuttleSt.paused, dom, dev, on, paused, hd]
  · have took : (bs.take (s.shuttle c).remain) = bs := List.take_of_length_le short
    have ran : exec (.shuttleHalt c e bs) s = .next ((s.moved c d bs.length bs).haltShuttle c e (s.shuttle c).head) := by
      show execShuttleHalt c e bs s = _
      unfold execShuttleHalt
      dsimp only
      rw [if_neg (by omega), hd, took]
    obtain ⟨n, is⟩ := State.haltShuttle_shuttle (s := s.moved c d bs.length bs) (c := c) (code := e) (i := (s.shuttle c).head)
    refine ⟨_, ran, ?_⟩
    rw [is, State.moved_shuttle]
    exact ⟨rfl, rfl, rfl, rfl⟩
  · have ran : exec (.shuttleDisable c) s = .next (s.setShuttle c (if (s.shuttle c).state = 2 ∨ (s.shuttle c).state = 3
        then { s.shuttle c with state := 3, toOff := true } else { s.shuttle c with state := 0 })) := by
      show execShuttleDisable c s = _
      unfold execShuttleDisable
      rw [if_neg (by simp [seen])]
      dsimp only
      split <;> rfl
    refine ⟨_, ran, ?_⟩
    rw [State.shuttle_setShuttle]
  · have ran : exec (.shuttleClear c) s = .next (s.setShuttle c (ShuttleSt.look { s.shuttle c with errCode := 0, desc := none })) := by
      show execShuttleClear c s = _
      unfold execShuttleClear
      rw [if_neg (by simp [seen, halted])]
    refine ⟨_, ran, ?_⟩
    rw [State.shuttle_setShuttle, ShuttleSt.look, if_neg ready, if_neg]
    exact fun is => absurd (free.symm.trans is) (by simp)
  · exact if_pos none_
  · rw [State.descBad, if_neg some_, if_pos]
    rw [Bool.or_eq_true]
    rcases bad with ⟨space, at_⟩ | ⟨space, at_⟩ | bad | bad | ⟨n, space, at_, live⟩
    · rw [space]; exact .inl (State.winBad_read at_)
    · rw [space]; exact .inr (State.winBad_write at_)
    · exact .inl (State.winBad_space bad)
    · exact .inr (State.winBad_space bad)
    · rw [space]; exact .inr (State.winBad_instance at_ live)
  · rw [State.descBad, if_neg some_]
    simp [State.winBad, src, dst]

end Sys2Proof.Machine
end


section
/-! Buffers are counted and charged (R321 to R327) -/
namespace Sys2Proof.Machine

section
variable {s : State} {p h : Nat} {x : PoolSt}

@[simp] theorem State.pool_setPool_same : (s.setPool p x).pool p = x := Tbl.get_set_same ..

@[simp] theorem State.pool_countUse {k : Option Nat} {n : Nat} : (s.countUse n k).pool p = s.pool p := by
  unfold State.countUse
  split
  · split <;> rfl
  · rfl

@[simp] theorem State.pool_record {code subject domain : Nat} {l : List Nat} :
    (s.record code l subject domain).pool p = s.pool p := by
  simp [State.pool]

/-- The level apart, a pool is as it was. -/
theorem State.pool_settlePool : ∃ l, (s.settlePool p).pool p = { s.pool p with level := l } := by
  refine ⟨s.levelNow p, ?_⟩
  have kept : ∀ (a : State) v, (a.keep Obj.poolLevel v p).pool p = a.pool p := fun a v => rfl
  have bumped : ∀ a : State, (a.bump Obj.stopEntries 1 p).pool p = a.pool p := fun a => rfl
  unfold State.settlePool
  dsimp only
  split
  · rw [bumped]
    split <;> simp [kept]
  · split <;> simp [kept]

/-- A pool's fault count is no object that allocations, levels and use change. -/
theorem poolFaults_quiet (hp : p < 16) : Obj.poolFaults.Quiet p 0 := by
  constructor <;> intros <;> simp [ObjRow.other, ObjRow.key, Obj.poolFaults, Obj.dropped, Obj.suppressedTotal, Obj.powerDefer,
    Obj.modeSeq, Obj.modeChanges, Obj.poolLevel, Obj.stopEntries, Obj.basketInUse, Obj.resetCount, Obj.lastReset,
    Obj.freezePhase] <;> omega

theorem State.allocate_supplied {g : Option LockId} {b : Nat} (may : s.maySupply p h = true) (head : s.popBuf p = some (b, x)) :
    s.allocate p h g = s.giveBuf p b h g x := by
  rw [State.allocate, if_pos may, head]

theorem State.allocate_short {g : Option LockId} (no : s.maySupply p h = false) :
    s.allocate p h g = if (s.pool p).holdsGeneral g then s else s.waitBuf p h := by
  rw [State.allocate, if_neg (by simp [no])]

/-- The head of a free list: the pool but for that list is as it was. -/
theorem State.popBuf_kept {b : Nat} (head : s.popBuf p = some (b, x)) : x.bufs = (s.pool p).bufs ∧ x.bad = (s.pool p).bad := by
  unfold State.popBuf at head
  dsimp only at head
  split at head
  · cases head
    exact ⟨rfl, rfl⟩
  · split at head
    · cases head
      exact ⟨rfl, rfl⟩
    · cases head

/-- A buffer's entry as it leaves the list for a holder (R326). -/
def State.given (s : State) (p h : Nat) (g : Option LockId) : BufSt :=
  { refs := if p = 1 ∧ h < 1026 then 2 else 1, charge := some h, own := p = 1 || !decide (h < 1026)
    users := if h < 1026 then [(h, (s.fnAt h).gen.toNat)] else [], agent := g, general := s.minimum p h ≤ (s.pool p).inUse h }

theorem State.giveBuf_eq {g : Option LockId} {b : Nat} : s.giveBuf p b h g x
    = ((s.setPool p { x with bufs := Tbl.put x.bufs b (s.given p h g) }).countUse p (some h)).settlePool p := by
  simp [State.giveBuf, State.given]

/-- A buffer that is given: its entry, and the rest of the pool. -/
theorem State.giveBuf_pool {g : Option LockId} {b : Nat} : ∃ l, (s.giveBuf p b h g x).pool p
    = { x with bufs := Tbl.put x.bufs b (s.given p h g), level := l } := by
  obtain ⟨l, is⟩ := State.pool_settlePool
    (s := (s.setPool p { x with bufs := Tbl.put x.bufs b (s.given p h g) }).countUse p (some h)) (p := p)
  rw [State.pool_countUse, State.pool_setPool_same] at is
  exact ⟨l, by rw [State.giveBuf_eq, is]⟩

@[simp] theorem State.pool_waitBuf : (s.waitBuf p h).pool p = { s.pool p with waiters := (s.pool p).waiters ++ [h] } :=
  State.pool_setPool_same

theorem State.cfg_allocate {g : Option LockId} {q : ObjRow} {i : Nat} (quiet : q.Quiet i 0) :
    (s.allocate p h g).cfg q i = s.cfg q i := by
  unfold State.allocate
  split
  · unfold State.giveBuf
    dsimp only
    rw [State.cfg_settlePool_quiet quiet, State.cfg_countUse_quiet quiet]
    rfl
  · split <;> rfl

theorem State.bad_allocate {g : Option LockId} : ((s.allocate p h g).pool p).bad = (s.pool p).bad := by
  cases may : s.maySupply p h with
  | true =>
    cases head : s.popBuf p with
    | some e =>
      obtain ⟨b, x⟩ := e
      obtain ⟨l, is⟩ := State.giveBuf_pool (s := s) (p := p) (h := h) (x := x) (g := g) (b := b)
      rw [State.allocate_supplied may head, is]
      exact (State.popBuf_kept head).2
    | none =>
      rw [State.allocate, if_pos may, head]
      dsimp only
      split
      · rfl
      · rw [State.pool_waitBuf]
  | false =>
    rw [State.allocate_short may]
    split
    · rfl
    · rw [State.pool_waitBuf]

/-- A fault of the allocator is counted, and touches no pool. -/
theorem State.basketFault_counted {b : Nat} (hp : p < 16) (room : s.cfg Obj.poolFaults p < 2 ^ 32 - 1) :
    (s.basketFault p b).pool p = s.pool p ∧ (s.basketFault p b).cfg Obj.poolFaults p = s.cfg Obj.poolFaults p + 1 := by
  have top : Obj.poolFaults.top = 2 ^ 32 - 1 := by decide
  unfold State.basketFault
  refine ⟨State.pool_record, ?_⟩
  rw [State.cfg_record_quiet (poolFaults_quiet hp), State.cfg_bump_same _ _ _ _ _ (by rw [top]; omega)]

/-- A reference that is released, and with the last the buffer. -/
theorem State.releaseRef_last {b : Nat} {y : BufSt} {f : Option Nat} {e : Bool} (last : (y.release f e).refs = 0) : ∃ l,
    (s.releaseRef p b y f e).pool p
      = { s.pool p with bufs := Tbl.del (s.pool p).bufs b, freed := b :: (s.pool p).freed, level := l } := by
  obtain ⟨l, is⟩ := State.pool_settlePool (s := (s.setPool p { s.pool p with
    bufs := Tbl.del (s.pool p).bufs b, freed := b :: (s.pool p).freed }).countUse p y.charge) (p := p)
  rw [State.pool_countUse, State.pool_setPool_same] at is
  refine ⟨l, ?_⟩
  unfold State.releaseRef
  dsimp only
  rw [if_pos last, is]

theorem State.releaseRef_more {b : Nat} {y : BufSt} {f : Option Nat} {e : Bool} (more : (y.release f e).refs ≠ 0) : ∃ l,
    (s.releaseRef p b y f e).pool p = { s.pool p with bufs := Tbl.put (s.pool p).bufs b (y.release f e), level := l } := by
  obtain ⟨l, is⟩ := State.pool_settlePool (s := ((s.setPool p { s.pool p with
    bufs := Tbl.put (s.pool p).bufs b (y.release f e) }).countUse p y.charge).countUse p (y.release f e).charge) (p := p)
  rw [State.pool_countUse, State.pool_countUse, State.pool_setPool_same] at is
  refine ⟨l, ?_⟩
  unfold State.releaseRef
  dsimp only
  rw [if_neg more, is]

end

/-- An allocation for an agent that holds nothing later in the order of R49. -/
theorem execBufferAllocate_open {p : Fin 16} {h : Holder} {g : Option LockId} {ok : Bool} {s : State}
    (may : g.any s.pastBasket = false) : exec (.bufferAllocate p h g ok) s
      = .next ((if ok then s else s.badLink p.val).allocate p.val (Holder_num h) g) :=
  if_neg (by simp [may])

theorem execReferenceDecrement_of_find {p : Fin 16} {b : Nat} {f : Option Func} {e : Bool} {y : BufSt} {s : State}
    (hy : Tbl.find (s.pool p.val).bufs b = some y) : exec (.referenceDecrement p b f e) s
      = if f.all fun g => y.users.any (·.1 = g.code) then .next (s.releaseRef p.val b y (f.map Func.code) e) else .next s := by
  show execReferenceDecrement p b f e s = _
  rw [execReferenceDecrement, hy]

/-- A buffer's entry with one reference more (R326, R327). -/
def BufSt.used (y : BufSt) (n gen : Nat) : BufSt :=
  { y with refs := y.refs + 1, users := y.users ++ [(n, gen)], charge := some (y.charge.getD n) }

/-- Settles O37, operation by operation. -/
theorem buffersAreCountedAndCharged : Obligations.BuffersAreCountedAndCharged := by
  unfold Obligations.BuffersAreCountedAndCharged
  refine ⟨fun p h g s => ⟨fun below free => ?_, fun above full => ?_, fun a ok is past => ?_, fun may no => ⟨fun has => ?_, fun has => ?_⟩,
      fun b x may yes head => ?_, fun b x may head room => ?_⟩,
    fun p s serve hserve => ⟨fun none_ => ?_, fun as n bs line below may before => ?_, fun n rest line none_ => ?_⟩,
    fun p b f y s hy => ⟨fun no => ?_, fun one few => ?_, fun none_ e => ?_, fun some_ e => ⟨fun last => ?_, fun more => ?_⟩, fun e more => ?_⟩,
    fun p b f e s hn => ⟨fun g => ?_, fun room => ?_⟩⟩
  · rw [State.maySupply, if_pos below]
    exact decide_eq_true free
  · rw [State.maySupply, if_neg (by omega), full]
    rfl
  · subst is
    exact if_pos past
  · refine (execBufferAllocate_open may).trans ?_
    rw [if_pos rfl, State.allocate_short no, if_pos has]
  · refine ⟨_, execBufferAllocate_open may, ?_⟩
    rw [if_pos rfl, State.allocate_short no, if_neg (by simp [has])]
    exact ⟨State.pool_waitBuf, rfl⟩
  · obtain ⟨l, is⟩ := State.giveBuf_pool (s := s) (p := p.val) (h := Holder_num h) (x := x) (g := g) (b := b)
    refine ⟨_, s.given p.val (Holder_num h) g, execBufferAllocate_open may, ?_⟩
    rw [if_pos rfl, State.allocate_supplied yes head, is]
    refine ⟨Tbl.find_put_same .., rfl, rfl, rfl, by simp [State.given], fun c ne => ?_, rfl, rfl⟩
    rw [← (State.popBuf_kept head).1]
    exact Tbl.find_put_ne _ _ ne
  · refine ⟨_, execBufferAllocate_open may, ?_⟩
    rw [if_neg (by simp), State.bad_allocate, State.cfg_allocate (poolFaults_quiet p.isLt), State.badLink, head]
    obtain ⟨pool, count⟩ := State.basketFault_counted (s := s.setPool p.val { x.rebuilt with bad := x.bad ++ [b] }) (b := b)
      p.isLt room
    refine ⟨?_, count⟩
    rw [pool, State.pool_setPool_same]
    simp
  · show execBufferWaitServed p s = _
    unfold execBufferWaitServed
    dsimp only
    rw [none_]
    rfl
  · have found : (s.pool p.val).waiters.find? (fun h => (s.pool p.val).inUse h < s.minimum p.val h && s.maySupply p.val h)
        = some n := by
      rw [line, List.find?_append, List.find?_eq_none.mpr, Option.none_or, List.find?_cons_of_pos (by simp [below, may])]
      intro m hm
      rcases before m hm with high | no
      · simp; omega
      · simp [no]
    show execBufferWaitServed p s = _
    unfold execBufferWaitServed
    dsimp only
    rw [found]
    dsimp only
    rw [if_pos may, hserve]
  · have found : (s.pool p.val).waiters.find? (fun h => (s.pool p.val).inUse h < s.minimum p.val h && s.maySupply p.val h)
        = none := by
      rw [line, List.find?_eq_none]
      intro m hm
      rcases none_ m hm with high | no
      · simp; omega
      · simp [no]
    show execBufferWaitServed p s = _
    unfold execBufferWaitServed
    dsimp only
    rw [found, hserve]
    dsimp only
    rw [line, List.head?_cons]
    dsimp only
    rw [apply_ite Host.Outcome.next]
  · show execReferenceIncrement p b f s = _
    unfold execReferenceIncrement
    dsimp only
    rw [hy]
    exact if_neg (by omega)
  · obtain ⟨l, is⟩ := State.pool_settlePool (s := (s.setPool p.val { s.pool p.val with
      bufs := Tbl.put (s.pool p.val).bufs b (y.used f.code (s.fn f).gen.toNat) }).countUse p.val (some (y.charge.getD f.code)))
      (p := p.val)
    rw [State.pool_countUse, State.pool_setPool_same] at is
    have ran : exec (.referenceIncrement p b f) s = .next (((s.setPool p.val { s.pool p.val with
        bufs := Tbl.put (s.pool p.val).bufs b (y.used f.code (s.fn f).gen.toNat) }).countUse p.val
          (some (y.charge.getD f.code))).settlePool p.val) := by
      show execReferenceIncrement p b f s = _
      unfold execReferenceIncrement
      dsimp only
      rw [hy]
      exact if_pos ⟨one, few⟩
    refine ⟨_, y.used f.code (s.fn f).gen.toNat, ran, ?_, rfl, rfl, fun some_ => ?_⟩
    · rw [is]
      exact Tbl.find_put_same ..
    · obtain ⟨k, hk⟩ := Option.ne_none_iff_exists'.mp some_
      simp [BufSt.used, hk]
  · refine (execReferenceDecrement_of_find hy).trans (if_neg ?_)
    simpa using fun k hk => none_ _ hk rfl
  · obtain ⟨l, is⟩ := State.releaseRef_last (s := s) (p := p.val) (b := b) (y := y) (f := some f.code) (e := e)
      (by simp [BufSt.release]; omega)
    refine ⟨_, (execReferenceDecrement_of_find hy).trans (if_pos (by simpa using some_)), ?_⟩
    rw [Option.map_some, is]
    exact ⟨Tbl.find_del_same .., rfl⟩
  · obtain ⟨l, is⟩ := State.releaseRef_more (s := s) (p := p.val) (b := b) (y := y) (f := some f.code) (e := e)
      (by simp [BufSt.release]; omega)
    refine ⟨_, y.release (some f.code) e, (execReferenceDecrement_of_find hy).trans (if_pos (by simpa using some_)), ?_⟩
    rw [Option.map_some, is]
    exact ⟨Tbl.find_put_same .., rfl, rfl, by simp [BufSt.release]⟩
  · obtain ⟨l, is⟩ := State.releaseRef_more (s := s) (p := p.val) (b := b) (y := y) (f := none) (e := e)
      (by simp [BufSt.release]; omega)
    refine ⟨_, (execReferenceDecrement_of_find hy).trans (if_pos rfl), ?_⟩
    rw [Option.map_none, is]
    exact Tbl.find_put_same ..
  · show execReferenceIncrement p b g s = _
    rw [execReferenceIncrement, hn]
  · obtain ⟨pool, count⟩ := State.basketFault_counted (s := s) (b := b) p.isLt room
    refine ⟨_, ?_, pool, count⟩
    show execReferenceDecrement p b f e s = _
    rw [execReferenceDecrement, hn]


end Sys2Proof.Machine
end


section
/-! DRAM serves, refreshes and loses channels (R257 to R266, R331 to R341) -/
namespace Sys2Proof.Machine

/-- A byte of a list that was written is read back. -/
theorem cellsRead_store_in (m : List Host.Cell) (a : Nat) (l : List Byte) (h : Memory.wf m = true) {i : Nat} (hi : i < l.length) :
    cellsRead (cellsStore m a l) (a + i) = l[i] := by
  induction l generalizing m a i with
  | nil => exact absurd hi (by simp)
  | cons b l ih =>
    cases i with
    | zero =>
      rw [Nat.add_zero, cellsStore, cellsRead_store_out _ _ _ _ (cellsWrite_wf m a b h) (by omega), cellsRead_write_same m a b h]
      rfl
    | succ i =>
      have more : i < l.length := by simpa using hi
      rw [cellsStore, show a + (i + 1) = a + 1 + i by omega, ih _ _ (cellsWrite_wf m a b h) more]
      rfl

/-- Absorbing lets no granule become invalid. -/
theorem absorb_kept (n : Nat) (l : List Nat) : n ≤ (absorb n l).1 ∧ ∀ g ∈ l, g < (absorb n l).1 ∨ g ∈ (absorb n l).2 := by
  induction l generalizing n with
  | nil => simp [absorb]
  | cons g l ih =>
    rw [absorb]
    split
    next is =>
      obtain ⟨up, kept⟩ := ih (n + 1)
      refine ⟨by omega, fun e he => ?_⟩
      rcases List.mem_cons.mp he with rfl | he
      · left
        omega
      · exact kept e he
    · exact ⟨Nat.le_refl n, fun e he => .inr he⟩

theorem mem_insertNat {g e : Nat} {l : List Nat} : e ∈ insertNat g l ↔ e = g ∨ e ∈ l := by
  induction l with
  | nil => simp [insertNat]
  | cons h l ih =>
    rw [insertNat]
    split
    · simp
    · split
      next is =>
        subst is
        simp
      · simp only [List.mem_cons, ih]
        exact or_left_comm

section
variable {s : State} {c g burst rank : Nat}

/-- The channels' places in the interleave, their links and the density are as they were. -/
structure State.SamePlaces (s t : State) : Prop where
  state : ∀ c, (t.chan c).state = (s.chan c).state
  ranks : ∀ c, (t.chan c).ranks = (s.chan c).ranks
  density : t.cfg Obj.dramDensity = s.cfg Obj.dramDensity
  cells : t.cells = s.cells

theorem State.SamePlaces.trans {t u : State} (a : s.SamePlaces t) (b : t.SamePlaces u) : s.SamePlaces u :=
  ⟨fun c => (b.state c).trans (a.state c), fun c => (b.ranks c).trans (a.ranks c), b.density.trans a.density,
    b.cells.trans a.cells⟩

theorem State.SamePlaces.active {t : State} (h : s.SamePlaces t) : t.dramActive = s.dramActive := by
  simp only [State.dramActive, h.state]

theorem State.SamePlaces.bytes {t : State} (h : s.SamePlaces t) : t.dramBytes = s.dramBytes := by
  simp only [State.dramBytes, h.active, h.ranks, h.density]

theorem State.SamePlaces.place {t : State} (h : s.SamePlaces t) (a : Nat) : t.dramPlace a = s.dramPlace a := by
  simp only [State.dramPlace, h.active]

theorem State.SamePlaces.takes {t : State} (h : s.SamePlaces t) (c : Nat) : t.dramTakes c = s.dramTakes c := by
  simp only [State.dramTakes, h.state, h.cells]

/-- A channel that differs in neither its state nor its ranks. -/
theorem State.setChan_samePlaces {x : DramChan} (state : x.state = (s.chan c).state) (ranks : x.ranks = (s.chan c).ranks) :
    s.SamePlaces (s.setChan c x) := by
  have at_ : ∀ d, (s.setChan c x).chan d = if d = c then x else s.chan d := fun d => by
    split
    next is => subst is; exact Tbl.get_set_same ..
    next ne => exact Tbl.get_set_ne _ _ _ _ ne
  refine ⟨fun d => ?_, fun d => ?_, rfl, rfl⟩ <;>
    · rw [at_]
      split
      next is => subst is; assumption
      · rfl

theorem State.samePlaces_of_parts {t : State} (chans : t.mem.chans = s.mem.chans)
    (density : t.cfg Obj.dramDensity = s.cfg Obj.dramDensity) (cells : t.cells = s.cells) : s.SamePlaces t := by
  refine ⟨fun c => ?_, fun c => ?_, density, cells⟩ <;> rw [State.chan, chans, State.chan]

theorem State.queueWrite_samePlaces : s.SamePlaces (s.queueWrite c burst) := State.setChan_samePlaces rfl rfl

theorem State.hazard_samePlaces : s.SamePlaces (s.hazard c burst) := by
  unfold State.hazard
  dsimp only
  split
  · refine State.SamePlaces.trans (t := s.setChan c { s.chan c with writes := (s.chan c).writes.filter (· ≠ burst) })
      (State.setChan_samePlaces rfl rfl) (State.samePlaces_of_parts rfl ?_ rfl)
    exact State.cfg_bump_ne _ _ _ _ _ _ _ _ (by decide)
  · exact State.samePlaces_of_parts rfl rfl rfl

/-- A burst without a wrong word. -/
theorem State.readBurst_clean {e : DramErrors} (words : e.words = []) (sure : e.uncorrectable = []) (clean : s.mem.poison = []) :
    s.readBurst c rank burst e = s := by
  have bad : s.badWords c rank e = [] := by
    simp [State.badWords, words, sure]
  unfold State.readBurst
  simp only [bad, words, List.map_nil, List.filter_nil, List.foldl_nil, ne_eq, not_true, false_and, if_false, clean,
    List.append_nil, List.eraseDups_nil]
  rw [← clean]

theorem State.hazard_mem : (s.hazard c burst).mem.dram = s.mem.dram ∧ (s.hazard c burst).mem.poison = s.mem.poison := by
  unfold State.hazard
  dsimp only
  split <;> exact ⟨rfl, rfl⟩

/-- What the settling of the fill leaves. -/
theorem State.settleFill_mem : s.settleFill.mem.dram = s.mem.dram ∧ s.settleFill.mem.poison = s.mem.poison ∧
    s.settleFill.mem.chans = s.mem.chans ∧ s.settleFill.cfg Obj.dramDensity = s.cfg Obj.dramDensity := by
  have recovered : ∀ a : State, a.settleRecovery.cfg Obj.dramDensity = a.cfg Obj.dramDensity := fun a => by
    unfold State.settleRecovery
    split
    · exact State.cfg_changeModes _ _ _ _ _ _ _ (by unfold ObjRow.other; decide) (by unfold ObjRow.other; decide)
        (by unfold ObjRow.other; decide) (by unfold ObjRow.other; decide) (by unfold ObjRow.other; decide)
    · rfl
  unfold State.settleFill
  dsimp only
  split
  · refine ⟨by simp, by simp, by simp, ?_⟩
    rw [recovered]
    exact State.cfg_keep_ne _ _ _ _ _ _ _ _ (by decide)
  · exact ⟨rfl, rfl, rfl, State.cfg_keep_ne _ _ _ _ _ _ _ _ (by decide)⟩

/-- No granule loses its valid bit. -/
theorem State.granuleValid_settleFill (valid : s.granuleValid g = true) : s.settleFill.granuleValid g = true := by
  obtain ⟨up, kept⟩ := absorb_kept s.mem.fillAt s.mem.valid
  unfold State.settleFill
  dsimp only
  split
  · simp [State.granuleValid]
  · simp only [State.granuleValid, Bool.or_eq_true, Bool.not_eq_true', decide_eq_true_eq, List.contains_iff_mem] at valid ⊢
    rcases valid with (off | low) | listed
    · exact .inl (.inl off)
    · exact .inl (.inr (Nat.lt_of_lt_of_le low up))
    · exact (kept g listed).elim (fun h => .inl (.inr h)) .inr

theorem State.granuleValid_validate : (s.validate g).granuleValid g = true := by
  unfold State.validate
  split
  next valid => exact valid
  · refine State.granuleValid_settleFill ?_
    simp [State.granuleValid, mem_insertNat]

theorem State.validate_mem : (s.validate g).mem.dram = s.mem.dram ∧ (s.validate g).mem.poison = s.mem.poison ∧
    s.SamePlaces (s.validate g) := by
  unfold State.validate
  split
  · exact ⟨rfl, rfl, State.samePlaces_of_parts rfl rfl rfl⟩
  · obtain ⟨dram, poison, chans, density⟩ := State.settleFill_mem
      (s := { s with mem := { s.mem with valid := insertNat g s.mem.valid } })
    exact ⟨dram, poison, State.samePlaces_of_parts chans density (by simp)⟩

/-- A write to a channel that takes it, with no wrong word met: its bytes are stored and its granule is valid. -/
theorem State.dramWrite_clean {a : Nat} {bs : List Byte} {e : DramErrors} (words : e.words = []) (sure : e.uncorrectable = [])
    (clean : s.mem.poison = []) (short : bs.length ≤ 128 - a % 128) :
    (s.dramWrite a bs e).mem.dram = cellsStore s.mem.dram a bs ∧ (s.dramWrite a bs e).mem.poison = [] ∧
      s.SamePlaces (s.dramWrite a bs e) ∧ (s.dramWrite a bs e).granuleValid (a / 65536) = true := by
  obtain ⟨s1, hs1, dram, poison, places⟩ : ∃ s1, (if bs.length = 128 ∨ (!s.granuleValid (a / 65536)) = true then s
      else (s.hazard (s.dramPlace a).1 (a / 128)).readBurst (s.dramPlace a).1 (s.dramRank (s.dramPlace a).2) (a / 128) e) = s1 ∧
      s1.mem.dram = s.mem.dram ∧ s1.mem.poison = [] ∧ s.SamePlaces s1 := by
    split
    · exact ⟨s, rfl, rfl, clean, State.samePlaces_of_parts rfl rfl rfl⟩
    · obtain ⟨dram, poison⟩ := State.hazard_mem (s := s) (c := (s.dramPlace a).1) (burst := a / 128)
      rw [State.readBurst_clean words sure (poison.trans clean)]
      exact ⟨_, rfl, dram, poison.trans clean, State.hazard_samePlaces⟩
  have took : bs.take (burstPart a bs.length) = bs := List.take_of_length_le (by unfold burstPart; omega)
  unfold State.dramWrite
  dsimp only
  rw [took, hs1]
  obtain ⟨vdram, vpoison, vplaces⟩ := State.validate_mem (s := { s1 with mem := { s1.mem with
    dram := cellsStore s1.mem.dram a bs
    poison := s1.mem.poison.filter fun w => !(decide (a ≤ 8 * w ∧ 8 * w + 8 ≤ a + bs.length)) } }) (g := a / 65536)
  refine ⟨vdram.trans (congrArg (cellsStore · a bs) dram), vpoison.trans ?_, ?_, State.granuleValid_validate⟩
  · dsimp only
    rw [poison]
    rfl
  · refine (places.trans ?_).trans (vplaces.trans State.queueWrite_samePlaces)
    exact State.samePlaces_of_parts rfl rfl rfl

/-- A read of a valid granule without poison: the bytes that are stored. -/
theorem State.dramRead_clean {a n : Nat} {e : DramErrors} (words : e.words = []) (sure : e.uncorrectable = [])
    (clean : s.mem.poison = []) (short : n ≤ 128 - a % 128) (valid : s.granuleValid (a / 65536) = true) :
    (s.dramRead a n e).mem.answer = (List.range n).map fun i => some (cellsRead s.mem.dram (a + i)) := by
  obtain ⟨dram, poison⟩ := State.hazard_mem (s := s) (c := (s.dramPlace a).1) (burst := a / 128)
  unfold State.dramRead
  dsimp only
  rw [if_pos valid, State.readBurst_clean words sure (poison.trans clean), show burstPart a n = n by unfold burstPart; omega]
  refine List.map_congr_left fun i _ => ?_
  rw [State.dramByte, poison, clean, dram]
  rfl

theorem execDramRequest_served {op : DramOp} {e : DramErrors} (fits : dramEnd op ≤ s.dramBytes)
    (takes : s.dramTakes (s.dramPlace (dramFirst op)).1 = true) : exec (.dramRequest op e) s = .next (s.serveDram op e) := by
  refine congrArg Host.Outcome.next ?_
  rw [State.requestDram, if_neg (by omega), if_pos takes]

theorem map_cellsRead_stored {m : List Host.Cell} {a : Nat} {bs : List Byte} (h : Memory.wf m = true) :
    ((List.range bs.length).map fun i => some (cellsRead (cellsStore m a bs) (a + i))) = bs.map some := by
  refine List.ext_getElem (by simp) fun i h1 h2 => ?_
  have hi : i < bs.length := by simpa using h2
  simp [cellsRead_store_in m a bs h hi]

/-- Two that differ in a list leave two without repetition. -/
theorem one_lt_length_eraseDups {α : Type} [BEq α] [LawfulBEq α] {l : List α} {a b : α} (ha : a ∈ l) (hb : b ∈ l) (ne : a ≠ b) :
    1 < l.eraseDups.length := by
  have ha' := List.mem_eraseDups.mpr ha
  have hb' := List.mem_eraseDups.mpr hb
  refine Nat.lt_of_not_le fun short => ?_
  match h : l.eraseDups with
  | [] => simp [h] at ha'
  | [x] =>
    rw [h, List.mem_singleton] at ha' hb'
    exact ne (ha'.trans hb'.symm)
  | x :: y :: r => simp [h] at short

theorem length_eraseDups_le_one {α : Type} [BEq α] [LawfulBEq α] {l : List α} {a : α} (same : ∀ x ∈ l, x = a) :
    l.eraseDups.length ≤ 1 := by
  cases l with
  | nil => simp
  | cons x l =>
    have none_ : (l.filter fun b => !b == x) = [] := List.filter_eq_nil_iff.mpr fun b hb => by
      simp [same b (by simp [hb]), same x (by simp)]
    rw [List.eraseDups_cons, none_]
    simp

/-- Words beyond correction in a rank without a mark: all of a burst that names two devices, else none but the decoder's. -/
theorem State.badWords_two {e : DramErrors} (unmarked : s.anyMark c rank = false) {v w : Fin 16 × Fin 10} (hv : v ∈ e.words)
    (hw : w ∈ e.words) (ne : v.2 ≠ w.2) {u : Fin 16 × Fin 10} (hu : u ∈ e.words) : u.1.val ∈ s.badWords c rank e := by
  have two : 1 < (e.words.map fun w => w.2.val).eraseDups.length :=
    one_lt_length_eraseDups (List.mem_map_of_mem hv) (List.mem_map_of_mem hw) fun is => ne (Fin.ext is)
  unfold State.badWords
  dsimp only
  rw [List.mem_eraseDups, if_neg (by simp [unmarked]), if_pos two, List.mem_append]
  exact .inr (List.mem_map_of_mem hu)

theorem State.badWords_one {e : DramErrors} {d : Fin 10} (unmarked : s.anyMark c rank = false) (sure : e.uncorrectable = [])
    (same : ∀ w ∈ e.words, w.2 = d) : s.badWords c rank e = [] := by
  have one : ¬ 1 < (e.words.map fun w => w.2.val).eraseDups.length := by
    refine Nat.not_lt.mpr (length_eraseDups_le_one (a := d.val) fun x hx => ?_)
    obtain ⟨w, hw, rfl⟩ := List.mem_map.mp hx
    rw [same w hw]
  unfold State.badWords
  dsimp only
  rw [if_neg (by simp [unmarked]), if_neg one, sure]
  rfl

/-- What a correction leaves of the marks, the hits and the poison. -/
theorem State.corrected_kept {m : Nat} {e : LogEntry} (hm : m < 16) (hc : c < 4) : (s.corrected m e).mem.hits = s.mem.hits ∧
    (s.corrected m e).mem.poison = s.mem.poison ∧ (s.corrected m e).cfg Obj.dramMarks 0 c = s.cfg Obj.dramMarks 0 c := by
  have counted : (s.bump Obj.ceCount 1 0 m).cfg Obj.dramMarks 0 c = s.cfg Obj.dramMarks 0 c :=
    State.cfg_bump_ne _ _ _ _ _ _ _ _ (by simp only [ObjRow.key, Obj.dramMarks, Obj.ceCount]; omega)
  unfold State.corrected
  dsimp only
  split
  · exact ⟨rfl, rfl, counted⟩
  · split
    · exact ⟨rfl, rfl, counted⟩
    · refine ⟨rfl, rfl, Eq.trans ?_ counted⟩
      exact State.cfg_bump_ne _ _ _ _ _ _ _ _ (by simp only [ObjRow.key, Obj.dramMarks, Obj.logOverflow]; omega)

/-- A device that has been hit so often within this moment, or is marked. -/
def State.Hit (s : State) (c rank dev n : Nat) : Prop :=
  s.marked c rank dev = true ∨ (n < 16 ∧ n ≤ (Tbl.get [] s.mem.hits ((c * 4 + rank) * 10 + dev)).count s.now)

theorem State.hitDevice_kept {dev j : Nat} (hj : j < 16) (hc : c < 4) : (s.hitDevice c rank dev).mem.poison = s.mem.poison ∧
    (s.hitDevice c rank dev).cfg Obj.ceCount 0 j = s.cfg Obj.ceCount 0 j := by
  unfold State.hitDevice
  dsimp only
  split
  · exact ⟨rfl, rfl⟩
  · split
    · refine ⟨by simp, ?_⟩
      rw [State.cfg_record _ _ _ _ _ _ _ _
        (by simp only [ObjRow.other, ObjRow.key, Obj.ceCount, Obj.dropped]; omega)
        (by simp only [ObjRow.other, ObjRow.key, Obj.ceCount, Obj.suppressedTotal]; omega)]
      exact State.cfg_save_ne _ _ _ _ _ _ _ _ (by simp only [ObjRow.key, Obj.ceCount, Obj.dramMarks]; omega)
    · exact ⟨rfl, rfl⟩

/-- One more hit counts towards the mark, and the sixteenth sets it. -/
theorem State.Hit.more {dev n : Nat} (hc : c < 4) (hit : s.Hit c rank dev n) :
    (s.hitDevice c rank dev).Hit c rank dev (n + 1) := by
  unfold State.hitDevice
  split
  next marked => exact .inl marked
  next unmarked =>
    obtain ⟨low, many⟩ := hit.resolve_left unmarked
    have count : n + 1 ≤ ((Tbl.get [] s.mem.hits ((c * 4 + rank) * 10 + dev) ++ [s.now]).filter
        fun t => s.now < t + 1000000000).count s.now := by
      rw [List.count_filter (by simp), List.count_append, List.count_singleton_self]
      omega
    dsimp only
    split
    · left
      unfold State.marked
      rw [State.cfg_record _ _ _ _ _ _ _ _
        (by simp only [ObjRow.other, ObjRow.key, Obj.dramMarks, Obj.dropped]; omega)
        (by simp only [ObjRow.other, ObjRow.key, Obj.dramMarks, Obj.suppressedTotal]; omega), State.cfg_save_same, Nat.add_comm,
        Nat.testBit_two_pow_add_eq, Bool.not_eq_true']
      exact Bool.eq_false_iff.mpr unmarked
    next short =>
      refine .inr ⟨Nat.lt_of_le_of_lt (Nat.le_trans count List.count_le_length) (Nat.not_le.mp short), ?_⟩
      rw [show ∀ l, Tbl.get [] (Tbl.set [] s.mem.hits ((c * 4 + rank) * 10 + dev) l) ((c * 4 + rank) * 10 + dev) = l from
        fun l => Tbl.get_set_same ..]
      exact count

/-- The log's entry of a corrected word. -/
def State.wordEntry (s : State) (c rank burst : Nat) (w : Nat × Nat) : LogEntry :=
  { count := 1, position := w.2, kind := if s.marked c rank w.2 then 4 else 3, rank := rank, firstS := 0
    address := burst * 128 + 8 * w.1 }

theorem State.wordCorrected_eq {w : Nat × Nat} : s.wordCorrected c rank burst w
    = (s.corrected (5 + c) (s.wordEntry c rank burst w)).hitDevice c rank w.2 := rfl

/-- Words of one device that are corrected one after another. -/
theorem State.correctAll {dev n : Nat} {words : List (Nat × Nat)} (hc : c < 4) (same : ∀ w ∈ words, w.2 = dev)
    (hit : s.Hit c rank dev n) (room : s.cfg Obj.ceCount 0 (5 + c) + words.length < 2 ^ 64) :
    (words.foldl (fun a w => a.wordCorrected c rank burst w) s).mem.poison = s.mem.poison ∧
      (words.foldl (fun a w => a.wordCorrected c rank burst w) s).cfg Obj.ceCount 0 (5 + c)
        = s.cfg Obj.ceCount 0 (5 + c) + words.length ∧
      (words.foldl (fun a w => a.wordCorrected c rank burst w) s).Hit c rank dev (n + words.length) := by
  induction words generalizing s n with
  | nil => exact ⟨rfl, rfl, hit⟩
  | cons w words ih =>
    rw [List.length_cons] at room ⊢
    obtain rfl := same w (by simp)
    obtain ⟨hits, poison, marks⟩ := State.corrected_kept (s := s) (m := 5 + c) (c := c) (e := s.wordEntry c rank burst w)
      (by omega) hc
    have counted := State.corrected_counted (s := s) (m := 5 + c) (e := s.wordEntry c rank burst w) (by omega)
    have hit' : (s.corrected (5 + c) (s.wordEntry c rank burst w)).Hit c rank w.2 n := by
      unfold State.Hit State.marked at hit ⊢
      rw [marks, hits, show (State.corrected s _ _).now = s.now by simp]
      exact hit
    obtain ⟨poison2, count2⟩ := State.hitDevice_kept (s := s.corrected (5 + c) (s.wordEntry c rank burst w)) (rank := rank)
      (dev := w.2) (j := 5 + c) (by omega) hc
    obtain ⟨rpoison, rcount, rhit⟩ := ih (s := s.wordCorrected c rank burst w) (n := n + 1)
      (fun v hv => same v (List.mem_cons_of_mem _ hv)) (hit'.more hc)
      (by rw [State.wordCorrected_eq, count2, counted]; omega)
    refine ⟨rpoison.trans (poison2.trans poison), rcount.trans ?_, ?_⟩
    · rw [State.wordCorrected_eq, count2, counted]
      omega
    · rw [Nat.add_right_comm, Nat.add_assoc] at rhit
      exact rhit

/-- Words beyond correction that fail again on the second read are poisoned. -/
theorem State.readBurst_poisons {e : DramErrors} {w : Fin 16} (bad : w.val ∈ s.badWords c rank e) (again : w ∈ e.again) :
    burst * 16 + w.val ∈ (s.readBurst c rank burst e).mem.poison := by
  unfold State.readBurst
  dsimp only
  refine List.mem_eraseDups.mpr (List.mem_append_right _ (List.mem_map.mpr ⟨w.val, ?_, rfl⟩))
  exact List.mem_filter.mpr ⟨bad, List.any_eq_true.mpr ⟨w, again, by simp⟩⟩

/-- A burst that names one device of an unmarked rank: every word is corrected, counted, and counted towards a mark. -/
theorem State.readBurst_corrects {e : DramErrors} {d : Fin 10} (hc : c < 4) (unmarked : s.anyMark c rank = false)
    (sure : e.uncorrectable = []) (same : ∀ w ∈ e.words, w.2 = d)
    (room : s.cfg Obj.ceCount 0 (5 + c) + e.words.length < 2 ^ 64) :
    (s.readBurst c rank burst e).cfg Obj.ceCount 0 (5 + c) = s.cfg Obj.ceCount 0 (5 + c) + e.words.length ∧
      (∀ w, w ∈ (s.readBurst c rank burst e).mem.poison ↔ w ∈ s.mem.poison) ∧
      (16 ≤ e.words.length → (s.readBurst c rank burst e).marked c rank d.val = true) := by
  have bad := State.badWords_one unmarked sure same
  have words : ((e.words.map fun w => (w.1.val, w.2.val)).filter fun w => !(([] : List Nat).contains w.1))
      = e.words.map fun w => (w.1.val, w.2.val) := List.filter_eq_self.mpr fun w _ => by simp
  obtain ⟨poison, count, hit⟩ := State.correctAll (s := s) (c := c) (rank := rank) (burst := burst) (dev := d.val) (n := 0)
    (words := e.words.map fun w => (w.1.val, w.2.val)) hc
    (fun w hw => by
      obtain ⟨v, hv, rfl⟩ := List.mem_map.mp hw
      exact congrArg Fin.val (same v hv))
    (.inr ⟨by omega, Nat.zero_le _⟩) (by simpa using room)
  rw [List.length_map] at count hit
  unfold State.readBurst
  simp only [bad, words, List.filter_nil, List.map_nil, List.append_nil, List.mem_eraseDups]
  refine ⟨?_, fun w => ?_, fun many => ?_⟩
  · refine Eq.trans ?_ count
    split <;> rfl
  · rw [← poison]
    split <;> rfl
  · have marked := hit.resolve_right fun h => by omega
    refine Eq.trans ?_ marked
    split <;> rfl

theorem State.anyMark_hazard (hc : c < 4) {c0 : Nat} : (s.hazard c0 burst).anyMark c rank = s.anyMark c rank := by
  have same : (s.hazard c0 burst).cfg Obj.dramMarks 0 c = s.cfg Obj.dramMarks 0 c := by
    unfold State.hazard
    dsimp only
    split
    · exact State.cfg_bump_ne _ _ _ _ _ _ _ _ (by simp only [ObjRow.key, Obj.dramMarks, Obj.hazardWaits]; omega)
    · rfl
  unfold State.anyMark
  exact congrArg (List.any _) (funext fun d => congrArg (Nat.testBit · _) same)

theorem State.ceCount_hazard (hc : c < 4) {c0 : Nat} :
    (s.hazard c0 burst).cfg Obj.ceCount 0 (5 + c) = s.cfg Obj.ceCount 0 (5 + c) := by
  unfold State.hazard
  dsimp only
  split
  · exact State.cfg_bump_ne _ _ _ _ _ _ _ _ (by simp only [ObjRow.key, Obj.ceCount, Obj.hazardWaits]; omega)
  · rfl

theorem execDramPatrol_reads {c : Fin 4} {a : Nat} {e : DramErrors} (low : a < s.dramBytes) (place : (s.dramPlace a).1 = c.val)
    (takes : s.dramTakes c.val = true) (valid : s.granuleValid (a / 65536) = true) : exec (.dramPatrol c a e) s
      = .next ((s.hazard c.val (a / 128)).readBurst c.val (s.dramRank (s.dramPlace a).2) (a / 128) e) := by
  show execDramPatrol c a e s = _
  unfold execDramPatrol
  dsimp only
  rw [place, if_pos ⟨low, rfl, takes, valid⟩]

/-- A rank's step of re-centring, counted; the last ends the interval's work. -/
def State.centring (s : State) (c r : Fin 4) (now : Nat) : State :=
  (if r.val + 1 = (s.chan c.val).ranks then (s.tick now).taskDone (Periodic.recentre c.val) (1000000000 * s.cfg Obj.recentreS)
    else s.tick now).bump Obj.recentres

/-- A channel after a rank's step of re-centring. -/
def State.centredAt (s : State) (c r : Fin 4) (deg : Int) (w : Nat) : DramChan :=
  { s.chan c.val with centred := if r.val + 1 = (s.chan c.val).ranks then deg else (s.chan c.val).centred, eyeMin := w }

/-- A channel that is lost restarts the device, and the cause is kept. -/
theorem State.loseDram_restart : (s.loseDram c).power.restart = true ∧ (s.loseDram c).mem.restartCause = 2 := ⟨rfl, rfl⟩

/-- A refresh that is issued: its rank's next, and the count of late ones. -/
theorem State.issueRefresh_next {r : Refresh} {rk : Nat} (room : s.cfg Obj.refLate < 2 ^ 64 - 1) :
    Tbl.find ((s.issueRefresh c rk r).chan c).refresh rk = some (r.after s.now (s.chan c).period) ∧
      (r.due < s.now → (s.issueRefresh c rk r).cfg Obj.refLate = s.cfg Obj.refLate + 1) := by
  have top : Obj.refLate.top = 2 ^ 64 - 1 := by decide
  have next : ∀ a : State, a.mem = (s.setChan c { s.chan c with
      refresh := Tbl.put (s.chan c).refresh rk (r.after s.now (s.chan c).period) }).mem →
      Tbl.find (a.chan c).refresh rk = some (r.after s.now (s.chan c).period) := fun a same => by
    rw [State.chan, same, ← State.chan, State.chan_setChan_same]
    exact Tbl.find_put_same ..
  unfold State.issueRefresh
  dsimp only
  split
  next late => exact ⟨next _ rfl, fun _ => State.cfg_bump_same _ _ _ _ _ (by rw [top]; exact room)⟩
  next early => exact ⟨next _ rfl, fun is => absurd is early⟩

theorem Refresh.after_same {r : Refresh} {i : Nat} : (r.after i r.period).slot = r.slot + 1 ∧
    (r.after i r.period).postponed = false ∧ r.base + (r.slot + 1) * r.period ≤ (r.after i r.period).due ∧
    r.due + r.period * 8 / 10 ≤ (r.after i r.period).due ∧ i + r.period * 6 / 10 ≤ (r.after i r.period).due := by
  unfold Refresh.after
  rw [if_pos rfl]
  refine ⟨rfl, rfl, ?_, ?_, ?_⟩
  · exact Nat.le_max_left (r.at_ (r.slot + 1)) _
  · exact Nat.le_trans (Nat.le_max_left _ _) (Nat.le_max_right _ _)
  · exact Nat.le_trans (Nat.le_max_right _ _) (Nat.le_max_right _ _)

end

/-- The re-centring of an active channel's rank at the end of its interval. -/
theorem execDramRecentre_due {c r : Fin 4} {deg : Int} {w now : Nat} {ok : Bool} {s : State} (act : (s.chan c.val).state = 2)
    (rank : r.val < (s.chan c.val).ranks) (due : (s.tick now).isDue (Periodic.recentre c.val) = true) :
    exec (.dramRecentre c r deg w ok now) s
      = if (deg - (s.chan c.val).centred).natAbs < s.cfg Obj.dramRecentreDeg
        then .next ((s.tick now).taskDone (Periodic.recentre c.val) (1000000000 * s.cfg Obj.recentreS))
        else if s.minEye ≤ w ∨ ok then .next ((s.centring c r now).setChan c.val (s.centredAt c r deg w))
        else .next (((s.centring c r now).setChan c.val { s.centredAt c r deg w with
          trainFails := (s.chan c.val).trainFails + 3 }).loseDram c.val) := by
  show execDramRecentre c r deg w ok now s = _
  unfold execDramRecentre
  dsimp only
  rw [if_neg]
  · rfl
  · rintro (off | none_ | early)
    · exact off act
    · exact absurd rank (Nat.not_lt.mpr none_)
    · simp [due] at early

theorem State.now_tick {s : State} {now : Nat} (later : s.now ≤ now) : (s.tick now).now = now := Nat.max_eq_right later

/-- A rank's refresh at a moment: not due, forced, or put off where the arbiter chooses so. -/
theorem execRefreshDue_of_find {c rk : Fin 4} {now : Nat} {r : Refresh} {s : State} (act : (s.chan c.val).state = 2)
    (later : s.now ≤ now) (hr : Tbl.find (s.chan c.val).refresh rk.val = some r) : exec (.refreshDue c rk now) s
      = if now < r.due then .next (s.tick now)
        else if r.postponed = true ∨ s.refreshLimit r ≤ now then .next ((s.tick now).issueRefresh c.val rk.val r)
        else if Config.postpones (s.tick now).free then
          .next ({ s.tick now with free := (s.tick now).free + 1 }.setChan c.val { s.chan c.val with
            refresh := Tbl.put (s.chan c.val).refresh rk.val { r with postponed := true } })
        else .next ({ s.tick now with free := (s.tick now).free + 1 }.issueRefresh c.val rk.val r) := by
  show execRefreshDue c rk now s = _
  unfold execRefreshDue
  dsimp only
  rw [show ((s.tick now).chan c.val).state = 2 from act, show Tbl.find ((s.tick now).chan c.val).refresh rk.val = some r from hr]
  show (if (s.tick now).now < r.due then _ else _) = _
  rw [State.now_tick later]
  rfl

theorem execRefreshPostponeLimit_of_find {c rk : Fin 4} {now : Nat} {r : Refresh} {s : State} (act : (s.chan c.val).state = 2)
    (later : s.now ≤ now) (hr : Tbl.find (s.chan c.val).refresh rk.val = some r) : exec (.refreshPostponeLimit c rk now) s
      = if r.postponed = true ∧ s.refreshLimit r ≤ now then .next ((s.tick now).issueRefresh c.val rk.val r)
        else .next (s.tick now) := by
  show execRefreshPostponeLimit c rk now s = _
  unfold execRefreshPostponeLimit
  dsimp only
  rw [show ((s.tick now).chan c.val).state = 2 from act, show Tbl.find ((s.tick now).chan c.val).refresh rk.val = some r from hr]
  show (if r.postponed = true ∧ s.refreshLimit r ≤ (s.tick now).now then _ else _) = _
  rw [State.now_tick later]

/-- Settles O38, the requests, the patrol, then the channels' care. -/
theorem dramServesRefreshesAndLosesChannels : Obligations.DramServesRefreshesAndLosesChannels := by
  unfold Obligations.DramServesRefreshesAndLosesChannels
  refine ⟨⟨fun a bs e s words sure clean wf short fits takes => ?_, fun a n e s fits takes invalid => ?_, fun s => ⟨fun off => ?_, fun on => ?_⟩,
      fun c a e s low place takes valid sure unmarked => ⟨fun v w hv hw ne => ?_, fun d same room => ?_⟩,
      fun op a c e s => ⟨fun beyond => ?_, fun fits waits => ?_, fun beyond => ?_⟩⟩,
    fun c r deg w now ok s x hx act rank => ⟨fun early => ?_, fun due => ⟨fun near => ?_, fun far room => ⟨fun good => ?_, fun bad narrow => ?_⟩⟩⟩,
    fun c s => ⟨fun off => ?_, fun on => ?_⟩,
    fun c rk now r s act later hr room => ⟨fun early => ?_, fun due force same => ?_, fun due no early => ?_, fun no => ?_, fun post limit => ?_⟩,
    fun c hot s => ?_⟩
  · obtain ⟨dram, poison, places, valid⟩ := State.dramWrite_clean (s := s) (a := a) words sure clean short
    have wrote := execDramRequest_served (op := .write a bs) (e := e) fits takes
    have readIt := execDramRequest_served (s := s.dramWrite a bs e) (op := .read a bs.length) (e := e)
      (by rw [places.bytes]; exact fits) (by rw [places.place, places.takes]; exact takes)
    refine ⟨_, _, wrote, readIt, ?_, fun b out => ?_, ?_, by simp [State.serveDram], by simp [State.serveDram]⟩
    · show (State.dramRead _ _ _ _).mem.answer = _
      rw [State.dramRead_clean words sure poison short valid, dram, map_cellsRead_stored wf]
    · show cellsRead (s.dramWrite a bs e).mem.dram b = _
      rw [dram, cellsRead_store_out _ _ _ _ wf out]
    · show Memory.wf (s.dramWrite a bs e).mem.dram = true
      rw [dram]
      exact cellsStore_wf _ _ _ wf
  · rw [execDramRequest_served (op := .read a n) fits takes]
    unfold State.serveDram State.dramRead
    dsimp only
    rw [if_neg (by simp [invalid])]
    rfl
  · exact if_neg (by simp [off])
  · refine ⟨_, if_pos on, State.granuleValid_settleFill ?_, fun g valid => State.granuleValid_settleFill ?_,
      State.settleFill_mem.1, by simp⟩
    · simp [State.granuleValid]
    · simp only [State.granuleValid, Bool.or_eq_true, Bool.not_eq_true', decide_eq_true_eq] at valid ⊢
      rcases valid with (off | below) | listed
      · exact .inl (.inl off)
      · exact .inl (.inr (by omega))
      · exact .inr listed
  · refine ⟨_, execDramPatrol_reads low place takes valid, fun u hu again => State.readBurst_poisons ?_ again⟩
    exact State.badWords_two (by rw [State.anyMark_hazard c.isLt]; exact unmarked) hv hw ne hu
  · obtain ⟨count, poison, marked⟩ := State.readBurst_corrects (s := s.hazard c.val (a / 128)) (c := c.val)
      (rank := s.dramRank (s.dramPlace a).2) (burst := a / 128) c.isLt (by rw [State.anyMark_hazard c.isLt]; exact unmarked) sure
      same (by rw [State.ceCount_hazard c.isLt]; exact room)
    rw [State.ceCount_hazard c.isLt] at count
    rw [State.hazard_mem.2] at poison
    exact ⟨_, execDramPatrol_reads low place takes valid, count, poison, marked⟩
  · exact congrArg Host.Outcome.next (if_pos beyond)
  · refine congrArg Host.Outcome.next ?_
    rw [State.requestDram, if_neg (by omega), if_neg (by simp [waits])]
  · exact if_neg fun is => absurd is.1 (by omega)
  · subst hx
    have early' : ¬ (s.tick now).isDue (Periodic.recentre c.val) = true := by simp [early]
    exact if_pos (.inr (.inr (by simpa using early')))
  · subst hx
    rw [execDramRecentre_due act rank due]
    exact if_pos near
  · subst hx
    have top : Obj.recentres.top = 2 ^ 32 - 1 := by decide
    have counted : (s.centring c r now).cfg Obj.recentres = s.cfg Obj.recentres + 1 := by
      have same : ∀ a : State, a.dict = s.dict → (a.bump Obj.recentres).cfg Obj.recentres = s.cfg Obj.recentres + 1 := fun a ha => by
        rw [State.cfg_bump_same _ _ _ _ _ (by rw [State.cfg_of_force (congrArg (·.force) ha), top]; omega),
          State.cfg_of_force (congrArg (·.force) ha)]
      unfold State.centring
      split <;> exact same _ rfl
    have parts : (s.centring c r now).host = s.host ∧ (s.centring c r now).mem = s.mem := by
      unfold State.centring
      split <;> exact ⟨rfl, rfl⟩
    refine ⟨_, (execDramRecentre_due act rank due).trans ((if_neg (by omega)).trans (if_pos (good.elim .inr .inl))), ?_⟩
    refine ⟨counted, ?_, ?_, ?_, fun d ne => ?_, parts.1⟩
    · rw [State.chan_setChan_same]
      rfl
    · rw [State.chan_setChan_same]
      exact act
    · rw [State.chan_setChan_same]
      rfl
    · rw [State.chan_setChan_ne _ _ ne, State.chan, parts.2, State.chan]
  · subst hx
    exact ⟨_, (execDramRecentre_due act rank due).trans ((if_neg (by omega)).trans (if_neg (by simp [bad]; omega))),
      State.loseDram_restart⟩
  · exact if_neg off
  · exact ⟨_, if_pos on, State.loseDram_restart⟩
  · rw [execRefreshDue_of_find act later hr, if_pos early]
  · obtain ⟨next, late⟩ := State.issueRefresh_next (s := s.tick now) (c := c.val) (r := r) (rk := rk.val) room
    obtain ⟨slot, post, grid, gap, work⟩ := Refresh.after_same (r := r) (i := now)
    rw [State.now_tick later] at next late
    rw [show (s.tick now).chan c.val = s.chan c.val from rfl, ← same] at next
    exact ⟨_, r.after now r.period, (execRefreshDue_of_find act later hr).trans ((if_neg (by omega)).trans (if_pos force)), next,
      slot, post, grid, gap, work, late⟩
  · have force : ¬ (r.postponed = true ∨ s.refreshLimit r ≤ now) := by simp [no]; omega
    have ran := (execRefreshDue_of_find act later hr).trans ((if_neg (by omega)).trans (if_neg force))
    cases chosen : Config.postpones (s.tick now).free with
    | true =>
      refine ⟨_, _, ran.trans (if_pos chosen), ?_, .inl rfl⟩
      rw [State.chan_setChan_same]
      exact Tbl.find_put_same ..
    | false =>
      obtain ⟨next, -⟩ := State.issueRefresh_next (s := { s.tick now with free := (s.tick now).free + 1 }) (c := c.val) (r := r)
        (rk := rk.val) room
      exact ⟨_, _, ran.trans (if_neg (Bool.eq_false_iff.mp chosen)), next,
        .inr (congrArg (fun i => r.after i (s.chan c.val).period) (State.now_tick later))⟩
  · rw [execRefreshPostponeLimit_of_find act later hr]
    refine if_neg fun is => ?_
    rcases no with no | early
    · simp [no] at is
    · omega
  · obtain ⟨next, -⟩ := State.issueRefresh_next (s := s.tick now) (c := c.val) (r := r) (rk := rk.val) room
    rw [State.now_tick later] at next
    exact ⟨_, (execRefreshPostponeLimit_of_find act later hr).trans (if_pos ⟨post, limit⟩), next⟩
  · refine ⟨_, rfl, State.chan_setChan_same .., fun d ne => State.chan_setChan_ne _ _ ne, rfl⟩

end Sys2Proof.Machine
end


section
/-! Administration: the commands that read (R83, R119, R347 to R349, R426, R427) -/
namespace Sys2Proof.Machine

section
variable {s a : State} {h : Hdr}

/-- Outside ROM recovery a command that reads runs behind the common checks alone. -/
theorem State.runRead_of_starts (starts : Starts s h a) (body : State → State × Cpl) :
    s.runRead h body = ((body a).1).finish h (body a).2 := by
  obtain ⟨began, fused, gate, entry⟩ := starts
  have rom : a.security.rom = false := by
    unfold State.adminGate at gate
    split at gate
    · cases gate
    next no => exact Bool.eq_false_iff.mpr no
  unfold State.runRead State.startAdmin State.startWith
  simp [began, fused, entry, orElse, rom]

/-- The context of a command that begins is open. -/
theorem Starts.ctx (starts : Starts s h a) : ∃ c, a.ctx? h = some c ∧ c.done = none :=
  State.ctx_of_begin starts.1

/-- A command that begins and finishes with its context as it was has ended. -/
theorem Starts.ended (starts : Starts s h a) {t : State} (same : t.ctx? h = a.ctx? h) (st : Status) (dw0 : Nat) :
    Ended (t.finish h ⟨st, dw0, 0⟩) h st dw0 := by
  obtain ⟨c, hc, open_⟩ := starts.ctx
  exact State.ended_finish _ (same.trans hc) open_

theorem State.ctx_withdraw (k : Hdr) : (s.withdraw h).ctx? k = s.ctx? k := rfl

/-- An abort of a context that is held and is not the command's own (R119). -/
theorem execAbort_of_ctx (starts : Starts s h a) {q i : Nat} {c : Ctx} (hc : a.ctx? ⟨h.fn, q, i⟩ = some c)
    (ne : (⟨h.fn, q, i⟩ : Hdr) ≠ h) : exec (.abort h q i) s = .next
      (if c.done = none ∧ c.admitted = false ∧ c.moved = false then
        ((a.withdraw ⟨h.fn, q, i⟩).finish ⟨h.fn, q, i⟩ (Cpl.of .abortRequested)).finish h (Cpl.ok0 0)
      else a.finish h (Cpl.ok0 1)) := by
  show execAbort h q i s = _
  unfold execAbort
  rw [State.run_of_starts starts]
  simp only [hc]
  split <;> rename_i take
  · rw [if_pos (by simpa [ne] using take)]
  · rw [if_neg (by simpa [ne] using take)]

/-- An event that is held completes an event request at once. -/
theorem execAsynchronousEventRequest_of_event (starts : Starts s h a) {e : AsyncEvent} {r : List AsyncEvent}
    (held : (a.fn h.fn).events = e :: r) : exec (.asynchronousEventRequest h) s
      = .next ((a.setFn h.fn { a.fn h.fn with events := r }).finish h (Cpl.ok0 e.dw0)) := by
  show execAsynchronousEventRequest h s = _
  unfold execAsynchronousEventRequest
  rw [State.startAdmin_of_starts starts]
  simp only [held]

/-- Without one it stays outstanding, up to the limit. -/
theorem execAsynchronousEventRequest_of_none (starts : Starts s h a) (held : (a.fn h.fn).events = [])
    (new : h ∉ (a.fn h.fn).aers) : exec (.asynchronousEventRequest h) s = .next (
      if 8 ≤ (a.fn h.fn).aers.length then a.finish h ⟨⟨1, 0x05⟩, 0, 0⟩
      else (a.setFn h.fn { a.fn h.fn with aers := (a.fn h.fn).aers ++ [h] }).modCtx h fun c => { c with wait := .event }) := by
  show execAsynchronousEventRequest h s = _
  unfold execAsynchronousEventRequest
  rw [State.startAdmin_of_starts starts]
  simp only [held]
  rw [if_neg (by simpa using new)]
  rfl

/-- A log page with its buffer in order: what the request itself decides (R349). -/
theorem execGetLogPage_of_starts (starts : Starts s h a) (fits : Buffers a h) {lid : Nat} (ne : lid ≠ 0xD0)
    (o nsid numd : Nat) (rae : Bool) (zone : lid = 0xBF → (a.ns? nsid).isSome = true)
    (fdp : lid ∈ [0x21, 0x22, 0x23] → a.store.fdp ≠ none) (has : hasPage h.fn lid = true) (within : o ≤ pageBytesOf lid) :
    ∃ w, w = (a.pageWords h.fn lid nsid).filter (fun w => o ≤ w.1 && w.1 < o + 4 * (numd + 1)) ∧
      exec (.getLogPage h lid o nsid numd rae) s = .next (State.finish
        (if rae then { a with out := a.out ++ [.reply h (.words w)] }
          else State.pageRead { a with out := a.out ++ [.reply h (.words w)] } h.fn lid nsid) h ⟨⟨0, 0⟩, 0, 0⟩) := by
  refine ⟨_, rfl, ?_⟩
  have noFdp : ¬ (0x21 ≤ lid ∧ lid ≤ 0x23 ∧ a.store.fdp.isNone) := by
    rintro ⟨least, most, none_⟩
    exact fdp (by simp; omega) (by simpa using none_)
  have noNs : ¬ (lid = 0xBF ∧ (a.ns? nsid).isNone) := by
    rintro ⟨is, none_⟩
    have := zone is
    simp_all
  show execGetLogPage h lid o nsid numd rae s = _
  unfold execGetLogPage
  rw [if_neg ne, State.runRead_of_starts starts, State.buffered_of_none (fits _)]
  rw [if_neg (by simp [has]), if_neg (by omega), if_neg noNs, if_neg noFdp]
  rfl

theorem execGetLogPage_refused (starts : Starts s h a) {lid o nsid numd : Nat} {rae : Bool} {st : Status} (ne : lid ≠ 0xD0)
    (bad : a.adminBuffer h (4 * (numd + 1)) = some st) :
    exec (.getLogPage h lid o nsid numd rae) s = .next ((a.countPointer h.fn st).finish h ⟨st, 0, 0⟩) := by
  show execGetLogPage h lid o nsid numd rae s = _
  unfold execGetLogPage
  rw [if_neg ne, State.runRead_of_starts starts, State.buffered, bad]
  rfl

theorem execGetLogPage_absent (starts : Starts s h a) (fits : Buffers a h) {lid o nsid numd : Nat} {rae : Bool}
    (none_ : hasPage h.fn lid = false) (ne : lid ≠ 0xD0) :
    exec (.getLogPage h lid o nsid numd rae) s = .next (a.finish h ⟨⟨1, 0x09⟩, 0, 0⟩) := by
  show execGetLogPage h lid o nsid numd rae s = _
  unfold execGetLogPage
  rw [if_neg ne, State.runRead_of_starts starts, State.buffered_of_none (fits _), if_pos (by simp [none_])]
  rfl

/-- Identify with its buffer in order: a structure of the managers alone is refused to others (R347). -/
theorem execIdentify_refused (starts : Starts s h a) (fits : Buffers a h) {k n c i : Nat}
    (no : managerCns k = true ∧ h.fn.isManager = false ∨ a.identify h.fn k n c i = .error .invalidField) :
    exec (.identify h k n c i) s = .next (a.finish h ⟨⟨0, 0x02⟩, 0, 0⟩) := by
  show execIdentify h k n c i s = _
  unfold execIdentify
  rw [State.runRead_of_starts starts, State.buffered_of_none (fits _)]
  split
  · rfl
  next ok =>
    rcases no with ⟨of, not⟩ | no
    · exact absurd ⟨of, by simp [not]⟩ ok
    · rw [no]
      rfl

theorem execIdentify_answered (starts : Starts s h a) (fits : Buffers a h) {k n c i : Nat} {r : Reply}
    (any : managerCns k = false) (ok : a.identify h.fn k n c i = .ok r) :
    exec (.identify h k n c i) s = .next (State.finish { a with out := a.out ++ [.reply h r] } h ⟨⟨0, 0⟩, 0, 0⟩) := by
  show execIdentify h k n c i s = _
  unfold execIdentify
  rw [State.runRead_of_starts starts, State.buffered_of_none (fits _), if_neg (by simp [any]), ok]
  rfl

/-- No structure is defined above 1Ch. -/
theorem State.identify_undefined (f : Func) {k : Nat} (above : 0x1C < k) (n c i : Nat) :
    a.identify f k n c i = .error .invalidField := by
  unfold State.identify
  repeat rw [if_neg (by omega)]

/-- A feature that a function has not, and a selector above 3 (R348). -/
theorem execGetFeatures_refused (starts : Starts s h a) {fid sel : Nat} (no : hasFeature h.fn fid = false ∨ 3 < sel) (n d : Nat) :
    exec (.getFeatures h fid sel n d) s = .next (a.finish h ⟨⟨0, 0x02⟩, 0, 0⟩) := by
  show execGetFeatures h fid sel n d s = _
  unfold execGetFeatures
  rw [State.runRead_of_starts starts, if_pos (by simpa using no)]
  rfl

theorem execGetFeatures_caps (starts : Starts s h a) {fid : Nat} (has : hasFeature h.fn fid = true) (ne : fid ≠ 0xC2) (n d : Nat) :
    exec (.getFeatures h fid 3 n d) s = .next (a.finish h (Cpl.ok0 (featCaps h.fn fid))) := by
  show execGetFeatures h fid 3 n d s = _
  unfold execGetFeatures
  rw [State.runRead_of_starts starts, if_neg (by simp [has]), if_neg (fun is => ne is.1), if_pos rfl]

/-- Arbitration, current and by default (R348). -/
theorem execGetFeatures_arbitration (starts : Starts s h a) (n d : Nat) :
    exec (.getFeatures h 0x01 0 n d) s = .next (a.finish h ⟨⟨0, 0⟩, (Tbl.find (a.fn h.fn).feats 1).getD 3, 0⟩) ∧
    exec (.getFeatures h 0x01 1 n d) s = .next (a.finish h ⟨⟨0, 0⟩, 3, 0⟩) := by
  constructor
  · show execGetFeatures h 0x01 0 n d s = _
    unfold execGetFeatures
    rw [State.runRead_of_starts starts, if_neg (by simp [hasFeature])]
    rfl
  · show execGetFeatures h 0x01 1 n d s = _
    unfold execGetFeatures
    rw [State.runRead_of_starts starts, if_neg (by simp [hasFeature])]
    rfl

end

section
variable {s : State}

/-! A flush leaves the accessors' cursors. -/

@[simp] theorem State.bump_accs (r : ObjRow) (n i j : Nat) : (s.bump r n i j).dict.accs = s.dict.accs := rfl

@[simp] theorem State.enter_accs (r : Rec) : (s.enter r).dict.accs = s.dict.accs := by
  unfold State.enter
  simp only []
  (repeat' split) <;> rfl

@[simp] theorem State.record_accs (code : Nat) (params : List Nat) (subject domain : Nat) :
    (s.record code params subject domain).dict.accs = s.dict.accs := by
  unfold State.record
  simp only []
  repeat' split
  · simp only [State.enter_accs]
    rfl
  · rfl
  · simp only [State.enter_accs]

@[simp] theorem State.noteDefer_accs : s.noteDefer.dict.accs = s.dict.accs := by
  unfold State.noteDefer
  extract_lets d s1
  split
  · exact State.record_accs ..
  · rfl

@[simp] theorem State.changeModes_accs (set clear : BitVec 12) (cause : Nat) :
    (s.changeModes set clear cause).dict.accs = s.dict.accs := by
  unfold State.changeModes
  simp only []
  repeat' split
  · rfl
  · simp only [State.noteDefer_accs]
    rfl
  · simp only [State.noteDefer_accs, State.enter_accs]
    rfl
  · rfl

@[simp] theorem State.applyWaiting_accs : s.applyWaiting.dict.accs = s.dict.accs := by
  unfold State.applyWaiting
  exact foldl_keeps (fun t : State => t.dict.accs) (fun _ _ => State.changeModes_accs ..) _ _

@[simp] theorem State.endFlush_accs (fails : List Nat) : (s.endFlush fails).dict.accs = s.dict.accs := by
  unfold State.endFlush
  split
  · rfl
  · simp only [State.applyWaiting_accs]
    (repeat' split) <;> rfl

@[simp] theorem State.flushNow_accs : s.flushNow.dict.accs = s.dict.accs := by
  unfold State.flushNow
  simp only []
  repeat' split
  · exact (State.endFlush_accs (s := (s.endFlush []).startFlush) []).trans (State.endFlush_accs [])
  · exact State.endFlush_accs []

@[simp] theorem State.reach_accs (n : Nat) : (s.reach n).dict.accs = s.dict.accs := by
  unfold State.reach
  repeat' split
  · exact State.flushNow_accs
  · rfl

end

/-- The window log answers from its own start, and moves its accessor's cursor where it is told to (R426, R427). -/
theorem execSamplerWindowLog_of_starts {s a : State} {h : Hdr} (starts : Starts s h a) (fits : Buffers a h) (adv : Bool)
    (numd : Nat) : ∃ t, exec (.samplerWindowLog h adv 0 numd) s = .next t ∧ Ended t h ⟨0, 0⟩ 0 ∧
      (adv = false → (t.acc h.fn.accessor.code).cursor = (a.acc h.fn.accessor.code).cursor) := by
  have host := (state_reach_frame a ((a.acc h.fn.accessor.code).cursor + 15)).2.1
  show ∃ t, execSamplerWindowLog h adv 0 numd s = .next t ∧ _
  unfold execSamplerWindowLog
  rw [State.runRead_of_starts starts, State.buffered_of_none (fits _)]
  cases adv with
  | true => exact ⟨_, rfl, starts.ended (State.ctx_of_host host h) _ _, nofun⟩
  | false =>
    exact ⟨_, rfl, starts.ended (State.ctx_of_host host h) _ _,
      fun _ => congrArg (fun l => (Tbl.get AccSt.init l h.fn.accessor.code).cursor) (State.reach_accs _)⟩

theorem execSamplerWindowLog_offset {s a : State} {h : Hdr} (starts : Starts s h a) (fits : Buffers a h) (adv : Bool) {o : Nat}
    (off : o ≠ 0) (numd : Nat) : exec (.samplerWindowLog h adv o numd) s = .next (a.finish h ⟨⟨0, 0x02⟩, 0, 0⟩) := by
  show execSamplerWindowLog h adv o numd s = _
  unfold execSamplerWindowLog
  rw [State.runRead_of_starts starts, State.buffered_of_none (fits _), if_pos off]
  rfl

/-- The list of active namespaces names those above a number that the function is attached to. -/
theorem State.nsList_active {s : State} {n j : Nat} {f : Func} (hj : j ∈ s.nsList n (·.activeFor f)) :
    n < j ∧ ∃ x, (j, x) ∈ s.store.ns ∧ f.code ∈ x.attached := by
  have hj := List.mem_of_mem_take hj
  obtain ⟨e, he, rfl⟩ := List.mem_map.mp hj
  obtain ⟨he, sel⟩ := List.mem_filter.mp he
  simp only [Bool.and_eq_true, decide_eq_true_eq] at sel
  exact ⟨sel.1, e.2, he, by simpa [Ns.activeFor] using sel.2⟩

/-- The words of Identify Controller that R347 names. -/
theorem State.identifyController_words (s : State) (f : Func) : ∀ e ∈ [(80, 0x00020100), (260, 0x19), (262, 255), (263, 4),
    (265, 1), (266, 378), (268, 383), (516, 4096), (514, s.maxCmd f), (78, cntlidOf f)], e ∈ s.identifyController f := by
  intro e he
  simp only [List.mem_cons, List.not_mem_nil, or_false] at he
  unfold State.identifyController
  rcases he with rfl | rfl | rfl | rfl | rfl | rfl | rfl | rfl | rfl | rfl <;> simp

/-- Settles O39: each command runs behind the common checks, and its answer is one case of its body. -/
theorem adminCommandsThatReadAnswer : Obligations.AdminCommandsThatReadAnswer := by
  refine ⟨fun h s a starts => ⟨fun q i c hc ne => ⟨fun open_ no still => ?_, fun past => ?_⟩, fun q i none_ => ?_,
    fun e r held => ?_, fun held new => ⟨fun room => ?_, fun full => ?_⟩,
    fun lid o nsid numd rae st ne bad => execGetLogPage_refused starts ne bad,
    fun o nsid numd rae fits => ⟨fun lid none_ ne => execGetLogPage_absent starts fits none_ ne,
      fun inst => execGetLogPage_absent starts fits (by simp [hasPage, inst]) (by decide), fun size => ?_,
      fun lid has zone fdp => ?_, ?_⟩⟩,
    fun h s a starts fits => ⟨fun n c i => ⟨⟨_, execIdentify_answered starts fits rfl rfl, State.identifyController_words a h.fn⟩,
      ⟨_, execIdentify_answered starts fits rfl rfl, by simp [State.nsList, Nat.min_le_left], fun j hj => State.nsList_active hj⟩,
      fun inst k hk => ?_, fun k above => execIdentify_refused starts fits (.inr (State.identify_undefined _ above ..))⟩,
      fun fid sel n d no => execGetFeatures_refused starts no n d, fun n d => ?_,
      fun adv o numd off => execSamplerWindowLog_offset starts fits adv off numd,
      fun adv numd => execSamplerWindowLog_of_starts starts fits adv numd⟩⟩
  · obtain ⟨own, hown, ownOpen⟩ := starts.ctx
    refine ⟨_, (execAbort_of_ctx starts hc ne).trans (congrArg _ (if_pos ⟨open_, no, still⟩)), ?_, ?_⟩
    · obtain ⟨d, hd, done⟩ := State.ended_finish (s := a.withdraw ⟨h.fn, q, i⟩) (Cpl.of .abortRequested) hc open_
      exact ⟨d, (State.ctx_finish_ne _ ne).trans hd, done⟩
    · exact State.ended_finish _ ((State.ctx_finish_ne _ ne.symm).trans hown) ownOpen
  · rw [execAbort_of_ctx starts hc ne, if_neg]
    · rfl
    · rintro ⟨open_, no, still⟩
      simp [open_, no, still] at past
  · show execAbort h q i s = _
    unfold execAbort
    rw [State.run_of_starts starts]
    simp only [none_]
    rfl
  · exact ⟨_, execAsynchronousEventRequest_of_event starts held, starts.ended (t := a.setFn h.fn _) rfl _ _, by simp⟩
  · obtain ⟨own, hown, ownOpen⟩ := starts.ctx
    refine ⟨_, _, (execAsynchronousEventRequest_of_none starts held new).trans (congrArg _ (if_neg (by omega))), by simp,
      State.ctx_modCtx_same (fun c => { c with wait := .event }) (fun _ => rfl) hown, ownOpen, rfl⟩
  · rw [execAsynchronousEventRequest_of_none starts held new, if_pos full]
  · obtain ⟨w, hw, ran⟩ := execGetLogPage_of_starts starts fits (lid := 0xD1) (by decide) 0 nsid numd rae (by simp) (by simp)
      (by simp [hasPage]) (by decide)
    have all : w = a.devicePage := by
      rw [hw, List.filter_eq_self.mpr]
      · rfl
      · intro e he
        have he : e ∈ a.devicePage := he
        simp only [State.devicePage, List.mem_cons, List.not_mem_nil, or_false] at he
        rcases he with rfl | rfl | rfl | rfl | rfl | rfl | rfl <;> simp <;> omega
    rw [ran, all]
    cases rae <;> rfl
  · obtain ⟨w, -, ran⟩ := execGetLogPage_of_starts starts fits (lid := lid) (by rintro rfl; cases h.fn <;> simp [hasPage, Func.isManager] at has)
      0 nsid numd true zone fdp has (Nat.zero_le _)
    exact ⟨w, ran⟩
  · obtain ⟨w, -, ran⟩ := execGetLogPage_of_starts starts fits (lid := 0x04) (by decide) 0 nsid numd false (by simp) (by simp)
      (by simp [hasPage]) (Nat.zero_le _)
    refine ⟨_, ran, ?_, fun j ne => ?_⟩
    · exact congrArg (Option.getD · []) (Tbl.find_del_same ..)
    · exact congrArg (Option.getD · []) (Tbl.find_del_ne _ ne)
  · exact execIdentify_refused starts fits (.inl ⟨by simpa [managerCns] using hk, inst⟩)
  · obtain ⟨now, default⟩ := execGetFeatures_arbitration starts n d
    have caps := fun fid has ne => execGetFeatures_caps (fid := fid) starts has ne n d
    exact ⟨now, default, by rw [caps 1 (by simp [hasFeature]) (by decide)]; cases h.fn <;> rfl,
      by rw [caps 6 (by simp [hasFeature]) (by decide)]; cases h.fn <;> rfl⟩

end Sys2Proof.Machine
end


section
/-! Set Features (R348) -/
namespace Sys2Proof.Machine

section
variable {s a : State} {h : Hdr}

/-- Set Features with its checks passed runs its body; SV on a value that is not saveable is refused before. -/
theorem State.setFeature_sized (starts : Starts s h a) (fits : Buffers a h) (fid : Nat) (sv : Bool)
    (body : State → State × Cpl) (len : Nat) : s.setFeature h fid sv body len = .next (
      if sv = true ∧ saveable fid = false then a.finish h ⟨⟨1, 0x0D⟩, 0, 0⟩ else ((body a).1).finish h (body a).2) := by
  unfold State.setFeature State.runData
  rw [State.run_of_starts starts, State.buffered_of_none (fits _)]
  by_cases no : sv = true ∧ saveable fid = false
  · rw [if_pos no, if_pos (by simpa using no)]
    rfl
  · rw [if_neg no, if_neg (by simpa using no)]

theorem State.setFeature_runs (starts : Starts s h a) (fits : Buffers a h) {fid : Nat} {sv : Bool}
    (may : sv = false ∨ saveable fid = true) (body : State → State × Cpl) (len : Nat) :
    s.setFeature h fid sv body len = .next (((body a).1).finish h (body a).2) := by
  rw [State.setFeature_sized starts fits, if_neg]
  rintro ⟨on, not⟩
  simp [on, not] at may

theorem State.setFeature_notSaveable (starts : Starts s h a) (fits : Buffers a h) {fid : Nat} (not : saveable fid = false)
    (body : State → State × Cpl) (len : Nat) : s.setFeature h fid true body len = .next (a.finish h ⟨⟨1, 0x0D⟩, 0, 0⟩) := by
  rw [State.setFeature_sized starts fits, if_pos ⟨rfl, not⟩]

/-- One value that is stored, with its command ended: what R348 says of every row that takes a value. -/
theorem storesFeature_storeFeat (starts : Starts s h a) (sv : Bool) (k v : Nat) :
    StoresFeature a ((a.storeFeat h.fn sv [(k, v)]).finish h Cpl.ok) h sv k v := by
  refine ⟨?_, fun j ne => ?_, ?_, fun g ne => ?_, rfl, starts.ended rfl _ _⟩
  · rw [State.finish_fn, State.storeFeat, State.fn_modFn_same]
    exact Tbl.find_put_same ..
  · rw [State.finish_fn, State.storeFeat, State.fn_modFn_same]
    exact Tbl.find_put_ne _ _ ne
  · rw [State.finish_fn, State.storeFeat, State.fn_modFn_same]
    cases sv with
    | true => exact Tbl.find_put_same ..
    | false => rfl
  · rw [State.finish_fn]
    exact State.fn_modFn_ne _ ne

@[simp] theorem State.enter_clock (r : Rec) : (s.enter r).sampler.clockBase = s.sampler.clockBase ∧
    (s.enter r).sampler.tsOrigin = s.sampler.tsOrigin := by
  unfold State.enter
  simp only []
  (repeat' split) <;> exact ⟨rfl, rfl⟩

/-- A record leaves the host clock as it is. -/
theorem State.record_clock (code : Nat) (params : List Nat) (subject domain : Nat) :
    (s.record code params subject domain).sampler.clockBase = s.sampler.clockBase ∧
    (s.record code params subject domain).sampler.tsOrigin = s.sampler.tsOrigin := by
  unfold State.record
  extract_lets r b
  repeat' split
  · exact State.enter_clock _
  · exact ⟨rfl, rfl⟩
  · exact State.enter_clock _

/-- A clock whose base is what it reads less the time since boot reads that. -/
theorem clock_read {ms : Nat} (fits : ms < 2 ^ 48) (up : Nat) :
    ((ms % 2 ^ 48 + 2 ^ 48 - up % 2 ^ 48) % 2 ^ 48 + up) % 2 ^ 48 = ms := by omega

/-- Keys of the table of power state transitions are not the feature's own. -/
theorem find_foldl_put_ne (l : List (Nat × Nat)) {k : Nat} (ne : ∀ e ∈ l, e.1 ≠ k) (t : Tbl Nat) :
    Tbl.find (l.foldl (fun t v => Tbl.put t v.1 v.2) t) k = Tbl.find t k := by
  induction l generalizing t with
  | nil => rfl
  | cons e l ih =>
    rw [List.foldl_cons, ih fun e he => ne e (List.mem_cons_of_mem _ he)]
    exact Tbl.find_put_ne _ _ (ne e List.mem_cons_self).symm

/-- An entry of the transition table: none, or PS3 or PS4 after 100 ms (R396). -/
theorem transition_bad {e : Nat × Nat} (three : e.1 ≠ 3) (four : e.1 ≠ 4) (some_ : e ≠ (0, 0)) :
    (!((e.1 = 0 && e.2 = 0) || ((e.1 = 3 || e.1 = 4) && 100 ≤ e.2))) = true := by
  have zero : ¬ (e.1 = 0 ∧ e.2 = 0) := fun ⟨x, y⟩ => some_ (Prod.ext x y)
  simp only [three, four, decide_false, Bool.or_self, Bool.false_and, Bool.or_false, Bool.not_eq_true', Bool.and_eq_false_iff,
    decide_eq_false_iff_not]
  omega

theorem transition_good {e : Nat × Nat} (good : e = (0, 0) ∨ ((e.1 = 3 ∨ e.1 = 4) ∧ 100 ≤ e.2)) :
    (!((e.1 = 0 && e.2 = 0) || ((e.1 = 3 || e.1 = 4) && 100 ≤ e.2))) = false := by
  rcases good with rfl | ⟨three | four, long⟩ <;> simp [*]

theorem State.superseded_host (x : Ns) (l : List MapEntry) : (l.foldl (fun b e => b.superseded x e) s).host = s.host :=
  foldl_keeps (fun t : State => t.host) (fun b e => (state_superseded_frame b x e).2.2.2.1) l s

theorem State.superseded_all_ns (x : Ns) (l : List MapEntry) :
    (l.foldl (fun b e => b.superseded x e) s).store.ns = s.store.ns :=
  foldl_keeps (fun t : State => t.store.ns) (fun _ _ => State.superseded_ns ..) l s

end

section
variable {s a : State} {h : Hdr}

/-- An enabled manager's power request is followed (R348, R395). -/
theorem State.requestPower_target (ps : Nat) : Tbl.get 0 (a.requestPower .a ps).power.requests 0 = ps ∧
    (a.requestPower .a ps).power.target = if a.dual then min ps (Tbl.get 0 a.power.requests 1) else ps := by
  have power : (a.requestPower .a ps).power = { a.power with
      requests := Tbl.set 0 a.power.requests 0 ps
      target := State.askedState { a with power := { a.power with requests := Tbl.set 0 a.power.requests 0 ps } }
      refusals := 0
      retryAt := none } := by
    unfold State.requestPower
    rw [(state_noteDefer_frame _).2.2.2.2.2.2.1]
    rfl
  have dual : State.dual { a with power := { a.power with requests := Tbl.set 0 a.power.requests 0 ps } } = a.dual := rfl
  rw [power]
  refine ⟨Tbl.get_set_same .., ?_⟩
  simp only [State.askedState, dual, Tbl.get_set_same, Tbl.get_set_ne _ _ _ _ (show 1 ≠ 0 by decide)]

/-- A manager's timestamp sets the host clock, and is read where the manager has none of its own. -/
theorem execSetTimestamp_runs (starts : Starts s h a) (fits : Buffers a h) {ms : Nat} (small : ms < 2 ^ 48) :
    ∃ t, exec (.setTimestamp h false ms) s = .next t ∧ Ended t h ⟨0, 0⟩ 0 ∧ t.timestampOf h.fn = (if
        h.fn.isManager = true ∧ Tbl.find (a.fn h.fn).feats 0x0E ≠ none then a.timestampOf h.fn else ms) ∧
      (h.fn.isManager = true → t.hostMs = ms ∧ t.sampler.tsOrigin = 1) ∧
      (h.fn.isManager = false → t.hostMs = a.hostMs) := by
  show ∃ t, execSetTimestamp h false ms s = .next t ∧ _
  unfold execSetTimestamp
  rw [State.setFeature_runs starts fits (.inl rfl)]
  cases manager : h.fn.isManager with
  | false =>
    refine ⟨_, rfl, ?_, ?_, nofun, fun _ => ?_⟩
    · exact starts.ended rfl _ _
    · simp only [Bool.false_eq_true, false_and, if_false, State.timestampOf, State.finish_fn, State.storeFeat,
        State.fn_modFn_same, List.foldl_cons, List.foldl_nil, Tbl.find_put_same]
      exact clock_read small _
    · rfl
  | true =>
    simp only [if_true]
    let w : State := { a with sampler := { a.sampler with
      clockBase := (ms % 2 ^ 48 + 2 ^ 48 - a.upNs / 1000000 % 2 ^ 48) % 2 ^ 48
      tsOrigin := 1 } }
    let l := [lowWord a.hostMs, highWord a.hostMs, lowWord (ms % 2 ^ 48), highWord (ms % 2 ^ 48)]
    have host : (w.record 0x0003 l).host = a.host := (state_record_frame w ..).2.2.1
    obtain ⟨base, origin⟩ := State.record_clock (s := w) 0x0003 l 0xFFFF 0xFF
    have up : (w.record 0x0003 l).upNs = a.upNs := by
      unfold State.upNs
      simp [w]
    have now : (w.record 0x0003 l).hostMs = ms := by
      rw [State.hostMs, base, up]
      exact clock_read small _
    have feats : (w.record 0x0003 l).fn h.fn = a.fn h.fn := State.fn_of_fns (congrArg HostSt.fns host) h.fn
    refine ⟨(w.record 0x0003 l).finish h ⟨⟨0, 0⟩, 0, 0⟩, rfl, starts.ended (State.ctx_of_host host h) _ _, ?_, fun _ => ⟨now, origin⟩, nofun⟩
    show State.timestampOf (w.record 0x0003 l) h.fn = _
    unfold State.timestampOf
    rw [feats, up, now]
    cases Tbl.find (a.fn h.fn).feats 0x0E <;> simp

/-- A table of transitions is taken where each entry is none, PS3 or PS4 (R396). -/
theorem execSetAutonomousPowerStateTransition_runs (starts : Starts s h a) (fits : Buffers a h) (sv en : Bool)
    {l : List (Nat × Nat)} (manager : h.fn.isManager = true)
    (good : ∀ e ∈ l, e = (0, 0) ∨ ((e.1 = 3 ∨ e.1 = 4) ∧ 100 ≤ e.2)) :
    ∃ t, exec (.setAutonomousPowerStateTransition h sv en l) s = .next t ∧ Tbl.find (t.fn h.fn).feats 0x0C = some en.toNat ∧
      Ended t h ⟨0, 0⟩ 0 ∧ ∀ g, g ≠ h.fn → t.fn g = a.fn g := by
  show ∃ t, execSetAutonomousPowerStateTransition h sv en l s = .next t ∧ _
  unfold execSetAutonomousPowerStateTransition
  rw [State.setFeature_runs starts fits (.inr (by decide)), if_neg (by simp [manager]), if_neg]
  · refine ⟨_, rfl, ?_, starts.ended rfl _ _, fun g ne => (State.finish_fn _).trans (State.fn_modFn_ne _ ne)⟩
    rw [State.finish_fn, State.storeFeat, State.fn_modFn_same, List.foldl_cons, find_foldl_put_ne]
    · exact Tbl.find_put_same ..
    · intro e he
      obtain ⟨p, -, he⟩ := List.mem_flatMap.mp he
      simp only [List.mem_cons, List.not_mem_nil, or_false] at he
      rcases he with rfl | rfl <;> simp [featKey] <;> omega
  · rw [Bool.not_eq_true, List.any_eq_false]
    exact fun e he => by simp [transition_good (good e (List.mem_of_mem_take he))]

/-- Secure discard is set on a page-mapped namespace of the manager's port (R205). -/
theorem execSetSecureDiscard_runs (starts : Starts s h a) (fits : Buffers a h) (sv en : Bool) {nsid : Nat} {n : Ns}
    (there : a.ns? nsid = some n) (own : n.owner = a.portOfFn h.fn) (page : n.kind ≠ .zoned) (manager : h.fn.isManager = true) :
    ∃ t, exec (.setSecureDiscard h sv nsid en) s = .next t ∧ t.ns? nsid = some { n with secureDiscard := en } ∧
      (∀ j, j ≠ nsid → t.ns? j = a.ns? j) ∧ Ended t h ⟨0, 0⟩ 0 := by
  let a1 := a.setNs nsid { n with secureDiscard := en }
  have h1 : a1 = a.setNs nsid { n with secureDiscard := en } := rfl
  let a2 := if en then (a.stalePlaces nsid).foldl (fun b e => b.superseded { n with secureDiscard := true } e) a1 else a1
  have h2 : a2 = if en then (a.stalePlaces nsid).foldl (fun b e => b.superseded { n with secureDiscard := true } e) a1 else a1 := rfl
  have ns2 : a2.store.ns = a1.store.ns := by
    cases en with
    | true => exact State.superseded_all_ns ..
    | false => rfl
  have host2 : a2.host = a.host := by
    cases en with
    | true => exact State.superseded_host ..
    | false => rfl
  let t := if n.secureDiscard = en then a2 else a2.journal (.nscfg (nsid - 1) (if en then 4 else 5))
  have ht : t = if n.secureDiscard = en then a2 else a2.journal (.nscfg (nsid - 1) (if en then 4 else 5)) := rfl
  have ns : t.store.ns = a1.store.ns := by
    rw [ht]
    split
    · exact ns2
    · exact (State.journal_ns a2 _).trans ns2
  have host : t.host = a.host := by
    rw [ht]
    split
    · exact host2
    · exact ((state_journal_frame _ _).2.2.2.2.1).trans host2
  have ran : exec (.setSecureDiscard h sv nsid en) s = .next (t.finish h ⟨⟨0, 0⟩, 0, 0⟩) := by
    show execSetSecureDiscard h sv nsid en s = _
    unfold execSetSecureDiscard
    rw [State.setFeature_runs starts fits (.inr (by decide))]
    simp only [State.ownNs_own there own]
    rw [if_neg (by simp [manager, page])]
    rfl
  refine ⟨_, ran, ?_, fun j ne => ?_, starts.ended (State.ctx_of_host host h) _ _⟩
  · show Tbl.find t.store.ns nsid = _
    rw [ns]
    exact State.ns_setNs_same ..
  · show Tbl.find t.store.ns j = _
    rw [ns]
    exact State.ns_setNs_ne _ _ ne

theorem execSetSecureDiscard_refused (starts : Starts s h a) (fits : Buffers a h) (sv en : Bool) {nsid : Nat}
    (no : a.ns? nsid = none ∨ h.fn.isManager = false ∨ (∃ n, a.ns? nsid = some n ∧
      (n.owner ≠ a.portOfFn h.fn ∨ n.kind = .zoned))) :
    exec (.setSecureDiscard h sv nsid en) s = .next (a.finish h ⟨⟨0, 0x02⟩, 0, 0⟩) := by
  show execSetSecureDiscard h sv nsid en s = _
  unfold execSetSecureDiscard
  rw [State.setFeature_runs starts fits (.inr (by decide))]
  split
  · rfl
  next n named =>
    rw [if_pos]
    · rfl
    · unfold State.ownNs at named
      rcases no with none_ | inst | ⟨m, there, no⟩
      · simp [none_] at named
      · simp [inst]
      · rw [there] at named
        simp only [Option.ite_none_right_eq_some, Option.some.injEq] at named
        obtain ⟨own, rfl⟩ := named
        exact .inr (no.resolve_left (not_not_intro own))

end

/-- Settles O40: a body that stores one value, and the bodies of the other rows. -/
theorem featuresTakeTheirRowsValues : Obligations.FeaturesTakeTheirRowsValues := by
  intro h s a starts fits
  have un {fid : Nat} (not : saveable fid = false) := State.setFeature_notSaveable starts fits not
  have run {fid : Nat} {sv : Bool} (may : sv = false ∨ saveable fid = true) := State.setFeature_runs starts fits may
  have stores := storesFeature_storeFeat starts
  refine ⟨fun x y z b l => ⟨un rfl _ _, un rfl _ _, un rfl _ _, un rfl _ _, un rfl _ _, un rfl _ _, un rfl _ _, un rfl _ _,
      un rfl _ _⟩, fun sv b l m g hb hl hm hg => ?_, fun sv under k small => ?_, fun x => ⟨⟨_, run (.inl rfl) _ _, stores ..⟩,
      run (.inl rfl) _ _⟩, fun w => ⟨⟨_, run (.inl rfl) _ _, stores ..⟩, ⟨_, run (.inl rfl) _ _, stores ..⟩⟩,
    fun x => ⟨_, run (.inl rfl) _ _, stores ..⟩, fun v cd => ⟨fun ne => ?_, ⟨_, run (.inl rfl) _ _, stores ..⟩⟩,
    fun sv w => ⟨fun bit => ?_, fun bit => ?_⟩, fun n m => ⟨fun made => ?_, fun made hn hm => ?_⟩,
    fun sv ps wh => ⟨fun inst => ?_, fun manager bad => ?_, fun pf0 small => ?_⟩,
    fun sv en l => ⟨fun inst => ?_, fun manager ⟨e, he, three, four, some_⟩ => ?_,
      execSetAutonomousPowerStateTransition_runs starts fits sv en⟩, fun ms small => execSetTimestamp_runs starts fits small,
    fun en c => ⟨fun some_ => ?_, fun none_ small => ?_⟩, fun en l fdp => ?_,
    fun sv en nsid => ⟨execSetSecureDiscard_refused starts fits sv en,
      fun n there own page manager => execSetSecureDiscard_runs starts fits sv en there own page manager⟩⟩
  · refine ⟨_, run (.inr rfl) _ _, ?_⟩
    rw [show b + 256 * l + 65536 * m + 16777216 * g
      = b % 8 + 2 ^ 8 * (l % 256) + 2 ^ 16 * (m % 256) + 2 ^ 24 * (g % 256) by omega]
    exact stores ..
  · refine ⟨_, run (.inr rfl) _ _, ?_⟩
    have sound := stores sv (featKey 0x04 under.toNat) (k % 65536)
    rw [Nat.mod_eq_of_lt small] at sound
    rw [Nat.mod_eq_of_lt small]
    cases under <;> exact sound
  · exact (run (.inl rfl) _ _).trans (by rw [if_pos ne]; rfl)
  · exact (run (.inr rfl) _ _).trans (by rw [if_pos bit]; rfl)
  · refine ⟨_, w &&& eventMask, (run (.inr rfl) _ _).trans (by rw [if_neg (by simp [bit])]), stores .., fun i hi => ?_⟩
    rw [Nat.testBit_and, Bool.and_eq_true] at hi
    exact hi.1
  · exact (run (.inl rfl) _ _).trans (by rw [if_pos made]; rfl)
  · refine (run (.inl rfl) _ _).trans ?_
    rw [if_neg (by simp [made]), if_neg (by omega),
      show (a.qidLimit h.fn - 1) * 65537 = a.queueCount h.fn by simp only [State.queueCount]; omega]
    rfl
  · exact (State.setFeature_runs starts fits (.inr rfl) _ _).trans (by rw [if_pos (by simp [inst])]; rfl)
  · exact (State.setFeature_runs starts fits (.inr rfl) _ _).trans (by rw [if_neg (by simp [manager]), if_pos bad]; rfl)
  · have host : ((a.storeFeat h.fn sv [(0x02, ps)]).requestPower (a.portOfFn h.fn) ps).host = (a.storeFeat h.fn sv [(0x02, ps)]).host := by
      simp
    have port : a.portOfFn h.fn = .a := by rw [pf0]; rfl
    have ran : exec (.setPowerManagement h sv ps 0) s = _ := State.setFeature_runs starts fits (.inr rfl) _ _
    rw [if_neg (by simp [pf0, Func.isManager]), if_neg (by omega)] at ran
    refine ⟨_, ran, ?_, ?_, starts.ended ((State.ctx_of_host host h).trans rfl) _ _⟩
    · rw [port]
      exact (State.requestPower_target (a := a.storeFeat h.fn sv [(0x02, ps)]) ps).1
    · rw [port]
      exact (State.requestPower_target (a := a.storeFeat h.fn sv [(0x02, ps)]) ps).2
  · exact (run (.inr rfl) _ _).trans (by rw [if_pos (by simp [inst])]; rfl)
  · refine (run (.inr rfl) _ _).trans ?_
    rw [if_neg (by simp [manager]), if_pos (List.any_eq_true.mpr ⟨e, he, transition_bad three four some_⟩)]
    rfl
  · exact (run (.inl rfl) _ _).trans (by rw [if_pos some_]; rfl)
  · have ran : exec (.setFdp h false en c) s = _ := run (.inl rfl) _ _
    rw [if_neg (by simp [none_]), if_neg (by omega)] at ran
    exact ⟨_, ran, rfl, starts.ended rfl _ _⟩
  · have ran : exec (.setFdpEvents h false en l) s = _ := run (.inl rfl) _ _
    rw [if_neg (by simpa using fdp)] at ran
    refine ⟨_, ran, fun k => ?_, starts.ended rfl _ _⟩
    by_cases hk : k ∈ l <;> cases en <;> simp [State.finish, State.modCtx, hk]

end Sys2Proof.Machine
end


section
/-! Firmware: download, commit and switch (R121, R358 to R364) -/
namespace Sys2Proof.Machine

section
variable {s a : State} {h : Hdr}

/-- Outside ROM recovery a firmware command of a manager runs whatever the ROM would serve. -/
theorem State.fwStart_of_starts (starts : AdminStarts s h a) (rom : Bool) (go : State → State) :
    s.fwStart h rom go = .next (go a) := by
  obtain ⟨⟨began, fused, gate, entry⟩, manager⟩ := starts
  have noRom : a.security.rom = false := by
    unfold State.adminGate at gate
    split at gate
    · cases gate
    next no => exact Bool.eq_false_iff.mpr no
  unfold State.fwStart State.startAdmin State.startWith
  simp [began, fused, entry, gate, orElse, noRom, manager]

theorem mem_insertGranule {g j : Nat} {l : List Nat} : j ∈ insertGranule g l ↔ j = g ∨ j ∈ l := by
  induction l with
  | nil => simp [insertGranule]
  | cons k l ih =>
    unfold insertGranule
    split
    · simp
    · split
      next same => simp [same]
      next => rw [List.mem_cons, ih, List.mem_cons, or_left_comm]

theorem mem_foldl_insertGranule {j : Nat} (gs l : List Nat) :
    j ∈ gs.foldl (fun a g => insertGranule g a) l ↔ j ∈ gs ∨ j ∈ l := by
  induction gs generalizing l with
  | nil => simp
  | cons g gs ih =>
    rw [List.foldl_cons, ih, mem_insertGranule, List.mem_cons, or_left_comm, or_assoc]

/-- The granules of a download of whole granules. -/
theorem mem_granules {o n g : Nat} (ho : o % 4096 = 0) (hn : n % 4096 = 0) :
    g ∈ (List.range (ceilDiv (o % 4096 + n) 4096)).map (· + o / 4096) ↔ o ≤ 4096 * g ∧ 4096 * g < o + n := by
  simp only [List.mem_map, List.mem_range, ceilDiv]
  constructor
  · rintro ⟨k, hk, rfl⟩
    omega
  · intro ⟨least, most⟩
    exact ⟨g - o / 4096, by omega, by omega⟩

theorem State.stageBytes_granules (p : Port) {o n : Nat} (ho : o % 4096 = 0) (hn : n % 4096 = 0) (g : Nat) :
    g ∈ ((a.stageBytes p o n).stage p).granules ↔ g ∈ (a.stage p).granules ∨ (o ≤ 4096 * g ∧ 4096 * g < o + n) := by
  rw [or_comm, ← mem_granules ho hn]
  cases p <;> exact mem_foldl_insertGranule ..

theorem State.stage_of_admin {t : State} (same : t.admin = a.admin) (p : Port) : t.stage p = a.stage p := by
  cases p <;> simp only [State.stage, same]

/-- The header's bytes enter the window; the granules are those of the bytes. -/
theorem State.stageImage_stage (p : Port) (o n : Nat) (i : Option ImageHeader) :
    (a.stageImage p o n i).stage p = (a.stageBytes p o n).stage p := by
  refine State.stage_of_admin ?_ p
  unfold State.stageImage
  extract_lets s1
  (repeat' split) <;> rfl

theorem State.stageImage_host (p : Port) (o n : Nat) (i : Option ImageHeader) : (a.stageImage p o n i).host = a.host := by
  simp

/-- A download with its buffer in order: its range, then the granules that are written already (R358). -/
theorem execFirmwareImageDownload_of_starts (starts : AdminStarts s h a) {n : Nat} (fits : a.adminBuffer h n = none) (o : Nat)
    (i : Option ImageHeader) : exec (.firmwareImageDownload h o n i) s = .next (
      if o % 4096 ≠ 0 ∨ n % 4096 ≠ 0 ∨ 67108864 < o + n then a.finish h ⟨⟨0, 0x02⟩, 0, 0⟩
      else if ∃ g ∈ (a.stage (a.portOfFn h.fn)).granules, o ≤ 4096 * g ∧ 4096 * g < o + n then a.finish h ⟨⟨1, 0x14⟩, 0, 0⟩
      else (a.stageImage (a.portOfFn h.fn) o n i).finish h Cpl.ok) := by
  show execFirmwareImageDownload h o n i s = _
  unfold execFirmwareImageDownload
  rw [State.fwStart_of_starts starts, State.buffered_of_none fits]
  simp only [ne_eq, not_true_eq_false, if_false, List.any_eq_true, Bool.and_eq_true, decide_eq_true_eq]
  rfl

/-- The staging area of a port, emptied, holds no granule. -/
theorem State.emptyStaging_granules (p : Port) : ((a.emptyStaging (portNum p)).stage p).granules = [] := by
  cases p <;> rfl

theorem State.emptyStaging_slots (p : Nat) : (a.emptyStaging p).admin.slots = a.admin.slots ∧
    (a.emptyStaging p).admin.onReset = a.admin.onReset ∧ (a.emptyStaging p).admin.running = a.admin.running := by
  unfold State.emptyStaging
  simp only []
  split <;> exact ⟨rfl, rfl, rfl⟩

/-- An image of a replaced slot fails or passes its checks; either way the staging area is emptied (R360, R362). -/
theorem State.commitChecked_fails {slot n : Nat} {c : ImageChecks} {done : State → Nat → ImageHeader → State}
    {fails : ImageHeader → Option (List Nat) → ImageChecks → Option Nat} (named : a.replaceSlot slot = some slot)
    (no : fails (headerOf (a.stageWindow (a.portOfFn h.fn))) (some (a.stage (a.portOfFn h.fn)).granules) c = some n) :
    a.commitChecked h slot c done fails
      = ((a.emptyStaging (portNum (a.portOfFn h.fn))).refuseImage n slot).finish h (Cpl.of (checkStatus n)) := by
  unfold State.commitChecked
  simp only [named, no]

theorem State.commitChecked_passes {slot : Nat} {c : ImageChecks} {done : State → Nat → ImageHeader → State}
    {fails : ImageHeader → Option (List Nat) → ImageChecks → Option Nat} (named : a.replaceSlot slot = some slot)
    (pass : fails (headerOf (a.stageWindow (a.portOfFn h.fn))) (some (a.stage (a.portOfFn h.fn)).granules) c = none) :
    a.commitChecked h slot c done fails
      = done ((a.emptyStaging (portNum (a.portOfFn h.fn))).fillSlot slot (headerOf (a.stageWindow (a.portOfFn h.fn)))) slot
        (headerOf (a.stageWindow (a.portOfFn h.fn))) := by
  unfold State.commitChecked
  simp only [named, pass]

theorem State.commitChecked_none {slot : Nat} {c : ImageChecks} {done : State → Nat → ImageHeader → State}
    {fails : ImageHeader → Option (List Nat) → ImageChecks → Option Nat} (named : a.replaceSlot slot = none) :
    a.commitChecked h slot c done fails = a.finish h (Cpl.of .invalidSlot) := by
  unfold State.commitChecked
  simp only [named]

theorem State.replaceSlot_of_named {slot : Nat} (least : 2 ≤ slot) (most : slot ≤ 4) : a.replaceSlot slot = some slot := by
  rw [State.replaceSlot, if_neg (by omega), if_pos ⟨least, most⟩]

theorem State.replaceSlot_none {slot : Nat} (no : slot = 1 ∨ 4 < slot) : a.replaceSlot slot = none := by
  rw [State.replaceSlot, if_neg (by omega), if_neg (by omega)]

end

/-- What filling a slot leaves: its image, the other slots, everything but the downgrade marks and the presence counter. -/
theorem State.fillSlot_slots (s : State) (slot : Nat) (i : ImageHeader) :
    (s.fillSlot slot i).admin = { s.admin with slots := Tbl.put s.admin.slots slot i } := by
  unfold State.fillSlot
  extract_lets low rest s1
  (repeat' split) <;> rfl

theorem State.fillSlot_rom (s : State) (slot : Nat) (i : ImageHeader) : (s.fillSlot slot i).security.rom = s.security.rom := by
  unfold State.fillSlot
  extract_lets low rest s1
  (repeat' split) <;> rfl

/-- A mode that is set shows, and the others stay. -/
theorem State.has_setMode {s : State} (waits : s.sampler.waiting = []) (room : s.pendingRecs < 1024) (m cause k : Nat) :
    (s.setMode m cause).has k = (s.has k || (modeBit m).getLsbD k) := by
  unfold State.has State.setMode
  rw [State.modes_changeModes _ _ _ _ waits room, show newModes s.modes (modeBit m) 0 = s.modes ||| modeBit m by
    rw [newModes, show ~~~(0 : BitVec 12) = BitVec.allOnes 12 from rfl, BitVec.and_allOnes]]
  exact BitVec.getLsbD_or

theorem State.has_clearMode {s : State} (waits : s.sampler.waiting = []) (room : s.pendingRecs < 1024) (m cause : Nat)
    (small : m < 12) : (s.clearMode m cause).has m = false := by
  unfold State.has State.clearMode
  rw [State.modes_changeModes _ _ _ _ waits room]
  simp [newModes, modeBit, small]

/-- What writing lines leaves of the host: whether fetch is paused. -/
@[simp] theorem State.writeLine_paused (s : State) (f : Func) : (s.writeLine f).host.paused = s.host.paused := by
  unfold State.writeLine
  extract_lets x
  split <;> rfl

@[simp] theorem State.writeAllLines_paused (s : State) : s.writeAllLines.host.paused = s.host.paused := by
  refine foldl_keeps (fun t : State => t.host.paused) (fun t e => ?_) _ s
  split
  · split
    · rfl
    · exact State.writeLine_paused ..
  · rfl

@[simp] theorem State.raise_paused (s : State) (f : Func) (e : AsyncEvent) : (s.raise f e).host.paused = s.host.paused := by
  unfold State.raise
  extract_lets x
  split
  · rfl
  · split
    · rfl
    · split <;> rfl

@[simp] theorem State.raiseAll_paused (s : State) (codes : List Nat) (e : AsyncEvent) :
    (s.raiseAll codes e).host.paused = s.host.paused := by
  refine foldl_keeps (fun t : State => t.host.paused) (fun t n => ?_) _ s
  split
  · exact State.raise_paused ..
  · rfl

theorem State.startPause_paused (s : State) : s.startPause.host.paused = true := by
  unfold State.startPause
  rw [State.writeAllLines_paused]
  exact State.raiseAll_paused ..

theorem State.writeLine_admin (s : State) (f : Func) : (s.writeLine f).admin = s.admin := by
  unfold State.writeLine
  extract_lets x
  split <;> rfl

@[simp] theorem State.writeAllLines_admin (s : State) : s.writeAllLines.admin = s.admin := by
  refine foldl_keeps (fun t : State => t.admin) (fun t e => ?_) _ s
  split
  · split
    · rfl
    · exact State.writeLine_admin ..
  · rfl

theorem State.startPause_admin (s : State) : s.startPause.admin = s.admin := by
  unfold State.startPause
  simp

/-- A switch that nothing defers starts the pause (R363). -/
theorem State.startDeferredSwitch_starts {s : State} (act : s.has Mode.activation = true) (runs : s.host.paused = false)
    (goes : s.admin.switchTo.isSome = true) (san : s.has Mode.sanitize = false) (rec : s.has Mode.recovery = false) :
    s.startDeferredSwitch = s.startPause := by
  rw [State.startDeferredSwitch, if_pos (by simp [act, runs, goes, san, rec])]

section
variable {s a : State} {h : Hdr} {slot : Nat} {c : ImageChecks} {i : ImageHeader}

/-- The state in which a commit that has passed goes on: the staging area empty, the slot filled. -/
def State.passed (a : State) (p : Port) (slot : Nat) (i : ImageHeader) : State := (a.emptyStaging (portNum p)).fillSlot slot i

theorem State.passed_admin (a : State) (p : Port) (slot : Nat) (i : ImageHeader) :
    (a.passed p slot i).admin.slots = Tbl.put a.admin.slots slot i ∧ (a.passed p slot i).admin.onReset = a.admin.onReset ∧
    (a.passed p slot i).admin.running = a.admin.running ∧ ((a.passed p slot i).stage p).granules = [] := by
  obtain ⟨slots, onReset, running⟩ := State.emptyStaging_slots (a := a) (portNum p)
  have admin := State.fillSlot_slots (a.emptyStaging (portNum p)) slot i
  have stage := State.stage_of_admin (a := { a.emptyStaging (portNum p) with
    admin := { (a.emptyStaging (portNum p)).admin with slots := Tbl.put (a.emptyStaging (portNum p)).admin.slots slot i } }) admin p
  rw [State.passed, stage, admin]
  refine ⟨by rw [slots], onReset, running, ?_⟩
  cases p <;> rfl

theorem State.passed_same (a : State) (p : Port) (slot : Nat) (i : ImageHeader) : (a.passed p slot i).host = a.host ∧
    (a.passed p slot i).modes = a.modes ∧ (a.passed p slot i).sampler = a.sampler ∧
    (a.passed p slot i).security.rom = a.security.rom := by
  refine ⟨by simp [State.passed], by simp [State.passed], by simp [State.passed], ?_⟩
  rw [State.passed, State.fillSlot_rom, (state_emptyStaging_frame _ _).2.2.2.2.2.2.2.2.2.2.2.2.1]

/-- A firmware commit that starts is not in ROM recovery. -/
theorem Starts.rom (starts : Starts s h a) : a.security.rom = false := by
  obtain ⟨-, -, gate, -⟩ := starts
  unfold State.adminGate at gate
  split at gate
  · cases gate
  next no => exact Bool.eq_false_iff.mpr no

theorem State.commitImage_passes {done : State → Nat → ImageHeader → State} (least : 2 ≤ slot) (most : slot ≤ 4)
    (is : i = headerOf (a.stageWindow (a.portOfFn h.fn)))
    (pass : a.imageFails i (some (a.stage (a.portOfFn h.fn)).granules) c = none) :
    a.commitImage h slot c done = done (a.passed (a.portOfFn h.fn) slot i) slot i := by
  subst is
  rw [State.commitImage_eq_commitChecked, State.commitChecked_passes (State.replaceSlot_of_named least most) pass]
  rfl

/-- Activation at once of an image of the running major that allows it (R363). -/
theorem execFirmwareCommitActivateNow_pauses (starts : AdminStarts s h a) (least : 2 ≤ slot) (most : slot ≤ 4)
    (is : i = headerOf (a.stageWindow (a.portOfFn h.fn)))
    (pass : a.imageFails i (some (a.stage (a.portOfFn h.fn)).granules) c = none) (major : i.major = a.runningImage.major)
    (now : i.flags.testBit 0 = true) (san : a.has Mode.sanitize = false) (rec : a.has Mode.recovery = false)
    (runs : a.host.paused = false) (room : a.pendingRecs < 1024) (waits : a.sampler.waiting = []) :
    ∃ t, exec (.firmwareCommitActivateNow h slot c) s = .next t ∧ t.has Mode.activation = true ∧ t.host.paused = true ∧
      t.admin.switchTo = some slot := by
  obtain ⟨host, modes, sampler, rom⟩ := State.passed_same a (a.portOfFn h.fn) slot i
  obtain ⟨-, -, running, -⟩ := State.passed_admin a (a.portOfFn h.fn) slot i
  have went := fun done => State.commitImage_passes (done := done) least most is pass
  generalize a.passed (a.portOfFn h.fn) slot i = b at host modes sampler rom running went
  let s1 := ({ b with admin := { b.admin with switchTo := some slot } } : State).setMode Mode.activation 11
  have h1 : s1 = ({ b with admin := { b.admin with switchTo := some slot } } : State).setMode Mode.activation 11 := rfl
  let w := ({ s1 with admin := { s1.admin with switchCmd := some h } } : State).modCtx h fun x => { x with wait := .activation }
  have hw : w = ({ s1 with admin := { s1.admin with switchCmd := some h } } : State).modCtx h fun x => { x with wait := .activation } := rfl
  have ran : exec (.firmwareCommitActivateNow h slot c) s = .next w.startDeferredSwitch := by
    show execFirmwareCommitActivateNow h slot c s = _
    unfold execFirmwareCommitActivateNow
    rw [State.fwStart_of_starts starts, went, if_neg (by rw [rom, starts.1.rom]; decide),
      if_neg (by rw [State.runningImage, running]; exact not_not_intro major), if_neg (by rw [now]; decide), if_neg (by rw [State.has, modes]; exact Bool.eq_false_iff.mp san)]
  have bits := State.has_setMode (s := { b with admin := { b.admin with switchTo := some slot } })
    (show b.sampler.waiting = [] by rw [sampler]; exact waits)
    (show b.pendingRecs < 1024 by rw [State.pendingRecs, sampler]; exact room) Mode.activation 11
  have shown (k : Nat) : w.has k = (a.has k || (modeBit Mode.activation).getLsbD k) := by
    rw [show w.has k = s1.has k from rfl, bits k]
    unfold State.has
    rw [← modes]
  have admin : s1.admin = { b.admin with switchTo := some slot } := by simp [h1, State.setMode]
  have paused : w.host.paused = false := by
    rw [show w.host.paused = s1.host.paused from rfl, ← runs, ← host]
    simp [h1, State.setMode]
  have goes : w.admin.switchTo = some slot := by
    rw [show w.admin.switchTo = s1.admin.switchTo from rfl, admin]
  rw [State.startDeferredSwitch_starts (by rw [shown]; simp [modeBit, Mode.activation]) paused (by rw [goes]; rfl)
    (by rw [shown, san]; decide) (by rw [shown, rec]; decide)] at ran
  refine ⟨_, ran, ?_, State.startPause_paused _, by rw [State.startPause_admin, goes]⟩
  rw [State.has, (state_startPause_frame w).1]
  exact (shown _).trans (by simp [modeBit, Mode.activation])

end

section
variable {s a : State} {h : Hdr} {slot k : Nat} {c : ImageChecks} {i : ImageHeader}

theorem State.commitImage_fails {done : State → Nat → ImageHeader → State} (least : 2 ≤ slot) (most : slot ≤ 4)
    (is : i = headerOf (a.stageWindow (a.portOfFn h.fn)))
    (no : a.imageFails i (some (a.stage (a.portOfFn h.fn)).granules) c = some k) : a.commitImage h slot c done
      = ((a.emptyStaging (portNum (a.portOfFn h.fn))).refuseImage k slot).finish h (Cpl.of (checkStatus k)) := by
  subst is
  rw [State.commitImage_eq_commitChecked, State.commitChecked_fails (State.replaceSlot_of_named least most) no]

theorem State.commitImage_none {done : State → Nat → ImageHeader → State} (no : slot = 1 ∨ 4 < slot) :
    a.commitImage h slot c done = a.finish h ⟨⟨1, 0x06⟩, 0, 0⟩ := by
  rw [State.commitImage_eq_commitChecked, State.commitChecked_none (State.replaceSlot_none no)]
  rfl

/-- A refused commit is counted, and changes no slot (R360, R362). -/
theorem execFirmwareCommitReplace_fails (starts : AdminStarts s h a) (least : 2 ≤ slot) (most : slot ≤ 4)
    (is : i = headerOf (a.stageWindow (a.portOfFn h.fn)))
    (no : a.imageFails i (some (a.stage (a.portOfFn h.fn)).granules) c = some k) (room : a.cfg Obj.fwRefused < 2 ^ 32 - 1) :
    ∃ t, exec (.firmwareCommitReplace h slot c) s = .next t ∧ Ended t h (if k = 6 then ⟨1, 0x13⟩ else ⟨1, 0x07⟩) 0 ∧
      t.admin.slots = a.admin.slots ∧ (t.stage (a.portOfFn h.fn)).granules = [] ∧
      t.cfg Obj.fwRefused = a.cfg Obj.fwRefused + 1 := by
  let e := a.emptyStaging (portNum (a.portOfFn h.fn))
  have he : e = a.emptyStaging (portNum (a.portOfFn h.fn)) := rfl
  have admin : (e.refuseImage k slot).admin = e.admin := by simp
  have cfg : e.cfg Obj.fwRefused = a.cfg Obj.fwRefused := State.cfg_of_force (by simp [he]) ..
  have host : (e.refuseImage k slot).host = a.host := by simp [he]
  have status : checkStatus k = if k = 6 then ⟨1, 0x13⟩ else ⟨1, 0x07⟩ := rfl
  have ran : exec (.firmwareCommitReplace h slot c) s = .next ((e.refuseImage k slot).finish h (Cpl.of (checkStatus k))) :=
    (State.fwStart_of_starts starts ..).trans (congrArg _ (State.commitImage_fails least most is no))
  rw [status] at ran
  refine ⟨_, ran, starts.1.ended (State.ctx_of_host host h) _ _, ?_, ?_, ?_⟩
  · exact (congrArg (·.slots) admin).trans (State.emptyStaging_slots ..).1
  · exact (congrArg Staging.granules (State.stage_of_admin (a := e) admin _)).trans <| State.emptyStaging_granules ..
  · show (e.refuseImage k slot).cfg Obj.fwRefused = _
    rw [State.refuseImage, State.cfg_record _ _ _ _ _ _ _ _ (by unfold ObjRow.other; decide) (by unfold ObjRow.other; decide),
      State.cfg_bump_same _ _ _ _ _ (by rw [cfg]; exact room), cfg]

/-- A check that names its failure is passed where it does not hold and the rest are passed. -/
theorem checked_eq_none {p : Prop} [Decidable p] {k : Nat} {rest : Option Nat} :
    (if p then some k else rest) = none ↔ ¬ p ∧ rest = none := by
  split <;> simp [*]

/-- The first check of an image is of its header; one that passes them all has each in order (R360, R361). -/
theorem State.imageFails_header (g : List Nat)
    (bad : i.magic ≠ 0x36394C50 ∨ i.format ≠ 1 ∨ i.part ≠ 0x9664 ∨ 33554432 < i.imageLen) :
    s.imageFails i (some g) c = some 1 := by
  rw [State.imageFails, if_pos bad]

theorem State.imageFails_none (g : List Nat) : s.imageFails i (some g) c = none ↔
    i.magic = 0x36394C50 ∧ i.format = 1 ∧ i.part = 0x9664 ∧ i.imageLen ≤ 33554432 ∧ g = List.range (ceilDiv i.imageLen 4096) ∧
      c.digests = true ∧ c.ecdsa = true ∧ c.mlDsa = true ∧ (s.cfg Obj.arbCounter ≤ i.svn ∨ s.presenceUsable = true) := by
  have header : ¬ (i.magic ≠ 0x36394C50 ∨ i.format ≠ 1 ∨ i.part ≠ 0x9664 ∨ 33554432 < i.imageLen) ↔
      i.magic = 0x36394C50 ∧ i.format = 1 ∧ i.part = 0x9664 ∧ i.imageLen ≤ 33554432 := by
    simp only [not_or, Decidable.not_not, Nat.not_lt]
  rw [State.imageFails]
  by_cases bad : i.magic ≠ 0x36394C50 ∨ i.format ≠ 1 ∨ i.part ≠ 0x9664 ∨ 33554432 < i.imageLen
  · rw [if_pos bad]
    refine ⟨nofun, fun ⟨magic, format, part, len, _⟩ => absurd bad (header.mpr ⟨magic, format, part, len⟩)⟩
  · obtain ⟨magic, format, part, len⟩ := header.mp bad
    rw [if_neg bad]
    simp only [magic, format, part, len, true_and]
    have svn : ¬ (i.svn < s.cfg Obj.arbCounter ∧ (!s.presenceUsable) = true) ↔
        s.cfg Obj.arbCounter ≤ i.svn ∨ s.presenceUsable = true := by
      cases s.presenceUsable <;> simp
    simp only [checked_eq_none, svn]
    simp

end

section
variable {s : State} {k : Nat} {i : ImageHeader}

/-- The image of a slot runs: its marker and the objects that show it (R364). -/
theorem State.activate_of_image (there : s.image k = some i) :
    s.activate k = ({ s with security := { s.security with marker := k } } : State).setRunning k i := by
  rw [State.activate, there]

/-- The end of a pause that is over: only the command that waited completes. -/
theorem State.endPause_same (ended : s.host.paused = false) : s.endPause.security = s.security ∧ s.endPause.dict = s.dict ∧
    s.endPause.modes = s.modes ∧ s.endPause.admin = { s.admin with switchCmd := none } ∧ s.endPause.host.paused = false := by
  unfold State.endPause
  rw [if_neg (by simp [ended])]
  dsimp only
  split
  · exact ⟨rfl, rfl, rfl, rfl, ended⟩
  next cmd => exact ⟨rfl, rfl, rfl, by rw [← cmd], ended⟩

/-- A switch that is not to be made changes nothing; without a pause there is none (R364). -/
theorem execImageSwitch_idle (no : s.admin.switchTo = none ∨ s.host.paused = false ∨ s.has Mode.holdUp = true) :
    exec .imageSwitch s = .next s := by
  show execImageSwitch s = _
  unfold execImageSwitch
  cases goes : s.admin.switchTo with
  | none => rfl
  | some k =>
    refine if_pos ?_
    rcases no with none_ | runs | power
    · simp [goes] at none_
    · exact .inl (by simp [runs])
    · exact .inr power

/-- The state in which a switch clears ACTIVATION: the image runs, fetch goes on. -/
def State.switched (s : State) (k : Nat) : State :=
  let s1 := (s.bump Obj.actLate s.unfinished).activate k
  { s1 with
    admin := { s1.admin with switchTo := none }
    host := { s1.host with paused := false } }

theorem execImageSwitch_runs (goes : s.admin.switchTo = some k) (paused : s.host.paused = true) (power : s.has Mode.holdUp = false) :
    exec .imageSwitch s = .next ((((s.switched k).clearMode Mode.activation 11).pauseShuttles false).writeAllLines.endPause) := by
  show execImageSwitch s = _
  unfold execImageSwitch
  rw [goes]
  exact if_neg (by simp [paused, power])

theorem State.switched_same (there : s.image k = some i) : (s.switched k).security.marker = k ∧
    (s.switched k).admin.running = (if k = 1 then none else some i) ∧ (s.switched k).admin.switchTo = none ∧
    (s.switched k).host.paused = false ∧ (s.switched k).sampler = s.sampler ∧ (s.switched k).cfg Obj.fwActiveSlot = k := by
  have image : (s.bump Obj.actLate s.unfinished).image k = some i := there
  unfold State.switched
  rw [State.activate_of_image image]
  refine ⟨rfl, rfl, rfl, rfl, rfl, ?_⟩
  show State.cfg (((State.keep _ Obj.fwActiveSlot k).keep Obj.fwVersion i.version).keep Obj.fwMajor i.major) Obj.fwActiveSlot = k
  rw [State.cfg_keep_ne _ _ _ _ _ _ _ _ (by decide), State.cfg_keep_ne _ _ _ _ _ _ _ _ (by decide), State.cfg_keep_same]

/-- The switch of R364. -/
theorem execImageSwitch_switches (goes : s.admin.switchTo = some k) (paused : s.host.paused = true)
    (power : s.has Mode.holdUp = false) (there : s.image k = some i) (room : s.pendingRecs < 1024)
    (waits : s.sampler.waiting = []) : ∃ t, exec .imageSwitch s = .next t ∧ t.security.marker = k ∧
      t.cfg Obj.fwActiveSlot = k ∧ t.admin.running = (if k = 1 then none else some i) ∧ t.host.paused = false ∧
      t.admin.switchTo = none ∧ t.has Mode.activation = false := by
  obtain ⟨marker, running, none_, runs, sampler, slot⟩ := State.switched_same there
  have ran := execImageSwitch_runs goes paused power
  generalize s.switched k = w at marker running none_ runs sampler slot ran
  have off : (w.clearMode Mode.activation 11).has Mode.activation = false :=
    State.has_clearMode (by rw [sampler, waits]) (by rw [State.pendingRecs, sampler]; exact room) _ _ (by decide)
  have slot1 : (w.clearMode Mode.activation 11).cfg Obj.fwActiveSlot = k := by
    rw [State.clearMode, State.cfg_changeModes _ _ _ _ _ _ _ (by unfold ObjRow.other; decide) (by unfold ObjRow.other; decide)
      (by unfold ObjRow.other; decide) (by unfold ObjRow.other; decide) (by unfold ObjRow.other; decide), slot]
  let c := w.clearMode Mode.activation 11
  have hc : c = w.clearMode Mode.activation 11 := rfl
  let v := (c.pauseShuttles false).writeAllLines
  have hv : v = (c.pauseShuttles false).writeAllLines := rfl
  have admin : v.admin = w.admin := by simp [hv, hc, State.clearMode]
  have host : v.host.paused = false := by
    rw [hv, State.writeAllLines_paused, ← runs]
    simp [hc, State.clearMode, State.pauseShuttles]
  have security : v.security = w.security := by simp [hv, hc, State.clearMode]
  have dict : v.dict = c.dict := by simp [hv, State.pauseShuttles]
  have modes : v.modes = c.modes := by simp [hv]
  obtain ⟨endSecurity, endDict, endModes, endAdmin, endHost⟩ := State.endPause_same host
  refine ⟨_, ran, by rw [endSecurity, security, marker], ?_, by rw [endAdmin, ← running, ← admin], endHost,
    by rw [endAdmin, ← none_, ← admin], by rw [State.has, endModes, modes]; exact off⟩
  rw [State.cfg_of_force (congrArg _ (endDict.trans dict)), slot1]

end

section
variable {s a : State} {h : Hdr} {slot : Nat} {c : ImageChecks} {i : ImageHeader}

/-- A commit of a slot's own image: none there, or one that passes again (R362). -/
theorem execFirmwareCommitActivateReset_empty (starts : AdminStarts s h a) (least : 1 ≤ slot) (most : slot ≤ 4)
    (none_ : a.image slot = none) : exec (.firmwareCommitActivateReset h slot c) s = .next (a.finish h ⟨⟨1, 0x06⟩, 0, 0⟩) := by
  show execFirmwareCommitActivateReset h slot c s = _
  unfold execFirmwareCommitActivateReset
  rw [State.fwStart_of_starts starts, if_neg (by omega)]
  simp only [none_]
  rfl

theorem execFirmwareCommitActivateReset_passes (starts : AdminStarts s h a) (least : 1 ≤ slot) (most : slot ≤ 4)
    (there : a.image slot = some i) (pass : a.imageFails i none c = none) :
    ∃ t, exec (.firmwareCommitActivateReset h slot c) s = .next t ∧ Ended t h ⟨0, 0⟩ 0 ∧ t.admin.onReset = some slot ∧
      t.admin.slots = a.admin.slots := by
  show ∃ t, execFirmwareCommitActivateReset h slot c s = .next t ∧ _
  unfold execFirmwareCommitActivateReset
  rw [State.fwStart_of_starts starts, if_neg (by omega)]
  simp only [there, pass]
  refine ⟨_, rfl, starts.1.ended ?_ _ _, rfl, ?_⟩
  · (repeat' split) <;> rfl
  · (repeat' split) <;> rfl

end

/-- Settles O41: the range and the granules of a download, the checks of a commit before its slot, the two kinds of activation,
and the switch behind its pause. -/
theorem firmwareIsCheckedStoredAndSwitched : Obligations.FirmwareIsCheckedStoredAndSwitched := by
  refine ⟨fun h s a starts => ⟨fun o n i fits => ⟨fun bad => ?_, fun ho hn size => ⟨fun written => ?_, fun fresh => ?_⟩⟩,
    fun slot c no => ⟨(State.fwStart_of_starts starts ..).trans (congrArg _ (State.commitImage_none no)),
      (State.fwStart_of_starts starts ..).trans (congrArg _ (State.commitImage_none no)),
      (State.fwStart_of_starts starts ..).trans (congrArg _ (State.commitImage_none no))⟩,
    fun slot c p i least most hp is => ⟨fun k no room => ?_, fun pass => ?_⟩,
    fun slot c least most => ⟨execFirmwareCommitActivateReset_empty starts least most,
      fun i there pass => execFirmwareCommitActivateReset_passes starts least most there pass⟩⟩,
    fun i g c s => ⟨State.imageFails_header g, State.imageFails_none g⟩,
    fun s => ⟨execImageSwitch_idle, fun k i goes paused power there room waits =>
      execImageSwitch_switches goes paused power there room waits⟩⟩
  · rw [execFirmwareImageDownload_of_starts starts fits, if_pos bad]
  · rw [execFirmwareImageDownload_of_starts starts fits, if_neg (by omega), if_pos written]
  · refine ⟨_, (execFirmwareImageDownload_of_starts starts fits o i).trans (congrArg _ ((if_neg (by omega)).trans (if_neg ?_))),
      starts.1.ended (State.ctx_of_host (State.stageImage_host ..) h) _ _, fun g => ?_⟩
    · rintro ⟨g, hg, least, most⟩
      rcases fresh g hg with before | after <;> omega
    · show g ∈ ((a.stageImage (a.portOfFn h.fn) o n i).stage (a.portOfFn h.fn)).granules ↔ _
      rw [State.stageImage_stage]
      exact State.stageBytes_granules _ ho hn g
  · subst hp
    exact execFirmwareCommitReplace_fails starts least most is no room
  · subst hp
    obtain ⟨host, -, -, rom⟩ := State.passed_same a (a.portOfFn h.fn) slot i
    obtain ⟨slots, onReset, running, granules⟩ := State.passed_admin a (a.portOfFn h.fn) slot i
    have went := fun done => State.commitImage_passes (done := done) least most is pass
    have same := State.ctx_of_host host h
    generalize a.passed (a.portOfFn h.fn) slot i = b at rom slots onReset running granules went same
    have noRom : ¬ b.security.rom = true := by rw [rom, starts.1.rom]; decide
    have stays : b.runningImage = a.runningImage := by rw [State.runningImage, running, State.runningImage]
    have filled : Tbl.find b.admin.slots slot = some i := by rw [slots]; exact Tbl.find_put_same ..
    refine ⟨⟨_, (State.fwStart_of_starts starts ..).trans (congrArg _ (went _)), starts.1.ended same _ _, granules, filled,
        fun j ne => ?_, onReset⟩,
      ⟨_, (State.fwStart_of_starts starts ..).trans (congrArg _ ((went _).trans (if_neg noRom))), starts.1.ended same _ _,
        filled, rfl⟩,
      fun other => ⟨_, (State.fwStart_of_starts starts ..).trans (congrArg _ ((went _).trans ((if_neg noRom).trans
        (if_pos (by rw [stays]; exact other))))), starts.1.ended same _ _, rfl⟩,
      fun major not => ⟨_, (State.fwStart_of_starts starts ..).trans (congrArg _ ((went _).trans ((if_neg noRom).trans
        ((if_neg (by rw [stays]; exact not_not_intro major)).trans (if_pos (by rw [not]; rfl)))))), starts.1.ended same _ _, rfl⟩,
      fun major now san rec runs room waits =>
        execFirmwareCommitActivateNow_pauses starts least most is pass major now san rec runs room waits⟩
    show Tbl.find b.admin.slots j = _
    rw [slots]
    exact Tbl.find_put_ne _ _ ne

end Sys2Proof.Machine
end


section
/-! Self-tests and sanitizes (R352, R355, R365, R366) -/
namespace Sys2Proof.Machine

section
variable {s a : State} {h : Hdr}

/-- A mode change leaves the modes as they are, or changes them by its word. -/
theorem State.changeModes_modes (set clear : BitVec 12) (cause : Nat) :
    (s.changeModes set clear cause).modes = s.modes ∨ (s.changeModes set clear cause).modes = newModes s.modes set clear := by
  unfold State.changeModes
  extract_lets new r s1 s2
  repeat' split
  · exact .inl rfl
  · exact .inr (by simp [new])
  · exact .inr (by simp [new])
  · exact .inl rfl

/-- Clearing a mode sets none. -/
theorem State.clearMode_stays {m : Nat} (off : s.has m = false) (k cause : Nat) : (s.clearMode k cause).has m = false := by
  unfold State.has at off
  unfold State.has State.clearMode
  rcases State.changeModes_modes (s := s) 0 (modeBit k) cause with same | new
  · rw [same, off]
  · rw [new]
    simp [newModes, off]

/-- The end of DEGRADED sets no mode. -/
theorem State.settleDegraded_stays {m : Nat} (off : s.has m = false) : s.settleDegraded.has m = false := by
  unfold State.settleDegraded
  split
  · refine State.clearMode_stays ?_ ..
    rw [State.has, (state_record_frame s ..).1]
    exact off
  · exact off

/-- While a sanitize is in progress or has failed, the other managers' commands end with its status. -/
theorem State.sanRun_sanitized (starts : AdminStarts s h a) (on : a.has Mode.sanitize = true) (body : State → State × Cpl) :
    s.sanRun h body = a.finish h ⟨⟨0, 0x1D⟩, 0, 0⟩ := by
  rw [State.sanRun, State.managerRun_of_starts starts]
  simp only [State.sanGate, on, if_true]
  rfl

/-- A self-test that may start (R355). -/
theorem State.startTest_starts (starts : AdminStarts s h a) (open_ : a.has Mode.sanitize = false) (idle : a.admin.selftest = none)
    {n : Nat} (named : n = 0 ∨ n = 0xFFFFFFFF ∨ a.ns? n ≠ none) (extended : Bool) :
    s.startTest h n extended = .next ((a.beginTest h n extended).finish h ⟨⟨0, 0⟩, 0, 0⟩) := by
  unfold State.startTest
  rw [State.sanRun_of_starts starts open_, if_neg (by simp [idle]), if_neg]
  · rfl
  · rintro ⟨some_, all, none_⟩
    rcases named with is | is | there
    · exact some_ is
    · exact all is
    · exact there (by simpa using none_)

theorem State.startTest_busy (starts : AdminStarts s h a) (open_ : a.has Mode.sanitize = false) (busy : a.admin.selftest ≠ none)
    (n : Nat) (extended : Bool) : s.startTest h n extended = .next (a.finish h ⟨⟨1, 0x1D⟩, 0, 0⟩) := by
  unfold State.startTest
  rw [State.sanRun_of_starts starts open_, if_pos (by simpa [Option.isSome_iff_ne_none] using busy)]
  rfl

theorem State.startTest_unnamed (starts : AdminStarts s h a) (open_ : a.has Mode.sanitize = false) (idle : a.admin.selftest = none)
    {n : Nat} (some_ : n ≠ 0) (all : n ≠ 0xFFFFFFFF) (none_ : a.ns? n = none) (extended : Bool) :
    s.startTest h n extended = .next (a.finish h ⟨⟨0, 0x0B⟩, 0, 0⟩) := by
  unfold State.startTest
  rw [State.sanRun_of_starts starts open_, if_neg (by simp [idle]), if_pos ⟨some_, all, by simp [none_]⟩]
  rfl

theorem State.beginTest_selftest (n : Nat) (extended : Bool) : (a.beginTest h n extended).admin.selftest
    = some ⟨extended, if n = 0xFFFFFFFF then 0 else n, 1, h.fn.code, 0, false⟩ := by
  unfold State.beginTest
  dsimp only
  split
  · simp [State.setMode]
  · rfl

theorem State.beginTest_maintenance (n : Nat) (rec : a.has Mode.recovery = false) (room : a.pendingRecs < 1024)
    (waits : a.sampler.waiting = []) : (a.beginTest h n true).has Mode.maintenance = true := by
  unfold State.beginTest
  dsimp only
  rw [if_pos ⟨rfl, by simpa using rec⟩, State.has_setMode (by exact waits) (by exact room)]
  simp [modeBit, Mode.maintenance]

/-- The end of a self-test: its result heads the log (R355). -/
theorem State.endTest_of_test {x : SelfTest} (runs : s.admin.selftest = some x) (result : Nat) :
    (s.endTest result).admin.selftest = none ∧
    (s.endTest result).admin.testLog.head? = some (result + 16 * (if x.extended then 2 else 1), x.segment) := by
  unfold State.endTest
  rw [runs]
  dsimp only
  split <;> simp [State.clearMode]

/-- The state in which a step of a self-test has found nothing but what it is told of. -/
def State.stepped (s : State) (x : SelfTest) (failed : Bool) : State :=
  let s1 := if x.extended then s.setMode Mode.maintenance 8 else s
  { s1 with admin := { s1.admin with selftest := some { x with
      failed := if failed = true ∧ x.failed = 0 then x.segment else x.failed } } }

theorem execSelfTestStep_runs {x : SelfTest} (runs : s.admin.selftest = some x) (open_ : s.testOpen = true)
    (goes : x.stopping = false) (failed : Bool) : exec (.selfTestStep true failed [] none none) s = .next
      ((s.stepped x failed).endSegment { x with failed := if failed = true ∧ x.failed = 0 then x.segment else x.failed }) := by
  show execSelfTestStep true failed [] none none s = _
  unfold execSelfTestStep
  rw [runs]
  dsimp only
  rw [if_neg (by simp [open_]), if_neg (by simp [goes])]
  simp only [ite_self, List.foldl_nil, List.any_nil, Option.isSome_none, Bool.or_false, if_true]
  rfl

/-- A segment that is not the last goes on to the next one. -/
theorem State.endSegment_next {t : SelfTest} (more : t.segment < t.last) :
    (s.endSegment t).admin.selftest = some { t with segment := t.segment + 1 } := by
  unfold State.endSegment
  dsimp only
  rw [if_pos more]

/-- The last segment ends the self-test: 0h, or 7h with the first segment that failed. -/
theorem State.endSegment_last {t : SelfTest} (last : t.last ≤ t.segment) : (s.endSegment t).admin.selftest = none ∧
    (s.endSegment t).admin.testLog.head? = some (if t.failed = 0 then (16 * (if t.extended then 2 else 1), t.segment)
      else (7 + 16 * (if t.extended then 2 else 1), t.failed)) := by
  unfold State.endSegment
  dsimp only
  rw [if_neg (by omega)]
  split
  next passed =>
    obtain ⟨none_, log⟩ := State.endTest_of_test (s := { (if t.segment = 3 then s.advanceDramTest else s) with
      admin := { (if t.segment = 3 then s.advanceDramTest else s).admin with selftest := some t } }) rfl 0
    exact ⟨none_, log.trans (by rw [Nat.zero_add])⟩
  next bad => exact State.endTest_of_test (x := { t with segment := t.failed }) rfl 7

end

section
variable {s a : State} {h : Hdr}

/-- An erase of a sanitize by its conditions (R365). -/
theorem State.sanitizeCmd_of_starts (starts : AdminStarts s h a) (action : Nat) (ab nd em au : Bool) :
    s.sanitizeCmd h action ab nd em au = .next (
      if nd = true ∨ em = true ∨ a.foreignNs (a.portOfFn h.fn) = true then a.finish h ⟨⟨0, 0x02⟩, 0, 0⟩
      else if a.admin.sanitize ≠ none then a.finish h ⟨⟨0, 0x1D⟩, 0, 0⟩
      else if a.sanFailed = true ∧ au = true ∧ a.admin.sanAuse = false then a.finish h ⟨⟨0, 0x1C⟩, 0, 0⟩
      else (a.startSanitize action ab false au).finish h ⟨⟨0, 0⟩, 0, 0⟩) := by
  unfold State.sanitizeCmd
  rw [State.managerRun_of_starts starts]
  simp only [Option.isSome_iff_ne_none, Bool.not_eq_true']
  (repeat' split) <;> rfl

/-- AUSE is refused only after a failed sanitize without it. -/
theorem State.sanitize_retry {au : Bool} (may : a.has Mode.sanitize = false ∨ au = false ∨ a.admin.sanAuse = true) :
    ¬ (a.sanFailed = true ∧ au = true ∧ a.admin.sanAuse = false) := by
  rintro ⟨failed, on, no⟩
  rcases may with off | off | yes
  · simp [State.sanFailed, off] at failed
  · simp [on] at off
  · simp [no] at yes

/-- The three refusals of a sanitize's exit, and its ends. -/
theorem execSanitizeExitFailureMode_of_starts (starts : AdminStarts s h a) (own : a.foreignNs (a.portOfFn h.fn) = false) :
    exec (.sanitizeExitFailureMode h) s = .next (
      if a.admin.sanitize ≠ none then a.finish h ⟨⟨0, 0x1D⟩, 0, 0⟩
      else if a.sanFailed = true then (a.clearMode Mode.sanitize 10).finish h ⟨⟨0, 0⟩, 0, 0⟩
      else a.finish h ⟨⟨0, 0⟩, 0, 0⟩) := by
  show execSanitizeExitFailureMode h s = _
  unfold execSanitizeExitFailureMode
  rw [State.managerRun_of_starts starts, if_neg (by simp [own])]
  simp only [Option.isSome_iff_ne_none]
  (repeat' split) <;> rfl

/-- A status that reaches a list of commands ends each of them that is open, and only with it. -/
theorem ended_foldl_finish (st : Status) (l : List Ctx) (k : Hdr) (t : State) :
    (Ended t k st 0 → Ended (l.foldl (fun a c => a.finish c.hdr (Cpl.of st)) t) k st 0) ∧
    (∀ d, t.ctx? k = some d → d.done = none → (∃ c ∈ l, c.hdr = k) →
      Ended (l.foldl (fun a c => a.finish c.hdr (Cpl.of st)) t) k st 0) := by
  induction l generalizing t with
  | nil => exact ⟨id, fun d _ _ ⟨c, hc, _⟩ => absurd hc (by simp)⟩
  | cons c l ih =>
    have kept : Ended t k st 0 → Ended (t.finish c.hdr (Cpl.of st)) k st 0 := by
      rintro ⟨d, hd, done⟩
      by_cases is : k = c.hdr
      · subst is
        refine ⟨_, State.ctx_finish_same _ hd, ?_⟩
        rw [Ctx.ended_done, done]
        rfl
      · exact ⟨d, (State.ctx_finish_ne _ is).trans hd, done⟩
    refine ⟨fun ended => (ih _).1 (kept ended), fun d hd open_ ⟨e, he, is⟩ => ?_⟩
    by_cases here : c.hdr = k
    · subst here
      exact (ih _).1 (State.ended_finish _ hd open_)
    · refine (ih _).2 d ((State.ctx_finish_ne _ (Ne.symm here)).trans hd) open_ ⟨e, ?_, is⟩
      rcases List.mem_cons.mp he with rfl | he
      · exact absurd is here
      · exact he

/-- A mode that ends I/O ends every I/O command that is not admitted (R366). -/
theorem State.sweepIo_ended (st : Status) {c : Ctx} (hc : s.ctx? c.hdr = some c) (io : c.hdr.sqid ≠ 0) (open_ : c.done = none)
    (no : c.admitted = false) : Ended (s.sweepIo st) c.hdr st 0 :=
  (ended_foldl_finish st _ c.hdr s).2 c hc open_
    ⟨c, List.mem_filter.mpr ⟨State.ctx_mem hc, by simp [io, open_, no]⟩, rfl⟩

/-- Once its keys are gone and its stripes given up, a sanitize has only its erases to wait for (R370). -/
theorem execSanitizeEnd_swept {z : Sanitize} (runs : s.admin.sanitize = some z) (swept : z.swept = true)
    (gone : z.keysGone = true) (works : s.cipher.works = []) : exec (.sanitizeEnd false) s = .next (
      if z.action = 2 ∧ s.store.erases ≠ [] then s
      else (({ s with admin := { s.admin with sanitize := none, sanStatus := 1 } } : State).clearMode
        Mode.sanitize 10).settleDegraded) := by
  have keys : s.keysDone = true := by simp [State.keysDone, runs, gone, works]
  have same : s.sweepStripes = s := by
    unfold State.sweepStripes
    simp only [runs]
    exact if_neg (by simp [swept])
  show execSanitizeEnd false s = _
  unfold execSanitizeEnd
  rw [if_neg (by simp [runs]), if_neg (by decide), same]
  simp only [keys, runs, Option.any_some, decide_eq_true_eq, Bool.not_true, Bool.false_eq_true, false_or]
  (repeat' split) <;> rfl

end

/-- Settles O42: each command by its checks, each step by the segment that it ends, each end by what is left. -/
theorem selfTestsAndSanitizesRun : Obligations.SelfTestsAndSanitizesRun := by
  refine ⟨fun h n s a starts => ⟨fun on => ⟨congrArg _ (State.sanRun_sanitized starts on _), congrArg _ (State.sanRun_sanitized starts on _)⟩,
      fun open_ => ⟨fun busy => ⟨State.startTest_busy starts open_ busy n _, State.startTest_busy starts open_ busy n _⟩,
        fun idle some_ all none_ => ⟨State.startTest_unnamed starts open_ idle some_ all none_ _,
          State.startTest_unnamed starts open_ idle some_ all none_ _⟩,
        fun idle named => ⟨⟨_, State.startTest_starts starts open_ idle named false, starts.1.ended rfl _ _, rfl, rfl⟩,
          ⟨_, State.startTest_starts starts open_ idle named true, starts.1.ended (State.ctx_of_host (by simp) h) _ _,
            State.beginTest_selftest .., State.beginTest_maintenance (h := h) n⟩⟩, fun x runs => ?_⟩⟩,
    fun x done failed s runs => ⟨fun shut => ?_, fun open_ => ⟨fun stop => ?_, fun goes => ⟨fun more => ?_, fun last first => ?_⟩⟩⟩,
    fun h ab nd em au s a starts => ⟨fun bad => ⟨?_, ?_⟩, fun own => ⟨fun busy => ⟨?_, ?_, ?_⟩, fun idle may => ⟨?_, ?_⟩,
      fun idle off => ?_, fun idle on room waits => ?_⟩⟩,
    fun st s c hc io open_ no => State.sweepIo_ended st hc io open_ no,
    fun s => ⟨fun idle f => ?_, fun z runs => ⟨⟨_, if_neg (by simp [runs]), rfl, rfl, rfl⟩,
      fun swept gone works => ⟨fun block left => ?_, fun done room waits => ?_⟩⟩⟩⟩
  · have ran : exec (.deviceSelfTestAbort h) s = _ := congrArg Host.Outcome.next (State.sanRun_of_starts starts open_ _)
    exact ⟨_, ran, starts.1.ended rfl _ _, by simp [State.finish, State.modCtx, runs]⟩
  · show execSelfTestStep done failed [] none none s = _
    unfold execSelfTestStep
    rw [runs]
    exact if_pos (by simp [shut])
  · have ran : exec (.selfTestStep done failed [] none none) s = .next (s.endTest 1) := by
      show execSelfTestStep done failed [] none none s = _
      unfold execSelfTestStep
      rw [runs]
      exact (if_neg (by simp [open_])).trans (if_pos stop)
    obtain ⟨none_, log⟩ := State.endTest_of_test runs 1
    exact ⟨_, ran, none_, log.trans (by cases x.extended <;> rfl)⟩
  · exact ⟨_, execSelfTestStep_runs runs open_ goes failed, State.endSegment_next more⟩
  · obtain ⟨none_, log⟩ := State.endSegment_last (s := s.stepped x failed)
      (t := { x with failed := if failed = true ∧ x.failed = 0 then x.segment else x.failed }) last
    refine ⟨_, execSelfTestStep_runs runs open_ goes failed, none_, fun some_ => log.trans ?_⟩
    cases failed <;> simp [first, some_]
  · exact (State.sanitizeCmd_of_starts starts 2 ab nd em au).trans (congrArg _ (if_pos bad))
  · exact (State.sanitizeCmd_of_starts starts 4 ab nd em au).trans (congrArg _ (if_pos bad))
  · exact (State.sanitizeCmd_of_starts starts 2 ab false false au).trans
      (congrArg _ ((if_neg (by simp [own])).trans (if_pos busy)))
  · exact (State.sanitizeCmd_of_starts starts 4 ab false false au).trans
      (congrArg _ ((if_neg (by simp [own])).trans (if_pos busy)))
  · rw [execSanitizeExitFailureMode_of_starts starts own, if_pos busy]
  · exact (State.sanitizeCmd_of_starts starts 2 ab false false au).trans (congrArg _ ((if_neg (by simp [own])).trans
      ((if_neg (not_not_intro idle)).trans (if_neg (State.sanitize_retry may)))))
  · exact (State.sanitizeCmd_of_starts starts 4 ab false false au).trans (congrArg _ ((if_neg (by simp [own])).trans
      ((if_neg (not_not_intro idle)).trans (if_neg (State.sanitize_retry may)))))
  · rw [execSanitizeExitFailureMode_of_starts starts own, if_neg (not_not_intro idle), if_neg (by simp [State.sanFailed, off])]
  · refine ⟨_, (execSanitizeExitFailureMode_of_starts starts own).trans (congrArg _ ((if_neg (not_not_intro idle)).trans
      (if_pos (by simp [State.sanFailed, on, idle])))), starts.1.ended (State.ctx_of_host (by simp [State.clearMode]) h) _ _,
      State.has_clearMode waits room _ _ (by decide)⟩
  · exact if_pos (by simp [idle])
  · rw [execSanitizeEnd_swept runs swept gone works, if_pos ⟨block, left⟩]
  · have admin {t : State} : (t.clearMode Mode.sanitize 10).settleDegraded.admin = t.admin := by simp [State.clearMode]
    refine ⟨_, (execSanitizeEnd_swept runs swept gone works).trans (congrArg _ (if_neg ?_)), congrArg (·.sanitize) admin,
      congrArg (·.sanStatus) admin, State.settleDegraded_stays (State.has_clearMode (by exact waits) (by exact room) _ _ (by decide))⟩
    rintro ⟨block, left⟩
    exact done.elim (fun other => other block) left

end Sys2Proof.Machine
end


section
/-! Mode changes, HOLD-UP and shutdown (R368, R369, R373, R379) -/
namespace Sys2Proof.Machine

section
variable {s : State} {set clear : BitVec 12} {cause : Nat}

/-- A mode change that changes something, whose record has room or the slot of HOLD-UP (R369). -/
theorem State.changeModes_enters (new : newModes s.modes set clear ≠ s.modes)
    (room : cause = 13 ∨ (s.pendingRecs < 1024 ∧ s.sampler.waiting = [])) :
    (s.changeModes set clear cause).modes = newModes s.modes set clear ∧
    (s.changeModes set clear cause).cfg Obj.modeSeq = s.sampler.next ∧
    (s.changeModes set clear cause).cfg Obj.modeChanges = (s.bump Obj.modeChanges).cfg Obj.modeChanges ∧
    (s.changeModes set clear cause).host = s.host ∧ (s.changeModes set clear cause).store = s.store := by
  have kept : ((s.keep Obj.modeSeq s.sampler.next).bump Obj.modeChanges).cfg Obj.modeSeq = s.sampler.next := by
    rw [State.cfg_bump_ne _ _ _ _ _ _ _ _ (by decide), State.cfg_keep_same]
  have counted : ((s.keep Obj.modeSeq s.sampler.next).bump Obj.modeChanges).cfg Obj.modeChanges
      = (s.bump Obj.modeChanges).cfg Obj.modeChanges := by
    simp only [State.bump, State.cfg_keep_same]
    rw [State.cfg_keep_ne _ _ _ _ _ _ _ _ (by decide)]
  unfold State.changeModes
  dsimp only
  rw [if_neg new]
  by_cases down : cause = 13
  · rw [if_pos down]
    refine ⟨by simp, ?_, ?_, by simp, by simp⟩ <;>
      rw [State.cfg_noteDefer _ _ _ _ (by unfold ObjRow.other; decide) (by unfold ObjRow.other; decide)
        (by unfold ObjRow.other; decide)]
    · exact kept
    · exact counted
  · rw [if_neg down, if_pos (room.resolve_left down)]
    refine ⟨by simp, ?_, ?_, by simp, by simp⟩ <;>
      rw [State.cfg_noteDefer _ _ _ _ (by unfold ObjRow.other; decide) (by unfold ObjRow.other; decide)
        (by unfold ObjRow.other; decide)]
    · exact (State.cfg_enter _ _ _ _ _ (by unfold ObjRow.other; decide)).trans kept
    · exact (State.cfg_enter _ _ _ _ _ (by unfold ObjRow.other; decide)).trans counted

/-- One whose record has no room waits. -/
theorem State.changeModes_waits (new : newModes s.modes set clear ≠ s.modes) (other : cause ≠ 13)
    (full : 1024 ≤ s.pendingRecs ∨ s.sampler.waiting ≠ []) : s.changeModes set clear cause
      = { s with sampler := { s.sampler with waiting := s.sampler.waiting ++ [⟨set, clear, cause⟩], due := true } } := by
  unfold State.changeModes
  dsimp only
  rw [if_neg new, if_neg other, if_neg]
  rintro ⟨room, none_⟩
  rcases full with full | some_
  · omega
  · exact some_ none_

/-- Clearing a mode that is not set does nothing. -/
theorem State.clearMode_unset {m : Nat} (off : s.has m = false) : s.clearMode m cause = s := by
  have same : newModes s.modes 0 (modeBit m) = s.modes := by
    refine BitVec.eq_of_getLsbD_eq fun i hi => ?_
    have bit : s.modes.getLsbD m = false := off
    by_cases is : i = m
    · subst is
      simp [newModes, bit]
    · have far : (modeBit m).getLsbD i = false := by
        simp [modeBit]
        omega
      rw [BitVec.getLsbD_eq_getElem hi] at far
      simp [newModes, far, hi]
  unfold State.clearMode State.changeModes
  dsimp only
  rw [if_pos same]

end

/-! HOLD-UP stays the only mode through what it fences and ends. -/

/-- HOLD-UP is the only mode. -/
def OnlyHoldUp (s : State) : Prop := s.modes = modeBit Mode.holdUp

section
variable {s : State}

theorem OnlyHoldUp.unset (only : OnlyHoldUp s) {m : Nat} (other : m ≠ Mode.holdUp) : s.has m = false := by
  rw [State.has, only]
  simp only [modeBit, Mode.holdUp, ne_eq, BitVec.getLsbD_shiftLeft, BitVec.getLsbD_one] at other ⊢
  simp only [Bool.and_eq_false_imp, Bool.and_eq_true, decide_eq_true_eq, Bool.not_eq_true', decide_eq_false_iff_not]
  omega

theorem OnlyHoldUp.clear (only : OnlyHoldUp s) {m : Nat} (other : m ≠ Mode.holdUp) (cause : Nat) :
    OnlyHoldUp (s.clearMode m cause) := by
  rw [State.clearMode_unset (only.unset other)]
  exact only

theorem OnlyHoldUp.of_modes {t : State} (only : OnlyHoldUp s) (same : t.modes = s.modes) : OnlyHoldUp t := same.trans only

theorem OnlyHoldUp.endTest (only : OnlyHoldUp s) (result : Nat) : OnlyHoldUp (s.endTest result) := by
  unfold State.endTest
  split
  · exact only
  · dsimp only
    split
    · exact (only.of_modes (by simp)).clear (by decide) _
    · exact only.of_modes (by simp)

theorem OnlyHoldUp.fenceManager (only : OnlyHoldUp s) (f : Func) (row : Nat) : OnlyHoldUp (s.fenceManager f row) := by
  unfold State.fenceManager
  dsimp only
  refine OnlyHoldUp.of_modes (s := if s.admin.selftest.any (·.starter = f.code) then s.endTest 2 else s) ?_ (by simp)
  split
  · exact only.endTest 2
  · exact only

theorem OnlyHoldUp.settleFreeze (only : OnlyHoldUp s) : OnlyHoldUp s.settleFreeze := by
  unfold State.settleFreeze
  split
  · exact only
  · exact only.clear (by decide) _

theorem OnlyHoldUp.fence (only : OnlyHoldUp s) (f : Func) (row : Nat) (v : Bool) : OnlyHoldUp (s.fence f row v) := by
  unfold State.fence
  dsimp only
  split
  · exact only
  · split
    · refine only.of_modes ?_
      simp only [state_stopChannels_frame]
      split <;> rfl
    · cases f with
      | inst n => exact OnlyHoldUp.settleFreeze (only.of_modes (by simp))
      | pf0 => exact OnlyHoldUp.fenceManager (only.of_modes (by simp)) ..
      | pf1 => exact OnlyHoldUp.fenceManager (only.of_modes (by simp)) ..

theorem OnlyHoldUp.fencePort (only : OnlyHoldUp s) (p : Port) (row : Nat) (v : Bool) : OnlyHoldUp (s.fencePort p row v) := by
  unfold State.fencePort State.fenceInstances
  refine List.foldlRecOn _ _ (only.fence ..) fun t ht n _ => ?_
  split
  · exact ht.fence ..
  · exact ht

theorem OnlyHoldUp.beginDump (only : OnlyHoldUp s) : OnlyHoldUp s.beginDump ∧ s.beginDump.power.dumping = true := by
  have fenced : OnlyHoldUp ((s.fencePort .a 7).fencePort .b 7) := (only.fencePort .a 7 false).fencePort .b 7 false
  unfold State.beginDump
  refine ⟨?_, by simp⟩
  extract_lets s1 down s2 fl s3 s4
  have third : OnlyHoldUp s3 := fenced.of_modes (by simp [s3, s2, down, s1])
  have ended : OnlyHoldUp (s3.dropClaims.endTest 8) := OnlyHoldUp.endTest (third.of_modes (by simp)) 8
  exact ended.of_modes (by simp [s4])

/-- The change into HOLD-UP leaves no other mode, from any modes (R379). -/
theorem State.changeModes_holdUp : OnlyHoldUp (s.changeModes (modeBit Mode.holdUp) (~~~(modeBit Mode.holdUp)) 13) := by
  have word : newModes s.modes (modeBit Mode.holdUp) (~~~(modeBit Mode.holdUp)) = modeBit Mode.holdUp := by
    rw [newModes, BitVec.not_not]
    refine BitVec.eq_of_getLsbD_eq fun i _ => ?_
    rw [BitVec.getLsbD_or, BitVec.getLsbD_and]
    cases (modeBit Mode.holdUp).getLsbD i <;> simp
  by_cases new : newModes s.modes (modeBit Mode.holdUp) (~~~(modeBit Mode.holdUp)) = s.modes
  · unfold State.changeModes
    dsimp only
    rw [if_pos new]
    exact new.symm.trans word
  · exact (State.changeModes_enters new (.inl rfl)).1.trans word

theorem State.enterHoldUp_only : OnlyHoldUp s.enterHoldUp ∧ s.enterHoldUp.power.dumping = true := by
  unfold State.enterHoldUp
  exact OnlyHoldUp.beginDump (State.changeModes_holdUp (s := s.wakeForDump))

end

/-- Settles O43: what a mode change does is in one equation for each of its ways; HOLD-UP's change leaves one mode, which what
follows keeps. -/
theorem modeChangesAreExact : Obligations.ModeChangesAreExact := by
  refine ⟨fun set clear cause s new => ⟨fun room => ?_, fun other full => ?_⟩,
    fun us t s => ⟨fun no => if_neg ?_, fun long off runs => ⟨_, if_pos ⟨long, (Bool.not_eq_true' _).mpr off, (Bool.not_eq_true' _).mpr runs⟩,
      State.enterHoldUp_only⟩⟩,
    fun f s => ⟨fun no => if_neg ?_, fun en zero other => if_pos ⟨en, zero, other⟩⟩⟩
  · obtain ⟨modes, seq, changes, host, store⟩ := State.changeModes_enters new room
    refine ⟨modes, seq, fun small => ?_, host, store⟩
    rw [changes, State.cfg_bump_same _ _ _ _ _ (by exact small)]
  · rw [State.changeModes_waits new other full]
    exact ⟨rfl, rfl⟩
  · rintro ⟨long, off, runs⟩
    have long : s.cfg Obj.pwrfailFilterUs ≤ us := long
    have off : (!s.has Mode.holdUp) = true := off
    have runs : (!s.power.held) = true := runs
    rcases no with short | on | held
    · omega
    · simp [on] at off
    · simp [held] at runs
  · rintro ⟨en, zero, other⟩
    rcases no with off | down | fencing
    · simp [off] at en
    · exact down zero
    · exact other fencing

end Sys2Proof.Machine
end


section
/-! Domains stop in their order (R390, R391, R396 to R399) -/
namespace Sys2Proof.Machine

section
variable {α β : Type}

/-- What a table holds after an entry-wise change of those that pass a test. -/
theorem Tbl.find_filter_map {t : Tbl α} {k : Nat} {v : α} (there : Tbl.find t k = some v) (p : Nat × α → Bool) (g : α → β)
    (pass : p (k, v) = true) : Tbl.find ((t.filter p).map fun e => (e.1, g e.2)) k = some (g v) := by
  induction t with
  | nil => cases there
  | cons e t ih =>
    obtain ⟨j, w⟩ := e
    simp only [Tbl.find] at there
    split at there
    next is =>
      cases there
      subst is
      rw [List.filter_cons_of_pos pass]
      simp [Tbl.find]
    next ne =>
      by_cases keep : p (j, w) = true
      · rw [List.filter_cons_of_pos keep]
        simpa [Tbl.find, ne] using ih there
      · rw [List.filter_cons_of_neg keep]
        exact ih there

end

section
variable {s : State} {k d : Nat}

/-- Nothing ends the entry. -/
theorem State.settleEntry_at (stands : EntryAt s k) : s.settleEntry = s := by
  obtain ⟨-, defer, quiet, target⟩ := stands
  refine if_neg ?_
  rintro ⟨-, no | no | no⟩
  · exact no defer
  · simp [quiet] at no
  · omega

theorem State.settleEntry_none (none_ : s.power.entry = none) : s.settleEntry = s := if_neg (by simp [none_])

theorem ShuttleSt.resume_desc {x : ShuttleSt} {e : ShuttleDesc} (has : x.resume.desc = some e) : x.desc = some e := by
  unfold ShuttleSt.resume ShuttleSt.look at has
  (repeat' split at has) <;> simp_all

theorem ShuttleSt.pause_same (x : ShuttleSt) : x.pause.pauseDom = x.pauseDom ∧ x.pause.desc = x.desc := by
  unfold ShuttleSt.pause
  split <;> exact ⟨rfl, rfl⟩

/-- Every channel whose descriptor touches a domain that is not ON takes PAUSE_DOM (R316, R390). -/
theorem State.domainPauses_pauses {x : DomainSt} (listed : (d, x) ∈ s.power.domains) (stops : x.state ≠ .on) {n : Nat}
    {y : ShuttleSt} {e : ShuttleDesc} (hy : Tbl.find s.domainPauses.engines.shuttles n = some y) (desc : y.desc = some e)
    (through : touches s.dual (if n < 16 then .a else .b) e d = true) : y.pauseDom = true := by
  obtain ⟨⟨m, z⟩, -, hz⟩ := List.mem_map.mp (Tbl.mem_of_find hy)
  obtain ⟨rfl, mapped⟩ := Prod.mk.inj hz
  have paused (has : z.desc = some e) : s.pausedBy m z = true := by
    simp only [State.pausedBy, has]
    exact List.any_eq_true.mpr ⟨(d, x), listed, by simp [stops, through]⟩
  dsimp only at mapped
  split at mapped
  · subst mapped
    exact (ShuttleSt.pause_same _).1
  next not =>
    subst mapped
    exact absurd (paused (ShuttleSt.resume_desc (x := { z with pauseDom := false }) desc)) not

/-- A domain that is not as awake is listed under its number. -/
theorem State.setDomain_listed {x : DomainSt} (ne : x ≠ DomainSt.awake) : (d, x) ∈ (s.setDomain d x).power.domains := by
  refine Tbl.mem_of_find ?_
  unfold State.setDomain Tbl.set
  rw [if_neg ne]
  exact Tbl.find_put_same ..

theorem State.domain_of_domains {t : State} (same : t.power.domains = s.power.domains) (j : Nat) : t.domain j = s.domain j := by
  rw [State.domain, same, State.domain]

/-- The domain that is asked to stop: STOPPING, its links parked, its channels paused (R390). -/
theorem execDomainStopRequest_stops {d : Fin 56} (settled : s.settleEntry = s) (due : s.stopDue d.val = true) :
    ∃ t : State, exec (.domainStopRequest d) s = .next t ∧ (t.domain d).state = .stopping ∧ t.power.entry = s.power.entry ∧
      d.val ∈ t.cells.parked ∧ (∀ j, j ≠ d.val → t.domain j = s.domain j) ∧
      ∀ n x e, Tbl.find t.engines.shuttles n = some x → x.desc = some e →
        touches s.dual (if n < 16 then .a else .b) e d = true → x.pauseDom = true := by
  let x : DomainSt := { s.domain d.val with state := .stopping, goal := sleepGoal s.power.target d.val }
  have hx : x = { s.domain d.val with state := .stopping, goal := sleepGoal s.power.target d.val } := rfl
  let w := (s.park [d.val]).setDomain d.val x
  have hw : w = (s.park [d.val]).setDomain d.val x := rfl
  have ran : exec (.domainStopRequest d) s = .next w.domainPauses := by
    show execDomainStopRequest d s = _
    unfold execDomainStopRequest
    rw [settled]
    exact if_pos due
  have ne : x ≠ DomainSt.awake := fun is => nomatch congrArg DomainSt.state is
  have power : w.domainPauses.power = w.power := by simp
  refine ⟨_, ran, ?_, by rw [power]; rfl, ?_, fun j other => ?_, fun n y e hy desc through => ?_⟩
  · rw [State.domain_of_domains (congrArg _ power), hw, State.domain_setDomain_same]
  · simp [hw, State.park, State.setDomain]
  · rw [State.domain_of_domains (congrArg _ power), hw, State.domain_setDomain_ne _ _ other]
    rfl
  · exact State.domainPauses_pauses (State.setDomain_listed ne) (by simp [hx]) hy desc through

theorem execDomainStopRequest_idle {d : Fin 56} (settled : s.settleEntry = s) (no : s.stopDue d.val = false) :
    exec (.domainStopRequest d) s = .next s := by
  show execDomainStopRequest d s = _
  unfold execDomainStopRequest
  rw [settled]
  exact if_neg (by simp [no])

theorem State.stopDue_at (stands : EntryAt s k) : s.stopDue d
    = (decide ((s.domain d).state = .on) && ((sleepStep k).contains d && s.domainOn d && (k ≠ 0 || s.entryReady))) := by
  rw [State.stopDue, stands.1]

end

section
variable {s : State} {d : Nat}

/-! What a domain loses as it stops changes no role and no other domain. -/

/-- An object apart from the late refreshes. -/
theorem State.cfg_stopDram {q : ObjRow} {i j : Nat} (apart : q.other i j Obj.refLate) (c : Nat) :
    (s.stopDram c).cfg q i j = s.cfg q i j := by
  have issue (a : State) (e : Nat × Refresh) : (a.issueRefresh c e.1 e.2).cfg q i j = a.cfg q i j := by
    unfold State.issueRefresh
    dsimp only
    split
    · exact (State.cfg_bump_ne _ _ _ _ _ _ _ _ apart).trans rfl
    · rfl
  unfold State.stopDram
  split
  · rfl
  · exact State.cfg_foldl _ s fun a e => issue a e

theorem State.cfg_stopEffect {q : ObjRow} {i j : Nat} (apart : q.other i j Obj.refLate) :
    (s.stopEffect d).cfg q i j = s.cfg q i j := by
  unfold State.stopEffect
  split
  · exact State.cfg_stopDram apart _
  · exact State.cfg_foldl _ s fun a c => rfl

theorem State.cellRole_stopEffect (c : Nat) : (s.stopEffect d).cellRole c = s.cellRole c :=
  State.cfg_stopEffect (by simp only [ObjRow.other, ObjRow.key, Obj.cellRole, Obj.refLate]; omega)

theorem State.endpointOn_stopEffect (j : Nat) : (s.stopEffect d).endpointOn j = s.endpointOn j := by
  simp only [State.endpointOn, State.groupActive, State.cellRole_stopEffect]

theorem State.domainOn_stopEffect (j : Nat) : (s.stopEffect d).domainOn j = s.domainOn j := by
  simp only [State.domainOn, State.quadrantOn, State.endpointOn_stopEffect]
  rw [State.cfg_stopEffect (by simp only [ObjRow.other, ObjRow.key, Obj.debugState, Obj.refLate]; omega)]

/-- The state in which a stopped domain has lost what it loses. -/
def State.stoppedAt (s : State) (d : Nat) : State :=
  (s.stopEffect d).setDomain d { s.domain d with state := (s.domain d).goal }

theorem State.domainOn_stoppedAt (j : Nat) : (s.stoppedAt d).domainOn j = s.domainOn j :=
  (rfl : (s.stoppedAt d).domainOn j = (s.stopEffect d).domainOn j).trans (State.domainOn_stopEffect j)

theorem State.stoppedAt_power : (s.stoppedAt d).power
    = { s.power with domains := Tbl.set DomainSt.awake s.power.domains d { s.domain d with state := (s.domain d).goal } } := by
  have power : (s.stopEffect d).power = s.power := by simp
  rw [State.stoppedAt, State.setDomain, power]

theorem State.domain_stoppedAt_same : ((s.stoppedAt d).domain d) = { s.domain d with state := (s.domain d).goal } :=
  State.domain_setDomain_same ..

theorem State.domain_stoppedAt_ne {j : Nat} (ne : j ≠ d) : (s.stoppedAt d).domain j = s.domain j := by
  rw [State.stoppedAt, State.domain_setDomain_ne _ _ ne]
  exact State.domain_of_domains (by simp) j

theorem State.domainDown_stoppedAt_ne {j : Nat} (ne : j ≠ d) : (s.stoppedAt d).domainDown j = s.domainDown j := by
  simp only [State.domainDown, State.domain_stoppedAt_ne ne, State.domainOn_stoppedAt]

/-- The state that a domain stops to on the way to a sleep state is down. -/
theorem State.domainDown_of_goal {ps : Nat} (is : (s.domain d).state = sleepGoal ps d) : s.domainDown d = true := by
  have goal : sleepGoal ps d = .retain ∨ sleepGoal ps d = .clockStopped ∨ sleepGoal ps d = .off := by
    unfold sleepGoal
    (repeat' split) <;> simp
  rcases goal with goal | goal | goal <;> simp only [State.domainDown, is, goal]

end

section
variable {s : State} {k d n : Nat}

/-- The step that an entry is at is not done yet. -/
theorem State.advanceEntry_stays (stands : s.power.entry = some k) {j : Nat} (hj : j ∈ sleepStep k) (up : s.domainDown j = false) :
    s.advanceEntry (n + 1) = s := by
  rw [State.advanceEntry]
  simp only [stands]
  refine if_neg fun all => ?_
  simp [List.all_eq_true.mp all j hj] at up

theorem State.advanceEntry_next (stands : s.power.entry = some k) (other : k ≠ 6) (all : (sleepStep k).all s.domainDown = true) :
    s.advanceEntry (n + 1) = ({ s with power := { s.power with entry := some (k + 1) } } : State).advanceEntry n := by
  rw [State.advanceEntry]
  simp only [stands]
  rw [if_pos all, if_neg other]

theorem State.advanceEntry_last (stands : s.power.entry = some 6) (all : (sleepStep 6).all s.domainDown = true) :
    s.advanceEntry (n + 1) = s.fallAsleep := by
  rw [State.advanceEntry]
  simp only [stands]
  rw [if_pos all]
  rfl

/-- D02's stop: the sleep state is in force (R398). -/
theorem State.fallAsleep_sleeps (room : HasRoom s) : s.fallAsleep.power.entry = none ∧
    s.fallAsleep.power.current = s.power.target ∧ s.fallAsleep.has Mode.service = false ∧
    s.fallAsleep.has Mode.idle = decide (s.power.target = 3) ∧ s.fallAsleep.has Mode.airing = decide (s.power.target ≠ 3) := by
  obtain ⟨w, is, modes, sampler, entry, current⟩ : ∃ w : State, s.fallAsleep = w.changeModes
      (if s.power.target = 3 then modeBit Mode.idle else modeBit Mode.airing)
      (modeBit Mode.service ||| (if s.power.target = 3 then modeBit Mode.airing else modeBit Mode.idle)) 3 ∧
      w.modes = s.modes ∧ w.sampler = s.sampler ∧ w.power.entry = none ∧ w.power.current = s.power.target := by
    refine ⟨_, rfl, ?_, ?_, ?_, ?_⟩ <;> (repeat' split) <;> rfl
  have modes := (State.modes_changeModes w (if s.power.target = 3 then modeBit Mode.idle else modeBit Mode.airing)
    (modeBit Mode.service ||| (if s.power.target = 3 then modeBit Mode.airing else modeBit Mode.idle)) 3
    (by rw [sampler]; exact room.2) (by rw [State.pendingRecs, sampler]; exact room.1))
  rw [is]
  refine ⟨by simp [entry], by simp [current], ?_, ?_, ?_⟩ <;> rw [State.has, modes] <;>
    by_cases three : s.power.target = 3 <;> simp [newModes, modeBit, Mode.service, Mode.idle, Mode.airing, three]

/-! What opening links and the grid leaves: no mode is set but by a change that names it, and the request stays. -/

theorem State.settleRecovery_stays {m : Nat} (off : s.has m = false) : s.settleRecovery.has m = false := by
  unfold State.settleRecovery
  split
  · exact State.clearMode_stays off ..
  · exact off

theorem State.settleFill_stays {m : Nat} (off : s.has m = false) : s.settleFill.has m = false := by
  unfold State.settleFill
  dsimp only
  split
  · exact State.settleRecovery_stays off
  · exact off

theorem State.validate_stays {m : Nat} (off : s.has m = false) (g : Nat) : (s.validate g).has m = false := by
  unfold State.validate
  split
  · exact off
  · exact State.settleFill_stays off

theorem State.has_of_modes {t : State} {m : Nat} (same : t.modes = s.modes) (off : s.has m = false) : t.has m = false := by
  rw [State.has, same]
  exact off

theorem State.requestDram_stays {m : Nat} (off : s.has m = false) (op : DramOp) (errs : DramErrors) :
    (s.requestDram op errs).has m = false := by
  unfold State.requestDram
  split
  · exact off
  · split
    · cases op with
      | read a n =>
        refine State.has_of_modes (s := s) ?_ off
        simp [State.serveDram]
      | write a bs =>
        unfold State.serveDram State.dramWrite
        dsimp only
        refine State.has_of_modes (state_queueWrite_frame _ _ _).2.1 (State.validate_stays ?_ _)
        refine State.has_of_modes (s := s) ?_ off
        split
        · rfl
        · simp
    · exact off

theorem State.openLinks_stays {m : Nat} (off : s.has m = false) : s.openLinks.has m = false := by
  unfold State.openLinks State.unpark State.settleDram
  refine List.foldlRecOn _ _ (motive := fun t : State => t.has m = false) ?_ fun t ht r _ => State.requestDram_stays ht ..
  exact State.has_of_modes (s := s) (by simp) off

/-- What a frame that opens keeps of the power state: the request for a sleep state with its entry, and reset. -/
def PowerSt.asks (x : PowerSt) :
    Option Nat × Tbl DomainSt × Nat × Nat × Nat × Option Nat × Nat × Bool :=
  (x.entry, x.domains, x.refusals, x.refuseDomain, x.refuseHold, x.retryAt, x.target, x.held)

theorem State.settleAll_asks : s.settleAll.power.asks = s.power.asks := by
  unfold State.settleAll State.settleShutdown
  split <;> simp [PowerSt.asks]

theorem State.takePower_asks : s.takePower.power.asks = s.power.asks := by
  unfold State.takePower
  split <;> rfl

theorem State.scalePool_asks : s.scalePool.power.asks = s.power.asks := by
  unfold State.scalePool
  dsimp only
  split
  · rfl
  · simp [PowerSt.asks]

/-- A frame that opens takes a change among PS0 to PS2, and leaves the request. -/
theorem State.openFrame_asks (planned : Nat) : (s.openFrame k planned).power.asks = s.power.asks := by
  unfold State.openFrame
  extract_lets len sc s1 s2 s3 s4 sc5 s5 s6
  have later : (s6.admitAll len).power = (s1.takePower.cellsBoundary.applyValues.scalePool).power := by
    simp [s6, s5, s4, s3, s2]
  have before : (s1.takePower.cellsBoundary.applyValues).power = s1.takePower.power := by simp
  rw [State.settleAll_asks, later, State.scalePool_asks, before, State.takePower_asks]

theorem State.openGrid_asks : s.openGrid.power.asks = s.power.asks := State.openFrame_asks ..

/-- Outside IDLE, the end of an entry leaves every domain ON and the request as it was (R399). -/
theorem State.leaveEntry_asks (awake : s.has Mode.idle = false) : s.leaveEntry.power.asks
    = ({ s with power := { s.power with entry := none } } : State).domainsOn.power.asks := by
  unfold State.leaveEntry
  extract_lets pw s1
  have off : s1.has Mode.idle = false := State.openLinks_stays (State.has_of_modes (s := s) (by simp) awake)
  have power : s1.power = ({ s with power := { s.power with entry := none } } : State).domainsOn.power := by
    simp [s1, pw]
  rw [if_neg (by simp [off]), State.openGrid_asks, power]

/-- Once every domain is back, each is ON with the refusals it has. -/
theorem State.domainsOn_on (j : Nat) : (s.domainsOn.domain j).state = .on := by
  have power : s.domainsOn.power.domains = (s.power.domains.filter fun (e : Nat × DomainSt) => e.2.refusals ≠ 0).map
      fun (e : Nat × DomainSt) => (e.1, { e.2 with state := DomState.on, goal := DomState.on }) := by
    simp [State.domainsOn]
  rw [State.domain, power, Tbl.get]
  cases there : Tbl.find ((s.power.domains.filter fun (e : Nat × DomainSt) => e.2.refusals ≠ 0).map
      fun (e : Nat × DomainSt) => (e.1, { e.2 with state := DomState.on, goal := DomState.on })) j with
  | none => rfl
  | some x =>
    obtain ⟨e, -, is⟩ := List.mem_map.mp (Tbl.mem_of_find there)
    exact (congrArg (·.2.state) is).symm

theorem State.domainsOn_refusals {x : DomainSt} (there : Tbl.find s.power.domains d = some x) (some_ : x.refusals ≠ 0) :
    (s.domainsOn.domain d).refusals = x.refusals := by
  have power : s.domainsOn.power.domains = (s.power.domains.filter fun (e : Nat × DomainSt) => e.2.refusals ≠ 0).map
      fun (e : Nat × DomainSt) => (e.1, { e.2 with state := DomState.on, goal := DomState.on }) := by
    simp [State.domainsOn]
  have found := Tbl.find_filter_map there (fun e => decide (e.2.refusals ≠ 0))
    (fun y : DomainSt => { y with state := DomState.on, goal := DomState.on }) (by simpa using some_)
  rw [State.domain, power]
  exact congrArg (fun o => (o.getD DomainSt.awake).refusals) found

end

section
variable {s : State} {d : Nat}

/-- The end of an entry by a refusal: the hold time, or the eighth lets the request lapse (R399). -/
theorem State.refuseEntry_asks (awake : s.has Mode.idle = false) :
    ∃ w : State, (s.refuseEntry d).power.asks = w.domainsOn.power.asks ∧ w.power.domains = s.power.domains ∧
      w.power.entry = none ∧ w.power.refuseDomain = d ∧ w.power.refuseHold = s.cfg Obj.refuseHoldMs * (s.power.refusals + 1) ∧
      (s.power.refusals < 7 → w.power.target = s.power.target ∧
        w.power.retryAt = some (s.now + 1000000 * (s.cfg Obj.refuseHoldMs * (s.power.refusals + 1)))) ∧
      (7 ≤ s.power.refusals → w.power.target = s.power.operational ∧ w.power.retryAt = none) := by
  unfold State.refuseEntry
  extract_lets m hold s1 pw s2
  have power : s1.power = s.power := by simp [s1]
  have now : s1.now = s.now := by simp [s1]
  have modes : s1.modes = s.modes := by simp [s1]
  have asks (t : State) (same : t.modes = s.modes) := State.leaveEntry_asks (State.has_of_modes same awake)
  by_cases few : m < 8
  · rw [if_pos few]
    refine ⟨_, asks s2 modes, by rw [← power], rfl, rfl, rfl, fun _ => ⟨by rw [← power], by rw [← now]⟩, fun many => ?_⟩
    omega
  · rw [if_neg few]
    refine ⟨_, asks s2.spendRequest modes, by rw [← power]; rfl, rfl, rfl, rfl, fun _ => ?_, fun _ => ⟨by rw [← power]; rfl, rfl⟩⟩
    omega

end

/-! The preparations for PS4 leave the frames as they are. -/

/-- Whether frames run, and whether one is open. -/
def State.framing (s : State) : Bool × Bool := (s.sched.running, s.sched.isOpen)

section
variable {s : State}

theorem State.framing_of_sched {t : State} (same : t.sched = s.sched) : t.framing = s.framing := by
  rw [State.framing, same, State.framing]

theorem State.darnUnit_framing (rd : Nat) (owed : Bool) : (s.darnUnit rd owed).framing = s.framing := by
  unfold State.darnUnit
  split
  · rfl
  · extract_lets n b least
    split
    · rfl
    · split
      · exact (State.framing_of_sched (state_startDarning_frame ..).2.2.2.2.2.1).trans rfl
      · rfl

theorem State.enterRead_sched (nsid u : Nat) (e : MapEntry) (mask : BitVec 4) (cls : OpClass) (serves : ReadFor)
    (att : List Attach) (dead : LadderStep) : (s.enterRead nsid u e mask cls serves att dead).2.sched = s.sched := by
  unfold State.enterRead
  dsimp only
  split <;> simp

theorem State.startRead_framing (nsid u : Nat) (e : MapEntry) (mask : BitVec 4) (cls : OpClass) (serves : ReadFor)
    (att : List Attach) : (s.startRead nsid u e mask cls serves att).2.framing = s.framing := by
  have entered := State.framing_of_sched (s := s) (State.enterRead_sched nsid u e mask cls serves att .darning)
  unfold State.startRead
  dsimp only
  split
  · exact entered
  · exact (State.darnUnit_framing ..).trans entered

theorem State.programSlot_framing (k : Nat) : (s.programSlot k).framing = s.framing := by
  unfold State.programSlot
  split
  · rfl
  · split
    · dsimp only
      split
      · rfl
      · split
        · exact State.framing_of_sched (by simp)
        · split
          · exact (State.startRead_framing ..).trans rfl
          · split
            next placed =>
              have sched := (state_placeUnit_some _ _ _ _ placed).2.2.2.2.1
              split
              · exact State.framing_of_sched (by simpa using sched)
              · rfl
            · rfl
    · rfl

theorem State.pushSlot_framing (k : Nat) : (s.pushSlot k).framing = s.framing := by
  unfold State.pushSlot
  split
  · split
    · exact State.framing_of_sched (by simp)
    · exact State.programSlot_framing k
  · rfl

/-- A copy that has been written enters the journal, and nothing else. -/
theorem State.segmentWritten_sched (nsid segment lun : Nat) (o : LunOp) :
    (s.segmentWritten nsid segment lun o true).sched = s.sched := by
  unfold State.segmentWritten
  dsimp only
  split <;> simp

theorem State.copySegment_sched (nsid segment : Nat) : (s.copySegment nsid segment).sched = s.sched := by
  unfold State.copySegment
  dsimp only
  split
  · simp
  · exact State.segmentWritten_sched ..

theorem State.checkpointAll_framing : s.checkpointAll.framing = s.framing := by
  have copy (t : State) (g : Nat × Nat) : (t.copySegment g.1 g.2).framing = t.framing :=
    State.framing_of_sched (State.copySegment_sched ..)
  unfold State.checkpointAll
  exact foldl_keeps State.framing copy _ s

theorem State.prepareAiring_framing : s.prepareAiring.framing = s.framing := by
  unfold State.prepareAiring
  extract_lets s1 s2
  have pushed : s1.framing = s.framing := foldl_keeps State.framing (fun t k => State.pushSlot_framing (s := t) k) _ s
  have closed : s2.framing = s1.checkpointAll.framing := State.framing_of_sched (by simp [s2])
  exact (closed.trans State.checkpointAll_framing).trans pushed

/-- The preparations for PS4 leave the entry. -/
theorem State.prepareAiring_entry : s.prepareAiring.power.entry = s.power.entry := by
  unfold State.prepareAiring
  extract_lets s1 s2
  have power : s2.power = s.power := by
    have push (t : State) (k : Nat) : (t.pushSlot k).power = t.power := by simp
    have pushed : s1.power = s.power := foldl_keeps (fun t : State => t.power) push _ s
    simp [s2, pushed]
  rw [← power]

/-- An entry starts with no further frame, and for PS3 with the flush alone (R397, R422). -/
theorem State.startEntry_starts (awake : s.has Mode.idle = false) : s.startEntry.power.entry = some 0 ∧
    s.startEntry.sched.running = false ∧ s.startEntry.sched.isOpen = false ∧
    (s.power.target = 3 → s.startEntry.modes = s.modes ∧ (s.sampler.flushing = none → s.startEntry.sampler.buf = [])) := by
  unfold State.startEntry
  extract_lets s1 pw s2
  have first : s1 = s.stopFrames.beginFlush := if_neg (by simp [awake])
  have target : s2.power.target = s.power.target := by simp [s2, pw, first]
  have frames : s2.framing = (false, false) := by
    show s1.framing = _
    rw [first]
    unfold State.beginFlush
    split <;> rfl
  by_cases four : s2.power.target = 4
  · rw [if_pos four]
    have kept := Prod.mk.inj (State.prepareAiring_framing.trans frames)
    exact ⟨State.prepareAiring_entry, kept.1, kept.2, fun three => by omega⟩
  · rw [if_neg four]
    have kept := Prod.mk.inj frames
    refine ⟨rfl, kept.1, kept.2, fun _ => ⟨by simp [s2, first], fun idle => ?_⟩⟩
    show s1.sampler.buf = []
    rw [first]
    unfold State.beginFlush
    split
    · simp [State.startFlush, State.startTask]
    next none_ =>
      have dry : s.toFlush = false := by
        have : ¬ (s.sampler.flushing.isNone = true ∧ s.toFlush = true) := none_
        simpa [idle] using this
      unfold State.toFlush at dry
      simp only [Bool.or_eq_false_iff, decide_eq_false_iff_not, Decidable.not_not] at dry
      exact dry.1.1.1

end

theorem sleepStep_apart {k d j : Nat} (hk : k < 6) (hd : d ∈ sleepStep k) (hj : j ∈ sleepStep (k + 1)) : j ≠ d := by
  have apart : ∀ k < 6, ∀ j ∈ sleepStep (k + 1), j ∉ sleepStep k := by decide
  exact fun is => apart k hk j hj (is ▸ hd)

section
variable {s : State} {k : Nat} {d : Fin 56}

/-- A domain whose transfers are zero has stopped, and the entry goes on (R398). -/
theorem execDomainStopped_stops (stands : EntryAt s k) (stops : (s.domain d).state = .stopping) (done : s.otc d = 0) :
    exec (.domainStopped d) s = .next ((s.stoppedAt d).advanceEntry 7) := by
  show execDomainStopped d s = _
  unfold execDomainStopped
  rw [State.settleEntry_at stands]
  dsimp only
  rw [if_pos ⟨stops, done⟩, if_pos (by simp [stands.1])]
  rfl

theorem execDomainStopped_idle (stands : EntryAt s k) (no : (s.domain d).state ≠ .stopping ∨ 0 < s.otc d) :
    exec (.domainStopped d) s = .next s := by
  show execDomainStopped d s = _
  unfold execDomainStopped
  rw [State.settleEntry_at stands]
  refine if_neg ?_
  rintro ⟨stops, done⟩
  rcases no with other | some_
  · exact other stops
  · omega

theorem execDomainRefusal_refuses (stands : EntryAt s k) (stops : (s.domain d).state = .stopping) :
    exec (.domainRefusal d) s = .next ((s.setDomain d
      { state := .on, refusals := (s.domain d).refusals + 1, goal := .on }).refuseEntry d) := by
  show execDomainRefusal d s = _
  unfold execDomainRefusal
  rw [State.settleEntry_at stands]
  dsimp only
  rw [if_pos stops]
  exact if_pos (by simp [State.setDomain, stands.1])

theorem execDomainRefusal_idle (stands : EntryAt s k) (no : (s.domain d).state ≠ .stopping) :
    exec (.domainRefusal d) s = .next s := by
  show execDomainRefusal d s = _
  unfold execDomainRefusal
  rw [State.settleEntry_at stands]
  exact if_neg no

/-- What the steps of R398 need of a domain that has stopped: the entry stands, and it is down with its goal. -/
theorem State.stoppedAt_entry (stands : EntryAt s k) : (s.stoppedAt d).power.entry = some k := by
  rw [State.stoppedAt_power]
  exact stands.1

theorem State.stoppedAt_target : (s.stoppedAt d).power.target = s.power.target := by rw [State.stoppedAt_power]

theorem State.stoppedAt_all (goal : (s.domain d).goal = sleepGoal s.power.target d)
    (rest : ∀ j ∈ sleepStep k, j ≠ d.val → s.domainDown j = true) : (sleepStep k).all (s.stoppedAt d).domainDown = true := by
  refine List.all_eq_true.mpr fun j hj => ?_
  by_cases is : j = d.val
  · subst is
    exact State.domainDown_of_goal (ps := s.power.target) (by rw [State.domain_stoppedAt_same, goal])
  · rw [State.domainDown_stoppedAt_ne is]
    exact rest j hj is

end

/-- The hold time ends at its moment, not before (R399). -/
theorem execRefusalHoldExpiry_held {s : State} {r : Nat} (t : Nat) (held : s.power.retryAt = some r) :
    exec (.refusalHoldExpiry t) s = .next (if r ≤ (s.tick t).now then
      { s.tick t with power := { (s.tick t).power with retryAt := none } } else s.tick t) := by
  have held : (s.tick t).power.retryAt = some r := held
  show execRefusalHoldExpiry t s = _
  unfold execRefusalHoldExpiry
  dsimp only
  rw [held]
  dsimp only
  split <;> rfl

theorem execRefusalHoldExpiry_none {s : State} (t : Nat) (none_ : s.power.retryAt = none) :
    exec (.refusalHoldExpiry t) s = .next (s.tick t) := by
  have none_ : (s.tick t).power.retryAt = none := none_
  show execRefusalHoldExpiry t s = _
  unfold execRefusalHoldExpiry
  dsimp only
  rw [none_]

/-- Settles O44: the domain that is asked stops and pauses what passes through it, the entry advances by what is down, and a
refusal or a start leaves the power state that R391, R397 and R399 name. -/
theorem domainsStopInTheirOrder : Obligations.DomainsStopInTheirOrder := by
  refine ⟨fun d k s stands => ⟨fun no => ?_, fun on_ here act ready => ?_, execDomainStopped_idle stands,
      fun stops done goal => ⟨fun ⟨j, hj, ne, up⟩ => ?_, fun less here rest ⟨j, hj, up⟩ => ?_, fun six two room => ?_⟩,
      execDomainRefusal_idle stands, fun stops awake => ?_⟩,
    fun d s none_ => ⟨execDomainStopRequest_idle (State.settleEntry_none none_), fun due => ?_⟩,
    fun t s => ⟨execRefusalHoldExpiry_none t, fun r hr => ⟨fun early => ?_, fun due => ?_⟩, fun no => if_neg (by simp [no]),
      fun may awake => ⟨_, if_pos may, State.startEntry_starts (s := s.tick t) awake⟩⟩,
    fun p t s => ⟨fun port three more quiet bells none_ up => if_pos ?_, fun no => if_neg ?_⟩⟩
  · refine execDomainStopRequest_idle (State.settleEntry_at stands) ?_
    rw [State.stopDue_at stands]
    rcases no with other | out | ⟨rfl, early⟩
    · simp [other]
    · simp [out]
    · simp [early]
  · have due : s.stopDue d.val = true := by
      rw [State.stopDue_at stands]
      simp only [on_, here, act, decide_true, List.contains_eq_mem, Bool.true_and, Bool.or_eq_true,
        decide_eq_true_eq]
      exact ready
    obtain ⟨t, ran, state, entry, -, others, pauses⟩ := execDomainStopRequest_stops (State.settleEntry_at stands) due
    exact ⟨t, ran, state, entry.trans stands.1, others, pauses⟩
  · refine ⟨_, (execDomainStopped_stops stands stops done).trans (congrArg _ (State.advanceEntry_stays
      (State.stoppedAt_entry stands) hj (by rw [State.domainDown_stoppedAt_ne ne, up]))), ?_, State.stoppedAt_entry stands⟩
    rw [State.domain_stoppedAt_same, goal]
  · have next := State.advanceEntry_next (n := 6) (State.stoppedAt_entry (d := d) stands) (by omega)
      (State.stoppedAt_all goal rest)
    have stays := State.advanceEntry_stays (n := 5) (s := { s.stoppedAt d with
      power := { (s.stoppedAt d).power with entry := some (k + 1) } }) rfl hj
      ((State.domainDown_stoppedAt_ne (sleepStep_apart less here hj)).trans up)
    refine ⟨_, (execDomainStopped_stops stands stops done).trans (congrArg _ (next.trans stays)), ?_, rfl⟩
    exact (congrArg DomainSt.state State.domain_stoppedAt_same).trans goal
  · subst six
    have last := State.advanceEntry_last (n := 6) (State.stoppedAt_entry (d := d) stands) (State.stoppedAt_all goal
      fun j hj ne => by
        subst two
        exact absurd (by simpa [sleepStep, sleepSteps] using hj) ne)
    have sampler : (s.stoppedAt d).sampler = s.sampler := by simp [State.stoppedAt, State.setDomain]
    have fits : HasRoom (s.stoppedAt d) := by
      unfold HasRoom State.pendingRecs
      rw [sampler]
      exact room
    obtain ⟨entry, current, service, idle, airing⟩ := State.fallAsleep_sleeps fits
    rw [State.stoppedAt_target] at current idle airing
    exact ⟨_, (execDomainStopped_stops stands stops done).trans (congrArg _ last), entry, current, service, idle, airing⟩
  · let x : DomainSt := { state := .on, refusals := (s.domain d).refusals + 1, goal := .on }
    have hx : x = { state := .on, refusals := (s.domain d).refusals + 1, goal := .on } := rfl
    obtain ⟨w, asks, domains, entry, domain, hold, few, many⟩ :=
      State.refuseEntry_asks (s := s.setDomain d x) (d := d.val) awake
    have listed : Tbl.find w.power.domains d.val = some x := by
      have ne : x ≠ DomainSt.awake := fun is => nomatch congrArg DomainSt.refusals is
      rw [domains]
      unfold State.setDomain Tbl.set
      rw [if_neg ne]
      exact Tbl.find_put_same ..
    obtain ⟨tEntry, tDomains, -, tDomain, tHold, tRetry, tTarget, -⟩ :
        ((s.setDomain d x).refuseEntry d).power.entry = w.power.entry ∧
        ((s.setDomain d x).refuseEntry d).power.domains = w.domainsOn.power.domains ∧
        ((s.setDomain d x).refuseEntry d).power.refusals = w.power.refusals ∧
        ((s.setDomain d x).refuseEntry d).power.refuseDomain = w.power.refuseDomain ∧
        ((s.setDomain d x).refuseEntry d).power.refuseHold = w.power.refuseHold ∧
        ((s.setDomain d x).refuseEntry d).power.retryAt = w.power.retryAt ∧
        ((s.setDomain d x).refuseEntry d).power.target = w.power.target ∧
        ((s.setDomain d x).refuseEntry d).power.held = w.power.held := by
      simpa [PowerSt.asks, State.domainsOn] using asks
    refine ⟨_, execDomainRefusal_refuses stands stops, tEntry.trans entry, fun j => ?_, ?_, tDomain.trans domain, tHold.trans hold,
      fun less => ⟨tTarget.trans (few less).1, tRetry.trans (few less).2⟩,
      fun least => ⟨tTarget.trans (many least).1, tRetry.trans (many least).2⟩⟩
    · rw [State.domain_of_domains tDomains]
      exact State.domainsOn_on j
    · rw [State.domain_of_domains tDomains]
      exact State.domainsOn_refusals listed (Nat.succ_ne_zero _)
  · obtain ⟨t, ran, state, -, parked, others, -⟩ := execDomainStopRequest_stops (State.settleEntry_none none_) due
    exact ⟨t, ran, state, parked, others⟩
  · exact (execRefusalHoldExpiry_held t hr).trans (congrArg _ (if_neg (Nat.not_le.mpr early)))
  · exact ⟨_, (execRefusalHoldExpiry_held t hr).trans (congrArg _ (if_pos due)), rfl, rfl, rfl, rfl⟩
  · have still : ((s.tick t).host.fns.any fun e => e.2.sqs.any fun q => 0 < q.2.unfetched) = false := by
      simp only [List.any_eq_false, List.any_eq_true, not_exists, not_and]
      exact fun e he q hq => by simp [bells e he q hq]
    exact ⟨port, three, more, quiet, by simpa using still, by simpa using none_, (Bool.not_eq_true' _).mpr up⟩
  · rintro ⟨port, three, more, quiet, -⟩
    have port : s.portExists p = true := port
    have three : 3 ≤ s.idleState p := three
    have more : s.power.current < s.idleState p := more
    have quiet : s.quiet = true := quiet
    rcases no with out | low | least | busy
    · simp [out] at port
    · omega
    · omega
    · simp [busy] at quiet

end Sys2Proof.Machine
end


section
/-! Wakes (R400 to R403): a wake whose mode change finds no room. -/
namespace Sys2Proof.Machine

section
variable {s : State} {m : Nat}

/-- A mode change whose words leave a mode alone leaves it as it is. -/
theorem State.has_changeModes_apart {set clear : BitVec 12} (offSet : set.getLsbD m = false) (offClear : clear.getLsbD m = false)
    (cause : Nat) : (s.changeModes set clear cause).has m = s.has m := by
  unfold State.has
  rcases State.changeModes_modes (s := s) set clear cause with same | new
  · rw [same]
  · rw [new, newModes, BitVec.getLsbD_or, BitVec.getLsbD_and, offSet, BitVec.getLsbD_not, offClear]
    by_cases small : m < 12
    · simp [small]
    · simp [BitVec.getLsbD_of_ge s.modes m (by omega)]

theorem State.has_of_same {t : State} (same : t.modes = s.modes) : t.has m = s.has m := by rw [State.has, same, State.has]

theorem State.settleDegraded_idle : s.settleDegraded.has Mode.idle = s.has Mode.idle := by
  unfold State.settleDegraded State.clearMode
  split
  · exact (State.has_changeModes_apart (by decide) (by decide) _).trans (State.has_of_same (by simp))
  · rfl

theorem State.startForced_idle : s.startForced.has Mode.idle = s.has Mode.idle := by
  unfold State.startForced State.setMode
  dsimp only
  split
  · rfl
  · exact (State.has_changeModes_apart (by decide) (by decide) _).trans rfl

theorem State.darnAll_idle : s.darnAll.has Mode.idle = s.has Mode.idle := by
  have darn (t : State) (n : Nat × Nat) : (State.darnOne t n).modes = t.modes := by simp
  unfold State.darnAll
  rw [State.settleDegraded_idle]
  exact State.has_of_same (foldl_keeps (fun t : State => t.modes) darn _ s)

theorem State.startDeferred_idle : s.startDeferred.has Mode.idle = s.has Mode.idle := by
  unfold State.startDeferred
  extract_lets s1
  have first : s1.has Mode.idle = s.has Mode.idle := State.has_of_same (by simp [s1])
  split
  · exact State.startForced_idle.trans first
  · exact first

/-- A frame that opens neither sets nor ends IDLE. -/
theorem State.openGrid_idle : s.openGrid.has Mode.idle = s.has Mode.idle := by
  unfold State.openGrid State.openFrame
  extract_lets sc0 w len sc s1 s2 s3 s4 sc5 s5 s6
  have admitted : (s6.admitAll len).settleAll.has Mode.idle = s6.has Mode.idle := State.has_of_same (by simp)
  have sources : (s5.raiseStrengths.grantClaims.startSamples.darnAll.startSources.queueErases).has Mode.idle
      = s5.raiseStrengths.grantClaims.startSamples.darnAll.has Mode.idle := State.has_of_same (by simp)
  have opened : s5.raiseStrengths.grantClaims.startSamples.has Mode.idle = s.has Mode.idle :=
    State.has_of_same (by simp [s5, s4, s3, s2, s1, w])
  rw [admitted, State.startDeferred_idle, sources, State.darnAll_idle, opened]

/-- A wake up to the frame that opens next. -/
def State.awakened (s : State) (code : Nat) (ranks : List (Fin 4 × DramTraining)) : State :=
  let s1 := ((s.keep Obj.lastWake code).bump Obj.wakeCount).spendRequest
  let s2 := { s1 with
    power := { s1.power with current := s1.power.operational, entry := none }
    mem := { s1.mem with aonLost := false } }.domainsOn
  let s3 := (if s.has Mode.airing then (s2.powerDram ranks).placeMaps else s2.leaveSelfRefresh).openLinks
  s3.changeModes (modeBit Mode.service) (modeBit Mode.idle ||| modeBit Mode.airing) 2

theorem State.awaken_eq (code : Nat) (ranks : List (Fin 4 × DramTraining)) :
    s.awaken code ranks = (s.awakened code ranks).openGrid := rfl

end

/-- IDLE in RECOVERY with one slot of the record buffer left: one granule is not filled yet, and a write that fills it is held in
the parked link of its channel. -/
def crowdedIdle : State :=
  { State.reset with
    modes := modeBit Mode.idle ||| modeBit Mode.recovery
    sampler := { State.reset.sampler with buf := List.replicate 1023 (State.reset.makeRec 0x0006 0 0 []) }
    mem := { State.reset.mem with
      chans := [(0, { State.reset.chan 0 with state := 3, ranks := 1 })]
      filling := true
      granules := 1
      requests := [(.write 0 (List.replicate 128 0), ⟨[], [], []⟩)] } }

theorem crowdedIdle_sleeps : crowdedIdle.asleep = true ∧ crowdedIdle.portExists .a = true ∧ crowdedIdle.blockLost 3 = false ∧
    HasRoom crowdedIdle := ⟨by decide, by decide, by decide +kernel, by decide +kernel, rfl⟩

/-- The end of RECOVERY takes the last slot as the links open, and the change to SERVICE waits. -/
theorem crowdedIdle_stays : (crowdedIdle.awakened 1 []).has Mode.idle = true := by decide +kernel

/-- Refutes O45: a wake need not be in SERVICE though its mode change had room before. In the state above activity on port A
wakes the device; its links open first, the held write fills the last granule, RECOVERY ends with a record of its own in the
last slot of the buffer (R421), and the change out of IDLE waits for the flush: frame 0 opens in IDLE. -/
theorem not_wakesAndAiringStepsAct : ¬ Obligations.WakesAndAiringStepsAct := by
  rintro ⟨pcie, -⟩
  obtain ⟨asleep, port, working, room⟩ := crowdedIdle_sleeps
  obtain ⟨u, ⟨-, -, -, -, -, -, service⟩, ran⟩ := (pcie .a [] crowdedIdle).1 asleep port working
  have wakes : exec (.pcieActivityWake .a []) crowdedIdle = .next (crowdedIdle.awakened 1 []).openGrid := by
    show execPcieActivityWake .a [] crowdedIdle = _
    unfold execPcieActivityWake
    exact if_pos ⟨asleep, port, (Bool.not_eq_true' _).mpr working⟩
  have same : (crowdedIdle.awakened 1 []).openGrid = u.openGrid := Host.Outcome.next.inj (wakes.symm.trans ran)
  have idle : u.has Mode.idle = true := by
    rw [← State.openGrid_idle, ← same, State.openGrid_idle]
    exact crowdedIdle_stays
  exact absurd idle (by simp [(service room).2.1])

end Sys2Proof.Machine
end


section
/-! Reset pins and sensors (R374, R411, R457 to R459, R498 to R508) -/
namespace Sys2Proof.Machine

section
variable {s : State}

/-- What records and mode changes leave of what is stored: the values on media and the Sampler's circulating area. -/
def State.stored (s : State) : Tbl Nat × List Rec := (s.dict.durable, s.sampler.circ)

theorem State.enter_stored (r : Rec) : (s.enter r).stored = s.stored := by
  unfold State.enter
  dsimp only
  (repeat' split) <;> rfl

theorem State.record_stored (code : Nat) (params : List Nat) (subject domain : Nat) :
    (s.record code params subject domain).stored = s.stored := by
  unfold State.record
  dsimp only
  repeat' split
  · exact State.enter_stored _
  · rfl
  · exact State.enter_stored _

theorem State.noteDefer_stored : s.noteDefer.stored = s.stored := by
  unfold State.noteDefer
  extract_lets d s1
  split
  · exact State.record_stored ..
  · rfl

theorem State.changeModes_stored (set clear : BitVec 12) (cause : Nat) : (s.changeModes set clear cause).stored = s.stored := by
  unfold State.changeModes
  dsimp only
  repeat' split
  · rfl
  · exact State.noteDefer_stored.trans rfl
  · exact State.noteDefer_stored.trans ((State.enter_stored _).trans rfl)
  · rfl

theorem State.endTest_stored (result : Nat) : (s.endTest result).stored = s.stored := by
  unfold State.endTest
  split
  · rfl
  · dsimp only
    split
    · exact (State.changeModes_stored ..).trans (State.record_stored ..)
    · exact State.record_stored ..

/-- HOLD-UP is not a mode that the end of a self-test changes. -/
theorem State.endTest_holdUp (result : Nat) (off : s.has Mode.holdUp = false) : (s.endTest result).has Mode.holdUp = false := by
  unfold State.endTest
  split
  · exact off
  · dsimp only
    split
    · exact State.clearMode_stays (State.has_of_modes (s := s) (by simp) off) ..
    · exact State.has_of_modes (s := s) (by simp) off

theorem State.endTest_admin (result : Nat) : (s.endTest result).admin.slots = s.admin.slots := by
  unfold State.endTest
  split
  · rfl
  · dsimp only
    split <;> simp [State.clearMode]

theorem State.powerOff_held : s.powerOff.power.held = true := rfl

end

/-- Outside HOLD-UP a reset leaves what is on flash and in OTP, and nothing else (R498, R499). -/
theorem State.powerOff_leaves {s : State} (off : s.has Mode.holdUp = false) : s.powerOff.power.held = true ∧ s.powerOff.modes = 1 ∧
    s.powerOff.dict.durable = s.dict.durable ∧ s.powerOff.dict.force = [] ∧ s.powerOff.sampler.buf = [] ∧
    s.powerOff.sampler.circ = s.sampler.circ ∧ s.powerOff.host.ctxs = [] ∧ s.powerOff.store.ns = s.store.ns ∧
    s.powerOff.store.stripes = s.store.stripes ∧ s.powerOff.store.slots = [] ∧
    s.powerOff.store.journal.durable = s.store.journal.durable ∧ s.powerOff.mem.dram = [] ∧
    s.powerOff.cipher.blobs = s.cipher.blobs ∧ s.powerOff.security.kek = false ∧ s.powerOff.admin.slots = s.admin.slots ∧
    s.powerOff.security.marker = s.security.marker ∧ s.powerOff.pending = s.pending ∧ s.powerOff.now = s.now := by
  unfold State.powerOff
  extract_lets a b
  have is : b = s.endTest 8 := if_neg (by simp [a, State.endTest_holdUp 8 off])
  obtain ⟨durable, circ⟩ := Prod.mk.inj (State.endTest_stored (s := s) 8)
  have store : b.store = s.store := by simp [is]
  have cipher : b.cipher = s.cipher := by simp [is]
  have security : b.security = s.security := by simp [is]
  refine ⟨rfl, rfl, by rw [← durable, ← is], rfl, rfl, by rw [← circ, ← is]; rfl, rfl, by rw [← store]; rfl, by rw [← store]; rfl,
    rfl, by rw [← store]; rfl, rfl, by rw [← cipher]; rfl, rfl, ?_, by rw [← security]; rfl, by simp [is], by simp [is]⟩
  rw [← State.endTest_admin (s := s) 8, ← is]
  rfl

section
variable {s : State} {q : ObjRow} {i j : Nat}

/-- An object apart from what a mode change, a record and a failed copy count. -/
structure ObjRow.Unflushed (q : ObjRow) (i j : Nat) : Prop where
  dropped : q.other i j Obj.dropped
  suppressed : q.other i j Obj.suppressedTotal
  defer : q.other i j Obj.powerDefer
  modeSeq : q.other i j Obj.modeSeq
  modeChanges : q.other i j Obj.modeChanges
  copies : q.other i j Obj.copiesBad

theorem State.cfg_applyWaiting (apart : q.Unflushed i j) : s.applyWaiting.cfg q i j = s.cfg q i j := by
  unfold State.applyWaiting
  rw [State.cfg_foldl _ _ fun a c => State.cfg_changeModes a _ _ _ _ _ _ apart.dropped apart.suppressed apart.defer
    apart.modeSeq apart.modeChanges]
  rfl

theorem State.cfg_endFlush (apart : q.Unflushed i j) (fails : List Nat) : (s.endFlush fails).cfg q i j = s.cfg q i j := by
  unfold State.endFlush
  split
  · rfl
  · dsimp only
    rw [State.cfg_applyWaiting apart]
    split
    · rfl
    · exact (State.cfg_bump_ne _ _ _ _ _ _ _ _ apart.copies).trans rfl

theorem State.cfg_flushNow (apart : q.Unflushed i j) : s.flushNow.cfg q i j = s.cfg q i j := by
  unfold State.flushNow
  dsimp only
  split
  · exact (State.cfg_endFlush apart [] (s := (s.endFlush []).startFlush)).trans (State.cfg_endFlush apart [])
  · exact State.cfg_endFlush apart []

/-- The end of a dump: it is complete, after its time (R411). -/
theorem State.endDump_done (us : Nat) : (s.endDump us).power.dumping = false ∧ (s.endDump us).store.dump ≠ none ∧
    (s.endDump us).cfg Obj.dumpComplete = 1 ∧ (s.endDump us).cfg Obj.dumpLastUs = us := by
  unfold State.endDump
  extract_lets s1 got d st pw s2 s3
  have ne : ∀ q : ObjRow, q.Unflushed 0 0 → (s3.keepDurable s3.keptNow).flushNow.cfg q = s3.cfg q :=
    fun q apart => (State.cfg_flushNow apart).trans (State.cfg_of_force rfl ..)
  refine ⟨by simp [s3, s2], by simp [s3, s2], ?_, ?_⟩
  · rw [ne _ (by constructor <;> (unfold ObjRow.other; decide))]
    exact (State.cfg_save_ne _ _ _ _ _ _ _ _ (by decide)).trans ((State.cfg_save_ne _ _ _ _ _ _ _ _ (by decide)).trans
      (State.cfg_save_same ..))
  · rw [ne _ (by constructor <;> (unfold ObjRow.other; decide))]
    exact (State.cfg_save_ne _ _ _ _ _ _ _ _ (by decide)).trans (State.cfg_save_same ..)

theorem State.endDump_written (us : Nat) : (s.endDump us).store.dump ≠ none := (State.endDump_done us).2.1

/-- A reset keeps that a dump is on flash. -/
theorem State.powerOff_dump : s.powerOff.store.dump = s.store.dump := by
  unfold State.powerOff
  dsimp only [Store.cold]
  split <;> simp

/-- A brown-out's count is on media after the reset that it makes. -/
theorem State.powerOff_brownouts :
    Tbl.find s.powerOff.dict.durable (Obj.brownouts.key 0 0) = Tbl.find s.dict.durable (Obj.brownouts.key 0 0) := by
  have durable := (Prod.mk.inj (State.endTest_stored (s := s) 8)).1
  unfold State.powerOff
  extract_lets a b
  have kept : Tbl.find b.dict.durable (Obj.brownouts.key 0 0) = Tbl.find a.dict.durable (Obj.brownouts.key 0 0) := by
    unfold b
    split
    · exact Tbl.find_put_ne _ _ (by decide)
    · rfl
  exact kept.trans (by rw [durable])

theorem State.save_brownouts (n : Nat) :
    Tbl.find (s.save Obj.brownouts n).dict.durable (Obj.brownouts.key 0 0) = some n := Tbl.find_put_same ..

theorem State.openGrid_held : s.openGrid.power.held = s.power.held := by
  have asks := State.openGrid_asks (s := s)
  simp only [PowerSt.asks, Prod.mk.injEq] at asks
  obtain ⟨-, -, -, -, -, -, -, held⟩ := asks
  exact held

theorem State.beginService_held (e : BootEnv) : (s.beginService e).power.held = s.power.held := by
  unfold State.beginService
  extract_lets s1 s2 s3 s4
  have power : s2.power = s.power := by
    unfold s2
    split <;> simp [s1]
  rw [State.openGrid_held]
  simp [s4, s3, power]

/-- What starts up leaves no reset held. -/
theorem State.startUp_held (e : BootEnv) (cause : Nat) : (s.startUp e cause).power.held = s.power.held := by
  unfold State.startUp
  extract_lets recovery s1 s2 s3 s4 pw s5
  have power : s2.power = s.power := by
    unfold s2
    split <;> simp [s1]
  rw [State.beginService_held]
  simp [s5, pw, s4, s3, power]

theorem State.selectImage_none (found : List Candidate) (none : ∀ c ∈ found, c.pass = false) :
    s.selectImage found = { s with security := { s.security with rom := true } } := by
  have refused : ∀ c ∈ s.candidates, ¬ s.accepts found c = true := by
    intro c _
    unfold State.accepts
    split
    · simp
    · rw [show (found.any fun x => x.slot = c.1 && x.copy = c.2 && x.pass) = false by
        simpa using fun x mem _ _ => none x mem]
      simp
  unfold State.selectImage
  rw [List.find?_eq_none.2 refused]

theorem State.markReset_marker (k : Nat) (is : s.admin.onReset = some k) : s.markReset.security.marker = k := by
  unfold State.markReset
  rw [is]

theorem State.senseBad_iff : s.senseBad = true ↔ s.power.senseFaulty = true ∨ s.power.senseMv < s.cfg Obj.holdupSenseMv ∨
    s.power.pinClass = .openPin ∨ s.power.pinClass = .shortHigh := by
  simp [State.senseBad, or_assoc]

/-- The release of a reset that is held, and no dump: the boot counts its time from now (R457). -/
theorem State.release_boots (e : BootEnv) (held : s.power.held = true) (done : s.power.dumping = false) :
    ∃ t : State, exec (.porstRelease e) s = .next t ∧ t.bootAt = s.now ∧ t.power.held = false := by
  show ∃ t : State, execPorstRelease e s = .next t ∧ _
  unfold execPorstRelease
  rw [if_neg (by simp [held, done]), if_pos held]
  extract_lets s0 cause s1
  have bootAt : s1.bootAt = s.now := by simp [s1, s0, State.romChain, State.wakeRom]
  have on : s1.power.held = false := by simp [s1, s0, State.romChain, State.wakeRom]
  split
  · exact ⟨_, rfl, bootAt, on⟩
  · exact ⟨_, rfl, by simpa using bootAt, (State.startUp_held ..).trans on⟩

/-- Without an image that passes the device stays in ROM recovery (R457, R459). -/
theorem State.release_stays (e : BootEnv) (held : s.power.held = true) (done : s.power.dumping = false)
    (none : ∀ c ∈ e.candidates, c.pass = false) : ∃ t : State, exec (.porstRelease e) s = .next t ∧ t.security.rom = true ∧
      t.modes = 0 ∧ t.host = s.host ∧ t.power.held = false ∧ (∀ k, s.admin.onReset = some k → t.security.marker = k) := by
  show ∃ t : State, execPorstRelease e s = .next t ∧ _
  unfold execPorstRelease
  rw [if_neg (by simp [held, done]), if_pos held]
  extract_lets s0 cause s1
  have is : s1 = _ := State.selectImage_none e.candidates none
  rw [if_pos (by rw [is])]
  refine ⟨_, rfl, by rw [is], ?_, ?_, ?_, fun k k_is => ?_⟩
  · simp [is, s0, State.wakeRom]
  · simp [is, s0, State.wakeRom]
  · simp [is, s0, State.wakeRom]
  · rw [is]
    exact State.markReset_marker k (by simp [s0, State.wakeRom, k_is])

end

/-- Settles O46. A reset leaves what is stored, since the end of a self-test that precedes it stores nothing. -/
theorem resetPinsAndSensorsAct : Obligations.ResetPinsAndSensorsAct := by
  unfold Obligations.ResetPinsAndSensorsAct
  refine ⟨fun ns s => ⟨fun no => if_pos no, fun long off => ⟨fun up dumping => ?_, fun up => ?_⟩⟩, fun s => ?_,
    fun us s => ⟨fun no => ⟨if_neg (not_both no), fun up => if_neg (by simp [up])⟩, fun up => ⟨if_pos up, fun dumping =>
      ⟨fun unlatched => ?_, fun latched => ?_⟩⟩⟩, fun e s => ⟨fun no => if_pos (by rcases no with ⟨h, r, l⟩ | d <;> simp [*]), fun held done =>
      ⟨State.release_boots e held done, State.release_stays e held done⟩⟩, fun t l d x mv c s => ⟨?_, ?_, ?_⟩⟩
  · exact (if_neg (by simp [off]; omega)).trans (if_pos ⟨up, dumping⟩)
  · have ran : exec (.porstAssert ns) s = .next s.powerOff := (if_neg (by simp [off]; omega)).trans (if_neg (by simp [up]))
    exact ⟨_, ran, State.powerOff_leaves up⟩
  · show ∃ t : State, execBrownOut s = .next t ∧ _
    unfold execBrownOut
    dsimp only
    split
    case isTrue held => exact ⟨_, rfl, fun off => absurd (off.symm.trans held) (by decide), Tbl.find_put_same ..⟩
    · exact ⟨_, rfl, fun _ => State.powerOff_held, State.powerOff_brownouts.trans (State.save_brownouts _)⟩
  · have ran : exec (.dumpComplete us) s = .next (s.endDump us) :=
      (if_pos ⟨up, dumping⟩).trans (by rw [if_neg (by simp [unlatched])])
    exact ⟨_, ran, State.endDump_done us⟩
  · have ran : exec (.dumpComplete us) s = .next (s.endDump us).powerOff := (if_pos ⟨up, dumping⟩).trans (by rw [if_pos latched])
    exact ⟨_, ran, State.powerOff_held, by rw [State.powerOff_dump]; exact State.endDump_written us⟩
  · exact ⟨_, rfl, rfl, rfl, rfl, rfl, rfl⟩
  · refine ⟨_, rfl, rfl, fun out => if_pos (State.senseBad_iff.2 ?_), rfl⟩
    exact out.elim (fun above => .inl (decide_eq_true above)) fun below => .inr (.inl below)
  · exact ⟨_, rfl, rfl, fun bad => if_pos (State.senseBad_iff.2 (.inr (.inr bad))), rfl⟩

end Sys2Proof.Machine
end


section
/-! Records take numbers as they enter (R418, R420, R421) -/
namespace Sys2Proof.Machine

section
variable {s : State}

/-- A record that finds room takes the next SEQ, and nothing but the Sampler changes. -/
theorem State.enter_room (r : Rec) (room : s.pendingRecs < bufferRoom r.code) :
    (s.enter r).sampler.buf = s.sampler.buf ++ [{ r with seq := s.sampler.next }] ∧
    (s.enter r).sampler.next = s.sampler.next + 1 ∧ (s.enter r).sampler.buckets = s.sampler.buckets ∧
    s.enter r = { s with sampler := (s.enter r).sampler } := by
  unfold State.enter
  rw [if_pos room]
  dsimp only
  split <;> exact ⟨rfl, rfl, rfl, rfl⟩

/-- A record that finds no room is lost and counted. -/
theorem State.enter_lost (r : Rec) (full : bufferRoom r.code ≤ s.pendingRecs) (fits : s.cfg Obj.dropped < 2 ^ 32 - 1) :
    (s.enter r).sampler.buf = s.sampler.buf ∧ (s.enter r).sampler.next = s.sampler.next ∧
    (s.enter r).cfg Obj.dropped = s.cfg Obj.dropped + 1 := by
  unfold State.enter
  rw [if_neg (by omega)]
  exact ⟨by simp, by simp, (State.cfg_of_force rfl ..).trans (State.cfg_bump_same s Obj.dropped 1 0 0 (by
    rw [show Obj.dropped.top = 2 ^ 32 - 1 from by decide]
    omega))⟩

/-- A suppressed event takes no SEQ, and stays its code's last suppressed event (R420). -/
theorem State.record_suppressed (code subject domain : Nat) (params : List Nat) (limited : (recordClass code).2 = true)
    (empty : (s.bucket code).level < oneToken) : (s.record code params subject domain).sampler.buf = s.sampler.buf ∧
      (s.record code params subject domain).sampler.next = s.sampler.next ∧
      ((s.record code params subject domain).bucket code).suppressed = (s.bucket code).suppressed + 1 ∧
      ((s.record code params subject domain).bucket code).last.isSome = true := by
  unfold State.record
  extract_lets r b
  rw [if_pos limited, if_neg (Nat.not_le.2 empty)]
  refine ⟨by simp [State.setBucket], by simp [State.setBucket], ?_, ?_⟩ <;>
    simp [State.bucket, State.setBucket, Tbl.find_put_same, b]

/-- An event that is exempt or finds a token enters, as the record made of it, behind a change of its bucket alone. -/
theorem State.record_enters (code subject domain : Nat) (params : List Nat)
    (passes : (recordClass code).2 = false ∨ oneToken ≤ (s.bucket code).level) : ∃ (b : Tbl Bucket) (n : Nat),
      s.record code params subject domain = State.enter { s with sampler := { s.sampler with buckets := b } }
        { s.makeRec code subject domain params with suppressed := n } := by
  unfold State.record
  extract_lets r b
  split
  case isTrue limited =>
    rw [if_pos (passes.resolve_left (by simp [limited]))]
    exact ⟨_, _, rfl⟩
  · exact ⟨s.sampler.buckets, 0, rfl⟩

/-- A code's bucket that reaches a token records the last suppressed event, and forgets it (R420). -/
theorem State.refill_enters (code t : Nat) (r : Rec) (last : ((s.tick t).bucket code).last = some r)
    (token : oneToken ≤ ((s.tick t).bucket code).level) (room : s.pendingRecs < bufferRoom r.code) :
    ∃ u : State, exec (.rateBucketRefill code t) s = .next u ∧ u.sampler.buf = s.sampler.buf ++
        [{ r with seq := s.sampler.next, suppressed := min 65535 (((s.tick t).bucket code).suppressed - 1) }] ∧
      u.sampler.next = s.sampler.next + 1 ∧ (u.bucket code).suppressed = 0 ∧ (u.bucket code).last = none := by
  show ∃ u : State, execRateBucketRefill code t s = .next u ∧ _
  unfold execRateBucketRefill
  extract_lets s1 b
  rw [show b.last = some r from last]
  dsimp only
  rw [if_pos token]
  obtain ⟨buf, next, buckets, -⟩ := State.enter_room
    (s := s1.setBucket code { b with level := b.level - oneToken, suppressed := 0, last := none })
    { r with suppressed := min 65535 (b.suppressed - 1) } room
  refine ⟨_, rfl, buf, next, ?_, ?_⟩ <;> rw [State.bucket, buckets] <;> simp [State.setBucket, Tbl.find_put_same]

end

/-- Settles O47, by what a record does that enters, that finds no room, and that is suppressed. -/
theorem recordsTakeNumbersAsTheyEnter : Obligations.RecordsTakeNumbersAsTheyEnter := by
  unfold Obligations.RecordsTakeNumbersAsTheyEnter
  refine ⟨fun code subject domain params s => ⟨fun no => if_neg (by simpa using no), fun event passes => ?_,
    fun event limited empty => ?_⟩, fun code t s => ⟨fun no => ?_, fun r last token room =>
      State.refill_enters code t r last token room⟩⟩
  · have ran : exec (.recordEnter code subject domain params) s = .next _ := if_pos (by simpa using event)
    obtain ⟨b, n, is⟩ := State.record_enters (s := s) code (subject % 65536) (domain % 256)
      ((params.take 6).map (· % 2 ^ 32)) passes
    rw [is] at ran
    refine ⟨fun room => ?_, fun full fits => ?_⟩
    · obtain ⟨buf, next, -, only⟩ := State.enter_room (s := { s with sampler := { s.sampler with buckets := b } })
        { s.makeRec code (subject % 65536) (domain % 256) ((params.take 6).map (· % 2 ^ 32)) with suppressed := n } room
      exact ⟨_, _, ran, buf, rfl, next, rfl, rfl, rfl, rfl, rfl, rfl, rfl, only⟩
    · obtain ⟨buf, next, dropped⟩ := State.enter_lost (s := { s with sampler := { s.sampler with buckets := b } })
        { s.makeRec code (subject % 65536) (domain % 256) ((params.take 6).map (· % 2 ^ 32)) with suppressed := n } full fits
      exact ⟨_, ran, buf, next, dropped⟩
  · have ran : exec (.recordEnter code subject domain params) s = .next _ := if_pos (by simpa using event)
    exact ⟨_, ran, State.record_suppressed code _ _ _ limited empty⟩
  · show execRateBucketRefill code t s = _
    unfold execRateBucketRefill
    dsimp only
    split
    case h_1 r last =>
      exact if_neg (Nat.not_le.2 (no.resolve_left (by simp [last])))
    · rfl

end Sys2Proof.Machine
end


section
/-! Flushes store and readers follow (R422, R423, R425, R426, R429) -/
namespace Sys2Proof.Machine

/-! ### The pages of a flush -/

/-- The pages that lie before the end of a list are the list. -/
theorem pages_flatten (k n : Nat) (l : List Rec) (fits : l.length ≤ k * n) :
    ((List.range n).map fun i => (l.drop (k * i)).take k).flatten = l := by
  induction n generalizing l with
  | zero => simp_all
  | succ n ih =>
    rw [List.range_succ_eq_map, List.map_cons, List.map_map, List.flatten_cons]
    have rest := ih (l.drop k) (by rw [List.length_drop]; rw [Nat.mul_succ] at fits; omega)
    rw [show ((fun i => List.take k (List.drop (k * i) l)) ∘ Nat.succ) = fun i => List.take k (List.drop (k * i) (l.drop k)) by
      funext i
      simp [List.drop_drop, Nat.mul_succ, Nat.add_comm]]
    rw [rest]
    simp

theorem pagesOf_flatten (l : List Rec) : (pagesOf l).flatten = l := by
  unfold pagesOf ceilDiv
  exact pages_flatten 256 _ l (by omega)

/-- Where no copy has failed three times, every record of a flush has programmed (R423). -/
theorem programmedRecs_whole (recs : List Rec) (fails : List Nat) (few : ∀ i, fails.getD i 0 < 3) :
    programmedRecs recs fails = recs := by
  unfold programmedRecs copyBad
  simp only [Nat.not_le.2 (few _), decide_false, Bool.false_and, Bool.false_eq_true, if_false]
  rw [List.flatMap_def, List.zipIdx_map_fst, pagesOf_flatten]

section
variable {s : State}

/-- A flush that has nothing pending has no record in the buffer. -/
theorem State.buf_of_toFlush (empty : s.toFlush = false) : s.sampler.buf = [] := by
  simp [State.toFlush] at empty
  exact empty.1.1.1

theorem Sampler.keepRecs_leaves (x : Sampler) (recs : List Rec) : (x.keepRecs recs).buf = x.buf ∧ (x.keepRecs recs).due = x.due ∧
    (x.keepRecs recs).waiting = x.waiting := by
  unfold Sampler.keepRecs
  split <;> exact ⟨rfl, rfl, rfl⟩

/-- A flush that ends, with no mode change waiting for it: what the Sampler holds then. -/
theorem State.endFlush_sampler (recs : List Rec) (fails : List Nat) (runs : s.sampler.flushing = some recs)
    (idle : s.sampler.waiting = []) : (s.endFlush fails).sampler
      = { s.sampler.keepRecs (programmedRecs recs fails) with flushing := none, waiting := [] } := by
  obtain ⟨-, -, waiting⟩ := s.sampler.keepRecs_leaves (programmedRecs recs fails)
  unfold State.endFlush
  rw [runs]
  dsimp only
  split <;> simp [State.applyWaiting, waiting, idle]

/-- Failed copies are counted (R52). -/
theorem State.endFlush_copiesBad (recs : List Rec) (fails : List Nat) (bad : Nat) (runs : s.sampler.flushing = some recs)
    (idle : s.sampler.waiting = []) (are : bad = (List.range (2 * (pagesOf recs).length)).countP (copyBad fails))
    (fits : s.cfg Obj.copiesBad + bad < 2 ^ 32) : (s.endFlush fails).cfg Obj.copiesBad = s.cfg Obj.copiesBad + bad := by
  obtain ⟨-, -, waiting⟩ := s.sampler.keepRecs_leaves (programmedRecs recs fails)
  unfold State.endFlush
  rw [runs]
  dsimp only
  rw [← are]
  split
  case isTrue zero =>
    simp only [State.applyWaiting, waiting, idle, List.foldl_nil]
    rw [zero]
    exact State.cfg_of_force rfl ..
  · simp only [State.applyWaiting, state_bump_frame, waiting, idle, List.foldl_nil]
    exact (State.cfg_of_force rfl ..).trans (State.cfg_bump_same _ Obj.copiesBad bad 0 0 (by
      show s.cfg Obj.copiesBad + bad ≤ Obj.copiesBad.top
      rw [show Obj.copiesBad.top = 2 ^ 32 - 1 from by decide]
      omega))

/-- A flush that starts takes every pending record, with its chain link, and nothing but the Sampler changes (R422). -/
theorem State.beginFlush_starts (idle : s.sampler.flushing = none) (pending : s.toFlush = true) :
    s.beginFlush = s.startFlush.startTask Periodic.flush s.flushNs := if_pos ⟨by simp [idle], pending⟩

theorem State.beginFlush_buf (idle : s.sampler.flushing = none) : s.beginFlush.sampler.buf = [] := by
  unfold State.beginFlush
  split
  · rfl
  case isFalse no => exact State.buf_of_toFlush (s := s) (by simpa [idle] using no)

theorem State.startFlush_taken (free : s.sampler.holdSlot = none) :
    s.startFlush.sampler.flushing = some (chain s.sampler.link (s.sampler.buf ++ s.closing.1)).1 := by
  simp [State.startFlush, free, filter_all, filter_none]

/-- A flush that runs to its end leaves nothing pending, where no mode change waits for it. -/
theorem State.flushNow_done (idle : s.sampler.waiting = []) :
    s.flushNow.sampler.buf = [] ∧ s.flushNow.sampler.flushing = none := by
  have ended : (s.endFlush []).sampler.flushing = none ∧ (s.endFlush []).sampler.waiting = [] := by
    unfold State.endFlush
    split
    case h_1 none => exact ⟨none, idle⟩
    case h_2 recs runs =>
      have is := State.endFlush_sampler recs [] runs idle
      simp only [State.endFlush, runs] at is
      rw [is]
      exact ⟨rfl, rfl⟩
  unfold State.flushNow
  dsimp only
  split
  · have is := State.endFlush_sampler (s := (s.endFlush []).startFlush) _ [] rfl ended.2
    constructor
    · show ((s.endFlush []).startFlush.endFlush []).sampler.buf = []
      rw [is]
      exact ((s.endFlush []).startFlush.sampler.keepRecs_leaves _).1
    · show ((s.endFlush []).startFlush.endFlush []).sampler.flushing = none
      rw [is]
  case isFalse no => exact ⟨State.buf_of_toFlush (by simpa using no), ended.1⟩

/-- A slot whose record is pending is read after a flush (R425). -/
theorem State.reach_flushes (seq : Nat) (beyond : s.sampler.circ = [] ∨ s.sampler.newest < seq) (pending : 0 < s.pendingRecs)
    (may : s.flushOpen = true) : s.reach seq = s.flushNow := if_pos ⟨beyond, pending, may⟩

theorem State.reach_stays (seq : Nat) (stored : (s.sampler.circ ≠ [] ∧ seq ≤ s.sampler.newest) ∨ s.pendingRecs = 0 ∨
    s.flushOpen = false) : s.reach seq = s := by
  refine if_neg fun ⟨beyond, pending, may⟩ => ?_
  rcases stored with ⟨some, within⟩ | none | closed
  · rcases beyond with is | is
    · exact some is
    · omega
  · omega
  · exact absurd (closed.symm.trans may) (by decide)

end

/-- Settles O48. A flush takes the whole buffer; what it stores follows from the Sampler that its end leaves. -/
theorem flushesStoreAndReadersFollow : Obligations.FlushesStoreAndReadersFollow := by
  unfold Obligations.FlushesStoreAndReadersFollow
  refine ⟨fun s => ⟨fun no => if_neg (not_both no), fun due may idle free some => ?_⟩, fun t s => ⟨fun no => ?_, fun may due => ?_⟩,
    fun fails s => ⟨fun none => if_pos (by simp [none]), fun recs kept bad runs quiet idle kept_is bad_is => ?_⟩,
    fun acc k s => ⟨fun no => ⟨if_neg (by simp [no]), if_neg (by simp [no]), if_neg (by simp [no])⟩, fun manages =>
      ⟨fun stored => ?_, fun beyond pending may idle => ?_, ?_, fun off => if_neg (by simp [off]),
      fun on => if_pos ⟨manages, on⟩⟩⟩⟩
  · have ran : exec .samplerFlush s = .next s.beginFlush := if_pos ⟨due, may⟩
    rw [State.beginFlush_starts idle (by simp [State.toFlush, some])] at ran
    exact ⟨_, ran, rfl, rfl, rfl, State.startFlush_taken free, rfl, rfl⟩
  · exact if_neg fun ⟨may, due⟩ => no.elim (fun e => by cases e.symm.trans may) (fun e => by cases e.symm.trans due)
  · have ran : exec (.samplerFlushTimer t) s = .next _ := if_pos ⟨may, due⟩
    refine ⟨_, ran, ?_, fun idle => State.beginFlush_buf (s := s.tick t) idle⟩
    simp only [State.taskDone, state_beginFlush_frame]
    rfl
  · have is := State.endFlush_sampler recs fails runs idle
    obtain ⟨buf, stays, -⟩ := s.sampler.keepRecs_leaves (programmedRecs recs fails)
    have ran : exec (.samplerFlushDone fails) s = .next (s.endFlush fails) :=
      (if_neg (by simp [runs])).trans (by rw [if_neg (by simp [is, stays, quiet])])
    refine ⟨_, ran, by rw [is], by rw [is]; exact buf, State.endFlush_copiesBad recs fails bad runs idle bad_is,
      fun few => kept_is.trans (programmedRecs_whole recs fails few), fun none => ?_, fun c first => ?_⟩
    · rw [is, ← kept_is]
      simp only [Sampler.keepRecs, none]
      rfl
    · rw [is, ← kept_is]
      simp only [Sampler.keepRecs, first]
      exact ⟨trivial, fun r mem => by simpa using (List.mem_filter.1 mem).2⟩
  · refine (if_pos manages).trans ?_
    rw [State.reach_stays _ stored]
    rfl
  · have ran : exec (.windowSlotRead acc k) s = .next _ := if_pos manages
    rw [State.reach_flushes _ beyond pending may] at ran
    obtain ⟨buf, done⟩ := State.flushNow_done idle
    exact ⟨_, ran, buf, done, by simp [State.emit]; rfl⟩
  · have ran : exec (.cursorAdvance acc) s = .next _ := if_pos manages
    refine ⟨_, ran, ?_, ?_, fun c ne => ?_, rfl⟩
    · rw [State.acc_setAcc_same]
    · rw [State.acc_setAcc_same]
    · exact State.acc_setAcc_ne _ _ ne

end Sys2Proof.Machine
end


section
/-! Objects are read and written (R430 to R436, R439, R442 to R444) -/
namespace Sys2Proof.Machine

section
variable {s a : State} {h : Hdr}

/-- A command that CRYPTO_HALT serves runs where it begins and the ROM does not hold the device (R459, R474). -/
theorem State.runRead_of_begin (begun : s.begin h = some a) (single : a.fusedGate h = none) (entry : a.adminEntry h = none)
    (rom : a.security.rom = false) (body : State → State × Cpl) :
    s.runRead h body = ((body a).1).finish h (body a).2 := by
  unfold State.runRead State.startAdmin State.startWith
  simp [begun, single, entry, orElse, rom]

/-- A row that names an object covers its key. -/
theorem Obj.rowOf_covers {k : Nat} {r : ObjRow} (is : Obj.rowOf k = some r) : r.covers k = true := by
  unfold Obj.rowOf at is
  exact List.find?_some (p := fun x : ObjRow => x.covers k) is

/-- The key of an object follows from the offsets of its address in its row. -/
theorem ObjRow.key_of_rowOf {index sub : Nat} {r : ObjRow} (is : Obj.rowOf (256 * index + sub) = some r) (low : sub ≤ 255) :
    r.key (index - r.base) (sub - r.sub) = 256 * index + sub := by
  have covers := Obj.rowOf_covers is
  simp only [ObjRow.covers, Bool.and_eq_true, decide_eq_true_eq] at covers
  unfold ObjRow.key
  omega

/-! ### Reads -/

section
variable {acc : Accessor} {inForce : Bool} {index sub : Nat} {r : ObjRow}

/-- A row whose read changes nothing: an accessor reads what waits for its boundary, and else, or where it asks for it, the value
in force (R434). -/
theorem State.readRow_force {i j : Nat} (bits : r ≠ Obj.dirtyBits) (window : r ≠ Obj.window) (digest : r ≠ Obj.settingsDigest)
    (asks : inForce = true ∨ s.waitingValue acc (r.key i j) = none) :
    s.readRow acc inForce r i j = (s.inForce acc r i j, false, s) := by
  unfold State.readRow
  rw [if_neg bits, if_neg window, if_neg digest]
  rcases asks with asks | asks <;> simp [asks]

theorem State.readRow_waiting {i j v : Nat} (bits : r ≠ Obj.dirtyBits) (window : r ≠ Obj.window)
    (digest : r ≠ Obj.settingsDigest) (waits : s.waitingValue acc (r.key i j) = some v) :
    s.readRow acc false r i j = (v, true, s) := by
  unfold State.readRow
  rw [if_neg bits, if_neg window, if_neg digest]
  simp [waits]

/-- An address of an object: what its row and the accessor's right on it decide (R430, R442). -/
theorem State.readObject_none (plain : diagnostic index = false) (one : 1 ≤ sub) (is : Obj.rowOf (256 * index + sub) = none) :
    s.readObject acc inForce index sub = (⟨index, sub, 0, 0, 1, false, 0⟩, s) := by
  unfold State.readObject
  rw [if_neg (by simp [plain]), if_neg (by omega)]
  simp only [is]
  rfl

theorem State.readObject_barred (plain : diagnostic index = false) (one : 1 ≤ sub) (is : Obj.rowOf (256 * index + sub) = some r)
    (reads : s.may acc r index Right.canRead = false) (writes : s.may acc r index Right.canWrite = false) :
    s.readObject acc inForce index sub = (⟨index, sub, 0, 0, 2, false, 0⟩, s) := by
  unfold State.readObject
  rw [if_neg (by simp [plain]), if_neg (by omega)]
  simp only [is]
  rw [if_neg (by simp [reads]), if_neg (by simp [writes])]
  rfl

theorem State.readObject_reads (plain : diagnostic index = false) (one : 1 ≤ sub) (is : Obj.rowOf (256 * index + sub) = some r)
    (reads : s.may acc r index Right.canRead = true) {v : Nat} {staged : Bool}
    (got : s.readRow acc inForce r (index - r.base) (sub - r.sub) = (v, staged, s)) :
    s.readObject acc inForce index sub = (⟨index, sub, r.ty.code, r.len, 0, staged, v % 256 ^ r.len⟩, s) := by
  unfold State.readObject
  rw [if_neg (by simp [plain]), if_neg (by omega)]
  simp only [is]
  rw [if_pos reads, got]

end

theorem State.readMany_one {acc : Accessor} {room : Nat} {q : ReadReq} {d : DictReply}
    (got : s.readObject acc q.inForce q.index q.sub = (d, s)) (fits : d.bytes ≤ room) : s.readMany acc room [q] = ([d], s) := by
  unfold State.readMany
  rw [got]
  dsimp only
  rw [if_neg (by omega)]
  rfl

theorem refused_bytes (index sub status : Nat) : DictReply.bytes ⟨index, sub, 0, 0, status, false, 0⟩ = 8 := by
  simp [DictReply.bytes, padded, ceilDiv]

/-- A read of one object that fits its buffer answers its record (R443). -/
theorem execDictionaryRead_one (begun : s.begin h = some a) (single : a.fusedGate h = none) (entry : a.adminEntry h = none)
    (rom : a.security.rom = false) {index sub buflen : Nat} {inForce : Bool} {d : DictReply} (one : 1 ≤ sub) (low : sub ≤ 255)
    (whole : buflen % 8 = 0) (least : 8 ≤ buflen) (most : buflen ≤ 4096) (buffer : a.adminBuffer h buflen = none)
    (got : a.readObject h.fn.accessor inForce index sub = (d, a)) (fits : d.bytes ≤ buflen) :
    exec (.dictionaryRead h index sub inForce 1 buflen) s
      = .next (State.finish (State.emit a (.reply h (.records [d]))) h ⟨⟨0, 0⟩, 1, 0⟩) := by
  show execDictionaryRead h index sub inForce 1 buflen s = _
  unfold execDictionaryRead
  rw [State.runRead_of_begin begun single entry rom, if_neg (by omega), State.buffered_of_none buffer]
  have many := State.readMany_one (s := a) (acc := h.fn.accessor) (q := ⟨index, sub, inForce⟩) got fits
  rw [show (List.range 1).map (fun k => ReadReq.mk index (sub + k) inForce) = [⟨index, sub, inForce⟩] from rfl]
  dsimp only
  rw [many]
  rfl

/-! ### Writes -/

/-- Records of a write are applied in order up to the first refusal (R444). -/
theorem State.writeMany_eq (acc : Accessor) (l : List (Fin 96)) (recs : List DictRec) (s : State) :
    (s.writeMany acc l recs).2.2 = (recs.take ((s.writeMany acc l recs).1 + 1)).foldl
      (fun (b : State) d => (b.writeObject acc d l).2) s ∧ (s.writeMany acc l recs).1 ≤ recs.length ∧
    ((s.writeMany acc l recs).2.1 = 0 ↔ (s.writeMany acc l recs).1 = recs.length) := by
  induction recs generalizing s with
  | nil => exact ⟨rfl, Nat.le_refl _, by simp [State.writeMany]⟩
  | cons d t ih =>
    unfold State.writeMany
    dsimp only
    split
    case isTrue refused => exact ⟨rfl, by simp, by simp [refused]⟩
    case isFalse applied =>
      obtain ⟨is, most, all⟩ := ih (s.writeObject acc d l).2
      exact ⟨by rw [is]; rfl, by simpa using most, by simpa using all⟩

section
variable {acc : Accessor} {d : DictRec} {l : List (Fin 96)} {r : ObjRow}

/-- An address without an object, an accessor without the right and a value of another type change nothing (R442). -/
theorem State.writeObject_none (is : Obj.rowOf (256 * d.index + d.sub) = none) : (s.writeObject acc d l).2 = s := by
  unfold State.writeObject
  simp only [is]
  (repeat' split) <;> rfl

theorem State.writeObject_barred (is : Obj.rowOf (256 * d.index + d.sub) = some r)
    (no : r.app = .fixed ∨ s.may acc r d.index Right.canWrite = false ∨ typeOk r d = false) : (s.writeObject acc d l).2 = s := by
  unfold State.writeObject
  simp only [is]
  (repeat' split) <;> simp_all

theorem State.writeObject_writes (may : MayWrite s acc d r) :
    s.writeObject acc d l = s.writeRow acc r (d.index - r.base) (d.sub - r.sub) d.value l := by
  obtain ⟨is, nonzero, plain, set, right, pool, typed⟩ := may
  unfold State.writeObject
  rw [if_neg (by simp [plain]), if_neg nonzero]
  simp only [is]
  rw [if_neg (by simp [set, right]; omega), if_neg (by simp [typed])]

/-- A value of a COMMIT object is staged, where the set has room for it (R436). -/
theorem State.writeRow_stages {i j v : Nat} (app : r.app = .commit)
    (room : (s.acc acc.code).staged.length < 8192 ∨ (Tbl.find (s.acc acc.code).staged (r.key i j)).isSome = true) :
    s.writeRow acc r i j v l = (0, s.setAcc acc.code { s.acc acc.code with
      staged := Tbl.put (s.acc acc.code).staged (r.key i j) v }) := by
  unfold State.writeRow
  rw [if_pos app]
  refine if_neg fun ⟨full, new⟩ => ?_
  rcases room with room | held
  · omega
  · simp [Option.isNone_iff_eq_none.1 new] at held

theorem State.writeRow_full {i j v : Nat} (app : r.app = .commit) (full : 8192 ≤ (s.acc acc.code).staged.length)
    (new : Tbl.find (s.acc acc.code).staged (r.key i j) = none) : s.writeRow acc r i j v l = (7, s) := by
  unfold State.writeRow
  rw [if_pos app]
  exact if_pos ⟨full, by simp [new]⟩

theorem State.writeRow_outside {i j v : Nat} (app : r.app ≠ .commit) (out : s.inRange r i j v = false) :
    s.writeRow acc r i j v l = (4, s) := by
  unfold State.writeRow
  rw [if_neg app, if_pos (by simp [out])]

theorem State.writeRow_busy {i j v : Nat} (range : s.inRange r i j v = true) (app : r.app = .quiesce)
    (some : s.store.ns ≠ []) : s.writeRow acc r i j v l = (5, s) := by
  unfold State.writeRow
  rw [if_neg (by simp [app]), if_neg (by simp [range]), if_pos ⟨app, some⟩]

/-- A value of an object that holds it and no more is stored under its class (R434, R436). -/
theorem State.writeRow_holds {i j v : Nat} (app : r.app ≠ .commit) (range : s.inRange r i j v = true)
    (quiet : r.app = .quiesce → s.store.ns = []) (plain : ¬ r ∈ actingRows) :
    s.writeRow acc r i j v l = (0, s.storeValue r i j v) := by
  have acts : s.actRefused acc r i j v = some (s.storeValue r i j v) := by
    simp only [actingRows, List.mem_cons, List.not_mem_nil, or_false, not_or] at plain
    unfold State.actRefused
    simp [plain]
  have commit : r ≠ Obj.commit := fun is => plain (by simp [is, actingRows])
  unfold State.writeRow
  rw [if_neg app, if_neg (by simp [range]), if_neg (fun ⟨is, held⟩ => held (quiet is)), if_neg commit, acts]

/-- A value that waits, of a FRAME or a REBOOT object, leaves those in force. -/
theorem State.storeValue_waits {i j v : Nat} :
    (r.app = .frame → Tbl.find (s.storeValue r i j v).dict.frame (r.key i j) = some v) ∧
    (r.app = .reboot → Tbl.find (s.storeValue r i j v).dict.reboot (r.key i j) = some v) ∧
    (r.app = .frame ∨ r.app = .reboot → (s.storeValue r i j v).dict.force = s.dict.force) := by
  unfold State.storeValue
  dsimp only
  refine ⟨fun app => ?_, fun app => ?_, fun app => ?_⟩
  · rw [app]
    dsimp only
    split <;> exact Tbl.find_put_same ..
  · rw [app]
    dsimp only
    split <;> exact Tbl.find_put_same ..
  · rcases app with app | app <;> rw [app] <;> dsimp only <;> split <;> rfl

theorem State.storeValue_acts {i j v : Nat} (app : r.app = .immediate ∨ r.app = .quiesce) :
    s.storeValue r i j v = s.save r v i j := by
  unfold State.storeValue
  rcases app with app | app <;> rw [app]

/-- A value that is kept over a boot is on media too (R435), and nothing but the dictionary changes. -/
theorem State.storeValue_durable {i j v : Nat} (app : r.app = .frame ∨ r.app = .reboot ∨ r.app = .immediate ∨ r.app = .quiesce)
    (kept : r.per ≠ .volatile) : Tbl.find (s.storeValue r i j v).dict.durable (r.key i j) = some v := by
  unfold State.storeValue State.save
  dsimp only
  rcases app with app | app | app | app <;> rw [app] <;> dsimp only <;> rw [if_neg kept] <;> exact Tbl.find_put_same ..

theorem State.storeValue_only {i j v : Nat} : s.storeValue r i j v = { s with dict := (s.storeValue r i j v).dict } := by
  unfold State.storeValue State.save State.keep
  dsimp only
  cases r.app <;> dsimp only <;> split <;> rfl

end

theorem rowOf_restoreDefaults : Obj.rowOf (256 * 0x1F00 + 0x10) = some Obj.restoreDefaults := by decide +kernel

/-- The managers and the port may write RESTORE_DEFAULTS, and no instance. -/
theorem State.may_restoreDefaults (acc : Accessor) :
    s.may acc Obj.restoreDefaults 0x1F00 Right.canWrite = Accessor_manages acc := by
  cases acc <;> rfl

theorem typeOk_restoreDefaults (on : Bool) : typeOk Obj.restoreDefaults ⟨0x1F00, 0x10, 6, 1, on.toNat⟩ = true := by
  cases on <;> decide

/-- RESTORE_DEFAULTS waits for the boot (R439). -/
theorem State.writeObject_restoreDefaults {acc : Accessor} (on : Bool) (manages : Accessor_manages acc = true) :
    s.writeObject acc ⟨0x1F00, 0x10, 6, 1, on.toNat⟩ [] = (0, s.storeValue Obj.restoreDefaults 0 0 on.toNat) := by
  have may : MayWrite s acc ⟨0x1F00, 0x10, 6, 1, on.toNat⟩ Obj.restoreDefaults := by
    refine ⟨rowOf_restoreDefaults, ?_, ?_, ?_, (State.may_restoreDefaults acc).trans manages, ?_, typeOk_restoreDefaults on⟩ <;>
      simp [diagnostic, Obj.restoreDefaults]
  rw [State.writeObject_writes may, show (0x1F00 - Obj.restoreDefaults.base) = 0 from by decide,
    show (0x10 - Obj.restoreDefaults.sub) = 0 from by decide]
  exact State.writeRow_holds (by decide) (by cases on <;> rfl) (fun is => by cases is) (by decide)

end

/-- Settles O49, by what a read of one address answers, and by what each class of object does with a value. -/
theorem objectsAreReadAndWritten : Obligations.ObjectsAreReadAndWritten := by
  unfold Obligations.ObjectsAreReadAndWritten
  refine ⟨fun h index sub inForce count buflen s a begun single entry rom => ⟨fun bad => ?_,
    fun one low whole least most buffer plain => ?_⟩, fun h len recs l s a starts => ⟨fun bad => ?_,
      fun whole least most bytes buffer => ?_⟩, fun acc d l s => ⟨fun is => ?_, fun r is => ⟨fun no => ?_, fun may i j i_is j_is =>
      ?_⟩⟩, fun acc on s => ⟨fun no => ?_, fun manages => ?_⟩⟩
  · show execDictionaryRead h index sub inForce count buflen s = _
    rw [execDictionaryRead, State.runRead_of_begin begun single entry rom, if_pos bad]
    rfl
  · have read {d : DictReply} (got : a.readObject h.fn.accessor inForce index sub = (d, a)) (fits : d.bytes ≤ buflen) :=
      execDictionaryRead_one begun single entry rom one low whole least most buffer got fits
    refine ⟨fun is => read (State.readObject_none plain one is) (refused_bytes .. ▸ least), fun r is => ⟨fun reads writes =>
      read (State.readObject_barred plain one is reads writes) (refused_bytes .. ▸ least), fun reads bits window digest fits => ?_⟩⟩
    have key := ObjRow.key_of_rowOf is low
    refine ⟨fun asks => read (State.readObject_reads plain one is reads (State.readRow_force bits window digest
      (by rwa [key]))) fits, fun v own waits => ?_⟩
    subst own
    exact read (State.readObject_reads plain one is reads (State.readRow_waiting bits window digest (by rwa [key]))) fits
  · show execDictionaryWrite h len recs l s = _
    rw [execDictionaryWrite, State.run_of_starts starts, if_pos bad]
    rfl
  · obtain ⟨is, most, all⟩ := State.writeMany_eq h.fn.accessor l recs a
    refine ⟨(a.writeMany h.fn.accessor l recs).1, (a.writeMany h.fn.accessor l recs).2.1, ?_, most, all⟩
    show execDictionaryWrite h len recs l s = _
    rw [execDictionaryWrite, State.run_of_starts starts, if_neg (by omega), State.buffered_of_none buffer, ← is]
    dsimp only
    split <;> rfl
  · exact congrArg _ (State.writeObject_none is)
  · exact congrArg _ (State.writeObject_barred is no)
  · have ran : exec (.objectWrite acc d l) s = .next (s.writeRow acc r i j d.value l).2 := by
      rw [i_is, j_is]
      exact congrArg (fun x => Host.Outcome.next x.2) (State.writeObject_writes may)
    refine ⟨fun app => ⟨fun room => ?_, fun full new => ?_⟩, fun app => ⟨fun out => ?_, fun range => ⟨fun quiesce some => ?_,
      fun plain => ?_⟩⟩⟩
    · rw [State.writeRow_stages app room] at ran
      refine ⟨_, ran, ?_, fun k ne => ?_, fun c ne => State.acc_setAcc_ne _ _ ne, rfl, rfl⟩
      · rw [State.acc_setAcc_same]
        exact Tbl.find_put_same ..
      · rw [State.acc_setAcc_same]
        exact Tbl.find_put_ne _ _ ne
    · rw [ran, State.writeRow_full app full new]
    · rw [ran, State.writeRow_outside app out]
    · rw [ran, State.writeRow_busy range quiesce some]
    · have held (quiet : r.app = .quiesce → s.store.ns = []) : exec (.objectWrite acc d l) s
          = .next (s.storeValue r i j d.value) := by rw [ran, State.writeRow_holds app range quiet plain]
      obtain ⟨frame, reboot, force⟩ := State.storeValue_waits (s := s) (r := r) (i := i) (j := j) (v := d.value)
      refine ⟨fun class_ => ⟨_, held (by simp [class_]), frame class_, force (.inl class_),
        State.storeValue_durable (.inl class_), State.storeValue_only⟩, fun class_ => ⟨_, held (by simp [class_]),
        reboot class_, force (.inr class_), State.storeValue_durable (.inr (.inl class_)), State.storeValue_only⟩,
        fun class_ => ⟨_, held fun is => ?_, ?_, State.storeValue_durable ?_, State.storeValue_only⟩⟩
      · exact class_.elim (fun imm => by rw [imm] at is; cases is) (·.2)
      · rw [State.storeValue_acts (class_.imp_right (·.1)), State.cfg_save_same]
      · exact .inr (.inr (class_.imp_right (·.1)))
  · have same := State.writeObject_barred (s := s) (d := ⟨0x1F00, 0x10, 6, 1, on.toNat⟩) (l := []) rowOf_restoreDefaults
      (.inr (.inl ((State.may_restoreDefaults acc).trans no)))
    show Host.Outcome.next (s.writeObject acc ⟨0x1F00, 0x10, 6, 1, on.toNat⟩ []).2 = _
    rw [same]
  · have held := State.writeObject_restoreDefaults (s := s) on manages
    have ran : exec (.restoreDefaults acc on) s = .next (s.storeValue Obj.restoreDefaults 0 0 on.toNat) := by
      show Host.Outcome.next (s.writeObject acc ⟨0x1F00, 0x10, 6, 1, on.toNat⟩ []).2 = _
      rw [held]
    exact ⟨_, ran, State.storeValue_durable (.inr (.inl rfl)) (by decide), State.storeValue_waits.2.2 (.inr rfl),
      State.storeValue_only⟩

end Sys2Proof.Machine
end


section
/-! Commits check their sets (R437, R438, R445) -/
namespace Sys2Proof.Machine

section
variable {s : State}

@[simp] theorem State.enter_commits (r : Rec) : (s.enter r).dict.commits = s.dict.commits := by
  unfold State.enter
  dsimp only
  (repeat' split) <;> rfl

@[simp] theorem State.record_commits (code : Nat) (params : List Nat) (subject domain : Nat) :
    (s.record code params subject domain).dict.commits = s.dict.commits := by
  unfold State.record
  dsimp only
  repeat' split
  · exact State.enter_commits _
  · rfl
  · exact State.enter_commits _

@[simp] theorem State.save_commits (r : ObjRow) (v i j : Nat) : (s.save r v i j).dict.commits = s.dict.commits := by
  unfold State.save State.keep
  dsimp only
  split <;> rfl

/-- The fencing of a cell leaves the commits that wait for their boundary, and COMMIT_SEQ. -/
theorem State.fenceCell_commits (c reason : Nat) : (s.fenceCell c reason).dict.commits = s.dict.commits ∧
    (s.fenceCell c reason).cfg Obj.commitSeq = s.cfg Obj.commitSeq := by
  have apart (r : ObjRow) (is : r = Obj.cellRole ∨ r = Obj.fenceReason ∨ r = Obj.fenceCount) :
      Obj.commitSeq.key 0 0 ≠ r.key c 0 := by
    rcases is with rfl | rfl | rfl <;>
      simp only [ObjRow.key, Obj.commitSeq, Obj.cellRole, Obj.fenceReason, Obj.fenceCount] <;> omega
  have posted (l : List WorkItem) (b : State) : (l.foldl State.repostAfterFault b).dict = b.dict := by simp
  unfold State.fenceCell
  split
  · exact ⟨rfl, rfl⟩
  · extract_lets items role s0 s1 ci en s2 cl s3
    have dict : (items.foldl State.repostAfterFault s3).dict = s2.dict := by
      rw [posted]
      unfold s3
      split <;> rfl
    refine ⟨by rw [dict]; simp [s2, s1, s0, State.bump, State.keep, State.setCell], ?_⟩
    rw [State.cfg_of_force (congrArg Dict.force dict)]
    unfold s2
    rw [State.cfg_record _ _ _ _ _ _ _ _ (by unfold ObjRow.other; decide) (by unfold ObjRow.other; decide)]
    show s1.cfg Obj.commitSeq = _
    unfold s1 s0
    rw [State.cfg_save_ne _ _ _ _ _ _ _ _ (apart _ (by simp)), State.cfg_bump_ne _ _ _ _ _ _ _ _ (apart _ (by simp)),
      State.cfg_save_ne _ _ _ _ _ _ _ _ (apart _ (by simp)), State.cfg_save_ne _ _ _ _ _ _ _ _ (apart _ (by simp))]

theorem State.commitRole_commits (c role : Nat) : (s.commitRole c role).dict.commits = s.dict.commits ∧
    (s.commitRole c role).cfg Obj.commitSeq = s.cfg Obj.commitSeq := by
  unfold State.commitRole
  dsimp only
  repeat' split
  · exact ⟨rfl, rfl⟩
  · exact State.fenceCell_commits c 6
  · exact ⟨rfl, rfl⟩

theorem State.commitRoles_commits (roles : List (Nat × Nat × Nat)) :
    (roles.foldl (fun a e => a.commitRole e.1 e.2.2) s).dict.commits = s.dict.commits ∧
    (roles.foldl (fun a e => a.commitRole e.1 e.2.2) s).cfg Obj.commitSeq = s.cfg Obj.commitSeq := by
  induction roles generalizing s with
  | nil => exact ⟨rfl, rfl⟩
  | cons e t ih =>
    obtain ⟨commits, seq⟩ := State.commitRole_commits (s := s) e.1 e.2.2
    obtain ⟨is, seq'⟩ := ih (s := s.commitRole e.1 e.2.2)
    exact ⟨is.trans commits, seq'.trans seq⟩

/-- A set that is accepted raises COMMIT_SEQ, and waits under that number (R437). -/
theorem State.acceptSet_commits (set : Tbl Nat) :
    (s.acceptSet set).dict.commits = s.dict.commits ++ [((s.cfg Obj.commitSeq + 1) % 2 ^ 32, set)] ∧
    (s.acceptSet set).cfg Obj.commitSeq = (s.cfg Obj.commitSeq + 1) % 2 ^ 32 := by
  unfold State.acceptSet
  extract_lets d s1 s2 roles s3 s4
  have seq : s2.cfg Obj.commitSeq = (s.cfg Obj.commitSeq + 1) % 2 ^ 32 := State.cfg_save_same ..
  obtain ⟨commits, kept⟩ := State.commitRoles_commits (s := s2) roles
  have laid : s4.dict.commits = s3.dict.commits ∧ s4.cfg Obj.commitSeq = s3.cfg Obj.commitSeq := by
    unfold s4
    split
    · exact ⟨rfl, rfl⟩
    · exact ⟨State.save_commits .., State.cfg_save_ne _ _ _ _ _ _ _ _ (by decide)⟩
  refine ⟨?_, (State.cfg_of_force rfl ..).trans (laid.2.trans (kept.trans seq))⟩
  show s4.dict.commits ++ _ = _
  rw [laid.1, show s3.dict.commits = _ from commits, seq, State.save_commits]

theorem State.mayCommit_eq (acc : Accessor) : s.mayCommit acc = Accessor_manages acc := by
  cases acc <;> rfl

/-- The commit of a set that fails a check, and of one that passes (R437, R438). -/
theorem State.commitSet_fails {acc : Accessor} {l : List (Fin 96)} {k : Nat}
    (fails : lowest (s.commitFails (s.acc acc.code).staged l) = some k) :
    s.commitSet acc l = (k, s.setAcc acc.code { s.acc acc.code with reason := k }) := by
  unfold State.commitSet
  simp only [fails]

theorem State.commitSet_passes {acc : Accessor} {l : List (Fin 96)}
    (passes : lowest (s.commitFails (s.acc acc.code).staged l) = none) : s.commitSet acc l =
      (0, (s.acceptSet (s.acc acc.code).staged).setAcc acc.code { s.acc acc.code with staged := [], reason := 0 }) := by
  unfold State.commitSet
  simp only [passes]

theorem State.commitSet_staing (acc : Accessor) (l : List (Fin 96)) : (s.commitSet acc l).2.staing = s.staing := by
  unfold State.commitSet
  dsimp only
  split
  · rfl
  · exact (state_acceptSet_frame ..).2.2.2.2.2.2.2.1

/-- A request that has been executed leaves the line, with its response kept, and no commit or set changes (R455). -/
theorem State.executed_leaves (o : Out) : (s.executed o).staing.waiting = s.staing.waiting.drop 1 ∧
    (s.executed o).staing.cached = some o ∧ (s.executed o).dict.commits = s.dict.commits ∧
    (s.executed o).dict.accs = s.dict.accs := by
  unfold State.executed State.respond State.transmit
  dsimp only
  split <;> exact ⟨rfl, rfl, rfl, rfl⟩

section
variable {d : Datagram} {rest : List Datagram} {action : Nat}

/-- The oldest waiting request is not a COMMIT, or the port is closed: nothing happens (R455). -/
theorem State.staingCommit_closed (line : s.staing.waiting = d :: rest) (no : d.op ≠ 3 ∨ s.staingOpen = false)
    {act : State → Nat × State} : s.staingCommit action act = s := by
  unfold State.staingCommit
  simp only [line]
  exact if_pos (by simpa using no)

theorem State.staingCommit_runs (line : s.staing.waiting = d :: rest) (op : d.op = 3) (may : s.staingOpen = true)
    (arg : d.arg % 256 = action) (act : State → Nat × State) : s.staingCommit action act
      = (act s).2.executed (.staing 3 (if (act s).1 = 0 then 0 else 5) d.seq (act s).1 [] 0) := by
  unfold State.staingCommit
  simp only [line]
  rw [if_neg (by simp [op, may]), if_pos arg]

/-- A COMMIT asks the other of the two. -/
theorem State.staingCommit_other (line : s.staing.waiting = d :: rest) (op : d.op = 3) (may : s.staingOpen = true)
    (ne : d.arg % 256 ≠ action) (known : d.arg % 256 = 1 ∨ d.arg % 256 = 2) (act : State → Nat × State) :
    s.staingCommit action act = s := by
  unfold State.staingCommit
  simp only [line]
  rw [if_neg (by simp [op, may]), if_neg ne, if_neg (by omega)]

end

end

/-- Settles O50. The lowest failing check decides, and the roles of a set that passes leave COMMIT_SEQ alone. -/
theorem commitsCheckTheirSets : Obligations.CommitsCheckTheirSets := by
  unfold Obligations.CommitsCheckTheirSets
  refine ⟨fun acc l s => ⟨fun k fails => ?_, fun passes => ?_, ?_, rfl, fun c ne => State.acc_setAcc_ne _ _ ne⟩,
    fun h l s a starts => ⟨?_, ?_⟩, fun acc l s => ⟨fun manages => ⟨?_, ?_⟩, fun no => ⟨?_, ?_⟩⟩,
    fun l s d rest line => ⟨fun no => ⟨?_, ?_⟩, fun op may => ⟨fun arg => ?_, fun arg => ⟨?_, ?_⟩⟩⟩⟩
  · rw [State.commitSet_fails fails]
    exact ⟨rfl, by rw [State.acc_setAcc_same], by rw [State.acc_setAcc_same], rfl, rfl⟩
  · obtain ⟨commits, seq⟩ := State.acceptSet_commits (s := s) (s.acc acc.code).staged
    rw [State.commitSet_passes passes]
    exact ⟨rfl, by rw [State.acc_setAcc_same], by rw [State.acc_setAcc_same], seq, commits⟩
  · unfold State.discardSet
    rw [State.acc_setAcc_same]
  · show Host.Outcome.next (s.managerRun h _) = _
    rw [State.managerRun_of_starts starts]
    dsimp only
    split <;> rfl
  · show Host.Outcome.next (s.managerRun h _) = _
    rw [State.managerRun_of_starts starts]
    rfl
  · exact congrArg _ (if_pos ((State.mayCommit_eq acc).trans manages))
  · exact congrArg _ (if_pos ((State.mayCommit_eq acc).trans manages))
  · exact congrArg _ (if_neg (by simp [State.mayCommit_eq, no]))
  · exact congrArg _ (if_neg (by simp [State.mayCommit_eq, no]))
  · exact congrArg _ (State.staingCommit_closed line no)
  · exact congrArg _ (State.staingCommit_closed line no)
  · have ran : exec (.commit .staing l) s = .next _ := congrArg Host.Outcome.next (State.staingCommit_runs line op may arg _)
    obtain ⟨waiting, cached, commits, -⟩ := State.executed_leaves (s := (s.commitSet .port l).2)
      (.staing 3 (if (s.commitSet .port l).1 = 0 then 0 else 5) d.seq (s.commitSet .port l).1 [] 0)
    exact ⟨_, ran, by rw [waiting, State.commitSet_staing, line]; rfl, commits, cached⟩
  · exact congrArg _ (State.staingCommit_other line op may (by omega) (by omega) _)
  · have ran : exec (.discard .staing) s 
        = .next ((s.discardSet .port).executed (.staing 3 0 d.seq 0 [] 0)) :=
      congrArg Host.Outcome.next (State.staingCommit_runs line op may arg _)
    obtain ⟨waiting, cached, -, accs⟩ := State.executed_leaves (s := s.discardSet .port) (.staing 3 0 d.seq 0 [] 0)
    refine ⟨_, ran, by rw [waiting]; exact congrArg (List.drop 1) line, ?_, cached⟩
    rw [State.acc, accs]
    exact congrArg AccSt.staged (State.acc_setAcc_same ..)

end Sys2Proof.Machine
end


section
/-! Staing requests are served in order (R449, R450, R453 to R456) -/
namespace Sys2Proof.Machine

/-! ### PAIR_STATUS -/

section
variable {st wire polInv txEn vFault faults : Nat}

/-- PAIR_STATUS shows the fields that it is made of. -/
theorem field_pairWord_state (h1 : st < 16) (h2 : wire < 4) (h3 : polInv < 2) (h4 : txEn < 2) (h5 : vFault < 256)
    (h6 : faults < 256) : field (pairWord st wire polInv txEn vFault faults) 28 4 = st := by
  unfold field pairWord
  omega

theorem field_pairWord_wire (h2 : wire < 4) (h3 : polInv < 2) (h4 : txEn < 2) (h5 : vFault < 256) (h6 : faults < 256) :
    field (pairWord st wire polInv txEn vFault faults) 26 2 = wire := by
  unfold field pairWord
  omega

theorem field_pairWord_polInv (h3 : polInv < 2) (h4 : txEn < 2) (h5 : vFault < 256) (h6 : faults < 256) :
    field (pairWord st wire polInv txEn vFault faults) 25 1 = polInv := by
  unfold field pairWord
  omega

theorem pairWord_txEn (h4 : txEn < 2) (h5 : vFault < 256) (h6 : faults < 256) :
    (pairWord st wire polInv txEn vFault faults).testBit 24 = decide (txEn = 1) := by
  rw [Nat.testBit_eq_decide_div_mod_eq]
  unfold pairWord
  congr 1
  simp only [eq_iff_iff]
  omega

theorem field_lt (v lo w : Nat) : field v lo w < 2 ^ w := Nat.mod_lt _ (Nat.two_pow_pos w)

end

theorem PairState_code_lt (st : PairState) : PairState_code st < 16 := by
  cases st <;> decide

section
variable {s : State}

/-- A state that shows a word of PAIR_STATUS and holds the start of an absence. -/
def State.paired (s : State) (word : Nat) (clear : Option Nat) : State :=
  { s.keep Obj.pairStatus word with staing := { s.staing with pairClear := clear } }

theorem State.paired_status (word : Nat) (clear : Option Nat) : (s.paired word clear).cfg Obj.pairStatus = word :=
  (State.cfg_of_force rfl ..).trans (State.cfg_keep_same ..)

theorem State.paired_txEnabled (word : Nat) (clear : Option Nat) : (s.paired word clear).txEnabled = word.testBit 24 := by
  unfold State.txEnabled
  rw [State.paired_status]

theorem State.paired_host (word : Nat) (clear : Option Nat) : (s.paired word clear).host = s.host := rfl

theorem State.paired_clear (word : Nat) (clear : Option Nat) : (s.paired word clear).staing.pairClear = clear := rfl

/-! ### The pair (R450) -/

theorem State.diagnose_fault {st : PairState} (fault : st ≠ .normal) (wire v polInv : Nat) : ∃ n < 256,
    s.diagnose st wire v polInv = s.paired (pairWord (PairState_code st) (wire % 4) polInv 0 (min 255 v) n) none := by
  have few : field (s.cfg Obj.pairStatus) 8 8 < 256 := field_lt ..
  refine ⟨if s.txEnabled || s.staing.pairClear.isSome || field (s.cfg Obj.pairStatus) 28 4 ≠ PairState_code st then
    min 255 (field (s.cfg Obj.pairStatus) 8 8 + 1) else field (s.cfg Obj.pairStatus) 8 8, ?_, ?_⟩
  · split <;> omega
  · unfold State.diagnose State.paired
    rw [if_neg fault]

theorem State.paired_same (word : Nat) : s.paired word s.staing.pairClear = s.keep Obj.pairStatus word := rfl

theorem State.diagnose_enabled (on : s.txEnabled = true) (wire v polInv : Nat) : ∃ n < 256,
    s.diagnose .normal wire v polInv = s.paired (pairWord 0 0 polInv 1 0 n) s.staing.pairClear := by
  refine ⟨_, field_lt (s.cfg Obj.pairStatus) 8 8, ?_⟩
  unfold State.diagnose
  rw [State.paired_same, if_pos rfl, if_pos on]

theorem State.diagnose_clears (off : s.txEnabled = false) (wire v polInv : Nat)
    (absent : pairClearNs ≤ s.now - s.staing.pairClear.getD s.now) : ∃ n < 256,
    s.diagnose .normal wire v polInv = s.paired (pairWord 0 0 polInv 1 0 n) none := by
  refine ⟨_, field_lt (s.cfg Obj.pairStatus) 8 8, ?_⟩
  unfold State.diagnose
  dsimp only
  rw [if_pos rfl, if_neg (by simp [off]), if_pos absent]
  rfl

theorem State.diagnose_waits (off : s.txEnabled = false) (wire v polInv : Nat)
    (present : ¬ pairClearNs ≤ s.now - s.staing.pairClear.getD s.now) : ∃ (st w vf n : Nat), st < 16 ∧ w < 4 ∧ vf < 256 ∧ n < 256 ∧
      s.diagnose .normal wire v polInv = s.paired (pairWord st w polInv 0 vf n) (some (s.staing.pairClear.getD s.now)) := by
  refine ⟨_, _, _, _, field_lt (s.cfg Obj.pairStatus) 28 4, field_lt (s.cfg Obj.pairStatus) 26 2,
    field_lt (s.cfg Obj.pairStatus) 16 8, field_lt (s.cfg Obj.pairStatus) 8 8, ?_⟩
  unfold State.diagnose
  dsimp only
  rw [if_pos rfl, if_neg (by simp [off]), if_neg present]
  rfl

/-- What a diagnosis of the pair shows (R450). -/
theorem State.pairDiagnosis_shows (st : PairState) (wire v t : Nat) (rev : Bool) : ∃ u : State,
    exec (.pairDiagnosis st wire v rev t) s = .next u ∧ u.host = s.host ∧ field (u.cfg Obj.pairStatus) 25 1 = rev.toNat ∧
    (st ≠ .normal → u.txEnabled = false ∧ field (u.cfg Obj.pairStatus) 28 4 = PairState_code st ∧
      field (u.cfg Obj.pairStatus) 26 2 = wire % 4 ∧ u.staing.pairClear = none) ∧
    (st = .normal → s.txEnabled = true → u.txEnabled = true ∧ field (u.cfg Obj.pairStatus) 28 4 = 0) ∧
    (st = .normal → s.txEnabled = false →
      (s.staing.pairClear = none → u.txEnabled = false ∧ u.staing.pairClear = some (max s.now t)) ∧
      (∀ c, s.staing.pairClear = some c → u.txEnabled = decide (1000000000 ≤ max s.now t - c))) := by
  have turn : rev.toNat < 2 := by cases rev <;> decide
  have ran0 : exec (.pairDiagnosis st wire v rev t) s = .next ((s.tick t).diagnose st wire v rev.toNat) := rfl
  have shown (word : Nat) (clear : Option Nat) : ((s.tick t).paired word clear).cfg Obj.pairStatus = word := State.paired_status ..
  by_cases normal : st = .normal
  · subst normal
    by_cases on : s.txEnabled = true
    · obtain ⟨n, few, is⟩ := State.diagnose_enabled (s := s.tick t) on wire v rev.toNat
      have ran := ran0.trans (congrArg Host.Outcome.next is)
      refine ⟨_, ran, State.paired_host .., ?_, fun ne => absurd rfl ne, fun _ _ => ⟨?_, ?_⟩, fun _ off => by simp [on] at off⟩
      · rw [shown, field_pairWord_polInv turn (by omega) (by omega) few]
      · rw [State.paired_txEnabled, pairWord_txEn (by omega) (by omega) few, decide_eq_true rfl]
      · rw [shown, field_pairWord_state (by omega) (by omega) turn (by omega) (by omega) few]
    · have off : s.txEnabled = false := by simpa using on
      by_cases absent : pairClearNs ≤ (s.tick t).now - s.staing.pairClear.getD (s.tick t).now
      · obtain ⟨n, few, is⟩ := State.diagnose_clears (s := s.tick t) off wire v rev.toNat absent
        have ran := ran0.trans (congrArg Host.Outcome.next is)
        refine ⟨_, ran, State.paired_host .., ?_, fun ne => absurd rfl ne, fun _ is => absurd is on, fun _ _ => ⟨fun none => ?_, fun c since => ?_⟩⟩
        · rw [shown, field_pairWord_polInv turn (by omega) (by omega) few]
        · simp [none, pairClearNs] at absent
        · rw [State.paired_txEnabled, pairWord_txEn (by omega) (by omega) few, decide_eq_true rfl]
          rw [since] at absent
          exact (decide_eq_true (p := 1000000000 ≤ max s.now t - c) absent).symm
      · obtain ⟨stw, w, vf, n, h1, h2, h5, few, is⟩ := State.diagnose_waits (s := s.tick t) off wire v rev.toNat absent
        have ran := ran0.trans (congrArg Host.Outcome.next is)
        have down : ((s.tick t).paired (pairWord stw w rev.toNat 0 vf n) (some ((s.tick t).staing.pairClear.getD (s.tick t).now))).txEnabled
            = false := by
          rw [State.paired_txEnabled, pairWord_txEn (by omega) h5 few]
          rfl
        refine ⟨_, ran, State.paired_host .., ?_, fun ne => absurd rfl ne, fun _ is => absurd is on, fun _ _ => ⟨fun fresh => ⟨down, ?_⟩,
          fun c since => down.trans ?_⟩⟩
        · rw [shown, field_pairWord_polInv turn (by omega) h5 few]
        · rw [State.paired_clear, show (s.tick t).staing.pairClear = none from fresh]
          rfl
        · rw [since] at absent
          exact (decide_eq_false (p := 1000000000 ≤ max s.now t - c) absent).symm
  · obtain ⟨n, few, is⟩ := State.diagnose_fault (s := s.tick t) normal wire v rev.toNat
    have ran := ran0.trans (congrArg Host.Outcome.next is)
    refine ⟨_, ran, State.paired_host .., ?_, fun _ => ⟨?_, ?_, ?_, State.paired_clear ..⟩, fun is => absurd is normal, fun is => absurd is normal⟩
    · rw [shown, field_pairWord_polInv turn (by omega) (by omega) few]
    · rw [State.paired_txEnabled, pairWord_txEn (by omega) (by omega) few, decide_eq_false (by omega)]
    · rw [shown, field_pairWord_state (PairState_code_lt st) (by omega) turn (by omega) (by omega) few]
    · rw [shown, field_pairWord_wire (by omega) turn (by omega) (by omega) few]

/-! ### Datagrams (R453, R454, R456) -/

/-- The checks of a datagram that come before its tag. -/
structure DatagramFormed (s : State) (d : Datagram) : Prop where
  here : d.srcLinkLocal = true ∧ d.dstDevice = true ∧ d.udpPort = s.cfg Obj.udpPort
  sized : 48 ≤ d.payloadLen ∧ d.length = d.payloadLen ∧ d.length % 8 = 0
  typed : d.magic = 0x5453 ∧ d.version = 1 ∧ d.kind = 1

variable {d : Datagram}

/-- An authentic datagram meets the limit of four requests, and then its SEQ. -/
theorem State.receive_authentic (formed : DatagramFormed s d) (key : s.security.mgmtKey ≠ none) (tag : ComparePair_match d.tagPair = true) :
    s.receive d = if s.last < d.seq ∧ 4 ≤ s.staing.waiting.length then s.bump Obj.busyDrops else s.checkSeq d := by
  obtain ⟨⟨src, dst, port⟩, ⟨least, same, whole⟩, magic, version, kind⟩ := formed
  unfold State.receive
  rw [if_neg (by simp [src, dst, port]), if_neg (by omega), if_neg (by simp [magic, version, kind]),
    if_neg (by simpa [Option.isNone_iff_eq_none] using key), if_neg (by simp [tag])]

theorem State.acceptSeq_last : (s.acceptSeq d).last = d.seq := (State.cfg_of_force rfl ..).trans (State.cfg_keep_same ..)

theorem State.respond_eq (o : Out) : (s.respond o).last = s.last ∧ (s.respond o).staing = { s.staing with cached := some o } := by
  unfold State.respond State.transmit
  split <;> exact ⟨rfl, rfl⟩

/-- A request whose operation or body is bad is answered at once, another waits. -/
theorem State.queueRequest_bad {code : Nat} (bad : (d.op = 0 ∨ 4 < d.op) ∧ code = 2 ∨ 1 ≤ d.op ∧ d.op ≤ 4 ∧ d.bodyWhole = false ∧ code = 3) :
    s.queueRequest d = s.respond (.staing d.op code d.seq 0 [] 0) := by
  unfold State.queueRequest
  rcases bad with ⟨op, rfl⟩ | ⟨least, most, body, rfl⟩
  · rw [if_pos op]
  · rw [if_neg (by omega), if_pos (by simp [body])]

theorem State.queueRequest_good (least : 1 ≤ d.op) (most : d.op ≤ 4) (body : d.bodyWhole = true) :
    s.queueRequest d = { s with staing := { s.staing with waiting := s.staing.waiting ++ [d] } } := by
  unfold State.queueRequest
  rw [if_neg (by omega), if_neg (by simp [body])]

theorem State.queueRequest_kept : (s.queueRequest d).last = s.last ∧ (s.queueRequest d).staing.res = s.staing.res := by
  unfold State.queueRequest
  repeat' split
  · obtain ⟨last, staing⟩ := State.respond_eq (s := s) (.staing d.op 2 d.seq 0 [] 0)
    exact ⟨last, by rw [staing]⟩
  · obtain ⟨last, staing⟩ := State.respond_eq (s := s) (.staing d.op 3 d.seq 0 [] 0)
    exact ⟨last, by rw [staing]⟩
  · exact ⟨rfl, rfl⟩

theorem State.txEnabled_bump {r : ObjRow} (apart : Obj.pairStatus.other 0 0 r) : (s.bump r).txEnabled = s.txEnabled := by
  unfold State.txEnabled
  rw [State.cfg_bump_ne _ _ _ _ _ _ _ _ apart]

theorem State.transmit_on (on : s.txEnabled = true) (o : Out) : s.transmit o = s.emit o := if_pos on

theorem State.transmit_off (off : s.txEnabled = false) (o : Out) : s.transmit o = s := if_neg (by simp [off])

theorem State.transmit_rejects (on : s.txEnabled = true) (o : Out) :
    ((s.bump Obj.seqRejects).transmit o).out = s.out ++ [o] ∧ ((s.bump Obj.seqRejects).transmit o).staing = s.staing := by
  rw [State.transmit_on ((State.txEnabled_bump (by unfold ObjRow.other; decide)).trans on)]
  exact ⟨rfl, rfl⟩

/-- A new SEQ becomes LAST, and its request waits, or is answered at once (R454). -/
theorem State.checkSeq_new (new : s.last < d.seq) : s.checkSeq d = (s.acceptSeq d).queueRequest d := if_pos new

theorem State.checkSeq_repeated {o : Out} (same : d.seq = s.last) (is : s.staing.lastReq = some d) (cached : s.staing.cached = some o) :
    s.checkSeq d = (s.bump Obj.seqRejects).transmit o := by
  unfold State.checkSeq
  dsimp only
  rw [if_neg (by omega), if_pos ⟨same, is⟩]
  simp only [cached]

theorem State.checkSeq_old (old : d.seq < s.last ∨ (d.seq = s.last ∧ s.staing.lastReq ≠ some d)) :
    s.checkSeq d = (s.bump Obj.seqRejects).transmit (.staing d.op 1 d.seq (s.last + 1) [] 0) := by
  unfold State.checkSeq
  dsimp only
  rw [if_neg (by omega), if_neg fun ⟨same, is⟩ => old.elim (fun lt => by omega) fun ⟨_, ne⟩ => ne is]

/-! ### Operations (R455) -/

theorem State.readMany_length (acc : Accessor) (room : Nat) (reqs : List ReadReq) : (s.readMany acc room reqs).1.length ≤ reqs.length := by
  induction reqs generalizing s room with
  | nil => simp [State.readMany]
  | cons q t ih =>
    unfold State.readMany
    dsimp only
    split
    · simp
    · exact Nat.succ_le_succ (ih ..)

theorem State.executed_sends (on : s.txEnabled = true) (o : Out) : (s.executed o).out = s.out ++ [o] := by
  unfold State.executed State.respond
  dsimp only
  rw [State.transmit_on]
  · rfl
  · exact (State.txEnabled_bump (by unfold ObjRow.other; decide)).trans on

theorem IpFrame_ok_iff (f : IpFrame) : IpFrame_ok f = true ↔
    f.toDevice = true ∧ f.fragment = false ∧ f.extension = false ∧ f.checksumOk = true := by
  simp [IpFrame_ok, and_assoc]

end

/-- Settles O51, by what each check of a datagram leads to. -/
theorem staingRequestsAreServedInOrder : Obligations.StaingRequestsAreServedInOrder := by
  unfold Obligations.StaingRequestsAreServedInOrder
  refine ⟨fun d s => ⟨fun closed => if_neg (by simp [closed]), fun may => ?_⟩, fun q reqs recs l s => ?_, fun f s => ⟨?_, ?_⟩,
    fun st wire v t rev s => ?_⟩
  · have ran : exec (.staingDatagram d) s = .next (s.receive d) := if_pos may
    rw [ran]
    refine ⟨fun no => congrArg _ (if_pos (by simpa using no)), fun src dst port => ?_⟩
    have here : ¬ ((!d.srcLinkLocal) = true ∨ (!d.dstDevice) = true ∨ d.udpPort ≠ s.cfg Obj.udpPort) := by simp [src, dst, port]
    refine ⟨fun bad => congrArg _ ((if_neg here).trans (if_pos bad)), fun least same whole => ?_⟩
    have sized : ¬ (d.payloadLen < 48 ∨ d.length ≠ d.payloadLen ∨ d.length % 8 ≠ 0) := by omega
    refine ⟨fun bad => congrArg _ ((if_neg here).trans ((if_neg sized).trans (if_pos bad))), fun magic version kind => ?_⟩
    refine ⟨fun none => congrArg _ ?_, fun key tag => ?_⟩
    · exact (if_neg here).trans ((if_neg sized).trans ((if_neg (by simp [magic, version, kind])).trans
        (if_pos (by simp [none]))))
    · rw [State.receive_authentic ⟨⟨src, dst, port⟩, ⟨least, same, whole⟩, magic, version, kind⟩ key tag]
      refine ⟨fun new full => congrArg _ (if_pos ⟨new, full⟩), fun new room => ?_, fun o again is cached on => ?_,
        fun old on => ?_⟩
      · rw [if_neg (by omega), State.checkSeq_new new]
        obtain ⟨last, res⟩ := State.queueRequest_kept (s := s.acceptSeq d) (d := d)
        refine ⟨_, rfl, last.trans State.acceptSeq_last, res, fun least most body => ?_, fun bad => ?_, fun least most body => ?_⟩
        · rw [State.queueRequest_good least most body]
          exact ⟨rfl, rfl⟩
        · rw [State.queueRequest_bad (.inl ⟨bad, rfl⟩), (State.respond_eq _).2]
          exact ⟨rfl, rfl⟩
        · rw [State.queueRequest_bad (.inr ⟨least, most, body, rfl⟩), (State.respond_eq _).2]
          exact ⟨rfl, rfl⟩
      · rw [if_neg (by omega), State.checkSeq_repeated again is cached]
        exact ⟨_, rfl, State.transmit_rejects on o⟩
      · rw [if_neg (by omega), State.checkSeq_old old]
        exact ⟨_, rfl, State.transmit_rejects on _⟩
  · refine ⟨fun none => ?_, fun none => ?_, fun none => ?_, fun d is => ?_, fun d is => ?_, fun d is => ?_⟩
    · show execStaingRead q reqs s = _
      simp only [execStaingRead, none]
    · show execStaingWrite q recs l s = _
      simp only [execStaingWrite, none]
    · show execStaingEcho q s = _
      simp only [execStaingEcho, none]
    · have ran : exec (.staingRead q reqs) s = .next ((s.readMany .port staingBody reqs).2.executed
          (.staing 1 0 d.seq (s.readMany .port staingBody reqs).1.length (s.readMany .port staingBody reqs).1 0)) := by
        show execStaingRead q reqs s = _
        simp only [execStaingRead, is]
      obtain ⟨waiting, cached, -, -⟩ := State.executed_leaves (s := (s.readMany .port staingBody reqs).2) (.staing 1 0 d.seq (s.readMany .port staingBody reqs).1.length (s.readMany .port staingBody reqs).1 0)
      exact ⟨_, _, ran, State.readMany_length .port staingBody reqs, waiting.trans (by simp), cached⟩
    · have ran : exec (.staingWrite q recs l) s = .next ((s.writeMany .port l recs).2.2.executed (.staing 2
          (if (s.writeMany .port l recs).2.1 = 0 then 0 else 4) d.seq
          ((s.writeMany .port l recs).1 + 2 ^ 16 * (s.writeMany .port l recs).2.1) [] 0)) := by
        show execStaingWrite q recs l s = _
        simp only [execStaingWrite, is]
      obtain ⟨-, most, all⟩ := State.writeMany_eq .port l recs s
      obtain ⟨waiting, cached, -, -⟩ := State.executed_leaves (s := (s.writeMany .port l recs).2.2) (.staing 2
        (if (s.writeMany .port l recs).2.1 = 0 then 0 else 4) d.seq
        ((s.writeMany .port l recs).1 + 2 ^ 16 * (s.writeMany .port l recs).2.1) [] 0)
      exact ⟨_, _, _, ran, most, all, waiting.trans (by simp), cached⟩
    · have ran : exec (.staingEcho q) s = .next (s.executed (.staing 4 0 d.seq (s.last + 1) [] s.echoBody)) := by
        show execStaingEcho q s = _
        simp only [execStaingEcho, is]
      exact ⟨_, ran, (State.executed_leaves (s := s) _).1, fun on => State.executed_sends on _⟩
  · intro awake device fragment extension checksum on
    have answers : s.portAwake = true ∧ IpFrame_ok f = true := ⟨awake, (IpFrame_ok_iff f).2 ⟨device, fragment, extension, checksum⟩⟩
    exact ⟨(if_pos answers).trans (congrArg _ (State.transmit_on on _)), (if_pos answers).trans (congrArg _ (State.transmit_on on _))⟩
  · intro no
    by_cases answers : s.portAwake = true ∧ IpFrame_ok f = true
    · have off : s.txEnabled = false := by
        obtain ⟨awake, ok⟩ := answers
        obtain ⟨device, fragment, extension, checksum⟩ := (IpFrame_ok_iff f).1 ok
        simpa [awake, device, fragment, extension, checksum] using no
      exact ⟨(if_pos answers).trans (congrArg _ (State.transmit_off off _)), (if_pos answers).trans (congrArg _ (State.transmit_off off _))⟩
    · exact ⟨if_neg answers, if_neg answers⟩
  · exact State.pairDiagnosis_shows st wire v t rev

end Sys2Proof.Machine
end


section
/-! Loops and entropy are watched (R461 to R463, R467, R471, R474) -/
namespace Sys2Proof.Machine

/-! ### A loop (R461) -/

section
variable {x : LoopSt} {c : LoopState} {now hold : Nat}

theorem LoopSt.measure_steady (steady : x.steady c) : x.measure c now hold = x := by
  obtain ⟨seen, shown⟩ := steady
  unfold LoopSt.measure
  simp [seen, shown]

/-- A state that was not seen before begins to be held. -/
theorem LoopSt.measure_new (new : x.seen ≠ c) (some_ : 0 < hold) : x.measure c now hold = { x with seen := c, since := now } := by
  unfold LoopSt.measure
  rw [if_neg (Ne.symm new)]
  exact if_neg fun ⟨_, held⟩ => by simp at held; omega

/-- A state that has held is reported. -/
theorem LoopSt.measure_held (seen : x.seen = c) (new : x.shown ≠ c) (held : hold ≤ now - x.since) :
    x.measure c now hold = { x with shown := c, normalSince := if c = .normal then some now else none } := by
  unfold LoopSt.measure
  rw [if_pos seen.symm]
  subst seen
  exact if_pos ⟨Ne.symm new, held⟩

end

section
variable {s : State}

/-- The state at a moment, with what a measurement leaves of both loops. -/
def State.measured (s : State) (t : Nat) (p q : LoopSt) : State :=
  { s.tick t with security := { s.security with presence := p, sealing := q } }

theorem State.cfg_measured (t : Nat) (p q : LoopSt) (r : ObjRow) : (s.measured t p q).cfg r = s.cfg r := rfl

/-- A measurement of the loops as both were reported, or of one that is not reported yet. -/
theorem State.loop_seen (t pf pr sf sr : Nat) {p q : LoopSt}
    (p_is : s.security.presence.measure (loopState pf pr) (max s.now t) 20000000 = p)
    (q_is : s.security.sealing.measure (loopState sf sr) (max s.now t) 50000000 = q)
    (p_same : p.shown = s.security.presence.shown) (q_same : q.shown = s.security.sealing.shown) :
    exec (.loopMeasurement t pf pr sf sr) s = .next (s.measured t p q) := by
  show execLoopMeasurement t pf pr sf sr s = _
  subst p_is q_is
  exact (if_pos q_same).trans (congrArg Host.Outcome.next (if_pos p_same))

theorem State.loop_presence (t pf pr sf sr : Nat) {p q : LoopSt}
    (p_is : s.security.presence.measure (loopState pf pr) (max s.now t) 20000000 = p)
    (q_is : s.security.sealing.measure (loopState sf sr) (max s.now t) 50000000 = q)
    (p_new : p.shown ≠ s.security.presence.shown) (q_same : q.shown = s.security.sealing.shown) :
    exec (.loopMeasurement t pf pr sf sr) s = .next ((s.measured t p q).presenceReport s.security.presence) := by
  show execLoopMeasurement t pf pr sf sr s = _
  subst p_is q_is
  exact (if_pos q_same).trans (congrArg Host.Outcome.next (if_neg p_new))

theorem State.loop_seal (t pf pr sf sr : Nat) {p q : LoopSt}
    (p_is : s.security.presence.measure (loopState pf pr) (max s.now t) 20000000 = p)
    (q_is : s.security.sealing.measure (loopState sf sr) (max s.now t) 50000000 = q)
    (p_same : p.shown = s.security.presence.shown) (was : s.security.sealing.shown = .normal) (q_new : q.shown ≠ .normal) :
    exec (.loopMeasurement t pf pr sf sr) s
      = .next ((s.measured t p q).keep Obj.sealLoop (LoopState_code q.shown)).sealBreak := by
  show execLoopMeasurement t pf pr sf sr s = _
  subst p_is q_is
  refine (if_neg fun same => q_new (same.trans was)).trans (congrArg Host.Outcome.next ?_)
  exact (if_pos ⟨q_new, was⟩).trans (congrArg (fun a : State => State.sealBreak (a.keep Obj.sealLoop _)) (if_pos p_same))

/-- A report of PRESENCE_N (R462, R463). -/
theorem State.presenceReport_shows (old : LoopSt) : (s.presenceReport old).security.presence = s.security.presence ∧
    (s.presenceReport old).cfg Obj.presenceLoop = LoopState_code s.security.presence.shown ∧
    (s.presenceReport old).modes = s.modes := by
  have shown : (s.keep Obj.presenceLoop (LoopState_code s.security.presence.shown)).cfg Obj.presenceLoop
    = LoopState_code s.security.presence.shown := State.cfg_keep_same ..
  unfold State.presenceReport
  dsimp only
  split <;> exact ⟨rfl, (State.cfg_of_force rfl ..).trans shown, rfl⟩

theorem State.sealLocked_keep (v : Nat) : (s.keep Obj.presenceLoop v).sealLocked = s.sealLocked := by
  unfold State.sealLocked State.flag
  rw [State.cfg_keep_ne _ _ _ _ _ _ _ _ (by decide), State.cfg_keep_ne _ _ _ _ _ _ _ _ (by decide)]

/-- A press after 100 ms of NORMAL opens a window (R462). -/
theorem State.presenceReport_opens {old : LoopSt} {t0 : Nat} (short : s.security.presence.shown = .short) (was : old.shown = .normal)
    (since : old.normalSince = some t0) (held : 100000000 ≤ s.now - t0) (closed : s.windowOpen = false) (free : s.sealLocked = false) :
    (s.presenceReport old).security.opened = some s.now := by
  have opens : (old.normalSince.any fun t => decide (100000000 ≤ s.now - t)) = true := by simp [since, held]
  unfold State.presenceReport
  extract_lets x press s1 se s2
  have free2 : s2.sealLocked = false := (State.sealLocked_keep ..).trans free
  have closed2 : s2.windowOpen = false := closed
  rw [if_pos ⟨⟨short, was, opens⟩, by simp [closed2], by simp [free2]⟩]
  rfl

theorem State.presenceReport_stays {old : LoopSt} (no : s.security.presence.shown ≠ .short ∨ old.shown ≠ .normal ∨ s.windowOpen = true ∨
    s.sealLocked = true) : (s.presenceReport old).security.opened = s.security.opened := by
  unfold State.presenceReport
  extract_lets x press s1 se s2
  have locked : s2.sealLocked = s.sealLocked := State.sealLocked_keep ..
  have open_ : s2.windowOpen = s.windowOpen := rfl
  have kept : ¬ (press ∧ (!s2.windowOpen) = true ∧ (!s2.sealLocked) = true) := by
    rintro ⟨⟨short, was, -⟩, closed, free⟩
    rcases no with is | is | is | is
    · exact is short
    · exact is was
    · simp [open_, is] at closed
    · simp [locked, is] at free
  rw [if_neg kept]
  rfl

/-- A seal break is marked, and closes the window (R467). -/
theorem State.sealBreak_marks : ∃ u : State, u.cfg Obj.sealBroken = 1 ∧ u.security.opened = none ∧ u.security.challenge = none ∧
    u.modes = s.modes ∧ u.host = s.host ∧ u.cfg Obj.sealLoop = s.cfg Obj.sealLoop ∧
    s.sealBreak = if s.cfg Obj.sealPolicy = 1 then u.zeroise else u := by
  have policy : ((s.save Obj.sealBroken 1).closeWindow).cfg Obj.sealPolicy = s.cfg Obj.sealPolicy :=
    (State.cfg_of_force rfl ..).trans (State.cfg_save_ne _ _ _ _ _ _ _ _ (by decide))
  refine ⟨(s.save Obj.sealBroken 1).closeWindow, (State.cfg_of_force rfl ..).trans (State.cfg_save_same ..), rfl, rfl, ?_, ?_,
    (State.cfg_of_force rfl ..).trans (State.cfg_save_ne _ _ _ _ _ _ _ _ (by decide)), ?_⟩
  · simp
  · simp
  · unfold State.sealBreak
    dsimp only
    rw [policy]

/-- A seal that is found broken (R467). -/
theorem State.loop_breaks (t pf pr sf sr : Nat) {p q : LoopSt}
    (p_is : s.security.presence.measure (loopState pf pr) (max s.now t) 20000000 = p)
    (q_is : s.security.sealing.measure (loopState sf sr) (max s.now t) 50000000 = q)
    (p_same : p.shown = s.security.presence.shown) (was : s.security.sealing.shown = .normal) (q_new : q.shown ≠ .normal) :
    ∃ u : State, u.cfg Obj.sealBroken = 1 ∧ u.cfg Obj.sealLoop = LoopState_code q.shown ∧ u.security.opened = none ∧
      u.security.challenge = none ∧ u.modes = s.modes ∧ u.host = s.host ∧
      exec (.loopMeasurement t pf pr sf sr) s = .next (if s.cfg Obj.sealPolicy = 1 then u.zeroise else u) := by
  have ran := State.loop_seal t pf pr sf sr p_is q_is p_same was q_new
  obtain ⟨u, marked, closed, challenge, modes, host, loop, is⟩ := State.sealBreak_marks
    (s := (s.measured t p q).keep Obj.sealLoop (LoopState_code q.shown))
  rw [State.cfg_keep_same] at loop
  rw [State.cfg_keep_ne _ _ _ _ _ _ _ _ (by decide), State.cfg_measured] at is
  exact ⟨u, marked, loop, closed, challenge, modes, host, ran.trans (congrArg Host.Outcome.next is)⟩

end

/-! ### What is cleared and burnt (R467, R474) -/

section
variable {s : State}

theorem State.burnRoot_rootGen : s.burnRoot.cfg Obj.rootGen = s.cfg Obj.rootGen + 1 := by
  unfold State.burnRoot State.tkekMap
  rw [State.cfg_keep_ne _ _ _ _ _ _ _ _ (by decide), State.cfg_save_ne _ _ _ _ _ _ _ _ (by decide)]
  exact (State.cfg_of_force rfl ..).trans (State.cfg_save_same ..)

/-- In HOLD-UP the burn comes first, and the dump is abandoned. -/
theorem State.zeroise_holdUp (up : s.has Mode.holdUp = true) (left : s.rootLeft = true) : s.zeroise = { s.burnRoot with
    power := { s.burnRoot.power with dumping := false }
    store := { s.burnRoot.store with dump := none } } := by
  unfold State.zeroise
  dsimp only
  rw [if_pos up, if_pos left]

/-- Outside it every function is fenced, and all that was kept under the keys is dropped, before. -/
theorem State.zeroise_service {v : State} (v_is : v = State.releaseDirty (State.clearKeys s.subsystemReset))
    (down : s.has Mode.holdUp = false) : s.zeroise = State.startSanitize
      (if v.rootLeft = true then v.burnRoot else { v with security := { v.security with barred := v.nsids } }) 4 true true false := by
  unfold State.zeroise
  dsimp only
  rw [if_neg (by simp [down]), ← v_is]

theorem Tbl.kind_of_find_map {l : Tbl KeySlot} {k : Nat} {q : KeySlot} {g : Nat × KeySlot → KeySlot}
    (is : Tbl.find (l.map fun e => (e.1, g e)) k = some q) : ∃ e, q = g e := by
  induction l with
  | nil => cases is
  | cons e t ih =>
    simp only [List.map_cons, Tbl.find] at is
    split at is
    · exact ⟨e, (Option.some.inj is).symm⟩
    · exact ih is

/-- No key stays where the keys are cleared. -/
theorem State.clearKeys_empty : s.clearKeys.security.kek = false ∧ s.clearKeys.security.mgmtKey = none ∧
    s.clearKeys.cipher.tkeks = [] ∧ s.clearKeys.cipher.kpio = [] ∧
    ∀ k q, Tbl.find s.clearKeys.cipher.slots k = some q → q.kind = 0 := by
  refine ⟨rfl, rfl, rfl, rfl, fun k q is => ?_⟩
  obtain ⟨e, rfl⟩ := Tbl.kind_of_find_map is
  rfl

/-! ### Entropy (R471) -/

/-- What the health tests keep of a sample. -/
def Security.sampled (x : Security) (bit : Bool) : Security :=
  { x with
    lastBit := bit
    run := if x.run ≠ 0 ∧ bit = x.lastBit then x.run + 1 else 1
    aptBit := if x.aptSeen = 0 ∨ 1024 ≤ x.aptSeen then bit else x.aptBit
    aptSeen := if x.aptSeen = 0 ∨ 1024 ≤ x.aptSeen then 1 else x.aptSeen + 1
    aptCount := if x.aptSeen = 0 ∨ 1024 ≤ x.aptSeen then 1 else if bit = x.aptBit then x.aptCount + 1 else x.aptCount }

theorem execEntropySample_eq (bit : Bool) (on : s.cfg Obj.cryptoState ≠ 2) : exec (.entropySample bit) s =
    if 41 ≤ (s.security.sampled bit).run then .next ({ s with security := s.security.sampled bit }.cryptoHalt .repetition)
    else if 796 ≤ (s.security.sampled bit).aptCount then .next ({ s with security := s.security.sampled bit }.cryptoHalt .proportion)
    else .next { s with security := s.security.sampled bit } := if_neg on

/-- CRYPTO_HALT shows its cause, and fences every function (R474). -/
theorem State.cryptoHalt_shows (c : HaltCause) (on : s.cfg Obj.cryptoState ≠ 2) : ∃ u v : State, u.cfg Obj.cryptoState = 2 ∧
    u.cfg Obj.haltCause = HaltCause_code c ∧ u.host = s.host ∧ v = u.subsystemReset ∧
    s.cryptoHalt c = State.settleClearing { v with security := { v.security with clearing := 1 } } := by
  refine ⟨(s.keep Obj.cryptoState 2).keep Obj.haltCause (HaltCause_code c), _,
    (State.cfg_keep_ne _ _ _ _ _ _ _ _ (by decide)).trans (State.cfg_keep_same ..), State.cfg_keep_same .., rfl, rfl, ?_⟩
  exact if_neg on

end

/-- Settles O52. A measurement reports at most one loop at a time where the other is steady. -/
theorem loopsAndEntropyAreWatched : Obligations.LoopsAndEntropyAreWatched := by
  unfold Obligations.LoopsAndEntropyAreWatched
  refine ⟨?_, fun s => ⟨?_, fun up left => ⟨?_, ?_, ?_⟩, State.clearKeys_empty⟩, fun t s => ⟨fun fresh => ?_, fun t0 opened =>
    ⟨fun early => ?_, fun late => ?_⟩⟩, fun s c => ⟨fun halted => if_pos halted, fun on => State.cryptoHalt_shows c on⟩, ?_⟩
  · rintro t pf pr sf sr n s cp cq rfl rfl rfl
    refine ⟨fun still => ⟨fun steady => ?_, fun new => ?_, fun seen new held => ?_⟩, fun steady broken seen shown held => ?_⟩
    · rw [State.loop_seen t pf pr sf sr (LoopSt.measure_steady steady) (LoopSt.measure_steady still) rfl rfl]
      rfl
    · exact ⟨_, State.loop_seen t pf pr sf sr (LoopSt.measure_new new (by decide)) (LoopSt.measure_steady still) rfl rfl, rfl, rfl⟩
    · have ran := State.loop_presence t pf pr sf sr (LoopSt.measure_held seen new held) (LoopSt.measure_steady still) (Ne.symm new) rfl
      obtain ⟨presence, shows, modes⟩ := State.presenceReport_shows (s := s.measured t { s.security.presence with
        shown := loopState pf pr, normalSince := if loopState pf pr = .normal then some (max s.now t) else none } s.security.sealing)
        s.security.presence
      exact ⟨_, ran, congrArg LoopSt.shown presence, shows, modes,
        fun t0 short was since long closed free => State.presenceReport_opens short was since long closed free,
        fun no => State.presenceReport_stays no⟩
    · obtain ⟨u, marked, loop, closed, challenge, modes, host, is⟩ := State.loop_breaks t pf pr sf sr (LoopSt.measure_steady steady)
        (LoopSt.measure_held seen (by rw [shown]; exact Ne.symm broken) held) rfl shown broken
      exact ⟨fun policy => ⟨u, by rw [is, if_neg policy], marked, loop, closed, challenge, modes⟩, fun policy =>
        ⟨u, by rw [is, if_pos policy], marked, closed, host⟩⟩
  · intro v v_is down
    have is := State.zeroise_service v_is down
    exact ⟨fun left => by rw [is, if_pos left], fun left => by rw [is, if_neg (by simp [left])]⟩
  · rw [State.zeroise_holdUp up left]
  · rw [State.zeroise_holdUp up left]
  · rw [State.zeroise_holdUp up left]
    exact (State.cfg_of_force rfl ..).trans State.burnRoot_rootGen
  · show execPresenceWindowExpiry t s = _
    unfold execPresenceWindowExpiry
    simp only [show (s.tick t).security.opened = none from fresh]
  · show execPresenceWindowExpiry t s = _
    unfold execPresenceWindowExpiry
    simp only [show (s.tick t).security.opened = some t0 from opened]
    exact if_neg (Nat.not_le.2 early)
  · have ran : exec (.presenceWindowExpiry t) s = .next (s.tick t).closeWindow := by
      show execPresenceWindowExpiry t s = _
      unfold execPresenceWindowExpiry
      simp only [show (s.tick t).security.opened = some t0 from opened]
      exact if_pos late
    exact ⟨_, ran, rfl, rfl, rfl⟩
  · rintro b run cnt s rfl rfl
    refine ⟨fun halted => ⟨if_pos halted, fun ok => if_pos halted⟩, fun on => ?_⟩
    rw [execEntropySample_eq b on]
    refine ⟨fun few even => ⟨_, (if_neg (Nat.not_le.2 few)).trans (if_neg (Nat.not_le.2 even)), rfl, rfl, rfl, rfl⟩,
      fun many => ⟨_, if_pos many, rfl, rfl, rfl⟩, fun few many => ⟨_, (if_neg (Nat.not_le.2 few)).trans (if_pos many), rfl, rfl, rfl⟩,
      if_neg on, if_neg on⟩

end Sys2Proof.Machine
end


section
/-! Presence gates its operations (R375, R464, R465, R468) -/
namespace Sys2Proof.Machine

section
variable {s a : State} {h : Hdr}

/-- A command of Security Protocol F1h that begins: from an instance it ends with Invalid Field (R464). -/
theorem State.secRun_instance (starts : Starts s h a) (inst : h.fn.isManager = false) (body : State → State × Cpl) :
    s.secRun h body = .next (a.finish h ⟨⟨0, 0x02⟩, 0, 0⟩) := by
  unfold State.secRun
  rw [State.run_of_starts starts, if_neg (by simp [inst])]
  rfl

theorem State.secRun_manager (starts : AdminStarts s h a) (body : State → State × Cpl) :
    s.secRun h body = .next ((body a).1.finish h (body a).2) := by
  obtain ⟨begun, manager⟩ := starts
  unfold State.secRun
  rw [State.run_of_starts begun, if_pos manager]

/-- Commands that end leave the context of one that is none of them. -/
theorem ctx_foldl_finish (l : List Ctx) (cpl : Cpl) (k : Hdr) (other : ∀ c ∈ l, c.hdr ≠ k) (s : State) :
    (l.foldl (fun a c => a.finish c.hdr cpl) s).ctx? k = s.ctx? k := by
  induction l generalizing s with
  | nil => rfl
  | cons c t ih =>
    rw [List.foldl_cons, ih fun d mem => other d (List.mem_cons_of_mem _ mem)]
    exact State.ctx_finish_ne _ (other c (List.mem_cons_self ..)).symm

/-- The end of every I/O command that is not admitted is none of an admin command. -/
theorem State.ctx_sweepIo (st : Status) (admin : h.sqid = 0) : (s.sweepIo st).ctx? h = s.ctx? h := by
  refine ctx_foldl_finish _ _ _ (fun c mem is => ?_) s
  rw [List.mem_filter] at mem
  simp [is, admin] at mem

/-- FACTORY is entered where presence lets it in and no other mode stands against it (R375). -/
theorem execFactoryEntry_enters (starts : AdminStarts s h a) (admin : h.sqid = 0) (may : a.factoryMay = true)
    (san : a.has Mode.sanitize = false) (act : a.has Mode.activation = false) (up : a.has Mode.holdUp = false) (room : HasRoom a)
    (few : a.cfg Obj.presenceOps < 2 ^ 32 - 1) : ∃ t : State, exec (.factoryEntry h) s = .next t ∧ Ended t h ⟨0, 0⟩ 0 ∧
      t.has Mode.factory = true ∧ t.cfg Obj.presenceOps = a.cfg Obj.presenceOps + 1 ∧ t.store = a.store := by
  obtain ⟨room, waits⟩ := room
  have ran : exec (.factoryEntry h) s = .next _ := State.secRun_manager starts _
  rw [if_neg (by simp [may]), if_neg (by simp [san, act, up])] at ran
  have few_ : ((a.setMode Mode.factory 15).sweepIo .nsNotReady).cfg Obj.presenceOps = a.cfg Obj.presenceOps := by
    have same : ((a.setMode Mode.factory 15).sweepIo .nsNotReady).dict = (a.setMode Mode.factory 15).dict := by simp
    rw [State.cfg_of_force (congrArg Dict.force same)]
    exact State.cfg_changeModes _ _ _ _ _ _ _ (by unfold ObjRow.other; decide) (by unfold ObjRow.other; decide)
      (by unfold ObjRow.other; decide) (by unfold ObjRow.other; decide) (by unfold ObjRow.other; decide)
  have modes : ((a.setMode Mode.factory 15).sweepIo .nsNotReady).presenceDone.modes = (a.setMode Mode.factory 15).modes := by simp
  refine ⟨_, ran, starts.1.ended ?_ _ _, ?_, ?_, ?_⟩
  · exact (State.ctx_sweepIo .nsNotReady admin).trans (State.ctx_of_host (state_setMode_frame ..).2.1 h)
  · exact (State.has_of_same modes).trans ((State.has_setMode waits room Mode.factory 15 Mode.factory).trans (by
      simp [modeBit, Mode.factory]))
  · exact (State.cfg_of_force rfl ..).trans ((State.cfg_bump_same _ _ _ _ _ (by
      rw [few_, show Obj.presenceOps.top = 2 ^ 32 - 1 from by decide]
      omega)).trans (congrArg (· + 1) few_))
  · simp

/-- A token that verifies uses the challenge up, and drains and unlocks the device (R468). -/
theorem execDebugUnlock_unlocks {k : DebugToken} (starts : AdminStarts s h a) (present : a.presenceUsable = true)
    (same : a.security.challenge = some k.challenge) (good : k.signatureOk = true) {u v : State}
    (u_is : u = State.presenceDone { a with security := { a.security with challenge := none } }) (v_is : v = u.subsystemReset) :
    exec (.debugUnlock h k) s = .next (State.finish (State.settleClearing
      { v with security := { v.security with clearing := 2 } }) h ⟨⟨0, 0⟩, 0, 0⟩) := by
  refine (State.secRun_manager starts _).trans ?_
  rw [if_neg (by simp [present]), if_neg (by simp [same, good])]
  dsimp only
  rw [← u_is, ← v_is]
  rfl

/-- A management key that is provisioned is shown, and LAST starts again (R465). -/
theorem State.provisioned_shows (cpl : Cpl) :
    ((((a.keep Obj.keyPresent 1).keep Obj.seqLast 0).presenceDone).finish h cpl).cfg Obj.keyPresent = 1 ∧
    ((((a.keep Obj.keyPresent 1).keep Obj.seqLast 0).presenceDone).finish h cpl).last = 0 := by
  have kept (r : ObjRow) (apart : r.other 0 0 Obj.presenceOps) :
      ((((a.keep Obj.keyPresent 1).keep Obj.seqLast 0).presenceDone).finish h cpl).cfg r
        = ((a.keep Obj.keyPresent 1).keep Obj.seqLast 0).cfg r :=
    (State.cfg_of_force (congrArg Dict.force (state_finish_frame ..).1) ..).trans
      (State.cfg_bump_ne _ _ _ _ _ _ _ _ apart)
  constructor
  · rw [kept _ (by unfold ObjRow.other; decide), State.cfg_keep_ne _ _ _ _ _ _ _ _ (by decide), State.cfg_keep_same]
  · rw [State.last, kept _ (by unfold ObjRow.other; decide), State.cfg_keep_same]

end

/-- Settles O53. Each operation refuses before it changes anything, and its success is counted alone. -/
theorem presenceGatesItsOperations : Obligations.PresenceGatesItsOperations := by
  unfold Obligations.PresenceGatesItsOperations
  refine fun h k b s a => ⟨fun starts inst => ?_, fun ⟨starts, admin⟩ => ⟨fun absent => ?_, fun locked => ?_, fun no => ?_, fun may =>
    ⟨fun busy => ?_, execFactoryEntry_enters starts admin may⟩, fun present => ⟨fun burnt => ?_, fun left busy => ?_,
      fun left idle => ?_, ?_, fun bad => ?_, fun same good => ?_, fun free => ⟨fun bad => ?_, fun kind target good => ?_⟩⟩⟩⟩
  · exact ⟨State.secRun_instance starts inst _, State.secRun_instance starts inst _, State.secRun_instance starts inst _,
      State.secRun_instance starts inst _, State.secRun_instance starts inst _⟩
  · refine ⟨?_, ?_, ?_, fun off => ?_⟩
    · exact (State.secRun_manager starts _).trans (by rw [if_pos (by simp [absent])]; rfl)
    · exact (State.secRun_manager starts _).trans (by rw [if_pos (by simp [absent])]; rfl)
    · exact (State.secRun_manager starts _).trans (by rw [if_pos (by simp [absent])]; rfl)
    · exact (State.secRun_manager starts _).trans (by rw [if_pos (by simp [absent, off])]; rfl)
  · exact (State.secRun_manager starts _).trans (by rw [if_pos (by simp [locked])]; rfl)
  · exact (State.secRun_manager starts _).trans (by rw [if_pos (by simp [no])]; rfl)
  · exact (State.secRun_manager starts _).trans (by rw [if_neg (by simp [may]), if_pos busy]; rfl)
  · have spent : a.rootLeft = false := decide_eq_false (by omega)
    exact (State.secRun_manager starts _).trans (by rw [if_pos (by simp [spent])]; rfl)
  · have some_ : a.rootLeft = true := decide_eq_true left
    exact (State.secRun_manager starts _).trans (by
      rw [if_neg (by simp [present, some_]), if_pos (by simpa [Option.isSome_iff_ne_none] using busy)]; rfl)
  · have some_ : a.rootLeft = true := decide_eq_true left
    have ran : exec (.rootKeyReset h) s = .next _ := State.secRun_manager starts _
    rw [if_neg (by simp [present, some_]), if_neg (by simp [idle])] at ran
    exact ⟨a.burnRoot, ran, State.burnRoot_rootGen, by simp [State.burnRoot, State.tkekMap], by simp [State.burnRoot, State.tkekMap],
      by simp [State.burnRoot, State.tkekMap], by simp [State.burnRoot, State.tkekMap], by simp⟩
  · have ran : exec (.debugChallenge h) s = .next _ := State.secRun_manager starts _
    rw [if_neg (by simp [present])] at ran
    exact ⟨_, _, ran, starts.1.ended (State.ctx_of_host rfl h) _ _, rfl, rfl⟩
  · have ran : exec (.debugUnlock h k) s = .next _ := State.secRun_manager starts _
    rw [if_neg (by simp [present]), if_pos (by simpa using bad)] at ran
    exact ⟨_, ran, starts.1.ended (State.ctx_of_host rfl h) _ _, rfl, rfl⟩
  · exact ⟨_, _, execDebugUnlock_unlocks starts present same good rfl rfl, rfl, rfl, rfl, rfl⟩
  · exact (State.secRun_manager starts _).trans (by rw [if_neg (by simp [present, free]), if_pos bad]; rfl)
  · have ran : exec (.managementKeyProvisioning h b) s = .next _ := State.secRun_manager starts _
    rw [if_neg (by simp [present, free]), if_neg (by omega), if_neg (by simp [good])] at ran
    obtain ⟨shown, last⟩ := State.provisioned_shows (a := { a with
      security := { a.security with mgmtKey := some b.keyId, mgmtBlob := some b.keyId }
      staing := { a.staing with res := 0, lastReq := none, cached := none } }) (h := h) Cpl.ok
    exact ⟨_, ran, starts.1.ended (State.ctx_of_host rfl h) _ _, rfl, shown, last, rfl, rfl⟩

end Sys2Proof.Machine
end


section
/-! Dirty bits are read and cleared (R485, R487) -/
namespace Sys2Proof.Machine

/-! ### The bits of a chunk -/

/-- The w bits of a number from bit k on. -/
def bitsFrom (m k w : Nat) : Nat := m / 2 ^ k % 2 ^ w

theorem testBit_bitsFrom (m k w i : Nat) : (bitsFrom m k w).testBit i = (decide (i < w) && m.testBit (k + i)) := by
  unfold bitsFrom
  rw [Nat.testBit_mod_two_pow, Nat.testBit_div_two_pow, Nat.add_comm i k]

theorem bitsFrom_of_log2 {m k : Nat} (w : Nat) (short : m.log2 < k) : bitsFrom m k w = 0 := by
  have lt : m < 2 ^ k := Nat.lt_of_lt_of_le Nat.lt_log2_self (Nat.pow_le_pow_right (by decide) short)
  simp [bitsFrom, Nat.div_eq_of_lt lt]

/-- A number without the bits of a chunk, and what lies above and below the chunk. -/
theorem sub_bitsFrom (m k w : Nat) : m - bitsFrom m k w * 2 ^ k = 2 ^ (k + w) * (m / 2 ^ (k + w)) + m % 2 ^ k := by
  unfold bitsFrom
  have low := Nat.div_add_mod m (2 ^ k)
  have high := Nat.div_add_mod (m / 2 ^ k) (2 ^ w)
  rw [Nat.div_div_eq_div_mul, ← Nat.pow_add] at high
  have split : m = 2 ^ (k + w) * (m / 2 ^ (k + w)) + m / 2 ^ k % 2 ^ w * 2 ^ k + m % 2 ^ k := by
    calc m = 2 ^ k * (m / 2 ^ k) + m % 2 ^ k := low.symm
      _ = 2 ^ k * (2 ^ w * (m / 2 ^ (k + w)) + m / 2 ^ k % 2 ^ w) + m % 2 ^ k := by rw [high]
      _ = _ := by rw [Nat.pow_add, Nat.mul_add, Nat.mul_assoc, Nat.mul_comm (2 ^ k) (m / 2 ^ k % 2 ^ w)]
  omega

theorem testBit_sub_bitsFrom (m k w u : Nat) : (m - bitsFrom m k w * 2 ^ k).testBit u
    = (m.testBit u && !(decide (k ≤ u) && decide (u < k + w))) := by
  have low : m % 2 ^ k < 2 ^ (k + w) := Nat.lt_of_lt_of_le (Nat.mod_lt _ (Nat.two_pow_pos k)) (Nat.pow_le_pow_right (by decide) (by omega))
  rw [sub_bitsFrom, Nat.testBit_two_pow_mul_add _ low, Nat.testBit_mod_two_pow, Nat.testBit_div_two_pow]
  by_cases inside : u < k + w
  · by_cases below : u < k
    · simp [inside, below, Nat.not_le.2 below]
    · simp [inside, below, Nat.not_lt.1 below]
  · have above : k + w ≤ u := Nat.not_lt.1 inside
    simp [inside, show u - (k + w) + (k + w) = u by omega]

/-! ### Tracking (R485) -/

section
variable {s : State} {acc : Accessor} {n : Fin 1024}

theorem execDirtyEnWrite_eq (manages : Accessor_manages acc = true) (reaches : s.reaches acc n = true) (on : Bool) :
    exec (.dirtyEnWrite acc n on) s = .next ((s.setTracking n on).getD s) := if_pos ⟨manages, reaches⟩

/-- Where the bitmap that is selected lies, while none is selected otherwise. -/
theorem State.dirtyMap_selected {t : State} {m : Nat} (named : s.cfg Obj.dirtyNsid m ≠ 0)
    (same : t.cfg Obj.dirtyNsid m = s.cfg Obj.dirtyNsid m) : t.dirtyMap m = Tbl.find t.migration.dirty (s.dirtyKey m) := by
  unfold State.dirtyMap State.dirtyKey
  rw [same, if_neg named]

theorem State.setTracking_refused {x : Ns} {m : Nat} (ns : s.ns? (s.cfg Obj.dirtyNsid m) = some x)
    (no : x.attached.contains m = false ∨ (s.dirtyMap m = none ∧ (4 ≤ s.tracked m ∨ s.dramLeft < ceilDiv x.units 8))) :
    s.setTracking m true = none := by
  unfold State.setTracking
  dsimp only
  rw [if_pos rfl, ns]
  exact if_pos (.inr (no.imp (fun is => by rw [is]; rfl) fun ⟨fresh, full⟩ => ⟨by simp [fresh], full⟩))

theorem State.setTracking_starts {x : Ns} {m : Nat} (ns : s.ns? (s.cfg Obj.dirtyNsid m) = some x) (named : s.cfg Obj.dirtyNsid m ≠ 0)
    (attached : x.attached.contains m = true) (room : s.dirtyMap m ≠ none ∨ (s.tracked m < 4 ∧ ceilDiv x.units 8 ≤ s.dramLeft)) :
    s.setTracking m true = some { s with migration := { s.migration with
      dirty := Tbl.put s.migration.dirty (s.dirtyKey m) (2 ^ x.units - 1) } } := by
  unfold State.setTracking
  dsimp only
  rw [if_pos rfl, ns]
  refine if_neg ?_
  rintro (unnamed | apart | ⟨fresh, full⟩)
  · exact named unnamed
  · rw [attached] at apart
    cases apart
  · rcases room with held | ⟨few, fits⟩
    · exact held (Option.isNone_iff_eq_none.1 fresh)
    · omega

theorem State.setTracking_ends {m : Nat} (named : s.cfg Obj.dirtyNsid m ≠ 0) : s.setTracking m false
    = some { s with migration := { s.migration with dirty := Tbl.del s.migration.dirty (s.dirtyKey m) } } := by
  unfold State.setTracking
  dsimp only
  rw [if_neg (by decide), if_neg named]

/-! ### Reading (R487) -/

theorem State.takeDirty_none {m : Nat} (none_ : s.dirtyMap m = none) : s.takeDirty m = (0, s) := by
  unfold State.takeDirty
  simp only [none_]

/-- A read takes the bits of the chunk, and clears them. -/
theorem State.takeDirty_some {m v : Nat} (some_ : s.dirtyMap m = some v) :
    (s.takeDirty m).1 = bitsFrom v (2048 * s.cfg Obj.dirtyChunk m) 2048 ∧ (s.takeDirty m).2.out = s.out ∧
    (s.takeDirty m).2.dirtyMap m = some (v - bitsFrom v (2048 * s.cfg Obj.dirtyChunk m) 2048 * 2 ^ (2048 * s.cfg Obj.dirtyChunk m)) := by
  have named : s.cfg Obj.dirtyNsid m ≠ 0 := by
    intro is
    simp [State.dirtyMap, is] at some_
  have bits : (if v.log2 < chunkBits * s.cfg Obj.dirtyChunk m then 0
      else v / 2 ^ (chunkBits * s.cfg Obj.dirtyChunk m) % 2 ^ chunkBits) = bitsFrom v (2048 * s.cfg Obj.dirtyChunk m) 2048 := by
    split
    case isTrue short => exact (bitsFrom_of_log2 2048 short).symm
    · simp only [bitsFrom, chunkBits]
  unfold State.takeDirty
  simp only [some_]
  rw [bits]
  refine ⟨rfl, rfl, ?_⟩
  have chosen (b : Tbl Nat) (c : Nat) : (State.keep { s with migration := { s.migration with dirty := b } } Obj.dirtyChunk c m).cfg
      Obj.dirtyNsid m = s.cfg Obj.dirtyNsid m := (State.cfg_keep_ne _ _ _ _ _ _ _ _ (by
      simp only [ObjRow.key, Obj.dirtyNsid, Obj.dirtyChunk]
      omega)).trans (State.cfg_of_force rfl ..)
  refine (State.dirtyMap_selected named (chosen _ _)).trans ((Tbl.find_put_same ..).trans ?_)
  split
  case isTrue zero => rw [zero, Nat.zero_mul, Nat.sub_zero]
  · rfl

end

/-- Settles O55. What a read clears are the bits that it answers. -/
theorem dirtyBitsAreReadAndCleared : Obligations.DirtyBitsAreReadAndCleared := by
  unfold Obligations.DirtyBitsAreReadAndCleared
  intro acc n on s
  refine ⟨fun no => ⟨if_neg (not_both no), if_neg (not_both no)⟩, fun manages reaches => ⟨fun x ns named => ⟨fun no => ?_, fun attached room => ?_⟩,
    fun named => ?_, fun none_ => ?_, fun m some_ => ?_⟩⟩
  · rw [execDirtyEnWrite_eq manages reaches, State.setTracking_refused ns no]
    rfl
  · have ran := execDirtyEnWrite_eq (n := n) manages reaches true
    rw [State.setTracking_starts ns named attached room] at ran
    have map : State.dirtyMap _ n = _ := (State.dirtyMap_selected (t := { s with migration := { s.migration with
      dirty := Tbl.put s.migration.dirty (s.dirtyKey n) (2 ^ x.units - 1) } }) named rfl).trans (Tbl.find_put_same ..)
    refine ⟨_, ran, fun u => ?_, by rw [Option.getD_some, map]; rfl, rfl⟩
    rw [Option.getD_some, map]
    exact Nat.testBit_two_pow_sub_one ..
  · have ran := execDirtyEnWrite_eq (n := n) manages reaches false
    rw [State.setTracking_ends named] at ran
    have gone := (State.dirtyMap_selected (t := { s with migration := { s.migration with
      dirty := Tbl.del s.migration.dirty (s.dirtyKey n) } }) named rfl).trans (Tbl.find_del_same ..)
    exact ⟨_, ran, gone, rfl⟩
  · have ran : exec (.dirtyBitsRead acc n) s = .next _ := if_pos ⟨manages, reaches⟩
    rw [State.takeDirty_none none_] at ran
    exact ran
  · have ran : exec (.dirtyBitsRead acc n) s = .next _ := if_pos ⟨manages, reaches⟩
    obtain ⟨bits, out, map⟩ := State.takeDirty_some some_
    refine ⟨_, _, _, ran, ?_, map, fun i => testBit_bitsFrom .., fun u => testBit_sub_bitsFrom ..⟩
    show (s.takeDirty n).2.out ++ _ = _
    rw [out, bits]
    rfl

end Sys2Proof.Machine
end


section
/-! Instances freeze, move and resume (R476, R477, R480 to R484) -/
namespace Sys2Proof.Machine

section
variable {s a : State} {h : Hdr} {n : Fin 1024}

/-! ### Which instance (R476) -/

theorem State.ownInst_own (own : s.portOf n = s.portOfFn h.fn) : s.ownInst h.fn n = some n := by
  unfold State.ownInst
  rw [dif_pos n.isLt, if_pos own]

theorem State.ownInst_other (other : s.portOf n ≠ s.portOfFn h.fn) : s.ownInst h.fn n = none := by
  unfold State.ownInst
  rw [dif_pos n.isLt, if_neg other]

/-! ### What an interruption leaves (R477) -/

/-- Commands that leave what they wait in before they end, end as without. -/
theorem foldl_withdraw_ctxs (cpl : Cpl) (l : List Ctx) (s t : State) (ctxs : s.host.ctxs = t.host.ctxs)
    (dones : s.host.dones = t.host.dones) :
    (l.foldl (fun a c => (a.withdraw c.hdr).finish c.hdr cpl) s).host.ctxs
      = (l.foldl (fun a c => a.finish c.hdr cpl) t).host.ctxs := by
  induction l generalizing s t with
  | nil => exact ctxs
  | cons c l ih =>
    refine ih _ _ ?_ ?_
    · simp only [State.finish, State.modCtx, State.withdraw, State.modFn, State.setFn, State.setFnAt, ctxs, dones]
    · exact congrArg (· + 1) dones

theorem ended_foldl_withdraw (st : Status) (l : List Ctx) (s : State) {k : Hdr} {d : Ctx} (there : s.ctx? k = some d)
    (open_ : d.done = none) (mem : ∃ c ∈ l, c.hdr = k) :
    Ended (l.foldl (fun a c => (a.withdraw c.hdr).finish c.hdr (Cpl.of st)) s) k st 0 := by
  obtain ⟨e, is, done⟩ := (ended_foldl_finish st l k s).2 d there open_ mem
  refine ⟨e, ?_, done⟩
  rw [State.ctx?, foldl_withdraw_ctxs (Cpl.of st) l s s rfl rfl]
  exact is

theorem State.withdraw_state (k : Hdr) (f : Func) : ((s.withdraw k).fn f).state = (s.fn f).state := by
  show ((s.modFn k.fn fun x => { x with aers := x.aers.filter (· ≠ k) }).fn f).state = _
  by_cases is : f = k.fn
  · rw [is, State.fn_modFn_same]
  · rw [State.fn_modFn_ne _ is]

section
variable (cpl : Cpl) (cs : List Ctx)

theorem foldl_withdraw_dict : (cs.foldl (fun a c => (a.withdraw c.hdr).finish c.hdr cpl) s).dict = s.dict := by simp

theorem foldl_withdraw_migration : (cs.foldl (fun a c => (a.withdraw c.hdr).finish c.hdr cpl) s).migration = s.migration := by simp

theorem foldl_withdraw_state (f : Func) :
    ((cs.foldl (fun a c => (a.withdraw c.hdr).finish c.hdr cpl) s).fn f).state = (s.fn f).state := by
  induction cs generalizing s with
  | nil => rfl
  | cons c l ih => exact (ih (s := (s.withdraw c.hdr).finish c.hdr cpl)).trans (State.withdraw_state c.hdr f)

end

/-- What the interruption of commands leaves of their instance. -/
theorem State.interrupt_kept (cs : List Ctx) : (s.interrupt n cs).phase n = s.phase n ∧
    (∀ f, ((s.interrupt n cs).fn f).state = (s.fn f).state) ∧ (s.interrupt n cs).migration = s.migration := by
  unfold State.interrupt
  refine ⟨?_, fun f => ?_, ?_⟩
  · unfold State.phase
    rw [State.cfg_bump_ne _ _ _ _ _ _ _ _ (by simp only [ObjRow.key, Obj.freezePhase, Obj.freezeInterrupted]; omega)]
    exact State.cfg_of_force (congrArg Dict.force (foldl_withdraw_dict ..)) ..
  · exact (congrArg Fn.state (State.fn_of_fns rfl f)).trans (foldl_withdraw_state (Cpl.of .interrupted) cs f)
  · rw [show ∀ t : State, (t.bump Obj.freezeInterrupted cs.length n).migration = t.migration from fun _ => rfl]
    exact foldl_withdraw_migration ..

theorem State.interrupt_ended (cs : List Ctx) {c : Ctx} (there : s.ctx? c.hdr = some c) (open_ : c.done = none) (mem : c ∈ cs) :
    Ended (s.interrupt n cs) c.hdr ⟨0, 0x21⟩ 0 :=
  ended_foldl_withdraw .interrupted cs s there open_ ⟨c, mem, rfl⟩

/-! ### Freeze (R476, R477) -/

/-- An admission leaves the freezes that drain. -/
theorem foldl_admitFor_migration (cs : List Ctx) :
    (cs.foldl (fun a c => a.admitFor c.hdr false) s).migration = s.migration := by simp

theorem State.startFreeze_listed : (Tbl.find (s.startFreeze h n).migration.freezing n).isSome = true := by
  unfold State.startFreeze
  extract_lets s1 all out s2 m s3 s4
  show (Tbl.find s4.migration.freezing n).isSome = true
  rw [show s4.migration = s3.migration from foldl_admitFor_migration _]
  exact congrArg Option.isSome (Tbl.find_put_same s2.migration.freezing n.val _)

/-- A freeze whose commands can all be interrupted ends them, and waits for their entries. -/
theorem State.startFreeze_interrupts (manager : h.fn.isManager = true)
    (all : ∀ c ∈ s.host.ctxs, s.running n c = true → c.interruptible = true) :
    (s.startFreeze h n).phase n = 1 ∧ ((s.startFreeze h n).fn (.inst n)).state = (s.fn (.inst n)).state ∧
    Tbl.find (s.startFreeze h n).migration.freezing n = some (h, (s.host.ctxs.filter (s.running n)).length, 0) ∧
    ∀ c, s.ctx? c.hdr = some c → s.running n c = true → Ended (s.startFreeze h n) c.hdr ⟨0, 0x21⟩ 0 := by
  have whole : (s.host.ctxs.filter (s.running n)).filter Ctx.interruptible = s.host.ctxs.filter (s.running n) :=
    List.filter_eq_self.2 fun c mem => all c (List.mem_filter.1 mem).1 (List.mem_filter.1 mem).2
  have rest : (s.host.ctxs.filter (s.running n)).filter (fun c => !c.interruptible) = [] :=
    List.filter_eq_nil_iff.2 fun c mem => by simp [all c (List.mem_filter.1 mem).1 (List.mem_filter.1 mem).2]
  unfold State.startFreeze
  extract_lets s1 l out s2 m s3 s4
  have out_is : out = s.host.ctxs.filter (s.running n) := whole
  have s4_is : s4 = s3 := congrArg (List.foldl _ s3) rest
  obtain ⟨phase, state, -⟩ := s1.interrupt_kept (n := n) out
  rw [s4_is]
  refine ⟨phase.trans ?_, state _, ?_, fun c there runs => ?_⟩
  · exact (State.cfg_of_force rfl ..).trans (State.cfg_keep_same ..)
  · rw [← out_is]
    exact Tbl.find_put_same ..
  · have open_ : c.done = none ∧ c.hdr.fn = .inst n := by
      simp only [State.running, Bool.and_eq_true, decide_eq_true_eq, Option.isNone_iff_eq_none] at runs
      exact ⟨runs.1.2, runs.1.1.1⟩
    obtain ⟨d, is, done⟩ := s1.interrupt_ended (n := n) out there open_.1
      (out_is ▸ List.mem_filter.2 ⟨State.ctx_mem there, runs⟩)
    have apart : c.hdr ≠ h := by
      intro same
      rw [← same, open_.2] at manager
      cases manager
    have kept : (s3.modCtx h fun k => { k with wait := .freeze n.val }).ctx? c.hdr = s3.ctx? c.hdr :=
      State.ctx_modCtx_ne (fun k : Ctx => { k with wait := .freeze n.val }) (fun _ => rfl) apart
    exact ⟨d, kept.trans is, done⟩

/-- A freeze that begins, behind the checks of R476. -/
theorem execFreezeInstance_eq (starts : AdminStarts s h a) : exec (.freezeInstance h n) s = .next (
    if a.has Mode.sanitize then a.finish h ⟨⟨0, 0x1D⟩, 0, 0⟩
    else if a.portOf n = a.portOfFn h.fn ∧ (a.fn (.inst n)).state = .online ∧ a.phase n = 0 then a.startFreeze h n
    else a.finish h ⟨⟨1, 0xC2⟩, 0, 0⟩) := by
  obtain ⟨begun, manager⟩ := starts
  show execFreezeInstance h n s = _
  unfold execFreezeInstance
  rw [State.startAdmin_of_starts begun, if_neg (by simp [manager])]
  refine congrArg _ ?_
  split
  · rfl
  · by_cases own : a.portOf n = a.portOfFn h.fn
    · rw [State.ownInst_own own]
      simp only [own, true_and]
      rfl
    · rw [State.ownInst_other own, if_neg fun is => own is.1]
      rfl

/-- At 20 ms every command that still runs ends (R477). -/
theorem execFreezeDrainTimeout_ends {e : Hdr × Nat × Nat} (drains : Tbl.find s.migration.freezing n = some e) :
    ∃ t : State, exec (.freezeDrainTimeout n) s = .next t ∧
      Tbl.find t.migration.freezing n = some (e.1, e.2.1, e.2.2 + (s.host.ctxs.filter (s.running n)).length) ∧
      ∀ c, s.ctx? c.hdr = some c → s.running n c = true → Ended t c.hdr ⟨0, 0x21⟩ 0 := by
  have ran : exec (.freezeDrainTimeout n) s = .next { s.interrupt n (s.host.ctxs.filter (s.running n)) with
      migration := { (s.interrupt n (s.host.ctxs.filter (s.running n))).migration with
        freezing := Tbl.put (s.interrupt n (s.host.ctxs.filter (s.running n))).migration.freezing n.val
          (e.1, e.2.1, e.2.2 + (s.host.ctxs.filter (s.running n)).length) } } := by
    show execFreezeDrainTimeout n s = _
    unfold execFreezeDrainTimeout
    simp only [drains]
  refine ⟨_, ran, Tbl.find_put_same .., fun c there runs => ?_⟩
  have open_ : c.done = none := by
    simp only [State.running, Bool.and_eq_true, Option.isNone_iff_eq_none] at runs
    exact runs.1.2
  exact s.interrupt_ended (n := n) _ there open_ (List.mem_filter.2 ⟨State.ctx_mem there, runs⟩)

/-- A line write changes of its function the line alone. -/
theorem State.writeLine_fn (f : Func) : (s.writeLine f).fn f = { s.fn f with line := ((s.writeLine f).fn f).line } := by
  unfold State.writeLine
  dsimp only
  split
  · rfl
  next l _ =>
    have same (x : Fn) (o : Out) : ((s.setFn f x).emit o).fn f = x := State.fn_setFn_same x
    rw [same]

theorem State.writeLine_ctxs (f : Func) (k : Hdr) : (s.writeLine f).ctx? k = s.ctx? k := by
  unfold State.writeLine
  dsimp only
  split <;> rfl

/-- An instance whose line is written, and which is FROZEN then (R477). -/
def State.frozenAt (s : State) (n : Fin 1024) : State :=
  ((s.writeLine (.inst n)).modFn (.inst n) fun x => { x with state := .frozen }).keep Obj.freezePhase 2 n.val

theorem State.frozenAt_state : ((s.frozenAt n).fn (.inst n)).state = .frozen := by
  show (((s.writeLine (.inst n)).modFn (.inst n) fun x => { x with state := .frozen }).fn (.inst n)).state = _
  rw [State.fn_modFn_same]

theorem State.frozenAt_sampler : (s.frozenAt n).sampler = s.sampler := (state_writeLine_frame ..).2.2.1

theorem State.frozenAt_phase : (s.frozenAt n).phase n = 2 := State.cfg_keep_same ..

theorem State.frozenAt_ctx (k : Hdr) : (s.frozenAt n).ctx? k = s.ctx? k := State.writeLine_ctxs _ k

theorem execFreezeComplete_eq {e : Hdr × Nat × Nat} (drains : Tbl.find s.migration.freezing n = some e) (out : s.drainedOut n = true) :
    exec (.freezeComplete n) s = .next (State.finish { (s.frozenAt n).setMode Mode.freeze 12 with
      migration := { ((s.frozenAt n).setMode Mode.freeze 12).migration with
        freezing := Tbl.del ((s.frozenAt n).setMode Mode.freeze 12).migration.freezing n.val } } e.1 (Cpl.ok0 (e.2.1 + e.2.2))) := by
  show execFreezeComplete n s = _
  unfold execFreezeComplete
  simp only [drains]
  exact if_pos out

/-- When every context has posted its entry the instance is FROZEN (R477). -/
theorem execFreezeComplete_freezes {e : Hdr × Nat × Nat} (drains : Tbl.find s.migration.freezing n = some e)
    (out : s.drainedOut n = true) (room : HasRoom s) : ∃ t : State, exec (.freezeComplete n) s = .next t ∧
      (t.fn (.inst n)).state = .frozen ∧ t.phase n = 2 ∧ t.has Mode.freeze = true ∧ Tbl.find t.migration.freezing n = none ∧
      ∀ c, s.ctx? e.1 = some c → c.done = none → Ended t e.1 ⟨0, 0⟩ (e.2.1 + e.2.2) := by
  obtain ⟨room, waits⟩ := room
  have host : ((s.frozenAt n).setMode Mode.freeze 12).host = (s.frozenAt n).host := by simp
  have pending : (s.frozenAt n).pendingRecs = s.pendingRecs := by
    rw [State.pendingRecs, State.frozenAt_sampler, State.pendingRecs]
  refine ⟨_, execFreezeComplete_eq drains out, ?_, ?_, ?_, Tbl.find_del_same .., fun c there open_ => ?_⟩
  · exact (congrArg Fn.state (State.fn_of_fns (congrArg (·.fns) host) (.inst n))).trans State.frozenAt_state
  · refine (State.cfg_of_force rfl ..).trans ((State.cfg_changeModes _ _ _ _ _ _ _ ?_ ?_ ?_ ?_ ?_).trans State.frozenAt_phase) <;>
      simp only [ObjRow.other, ObjRow.key, Obj.freezePhase, Obj.dropped, Obj.suppressedTotal, Obj.powerDefer, Obj.modeSeq,
        Obj.modeChanges] <;> omega
  · refine (State.has_of_same rfl).trans ((State.has_setMode (by rw [State.frozenAt_sampler]; exact waits) (by rw [pending]; exact room)
      Mode.freeze 12 Mode.freeze).trans ?_)
    simp [modeBit, Mode.freeze]
  · refine State.ended_finish (c := c) (Cpl.ok0 (e.2.1 + e.2.2)) ?_ open_
    exact (State.ctx_of_host host e.1).trans ((State.frozenAt_ctx _).trans there)

/-! ### Resume (R480) -/

theorem Tbl.find_map_values {α β : Type} (l : Tbl α) (g : α → β) (k : Nat) :
    Tbl.find (l.map fun e => (e.1, g e.2)) k = (Tbl.find l k).map g := by
  induction l with
  | nil => rfl
  | cons e t ih =>
    simp only [List.map_cons, Tbl.find]
    split
    · rfl
    · exact ih

/-- A queue whose recorded doorbell has taken effect. -/
theorem State.releaseBells_queue {f : Func} {q v : Nat} {sq : Sq} (there : Tbl.find (s.fn f).sqs q = some sq)
    (recorded : sq.recorded = some v) :
    ∃ sq', Tbl.find ((s.releaseBells f).fn f).sqs q = some sq' ∧ sq'.tail = v ∧ sq'.recorded = none := by
  refine ⟨{ sq with tail := v, recorded := none, bell := if v = sq.head then none else sq.bell }, ?_, rfl, rfl⟩
  unfold State.releaseBells
  rw [State.fn_modFn_same]
  refine (Tbl.find_map_values (s.fn f).sqs (fun y => match y.recorded with
    | some v => { y with tail := v, recorded := none, bell := if v = y.head then none else y.bell }
    | none => y) q).trans ?_
  rw [there, Option.map_some]
  simp only [recorded]

/-- An instance that goes ONLINE, its recorded doorbells in effect and its line written (R480). -/
def State.onlineAt (s : State) (n : Fin 1024) : State :=
  ((((s.modFn (.inst n) fun x => { x with state := .online }).keep Obj.freezePhase 0 n.val).setBank n.val Bank.zero).releaseBells
    (.inst n)).writeLine (.inst n)

theorem State.onlineAt_fn : ∃ (b : State) (line : Option Line), b.fn (.inst n) = { s.fn (.inst n) with state := .online } ∧
    (s.onlineAt n).fn (.inst n) = { (b.releaseBells (.inst n)).fn (.inst n) with line := line } := by
  refine ⟨((s.modFn (.inst n) fun x => { x with state := .online }).keep Obj.freezePhase 0 n.val).setBank n.val Bank.zero, _, ?_,
    State.writeLine_fn ..⟩
  exact State.fn_modFn_same (s := s) (f := .inst n) fun x => { x with state := .online }

theorem State.onlineAt_state : ((s.onlineAt n).fn (.inst n)).state = .online := by
  obtain ⟨b, line, is, shown⟩ := State.onlineAt_fn (s := s) (n := n)
  rw [shown]
  show ((b.releaseBells (.inst n)).fn (.inst n)).state = _
  rw [State.releaseBells, State.fn_modFn_same, is]

theorem State.onlineAt_queue {q v : Nat} {sq : Sq} (there : Tbl.find (s.fn (.inst n)).sqs q = some sq) (recorded : sq.recorded = some v) :
    ∃ sq', Tbl.find ((s.onlineAt n).fn (.inst n)).sqs q = some sq' ∧ sq'.tail = v ∧ sq'.recorded = none := by
  obtain ⟨b, line, is, shown⟩ := State.onlineAt_fn (s := s) (n := n)
  rw [shown]
  exact State.releaseBells_queue (by rw [is]; exact there) recorded

theorem State.onlineAt_phase : (s.onlineAt n).phase n = 0 := by
  unfold State.onlineAt State.phase
  exact (State.cfg_of_force (by simp) ..).trans (State.cfg_keep_same (s.modFn (.inst n) fun x => { x with state := .online })
    Obj.freezePhase 0 n.val 0)

theorem State.onlineAt_ctx (k : Hdr) : (s.onlineAt n).ctx? k = s.ctx? k := State.writeLine_ctxs _ k

theorem State.onlineAt_migration : (s.onlineAt n).migration = s.migration := by
  unfold State.onlineAt
  simp

/-- A state without the image in an instance's window. -/
def State.imageGone (s : State) (n : Fin 1024) : State :=
  { s with engines := { s.engines with windows := Tbl.del s.engines.windows (0x1000 + n.val) } }

theorem State.imageGone_host : (s.imageGone n).host = s.host := rfl

theorem State.imageGone_phase : (s.imageGone n).phase n = s.phase n := rfl

theorem State.imageGone_window : Tbl.find (s.imageGone n).engines.windows (0x1000 + n.val) = none := Tbl.find_del_same ..

theorem State.dropFreeze_eq (none_ : Tbl.find s.migration.freezing n = none) : s.dropFreeze n.val = s.imageGone n := by
  have ended : s.endFreeze n.val .abortRequested = s := by
    unfold State.endFreeze
    rw [none_]
  rw [State.dropFreeze, ended]
  rfl

theorem State.thaw_eq (none_ : Tbl.find s.migration.freezing n = none) : s.thaw n = ((s.onlineAt n).imageGone n).settleFreeze := by
  have gone := State.dropFreeze_eq (s := s.onlineAt n) (n := n) (by rw [State.onlineAt_migration]; exact none_)
  exact congrArg State.settleFreeze gone

/-- FREEZE_PHASE is not of what the end of FREEZE changes. -/
theorem State.settleFreeze_phase : s.settleFreeze.phase n = s.phase n := by
  unfold State.settleFreeze State.clearMode State.phase
  split
  · rfl
  · refine State.cfg_changeModes _ _ _ _ _ _ _ ?_ ?_ ?_ ?_ ?_ <;>
      simp only [ObjRow.other, ObjRow.key, Obj.freezePhase, Obj.dropped, Obj.suppressedTotal, Obj.powerDefer, Obj.modeSeq,
        Obj.modeChanges] <;> omega

theorem State.settleFreeze_host : s.settleFreeze.host = s.host := by simp

theorem State.settleFreeze_engines : s.settleFreeze.engines = s.engines := by simp

/-- What a resume of a FROZEN instance makes of it. -/
theorem State.thaw_online (none_ : Tbl.find s.migration.freezing n = none) : ((s.thaw n).fn (.inst n)).state = .online ∧
    (s.thaw n).phase n = 0 ∧ Tbl.find (s.thaw n).engines.windows (0x1000 + n.val) = none ∧ (∀ k, (s.thaw n).ctx? k = s.ctx? k) ∧
    ∀ q sq v, Tbl.find (s.fn (.inst n)).sqs q = some sq → sq.recorded = some v →
      ∃ sq', Tbl.find ((s.thaw n).fn (.inst n)).sqs q = some sq' ∧ sq'.tail = v ∧ sq'.recorded = none := by
  rw [State.thaw_eq none_]
  have host : ((s.onlineAt n).imageGone n).settleFreeze.host = (s.onlineAt n).host :=
    State.settleFreeze_host
  have fn (f : Func) := State.fn_of_fns (congrArg (·.fns) host) f
  rw [fn]
  refine ⟨State.onlineAt_state, State.settleFreeze_phase.trans (State.imageGone_phase.trans State.onlineAt_phase), ?_,
    fun k => (State.ctx_of_host host k).trans (State.onlineAt_ctx k), fun q sq v there recorded =>
    State.onlineAt_queue there recorded⟩
  rw [State.settleFreeze_engines]
  exact State.imageGone_window

/-- A resume, behind the checks of R480. -/
theorem execResumeInstance_eq (starts : AdminStarts s h a) : exec (.resumeInstance h n) s = .next (
    if a.portOf n = a.portOfFn h.fn then
      if (a.fn (.inst n)).state = .frozen ∧ a.phase n = 2 then (a.thaw n).finish h Cpl.ok
      else if (a.fn (.inst n)).state = .online ∧ a.phase n = 1 then
        ((a.endFreeze n .abortRequested).releaseBells (.inst n)).finish h Cpl.ok
      else a.finish h (Cpl.of .invalidInstState)
    else a.finish h (Cpl.of .invalidInstState)) := by
  show execResumeInstance h n s = _
  unfold execResumeInstance
  rw [State.managerRun_of_starts starts]
  by_cases own : a.portOf n = a.portOfFn h.fn
  · rw [State.ownInst_own own, if_pos own]
    dsimp only
    split
    next frozen two => rw [if_pos ⟨frozen, two⟩]
    next online one => rw [if_neg (by simp [online]), if_pos ⟨online, one⟩]
    next x y frozen online => rw [if_neg fun is => frozen is.1 is.2, if_neg fun is => online is.1 is.2, refuse]
  · rw [State.ownInst_other own, if_neg own]
    rfl

theorem execResumeInstance_refuses (starts : AdminStarts s h a) (refused : a.portOf n ≠ a.portOfFn h.fn ∨
    ((a.fn (.inst n)).state = .frozen ∧ a.phase n ≠ 2) ∨ ((a.fn (.inst n)).state = .online ∧ a.phase n ≠ 1) ∨
    ((a.fn (.inst n)).state ≠ .frozen ∧ (a.fn (.inst n)).state ≠ .online)) :
    exec (.resumeInstance h n) s = .next (a.finish h ⟨⟨1, 0xC2⟩, 0, 0⟩) := by
  rw [execResumeInstance_eq starts]
  refine congrArg Host.Outcome.next ?_
  split
  next own =>
    have frozen : ¬ ((a.fn (.inst n)).state = .frozen ∧ a.phase n = 2) := by
      rintro ⟨frozen, two⟩
      simp [own, frozen, two] at refused
    have online : ¬ ((a.fn (.inst n)).state = .online ∧ a.phase n = 1) := by
      rintro ⟨online, one⟩
      simp [own, online, one] at refused
    rw [if_neg frozen, if_neg online]
    rfl
  next => rfl

theorem execResumeInstance_thaws (starts : AdminStarts s h a) (own : a.portOf n = a.portOfFn h.fn)
    (frozen : (a.fn (.inst n)).state = .frozen) (two : a.phase n = 2) (none_ : Tbl.find a.migration.freezing n = none) :
    ∃ t : State, exec (.resumeInstance h n) s = .next t ∧ Ended t h ⟨0, 0⟩ 0 ∧ (t.fn (.inst n)).state = .online ∧ t.phase n = 0 ∧
      Tbl.find t.engines.windows (0x1000 + n) = none ∧
      ∀ q sq v, Tbl.find (a.fn (.inst n)).sqs q = some sq → sq.recorded = some v →
        ∃ sq', Tbl.find (t.fn (.inst n)).sqs q = some sq' ∧ sq'.tail = v ∧ sq'.recorded = none := by
  obtain ⟨online, zero, gone, ctxs, queues⟩ := State.thaw_online none_
  have ran : exec (.resumeInstance h n) s = .next ((a.thaw n).finish h Cpl.ok) := by
    rw [execResumeInstance_eq starts, if_pos own, if_pos ⟨frozen, two⟩]
  generalize a.thaw n = t at *
  exact ⟨_, ran, starts.1.ended (ctxs h) .success 0, online, zero, gone, queues⟩

/-- A freeze that drains, and ends. -/
theorem State.endFreeze_ends {e : Hdr × Nat × Nat} (drains : Tbl.find s.migration.freezing n = some e) (st : Status) :
    (s.endFreeze n st).phase n = 0 ∧ Tbl.find (s.endFreeze n st).migration.freezing n = none ∧
    (∀ k, k ≠ e.1 → (s.endFreeze n st).ctx? k = s.ctx? k) ∧
    ∀ c, s.ctx? e.1 = some c → c.done = none → Ended (s.endFreeze n st) e.1 st e.2.1 := by
  unfold State.endFreeze
  rw [drains]
  refine ⟨State.cfg_keep_same .., Tbl.find_del_same .., fun k apart => ?_, fun c there open_ => ?_⟩
  · exact State.ctx_finish_ne (s := s.keep Obj.freezePhase 0 n.val) ⟨st, e.2.1, 0⟩ apart
  · exact State.ended_finish (s := s.keep Obj.freezePhase 0 n.val) (c := c) ⟨st, e.2.1, 0⟩ there open_

theorem execResumeInstance_cancels (starts : AdminStarts s h a) (own : a.portOf n = a.portOfFn h.fn)
    (online : (a.fn (.inst n)).state = .online) (one : a.phase n = 1) {e : Hdr × Nat × Nat} {c : Ctx}
    (drains : Tbl.find a.migration.freezing n = some e) (apart : e.1 ≠ h) (there : a.ctx? e.1 = some c) (open_ : c.done = none) :
    ∃ t : State, exec (.resumeInstance h n) s = .next t ∧ Ended t h ⟨0, 0⟩ 0 ∧ t.phase n = 0 ∧
      Tbl.find t.migration.freezing n = none ∧ Ended t e.1 ⟨0, 0x07⟩ e.2.1 := by
  obtain ⟨zero, gone, kept, ended⟩ := State.endFreeze_ends drains .abortRequested
  have ran : exec (.resumeInstance h n) s = .next (((a.endFreeze n .abortRequested).releaseBells (.inst n)).finish h Cpl.ok) := by
    rw [execResumeInstance_eq starts, if_pos own, if_neg (by simp [online]), if_pos ⟨online, one⟩]
  obtain ⟨d, is, done⟩ := ended c there open_
  exact ⟨_, ran, starts.1.ended (kept h apart.symm) .success 0, zero, gone, d,
    (State.ctx_finish_ne Cpl.ok apart).trans is, done⟩

/-! ### The image's length (R482) -/

theorem bytesLE_length (k v : Nat) : (bytesLE k v).length = k := by simp [bytesLE]

theorem sha256Round_length {v : List (BitVec 32)} (eight : v.length = 8) (k w : BitVec 32) : (sha256Round v k w).length = 8 := by
  unfold sha256Round
  split
  · rfl
  · exact eight

theorem sha256Rounds_length (ks : List (BitVec 32)) (w : List (BitVec 32)) {v : List (BitVec 32)} (eight : v.length = 8) :
    (sha256Rounds ks w v).length = 8 := by
  induction ks generalizing w v with
  | nil => exact eight
  | cons k ks ih => exact ih _ (sha256Round_length eight ..)

theorem DigestCtx.drain_length (fuel : Nat) {d : DigestCtx} (eight : d.h.length = 8) : (d.drain fuel).h.length = 8 := by
  induction fuel generalizing d with
  | zero => exact eight
  | succ fuel ih =>
    rw [DigestCtx.drain]
    split
    · refine ih ?_
      rw [sha256Block, List.length_zipWith, sha256Rounds_length _ _ eight, eight, Nat.min_self]
    · exact eight

theorem DigestCtx.feed_length {d : DigestCtx} (eight : d.h.length = 8) (bs : List Byte) : (d.feed bs).h.length = 8 :=
  DigestCtx.drain_length _ eight

/-- A digest is 32 bytes long. -/
theorem sha256_length (m : List Byte) : (sha256 m).length = 32 := by
  have eight := DigestCtx.feed_length (DigestCtx.feed_length (d := DigestCtx.fresh) rfl m)
  rw [sha256, DigestCtx.finish, List.length_flatMap]
  simp only [length_bytesBE, List.map_const', eight, List.sum_replicate_nat]

theorem fit_length (k : Nat) (bs : List Byte) : (fit k bs).length = k := by
  simp only [fit, List.length_append, List.length_take, List.length_replicate]
  omega

theorem layout_length (fields : List (Nat × Nat)) : (layout fields).length = (fields.map (·.1)).sum := by
  simp only [layout, List.length_flatMap, bytesLE_length]

theorem Fn.queueRecord_length (x : Fn) (q : Nat) : (x.queueRecord q).length = 64 := layout_length _

theorem State.imageOf_length : (s.imageOf n).length = 8192 + 64 * ((s.fn (.inst n)).topQid + 1) := by
  have head (k : Nat) : (s.imageHeader n k).length = 32 := layout_length _
  have control : (s.controlBytes (.inst n)).length = 256 := fit_length ..
  simp only [State.imageOf, List.length_append, head, sha256_length, control, fit_length, List.length_flatMap,
    Fn.queueRecord_length, List.map_const', List.length_range, List.sum_replicate_nat]
  omega

/-! ### Save (R481) -/

/-- A state with an instance's image in its window. -/
def State.savedImage (s : State) (n : Fin 1024) (img : List Byte) : State :=
  { s with engines := { s.engines with windows := Tbl.set [] s.engines.windows (0x1000 + n.val) (cellsStore [] 0 img) } }

theorem execSaveInstanceState_eq (starts : AdminStarts s h a) : exec (.saveInstanceState h n) s = .next (
    if a.portOf n = a.portOfFn h.fn ∧ (a.fn (.inst n)).state = .frozen ∧ (a.phase n = 2 ∨ a.phase n = 3) then
      ((a.bump Obj.saveCount 1 n).savedImage n ((a.bump Obj.saveCount 1 n).imageOf n)).finish h
        (Cpl.ok0 ((a.bump Obj.saveCount 1 n).imageOf n).length)
    else a.finish h (Cpl.of .invalidInstState)) := by
  show execSaveInstanceState h n s = _
  unfold execSaveInstanceState
  rw [State.managerRun_of_starts starts]
  by_cases own : a.portOf n = a.portOfFn h.fn
  · rw [State.ownInst_own own]
    dsimp only
    by_cases ready : (a.fn (.inst n)).state = .frozen ∧ (a.phase n = 2 ∨ a.phase n = 3)
    · rw [if_pos ready, if_pos ⟨own, ready⟩]
      rfl
    · rw [if_neg ready, if_neg fun is => ready is.2]
      rfl
  · rw [State.ownInst_other own, if_neg fun is => own is.1]
    rfl

theorem execSaveInstanceState_refuses (starts : AdminStarts s h a) (refused : a.portOf n ≠ a.portOfFn h.fn ∨
    (a.fn (.inst n)).state ≠ .frozen ∨ (a.phase n ≠ 2 ∧ a.phase n ≠ 3)) :
    exec (.saveInstanceState h n) s = .next (a.finish h ⟨⟨1, 0xC2⟩, 0, 0⟩) := by
  rw [execSaveInstanceState_eq starts, if_neg]
  · rfl
  · rintro ⟨own, frozen, two | three⟩ <;> simp [*] at refused

theorem State.savedImage_window (img : List Byte) :
    Tbl.get [] (s.savedImage n img).engines.windows (0x1000 + n) = cellsStore [] 0 img := Tbl.get_set_same ..

theorem State.savedImage_state {img : List Byte} {k : Cpl} {f : Func} :
    (((s.savedImage n img).finish h k).fn f).state = (s.fn f).state := rfl

theorem State.savedImage_store {img : List Byte} {k : Cpl} : ((s.savedImage n img).finish h k).store = s.store := rfl

theorem execSaveInstanceState_saves (starts : AdminStarts s h a) (own : a.portOf n = a.portOfFn h.fn)
    (frozen : (a.fn (.inst n)).state = .frozen) (ready : a.phase n = 2 ∨ a.phase n = 3) : ∃ t u : State,
      exec (.saveInstanceState h n) s = .next t ∧ Ended t h ⟨0, 0⟩ (8192 + 64 * ((a.fn (.inst n)).topQid + 1)) ∧
      u = a.bump Obj.saveCount 1 n ∧ Tbl.get [] t.engines.windows (0x1000 + n) = cellsStore [] 0 (u.imageOf n) ∧
      (t.fn (.inst n)).state = .frozen ∧ t.store = a.store := by
  have ran := execSaveInstanceState_eq (n := n) starts
  rw [if_pos ⟨own, frozen, ready⟩] at ran
  have fn : (a.bump Obj.saveCount 1 n).fn (.inst n) = a.fn (.inst n) := State.fn_of_fns rfl _
  have length := State.imageOf_length (s := a.bump Obj.saveCount 1 n) (n := n)
  rw [fn] at length
  rw [length] at ran
  have ctx : (a.bump Obj.saveCount 1 n).ctx? h = a.ctx? h := rfl
  have store : (a.bump Obj.saveCount 1 n).store = a.store := rfl
  rw [← fn] at frozen
  generalize a.bump Obj.saveCount 1 n = u at *
  have window := u.savedImage_window (n := n) (u.imageOf n)
  have ended := starts.1.ended (t := u.savedImage n (u.imageOf n)) ctx .success (8192 + 64 * ((a.fn (.inst n)).topQid + 1))
  exact ⟨_, u, ran, ended, rfl, window, State.savedImage_state.trans frozen, State.savedImage_store.trans store⟩

/-! ### What the load of an image leaves (R483) -/

/-- What a restore keeps or sets of an instance beside its queues and features. -/
def Fn.frontier (x : Fn) : InstState × BitVec 16 × Bool × Option Line × List Hdr := (x.state, x.gen, x.en, x.line, x.aers)

theorem Fn.loadFeats_frontier (x : Fn) (img : List Byte) : (x.loadFeats img).frontier = x.frontier := by
  refine foldl_keeps Fn.frontier (fun y e => ?_) _ x
  dsimp only
  split <;> rfl

theorem Fn.loadQueue_frontier (x : Fn) (r : List Byte) (bell : Nat) : (x.loadQueue r bell).frontier = x.frontier := by
  unfold Fn.loadQueue
  dsimp only
  split <;> split <;> rfl

/-- A function with its queues, controller state, features and events from an image. -/
def State.loadedFn (s : State) (img : List Byte) (n : Fin 1024) : Fn :=
  (List.range (fieldAt img 14 2)).foldl (fun (y : Fn) q => y.loadQueue ((img.drop (8192 + 64 * q)).take 64) (s.host.bells + q))
    ({ s.fn (.inst n) with
      en := decide (fieldAt img 64 4 % 2 = 1)
      rdy := decide (fieldAt img 64 4 % 2 = 1) && s.readyWhen (.inst n)
      shst := if fieldAt img 64 4 / 2 ^ 14 % 4 = 0 then 0 else 2
      wrr := decide (fieldAt img 64 4 / 2 ^ 11 % 8 = 1)
      mps := fieldAt img 64 4 / 2 ^ 7 % 16
      sqs := []
      cqs := []
      line := imageLine img
      lineDelay := fieldAt img 97 1
      aers := imageAers img n
      events := imageEvents img : Fn }.loadFeats img)

theorem State.loadedFn_frontier (img : List Byte) : (s.loadedFn img n).frontier = ((s.fn (.inst n)).state, (s.fn (.inst n)).gen,
    decide (fieldAt img 64 4 % 2 = 1), imageLine img, imageAers img n) :=
  (foldl_keeps Fn.frontier (fun _ _ => Fn.loadQueue_frontier ..) _ _).trans (Fn.loadFeats_frontier ..)

/-- An instance whose state is loaded, before its outstanding event requests are. -/
def State.loadedAt (s : State) (img : List Byte) (n : Fin 1024) : State :=
  { s.setFn (.inst n) (s.loadedFn img n) with
    host := { (s.setFn (.inst n) (s.loadedFn img n)).host with bells := s.host.bells + fieldAt img 14 2 } }

/-- An outstanding event request of an image. -/
def State.loadAer (s : State) (k : Hdr) : State :=
  (s.addCtx k).modCtx k fun c => { c with wait := .event, begun := true }

theorem State.loadImage_eq (img : List Byte) : s.loadImage img n = (imageAers img n).foldl State.loadAer (s.loadedAt img n) := rfl

theorem State.addCtx_frontier (k : Hdr) (f : Func) : ((s.addCtx k).fn f).frontier = (s.fn f).frontier := by
  show ((s.setFn k.fn { s.fn k.fn with stamp := ((s.fn k.fn).stamp + 1) % 2 ^ 64 }).fn f).frontier = _
  by_cases is : f = k.fn
  · rw [is, State.fn_setFn_same]
    rfl
  · rw [State.fn_setFn_ne _ is]

theorem State.loadAer_frontier (k : Hdr) (f : Func) : ((s.loadAer k).fn f).frontier = (s.fn f).frontier :=
  State.addCtx_frontier k f

theorem State.loadImage_frontier (img : List Byte) : ((s.loadImage img n).fn (.inst n)).frontier = ((s.fn (.inst n)).state,
    (s.fn (.inst n)).gen, decide (fieldAt img 64 4 % 2 = 1), imageLine img, imageAers img n) := by
  rw [State.loadImage_eq]
  refine (foldl_keeps (fun a : State => (a.fn (.inst n)).frontier) (fun a k => a.loadAer_frontier k _) _ _).trans ?_
  rw [show (s.loadedAt img n).fn (.inst n) = s.loadedFn img n from State.fn_setFn_same _]
  exact State.loadedFn_frontier img

theorem State.ctx_loadAer {k : Hdr} (apart : h ≠ k) {c : Ctx} (there : s.ctx? h = some c) : (s.loadAer k).ctx? h = some c := by
  rw [State.loadAer, State.ctx_modCtx_ne (fun c : Ctx => { c with wait := .event, begun := true }) (fun _ => rfl) apart]
  exact List.find?_append.trans (congrArg (Option.or · _) there)

theorem ctx_foldl_loadAer (l : List Hdr) (apart : ∀ k ∈ l, h ≠ k) {c : Ctx} (there : s.ctx? h = some c) :
    (l.foldl State.loadAer s).ctx? h = some c := by
  induction l generalizing s with
  | nil => exact there
  | cons k l ih =>
    exact ih (fun k' mem => apart k' (List.mem_cons_of_mem _ mem)) (State.ctx_loadAer (apart k List.mem_cons_self) there)

theorem imageAers_inst {img : List Byte} {k : Hdr} (mem : k ∈ imageAers img n) : k.fn = .inst n := by
  obtain ⟨i, -, rfl⟩ := List.mem_map.1 mem
  rfl

theorem State.ctx_loadImage (manager : h.fn.isManager = true) (img : List Byte) {c : Ctx} (there : s.ctx? h = some c) :
    (s.loadImage img n).ctx? h = some c := by
  rw [State.loadImage_eq]
  refine ctx_foldl_loadAer _ (fun k mem is => ?_) there
  rw [is, imageAers_inst mem] at manager
  cases manager

/-- An image's objects are those of an instance. -/
theorem imageSet_instance (img : List Byte) : ∀ e ∈ imageSet img n, 0x4000 ≤ e.1 / 256 := by
  have rows : ∀ r ∈ imageRows, 0x4000 ≤ r.base := by decide
  refine List.foldlRecOn (motive := fun t : Tbl Nat => ∀ e ∈ t, 0x4000 ≤ e.1 / 256) _ _ (by simp)
    fun t held x _ e mem => ?_
  split at mem
  next r found =>
    obtain is | old := Tbl.eq_or_mem_of_mem_put mem
    · have base := rows r (List.mem_of_find?_eq_some found)
      rw [is]
      simp only [ObjRow.key]
      omega
    · exact held e old
  next => exact held e mem

theorem imageSet_roles (img : List Byte) : stagedOf (imageSet img n) Obj.cellRole = [] := by
  rw [stagedOf, List.map_eq_nil_iff, List.filter_eq_nil_iff]
  intro e mem
  have high := imageSet_instance img e mem
  have below : ¬ e.1 / 256 < 0x2810 + 96 := by omega
  simp [ObjRow.covers, Obj.cellRole, below]

/-- A set without a role changes objects alone. -/
theorem State.acceptSet_host {set : Tbl Nat} (roles : stagedOf set Obj.cellRole = []) : (s.acceptSet set).host = s.host := by
  unfold State.acceptSet
  rw [roles]
  dsimp only [List.foldl]
  rw [if_pos rfl]
  simp

/-! ### Restore (R483, R484) -/

/-- A device whose instance has an image's state and objects. -/
def State.restored (s : State) (img : List Byte) (n : Fin 1024) : State :=
  (if imageSet img n.val = [] then s.loadImage img n else (s.loadImage img n).acceptSet (imageSet img n.val)).markMoved img n

theorem State.markMoved_host (img : List Byte) : (s.markMoved img n).host = s.host := by simp

theorem State.markMoved_store (img : List Byte) : (s.markMoved img n).store = s.store := by simp

theorem State.restored_host (img : List Byte) : (s.restored img n).host = (s.loadImage img n).host := by
  rw [State.restored, State.markMoved_host]
  split
  · rfl
  · exact State.acceptSet_host (imageSet_roles img)

theorem State.restored_store (img : List Byte) : (s.restored img n).store = s.store := by
  rw [State.restored, State.markMoved_store]
  split <;> simp

/-- The image in an instance's window. -/
def State.windowImage (s : State) (n : Fin 1024) : List Byte := cellsLoad (Tbl.get [] s.engines.windows (imageWindow n)) 0 12352

theorem execRestoreInstanceState_refuses (starts : AdminStarts s h a)
    (refused : a.portOf n ≠ a.portOfFn h.fn ∨ (a.fn (.inst n)).state ≠ .frozen) :
    exec (.restoreInstanceState h n) s = .next (a.finish h ⟨⟨1, 0xC2⟩, 1, 0⟩) := by
  show execRestoreInstanceState h n s = _
  unfold execRestoreInstanceState
  rw [State.managerRun_of_starts starts]
  by_cases own : a.portOf n = a.portOfFn h.fn
  · rw [State.ownInst_own own]
    dsimp only
    rw [if_pos (refused.resolve_left (not_not_intro own))]
    rfl
  · rw [State.ownInst_other own]
    rfl

section
variable (starts : AdminStarts s h a) (own : a.portOf n = a.portOfFn h.fn) (frozen : (a.fn (.inst n)).state = .frozen)
include starts own frozen

theorem execRestoreInstanceState_fails {e : Nat × Status × Nat} (check : a.imageCheck (a.windowImage n) n = some e) :
    exec (.restoreInstanceState h n) s = .next (a.finish h ⟨e.2.1, e.1 + 65536 * e.2.2, 0⟩) := by
  have ran : exec (.restoreInstanceState h n) s = .next (a.finish h ⟨e.2.1, e.1 + 2 ^ 16 * e.2.2, 0⟩) := by
    show execRestoreInstanceState h n s = _
    unfold execRestoreInstanceState
    rw [State.managerRun_of_starts starts, State.ownInst_own own]
    dsimp only
    rw [if_neg (not_not_intro frozen), show a.imageCheck (cellsLoad (Tbl.get [] a.engines.windows (imageWindow n)) 0 12352) n = some e from check]
  exact ran

theorem execRestoreInstanceState_passes {img : List Byte} (is : img = a.windowImage n) (check : a.imageCheck img n = none) :
    exec (.restoreInstanceState h n) s = .next ((a.restored img n).finish h Cpl.ok) := by
  show execRestoreInstanceState h n s = _
  have held : cellsLoad (Tbl.get [] a.engines.windows (imageWindow n)) 0 12352 = img := is.symm
  unfold execRestoreInstanceState
  rw [State.managerRun_of_starts starts, State.ownInst_own own]
  dsimp only
  rw [if_neg (not_not_intro frozen), held, check]
  rfl

theorem execRestoreInstanceState_loads {img : List Byte} (is : img = a.windowImage n) (check : a.imageCheck img n = none) :
    ∃ t : State, exec (.restoreInstanceState h n) s = .next t ∧ Ended t h ⟨0, 0⟩ 0 ∧
      (t.fn (.inst n)).state = .frozen ∧ (t.fn (.inst n)).gen = (a.fn (.inst n)).gen ∧
      (t.fn (.inst n)).en = decide (fieldAt img 64 4 % 2 = 1) ∧ (t.fn (.inst n)).line = imageLine img ∧
      (t.fn (.inst n)).aers = imageAers img n ∧ t.store = a.store := by
  have ran := execRestoreInstanceState_passes starts own frozen is check
  obtain ⟨c, there, open_⟩ := starts.1.ctx
  have ctx : (a.restored img n).ctx? h = some c :=
    (State.ctx_of_host (State.restored_host img) h).trans (State.ctx_loadImage starts.2 img there)
  have front := State.loadImage_frontier (s := a) (n := n) img
  rw [← State.fn_of_fns (congrArg (·.fns) (State.restored_host img))] at front
  have store := State.restored_store (s := a) (n := n) img
  generalize a.restored img n = t at *
  simp only [Fn.frontier, Prod.mk.injEq] at front
  obtain ⟨state, gen, en, line, aers⟩ := front
  exact ⟨_, ran, State.ended_finish Cpl.ok ctx open_, state.trans frozen, gen, en, line, aers, store⟩

end

end

/-- Settles O54: a freeze ends what it may interrupt and waits for the rest, a resume thaws or cancels, an image of R482's length
fills the window, and a restore loads what passes R483's checks, which hold no object of a cell. -/
theorem instancesFreezeMoveAndResume : Obligations.InstancesFreezeMoveAndResume := by
  unfold Obligations.InstancesFreezeMoveAndResume
  refine ⟨fun h n s a starts => ⟨fun sanitize => ?_, fun calm => ⟨fun refused => ?_, fun own online idle => ⟨?_, fun all => ?_⟩⟩,
    execSaveInstanceState_refuses starts, execSaveInstanceState_saves starts, execRestoreInstanceState_refuses starts,
    fun img own frozen is => ⟨fun e check => ?_, execRestoreInstanceState_loads starts own frozen is⟩,
    execResumeInstance_refuses starts, fun own => ⟨execResumeInstance_thaws starts own,
      fun online one e c drains apart there open_ => execResumeInstance_cancels starts own online one drains apart there open_⟩⟩,
    fun n s => ⟨fun idle => ?_, fun e drains => ⟨execFreezeDrainTimeout_ends drains, fun held => ?_,
      execFreezeComplete_freezes drains⟩⟩⟩
  · rw [execFreezeInstance_eq starts, if_pos sanitize]
  · rw [execFreezeInstance_eq starts, if_neg (by simp [calm]), if_neg (by rintro ⟨own, online, idle⟩; simp [*] at refused)]
  · have ran := execFreezeInstance_eq (n := n) starts
    rw [if_neg (by simp [calm]), if_pos ⟨own, online, idle⟩] at ran
    exact ⟨_, ran, State.startFreeze_listed⟩
  · have ran := execFreezeInstance_eq (n := n) starts
    rw [if_neg (by simp [calm]), if_pos ⟨own, online, idle⟩] at ran
    obtain ⟨one, state, listed, ended⟩ := State.startFreeze_interrupts (s := a) (h := h) (n := n) starts.2 all
    exact ⟨_, ran, one, state.trans online, listed, ended⟩
  · rw [is] at check
    exact execRestoreInstanceState_fails starts own frozen check
  · constructor
    · show execFreezeDrainTimeout n s = _
      simp only [execFreezeDrainTimeout, idle]
    · show execFreezeComplete n s = _
      simp only [execFreezeComplete, idle]
  · show execFreezeComplete n s = _
    simp [execFreezeComplete, drains, held]

end Sys2Proof.Machine
end


section
/-! What lies on flash, and how far the journal is durable -/
namespace Sys2Proof.Machine

section folds
variable {α β : Type}

@[simp] theorem ite_media {c : Prop} [Decidable c] (a b : Store) :
    (if c then a else b).media = if c then a.media else b.media := by split <;> rfl

@[simp] theorem foldl_media (g : State → α → State) (l : List α) (s : State) (h : ∀ a e, (g a e).store.media = a.store.media) :
    (l.foldl g s).store.media = s.store.media := foldl_keeps (fun a : State => a.store.media) h l s

@[simp] theorem foldlPair_media (g : β × State → α → β × State) (l : List α) (s : β × State)
    (h : ∀ a e, (g a e).2.store.media = a.2.store.media) : (l.foldl g s).2.store.media = s.2.store.media :=
  foldl_keeps (fun a : β × State => a.2.store.media) h l s

@[simp] theorem elim_media (o : Option α) (s : State) (f : α → State) (h : ∀ x, (f x).store.media = s.store.media) :
    (o.elim s f).store.media = s.store.media := by
  cases o with
  | none => rfl
  | some x => exact h x

@[simp] theorem ite_durable {c : Prop} [Decidable c] (a b : Store) :
    (if c then a else b).journal.durable = if c then a.journal.durable else b.journal.durable := by split <;> rfl

@[simp] theorem foldl_durable (g : State → α → State) (l : List α) (s : State)
    (h : ∀ a e, (g a e).store.journal.durable = a.store.journal.durable) :
    (l.foldl g s).store.journal.durable = s.store.journal.durable := foldl_keeps (fun a : State => a.store.journal.durable) h l s

@[simp] theorem foldlPair_durable (g : β × State → α → β × State) (l : List α) (s : β × State)
    (h : ∀ a e, (g a e).2.store.journal.durable = a.2.store.journal.durable) :
    (l.foldl g s).2.store.journal.durable = s.2.store.journal.durable :=
  foldl_keeps (fun a : β × State => a.2.store.journal.durable) h l s

@[simp] theorem elim_durable (o : Option α) (s : State) (f : α → State)
    (h : ∀ x, (f x).store.journal.durable = s.store.journal.durable) :
    (o.elim s f).store.journal.durable = s.store.journal.durable := by
  cases o with
  | none => rfl
  | some x => exact h x

theorem foldl_firm (g : State → α → State) (l : List α) (s : State)
    (h : ∀ a e, (g a e).store.media = a.store.media ∧ (g a e).store.journal.durable = a.store.journal.durable) :
    (l.foldl g s).store.media = s.store.media ∧ (l.foldl g s).store.journal.durable = s.store.journal.durable :=
  ⟨foldl_media g l s fun a e => (h a e).1, foldl_durable g l s fun a e => (h a e).2⟩

end folds

theorem firm_trans {s t u : State} (h : t.store.media = s.store.media ∧ t.store.journal.durable = s.store.journal.durable)
    (k : u.store.media = t.store.media ∧ u.store.journal.durable = t.store.journal.durable) :
    u.store.media = s.store.media ∧ u.store.journal.durable = s.store.journal.durable := ⟨k.1.trans h.1, k.2.trans h.2⟩

@[simp] theorem firm_setNs (s : State) (nsid : Nat) (x : Ns) :
    (s.setNs nsid x).store.media = s.store.media ∧
      (s.setNs nsid x).store.journal.durable = s.store.journal.durable := by
  unfold State.setNs
  simp

@[simp] theorem firm_setSlot (s : State) (k : Nat) (x : Slot) :
    (s.setSlot k x).store.media = s.store.media ∧
      (s.setSlot k x).store.journal.durable = s.store.journal.durable := by
  unfold State.setSlot
  simp

@[simp] theorem firm_setStripe (s : State) (k : Nat) (x : Stripe) :
    (s.setStripe k x).store.media = s.store.media ∧
      (s.setStripe k x).store.journal.durable = s.store.journal.durable := by
  unfold State.setStripe
  simp

@[simp] theorem firm_setRead (s : State) (k : Nat) (x : MediaRead) :
    (s.setRead k x).store.media = s.store.media ∧
      (s.setRead k x).store.journal.durable = s.store.journal.durable := by
  unfold State.setRead
  simp

@[simp] theorem State.setJournal_media (s : State) (j : Journal) : (s.setJournal j).store.media = s.store.media := rfl

@[simp] theorem State.setJournal_journal (s : State) (j : Journal) : (s.setJournal j).store.journal = j := rfl

@[simp] theorem firm_setBlock (s : State) (lun block : Nat) (x : Block) :
    (s.setBlock lun block x).store.media = s.store.media ∧
      (s.setBlock lun block x).store.journal.durable = s.store.journal.durable := by
  unfold State.setBlock
  simp

@[simp] theorem firm_useSystem (s : State) (m : Nat × Nat) :
    (s.useSystem m).store.media = s.store.media ∧
      (s.useSystem m).store.journal.durable = s.store.journal.durable := by
  unfold State.useSystem
  simp

@[simp] theorem firm_closePage (s : State) :
    s.closePage.store.media = s.store.media ∧
      s.closePage.store.journal.durable = s.store.journal.durable := by
  unfold State.closePage
  simp

@[simp] theorem firm_journal (s : State) (r : JRec) :
    (s.journal r).store.media = s.store.media ∧
      (s.journal r).store.journal.durable = s.store.journal.durable := by
  unfold State.journal
  simp

@[simp] theorem firm_touchSegment (s : State) (nsid seg : Nat) :
    (s.touchSegment nsid seg).store.media = s.store.media ∧
      (s.touchSegment nsid seg).store.journal.durable = s.store.journal.durable := by
  unfold State.touchSegment
  simp

@[simp] theorem firm_superseded (s : State) (x : Ns) (old : MapEntry) :
    (s.superseded x old).store.media = s.store.media ∧
      (s.superseded x old).store.journal.durable = s.store.journal.durable := by
  unfold State.superseded
  (repeat' split) <;> simp

@[simp] theorem firm_setUnit (s : State) (nsid u : Nat) (e : MapEntry) :
    (s.setUnit nsid u e).store.media = s.store.media ∧
      (s.setUnit nsid u e).store.journal.durable = s.store.journal.durable := by
  unfold State.setUnit
  (repeat' split) <;> simp

@[simp] theorem firm_queueErase (s : State) (lun block : Nat) :
    (s.queueErase lun block).store.media = s.store.media ∧
      (s.queueErase lun block).store.journal.durable = s.store.journal.durable := by
  unfold State.queueErase
  simp

theorem firm_openStripe (s : State) (use : StripeUse) (g w : Nat) (q : Bool) :
    ∀ got, State.openStripe s use g w q = some got → got.2.store.media = s.store.media ∧
      got.2.store.journal.durable = s.store.journal.durable := by
  intro got h
  unfold State.openStripe at h
  extract_lets at h
  cases members : s.chooseMembers g (w + 1 + q.toNat) use with
  | none =>
    rw [members] at h
    cases h
  | some ms =>
    rw [members] at h
    rw [← Option.some.inj h]
    simp

theorem firm_placeIn (s : State) (use : StripeUse) (g w : Nat) (q : Bool) :
    ∀ got, State.placeIn s use g w q = some got → got.2.2.store.media = s.store.media ∧
      got.2.2.store.journal.durable = s.store.journal.durable := by
  intro got h
  unfold State.placeIn at h
  dsimp only at h
  split at h
  · cases h
  · rename_i id s1 hg
    split at h
    · cases h
    · cases h
      split at hg
      · cases hg; simp
      · have := firm_openStripe _ _ _ _ _ _ hg
        dsimp only at this
        simp [this]

theorem firm_placeFirst (s : State) (use : StripeUse) (w : Nat) (q : Bool) (y0 : List Nat) :
    ∀ got, State.placeFirst s use w q y0 = some got → got.2.2.store.media = s.store.media ∧
      got.2.2.store.journal.durable = s.store.journal.durable := by
  induction y0 with
  | nil => intro got h; cases h
  | cons g gs ih =>
    intro got h
    unfold State.placeFirst at h
    cases hp : s.placeIn use g w q with
    | none => rw [hp] at h; exact ih got h
    | some v => rw [hp] at h; cases h; exact firm_placeIn _ _ _ _ _ _ hp

@[simp] theorem firm_takeSlot (s : State) (nsid u handle : Nat) :
    (s.takeSlot nsid u handle).2.store.media = s.store.media ∧
      (s.takeSlot nsid u handle).2.store.journal.durable = s.store.journal.durable := by
  unfold State.takeSlot
  (repeat' split) <;> simp

@[simp] theorem firm_dropSlot (s : State) (k : Nat) (e : MapEntry) :
    (s.dropSlot k e).store.media = s.store.media ∧
      (s.dropSlot k e).store.journal.durable = s.store.journal.durable := by
  unfold State.dropSlot
  (repeat' split) <;> simp

@[simp] theorem firm_freeSlot (s : State) (k : Nat) (e : MapEntry) :
    (s.freeSlot k e).store.media = s.store.media ∧
      (s.freeSlot k e).store.journal.durable = s.store.journal.durable := by
  unfold State.freeSlot
  (repeat' split) <;> simp

@[simp] theorem firm_looseSlot (s : State) (k : Nat) :
    (s.looseSlot k).store.media = s.store.media ∧
      (s.looseSlot k).store.journal.durable = s.store.journal.durable := by
  unfold State.looseSlot
  (repeat' split) <;> simp

@[simp] theorem firm_enterRead (s : State) (nsid u : Nat) (e : MapEntry) (mask : BitVec 4) (cls : OpClass) (serves : ReadFor)
    (att : List Attach) (dead : LadderStep) :
    (s.enterRead nsid u e mask cls serves att dead).2.store.media = s.store.media ∧
      (s.enterRead nsid u e mask cls serves att dead).2.store.journal.durable = s.store.journal.durable := by
  unfold State.enterRead
  simp

@[simp] theorem firm_startDarning (s : State) (rd : Nat) (r : MediaRead) :
    (s.startDarning rd r).store.media = s.store.media ∧
      (s.startDarning rd r).store.journal.durable = s.store.journal.durable := by
  unfold State.startDarning
  simp

@[simp] theorem firm_darnUnit (s : State) (rd : Nat) (owed : Bool) :
    (s.darnUnit rd owed).store.media = s.store.media ∧
      (s.darnUnit rd owed).store.journal.durable = s.store.journal.durable := by
  unfold State.darnUnit
  (repeat' split) <;> simp

@[simp] theorem firm_startRead (s : State) (nsid u : Nat) (e : MapEntry) (mask : BitVec 4) (cls : OpClass) (serves : ReadFor)
    (att : List Attach) :
    (s.startRead nsid u e mask cls serves att).2.store.media = s.store.media ∧
      (s.startRead nsid u e mask cls serves att).2.store.journal.durable = s.store.journal.durable := by
  unfold State.startRead
  simp

@[simp] theorem firm_promoteRead (s : State) (rd : Nat) (r : MediaRead) :
    (s.promoteRead rd r).store.media = s.store.media ∧
      (s.promoteRead rd r).store.journal.durable = s.store.journal.durable := by
  unfold State.promoteRead
  simp

@[simp] theorem firm_attach (s : State) (rd : Nat) (r : MediaRead) (a : Attach) :
    (s.attach rd r a).store.media = s.store.media ∧
      (s.attach rd r a).store.journal.durable = s.store.journal.durable := by
  unfold State.attach
  simp

theorem firm_placeUnit (s : State) (x : Slot) (n : Ns) :
    ∀ got, State.placeUnit s x n = some got → got.2.2.2.store.media = s.store.media ∧
      got.2.2.2.store.journal.durable = s.store.journal.durable := by
  intro got h
  unfold State.placeUnit at h
  dsimp only at h
  split at h
  · rename_i hs
    cases h
    split at hs
    · have := firm_placeFirst _ _ _ _ _ _ hs
      dsimp only at this
      simp [this]
    · cases hs
  · split at h
    · rename_i hp
      cases h
      have := firm_placeFirst _ _ _ _ _ _ hp
      dsimp only at this
      split <;> simp [this]
    · cases h

@[simp] theorem firm_counterWait (s : State) (k : Nat) (x : Slot) :
    (s.counterWait k x).store.media = s.store.media ∧
      (s.counterWait k x).store.journal.durable = s.store.journal.durable := by
  unfold State.counterWait
  simp

@[simp] theorem firm_issueProgram (s : State) (k : Nat) (x : Slot) (loc : MapEntry) (record : Bool) :
    (s.issueProgram k x loc record).store.media = s.store.media ∧
      (s.issueProgram k x loc record).store.journal.durable = s.store.journal.durable := by
  unfold State.issueProgram
  simp

@[simp] theorem firm_programSlot (s : State) (k : Nat) :
    (s.programSlot k).store.media = s.store.media ∧
      (s.programSlot k).store.journal.durable = s.store.journal.durable := by
  unfold State.programSlot
  split
  · simp
  · split
    · split
      · simp
      · split
        · simp
        · split
          · simp
          · dsimp only
            split
            · rename_i hp
              have := firm_placeUnit _ _ _ _ hp
              dsimp only at this
              split <;> simp [this]
            · simp
    · simp

@[simp] theorem firm_programRow (s : State) (nsid z v : Nat) :
    (s.programRow nsid z v).store.media = s.store.media ∧
      (s.programRow nsid z v).store.journal.durable = s.store.journal.durable := by
  unfold State.programRow
  split
  · simp
  · dsimp only
    split
    · simp
    · refine foldl_firm _ _ _ fun a u => ?_
      split <;> simp

@[simp] theorem firm_tryRow (s : State) (nsid z v : Nat) :
    (s.tryRow nsid z v).store.media = s.store.media ∧
      (s.tryRow nsid z v).store.journal.durable = s.store.journal.durable := by
  unfold State.tryRow
  (repeat' split) <;> simp

@[simp] theorem firm_stageSlot (s : State) (k : Nat) :
    (s.stageSlot k).store.media = s.store.media ∧
      (s.stageSlot k).store.journal.durable = s.store.journal.durable := by
  unfold State.stageSlot
  (repeat' split) <;> grind [firm_counterWait, firm_issueProgram, → firm_placeFirst, firm_setSlot]

@[simp] theorem firm_pushSlot (s : State) (k : Nat) :
    (s.pushSlot k).store.media = s.store.media ∧
      (s.pushSlot k).store.journal.durable = s.store.journal.durable := by
  unfold State.pushSlot
  (repeat' split) <;> simp

@[simp] theorem firm_dirtyMark (s : State) :
    s.dirtyMark.store.media = s.store.media ∧
      s.dirtyMark.store.journal.durable = s.store.journal.durable := by
  unfold State.dirtyMark
  (repeat' split) <;> simp

@[simp] theorem firm_digestZone (s : State) (nsid z y0 : Nat) :
    (s.digestZone nsid z y0).store.media = s.store.media ∧
      (s.digestZone nsid z y0).store.journal.durable = s.store.journal.durable := by
  induction y0 generalizing s with
  | zero => simp [State.digestZone]
  | succ n ih =>
    unfold State.digestZone
    split
    · simp
    · dsimp only
      split
      · simp
      · split
        · split
          · simp [ih]
          · simp
        · simp

@[simp] theorem firm_digestDone (s : State) (nsid z : Nat) :
    (s.digestDone nsid z).store.media = s.store.media ∧
      (s.digestDone nsid z).store.journal.durable = s.store.journal.durable := by
  simp only [State.digestDone]
  (repeat' split) <;> simp

@[simp] theorem firm_writeUnit (s : State) (f : Func) (stamp nsid u : Nat) (mask : BitVec 4) (handle : Nat)
    (lbas : List LbaData) (metas : List HostMeta) (tag : Option Nat) (bad : Bool) :
    (s.writeUnit f stamp nsid u mask handle lbas metas tag bad).store.media = s.store.media ∧
      (s.writeUnit f stamp nsid u mask handle lbas metas tag bad).store.journal.durable = s.store.journal.durable := by
  simp only [State.writeUnit]
  (repeat' split) <;> simp

@[simp] theorem firm_pushFor (s : State) (c : Ctx) :
    (s.pushFor c).store.media = s.store.media ∧
      (s.pushFor c).store.journal.durable = s.store.journal.durable := by
  unfold State.pushFor
  simp

@[simp] theorem firm_copyOut (s : State) (c : Ctx) :
    (s.copyOut c).store.media = s.store.media ∧
      (s.copyOut c).store.journal.durable = s.store.journal.durable := by
  unfold State.copyOut
  (repeat' split) <;> simp

@[simp] theorem firm_settleCtx (s : State) (h : Hdr) :
    (s.settleCtx h).store.media = s.store.media ∧
      (s.settleCtx h).store.journal.durable = s.store.journal.durable := by
  unfold State.settleCtx
  (repeat' split) <;> simp

@[simp] theorem firm_settleWait (s : State) (h : Hdr) :
    (s.settleWait h).store.media = s.store.media ∧
      (s.settleWait h).store.journal.durable = s.store.journal.durable := by
  unfold State.settleWait
  (repeat' split) <;> simp

@[simp] theorem firm_settleDurable (s : State) :
    s.settleDurable.store.media = s.store.media ∧
      s.settleDurable.store.journal.durable = s.store.journal.durable := by
  unfold State.settleDurable
  simp

@[simp] theorem firm_startAround (s : State) (rd : Nat) (r : MediaRead) (t : Stripe) (m plane page : Nat) :
    (s.startAround rd r t m plane page).store.media = s.store.media ∧
      (s.startAround rd r t m plane page).store.journal.durable = s.store.journal.durable := by
  unfold State.startAround
  simp

@[simp] theorem firm_busyPath (s : State) (rd : Nat) :
    (s.busyPath rd).store.media = s.store.media ∧
      (s.busyPath rd).store.journal.durable = s.store.journal.durable := by
  simp only [State.busyPath]
  (repeat' split) <;> simp

theorem firm_admitRead (s : State) (c : Ctx) (k : Chunk) (step3 : Bool) :
    ∀ got, State.admitRead s c k step3 = some got → got.store.media = s.store.media ∧
      got.store.journal.durable = s.store.journal.durable := by
  intro got h
  unfold State.admitRead at h
  dsimp only at h
  split at h
  · split at h <;> simp only [if_true, if_false, Bool.false_eq_true] at h
    · cases h
      split <;> simp
    all_goals
      obtain ⟨a, ha, rfl⟩ := Option.map_eq_some_iff.mp h
      have := state_pay_some _ _ _ _ _ _ ha
      split <;> simp [this]
  · split at h
    · cases h
      split <;> simp
    · obtain ⟨a, ha, rfl⟩ := Option.map_eq_some_iff.mp h
      have := state_pay_some _ _ _ _ _ _ ha
      split <;> simp [this]

theorem firm_admitWrite (s : State) (c : Ctx) (k : Chunk) (step3 : Bool) :
    ∀ got, State.admitWrite s c k step3 = some got → got.store.media = s.store.media ∧
      got.store.journal.durable = s.store.journal.durable := by
  intro got h
  unfold State.admitWrite at h
  split at h
  · obtain ⟨a, ha, rfl⟩ := Option.map_eq_some_iff.mp h
    have := state_pay_some _ _ _ _ _ _ ha
    simp [this]
  · cases h

@[simp] theorem firm_startPiece (s : State) (c : Ctx) (nsid : Nat) (p : Nat × BitVec 4 × Nat) :
    (s.startPiece c nsid p).store.media = s.store.media ∧
      (s.startPiece c nsid p).store.journal.durable = s.store.journal.durable := by
  unfold State.startPiece
  simp

theorem firm_admitCopy (s : State) (c : Ctx) (k : Chunk) (step3 : Bool) :
    ∀ got, State.admitCopy s c k step3 = some got → got.store.media = s.store.media ∧
      got.store.journal.durable = s.store.journal.durable := by
  intro got h
  unfold State.admitCopy at h
  split at h
  · cases hp : s.pay c.hdr.fn .copy k.charge step3 with
    | none => rw [hp] at h; cases h
    | some s1 =>
      rw [hp] at h
      cases h
      have := state_pay_some _ _ _ _ _ _ hp
      simp [this]
  · cases h

theorem firm_admitNext (s : State) (h : Hdr) (step3 : Bool) :
    ∀ got, State.admitNext s h step3 = some got → got.store.media = s.store.media ∧
      got.store.journal.durable = s.store.journal.durable := by
  intro got h
  unfold State.admitNext at h
  split at h
  · cases h
  · split at h
    · dsimp only at h
      obtain ⟨a, ha, rfl⟩ := Option.map_eq_some_iff.mp h
      split at ha
      · cases ha
      · split at ha
        · split at ha
          · cases ha
          · have := firm_admitRead _ _ _ _ _ ha
            split <;> simp [this]
        · have := firm_admitWrite _ _ _ _ _ ha
          split <;> simp [this]
        · have := firm_admitCopy _ _ _ _ _ ha
          split <;> simp [this]
    · cases h

@[simp] theorem firm_admitMany (s : State) (h : Hdr) (step3 : Bool) (y0 : Nat) :
    (s.admitMany h step3 y0).store.media = s.store.media ∧
      (s.admitMany h step3 y0).store.journal.durable = s.store.journal.durable := by
  induction y0 generalizing s h step3 <;> (unfold State.admitMany; grind [→ firm_admitNext])

@[simp] theorem firm_admitFor (s : State) (h : Hdr) (step3 : Bool) :
    (s.admitFor h step3).store.media = s.store.media ∧
      (s.admitFor h step3).store.journal.durable = s.store.journal.durable := by
  unfold State.admitFor
  simp

@[simp] theorem firm_zoneTo (s : State) (nsid z : Nat) (g : Zone → Zone) :
    (s.zoneTo nsid z g).store.media = s.store.media ∧
      (s.zoneTo nsid z g).store.journal.durable = s.store.journal.durable := by
  unfold State.zoneTo
  (repeat' split) <;> simp

@[simp] theorem firm_spoilDigest (s : State) (nsid z cause : Nat) :
    (s.spoilDigest nsid z cause).store.media = s.store.media ∧
      (s.spoilDigest nsid z cause).store.journal.durable = s.store.journal.durable := by
  unfold State.spoilDigest
  (repeat' split) <;> simp

@[simp] theorem firm_makeRoom (s : State) (nsid : Nat) (n : Ns) :
    (s.makeRoom nsid n).store.media = s.store.media ∧
      (s.makeRoom nsid n).store.journal.durable = s.store.journal.durable := by
  unfold State.makeRoom
  (repeat' split) <;> simp

theorem firm_openable (s : State) (nsid : Nat) (y : Zone) :
    ∀ got, State.openable s nsid y = .ok got → got.store.media = s.store.media ∧
      got.store.journal.durable = s.store.journal.durable := by
  intro got h
  unfold State.openable at h
  (repeat' split at h) <;> cases h <;> simp

theorem firm_zoneStripe (s : State) (nsid z : Nat) (n : Ns) :
    ∀ got, State.zoneStripe s nsid z n = .ok got → got.store.media = s.store.media ∧
      got.store.journal.durable = s.store.journal.durable := by
  intro got h
  unfold State.zoneStripe at h
  split at h
  · cases h; simp
  · dsimp only at h
    split at h
    · cases h
    · rename_i hf
      obtain ⟨g, hg⟩ := foldl_or_some _ _ hf
      have := firm_openStripe _ _ _ _ _ _ hg
      cases h
      dsimp only at this
      simp [this]

theorem firm_openZone (s : State) (nsid z : Nat) (st : ZState) :
    ∀ got, State.openZone s nsid z st = .ok got → got.store.media = s.store.media ∧
      got.store.journal.durable = s.store.journal.durable := by
  intro got h
  unfold State.openZone at h
  split at h
  · cases h
  · split at h
    · cases h
    · rename_i ho
      have := firm_openable _ _ _ _ ho
      cases h
      simp [this]

theorem firm_assignWrite (s : State) (nsid z n : Nat) (at_ : Option Nat) :
    ∀ got, State.assignWrite s nsid z n at_ = .ok got → got.2.store.media = s.store.media ∧
      got.2.store.journal.durable = s.store.journal.durable := by
  intro got h
  unfold State.assignWrite at h
  split at h
  · cases h
  · dsimp only at h
    split at h
    · cases h
    · split at h
      · cases h
      · split at h
        · cases h
        · split at h
          · cases h
          · rename_i s1 ho
            split at h
            · cases h
            · rename_i hz
              have h2 := firm_zoneStripe _ _ _ _ _ hz
              cases h
              split at ho
              · cases ho
                simp [h2]
              · have h1 := firm_openZone _ _ _ _ _ ho
                simp [h2, h1]

@[simp] theorem firm_goRead (s : State) (h : Hdr) (a : ReadArgs) (purpose : Purpose) :
    (s.goRead h a purpose).store.media = s.store.media ∧
      (s.goRead h a purpose).store.journal.durable = s.store.journal.durable := by
  unfold State.goRead
  dsimp only
  split
  · simp
  · split
    · simp
    · cases State.ctx? _ h <;> simp

@[simp] theorem firm_goChunks (s : State) (h : Hdr) (a : WriteArgs) (slba dw0 dw1 : Nat) :
    (s.goChunks h a slba dw0 dw1).store.media = s.store.media ∧
      (s.goChunks h a slba dw0 dw1).store.journal.durable = s.store.journal.durable := by
  unfold State.goChunks
  simp

@[simp] theorem firm_goWrite (s : State) (h : Hdr) (a : WriteArgs) :
    (s.goWrite h a).store.media = s.store.media ∧
      (s.goWrite h a).store.journal.durable = s.store.journal.durable := by
  unfold State.goWrite
  (repeat' split) <;> grind [→ firm_assignWrite, state_finish_frame, firm_goChunks]

@[simp] theorem firm_assignAppend (s : State) (h : Hdr) (a : WriteArgs) :
    (s.assignAppend h a).store.media = s.store.media ∧
      (s.assignAppend h a).store.journal.durable = s.store.journal.durable := by
  unfold State.assignAppend
  (repeat' split) <;> grind [→ firm_assignWrite, state_finish_frame, firm_goChunks]

@[simp] theorem firm_goAppend (s : State) (h : Hdr) (a : WriteArgs) :
    (s.goAppend h a).store.media = s.store.media ∧
      (s.goAppend h a).store.journal.durable = s.store.journal.durable := by
  unfold State.goAppend
  simp

@[simp] theorem firm_clearUnit (s : State) (nsid u : Nat) (e : MapEntry) :
    (s.clearUnit nsid u e).store.media = s.store.media ∧
      (s.clearUnit nsid u e).store.journal.durable = s.store.journal.durable := by
  unfold State.clearUnit
  (repeat' split) <;> simp

@[simp] theorem firm_blankUnits (s : State) (f : Func) (stamp nsid slba n : Nat) (uncorr : Bool) :
    (s.blankUnits f stamp nsid slba n uncorr).store.media = s.store.media ∧
      (s.blankUnits f stamp nsid slba n uncorr).store.journal.durable = s.store.journal.durable := by
  simp only [State.blankUnits]
  (repeat' split) <;> simp

@[simp] theorem firm_blankZone (s : State) (h : Hdr) (nsid slba n : Nat) (uncorr : Bool) (x : Ns) :
    (s.blankZone h nsid slba n uncorr x).store.media = s.store.media ∧
      (s.blankZone h nsid slba n uncorr x).store.journal.durable = s.store.journal.durable := by
  unfold State.blankZone
  dsimp only
  split
  · simp
  · rename_i hs
    have := firm_assignWrite _ _ _ _ _ _ hs
    dsimp only at this
    split <;> simp [this]

@[simp] theorem firm_goBlank (s : State) (h : Hdr) (r : Range) (uncorr : Bool) :
    (s.goBlank h r uncorr).store.media = s.store.media ∧
      (s.goBlank h r uncorr).store.journal.durable = s.store.journal.durable := by
  unfold State.goBlank
  (repeat' split) <;> simp

@[simp] theorem firm_deallocate (s : State) (nsid slba n : Nat) :
    (s.deallocate nsid slba n).store.media = s.store.media ∧
      (s.deallocate nsid slba n).store.journal.durable = s.store.journal.durable := by
  simp only [State.deallocate]
  (repeat' split) <;> simp

@[simp] theorem firm_goDsm (s : State) (h : Hdr) (nsid : Nat) (dealloc : Bool) (ranges : List Range) :
    (s.goDsm h nsid dealloc ranges).store.media = s.store.media ∧
      (s.goDsm h nsid dealloc ranges).store.journal.durable = s.store.journal.durable := by
  unfold State.goDsm
  simp

@[simp] theorem firm_goCopy (s : State) (h : Hdr) (a : CopyArgs) :
    (s.goCopy h a).store.media = s.store.media ∧
      (s.goCopy h a).store.journal.durable = s.store.journal.durable := by
  unfold State.goCopy
  split
  · simp
  · dsimp only
    split
    · simp
    · rename_i x _ _ s1 hs
      split at hs
      · cases ha : s.assignWrite a.nsid (a.sdlba / s.zsze x.width) (copyLen a.ranges) (some (a.sdlba % s.zsze x.width)) with
        | error e => rw [ha] at hs; cases hs
        | ok v =>
          rw [ha] at hs
          cases hs
          have := firm_assignWrite _ _ _ _ _ _ ha
          simp [this]
      · cases hs
        simp

@[simp] theorem firm_resume (s : State) (h : Hdr) (y0 : Instr) :
    (s.resume h y0).store.media = s.store.media ∧
      (s.resume h y0).store.journal.durable = s.store.journal.durable := by
  unfold State.resume
  (repeat' split) <;> simp

@[simp] theorem firm_wakeOrdered (s : State) (c : Ctx) :
    (s.wakeOrdered c).store.media = s.store.media ∧
      (s.wakeOrdered c).store.journal.durable = s.store.journal.durable := by
  unfold State.wakeOrdered
  (repeat' split) <;> simp

@[simp] theorem firm_wakeAll (s : State) :
    s.wakeAll.store.media = s.store.media ∧
      s.wakeAll.store.journal.durable = s.store.journal.durable := by
  unfold State.wakeAll
  simp

@[simp] theorem firm_giveUpStripe (s : State) (id : Nat) (secure : Bool) :
    (s.giveUpStripe id secure).store.media = s.store.media ∧
      (s.giveUpStripe id secure).store.journal.durable = s.store.journal.durable := by
  unfold State.giveUpStripe
  (repeat' split) <;> simp

@[simp] theorem firm_clearZone (s : State) (nsid z : Nat) (secure : Bool) (y : Zone → Zone) :
    (s.clearZone nsid z secure y).store.media = s.store.media ∧
      (s.clearZone nsid z secure y).store.journal.durable = s.store.journal.durable := by
  simp only [State.clearZone]
  (repeat' split) <;> simp

@[simp] theorem firm_emptyZone (s : State) (nsid z : Nat) (st : ZState) (epoch : Nat) (secure : Bool) :
    (s.emptyZone nsid z st epoch secure).store.media = s.store.media ∧
      (s.emptyZone nsid z st epoch secure).store.journal.durable = s.store.journal.durable := by
  simp [State.emptyZone]

theorem firm_explicitOpen (s : State) (nsid z : Nat) (y : Zone) :
    ∀ got, State.explicitOpen s nsid z y = .ok got → got.store.media = s.store.media ∧
      got.store.journal.durable = s.store.journal.durable := by
  intro got h
  unfold State.explicitOpen at h
  cases state : y.state <;> simp only [state] at h
  case empty => exact firm_openZone _ _ _ _ _ h
  case closed => exact firm_openZone _ _ _ _ _ h
  all_goals cases h
  all_goals simp

@[simp] theorem firm_secureZone (s : State) (nsid z : Nat) (n : Ns) (y : Zone) :
    (s.secureZone nsid z n y).store.media = s.store.media ∧
      (s.secureZone nsid z n y).store.journal.durable = s.store.journal.durable := by
  unfold State.secureZone
  simp

@[simp] theorem firm_readmit (s : State) :
    s.readmit.store.media = s.store.media ∧
      s.readmit.store.journal.durable = s.store.journal.durable := by
  unfold State.readmit
  simp

@[simp] theorem firm_writeEpochs (s : State) (h : Hdr) (nsid : Nat) :
    (s.writeEpochs h nsid).store.media = s.store.media ∧
      (s.writeEpochs h nsid).store.journal.durable = s.store.journal.durable := by
  unfold State.writeEpochs
  split
  · simp
  · dsimp only
    split
    · simp
    · refine firm_trans (firm_trans ?_ (foldl_firm _ _ _ fun a e => ?_)) (firm_closePage _)
      · simp
      · split <;> simp

@[simp] theorem firm_goReset (s : State) (h : Hdr) (nsid slba : Nat) (all : Bool) :
    (s.goReset h nsid slba all).store.media = s.store.media ∧
      (s.goReset h nsid slba all).store.journal.durable = s.store.journal.durable := by
  unfold State.goReset
  (repeat' split) <;> simp

@[simp] theorem firm_releaseHeld (s : State) :
    s.releaseHeld.store.media = s.store.media ∧
      s.releaseHeld.store.journal.durable = s.store.journal.durable := by
  unfold State.releaseHeld
  refine foldl_firm _ _ _ fun a c => ?_
  split <;> simp

@[simp] theorem firm_settleReset (s : State) (h : Hdr) (nsid : Nat) :
    (s.settleReset h nsid).store.media = s.store.media ∧
      (s.settleReset h nsid).store.journal.durable = s.store.journal.durable := by
  unfold State.settleReset
  split
  · simp
  · dsimp only
    split
    · simp
    · split
      · simp
      · split
        · simp only [state_finish_frame, firm_readmit, firm_releaseHeld]
          refine foldl_firm _ _ _ fun a e => ?_
          split <;> simp
        · simp

@[simp] theorem firm_settleResets (s : State) :
    s.settleResets.store.media = s.store.media ∧
      s.settleResets.store.journal.durable = s.store.journal.durable := by
  unfold State.settleResets
  simp

@[simp] theorem firm_releaseSlots (s : State) :
    s.releaseSlots.store.media = s.store.media ∧
      s.releaseSlots.store.journal.durable = s.store.journal.durable := by
  unfold State.releaseSlots
  simp

@[simp] theorem firm_settleAll (s : State) :
    s.settleAll.store.media = s.store.media ∧
      s.settleAll.store.journal.durable = s.store.journal.durable := by
  unfold State.settleAll
  simp

end Sys2Proof.Machine
end


section
/-! What the writes that READ-ONLY ends leave of its cause and of the mode changes that wait (R202, R369) -/
namespace Sys2Proof.Machine

/-- Where the cause of READ-ONLY is held. -/
def roKey : Nat := Obj.roCause.key 0 0

section
variable {s t : State}

theorem State.roCause_eq (same : Tbl.find t.dict.force roKey = Tbl.find s.dict.force roKey) : t.cfg Obj.roCause = s.cfg Obj.roCause :=
  congrArg (Option.getD · (Obj.roCause.default 0 0)) same

theorem State.force_keep {r : ObjRow} {v i j k : Nat} (apart : k ≠ r.key i j) :
    Tbl.find (s.keep r v i j).dict.force k = Tbl.find s.dict.force k := by
  by_cases same : v = r.default i j
  · simp [State.keep, same, Tbl.find_del_ne _ apart]
  · simp [State.keep, same, Tbl.find_put_ne _ _ apart]

theorem State.force_bump {r : ObjRow} {n i j k : Nat} (apart : k ≠ r.key i j) :
    Tbl.find (s.bump r n i j).dict.force k = Tbl.find s.dict.force k := State.force_keep apart

@[simp] theorem State.force_bump_sdPending :
    Tbl.find (s.bump Obj.sdPending).dict.force roKey = Tbl.find s.dict.force roKey := State.force_bump (by decide)

@[simp] theorem State.force_bump_ctrWaits :
    Tbl.find (s.bump Obj.ctrWaits).dict.force roKey = Tbl.find s.dict.force roKey := State.force_bump (by decide)

@[simp] theorem State.force_bump_stagingBypass :
    Tbl.find (s.bump Obj.stagingBypass).dict.force roKey = Tbl.find s.dict.force roKey := State.force_bump (by decide)

@[simp] theorem State.force_bump_fillReads :
    Tbl.find (s.bump Obj.fillReads).dict.force roKey = Tbl.find s.dict.force roKey := State.force_bump (by decide)

@[simp] theorem State.force_bump_urgentWaits :
    Tbl.find (s.bump Obj.urgentWaits).dict.force roKey = Tbl.find s.dict.force roKey := State.force_bump (by decide)

@[simp] theorem State.force_bump_zoneDigestBytes :
    Tbl.find (s.bump Obj.zoneDigestBytes 4096).dict.force roKey = Tbl.find s.dict.force roKey := State.force_bump (by decide)

@[simp] theorem State.force_bump_dropped :
    Tbl.find (s.bump Obj.dropped).dict.force roKey = Tbl.find s.dict.force roKey := State.force_bump (by decide)

@[simp] theorem State.force_bump_suppressed :
    Tbl.find (s.bump Obj.suppressedTotal).dict.force roKey = Tbl.find s.dict.force roKey := State.force_bump (by decide)

@[simp] theorem calm_enter (r : Rec) : (s.enter r).sampler.waiting = s.sampler.waiting ∧
    Tbl.find (s.enter r).dict.force roKey = Tbl.find s.dict.force roKey := by
  unfold State.enter
  dsimp only
  (repeat' split) <;> simp

@[simp] theorem calm_record (code : Nat) (params : List Nat) (subject domain : Nat) :
    (s.record code params subject domain).sampler.waiting = s.sampler.waiting ∧
      Tbl.find (s.record code params subject domain).dict.force roKey = Tbl.find s.dict.force roKey := by
  have bucket (c : Nat) (b : Bucket) : (s.setBucket c b).sampler.waiting = s.sampler.waiting := rfl
  unfold State.record
  dsimp only
  (repeat' split) <;> simp [bucket]

end

section folds
variable {α : Type}

@[simp] theorem ite_waiting {c : Prop} [Decidable c] (a b : Sampler) :
    (if c then a else b).waiting = if c then a.waiting else b.waiting := by split <;> rfl

@[simp] theorem find_ite_force {c : Prop} [Decidable c] (a b : Dict) (k : Nat) :
    Tbl.find (if c then a else b).force k = if c then Tbl.find a.force k else Tbl.find b.force k := by split <;> rfl

@[simp] theorem foldl_waiting (g : State → α → State) (l : List α) (s : State) (h : ∀ a e, (g a e).sampler.waiting = a.sampler.waiting) :
    (l.foldl g s).sampler.waiting = s.sampler.waiting := foldl_keeps (fun a : State => a.sampler.waiting) h l s

@[simp] theorem foldl_roKey (g : State → α → State) (l : List α) (s : State)
    (h : ∀ a e, Tbl.find (g a e).dict.force roKey = Tbl.find a.dict.force roKey) :
    Tbl.find (l.foldl g s).dict.force roKey = Tbl.find s.dict.force roKey :=
  foldl_keeps (fun a : State => Tbl.find a.dict.force roKey) h l s

theorem foldl_calm (g : State → α → State) (l : List α) (s : State) (h : ∀ a e, (g a e).sampler.waiting = a.sampler.waiting ∧
    Tbl.find (g a e).dict.force roKey = Tbl.find a.dict.force roKey) : (l.foldl g s).sampler.waiting = s.sampler.waiting ∧
    Tbl.find (l.foldl g s).dict.force roKey = Tbl.find s.dict.force roKey :=
  ⟨foldl_waiting g l s fun a e => (h a e).1, foldl_roKey g l s fun a e => (h a e).2⟩

end folds

@[simp] theorem calm_superseded (s : State) (x : Ns) (old : MapEntry) :
    (s.superseded x old).sampler.waiting = s.sampler.waiting ∧
      Tbl.find (s.superseded x old).dict.force roKey = Tbl.find s.dict.force roKey := by
  unfold State.superseded
  (repeat' split) <;> simp

@[simp] theorem calm_setUnit (s : State) (nsid u : Nat) (e : MapEntry) :
    (s.setUnit nsid u e).sampler.waiting = s.sampler.waiting ∧
      Tbl.find (s.setUnit nsid u e).dict.force roKey = Tbl.find s.dict.force roKey := by
  unfold State.setUnit
  (repeat' split) <;> simp

@[simp] theorem calm_takeSlot (s : State) (nsid u handle : Nat) :
    (s.takeSlot nsid u handle).2.sampler.waiting = s.sampler.waiting ∧
      Tbl.find (s.takeSlot nsid u handle).2.dict.force roKey = Tbl.find s.dict.force roKey := by
  unfold State.takeSlot
  (repeat' split) <;> simp

@[simp] theorem calm_counterWait (s : State) (k : Nat) (x : Slot) :
    (s.counterWait k x).sampler.waiting = s.sampler.waiting ∧
      Tbl.find (s.counterWait k x).dict.force roKey = Tbl.find s.dict.force roKey := by
  unfold State.counterWait
  simp

theorem calm_placeUnit (s : State) (x : Slot) (n : Ns) :
    ∀ got, State.placeUnit s x n = some got → got.2.2.2.sampler.waiting = s.sampler.waiting ∧
      Tbl.find got.2.2.2.dict.force roKey = Tbl.find s.dict.force roKey := by
  intro got h
  unfold State.placeUnit at h
  dsimp only at h
  split at h
  · rename_i hs
    cases h
    split at hs
    · have := state_placeFirst_some _ _ _ _ _ _ hs
      dsimp only at this
      simp [this]
    · cases hs
  · split at h
    · rename_i hp
      cases h
      have := state_placeFirst_some _ _ _ _ _ _ hp
      dsimp only at this
      split <;> simp [this]
    · cases h

@[simp] theorem calm_takeCounter (s : State) (x : Slot) :
    (s.takeCounter x).2.sampler.waiting = s.sampler.waiting ∧
      Tbl.find (s.takeCounter x).2.dict.force roKey = Tbl.find s.dict.force roKey := by
  unfold State.takeCounter
  (repeat' split) <;> simp

@[simp] theorem calm_issueProgram (s : State) (k : Nat) (x : Slot) (loc : MapEntry) (record : Bool) :
    (s.issueProgram k x loc record).sampler.waiting = s.sampler.waiting ∧
      Tbl.find (s.issueProgram k x loc record).dict.force roKey = Tbl.find s.dict.force roKey := by
  unfold State.issueProgram
  simp

@[simp] theorem calm_programSlot (s : State) (k : Nat) :
    (s.programSlot k).sampler.waiting = s.sampler.waiting ∧
      Tbl.find (s.programSlot k).dict.force roKey = Tbl.find s.dict.force roKey := by
  unfold State.programSlot
  split
  · simp
  · split
    · split
      · simp
      · split
        · simp
        · split
          · simp
          · dsimp only
            split
            · rename_i hp
              have := calm_placeUnit _ _ _ _ hp
              dsimp only at this
              split <;> simp [this]
            · simp
    · simp

@[simp] theorem calm_programRow (s : State) (nsid z v : Nat) :
    (s.programRow nsid z v).sampler.waiting = s.sampler.waiting ∧
      Tbl.find (s.programRow nsid z v).dict.force roKey = Tbl.find s.dict.force roKey := by
  unfold State.programRow
  split
  · simp
  · dsimp only
    split
    · simp
    · refine foldl_calm _ _ _ fun a u => ?_
      split <;> simp

@[simp] theorem calm_tryRow (s : State) (nsid z v : Nat) :
    (s.tryRow nsid z v).sampler.waiting = s.sampler.waiting ∧
      Tbl.find (s.tryRow nsid z v).dict.force roKey = Tbl.find s.dict.force roKey := by
  unfold State.tryRow
  (repeat' split) <;> simp

@[simp] theorem calm_stageSlot (s : State) (k : Nat) :
    (s.stageSlot k).sampler.waiting = s.sampler.waiting ∧
      Tbl.find (s.stageSlot k).dict.force roKey = Tbl.find s.dict.force roKey := by
  unfold State.stageSlot
  (repeat' split) <;> grind [calm_counterWait, calm_issueProgram, → state_placeFirst_some, state_setSlot_frame]

@[simp] theorem calm_pushSlot (s : State) (k : Nat) :
    (s.pushSlot k).sampler.waiting = s.sampler.waiting ∧
      Tbl.find (s.pushSlot k).dict.force roKey = Tbl.find s.dict.force roKey := by
  unfold State.pushSlot
  (repeat' split) <;> simp

@[simp] theorem calm_dirtyMark (s : State) :
    s.dirtyMark.sampler.waiting = s.sampler.waiting ∧
      Tbl.find s.dirtyMark.dict.force roKey = Tbl.find s.dict.force roKey := by
  unfold State.dirtyMark
  (repeat' split) <;> simp

@[simp] theorem calm_digestZone (s : State) (nsid z y0 : Nat) :
    (s.digestZone nsid z y0).sampler.waiting = s.sampler.waiting ∧
      Tbl.find (s.digestZone nsid z y0).dict.force roKey = Tbl.find s.dict.force roKey := by
  induction y0 generalizing s with
  | zero => simp [State.digestZone]
  | succ n ih =>
    unfold State.digestZone
    split
    · simp
    · dsimp only
      split
      · simp
      · split
        · split
          · simp [ih]
          · simp
        · simp

@[simp] theorem calm_writeUnit (s : State) (f : Func) (stamp nsid u : Nat) (mask : BitVec 4) (handle : Nat)
    (lbas : List LbaData) (metas : List HostMeta) (tag : Option Nat) (bad : Bool) :
    (s.writeUnit f stamp nsid u mask handle lbas metas tag bad).sampler.waiting = s.sampler.waiting ∧
      Tbl.find (s.writeUnit f stamp nsid u mask handle lbas metas tag bad).dict.force roKey = Tbl.find s.dict.force roKey := by
  simp only [State.writeUnit]
  (repeat' split) <;> simp

@[simp] theorem calm_pushFor (s : State) (c : Ctx) :
    (s.pushFor c).sampler.waiting = s.sampler.waiting ∧
      Tbl.find (s.pushFor c).dict.force roKey = Tbl.find s.dict.force roKey := by
  unfold State.pushFor
  simp

@[simp] theorem calm_copyOut (s : State) (c : Ctx) :
    (s.copyOut c).sampler.waiting = s.sampler.waiting ∧
      Tbl.find (s.copyOut c).dict.force roKey = Tbl.find s.dict.force roKey := by
  unfold State.copyOut
  (repeat' split) <;> simp

@[simp] theorem calm_settleCtx (s : State) (h : Hdr) :
    (s.settleCtx h).sampler.waiting = s.sampler.waiting ∧
      Tbl.find (s.settleCtx h).dict.force roKey = Tbl.find s.dict.force roKey := by
  unfold State.settleCtx
  (repeat' split) <;> simp

@[simp] theorem calm_sweepReadOnly (s : State) :
    s.sweepReadOnly.sampler.waiting = s.sampler.waiting ∧
      Tbl.find s.sweepReadOnly.dict.force roKey = Tbl.find s.dict.force roKey := by
  unfold State.sweepReadOnly
  refine foldl_calm _ _ _ fun a c => ?_
  split <;> simp

end Sys2Proof.Machine
end


section
/-! Journal pages become durable in order (R52, R186 to R190, R202) -/
namespace Sys2Proof.Machine

section
variable {s : State}

/-! ### The open page closes (R188) -/

@[simp] theorem State.useSystem_journal (m : Nat × Nat) : (s.useSystem m).store.journal = s.store.journal := rfl

/-- A closed page's copies join their queues, and the journal is what it was. -/
theorem foldl_place_journal (places : List ((Nat × Nat) × Nat)) (n : Nat) :
    (places.foldl (fun a e => (a.useSystem e.1).enqueue e.1.1 (.progSys n e.2) .sys e.1.2 true) s).store.journal = s.store.journal :=
  foldl_keeps (fun a : State => a.store.journal) (fun a e => by simp) places s

theorem State.closePage_closes (recs : s.store.journal.recs ≠ []) : ∃ p : JPage,
    s.closePage.store.journal.pages = s.store.journal.pages ++ [p] ∧ p.seq = s.store.journal.next ∧
    p.recs = s.store.journal.recs ∧ p.copies = 0 ∧ s.closePage.store.journal.next = s.store.journal.next + 1 ∧
    s.closePage.store.journal.recs = [] := by
  unfold State.closePage
  dsimp only
  rw [if_neg recs, foldl_place_journal]
  exact ⟨_, rfl, rfl, rfl, rfl, rfl, rfl⟩

theorem State.closePage_pages {p : JPage} (mem : p ∈ s.store.journal.pages) : p ∈ s.closePage.store.journal.pages := by
  by_cases recs : s.store.journal.recs = []
  · rw [State.closePage, if_pos recs]
    exact mem
  · obtain ⟨q, pages, -⟩ := State.closePage_closes recs
    rw [pages]
    exact List.mem_append_left _ mem

theorem State.journal_pages {p : JPage} (mem : p ∈ s.store.journal.pages) (r : JRec) :
    p ∈ (s.journal r).store.journal.pages := by
  unfold State.journal
  dsimp only
  split
  · exact State.closePage_pages mem
  · exact mem

/-- Copies of segments, and the segments that have changed, are not of what a closed page changes. -/
theorem State.closePage_segments : s.closePage.store.journal.copies = s.store.journal.copies ∧
    s.closePage.store.journal.changed = s.store.journal.changed := by
  unfold State.closePage
  dsimp only
  split
  · exact ⟨rfl, rfl⟩
  · rw [foldl_place_journal]
    exact ⟨rfl, rfl⟩

theorem State.journal_segments (r : JRec) : (s.journal r).store.journal.copies = s.store.journal.copies ∧
    (s.journal r).store.journal.changed = s.store.journal.changed := by
  unfold State.journal
  dsimp only
  split
  · exact State.closePage_segments
  · exact ⟨rfl, rfl⟩

theorem execJournalTimerExpiry_closes {t : Nat} (recs : s.store.journal.recs ≠ [])
    (due : 1000 * s.cfg Obj.journalTimerUs ≤ max s.now t - s.store.journal.since) :
    ∃ u p, exec (.journalTimerExpiry t) s = .next u ∧ u.store.journal.pages = s.store.journal.pages ++ [p] ∧
      p.seq = s.store.journal.next ∧ p.recs = s.store.journal.recs ∧ p.copies = 0 ∧
      u.store.journal.next = s.store.journal.next + 1 ∧ u.store.journal.recs = [] ∧
      u.store.journal.durable = s.store.journal.durable := by
  have ran : exec (.journalTimerExpiry t) s = .next (s.tick t).closePage :=
    if_pos (by rw [Nat.mul_comm]; exact due)
  obtain ⟨p, pages, seq, holds, copies, next, empty⟩ := State.closePage_closes (s := s.tick t) recs
  exact ⟨_, p, ran, pages, seq, holds, copies, next, empty, (firm_closePage _).2⟩

/-! ### Pages become durable (R188) -/

theorem Journal.advance_stays {j : Journal} (waits : ∀ p ∈ j.pages, p.seq = j.durable → p.copies < 2) (fuel : Nat) :
    j.advance fuel = j := by
  cases fuel with
  | zero => rfl
  | succ fuel =>
    rw [Journal.advance, if_neg]
    rw [List.any_eq_true]
    rintro ⟨p, mem, due⟩
    simp only [Bool.and_eq_true, decide_eq_true_eq] at due
    exact absurd (waits p mem due.1) (by omega)

theorem Journal.advance_grows (fuel : Nat) (j : Journal) : j.durable ≤ (j.advance fuel).durable := by
  induction fuel generalizing j with
  | zero => exact Nat.le_refl _
  | succ fuel ih =>
    rw [Journal.advance]
    split
    · exact Nat.le_trans (Nat.le_succ j.durable) (ih { j with durable := j.durable + 1 })
    · exact Nat.le_refl _

theorem Journal.advance_passes {j : Journal} {p : JPage} (mem : p ∈ j.pages) (seq : p.seq = j.durable) (both : 2 ≤ p.copies) :
    j.durable < (j.advance j.pages.length).durable := by
  cases length : j.pages.length with
  | zero => simp [List.length_eq_zero_iff.1 length] at mem
  | succ fuel =>
    rw [Journal.advance, if_pos (List.any_eq_true.2 ⟨p, mem, by simp [seq, both]⟩)]
    exact Journal.advance_grows fuel { j with durable := j.durable + 1 }

/-- A page with both copies programmed. -/
def JPage.programmed (p : JPage) (n : Nat) : JPage := if p.seq = n && !p.stuck then { p with copies := 2 } else p

@[simp] theorem JPage.programmed_seq (p : JPage) (n : Nat) : (p.programmed n).seq = p.seq := by
  unfold JPage.programmed
  split <;> rfl

/-- A journal that knows both copies of a page to be programmed. -/
def Journal.programmed (j : Journal) (n : Nat) : Journal := { j with pages := j.pages.map fun p => p.programmed n }

theorem execJournalPageDurable_waits {n : Nat}
    (waits : ∀ p ∈ s.store.journal.pages, p.seq = s.store.journal.durable → p.copies < 2 ∧ (p.seq ≠ n ∨ p.stuck = true)) :
    ∃ u, exec (.journalPageDurable n) s = .next u ∧ u.store.journal.durable = s.store.journal.durable ∧
      u.host = s.host ∧ u.store.ns = s.store.ns := by
  have stays (fuel : Nat) : (s.store.journal.programmed n).advance fuel = s.store.journal.programmed n := by
    refine Journal.advance_stays (fun p mem seq => ?_) fuel
    obtain ⟨q, held, rfl⟩ := List.mem_map.1 mem
    rw [JPage.programmed_seq] at seq
    obtain ⟨few, other⟩ := waits q held seq
    have not_ : ¬ ((q.seq = n && !q.stuck) = true) := by
      rcases other with other | lost
      · simp [other]
      · simp [lost]
    rw [JPage.programmed, if_neg not_]
    exact few
  have ran : exec (.journalPageDurable n) s = .next (s.setJournal (s.store.journal.programmed n)) := by
    show execJournalPageDurable n s = _
    unfold execJournalPageDurable
    extract_lets j pages j1
    have j1_is : j1 = s.store.journal.programmed n := stays _
    rw [j1_is]
    exact if_pos rfl
  exact ⟨_, ran, rfl, rfl, rfl⟩

theorem State.journalEffects_journal (p : JPage) : (s.journalEffects p).store.journal = s.store.journal := by
  simp [State.journalEffects]

theorem execJournalPageDurable_passes {n : Nat} {p : JPage} (mem : p ∈ s.store.journal.pages) (seq : p.seq = n)
    (writes : p.stuck = false) (next : n = s.store.journal.durable) :
    ∃ u, exec (.journalPageDurable n) s = .next u ∧ n < u.store.journal.durable := by
  have passes : s.store.journal.durable
      < ((s.store.journal.programmed n).advance (s.store.journal.programmed n).pages.length).durable := by
    refine Journal.advance_passes (j := s.store.journal.programmed n) (p := p.programmed n) (List.mem_map_of_mem mem) ?_ ?_
    · rw [JPage.programmed_seq, seq, next]
      rfl
    · have copies : (p.programmed n).copies = 2 := by rw [JPage.programmed, if_pos (by simp [seq, writes])]
      exact Nat.le_of_eq copies.symm
  show ∃ u, execJournalPageDurable n s = .next u ∧ _
  unfold execJournalPageDurable
  extract_lets j pages j1 s1
  have j1_is : (s.store.journal.programmed n).advance (s.store.journal.programmed n).pages.length = j1 := rfl
  rw [j1_is, ← next] at passes
  have s1_is : s1.store.journal = j1 := rfl
  rw [if_neg (by rw [show j.durable = n from next.symm]; omega)]
  split
  · refine ⟨_, rfl, ?_⟩
    rw [(firm_settleAll _).2, State.journalEffects_journal, s1_is]
    exact passes
  · refine ⟨_, rfl, ?_⟩
    rw [(firm_settleAll _).2, s1_is]
    exact passes

/-! ### A copy fails (R52, R188, R201, R202) -/

theorem State.setMode_enters (m cause : Nat) (small : m < 12) : (s.setMode m cause).has m = true ∨
    ∃ w ∈ (s.setMode m cause).sampler.waiting, w.set = modeBit m := by
  have sets : (newModes s.modes (modeBit m) 0).getLsbD m = true := by
    rw [newModes, BitVec.getLsbD_or]
    simp [modeBit, small]
  unfold State.setMode
  by_cases new : newModes s.modes (modeBit m) 0 = s.modes
  · left
    rw [State.changeModes, if_pos new, State.has, ← new]
    exact sets
  · by_cases room : cause = 13 ∨ (s.pendingRecs < 1024 ∧ s.sampler.waiting = [])
    · left
      rw [State.has, (State.changeModes_enters new room).1]
      exact sets
    · right
      rw [not_or] at room
      rw [State.changeModes_waits new room.1 (by
        by_cases full : s.pendingRecs < 1024
        · exact .inr fun none_ => room.2 ⟨full, none_⟩
        · exact .inl (by omega))]
      exact ⟨⟨modeBit m, 0, cause⟩, by simp, rfl⟩

/-- READ-ONLY comes into force with its cause, or waits for its record. -/
theorem State.setRoCause_enters (none_ : s.cfg Obj.roCause = 0) (c : Nat) : (s.setRoCause c).cfg Obj.roCause = c ∧
    ((s.setRoCause c).has Mode.readOnly = true ∨ ∃ w ∈ (s.setRoCause c).sampler.waiting, w.set = modeBit Mode.readOnly) := by
  rw [State.setRoCause, if_pos none_, State.enterReadOnly, (calm_sweepReadOnly _).1, State.roCause_eq (calm_sweepReadOnly _).2]
  have modes : ((s.save Obj.roCause c).setMode Mode.readOnly 6).sweepReadOnly.has Mode.readOnly
      = ((s.save Obj.roCause c).setMode Mode.readOnly 6).has Mode.readOnly := by simp [State.has]
  rw [modes]
  refine ⟨?_, State.setMode_enters _ _ (by decide)⟩
  unfold State.setMode
  rw [State.cfg_changeModes _ _ _ _ _ _ _ (by unfold ObjRow.other; decide) (by unfold ObjRow.other; decide)
    (by unfold ObjRow.other; decide) (by unfold ObjRow.other; decide) (by unfold ObjRow.other; decide), State.cfg_save_same]

/-- An event that no request waits for ends no command. -/
theorem State.raise_quiet {f : Func} (none_ : ∀ g, (s.fn g).aers = []) (e : AsyncEvent) :
    (s.raise f e).host.ctxs = s.host.ctxs ∧ ∀ g, ((s.raise f e).fn g).aers = [] := by
  have kept (x : Fn) (same : x.aers = []) : (s.setFn f x).host.ctxs = s.host.ctxs ∧ ∀ g, ((s.setFn f x).fn g).aers = [] := by
    refine ⟨rfl, fun g => ?_⟩
    by_cases is : g = f
    · rw [is, State.fn_setFn_same, same]
    · rw [State.fn_setFn_ne x is, none_]
  unfold State.raise
  dsimp only
  rw [none_ f]
  (repeat' split)
  · exact ⟨rfl, none_⟩
  · exact kept _ rfl
  · contradiction
  · exact kept _ rfl

theorem State.raiseAll_quiet (none_ : ∀ g, (s.fn g).aers = []) (codes : List Nat) (e : AsyncEvent) :
    (s.raiseAll codes e).host.ctxs = s.host.ctxs := by
  unfold State.raiseAll
  induction codes generalizing s with
  | nil => rfl
  | cons n l ih =>
    rw [List.foldl_cons]
    cases Func.ofCode n with
    | none => exact ih none_
    | some f =>
      obtain ⟨ctxs, still⟩ := State.raise_quiet (f := f) none_ e
      exact (ih still).trans ctxs

/-- Spare blocks that leave some behind set no cause of READ-ONLY, and end no command where no event is waited for. -/
theorem State.takeSpares_left {k : Nat} (left : k < s.cfg Obj.spareRemaining) :
    (s.takeSpares k).cfg Obj.roCause = s.cfg Obj.roCause ∧ (s.takeSpares k).store = s.store ∧
    ((∀ g, (s.fn g).aers = []) → (s.takeSpares k).host.ctxs = s.host.ctxs) := by
  have keeps (v : Nat) : Tbl.find (s.keep Obj.spareRemaining v).dict.force roKey = Tbl.find s.dict.force roKey :=
    State.force_keep (by decide)
  unfold State.takeSpares
  dsimp only
  rw [if_neg (show ¬ s.cfg Obj.spareRemaining - k = 0 by omega)]
  refine ⟨State.roCause_eq ?_, ?_, fun none_ => ?_⟩
  · (repeat' split) <;> simp [keeps]
  · (repeat' split) <;> simp
  · have quiet (b : Nat) := State.raiseAll_quiet (s := (s.keep Obj.spareRemaining b).record 0x0602 [b])
      (fun g => (congrArg Fn.aers (State.fn_of_fns (by simp) g)).trans (none_ g))
    (repeat' split) <;> simp [quiet]

/-- A block more is retired, and one from the spare pool takes its place. -/
def State.spareOne (s : State) : State := (s.bump Obj.blocksRetired).takeSpares 1

theorem State.spareOne_left (left : 2 ≤ s.cfg Obj.spareRemaining) :
    s.spareOne.cfg Obj.roCause = s.cfg Obj.roCause ∧ s.spareOne.store = s.store ∧
    ((∀ g, (s.fn g).aers = []) → s.spareOne.host.ctxs = s.host.ctxs) := by
  obtain ⟨cause, store, ctxs⟩ := State.takeSpares_left (s := s.bump Obj.blocksRetired) (k := 1)
    (by rw [State.cfg_bump_ne _ _ _ _ _ _ _ _ (by decide)]; omega)
  exact ⟨cause.trans (State.cfg_bump_ne _ _ _ _ _ _ _ _ (by decide)), store, ctxs⟩

theorem State.retireSystem_eq {lun block : Nat} (good : (s.block lun block).retired = false) : s.retireSystem lun block =
    ((s.setBlock lun block { s.block lun block with retired := true }).journal (.block 3 lun block (s.block lun block).erases)).spareOne := by
  unfold State.retireSystem
  dsimp only
  rw [if_neg (by simp [good])]
  rfl

theorem State.retireSystem_left (lun block : Nat) (left : 2 ≤ s.cfg Obj.spareRemaining) :
    (s.retireSystem lun block).cfg Obj.roCause = s.cfg Obj.roCause ∧
    (∀ p ∈ s.store.journal.pages, p ∈ (s.retireSystem lun block).store.journal.pages) ∧
    ((∀ g, (s.fn g).aers = []) → (s.retireSystem lun block).host.ctxs = s.host.ctxs) := by
  cases good : (s.block lun block).retired with
  | true =>
    rw [State.retireSystem, if_pos good]
    exact ⟨rfl, fun p mem => mem, fun _ => rfl⟩
  | false =>
    rw [State.retireSystem_eq good]
    have dict (b : State) (r : JRec) (q : ObjRow) : (b.journal r).cfg q = b.cfg q := State.cfg_of_force (by simp) ..
    have host (b : State) (r : JRec) : (b.journal r).host = b.host := by simp
    obtain ⟨cause, store, ctxs⟩ := State.spareOne_left (s := (s.setBlock lun block { s.block lun block with retired := true }).journal
      (.block 3 lun block (s.block lun block).erases)) (by rw [dict]; exact left)
    rw [cause, store, dict]
    refine ⟨rfl, fun p mem =>
      State.journal_pages (s := s.setBlock lun block { s.block lun block with retired := true }) mem _, fun none_ => ?_⟩
    rw [ctxs (fun g => (congrArg Fn.aers (State.fn_of_fns (congrArg (·.fns) (host _ _)) g)).trans (none_ g)), host]
    rfl

/-- The block of a copy that failed is retired, where it has one. -/
def State.copyRetired (s : State) (bad : Option (Nat × Nat)) : State := bad.elim s.spareOne fun m => s.retireSystem m.1 m.2

theorem State.copyRetired_left (bad : Option (Nat × Nat)) (left : 2 ≤ s.cfg Obj.spareRemaining) :
    (s.copyRetired bad).cfg Obj.roCause = s.cfg Obj.roCause ∧
    (∀ p ∈ s.store.journal.pages, p ∈ (s.copyRetired bad).store.journal.pages) ∧
    ((∀ g, (s.fn g).aers = []) → (s.copyRetired bad).host.ctxs = s.host.ctxs) := by
  cases bad with
  | some m => exact State.retireSystem_left m.1 m.2 left
  | none =>
    obtain ⟨cause, store, ctxs⟩ := State.spareOne_left left
    exact ⟨cause, fun p mem => store ▸ mem, ctxs⟩

/-- How often a copy of a page has failed before (R52). -/
def JPage.failed (p : JPage) (c : Fin 2) : Nat := if c.val = 0 then p.fails.1 else p.fails.2

section
variable {n : Nat} {c : Fin 2} {p : JPage} (found : s.store.journal.pages.find? (·.seq = n) = some p)
  (left : 2 ≤ s.cfg Obj.spareRemaining)
include found left

theorem execJournalCopyFailure_fourth (none_ : s.cfg Obj.roCause = 0) (third : p.failed c = 3) :
    ∃ u, exec (.journalCopyFailure n c true) s = .next u ∧ u.cfg Obj.roCause = 2 ∧
      (u.has Mode.readOnly = true ∨ ∃ w ∈ u.sampler.waiting, w.set = modeBit Mode.readOnly) := by
  show ∃ u, execJournalCopyFailure n c true s = .next u ∧ _
  unfold execJournalCopyFailure
  extract_lets j
  rw [show j.pages.find? (·.seq = n) = some p from found]
  split
  next is => cases is
  next q is =>
    cases is
    extract_lets n1 fails bad s0 again j0 s1 s2
    have fourth : n1 = 4 := congrArg (· + 1) third
    have s2_is : s2 = s1.setRoCause 2 := if_pos fourth
    have cause : s1.cfg Obj.roCause = 0 := (State.copyRetired_left bad left).1.trans none_
    obtain ⟨two, enters⟩ := State.setRoCause_enters cause 2
    rw [← s2_is] at two enters
    rw [if_neg (by simp)]
    clear_value s2 s1 again
    cases again with
    | some m => exact ⟨_, rfl, two, enters⟩
    | none => exact ⟨_, rfl, two, enters⟩

theorem execJournalCopyFailure_noBlock (early : p.failed c < 3) (quiet : ∀ f, (s.fn f).aers = []) :
    ∃ u, exec (.journalCopyFailure n c false) s = .next u ∧ (∃ q ∈ u.store.journal.pages, q.seq = n ∧ q.stuck = true) ∧
      ∀ c ∈ s.host.ctxs, c.wait = .durable → c.done = none → n < c.page → s.ctx? c.hdr = some c →
        ∃ d, u.ctx? c.hdr = some d ∧ d.done = some ⟨⟨2, 0x80⟩, 0, 0⟩ := by
  show ∃ u, execJournalCopyFailure n c false s = .next u ∧ _
  unfold execJournalCopyFailure
  extract_lets j
  rw [show j.pages.find? (·.seq = n) = some p from found]
  split
  next is => cases is
  next q is =>
    cases is
    extract_lets n1 fails bad s0 again j0 s1 s2
    have few : n1 ≠ 4 := fun four => absurd (Nat.succ.inj four) (Nat.ne_of_lt early)
    have s2_is : s2 = s1 := if_neg few
    obtain ⟨-, pages, ctxs⟩ := State.copyRetired_left bad left
    have ctxs1 : s1.host.ctxs = s.host.ctxs := ctxs quiet
    have mem : p ∈ s0.store.journal.pages := pages p (List.mem_of_find?_eq_some found)
    have seq : p.seq = n := by simpa using List.find?_some found
    rw [if_pos (by rfl), s2_is]
    refine ⟨_, rfl, ?_, fun c held waits open_ page there => ?_⟩
    · rw [(state_failWaiters_frame ..).2.2.2.2.2.2.1]
      exact ⟨_, List.mem_map_of_mem mem, by simp [seq]⟩
    · refine (ended_foldl_finish .writeFault _ c.hdr s1).2 c ?_ open_ ⟨c, List.mem_filter.2 ⟨ctxs1 ▸ held, ?_⟩, rfl⟩
      · rw [State.ctx?, ctxs1]
        exact there
      · simp [waits, open_, page]

end

/-! ### Segments are copied (R127, R190) -/

/-- A copy of a segment of a namespace that is not written yet. -/
def SegCopy.fresh (x : Ns) (nsid g next : Nat) (s : State) (c : SegCopy) : Prop :=
  c.nsid = nsid ∧ c.segment = g ∧ c.snapshot = next ∧ c.inEffect = false ∧
  c.entries = (x.map.filter (fun e => e.1 / 1048576 = g)).map fun e => (e.1, (s.copyEntry e.2).1)

/-- A copy that is written at once has its record, and no other copy of the segment changes. -/
theorem State.segmentWritten_last {nsid g : Nat} {old : List SegCopy} {c : SegCopy} (copies : s.store.journal.copies = old ++ [c])
    (mine : c.nsid = nsid ∧ c.segment = g ∧ c.page = 0) (idle : ∀ d ∈ old, d.nsid = nsid → d.segment = g → d.page ≠ 0) (lun : Nat)
    (o : LunOp) : ∃ k, (s.segmentWritten nsid g lun o true).store.journal.copies = old ++ [{ c with page := k }] ∧
      (s.segmentWritten nsid g lun o true).store.journal.changed = s.store.journal.changed ∧
      (s.segmentWritten nsid g lun o true).store.ns = s.store.ns ∧ (s.segmentWritten nsid g lun o true).host = s.host := by
  have others : ∀ d ∈ old, (d.nsid = nsid && d.segment = g && d.page = 0) = false := by
    intro d mem
    refine Bool.eq_false_iff.mpr fun is => ?_
    simp only [Bool.and_eq_true, decide_eq_true_eq] at is
    exact idle d mem is.1.1 is.1.2 is.2
  have this_ : (c.nsid = nsid && c.segment = g && c.page = 0) = true := by simp [mine]
  have found : s.store.journal.copies.find? (fun d => d.nsid = nsid && d.segment = g && d.page = 0) = some c := by
    rw [copies, List.find?_append, List.find?_eq_none.2 fun d mem => by simp [others d mem]]
    simp [mine]
  unfold State.segmentWritten
  dsimp only
  rw [found]
  dsimp only
  rw [if_pos rfl]
  obtain ⟨same, changed⟩ := s.journal_segments (.ckpt g c.place c.snapshot)
  refine ⟨(s.journal (.ckpt g c.place c.snapshot)).lastPage, ?_, changed, State.journal_ns .., by simp⟩
  rw [State.setJournal_journal]
  dsimp only
  rw [same, copies, List.map_append, List.map_cons, List.map_nil, if_pos this_, List.map_congr_left (g := id), List.map_id]
  intro d mem
  rw [if_neg (by simp [others d mem])]
  rfl

theorem State.copySegment_copies {nsid g : Nat} {x : Ns} (ns : s.ns? nsid = some x)
    (idle : ∀ c ∈ s.store.journal.copies, c.nsid = nsid → c.segment = g → c.page ≠ 0) :
    ∃ c, (s.copySegment nsid g).store.journal.copies = s.store.journal.copies ++ [c] ∧
      c.fresh x nsid g s.store.journal.next s ∧ (nsid, g) ∉ (s.copySegment nsid g).store.journal.changed ∧
      (s.copySegment nsid g).store.ns = s.store.ns ∧ (s.copySegment nsid g).host = s.host := by
  unfold State.copySegment
  extract_lets j y entries place c s1
  have c_fresh (k : Nat) : ({ c with page := k } : SegCopy).fresh x nsid g s.store.journal.next s := by
    refine ⟨rfl, rfl, rfl, rfl, ?_⟩
    show entries.map (fun e => (e.1, e.2.1)) = _
    rw [show entries = (x.segment g).map fun e => (e.1, s.copyEntry e.2) from congrArg (Option.elim · _ _) ns, List.map_map]
    rfl
  have copies : s1.store.journal.copies = s.store.journal.copies ++ [c] := rfl
  have changed : (nsid, g) ∉ s1.store.journal.changed := fun mem => by simpa using (List.mem_filter.mp mem).2
  have s1_ns : s1.store.ns = s.store.ns := rfl
  have s1_host : s1.host = s.host := rfl
  have mine : c.nsid = nsid ∧ c.segment = g ∧ c.page = 0 := ⟨rfl, rfl, rfl⟩
  clear_value s1 c place
  cases place with
  | some m => exact ⟨c, copies, c_fresh c.page, changed, s1_ns, s1_host⟩
  | none =>
    obtain ⟨k, written, same, ns1, host⟩ := State.segmentWritten_last copies mine idle 0
      { id := 0, kind := .progSeg nsid g, cls := .sys, age := 0, frame := 0, block := 0, tokens := 0, waited := false, slc := true }
    exact ⟨_, written, c_fresh k, same ▸ changed, ns1.trans s1_ns, host.trans s1_host⟩

theorem execCheckpointPass_copies {nsid g t : Nat} {x : Ns} (ns : s.ns? nsid = some x)
    (mem : (nsid, g) ∈ s.store.journal.changed) (due : (s.tick t).isDue Periodic.checkpoint = true) (none_ : s.store.journal.pass = [])
    (idle : ∀ c ∈ s.store.journal.copies, c.nsid = nsid → c.segment = g → c.page ≠ 0) :
    ∃ u c, exec (.checkpointPass nsid g t) s = .next u ∧ u.store.journal.copies = s.store.journal.copies ++ [c] ∧
      c.fresh x nsid g s.store.journal.next s ∧ (nsid, g) ∉ u.store.journal.changed ∧
      u.store.ns = s.store.ns ∧ u.host = s.host := by
  show ∃ u c, execCheckpointPass nsid g t s = .next u ∧ _
  unfold execCheckpointPass
  extract_lets s1 j chosen busy
  have s1_is : s1 = (((s.tick t).setJournal { s.store.journal with pass := s.store.journal.changed
      ++ ((s.store.ns.filter fun (e : Nat × Ns) => e.2.kind = .zoned).map fun e => (e.1, 0)) ++ [(0, 0)] }).taskDone
      Periodic.checkpoint (1000000000 * s.cfg Obj.ckptPassS)) := if_pos ⟨due, none_⟩
  have pass : j.pass.contains (nsid, g) = true := by
    show s1.store.journal.pass.contains (nsid, g) = true
    rw [s1_is]
    simp [State.taskDone, State.setJournal, mem]
  have free : busy = false := by
    show s1.store.journal.copies.any _ = false
    rw [s1_is, List.any_eq_false]
    intro c held
    simp only [Bool.and_eq_true, decide_eq_true_eq]
    exact fun is => idle c held is.1.1 is.1.2 is.2
  have copies1 : s1.store.journal.copies = s.store.journal.copies := by rw [s1_is]; rfl
  have next1 : s1.store.journal.next = s.store.journal.next := by rw [s1_is]; rfl
  have ns1 : s1.store.ns = s.store.ns := by rw [s1_is]; rfl
  have host1 : s1.host = s.host := by rw [s1_is]; rfl
  have entry1 : s1.copyEntry = s.copyEntry := by rw [s1_is]; rfl
  have go : chosen ∧ (!busy) = true := ⟨by simp only [chosen, pass, Bool.true_or], by simp [free]⟩
  obtain ⟨c, copies, fresh, changed, ns2, host2⟩ := State.copySegment_copies (s := s1) (nsid := nsid) (g := g) (x := x)
    ((congrArg (Tbl.find · nsid) ns1).trans ns) (copies1 ▸ idle)
  rw [if_pos go]
  refine ⟨_, c, rfl, copies.trans (by rw [copies1]), ?_, changed, ns2.trans ns1, host2.trans host1⟩
  rw [SegCopy.fresh, next1, entry1] at fresh
  exact fresh

/-! ### A copy takes effect (R190) -/

/-- A copy of a segment whose record is durable, and that is not in effect yet. -/
def State.copyReady (s : State) (nsid g : Nat) (c : SegCopy) : Bool :=
  (c.nsid = nsid && c.segment = g) && !c.inEffect && 0 < c.page && s.pageDurable c.page

theorem execSegmentCopyDurable_waits {nsid g : Nat} (waits : ∀ c ∈ s.store.journal.copies, c.nsid = nsid → c.segment = g →
    c.inEffect = true ∨ c.page = 0 ∨ s.store.journal.durable < c.page) : exec (.segmentCopyDurable nsid g) s = .next s := by
  have none_ : s.store.journal.copies.find? (s.copyReady nsid g) = none := by
    rw [List.find?_eq_none]
    intro c mem
    have := waits c mem
    simp only [State.copyReady, State.pageDurable, Bool.and_eq_true, decide_eq_true_eq, Bool.not_eq_true', not_and]
    rintro ⟨⟨⟨ns, seg⟩, off⟩, page⟩ durable
    rcases this ns seg with on | zero | later
    · simp [on] at off
    · omega
    · omega
  show execSegmentCopyDurable nsid g s = _
  unfold execSegmentCopyDurable
  extract_lets j mine
  rw [show j.copies.find? (fun c => mine c && !c.inEffect && 0 < c.page && s.pageDurable c.page) = none from none_]

theorem State.queueErase_journal (lun block : Nat) : (s.queueErase lun block).store.journal = s.store.journal := by
  unfold State.queueErase
  dsimp only
  (repeat' split) <;> rfl

theorem State.releaseSystem_journal (ms : List (Nat × Nat)) : (s.releaseSystem ms).store.journal = s.store.journal :=
  foldl_keeps (fun a : State => a.store.journal) (g := fun a (m : Nat × Nat) =>
    (a.setBlock m.1 m.2 { a.block m.1 m.2 with system := false }).queueErase m.1 m.2) (fun _ _ => State.queueErase_journal ..) _ s

theorem execSegmentCopyDurable_replaces {nsid g : Nat} {c : SegCopy} (found : s.store.journal.copies.find? (s.copyReady nsid g) = some c) :
    ∃ u, exec (.segmentCopyDurable nsid g) s = .next u ∧ { c with inEffect := true } ∈ u.store.journal.copies ∧
      ∀ d ∈ u.store.journal.copies, d.nsid = nsid → d.segment = g → d.snapshot ≤ c.snapshot → d = { c with inEffect := true } := by
  show ∃ u, execSegmentCopyDurable nsid g s = .next u ∧ _
  unfold execSegmentCopyDurable
  extract_lets j mine
  rw [show j.copies.find? (fun c => mine c && !c.inEffect && 0 < c.page && s.pageDurable c.page) = some c from found]
  split
  next is => cases is
  next q is =>
    cases is
    extract_lets copies j1 base stays gone s1
    have kept : ({ s1 with mem := { s1.mem with replayed := s1.mem.replayed.filter (· ≠ (nsid, g)) } }.settleRecovery).store.journal.copies
        = copies := by
      rw [show ∀ a : State, a.settleRecovery.store = a.store from fun a => by simp]
      exact congrArg Journal.copies (State.releaseSystem_journal gone)
    refine ⟨_, rfl, ?_, ?_⟩
    · rw [kept]
      exact List.mem_append_right _ List.mem_cons_self
    · rw [kept]
      intro d mem ns seg older
      rcases List.mem_append.1 mem with stayed | is
      · have out := (List.mem_filter.1 stayed).2
        simp [mine, ns, seg, older] at out
      · exact List.mem_singleton.1 is

end

/-- Settles O27: a page that closes holds the open records, `Journal.advance` passes only pages with both copies, a copy's fourth
failure sets READ-ONLY, and a segment's copy replaces those with an older snapshot. -/
theorem journalPagesBecomeDurableInOrder : Obligations.JournalPagesBecomeDurableInOrder := by
  unfold Obligations.JournalPagesBecomeDurableInOrder
  refine ⟨fun t s recs => ⟨execJournalTimerExpiry_closes recs, fun early => ?_⟩,
    fun n s => ⟨execJournalPageDurable_waits, fun p mem seq writes next => execJournalPageDurable_passes mem seq writes next⟩,
    fun n k c p s found left none_ is => ⟨fun three => ?_, fun early quiet => ?_⟩,
    fun nsid g t x s ns kind mem due none_ idle => ?_,
    fun nsid g s => ⟨execSegmentCopyDurable_waits, fun c found => execSegmentCopyDurable_replaces found⟩⟩
  · have waits : ¬ (s.tick t).cfg Obj.journalTimerUs * 1000 ≤ (s.tick t).now - (s.tick t).store.journal.since := by
      show ¬ s.cfg Obj.journalTimerUs * 1000 ≤ max s.now t - s.store.journal.since
      omega
    exact if_neg waits
  · exact execJournalCopyFailure_fourth found left none_ (is.symm.trans three)
  · exact execJournalCopyFailure_noBlock found left (Nat.lt_of_le_of_lt (Nat.le_of_eq is.symm) early) quiet
  · obtain ⟨u, c, ran, copies, ⟨ns1, seg, snapshot, off, entries⟩, changed, ns2, host⟩ := execCheckpointPass_copies ns mem due none_ idle
    exact ⟨u, c, ran, copies, ns1, seg, snapshot, off, entries, changed, ns2, host⟩

end Sys2Proof.Machine
end


section
/-! What lies on flash after the parity of a row, and after a staged unit -/
namespace Sys2Proof.Machine

section
variable (s : State) (k : Nat)

@[simp] theorem firm_doneSeq (w : Nat) : (s.doneSeq w).store.media = s.store.media ∧
    (s.doneSeq w).store.journal.durable = s.store.journal.durable := ⟨rfl, rfl⟩

@[simp] theorem firm_stampRow (nsid z row : Nat) (t : Stripe) : (s.stampRow nsid z row t).store.media = s.store.media ∧
    (s.stampRow nsid z row t).store.journal.durable = s.store.journal.durable := by
  unfold State.stampRow
  split
  · simp
  · refine foldl_firm _ _ _ fun a i => ?_
    split <;> simp

@[simp] theorem firm_parityRow (id : Nat) (t : Stripe) (row : Nat) : (s.parityRow id t row).store.media = s.store.media ∧
    (s.parityRow id t row).store.journal.durable = s.store.journal.durable := by
  unfold State.parityRow
  dsimp only
  split <;> simp

@[simp] theorem State.startParity_store (id row : Nat) (t : Stripe) : (s.startParity id row t).store = s.store :=
  foldl_keeps (fun a : State => a.store) (fun a m => by dsimp only; split <;> simp) _ s

@[simp] theorem firm_advanceParity (id fuel : Nat) : (s.advanceParity id fuel).store.media = s.store.media ∧
    (s.advanceParity id fuel).store.journal.durable = s.store.journal.durable := by
  induction fuel generalizing s with
  | zero => exact ⟨rfl, rfl⟩
  | succ fuel ih =>
    unfold State.advanceParity
    split
    · exact ⟨rfl, rfl⟩
    · dsimp only
      (repeat' split) <;> simp [ih]

@[simp] theorem firm_finishUnit (n : Ns) (z v : Nat) : (s.finishUnit k n z v).store.media = s.store.media ∧
    (s.finishUnit k n z v).store.journal.durable = s.store.journal.durable := by
  unfold State.finishUnit
  dsimp only
  split
  · split <;> simp
  · simp

@[simp] theorem firm_stagedUnit (x : Slot) (n : Ns) (loc : MapEntry) : (s.stagedUnit k x n loc).store.media = s.store.media ∧
    (s.stagedUnit k x n loc).store.journal.durable = s.store.journal.durable := by
  simp [State.stagedUnit]

end

end Sys2Proof.Machine
end

section
/-! Programs end, and their failures are contained (R183, R185, R198, R200, R201, R208) -/
namespace Sys2Proof.Machine

section
variable {s : State} {k : Nat} {x : Slot} {loc : MapEntry} {n : Ns}

/-! ### A program ends (R183) -/

/-- A unit is put where it lies on flash. -/
theorem State.putStored_media (loc : MapEntry) (u : Stored) : (s.putStored loc u).store.media = Tbl.put s.store.media loc.key u := by
  unfold State.putStored State.writeAmp
  split <;> simp

theorem State.unitDone_media : Tbl.find (s.unitDone k x loc).store.media loc.key = some (x.flight.getD (s.slotStored x)) := by
  have put : Tbl.find ((s.putStored loc (x.flight.getD (s.slotStored x))).doneSeq x.wseq).store.media loc.key
      = some (x.flight.getD (s.slotStored x)) := by
    rw [(firm_doneSeq _ _).1, State.putStored_media, Tbl.find_put_same]
  unfold State.unitDone
  extract_lets s1
  split
  · exact put
  · extract_lets s2
    have kept : s2.store.media = s1.store.media := by
      simp only [s2]
      (repeat' split) <;> simp
    split
    · rw [(firm_advanceParity _ _ _).1, kept]
      exact put
    · rw [kept]
      exact put

/-- No program is issued, and every slot is where it was on its way to flash. -/
def State.Settled (t s : State) : Prop := t.store.journal.pendingSeqs = s.store.journal.pendingSeqs ∧
  ∀ k, (t.slot? k).map Slot.state = (s.slot? k).map Slot.state

theorem State.Settled.refl (s : State) : s.Settled s := ⟨rfl, fun _ => rfl⟩

theorem State.Settled.trans {t u : State} (h : t.Settled s) (g : u.Settled t) : u.Settled s :=
  ⟨g.1.trans h.1, fun k => (g.2 k).trans (h.2 k)⟩

theorem State.Settled.of_store {t u : State} (h : t.Settled s) (same : u.store = t.store) : u.Settled s := by
  refine ⟨?_, fun k => ?_⟩
  · rw [same]
    exact h.1
  · rw [State.slot?, same]
    exact h.2 k

theorem settled_ite {c : Prop} [Decidable c] {t u : State} (h : t.Settled s) (g : u.Settled s) : (if c then t else u).Settled s := by
  split
  · exact h
  · exact g

theorem settled_foldl {α : Type} (g : State → α → State) (l : List α) (h : ∀ a e, (g a e).Settled a) (s : State) :
    (l.foldl g s).Settled s := by
  induction l generalizing s with
  | nil => exact State.Settled.refl s
  | cons e l ih => exact (h s e).trans (ih _)

theorem State.journal_pendingSeqs (r : JRec) : (s.journal r).store.journal.pendingSeqs = s.store.journal.pendingSeqs := by
  have close (a : State) : a.closePage.store.journal.pendingSeqs = a.store.journal.pendingSeqs := by
    unfold State.closePage
    dsimp only
    split
    · rfl
    · rw [foldl_place_journal]
      rfl
  unfold State.journal
  dsimp only
  split
  · exact close _
  · rfl

theorem State.journal_settled (r : JRec) : (s.journal r).Settled s :=
  ⟨State.journal_pendingSeqs r, fun k => by rw [State.slot?, State.journal_slots, State.slot?]⟩

theorem State.zoneTo_settled (nsid z : Nat) (g : Zone → Zone) : (s.zoneTo nsid z g).Settled s := by
  unfold State.zoneTo
  split
  · exact State.Settled.refl s
  · exact State.journal_settled (s := s.setNs _ _) _

theorem State.setSlot_settled {y : Slot} (there : s.slot? k = some x) (state : y.state = x.state) : (s.setSlot k y).Settled s := by
  refine ⟨rfl, fun j => ?_⟩
  by_cases is : j = k
  · rw [is, State.slot_setSlot_same, there, Option.map_some, Option.map_some, state]
  · rw [State.slot_setSlot_ne _ _ is]

theorem State.stampRow_settled (nsid z row : Nat) (t : Stripe) : (s.stampRow nsid z row t).Settled s := by
  unfold State.stampRow
  split
  · exact State.Settled.refl s
  · refine settled_foldl _ _ (fun a i => ?_) s
    split
    next j y is =>
      obtain ⟨j', -, is⟩ := Option.bind_eq_some_iff.1 is
      obtain ⟨y', there, same⟩ := Option.map_eq_some_iff.1 is
      obtain ⟨rfl, rfl⟩ := Prod.mk.inj same
      exact State.setSlot_settled there rfl
    next => exact State.Settled.refl a

theorem State.Settled.zoneRow {b : State} (h : b.Settled s) (nsid z row : Nat) (g : Zone → Zone) (t : Stripe) :
    ((b.zoneTo nsid z g).stampRow nsid z row t).Settled s :=
  h.trans ((State.zoneTo_settled ..).trans (State.stampRow_settled ..))

theorem State.parityRow_settled (id : Nat) (t : Stripe) (row : Nat) : (s.parityRow id t row).Settled s := by
  unfold State.parityRow
  dsimp only
  split
  · exact State.Settled.zoneRow ⟨rfl, fun _ => rfl⟩ ..
  · exact ⟨rfl, fun _ => rfl⟩

theorem State.advanceParity_settled (id fuel : Nat) : (s.advanceParity id fuel).Settled s := by
  induction fuel generalizing s with
  | zero => exact State.Settled.refl s
  | succ fuel ih =>
    unfold State.advanceParity
    split
    · exact State.Settled.refl s
    · extract_lets s1
      have before : s1.Settled s := (State.Settled.refl s).of_store (State.startParity_store ..)
      exact settled_ite (settled_ite before (before.trans ((State.parityRow_settled ..).trans ih))) (State.Settled.refl s)

/-- A page-mapped unit that was not written meanwhile has programmed: its slot says where, and its WSEQ waits no more. -/
theorem State.unitDone_programmed (ns : s.ns? x.nsid = some n) (plain : n.kind ≠ .zoned) (once : x.again = false) :
    x.wseq ∉ (s.unitDone k x loc).store.journal.pendingSeqs ∧
    ∃ y, (s.unitDone k x loc).slot? k = some y ∧ y.state = .programmed loc := by
  have known : ((s.putStored loc (x.flight.getD (s.slotStored x))).doneSeq x.wseq).ns? x.nsid = some n := by
    have kept : ((s.putStored loc (x.flight.getD (s.slotStored x))).doneSeq x.wseq).store.ns = s.store.ns := by
      unfold State.putStored State.writeAmp
      split <;> rfl
    rw [State.ns?, kept]
    exact ns
  unfold State.unitDone
  extract_lets s1
  split
  next none_ => exact absurd (known.symm.trans none_) (by simp)
  next m is =>
    obtain rfl : m = n := Option.some.inj (is.symm.trans known)
    extract_lets s2
    have s2_is : s2 = s1.setSlot k { x with state := .programmed loc, flight := none } := by
      simp only [s2, plain, once, false_and, if_false, Bool.false_eq_true]
    have done (u : State) (settled : u.Settled s2) : x.wseq ∉ u.store.journal.pendingSeqs ∧
        ∃ y, u.slot? k = some y ∧ y.state = .programmed loc := by
      obtain ⟨pending, states⟩ := settled
      refine ⟨?_, ?_⟩
      · rw [pending, s2_is]
        exact fun mem => by simpa using (List.mem_filter.mp mem).2
      · have state := states k
        rw [s2_is, State.slot_setSlot_same] at state
        exact Option.map_eq_some_iff.1 state
    split
    · exact done _ (State.advanceParity_settled ..)
    · exact done _ (State.Settled.refl s2)

/-! ### A slot is given up (R185) -/

@[simp] theorem State.superseded_slots (y : Ns) (old : MapEntry) : (s.superseded y old).store.slots = s.store.slots := by
  unfold State.superseded
  split
  · split
    · split
      · split
        · rfl
        · exact foldl_keeps (fun a : State => a.store.slots) (fun _ _ => State.journal_slots ..) _ _
      · rfl
    · rfl
  · rfl

@[simp] theorem State.touchSegment_slots (nsid seg : Nat) : (s.touchSegment nsid seg).store.slots = s.store.slots := by
  unfold State.touchSegment
  dsimp only
  split <;> rfl

@[simp] theorem State.setUnit_slots (nsid u : Nat) (e : MapEntry) : (s.setUnit nsid u e).store.slots = s.store.slots := by
  unfold State.setUnit
  split
  · simp [State.setNs]
  · rfl

theorem State.dropSlot_plain (there : s.slot? k = some x) (ns : s.ns? x.nsid = some n) (plain : n.kind ≠ .zoned) (e : MapEntry) :
    s.dropSlot k e = ({ s with store := { s.store with slots := Tbl.del s.store.slots k } } : State).setUnit x.nsid x.unit e := by
  simp [State.dropSlot, there, ns, plain]

theorem State.loseUnit_plain {nsid u : Nat} (ns : s.ns? nsid = some n) (plain : n.kind ≠ .zoned) : s.loseUnit nsid u = s := by
  simp [State.loseUnit, ns, plain]

/-- Commands that have ended with a Write Fault stay so while Flushes end with one too. -/
theorem ended_foldl_flushes {c : Hdr} (l : List Hdr) (params : List Nat) (ended : Ended s c .writeFault 0) :
    Ended (l.foldl (fun a h => (a.record 0x0301 params).finish h (Cpl.of .writeFault)) s) c .writeFault 0 := by
  induction l generalizing s with
  | nil => exact ended
  | cons h l ih =>
    have recorded : Ended (s.record 0x0301 params) c .writeFault 0 := by
      obtain ⟨d, is, done⟩ := ended
      exact ⟨d, (State.ctx_of_host (by simp) c).trans is, done⟩
    refine ih ?_
    obtain ⟨d, is, done⟩ := recorded
    by_cases same : c = h
    · subst same
      refine ⟨_, State.ctx_finish_same _ is, ?_⟩
      rw [Ctx.ended_done, done]
      rfl
    · exact ⟨d, (State.ctx_finish_ne _ same).trans is, done⟩

/-- A slot that is given up: the entry is lost, its record is kept, and the commands that need it are still to end. -/
def State.slotLost (s : State) (k : Nat) (x : Slot) : State :=
  (((((s.dropSlot k .uncorrectable).loseUnit x.nsid x.unit).journal (.uncorr (x.nsid - 1) x.unit 1)).bump Obj.writesLost).record
    0x0601 [x.nsid, lowWord x.unit, highWord x.unit])

section
variable (there : s.slot? k = some x) (ns : s.ns? x.nsid = some n) (plain : n.kind ≠ .zoned)
include there ns plain

theorem State.slotLost_store : (s.slotLost k x).slot? k = none ∧
    (s.slotLost k x).ns? x.nsid = some (n.setEntry x.unit .uncorrectable) := by
  have known : ({ s with store := { s.store with slots := Tbl.del s.store.slots k } } : State).ns? x.nsid = some n := ns
  have entry := State.setUnit_ns known x.unit .uncorrectable
  rw [← State.dropSlot_plain there ns plain] at entry
  have stays : (s.dropSlot k .uncorrectable).loseUnit x.nsid x.unit = s.dropSlot k .uncorrectable :=
    State.loseUnit_plain entry plain
  have store (b : State) (r : JRec) (ps : List Nat) : (((b.journal r).bump Obj.writesLost).record 0x0601 ps).store = (b.journal r).store := by
    simp
  unfold State.slotLost
  rw [stays, State.slot?, State.ns?, store, State.journal_slots, State.journal_ns]
  refine ⟨?_, entry⟩
  rw [State.dropSlot_plain there ns plain, State.setUnit_slots]
  exact Tbl.find_del_same ..

theorem State.giveUpSlot_lost : (s.giveUpSlot k x).slot? k = none ∧
    (s.giveUpSlot k x).locate x.nsid x.unit = .uncorrectable ∧
    ∀ c ∈ s.host.ctxs, s.ctx? c.hdr = some c → c.done = none → (∃ r ∈ c.mods, runsMeet r (x.nsid, x.unit, x.unit) = true) →
      ∃ d, (s.giveUpSlot k x).ctx? c.hdr = some d ∧ d.done = some ⟨⟨2, 0x80⟩, 0, 0⟩ := by
  obtain ⟨gone, entry⟩ := State.slotLost_store there ns plain
  have host : (s.slotLost k x).host = s.host := by simp [State.slotLost]
  have store : (s.giveUpSlot k x).store = (s.slotLost k x).store := by
    unfold State.giveUpSlot State.slotLost
    simp only [foldl_store, state_finish_frame, state_record_frame, implies_true]
  have slot : (s.giveUpSlot k x).slot? k = (s.slotLost k x).slot? k := congrArg (fun y : Store => Tbl.find y.slots k) store
  have nss : (s.giveUpSlot k x).ns? x.nsid = (s.slotLost k x).ns? x.nsid := congrArg (fun y : Store => Tbl.find y.ns x.nsid) store
  refine ⟨slot.trans gone, ?_, fun c held is open_ meets => ?_⟩
  · rw [State.locate_plain (nss.trans entry) plain, Ns.entry_setEntry_same]
  · unfold State.giveUpSlot
    extract_lets touches writes flushes s0 s1 s2 s3
    refine ended_foldl_flushes flushes _ ?_
    have ended := (ended_foldl_finish .writeFault (s.host.ctxs.filter touches) c.hdr (s.slotLost k x)).2 c
      ((State.ctx_of_host host _).trans is) open_ ⟨c, List.mem_filter.2 ⟨held, ?_⟩, rfl⟩
    · rw [← List.foldl_map (f := fun c : Ctx => c.hdr) (g := fun (a : State) h => a.finish h (Cpl.of .writeFault))] at ended
      exact ended
    · obtain ⟨r, mem, meets⟩ := meets
      simp only [touches, open_, Option.isNone_none, Bool.true_and, List.any_eq_true]
      exact ⟨r, mem, meets⟩

end

theorem State.placeAgain_givesUp (there : s.slot? k = some x) (runs : x.state = .programming loc) (live : x.dead = false)
    (tries : 4 ≤ x.tries) : s.placeAgain k = (s.doneSeq x.wseq).giveUpSlot k x := by
  unfold State.placeAgain
  simp only [there, runs]
  rw [if_neg (by simp [live]), if_pos tries]

/-! ### Units move (R198, R208) -/

theorem State.relocate_moves {nsid u : Nat} {src dst : MapEntry} (ns : s.ns? nsid = some n) (names : n.entry u = src) :
    ∃ y, (s.relocate (nsid, u, src, dst)).ns? nsid = some y ∧ y.entry u = dst ∧ ∀ v, v ≠ u → y.entry v = n.entry v := by
  refine ⟨n.setEntry u dst, ?_, Ns.entry_setEntry_same .., fun v other => Ns.entry_setEntry_ne _ _ other⟩
  have store (b : State) (r : JRec) : ((b.journal r).bump Obj.mangleUnits).ns? nsid = b.ns? nsid := by
    rw [State.ns?, State.ns?, ← State.journal_ns b r]
    rfl
  unfold State.relocate
  simp only [ns]
  rw [if_pos names, store]
  exact State.setUnit_ns ns u dst

theorem State.relocate_stays {nsid u : Nat} {src dst : MapEntry} (ns : s.ns? nsid = some n) (other : n.entry u ≠ src) :
    s.relocate (nsid, u, src, dst) = s := by
  unfold State.relocate
  simp only [ns]
  exact if_neg other

/-- A move keeps every stripe, its members and those that are lost. -/
theorem State.StripeWith.relocate {id : Nat} {ms : List (Nat × Nat)} {lost : List Nat} (h : s.StripeWith id ms lost)
    (m : Nat × Nat × MapEntry × MapEntry) : (s.relocate m).StripeWith id ms lost := by
  unfold State.relocate
  split
  · exact h
  · split
    · exact (State.StripeWith.of_stripes (h.setUnit ..) (State.journal_stripes ..)).bump ..
    · exact h

/-! ### A target completes (R198) -/

theorem State.closeStripe_keeps {id : Nat} {t : Stripe} (here : s.stripe? id = some t) :
    ∃ ms lost, (s.closeStripe id).StripeWith id ms lost := by
  unfold State.closeStripe
  split
  · exact ⟨_, _, t, here, rfl, rfl⟩
  next q _ =>
    dsimp only
    refine ⟨_, _, { q with ended := true, closedAt := some s.now }, ?_, rfl, rfl⟩
    rw [State.stripe?, foldl_keeps (fun a : State => a.store.stripes) (fun a m => State.journal_stripes ..)]
    exact State.stripe_setStripe_same ..

theorem execTargetStripeComplete_clears {id : Nat} {t : Stripe} (here : s.stripe? id = some t) (moved : t.moved ≠ [])
    (still : t.closedAt = none) : ∃ u : State, exec (.targetStripeComplete id) s = .next u.settleAll ∧
      ∃ q, u.stripe? id = some q ∧ q.moved = [] ∧ q.sources = [] := by
  have moves : ∃ ms lost, (t.moved.foldl State.relocate (s.closeStripe id)).StripeWith id ms lost := by
    obtain ⟨ms, lost, closed⟩ := State.closeStripe_keeps here
    refine ⟨ms, lost, ?_⟩
    exact List.foldlRecOn (motive := fun a : State => a.StripeWith id ms lost) _ _ closed fun a h m _ => h.relocate m
  show ∃ u : State, execTargetStripeComplete id s = .next u.settleAll ∧ _
  unfold execTargetStripeComplete
  rw [here]
  split
  next is => cases is
  next q is =>
    cases is
    rw [if_neg (by simp [moved, still])]
    extract_lets s1 s2 s3
    have sources : ∃ ms lost, s2.StripeWith id ms lost := by
      obtain ⟨ms, lost, before⟩ := moves
      refine ⟨ms, lost, List.foldlRecOn (motive := fun a : State => a.StripeWith id ms lost) _ _ before fun a h i _ => ?_⟩
      split
      next q hq => exact h.setStripe hq rfl rfl
      next => exact h
    obtain ⟨-, -, q, hq, -⟩ := sources
    have s3_is : s3 = s2.setStripe id { q with moved := [], sources := [] } := by
      simp only [s3, hq]
    refine ⟨s3, rfl, { q with moved := [], sources := [] }, ?_, rfl, rfl⟩
    rw [s3_is]
    exact State.stripe_setStripe_same ..

/-! ### Blocks that are retired (R201, R232) -/

theorem Tbl.countP_put {α : Type} (p : Nat × α → Bool) (t : Tbl α) (j : Nat) (v : α) :
    (Tbl.put t j v).countP p ≤ t.countP p + (p (j, v)).toNat := by
  induction t with
  | nil => simp [Tbl.put, List.countP_cons, Bool.toNat]; cases p (j, v) <;> simp
  | cons e t ih =>
    obtain ⟨i, w⟩ := e
    simp only [Tbl.put]
    split
    · simp only [List.countP_cons]
      cases p (j, v) <;> simp
    · split
      · simp only [List.countP_cons]
        cases p (j, v) <;> simp
      · simp only [List.countP_cons]
        omega

theorem Tbl.countP_del {α : Type} (p : Nat × α → Bool) (t : Tbl α) (j : Nat) : (Tbl.del t j).countP p ≤ t.countP p := by
  induction t with
  | nil => exact Nat.le_refl _
  | cons e t ih =>
    obtain ⟨i, w⟩ := e
    simp only [Tbl.del]
    split
    · exact Nat.le_trans ih (by simp [List.countP_cons])
    · simp only [List.countP_cons]
      omega

/-- Blocks of a LUN that are retired, one by one. -/
def State.retiredBlocks (s : State) (lun : Nat) : Nat := s.store.blocks.countP fun e => e.1 / 4096 = lun && e.2.retired

theorem State.retiredOf_active {lun : Nat} (active : (s.lun lun).state = .active) : s.retiredOf lun = s.retiredBlocks lun := by
  rw [State.retiredOf, if_neg (by simp [active])]
  rfl

theorem State.retiredBlocks_setBlock (lun l b : Nat) (y : Block) :
    (s.setBlock l b y).retiredBlocks lun ≤ s.retiredBlocks lun + y.retired.toNat := by
  unfold State.retiredBlocks State.setBlock Tbl.set
  dsimp only
  split
  · exact Nat.le_trans (Tbl.countP_del ..) (Nat.le_add_right ..)
  · refine Nat.le_trans (Tbl.countP_put ..) (Nat.add_le_add_left ?_ _)
    cases y.retired <;> simp [Bool.toNat_le]

theorem Block.Claimed.retired {y z : Block} (h : y.Claimed z) : z.retired = y.retired := by
  obtain ⟨sys, rfl, -⟩ := h
  rfl

theorem State.sysBlock_good {lun : Nat} (room : s.journalRoom lun ≠ []) (i : Nat) : (s.block lun (s.sysBlock lun i)).retired = false := by
  have mem : s.sysBlock lun i ∈ s.journalRoom lun := by
    unfold State.sysBlock
    dsimp only
    have pos : 0 < (s.journalRoom lun).length := List.length_pos_iff.2 room
    have small : i / max 1 s.slcPages % max 1 (s.journalRoom lun).length < (s.journalRoom lun).length := by
      rw [Nat.max_eq_right pos]
      exact Nat.mod_lt _ pos
    rw [← List.getElem_eq_getD (h := small)]
    exact List.getElem_mem small
  have good := (List.mem_filter.1 mem).2
  simp only [Bool.and_eq_true, Bool.not_eq_true'] at good
  exact good.1

/-- The copies of a page go to blocks that are not retired. -/
theorem State.sysPlaces_good (i : Nat) : ∀ m ∈ s.sysPlaces i, (s.block m.1 m.2).retired = false := by
  have room (l : Nat) (mem : l ∈ s.sysLuns) : s.journalRoom l ≠ [] := by
    obtain ⟨e, held, rfl⟩ := List.mem_map.1 mem
    have := (List.mem_filter.1 held).2
    simp only [Bool.and_eq_true, decide_eq_true_eq] at this
    exact this.2
  intro m mem
  unfold State.sysPlaces at mem
  dsimp only at mem
  split at mem
  · cases mem
  next a is =>
    obtain ⟨l, held, rfl⟩ := List.mem_map.1 mem
    refine State.sysBlock_good (room l ?_) i
    rcases List.mem_cons.1 held with rfl | other
    · exact List.mem_of_getElem? is
    · exact (List.mem_filter.mp (List.mem_of_getElem? (Option.mem_toList.1 other))).1

theorem State.closePage_retired (lun : Nat) : s.closePage.retiredBlocks lun ≤ s.retiredBlocks lun := by
  have fold (i : Nat) (ps : List ((Nat × Nat) × Nat)) : ∀ t : State, (∀ e ∈ ps, (t.block e.1.1 e.1.2).retired = false) →
      (ps.foldl (fun a e => (a.useSystem e.1).enqueue e.1.1 (.progSys i e.2) .sys e.1.2 true) t).retiredBlocks lun
        ≤ t.retiredBlocks lun := by
    induction ps with
    | nil => exact fun t _ => Nat.le_refl _
    | cons e ps ih =>
      intro t good
      have one : (t.useSystem e.1).retiredBlocks lun ≤ t.retiredBlocks lun := by
        refine Nat.le_trans (State.retiredBlocks_setBlock ..) ?_
        rw [show ({ t.block e.1.1 e.1.2 with system := true } : Block).retired = false from good e List.mem_cons_self]
        exact Nat.le_refl _
      refine Nat.le_trans (ih _ fun f mem => ?_) one
      exact (Block.Claimed.retired (State.useSystem_block e.1)).trans (good f (List.mem_cons_of_mem _ mem))
  unfold State.closePage
  dsimp only
  split
  · exact Nat.le_refl _
  · refine fold _ _ _ fun e mem => ?_
    exact State.sysPlaces_good (s := s) _ e.1 (List.fst_mem_of_mem_zipIdx mem)

theorem State.journal_retired (r : JRec) (lun : Nat) : (s.journal r).retiredBlocks lun ≤ s.retiredBlocks lun := by
  unfold State.journal
  dsimp only
  split
  · exact State.closePage_retired (s := s.setJournal _) lun
  · exact Nat.le_refl _

/-- A record changes no LUN but its queue. -/
theorem State.journal_lun (r : JRec) (lun : Nat) : ((s.journal r).lun lun).state = (s.lun lun).state ∧
    ((s.journal r).lun lun).cls = (s.lun lun).cls := by
  have queued (a : State) (l : Nat) (kind : OpKind) (cls : OpClass) (b : Nat) (slc : Bool) :
      ((a.enqueue l kind cls b slc).lun lun).state = (a.lun lun).state ∧ ((a.enqueue l kind cls b slc).lun lun).cls = (a.lun lun).cls := by
    unfold State.enqueue State.lun State.setLun
    dsimp only
    by_cases is : lun = l
    · rw [is, Tbl.get_set_same]
      exact ⟨rfl, rfl⟩
    · rw [Tbl.get_set_ne _ _ _ _ is]
      exact ⟨rfl, rfl⟩
  have close (a : State) : (a.closePage.lun lun).state = (a.lun lun).state ∧ (a.closePage.lun lun).cls = (a.lun lun).cls := by
    unfold State.closePage
    dsimp only
    split
    · exact ⟨rfl, rfl⟩
    · have both := foldl_keeps (fun b : State => ((b.lun lun).state, (b.lun lun).cls))
        (g := fun b (e : (Nat × Nat) × Nat) => (b.useSystem e.1).enqueue e.1.1 (.progSys a.store.journal.next e.2) .sys e.1.2 true)
        (fun b e => Prod.ext (queued (b.useSystem e.1) ..).1 (queued (b.useSystem e.1) ..).2)
      exact ⟨congrArg (·.1) (both _ _), congrArg (·.2) (both _ _)⟩
  unfold State.journal
  dsimp only
  split
  · exact close _
  · exact ⟨rfl, rfl⟩

theorem State.lunBlocks_of_flash {t : State} {lun : Nat} (cls : (t.lun lun).cls = (s.lun lun).cls)
    (classes : t.flash.classes = s.flash.classes) : t.lunBlocks lun = s.lunBlocks lun := by
  rw [State.lunBlocks, State.lunBlocks, State.profile, State.profile, cls, classes]

theorem State.journal_lunBlocks (r : JRec) (lun : Nat) : (s.journal r).lunBlocks lun = s.lunBlocks lun :=
  State.lunBlocks_of_flash (State.journal_lun r lun).2 (State.journal_classes s r)

/-- What spare blocks that leave some behind change: the pool, and records. -/
theorem State.takeSpares_quiet {i : Nat} (left : i < s.cfg Obj.spareRemaining) : (s.takeSpares i).flash = s.flash ∧
    ∀ q : ObjRow, q.other 0 0 Obj.dropped → q.other 0 0 Obj.suppressedTotal → q.other 0 0 Obj.spareRemaining →
      (s.takeSpares i).cfg q = s.cfg q := by
  unfold State.takeSpares
  dsimp only
  rw [if_neg (show ¬ s.cfg Obj.spareRemaining - i = 0 by omega)]
  refine ⟨?_, fun q lost suppressed other => ?_⟩
  · (repeat' split) <;> simp
  · have records (a : State) (code : Nat) (ps : List Nat) : (a.record code ps).cfg q = a.cfg q :=
      State.cfg_record _ _ _ _ _ _ _ _ lost suppressed
    have events (a : State) (l : List Nat) (e : AsyncEvent) : (a.raiseAll l e).cfg q = a.cfg q := State.cfg_of_force (by simp) ..
    have kept (v : Nat) : (s.keep Obj.spareRemaining v).cfg q = s.cfg q := State.cfg_keep_ne _ _ _ _ _ _ _ _ other
    (repeat' split) <;> simp only [records, events, kept]

theorem State.spareOne_quiet (left : 2 ≤ s.cfg Obj.spareRemaining) : s.spareOne.flash = s.flash ∧
    s.spareOne.cfg Obj.lunWearoutPct = s.cfg Obj.lunWearoutPct ∧
    s.spareOne.cfg Obj.blocksRetired = (s.bump Obj.blocksRetired).cfg Obj.blocksRetired := by
  obtain ⟨flash, kept⟩ := State.takeSpares_quiet (s := s.bump Obj.blocksRetired) (i := 1)
    (by rw [State.cfg_bump_ne _ _ _ _ _ _ _ _ (by decide)]; omega)
  refine ⟨flash, ?_, kept _ (by unfold ObjRow.other; decide) (by unfold ObjRow.other; decide) (by unfold ObjRow.other; decide)⟩
  rw [State.spareOne, kept _ (by unfold ObjRow.other; decide) (by unfold ObjRow.other; decide) (by unfold ObjRow.other; decide)]
  exact State.cfg_bump_ne _ _ _ _ _ _ _ _ (by decide)

/-- A block that is retired and recorded. -/
def State.blockOut (s : State) (l b : Nat) : State :=
  (s.setBlock l b { s.block l b with retired := true, eraseDue := false }).journal (.block 3 l b (s.block l b).erases)

section
variable {l b : Nat}

theorem State.blockOut_keeps : (s.blockOut l b).store.ns = s.store.ns ∧ (s.blockOut l b).store.stripes = s.store.stripes ∧
    ((s.blockOut l b).lun l).state = (s.lun l).state ∧ (s.blockOut l b).lunBlocks l = s.lunBlocks l ∧
    (s.blockOut l b).retiredBlocks l ≤ s.retiredBlocks l + 1 ∧ (s.blockOut l b).dict = s.dict :=
  ⟨State.journal_ns .., State.journal_stripes .., (State.journal_lun ..).1, State.journal_lunBlocks ..,
    Nat.le_trans (State.journal_retired ..) (State.retiredBlocks_setBlock ..), by simp [State.blockOut]⟩

theorem State.relocateFirst_none {y : Block} (none_ : y.stripe = none) : s.relocateFirst y = s := by
  unfold State.relocateFirst
  rw [none_]

theorem State.dropErases_keeps (gone : Nat × Nat → Bool) : (s.dropErases gone).flash = s.flash ∧
    (s.dropErases gone).store.blocks = s.store.blocks ∧ (s.dropErases gone).store.ns = s.store.ns ∧
    (s.dropErases gone).store.stripes = s.store.stripes := ⟨rfl, rfl, rfl, rfl⟩

theorem State.dropErases_cfg (gone : Nat × Nat → Bool) {q : ObjRow} (other : q.other 0 0 Obj.secureErasePending) :
    (s.dropErases gone).cfg q = s.cfg q := State.cfg_keep_ne _ _ _ _ _ _ _ _ other

theorem State.cfg_of_dict {t : State} (same : t.dict = s.dict) (q : ObjRow) : t.cfg q = s.cfg q :=
  State.cfg_of_force (congrArg Dict.force same) ..

/-- A block of no stripe on a LUN that does not wear out over it is retired, and nothing but it. -/
theorem State.retireBlock_eq (good : (s.block l b).retired = false) (alone : (s.block l b).stripe = none)
    (active : (s.lun l).state = .active) (left : 2 ≤ s.cfg Obj.spareRemaining)
    (wears : 100 * (s.retiredBlocks l + 1) ≤ s.lunBlocks l * s.cfg Obj.lunWearoutPct) :
    s.retireBlock l b = ((s.blockOut l b).spareOne).dropErases fun e => e = (l, b) := by
  obtain ⟨-, -, state, blocks, count, dict⟩ := State.blockOut_keeps (s := s) (l := l) (b := b)
  have left1 : 2 ≤ (s.blockOut l b).cfg Obj.spareRemaining := by rw [State.cfg_of_dict dict]; exact left
  obtain ⟨-, store, -⟩ := State.spareOne_left left1
  obtain ⟨flash, pct, -⟩ := State.spareOne_quiet left1
  unfold State.retireBlock
  extract_lets y s1 s2 s3
  have s3_is : s3 = ((s.blockOut l b).spareOne).dropErases fun e => e = (l, b) := by
    show (s2.relocateFirst y).dropErases _ = _
    rw [State.relocateFirst_none alone]
    rfl
  have flash3 : s3.flash = (s.blockOut l b).flash := by
    rw [s3_is, (State.dropErases_keeps _).1]
    exact flash
  have lun3 : s3.lun l = (s.blockOut l b).lun l := congrArg (fun f : Flash => Tbl.get Lun.none f.luns l) flash3
  have blocks3 : s3.lunBlocks l = s.lunBlocks l :=
    (State.lunBlocks_of_flash (congrArg Lun.cls lun3) (congrArg Flash.classes flash3)).trans blocks
  have pct3 : s3.cfg Obj.lunWearoutPct = s.cfg Obj.lunWearoutPct := by
    rw [s3_is, State.dropErases_cfg _ (by unfold ObjRow.other; decide)]
    exact pct.trans (State.cfg_of_dict dict _)
  have count3 : s3.retiredOf l ≤ s.retiredBlocks l + 1 := by
    rw [State.retiredOf_active (by rw [lun3, state, active])]
    have held : s3.store.blocks = (s.blockOut l b).store.blocks := by
      rw [s3_is, (State.dropErases_keeps _).2.1, store]
    rw [State.retiredBlocks, held]
    exact count
  rw [if_neg (by simp [y, good, active]), if_neg, s3_is]
  rw [blocks3, pct3]
  omega

end

/-! ### A target is abandoned (R200) -/

theorem State.restartSource_ns (i : Nat) : (s.restartSource i).store.ns = s.store.ns := by
  unfold State.restartSource
  split <;> rfl

theorem State.restartSource_none {id : Nat} (none_ : s.stripe? id = none) (i : Nat) : (s.restartSource i).stripe? id = none := by
  unfold State.restartSource
  split
  next q is =>
    have apart : id ≠ i := by
      rintro rfl
      exact absurd (is.symm.trans none_) (by simp)
    exact (State.stripe_setStripe_ne s { q with restarts := q.restarts + 1, copying := false } apart).trans none_
  next => exact none_

/-- A source that has started again at least as often as another time. -/
def Stripe.Restarted (q p : Stripe) : Prop := q.restarts < p.restarts ∧ p.copying = false

/-- A stripe that starts again has done so once more. -/
theorem State.restartSource_same {i : Nat} {q : Stripe} (is : s.stripe? i = some q) :
    ∃ p, (s.restartSource i).stripe? i = some p ∧ q.Restarted p := by
  refine ⟨{ q with restarts := q.restarts + 1, copying := false }, ?_, Nat.lt_succ_self _, rfl⟩
  unfold State.restartSource
  simp only [is]
  exact State.stripe_setStripe_same ..

theorem State.restartSource_ne {i j : Nat} (apart : i ≠ j) : (s.restartSource j).stripe? i = s.stripe? i := by
  unfold State.restartSource
  split
  next q _ => exact State.stripe_setStripe_ne s { q with restarts := q.restarts + 1, copying := false } apart
  next => rfl

theorem foldl_restartSource_keeps {i : Nat} {q p : Stripe} (l : List Nat) (is : s.stripe? i = some p) (once : q.Restarted p) :
    ∃ p, (l.foldl State.restartSource s).stripe? i = some p ∧ q.Restarted p := by
  induction l generalizing s p with
  | nil => exact ⟨p, is, once⟩
  | cons j l ih =>
    by_cases same : i = j
    · subst same
      obtain ⟨p', is', more⟩ := State.restartSource_same is
      exact ih is' ⟨Nat.lt_trans once.1 more.1, more.2⟩
    · exact ih ((State.restartSource_ne same).trans is) once

theorem foldl_restartSource_restarts {i : Nat} {q : Stripe} (l : List Nat) (mem : i ∈ l) (is : s.stripe? i = some q) :
    ∃ p, (l.foldl State.restartSource s).stripe? i = some p ∧ q.Restarted p := by
  induction l generalizing s with
  | nil => cases mem
  | cons j l ih =>
    by_cases same : i = j
    · subst same
      obtain ⟨p, is', once⟩ := State.restartSource_same is
      exact foldl_restartSource_keeps l is' once
    · exact ih ((List.mem_cons.1 mem).resolve_left same) ((State.restartSource_ne same).trans is)

theorem State.restartSource_cfg (i : Nat) : (s.restartSource i).cfg Obj.blocksRetired = s.cfg Obj.blocksRetired := by
  unfold State.restartSource
  split
  · exact State.cfg_bump_ne _ _ _ _ _ _ _ _ (by decide)
  · rfl

/-- A target that is gone, and the block that failed of no stripe any more. -/
def State.targetGone (s : State) (id : Nat) (m : Nat × Nat) : State :=
  let s1 := s.journal (.block 4 m.1 m.2 (s.block m.1 m.2).erases)
  let s2 := { s1 with store := { s1.store with stripes := Tbl.del s1.store.stripes id } }
  s2.setBlock m.1 m.2 { s2.block m.1 m.2 with stripe := none }

section
variable {id : Nat} {m : Nat × Nat}

theorem State.targetGone_store : (s.targetGone id m).store.ns = s.store.ns ∧
    (s.targetGone id m).store.stripes = Tbl.del s.store.stripes id ∧ (s.targetGone id m).dict = s.dict :=
  ⟨State.journal_ns .., congrArg (Tbl.del · id) (State.journal_stripes ..), by simp [State.targetGone]⟩

theorem State.targetGone_lun : ((s.targetGone id m).lun m.1).state = (s.lun m.1).state ∧
    (s.targetGone id m).lunBlocks m.1 = s.lunBlocks m.1 :=
  ⟨(State.journal_lun ..).1, State.journal_lunBlocks ..⟩

/-- A block that leaves its stripe. -/
theorem State.unstriped_block {l c : Nat} (good : (s.block l c).retired = false) :
    ((s.setBlock l c { s.block l c with stripe := none }).block l c).retired = false ∧
    ((s.setBlock l c { s.block l c with stripe := none }).block l c).stripe = none ∧
    (s.setBlock l c { s.block l c with stripe := none }).retiredBlocks l ≤ s.retiredBlocks l := by
  rw [State.block_setBlock_same]
  refine ⟨good, rfl, Nat.le_trans (State.retiredBlocks_setBlock ..) ?_⟩
  rw [show ({ s.block l c with stripe := none } : Block).retired = false from good]
  exact Nat.le_refl _

theorem State.targetGone_block (good : (s.block m.1 m.2).retired = false) :
    ((s.targetGone id m).block m.1 m.2).retired = false ∧ ((s.targetGone id m).block m.1 m.2).stripe = none ∧
    (s.targetGone id m).retiredBlocks m.1 ≤ s.retiredBlocks m.1 := by
  have still : ((s.journal (.block 4 m.1 m.2 (s.block m.1 m.2).erases)).block m.1 m.2).retired = false :=
    (Block.Claimed.retired (State.journal_block _)).trans good
  obtain ⟨out, alone, count⟩ := State.unstriped_block (s := { s.journal (.block 4 m.1 m.2 (s.block m.1 m.2).erases) with
    store := { (s.journal (.block 4 m.1 m.2 (s.block m.1 m.2).erases)).store with
      stripes := Tbl.del (s.journal (.block 4 m.1 m.2 (s.block m.1 m.2).erases)).store.stripes id } }) still
  exact ⟨out, alone, Nat.le_trans count (State.journal_retired _ m.1)⟩

/-- A target without its failed block, whose other blocks are queued for erase and whose copies are dropped. -/
def State.targetSwept (s : State) (t : Stripe) (m : Nat × Nat) : State :=
  (((t.members.filter (· ≠ m)).foldl (fun a e => a.queueErase e.1 e.2) s).dropCopies (fun w => match w with
    | .copy i _ _ => t.sources.contains i
    | .rebuild _ _ _ => false
    | .sample _ _ => false
    | .darn _ => false) t.sources)

theorem State.targetSwept_keeps (t : Stripe) : (s.targetSwept t m).store.ns = s.store.ns ∧
    (s.targetSwept t m).store.stripes = s.store.stripes ∧ (s.targetSwept t m).dict = s.dict := by
  refine ⟨foldl_keeps (fun a : State => a.store.ns) (fun a e => by simp) _ s,
    foldl_keeps (fun a : State => a.store.stripes) (fun a e => by simp) _ s, by simp [State.targetSwept]⟩

theorem State.abandonTarget_eq {t : Stripe} (here : s.stripe? id = some t) {j : Nat} (is : m = t.members.getD j (0, 0)) :
    s.abandonTarget id j = t.sources.foldl State.restartSource (((s.targetGone id m).retireBlock m.1 m.2).targetSwept t m) := by
  subst is
  unfold State.abandonTarget
  rw [here]
  rfl

/-- What an abandoned target leaves (R200). -/
theorem State.abandonTarget_leaves {t : Stripe} {j : Nat} (here : s.stripe? id = some t) (is : m = t.members.getD j (0, 0))
    (active : (s.lun m.1).state = .active) (good : (s.block m.1 m.2).retired = false) (left : 2 ≤ s.cfg Obj.spareRemaining)
    (counts : s.cfg Obj.blocksRetired < 2 ^ 32 - 1)
    (wears : 100 * (s.retiredOf m.1 + 1) ≤ s.lunBlocks m.1 * s.cfg Obj.lunWearoutPct) :
    (s.abandonTarget id j).stripe? id = none ∧ (s.abandonTarget id j).store.ns = s.store.ns ∧
    (s.abandonTarget id j).cfg Obj.blocksRetired = s.cfg Obj.blocksRetired + 1 ∧
    ∀ i ∈ t.sources, i ≠ id → ∀ q, s.stripe? i = some q → ∃ p, (s.abandonTarget id j).stripe? i = some p ∧ q.Restarted p := by
  rw [State.abandonTarget_eq here is]
  obtain ⟨ns0, stripes0, dict0⟩ := State.targetGone_store (s := s) (id := id) (m := m)
  obtain ⟨state0, blocks0⟩ := State.targetGone_lun (s := s) (id := id) (m := m)
  obtain ⟨good0, alone0, count0⟩ := State.targetGone_block (id := id) good
  have left0 : 2 ≤ (s.targetGone id m).cfg Obj.spareRemaining := by rw [State.cfg_of_dict dict0]; exact left
  have wears0 : 100 * ((s.targetGone id m).retiredBlocks m.1 + 1)
      ≤ (s.targetGone id m).lunBlocks m.1 * (s.targetGone id m).cfg Obj.lunWearoutPct := by
    rw [blocks0, State.cfg_of_dict dict0]
    rw [State.retiredOf_active active] at wears
    omega
  have retires := State.retireBlock_eq good0 alone0 (state0.trans active) left0 wears0
  have bumped : ((s.targetGone id m).retireBlock m.1 m.2).cfg Obj.blocksRetired = s.cfg Obj.blocksRetired + 1 := by
    obtain ⟨-, -, -, -, -, dict1⟩ := State.blockOut_keeps (s := s.targetGone id m) (l := m.1) (b := m.2)
    have same : ((s.targetGone id m).blockOut m.1 m.2).cfg Obj.blocksRetired = s.cfg Obj.blocksRetired :=
      (State.cfg_of_dict dict1 _).trans (State.cfg_of_dict dict0 _)
    rw [retires, State.dropErases_cfg _ (by unfold ObjRow.other; decide),
      (State.spareOne_quiet (by rw [State.cfg_of_dict dict1]; exact left0)).2.2, State.cfg_bump_same, same]
    rw [same]
    have top : Obj.blocksRetired.top = 2 ^ 32 - 1 := by decide
    omega
  have kept : ((s.targetGone id m).retireBlock m.1 m.2).store.ns = s.store.ns ∧
      ((s.targetGone id m).retireBlock m.1 m.2).store.stripes = Tbl.del s.store.stripes id := by
    obtain ⟨ns1, stripes1, -, -, -, dict1⟩ := State.blockOut_keeps (s := s.targetGone id m) (l := m.1) (b := m.2)
    obtain ⟨-, store1, -⟩ := State.spareOne_left (s := (s.targetGone id m).blockOut m.1 m.2) (by rw [State.cfg_of_dict dict1]; exact left0)
    rw [retires, (State.dropErases_keeps _).2.2.1, (State.dropErases_keeps _).2.2.2, store1]
    exact ⟨ns1.trans ns0, stripes1.trans stripes0⟩
  generalize (s.targetGone id m).retireBlock m.1 m.2 = u at bumped kept
  obtain ⟨ns2, stripes2, dict2⟩ := u.targetSwept_keeps (m := m) t
  rw [kept.1] at ns2
  rw [kept.2] at stripes2
  rw [← State.cfg_of_dict dict2] at bumped
  generalize u.targetSwept t m = v at ns2 stripes2 bumped
  refine ⟨?_, (foldl_keeps (fun a : State => a.store.ns) (fun a i => State.restartSource_ns i) _ v).trans ns2,
    (foldl_keeps (fun a : State => a.cfg Obj.blocksRetired) (fun a i => State.restartSource_cfg i) _ v).trans bumped,
    fun i mem apart q was => ?_⟩
  · have none_ : v.stripe? id = none := (congrArg (Tbl.find · id) stripes2).trans (Tbl.find_del_same ..)
    exact List.foldlRecOn (motive := fun a : State => a.stripe? id = none) _ _ none_ fun a h i _ => State.restartSource_none h i
  · have held : v.stripe? i = some q := (congrArg (Tbl.find · i) stripes2).trans ((Tbl.find_del_ne _ apart).trans was)
    exact foldl_restartSource_restarts _ mem held

end

end

/-- Settles O28: what lies on flash is what the slot's program wrote, a slot given up leaves its entry and its commands lost, and
an abandoned target leaves every entry, one block more retired, and its sources started again. -/
theorem programsEndAndFailuresAreContained : Obligations.ProgramsEndAndFailuresAreContained := by
  unfold Obligations.ProgramsEndAndFailuresAreContained
  refine ⟨fun k x loc n s there runs live ns => ⟨?_, State.unitDone_media, State.unitDone_programmed ns⟩,
    fun k x s there fills => ⟨?_, ?_⟩, fun k x loc s there runs => rfl,
    fun k x loc n s there runs live tries ns plain => ?_,
    fun nsid u src dst x s ns => ⟨State.relocate_stays ns, State.relocate_moves ns⟩,
    fun id t s here moved still => ?_, fun id k t m s here is alone active good left counts wears => ?_⟩
  · show execUnitProgramDone k s = _
    simp [execUnitProgramDone, there, runs, live]
  · show execUnitProgramDone k s = _
    simp [execUnitProgramDone, there, fills]
  · show Host.Outcome.next (s.programFails k).settleAll = _
    simp [State.programFails, there, fills]
  · rw [State.placeAgain_givesUp there runs live tries]
    exact State.giveUpSlot_lost (s := s.doneSeq x.wseq) there ns plain
  · obtain ⟨u, ran, cleared⟩ := execTargetStripeComplete_clears here moved still
    exact ⟨u, ran, fun _ _ => cleared⟩
  · obtain ⟨gone, ns, retired, restarted⟩ := State.abandonTarget_leaves here is active good left counts wears
    have none_ : s.store.replacing.find? (fun r => r.1 = id && r.2.1 = k) = none := by
      rw [List.find?_eq_none]
      exact fun r mem => by simpa using alone r mem
    have ran : exec (.targetProgramFailure id k) s = .next (s.abandonTarget id k) := by
      show Host.Outcome.next (s.targetFails id k) = _
      rw [State.targetFails, none_]
    exact ⟨_, ran, gone, fun n => congrArg (Tbl.find · n) ns, retired, restarted⟩

end Sys2Proof.Machine
end
